-- ==== Sys2Proof/Word.lean ====
section
/-! DEFINITION. The plainest data of the model: an object key, a sparse table, a field of a frame. -/

namespace Sys2Proof

/-- The address of one stored value: class, instance, member of an object number (R13), and the element index of a
TABLE (R413; 0 for every other object). Tables of the machine's own units use the key of the unit's number. -/
structure Key where
  c : Nat
  i : Nat
  m : Nat
  x : Nat
  deriving DecidableEq, Repr

/-- A sparse table: pairs with strictly rising keys, none of them holding what an unlisted key reads as
(the canonical form is `Machine.Map.wf`). -/
abbrev Map (α : Type) := List (Key × α)

/-- One field of a payload or of an event record: its width in bytes and its unsigned big-endian value (R414). -/
structure Fld where
  w : Nat
  v : Nat
  deriving DecidableEq, Repr

end Sys2Proof
end

