-- ==== Sys2Proof/Syntax.lean ====
section
/-! DEFINITION. The commands of the block: one constructor per row of spec/opcode_table.json, with the row's operands. Quantities
that reach the block from outside it (measured powers, decoded frames, run lengths of a condition, the words of a tick) are operands. -/

namespace Sys2Proof

/-- The header of a Quemus request (R418) and how it arrived: by the PCIe mailbox (`slot` none) or in a Vyusk request slot (R442). -/
structure Rq where
  slot : Option (Fin 8) := none
  ver : Nat := 1
  session : Nat := 0
  txid : Nat := 0
  /-- FLAGS [4]: the frame carries a trailer, which frames on PCIe do not (R433); its COUNTER and the 8 tag bytes -/
  auth : Bool := false
  counter : Nat := 0
  tag : Nat := 0
  /-- the payload has the length of its opcode, where the operands of a row do not show it (R419) -/
  lenOk : Bool := true
  /-- header and payload as sent, which the tag covers -/
  frame : List Fld := []
  deriving DecidableEq, Repr

/-- The value a write carries: its payload length in bytes, and the value. -/
structure Val where
  len : Nat
  v : Nat
  deriving DecidableEq, Repr

/-- The six quantities that background calibration corrects (R63), and the dark offsets of the ADCs (R68, R75). -/
inductive CalQuantity where
  | gain | offset | timing | iqSkew | response | polSkew | darkOffset
  deriving DecidableEq, Repr

/-- One corrected coefficient: its kind, whether it is traced to the absolute reference (R65), and where it lies in the image of R75. -/
structure Coefficient where
  kind : CalQuantity
  absolute : Bool
  offset : Nat
  bytes : Nat
  value : Nat
  deriving DecidableEq, Repr

/-- A position a hunter tests: symbol position, symbol errors per subcarrier (mean, rounded up), and metric in 0.01 dB (R105). -/
structure SyncTest where
  pos : Nat
  errors : Nat
  metric : Int
  deriving DecidableEq, Repr

/-- What meets a criterion of dLOL (R119, R467). -/
inductive LolCause where
  /-- pilot decision-error ratio in 0.001, above it for this many ticks of VALID -/
  | pilots (ratio ticks : Nat)
  /-- consecutive sync positions that failed to match -/
  | sync (misses : Nat)
  /-- an uncorrectable receive-coefficient page -/
  | store
  deriving DecidableEq, Repr

/-- Why a decoder core fails (R130): 1 deadline, 2 parity, 3 test. -/
inductive CoreCause where
  | deadline | parity | test
  deriving DecidableEq, Repr

/-- An L frame at the deframer (R139, R140): bit position of its FAS, its first 32 bytes as one big-endian number, and the bytes of its payload
area, all as received (everything after byte 5 scrambled). -/
structure LFrame where
  pos : Nat
  head : Nat
  payload : List Nat := []
  deriving DecidableEq, Repr

/-- Section monitoring of one OTUC instance in a frame (R148): the instance 1 to 128 of the OTUCn-M, the 64-byte TTI that stands accepted, the
BIP-8 violations, the BDI and IAE bits, and where a one-second interval of G.798 ends with the frame, its errored blocks. -/
structure SmState where
  inst : Nat
  tti : Nat
  bip : Nat
  bdi : Bool
  iae : Bool
  second : Option Nat := none
  deriving DecidableEq, Repr

/-- An OTUCn-M frame at the OTUC check (R147): the FAS of every instance, its MFAS, the state of dLOM as G.798 gives it, and the section
monitoring of each instance. -/
structure OtucFrame where
  fasOk : Bool
  mfas : Nat
  lom : Bool
  sm : List SmState
  deriving DecidableEq, Repr

/-- A record of an OHP frame (R158): OHP channel and GCC bytes. -/
structure OhpRecord where
  channel : Nat
  bytes : List Nat
  deriving DecidableEq, Repr

/-- What a route's channel did on the line in the tick of an OHP frame: the bytes received, and how many it sent. -/
structure GccBytes where
  route : Nat
  bytes : List Nat
  deriving DecidableEq, Repr

/-- A slot-move message (R266): its place k in the multiframe, and its 16 bytes. -/
structure SmxMessage where
  place : Fin 32
  bytes : Nat
  deriving DecidableEq, Repr

/-- An LCR message of G.7044 (R265): whether it adds (else removes) slots, the connection's TPN, the slots it names, and whether the far
end answers NACK or reports a failure. -/
structure LcrMessage where
  add : Bool
  tpn : Nat
  first : Nat
  count : Nat
  nack : Bool
  /-- the multiframe of the resize that the handshake fixes -/
  multiframe : Nat
  deriving DecidableEq, Repr

/-- What a source mapper has for a connection in a tick (R185, R210, R211): which copy of a protected source it is, the words of client data in
order, the bytes used in the last one, and whether the container's own standard declares AIS in it (R184: dLOP, pointer dAIS, ODU-AIS). -/
structure ConnWords where
  conn : Nat
  protect : Bool := false
  words : List Nat := []
  bytes : Nat := 4
  ais : Bool := false
  /-- places of the words that hold blocks of a codeword which the RS-FEC could not correct (R175) -/
  errored : List Nat := []
  /-- places, in bytes, at which row 4, column 9 of an ODU frame falls (R156) -/
  frames : List Nat := []
  deriving DecidableEq, Repr

/-- A second's counts at a point (R399, R402): blocks and errored blocks of the near and far end, whether the far end signals a defect
(BDI, RDI), and for an engine its corrected and received code bits. -/
structure PmCount where
  point : Nat
  blocks : Nat := 0
  errored : Nat := 0
  farBlocks : Nat := 0
  farErrored : Nat := 0
  farDefect : Bool := false
  corrected : Nat := 0
  bits : Nat := 0
  deriving DecidableEq, Repr

/-- A signal-degrade window at a point (R407): corrected bits of received bits, or errored blocks of blocks. -/
structure SdWindow where
  point : Nat
  errored : Nat
  of : Nat
  deriving DecidableEq, Repr

/-- DMp in the received ODU of a TPN (R377). -/
structure DmpIn where
  engine : Fin 4
  tpn : Nat
  value : Bool
  deriving DecidableEq, Repr

/-- What the ADCs, or the equaliser, of an engine give Loupe in a tick (R394): the blocks of 256 that end in it, each the 256 samples of the channels XI,
XQ, YI and YQ, or the 256 symbols of each subcarrier, as numbers of 256 or 1,024 bytes; `kept` is false where the HBM could not take the record. -/
structure LoupeIn where
  blocks : List (List Nat)
  kept : Bool := true
  deriving DecidableEq, Repr

/-- A defect change that a standard fixes (R178, R179, R183, R184, R276): the code of R570, its instance, and whether it is declared. -/
structure StdDefect where
  code : Nat
  inst : Nat
  on : Bool
  deriving DecidableEq, Repr

/-- What the decoder of an engine did in a tick (R136): codewords, the bits it corrected, the codewords it left uncorrected, its iterations, and
in a Z mode the bits it received (in an L mode the length of the codewords gives them, R126). -/
structure FecCount where
  engine : Fin 4
  codewords : Nat := 0
  corrected : Nat := 0
  bits : Nat := 0
  uncorrected : Nat := 0
  iterations : Nat := 0
  /-- monitored points on the engine whose ODU frames have a byte in an uncorrected codeword -/
  marked : List Nat := []
  deriving DecidableEq, Repr

/-- The detectors of an engine, averaged over a tick, in 0.01 dBm (R50, R55, R57). -/
structure OpticsMeas where
  engine : Fin 4
  tx : Int
  rx : Int
  laserTx : Int
  laserLo : Int
  /-- offset of the local tick boundary from the Prism boundary, in ps (R43) -/
  skew : Int := 0
  deriving DecidableEq, Repr

/-- A host lane in a tick (R170, R175, R197): PRBS bit errors, receiver SNR in 0.1 dB, and RS-FEC symbols corrected and codewords
uncorrectable of the client whose first lane it is. -/
structure LaneMeas where
  lane : Fin 64
  prbs : Nat := 0
  snr : Nat := 0
  fecCorr : Nat := 0
  fecUncorr : Nat := 0
  deriving DecidableEq, Repr

/-- What the sections of an STM-N client brought in a tick (R178): the J0 trace, and errors of B1, B2 and the REI count. -/
structure SdhMeas where
  lane : Fin 64
  j0 : Nat := 0
  b1 : Nat := 0
  b2 : Nat := 0
  rei : Nat := 0
  deriving DecidableEq, Repr

/-- What the receiver of an engine in VALID tracks in a tick (R100, R101): CD in ps/nm and carrier offset in MHz. -/
structure RxTrack where
  engine : Fin 4
  cd : Int
  offset : Int
  deriving DecidableEq, Repr

/-- A reference change that commits at this boundary (R358), and for the boundary that ends a second the mean control value in 2⁻⁴⁸ (R360):
the DPLL, the phase error as measured in 0.1 ns, and whether the frequency differs. -/
structure DpllIn where
  dpll : Fin 4
  error : Int := 0
  differs : Bool := false
  mean : Int := 0
  deriving DecidableEq, Repr

/-- What the key store holds on a page that is lost (R466): channel halves by 1,024 × engine + channel, links by engine, session slots, and
entries of QM_ROLE_KEY. -/
structure LostKeys where
  tx : List Nat := []
  rx : List Nat := []
  links : List Nat := []
  sessions : List Nat := []
  roles : List Nat := []
  deriving DecidableEq, Repr

/-- A reader decodes a storage page (R455, R457, R463): the region, the page, the reader's code (R478), the bit positions in error, what a
key-store page holds, and of a DMA channel its number and the address. -/
structure PageRead where
  region : Fin 8
  page : Nat
  reader : Nat
  bits : List Nat
  lost : LostKeys := {}
  channel : Fin 8 := 0
  addr : Nat := 0
  deriving DecidableEq, Repr

/-- An access of the bus matrix that bears on a reservation (R528): the master, the address, and 0 a reserving read, 1 a write, 2 a conditional
write. -/
structure BusAccess where
  master : Nat
  addr : Nat
  kind : Nat
  deriving DecidableEq, Repr

/-- A request slot that the ring master fills in the frame it starts (R443): the slot, and the node addressed. -/
structure RingAsk where
  slot : Fin 8
  node : Fin 64
  deriving DecidableEq, Repr

/-- Section monitoring that a frame of an OTU or OTUC instance of a host client brings (R183): BIP-8 violations, BDI and IAE. -/
structure HostSm where
  client : Fin 64
  inst : Fin 128
  bip : Nat
  bdi : Bool
  iae : Bool
  deriving DecidableEq, Repr

/-- A frame of the ODU or TCM that a host-assigned point monitors (R276, R293): whether it shows AIS, OCI, LCK, a loss of frame or multiframe, or a
trail trace that differs. -/
structure PathFrame where
  point : Nat
  ais : Bool := false
  oci : Bool := false
  lck : Bool := false
  lofLom : Bool := false
  tim : Bool := false
  deriving DecidableEq, Repr

/-- What reaches the block from outside in the tick that a boundary opens. -/
structure TickIn where
  traffic : List ConnWords := []
  /-- input positions, and stripes of the XOR slice, whose words read with a parity error in this tick (R235) -/
  badWords : List Nat := []
  badXor : List Nat := []
  /-- blocks of this tick's page that the fetch stage finds uncorrectable (R241) -/
  badBlocks : List Nat := []
  /-- largest angular speed of the last tick, in rad/s, by engine (R378) -/
  sop : List (Nat × Nat) := []
  loupe : List LoupeIn := []
  dmp : List DmpIn := []
  pm : List PmCount := []
  sd : List SdWindow := []
  std : List StdDefect := []
  hostSm : List HostSm := []
  path : List PathFrame := []
  fec : List FecCount := []
  track : List RxTrack := []
  /-- what the channels routed to the management complex did on the line in the last tick (R157) -/
  gcc : List GccBytes := []
  optics : List OpticsMeas := []
  lanes : List LaneMeas := []
  sdh : List SdhMeas := []
  dplls : List DpllIn := []
  reads : List PageRead := []
  /-- domains a block of which delays an entry in this tick, with the block (R487, R488) -/
  delays : List (Nat × Nat) := []
  /-- events that the performance counters count in this tick (R534): counter in dump-record order, and count -/
  perf : List (Nat × Nat) := []
  /-- the longest hold-back of the bus matrix in this tick, in cycles (R531), and the accesses that bear on reservations -/
  hold : Nat := 0
  bus : List BusAccess := []
  asks : List RingAsk := []
  /-- writes of BAR0 registers that have no row of their own: offset and value (R427) -/
  bar : List (Nat × Nat) := []
  deriving DecidableEq, Repr

/-- The lanes of a client and their rate code, for the client types that the type alone does not fix: FlexE PHY, OTUCn and
expansion link (R173, R176, R183, R188). -/
structure LaneSet where
  lanes : List Nat := []
  rate : Nat := 0
  deriving DecidableEq, Repr

/-- What a client's PCS or framer holds (R172, R184): locked, and its standard's defects. -/
structure PcsState where
  locked : Bool
  blockLock : Bool
  alignment : Bool
  hiBer : Bool
  frame : Bool
  /-- multiframe alignment of an OTU -/
  multiframe : Bool := true
  deriving DecidableEq, Repr

/-- A cell on an expansion lane (R189): its header word, its payload words as they are on the lane, scrambled, and the bit position of the header on
the lane's corrected stream (R191). -/
structure Cell where
  head : Nat
  payload : List Nat
  pos : Nat := 0
  deriving DecidableEq, Repr

/-- The holdover and drift parameters that R362 binds together. -/
inductive HoParam where
  | window (d : Fin 4)
  | guardTime (d : Fin 4)
  | driftWindow
  | driftSoak
  deriving DecidableEq, Repr

/-- What carries a PTP message (R368): Ethernet with its EtherType, or UDP over IPv4 or IPv6 with its destination port. -/
inductive PtpCarrier where
  | ethernet (etherType : Nat)
  | ipv4 (port : Nat)
  | ipv6 (port : Nat)
  deriving DecidableEq, Repr

/-- A PTP event message at a lane's timestamp point (R368, R369): the time of day there in seconds and 0.25 ns, and the message. -/
structure PtpStamp where
  seconds : Nat
  quarters : Nat
  egress : Bool
  message : Nat
  twoStep : Bool
  domain : Nat
  seq : Nat
  port : Nat
  /-- correctionField as received, and the residence time, in 2⁻¹⁶ ns -/
  correction : Int
  residence : Nat
  /-- VLAN tags before the message, what carries it, and its UDP checksum -/
  vlans : Nat := 0
  carrier : PtpCarrier := .ethernet 0x88F7
  checksum : Nat := 0
  deriving DecidableEq, Repr

/-- A received APS or K-byte value, as G.873.1 or G.841 codes it (R296 to R298): the bytes, the request as a code of R286 (13 for a reverse
request), the signals it requests and bridges, whether the value is valid, and whether its protection type fits the group. -/
structure ApsValue where
  raw : Nat
  request : Nat
  requested : Nat
  bridged : Nat
  valid : Bool
  provisioned : Bool
  /-- MFAS of the ODU frame that carried it (R296) -/
  mfas : Nat := 0
  deriving DecidableEq, Repr

/-- A frame of a merged ODU that completes (R305, R306): its sequence where it carries a valid one, and whether it is marked uncorrected,
carries a maintenance signal, or its HBM read was uncorrectable. -/
structure OduFrame where
  seq : Option Nat
  uncorrected : Bool
  maintenance : Bool
  hbmBad : Bool
  deriving DecidableEq, Repr

/-- The parts of an ODU frame that line encryption reads and writes (R321 to R324), as big-endian numbers: row 1, columns 9 to 14; row 4, columns 9
to 13; row 4, column 15; and the 15,232 bytes of its OPU payload in the order of transmission. -/
structure OduBody where
  soh : Nat := 0
  mirror : Nat := 0
  psi : Nat := 0
  payload : Nat := 0
  deriving DecidableEq, Repr

/-- An ODU frame at a transmit half (R323, R325): whether it carries a maintenance signal. -/
structure TxFrame where
  maintenance : Bool
  body : OduBody
  deriving DecidableEq, Repr

/-- A frame of a protected ODU at a receive half (R325, R329): whether it carries a maintenance signal, and how many ticks after this one its
tag's last byte arrives. -/
structure SecFrame where
  body : OduBody
  maintenance : Bool := false
  ticks : Nat := 0
  deriving DecidableEq, Repr

/-- The optical estimates over the preceding second (R374): OSNR in 0.01 dB, CD in ps/nm, DGD in 0.1 ps, PDL in 0.01 dB, in-band signal
power in 0.01 dBm. -/
structure Estimates where
  osnr : Int
  cd : Int
  dgd : Nat
  pdl : Nat
  power : Int
  deriving DecidableEq, Repr

/-- The payload of SESSION OPEN (R431); `len` is its length. -/
structure OpenRequest where
  len : Nat
  role : Nat
  nonce : Nat
  publicKey : Nat
  encapsKey : Nat
  signature : Nat
  deriving DecidableEq, Repr

/-- A ring copy as it passes a node (R438): the port it arrived on, its 1,312 bytes as one number, the first of them the most significant,
and, at the master, the time in ns since the copy was started. -/
structure RingCopy where
  port : Fin 2
  bytes : Nat
  delay : Nat
  /-- the HBM takes the copy's Loupe record, where one is written (R395) -/
  kept : Bool := true
  deriving DecidableEq, Repr

/-- A block that a die-to-die receiver asks to be replayed (R469, R470): link, direction (0 toward Prism), lane group, beats that failed parity,
replays made, and, where 3 replays failed, the connections with a word in the block. `missed` are input positions that missed the write
deadline, `late` the monitored points whose record came a tick late. -/
structure Replay where
  link : Fin 6
  direction : Fin 2
  group : Nat
  beats : Nat
  replays : Nat
  failed : Bool
  conns : List Nat
  missed : List Nat
  late : List Nat
  deriving DecidableEq, Repr

/-- A firmware image as bytes (R513): its length, and its bytes as one big-endian number. -/
structure FwImage where
  len : Nat
  bytes : Nat
  deriving DecidableEq, Repr

/-- What the board holds at the release of PORST_N (R508, R512, R437, R562): BOOT_SRC, VY_ADDR, whether the PCIe link can train, and the images in
the two flash slots (`none` for a slot without one). `qspiOk` is false where a flash read does not complete. -/
structure Board where
  source : Fin 4
  node : Fin 64
  pcie : Bool
  slotA : Option FwImage
  slotB : Option FwImage
  qspiOk : Bool
  deriving DecidableEq, Repr

/-- How steps 8 to 12 of the boot sequence end (R509, R510, R514): the error code (0, 11 REGULATOR, 12 PLL, 13 PRISM) with the rail of code 11,
whether HBM training passed, and the elapsed tick of READY. -/
structure BootEnd where
  error : Nat
  rail : Nat
  hbm : Bool
  tick : Nat
  deriving DecidableEq, Repr

/-- A burst cut short by the reset of its master (R533): master, target, beats committed. -/
structure Burst where
  master : Nat
  target : Nat
  beats : Nat
  deriving DecidableEq, Repr

/-- The commands of the block. -/
inductive Instr where
  -- chapter 01
  | tickBoundary (w : TickIn)
  | tickOverrun (engine : Fin 10) (affected : List Nat)
  | dtickovrClear
  | corePllUnlock
  | tbTickLoad (rq : Rq) (val : Val)
  | tickCounterLoad
  | tbBondCfgWrite (rq : Rq) (val : Val)
  | bondApply
  | singleObjectCommit
  -- chapter 02: powers in 0.01 dBm
  | laserRangeChange (e : Fin 4) (input : Fin 2) (power : Int) (ticks : Nat)
  | lspiXfer (rq : Rq) (e : Fin 4) (val : Val)
  | lspiDone (e : Fin 4) (received : Nat)
  | biasUnlock (e : Fin 4) (loops : Nat)
  | biasRelockRestore (e : Fin 4) (ticks : Nat)
  | txPowerShort (e : Fin 4) (achieved : Int) (ticks : Nat)
  | rxOverload (e : Fin 4) (average : Int) (quietTicks : Nat)
  | lineLosDeclare (e : Fin 4) (power : Int) (ns : Nat)
  | lineLosClear (e : Fin 4) (power : Int) (ticks : Nat)
  | refRangeChange (microvolts : Nat) (calclkPpb : Option Int)
  | bgCalUpdate (e : Fin 4) (coefficients : List Coefficient)
  | calDarkOffset (rq : Rq) (e : Fin 4)
  | calLoopback (rq : Rq) (e : Fin 4)
  | calReference (rq : Rq) (e : Fin 4)
  | calAbort (rq : Rq) (e : Fin 4)
  | calRunStart (e : Fin 4) (power : Int)
  | calComplete (e : Fin 4) (power : Int) (result : List Coefficient)
  | calDeferredCommit
  | calDeferTimeout (e : Fin 4)
  | cnvCalImageWrite (rq : Rq) (e : Fin 4) (val : Val)
  | cnvConverged (e : Fin 4)
  -- chapter 03
  | ldspModeWrite (rq : Rq) (e : Fin 4) (val : Val)
  | ldspSubcarriersWrite (rq : Rq) (e : Fin 4) (val : Val)
  | ldspRolloffWrite (rq : Rq) (e : Fin 4) (val : Val)
  | ldspTxNotchWrite (rq : Rq) (e : Fin 4) (index : Nat) (val : Val)
  | modeCommit
  | txTrafficStart (e : Fin 4)
  | acqRestartNewSignal (rq : Rq) (e : Fin 4)
  | acqRestartCold (rq : Rq) (e : Fin 4)
  | buildDone (e : Fin 4)
  | searchDone (e : Fin 4) (cd : Int) (offset : Int)
  | verifyDone (e : Fin 4)
  | verifyTimeout (e : Fin 4)
  | syncPosition (e : Fin 4) (primary : Option SyncTest) (secondary : Option SyncTest)
  | enterValid (e : Fin 4)
  | acqRetry (e : Fin 4)
  | lolDeclare (e : Fin 4) (cause : LolCause)
  | storedStateExpire (e : Fin 4)
  -- chapter 04
  | decCoreFail (e : Fin 4) (core : Fin 25) (cause : CoreCause) (codewords : Nat)
  | coreStartupTestDone (e : Fin 4) (core : Fin 25) (pass : Bool)
  | fecCoreRetest (rq : Rq) (e : Fin 4) (val : Val)
  | coreRetestDone (e : Fin 4) (core : Fin 25) (pass : Bool)
  | fecfailDeclare (e : Fin 4) (fraction : Nat) (ticks : Nat)
  | fecfailClear (e : Fin 4) (ticks : Nat)
  | lFrameReceive (e : Fin 4) (frame : LFrame)
  | otucFrameCheck (e : Fin 4) (frame : OtucFrame)
  | bondDeskew (group : Fin 3) (offsets : List Nat) (numbered : Bool)
  | ohpFrame (port : Fin 4) (records : List OhpRecord) (received : List GccBytes)
  | ohGccRouteWrite (rq : Rq) (index : Nat) (val : Val)
  -- chapter 05: amplitudes in mV
  | hlRateWrite (rq : Rq) (l : Fin 64) (val : Val)
  | hlTxTimingWrite (rq : Rq) (l : Fin 64) (val : Val)
  | hlPrbsCfgWrite (rq : Rq) (l : Fin 64) (val : Val)
  | laneLocked (l : Fin 64)
  | laneLossOfLock (l : Fin 64)
  | laneLosDeclare (l : Fin 64) (amplitude ns : Nat)
  | laneLosClear (l : Fin 64) (amplitude ticks : Nat)
  | cliTypeWrite (rq : Rq) (l : Fin 64) (val : Val) (set : LaneSet)
  | cliFormWrite (rq : Rq) (l : Fin 64) (val : Val)
  | flexeCalSwitch (g : Fin 8) (calendar : Fin 2)
  | expansionCellReceive (l : Fin 64) (cell : Cell)
  -- chapter 06
  | compileDirty (rq : Rq)
  | compileAll (rq : Rq)
  | compileAbandon (rq : Rq)
  | compileDone
  | compileFail
  | rollbackDone
  | sliceFail (slice : Fin 17) (cause : Fin 2) (errors : Nat)
  | prismSliceRetest (rq : Rq) (val : Val)
  | sliceRetestDone (slice : Fin 17) (pass : Bool)
  | sliceRejoin
  -- chapter 07
  | swap (rq : Rq) (byObject : Bool)
  | swapAt (rq : Rq) (byObject : Bool) (epoch : Nat)
  | prismSwapCancel (rq : Rq)
  | shdRevert (rq : Rq)
  | swapTakeEffect
  | swapAbandon
  | syncDone
  | blockRegenerate (page : Fin 32) (block : Fin 245) (ticks : Nat)
  | smxMessageReceive (e : Fin 4) (message : SmxMessage)
  | smxTargetMultiframe (e : Fin 4) (own : Bool) (count : Nat)
  | lcrMessageReceive (e : Fin 4) (message : LcrMessage)
  | lcrResizeMultiframe (e : Fin 4) (index : Fin 16) (count : Nat)
  | lineChgTimeout (e : Fin 4) (index : Fin 16) (multiframes : Nat)
  | lineChgRetry (rq : Rq) (e : Fin 4) (val : Val)
  -- chapter 08
  | holdoffExpire (g : Fin 65536)
  | wtrExpire (g : Fin 65536)
  | pscHoldExpire (g : Fin 65536)
  | apsReceive (g : Fin 65536) (value : ApsValue)
  | fopMismatchTimeout (g : Fin 65536)
  | remoteRecordReceive (node index : Fin 64) (tick record : Nat)
  | remoteStale (r : Fin 64)
  | mmFrameComplete (m : Fin 2048) (protect : Bool) (frame : OduFrame)
  | mmAutoRetime (m : Fin 2048)
  | mmRetime (rq : Rq) (val : Val)
  | hbmFailure (reads : Option Nat)
  | hbmReturn
  -- chapter 09
  | secMapWrite (rq : Rq) (index : Nat) (val : Val)
  | secRxFrame (e : Fin 4) (ch : Fin 1024) (frame : SecFrame)
  | secTxFrame (e : Fin 4) (ch : Fin 1024) (frame : TxFrame)
  | secRoll (rq : Rq) (e : Fin 4) (val : Val)
  | keySwitch (e : Fin 4) (ch : Fin 1024)
  | secKeyInstall (rq : Rq) (e : Fin 4) (val : Val)
  | secZeroise (rq : Rq) (val : Val)
  | secLinkStart (rq : Rq) (e : Fin 4) (val : Val)
  | kaHello (e : Fin 4) (publicKey nonce : Nat)
  | kaEk (e : Fin 4) (key signature : Nat)
  | kaCt (e : Fin 4) (ciphertext signature : Nat)
  | kaConfirm (e : Fin 4) (value : Nat)
  | kaReady (e : Fin 4) (tpn d epoch check : Nat)
  | kaAbort (e : Fin 4) (cause : Nat)
  | kaTimeout (e : Fin 4)
  | kaRetry (e : Fin 4)
  | linkSecretExpire (e : Fin 4)
  | entropyFail (test : Nat)
  | entropyRecover (windows : Nat)
  | keyDeferredProceed
  -- chapter 10: phases in 0.1 ns, offsets in 10⁻¹², times in ns
  | refFail (r : Fin 20) (missing : Nat)
  | refFailClear (r : Fin 20) (run : Nat)
  | refCheck (r : Fin 20) (offset : Int) (fresh : Bool)
  | refQualify (r : Fin 20)
  | dpllSwitchCommit (d : Fin 4) (error : Int) (differs : Bool)
  | dpllFrequencyLock (d : Fin 4) (ticks : Nat) (error : Int)
  | slewDone (d : Fin 4)
  | xoFail (ppm : Option Nat)
  | xoReturn (ppm ticks : Nat)
  | esmcPduReceive (l : Fin 64) (ssm : Fin 16) (essm : Option Nat)
  | esmcTimeout (r : Fin 20)
  | esmcInfoTx (l : Fin 64)
  | ppsEdge (p : Fin 2) (error : Int)
  | tmTodSet (rq : Rq) (val : Val)
  | todSecondRollover
  | tmDpPhaseAdj (rq : Rq) (d : Fin 4) (val : Val)
  | tmHoParamWrite (rq : Rq) (param : HoParam) (val : Val)
  | ptpTimestamp (l : Fin 64) (stamp : PtpStamp)
  -- chapter 11: speeds in rad/s, time stamps in 0.25 ns
  | measUpdate (e : Fin 4) (estimates : Estimates)
  | rtdMeasure (e : Fin 4) (stamp : Nat)
  | rtdReturn (e : Fin 4) (stamp : Nat)
  | rtdTimeout (e : Fin 4)
  | pscTransientOpen (e : Fin 4) (speed : Nat)
  | pscClassify (e : Fin 4) (speed above : Nat)
  | pscTransientClose (e : Fin 4) (quiet peak : Nat)
  | hkResult (c : Fin 64) (data : Int)
  | hkSeqFire (rq : Rq) (m : Fin 16) (val : Val)
  | hkSeqPeriodTrigger (m : Fin 16)
  | hkSeqEnd (m : Fin 16)
  | hkSeqStepsWrite (rq : Rq) (m : Fin 16) (index : Nat) (val : Val)
  | hkInterleaveWrite (rq : Rq) (val : Val)
  | loupeArm (rq : Rq)
  | loupeAbort (rq : Rq)
  | loupeFire (rq : Rq) (val : Val)
  | loupeTrigger
  | loupeDone
  | pmSecond (counts : List PmCount)
  | pmBinClose (day : Bool)
  | pmSdWindow (w : SdWindow)
  | pmPointWrite (rq : Rq) (p : Nat) (val : Val)
  -- chapter 12
  | read (rq : Rq) (obj index : Nat)
  | write (rq : Rq) (obj index : Nat) (val : Val)
  | writeShadow (rq : Rq) (obj index generation edits : Nat) (val : Val)
  | bulkRead (rq : Rq) (obj first count : Nat)
  | tableWrite (rq : Rq) (obj first count bytes : Nat) (elements : List Nat)
  | subscribeAdd (rq : Rq) (codes : List Nat)
  | subscribeRemove (rq : Rq) (codes : List Nat)
  | subscribeFetch (rq : Rq) (count : Nat)
  | resync (rq : Rq)
  | digestWalk (rq : Rq) (target copy level first count : Nat)
  | sessionOpen (rq : Rq) (request : OpenRequest)
  | sessionClose (rq : Rq)
  | sessionIdleClose (k : Fin 16)
  | nextChunk
  | abandonChunks
  | evqCtlWrite (v base size : Nat)
  | ringCopyReceive (copy : RingCopy)
  | standbyTakeover
  | vyPortFail (port : Fin 2) (lockLost : Bool) (silent : Nat)
  | vyUnwrap (port : Fin 2) (locked frame : Nat)
  -- chapter 13
  | demandScrub (region : Fin 8) (page : Nat)
  | scrubVisit (visit : PageRead) (passEnd : Bool)
  | bucketLeak (region : Fin 8)
  | pageRepairSwitch (region : Fin 8) (page : Nat)
  | uncorrectablePageRepair (page ticks : Nat)
  | sioTWrite (rq : Rq) (region : Fin 8) (val : Val)
  | d2dReplay (replay : Replay)
  | d2dLaneSpare (link : Fin 6) (direction : Fin 2) (group lane errors : Nat)
  | fiArmPrepare (rq : Rq)
  | fiArmConfirm (rq : Rq)
  | fiDisarm (rq : Rq)
  | fiPrepareTimeout
  | fiDurationExpire
  | fiOccurrence (slot : Fin 16) (conns affected : List Nat)
  | fiSlotWrite (rq : Rq) (slot : Nat) (val : Val)
  -- chapter 14: voltages in microvolts
  | pwrDomSleep (rq : Rq) (d : Fin 20)
  | pwrDomWake (rq : Rq) (d : Fin 20)
  | domainEntryHandshake (d : Fin 20) (delaying : Option Nat)
  | entryDelayTimeout (d : Fin 20)
  | domainEntryStepEnd (d : Fin 20)
  | wakeNAssert
  | domainRampDone (d : Fin 20) (failed : List (Fin 3))
  | domainClockSwitch (d : Fin 20)
  | pwrPadRelease (rq : Rq) (d : Fin 20) (val : Val)
  | regulatorAck (rail : Fin 12)
  | regulatorTimeout (rail : Fin 12) (ticks : Nat)
  | pmbAlert (faults : List (Fin 12))
  | pwrRailRetry (rq : Rq) (rail : Fin 12) (val : Val)
  | avsStep (up : Bool)
  | supplyWarning (rail : Fin 12) (voltage samples : Nat)
  | supplyRecover (rail : Fin 12) (voltage minimum ticks : Nat)
  | supplyReset (rail : Fin 12) (voltage samples : Nat)
  | pwrQuiescent (rq : Rq) (val : Val) (wakeN : Bool)
  | quiescentExit (byRing : Bool) (copy : RingCopy)
  -- chapter 15
  | porstNRelease (board : Board)
  | bootReady (ending : BootEnd)
  | fwChunk (rq : Rq) (offset bytes data : Nat)
  | fwEnd (rq : Rq) (length : Nat)
  | pcieLinkLoss (bursts : List Burst)
  | secSvCommit (rq : Rq) (val : Val) (burned : Nat)
  | secOwnerFuse (rq : Rq) (val : Val)
  | secAttestNonce (rq : Rq) (val : Val)
  | attestDone
  | lockstepMismatch (pair : Fin 2)
  | watchdogExpire (pair : Fin 2) (ms : Nat)
  | mcRestart (rq : Rq) (val : Val)
  | warmRestart (bursts : List Burst)
  | warmRestartReady
  | mcFwCheck (rq : Rq) (val : Val)
  | fwCheckDone
  | mcFwProgramSlotA (rq : Rq)
  | mcFwProgramSlotB (rq : Rq)
  | fwProgramDone (ok : Bool)
  | mcFwActivate (rq : Rq) (val : Val)
  | perfCounterOverflow (counter : Fin 96) (count : Nat)
  | perfDump (complete : Option Nat)
  | perfFreeze (rq : Rq)
  | perfResume (rq : Rq)
  -- the last rows of the table
  | biasLoopLock (e : Fin 4) (loops : Nat) (power : Int)
  | clientPcsLockChange (l : Fin 64) (pcs : PcsState)
  | s1Receive (l : Fin 64) (s1 : Fin 16)
  | agreementFrameReceive (e : Fin 4) (lof alignment : Bool)
  | supplyResetRelease (samples : Nat)
  | porstNAssert
  | pcieLinkUp
  | quiescentRailRetry (rail : Fin 12) (ticks : Nat)
  deriving DecidableEq, Repr

end Sys2Proof
end

