-- ==== Sys2Proof/Machine/Events.lean ====
section
/-! DEFINITION. The event and defect codes (R434, R570) and the content each record carries. -/

namespace Sys2Proof.Machine

/-- A row of EV_CATALOGUE: the code, the name, and the widths in bytes of the fields of CONTENT (R434). -/
structure EvRow where
  code : Nat
  name : String
  widths : List Nat
  deriving DecidableEq, Repr

abbrev Ev.CORE_PLL_UNLOCK : EvRow := ⟨1, "EV_CORE_PLL_UNLOCK", []⟩
abbrev Ev.TICK_LOADED : EvRow := ⟨2, "EV_TICK_LOADED", [8, 8]⟩
abbrev Ev.TICK_OVERRUN : EvRow := ⟨3, "EV_TICK_OVERRUN", [2]⟩
abbrev Ev.LASER_RANGE : EvRow := ⟨4, "EV_LASER_RANGE", [2, 2, 4]⟩
abbrev Ev.TX_POWER_SHORT : EvRow := ⟨5, "EV_TX_POWER_SHORT", [2, 4, 4]⟩
abbrev Ev.BIAS_UNLOCK : EvRow := ⟨6, "EV_BIAS_UNLOCK", [2, 4]⟩
abbrev Ev.RX_OVERLOAD : EvRow := ⟨7, "EV_RX_OVERLOAD", [2, 4]⟩
abbrev Ev.REF_RANGE : EvRow := ⟨8, "EV_REF_RANGE", [2, 4]⟩
abbrev Ev.CAL_DONE : EvRow := ⟨9, "EV_CAL_DONE", [2, 2]⟩
abbrev Ev.CAL_ABORT : EvRow := ⟨10, "EV_CAL_ABORT", [2, 2, 2]⟩
abbrev Ev.MODE_APPLIED : EvRow := ⟨11, "EV_MODE_APPLIED", [2, 2, 2, 2, 2]⟩
abbrev Ev.ACQ_CONFIRMED : EvRow := ⟨12, "EV_ACQ_CONFIRMED", [2, 2, 8, 4]⟩
abbrev Ev.ACQ_VALID : EvRow := ⟨13, "EV_ACQ_VALID", [2, 2, 8]⟩
abbrev Ev.ACQ_PREEMPT : EvRow := ⟨14, "EV_ACQ_PREEMPT", [2, 4, 4, 2]⟩
abbrev Ev.ACQ_RETRY : EvRow := ⟨15, "EV_ACQ_RETRY", [2, 2, 8]⟩
abbrev Ev.LOL : EvRow := ⟨16, "EV_LOL", [2, 2]⟩
abbrev Ev.SYNC_RIVAL : EvRow := ⟨17, "EV_SYNC_RIVAL", [2, 4, 4]⟩
abbrev Ev.DEC_CORE_FAIL : EvRow := ⟨18, "EV_DEC_CORE_FAIL", [2, 2, 2]⟩
abbrev Ev.DEC_CORE_RESTORED : EvRow := ⟨19, "EV_DEC_CORE_RESTORED", [2, 2, 8]⟩
abbrev Ev.FEC_LIMIT : EvRow := ⟨20, "EV_FEC_LIMIT", [2, 2, 2, 8]⟩
abbrev Ev.LOF : EvRow := ⟨21, "EV_LOF", [2, 2]⟩
abbrev Ev.LOA : EvRow := ⟨22, "EV_LOA", [2, 2, 4]⟩
abbrev Ev.GCC_OVERFLOW : EvRow := ⟨23, "EV_GCC_OVERFLOW", [2, 2, 2]⟩
abbrev Ev.HL_STATE : EvRow := ⟨24, "EV_HL_STATE", [2, 2, 2]⟩
abbrev Ev.CLI_FAIL : EvRow := ⟨25, "EV_CLI_FAIL", [2, 4]⟩
abbrev Ev.FLEXE_CAL : EvRow := ⟨26, "EV_FLEXE_CAL", [2, 2, 2]⟩
abbrev Ev.LCD : EvRow := ⟨27, "EV_LCD", [2, 2, 8]⟩
abbrev Ev.TICKMM : EvRow := ⟨28, "EV_TICKMM", [2, 8, 8]⟩
abbrev Ev.SLICE_FAIL : EvRow := ⟨29, "EV_SLICE_FAIL", [2, 2, 2]⟩
abbrev Ev.SLICE_RESTORED : EvRow := ⟨30, "EV_SLICE_RESTORED", [2]⟩
abbrev Ev.COMPILE_DONE : EvRow := ⟨31, "EV_COMPILE_DONE", [8, 8]⟩
abbrev Ev.COMPILE_FAIL : EvRow := ⟨32, "EV_COMPILE_FAIL", [2, 4]⟩
abbrev Ev.CM_UNCORR : EvRow := ⟨33, "EV_CM_UNCORR", [2, 2, 2]⟩
abbrev Ev.SWAP : EvRow := ⟨34, "EV_SWAP", [8, 4, 2]⟩
abbrev Ev.SWAP_CANCELLED : EvRow := ⟨35, "EV_SWAP_CANCELLED", [8]⟩
abbrev Ev.SWAP_DEFERRED : EvRow := ⟨36, "EV_SWAP_DEFERRED", [2, 8]⟩
abbrev Ev.SWAP_ABANDONED : EvRow := ⟨37, "EV_SWAP_ABANDONED", [8]⟩
abbrev Ev.SYNC_DONE : EvRow := ⟨38, "EV_SYNC_DONE", [8, 8, 8]⟩
abbrev Ev.LINE_CHG_DONE : EvRow := ⟨39, "EV_LINE_CHG_DONE", [2, 4, 2]⟩
abbrev Ev.LINE_CHG_FAIL : EvRow := ⟨40, "EV_LINE_CHG_FAIL", [2, 4, 2, 2]⟩
abbrev Ev.PG_SWITCH : EvRow := ⟨41, "EV_PG_SWITCH", [2, 2, 2]⟩
abbrev Ev.PG_FOP : EvRow := ⟨42, "EV_PG_FOP", [2, 2]⟩
abbrev Ev.REMOTE_STALE : EvRow := ⟨43, "EV_REMOTE_STALE", [4, 2]⟩
abbrev Ev.PSC_MOVE : EvRow := ⟨44, "EV_PSC_MOVE", [2, 2, 2]⟩
abbrev Ev.MM_STATE : EvRow := ⟨45, "EV_MM_STATE", [2, 2, 2, 8]⟩
abbrev Ev.MM_RETIME : EvRow := ⟨46, "EV_MM_RETIME", [2, 8, 8]⟩
abbrev Ev.MM_LATE : EvRow := ⟨47, "EV_MM_LATE", [2, 2, 8]⟩
abbrev Ev.MM_FALLBACK : EvRow := ⟨48, "EV_MM_FALLBACK", [2]⟩
abbrev Ev.REKEY_DUE : EvRow := ⟨49, "EV_REKEY_DUE", [2, 2, 4]⟩
abbrev Ev.KEY_LIVE : EvRow := ⟨50, "EV_KEY_LIVE", [2, 2, 4, 2]⟩
abbrev Ev.KEY_EXHAUSTED : EvRow := ⟨51, "EV_KEY_EXHAUSTED", [2, 2, 4]⟩
abbrev Ev.AUTH_FAIL : EvRow := ⟨52, "EV_AUTH_FAIL", [2, 2, 8, 8]⟩
abbrev Ev.KEY_DEFERRED : EvRow := ⟨53, "EV_KEY_DEFERRED", [2, 2]⟩
abbrev Ev.KA_DONE : EvRow := ⟨54, "EV_KA_DONE", [2, 2, 8]⟩
abbrev Ev.KA_FAIL : EvRow := ⟨55, "EV_KA_FAIL", [2, 2]⟩
abbrev Ev.ENTROPY_FAIL : EvRow := ⟨56, "EV_ENTROPY_FAIL", [2, 2]⟩
abbrev Ev.REF_STATE : EvRow := ⟨57, "EV_REF_STATE", [2, 2, 2]⟩
abbrev Ev.REF_DISQUAL : EvRow := ⟨58, "EV_REF_DISQUAL", [2, 2, 4]⟩
abbrev Ev.REF_QL : EvRow := ⟨59, "EV_REF_QL", [2, 2, 2]⟩
abbrev Ev.DP_SWITCH : EvRow := ⟨60, "EV_DP_SWITCH", [2, 2, 2, 8]⟩
abbrev Ev.DP_STATE : EvRow := ⟨61, "EV_DP_STATE", [2, 2, 2, 2]⟩
abbrev Ev.XO_FAIL : EvRow := ⟨62, "EV_XO_FAIL", [2]⟩
abbrev Ev.TS_OVERFLOW : EvRow := ⟨63, "EV_TS_OVERFLOW", [8]⟩
abbrev Ev.RTD_TIMEOUT : EvRow := ⟨64, "EV_RTD_TIMEOUT", [2, 4]⟩
abbrev Ev.PSC_TRANSIENT : EvRow := ⟨65, "EV_PSC_TRANSIENT", [2, 2, 8, 4]⟩
abbrev Ev.PSC_END : EvRow := ⟨66, "EV_PSC_END", [2, 2, 8, 4]⟩
abbrev Ev.HK_WINDOW : EvRow := ⟨67, "EV_HK_WINDOW", [4]⟩
abbrev Ev.HK_OVERRUN : EvRow := ⟨68, "EV_HK_OVERRUN", [2, 8]⟩
abbrev Ev.LOUPE_TRIGGERED : EvRow := ⟨69, "EV_LOUPE_TRIGGERED", [2, 8]⟩
abbrev Ev.LOUPE_DONE : EvRow := ⟨70, "EV_LOUPE_DONE", [8, 8]⟩
abbrev Ev.LOUPE_ABORT : EvRow := ⟨71, "EV_LOUPE_ABORT", [2]⟩
abbrev Ev.PM_BIN : EvRow := ⟨72, "EV_PM_BIN", [2, 4]⟩
abbrev Ev.PM_TCA : EvRow := ⟨73, "EV_PM_TCA", [4, 2, 2, 8]⟩
abbrev Ev.PM_SD : EvRow := ⟨74, "EV_PM_SD", [4, 2, 2]⟩
abbrev Ev.VY_NODE : EvRow := ⟨75, "EV_VY_NODE", [2, 2]⟩
abbrev Ev.VY_WRAP : EvRow := ⟨76, "EV_VY_WRAP", [2, 2, 2]⟩
abbrev Ev.VY_MASTER : EvRow := ⟨77, "EV_VY_MASTER", [2, 2]⟩
abbrev Ev.VY_URG_DEFER : EvRow := ⟨78, "EV_VY_URG_DEFER", [8]⟩
abbrev Ev.QM_AUTH_FAIL : EvRow := ⟨79, "EV_QM_AUTH_FAIL", [4, 2]⟩
abbrev Ev.SESSION : EvRow := ⟨80, "EV_SESSION", [4, 2, 2]⟩
abbrev Ev.ECC_BUCKET : EvRow := ⟨81, "EV_ECC_BUCKET", [2, 8]⟩
abbrev Ev.PAGE_REPAIRED : EvRow := ⟨82, "EV_PAGE_REPAIRED", [2, 2, 2]⟩
abbrev Ev.SPARES : EvRow := ⟨83, "EV_SPARES", [2, 8]⟩
abbrev Ev.STORE_UNCORR : EvRow := ⟨84, "EV_STORE_UNCORR", [2, 2, 2]⟩
abbrev Ev.D2D_REPLAY_FAIL : EvRow := ⟨85, "EV_D2D_REPLAY_FAIL", [2, 2, 2]⟩
abbrev Ev.D2D_LANE : EvRow := ⟨86, "EV_D2D_LANE", [2, 2, 2, 2]⟩
abbrev Ev.FI_ARMED : EvRow := ⟨87, "EV_FI_ARMED", [8, 8]⟩
abbrev Ev.FI_DISARMED : EvRow := ⟨88, "EV_FI_DISARMED", [2]⟩
abbrev Ev.PWR_STATE : EvRow := ⟨89, "EV_PWR_STATE", [2, 2, 2, 2]⟩
abbrev Ev.PWR_REFUSED : EvRow := ⟨90, "EV_PWR_REFUSED", [2, 2]⟩
abbrev Ev.PWR_ABANDONED : EvRow := ⟨91, "EV_PWR_ABANDONED", [2, 2]⟩
abbrev Ev.REG_FAULT : EvRow := ⟨92, "EV_REG_FAULT", [2, 2]⟩
abbrev Ev.SUPPLY_WARN : EvRow := ⟨93, "EV_SUPPLY_WARN", [2, 2, 4, 8]⟩
abbrev Ev.BOOT_HBM : EvRow := ⟨94, "EV_BOOT_HBM", []⟩
abbrev Ev.MC_RESTART : EvRow := ⟨95, "EV_MC_RESTART", [2, 8]⟩
abbrev Ev.LOCKSTEP : EvRow := ⟨96, "EV_LOCKSTEP", [2]⟩
abbrev Ev.FW_CHECK : EvRow := ⟨97, "EV_FW_CHECK", [2, 2]⟩
abbrev Ev.FW_ACTIVATED : EvRow := ⟨98, "EV_FW_ACTIVATED", [8, 8]⟩
abbrev Ev.OTP : EvRow := ⟨99, "EV_OTP", [2]⟩
abbrev Ev.BUS_TRUNC : EvRow := ⟨100, "EV_BUS_TRUNC", [2, 2, 8]⟩
abbrev Ev.PERF_OVERFLOW : EvRow := ⟨101, "EV_PERF_OVERFLOW", [4]⟩

-- Defect codes (R570).
/-- dTICKOVR: Device (R30) -/
abbrev Df.tickOvr : Nat := 0x8001
/-- dSLICE: Device (R237) -/
abbrev Df.slice : Nat := 0x8002
/-- dLOS: Line engine (R58) -/
abbrev Df.los : Nat := 0x8003
/-- dLOL: Line engine (R119, R467) -/
abbrev Df.lol : Nat := 0x8004
/-- dFECFAIL: Line engine (R133, R137) -/
abbrev Df.fecFail : Nat := 0x8005
/-- dLOF: Line engine (R145, R147, R149) -/
abbrev Df.lof : Nat := 0x8006
/-- dLOM: Line engine (R147) -/
abbrev Df.lom : Nat := 0x8007
/-- dLOA: Bonded group (R151) -/
abbrev Df.loa : Nat := 0x8008
/-- dDECDEG: Line engine (R134) -/
abbrev Df.decDeg : Nat := 0x8009
/-- dTIM: Section of an OTUC instance or OTU client (R148, R183) -/
abbrev Df.smTim : Nat := 0x800a
/-- dDEG: Section, as dTIM -/
abbrev Df.smDeg : Nat := 0x800b
/-- dBDI: Section, as dTIM -/
abbrev Df.smBdi : Nat := 0x800c
/-- dIAE: Section, as dTIM -/
abbrev Df.smIae : Nat := 0x800d
/-- dFFF: ODU on a line tributary (R155) -/
abbrev Df.fff : Nat := 0x800e
/-- dLOS: Host lane (R169) -/
abbrev Df.laneLos : Nat := 0x800f
/-- dLOL: Host lane (R168) -/
abbrev Df.laneLol : Nat := 0x8010
/-- dLOBL: Ethernet PCS (R184) -/
abbrev Df.lobl : Nat := 0x8011
/-- dLOAML: Ethernet PCS or FlexE PHY (R184) -/
abbrev Df.loaml : Nat := 0x8012
/-- dHIBER: Ethernet PCS (R184) -/
abbrev Df.hiBer : Nat := 0x8013
/-- dLOF: SDH, OTU or FlexE PHY client (R184) -/
abbrev Df.cliLof : Nat := 0x8014
/-- dLOM: OTU client (R184) -/
abbrev Df.cliLom : Nat := 0x8015
/-- dAIS: STM-N multiplex section, MS-AIS (R178) -/
abbrev Df.msAis : Nat := 0x8016
/-- dRDI: STM-N multiplex section, MS-RDI (R178) -/
abbrev Df.msRdi : Nat := 0x8017
/-- dDEG: STM-N multiplex section (R178) -/
abbrev Df.msDeg : Nat := 0x8018
/-- dLOP: AU or TU pointer (R179) -/
abbrev Df.lop : Nat := 0x8019
/-- dAIS: AU or TU pointer, AU-AIS or TU-AIS (R179) -/
abbrev Df.ptrAis : Nat := 0x801a
/-- dLCD: Expansion lane (R191) -/
abbrev Df.lcd : Nat := 0x801b
/-- dTICKMM: Expansion link (R193) -/
abbrev Df.tickMm : Nat := 0x801c
/-- dAIS: ODU PM or TCM (R276) -/
abbrev Df.oduAis : Nat := 0x801d
/-- dOCI: ODU PM or TCM -/
abbrev Df.oduOci : Nat := 0x801e
/-- dLCK: ODU PM or TCM -/
abbrev Df.oduLck : Nat := 0x801f
/-- dLOFLOM: ODU PM or TCM -/
abbrev Df.lofLom : Nat := 0x8020
/-- dTIM: ODU PM or TCM; VC path -/
abbrev Df.pathTim : Nat := 0x8021
/-- dDEG: ODU PM or TCM; VC path -/
abbrev Df.pathDeg : Nat := 0x8022
/-- dBDI: ODU PM or TCM; RDI of a VC path -/
abbrev Df.pathBdi : Nat := 0x8023
/-- dUNEQ: VC path -/
abbrev Df.uneq : Nat := 0x8024
/-- dSD: Any PM point whose profile has SDSRC ≠ 0 (R407) -/
abbrev Df.sd : Nat := 0x8025
/-- dFOP: Protection group (R297) -/
abbrev Df.fop : Nat := 0x8026
/-- dAUTH: Receive half of a secure channel (R332) -/
abbrev Df.auth : Nat := 0x8027
/-- dKEYEXH: Transmit half of a secure channel (R333) -/
abbrev Df.keyExh : Nat := 0x8028
/-- dRETAIN: Retained bank (R495) -/
abbrev Df.retain : Nat := 0x8029

/-- The events of the device, in the order of their codes. -/
def evRows : List EvRow := [Ev.CORE_PLL_UNLOCK, Ev.TICK_LOADED, Ev.TICK_OVERRUN, Ev.LASER_RANGE, Ev.TX_POWER_SHORT,
  Ev.BIAS_UNLOCK, Ev.RX_OVERLOAD, Ev.REF_RANGE, Ev.CAL_DONE, Ev.CAL_ABORT, Ev.MODE_APPLIED, Ev.ACQ_CONFIRMED, Ev.ACQ_VALID,
  Ev.ACQ_PREEMPT, Ev.ACQ_RETRY, Ev.LOL, Ev.SYNC_RIVAL, Ev.DEC_CORE_FAIL, Ev.DEC_CORE_RESTORED, Ev.FEC_LIMIT, Ev.LOF, Ev.LOA,
  Ev.GCC_OVERFLOW, Ev.HL_STATE, Ev.CLI_FAIL, Ev.FLEXE_CAL, Ev.LCD, Ev.TICKMM, Ev.SLICE_FAIL, Ev.SLICE_RESTORED,
  Ev.COMPILE_DONE, Ev.COMPILE_FAIL, Ev.CM_UNCORR, Ev.SWAP, Ev.SWAP_CANCELLED, Ev.SWAP_DEFERRED, Ev.SWAP_ABANDONED,
  Ev.SYNC_DONE, Ev.LINE_CHG_DONE, Ev.LINE_CHG_FAIL, Ev.PG_SWITCH, Ev.PG_FOP, Ev.REMOTE_STALE, Ev.PSC_MOVE, Ev.MM_STATE,
  Ev.MM_RETIME, Ev.MM_LATE, Ev.MM_FALLBACK, Ev.REKEY_DUE, Ev.KEY_LIVE, Ev.KEY_EXHAUSTED, Ev.AUTH_FAIL, Ev.KEY_DEFERRED,
  Ev.KA_DONE, Ev.KA_FAIL, Ev.ENTROPY_FAIL, Ev.REF_STATE, Ev.REF_DISQUAL, Ev.REF_QL, Ev.DP_SWITCH, Ev.DP_STATE, Ev.XO_FAIL,
  Ev.TS_OVERFLOW, Ev.RTD_TIMEOUT, Ev.PSC_TRANSIENT, Ev.PSC_END, Ev.HK_WINDOW, Ev.HK_OVERRUN, Ev.LOUPE_TRIGGERED,
  Ev.LOUPE_DONE, Ev.LOUPE_ABORT, Ev.PM_BIN, Ev.PM_TCA, Ev.PM_SD, Ev.VY_NODE, Ev.VY_WRAP, Ev.VY_MASTER, Ev.VY_URG_DEFER,
  Ev.QM_AUTH_FAIL, Ev.SESSION, Ev.ECC_BUCKET, Ev.PAGE_REPAIRED, Ev.SPARES, Ev.STORE_UNCORR, Ev.D2D_REPLAY_FAIL, Ev.D2D_LANE,
  Ev.FI_ARMED, Ev.FI_DISARMED, Ev.PWR_STATE, Ev.PWR_REFUSED, Ev.PWR_ABANDONED, Ev.REG_FAULT, Ev.SUPPLY_WARN, Ev.BOOT_HBM,
  Ev.MC_RESTART, Ev.LOCKSTEP, Ev.FW_CHECK, Ev.FW_ACTIVATED, Ev.OTP, Ev.BUS_TRUNC, Ev.PERF_OVERFLOW]

/-- The names of the defects, in the order of their codes from 0x8001. -/
def defectNames : List String := ["dTICKOVR", "dSLICE", "dLOS", "dLOL", "dFECFAIL", "dLOF", "dLOM", "dLOA", "dDECDEG",
  "dTIM", "dDEG", "dBDI", "dIAE", "dFFF", "dLOS", "dLOL", "dLOBL", "dLOAML", "dHIBER", "dLOF", "dLOM", "dAIS", "dRDI",
  "dDEG", "dLOP", "dAIS", "dLCD", "dTICKMM", "dAIS", "dOCI", "dLCK", "dLOFLOM", "dTIM", "dDEG", "dBDI", "dUNEQ", "dSD",
  "dFOP", "dAUTH", "dKEYEXH", "dRETAIN"]

end Sys2Proof.Machine
end

