-- ==== Sys2Proof/Config.lean ====
section
/-! DEFINITION. What an implementation fixes and what the spec leaves open: opaque constants, without a body, applied to plain
data. No proof can see a value of them. -/

namespace Sys2Proof

/-- Free values (log entry 3): draw number `n` of the run, from the counter `State.fresh`. -/
opaque Config.freeValue : Nat → Nat

/-- SHAKE256 (FIPS 202) of a sequence of fields, as the unsigned value of `len` output bytes (log entry 4). -/
opaque Config.shake256 : (len : Nat) → (msg : List Fld) → Nat

/-- The first 8 bytes of the AES-256-GCM tag over `aad` with an empty plaintext (R433, log entry 4). -/
opaque Config.frameTag : (key iv : Nat) → (aad : List Fld) → Nat

/-- Whether an ML-DSA-65 signature verifies (FIPS 204, log entry 4). -/
opaque Config.mlDsaVerify : (publicKey digest signature : Nat) → Bool

/-- Selwarun's ML-DSA-65 public key, and the contents, in the boot ROM (R511, R514, R519). -/
opaque Config.vendorKey : Nat
opaque Config.rom : Nat

/-- An ML-DSA-65 signature by the device's identity key (log entry 4). -/
opaque Config.mlDsaSign : (digest draw : Nat) → Nat

/-- ML-KEM-1024 (FIPS 203, log entry 4): the ciphertext and the shared secret of an encapsulation, an encapsulation key made from a
draw, and the shared secret that the holder of the draw recovers. -/
opaque Config.kemCiphertext : (encapsKey draw : Nat) → Nat
opaque Config.kemSecret : (encapsKey draw : Nat) → Nat
opaque Config.kemPublic : (draw : Nat) → Nat
opaque Config.kemDecaps : (draw ciphertext : Nat) → Nat

/-- The training-sequence period of a Z mode, in symbols (R84: the OIF agreement's, log entry 5). -/
opaque Config.trainingPeriod : (mode : Nat) → Nat

/-- Mean die temperature of an engine in a tick, in m°C, which no rule computes from the sensors (R75, log entry 153). -/
opaque Config.dieTemperature : (engine elapsed : Nat) → Nat

/-- The inverse of the DAC response, in 0.01 dB, that two bytes of a response bin of the image stand for: the coding of the bins is not given
(R75, R96, log entry 5). -/
opaque Config.inverseResponse : (bin : Nat) → Int

/-- Which of the values of R141 a transmitter gives C in an L frame; the overhead bytes of an OTUCn-M frame, which G.709 makes of section monitoring
and GCC0; Cm of a connection's ODU in a multiframe of 20 frames (R142); the ODU's byte in a group of its slots, which G.709 makes of the words that
leave, the OPU CSF indication, GCC1 and GCC2, and the APS values of its levels (R157, R185, R296); ODU frames of a connection that begin in a tick; and codewords of a Z mode's agreement
in a tick (R127; log entries 160, 161). -/
opaque Config.transmittedC : (mode frame : Nat) → Nat
opaque Config.otucOverhead : (engine place frame : Nat) → (sections : List Nat) → (gcc : List (Nat × List Nat)) → Nat
opaque Config.muxCount : (conn multiframe : Nat) → Nat
opaque Config.oduByte : (conn : Nat) → (place : List Nat) → (csf : Bool) → (words : List (Nat × Nat)) → (gcc : List (Nat × List Nat)) → Nat
opaque Config.oduFrames : (conn elapsed : Nat) → Nat
opaque Config.agreementWords : (mode elapsed : Nat) → Nat

/-- The SSM and eSSM codes that are sent for a level without a row under the option in force (R348), and the slope, in 10⁻¹²/s, of the measurements of
a drift window, by tick and offset: R352 does not say how it is formed (log entries 218, 219). -/
opaque Config.unstatedSsm : (option level : Nat) → Nat
opaque Config.unstatedEssm : (option level : Nat) → Nat
opaque Config.slope : (samples : List (Nat × Int)) → Int

/-- Words and streams that the standards' encodings give (log entry 177): the assembly of a virtual SDH port after a tick, from what it was, the port's
type and structure, and the words it has sunk, by VC position (G.707); word `i` of the ODU that the port builds of it in a tick (G.709); a 64b/66b
word with error control blocks in place of its blocks (IEEE 802.3); a word of an ODU, received from the line, in the frame that line encryption passes on
(R324); what the lanes of a host client carry for its words, from the client's type, lanes and
overhead, the unequipped VC positions and the VC pointers of an SDH client, and the calendar of a FlexE group (IEEE 802.3, G.707, G.709, OIF FlexE);
and what the lanes of an expansion link carry for its cells under RS(544,514) with alignment markers (R188). -/
opaque Config.virtualAssembly : (before : Nat) → (port : List Nat) → (sunk : List (Nat × Nat)) → Nat
opaque Config.virtualWord : (assembly elapsed i : Nat) → Nat
opaque Config.errorWord : (word : Nat) → Nat
opaque Config.openedWord : (frame : List Nat) → (elapsed i received : Nat) → Nat
opaque Config.hostStream : (client unequipped : List Nat) → (words : List (Nat × Nat)) → (pointers : List (Nat × Int)) → Nat
opaque Config.cellStream : (lanes : List Nat) → (cells : List (Nat × List Nat)) → Nat

/-- AES-256-GCM (NIST SP 800-38D, log entry 4) over the parts of an ODU frame (R323): the ciphertext of a payload, the payload of a ciphertext, and
the tag. -/
opaque Config.gcmEncrypt : (key iv payload : Nat) → Nat
opaque Config.gcmDecrypt : (key iv ciphertext : Nat) → Nat
opaque Config.gcmTag : (key iv aad ciphertext : Nat) → Nat

/-- The request byte of G.873.1 (protection-type bits from W0), and K1 of G.841, for a request code of R286 (13 for a reverse request) and a
requested signal (R296, R298; log entry 4). -/
opaque Config.apsRequest : (entry : Nat) → (request : Nat) → Nat
opaque Config.k1 : (request requested : Nat) → Nat

end Sys2Proof
end

