-- ==== Sys2Proof/Machine/Bits.lean ====
section
/-! DEFINITION. Bit fields, signed readings and modular counters over the unsigned values that objects hold. -/

namespace Sys2Proof.Machine

/-- Field [hi:lo] of a value (R7). -/
def field (v hi lo : Nat) : Nat := v / 2 ^ lo % 2 ^ (hi + 1 - lo)

/-- Bit `b` of a value. -/
def bit (v b : Nat) : Bool := v / 2 ^ b % 2 = 1

/-- A value with field [hi:lo] replaced by `f`. -/
def withField (v hi lo f : Nat) : Nat :=
  v / 2 ^ (hi + 1) * 2 ^ (hi + 1) + f % 2 ^ (hi + 1 - lo) * 2 ^ lo + v % 2 ^ lo

/-- A value with bit `b` set to `on`. -/
def withBit (v b : Nat) (on : Bool) : Nat := withField v b b on.toNat

/-- A value with the bits of `mask` cleared (a write of 1 to a W1C or WC bit). -/
def clearBits (v mask : Nat) : Nat := v - Nat.land v mask

/-- The two's complement reading of a value of `w` bytes (R414, S32 and S64). -/
def signed (w v : Nat) : Int := if v < 2 ^ (8 * w - 1) then v else (v : Int) - (2 ^ (8 * w) : Nat)

/-- The encoding in `w` bytes of an integer (R414), wrapped to the width. -/
def encode (w : Nat) (z : Int) : Nat := (z % (2 ^ (8 * w) : Nat)).toNat

/-- An integer held within [lo, hi], for readings that saturate. -/
def clamp (lo hi z : Int) : Int := if z < lo then lo else if hi < z then hi else z

/-- Bytes `k` to `k + n - 1` (the first byte is the most significant) of a value of `w` bytes. -/
def bytesOf (w v k n : Nat) : Nat := v / 256 ^ (w - k - n) % 256 ^ n

/-- A value of `w` bytes with bytes `k` to `k + n - 1` replaced. -/
def withBytes (w v k n f : Nat) : Nat :=
  v / 256 ^ (w - k) * 256 ^ (w - k) + f % 256 ^ n * 256 ^ (w - k - n) + v % 256 ^ (w - k - n)

/-- The quotient rounded up. -/
def ceilDiv (a b : Nat) : Nat := (a + b - 1) / b

/-- A list with `x` put before the first element that does not precede it, and a list in the order of a relation. -/
def insertBy {α : Type} (le : α → α → Bool) (x : α) : List α → List α
  | [] => [x]
  | y :: ys => if le x y then x :: y :: ys else y :: insertBy le x ys

def sortBy {α : Type} (le : α → α → Bool) : List α → List α
  | [] => []
  | x :: xs => insertBy le x (sortBy le xs)

def sortNat (xs : List Nat) : List Nat := sortBy (fun a b => decide (a ≤ b)) xs

/-- A cyclic redundancy check of the low `n` bits of a value, most significant bit first, in a register of `w` bits. -/
def crc (w poly init n v : Nat) : Nat :=
  (List.range n).foldl (fun r k =>
    let out := (bit r (w - 1)) != (bit v (n - 1 - k))
    Nat.xor (r * 2 % 2 ^ w) (if out then poly else 0)) init

/-- Fields of given widths in bytes, put together in order. -/
def packBytes (fs : List (Nat × Nat)) : Nat := fs.foldl (fun v f => v * 256 ^ f.1 + f.2 % 256 ^ f.1) 0

/-- floor(log10 n) for n ≥ 1 below 10 ^ fuel. -/
def log10 : Nat → Nat → Nat
  | 0, _ => 0
  | fuel + 1, n => if n < 10 then 0 else log10 fuel (n / 10) + 1

/-- The ratio code of R402: round(−100 × log10 (num / den)), limited to 65,534, and 0xFFFF for a ratio of 0. -/
def ratioCode (num den : Nat) : Nat :=
  if num = 0 ∨ den = 0 then 0xFFFF else min 65534 ((log10 200000 (den ^ 200 / num ^ 200) + 1) / 2)

/-- num / den exceeds, or lies below, 10 ^ (−code / 100) (R407). -/
def ratioAbove (num den code : Nat) : Bool := decide (den ^ 100 < num ^ 100 * 10 ^ code)
def ratioBelow (num den code : Nat) : Bool := decide (num ^ 100 * 10 ^ code < den ^ 100)

/-- Ticks in one second (R20) and in one millisecond. -/
def ticksPerSecond : Nat := 800000
def ticksPerMs : Nat := 800

/-- A 64-bit count, which wraps. -/
def u64 (v : Nat) : Nat := v % 2 ^ 64

/-- A 32-bit count that saturates. -/
def sat32 (v : Nat) : Nat := min v (2 ^ 32 - 1)

end Sys2Proof.Machine
end

