-- ==== Sys2Proof/Machine/Store.lean ====
section
/-! DEFINITION. Reading and writing a sparse table in its canonical form. -/

namespace Sys2Proof

/-- The key of unit number `n` in a table of the machine's own units. -/
def Key.unit (n : Nat) : Key := ⟨0, n, 0, 0⟩

/-- The order in which a table lists its keys. -/
def Key.lt (a b : Key) : Bool :=
  decide (a.c < b.c) || (a.c == b.c && (decide (a.i < b.i) || (a.i == b.i &&
    (decide (a.m < b.m) || (a.m == b.m && decide (a.x < b.x))))))

variable {α : Type}

/-- What a key reads as: the listed value, or `d` where the key is not listed. -/
def Map.get (d : α) : Map α → Key → α
  | [], _ => d
  | e :: m, k => if e.1 = k then e.2 else Map.get d m k

/-- The table without key `k`. -/
def Map.erase (m : Map α) (k : Key) : Map α := m.filter fun e => !decide (e.1 = k)

/-- The table with an entry put before the first greater key. -/
def Map.insert : Map α → Key → α → Map α
  | [], k, v => [(k, v)]
  | e :: m, k, v => if Key.lt k e.1 then (k, v) :: e :: m else e :: Map.insert m k v

/-- The table after writing `v` at `k`; writing what an unlisted key reads as removes the entry. -/
def Map.set [DecidableEq α] (d : α) (m : Map α) (k : Key) (v : α) : Map α :=
  if v = d then Map.erase m k else Map.insert (Map.erase m k) k v

/-- Every key of the table is above `k`. -/
def Map.above (k : Key) : Map α → Bool
  | [] => true
  | e :: m => Key.lt k e.1 && Map.above k m

/-- The canonical form: keys strictly rising, and no entry equal to what its key reads as when unlisted. -/
def Map.wf [DecidableEq α] (dflt : Key → α) : Map α → Bool
  | [] => true
  | e :: m => Map.above e.1 m && !decide (e.2 = dflt e.1) && Map.wf dflt m

end Sys2Proof
end

