-- ==== Sys2Proof/Machine/Dict.lean ====
section
/-! DEFINITION. The object dictionary: one row per row of the spec's object tables, with its type, access code, default and the
values a write may carry (R413 to R415, and the object tables the classes name). -/

namespace Sys2Proof.Machine

/-- Access codes (R415). -/
inductive Acc where
  | ro | rw | ws | wc | wx | sec
  deriving DecidableEq, Repr

/-- The values a write of an object may carry (check 7 of R421). -/
inductive Chk where
  | any
  /-- unsigned, within the bounds -/
  | range (lo hi : Nat)
  /-- two's complement, within the bounds -/
  | srange (lo hi : Int)
  | oneOf (vs : List Nat)
  deriving DecidableEq, Repr

/-- One row of an object table. Instances run from `lo` to `hi`; `w` is the width in bytes of the value or of one
element; `n` the number of elements; `mask` the bits that are stored (a reserved field is ignored on write and reads 0, R9). -/
structure ObjRow where
  name : String
  c : Nat
  lo : Nat
  hi : Nat
  m : Nat
  code : Nat
  w : Nat
  n : Nat
  acc : Acc
  dflt : Nat
  chk : Chk := .any
  mask : Option Nat := none
  /-- a SEC object whose default is "—" cannot be read (R415) -/
  readable : Bool := true
  deriving DecidableEq, Repr

/-- Class 0x00 (12_quemus_and_vyusk.md). -/
def dictClass00 : List ObjRow := [
  ⟨"DEV_PART", 0x00, 0, 0, 0x01, 11, 8, 1, .ro, 0x4258542d39363332, .any, none, true⟩,
  ⟨"DEV_STEPPING", 0x00, 0, 0, 0x02, 2, 2, 1, .ro, 176, .any, none, true⟩,
  ⟨"DEV_SERIAL", 0x00, 0, 0, 0x03, 11, 16, 1, .ro, 0, .any, none, true⟩,
  ⟨"DEV_ID_KEY", 0x00, 0, 0, 0x04, 11, 1952, 1, .ro, 0, .any, none, true⟩,
  ⟨"DEV_ID_DIGEST", 0x00, 0, 0, 0x05, 10, 32, 1, .ro, 0, .any, none, true⟩,
  ⟨"DEV_SUMMARY", 0x00, 0, 0, 0x06, 11, 1112, 1, .ro, 0, .any, none, true⟩]

/-- Class 0x01 (01_tick_and_planes.md). -/
def dictClass01 : List ObjRow := [
  ⟨"TB_TICK", 0x01, 0, 0, 0x01, 4, 8, 1, .ro, 0, .any, none, true⟩,
  ⟨"TB_EPOCH", 0x01, 0, 0, 0x02, 4, 8, 1, .ro, 0, .any, none, true⟩,
  ⟨"TB_TOD", 0x01, 0, 0, 0x03, 9, 8, 1, .ro, 0, .any, none, true⟩,
  ⟨"TB_ALIGN_MODE", 0x01, 0, 0, 0x04, 8, 2, 1, .rw, 0, .range 0 1, none, true⟩,
  ⟨"TB_TICK_LOAD", 0x01, 0, 0, 0x05, 4, 8, 1, .wx, 0, .any, none, false⟩,
  ⟨"TB_STATE", 0x01, 0, 0, 0x06, 8, 2, 1, .ro, 0, .any, none, true⟩,
  ⟨"TB_OVR_STATUS", 0x01, 0, 0, 0x10, 7, 4, 1, .wc, 0, .any, none, true⟩,
  ⟨"TB_OVR_COUNT", 0x01, 0, 0, 0x11, 12, 8, 10, .wc, 0, .any, none, true⟩,
  ⟨"TB_OVR_LAST", 0x01, 0, 0, 0x12, 12, 8, 10, .ro, 0, .any, none, true⟩,
  ⟨"TB_BOND_CFG", 0x01, 0, 0, 0x20, 8, 2, 1, .rw, 0, .range 0 4, none, true⟩,
  ⟨"TB_BOND_STATE", 0x01, 0, 0, 0x21, 7, 4, 1, .ro, 0, .any, none, true⟩,
  ⟨"TB_ENGINE_SKEW", 0x01, 0, 0, 0x22, 12, 4, 4, .ro, 0, .any, none, true⟩]

/-- Class 0x02 (14_power_domains_and_supplies.md). -/
def dictClass02 : List ObjRow := [
  ⟨"PWR_DOM_REQ", 0x02, 0, 19, 0x01, 8, 2, 1, .wx, 0, .range 0 1, none, false⟩,
  ⟨"PWR_DOM_TOL", 0x02, 0, 19, 0x02, 3, 4, 1, .rw, 0, .range 0 1000000, none, true⟩,
  ⟨"PWR_DOM_STATE", 0x02, 0, 19, 0x03, 8, 2, 1, .ro, 0, .any, none, true⟩,
  ⟨"PWR_DOM_TARGET", 0x02, 0, 19, 0x04, 8, 2, 1, .ro, 0, .any, none, true⟩,
  ⟨"PWR_DOM_STATUS", 0x02, 0, 19, 0x05, 3, 4, 1, .ro, 0, .any, none, true⟩,
  ⟨"PWR_DOM_CLK", 0x02, 0, 19, 0x06, 8, 2, 1, .ro, 1, .any, none, true⟩,
  ⟨"PWR_PAD_RELEASE", 0x02, 0, 19, 0x07, 8, 2, 1, .wx, 0, .range 1 1, none, false⟩,
  ⟨"PWR_PAD_HELD", 0x02, 0, 19, 0x08, 8, 2, 1, .ro, 0, .any, none, true⟩,
  ⟨"PWR_RETAIN_FAIL", 0x02, 0, 19, 0x09, 7, 4, 1, .wc, 0, .any, none, true⟩,
  ⟨"PWR_WAKE_MASK", 0x02, 255, 255, 0x01, 7, 4, 1, .rw, 0, .any, some 0xfffff, true⟩,
  ⟨"PWR_WARN_ACTIVE", 0x02, 255, 255, 0x02, 7, 4, 1, .ro, 0, .any, none, true⟩,
  ⟨"PWR_DIP_LOG", 0x02, 255, 255, 0x03, 12, 16, 16, .ro, 0, .any, none, true⟩,
  ⟨"PWR_AVS_EN", 0x02, 255, 255, 0x04, 8, 2, 1, .rw, 1, .range 0 1, none, true⟩,
  ⟨"PWR_QUIESCENT", 0x02, 255, 255, 0x05, 8, 2, 1, .wx, 0, .range 1 1, none, false⟩,
  ⟨"PWR_VY_WAKE", 0x02, 255, 255, 0x06, 8, 2, 1, .rw, 1, .range 0 1, none, true⟩,
  ⟨"PWR_RAIL_BUS", 0x02, 256, 267, 0x01, 2, 2, 1, .rw, 255, .any, none, true⟩,
  ⟨"PWR_RAIL_SET", 0x02, 256, 267, 0x02, 3, 4, 1, .ro, 0, .any, none, true⟩,
  ⟨"PWR_RAIL_STATE", 0x02, 256, 267, 0x03, 8, 2, 1, .ro, 0, .any, none, true⟩,
  ⟨"PWR_RAIL_RETRY", 0x02, 256, 267, 0x04, 8, 2, 1, .wx, 0, .range 1 1, none, false⟩,
  ⟨"PWR_WARN_LVL", 0x02, 256, 267, 0x05, 2, 2, 1, .rw, 30, .range 10 80, none, true⟩,
  ⟨"PWR_WARN_HYST", 0x02, 256, 267, 0x06, 2, 2, 1, .rw, 10, .range 2 30, none, true⟩,
  ⟨"PWR_RESET_LVL", 0x02, 256, 267, 0x07, 2, 2, 1, .rw, 100, .range 50 120, none, true⟩,
  ⟨"PWR_DIP_COUNT", 0x02, 256, 267, 0x08, 4, 8, 1, .wc, 0, .any, none, true⟩]

/-- Class 0x03 (15_boot_security_and_management_complex.md). -/
def dictClass03 : List ObjRow := [
  ⟨"SEC_FW_VERSION", 0x03, 0, 0, 0x01, 4, 8, 1, .ro, 0, .any, none, true⟩,
  ⟨"SEC_FW_DIGEST", 0x03, 0, 0, 0x02, 10, 32, 1, .ro, 0, .any, none, true⟩,
  ⟨"SEC_FW_SV", 0x03, 0, 0, 0x03, 2, 2, 1, .ro, 0, .any, none, true⟩,
  ⟨"SEC_OTP_SV", 0x03, 0, 0, 0x04, 2, 2, 1, .ro, 0, .any, none, true⟩,
  ⟨"SEC_SV_COMMIT", 0x03, 0, 0, 0x05, 8, 2, 1, .sec, 0, .range 1 1, none, false⟩,
  ⟨"SEC_VENDOR_KEY_DIGEST", 0x03, 0, 0, 0x06, 10, 32, 1, .ro, 0, .any, none, true⟩,
  ⟨"SEC_OWNER_KEY_DIGEST", 0x03, 0, 0, 0x07, 10, 32, 1, .ro, 0, .any, none, true⟩,
  ⟨"SEC_OWNER_FUSE", 0x03, 0, 0, 0x08, 10, 32, 1, .sec, 0, .any, none, false⟩,
  ⟨"SEC_ID_CERT", 0x03, 0, 0, 0x09, 11, 3309, 1, .ro, 0, .any, none, true⟩,
  ⟨"SEC_ATTEST_NONCE", 0x03, 0, 0, 0x0a, 11, 32, 1, .wx, 0, .any, none, false⟩,
  ⟨"SEC_ATTEST_STATE", 0x03, 0, 0, 0x0b, 8, 2, 1, .ro, 0, .any, none, true⟩,
  ⟨"SEC_ATTEST_REPORT", 0x03, 0, 0, 0x0c, 11, 3429, 1, .ro, 0, .any, none, true⟩,
  ⟨"ONION_CHAIN", 0x03, 0, 0, 0x0d, 10, 32, 1, .ro, 0, .any, none, true⟩,
  ⟨"ONION_COUNT", 0x03, 0, 0, 0x0e, 3, 4, 1, .ro, 0, .any, none, true⟩,
  ⟨"ONION_LOG", 0x03, 0, 0, 0x0f, 12, 48, 256, .ro, 0, .any, none, true⟩,
  ⟨"MC_FW_STAGE", 0x03, 0, 0, 0x10, 12, 64, 0x8000, .rw, 0, .any, none, true⟩,
  ⟨"MC_FW_CHECK", 0x03, 0, 0, 0x11, 8, 2, 1, .wx, 0, .range 1 1, none, false⟩,
  ⟨"MC_FW_STAGE_STATE", 0x03, 0, 0, 0x12, 3, 4, 1, .ro, 0, .any, none, true⟩,
  ⟨"MC_FW_PROGRAM", 0x03, 0, 0, 0x13, 8, 2, 1, .wx, 0, .range 1 2, none, false⟩,
  ⟨"MC_FW_PROGRAM_STATE", 0x03, 0, 0, 0x14, 8, 2, 1, .ro, 0, .any, none, true⟩,
  ⟨"MC_FW_ACTIVATE", 0x03, 0, 0, 0x15, 8, 2, 1, .sec, 0, .range 1 1, none, false⟩]

/-- Class 0x04 (15_boot_security_and_management_complex.md). -/
def dictClass04 : List ObjRow := [
  ⟨"PERF_CORE_SEL", 0x04, 0, 1, 0x01, 12, 4, 16, .rw, 0, .any, some 0xe0000fff, true⟩,
  ⟨"PERF_CORE_VAL", 0x04, 0, 1, 0x02, 12, 4, 16, .ro, 0, .any, none, true⟩,
  ⟨"PERF_CORE_OVF", 0x04, 0, 1, 0x03, 7, 4, 1, .wc, 0, .any, none, true⟩,
  ⟨"MC_WDT_PERIOD", 0x04, 0, 1, 0x04, 3, 4, 1, .rw, 100, .range 10 10000, none, true⟩,
  ⟨"MC_RESTART", 0x04, 255, 255, 0x01, 8, 2, 1, .wx, 0, .range 1 1, none, false⟩,
  ⟨"MC_RESTART_CAUSE", 0x04, 255, 255, 0x02, 8, 2, 1, .ro, 0, .any, none, true⟩,
  ⟨"MC_RESTART_COUNT", 0x04, 255, 255, 0x03, 4, 8, 1, .wc, 0, .any, none, true⟩,
  ⟨"MC_LAST_RESTART_TICK", 0x04, 255, 255, 0x04, 4, 8, 1, .ro, 0, .any, none, true⟩,
  ⟨"MC_LOCKSTEP_ERR", 0x04, 255, 255, 0x05, 4, 8, 1, .wc, 0, .any, none, true⟩,
  ⟨"MC_BUS_TRUNC", 0x04, 255, 255, 0x06, 4, 8, 1, .wc, 0, .any, none, true⟩,
  ⟨"MC_BUS_HOLD_PEAK", 0x04, 255, 255, 0x07, 3, 4, 1, .wc, 0, .any, none, true⟩,
  ⟨"PERF_DP_SEL", 0x04, 255, 255, 0x10, 12, 4, 64, .rw, 0, .any, some 0xe0000fff, true⟩,
  ⟨"PERF_DP_VAL", 0x04, 255, 255, 0x11, 12, 4, 64, .ro, 0, .any, none, true⟩,
  ⟨"PERF_DP_OVF", 0x04, 255, 255, 0x12, 12, 4, 2, .wc, 0, .any, none, true⟩,
  ⟨"PERF_EVENT_LIST", 0x04, 255, 255, 0x13, 12, 32, 4096, .ro, 0, .any, none, true⟩,
  ⟨"PERF_DUMP_TGT", 0x04, 255, 255, 0x14, 8, 2, 1, .rw, 0, .range 0 3, none, true⟩,
  ⟨"PERF_DUMP_BASE", 0x04, 255, 255, 0x15, 4, 8, 1, .rw, 0, .any, none, true⟩,
  ⟨"PERF_DUMP_SIZE", 0x04, 255, 255, 0x16, 3, 4, 1, .rw, 512, .range 16 131072, none, true⟩,
  ⟨"PERF_DUMP_PERIOD", 0x04, 255, 255, 0x17, 3, 4, 1, .rw, 800, .range 1 8000000, none, true⟩,
  ⟨"PERF_DUMP_WR", 0x04, 255, 255, 0x18, 3, 4, 1, .ro, 0, .any, none, true⟩,
  ⟨"PERF_DUMP_RD", 0x04, 255, 255, 0x19, 3, 4, 1, .rw, 0, .any, none, true⟩,
  ⟨"PERF_DUMP_DROP", 0x04, 255, 255, 0x1a, 4, 8, 1, .wc, 0, .any, none, true⟩,
  ⟨"PERF_FREEZE", 0x04, 255, 255, 0x1b, 8, 2, 1, .wx, 0, .range 0 1, none, false⟩,
  ⟨"PERF_FROZEN", 0x04, 255, 255, 0x1c, 8, 2, 1, .ro, 0, .any, none, true⟩,
  ⟨"PERF_SNAPSHOT", 0x04, 255, 255, 0x1d, 12, 4, 96, .ro, 0, .any, none, true⟩]

/-- Class 0x05 (13_stored_data_integrity.md). -/
def dictClass05 : List ObjRow := [
  ⟨"SIO_T", 0x05, 0, 7, 0x01, 2, 2, 1, .rw, 0, .range 4 32, none, true⟩,
  ⟨"SIO_STATE", 0x05, 0, 7, 0x02, 8, 2, 1, .ro, 0, .any, none, true⟩,
  ⟨"SIO_BUCKET_SIZE", 0x05, 0, 7, 0x03, 2, 2, 1, .rw, 64, .range 1 65535, none, true⟩,
  ⟨"SIO_BUCKET_LEAK", 0x05, 0, 7, 0x04, 3, 4, 1, .rw, 800, .range 1 80000000, none, true⟩,
  ⟨"SIO_BUCKET", 0x05, 0, 7, 0x05, 2, 2, 1, .ro, 0, .any, none, true⟩,
  ⟨"SIO_CORR_BITS", 0x05, 0, 7, 0x06, 4, 8, 1, .wc, 0, .any, none, true⟩,
  ⟨"SIO_UNCORR", 0x05, 0, 7, 0x07, 4, 8, 1, .wc, 0, .any, none, true⟩,
  ⟨"SIO_SCRUB_PASS", 0x05, 0, 7, 0x08, 3, 4, 1, .rw, 1, .range 1 86400, none, true⟩,
  ⟨"SIO_PASS_COUNT", 0x05, 0, 7, 0x09, 4, 8, 1, .ro, 0, .any, none, true⟩,
  ⟨"SIO_SPARES_FREE", 0x05, 0, 7, 0x0a, 2, 2, 1, .ro, 64, .any, none, true⟩,
  ⟨"SIO_REPAIRED", 0x05, 0, 7, 0x0b, 4, 8, 1, .wc, 0, .any, none, true⟩,
  ⟨"SIO_REGEN", 0x05, 0, 7, 0x0c, 4, 8, 1, .wc, 0, .any, none, true⟩,
  ⟨"SIO_WEAK_LOG", 0x05, 0, 7, 0x0d, 12, 4, 64, .ro, 0, .any, none, true⟩,
  ⟨"SIO_UNCORR_LOG", 0x05, 0, 7, 0x0e, 12, 8, 16, .ro, 0, .any, none, true⟩,
  ⟨"D2D_STATE", 0x05, 256, 261, 0x01, 8, 2, 1, .ro, 0, .any, none, true⟩,
  ⟨"D2D_PARITY_ERR", 0x05, 256, 261, 0x02, 4, 8, 1, .wc, 0, .any, none, true⟩,
  ⟨"D2D_REPLAY", 0x05, 256, 261, 0x03, 4, 8, 1, .wc, 0, .any, none, true⟩,
  ⟨"D2D_REPLAY_FAIL", 0x05, 256, 261, 0x04, 4, 8, 1, .wc, 0, .any, none, true⟩,
  ⟨"D2D_LANE_ERR_LIMIT", 0x05, 256, 261, 0x05, 2, 2, 1, .rw, 32, .range 1 65535, none, true⟩,
  ⟨"D2D_SPARE_MAP", 0x05, 256, 261, 0x06, 12, 2, 224, .ro, 0, .any, none, true⟩,
  ⟨"FI_ARM", 0x05, 512, 512, 0x01, 3, 4, 1, .wx, 0, .any, none, false⟩,
  ⟨"FI_STATE", 0x05, 512, 512, 0x02, 8, 2, 1, .ro, 0, .any, none, true⟩,
  ⟨"FI_DURATION", 0x05, 512, 512, 0x03, 3, 4, 1, .rw, 8000, .range 1 80000000, none, true⟩,
  ⟨"FI_LEFT", 0x05, 512, 512, 0x04, 3, 4, 1, .ro, 0, .any, none, true⟩,
  ⟨"FI_SLOT", 0x05, 512, 512, 0x05, 12, 16, 16, .rw, 0, .any, none, true⟩,
  ⟨"FI_HITS", 0x05, 512, 512, 0x06, 12, 8, 16, .wc, 0, .any, none, true⟩]

/-- Class 0x10 (02_line_optics_and_converters.md). -/
def dictClass10 : List ObjRow := [
  ⟨"OPT_TX_ENABLE", 0x10, 0, 3, 0x01, 8, 2, 1, .rw, 0, .range 0 1, none, true⟩,
  ⟨"OPT_TX_POWER", 0x10, 0, 3, 0x02, 5, 4, 1, .rw, 0xffffff38, .srange (-600) (100), none, true⟩,
  ⟨"OPT_TX_RAMP", 0x10, 0, 3, 0x03, 2, 2, 1, .rw, 100, .range 1 1000, none, true⟩,
  ⟨"OPT_TX_POWER_MEAS", 0x10, 0, 3, 0x04, 5, 4, 1, .ro, 0, .any, none, true⟩,
  ⟨"OPT_BIAS_STATE", 0x10, 0, 3, 0x05, 7, 4, 1, .ro, 0, .any, none, true⟩,
  ⟨"OPT_BIAS_FAIL_ACTION", 0x10, 0, 3, 0x06, 8, 2, 1, .rw, 1, .range 0 1, none, true⟩,
  ⟨"OPT_RX_POWER_MEAS", 0x10, 0, 3, 0x08, 5, 4, 1, .ro, 0, .any, none, true⟩,
  ⟨"OPT_LOS_THRESH", 0x10, 0, 3, 0x09, 5, 4, 1, .rw, 0xfffff768, .srange (-3000) (-1800), none, true⟩,
  ⟨"OPT_LOS_HYST", 0x10, 0, 3, 0x0a, 2, 2, 1, .rw, 200, .range 50 500, none, true⟩,
  ⟨"OPT_LOOPBACK", 0x10, 0, 3, 0x0b, 8, 2, 1, .rw, 0, .range 0 1, none, true⟩,
  ⟨"OPT_LASER_TX_MEAS", 0x10, 0, 3, 0x0c, 5, 4, 1, .ro, 0, .any, none, true⟩,
  ⟨"OPT_LASER_LO_MEAS", 0x10, 0, 3, 0x0d, 5, 4, 1, .ro, 0, .any, none, true⟩,
  ⟨"OPT_LASER_EN", 0x10, 0, 3, 0x0e, 8, 2, 1, .rw, 0, .range 0 1, none, true⟩,
  ⟨"CNV_STATE", 0x10, 0, 3, 0x10, 8, 2, 1, .ro, 0, .any, none, true⟩,
  ⟨"CNV_SAMPLE_RATE", 0x10, 0, 3, 0x11, 3, 4, 1, .ro, 0, .any, none, true⟩,
  ⟨"CNV_BG_CAL", 0x10, 0, 3, 0x12, 8, 2, 1, .rw, 1, .range 0 1, none, true⟩,
  ⟨"CNV_CAL_START", 0x10, 0, 3, 0x13, 8, 2, 1, .wx, 0, .range 0 3, none, false⟩,
  ⟨"CNV_CAL_STATUS", 0x10, 0, 3, 0x14, 8, 2, 1, .ro, 0, .any, none, true⟩,
  ⟨"CNV_CAL_IMAGE", 0x10, 0, 3, 0x15, 11, 8192, 1, .rw, 0, .any, none, true⟩,
  ⟨"LSPI_CFG", 0x10, 0, 3, 0x20, 3, 4, 1, .rw, 10, .any, some 0x3f, true⟩,
  ⟨"LSPI_XFER", 0x10, 0, 3, 0x21, 11, 64, 1, .wx, 0, .any, none, false⟩,
  ⟨"LSPI_RESULT", 0x10, 0, 3, 0x22, 11, 64, 1, .ro, 0, .any, none, true⟩,
  ⟨"LSPI_STATUS", 0x10, 0, 3, 0x23, 8, 2, 1, .ro, 0, .any, none, true⟩,
  ⟨"CNV_REF_STATUS", 0x10, 255, 255, 0x01, 7, 4, 1, .ro, 0, .any, none, true⟩,
  ⟨"CNV_REFIN_MEAS", 0x10, 255, 255, 0x02, 3, 4, 1, .ro, 0, .any, none, true⟩]

/-- Class 0x11 (03_line_dsp.md). -/
def dictClass11 : List ObjRow := [
  ⟨"LDSP_MODE", 0x11, 0, 3, 0x01, 8, 2, 1, .rw, 0, .oneOf [0, 1, 2, 3, 4, 5, 16, 17], none, true⟩,
  ⟨"LDSP_SUBCARRIERS", 0x11, 0, 3, 0x02, 2, 2, 1, .rw, 1, .oneOf [1, 4, 8, 16], none, true⟩,
  ⟨"LDSP_ROLLOFF", 0x11, 0, 3, 0x03, 2, 2, 1, .rw, 5, .range 1 20, none, true⟩,
  ⟨"LDSP_TX_NOTCH", 0x11, 0, 3, 0x04, 12, 4, 8, .rw, 0, .any, none, true⟩,
  ⟨"LDSP_TX_PREEMPH", 0x11, 0, 3, 0x05, 12, 2, 32, .rw, 0, .srange (-600) (600), none, true⟩,
  ⟨"LDSP_TX_STATUS", 0x11, 0, 3, 0x06, 7, 4, 1, .ro, 1, .any, none, true⟩,
  ⟨"LDSP_CD_MODE", 0x11, 0, 3, 0x10, 8, 2, 1, .rw, 0, .range 0 1, none, true⟩,
  ⟨"LDSP_CD_FIXED", 0x11, 0, 3, 0x11, 5, 4, 1, .rw, 0, .any, none, true⟩,
  ⟨"LDSP_CD_SEARCH_MIN", 0x11, 0, 3, 0x12, 5, 4, 1, .rw, 0xfffe2b40, .any, none, true⟩,
  ⟨"LDSP_CD_SEARCH_MAX", 0x11, 0, 3, 0x13, 5, 4, 1, .rw, 0x1d4c0, .any, none, true⟩,
  ⟨"LDSP_CD_EST", 0x11, 0, 3, 0x14, 5, 4, 1, .ro, 0, .any, none, true⟩,
  ⟨"LDSP_FREQ_EST", 0x11, 0, 3, 0x15, 5, 4, 1, .ro, 0, .any, none, true⟩,
  ⟨"LDSP_NLC_ENABLE", 0x11, 0, 3, 0x16, 8, 2, 1, .rw, 0, .range 0 1, none, true⟩,
  ⟨"LDSP_NLC_GAIN", 0x11, 0, 3, 0x17, 2, 2, 1, .rw, 100, .range 0 200, none, true⟩,
  ⟨"LDSP_SYNC_ERR_TOL", 0x11, 0, 3, 0x20, 2, 2, 1, .rw, 12, .range 0 32, none, true⟩,
  ⟨"LDSP_LOL_PILOT_THRESH", 0x11, 0, 3, 0x21, 2, 2, 1, .rw, 200, .range 50 500, none, true⟩,
  ⟨"LDSP_LOL_TICKS", 0x11, 0, 3, 0x22, 2, 2, 1, .rw, 2, .range 1 8, none, true⟩,
  ⟨"LDSP_LOL_SYNC_MISSES", 0x11, 0, 3, 0x23, 2, 2, 1, .rw, 4, .range 2 16, none, true⟩,
  ⟨"LDSP_ACQ_STATE", 0x11, 0, 3, 0x24, 8, 2, 1, .ro, 0, .any, none, true⟩,
  ⟨"LDSP_ACQ_CLASS", 0x11, 0, 3, 0x25, 8, 2, 1, .ro, 0, .any, none, true⟩,
  ⟨"LDSP_ACQ_RESTART", 0x11, 0, 3, 0x26, 8, 2, 1, .wx, 0, .range 1 2, none, false⟩,
  ⟨"LDSP_ACQ_LAST_TIME", 0x11, 0, 3, 0x27, 3, 4, 1, .ro, 0, .any, none, true⟩,
  ⟨"LDSP_INVALID_LEFT", 0x11, 0, 3, 0x28, 2, 2, 1, .ro, 0, .any, none, true⟩,
  ⟨"LDSP_STORE_AGE", 0x11, 0, 3, 0x29, 3, 4, 1, .ro, 0xffffffff, .any, none, true⟩,
  ⟨"LDSP_PREEMPT_COUNT", 0x11, 0, 3, 0x2a, 4, 8, 1, .wc, 0, .any, none, true⟩,
  ⟨"LDSP_FALSE_CAND_COUNT", 0x11, 0, 3, 0x2b, 4, 8, 1, .wc, 0, .any, none, true⟩,
  ⟨"LDSP_RETRY_COUNT", 0x11, 0, 3, 0x2c, 4, 8, 1, .wc, 0, .any, none, true⟩,
  ⟨"LDSP_LAST_METRIC", 0x11, 0, 3, 0x2d, 5, 4, 1, .ro, 0, .any, none, true⟩]

/-- Class 0x12 (04_fec_and_otn_framing.md). -/
def dictClass12 : List ObjRow := [
  ⟨"FEC_STATE", 0x12, 0, 3, 0x01, 8, 2, 1, .ro, 0, .any, none, true⟩,
  ⟨"FEC_CODE", 0x12, 0, 3, 0x02, 8, 2, 1, .ro, 0, .any, none, true⟩,
  ⟨"FEC_MAX_ITER", 0x12, 0, 3, 0x03, 2, 2, 1, .rw, 32, .range 1 32, none, true⟩,
  ⟨"FEC_ITER_LIMIT", 0x12, 0, 3, 0x04, 2, 2, 1, .ro, 0, .any, none, true⟩,
  ⟨"FEC_CORE_STATE", 0x12, 0, 3, 0x05, 7, 4, 1, .ro, 0, .any, none, true⟩,
  ⟨"FEC_CORES_WORKING", 0x12, 0, 3, 0x06, 2, 2, 1, .ro, 0, .any, none, true⟩,
  ⟨"FEC_CORE_RETEST", 0x12, 0, 3, 0x07, 2, 2, 1, .wx, 0, .range 0 24, none, false⟩,
  ⟨"FEC_CORE_FAIL_COUNT", 0x12, 0, 3, 0x08, 4, 8, 1, .wc, 0, .any, none, true⟩,
  ⟨"FEC_REDISPATCH_COUNT", 0x12, 0, 3, 0x09, 4, 8, 1, .wc, 0, .any, none, true⟩,
  ⟨"FEC_CW_COUNT", 0x12, 0, 3, 0x10, 4, 8, 1, .ro, 0, .any, none, true⟩,
  ⟨"FEC_CORR_BITS", 0x12, 0, 3, 0x11, 4, 8, 1, .wc, 0, .any, none, true⟩,
  ⟨"FEC_UNCORR_CW", 0x12, 0, 3, 0x12, 4, 8, 1, .wc, 0, .any, none, true⟩,
  ⟨"FEC_PREFEC_BER", 0x12, 0, 3, 0x13, 3, 4, 1, .ro, 0, .any, none, true⟩,
  ⟨"FEC_AVG_ITER", 0x12, 0, 3, 0x14, 2, 2, 1, .ro, 0, .any, none, true⟩,
  ⟨"FEC_FAIL_THRESH", 0x12, 0, 3, 0x15, 2, 2, 1, .rw, 100, .range 1 1000, none, true⟩,
  ⟨"FEC_FAIL_TICKS", 0x12, 0, 3, 0x16, 2, 2, 1, .rw, 1, .range 1 4, none, true⟩]

/-- Class 0x13 (04_fec_and_otn_framing.md). -/
def dictClass13 : List ObjRow := [
  ⟨"FRM_STATE", 0x13, 0, 3, 0x01, 8, 2, 1, .ro, 0, .any, none, true⟩,
  ⟨"FRM_N", 0x13, 0, 3, 0x02, 2, 2, 1, .ro, 0, .any, none, true⟩,
  ⟨"FRM_M", 0x13, 0, 3, 0x03, 2, 2, 1, .ro, 0, .any, none, true⟩,
  ⟨"FRM_FALSE_CAND_COUNT", 0x13, 0, 3, 0x04, 4, 8, 1, .wc, 0, .any, none, true⟩,
  ⟨"FRM_LOF_COUNT", 0x13, 0, 3, 0x05, 4, 8, 1, .wc, 0, .any, none, true⟩,
  ⟨"FRM_CRC_ERR_COUNT", 0x13, 0, 3, 0x06, 4, 8, 1, .wc, 0, .any, none, true⟩,
  ⟨"FRM_DESKEW", 0x13, 0, 3, 0x07, 3, 4, 1, .ro, 0, .any, none, true⟩,
  ⟨"FRM_SM_TTI_TX", 0x13, 0, 3, 0x08, 12, 64, 128, .rw, 0, .any, none, true⟩,
  ⟨"FRM_SM_TTI_EXP", 0x13, 0, 3, 0x09, 12, 64, 128, .rw, 0, .any, none, true⟩,
  ⟨"FRM_SM_TIM_ACT", 0x13, 0, 3, 0x0a, 8, 2, 1, .rw, 0, .range 0 1, none, true⟩,
  ⟨"FRM_SM_DEG_M", 0x13, 0, 3, 0x0b, 2, 2, 1, .rw, 7, .range 2 10, none, true⟩,
  ⟨"FRM_SM_DEG_THR", 0x13, 0, 3, 0x0c, 3, 4, 1, .rw, 0x30d40, .range 1 2000000, none, true⟩,
  ⟨"OH_FFF_TX_ENABLE", 0x13, 0, 3, 0x10, 8, 2, 1, .rw, 1, .range 0 1, none, true⟩,
  ⟨"OH_FFF_RX_ENABLE", 0x13, 0, 3, 0x11, 8, 2, 1, .rw, 0, .range 0 1, none, true⟩,
  ⟨"OH_FFF_TX_MAP", 0x13, 0, 3, 0x12, 11, 80, 1, .ro, 0, .any, none, true⟩,
  ⟨"OH_FFF_RX_MAP", 0x13, 0, 3, 0x13, 11, 80, 1, .ro, 0, .any, none, true⟩,
  ⟨"OH_GCC_ROUTE", 0x13, 255, 255, 0x01, 12, 4, 64, .rw, 0, .any, some 0xfff7ffff, true⟩,
  ⟨"OH_GCC_DROP", 0x13, 255, 255, 0x02, 12, 8, 64, .wc, 0, .any, none, true⟩,
  ⟨"OHP_CLK", 0x13, 256, 259, 0x01, 8, 2, 1, .rw, 0, .range 0 4, none, true⟩,
  ⟨"OHP_LOAD", 0x13, 256, 259, 0x02, 2, 2, 1, .ro, 0, .any, none, true⟩]

/-- Class 0x14 (09_line_encryption.md). -/
def dictClass14 : List ObjRow := [
  ⟨"SEC_CHAN", 0x14, 0, 3, 0x01, 12, 16, 1024, .ws, 0, .any, some 0xfe07ffff8007ffff8001ffff00000000, true⟩,
  ⟨"SEC_STATE", 0x14, 0, 3, 0x02, 12, 4, 1024, .ro, 0, .any, none, true⟩,
  ⟨"SEC_RX_EPOCH", 0x14, 0, 3, 0x03, 12, 4, 1024, .ro, 0, .any, none, true⟩,
  ⟨"SEC_TX_FC", 0x14, 0, 3, 0x04, 12, 8, 1024, .ro, 0, .any, none, true⟩,
  ⟨"SEC_AUTH_FAIL", 0x14, 0, 3, 0x05, 12, 8, 1024, .wc, 0, .any, none, true⟩,
  ⟨"SEC_REJECT", 0x14, 0, 3, 0x06, 12, 8, 1024, .wc, 0, .any, none, true⟩,
  ⟨"SEC_KEY_INSTALL", 0x14, 0, 3, 0x07, 11, 44, 1, .sec, 0, .any, none, false⟩,
  ⟨"SEC_ROLL", 0x14, 0, 3, 0x08, 2, 2, 1, .wx, 0, .range 0 1023, none, false⟩,
  ⟨"SEC_KEY_SOURCE", 0x14, 0, 3, 0x09, 8, 2, 1, .rw, 0, .range 0 1, none, true⟩,
  ⟨"SEC_PEER_ID", 0x14, 0, 3, 0x0a, 10, 32, 1, .sec, 0, .any, none, true⟩,
  ⟨"SEC_LINK_STATE", 0x14, 0, 3, 0x0b, 8, 2, 1, .ro, 0, .any, none, true⟩,
  ⟨"SEC_LINK_LIFE", 0x14, 0, 3, 0x0c, 3, 4, 1, .rw, 0x15180, .range 3600 2592000, none, true⟩,
  ⟨"SEC_LINK_START", 0x14, 0, 3, 0x0d, 8, 2, 1, .wx, 0, .range 1 1, none, false⟩,
  ⟨"SEC_KA_CAUSE", 0x14, 0, 3, 0x0e, 8, 2, 1, .ro, 0, .any, none, true⟩,
  ⟨"SEC_LINK_AGE", 0x14, 0, 3, 0x0f, 3, 4, 1, .ro, 0, .any, none, true⟩,
  ⟨"SEC_MAP", 0x14, 255, 255, 0x01, 12, 2, 80, .rw, 0, .range 0 1, none, true⟩,
  ⟨"SEC_ZEROISE", 0x14, 255, 255, 0x02, 8, 2, 1, .sec, 0, .range 1 1, none, false⟩,
  ⟨"SEC_ENTROPY_STATE", 0x14, 255, 255, 0x03, 8, 2, 1, .ro, 0, .any, none, true⟩]

/-- Class 0x20 (05_host_ports_and_mapping.md). -/
def dictClass20 : List ObjRow := [
  ⟨"HL_RATE", 0x20, 0, 63, 0x01, 8, 2, 1, .rw, 0, .range 0 10, none, true⟩,
  ⟨"HL_STATE", 0x20, 0, 63, 0x02, 8, 2, 1, .ro, 0, .any, none, true⟩,
  ⟨"HL_CFG", 0x20, 0, 63, 0x03, 7, 4, 1, .rw, 0, .any, some 0xf, true⟩,
  ⟨"HL_TX_TIMING", 0x20, 0, 63, 0x04, 8, 2, 1, .rw, 0, .range 0 2, none, true⟩,
  ⟨"HL_TX_DPLL", 0x20, 0, 63, 0x05, 2, 2, 1, .rw, 0, .range 0 3, none, true⟩,
  ⟨"HL_THRU_BW", 0x20, 0, 63, 0x06, 2, 2, 1, .rw, 100, .range 1 1000, none, true⟩,
  ⟨"HL_PRBS_CFG", 0x20, 0, 63, 0x07, 7, 4, 1, .rw, 0, .any, some 0xff, true⟩,
  ⟨"HL_PRBS_ERR", 0x20, 0, 63, 0x08, 4, 8, 1, .wc, 0, .any, none, true⟩,
  ⟨"HL_SNR", 0x20, 0, 63, 0x09, 2, 2, 1, .ro, 0, .any, none, true⟩,
  ⟨"HL_CELL_STATE", 0x20, 0, 63, 0x0a, 8, 2, 1, .ro, 0, .any, none, true⟩,
  ⟨"HOST_RCLK_SEL", 0x20, 255, 255, 0x01, 12, 2, 8, .rw, 0xffff, .any, none, true⟩,
  ⟨"HG_PLL_RATES", 0x20, 256, 263, 0x01, 7, 4, 1, .ro, 0, .any, none, true⟩]

/-- Class 0x21 (05_host_ports_and_mapping.md). -/
def dictClass21 : List ObjRow := [
  ⟨"CLI_TYPE", 0x21, 0, 63, 0x01, 8, 2, 1, .rw, 0, .range 0 19, none, true⟩,
  ⟨"CLI_FORM", 0x21, 0, 63, 0x02, 8, 2, 1, .rw, 0, .range 0 1, none, true⟩,
  ⟨"CLI_STATE", 0x21, 0, 63, 0x03, 8, 2, 1, .ro, 0, .any, none, true⟩,
  ⟨"CLI_DEFECTS", 0x21, 0, 63, 0x04, 7, 4, 1, .ro, 0, .any, none, true⟩,
  ⟨"CLI_FAIL_ACTION", 0x21, 0, 63, 0x05, 8, 2, 1, .rw, 0, .range 0 1, none, true⟩,
  ⟨"CLI_SDH_FLAVOUR", 0x21, 0, 63, 0x06, 8, 2, 1, .rw, 0, .range 0 1, none, true⟩,
  ⟨"CLI_SDH_STRUCT", 0x21, 0, 63, 0x07, 12, 4, 64, .rw, 0, .any, some 0xff, true⟩,
  ⟨"CLI_FEC_CORR", 0x21, 0, 63, 0x08, 4, 8, 1, .wc, 0, .any, none, true⟩,
  ⟨"CLI_FEC_UNCORR", 0x21, 0, 63, 0x09, 4, 8, 1, .wc, 0, .any, none, true⟩,
  ⟨"CLI_FLEXE_GROUP", 0x21, 0, 63, 0x0a, 2, 2, 1, .rw, 0xffff, .any, none, true⟩,
  ⟨"EXP_CELL_DISCARD", 0x21, 0, 63, 0x10, 4, 8, 1, .wc, 0, .any, none, true⟩,
  ⟨"EXP_HEC_ERR", 0x21, 0, 63, 0x11, 4, 8, 1, .wc, 0, .any, none, true⟩,
  ⟨"FXE_GROUP_ID", 0x21, 256, 263, 0x01, 3, 4, 1, .rw, 0, .range 1 1048574, none, true⟩,
  ⟨"FXE_CAL_A", 0x21, 256, 263, 0x02, 12, 2, 320, .ws, 0xffff, .any, none, true⟩,
  ⟨"FXE_CAL_B", 0x21, 256, 263, 0x03, 12, 2, 320, .ws, 0xffff, .any, none, true⟩,
  ⟨"FXE_CAL_ACTIVE", 0x21, 256, 263, 0x04, 8, 2, 1, .ro, 0, .any, none, true⟩,
  ⟨"VS_TYPE", 0x21, 512, 527, 0x01, 8, 2, 1, .rw, 0, .oneOf [0, 13, 14], none, true⟩,
  ⟨"VS_STRUCT", 0x21, 512, 527, 0x02, 12, 4, 64, .rw, 0, .any, some 0xff, true⟩]

/-- Class 0x30 (06_prism_switch.md). -/
def dictClass30 : List ObjRow := [
  ⟨"PRISM_STATE", 0x30, 0, 0, 0x01, 8, 2, 1, .ro, 0, .any, none, true⟩,
  ⟨"PRISM_SLICE_STATE", 0x30, 0, 0, 0x02, 12, 2, 17, .ro, 0, .any, none, true⟩,
  ⟨"PRISM_SLICE_ERR_LIMIT", 0x30, 0, 0, 0x03, 2, 2, 1, .rw, 64, .range 1 4096, none, true⟩,
  ⟨"PRISM_SLICE_RETEST", 0x30, 0, 0, 0x04, 2, 2, 1, .wx, 0, .range 0 16, none, false⟩,
  ⟨"PRISM_PARITY_ERR", 0x30, 0, 0, 0x05, 12, 8, 17, .wc, 0, .any, none, true⟩,
  ⟨"PRISM_REPLAY_COUNT", 0x30, 0, 0, 0x06, 4, 8, 1, .wc, 0, .any, none, true⟩,
  ⟨"PRISM_REPLAY_PEAK", 0x30, 0, 0, 0x07, 3, 4, 1, .wc, 0, .any, none, true⟩,
  ⟨"PRISM_SUBST_COUNT", 0x30, 0, 0, 0x08, 4, 8, 1, .wc, 0, .any, none, true⟩,
  ⟨"PRISM_CM_UNCORR", 0x30, 0, 0, 0x09, 4, 8, 1, .wc, 0, .any, none, true⟩,
  ⟨"PRISM_CM_FALLBACK", 0x30, 0, 0, 0x0a, 4, 8, 1, .wc, 0, .any, none, true⟩,
  ⟨"PRISM_HDR_BAD", 0x30, 0, 0, 0x0b, 4, 8, 1, .wc, 0, .any, none, true⟩,
  ⟨"PRISM_IN_USED", 0x30, 0, 0, 0x10, 3, 4, 1, .ro, 0, .any, none, true⟩,
  ⟨"PRISM_OUT_USED", 0x30, 0, 0, 0x11, 3, 4, 1, .ro, 0, .any, none, true⟩,
  ⟨"PRISM_SLICE_LOAD", 0x30, 0, 0, 0x12, 12, 4, 32, .ro, 0, .any, none, true⟩]

/-- Class 0x31 (06_prism_switch.md). -/
def dictClass31 : List ObjRow := [
  ⟨"PRISM_CONN", 0x31, 0, 0, 0x01, 12, 32, 0x80000, .ws, 0, .any, none, true⟩,
  ⟨"PRISM_PLACE_LIST", 0x31, 0, 0, 0x02, 12, 4, 0x100000, .ws, 0, .any, none, true⟩,
  ⟨"PRISM_CONN_ACTIVE", 0x31, 0, 0, 0x03, 12, 32, 0x80000, .ro, 0, .any, none, true⟩,
  ⟨"PRISM_COMPILE", 0x31, 0, 0, 0x04, 8, 2, 1, .wx, 0, .range 0 2, none, false⟩,
  ⟨"PRISM_COMPILE_STATE", 0x31, 0, 0, 0x05, 8, 2, 1, .ro, 0, .any, none, true⟩,
  ⟨"PRISM_COMPILE_ERR", 0x31, 0, 0, 0x06, 3, 4, 1, .ro, 0, .any, none, true⟩,
  ⟨"PRISM_COMPILE_TICKS", 0x31, 0, 0, 0x07, 3, 4, 1, .ro, 0, .any, none, true⟩,
  ⟨"PRISM_DIRTY_COUNT", 0x31, 0, 0, 0x08, 3, 4, 1, .ro, 0, .any, none, true⟩,
  ⟨"PRISM_CONN_STATE", 0x31, 0, 0, 0x09, 12, 4, 0x80000, .ro, 0, .any, none, true⟩,
  ⟨"PRISM_IN_OWNER", 0x31, 0, 1, 0x10, 12, 4, 0x1e84800, .ro, 0, .any, none, true⟩,
  ⟨"PRISM_OUT_OWNER", 0x31, 0, 1, 0x11, 12, 4, 0x1e84800, .ro, 0, .any, none, true⟩]

/-- Class 0x32 (07_shadow_sets_and_rearrangement.md). -/
def dictClass32 : List ObjRow := [
  ⟨"PRISM_SWAP_REQ", 0x32, 0, 0, 0x01, 8, 2, 1, .wx, 0, .range 1 1, none, false⟩,
  ⟨"PRISM_SWAP_AT", 0x32, 0, 0, 0x02, 4, 8, 1, .wx, 0, .any, none, false⟩,
  ⟨"PRISM_SWAP_CANCEL", 0x32, 0, 0, 0x03, 8, 2, 1, .wx, 0, .range 1 1, none, false⟩,
  ⟨"SHD_STATE", 0x32, 0, 0, 0x04, 8, 2, 1, .ro, 0, .any, none, true⟩,
  ⟨"SHD_GENERATION", 0x32, 0, 0, 0x05, 3, 4, 1, .ro, 0, .any, none, true⟩,
  ⟨"SHD_GEN_SHADOW", 0x32, 0, 0, 0x06, 3, 4, 1, .ro, 0, .any, none, true⟩,
  ⟨"SHD_EDITS", 0x32, 0, 0, 0x07, 3, 4, 1, .ro, 0, .any, none, true⟩,
  ⟨"SHD_SWAP_EPOCH", 0x32, 0, 0, 0x08, 4, 8, 1, .ro, 0, .any, none, true⟩,
  ⟨"SHD_LAST_SWAP_TICK", 0x32, 0, 0, 0x09, 4, 8, 1, .ro, 0, .any, none, true⟩,
  ⟨"SHD_SYNC_LEFT", 0x32, 0, 0, 0x0a, 3, 4, 1, .ro, 0, .any, none, true⟩,
  ⟨"SHD_REJECT", 0x32, 0, 0, 0x0b, 2, 2, 1, .ro, 0, .any, none, true⟩,
  ⟨"SHD_REVERT", 0x32, 0, 0, 0x0c, 8, 2, 1, .wx, 0, .range 1 1, none, false⟩,
  ⟨"SHD_DEFER_LIMIT", 0x32, 0, 0, 0x0d, 3, 4, 1, .rw, 2500, .range 1 250000, none, true⟩,
  ⟨"SHD_DEFER_COUNT", 0x32, 0, 0, 0x0e, 4, 8, 1, .wc, 0, .any, none, true⟩,
  ⟨"LINE_CHG", 0x32, 256, 259, 0x01, 12, 4, 16, .ro, 0, .any, none, true⟩,
  ⟨"LINE_CHG_RETRY", 0x32, 256, 259, 0x02, 2, 2, 1, .wx, 0, .range 0 15, none, false⟩,
  ⟨"SMX_LEAD", 0x32, 256, 259, 0x03, 2, 2, 1, .rw, 128, .range 8 4096, none, true⟩,
  ⟨"SMX_TIMEOUT", 0x32, 256, 259, 0x04, 2, 2, 1, .rw, 3360, .range 64 65535, none, true⟩]

/-- Class 0x33 (08_protection_and_mirror_merge.md). -/
def dictClass33 : List ObjRow := [
  ⟨"PG_CFG", 0x33, 0, 0, 0x01, 12, 32, 0x10000, .ws, 0, .any, none, true⟩,
  ⟨"PG_CMD", 0x33, 0, 0, 0x02, 12, 2, 0x10000, .ws, 0, .any, none, true⟩,
  ⟨"PG_PSC_HOLD", 0x33, 0, 0, 0x03, 3, 4, 1, .ws, 0x7a1200, .range 800000 80000000, none, true⟩,
  ⟨"PG_EXPORT", 0x33, 0, 0, 0x04, 12, 4, 64, .ws, 0, .any, none, true⟩,
  ⟨"PG_REMOTE", 0x33, 0, 0, 0x05, 12, 4, 64, .ws, 0, .any, none, true⟩,
  ⟨"PG_STATE", 0x33, 0, 0, 0x10, 12, 4, 0x10000, .ro, 0, .any, none, true⟩,
  ⟨"PG_TIMER_LEFT", 0x33, 0, 0, 0x11, 12, 4, 0x10000, .ro, 0, .any, none, true⟩,
  ⟨"PG_APS_TX", 0x33, 0, 0, 0x12, 12, 4, 0x10000, .ro, 0, .any, none, true⟩,
  ⟨"PG_APS_RX", 0x33, 0, 0, 0x13, 12, 4, 0x10000, .ro, 0, .any, none, true⟩,
  ⟨"PG_SWITCH_COUNT", 0x33, 0, 0, 0x14, 12, 4, 0x10000, .wc, 0, .any, none, true⟩,
  ⟨"PG_DBUS_REC", 0x33, 0, 0, 0x15, 12, 2, 0x20000, .ro, 0, .any, none, true⟩]

/-- Class 0x34 (08_protection_and_mirror_merge.md). -/
def dictClass34 : List ObjRow := [
  ⟨"MM_SEQ_TX", 0x34, 0, 0, 0x01, 12, 4, 2048, .rw, 0, .any, some 0x8007ffff, true⟩,
  ⟨"MM_STATE", 0x34, 0, 0, 0x02, 12, 4, 2048, .ro, 0, .any, none, true⟩,
  ⟨"MM_FROM_OTHER", 0x34, 0, 0, 0x03, 12, 8, 2048, .wc, 0, .any, none, true⟩,
  ⟨"MM_BOTH_BAD", 0x34, 0, 0, 0x04, 12, 8, 2048, .wc, 0, .any, none, true⟩,
  ⟨"MM_AUTO_RETIME", 0x34, 0, 0, 0x05, 8, 2, 1, .rw, 1, .range 0 1, none, true⟩,
  ⟨"MM_RETIME_WAIT", 0x34, 0, 0, 0x06, 3, 4, 1, .rw, 0xc3500, .range 8000 80000000, none, true⟩,
  ⟨"MM_RETIME", 0x34, 0, 0, 0x07, 2, 2, 1, .wx, 0, .range 0 2047, none, false⟩,
  ⟨"MM_HBM_ERR_LIMIT", 0x34, 0, 0, 0x08, 2, 2, 1, .rw, 16, .range 1 4096, none, true⟩,
  ⟨"MM_RESERVED", 0x34, 0, 0, 0x09, 3, 4, 1, .ro, 0, .any, none, true⟩,
  ⟨"MM_RATE_USED", 0x34, 0, 0, 0x0a, 3, 4, 1, .ro, 0, .any, none, true⟩]

/-- Class 0x40 (10_timing_and_references.md). -/
def dictClass40 : List ObjRow := [
  ⟨"TM_DP_MODE", 0x40, 0, 3, 0x01, 8, 2, 1, .rw, 0, .range 0 2, none, true⟩,
  ⟨"TM_DP_STATE", 0x40, 0, 3, 0x02, 8, 2, 1, .ro, 0, .any, none, true⟩,
  ⟨"TM_DP_PRIO", 0x40, 0, 3, 0x03, 12, 2, 20, .rw, 0, .range 0 15, none, true⟩,
  ⟨"TM_DP_LOCKOUT", 0x40, 0, 3, 0x04, 7, 4, 1, .rw, 0, .any, some 0xfffff, true⟩,
  ⟨"TM_DP_FORCE", 0x40, 0, 3, 0x05, 2, 2, 1, .rw, 0xffff, .any, none, true⟩,
  ⟨"TM_DP_QL_EN", 0x40, 0, 3, 0x06, 8, 2, 1, .rw, 1, .range 0 1, none, true⟩,
  ⟨"TM_DP_REVERT", 0x40, 0, 3, 0x07, 8, 2, 1, .rw, 1, .range 0 1, none, true⟩,
  ⟨"TM_DP_SELECTED", 0x40, 0, 3, 0x08, 2, 2, 1, .ro, 0xffff, .any, none, true⟩,
  ⟨"TM_DP_OUT_QL", 0x40, 0, 3, 0x09, 8, 2, 1, .ro, 11, .any, none, true⟩,
  ⟨"TM_DP_OWN_QL", 0x40, 0, 3, 0x0a, 8, 2, 1, .rw, 11, .range 1 14, none, true⟩,
  ⟨"TM_DP_BW", 0x40, 0, 3, 0x0b, 3, 4, 1, .rw, 1000, .range 1 100000, none, true⟩,
  ⟨"TM_DP_PSL", 0x40, 0, 3, 0x0c, 3, 4, 1, .rw, 7500, .range 1 100000, none, true⟩,
  ⟨"TM_DP_PHASE_ADJ", 0x40, 0, 3, 0x0d, 6, 8, 1, .wx, 0, .srange (-10000000000) (10000000000), none, false⟩,
  ⟨"TM_DP_PHASE_LEFT", 0x40, 0, 3, 0x0e, 6, 8, 1, .ro, 0, .any, none, true⟩,
  ⟨"TM_DP_FREQ_ADJ", 0x40, 0, 3, 0x0f, 6, 8, 1, .rw, 0, .any, none, true⟩,
  ⟨"TM_HO_WINDOW", 0x40, 0, 3, 0x10, 2, 2, 1, .rw, 900, .range 10 900, none, true⟩,
  ⟨"TM_HO_GUARD", 0x40, 0, 3, 0x11, 2, 2, 1, .rw, 120, .range 0 300, none, true⟩,
  ⟨"TM_HO_QUALITY", 0x40, 0, 3, 0x12, 8, 2, 1, .ro, 0, .any, none, true⟩,
  ⟨"TM_HO_VALUE", 0x40, 0, 3, 0x13, 6, 8, 1, .ro, 0, .any, none, true⟩,
  ⟨"TM_QL_OPTION", 0x40, 255, 255, 0x01, 8, 2, 1, .rw, 1, .range 1 2, none, true⟩,
  ⟨"TM_FOFF_XO", 0x40, 255, 255, 0x02, 3, 4, 1, .rw, 9200, .range 100 100000, none, true⟩,
  ⟨"TM_FOFF_PEER", 0x40, 255, 255, 0x03, 3, 4, 1, .rw, 50, .range 1 10000, none, true⟩,
  ⟨"TM_FOFF_SOAK", 0x40, 255, 255, 0x04, 2, 2, 1, .rw, 20, .range 1 600, none, true⟩,
  ⟨"TM_DRIFT_RATE", 0x40, 255, 255, 0x05, 3, 4, 1, .rw, 50, .range 1 10000, none, true⟩,
  ⟨"TM_DRIFT_WIN", 0x40, 255, 255, 0x06, 2, 2, 1, .rw, 16, .range 4 64, none, true⟩,
  ⟨"TM_DRIFT_SOAK", 0x40, 255, 255, 0x07, 2, 2, 1, .rw, 4, .range 1 60, none, true⟩,
  ⟨"TM_XO_FREQ", 0x40, 255, 255, 0x08, 3, 4, 1, .rw, 0x989680, .range 10000000 100000000, none, true⟩,
  ⟨"TM_XO_STATE", 0x40, 255, 255, 0x09, 8, 2, 1, .ro, 0, .any, none, true⟩,
  ⟨"TM_TOD_SET", 0x40, 255, 255, 0x0a, 4, 8, 1, .wx, 0, .any, none, false⟩,
  ⟨"TM_TOD_TRACE", 0x40, 255, 255, 0x0b, 8, 2, 1, .ro, 0, .any, none, true⟩,
  ⟨"TM_PTP_TRACE", 0x40, 255, 255, 0x0c, 8, 2, 1, .rw, 0, .range 0 1, none, true⟩,
  ⟨"TM_TS_RING", 0x40, 255, 255, 0x0d, 12, 16, 4096, .ro, 0, .any, none, true⟩,
  ⟨"TM_TS_WR", 0x40, 255, 255, 0x0e, 2, 2, 1, .ro, 0, .any, none, true⟩,
  ⟨"TM_TS_OVF", 0x40, 255, 255, 0x0f, 4, 8, 1, .wc, 0, .any, none, true⟩,
  ⟨"TM_REF_STATE", 0x40, 256, 275, 0x01, 8, 2, 1, .ro, 0, .any, none, true⟩,
  ⟨"TM_REF_FREQ", 0x40, 256, 275, 0x02, 4, 8, 1, .rw, 0x2540be400, .range 8000000 800000000000, none, true⟩,
  ⟨"TM_REF_QL_MODE", 0x40, 256, 275, 0x03, 8, 2, 1, .rw, 0, .range 0 2, none, true⟩,
  ⟨"TM_REF_QL_FIXED", 0x40, 256, 275, 0x04, 8, 2, 1, .rw, 11, .range 1 14, none, true⟩,
  ⟨"TM_REF_QL", 0x40, 256, 275, 0x05, 8, 2, 1, .ro, 0, .any, none, true⟩,
  ⟨"TM_REF_WTR", 0x40, 256, 275, 0x06, 2, 2, 1, .rw, 300, .range 0 720, none, true⟩,
  ⟨"TM_REF_FOFF", 0x40, 256, 275, 0x07, 5, 4, 1, .ro, 0, .any, none, true⟩,
  ⟨"TM_REF_DRIFT", 0x40, 256, 275, 0x08, 5, 4, 1, .ro, 0, .any, none, true⟩,
  ⟨"TM_REF_DQ_TICK", 0x40, 256, 275, 0x09, 4, 8, 1, .ro, 0, .any, none, true⟩,
  ⟨"TM_PPS_IN_COMP", 0x40, 256, 275, 0x0a, 5, 4, 1, .rw, 0, .srange (-1000000) (1000000), none, true⟩,
  ⟨"TM_PPS_WIN", 0x40, 256, 275, 0x0b, 3, 4, 1, .rw, 0x2710, .range 100 10000000, none, true⟩,
  ⟨"TM_OUT_SRC", 0x40, 512, 521, 0x01, 2, 2, 1, .rw, 0, .range 0 3, none, true⟩,
  ⟨"TM_OUT_FREQ", 0x40, 512, 521, 0x02, 4, 8, 1, .rw, 0x2540be400, .range 1000 800000000000, none, true⟩,
  ⟨"TM_OUT_SQUELCH", 0x40, 512, 521, 0x03, 8, 2, 1, .rw, 0, .range 0 2, none, true⟩,
  ⟨"TM_PPS_SRC", 0x40, 768, 769, 0x01, 2, 2, 1, .rw, 0, .range 0 3, none, true⟩,
  ⟨"TM_PPS_ALIGN", 0x40, 768, 769, 0x02, 8, 2, 1, .rw, 0, .range 0 2, none, true⟩,
  ⟨"TM_PPS_OFFSET", 0x40, 768, 769, 0x03, 6, 8, 1, .rw, 0, .srange (-5000000000) (5000000000), none, true⟩,
  ⟨"TM_PPS_WIDTH", 0x40, 768, 769, 0x04, 3, 4, 1, .rw, 0xf4240, .range 1000 5000000000, none, true⟩,
  ⟨"TM_TS_CFG", 0x40, 1024, 1087, 0x01, 8, 2, 1, .rw, 0, .range 0 2, none, true⟩,
  ⟨"TM_TS_COMP", 0x40, 1024, 1087, 0x02, 12, 4, 2, .rw, 0, .srange (-100000) (100000), none, true⟩,
  ⟨"TM_ESMC_TX", 0x40, 1024, 1087, 0x03, 8, 2, 1, .rw, 0, .range 0 1, none, true⟩,
  ⟨"TM_S1_TX", 0x40, 1024, 1087, 0x04, 8, 2, 1, .rw, 0, .range 0 1, none, true⟩]

/-- Class 0x50 (11_measurement_and_monitoring.md). -/
def dictClass50 : List ObjRow := [
  ⟨"MEAS_VALID", 0x50, 0, 3, 0x01, 7, 4, 1, .ro, 0, .any, none, true⟩,
  ⟨"MEAS_OSNR", 0x50, 0, 3, 0x02, 5, 4, 1, .ro, 0, .any, none, true⟩,
  ⟨"MEAS_CD", 0x50, 0, 3, 0x03, 5, 4, 1, .ro, 0, .any, none, true⟩,
  ⟨"MEAS_FIBRE_D", 0x50, 0, 3, 0x04, 2, 2, 1, .rw, 1670, .range 100 2500, none, true⟩,
  ⟨"MEAS_FIBRE_LEN", 0x50, 0, 3, 0x05, 3, 4, 1, .ro, 0, .any, none, true⟩,
  ⟨"MEAS_DGD", 0x50, 0, 3, 0x06, 3, 4, 1, .ro, 0, .any, none, true⟩,
  ⟨"MEAS_PDL", 0x50, 0, 3, 0x07, 2, 2, 1, .ro, 0, .any, none, true⟩,
  ⟨"MEAS_SIG_POWER", 0x50, 0, 3, 0x08, 5, 4, 1, .ro, 0, .any, none, true⟩,
  ⟨"MEAS_RTD_CONN", 0x50, 0, 3, 0x09, 3, 4, 1, .rw, 0xffffffff, .any, none, true⟩,
  ⟨"MEAS_RTD", 0x50, 0, 3, 0x0a, 3, 4, 1, .ro, 0, .any, none, true⟩,
  ⟨"PSC_ENABLE", 0x50, 0, 3, 0x10, 8, 2, 1, .rw, 1, .range 0 1, none, true⟩,
  ⟨"PSC_MECH_THR", 0x50, 0, 3, 0x11, 3, 4, 1, .rw, 5000, .range 100 1000000, none, true⟩,
  ⟨"PSC_FAST_THR", 0x50, 0, 3, 0x12, 3, 4, 1, .rw, 0x30d40, .range 10000 20000000, none, true⟩,
  ⟨"PSC_QUIET", 0x50, 0, 3, 0x13, 3, 4, 1, .rw, 0xc3500, .range 8000 80000000, none, true⟩,
  ⟨"PSC_STATE", 0x50, 0, 3, 0x14, 8, 2, 1, .ro, 0, .any, none, true⟩,
  ⟨"PSC_SPEED", 0x50, 0, 3, 0x15, 3, 4, 1, .ro, 0, .any, none, true⟩,
  ⟨"PSC_LAST", 0x50, 0, 3, 0x16, 3, 4, 1, .ro, 0, .any, none, true⟩,
  ⟨"PSC_COUNT", 0x50, 0, 3, 0x17, 12, 8, 3, .wc, 0, .any, none, true⟩,
  ⟨"LOUPE_SIZE", 0x50, 255, 255, 0x01, 3, 4, 1, .rw, 0, .range 0 4096, none, true⟩,
  ⟨"LOUPE_SRC", 0x50, 255, 255, 0x02, 8, 2, 1, .rw, 0, .range 0 4, none, true⟩,
  ⟨"LOUPE_SEL", 0x50, 255, 255, 0x03, 3, 4, 1, .rw, 0, .any, none, true⟩,
  ⟨"LOUPE_TRIG", 0x50, 255, 255, 0x04, 3, 4, 1, .rw, 0, .any, some 0xf001ffff, true⟩,
  ⟨"LOUPE_TRIG_MATCH", 0x50, 255, 255, 0x05, 3, 4, 1, .rw, 0, .any, none, true⟩,
  ⟨"LOUPE_TRIG_TICK", 0x50, 255, 255, 0x06, 4, 8, 1, .rw, 0, .any, none, true⟩,
  ⟨"LOUPE_PRE", 0x50, 255, 255, 0x07, 2, 2, 1, .rw, 50, .range 0 100, none, true⟩,
  ⟨"LOUPE_ARM", 0x50, 255, 255, 0x08, 8, 2, 1, .wx, 0, .range 0 1, none, false⟩,
  ⟨"LOUPE_FIRE", 0x50, 255, 255, 0x09, 8, 2, 1, .wx, 0, .range 1 1, none, false⟩,
  ⟨"LOUPE_STATE", 0x50, 255, 255, 0x0a, 8, 2, 1, .ro, 0, .any, none, true⟩,
  ⟨"LOUPE_INFO", 0x50, 255, 255, 0x0b, 12, 8, 4, .ro, 0, .any, none, true⟩,
  ⟨"LOUPE_DATA", 0x50, 255, 255, 0x0c, 12, 16, 0x10000000, .ro, 0, .any, none, true⟩,
  ⟨"LOUPE_TRIG_MISSED", 0x50, 255, 255, 0x0d, 4, 8, 1, .wc, 0, .any, none, true⟩]

/-- Class 0x51 (11_measurement_and_monitoring.md). -/
def dictClass51 : List ObjRow := [
  ⟨"HK_CH_INPUT", 0x51, 0, 63, 0x01, 2, 2, 1, .rw, 0xffff, .any, none, true⟩,
  ⟨"HK_CH_GAIN", 0x51, 0, 63, 0x02, 8, 2, 1, .rw, 0, .range 0 3, none, true⟩,
  ⟨"HK_CH_FILTER", 0x51, 0, 63, 0x03, 3, 4, 1, .rw, 4, .any, some 0x1fff, true⟩,
  ⟨"HK_CH_FIR", 0x51, 0, 63, 0x04, 12, 4, 64, .rw, 0, .any, none, true⟩,
  ⟨"HK_CH_DELAY", 0x51, 0, 63, 0x05, 2, 2, 1, .rw, 0, .any, none, true⟩,
  ⟨"HK_CH_LOW", 0x51, 0, 63, 0x06, 5, 4, 1, .rw, 0xff800000, .srange (-8388608) (8388607), none, true⟩,
  ⟨"HK_CH_HIGH", 0x51, 0, 63, 0x07, 5, 4, 1, .rw, 0x7fffff, .srange (-8388608) (8388607), none, true⟩,
  ⟨"HK_CH_HYST", 0x51, 0, 63, 0x08, 3, 4, 1, .rw, 0, .any, none, true⟩,
  ⟨"HK_CH_LAST", 0x51, 0, 63, 0x09, 3, 4, 1, .ro, 0, .any, none, true⟩,
  ⟨"HK_CH_GD", 0x51, 0, 63, 0x0a, 3, 4, 1, .ro, 0, .any, none, true⟩,
  ⟨"HK_CH_INVALID", 0x51, 0, 63, 0x0b, 2, 2, 1, .ro, 0, .any, none, true⟩,
  ⟨"HK_INTERLEAVE", 0x51, 255, 255, 0x01, 7, 4, 1, .rw, 0, .any, some 0x7f, true⟩,
  ⟨"HK_RING", 0x51, 255, 255, 0x02, 12, 4, 0x4000, .ro, 0, .any, none, true⟩,
  ⟨"HK_RING_WR", 0x51, 255, 255, 0x03, 2, 2, 1, .ro, 0, .any, none, true⟩,
  ⟨"HK_RING_OVF", 0x51, 255, 255, 0x04, 4, 8, 1, .wc, 0, .any, none, true⟩,
  ⟨"HK_SEQ_MODE", 0x51, 256, 271, 0x01, 8, 2, 1, .rw, 0, .range 0 2, none, true⟩,
  ⟨"HK_SEQ_STEPS", 0x51, 256, 271, 0x02, 12, 4, 16, .rw, 0, .any, some 0xbf00ffff, true⟩,
  ⟨"HK_SEQ_POLICY", 0x51, 256, 271, 0x03, 8, 2, 1, .rw, 0, .range 0 1, none, true⟩,
  ⟨"HK_SEQ_PERIOD", 0x51, 256, 271, 0x04, 3, 4, 1, .rw, 0, .any, none, true⟩,
  ⟨"HK_SEQ_FIRE", 0x51, 256, 271, 0x05, 8, 2, 1, .wx, 0, .range 1 1, none, false⟩,
  ⟨"HK_SEQ_STATE", 0x51, 256, 271, 0x06, 8, 2, 1, .ro, 0, .any, none, true⟩,
  ⟨"HK_SEQ_OVERRUN", 0x51, 256, 271, 0x07, 4, 8, 1, .wc, 0, .any, none, true⟩,
  ⟨"HK_SEQ_PARTIAL", 0x51, 256, 271, 0x08, 4, 8, 1, .wc, 0, .any, none, true⟩]

/-- Class 0x52 (11_measurement_and_monitoring.md). -/
def dictClass52 : List ObjRow := [
  ⟨"PM_POINT", 0x52, 0, 0, 0x01, 12, 4, 0x20000, .rw, 0, .any, none, true⟩,
  ⟨"PM_PROFILE", 0x52, 0, 0, 0x02, 12, 64, 32, .ws, 0, .any, none, true⟩,
  ⟨"PM_UTC_OFFSET", 0x52, 0, 0, 0x03, 2, 2, 1, .rw, 37, .range 0 255, none, true⟩,
  ⟨"PM_DAY_OFFSET", 0x52, 0, 0, 0x04, 3, 4, 1, .rw, 0, .range 0 85500, none, true⟩,
  ⟨"PM_CUR", 0x52, 0, 0, 0x05, 12, 48, 0x40000, .ro, 0, .any, none, true⟩,
  ⟨"PM_HIST_15", 0x52, 0, 0, 0x06, 12, 48, 0xc00000, .ro, 0, .any, none, true⟩,
  ⟨"PM_HIST_24", 0x52, 0, 0, 0x07, 12, 48, 0xe0000, .ro, 0, .any, none, true⟩,
  ⟨"PM_SD_STATE", 0x52, 0, 0, 0x08, 12, 4, 0x20000, .ro, 0, .any, none, true⟩,
  ⟨"PM_HIST_LOST", 0x52, 0, 0, 0x09, 4, 8, 1, .wc, 0, .any, none, true⟩]

/-- Class 0x60 (12_quemus_and_vyusk.md). -/
def dictClass60 : List ObjRow := [
  ⟨"QM_SESSIONS", 0x60, 0, 0, 0x01, 12, 4, 16, .ro, 0, .any, none, true⟩,
  ⟨"QM_ROLE_KEY", 0x60, 0, 0, 0x02, 12, 36, 32, .sec, 0, .any, none, true⟩,
  ⟨"QM_PCIE_ROLE", 0x60, 0, 0, 0x03, 8, 2, 1, .sec, 2, .range 0 2, none, true⟩,
  ⟨"QM_SESSION_IDLE", 0x60, 0, 0, 0x04, 3, 4, 1, .rw, 3600, .range 10 86400, none, true⟩,
  ⟨"QM_REQ_COUNT", 0x60, 0, 0, 0x05, 4, 8, 1, .ro, 0, .any, none, true⟩,
  ⟨"QM_STATUS_COUNT", 0x60, 0, 0, 0x06, 12, 8, 10, .wc, 0, .any, none, true⟩,
  ⟨"QM_AUTH_FAIL", 0x60, 0, 0, 0x07, 4, 8, 1, .wc, 0, .any, none, true⟩,
  ⟨"VY_ROLE", 0x60, 1, 1, 0x01, 8, 2, 1, .rw, 0, .range 0 2, none, true⟩,
  ⟨"VY_NODE", 0x60, 1, 1, 0x02, 2, 2, 1, .ro, 0, .any, none, true⟩,
  ⟨"VY_RING_ID", 0x60, 1, 1, 0x03, 2, 2, 1, .rw, 0, .any, none, true⟩,
  ⟨"VY_STATE", 0x60, 1, 1, 0x04, 8, 2, 1, .ro, 0, .any, none, true⟩,
  ⟨"VY_MASTER", 0x60, 1, 1, 0x05, 2, 2, 1, .ro, 0xffff, .any, none, true⟩,
  ⟨"VY_PRESENT", 0x60, 1, 1, 0x06, 4, 8, 1, .ro, 0, .any, none, true⟩,
  ⟨"VY_TOPO", 0x60, 1, 1, 0x07, 2, 2, 1, .ro, 0, .any, none, true⟩,
  ⟨"VY_URG_TICKS", 0x60, 1, 1, 0x08, 2, 2, 1, .ro, 2, .any, none, true⟩,
  ⟨"VY_LOOP", 0x60, 1, 1, 0x09, 12, 4, 2, .ro, 0, .any, none, true⟩,
  ⟨"VY_MISSES", 0x60, 1, 1, 0x0a, 12, 2, 64, .ro, 0, .any, none, true⟩,
  ⟨"VY_PORT_STATE", 0x60, 1, 1, 0x0b, 12, 2, 2, .ro, 0, .any, none, true⟩,
  ⟨"VY_CRC_ERR", 0x60, 1, 1, 0x0c, 12, 8, 2, .wc, 0, .any, none, true⟩,
  ⟨"VY_FOREIGN", 0x60, 1, 1, 0x0d, 4, 8, 1, .wc, 0, .any, none, true⟩,
  ⟨"VY_URG_DEFER", 0x60, 1, 1, 0x0e, 4, 8, 1, .wc, 0, .any, none, true⟩]

/-- Class 0x61 (12_quemus_and_vyusk.md). -/
def dictClass61 : List ObjRow := [
  ⟨"EV_CATALOGUE", 0x61, 0, 0, 0x01, 12, 32, 2048, .ro, 0, .any, none, true⟩,
  ⟨"EV_SUBS", 0x61, 0, 0, 0x02, 12, 2, 1088, .ro, 0, .any, none, true⟩,
  ⟨"EV_DROPPED", 0x61, 0, 0, 0x03, 4, 8, 1, .wc, 0, .any, none, true⟩,
  ⟨"ALM_ACTIVE", 0x61, 0, 0, 0x04, 12, 16, 8192, .ro, 0, .any, none, true⟩,
  ⟨"ALM_COUNT", 0x61, 0, 0, 0x05, 3, 4, 1, .ro, 0, .any, none, true⟩]

/-- The rows of one class. -/
def dictClass (c : Nat) : List ObjRow :=
  match c with
  | 0x00 => dictClass00
  | 0x01 => dictClass01
  | 0x02 => dictClass02
  | 0x03 => dictClass03
  | 0x04 => dictClass04
  | 0x05 => dictClass05
  | 0x10 => dictClass10
  | 0x11 => dictClass11
  | 0x12 => dictClass12
  | 0x13 => dictClass13
  | 0x14 => dictClass14
  | 0x20 => dictClass20
  | 0x21 => dictClass21
  | 0x30 => dictClass30
  | 0x31 => dictClass31
  | 0x32 => dictClass32
  | 0x33 => dictClass33
  | 0x34 => dictClass34
  | 0x40 => dictClass40
  | 0x50 => dictClass50
  | 0x51 => dictClass51
  | 0x52 => dictClass52
  | 0x60 => dictClass60
  | 0x61 => dictClass61
  | _ => []

/-- The row that describes an object, where the object exists (R413). -/
def dictFind (c i m : Nat) : Option ObjRow :=
  (dictClass c).find? fun r => decide (r.m = m) && decide (r.lo ≤ i) && decide (i ≤ r.hi)

/-- Whether a fixed monitored point exists (R275): it is in no reserved range. -/
def pointExists (p : Nat) : Bool :=
  decide (p ≤ 95) || (decide (128 ≤ p) && decide (p ≤ 639)) || (decide (960 ≤ p) && decide (p ≤ 1023))

/-- PWR_DOM_STATE after reset (R484): LE, HG, CR and MM are Off; HBM, PRISM and MGT are On. -/
def domResetState (d : Nat) : Nat := if d ≤ 15 ∨ d = 17 then 3 else 0

/-- SIO_T after reset (R454). -/
def sioResetT (g : Nat) : Nat := if g = 2 then 16 else 8

/-- What an object reads as while nothing has been written to it: the default of its row (R14, R417), with the rows whose
default depends on the instance or index. An address that names no object reads as 0. -/
def objDefault (k : Key) : Nat :=
  match dictFind k.c k.i k.m with
  | none => 0
  | some r =>
    if r.c = 0x02 ∧ r.m = 0x03 ∧ r.hi = 19 then domResetState k.i
    else if r.c = 0x05 ∧ r.m = 0x01 ∧ r.hi = 7 then sioResetT k.i
    else if r.c = 0x61 ∧ r.m = 0x02 then (if k.x = 1024 then 0xFFFF else 0)
    else if r.c = 0x51 ∧ r.m = 0x01 ∧ r.hi = 63 then (if k.i = 44 then 0 else if k.i = 45 then 13 else if k.i = 46 then 14 else 0xFFFF)
    else if r.c = 0x52 ∧ r.m = 0x01 then (if k.x < 1024 ∧ pointExists k.x then 2 ^ 31 else 0)
    else r.dflt

end Sys2Proof.Machine
end

