-- ==== Sys2Proof/Machine/Objects.lean ====
section
/-! DEFINITION. The key of every object the spec's object tables name (R26, R80, R124, R162, R163, R196, R197, R243, R244,
R273, R312, R313, R344, R372, R409 to R411, R450 to R452, R478, R505, R540, R541). -/

namespace Sys2Proof.Machine

abbrev Obj.TB_TICK : Key := ⟨0x01, 0, 0x01, 0⟩
abbrev Obj.TB_EPOCH : Key := ⟨0x01, 0, 0x02, 0⟩
abbrev Obj.TB_TOD : Key := ⟨0x01, 0, 0x03, 0⟩
abbrev Obj.TB_ALIGN_MODE : Key := ⟨0x01, 0, 0x04, 0⟩
abbrev Obj.TB_TICK_LOAD : Key := ⟨0x01, 0, 0x05, 0⟩
abbrev Obj.TB_STATE : Key := ⟨0x01, 0, 0x06, 0⟩
abbrev Obj.TB_OVR_STATUS : Key := ⟨0x01, 0, 0x10, 0⟩
abbrev Obj.TB_OVR_COUNT (x : Nat) : Key := ⟨0x01, 0, 0x11, x⟩
abbrev Obj.TB_OVR_LAST (x : Nat) : Key := ⟨0x01, 0, 0x12, x⟩
abbrev Obj.TB_BOND_CFG : Key := ⟨0x01, 0, 0x20, 0⟩
abbrev Obj.TB_BOND_STATE : Key := ⟨0x01, 0, 0x21, 0⟩
abbrev Obj.TB_ENGINE_SKEW (x : Nat) : Key := ⟨0x01, 0, 0x22, x⟩
abbrev Obj.OPT_TX_ENABLE (i : Nat) : Key := ⟨0x10, i, 0x01, 0⟩
abbrev Obj.OPT_TX_POWER (i : Nat) : Key := ⟨0x10, i, 0x02, 0⟩
abbrev Obj.OPT_TX_RAMP (i : Nat) : Key := ⟨0x10, i, 0x03, 0⟩
abbrev Obj.OPT_TX_POWER_MEAS (i : Nat) : Key := ⟨0x10, i, 0x04, 0⟩
abbrev Obj.OPT_BIAS_STATE (i : Nat) : Key := ⟨0x10, i, 0x05, 0⟩
abbrev Obj.OPT_BIAS_FAIL_ACTION (i : Nat) : Key := ⟨0x10, i, 0x06, 0⟩
abbrev Obj.OPT_RX_POWER_MEAS (i : Nat) : Key := ⟨0x10, i, 0x08, 0⟩
abbrev Obj.OPT_LOS_THRESH (i : Nat) : Key := ⟨0x10, i, 0x09, 0⟩
abbrev Obj.OPT_LOS_HYST (i : Nat) : Key := ⟨0x10, i, 0x0a, 0⟩
abbrev Obj.OPT_LOOPBACK (i : Nat) : Key := ⟨0x10, i, 0x0b, 0⟩
abbrev Obj.OPT_LASER_TX_MEAS (i : Nat) : Key := ⟨0x10, i, 0x0c, 0⟩
abbrev Obj.OPT_LASER_LO_MEAS (i : Nat) : Key := ⟨0x10, i, 0x0d, 0⟩
abbrev Obj.OPT_LASER_EN (i : Nat) : Key := ⟨0x10, i, 0x0e, 0⟩
abbrev Obj.CNV_STATE (i : Nat) : Key := ⟨0x10, i, 0x10, 0⟩
abbrev Obj.CNV_SAMPLE_RATE (i : Nat) : Key := ⟨0x10, i, 0x11, 0⟩
abbrev Obj.CNV_BG_CAL (i : Nat) : Key := ⟨0x10, i, 0x12, 0⟩
abbrev Obj.CNV_CAL_START (i : Nat) : Key := ⟨0x10, i, 0x13, 0⟩
abbrev Obj.CNV_CAL_STATUS (i : Nat) : Key := ⟨0x10, i, 0x14, 0⟩
abbrev Obj.CNV_CAL_IMAGE (i : Nat) : Key := ⟨0x10, i, 0x15, 0⟩
abbrev Obj.LSPI_CFG (i : Nat) : Key := ⟨0x10, i, 0x20, 0⟩
abbrev Obj.LSPI_XFER (i : Nat) : Key := ⟨0x10, i, 0x21, 0⟩
abbrev Obj.LSPI_RESULT (i : Nat) : Key := ⟨0x10, i, 0x22, 0⟩
abbrev Obj.LSPI_STATUS (i : Nat) : Key := ⟨0x10, i, 0x23, 0⟩
abbrev Obj.CNV_REF_STATUS : Key := ⟨0x10, 0xff, 0x01, 0⟩
abbrev Obj.CNV_REFIN_MEAS : Key := ⟨0x10, 0xff, 0x02, 0⟩
abbrev Obj.LDSP_MODE (i : Nat) : Key := ⟨0x11, i, 0x01, 0⟩
abbrev Obj.LDSP_SUBCARRIERS (i : Nat) : Key := ⟨0x11, i, 0x02, 0⟩
abbrev Obj.LDSP_ROLLOFF (i : Nat) : Key := ⟨0x11, i, 0x03, 0⟩
abbrev Obj.LDSP_TX_NOTCH (i x : Nat) : Key := ⟨0x11, i, 0x04, x⟩
abbrev Obj.LDSP_TX_PREEMPH (i x : Nat) : Key := ⟨0x11, i, 0x05, x⟩
abbrev Obj.LDSP_TX_STATUS (i : Nat) : Key := ⟨0x11, i, 0x06, 0⟩
abbrev Obj.LDSP_CD_MODE (i : Nat) : Key := ⟨0x11, i, 0x10, 0⟩
abbrev Obj.LDSP_CD_FIXED (i : Nat) : Key := ⟨0x11, i, 0x11, 0⟩
abbrev Obj.LDSP_CD_SEARCH_MIN (i : Nat) : Key := ⟨0x11, i, 0x12, 0⟩
abbrev Obj.LDSP_CD_SEARCH_MAX (i : Nat) : Key := ⟨0x11, i, 0x13, 0⟩
abbrev Obj.LDSP_CD_EST (i : Nat) : Key := ⟨0x11, i, 0x14, 0⟩
abbrev Obj.LDSP_FREQ_EST (i : Nat) : Key := ⟨0x11, i, 0x15, 0⟩
abbrev Obj.LDSP_NLC_ENABLE (i : Nat) : Key := ⟨0x11, i, 0x16, 0⟩
abbrev Obj.LDSP_NLC_GAIN (i : Nat) : Key := ⟨0x11, i, 0x17, 0⟩
abbrev Obj.LDSP_SYNC_ERR_TOL (i : Nat) : Key := ⟨0x11, i, 0x20, 0⟩
abbrev Obj.LDSP_LOL_PILOT_THRESH (i : Nat) : Key := ⟨0x11, i, 0x21, 0⟩
abbrev Obj.LDSP_LOL_TICKS (i : Nat) : Key := ⟨0x11, i, 0x22, 0⟩
abbrev Obj.LDSP_LOL_SYNC_MISSES (i : Nat) : Key := ⟨0x11, i, 0x23, 0⟩
abbrev Obj.LDSP_ACQ_STATE (i : Nat) : Key := ⟨0x11, i, 0x24, 0⟩
abbrev Obj.LDSP_ACQ_CLASS (i : Nat) : Key := ⟨0x11, i, 0x25, 0⟩
abbrev Obj.LDSP_ACQ_RESTART (i : Nat) : Key := ⟨0x11, i, 0x26, 0⟩
abbrev Obj.LDSP_ACQ_LAST_TIME (i : Nat) : Key := ⟨0x11, i, 0x27, 0⟩
abbrev Obj.LDSP_INVALID_LEFT (i : Nat) : Key := ⟨0x11, i, 0x28, 0⟩
abbrev Obj.LDSP_STORE_AGE (i : Nat) : Key := ⟨0x11, i, 0x29, 0⟩
abbrev Obj.LDSP_PREEMPT_COUNT (i : Nat) : Key := ⟨0x11, i, 0x2a, 0⟩
abbrev Obj.LDSP_FALSE_CAND_COUNT (i : Nat) : Key := ⟨0x11, i, 0x2b, 0⟩
abbrev Obj.LDSP_RETRY_COUNT (i : Nat) : Key := ⟨0x11, i, 0x2c, 0⟩
abbrev Obj.LDSP_LAST_METRIC (i : Nat) : Key := ⟨0x11, i, 0x2d, 0⟩
abbrev Obj.FEC_STATE (i : Nat) : Key := ⟨0x12, i, 0x01, 0⟩
abbrev Obj.FEC_CODE (i : Nat) : Key := ⟨0x12, i, 0x02, 0⟩
abbrev Obj.FEC_MAX_ITER (i : Nat) : Key := ⟨0x12, i, 0x03, 0⟩
abbrev Obj.FEC_ITER_LIMIT (i : Nat) : Key := ⟨0x12, i, 0x04, 0⟩
abbrev Obj.FEC_CORE_STATE (i : Nat) : Key := ⟨0x12, i, 0x05, 0⟩
abbrev Obj.FEC_CORES_WORKING (i : Nat) : Key := ⟨0x12, i, 0x06, 0⟩
abbrev Obj.FEC_CORE_RETEST (i : Nat) : Key := ⟨0x12, i, 0x07, 0⟩
abbrev Obj.FEC_CORE_FAIL_COUNT (i : Nat) : Key := ⟨0x12, i, 0x08, 0⟩
abbrev Obj.FEC_REDISPATCH_COUNT (i : Nat) : Key := ⟨0x12, i, 0x09, 0⟩
abbrev Obj.FEC_CW_COUNT (i : Nat) : Key := ⟨0x12, i, 0x10, 0⟩
abbrev Obj.FEC_CORR_BITS (i : Nat) : Key := ⟨0x12, i, 0x11, 0⟩
abbrev Obj.FEC_UNCORR_CW (i : Nat) : Key := ⟨0x12, i, 0x12, 0⟩
abbrev Obj.FEC_PREFEC_BER (i : Nat) : Key := ⟨0x12, i, 0x13, 0⟩
abbrev Obj.FEC_AVG_ITER (i : Nat) : Key := ⟨0x12, i, 0x14, 0⟩
abbrev Obj.FEC_FAIL_THRESH (i : Nat) : Key := ⟨0x12, i, 0x15, 0⟩
abbrev Obj.FEC_FAIL_TICKS (i : Nat) : Key := ⟨0x12, i, 0x16, 0⟩
abbrev Obj.FRM_STATE (i : Nat) : Key := ⟨0x13, i, 0x01, 0⟩
abbrev Obj.FRM_N (i : Nat) : Key := ⟨0x13, i, 0x02, 0⟩
abbrev Obj.FRM_M (i : Nat) : Key := ⟨0x13, i, 0x03, 0⟩
abbrev Obj.FRM_FALSE_CAND_COUNT (i : Nat) : Key := ⟨0x13, i, 0x04, 0⟩
abbrev Obj.FRM_LOF_COUNT (i : Nat) : Key := ⟨0x13, i, 0x05, 0⟩
abbrev Obj.FRM_CRC_ERR_COUNT (i : Nat) : Key := ⟨0x13, i, 0x06, 0⟩
abbrev Obj.FRM_DESKEW (i : Nat) : Key := ⟨0x13, i, 0x07, 0⟩
abbrev Obj.FRM_SM_TTI_TX (i x : Nat) : Key := ⟨0x13, i, 0x08, x⟩
abbrev Obj.FRM_SM_TTI_EXP (i x : Nat) : Key := ⟨0x13, i, 0x09, x⟩
abbrev Obj.FRM_SM_TIM_ACT (i : Nat) : Key := ⟨0x13, i, 0x0a, 0⟩
abbrev Obj.FRM_SM_DEG_M (i : Nat) : Key := ⟨0x13, i, 0x0b, 0⟩
abbrev Obj.FRM_SM_DEG_THR (i : Nat) : Key := ⟨0x13, i, 0x0c, 0⟩
abbrev Obj.OH_FFF_TX_ENABLE (i : Nat) : Key := ⟨0x13, i, 0x10, 0⟩
abbrev Obj.OH_FFF_RX_ENABLE (i : Nat) : Key := ⟨0x13, i, 0x11, 0⟩
abbrev Obj.OH_FFF_TX_MAP (i : Nat) : Key := ⟨0x13, i, 0x12, 0⟩
abbrev Obj.OH_FFF_RX_MAP (i : Nat) : Key := ⟨0x13, i, 0x13, 0⟩
abbrev Obj.OH_GCC_ROUTE (x : Nat) : Key := ⟨0x13, 0xff, 0x01, x⟩
abbrev Obj.OH_GCC_DROP (x : Nat) : Key := ⟨0x13, 0xff, 0x02, x⟩
abbrev Obj.OHP_CLK (p : Nat) : Key := ⟨0x13, 0x100 + p, 0x01, 0⟩
abbrev Obj.OHP_LOAD (p : Nat) : Key := ⟨0x13, 0x100 + p, 0x02, 0⟩
abbrev Obj.HL_RATE (l : Nat) : Key := ⟨0x20, l, 0x01, 0⟩
abbrev Obj.HL_STATE (l : Nat) : Key := ⟨0x20, l, 0x02, 0⟩
abbrev Obj.HL_CFG (l : Nat) : Key := ⟨0x20, l, 0x03, 0⟩
abbrev Obj.HL_TX_TIMING (l : Nat) : Key := ⟨0x20, l, 0x04, 0⟩
abbrev Obj.HL_TX_DPLL (l : Nat) : Key := ⟨0x20, l, 0x05, 0⟩
abbrev Obj.HL_THRU_BW (l : Nat) : Key := ⟨0x20, l, 0x06, 0⟩
abbrev Obj.HL_PRBS_CFG (l : Nat) : Key := ⟨0x20, l, 0x07, 0⟩
abbrev Obj.HL_PRBS_ERR (l : Nat) : Key := ⟨0x20, l, 0x08, 0⟩
abbrev Obj.HL_SNR (l : Nat) : Key := ⟨0x20, l, 0x09, 0⟩
abbrev Obj.HL_CELL_STATE (l : Nat) : Key := ⟨0x20, l, 0x0a, 0⟩
abbrev Obj.HG_PLL_RATES (g : Nat) : Key := ⟨0x20, 0x100 + g, 0x01, 0⟩
abbrev Obj.HOST_RCLK_SEL (x : Nat) : Key := ⟨0x20, 0xff, 0x01, x⟩
abbrev Obj.CLI_TYPE (l : Nat) : Key := ⟨0x21, l, 0x01, 0⟩
abbrev Obj.CLI_FORM (l : Nat) : Key := ⟨0x21, l, 0x02, 0⟩
abbrev Obj.CLI_STATE (l : Nat) : Key := ⟨0x21, l, 0x03, 0⟩
abbrev Obj.CLI_DEFECTS (l : Nat) : Key := ⟨0x21, l, 0x04, 0⟩
abbrev Obj.CLI_FAIL_ACTION (l : Nat) : Key := ⟨0x21, l, 0x05, 0⟩
abbrev Obj.CLI_SDH_FLAVOUR (l : Nat) : Key := ⟨0x21, l, 0x06, 0⟩
abbrev Obj.CLI_SDH_STRUCT (l x : Nat) : Key := ⟨0x21, l, 0x07, x⟩
abbrev Obj.CLI_FEC_CORR (l : Nat) : Key := ⟨0x21, l, 0x08, 0⟩
abbrev Obj.CLI_FEC_UNCORR (l : Nat) : Key := ⟨0x21, l, 0x09, 0⟩
abbrev Obj.CLI_FLEXE_GROUP (l : Nat) : Key := ⟨0x21, l, 0x0a, 0⟩
abbrev Obj.EXP_CELL_DISCARD (l : Nat) : Key := ⟨0x21, l, 0x10, 0⟩
abbrev Obj.EXP_HEC_ERR (l : Nat) : Key := ⟨0x21, l, 0x11, 0⟩
abbrev Obj.FXE_GROUP_ID (g : Nat) : Key := ⟨0x21, 0x100 + g, 0x01, 0⟩
abbrev Obj.FXE_CAL_A (g x : Nat) : Key := ⟨0x21, 0x100 + g, 0x02, x⟩
abbrev Obj.FXE_CAL_B (g x : Nat) : Key := ⟨0x21, 0x100 + g, 0x03, x⟩
abbrev Obj.FXE_CAL_ACTIVE (g : Nat) : Key := ⟨0x21, 0x100 + g, 0x04, 0⟩
abbrev Obj.VS_TYPE (v : Nat) : Key := ⟨0x21, 0x200 + v, 0x01, 0⟩
abbrev Obj.VS_STRUCT (v x : Nat) : Key := ⟨0x21, 0x200 + v, 0x02, x⟩
abbrev Obj.PRISM_STATE : Key := ⟨0x30, 0, 0x01, 0⟩
abbrev Obj.PRISM_SLICE_STATE (x : Nat) : Key := ⟨0x30, 0, 0x02, x⟩
abbrev Obj.PRISM_SLICE_ERR_LIMIT : Key := ⟨0x30, 0, 0x03, 0⟩
abbrev Obj.PRISM_SLICE_RETEST : Key := ⟨0x30, 0, 0x04, 0⟩
abbrev Obj.PRISM_PARITY_ERR (x : Nat) : Key := ⟨0x30, 0, 0x05, x⟩
abbrev Obj.PRISM_REPLAY_COUNT : Key := ⟨0x30, 0, 0x06, 0⟩
abbrev Obj.PRISM_REPLAY_PEAK : Key := ⟨0x30, 0, 0x07, 0⟩
abbrev Obj.PRISM_SUBST_COUNT : Key := ⟨0x30, 0, 0x08, 0⟩
abbrev Obj.PRISM_CM_UNCORR : Key := ⟨0x30, 0, 0x09, 0⟩
abbrev Obj.PRISM_CM_FALLBACK : Key := ⟨0x30, 0, 0x0a, 0⟩
abbrev Obj.PRISM_HDR_BAD : Key := ⟨0x30, 0, 0x0b, 0⟩
abbrev Obj.PRISM_IN_USED : Key := ⟨0x30, 0, 0x10, 0⟩
abbrev Obj.PRISM_OUT_USED : Key := ⟨0x30, 0, 0x11, 0⟩
abbrev Obj.PRISM_SLICE_LOAD (x : Nat) : Key := ⟨0x30, 0, 0x12, x⟩
abbrev Obj.PRISM_CONN (x : Nat) : Key := ⟨0x31, 0, 0x01, x⟩
abbrev Obj.PRISM_PLACE_LIST (x : Nat) : Key := ⟨0x31, 0, 0x02, x⟩
abbrev Obj.PRISM_CONN_ACTIVE (x : Nat) : Key := ⟨0x31, 0, 0x03, x⟩
abbrev Obj.PRISM_COMPILE : Key := ⟨0x31, 0, 0x04, 0⟩
abbrev Obj.PRISM_COMPILE_STATE : Key := ⟨0x31, 0, 0x05, 0⟩
abbrev Obj.PRISM_COMPILE_ERR : Key := ⟨0x31, 0, 0x06, 0⟩
abbrev Obj.PRISM_COMPILE_TICKS : Key := ⟨0x31, 0, 0x07, 0⟩
abbrev Obj.PRISM_DIRTY_COUNT : Key := ⟨0x31, 0, 0x08, 0⟩
abbrev Obj.PRISM_CONN_STATE (x : Nat) : Key := ⟨0x31, 0, 0x09, x⟩
abbrev Obj.PRISM_IN_OWNER (b x : Nat) : Key := ⟨0x31, b, 0x10, x⟩
abbrev Obj.PRISM_OUT_OWNER (b x : Nat) : Key := ⟨0x31, b, 0x11, x⟩
abbrev Obj.PRISM_SWAP_REQ : Key := ⟨0x32, 0, 0x01, 0⟩
abbrev Obj.PRISM_SWAP_AT : Key := ⟨0x32, 0, 0x02, 0⟩
abbrev Obj.PRISM_SWAP_CANCEL : Key := ⟨0x32, 0, 0x03, 0⟩
abbrev Obj.SHD_STATE : Key := ⟨0x32, 0, 0x04, 0⟩
abbrev Obj.SHD_GENERATION : Key := ⟨0x32, 0, 0x05, 0⟩
abbrev Obj.SHD_GEN_SHADOW : Key := ⟨0x32, 0, 0x06, 0⟩
abbrev Obj.SHD_EDITS : Key := ⟨0x32, 0, 0x07, 0⟩
abbrev Obj.SHD_SWAP_EPOCH : Key := ⟨0x32, 0, 0x08, 0⟩
abbrev Obj.SHD_LAST_SWAP_TICK : Key := ⟨0x32, 0, 0x09, 0⟩
abbrev Obj.SHD_SYNC_LEFT : Key := ⟨0x32, 0, 0x0a, 0⟩
abbrev Obj.SHD_REJECT : Key := ⟨0x32, 0, 0x0b, 0⟩
abbrev Obj.SHD_REVERT : Key := ⟨0x32, 0, 0x0c, 0⟩
abbrev Obj.SHD_DEFER_LIMIT : Key := ⟨0x32, 0, 0x0d, 0⟩
abbrev Obj.SHD_DEFER_COUNT : Key := ⟨0x32, 0, 0x0e, 0⟩
abbrev Obj.LINE_CHG (i x : Nat) : Key := ⟨0x32, 0x100 + i, 0x01, x⟩
abbrev Obj.LINE_CHG_RETRY (i : Nat) : Key := ⟨0x32, 0x100 + i, 0x02, 0⟩
abbrev Obj.SMX_LEAD (i : Nat) : Key := ⟨0x32, 0x100 + i, 0x03, 0⟩
abbrev Obj.SMX_TIMEOUT (i : Nat) : Key := ⟨0x32, 0x100 + i, 0x04, 0⟩
abbrev Obj.PG_CFG (x : Nat) : Key := ⟨0x33, 0, 0x01, x⟩
abbrev Obj.PG_CMD (x : Nat) : Key := ⟨0x33, 0, 0x02, x⟩
abbrev Obj.PG_PSC_HOLD : Key := ⟨0x33, 0, 0x03, 0⟩
abbrev Obj.PG_EXPORT (x : Nat) : Key := ⟨0x33, 0, 0x04, x⟩
abbrev Obj.PG_REMOTE (x : Nat) : Key := ⟨0x33, 0, 0x05, x⟩
abbrev Obj.PG_STATE (x : Nat) : Key := ⟨0x33, 0, 0x10, x⟩
abbrev Obj.PG_TIMER_LEFT (x : Nat) : Key := ⟨0x33, 0, 0x11, x⟩
abbrev Obj.PG_APS_TX (x : Nat) : Key := ⟨0x33, 0, 0x12, x⟩
abbrev Obj.PG_APS_RX (x : Nat) : Key := ⟨0x33, 0, 0x13, x⟩
abbrev Obj.PG_SWITCH_COUNT (x : Nat) : Key := ⟨0x33, 0, 0x14, x⟩
abbrev Obj.PG_DBUS_REC (x : Nat) : Key := ⟨0x33, 0, 0x15, x⟩
abbrev Obj.MM_SEQ_TX (x : Nat) : Key := ⟨0x34, 0, 0x01, x⟩
abbrev Obj.MM_STATE (x : Nat) : Key := ⟨0x34, 0, 0x02, x⟩
abbrev Obj.MM_FROM_OTHER (x : Nat) : Key := ⟨0x34, 0, 0x03, x⟩
abbrev Obj.MM_BOTH_BAD (x : Nat) : Key := ⟨0x34, 0, 0x04, x⟩
abbrev Obj.MM_AUTO_RETIME : Key := ⟨0x34, 0, 0x05, 0⟩
abbrev Obj.MM_RETIME_WAIT : Key := ⟨0x34, 0, 0x06, 0⟩
abbrev Obj.MM_RETIME : Key := ⟨0x34, 0, 0x07, 0⟩
abbrev Obj.MM_HBM_ERR_LIMIT : Key := ⟨0x34, 0, 0x08, 0⟩
abbrev Obj.MM_RESERVED : Key := ⟨0x34, 0, 0x09, 0⟩
abbrev Obj.MM_RATE_USED : Key := ⟨0x34, 0, 0x0a, 0⟩
abbrev Obj.SEC_CHAN (i x : Nat) : Key := ⟨0x14, i, 0x01, x⟩
abbrev Obj.SEC_STATE (i x : Nat) : Key := ⟨0x14, i, 0x02, x⟩
abbrev Obj.SEC_RX_EPOCH (i x : Nat) : Key := ⟨0x14, i, 0x03, x⟩
abbrev Obj.SEC_TX_FC (i x : Nat) : Key := ⟨0x14, i, 0x04, x⟩
abbrev Obj.SEC_AUTH_FAIL (i x : Nat) : Key := ⟨0x14, i, 0x05, x⟩
abbrev Obj.SEC_REJECT (i x : Nat) : Key := ⟨0x14, i, 0x06, x⟩
abbrev Obj.SEC_KEY_INSTALL (i : Nat) : Key := ⟨0x14, i, 0x07, 0⟩
abbrev Obj.SEC_ROLL (i : Nat) : Key := ⟨0x14, i, 0x08, 0⟩
abbrev Obj.SEC_KEY_SOURCE (i : Nat) : Key := ⟨0x14, i, 0x09, 0⟩
abbrev Obj.SEC_PEER_ID (i : Nat) : Key := ⟨0x14, i, 0x0a, 0⟩
abbrev Obj.SEC_LINK_STATE (i : Nat) : Key := ⟨0x14, i, 0x0b, 0⟩
abbrev Obj.SEC_LINK_LIFE (i : Nat) : Key := ⟨0x14, i, 0x0c, 0⟩
abbrev Obj.SEC_LINK_START (i : Nat) : Key := ⟨0x14, i, 0x0d, 0⟩
abbrev Obj.SEC_KA_CAUSE (i : Nat) : Key := ⟨0x14, i, 0x0e, 0⟩
abbrev Obj.SEC_LINK_AGE (i : Nat) : Key := ⟨0x14, i, 0x0f, 0⟩
abbrev Obj.SEC_MAP (x : Nat) : Key := ⟨0x14, 0xff, 0x01, x⟩
abbrev Obj.SEC_ZEROISE : Key := ⟨0x14, 0xff, 0x02, 0⟩
abbrev Obj.SEC_ENTROPY_STATE : Key := ⟨0x14, 0xff, 0x03, 0⟩
abbrev Obj.TM_DP_MODE (d : Nat) : Key := ⟨0x40, d, 0x01, 0⟩
abbrev Obj.TM_DP_STATE (d : Nat) : Key := ⟨0x40, d, 0x02, 0⟩
abbrev Obj.TM_DP_PRIO (d x : Nat) : Key := ⟨0x40, d, 0x03, x⟩
abbrev Obj.TM_DP_LOCKOUT (d : Nat) : Key := ⟨0x40, d, 0x04, 0⟩
abbrev Obj.TM_DP_FORCE (d : Nat) : Key := ⟨0x40, d, 0x05, 0⟩
abbrev Obj.TM_DP_QL_EN (d : Nat) : Key := ⟨0x40, d, 0x06, 0⟩
abbrev Obj.TM_DP_REVERT (d : Nat) : Key := ⟨0x40, d, 0x07, 0⟩
abbrev Obj.TM_DP_SELECTED (d : Nat) : Key := ⟨0x40, d, 0x08, 0⟩
abbrev Obj.TM_DP_OUT_QL (d : Nat) : Key := ⟨0x40, d, 0x09, 0⟩
abbrev Obj.TM_DP_OWN_QL (d : Nat) : Key := ⟨0x40, d, 0x0a, 0⟩
abbrev Obj.TM_DP_BW (d : Nat) : Key := ⟨0x40, d, 0x0b, 0⟩
abbrev Obj.TM_DP_PSL (d : Nat) : Key := ⟨0x40, d, 0x0c, 0⟩
abbrev Obj.TM_DP_PHASE_ADJ (d : Nat) : Key := ⟨0x40, d, 0x0d, 0⟩
abbrev Obj.TM_DP_PHASE_LEFT (d : Nat) : Key := ⟨0x40, d, 0x0e, 0⟩
abbrev Obj.TM_DP_FREQ_ADJ (d : Nat) : Key := ⟨0x40, d, 0x0f, 0⟩
abbrev Obj.TM_HO_WINDOW (d : Nat) : Key := ⟨0x40, d, 0x10, 0⟩
abbrev Obj.TM_HO_GUARD (d : Nat) : Key := ⟨0x40, d, 0x11, 0⟩
abbrev Obj.TM_HO_QUALITY (d : Nat) : Key := ⟨0x40, d, 0x12, 0⟩
abbrev Obj.TM_HO_VALUE (d : Nat) : Key := ⟨0x40, d, 0x13, 0⟩
abbrev Obj.TM_REF_STATE (r : Nat) : Key := ⟨0x40, 0x100 + r, 0x01, 0⟩
abbrev Obj.TM_REF_FREQ (r : Nat) : Key := ⟨0x40, 0x100 + r, 0x02, 0⟩
abbrev Obj.TM_REF_QL_MODE (r : Nat) : Key := ⟨0x40, 0x100 + r, 0x03, 0⟩
abbrev Obj.TM_REF_QL_FIXED (r : Nat) : Key := ⟨0x40, 0x100 + r, 0x04, 0⟩
abbrev Obj.TM_REF_QL (r : Nat) : Key := ⟨0x40, 0x100 + r, 0x05, 0⟩
abbrev Obj.TM_REF_WTR (r : Nat) : Key := ⟨0x40, 0x100 + r, 0x06, 0⟩
abbrev Obj.TM_REF_FOFF (r : Nat) : Key := ⟨0x40, 0x100 + r, 0x07, 0⟩
abbrev Obj.TM_REF_DRIFT (r : Nat) : Key := ⟨0x40, 0x100 + r, 0x08, 0⟩
abbrev Obj.TM_REF_DQ_TICK (r : Nat) : Key := ⟨0x40, 0x100 + r, 0x09, 0⟩
abbrev Obj.TM_PPS_IN_COMP (r : Nat) : Key := ⟨0x40, 0x100 + r, 0x0a, 0⟩
abbrev Obj.TM_PPS_WIN (r : Nat) : Key := ⟨0x40, 0x100 + r, 0x0b, 0⟩
abbrev Obj.TM_OUT_SRC (o : Nat) : Key := ⟨0x40, 0x200 + o, 0x01, 0⟩
abbrev Obj.TM_OUT_FREQ (o : Nat) : Key := ⟨0x40, 0x200 + o, 0x02, 0⟩
abbrev Obj.TM_OUT_SQUELCH (o : Nat) : Key := ⟨0x40, 0x200 + o, 0x03, 0⟩
abbrev Obj.TM_PPS_SRC (p : Nat) : Key := ⟨0x40, 0x300 + p, 0x01, 0⟩
abbrev Obj.TM_PPS_ALIGN (p : Nat) : Key := ⟨0x40, 0x300 + p, 0x02, 0⟩
abbrev Obj.TM_PPS_OFFSET (p : Nat) : Key := ⟨0x40, 0x300 + p, 0x03, 0⟩
abbrev Obj.TM_PPS_WIDTH (p : Nat) : Key := ⟨0x40, 0x300 + p, 0x04, 0⟩
abbrev Obj.TM_TS_CFG (l : Nat) : Key := ⟨0x40, 0x400 + l, 0x01, 0⟩
abbrev Obj.TM_TS_COMP (l x : Nat) : Key := ⟨0x40, 0x400 + l, 0x02, x⟩
abbrev Obj.TM_ESMC_TX (l : Nat) : Key := ⟨0x40, 0x400 + l, 0x03, 0⟩
abbrev Obj.TM_S1_TX (l : Nat) : Key := ⟨0x40, 0x400 + l, 0x04, 0⟩
abbrev Obj.TM_QL_OPTION : Key := ⟨0x40, 0xff, 0x01, 0⟩
abbrev Obj.TM_FOFF_XO : Key := ⟨0x40, 0xff, 0x02, 0⟩
abbrev Obj.TM_FOFF_PEER : Key := ⟨0x40, 0xff, 0x03, 0⟩
abbrev Obj.TM_FOFF_SOAK : Key := ⟨0x40, 0xff, 0x04, 0⟩
abbrev Obj.TM_DRIFT_RATE : Key := ⟨0x40, 0xff, 0x05, 0⟩
abbrev Obj.TM_DRIFT_WIN : Key := ⟨0x40, 0xff, 0x06, 0⟩
abbrev Obj.TM_DRIFT_SOAK : Key := ⟨0x40, 0xff, 0x07, 0⟩
abbrev Obj.TM_XO_FREQ : Key := ⟨0x40, 0xff, 0x08, 0⟩
abbrev Obj.TM_XO_STATE : Key := ⟨0x40, 0xff, 0x09, 0⟩
abbrev Obj.TM_TOD_SET : Key := ⟨0x40, 0xff, 0x0a, 0⟩
abbrev Obj.TM_TOD_TRACE : Key := ⟨0x40, 0xff, 0x0b, 0⟩
abbrev Obj.TM_PTP_TRACE : Key := ⟨0x40, 0xff, 0x0c, 0⟩
abbrev Obj.TM_TS_RING (x : Nat) : Key := ⟨0x40, 0xff, 0x0d, x⟩
abbrev Obj.TM_TS_WR : Key := ⟨0x40, 0xff, 0x0e, 0⟩
abbrev Obj.TM_TS_OVF : Key := ⟨0x40, 0xff, 0x0f, 0⟩
abbrev Obj.MEAS_VALID (i : Nat) : Key := ⟨0x50, i, 0x01, 0⟩
abbrev Obj.MEAS_OSNR (i : Nat) : Key := ⟨0x50, i, 0x02, 0⟩
abbrev Obj.MEAS_CD (i : Nat) : Key := ⟨0x50, i, 0x03, 0⟩
abbrev Obj.MEAS_FIBRE_D (i : Nat) : Key := ⟨0x50, i, 0x04, 0⟩
abbrev Obj.MEAS_FIBRE_LEN (i : Nat) : Key := ⟨0x50, i, 0x05, 0⟩
abbrev Obj.MEAS_DGD (i : Nat) : Key := ⟨0x50, i, 0x06, 0⟩
abbrev Obj.MEAS_PDL (i : Nat) : Key := ⟨0x50, i, 0x07, 0⟩
abbrev Obj.MEAS_SIG_POWER (i : Nat) : Key := ⟨0x50, i, 0x08, 0⟩
abbrev Obj.MEAS_RTD_CONN (i : Nat) : Key := ⟨0x50, i, 0x09, 0⟩
abbrev Obj.MEAS_RTD (i : Nat) : Key := ⟨0x50, i, 0x0a, 0⟩
abbrev Obj.PSC_ENABLE (i : Nat) : Key := ⟨0x50, i, 0x10, 0⟩
abbrev Obj.PSC_MECH_THR (i : Nat) : Key := ⟨0x50, i, 0x11, 0⟩
abbrev Obj.PSC_FAST_THR (i : Nat) : Key := ⟨0x50, i, 0x12, 0⟩
abbrev Obj.PSC_QUIET (i : Nat) : Key := ⟨0x50, i, 0x13, 0⟩
abbrev Obj.PSC_STATE (i : Nat) : Key := ⟨0x50, i, 0x14, 0⟩
abbrev Obj.PSC_SPEED (i : Nat) : Key := ⟨0x50, i, 0x15, 0⟩
abbrev Obj.PSC_LAST (i : Nat) : Key := ⟨0x50, i, 0x16, 0⟩
abbrev Obj.PSC_COUNT (i x : Nat) : Key := ⟨0x50, i, 0x17, x⟩
abbrev Obj.LOUPE_SIZE : Key := ⟨0x50, 0xff, 0x01, 0⟩
abbrev Obj.LOUPE_SRC : Key := ⟨0x50, 0xff, 0x02, 0⟩
abbrev Obj.LOUPE_SEL : Key := ⟨0x50, 0xff, 0x03, 0⟩
abbrev Obj.LOUPE_TRIG : Key := ⟨0x50, 0xff, 0x04, 0⟩
abbrev Obj.LOUPE_TRIG_MATCH : Key := ⟨0x50, 0xff, 0x05, 0⟩
abbrev Obj.LOUPE_TRIG_TICK : Key := ⟨0x50, 0xff, 0x06, 0⟩
abbrev Obj.LOUPE_PRE : Key := ⟨0x50, 0xff, 0x07, 0⟩
abbrev Obj.LOUPE_ARM : Key := ⟨0x50, 0xff, 0x08, 0⟩
abbrev Obj.LOUPE_FIRE : Key := ⟨0x50, 0xff, 0x09, 0⟩
abbrev Obj.LOUPE_STATE : Key := ⟨0x50, 0xff, 0x0a, 0⟩
abbrev Obj.LOUPE_INFO (x : Nat) : Key := ⟨0x50, 0xff, 0x0b, x⟩
abbrev Obj.LOUPE_DATA (x : Nat) : Key := ⟨0x50, 0xff, 0x0c, x⟩
abbrev Obj.LOUPE_TRIG_MISSED : Key := ⟨0x50, 0xff, 0x0d, 0⟩
abbrev Obj.HK_CH_INPUT (c : Nat) : Key := ⟨0x51, c, 0x01, 0⟩
abbrev Obj.HK_CH_GAIN (c : Nat) : Key := ⟨0x51, c, 0x02, 0⟩
abbrev Obj.HK_CH_FILTER (c : Nat) : Key := ⟨0x51, c, 0x03, 0⟩
abbrev Obj.HK_CH_FIR (c x : Nat) : Key := ⟨0x51, c, 0x04, x⟩
abbrev Obj.HK_CH_DELAY (c : Nat) : Key := ⟨0x51, c, 0x05, 0⟩
abbrev Obj.HK_CH_LOW (c : Nat) : Key := ⟨0x51, c, 0x06, 0⟩
abbrev Obj.HK_CH_HIGH (c : Nat) : Key := ⟨0x51, c, 0x07, 0⟩
abbrev Obj.HK_CH_HYST (c : Nat) : Key := ⟨0x51, c, 0x08, 0⟩
abbrev Obj.HK_CH_LAST (c : Nat) : Key := ⟨0x51, c, 0x09, 0⟩
abbrev Obj.HK_CH_GD (c : Nat) : Key := ⟨0x51, c, 0x0a, 0⟩
abbrev Obj.HK_CH_INVALID (c : Nat) : Key := ⟨0x51, c, 0x0b, 0⟩
abbrev Obj.HK_SEQ_MODE (m : Nat) : Key := ⟨0x51, 0x100 + m, 0x01, 0⟩
abbrev Obj.HK_SEQ_STEPS (m x : Nat) : Key := ⟨0x51, 0x100 + m, 0x02, x⟩
abbrev Obj.HK_SEQ_POLICY (m : Nat) : Key := ⟨0x51, 0x100 + m, 0x03, 0⟩
abbrev Obj.HK_SEQ_PERIOD (m : Nat) : Key := ⟨0x51, 0x100 + m, 0x04, 0⟩
abbrev Obj.HK_SEQ_FIRE (m : Nat) : Key := ⟨0x51, 0x100 + m, 0x05, 0⟩
abbrev Obj.HK_SEQ_STATE (m : Nat) : Key := ⟨0x51, 0x100 + m, 0x06, 0⟩
abbrev Obj.HK_SEQ_OVERRUN (m : Nat) : Key := ⟨0x51, 0x100 + m, 0x07, 0⟩
abbrev Obj.HK_SEQ_PARTIAL (m : Nat) : Key := ⟨0x51, 0x100 + m, 0x08, 0⟩
abbrev Obj.HK_INTERLEAVE : Key := ⟨0x51, 0xff, 0x01, 0⟩
abbrev Obj.HK_RING (x : Nat) : Key := ⟨0x51, 0xff, 0x02, x⟩
abbrev Obj.HK_RING_WR : Key := ⟨0x51, 0xff, 0x03, 0⟩
abbrev Obj.HK_RING_OVF : Key := ⟨0x51, 0xff, 0x04, 0⟩
abbrev Obj.PM_POINT (x : Nat) : Key := ⟨0x52, 0, 0x01, x⟩
abbrev Obj.PM_PROFILE (x : Nat) : Key := ⟨0x52, 0, 0x02, x⟩
abbrev Obj.PM_UTC_OFFSET : Key := ⟨0x52, 0, 0x03, 0⟩
abbrev Obj.PM_DAY_OFFSET : Key := ⟨0x52, 0, 0x04, 0⟩
abbrev Obj.PM_CUR (x : Nat) : Key := ⟨0x52, 0, 0x05, x⟩
abbrev Obj.PM_HIST_15 (x : Nat) : Key := ⟨0x52, 0, 0x06, x⟩
abbrev Obj.PM_HIST_24 (x : Nat) : Key := ⟨0x52, 0, 0x07, x⟩
abbrev Obj.PM_SD_STATE (x : Nat) : Key := ⟨0x52, 0, 0x08, x⟩
abbrev Obj.PM_HIST_LOST : Key := ⟨0x52, 0, 0x09, 0⟩
abbrev Obj.DEV_PART : Key := ⟨0x00, 0, 0x01, 0⟩
abbrev Obj.DEV_STEPPING : Key := ⟨0x00, 0, 0x02, 0⟩
abbrev Obj.DEV_SERIAL : Key := ⟨0x00, 0, 0x03, 0⟩
abbrev Obj.DEV_ID_KEY : Key := ⟨0x00, 0, 0x04, 0⟩
abbrev Obj.DEV_ID_DIGEST : Key := ⟨0x00, 0, 0x05, 0⟩
abbrev Obj.DEV_SUMMARY : Key := ⟨0x00, 0, 0x06, 0⟩
abbrev Obj.QM_SESSIONS (x : Nat) : Key := ⟨0x60, 0, 0x01, x⟩
abbrev Obj.QM_ROLE_KEY (x : Nat) : Key := ⟨0x60, 0, 0x02, x⟩
abbrev Obj.QM_PCIE_ROLE : Key := ⟨0x60, 0, 0x03, 0⟩
abbrev Obj.QM_SESSION_IDLE : Key := ⟨0x60, 0, 0x04, 0⟩
abbrev Obj.QM_REQ_COUNT : Key := ⟨0x60, 0, 0x05, 0⟩
abbrev Obj.QM_STATUS_COUNT (x : Nat) : Key := ⟨0x60, 0, 0x06, x⟩
abbrev Obj.QM_AUTH_FAIL : Key := ⟨0x60, 0, 0x07, 0⟩
abbrev Obj.VY_ROLE : Key := ⟨0x60, 1, 0x01, 0⟩
abbrev Obj.VY_NODE : Key := ⟨0x60, 1, 0x02, 0⟩
abbrev Obj.VY_RING_ID : Key := ⟨0x60, 1, 0x03, 0⟩
abbrev Obj.VY_STATE : Key := ⟨0x60, 1, 0x04, 0⟩
abbrev Obj.VY_MASTER : Key := ⟨0x60, 1, 0x05, 0⟩
abbrev Obj.VY_PRESENT : Key := ⟨0x60, 1, 0x06, 0⟩
abbrev Obj.VY_TOPO : Key := ⟨0x60, 1, 0x07, 0⟩
abbrev Obj.VY_URG_TICKS : Key := ⟨0x60, 1, 0x08, 0⟩
abbrev Obj.VY_LOOP (x : Nat) : Key := ⟨0x60, 1, 0x09, x⟩
abbrev Obj.VY_MISSES (x : Nat) : Key := ⟨0x60, 1, 0x0a, x⟩
abbrev Obj.VY_PORT_STATE (x : Nat) : Key := ⟨0x60, 1, 0x0b, x⟩
abbrev Obj.VY_CRC_ERR (x : Nat) : Key := ⟨0x60, 1, 0x0c, x⟩
abbrev Obj.VY_FOREIGN : Key := ⟨0x60, 1, 0x0d, 0⟩
abbrev Obj.VY_URG_DEFER : Key := ⟨0x60, 1, 0x0e, 0⟩
abbrev Obj.EV_CATALOGUE (x : Nat) : Key := ⟨0x61, 0, 0x01, x⟩
abbrev Obj.EV_SUBS (x : Nat) : Key := ⟨0x61, 0, 0x02, x⟩
abbrev Obj.EV_DROPPED : Key := ⟨0x61, 0, 0x03, 0⟩
abbrev Obj.ALM_ACTIVE (x : Nat) : Key := ⟨0x61, 0, 0x04, x⟩
abbrev Obj.ALM_COUNT : Key := ⟨0x61, 0, 0x05, 0⟩
abbrev Obj.SIO_T (g : Nat) : Key := ⟨0x05, g, 0x01, 0⟩
abbrev Obj.SIO_STATE (g : Nat) : Key := ⟨0x05, g, 0x02, 0⟩
abbrev Obj.SIO_BUCKET_SIZE (g : Nat) : Key := ⟨0x05, g, 0x03, 0⟩
abbrev Obj.SIO_BUCKET_LEAK (g : Nat) : Key := ⟨0x05, g, 0x04, 0⟩
abbrev Obj.SIO_BUCKET (g : Nat) : Key := ⟨0x05, g, 0x05, 0⟩
abbrev Obj.SIO_CORR_BITS (g : Nat) : Key := ⟨0x05, g, 0x06, 0⟩
abbrev Obj.SIO_UNCORR (g : Nat) : Key := ⟨0x05, g, 0x07, 0⟩
abbrev Obj.SIO_SCRUB_PASS (g : Nat) : Key := ⟨0x05, g, 0x08, 0⟩
abbrev Obj.SIO_PASS_COUNT (g : Nat) : Key := ⟨0x05, g, 0x09, 0⟩
abbrev Obj.SIO_SPARES_FREE (g : Nat) : Key := ⟨0x05, g, 0x0a, 0⟩
abbrev Obj.SIO_REPAIRED (g : Nat) : Key := ⟨0x05, g, 0x0b, 0⟩
abbrev Obj.SIO_REGEN (g : Nat) : Key := ⟨0x05, g, 0x0c, 0⟩
abbrev Obj.SIO_WEAK_LOG (g x : Nat) : Key := ⟨0x05, g, 0x0d, x⟩
abbrev Obj.SIO_UNCORR_LOG (g x : Nat) : Key := ⟨0x05, g, 0x0e, x⟩
abbrev Obj.D2D_STATE (l : Nat) : Key := ⟨0x05, 0x100 + l, 0x01, 0⟩
abbrev Obj.D2D_PARITY_ERR (l : Nat) : Key := ⟨0x05, 0x100 + l, 0x02, 0⟩
abbrev Obj.D2D_REPLAY (l : Nat) : Key := ⟨0x05, 0x100 + l, 0x03, 0⟩
abbrev Obj.D2D_REPLAY_FAIL (l : Nat) : Key := ⟨0x05, 0x100 + l, 0x04, 0⟩
abbrev Obj.D2D_LANE_ERR_LIMIT (l : Nat) : Key := ⟨0x05, 0x100 + l, 0x05, 0⟩
abbrev Obj.D2D_SPARE_MAP (l x : Nat) : Key := ⟨0x05, 0x100 + l, 0x06, x⟩
abbrev Obj.FI_ARM : Key := ⟨0x05, 0x200, 0x01, 0⟩
abbrev Obj.FI_STATE : Key := ⟨0x05, 0x200, 0x02, 0⟩
abbrev Obj.FI_DURATION : Key := ⟨0x05, 0x200, 0x03, 0⟩
abbrev Obj.FI_LEFT : Key := ⟨0x05, 0x200, 0x04, 0⟩
abbrev Obj.FI_SLOT (x : Nat) : Key := ⟨0x05, 0x200, 0x05, x⟩
abbrev Obj.FI_HITS (x : Nat) : Key := ⟨0x05, 0x200, 0x06, x⟩
abbrev Obj.PWR_DOM_REQ (d : Nat) : Key := ⟨0x02, d, 0x01, 0⟩
abbrev Obj.PWR_DOM_TOL (d : Nat) : Key := ⟨0x02, d, 0x02, 0⟩
abbrev Obj.PWR_DOM_STATE (d : Nat) : Key := ⟨0x02, d, 0x03, 0⟩
abbrev Obj.PWR_DOM_TARGET (d : Nat) : Key := ⟨0x02, d, 0x04, 0⟩
abbrev Obj.PWR_DOM_STATUS (d : Nat) : Key := ⟨0x02, d, 0x05, 0⟩
abbrev Obj.PWR_DOM_CLK (d : Nat) : Key := ⟨0x02, d, 0x06, 0⟩
abbrev Obj.PWR_PAD_RELEASE (d : Nat) : Key := ⟨0x02, d, 0x07, 0⟩
abbrev Obj.PWR_PAD_HELD (d : Nat) : Key := ⟨0x02, d, 0x08, 0⟩
abbrev Obj.PWR_RETAIN_FAIL (d : Nat) : Key := ⟨0x02, d, 0x09, 0⟩
abbrev Obj.PWR_RAIL_BUS (r : Nat) : Key := ⟨0x02, 0x100 + r, 0x01, 0⟩
abbrev Obj.PWR_RAIL_SET (r : Nat) : Key := ⟨0x02, 0x100 + r, 0x02, 0⟩
abbrev Obj.PWR_RAIL_STATE (r : Nat) : Key := ⟨0x02, 0x100 + r, 0x03, 0⟩
abbrev Obj.PWR_RAIL_RETRY (r : Nat) : Key := ⟨0x02, 0x100 + r, 0x04, 0⟩
abbrev Obj.PWR_WARN_LVL (r : Nat) : Key := ⟨0x02, 0x100 + r, 0x05, 0⟩
abbrev Obj.PWR_WARN_HYST (r : Nat) : Key := ⟨0x02, 0x100 + r, 0x06, 0⟩
abbrev Obj.PWR_RESET_LVL (r : Nat) : Key := ⟨0x02, 0x100 + r, 0x07, 0⟩
abbrev Obj.PWR_DIP_COUNT (r : Nat) : Key := ⟨0x02, 0x100 + r, 0x08, 0⟩
abbrev Obj.PWR_WAKE_MASK : Key := ⟨0x02, 0xff, 0x01, 0⟩
abbrev Obj.PWR_WARN_ACTIVE : Key := ⟨0x02, 0xff, 0x02, 0⟩
abbrev Obj.PWR_DIP_LOG (x : Nat) : Key := ⟨0x02, 0xff, 0x03, x⟩
abbrev Obj.PWR_AVS_EN : Key := ⟨0x02, 0xff, 0x04, 0⟩
abbrev Obj.PWR_QUIESCENT : Key := ⟨0x02, 0xff, 0x05, 0⟩
abbrev Obj.PWR_VY_WAKE : Key := ⟨0x02, 0xff, 0x06, 0⟩
abbrev Obj.SEC_FW_VERSION : Key := ⟨0x03, 0, 0x01, 0⟩
abbrev Obj.SEC_FW_DIGEST : Key := ⟨0x03, 0, 0x02, 0⟩
abbrev Obj.SEC_FW_SV : Key := ⟨0x03, 0, 0x03, 0⟩
abbrev Obj.SEC_OTP_SV : Key := ⟨0x03, 0, 0x04, 0⟩
abbrev Obj.SEC_SV_COMMIT : Key := ⟨0x03, 0, 0x05, 0⟩
abbrev Obj.SEC_VENDOR_KEY_DIGEST : Key := ⟨0x03, 0, 0x06, 0⟩
abbrev Obj.SEC_OWNER_KEY_DIGEST : Key := ⟨0x03, 0, 0x07, 0⟩
abbrev Obj.SEC_OWNER_FUSE : Key := ⟨0x03, 0, 0x08, 0⟩
abbrev Obj.SEC_ID_CERT : Key := ⟨0x03, 0, 0x09, 0⟩
abbrev Obj.SEC_ATTEST_NONCE : Key := ⟨0x03, 0, 0x0a, 0⟩
abbrev Obj.SEC_ATTEST_STATE : Key := ⟨0x03, 0, 0x0b, 0⟩
abbrev Obj.SEC_ATTEST_REPORT : Key := ⟨0x03, 0, 0x0c, 0⟩
abbrev Obj.ONION_CHAIN : Key := ⟨0x03, 0, 0x0d, 0⟩
abbrev Obj.ONION_COUNT : Key := ⟨0x03, 0, 0x0e, 0⟩
abbrev Obj.ONION_LOG (x : Nat) : Key := ⟨0x03, 0, 0x0f, x⟩
abbrev Obj.MC_FW_STAGE (x : Nat) : Key := ⟨0x03, 0, 0x10, x⟩
abbrev Obj.MC_FW_CHECK : Key := ⟨0x03, 0, 0x11, 0⟩
abbrev Obj.MC_FW_STAGE_STATE : Key := ⟨0x03, 0, 0x12, 0⟩
abbrev Obj.MC_FW_PROGRAM : Key := ⟨0x03, 0, 0x13, 0⟩
abbrev Obj.MC_FW_PROGRAM_STATE : Key := ⟨0x03, 0, 0x14, 0⟩
abbrev Obj.MC_FW_ACTIVATE : Key := ⟨0x03, 0, 0x15, 0⟩
abbrev Obj.PERF_CORE_SEL (p x : Nat) : Key := ⟨0x04, p, 0x01, x⟩
abbrev Obj.PERF_CORE_VAL (p x : Nat) : Key := ⟨0x04, p, 0x02, x⟩
abbrev Obj.PERF_CORE_OVF (p : Nat) : Key := ⟨0x04, p, 0x03, 0⟩
abbrev Obj.MC_WDT_PERIOD (p : Nat) : Key := ⟨0x04, p, 0x04, 0⟩
abbrev Obj.MC_RESTART : Key := ⟨0x04, 0xff, 0x01, 0⟩
abbrev Obj.MC_RESTART_CAUSE : Key := ⟨0x04, 0xff, 0x02, 0⟩
abbrev Obj.MC_RESTART_COUNT : Key := ⟨0x04, 0xff, 0x03, 0⟩
abbrev Obj.MC_LAST_RESTART_TICK : Key := ⟨0x04, 0xff, 0x04, 0⟩
abbrev Obj.MC_LOCKSTEP_ERR : Key := ⟨0x04, 0xff, 0x05, 0⟩
abbrev Obj.MC_BUS_TRUNC : Key := ⟨0x04, 0xff, 0x06, 0⟩
abbrev Obj.MC_BUS_HOLD_PEAK : Key := ⟨0x04, 0xff, 0x07, 0⟩
abbrev Obj.PERF_DP_SEL (x : Nat) : Key := ⟨0x04, 0xff, 0x10, x⟩
abbrev Obj.PERF_DP_VAL (x : Nat) : Key := ⟨0x04, 0xff, 0x11, x⟩
abbrev Obj.PERF_DP_OVF (x : Nat) : Key := ⟨0x04, 0xff, 0x12, x⟩
abbrev Obj.PERF_EVENT_LIST (x : Nat) : Key := ⟨0x04, 0xff, 0x13, x⟩
abbrev Obj.PERF_DUMP_TGT : Key := ⟨0x04, 0xff, 0x14, 0⟩
abbrev Obj.PERF_DUMP_BASE : Key := ⟨0x04, 0xff, 0x15, 0⟩
abbrev Obj.PERF_DUMP_SIZE : Key := ⟨0x04, 0xff, 0x16, 0⟩
abbrev Obj.PERF_DUMP_PERIOD : Key := ⟨0x04, 0xff, 0x17, 0⟩
abbrev Obj.PERF_DUMP_WR : Key := ⟨0x04, 0xff, 0x18, 0⟩
abbrev Obj.PERF_DUMP_RD : Key := ⟨0x04, 0xff, 0x19, 0⟩
abbrev Obj.PERF_DUMP_DROP : Key := ⟨0x04, 0xff, 0x1a, 0⟩
abbrev Obj.PERF_FREEZE : Key := ⟨0x04, 0xff, 0x1b, 0⟩
abbrev Obj.PERF_FROZEN : Key := ⟨0x04, 0xff, 0x1c, 0⟩
abbrev Obj.PERF_SNAPSHOT (x : Nat) : Key := ⟨0x04, 0xff, 0x1d, x⟩

end Sys2Proof.Machine
end

