-- ==== Sys2Proof/Machine/State.lean ====
section
/-! DEFINITION. The state of the block as plain data, the reasons a step can stop, and the state right after reset. -/

namespace Sys2Proof.Machine

/-- The machine stops with a fault. No meaning of this model raises one: every command of the table has an effect the spec gives. -/
inductive Fault where
  /-- Reserved; raised by nobody. Safe. -/
  | unreachable
  deriving DecidableEq, Repr

/-- A command the model gives no meaning to. -/
inductive Refusal where
  /-- The arm of `exec` for a command that has no meaning yet, under its mnemonic. Safe: the machine stops where the block goes on. -/
  | notModelled (mnemonic : String)
  deriving DecidableEq, Repr

/-! ## Events, responses and sessions (R418, R427, R428, R430 to R436) -/

/-- A record of the event stream: an event, or a change of a defect (R434). -/
structure EvRec where
  code : Nat
  /-- FLAGS [6]: a defect cleared -/
  clear : Bool
  tick : Nat
  content : List Fld
  deriving DecidableEq, Repr

/-- An entry of the event stream: a record, or the gap marker after the last retained entry (R39). -/
inductive StreamEntry where
  | record (r : EvRec)
  | gap (dropped : Nat)
  deriving DecidableEq, Repr

/-- A record as a queue or a session buffer holds it, with its GAP flag and its SEQ (R434). -/
structure QueueRec where
  gap : Bool
  seq : Nat
  /-- `none` is the gap record, code 0x0000 -/
  record : Option EvRec
  dropped : Nat
  deriving DecidableEq, Repr

/-- A response frame (R418) with the tick in which it was given. -/
structure Response where
  op : Nat
  status : Nat
  txid : Nat
  session : Nat
  tick : Nat
  payload : List Fld
  /-- COUNTER and tag of the trailer, on the ring under a session (R433) -/
  trailer : Option (Nat × Nat) := none
  deriving DecidableEq, Repr

/-- BAR0 (R427) and the mailbox. -/
structure Bar0 where
  bootState : Nat := 0
  bootCause : Nat := 0
  bootError : Nat := 0
  tickHi : Nat := 0
  own : Bool := false
  ready : Bool := false
  more : Bool := false
  ovr : Bool := false
  reqLen : Nat := 0
  rspLen : Nat := 0
  evqBase : Nat := 0
  evqSize : Nat := 0x100
  evqWr : Nat := 0
  evqRd : Nat := 0
  evqCtl : Nat := 0
  irqSts : Nat := 0
  irqEn : Nat := 0
  /-- MSI-X messages sent, per vector (R427) -/
  msix : List Nat := []
  response : Option Response := none
  /-- bytes of the response that later chunks carry (R428) -/
  chunkLeft : Nat := 0
  deriving DecidableEq, Repr

/-- What a session holds beside its row of QM_SESSIONS (R430 to R435). -/
structure Session where
  id : Nat := 0
  key : Nat := 0
  lastCounter : Nat := 0
  lastUse : Nat := 0
  /-- frames sent under the session -/
  sent : Nat := 0
  buffer : List QueueRec := []
  gapOwed : Bool := false
  seq : Nat := 0
  deriving DecidableEq, Repr

/-- The host event queue (R427, R435). -/
structure EvQueue where
  records : List QueueRec := []
  gapOwed : Bool := false
  dropped : Nat := 0
  seq : Nat := 0
  deriving DecidableEq, Repr

/-! ## The line engines (chapters 02 and 03) -/

/-- A foreground calibration (R68 to R71). -/
inductive CalPhase where
  | requested
  | running (start : Nat)
  | complete (deferredSince : Option Nat)
  deriving DecidableEq, Repr

/-- A candidate of a hunter (R111). -/
structure Candidate where
  pos : Nat
  metric : Int
  confirmed : Bool
  deriving DecidableEq, Repr

/-- The stored receiver state (R114). -/
structure Stored where
  cd : Nat
  offset : Nat
  taps : Nat
  sop : Nat
  mode : Nat
  since : Nat
  deriving DecidableEq, Repr

/-- A word an egress mapper takes: its connection, its place in the connection's order, the word with POISON ORed in, and its
substitution tag (R214). -/
structure EgressWord where
  conn : Nat
  index : Nat
  word : Nat
  tag : Bool
  deriving DecidableEq, Repr

/-- Section monitoring that an OTUC instance sends (R148): its TTI, BDI, BEI and BIAE. -/
structure SentSm where
  tti : Nat
  bdi : Bool
  bei : Nat
  biae : Bool
  deriving DecidableEq, Repr

/-- The transmit side of a line engine (R99, R139 to R143, R148, R150). -/
structure LineTx where
  /-- words in the 4-tick pipeline, newest first (R41), and those that leave in this tick -/
  pipe : List (List EgressWord) := []
  words : List EgressWord := []
  idle : Bool := true
  /-- the L frames that start in this tick, and OTUCn-M bytes sent since the start of its last frame -/
  frames : List LFrame := []
  since : Option Nat := none
  /-- section monitoring of the engine's OTUC instances, none while idle; BIP-8 errors per frame, and an error in MFAS, that injected faults force -/
  sm : List SentSm := []
  bipErrors : Nat := 0
  mfasError : Bool := false
  /-- OTUCn-M frames started; connections whose last header had CSF (R185); and GCC bytes that leave in this tick, by 2^20 × KIND + SRC of R157 -/
  started : Nat := 0
  csf : List Nat := []
  gcc : List (Nat × List Nat) := []
  /-- APS values in this tick's frames: connection, level and value (R296) -/
  aps : List (Nat × Nat × Nat) := []
  /-- slot-move messages (R266): the even and the odd one that may begin in this tick, none where the exchange does not run; the one in progress; and
  its two bytes in the OTUCn-M frames that begin in this tick, and in the one before, by frame number -/
  smxNext : List Nat := []
  smx : Nat := 0
  smxSent : List (Nat × Nat) := []
  deriving DecidableEq, Repr

/-- Section monitoring of an OTUC instance (R148): consecutive frames whose BDI and IAE bits differ from the declared state, consecutive bad and
good seconds, and the BEI and BIAE that the transmit direction sends back. -/
structure SmRun where
  bdi : Nat := 0
  iae : Nat := 0
  bad : Nat := 0
  good : Nat := 0
  bei : Nat := 0
  biae : Bool := false
  deriving DecidableEq, Repr

/-- What a decoder has done since reset (R136): code bits received and corrected, codewords, and codewords left uncorrected. -/
structure FecTotals where
  bits : Nat := 0
  corrected : Nat := 0
  words : Nat := 0
  bad : Nat := 0
  deriving DecidableEq, Repr

/-- One line engine: what its objects do not hold. -/
structure Engine where
  /-- TX out is dark (R54) -/
  dark : Bool := true
  /-- the VOA ramp (R55), in 0.01 dBm, and the elapsed tick of its start -/
  rampFrom : Int := -3500
  rampTo : Int := -3500
  rampStart : Nat := 0
  /-- taken dark by a bias loop under SQUELCH (R53) -/
  squelched : Bool := false
  laserTxIn : Bool := true
  laserLoIn : Bool := true
  /-- RX overload: armed, and whole ticks at or below +5.0 dBm (R56) -/
  overloadArmed : Bool := true
  overloadQuiet : Nat := 0
  /-- an LSPI transaction runs, and the bytes it sends (R51) -/
  lspiBusy : Bool := false
  lspiOut : Val := ⟨0, 0⟩
  cal : Option (Nat × CalPhase) := none
  /-- the coefficients a complete calibration commits (R71) -/
  calResult : List Coefficient := []
  /-- 1 + elapsed tick of the last background update, by the place of the coefficient (R63) -/
  calUpdated : Map Nat := []
  /-- acquisition (R106 to R109): trigger tick and start of the attempt, in elapsed ticks -/
  trigger : Nat := 0
  attempt : Nat := 0
  everLocked : Bool := false
  /-- the class a commit fixed while the receiver was dark (R123) -/
  darkClass : Option Nat := none
  primary : Option Candidate := none
  secondary : Option Candidate := none
  /-- the secondary hunter still tests after a false candidate (R111) -/
  afterFalse : Bool := false
  stored : Option Stored := none
  confirmedAt : Nat := 0
  /-- the locked signal's current metric (R122) -/
  lockedMetric : Int := 0
  /-- taps of the equaliser and SOP estimate, as an acquisition or a lock left them last (R101, R106, R114) -/
  taps : Nat := 0
  sop : Nat := 0
  /-- elapsed tick in which a configuration last committed, and the one in which dLOL was declared and whose acquisition starts at the next
  boundary (R121, R123) -/
  commitAt : Option Nat := none
  lolAt : Option Nat := none
  /-- the host's pre-emphasis curve as the transmitter applies it, in 0.01 dB (R96) -/
  preEmphasis : List Int := []
  rivalEpoch : Option Nat := none
  /-- elapsed tick from which the transmitter sends traffic after a mode commit (R99) -/
  trafficFrom : Option Nat := none
  validSince : Nat := 0
  /-- a calibration held the receiver dark (R123) -/
  calDark : Bool := false
  /-- decoder cores (R130 to R135): fenced, in a start-up test, in a retest; and the last tick in which cores failed, with their number and the cores -/
  fenced : List Nat := []
  starting : List Nat := []
  retesting : List Nat := []
  failTick : Nat := 0
  failCount : Nat := 0
  failCores : List Nat := []
  /-- codewords to dispatch again in the next tick (R131); and those in the decoder input memory, whose output is not accepted (R129), newest first:
  of this tick, and of the tick before those that are dispatched again -/
  redispatch : Nat := 0
  inputMemory : List Nat := []
  /-- deframer (R144 to R147) -/
  frameCandidate : Option Nat := none
  fasMisses : Nat := 0
  /-- exact FAS patterns buffered behind the candidate, where HUNT resumes, and where the next FAS is due in SYNC -/
  buffered : List LFrame := []
  huntFrom : Nat := 0
  frameDue : Option Nat := none
  /-- C and OTUC_PTR in force, the OTUCn-M bytes of the last L frame, bytes since the last OTUCn-M frame start, and whether that start lay where
  it was due (R141, R146, R147) -/
  prevC : Nat := 0
  prevPtr : Nat := 0
  otuc : List Nat := []
  otucSince : Option Nat := none
  otucPtrOk : Bool := true
  lofFrame : Bool := false
  lofOtuc : Bool := false
  otucBad : Nat := 0
  otucGood : Nat := 0
  prevMfas : Option Nat := none
  idleSeen : Bool := false
  sections : Map SmRun := []
  tx : LineTx := {}
  /-- a transient that is open (R379, R380): elapsed and counter tick of its opening, class, and largest angular speed -/
  pscOpened : Nat := 0
  pscTick : Nat := 0
  pscClass : Nat := 0
  pscPeak : Nat := 0
  /-- elapsed tick of the last phase-0 alert of the transient (R380) -/
  pscRepeat : Option Nat := none
  /-- a DMp toggle that has not returned: its time stamp in 0.25 ns; and the elapsed tick of the last one (R377) -/
  rtdSent : Option Nat := none
  rtdAt : Option Nat := none
  /-- DMp in the transmitted ODU of each TPN (R377) -/
  dmp : Map Bool := []
  /-- the previous refresh of every FFF segment (R155) -/
  fffBefore : Nat := 0
  /-- what the decoder has done in the current epoch (R136): bits received and corrected, codewords and iterations -/
  epochBits : Nat := 0
  epochCorrected : Nat := 0
  epochWords : Nat := 0
  epochIterations : Nat := 0
  /-- what the decoder has done since reset, for PM and signal degrade (R399, R407) -/
  totals : FecTotals := {}
  deriving DecidableEq, Repr

/-! ## Prism and the shadow set (chapters 06 and 07) -/

/-- What a connection holds (R210, R211, R223): the micro-slots of each side in the order of its words, the first carrying the header
(a class W position p as 32p); the connection whose inputs it reads; and KIND of its entries. -/
structure Held where
  classM : Bool := false
  root : Nat := 0
  kind : Nat := 0
  inp : List Nat := []
  out : List Nat := []
  deriving DecidableEq, Repr

/-- What a compile comes to: the placements, the reason and connection of a failure, the control-memory entries written, and the
blocks (245 × page + block) it changed (R225 to R230). -/
structure CompileResult where
  held : Map Held
  failure : Option (Nat × Nat)
  entries : Nat
  changed : List Nat
  deriving DecidableEq, Repr

/-- A compile that runs: its start and its end in elapsed ticks. -/
structure Compile where
  start : Nat
  due : Nat
  result : CompileResult
  deriving DecidableEq, Repr

/-- A rollback that runs (R229): elapsed tick of its end, and the state it ends in (1 DIRTY, 4 FAILED). -/
structure Rollback where
  due : Nat
  final : Nat
  deriving DecidableEq, Repr

/-- A word leaving the read stage with its substitution tag (R214). -/
structure OutWord where
  pos : Nat
  word : Nat
  tag : Bool
  deriving DecidableEq, Repr

/-- How a half of the tick buffer was written (R234, R238, R239): the slice that slice 16 carries, whether the stripes have parity, the slices
whose words are lost, and by stripe what slice 16 holds: the XOR word, or the word of the slice that it carries. -/
structure HalfMode where
  carried : Option Nat := none
  parity : Bool := true
  lost : List Nat := []
  slice16 : Map Nat := []
  deriving DecidableEq, Repr

/-- What the source of a class M connection has written in the current epoch (R185, R211), which the header of the next one describes: COUNT, BYTES,
the flags, and whether the words have filled every data micro-slot so far. -/
structure EpochRun where
  count : Nat := 0
  bytes : Nat := 0
  ais : Bool := false
  poison : Bool := false
  notValid : Bool := false
  csf : Bool := false
  full : Bool := true
  deriving DecidableEq, Repr

/-- What a tick of reading comes to beside its words (R235, R236): requests, completed reconstructions and substitutions. -/
structure ReadCounts where
  requests : Nat := 0
  rebuilt : Nat := 0
  substituted : Nat := 0
  /-- words met with a parity error, as 17 × stripe + slice -/
  errors : List Nat := []
  deriving DecidableEq, Repr

/-- A slice that failed and is fenced at the next boundary (R237): the cause, and the tick of the failure. -/
structure Fence where
  slice : Nat
  cause : Nat
  tick : Nat
  deriving DecidableEq, Repr

/-- The Mirror sequence of a connection (R156): the value of the next frame, and bytes of a field that lie in the next tick's words. -/
structure MirrorRun where
  next : Nat := 0
  rest : List Nat := []
  deriving DecidableEq, Repr

/-- Prism (R199 to R242). -/
structure Prism where
  /-- what the source mappers have in this tick, and words inverted by an injection on their way to the tick buffer: position and mask (R476) -/
  incoming : List ConnWords := []
  corrupt : List (Nat × Nat) := []
  epochs : Map EpochRun := []
  /-- connections into which the Mirror sequence goes: frames sent, and bytes of a field that the next tick's words still take (R156) -/
  mirror : Map MirrorRun := []
  /-- of securely mapped connections, places of fixed-stuff bytes in the words of the coming ticks, in bytes from the next one (R319) -/
  stuff : Map (List Nat) := []
  /-- the tick-buffer halves: words with their parity bits by input position (R202, R234), unwritten positions, and how each half was written -/
  half0 : Map Nat := []
  half1 : Map Nat := []
  unwritten0 : List Nat := []
  unwritten1 : List Nat := []
  mode0 : HalfMode := {}
  mode1 : HalfMode := {}
  /-- the entry stage (R203): output position and entry, the phase of its page, and positions of an uncorrectable block (R241) -/
  stage : List (Nat × Nat) := []
  stagePhase : Nat := 0
  stageBad : List Nat := []
  /-- the entries that the read stage applies in this tick, positions of an uncorrectable block, parity errors met, and its counts (R235 to R237) -/
  applied : List (Nat × Nat) := []
  appliedBad : List Nat := []
  readBad : List Nat := []
  readBadXor : List Nat := []
  counts : ReadCounts := {}
  /-- the output staging buffer with the phase of its words, and what the egress mappers took (R204) -/
  output : List OutWord := []
  outputPhase : Nat := 0
  egress : List EgressWord := []
  /-- class M data that waits for its header, and what the egress mappers deliver in this tick: a class W connection's words, and with its
  header the words of a class M connection's epoch (R261) -/
  epochHeld : List EgressWord := []
  framed : List EgressWord := []
  /-- what each egress acts on in this tick, by connection (R186): 0 traffic, 1 AIS, CSF or NOTVALID, 2 POISON -/
  actions : List (Nat × Nat) := []
  /-- words that the virtual SDH ports sank in the last two ticks, newest first, and what each port has assembled (R182) -/
  virtual : List (List EgressWord) := []
  assembly : Map Nat := []
  /-- POISON latches of the egress mappers (R214); POISON that this tick brings about, and POISON owed to the next header an ingress writes
  (R194, R470) -/
  poison : List Nat := []
  poisonNext : List Nat := []
  poisonDue : List Nat := []
  /-- groups whose selector was at protect in the last phase-0 tick (R215) -/
  selEpoch : List Nat := []
  /-- placements of the active set, of the shadow, of the shadow before the compile that is DONE, and of the active set before the last
  swap, for the stages that switch later (R35) -/
  held : Map Held := []
  heldShadow : Map Held := []
  heldBefore : Map Held := []
  heldOld : Map Held := []
  connOld : Map Nat := []
  dirty : List Nat := []
  dirtyBefore : List Nat := []
  compile : Option Compile := none
  rollback : Option Rollback := none
  /-- blocks that compiles have changed since the last swap, also before the compile that is DONE, and that compile's entries -/
  changed : List Nat := []
  changedBefore : List Nat := []
  lastEntries : Nat := 0
  /-- slices that failed in this tick; fenced slices in order; the one that slice 16 carries; tests and their ends; slices that rejoin -/
  fences : List Fence := []
  fenced : List Nat := []
  carried : Option Nat := none
  /-- slice 16 failed as a further slice, and is lost until it rejoins (R239) -/
  xorLost : Bool := false
  tests : List (Nat × Nat) := []
  rejoin : List (Nat × Nat) := []
  /-- cells received on expansion links in this tick: first lane and cell -/
  cellsSeen : List (Nat × Nat) := []
  deriving DecidableEq, Repr

/-- A swap request that waits (R248 to R254). -/
structure SwapReq where
  /-- SWAP_AT, not SWAP -/
  scheduled : Bool
  epoch : Nat
  /-- elapsed tick of boundary E; none while a supply warning holds the swap (R269) -/
  due : Option Nat
  /-- SHD_STATE to return to on cancellation -/
  back : Nat
  /-- elapsed tick of the boundary at which it was deferred -/
  deferredAt : Option Nat
  deriving DecidableEq, Repr

/-- SYNCING (R257 to R259): the start, its length, and the blocks it copies and regenerated. -/
structure Sync where
  start : Nat
  length : Nat
  blocks : List Nat
  regenerated : Nat
  /-- changed blocks of which the shadow bank has the copy, and blocks under regeneration with the elapsed tick at which they are in place (R259) -/
  copied : List Nat := []
  writing : List (Nat × Nat) := []
  deriving DecidableEq, Repr

/-- A line change (R264 to R268). -/
structure LineChange where
  conn : Nat := 0
  /-- 0 source endpoint, 1 destination endpoint -/
  side : Nat := 0
  /-- 0 move, 1 resize -/
  kind : Nat := 0
  tpn : Nat := 0
  oldFirst : Nat := 0
  oldCount : Nat := 0
  newFirst : Nat := 0
  newCount : Nat := 0
  /-- fields of LINE_CHG: 1 RUNNING, 2 COMMITTED, 3 FAILED with its cause; and the elapsed tick from which it reads so -/
  state : Nat := 1
  cause : Nat := 0
  begins : Nat := 0
  /-- move number and target multiframe; acknowledged; valid COMMITs for the target -/
  move : Nat := 0
  target : Nat := 0
  acked : Bool := false
  commits : Nat := 0
  deriving DecidableEq, Repr

/-- The answer an engine sent last (R265, R267): 2 ACK, 3 WAIT, 4 NAK with a cause. -/
structure LineAnswer where
  op : Nat
  move : Nat
  target : Nat
  cause : Nat
  deriving DecidableEq, Repr

structure Shadow where
  swap : Option SwapReq := none
  sync : Option Sync := none
  /-- elapsed tick of the last swap boundary -/
  lastSwap : Option Nat := none
  /-- expansion links, by first lane, whose link ingress map the last swap changed (R256) -/
  expansionChanged : List Nat := []
  changes : Map LineChange := []
  /-- per engine: multiframes counted by the slot-move transmitter (R266), and the last answer -/
  multiframe : Map Nat := []
  answers : Map (Option LineAnswer) := []
  /-- the last answer to an LCR message (R265) -/
  lcrAnswers : Map (Option LineAnswer) := []
  nextMove : Nat := 0
  deriving DecidableEq, Repr
/-! ## Host ports (chapter 05) -/

/-- The pointer generator of a VC at an SDH egress (R181): fill of its elastic store in bits, the elapsed tick of its last adjustment, and the pointer's
offset in adjustments. -/
structure PointerGen where
  fill : Int := 0
  adjusted : Option Nat := none
  offset : Int := 0
  deriving DecidableEq, Repr

/-- The transmit side of a host client (R175, R181, R183, R186): the failure signal it sends (0 traffic; codes of log entry 174), words in its 2-tick
elastic store, newest first, those it sends in this tick, what its lanes carry, the filtered valid count in 10⁻⁹ words per tick (THROUGH), the
bits by which idles have been inserted (above 0) or deleted, BDI, K1 and K2 on the protect lane of an MSP group (R298), by connection the failure
signals and pointer generators of its VCs, ODUs and FlexE clients, and connections whose ODU frame in progress POISON has turned into ODU-AIS. -/
structure HostTx where
  signal : Nat := 0
  store : List (List EgressWord) := []
  words : List EgressWord := []
  stream : Nat := 0
  through : Nat := 0
  idles : Int := 0
  bdi : Bool := false
  k : Nat := 0
  vcs : List (Nat × Nat) := []
  pointers : Map PointerGen := []
  poisoned : List Nat := []
  deriving DecidableEq, Repr

/-- The sections of an STM-N client (R178): J0 received last, and errors of B1, B2 and REI since the client was created. -/
structure SdhRun where
  j0 : Nat := 0
  b1 : Nat := 0
  b2 : Nat := 0
  rei : Nat := 0
  deriving DecidableEq, Repr

/-- A host client beside its objects: its lanes, their rate code, whether its PCS or framer is locked, and whether it has been up; its transmit side,
SDH sections, and the section monitoring of its OTU or OTUC instances (R183); for an expansion link the cells sent in this tick (R190), and consecutive control cells that differ from or agree with the tick
counter (R193). -/
structure Client where
  lanes : List Nat := []
  rate : Nat := 0
  pcs : Bool := false
  up : Bool := false
  tx : HostTx := {}
  sdh : SdhRun := {}
  sections : Map SmRun := []
  cells : List Cell := []
  differ : Nat := 0
  agree : Nat := 0
  deriving DecidableEq, Repr

/-- A host lane. Cell delineation of an expansion lane (R191): consecutive good and bad HECs, the bit position of the first candidate, of the
header due next, and from which HUNT goes on, and positions of headers that have fitted since the candidate; the last 43 bits of payload received and
sent on the lane, the states of its scramblers (R189); and the PRBS pattern that it sends (R170). -/
structure CellLane where
  good : Nat := 0
  bad : Nat := 0
  first : Nat := 0
  due : Option Nat := none
  huntFrom : Nat := 0
  fits : List Nat := []
  pattern : Nat := 0
  received : Nat := 0
  sent : Nat := 0
  deriving DecidableEq, Repr

/-! ## The timing core (chapter 10) -/

/-- A measurement of a reference (R352): its elapsed tick, the offset from the XO, and that from the median of its peers, where there are two. -/
structure RefSample where
  at_ : Nat
  offset : Int
  peer : Option Int := none
  deriving DecidableEq, Repr

/-- A reference beside its objects (R346 to R353). Times are elapsed ticks. -/
structure Ref where
  /-- SSM and enhanced SSM last received by ESMC or S1, and the tick of the last PDU -/
  ssm : Option Nat := none
  essm : Option Nat := none
  lastPdu : Option Nat := none
  /-- lane and TM_REF_QL_MODE under which they were received (R349) -/
  heardOn : Option (Nat × Nat) := none
  /-- since when each check of R352 has met its condition -/
  xoSince : Option Nat := none
  peerSince : Option Nat := none
  driftSince : Option Nat := none
  qualifyFrom : Nat := 0
  /-- tick of the last failure or disqualification, for the guard of R361 -/
  lostAt : Nat := 0
  /-- elapsed tick of the last disqualification, and TM_REF_DQ_TICK before it (R371) -/
  dqAt : Option Nat := none
  dqBefore : Nat := 0
  /-- consecutive PPS edges outside and inside the window -/
  outside : Nat := 0
  inside : Nat := 0
  /-- R346 has cleared, but an offset check still meets its condition (R351) -/
  cleared : Bool := false
  /-- measurements of the drift window, oldest first (R352) -/
  samples : List RefSample := []
  deriving DecidableEq, Repr

/-- A second of the control-value history (R360): the elapsed tick of its end, and the mean. -/
structure HeldSecond where
  ends : Nat
  value : Int
  deriving DecidableEq, Repr

/-- A DPLL beside its objects (R354 to R361, R367): phases in 0.1 ns as they stood at `slewStart`. -/
structure Dpll where
  frozen : Bool := false
  slew : Int := 0
  adjust : Int := 0
  slewStart : Nat := 0
  history : List HeldSecond := []
  lockedSince : Option Nat := none
  /-- a change of reference starts a new history at the next lock -/
  newReference : Bool := false
  /-- the reference whose loss fixes the guard of R361 -/
  lastReference : Option Nat := none
  lastHoldover : Option Int := none
  deriving DecidableEq, Repr

/-- The last ESMC PDU, or S1 level, that an egress lane sent (R350): the level, whether an event PDU, the tick of the last information PDU, the SSM
and eSSM codes (R348), and the tick in which it was sent. -/
structure EsmcSent where
  level : Nat
  event : Bool
  infoAt : Nat
  ssm : Nat := 0
  essm : Nat := 0
  sentAt : Nat := 0
  deriving DecidableEq, Repr

/-- A PPS output (R365): the elapsed tick at which the second of its last pulse began, how far the aligned pulse lies after that, the offset of the
pulse in 0.1 ns, its width and the DPLL it followed, and an offset written since, with the tick of the write. -/
structure PpsOut where
  second : Option Nat := none
  phase : Int := 0
  offset : Int := 0
  width : Nat := 0
  source : Nat := 0
  change : Option (Int × Nat) := none
  deriving DecidableEq, Repr

structure Timing where
  refs : Map Ref := []
  dplls : Map Dpll := []
  /-- seconds of the time of day, the seconds a host set for the next rollover, and whether the coming boundary's rollover is made -/
  seconds : Nat := 0
  toSet : Option Nat := none
  rolled : Bool := false
  /-- the second that ended at the last rollover -/
  ended : Nat := 0
  esmc : Map (Option EsmcSent) := []
  pps : Map PpsOut := []
  /-- entries of TM_TS_RING not read since they were written (R369) -/
  unread : List Nat := []
  /-- 1 + epoch of the last EV_TS_OVERFLOW -/
  overflowEpoch : Nat := 0
  /-- correctionField that a one-step egress last sent, per lane (R368) -/
  correction : Map Nat := []
  /-- UDP checksum that it sent with it -/
  checksum : Map Nat := []
  deriving DecidableEq, Repr

/-! ## Protection and Mirror Merge (chapter 08) -/

/-- An accepted APS or K value (R297): as received, the far end's request as a code of R286 (13 for a reverse request), the signals it
requests and bridges, and the elapsed tick of the acceptance. -/
structure ApsAccepted where
  raw : Nat
  request : Nat
  requested : Nat
  bridged : Nat
  tick : Nat
  deriving DecidableEq, Repr

/-- APS or K bytes of a group (R296 to R298): the value received last, how often in a row, and since when the bridged signal differs. -/
structure Aps where
  last : Nat := 0
  run : Nat := 0
  /-- accepted values, newest first (R278) -/
  accepted : List ApsAccepted := []
  mismatchSince : Option Nat := none
  deriving DecidableEq, Repr

/-- A protection group as the engine runs it (R286 to R290, R310). Times are elapsed ticks. -/
structure PgRun where
  request : Nat := 0
  /-- the own request of the last evaluation, whether or not it was in force -/
  own : Nat := 0
  far : Nat := 0
  fop : Nat := 0
  selector : Bool := false
  bridge : Bool := false
  /-- hold-off: the evaluation in which the defect appeared, and the requests whose defect has outlasted it (R288) -/
  holdFrom : Option Nat := none
  honoured : List Nat := []
  wtrFrom : Option Nat := none
  dnr : Bool := false
  /-- PSC request: last qualifying alert -/
  pscFrom : Option Nat := none
  workingSf : Bool := false
  workingSd : Bool := false
  protectSf : Bool := false
  protectSd : Bool := false
  served : Nat := 0
  aps : Aps := {}
  deriving DecidableEq, Repr

/-- A remote point (R300, R301). -/
structure Remote where
  record : Nat := 0
  tick : Option Nat := none
  updated : Nat := 0
  stale : Bool := false
  deriving DecidableEq, Repr

/-- A frame of one copy of a merge group (R305, R306): its sequence, the tick of its completion, and whether it is bad. -/
structure MmFrame where
  seq : Nat
  tick : Nat
  bad : Bool
  deriving DecidableEq, Repr

/-- A merge group (R304 to R309) beside MM_STATE. -/
structure MmRun where
  /-- consecutive frames of each copy with valid, consecutive sequence values, and their last value -/
  runW : Nat := 0
  runP : Nat := 0
  lastW : Option Nat := none
  lastP : Option Nat := none
  /-- frames of each copy that are not older than DELAY -/
  framesW : List MmFrame := []
  framesP : List MmFrame := []
  /-- completions of each copy, by sequence value and tick, whose value the other copy has not delivered yet; and differences protect − working of the
  last frames that both copies delivered, newest first -/
  seenW : List (Nat × Nat) := []
  seenP : List (Nat × Nat) := []
  diffs : List Int := []
  /-- consecutive frames without a valid sequence, and the causes NOSEQ and DELAY -/
  noseqW : Nat := 0
  noseqP : Nat := 0
  noseq : Bool := false
  delay : Bool := false
  /-- elapsed tick of the last valid frame of either copy -/
  lastValid : Nat := 0
  /-- since when the frames of a copy have arrived after their decision; which copy; and whether it has been reported -/
  lateSince : Option Nat := none
  lateCopy : Bool := false
  lateReported : Bool := false
  /-- MM_RETIME waits for the next frame -/
  retime : Bool := false
  /-- ticks for which headers still carry NOTVALID (R305) -/
  notValid : Nat := 0
  /-- the frame last output: its sequence, and whether it was the protect copy's; that a decision of ALIGNED output a bad frame; and the newest sequence
  value with the tick in which the late copy completes it or was due to -/
  output : Option (Nat × Bool) := none
  outputBad : Bool := false
  expected : Option (Nat × Nat) := none
  deriving DecidableEq, Repr

/-- An entry of the urgent channel (R300): export index, tick of the record, record. -/
structure UrgentEntry where
  index : Nat
  tick : Nat
  record : Nat
  deriving DecidableEq, Repr

/-- What chapter 08 keeps beside its objects. -/
structure Protection where
  /-- groups whose selector is at protect: published, and as the ingress mappers see them in this tick (R37); the publication of this tick
  was missed (R27) -/
  published : List Nat := []
  snapshot : List Nat := []
  publishMissed : Bool := false
  /-- what the coming snapshot takes, where a row has evaluated a group of the coming tick before its boundary -/
  snapshotNext : Option (List Nat) := none
  /-- the groups, and as they stood before the evaluation of this tick (R27) -/
  groups : Map PgRun := []
  groupsBefore : Map PgRun := []
  /-- PG_CMD of the active set and of the shadow, and the declaration of dFOP, before that evaluation -/
  cmdBefore : Map Nat := []
  cmdShadowBefore : Map Nat := []
  fopBefore : Map Nat := []
  /-- Defect Bus records by point: of the tick before this one, and of the one before that (R38) -/
  records : Map Nat := []
  available : Map Nat := []
  /-- copies of connections that carry a received FFF, with the source endpoint: at the end of the last tick, and of the ticks whose records stand
  above (R154) -/
  flagsNow : List (Nat × Nat) := []
  flags : List (Nat × Nat) := []
  /-- consecutive STALE records of a point (R29) -/
  stale : Map Nat := []
  remotes : Map Remote := []
  /-- classified SOP alerts of this tick by engine, and points with an uncorrected ODU frame in this tick (R276) -/
  psc : Map Nat := []
  uncorrected : List Nat := []
  /-- copies of merge groups, by merge index and copy, a frame of which failed its tag or was rejected in this tick (R330, R332) -/
  spoilt : List (Nat × Bool) := []
  /-- shadow elements of PG_CMD written since the last swap (R287) -/
  cmdWritten : List Nat := []
  merges : Map MmRun := []
  hbmFault : Bool := false
  /-- FFF bitmap and APS bytes sent in the previous tick (R27) -/
  fffBefore : Map Nat := []
  apsBefore : Map Nat := []
  /-- urgent entries of this tick's ring frame, and the record last sent per entry of PG_EXPORT (R300, R301) -/
  urgent : List UrgentEntry := []
  exported : Map Nat := []
  deriving DecidableEq, Repr


/-! ## Instruments and performance monitoring (chapter 11) -/

/-- A housekeeping sequencer beside its objects (R384, R385, R391). -/
structure HkRun where
  /-- index of the step in progress; 16 when the sequence has yielded its last result -/
  step : Nat := 0
  validLeft : Nat := 0
  /-- sequences started, modulo 65,536 -/
  count : Nat := 0
  /-- elapsed tick of the last period trigger, and 1 + epoch of the last EV_HK_OVERRUN -/
  periodAt : Option Nat := none
  overrunEpoch : Nat := 0
  deriving DecidableEq, Repr

/-- A record of a Loupe capture (R395): header fields and payload. -/
structure LoupeRec where
  tick : Nat
  src : Nat
  sub : Nat
  gap : Bool
  subst : Bool
  len : Nat
  payload : Nat
  deriving DecidableEq, Repr

structure Loupe where
  records : List LoupeRec := []
  gap : Bool := false
  /-- bytes kept before T -/
  pre : Nat := 0
  /-- elapsed tick for which triggers of kinds 1 and 2 have been looked for -/
  scanned : Option Nat := none
  /-- blocks of samples or symbols since the capture was armed (R394) -/
  blocks : Nat := 0
  deriving DecidableEq, Repr

structure Instruments where
  hk : Map HkRun := []
  /-- invalid results a channel still owes after a change (R389), channels whose comparator is disarmed (R392), words written to HK_RING -/
  invalid : Map Nat := []
  disarmed : List Nat := []
  ringWords : Nat := 0
  loupe : Loupe := {}
  deriving DecidableEq, Repr

/-- Counts of one end of a bin (R402). -/
structure PmCounts where
  es : Nat := 0
  ses : Nat := 0
  uas : Nat := 0
  bbe : Nat := 0
  deriving DecidableEq, Repr

/-- A bin (R401, R402). `tca` are the counters whose threshold it has reached. -/
structure Bin where
  k : Int := 0
  suspect : Bool := true
  ne : PmCounts := {}
  fe : PmCounts := {}
  berMax : Nat := 0xFFFF
  pwrMin : Option Int := none
  tca : List Nat := []
  deriving DecidableEq, Repr

/-- A classified second (R399): the bins it belongs to, and its class. -/
structure PmSec where
  k15 : Int
  k24 : Int
  es : Bool
  ses : Bool
  bbe : Nat
  deriving DecidableEq, Repr

/-- The availability of one end (R400): the run of seconds that could change it, newest first, at most 9. -/
structure Avail where
  uas : Bool := false
  run : List PmSec := []
  deriving DecidableEq, Repr

/-- One bin type of a point: the current bin, the one that waits for its closing, history as record values (newest first), and while
the HBM is out of service the newest unwritten record with the bin numbers of those before it (R401, R404). -/
structure PmBins where
  cur : Bin := {}
  closing : Option Bin := none
  history : List Nat := []
  unwritten : Option Nat := none
  dropped : List Int := []
  deriving DecidableEq, Repr

/-- A point of the PM engine. -/
structure PmPoint where
  m15 : PmBins := {}
  d24 : PmBins := {}
  ne : Avail := {}
  fe : Avail := {}
  /-- start of the current signal-degrade window, and whether it holds a defect tick (R407) -/
  sdStart : Nat := 0
  sdDefect : Bool := false
  /-- the decoder's totals at the start of the second and of the window, at an engine or a bonded group -/
  secBase : FecTotals := {}
  sdBase : FecTotals := {}
  deriving DecidableEq, Repr

structure Pm where
  points : Map PmPoint := []
  /-- consecutive frames of a monitored ODU that differ from the declared state of each path defect (R293) -/
  paths : Map (List Nat) := []
  /-- points with a defect tick, and with a tick of BDI or RDI, in the current second, and the elapsed boundary whose second has been classified -/
  defectSecond : List Nat := []
  farSecond : List Nat := []
  second : Option Nat := none
  /-- the current second makes the bins it belongs to SUSPECT (R403) -/
  suspect : Bool := false
  deriving DecidableEq, Repr
/-! ## Line encryption (chapter 09) -/

/-- A channel key (R335, R337, R340): its epoch, and the 36 bytes of key and salt. -/
structure SecKey where
  epoch : Nat
  material : Nat
  deriving DecidableEq, Repr

/-- What a receive half that a swap has ended at a boundary still does (R318): its connection, the keys for a frame begun before the boundary whose tag is
to come, and the words that it blanks. -/
structure EndedRx where
  conn : Nat
  at_ : Nat
  current : Option SecKey := none
  next : Option SecKey := none
  blanks : List (Nat × Nat) := []
  poisonAt : Option Nat := none
  deriving DecidableEq, Repr

/-- A secure channel of an engine. Times are elapsed ticks. -/
structure SecChan where
  txCurrent : Option SecKey := none
  txNext : Option SecKey := none
  rxCurrent : Option SecKey := none
  rxNext : Option SecKey := none
  /-- FC of the next frame under CURRENT; EV_REKEY_DUE raised in this epoch; a rollover triggered (R333, R336) -/
  fc : Nat := 0
  rekeyDue : Bool := false
  rolling : Bool := false
  /-- epoch and check value of the last KA_READY, and since when trigger and readiness both hold -/
  heard : Option (Nat × Nat) := none
  eligible : Option Nat := none
  /-- the receive NEXT has been announced -/
  announced : Bool := false
  /-- FC of the last verified frame under the receive CURRENT; consecutive failed and verified frames (R329, R332) -/
  lastFc : Option Nat := none
  failRun : Nat := 0
  goodRun : Nat := 0
  deferred : Bool := false
  /-- intervals of ticks in which the demapper writes AIS fill, and the tick whose words a tag failure replaces (R329 to R331) -/
  blanks : List (Nat × Nat) := []
  poisonAt : Option Nat := none
  /-- the host installed the transmit NEXT (R336), and a receive half that the last change of the entry ended -/
  txHost : Bool := false
  ended : Option EndedRx := none
  /-- the frame the transmit half sent last: its SOH, its IV where it was encrypted, and whether it was ODU-LCK -/
  soh : Nat := 0
  iv : Option Nat := none
  lck : Bool := false
  /-- the frame sent last, and the frame that the receive half delivered last (R323, R324) -/
  sent : Option OduBody := none
  delivered : Option OduBody := none
  /-- the frame whose words the demapper writes (R324, R330, R331) -/
  passing : Option OduBody := none
  deriving DecidableEq, Repr

/-- A live link secret (R340): its 32 bytes, whether this end was the initiator, the far end's identity digest, and the elapsed tick of
its start. -/
structure LinkSecret where
  value : Nat
  initiator : Bool
  peer : Nat
  since : Nat
  deriving DecidableEq, Repr

/-- A message sent on a key channel (R339). -/
inductive KaMessage where
  | hello (publicKey nonce : Nat)
  | ek (key signature : Nat)
  | ct (ciphertext signature : Nat)
  | confirm (value : Nat)
  | ready (tpn d epoch check : Nat)
  | abort (cause : Nat)
  deriving DecidableEq, Repr

/-- A key agreement in progress (R340): its start, the own nonce, the far end's HELLO, the role, the draw of the own ML-KEM key, and the
transcript and link secret once they are derived. -/
structure Agreement where
  start : Nat
  nonce : Nat
  peer : Option (Nat × Nat) := none
  initiator : Bool := false
  draw : Nat := 0
  t2 : Nat := 0
  t3 : Nat := 0
  secret : Option Nat := none
  deriving DecidableEq, Repr

/-- The key channel of an engine, or of the first engine of a bonded group: messages sent in this tick, the bytes of the HDLC frames that wait to
be sent (R339), and whether a restart left an agreement to be started again (R341). -/
structure SecLink where
  secret : Option LinkSecret := none
  agreement : Option Agreement := none
  retryAt : Option Nat := none
  routed : Bool := false
  again : Bool := false
  outbox : List KaMessage := []
  wire : List Nat := []
  /-- bytes received on the key channel since the last flag -/
  inbox : List Nat := []
  deriving DecidableEq, Repr

/-- A write into the key store that a supply warning defers (R342). -/
inductive KeyWrite where
  | install (e ch : Nat) (receive : Bool) (k : SecKey)
  | derive (e ch : Nat) (receive : Bool)
  | live (e : Nat) (secret : LinkSecret)
  deriving DecidableEq, Repr

structure SecureLine where
  /-- channels by 1,024 × engine + channel, and links by engine -/
  channels : Map SecChan := []
  links : Map SecLink := []
  deferred : List KeyWrite := []
  /-- EV_KEY_DEFERRED has been raised in this warning -/
  warned : Bool := false
  /-- secure-channel entries before the last swap, which transmit halves use until tick E + 2 (R318) -/
  before : Map Nat := []
  deriving DecidableEq, Repr

/-! ## The Vyusk ring (chapter 12) -/

/-- An urgent entry as it travels (R440). -/
structure RingUrgent where
  node : Nat
  index : Nat
  tick : Nat
  record : Nat
  deriving DecidableEq, Repr

/-- A request that arrives in segments (R442): the segment expected next, and the frame of the last one. -/
structure Partial where
  next : Nat
  frame : Nat
  deriving DecidableEq, Repr

/-- A reply that a slot owes to a frame (R442): an empty segment, or the next segment of the response. -/
structure ReplyDue where
  slot : Nat
  frame : Nat
  data : Bool
  deriving DecidableEq, Repr

/-- A reply segment written into a copy (R440, R442); `data` is its 42 data bytes, those beyond `len` zero. -/
structure ReplySeg where
  frame : Nat
  slot : Nat
  first : Bool
  last : Bool
  seg : Nat
  len : Nat
  data : Nat
  deriving DecidableEq, Repr

/-- A copy that leaves the node (R441, R447): the port it came in on and the one it leaves on, its bytes as they leave unread, and as they
leave. -/
structure CopyOut where
  came : Nat
  port : Nat
  unread : Nat
  bytes : Nat
  deriving DecidableEq, Repr

/-- A request slot of a frame that the master started (R443): its frame, slot and node, and the copies that came back without a reply. -/
structure Asked where
  frame : Nat
  slot : Nat
  node : Nat
  empty : Nat := 0
  deriving DecidableEq, Repr

/-- The frame that the master started in this tick (R438, R439). -/
structure RingFrame where
  tick : Nat
  urg : Nat
  topo : Nat
  present : Nat
  wrapped : Bool
  urgent : List RingUrgent
  asks : List RingAsk
  deriving DecidableEq, Repr

structure Ring where
  /-- elapsed tick of the last valid copy, by port; ports that have failed -/
  heard0 : Option Nat := none
  heard1 : Option Nat := none
  failed : List Nat := []
  /-- requests that arrive, replies that are owed, bytes of each slot's response that are sent, and segments written into the copies of a frame -/
  parts : Map (Option Partial) := []
  due : List ReplyDue := []
  sent : Map Nat := []
  written : List ReplySeg := []
  /-- own entries that wait for a free place, by port (R445), and 1 + epoch of the last EV_VY_URG_DEFER -/
  wait0 : List RingUrgent := []
  wait1 : List RingUrgent := []
  deferEpoch : Nat := 0
  /-- TOPO of the previous frame; the current frame calls for every record (R445) -/
  topo : Option Nat := none
  refresh : Bool := false
  /-- copies sent in this tick; urgent entries of the last copy out of each port; a wrap owes them again, by the port it sends on (R447) -/
  out : List CopyOut := []
  last0 : List RingUrgent := []
  last1 : List RingUrgent := []
  resend : Option Nat := none
  /-- the master's: frames asked, entries to relay with the elapsed tick of their frame (R448), loop state, and the frame of this tick -/
  asked : List Asked := []
  relay : List (Nat × RingUrgent) := []
  wrapped : Bool := false
  unlooped : Nat := 0
  frame : Option RingFrame := none
  /-- nodes addressed since the epoch began, and since the 32 epochs began (R443) -/
  addressed : List Nat := []
  tried : List Nat := []
  deriving DecidableEq, Repr

/-! ## Stored data and fault injection (chapter 13) -/

/-- A storage page beside what its region says (R455 to R465): its recorded strength; the bits that are wrong, and those stuck so by an
injection; a demand scrub is queued, and the bits it will write back; bits written back, each with the scrubber's visits since; weak;
uncorrectable; the spare that a repair copies to, and the bits an injection inverts during the copy; and the element ranges rewritten since
the page became uncorrectable. -/
structure StorePage where
  strength : Option Nat := none
  wrong : List Nat := []
  stuck : List Nat := []
  queued : Bool := false
  found : List Nat := []
  written : List (Nat × Nat) := []
  weak : Bool := false
  bad : Bool := false
  copying : Bool := false
  spare : Option Nat := none
  carried : List Nat := []
  healed : List (Nat × Nat) := []
  /-- elapsed ticks in which the demand scrub was queued, the copy began, and the page became uncorrectable (R457, R461, R464) -/
  queuedAt : Nat := 0
  copyAt : Nat := 0
  badAt : Nat := 0
  deriving DecidableEq, Repr

structure Stores where
  pages : Map StorePage := []
  /-- by region: the strength of pages not listed (0: the default), passes until a new strength is everywhere, elapsed tick of the last leak,
  and regions whose bucket has not drained since its event -/
  encoded : Map Nat := []
  recode : Map Nat := []
  leakAt : Map Nat := []
  /-- by region: elapsed tick in which the pass of the scrubber began (R459) -/
  passAt : Map Nat := []
  full : List Nat := []
  /-- spares taken, by region: 64 × region + spare -/
  spares : List Nat := []
  /-- 1 + epoch of the last EV_D2D_REPLAY_FAIL; groups (link, direction, group) with a failing lane in service, and those of them that have
  tagged words (R471); and groups whose lane has become the spare after an injection (R473) -/
  replayEpoch : Nat := 0
  dead : List (Nat × Nat × Nat) := []
  short : List (Nat × Nat × Nat) := []
  regained : List (Nat × Nat × Nat) := []
  /-- points whose record arrives a tick late (R470) -/
  late : List Nat := []
  deriving DecidableEq, Repr

/-- A fault for the next copy of a port (R475): the kind 5 to 7, the area, the entry or slot, the mask, and whether the CRC is recomputed. -/
structure RingFault where
  port : Nat
  kind : Nat
  area : Nat
  place : Nat
  mask : Nat
  recompute : Bool
  deriving DecidableEq, Repr

/-- A segment or entry held back: its port, area, entry or slot, and bytes. -/
structure RingHeld where
  port : Nat
  area : Nat
  place : Nat
  bytes : Nat
  deriving DecidableEq, Repr

structure Injection where
  /-- PREPARED: session and elapsed tick; ARMED: elapsed tick a -/
  prepared : Option (Nat × Nat) := none
  armedAt : Nat := 0
  ring : List RingFault := []
  /-- segments and entries held back (R475, kind 7) -/
  held : List RingHeld := []
  badWords : List Nat := []
  badXor : List Nat := []
  /-- slots of kinds 8 and 9 whose fault stands in this tick; 1 + elapsed tick of each slot's last occurrence; and lanes that an injection has
  failed: link, direction, group, lane -/
  forced : List Nat := []
  lastHit : Map Nat := []
  lanes : List (Nat × Nat × Nat × Nat) := []
  deriving DecidableEq, Repr

/-! ## Power (chapter 14) -/

/-- A domain beside its objects (R486 to R497). Times are elapsed ticks. -/
structure DomRun where
  /-- the SLEEP request that awaits its handshake -/
  request : Option Rq := none
  /-- step of R489 in progress (0 none), its start, the block that delays it, and the deepest abort point passed -/
  step : Nat := 0
  since : Nat := 0
  delaying : Option Nat := none
  passed : Nat := 0
  /-- a wake: its commit, the state it leaves, whether it waits for the entry, for VDD_CORE, for its ramp or for its clocks -/
  wake : Option Nat := none
  leaves : Nat := 0
  waits : Bool := false
  raise : Bool := false
  ramping : Bool := false
  clocking : Bool := false
  /-- a retained bank failed: the wake is one from Off (R495) -/
  fromOff : Bool := false
  /-- elapsed tick from which the domain reads ON after its clocks were switched (R496), and CNV_STATE as an entry found it -/
  on : Option Nat := none
  cnv : Nat := 0
  deriving DecidableEq, Repr

/-- A request to a regulator (R481, R482): 1 voltage, 2 on, 3 off; its target in µV; its elapsed tick; and whether a wake waits for it. -/
structure RailRequest where
  kind : Nat
  target : Nat
  at_ : Nat
  wake : Bool := false
  deriving DecidableEq, Repr

structure Power where
  doms : Map DomRun := []
  requests : Map (Option RailRequest) := []
  failed : Map (Option RailRequest) := []
  /-- elapsed tick of the last AVS step or wake raise (R483, R497) -/
  avsAt : Option Nat := none
  /-- the domain whose power switches ramp, and the elapsed tick at which they began (R497) -/
  ramp : Option (Nat × Nat) := none
  /-- Quiescent (R502, R503): 0 not, 1 entering, 2 in it, 3 leaving; and who asked, until the entry begins -/
  quiescent : Nat := 0
  quiescentBy : Option Rq := none
  deriving DecidableEq, Repr

/-! ## Boot and the management complex (chapter 15) -/

structure Mc where
  /-- pins and board: latched at the release of PORST_N (R508, R437), and the contents of the flash (R512) -/
  source : Nat := 0
  node : Nat := 0
  pcie : Bool := false
  slotA : Option FwImage := none
  slotB : Option FwImage := none
  qspiOk : Bool := true
  /-- held in reset: 1 by PORST_N, 2 by a supply (R501) -/
  held : Nat := 0
  remap : Bool := false
  /-- DMA channels whose status reads UNCORR, with the address (R463) -/
  dma : List (Nat × Nat) := []
  /-- step 11 of the boot sequence runs: tick 0 has begun, and the complex is not ready (R20, R509) -/
  initialising : Bool := false
  /-- tick of the loss of lock that is latched in always-on storage (R19, R434) -/
  pllTick : Nat := 0
  running : Option FwImage := none
  /-- boot over PCIe: chunks are awaited; SEC_ID and rail error of FAILED stay in BOOT_STS -/
  loading : Bool := false
  /-- a warm restart that is asked for, with its cause (R522); the one that runs; starts of the last ones, newest first, in elapsed ticks (R524) -/
  restart : Option Nat := none
  restarting : Option Nat := none
  starts : List Nat := []
  /-- an activation: FW_VERSION before it (R527) -/
  activating : Option Nat := none
  /-- a slot being programmed, with the image (R526) -/
  programming : Option (Nat × FwImage) := none
  nonce : Option Nat := none
  sequence : Nat := 0
  dumpGap : Bool := false
  dumpFrom : Nat := 0
  /-- records of the counter dump by index (R536, R537) -/
  dump : Map Nat := []
  /-- 1 + epoch of the last EV_PERF_OVERFLOW, per entry of PERF_DP_OVF -/
  overflowEpoch : Map Nat := []
  interrupts : List Nat := []
  /-- reservation trackers: master and address (R528) -/
  reserved : List (Nat × Nat) := []
  deriving DecidableEq, Repr


/-- What waits for a tick boundary (R34 and the rules each case names). -/
inductive Due where
  /-- a staged single-object write -/
  | write (k : Key) (v : Nat)
  /-- LDSP_ACQ_RESTART (R107) -/
  | acqRestart (e kind : Nat)
  /-- a foreground calibration starts (R70), or commits (R71) -/
  | calStart (e : Nat)
  | calCommit (e : Nat)
  /-- background coefficients (R64) -/
  | bgCal (e : Nat) (cs : List Coefficient)
  /-- TB_BOND_CFG (R45) -/
  | bond (v : Nat)
  /-- a retest of a decoder core starts; a core that passed joins (R135) -/
  | coreTest (e core : Nat)
  | coreJoin (e core : Nat)
  /-- a client is created, or removed where it has no lanes (R172) -/
  | client (l type : Nat) (lanes : List Nat) (rate : Nat)
  /-- PRISM_COMPILE (R224) -/
  | compileStart (kind : Nat)
  /-- LOUPE_FIRE (R397) -/
  | loupeFire
  /-- the tag of a received frame arrives (R330): channel, verify-first, ticks of the frame, and the frame -/
  | secTag (e ch : Nat) (verifyFirst : Bool) (ticks : Nat) (body : OduBody)
  /-- PWR_DOM_REQ (R486, R487), or a wake (R490), by WAKE_N or a write -/
  | domSleep (d target : Nat)
  | domWake (d : Nat) (pin : Bool)
  /-- the spare takes a lane's place (R471) -/
  | laneSpare (link direction group lane : Nat)
  /-- transmit curves are reloaded after the loss of their page (R467) -/
  | reload (e : Nat)
  /-- PERF_FREEZE (R538) -/
  | freeze (on : Bool)
  deriving DecidableEq, Repr

/-- An entry of the agenda: the elapsed tick of its boundary, and what happens there. -/
structure Pending where
  boundary : Nat
  due : Due
  deriving DecidableEq, Repr

/-- The block. Times are elapsed ticks since tick 0 (R25) unless a field says otherwise. -/
structure State where
  /-- commands that wait, first in first out -/
  pending : List Instr := []
  /-- elapsed ticks, the loadable counter (R21, R23), and whether the coming boundary's count is made (log entry 6) -/
  now : Nat := 0
  tick : Nat := 0
  counted : Bool := false
  /-- tick 0 has begun (R20) -/
  running : Bool := false
  /-- next draw of a free value (log entry 3) -/
  fresh : Nat := 0
  /-- objects, and the two copies of every WS object (R246) -/
  reg : Map Nat := []
  act : Map Nat := []
  shd : Map Nat := []
  /-- declared defects by code and instance, with 1 + the tick of declaration (R436) -/
  defects : Map Nat := []
  agenda : List Pending := []
  /-- a counter load that waits: value and elapsed tick (R23), and the automatic one (R24) -/
  load : Option (Nat × Nat) := none
  autoLoad : Option (Nat × Nat) := none
  /-- changes of this tick, for the stream (R38); the stream, and what it lost (R39) -/
  changes : List EvRec := []
  stream : List StreamEntry := []
  lastOverrun : Option Nat := none
  /-- 1 + epoch of the last EV_TICK_OVERRUN, per engine (R31) -/
  overrunEpoch : Map Nat := []
  /-- 1 + elapsed tick of the last overrun, per engine (R30); and the records of this tick, where a row for a part of the coming boundary has ended
  it (log entry 6) -/
  overrunAt : Map Nat := []
  closed : Option (Map Nat) := none
  /-- EV_CORE_PLL_UNLOCK latched in always-on storage (R19) -/
  pllLatch : Bool := false
  bar : Bar0 := {}
  sessions : Map Session := []
  /-- 1 + epoch of the last EV_QM_AUTH_FAIL (R433) -/
  authEpoch : Nat := 0
  /-- responses owed in Vyusk slots (R442), and requests for the summary, RESYNC or a read of DEV_SUMMARY by opcode, answered at the next boundary (R424, R450) -/
  owed : Map (Option Response) := []
  resyncs : List (Nat × Rq) := []
  evq : EvQueue := {}
  eng : Map Engine := []
  /-- spread of each bonded group when it was aligned, in ps, by point (R151) -/
  bondSpread : Map Nat := []
  /-- GCC bytes that wait, per route, toward the port and toward the line, and 1 + epoch of the last overflow event (R159) -/
  gccOut : Map (List Nat) := []
  gccIn : Map (List Nat) := []
  gccEpoch : Map Nat := []
  /-- bytes each OHP port sent in its last frame (R158) -/
  ohpSent : Map (List Nat) := []
  /-- clients by first lane, and the cell delineation of each lane -/
  clients : Map Client := []
  cells : Map CellLane := []
  timing : Timing := {}
  prot : Protection := {}
  sec : SecureLine := {}
  prism : Prism := {}
  shadow : Shadow := {}
  instr : Instruments := {}
  pm : Pm := {}
  ring : Ring := {}
  stores : Stores := {}
  inject : Injection := {}
  power : Power := {}
  mc : Mc := {}
  deriving DecidableEq, Repr

/-- The block right after reset: every object at its default, every queue empty, the boot state ROM (R14, R417, R427). -/
def State.reset : State := {}

end Sys2Proof.Machine
end

