-- ==== Sys2Proof/Machine/Ops.lean ====
section
/-! DEFINITION. The named operations over the state that the meanings share: objects, the machine's units, time and boundaries,
the agenda of what waits for a boundary, and free values. -/

namespace Sys2Proof.Machine

/-- What a command answers. -/
abbrev Out := Host.Outcome State Fault Refusal

/-! ## Objects -/

/-- The value of an object that is not WS. -/
def State.obj (s : State) (k : Key) : Nat := Map.get (objDefault k) s.reg k

/-- The state with an object's value replaced. -/
def State.setObj (s : State) (k : Key) (v : Nat) : State := { s with reg := Map.set (objDefault k) s.reg k v }

/-- The state with a 64-bit counter advanced, wrapping. -/
def State.bump (s : State) (k : Key) (n : Nat := 1) : State := s.setObj k (u64 (s.obj k + n))

/-- The active and the shadow copy of a WS object (R246, R247). -/
def State.active (s : State) (k : Key) : Nat := Map.get (objDefault k) s.act k
def State.shadowed (s : State) (k : Key) : Nat := Map.get (objDefault k) s.shd k
def State.setShadow (s : State) (k : Key) (v : Nat) : State := { s with shd := Map.set (objDefault k) s.shd k v }

/-- The signed reading of an S32 object. -/
def State.objInt (s : State) (k : Key) : Int := signed 4 (s.obj k)
def State.setInt (s : State) (k : Key) (z : Int) : State := s.setObj k (encode 4 z)

/-- A value below 2^64 the spec leaves open (log entry 3). -/
def State.free (s : State) : Nat := Config.freeValue s.fresh
def State.drawn (s : State) : State := { s with fresh := s.fresh + 1 }

/-! ## Units -/

def State.engine (s : State) (e : Nat) : Engine := Map.get {} s.eng (Key.unit e)
def State.setEngine (s : State) (e : Nat) (r : Engine) : State := { s with eng := Map.set {} s.eng (Key.unit e) r }
def State.withEngine (s : State) (e : Nat) (f : Engine → Engine) : State := s.setEngine e (f (s.engine e))

def State.withPrism (s : State) (f : Prism → Prism) : State := { s with prism := f s.prism }
def State.withShadow (s : State) (f : Shadow → Shadow) : State := { s with shadow := f s.shadow }
def State.withBar (s : State) (f : Bar0 → Bar0) : State := { s with bar := f s.bar }

def State.withRing (s : State) (f : Ring → Ring) : State := { s with ring := f s.ring }
def State.withStores (s : State) (f : Stores → Stores) : State := { s with stores := f s.stores }
def State.withInject (s : State) (f : Injection → Injection) : State := { s with inject := f s.inject }
def State.withPower (s : State) (f : Power → Power) : State := { s with power := f s.power }
def State.withMc (s : State) (f : Mc → Mc) : State := { s with mc := f s.mc }

/-! ## Storage pages (R454) -/

def pageKey (region page : Nat) : Key := ⟨region, page, 0, 0⟩
def State.page (s : State) (region page : Nat) : StorePage := Map.get {} s.stores.pages (pageKey region page)
def State.setPage (s : State) (region page : Nat) (x : StorePage) : State :=
  s.withStores fun y => { y with pages := Map.set {} y.pages (pageKey region page) x }

/-- The page of region CT that holds an element of a copy (log entry 21): PRISM_CONN and PRISM_PLACE_LIST, active then shadow. -/
def ctPage (shadow list : Bool) (x : Nat) : Nat := (if shadow then 384 else 0) + (if list then 128 else 0) + x / 4096

/-- An uncorrectable page of region CT stands (R465). -/
def State.ctBad (s : State) : Bool := s.stores.pages.any fun e => decide (e.1.c = 1) && e.2.bad

/-- Pages of region CT that a set copy from the active set rewrites, and those that the exchange of roles at a swap moves (log entry 21). -/
def State.healShadowCt (s : State) : State :=
  s.withStores fun y => { y with pages := y.pages.filter fun e => !(decide (e.1.c = 1) && decide (384 ≤ e.1.i)) }

def State.swapCtPages (s : State) : State :=
  let (ct, rest) := s.stores.pages.partition fun e => decide (e.1.c = 1)
  let moved := ct.foldl (fun m e => Map.set {} m (pageKey 1 ((e.1.i + 384) % 768)) e.2) rest
  s.withStores fun y => { y with pages := moved }

/-! ## Time (R11, R20 to R25) -/

/-- The value the counter takes at the coming tick boundary. -/
def State.nextTick (s : State) : Nat := if s.counted then s.tick else u64 (s.tick + 1)

/-- The epoch and the phase of the current tick (R11). -/
def State.epoch (s : State) : Nat := s.tick / 32
def State.phase (s : State) : Nat := s.tick % 32

/-- The first epoch boundary that lies at least `lead` ticks after this tick, as a counter value and as an elapsed tick. -/
def State.epochBoundary (s : State) (lead : Nat) : Nat := (s.tick + lead + 31) / 32 * 32
def State.epochBoundaryAt (s : State) (lead : Nat) : Nat := s.now + (s.epochBoundary lead - s.tick)

/-- An operation carried out as at the coming tick boundary, in the tick that the boundary opens (log entry 6). -/
def State.atBoundary (s : State) (f : State → State) : State :=
  let t := f { s with now := s.now + 1, tick := s.nextTick }
  { t with now := s.now, tick := s.tick }

/-! ## The agenda -/

/-- Put an action on the agenda of an elapsed tick. -/
def State.plan (s : State) (boundary : Nat) (d : Due) : State := { s with agenda := s.agenda ++ [⟨boundary, d⟩] }

/-- Stage a single-object write for a boundary; of several writes of one object for one boundary the last stands (R34, R422). -/
def State.stageAt (s : State) (boundary : Nat) (k : Key) (v : Nat) : State :=
  let others := s.agenda.filter fun p =>
    match p.due with
    | .write k' _ => !(decide (k' = k) && decide (p.boundary = boundary))
    | _ => true
  { s with agenda := others ++ [⟨boundary, .write k v⟩] }

/-- Stage a single-object write for the next tick boundary (R34). -/
def State.stage (s : State) (k : Key) (v : Nat) : State := s.stageAt (s.now + 1) k v

/-- The value a later check of a staged object uses: the last one staged, else the one in force. -/
def State.latest (s : State) (k : Key) : Nat :=
  s.agenda.foldl (fun v p => match p.due with
    | .write k' w => if k' = k then w else v
    | _ => v) (s.obj k)

/-- Whether an action waits on the agenda. -/
def State.waits (s : State) (p : Due → Bool) : Bool := s.agenda.any fun q => p q.due

/-- Carry out, in order, the agenda's actions that satisfy `p` and whose boundary is no later than now. -/
def State.runDue (s : State) (apply : Due → State → State) (p : Due → Bool) : State :=
  let ready := fun (q : Pending) => decide (q.boundary ≤ s.now) && p q.due
  (s.agenda.filter ready).foldl (fun t q => apply q.due t) { s with agenda := s.agenda.filter fun q => !ready q }

end Sys2Proof.Machine
end

