-- ==== Sys2Proof/Machine/Flags.lean ====
section
/-! DEFINITION. Status: events and defects on their way to the event stream, interrupt status, and the status codes of Quemus. -/

namespace Sys2Proof.Machine

/-- STATUS codes (R420). -/
inductive Status where
  | ok | busy | denied | noObject | type | range | shadowBusy | precond | deadline | abandoned
  deriving DecidableEq, Repr

def Status.code : Status → Nat
  | .ok => 0 | .busy => 1 | .denied => 2 | .noObject => 3 | .type => 4 | .range => 5 | .shadowBusy => 6
  | .precond => 7 | .deadline => 8 | .abandoned => 9

/-- The fields of a record's content, at the widths of its row (R434). -/
def contentOf (ws vs : List Nat) : List Fld := List.zipWith (fun w v => ⟨w, v % 256 ^ w⟩) ws vs

/-- Raise an event with the fields of its content (R38, R434). -/
def State.raise (s : State) (ev : EvRow) (fields : List Nat) : State :=
  { s with changes := s.changes ++ [⟨ev.code, false, s.tick, contentOf ev.widths fields⟩] }

/-- An event whose record carries the tick of an earlier cause (R434). -/
def State.raiseAt (s : State) (tick : Nat) (ev : EvRow) (fields : List Nat) : State :=
  { s with changes := s.changes ++ [⟨ev.code, false, tick, contentOf ev.widths fields⟩] }

/-- A change of protection request that moves no selector or bridge goes to the event stream (R38); no table gives it a code, so the entry has
code 0 and the delivery makes no record of it (log entry 152). -/
def requestChange : Nat := 0

def State.noteRequest (s : State) (g request : Nat) : State :=
  { s with changes := s.changes ++ [⟨requestChange, false, s.tick, [⟨4, g⟩, ⟨2, request⟩]⟩] }

def defectKey (d inst : Nat) : Key := ⟨d, inst, 0, 0⟩

/-- Whether a defect is declared for an instance (R436, R570). -/
def State.declared (s : State) (d inst : Nat) : Bool := decide (Map.get 0 s.defects (defectKey d inst) ≠ 0)

/-- Declare a defect; the change goes to the event stream (R38). -/
def State.declare (s : State) (d inst : Nat) : State :=
  if s.declared d inst then s
  else { s with
    defects := Map.set 0 s.defects (defectKey d inst) (s.tick + 1)
    changes := s.changes ++ [⟨d, false, s.tick, [⟨4, inst⟩]⟩] }

/-- Clear a defect. -/
def State.clear (s : State) (d inst : Nat) : State :=
  if s.declared d inst then { s with
    defects := Map.set 0 s.defects (defectKey d inst) 0
    changes := s.changes ++ [⟨d, true, s.tick, [⟨4, inst⟩]⟩] }
  else s

/-- Declare or clear by a condition. -/
def State.setDefect (s : State) (d inst : Nat) (on : Bool) : State := if on then s.declare d inst else s.clear d inst

/-- An uncorrectable page is counted and logged, most recent first (R463, R478). -/
def State.logUncorr (s : State) (region page reader : Nat) : State :=
  let t := s.bump (Obj.SIO_UNCORR region)
  let moved := (List.range 15).foldl (fun u x => u.setObj (Obj.SIO_UNCORR_LOG region (x + 1)) (s.obj (Obj.SIO_UNCORR_LOG region x))) t
  moved.setObj (Obj.SIO_UNCORR_LOG region 0) (reader * 2 ^ 56 + page % 2 ^ 24 * 2 ^ 32 + s.tick % 2 ^ 32)

/-- Storage page of a block, 245 × page + block, in the active or the other bank of the control memory (log entry 21). -/
def State.cmPage (s : State) (active : Bool) (b : Nat) : Nat :=
  (if active then s.obj Obj.SHD_GENERATION % 2 else 1 - s.obj Obj.SHD_GENERATION % 2) * 7840 + b

/-- A page becomes uncorrectable: a copy under way is abandoned, and its spare stays reserved (R463, R477). -/
def State.markBad (s : State) (region page : Nat) : State :=
  let p := s.page region page
  s.setPage region page { p with bad := true, badAt := s.now, copying := false, queued := false, found := [] }

/-- Uncorrectable blocks of the active bank, as 245 × page + block. -/
def State.cmBadBlocks (s : State) : List Nat :=
  s.stores.pages.filterMap fun e =>
    if e.1.c = 0 ∧ e.2.bad = true ∧ e.1.i / 7840 = s.obj Obj.SHD_GENERATION % 2 then some (e.1.i % 7840) else none

/-- Set a status bit of IRQ_STS and send its MSI-X vector where IRQ_EN enables it (R427). -/
def State.irq (s : State) (vector : Nat) : State :=
  s.withBar fun b => { b with
    irqSts := withBit b.irqSts vector true
    msix := if bit b.irqEn vector then b.msix ++ [vector] else b.msix }

/-- A new boot state, with its interrupt (R427). -/
def State.setBoot (s : State) (state cause err : Nat) : State :=
  (s.withBar fun b => { b with bootState := state, bootCause := cause, bootError := err }).irq 2

end Sys2Proof.Machine
end

