-- ==== Sys2Proof/Machine/Operands.lean ====
section
/-! DEFINITION. The operand forms of a request: its session and role, the object it names, the index, length and value it
carries (R415, R416, R421, R430, R433), and the one path by which every request is served and answered (R418, R422, R428, R429). -/

namespace Sys2Proof.Machine

/-- The opcodes of R419. -/
abbrev Op.read : Nat := 0x01
abbrev Op.write : Nat := 0x02
abbrev Op.writeShadow : Nat := 0x03
abbrev Op.swap : Nat := 0x04
abbrev Op.swapAt : Nat := 0x05
abbrev Op.bulkRead : Nat := 0x06
abbrev Op.tableWrite : Nat := 0x07
abbrev Op.subscribe : Nat := 0x08
abbrev Op.resync : Nat := 0x09
abbrev Op.digestWalk : Nat := 0x0A
abbrev Op.session : Nat := 0x0B

/-- The key an object number and an index name (R13, R413). -/
def objKey (obj idx : Nat) : Key := ⟨obj / 2 ^ 24 % 256, obj / 2 ^ 8 % 2 ^ 16, obj % 256, idx⟩

/-! ## Session and role -/

/-- QM_SESSIONS fields of a session slot (R451). -/
def State.sessionOpen (s : State) (k : Nat) : Bool := bit (s.obj (Obj.QM_SESSIONS k)) 31
def State.sessionRole (s : State) (k : Nat) : Nat := field (s.obj (Obj.QM_SESSIONS k)) 30 29
def State.sessionVyusk (s : State) (k : Nat) : Bool := bit (s.obj (Obj.QM_SESSIONS k)) 28

def State.session (s : State) (k : Nat) : Session := Map.get {} s.sessions (Key.unit k)
def State.setSession (s : State) (k : Nat) (x : Session) : State :=
  { s with sessions := Map.set {} s.sessions (Key.unit k) x }

/-- A session ends, with a cause (R431, R453, R466): its key, its subscriptions and its buffer go. -/
def State.closeSession (s : State) (k cause : Nat) : State :=
  if s.sessionOpen k then
    let t := s.raise Ev.SESSION [(s.session k).id, s.sessionRole k, cause]
    (List.range 64).foldl (fun u x => u.setObj (Obj.EV_SUBS (64 * k + x)) 0) ((t.setObj (Obj.QM_SESSIONS k) 0).setSession k {})
  else s

/-- The open session with an id, on the transport of the request. -/
def State.findSession (s : State) (id : Nat) (vyusk : Bool) : Option Nat :=
  (List.range 16).find? fun k => s.sessionOpen k && s.sessionVyusk k == vyusk && decide ((s.session k).id = id)

/-- Who sends a request: the role it holds and, where one carries it, the session slot. -/
structure Sender where
  role : Nat
  slot : Option Nat
  deriving DecidableEq, Repr

/-- The AAD and IV of the trailer (R433). -/
def trailerTag (key : Nat) (rq : Rq) : Nat :=
  Config.frameTag key (rq.session * 2 ^ 64 + rq.counter) (rq.frame ++ [⟨8, rq.counter⟩])

/-- Check 2 of R421: the session is valid and, on the Vyusk ring, the trailer and the counter are; a frame on PCIe carries no trailer (R430,
R433). -/
def State.sender (s : State) (rq : Rq) (op : Nat) : Option Sender :=
  match rq.slot with
  | none =>
    if rq.auth then none
    else if rq.session = 0 then some ⟨s.obj Obj.QM_PCIE_ROLE, none⟩
    else (s.findSession rq.session false).map fun k => ⟨s.sessionRole k, some k⟩
  | some _ =>
    if rq.session = 0 then (if op = Op.session then some ⟨0, none⟩ else none)
    else match s.findSession rq.session true with
      | none => none
      | some k =>
        let x := s.session k
        if rq.auth = true ∧ rq.tag = trailerTag x.key rq ∧ rq.counter < 2 ^ 63 ∧ x.lastCounter < rq.counter
        then some ⟨s.sessionRole k, some k⟩ else none

/-- A trailer or counter failure is counted, and reported at most once per epoch (R433). -/
def State.authFail (s : State) (rq : Rq) : State :=
  if rq.slot.isSome ∧ rq.session ≠ 0 then
    let t := s.bump Obj.QM_AUTH_FAIL
    if t.authEpoch = t.epoch + 1 then t
    else { t.raise Ev.QM_AUTH_FAIL [rq.session, 1] with authEpoch := t.epoch + 1 }
  else s

/-- An accepted request marks its session used, and on the ring moves the counter on (R431, R433). -/
def State.touchSession (s : State) (rq : Rq) (x : Sender) : State :=
  match x.slot with
  | none => s
  | some k => s.setSession k { s.session k with lastUse := s.now, lastCounter := rq.counter }

/-! ## Responses -/

def payloadLength (p : List Fld) : Nat := p.foldl (fun n f => n + f.w) 0

/-- The trailer of a response on the ring, under the session it answers (R433): COUNTER with the direction bit, and the tag over header, payload
and COUNTER. -/
def State.trailer (s : State) (rq : Rq) (op : Nat) (st : Status) (payload : List Fld) : Option (Nat × Nat) :=
  match rq.slot, s.findSession rq.session true with
  | some _, some k =>
    let x := s.session k
    let c := 2 ^ 63 + x.sent + 1
    let header := [⟨1, 0x10⟩, ⟨1, 0x90⟩, ⟨1, op⟩, ⟨1, st.code⟩, ⟨4, rq.txid⟩, ⟨4, payloadLength payload⟩, ⟨4, rq.session⟩]
    some (c, Config.frameTag x.key (rq.session * 2 ^ 64 + c) (header ++ payload ++ [⟨8, c⟩]))
  | _, _ => none

def State.frameSent (s : State) (rq : Rq) : State :=
  match rq.slot, s.findSession rq.session true with
  | some _, some k => s.setSession k { s.session k with sent := (s.session k).sent + 1 }
  | _, _ => s

/-- Give a response: into the mailbox, with its first chunk (R428), or into the slot it is owed in (R442). -/
def State.deliver (s : State) (rq : Rq) (op : Nat) (st : Status) (payload : List Fld) : State :=
  let r : Response := ⟨op, st.code, rq.txid, rq.session, s.tick, payload, s.trailer rq op st payload⟩
  let bytes := 16 + payloadLength payload
  let t := (s.frameSent rq).bump (Obj.QM_STATUS_COUNT st.code)
  match rq.slot with
  | none =>
    (t.withBar fun b => { b with
      response := some r, own := false, ready := true, more := decide (65536 < bytes)
      rspLen := min bytes 65536, chunkLeft := bytes - 65536 }).irq 0
  | some k => { t with owed := Map.set none t.owed (Key.unit k) (some r) }

/-- What serving a request comes to: a status with its payload, or a response that is owed later. -/
structure Reply where
  status : Status
  payload : List Fld := []
  later : Bool := false
  state : State
  deriving Repr

/-- The agent answers requests (R427, R429, R40), and no warm restart has been asked for (R521, R522). -/
def State.ready (s : State) : Bool := decide (s.bar.bootState = 3) && s.mc.restart.isNone

/-- The device is neither held in reset nor in Quiescent, where it answers nothing (R501, R503, R507). -/
def State.alive (s : State) : Bool := decide (s.mc.held = 0) && decide (s.power.quiescent < 2)

/-- The opcodes whose payload begins with an object or a target, for which checks 4 and 5 follow that order (R421). -/
def objectOp (op : Nat) : Bool := [Op.read, Op.write, Op.writeShadow, Op.bulkRead, Op.tableWrite, Op.digestWalk].contains op

/-- Serve one request: the checks of R421 up to the role for the opcode, then `body`, which makes the rest of them and carries the
request out. A doorbell written while the device holds the mailbox is ignored (R428). -/
def serve (op minRole : Nat) (rq : Rq) (body : Sender → State → Reply) (s : State) : State :=
  if ¬ s.alive then s
  else if rq.slot = none ∧ s.bar.own then s.withBar fun b => { b with ovr := true }
  else if s.ready then
    let t := s.bump Obj.QM_REQ_COUNT
    if rq.ver ≠ 1 then t.deliver rq op .range []
    else match t.sender rq op with
      | none => (t.authFail rq).deliver (if rq.slot.isSome then { rq with session := 0 } else rq) op .denied []
      | some x =>
        let u := t.touchSession rq x
        if x.role < minRole then u.deliver rq op .denied []
        else if ¬ (objectOp op ∨ rq.lenOk) then u.deliver rq op .type []
        else
          let r := body x u
          if r.later then (if rq.slot = none then r.state.withBar fun b => { b with own := true, ready := false } else r.state)
          else r.state.deliver rq op r.status r.payload
  else s.deliver rq op .busy []

/-! ## The object a request names -/

/-- What a request does with an object (R415). -/
inductive Use where
  | read | write | writeShadow | tableWrite
  deriving DecidableEq, Repr

/-- The access table of R415. -/
def useAllowed (r : ObjRow) : Use → Bool
  | .read => decide (r.acc ≠ .wx) && r.readable
  | .write => decide (r.acc ≠ .ro)
  | .writeShadow => decide (r.acc = .ws)
  | .tableWrite => (decide (r.acc = .rw) || decide (r.acc = .ws)) && decide (1 < r.n)

/-- The payload length of one value (R419); LSPI_XFER takes up to its width (R51). -/
def lengthFits (r : ObjRow) (len : Nat) : Bool :=
  if r.c = 0x10 ∧ r.m = 0x21 then decide (1 ≤ len) && decide (len ≤ r.w) else decide (len = r.w)

/-- Check 6 of R421: the role for the object (R416). -/
def roleFits (r : ObjRow) (u : Use) (role : Nat) : Bool :=
  if r.acc = .sec then decide (role = 3)
  else match u with
    | .read => true
    | _ => if r.c = 0x04 ∨ r.c = 0x05 then decide (2 ≤ role) else decide (1 ≤ role)

/-- The stored part of a value (R9). -/
def stored (r : ObjRow) (v : Nat) : Nat :=
  match r.mask with
  | none => v
  | some m => Nat.land v m

/-- Check 7 of R421 for a value (R415 for WC, else the object's own values). -/
def valueFits (r : ObjRow) (v : Nat) : Bool :=
  if r.acc = .wc then decide (r.code = 7) || decide (r.code = 12 ∧ r.c = 0x04 ∧ r.m = 0x12) || decide (v = 1)
  else match r.chk with
    | .any => true
    | .range lo hi => decide (lo ≤ v) && decide (v ≤ hi)
    | .srange lo hi => decide (lo ≤ signed r.w v) && decide (signed r.w v ≤ hi)
    | .oneOf vs => vs.contains v

def indexFits (r : ObjRow) (x : Nat) : Bool := decide (x < r.n)

/-- Checks 4 to 7 of R421 for a write of one value: the status of the first that fails, or the row and what is stored. -/
def checkWrite (role : Nat) (u : Use) (k : Key) (val : Val) : Except Status (ObjRow × Val) :=
  match dictFind k.c k.i k.m with
  | none => .error .noObject
  | some r =>
    if ¬ (useAllowed r u ∧ lengthFits r val.len) then .error .type
    else if ¬ roleFits r u role then .error .denied
    else if ¬ (indexFits r k.x ∧ valueFits r (stored r val.v)) then .error .range
    else .ok (r, ⟨val.len, stored r val.v⟩)

/-- Checks 4 to 7 of R421 for a read of `count` elements from an index. -/
def checkRead (role : Nat) (k : Key) (count : Nat) (lenOk : Bool) : Except Status ObjRow :=
  match dictFind k.c k.i k.m with
  | none => .error .noObject
  | some r =>
    if ¬ (useAllowed r .read ∧ lenOk) then .error .type
    else if ¬ roleFits r .read role then .error .denied
    else if ¬ (0 < count ∧ k.x + count ≤ r.n) then .error .range
    else .ok r

/-- What the chapter of an object does with a write that has passed checks 1 to 7: check 8 and the effect. -/
abbrev Accept := Key → Val → State → Status × State

/-- A WRITE of one object, accepted by its chapter's `accept`. -/
def serveWrite (accept : Accept) (rq : Rq) (k : Key) (val : Val) (s : State) : State :=
  serve Op.write 1 rq (fun x t =>
    match checkWrite x.role .write k val with
    | .error st => { status := st, state := t }
    | .ok (_, v) => let (st, u) := accept k v t; { status := st, state := u }) s

/-- The write of a plain RW object: staged for the next tick boundary (R34). -/
def acceptStage : Accept := fun k v s => (.ok, s.stage k v.v)

end Sys2Proof.Machine
end

