-- ==== Sys2Proof/Machine/Connections.lean ====
section
/-! DEFINITION. Reading the connection table and the protection-group table (R217 to R222, R279, R280), and which connections the
active set places on an engine, a lane or a group. -/

namespace Sys2Proof.Machine

/-- Word `k` of an entry of `w` bytes, eight words of 32 bits in a connection or group entry (R217, R279). -/
def entryWord (v k : Nat) : Nat := bytesOf 32 v (4 * k) 4

/-- A connection entry (R217 to R219). -/
structure Conn where
  valid : Bool
  classM : Bool
  pinIn : Bool
  pinOut : Bool
  keep : Bool
  size : Nat
  src : Nat
  dst : Nat
  srcTpn : Nat
  dstTpn : Nat
  inList : Nat
  outList : Nat
  deriving DecidableEq, Repr

def decodeConn (v : Nat) : Conn where
  valid := bit (entryWord v 0) 31
  classM := bit (entryWord v 0) 30
  pinIn := bit (entryWord v 0) 29
  pinOut := bit (entryWord v 0) 28
  keep := bit (entryWord v 0) 27
  size := field (entryWord v 0) 19 0
  src := entryWord v 1
  dst := entryWord v 2
  srcTpn := field (entryWord v 3) 31 16
  dstTpn := field (entryWord v 3) 15 0
  inList := field (entryWord v 4) 19 0
  outList := field (entryWord v 5) 19 0

/-- The type of an endpoint word, and the fields of the types (R218). -/
def epType (w : Nat) : Nat := field w 31 28
def epLane (w : Nat) : Nat := field w 27 22
def epEngine (w : Nat) : Nat := field w 27 26
def epSlotFirst (w : Nat) : Nat := field w 25 13
def epSlotCount (w : Nat) : Nat := field w 12 0
def epRoot (w : Nat) : Nat := field w 18 0
def epGroup (w : Nat) : Nat := field w 15 0
def epLoFirst (w : Nat) : Nat := field w 21 10
def epLoCount (w : Nat) : Nat := field w 9 0
def epPort (w : Nat) : Nat := field w 27 24
def epFlexGroup (w : Nat) : Nat := field w 27 25
def epLinkFirst (w : Nat) : Nat := field w 19 0

/-- A copy of the connection table, and of the group table: the valid entries, by number. -/
def connsOf (m : Map Nat) : List (Nat × Conn) :=
  m.filterMap fun e =>
    if e.1.c = 0x31 ∧ e.1.m = 0x01 then
      let c := decodeConn e.2
      if c.valid then some (e.1.x, c) else none
    else none

def connAt (m : Map Nat) (n : Nat) : Conn := decodeConn (Map.get 0 m (Obj.PRISM_CONN n))

/-- A protection-group entry (R279, R280). -/
structure Group where
  valid : Bool
  type : Nat
  revertive : Bool
  bidir : Bool
  fff : Bool
  sdEn : Bool
  n : Nat
  psc : Nat
  working : Nat
  protect : Nat
  pointW : Nat
  pointP : Nat
  holdOff : Nat
  wtr : Nat
  w7 : Nat
  deriving DecidableEq, Repr

def decodeGroup (v : Nat) : Group where
  valid := bit (entryWord v 0) 31
  type := field (entryWord v 0) 30 27
  revertive := bit (entryWord v 0) 26
  bidir := bit (entryWord v 0) 25
  fff := bit (entryWord v 0) 24
  sdEn := bit (entryWord v 0) 23
  n := field (entryWord v 0) 22 19
  psc := field (entryWord v 0) 18 17
  working := entryWord v 1
  protect := entryWord v 2
  pointW := field (entryWord v 3) 16 0
  pointP := field (entryWord v 4) 16 0
  holdOff := field (entryWord v 5) 23 0
  wtr := if entryWord v 6 = 0 then 240000000 else entryWord v 6
  w7 := entryWord v 7

def groupAt (m : Map Nat) (g : Nat) : Group := decodeGroup (Map.get 0 m (Obj.PG_CFG g))

def groupsOf (m : Map Nat) : List (Nat × Group) :=
  m.filterMap fun e =>
    if e.1.c = 0x33 ∧ e.1.m = 0x01 then
      let g := decodeGroup e.2
      if g.valid then some (e.1.x, g) else none
    else none

/-- The source endpoints a connection is fed from: its own, its root's for a branch (R221), or the two copies of its protection
group (R222). -/
def sourcesOf (m : Map Nat) (c : Conn) : List Nat :=
  let w := if epType c.src = 8 then (connAt m (epRoot c.src)).src else c.src
  if epType w = 9 then
    let g := groupAt m (epGroup w)
    if g.type = 5 then [g.working] else [g.working, g.protect]
  else [w]

/-- The number of the connection whose input positions a connection reads: its root's for a branch. -/
def rootOf (c : Conn) (n : Nat) : Nat := if epType c.src = 8 then epRoot c.src else n

/-! ## Bonded groups (R44) -/

/-- The groups that a value of TB_BOND_CFG locks. -/
def bondGroups (v : Nat) : List (List Nat) :=
  match v with
  | 1 => [[0, 1]]
  | 2 => [[2, 3]]
  | 3 => [[0, 1], [2, 3]]
  | 4 => [[0, 1, 2, 3]]
  | _ => []

/-- The group an engine belongs to under a value of TB_BOND_CFG: itself alone where it is in none. -/
def bondOf (v e : Nat) : List Nat := ((bondGroups v).find? fun g => g.contains e).getD [e]

/-- The members of an engine's group in force. -/
def State.bond (s : State) (e : Nat) : List Nat := bondOf (s.obj Obj.TB_BOND_CFG) e

/-- The monitored point of a bonded group (R275). -/
def bondPoint (g : List Nat) : Nat := if g = [0, 1] then 5 else if g = [2, 3] then 6 else 7

/-- The word of a line endpoint with the slots its mapper or demapper uses: the old ones while a line change has not completed (R264). -/
def State.wordInUse (s : State) (n side w : Nat) : Nat :=
  if epType w = 4 then
    match s.shadow.changes.find? fun p => decide (p.2.conn = n) && decide (p.2.side = side) with
    | some p => withField (withField w 25 13 p.2.oldFirst) 12 0 p.2.oldCount
    | none => w
  else w

/-! ## What the active set places where -/

/-- The egress maps are still those before the last swap: until its second tick (R35). -/
def State.egressOld (s : State) : Bool :=
  match s.shadow.lastSwap with
  | some e => decide (s.now < e + 2)
  | none => false

/-- The connection table that goes with the egress maps in force. -/
def State.egressSet (s : State) : Map Nat := if s.egressOld then s.prism.connOld else s.act

/-- Whether an endpoint lies on an engine, or on the bonded group the engine belongs to. -/
def State.onEngine (s : State) (e w : Nat) : Bool := decide (epType w = 4) && (s.bond e).contains (epEngine w)

/-- A connection of a set sources from, or sinks to, the engine (R69, R86, R488). -/
def State.sourced (s : State) (m : Map Nat) (e : Nat) : Bool :=
  (connsOf m).any fun p => (sourcesOf m p.2).any (s.onEngine e)

def State.carries (s : State) (m : Map Nat) (e : Nat) : Bool :=
  (connsOf m).any fun p => (sourcesOf m p.2).any (s.onEngine e) || s.onEngine e p.2.dst

/-- The endpoints of the active set on an engine. -/
def State.lineEndpoints (s : State) (m : Map Nat) (e : Nat) : List Nat :=
  ((connsOf m).flatMap fun p => p.2.dst :: sourcesOf m p.2).filter (s.onEngine e)

/-- Connections of the active set sourced from an engine. -/
def State.sourcedConns (s : State) (e : Nat) : List Nat :=
  ((connsOf s.act).filter fun p => (sourcesOf s.act p.2).any (s.onEngine e)).map (·.1)

/-- The first lane of a host endpoint, where it is one (types 1, 2, 3 and 7). -/
def hostLane (w : Nat) : Option Nat :=
  if epType w = 1 ∨ epType w = 2 ∨ epType w = 3 ∨ epType w = 7 then some (epLane w) else none

/-- A connection of a set uses the client whose first lane is `l`. -/
def State.usesClient (_s : State) (m : Map Nat) (l : Nat) : Bool :=
  (connsOf m).any fun p => (p.2.dst :: sourcesOf m p.2).any fun w => hostLane w == some l

/-- The sets a check of an active or pending swap reads: the active one, and the shadow while a swap waits (R488). -/
def State.pendingSets (s : State) : List (Map Nat) :=
  if s.shadow.swap.isSome then [s.act, s.shd] else [s.act]

/-! ## Faults that stand in a tick (R474 to R476) -/

/-- A slot as its words name it. -/
structure FiSlot where
  on : Bool
  kind : Nat
  target : Nat
  param : Nat
  count : Nat
  period : Nat
  start : Nat
  deriving DecidableEq, Repr

def decodeSlot (v : Nat) : FiSlot where
  on := bit v 127
  kind := field v 126 122
  target := field v 121 96
  param := field v 95 64
  count := field v 63 48
  period := field v 47 32
  start := field v 31 0

def State.fiSlot (s : State) (x : Nat) : FiSlot := decodeSlot (s.obj (Obj.FI_SLOT x))

/-- An overhead fault (kind 8) of a sort stands in this tick at a target that satisfies a condition. -/
def State.overheadFault (s : State) (sort : Nat) (at_ : Nat → Bool) : Bool :=
  s.inject.forced.any fun x => let f := s.fiSlot x
    decide (f.kind = 8) && decide (field f.param 31 28 = sort) && at_ f.target

end Sys2Proof.Machine
end

