-- ==== Sys2Proof/Machine/References.lean ====
section
/-! DEFINITION. Timing references, quality levels and DPLLs: the operations that the timing core shares with the line engines and
the host lanes (R346 to R349, R351, R354 to R361). -/

namespace Sys2Proof.Machine

def State.withTiming (s : State) (f : Timing → Timing) : State := { s with timing := f s.timing }
def State.ref (s : State) (r : Nat) : Ref := Map.get {} s.timing.refs (Key.unit r)
def State.withRef (s : State) (r : Nat) (f : Ref → Ref) : State :=
  s.withTiming fun t => { t with refs := Map.set {} t.refs (Key.unit r) (f (s.ref r)) }
def State.dpll (s : State) (d : Nat) : Dpll := Map.get {} s.timing.dplls (Key.unit d)
def State.withDpll (s : State) (d : Nat) (f : Dpll → Dpll) : State :=
  s.withTiming fun t => { t with dplls := Map.set {} t.dplls (Key.unit d) (f (s.dpll d)) }

/-! ## References (R346, R347, R351) -/

/-- The lane of a HOST reference (R171). -/
def State.refLane (s : State) (r : Nat) : Option Nat :=
  let v := s.obj (Obj.HOST_RCLK_SEL (r - 4))
  if v = 0xFFFF then none else some v

/-- The failure condition of R346 where the device's own state fixes it: LINE and HOST references. -/
def State.refCondition (s : State) (r : Nat) : Option Bool :=
  if r < 4 then some (decide (s.obj (Obj.LDSP_ACQ_STATE r) ≠ 8) || s.declared Df.los r || s.declared Df.lol r)
  else if r < 12 then some (match s.refLane r with
    | none => true
    | some l => s.declared Df.laneLos l || s.declared Df.laneLol l)
  else none

/-- The quality level of an SSM and an enhanced SSM under an option of G.781 (R348). -/
def ssmLevel (option ssm : Nat) (essm : Option Nat) : Nat :=
  let prime := if option = 2 then 1 else 2
  let eec := if option = 2 then 10 else 11
  let alone :=
    if option = 2 then
      match ssm with
      | 1 => 4 | 0 => 5 | 7 => 6 | 4 => 7 | 13 => 9 | 10 => 11 | 12 => 12 | 14 => 13 | 15 => 14 | _ => 0
    else
      match ssm with
      | 2 => 4 | 4 => 6 | 8 => 8 | 11 => 11 | 15 => 14 | _ => 0
  match essm with
  | none => alone
  | some 0x21 => if ssm = prime then 1 else 0
  | some 0x20 => if ssm = prime then 2 else 0
  | some 0x23 => if ssm = prime then 3 else 0
  | some 0x22 => if ssm = eec then 10 else 0
  | some 0xFF => alone
  | some _ => 0

/-- The SSM and eSSM codes that stand for a level under an option of G.781 (R348); for a level without a row the spec states none. -/
def levelCodes (option level : Nat) : Nat × Nat :=
  let free := (Config.unstatedSsm option level % 16, Config.unstatedEssm option level % 256)
  if option = 2 then
    match level with
    | 1 => (1, 0x21) | 2 => (1, 0x20) | 3 => (1, 0x23) | 4 => (1, 0xFF) | 5 => (0, 0xFF) | 6 => (7, 0xFF) | 7 => (4, 0xFF) | 9 => (13, 0xFF)
    | 10 => (10, 0x22) | 11 => (10, 0xFF) | 12 => (12, 0xFF) | 13 => (14, 0xFF) | 14 => (15, 0xFF) | _ => free
  else
    match level with
    | 1 => (2, 0x21) | 2 => (2, 0x20) | 3 => (2, 0x23) | 4 => (2, 0xFF) | 6 => (4, 0xFF) | 8 => (8, 0xFF) | 10 => (11, 0x22) | 11 => (11, 0xFF)
    | 14 => (15, 0xFF) | _ => free

/-- The level in force for a reference (R349): one received counts on the lane and in the mode in which it was received. -/
def State.refLevel (s : State) (r : Nat) : Nat :=
  if s.obj (Obj.TM_REF_STATE r) = 0 then 0
  else if s.obj (Obj.TM_REF_QL_MODE r) = 0 then s.obj (Obj.TM_REF_QL_FIXED r)
  else if (s.ref r).heardOn ≠ (s.refLane r).map (·, s.obj (Obj.TM_REF_QL_MODE r)) then 0
  else match (s.ref r).ssm with
    | none => 0
    | some v => ssmLevel (s.obj Obj.TM_QL_OPTION) v (s.ref r).essm

def State.refreshLevel (s : State) (r : Nat) : State :=
  let old := s.obj (Obj.TM_REF_QL r)
  let new := s.refLevel r
  if old = new then s else (s.setObj (Obj.TM_REF_QL r) new).raise Ev.REF_QL [r, old, new]

def State.setRefState (s : State) (r new : Nat) : State :=
  let old := s.obj (Obj.TM_REF_STATE r)
  if old = new then s
  else ((s.setObj (Obj.TM_REF_STATE r) new).raise Ev.REF_STATE [r, old, new]).refreshLevel r

/-- Every DPLL that tracks a reference freezes its control value (R347). -/
def State.freezeTrackers (s : State) (r : Nat) : State :=
  [0, 1, 2, 3].foldl (fun t d => if t.obj (Obj.TM_DP_SELECTED d) = r then t.withDpll d fun x => { x with frozen := true } else t) s

/-- A reference fails (R347), and its condition must be absent anew before it stops being failed; a disqualification in the same tick leaves
TM_REF_DQ_TICK as it was (R371). -/
def State.failRef (s : State) (r : Nat) : State :=
  if s.obj (Obj.TM_REF_STATE r) = 0 then s.withRef r fun x => { x with cleared := false, inside := 0 }
  else
    let x := s.ref r
    let t := if x.dqAt = some s.now then s.setObj (Obj.TM_REF_DQ_TICK r) x.dqBefore else s
    ((t.withRef r fun x => { x with
      lostAt := s.now, xoSince := none, peerSince := none, driftSince := none, cleared := false, inside := 0 }).setRefState r 0).freezeTrackers r

/-- A LINE or HOST reference fails in the tick in which its condition appears (R171, R346). -/
def State.followRef (s : State) (r : Nat) : State := if s.refCondition r = some true then s.failRef r else s

/-- The HOST references that a lane feeds follow its defects. -/
def State.followLane (s : State) (l : Nat) : State :=
  [4, 5, 6, 7, 8, 9, 10, 11].foldl (fun t r => if t.refLane r = some l then t.followRef r else t) s

/-- A host lockout on every DPLL (R351). -/
def State.lockedOut (s : State) (r : Nat) : Bool := [0, 1, 2, 3].all fun d => bit (s.obj (Obj.TM_DP_LOCKOUT d)) r

/-- No check of R352 meets its condition, and no lockout applies. -/
def State.checksPass (s : State) (r : Nat) : Bool :=
  let x := s.ref r
  x.xoSince.isNone && x.peerSince.isNone && x.driftSince.isNone && !s.lockedOut r

/-- QUALIFYING, with its wait from the beginning. -/
def State.startQualifying (s : State) (r : Nat) : State :=
  (s.withRef r fun x => { x with qualifyFrom := s.now }).setRefState r 2

/-- DISQUALIFIED. -/
def State.dropQualified (s : State) (r : Nat) : State :=
  (s.withRef r fun x => { x with lostAt := s.now }).setRefState r 1

/-- A reference that is not failed follows its checks (R351). -/
def State.followChecks (s : State) (r : Nat) : State :=
  match s.obj (Obj.TM_REF_STATE r) with
  | 0 => s
  | 1 => if s.checksPass r then s.startQualifying r else s
  | _ => if s.lockedOut r then s.dropQualified r else s

/-- FAILED leaves to QUALIFYING, once R346 has cleared and the offset checks pass (R351); a lockout on every DPLL then applies. -/
def State.recoverRef (s : State) (r : Nat) : State :=
  let x := s.ref r
  if s.obj (Obj.TM_REF_STATE r) = 0 ∧ x.cleared ∧ x.xoSince.isNone ∧ x.peerSince.isNone then
    ((s.withRef r fun x => { x with cleared := false }).startQualifying r).followChecks r
  else s

/-- R346 clears. -/
def State.clearRef (s : State) (r : Nat) : State :=
  if s.obj (Obj.TM_REF_STATE r) = 0 then (s.withRef r fun x => { x with cleared := true }).recoverRef r else s

/-! ## Selection (R355 to R357) -/

def State.selectable (s : State) (d r : Nat) : Bool :=
  decide (s.obj (Obj.TM_REF_STATE r) = 3) && decide (s.obj (Obj.TM_DP_PRIO d r) ≠ 0) && !bit (s.obj (Obj.TM_DP_LOCKOUT d)) r &&
    (decide (s.obj (Obj.TM_DP_QL_EN d) = 0) || (decide (s.obj (Obj.TM_REF_QL r) ≠ 0) && decide (s.obj (Obj.TM_REF_QL r) ≠ 14)))

/-- Reference `a` ranks better than `b` for a DPLL. -/
def State.ranksBetter (s : State) (d a b : Nat) : Bool :=
  let qa := if s.obj (Obj.TM_DP_QL_EN d) = 0 then 0 else s.obj (Obj.TM_REF_QL a)
  let qb := if s.obj (Obj.TM_DP_QL_EN d) = 0 then 0 else s.obj (Obj.TM_REF_QL b)
  let pa := s.obj (Obj.TM_DP_PRIO d a)
  let pb := s.obj (Obj.TM_DP_PRIO d b)
  decide (qa < qb) || (qa == qb && (decide (pa < pb) || (pa == pb && decide (a < b))))

/-- The candidate of a DPLL in AUTO (R356). -/
def State.candidate (s : State) (d : Nat) : Option Nat :=
  let f := s.obj (Obj.TM_DP_FORCE d)
  if f ≠ 0xFFFF then (if s.selectable d f then some f else none)
  else ((List.range 20).filter (s.selectable d)).foldl (fun best r => match best with
    | none => some r
    | some b => if s.ranksBetter d r b then some r else some b) none

/-- The change of the selected reference that is due (R357): to a reference, or to none. -/
def State.dpChange (s : State) (d : Nat) : Option (Option Nat) :=
  let sel := s.obj (Obj.TM_DP_SELECTED d)
  let cand := s.candidate d
  if s.obj (Obj.TM_DP_MODE d) ≠ 0 then none
  else if sel = 0xFFFF then cand.map some
  else if s.selectable d sel then
    match cand with
    | none => none
    | some c =>
      if c ≠ sel ∧ (s.obj (Obj.TM_DP_FORCE d) = c ∨ (s.obj (Obj.TM_DP_REVERT d) = 1 ∧ s.ranksBetter d c sel)) then some (some c) else none
  else some cand

/-- The output level of a DPLL (R357). -/
def State.dpLevel (s : State) (d : Nat) : Nat :=
  let st := s.obj (Obj.TM_DP_STATE d)
  if st = 1 ∨ st = 2 ∨ st = 3 then s.obj (Obj.TM_REF_QL (s.obj (Obj.TM_DP_SELECTED d))) else s.obj (Obj.TM_DP_OWN_QL d)

end Sys2Proof.Machine
end

