-- ==== Sys2Proof/Machine/Receiver.lean ====
section
/-! DEFINITION. Shared operations of a line engine: the quantities a line mode fixes, the receiver's states and acquisitions, the
transmitter's output, and the decoder pool (R52 to R55, R82, R85, R104 to R107, R114, R116, R120, R126, R132 to R134, R138). -/

namespace Sys2Proof.Machine

/-! ## Line modes -/

/-- Z800 and Z400 (R82). -/
def modeZ (m : Nat) : Bool := decide (m = 16) || decide (m = 17)
def modeL (m : Nat) : Bool := decide (1 ≤ m) && decide (m ≤ 5)

/-- Symbol rate in kBd (R82). -/
def symbolRate (m : Nat) : Nat :=
  match m with
  | 1 | 2 | 3 | 4 => 300000000
  | 5 => 150000000
  | 16 => 118200000
  | 17 => 59843750
  | _ => 0

/-- Sample rate in kS/s: 1.2 samples per symbol (R60). -/
def sampleRate (m : Nat) : Nat := symbolRate m * 12 / 10

/-- Invalid ticks after confirmation (R116). -/
def invalidTicks (m : Nat) : Nat :=
  match m with
  | 1 => 64
  | 2 => 48
  | 3 | 4 => 32
  | 5 | 16 => 40
  | 17 => 48
  | _ => 0

/-- OTUC instances n (R138). -/
def modeN (m : Nat) : Nat :=
  match m with
  | 1 => 32
  | 2 => 24
  | 3 => 16
  | 4 => 12
  | 5 => 8
  | _ => 0

/-- Available tributary slots M = 18.75 n (R142). -/
def slotsOf (n : Nat) : Nat := n * 75 / 4

/-- The code of a mode (R126, R162) and its nominal iteration limit. -/
def modeCode (m : Nat) : Nat :=
  match m with
  | 1 | 2 => 1
  | 3 | 4 | 5 => 2
  | 17 => 3
  | 16 => 4
  | _ => 0

def nominalLimit (m : Nat) : Nat :=
  match m with
  | 1 => 16
  | 2 => 20
  | 3 => 28
  | 4 | 5 => 32
  | _ => 0

/-- L-frame length in bits and payload area in bytes (R138). -/
def frameBits (m : Nat) : Nat := if m = 1 ∨ m = 2 then 204800 else 196608
def payloadArea (m : Nat) : Nat := if m = 1 ∨ m = 2 then 25568 else 24544

/-- CD compensation range, ps/nm (R88). -/
def cdRange (m : Nat) : Int := if modeZ m then 50000 else 120000

/-- The greatest instantaneous DGD, in 0.1 ps (R88). -/
def dgdLimit (m : Nat) : Nat :=
  match m with
  | 1 | 2 | 3 | 4 => 1400
  | 5 => 2800
  | 16 => 2000
  | 17 => 3000
  | _ => 0

/-- The sync period in ps: N subcarriers of symbol rate ÷ N (R104). -/
def syncPicoseconds (period subcarriers rate : Nat) : Nat := period * subcarriers * 1000000000 / max rate 1

/-- The sync period in symbols of a subcarrier (R104; R84 in the Z modes). -/
def syncPeriod (m : Nat) : Nat := if modeZ m then Config.trainingPeriod m else 65536

def State.mode (s : State) (e : Nat) : Nat := s.obj (Obj.LDSP_MODE e)

/-- A power domain is On (R484, R485). -/
def State.domOn (s : State) (d : Nat) : Bool := decide (s.obj (Obj.PWR_DOM_STATE d) = 0)

/-! ## The transmitter's output (R53 to R55) -/

/-- The conditions under which TX out is dark (R54). -/
def State.txDark (s : State) (e : Nat) : Bool :=
  decide (s.obj (Obj.OPT_TX_ENABLE e) = 0) || (s.engine e).squelched || decide (s.obj (Obj.CNV_STATE e) ≠ 2) ||
    (decide (s.obj (Obj.OPT_BIAS_FAIL_ACTION e) = 1) && decide (s.obj (Obj.OPT_BIAS_STATE e) ≠ 0x3F))

/-- Length of the ramp in ticks: the distance at OPT_TX_RAMP, 0.01 dB per ms (R55). -/
def rampTicks (a b : Int) (rate : Nat) : Nat := ceilDiv ((b - a).natAbs * ticksPerMs) (max rate 1)

/-- The output level in 0.01 dBm at an elapsed tick of the ramp. -/
def rampLevel (r : Engine) (rate now : Nat) : Int :=
  let moved : Int := ((now - r.rampStart) * rate / ticksPerMs : Nat)
  if r.rampFrom ≤ r.rampTo then min r.rampTo (r.rampFrom + moved) else max r.rampTo (r.rampFrom - moved)

def State.txLevel (s : State) (e : Nat) : Int :=
  let r := s.engine e
  if r.dark then -3500 else rampLevel r (s.obj (Obj.OPT_TX_RAMP e)) s.now

/-- The output power: the VOA holds the level while LASER-TX in is at or above +13.0 dBm, and below that it falls dB for dB with the input (R50). -/
def State.txPower (s : State) (e : Nat) : Int :=
  if (s.engine e).dark then -3500
  else s.txLevel e - max 0 (1300 - s.objInt (Obj.OPT_LASER_TX_MEAS e))

/-- The ramp is over, so ticks count toward EV_TX_POWER_SHORT (R55). -/
def State.rampEnd (s : State) (e : Nat) : Nat :=
  let r := s.engine e
  r.rampStart + rampTicks r.rampFrom r.rampTo (s.obj (Obj.OPT_TX_RAMP e))

/-- Follow the conditions of R54: go dark, or ramp from −35 dBm to the setting when the last of them clears. -/
def State.refreshTx (s : State) (e : Nat) : State :=
  let dark := s.txDark e
  let r := s.engine e
  if dark then s.setEngine e { r with dark := true, rampFrom := -3500, rampTo := -3500, rampStart := s.now }
  else if r.dark then
    s.setEngine e { r with dark := false, rampFrom := -3500, rampTo := s.objInt (Obj.OPT_TX_POWER e), rampStart := s.now }
  else s

/-- A new setting retargets the ramp from its present value (R55); where the output stands at the setting, no ramp starts, and the last one has
ended when it has. -/
def State.retargetTx (s : State) (e : Nat) (level : Int) (ended : Nat) : State :=
  let target := s.objInt (Obj.OPT_TX_POWER e)
  if (s.engine e).dark then s
  else s.withEngine e fun r => { r with rampFrom := level, rampTo := target, rampStart := if level = target then min ended s.now else s.now }

/-! ## The receiver (R106, R107, R114, R120) -/

def State.receiver (s : State) (e : Nat) : Nat := s.obj (Obj.LDSP_ACQ_STATE e)
def State.setReceiver (s : State) (e v : Nat) : State := s.setObj (Obj.LDSP_ACQ_STATE e) v

/-- The receiver delivers valid traffic. -/
def State.rxValid (s : State) (e : Nat) : Bool := decide (s.receiver e = 8)

/-- The receiver is in STABILISE or VALID. -/
def State.rxLocked (s : State) (e : Nat) : Bool := decide (s.receiver e = 7) || decide (s.receiver e = 8)

/-- Store CD, offset, taps and SOP with the tick (R114); taps and SOP are what the equaliser has converged to, free values. -/
def State.storeRx (s : State) (e : Nat) : State :=
  (s.withEngine e fun r => { r with
    taps := s.free, sop := s.drawn.free
    stored := some ⟨s.obj (Obj.LDSP_CD_EST e), s.obj (Obj.LDSP_FREQ_EST e), s.free, s.drawn.free, s.mode e, s.now⟩ }).drawn.drawn

/-- CD in use with the value fixed, held to the mode's range (R100). -/
def State.fixedCd (s : State) (e : Nat) : Int :=
  clamp (-(cdRange (s.mode e))) (cdRange (s.mode e)) (s.objInt (Obj.LDSP_CD_FIXED e))

/-- Under FIXED, LDSP_CD_EST is the value fixed, in the range of the mode in force (R100). -/
def State.followFixed (s : State) (e : Nat) : State :=
  if s.obj (Obj.LDSP_CD_MODE e) = 1 then s.setInt (Obj.LDSP_CD_EST e) (s.fixedCd e) else s

/-- VERIFY starts from the stored CD, offset, taps and SOP (R106). -/
def State.restoreRx (s : State) (e : Nat) : State :=
  match (s.engine e).stored with
  | some x =>
    let t := ((s.setObj (Obj.LDSP_CD_EST e) x.cd).setObj (Obj.LDSP_FREQ_EST e) x.offset).withEngine e fun r => { r with taps := x.taps, sop := x.sop }
    t.followFixed e
  | none => s

def State.dropStored (s : State) (e : Nat) : State := s.withEngine e fun r => { r with stored := none }

/-- The stored state still serves (R107). -/
def State.storedFits (s : State) (e : Nat) : Bool :=
  match (s.engine e).stored with
  | none => false
  | some t => decide (t.mode = s.mode e) && decide (s.now - t.since < 8000000)

/-- Bits of TB_BOND_STATE: members of the engine's group are no longer locked, and the engine is not ready (R46, R47). -/
def State.unbond (s : State) (e : Nat) : State :=
  let v := (s.bond e).foldl (fun v i => withBit v i false) (s.obj Obj.TB_BOND_STATE)
  s.setObj Obj.TB_BOND_STATE (withBit v (4 + e) false)

/-- A transient closes (R380): a classified one with EV_PSC_END and PSC_LAST. -/
def State.closeTransient (s : State) (e : Nat) : State :=
  let r := s.engine e
  if s.obj (Obj.PSC_STATE e) = 0 then s
  else
    let t := s.setObj (Obj.PSC_STATE e) 0
    if r.pscClass = 0 then t
    else (t.setObj (Obj.PSC_LAST e) (r.pscClass * 2 ^ 30 + r.pscPeak)).raise Ev.PSC_END [e, r.pscClass, s.now - r.pscOpened, r.pscPeak]

/-- A transient closes because the receiver leaves VALID (R380): without the further alert of the tick. -/
def State.loseTransient (s : State) (e : Nat) : State :=
  let t := s.closeTransient e
  if s.obj (Obj.PSC_STATE e) ≠ 0 ∧ (s.engine e).pscRepeat = some s.now then { t with prot := { t.prot with psc := Map.set 0 t.prot.psc (Key.unit e) 0 } }
  else t

/-- Leaving STABILISE or VALID: the state is stored (R114), the deframer returns to HUNT (R144, R161), the estimates lose their
validity (R375), an open transient closes (R380) and a bonded group its alignment (R47). -/
def State.leaveLock (s : State) (e : Nat) : State :=
  if s.rxLocked e then
    let t := ((s.storeRx e).setObj (Obj.MEAS_VALID e) 0).loseTransient e
    let u := ((t.setObj (Obj.FRM_STATE e) 0).clear Df.lof e).clear Df.lom e
    (u.withEngine e fun r => { r with
      frameCandidate := none, buffered := [], huntFrom := 0, frameDue := none, fasMisses := 0, lofFrame := false, lofOtuc := false, otucBad := 0
      otucGood := 0, otucSince := none, otucPtrOk := true, prevMfas := none, idleSeen := false }).unbond e
    |>.failRef e
  else s

def clearHunters (r : Engine) : Engine := { r with primary := none, secondary := none, afterFalse := false }

/-- The class that a configuration committed in this tick, or for the coming boundary, fixed for the acquisition it began (R123). -/
def State.committedClass (s : State) (e : Nat) : Option Nat :=
  match (s.engine e).commitAt with
  | some n => if s.now ≤ n then some (s.obj (Obj.LDSP_ACQ_CLASS e)) else none
  | none => none

/-- DARK (R106): dLOL clears (R120); of a commit in the same tick the class is kept (R123). DESIGN CHOICE (log entry 156): the class of an
acquisition that an earlier trigger began and that is not confirmed is forgotten, also where it was cold. -/
def State.toDark (s : State) (e : Nat) : State :=
  if s.receiver e = 0 then s
  else (((s.leaveLock e).setReceiver e 1).clear Df.lol e).withEngine e fun r =>
    { clearHunters r with lolAt := none, darkClass := if s.receiver e = 1 then r.darkClass else s.committedClass e }

/-- OFF (R106): the stored state is discarded (R114) and dLOL clears (R120). -/
def State.toOff (s : State) (e : Nat) : State :=
  (((s.leaveLock e).setReceiver e 0).clear Df.lol e).withEngine e fun r =>
    { clearHunters r with stored := none, darkClass := none, calDark := false, lolAt := none }

/-- Start an acquisition of a class (1 cold, 2 new signal, 3 stored state) with this tick as its trigger tick (R106, R107). DEDUCED (log entry
201): dLOL 'stays declared' in its states (R120), so it is not declared by them where nothing of R119 or R467 has. -/
def State.acquire (s : State) (e cls : Nat) : State :=
  let t := ((s.leaveLock e).setReceiver e (if cls = 1 then 2 else if cls = 3 then 4 else 3)).setObj (Obj.LDSP_ACQ_CLASS e) cls
  let u := t.withEngine e fun r => { clearHunters r with trigger := s.now, attempt := s.now, darkClass := none, calDark := false, lolAt := none }
  if cls = 3 then u.restoreRx e else u.followFixed e

/-- The stored-state acquisition that follows a declaration of dLOL, in the tick after it, from the state stored at the declaration; its
trigger tick is that of the declaration (R107, R114, R121). -/
def State.startLol (s : State) (e : Nat) : State :=
  match (s.engine e).lolAt with
  | some n =>
    if n < s.now then
      let stored := (s.engine e).stored
      let t := ((s.leaveLock e).setReceiver e 4).withEngine e fun r => { r with stored := stored }
      (t.acquire e 3).withEngine e fun r => { r with trigger := n, attempt := n }
    else s
  | none => s

/-- dLOL for a lost receive-coefficient page: a new-signal acquisition in the same tick, unless a configuration committed in this tick has
fixed the class of one (R107, R123, R467). -/
def State.lolStore (s : State) (e : Nat) : State :=
  let t := (s.declare Df.lol e).raise Ev.LOL [e, 3]
  if (s.committedClass e).isSome then t else t.acquire e 2

/-- The class of an acquisition that nothing else fixes (R107). DESIGN CHOICE (log entry 202): where a sleep has kept a stored state that still
serves, it goes before the cold class of a CNV_STATE that is READY again. -/
def State.ownClass (s : State) (e : Nat) : Nat :=
  if s.storedFits e then 3 else if (s.engine e).everLocked then 2 else 1

/-- The conditions of OFF (R106). -/
def State.rxOff (s : State) (e : Nat) : Bool :=
  decide (s.mode e = 0) || decide (s.obj (Obj.CNV_STATE e) ≠ 2) || !s.domOn e

/-- Follow the conditions of OFF: enter it, or leave it for DARK or the first state of an acquisition (R106). -/
def State.refreshRx (s : State) (e : Nat) : State :=
  if s.rxOff e then (if s.receiver e = 0 then s else s.toOff e)
  else if s.receiver e = 0 then
    if s.declared Df.los e then (s.setReceiver e 1).followFixed e else s.acquire e (s.ownClass e)
  else s

/-- What a commit makes the receiver do (R85, R106, R123): the stored state goes, and an acquisition of the class starts, or is kept
for the clearing of dLOS. -/
def State.reacquire (s : State) (e cls : Nat) : State :=
  let t :=
    if s.rxOff e then s.refreshRx e
    else if s.receiver e = 1 ∨ (s.receiver e = 0 ∧ s.declared Df.los e) then
      (s.setReceiver e 1).withEngine e fun r => { r with darkClass := some cls }
    else s.acquire e cls
  (t.dropStored e).withEngine e fun r => { r with commitAt := some s.now }

/-- The class that a commit of a line configuration assigns (R107). DESIGN CHOICE (log entry 203): a commit from mode Off is a change of symbol
rate, also to a rate at which the receiver has been locked. -/
def State.commitClass (s : State) (e oldMode : Nat) : Nat :=
  if ¬ (s.engine e).everLocked ∨ symbolRate oldMode ≠ symbolRate (s.mode e) then 1 else 2

/-- A change of loopback or bonding makes the receiver acquire afresh (R45, R59, R107), cold where a configuration that commits with it calls for
that; in DARK it fixes the class of the acquisition that follows (DESIGN CHOICE, log entry 204). -/
def State.freshSignal (s : State) (e : Nat) : State :=
  let cold := s.committedClass e = some 1 ∨ (s.engine e).darkClass = some 1 ∨ ¬ (s.engine e).everLocked
  let cls := if cold then 1 else 2
  let t :=
    if 2 ≤ s.receiver e then s.acquire e cls
    else if s.receiver e = 1 then s.withEngine e fun r => { r with darkClass := some cls }
    else s
  t.withEngine e fun r => { r with commitAt := some s.now }

/-- dLOS clears: the receiver leaves DARK by class (R106, R107, R123). -/
def State.leaveDark (s : State) (e : Nat) : State :=
  if s.receiver e = 1 then
    let r := s.engine e
    s.acquire e (r.darkClass.getD (if s.storedFits e then 3 else if r.calDark then 2 else s.ownClass e))
  else s

/-! ## The decoder pool (R129 to R135) -/

/-- Working cores: bits of FEC_CORE_STATE. -/
def State.coreWorks (s : State) (e c : Nat) : Bool := bit (s.obj (Obj.FEC_CORE_STATE e)) c
def State.cores (s : State) (e : Nat) : Nat := (List.range 25).countP (s.coreWorks e)

/-- I_m of R132. -/
def poolLimit (nominal m : Nat) : Nat :=
  if 24 ≤ m then nominal else max 1 (nominal * (m * 2500 - 2400) / (24 * 2400))

/-- Working cores that the limit of this tick counts: m − k + 1 in the tick after k failures (R133). -/
def State.limitCores (s : State) (e : Nat) : Nat :=
  let r := s.engine e
  if r.failTick + 1 = s.now ∧ 2 ≤ r.failCount then s.cores e - r.failCount + 1 else s.cores e

/-- The pool can no longer decode (R133). -/
def State.poolCollapsed (s : State) (e : Nat) : Bool :=
  s.domOn e && ((modeL (s.mode e) && decide (poolLimit (nominalLimit (s.mode e)) (s.cores e) < 4)) ||
    (modeZ (s.mode e) && decide (s.cores e ≤ 12)))

/-- The iteration limit in force: the lower of I_m and FEC_MAX_ITER; 0 outside the L modes (R127, R132). -/
def State.iterLimit (s : State) (e : Nat) : Nat :=
  if modeL (s.mode e) ∧ s.domOn e then
    min (poolLimit (nominalLimit (s.mode e)) (s.limitCores e)) (s.obj (Obj.FEC_MAX_ITER e))
  else 0

/-- At a tick boundary the limit in force follows the pool, and a collapsed pool holds dFECFAIL declared (R132, R133). -/
def State.refreshFec (s : State) (e : Nat) : State :=
  let old := s.obj (Obj.FEC_ITER_LIMIT e)
  let new := s.iterLimit e
  let t := s.setObj (Obj.FEC_ITER_LIMIT e) new
  let u := if old ≠ new ∧ modeL (s.mode e) then t.raise Ev.FEC_LIMIT [e, old, new, s.cores e] else t
  if s.poolCollapsed e then u.declare Df.fecFail e else u

/-- A core leaves or joins the pool, and dDECDEG follows the count (R130, R134). -/
def State.setCore (s : State) (e c : Nat) (works : Bool) : State :=
  let t := s.setObj (Obj.FEC_CORE_STATE e) (withBit (s.obj (Obj.FEC_CORE_STATE e)) c works)
  if 24 ≤ t.cores e then t.clear Df.decDeg e else if works then t else t.declare Df.decDeg e

/-! ## Section signal fail (R47, R160) -/

/-- dTIM of an OTUC instance whose consequent action is enabled. -/
def State.timFail (s : State) (e : Nat) : Bool :=
  decide (s.obj (Obj.FRM_SM_TIM_ACT e) = 1) &&
    (List.range 128).any fun a => s.declared Df.smTim (128 + 128 * e + a)

/-- The section signal-fail set of one engine. -/
def State.sectionFailOne (s : State) (e : Nat) : Bool :=
  !s.domOn e || s.declared Df.los e || s.declared Df.lol e || s.declared Df.fecFail e || s.declared Df.lof e ||
    s.declared Df.lom e || s.timFail e

/-- Every member of an engine's bonded group is locked: the group is deskewed (R46, R151). -/
def State.groupLocked (s : State) (e : Nat) : Bool := (s.bond e).all fun i => bit (s.obj Obj.TB_BOND_STATE) i

/-- The section signal fail of an engine: its own, any member's of its bonded group, dLOA of the group, or that the group waits to be deskewed or for
a member to be valid (R47, R152, R493). -/
def State.sectionFail (s : State) (e : Nat) : Bool :=
  let g := s.bond e
  g.any s.sectionFailOne || (decide (1 < g.length) && (s.declared Df.loa (bondPoint g) || !s.groupLocked e || !g.all s.rxValid))

/-- A bonded group in which the section signal-fail set of a member holds is no longer locked, and waits to be deskewed again (R47, R152). -/
def State.failBond (s : State) (e : Nat) : State :=
  let g := s.bond e
  if 1 < g.length ∧ g.any s.sectionFailOne = true then
    s.setObj Obj.TB_BOND_STATE (g.foldl (fun v i => withBit v i false) (s.obj Obj.TB_BOND_STATE))
  else s

end Sys2Proof.Machine
end

