-- ==== Sys2Proof/Machine/LineFrame.lean ====
section
/-! DEFINITION. The L frame on the line: codes and rates of a mode, the scrambler, GMP, the overhead of a frame as it is sent and read, and the
transmit side of a line engine (R99, R126, R138 to R143, R150, R153). -/

namespace Sys2Proof.Machine

/-! ## Codes and rates (R83, R126, R138) -/

/-- Codeword length N and information bits K of an L mode (R126); 0 where the agreement fixes the code. -/
def codewordBits (m : Nat) : Nat := if m = 1 ∨ m = 2 then 29440 else if modeL m then 30720 else 0
def informationBits (m : Nat) : Nat := if m = 1 ∨ m = 2 then 25600 else if modeL m then 24576 else 0

/-- Information bits of an L mode in a tick: the net rate × 1.25 µs (R83, R138). -/
def netBits (m : Nat) : Nat :=
  match m with
  | 1 => 4000000
  | 2 => 3000000
  | 3 => 2000000
  | 4 => 1500000
  | 5 => 1000000
  | _ => 0

/-- Codewords that complete in elapsed tick `t` (R129). -/
def codewordsIn (m t : Nat) : Nat := (t + 1) * netBits m / max 1 (informationBits m) - t * netBits m / max 1 (informationBits m)

/-- Nominal OTUCn-M bytes of an L frame, in tenths (R138). -/
def nominalTenths (m : Nat) : Nat := if m = 1 ∨ m = 2 then 252690 else if modeL m then 242582 else 0

/-- OTUCn-M rate in 10 kb/s: 16 overhead columns of each instance and the tributary slots (R138). -/
def otucRate (m : Nat) : Nat := (modeN m * 440411 + slotsOf (modeN m) * 5240886) / 10

/-- Bytes of an engine's part of an OTUCn-M frame: 64 of overhead for each instance, and 3,808 × 4 ÷ 20 for each tributary slot (R138, R142). -/
def otucBytes (m : Nat) : Nat := 64 * modeN m + slotsOf (modeN m) * 3808 / 5

/-- C that a transmitter may send: within 3 of the nominal value (R141). -/
def cLow (m : Nat) : Nat := ceilDiv (nominalTenths m - 30) 10
def cHigh (m : Nat) : Nat := (nominalTenths m + 30) / 10

/-! ## The scrambler (R140) -/

/-- One step of the register of x¹⁶ + x¹² + x³ + x + 1 (DEDUCED, log entry 183: the bit it gives is that of x¹⁶). -/
def scramblerStep (r : Nat) : Nat :=
  r * 2 % 2 ^ 16 + ((bit r 15 != bit r 11) != (bit r 2 != bit r 0)).toNat

/-- A byte under the scrambler, most significant bit first, and the register after it. -/
def scramblerByte (r : Nat) : Nat × Nat := (List.range 8).foldl (fun x _ => (scramblerStep x.1, x.2 * 2 + (bit x.1 15).toNat)) (r, 0)

/-- Bytes scrambled, or descrambled, from a state of the register. -/
def scramble : Nat → List Nat → List Nat
  | _, [] => []
  | r, b :: bs => let x := scramblerByte r
    Nat.xor (b % 256) x.2 :: scramble x.1 bs

/-- The state at the first bit of byte 6 of every L frame. -/
def scramblerReset : Nat := 0xFFFF

/-! ## GMP (R141, R142) -/

/-- Position `j`, from 1, of `p` carries data when `c` do. -/
def gmpData (c p j : Nat) : Bool := decide (j * c % p < c)

/-- The position, from 0, of the data byte numbered `d` from 0. -/
def gmpPlace (c p d : Nat) : Nat := ceilDiv ((d + 1) * p) c - 1

/-- Data bytes among the first `k` positions. -/
def gmpBefore (c p k : Nat) : Nat := k * c / p

/-- A payload area of `p` bytes with data in the positions that GMP gives it, and stuff bytes of 0x00 elsewhere. -/
def gmpFill (c p : Nat) : Nat → List Nat → List Nat
  | 0, _ => []
  | left + 1, ds =>
    if gmpData c p (p - left) then ds.headD 0 :: gmpFill c p left ds.tail else 0 :: gmpFill c p left ds

/-- The data bytes of a payload area. -/
def gmpTake (c p : Nat) (area : List Nat) : List Nat := ((area.zipIdx 1).filter fun x => gmpData c p x.2).map (·.1)

/-- An ODU in `ts` slots of an OPUCn: of the 952 groups of 16 × ts bytes in 20 frames, those that carry it when `cm` do (R142). -/
def muxGroup (cm j : Nat) : Bool := gmpData cm 952 j

/-! ## Overhead of an L frame (R139) -/

def fasWord : Nat := 0xF6F6F6282828

/-- The overhead fields of a frame that is sent. -/
structure Overhead where
  lmf : Nat
  idle : Bool
  bond : Bool
  member : Nat
  fffIdx : Nat
  fffSeg : Nat
  ptr : Nat
  c : Nat
  deriving DecidableEq, Repr

def frameCrc (v : Nat) : Nat := crc 8 0x07 0 136 v

/-- Bytes 6 to 31. -/
def Overhead.bytes (o : Overhead) : List Nat :=
  let body := packBytes [(2, o.lmf), (1, o.idle.toNat * 128 + o.bond.toNat * 64 + o.member % 4 * 16), (1, o.fffIdx), (8, o.fffSeg), (3, o.ptr), (2, o.c)]
  let all := packBytes [(17, body), (1, frameCrc body), (8, 0)]
  (List.range 26).map fun k => bytesOf 26 all k 1

/-- A frame on the line: the FAS, and everything after it scrambled (R139 to R141). -/
def Overhead.frame (o : Overhead) (pos area : Nat) (data : List Nat) : LFrame :=
  let line := scramble scramblerReset (o.bytes ++ gmpFill o.c area area data)
  { pos := pos, head := packBytes ((6, fasWord) :: (line.take 26).map fun b => (1, b)), payload := line.drop 26 }

/-! ## Reading a frame (R139, R140) -/

end Sys2Proof.Machine

namespace Sys2Proof

open Sys2Proof.Machine

/-- Bits of the FAS in error. -/
def LFrame.fasErrors (f : LFrame) : Nat := (List.range 48).countP fun k => bit (Nat.xor (bytesOf 32 f.head 0 6) fasWord) k

/-- Everything after byte 5, descrambled. -/
def LFrame.clear (f : LFrame) : List Nat :=
  scramble scramblerReset (((List.range 26).map fun k => bytesOf 32 f.head (6 + k) 1) ++ f.payload)

/-- Bytes 6 to 23, as one number of 18 bytes. -/
def LFrame.fields (f : LFrame) : Nat := packBytes ((f.clear.take 18).map fun b => (1, b))

def LFrame.crcOk (f : LFrame) : Bool := decide (frameCrc (f.fields / 256) = f.fields % 256)
def LFrame.lmf (f : LFrame) : Nat := bytesOf 18 f.fields 0 2
def LFrame.stat (f : LFrame) : Nat := bytesOf 18 f.fields 2 1
def LFrame.idle (f : LFrame) : Bool := bit f.stat 7
def LFrame.bond (f : LFrame) : Bool := bit f.stat 6
def LFrame.member (f : LFrame) : Nat := field f.stat 5 4
def LFrame.fffIdx (f : LFrame) : Nat := bytesOf 18 f.fields 3 1
def LFrame.fffSeg (f : LFrame) : Nat := bytesOf 18 f.fields 4 8
def LFrame.ptr (f : LFrame) : Nat := bytesOf 18 f.fields 12 3
def LFrame.c (f : LFrame) : Nat := bytesOf 18 f.fields 15 2

/-- The payload area, descrambled. -/
def LFrame.area (f : LFrame) : List Nat := f.clear.drop 26

end Sys2Proof

namespace Sys2Proof.Machine

/-! ## The Fast Fault Flag bitmap (R142, R153) -/

/-- Place of an available slot in the bitmap order TS 1.1, 1.2, … (R142, R153). -/
def slotBit (k : Nat) : Nat := 80 * (k / 75) + k % 75

/-- Bit `b` of a bitmap of 80 bytes, TS 1.1 in bit 7 of byte 0 (R163). -/
def mapBit (m b : Nat) : Bool := bit m (639 - b)

/-- Segments of the bitmap (R153). -/
def fffSegments (n : Nat) : Nat := ceilDiv (20 * n) 64

/-! ## The transmit side (R99, R143, R150, R153) -/

/-- No OTUCn-M frame starts in an L frame. -/
def noPointer : Nat := 0xFFFFFF

/-- The engine, or its bonded group, carries an OTUCn-M: a connection of the active set sinks there (R143; DEDUCED, log entry 182). -/
def State.carriesOtuc (s : State) (e : Nat) : Bool := (connsOf s.egressSet).any fun p => s.onEngine e p.2.dst

/-- Numbers of the L frames that start in this tick, counted from tick 0 so that the members of a group agree (R46, R150). -/
def State.frameNumbers (s : State) (m : Nat) : List Nat :=
  let first := ceilDiv (s.now * netBits m) (frameBits m)
  (List.range (ceilDiv ((s.now + 1) * netBits m) (frameBits m) - first)).map (first + ·)

/-- C of L frame `k`: which value within the bounds is the transmitter's own (R141). -/
def frameC (m k : Nat) : Nat := cLow m + Config.transmittedC m k % (cHigh m + 1 - cLow m)

/-- An overhead fault of a sort stands in this tick at an engine's transmitter (R475, kind 8). -/
def State.lineFault (s : State) (e sort : Nat) : Bool := s.overheadFault sort fun t => decide (field t 25 24 = e)

/-- The bitmap that an engine sends: that of OH_FFF_TX_MAP, with the bits that injected faults set (R154, R475). -/
def State.sentMap (s : State) (e : Nat) : Nat :=
  s.inject.forced.foldl (fun v x =>
    let f := s.fiSlot x
    let slot := field f.param 27 0
    if f.kind = 8 ∧ field f.target 25 24 = e ∧ field f.param 31 28 = 2 ∧ slot < 640 then withBit v (639 - slot) true else v) (s.obj (Obj.OH_FFF_TX_MAP e))

/-- A frame with the FAS inverted, or with an error in its CRC (R475). -/
def State.spoilFrame (s : State) (e : Nat) (f : LFrame) : LFrame :=
  let a := if s.lineFault e 1 then withBytes 32 f.head 0 6 (2 ^ 48 - 1 - bytesOf 32 f.head 0 6) else f.head
  { f with head := if s.lineFault e 7 then withBytes 32 a 23 1 (Nat.xor (bytesOf 32 a 23 1) 1) else a }

/-- Where an engine's part of the OTUCn-M stands: bytes since the start of the last frame, and frames started. -/
structure OtucAt where
  since : Nat
  started : Nat
  deriving DecidableEq, Repr

/-- The place after L frame `k`. -/
def OtucAt.after (x : OtucAt) (m : Nat) (idle : Bool) (k : Nat) : OtucAt :=
  let d := otucBytes m - x.since
  if idle then { x with since := otucBytes m }
  else if d < frameC m k then ⟨frameC m k - d, x.started + 1⟩ else { x with since := x.since + frameC m k }

/-- What the OTUCn-M bytes of an engine are made of in a tick: section monitoring, GCC bytes, the slots of each connection, the words that leave,
and the connections whose header has CSF (R142, R148, R157, R185). -/
structure LineSource where
  sections : List Nat := []
  gcc : List (Nat × List Nat) := []
  slots : List (Nat × List Nat) := []
  words : List EgressWord := []
  csf : List Nat := []
  /-- the two bytes of a slot-move message in a frame, by frame number (R266) -/
  smx : List (Nat × Nat) := []
  aps : List (Nat × Nat × Nat) := []
  deriving DecidableEq, Repr

/-- The place in the payload area of byte `p` of an engine's part of a frame: of each of the 4 rows, the first 16 bytes of an instance are overhead
(R138). -/
def payloadPlace (m p : Nat) : Option Nat :=
  let row := otucBytes m / 4
  if p % row < 16 * modeN m then none else some (p / row * (row - 16 * modeN m) + (p % row - 16 * modeN m))

/-- Byte `p` of frame number `f`. The slots take the payload area in turn, 16 bytes at a time, so that a slot has 952 of these in 20 frames; a
connection has those that GMP gives it, and the others are stuff (R142). Byte of a slot that no connection holds: connection 2^19 of the constant. -/
def LineSource.byte (x : LineSource) (e m f p : Nat) : Nat :=
  match payloadPlace m p with
  | none => Config.otucOverhead e p f x.sections (x.gcc ++ x.smx.map fun m => (2 ^ 22 + m.1, [m.2 / 256, m.2 % 256])) % 256
  | some q =>
    let slots := slotsOf (modeN m)
    let block := f % 20 * (slots * 238 / 5) + q / 16
    let slot := block % slots
    let group := block / slots + 1
    match x.slots.find? fun c => c.2.contains slot with
    | some c =>
      if muxGroup (Config.muxCount c.1 (f / 20)) group then
        Config.oduByte c.1 [f / 20, group, c.2.idxOf slot, q % 16] (x.csf.contains c.1)
          ((x.words.filter fun w => decide (w.conn = c.1)).map fun w => (w.index, w.word))
          (x.gcc ++ (x.aps.filter fun a => decide (a.1 = c.1)).map fun a => (2 ^ 23 + a.2.1, [a.2.2])) % 256
      else 0
    | none => Config.oduByte (2 ^ 19) [f / 20, group, slot, q % 16] false [] [] % 256

/-- One L frame from a place of the OTUCn-M. -/
def State.sendFrame (s : State) (e m : Nat) (idle : Bool) (x : LineSource) (at_ : OtucAt) (k : Nat) : LFrame :=
  let g := s.bond e
  let c := if idle then 0 else frameC m k
  let d := otucBytes m - at_.since
  let starts := !idle && decide (d < c)
  let idx := k % max 1 (fffSegments (modeN m))
  let head : Overhead := {
    lmf := k, idle := idle, bond := decide (1 < g.length), member := g.idxOf e, fffIdx := idx
    fffSeg := if idle then 0 else bytesOf 80 (s.sentMap e) (8 * idx) 8
    ptr := if starts then gmpPlace c (payloadArea m) d else noPointer, c := c }
  let data := if idle then [] else (List.range c).map fun i =>
    if i < d then x.byte e m (at_.started - 1) (at_.since + i) else x.byte e m at_.started (i - d)
  s.spoilFrame e (head.frame (k * frameBits m) (payloadArea m) data)

/-- The frames of a tick in order. -/
def State.sendFrames (s : State) (e m : Nat) (idle : Bool) (x : LineSource) : OtucAt → List Nat → List LFrame
  | _, [] => []
  | at_, k :: ks => s.sendFrame e m idle x at_ k :: s.sendFrames e m idle x (at_.after m idle k) ks

/-- Section monitoring of the OTUC instances of an engine, member `j` of its group (R148, R150): BDI while a defect of the section signal-fail set
is declared. -/
def State.sentSections (s : State) (e m : Nat) : List SentSm :=
  (List.range (modeN m)).map fun a =>
    let i := (s.bond e).idxOf e * modeN m + a
    let r := Map.get {} (s.engine e).sections (Key.unit (i + 1))
    { tti := s.obj (Obj.FRM_SM_TTI_TX e i), bdi := s.sectionFail e || s.lineFault e 4, bei := r.bei, biae := r.biae }

/-- Errors per frame of BIP-8 that injected faults force on an engine (R475). -/
def State.forcedErrors (s : State) (e : Nat) : Nat :=
  ((s.inject.forced.filter fun x => let f := s.fiSlot x
    decide (f.kind = 8) && decide (field f.param 31 28 = 5) && decide (field f.target 25 24 = e)).map fun x => field (s.fiSlot x).param 27 0).sum

/-- Words of a line egress as its mapper sends them: a connection whose ODU an injected fault turns into ODU-AIS (R475) is all ones. -/
def State.lineWords (s : State) (e : Nat) : List EgressWord :=
  (s.prism.framed.filter fun w => s.onEngine e (connAt s.egressSet w.conn).dst).map fun w =>
    if s.overheadFault 3 fun t => decide (field t 25 24 = e) && decide (field t 18 0 = w.conn) then { w with word := 0xFFFFFFFF } else w

/-- The slots, counted on engine `e` itself, that a source endpoint of its bonded group holds there. -/
def State.localSlots (s : State) (e w : Nat) : List Nat :=
  let m := slotsOf (modeN (s.mode e))
  let j := (s.bond e).idxOf e
  ((List.range (epSlotCount w)).map (· + epSlotFirst w)).filterMap fun k =>
    if j * m ≤ k ∧ k < (j + 1) * m then some (k - j * m) else none

/-- The slots of an engine that each connection sinking there holds. -/
def State.slotOwners (s : State) (e : Nat) : List (Nat × List Nat) :=
  ((connsOf s.egressSet).filter fun p => s.onEngine e p.2.dst).map fun p => (p.1, s.localSlots e (s.wordInUse p.1 1 p.2.dst))

/-! ## General communication channels in transmit (R157) -/

def routeOn (v : Nat) : Bool := bit v 31
def routeKind (v : Nat) : Nat := field v 30 29
def routeDest (v : Nat) : Nat := field v 26 24
def routeChannel (v : Nat) : Nat := field v 23 20

/-- The enabled route of a channel. -/
def State.channelRoute (s : State) (kind e src : Nat) : Option Nat :=
  (List.range 64).find? fun x => let v := s.obj (Obj.OH_GCC_ROUTE x)
    routeOn v && decide (routeKind v = kind) && decide (field v 28 27 = e) && decide (field v 18 0 = src)

/-- The `n` bytes that a channel sends on the line: those its enabled route holds, and all-ones bytes beyond them or without a route. -/
def State.channelSends (s : State) (kind e src n : Nat) : List Nat :=
  let held := match s.channelRoute kind e src with
    | some x => Map.get [] s.gccIn (Key.unit x)
    | none => []
  held.take n ++ List.replicate (n - held.length) 0xFF

/-- The channels of an engine and the bytes that each has in a tick in which `starts` OTUCn-M frames begin: 2 in a frame of its OTUC instance or
ODU. -/
def State.lineChannels (s : State) (e m starts : Nat) : List (Nat × Nat × Nat) :=
  (List.range (modeN m)).map (fun a => (0, (s.bond e).idxOf e * modeN m + a, 2 * starts)) ++
    (s.slotOwners e).flatMap fun c => [(1, c.1, 2 * Config.oduFrames c.1 s.now), (2, c.1, 2 * Config.oduFrames c.1 s.now)]

/-- The bytes that have left leave their buffers. -/
def State.drainChannel (s : State) (e : Nat) (c : Nat × Nat × Nat) : State :=
  match s.channelRoute c.1 e c.2.1 with
  | some x => { s with gccIn := Map.set [] s.gccIn (Key.unit x) ((Map.get [] s.gccIn (Key.unit x)).drop c.2.2) }
  | none => s

/-! ## The transmitter -/

/-- The slot-move messages in the frames that begin in a tick (R266): a message begins in a frame whose MFAS is a multiple of 8, an even one with
requests, an odd one with answers, and each frame has two bytes of it. The message in progress, and the frames' bytes. -/
def smxFrames (next : List Nat) : Nat → List Nat → Nat × List (Nat × Nat)
  | message, [] => (message, [])
  | message, f :: fs =>
    let m := if f % 8 = 0 then next.getD (f / 8 % 2) 0 else message
    let rest := smxFrames next m fs
    (rest.1, (f, bytesOf 16 m (2 * (f % 8)) 2) :: rest.2)

/-- The transmit side with its slot-move bytes for the frames numbered from `first` that begin in a tick, `n` of them; the last frame's bytes may
still be on their way. -/
def LineTx.slotMoves (x : LineTx) (first n : Nat) : LineTx :=
  let run := smxFrames x.smxNext x.smx ((List.range n).map (first + ·))
  if x.smxNext = [] then { x with smx := 0, smxSent := [] }
  else { x with smx := run.1, smxSent := (match x.smxSent.getLast? with
    | some p => [p]
    | none => [(0, 0)]) ++ run.2 }

/-- Section monitoring as the overhead takes it, with the errors that injected faults force. -/
def sectionFields (sm : List SentSm) (bipErrors : Nat) (mfasError : Bool) : List Nat :=
  [bipErrors, mfasError.toNat] ++ sm.flatMap fun x => [x.tti, x.bdi.toNat, x.bei, x.biae.toNat]

/-- Connections whose last header had CSF: headers that leave in this tick replace what was known (R185). -/
def csfAfter (before : List Nat) (words : List EgressWord) : List Nat :=
  (words.filter fun w => decide (w.index = 0)).foldl (fun m w =>
    if bit w.word 28 then (if m.contains w.conn then m else m ++ [w.conn]) else m.filter (· ≠ w.conn)) before

/-- What the transmitter of an engine sends in this tick: the words that entered its pipeline 4 ticks ago (R41), or the idle pattern while
the pipeline is empty after a commit (R99) or the engine carries no OTUCn-M (R143). -/
def State.transmitLine (s : State) (e : Nat) : State :=
  let m := s.mode e
  if ¬ s.domOn e ∨ m = 0 then s.withEngine e fun r => { r with tx := {} }
  else
    let x := (s.engine e).tx
    let words := s.lineWords e
    let full := decide (4 ≤ x.pipe.length)
    let idle := !full || !s.carriesOtuc e
    let first := (s.engine ((s.bond e).headD e)).tx
    let at_ : OtucAt := ⟨first.since.getD (otucBytes m), first.started⟩
    let ks := if modeL m then s.frameNumbers m else []
    let ends := ks.foldl (fun p k => p.after m idle k) at_
    let leaving := if full then x.pipe.getD 3 [] else []
    let sm := if idle then [] else s.sentSections e m
    let csf := csfAfter x.csf leaving
    let channels := if idle ∨ ¬ modeL m then [] else s.lineChannels e m (ends.started - at_.started)
    let gcc := channels.map fun c => (2 ^ 20 * c.1 + c.2.1, s.channelSends c.1 e c.2.1 c.2.2)
    let moves := x.slotMoves at_.started (ends.started - at_.started)
    let source : LineSource := ⟨sectionFields sm (s.forcedErrors e) (s.lineFault e 6), gcc, s.slotOwners e, leaving, csf, moves.smxSent, x.aps⟩
    (channels.foldl (fun (t : State) c => t.drainChannel e c) s).withEngine e fun r => { r with tx := { moves with
      pipe := (words :: x.pipe).take 4, words := leaving, idle := idle
      frames := s.sendFrames e m idle source at_ ks, since := some ends.since, started := ends.started, csf := csf, gcc := gcc, sm := sm
      bipErrors := s.forcedErrors e, mfasError := s.lineFault e 6 } }

/-- Every transmitter; the members of a group start from the place of its first member. -/
def State.transmitLines (s : State) : State :=
  [3, 2, 1, 0].foldl State.transmitLine s

/-- A mode or subcarrier change discards the traffic in the pipeline (R99). -/
def State.emptyPipe (s : State) (e : Nat) : State := s.withEngine e fun r => { r with tx := {} }

end Sys2Proof.Machine
end

