-- ==== Sys2Proof/Machine/LineDsp.lean ====
section
/-! DEFINITION. The coherent line DSP: the meanings of chapter 03 (R82 to R123). -/

namespace Sys2Proof.Machine

/-! ## Writes of class 0x11 -/

/-- The objects whose commits make the receiver acquire afresh (R85). -/
def modeKey (k : Key) : Bool := decide (k.c = 0x11) && decide (1 ≤ k.m) && decide (k.m ≤ 3)

/-- The slots an engine or its bonded group would have in a mode hold every line endpoint of the engine; no endpoint at all in
mode 0 (R86). -/
def State.modeAllowed (s : State) (e mode : Nat) : Bool :=
  (s.bond e).all fun i =>
    let eps := s.lineEndpoints s.act i
    if mode = 0 then !s.carries s.act i
    else eps.all fun w => decide (epSlotFirst w + epSlotCount w ≤ slotsOf (modeN mode) * (s.bond e).length)

/-- LDSP_TX_STATUS bit `b` of an engine (R99, R124). -/
def State.setTxStatus (s : State) (e b : Nat) (on : Bool) : State :=
  s.setObj (Obj.LDSP_TX_STATUS e) (withBit (s.obj (Obj.LDSP_TX_STATUS e)) b on)

/-- A write of a transmitter configuration object: not applied until its commit (R99). -/
def State.stageTx (s : State) (k : Key) (v : Nat) : State := (s.stage k v).setTxStatus k.i 0 false

/-- The write applies to every member of a locked bonded group (R87). -/
def acceptModeWrite : Accept := fun k v s =>
  if k.m = 1 ∧ ¬ s.modeAllowed k.i v.v then (.precond, s)
  else (.ok, (s.bond k.i).foldl (fun t i => t.stageTx { k with i := i } v.v) s)

/-- A notch entry (R94): whether it is active, its width and twice its centre, in 0.1 GHz. -/
def notchOn (v : Nat) : Bool := bit v 31
def notchWidth (v : Nat) : Nat := field v 23 16
def notchCentre (v : Nat) : Int := if 2048 ≤ field v 11 0 then (field v 11 0 : Int) - 4096 else field v 11 0

/-- The limits of R95 for a set of entries, at a symbol rate in kBd and a roll-off in 0.01. -/
def notchInside (rate roll v : Nat) : Bool :=
  !notchOn v || decide ((2 * (notchCentre v).natAbs + notchWidth v) * 10000000 ≤ rate * (100 + roll))

def notchOverlap (a b : Nat) : Bool :=
  notchOn a && notchOn b && decide (2 * (notchCentre a - notchCentre b).natAbs < notchWidth a + notchWidth b)

def notchSumFits (rate roll : Nat) (vs : List Nat) : Bool :=
  decide (((vs.filter notchOn).map notchWidth).sum * 100000000 ≤ rate * (100 + roll))

/-- The values of DEPTH and WIDTH that R94 admits for an active notch. -/
def notchLegal (v : Nat) : Bool :=
  !notchOn v || (decide (field v 30 24 ≤ 80) && decide (1 ≤ notchWidth v) && decide (notchWidth v ≤ 200))

/-- R95; an engine whose mode is Off has no symbol rate to test against (log entry 8). DESIGN CHOICE (log entries 205, 206): a write in a Z mode is
tested with LDSP_ROLLOFF, and the entries of a TABLE_WRITE are tested one by one against those in force or staged. -/
def acceptNotch : Accept := fun k v s =>
  let w := Nat.land v.v 0xFFFF0FFF
  let others := ((List.range 8).filter (· ≠ k.x)).map fun x => s.latest { k with x := x }
  let rate := symbolRate (s.mode k.i)
  let roll := s.obj (Obj.LDSP_ROLLOFF k.i)
  if ¬ notchLegal w then (.range, s)
  else if rate ≠ 0 ∧ ¬ (notchInside rate roll w ∧ notchSumFits rate roll (w :: others)) then (.range, s)
  else if others.any (notchOverlap w) then (.range, s)
  else (.ok, s.stageTx k w)

/-- The search window and the fixed value of CD (R100). -/
def acceptCd : Accept := fun k v s =>
  let z := signed 4 v.v
  let lo := if k.m = 0x12 then z else signed 4 (s.latest (Obj.LDSP_CD_SEARCH_MIN k.i))
  let hi := if k.m = 0x13 then z else signed 4 (s.latest (Obj.LDSP_CD_SEARCH_MAX k.i))
  if z < -120000 ∨ 120000 < z then (.range, s)
  else if k.m ≠ 0x11 ∧ hi < lo then (.range, s)
  else acceptStage k v s

/-- LDSP_ACQ_RESTART commits at the next tick boundary (R107). -/
def acceptRestart : Accept := fun k v s =>
  let rest := s.agenda.filter fun p => match p.due with
    | .acqRestart e _ => decide (e ≠ k.i)
    | _ => true
  (.ok, { s with agenda := rest ++ [⟨s.now + 1, .acqRestart k.i v.v⟩] })

def acceptDsp : Accept := fun k v s =>
  if modeKey k then acceptModeWrite k v s
  else if k.m = 0x04 then acceptNotch k v s
  else if k.m = 0x11 ∨ k.m = 0x12 ∨ k.m = 0x13 then acceptCd k v s
  else if k.m = 0x26 then acceptRestart k v s
  else if k.m = 0x05 ∨ k.m = 0x16 ∨ k.m = 0x17 then (.ok, s.stageTx k v.v)
  else acceptStage k v s

/-! ## Commits -/

/-- The part of the window that the receiver searches (R100). -/
def State.cdWindow (s : State) (e : Nat) : Int × Int :=
  let r := cdRange (s.mode e)
  let lo := max (-r) (s.objInt (Obj.LDSP_CD_SEARCH_MIN e))
  let hi := min r (s.objInt (Obj.LDSP_CD_SEARCH_MAX e))
  if hi < lo then (-r, r) else (lo, hi)

/-- Bin `b` of the inverse response of DAC channel `c`, in 0.01 dB: the coding of an image's response bins is not given (R75, R96). -/
def inverseResponse (image c b : Nat) : Int := Config.inverseResponse (bytesOf 8192 image (0x19C0 + 64 * c + 2 * b) 2)

/-- The span of a channel's combined response with the host curve scaled by f ‰ (R96). -/
def responseSpan (image : Nat) (curve : List Int) (f c : Nat) : Int :=
  let sums := curve.zipIdx.map fun x => inverseResponse image c x.2 + x.1 * f / 1000
  sums.foldl max (sums.headD 0) - sums.foldl min (sums.headD 0)

/-- The largest scale at which every channel's combined response keeps to a span of 12 dB, in ‰ (R96; log entry 157). -/
def curveScale (image : Nat) (curve : List Int) : Nat :=
  ((List.range 1001).map (1000 - ·)).find? (fun f => (List.range 4).all fun c => decide (responseSpan image curve f c ≤ 1200)) |>.getD 0

/-- The bits of LDSP_TX_STATUS that follow from the configuration in force, and the host curve as it is applied (R95, R96, R98). DESIGN CHOICE (log
entry 205): bit 2 is never set in a Z mode, which applies no notch. -/
def State.refreshTxStatus (s : State) (e : Nat) : State :=
  let mode := s.mode e
  let roll := s.obj (Obj.LDSP_ROLLOFF e)
  let ns := (List.range 8).map fun x => s.obj (Obj.LDSP_TX_NOTCH e x)
  let held := modeL mode && !(ns.all (notchInside (symbolRate mode) roll) && notchSumFits (symbolRate mode) roll ns)
  let curve := (List.range 32).map fun x => signed 2 (s.obj (Obj.LDSP_TX_PREEMPH e x))
  let used := modeL mode && curve.any (· ≠ 0)
  let scale := if used then curveScale (s.obj (Obj.CNV_CAL_IMAGE e)) curve else 1000
  let t := s.withEngine e fun r => { r with preEmphasis := if used then curve.map (· * scale / 1000) else [] }
  ((t.setTxStatus e 1 (decide (scale < 1000))).setTxStatus e 2 held).setTxStatus e 3 (modeZ mode)

/-- Whether another write of a transmitter configuration object of the engine still waits. -/
def State.txWaits (s : State) (e : Nat) : Bool :=
  s.waits fun d => match d with
    | .write k _ => decide (k.c = 0x11 ∧ k.i = e) && (modeKey k || decide (k.m = 0x04 ∨ k.m = 0x05 ∨ k.m = 0x16 ∨ k.m = 0x17))
    | _ => false

/-- What a committed write of class 0x11, other than a line configuration, does beside its value (R97, R99, R100). -/
def commitDsp (k : Key) (s : State) : State :=
  if k.m = 0x04 ∨ k.m = 0x05 ∨ k.m = 0x16 ∨ k.m = 0x17 then
    (s.refreshTxStatus k.i).setTxStatus k.i 0 (!s.txWaits k.i)
  else if k.m = 0x10 ∨ k.m = 0x11 then s.followFixed k.i
  else s

/-- The configuration of one engine commits (R85, R98 to R100, R107, R114, R123). DESIGN CHOICE (log entry 158): EV_MODE_APPLIED carries the old
mode, the new mode, and the new subcarriers and roll-off. -/
def State.commitMode (s : State) (e : Nat) (ws : List (Key × Nat)) : State :=
  if ws.isEmpty then s
  else
    let oldMode := s.mode e
    let oldSub := s.obj (Obj.LDSP_SUBCARRIERS e)
    let t := ws.foldl (fun u w => u.setObj w.1 w.2) s
    let sub := t.obj (Obj.LDSP_SUBCARRIERS e)
    let u := if oldMode ≠ t.mode e ∨ oldSub ≠ sub then (t.withEngine e fun r => { r with trafficFrom := some (t.now + 4) }).emptyPipe e else t
    let v := ((u.followFixed e).refreshTxStatus e).setTxStatus e 0 (!u.txWaits e)
    let w := v.raise Ev.MODE_APPLIED [e, oldMode, t.mode e, sub, t.obj (Obj.LDSP_ROLLOFF e)]
    let x := if 1 < (w.bond e).length then w.unbond e else w
    x.reacquire e (x.commitClass e oldMode)

/-- A staged line configuration. -/
def isMode : Due → Bool
  | .write k _ => modeKey k
  | _ => false

/-- Commit the line configurations that are due (R28 step 5). -/
def State.commitModes (s : State) : State :=
  let ready := fun (p : Pending) => decide (p.boundary ≤ s.now) && isMode p.due
  let ws := (s.agenda.filter ready).filterMap fun p => match p.due with
    | .write k v => some (k, v)
    | _ => none
  (List.range 4).foldl (fun t e => t.commitMode e (ws.filter fun w => decide (w.1.i = e)))
    { s with agenda := s.agenda.filter fun p => !ready p }

/-- LDSP_ACQ_RESTART takes effect (R107, R114). DESIGN CHOICE (log entry 207): a restart of kind 1 without a confirmed lock since CNV_STATE last
reached READY acquires cold, as the row of that class says. -/
def State.restartRx (s : State) (e kind : Nat) : State :=
  s.reacquire e (if kind = 2 ∨ ¬ (s.engine e).everLocked then 1 else 2)

/-! ## The hunters (R105, R111 to R113, R122) -/

/-- A match of R105. -/
def State.syncMatch (s : State) (e : Nat) (t : SyncTest) : Bool := decide (t.errors ≤ s.obj (Obj.LDSP_SYNC_ERR_TOL e))

/-- The primary hunter after its test: the candidate it then holds, and whether it rejected one. -/
def primaryTest (period : Nat) (held : Option Candidate) (ok : Bool) (t : SyncTest) : Option Candidate × Bool :=
  match held with
  | none => (if ok then some ⟨t.pos, t.metric, false⟩ else none, false)
  | some c =>
    if t.pos = c.pos + period then
      if ok then (some ⟨t.pos, t.metric, true⟩, false) else (none, true)
    else (some c, false)

/-- The secondary hunter after its test: it tests no position congruent to the primary candidate, and a candidate of its own gives way
only to a match at least 3 dB stronger. -/
def secondaryTest (period : Nat) (primary held : Option Candidate) (ok : Bool) (t : SyncTest) : Option Candidate :=
  let congruent := match primary with
    | some p => decide (t.pos % period = p.pos % period)
    | none => false
  if congruent then held
  else match held with
    | none => if ok then some ⟨t.pos, t.metric, false⟩ else none
    | some c =>
      if t.pos = c.pos + period then (if ok then some ⟨t.pos, t.metric, true⟩ else none)
      else if ok ∧ c.metric + 300 ≤ t.metric then some ⟨t.pos, t.metric, false⟩ else some c

/-- The clause of R112 under which the secondary's candidate displaces the primary's, which must not have been confirmed before. -/
def preemptClause (primary secondary : Option Candidate) : Option Nat :=
  match secondary with
  | none => none
  | some c =>
    match primary with
    | some p => if p.metric + 300 ≤ c.metric then some 1 else if c.confirmed then some 2 else none
    | none => if c.confirmed then some 2 else none

/-- Confirmation (R107, R111, R115): STABILISE and the first of the invalid ticks. -/
def State.confirm (s : State) (e : Nat) (c : Candidate) : State :=
  let r := s.engine e
  let ticks := s.now - r.trigger
  let t := (((s.setReceiver e 7).setObj (Obj.LDSP_ACQ_LAST_TIME e) (sat32 ticks)).setInt (Obj.LDSP_LAST_METRIC e) c.metric)
  let u := if 1 < (t.bond e).length then t.setObj Obj.TB_BOND_STATE (withBit (t.obj Obj.TB_BOND_STATE) (4 + e) true) else t
  (u.withEngine e fun r => { clearHunters r with
      primary := some c, everLocked := true, confirmedAt := s.now, lockedMetric := c.metric }).raise
    Ev.ACQ_CONFIRMED [e, s.obj (Obj.LDSP_ACQ_CLASS e), ticks, encode 4 c.metric]

/-- One sync position while the receiver hunts (R111 to R113): the clauses of R112 judge the candidates as the position leaves them, and a
pre-emption wins over a confirmation at the same position. DESIGN CHOICE (log entry 159): where the primary hunter holds no candidate,
EV_ACQ_PREEMPT carries an old metric of 0. -/
def State.huntPosition (s : State) (e : Nat) (prim sec : Option SyncTest) : State :=
  let r := s.engine e
  let period := syncPeriod (s.mode e)
  let (p, rejected) := match prim with
    | none => (r.primary, false)
    | some t => primaryTest period r.primary (s.syncMatch e t) t
  let watching := decide (s.receiver e = 6) || r.afterFalse || rejected
  let q := match sec with
    | none => r.secondary
    | some t => if watching then secondaryTest period p r.secondary (s.syncMatch e t) t else r.secondary
  let t := if rejected then s.bump (Obj.LDSP_FALSE_CAND_COUNT e) else s
  let standing := match p with
    | some c => if c.confirmed then r.primary else some c
    | none => none
  match preemptClause standing q, q with
  | some clause, some c =>
    let old : Int := match standing with
      | some x => x.metric
      | none => 0
    let u := (t.bump (Obj.LDSP_PREEMPT_COUNT e)).raise Ev.ACQ_PREEMPT [e, encode 4 old, encode 4 c.metric, clause]
    if c.confirmed then u.confirm e c
    else (u.setReceiver e 6).withEngine e fun r => { r with primary := some c, secondary := none }
  | _, _ =>
    match p with
    | some c =>
      if c.confirmed then t.confirm e c
      else (t.setReceiver e 6).withEngine e fun r => { r with primary := some c, secondary := q }
    | none => (t.setReceiver e 5).withEngine e fun r => { r with
        primary := none, secondary := q, afterFalse := r.afterFalse || rejected }

/-- The locked signal's own sync word while VALID gives its current metric (R122). DESIGN CHOICE (log entry 208): where it does not match, the metric
stays that of the last position that did. -/
def State.trackLocked (s : State) (e : Nat) (t : SyncTest) : State :=
  let own : Bool := match (s.engine e).primary with
    | some c => decide (t.pos % syncPeriod (s.mode e) = c.pos % syncPeriod (s.mode e))
    | none => false
  if own ∧ s.syncMatch e t then s.withEngine e fun r => { r with primary := some ⟨t.pos, t.metric, true⟩, lockedMetric := t.metric } else s

/-- One sync position while VALID: the secondary hunter is a monitor (R122). -/
def State.monitorPosition (s : State) (e : Nat) (t : SyncTest) : State :=
  let r := s.engine e
  let q := secondaryTest (syncPeriod (s.mode e)) r.primary r.secondary (s.syncMatch e t) t
  match q with
  | some c =>
    if c.confirmed then
      let u := s.withEngine e fun r => { r with secondary := none }
      if r.lockedMetric + 300 ≤ c.metric ∧ r.rivalEpoch ≠ some s.epoch then
        (u.withEngine e fun r => { r with rivalEpoch := some s.epoch }).raise Ev.SYNC_RIVAL
          [e, encode 4 r.lockedMetric, encode 4 c.metric]
      else u
    else s.withEngine e fun r => { r with secondary := q }
  | none => s.withEngine e fun r => { r with secondary := none }

/-! ## Meanings -/

/-- LDSP_MODE write (R82, R86, R87). -/
def execLdspModeWrite (rq : Rq) (e : Fin 4) (val : Val) (s : State) : Out :=
  .next (serveWrite acceptDsp rq (Obj.LDSP_MODE e) val s)

/-- LDSP_SUBCARRIERS write (R92). -/
def execLdspSubcarriersWrite (rq : Rq) (e : Fin 4) (val : Val) (s : State) : Out :=
  .next (serveWrite acceptDsp rq (Obj.LDSP_SUBCARRIERS e) val s)

/-- LDSP_ROLLOFF write (R93). -/
def execLdspRolloffWrite (rq : Rq) (e : Fin 4) (val : Val) (s : State) : Out :=
  .next (serveWrite acceptDsp rq (Obj.LDSP_ROLLOFF e) val s)

/-- LDSP_TX_NOTCH write (R94, R95). -/
def execLdspTxNotchWrite (rq : Rq) (e : Fin 4) (index : Nat) (val : Val) (s : State) : Out :=
  .next (serveWrite acceptDsp rq (Obj.LDSP_TX_NOTCH e index) val s)

/-- TX_TRAFFIC_START (R99): traffic from the fourth tick after the commit. -/
def execTxTrafficStart (e : Fin 4) (s : State) : Out :=
  match (s.engine e).trafficFrom with
  | some t => if t ≤ s.now then .next (s.withEngine e fun r => { r with trafficFrom := none }) else .next s
  | none => .next s

/-- LDSP_ACQ_RESTART = 1 and 2 (R107, R114). -/
def execAcqRestartNewSignal (rq : Rq) (e : Fin 4) (s : State) : Out :=
  .next (serveWrite acceptDsp rq (Obj.LDSP_ACQ_RESTART e) ⟨2, 1⟩ s)

def execAcqRestartCold (rq : Rq) (e : Fin 4) (s : State) : Out :=
  .next (serveWrite acceptDsp rq (Obj.LDSP_ACQ_RESTART e) ⟨2, 2⟩ s)

/-- BUILD_DONE (R106). -/
def execBuildDone (e : Fin 4) (s : State) : Out :=
  if s.receiver e = 2 then .next (s.setReceiver e 3) else .next s

/-- SEARCH_DONE (R100, R106): the CD found, in ps/nm, and the carrier offset, in MHz. -/
def execSearchDone (e : Fin 4) (cd : Int) (offset : Int) (s : State) : Out :=
  if s.receiver e = 3 then
    let w := s.cdWindow e
    let used := if s.obj (Obj.LDSP_CD_MODE e) = 1 then s.fixedCd e else clamp w.1 w.2 cd
    .next (((s.setReceiver e 5).setInt (Obj.LDSP_CD_EST e) used).setInt (Obj.LDSP_FREQ_EST e) offset)
  else .next s

/-- VERIFY_DONE (R106). -/
def execVerifyDone (e : Fin 4) (s : State) : Out :=
  if s.receiver e = 4 then .next (s.setReceiver e 5) else .next s

/-- VERIFY_TIMEOUT (R106, R110): 160 ticks without confirmation; the new-signal acquisition has its own trigger tick. -/
def execVerifyTimeout (e : Fin 4) (s : State) : Out :=
  if s.obj (Obj.LDSP_ACQ_CLASS e) = 3 ∧ 4 ≤ s.receiver e ∧ s.receiver e ≤ 6 ∧ (s.engine e).attempt + 160 ≤ s.now then
    .next (s.acquire e 2)
  else .next s

/-- SYNC_POSITION (R105, R111 to R113, R122). -/
def execSyncPosition (e : Fin 4) (primary secondary : Option SyncTest) (s : State) : Out :=
  if s.receiver e = 5 ∨ s.receiver e = 6 then .next (s.huntPosition e primary secondary)
  else if s.receiver e = 8 then
    let u := match primary with
      | some t => s.trackLocked e t
      | none => s
    match secondary with
    | some t => .next (u.monitorPosition e t)
    | none => .next u
  else .next s

/-- The tick after the last invalid one: VALID (R115, R116, R120). -/
def State.enterValid (s : State) (e : Nat) : State :=
  let r := s.engine e
  if s.receiver e = 7 ∧ r.confirmedAt + invalidTicks (s.mode e) ≤ s.now then
    let t := ((s.setReceiver e 8).clear Df.lol e).withEngine e fun r => { r with validSince := s.now, secondary := none }
    t.raise Ev.ACQ_VALID [e, s.obj (Obj.LDSP_ACQ_CLASS e), s.now - r.trigger]
  else s

/-- ENTER_VALID (R115, R116, R120). -/
def execEnterValid (e : Fin 4) (s : State) : Out := .next (s.enterValid e)

/-- The bound of an attempt (R107, R109). -/
def attemptBound (cls : Nat) : Nat := if cls = 1 then 24000 else 4000

/-- ACQ_RETRY (R109): a new attempt under the trigger tick of the first. -/
def execAcqRetry (e : Fin 4) (s : State) : Out :=
  let cls := s.obj (Obj.LDSP_ACQ_CLASS e)
  let st := s.receiver e
  if (cls = 1 ∨ cls = 2) ∧ (st = 3 ∨ st = 5 ∨ st = 6) ∧ (s.engine e).attempt + attemptBound cls ≤ s.now then
    let t := (s.bump (Obj.LDSP_RETRY_COUNT e)).raise Ev.ACQ_RETRY [e, cls, s.obj (Obj.LDSP_RETRY_COUNT e) + 1]
    let u := (t.setReceiver e 3).setObj (Obj.LDSP_ACQ_CLASS e) 2
    .next (u.withEngine e fun r => { clearHunters r with attempt := s.now })
  else .next s

/-- Ticks of VALID up to the end of this one, and the sync positions they can hold: runs that reach further back count no more (R119). -/
def State.validTicks (s : State) (e : Nat) : Nat := s.now + 1 - (s.engine e).validSince

def State.validPositions (s : State) (e : Nat) : Nat :=
  let ps := syncPicoseconds (syncPeriod (s.mode e)) (if modeL (s.mode e) then s.obj (Obj.LDSP_SUBCARRIERS e) else 1) (symbolRate (s.mode e))
  s.validTicks e * 1250000 / max ps 1 + 1

/-- Whether a criterion of R119 is met in VALID, or a coefficient page is lost in a state that can declare dLOL (R120, R467). -/
def State.lolMet (s : State) (e : Nat) : LolCause → Bool
  | .pilots ratio ticks => s.rxValid e && decide (s.obj (Obj.LDSP_LOL_PILOT_THRESH e) < ratio) &&
      decide (s.obj (Obj.LDSP_LOL_TICKS e) ≤ min ticks (s.validTicks e))
  | .sync misses => s.rxValid e && decide (s.obj (Obj.LDSP_LOL_SYNC_MISSES e) ≤ min misses (s.validPositions e))
  | .store => decide (2 ≤ s.receiver e)

def lolCriterion : LolCause → Nat
  | .pilots _ _ => 1
  | .sync _ => 2
  | .store => 3

/-- LOL_DECLARE (R119 to R121, R467): dLOL and the stored state, with an acquisition from it in the next tick; or a new-signal one where the
store is lost. -/
def execLolDeclare (e : Fin 4) (cause : LolCause) (s : State) : Out :=
  if s.lolMet e cause then
    match cause with
    | .store => .next (s.lolStore e)
    | _ => .next ((((s.declare Df.lol e).raise Ev.LOL [e, lolCriterion cause]).storeRx e).withEngine e fun r => { r with lolAt := some s.now })
  else .next s

/-- STORED_STATE_EXPIRE (R114): 10 s of age. -/
def execStoredStateExpire (e : Fin 4) (s : State) : Out :=
  match (s.engine e).stored with
  | some t => if t.since + 8000000 ≤ s.now then .next (s.dropStored e) else .next s
  | none => .next s

end Sys2Proof.Machine
end

