-- ==== Sys2Proof/Machine/HostPorts.lean ====
section
/-! DEFINITION. Host lanes and clients: the meanings of chapter 05 up to R187. -/

namespace Sys2Proof.Machine

/-! ## Clients (R173, R174, R184) -/

/-- Lanes and rate code of a client type that fixes both (R173). -/
def clientLanes (type : Nat) : Option (Nat × Nat) :=
  match type with
  | 1 => some (1, 1) | 2 => some (1, 4) | 3 => some (1, 6)
  | 4 => some (4, 6) | 5 => some (2, 8) | 6 => some (1, 9)
  | 7 => some (8, 8) | 8 => some (4, 9) | 9 => some (2, 10)
  | 10 => some (8, 9) | 11 => some (4, 10) | 12 => some (8, 10)
  | 13 => some (1, 2) | 14 => some (1, 3) | 15 => some (1, 5) | 16 => some (4, 7)
  | _ => none

/-- Lane sets of a FlexE PHY (R176) and of an expansion link (R188). -/
def flexeSets : List (Nat × Nat) := [(4, 6), (2, 8), (1, 9), (4, 8), (2, 9), (1, 10), (8, 8), (4, 9), (2, 10)]
def expansionSets : List (Nat × Nat) := [1, 2, 4, 8].flatMap fun k => [(k, 8), (k, 9), (k, 10)]

/-- `k` consecutive lanes from a multiple of `k` (R172). -/
def lanesFrom (l k : Nat) : Option (List Nat) := if l % k = 0 then some ((List.range k).map (· + l)) else none

/-- Interfaces of an OTUCn client: up to 16, each on 4 aligned lanes (R183). -/
def otucLanes (l : Nat) (lanes : List Nat) : Bool :=
  decide (lanes.head? = some l) && decide (lanes.Nodup) && decide (lanes.length % 4 = 0) && decide (lanes.length ≤ 64) &&
    (List.range lanes.length).all fun k =>
      decide (lanes.getD k 0 < 64) && decide (lanes.getD k 0 = lanes.getD (k - k % 4) 0 + k % 4) &&
        decide (lanes.getD (k - k % 4) 0 % 4 = 0)

/-- The lanes and the rate of a client to be created on lane `l`, where the placement is legal (R172). -/
def clientSet (type l : Nat) (set : LaneSet) : Option (List Nat × Nat) :=
  match clientLanes type with
  | some (k, c) => (lanesFrom l k).map fun ls => (ls, c)
  | none =>
    if type = 0 then some ([], 0)
    else if type = 18 then (if set.rate = 7 ∧ otucLanes l set.lanes then some (set.lanes, 7) else none)
    else
      let sets := if type = 17 then flexeSets else expansionSets
      if sets.contains (set.lanes.length, set.rate) ∧ lanesFrom l set.lanes.length = some set.lanes then some (set.lanes, set.rate)
      else none

def isEthernet (type : Nat) : Bool := decide (1 ≤ type) && decide (type ≤ 12)
def isStm (type : Nat) : Bool := decide (type = 13) || decide (type = 14)
def isOtu (type : Nat) : Bool := decide (type = 15) || decide (type = 16) || decide (type = 18)

def State.client (s : State) (l : Nat) : Client := Map.get {} s.clients (Key.unit l)
def State.clientType (s : State) (l : Nat) : Nat := s.obj (Obj.CLI_TYPE l)

/-- The first lane of the client that owns a lane. -/
def State.laneOwner (s : State) (l : Nat) : Option Nat := (s.clients.find? fun p => p.2.lanes.contains l).map (·.1.i)

/-- Lanes that clients own once every client write that waits has committed, without the client of lane `f`. -/
def State.takenLanes (s : State) (f : Nat) : List Nat :=
  let later := s.agenda.filterMap fun p => match p.due with
    | .client l _ ls _ => some (l, ls)
    | _ => none
  let now := s.clients.filterMap fun p => if later.any (fun q => q.1 = p.1.i) then none else some (p.1.i, p.2.lanes)
  ((now ++ later).filter fun q => decide (q.1 ≠ f)).flatMap (·.2)

/-- Client form in force: an OTU client has the ODU form only (R173, R174). -/
def State.oduForm (s : State) (l : Nat) : Bool := isOtu (s.clientType l) || decide (s.obj (Obj.CLI_FORM l) = 1)

/-- A connection of the active set uses a lane, or the client it belongs to (R172, R195). -/
def State.laneUsed (s : State) (l : Nat) : Bool :=
  let f := (s.laneOwner l).getD l
  let lanes := if (s.client f).lanes = [] then [l] else (s.client f).lanes
  let g := s.obj (Obj.CLI_FLEXE_GROUP f)
  lanes.any (s.usesClient s.act) ||
    (decide (s.clientType f = 17) && (connsOf s.act).any fun p =>
      (p.2.dst :: sourcesOf s.act p.2).any fun w => decide (epType w = 6) && decide (epFlexGroup w = g))

/-- R166: no group has a third non-zero rate once the given lanes take the given rates. -/
def State.ratesFit (s : State) (rates : List (Nat × Nat)) : Bool :=
  (List.range 8).all fun g =>
    let used := (List.range 8).map fun k =>
      match rates.find? fun r => decide (r.1 = 8 * g + k) with
      | some r => r.2
      | none => s.latest (Obj.HL_RATE (8 * g + k))
    decide ((used.filter (· ≠ 0)).dedup.length ≤ 2)

/-! ## Lane and client state (R168, R172, R197) -/

/-- CLI_DEFECTS of a client. -/
def State.clientDefects (s : State) (f : Nat) : Nat :=
  let lanes := (s.client f).lanes
  let b := fun (n : Nat) (on : Bool) => if on then 2 ^ n else 0
  b 0 (lanes.any (s.declared Df.laneLos)) + b 1 (lanes.any (s.declared Df.laneLol)) + b 2 (s.declared Df.lobl f) +
    b 3 (s.declared Df.loaml f) + b 4 (s.declared Df.hiBer f) + b 5 (s.declared Df.cliLof f) + b 6 (s.declared Df.cliLom f) +
    b 7 (lanes.any (s.declared Df.lcd)) + b 8 (s.declared Df.tickMm f)

/-- CLI_STATE: OFF without a client, FAIL once it has been up and is in the host signal-fail set, NOTVALID until lanes and PCS are
locked, else UP. -/
def State.clientState (s : State) (f : Nat) : Nat :=
  let c := s.client f
  let fail := decide (s.clientDefects f ≠ 0)
  if c.lanes = [] then 0
  else if fail ∧ c.up then 3
  else if ¬ fail ∧ c.pcs ∧ (c.lanes.all fun l => decide (s.obj (Obj.HL_STATE l) = 2)) = true then 2
  else 1

/-- A client's state and defects follow its lanes and its PCS; entering or leaving the host signal-fail set is an event (R198). -/
def State.refreshClient (s : State) (f : Nat) : State :=
  let old := s.obj (Obj.CLI_DEFECTS f)
  let new := s.clientDefects f
  let t := s.setObj (Obj.CLI_DEFECTS f) new
  let st := t.clientState f
  let u := t.setObj (Obj.CLI_STATE f) st
  let v := if st = 2 then { u with clients := Map.set {} u.clients (Key.unit f) { u.client f with up := true } } else u
  if (old = 0) = (new = 0) then v else v.raise Ev.CLI_FAIL [f, new]

def State.refreshLaneClient (s : State) (l : Nat) : State :=
  match s.laneOwner l with
  | some f => s.refreshClient f
  | none => s

/-- A lane's group is On and its pads are not held (R485, R492). -/
def State.laneOn (s : State) (l : Nat) : Bool := s.domOn (4 + l / 8) && decide (s.obj (Obj.PWR_PAD_HELD (4 + l / 8)) = 0)

/-- A lane changes state: dLOL holds in ADAPT, and a lane that is OFF has no lane defect (R168). -/
def State.setLane (s : State) (l new : Nat) : State :=
  let old := s.obj (Obj.HL_STATE l)
  let t := if old = new then s else (s.setObj (Obj.HL_STATE l) new).raise Ev.HL_STATE [l, old, new]
  let u := t.setDefect Df.laneLol l (decide (new = 1))
  let v := if new = 0 then u.clear Df.laneLos l else u
  (v.followLane l).refreshLaneClient l

/-- The transmit PLLs of a group follow the rates in use: a rate keeps its PLL, a new one takes the PLL that is free (R166). -/
def State.refreshPlls (s : State) (g : Nat) : State :=
  let rates := (((List.range 8).map fun k => s.obj (Obj.HL_RATE (8 * g + k))).filter (· ≠ 0)).dedup
  let old := s.obj (Obj.HG_PLL_RATES g)
  let keep := fun (r : Nat) => if rates.contains r then r else 0
  let a := keep (field old 7 0)
  let b := keep (field old 15 8)
  let fresh := rates.filter fun r => r ≠ a ∧ r ≠ b
  let a' := if a = 0 then fresh.headD 0 else a
  let rest := if a = 0 then fresh.tail else fresh
  let b' := if b = 0 then rest.headD 0 else b
  s.setObj (Obj.HG_PLL_RATES g) (a' + 256 * b')

/-- A lane's rate commits (R168). -/
def State.commitRate (s : State) (l : Nat) : State :=
  let t := s.refreshPlls (l / 8)
  t.setLane l (if s.obj (Obj.HL_RATE l) ≠ 0 ∧ s.laneOn l then 1 else 0)

/-- The timing of an STM-N lane that the device sets (R187): THROUGH while a native-form connection of the egress maps in force sinks the client. -/
def State.stmTiming (s : State) (l : Nat) : Nat :=
  if ¬ s.oduForm l ∧ ((connsOf s.egressSet).any fun p => decide (epType p.2.dst = 1) && decide (epLane p.2.dst = l)) = true then 1 else 0

/-- HL_TX_TIMING of every STM-N client follows the egress maps in force. -/
def State.refreshStm (s : State) : State :=
  s.clients.foldl (fun t p =>
    if isStm (t.clientType p.1.i) then t.setObj (Obj.HL_TX_TIMING p.1.i) (t.stmTiming p.1.i) else t) s

/-- The pointer defects of a client's AUs and TUs go (R179). -/
def State.clearPointers (s : State) (f : Nat) : State :=
  (s.defects.filter fun e => decide (e.1.c = Df.lop ∨ e.1.c = Df.ptrAis) && decide (epType e.1.i = 2) && decide (epLane e.1.i = f)).foldl
    (fun t e => t.clear e.1.c e.1.i) s

/-- A lane starts, or stops, being one of an expansion link: in HUNT, where dLCD holds (R191). -/
def State.resetCells (s : State) (l : Nat) (linked : Bool) : State :=
  let t := { s.setObj (Obj.HL_CELL_STATE l) 0 with cells := Map.set {} s.cells (Key.unit l) {} }
  if ¬ linked then t.clear Df.lcd l
  else if t.declared Df.lcd l then t
  else (t.declare Df.lcd l).raise Ev.LCD [l, l, 0]

/-- A client write commits (R172): the old client's defects go, and every lane of the new one takes its rate. -/
def State.commitClient (s : State) (f type : Nat) (lanes : List Nat) (rate : Nat) : State :=
  let old := (s.client f).lanes
  let t := ([Df.lobl, Df.loaml, Df.hiBer, Df.cliLof, Df.cliLom, Df.msAis, Df.msRdi, Df.msDeg, Df.tickMm].foldl (fun t d => t.clear d f) s).clearPointers f
  let u := { ((t.setObj (Obj.CLI_TYPE f) type)) with
    clients := Map.set {} t.clients (Key.unit f) { lanes := lanes, rate := rate } }
  let w := lanes.foldl (fun w l => w.resetCells l (decide (type = 19))) (old.foldl (fun w l => w.resetCells l false) u)
  let v := lanes.foldl (fun v l => (v.setObj (Obj.HL_RATE l) rate).commitRate l) w
  ((v.setObj (Obj.CLI_DEFECTS f) (v.clientDefects f)).setObj (Obj.CLI_STATE f) (v.clientState f)).refreshStm

/-! ## Writes of classes 0x20 and 0x21 -/

/-- The timings that a lane's client accepts (R186); a lane without a client takes any. -/
def State.timingAccepted (s : State) (l v : Nat) : Bool :=
  match s.laneOwner l with
  | none => true
  | some f =>
    let type := s.clientType f
    if isStm type then decide (v = s.stmTiming f)
    else if type = 17 ∨ type = 19 then decide (v = 0)
    else if isOtu type ∨ s.oduForm f then decide (v ≠ 1)
    else true

/-- PRBS13Q and PRBS31Q run at the PAM4 rates only (R170); patterns above 7 are reserved. -/
def prbsLegal (rate pattern : Nat) : Bool := decide (pattern ≤ 5) || (decide (pattern ≤ 7) && decide (8 ≤ rate))

def acceptLane : Accept := fun k v s =>
  if k.i = 0xFF then
    if 64 ≤ v.v ∧ v.v ≠ 0xFFFF then (.range, s) else acceptStage k v s
  else match k.m with
    | 0x01 => if s.laneUsed k.i ∨ ¬ s.ratesFit [(k.i, v.v)] then (.precond, s) else acceptStage k v s
    | 0x03 => if field v.v 3 2 = 3 then (.range, s) else acceptStage k v s
    | 0x04 => if s.timingAccepted k.i v.v then acceptStage k v s else (.precond, s)
    | 0x07 =>
      let rate := s.latest (Obj.HL_RATE k.i)
      if ¬ (prbsLegal rate (field v.v 3 0) ∧ prbsLegal rate (field v.v 7 4)) then (.range, s)
      else if field v.v 3 0 ≠ 0 ∧ field (s.latest k) 3 0 = 0 ∧ s.laneUsed k.i then (.precond, s)
      else acceptStage k v s
    | _ => acceptStage k v s

/-- A structure word of R179 with no reserved code. -/
def structLegal (v : Nat) : Bool :=
  decide (field v 1 0 ≠ 3) && [2, 4, 6].all fun b => decide (field v (b + 1) b ≤ 1)

/-- R172: the write of CLI_TYPE, for the lane set that the type or the operand gives. -/
def acceptClientType (set : LaneSet) : Accept := fun k v s =>
  let f := k.i
  match clientSet v.v f set with
  | none => (.precond, s)
  | some (lanes, rate) =>
    if s.laneUsed f ∨ (lanes.any fun l => s.laneUsed l || (s.takenLanes f).contains l) = true then (.precond, s)
    else if ¬ s.ratesFit (lanes.map fun l => (l, rate)) then (.precond, s)
    else
      let rest := s.agenda.filter fun p => match p.due with
        | .client l _ _ _ => decide (l ≠ f)
        | _ => true
      let t := { s with agenda := rest ++ [⟨s.now + 1, .client f v.v lanes rate⟩] }
      (.ok, lanes.foldl (fun t l => t.stage (Obj.HL_RATE l) rate) t)

def acceptClient (set : LaneSet) : Accept := fun k v s =>
  if k.i < 64 then
    match k.m with
    | 0x01 => acceptClientType set k v s
    | 0x02 => if s.laneUsed k.i then (.precond, s) else acceptStage k v s
    | 0x07 => if structLegal v.v then acceptStage k ⟨v.len, field v.v 7 0⟩ s else (.range, s)
    | 0x0A => if 8 ≤ v.v ∧ v.v ≠ 0xFFFF then (.range, s) else acceptStage k v s
    | _ => acceptStage k v s
  else if 0x200 ≤ k.i ∧ k.m = 0x02 then
    if structLegal v.v then acceptStage k ⟨v.len, field v.v 7 0⟩ s else (.range, s)
  else acceptStage k v s

/-! ## Meanings -/

/-- HL_RATE write (R165, R166, R168, R195). -/
def execHlRateWrite (rq : Rq) (l : Fin 64) (val : Val) (s : State) : Out :=
  .next (serveWrite acceptLane rq (Obj.HL_RATE l) val s)

/-- HL_TX_TIMING write (R167, R187). -/
def execHlTxTimingWrite (rq : Rq) (l : Fin 64) (val : Val) (s : State) : Out :=
  .next (serveWrite acceptLane rq (Obj.HL_TX_TIMING l) val s)

/-- HL_PRBS_CFG write (R170, R195). -/
def execHlPrbsCfgWrite (rq : Rq) (l : Fin 64) (val : Val) (s : State) : Out :=
  .next (serveWrite acceptLane rq (Obj.HL_PRBS_CFG l) val s)

/-- LANE_LOCKED (R168). -/
def execLaneLocked (l : Fin 64) (s : State) : Out :=
  if s.obj (Obj.HL_STATE l) = 1 then .next (s.setLane l 2) else .next s

/-- LANE_LOSS_OF_LOCK (R168, R171). -/
def execLaneLossOfLock (l : Fin 64) (s : State) : Out :=
  if s.obj (Obj.HL_STATE l) = 2 then .next (s.setLane l 1) else .next s

/-- LANE_LOS_DECLARE (R169, R171): below 50 mV for 0.5 µs. -/
def execLaneLosDeclare (l : Fin 64) (amplitude ns : Nat) (s : State) : Out :=
  if s.obj (Obj.HL_STATE l) ≠ 0 ∧ amplitude < 50 ∧ 500 ≤ ns then
    .next (((s.declare Df.laneLos l).followLane l).refreshLaneClient l)
  else .next s

/-- LANE_LOS_CLEAR (R169): 8 ticks above 80 mV. -/
def execLaneLosClear (l : Fin 64) (amplitude ticks : Nat) (s : State) : Out :=
  if 80 < amplitude ∧ 8 ≤ ticks then .next ((s.clear Df.laneLos l).refreshLaneClient l) else .next s

/-- CLI_TYPE write (R172, R195). -/
def execCliTypeWrite (rq : Rq) (l : Fin 64) (val : Val) (set : LaneSet) (s : State) : Out :=
  .next (serveWrite (acceptClient set) rq (Obj.CLI_TYPE l) val s)

/-- CLI_FORM write (R174, R195). -/
def execCliFormWrite (rq : Rq) (l : Fin 64) (val : Val) (s : State) : Out :=
  .next (serveWrite (acceptClient {}) rq (Obj.CLI_FORM l) val s)

/-- FLEXE_CAL_SWITCH (R176): the exchange with the far end has ended on a calendar. -/
def execFlexeCalSwitch (g : Fin 8) (calendar : Fin 2) (s : State) : Out :=
  if s.obj (Obj.FXE_CAL_ACTIVE g) ≠ calendar then
    .next ((s.setObj (Obj.FXE_CAL_ACTIVE g) calendar).raise Ev.FLEXE_CAL [0x100 + g, g, calendar])
  else .next s

/-- CLIENT_PCS_LOCK_CHANGE (R172, R178, R184): each defect for the kinds of client its row names. -/
def execClientPcsLockChange (l : Fin 64) (p : PcsState) (s : State) : Out :=
  let c := s.client l
  let type := s.clientType l
  if c.lanes = [] then .next s
  else
    let t := { s with clients := Map.set {} s.clients (Key.unit l) { c with pcs := p.locked } }
    let eth := isEthernet type
    let u := (((t.setDefect Df.lobl l (eth && !p.blockLock)).setDefect Df.loaml l ((eth || decide (type = 17)) && !p.alignment)).setDefect
      Df.hiBer l (eth && p.hiBer)).setDefect Df.cliLof l ((isStm type || isOtu type || decide (type = 17)) && !p.frame)
    .next ((u.setDefect Df.cliLom l (isOtu type && !p.multiframe)).refreshClient l)

end Sys2Proof.Machine
end

