-- ==== Sys2Proof/Machine/Containers.lean ====
section
/-! DEFINITION. The form, container and rate of an endpoint, the size a connection needs, and which endpoints exist (R173 to R183,
R188, R190, R216, R218, R222, R223). -/

namespace Sys2Proof.Machine

/-- What an endpoint carries: its form (0 native, 1 ODU, 2 VC, 9 any), its container (0 any), and the container's greatest rate in
bit/s as a fraction, and its nominal rate. -/
structure Container where
  form : Nat
  id : Nat
  num : Nat
  den : Nat
  nominal : Nat
  deriving DecidableEq, Repr

/-- A nominal rate in bit/s with its tolerance in ppm. -/
def rated (form id nominal ppm : Nat) : Container := ⟨form, id, nominal * (1000000 + ppm), 1000000, nominal⟩

/-- An ODUflex that carries a stream 239/238 times as fast. -/
def flexed (id nominal ppm : Nat) : Container := ⟨1, id, nominal * (1000000 + ppm) * 239, 238000000, nominal * 239 / 238⟩

/-- An ODU of open kind, at the rate of an ODUk that its number of slots suggests. -/
def openOdu (nominal ppm : Nat) : Container := { rated 1 0 nominal ppm with nominal := 0 }

/-- An ODU in `n` tributary slots of 5 Gb/s, at the least rate of what takes n of them: the ODU0, ODU2 or ODU4 of R174 in 1, 2 or 20 slots, else an
ODUflex at 5.2 Gb/s per slot ±100 ppm, as the worked resize of chapter 6 has it (R142, R216; PRESUMED, log entry 163). -/
def slotsOdu (n : Nat) : Container :=
  match n with
  | 1 => openOdu 1244160000 20
  | 2 => openOdu 10037274000 20
  | 20 => openOdu 104794446000 20
  | n => openOdu (n * 5200000000) 100

/-- An ODU in `n` of the 80 slots of ODTU4.ts of a demultiplexed ODU4 (R183): the ODU0, ODU1 or ODU2 of R174 in 1, 2 or 8 slots, else an ODUflex at
1.25 Gb/s per slot (PRESUMED from G.709: log entry 163). -/
def lowSlotsOdu (n : Nat) : Container :=
  match n with
  | 1 => openOdu 1244160000 20
  | 2 => openOdu 2498775000 20
  | 8 => openOdu 10037274000 20
  | n => openOdu (n * 1250000000) 100

def anyOdu : Container := ⟨1, 0, 0, 1, 0⟩
def anyForm : Container := ⟨9, 0, 0, 1, 0⟩

/-- The native stream of a client type (R173). -/
def nativeStream (type : Nat) : Option Container :=
  match type with
  | 1 => some (rated 0 1 1250000000 100)
  | 2 => some (rated 0 2 10312500000 100)
  | 3 => some (rated 0 3 25781250000 100)
  | 4 | 5 | 6 => some (rated 0 4 103125000000 100)
  | 7 | 8 | 9 => some (rated 0 7 401562500000 100)
  | 10 | 11 => some (rated 0 10 803125000000 100)
  | 12 => some (rated 0 12 1606250000000 100)
  | 13 => some (rated 0 13 2488320000 20)
  | 14 => some (rated 0 14 9953280000 20)
  | _ => none

/-- The Ethernet client that an engine in a Z mode carries (R149): the line endpoint with no slots names it (log entry 164). -/
def zClient (m : Nat) : Option Container := nativeStream (if m = 16 then 10 else 7)

/-- ODUflex(IMP) of a stream of `n` slots of 5.15625 Gb/s (R174). -/
def impContainer (n : Nat) : Container := flexed (1000 + n) (n * 5156250000) 100

/-- The rate that secure mapping gives a container built by BMP (R319). -/
def Container.secured (c : Container) : Container := { c with num := c.num * 952, den := c.den * 951, nominal := c.nominal * 952 / 951 }

/-- Payload bytes of an ODU frame that secure mapping leaves to the client (R319): all but the 16 fixed-stuff bytes, and for 100GE the 15,192 that
the ODU4 keeps, of whose 16 bytes the mapping stuffs 8 already (log entry 217). -/
def securePayload (type : Nat) : Nat := if type = 4 ∨ type = 5 ∨ type = 6 then 15192 else 15216

/-- Client types whose ODU container is built by BMP (R174). -/
def bmpClient (type : Nat) : Bool := [2, 7, 8, 9, 13, 14].contains type

/-- The ODU container of a client type under standard mapping (R174). -/
def standardOdu (type : Nat) : Option Container :=
  match type with
  | 1 => some (rated 1 31 1244160000 20)
  | 13 => some (rated 1 32 2498775000 20)
  | 14 | 15 => some (rated 1 33 10037274000 20)
  | 2 => some (rated 1 34 10399525000 100)
  | 4 | 5 | 6 | 16 => some (rated 1 35 104794446000 20)
  | 3 => some (flexed 36 25781250000 100)
  | 7 | 8 | 9 => some (flexed 37 401562500000 100)
  | 10 | 11 => some (impContainer 160)
  | 12 => some (impContainer 320)
  | 18 => some anyOdu
  | _ => none

/-- The ODU container of a client type under its SEC_MAP (R174, R319). -/
def oduContainer (type secMap : Nat) : Option Container :=
  if secMap = 1 ∧ bmpClient type then (standardOdu type).map Container.secured else standardOdu type

/-- The container of a VC level (R180). -/
def vcContainer (level : Nat) : Container :=
  match level with
  | 1 => rated 2 301 150336000 20
  | 2 => rated 2 302 48384000 20
  | _ => rated 2 303 2240000 20

/-- The least SIZE of a connection that carries a container (R216); that of an endpoint of any form or rate leaves room for one data word. -/
def Container.minSize (c : Container) (classM : Bool) : Nat :=
  if c.num = 0 then 2 else ceilDiv c.num (c.den * (if classM then 800000 else 25600000)) + 1

/-- Two endpoints of one form and container (R174, R223); an endpoint of any form or any container fits. -/
def Container.fits (a b : Container) : Bool :=
  (decide (a.form = b.form) || decide (a.form = 9) || decide (b.form = 9)) &&
    (decide (a.id = 0) || decide (b.id = 0) || decide (a.id = b.id))

/-- Whether a structure word places a VC (R179): its level and its TUG-3, TUG-2 and TU-12. -/
def vcPlaced (v level tug3 tug2 tu12 : Nat) : Bool :=
  let aug := field v 1 0
  let tug := field v (2 * tug3 + 3) (2 * tug3 + 2)
  match level with
  | 1 => decide (aug = 0)
  | 2 => (decide (aug = 1) || decide (aug = 2)) && decide (tug3 < 3) && decide (tug = 0)
  | 3 => (decide (aug = 1) || decide (aug = 2)) && decide (tug3 < 3) && decide (tug = 1) && decide (tug2 < 7) && decide (tu12 < 3)
  | _ => false

/-- AUG-1s of an STM-N type. -/
def augCount (type : Nat) : Nat := if type = 13 then 16 else if type = 14 then 64 else 0

/-- Calendar entries of a FlexE group that name a client, in one calendar of the shadow set. -/
def State.calendarSlots (s : State) (g client : Nat) (b : Bool) : Nat :=
  (List.range 320).countP fun x =>
    decide (s.shadowed (if b then Obj.FXE_CAL_B g x else Obj.FXE_CAL_A g x) = client)

/-- Slots of a FlexE client: those of the calendar in use, else of the other. -/
def State.flexSlots (s : State) (g client : Nat) : Nat :=
  let active := decide (s.obj (Obj.FXE_CAL_ACTIVE g) = 1)
  let n := s.calendarSlots g client active
  if n = 0 then s.calendarSlots g client (!active) else n

/-- The FlexE PHYs of a group, by first lane. -/
def State.physOf (s : State) (g : Nat) : List Nat :=
  (s.clients.map (·.1.i)).filter fun l => decide (s.clientType l = 17) && decide (s.obj (Obj.CLI_FLEXE_GROUP l) = g)

/-- The kind of a FlexE PHY, in 100 Gb/s (R176). -/
def State.phyKind (s : State) (l : Nat) : Nat :=
  let x := ((s.client l).lanes.length, (s.client l).rate)
  if [(4, 6), (2, 8), (1, 9)].contains x then 1 else if [(4, 8), (2, 9), (1, 10)].contains x then 2 else 4

/-- A group of 1 to 8 PHYs of one kind that carries no more than 320 calendar slots, 20 for each 100 Gb/s (R176). DESIGN CHOICE (log entry 173): a
group that is not such a group carries no FlexE client. -/
def State.flexLegal (s : State) (g : Nat) : Bool :=
  match s.physOf g with
  | [] => false
  | p :: ps => decide (ps.length < 8) && ps.all (fun q => decide (s.phyKind q = s.phyKind p)) && decide ((ps.length + 1) * s.phyKind p * 20 ≤ 320)

/-- Data cells per tick of an expansion lane (R190). -/
def dataCells (rate : Nat) : Nat :=
  match rate with
  | 8 => 58 | 9 => 117 | 10 => 236 | _ => 0

/-- Tributary slots that a host OTU client offers (R183). -/
def State.hostSlots (s : State) (l : Nat) : Nat :=
  if s.clientType l = 16 then 80 else if s.clientType l = 18 then 20 * ((s.client l).lanes.length / 4) else 0

/-- What an endpoint of types 1 to 7 carries, where it exists in the role (R218). -/
def State.endpoint (s : State) (source : Bool) (w size : Nat) : Option Container :=
  let l := epLane w
  let type := s.clientType l
  match epType w with
  | 1 => if s.oduForm l then oduContainer type (s.obj (Obj.SEC_MAP l)) else nativeStream type
  | 2 =>
    if isStm type ∧ field w 19 14 < augCount type ∧
        vcPlaced (s.obj (Obj.CLI_SDH_STRUCT l (field w 19 14))) (field w 21 20) (field w 13 12) (field w 11 9) (field w 8 7) then
      some (vcContainer (field w 21 20)) else none
  | 3 =>
    if 0 < epLoCount w ∧ 0 < s.hostSlots l then some (if type = 18 then slotsOdu (epLoCount w) else lowSlotsOdu (epLoCount w)) else none
  | 4 =>
    if modeZ (s.mode (epEngine w)) then (if epSlotFirst w = 0 ∧ epSlotCount w = 0 then zClient (s.mode (epEngine w)) else none)
    else if 0 < epSlotCount w then some (slotsOdu (epSlotCount w)) else none
  | 5 =>
    let vt := s.obj (Obj.VS_TYPE (epPort w))
    let level := field w 21 20
    if vt = 0 then none
    else if level = 0 then (if source then oduContainer vt (s.obj (Obj.SEC_MAP (64 + epPort w))) else none)
    else if ¬ source ∧ field w 19 14 < augCount vt ∧
        vcPlaced (s.obj (Obj.VS_STRUCT (epPort w) (field w 19 14))) level (field w 13 12) (field w 11 9) (field w 8 7) then
      some (vcContainer level) else none
  | 6 =>
    let g := epFlexGroup w
    let n := s.flexSlots g (field w 15 0)
    match s.physOf g with
    | [] => none
    | p :: _ => if n = 0 ∨ s.flexLegal g = false then none else some (if s.oduForm p then impContainer n else rated 0 (5000 + n) (n * 5156250000) 100)
  | 7 =>
    let c := s.client l
    if type = 19 ∧ epLinkFirst w + size ≤ c.lanes.length * dataCells c.rate * 32 then some anyForm else none
  | _ => none

/-- Whether a structure word has the pointer of an AU or TU (R179): AU-4 over a VC-4 or three TUG-3, AU-3 over a VC-3 or seven TUG-2, TU-3, TU-12. -/
def pointerPlaced (v level tug3 tug2 tu12 : Nat) : Bool :=
  let aug := field v 1 0
  match level with
  | 1 => decide (aug ≤ 1)
  | 2 => vcPlaced v 2 tug3 tug2 tu12 || (decide (aug = 2) && decide (tug3 < 3))
  | _ => vcPlaced v level tug3 tug2 tu12

/-- Pointers of an AU or TU of a host client are interpreted (R179): an STM-N client in ODU form, or one with VC connections, whose structure has
the pointer. -/
def State.pointerRead (s : State) (w : Nat) : Bool :=
  let l := epLane w
  let type := s.clientType l
  decide (epType w = 2) && isStm type && decide (field w 19 14 < augCount type) &&
    pointerPlaced (s.obj (Obj.CLI_SDH_STRUCT l (field w 19 14))) (field w 21 20) (field w 13 12) (field w 11 9) (field w 8 7) &&
    (s.oduForm l || (connsOf s.act).any fun p => (p.2.dst :: sourcesOf s.act p.2).any fun v => decide (epType v = 2) && decide (epLane v = l))

/-- A structure commits: pointers that are no longer interpreted lose their defects. -/
def State.dropPointers (s : State) (f : Nat) : State :=
  (s.defects.filter fun e => decide (e.1.c = Df.lop ∨ e.1.c = Df.ptrAis) && decide (epType e.1.i = 2) && decide (epLane e.1.i = f) &&
    !s.pointerRead e.1.i).foldl (fun t e => t.clear e.1.c e.1.i) s

/-- The bits of an endpoint word that place a VC of its level (R179, R218): a VC-4 takes its AUG-1, a VC-3 also its TUG-3 or AU-3, a VC-12 all. -/
def vcMask (w : Nat) : Nat :=
  match field w 21 20 with
  | 1 => 0x003FC000
  | 2 => 0x003FF000
  | _ => 0x003FFF80

/-- The part of an endpoint word that names the endpoint (R218): one VC has one name, whatever the bits that its level does not use hold. -/
def epName (w : Nat) : Nat :=
  match epType w with
  | 1 => Nat.land w 0xFFC00000
  | 2 => Nat.land w (0xFFC00000 + vcMask w)
  | 3 | 4 => w
  | 5 => if field w 21 20 = 0 then Nat.land w 0xFF000000 else Nat.land w (0xFF000000 + vcMask w)
  | 6 => Nat.land w 0xFE00FFFF
  | 7 => Nat.land w 0xFFCFFFFF
  | 11 => Nat.land w 0xF000000F
  | _ => w

/-- The TPN rule of R219 for one endpoint. -/
def tpnFits (w tpn : Nat) : Bool := if epType w = 3 ∨ epType w = 4 then decide (tpn ≠ 0) else decide (tpn = 0)

/-- Two runs of link positions on one expansion link that have a position in common (R188, R223). -/
def linkClash (w size v size' : Nat) : Bool :=
  decide (epType w = 7) && decide (epType v = 7) && decide (epLane w = epLane v) &&
    decide (epLinkFirst w < epLinkFirst v + size') && decide (epLinkFirst v < epLinkFirst w + size)

/-! ## Tributary slots (R142, R183, R264) -/

/-- The interval of slots an endpoint names, on its engine or its host client. -/
def epSlots (w : Nat) : Nat × Nat :=
  if epType w = 4 then (epSlotFirst w, epSlotCount w) else (epLoFirst w, epLoCount w)

/-- Slots the endpoint's carrier offers. -/
def State.slotsOffered (s : State) (w : Nat) : Nat :=
  if epType w = 4 then slotsOf (modeN (s.mode (epEngine w))) * (s.bond (epEngine w)).length else s.hostSlots (epLane w)

/-- Two endpoints on one carrier. -/
def State.sameCarrier (s : State) (a b : Nat) : Bool :=
  decide (epType a = epType b) && (if epType a = 4 then (s.bond (epEngine a)).contains (epEngine b) else decide (epLane a = epLane b))

def overlaps (a b : Nat × Nat) : Bool := decide (a.1 < b.1 + b.2) && decide (b.1 < a.1 + a.2)

/-- The slots an endpoint names lie within its carrier. -/
def State.slotsInside (s : State) (w : Nat) : Bool :=
  (decide (epType w ≠ 3) && decide (epType w ≠ 4)) || decide ((epSlots w).1 + (epSlots w).2 ≤ s.slotsOffered w)

/-- Another endpoint of the same role uses the slots. -/
def State.slotsClash (s : State) (w v : Nat) : Bool :=
  (decide (epType w = 3) || decide (epType w = 4)) && s.sameCarrier w v && overlaps (epSlots w) (epSlots v)

end Sys2Proof.Machine
end

