-- ==== Sys2Proof/Machine/Framing.lean ====
section
/-! DEFINITION. The L frame, the OTUC check, bonded groups, Fast Fault Flag reception and the overhead channels: the meanings of
chapter 04 from R138 on. -/

namespace Sys2Proof.Machine

/-! ## dLOF and its causes (R145, R147) -/

/-- dLOF is declared while either cause holds; the event names the cause. DESIGN CHOICE (log entry 165): 1 for the L frame and for the framing of
a Z mode, 2 for OTUC. -/
def State.refreshLof (s : State) (e cause : Nat) : State :=
  let r := s.engine e
  if r.lofFrame ∨ r.lofOtuc then
    if s.declared Df.lof e then s else (s.declare Df.lof e).raise Ev.LOF [e, cause]
  else s.clear Df.lof e

/-- At the end of a tick: dLOF from the L frame while a locked receiver's deframer is not in SYNC (R145). -/
def State.endTickLof (s : State) (e : Nat) : State :=
  if s.rxLocked e ∧ modeL (s.mode e) ∧ s.obj (Obj.FRM_STATE e) ≠ 2 then
    (s.withEngine e fun r => { r with lofFrame := true }).refreshLof e 1
  else s

/-! ## Fast Fault Flag (R142, R153, R155) -/

/-- A copy of a connection lies in a slot that a bitmap of its engine, or of a member of its group, flags. -/
def State.copyInMap (s : State) (map : Nat → Nat) (n w : Nat) : Bool :=
  decide (epType w = 4) && (s.bond (epEngine w)).any fun i =>
    (s.localSlots i (s.wordInUse n 0 w)).any fun k => mapBit (map i) (slotBit k)

/-- dFFF of every connection with a copy from the engine follows the received bitmaps of all its copies and their previous refreshes (R155). -/
def State.refreshFff (s : State) (e : Nat) : State :=
  (connsOf s.act).foldl (fun t p =>
    let copies := sourcesOf s.act p.2
    if ¬ copies.any (s.onEngine e) then t
    else if copies.any (s.copyInMap (fun i => s.obj (Obj.OH_FFF_RX_MAP i)) p.1) then t.declare Df.fff p.1
    else if copies.any (s.copyInMap (fun i => (s.engine i).fffBefore) p.1) then t
    else t.clear Df.fff p.1) s

/-- Where reception is switched off, no segment is held and none flags a connection (R155, log entry 162). -/
def State.commitFffRx (s : State) (e : Nat) : State :=
  if s.obj (Obj.OH_FFF_RX_ENABLE e) = 1 then s
  else ((s.setObj (Obj.OH_FFF_RX_MAP e) 0).withEngine e fun r => { r with fffBefore := 0 }).refreshFff e

/-- A received FFF segment (R155). -/
def State.receiveFff (s : State) (e idx seg : Nat) : State :=
  if s.obj (Obj.OH_FFF_RX_ENABLE e) = 1 ∧ idx < fffSegments (modeN (s.mode e)) then
    let old := s.obj (Obj.OH_FFF_RX_MAP e)
    let t := s.withEngine e fun r => { r with fffBefore := withBytes 80 r.fffBefore (8 * idx) 8 (bytesOf 80 old (8 * idx) 8) }
    (t.setObj (Obj.OH_FFF_RX_MAP e) (withBytes 80 old (8 * idx) 8 seg)).refreshFff e
  else s

/-! ## The L frame (R139, R143 to R146) -/

/-- dLOA of an engine's group is declared (R151), and the group is no longer locked (R46, R47). DESIGN CHOICE (log entry 165): the Group field of
EV_LOA is the group's monitored point, 5 to 7. -/
def State.declareLoa (s : State) (e spread : Nat) : State :=
  let g := s.bond e
  let p := bondPoint g
  let t := if s.declared Df.loa p then s else (s.declare Df.loa p).raise Ev.LOA [e, p, spread]
  g.foldl (fun u i => u.setObj Obj.TB_BOND_STATE (withBit (u.obj Obj.TB_BOND_STATE) i false)) t

/-- The place in the payload area where the next OTUCn-M frame is due, from the last frame start (R146). -/
def duePointer (m c : Nat) (since : Option Nat) : Nat :=
  match since with
  | some n =>
    let d := (otucBytes m - n % otucBytes m) % otucBytes m
    if d < c then gmpPlace c (payloadArea m) d else noPointer
  | none => noPointer

/-- C, pointer and payload of an L frame (R141, R146, R147): a frame whose CRC fails, or whose C exceeds the payload area (log entry 166), keeps
the previous C; one whose CRC fails has its pointer predicted. -/
def State.readPayload (s : State) (e : Nat) (f : LFrame) : State :=
  let m := s.mode e
  let p := payloadArea m
  s.withEngine e fun r =>
    let c := if f.crcOk ∧ f.c ≤ p then f.c else r.prevC
    let ptr := if f.crcOk then f.ptr else duePointer m c r.otucSince
    let d := gmpBefore c p ptr
    { r with
      prevC := c, prevPtr := ptr, otuc := gmpTake c p f.area
      otucSince := if ptr < p then some (c - d) else r.otucSince.map (· + c)
      otucPtrOk := if ptr < p then (match r.otucSince with
        | some n => decide (n + d = otucBytes m)
        | none => true) else r.otucPtrOk }

/-- The point of an OTUC instance, numbered from 0, of an engine's group (R275). -/
def State.otucPoint (s : State) (e a : Nat) : Nat := 128 + 128 * ((s.bond e).headD e) + a

/-- No OTUC defect of the engine's OTUCn-M stands while it receives the idle pattern (R143). -/
def State.clearOtuc (s : State) (e : Nat) : State :=
  let t := (s.withEngine e fun r => { r with
    lofOtuc := false, otucBad := 0, otucGood := 0, otucSince := none, otucPtrOk := true, prevMfas := none, sections := [] }).clear Df.lom e
  ((List.range 128).foldl (fun u a => [Df.smTim, Df.smDeg, Df.smBdi, Df.smIae].foldl (fun u d => u.clear d (s.otucPoint e a)) u) t).refreshLof e 2

/-- The overhead of an L frame at the expected position (R139, R141, R143, R146). -/
def State.frameOverhead (s : State) (e : Nat) (f : LFrame) : State :=
  let r := s.readPayload e f
  if f.crcOk then
    let t := r.withEngine e fun x => { x with idleSeen := f.idle }
    let u := if f.idle then t.clearOtuc e else t
    let g := s.bond e
    let v := if 1 < g.length ∧ ¬ f.idle ∧ ¬ (f.bond = true ∧ f.member = g.idxOf e) then u.declareLoa e 0 else u
    v.receiveFff e f.fffIdx f.fffSeg
  else r.bump (Obj.FRM_CRC_ERR_COUNT e)

/-- HUNT: an exact FAS is a candidate (R144). -/
def State.huntFrame (s : State) (e : Nat) (f : LFrame) : State :=
  if f.fasErrors = 0 ∧ (s.engine e).huntFrom ≤ f.pos then
    (s.setObj (Obj.FRM_STATE e) 1).withEngine e fun r => { r with frameCandidate := some f.pos, buffered := [] }
  else s

/-- PRESYNC at the place where the candidate must recur: SYNC, or a false candidate, after which HUNT goes on over the buffered data behind it
(R144, R145). -/
def State.presyncFrame (s : State) (e : Nat) (f : LFrame) : State :=
  let candidate := f.pos - frameBits (s.mode e)
  if f.fasErrors ≤ 3 then
    let t := (s.setObj (Obj.FRM_STATE e) 2).withEngine e fun r => { r with
      frameCandidate := none, buffered := [], fasMisses := 0, frameDue := some (f.pos + frameBits (s.mode e)), lofFrame := false }
    (t.refreshLof e 1).frameOverhead e f
  else
    let t := s.bump (Obj.FRM_FALSE_CAND_COUNT e)
    match (s.engine e).buffered.filter fun g => decide (candidate < g.pos) with
    | g :: rest => t.withEngine e fun r => { r with frameCandidate := some g.pos, buffered := rest }
    | [] => (t.setObj (Obj.FRM_STATE e) 0).withEngine e fun r => { r with
        frameCandidate := none, buffered := [], huntFrom := candidate + 1 }

/-- SYNC at the expected position: the fifth miss in a row loses the frame (R144, R145). -/
def State.syncFrame (s : State) (e : Nat) (f : LFrame) : State :=
  let next := some (f.pos + frameBits (s.mode e))
  if f.fasErrors ≤ 3 then (s.withEngine e fun r => { r with fasMisses := 0, frameDue := next }).frameOverhead e f
  else if (s.engine e).fasMisses + 1 < 5 then
    (s.withEngine e fun r => { r with fasMisses := r.fasMisses + 1, frameDue := next }).frameOverhead e f
  else
    let t := (s.setObj (Obj.FRM_STATE e) 0).withEngine e fun r => { r with
      fasMisses := 0, lofFrame := true, frameDue := none, huntFrom := f.pos + 48 }
    (t.bump (Obj.FRM_LOF_COUNT e)).refreshLof e 1

/-- L_FRAME_RECEIVE (R143 to R146, R155). -/
def execLFrameReceive (e : Fin 4) (f : LFrame) (s : State) : Out :=
  if s.rxLocked e ∧ modeL (s.mode e) then
    let st := s.obj (Obj.FRM_STATE e)
    if st = 0 then .next (s.huntFrame e f)
    else if st = 1 then
      if (s.engine e).frameCandidate = some (f.pos - frameBits (s.mode e)) ∧ frameBits (s.mode e) ≤ f.pos then .next (s.presyncFrame e f)
      else if f.fasErrors = 0 then .next (s.withEngine e fun r => { r with buffered := r.buffered ++ [f] })
      else .next s
    else if (s.engine e).frameDue.getD f.pos = f.pos then .next (s.syncFrame e f)
    else .next s
  else .next s

/-! ## OTUC frames (R147, R148) -/

/-- Section monitoring of an OTUC instance (R148). PRESUMED (G.798, log entry 167): BDI and IAE change after 5 frames in a row that differ; the
accepted TTI is compared whole; dDEG follows DEG_M bad or good seconds in a row. The violations go back as BEI, and a misaligned frame as BIAE. -/
def State.setSection (s : State) (e : Nat) (x : SmState) : State :=
  let p := s.otucPoint e (x.inst - 1)
  let r := Map.get {} (s.engine e).sections (Key.unit x.inst)
  let bdi := s.declared Df.smBdi p
  let iae := s.declared Df.smIae p
  let bdiRun := if x.bdi = bdi then 0 else r.bdi + 1
  let iaeRun := if x.iae = iae then 0 else r.iae + 1
  let reached := fun (n : Nat) => decide (s.obj (Obj.FRM_SM_DEG_THR e) ≤ n)
  let bad := match x.second with
    | some n => if reached n then r.bad + 1 else 0
    | none => r.bad
  let good := match x.second with
    | some n => if reached n then 0 else r.good + 1
    | none => r.good
  let m := s.obj (Obj.FRM_SM_DEG_M e)
  let deg := if m ≤ bad then true else if m ≤ good then false else s.declared Df.smDeg p
  let run : SmRun := {
    bdi := if bdiRun = 5 then 0 else bdiRun, iae := if iaeRun = 5 then 0 else iaeRun, bad := bad, good := good, bei := x.bip, biae := x.iae }
  let t := s.withEngine e fun q => { q with sections := Map.set {} q.sections (Key.unit x.inst) run }
  (((t.setDefect Df.smTim p (decide (x.tti ≠ s.obj (Obj.FRM_SM_TTI_EXP e (x.inst - 1))))).setDefect Df.smDeg p deg).setDefect Df.smBdi p
    (if bdiRun = 5 then x.bdi else bdi)).setDefect Df.smIae p (if iaeRun = 5 then x.iae else iae)

/-- OTUC_FRAME_CHECK (R147, R148). -/
def execOtucFrameCheck (e : Fin 4) (f : OtucFrame) (s : State) : Out :=
  let r := s.engine e
  if s.rxLocked e ∧ modeL (s.mode e) ∧ s.obj (Obj.FRM_STATE e) = 2 ∧ ¬ r.idleSeen then
    let follows := match r.prevMfas with
      | none => true
      | some m => decide (f.mfas = (m + 1) % 256)
    let pass := f.fasOk && r.otucPtrOk && follows
    let bad := if pass then 0 else r.otucBad + 1
    let good := if pass then r.otucGood + 1 else 0
    let lof := if 5 ≤ bad then true else if 2 ≤ good then false else r.lofOtuc
    let t := s.withEngine e fun r => { r with otucBad := bad, otucGood := good, lofOtuc := lof, prevMfas := some f.mfas }
    let u := (if lof ∧ ¬ r.lofOtuc ∧ ¬ r.lofFrame then t.bump (Obj.FRM_LOF_COUNT e) else t).refreshLof e 2
    .next (f.sm.foldl (fun v x => v.setSection e x) (u.setDefect Df.lom e f.lom))
  else .next s

/-- AGREEMENT_FRAME_RECEIVE (R149): the framing defects of a Z mode, as the agreement declares them after its own delays. -/
def execAgreementFrameReceive (e : Fin 4) (lof alignment : Bool) (s : State) : Out :=
  if s.rxLocked e ∧ modeZ (s.mode e) then
    let t := s.withEngine e fun r => { r with lofFrame := lof, lofOtuc := false }
    .next ((t.refreshLof e 1).setDefect Df.lom e alignment)
  else .next s

/-! ## Bonded groups (R46, R151) -/

/-- Members of the three groups that R44 names. -/
def groupMembers (g : Fin 3) : List Nat := match g with
  | 0 => [0, 1]
  | 1 => [2, 3]
  | 2 => [0, 1, 2, 3]

/-- Frame period in ps (R138). -/
def framePeriod (m : Nat) : Nat := frameBits m * 1000 / (max 1 (match m with
  | 1 => 3200
  | 2 => 2400
  | 3 => 1600
  | 4 => 1200
  | 5 => 800
  | _ => 1))

/-- BOND_DESKEW (R151): each member's arrival in ps, and whether member index and OTUC numbering agree with the positions. -/
def execBondDeskew (group : Fin 3) (offsets : List Nat) (numbered : Bool) (s : State) : Out :=
  let g := groupMembers group
  let first := g.headD 0
  let p := bondPoint g
  if s.bond first = g ∧ (g.all fun e => s.rxLocked e && decide (s.obj (Obj.FRM_STATE e) = 2)) = true then
    let earliest := offsets.foldl min (offsets.headD 0)
    let spread := offsets.foldl max 0 - earliest
    let t := (g.zip offsets).foldl (fun t q => t.setObj (Obj.FRM_DESKEW q.1) (q.2 - earliest)) s
    let aligned := g.all fun e => bit (s.obj Obj.TB_BOND_STATE) e
    let before := Map.get 0 s.bondSpread (Key.unit p)
    if 20000000 < spread ∨ ¬ numbered ∨
        (aligned = true ∧ framePeriod (s.mode first) < (spread - before) + (before - spread)) then
      .next (t.declareLoa first spread)
    else
      let u := g.foldl (fun u i => u.setObj Obj.TB_BOND_STATE (withBit (u.obj Obj.TB_BOND_STATE) i true)) t
      .next { u.clear Df.loa p with bondSpread := Map.set 0 u.bondSpread (Key.unit p) spread }
  else .next s

/-! ## Overhead channels (R157 to R159) -/

/-- Bytes of an OHP frame at an OHP_CLK code (R158). -/
def ohpBytes (clk : Nat) : Nat := match clk with
  | 1 => 3
  | 2 => 7
  | 3 => 15
  | 4 => 31
  | _ => 0

/-- The rate in bit/s of the ODU that a connection carries: its container's, or where the endpoints leave that open what its tributary slots
can carry at 5.240886 Gb/s each (R138, R174). -/
def State.oduRate (s : State) (c : Conn) : Nat :=
  let of := fun (source : Bool) (w : Nat) => ((s.endpoint source w c.size).map (·.nominal)).getD 0
  let slots := fun (w : Nat) => if epType w = 3 ∨ epType w = 4 then (epSlots w).2 * 5240886000 else 0
  let w := (sourcesOf s.act c).headD 0
  if of true w ≠ 0 then of true w else if of false c.dst ≠ 0 then of false c.dst else max (slots w) (slots c.dst)

/-- Bytes per tick a route needs on its port: 1 + ceil of the channel's bytes in a tick (R159). GCC1 and GCC2 carry 2 bytes in each
ODU frame of 15,296 bytes. -/
def State.routeBytes (s : State) (v : Nat) : Nat :=
  if routeKind v = 0 then 4
  else 1 + max 1 (ceilDiv (s.oduRate (connAt s.act (field v 18 0)) * 10) (15296 * 8 * 4000000))

/-- Bytes per frame that the enabled routes of a port take. -/
def State.portLoad (s : State) (routes : List Nat) (p : Nat) : Nat :=
  ((routes.filter fun v => routeOn v && decide (routeDest v = p)).map s.routeBytes).sum

/-- Writes of class 0x13 (R157, R159). -/
def acceptFraming : Accept := fun k v s =>
  if k.i = 0xFF ∧ k.m = 0x01 then
    let w := Nat.land v.v 0xFFF7FFFF
    let routes := w :: ((List.range 64).filter (· ≠ k.x)).map fun x => s.latest (Obj.OH_GCC_ROUTE x)
    if routeOn w ∧ (routeKind w = 3 ∨ 4 < routeDest w ∨ routeChannel w = 15 ∨ (routeKind w = 0 ∧ 127 < field w 18 0)) then (.range, s)
    else if routeOn w ∧ routeDest w < 4 ∧ ohpBytes (s.latest (Obj.OHP_CLK (routeDest w))) < s.portLoad routes (routeDest w) then (.range, s)
    else (.ok, s.stage k w)
  else acceptStage k v s

/-- OH_GCC_ROUTE write (R157, R159). -/
def execOhGccRouteWrite (rq : Rq) (index : Nat) (val : Val) (s : State) : Out :=
  .next (serveWrite acceptFraming rq (Obj.OH_GCC_ROUTE index) val s)

/-- Put bytes into a 64-byte buffer of a route; what does not fit is dropped and counted, and reported once per epoch (R159). DESIGN CHOICE (log
entry 165): the direction in EV_GCC_OVERFLOW is 0 from the line and 1 toward it. -/
def State.gccPush (s : State) (port route direction : Nat) (bytes : List Nat) : State :=
  let buf := Map.get [] (if direction = 0 then s.gccOut else s.gccIn) (Key.unit route)
  let kept := (buf ++ bytes).take 64
  let lost := (buf ++ bytes).length - kept.length
  let t := if direction = 0 then { s with gccOut := Map.set [] s.gccOut (Key.unit route) kept }
    else { s with gccIn := Map.set [] s.gccIn (Key.unit route) kept }
  if lost = 0 then t
  else
    let u := t.bump (Obj.OH_GCC_DROP route) lost
    if Map.get 0 u.gccEpoch (Key.unit route) = u.epoch + 1 then u
    else { u.raise Ev.GCC_OVERFLOW [port, route, direction] with gccEpoch := Map.set 0 u.gccEpoch (Key.unit route) (u.epoch + 1) }

/-- The enabled routes to a port, or to the management complex (4), by index; an engine in a Z mode provides no GCC (R149, R157). -/
def State.portRoutes (s : State) (p : Nat) : List Nat :=
  (List.range 64).filter fun x => let v := s.obj (Obj.OH_GCC_ROUTE x)
    routeOn v && decide (routeDest v = p) && !modeZ (s.mode (field v 28 27))

/-- What a channel receives from the line goes into its route's buffer. -/
def State.routeLine (s : State) (port : Nat) (b : GccBytes) : State := s.gccPush port b.route 0 b.bytes

/-- Records for the port: one per route with bytes waiting, up to 15 bytes, while the frame has room (R158). DESIGN CHOICE (log entry 209): the routes
go by index, one record of each in a frame, and a route's record takes as much as the frame still holds. -/
def State.ohpFill (s : State) (room : Nat) : List Nat → State × List Nat
  | [] => (s, [])
  | x :: xs =>
    let buf := Map.get [] s.gccOut (Key.unit x)
    let n := min (min buf.length 15) (room - 1)
    if n = 0 then s.ohpFill room xs
    else
      let head := routeChannel (s.obj (Obj.OH_GCC_ROUTE x)) * 16 + n
      let t := { s with gccOut := Map.set [] s.gccOut (Key.unit x) (buf.drop n) }
      let (u, rest) := t.ohpFill (room - n - 1) xs
      (u, head :: buf.take n ++ rest)

/-- OHP_FRAME (R158, R159): one tick of a port, with the records the board sends and what the routed channels did on the line; the records that
the port sends are followed by idle bytes to the end of the frame. -/
def execOhpFrame (port : Fin 4) (records : List OhpRecord) (received : List GccBytes) (s : State) : Out :=
  let room := ohpBytes (s.obj (Obj.OHP_CLK port))
  if s.obj (Obj.OHP_CLK port) = 0 then .next s
  else
    let routes := s.portRoutes port
    let t := (received.filter fun b => routes.contains b.route).foldl (fun t b => t.routeLine port b) s
    let u := records.foldl (fun u r =>
      match routes.find? fun x => decide (routeChannel (s.obj (Obj.OH_GCC_ROUTE x)) = r.channel) with
      | some x => u.gccPush port x 1 r.bytes
      | none => u) t
    let (v, bytes) := u.ohpFill room routes
    .next { v with ohpSent := Map.set [] v.ohpSent (Key.unit port) (bytes ++ List.replicate (room - bytes.length) 0xFF) }

/-- The management complex takes what its channels' buffers hold, and the line fills them again in each tick (R157, R159); its own messages leave
as the commands of chapter 09 give them. -/
def State.complexChannels (s : State) (xs : List GccBytes) : State :=
  let routes := s.portRoutes 4
  let t := routes.foldl (fun t x => { t with gccOut := Map.set [] t.gccOut (Key.unit x) [] }) s
  (xs.filter fun b => routes.contains b.route).foldl (fun t b => t.routeLine 4 b) t

end Sys2Proof.Machine
end

