-- ==== Sys2Proof/Machine/Compiler.lean ====
section
/-! DEFINITION. The Slot Compiler as a function of the shadow set (R210, R211, R216, R219 to R230, R233). -/

namespace Sys2Proof.Machine

/-! ## Occupancy of one side -/

/-- Positions of class W connections and micro-slots of class M connections that a set of placements holds on one side. -/
structure Occ where
  w : List Nat
  m : List Nat
  deriving DecidableEq, Repr

def Held.side (h : Held) (out : Bool) : List Nat := if out then h.out else h.inp

def occOf (held : Map Held) (out : Bool) : Occ where
  w := held.flatMap fun p => if p.2.classM then [] else (p.2.side out).map (· / 32)
  m := held.flatMap fun p => if p.2.classM then p.2.side out else []

def Occ.mPosition (o : Occ) (p : Nat) : Bool := o.m.any fun u => decide (u / 32 = p)

/-- A position that first-fit may take: free, no M-position, and on the input side in no lost slice (R226, R239). -/
def Occ.free (o : Occ) (out : Bool) (lost : List Nat) (p : Nat) : Bool :=
  !o.w.contains p && !o.mPosition p && (out || !lost.contains (p % 16))

/-- The first `need` positions from `p` on that satisfy `ok`. -/
def scanFree (ok : Nat → Bool) : Nat → Nat → Nat → List Nat
  | 0, _, _ => []
  | fuel + 1, p, need =>
    if need = 0 then [] else if ok p then p :: scanFree ok fuel (p + 1) (need - 1) else scanFree ok fuel (p + 1) need

def positionCount : Nat := 1000000

def takeFree (o : Occ) (out : Bool) (lost : List Nat) (start need : Nat) : Option (List Nat) :=
  let ps := scanFree (o.free out lost) (positionCount - start) start need
  if ps.length = need then some ps else none

/-! ## Placing one side: the micro-slots, or the reason of R228 -/

/-- First-fit of class W (R226). -/
def placeW (o : Occ) (out : Bool) (lost : List Nat) (size : Nat) : Except Nat (List Nat) :=
  match takeFree o out lost 0 size with
  | some ps => .ok (ps.map (32 * ·))
  | none => .error 2

/-- KEEP (R227): growth above the highest position held, shrinking from the highest data position. -/
def placeKeep (o : Occ) (out : Bool) (lost : List Nat) (size : Nat) (old : List Nat) : Except Nat (List Nat) :=
  if size ≤ old.length then
    let top := (sortNat old.tail).take (size - 1)
    .ok (old.filter fun u => decide (some u = old.head?) || top.contains u)
  else
    match takeFree o out lost (old.foldl max 0 / 32 + 1) (size - old.length) with
    | some ps => .ok (old ++ ps.map (32 * ·))
    | none => .error 2

/-- One micro-slot of a phase by the rule of class M (R226), given the connection's own micro-slots so far. -/
def placeOne (o : Occ) (out : Bool) (lost own : List Nat) (phase : Nat) : Option Nat :=
  let taken := o.m ++ own
  let ms := sortNat ((taken.map (· / 32)).dedup)
  match ms.find? fun p => !taken.contains (32 * p + phase) && decide ((own.filter fun u => u / 32 = p).length < 31) &&
      (out || !lost.contains (p % 16)) with
  | some p => some (32 * p + phase)
  | none => (takeFree { o with m := taken } out lost 0 1).bind fun ps => ps.head?.map fun p => 32 * p + phase

/-- The header and the data of a class M connection in the given phases, each list in the order of its words (R211). -/
def placeM (o : Occ) (out : Bool) (lost phases : List Nat) : Except Nat (List Nat) :=
  let slots := phases.foldl (fun own φ => own.bind fun us => (placeOne o out lost us φ).map fun u => us ++ [u]) (some [])
  match slots with
  | some (h :: data) => .ok (h :: sortBy (fun a b => decide (a % 32 < b % 32 ∨ (a % 32 = b % 32 ∧ a ≤ b))) data)
  | _ => .error 2

/-- The phases of a class M connection of K micro-slots under first-fit: the header's, then the data's (R226). -/
def phasesM (k : Nat) : List Nat := 0 :: (List.range (k - 1)).map fun i => (1 + 32 * i / (k - 1)) % 32

/-- The entries of a named list (R220). -/
def State.placeList (s : State) (first size : Nat) : Option (List Nat) :=
  if first + size ≤ 1048576 then some ((List.range size).map fun k => s.shadowed (Obj.PRISM_PLACE_LIST (first + k)) % 2 ^ 25) else none

/-- A named placement (R220, R228): in the order of its words. -/
def placeNamed (o : Occ) (out : Bool) (lost : List Nat) (classM : Bool) (us : List Nat) : Except Nat (List Nat) :=
  let sorted := us.headD 0 :: sortBy (fun a b =>
    if classM then decide (a % 32 < b % 32 ∨ (a % 32 = b % 32 ∧ a ≤ b)) else decide (a ≤ b)) us.tail
  if classM = true ∧ us.headD 0 % 32 ≠ 0 then .error 4
  else if classM = false ∧ us.any (fun u => decide (u % 32 ≠ 0)) = true then .error 4
  else if classM = true ∧ us.any (fun u => decide (31 < (us.filter fun v => v / 32 = u / 32).length)) = true then .error 1
  else if us.any (fun u => decide (positionCount ≤ u / 32)) = true ∨ ¬ us.Nodup then .error 3
  else if us.any (fun u => o.w.contains (u / 32) || (if classM then o.m.contains u else o.mPosition (u / 32))) = true then .error 3
  else if out = false ∧ us.any (fun u => lost.contains (u / 32 % 16)) = true then .error 5
  else .ok sorted

/-- Equal numbers of micro-slots in each phase (R211). -/
def samePhases (a b : List Nat) : Bool :=
  (List.range 32).all fun φ => decide ((a.filter fun u => u % 32 = φ).length = (b.filter fun u => u % 32 = φ).length)

/-- The phases that the output side of a class M connection takes, in the order in which it takes them (R226): those of first-fit where its input side
has them, else its input side's. -/
def outputPhases (source named : List Nat) (size : Nat) : List Nat :=
  if source = [] then named else if samePhases (phasesM size) source then phasesM size else source.map (· % 32)

/-! ## Placing one entry -/

/-- Both sides of an entry: a branch reads its root's inputs (R221), a generated source has none (R223). -/
def State.placeEntry (s : State) (held : Map Held) (lost : List Nat) (n : Nat) (c : Conn) (old : Held) : Except Nat Held := do
  let listIn ← if c.pinIn ∧ epType c.src ≠ 8 ∧ epType c.src ≠ 10 then
    (match s.placeList c.inList c.size with
      | some us => .ok (some us)
      | none => .error 8) else .ok none
  let listOut ← if c.pinOut then
    (match s.placeList c.outList c.size with
      | some us => .ok (some us)
      | none => .error 8) else .ok none
  let keep := c.keep && !old.classM
  let own := epType c.src ≠ 8 ∧ epType c.src ≠ 10
  let root := rootOf c n
  let oi := occOf held false
  let oo := occOf held true
  let kind := if epType c.src = 10 then field c.src 1 0 + 1 else 0
  let named := match listIn with
    | some us => us.map (· % 32)
    | none => match listOut with
      | some us => us.map (· % 32)
      | none => phasesM c.size
  let inp ← if own then
    (match listIn with
      | some us => placeNamed oi false lost c.classM us
      | none =>
        if c.classM then placeM oi false lost named
        else if keep ∧ old.inp ≠ [] then placeKeep oi false lost c.size old.inp
        else placeW oi false lost c.size) else .ok []
  let source := if own then inp else (Map.get {} held (Key.unit root)).inp
  let out ← match listOut with
    | some us => placeNamed oo true lost c.classM us
    | none =>
      if c.classM then placeM oo true lost (outputPhases source named c.size)
      else if keep ∧ old.out ≠ [] then placeKeep oo true lost c.size old.out
      else placeW oo true lost c.size
  if c.classM ∧ source ≠ [] ∧ ¬ samePhases source out then .error 4
  else .ok { classM := c.classM, root := root, kind := kind, inp := inp, out := out }

/-! ## Checks of one entry (R216, R219, R221 to R223, R228) -/

/-- The valid entries of the shadow. -/
def State.shadowConns (s : State) : List (Nat × Conn) := connsOf s.shd

/-- What the source of an entry carries; a branch carries what its root does, a protected source what both copies do. -/
def State.sourceOf (s : State) (c : Conn) : Option Container :=
  let direct := fun (w : Nat) (size : Nat) =>
    if epType w = 10 then (if field w 1 0 = 3 then none else some anyForm)
    else if epType w = 9 then
      let g := groupAt s.shd (epGroup w)
      if ¬ g.valid then none
      else match s.endpoint true g.working size with
        | none => none
        | some a =>
          if g.type = 5 then some a
          else match s.endpoint true g.protect size with
            | some b => if a.fits b then some (if a.id = 0 then b else a) else none
            | none => none
    else s.endpoint true w size
  if epType c.src = 8 then
    let r := connAt s.shd (epRoot c.src)
    if r.valid ∧ epType r.src ≠ 8 then direct r.src r.size else some anyForm
  else direct c.src c.size

def State.sinkOf (s : State) (c : Conn) : Option Container :=
  if epType c.dst = 11 then some anyForm
  else if epType c.dst = 0 ∨ 8 ≤ epType c.dst then none
  else s.endpoint false c.dst c.size

/-- Branches of a root among the valid entries. -/
def State.branchesOf (s : State) (n : Nat) : List Nat :=
  (s.shadowConns.filter fun p => decide (epType p.2.src = 8) && decide (epRoot p.2.src = n)).map (·.1)

/-- The endpoints an entry occupies as sources (R223). -/
def State.sourceWords (s : State) (c : Conn) : List Nat :=
  if epType c.src = 8 ∨ epType c.src = 10 then [] else sourcesOf s.shd c

/-- Slots that line changes still hold for other connections (R264, R268). -/
def State.changeHolds (s : State) (n side w : Nat) : Bool :=
  decide (epType w = 4) && s.shadow.changes.any fun p =>
    decide (p.2.conn ≠ n) && decide (p.2.side = side) && (s.bond (epEngine w)).contains p.1.i &&
      (overlaps (epSlots w) (p.2.oldFirst, p.2.oldCount) || overlaps (epSlots w) (p.2.newFirst, p.2.newCount))

/-- A client's ODU switched whole, and one of the lower-order ODUs into which it is demultiplexed (R183). -/
def wholeAndPart (a b : Nat) : Bool :=
  ((decide (epType a = 1) && decide (epType b = 3)) || (decide (epType a = 3) && decide (epType b = 1))) && decide (epLane a = epLane b)

/-- The SIZE is in the range of the class and at least what R216 gives for the container: that of the endpoint that names one, else the larger of what
both ends ask. -/
def sizeFits (c : Conn) (a b : Container) : Bool :=
  decide (2 ≤ c.size) && decide (c.size ≤ (if c.classM then 256 else 524288)) &&
    (decide (b.id ≠ 0 ∧ a.id = 0) || decide (a.minSize c.classM ≤ c.size)) && (decide (a.id ≠ 0 ∧ b.id = 0) || decide (b.minSize c.classM ≤ c.size))

/-- Two entries use one endpoint twice (R223): as sources, whole and in part, or in runs of link positions that overlap. -/
def State.endpointShared (s : State) (c d : Conn) : Bool :=
  let one := fun (w v : Nat) => decide (epName w = epName v) || wholeAndPart w v || linkClash w c.size v d.size
  (s.sourceWords c).any (fun w => (s.sourceWords d).any fun v => one w v) || one c.dst d.dst

/-- The reason of R228 that an entry meets before its placement, in the order of the codes ENDPOINT, BRANCH, SIZE, SLOTS (log
entry 20). -/
def State.entryFault (s : State) (n : Nat) (c : Conn) (others : List (Nat × Conn)) : Option Nat :=
  let srcs := s.sourceWords c
  match s.sourceOf c, s.sinkOf c with
  | some a, some b =>
    if ¬ a.fits b ∨ ¬ tpnFits c.dst c.dstTpn ∨ (srcs.any fun w => ! tpnFits w c.srcTpn) = true ∨
        (others.any fun q => decide (q.1 ≠ n) && s.endpointShared c q.2) = true then some 6
    else if epType c.src = 8 ∧ ¬ (let r := connAt s.shd (epRoot c.src)
        r.valid ∧ epType r.src ≠ 8 ∧ r.classM = c.classM ∧ r.size = c.size ∧ (s.branchesOf (epRoot c.src)).length ≤ 63) then some 7
    else if sizeFits c a b = false ∨ (c.classM = true ∧ c.keep = true) then some 1
    else if ¬ s.slotsInside c.dst ∨ (srcs.any fun w => !s.slotsInside w) = true ∨ s.changeHolds n 1 c.dst ∨
        (srcs.any fun w => s.changeHolds n 0 w) = true ∨
        (others.any fun q => decide (q.1 ≠ n) && (s.slotsClash c.dst q.2.dst ||
          (s.sourceWords q.2).any fun w => srcs.any fun v => s.slotsClash w v)) = true then some 9
    else none
  | _, _ => some 6

/-! ## Control-memory entries (R206, R230) -/

/-- An output micro-slot (a class W position p as 32p), its class, and the entry that governs it. -/
abbrev OutEntry := Nat × Bool × Nat

/-- The bits of an entry: V, KIND, HDR, SRC (R206). -/
def entryBits (kind : Nat) (hdr : Bool) (src : Nat) : Nat := 2 ^ 23 + kind * 2 ^ 21 + hdr.toNat * 2 ^ 20 + src

/-- The entries that a placement gives (R206, R211): a branch has the KIND and the inputs of its root as it now is (R221). -/
def heldEntries (held : Map Held) (h : Held) : List OutEntry :=
  let root := Map.get {} held (Key.unit h.root)
  let kind := root.kind
  (List.range h.out.length).map fun k =>
    (h.out.getD k 0, h.classM, entryBits kind (decide (k = 0)) (if kind = 0 then root.inp.getD k 0 / 32 else 0))

def allEntries (held : Map Held) : List OutEntry := held.flatMap fun p => heldEntries held p.2

def entryWeight (e : OutEntry) : Nat := if e.2.1 then 1 else 32

/-- The blocks an entry lies in: 245 × page + block (R209). -/
def entryBlocks (e : OutEntry) : List Nat :=
  let o := e.1 / 32
  if e.2.1 then [e.1 % 32 * 245 + o / 4096] else (List.range 32).map fun φ => φ * 245 + o / 4096

/-- Entries of `b` that `a` does not have. -/
def entriesNew (a b : List OutEntry) : List OutEntry := b.filter fun e => !a.contains e

/-- Output micro-slots of `a` that `b` leaves unused, or uses in the other class (R230). -/
def entriesGone (a b : List OutEntry) : List OutEntry := a.filter fun e => !b.any fun f => decide (f.1 = e.1) && f.2.1 == e.2.1

/-- The slice read limit of R233, for the pages that could reach it. -/
def sliceLimitHolds (es : List OutEntry) : Bool :=
  if es.length ≤ 150000 then true
  else (List.range 32).all fun φ => (List.range 16).all fun k =>
    decide ((es.filter fun e => (!e.2.1 || decide (e.1 % 32 = φ)) && decide (field e.2.2 22 21 = 0) &&
      decide (field e.2.2 19 0 % 16 = k)).length ≤ 150000)

/-! ## A compile (R224, R225, R229, R230) -/

/-- The order of the second pass: ascending, a branch after its root. -/
def compileOrder (conns : List (Nat × Conn)) (work : List Nat) : List Nat :=
  let rootIn := fun (n : Nat) => match conns.find? fun p => decide (p.1 = n) with
    | some p => if epType p.2.src = 8 ∧ work.contains (epRoot p.2.src) then some (epRoot p.2.src) else none
    | none => none
  work.flatMap fun n =>
    match rootIn n with
    | some r => if n < r then [] else [n]
    | none => n :: work.filter fun b => decide (b < n) && rootIn b == some n

structure CompileRun where
  held : Map Held
  failure : Option (Nat × Nat)
  deriving DecidableEq, Repr

/-- Entries whose dirty marks a kind of compile takes. -/
def State.compileWork (s : State) (kind : Nat) : List Nat :=
  if kind = 2 then sortNat (s.shadowConns.map (·.1))
  else sortNat s.prism.dirty

/-- Data slices whose positions are unavailable (R239). -/
def Prism.lostSlices (p : Prism) : List Nat := p.fenced.filter fun k => k ≠ 16 ∧ p.carried ≠ some k

/-- What a branch that a compile leaves as it is meets in its root, which the compile has placed anew (R211, R221, R223). -/
def State.branchFault (s : State) (held : Map Held) (n : Nat) (c : Conn) : Option Nat :=
  let r := connAt s.shd (epRoot c.src)
  let source := (Map.get {} held (Key.unit (epRoot c.src))).inp
  if ¬ (r.valid ∧ epType r.src ≠ 8 ∧ r.classM = c.classM ∧ r.size = c.size) then some 7
  else match s.sourceOf c, s.sinkOf c with
    | some a, some b =>
      if a.fits b = false then some 6
      else if c.classM ∧ source ≠ [] ∧ ¬ samePhases source (Map.get {} held (Key.unit n)).out then some 4
      else none
    | _, _ => some 6

/-- The passes of a compile; a failure stops it at its entry. -/
def State.compilePasses (s : State) (kind : Nat) : CompileRun :=
  let work := s.compileWork kind
  let conns := s.shadowConns
  let base : Map Held := if kind = 2 then [] else s.prism.heldShadow
  let lost := s.prism.lostSlices
  let entry := fun (n : Nat) => connAt s.shd n
  -- a removed root that keeps branches fails before anything is placed
  match work.find? fun n => !(entry n).valid && !(s.branchesOf n).isEmpty with
  | some n => { held := base, failure := some (7, n) }
  | none =>
    let oldOf := fun (n : Nat) => Map.get {} s.prism.heldShadow (Key.unit n)
    let keeps := fun (n : Nat) => (entry n).valid && (entry n).keep && !(entry n).classM && !(oldOf n).classM
    let shrunk := fun (n : Nat) => { oldOf n with
      inp := if (entry n).pinIn ∨ epType (entry n).src = 8 ∨ epType (entry n).src = 10 then [] else (oldOf n).inp.take (entry n).size
      out := if (entry n).pinOut then [] else (oldOf n).out.take (entry n).size }
    let released := if kind = 2 then base else work.foldl (fun m n =>
      if keeps n then Map.set {} m (Key.unit n) (shrunk n) else Map.erase m (Key.unit n)) base
    let order := compileOrder conns (work.filter fun n => (entry n).valid)
    let run := order.foldl (fun (r : CompileRun) n =>
      if r.failure.isSome then r
      else
        let c := entry n
        let placed := fun (q : Nat × Conn) => !order.contains q.1 || decide ((order.idxOf q.1) < order.idxOf n)
        match s.entryFault n c (conns.filter placed) with
        | some code => { r with failure := some (code, n) }
        | none =>
          let others := Map.erase r.held (Key.unit n)
          match s.placeEntry others lost n c (if keeps n ∧ kind ≠ 2 then oldOf n else {}) with
          | .error code => { r with failure := some (code, n) }
          | .ok h =>
            let held := Map.set {} others (Key.unit n) h
            if sliceLimitHolds (allEntries held) then { r with held := held } else { r with failure := some (5, n) })
      { held := released, failure := none }
    let stray := conns.findSome? fun p =>
      if epType p.2.src = 8 ∧ work.contains (epRoot p.2.src) ∧ ¬ work.contains p.1 then (s.branchFault run.held p.1 p.2).map fun code => (code, p.1)
      else none
    match run.failure with
    | none => { run with failure := stray }
    | some _ => run

/-- A compile: its result, with the entries it writes or clears and the blocks it changes. -/
def State.compileResult (s : State) (kind : Nat) : CompileResult :=
  let run := s.compilePasses kind
  let old := allEntries s.prism.heldShadow
  let new := allEntries run.held
  let fresh := entriesNew old new
  let gone := entriesGone old new
  let written := if kind = 2 then new ++ gone else fresh ++ gone
  { held := run.held, failure := run.failure
    entries := (written.map entryWeight).sum
    changed := ((fresh ++ gone).flatMap entryBlocks).dedup }

end Sys2Proof.Machine
end

