-- ==== Sys2Proof/Machine/Prism.lean ====
section
/-! DEFINITION. Prism: the Slot Compiler's commands, slices, and the stages of the tick pipeline behind the ingress mappers
(chapter 06). -/

namespace Sys2Proof.Machine

/-! ## Overruns (R30, R31) -/

/-- An engine misses its deadline: its bit, its count of overrun ticks (one for a tick, whatever it missed in it), its tick, dTICKOVR, and at most
one event per epoch. -/
def State.overrun (s : State) (engine : Nat) : State :=
  let t := s.setObj Obj.TB_OVR_STATUS (withBit (s.obj Obj.TB_OVR_STATUS) engine true)
  let counted := if Map.get 0 s.overrunAt (Key.unit engine) = s.now + 1 then t else t.bump (Obj.TB_OVR_COUNT engine)
  let u := (counted.setObj (Obj.TB_OVR_LAST engine) s.tick).declare Df.tickOvr 0
  let v := { u with lastOverrun := some s.now, overrunAt := Map.set 0 s.overrunAt (Key.unit engine) (s.now + 1) }
  if Map.get 0 v.overrunEpoch (Key.unit engine) = v.epoch + 1 then v
  else { v.raise Ev.TICK_OVERRUN [engine] with overrunEpoch := Map.set 0 v.overrunEpoch (Key.unit engine) (v.epoch + 1) }

/-! ## The compiler's commands (R224, R229 to R231) -/

/-- An accepted WS write or compile leaves EQUAL (R248). -/
def State.shadowEdited (s : State) : State :=
  if s.obj Obj.SHD_STATE = 0 then s.setObj Obj.SHD_STATE 1 else s

def isCompileStart : Due → Bool
  | .compileStart _ => true
  | _ => false

/-- A compile runs or waits for its boundary (R224). -/
def State.compiling (s : State) : Bool := s.prism.compile.isSome || s.waits isCompileStart

/-- The compiler enters ROLLBACK, to end in a state, at the rate of a compile (R229). -/
def State.beginRollback (s : State) (entries final : Nat) : State :=
  (s.setObj Obj.PRISM_COMPILE_STATE 5).withPrism fun p => { p with
    compile := none, rollback := some ⟨s.now + max 1 (ceilDiv entries 256), final⟩ }

/-- The state before the compile is the one that a rollback restores. -/
def Prism.keepBefore (p : Prism) : Prism :=
  { p with heldBefore := p.heldShadow, dirtyBefore := p.dirty, changedBefore := p.changed }

/-- PRISM_COMPILE = 0 (R224, R242): a running compile has written part of its entries, and the blocks they lie in have changed (R241); with none
running the state decides, and a start that waits for its boundary goes with the set that is discarded. -/
def State.abandonCompile (s : State) : Status × State :=
  match s.prism.compile with
  | some c =>
    let done := min c.result.entries (256 * (s.now - c.start))
    let t := (s.withPrism Prism.keepBefore).withPrism fun p => { p with changed := (p.changed ++ c.result.changed).dedup }
    (.ok, (t.beginRollback done 1).raise Ev.COMPILE_FAIL [0, 0])
  | none =>
    match s.obj Obj.PRISM_COMPILE_STATE with
      | 3 => (.ok, { s with agenda := s.agenda.filter fun p => !isCompileStart p.due }.beginRollback s.prism.lastEntries 1)
      | 5 => (.ok, s)
      | _ => (.precond, s)

/-- The write of PRISM_COMPILE (R224, R248, R465): SHD_STATE refuses every value in SYNCING, PENDING and DEFERRED. -/
def acceptCompile : Accept := fun _ v s =>
  if s.obj Obj.SHD_STATE = 4 then (.shadowBusy, s)
  else if 2 ≤ s.obj Obj.SHD_STATE then (.busy, s)
  else if v.v = 0 then s.abandonCompile
  else if s.compiling ∨ s.prism.rollback.isSome then (.busy, s)
  else if s.ctBad then (.precond, s)
  else (.ok, s.shadowEdited.plan (s.now + 1) (.compileStart v.v))

/-- The compiler starts at a boundary (R224, R230). -/
def State.startCompile (s : State) (kind : Nat) : State :=
  let r := s.compileResult kind
  (s.setObj Obj.PRISM_COMPILE_STATE 2).withPrism fun p => { p with compile := some ⟨s.now, s.now + ceilDiv r.entries 256 + 4, r⟩ }

/-- A compile that has run its ticks reaches DONE (R230). -/
def State.finishCompile (s : State) (c : Compile) : State :=
  let t := s.withPrism fun p =>
    let q := p.keepBefore
    { q with compile := none, heldShadow := c.result.held, dirty := [], lastEntries := c.result.entries
             changed := (p.changed ++ c.result.changed).dedup }
  ((t.setObj Obj.PRISM_COMPILE_STATE 3).setObj Obj.PRISM_COMPILE_TICKS (c.due - c.start)).raise Ev.COMPILE_DONE
    [c.result.entries, c.due - c.start]

/-- A compile that could not place an entry stops there and is rolled back (R228, R229). -/
def State.failCompile (s : State) (c : Compile) (reason conn : Nat) : State :=
  let t := (s.withPrism Prism.keepBefore).withPrism fun p => { p with changed := (p.changed ++ c.result.changed).dedup }
  let u := (t.setObj Obj.PRISM_COMPILE_ERR (reason * 2 ^ 24 + conn)).setObj Obj.PRISM_COMPILE_TICKS (c.due - c.start)
  (u.beginRollback c.result.entries 4).raise Ev.COMPILE_FAIL [reason, conn]

/-- The compile that runs ends, where it is due. -/
def State.compileEnd (s : State) (failed : Bool) : State :=
  match s.prism.compile with
  | none => s
  | some c =>
    if s.now < c.due then s
    else match c.result.failure with
      | none => if failed then s else s.finishCompile c
      | some (reason, conn) => if failed then s.failCompile c reason conn else s

/-- A rollback that is due restores the shadow and enters FAILED or DIRTY (R229). -/
def State.rollbackEnd (s : State) : State :=
  match s.prism.rollback with
  | none => s
  | some r =>
    if s.now < r.due then s
    else (s.setObj Obj.PRISM_COMPILE_STATE r.final).withPrism fun p => { p with
      rollback := none, heldShadow := p.heldBefore, dirty := (p.dirtyBefore ++ p.dirty).dedup, changed := p.changedBefore }

/-! ## Slices (R234, R237 to R240) -/

/-- The half of the tick buffer written in an odd or even tick. -/
def Prism.mode (p : Prism) (half : Nat) : HalfMode := if half = 0 then p.mode0 else p.mode1
def Prism.words (p : Prism) (half : Nat) : Map Nat := if half = 0 then p.half0 else p.half1
def Prism.unwritten (p : Prism) (half : Nat) : List Nat := if half = 0 then p.unwritten0 else p.unwritten1

def Prism.setHalf (p : Prism) (half : Nat) (words : Map Nat) (unwritten : List Nat) (mode : HalfMode) : Prism :=
  if half = 0 then { p with half0 := words, unwritten0 := unwritten, mode0 := mode }
  else { p with half1 := words, unwritten1 := unwritten, mode1 := mode }

/-- PRISM_STATE (R243). -/
def State.refreshPrism (s : State) : State :=
  let p := s.prism
  s.setObj Obj.PRISM_STATE (if ¬ s.running ∨ s.mc.initialising = true then 0
    else if p.lostSlices ≠ [] ∨ p.xorLost = true then 3 else if p.fenced ≠ [] then 2 else 1)

/-- At the boundary after their failure the slices are fenced: the first data slice is carried by slice 16, every further one is lost,
and with slice 16 the slice that it carries (R237 to R239; of one tick in the order of their numbers: DEDUCED, log entry 185). -/
def State.fenceSlices (s : State) : State :=
  let p := s.prism
  if p.fences = [] then s
  else
    let data := sortNat ((p.fences.map (·.slice)).filter (· ≠ 16))
    let no16 := (p.fences.map (·.slice)).contains 16 || p.fenced.contains 16
    let carried := if no16 then none else if p.carried.isSome then p.carried else if p.fenced = [] then data.head? else none
    let q := { p with fences := [], fenced := p.fenced ++ sortNat (p.fences.map fun (f : Fence) => f.slice), carried := carried
                      xorLost := p.xorLost || ((p.fences.any fun f => decide (f.slice = 16)) && decide (p.fenced ≠ [] ∨ data ≠ [])) }
    let half := (s.tick + 1) % 2
    let mode := q.mode half
    let gone := q.lostSlices.filter fun k => !p.lostSlices.contains k && (decide (p.fenced ≠ [] ∨ p.carried.isSome) || no16 ||
      decide (data.head? ≠ some k))
    let r := q.setHalf half (q.words half) (q.unwritten half) { mode with lost := (mode.lost ++ gone).dedup }
    let t := p.fences.foldl (fun (t : State) f =>
      let kept := if f.slice = 16 then decide (p.fenced = []) && decide (data = []) else decide (carried = some f.slice)
      { t with changes := t.changes ++ [⟨Ev.SLICE_FAIL.code, false, f.tick,
          contentOf Ev.SLICE_FAIL.widths [f.slice, f.cause, if kept then 0 else 1]⟩] }) { s with prism := r }
    (t.declare Df.slice 0).refreshPrism

/-- Slices that passed their test rejoin at the first epoch boundary after it (R240). -/
def State.rejoinSlices (s : State) : State :=
  let due := (s.prism.rejoin.filter fun r => decide (r.2 ≤ s.now)).map (·.1)
  if due = [] then s
  else
    let t := s.withPrism fun p => { p with
      rejoin := p.rejoin.filter fun r => decide (s.now < r.2)
      fenced := p.fenced.filter fun k => !due.contains k
      xorLost := p.xorLost && !due.contains 16
      carried := match p.carried with
        | some k => if due.contains k then none else some k
        | none => none }
    let u := due.foldl (fun u k => u.raise Ev.SLICE_RESTORED [k]) t
    (u.setDefect Df.slice 0 (decide (u.prism.fenced ≠ []))).refreshPrism

/-- How a half written from now on is stored (R238, R239). -/
def Prism.storage (p : Prism) : HalfMode :=
  { carried := p.carried, parity := p.carried.isNone && !p.fenced.contains 16, lost := p.lostSlices }

/-! ## Words (R207, R208, R212, R213) -/

def aisFill : Nat := 0xFFFFFFFF

/-- A test-pattern word: phase, output position and CRC-7 (R208). -/
def testWord (phase pos : Nat) : Nat :=
  let v := phase * 2 ^ 20 + pos
  v * 128 + crc 7 0x09 0 25 v

/-- The word of an entry that reads no source (R207). -/
def fillWord (entry phase pos : Nat) : Nat :=
  match field entry 22 21, bit entry 20 with
  | 2, false => aisFill
  | 2, true => 0x80000000
  | 3, false => testWord phase pos
  | 3, true => 0x20000000
  | _, _ => 0

/-- COUNT and BYTES of a header (R212). -/
def headerCount (w : Nat) : Nat := field w 19 0
def headerBytes (w : Nat) : Nat := field w 23 20

/-- A header that counts as AIS (R213), for a connection of `capacity` data words. -/
def headerBad (capacity w : Nat) : Bool :=
  decide (capacity < headerCount w) || decide (4 < headerBytes w) || (decide (headerCount w = 0) != decide (headerBytes w = 0)) ||
    decide (field w 27 24 ≠ 0)

/-! ## Stored words (R234) -/

/-- One parity bit for each byte of a word, bit b that of byte [8b+7:8b]. -/
def byteParity (w : Nat) : Nat :=
  ((List.range 4).map fun b => ((List.range 8).countP fun i => bit w (8 * b + i)) % 2 * 2 ^ b).sum

/-- A word as the tick buffer stores it, its parity bits above it; what a stored word reads as; and a parity error. -/
def storedWord (w : Nat) : Nat := byteParity (w % 2 ^ 32) * 2 ^ 32 + w % 2 ^ 32
def wordOf (x : Nat) : Nat := x % 2 ^ 32
def parityError (x : Nat) : Bool := decide (byteParity (wordOf x) ≠ x / 2 ^ 32)

/-- What slice 16 holds of a half: in each stripe the XOR word of its data words, or the word of the slice that it carries. -/
def slice16Of (m : HalfMode) (words : Map Nat) : Map Nat :=
  let into := fun (acc : Map Nat) (e : Key × Nat) =>
    let stripe := Key.unit (e.1.i / 16)
    Map.set 0 acc stripe (storedWord (Nat.xor (wordOf (Map.get 0 acc stripe)) (wordOf e.2)))
  match m.carried with
  | some k => (words.filter fun e => decide (e.1.i % 16 = k)).foldl into []
  | none => if m.parity then words.foldl into [] else []

/-- The word of a position as the other words of its stripe and the XOR word give it (R235). -/
def Prism.rebuild (p : Prism) (half src : Nat) : Nat :=
  ((List.range 16).filter (· ≠ src % 16)).foldl (fun v j => Nat.xor v (wordOf (Map.get 0 (p.words half) (Key.unit (src / 16 * 16 + j)))))
    (wordOf (Map.get 0 (p.mode half).slice16 (Key.unit (src / 16))))

/-- The stored word that a read of a position takes: slice 16 holds those of the slice that it carries (R238). -/
def Prism.stored (p : Prism) (half src : Nat) : Nat :=
  if (p.mode half).carried = some (src % 16) then Map.get 0 (p.mode half).slice16 (Key.unit (src / 16))
  else Map.get 0 (p.words half) (Key.unit src)

/-! ## The read stage (R203, R204, R214, R234 to R236, R241) -/

/-- What a tick of reading comes to: the words, its counts, the place in time after the last request served (64 to a cycle, R235), and the words met
with a parity error, as 17 × stripe + slice. -/
structure Reading where
  out : List OutWord := []
  counts : ReadCounts := {}
  served : Nat := 0
  late : Bool := false
  errors : List Nat := []
  deriving DecidableEq, Repr

def Reading.give (r : Reading) (pos word : Nat) : Reading := { r with out := r.out ++ [⟨pos, word, false⟩] }
def Reading.substitute (r : Reading) (pos : Nat) : Reading :=
  { r with out := r.out ++ [⟨pos, aisFill, true⟩], counts := { r.counts with substituted := r.counts.substituted + 1 } }

/-- A word met with a parity error, once. -/
def Reading.meets (r : Reading) (stripe slice : Nat) : Reading :=
  if r.errors.contains (17 * stripe + slice) then r else { r with errors := r.errors ++ [17 * stripe + slice] }

/-- A slice whose words of a half cannot be read: it is fenced, or failing in this tick, and slice 16 does not hold them. -/
def Prism.broken (p : Prism) (m : HalfMode) (k : Nat) : Bool :=
  (p.fenced.contains k || p.fences.any fun f => decide (f.slice = k)) && decide (m.carried ≠ some k)

/-- A parity error that a read of a position meets. -/
def Prism.badRead (p : Prism) (half : Nat) (badWords : List Nat) (src : Nat) : Bool :=
  badWords.contains src || parityError (p.stored half src)

/-- A request for a reconstruction, issued in cycle o ÷ 400 and served in issue order, in the first place of time that is free (R235): the places up to
cycle 2,499 are those below 160,000. -/
def Reading.request (r : Reading) (pos : Nat) : Reading :=
  { r with counts := { r.counts with requests := r.counts.requests + 1 }, served := max r.served (64 * (pos / 400)) + 1 }

def replayBudget : Nat := 160000

/-- One entry that reads a source (R235 to R239, R242). -/
def Prism.readSource (p : Prism) (half : Nat) (badWords badXor : List Nat) (r : Reading) (pos src : Nat) : Reading :=
  let m := p.mode half
  let k := src % 16
  let stripe := src / 16
  let bad := p.badRead half badWords src
  if (p.unwritten half).contains src ∨ m.lost.contains k then r.substitute pos
  else
    let r := if bad ∧ ¬ p.broken m k then r.meets stripe (if m.carried = some k then 16 else k) else r
    if ¬ bad ∧ ¬ (p.broken m k ∧ m.parity) then r.give pos (wordOf (p.stored half src))
    else if ¬ m.parity ∨ p.broken m 16 = true then (r.request pos).substitute pos
    else
      let wrong := (List.range 16).filter fun j => decide (j ≠ k) && p.badRead half badWords (16 * stripe + j)
      let xorBad := badXor.contains stripe || parityError (Map.get 0 m.slice16 (Key.unit stripe))
      let met := wrong.foldl (fun q j => q.meets stripe j) (r.request pos)
      let q := if xorBad then met.meets stripe 16 else met
      let others := (List.range 16).any fun j => decide (j ≠ k) && (m.lost.contains j || p.broken m j)
      if wrong ≠ [] ∨ xorBad ∨ others then q.substitute pos
      else if replayBudget < q.served then { q with late := true }.substitute pos
      else { q with counts := { q.counts with rebuilt := q.counts.rebuilt + 1 } }.give pos (p.rebuild half src)

/-- The read stage of a tick: the entries it applies, from the half written in the tick before. -/
def Prism.reading (p : Prism) (half phase : Nat) : Reading :=
  let run := p.applied.foldl (fun r e =>
    if field e.2 22 21 = 0 then p.readSource half p.readBad p.readBadXor r e.1 (field e.2 19 0)
    else r.give e.1 (fillWord e.2 phase e.1)) ({} : Reading)
  p.appliedBad.foldl (fun r o => r.substitute o) run

/-- What a reading counts beyond what the tick has counted already, and the overrun of a replay storm (R235 to R237). -/
def State.countReading (s : State) (r : Reading) : State :=
  let c := s.prism.counts
  let fresh := r.errors.filter fun x => !c.errors.contains x
  let t := (s.bump Obj.PRISM_REPLAY_COUNT (r.counts.rebuilt - c.rebuilt)).bump Obj.PRISM_SUBST_COUNT (r.counts.substituted - c.substituted)
  let u := t.setObj Obj.PRISM_REPLAY_PEAK (max (t.obj Obj.PRISM_REPLAY_PEAK) r.counts.requests)
  let v := fresh.foldl (fun v x => v.bump (Obj.PRISM_PARITY_ERR (x % 17))) u
  (if r.late then v.overrun 1 else v).withPrism fun p => { p with counts := { r.counts with errors := c.errors ++ fresh } }

/-- A slice has failed, or is fenced. -/
def Prism.failed (p : Prism) (k : Nat) : Bool := p.fenced.contains k || p.fences.any fun f => decide (f.slice = k)

def State.fence (s : State) (slice cause : Nat) : State :=
  s.withPrism fun p => { p with fences := p.fences ++ [⟨slice, cause, s.tick⟩] }

/-- A slice that shows more parity errors in this tick than the limit, and has not failed (R237). -/
def State.overErrors (s : State) : Option Nat :=
  let slices := s.prism.counts.errors.map (· % 17)
  slices.dedup.find? fun k => !s.prism.failed k && decide (s.obj Obj.PRISM_SLICE_ERR_LIMIT < slices.count k)

/-- What the tick reads, with the slices that have failed in it: their words are reconstructed where the stripe has parity, and what cannot be is
substituted; the errors that this meets count, and may fail a further slice (R237). -/
def State.readAgain : Nat → State → State
  | 0, s => s
  | fuel + 1, s =>
    let r := s.prism.reading ((s.tick + 1) % 2) s.prism.outputPhase
    let gone := (r.out.filter (·.tag)).map (·.pos)
    let t := (s.countReading r).withPrism fun p => { p with
      output := p.output.map fun w => if gone.contains w.pos ∧ w.tag = false then ⟨w.pos, aisFill, true⟩ else w }
    match t.overErrors with
    | none => t
    | some k => (t.fence k 1).readAgain fuel

/-- A slice fails in this tick; its fencing, dSLICE and EV_SLICE_FAIL follow at the next boundary (R237). -/
def State.sliceFails (s : State) (slice cause : Nat) : State :=
  if s.prism.failed slice then s else (s.fence slice cause).readAgain 17

/-- The read stage runs; its counters, a replay storm, and slices with too many parity errors follow. -/
def State.readStage (s : State) (badWords badXor : List Nat) : State :=
  let t := s.withPrism fun p => { p with
    applied := p.stage, appliedBad := p.stageBad, outputPhase := p.stagePhase, readBad := badWords, readBadXor := badXor, counts := {} }
  (t.withPrism fun p => { p with
    output := sortBy (fun a b => decide (a.pos ≤ b.pos)) (p.reading ((s.tick + 1) % 2) p.outputPhase).out }).readAgain 18

/-! ## The egress mappers (R186, R204, R213, R214, R260 to R262) -/

/-- Which of a connection's words an output position carries in a phase. -/
def Held.wordAt (h : Held) (pos phase : Nat) : Option Nat :=
  let u := if h.classM then 32 * pos + phase else 32 * pos
  if h.out.contains u then some (h.out.idxOf u) else none

/-- What an egress acts on of a header's flags (R186). -/
def headerAction (w : Nat) : Nat := if bit w 31 ∨ bit w 29 ∨ bit w 28 then 1 else if bit w 30 then 2 else 0

structure Egress where
  words : List EgressWord := []
  poison : List Nat := []
  actions : List (Nat × Nat) := []
  bad : Nat := 0
  deriving DecidableEq, Repr

/-- One word at its egress mapper; a header takes the latch, which a tagged word of the same tick sets afterwards, and NOTVALID where a swap has cut
its connection over. -/
def Egress.take (held : Map Held) (phase : Nat) (cut : List Nat) (g : Egress) (w : OutWord) : Egress :=
  match held.findSome? fun h => (h.2.wordAt w.pos phase).map fun k => (h.1.i, k, h.2) with
  | none => g
  | some (n, 0, h) =>
    let bad := headerBad (h.out.length - 1) w.word
    let v := if bad then withBit w.word 31 true else w.word
    let v := if g.poison.contains n then withBit v 30 true else v
    let v := if cut.contains n then withBit v 29 true else v
    { words := g.words ++ [⟨n, 0, v, w.tag⟩], poison := g.poison.filter (· ≠ n)
      actions := g.actions.filter (fun a => a.1 ≠ n) ++ (if headerAction v = 0 then [] else [(n, headerAction v)])
      bad := g.bad + bad.toNat }
  | some (n, k, _) => { g with words := g.words ++ [⟨n, k, w.word, w.tag⟩] }

/-- The connection whose output micro-slot a position is in a phase. -/
def ownerOut (held : Map Held) (pos phase : Nat) : Option Nat :=
  held.findSome? fun h => (h.2.wordAt pos phase).map fun _ => h.1.i

/-- The egress maps in force. -/
def State.egressHeld (s : State) : Map Held := if s.egressOld then s.prism.heldOld else s.prism.held

/-- The source endpoint that a connection of a set is fed from: a branch's is its root's (R260). -/
def effectiveSource (m : Map Nat) (c : Conn) : Nat := if epType c.src = 8 then (connAt m (epRoot c.src)).src else c.src

/-- Two endpoint words name one endpoint, apart from changes of its slots on the line and, DESIGN CHOICE (log entry 168), of its place in an
expansion link (R256, R260, R264). -/
def sameEndpoint (a b : Nat) : Bool :=
  decide (a = b) || (decide (epType a = 4) && decide (a / 2 ^ 26 = b / 2 ^ 26)) || (decide (epType a = 7) && decide (a / 2 ^ 22 = b / 2 ^ 22)) ||
    (decide (epType a ≠ 4) && decide (epType a ≠ 7) && decide (epName a = epName b))

/-- A swap from one connection table to another cuts a connection of the new one over (R260, R262). -/
def cutOver (old new : Map Nat) (n : Nat) : Bool :=
  let a := connAt old n
  let b := connAt new n
  b.valid && (!a.valid || a.classM != b.classM || !sameEndpoint (effectiveSource old a) (effectiveSource new b) || !sameEndpoint a.dst b.dst)

/-- Class M connections that the last swap cut over, in the tick whose egress reads the words of boundary E (R262). -/
def State.cutNow (s : State) : List Nat :=
  match s.shadow.lastSwap with
  | some e => if s.now = e + 2 then
      (s.prism.held.filter fun h => h.2.classM && cutOver s.prism.connOld s.act h.1.i).map (·.1.i) else []
  | none => []

/-- Class M data waits by connection for the header that frames it (R261): what waits then, and what this tick delivers. -/
def frameEpochs (held : Map Held) (cut : List Nat) (waiting words : List EgressWord) : List EgressWord × List EgressWord :=
  let classM := fun (w : EgressWord) => (Map.get {} held (Key.unit w.conn)).classM
  let headed := (words.filter fun w => classM w && decide (w.index = 0)).map (·.conn)
  let ready := waiting.filter fun w => headed.contains w.conn && !cut.contains w.conn
  let still := waiting.filter fun w => !headed.contains w.conn && decide (Map.get {} held (Key.unit w.conn) ≠ ({} : Held))
  (still ++ words.filter fun w => classM w && decide (w.index ≠ 0),
    (words.filter fun w => !classM w || decide (w.index = 0)) ++ ready)

/-- The egress mappers take the words read in the tick before. -/
def State.egressStage (s : State) : State :=
  let p := s.prism
  let held := s.egressHeld
  let cut := s.cutNow
  let kept := p.actions.filter fun a => decide (Map.get {} held (Key.unit a.1) ≠ ({} : Held))
  let g := p.output.foldl (Egress.take held p.outputPhase cut) { poison := p.poison, actions := kept }
  let tagged := (p.output.filter (·.tag)).filterMap fun w => ownerOut held w.pos p.outputPhase
  let f := frameEpochs held cut p.epochHeld g.words
  let t := s.withPrism fun p => { p with
    egress := g.words, poison := (g.poison ++ tagged).dedup, actions := g.actions, epochHeld := f.1, framed := f.2 }
  t.bump Obj.PRISM_HDR_BAD g.bad

/-! ## The fetch stage (R203, R241, R259) -/

/-- The entries of a page in the order of their output positions. -/
def pageEntries (held : Map Held) (phase : Nat) : List (Nat × Nat) :=
  sortBy (fun a b => decide (a.1 ≤ b.1)) ((allEntries held).filterMap fun e =>
    if e.2.1 = true ∧ e.1 % 32 ≠ phase then none else some (e.1 / 32, e.2.2))

def blockTicks (b : Nat) : Nat := if b % 245 = 244 then 1 else 2

/-- Ticks from the start of SYNCING until a changed block is copied (R257). -/
def copiedAfter (blocks : List Nat) (b : Nat) : Nat := 4 + ((blocks.takeWhile (· ≠ b)).map blockTicks).sum + blockTicks b

/-- The shadow bank holds a complete copy of a block since the last swap, which nothing has changed since (R241, R259). -/
def State.blockCopied (s : State) (b : Nat) : Bool :=
  !s.prism.changed.contains b && (match s.prism.compile with
    | some c => !c.result.changed.contains b
    | none => true) && match s.shadow.sync with
    | none => true
    | some y => if y.blocks.contains b then y.copied.contains b else decide (4 ≤ s.now - y.start)

/-- The copy engine at a boundary (R257, R259): regenerated blocks are in place in both banks, and it has copied each changed block that it has
reached, unless the block is uncorrectable. -/
def State.copyEngine (s : State) : State :=
  match s.shadow.sync with
  | none => s
  | some y =>
    let placed := (y.writing.filter fun w => decide (w.2 ≤ s.now)).map (·.1)
    let t := placed.foldl (fun (t : State) b =>
      ((t.setPage 0 (s.cmPage true b) {}).setPage 0 (s.cmPage false b) {}).bump (Obj.SIO_REGEN 0)) s
    let read := y.blocks.filter fun b => !y.copied.contains b && !(y.writing.any fun w => decide (w.1 = b)) &&
      decide (copiedAfter y.blocks b ≤ s.now - y.start) && !s.cmBadBlocks.contains b
    { t with shadow := { t.shadow with sync := some { y with
        copied := y.copied ++ placed ++ read, writing := y.writing.filter fun w => decide (s.now < w.2) } } }

/-- Output positions of a block. -/
def blockPositions (b : Nat) : List Nat := (List.range (if b % 245 = 244 then 576 else 4096)).map (b % 245 * 4096 + ·)

/-- The fetch stage takes a page; an uncorrectable block comes from the shadow bank, or its output micro-slots are substituted. -/
def State.fetchStage (s : State) (found : List Nat) : State :=
  let bad := ((found.map fun b => 245 * s.phase + b) ++ s.cmBadBlocks.filter fun b => decide (b / 245 = s.phase)).dedup
  let t := bad.foldl (fun (t : State) b =>
    let fallback := t.blockCopied b
    let u := t.bump Obj.PRISM_CM_UNCORR
    let v := (if fallback then u.bump Obj.PRISM_CM_FALLBACK else u).logUncorr 0 (s.cmPage true b) 1
    v.raise Ev.CM_UNCORR [b / 245, b % 245, fallback.toNat]) s
  let gone := bad.filter fun b => !s.blockCopied b
  let inBad := fun (o : Nat) => gone.contains (245 * s.phase + o / 4096)
  let marked := bad.foldl (fun (u : State) b => u.markBad 0 (s.cmPage true b)) t
  marked.withPrism fun p => { p with
    stage := (pageEntries s.prism.held s.phase).filter fun e => !inBad e.1
    stageBad := gone.flatMap blockPositions
    stagePhase := s.phase }

/-! ## Writes of classes 0x30 and 0x31 -/

def acceptSliceRetest : Accept := fun _ v s =>
  if ¬ s.prism.fenced.contains v.v then (.range, s)
  else if s.prism.tests.any (fun t => t.1 = v.v) then (.busy, s)
  else (.ok, s.withPrism fun p => { p with tests := p.tests ++ [(v.v, s.now + 16)] })

def acceptPrism : Accept := fun k v s =>
  if k.c = 0x31 then acceptCompile k v s
  else if k.m = 0x04 then acceptSliceRetest k v s
  else acceptStage k v s

/-! ## Meanings -/

/-- COMPILE_DIRTY (R224). -/
def execCompileDirty (rq : Rq) (s : State) : Out := .next (serveWrite acceptPrism rq Obj.PRISM_COMPILE ⟨2, 1⟩ s)

/-- COMPILE_ALL (R224, R263). -/
def execCompileAll (rq : Rq) (s : State) : Out := .next (serveWrite acceptPrism rq Obj.PRISM_COMPILE ⟨2, 2⟩ s)

/-- COMPILE_ABANDON (R224). -/
def execCompileAbandon (rq : Rq) (s : State) : Out := .next (serveWrite acceptPrism rq Obj.PRISM_COMPILE ⟨2, 0⟩ s)

/-- COMPILE_DONE (R230). -/
def execCompileDone (s : State) : Out := .next (s.atBoundary fun t => t.compileEnd false)

/-- COMPILE_FAIL (R228, R229). -/
def execCompileFail (s : State) : Out := .next (s.atBoundary fun t => t.compileEnd true)

/-- ROLLBACK_DONE (R229). -/
def execRollbackDone (s : State) : Out := .next (s.atBoundary State.rollbackEnd)

/-- SLICE_FAIL (R237): by the controller's self-check, or by more parity errors in one tick than the limit. -/
def execSliceFail (slice : Fin 17) (cause : Fin 2) (errors : Nat) (s : State) : Out :=
  if cause = 0 ∨ s.obj Obj.PRISM_SLICE_ERR_LIMIT < errors then .next (s.sliceFails slice cause) else .next s

/-- PRISM_SLICE_RETEST (R240). -/
def execPrismSliceRetest (rq : Rq) (val : Val) (s : State) : Out :=
  .next (serveWrite acceptPrism rq Obj.PRISM_SLICE_RETEST val s)

/-- SLICE_RETEST_DONE (R240). -/
def execSliceRetestDone (slice : Fin 17) (pass : Bool) (s : State) : Out :=
  if s.prism.tests.any (fun t => t.1 = slice) then
    let t := s.withPrism fun p => { p with tests := p.tests.filter fun t => decide (t.1 ≠ slice) }
    .next (if pass then t.withPrism fun p => { p with rejoin := p.rejoin ++ [((slice : Nat), s.epochBoundaryAt 1)] } else t)
  else .next s

/-- SLICE_REJOIN (R240). -/
def execSliceRejoin (s : State) : Out := .next (s.atBoundary State.rejoinSlices)

end Sys2Proof.Machine
end

