-- ==== Sys2Proof/Machine/Protection.lean ====
section
/-! DEFINITION. The Defect Bus, the protection engine, APS, and remote points (chapter 08 up to R301, R310). -/

namespace Sys2Proof.Machine

def State.withProt (s : State) (f : Protection → Protection) : State := { s with prot := f s.prot }
def State.pgRun (s : State) (g : Nat) : PgRun := Map.get {} s.prot.groups (Key.unit g)
def State.setPgRun (s : State) (g : Nat) (r : PgRun) : State :=
  s.withProt fun p => { p with groups := Map.set {} p.groups (Key.unit g) r }

/-! ## Records (R275, R276) -/

/-- The bits of a record beside STALE. -/
structure PointBits where
  ssf : Bool := false
  tsf : Bool := false
  tsd : Bool := false
  fff : Bool := false
  psc : Nat := 0
  unc : Bool := false
  oth : Bool := false
  deriving DecidableEq, Repr

def PointBits.record (b : PointBits) : Nat :=
  b.ssf.toNat * 2 ^ 14 + b.tsf.toNat * 2 ^ 13 + b.tsd.toNat * 2 ^ 12 + b.fff.toNat * 2 ^ 11 +
    (if b.psc = 0 then 0 else 2 ^ 10 + b.psc * 2 ^ 6) + b.unc.toNat * 2 ^ 9 + b.oth.toNat * 2 ^ 8

/-- A PM_POINT entry (R398). -/
def pointOn (v : Nat) : Bool := bit v 31
def pointKind (v : Nat) : Nat := field v 30 28
def pointSide (v : Nat) : Nat := field v 27 27
def pointConn (v : Nat) : Nat := field v 18 0

/-- The host signal-fail set holds for a client (R184). -/
def State.hostFail (s : State) (l : Nat) : Bool := decide (s.clientDefects l ≠ 0)

/-- The server of an endpoint is in signal fail (R276): its engine's section, its host client, or a PHY of its FlexE group. -/
def State.serverFail (s : State) (w : Nat) : Bool :=
  match epType w with
  | 4 => s.sectionFail (epEngine w)
  | 6 => (s.physOf (epFlexGroup w)).any s.hostFail
  | _ => match hostLane w with
    | some l => s.hostFail l
    | none => false

/-- The copies of a connection's source, with the monitored point of each where a group names one. -/
def copiesOf (m : Map Nat) (c : Conn) : List (Nat × Option Nat) :=
  let w := if epType c.src = 8 then (connAt m (epRoot c.src)).src else c.src
  if epType w = 9 then
    let g := groupAt m (epGroup w)
    if g.type = 5 then [(g.working, none)] else [(g.working, some g.pointW), (g.protect, some g.pointP)]
  else [(w, none)]

/-- The group of a connection's protected source. -/
def groupOf (m : Map Nat) (c : Conn) : Option Nat :=
  let w := if epType c.src = 8 then (connAt m (epRoot c.src)).src else c.src
  if epType w = 9 then some (epGroup w) else none

/-- The type 6 group of a set whose working client's lane a source endpoint names (R283). -/
def mspGroup (m : Map Nat) (w : Nat) : Option (Nat × Group) :=
  if epType w = 1 ∨ epType w = 2 then
    (groupsOf m).find? fun p => decide (p.2.type = 6) && decide (epLane p.2.working = epLane w)
  else none

/-- The source endpoint that a point monitors on a connection: the copy whose point it is, else the copy that is selected. -/
def State.monitored (s : State) (p : Nat) (c : Conn) : Nat :=
  let copies := copiesOf s.act c
  match copies.find? fun q => decide (q.2 = some p) with
  | some q => q.1
  | none =>
    let protect := match groupOf s.act c with
      | some g => s.prot.snapshot.contains g
      | none => false
    if protect then (copies.getD 1 (copies.headD (0, none))).1 else (copies.headD (0, none)).1

/-- dFFF of one copy of a connection (R155). -/
def State.copyFlagged (s : State) (n w : Nat) : Bool :=
  s.declared Df.fff n &&
    (s.copyInMap (fun i => s.obj (Obj.OH_FFF_RX_MAP i)) n w || s.copyInMap (fun i => (s.engine i).fffBefore) n w)

/-- Copies of connections that carry a received FFF, each with its source endpoint. -/
def State.flaggedCopies (s : State) : List (Nat × Nat) :=
  (connsOf s.act).flatMap fun p => ((sourcesOf s.act p.2).filter (s.copyFlagged p.1)).map fun w => (p.1, w)

/-- dAUTH and dKEYEXH that secure channels report at a point (R332). -/
def State.securePoint (s : State) (p : Nat) : Bool :=
  s.act.any fun e => decide (e.1.c = 0x14) && decide (e.1.m = 0x01) && bit e.2 127 && bit e.2 63 && decide (field e.2 48 32 = p) &&
    (s.declared Df.auth (1024 * e.1.i + e.1.x) || s.declared Df.keyExh (1024 * e.1.i + e.1.x))

/-- dRETAIN of a domain's banks (R495). -/
def State.retainOf (s : State) (d : Nat) : Bool := (List.range 8).any fun b => s.declared Df.retain (8 * d + b)

def hostSection (l a : Nat) : Nat := 0x10000 + 256 * l + a

/-- A client's section degrade and other defects (R183, R276). -/
def State.hostSections (s : State) (l d : Nat) : Bool := (List.range 128).any fun a => s.declared d (hostSection l a)

/-- The form of what a connection carries from one of its copies (0 native, 1 ODU, 2 VC): an expansion link or a branch leaves it to the
destination (R218, R223). -/
def State.copyForm (s : State) (c : Conn) (w : Nat) : Option Nat :=
  (([s.endpoint true w c.size, s.endpoint false c.dst c.size].filterMap fun q => q.map Container.form).find? (· ≠ 9))

/-- A host-assigned point is present: its connection is in the active set and carries the point's KIND, an ODU for kinds 0 and 1 and a VC for
kind 2 (R398). A connection between expansion links alone shows no form and carries any (log entry 187). -/
def State.assignedPresent (s : State) (p : Nat) : Bool :=
  let v := s.obj (Obj.PM_POINT p)
  let c := connAt s.act (pointConn v)
  pointOn v && c.valid && ((s.copyForm c (s.monitored p c)).all fun f => decide (f = if pointKind v = 2 then 2 else 1))

/-- What a host-assigned monitor sees (R275, R276, R398): all zero where its connection is absent from the active set or does not carry its KIND. -/
def State.assignedBits (s : State) (p : Nat) : PointBits :=
  let v := s.obj (Obj.PM_POINT p)
  let n := pointConn v
  let c := connAt s.act n
  if ¬ s.assignedPresent p then {}
  else
    let w := s.monitored p c
    { ssf := s.serverFail w
      tsf := [Df.oduAis, Df.oduOci, Df.oduLck, Df.lofLom, Df.pathTim, Df.uneq].any (s.declared · p) ||
        (decide (pointKind v = 2) && (s.declared Df.lop w || s.declared Df.ptrAis w))
      tsd := s.declared Df.pathDeg p || s.declared Df.sd p
      fff := s.copyFlagged n w, unc := s.prot.uncorrected.contains p
      oth := s.declared Df.pathBdi p || s.securePoint p }

/-- What the record of a point shows at the end of a tick (R275, R276). -/
def State.pointBits (s : State) (p : Nat) : PointBits :=
  let more := fun (b : PointBits) => { b with
    tsd := b.tsd || s.declared Df.sd p, unc := b.unc || s.prot.uncorrected.contains p, oth := b.oth || s.securePoint p }
  if p = 0 then { oth := s.declared Df.tickOvr 0 || s.declared Df.slice 0 || [16, 17, 18, 19].any s.retainOf || s.securePoint 0 }
  else if p ≤ 4 then
    let e := p - 1
    more { ssf := s.sectionFail e, psc := Map.get 0 s.prot.psc (Key.unit e)
           oth := s.declared Df.decDeg e || s.retainOf e || s.retainOf (12 + e) }
  else if p ≤ 7 then
    match (bondGroups (s.obj Obj.TB_BOND_CFG)).find? fun g => decide (bondPoint g = p) with
    | some (e :: _) => more { ssf := s.sectionFail e }
    | _ => {}
  else if p ≤ 71 then
    let l := p - 8
    if (s.client l).lanes = [] then {}
    else more { ssf := s.hostFail l, tsf := s.declared Df.msAis l
                tsd := s.declared Df.msDeg l || s.hostSections l Df.smDeg
                oth := s.declared Df.msRdi l || [Df.smTim, Df.smBdi, Df.smIae].any (s.hostSections l) }
  else if p ≤ 87 then more {}
  else if p ≤ 95 then more { ssf := (s.physOf (p - 88)).any s.hostFail }
  else if 128 ≤ p ∧ p ≤ 639 then
    let e := (p - 128) / 128
    if (s.bond e).headD e ≠ e ∨ modeN (s.mode e) * (s.bond e).length ≤ (p - 128) % 128 then {}
    else more { ssf := s.sectionFail e, tsd := s.declared Df.smDeg p
                oth := s.declared Df.smBdi p || s.declared Df.smIae p || (s.declared Df.smTim p && decide (s.obj (Obj.FRM_SM_TIM_ACT e) = 0)) }
  else if 1024 ≤ p then s.assignedBits p
  else {}

/-- The record of a remote point: what arrived last, marked STALE while it is (R301), with the defects that secure channels report there (R332). -/
def State.remoteRecord (s : State) (r : Nat) : Nat :=
  let x := Map.get {} s.prot.remotes (Key.unit r)
  let v := if s.securePoint (960 + r) then withBit x.record 8 true else x.record
  if x.stale then withBit v 15 true else v

/-- Points whose record can differ from zero. -/
def State.busPoints (s : State) : List Nat :=
  List.range 8 ++ (s.clients.map fun p => 8 + p.1.i) ++ (List.range 24).map (72 + ·) ++
    ([0, 1, 2, 3].flatMap fun e => (List.range (min 128 (modeN (s.mode e) * (s.bond e).length))).map (128 + 128 * e + ·)) ++
    s.reg.filterMap fun e => if e.1.c = 0x52 ∧ e.1.m = 0x01 ∧ 1024 ≤ e.1.x then some e.1.x else none

/-- The records of a tick, assembled from the state at its end (R38). -/
def State.assembleBus (s : State) : Map Nat :=
  let local_ := s.busPoints.foldl (fun m p => Map.set 0 m (Key.unit p) (s.pointBits p).record) []
  (List.range 64).foldl (fun m r => Map.set 0 m (Key.unit (960 + r)) (s.remoteRecord r)) local_

/-! ## What an evaluation sees (R29, R38, R277) -/

/-- Records available to an evaluation, how many ticks in a row each has been STALE, and the copies that carried a received FFF in their tick. -/
structure BusView where
  records : Map Nat
  stale : Map Nat
  flags : List (Nat × Nat)
  deriving DecidableEq, Repr

/-- What the evaluation of the coming tick sees. -/
def State.nextView (s : State) : BusView where
  records := s.prot.records
  stale := s.prot.records.foldl (fun m e =>
    if bit e.2 15 then Map.set 0 m e.1 (Map.get 0 s.prot.stale e.1 + 1) else m) []
  flags := s.prot.flags

def BusView.record (v : BusView) (p : Nat) : Nat := Map.get 0 v.records (Key.unit p)
def BusView.staleFail (v : BusView) (p : Nat) : Bool := decide (3 ≤ Map.get 0 v.stale (Key.unit p))

/-- SF and SD of a copy from its point (R277). -/
def BusView.sf (v : BusView) (g : Group) (p : Nat) : Bool :=
  let r := v.record p
  v.staleFail p || bit r 14 || (decide (g.type ≠ 1 ∧ g.type ≠ 7) && bit r 13) || (g.fff && decide (g.type ≠ 3) && bit r 11)

def BusView.sd (v : BusView) (g : Group) (p : Nat) : Bool :=
  decide (g.type ≠ 1 ∧ g.type ≠ 7) && bit (v.record p) 12

/-! ## A group's request (R286 to R290, R310) -/

def isSet (g : Group) : Bool := decide (g.type = 4) || decide (g.type = 5)

/-- A group exchanges APS or K bytes (R278, R279). -/
def usesAps (g : Group) : Bool := g.bidir && (decide (g.type = 1) || decide (g.type = 2) || decide (g.type = 3) || decide (g.type = 4) ||
  decide (g.type = 6))

/-- A group sends and reads APS or K bytes; a unidirectional MSP group does so too, with its mode bits (R298). -/
def sendsAps (g : Group) : Bool := usesAps g || decide (g.type = 6)

/-- The channel a group works for: 1 in a 1+1 group, CH of W7 in a 1:N set. -/
def channelOf (g : Group) : Nat := if isSet g then field g.w7 28 25 else 1
def headOf (g : Group) : Nat := field g.w7 15 0

/-- The accepted value that the evaluation of this tick uses: the newest one accepted at least 2 ticks before it (R278). -/
def State.farValue (s : State) (g : Nat) : Option ApsAccepted :=
  (s.pgRun g).aps.accepted.find? fun a => decide (a.tick + 2 ≤ s.now)

/-- Selects protect, where the request selects one of the copies (R286). -/
def selectsProtect (code : Nat) : Bool := [9, 8, 7, 6, 5, 3, 1].contains code

/-- The alert class in the record of the engine point of a copy (R310). -/
def pscAlert (v : BusView) (w : Nat) : Nat :=
  if epType w = 4 ∧ bit (v.record (1 + epEngine w)) 10 then field (v.record (1 + epEngine w)) 7 6 else 0

/-- The hold-off of a group: the requests whose defect stands, given those present now (R288). -/
def holdOff (r : PgRun) (present : List Nat) (ticks now : Nat) : PgRun :=
  if ticks = 0 then { r with honoured := present, holdFrom := none }
  else
    let kept := r.honoured.filter present.contains
    let new := present.filter fun c => !kept.contains c
    if new = [] then { r with honoured := kept, holdFrom := none }
    else match r.holdFrom with
      | none => { r with honoured := kept, holdFrom := some now }
      | some h => if h + ticks ≤ now then { r with honoured := present, holdFrom := none } else { r with honoured := kept }

/-- The state of one evaluation of a group by itself: its defects, timers and the local request it comes to. -/
def localRequest (v : BusView) (g : Group) (cmd hold now : Nat) (aps : Bool) (far : Nat) (r : PgRun) : PgRun × Nat :=
  let sfW := v.sf g g.pointW
  let sdW := v.sd g g.pointW
  let sfP := v.sf g g.pointP
  let sdP := v.sd g g.pointP
  let present := (if sfP then [10] else []) ++ (if sfW then [8] else []) ++ (if sdW ∧ g.sdEn then [7] else [])
  let r := holdOff { r with workingSf := sfW, workingSd := sdW, protectSf := sfP, protectSd := sdP } present g.holdOff now
  -- Periscope
  let alert := if g.psc = 1 then decide (pscAlert v g.working = 2) else if g.psc = 2 then decide (pscAlert v g.working ≠ 0) else false
  let pscFrom :=
    if alert ∧ (r.pscFrom.isSome ∨ ¬ (sfP ∨ sdP ∨ pscAlert v g.protect ≠ 0)) then some now
    else match r.pscFrom with
      | some t => if g.psc = 0 ∨ t + hold ≤ now then none else some t
      | none => none
  let ended := r.pscFrom.isSome && pscFrom.isNone && decide (r.request = 6 ∧ r.own = 6)
  let cleared := (decide (r.request = 8) || decide (r.request = 7)) && decide (r.own = r.request) && r.selector && !sfW && !sdW
  let wait := ended || cleared
  let wtrFrom := match r.wtrFrom with
    | some t => if t + g.wtr ≤ now then none else some t
    | none => if wait ∧ g.revertive then some now else none
  let dnr := r.dnr || (wait && !g.revertive)
  let exerDone := decide (r.own = 2) && (!aps || decide (far = 13))
  let asked := (if cmd = 1 then [11] else []) ++ r.honoured ++ (if cmd = 2 then [9] else []) ++ (if pscFrom.isSome then [6] else []) ++
    (if cmd = 3 then [5] else []) ++ (if cmd = 4 then [4] else []) ++ (if wtrFrom.isSome then [3] else []) ++
    (if cmd = 5 ∧ ¬ exerDone then [2] else []) ++ (if dnr then [1] else [])
  let best := ((asked.filter fun c => !(selectsProtect c && sdP && !sfW)).foldl max 0)
  ({ r with
     own := best
     pscFrom := pscFrom
     wtrFrom := if 3 < best then none else wtrFrom
     dnr := dnr && decide (best ≤ 2) }, best)

/-- MS-P and MS-W, which have one priority, are cleared when a higher request preempts them: of the group, of another channel of its set, or of the far
end; EXER when its exchange has ended. The shadow copy follows where the host has not written it (R287). -/
def State.clearCommand (s : State) (g : Nat) (r : PgRun) (highest far : Nat) (aps : Bool) : State :=
  let k := Obj.PG_CMD g
  let cmd := s.active k
  let done := ((cmd = 3 ∨ cmd = 4) ∧ 5 < highest) ∨ (cmd = 5 ∧ r.own = 2 ∧ (¬ aps ∨ far = 13))
  if done then
    let t := { s with act := Map.set (objDefault k) s.act k 0 }
    if t.shadowed k = cmd ∧ ¬ t.prot.cmdWritten.contains g then t.setShadow k 0 else t
  else s

/-- Publish a group's new bits (R37, R314); every change of its request goes to the event stream (R38). -/
def State.publish (s : State) (g : Nat) (old new : PgRun) : State :=
  let t := s.setPgRun g new
  let change := fun (t : State) (on : Bool) => t.raise Ev.PG_SWITCH [g, on.toNat, new.request]
  let u := if old.selector = new.selector then t
    else change (t.setObj (Obj.PG_SWITCH_COUNT g) (sat32 (t.obj (Obj.PG_SWITCH_COUNT g) + 1))) new.selector
  let v := if old.bridge = new.bridge then u else change u new.bridge
  let w := if old.request ≠ new.request ∧ old.selector = new.selector ∧ old.bridge = new.bridge then v.noteRequest g new.request else v
  w.withProt fun p => { p with published := if new.selector || new.bridge then (p.published.filter (· ≠ g)) ++ [g] else p.published.filter (· ≠ g) }

/-- dFOP of a group with a cause, or cleared (R297). -/
def State.setFop (s : State) (g cause : Nat) : State :=
  let r := s.pgRun g
  if r.fop = cause then s
  else ((s.setPgRun g { r with fop := cause }).setDefect Df.fop g (decide (cause ≠ 0))).raise Ev.PG_FOP [g, cause]

/-- The APS or K bytes that a group sends (R296, R298). -/
def apsBytes (entry : Nat) (g : Group) (request requested bridged : Nat) : Nat :=
  if g.type = 6 then Config.k1 request requested % 256 * 256 + bridged % 16 * 16 + (if g.bidir then 5 else 4)
  else Config.apsRequest entry request % 256 * 2 ^ 24 + requested % 256 * 2 ^ 16 + bridged % 256 * 2 ^ 8

/-- A request code and the elapsed ticks for which the far end has not bridged what is requested of it (R297). -/
def State.watchBridge (s : State) (g requested : Nat) (far : Option ApsAccepted) (strict : Bool) : State :=
  let differs := match far with
    | some a => decide (a.bridged ≠ requested) && (strict || decide (requested ≠ 0))
    | none => false
  let r := s.pgRun g
  let since := if differs then some (r.aps.mismatchSince.getD s.now) else none
  let t := s.setPgRun g { r with aps := { r.aps with mismatchSince := since } }
  match since with
  | some d => if d + 40000 ≤ t.now ∧ r.fop = 0 then t.setFop g 2 else t
  | none => if r.fop = 2 then t.setFop g 0 else t

/-- A far-end request governs: it is of higher priority than the own one (R286); MS-P and MS-W are of one priority, and of equal ones the own governs
(DESIGN CHOICE, log entry 214). -/
def farGoverns (own far : Nat) : Bool := decide (own < far) && decide (far ≤ 11) && !(decide (own = 4) && decide (far = 5))

/-- The selector of a 1+1 group. Under dFOP it is kept until an own request moves it (R297). -/
def selectOne (old : PgRun) (best : Nat) (governs : Bool) (farReq farAsks : Nat) : Bool :=
  if governs then (if farReq = 2 then old.selector else decide (farAsks ≠ 0) && decide (farReq < 10))
  else if best = 2 ∨ (old.fop ≠ 0 ∧ best = 0 ∧ old.own = 0) then old.selector
  else selectsProtect best

/-- One evaluation of a 1+1 group (R286). -/
def State.evaluateOne (s : State) (v : BusView) (n : Nat) (g : Group) : State :=
  let old := s.pgRun n
  let aps := usesAps g
  let far := if sendsAps g then s.farValue n else none
  let farReq := (far.map (·.request)).getD 0
  let (r, best) := localRequest v g (s.active (Obj.PG_CMD n)) (s.active Obj.PG_PSC_HOLD) s.now aps farReq old
  let governs := aps && decide (old.fop = 0) && farGoverns best farReq
  let sel := selectOne old best governs farReq ((far.map (·.requested)).getD 0)
  let new := { r with request := if governs then farReq else best, far := farReq, selector := sel }
  let t := (s.publish n old new).clearCommand n old new.request farReq aps
  let u := if old.pscFrom.isNone ∧ new.pscFrom.isSome then
    t.raise Ev.PSC_MOVE [n, epEngine g.working, pscAlert v g.working] else t
  let bytes := apsBytes (s.active (Obj.PG_CFG n)) g (if governs then 13 else best) sel.toNat 1
  let w := if sendsAps g then u.setObj (Obj.PG_APS_TX n) bytes else u
  if aps then w.watchBridge n sel.toNat far false else w

/-- The select groups of a set, from HEAD (R282). -/
def setGroups (head n : Nat) : List Nat := (List.range n).map fun i => head + 2 * i

/-- One evaluation of a 1:N set at its HEAD (R282, R290, R296): the highest request takes the protection channel; a channel is bridged
when the far end requests it, and selected when the far end has bridged it. Under an exercise and under dFOP the bits stay (R286, R297). -/
def State.evaluateSet (s : State) (v : BusView) (head : Nat) (g : Group) : State :=
  let far := s.farValue head
  let farReq := (far.map (·.request)).getD 0
  let farAsks := (far.map (·.requested)).getD 0
  let farBridges := (far.map (·.bridged)).getD 0
  let fop := (s.pgRun head).fop
  let runs := (setGroups head g.n).map fun k =>
    let c := groupAt s.act k
    (k, channelOf c, localRequest v c (s.active (Obj.PG_CMD k)) (s.active Obj.PG_PSC_HOLD) s.now true farReq (s.pgRun k))
  let best := (runs.map fun x => x.2.2.2).foldl max 0
  let winner := match runs.find? fun x => decide (x.2.2.2 = best) with
    | some x => if selectsProtect best ∨ best = 2 then x.2.1 else 0
    | none => 0
  let governs := decide (fop = 0) && farGoverns best farReq
  let inForce := if governs then farReq else best
  let kept := decide (fop ≠ 0) || decide (inForce = 2)
  let serving := if governs then (if farReq < 10 then farAsks else 0) else winner
  let bridged := if kept then (s.pgRun head).served else if farAsks = serving then farAsks else 0
  let t := runs.foldl (fun (t : State) (x : Nat × Nat × PgRun × Nat) =>
    let k := x.1
    let old := t.pgRun k
    let oldB := t.pgRun (k + 1)
    let sel := if kept then old.selector else decide (serving = x.2.1) && decide (farBridges = x.2.1)
    let new := { x.2.2.1 with request := if governs then farReq else x.2.2.2, far := farReq, selector := sel }
    let newB := { oldB with request := new.request, far := farReq, bridge := if kept then oldB.bridge else decide (bridged = x.2.1) }
    let u := (t.publish k old new).clearCommand k old inForce farReq true
    let w := if old.pscFrom.isNone ∧ new.pscFrom.isSome then
      let c := groupAt s.act k
      u.raise Ev.PSC_MOVE [k, epEngine c.working, pscAlert v c.working] else u
    w.publish (k + 1) oldB newB) s
  let u := t.setPgRun head { t.pgRun head with served := bridged }
  (u.setObj (Obj.PG_APS_TX head) (apsBytes (s.active (Obj.PG_CFG head)) g (if governs then 13 else best) serving bridged)).watchBridge
    head serving far true

/-- The groups an evaluation position evaluates: a 1+1 group itself, a whole set at its HEAD (R282). -/
def State.evaluateGroup (s : State) (v : BusView) (n : Nat) : State :=
  let g := groupAt s.act n
  if ¬ g.valid then s
  else if isSet g then (if headOf g = n ∧ g.type = 4 then s.evaluateSet v n g else s)
  else s.evaluateOne v n g

/-- The evaluation position of a group. -/
def State.positionOf (s : State) (n : Nat) : Nat :=
  let g := groupAt s.act n
  if isSet g then headOf g else n

/-- What a group that is not evaluated in this tick keeps (R27): its state, its command, its dFOP and its APS bytes. -/
def State.keepGroups (s : State) : State :=
  let save := fun (f : Nat → Nat) => (groupsOf s.act).foldl (fun m g => Map.set 0 m (Key.unit g.1) (f g.1)) []
  s.withProt fun p => { p with
    groupsBefore := p.groups
    cmdBefore := save fun g => s.active (Obj.PG_CMD g), cmdShadowBefore := save fun g => s.shadowed (Obj.PG_CMD g)
    fopBefore := save fun g => Map.get 0 s.defects (defectKey Df.fop g), apsBefore := save fun g => s.obj (Obj.PG_APS_TX g) }

/-- The evaluation of a tick, in group-number order (R27, R286). -/
def State.evaluate (s : State) (v : BusView) : State :=
  (groupsOf s.act).foldl (fun t p => t.evaluateGroup v p.1) s.keepGroups

/-- The channel of a 1:N set whose bridge bit is set among some selector and bridge bits, by its bridge group (R282). -/
def bridgedGroup (bits : List Nat) (head n : Nat) : Option Nat :=
  ((List.range n).map fun i => head + 2 * i + 1).find? fun k => bits.contains k

/-- MERGE and DELAY of a group entry (R280). -/
def mergeIndex (g : Group) : Nat := field g.w7 31 21
def mergeDelay (g : Group) : Nat := field g.w7 12 0

/-- A frame of a secured copy is bad: those of the copy that complete in this tick, before this row or after it (R330, R332). -/
def State.spoilCopy (s : State) (n e : Nat) : State :=
  ((groupsOf s.act).filter fun p => decide (p.2.type = 9) && groupOf s.act (connAt s.act n) == some p.1).foldl (fun t p =>
    let m := mergeIndex p.2
    let hit := ([(p.2.working, false), (p.2.protect, true)].filter fun c => s.onEngine e c.1).map (·.2)
    let bad := fun (fs : List MmFrame) => fs.map fun f => if f.tick = s.now then { f with bad := true } else f
    t.withProt fun q =>
      let r : MmRun := Map.get {} q.merges (Key.unit m)
      { q with
        spoilt := q.spoilt ++ hit.map fun c => (m, c)
        merges := Map.set {} q.merges (Key.unit m) { r with
          framesW := if hit.contains false then bad r.framesW else r.framesW
          framesP := if hit.contains true then bad r.framesP else r.framesP } }) s

/-! ## Fast Fault Flag in transmit (R154) -/

/-- The source of a copy is in signal fail as the evaluation sees it, a point that has been STALE for 3 ticks included (R29), or carries a
received FFF. -/
def sourceFails (v : BusView) (n w : Nat) : Bool :=
  let fails := fun (p : Nat) => v.staleFail p || bit (v.record p) 14
  v.flags.contains (n, w) || match epType w with
    | 4 => fails (1 + epEngine w)
    | 6 => fails (88 + epFlexGroup w)
    | _ => match hostLane w with
      | some l => fails (8 + l)
      | none => false

/-- The copy that feeds a connection after the selection of this tick's evaluation, with the connection whose mapper delivers it: of its group, of the
channel whose bridge bit is set on the protection channel of a 1:N set, which carries ODU-OCI and no copy without one, or of the MSP group of its
client (R154, R282, R283). -/
def State.selectedCopy (s : State) (n : Nat) (c : Conn) : Option (Nat × Nat) :=
  let copies := (copiesOf s.act c).map (·.1)
  match groupOf s.act c with
  | some g =>
    let x := groupAt s.act g
    if x.type = 5 then (bridgedGroup s.prot.published (headOf x) x.n).map fun k =>
      let w := (groupAt s.act k).working
      ((((connsOf s.act).find? fun p => decide (p.1 ≠ n) && decide (p.2.src = w)).map (·.1)).getD n, w)
    else some (n, if s.prot.published.contains g then copies.getD 1 (copies.headD 0) else copies.headD 0)
  | none =>
    let w := copies.headD 0
    some (n, match mspGroup s.act w with
      | some (g, x) => if s.prot.published.contains g then withField w 27 22 (epLane x.protect) else w
      | none => w)

/-- The transmit bitmap of an engine. -/
def State.fffMap (s : State) (v : BusView) (e : Nat) : Nat :=
  if s.obj (Obj.OH_FFF_TX_ENABLE e) = 0 then 0
  else
    let slots := (connsOf s.act).flatMap fun p =>
      if s.onEngine e p.2.dst ∧ ((s.selectedCopy p.1 p.2).any fun q => sourceFails v q.1 q.2) = true then (s.localSlots e (s.wordInUse p.1 1 p.2.dst)).map slotBit
      else []
    slots.dedup.foldl (fun m b => withBit m (639 - b) true) 0

def State.refreshFffTx (s : State) (v : BusView) : State :=
  let t := s.withProt fun p => { p with
    fffBefore := [0, 1, 2, 3].foldl (fun m e => Map.set 0 m (Key.unit e) (s.obj (Obj.OH_FFF_TX_MAP e))) [] }
  [0, 1, 2, 3].foldl (fun u e => u.setObj (Obj.OH_FFF_TX_MAP e) (u.fffMap v e)) t

/-! ## Remote points and export (R300, R301) -/

/-- A PG_REMOTE or PG_EXPORT entry is enabled. -/
def entryOn (v : Nat) : Bool := bit v 31

/-- A remote point without an update in the 64 ticks before this one is STALE. -/
def State.remoteCheck (s : State) (r : Nat) : State :=
  let entry := s.active (Obj.PG_REMOTE r)
  let x := Map.get {} s.prot.remotes (Key.unit r)
  if entryOn entry ∧ ¬ x.stale ∧ x.updated + 65 ≤ s.now then
    (s.withProt fun p => { p with remotes := Map.set {} p.remotes (Key.unit r) { x with stale := true } }).raise Ev.REMOTE_STALE
      [960 + r, field entry 29 24]
  else s

/-- Urgent entries of the ring frame of this tick: the enabled records of two ticks before that have changed, or all of them in phase 0. -/
def State.exportRecords (s : State) : State :=
  let on := (List.range 64).filter fun k => entryOn (s.active (Obj.PG_EXPORT k))
  let record := fun (k : Nat) => Map.get 0 s.prot.available (Key.unit (field (s.active (Obj.PG_EXPORT k)) 16 0))
  let send := on.filter fun k => decide (s.phase = 0) || decide (record k ≠ Map.get 0 s.prot.exported (Key.unit k))
  s.withProt fun p => { p with
    urgent := send.map fun k => ⟨k, s.tick - 2, record k⟩
    exported := on.foldl (fun m k => Map.set 0 m (Key.unit k) (record k)) [] }

/-- A record's tick [23:0] lies after another (R440, R445). -/
def laterTick (a b : Nat) : Bool := decide (a % 2 ^ 24 ≠ b % 2 ^ 24) && decide ((a + 2 ^ 24 - b % 2 ^ 24) % 2 ^ 24 < 2 ^ 23)

/-- A record arrives from another node (R301, R445): a duplicate, or a record older than the one held, is ignored. -/
def State.receiveRemote (s : State) (node index tick record : Nat) : State :=
  let mine := (List.range 64).filter fun r =>
    let e := s.active (Obj.PG_REMOTE r)
    let x := Map.get {} s.prot.remotes (Key.unit r)
    let newer := x.stale || match x.tick with
      | some t => laterTick tick t
      | none => true
    entryOn e && decide (field e 29 24 = node) && decide (field e 21 16 = index) && newer
  mine.foldl (fun t r => t.withProt fun p => { p with
    remotes := Map.set {} p.remotes (Key.unit r) ⟨record % 2 ^ 16, some (tick % 2 ^ 24), t.now, false⟩ }) s

/-! ## Meanings -/

/-- The evaluation of the coming tick for the group's position; the snapshot of the coming boundary stays that of the bits published before it
(R37). -/
def State.evaluateComing (s : State) (g : Nat) : State :=
  (s.withProt fun p => { p with snapshotNext := some (p.snapshotNext.getD p.published) }).atBoundary fun t =>
    t.evaluateGroup s.nextView (s.positionOf g)

/-- HOLDOFF_EXPIRE (R288). -/
def execHoldoffExpire (g : Fin 65536) (s : State) : Out :=
  match (s.pgRun g).holdFrom with
  | some h => if h + (groupAt s.act g).holdOff ≤ s.now + 1 then .next (s.evaluateComing g) else .next s
  | none => .next s

/-- WTR_EXPIRE (R289). -/
def execWtrExpire (g : Fin 65536) (s : State) : Out :=
  match (s.pgRun g).wtrFrom with
  | some w => if w + (groupAt s.act g).wtr ≤ s.now + 1 then .next (s.evaluateComing g) else .next s
  | none => .next s

/-- PSC_HOLD_EXPIRE (R310). -/
def execPscHoldExpire (g : Fin 65536) (s : State) : Out :=
  match (s.pgRun g).pscFrom with
  | some t => if t + s.active Obj.PG_PSC_HOLD ≤ s.now + 1 then .next (s.evaluateComing g) else .next s
  | none => .next s

/-- The APS level of a group (R280, R296). -/
def apsLevel (g : Group) : Nat := field g.w7 31 29

/-- The APS values that the ODU of a connection carries toward its destination, each in the frames of its level (R296): of the groups whose protect
copy, or protection channel, that destination is. -/
def State.apsCarried (s : State) (m : Map Nat) (dst : Nat) : List (Nat × Nat) :=
  (groupsOf m).filterMap fun p =>
    if p.2.type ≤ 4 ∧ usesAps p.2 = true ∧ epName p.2.protect = epName dst ∧ (isSet p.2 = true → headOf p.2 = p.1) then
      some (apsLevel p.2, s.obj (Obj.PG_APS_TX p.1)) else none

/-- APS_RECEIVE (R296, R297, R278): a value in a frame of another level is none; accepted after 3 identical occurrences; an invalid value, or one of another protection type, is dFOP. -/
def execApsReceive (g : Fin 65536) (a : ApsValue) (s : State) : Out :=
  let c := groupAt s.act g
  if ¬ (c.valid ∧ sendsAps c ∧ (isSet c → headOf c = g)) ∨ (c.type ≤ 4 ∧ a.mfas % 8 ≠ apsLevel c) then .next s
  else
    let r := s.pgRun g
    let run := if a.raw = r.aps.last then min 3 (r.aps.run + 1) else 1
    let t := s.setPgRun g { r with aps := { r.aps with last := a.raw, run := run } }
    if run < 3 then .next t
    else if ¬ a.valid then .next (t.setFop g 3)
    else
      let same := match r.aps.accepted with
        | x :: _ => decide (x.raw = a.raw)
        | [] => false
      let u := if same then t else
        t.setPgRun g { t.pgRun g with aps := { (t.pgRun g).aps with
          accepted := (⟨a.raw, a.request, a.requested, a.bridged, s.now⟩ :: r.aps.accepted).take 4 } }
      let v := u.setObj (Obj.PG_APS_RX g) a.raw
      .next (if ¬ a.provisioned then v.setFop g 1 else if r.fop = 1 ∨ r.fop = 3 then v.setFop g 0 else v)

/-- FOP_MISMATCH_TIMEOUT (R297): 50 ms of a bridged signal that differs from the requested one. -/
def execFopMismatchTimeout (g : Fin 65536) (s : State) : Out :=
  match (s.pgRun g).aps.mismatchSince with
  | some d => if d + 40000 ≤ s.now ∧ (s.pgRun g).fop = 0 then .next (s.setFop g 2) else .next s
  | none => .next s

/-- REMOTE_RECORD_RECEIVE (R301, R445). -/
def execRemoteRecordReceive (node index : Fin 64) (tick record : Nat) (s : State) : Out :=
  .next (s.receiveRemote node index tick record)

/-- REMOTE_STALE (R301). -/
def execRemoteStale (r : Fin 64) (s : State) : Out := .next (s.remoteCheck r)

end Sys2Proof.Machine
end

