-- ==== Sys2Proof/Machine/MirrorMerge.lean ====
section
/-! DEFINITION. Mirror Merge (R302 to R309). -/

namespace Sys2Proof.Machine

def State.mm (s : State) (m : Nat) : MmRun := Map.get {} s.prot.merges (Key.unit m)
def State.withMm (s : State) (m : Nat) (f : MmRun → MmRun) : State :=
  s.withProt fun p => { p with merges := Map.set {} p.merges (Key.unit m) (f (s.mm m)) }

/-- The group of a merge index in the active set. -/
def State.mmGroup (s : State) (m : Nat) : Option (Nat × Group) :=
  (groupsOf s.act).find? fun p => decide (p.2.type = 9) && decide (mergeIndex p.2 = m)

/-- Fields of MM_STATE (R313). -/
def State.mmState (s : State) (m : Nat) : Nat := field (s.obj (Obj.MM_STATE m)) 31 28
def State.mmEarly (s : State) (m : Nat) : Bool := bit (s.obj (Obj.MM_STATE m)) 25
def State.mmDelta (s : State) (m : Nat) : Nat := field (s.obj (Obj.MM_STATE m)) 12 0

/-- The FALLBACK cause that MM_STATE reports (R309): the first of NOSEQ, HBM and DELAY that holds. -/
def State.mmCause (s : State) (m : Nat) : Nat :=
  if (s.mm m).noseq then 1 else if s.prot.hbmFault then 2 else if (s.mm m).delay then 3 else 0

/-- A merge group enters a state (R304, R314). -/
def State.setMm (s : State) (m new : Nat) (early : Bool) (delta : Nat) : State :=
  let old := s.mmState m
  let cause := if new = 3 then s.mmCause m else 0
  let t := s.setObj (Obj.MM_STATE m) (new * 2 ^ 28 + cause * 2 ^ 26 + early.toNat * 2 ^ 25 + delta % 2 ^ 13)
  if old = new then t else t.raise Ev.MM_STATE [m, old, new, delta]

/-- FALLBACK is entered for any cause and left when every cause has cleared (R304, R309). -/
def State.refreshMm (s : State) (m : Nat) : State :=
  let st := s.mmState m
  if st = 0 then s
  else if s.mmCause m ≠ 0 then s.setMm m 3 (s.mmEarly m) (s.mmDelta m)
  else if st = 3 then s.setMm m 1 false 0
  else s

/-- A sequence value lies after another, modulo 2³². -/
def seqAfter (a b : Nat) : Bool := decide (a ≠ b) && decide ((a + 2 ^ 32 - b) % 2 ^ 32 < 2 ^ 31)

/-- The tick that a copy's frame of a sequence value completed in. -/
def frameTick (fs : List MmFrame) (q : Nat) : Option Nat := (fs.find? fun f => decide (f.seq = q)).map (·.tick)

/-- The spread of the last 8 differences is at most 1 tick (R305). -/
def diffsSettled (ds : List Int) : Bool :=
  decide (8 ≤ ds.length) && ds.all fun a => ds.all fun b => decide (a - b ≤ 1)

def largestDiff (ds : List Int) : Nat := ds.foldl (fun m d => max m d.natAbs) 0

/-- The protect copy of a group is selected. -/
def State.atProtect (s : State) (g : Nat) : Bool := s.prot.snapshot.contains g

/-- Alignment at a frame boundary (R305): ALIGNED, or FALLBACK where the difference exceeds DELAY. The output goes on after the frame last output. -/
def State.mmAlign (s : State) (m g delay : Nat) : State :=
  let r := s.mm m
  if 8 ≤ r.runW ∧ 8 ≤ r.runP ∧ diffsSettled r.diffs then
    let delta := largestDiff r.diffs
    let early := decide (r.diffs.foldl (fun a d => if a.natAbs < d.natAbs then d else a) 0 < 0)
    if delay < delta then ((s.withMm m fun r => { r with delay := true }).refreshMm m)
    else
      let t := (s.withMm m fun r => { r with delay := false }).refreshMm m
      if t.mmState m = 1 then
        let u := t.setMm m 2 early delta
        u.withMm m fun r => { r with
          notValid := if s.atProtect g = early then delta else 0, outputBad := false, expected := none, lateSince := none, lateReported := false }
      else t
  else s

/-- The group is re-timed to the difference observed last (R308). -/
def State.mmRetime (s : State) (m delay : Nat) : State :=
  let r := s.mm m
  match r.diffs with
  | [] => s.withMm m fun r => { r with retime := false }
  | d :: _ =>
    let old := s.mmDelta m
    if s.mmState m ≠ 2 ∨ delay < d.natAbs then s.withMm m fun r => { r with retime := false }
    else
      let t := s.setMm m 2 (decide (d < 0)) d.natAbs
      (t.withMm m fun r => { r with
        retime := false, lateSince := none, lateReported := false
        notValid := r.notValid + (d.natAbs - old) }).raise Ev.MM_RETIME [m, old, d.natAbs]

/-- A frame of a copy completes (R305 to R309). -/
def State.mmFrame (s : State) (m : Nat) (protect : Bool) (f : OduFrame) (n : Nat) (g : Group) : State :=
  let r := s.mm m
  let point := if protect then g.pointP else g.pointW
  let b := s.pointBits point
  let clean := !f.uncorrected && !f.maintenance && !b.ssf && !b.tsf && !s.prot.spoilt.contains (m, protect)
  let early := s.mmEarly m
  let bad := f.seq.isNone || !clean || (f.hbmBad && decide (protect = early) && decide (s.mmState m = 2))
  let last := if protect then r.lastP else r.lastW
  let run := if protect then r.runP else r.runW
  let run' := match f.seq, last with
    | some q, some l => if q = (l + 1) % 2 ^ 32 then min 8 (run + 1) else 1
    | some _, none => 1
    | none, _ => 0
  let without := if protect then r.noseqP else r.noseqW
  let without' := if f.seq.isSome then 0 else if clean then min 64 (without + 1) else without
  let keep := fun (fs : List MmFrame) => fs.filter fun x => decide (s.now ≤ x.tick + mergeDelay g + 2)
  let mine := keep (if protect then r.framesP else r.framesW) ++ (match f.seq with
    | some q => [⟨q, s.now, bad⟩]
    | none => [])
  let other := keep (if protect then r.framesW else r.framesP)
  let theirs := if protect then r.seenW else r.seenP
  let diff := f.seq.bind fun q => (theirs.find? fun x => decide (x.1 = q)).map fun x =>
    if protect then (s.now : Int) - x.2 else (x.2 : Int) - s.now
  let seen := (if protect then r.seenP else r.seenW) ++ (match f.seq, diff with
    | some q, none => [(q, s.now)]
    | _, _ => [])
  let left := match f.seq, diff with
    | some q, some _ => theirs.filter fun x => seqAfter x.1 q
    | _, _ => theirs
  let diffs := if run' ≤ 1 then [] else r.diffs
  let diffs' := match diff with
    | some d => (d :: diffs).take 8
    | none => diffs
  let late := s.mmState m = 2 ∧ ¬ bad ∧ (match f.seq, r.output with
    | some q, some o => !seqAfter q o.1
    | _, _ => false) = true
  let lateSince := if late then (if r.lateCopy = protect then some (r.lateSince.getD s.now) else some s.now)
    else if r.lateCopy = protect then none else r.lateSince
  let chosen := decide (s.mmState m ≠ 2) && (protect == s.atProtect n)
  let expected := match f.seq with
    | some q => if (match r.expected with
        | some x => seqAfter q x.1
        | none => true) = true then some (q, if protect = early then s.now + s.mmDelta m else s.now) else r.expected
    | none => r.expected
  let t := s.withMm m fun r => { r with
    seenW := if protect then left else seen, seenP := if protect then seen else left
    output := if chosen then (f.seq.map fun q => (q, protect)).orElse (fun _ => r.output) else r.output
    expected := if s.mmState m = 2 then expected else none
    runW := if protect then r.runW else run', runP := if protect then run' else r.runP
    lastW := if protect then r.lastW else f.seq, lastP := if protect then f.seq else r.lastP
    framesW := if protect then other else mine, framesP := if protect then mine else other
    noseqW := if protect then r.noseqW else without', noseqP := if protect then without' else r.noseqP
    diffs := diffs', lastValid := if bad then r.lastValid else s.now
    lateSince := lateSince, lateCopy := if late then protect else r.lateCopy
    lateReported := r.lateReported && lateSince.isSome }
  let r := t.mm m
  let noseq := if r.noseq then !(decide (8 ≤ run')) else decide (64 ≤ r.noseqW) && decide (64 ≤ r.noseqP)
  let u := (t.withMm m fun r => { r with noseq := noseq }).refreshMm m
  let v := if u.mmState m = 1 ∨ u.mmState m = 3 then u.mmAlign m n (mergeDelay g) else u
  if (v.mm m).retime then v.mmRetime m (mergeDelay g) else v

/-! ## Decisions (R306, R307) -/

/-- The preferred copy: protect under FS, PSC and MS-P, else working (R306). -/
def prefersProtect (request : Nat) : Bool := decide (request = 9) || decide (request = 6) || decide (request = 5)

/-- Sequence values after the newest that a copy delivered whose frames were due by now at an ODU rate (R306; DEDUCED, log entry 215: a frame in each
frame period, and one tick for the fraction of a tick). -/
def silentSeqs (r : MmRun) (rate now : Nat) : List Nat :=
  match r.expected with
  | none => []
  | some x => (List.range (min 64 ((now - 2 - x.2) * rate / (122368 * 800000)))).map fun i => (x.1 + 1 + i) % 2 ^ 32

/-- The values between two, which neither copy has delivered. -/
def seqsBetween (a b : Nat) : List Nat := (List.range (min 64 ((b + 2 ^ 32 - a - 1) % 2 ^ 32))).map fun i => (a + 1 + i) % 2 ^ 32

/-- The sequence values of a group that are due for decision, in order: those that the late copy has completed, those that the early one completed Δ ago,
and those absent on both copies that lie before them or were due by themselves. -/
def dueSeqs (r : MmRun) (early : Bool) (delta rate now : Nat) : List Nat :=
  let e := if early then r.framesP else r.framesW
  let l := if early then r.framesW else r.framesP
  let qs := (l.filter fun f => decide (f.tick < now)).map (·.seq) ++ (e.filter fun f => decide (f.tick + delta < now)).map (·.seq) ++
    silentSeqs r rate now
  let after := match r.output with
    | some o => let ahead := qs.filter fun q => seqAfter q o.1
      ahead ++ ahead.flatMap fun q => seqsBetween o.1 q
    | none => qs
  sortBy (fun a b => !seqAfter a b) after.dedup

/-- One decision: the copy whose frame is output. -/
def State.mmDecide (s : State) (m g q : Nat) : State :=
  let r := s.mm m
  let request := (s.pgRun g).request
  let isBad : List MmFrame → Bool := fun fs => match fs.find? fun f => decide (f.seq = q) with
    | some f => f.bad
    | none => true
  let pref := prefersProtect request
  let badPref := isBad (if pref then r.framesP else r.framesW)
  let badOther := isBad (if pref then r.framesW else r.framesP)
  let other := decide (request ≠ 11) && badPref && !badOther
  let t := s.withMm m fun r => { r with output := some (q, pref != other), outputBad := if other then badOther else badPref }
  let u := if other then t.bump (Obj.MM_FROM_OTHER m) else t
  if badPref && badOther then u.bump (Obj.MM_BOTH_BAD m) else u

/-- Nominal rate of the ODU of a merge group, in bit/s: its container's, or what the connection's SIZE carries. -/
def State.mmRate (s : State) (set : Map Nat) (n : Nat) (g : Group) : Nat :=
  match (connsOf set).find? fun p => groupOf set p.2 == some n with
  | none => 0
  | some (_, c) =>
    let of := fun (w : Nat) => ((s.endpoint true w c.size).map (·.nominal)).getD 0
    let dst := ((s.endpoint false c.dst c.size).map (·.nominal)).getD 0
    let r := max (max (of g.working) (of g.protect)) dst
    if r = 0 then (c.size - 1) * 32 * (if c.classM then 25000 else 800000) else r

/-- HBM reserved for a group, in MiB (R303). -/
def mmReserve (rate delay : Nat) : Nat := ceilDiv (rate * delay * 5) (4000000 * 8 * 1048576)

/-- Merge groups of a copy of the group table. -/
def mergeGroups (set : Map Nat) : List (Nat × Group) := (groupsOf set).filter fun p => decide (p.2.type = 9)

def State.mmReserved (s : State) (set : Map Nat) : Nat :=
  ((mergeGroups set).map fun p => mmReserve (s.mmRate set p.1 p.2) (mergeDelay p.2)).sum

def State.mmRateUsed (s : State) (set : Map Nat) : Nat := ((mergeGroups set).map fun p => s.mmRate set p.1 p.2).sum

/-- Ticks of 8 frame periods of an ODU of 122,368 bits (R293, R304). -/
def silentTicks (rate : Nat) : Nat := ceilDiv (8 * 122368 * 800000) (max 1 rate)

/-- The merge engine's work in a tick (R304, R306). -/
def State.mmTick (s : State) (n : Nat) (g : Group) : State :=
  let m := mergeIndex g
  let r := s.mm m
  let t := if 0 < r.notValid then s.withMm m fun r => { r with notValid := r.notValid - 1 } else s
  if t.mmState m = 2 then
    let u := (dueSeqs r (t.mmEarly m) (t.mmDelta m) (t.mmRate t.act n g) t.now).foldl (fun u q => u.mmDecide m n q) t
    if (u.mm m).lastValid + silentTicks (u.mmRate u.act n g) ≤ u.now then u.setMm m 1 false 0 else u
  else t

def State.mergeStage (s : State) : State := (mergeGroups s.act).foldl (fun t p => t.mmTick p.1 p.2) s

/-- Which copy writes the positions of a merged connection (R304): that of the last decision in ALIGNED, else the selector's. -/
def State.mmCopy (s : State) (g m : Nat) : Bool :=
  if s.mmState m = 2 then ((s.mm m).output.map (·.2)).getD (s.atProtect g) else s.atProtect g

/-- HBM fallback of every group that is not in FALLBACK; the frames that the HBM holds are dropped (R309, R311). -/
def State.hbmFallback (s : State) (cause : Nat) : State :=
  let t := (s.withProt fun p => { p with hbmFault := true }).raise Ev.MM_FALLBACK [cause]
  (mergeGroups s.act).foldl (fun t p =>
    (t.withMm (mergeIndex p.2) fun r => { r with framesW := [], framesP := [] }).refreshMm (mergeIndex p.2)) t

/-- The HBM fallback cause clears (R309). -/
def State.hbmBack (s : State) : State :=
  (mergeGroups s.act).foldl (fun t p => t.refreshMm (mergeIndex p.2)) (s.withProt fun p => { p with hbmFault := false })

/-! ## Meanings -/

def acceptMerge : Accept := fun k v s =>
  if k.m = 0x07 then (.ok, s.withMm v.v fun r => { r with retime := true }) else acceptStage k v s

/-- MM_FRAME_COMPLETE (R305 to R309). -/
def execMmFrameComplete (m : Fin 2048) (protect : Bool) (f : OduFrame) (s : State) : Out :=
  match s.mmGroup m with
  | none => .next s
  | some (n, g) => .next (s.mmFrame m protect f n g)

/-- MM_AUTO_RETIME (R308). -/
def execMmAutoRetime (m : Fin 2048) (s : State) : Out :=
  match s.mmGroup m, (s.mm m).lateSince with
  | some (_, g), some since =>
    let r := s.mm m
    let new := (r.diffs.headD 0).natAbs
    if s.mmState m ≠ 2 ∨ s.now < since + s.obj Obj.MM_RETIME_WAIT then .next s
    else if s.obj Obj.MM_AUTO_RETIME = 1 ∧ new ≤ mergeDelay g then .next (s.mmRetime m (mergeDelay g))
    else if r.lateReported then .next s
    else .next ((s.withMm m fun r => { r with lateReported := true }).raise Ev.MM_LATE
      [m, r.lateCopy.toNat, new - s.mmDelta m])
  | _, _ => .next s

/-- MM_RETIME (R308). -/
def execMmRetime (rq : Rq) (val : Val) (s : State) : Out := .next (serveWrite acceptMerge rq Obj.MM_RETIME val s)

end Sys2Proof.Machine
end

