-- ==== Sys2Proof/Machine/SecureLine.lean ====
section
/-! DEFINITION. Line encryption: secure channels, keys and rollover, key agreement (chapter 09). -/

namespace Sys2Proof.Machine

def State.withSec (s : State) (f : SecureLine → SecureLine) : State := { s with sec := f s.sec }
def State.secChan (s : State) (e ch : Nat) : SecChan := Map.get {} s.sec.channels (Key.unit (1024 * e + ch))
def State.withChan (s : State) (e ch : Nat) (f : SecChan → SecChan) : State :=
  s.withSec fun x => { x with channels := Map.set {} x.channels (Key.unit (1024 * e + ch)) (f (s.secChan e ch)) }

/-! ## Configuration (R316 to R318) -/

end Sys2Proof.Machine

namespace Sys2Proof

open Sys2Proof.Machine

/-- ENC, KI and FC of a frame's SOH (R321), and the AAD of its invocation (R323). -/
def OduBody.enc (b : OduBody) : Bool := bit (bytesOf 6 b.soh 0 1) 5
def OduBody.ki (b : OduBody) : Nat := field (bytesOf 6 b.soh 0 1) 7 6
def OduBody.fc (b : OduBody) : Nat := b.soh % 2 ^ 40
def OduBody.aad (b : OduBody) : Nat := packBytes [(6, b.soh), (5, b.mirror), (1, b.psi)]

end Sys2Proof

namespace Sys2Proof.Machine

/-- A SEC_CHAN entry. -/
structure SecCfg where
  on : Bool
  txEn : Bool
  rxPol : Nat
  verifyFirst : Bool
  auto : Bool
  tx : Bool
  txConn : Nat
  rx : Bool
  rxConn : Nat
  report : Bool
  point : Nat
  deriving DecidableEq, Repr

def decodeSec (v : Nat) : SecCfg where
  on := bit v 127
  txEn := bit v 126
  rxPol := field v 125 124
  verifyFirst := bit v 123
  auto := bit v 122
  tx := bit v 121 && bit v 127
  txConn := field v 114 96
  rx := bit v 95 && bit v 127
  rxConn := field v 82 64
  report := bit v 63
  point := field v 48 32

/-- The entries of a set that are present: engine, channel, entry. -/
def secOf (m : Map Nat) : List (Nat × Nat × SecCfg) :=
  m.filterMap fun e =>
    if e.1.c = 0x14 ∧ e.1.m = 0x01 ∧ e.1.i < 4 then
      let c := decodeSec e.2
      if c.on then some (e.1.i, e.1.x, c) else none
    else none

def State.rxCfg (s : State) (e ch : Nat) : SecCfg := decodeSec (s.active (Obj.SEC_CHAN e ch))

/-- The transmit half's entry: until tick E + 2 of a swap the one before it (R318). -/
def State.txCfg (s : State) (e ch : Nat) : SecCfg :=
  match s.shadow.lastSwap with
  | some b => if s.now < b + 2 then decodeSec (Map.get 0 s.sec.before (Obj.SEC_CHAN e ch)) else s.rxCfg e ch
  | none => s.rxCfg e ch

/-- dAUTH and dKEYEXH of a channel are those of this instance (R570). -/
def secInst (e ch : Nat) : Nat := 1024 * e + ch

/-- KI of an epoch (R321, R335). -/
def keyIndex (k : SecKey) : Nat := k.epoch % 4

/-- The epoch after that of a half's CURRENT; a half without one starts with epoch 0 (R335). -/
def epochAfter : Option SecKey → Nat
  | some k => (k.epoch + 1) % 2 ^ 24
  | none => 0

/-! ## Links (R339, R340) -/

/-- The engine whose key channel serves an engine: itself, or the first of its bonded group. -/
def State.linkOf (s : State) (e : Nat) : Nat := (s.bond e).headD e
def State.link (s : State) (e : Nat) : SecLink := Map.get {} s.sec.links (Key.unit (s.linkOf e))
def State.withLink (s : State) (e : Nat) (f : SecLink → SecLink) : State :=
  s.withSec fun x => { x with links := Map.set {} x.links (Key.unit (s.linkOf e)) (f (s.link e)) }

/-- The bytes of a value, most significant first. -/
def octets (n v : Nat) : List Nat := (List.range n).map fun i => v / 256 ^ (n - 1 - i) % 256

/-- Type and body of a key-agreement message (R339). -/
def KaMessage.parts : KaMessage → Nat × List Nat
  | .hello k n => (1, octets 1952 k ++ octets 32 n)
  | .ek k sig => (2, octets 1568 k ++ octets 3309 sig)
  | .ct c sig => (3, octets 1568 c ++ octets 3309 sig)
  | .confirm v => (4, octets 32 v)
  | .ready tpn d epoch check => (5, octets 2 tpn ++ octets 1 d ++ octets 3 epoch ++ octets 8 check)
  | .abort cause => (6, octets 1 cause)

/-- A message as it is sent: type, version 1, length of the body, body. -/
def KaMessage.bytes (m : KaMessage) : List Nat := [m.parts.1, 1] ++ octets 2 m.parts.2.length ++ m.parts.2

/-- The 32-bit FCS of ISO/IEC 13239, least significant bit of each byte first. -/
def hdlcFcs (bytes : List Nat) : Nat :=
  Nat.xor (2 ^ 32 - 1) (bytes.foldl (fun r b =>
    (List.range 8).foldl (fun r _ => if r % 2 = 1 then Nat.xor (r / 2) 0xEDB88320 else r / 2) (Nat.xor r b)) (2 ^ 32 - 1))

/-- An HDLC frame with 0x7E flags and byte stuffing (R339): the message, then its FCS, least significant byte first, without address and control
bytes. DEDUCED (log entry 188). -/
def hdlcFrame (bytes : List Nat) : List Nat :=
  let stuffed := (bytes ++ (octets 4 (hdlcFcs bytes)).reverse).flatMap fun b => if b = 0x7E ∨ b = 0x7D then [0x7D, Nat.xor b 0x20] else [b]
  0x7E :: stuffed ++ [0x7E]

/-- A message is sent on the key channel (R339). -/
def State.send (s : State) (e : Nat) (m : KaMessage) : State :=
  s.withLink e fun l => { l with outbox := l.outbox ++ [m], wire := l.wire ++ hdlcFrame m.bytes }

/-- A route's channel is the key channel of an engine or group: GCC0 of its OTUC instance 1 (R339). -/
def State.keyRoute (s : State) (x : Nat) : Option Nat :=
  let v := s.obj (Obj.OH_GCC_ROUTE x)
  let e := field v 28 27
  if field v 30 29 = 0 ∧ field v 18 0 = 0 ∧ s.linkOf e = e then some e else none

/-- The key channel's buffer toward the line is filled from what waits to be sent (R157, R159): GCC0 of OTUC instance 1 of the link's engine. -/
def State.feedKey (s : State) (x : Nat) : State :=
  match s.keyRoute x with
  | some e =>
    let buf := Map.get [] s.gccIn (Key.unit x)
    let n := 64 - buf.length
    { s with gccIn := Map.set [] s.gccIn (Key.unit x) (buf ++ (s.link e).wire.take n) }.withLink e fun l => { l with wire := l.wire.drop n }
  | none => s

def State.feedKeys (s : State) : State := (s.portRoutes 4).foldl State.feedKey s

/-- SEC_LINK_STATE of the engine or of every member of its group. -/
def State.setLinkState (s : State) (e v : Nat) : State := (s.bond e).foldl (fun t i => t.setObj (Obj.SEC_LINK_STATE i) v) s

/-- D of the traffic that this end transmits: 0 where it is the initiator (R340). -/
def sentDirection (k : LinkSecret) : Nat := if k.initiator then 0 else 1

/-- Key and salt of a channel, and the check value (R340). -/
def channelKey (secret tpn d epoch : Nat) : Nat :=
  Config.shake256 36 [⟨4, 0x4348414E⟩, ⟨32, secret⟩, ⟨2, tpn⟩, ⟨1, d⟩, ⟨3, epoch⟩]
def checkValue (k : SecKey) : Nat := Config.shake256 8 [⟨3, 0x4B4356⟩, ⟨36, k.material⟩]

/-- The TPN of a half's connection on the line. -/
def State.halfTpn (s : State) (e ch : Nat) (receive : Bool) : Nat :=
  if receive then (connAt s.act (s.rxCfg e ch).rxConn).srcTpn else (connAt s.act (s.txCfg e ch).txConn).dstTpn

/-! ## Trigger and readiness (R336) -/

/-- A transmit half with encryption on and no live key (R334). -/
def State.waitKey (s : State) (e ch : Nat) : Bool :=
  (s.txCfg e ch).tx && (s.txCfg e ch).txEn && (s.secChan e ch).txCurrent.isNone

/-- NEXT is ready: installed by the host, or announced by the far end with the same check value. -/
def State.nextReady (s : State) (e ch : Nat) : Bool :=
  match (s.secChan e ch).txNext with
  | none => false
  | some k => if s.obj (Obj.SEC_KEY_SOURCE e) = 1 then (s.secChan e ch).txHost
      else decide ((s.secChan e ch).heard = some (k.epoch, checkValue k))

/-- Since when trigger and readiness hold. A half in WAIT_KEY needs no trigger. -/
def State.settle (s : State) (e ch : Nat) : State :=
  let on := ((s.secChan e ch).rolling || s.waitKey e ch) && s.nextReady e ch
  s.withChan e ch fun c => { c with eligible := if on then some (c.eligible.getD s.now) else none }

/-- A rollover is triggered; a half that is ROLLING takes no second trigger (R336, R343). -/
def State.trigger (s : State) (e ch : Nat) : State :=
  if (s.txCfg e ch).tx ∧ (s.txCfg e ch).txEn ∧ (s.secChan e ch).txCurrent.isSome then
    (s.withChan e ch fun c => { c with rolling := true }).settle e ch
  else s

/-! ## Writes into the key store (R336, R337, R340, R342) -/

/-- NEXT of a half is derived from the link secret; the receive half announces it (R336, R340). -/
def State.derive (s : State) (e ch : Nat) (receive : Bool) : State :=
  let c := s.secChan e ch
  let present := if receive then (s.rxCfg e ch).rx else (s.txCfg e ch).tx
  match (s.link e).secret with
  | none => s
  | some l =>
    if ¬ present ∨ s.obj (Obj.SEC_KEY_SOURCE e) = 1 then s
    else
      let d := if receive then 1 - sentDirection l else sentDirection l
      let tpn := s.halfTpn e ch receive
      let epoch := epochAfter (if receive then c.rxCurrent else c.txCurrent)
      let k : SecKey := ⟨epoch, channelKey l.value tpn d epoch⟩
      if receive then
        (s.withChan e ch fun c => { c with rxNext := some k, announced := true }).send e (.ready tpn d epoch (checkValue k))
      else (s.withChan e ch fun c => { c with txNext := some k, txHost := false }).settle e ch

/-- Every half of the link's engines that the active set has. -/
def State.linkChannels (s : State) (e : Nat) : List (Nat × Nat) :=
  ((secOf s.act).filter fun x => (s.bond e).contains x.1).map fun x => (x.1, x.2.1)

/-- A link secret goes live: every NEXT not yet used is derived again, and with AUTO every channel rolls (R336, R340). -/
def State.goLive (s : State) (e : Nat) (l : LinkSecret) : State :=
  let t := (s.withLink e fun x => { x with secret := some { l with since := s.now }, agreement := none, retryAt := none }).setLinkState e 2
  (s.linkChannels e).foldl (fun t c =>
    let u := (t.derive c.1 c.2 false).derive c.1 c.2 true
    if (u.rxCfg c.1 c.2).auto then u.trigger c.1 c.2 else u)
    (t.raise Ev.KA_DONE [e, if l.initiator then 0 else 1, l.peer / 2 ^ 192])

def applyKeyWrite : KeyWrite → State → State
  | .install e ch true k, s => s.withChan e ch fun c => { c with rxNext := some k, announced := false }
  | .install e ch false k, s => (s.withChan e ch fun c => { c with txNext := some k, txHost := true }).settle e ch
  | .derive e ch receive, s => s.derive e ch receive
  | .live e l, s => s.goLive e l

/-- The halves that a deferred write concerns. -/
def State.keyWriteHalves (s : State) : KeyWrite → List (Nat × Nat)
  | .install e ch _ _ => [(e, ch)]
  | .derive e ch _ => [(e, ch)]
  | .live e _ => s.linkChannels e

/-- Any rail is at its warning level at cycle 0 of the tick (R342, R499). -/
def State.keysHeld (s : State) : Bool := decide (s.obj Obj.PWR_WARN_ACTIVE ≠ 0)

/-- A key-store write or a switch is deferred, reported once per warning with the rail (R342). -/
def State.deferKeys (s : State) (e : Nat) (halves : List (Nat × Nat)) : State :=
  let t := halves.foldl (fun t h => t.withChan h.1 h.2 fun c => { c with deferred := true }) s
  if t.sec.warned then t
  else
    let rail := ((List.range 12).find? fun r => bit (s.obj Obj.PWR_WARN_ACTIVE) r).getD 0
    (t.withSec fun x => { x with warned := true }).raise Ev.KEY_DEFERRED [e, rail]

def keyWriteEngine : KeyWrite → Nat
  | .install e _ _ _ => e
  | .derive e _ _ => e
  | .live e _ => e

/-- There is something to write: a NEXT is derived in AGREED, from a link secret, for a half that is present. -/
def State.writesKey (s : State) : KeyWrite → Bool
  | .derive e ch receive => (s.link e).secret.isSome && (if receive then (s.rxCfg e ch).rx else (s.txCfg e ch).tx) &&
      decide (s.obj (Obj.SEC_KEY_SOURCE e) ≠ 1)
  | _ => true

/-- A write into the key store, deferred while a rail is at its warning level. -/
def State.keyWrite (s : State) (w : KeyWrite) : State :=
  if s.keysHeld ∧ s.writesKey w = true then
    (s.withSec fun x => { x with deferred := x.deferred ++ [w] }).deferKeys (keyWriteEngine w) (s.keyWriteHalves w)
  else applyKeyWrite w s

/-- Deferred writes proceed at the first boundary after every rail has recovered. -/
def State.keysProceed (s : State) : State :=
  if s.keysHeld then s
  else
    let ws := s.sec.deferred
    let t := s.withSec fun x => { x with deferred := [], warned := false }
    let u := t.sec.channels.foldl (fun u e => if e.2.deferred then u.withSec fun x => { x with
      channels := Map.set {} x.channels e.1 { e.2 with deferred := false } } else u) t
    ws.foldl (fun v w => applyKeyWrite w v) u

/-! ## Transmit (R321, R322, R325, R333, R334, R336) -/

/-- The switch at a frame boundary: after the tick in which trigger and readiness both hold, NEXT becomes CURRENT. -/
def State.switchKey (s : State) (e ch : Nat) : State :=
  let c := s.secChan e ch
  match c.eligible, c.txNext with
  | some t, some k =>
    if s.now ≤ t then s
    else if s.keysHeld then s.deferKeys e [(e, ch)]
    else
      let u := s.withChan e ch fun c => { c with
        txCurrent := some k, txNext := none, txHost := false, fc := 0, rekeyDue := false, rolling := false, heard := none, eligible := none }
      let v := (u.clear Df.keyExh (secInst e ch)).raise Ev.KEY_LIVE [e, ch, k.epoch, s.obj (Obj.SEC_KEY_SOURCE e)]
      v.keyWrite (.derive e ch false)
  | _, _ => s

/-- The SOH of an encrypted frame (R321), and its IV (R322). -/
def frameSoh (k : SecKey) (fc : Nat) : Nat := (keyIndex k * 64 + 32) * 2 ^ 40 + fc
def frameIv (k : SecKey) (fc : Nat) : Nat := k.material % 2 ^ 32 * 2 ^ 64 + k.epoch * 2 ^ 40 + fc

/-- The 256-bit key of an epoch, of its key and salt (R322). -/
def SecKey.key (k : SecKey) : Nat := k.material / 2 ^ 32

/-- The frame with its payload encrypted and the tag in its last 16 bytes (R323). -/
def sealFrame (k : SecKey) (fc : Nat) (b : OduBody) : OduBody :=
  let out := { b with soh := frameSoh k fc }
  let cipher := bytesOf 15216 (Config.gcmEncrypt k.key (frameIv k fc) (b.payload / 256 ^ 16)) 0 15216
  { out with payload := cipher * 256 ^ 16 + Config.gcmTag k.key (frameIv k fc) out.aad cipher % 256 ^ 16 }

/-- The tag of a received frame fits under a key (R323). -/
def tagFits (k : SecKey) (b : OduBody) : Bool :=
  decide (Config.gcmTag k.key (frameIv k b.fc) b.aad (b.payload / 256 ^ 16) % 256 ^ 16 = b.payload % 256 ^ 16)

/-- The verified frame as it is delivered: decrypted, with an all-zero SOH and zeros in the tag bytes (R324). -/
def openFrame (k : SecKey) (b : OduBody) : OduBody :=
  { b with soh := 0, payload := bytesOf 15216 (Config.gcmDecrypt k.key (frameIv k b.fc) (b.payload / 256 ^ 16)) 0 15216 * 256 ^ 16 }

/-- A frame in clear carries an all-zero SOH (R321); while the half sends ODU-LCK it sends no frame of the ODU (R333, R334). -/
def State.sendClear (s : State) (e ch : Nat) (b : OduBody) : State :=
  s.withChan e ch fun c => { c with soh := 0, iv := none, lck := false, sent := some { b with soh := 0 } }
def State.sendLck (s : State) (e ch : Nat) : State := s.withChan e ch fun c => { c with soh := 0, iv := none, lck := true, sent := none }

/-- The frame under a live key, up to the hard limit (R322, R333). -/
def State.sendKeyed (s : State) (e ch : Nat) (k : SecKey) (auto : Bool) (b : OduBody) : State :=
  let c := s.secChan e ch
  if 2 ^ 40 ≤ c.fc then
    let t := s.sendLck e ch
    if t.declared Df.keyExh (secInst e ch) then t
    else (t.declare Df.keyExh (secInst e ch)).raise Ev.KEY_EXHAUSTED [e, ch, k.epoch]
  else
    let t := (s.withChan e ch fun c => { c with
      soh := frameSoh k c.fc, iv := some (frameIv k c.fc), lck := false, fc := c.fc + 1, sent := some (sealFrame k c.fc b) }).setObj (Obj.SEC_TX_FC e ch) c.fc
    if 2 ^ 39 ≤ c.fc ∧ ¬ c.rekeyDue then
      let u := (t.withChan e ch fun c => { c with rekeyDue := true }).raise Ev.REKEY_DUE [e, ch, k.epoch]
      if auto then u.trigger e ch else u
    else t

/-! ## Receive (R325, R329 to R332) -/

/-- Points that monitor a connection on an engine, whose ODU a tag failure marks uncorrected (R330). -/
def State.monitorsOf (s : State) (e n : Nat) : List Nat :=
  s.busPoints.filter fun p => decide (1024 ≤ p) && pointOn (s.obj (Obj.PM_POINT p)) && decide (pointConn (s.obj (Obj.PM_POINT p)) = n) &&
    s.onEngine e (s.monitored p (connAt s.act n))

/-- A frame that fails its tag or is rejected: the third in a row declares dAUTH (R332). -/
def State.rxFail (s : State) (e ch : Nat) : State :=
  let t := s.withChan e ch fun c => { c with failRun := min 3 (c.failRun + 1), goodRun := 0 }
  if (t.secChan e ch).failRun = 3 ∧ ¬ t.declared Df.auth (secInst e ch) then
    (t.declare Df.auth (secInst e ch)).raise Ev.AUTH_FAIL [e, ch, t.obj (Obj.SEC_AUTH_FAIL e ch), t.obj (Obj.SEC_REJECT e ch)]
  else t

/-- A verified frame: the eighth in a row clears dAUTH. -/
def State.rxGood (s : State) (e ch : Nat) : State :=
  let t := s.withChan e ch fun c => { c with failRun := 0, goodRun := min 8 (c.goodRun + 1) }
  if (t.secChan e ch).goodRun = 8 then t.clear Df.auth (secInst e ch) else t

/-- The demapper writes AIS fill with AIS in the header in some ticks; intervals that are over are dropped. -/
def blankTicks (blanks : List (Nat × Nat)) (now first last : Nat) : List (Nat × Nat) :=
  (blanks.filter fun b => decide (now ≤ b.2)) ++ [(first, last)]

/-- A frame of a receive half whose words are withheld, from its first byte or its tag on: the demapper writes a word one tick after it has come, and
under verify-first a frame period later (R329 to R331). -/
def SecChan.blankRejected (c : SecChan) (now ticks : Nat) (verifyFirst : Bool) : SecChan :=
  let d := if verifyFirst then ticks else 0
  { c with blanks := blankTicks c.blanks now (now + 1 + d) (now + 1 + ticks + d) }

/-- The receive key whose epoch has a KI (R335): CURRENT, then NEXT. -/
def SecChan.keyFor (c : SecChan) (ki : Nat) : Option (Bool × SecKey) :=
  match c.rxCurrent with
  | some k => if keyIndex k = ki then some (false, k) else match c.rxNext with
    | some n => if keyIndex n = ki then some (true, n) else none
    | none => none
  | none => match c.rxNext with
    | some n => if keyIndex n = ki then some (true, n) else none
    | none => none

/-- The checks of the SOH in the order of R329. -/
def SecChan.accepts (c : SecChan) (policy : Nat) (f : OduBody) : Bool :=
  if f.enc then decide (policy ≠ 0) && (match c.keyFor f.ki with
    | none => false
    | some (next, _) => next || (match c.lastFc with
      | some l => decide (l < f.fc)
      | none => true))
  else decide (policy ≠ 2)

/-- The receive key under which a frame's tag fits, and whether it is NEXT. -/
def SecChan.opens (c : SecChan) (b : OduBody) : Option (Bool × SecKey) := (c.keyFor b.ki).filter fun k => tagFits k.2 b

/-- A frame is delivered to the demapper and the monitors (R324, R325). -/
def State.deliverFrame (s : State) (e ch : Nat) (b : OduBody) : State := s.withChan e ch fun c => { c with delivered := some b, passing := some b }

/-- A failed tag of a frame of a connection in cut-through: its ODU is marked uncorrected (R330), also for Mirror Merge (R332). -/
def State.markFrame (s : State) (e n : Nat) : State :=
  (s.withProt fun p => { p with uncorrected := (p.uncorrected ++ s.monitorsOf e n).dedup }).spoilCopy n e

/-- The tag of a frame that a receive half ended by a swap had begun before the boundary: judged with the keys and for the connection of that half
(R318). -/
def State.checkEnded (s : State) (e ch : Nat) (x : EndedRx) (verifyFirst : Bool) (ticks : Nat) (b : OduBody) : State :=
  let judged : EndedRx := { x with current := none, next := none }
  if (({ rxCurrent := x.current, rxNext := x.next } : SecChan).opens b).isSome then s.withChan e ch fun c => { c with ended := some judged }
  else
    let last : EndedRx := if verifyFirst then { judged with blanks := blankTicks x.blanks s.now (s.now + 1) (s.now + 1 + ticks) }
      else { judged with poisonAt := some s.now }
    ((s.bump (Obj.SEC_AUTH_FAIL e ch)).withChan e ch fun c => { c with ended := some last }).markFrame e x.conn

/-- The tag of a frame is checked (R330, R331, R336). -/
def State.checkTag (s : State) (e ch : Nat) (verifyFirst : Bool) (ticks : Nat) (b : OduBody) : State :=
  if s.sectionFail e = true then s
  else match (s.secChan e ch).ended.filter fun x => decide (s.now < x.at_ + ticks) with
  | some x => s.checkEnded e ch x verifyFirst ticks b
  | none =>
  if ¬ (s.rxCfg e ch).rx then s
  else match (s.secChan e ch).opens b with
    | some (next, k) =>
      let t := s.withChan e ch fun c => if next then { c with rxCurrent := some k, rxNext := none, announced := false, lastFc := some b.fc }
        else { c with lastFc := some b.fc }
      ((if next then t.keyWrite (.derive e ch true) else t).rxGood e ch).deliverFrame e ch (openFrame k b)
    | none =>
      let n := (s.rxCfg e ch).rxConn
      let t := (s.bump (Obj.SEC_AUTH_FAIL e ch)).withChan e ch fun c =>
        if verifyFirst then c.blankRejected s.now ticks false else { c with poisonAt := some s.now }
      (if verifyFirst then t.spoilCopy n e else t.markFrame e n).rxFail e ch

/-- Frames under way on an engine whose section is in signal fail are passed, neither verified nor counted (R325, R343). -/
def State.passFrames (s : State) (e : Nat) : State :=
  if s.sectionFail e = false then s
  else
    let waiting := fun (p : Pending) => match p.due with
      | .secTag i _ _ _ _ => decide (i = e)
      | _ => false
    (s.agenda.filter waiting).foldl (fun t p => match p.due with
      | .secTag i ch _ _ b => t.deliverFrame i ch b
      | _ => t) { s with agenda := s.agenda.filter fun p => !waiting p }

/-! ## Configuration changes (R318, R335, R343) -/

/-- A transmit half, and a receive half, that an entry no longer has, or has on another connection, ends with its keys. -/
def txEnds (old new : SecCfg) : Bool := old.tx && !(new.tx && decide (new.txConn = old.txConn))
def rxEnds (old new : SecCfg) : Bool := old.rx && !(new.rx && decide (new.rxConn = old.rxConn))

def SecChan.dropTx (c : SecChan) : SecChan :=
  { c with txCurrent := none, txNext := none, fc := 0, rekeyDue := false, rolling := false, heard := none, eligible := none, soh := 0, iv := none, lck := false, sent := none }
def SecChan.dropRx (c : SecChan) : SecChan :=
  { c with rxCurrent := none, rxNext := none, announced := false, lastFc := none, failRun := 0, goodRun := 0, blanks := [], poisonAt := none, delivered := none, passing := none }

/-- A receive half ends at a boundary: a frame under way keeps its keys until its tag (R318), and the words that the half blanks stay blanked. -/
def SecChan.endRx (c : SecChan) (conn at_ : Nat) (underWay : Bool) : SecChan :=
  { c.dropRx with ended := some {
      conn := conn, at_ := at_, current := if underWay then c.rxCurrent else none, next := if underWay then c.rxNext else none
      blanks := c.blanks, poisonAt := c.poisonAt } }

/-- Engine and channel of every entry of two sets. -/
def secKeys (a b : Map Nat) : List (Nat × Nat) := (((secOf a) ++ (secOf b)).map fun x => (x.1, x.2.1)).dedup

/-- The receive halves at boundary E: ended halves lose their keys, new ones derive theirs. -/
def State.swapReceive (s : State) (old : Map Nat) : State :=
  (secKeys old s.act).foldl (fun t k =>
    let a := decodeSec (Map.get 0 old (Obj.SEC_CHAN k.1 k.2))
    let b := t.rxCfg k.1 k.2
    let underWay := t.agenda.any fun p => match p.due with
      | .secTag e ch _ _ _ => decide (e = k.1) && decide (ch = k.2)
      | _ => false
    let u := if rxEnds a b then (t.withChan k.1 k.2 fun c => c.endRx a.rxConn t.now underWay).clear Df.auth (secInst k.1 k.2) else t
    if b.rx ∧ (¬ a.rx ∨ rxEnds a b = true) then u.keyWrite (.derive k.1 k.2 true) else u) (s.withSec fun x => { x with before := old })

/-- The transmit halves in tick E + 2. -/
def State.swapTransmit (s : State) : State :=
  (secKeys s.sec.before s.act).foldl (fun t k =>
    let a := decodeSec (Map.get 0 s.sec.before (Obj.SEC_CHAN k.1 k.2))
    let b := t.rxCfg k.1 k.2
    let u := if txEnds a b then ((t.withChan k.1 k.2 SecChan.dropTx).setObj (Obj.SEC_TX_FC k.1 k.2) 0).clear Df.keyExh (secInst k.1 k.2) else t
    (if b.tx ∧ (¬ a.tx ∨ txEnds a b = true) then u.keyWrite (.derive k.1 k.2 false) else u).settle k.1 k.2) (s.withSec fun x => { x with before := [] })

/-! ## Views (R344) -/

/-- SEC_STATE of a channel. -/
def State.secState (s : State) (e ch : Nat) : Nat :=
  let c := s.secChan e ch
  let x := s.txCfg e ch
  let tx := if ¬ x.tx then 0 else if ¬ x.txEn then 1 else if c.txCurrent.isNone then 2
    else if s.declared Df.keyExh (secInst e ch) then 5 else if c.rolling then 4 else 3
  let y := s.rxCfg e ch
  let rx := if ¬ y.rx then 0 else if s.declared Df.auth (secInst e ch) then 3 else if y.rxPol = 0 then 1 else 2
  tx * 2 ^ 28 + rx * 2 ^ 26 + c.deferred.toNat * 2 ^ 25 + ((c.txCurrent.map (·.epoch)).getD 0)

def State.secRxEpoch (s : State) (e ch : Nat) : Nat := ((s.secChan e ch).rxCurrent.map (·.epoch)).getD 0

/-- SEC_LINK_AGE: seconds since the live link secret went live. -/
def State.linkAge (s : State) (e : Nat) : Nat :=
  match (s.link e).secret with
  | some l => (s.now - l.since) / ticksPerSecond
  | none => 0

/-! ## Erasure (R338, R466) -/

/-- A half loses its keys; a transmit half with encryption on enters WAIT_KEY. -/
def SecChan.loseTx (c : SecChan) : SecChan :=
  { c with txCurrent := none, txNext := none, rolling := false, rekeyDue := false, heard := none, eligible := none }
def SecChan.loseRx (c : SecChan) : SecChan :=
  { c with rxCurrent := none, rxNext := none, announced := false, lastFc := none, ended := c.ended.map fun x => { x with current := none, next := none } }

/-- SEC_ZEROISE: every key and link secret goes, those waiting to be written too. -/
def State.zeroise (s : State) : State :=
  let t := s.withSec fun x => { x with
    channels := x.channels.foldl (fun m e => Map.set {} m e.1 { e.2.loseTx.loseRx with deferred := false }) []
    links := x.links.foldl (fun m e => Map.set {} m e.1 { e.2 with secret := none, agreement := none }) []
    deferred := [] }
  [0, 1, 2, 3].foldl (fun v e => v.setObj (Obj.SEC_LINK_STATE e) 0) t

/-! ## Key agreement (R328, R339 to R341) -/

/-- The key channel of an engine has an enabled route to the management complex. -/
def State.keyRouted (s : State) (e : Nat) : Bool :=
  (List.range 64).any fun x =>
    let v := s.obj (Obj.OH_GCC_ROUTE x)
    bit v 31 && decide (field v 30 29 = 0) && decide (field v 28 27 = s.linkOf e) && decide (field v 26 24 = 4) && decide (field v 18 0 = 0)

/-- An agreement fails with a cause of SEC_KA_CAUSE; the previous link secret stays, and the device tries again after 10 s. -/
def State.failKa (s : State) (e cause : Nat) : State :=
  let t := s.withLink e fun l => { l with agreement := none, retryAt := some (s.now + 8000000) }
  let u := (s.bond e).foldl (fun u i => u.setObj (Obj.SEC_KA_CAUSE i) cause) (t.setLinkState e 3)
  let v := if cause = 5 then u else u.send e (.abort cause)
  v.raise Ev.KA_FAIL [s.linkOf e, cause]

/-- An agreement starts with the own HELLO; a failed entropy source, or no expected identity, refuses it. -/
def State.startKa (s : State) (e : Nat) : State :=
  if (s.link e).agreement.isSome then s
  else if s.obj Obj.SEC_ENTROPY_STATE = 1 then s.failKa e 3
  else if s.obj (Obj.SEC_PEER_ID (s.linkOf e)) = 0 then s.failKa e 1
  else
    let nonce := Config.shake256 32 [⟨8, s.free⟩]
    let t := s.drawn
    let u := t.withLink e fun l => { l with agreement := some { start := s.now, nonce := nonce }, retryAt := none, again := false }
    (u.setLinkState e 1).send e (.hello (s.obj Obj.DEV_ID_KEY) nonce)

/-- Identity digest (R339). -/
def identityDigest (publicKey : Nat) : Nat := Config.shake256 32 [⟨1952, publicKey⟩]

/-- The transcripts T₂ and T₃ (R340): both HELLO bodies, the initiator's first, and the encapsulation key; T₂ and the ciphertext. -/
def transcript2 (first second : Nat × Nat) (ek : Nat) : Nat :=
  Config.shake256 32 [⟨1952, first.1⟩, ⟨32, first.2⟩, ⟨1952, second.1⟩, ⟨32, second.2⟩, ⟨1568, ek⟩]
def transcript3 (t2 ct : Nat) : Nat := Config.shake256 32 [⟨32, t2⟩, ⟨1568, ct⟩]

/-- The link secret, and a confirmation value with the role byte 0 for the initiator (R340). -/
def linkSecret (shared t3 : Nat) : Nat := Config.shake256 32 [⟨4, 0x4C494E4B⟩, ⟨32, shared⟩, ⟨32, t3⟩]
def confirmation (role secret t3 : Nat) : Nat := Config.shake256 32 [⟨4, 0x434F4E46⟩, ⟨1, role⟩, ⟨32, secret⟩, ⟨32, t3⟩]

def State.setKa (s : State) (e : Nat) (a : Agreement) : State := s.withLink e fun l => { l with agreement := some a }

/-- Both HELLOs in the order of T₂. -/
def State.hellos (s : State) (a : Agreement) (peer : Nat × Nat) : (Nat × Nat) × (Nat × Nat) :=
  let own := (s.obj Obj.DEV_ID_KEY, a.nonce)
  if a.initiator then (own, peer) else (peer, own)

/-! ## Writes of class 0x14 -/

/-- The client or virtual port of a SEC_MAP index carries a connection (R320). -/
def State.mapUsed (s : State) (x : Nat) : Bool :=
  if x < 64 then s.laneUsed x
  else (connsOf s.act).any fun p => (p.2.dst :: sourcesOf s.act p.2).any fun w => decide (epType w = 5) && decide (epPort w = x - 64)

/-- SEC_KEY_INSTALL (R337). -/
def acceptInstall : Accept := fun k v s =>
  let e := k.i
  let ch := bytesOf 44 v.v 0 2
  let receive := decide (bytesOf 44 v.v 2 1 = 1)
  let epoch := bytesOf 44 v.v 4 3
  let c := s.secChan e ch
  let cur := if receive then c.rxCurrent else c.txCurrent
  if 1024 ≤ ch ∨ 1 < bytesOf 44 v.v 2 1 ∨ epoch ≠ epochAfter cur ∨ (cur.isSome ∧ epoch = 0) then (.range, s)
  else if s.obj (Obj.SEC_KEY_SOURCE e) = 0 then (.precond, s)
  else if receive ∧ c.announced ∧ c.rxNext.isSome then (.busy, s)
  else (.ok, s.keyWrite (.install e ch receive ⟨epoch, bytesOf 44 v.v 8 36⟩))

def acceptSecure : Accept := fun k v s =>
  if k.i = 0xFF then
    if k.m = 0x01 then (if s.mapUsed k.x then (.precond, s) else acceptStage k v s)
    else (.ok, s.zeroise)
  else match k.m with
    | 0x07 => acceptInstall k v s
    | 0x08 => (.ok, s.trigger k.i v.v)
    | 0x0A => (.ok, s.setObj k v.v)
    | 0x0D => (.ok, s.startKa k.i)
    | _ => acceptStage k v s

/-- A change of the key source can make a NEXT ready (R336). -/
def State.commitSource (s : State) (e : Nat) : State := (s.linkChannels e).foldl (fun t c => t.settle c.1 c.2) s

/-- The key channel of an engine is routed for the first time (R341). -/
def State.commitRoutes (s : State) : State :=
  [0, 1, 2, 3].foldl (fun t e =>
    if t.linkOf e = e ∧ t.keyRouted e = true ∧ (t.link e).routed = false then (t.withLink e fun l => { l with routed := true }).startKa e else t) s

/-! ## Meanings -/

/-- SEC_MAP write (R319, R320). -/
def execSecMapWrite (rq : Rq) (index : Nat) (val : Val) (s : State) : Out :=
  .next (serveWrite acceptSecure rq (Obj.SEC_MAP index) val s)

/-- SEC_RX_FRAME (R325, R329 to R332): a frame at its first byte, decrypted as it comes in cut-through; the tag is checked in the tick in which its
last byte arrives. -/
def execSecRxFrame (e : Fin 4) (ch : Fin 1024) (f : SecFrame) (s : State) : Out :=
  let c := s.rxCfg e ch
  if ¬ c.rx then .next s
  else if f.maintenance = true ∨ s.sectionFail e = true then .next (s.deliverFrame e ch f.body)
  else if ¬ (s.secChan e ch).accepts c.rxPol f.body then
    .next ((((s.bump (Obj.SEC_REJECT e ch)).withChan e ch fun x => x.blankRejected s.now f.ticks c.verifyFirst).spoilCopy c.rxConn e).rxFail e ch)
  else if ¬ f.body.enc then .next ((s.withChan e ch fun x => { x with failRun := 0, goodRun := 0 }).deliverFrame e ch f.body)
  else
    let t := if c.verifyFirst then s else s.withChan e ch fun x => match x.keyFor f.body.ki with
      | some k => { x with passing := some (openFrame k.2 f.body) }
      | none => x
    if f.ticks = 0 then .next (t.checkTag e ch c.verifyFirst 0 f.body)
    else .next (t.plan (s.now + f.ticks) (.secTag e ch c.verifyFirst f.ticks f.body))

/-- SEC_TX_FRAME (R322, R325, R333, R334): the next frame of a transmit half. -/
def execSecTxFrame (e : Fin 4) (ch : Fin 1024) (frame : TxFrame) (s : State) : Out :=
  let c := s.txCfg e ch
  if ¬ c.tx then .next s
  else
    let t := s.switchKey e ch
    if frame.maintenance ∨ ¬ c.txEn then .next (t.sendClear e ch frame.body)
    else match (t.secChan e ch).txCurrent with
      | none => .next (t.sendLck e ch)
      | some k => .next (t.sendKeyed e ch k c.auto frame.body)

/-- SEC_ROLL (R336). -/
def execSecRoll (rq : Rq) (e : Fin 4) (val : Val) (s : State) : Out := .next (serveWrite acceptSecure rq (Obj.SEC_ROLL e) val s)

/-- KEY_SWITCH (R336, R342): a frame boundary of a transmit half. -/
def execKeySwitch (e : Fin 4) (ch : Fin 1024) (s : State) : Out := .next (s.switchKey e ch)

/-- SEC_KEY_INSTALL (R337, R342). -/
def execSecKeyInstall (rq : Rq) (e : Fin 4) (val : Val) (s : State) : Out :=
  .next (serveWrite acceptSecure rq (Obj.SEC_KEY_INSTALL e) val s)

/-- SEC_ZEROISE (R338). -/
def execSecZeroise (rq : Rq) (val : Val) (s : State) : Out := .next (serveWrite acceptSecure rq Obj.SEC_ZEROISE val s)

/-- SEC_LINK_START (R341). -/
def execSecLinkStart (rq : Rq) (e : Fin 4) (val : Val) (s : State) : Out :=
  .next (serveWrite acceptSecure rq (Obj.SEC_LINK_START e) val s)

/-- What a KA_HELLO brings (R339, R340): the identity is checked, and the end with the lower digest becomes the initiator and sends KA_EK. A HELLO that
finds no agreement starts one. -/
def State.takeHello (s : State) (e : Nat) (publicKey nonce : Nat) : State :=
  let t := s.startKa e
  match (t.link e).agreement with
  | none => t
  | some a =>
    if a.peer.isSome then t
    else if identityDigest publicKey ≠ t.obj (Obj.SEC_PEER_ID (t.linkOf e)) then (t.failKa e 1)
    else
      let first := decide (t.obj Obj.DEV_ID_DIGEST < identityDigest publicKey)
      let b := { a with peer := some (publicKey, nonce), initiator := first, draw := t.free }
      if ¬ first then (t.setKa e b)
      else
        let ek := Config.kemPublic t.free
        let hs := t.hellos b (publicKey, nonce)
        let t2 := transcript2 hs.1 hs.2 ek
        ((t.drawn.setKa e { b with t2 := t2 }).send e (.ek ek (Config.mlDsaSign t2 (t.fresh + 1)))).drawn

/-- KA_HELLO (R339, R340, R341). -/
def execKaHello (e : Fin 4) (publicKey nonce : Nat) (s : State) : Out := .next (s.takeHello e publicKey nonce)

/-- What a KA_EK brings (R340): the responder verifies the signature over T₂, encapsulates, and sends KA_CT and its confirmation. -/
def State.takeEk (s : State) (e : Nat) (key signature : Nat) : State :=
  match (s.link e).agreement with
  | none => s
  | some a =>
    match a.peer with
    | none => s
    | some peer =>
      if a.initiator ∨ a.secret.isSome then s
      else
        let hs := s.hellos a peer
        let t2 := transcript2 hs.1 hs.2 key
        if ¬ Config.mlDsaVerify peer.1 t2 signature then (s.failKa e 2)
        else
          let ct := Config.kemCiphertext key s.free
          let t3 := transcript3 t2 ct
          let k := linkSecret (Config.kemSecret key s.free) t3
          let t := s.drawn.setKa e { a with t2 := t2, t3 := t3, secret := some k }
          ((t.send e (.ct ct (Config.mlDsaSign t3 t.fresh))).drawn.send e (.confirm (confirmation 1 k t3)))

/-- KA_EK (R339, R340, R341). -/
def execKaEk (e : Fin 4) (key signature : Nat) (s : State) : Out := .next (s.takeEk e key signature)

/-- What a KA_CT brings (R340): the initiator verifies the signature over T₃, derives the link secret and sends its confirmation. -/
def State.takeCt (s : State) (e : Nat) (ciphertext signature : Nat) : State :=
  match (s.link e).agreement with
  | none => s
  | some a =>
    match a.peer with
    | none => s
    | some peer =>
      if ¬ a.initiator ∨ a.secret.isSome then s
      else
        let t3 := transcript3 a.t2 ciphertext
        if ¬ Config.mlDsaVerify peer.1 t3 signature then (s.failKa e 2)
        else
          let k := linkSecret (Config.kemDecaps a.draw ciphertext) t3
          ((s.setKa e { a with t3 := t3, secret := some k }).send e (.confirm (confirmation 0 k t3)))

/-- KA_CT (R339, R340, R341). -/
def execKaCt (e : Fin 4) (ciphertext signature : Nat) (s : State) : Out := .next (s.takeCt e ciphertext signature)

/-- What a KA_CONFIRM brings (R340, R342): the far end's confirmation is verified, and the link secret goes live. -/
def State.takeConfirm (s : State) (e : Nat) (value : Nat) : State :=
  match (s.link e).agreement with
  | none => s
  | some a =>
    match a.peer, a.secret with
    | some peer, some k =>
      if value ≠ confirmation (if a.initiator then 1 else 0) k a.t3 then (s.failKa e 2)
      else
        let t := s.withLink e fun l => { l with agreement := none, retryAt := none }
        (t.keyWrite (.live (s.linkOf e) ⟨k, a.initiator, identityDigest peer.1, s.now⟩))
    | _, _ => s

/-- KA_CONFIRM (R339, R340, R341). -/
def execKaConfirm (e : Fin 4) (value : Nat) (s : State) : Out := .next (s.takeConfirm e value)

/-- What a KA_READY brings (R336): accepted where its check value equals that of the transmit half's own NEXT. -/
def State.takeReady (s : State) (e : Nat) (tpn d epoch check : Nat) : State :=
  let mine := (s.linkChannels e).filter fun c => (s.txCfg c.1 c.2).tx && decide (s.halfTpn c.1 c.2 false = tpn) &&
    (match (s.link e).secret with
      | some l => decide (d = sentDirection l)
      | none => false)
  (mine.foldl (fun t c => (t.withChan c.1 c.2 fun x => { x with heard := some (epoch, check) }).settle c.1 c.2) s)

/-- KA_READY (R339, R340, R341). -/
def execKaReady (e : Fin 4) (tpn d epoch check : Nat) (s : State) : Out := .next (s.takeReady e tpn d epoch check)

/-- What a KA_ABORT brings (R341, R344). -/
def State.takeAbort (s : State) (e : Nat) (_cause : Nat) : State :=
  if (s.link e).agreement.isSome then (s.failKa e 5) else s

/-- KA_ABORT (R339, R340, R341). -/
def execKaAbort (e : Fin 4) (_cause : Nat) (s : State) : Out := .next (s.takeAbort e _cause)

/-! ## The received key channel (R339) -/

/-- The number that bytes spell, most significant first. -/
def ofOctets (bytes : List Nat) : Nat := bytes.foldl (fun v b => v * 256 + b) 0

/-- The bytes of an HDLC frame between two flags without their stuffing; none where an escape stands before the flag (an aborted frame). -/
def unstuffed (raw : List Nat) : Option (List Nat) :=
  let r := raw.foldl (fun (p : List Nat × Bool) b =>
    if p.2 then (Nat.xor b 0x20 :: p.1, false) else if b = 0x7D then (p.1, true) else (b :: p.1, false)) ([], false)
  if r.2 then none else some r.1.reverse

/-- The body of a received message: its FCS holds, its version is 1 and its length is that of the body (R339). -/
def kaBody (raw : List Nat) : Option (Nat × List Nat) :=
  match unstuffed raw with
  | none => none
  | some bytes =>
    let message := bytes.take (bytes.length - 4)
    if (octets 4 (hdlcFcs message)).reverse ≠ bytes.drop (bytes.length - 4) then none
    else match message with
      | type :: version :: high :: low :: body => if version = 1 ∧ high * 256 + low = body.length then some (type, body) else none
      | _ => none

/-- The message that a received frame carries (R339); a frame that carries none is dropped. -/
def kaMessage (raw : List Nat) : Option KaMessage :=
  match kaBody raw with
  | none => none
  | some (type, body) =>
    let part := fun (from_ n : Nat) => ofOctets ((body.drop from_).take n)
    if type = 1 ∧ body.length = 1984 then some (.hello (part 0 1952) (part 1952 32))
    else if type = 2 ∧ body.length = 4877 then some (.ek (part 0 1568) (part 1568 3309))
    else if type = 3 ∧ body.length = 4877 then some (.ct (part 0 1568) (part 1568 3309))
    else if type = 4 ∧ body.length = 32 then some (.confirm (part 0 32))
    else if type = 5 ∧ body.length = 14 then some (.ready (part 0 2) (part 2 1) (part 3 3) (part 6 8))
    else if type = 6 ∧ body.length = 1 then some (.abort (part 0 1))
    else none

def State.takeMessage (s : State) (e : Nat) : KaMessage → State
  | .hello k n => s.takeHello e k n
  | .ek k sig => s.takeEk e k sig
  | .ct c sig => s.takeCt e c sig
  | .confirm v => s.takeConfirm e v
  | .ready tpn d epoch check => s.takeReady e tpn d epoch check
  | .abort cause => s.takeAbort e cause

/-- A byte of a key channel: a flag ends a frame (R339). Bytes beyond the longest stuffed message belong to none. -/
def State.keyByte (s : State) (e : Nat) (b : Nat) : State :=
  if b = 0x7E then
    let t := s.withLink e fun l => { l with inbox := [] }
    match kaMessage (s.link e).inbox with
    | some m => t.takeMessage e m
    | none => t
  else s.withLink e fun l => { l with inbox := if l.inbox.length < 9770 then l.inbox ++ [b] else l.inbox }

/-- The management complex reads the key channels among the channels routed to it (R157, R339). -/
def State.receiveKeys (s : State) (xs : List GccBytes) : State :=
  (xs.filter fun b => (s.portRoutes 4).contains b.route).foldl (fun t b =>
    match t.keyRoute b.route with
    | some e => b.bytes.foldl (fun u v => u.keyByte e (v % 256)) t
    | none => t) s

/-- KA_TIMEOUT (R341). -/
def execKaTimeout (e : Fin 4) (s : State) : Out :=
  match (s.link e).agreement with
  | some a => if a.start + 800000 ≤ s.now then .next (s.failKa e 4) else .next s
  | none => .next s

/-- KA_RETRY (R341). -/
def execKaRetry (e : Fin 4) (s : State) : Out :=
  match (s.link e).retryAt with
  | some t => if t ≤ s.now then .next (s.startKa e) else .next s
  | none => .next s

/-- LINK_SECRET_EXPIRE (R341). -/
def execLinkSecretExpire (e : Fin 4) (s : State) : Out :=
  match (s.link e).secret with
  | some l => if l.since + s.obj (Obj.SEC_LINK_LIFE (s.linkOf e)) * ticksPerSecond ≤ s.now then .next (s.startKa e) else .next s
  | none => .next s

/-- ENTROPY_FAIL (R328, R341): agreements in progress fail. -/
def execEntropyFail (test : Nat) (s : State) : Out :=
  let t := (s.setObj Obj.SEC_ENTROPY_STATE 1).raise Ev.ENTROPY_FAIL [0xFF, test]
  .next ((s.sec.links.filter fun l => l.2.agreement.isSome).foldl (fun u l => u.failKa l.1.i 3) t)

/-- ENTROPY_RECOVER (R328). -/
def execEntropyRecover (windows : Nat) (s : State) : Out :=
  if 1024 ≤ windows then .next (s.setObj Obj.SEC_ENTROPY_STATE 0) else .next s

/-- KEY_DEFERRED_PROCEED (R342). -/
def execKeyDeferredProceed (s : State) : Out := .next (s.atBoundary State.keysProceed)

end Sys2Proof.Machine
end

