-- ==== Sys2Proof/Machine/Ingress.lean ====
section
/-! DEFINITION. What the ingress mappers write into the tick buffer (R37, R115, R156, R160, R175, R182, R185, R202, R211, R215, R222, R281 to R283). -/

namespace Sys2Proof.Machine

/-! ## The copy that feeds a connection -/

/-- The source that writes a connection's positions in this tick: the connection whose mapper delivers the words, the endpoint, and
whether it is the protect copy. -/
structure Feed where
  conn : Nat
  word : Nat
  protect : Bool
  deriving DecidableEq, Repr

/-- What feeds a connection of a set under the selector snapshot. -/
def State.feed (s : State) (m : Map Nat) (n : Nat) (c : Conn) : Feed :=
  match groupOf m c with
  | none =>
    match mspGroup m c.src with
    | some (g, x) => if s.atProtect g then ⟨n, withField c.src 27 22 (epLane x.protect), true⟩ else ⟨n, c.src, false⟩
    | none => ⟨n, c.src, false⟩
  | some g =>
    let x := groupAt m g
    if x.type = 5 then
      match bridgedGroup s.prot.snapshot (headOf x) x.n with
      | none => ⟨n, x.working, false⟩
      | some k =>
        let y := groupAt m k
        match (connsOf m).find? fun p => decide (p.1 ≠ n) && decide (p.2.src = y.working) with
        | some p => ⟨p.1, y.working, false⟩
        | none => ⟨n, y.working, false⟩
    else
      let protect := if x.type = 9 then s.mmCopy g (mergeIndex x) else s.atProtect g
      ⟨n, if protect then x.protect else x.working, protect⟩

/-- A connection whose source is the bridge group of a set with no bridge bit carries ODU-OCI (R282). -/
def State.carriesOci (s : State) (c : Conn) : Bool :=
  match groupOf s.act c with
  | some g =>
    let x := groupAt s.act g
    decide (x.type = 5) && (bridgedGroup s.prot.snapshot (headOf x) x.n).isNone
  | none => false

/-! ## Header flags (R115, R139, R160, R170, R172, R185, R329, R330) -/

structure HeaderFlags where
  ais : Bool := false
  poison : Bool := false
  notValid : Bool := false
  csf : Bool := false
  deriving DecidableEq, Repr

/-- A PRBS generator runs on a lane of a client (R170). -/
def State.prbsRuns (s : State) (f : Nat) : Bool :=
  (s.client f).lanes.any fun l => decide (field (s.obj (Obj.HL_PRBS_CFG l)) 3 0 ≠ 0)

/-- The client, and every lane of it, is locked (R172). -/
def State.clientLocked (s : State) (f : Nat) : Bool :=
  (s.client f).pcs && (s.client f).lanes.all fun l => decide (s.obj (Obj.HL_STATE l) = 2)

def State.hostFlags (s : State) (f : Nat) : HeaderFlags :=
  { ais := s.hostFail f, notValid := !s.clientLocked f || s.prbsRuns f, csf := isEthernet (s.clientType f) && s.hostFail f }

/-- The secure channels of an engine's group that receive a connection. -/
def State.rxChannels (s : State) (n : Nat) (w : Nat) : List (Nat × Nat) :=
  if epType w = 4 then
    ((secOf s.act).filter fun x => x.2.2.rx && decide (x.2.2.rxConn = n) && (s.bond (epEngine w)).contains x.1).map fun x => (x.1, x.2.1)
  else []

/-- What the receive halves of a connection blank, those that a swap has ended included. -/
def State.rxMarks (s : State) (n w : Nat) : List (List (Nat × Nat) × Option Nat) :=
  ((s.rxChannels n w).map fun k => let c := s.secChan k.1 k.2
    (c.blanks, c.poisonAt)) ++
  (if epType w = 4 then s.sec.channels.filterMap fun p => (p.2.ended.filter fun x =>
      decide (x.conn = n) && (s.bond (epEngine w)).contains (p.1.i / 1024)).map fun x => (x.blanks, x.poisonAt) else [])

/-- Rejected, or withheld, by a receive half in the ticks whose words this tick writes; and a tag failure of the tick before. -/
def State.secureBlank (s : State) (n w : Nat) : Bool :=
  (s.rxMarks n w).any fun m => m.1.any fun b => decide (b.1 ≤ s.now) && decide (s.now ≤ b.2)
def State.securePoison (s : State) (n w : Nat) : Bool :=
  (s.rxMarks n w).any fun m => decide (m.2.map (· + 1) = some s.now)

/-- The words of a secured connection are those of the frame that its receive half passes on (R324). -/
def State.openedWords (s : State) (n w : Nat) (words : List Nat) : List Nat :=
  match (s.rxChannels n w).findSome? fun k => (s.secChan k.1 k.2).passing with
  | some b => words.zipIdx.map fun x => Config.openedWord [b.soh, b.mirror, b.psi, b.payload] s.now x.2 x.1 % 2 ^ 32
  | none => words

/-- The flags that a source endpoint sets, and whether its words are replaced with AIS fill. -/
def State.sourceFlags (s : State) (n w : Nat) : HeaderFlags × Bool :=
  match epType w with
  | 4 =>
    let g := s.bond (epEngine w)
    let valid := g.all fun e => decide (s.receiver e = 8) && s.domOn e
    let dead := s.sectionFail (epEngine w) || !valid || g.any (fun e => (s.engine e).idleSeen) || s.secureBlank n w
    ({ ais := dead, notValid := !valid, poison := s.securePoison n w }, dead || s.securePoison n w)
  | 1 =>
    let f := s.hostFlags (epLane w)
    ({ f with ais := f.ais || (isStm (s.clientType (epLane w)) && !s.oduForm (epLane w) && s.declared Df.msAis (epLane w)) }, f.ais || f.notValid)
  | 2 =>
    let f := s.hostFlags (epLane w)
    ({ f with ais := f.ais || s.declared Df.lop w || s.declared Df.ptrAis w }, f.ais || f.notValid)
  | 3 =>
    let f := s.hostFlags (epLane w)
    (f, f.ais || f.notValid)
  | 6 =>
    let fs := (s.physOf (epFlexGroup w)).map s.hostFlags
    let fail := fs.any (·.ais)
    let idle := fs.any (·.notValid) || fs.isEmpty
    ({ ais := fail, notValid := idle, csf := fail }, fail || idle)
  | 5 => ({ ais := decide (field w 21 20 ≠ 0) && (s.declared Df.lop w || s.declared Df.ptrAis w) }, false)
  | _ => ({}, false)

/-- A header word (R212). -/
def headerWord (f : HeaderFlags) (count bytes : Nat) : Nat :=
  f.ais.toNat * 2 ^ 31 + f.poison.toNat * 2 ^ 30 + f.notValid.toNat * 2 ^ 29 + f.csf.toNat * 2 ^ 28 + bytes % 16 * 2 ^ 20 + count % 2 ^ 20

/-! ## The words of a source (R156, R175, R182) -/

/-- Words of a container at its nominal rate that fall in elapsed tick `t`. -/
def wordsIn (nominal t : Nat) : Nat := (t + 1) * nominal / 25600000 - t * nominal / 25600000

/-- The words that a virtual SDH port sank two ticks ago, each with its VC position (R41, R182). -/
def State.virtualSunk (s : State) (v : Nat) : List (Nat × Nat) :=
  (s.prism.virtual.getD 2 []).filterMap fun w => let d := (connAt s.egressSet w.conn).dst
    if epType d = 5 ∧ epPort d = v then some (epName d, w.word) else none

/-- A virtual port's type, secure mapping and structure (R179, R182, R319). -/
def State.virtualConfig (s : State) (v : Nat) : List Nat :=
  let type := s.obj (Obj.VS_TYPE v)
  [type, s.obj (Obj.SEC_MAP (64 + v)), if s.obj (Obj.SEC_MAP (64 + v)) = 1 then securePayload type else 0] ++ (List.range (augCount type)).map fun a => s.obj (Obj.VS_STRUCT v a)

/-- The frame that each virtual SDH port assembles, a tick further (R182). -/
def State.assembleVirtual (s : State) : State :=
  s.withPrism fun p => { p with assembly := ((List.range 16).filter fun v => decide (s.obj (Obj.VS_TYPE v) ≠ 0)).foldl (fun m v =>
    Map.set 0 m (Key.unit v) (Config.virtualAssembly (Map.get 0 p.assembly (Key.unit v)) (s.virtualConfig v) (s.virtualSunk v))) [] }

/-- The ODU that a virtual SDH port sources in this tick: its frame, built of the VCs that it sinks and timed from DP0, in an ODU at its nominal rate
(R182, log entry 177). -/
def State.virtualOdu (s : State) (v : Nat) : List Nat :=
  let nominal := ((oduContainer (s.obj (Obj.VS_TYPE v)) (s.obj (Obj.SEC_MAP (64 + v)))).map (·.nominal)).getD 0
  (List.range (wordsIn nominal s.now)).map fun i => Config.virtualWord (Map.get 0 s.prism.assembly (Key.unit v)) s.now i % 2 ^ 32

/-- What the mapper of a feed has in this tick: a virtual port's ODU is its own, and the blocks of a codeword that an Ethernet client's RS-FEC could not
correct are error control blocks (R175). -/
def State.supplied (s : State) (f : Feed) : ConnWords :=
  let own := (s.prism.incoming.find? fun x => decide (x.conn = f.conn) && x.protect == f.protect).getD { conn := f.conn }
  if epType f.word = 5 ∧ field f.word 21 20 = 0 then { own with words := s.virtualOdu (epPort f.word), bytes := 4 }
  else if epType f.word = 1 ∧ isEthernet (s.clientType (epLane f.word)) then
    { own with words := own.words.zipIdx.map fun x => if own.errored.contains x.2 then Config.errorWord x.1 else x.1 }
  else { own with words := s.openedWords f.conn f.word own.words }

/-- The device builds a connection's ODU from a client or a virtual SDH port and puts the Mirror sequence into it (R302). -/
def State.mirrors (s : State) (n : Nat) (w : Nat) : Bool :=
  ((decide (epType w = 1) && s.oduForm (epLane w) && !isOtu (s.clientType (epLane w))) || (decide (epType w = 5) && decide (field w 21 20 = 0))) &&
    s.reg.any fun e => decide (e.1.c = 0x34) && decide (e.1.m = 0x01) && bit e.2 31 && decide (field e.2 18 0 = n)

/-- A kind-8 fault makes a connection's sequence invalid in this tick (R475). -/
def State.mirrorSpoilt (s : State) (n : Nat) : Bool :=
  s.overheadFault 8 fun t => decide (field t 18 0 = n)

/-- The bytes that the Mirror sequence replaces in a tick's words, each at its place: what the tick before left over, and the 5 bytes of each frame,
row 4, columns 9 to 13 (R156). -/
def mirrorBytes (r : MirrorRun) (valid : Bool) (frames : List Nat) : List (Nat × Nat) :=
  r.rest.zipIdx.map (fun x => (x.2, x.1)) ++ frames.zipIdx.flatMap fun f =>
    (List.range 5).map fun j => (f.1 + j, bytesOf 5 (packBytes [(4, r.next + f.2), (1, valid.toNat * 128)]) j 1)

/-- Words with bytes replaced, the first byte of a word its most significant one (DEDUCED, log entry 184). -/
def overlay (words : List Nat) (bytes : List (Nat × Nat)) : List Nat :=
  words.zipIdx.map fun w => (bytes.filter fun b => decide (b.1 / 4 = w.2)).foldl (fun v b => withBytes 4 v (b.1 % 4) 1 b.2) w.1

/-- The Mirror sequence in the words of a tick, and what the next tick takes; in a tick of AIS fill, whose frames are not written, their bytes are
lost with them. -/
def mirrorWords (r : MirrorRun) (valid : Bool) (words frames : List Nat) : List Nat × MirrorRun :=
  let bytes := mirrorBytes r valid frames
  let next := (r.next + frames.length) % 2 ^ 32
  if words = [] then ([], { next := next, rest := [] })
  else (overlay words bytes, { next := next, rest := (bytes.filter fun b => decide (4 * words.length ≤ b.1)).map (·.2) })

/-- The device maps a connection's source securely (R319). -/
def State.mapsSecurely (s : State) (w : Nat) : Bool :=
  (decide (epType w = 1) && s.oduForm (epLane w) && !isOtu (s.clientType (epLane w)) && decide (s.obj (Obj.SEC_MAP (epLane w)) = 1)) ||
    (decide (epType w = 5) && decide (field w 21 20 = 0) && decide (s.obj (Obj.SEC_MAP (64 + epPort w)) = 1))

/-- Fixed stuff in the words of a tick, row 4, columns 3809 to 3824 of each frame, 3,800 bytes after column 9 (R319), and what lies in later ticks. -/
def stuffWords (due words frames : List Nat) : List Nat × List Nat :=
  let places := due ++ frames.flatMap fun f => (List.range 16).map fun j => f + 3800 + j
  if words = [] then ([], [])
  else (overlay words (places.map fun p => (p, 0)), (places.filter fun p => decide (4 * words.length ≤ p)).map (· - 4 * words.length))

/-! ## A connection's positions -/

/-- The words of a connection that a tick writes: input position and index in the connection's order. -/
def Held.inputsIn (h : Held) (phase : Nat) : List (Nat × Nat) :=
  ((List.range h.inp.length).map fun k => (h.inp.getD k 0, k)).filterMap fun p =>
    if h.classM ∧ p.1 % 32 ≠ phase then none else some (p.1 / 32, p.2)

/-- The selector of a class M connection has changed since the last phase-0 tick (R215). -/
def State.selectorMoved (s : State) (m : Map Nat) (c : Conn) : Bool :=
  let moved := fun (g : Nat) => s.prot.snapshot.contains g != s.prism.selEpoch.contains g
  c.classM && (match groupOf m c with
    | some g => moved g
    | none => match mspGroup m c.src with
      | some (g, _) => moved g
      | none => false)

/-- What a tick's words of a source add to the epoch so far: the words are valid up to the first tick that does not fill its micro-slots (R213). -/
def EpochRun.extend (r : EpochRun) (f : HeaderFlags) (words room bytes : Nat) : EpochRun where
  count := r.count + words
  bytes := if words = 0 then r.bytes else bytes
  ais := r.ais || f.ais
  poison := r.poison || f.poison
  notValid := r.notValid || f.notValid
  csf := r.csf || f.csf
  full := r.full && decide (words = room) && decide (bytes = 4)

/-- What a mapper does in a tick: the words it writes by position, what the epoch comes to, and its Mirror sequence. -/
structure Mapped where
  conn : Nat
  headed : Bool
  writes : List (Nat × Nat)
  epoch : EpochRun
  mirror : MirrorRun
  stuff : List Nat
  deriving DecidableEq, Repr

/-- The merge group of a connection in ALIGNED: its words are those of the frames decided, whatever has become of the copy since (R306, R307). -/
def State.mergedRun (s : State) (c : Conn) : Option MmRun :=
  match groupOf s.act c with
  | some g => let x := groupAt s.act g
    if x.type = 9 ∧ s.mmState (mergeIndex x) = 2 then some (s.mm (mergeIndex x)) else none
  | none => none

/-- The header and data of a connection that its mapper writes in this tick (R185): a class W header describes the tick; a class M header the epoch
before (R211). Words beyond the valid ones are idle fill, and those of a source in signal fail AIS fill. -/
def State.mapperWords (s : State) (n : Nat) (c : Conn) (h : Held) : Mapped :=
  let f := s.feed s.act n c
  let own := s.supplied f
  let source := if s.carriesOci c then ({}, false) else match s.mergedRun c with
    | some r => ({ ais := r.outputBad }, r.outputBad)
    | none => s.sourceFlags f.conn f.word
  let merging := match groupOf s.act c with
    | some g => let x := groupAt s.act g
      decide (x.type = 9) && decide (0 < (s.mm (mergeIndex x)).notValid)
    | none => false
  let flags := { source.1 with ais := source.1.ais || own.ais, notValid := source.1.notValid || merging }
  let places := h.inputsIn s.phase
  let data := places.filter fun p => p.2 ≠ 0
  let before : EpochRun := if h.classM then Map.get {} s.prism.epochs (Key.unit n) else {}
  let base : EpochRun := if h.classM ∧ s.phase ≠ 0 then before else {}
  let given := if source.2 = true ∨ base.full = false then [] else own.words.take data.length
  let run := Map.get {} s.prism.mirror (Key.unit n)
  let stuffed := if s.mapsSecurely f.word then stuffWords (Map.get [] s.prism.stuff (Key.unit n)) given own.frames else (given, [])
  let woven := if s.mirrors n f.word then mirrorWords run (!s.mirrorSpoilt n) stuffed.1 own.frames else (stuffed.1, run)
  let last := if given.length = own.words.length then max 1 (min 4 own.bytes) else 4
  let epoch := base.extend flags given.length data.length last
  let told := if h.classM then before else epoch
  let header := headerWord
    { ais := told.ais, csf := told.csf, notValid := told.notValid
      poison := told.poison || s.prism.poisonDue.contains n || s.selectorMoved s.act c } told.count (if told.count = 0 then 0 else told.bytes)
  let head := places.filter fun p => p.2 = 0
  { conn := n, headed := !head.isEmpty
    writes := head.map (fun p => (p.1, header)) ++
      data.zipIdx.map fun p => (p.1.1, if source.2 then aisFill else woven.1.getD p.2 0 % 2 ^ 32)
    epoch := epoch, mirror := woven.2, stuff := stuffed.2 }

/-! ## Expansion links in the ingress maps (R256) -/

/-- A connection with input positions of its own. -/
def ownSource (c : Conn) : Bool := c.valid && decide (epType c.src ≠ 8) && decide (epType c.src ≠ 10)

/-- The ingress map of a link, by its first lane, is the one before the last swap: until tick E + 3, where that swap changed it. -/
def State.linkOld (s : State) (f : Nat) : Bool :=
  match s.shadow.lastSwap with
  | some e => s.shadow.expansionChanged.contains f && decide (s.now < e + 3)
  | none => false

/-- The connection table and the placements that map the words of a link. -/
def State.linkSet (s : State) (f : Nat) : Map Nat := if s.linkOld f then s.prism.connOld else s.act
def State.linkHeld (s : State) (f : Nat) : Map Held := if s.linkOld f then s.prism.heldOld else s.prism.held

/-- Connections of a set that expansion links feed in this tick. -/
def State.linkFed (s : State) (m : Map Nat) (held : Map Held) : List (Nat × Conn × Held) :=
  held.filterMap fun e =>
    let c := connAt m e.1.i
    if ownSource c ∧ epType (s.feed m e.1.i c).word = 7 then some (e.1.i, c, e.2) else none

/-! ## The stage (R202, R234, R238) -/

/-- The half of the tick that begins: unwritten, but for AIS fill where words of expansion links are awaited (R194). -/
def State.openHalf (s : State) (traffic : List ConnWords) : State :=
  let before := (s.linkFed s.prism.connOld s.prism.heldOld).filter fun x => s.linkOld (epLane (s.feed s.prism.connOld x.1 x.2.1).word)
  let fed := before ++ s.linkFed s.act s.prism.held
  let fill := fed.flatMap fun x => (x.2.2.inputsIn s.phase).map (·.1)
  let words := fill.foldl (fun m p => Map.set 0 m (Key.unit p) (storedWord aisFill)) ([] : Map Nat)
  s.withPrism fun p => { p.setHalf (s.tick % 2) words [] p.storage with
    incoming := traffic, corrupt := [], cellsSeen := []
    poisonDue := (p.poisonDue ++ p.poisonNext).dedup, poisonNext := [] }

/-- What the mappers of this tick write. -/
def State.mappers (s : State) : List Mapped :=
  s.prism.held.filterMap fun e =>
    let c := connAt s.act e.1.i
    if ownSource c ∧ epType (s.feed s.act e.1.i c).word ≠ 7 then some (s.mapperWords e.1.i c e.2) else none

/-- The ingress write stage: by the end of the tick the mappers have written their words, but for positions that an overrun left unwritten, and
slice 16 the XOR words of what is written. -/
def State.ingressStage (s : State) : State :=
  let maps := s.mappers
  let half := s.tick % 2
  let written := (maps.flatMap (·.writes)).foldl (fun m w => Map.set 0 m (Key.unit w.1) (storedWord w.2)) (s.prism.words half)
  let kept := written.filter fun e => !(s.prism.unwritten half).contains e.1.i
  let words := (s.prism.corrupt.filter fun c => !(s.prism.unwritten half).contains c.1).foldl (fun m c =>
    Map.set 0 m (Key.unit c.1) (storedWord (Nat.xor (wordOf (Map.get 0 m (Key.unit c.1))) c.2))) kept
  let headed := (maps.filter (·.headed)).map (·.conn)
  s.withPrism fun p => { p.setHalf half words (p.unwritten half) { p.mode half with slice16 := slice16Of (p.mode half) words } with
    poisonDue := p.poisonDue.filter fun n => !headed.contains n
    epochs := maps.foldl (fun m x => Map.set {} m (Key.unit x.conn) x.epoch) []
    mirror := maps.foldl (fun m x => Map.set {} m (Key.unit x.conn) x.mirror) []
    stuff := maps.foldl (fun m x => Map.set [] m (Key.unit x.conn) x.stuff) []
    selEpoch := if s.phase = 0 then s.prot.snapshot else p.selEpoch }

end Sys2Proof.Machine
end

