-- ==== Sys2Proof/Machine/Expansion.lean ====
section
/-! DEFINITION. The cells of expansion links, received and sent (R188 to R194, R256). -/

namespace Sys2Proof.Machine

/-! ## Cells (R189) -/

/-- HEC of a header word: over [31:8]. -/
def headerHec (head : Nat) : Nat := Nat.xor (crc 8 0x07 0 24 (head / 256)) 0x55

/-- CRC-32 of words 0 to 30 of a control cell (bit order: log entry 171). -/
def controlCrc (payload : List Nat) : Nat :=
  0xFFFFFFFF - crc 32 0x04C11DB7 0xFFFFFFFF 992 (packBytes ((payload.take 31).map fun w => (4, w)))

/-- The x⁴³ + 1 scrambler on a word, from the last 43 bits sent, and those bits after it. -/
def scrambleWord (state w : Nat) : Nat × Nat :=
  let out := Nat.xor (w % 2 ^ 32) (state / 2 ^ 11 % 2 ^ 32)
  (out, (state * 2 ^ 32 + out) % 2 ^ 43)

/-- The descrambler, from the last 43 bits received. -/
def descrambleWord (state w : Nat) : Nat × Nat :=
  (Nat.xor (w % 2 ^ 32) (state / 2 ^ 11 % 2 ^ 32), (state * 2 ^ 32 + w % 2 ^ 32) % 2 ^ 43)

/-- Words through a scrambler or descrambler. -/
def runWords (f : Nat → Nat → Nat × Nat) : Nat → List Nat → List Nat × Nat
  | state, [] => ([], state)
  | state, w :: ws =>
    let x := f state w
    let y := runWords f x.2 ws
    (x.1 :: y.1, y.2)

end Sys2Proof.Machine

namespace Sys2Proof

open Sys2Proof.Machine

def Cell.kind (c : Cell) : Nat := field c.head 31 30
def Cell.phase (c : Cell) : Nat := field c.head 29 25
def Cell.cell (c : Cell) : Nat := field c.head 24 17
def Cell.lane (c : Cell) : Nat := field c.head 16 14
def Cell.hecOk (c : Cell) : Bool := decide (field c.head 7 0 = headerHec c.head)

end Sys2Proof

namespace Sys2Proof.Machine

/-- A header word with its HEC. -/
def cellHeader (kind phase cell lane : Nat) : Nat :=
  let v := kind % 4 * 2 ^ 30 + phase % 32 * 2 ^ 25 + cell % 256 * 2 ^ 17 + lane % 8 * 2 ^ 14
  v + headerHec v

/-! ## Delineation (R188, R191) -/

def expCell (s : State) (l : Nat) : CellLane := Map.get {} s.cells (Key.unit l)
def State.setCells (s : State) (l : Nat) (c : CellLane) : State := { s with cells := Map.set {} s.cells (Key.unit l) c }

/-- Alignment has been found on a lane of an expansion link (R188): the lane is locked, and so is the client's FEC. -/
def State.linkAligned (s : State) (f l : Nat) : Bool := (s.client f).pcs && decide (s.obj (Obj.HL_STATE l) = 2)

/-- A lane's delineation enters a state: dLCD holds outside SYNC (R191). -/
def State.setCellState (s : State) (f l new : Nat) : State :=
  let t := s.setObj (Obj.HL_CELL_STATE l) new
  let on := decide (new ≠ 2)
  let u := if on ∧ ¬ t.declared Df.lcd l then (t.declare Df.lcd l).raise Ev.LCD [l, l, t.obj (Obj.EXP_HEC_ERR f)] else t.setDefect Df.lcd l on
  u.refreshClient f

/-! ## Words of a link (R189, R194, R256) -/

/-- Link position of a payload word (R189). -/
def linkPosition (lane d cell w : Nat) : Nat := (lane * d + cell) * 32 + w

/-- A connection that takes words from a link in this tick. -/
structure LinkConn where
  conn : Nat
  entry : Conn
  held : Held
  first : Nat
  deriving DecidableEq, Repr

/-- The connections of a link as the link ingress map of the tick has them. -/
def State.linkConns (s : State) (f : Nat) : List LinkConn :=
  (s.linkFed (s.linkSet f) (s.linkHeld f)).filterMap fun x =>
    let w := (s.feed (s.linkSet f) x.1 x.2.1).word
    if epLane w = f then some ⟨x.1, x.2.1, x.2.2, epLinkFirst w⟩ else none

/-- A link position lies in a connection's part of the link. -/
def LinkConn.has (x : LinkConn) (pos : Nat) : Bool := decide (x.first ≤ pos) && decide (pos < x.first + x.held.inp.length)

/-- One payload word of a link written into the current half; a header takes the POISON that its connection is owed, or that a change of the
selector brings (R194, R215). -/
def State.writeLinkWord (s : State) (f : Nat) (x : LinkConn) (pos word : Nat) : State :=
  let u := x.held.inp.getD (pos - x.first) 0
  if x.has pos = false ∨ (x.held.classM = true ∧ u % 32 ≠ s.phase) then s
  else
    let header := decide (pos = x.first)
    let poisoned := header && (s.prism.poisonDue.contains x.conn || s.selectorMoved (s.linkSet f) x.entry)
    s.withPrism fun p =>
      let half := s.tick % 2
      let v := if poisoned then withBit word 30 true else word
      let q := p.setHalf half (Map.set 0 (p.words half) (Key.unit (u / 32)) (storedWord v)) (p.unwritten half) (p.mode half)
      { q with poisonDue := if header then p.poisonDue.filter (· ≠ x.conn) else p.poisonDue }

/-- At the end of a tick every connection with a word in a data cell that did not arrive owes POISON (R194). -/
def State.missingCells (s : State) : State :=
  s.clients.foldl (fun t p =>
    let f := p.1.i
    if t.clientType f ≠ 19 then t
    else
      let total := p.2.lanes.length * dataCells p.2.rate
      let seen := (t.prism.cellsSeen.filter fun c => decide (c.1 = f)).map (·.2)
      let lost := fun (x : LinkConn) =>
        (List.range total).any fun j => !seen.contains j && decide (x.first < 32 * (j + 1)) && decide (32 * j < x.first + x.held.inp.length)
      let owed := ((t.linkConns f).filter lost).map (·.conn)
      if owed = [] then t else t.withPrism fun q => { q with poisonNext := (q.poisonNext ++ owed).dedup }) s

/-- A data cell that is accepted, with its payload descrambled. -/
def State.writeCell (s : State) (f d : Nat) (cell : Cell) (payload : List Nat) : State :=
  let conns := s.linkConns f
  let t := s.withPrism fun p => { p with cellsSeen := p.cellsSeen ++ [(f, cell.lane * d + cell.cell)] }
  (List.range 32).foldl (fun t w =>
    let pos := linkPosition cell.lane d cell.cell w
    match conns.find? (·.has pos) with
    | some x => t.writeLinkWord f x pos (payload.getD w 0)
    | none => t) t

/-- A control cell: the sender's counter against the own one (R193). -/
def State.controlCell (s : State) (f : Nat) (payload : List Nat) : State :=
  let theirs := payload.getD 0 0 * 2 ^ 32 + payload.getD 1 0
  let differs := decide (1 < (theirs - s.tick) + (s.tick - theirs))
  let c := s.client f
  let d := if differs then min 2 (c.differ + 1) else 0
  let a := if differs then 0 else min 32 (c.agree + 1)
  let t := { s with clients := Map.set {} s.clients (Key.unit f) { c with differ := d, agree := a } }
  if d = 2 ∧ ¬ t.declared Df.tickMm f then
    ((t.declare Df.tickMm f).raise Ev.TICKMM [f, s.tick, theirs]).refreshClient f
  else if a = 32 ∧ t.declared Df.tickMm f = true then (t.clear Df.tickMm f).refreshClient f
  else t

/-- A cell in SYNC (R191, R194). -/
def State.syncCell (s : State) (f l : Nat) (cell : Cell) (payload : List Nat) : State :=
  let c := expCell s l
  let d := dataCells (s.client f).rate
  if cell.hecOk = false then
    let t := (s.bump (Obj.EXP_HEC_ERR f)).bump (Obj.EXP_CELL_DISCARD f)
    if c.bad + 1 < 7 then t.setCells l { c with bad := c.bad + 1 }
    else (t.setCells l { c with bad := 0, due := none, fits := [], huntFrom := cell.pos + 1 }).setCellState f l 0
  else
    let t := s.setCells l { c with bad := 0 }
    if (s.client f).lanes.length ≤ cell.lane ∨ d ≤ cell.cell ∨ (cell.kind = 0 ∧ cell.phase ≠ (s.phase + 30) % 32) then
      t.bump (Obj.EXP_CELL_DISCARD f)
    else match cell.kind with
      | 0 => t.writeCell f d cell payload
      | 2 => if payload.getD 31 0 = controlCrc payload then t.controlCell f payload else t
      | _ => t

/-- Consecutive fits, at distances of 1,056 bits, from a position on. -/
def fitsFrom (fits : List Nat) : Nat → Nat → Nat
  | _, 0 => 0
  | p, fuel + 1 => if fits.contains p then 1 + fitsFrom fits (p + 1056) fuel else 0

/-- HUNT, resumed at the bit after a candidate that has failed at a position, over the headers that have fitted since (R191): the next candidate whose
headers have fitted up to that position, with how many have. -/
def nextCandidate (fits : List Nat) (failed : Nat) : List Nat → Option (Nat × Nat)
  | [] => none
  | p :: ps =>
    let n := fitsFrom fits p 6
    if n = 6 ∨ failed < p + 1056 * n then some (p, n) else nextCandidate fits failed ps

/-- A lane in PRESYNC on a candidate, or in SYNC once 6 headers of it have fitted. -/
def State.candidateAt (s : State) (f l first good : Nat) (fits : List Nat) : State :=
  let c := { expCell s l with good := if good < 6 then good else 0, bad := 0, first := first, due := some (first + 1056 * good), fits := fits }
  (s.setCells l c).setCellState f l (if good < 6 then 1 else 2)

/-- HUNT and PRESYNC on a header position that the lane tests (R191). In PRESYNC the header 1,056 bits after the last good one decides; positions
that fit elsewhere are kept for a HUNT that resumes. -/
def State.huntCell (s : State) (f l : Nat) (cell : Cell) : State :=
  let c := expCell s l
  if s.obj (Obj.HL_CELL_STATE l) = 0 then
    if cell.hecOk = true ∧ c.huntFrom ≤ cell.pos then s.candidateAt f l cell.pos 1 [] else s
  else if c.due ≠ some cell.pos then
    (if cell.hecOk then s.setCells l { c with fits := c.fits ++ [cell.pos] } else s)
  else if cell.hecOk then
    s.candidateAt f l c.first (c.good + 1) (c.fits ++ [cell.pos])
  else match nextCandidate c.fits cell.pos (c.fits.filter fun p => decide (c.first < p)) with
    | some (p, n) => s.candidateAt f l p n (c.fits.filter fun q => decide (p < q))
    | none => (s.setCells l { c with good := 0, due := none, fits := [], huntFrom := c.first + 1 }).setCellState f l 0

/-- EXPANSION_CELL_RECEIVE (R188, R191 to R194): a lane in near-end serial loopback receives the cells that it sends (R196). -/
def execExpansionCellReceive (l : Fin 64) (cell : Cell) (s : State) : Out :=
  match s.laneOwner l with
  | none => .next s
  | some f =>
    let own := (s.client f).cells.any fun c => decide (c.head = cell.head) && decide (c.payload = cell.payload)
    if s.clientType f ≠ 19 ∨ s.linkAligned f l = false ∨ (field (s.obj (Obj.HL_CFG l)) 3 2 = 1 ∧ own = false) then .next s
    else if s.obj (Obj.HL_CELL_STATE l) = 2 ∧ (expCell s l).due ≠ some cell.pos then .next s
    else
      let x := runWords descrambleWord (expCell s l).received cell.payload
      let t := s.setCells l { expCell s l with received := x.2 }
      .next (if t.obj (Obj.HL_CELL_STATE l) = 2 then
          (t.setCells l { expCell t l with due := some (cell.pos + 1056) }).syncCell f l cell x.1
        else t.huntCell f l cell)

/-! ## Sending (R189, R190) -/

/-- Bits of a lane of a rate in a tick after FEC, and the cells that a tick holds. -/
def laneBits (rate : Nat) : Nat :=
  match rate with
  | 8 => 62744 | 9 => 125488 | 10 => 250976 | _ => 0

def cellsIn (rate t : Nat) : Nat := (t + 1) * laneBits rate / 1056 - t * laneBits rate / 1056

/-- Words that the egress mappers of a link have, by link position. -/
def State.linkWords (s : State) (f : Nat) : List (Nat × Nat) :=
  s.prism.egress.filterMap fun w =>
    let d := (connAt s.egressSet w.conn).dst
    if epType d = 7 ∧ epLane d = f then some (epLinkFirst d + w.index, w.word) else none

/-- The payload of a control cell: the tick counter and the configuration generation. -/
def State.controlPayload (s : State) : List Nat :=
  let words := [s.tick / 2 ^ 32 % 2 ^ 32, s.tick % 2 ^ 32, s.obj Obj.SHD_GENERATION] ++ List.replicate 28 0
  words ++ [controlCrc words]

/-- The cells of one lane in a tick, in clear: a control cell, the data cells, and idle cells (their order, and what no rule fixes in them: log
entry 172). -/
def State.laneCells (s : State) (rate lane : Nat) (words : List (Nat × Nat)) : List Cell :=
  let phase := (s.phase + 31) % 32
  let d := dataCells rate
  let wordAt := fun (pos : Nat) => ((words.find? fun x => decide (x.1 = pos)).map (·.2)).getD 0
  let data := (List.range d).map fun j =>
    ({ head := cellHeader 0 phase j lane, payload := (List.range 32).map fun w => wordAt (linkPosition lane d j w) } : Cell)
  { head := cellHeader 2 phase 0 lane, payload := s.controlPayload } :: data ++
    List.replicate (cellsIn rate s.now - d - 1) { head := cellHeader 1 phase 0 lane, payload := List.replicate 32 0 }

/-- Cells with their payloads scrambled, in the order in which a lane sends them. -/
def scrambleCells : Nat → List Cell → List Cell × Nat
  | state, [] => ([], state)
  | state, c :: cs =>
    let x := runWords scrambleWord state c.payload
    let y := scrambleCells x.2 cs
    ({ c with payload := x.1 } :: y.1, y.2)

/-- A lane sends cells of its own: no PRBS generator runs on it, and it is not in far-end loopback, which sends back what it receives (R170, R196). -/
def State.laneSends (s : State) (l : Nat) : Bool :=
  decide (field (s.obj (Obj.HL_PRBS_CFG l)) 3 0 = 0) && decide (field (s.obj (Obj.HL_CFG l)) 3 2 ≠ 2)

/-- A link's lanes send their cells, in the coding that R188 gives the lanes. -/
def State.sendLink (s : State) (f : Nat) : State :=
  let c := s.client f
  let words := s.linkWords f
  let run := (c.lanes.zipIdx.filter fun x => s.laneSends x.1).foldl (fun (t : State × List Cell) x =>
    let y := scrambleCells (expCell t.1 x.1).sent (s.laneCells c.rate x.2 words)
    (t.1.setCells x.1 { expCell t.1 x.1 with sent := y.2 }, t.2 ++ y.1)) (s, [])
  let stream := Config.cellStream (c.rate :: c.lanes.flatMap fun l => [s.obj (Obj.HL_CFG l), s.obj (Obj.HL_PRBS_CFG l)])
    (run.2.map fun x => (x.head, x.payload))
  let sent : Client := { run.1.client f with cells := run.2, tx := { (run.1.client f).tx with stream := stream } }
  { run.1 with clients := Map.set {} run.1.clients (Key.unit f) sent }

/-- Every expansion link sends the cells of the tick, whose words Prism has read in the tick before. -/
def State.sendCells (s : State) : State :=
  s.clients.foldl (fun t p => if t.clientType p.1.i = 19 then t.sendLink p.1.i else t) s

end Sys2Proof.Machine
end

