-- ==== Sys2Proof/Machine/Fec.lean ====
section
/-! DEFINITION. The decoder pool and FEC failure: the meanings of chapter 04 up to R137. -/

namespace Sys2Proof.Machine

/-- Codes of the cause in EV_DEC_CORE_FAIL, in the order of R164. DESIGN CHOICE (log entry 165): they count from 1. -/
def coreCauseCode : CoreCause → Nat
  | .deadline => 1 | .parity => 2 | .test => 3

/-- A core fails: it is fenced in the same tick and reported (R130). -/
def State.fenceCore (s : State) (e c cause : Nat) : State :=
  let t := (s.bump (Obj.FEC_CORE_FAIL_COUNT e)).raise Ev.DEC_CORE_FAIL [e, c, cause]
  t.withEngine e fun r => { r with fenced := if r.fenced.contains c then r.fenced else r.fenced ++ [c] }

/-- Writes of class 0x12 (R135). -/
def acceptFec : Accept := fun k v s =>
  if k.m = 0x07 then
    let r := s.engine k.i
    if ¬ r.fenced.contains v.v then (.range, s)
    else if r.retesting.contains v.v ∨ s.waits (fun d => decide (d = .coreTest k.i v.v) || decide (d = .coreJoin k.i v.v)) then (.busy, s)
    else if ¬ s.domOn k.i then (.precond, s)
    else (.ok, s.plan (s.now + 1) (.coreTest k.i v.v))
  else acceptStage k v s

/-- A retest starts at its boundary (R135). -/
def State.coreTest (s : State) (e c : Nat) : State :=
  if s.domOn e then s.withEngine e fun r => { r with retesting := r.retesting ++ [c] } else s

/-- A core that passed its retest rejoins the pool (R135). -/
def State.coreJoin (s : State) (e c : Nat) : State :=
  let t := (s.setCore e c true).withEngine e fun r => { r with fenced := r.fenced.filter (· ≠ c) }
  t.raise Ev.DEC_CORE_RESTORED [e, c, t.cores e]

/-- The cores that have the shares of this tick: those that work, and those that have failed in it (R131). -/
def State.sharing (s : State) (e : Nat) : List Nat :=
  let r := s.engine e
  (List.range 25).filter fun c => s.coreWorks e c || (decide (r.failTick = s.now) && r.failCores.contains c)

/-- The shares of a tick's codewords that a core holds (R129): the 24 shares go round the cores of the tick in number order (log entry 161). -/
def State.sharesOf (s : State) (e c : Nat) : List Nat :=
  let working := s.sharing e
  (List.range 24).filter fun j => decide (working.getD (j % max 1 working.length) 25 = c)

/-- Codewords that a locked receiver takes in this tick: in a Z mode those of the agreement (R127, log entry 161). -/
def State.tickWords (s : State) (e : Nat) : Nat :=
  if ¬ (s.domOn e ∧ s.rxLocked e) then 0
  else if modeZ (s.mode e) then Config.agreementWords (s.mode e) s.now
  else codewordsIn (s.mode e) s.now

/-- Codewords of a core's shares in this tick (R131), none without lock; in a Z mode as many as `given`, where the core holds any. -/
def State.heldWords (s : State) (e c given : Nat) : Nat :=
  let w := s.tickWords e
  let held := s.sharesOf e c
  if ¬ s.rxLocked e ∨ held = [] then 0
  else if modeZ (s.mode e) then given
  else (held.map fun j => (j + 1) * w / 24 - j * w / 24).sum

/-- DEC_CORE_FAIL (R130 to R134): only a core in the pool of an engine that is On fails; the codewords of its shares are dispatched again in the
next tick. -/
def execDecCoreFail (e : Fin 4) (core : Fin 25) (cause : CoreCause) (codewords : Nat) (s : State) : Out :=
  if s.coreWorks e core ∧ s.domOn e then
    let words := s.heldWords e core codewords
    let t := s.fenceCore e core (coreCauseCode cause)
    .next ((t.setCore e core false).withEngine e fun r => { r with
      redispatch := r.redispatch + words, failTick := s.now, failCount := if r.failTick = s.now then r.failCount + 1 else 1
      failCores := if r.failTick = s.now then r.failCores ++ [core.val] else [core.val] })
  else .next s

/-- The decoder pool in a new tick: codewords of cores that failed in the last one are dispatched again out of the input memory (R131), which keeps them
and the new ones until their output is accepted (R129). -/
def State.dispatchWords (s : State) (e : Nat) : State :=
  let r := s.engine e
  let t := if r.redispatch = 0 then s else s.bump (Obj.FEC_REDISPATCH_COUNT e) r.redispatch
  t.withEngine e fun r => { r with
    redispatch := 0
    inputMemory := if s.domOn e ∧ s.rxLocked e then s.tickWords e :: (if r.redispatch = 0 then [] else [r.redispatch]) else [] }

/-- CORE_STARTUP_TEST_DONE (R135). -/
def execCoreStartupTestDone (e : Fin 4) (core : Fin 25) (pass : Bool) (s : State) : Out :=
  if (s.engine e).starting.contains core.val ∧ s.domOn e then
    let t := s.withEngine e fun r => { r with starting := r.starting.filter (· ≠ core.val) }
    .next (if pass then t.setCore e core true else t.fenceCore e core 3)
  else .next s

/-- FEC_CORE_RETEST write (R135). -/
def execFecCoreRetest (rq : Rq) (e : Fin 4) (val : Val) (s : State) : Out :=
  .next (serveWrite acceptFec rq (Obj.FEC_CORE_RETEST e) val s)

/-- CORE_RETEST_DONE (R135): a core that passes rejoins at the next tick boundary. -/
def execCoreRetestDone (e : Fin 4) (core : Fin 25) (pass : Bool) (s : State) : Out :=
  if (s.engine e).retesting.contains core.val ∧ s.domOn e then
    let t := s.withEngine e fun r => { r with retesting := r.retesting.filter (· ≠ core.val) }
    .next (if pass then t.plan (s.now + 1) (.coreJoin e core) else t.fenceCore e core 3)
  else .next s

/-- FECFAIL_DECLARE (R118, R137): the uncorrected fraction, in 0.001, and for how many ticks it has reached the threshold. -/
def execFecfailDeclare (e : Fin 4) (fraction ticks : Nat) (s : State) : Out :=
  if s.domOn e ∧ s.rxLocked e ∧ s.mode e ≠ 0 ∧ s.obj (Obj.FEC_FAIL_THRESH e) ≤ fraction ∧ s.obj (Obj.FEC_FAIL_TICKS e) ≤ ticks then
    .next (s.declare Df.fecFail e)
  else .next s

/-- FECFAIL_CLEAR (R137): 8 ticks below the threshold, unless a collapsed pool holds it (R133). -/
def execFecfailClear (e : Fin 4) (ticks : Nat) (s : State) : Out :=
  if 8 ≤ ticks ∧ ¬ s.poolCollapsed e then .next (s.clear Df.fecFail e) else .next s

end Sys2Proof.Machine
end

