-- ==== Sys2Proof/Machine/Image.lean ====
section
/-! DEFINITION. The layout of a coefficient image (R75): where each quantity of R63 lies, what is stored of an image, and its digest. -/

namespace Sys2Proof

/-- A run of equal entries of the image that hold a quantity: its start, its length, the size of an entry, and the quantity's place and
width in the entry. -/
structure ImageRun where
  start : Nat
  length : Nat
  step : Nat
  place : Nat
  width : Nat
  deriving DecidableEq, Repr

/-- The runs of a quantity: of the ADC, then of the DAC, which corrects no polarisation skew (R63, R75). DESIGN CHOICE
(log entry 211): the 4 bytes of an entry at 0x1940 hold I/Q skew or polarisation skew, as the coefficient says; a new one replaces the entry. -/
def CalQuantity.runs : CalQuantity → List ImageRun
  | .gain => [⟨0x40, 6144, 6, 0, 2⟩, ⟨0x1958, 96, 6, 0, 2⟩]
  | .offset => [⟨0x40, 6144, 6, 2, 2⟩, ⟨0x1958, 96, 6, 2, 2⟩]
  | .timing => [⟨0x40, 6144, 6, 4, 2⟩, ⟨0x1958, 96, 6, 4, 2⟩]
  | .iqSkew => [⟨0x1940, 16, 4, 0, 4⟩, ⟨0x19B8, 8, 4, 0, 4⟩]
  | .response => [⟨0x1840, 256, 2, 0, 2⟩, ⟨0x19C0, 256, 2, 0, 2⟩]
  | .polSkew => [⟨0x1940, 16, 4, 0, 4⟩]
  | .darkOffset => [⟨0x1950, 8, 2, 0, 2⟩]

def ImageRun.holds (r : ImageRun) (offset bytes : Nat) : Bool :=
  decide (r.start ≤ offset) && decide (offset < r.start + r.length) && decide ((offset - r.start) % r.step = r.place) && decide (bytes = r.width)

/-- The coefficient lies where the image holds its quantity. -/
def Coefficient.inPlace (c : Coefficient) : Bool := c.kind.runs.any fun r => r.holds c.offset c.bytes

/-- The coefficient is one of a quantity that background calibration corrects (R63); dark offsets are measured in the foreground only. -/
def Coefficient.background (c : Coefficient) : Bool := decide (c.kind ≠ .darkOffset)

/-- What a foreground calibration measures (R68; DEDUCED, log entry 199): 1 the offsets of the ADCs and the dark offsets, 2 the response, I/Q skew
and polarisation skew, 3 gain and response. -/
def Coefficient.measuredBy (kind : Nat) (c : Coefficient) : Bool :=
  match c.kind with
  | .gain => decide (kind = 3)
  | .offset => decide (kind = 1 ∧ c.offset < 0x1840)
  | .timing => false
  | .iqSkew => decide (kind = 2)
  | .response => decide (kind = 2 ∨ kind = 3)
  | .polSkew => decide (kind = 2)
  | .darkOffset => decide (kind = 1)

/-- Update period of a quantity in ticks (R63). -/
def CalQuantity.period : CalQuantity → Nat
  | .gain => 8
  | .offset => 8
  | .timing => 8
  | .iqSkew => 800
  | .response => 800
  | .polSkew => 800
  | .darkOffset => 0

namespace Machine

/-- The image with its reserved bytes cleared (R75, R9). -/
def imageStored (v : Nat) : Nat :=
  withBytes 8192 (withBytes 8192 (withBytes 8192 (withBytes 8192 v 3 1 0) 0x30 16 0) 0x1AD8 1256 0) 0x1FE0 32 0

/-- The digest an image carries, over its first bytes (R75). -/
def imageDigest (v : Nat) : Nat := Config.shake256 32 [⟨0x1FC0, bytesOf 8192 v 0 0x1FC0⟩]

/-- An image as it is read: the coefficients in force under a fresh header and digest (R75, R76). -/
def imageRead (image engine tick temperature identity : Nat) : Nat :=
  let header := packBytes [(2, 1), (1, engine), (1, 0), (8, tick), (4, temperature % 2 ^ 32), (32, identity), (16, 0)]
  let v := withBytes 8192 (imageStored image) 0 64 header
  withBytes 8192 v 0x1FC0 32 (imageDigest v)

end Machine

end Sys2Proof
end

