-- ==== Sys2Proof/Machine/Optics.lean ====
section
/-! DEFINITION. Co-packaged optics and converters: the meanings of chapter 02 (R50 to R79). -/

namespace Sys2Proof.Machine

/-! ## Calibration, shared operations (R63 to R71) -/

/-- Some rail is at its warning level (R499). -/
def State.supplyWarned (s : State) : Bool := decide (s.obj Obj.PWR_WARN_ACTIVE ≠ 0)

/-- Duration of a foreground calibration in ticks (R68). -/
def calTicks (kind : Nat) : Nat := if kind = 1 then 16000 else if kind = 2 then 48000 else 32000

/-- The check of R68 in one tick, with the detector's power: the abort code where it fails (R73). -/
def State.calCheck (s : State) (e kind : Nat) (power : Int) : Option Nat :=
  match kind with
  | 1 => if power < -3500 then none else some 4
  | 2 => if s.obj (Obj.OPT_LOOPBACK e) = 1 ∧ -1200 ≤ power ∧ power ≤ -400 then none else some 5
  | _ =>
    if ¬ bit (s.obj Obj.CNV_REF_STATUS) 0 then some 6
    else if ¬ bit (s.obj Obj.CNV_REF_STATUS) 1 then some 7 else none

/-- A foreground calibration ends without a commit, its status shown at once (R69, R71). -/
def State.calEnd (s : State) (e code : Nat) : State :=
  match (s.engine e).cal with
  | none => s
  | some (kind, _) =>
    ((s.withEngine e fun r => { r with cal := none }).setObj (Obj.CNV_CAL_STATUS e) code).raise Ev.CAL_ABORT [e, kind, code]

/-- A precondition that fails in a tick aborts the run in that tick; the status shows it from the next tick (R70). -/
def State.calAbortCheck (s : State) (e : Nat) (power : Int) : State :=
  match (s.engine e).cal with
  | some (kind, .running _) =>
    match s.calCheck e kind power with
    | none => s
    | some code =>
      ((s.withEngine e fun r => { r with cal := none }).stage (Obj.CNV_CAL_STATUS e) code).raise Ev.CAL_ABORT [e, kind, code]
  | _ => s

/-- A foreground calibration starts: dLOS is held declared and the receiver is dark for the run (R70, R123). -/
def State.calBegin (s : State) (e : Nat) : State :=
  match (s.engine e).cal with
  | some (kind, .requested) =>
    let t := (s.withEngine e fun r => { r with cal := some (kind, .running s.now) }).setObj (Obj.CNV_CAL_STATUS e) 1
    ((t.declare Df.los e).toDark e).withEngine e fun r => { r with calDark := true }
  | _ => s

/-- The image with some coefficients replaced, each where the image holds its quantity (R64, R71). -/
def applyCoefficients (image : Nat) (cs : List Coefficient) : Nat :=
  (cs.filter Coefficient.inPlace).foldl (fun v c => withBytes 8192 v c.offset c.bytes c.value) image

/-- Corrected coefficients take effect, also in the combined response of R96. -/
def State.applyImage (s : State) (e : Nat) (cs : List Coefficient) : State :=
  (s.setObj (Obj.CNV_CAL_IMAGE e) (applyCoefficients (s.obj (Obj.CNV_CAL_IMAGE e)) cs)).refreshTxStatus e

/-- The background update of a coefficient is due: its update period has passed (R63). -/
def Engine.calDue (r : Engine) (now : Nat) (c : Coefficient) : Bool :=
  match Map.get 0 r.calUpdated (Key.unit c.offset) with
  | 0 => true
  | n => decide (n - 1 + c.kind.period ≤ now)

/-- Background coefficients commit at a tick boundary, unless CNV_BG_CAL = 0 has frozen them (R63, R64, R66). -/
def State.bgCommit (s : State) (e : Nat) (cs : List Coefficient) : State :=
  if s.obj (Obj.CNV_BG_CAL e) = 0 then s
  else
    let due := cs.filter fun c => c.background && (s.engine e).calDue s.now c
    (s.applyImage e due).withEngine e fun r => { r with
      calUpdated := due.foldl (fun m c => Map.set 0 m (Key.unit c.offset) (s.now + 1)) r.calUpdated }

/-- A complete calibration commits at a tick boundary, or is deferred under a supply warning (R71). -/
def State.calCommit (s : State) (e : Nat) : State :=
  match (s.engine e).cal with
  | some (kind, .complete since) =>
    if s.supplyWarned then
      (s.withEngine e fun r => { r with cal := some (kind, .complete (some (since.getD s.now))) }).setObj (Obj.CNV_CAL_STATUS e) 2
    else
      let t := (s.applyImage e (s.engine e).calResult).setObj (Obj.CNV_CAL_STATUS e) 3
      (t.withEngine e fun r => { r with cal := none, calResult := [] }).raise Ev.CAL_DONE [e, kind]
  | _ => s

/-- A foreground calibration of the engine reads RUNNING or COMMIT_DEFERRED (R69, R77). -/
def State.calOccupied (s : State) (e : Nat) : Bool :=
  decide (s.obj (Obj.CNV_CAL_STATUS e) = 1) || decide (s.obj (Obj.CNV_CAL_STATUS e) = 2)

/-- A calibration runs: it holds the engine's dLOS declared and pauses its background calibration until it aborts or completes, also where
the commit is then deferred (R70). -/
def State.calHoldsLos (s : State) (e : Nat) : Bool :=
  match (s.engine e).cal with
  | some (_, .running _) => true
  | _ => false

/-- The precondition of the engines' running calibrations, checked with the detectors' last readings (R70). -/
def State.calChecks (s : State) : State :=
  [0, 1, 2, 3].foldl (fun (t : State) e => t.calAbortCheck e (t.objInt (Obj.OPT_RX_POWER_MEAS e))) s

/-! ## Writes of class 0x10 -/

/-- R69. -/
def acceptCalStart : Accept := fun k v s =>
  if 1 ≤ v.v ∧ s.calOccupied k.i then (.busy, s)
  else if s.sourced s.act k.i then (.precond, s)
  else if ¬ s.domOn k.i then (.precond, s)
  else if v.v = 0 then (if s.calOccupied k.i then (.ok, s.calEnd k.i 9) else (.precond, s))
  else
    let t := s.withEngine k.i fun r => { r with cal := some (v.v, .requested) }
    (.ok, if s.waits (fun d => decide (d = .calStart k.i)) then t else t.plan (s.now + 1) (.calStart k.i))

/-- R77, checks 2 to 4. -/
def acceptImage : Accept := fun k v s =>
  if bytesOf 8192 v.v 0 2 ≠ 1 ∨ bytesOf 8192 v.v 2 1 ≠ k.i ∨ bytesOf 8192 v.v 0x1FC0 32 ≠ imageDigest v.v then (.range, s)
  else if bytesOf 8192 v.v 0x10 32 ≠ s.obj Obj.DEV_ID_DIGEST then (.precond, s)
  else if s.calOccupied k.i then (.busy, s)
  else (.ok, s.stage k (imageStored v.v))

/-- The pads of an engine are held since its sleep (R492). -/
def State.padHeld (s : State) (e : Nat) : Bool := decide (s.obj (Obj.PWR_PAD_HELD e) = 1)

/-- R51, R492. -/
def acceptLspi : Accept := fun k v s =>
  if s.padHeld k.i then (.precond, s)
  else if (s.engine k.i).lspiBusy then (.busy, s)
  else (.ok, (s.withEngine k.i fun r => { r with lspiBusy := true, lspiOut := v }).setObj (Obj.LSPI_STATUS k.i) 1)

def acceptOptics : Accept := fun k v s =>
  if k.m = 0x13 then acceptCalStart k v s
  else if k.m = 0x15 then acceptImage k v s
  else if k.m = 0x21 then acceptLspi k v s
  else if k.m = 0x0E ∧ s.padHeld k.i = true then (.precond, s)
  else if k.m = 0x20 ∧ ¬ (1 ≤ field v.v 4 0 ∧ field v.v 4 0 ≤ 25) then (.range, s)
  else acceptStage k v s

/-- What a committed write of class 0x10 does beside its value: the output (R53 to R55), the loopback (R59) and the image (R96). DESIGN CHOICE (log entry 154):
the 1,000 ticks of R53 follow a loss of lock under SQUELCH; where SQUELCH is written while a loop is already unlocked under KEEP, the output is
dark by R54 only, and lights at once when the loops lock. DESIGN CHOICE (log entry 200): KEEP, written during those 1,000 ticks, ends the squelch, and
the output lights at once. -/
def commitOptics (k : Key) (old : State) (s : State) : State :=
  if k.m = 0x02 ∨ k.m = 0x03 then s.retargetTx k.i (old.txLevel k.i) (old.rampEnd k.i)
  else if k.m = 0x01 then s.refreshTx k.i
  else if k.m = 0x06 then
    (if s.obj k = 0 then s.withEngine k.i fun r => { r with squelched := false } else s).refreshTx k.i
  else if k.m = 0x15 then s.refreshTxStatus k.i
  else if k.m = 0x0B ∧ old.obj k ≠ s.obj k then s.freshSignal k.i
  else s

/-! ## Meanings -/

/-- Bias loops that were locked lose lock (R53). -/
def State.loseBias (s : State) (e loops : Nat) : State :=
  let lost := Nat.land (s.obj (Obj.OPT_BIAS_STATE e)) loops
  if lost = 0 then s
  else
    let t := (s.setObj (Obj.OPT_BIAS_STATE e) (clearBits (s.obj (Obj.OPT_BIAS_STATE e)) lost)).raise Ev.BIAS_UNLOCK [e, lost]
    if s.obj (Obj.OPT_BIAS_FAIL_ACTION e) = 1 then (t.withEngine e fun r => { r with squelched := true }).refreshTx e else t

/-- A reading of LASER-TX in: below +6.0 dBm every loop reports unlocked (R52). -/
def State.laserTxReads (s : State) (e : Nat) (power : Int) : State :=
  let t := s.setInt (Obj.OPT_LASER_TX_MEAS e) power
  if power < 600 then t.loseBias e 0x3F else t

/-- LASER_RANGE_CHANGE (R50, R52). -/
def execLaserRangeChange (e : Fin 4) (input : Fin 2) (power : Int) (ticks : Nat) (s : State) : Out :=
  let within := decide (1600 ≤ power) && decide (power ≤ 2100)
  let r := s.engine e
  let was := if input = 0 then r.laserTxIn else r.laserLoIn
  let t := if input = 0 then s.laserTxReads e power else s.setInt (Obj.OPT_LASER_LO_MEAS e) power
  if 8 ≤ ticks ∧ within ≠ was then
    .next ((t.withEngine e fun r => if input = 0 then { r with laserTxIn := within } else { r with laserLoIn := within }).raise
      Ev.LASER_RANGE [e, input, encode 4 power])
  else .next t

/-- LSPI_XFER (R51). -/
def execLspiXfer (rq : Rq) (e : Fin 4) (val : Val) (s : State) : Out :=
  .next (serveWrite acceptOptics rq (Obj.LSPI_XFER e) val s)

/-- LSPI_RESULT after a transaction: as many bytes as were sent, the first received first. DESIGN CHOICE (log entry 155): they stand in its first
bytes, and the bytes after them are zero. -/
def lspiResult (sent : Val) (received : Nat) : Nat := withBytes 64 0 0 sent.len (received % 256 ^ sent.len)

/-- LSPI_DONE (R51): `received` are the bytes of the transaction, big-endian. -/
def execLspiDone (e : Fin 4) (received : Nat) (s : State) : Out :=
  let r := s.engine e
  if r.lspiBusy then
    .next (((s.withEngine e fun r => { r with lspiBusy := false }).setObj (Obj.LSPI_RESULT e) (lspiResult r.lspiOut received)).setObj
      (Obj.LSPI_STATUS e) 2)
  else .next s

/-- BIAS_UNLOCK (R53): a loop that was locked loses lock. -/
def execBiasUnlock (e : Fin 4) (loops : Nat) (s : State) : Out := .next (s.loseBias e loops)

/-- BIAS_LOOP_LOCK (R52): loops gain lock, which needs at least +6.0 dBm at LASER-TX in, and a domain that has come to On (R79). -/
def execBiasLoopLock (e : Fin 4) (loops : Nat) (power : Int) (s : State) : Out :=
  let t := s.laserTxReads e power
  if power < 600 ∨ ¬ s.domOn e then .next t
  else .next ((t.setObj (Obj.OPT_BIAS_STATE e) (Nat.lor (s.obj (Obj.OPT_BIAS_STATE e)) (loops % 64))).refreshTx e)

/-- BIAS_RELOCK_RESTORE (R53): all six loops have stayed locked for 1,000 ticks. -/
def execBiasRelockRestore (e : Fin 4) (ticks : Nat) (s : State) : Out :=
  if s.obj (Obj.OPT_BIAS_STATE e) = 0x3F ∧ 1000 ≤ ticks then
    .next ((s.withEngine e fun r => { r with squelched := false }).refreshTx e)
  else .next s

/-- TX_POWER_SHORT (R55). -/
def execTxPowerShort (e : Fin 4) (achieved : Int) (ticks : Nat) (s : State) : Out :=
  let setting := s.objInt (Obj.OPT_TX_POWER e)
  let t := s.setInt (Obj.OPT_TX_POWER_MEAS e) (clamp (-4000) 300 achieved)
  if (s.engine e).dark = false ∧ 8 ≤ ticks ∧ s.rampEnd e + ticks ≤ s.now + 1 ∧ achieved < setting - 100 then
    .next (t.raise Ev.TX_POWER_SHORT [e, encode 4 setting, encode 4 achieved])
  else .next t

/-- RX_OVERLOAD (R56): the tick average, and the whole ticks at or below +5.0 dBm just before it; a running calibration checks the average in the
same tick (R70). -/
def execRxOverload (e : Fin 4) (average : Int) (quietTicks : Nat) (s : State) : Out :=
  let armed := (s.engine e).overloadArmed || decide (8 ≤ quietTicks)
  let t := (s.setInt (Obj.OPT_RX_POWER_MEAS e) average).calAbortCheck e average
  if armed ∧ 550 < average then
    .next ((t.withEngine e fun r => { r with overloadArmed := false, overloadQuiet := 0 }).raise Ev.RX_OVERLOAD [e, encode 4 average])
  else .next (t.withEngine e fun r => { r with overloadArmed := armed })

/-- LINE_LOS_DECLARE (R58): the power has stayed below the threshold for 0.5 µs. -/
def execLineLosDeclare (e : Fin 4) (power : Int) (ns : Nat) (s : State) : Out :=
  if s.domOn e ∧ power < s.objInt (Obj.OPT_LOS_THRESH e) ∧ 500 ≤ ns then .next ((s.declare Df.los e).toDark e)
  else .next s

/-- LINE_LOS_CLEAR (R58): the power has stayed at or above threshold plus hysteresis throughout 8 ticks. -/
def execLineLosClear (e : Fin 4) (power : Int) (ticks : Nat) (s : State) : Out :=
  if s.domOn e ∧ s.declared Df.los e ∧ ¬ s.calHoldsLos e ∧
      s.objInt (Obj.OPT_LOS_THRESH e) + s.obj (Obj.OPT_LOS_HYST e) ≤ power ∧ 8 ≤ ticks then
    .next ((s.clear Df.los e).leaveDark e)
  else .next s

/-- A reading of REFIN, with CALCLK in range or not (R62), which the running calibrations check in the same tick (R70). -/
def State.referenceReads (s : State) (microvolts : Nat) (clk : Bool) : State :=
  let refin := decide (2487500 ≤ microvolts) && decide (microvolts ≤ 2512500)
  let v := refin.toNat + 2 * clk.toNat
  let t := (s.setObj Obj.CNV_REFIN_MEAS microvolts).setObj Obj.CNV_REF_STATUS v
  (if v = s.obj Obj.CNV_REF_STATUS then t else t.raise Ev.REF_RANGE [0xFF, v]).calChecks

/-- REF_RANGE_CHANGE (R62). -/
def execRefRangeChange (microvolts : Nat) (calclkPpb : Option Int) (s : State) : Out :=
  .next (s.referenceReads microvolts (match calclkPpb with
    | none => false
    | some d => decide (-100000 ≤ d) && decide (d ≤ 100000)))

/-- Whether a correction is held because its reference is out of range or absent (R65). -/
def State.coefficientHeld (s : State) (c : Coefficient) : Bool :=
  c.absolute && !(match c.kind with
    | .gain | .offset | .darkOffset => bit (s.obj Obj.CNV_REF_STATUS) 0
    | _ => bit (s.obj Obj.CNV_REF_STATUS) 1)

/-- BG_CAL_UPDATE (R63 to R66, R70): the coefficients of one channel, for the next tick boundary. -/
def execBgCalUpdate (e : Fin 4) (coefficients : List Coefficient) (s : State) : Out :=
  if s.obj (Obj.CNV_BG_CAL e) = 1 ∧ s.domOn e ∧ ¬ s.calHoldsLos e then
    .next (s.plan (s.now + 1) (.bgCal e (coefficients.filter fun c => !s.coefficientHeld c)))
  else .next s

/-- CAL_DARK_OFFSET, CAL_LOOPBACK, CAL_REFERENCE and CAL_ABORT: writes of CNV_CAL_START (R68, R69). -/
def execCalDarkOffset (rq : Rq) (e : Fin 4) (s : State) : Out :=
  .next (serveWrite acceptOptics rq (Obj.CNV_CAL_START e) ⟨2, 1⟩ s)

def execCalLoopback (rq : Rq) (e : Fin 4) (s : State) : Out :=
  .next (serveWrite acceptOptics rq (Obj.CNV_CAL_START e) ⟨2, 2⟩ s)

def execCalReference (rq : Rq) (e : Fin 4) (s : State) : Out :=
  .next (serveWrite acceptOptics rq (Obj.CNV_CAL_START e) ⟨2, 3⟩ s)

def execCalAbort (rq : Rq) (e : Fin 4) (s : State) : Out :=
  .next (serveWrite acceptOptics rq (Obj.CNV_CAL_START e) ⟨2, 0⟩ s)

/-- CAL_RUN_START (R70): at the boundary, and the check of its first tick. -/
def execCalRunStart (e : Fin 4) (power : Int) (s : State) : Out :=
  .next (s.atBoundary fun t =>
    let u := t.runDue (fun _ v => v.calBegin e) fun d => decide (d = .calStart e)
    u.calAbortCheck e power)

/-- CAL_COMPLETE (R71): the run has lasted its duration, and its check holds in the last tick; of the coefficients those that the calibration
measures are kept (R68). -/
def execCalComplete (e : Fin 4) (power : Int) (result : List Coefficient) (s : State) : Out :=
  match (s.engine e).cal with
  | some (kind, .running start) =>
    if start + calTicks kind ≤ s.now + 1 then
      if (s.calCheck e kind power).isSome then .next (s.calAbortCheck e power)
      else
        let t := s.withEngine e fun r => { r with cal := some (kind, .complete none), calResult := result.filter (·.measuredBy kind) }
        .next (if s.supplyWarned
          then (t.withEngine e fun r => { r with cal := some (kind, .complete (some s.now)) }).setObj (Obj.CNV_CAL_STATUS e) 2
          else t.plan (s.now + 1) (.calCommit e))
    else .next s
  | _ => .next s

/-- CAL_DEFERRED_COMMIT (R71): at the first tick boundary after the rail recovers. -/
def execCalDeferredCommit (s : State) : Out :=
  .next (s.atBoundary fun t => (List.range 4).foldl (fun u e =>
    match (u.engine e).cal with
    | some (_, .complete (some _)) => u.calCommit e
    | _ => u) t)

/-- CAL_DEFER_TIMEOUT (R71): 100 ms after completion. -/
def execCalDeferTimeout (e : Fin 4) (s : State) : Out :=
  match (s.engine e).cal with
  | some (_, .complete (some since)) => if since + 80000 ≤ s.now then .next (s.calEnd e 8) else .next s
  | _ => .next s

/-- CNV_CAL_IMAGE write (R77). -/
def execCnvCalImageWrite (rq : Rq) (e : Fin 4) (val : Val) (s : State) : Out :=
  .next (serveWrite acceptOptics rq (Obj.CNV_CAL_IMAGE e) val s)

/-- CNV_CONVERGED (R78): CNV_STATE reaches READY, which lights the output (R54) and starts the receiver (R106, R107); the six bias loops have
locked before (R79). -/
def execCnvConverged (e : Fin 4) (s : State) : Out :=
  if s.obj (Obj.CNV_STATE e) = 1 ∧ s.domOn e ∧ s.obj (Obj.OPT_BIAS_STATE e) = 0x3F then
    let t := (s.setObj (Obj.CNV_STATE e) 2).withEngine e fun r => { r with everLocked := false }
    .next ((t.refreshTx e).refreshRx e)
  else .next s

end Sys2Proof.Machine
end

