-- ==== Sys2Proof/Machine/Instruments.lean ====
section
/-! DEFINITION. Optical estimates, Periscope, the housekeeping monitor and Loupe (chapter 11 up to R397). -/

namespace Sys2Proof.Machine

def State.withInstr (s : State) (f : Instruments → Instruments) : State := { s with instr := f s.instr }
def State.loupe (s : State) : Loupe := s.instr.loupe
def State.withLoupe (s : State) (f : Loupe → Loupe) : State := s.withInstr fun i => { i with loupe := f i.loupe }

/-! ## Optical estimates (R374 to R377) -/

/-- Fibre length in metres (R376). -/
def fibreLength (cd : Int) (d : Nat) : Nat := min (cd.natAbs * 100000 / max d 1) (2 ^ 32 - 1)

/-- A connection whose destination is a line tributary of an engine (R377). -/
def State.measuredConn (s : State) (e n : Nat) : Bool :=
  let c := connAt s.act n
  c.valid && s.onEngine e c.dst

/-- DMp of a transmitted ODU (R377). -/
def State.setDmp (s : State) (e tpn : Nat) (v : Bool) : State := s.withEngine e fun r => { r with dmp := Map.set false r.dmp (Key.unit tpn) v }

/-- The engine measures on the ODU of a TPN itself. -/
def State.measuresOn (s : State) (e tpn : Nat) : Bool :=
  let n := s.obj (Obj.MEAS_RTD_CONN e)
  s.measuredConn e n && decide ((connAt s.act n).dstTpn = tpn)

/-- The responder's role: DMp of a received ODU returns in the transmitted ODU of the same TPN, unless the engine measures on it. -/
def State.loopDmp (s : State) (x : DmpIn) : State :=
  if ¬ s.domOn x.engine ∨ s.measuresOn x.engine x.tpn = true then s else s.setDmp x.engine x.tpn x.value

/-- The toggle that a measurement sends. -/
def State.toggleDmp (s : State) (e : Nat) : State :=
  let tpn := (connAt s.act (s.obj (Obj.MEAS_RTD_CONN e))).dstTpn
  s.setDmp e tpn (!Map.get false (s.engine e).dmp (Key.unit tpn))

/-! ## Loupe (R393 to R397) -/

def loupeRecBytes (r : LoupeRec) : Nat := 16 + (r.len + 15) / 16 * 16
def loupeBytes (rs : List LoupeRec) : Nat := (rs.map loupeRecBytes).sum
def State.loupeSize (s : State) : Nat := s.obj Obj.LOUPE_SIZE * 1048576

/-- The newest records that fit a number of bytes. -/
def newestWithin : Nat → List LoupeRec → List LoupeRec
  | _, [] => []
  | limit, r :: rs => if loupeBytes (r :: rs) ≤ limit then r :: rs else newestWithin limit rs

/-- The capture is triggered in tick T (R396). -/
def State.loupeTriggerAt (s : State) (kind t : Nat) : State :=
  let kept := newestWithin (s.loupeSize * s.obj Obj.LOUPE_PRE / 100) (s.loupe.records.filter fun r => decide (r.tick < t))
  let now := s.loupe.records.filter fun r => decide (t ≤ r.tick)
  let u := s.withLoupe fun l => { l with records := kept ++ now, pre := loupeBytes kept }
  (((u.setObj Obj.LOUPE_STATE 2).setObj (Obj.LOUPE_INFO 0) t).setObj (Obj.LOUPE_INFO 1) (loupeBytes kept)).raise Ev.LOUPE_TRIGGERED [kind, t]

/-- A trigger arrives (R397): honoured in ARMED, counted afterwards. -/
def State.loupeHit (s : State) (kind t : Nat) : State :=
  match s.obj Obj.LOUPE_STATE with
  | 0 => s
  | 1 => s.loupeTriggerAt kind t
  | _ => s.bump Obj.LOUPE_TRIG_MISSED

def State.loupeKind (s : State) : Nat := field (s.obj Obj.LOUPE_TRIG) 31 28

/-- A trigger of kind 1 or 2 in the current tick, looked for once (R397). -/
def State.loupeScan (s : State) : State :=
  if s.loupe.scanned = some s.now then s
  else
    let t := s.withLoupe fun l => { l with scanned := some s.now }
    if s.loupeKind = 1 ∧ s.obj Obj.LOUPE_TRIG_TICK = s.tick then t.loupeHit 1 s.tick
    else if s.loupeKind = 2 then
      let r := (s.pointBits (field (s.obj Obj.LOUPE_TRIG) 16 0)).record
      let m := s.obj Obj.LOUPE_TRIG_MATCH
      if Nat.land r (field m 31 16) = field m 15 0 then t.loupeHit 2 s.tick else t
    else t

/-- The remainder is full (R396). -/
def State.loupeFinish (s : State) : State :=
  let total := loupeBytes s.loupe.records
  ((s.setObj Obj.LOUPE_STATE 3).setObj (Obj.LOUPE_INFO 2) total).raise Ev.LOUPE_DONE [total, s.loupe.pre]

def State.loupeFull (s : State) : Bool := decide (s.loupeSize < loupeBytes s.loupe.records + 32)

/-- A capture ends in ABORTED: by the host (1), or with the HBM, when it holds no data (2) (R396). -/
def State.loupeAbort (s : State) (cause : Nat) : State :=
  if s.obj Obj.LOUPE_STATE = 1 ∨ s.obj Obj.LOUPE_STATE = 2 then
    let t := if cause = 2 then s.withLoupe fun l => { l with records := [], pre := 0 } else s
    (((t.setObj Obj.LOUPE_STATE 4).setObj (Obj.LOUPE_INFO 3) cause).setObj (Obj.LOUPE_INFO 2) (loupeBytes t.loupe.records)).raise
      Ev.LOUPE_ABORT [cause]
  else s

/-- One record enters the buffer (R395, R396). -/
def State.loupeAppend (s : State) (r : LoupeRec) (kept : Bool) : State :=
  if ¬ kept then s.withLoupe fun l => { l with gap := true }
  else
    let x := { r with gap := s.loupe.gap }
    match s.obj Obj.LOUPE_STATE with
    | 1 => s.withLoupe fun l => { l with gap := false, records := newestWithin s.loupeSize (l.records ++ [x]) }
    | 2 =>
      if loupeBytes s.loupe.records + loupeRecBytes x ≤ s.loupeSize then
        let t := s.withLoupe fun l => { l with gap := false, records := l.records ++ [x] }
        if t.loupeFull then t.loupeFinish else t
      else s.loupeFinish
    | _ => s

/-- Records of the Loupe taps in this tick, one per selected input (R394, R395). -/
def State.tapRecords (s : State) : List LoupeRec :=
  ((List.range 16).filter fun k => bit (s.obj Obj.LOUPE_SEL) (16 + k)).map fun k =>
    let words := s.prism.egress.filter fun w =>
      let d := (connAt s.act w.conn).dst
      decide (epType d = 11) && decide (field d 3 0 = k)
    { tick := s.tick, src := 3, sub := k, gap := false, subst := words.any (·.tag), len := 4 * words.length
      payload := words.foldl (fun v w => v * 2 ^ 32 + w.word) 0 }

/-- Loupe records. -/
def State.recording (s : State) : Bool := decide (s.obj Obj.LOUPE_STATE = 1) || decide (s.obj Obj.LOUPE_STATE = 2)

/-- The record of one block source in a tick (R394, R395): of the blocks of a capture one in every D is kept; of raw samples it holds the selected
channels, of symbols the next subcarrier in turn. DESIGN CHOICE (log entry 221): kept blocks follow one another, in each the channels in the order
of the mask, and the first block of a capture is kept. SUB is the channel mask, and 0 for symbols, for which the spec names none. -/
def State.blockRecord (s : State) (src : Nat) (x : LoupeIn) : LoupeRec :=
  let sel := s.obj Obj.LOUPE_SEL
  let d := field sel 15 8 + 1
  let first := s.loupe.blocks
  let kept := (x.blocks.zipIdx first).filter fun b => decide (b.2 % d = 0)
  let parts : List (Nat × Nat) := if src = 1 then
      kept.flatMap fun b => ((List.range 4).filter fun k => bit sel (4 + k)).map fun k => (256, b.1.getD k 0)
    else kept.map fun b => (1024, b.1.getD (b.2 / d % max 1 b.1.length) 0)
  { tick := s.tick, src := src, sub := if src = 1 then field sel 7 4 else 0, gap := false, subst := false
    len := (parts.map (·.1)).sum, payload := packBytes parts }

/-- Loupe records a tick (R394 to R396): the Loupe taps, or the samples or symbols of an engine that is On. -/
def State.loupeStage (s : State) (ins : List LoupeIn) : State :=
  if s.recording = false then s
  else match s.obj Obj.LOUPE_SRC with
    | 3 => s.tapRecords.foldl (fun t r => t.loupeAppend r true) s
    | 1 | 2 => if s.domOn (field (s.obj Obj.LOUPE_SEL) 1 0) then ins.foldl (fun t x =>
        (t.loupeAppend (t.blockRecord (s.obj Obj.LOUPE_SRC) x) x.kept).withLoupe fun l => { l with blocks := l.blocks + x.blocks.length }) s
      else s
    | _ => s

/-- A ring frame received on a selected port is recorded whole (R394). -/
def State.loupeFrame (s : State) (copy : RingCopy) : State :=
  if s.recording = true ∧ s.obj Obj.LOUPE_SRC = 4 ∧ bit (s.obj Obj.LOUPE_SEL) (2 + copy.port.val) = true then
    s.loupeAppend { tick := s.tick, src := 4, sub := copy.port.val, gap := false, subst := false, len := 1312, payload := copy.bytes } copy.kept
  else s

/-- The 16-byte units of the capture (R395, R396): header and padded payload of each record. -/
def loupeUnits (rs : List LoupeRec) : List Nat :=
  rs.flatMap fun r =>
    let n := (r.len + 15) / 16
    (r.tick * 2 ^ 64 + r.src * 2 ^ 56 + r.sub * 2 ^ 48 + (r.gap.toNat * 128 + r.subst.toNat * 64) * 2 ^ 40 + r.len % 2 ^ 32) ::
      (List.range n).map fun k => bytesOf (16 * n) (r.payload * 256 ^ (16 * n - r.len)) (16 * k) 16

/-- Words per tick that the Loupe taps of the active set receive, at most (R394). -/
def State.tapWords (s : State) : Nat :=
  let taps := (connsOf s.act).filter fun p => decide (epType p.2.dst = 11)
  let w := ((taps.filter fun p => !p.2.classM).map (·.2.size)).sum
  let ms := (taps.filter (·.2.classM)).flatMap fun p => (Map.get {} s.prism.held (Key.unit p.1)).out
  w + ((List.range 32).map fun φ => ms.countP fun u => decide (u % 32 = φ)).foldl max 0

/-- Write rate of the selected source in bytes per second (R394). -/
def State.loupeRate (s : State) : Nat :=
  let sel := s.obj Obj.LOUPE_SEL
  let e := field sel 1 0
  let d := field sel 15 8 + 1
  match s.obj Obj.LOUPE_SRC with
  | 1 => ((List.range 4).countP fun k => bit sel (4 + k)) * sampleRate (s.mode e) * 1000 / d
  | 2 => 4 * symbolRate (s.mode e) * 1000 / d
  | 3 => 3200000 * s.tapWords
  | 4 => 1600000000
  | _ => 0

/-- The write of LOUPE_ARM (R394, R396, R397). -/
def acceptLoupeArm : Accept := fun _ v s =>
  if v.v = 0 then (.ok, s.loupeAbort 1)
  else if 360000000000 < s.loupeRate ∨ 112500 < s.tapWords then (.range, s)
  else if ¬ s.domOn 16 ∨ s.obj Obj.LOUPE_SIZE = 0 then (.precond, s)
  else if s.obj Obj.LOUPE_STATE = 1 ∨ s.obj Obj.LOUPE_STATE = 2 then (.busy, s)
  else if s.loupeKind = 1 ∧ s.obj Obj.LOUPE_TRIG_TICK < s.tick + 2 then (.deadline, s)
  else
    let t := [0, 1, 2, 3].foldl (fun t k => t.setObj (Obj.LOUPE_INFO k) 0) (s.setObj Obj.LOUPE_STATE 1)
    (.ok, t.withLoupe fun _ => {})

def isLoupeFire : Due → Bool
  | .loupeFire => true
  | _ => false

/-- LOUPE_FIRE commits (R397, kind 0). -/
def State.fireLoupe (s : State) : State := if s.loupeKind = 0 then s.loupeHit 0 s.tick else s

/-! ## Housekeeping (R381 to R392) -/

def State.hk (s : State) (m : Nat) : HkRun := Map.get {} s.instr.hk (Key.unit m)
def State.withHk (s : State) (m : Nat) (f : HkRun → HkRun) : State :=
  s.withInstr fun i => { i with hk := Map.set {} i.hk (Key.unit m) (f (s.hk m)) }

def stepOn (v : Nat) : Bool := bit v 31
def stepChannel (v : Nat) : Nat := field v 29 24
def stepCount (v : Nat) : Nat := field v 15 0

/-- The steps of a modulator that are enabled, as a later check reads them. -/
def State.steps (s : State) (m : Nat) : List Nat := ((List.range 16).map fun x => s.latest (Obj.HK_SEQ_STEPS m x)).filter stepOn

/-- HM(2k+1) while its pair is interleaved (R386). -/
def State.hkIgnored (s : State) (m : Nat) : Bool := decide (m % 2 = 1) && bit (s.obj Obj.HK_INTERLEAVE) (m / 2) && decide (m < 14)

/-- A channel that an interleaved pair converts. -/
def State.hkPaired (s : State) (c : Nat) : Bool :=
  (List.range 7).any fun k => bit (s.obj Obj.HK_INTERLEAVE) k && (s.steps (2 * k)).any fun v => decide (stepChannel v = c)

/-- HK_CH_FILTER as it is in force: channels 44 to 46 are fixed at 1 kS/s with sinc3 (R381). -/
def State.hkFilter (s : State) (c : Nat) : Nat := if 44 ≤ c ∧ c ≤ 46 then 4 else s.obj (Obj.HK_CH_FILTER c)

/-- Filter settings (R388, R389): order of the decimator, taps of the FIR, single-cycle settling. -/
def hkOrder (f : Nat) : Nat := if bit f 4 then 5 else 3
def hkTaps (f : Nat) : Nat := if bit f 6 then field f 12 7 + 1 else 1
def hkSingle (f : Nat) : Bool := bit f 5
def hkRate (f : Nat) : Nat :=
  match field f 3 0 with
  | 0 => 10 | 1 => 50 | 2 => 100 | 3 => 500 | 4 => 1000 | 5 => 5000 | 6 => 10000 | 7 => 25000 | _ => 50000

/-- HK_CH_INVALID: invalid results after a change (R389). -/
def State.hkInvalid (s : State) (c : Nat) : Nat :=
  let f := s.hkFilter c
  (if hkSingle f then 0 else hkOrder f - 1 + (hkTaps f - 1)) * (if s.hkPaired c then 2 else 1)

/-- HK_CH_GD: group delay in ns (R388 to R390). -/
def State.hkDelay (s : State) (c : Nat) : Nat :=
  let f := s.hkFilter c
  let fin := if c < 48 then 6250000 else 10000000
  let n := hkOrder f
  let rate := hkRate f
  -- in units of 1 / (2 × fin × rate) s
  let base := if hkSingle f then n * fin else n * (fin / rate - 1) * rate + (hkTaps f - 1) * fin
  (base + s.obj (Obj.HK_CH_DELAY c) * 2 * rate) * 1000000000 / (2 * fin * rate)

/-- The domains whose power an input's sensor needs: one of them On (R382, R383); none for a sensor that is always powered. -/
def inputDomains (i : Nat) : List Nat :=
  if (16 ≤ i ∧ i ≤ 23) ∨ (48 ≤ i ∧ i ≤ 51) then [18]
  else if 24 ≤ i ∧ i ≤ 39 then [(i - 24) / 4]
  else if i = 40 ∨ i = 41 then [4, 5, 6, 7]
  else if i = 42 ∨ i = 43 then [8, 9, 10, 11]
  else if i = 44 ∨ i = 45 then [16]
  else if 52 ≤ i ∧ i ≤ 55 then [i - 52]
  else []

def State.inputPowered (s : State) (i : Nat) : Bool :=
  let ds := inputDomains i
  decide (ds = []) || ds.any s.domOn

def inputExists (i : Nat) : Bool := decide (i ≤ 14) || (decide (16 ≤ i) && decide (i ≤ 55))

/-- A word enters HK_RING (R391). -/
def State.hkPush (s : State) (w : Nat) : State :=
  let k := s.obj Obj.HK_RING_WR
  let t := (s.setObj (Obj.HK_RING k) w).setObj Obj.HK_RING_WR ((k + 1) % 16384)
  if 16384 ≤ s.instr.ringWords then t.bump Obj.HK_RING_OVF else t.withInstr fun i => { i with ringWords := i.ringWords + 1 }

/-- A marker of a modulator (R391). -/
def State.hkMark (s : State) (m code : Nat) : State :=
  s.hkPush (63 * 2 ^ 24 + m * 2 ^ 20 + code * 2 ^ 16 + (s.hk m).count % 2 ^ 16)

/-- The first enabled step from an index on; 16 where there is none. -/
def State.stepFrom (s : State) (m x : Nat) : Nat :=
  (((List.range 16).filter fun y => decide (x ≤ y)).find? fun y => stepOn (s.obj (Obj.HK_SEQ_STEPS m y))).getD 16

/-- A step begins: its channel owes its invalid results, then the valid ones of the step (R384). -/
def State.enterStep (s : State) (m x : Nat) : State :=
  let y := s.stepFrom m x
  let v := s.obj (Obj.HK_SEQ_STEPS m y)
  let t := s.withHk m fun r => { r with step := y, validLeft := if y < 16 then stepCount v else 0 }
  if y < 16 then
    t.withInstr fun i => { i with invalid := Map.set 0 i.invalid (Key.unit (stepChannel v)) (s.hkInvalid (stepChannel v)) }
  else t

/-- A sequence starts, with its marker; `state` is what HK_SEQ_STATE then reads. -/
def State.startSeq (s : State) (m : Nat) : State :=
  let t := s.withHk m fun r => { r with count := (r.count + 1) % 65536 }
  ((t.hkMark m 1).enterStep m 0).setObj (Obj.HK_SEQ_STATE m) 1

/-- A sequence that has yielded its last result ends (R384, R385); an ignored sequencer does nothing (R386). -/
def State.endSeq (s : State) (m : Nat) : State :=
  if s.obj (Obj.HK_SEQ_STATE m) = 0 ∨ (s.hk m).step < 16 ∨ s.hkIgnored m = true then s
  else
    let t := s.hkMark m 2
    if s.obj (Obj.HK_SEQ_MODE m) = 1 ∨ s.obj (Obj.HK_SEQ_STATE m) = 2 then t.startSeq m
    else t.setObj (Obj.HK_SEQ_STATE m) 0

/-- What a trigger does to a sequencer (R385). -/
def State.hkTake (s : State) (m : Nat) : State :=
  if s.obj (Obj.HK_SEQ_STATE m) = 0 then s.startSeq m
  else if s.obj (Obj.HK_SEQ_POLICY m) = 1 then
    ((s.hkMark m 3).bump (Obj.HK_SEQ_PARTIAL m)).startSeq m
  else if s.obj (Obj.HK_SEQ_STATE m) = 1 then s.setObj (Obj.HK_SEQ_STATE m) 2
  else
    let t := (s.bump (Obj.HK_SEQ_OVERRUN m)).hkMark m 4
    if (t.hk m).overrunEpoch = t.epoch + 1 then t
    else (t.withHk m fun r => { r with overrunEpoch := t.epoch + 1 }).raise Ev.HK_OVERRUN [m, t.obj (Obj.HK_SEQ_OVERRUN m)]

/-- A trigger of a sequence (R384, R385); one that arrives with the end of a sequence arrives after it. -/
def State.hkTrigger (s : State) (m : Nat) : State :=
  if s.obj (Obj.HK_SEQ_MODE m) ≠ 2 ∨ s.hkIgnored m then s else (s.endSeq m).hkTake m

/-- A period trigger that the coming tick brings (R384). -/
def State.periodDue (s : State) (m : Nat) : Bool :=
  let p := s.obj (Obj.HK_SEQ_PERIOD m)
  decide (p ≠ 0) && decide (s.tick % max p 1 = 0) && decide ((s.hk m).periodAt ≠ some s.now)

def State.periodTrigger (s : State) (m : Nat) : State :=
  if s.periodDue m then (s.withHk m fun r => { r with periodAt := some s.now }).hkTrigger m else s

/-- Which modulator's step in progress converts a channel. -/
def State.converting (s : State) (c : Nat) : Option Nat :=
  (List.range 15).find? fun m =>
    decide (s.obj (Obj.HK_SEQ_STATE m) ≠ 0) && !s.hkIgnored m && decide ((s.hk m).step < 16) &&
      decide (stepChannel (s.obj (Obj.HK_SEQ_STEPS m (s.hk m).step)) = c)

/-- The comparator judges a valid result (R392). -/
def State.judge (s : State) (c word : Nat) (data : Int) : State :=
  let low := s.objInt (Obj.HK_CH_LOW c)
  let high := s.objInt (Obj.HK_CH_HIGH c)
  let hyst : Int := s.obj (Obj.HK_CH_HYST c)
  if data < low ∨ high < data then
    if s.instr.disarmed.contains c then s
    else
      let t := (s.withInstr fun i => { i with disarmed := c :: i.disarmed }).raise Ev.HK_WINDOW [word]
      if t.loupeKind = 3 ∧ field (t.obj Obj.LOUPE_TRIG) 5 0 = c then t.loupeHit 3 t.tick else t
  else if low + hyst ≤ data ∧ data ≤ high - hyst then
    s.withInstr fun i => { i with disarmed := i.disarmed.filter (· ≠ c) }
  else s

/-- The input that a channel converts: channels 44 to 46 are fixed (R381, R387). -/
def State.hkInput (s : State) (c : Nat) : Nat :=
  match c with
  | 44 => 0 | 45 => 13 | 46 => 14 | _ => s.obj (Obj.HK_CH_INPUT c)

/-- A result in its unit: a voltage within the full scale of ±4.000 V ÷ gain (R383), every result within ±(2²³ − 1) (R389). DEDUCED (log entry
191): a voltage beyond the full scale reads as the full scale. -/
def State.hkScaled (s : State) (c : Nat) (data : Int) : Int :=
  if c < 48 ∧ s.hkInput c ≤ 14 then
    let full : Int := 4000000 / 2 ^ s.obj (Obj.HK_CH_GAIN c)
    clamp (-full) full data
  else clamp (-8388607) 8388607 data

/-- A conversion of a channel completes (R389, R391, R392). -/
def State.hkConvert (s : State) (c : Nat) (powered : Bool) (data : Int) : State :=
  let owed := Map.get 0 s.instr.invalid (Key.unit c)
  let z := s.hkScaled c data
  let valid := decide (owed = 0) && powered
  let out := valid && (decide (z < s.objInt (Obj.HK_CH_LOW c)) || decide (s.objInt (Obj.HK_CH_HIGH c) < z))
  let word := valid.toNat * 2 ^ 31 + out.toNat * 2 ^ 30 + c * 2 ^ 24 + encode 3 z
  let t := (s.hkPush word).setObj (Obj.HK_CH_LAST c) word
  let u := t.withInstr fun i => { i with invalid := Map.set 0 i.invalid (Key.unit c) (owed - 1) }
  if valid then u.judge c word z else u

/-- The coefficients of a FIR are symmetric (R389). -/
def State.firFits (s : State) (c : Nat) : Bool :=
  let f := s.latest (Obj.HK_CH_FILTER c)
  !bit f 6 || (List.range (hkTaps f)).all fun k =>
    decide (s.latest (Obj.HK_CH_FIR c k) = s.latest (Obj.HK_CH_FIR c (hkTaps f - 1 - k)))

/-- A coefficient of R386 is a signed value of 24 bits. -/
def coefficientFits (v : Nat) : Bool := decide (-8388608 ≤ signed 4 v) && decide (signed 4 v ≤ 8388607)

/-- Writes of class 0x51. -/
def acceptHkChannel : Accept := fun k v s =>
  let c := k.i
  match k.m with
  | 0x01 =>
    let ok := if c ≤ 43 then decide (v.v = 0xFFFF) || inputExists v.v
      else if 48 ≤ c ∧ c ≤ 59 then decide (v.v = 0xFFFF) || decide (v.v ≤ 3)
      else decide (v.v = s.hkInput c)
    if ok then acceptStage k v s else (.range, s)
  | 0x03 =>
    let t := s.stage k v.v
    if 8 < field v.v 3 0 ∨ (bit v.v 5 ∧ bit v.v 6) ∨ ¬ t.firFits c then (.range, s) else (.ok, t)
  | 0x04 =>
    let t := s.stage k v.v
    if ¬ coefficientFits v.v ∨ ¬ t.firFits c then (.range, s) else (.ok, t)
  | _ => acceptStage k v s

def acceptHkSeq : Accept := fun k v s =>
  let m := k.i - 0x100
  if m = 15 then (.range, s)
  else match k.m with
    | 0x02 =>
      if stepOn v.v ∧ (43 < stepChannel v.v ∨ stepCount v.v = 0) then (.range, s)
      else if stepOn v.v ∧ ((List.range 15).any fun j =>
          decide (j ≠ m) && (s.steps j).any fun w => decide (stepChannel w = stepChannel v.v)) = true then (.precond, s)
      else acceptStage k v s
    | 0x04 => if v.v ≠ 0 ∧ (v.v < 8 ∨ 80000000 < v.v) then (.range, s) else acceptStage k v s
    | 0x05 => (.ok, s.hkTrigger m)
    | _ => acceptStage k v s

def acceptInterleave : Accept := fun k v s =>
  let set := (List.range 7).filter fun b => bit v.v b && !bit (s.latest k) b
  let fits := set.all fun b => (s.steps (2 * b)).all fun w =>
    let f := s.latest (Obj.HK_CH_FILTER (stepChannel w))
    decide (field f 3 0 = 8) && !hkSingle f
  if fits then acceptStage k v s else (.precond, s)

def acceptHk : Accept := fun k v s =>
  if k.i < 0x100 then (if k.i = 0xFF then acceptInterleave k v s else acceptHkChannel k v s) else acceptHkSeq k v s

def acceptMeas : Accept := fun k v s =>
  if k.i = 0xFF then
    match k.m with
    | 0x01 => if s.obj Obj.LOUPE_STATE = 1 ∨ s.obj Obj.LOUPE_STATE = 2 then (.busy, s) else acceptStage k v s
    | 0x08 => acceptLoupeArm k v s
    | 0x09 => (.ok, s.plan (s.now + 1) .loupeFire)
    | _ => acceptStage k v s
  else if k.m = 0x09 then (if 524288 ≤ v.v ∧ v.v ≠ 0xFFFFFFFF then (.range, s) else acceptStage k v s)
  else acceptStage k v s

/-- The settings of a channel that invalid results follow (R389), as they act: the gain of a voltage input only (R383), a FIR only where it is on. -/
def State.hkSettings (s : State) (c : Nat) : List Nat :=
  let f := s.hkFilter c
  let taps := if bit f 6 then (List.range (hkTaps f)).map fun k => s.obj (Obj.HK_CH_FIR c k) else []
  [s.hkInput c, if c < 48 ∧ s.hkInput c ≤ 14 then s.obj (Obj.HK_CH_GAIN c) else 0, if bit f 6 then f else f % 128, s.obj (Obj.HK_CH_DELAY c)] ++ taps

/-- A sequencer in CONTINUOUS that is not ignored runs (R384, R386). -/
def State.runContinuous (s : State) (m : Nat) : State :=
  if s.obj (Obj.HK_SEQ_MODE m) = 1 ∧ s.obj (Obj.HK_SEQ_STATE m) = 0 ∧ ¬ s.hkIgnored m then s.startSeq m else s

/-- A committed write of class 0x50 or 0x51, from the state before it: a channel owes invalid results after a change (R389), a sequencer follows its
mode (R384) and starts where it is no longer ignored (R386), Periscope stops where it is switched off (R378). -/
def commitInstr (k : Key) (before s : State) : State :=
  if k.c = 0x50 then (if k.m = 0x10 ∧ k.i < 4 ∧ s.obj k = 0 then s.closeTransient k.i else s)
  else if k.i < 64 ∧ k.m ≤ 0x05 then
    if before.hkSettings k.i = s.hkSettings k.i then s
    else s.withInstr fun i => { i with invalid := Map.set 0 i.invalid (Key.unit k.i) (s.hkInvalid k.i) }
  else if k.i = 0xFF then (List.range 7).foldl (fun t b => t.runContinuous (2 * b + 1)) s
  else if 0x100 ≤ k.i ∧ k.m = 0x01 then
    let m := k.i - 0x100
    match s.obj k with
    | 0 => s.setObj (Obj.HK_SEQ_STATE m) 0
    | 1 => s.runContinuous m
    | _ => s
  else s

/-! ## Meanings -/

/-- MEAS_UPDATE (R374 to R376): every 100 ms of VALID. -/
def execMeasUpdate (e : Fin 4) (x : Estimates) (s : State) : Out :=
  let age := s.now - (s.engine e).validSince
  if s.rxValid e ∧ 0 < age ∧ age % 80000 = 0 then
    let cd := clamp (-(cdRange (s.mode e))) (cdRange (s.mode e)) x.cd
    let t := ((((((s.setInt (Obj.MEAS_OSNR e) (clamp 1200 4000 x.osnr)).setInt (Obj.MEAS_CD e) cd).setObj (Obj.MEAS_FIBRE_LEN e)
      (fibreLength cd (s.obj (Obj.MEAS_FIBRE_D e)))).setObj (Obj.MEAS_DGD e) (min (dgdLimit (s.mode e)) x.dgd)).setObj (Obj.MEAS_PDL e) (min 600 x.pdl)).setInt
      (Obj.MEAS_SIG_POWER e) (clamp (-2500) 500 x.power))
    .next (if 800000 ≤ age then t.setObj (Obj.MEAS_VALID e) (Nat.lor (t.obj (Obj.MEAS_VALID e)) 0x3F) else t)
  else .next s

/-- No toggle has returned within 1 s (R377). -/
def State.rtdExpire (s : State) (e : Nat) : State :=
  let t := (s.setObj (Obj.MEAS_VALID e) (withBit (s.obj (Obj.MEAS_VALID e)) 6 false)).withEngine e fun r => { r with rtdSent := none }
  t.raise Ev.RTD_TIMEOUT [e, s.obj (Obj.MEAS_RTD_CONN e)]

/-- RTD_MEASURE (R374, R377): once per second of VALID, DMp toggles on the named connection; a toggle that is still out has not returned in
time. -/
def execRtdMeasure (e : Fin 4) (stamp : Nat) (s : State) : Out :=
  let since : Bool := match (s.engine e).rtdAt with
    | some t => decide (t + 800000 ≤ s.now)
    | none => true
  if s.rxValid e ∧ s.measuredConn e (s.obj (Obj.MEAS_RTD_CONN e)) ∧ since = true then
    let t := if (s.engine e).rtdSent.isSome then s.rtdExpire e else s
    .next ((t.withEngine e fun r => { r with rtdSent := some stamp, rtdAt := some s.now }).toggleDmp e)
  else .next s

/-- RTD_RETURN (R374, R375, R377): the difference of the two stamps, in ns, held to 200 ms; out of VALID the estimate holds its last value, and a
toggle that returns after more than 1 s has timed out. -/
def execRtdReturn (e : Fin 4) (stamp : Nat) (s : State) : Out :=
  match (s.engine e).rtdSent with
  | none => .next s
  | some sent =>
    if (s.engine e).rtdAt.getD s.now + 800000 < s.now then .next (s.rtdExpire e)
    else
      let t := s.withEngine e fun r => { r with rtdSent := none }
      if s.rxValid e then
        let u := t.setObj (Obj.MEAS_RTD e) (min 200000000 ((stamp - sent) / 4))
        .next (if (s.engine e).validSince + 800000 ≤ s.now then u.setObj (Obj.MEAS_VALID e) (withBit (u.obj (Obj.MEAS_VALID e)) 6 true) else u)
      else .next t

/-- RTD_TIMEOUT (R377). -/
def execRtdTimeout (e : Fin 4) (s : State) : Out :=
  match (s.engine e).rtdSent, (s.engine e).rtdAt with
  | some _, some t => if t + 800000 ≤ s.now then .next (s.rtdExpire e) else .next s
  | _, _ => .next s

/-- Angular speeds saturate (R378). -/
def maxSpeed : Nat := 20000000

/-- PSC_TRANSIENT_OPEN (R379). -/
def execPscTransientOpen (e : Fin 4) (speed : Nat) (s : State) : Out :=
  if s.rxValid e ∧ s.obj (Obj.PSC_ENABLE e) = 1 ∧ s.obj (Obj.PSC_STATE e) = 0 ∧ s.obj (Obj.PSC_MECH_THR e) < speed then
    .next ((s.setObj (Obj.PSC_STATE e) 1).withEngine e fun r => { r with
      pscOpened := s.now, pscTick := s.tick, pscClass := 0, pscPeak := min speed maxSpeed })
  else .next s

/-- The class that a transient is given now (R379), with `above` ticks above PSC_MECH_THR so far. DEDUCED (log entry 178): a transient that the
80,000th tick leaves without a class gets one later only by PSC_FAST_THR. -/
def State.pscClassNow (s : State) (e speed above : Nat) : Option Nat :=
  let age := s.now - (s.engine e).pscOpened
  if s.obj (Obj.PSC_FAST_THR e) ≤ speed then some (if age ≤ 8 then 2 else 3)
  else if age ≤ 80000 ∧ 16000 ≤ min above (age + 1) then some 1
  else if age = 80000 ∧ 800 ≤ min above (age + 1) then some 3
  else none

/-- PSC_CLASSIFY (R379, R380). -/
def execPscClassify (e : Fin 4) (speed above : Nat) (s : State) : Out :=
  if s.obj (Obj.PSC_STATE e) ≠ 1 then .next s
  else match s.pscClassNow e (min speed maxSpeed) above with
    | none => .next s
    | some c =>
      let t := (s.setObj (Obj.PSC_STATE e) 2).withEngine e fun r => { r with pscClass := c, pscPeak := max r.pscPeak (min speed maxSpeed) }
      let u := (t.bump (Obj.PSC_COUNT e (c - 1))).withProt fun p => { p with psc := Map.set 0 p.psc (Key.unit e) c }
      let v := u.raise Ev.PSC_TRANSIENT [e, c, (u.engine e).pscTick, min speed maxSpeed]
      .next (if v.loupeKind = 4 ∧ field (v.obj Obj.LOUPE_TRIG) 1 0 = e ∧ bit (v.obj Obj.LOUPE_TRIG_MATCH) (c - 1) then
        v.loupeHit 4 v.tick else v)

/-- PSC_TRANSIENT_CLOSE (R380): PSC_QUIET quiet ticks. -/
def execPscTransientClose (e : Fin 4) (quiet peak : Nat) (s : State) : Out :=
  if s.obj (Obj.PSC_STATE e) ≠ 0 ∧ s.obj (Obj.PSC_QUIET e) ≤ min quiet (s.now - (s.engine e).pscOpened) then
    .next ((s.withEngine e fun r => { r with pscPeak := max r.pscPeak (min peak maxSpeed) }).closeTransient e)
  else .next s

/-- HK_RESULT (R381 to R392). -/
def execHkResult (c : Fin 64) (data : Int) (s : State) : Out :=
  if c < 44 then
    match s.converting c with
    | none => .next s
    | some m =>
      let owed := Map.get 0 s.instr.invalid (Key.unit c)
      let input := s.obj (Obj.HK_CH_INPUT c)
      let powered := inputExists input && s.inputPowered input
      let t := s.hkConvert c powered data
      let left := (s.hk m).validLeft
      .next (if owed ≠ 0 ∨ powered = false then t
        else if left ≤ 1 then t.enterStep m ((s.hk m).step + 1)
        else t.withHk m fun r => { r with validLeft := left - 1 })
  else if c ≤ 46 then
    let t := s.hkConvert c true data
    .next (if c = 44 ∧ Map.get 0 s.instr.invalid (Key.unit c) = 0 then
      t.referenceReads (s.hkScaled c data).toNat (bit (s.obj Obj.CNV_REF_STATUS) 1) else t)
  else if 48 ≤ c ∧ c ≤ 59 then
    let e := (c - 48) / 3
    if s.obj (Obj.HK_CH_INPUT c) ≠ 0xFFFF ∧ s.obj (Obj.PSC_ENABLE e) = 1 then .next (s.hkConvert c (s.rxValid e) data) else .next s
  else .next s

/-- HK_SEQ_FIRE (R384, R385). -/
def execHkSeqFire (rq : Rq) (m : Fin 16) (val : Val) (s : State) : Out := .next (serveWrite acceptHk rq (Obj.HK_SEQ_FIRE m) val s)

/-- HK_SEQ_PERIOD_TRIGGER (R384): the coming tick is a multiple of the period. -/
def execHkSeqPeriodTrigger (m : Fin 16) (s : State) : Out := .next (s.atBoundary fun t => t.periodTrigger m)

/-- HK_SEQ_END (R384, R385). -/
def execHkSeqEnd (m : Fin 16) (s : State) : Out := .next (s.endSeq m)

/-- HK_SEQ_STEPS write (R381, R384). -/
def execHkSeqStepsWrite (rq : Rq) (m : Fin 16) (index : Nat) (val : Val) (s : State) : Out :=
  .next (serveWrite acceptHk rq (Obj.HK_SEQ_STEPS m index) val s)

/-- HK_INTERLEAVE write (R386). -/
def execHkInterleaveWrite (rq : Rq) (val : Val) (s : State) : Out := .next (serveWrite acceptHk rq Obj.HK_INTERLEAVE val s)

/-- LOUPE_ARM = 1 (R394, R396, R397). -/
def execLoupeArm (rq : Rq) (s : State) : Out := .next (serveWrite acceptMeas rq Obj.LOUPE_ARM ⟨2, 1⟩ s)

/-- LOUPE_ARM = 0 (R396). -/
def execLoupeAbort (rq : Rq) (s : State) : Out := .next (serveWrite acceptMeas rq Obj.LOUPE_ARM ⟨2, 0⟩ s)

/-- LOUPE_FIRE (R397). -/
def execLoupeFire (rq : Rq) (val : Val) (s : State) : Out := .next (serveWrite acceptMeas rq Obj.LOUPE_FIRE val s)

/-- LOUPE_TRIGGER (R397): a trigger of kind 1 or 2 in the current tick. -/
def execLoupeTrigger (s : State) : Out := .next s.loupeScan

/-- LOUPE_DONE (R396). -/
def execLoupeDone (s : State) : Out := .next (if s.obj Obj.LOUPE_STATE = 2 ∧ s.loupeFull then s.loupeFinish else s)

end Sys2Proof.Machine
end

