-- ==== Sys2Proof/Machine/Timing.lean ====
section
/-! DEFINITION. The timing core: the meanings of chapter 10 (R346 to R371). -/

namespace Sys2Proof.Machine

/-! ## Slewing (R358, R359, R367) -/

/-- What the slope limit has let the output move since `slewStart`, in 0.1 ns. -/
def State.slewMoved (s : State) (d : Nat) : Nat :=
  s.obj (Obj.TM_DP_PSL d) * 10 * (s.now - (s.dpll d).slewStart) / ticksPerSecond

/-- TM_DP_PHASE_LEFT: phase still to slew, in 0.1 ns. -/
def State.phaseLeft (s : State) (d : Nat) : Int :=
  let x := s.dpll d
  let total := x.slew + x.adjust
  let moved := s.slewMoved d
  if total.natAbs ≤ moved then 0 else if 0 < total then total - moved else total + moved

/-- What is left of a host's phase adjustments; the rest of what is left belongs to the switch. -/
def State.adjustLeft (s : State) (d : Nat) : Int :=
  let x := s.dpll d
  let left := s.phaseLeft d
  if 0 ≤ x.adjust then clamp 0 x.adjust left else clamp x.adjust 0 left

/-- The phases as they stand now. -/
def State.rebase (s : State) (d : Nat) : State :=
  let a := s.adjustLeft d
  s.withDpll d fun x => { x with slew := s.phaseLeft d - a, adjust := a, slewStart := s.now }

/-- Bit rate of a host lane in kb/s (R165). -/
def laneRate (code : Nat) : Nat :=
  match code with
  | 1 => 1250000 | 2 => 2488320 | 3 => 9953280 | 4 => 10312500 | 5 => 10709225 | 6 => 25781250 | 7 => 27952493
  | 8 => 53125000 | 9 => 106250000 | 10 => 212500000 | _ => 0

/-- Nominal frequency of a reference in mHz (R346). -/
def State.refFrequency (s : State) (r : Nat) : Nat :=
  if r < 4 then symbolRate (s.mode r) * 1000000 / 2048
  else if r < 12 then ((s.refLane r).map fun l => laneRate (s.obj (Obj.HL_RATE l)) * 1000000 / 128).getD 0
  else if r < 18 then s.obj (Obj.TM_REF_FREQ r)
  else 1000

/-- An edge of a PPS input after its cable compensation (R358): the delay of the cable is taken away. DEDUCED (log entry 189). -/
def State.compensated (s : State) (r : Nat) (error : Int) : Int := if r < 18 then error else error - s.objInt (Obj.TM_PPS_IN_COMP r)

/-- The phase error to a reference (R358), of what is measured in 0.1 ns: modulo its period, within half a period. -/
def State.phaseError (s : State) (r : Nat) (measured : Int) : Int :=
  let f : Int := s.refFrequency r
  let e := s.compensated r measured
  if f = 0 then e else e - (2 * e * f + 10000000000000) / 20000000000000 * 10000000000000 / f

/-- What the output of a DPLL is offset from its XO-derived nominal frequency, in 2⁻⁴⁸ units: none while it follows a reference (R354, R361,
R367). -/
def State.dpOffset (s : State) (d : Nat) : Option Int :=
  match s.obj (Obj.TM_DP_STATE d) with
  | 0 => some 0
  | 4 => some (signed 8 (s.obj (Obj.TM_HO_VALUE d)))
  | 5 => some (signed 8 (s.obj (Obj.TM_DP_FREQ_ADJ d)))
  | _ => none

/-- The clock at CLKOUT0 to CLKOUT9 (R364): its DPLL and its frequency in mHz, none while it is held low. -/
def State.clockOut (s : State) (o : Nat) : Option (Nat × Nat) :=
  let d := s.obj (Obj.TM_OUT_SRC o)
  let st := s.obj (Obj.TM_DP_STATE d)
  let squelch := s.obj (Obj.TM_OUT_SQUELCH o)
  if (squelch ≠ 0 ∧ st = 0) ∨ (squelch = 2 ∧ st = 4) then none else some (d, s.obj (Obj.TM_OUT_FREQ o))

/-! ## PPS outputs (R365) -/

def State.ppsOut (s : State) (p : Nat) : PpsOut := Map.get {} s.timing.pps (Key.unit p)
def State.withPps (s : State) (p : Nat) (f : PpsOut → PpsOut) : State :=
  s.withTiming fun t => { t with pps := Map.set {} t.pps (Key.unit p) (f (s.ppsOut p)) }

/-- The rising edge of the last pulse, in 0.1 ns of elapsed time. -/
def PpsOut.edge (x : PpsOut) : Option Int := x.second.map fun n => (n : Int) * 12500 + x.phase + x.offset

/-- A pulse of a second that begins now: an offset applies from the first pulse due 1 s after its write or later. -/
def PpsOut.pulse (x : PpsOut) (now : Nat) (phase : Int) : PpsOut :=
  match x.change with
  | some (v, w) =>
    if ((w + ticksPerSecond : Nat) : Int) * 12500 ≤ (now : Int) * 12500 + phase + x.offset then
      { x with second := some now, phase := phase, offset := v, change := none }
    else { x with second := some now, phase := phase }
  | none => { x with second := some now, phase := phase }

/-- An output gives a pulse, of its TM_PPS_WIDTH, from its DPLL (R365). -/
def State.givePulse (s : State) (p : Nat) (phase : Int) : State :=
  s.withPps p fun x => { x.pulse s.now phase with width := s.obj (Obj.TM_PPS_WIDTH p), source := s.obj (Obj.TM_PPS_SRC p) }

/-- The outputs aligned to the time of day give a pulse at its rollover. -/
def State.ppsRollover (s : State) : State :=
  [0, 1].foldl (fun t p => if t.obj (Obj.TM_PPS_ALIGN p) = 0 then t.givePulse p 0 else t) s

/-- An output aligned to an input takes the second of its pulse, which lies this far after the start of the tick once it is compensated; half a second
or more after the last pulse it gives one. -/
def State.ppsAlign (s : State) (input : Nat) (phase : Int) : State :=
  [0, 1].foldl (fun t p =>
    if t.obj (Obj.TM_PPS_ALIGN p) = input + 1 then
      if (t.ppsOut p).second.all (fun n => decide (n + ticksPerSecond / 2 ≤ t.now)) = true then t.givePulse p phase
      else t.withPps p fun x => { x with second := some t.now, phase := phase }
    else t) s

/-- An output aligned to an input continues from its DPLL, one second after another. DEDUCED (log entry 190). -/
def State.ppsContinue (s : State) : State :=
  [0, 1].foldl (fun t p =>
    if t.obj (Obj.TM_PPS_ALIGN p) ≠ 0 ∧ (t.ppsOut p).second.map (· + ticksPerSecond) = some t.now then t.givePulse p (t.ppsOut p).phase else t) s

/-! ## State of a DPLL (R354) -/

def State.setDp (s : State) (d new : Nat) : State :=
  let old := s.obj (Obj.TM_DP_STATE d)
  if old = new then s
  else (s.setObj (Obj.TM_DP_STATE d) new).raise Ev.DP_STATE [d, old, new, s.obj (Obj.TM_HO_QUALITY d)]

/-- Change TM_DP_SELECTED (R356, R373). -/
def State.selectRef (s : State) (d new : Nat) (error : Int) : State :=
  let old := s.obj (Obj.TM_DP_SELECTED d)
  (s.setObj (Obj.TM_DP_SELECTED d) new).raise Ev.DP_SWITCH [d, old, new, encode 8 error]

/-- A DPLL changes to a reference (R358, R359): the phase error is measured from the present output, and a difference of frequency
passes through ACQUIRING. -/
def State.switchTo (s : State) (d r : Nat) (measured : Int) (differs : Bool) : State :=
  let old := s.obj (Obj.TM_DP_STATE d)
  let error := s.phaseError r measured
  let t := (s.rebase d).selectRef d r error
  let u := t.withDpll d fun x => { x with
    frozen := false, slew := error, lockedSince := none
    newReference := x.newReference || decide (x.lastReference ≠ some r), lastReference := some r }
  u.setDp d (if old = 0 ∨ old = 1 ∨ old = 5 ∨ differs then 1 else 2)

/-- The mean of some seconds of the history. -/
def meanOf (xs : List HeldSecond) : Int := (xs.map (·.value)).sum / (xs.length : Int)

/-- The seconds of R361: the newest of the window that end the guard time before the loss; seconds not stored are skipped (R360). -/
def State.holdSeconds (s : State) (d lost : Nat) : List HeldSecond :=
  ((s.dpll d).history.filter fun h =>
    decide (h.ends + s.obj (Obj.TM_HO_GUARD d) * ticksPerSecond ≤ lost)).take (s.obj (Obj.TM_HO_WINDOW d))

/-- Nothing is selectable (R361): HOLDOVER, or FREERUN where no holdover value was ever computed; what is left of the slew toward the reference is
abandoned. -/
def State.enterHoldover (s : State) (d : Nat) : State :=
  let r := s.obj (Obj.TM_DP_SELECTED d)
  let lost := if s.obj (Obj.TM_REF_STATE r) = 3 then s.now else (s.ref r).lostAt
  let hs := s.holdSeconds d lost
  let t := (s.rebase d).selectRef d 0xFFFF 0
  let u := t.withDpll d fun x => { x with frozen := false, lockedSince := none, slew := 0 }
  if hs = [] then
    match (s.dpll d).lastHoldover with
    | some v => ((u.setObj (Obj.TM_HO_QUALITY d) 0).setObj (Obj.TM_HO_VALUE d) (encode 8 v)).setDp d 4
    | none => (u.setObj (Obj.TM_HO_QUALITY d) 0).setDp d 0
  else
    let v := meanOf hs
    let q := if hs.length = s.obj (Obj.TM_HO_WINDOW d) then 2 else 1
    let w := u.withDpll d fun x => { x with lastHoldover := some v }
    ((w.setObj (Obj.TM_HO_QUALITY d) q).setObj (Obj.TM_HO_VALUE d) (encode 8 v)).setDp d 4

/-- Make a change of the selected reference (R356 to R361). -/
def State.makeSwitch (s : State) (d : Nat) (change : Option (Option Nat)) (error : Int) (differs : Bool) : State :=
  match change with
  | none => s.withDpll d fun x => { x with frozen := false }
  | some (some r) => s.switchTo d r error differs
  | some none => s.enterHoldover d

/-- Make the change of selected reference that is due at a boundary. -/
def State.commitSwitch (s : State) (d : Nat) (error : Int) (differs : Bool) : State := s.makeSwitch d (s.dpChange d) error differs

/-- LOCKED: a change of reference starts a new history (R360). -/
def State.lockDp (s : State) (d : Nat) : State :=
  ((s.rebase d).withDpll d fun x => { x with
    lockedSince := some s.now, newReference := false, history := if x.newReference then [] else x.history }).setDp d 3

/-- The mean of a second in LOCKED enters the history of 1,200 seconds (R360). -/
def State.storeSecond (s : State) (d : Nat) (mean : Int) : State :=
  match (s.dpll d).lockedSince with
  | some t =>
    if s.obj (Obj.TM_DP_STATE d) = 3 ∧ t + ticksPerSecond ≤ s.now then
      s.withDpll d fun x => { x with history := (⟨s.now, mean⟩ :: x.history).take 1200 }
    else s
  | none => s

/-- TM_TOD_TRACE (R366). -/
def State.todTrace (s : State) : Bool :=
  let r := s.obj (Obj.TM_DP_SELECTED 0)
  decide (s.obj Obj.TM_PTP_TRACE = 1) ||
    (decide (s.obj (Obj.TM_DP_STATE 0) = 3) && (decide (r = 18) || decide (r = 19)) && decide (1 ≤ s.obj (Obj.TM_REF_QL r)) &&
      decide (s.obj (Obj.TM_REF_QL r) ≤ 4))

/-- The time of day at the start of the current tick, in ns since the PTP epoch (R22, R366). -/
def State.tod (s : State) : Nat := s.timing.seconds * 1000000000 + s.now % ticksPerSecond * 1250

/-! ## Writes of class 0x40 -/

/-- R362 and the bound of 1,200 s, for the values a write would leave. -/
def holdFits (window guardTime driftWin driftSoak : Nat) : Bool :=
  decide (driftWin + driftSoak < guardTime) && decide (window + guardTime ≤ 1200)

def acceptHold : Accept := fun k v s =>
  let pick := fun (k' : Key) => if k' = k then v.v else s.latest k'
  if (List.range 4).all fun d =>
      holdFits (pick (Obj.TM_HO_WINDOW d)) (pick (Obj.TM_HO_GUARD d)) (pick Obj.TM_DRIFT_WIN) (pick Obj.TM_DRIFT_SOAK)
  then acceptStage k v s else (.range, s)

/-- R364: a ratio of two integers of at most 2²⁴ to 2,000 MHz. -/
def outRatio (mHz : Nat) : Bool :=
  let g := Nat.gcd mHz 2000000000000
  decide (mHz / g ≤ 2 ^ 24) && decide (2000000000000 / g ≤ 2 ^ 24)

/-- Objects of a DPLL. -/
def acceptDpll : Accept := fun k v s =>
  match k.m with
  | 0x03 => if v.v ≤ 15 then acceptStage k v s else (.range, s)
  | 0x05 => if v.v < 20 ∨ v.v = 0xFFFF then acceptStage k v s else (.range, s)
  | 0x0C => if k.i = 0 ∧ 20000 < v.v then (.range, s) else acceptStage k v s
  | 0x0D =>
    let t := s.rebase k.i
    (.ok, t.withDpll k.i fun x => { x with adjust := x.adjust + signed 8 v.v })
  | 0x0F => if (signed 8 v.v).natAbs ≤ 14073748835 then acceptStage k v s else (.range, s)
  | 0x10 | 0x11 => acceptHold k v s
  | _ => acceptStage k v s

/-- Writes of class 0x40 (R349, R358, R362, R364, R366, R367). -/
def acceptTiming : Accept := fun k v s =>
  if k.i = 0xFF then
    match k.m with
    | 0x06 | 0x07 => acceptHold k v s
    | 0x0A => (.ok, s.withTiming fun t => { t with toSet := some v.v })
    | _ => acceptStage k v s
  else if k.i < 4 then acceptDpll k v s
  else if k.i < 0x200 ∧ k.m = 0x03 ∧ v.v ≠ 0 ∧ (k.i < 0x104 ∨ 0x10B < k.i) then (.precond, s)
  else if 0x200 ≤ k.i ∧ k.i < 0x300 ∧ k.m = 0x02 ∧ ¬ outRatio v.v then (.range, s)
  else if 0x400 ≤ k.i ∧ k.m = 0x02 ∧ 100000 < (signed 4 v.v).natAbs then (.range, s)
  else acceptStage k v s

/-- A new mode of a DPLL (R354); out of AUTO what is left of a slew toward a reference is abandoned. -/
def State.commitDpMode (s : State) (d : Nat) : State :=
  let still := (s.rebase d).withDpll d fun x => { x with slew := 0 }
  let leave := fun (t : State) => if t.obj (Obj.TM_DP_SELECTED d) = 0xFFFF then t
    else (t.selectRef d 0xFFFF 0).withDpll d fun x => { x with lockedSince := none, frozen := false }
  match s.obj (Obj.TM_DP_MODE d) with
  | 0 => if s.obj (Obj.TM_DP_STATE d) = 5 then s.setDp d 0 else s
  | 1 => (leave still).setDp d 0
  | _ => (leave still).setDp d 5

/-- What a commit of class 0x40 does beside the object (R349, R351, R354). -/
def commitTiming (k : Key) (s : State) : State :=
  if k.i < 4 then
    match k.m with
    | 0x01 => s.commitDpMode k.i
    | 0x04 => (List.range 20).foldl (fun t r => t.followChecks r) s
    | _ => s
  else if k.i < 0x200 ∧ 0x100 ≤ k.i then (if k.m = 0x03 ∨ k.m = 0x04 then s.refreshLevel (k.i - 0x100) else s)
  else if k.i = 0xFF ∧ k.m = 0x01 then (List.range 20).foldl (fun t r => t.refreshLevel r) s
  else if 0x300 ≤ k.i ∧ k.i < 0x400 ∧ k.m = 0x03 then s.withPps (k.i - 0x300) fun x => { x with change := some (signed 8 (s.obj k), s.now) }
  else s

/-! ## Reference events -/

/-- Time without an edge, in ns, after which an external reference fails (R346). -/
def State.edgeLimit (s : State) (r : Nat) : Nat :=
  if r < 18 then max 1250 (ceilDiv 4000000000000 (max 1 (s.obj (Obj.TM_REF_FREQ r)))) else 1001000000

/-- REF_FAIL (R346, R347): the condition of its row, which for CLKIN and PPSIN is the time without an edge. -/
def execRefFail (r : Fin 20) (missing : Nat) (s : State) : Out :=
  match s.refCondition r with
  | some c => if c then .next (s.failRef r) else .next s
  | none => if s.edgeLimit r ≤ missing then .next (s.failRef r) else .next s

/-- REF_FAIL_CLEAR (R347): absent for 8 ticks, or for 2 pulses of a PPS. -/
def execRefFailClear (r : Fin 20) (run : Nat) (s : State) : Out :=
  if s.refCondition r = some true then .next s
  else if (if r.val < 18 then 8 else 2) ≤ run then .next (s.clearRef r) else .next s

/-- The median of some offsets; of an even number, the mean of the two in the middle. -/
def median (xs : List Int) : Int :=
  let ys := sortBy (fun a b => decide (a ≤ b)) xs
  let n := ys.length
  if n % 2 = 1 then ys.getD (n / 2) 0 else (ys.getD (n / 2 - 1) 0 + ys.getD (n / 2) 0) / 2

/-- Offsets of the other QUALIFIED references. -/
def State.peerOffsets (s : State) (r : Nat) : List Int :=
  ((List.range 20).filter fun i => decide (i ≠ r) && decide (s.obj (Obj.TM_REF_STATE i) = 3)).map fun i => s.objInt (Obj.TM_REF_FOFF i)

/-- Since when a condition has held. -/
def holdSince (old : Option Nat) (on : Bool) (now : Nat) : Option Nat := if on then some (old.getD now) else none

/-- A condition has held for its soak. -/
def soaked (since : Option Nat) (soak now : Nat) : Bool :=
  match since with
  | some t => decide (t + soak ≤ now)
  | none => false

/-- The drift of a reference (R352): the slope of its offset from its peers over the drift window, or from the XO while fewer than two others are
QUALIFIED. -/
def State.driftOf (s : State) (r : Nat) : Int :=
  let xs := (s.ref r).samples
  Config.slope (if 2 ≤ (s.peerOffsets r).length then xs.filterMap fun x => x.peer.map (x.at_, ·) else xs.map fun x => (x.at_, x.offset))

/-- A measurement enters the drift window, and what is older than TM_DRIFT_WIN leaves it. -/
def State.sampleRef (s : State) (r : Nat) (offset : Int) : State :=
  let others := s.peerOffsets r
  let x : RefSample := ⟨s.now, offset, if 2 ≤ others.length then some (offset - median others) else none⟩
  s.withRef r fun y => { y with
    samples := (y.samples ++ [x]).filter fun z => decide (s.now ≤ z.at_ + s.obj Obj.TM_DRIFT_WIN * ticksPerSecond) }

/-- A fresh measurement is reported, whatever the state (R353). -/
def State.measureRef (s : State) (r : Nat) (offset : Int) (fresh : Bool) : State :=
  if fresh = false then s
  else
    let m := s.sampleRef r offset
    (m.setInt (Obj.TM_REF_FOFF r) offset).setInt (Obj.TM_REF_DRIFT r) (m.driftOf r)

/-- REF_CHECK (R351 to R353): a fresh measurement of the offset from the XO in 10⁻¹², or, where none has come, the checks and their soaks with the
latest. -/
def execRefCheck (r : Fin 20) (measured : Int) (fresh : Bool) (s : State) : Out :=
  let t := s.measureRef r measured fresh
  let offset := if fresh then measured else s.objInt (Obj.TM_REF_FOFF r)
  let drift := if fresh then (s.sampleRef r measured).driftOf r else s.objInt (Obj.TM_REF_DRIFT r)
  let others := s.peerOffsets r
  let peer := offset - median others
  let above := fun (z : Int) (limit : Nat) => decide (limit < z.natAbs)
  let u := t.withRef r fun x => { x with
    xoSince := holdSince x.xoSince (decide (s.obj Obj.TM_XO_STATE = 0) && above offset (s.obj Obj.TM_FOFF_XO * 1000)) s.now
    peerSince := holdSince x.peerSince (decide (2 ≤ others.length) && above peer (s.obj Obj.TM_FOFF_PEER * 1000)) s.now
    driftSince := holdSince x.driftSince (above drift (s.obj Obj.TM_DRIFT_RATE * 10)) s.now }
  let st := s.obj (Obj.TM_REF_STATE r)
  if st = 0 then .next (u.recoverRef r)
  else
    let x := u.ref r
    let soak := s.obj Obj.TM_FOFF_SOAK * 80000
    let failed : Option (Nat × Int) :=
      if soaked x.xoSince soak s.now then some (1, offset)
      else if soaked x.peerSince soak s.now then some (2, peer)
      else if soaked x.driftSince (s.obj Obj.TM_DRIFT_SOAK * ticksPerSecond) s.now then some (3, drift)
      else none
    match failed with
    | some (check, value) =>
      if st = 1 then .next u
      else
        let v := u.withRef r fun x => { x with dqAt := some s.now, dqBefore := s.obj (Obj.TM_REF_DQ_TICK r) }
        .next (((v.setObj (Obj.TM_REF_DQ_TICK r) s.tick).raise Ev.REF_DISQUAL [r, check, encode 4 value]).dropQualified r)
    | none => .next (u.followChecks r)

/-- REF_QUALIFY (R351). -/
def execRefQualify (r : Fin 20) (s : State) : Out :=
  if s.obj (Obj.TM_REF_STATE r) = 2 ∧ (s.ref r).qualifyFrom + s.obj (Obj.TM_REF_WTR r) * ticksPerSecond ≤ s.now then
    .next (s.setRefState r 3)
  else .next s

/-- DPLL_SWITCH_COMMIT (R356 to R361): the change due at the coming boundary, with the phase error measured there. -/
def execDpllSwitchCommit (d : Fin 4) (error : Int) (differs : Bool) (s : State) : Out :=
  .next (s.atBoundary fun t => t.commitSwitch d error differs)

/-- DPLL_FREQUENCY_LOCK (R354, R358): 1 s below 10 ppb. -/
def execDpllFrequencyLock (d : Fin 4) (ticks : Nat) (error : Int) (s : State) : Out :=
  if s.obj (Obj.TM_DP_STATE d) = 1 ∧ ticksPerSecond ≤ ticks then
    .next (((s.rebase d).withDpll d fun x => { x with slew := s.phaseError (s.obj (Obj.TM_DP_SELECTED d)) error }).setDp d 2)
  else .next s

/-- SLEW_DONE (R358): less than 1 ns is left. -/
def execSlewDone (d : Fin 4) (s : State) : Out :=
  if s.obj (Obj.TM_DP_STATE d) = 2 ∧ (s.phaseLeft d).natAbs < 10 then .next (s.lockDp d) else .next s

/-- XO_FAIL (R363): the XO stops (none), or deviates by this many ppm. -/
def execXoFail (ppm : Option Nat) (s : State) : Out :=
  if s.obj Obj.TM_XO_STATE = 0 ∧ (ppm.all fun p => decide (200 < p)) = true then
    let t := (s.setObj Obj.TM_XO_STATE 1).raise Ev.XO_FAIL [1]
    .next ((List.range 20).foldl (fun t r => t.withRef r fun x => { x with xoSince := none }) t)
  else .next s

/-- XO_RETURN (R363): within 200 ppm for 10 s. -/
def execXoReturn (ppm ticks : Nat) (s : State) : Out :=
  if s.obj Obj.TM_XO_STATE = 1 ∧ ppm ≤ 200 ∧ 10 * ticksPerSecond ≤ ticks then
    .next ((s.setObj Obj.TM_XO_STATE 0).raise Ev.XO_FAIL [0])
  else .next s

/-! ## Levels received and sent (R349, R350) -/

/-- The first lane of a lane's client; the lane itself where it has none. -/
def State.clientAt (s : State) (l : Nat) : Nat := (s.laneOwner l).getD l

/-- A level arrives for every reference that a lane of a client feeds in the given mode. -/
def State.receiveLevel (s : State) (f mode ssm : Nat) (essm : Option Nat) : State :=
  (List.range 8).foldl (fun t k =>
    let r := 4 + k
    match t.refLane r with
    | some l =>
      if t.clientAt l = f ∧ t.obj (Obj.TM_REF_QL_MODE r) = mode then
        (t.withRef r fun x => { x with ssm := some ssm, essm := essm, lastPdu := some t.now, heardOn := some (l, mode) }).refreshLevel r
      else t
    | none => t) s

/-- ESMC_PDU_RECEIVE (R349): on a native Ethernet client. -/
def execEsmcPduReceive (l : Fin 64) (ssm : Fin 16) (essm : Option Nat) (s : State) : Out :=
  let f := s.clientAt l
  if isEthernet (s.clientType f) ∧ ¬ s.oduForm f then .next (s.receiveLevel f 1 ssm essm) else .next s

/-- ESMC_TIMEOUT (R349): 5 s without a PDU. -/
def execEsmcTimeout (r : Fin 20) (s : State) : Out :=
  let x := s.ref r
  if s.obj (Obj.TM_REF_QL_MODE r) = 1 ∧ x.ssm.isSome ∧ x.lastPdu.getD 0 + 5 * ticksPerSecond ≤ s.now then
    .next ((s.withRef r fun x => { x with ssm := none, essm := none, lastPdu := none }).refreshLevel r)
  else .next s

/-- S1_RECEIVE (R349). -/
def execS1Receive (l : Fin 64) (s1 : Fin 16) (s : State) : Out :=
  let f := s.clientAt l
  if isStm (s.clientType f) then .next (s.receiveLevel f 2 s1 none) else .next s

/-- The level a client's egress sends: its DPLL's, or DNU and DUS when that DPLL is locked to the client's own receive direction. -/
def State.egressLevel (s : State) (f : Nat) : Nat :=
  let d := s.obj (Obj.HL_TX_DPLL f)
  let r := s.obj (Obj.TM_DP_SELECTED d)
  if s.obj (Obj.TM_DP_STATE d) = 3 ∧ 4 ≤ r ∧ r < 12 ∧ (s.refLane r).map s.clientAt = some f then 14 else s.dpLevel d

/-- An egress that inserts ESMC, or an STM-N egress that sends S1 (R350). -/
def State.insertsLevel (s : State) (f : Nat) : Bool :=
  (isEthernet (s.clientType f) && !s.oduForm f && decide (s.obj (Obj.TM_ESMC_TX f) = 1)) ||
    (isStm (s.clientType f) && decide (s.obj (Obj.TM_S1_TX f) = 1))

/-- An inserting egress sends what is due (R350): an information PDU each second, an event PDU on a change of level; S1 of an STM-N egress follows
likewise. -/
def State.sendLevel (s : State) (f : Nat) : State :=
  let level := s.egressLevel f
  let codes := levelCodes (s.obj Obj.TM_QL_OPTION) level
  let put := fun (x : Option EsmcSent) => s.withTiming fun t => { t with esmc := Map.set none t.esmc (Key.unit f) x }
  let send := fun (event : Bool) (infoAt : Nat) => put (some ⟨level, event, infoAt, codes.1, codes.2, s.now⟩)
  let last := Map.get none s.timing.esmc (Key.unit f)
  if ¬ s.insertsLevel f then (if last = none then s else put none)
  else match last with
    | none => send false s.now
    | some x =>
      if x.level ≠ level then send true x.infoAt
      else if x.infoAt + ticksPerSecond ≤ s.now then send false s.now
      else s

/-- Every client's egress in a tick. -/
def State.sendLevels (s : State) : State := (s.clients.map (·.1.i)).foldl State.sendLevel s

/-- ESMC_INFO_TX (R350). -/
def execEsmcInfoTx (l : Fin 64) (s : State) : Out := .next (s.sendLevel (s.clientAt l))

/-- PPS_EDGE (R346, R347, R365): an edge this far, in 0.1 ns, from its expected time before cable compensation. DEDUCED (log entry 190): the second
that the edge marks is expected at the start of the tick in which the row comes. -/
def execPpsEdge (p : Fin 2) (error : Int) (s : State) : Out :=
  let r := 18 + p.val
  let x := s.ref r
  if s.obj (Obj.TM_PPS_WIN r) < (s.compensated r error).natAbs then
    let t := s.withRef r fun x => { x with outside := x.outside + 1, inside := 0 }
    .next (if 2 ≤ x.outside + 1 then t.failRef r else t)
  else
    let t := s.withRef r fun x => { x with inside := x.inside + 1, outside := 0 }
    .next ((if 2 ≤ x.inside + 1 then t.clearRef r else t).ppsAlign p (s.compensated r error))

/-! ## Time of day (R366) -/

/-- TM_TOD_SET write. -/
def execTmTodSet (rq : Rq) (val : Val) (s : State) : Out := .next (serveWrite acceptTiming rq Obj.TM_TOD_SET val s)

/-- The second that DP0's next rollover begins (R366). -/
def State.comingSecond (s : State) : Nat := s.timing.toSet.getD (s.timing.seconds + 1) % 2 ^ 34

/-- DP0's second rolls over at the start of the current tick (R366), with the pulses aligned to it (R365); a time that was set makes PM bins SUSPECT (R403). -/
def State.rollSecond (s : State) : State :=
  { (s.withTiming fun t => { t with seconds := s.comingSecond, toSet := none, ended := t.seconds }).ppsRollover with
    pm := { s.pm with suspect := s.pm.suspect || s.timing.toSet.isSome } }

/-- The boundary that opens the current tick begins a second, and its rollover is not made yet. -/
def State.secondDue (s : State) : Bool := decide (0 < s.now) && decide (s.now % ticksPerSecond = 0) && !s.timing.rolled

/-- R24: under alignment to the time of day, the counter value due at the next epoch boundary. -/
def State.aligned (s : State) : Bool :=
  decide (s.obj Obj.TB_ALIGN_MODE = 1) && s.todTrace &&
    (decide (s.obj (Obj.TM_DP_STATE 0) = 3) || (decide (s.obj (Obj.TM_DP_STATE 0) = 5) && decide (s.obj Obj.TM_PTP_TRACE = 1)))

/-- The counter is aligned to the time of day: TB_ALIGN_MODE is TOD, the time of day is traceable, and tick n begins at n × 1.25 µs of it (R24). -/
def State.counterAligned (s : State) : Bool :=
  decide (s.obj Obj.TB_ALIGN_MODE = 1) && s.todTrace && decide (s.tick = u64 ((s.tod + 625) / 1250))

def State.todAlign (s : State) : State :=
  if s.tick % 32 ≠ 0 then s
  else if s.aligned then
    let now := if (s.now + 32) / ticksPerSecond ≠ s.now / ticksPerSecond
      then s.timing.toSet.getD (s.timing.seconds + 1) * 1000000000 + (s.now + 32) % ticksPerSecond * 1250 else s.tod + 40000
    let n := (now + 625) / 1250
    if n ≠ u64 (s.tick + 32) ∧ n % 32 = 0 then { s with autoLoad := some (n, s.now + 32) } else { s with autoLoad := none }
  else { s with autoLoad := none }

/-- TOD_SECOND_ROLLOVER (R366, R24): the second that the coming boundary begins. -/
def execTodSecondRollover (s : State) : Out :=
  .next (s.atBoundary fun t => if t.secondDue then t.rollSecond.withTiming fun x => { x with rolled := true } else t)

/-- TM_DP_PHASE_ADJ write (R367). -/
def execTmDpPhaseAdj (rq : Rq) (d : Fin 4) (val : Val) (s : State) : Out :=
  .next (serveWrite acceptTiming rq (Obj.TM_DP_PHASE_ADJ d) val s)

def holdKey : HoParam → Key
  | .window d => Obj.TM_HO_WINDOW d
  | .guardTime d => Obj.TM_HO_GUARD d
  | .driftWindow => Obj.TM_DRIFT_WIN
  | .driftSoak => Obj.TM_DRIFT_SOAK

/-- A write of a parameter that R362 binds. -/
def execTmHoParamWrite (rq : Rq) (param : HoParam) (val : Val) (s : State) : Out :=
  .next (serveWrite acceptTiming rq (holdKey param) val s)

/-! ## Timestamps (R368, R369) -/

/-- The 16-byte record of a timestamp, corrected by TM_TS_COMP of its lane and direction, which is in ps. -/
def State.stampRecord (s : State) (l : Nat) (p : PtpStamp) : Nat :=
  let comp := s.objInt (Obj.TM_TS_COMP l (if p.egress then 1 else 0))
  let q : Nat := ((p.seconds * 4000000000 + p.quarters : Nat) + comp / 250).toNat
  let sec := q / 4000000000
  let sub := q % 4000000000
  let tod := sec % 2 ^ 34 * 2 ^ 30 + sub / 4
  let b8 := sub % 4 * 64
  let b10 := (if p.egress then 128 else 0) + p.message % 16
  ((((((tod * 256 + b8) * 256 + l) * 256 + b10) * 256 + p.domain % 256) * 65536 + p.seq % 65536) * 65536) + p.port % 65536

/-- A record enters the ring; an entry overwritten unread is counted, and reported once per epoch. -/
def State.pushStamp (s : State) (v : Nat) : State :=
  let w := s.obj Obj.TM_TS_WR
  let lost := s.timing.unread.contains w
  let t := (s.setObj (Obj.TM_TS_RING w) v).setObj Obj.TM_TS_WR ((w + 1) % 4096)
  let u := t.withTiming fun x => { x with unread := if lost then x.unread else x.unread ++ [w] }
  if lost then
    let v := u.bump Obj.TM_TS_OVF
    if v.timing.overflowEpoch = v.epoch + 1 then v
    else (v.raise Ev.TS_OVERFLOW [v.obj Obj.TM_TS_OVF]).withTiming fun x => { x with overflowEpoch := v.epoch + 1 }
  else u

/-- An event message that the device recognises (R368). PRESUMED (log entry 220): event messages are messageTypes 0 to 3. -/
def recognised (p : PtpStamp) : Bool :=
  decide (p.vlans ≤ 2) && decide (p.message < 4) && match p.carrier with
    | .ethernet t => decide (t = 0x88F7)
    | .ipv4 port => decide (port = 319)
    | .ipv6 port => decide (port = 319)

/-- A one's complement sum of 16-bit words. -/
def onesSum (ws : List Nat) : Nat :=
  let n := ws.sum
  if n = 0 then 0 else (n - 1) % 65535 + 1

/-- The UDP checksum after a change of the 8 bytes of correctionField; a datagram over IPv4 without one keeps none. PRESUMED (log entry 220). -/
def newChecksum (p : PtpStamp) (before after : Nat) : Nat :=
  let words := fun (v : Nat) => (List.range 4).map fun k => v / 65536 ^ k % 65536
  let sum := onesSum ((65535 - p.checksum % 65536) :: ((words before).map fun w => 65535 - w) ++ words after)
  let v := 65535 - sum
  match p.carrier with
  | .ethernet _ => 0
  | .ipv4 _ => if p.checksum = 0 then 0 else if v = 0 then 65535 else v
  | .ipv6 _ => if v = 0 then 65535 else v

/-- PTP_TIMESTAMP (R368, R369). -/
def execPtpTimestamp (l : Fin 64) (p : PtpStamp) (s : State) : Out :=
  let cfg := s.obj (Obj.TM_TS_CFG l)
  if cfg = 0 ∨ ¬ isEthernet (s.clientType l) ∨ s.oduForm l ∨ ¬ recognised p then .next s
  else
    let t := s.pushStamp (s.stampRecord l p)
    if cfg = 2 ∧ p.egress ∧ ¬ p.twoStep ∧ (p.message = 0 ∨ p.message = 3) then
      let v := encode 8 (p.correction + p.residence)
      .next (t.withTiming fun x => { x with
        correction := Map.set 0 x.correction (Key.unit l) v
        checksum := Map.set 0 x.checksum (Key.unit l) (newChecksum p (encode 8 p.correction) v) })
    else .next t

end Sys2Proof.Machine
end

