-- ==== Sys2Proof/Machine/Pm.lean ====
section
/-! DEFINITION. The PM engine (R398 to R408). -/

namespace Sys2Proof.Machine

def State.withPm (s : State) (f : Pm → Pm) : State := { s with pm := f s.pm }
def State.pmPoint (s : State) (p : Nat) : PmPoint := Map.get {} s.pm.points (Key.unit p)
def State.setPmPoint (s : State) (p : Nat) (x : PmPoint) : State :=
  s.withPm fun m => { m with points := Map.set {} m.points (Key.unit p) x }

/-! ## Points and their classes (R398, R399) -/

/-- Points at which the engine accumulates: all but point 0 and the remote points. -/
def State.pmPoints (s : State) : List Nat := (s.busPoints.filter (· ≠ 0)).dedup

/-- SES threshold in percent where the point counts blocks, and whether it has a far end. -/
def State.pmShape (s : State) (p : Nat) : Option Nat × Bool :=
  if p ≤ 7 then (some 15, false)
  else if p ≤ 71 then
    let type := s.clientType (p - 8)
    if isEthernet type then (some 15, false)
    else if isStm type then (some 30, true)
    else if isOtu type then (some 15, true)
    else (none, false)
  else if 128 ≤ p ∧ p ≤ 639 then (some 15, true)
  else if 1024 ≤ p then (some (if pointKind (s.obj (Obj.PM_POINT p)) = 2 then 30 else 15), true)
  else (none, false)

/-- A host-assigned point counts only while its connection is in the active set and carries its KIND (R398). -/
def State.pmPresent (s : State) (p : Nat) : Bool := decide (p < 1024) || s.assignedPresent p

/-- What the decoders of an engine or a bonded group have done since reset. -/
def State.fecTotals (s : State) (p : Nat) : FecTotals :=
  let es := if 1 ≤ p ∧ p ≤ 4 then [p - 1]
    else if 5 ≤ p ∧ p ≤ 7 then ((bondGroups (s.obj Obj.TB_BOND_CFG)).find? fun g => decide (bondPoint g = p)).getD []
    else []
  es.foldl (fun a e =>
    let x := (s.engine e).totals
    ⟨a.bits + x.bits, a.corrected + x.corrected, a.words + x.words, a.bad + x.bad⟩) {}

/-- The totals since an earlier one. -/
def FecTotals.since (x y : FecTotals) : FecTotals := ⟨x.bits - y.bits, x.corrected - y.corrected, x.words - y.words, x.bad - y.bad⟩

/-- A second's counts at a point (R399): at an engine or a bonded group those of the decoders. -/
def State.pmCount (s : State) (p : Nat) (x : PmCount) : PmCount :=
  if 1 ≤ p ∧ p ≤ 7 then
    let d := (s.fecTotals p).since (s.pmPoint p).secBase
    { x with blocks := d.words, errored := d.bad, corrected := d.corrected, bits := d.bits }
  else x

/-- BDI of a section or path, or RDI, declared now, by point (R399). -/
def State.farPoints (s : State) : List Nat :=
  s.defects.filterMap fun e =>
    if e.1.c = Df.pathBdi then some e.1.i
    else if e.1.c = Df.msRdi then some (8 + e.1.i)
    else if e.1.c = Df.smBdi then some (if 0x10000 ≤ e.1.i then 8 + (e.1.i - 0x10000) / 256 else e.1.i)
    else none

/-- A class of a second from its blocks and defects (R399). -/
def classify (k15 k24 : Int) (percent : Option Nat) (defect : Bool) (blocks errored : Nat) : PmSec :=
  let bad := match percent with
    | some t => decide (0 < errored) && decide (t * blocks ≤ 100 * errored)
    | none => false
  let ses := defect || bad
  { k15 := k15, k24 := k24, es := ses || (percent.isSome && decide (0 < errored)), ses := ses, bbe := if ses then 0 else errored }

/-! ## Bins (R400 to R402) -/

/-- Counts with a second added or taken away, as available or unavailable (R400). -/
def PmCounts.add (c : PmCounts) (x : PmSec) (uas : Bool) : PmCounts :=
  if uas then { c with uas := sat32 (c.uas + 1) }
  else { c with es := sat32 (c.es + x.es.toNat), ses := sat32 (c.ses + x.ses.toNat), bbe := min (2 ^ 48 - 1) (c.bbe + x.bbe) }

def PmCounts.remove (c : PmCounts) (x : PmSec) (uas : Bool) : PmCounts :=
  if uas then { c with uas := c.uas - 1 }
  else { c with es := c.es - x.es.toNat, ses := c.ses - x.ses.toNat, bbe := c.bbe - x.bbe }

def Bin.onEnd (b : Bin) (far : Bool) (f : PmCounts → PmCounts) : Bin :=
  if far then { b with fe := f b.fe } else { b with ne := f b.ne }

/-- The bin of a number: the current one, or the one that waits for its closing. -/
def PmBins.onBin (b : PmBins) (k : Int) (f : Bin → Bin) : PmBins :=
  if b.cur.k = k then { b with cur := f b.cur }
  else match b.closing with
    | some c => if c.k = k then { b with closing := some (f c) } else b
    | none => b

/-- A second counted under the state in force (R400). -/
def PmPoint.count (q : PmPoint) (far : Bool) (x : PmSec) (uas : Bool) : PmPoint :=
  { q with
    m15 := q.m15.onBin x.k15 fun b => b.onEnd far fun c => c.add x uas
    d24 := q.d24.onBin x.k24 fun b => b.onEnd far fun c => c.add x uas }

/-- A second that changes from one state to the other. -/
def PmPoint.recount (q : PmPoint) (far : Bool) (x : PmSec) (uas : Bool) : PmPoint :=
  let move := fun (b : Bin) => b.onEnd far fun c => (c.remove x !uas).add x uas
  { q with m15 := q.m15.onBin x.k15 move, d24 := q.d24.onBin x.k24 move }

def PmPoint.avail (q : PmPoint) (far : Bool) : Avail := if far then q.fe else q.ne
def PmPoint.setAvail (q : PmPoint) (far : Bool) (a : Avail) : PmPoint := if far then { q with fe := a } else { q with ne := a }

/-- Availability after a second (R400): ten in a row change the state, for those ten too. -/
def PmPoint.judge (q : PmPoint) (far : Bool) (x : PmSec) : PmPoint :=
  let a := q.avail far
  let run := if x.ses = a.uas then [] else x :: a.run
  if run.length = 10 then
    (run.foldl (fun q y => q.recount far y !a.uas) q).setAvail far { uas := !a.uas, run := [] }
  else q.setAvail far { a with run := run }

/-- The record of a bin (R402). -/
def binRecord (b : Bin) (lost nofe engine : Bool) : Nat :=
  packBytes [(4, encode 4 b.k), (1, b.suspect.toNat * 128 + lost.toNat * 64 + nofe.toNat * 32), (3, 0),
    (4, b.ne.es), (4, b.ne.ses), (4, b.ne.uas), (6, b.ne.bbe), (4, b.fe.es), (4, b.fe.ses), (4, b.fe.uas), (6, b.fe.bbe),
    (2, if engine then b.berMax else 0), (2, if engine then encode 2 (b.pwrMin.getD 0) else 0)]

/-- A LOST record (R403, R404). -/
def lostRecord (k : Int) (nofe : Bool) : Nat := binRecord { k := k, suspect := false } true nofe false

/-- The HBM holds history (R404). -/
def State.hbmServes (s : State) : Bool := s.domOn 16 && !s.prot.hbmFault

/-- History written, or held back while the HBM is out of service (R404). -/
def PmBins.store (b : PmBins) (hbm : Bool) (depth record : Nat) : PmBins :=
  if hbm then { b with history := (record :: b.history).take depth }
  else
    { b with
      unwritten := some record
      dropped := match b.unwritten with
        | some r => b.dropped ++ [signed 4 (bytesOf 48 r 0 4)]
        | none => b.dropped }

/-- Bin numbers of a second (R401). -/
def State.bin15 (s : State) (sec : Nat) : Int := ((sec : Int) - s.obj Obj.PM_UTC_OFFSET) / 900
def State.bin24 (s : State) (sec : Nat) : Int := ((sec : Int) - s.obj Obj.PM_UTC_OFFSET - s.obj Obj.PM_DAY_OFFSET) / 86400

/-- The bins of a point when a second of bin `k` begins (R401, R403): the next bin opens; a forward step closes the current one as SUSPECT
and writes the bins it skips as LOST records. `fresh` is a point without a bin yet. The number is that of LOST records written. -/
def PmBins.roll (b : PmBins) (fresh hbm nofe engine : Bool) (depth : Nat) (k : Int) : PmBins × Nat :=
  if fresh then ({ b with cur := { k := k } }, 0)
  else if k ≤ b.cur.k then (b, 0)
  else if k = b.cur.k + 1 then ({ b with closing := some b.cur, cur := { k := k, suspect := false } }, 0)
  else
    let skipped := (k - b.cur.k - 1).toNat
    let old := match b.closing with
      | some c => b.store hbm depth (binRecord c false nofe engine)
      | none => b
    let done := old.store hbm depth (binRecord { b.cur with suspect := true } false nofe engine)
    let lost := (List.range (min skipped depth)).foldl (fun (c : PmBins) i =>
      let j := k - min skipped depth + i
      c.store hbm depth (lostRecord j nofe)) done
    ({ lost with closing := none, cur := { k := k, suspect := true } }, if hbm then skipped else skipped - min skipped depth)

/-! ## A second (R399 to R403, R406) -/

/-- The profile of a point, and word `w` of it (R405). -/
def State.profile (s : State) (p : Nat) : Nat := s.active (Obj.PM_PROFILE (field (s.obj (Obj.PM_POINT p)) 23 19))
def profileWord (v w : Nat) : Nat := bytesOf 64 v (4 * w) 4

/-- The counters of a bin in the order of the thresholds: near end 0 to 3, far end 4 to 7. -/
def Bin.counters (b : Bin) : List Nat := [b.ne.es, b.ne.ses, b.ne.uas, b.ne.bbe, b.fe.es, b.fe.ses, b.fe.uas, b.fe.bbe]

/-- Counters that have just reached their threshold (R406). -/
def tcaNow (profile first : Nat) (far : Bool) (b : Bin) : List Nat :=
  (List.range 8).filter fun i =>
    let t := profileWord profile (first + i % 4)
    decide (t ≠ 0) && decide (t ≤ b.counters.getD i 0) && !b.tca.contains i && (decide (i < 4) || (far && bit (profileWord profile 0) 29))

def State.raiseTca (s : State) (p type : Nat) (b : Bin) (is : List Nat) : State :=
  is.foldl (fun t i => t.raise Ev.PM_TCA [p, type, i, b.counters.getD i 0]) s

/-- The record of a point in the tick that ends, where a row for a part of the boundary has ended it (log entry 6). -/
def State.endedRecord (s : State) (p : Nat) : Nat := Map.get 0 (s.closed.getD []) (Key.unit p)
def State.endedDefect (s : State) (p : Nat) : Bool := bit (s.endedRecord p) 14 || bit (s.endedRecord p) 13

/-- The second of a point (R399 to R403). -/
def State.pmClassify (s : State) (p sec : Nat) (x : PmCount) : State :=
  let (percent, far) := s.pmShape p
  let engine := decide (p ≤ 4)
  let x := s.pmCount p x
  let q := s.pmPoint p
  let fresh := decide (q = {})
  let (m15, l15) := q.m15.roll fresh s.hbmServes (!far) engine 96 (s.bin15 sec)
  let (d24, l24) := q.d24.roll fresh s.hbmServes (!far) engine 7 (s.bin24 sec)
  let q := { q with m15 := m15, d24 := d24, secBase := s.fecTotals p }
  let defect := s.pm.defectSecond.contains p || s.endedDefect p
  let mark := !s.todTrace || s.pm.suspect || !s.pmPresent p
  let flag := fun (b : Bin) => { b with suspect := b.suspect || mark }
  let ber := if engine ∧ x.corrected ≠ 0 then ratioCode x.corrected x.bits else 0xFFFF
  let power := if engine then some (s.objInt (Obj.OPT_RX_POWER_MEAS (p - 1))) else none
  let meas := fun (b : Bin) => { b with
    berMax := min b.berMax ber
    pwrMin := match b.pwrMin, power with
      | some a, some c => some (min a c)
      | none, c => c
      | a, none => a }
  let q := { q with
    m15 := { q.m15 with cur := meas (flag q.m15.cur) }, d24 := { q.d24 with cur := meas (flag q.d24.cur) } }
  let t := s.bump Obj.PM_HIST_LOST (l15 + l24)
  if ¬ s.pmPresent p then t.setPmPoint p q
  else
    let near := classify q.m15.cur.k q.d24.cur.k percent defect x.blocks x.errored
    let farSec := classify q.m15.cur.k q.d24.cur.k percent (x.farDefect || s.pm.farSecond.contains p || s.farPoints.contains p) x.farBlocks x.farErrored
    let q := q.count false near q.ne.uas
    let q := if far then q.count true farSec q.fe.uas else q
    let profile := s.profile p
    let a := tcaNow profile 4 far q.m15.cur
    let b := tcaNow profile 8 far q.d24.cur
    let t := (t.raiseTca p 0 q.m15.cur a).raiseTca p 1 q.d24.cur b
    let q := { q with
      m15 := { q.m15 with cur := { q.m15.cur with tca := q.m15.cur.tca ++ a } }
      d24 := { q.d24 with cur := { q.d24.cur with tca := q.d24.cur.tca ++ b } } }
    let q := q.judge false near
    t.setPmPoint p (if far then q.judge true farSec else q)

/-- The boundary that opens the current tick ends a second. -/
def State.secondEnds (s : State) : Bool := decide (0 < s.now) && decide (s.now % ticksPerSecond = 0)

/-- The second that ends, and the one that begins. -/
def State.endedSecond (s : State) : Nat := if s.timing.rolled then s.timing.ended else s.timing.seconds
def State.begunSecond (s : State) : Nat := if s.timing.rolled then s.timing.seconds else s.comingSecond

/-- The bins that a forward step of the time of day closes, of the first point that has any: one that waits, and the current one (R403). -/
def State.steppedOver (s : State) (day : Bool) : List Int :=
  let k := if day then s.bin24 s.endedSecond else s.bin15 s.endedSecond
  (s.pmPoints.findSome? fun p =>
    let b := if day then (s.pmPoint p).d24 else (s.pmPoint p).m15
    if s.pmPoint p ≠ {} ∧ b.cur.k + 1 < k then some ((b.closing.map (·.k)).toList ++ [b.cur.k]) else none).getD []

/-- One event for each closing, for all points together (R401). -/
def State.stepEvents (s : State) : State :=
  [false, true].foldl (fun t day => (s.steppedOver day).foldl (fun t k => t.raise Ev.PM_BIN [day.toNat, encode 4 k]) t) s

/-- The PM engine classifies a second at every point, once (R399). -/
def State.pmSecond (s : State) (counts : List PmCount) : State :=
  if ¬ s.secondEnds ∨ s.pm.second = some s.now then s
  else
    let t := s.pmPoints.foldl (fun t p =>
      t.pmClassify p s.endedSecond ((counts.find? fun x => decide (x.point = p)).getD { point := p })) s.stepEvents
    t.withPm fun m => { m with defectSecond := [], farSecond := [], second := some s.now, suspect := false }

/-! ## Closing (R401, R404) -/

/-- Whether a bin that waits is due: its period ended 10 s ago. -/
def State.binDue (s : State) (day : Bool) (b : Bin) : Bool :=
  let t := (s.begunSecond : Int) - s.obj Obj.PM_UTC_OFFSET - (if day then s.obj Obj.PM_DAY_OFFSET else 0)
  decide ((b.k + 1) * (if day then 86400 else 900) + 10 ≤ t)

def PmPoint.bins (q : PmPoint) (day : Bool) : PmBins := if day then q.d24 else q.m15
def PmPoint.setBins (q : PmPoint) (day : Bool) (b : PmBins) : PmPoint := if day then { q with d24 := b } else { q with m15 := b }

/-- Bins that are due close into history, with one event for all points (R401). -/
def State.pmClose (s : State) (day : Bool) : State :=
  let due := s.pm.points.filterMap fun e => match (e.2.bins day).closing with
    | some c => if s.binDue day c then some (e.1.i, e.2, c) else none
    | none => none
  let t := due.foldl (fun (t : State) x =>
    let (p, q, c) := x
    let far := (s.pmShape p).2
    let b := (q.bins day).store s.hbmServes (if day then 7 else 96) (binRecord c false (!far) (decide (p ≤ 4)))
    t.setPmPoint p (q.setBins day { b with closing := none })) s
  match due with
  | (_, _, c) :: _ => t.raise Ev.PM_BIN [day.toNat, encode 4 c.k]
  | [] => t

/-- Records held back are written when the HBM returns, with LOST records for the bins in between (R404). -/
def PmBins.recover (b : PmBins) (depth : Nat) (nofe : Bool) : PmBins :=
  match b.unwritten with
  | none => b
  | some r =>
    let lost := b.dropped.foldl (fun h k => lostRecord k nofe :: h) b.history
    { b with history := (r :: lost).take depth, unwritten := none, dropped := [] }

def State.pmRecover (s : State) : State :=
  let written := fun (b : PmBins) => b.dropped.length + (b.unwritten.map fun r => (bit r 350).toNat).getD 0
  let lost := (s.pm.points.map fun e => written e.2.m15 + written e.2.d24).sum
  (s.pm.points.foldl (fun (t : State) e =>
    let nofe := !(s.pmShape e.1.i).2
    t.setPmPoint e.1.i { e.2 with m15 := e.2.m15.recover 96 nofe, d24 := e.2.d24.recover 7 nofe }) s).bump Obj.PM_HIST_LOST lost

/-! ## Signal degrade (R407) -/

/-- SDSRC, where it has an effect at the point. -/
def State.sdSource (s : State) (p : Nat) : Nat :=
  let src := field (profileWord (s.profile p) 0) 31 30
  if src = 1 ∧ ¬ (1 ≤ p ∧ p ≤ 4) then 0 else if src = 3 then 0 else src

/-- The coming boundary ends a second; or a window of a point. -/
def State.secondComes (s : State) : Bool := decide ((s.now + 1) % ticksPerSecond = 0)
def State.windowComes (s : State) (p : Nat) : Bool :=
  decide (s.sdSource p ≠ 0) && decide ((s.pmPoint p).sdStart + profileWord (s.profile p) 2 ≤ s.now + 1)

/-- A window of a point is due to end at the boundary that opens the current tick. -/
def State.sdDue (s : State) (p : Nat) : Bool :=
  decide (s.sdSource p ≠ 0) && decide ((s.pmPoint p).sdStart + profileWord (s.profile p) 2 ≤ s.now)

def State.setSd (s : State) (p : Nat) (on : Bool) (count code : Nat) : State :=
  let old := s.declared Df.sd p
  let t := (s.setObj (Obj.PM_SD_STATE p) (on.toNat * 2 ^ 31 + count % 256 * 2 ^ 16 + code % 2 ^ 16)).setDefect Df.sd p on
  if old = on then t else t.raise Ev.PM_SD [p, on.toNat, code]

/-- The ratio of a window (R407), errored of all: at an engine or a bonded group what the decoders corrected or left uncorrected in it. -/
def State.sdRatio (s : State) (p : Nat) (x : Option SdWindow) : Option (Nat × Nat) :=
  if 1 ≤ p ∧ p ≤ 7 then
    let d := (s.fecTotals p).since (s.pmPoint p).sdBase
    some (if s.sdSource p = 1 then (d.corrected, d.bits) else (d.bad, d.words))
  else x.map fun x => (x.errored, x.of)

/-- A window ends (R407). -/
def State.sdEnd (s : State) (p : Nat) (x : Option SdWindow) : State :=
  if ¬ s.sdDue p then s
  else
    let q := s.pmPoint p
    let w := profileWord (s.profile p) 1
    let t := s.setPmPoint p { q with sdStart := s.now, sdDefect := false, sdBase := s.fecTotals p }
    match s.sdRatio p x with
    | none => t
    | some (errored, all) =>
      let code := ratioCode errored all
      let on := s.declared Df.sd p
      let count := field (s.obj (Obj.PM_SD_STATE p)) 23 16
      if q.sdDefect ∨ s.endedDefect p then t.setSd p on count code
      else if ratioAbove errored all (field w 15 0) then t.setSd p true 0 code
      else if on then
        if ratioBelow errored all (field w 31 16) then
          if field (profileWord (s.profile p) 3) 7 0 ≤ count + 1 then t.setSd p false 0 code else t.setSd p true (count + 1) code
        else t.setSd p true 0 code
      else t.setSd p false 0 code

/-- Windows start afresh at points whose profile has become active (R407). -/
def State.sdRestart (s : State) (ps : List Nat) : State :=
  ps.foldl (fun t p =>
    let u := t.setPmPoint p { t.pmPoint p with sdStart := t.now, sdDefect := false, sdBase := t.fecTotals p }
    if u.sdSource p = 0 then u.setSd p false 0 0 else u) s

/-- Points whose record of the last tick carries SSF or TSF, for the second and the window, and those with BDI or RDI (R399, R407); a tick without a
traceable time of day makes the bins SUSPECT (R403). -/
def State.markDefects (s : State) (records : Map Nat) : State :=
  let s := if s.pm.second = some s.now then s
    else s.withPm fun m => { m with farSecond := (m.farSecond ++ s.farPoints).dedup, suspect := m.suspect || !s.todTrace }
  (records.filter fun e => bit e.2 14 || bit e.2 13).foldl (fun (t : State) e =>
    let p := e.1.i
    let u := if s.pm.second = some s.now then t
      else t.withPm fun m => { m with defectSecond := if m.defectSecond.contains p then m.defectSecond else p :: m.defectSecond }
    if u.sdSource p ≠ 0 ∧ (u.pmPoint p).sdStart ≠ u.now then u.setPmPoint p { u.pmPoint p with sdDefect := true } else u) s

/-! ## Writes of class 0x52 -/

/-- A point that protection, encryption or the export uses, in either copy of the shadow set (R398). -/
def State.pointUsed (s : State) (p : Nat) : Bool :=
  [s.act, s.shd].any fun m =>
    (groupsOf m).any (fun g => decide (g.2.type ≠ 5) && (decide (g.2.pointW = p) || decide (g.2.pointP = p))) ||
    m.any fun e => (decide (e.1.c = 0x14 ∧ e.1.m = 0x01) && bit e.2 127 && bit e.2 63 && decide (field e.2 48 32 = p)) ||
      (decide (e.1.c = 0x33 ∧ e.1.m = 0x04) && entryOn e.2 && decide (field e.2 16 0 = p))

/-- The part of a PM_POINT entry beside PROFILE. -/
def pointRest (v : Nat) : Nat := withField v 23 19 0

def acceptPoint : Accept := fun k v s =>
  let old := s.latest k
  if pointRest v.v ≠ pointRest old then
    if k.x < 1024 ∨ 3 ≤ pointKind v.v ∨ (if pointKind v.v = 1 then field v.v 26 24 = 0 ∨ field v.v 26 24 = 7 else field v.v 26 24 ≠ 0) then
      (.range, s)
    else if s.pointUsed k.x then (.precond, s)
    else acceptStage k v s
  else acceptStage k v s

def acceptPm : Accept := fun k v s =>
  match k.m with
  | 0x01 => acceptPoint k v s
  | 0x04 => if v.v % 900 ≠ 0 then (.range, s) else acceptStage k v s
  | _ => acceptStage k v s

/-- A committed write of class 0x52, from the state before it: the bins it concerns become SUSPECT (R398, R403). -/
def commitPm (k : Key) (before s : State) : State :=
  if k.m = 0x01 then
    let q := s.pmPoint k.x
    let mark := fun (b : PmBins) => { b with cur := { b.cur with suspect := true } }
    (s.setPmPoint k.x { q with m15 := mark q.m15, d24 := mark q.d24 }).sdRestart [k.x]
  else if before.obj k = s.obj k then s
  else s.withPm fun m => { m with suspect := true }

/-! ## Meanings -/

/-- PM_BIN_CLOSE (R401): after the last second that decides the bin's availability has been classified. -/
def execPmBinClose (day : Bool) (s : State) : Out :=
  .next (s.atBoundary fun t => if t.pm.second = some t.now then t.pmClose day else t)

/-- PM_POINT write (R398). -/
def execPmPointWrite (rq : Rq) (p : Nat) (val : Val) (s : State) : Out := .next (serveWrite acceptPm rq (Obj.PM_POINT p) val s)

/-- HBM_FAILURE (R309, R396): the HBM leaves service, or has more uncorrectable reads in one tick than the limit. -/
def execHbmFailure (reads : Option Nat) (s : State) : Out :=
  let met : Bool := match reads with
    | none => true
    | some n => decide (s.obj Obj.MM_HBM_ERR_LIMIT < n)
  if met = true ∧ s.prot.hbmFault = false then
    let t := s.atBoundary fun t => t.hbmFallback (if reads.isNone then 1 else 2)
    .next (if reads.isNone then t.loupeAbort 2 else t)
  else .next s

/-- HBM_RETURN (R309, R404). -/
def execHbmReturn (s : State) : Out :=
  if s.prot.hbmFault ∧ s.domOn 16 then .next s.hbmBack.pmRecover else .next s

end Sys2Proof.Machine
end

