-- ==== Sys2Proof/Machine/Shadow.lean ====
section
/-! DEFINITION. The shadow set, swaps, SYNCING and line changes (chapter 07). -/

namespace Sys2Proof.Machine

/-! ## Line changes (R264) -/

def changeKey (e x : Nat) : Key := ⟨0, e, 0, x⟩
def State.change (s : State) (e x : Nat) : Option LineChange := (s.shadow.changes.find? fun p => decide (p.1 = changeKey e x)).map (·.2)
def State.setChange (s : State) (e x : Nat) (c : LineChange) : State :=
  s.withShadow fun h => { h with changes := Map.insert (Map.erase h.changes (changeKey e x)) (changeKey e x) c }
def State.freeChange (s : State) (e x : Nat) : State := s.withShadow fun h => { h with changes := Map.erase h.changes (changeKey e x) }

/-- The entries of an engine, in order. -/
def State.changesOf (s : State) (e : Nat) : List (Nat × LineChange) :=
  (s.shadow.changes.filter fun p => decide (p.1.i = e)).map fun p => (p.1.x, p.2)

/-- LINE_CHG (R273): free until the entry's first tick. -/
def State.lineChg (s : State) (e x : Nat) : Nat :=
  match s.change e x with
  | some c => if s.now < c.begins then 0
    else c.state * 2 ^ 28 + c.side * 2 ^ 27 + c.kind * 2 ^ 26 + c.cause % 16 * 2 ^ 22 + c.conn
  | none => 0

/-- The line endpoint of a connection on one side, its own (R218), and the TPN there. -/
def sideWord (c : Conn) (side : Nat) : Nat := if side = 0 then c.src else c.dst
def sideTpn (c : Conn) (side : Nat) : Nat := if side = 0 then c.srcTpn else c.dstTpn

/-- How a swap changes a line endpoint. -/
inductive LineDiff where
  | same | move | resize | both | other
  deriving DecidableEq, Repr

def lineDiff (old new : Conn) (side : Nat) : LineDiff :=
  let a := sideWord old side
  let b := sideWord new side
  if a = b then .same
  else if ¬ (old.valid ∧ new.valid ∧ epType a = 4 ∧ epType b = 4 ∧ epEngine a = epEngine b) then .other
  else if epSlotCount a = epSlotCount b then .move
  else if epSlotFirst a = epSlotFirst b then .resize
  else .both

/-- An entry of the shadow may carry an ODUflex, whose slot count a swap may change (R264): neither end names another container (R174). -/
def State.mayResize (s : State) (c : Conn) : Bool :=
  [s.sourceOf c, s.sinkOf c].all fun x => match x with
    | some a => decide (a.form ≠ 1 ∨ a.id < 31 ∨ 35 < a.id)
    | none => true

/-- The pending change on one side of a connection, with its engine and index. -/
def State.changeOn (s : State) (n side : Nat) : Option (Nat × Nat × LineChange) :=
  (s.shadow.changes.find? fun p => decide (p.2.conn = n) && decide (p.2.side = side)).map fun p => (p.1.i, p.1.x, p.2)

/-- Connections that either copy of the table holds. -/
def bothConns (a b : Map Nat) : List Nat := ((connsOf a ++ connsOf b).map (·.1)).dedup

/-- The line endpoints that a swap moves or resizes: connection, side. -/
def State.lineStarts (s : State) : List (Nat × Nat) :=
  (sortNat (bothConns s.act s.shd)).flatMap fun n => [0, 1].filterMap fun side =>
    let old := connAt s.act n
    let new := connAt s.shd n
    let fromOld := match s.changeOn n side with
      | some (_, _, c) => decide (epSlotFirst (sideWord new side) = c.oldFirst ∧ epSlotCount (sideWord new side) = c.oldCount)
      | none => false
    match lineDiff old new side with
    | .move | .resize => if fromOld then none else some (n, side)
    | _ => none

/-- Check 8 of R253, and the forms of change that R264 allows. -/
def State.lineChangesFit (s : State) : Bool :=
  let ns := bothConns s.act s.shd
  let calm := ns.all fun n => [0, 1].all fun side =>
    let d := lineDiff (connAt s.act n) (connAt s.shd n) side
    decide (d ≠ .both) && (decide (d ≠ .resize) || s.mayResize (connAt s.shd n)) && (match s.changeOn n side with
      | some (_, _, c) => decide (c.state = 3) || (decide (d = .same) && (connAt s.shd n).valid)
      | none => true)
  let count := fun (e : Nat) =>
    (s.changesOf e).countP (fun p => decide (p.2.state ≠ 3) ||
      decide (lineDiff (connAt s.act p.2.conn) (connAt s.shd p.2.conn) p.2.side = .same)) +
    s.lineStarts.countP fun p => decide (s.linkOf (epEngine (sideWord (connAt s.shd p.1) p.2)) = e)
  calm && [0, 1, 2, 3].all fun e => decide (count e ≤ 16)

/-! ## Swap checks of code 9 (R187, R266, R285, R303, R317, R405, R498) -/

/-- A monitored point that exists and is assigned. -/
def State.pointAssigned (s : State) (p : Nat) : Bool := pointOn (s.obj (Obj.PM_POINT p))

/-- An endpoint type that a copy of a group may have (R279, R302). -/
def State.copyAllowed (s : State) (type w : Nat) : Bool :=
  if type = 6 then decide (epType w = 1) && isStm (s.clientType (epLane w))
  else if type = 7 ∨ type = 8 then decide (epType w = 2) || (decide (epType w = 5) && decide (field w 21 20 ≠ 0))
  else if type = 9 then decide (epType w = 4) || decide (epType w = 3) || (decide (epType w = 1) && isOtu (s.clientType (epLane w)))
  else decide (1 ≤ epType w) && decide (epType w ≤ 7) && decide (epType w ≠ 2)

/-- The connection of a set whose source is a group. -/
def connOfGroup (m : Map Nat) (g : Nat) : Option (Nat × Conn) :=
  (connsOf m).find? fun p => decide (epType p.2.src = 9) && decide (epGroup p.2.src = g)

/-- A copy carries the container of the connection that the group feeds (R285). -/
def State.copyFits (s : State) (g w : Nat) : Bool :=
  match connOfGroup s.shd g with
  | none => true
  | some (_, c) => match s.endpoint true w c.size, s.endpoint false c.dst c.size with
    | some a, some b => a.fits b
    | some _, none => true
    | none, _ => false

/-- The client of a bridge group, which takes the endpoints of an ODU copy, and its protection channel (R279, R282): W2 names the connection whose source
is the bridge group of channel 1, and the client carries its container. -/
def State.bridgeFits (s : State) (g : Group) : Bool :=
  let c := connAt s.shd (field g.protect 18 0)
  s.copyAllowed 4 g.working && c.valid && decide (epType c.src = 9) && decide (epGroup c.src = headOf g + 1) &&
    match s.endpoint true g.working c.size, s.endpoint false c.dst c.size with
      | some a, some b => a.fits b
      | _, _ => false

/-- SIZE of the connections of a 1:N set: toward its clients, and of the protection channel. -/
def State.setSizes (s : State) (head n : Nat) : List Nat :=
  (List.range n).filterMap (fun i => (connOfGroup s.shd (head + 2 * i)).map (·.2.size)) ++
    (List.range n).filterMap fun i =>
      let b := groupAt s.shd (head + 2 * i + 1)
      let c := connAt s.shd (field b.protect 18 0)
      if c.valid then some c.size else none

/-- A 1:N set is complete, numbered 1 to N, and of one SIZE (R282, R285). -/
def State.setFits (s : State) (head : Nat) (g : Group) : Bool :=
  decide (1 ≤ g.n) && decide (g.n ≤ 14) && ((List.range g.n).all fun i =>
    let a := groupAt s.shd (head + 2 * i)
    let b := groupAt s.shd (head + 2 * i + 1)
    a.valid && b.valid && decide (a.type = 4) && decide (b.type = 5) && decide (channelOf a = i + 1) && decide (channelOf b = i + 1) &&
      decide (headOf a = head) && decide (headOf b = head) && decide (a.n = g.n) && decide (b.n = g.n)) &&
    (match s.setSizes head g.n with
      | x :: xs => xs.all fun y => decide (y = x)
      | [] => true)

/-- Fields of a group entry in range (R279, R280). -/
def groupInRange (v : Nat) (g : Group) : Bool :=
  decide (1 ≤ g.type) && decide (g.type ≤ 9) && decide (g.psc ≠ 3) && decide (g.holdOff ≤ 8000000) &&
    (let w := entryWord v 6
     decide (w = 0) || (decide (800000 ≤ w) && decide (w ≤ 576000000))) &&
    (if isSet g then true else decide (g.n = 0)) &&
    (if g.type = 9 then decide (1 ≤ mergeDelay g) && decide (mergeDelay g ≤ 8000) else decide (6 < g.type ∨ field g.w7 31 29 ≠ 7))

/-- One group passes R285. -/
def State.groupFits (s : State) (n : Nat) (g : Group) : Bool :=
  groupInRange (s.shadowed (Obj.PG_CFG n)) g &&
    (if g.type = 5 then s.bridgeFits g
     else (decide (g.type ≠ 6) || decide (s.clientType (epLane g.working) = s.clientType (epLane g.protect))) && s.copyAllowed g.type g.working && s.copyAllowed g.type g.protect && s.copyFits n g.working && s.copyFits n g.protect &&
       s.pointAssigned g.pointW && s.pointAssigned g.pointP) &&
    !(decide (g.type = 9) && g.bidir) &&
    (if isSet g then
      let h := groupAt s.shd (headOf g)
      h.valid && decide (h.type = 4) && decide (channelOf g ≤ h.n) && decide (1 ≤ channelOf g) &&
        decide (n = headOf g + 2 * (channelOf g - 1) + (if g.type = 5 then 1 else 0)) && s.setFits (headOf g) h
     else true)

/-- The whole protection configuration of the shadow passes R285 and R303. -/
def State.groupsFit (s : State) : Bool :=
  let gs := groupsOf s.shd
  gs.all (fun p => s.groupFits p.1 p.2) &&
    decide (gs.countP (fun p => (decide (p.2.type = 4) && decide (headOf p.2 = p.1)) || (!isSet p.2 && usesAps p.2)) ≤ 4096) &&
    decide (s.mmRateUsed s.shd ≤ 3200000000000) && decide (s.mmReserved s.shd ≤ 4096)

/-- The SEC_MAP index of a locally mapped source (R317, R319). -/
def State.secMapIndex (s : State) (w : Nat) : Option Nat :=
  match epType w with
  | 1 => if isOtu (s.clientType (epLane w)) then none else some (epLane w)
  | 5 => some (64 + epPort w)
  | 6 => (s.physOf (epFlexGroup w)).head?
  | _ => none

/-- One channel of the shadow passes R317. -/
def State.secFits (s : State) (e : Nat) (c : SecCfg) : Bool :=
  let t := connAt s.shd c.txConn
  let r := connAt s.shd c.rxConn
  (!c.tx || (t.valid && s.onEngine e t.dst && (sourcesOf s.shd t).all fun w => match s.secMapIndex w with
    | some x => decide (s.obj (Obj.SEC_MAP x) ≠ 0)
    | none => true)) &&
  (!c.rx || (r.valid && (sourcesOf s.shd r).any (s.onEngine e))) &&
  !modeZ (s.mode e) && s.domOn (12 + e) && (!c.report || s.pointAssigned c.point)

/-- Connections that the channels of an engine name. -/
def secNames (cs : List SecCfg) : List Nat := cs.flatMap fun c => (if c.tx then [c.txConn] else []) ++
  (if c.rx ∧ ¬ (c.tx ∧ c.txConn = c.rxConn) then [c.rxConn] else [])

def State.securityFits (s : State) : Bool :=
  let all := secOf s.shd
  (all.all fun x => s.secFits x.1 x.2.2) && [0, 1, 2, 3].all fun e =>
    let cs := (all.filter fun x => decide (x.1 = e)).map (·.2.2)
    decide ((secNames cs).Nodup) && decide ((cs.countP fun c => c.verifyFirst && c.rx) ≤ 256)

/-- Profiles pass R405. -/
def State.profilesFit (s : State) : Bool :=
  (List.range 32).all fun x =>
    let v := s.shadowed (Obj.PM_PROFILE x)
    let w := profileWord v 1
    decide (field (profileWord v 0) 31 30 = 0) ||
      (decide (field w 15 0 ≤ field w 31 16) && decide (800 ≤ profileWord v 2) && decide (profileWord v 2 ≤ 8000000) &&
        decide (1 ≤ field (profileWord v 3) 7 0))

/-- Domains in which an endpoint lies (R498). -/
def State.endpointDomains (s : State) (w : Nat) : List Nat :=
  match epType w with
  | 4 => (s.bond (epEngine w)).map id
  | 6 => ((s.physOf (epFlexGroup w)).flatMap fun p => (s.client p).lanes.map fun l => 4 + l / 8).dedup
  | _ => match hostLane w with
    | some l => ((if (s.client l).lanes = [] then [l] else (s.client l).lanes).map fun l => 4 + l / 8).dedup
    | none => []

def State.domainsFit (s : State) : Bool :=
  (connsOf s.shd).all fun p => (p.2.dst :: sourcesOf s.shd p.2).all fun w => (s.endpointDomains w).all s.domOn

/-- No STM-N egress sinks native and VC connections together (R187). -/
def State.stmFits (s : State) : Bool :=
  let cs := connsOf s.shd
  cs.all fun p => !(decide (epType p.2.dst = 1) && isStm (s.clientType (epLane p.2.dst)) && !s.oduForm (epLane p.2.dst) &&
    cs.any fun q => decide (epType q.2.dst = 2) && decide (epLane q.2.dst = epLane p.2.dst))

/-- A move needs a far end that takes part in the exchange (R266). -/
def State.movesFit (s : State) : Bool :=
  s.lineStarts.all fun p =>
    decide (lineDiff (connAt s.act p.1) (connAt s.shd p.1) p.2 ≠ .move) ||
      decide (s.obj (Obj.OH_FFF_RX_ENABLE (epEngine (sideWord (connAt s.shd p.1) p.2))) = 1)

def State.objectsFit (s : State) : Bool :=
  s.groupsFit && s.securityFits && s.profilesFit && s.domainsFit && s.stmFits && s.movesFit

/-! ## Requests (R251 to R254) -/

/-- The first check of R253 that a request fails, with its status. `at` is the epoch of a SWAP_AT. -/
def State.swapFault (s : State) (role : Nat) (at_ : Option Nat) : Option (Nat × Status) :=
  let st := s.obj Obj.SHD_STATE
  let cs := s.obj Obj.PRISM_COMPILE_STATE
  if role < 1 then some (1, .denied)
  else if st = 2 ∨ st = 3 then some (2, .busy)
  else if st = 4 then some (3, .shadowBusy)
  else if ¬ (cs = 0 ∨ cs = 3) then some (4, .precond)
  else if (match at_ with
    | some e => decide (32 * e < s.tick + 2)
    | none => false) = true then some (5, .deadline)
  else if (match at_ with
    | some e => decide (s.epoch + 1500000 < e)
    | none => false) = true then some (6, .range)
  else if at_.isSome ∧ (s.load.isSome ∨ s.autoLoad.isSome) then some (7, .precond)
  else if ¬ s.lineChangesFit then some (8, .precond)
  else if ¬ s.objectsFit then some (9, .precond)
  else none

/-- The request is accepted: PENDING until its boundary. -/
def State.acceptSwap (s : State) (at_ : Option Nat) : State :=
  let e := match at_ with
    | some e => 32 * e
    | none => s.epochBoundary 2
  let t := (s.setObj Obj.SHD_STATE 2).setObj Obj.SHD_SWAP_EPOCH (e / 32)
  t.withShadow fun h => { h with
    swap := some { scheduled := at_.isSome, epoch := e / 32, due := some (s.now + (e - s.tick)), back := s.obj Obj.SHD_STATE, deferredAt := none } }

/-- A swap request: its status, and SWAP's response payload (R419). -/
def State.requestSwap (s : State) (role : Nat) (at_ : Option Nat) : Status × List Fld × State :=
  match s.swapFault role at_ with
  | some (code, st) => (st, [], s.setObj Obj.SHD_REJECT code)
  | none =>
    let t := s.acceptSwap at_
    (.ok, [⟨8, t.obj Obj.SHD_SWAP_EPOCH⟩, ⟨4, s.obj Obj.SHD_GENERATION⟩], t)

/-- SWAP and SWAP_AT, by opcode or by object. -/
def serveSwap (op : Nat) (byObject : Bool) (at_ : Option Nat) (rq : Rq) (s : State) : State :=
  serve (if byObject then Op.write else op) 0 rq (fun x t =>
    let (st, payload, u) := t.requestSwap x.role at_
    { status := st, payload := if byObject then [] else payload, state := u }) s

/-- SHD_SWAP_EPOCH goes back to the epoch of the last swap (R273). -/
def State.lastEpoch (s : State) : State := s.setObj Obj.SHD_SWAP_EPOCH (s.obj Obj.SHD_LAST_SWAP_TICK / 32)

/-- PRISM_SWAP_CANCEL (R254); in the tick in which a swap has taken effect it is too late (R272). -/
def State.cancelSwap (s : State) : Status × State :=
  match s.shadow.swap with
  | none => (if s.shadow.lastSwap.any fun e => decide (s.now ≤ e) then .deadline else .precond, s)
  | some q =>
    let late := s.obj Obj.SHD_STATE = 2 ∧ (match q.due with
      | some d => decide (d < s.now + 2)
      | none => false) = true
    if late then (.deadline, s)
    else (.ok, ((s.setObj Obj.SHD_STATE q.back).lastEpoch.withShadow fun h => { h with swap := none }).raise Ev.SWAP_CANCELLED [q.epoch])

/-! ## SYNCING (R250, R257 to R259) -/

/-- D of R258 without regenerations. -/
def syncLength (blocks : List Nat) : Nat := max 64 (4 + (blocks.map blockTicks).sum)

/-- SYNCING starts at an elapsed tick; the shadow takes the active set. DESIGN CHOICE (log entry 175): a compile that was asked for in the tick of the
swap request, and still runs, ends here. -/
def State.startSync (s : State) : State :=
  let blocks := sortNat s.prism.changed
  let t := { (s.healShadowCt.setObj Obj.SHD_STATE 4).setObj Obj.SHD_EDITS 0 with shd := s.act }
  let u := t.setObj Obj.PRISM_COMPILE_STATE 0
  let v := u.withPrism fun p => { p with
    heldShadow := p.held, heldBefore := p.held, dirty := [], dirtyBefore := [], changed := [], changedBefore := [], lastEntries := 0, compile := none
    rollback := none }
  { v with
    shadow := { v.shadow with sync := some { start := s.now, length := syncLength blocks, blocks := blocks, regenerated := 0 } }
    prot := { v.prot with cmdWritten := [] } }

/-- SHD_REVERT (R248, R250). -/
def State.revert (s : State) : Status × State :=
  let st := s.obj Obj.SHD_STATE
  if st = 4 then (.shadowBusy, s)
  else if 2 ≤ st ∨ s.compiling ∨ s.prism.rollback.isSome then (.busy, s)
  else (.ok, s.startSync)

/-- SHD_SYNC_LEFT. -/
def State.syncLeft (s : State) : Nat :=
  match s.shadow.sync with
  | some y => y.start + y.length - s.now
  | none => 0

/-- SYNCING ends (R258), once the shadow bank has every changed block. DESIGN CHOICE (log entry 213): while a block that the copy engine could not read
waits for its regeneration, it goes on. -/
def State.syncEnd (s : State) : State :=
  let t := s.copyEngine
  match t.shadow.sync with
  | none => s
  | some y =>
    if s.now < y.start + y.length ∨ (y.blocks.any fun b => !y.copied.contains b) = true then s
    else ((t.setObj Obj.SHD_STATE 0).withShadow fun h => { h with sync := none }).raise Ev.SYNC_DONE
      [y.length, y.blocks.length - y.regenerated, y.regenerated]

/-! ## A swap takes effect (R36, R255, R256, R262, R264, R284) -/

/-- A group whose reconfiguration R284 names. -/
def groupChanged (a b : Group) : Bool :=
  a.valid != b.valid || decide (a.type ≠ b.type) || a.bidir != b.bidir || decide (a.n ≠ b.n) || decide (a.working ≠ b.working) ||
    decide (a.protect ≠ b.protect) || decide (a.pointW ≠ b.pointW) || decide (a.pointP ≠ b.pointP) ||
    (decide (b.type = 9) && decide (mergeIndex a ≠ mergeIndex b)) || (isSet b && (decide (headOf a ≠ headOf b) || decide (channelOf a ≠ channelOf b)))

/-- Groups that either copy holds. -/
def bothGroups (a b : Map Nat) : List Nat := ((groupsOf a ++ groupsOf b).map (·.1)).dedup

/-- A group that the swap changes or removes starts with no request and its selector at working (R36): what this changes is published, and the merge
index that it had is OFF. -/
def State.resetGroup (s : State) (old : Map Nat) (n : Nat) : State :=
  let a := groupAt old n
  if ¬ groupChanged a (groupAt s.act n) then s
  else
    let t := s.setFop n 0
    let u := (t.publish n (t.pgRun n) {}).withProt fun p => { p with
      snapshot := p.snapshot.filter (· ≠ n), snapshotNext := p.snapshotNext.map fun l => l.filter (· ≠ n) }
    let v := (u.setObj (Obj.PG_APS_TX n) 0).setObj (Obj.PG_APS_RX n) 0
    if a.valid ∧ a.type = 9 then (v.withMm (mergeIndex a) fun _ => {}).setMm (mergeIndex a) 0 false 0 else v

/-- The merge index of a changed group starts in DIRECT (R304), once every changed group has left the index that it had. -/
def State.startMerge (s : State) (old : Map Nat) (n : Nat) : State :=
  let b := groupAt s.act n
  if groupChanged (groupAt old n) b = true ∧ b.valid ∧ b.type = 9 then
    ((s.withMm (mergeIndex b) fun _ => { lastValid := s.now }).setMm (mergeIndex b) 1 false 0).refreshMm (mergeIndex b)
  else s

/-- The groups after the swap. -/
def State.swapGroups (s : State) (old : Map Nat) : State :=
  let ns := bothGroups old s.act
  ns.foldl (fun t n => t.startMerge old n) (ns.foldl (fun t n => t.resetGroup old n) s)

/-- A swap changes what an expansion link carries where (R256, R270). -/
def expansionDiffers (old new : Map Nat) : Bool :=
  (bothConns old new).any fun n =>
    let a := connAt old n
    let b := connAt new n
    let link := fun (m : Map Nat) (c : Conn) => c.valid && ((sourcesOf m c).any (fun w => decide (epType w = 7)) || decide (epType c.dst = 7))
    (link old a || link new b) &&
      (a.valid != b.valid || decide (sourcesOf old a ≠ sourcesOf new b) || decide (a.dst ≠ b.dst) || decide (a.size ≠ b.size) || a.classM != b.classM)

/-- What the ingress map of an expansion link gives to connections (R256). -/
def linkMap (m : Map Nat) (f : Nat) : List (Nat × List Nat × Nat × Bool) :=
  (connsOf m).filterMap fun p =>
    let ws := (sourcesOf m p.2).filter fun w => decide (epType w = 7) && decide (epLane w = f)
    if ws = [] then none else some (p.1, ws, p.2.size, p.2.classM)

/-- Expansion links whose ingress map a swap changes (R256). -/
def linksChanged (old new : Map Nat) : List Nat := (List.range 64).filter fun f => decide (linkMap old f ≠ linkMap new f)

/-- The lowest free index of an engine's LINE_CHG. -/
def State.freeIndex (s : State) (e : Nat) : Nat := ((List.range 16).find? fun x => (s.change e x).isNone).getD 0

/-- A change begins (R264, R267). -/
def State.startChange (s : State) (old : Map Nat) (p : Nat × Nat) : State :=
  let a := sideWord (connAt old p.1) p.2
  let c := connAt s.act p.1
  let b := sideWord c p.2
  let e := s.linkOf (epEngine b)
  let kept := match s.changeOn p.1 p.2 with
    | some (_, _, x) => (x.oldFirst, x.oldCount)
    | none => (epSlotFirst a, epSlotCount a)
  let t := match s.changeOn p.1 p.2 with
    | some (f, x, _) => s.freeChange f x
    | none => s
  let x : LineChange := {
    conn := p.1, side := p.2, kind := if lineDiff (connAt old p.1) c p.2 = .move then 0 else 1
    tpn := sideTpn c p.2, oldFirst := kept.1, oldCount := kept.2, newFirst := epSlotFirst b, newCount := epSlotCount b
    begins := s.now + 1, move := s.shadow.nextMove
    target := (Map.get 0 s.shadow.multiframe (Key.unit e) + s.obj (Obj.SMX_LEAD e)) % 65536 }
  (t.setChange e (t.freeIndex e) x).withShadow fun h => { h with nextMove := (h.nextMove + 1) % 256 }

/-- Failed changes whose endpoint the swap puts back on the old slots, takes to another engine, or removes, free their entries (R268). -/
def State.dropFailed (s : State) : State :=
  s.shadow.changes.foldl (fun t p =>
    let c := connAt t.act p.2.conn
    let w := sideWord c p.2.side
    if ¬ c.valid ∨ epType w ≠ 4 ∨ t.linkOf (epEngine w) ≠ p.1.i ∨ (epSlotFirst w = p.2.oldFirst ∧ epSlotCount w = p.2.oldCount) then t.freeChange p.1.i p.1.x else t) s

/-- An element of the calendar that a FlexE group uses. -/
def State.calendarInUse (s : State) (k : Key) : Bool :=
  decide (k.c = 0x21) && decide (0x100 ≤ k.i) && decide (k.i < 0x108) && decide (k.m = 0x02 + s.obj (Obj.FXE_CAL_ACTIVE (k.i - 0x100)))

/-- The set that a swap installs: the shadow, but for the calendars in use, which stay (R176, R195). -/
def State.installed (s : State) : Map Nat :=
  (s.act.filter fun e => s.calendarInUse e.1).foldl (fun m e => Map.set (objDefault e.1) m e.1 e.2) (s.shd.filter fun e => !s.calendarInUse e.1)

/-- A branch that the swap makes a root of the source it had goes on with the epoch that its root's mapper has written (R260, R261). -/
def State.promote (s : State) (old : Map Nat) : State :=
  (connsOf s.act).foldl (fun t p =>
    let a := connAt old p.1
    if a.valid ∧ epType a.src = 8 ∧ epType p.2.src ≠ 8 ∧ cutOver old s.act p.1 = false then
      t.withPrism fun q => { q with
        epochs := Map.set {} q.epochs (Key.unit p.1) (Map.get {} s.prism.epochs (Key.unit (epRoot a.src)))
        poisonDue := if s.prism.poisonDue.contains (epRoot a.src) then q.poisonDue ++ [p.1] else q.poisonDue }
    else t) s

/-- The set swap at boundary E. -/
def State.takeSwap (s : State) (q : SwapReq) : State :=
  let old := s.act
  let starts := s.lineStarts
  let changed := linksChanged old s.shd
  let gen := (s.obj Obj.SHD_GENERATION + 1) % 2 ^ 32
  let points := (s.reg.filterMap fun e => if e.1.c = 0x52 ∧ e.1.m = 0x01 then some e.1.x else none) ++ s.pmPoints
  let profiles := points.dedup.filter fun p =>
    let k := Obj.PM_PROFILE (field (s.obj (Obj.PM_POINT p)) 23 19)
    decide (s.active k ≠ s.shadowed k)
  let remotes := (List.range 64).filter fun r => s.active (Obj.PG_REMOTE r) ≠ s.shadowed (Obj.PG_REMOTE r)
  let gone := (connsOf old).filter fun p => !(connAt s.shd p.1).valid
  let t := ({ s with act := s.installed }.withPrism fun p => { p with heldOld := p.held, held := p.heldShadow, connOld := old }).promote old
  let u := (((t.setObj Obj.SHD_GENERATION gen).setObj Obj.SHD_LAST_SWAP_TICK t.tick).setObj Obj.SHD_SWAP_EPOCH (t.tick / 32)).withShadow fun h => { h with
    swap := none, lastSwap := some t.now, expansionChanged := changed }
  let v := (starts.foldl (fun v p => v.startChange old p) u).dropFailed
  let w := v.swapGroups old
  let w := gone.foldl (fun w p => w.clear Df.fff p.1) w
  let w := w.withProt fun p => { p with remotes := remotes.foldl (fun m r => Map.set {} m (Key.unit r) { updated := w.now }) p.remotes }
  let x := ((w.swapReceive old).sdRestart profiles).swapCtPages.startSync
  x.raise Ev.SWAP [x.tick, gen, q.scheduled.toNat]

/-- A swap's boundary is the coming one. -/
def State.swapComes (s : State) : Bool :=
  match s.shadow.swap with
  | some q => q.due.any fun d => decide (d ≤ s.now + 1)
  | none => false

/-- A swap whose boundary is the current tick takes effect, or is deferred under a supply warning (R269, R270). -/
def State.swapBoundary (s : State) : State :=
  match s.shadow.swap with
  | none => s
  | some q =>
    if ¬ (match q.due with
      | some d => decide (d ≤ s.now)
      | none => false) = true then s
    else if s.keysHeld ∧ ¬ (q.scheduled = true ∧ expansionDiffers s.act s.shd = true) then
      let rail := ((List.range 12).find? fun r => bit (s.obj Obj.PWR_WARN_ACTIVE) r).getD 0
      let t := ((s.setObj Obj.SHD_STATE 3).bump Obj.SHD_DEFER_COUNT).withShadow fun h => { h with
        swap := some { q with due := none, deferredAt := some (q.deferredAt.getD s.now) } }
      t.raise Ev.SWAP_DEFERRED [rail, q.epoch]
    else s.takeSwap q

/-- The rails have recovered in this tick: a deferred swap takes its new boundary (R269). -/
def State.resumeSwap (s : State) : State :=
  match s.shadow.swap with
  | none => s
  | some q =>
    if q.due.isSome then s
    else
      let e := s.epochBoundary 2
      (s.setObj Obj.SHD_SWAP_EPOCH (e / 32)).withShadow fun h => { h with swap := some { q with due := some (s.now + (e - s.tick)), epoch := e / 32 } }

/-- A swap that has stayed DEFERRED for SHD_DEFER_LIMIT epochs is abandoned (R271). -/
def State.abandonSwap (s : State) : State :=
  match s.shadow.swap with
  | none => s
  | some q => match q.deferredAt with
    | none => s
    | some d =>
      if s.now < d + 32 * s.obj Obj.SHD_DEFER_LIMIT then s
      else ((s.setObj Obj.SHD_STATE q.back).lastEpoch.withShadow fun h => { h with swap := none }).raise Ev.SWAP_ABANDONED [(s.now - d) / 32]

end Sys2Proof.Machine

namespace Sys2Proof

open Sys2Proof.Machine

/-! ## Slot-move messages (R266) -/

def SmxMessage.op (m : SmxMessage) : Nat := field (bytesOf 16 m.bytes 0 1) 7 4
def SmxMessage.version (m : SmxMessage) : Nat := field (bytesOf 16 m.bytes 0 1) 3 0
def SmxMessage.move (m : SmxMessage) : Nat := bytesOf 16 m.bytes 1 1
def SmxMessage.mfc (m : SmxMessage) : Nat := bytesOf 16 m.bytes 2 2
def SmxMessage.tpn (m : SmxMessage) : Nat := bytesOf 16 m.bytes 4 2
def SmxMessage.fromSlot (m : SmxMessage) : Nat := field (bytesOf 16 m.bytes 6 2) 12 0
def SmxMessage.toSlot (m : SmxMessage) : Nat := field (bytesOf 16 m.bytes 8 2) 12 0
def SmxMessage.count (m : SmxMessage) : Nat := bytesOf 16 m.bytes 10 2
def SmxMessage.target (m : SmxMessage) : Nat := bytesOf 16 m.bytes 12 2
def SmxMessage.cause (m : SmxMessage) : Nat := bytesOf 16 m.bytes 14 1

/-- The CRC-8 over bytes 0 to 14. -/
def SmxMessage.crcOk (m : SmxMessage) : Bool := decide (crc 8 0x07 0 120 (bytesOf 16 m.bytes 0 15) = bytesOf 16 m.bytes 15 1)

/-- A message in an odd place answers for the receiver's transmit direction. -/
def SmxMessage.answer (m : SmxMessage) : Bool := decide (m.place.val % 2 = 1)

end Sys2Proof

namespace Sys2Proof.Machine

/-- The 16 bytes of a message of version 1. -/
def smxBytes (op move mfc tpn fromSlot toSlot count target cause : Nat) : Nat :=
  let body := packBytes [(1, op % 16 * 16 + 1), (1, move), (2, mfc), (2, tpn), (2, fromSlot % 2 ^ 13), (2, toSlot % 2 ^ 13), (2, count), (2, target), (1, cause)]
  body * 256 + crc 8 0x07 0 120 body

/-! ## Line changes with the far end (R265 to R268) -/

def State.finishChange (s : State) (e x : Nat) (c : LineChange) : State :=
  (s.freeChange e x).raise Ev.LINE_CHG_DONE [e, c.conn, c.kind]

def State.failChange (s : State) (e x : Nat) (c : LineChange) (cause : Nat) : State :=
  (s.setChange e x { c with state := 3, cause := cause, acked := false, commits := 0 }).raise Ev.LINE_CHG_FAIL [e, c.conn, c.kind, cause]

def State.answer (s : State) (e op move target cause : Nat) : State :=
  s.withShadow fun h => { h with answers := Map.set none h.answers (Key.unit e) (some ⟨op, move, target, cause⟩) }

/-- The answer to an LCR message (R265). -/
def State.lcrAnswer (s : State) (e op target cause : Nat) : State :=
  s.withShadow fun h => { h with lcrAnswers := Map.set none h.lcrAnswers (Key.unit e) (some ⟨op, 0, target, cause⟩) }

/-- What the receiver answers to a REQ (R267), with the entry it acknowledges. -/
def State.judgeRequest (s : State) (e : Nat) (m : SmxMessage) : Nat × Nat × Option (Nat × LineChange) :=
  let conns := (connsOf s.act).filter fun p => s.onEngine e p.2.src && decide (p.2.srcTpn = m.tpn)
  match conns with
  | [] => (4, 1, none)
  | (n, _) :: _ =>
    match (s.changesOf e).find? fun x => decide (x.2.conn = n) && decide (x.2.side = 0) && decide (x.2.kind = 0) && decide (x.2.state ≠ 3) &&
        decide (x.2.begins ≤ s.now) with
    | some (i, c) =>
      if c.oldFirst = m.fromSlot ∧ c.newFirst = m.toSlot ∧ c.newCount = m.count then (2, 0, some (i, c)) else (4, 2, none)
    | none =>
      let used := (connsOf s.act).any fun p => decide (p.1 ≠ n) && s.onEngine e p.2.src && overlaps (epSlots p.2.src) (m.toSlot, m.count)
      if used then (4, 3, none) else if 16 ≤ (s.changesOf e).length then (4, 4, none) else (3, 0, none)

/-- The own transmit moves of an engine, each from its first tick on (R255, R267). -/
def State.ownMoves (s : State) (e : Nat) : List (Nat × LineChange) :=
  (s.changesOf e).filter fun p => decide (p.2.side = 1) && decide (p.2.kind = 0) && decide (p.2.state ≠ 3) && decide (p.2.begins ≤ s.now)

/-- A received message (R267, R268). -/
def State.receiveSmx (s : State) (e : Nat) (m : SmxMessage) : State :=
  if m.answer then
    match (s.ownMoves e).find? fun p => decide (p.2.move = m.move) with
    | none => s
    | some (i, c) =>
      if m.op = 2 ∧ m.target = c.target ∧ c.state = 1 then s.setChange e i { c with acked := true }
      else if m.op = 4 then s.failChange e i c (if m.cause = 0 then 2 else min m.cause 4)
      else s
  else if m.op = 1 then
    match s.judgeRequest e m with
    | (op, cause, entry) =>
      let t := match entry with
        | some (i, c) => s.setChange e i { c with acked := true, move := m.move, target := m.target, commits := if c.target = m.target then c.commits else 0 }
        | none => s
      t.answer e op m.move m.target cause
  else if m.op = 5 then
    match (s.changesOf e).find? fun p => decide (p.2.side = 0) && decide (p.2.kind = 0) && decide (p.2.state ≠ 3) && p.2.acked && decide (p.2.move = m.move) with
    | some (i, c) =>
      if (m.mfc + 1) % 65536 = c.target % 65536 then
        s.setChange e i { c with commits := c.commits + 1, state := if 2 ≤ c.commits + 1 then 2 else c.state }
      else s
    | none => s
  else s

/-- The request or commit that the next even message of an engine carries (R267). DESIGN CHOICE (log entry 186): of several moves, each message takes
another. -/
def State.smxRequest (s : State) (e : Nat) : Nat :=
  let mfc := Map.get 0 s.shadow.multiframe (Key.unit e)
  let moves := s.ownMoves e
  match moves[ceilDiv (s.engine e).tx.started 16 % max 1 moves.length]? with
  | some (_, c) => smxBytes (if c.state = 2 then 5 else 1) c.move mfc c.tpn c.oldFirst c.newFirst c.newCount c.target 0
  | none => smxBytes 0 0 mfc 0 0 0 0 0 0

/-- The answer that its next odd message carries (R267): the one owed to the last request, with MOVE and T as they came; the other fields are 0 (log
entry 186). -/
def State.smxAnswer (s : State) (e : Nat) : Nat :=
  let mfc := Map.get 0 s.shadow.multiframe (Key.unit e)
  match Map.get none s.shadow.answers (Key.unit e) with
  | some a => smxBytes a.op a.move mfc 0 0 0 0 a.target a.cause
  | none => smxBytes 0 0 mfc 0 0 0 0 0 0

/-- The APS values that each engine's frames of this tick carry (R296): those of the evaluation of the tick before. -/
def State.prepareAps (s : State) : State :=
  (List.range 4).foldl (fun t e => t.withEngine e fun r => { r with tx := { r.tx with
    aps := ((connsOf t.egressSet).filter fun p => t.onEngine e p.2.dst).flatMap fun p =>
      (t.apsCarried t.egressSet p.2.dst).map fun a => (p.1, a.1, a.2) } }) s

/-- The messages that may begin in this tick (R266): an engine, or the first of its group, sends them while it takes part in the exchange. -/
def State.prepareSlotMoves (s : State) : State :=
  (List.range 4).foldl (fun t e => t.withEngine e fun r => { r with tx := { r.tx with
    smxNext := if t.linkOf e = e ∧ t.obj (Obj.OH_FFF_RX_ENABLE e) = 1 then [t.smxRequest e, t.smxAnswer e] else [] } }) s

/-- An answer whose message has begun in this tick is no longer owed (R266). -/
def State.answersSent (s : State) : State :=
  (List.range 4).foldl (fun t e =>
    let x := (t.engine e).tx
    if x.smxNext ≠ [] ∧ (x.smxSent.drop 1).any (fun p => decide (p.1 % 16 = 8)) = true then
      t.withShadow fun h => { h with answers := Map.set none h.answers (Key.unit e) none }
    else t) s

/-- A multiframe begins (R267): of the own count, or as received. -/
def State.beginMultiframe (s : State) (e : Nat) (own : Bool) (count : Nat) : State :=
  if own then
    let t := s.withShadow fun h => { h with multiframe := Map.set 0 h.multiframe (Key.unit e) (count % 65536) }
    (t.ownMoves e).foldl (fun t p =>
      let c := p.2
      if c.state = 2 ∧ c.target = count % 65536 then t.finishChange e p.1 c
      else if c.state = 1 ∧ c.target = (count + 1) % 65536 then
        if c.acked then t.setChange e p.1 { c with state := 2 }
        else t.setChange e p.1 { c with target := (count + t.obj (Obj.SMX_LEAD e)) % 65536 }
      else t) t
  else
    ((s.changesOf e).filter fun p => decide (p.2.side = 0) && decide (p.2.kind = 0) && decide (p.2.state ≠ 3)).foldl (fun t p =>
      if 2 ≤ p.2.commits ∧ p.2.target % 65536 = count % 65536 then t.finishChange e p.1 p.2 else t) s

/-- The slots that a resize adds or removes. -/
def resizeSlots (c : LineChange) : Bool × Nat × Nat :=
  if c.oldCount ≤ c.newCount then (true, c.oldFirst + c.oldCount, c.newCount - c.oldCount)
  else (false, c.newFirst + c.newCount, c.oldCount - c.newCount)

/-! ## Writes of class 0x32 -/

def acceptShadowSet : Accept := fun k v s =>
  if k.i = 0 then
    match k.m with
    | 0x01 => let r := s.requestSwap 1 none; (r.1, r.2.2)
    | 0x02 => let r := s.requestSwap 1 (some v.v); (r.1, r.2.2)
    | 0x03 => s.cancelSwap
    | 0x0C => s.revert
    | _ => acceptStage k v s
  else if k.m = 0x02 then
    let e := s.linkOf (k.i - 0x100)
    match s.change e v.v with
    | some c =>
      if c.state = 3 ∧ v.v < 16 then
        (.ok, s.setChange e v.v { c with
          state := 1, cause := 0, acked := false, commits := 0
          target := (Map.get 0 s.shadow.multiframe (Key.unit e) + s.obj (Obj.SMX_LEAD e)) % 65536 })
      else (.range, s)
    | none => (.range, s)
  else acceptStage k v s

/-! ## Meanings -/

/-- SWAP (R248, R251, R253). -/
def execSwap (rq : Rq) (byObject : Bool) (s : State) : Out := .next (serveSwap Op.swap byObject none rq s)

/-- SWAP_AT (R252, R253). -/
def execSwapAt (rq : Rq) (byObject : Bool) (epoch : Nat) (s : State) : Out :=
  .next (serveSwap Op.swapAt byObject (some (epoch % 2 ^ 64)) rq s)

/-- PRISM_SWAP_CANCEL (R254). -/
def execPrismSwapCancel (rq : Rq) (s : State) : Out :=
  .next (serveWrite acceptShadowSet rq Obj.PRISM_SWAP_CANCEL ⟨2, 1⟩ s)

/-- SHD_REVERT (R250). -/
def execShdRevert (rq : Rq) (s : State) : Out := .next (serveWrite acceptShadowSet rq Obj.SHD_REVERT ⟨2, 1⟩ s)

/-- SWAP_ABANDON (R271). -/
def execSwapAbandon (s : State) : Out := .next (s.atBoundary State.abandonSwap)

/-- SYNC_DONE (R258). -/
def execSyncDone (s : State) : Out := .next (s.atBoundary State.syncEnd)

/-- BLOCK_REGENERATE (R259): the Slot Compiler begins to regenerate a block that the copy engine cannot read; it is in place in both banks after the
operand's ticks, 20 at most, and D grows by as many. -/
def execBlockRegenerate (page : Fin 32) (block : Fin 245) (ticks : Nat) (s : State) : Out :=
  let b := 245 * (page : Nat) + block
  let d := max 1 (min ticks 20)
  match s.shadow.sync with
  | some y =>
    if s.cmBadBlocks.contains b ∧ y.blocks.contains b ∧ ¬ y.copied.contains b ∧ ¬ (y.writing.any fun w => decide (w.1 = b)) ∧ y.start + 4 ≤ s.now then
      .next (s.withShadow fun h => { h with sync := some { y with
        length := y.length + d, regenerated := y.regenerated + 1, writing := y.writing ++ [(b, s.now + d)] } })
    else .next s
  | none => .next s

/-- SMX_MESSAGE_RECEIVE (R266 to R268): a message with a bad CRC or another version is not read. -/
def execSmxMessageReceive (e : Fin 4) (m : SmxMessage) (s : State) : Out :=
  if m.crcOk = true ∧ m.version = 1 ∧ s.obj (Obj.OH_FFF_RX_ENABLE e) = 1 then .next (s.receiveSmx (s.linkOf e) m) else .next s

/-- SMX_TARGET_MULTIFRAME (R267). -/
def execSmxTargetMultiframe (e : Fin 4) (own : Bool) (count : Nat) (s : State) : Out := .next (s.beginMultiframe (s.linkOf e) own count)

/-- LCR_MESSAGE_RECEIVE (R265, R268): an ADD or REMOVE that names exactly the slots of a pending resize is acknowledged. -/
def execLcrMessageReceive (e : Fin 4) (m : LcrMessage) (s : State) : Out :=
  let g := s.linkOf e
  let mine := (s.changesOf g).filter fun p => decide (p.2.kind = 1) && decide (p.2.tpn = m.tpn) && decide (p.2.state ≠ 3) && decide (p.2.begins ≤ s.now)
  if m.nack then
    match mine with
    | (i, c) :: _ => .next (s.failChange g i c 6)
    | [] => .next s
  else match mine.find? fun p => decide (resizeSlots p.2 = (m.add, m.first, m.count)) with
    | some (i, c) => .next ((s.setChange g i { c with acked := true, state := 2, target := m.multiframe }).lcrAnswer g 2 m.multiframe 0)
    | none => .next (s.lcrAnswer g 4 m.multiframe 2)

/-- LCR_RESIZE_MULTIFRAME (R264, R265). -/
def execLcrResizeMultiframe (e : Fin 4) (index : Fin 16) (count : Nat) (s : State) : Out :=
  let g := s.linkOf e
  match s.change g index with
  | some c => if c.kind = 1 ∧ c.acked = true ∧ c.state ≠ 3 ∧ c.target = count then .next (s.finishChange g index c) else .next s
  | none => .next s

/-- LINE_CHG_TIMEOUT (R268). -/
def execLineChgTimeout (e : Fin 4) (index : Fin 16) (multiframes : Nat) (s : State) : Out :=
  let g := s.linkOf e
  match s.change g index with
  | some c => if c.state ≠ 3 ∧ s.obj (Obj.SMX_TIMEOUT g) ≤ multiframes then .next (s.failChange g index c 5) else .next s
  | none => .next s

/-- LINE_CHG_RETRY (R268). -/
def execLineChgRetry (rq : Rq) (e : Fin 4) (val : Val) (s : State) : Out :=
  .next (serveWrite acceptShadowSet rq (Obj.LINE_CHG_RETRY e) val s)

end Sys2Proof.Machine
end

