-- ==== Sys2Proof/Machine/TimeBase.lean ====
section
/-! DEFINITION. The tick counter and bonding: the meanings of chapter 01 that need no other unit (R23, R24, R30, R44, R45). -/

namespace Sys2Proof.Machine

/-- A SWAP_AT waits (R23, R24, R253). -/
def State.swapAtPending (s : State) : Bool :=
  match s.shadow.swap with
  | some q => q.scheduled
  | none => false

/-- The engines whose group differs between two values of TB_BOND_CFG, with their new group. -/
def bondChanged (old new : Nat) : List Nat := [0, 1, 2, 3].filter fun e => bondOf old e ≠ bondOf new e

/-- R45: every engine that changes group carries no connection and shares the mode of its new group. -/
def State.bondAllowed (s : State) (v : Nat) : Bool :=
  (bondChanged (s.obj Obj.TB_BOND_CFG) v).all fun e =>
    !s.carries s.act e && (bondOf v e).all fun i => decide (s.mode i = s.mode e)

/-- Writes of class 0x01 (R23, R45). -/
def acceptTimeBase : Accept := fun k v s =>
  if k.m = 0x05 then
    if v.v % 32 ≠ 0 then (.range, s)
    else if s.swapAtPending then (.precond, s)
    else if s.load.isSome then (.busy, s)
    else (.ok, { s with load := some (v.v, s.epochBoundaryAt 2) })
  else if k.m = 0x20 then
    if ¬ s.bondAllowed v.v then (.precond, s)
    else
      let b := s.epochBoundaryAt 2
      let rest := s.agenda.filter fun p => match p.due with
        | .bond _ => decide (p.boundary ≠ b)
        | _ => true
      (.ok, { s with agenda := rest ++ [⟨b, .bond v.v⟩] })
  else acceptStage k v s

/-- The counter takes a new value (R23, R24). -/
def State.loadCounter (s : State) (v : Nat) : State := { s with tick := v }.raise Ev.TICK_LOADED [s.tick, v]

/-- At a boundary: the load that is due, and the automatic one, which waits while a SWAP_AT does (R23, R24, R28 step 2). DESIGN CHOICE (log entry
210): where both are due the host's value is loaded, and the automatic one dropped. -/
def State.applyLoad (s : State) : State :=
  let auto := fun (t : State) => match t.autoLoad with
    | some (v, due) => if due ≤ t.now ∧ ¬ t.swapAtPending then { t with autoLoad := none }.loadCounter v else t
    | none => t
  match s.load with
  | some (v, due) => if due ≤ s.now then { s with load := none, autoLoad := none }.loadCounter v else auto s
  | none => auto s

/-- A new grouping takes effect; the engines concerned acquire afresh (R45, R107). -/
def State.applyBond (s : State) (v : Nat) : State :=
  let changed := bondChanged (s.obj Obj.TB_BOND_CFG) v
  let t := (bondGroups (s.obj Obj.TB_BOND_CFG)).foldl (fun t g => if (bondGroups v).contains g then t else t.clear Df.loa (bondPoint g)) s
  let u := changed.foldl (fun u e => u.unbond e) t
  changed.foldl State.freshSignal (u.setObj Obj.TB_BOND_CFG v)

/-- TB_TICK_LOAD write (R23). -/
def execTbTickLoad (rq : Rq) (val : Val) (s : State) : Out := .next (serveWrite acceptTimeBase rq Obj.TB_TICK_LOAD val s)

/-- TB_BOND_CFG write (R45). -/
def execTbBondCfgWrite (rq : Rq) (val : Val) (s : State) : Out := .next (serveWrite acceptTimeBase rq Obj.TB_BOND_CFG val s)

def isBond : Due → Bool
  | .bond _ => true
  | _ => false

def runBond : Due → State → State
  | .bond v, s => s.applyBond v
  | _, s => s

/-- DTICKOVR_CLEAR (R30): the 32nd tick after the last overrun completes without one; the command says so of the whole tick (R571; log entry
146). -/
def execDtickovrClear (s : State) : Out :=
  match s.lastOverrun with
  | some o => if o + 32 ≤ s.now then .next ({ s with lastOverrun := none }.clear Df.tickOvr 0) else .next s
  | none => .next s

end Sys2Proof.Machine
end

