-- ==== Sys2Proof/Machine/Views.lean ====
section
/-! DEFINITION. What a READ of each object returns (R247, R413 to R415): the shadow copy of a WS object, the values that the block forms
from its state, and else the stored value. -/

namespace Sys2Proof.Machine

def asciiBytes (name : String) : Nat := name.toList.foldl (fun v c => v * 256 + c.toNat) 0

/-- A name in a field of `w` bytes, padded with zeros. -/
def paddedName (w : Nat) (name : String) : Nat := asciiBytes name * 256 ^ (w - name.length)

/-! ## Time base, optics, DSP, FEC, framing -/

/-- TB_STATE (R24, R26, R354): in SLEWING and LOCKED it is ALIGNED once the counter holds the time of day under R24 (DEDUCED, log
entry 181). -/
def State.tbState (s : State) : Nat :=
  match s.obj (Obj.TM_DP_STATE 0) with
  | 2 => if s.counterAligned then 2 else 1
  | 3 => if s.counterAligned then 2 else 1
  | 4 => 3
  | _ => 0

/-- CNV_SAMPLE_RATE, kS/s (R60). -/
def State.sampleRateView (s : State) (e : Nat) : Nat := if s.obj (Obj.CNV_STATE e) = 0 then 0 else sampleRate (s.mode e)

/-- FEC_STATE and FEC_CODE (R126, R133, R134). -/
def State.fecState (s : State) (e : Nat) : Nat :=
  if s.mode e = 0 ∨ ¬ s.domOn e then 0
  else if s.poolCollapsed e then 3
  else if s.declared Df.decDeg e then 2
  else 1

/-- FRM_N: n of the OTUCn carried, over the bonded group (R141, R150). -/
def State.frmN (s : State) (e : Nat) : Nat := ((s.bond e).map fun i => modeN (s.mode i)).sum

/-- LDSP_INVALID_LEFT (R115) and LDSP_STORE_AGE (R114). -/
def State.invalidLeft (s : State) (e : Nat) : Nat :=
  if s.receiver e = 7 then invalidTicks (s.mode e) - (s.now - (s.engine e).confirmedAt) else 0

def State.storeAge (s : State) (e : Nat) : Nat :=
  match (s.engine e).stored with
  | some x => sat32 (s.now - x.since)
  | none => 0xFFFFFFFF

def State.ohpLoad (s : State) (p : Nat) : Nat :=
  s.portLoad ((List.range 64).map fun x => s.obj (Obj.OH_GCC_ROUTE x)) p

/-! ## Prism -/

/-- PRISM_SLICE_STATE (R240, R243). -/
def State.sliceState (s : State) (k : Nat) : Nat :=
  let p := s.prism
  if p.tests.any (fun t => t.1 = k) ∨ p.rejoin.any (fun t => t.1 = k) then 3
  else if k = 16 then (if p.fenced.contains 16 then (if p.xorLost then 2 else 1) else if p.carried.isSome then 4 else 0)
  else if ¬ p.fenced.contains k then 0
  else if p.carried = some k then 1
  else 2

/-- Positions held on a side of the active set. -/
def positionsHeld (held : Map Held) (out : Bool) : Nat :=
  (held.flatMap fun e => (e.2.side out).map (· / 32)).dedup.length

/-- PRISM_SLICE_LOAD: the largest count of active entries of a page sourced from one data slice (R233). -/
def State.sliceLoad (s : State) (phase : Nat) : Nat :=
  let es := (pageEntries s.prism.held phase).filter fun e => decide (field e.2 22 21 = 0)
  (List.range 16).foldl (fun m k => max m (es.countP fun e => decide (field e.2 19 0 % 16 = k))) 0

/-- A connection with an input position in a lost slice (R239), or with its entry on an uncorrectable page (R465). -/
def State.connDegraded (s : State) (n : Nat) : Bool :=
  let h := Map.get {} s.prism.held (Key.unit n)
  h.inp.any (fun u => s.prism.lostSlices.contains (u / 32 % 16)) ||
    (s.page 1 (ctPage false false n)).bad || (s.page 1 (ctPage true false n)).bad

/-- PRISM_CONN_STATE (R244). -/
def State.connState (s : State) (n : Nat) : Nat :=
  let a := s.active (Obj.PRISM_CONN n)
  let b := s.shadowed (Obj.PRISM_CONN n)
  let code := if (decodeConn a).valid then (if a = b then 2 else 3) else if (decodeConn b).valid then 1 else 0
  code + (if (decodeConn a).valid ∧ s.connDegraded n then 4 else 0)

/-- An entry of PRISM_IN_OWNER or PRISM_OUT_OWNER (R244): a class W position holds its 32 micro-slots. -/
def ownerEntry (held : Map Held) (out : Bool) (u : Nat) : Nat :=
  let holds := fun (h : Held) (v : Nat) => if h.classM then decide (v = u) else decide (v / 32 = u / 32)
  match held.find? fun e => (e.2.side out).any (holds e.2) with
  | none => 0
  | some e =>
    let header := ((e.2.side out).head?.map (holds e.2)).getD false
    2 ^ 31 + header.toNat * 2 ^ 30 + e.2.root

/-! ## Protection -/

/-- PG_STATE (R286, R312). -/
def State.pgState (s : State) (g : Nat) : Nat :=
  let c := groupAt s.act g
  let r := s.pgRun g
  if ¬ c.valid then 0
  else r.request % 16 * 2 ^ 28 + r.far % 16 * 2 ^ 24 + r.fop % 4 * 2 ^ 22 + r.selector.toNat * 2 ^ 21 +
    (decide (c.type = 5) && r.bridge).toNat * 2 ^ 20 + r.holdFrom.isSome.toNat * 2 ^ 19 + r.wtrFrom.isSome.toNat * 2 ^ 18 +
    r.workingSf.toNat * 2 ^ 17 + r.workingSd.toNat * 2 ^ 16 + r.protectSf.toNat * 2 ^ 15 + r.protectSd.toNat * 2 ^ 14 +
    r.served % 16 * 2 ^ 10

/-- PG_TIMER_LEFT. -/
def State.pgTimerLeft (s : State) (g : Nat) : Nat :=
  let c := groupAt s.act g
  let r := s.pgRun g
  match r.holdFrom, r.wtrFrom with
  | some t, _ => t + c.holdOff - s.now
  | none, some t => t + c.wtr - s.now
  | none, none => 0

/-! ## Performance monitoring and Loupe -/

/-- PM_CUR, PM_HIST_15 and PM_HIST_24 (R401 to R404): index by point and bin. -/
def State.pmCur (s : State) (x : Nat) : Nat :=
  let p := x / 2
  if s.pmPoints.contains p then binRecord ((s.pmPoint p).bins (x % 2 = 1)).cur false (!(s.pmShape p).2) (decide (p ≤ 4)) else 0

def State.pmHistory (s : State) (day : Bool) (x : Nat) : Nat :=
  let depth := if day then 7 else 96
  (((s.pmPoint (x / depth)).bins day).history[x % depth]?).getD 0

/-! ## Events and alarms (R434, R436) -/

/-- EV_CATALOGUE. -/
def catalogueEntry (x : Nat) : Nat :=
  match evRows[x]? with
  | some r => packBytes [(2, r.code), (2, r.widths.sum), (28, paddedName 28 r.name)]
  | none => match defectNames[x - evRows.length]? with
    | some name => packBytes [(2, 0x8001 + (x - evRows.length)), (2, 4), (28, paddedName 28 name)]
    | none => 0

/-- ALM_ACTIVE: the declared defects in ascending code and instance; the table holds the 8,192 lowest. -/
def State.alarm (s : State) (x : Nat) : Nat :=
  match s.defects[x]? with
  | some e => packBytes [(2, e.1.c), (2, 0), (4, e.1.i), (8, e.2 - 1)]
  | none => 0

/-! ## Stored data, fault injection, power -/

/-- SIO_SPARES_FREE and SIO_STATE (R456, R462): a low or exhausted region shows over RECODING. -/
def State.sparesFree (s : State) (g : Nat) : Nat := 64 - s.stores.spares.countP (fun n => decide (n / 64 = g))

def sparesCode (free : Nat) : Nat := if free = 0 then 3 else if free ≤ 8 then 2 else 0

def State.sioState (s : State) (g : Nat) : Nat :=
  let c := sparesCode (s.sparesFree g)
  if c ≠ 0 then c else if Map.get 0 s.stores.recode (Key.unit g) ≠ 0 then 1 else 0

/-- D2D_STATE (R471, R478): DOWN while no domain of the die beyond the link is On. -/
def linkDomains (l : Nat) : List Nat := if l < 4 then [l] else (List.range 4).map fun i => 4 * (l - 3) + i

def State.d2dState (s : State) (l : Nat) : Nat :=
  if ¬ (linkDomains l).any s.domOn then 0
  else if s.stores.short.any (fun g => g.1 = l) then 3
  else if (List.range 224).any (fun x => bit (s.obj (Obj.D2D_SPARE_MAP l x)) 15) then 2
  else 1

def State.fiLeft (s : State) : Nat :=
  if s.obj Obj.FI_STATE = 2 then s.inject.armedAt + s.obj Obj.FI_DURATION - s.now else 0

/-! ## The value a READ returns -/

def State.view20 (s : State) (k : Key) : Nat :=
  match k.c, k.m with
  | 0x01, 0x01 => s.tick
  | 0x01, 0x02 => s.epoch
  | 0x01, 0x03 => s.tod / 1000000000 * 2 ^ 30 + s.tod % 1000000000
  | 0x01, 0x06 => s.tbState
  | 0x10, 0x11 => s.sampleRateView k.i
  | 0x10, 0x15 => imageRead (s.obj k) k.i s.tick (Config.dieTemperature k.i s.now) (s.obj Obj.DEV_ID_DIGEST)
  | 0x11, 0x28 => s.invalidLeft k.i
  | 0x11, 0x29 => s.storeAge k.i
  | 0x12, 0x01 => s.fecState k.i
  | 0x12, 0x02 => modeCode (s.mode k.i)
  | 0x12, 0x05 => if s.domOn k.i then s.obj k else 0
  | 0x12, 0x06 => if s.domOn k.i then s.cores k.i else 0
  | 0x13, 0x02 => if k.i < 4 then s.frmN k.i else if 0x100 ≤ k.i then s.ohpLoad (k.i - 0x100) else s.obj k
  | 0x13, 0x03 => if k.i < 4 then slotsOf (s.frmN k.i) else s.obj k
  | 0x14, 0x02 => if k.i < 4 then s.secState k.i k.x else s.obj k
  | 0x14, 0x03 => if k.i < 4 then s.secRxEpoch k.i k.x else s.obj k
  | 0x14, 0x0F => s.linkAge k.i
  | _, _ => s.obj k

def State.view30 (s : State) (k : Key) : Nat :=
  match k.c, k.m with
  | 0x30, 0x02 => s.sliceState k.x
  | 0x30, 0x10 => positionsHeld s.prism.held false
  | 0x30, 0x11 => positionsHeld s.prism.held true
  | 0x30, 0x12 => s.sliceLoad k.x
  | 0x31, 0x03 => s.active (Obj.PRISM_CONN k.x)
  | 0x31, 0x08 => s.prism.dirty.length
  | 0x31, 0x09 => s.connState k.x
  | 0x31, 0x10 => ownerEntry (if k.i = 0 then s.prism.held else s.prism.heldShadow) false k.x
  | 0x31, 0x11 => ownerEntry (if k.i = 0 then s.prism.held else s.prism.heldShadow) true k.x
  | 0x32, 0x01 => if 0x100 ≤ k.i then s.lineChg (k.i - 0x100) k.x else s.obj k
  | 0x32, 0x06 => if 1 ≤ s.obj Obj.SHD_STATE ∧ s.obj Obj.SHD_STATE ≤ 3 then (s.obj Obj.SHD_GENERATION + 1) % 2 ^ 32
    else s.obj Obj.SHD_GENERATION
  | 0x32, 0x0A => s.syncLeft
  | 0x33, 0x10 => s.pgState k.x
  | 0x33, 0x11 => s.pgTimerLeft k.x
  | 0x33, 0x15 => Map.get 0 s.prot.records (Key.unit k.x)
  | 0x34, 0x09 => s.mmReserved s.act
  | 0x34, 0x0A => s.mmRateUsed s.act / 1000000
  | _, _ => s.obj k

def State.view40 (s : State) (k : Key) : Nat :=
  match k.c, k.m with
  | 0x40, 0x09 => if k.i < 4 then s.dpLevel k.i else s.obj k
  | 0x40, 0x0B => if k.i = 0xFF then s.todTrace.toNat else s.obj k
  | 0x40, 0x0E => if k.i < 4 then encode 8 (s.phaseLeft k.i) else s.obj k
  | 0x50, 0x0C => if k.i = 0xFF then ((loupeUnits s.loupe.records)[k.x]?).getD 0 else s.obj k
  | 0x51, 0x01 => s.hkInput k.i
  | 0x51, 0x0A => s.hkDelay k.i
  | 0x51, 0x0B => s.hkInvalid k.i
  | 0x52, 0x05 => s.pmCur k.x
  | 0x52, 0x06 => s.pmHistory false k.x
  | 0x52, 0x07 => s.pmHistory true k.x
  | 0x60, 0x02 => if k.i = 1 then s.mc.node else s.obj k
  | 0x61, 0x01 => catalogueEntry k.x
  | 0x61, 0x04 => s.alarm k.x
  | 0x61, 0x05 => s.defects.length
  | 0x05, 0x01 => if 0x100 ≤ k.i ∧ k.i < 0x200 then s.d2dState (k.i - 0x100) else s.obj k
  | 0x05, 0x02 => if k.i < 8 then s.sioState k.i else s.obj k
  | 0x05, 0x04 => if k.i = 0x200 then s.fiLeft else s.obj k
  | 0x05, 0x0A => s.sparesFree k.i
  | _, _ => s.obj k

/-- The value of an object or element as a READ returns it. -/
def State.view (s : State) (r : ObjRow) (k : Key) : Nat :=
  if r.acc = .ws then (if s.obj Obj.SHD_STATE = 4 then s.active k else s.shadowed k)
  else if k.c < 0x10 ∧ k.c ≠ 0x01 ∧ k.c ≠ 0x05 then s.obj k
  else if k.c = 0x05 ∨ 0x40 ≤ k.c then s.view40 k
  else if k.c < 0x30 then s.view20 k
  else s.view30 k

/-- The element lies on a page that is uncorrectable (R463). -/
def State.pageLost (s : State) (k : Key) : Bool :=
  decide (k.c = 0x31) && (decide (k.m ≤ 2) && (s.page 1 (ctPage true (k.m = 2) k.x)).bad ||
    decide (k.m = 3) && (s.page 1 (ctPage false false k.x)).bad)

end Sys2Proof.Machine
end

