-- ==== Sys2Proof/Machine/Stores.lean ====
section
/-! DEFINITION. Stored data integrity: corrections, the scrubber, repairs, uncorrectable pages and the die-to-die links (R454 to R471). -/

namespace Sys2Proof.Machine

/-! ## Regions and strengths (R454 to R456) -/

def regionPages (g : Nat) : Nat := [15680, 768, 8, 64, 64, 64, 64, 8192].getD g 0

/-- Passes of the scrubber until a new strength is everywhere: 2 while the pass that follows the write has not begun. -/
def State.recoding (s : State) (g : Nat) : Nat := Map.get 0 s.stores.recode (Key.unit g)

/-- The strength with which a page is encoded. -/
def State.strength (s : State) (g page : Nat) : Nat :=
  let all := Map.get 0 s.stores.encoded (Key.unit g)
  (s.page g page).strength.getD (if all = 0 then sioResetT g else all)

/-- A write of SIO_T takes effect: every page is rewritten in the pass that follows (R456). -/
def State.commitStrength (s : State) (g : Nat) : State :=
  s.withStores fun y => { y with recode := Map.set 0 y.recode (Key.unit g) 2 }

/-! ## Corrections (R457, R458, R460 to R462) -/

/-- One counted bit in the leaky bucket. -/
def State.fillBucket (s : State) (g : Nat) : State :=
  let t := s.bump (Obj.SIO_CORR_BITS g)
  let level := t.obj (Obj.SIO_BUCKET g)
  if level < t.obj (Obj.SIO_BUCKET_SIZE g) then t.setObj (Obj.SIO_BUCKET g) (level + 1)
  else if t.stores.full.contains g then t
  else (t.withStores fun y => { y with full := y.full ++ [g] }).raise Ev.ECC_BUCKET [g, t.obj (Obj.SIO_CORR_BITS g)]

/-- The bucket of a region leaks where SIO_BUCKET_LEAK ticks have gone by; below half it is re-armed. -/
def State.leak (s : State) (g : Nat) : State :=
  if Map.get 0 s.stores.leakAt (Key.unit g) + s.obj (Obj.SIO_BUCKET_LEAK g) ≤ s.now then
    let level := s.obj (Obj.SIO_BUCKET g) - 1
    (s.setObj (Obj.SIO_BUCKET g) level).withStores fun y => { y with
      leakAt := Map.set 0 y.leakAt (Key.unit g) s.now
      full := if 2 * level ≤ s.obj (Obj.SIO_BUCKET_SIZE g) then y.full.filter (· ≠ g) else y.full }
  else s

/-- The lowest free spare page of a region is taken. -/
def State.takeSpare (s : State) (g : Nat) : Option Nat × State :=
  match (List.range 64).find? fun n => !s.stores.spares.contains (64 * g + n) with
  | none => (none, s)
  | some n =>
    let t := s.withStores fun y => { y with spares := sortNat (y.spares ++ [64 * g + n]) }
    let free := t.sparesFree g
    (some n, if sparesCode (s.sparesFree g) = sparesCode free then t else t.raise Ev.SPARES [g, free])

/-- A page becomes weak, and its copy into a spare starts; in an exhausted region it stays in place. -/
def State.weaken (s : State) (g page : Nat) : State :=
  let (spare, t) := s.takeSpare g
  t.setPage g page { s.page g page with weak := true, spare := spare, copying := spare.isSome, copyAt := s.now, carried := [] }

/-- A reader corrects bits of a page: until the page is written back, further corrections are used and not counted; a bit that was written back and
recurs makes the page weak (R457, R460). -/
def State.correct (s : State) (g page : Nat) (bits : List Nat) : State :=
  let p := s.page g page
  let u := if p.queued then s.setPage g page { p with wrong := bits, found := (p.found ++ bits).dedup }
    else (bits.foldl (fun (t : State) _ => t.fillBucket g) s).setPage g page { p with wrong := bits, queued := true, queuedAt := s.now, found := bits }
  if (p.written.any fun w => bits.contains w.1 && decide (w.2 < 3)) ∧ ¬ p.weak then u.weaken g page else u

/-- The scrubber writes a page back; stuck bits invert again (R457, R459, R475). -/
def State.writeBack (s : State) (g page : Nat) : State :=
  let p := s.page g page
  s.setPage g page { p with
    queued := false, found := [], wrong := p.stuck
    written := p.found.map (fun b => (b, 0)) ++ p.written.filter fun w => !p.found.contains w.1
    strength := if s.recoding g = 0 then p.strength else some (s.obj (Obj.SIO_T g)) }

/-- A page's pointer moves to its spare, which holds the corrected data and what an injection inverted in the copy (R461, R477). -/
def State.moveToSpare (s : State) (g page spare : Nat) (uncorrectable : Bool) : State :=
  let p := s.page g page
  let t := s.setPage g page { strength := p.strength, wrong := p.carried }
  let log := 2 ^ 31 + uncorrectable.toNat * 2 ^ 30 + page % 2 ^ 24
  ((t.setObj (Obj.SIO_WEAK_LOG g spare) log).bump (Obj.SIO_REPAIRED g)).raise Ev.PAGE_REPAIRED [g, page, spare]

/-! ## Uncorrectable pages (R463 to R467) -/

/-- The elements of one page of region CT in a copy. -/
def ctElements (m : Map Nat) (page : Nat) : Map Nat :=
  let p := page % 384
  m.filter fun e => decide (e.1.c = 0x31) && decide (e.1.i = 0) &&
    (if p < 128 then decide (e.1.m = 1) && decide (e.1.x / 4096 = p) else decide (e.1.m = 2) && decide (e.1.x / 4096 = p - 128))

/-- A page of the key store is lost: halves, link secrets, sessions and role keys (R466). -/
def State.loseKeys (s : State) (k : LostKeys) : State :=
  let a := k.tx.foldl (fun (t : State) n => t.withChan (n / 1024) (n % 1024) SecChan.loseTx) s
  let b := k.rx.foldl (fun (t : State) n => t.withChan (n / 1024) (n % 1024) SecChan.loseRx) a
  let c := (k.tx ++ k.rx).dedup.foldl (fun (t : State) n =>
    if t.obj (Obj.SEC_KEY_SOURCE (n / 1024)) = 0 then t.trigger (n / 1024) (n % 1024) else t) b
  let d := k.links.foldl (fun (t : State) e => (t.withLink e fun l => { l with secret := none }).startKa e) c
  let e := k.sessions.foldl (fun (t : State) i => t.closeSession i 2) d
  k.roles.foldl (fun (t : State) x => t.setObj (Obj.QM_ROLE_KEY x) 0) e

/-- A page of an engine's DSP coefficient store is lost (R467; kinds of pages: log entry 21). Of a converter page dLOL is declared before the
receiver goes to OFF, where it clears in the same tick (R120). -/
def State.loseDspPage (s : State) (e page : Nat) : State :=
  if 56 ≤ page then s.plan (s.now + 1) (.reload e)
  else if page < 40 then
    if 2 ≤ s.receiver e then s.lolStore e else s
  else if s.obj (Obj.CNV_STATE e) = 0 then (s.setObj (Obj.CNV_CAL_IMAGE e) 0).refreshTxStatus e
  else
    let a := if 2 ≤ s.receiver e then (s.declare Df.lol e).raise Ev.LOL [e, 3] else s
    ((((a.setObj (Obj.CNV_CAL_IMAGE e) 0).refreshTxStatus e).setObj (Obj.CNV_STATE e) 1).refreshTx e).refreshRx e

/-- A reader finds a page that it cannot correct (R463); a DMA channel halts with the address until a restart of its master. -/
def State.uncorrectable (s : State) (v : PageRead) : State :=
  let g := v.region.val
  let r := if v.reader = 3 then s.withMc fun m => { m with dma := m.dma.filter (fun x => decide (x.1 ≠ v.channel.val)) ++ [(v.channel.val, v.addr)] }
    else s
  let t := r.logUncorr g v.page v.reader
  let fallback := decide (v.page = s.cmPage true (v.page % 7840)) && s.blockCopied (v.page % 7840)
  if g = 0 then (t.markBad 0 v.page).raise Ev.CM_UNCORR [v.page % 7840 / 245, v.page % 245, fallback.toNat]
  else
    let u := t.raise Ev.STORE_UNCORR [g, v.page, v.reader]
    if g = 1 then
      if ctElements s.act v.page = ctElements s.shd v.page ∧ (s.page 1 ((v.page + 384) % 768)).bad = false then u.setPage 1 v.page {}
      else u.markBad 1 v.page
    else if g = 2 then (u.setPage 2 v.page {}).loseKeys v.lost
    else if g < 7 then (u.setPage g v.page {}).loseDspPage (g - 3) v.page
    else
      let w := u.markBad 7 v.page
      if v.reader = 2 ∧ w.mc.restart = none ∧ w.mc.restarting = none then w.withMc fun m => { m with restart := some 5 } else w

/-- A reader decodes a page: it corrects what its strength allows. -/
def State.readPage (s : State) (v : PageRead) : State :=
  let g := v.region.val
  let p := s.page g v.page
  let bits := (v.bits ++ p.wrong).dedup
  if regionPages g ≤ v.page ∨ bits = [] ∨ p.bad then s
  else if s.strength g v.page < bits.length then s.uncorrectable v
  else s.correct g v.page bits

/-- A pass of the scrubber has lasted SIO_SCRUB_PASS seconds (R459). -/
def State.passDue (s : State) (g : Nat) : Bool :=
  decide (Map.get 0 s.stores.passAt (Key.unit g) + s.obj (Obj.SIO_SCRUB_PASS g) * ticksPerSecond ≤ s.now)

/-- A pass of the scrubber ends: a new strength that it brought to every page is the region's (R456, R459). -/
def State.passEnd (s : State) (g : Nat) : State :=
  let t := (s.bump (Obj.SIO_PASS_COUNT g)).withStores fun y => { y with passAt := Map.set 0 y.passAt (Key.unit g) s.now }
  let left := t.recoding g - 1
  let u := t.withStores fun y => { y with recode := Map.set 0 y.recode (Key.unit g) left }
  if t.recoding g = 1 then
    (u.withStores fun y => { y with encoded := Map.set 0 y.encoded (Key.unit g) (t.obj (Obj.SIO_T g)) }).withStores fun y =>
      { y with pages := y.pages.foldl (fun m e => Map.set {} m e.1 (if e.1.c = g then { e.2 with strength := none } else e.2)) [] }
  else u

/-- TABLE_WRITE rewrote elements of a page of region CT; once every element is rewritten the page is healed (R465). -/
def State.healCt (s : State) (page first count : Nat) : State :=
  let p := s.page 1 page
  if ¬ p.bad then s
  else
    let ranges := p.healed ++ [(first, count)]
    let done := ranges.foldl (fun (until_ : Nat) _ =>
      ranges.foldl (fun u r => if r.1 ≤ u then max u (r.1 + r.2) else u) until_) 0
    if 4096 ≤ done then s.setPage 1 page {} else s.setPage 1 page { p with healed := ranges }

/-! ## Die-to-die links (R468 to R471) -/

def groupExists (link group : Nat) : Bool := decide (group < if link < 4 then 56 else 112)

def spareEntry (direction group : Nat) : Nat := 112 * direction + group

/-- A group's spare is in use, and no lane freed by an injection stands in for it. -/
def State.spareUsed (s : State) (link direction group : Nat) : Bool :=
  bit (s.obj (Obj.D2D_SPARE_MAP link (spareEntry direction group))) 15 && !s.stores.regained.contains (link, direction, group)

/-- Words of a block that failed its replays are tagged, and their connections carry POISON (R470); of a group with a failing lane in service
D2D_STATE reads UP_NO_SPARE from then on (R471). -/
def State.replayFails (s : State) (link direction group words : Nat) (conns : List Nat) : State :=
  let t := (s.bump (Obj.D2D_REPLAY_FAIL link) words).withStores fun y => { y with
    short := if y.dead.contains (link, direction, group) then (y.short ++ [(link, direction, group)]).dedup else y.short }
  let u := t.withPrism fun p =>
    if direction = 0 then { p with poisonNext := (p.poisonNext ++ conns).dedup } else { p with poison := (p.poison ++ conns).dedup }
  if u.stores.replayEpoch = u.epoch + 1 then u
  else (u.raise Ev.D2D_REPLAY_FAIL [link, direction, group]).withStores fun y => { y with replayEpoch := u.epoch + 1 }

/-- The spare takes a lane's place; a group without one keeps the lane in service (R471). -/
def State.spareLane (s : State) (link direction group lane : Nat) : State :=
  let g := (link, direction, group)
  if s.spareUsed link direction group then
    if s.obj (Obj.D2D_SPARE_MAP link (spareEntry direction group)) = 0x8000 + lane then s
    else s.withStores fun y => { y with dead := (y.dead ++ [g]).dedup }
  else
    let t := s.setObj (Obj.D2D_SPARE_MAP link (spareEntry direction group)) (0x8000 + lane)
    (t.withStores fun y => { y with regained := y.regained.filter (· ≠ g) }).raise Ev.D2D_LANE [link, direction, group, lane]

/-! ## Writes of class 0x05 but for fault injection -/

def acceptStores : Accept := acceptStage

/-! ## Meanings -/

/-- DEMAND_SCRUB (R457). -/
def execDemandScrub (region : Fin 8) (page : Nat) (s : State) : Out :=
  .next (if (s.page region page).queued then s.writeBack region page else s)

/-- SCRUB_VISIT (R456, R459, R460): the page is read, and written back where a bit was corrected. -/
def execScrubVisit (visit : PageRead) (passEnd : Bool) (s : State) : Out :=
  let g := visit.region.val
  if regionPages g ≤ visit.page then .next s
  else
    let t := s.readPage { visit with reader := 4 }
    let p := t.page g visit.page
    let aged := { p with written := (p.written.map fun w => (w.1, w.2 + 1)).filter fun w => decide (w.2 < 3) }
    let u := if p.bad then t
      else
        let coded := if t.recoding g = 1 then { aged with strength := some (t.obj (Obj.SIO_T g)) } else aged
        let v := t.setPage g visit.page coded
        if p.queued then v.writeBack g visit.page else v
    .next (if passEnd ∧ u.passDue g then u.passEnd g else u)

/-- BUCKET_LEAK (R458), for the coming boundary. -/
def execBucketLeak (region : Fin 8) (s : State) : Out := .next (s.atBoundary fun t => t.leak region)

/-- PAGE_REPAIR_SWITCH (R461): the copy has ended, and the pointer switches at the coming boundary. -/
def execPageRepairSwitch (region : Fin 8) (page : Nat) (s : State) : Out :=
  let p := s.page region page
  match p.copying, p.spare with
  | true, some k => .next (s.atBoundary fun t => t.moveToSpare region page k false)
  | _, _ => .next s

/-- The shadow copy of an uncorrectable page of the control memory is usable (R241, R464). -/
def State.pageFallback (s : State) (page : Nat) : Bool := decide (page = s.cmPage true (page % 7840)) && s.blockCopied (page % 7840)

/-- An uncorrectable page of the control memory is repaired (R464, R465): from the other bank, or regenerated, which lengthens a running compile. -/
def State.repairCm (s : State) (page ticks : Nat) : State :=
  let p := s.page 0 page
  let fallback := s.pageFallback page
  if ¬ p.bad ∨ (fallback = false ∧ s.ctBad = true) then s
  else
    let (spare, t) := match p.spare with
      | some k => (some k, s)
      | none => s.takeSpare 0
    let u := if fallback then t
      else (t.bump (Obj.SIO_REGEN 0)).withPrism fun q => { q with compile := q.compile.map fun c => { c with due := c.due + min ticks 20 } }
    match spare with
    | some k => u.moveToSpare 0 page k true
    | none => u.setPage 0 page {}

/-- UNCORRECTABLE_PAGE_REPAIR (R464, R465). -/
def execUncorrectablePageRepair (page ticks : Nat) (s : State) : Out := .next (s.repairCm page ticks)

/-- What a page can wait for no longer at a boundary: the write-back of its demand scrub after 16 ticks, the switch to its spare once 8 ticks of
copying are over, and the repair of the control memory after 8 or 20 ticks (R457, R461, R464; DEDUCED, log entry 223). -/
def State.pageDeadline (s : State) (g page : Nat) : State :=
  let p := s.page g page
  let a := if p.queued = true ∧ p.queuedAt + 16 < s.now then s.writeBack g page else s
  let b := match p.copying, p.spare with
    | true, some k => if p.copyAt + 8 < s.now then a.moveToSpare g page k false else a
    | _, _ => a
  if g = 0 ∧ p.bad = true ∧ p.badAt + (if s.pageFallback page then 8 else 20) < s.now then b.repairCm page 20 else b

def State.pageDeadlines (s : State) : State := s.stores.pages.foldl (fun t e => t.pageDeadline e.1.c e.1.i) s

/-- SIO_T write (R456). -/
def execSioTWrite (rq : Rq) (region : Fin 8) (val : Val) (s : State) : Out :=
  .next (serveWrite acceptStores rq (Obj.SIO_T region) val s)

/-- D2D_REPLAY (R469, R470): a word that missed its write deadline counts as unwritten (R202). -/
def execD2dReplay (r : Replay) (s : State) : Out :=
  if ¬ groupExists r.link r.group then .next s
  else
    let t := (s.bump (Obj.D2D_PARITY_ERR r.link) r.beats).bump (Obj.D2D_REPLAY r.link) r.replays
    let u := if r.failed = true ∧ 3 ≤ r.replays then t.replayFails r.link r.direction r.group 8 r.conns else t
    let half := u.tick % 2
    let v := u.withPrism fun p => p.setHalf half (p.words half) ((p.unwritten half ++ r.missed).dedup) (p.mode half)
    .next (v.withStores fun y => { y with late := (y.late ++ r.late).dedup })

/-- D2D_LANE_SPARE (R471): `errors` are those of the lane in this epoch. -/
def execD2dLaneSpare (link : Fin 6) (direction : Fin 2) (group lane errors : Nat) (s : State) : Out :=
  if groupExists link group ∧ lane < 32 ∧ s.obj (Obj.D2D_LANE_ERR_LIMIT link) < errors then
    .next (s.plan (s.now + 1) (.laneSpare link direction group lane))
  else .next s

end Sys2Proof.Machine
end

