-- ==== Sys2Proof/Machine/Boot.lean ====
section
/-! DEFINITION. Device resets, the boot sequence, firmware images and the Onion log (R507 to R519), and the meanings of boot. -/

namespace Sys2Proof

/-! ## Firmware images (R513, R514) -/

/-- `n` bytes of an image from an offset. -/
def FwImage.part (x : FwImage) (off n : Nat) : Nat := Machine.bytesOf x.len x.bytes off n

def FwImage.version (x : FwImage) : Nat := x.part 0x08 8
def FwImage.sv (x : FwImage) : Nat := x.part 0x10 2
def FwImage.codeLen (x : FwImage) : Nat := x.part 0x14 4
def FwImage.digest (x : FwImage) : Nat := Config.shake256 32 [⟨128, x.part 0 0x80⟩]
def FwImage.ownerBlock (x : FwImage) : Bool := Machine.bit (x.part 0x06 2) 0
def FwImage.ownerDigest (x : FwImage) : Nat := Config.shake256 32 [⟨1952, x.part 0x0D6D 1952⟩]

/-- Checks 1 to 9 of R514 with a fused owner digest (0: none) and the burned security version: the first code that fails, or 0. -/
def FwImage.check (x : FwImage) (owner otpSv : Nat) : Nat :=
  let n := x.codeLen
  if x.len < 4 ∨ x.part 0 4 ≠ 0x42584657 then 1
  else if x.len < 0x2200 ∨ x.part 4 2 ≠ 1 ∨ n % 16 ≠ 0 ∨ n < 16 ∨ 1572864 < n ∨ x.part 0x18 4 % 4 ≠ 0 ∨ n ≤ x.part 0x18 4 ∨ x.len ≠ 0x2200 + n then 2
  else if 0x00B0 < x.part 0x12 2 then 3
  else if ¬ Config.mlDsaVerify Config.vendorKey x.digest (x.part 0x80 3309) then 4
  else if owner ≠ 0 ∧ ¬ x.ownerBlock then 5
  else if owner ≠ 0 ∧ x.ownerDigest ≠ owner then 6
  else if owner ≠ 0 ∧ ¬ Config.mlDsaVerify (x.part 0x0D6D 1952) (Config.shake256 32 [⟨0x0D6D, x.part 0 0x0D6D⟩]) (x.part 0x150D 3309) then 7
  else if x.sv < otpSv then 8
  else if Config.shake256 32 [⟨n, x.part 0x2200 n⟩] ≠ x.part 0x20 32 then 9
  else 0

end Sys2Proof

namespace Sys2Proof.Machine

/-! ## Device resets (R19, R417, R473, R507) -/

/-- What a device reset leaves: OTP and what is written at manufacture, the flash, the latched pins and always-on storage. Every other
object takes its default. -/
def State.deviceReset (s : State) (cause held : Nat) : State :=
  let otp := [Obj.DEV_SERIAL, Obj.DEV_ID_KEY, Obj.DEV_ID_DIGEST, Obj.SEC_OTP_SV, Obj.SEC_OWNER_KEY_DIGEST, Obj.SEC_ID_CERT]
  let slot := fun (n : Nat) (x : Option FwImage) => if (s.mc.programming.map (·.1)) = some n then none else x
  let t : State := { State.reset with
    pending := s.pending, fresh := s.fresh, pllLatch := s.pllLatch
    bar := { ({} : Bar0) with bootCause := cause }
    mc := { source := s.mc.source, node := s.mc.node, pcie := s.mc.pcie, qspiOk := s.mc.qspiOk, held := held
            pllTick := s.mc.pllTick, slotA := slot 1 s.mc.slotA, slotB := slot 2 s.mc.slotB } }
  let u := otp.foldl (fun u k => u.setObj k (s.obj k)) t
  if s.obj Obj.FI_STATE = 2 then u.raise Ev.FI_DISARMED [3] else u

def State.checkImage (s : State) (x : FwImage) : Nat := x.check (s.obj Obj.SEC_OWNER_KEY_DIGEST) (s.obj Obj.SEC_OTP_SV)

/-- An image of some length read from the staging region (R511). -/
def State.stagedImage (s : State) (len : Nat) : FwImage :=
  let words := (List.range (ceilDiv len 64)).foldl (fun v x => v * 2 ^ 512 + s.obj (Obj.MC_FW_STAGE x)) 0
  ⟨len, words / 256 ^ (64 * ceilDiv len 64 - len)⟩

/-- The staged image, as long as its header says. -/
def State.staged (s : State) : FwImage := s.stagedImage (min 2097152 (0x2200 + (s.stagedImage 0x2200).codeLen))

/-! ## The Onion log (R518, R519) -/

/-- A measurement of a type. -/
def State.measure (s : State) (type digest : Nat) : State :=
  let n := s.obj Obj.ONION_COUNT
  let chain := Config.shake256 32 [⟨32, s.obj Obj.ONION_CHAIN⟩, ⟨1, type⟩, ⟨8, s.tick⟩, ⟨32, digest⟩]
  let t := (s.setObj Obj.ONION_CHAIN chain).setObj Obj.ONION_COUNT (n + 1)
  if n < 256 then t.setObj (Obj.ONION_LOG n) (packBytes [(1, type), (1, 0), (6, 0), (8, s.tick), (32, digest)])
  else t.setObj (Obj.ONION_LOG 255) (withBit (s.obj (Obj.ONION_LOG 255)) 375 true)

/-- The digest of the OTP configuration. -/
def State.otpDigest (s : State) : Nat := Config.shake256 32 [⟨32, s.obj Obj.SEC_OWNER_KEY_DIGEST⟩, ⟨2, s.obj Obj.SEC_OTP_SV⟩]

/-- The measurements of a verified image. -/
def State.measureImage (s : State) (x : FwImage) : State :=
  let t := s.measure 3 x.digest
  if s.obj Obj.SEC_OWNER_KEY_DIGEST ≠ 0 then t.measure 4 x.ownerDigest else t

/-! ## The boot sequence (R508, R509, R512) -/

/-- Step 7: the image runs, and the remap bit is set. -/
def State.runImage (s : State) (x : FwImage) : State :=
  let t := ((s.setObj Obj.SEC_FW_VERSION x.version).setObj Obj.SEC_FW_DIGEST x.digest).setObj Obj.SEC_FW_SV x.sv
  t.withMc fun m => { m with running := some x, remap := true, loading := false }

/-- A flash slot: code 10 where it cannot be read, 1 where it holds no image. -/
def State.trySlot (s : State) (x : Option FwImage) : Nat :=
  if ¬ s.mc.qspiOk then 10 else match x with
    | none => 1
    | some i => s.checkImage i

/-- Steps 4 to 7 from the boot source: the first slot that verifies; then loading over PCIe where the source allows it, else FAILED. -/
def State.loadSource (s : State) : State :=
  let pcie := s.bar.bootCause
  let start := fun (t : State) (x : Option FwImage) => match x with
    | some i => ((t.setBoot 2 pcie 0).measureImage i).runImage i
    | none => t
  let await := fun (t : State) (code : Nat) => (t.setBoot 0 pcie code).withMc fun m => { m with loading := true, remap := false }
  if s.mc.source = 1 then await s 0
  else
    let a := s.trySlot s.mc.slotA
    let b := s.trySlot s.mc.slotB
    if a = 0 then start s s.mc.slotA
    else if b = 0 then start s s.mc.slotB
    else if s.mc.source = 2 ∨ ¬ s.mc.pcie then (s.setBoot 4 pcie b).withMc fun m => { m with remap := false }
    else await s b

/-- Steps 2 to 7 of a boot. -/
def State.bootRom (s : State) : State :=
  let t := s.setObj Obj.SEC_VENDOR_KEY_DIGEST (Config.shake256 32 [⟨1952, Config.vendorKey⟩])
  ((t.measure 1 (Config.shake256 32 [⟨65536, Config.rom⟩])).measure 2 t.otpDigest).loadSource

/-- The setpoint of a rail in µV (R480), with VDD_CORE at 0.80 V (R499). -/
def railNominal (r : Nat) : Nat := [800000, 800000, 750000, 900000, 1200000, 950000, 1800000, 3300000, 1100000, 1800000, 1800000, 800000].getD r 0

/-- At READY the staging region reads all zero (R525). -/
def State.eraseStage (s : State) : State :=
  { s with reg := s.reg.filter fun e => !(decide (e.1.c = 0x03) && decide (e.1.m = 0x10)) }.setObj Obj.MC_FW_STAGE_STATE 0

/-- Step 8: every rail comes up. -/
def State.railsUp (s : State) : State :=
  (List.range 8).foldl (fun t i => t.setObj (Obj.PWR_RAIL_SET (2 + i)) (railNominal (2 + i))) s

/-- Steps 8 to 10: the rails come up and the clocks are switched; tick 0 begins at the first tick boundary after that (R20). -/
def State.startTicks (s : State) : State :=
  { s.railsUp with running := true, now := 0, tick := 0, mc := { s.railsUp.mc with initialising := true } }

/-- The firmware runs, and steps 8 to 10 are not over. -/
def State.startsTicks (s : State) : Bool :=
  decide (s.bar.bootState = 2) && s.mc.remap && !s.running && decide (s.mc.held = 0) && decide (s.power.quiescent = 0)

/-- A loss of lock that is latched is delivered, with the tick of its cause (R19, R434). -/
def State.deliverLatch (s : State) : State :=
  if s.pllLatch then { s.raiseAt s.mc.pllTick Ev.CORE_PLL_UNLOCK [] with pllLatch := false } else s

/-- Steps 11 and 12: Prism is initialised and the complex is ready, in the current tick. -/
def State.bootDone (s : State) (hbm : Bool) : State :=
  let u := s.eraseStage.setBoot 3 s.bar.bootCause 0
  let v := if hbm then u else (u.withProt fun p => { p with hbmFault := true }).raise Ev.BOOT_HBM []
  (v.withMc fun m => { m with initialising := false }).refreshPrism.deliverLatch

/-- Steps 8 to 10 are over. Where no TICK_BOUNDARY has opened tick 0, they pass at once, and the elapsed tick of the end of the boot is the
operand's (log entry 151). -/
def State.bootClocks (s : State) (x : BootEnd) : State :=
  if s.running then s
  else
    let t := s.startTicks
    { t with now := x.tick, tick := x.tick, timing := { t.timing with seconds := x.tick / ticksPerSecond } }

/-- The end of the boot sequence. -/
def State.finishBoot (s : State) (x : BootEnd) : State := (s.bootClocks x).bootDone x.hbm

/-! ## Loading over PCIe (R429, R512) -/

/-- The mailbox accepts loading requests. -/
def State.loads (s : State) : Bool :=
  let b := s.bar
  decide (b.bootState < 2) || (decide (b.bootState = 4) && ((decide (1 ≤ b.bootError) && decide (b.bootError ≤ 10)) || decide (b.bootError = 14)))

/-- A loading request: BUSY outside the states that take it, RANGE for the opcodes elsewhere unknown, DENIED under another session. -/
def serveLoad (op : Nat) (rq : Rq) (body : State → Status × State) (s : State) : State :=
  if ¬ s.alive then s
  else if rq.slot = none ∧ s.bar.own then s.withBar fun b => { b with ovr := true }
  else if ¬ s.loads then s.deliver rq op (if s.ready then .range else .busy) []
  else if rq.ver ≠ 1 then s.deliver rq op .range []
  else if rq.slot.isSome ∨ rq.session ≠ 0 then s.deliver rq op .denied []
  else if ¬ rq.lenOk then s.deliver rq op .type []
  else let (st, t) := body s
    t.deliver rq op st []

/-- Bytes put into the staging region at an offset. -/
def State.stageBytes (s : State) (off n data : Nat) : State :=
  (List.range (ceilDiv (off % 64 + n) 64)).foldl (fun t i =>
    let x := off / 64 + i
    let lo := max off (64 * x)
    let hi := min (off + n) (64 * x + 64)
    t.setObj (Obj.MC_FW_STAGE x) (withBytes 64 (t.obj (Obj.MC_FW_STAGE x)) (lo - 64 * x) (hi - lo) (bytesOf n data (lo - off) (hi - lo)))) s

/-! ## Meanings -/

/-- CORE_PLL_UNLOCK (R19): latched with its tick, and a clock-fail reset, whose boot starts at once. The PLL can lose lock once step 9 of the
boot sequence has locked it (R509), whether or not the boot comes to READY. -/
def execCorePllUnlock (s : State) : Out :=
  if s.running ∨ s.startsTicks = true then
    .next (({ s with pllLatch := true, mc := { s.mc with pllTick := s.tick } }.deviceReset 2 0).bootRom)
  else .next s

/-- PORST_N_RELEASE (R437, R508, R509): the balls are latched, and the boot runs to the firmware's entry. -/
def execPorstNRelease (board : Board) (s : State) : Out :=
  if s.mc.held = 2 ∨ s.running = true ∨ s.mc.running.isSome ∨ s.mc.loading = true then .next s
  else
    let t := s.withMc fun m => { m with
      source := board.source, node := board.node, pcie := board.pcie, slotA := board.slotA, slotB := board.slotB, qspiOk := board.qspiOk, held := 0 }
    .next t.bootRom

/-- PORST_N_ASSERT (R507). -/
def execPorstNAssert (s : State) : Out := .next (s.deviceReset 1 1)

/-- BOOT_READY (R509, R510, R514): an error of steps 8 to 12 ends in FAILED. Code 13 is one of step 11, after step 10 has switched the clock
to the core PLL, so tick 0 has begun (R20); the core PLL goes on, and its loss of lock counts (R19). -/
def execBootReady (ending : BootEnd) (s : State) : Out :=
  if s.bar.bootState ≠ 2 ∨ (s.running = true ∧ s.mc.initialising = false) ∨ s.mc.remap = false then .next s
  else if ending.error = 0 then .next (s.finishBoot ending)
  else
    let u := if ending.error = 13 then s.bootClocks ending else s
    let t := (u.withMc fun m => { m with initialising := false }).setBoot 4 s.bar.bootCause ending.error
    .next (if ending.error = 11 then (t.setObj (Obj.PWR_RAIL_STATE ending.rail) 2).raise Ev.REG_FAULT [ending.rail, 2] else t)

/-- FW_CHUNK (R512). -/
def execFwChunk (rq : Rq) (offset bytes data : Nat) (s : State) : Out :=
  .next (serveLoad 0x20 rq (fun t =>
    if bytes < 16 ∨ 65516 < bytes then (.type, t)
    else if offset % 16 ≠ 0 ∨ 2097152 < offset + bytes then (.range, t)
    else
      let u := t.stageBytes offset bytes data
      (.ok, if u.bar.bootState = 1 then u else (u.setBoot 1 u.bar.bootCause 0).withMc fun m => { m with loading := true })) s)

/-- FW_END (R512): the image is verified, and runs or fails with its code. -/
def execFwEnd (rq : Rq) (length : Nat) (s : State) : Out :=
  .next (serveLoad 0x21 rq (fun t =>
    if 2097152 < length then (.range, t)
    else
      let x := t.stagedImage length
      let code := t.checkImage x
      (.ok, if code = 0 then ((t.setBoot 2 t.bar.bootCause 0).measureImage x).runImage x else t.setBoot 4 t.bar.bootCause code)) s)

/-- PCIE_LINK_LOSS (R449, R528, R532, R533): an operation under way completes and its response is discarded. -/
def execPcieLinkLoss (bursts : List Burst) (s : State) : Out :=
  let cut := (bursts.filter fun b => decide (b.master = 2)).foldl (fun t b =>
    (t.bump Obj.MC_BUS_TRUNC).raise Ev.BUS_TRUNC [b.master, b.target, b.beats]) s
  let t := cut.withMc fun m => { m with pcie := false, reserved := m.reserved.filter fun r => decide (r.1 ≠ 2) }
  let u := { t with resyncs := t.resyncs.filter fun r => r.2.slot.isSome }
  let v := u.withPower fun p => { p with
    doms := p.doms.foldl (fun m e => Map.set {} m e.1 { e.2 with request := e.2.request.filter fun r => r.slot.isSome }) []
    quiescentBy := p.quiescentBy }
  .next (v.withBar fun b => { b with own := false, ready := false, more := false, response := none, rspLen := 0, chunkLeft := 0 })

/-- PCIE_LINK_UP (R566). -/
def execPcieLinkUp (s : State) : Out := .next (if s.mc.held = 0 ∧ s.power.quiescent < 2 then s.withMc fun m => { m with pcie := true } else s)

end Sys2Proof.Machine
end

