-- ==== Sys2Proof/Machine/RingFrame.lean ====
section
/-! DEFINITION. The bytes of a ring copy: its header, urgent area, and request and reply slots (R438 to R440), as they are read and as they are
written. -/

namespace Sys2Proof.Machine

/-- An urgent entry with VALID set: its place in the area and its 8 bytes (R440). -/
structure UrgentIn where
  place : Nat
  bytes : Nat
  deriving DecidableEq, Repr

/-- A request or reply slot with VALID set, and its 48 bytes (R440). -/
structure SegIn where
  slot : Nat
  bytes : Nat
  deriving DecidableEq, Repr

/-! ## CRCs (R439, R440) -/

/-- The CRC of a header, request or reply over `n` bytes. -/
def ringCrc (n v : Nat) : Nat := crc 16 0x1021 0xFFFF (8 * n) v

/-- The CRC of an urgent entry over its first 7 bytes. -/
def entryCrc (v : Nat) : Nat := crc 8 0x07 0 56 v

/-! ## Reading -/

def UrgentIn.node (u : UrgentIn) : Nat := bytesOf 8 u.bytes 0 1 % 64
def UrgentIn.index (u : UrgentIn) : Nat := bytesOf 8 u.bytes 1 1 % 64
def UrgentIn.tick (u : UrgentIn) : Nat := bytesOf 8 u.bytes 2 3
def UrgentIn.record (u : UrgentIn) : Nat := bytesOf 8 u.bytes 5 2
def UrgentIn.crcOk (u : UrgentIn) : Bool := decide (bytesOf 8 u.bytes 7 1 = entryCrc (u.bytes / 256))

def SegIn.first (x : SegIn) : Bool := bit (bytesOf 48 x.bytes 0 1) 6
def SegIn.last (x : SegIn) : Bool := bit (bytesOf 48 x.bytes 0 1) 5
def SegIn.node (x : SegIn) : Nat := bytesOf 48 x.bytes 1 1 % 64
def SegIn.seg (x : SegIn) : Nat := bytesOf 48 x.bytes 2 1
def SegIn.len (x : SegIn) : Nat := bytesOf 48 x.bytes 3 1
def SegIn.crcOk (x : SegIn) : Bool := decide (bytesOf 48 x.bytes 46 2 = ringCrc 46 (x.bytes / 256 ^ 2))

/-- Where an entry or slot lies, and its length: area 0 urgent, 1 request, 2 reply (R438). -/
def ringPlace (area place : Nat) : Nat × Nat := if area = 0 then (32 + 8 * place, 8) else (544 + 384 * (area - 1) + 48 * place, 48)

end Sys2Proof.Machine

namespace Sys2Proof
open Machine

/-- `n` bytes of a copy from byte `k` on. -/
def RingCopy.part (c : RingCopy) (k n : Nat) : Nat := bytesOf 1312 c.bytes k n

/-! The header (R439). -/

def RingCopy.west (c : RingCopy) : Bool := bit (c.part 1 1) 7
def RingCopy.looped (c : RingCopy) : Bool := bit (c.part 1 1) 6
def RingCopy.master (c : RingCopy) : Nat := c.part 2 1
def RingCopy.urg (c : RingCopy) : Nat := c.part 3 1
def RingCopy.tick (c : RingCopy) : Nat := c.part 4 8
def RingCopy.ringId (c : RingCopy) : Nat := c.part 12 2
def RingCopy.topo (c : RingCopy) : Nat := c.part 14 2
def RingCopy.present (c : RingCopy) : Nat := c.part 16 8
def RingCopy.hcrcOk (c : RingCopy) : Bool := decide (c.part 30 2 = ringCrc 30 (c.part 0 30))

/-- The bytes of an entry or slot; VALID is their first bit. -/
def RingCopy.bytesAt (c : RingCopy) (area place : Nat) : Nat := c.part (ringPlace area place).1 (ringPlace area place).2
def RingCopy.valid (c : RingCopy) (area place : Nat) : Bool := bit (c.part (ringPlace area place).1 1) 7

def RingCopy.urgent (c : RingCopy) : List UrgentIn :=
  ((List.range 64).filter fun k => c.valid 0 k).map fun k => ⟨k, c.bytesAt 0 k⟩

def RingCopy.requests (c : RingCopy) : List SegIn := ((List.range 8).filter fun k => c.valid 1 k).map fun k => ⟨k, c.bytesAt 1 k⟩
def RingCopy.replies (c : RingCopy) : List SegIn := ((List.range 8).filter fun k => c.valid 2 k).map fun k => ⟨k, c.bytesAt 2 k⟩

/-! ## Writing -/

def RingCopy.write (c : RingCopy) (k n v : Nat) : RingCopy := { c with bytes := withBytes 1312 c.bytes k n v }

def RingCopy.writeAt (c : RingCopy) (area place v : Nat) : RingCopy := c.write (ringPlace area place).1 (ringPlace area place).2 v

/-- LOOPED set, with the HCRC over it; a header whose HCRC is bad stays bad (log 193). -/
def RingCopy.loop (c : RingCopy) : RingCopy :=
  let head := withBit (c.part 0 30) 230 true
  c.write 0 32 (head * 256 ^ 2 + (if c.hcrcOk then ringCrc 30 head else c.part 30 2))

/-- A copy as it leaves unread: turned back, it is LOOPED (R447). -/
def RingCopy.turn (c : RingCopy) (turned : Bool) : RingCopy := if turned then c.loop else c

end Sys2Proof

namespace Sys2Proof.Machine

def RingUrgent.bytes (x : RingUrgent) : Nat :=
  let v := packBytes [(1, 128 + x.node % 64), (1, x.index % 64), (3, x.tick), (2, x.record)]
  v * 256 + entryCrc v

/-- A request or reply slot with VALID set. -/
def slotBytes (first last : Bool) (node seg len data : Nat) : Nat :=
  let v := packBytes [(1, 128 + 64 * first.toNat + 32 * last.toNat), (1, node % 64), (1, seg), (1, len), (42, data)]
  v * 256 ^ 2 + ringCrc 46 v

/-- Own entries go into the first entries with VALID = 0 (R445). -/
def putUrgent (c : RingCopy) (xs : List RingUrgent) : RingCopy :=
  (((List.range 64).filter fun k => !c.valid 0 k).zip xs).foldl (fun d x => d.writeAt 0 x.1 x.2.bytes) c

/-- Replies of a node go into their slots (R442). -/
def putReplies (c : RingCopy) (node : Nat) (xs : List ReplySeg) : RingCopy :=
  xs.foldl (fun d x => d.writeAt 2 x.slot (slotBytes x.first x.last node x.seg x.len x.data)) c

/-- The urgent entries of a copy whose CRC fits. -/
def urgentEntries (c : RingCopy) : List RingUrgent := (c.urgent.filter (·.crcOk)).map fun x => ⟨x.node, x.index, x.tick, x.record⟩

/-- A copy of the frame that a master starts, as it leaves the master (R438, R439): its flags, urgent entries and empty requests. -/
def RingFrame.copy (f : RingFrame) (master ringId : Nat) (west : Bool) : Nat :=
  let head := packBytes [(1, 0x11), (1, 128 * west.toNat + 32 * f.wrapped.toNat), (1, master), (1, f.urg), (8, f.tick), (2, ringId), (2, f.topo),
    (8, f.present), (6, 0)]
  let c : RingCopy := ⟨0, (head * 256 ^ 2 + ringCrc 30 head) * 256 ^ 1280, 0, true⟩
  (f.asks.foldl (fun d a => d.writeAt 1 a.slot (slotBytes true true a.node 0 0 0)) (putUrgent c f.urgent)).bytes

end Sys2Proof.Machine
end

