-- ==== Sys2Proof/Machine/Power.lean ====
section
/-! DEFINITION. Power domains, regulators, supply dips and Quiescent (R480 to R506). -/

namespace Sys2Proof.Machine

/-! ## Domains (R484, R485) -/

def State.dom (s : State) (d : Nat) : DomRun := Map.get {} s.power.doms (Key.unit d)
def State.withDom (s : State) (d : Nat) (f : DomRun → DomRun) : State :=
  s.withPower fun p => { p with doms := Map.set {} p.doms (Key.unit d) (f (s.dom d)) }
def State.domState (s : State) (d : Nat) : Nat := s.obj (Obj.PWR_DOM_STATE d)

def isLe (d : Nat) : Bool := decide (d < 4)
def isHg (d : Nat) : Bool := decide (4 ≤ d) && decide (d < 12)
def isCr (d : Nat) : Bool := decide (12 ≤ d) && decide (d < 16)

/-- The sleep states of a domain with their wake latencies in µs. -/
def wakeLatencies (d : Nat) : List (Nat × Nat) :=
  if isLe d then [(1, 200), (2, 25000), (3, 400000)]
  else if isHg d then [(1, 20), (2, 1000), (3, 10000)]
  else if isCr d then [(1, 10), (3, 100)]
  else if d = 16 then [(1, 50), (2, 2000), (3, 200000)]
  else if d = 17 then [(1, 10), (3, 1000)]
  else if d = 18 then [(1, 100), (2, 10000), (3, 150000)]
  else []

/-- The deepest state that a tolerance allows (R486). -/
def sleepTarget (d tol : Nat) : Option Nat := (((wakeLatencies d).filter fun x => decide (x.2 ≤ tol)).map (·.1)).getLast?

/-- Ticks that the save of the retained banks takes. -/
def saveTicks (d : Nat) : Nat := if isLe d then 2400 else if isHg d then 80 else if d = 16 then 8 else if d = 18 then 4000 else 0

/-- How many banks a domain retains. -/
def bankCount (d : Nat) : Nat := if isLe d ∨ d = 18 then 3 else if isHg d ∨ d = 16 then 1 else 0

/-- EV_PWR_STATE (R506). -/
def State.domEvent (s : State) (d old new outcome : Nat) : State := s.raise Ev.PWR_STATE [d, old, new, outcome]

def State.setDomStatus (s : State) (d outcome passed block : Nat) : State :=
  s.setObj (Obj.PWR_DOM_STATUS d) (outcome * 2 ^ 28 + passed * 2 ^ 26 + block * 2 ^ 16)

/-- RO objects of some classes and instances return to their defaults (R417). -/
def State.resetRo (s : State) (p : Key → Bool) : State :=
  { s with reg := s.reg.filter fun e => !(p e.1 && (match dictFind e.1.c e.1.i e.1.m with
    | some r => decide (r.acc = .ro)
    | none => false)) }

/-! ## What blocks a domain's entry (R488) -/

def State.busGroup (s : State) (l g : Nat) : Bool :=
  match s.laneOwner l with
  | some f => ((s.client f).lanes.any fun k => decide (k / 8 = g)) && s.pendingSets.any fun m => s.usesClient m f
  | none => false

/-- The first block that refuses. -/
def State.refusing (s : State) (d : Nat) : Option Nat :=
  let cr := fun (e : Nat) => (secOf s.act ++ secOf s.shd).any fun x => decide (x.1 = e)
  if isLe d then
    if (s.pendingSets.any fun m => s.carries m d) ∨ s.changesOf (s.linkOf d) ≠ [] then some 0x01
    else if cr d then some 0x02 else none
  else if isHg d then
    let g := d - 4
    let selected := [0, 1, 2, 3].any fun k =>
      let r := s.obj (Obj.TM_DP_SELECTED k)
      decide (4 ≤ r) && decide (r < 12) && (match s.refLane r with
        | some l => decide (l / 8 = g)
        | none => false)
    if ((List.range 8).any fun i => s.busGroup (8 * g + i) g) ∨ selected then some 0x01 else none
  else if isCr d then (if cr (d - 12) then some 0x02 else none)
  else if d = 17 then (if mergeGroups s.act ≠ [] then some 0x01 else none)
  else if d = 18 then
    if connsOf s.act ≠ [] ∨ connsOf s.shd ≠ [] ∨ groupsOf s.act ≠ [] ∨ groupsOf s.shd ≠ [] ∨ s.obj Obj.PRISM_COMPILE_STATE ≠ 0 ∨
      s.obj Obj.SHD_STATE ≠ 0 then some 0x80 else none
  else none

/-- A block that delays: the engine's LSPI transaction, or one that the boundary's input names. -/
def State.delayed (s : State) (d : Nat) (delays : List (Nat × Nat)) : Option Nat :=
  if isLe d ∧ (s.engine d).lspiBusy = true then some 0x03 else (delays.find? fun x => decide (x.1 = d)).map (·.2)

/-! ## Leaving On and returning (R69, R73, R106, R135, R485, R490, R493) -/

/-- What a line engine's work on the agenda loses with its domain. -/
def engineDue (e : Nat) : Due → Bool
  | .acqRestart i _ => decide (i = e)
  | .calStart i => decide (i = e)
  | .calCommit i => decide (i = e)
  | .bgCal i _ => decide (i = e)
  | .coreTest i _ => decide (i = e)
  | .coreJoin i _ => decide (i = e)
  | _ => false

/-- The domain leaves On. -/
def State.leaveOn (s : State) (d : Nat) : State :=
  if isLe d then
    let t := s.calEnd d 10
    let u := { t with agenda := t.agenda.filter fun p => !engineDue d p.due }
    let stored := ((u.leaveLock d).engine d).stored
    let v := (u.setObj (Obj.CNV_STATE d) 0).toOff d
    let w := v.withEngine d fun r => { r with
      stored := stored, fenced := (r.fenced ++ r.starting).dedup, starting := [], retesting := [] }
    (w.withDom d fun x => { x with cnv := s.obj (Obj.CNV_STATE d) }).refreshTx d
  else if isHg d then (List.range 8).foldl (fun t i => t.setLane (8 * (d - 4) + i) 0) s
  else s

/-- The clocks are gated: the engine's defects of R160 clear, and dDECDEG with the pool. -/
def State.gateClocks (s : State) (d : Nat) : State :=
  if isLe d then
    let t := [Df.los, Df.lol, Df.fecFail, Df.lof, Df.lom, Df.decDeg].foldl (fun t k => t.clear k d) s
    (List.range 128).foldl (fun t a => t.clear Df.smTim (128 + 128 * d + a)) t
  else s

/-- Pads are held (R492). -/
def State.holdPads (s : State) (d : Nat) : State := if isLe d ∨ isHg d then s.setObj (Obj.PWR_PAD_HELD d) 1 else s

/-- What a domain loses in Off (R74, R135, R417). -/
def State.losePower (s : State) (d : Nat) : State :=
  if isLe d then
    let t := s.resetRo fun k => decide (0x10 ≤ k.c) && decide (k.c ≤ 0x13) && decide (k.i = d)
    let u := (t.setObj (Obj.CNV_CAL_IMAGE d) (objDefault (Obj.CNV_CAL_IMAGE d))).setEngine d { rampStart := s.now }
    (u.withStores fun y => { y with pages := y.pages.filter fun e => !decide (e.1.c = 3 + d) }).setObj (Obj.CNV_STATE d) 0
  else if isHg d then s.resetRo fun k => decide (k.c = 0x20) && decide (k.i / 8 = d - 4) && decide (k.i < 64)
  else if d = 17 then (s.resetRo fun k => decide (k.c = 0x34)).withProt fun p => { p with merges := [] }
  else if d = 18 then (s.resetRo fun k => decide (k.c = 0x30) || decide (k.c = 0x31) || decide (k.c = 0x33)).withPrism fun _ => {}
  else s

/-- The domain reads ON again: after a wake from a state (2 or 3 test the decoder cores), or after an entry that was abandoned (none). -/
def State.returnOn (s : State) (d : Nat) (from_ : Option Nat) : State :=
  let t := s.setObj (Obj.PWR_DOM_STATE d) 0
  if isLe d then
    let cnv := if from_.isSome then 1 else (t.dom d).cnv
    let u := t.setObj (Obj.CNV_STATE d) cnv
    let v := if from_ = some 2 ∨ from_ = some 3 then
        ((u.setObj (Obj.FEC_CORE_STATE d) 0).declare Df.decDeg d).withEngine d fun r => { r with
          starting := (List.range 25).filter fun c => !r.fenced.contains c }
      else if 24 ≤ u.cores d then u else u.declare Df.decDeg d
    ((v.refreshTxStatus d).refreshTx d).refreshRx d
  else if isHg d then (List.range 8).foldl (fun t i => t.commitRate (8 * (d - 4) + i)) t
  else if d = 16 then t.hbmBack.pmRecover
  else if d = 18 then t.refreshPrism
  else t

/-! ## Requests to the regulators (R481 to R483, R497) -/

def State.railRequest (s : State) (r : Nat) : Option RailRequest := Map.get none s.power.requests (Key.unit r)
def State.setRequest (s : State) (r : Nat) (x : Option RailRequest) : State :=
  s.withPower fun p => { p with requests := Map.set none p.requests (Key.unit r) x }
def State.setFailed (s : State) (r : Nat) (x : Option RailRequest) : State :=
  s.withPower fun p => { p with failed := Map.set none p.failed (Key.unit r) x }

/-- The setpoint in force: the acknowledged one, else that of R480. -/
def State.setpoint (s : State) (r : Nat) : Nat :=
  let v := s.obj (Obj.PWR_RAIL_SET r)
  if v = 0 then railNominal r else v

/-- A wake needs VDD_CORE raised by one step. -/
def State.needsRaise (s : State) (d from_ : Nat) : Bool :=
  (isLe d || decide (d = 16) || decide (d = 18)) && decide (2 ≤ from_) && decide (s.obj Obj.PWR_AVS_EN = 1) && decide (s.setpoint 0 < 800000)

/-- One raise serves a batch; it waits for a request that is unacknowledged. -/
def State.sendRaise (s : State) : State :=
  if (s.railRequest 0).isSome then s
  else (s.setRequest 0 (some ⟨1, min 800000 (s.setpoint 0 + 5000), s.now, true⟩)).withPower fun p => { p with avsAt := some s.now }

/-- A wake fails for want of its raise (R497). -/
def State.failWake (s : State) (d from_ : Nat) : State :=
  let t := (s.setObj (Obj.PWR_DOM_STATE d) from_).setDomStatus d 4 (field (s.obj (Obj.PWR_DOM_STATUS d)) 27 26) 0
  (t.withDom d fun x => { cnv := x.cnv }).domEvent d from_ from_ 4

/-- A wake begins from a sleep state (R490, R496, R497). -/
def State.beginWake (s : State) (d : Nat) : State :=
  let from_ := s.domState d
  let t := ((s.setObj (Obj.PWR_DOM_STATE d) 5).setObj (Obj.PWR_DOM_CLK d) 0).withDom d fun x =>
    { cnv := x.cnv, leaves := from_, wake := some s.now, clocking := decide (from_ = 1), ramping := decide (2 ≤ from_) && !s.needsRaise d from_
      raise := s.needsRaise d from_ }
  if ¬ s.needsRaise d from_ then t
  else if s.obj (Obj.PWR_RAIL_STATE 0) = 2 then s.failWake d from_
  else t.sendRaise

/-- The order in which the domains of a batch ramp. -/
def rampOrder : List Nat := [18, 16, 17, 0, 1, 2, 3, 12, 13, 14, 15, 4, 5, 6, 7, 8, 9, 10, 11]

/-- Ticks that the power switches of a domain take. -/
def switchTicks (d : Nat) : Nat := if isLe d ∨ d = 16 ∨ d = 18 then 80 else 8

/-- One domain ramps at a time: where none does, the first that waits begins. -/
def State.nextRamp (s : State) : State :=
  if (s.power.ramp.any fun x => (s.dom x.1).ramping) then s
  else s.withPower fun p => { p with ramp := (rampOrder.find? fun d => (s.dom d).ramping).map fun d => (d, s.now) }

/-- The ramp of a domain has run its time. -/
def State.ramped (s : State) (d : Nat) : Bool :=
  match s.power.ramp with
  | some (i, since) => decide (i = d) && (s.dom d).ramping && decide (since + switchTicks d ≤ s.now)
  | none => false

/-! ## Entry (R485, R487, R489, R490) -/

/-- Length of a step in ticks, and the step after it; 0 where the entry ends. -/
def stepLength (d step : Nat) : Nat := if step = 3 then saveTicks d else if step = 5 then 8 else 1
def nextStep (d target step : Nat) : Nat :=
  match step with
  | 1 => 2
  | 2 => if target = 1 then 0 else if target = 2 ∧ 0 < saveTicks d then 3 else 4
  | 3 => 4
  | 4 => 5
  | _ => 0

/-- The deepest abort point that the end of a step passes (1 A0, 2 A1, 3 A2). -/
def abortPoint (target step : Nat) : Nat :=
  match step with
  | 1 => if target = 1 then 3 else if target = 3 then 2 else 1
  | 3 => 2
  | 4 => 3
  | _ => 0

/-- The state that CRi takes with LEi. -/
def crTarget (target : Nat) : Nat := if target = 2 then 3 else target

/-- The entry begins in this tick. -/
def State.beginEntry (s : State) (d target : Nat) (delaying : Option Nat) : State :=
  let cleared := (List.range 8).foldl (fun t b => t.clear Df.retain (8 * d + b)) s
  let t := (cleared.leaveOn d).setObj (Obj.PWR_DOM_STATE d) 4
  let u := (t.setObj (Obj.PWR_DOM_TARGET d) target).withDom d fun x => { cnv := x.cnv, step := 1, since := s.now, delaying := delaying }
  if isLe d ∧ u.domState (12 + d) ∈ [0, 5] then
    ((u.setObj (Obj.PWR_DOM_STATE (12 + d)) 4).setObj (Obj.PWR_DOM_TARGET (12 + d)) (crTarget target)).withDom (12 + d) fun _ => {}
  else u

/-- The answer to a SLEEP request goes out. -/
def State.answerSleep (s : State) (d : Nat) (st : Status) : State :=
  match (s.dom d).request with
  | some rq => (s.withDom d fun x => { x with request := none }).deliver rq Op.write st []
  | none => s

/-- The handshake in the tick of commitment. -/
def State.handshake (s : State) (d target : Nat) (woken : Bool) (delays : List (Nat × Nat)) : State :=
  if woken then s.answerSleep d .abandoned
  else if s.domState d ≠ 0 then s.answerSleep d .precond
  else match s.refusing d with
    | some b => ((s.setDomStatus d 2 0 b).raise Ev.PWR_REFUSED [d, b]).answerSleep d .precond
    | none => (s.answerSleep d .ok).beginEntry d target (s.delayed d delays)

/-- The entry reaches its target. -/
def State.reachTarget (s : State) (d : Nat) : State :=
  let target := s.obj (Obj.PWR_DOM_TARGET d)
  let run := s.dom d
  let off := if target = 3 then s.losePower d else s
  let t := ((off.setObj (Obj.PWR_DOM_STATE d) target).setDomStatus d 1 run.passed 0).domEvent d 0 target 1
  let u := t.withDom d fun x => { cnv := x.cnv, waits := false }
  if isLe d ∧ u.domState (12 + d) ≠ 3 ∧ u.domState (12 + d) ≠ target then
    let c := 12 + d
    ((u.setObj (Obj.PWR_DOM_STATE c) (crTarget target)).setDomStatus c 1 3 0).domEvent c 0 (crTarget target) 1
  else u

/-- The next step of an entry starts in this tick. -/
def State.startStep (s : State) (d step : Nat) : State :=
  let t := s.withDom d fun x => { x with step := step, since := s.now, delaying := none }
  if step = 2 then t.gateClocks d else if step = 4 then t.holdPads d else t

/-- An entry is abandoned by a wake (R490); the domain reads ON from the next tick. -/
def State.abandonEntry (s : State) (d : Nat) : State :=
  let p := (s.dom d).passed
  ((s.setDomStatus d 3 p 0).withDom d fun x => { x with wake := some s.now }).raise Ev.PWR_ABANDONED [d, p]

/-- An entry that its DELAY outlasted (R487). -/
def State.refuseEntry (s : State) (d block : Nat) : State :=
  let t := ((s.setDomStatus d 2 0 block).raise Ev.PWR_REFUSED [d, block]).returnOn d none
  let u := t.withDom d fun _ => {}
  if isLe d ∧ u.domState (12 + d) = 4 then u.setObj (Obj.PWR_DOM_STATE (12 + d)) 0 else u

/-- Whether an entry runs in a domain, and has neither been abandoned. -/
def DomRun.entering (x : DomRun) : Bool := decide (x.step ≠ 0) && (x.wake.isNone || x.waits)

/-- A wake takes effect in this tick (R485, R490). -/
def State.wakeDomain (s : State) (d : Nat) : State :=
  let st := s.domState d
  if d = 19 ∨ st = 0 ∨ st = 5 then s
  else if isCr d ∧ ¬ s.domOn (d - 12) then
    let le := d - 12
    let run := s.dom le
    let t := s.withDom d fun x => { x with waits := true }
    if s.domState le = 5 then t
    else if run.entering then
      (if run.passed < 3 ∨ s.obj (Obj.PWR_DOM_TARGET le) = 1 then t.abandonEntry le else t.withDom le fun x => { x with wake := some s.now, waits := true })
    else if s.domState le = 4 then t
    else t.beginWake le
  else if st = 4 then
    let run := s.dom d
    if run.entering ∧ run.wake = none then
      if run.passed < 3 ∨ s.obj (Obj.PWR_DOM_TARGET d) = 1 then s.abandonEntry d
      else s.withDom d fun x => { x with wake := some s.now, waits := true }
    else s
  else s.beginWake d

/-- A domain reads ON in this tick, after its wake or an abandoned entry; a crypto domain that waited for it wakes now. -/
def State.enterOn (s : State) (d : Nat) : State :=
  let run := s.dom d
  let abandoned := decide (run.step ≠ 0)
  let t := if abandoned then s.returnOn d none else s.returnOn d (some (if run.fromOff then 3 else run.leaves))
  let u := if abandoned then t
    else (t.setDomStatus d (if run.fromOff then 5 else 1) (field (s.obj (Obj.PWR_DOM_STATUS d)) 27 26) 0).domEvent d run.leaves 0
      (if run.fromOff then 5 else 1)
  let v := u.withDom d fun _ => {}
  if isLe d then
    let c := 12 + d
    let w := if abandoned ∧ v.domState c = 4 ∧ (v.dom c).step = 0 then v.setObj (Obj.PWR_DOM_STATE c) 0 else v
    if (w.dom c).waits ∧ w.domState c ≠ 0 then w.beginWake c else w
  else v

/-- The part of a boundary that one domain takes: a step that has ended, a wake, and the step that follows (R489, R490, R496). -/
def State.domBoundary (s : State) (d : Nat) (woken : Bool) (delays : List (Nat × Nat)) : State :=
  let run := s.dom d
  let hbm := if d = 16 ∧ run.step = 1 ∧ run.since + 1 = s.now then (s.hbmFallback 1).loupeAbort 2 else s
  if run.on = some s.now ∨ (run.step ≠ 0 ∧ run.waits = false ∧ (run.wake.map fun w => decide (w < s.now)) = some true) then hbm.enterOn d
  else
    let delayed := if run.delaying.isSome then s.delayed d delays else none
    let target := s.obj (Obj.PWR_DOM_TARGET d)
    let ended := run.entering && delayed.isNone && decide (run.since + stepLength d run.step ≤ s.now)
    let passed := if ended then max run.passed (abortPoint target run.step) else run.passed
    let t := if run.entering then hbm.withDom d fun x => { x with passed := passed, delaying := if run.delaying.isSome then delayed else none } else hbm
    if run.entering ∧ delayed.isSome ∧ run.since + 800 ≤ s.now then (if woken then t.wakeDomain d else t.refuseEntry d (delayed.getD 0))
    else if ended ∧ nextStep d target run.step = 0 then
      let u := t.reachTarget d
      if woken ∨ run.waits then u.wakeDomain d else u
    else
      let u := if woken then t.wakeDomain d else t
      if ended ∧ ((u.dom d).wake = none ∨ (u.dom d).waits) then u.startStep d (nextStep d target run.step) else u

def isDomDue : Due → Bool
  | .domSleep _ _ => true
  | .domWake _ _ => true
  | _ => false

/-- Wakes and sleeps of the agenda that are due. -/
def State.dueWakes (s : State) : List Nat :=
  s.agenda.filterMap fun p => match p.due with
    | .domWake d _ => if p.boundary ≤ s.now then some d else none
    | _ => none

def State.dueSleeps (s : State) : List (Nat × Nat) :=
  s.agenda.filterMap fun p => match p.due with
    | .domSleep d target => if p.boundary ≤ s.now then some (d, target) else none
    | _ => none

/-- One domain's part of a boundary with its due requests taken off the agenda; `only` restricts it to the handshake (R487). -/
def State.domainTurn (s : State) (d : Nat) (delays : List (Nat × Nat)) : State :=
  let woken := s.dueWakes.contains d
  let sleep := s.dueSleeps.find? fun x => decide (x.1 = d)
  let t := { s with agenda := s.agenda.filter fun p => !(decide (p.boundary ≤ s.now) && match p.due with
    | .domSleep i _ => decide (i = d)
    | .domWake i _ => decide (i = d)
    | _ => false) }
  match sleep with
  | some (_, target) => t.handshake d target woken delays
  | none => t.domBoundary d woken delays

/-- The power domains at a boundary, in the order in which they ramp. -/
def State.powerBoundary (s : State) (delays : List (Nat × Nat)) : State := (rampOrder.foldl (fun t d => t.domainTurn d delays) s).nextRamp

/-! ## PWR_DOM_REQ (R486, R491) -/

/-- A later write of the object before the boundary replaces an earlier SLEEP, which is answered OK (R422). -/
def State.replaceSleep (s : State) (d : Nat) : State :=
  ({ s with agenda := s.agenda.filter fun p => match p.due with
    | .domSleep i _ => !decide (i = d)
    | .domWake i pin => !(decide (i = d) && !pin)
    | _ => true }).answerSleep d .ok

/-- A write of PWR_DOM_REQ; an accepted SLEEP is answered after its handshake. -/
def serveDomReq (rq : Rq) (d : Nat) (val : Val) (s : State) : State :=
  serve Op.write 1 rq (fun x t =>
    match checkWrite x.role .write (Obj.PWR_DOM_REQ d) val with
    | .error st => { status := st, state := t }
    | .ok (_, v) =>
      if v.v = 0 then
        { status := .ok, state := let u := t.replaceSleep d
          if u.domState d = 0 then u else u.plan (u.now + 1) (.domWake d false) }
      else match sleepTarget d (t.obj (Obj.PWR_DOM_TOL d)) with
        | none => { status := .range, state := t }
        | some target =>
          if t.domState d ≠ 0 then { status := .precond, state := t }
          else
            let u := ((t.replaceSleep d).setObj (Obj.PWR_DOM_TARGET d) target).withDom d fun x => { x with request := some rq }
            { status := .ok, later := true, state := u.plan (u.now + 1) (.domSleep d target) }) s

/-! ## Regulators and supplies (R481, R482, R499 to R502) -/

/-- A rail's comparators are armed (R499). -/
def State.armed (s : State) (r : Nat) : Bool :=
  decide (r < 2) || decide (10 ≤ r) || (decide (s.obj (Obj.PWR_RAIL_SET r) ≠ 0) && decide (s.obj (Obj.PWR_RAIL_STATE r) ≠ 3) &&
    ((s.railRequest r).map (·.kind)) != some 3)

/-- A level `n` tenths of a per cent below a rail's setpoint, in µV. -/
def State.levelBelow (s : State) (r n : Nat) : Nat := s.setpoint r * (1000 - n) / 1000

def State.warnLevel (s : State) (r : Nat) : Nat := s.levelBelow r (s.obj (Obj.PWR_WARN_LVL r))
def State.recoverLevel (s : State) (r : Nat) : Nat :=
  s.levelBelow r (s.obj (Obj.PWR_WARN_LVL r) - s.obj (Obj.PWR_WARN_HYST r)) +
    s.setpoint r * (s.obj (Obj.PWR_WARN_HYST r) - s.obj (Obj.PWR_WARN_LVL r)) / 1000

/-- The dip log takes a new entry at index 0. -/
def State.openDip (s : State) (r voltage : Nat) : State :=
  let moved := (List.range 15).foldl (fun u x => u.setObj (Obj.PWR_DIP_LOG (x + 1)) (s.obj (Obj.PWR_DIP_LOG x))) s
  moved.setObj (Obj.PWR_DIP_LOG 0) (packBytes [(1, r), (1, 0x80), (2, 0), (4, voltage), (4, 0), (4, s.tick)])

/-- The open entry of a rail closes with its minimum and duration. -/
def State.closeDip (s : State) (r minimum : Nat) : State × Nat :=
  match (List.range 16).find? fun x => decide (bytesOf 16 (s.obj (Obj.PWR_DIP_LOG x)) 0 2 = r * 256 + 0x80) with
  | none => (s, 0)
  | some x =>
    let start := s.obj (Obj.PWR_DIP_LOG x) % 2 ^ 32
    let length := (s.tick + 2 ^ 32 - start) % 2 ^ 32
    (s.setObj (Obj.PWR_DIP_LOG x) (packBytes [(1, r), (1, 0), (2, 0), (4, minimum), (4, length), (4, start)]), length)

/-- The rails that Quiescent turns off. -/
def quiescentRails : List Nat := List.range 10

/-- Quiescent is entered: sessions end, the PCIe link closes, and the rails are commanded off (R502). -/
def State.beginQuiescent (s : State) (rq : Rq) : State :=
  let t := (s.deliver rq Op.write .ok []).withPower fun p => { p with quiescentBy := none }
  let u := ((List.range 16).foldl (fun t k => t.closeSession k 2) t).withMc fun m => { m with pcie := false }
  quiescentRails.foldl (fun v r => v.setRequest r (some ⟨3, 0, s.now, false⟩)) u

/-- An accepted PWR_QUIESCENT begins at the boundary. -/
def State.quiescentBoundary (s : State) : State :=
  match s.power.quiescent, s.power.quiescentBy with
  | 1, some rq => s.beginQuiescent rq
  | _, _ => s

/-- An off request timed out: the entry is abandoned, and the rails already off come back. -/
def State.abandonQuiescent (s : State) : State :=
  (quiescentRails.foldl (fun t r =>
    if t.obj (Obj.PWR_RAIL_STATE r) = 3 then t.setRequest r (some ⟨2, railNominal r, t.now, false⟩)
    else if ((t.railRequest r).map (·.kind)) = some 3 then t.setRequest r none else t) s).withPower fun p => { p with quiescent := 0 }

/-- An acknowledgement moves Quiescent on: off when every rail is off; on leaving, VDD_CORE and VDD_SRAM first, then the others, then the reset. -/
def State.quiescentAck (s : State) : State :=
  match s.power.quiescent with
  | 1 =>
    if s.power.quiescentBy.isNone ∧ (quiescentRails.all fun r => decide (s.obj (Obj.PWR_RAIL_STATE r) = 3)) = true then
      ({ s with running := false }.withPower fun p => { p with quiescent := 2 })
    else s
  | 3 =>
    let on := fun (r : Nat) => decide (s.obj (Obj.PWR_RAIL_STATE r) = 0)
    if ¬ ([0, 1].all on) then s
    else if quiescentRails.all on then (s.deviceReset 6 0).bootRom
    else quiescentRails.foldl (fun t r =>
      if ¬ on r ∧ t.railRequest r = none ∧ t.obj (Obj.PWR_RAIL_STATE r) = 3 then t.setRequest r (some ⟨2, railNominal r, t.now, false⟩) else t) s
  | _ => s

/-! ## Writes of class 0x02 -/

/-- A retry (R482), a release of pads (R492), levels that stay 2.0 % apart (R499), and the bus of a rail without its reserved bits (R9, R505). -/
def acceptPower : Accept := fun k v s =>
  if 0x100 ≤ k.i then
    let r := k.i - 0x100
    if k.m = 0x04 then
      match Map.get none s.power.failed (Key.unit r) with
      | some q =>
        if s.obj (Obj.PWR_RAIL_STATE r) ≠ 2 then (.precond, s)
        else if (s.railRequest r).isSome then (.busy, s)
        else (.ok, s.setRequest r (some { q with at_ := s.now, wake := false }))
      | none => (.precond, s)
    else if k.m = 0x01 then (.ok, s.stage k (if v.v = 0x00FF then v.v else Nat.land v.v 0x807F))
    else if k.m = 0x05 then (if s.latest (Obj.PWR_RESET_LVL r) < v.v + 20 then (.range, s) else (.ok, s.stage k v.v))
    else if k.m = 0x07 then (if v.v < s.latest (Obj.PWR_WARN_LVL r) + 20 then (.range, s) else (.ok, s.stage k v.v))
    else acceptStage k v s
  else if k.m = 0x07 ∧ k.i < 20 then
    if ¬ s.domOn k.i then (.precond, s)
    else
      let t := s.setObj (Obj.PWR_PAD_HELD k.i) 0
      (.ok, if isHg k.i ∧ s.obj (Obj.PWR_PAD_HELD k.i) = 1 then (List.range 8).foldl (fun u i => u.commitRate (8 * (k.i - 4) + i)) t else t)
  else acceptStage k v s

/-- A write of PWR_QUIESCENT (R502); `wakeN` is the level of WAKE_N. -/
def serveQuiescent (rq : Rq) (val : Val) (wakeN : Bool) (s : State) : State :=
  serve Op.write 1 rq (fun x t =>
    match checkWrite x.role .write Obj.PWR_QUIESCENT val with
    | .error st => { status := st, state := t }
    | .ok _ =>
      if (rampOrder.any fun d => decide (t.domState d ≠ 3)) ∨ wakeN = false ∨ t.power.quiescent ≠ 0 then { status := .precond, state := t }
      else { status := .ok, later := true, state := t.withPower fun p => { p with quiescent := 1, quiescentBy := some rq } }) s

/-! ## Meanings -/

/-- PWR_DOM_SLEEP (R486). -/
def execPwrDomSleep (rq : Rq) (d : Fin 20) (s : State) : Out := .next (serveDomReq rq d ⟨2, 1⟩ s)

/-- PWR_DOM_WAKE (R486, R490). -/
def execPwrDomWake (rq : Rq) (d : Fin 20) (s : State) : Out := .next (serveDomReq rq d ⟨2, 0⟩ s)

/-- DOMAIN_ENTRY_HANDSHAKE (R487, R491), for the coming boundary, with a block that answers DELAY. -/
def execDomainEntryHandshake (d : Fin 20) (delaying : Option Nat) (s : State) : Out :=
  .next (s.atBoundary fun t =>
    if (t.dueSleeps.any fun x => decide (x.1 = d.val)) = true then t.domainTurn d ((delaying.map fun b => (d.val, b)).toList) else t)

/-- ENTRY_DELAY_TIMEOUT (R487): 800 ticks at A0, at the coming boundary. -/
def execEntryDelayTimeout (d : Fin 20) (s : State) : Out :=
  .next (s.atBoundary fun t =>
    let run := t.dom d
    match run.delaying with
    | some b => if run.entering = true ∧ run.step = 1 ∧ run.since + 800 ≤ t.now then t.refuseEntry d b else t
    | none => t)

/-- DOMAIN_ENTRY_STEP_END (R489), at the coming boundary. -/
def execDomainEntryStepEnd (d : Fin 20) (s : State) : Out :=
  .next (s.atBoundary fun t => if (t.dom d).step = 0 ∨ (t.dom d).delaying.isSome then t else t.domainTurn d [])

/-- WAKE_N_ASSERT (R490, R504): sampled from READY onward (R568); a Quiescent entry that has not begun is abandoned. -/
def execWakeNAssert (s : State) : Out :=
  if ¬ s.ready then .next s
  else
    let t := (List.range 19).foldl (fun t d => if bit (t.obj Obj.PWR_WAKE_MASK) d then t.plan (t.now + 1) (.domWake d true) else t) s
    match t.power.quiescentBy with
    | some rq => .next ((t.withPower fun p => { p with quiescent := 0, quiescentBy := none }).deliver rq Op.write .abandoned [])
    | none => .next t

/-- DOMAIN_RAMP_DONE (R495, R497): the domain's ramp has run its time, and the next one begins; banks that fail their check are reinitialised. -/
def execDomainRampDone (d : Fin 20) (failed : List (Fin 3)) (s : State) : Out :=
  if s.ramped d = false then .next s
  else
    let banks := if (s.dom d).leaves = 2 then (failed.map (·.val)).filter (· < bankCount d) else []
    let t := banks.foldl (fun (t : State) b =>
      let u := (t.declare Df.retain (8 * d + b)).setObj (Obj.PWR_RETAIN_FAIL d) (withBit (t.obj (Obj.PWR_RETAIN_FAIL d)) b true)
      if isLe d then
        match b with
        | 0 => u.dropStored d
        | 1 => u.setObj (Obj.CNV_CAL_IMAGE d) (objDefault (Obj.CNV_CAL_IMAGE d))
        | _ => u.withEngine d fun r => { r with fenced := [] }
      else u) s
    .next (t.withDom d fun x => { x with ramping := false, clocking := true, fromOff := decide (banks ≠ []) }).nextRamp

/-- The clocks of a domain that waits for them are switched; it reads ON from the next tick (R496). -/
def State.switchClock (s : State) (d : Nat) : State :=
  if (s.dom d).clocking then (s.setObj (Obj.PWR_DOM_CLK d) 1).withDom d fun x => { x with clocking := false, on := some (s.now + 1) } else s

/-- DOMAIN_CLOCK_SWITCH (R496): not while the management complex restarts. -/
def execDomainClockSwitch (d : Fin 20) (s : State) : Out := .next (if s.ready then s.switchClock d else s)

/-- PWR_PAD_RELEASE write (R492). -/
def execPwrPadRelease (rq : Rq) (d : Fin 20) (val : Val) (s : State) : Out :=
  .next (serveWrite acceptPower rq (Obj.PWR_PAD_RELEASE d) val s)

/-- Domains that wait for VDD_CORE. -/
def State.raising (s : State) : List Nat := rampOrder.filter fun d => (s.dom d).raise

/-- REGULATOR_ACK (R481, R482, R497, R502, R503). -/
def execRegulatorAck (rail : Fin 12) (s : State) : Out :=
  match s.railRequest rail with
  | none => .next s
  | some q =>
    let t := (s.setRequest rail none).setFailed rail none
    let warned := bit (t.obj Obj.PWR_WARN_ACTIVE) rail
    let u := (if q.kind = 3 then t else t.setObj (Obj.PWR_RAIL_SET rail) q.target).setObj (Obj.PWR_RAIL_STATE rail)
      (if q.kind = 3 then 3 else if warned then 1 else 0)
    let v := if rail.val ≠ 0 ∨ u.raising = [] then u
      else if q.wake ∨ u.setpoint 0 = 800000 then u.raising.foldl (fun v d => v.withDom d fun x => { x with raise := false, ramping := true }) u
      else u.sendRaise
    .next v.nextRamp.quiescentAck

/-- REGULATOR_TIMEOUT (R482, R497, R502): 5 ms, counted in ticks of 1.25 µs. -/
def execRegulatorTimeout (rail : Fin 12) (ticks : Nat) (s : State) : Out :=
  match s.railRequest rail with
  | none => .next s
  | some q =>
    if ticks < 4000 then .next s
    else
      let t := ((s.setRequest rail none).setFailed rail (some q)).setObj (Obj.PWR_RAIL_STATE rail) 2
      let u := t.raise Ev.REG_FAULT [rail, q.kind]
      let v := if rail.val = 0 then u.raising.foldl (fun v d => v.failWake d (v.dom d).leaves) u else u
      .next (if v.power.quiescent = 1 ∧ q.kind = 3 then v.abandonQuiescent else v)

/-- PMB_ALERT (R481). -/
def execPmbAlert (faults : List (Fin 12)) (s : State) : Out :=
  .next (faults.foldl (fun t r => t.raise Ev.REG_FAULT [r, ((t.railRequest r).map (·.kind)).getD 0]) s)

/-- PWR_RAIL_RETRY write (R482). -/
def execPwrRailRetry (rq : Rq) (rail : Fin 12) (val : Val) (s : State) : Out :=
  .next (serveWrite acceptPower rq (Obj.PWR_RAIL_RETRY rail) val s)

/-- AVS_STEP (R483): at most one step every 800 ticks, no lowering under a warning or during a wake. -/
def execAvsStep (up : Bool) (s : State) : Out :=
  let v := s.setpoint 0
  let spaced := match s.power.avsAt with
    | some t => decide (t + 800 ≤ s.now)
    | none => true
  let waking := rampOrder.any fun d => decide (s.domState d = 5)
  let allowed := decide (s.obj Obj.PWR_AVS_EN = 1) && spaced && (s.railRequest 0).isNone && decide (s.obj (Obj.PWR_RAIL_STATE 0) ≠ 2) &&
    (if up then decide (v < 800000) else decide (700000 < v) && decide (s.obj Obj.PWR_WARN_ACTIVE = 0) && !waking)
  if allowed then
    .next ((s.setRequest 0 (some ⟨1, if up then min 800000 (v + 5000) else max 700000 (v - 5000), s.now, false⟩)).withPower fun p =>
      { p with avsAt := some s.now })
  else .next s

/-- SUPPLY_WARNING (R499, R500): two consecutive samples below the warning level. -/
def execSupplyWarning (rail : Fin 12) (voltage samples : Nat) (s : State) : Out :=
  let active := s.obj Obj.PWR_WARN_ACTIVE
  if s.armed rail = true ∧ 2 ≤ samples ∧ voltage < s.warnLevel rail ∧ bit active rail = false then
    let t := (s.setObj Obj.PWR_WARN_ACTIVE (withBit active rail true)).openDip rail voltage
    let u := if t.obj (Obj.PWR_RAIL_STATE rail) = 0 then t.setObj (Obj.PWR_RAIL_STATE rail) 1 else t
    let v := if active = 0 then u.withSec fun x => { x with warned := false } else u
    .next (v.raise Ev.SUPPLY_WARN [rail, 1, voltage, 0])
  else .next s

/-- SUPPLY_RECOVER (R269, R71, R499, R500): eight whole ticks at or above the level plus hysteresis; once no rail is at its warning level, the
deferred swap takes its boundary and deferred calibrations commit at the next one. -/
def execSupplyRecover (rail : Fin 12) (voltage minimum ticks : Nat) (s : State) : Out :=
  let active := s.obj Obj.PWR_WARN_ACTIVE
  if bit active rail = true ∧ 8 ≤ ticks ∧ s.recoverLevel rail ≤ voltage then
    let (t, length) := s.closeDip rail minimum
    let u := (t.setObj Obj.PWR_WARN_ACTIVE (withBit active rail false)).bump (Obj.PWR_DIP_COUNT rail)
    let v := if u.obj (Obj.PWR_RAIL_STATE rail) = 1 then u.setObj (Obj.PWR_RAIL_STATE rail) 0 else u
    let w := v.raise Ev.SUPPLY_WARN [rail, 0, minimum, length]
    if w.obj Obj.PWR_WARN_ACTIVE ≠ 0 then .next w
    else
      let x := [0, 1, 2, 3].foldl (fun x e => match (x.engine e).cal with
        | some (_, .complete (some _)) => x.plan (x.now + 1) (.calCommit e)
        | _ => x) w
      .next x.resumeSwap
  else .next s

/-- SUPPLY_RESET (R501): five consecutive samples below the reset level; the device is held in reset. -/
def execSupplyReset (rail : Fin 12) (voltage samples : Nat) (s : State) : Out :=
  if s.mc.held = 0 ∧ s.armed rail = true ∧ 5 ≤ samples ∧ voltage < s.levelBelow rail (s.obj (Obj.PWR_RESET_LVL rail)) then
    .next (s.deviceReset 3 2)
  else .next s

/-- SUPPLY_RESET_RELEASE (R501): 10 µs of samples of every board-held rail; the boot starts at step 2. -/
def execSupplyResetRelease (samples : Nat) (s : State) : Out :=
  if s.mc.held = 2 ∧ 1000 ≤ samples then .next (s.withMc fun m => { m with held := 0 }).bootRom else .next s

/-- PWR_QUIESCENT write (R502). -/
def execPwrQuiescent (rq : Rq) (val : Val) (wakeN : Bool) (s : State) : Out := .next (serveQuiescent rq val wakeN s)

/-- QUIESCENT_EXIT (R503): by WAKE_N, or by a ring frame, its HCRC good and its RING_ID the node's, that carries a request with data for the node. -/
def execQuiescentExit (byRing : Bool) (copy : RingCopy) (s : State) : Out :=
  let called := decide (s.obj Obj.PWR_VY_WAKE = 1) && copy.hcrcOk && decide (copy.ringId = s.obj Obj.VY_RING_ID) &&
    copy.requests.any fun x => decide (x.node = s.mc.node) && decide (0 < x.len)
  if s.power.quiescent = 2 ∧ (byRing = false ∨ called = true) then
    .next ((([0, 1] : List Nat).foldl (fun t r => t.setRequest r (some ⟨2, railNominal r, t.now, false⟩)) s).withPower fun p =>
      { p with quiescent := 3 })
  else .next s

/-- QUIESCENT_RAIL_RETRY (R503): 10 s after the timeout. -/
def execQuiescentRailRetry (rail : Fin 12) (ticks : Nat) (s : State) : Out :=
  match Map.get none s.power.failed (Key.unit rail) with
  | some q =>
    if s.power.quiescent = 3 ∧ 8000000 ≤ ticks ∧ s.railRequest rail = none then .next (s.setRequest rail (some { q with at_ := s.now })) else .next s
  | none => .next s

end Sys2Proof.Machine
end

