-- ==== Sys2Proof/Machine/Mc.lean ====
section
/-! DEFINITION. Security services, warm restarts, firmware upgrade, the bus matrix and the performance counters (R515 to R542), and their
meanings. -/

namespace Sys2Proof.Machine

/-! ## OTP and attestation (R516, R517, R520) -/

/-- An SV commit or owner fuse is complete. -/
def State.otpDone (s : State) : State := (s.raise Ev.OTP [s.obj Obj.SEC_OTP_SV]).measure 7 s.otpDigest

/-- SEC_SV_COMMIT, which completes `burned` bits. -/
def acceptSvCommit (burned : Nat) : Accept := fun _ _ s =>
  let sv := s.obj Obj.SEC_FW_SV
  let old := s.obj Obj.SEC_OTP_SV
  if sv ≤ old ∨ s.obj Obj.PWR_WARN_ACTIVE ≠ 0 ∨ s.mc.activating.isSome then (.precond, s)
  else
    let t := s.setObj Obj.SEC_OTP_SV (min (min sv 128) (old + burned))
    (.ok, if min sv 128 ≤ old + burned then t.otpDone else t)

/-- SEC_OWNER_FUSE. -/
def acceptOwnerFuse : Accept := fun _ v s =>
  let owned := match s.mc.running with
    | some x => x.ownerBlock && decide (x.ownerDigest = v.v)
    | none => false
  if s.obj Obj.SEC_OWNER_KEY_DIGEST ≠ 0 ∨ owned = false ∨ s.obj Obj.PWR_WARN_ACTIVE ≠ 0 then (.precond, s)
  else (.ok, (s.setObj Obj.SEC_OWNER_KEY_DIGEST v.v).otpDone)

/-- The first 120 bytes of an attestation report over a nonce. -/
def State.attestBody (s : State) (nonce : Nat) : Nat :=
  packBytes [(4, 1), (32, nonce), (32, s.obj Obj.ONION_CHAIN), (4, s.obj Obj.ONION_COUNT), (8, s.tick), (8, s.obj Obj.SEC_FW_VERSION),
    (32, s.obj Obj.DEV_ID_DIGEST)]

/-! ## Firmware upgrade (R525 to R527) -/

def State.stageState (s : State) : Nat := field (s.obj Obj.MC_FW_STAGE_STATE) 31 28
def State.setStageState (s : State) (state code : Nat) : State := s.setObj Obj.MC_FW_STAGE_STATE (state * 2 ^ 28 + code)

def State.setSlot (s : State) (slot : Nat) (x : Option FwImage) : State :=
  s.withMc fun m => if slot = 1 then { m with slotA := x } else { m with slotB := x }

/-- MC_FW_PROGRAM: the first sector of the slot is erased first. -/
def State.program (s : State) (slot : Nat) : Status × State :=
  if s.stageState ≠ 3 then (.precond, s)
  else if s.mc.programming.isSome then (.busy, s)
  else (.ok, ((s.setObj Obj.MC_FW_PROGRAM_STATE 1).setSlot slot none).withMc fun m => { m with programming := some (slot, s.staged) })

/-- A restart is asked for; of several before it starts, the first stands (R539). -/
def State.askRestart (s : State) (cause : Nat) : State :=
  s.withMc fun m => { m with restart := match m.restart with
    | some c => some c
    | none => some cause }

/-- Writes of class 0x03. -/
def acceptSecurity (burned : Nat) : Accept := fun k v s =>
  match k.m with
  | 0x05 => acceptSvCommit burned k v s
  | 0x08 => acceptOwnerFuse k v s
  | 0x0A => (.ok, (s.setObj Obj.SEC_ATTEST_STATE 1).withMc fun m => { m with nonce := some v.v })
  | 0x10 => (.ok, (s.setObj k v.v).setStageState 1 0)
  | 0x11 => if s.stageState = 0 then (.precond, s) else if s.stageState = 2 then (.busy, s) else (.ok, s.setStageState 2 0)
  | 0x13 => s.program v.v
  | 0x15 =>
    if s.stageState ≠ 3 then (.precond, s)
    else if s.mc.programming.isSome then (.busy, s)
    else (.ok, (s.askRestart 2).withMc fun m => { m with activating := some (s.obj Obj.SEC_FW_VERSION) })
  | _ => acceptStage k v s

/-! ## Performance counters (R534 to R538), numbered in dump-record order -/

def perfSel (c : Nat) : Key := if c < 32 then Obj.PERF_CORE_SEL (c / 16) (c % 16) else Obj.PERF_DP_SEL (c - 32)
def perfVal (c : Nat) : Key := if c < 32 then Obj.PERF_CORE_VAL (c / 16) (c % 16) else Obj.PERF_DP_VAL (c - 32)

/-- The counter is enabled and chained to the one before it. -/
def State.chained (s : State) (c : Nat) : Bool := bit (s.obj (perfSel c)) 31 && bit (s.obj (perfSel c)) 30 && decide (c % 2 = 1)

/-- A counter wraps: its bit in PERF_OVF, its interrupt (to pair `c / 16`, or to MC-A for the data path), and the event. -/
def State.perfWrapped (s : State) (c : Nat) : State :=
  let key := if c < 32 then Obj.PERF_CORE_OVF (c / 16) else Obj.PERF_DP_OVF ((c - 32) / 32)
  let t := s.setObj key (withBit (s.obj key) (if c < 32 then c % 16 else (c - 32) % 32) true)
  let quiet := decide (c % 2 = 0) && s.chained (c + 1)
  let u := if bit (s.obj (perfSel c)) 29 ∧ quiet = false then t.withMc fun m => { m with interrupts := m.interrupts ++ [c] } else t
  if c < 32 then u
  else
    let e := Key.unit ((c - 32) / 32)
    if Map.get 0 u.mc.overflowEpoch e = u.epoch + 1 then u
    else (u.raise Ev.PERF_OVERFLOW [u.obj key]).withMc fun m => { m with overflowEpoch := Map.set 0 m.overflowEpoch e (u.epoch + 1) }

/-- A counter advances; the carries out of it. -/
def State.perfAdd (s : State) (c n : Nat) : State × Nat :=
  let v := s.obj (perfVal c) + n
  let t := s.setObj (perfVal c) (v % 2 ^ 32)
  (if 2 ^ 32 ≤ v then t.perfWrapped c else t, v / 2 ^ 32)

/-- Events of a counter's selection: an enabled counter counts them unless it is chained or the counters are frozen. -/
def State.perfCount (s : State) (c n : Nat) : State :=
  if c < 96 ∧ s.obj Obj.PERF_FROZEN = 0 ∧ bit (s.obj (perfSel c)) 31 = true ∧ s.chained c = false then
    let (t, carry) := s.perfAdd c n
    if c % 2 = 0 ∧ s.chained (c + 1) = true then (t.perfAdd (c + 1) carry).1 else t
  else s

/-- PERF_FREEZE takes effect. -/
def State.freeze (s : State) (on : Bool) : State :=
  let t := s.setObj Obj.PERF_FROZEN on.toNat
  if on then (List.range 96).foldl (fun u c => u.setObj (Obj.PERF_SNAPSHOT c) (s.obj (perfVal c))) t else t

/-- The counter dump of this tick, where one is due; `words` of the 96 counter words reach the ring. -/
def State.dumpRecord (s : State) (words : Nat) : State :=
  let target := s.obj Obj.PERF_DUMP_TGT
  if target = 0 ∨ s.now < s.mc.dumpFrom + s.obj Obj.PERF_DUMP_PERIOD then s
  else
    let m := s.mc
    let t := s.withMc fun m => { m with dumpFrom := s.now, sequence := (m.sequence + 1) % 2 ^ 32 }
    let at_ := s.obj Obj.PERF_DUMP_WR
    let next := (at_ + 1) % s.obj Obj.PERF_DUMP_SIZE
    if next = s.obj Obj.PERF_DUMP_RD ∨ (target = 2 ∧ s.hbmServes = false) then (t.bump Obj.PERF_DUMP_DROP).withMc fun m => { m with dumpGap := true }
    else
      let n := min words 96
      let w0 := (decide (n < 96)).toNat * 2 ^ 31 + m.dumpGap.toNat * 2 ^ 30 + s.obj Obj.PERF_FROZEN % 2 * 2 ^ 29 + n
      let old := Map.get 0 m.dump (Key.unit at_)
      let counters := (List.range 96).map fun c => (4, if c < n then s.obj (perfVal c) else bytesOf 512 old (16 + 4 * c) 4)
      let record := packBytes ([(4, w0), (4, m.sequence), (8, s.tick)] ++ counters ++ [(112, 0)])
      (t.setObj Obj.PERF_DUMP_WR next).withMc fun m => { m with dumpGap := false, dump := Map.set 0 m.dump (Key.unit at_) record }

/-- A selection an entry may hold: a pair's own source, or sources 1 to 8; CHAIN on odd counters only, whose event is ignored. -/
def selectionFits (c v : Nat) : Bool :=
  let source := field v 11 8
  !bit v 31 || (if bit v 30 then decide (c % 2 = 1) else if c < 32 then decide (source = 0) else decide (1 ≤ source) && decide (source ≤ 8))

/-- A record count that is a power of two within a bound. -/
def isPowerOfTwo (v : Nat) : Bool := (List.range 32).any fun k => decide (v = 2 ^ k)

/-- Writes of class 0x04. -/
def acceptMc : Accept := fun k v s =>
  if k.i = 0xFF then
    match k.m with
    | 0x01 => (.ok, s.askRestart 1)
    | 0x10 => if selectionFits (32 + k.x) v.v then (.ok, s.stage k v.v) else (.range, s)
    | 0x14 => if v.v = 1 ∧ 512 < s.latest Obj.PERF_DUMP_SIZE then (.range, s) else (.ok, s.stage k v.v)
    | 0x15 => if v.v % 4096 ≠ 0 then (.range, s) else (.ok, s.stage k v.v)
    | 0x16 =>
      if ¬ isPowerOfTwo v.v ∨ (s.latest Obj.PERF_DUMP_TGT = 1 ∧ 512 < v.v) then (.range, s) else (.ok, s.stage k v.v)
    | 0x1B => (.ok, s.plan (s.now + 1) (.freeze (decide (v.v = 1))))
    | _ => acceptStage k v s
  else if k.m = 0x01 then (if selectionFits (16 * k.i + k.x) v.v then (.ok, s.stage k v.v) else (.range, s))
  else acceptStage k v s

/-- A selection commits and clears its counter; a target that turns the dump on starts its period. -/
def State.commitMc (s : State) (k : Key) (v : Nat) : State :=
  let t := s.setObj k v
  if k.i < 2 ∧ k.m = 0x01 then t.setObj (Obj.PERF_CORE_VAL k.i k.x) 0
  else if k.i = 0xFF ∧ k.m = 0x10 then t.setObj (Obj.PERF_DP_VAL k.x) 0
  else if k.i = 0xFF ∧ k.m = 0x14 ∧ s.obj k = 0 then t.withMc fun m => { m with dumpFrom := s.now }
  else t

/-! ## The bus matrix (R528, R531, R533) -/

/-- One access: a reserving read records its address; a write clears the other masters' trackers; a conditional write does so where its own
tracker still holds the address. -/
def State.busAccess (s : State) (a : BusAccess) : State :=
  s.withMc fun m =>
    let others := m.reserved.filter fun r => decide (r.1 ≠ a.master)
    match a.kind with
    | 0 => { m with reserved := others ++ [(a.master, a.addr)] }
    | 1 => { m with reserved := m.reserved.filter fun r => decide (r.1 = a.master) || decide (r.2 ≠ a.addr) }
    | _ =>
      if m.reserved.contains (a.master, a.addr) then { m with reserved := others.filter fun r => decide (r.2 ≠ a.addr) } else { m with reserved := others }

/-- Masters are reset in the middle of bursts. -/
def State.truncate (s : State) (masters : List Nat) (bursts : List Burst) : State :=
  let t := (bursts.filter fun b => masters.contains b.master).foldl (fun (t : State) b =>
    (t.bump Obj.MC_BUS_TRUNC).raise Ev.BUS_TRUNC [b.master, b.target, b.beats]) s
  t.withMc fun m => { m with reserved := m.reserved.filter fun r => !masters.contains r.1 }

/-- The matrix in a tick: its longest hold-back, and the accesses that bear on reservations. -/
def State.busTick (s : State) (hold : Nat) (accesses : List BusAccess) : State :=
  accesses.foldl State.busAccess (s.setObj Obj.MC_BUS_HOLD_PEAK (max (s.obj Obj.MC_BUS_HOLD_PEAK) (sat32 hold)))

/-! ## Warm restarts (R40, R341, R521 to R524) -/

/-- Work that management has staged and that is discarded; what hardware has begun goes on. -/
def stagedByHost : Due → Bool
  | .write k _ => match dictFind k.c k.i k.m with
    | some r => decide (r.acc ≠ .ro)
    | none => false
  | .acqRestart _ _ => true
  | .calStart _ => true
  | .bond _ => true
  | .coreTest _ _ => true
  | .client _ _ _ _ => true
  | .compileStart _ => true
  | .loupeFire => true
  | .domSleep _ _ => true
  | .domWake _ pin => !pin
  | .freeze _ => true
  | _ => false

/-- Requests whose answer is owed are answered BUSY and not served (R449). -/
def State.refuseOwed (s : State) : State :=
  let t := s.resyncs.foldl (fun (t : State) r => t.deliver r.2 r.1 .busy []) { s with resyncs := [] }
  let u := rampOrder.foldl (fun (u : State) d => match (u.dom d).request with
    | some rq => (u.withDom d fun x => { x with request := none }).deliver rq Op.write .busy []
    | none => u) t
  match u.power.quiescentBy with
  | some rq => (u.withPower fun p => { p with quiescent := 0, quiescentBy := none }).deliver rq Op.write .busy []
  | none => u

/-- The staged state is discarded (R523). DESIGN CHOICE (log entry 180): LDSP_TX_STATUS[0] of a transmitter write that is discarded stays 0 until
another one commits. -/
def State.discardStaged (s : State) : State :=
  let cals := [0, 1, 2, 3].foldl (fun (t : State) e => match (t.engine e).cal with
    | some (_, .requested) => t.withEngine e fun r => { r with cal := none }
    | _ => t) s
  { cals with
    load := none
    agenda := cals.agenda.filter fun p => !stagedByHost p.due
    timing := { cals.timing with toSet := none } }

/-- Key agreements in progress are abandoned, to be started again. -/
def State.abandonAgreements (s : State) : State :=
  [0, 1, 2, 3].foldl (fun (t : State) e =>
    if (t.link e).agreement.isSome then t.withLink e fun l => { l with agreement := none, again := true, wire := [] } else t) s

/-- A program that a restart ends leaves a slot without its header (R539). -/
def State.endProgram (s : State) : State :=
  match s.mc.programming with
  | some (slot, _) => ((s.setObj Obj.MC_FW_PROGRAM_STATE 4).setSlot slot none).withMc fun m => { m with programming := none }
  | none => s

/-- MC-A, MC-B and their DMA channels. -/
def restartMasters : List Nat := [0, 1, 4, 5, 6, 7, 8, 9, 10, 11]

/-- A warm restart begins (steps 1 and 2). -/
def State.beginRestart (s : State) (cause : Nat) (bursts : List Burst) : State :=
  let t := (s.refuseOwed.discardStaged.abandonAgreements.endProgram).setBoot 5 (if cause ≤ 2 then 5 else 4) 0
  let u := ((t.setObj Obj.MC_RESTART_CAUSE cause).bump Obj.MC_RESTART_COUNT).setObj Obj.MC_LAST_RESTART_TICK s.tick
  let v := if u.obj Obj.FI_STATE = 1 then (u.setObj Obj.FI_STATE 0).withInject fun x => { x with prepared := none } else u
  let w := if v.obj Obj.SEC_ATTEST_STATE = 1 then v.setObj Obj.SEC_ATTEST_STATE 0 else v
  (w.truncate restartMasters bursts).withMc fun m => { m with
    restart := none, restarting := some cause, starts := (s.now :: m.starts).take 3, remap := false, nonce := none, dma := [] }

/-- Steps 3 and 4: the resident image, or the staged one of an activation, is verified again; else the boot source. -/
def State.reverify (s : State) : State :=
  let t := match s.mc.restarting, s.mc.activating with
    | some 2, some _ => (s.measure 6 s.staged.digest).withMc fun m => { m with running := some s.staged }
    | _, _ => s
  match t.mc.running with
  | some x =>
    if t.checkImage x = 0 then
      (((t.measure 5 (Config.shake256 32 [⟨2, t.obj Obj.MC_RESTART_CAUSE⟩])).measureImage x).runImage x).setBoot 2 t.bar.bootCause 0
    else (t.withMc fun m => { m with activating := none }).loadSource
  | none => (t.withMc fun m => { m with activating := none }).loadSource

/-- Step 5. -/
def State.finishRestart (s : State) : State :=
  let t := s.eraseStage.setBoot 3 s.bar.bootCause 0
  let u := t.withStores fun y => { y with pages := y.pages.filter fun e => !decide (e.1.c = 7) }
  let v := [0, 1, 2, 3].foldl (fun (v : State) e => if (v.link e).again then v.startKa e else v) u
  let w := rampOrder.foldl State.switchClock v
  let x := if s.mc.restarting.isSome then w.raise Ev.MC_RESTART [w.obj Obj.MC_RESTART_CAUSE, w.obj Obj.SEC_FW_VERSION] else w
  let y := match s.mc.restarting, s.mc.activating with
    | some 2, some old => x.raise Ev.FW_ACTIVATED [old, x.obj Obj.SEC_FW_VERSION]
    | _, _ => x
  y.withMc fun m => { m with restarting := none, activating := none }

/-! ## Meanings -/

/-- SEC_SV_COMMIT write (R516); `burned` bits complete before power is lost, if it is. -/
def execSecSvCommit (rq : Rq) (val : Val) (burned : Nat) (s : State) : Out :=
  .next (serveWrite (acceptSecurity burned) rq Obj.SEC_SV_COMMIT val s)

/-- SEC_OWNER_FUSE write (R517). -/
def execSecOwnerFuse (rq : Rq) (val : Val) (s : State) : Out := .next (serveWrite (acceptSecurity 0) rq Obj.SEC_OWNER_FUSE val s)

/-- SEC_ATTEST_NONCE write (R520). -/
def execSecAttestNonce (rq : Rq) (val : Val) (s : State) : Out := .next (serveWrite (acceptSecurity 0) rq Obj.SEC_ATTEST_NONCE val s)

/-- ATTEST_DONE (R520). -/
def execAttestDone (s : State) : Out :=
  match s.mc.nonce with
  | some n =>
    if s.obj Obj.SEC_ATTEST_STATE ≠ 1 then .next s
    else
      let body := s.attestBody n
      let signature := Config.mlDsaSign (Config.shake256 32 [⟨6, asciiBytes "ATTEST"⟩, ⟨120, body⟩]) s.fresh
      let t := s.drawn.setObj Obj.SEC_ATTEST_REPORT (packBytes [(120, body), (3309, signature)])
      .next ((t.setObj Obj.SEC_ATTEST_STATE 2).withMc fun m => { m with nonce := none })
  | none => .next s

/-- LOCKSTEP_MISMATCH (R521): both pairs halt. -/
def execLockstepMismatch (pair : Fin 2) (s : State) : Out :=
  let t := (s.bump Obj.MC_LOCKSTEP_ERR).raise Ev.LOCKSTEP [pair]
  .next (if s.bar.bootState = 3 ∨ s.bar.bootState = 5 then t.askRestart 4 else t)

/-- WATCHDOG_EXPIRE (R522, R527): stopped while the ROM runs; an activated image that does not reach READY within 2 s leaves the running
region unverified. -/
def execWatchdogExpire (pair : Fin 2) (ms : Nat) (s : State) : Out :=
  if s.bar.bootState = 3 ∧ s.obj (Obj.MC_WDT_PERIOD pair) ≤ ms then .next (s.askRestart 3)
  else if s.bar.bootState = 5 ∧ s.mc.activating.isSome ∧ 2000 ≤ ms then
    .next ((s.askRestart 3).withMc fun m => { m with running := none, activating := none })
  else .next s

/-- MC_RESTART write (R522). -/
def execMcRestart (rq : Rq) (val : Val) (s : State) : Out := .next (serveWrite acceptMc rq Obj.MC_RESTART val s)

/-- WARM_RESTART (R523, R524): the third start within 8,000,000 ticks is not run. -/
def execWarmRestart (bursts : List Burst) (s : State) : Out :=
  match s.mc.restart with
  | none => .next s
  | some cause =>
    if 2 ≤ s.mc.starts.countP (fun t => decide (s.now < t + 8000000)) then
      .next ((s.setBoot 4 s.bar.bootCause 14).withMc fun m => { m with restart := none, restarting := none, activating := none, remap := false })
    else .next (s.beginRestart cause bursts)

/-- WARM_RESTART_READY (R523, R527); also the end of a recovery over PCIe while ticks run (R524). -/
def execWarmRestartReady (s : State) : Out :=
  if s.bar.bootState = 5 ∧ s.mc.restarting.isSome ∧ s.mc.restart = none then
    let t := s.reverify
    .next (if t.bar.bootState = 2 then t.finishRestart else t)
  else if s.bar.bootState = 2 ∧ s.running = true ∧ s.mc.initialising = false ∧ s.mc.remap = true then .next s.finishRestart
  else .next s

/-- MC_FW_CHECK write (R526). -/
def execMcFwCheck (rq : Rq) (val : Val) (s : State) : Out := .next (serveWrite (acceptSecurity 0) rq Obj.MC_FW_CHECK val s)

/-- FW_CHECK_DONE (R526). -/
def execFwCheckDone (s : State) : Out :=
  if s.stageState ≠ 2 then .next s
  else
    let code := s.checkImage s.staged
    let outcome := if code = 0 then 3 else 4
    .next ((s.setStageState outcome code).raise Ev.FW_CHECK [outcome, code])

/-- MC_FW_PROGRAM = 1 (R526). -/
def execMcFwProgramSlotA (rq : Rq) (s : State) : Out := .next (serveWrite (acceptSecurity 0) rq Obj.MC_FW_PROGRAM ⟨2, 1⟩ s)

/-- MC_FW_PROGRAM = 2 (R526). -/
def execMcFwProgramSlotB (rq : Rq) (s : State) : Out := .next (serveWrite (acceptSecurity 0) rq Obj.MC_FW_PROGRAM ⟨2, 2⟩ s)

/-- FW_PROGRAM_DONE (R526): the header is written last. -/
def execFwProgramDone (ok : Bool) (s : State) : Out :=
  match s.mc.programming with
  | some (slot, image) =>
    .next (((s.setObj Obj.MC_FW_PROGRAM_STATE (if ok then 3 else 4)).setSlot slot (if ok then some image else none)).withMc fun m =>
      { m with programming := none })
  | none => .next s

/-- MC_FW_ACTIVATE write (R527). -/
def execMcFwActivate (rq : Rq) (val : Val) (s : State) : Out := .next (serveWrite (acceptSecurity 0) rq Obj.MC_FW_ACTIVATE val s)

/-- PERF_COUNTER_OVERFLOW (R535): `count` events, which make the counter wrap. -/
def execPerfCounterOverflow (counter : Fin 96) (count : Nat) (s : State) : Out :=
  .next (if 2 ^ 32 ≤ s.obj (perfVal counter) + count then s.perfCount counter count else s)

/-- PERF_DUMP (R536): a record that misses cycle 2,495 names how many counter words it holds. -/
def execPerfDump (complete : Option Nat) (s : State) : Out := .next (s.dumpRecord (complete.getD 96))

/-- PERF_FREEZE = 1 (R538). -/
def execPerfFreeze (rq : Rq) (s : State) : Out := .next (serveWrite acceptMc rq Obj.PERF_FREEZE ⟨2, 1⟩ s)

/-- PERF_FREEZE = 0 (R538). -/
def execPerfResume (rq : Rq) (s : State) : Out := .next (serveWrite acceptMc rq Obj.PERF_FREEZE ⟨2, 0⟩ s)

end Sys2Proof.Machine
end

