-- ==== Sys2Proof/Machine/Ring.lean ====
section
/-! DEFINITION. The Vyusk ring: copies, the urgent area, request and reply slots, wraps, and the master (R437 to R449). -/

namespace Sys2Proof.Machine

def State.vyRole (s : State) : Nat := s.obj Obj.VY_ROLE
def State.vyNode (s : State) : Nat := s.mc.node

/-- The topology count of a master moves on at a change of presence, wrap or master (R439). -/
def State.nextTopo (s : State) : State := s.setObj Obj.VY_TOPO ((s.obj Obj.VY_TOPO + 1) % 2 ^ 16)

/-- EV_VY_WRAP. -/
def State.wrapEvent (s : State) (port : Nat) : State := s.raise Ev.VY_WRAP [port, s.obj Obj.VY_TOPO, s.obj Obj.VY_URG_TICKS]

/-- The urgent delivery bound of R448, from the loop delays in ns. -/
def urgentBound (wrapped : Bool) (e w : Nat) : Nat :=
  if wrapped then
    [2, e / 1250, w / 1250, ceilDiv (e + 200) 1250 + w / 2500, ceilDiv (w + 200) 1250 + e / 2500].foldl max 0
  else max 2 (max e w / 1250)

/-! ## Urgent entries (R440, R445) -/

/-- Own entries of a tick, the later ones first per export index: each index is sent once in a frame. -/
def mergeUrgent (old new : List RingUrgent) : List RingUrgent := old.filter (fun x => !new.any fun y => decide (y.index = x.index)) ++ new

/-- Every enabled export record, in answer to a change of TOPO. -/
def State.allExports (s : State) : List RingUrgent :=
  ((List.range 64).filter fun k => entryOn (s.active (Obj.PG_EXPORT k))).map fun k =>
    ⟨s.vyNode, k, s.tick - 2, Map.get 0 s.prot.available (Key.unit (field (s.active (Obj.PG_EXPORT k)) 16 0))⟩

/-- Entries for which no place is free wait for the next frame; they are counted, and reported at most once per epoch. -/
def State.defer (s : State) (n : Nat) : State :=
  if n = 0 then s
  else
    let t := s.bump Obj.VY_URG_DEFER n
    if t.ring.deferEpoch = t.epoch + 1 then t
    else (t.raise Ev.VY_URG_DEFER [t.obj Obj.VY_URG_DEFER]).withRing fun r => { r with deferEpoch := t.epoch + 1 }

def Ring.waiting (r : Ring) (port : Nat) : List RingUrgent := if port = 0 then r.wait0 else r.wait1
def Ring.setWaiting (r : Ring) (port : Nat) (xs : List RingUrgent) : Ring := if port = 0 then { r with wait0 := xs } else { r with wait1 := xs }
def Ring.last (r : Ring) (port : Nat) : List RingUrgent := if port = 0 then r.last0 else r.last1
def Ring.setLast (r : Ring) (port : Nat) (xs : List RingUrgent) : Ring := if port = 0 then { r with last0 := xs } else { r with last1 := xs }

/-- The own entries of this tick join those that wait for the copies of each port that is up. -/
def State.queueUrgent (s : State) : State :=
  let own := s.prot.urgent.map fun u => ({ node := s.vyNode, index := u.index, tick := u.tick, record := u.record } : RingUrgent)
  let put := fun (r : Ring) (p : Nat) => if s.obj (Obj.VY_PORT_STATE p) = 1 then r.setWaiting p (mergeUrgent (r.waiting p) own) else r
  s.withRing fun r => put (put r 0) 1

/-! ## Segments (R440 to R442) -/

/-- The frame of a response on the ring (R433): header, payload and trailer. -/
def Response.fields (r : Response) : List Fld :=
  [⟨1, 0x10⟩, ⟨1, 0x90⟩, ⟨1, r.op⟩, ⟨1, r.status⟩, ⟨4, r.txid⟩, ⟨4, payloadLength r.payload⟩, ⟨4, r.session⟩] ++ r.payload ++
    (match r.trailer with
      | some (counter, tag) => [⟨8, counter⟩, ⟨8, tag⟩]
      | none => [])

/-- Bytes of the response owed in a slot. -/
def Response.bytes (r : Response) : Nat := payloadLength r.fields

/-- `n` bytes of it from byte `k` on, as the 42 data bytes of a segment. -/
def Response.data (r : Response) (k n : Nat) : Nat :=
  bytesOf r.bytes (packBytes (r.fields.map fun x => (x.w, x.v))) k n * 256 ^ (42 - n)

/-- The reply segment that a slot's answer becomes, with the response's bytes moved on (R442). -/
def State.takeReply (s : State) (d : ReplyDue) : State :=
  let key := Key.unit d.slot
  let put := fun (t : State) (x : ReplySeg) => t.withRing fun r => { r with written := r.written ++ [x] }
  match d.data, Map.get none s.owed key with
  | true, some r =>
    let sent := Map.get 0 s.ring.sent key
    let len := min 42 (r.bytes - sent)
    let last := decide (r.bytes ≤ sent + len)
    let t := put s ⟨d.frame + 2, d.slot, decide (sent = 0), last, sent / 42 % 256, len, r.data sent len⟩
    if last then { t with owed := Map.set none t.owed key none }.withRing fun r => { r with sent := Map.set 0 r.sent key 0 }
    else t.withRing fun r => { r with sent := Map.set 0 r.sent key (sent + len) }
  | _, _ => put s ⟨d.frame + 2, d.slot, true, true, 0, 0, 0⟩

/-- The answers that the copies of a frame carry; one that no longer can be given falls away. -/
def State.takeReplies (s : State) (frame : Nat) : State :=
  let ready := s.ring.due.filter fun d => decide (d.frame + 2 = frame)
  let t := s.withRing fun r => { r with
    due := r.due.filter fun d => decide (frame < d.frame + 2), written := r.written.filter fun x => decide (frame < x.frame + 64) }
  ready.foldl State.takeReply t

/-- A request segment addressed to this node, taken from the first copy of its frame. -/
def State.takeRequest (s : State) (frame : Nat) (x : SegIn) : State :=
  let key := Key.unit x.slot
  if s.ring.due.any fun d => decide (d.slot = x.slot) && decide (d.frame = frame) then s
  else
    let answer := fun (t : State) (data : Bool) => t.withRing fun r => { r with due := r.due ++ [⟨x.slot, frame, data⟩] }
    let part := fun (t : State) (p : Option Partial) => t.withRing fun r => { r with parts := Map.set none r.parts key p }
    if x.first = true ∧ x.last = true ∧ x.len = 0 then answer s true
    else if x.first then
      let t := { s with owed := Map.set none s.owed key none }.withRing fun r => { r with sent := Map.set 0 r.sent key 0 }
      answer (part t (if x.last then none else some ⟨(x.seg + 1) % 256, frame⟩)) x.last
    else match Map.get none s.ring.parts key with
      | some p =>
        if p.next = x.seg ∧ p.frame + 1 = frame then answer (part s (if x.last then none else some ⟨(x.seg + 1) % 256, frame⟩)) x.last
        else answer (part s none) x.last
      | none => answer s x.last

/-! ## Injected ring faults (R475, kinds 5 to 7) -/

/-- An entry or slot whose bytes 0 to 3, or 4 to 7, a mask inverts, with its CRC made to fit where that is asked. -/
def corruptBytes (f : RingFault) (v : Nat) : Nat :=
  if f.area = 0 then
    let x := Nat.xor v (f.mask * 256 ^ 4)
    if f.recompute then x / 256 * 256 + entryCrc (x / 256) else x
  else
    let x := Nat.xor v (f.mask * 256 ^ 40)
    if f.recompute then x / 256 ^ 2 * 256 ^ 2 + ringCrc 46 (x / 256 ^ 2) else x

/-- One fault on the next copy of its port; a segment or entry that is held leaves the copy. -/
def State.applyRingFault (s : State) (c : RingCopy) (f : RingFault) : State × RingCopy :=
  let here := c.bytesAt f.area f.place
  match f.kind with
  | 6 => (s, c.writeAt f.area f.place (corruptBytes f here))
  | 7 => (if c.valid f.area f.place then s.withInject fun y => { y with held := y.held ++ [⟨f.port, f.area, f.place, here⟩] } else s,
      c.writeAt f.area f.place 0)
  | _ => (s, c.writeAt f.area f.place 0)

/-- What is held for a copy's port goes into its place where the copy leaves that free, and waits on otherwise (log 194). -/
def State.release (s : State) (c : RingCopy) (x : RingHeld) : State × RingCopy :=
  if c.valid x.area x.place then (s.withInject fun y => { y with held := y.held ++ [x] }, c) else (s, c.writeAt x.area x.place x.bytes)

/-- The faults that wait for the port apply to the copy; then what earlier copies left behind joins it. -/
def State.injectCopy (s : State) (c : RingCopy) : State × RingCopy :=
  let p := c.port.val
  let mine := s.inject.held.filter fun h => decide (h.port = p)
  let t := s.withInject fun y => { y with
    held := y.held.filter fun h => decide (h.port ≠ p), ring := y.ring.filter fun f => decide (f.port ≠ p) }
  let x := (s.inject.ring.filter fun f => decide (f.port = p)).foldl (fun x f => x.1.applyRingFault x.2 f) (t, c)
  mine.foldl (fun x h => x.1.release x.2 h) x

/-! ## A copy (R439, R441, R443 to R448) -/

/-- Copies that pass, with the port each leaves on; a failed port turns them back. -/
def State.outPort (s : State) (port : Nat) : Nat := if s.ring.failed.contains (1 - port) then port else 1 - port

def CopyOut.urgent (c : CopyOut) : List RingUrgent := urgentEntries ⟨0, c.bytes, 0, true⟩

def State.sendCopy (s : State) (c : CopyOut) : State :=
  s.withRing fun r => { (r.setLast c.port c.urgent) with out := r.out ++ [c] }

/-- Entries of other nodes take effect; bad CRCs are counted for the port. -/
def State.readUrgent (s : State) (c : RingCopy) : State :=
  let bad := c.urgent.countP (fun u => !u.crcOk) + c.requests.countP (fun x => !x.crcOk) + c.replies.countP (fun x => !x.crcOk)
  (c.urgent.filter fun u => u.crcOk && decide (u.node ≠ s.vyNode)).foldl (fun t u => t.receiveRemote u.node u.index u.tick u.record)
    (s.bump (Obj.VY_CRC_ERR c.port) bad)

/-- A response becomes ABANDONED, under the trailer counter it has. -/
def State.abandoned (s : State) (r : Response) : Response :=
  let tag : Option (Nat × Nat) := match s.findSession r.session true, r.trailer with
    | some k, some (c, _) =>
      let header : List Fld := [⟨1, 0x10⟩, ⟨1, 0x90⟩, ⟨1, r.op⟩, ⟨1, Status.abandoned.code⟩, ⟨4, r.txid⟩, ⟨4, 0⟩, ⟨4, r.session⟩]
      some (c, Config.frameTag (s.session k).key (r.session * 2 ^ 64 + c) (header ++ [⟨8, c⟩]))
    | _, _ => none
  { r with status := Status.abandoned.code, payload := [], trailer := tag }

/-- A node's master changed: responses that it owes become ABANDONED (R444). -/
def State.abandonOwed (s : State) : State :=
  let owed : Map (Option Response) := s.owed.foldl (fun m e => Map.set none m e.1 (e.2.map s.abandoned)) []
  { s with owed := owed }.withRing fun r => { r with sent := [] }

def State.setMaster (s : State) (m : Nat) : State :=
  let old := s.obj Obj.VY_MASTER
  if old = m then s
  else
    let t := (s.setObj Obj.VY_MASTER m).raise Ev.VY_MASTER [old, m]
    if old = 0xFFFF then t else t.abandonOwed

/-- A valid copy at a node that did not start it. -/
def State.passCopy (s : State) (c : RingCopy) : State :=
  let p := c.port.val
  let joined := bit c.present s.vyNode
  let a := (((s.setMaster c.master).setObj Obj.VY_PRESENT c.present).setObj Obj.VY_TOPO c.topo).setObj Obj.VY_URG_TICKS c.urg
  let b := a.setObj Obj.VY_STATE (if a.ring.failed ≠ [] then 3 else if joined then 2 else 1)
  let refresh := decide (b.ring.topo ≠ some c.topo)
  let d := b.withRing fun r => { r with topo := some c.topo, refresh := r.refresh || refresh }
  let e := if refresh then
      d.withRing fun r => { r with wait0 := mergeUrgent r.wait0 d.allExports, wait1 := mergeUrgent r.wait1 d.allExports }
    else d
  let f := e.readUrgent c
  let g := if c.looped then f
    else (c.requests.filter fun x => x.crcOk && decide (x.node = s.vyNode)).foldl (fun t x => t.takeRequest c.tick x) f
  let h := if c.looped then g else g.takeReplies c.tick
  let out := h.outPort p
  let turned := decide (out = p)
  let again := if turned ∧ h.ring.resend = some out then h.ring.last (1 - p) else []
  let free := 64 - c.urgent.length
  let own := again ++ h.ring.waiting p
  let sent := own.take free
  let i := (h.withRing fun r => { (r.setWaiting p (own.drop free)) with resend := if turned then none else r.resend }).defer (own.length - free)
  let unread := c.turn turned
  let answered := if c.looped then unread else putReplies unread i.vyNode (i.ring.written.filter fun x => decide (x.frame = c.tick))
  i.sendCopy ⟨p, out, unread.bytes, (putUrgent answered sent).bytes⟩

/-- Presence of a node at the master (R443). -/
def State.setPresent (s : State) (node : Nat) (on : Bool) : State :=
  if bit (s.obj Obj.VY_PRESENT) node = on then s
  else ((s.setObj Obj.VY_PRESENT (withBit (s.obj Obj.VY_PRESENT) node on)).nextTopo).raise Ev.VY_NODE [node, on.toNat]

/-- The answers to the frame two before, in one returning copy. -/
def State.countMisses (s : State) (c : RingCopy) : State :=
  let asked := s.ring.asked.filter fun a => decide (a.frame + 2 = c.tick)
  asked.foldl (fun t a =>
    let drop := fun (t : State) => t.withRing fun r => { r with asked := r.asked.filter fun b => !(decide (b.frame = a.frame) && decide (b.slot = a.slot)) }
    if c.replies.any fun x => x.crcOk && decide (x.slot = a.slot) && decide (x.node = a.node) then
      ((drop t).setObj (Obj.VY_MISSES a.node) 0).setPresent a.node true
    else if a.empty = 0 then
      t.withRing fun r => { r with asked := r.asked.map fun b => if b.frame = a.frame ∧ b.slot = a.slot then { b with empty := 1 } else b }
    else
      let n := min 65535 (t.obj (Obj.VY_MISSES a.node) + 1)
      let u := (drop t).setObj (Obj.VY_MISSES a.node) n
      if 3 ≤ n then u.setPresent a.node false else u) s

/-- A copy that the master started returns to it (R443, R448). -/
def State.returnCopy (s : State) (c : RingCopy) : State :=
  let a := (s.readUrgent c).countMisses c
  let b := a.setObj (Obj.VY_LOOP (if c.west then 1 else 0)) (sat32 c.delay)
  let d := b.setObj Obj.VY_STATE (if b.ring.failed ≠ [] then 3 else 2)
  let bound := fun (t : State) => t.setObj Obj.VY_URG_TICKS (min 255 (urgentBound t.ring.wrapped (t.obj (Obj.VY_LOOP 0)) (t.obj (Obj.VY_LOOP 1))))
  if c.looped then
    let due := d.now + (if c.delay % 1250 + 200 ≤ 1250 then 1 else 2)
    let e := d.withRing fun r => { r with
      unlooped := 0, relay := r.relay ++ (urgentEntries c).map fun u => (due, u) }
    if e.ring.wrapped then bound e
    else (bound (e.withRing fun r => { r with wrapped := true })).nextTopo.wrapEvent c.port
  else
    let e := d.withRing fun r => { r with unlooped := min 2 (r.unlooped + 1) }
    if e.ring.wrapped = true ∧ e.ring.unlooped = 2 then (bound (e.withRing fun r => { r with wrapped := false })).nextTopo.wrapEvent c.port
    else bound e

/-- A port has heard a valid copy. -/
def State.heardOn (s : State) (port : Nat) : State :=
  let t := s.withRing fun r => if port = 0 then { r with heard0 := some s.now } else { r with heard1 := some s.now }
  if t.ring.failed.contains port then t else t.setObj (Obj.VY_PORT_STATE port) 1

/-- A copy that is forwarded unread. -/
def State.forwardUnread (s : State) (c : RingCopy) : State :=
  let out := s.outPort c.port
  let unread := c.turn (decide (out = c.port.val))
  s.sendCopy ⟨c.port, out, unread.bytes, unread.bytes⟩

/-! ## The master's frame (R438, R443, R444, R448) -/

/-- The empty requests of a frame (R443): those named, and in free slots those that can wait no longer, so that each present node is addressed once per
epoch and each absent one once in 32 epochs. DESIGN CHOICE (log entry 222): a node that nothing addresses is addressed in the last frames that have
room. -/
def State.frameAsks (s : State) (asks : List RingAsk) : List RingAsk :=
  let named := asks.map (·.node.val)
  let fresh := fun (period : Nat) (xs : List Nat) => if s.tick % period = 0 then [] else xs
  let nodes := fun (on : Bool) (done : List Nat) => (List.range 64).filter fun k =>
    decide (k ≠ s.vyNode) && decide (bit (s.obj Obj.VY_PRESENT) k = on) && !(named ++ done).contains k
  let left := nodes true (fresh 32 s.ring.addressed) ++ (if s.epoch % 32 = 31 then nodes false (fresh 1024 s.ring.tried) else [])
  let slots := (List.range 8).filter fun k => !(asks.map (·.slot.val)).contains k
  asks ++ (slots.zip (left.take (left.length - 8 * (31 - s.phase)))).map fun x => ⟨Fin.ofNat 8 x.1, Fin.ofNat 64 x.2⟩

/-- At a boundary the master starts a frame, with empty requests in the slots named and those that are due. -/
def State.startFrame (s : State) (named : List RingAsk) : State :=
  if s.vyRole ≠ 1 then s.withRing fun r => { r with frame := none }
  else
    let asks := s.frameAsks named
    let present := withBit (s.obj Obj.VY_PRESENT) s.vyNode true
    let t := ((s.setMaster s.vyNode).setObj Obj.VY_PRESENT present)
    let due := (t.ring.relay.filter fun x => decide (x.1 ≤ t.now)).map (·.2)
    let refresh := decide (t.ring.topo ≠ some (t.obj Obj.VY_TOPO))
    let own := (t.prot.urgent.map fun u => ({ node := t.vyNode, index := u.index, tick := u.tick, record := u.record } : RingUrgent))
    let mine := mergeUrgent (t.ring.wait0) (if refresh then mergeUrgent t.allExports own else own)
    let all := due ++ mine
    let u := t.withRing fun r => { r with
      relay := r.relay.filter fun x => decide (t.now < x.1)
      topo := some (t.obj Obj.VY_TOPO), wait0 := all.drop 64, wait1 := []
      frame := some ⟨t.tick, t.obj Obj.VY_URG_TICKS, t.obj Obj.VY_TOPO, present, r.wrapped, all.take 64, asks⟩
      asked := r.asked.filter (fun a => decide (t.tick < a.frame + 64)) ++ asks.map fun a => ⟨t.tick, a.slot, a.node, 0⟩
      addressed := (if t.tick % 32 = 0 then [] else r.addressed) ++ asks.map (·.node.val)
      tried := (if t.tick % 1024 = 0 then [] else r.tried) ++ asks.map (·.node.val) }
    u.defer (all.length - 64)

/-- A copy of the frame that the master started in this tick, as it leaves VY0 (east) or VY1 (west). -/
def State.frameCopy (s : State) (west : Bool) : Option Nat := s.ring.frame.map fun f => f.copy s.vyNode (s.obj Obj.VY_RING_ID) west

/-- The ring at a boundary: last tick's copies are gone, a silent ring is DOWN, and the master starts its frame. -/
def State.ringBoundary (s : State) (asks : List RingAsk) : State :=
  let quiet : Option Nat → Bool := fun h => match h with
    | some t => decide (t + 5 ≤ s.now)
    | none => true
  let a := s.withRing fun r => { r with out := [], refresh := false }
  let down := fun (t : State) (p : Nat) => if t.obj (Obj.VY_PORT_STATE p) = 1 then (t.setObj (Obj.VY_PORT_STATE p) 0).withRing (·.setWaiting p []) else t
  let b := if quiet s.ring.heard0 then down a 0 else a
  let c := if quiet s.ring.heard1 then down b 1 else b
  let d := if quiet s.ring.heard0 ∧ quiet s.ring.heard1 then
      (if c.vyRole = 1 then c else c.setObj Obj.VY_MASTER 0xFFFF).setObj Obj.VY_STATE 0
    else c
  (if d.vyRole = 1 then d else d.queueUrgent).startFrame asks

/-! ## Meanings -/

/-- RING_COPY_RECEIVE (R441, R443 to R448). -/
def execRingCopyReceive (copy : RingCopy) (s : State) : Out :=
  if ¬ s.alive then .next s
  else
    let (t, c) := (s.loupeFrame copy).injectCopy copy
    if ¬ c.hcrcOk then .next ((t.bump (Obj.VY_CRC_ERR c.port)).forwardUnread c)
    else if c.ringId ≠ t.obj Obj.VY_RING_ID then .next ((t.bump Obj.VY_FOREIGN).forwardUnread c)
    else
      let u := t.heardOn c.port
      if u.vyRole = 1 ∧ c.master = u.vyNode then .next (u.returnCopy c)
      else if u.vyRole = 1 ∧ u.vyNode < c.master then .next (u.forwardUnread c)
      else .next ((if u.vyRole = 1 then u.setObj Obj.VY_ROLE 2 else u).passCopy c)

/-- STANDBY_TAKEOVER (R444), for the coming boundary: no valid copy on either port for 4 ticks. -/
def execStandbyTakeover (s : State) : Out :=
  let silent := fun (h : Option Nat) => match h with
    | some t => decide (t + 4 ≤ s.now)
    | none => true
  if s.alive = true ∧ s.vyRole = 2 ∧ silent s.ring.heard0 = true ∧ silent s.ring.heard1 = true then
    .next (s.atBoundary fun t => (((t.setObj Obj.VY_ROLE 1).setMaster t.vyNode).nextTopo))
  else .next s

/-- VY_PORT_FAIL (R447): block lock lost, or no valid copy for 2 ticks while copies arrive on the other port. -/
def execVyPortFail (port : Fin 2) (lockLost : Bool) (silent : Nat) (s : State) : Out :=
  let other := if port.val = 0 then s.ring.heard1 else s.ring.heard0
  let elsewhere := match other with
    | some t => decide (s.now ≤ t + 2)
    | none => false
  if s.alive = true ∧ s.ring.failed.contains port.val = false ∧ (lockLost = true ∨ (2 ≤ silent ∧ elsewhere = true)) then
    let t := (s.setObj (Obj.VY_PORT_STATE port) 2).withRing fun r =>
      { (r.setWaiting port []) with failed := r.failed ++ [port.val], resend := some (1 - port.val) }
    .next ((t.setObj Obj.VY_STATE 3).wrapEvent port)
  else .next s

/-- VY_UNWRAP (R447): block lock for 800 ticks, at a frame whose TICK is a multiple of 32. -/
def execVyUnwrap (port : Fin 2) (locked frame : Nat) (s : State) : Out :=
  if s.ring.failed.contains port.val = true ∧ 800 ≤ locked ∧ frame % 32 = 0 then
    let t := (s.setObj (Obj.VY_PORT_STATE port) 1).withRing fun r => { r with failed := r.failed.filter (· ≠ port.val), resend := none }
    .next ((t.setObj Obj.VY_STATE (if t.ring.failed ≠ [] then 3 else 2)).wrapEvent port)
  else .next s

end Sys2Proof.Machine
end

