-- ==== Sys2Proof/Machine/Overrun.lean ====
section
/-! DEFINITION. A tick-bound engine misses its deadline: the substitution of R27, and the account of R30 and R31. -/

namespace Sys2Proof.Machine

/-- The engine of a budget bit runs: those of the Prism die while their power domain is On (R485). -/
def State.engineRuns (s : State) (bit_ : Nat) : Bool :=
  s.running && (if bit_ ≤ 5 then s.domOn 18 else if bit_ = 6 then s.domOn 17 else true)

/-- Bit 0: positions left unwritten. -/
def State.missWrites (s : State) (positions : List Nat) : State :=
  let half := s.tick % 2
  s.withPrism fun p => p.setHalf half (p.words half) ((p.unwritten half ++ positions).dedup) (p.mode half)

/-- Bit 1: output words not read. -/
def State.missReads (s : State) (positions : List Nat) : State :=
  let hit := fun (w : OutWord) => positions.contains w.pos && !w.tag
  let n := s.prism.output.countP hit
  (s.withPrism fun p => { p with output := p.output.map fun w => if hit w then ⟨w.pos, aisFill, true⟩ else w }).bump Obj.PRISM_SUBST_COUNT n

/-- Bit 2: points not assembled repeat their previous record, marked STALE. -/
def State.missPoints (s : State) (points : List Nat) : State :=
  s.withProt fun p => { p with
    records := points.foldl (fun m x => Map.set 0 m (Key.unit x) (withBit (Map.get 0 p.available (Key.unit x)) 15 true)) p.records }

/-- The evaluation of this tick declared or cleared a group's dFOP: cause 2 is its own (R297). -/
def fopEvaluated (before now : PgRun) : Bool := (decide (before.fop = 2) != decide (now.fop = 2)) && decide (now.fop = 0 ∨ now.fop = 2)

/-- A group's dFOP as it stood before the evaluation of this tick. -/
def State.undoFop (s : State) (g fop : Nat) : State :=
  let mine := fun (r : EvRec) => (decide (r.code = Ev.PG_FOP.code) || decide (r.code = Df.fop)) && decide (r.tick = s.tick) &&
    decide ((r.content.headD ⟨0, 0⟩).v = g)
  { s.setPgRun g { s.pgRun g with fop := fop } with
    changes := s.changes.filter fun r => !mine r
    defects := Map.set 0 s.defects (defectKey Df.fop g) (Map.get 0 s.prot.fopBefore (Key.unit g)) }

/-- A group's command as it stood before the evaluation of this tick. -/
def State.undoCommand (s : State) (g : Nat) : State :=
  let k := Obj.PG_CMD g
  let cmd := Map.get 0 s.prot.cmdBefore (Key.unit g)
  if s.active k = cmd then s
  else
    let t := { s with act := Map.set (objDefault k) s.act k cmd }
    if t.prot.cmdWritten.contains g then t else t.setShadow k (Map.get 0 s.prot.cmdShadowBefore (Key.unit g))

/-- Bit 3: a group not evaluated keeps its previous state and selector, its command, its dFOP and the APS bytes it sends; what its evaluation
reported in this tick is undone. What it has received in this tick stays. -/
def State.missGroup (s : State) (g : Nat) : State :=
  let before := Map.get {} s.prot.groupsBefore (Key.unit g)
  let now := s.pgRun g
  let a := if before.selector != now.selector then s.setObj (Obj.PG_SWITCH_COUNT g) (s.obj (Obj.PG_SWITCH_COUNT g) - 1) else s
  let b := (if fopEvaluated before now then a.undoFop g before.fop else a).undoCommand g
  let c := b.setObj (Obj.PG_APS_TX g) (Map.get 0 s.prot.apsBefore (Key.unit g))
  let mine := fun (r : EvRec) => (decide (r.code = Ev.PG_SWITCH.code) || decide (r.code = Ev.PSC_MOVE.code) || decide (r.code = requestChange)) &&
    decide (r.tick = s.tick) && decide ((r.content.headD ⟨0, 0⟩).v = g)
  let on := before.selector || before.bridge
  let kept := { before with fop := (b.pgRun g).fop, aps := { now.aps with mismatchSince := before.aps.mismatchSince } }
  { c.setPgRun g kept with changes := c.changes.filter fun r => !mine r }.withProt fun p => { p with
    published := if on then p.published.filter (· ≠ g) ++ [g] else p.published.filter (· ≠ g) }

/-- Bit 5: the previous tick's FFF and APS bytes. -/
def State.missInsertion (s : State) : State :=
  let t := [0, 1, 2, 3].foldl (fun (t : State) e => t.setObj (Obj.OH_FFF_TX_MAP e) (Map.get 0 s.prot.fffBefore (Key.unit e))) s
  (groupsOf s.act).foldl (fun (t : State) g => t.setObj (Obj.PG_APS_TX g.1) (Map.get 0 s.prot.apsBefore (Key.unit g.1))) t

/-- Bit 6: the working copy for a merge group's undecided frame. -/
def State.missMerge (s : State) (m : Nat) : State :=
  match (s.mm m).output, s.mmGroup m with
  | some (q, protect), some (g, _) =>
    let t := s.withMm m fun r => { r with output := some (q, false) }
    if protect ∧ prefersProtect (s.pgRun g).request = false then t.setObj (Obj.MM_FROM_OTHER m) (s.obj (Obj.MM_FROM_OTHER m) - 1) else t
  | _, _ => s

/-- Bits 7 and 8: copies that came in on the port leave with the urgent entries they came with and no replies. -/
def State.missRing (s : State) (port : Nat) : State :=
  s.withRing fun r =>
    let spoil := fun (c : CopyOut) => if c.came = port then { c with bytes := c.unread } else c
    let out := r.out.map spoil
    out.foldl (fun q c => if c.came = port then q.setLast c.port c.urgent else q) { r with out := out }

/-- Bit 9: the record of this tick is INCOMPLETE, with the counter words written. -/
def State.missDump (s : State) (words : Nat) : State :=
  let size := s.obj Obj.PERF_DUMP_SIZE
  let at_ := Key.unit ((s.obj Obj.PERF_DUMP_WR + size - 1) % size)
  if s.mc.dumpFrom = s.now ∧ bytesOf 512 (Map.get 0 s.mc.dump at_) 8 8 = s.tick then
    s.withMc fun m =>
      let r := Map.get 0 m.dump at_
      let w0 := withField (withBit (bytesOf 512 r 0 4) 31 true) 15 0 (min words 95)
      { m with dump := Map.set 0 m.dump at_ (withBytes 512 r 0 4 w0) }
  else s.dumpRecord (min words 95)

/-- The substitution of an engine, for what the miss affects, and its account. -/
def State.missDeadline (s : State) (engine : Nat) (affected : List Nat) : State :=
  if ¬ s.engineRuns engine then s
  else
    let t := match engine with
      | 0 => s.missWrites affected
      | 1 => s.missReads affected
      | 2 => s.missPoints affected
      | 3 => affected.foldl State.missGroup s
      | 4 => s.withProt fun p => { p with publishMissed := true }
      | 5 => s.missInsertion
      | 6 => affected.foldl State.missMerge s
      | 7 => s.missRing 0
      | 8 => s.missRing 1
      | _ => s.missDump (affected.headD 0)
    t.overrun engine

/-- TICK_OVERRUN (R27, R30, R31, R33): `affected` are positions, points, groups or merge groups; for the dump, the counter words written. -/
def execTickOverrun (engine : Fin 10) (affected : List Nat) (s : State) : Out := .next (s.missDeadline engine affected)

end Sys2Proof.Machine
end

