-- ==== Sys2Proof/Machine/FaultInjection.lean ====
section
/-! DEFINITION. Fault injection (R472 to R477). -/

namespace Sys2Proof.Machine

/-! ## Slots (R474, R475) -/

/-- The bits of TARGET and PARAM that a kind names; a kind of overhead defect without a parameter names none of [27:0]. -/
def slotMasks (kind param : Nat) : Nat × Nat :=
  let d2d := 0x3FF8000
  let ring := 0x3FE0000
  match kind with
  | 1 => (d2d, 0x80000000)
  | 2 => (d2d + 0x200, 0xFFFFFFFF)
  | 3 => (d2d, 0)
  | 4 => (d2d + 0x7C00, 0)
  | 5 => (ring, 0)
  | 6 => (ring + 0x10000, 0xFFFFFFFF)
  | 7 => (ring, 0)
  | 8 => (0x307FFFF, if field param 31 28 = 2 ∨ field param 31 28 = 5 then 0xFFFFFFFF else 0xF0000000)
  | 9 => (0x3000000, 0xFFFF)
  | 10 => (0x1F, 0xFFFFFFFF)
  | 11 => (0x3FFFFFF, 0xFFFFFFFF)
  | 12 => (0xF, 0)
  | _ => (0x3FFFFFF, 0xFFFFFFFF)

/-- The slot as it is stored. -/
def slotStored (v : Nat) : Nat :=
  let f := decodeSlot v
  let (t, p) := slotMasks f.kind f.param
  withField (withField v 121 96 (Nat.land f.target t)) 95 64 (Nat.land f.param p)

def FiSlot.link (f : FiSlot) : Nat := field f.target 25 23
def FiSlot.direction (f : FiSlot) : Nat := field f.target 22 22
def FiSlot.group (f : FiSlot) : Nat := field f.target 21 15

/-- Targets and parameters within their range; a slot that is not in use is not checked. -/
def FiSlot.fits (f : FiSlot) : Bool :=
  !f.on || (match f.kind with
    | 1 | 2 | 3 | 4 => decide (f.link ≤ 5) && groupExists f.link f.group
    | 5 | 6 | 7 => decide (field f.target 24 23 ≤ 2) && (decide (field f.target 24 23 = 0) || decide (field f.target 22 17 < 8))
    | 8 => decide (1 ≤ field f.param 31 28) && decide (field f.param 31 28 ≤ 8) &&
      (decide (field f.param 31 28 ≠ 2) || decide (field f.param 27 0 < 600))
    | 9 => true
    | 10 => decide (f.target ≤ 16) && decide (1 ≤ field f.param 31 20) && decide (field f.param 19 0 < 1000000)
    | 11 => decide (field f.target 25 22 ≤ 7) && decide (field f.target 21 0 < regionPages (field f.target 25 22)) && decide (1 ≤ field f.param 30 24)
    | 12 => decide (f.target ≤ 9)
    | _ => false)

/-- Occurrence k of a slot falls in the tick `t` ticks after arming. -/
def FiSlot.occurs (f : FiSlot) (t : Nat) : Bool :=
  let p := max 1 f.period
  f.on && decide (f.start ≤ t) && decide ((t - f.start) % p = 0) && (decide (f.count = 0) || decide ((t - f.start) / p < f.count))

/-- Writes of FI_SLOT and FI_DURATION. -/
def acceptInjection : Accept := fun k v s =>
  if k.m = 0x05 ∧ (decodeSlot (slotStored v.v)).fits = false then (.range, s)
  else if s.obj Obj.FI_STATE ≠ 0 then (.busy, s)
  else (.ok, s.stage k (if k.m = 0x05 then slotStored v.v else v.v))

/-! ## Arming (R472, R473) -/

/-- The facility disarms, and every continuing effect ends. -/
def State.disarm (s : State) (cause : Nat) : State :=
  let freed := s.inject.lanes.filter fun x => decide (s.obj (Obj.D2D_SPARE_MAP x.1 (spareEntry x.2.1 x.2.2.1)) = 0x8000 + x.2.2.2)
  let kept := s.inject.lanes.filter fun x => !freed.contains x
  let group := fun (x : Nat × Nat × Nat × Nat) => (x.1, x.2.1, x.2.2.1)
  let t := s.withStores fun y => { y with
    pages := y.pages.foldl (fun m e => Map.set {} m e.1 { e.2 with stuck := [] }) []
    regained := (y.regained ++ freed.map group).dedup
    dead := y.dead.filter fun g => !(kept.map group).contains g
    short := y.short.filter fun g => !(kept.map group).contains g }
  let u := t.withInject fun x => { x with ring := [], forced := [], lanes := [], badWords := [], badXor := [] }
  (u.setObj Obj.FI_STATE 0).raise Ev.FI_DISARMED [cause]

/-- FI_STATE returns to IDLE by a write of the host. -/
def State.idleInjection (s : State) : State :=
  if s.obj Obj.FI_STATE = 2 then s.disarm 2 else (s.setObj Obj.FI_STATE 0).withInject fun x => { x with prepared := none }

/-- A write of FI_ARM by a session. -/
def State.writeArm (s : State) (session v : Nat) : Status × State :=
  let state := s.obj Obj.FI_STATE
  if state = 0 ∧ v = 0xA1 then (.ok, (s.setObj Obj.FI_STATE 1).withInject fun x => { x with prepared := some (session, s.now) })
  else if state = 1 ∧ v = 0x5E then
    match s.inject.prepared with
    | some (owner, since) =>
      if owner ≠ session ∨ since + 800 < s.now then (.ok, s.idleInjection)
      else
        let slots := (List.range 16).countP fun x => (s.fiSlot x).on
        if slots = 0 then (.precond, s)
        else
          let t := (s.setObj Obj.FI_STATE 2).withInject fun x => { x with prepared := none, armedAt := s.now, lastHit := [] }
          (.ok, t.raise Ev.FI_ARMED [slots, s.obj Obj.FI_DURATION])
    | none => (.ok, s.idleInjection)
  else (.ok, s.idleInjection)

/-- A write of FI_ARM. -/
def serveArm (rq : Rq) (val : Val) (s : State) : State :=
  serve Op.write 1 rq (fun x t =>
    match checkWrite x.role .write Obj.FI_ARM val with
    | .error st => { status := st, state := t }
    | .ok (_, v) => let (st, u) := t.writeArm rq.session v.v; { status := st, state := u }) s

/-! ## Occurrences (R475, R476) -/

/-- A word inverted by a mask has a byte whose parity fails. -/
def parityFails (mask : Nat) : Bool :=
  (List.range 4).any fun b => ((List.range 8).countP fun i => bit mask (8 * b + i)) % 2 = 1

/-- A word corrupted undetected, at input positions of the half being written or at output positions read in this tick. -/
def State.corruptWords (s : State) (direction mask : Nat) (positions : List Nat) : State :=
  s.withPrism fun p =>
    if direction = 0 then { p with corrupt := p.corrupt ++ positions.map fun x => (x, mask) }
    else { p with output := p.output.map fun w => if positions.contains w.pos ∧ w.tag = false then { w with word := Nat.xor w.word mask } else w }

/-- Parity bits of stored words inverted: the words of a data slice that it holds itself, or what slice 16 holds. -/
def State.corruptParity (s : State) (slice words first : Nat) : State :=
  let p := s.prism
  let stripes := (List.range words).map (first / 16 + ·)
  if p.fenced.contains slice then s
  else if slice < 16 then s.withInject fun x => { x with badWords := (x.badWords ++ stripes.map (16 * · + slice)).dedup }
  else match p.carried with
    | some k => s.withInject fun x => { x with badWords := (x.badWords ++ stripes.map (16 * · + k)).dedup }
    | none => s.withInject fun x => { x with badXor := (x.badXor ++ stripes).dedup }

/-- Bits of a page inverted, and held so where they are stuck. -/
def State.corruptPage (s : State) (g page first n : Nat) (stuck : Bool) : State :=
  let p := s.page g page
  let bits := (List.range n).map (first + ·)
  let flip := fun (xs : List Nat) => xs.filter (fun b => !bits.contains b) ++ bits.filter fun b => !xs.contains b
  s.setPage g page { p with
    wrong := flip p.wrong
    stuck := if stuck then (p.stuck ++ bits).dedup else p.stuck
    carried := if p.copying then flip p.carried else p.carried }

/-- The effect of one occurrence within its tick: connections with a word in the block, and what else it affects. -/
def State.strike (s : State) (slot : Nat) (conns affected : List Nat) : State :=
  let f := s.fiSlot slot
  let up := decide (s.d2dState f.link ≠ 0)
  match f.kind with
  | 1 => if ¬ up then s else if bit f.param 31 then s.replayFails f.link f.direction f.group 8 conns else s.bump (Obj.D2D_REPLAY f.link)
  | 2 =>
    if ¬ up ∨ f.param = 0 then s
    else if bit f.target 9 = false ∧ parityFails f.param then (s.bump (Obj.D2D_PARITY_ERR f.link)).bump (Obj.D2D_REPLAY f.link)
    else s.corruptWords f.direction f.param affected
  | 3 => if up then s.bump (Obj.D2D_REPLAY f.link) else s
  | 4 =>
    if ¬ up then s
    else
      let lane := field f.target 14 10
      (s.withInject fun x => { x with lanes := (x.lanes ++ [(f.link, f.direction, f.group, lane)]).dedup }).plan (s.now + 1)
        (.laneSpare f.link f.direction f.group lane)
  | 8 | 9 => s.withInject fun x => { x with forced := (x.forced ++ [slot]).dedup }
  | 10 => s.corruptParity f.target (field f.param 31 20) (field f.param 19 0)
  | 11 => s.corruptPage (field f.target 25 22) (field f.target 21 0) (field f.param 23 0) (field f.param 30 24) (bit f.param 31)
  | 12 => s.missDeadline f.target affected
  | _ => s.withInject fun x => { x with ring := x.ring ++
      [⟨field f.target 25 25, f.kind, field f.target 24 23, field f.target 22 17, f.param, bit f.target 16⟩] }

/-- Kinds that take effect from the tick boundary that begins their tick. -/
def fromBoundary (kind : Nat) : Bool := decide (kind = 8) || decide (kind = 9)

/-- An occurrence that falls in the current tick, once. -/
def State.occurrence (s : State) (slot : Nat) (conns affected : List Nat) : State :=
  let key := Key.unit slot
  if s.obj Obj.FI_STATE = 2 ∧ s.now < s.inject.armedAt + s.obj Obj.FI_DURATION ∧
      (s.fiSlot slot).occurs (s.now - s.inject.armedAt) = true ∧ Map.get 0 s.inject.lastHit key ≠ s.now + 1 then
    ((s.withInject fun x => { x with lastHit := Map.set 0 x.lastHit key (s.now + 1) }).bump (Obj.FI_HITS slot)).strike slot conns affected
  else s

/-- Occurrences of the current tick for which no command has come. -/
def State.occurrences (s : State) (boundary : Bool) : State :=
  (List.range 16).foldl (fun t x => if fromBoundary (t.fiSlot x).kind == boundary then t.occurrence x [] [] else t) s

/-- The timers of R472 and R473 at a boundary. -/
def State.injectionTimers (s : State) : State :=
  match s.obj Obj.FI_STATE, s.inject.prepared with
  | 1, some (_, since) => if since + 800 < s.now then s.idleInjection else s
  | 2, _ => if s.inject.armedAt + s.obj Obj.FI_DURATION ≤ s.now then s.disarm 1 else s
  | _, _ => s

/-! ## Meanings -/

/-- FI_ARM = 0xA1 (R472). -/
def execFiArmPrepare (rq : Rq) (s : State) : Out := .next (serveArm rq ⟨4, 0xA1⟩ s)

/-- FI_ARM = 0x5E (R472). -/
def execFiArmConfirm (rq : Rq) (s : State) : Out := .next (serveArm rq ⟨4, 0x5E⟩ s)

/-- FI_ARM = 0 (R472). -/
def execFiDisarm (rq : Rq) (s : State) : Out := .next (serveArm rq ⟨4, 0⟩ s)

/-- FI_PREPARE_TIMEOUT (R472). -/
def execFiPrepareTimeout (s : State) : Out :=
  match s.obj Obj.FI_STATE, s.inject.prepared with
  | 1, some (_, since) => if since + 800 ≤ s.now then .next s.idleInjection else .next s
  | _, _ => .next s

/-- FI_DURATION_EXPIRE (R473), for the coming boundary. -/
def execFiDurationExpire (s : State) : Out :=
  .next (s.atBoundary fun t => if t.obj Obj.FI_STATE = 2 ∧ t.inject.armedAt + t.obj Obj.FI_DURATION ≤ t.now then t.disarm 1 else t)

/-- FI_OCCURRENCE (R476): in this tick, or for kinds 8 and 9 from the coming boundary. -/
def execFiOccurrence (slot : Fin 16) (conns affected : List Nat) (s : State) : Out :=
  .next (if fromBoundary (s.fiSlot slot).kind then s.atBoundary fun t => t.occurrence slot conns affected else s.occurrence slot conns affected)

/-- FI_SLOT write (R475). -/
def execFiSlotWrite (rq : Rq) (slot : Nat) (val : Val) (s : State) : Out := .next (serveWrite acceptInjection rq (Obj.FI_SLOT slot) val s)

end Sys2Proof.Machine
end

