-- ==== Sys2Proof/Machine/Accept.lean ====
section
/-! DEFINITION. A write of any object: the access code's effect (R415), the WS set (R247 to R249, R224), and each class's own checks. -/

namespace Sys2Proof.Machine

/-! ## What is stored of a WS element (R9, R217 to R220, R279, R280, R300, R405) -/

/-- The bits of an endpoint word that its type names. -/
def endpointMask (type : Nat) : Nat :=
  [0, 0x0FC00000, 0x0FFFFF80, 0x0FFFFFFF, 0x0FFFFFFF, 0x0F3FFF80, 0x0E00FFFF, 0x0FCFFFFF, 0x0007FFFF, 0x0000FFFF, 0x3, 0xF].getD type 0

def endpointStored (w : Nat) : Nat := epType w * 2 ^ 28 + Nat.land w (endpointMask (epType w))

/-- Eight words put together. -/
def packWords (ws : List Nat) : Nat := packBytes (ws.map fun w => (4, w))

def connStored (v : Nat) : Nat :=
  let w := entryWord v
  packWords [Nat.land (w 0) 0xF80FFFFF, endpointStored (w 1), endpointStored (w 2), w 3, w 4 % 2 ^ 20, w 5 % 2 ^ 20, w 6, 0]

def groupStored (v : Nat) : Nat :=
  let w := entryWord v
  let type := field (w 0) 30 27
  let assigned := decide (1 ≤ type) && decide (type ≤ 9)
  let w2 := if type = 5 then w 2 % 2 ^ 19 else if assigned then endpointStored (w 2) else w 2
  let w7 := if type = 7 ∨ type = 8 then 0 else if type = 9 then Nat.land (w 7) 0xFFE01FFF else if assigned then Nat.land (w 7) 0xFE00FFFF else w 7
  packWords [Nat.land (w 0) 0xFFFE0000, if assigned then endpointStored (w 1) else w 1, w2, w 3 % 2 ^ 17, w 4 % 2 ^ 17, w 5 % 2 ^ 24, w 6, w7]

def profileStored (v : Nat) : Nat :=
  let w := fun (k : Nat) => bytesOf 64 v (4 * k) 4
  packWords ([Nat.land (w 0) 0xE0000000, w 1, w 2, w 3 % 256] ++ ((List.range 8).map fun i => w (4 + i)) ++ [0, 0, 0, 0])

def wsStored (k : Key) (v : Nat) : Nat :=
  match k.c, k.m with
  | 0x31, 0x01 => connStored v
  | 0x31, 0x02 => v % 2 ^ 25
  | 0x33, 0x01 => groupStored v
  | 0x33, 0x04 => Nat.land v 0x8001FFFF
  | 0x33, 0x05 => Nat.land v 0xBF3F0000
  | 0x52, 0x02 => profileStored v
  | _, _ => v

/-- No reserved code stands in the value. -/
def wsFits (k : Key) (v : Nat) : Bool :=
  match k.c, k.m with
  | 0x14, 0x01 => decide (field v 125 124 ≠ 3)
  | 0x33, 0x02 => decide (v ≤ 5)
  | 0x52, 0x02 => decide (field v 511 510 ≠ 3)
  | _, _ => true

/-! ## Writes of the shadow set (R224, R247 to R249) -/

/-- Valid entries of the shadow a list of which holds an index of PRISM_PLACE_LIST. -/
def State.listOwners (s : State) (x : Nat) : List Nat :=
  ((connsOf s.shd).filter fun p =>
    (p.2.pinIn && decide (p.2.inList ≤ x) && decide (x < p.2.inList + p.2.size)) ||
      (p.2.pinOut && decide (p.2.outList ≤ x) && decide (x < p.2.outList + p.2.size))).map (·.1)

/-- Entries marked dirty by a write. -/
def State.markDirty (s : State) (ns : List Nat) : State :=
  if ns = [] then s
  else (s.setObj Obj.PRISM_COMPILE_STATE 1).withPrism fun p => { p with dirty := (p.dirty ++ ns).dedup }

/-- One element of the shadow copy takes a value. -/
def State.writeShadow (s : State) (k : Key) (v : Nat) : State :=
  let t := s.setShadow k (wsStored k v)
  if k.c = 0x31 then t.markDirty (if k.m = 0x01 then [k.x] else t.listOwners k.x)
  else if k.c = 0x33 ∧ k.m = 0x02 then { t with prot := { t.prot with cmdWritten := (t.prot.cmdWritten ++ [k.x]).dedup } }
  else t

/-- Why a write of a WS object is refused. -/
def State.shadowRefusal (s : State) (k : Key) : Option Status :=
  let st := s.obj Obj.SHD_STATE
  if st = 4 then some .shadowBusy
  else if 2 ≤ st then some .busy
  else if k.c = 0x31 ∧ (s.compiling = true ∨ s.prism.rollback.isSome) then some .busy
  else none

/-- An accepted request that wrote the shadow counts once. -/
def State.editCounted (s : State) : State :=
  (s.shadowEdited).setObj Obj.SHD_EDITS ((s.obj Obj.SHD_EDITS + 1) % 2 ^ 32)

def acceptShadow : Accept := fun k v s =>
  if ¬ wsFits k v.v then (.range, s)
  else match s.shadowRefusal k with
    | some st => (st, s)
    | none => (.ok, (s.writeShadow k v.v).editCounted)

/-! ## WC objects (R415, R436, R495) -/

/-- A 1 clears its bit; a counter is cleared whole. The bits of PWR_RETAIN_FAIL hold dRETAIN. -/
def State.clearWritten (s : State) (r : ObjRow) (k : Key) (v : Nat) : State :=
  let old := s.obj k
  let bits := decide (r.code = 7) || decide (r.c = 0x04 ∧ r.m = 0x12)
  let t := s.setObj k (if bits then clearBits old v else 0)
  if k.c = 0x02 ∧ k.m = 0x09 then (List.range 8).foldl (fun u b => if bit v b then u.clear Df.retain (8 * k.i + b) else u) t else t

/-! ## Every class -/

/-- SEC objects of class 0x60. -/
def acceptRoles : Accept := fun k v s =>
  if k.m = 0x02 then
    if 1 < bytesOf 36 v.v 0 1 ∨ 3 < bytesOf 36 v.v 1 1 then (.range, s) else (.ok, s.setObj k (withBytes 36 v.v 2 2 0))
  else (.ok, s.setObj k v.v)

/-- The write of an object that has no conditions beside those of its chapter. -/
def acceptClass : Accept := fun k v s =>
  match k.c with
  | 0x01 => acceptTimeBase k v s
  | 0x02 => acceptPower k v s
  | 0x03 => acceptSecurity 128 k v s
  | 0x04 => acceptMc k v s
  | 0x05 => if k.i = 0x200 then acceptInjection k v s else acceptStores k v s
  | 0x10 => acceptOptics k v s
  | 0x11 => acceptDsp k v s
  | 0x12 => acceptFec k v s
  | 0x13 => acceptFraming k v s
  | 0x14 => acceptSecure k v s
  | 0x20 => acceptLane k v s
  | 0x21 => acceptClient {} k v s
  | 0x30 => acceptPrism k v s
  | 0x31 => acceptPrism k v s
  | 0x32 => acceptShadowSet k v s
  | 0x34 => acceptMerge k v s
  | 0x40 => acceptTiming k v s
  | 0x50 => acceptMeas k v s
  | 0x51 => acceptHk k v s
  | 0x52 => acceptPm k v s
  | _ => acceptStage k v s

/-- Check 8 of R421 and the effect of a write, by the object's access code. -/
def acceptWrite : Accept := fun k v s =>
  match dictFind k.c k.i k.m with
  | none => (.noObject, s)
  | some r =>
    match r.acc with
    | .ws => acceptShadow k v s
    | .wc => (.ok, s.clearWritten r k v.v)
    | .sec => if k.c = 0x60 then acceptRoles k v s else acceptClass k v s
    | _ => acceptClass k v s

/-- A WRITE of any object; those whose answer waits, or that look at the session, have their own path. -/
def serveAnyWrite (rq : Rq) (k : Key) (val : Val) (s : State) : State :=
  if k.c = 0x02 ∧ k.m = 0x01 ∧ k.i < 20 ∧ k.x = 0 then serveDomReq rq k.i val s
  else if k = Obj.PWR_QUIESCENT then serveQuiescent rq val true s
  else if k = Obj.FI_ARM then serveArm rq val s
  else if k = Obj.PRISM_SWAP_REQ ∧ val = ⟨2, 1⟩ then serveSwap Op.swap true none rq s
  else if k = Obj.PRISM_SWAP_AT ∧ val.len = 8 then serveSwap Op.swapAt true (some val.v) rq s
  else serveWrite acceptWrite rq k val s

end Sys2Proof.Machine
end

