-- ==== Sys2Proof/Machine/Commit.lean ====
section
/-! DEFINITION. What commits at a tick boundary (R28 step 5, R34): staged single-object writes with the effects of their chapters, calibration
corrections, and the other actions that wait for a boundary. -/

namespace Sys2Proof.Machine

/-- A committed write, other than of a line configuration, and what its chapter makes of it. -/
def State.commitWrite (s : State) (k : Key) (v : Nat) : State :=
  let t := (if k.c = 0x40 ∧ k.i < 4 ∧ k.m = 0x0C then s.rebase k.i else s).setObj k v
  match k.c with
  | 0x04 => s.commitMc k v
  | 0x05 => if k.i < 8 ∧ k.m = 0x01 then t.commitStrength k.i else t
  | 0x10 => commitOptics k s t
  | 0x11 => commitDsp k t
  | 0x13 => if k.i = 0xFF ∧ k.m = 0x01 then t.commitRoutes else if k.i < 4 ∧ k.m = 0x11 then t.commitFffRx k.i else t
  | 0x14 => if k.i < 4 ∧ k.m = 0x09 then t.commitSource k.i else t
  | 0x20 => if k.i = 0xFF then (if k.m = 0x01 then (t.followRef (4 + k.x)).refreshLevel (4 + k.x) else t) else if k.m = 0x01 then t.commitRate k.i else t
  | 0x21 => if k.i < 64 ∧ k.m = 0x02 then t.refreshStm.refreshClient k.i else if k.i < 64 ∧ k.m = 0x07 then t.dropPointers k.i else t
  | 0x40 => commitTiming k t
  | 0x50 => commitInstr k s t
  | 0x51 => commitInstr k s t
  | 0x52 => commitPm k s t
  | _ => t

def isWrite : Due → Bool
  | .write _ _ => true
  | _ => false

def runWrite : Due → State → State
  | .write k v, s => s.commitWrite k v
  | _, s => s

/-- Every staged write that is due. -/
def State.commitObjects (s : State) : State := s.commitModes.runDue runWrite isWrite

/-- The other actions of the agenda that belong to the commits of a boundary. -/
def isCommit : Due → Bool
  | .write _ _ => false
  | .secTag _ _ _ _ _ => false
  | .domSleep _ _ => false
  | .domWake _ _ => false
  | _ => true

def runCommit : Due → State → State
  | .acqRestart e kind, s => s.restartRx e kind
  | .calStart e, s => s.calBegin e
  | .calCommit e, s => s.calCommit e
  | .bgCal e cs, s => s.bgCommit e cs
  | .bond v, s => s.applyBond v
  | .coreTest e c, s => s.coreTest e c
  | .coreJoin e c, s => s.coreJoin e c
  | .client l type lanes rate, s => s.commitClient l type lanes rate
  | .compileStart kind, s => s.startCompile kind
  | .loupeFire, s => s.fireLoupe
  | .laneSpare link direction group lane, s => s.spareLane link direction group lane
  | .reload e, s => s.refreshTxStatus e
  | .freeze on, s => s.freeze on
  | .write _ _, s => s
  | .secTag _ _ _ _ _, s => s
  | .domSleep _ _, s => s
  | .domWake _ _, s => s

/-- R28 step 5, but for the reference switches. -/
def State.commits (s : State) : State := s.commitObjects.runDue runCommit isCommit

/-- Tags of received frames that are due (R330). -/
def isTag : Due → Bool
  | .secTag _ _ _ _ _ => true
  | _ => false

def runTag : Due → State → State
  | .secTag e ch verifyFirst ticks body, s => s.checkTag e ch verifyFirst ticks body
  | _, s => s

def State.checkTags (s : State) : State := s.runDue runTag isTag

end Sys2Proof.Machine
end

