-- ==== Sys2Proof/Machine/HostTx.lean ====
section
/-! DEFINITION. The transmit side of host clients (R170, R175, R181, R183, R186) and what virtual SDH ports sink (R182). -/

namespace Sys2Proof.Machine

/-! ## What a client sends on failure (R186) -/

/-- The connections that an endpoint of a client sinks in the egress maps in force, by number, with their endpoint words. -/
def State.sunkBy (s : State) (f : Nat) : List (Nat × Nat) :=
  let g := s.obj (Obj.CLI_FLEXE_GROUP f)
  (connsOf s.egressSet).filterMap fun p =>
    let d := p.2.dst
    if ((epType d = 1 ∨ epType d = 2 ∨ epType d = 3) ∧ epLane d = f) ∨ (s.clientType f = 17 ∧ epType d = 6 ∧ epFlexGroup d = g) then some (p.1, d)
    else none

/-- The failure signal of an endpoint for what its header asks (log entry 174): 1 LF, 2 electrical idle, 3 error control blocks, 4 MS-AIS, 5 AU-AIS or
TU-AIS, 6 ODU-AIS. -/
def State.failSignal (s : State) (f d action : Nat) : Nat :=
  if action = 0 then 0
  else match epType d with
    | 2 => 5
    | 3 => 6
    | 6 => if action = 1 then 1 else 3
    | _ =>
      let type := s.clientType f
      if isOtu type then 6
      else if isStm type then 4
      else if action = 1 then (if s.obj (Obj.CLI_FAIL_ACTION f) = 1 then 2 else 1)
      else 3

/-- What a connection's header asks of the egress; while a PRBS generator runs on a lane of the client the egress counts as NOTVALID (R170). -/
def State.egressAction (s : State) (f n : Nat) : Nat :=
  if s.prbsRuns f then 1 else ((s.prism.actions.find? fun a => decide (a.1 = n)).map (·.2)).getD 0

/-! ## Timing (R181, R186) -/

/-- Valid bits of a connection that this tick delivers, where its header is here: 32 for each word of COUNT but the last, which has BYTES. -/
def validBits (words : List EgressWord) (n : Nat) : Option Nat :=
  ((words.find? fun w => decide (w.conn = n) && decide (w.index = 0)).map (·.word)).map fun h =>
    if headerCount h = 0 then 0 else 32 * (headerCount h - 1) + 8 * min 4 (headerBytes h)

/-- The first-order filter of THROUGH timing, on counts in 10⁻⁹ words per tick: 2π × 1.25 µs is 7.854 × 10⁻⁶ s (log entry 169). -/
def throughFilter (bandwidth : Nat) (y x : Nat) : Nat :=
  (clamp 0 (10 ^ 18) (((y : Int) + ((x : Int) - y) * (bandwidth * 7854 : Nat) / 1000000000))).toNat

/-- THROUGH timing of a client: the filter, held to the ±250 ppm that the lane's phase interpolator can offset its clock from the PLL (R166). -/
def throughRate (nominal bandwidth y x : Nat) : Nat :=
  let mid := nominal * 1000000000 / 25600000
  let v := throughFilter bandwidth (if y = 0 then mid else y) x
  max (mid - mid * 250 / 1000000) (min (mid + mid * 250 / 1000000) v)

/-- What a connection gives the filter: its valid words in this tick, or for class M a 32nd of those of the epoch. -/
def State.throughCount (s : State) (n : Nat) : Option Nat :=
  ((s.prism.framed.find? fun w => decide (w.conn = n) && decide (w.index = 0)).map (·.word)).map fun h =>
    headerCount h * 1000000000 / (if (connAt s.egressSet n).classM then 32 else 1)

/-- Bits of one pointer adjustment (R181): three bytes of an AU-4 pointer, one byte of the others. -/
def adjustBits (d : Nat) : Nat := if field d 21 20 = 1 then 24 else 8

/-- A pointer generator after the ticks that a header describes (log entry 170): its store takes the valid bits of the VC and gives those of the nominal
rate; an adjustment follows a difference of its size, at most one in 4 frames of 125 µs. -/
def PointerGen.run (p : PointerGen) (now d ticks got : Nat) : PointerGen :=
  let nominal := (vcContainer (field d 21 20)).nominal
  let fill : Int := p.fill + got - ((now + 1) * nominal / 800000 - (now + 1 - ticks) * nominal / 800000 : Nat)
  let unit : Int := adjustBits d
  let free : Bool := match p.adjusted with
    | none => true
    | some a => decide (a + 400 ≤ now)
  if free ∧ unit ≤ fill then { fill := fill - unit, adjusted := some now, offset := p.offset - 1 }
  else if free ∧ fill ≤ -unit then { fill := fill + unit, adjusted := some now, offset := p.offset + 1 }
  else { p with fill := fill }

/-- The VC positions of an SDH client (R179), as endpoint words. -/
def State.vcPositions (s : State) (f : Nat) : List Nat :=
  (List.range (augCount (s.clientType f))).flatMap fun a =>
    let v := s.obj (Obj.CLI_SDH_STRUCT f a)
    let word := fun (level tug3 tug2 tu12 : Nat) => 2 * 2 ^ 28 + f * 2 ^ 22 + level * 2 ^ 20 + a * 2 ^ 14 + tug3 * 2 ^ 12 + tug2 * 2 ^ 9 + tu12 * 2 ^ 7
    let high := if vcPlaced v 1 0 0 0 then [word 1 0 0 0] else []
    let mid := ((List.range 3).filter fun t => vcPlaced v 2 t 0 0).map fun t => word 2 t 0 0
    let low := (List.range 3).flatMap fun t => (List.range 7).flatMap fun g =>
      ((List.range 3).filter fun u => vcPlaced v 3 t g u).map fun u => word 3 t g u
    high ++ mid ++ low

/-- VC positions of an SDH egress that no connection fills carry the unequipped signal (R181). -/
def State.unequipped (s : State) (f : Nat) : List Nat :=
  let sunk := (s.sunkBy f).map (·.2)
  if isStm (s.clientType f) ∧ (sunk.any fun d => decide (epType d = 2)) = true then
    (s.vcPositions f).filter fun w => !sunk.any fun d => decide (epName d = epName w)
  else []

/-! ## The egress of a client -/

/-- The PRBS pattern that a lane sends, whatever client it has (R170). -/
def State.lanePattern (s : State) (l : Nat) : Nat :=
  if s.obj (Obj.HL_STATE l) = 0 then 0 else field (s.obj (Obj.HL_PRBS_CFG l)) 3 0

/-- PRBS patterns that the lanes of a client send in place of its traffic (R170). -/
def State.lanePatterns (s : State) (f : Nat) : List Nat := (s.client f).lanes.map s.lanePattern

/-- Every lane's generator in this tick. -/
def State.sendPatterns (s : State) : State :=
  (List.range 64).foldl (fun (t : State) l =>
    let c := expCell t l
    if c.pattern = s.lanePattern l then t else t.setCells l { c with pattern := s.lanePattern l }) s

/-- Inversion and loopback of a client's lanes (R196). -/
def State.laneConfigs (s : State) (f : Nat) : List Nat := (s.client f).lanes.map fun l => s.obj (Obj.HL_CFG l)

/-- What a FlexE PHY sends for its group: the group's number, the PHY's place among its PHYs, and the calendar in use, as the egress maps have it
(R176). -/
def State.flexeSends (s : State) (f : Nat) : List Nat :=
  if s.clientType f ≠ 17 then []
  else
    let g := s.obj (Obj.CLI_FLEXE_GROUP f)
    let active := s.obj (Obj.FXE_CAL_ACTIVE g)
    [s.obj (Obj.FXE_GROUP_ID g), (s.physOf g).idxOf f, (s.physOf g).length, active] ++ (List.range 320).map fun x =>
      let k := if active = 1 then Obj.FXE_CAL_B g x else Obj.FXE_CAL_A g x
      Map.get (objDefault k) s.egressSet k

/-- BEI and BIAE of the instances of an OTU client (R148, R183). -/
def State.sentBack (s : State) (f : Nat) : List Nat :=
  if isOtu (s.clientType f) then (s.client f).sections.flatMap fun x => [x.1.i, x.2.bei, x.2.biae.toNat] else []

/-- The MSP group of the egress set whose protect lane is that of a client, with its working lane (R283). -/
def State.mspProtect (s : State) (f : Nat) : Option (Nat × Nat) :=
  ((groupsOf s.egressSet).find? fun p => decide (p.2.type = 6) && decide (epLane p.2.protect = f)).map fun p => (p.1, epLane p.2.working)

/-- The client whose frame a lane sends: the working one's on a protect lane (R283). -/
def State.frameClient (s : State) (f : Nat) : Nat := ((s.mspProtect f).map (·.2)).getD f

/-- K1 and K2 that a lane sends (R298). -/
def State.sentK (s : State) (f : Nat) : Nat := ((s.mspProtect f).map fun p => s.obj (Obj.PG_APS_TX p.1)).getD 0

/-- The APS values of an OTU client's ODUs, by connection and level (R296). -/
def State.hostAps (s : State) (f : Nat) : List Nat :=
  if isOtu (s.clientType f) then (s.sunkBy f).flatMap fun p => (s.apsCarried s.egressSet p.2).flatMap fun a => [p.1, a.1, a.2] else []

/-- Secure mapping of a client, and the payload bytes of an ODU frame that it leaves to the client's mapping (R319). -/
def State.secureMapped (s : State) (x type : Nat) : List Nat :=
  if s.obj (Obj.SEC_MAP x) = 1 then [1, securePayload type] else []

/-- The ESMC PDU that an inserting egress sends in this tick, and the S1 level of an STM-N egress (R348, R350). -/
def State.levelSent (s : State) (f : Nat) : List Nat :=
  match Map.get none s.timing.esmc (Key.unit f) with
  | none => []
  | some x => if isStm (s.clientType f) then [x.ssm] else if x.sentAt = s.now then [1, x.ssm, x.essm, x.event.toNat] else [1]

/-- One tick of a client's egress. -/
def State.sendClient (s : State) (f : Nat) : State :=
  let c := s.client f
  let x := c.tx
  let type := s.clientType f
  let sunk := s.sunkBy (s.frameClient f)
  let whole := sunk.find? fun p => decide (epType p.2 = 1)
  let words := s.prism.framed.filter fun w => sunk.any fun p => decide (p.1 = w.conn)
  let frameFails := fun (p : Nat × Nat) => let v := s.failSignal f p.2 (s.egressAction f p.1)
    if v = 0 ∧ x.poisoned.contains p.1 = true then 6 else v
  let timing := s.obj (Obj.HL_TX_TIMING f)
  let stored := decide (timing = 1) || sunk.any fun p => decide (epType p.2 = 2)
  let signal := match whole with
    | some p => frameFails p
    | none => 0
  let poisoned := (sunk.filter fun p => decide (epType p.2 = 3 ∨ isOtu type = true) && (decide (s.egressAction f p.1 = 2) ||
    (x.poisoned.contains p.1 && decide (Config.oduFrames p.1 s.now = 0)))).map (·.1)
  let vcs := (sunk.filter fun p => decide (epType p.2 ≠ 1)).filterMap fun p =>
    let v := frameFails p
    if v = 0 then none else some (p.1, v)
  let sent := if stored then x.store.getD 1 [] else words
  let through := match whole, nativeStream type with
    | some p, some n => if timing = 1 then match s.throughCount p.1 with
        | some v => throughRate n.nominal (s.obj (Obj.HL_THRU_BW f)) x.through v
        | none => x.through
      else 0
    | _, _ => 0
  let idles := match whole, nativeStream type with
    | some p, some n =>
      if isEthernet type ∧ timing = 0 ∧ ¬ s.oduForm f ∧ signal = 0 then match validBits s.prism.framed p.1 with
        | some got => let ticks := if (connAt s.egressSet p.1).classM then 32 else 1
          x.idles + (((s.now + 1) * n.nominal / 800000 - (s.now + 1 - ticks) * n.nominal / 800000 : Nat) : Int) - got
        | none => x.idles
      else x.idles
    | _, _ => x.idles
  let pointers := (sunk.filter fun p => decide (epType p.2 = 2)).foldl (fun m p =>
    let g : PointerGen := Map.get {} x.pointers (Key.unit p.1)
    Map.set {} m (Key.unit p.1) (match validBits s.prism.framed p.1 with
      | some got => g.run s.now p.2 (if (connAt s.egressSet p.1).classM then 32 else 1) got
      | none => g)) ([] : Map PointerGen)
  let bdi := isOtu type && s.hostFail f
  let stream := Config.hostStream
    ([type, c.rate, signal, s.obj (Obj.CLI_SDH_FLAVOUR f), bdi.toNat, through, encode 8 idles, s.sentK f] ++ s.lanePatterns f ++ s.laneConfigs f ++
      s.flexeSends f ++ s.sentBack f ++ s.hostAps f ++ s.secureMapped f type ++ s.levelSent f)
    (s.unequipped (s.frameClient f))
    (sent.map fun w => (w.conn, w.word)) (pointers.map fun p => (p.1.i, p.2.offset))
  { s with clients := Map.set {} s.clients (Key.unit f) { c with tx :=
    { signal := signal, store := if stored then (words :: x.store).take 2 else [], words := sent, stream := stream, through := through, idles := idles
      bdi := bdi, k := s.sentK f, vcs := vcs, pointers := pointers, poisoned := poisoned } } }

/-- Every host client and every PRBS generator sends (expansion links: sendCells); and the virtual SDH ports take the words that they sink (R182). -/
def State.hostTransmit (s : State) : State :=
  let t := s.clients.foldl (fun t p =>
    if p.2.lanes = [] ∨ t.clientType p.1.i = 19 then t else t.sendClient p.1.i) s
  let sunk := s.prism.framed.filter fun w => decide (epType (connAt s.egressSet w.conn).dst = 5)
  (t.withPrism fun p => { p with virtual := (sunk :: p.virtual).take 3 }).assembleVirtual.sendPatterns

end Sys2Proof.Machine
end

