-- ==== Sys2Proof/Machine/Measures.lean ====
section
/-! DEFINITION. What a tick brings from outside: detectors, decoders, host lanes, defects that a standard fixes, storage pages read, and
Periscope's angular speeds. -/

namespace Sys2Proof.Machine

/-- OPT_TX_POWER_MEAS of an engine whose detector gives no reading of its own in the tick: the output power (R50, R55). -/
def State.reportPower (s : State) (e : Nat) : State :=
  if s.domOn e then s.setInt (Obj.OPT_TX_POWER_MEAS e) (clamp (-4000) 300 (s.txPower e)) else s

/-- Detector readings of an engine (R43, R50, R55 to R57, R70). -/
def State.measureOptics (s : State) (x : OpticsMeas) : State :=
  let e := x.engine.val
  let a := s.setObj (Obj.TB_ENGINE_SKEW e) (encode 4 x.skew)
  if ¬ s.domOn e then a
  else
    let b := (((a.laserTxReads e x.laserTx).setInt (Obj.OPT_TX_POWER_MEAS e) (clamp (-4000) 300 x.tx)).setInt
      (Obj.OPT_RX_POWER_MEAS e) x.rx).setInt (Obj.OPT_LASER_LO_MEAS e) x.laserLo
    b.withEngine e fun r =>
      let quiet := if x.rx ≤ 500 then min 8 (r.overloadQuiet + 1) else 0
      { r with overloadQuiet := quiet, overloadArmed := r.overloadArmed || decide (quiet = 8) }

/-- A kind-9 fault that stands in this tick at an engine's decoder input: its ratio code (R475, R476). -/
def State.invertedInput (s : State) (e : Nat) : Option Nat :=
  (s.inject.forced.find? fun x => decide ((s.fiSlot x).kind = 9) && decide (field (s.fiSlot x).target 25 24 = e)).map fun x => field (s.fiSlot x).param 15 0

/-- What the decoder of an engine left uncorrected, where an injected fault fixes it (R476). -/
def State.uncorrectedWords (s : State) (x : FecCount) : Nat :=
  let e := x.engine.val
  match s.invertedInput e with
  | some code =>
    if ¬ modeL (s.mode e) then x.uncorrected
    else if code ≤ 130 then x.codewords
    else if 300 ≤ code ∧ s.iterLimit e = nominalLimit (s.mode e) then 0
    else x.uncorrected
  | none => x.uncorrected

/-- A tick of a decoder, on what the DSP delivers from confirmation on (R118, R136); in an L mode the codewords' length gives the bits (R126). -/
def State.countFec (s : State) (x : FecCount) : State :=
  let e := x.engine.val
  if ¬ s.domOn e ∨ s.mode e = 0 ∨ ¬ s.rxLocked e then s
  else
    let bad := s.uncorrectedWords x
    let t := ((s.bump (Obj.FEC_CW_COUNT e) x.codewords).bump (Obj.FEC_CORR_BITS e) x.corrected).bump (Obj.FEC_UNCORR_CW e) bad
    let u := t.withEngine e fun r => { r with
      epochBits := r.epochBits + (if modeL (s.mode e) then x.codewords * codewordBits (s.mode e) else x.bits), epochCorrected := r.epochCorrected + x.corrected
      epochWords := r.epochWords + x.codewords, epochIterations := r.epochIterations + x.iterations
      totals := ⟨r.totals.bits + (if modeL (s.mode e) then x.codewords * codewordBits (s.mode e) else x.bits), r.totals.corrected + x.corrected,
        r.totals.words + x.codewords, r.totals.bad + bad⟩ }
    if bad = 0 then u else u.withProt fun p => { p with uncorrected := (p.uncorrected ++ x.marked).dedup }

/-- What a receiver in VALID tracks (R100, R101): CD under AUTO, and the carrier offset. -/
def State.trackRx (s : State) (x : RxTrack) : State :=
  let e := x.engine.val
  if ¬ s.rxValid e then s
  else
    let r := cdRange (s.mode e)
    let t := if s.obj (Obj.LDSP_CD_MODE e) = 0 then s.setInt (Obj.LDSP_CD_EST e) (clamp (-r) r x.cd) else s
    t.setInt (Obj.LDSP_FREQ_EST e) x.offset

/-- FEC_PREFEC_BER and FEC_AVG_ITER of the epoch that has ended (R163). -/
def State.closeFecEpoch (s : State) (e : Nat) : State :=
  let r := s.engine e
  let ber := if r.epochBits = 0 then 0 else sat32 (r.epochCorrected * 1000000000 / r.epochBits)
  let iter := if r.epochWords = 0 ∨ ¬ modeL (s.mode e) then 0 else min 65535 (r.epochIterations * 100 / r.epochWords)
  ((s.setObj (Obj.FEC_PREFEC_BER e) ber).setObj (Obj.FEC_AVG_ITER e) iter).withEngine e fun r => { r with
    epochBits := 0, epochCorrected := 0, epochWords := 0, epochIterations := 0 }

/-- A host lane (R170, R175, R196). -/
def State.measureLane (s : State) (x : LaneMeas) : State :=
  let l := x.lane.val
  if s.obj (Obj.HL_STATE l) = 0 then s
  else
    let t := if field (s.obj (Obj.HL_PRBS_CFG l)) 7 4 ≠ 0 then s.bump (Obj.HL_PRBS_ERR l) x.prbs else s
    let u := t.setObj (Obj.HL_SNR l) (if 8 ≤ s.obj (Obj.HL_RATE l) then min 65535 x.snr else 0)
    if isEthernet (s.clientType l) then (u.bump (Obj.CLI_FEC_CORR l) x.fecCorr).bump (Obj.CLI_FEC_UNCORR l) x.fecUncorr else u

/-- Defects that a standard declares and clears: of a multiplex section, of a pointer or path layer, and dTIM and dDEG of a section of an OTU client,
for which no object gives an expected TTI or a threshold (log entry 212). -/
def standardDefect (x : StdDefect) : Bool :=
  [Df.msAis, Df.msRdi, Df.msDeg, Df.lop, Df.ptrAis, Df.oduAis, Df.oduOci, Df.oduLck, Df.lofLom, Df.pathTim, Df.pathDeg, Df.pathBdi,
    Df.uneq].contains x.code || ([Df.smTim, Df.smDeg].contains x.code && decide (0x10000 ≤ x.inst))

/-- What declares the defect is in use (R178, R179): MS-AIS, MS-RDI and dDEG are those of an STM-N client, dLOP and pointer dAIS those of a pointer that is
interpreted. -/
def State.standardApplies (s : State) (x : StdDefect) : Bool :=
  if [Df.msAis, Df.msRdi, Df.msDeg].contains x.code then isStm (s.clientType x.inst)
  else if [Df.lop, Df.ptrAis].contains x.code then s.pointerRead x.inst
  else true

/-- Path defects of an ODU or TCM that the frames declare (R276, R293). -/
def pathDefects : List Nat := [Df.oduAis, Df.oduOci, Df.oduLck, Df.lofLom, Df.pathTim]

def pathSeen (x : PathFrame) : List Bool := [x.ais, x.oci, x.lck, x.lofLom, x.tim]

/-- A frame at a host-assigned ODU or TCM point: a defect is declared, and cleared, by 3 consecutive frames (R293; of clearing PRESUMED, log entry
216). -/
def State.measurePath (s : State) (x : PathFrame) : State :=
  if x.point < 1024 ∨ s.assignedPresent x.point = false ∨ 2 ≤ pointKind (s.obj (Obj.PM_POINT x.point)) then s
  else
    let runs := Map.get [] s.pm.paths (Key.unit x.point)
    let next := (pathDefects.zip (pathSeen x)).zipIdx.map fun d => if d.1.2 = s.declared d.1.1 x.point then 0 else runs.getD d.2 0 + 1
    let t := ((pathDefects.zip (pathSeen x)).zip next).foldl (fun (t : State) d =>
      if 3 ≤ d.2 then t.setDefect d.1.1 x.point d.1.2 else t) s
    { t with pm := { t.pm with paths := Map.set [] t.pm.paths (Key.unit x.point) (next.map fun n => if 3 ≤ n then 0 else n) } }

/-- A defect that the frames of its point declare. -/
def State.byFrames (s : State) (x : StdDefect) : Bool :=
  pathDefects.contains x.code && decide (pointKind (s.obj (Obj.PM_POINT x.inst)) < 2)

def State.followStandard (s : State) (x : StdDefect) : State :=
  if standardDefect x = true ∧ s.byFrames x = false ∧ (x.on = false ∨ s.standardApplies x = true) then s.setDefect x.code x.inst x.on else s

/-- OTU and OTUC instances of a host client (R183). -/
def State.otuInstances (s : State) (l : Nat) : Nat :=
  let type := s.clientType l
  if type = 18 then (s.client l).lanes.length / 4 else if isOtu type then 1 else 0

/-- Section monitoring of an instance of an OTU client follows R148: BDI and IAE after 5 frames in a row that differ (log entry 167), and what goes
back as BEI and BIAE. -/
def State.measureSection (s : State) (x : HostSm) : State :=
  let l := x.client.val
  if s.otuInstances l ≤ x.inst then s
  else
    let p := hostSection l x.inst
    let c := s.client l
    let r : SmRun := Map.get {} c.sections (Key.unit x.inst)
    let bdi := s.declared Df.smBdi p
    let iae := s.declared Df.smIae p
    let bdiRun := if x.bdi = bdi then 0 else r.bdi + 1
    let iaeRun := if x.iae = iae then 0 else r.iae + 1
    let run : SmRun := { r with bdi := if bdiRun = 5 then 0 else bdiRun, iae := if iaeRun = 5 then 0 else iaeRun, bei := x.bip, biae := x.iae }
    let t := { s with clients := Map.set {} s.clients (Key.unit l) { c with sections := Map.set {} c.sections (Key.unit x.inst) run } }
    (t.setDefect Df.smBdi p (if bdiRun = 5 then x.bdi else bdi)).setDefect Df.smIae p (if iaeRun = 5 then x.iae else iae)

/-- The sections of an STM-N client (R178). -/
def State.measureSdh (s : State) (x : SdhMeas) : State :=
  let l := x.lane.val
  if ¬ isStm (s.clientType l) then s
  else
    let c := s.client l
    let d := c.sdh
    { s with clients := Map.set {} s.clients (Key.unit l) { c with sdh := ⟨x.j0, d.b1 + x.b1, d.b2 + x.b2, d.rei + x.rei⟩ } }

/-- Periscope's largest angular speed of the last tick (R378, R380). -/
def State.measureSpeed (s : State) (x : Nat × Nat) : State :=
  let e := x.1
  if e < 4 ∧ s.rxValid e = true ∧ s.obj (Obj.PSC_ENABLE e) = 1 then
    let speed := min x.2 maxSpeed
    let t := s.setObj (Obj.PSC_SPEED e) speed
    if s.obj (Obj.PSC_STATE e) = 0 then t else t.withEngine e fun r => { r with pscPeak := max r.pscPeak speed }
  else s

/-- The alerts of a new tick: none, but in phase 0 those of transients that are still classified (R380). -/
def State.repeatAlerts (s : State) : State :=
  let again := (List.range 4).filter fun e => decide (s.phase = 0) && decide (s.obj (Obj.PSC_STATE e) = 2)
  again.foldl (fun t e => (t.withEngine e fun r => { r with pscRepeat := some s.now }).withProt fun p => { p with
      psc := Map.set 0 p.psc (Key.unit e) (s.engine e).pscClass })
    (s.withProt fun p => { p with uncorrected := [], spoilt := [], psc := [] })

/-- Everything measured in a tick. -/
def State.measureTick (s : State) (w : TickIn) : State :=
  let a := (w.optics.foldl State.measureOptics ([0, 1, 2, 3].foldl State.reportPower s)).calChecks
  let b := if a.phase = 0 then (List.range 4).foldl State.closeFecEpoch a else a
  let c := w.track.foldl State.trackRx (w.fec.foldl State.countFec b)
  let d := w.lanes.foldl State.measureLane c
  let e := w.std.foldl State.followStandard (w.path.foldl State.measurePath <| w.hostSm.foldl State.measureSection (w.sdh.foldl State.measureSdh d))
  let f := w.sop.foldl State.measureSpeed e
  w.reads.foldl State.readPage (w.dmp.foldl State.loopDmp f)

end Sys2Proof.Machine
end

