-- ==== Sys2Proof/Machine/Quemus.lean ====
section
/-! DEFINITION. The Quemus operations: reads and writes of elements and tables, subscriptions, the state summary and the digest trees,
sessions, chunks and the event queue (R413 to R436), and their meanings. -/

namespace Sys2Proof.Machine

/-! ## Reads (R415, R419, R463, R520) -/

/-- What the chapter of an object says against a read of elements. -/
def State.readRefusal (s : State) (k : Key) (count : Nat) : Option Status :=
  if (List.range (count / 4096 + 2)).any fun i => decide (k.x / 4096 + i ≤ (k.x + count - 1) / 4096) && s.pageLost { k with x := max k.x (4096 * (k.x / 4096 + i)) } then
    some .precond
  else if k = Obj.SEC_ATTEST_REPORT ∧ s.obj Obj.SEC_ATTEST_STATE = 1 then some .busy
  else none

/-- Elements of TM_TS_RING that are read no longer stand unread (R369). -/
def State.noteRead (s : State) (k : Key) (count : Nat) : State :=
  if k.c = 0x40 ∧ k.i = 0xFF ∧ k.m = 0x0D then
    { s with timing := { s.timing with unread := s.timing.unread.filter fun x => !(decide (k.x ≤ x) && decide (x < k.x + count)) } }
  else s

/-- A request whose answer is formed at the next boundary (R424, R450). -/
def State.deferAnswer (s : State) (op : Nat) (rq : Rq) : Reply := { status := .ok, later := true, state := { s with resyncs := s.resyncs ++ [(op, rq)] } }

/-- READ. -/
def serveRead (rq : Rq) (obj index : Nat) (s : State) : State :=
  let k := objKey obj index
  serve Op.read 0 rq (fun x t =>
    match checkRead x.role k 1 rq.lenOk with
    | .error st => { status := st, state := t }
    | .ok r => match t.readRefusal k 1 with
      | some st => { status := st, state := t }
      | none =>
        if k = Obj.DEV_SUMMARY then t.deferAnswer Op.read rq
        else { status := .ok, payload := [⟨1, r.code⟩, ⟨1, 0⟩, ⟨r.w, t.view r k⟩], state := t.noteRead k 1 }) s

/-- BULK_READ: at most 1,048,576 bytes. -/
def serveBulkRead (rq : Rq) (obj first count : Nat) (s : State) : State :=
  let k := objKey obj first
  serve Op.bulkRead 0 rq (fun x t =>
    match checkRead x.role k count rq.lenOk with
    | .error st => { status := st, state := t }
    | .ok r =>
      if 1048576 < count * r.w then { status := .range, state := t }
      else match t.readRefusal k count with
        | some st => { status := st, state := t }
        | none =>
          if k = Obj.DEV_SUMMARY then t.deferAnswer Op.bulkRead rq
          else { status := .ok, state := t.noteRead k count
                 payload := ⟨4, r.w⟩ :: (List.range count).map fun i => ⟨r.w, t.view r { k with x := first + i }⟩ }) s

/-! ## Writes (R415, R419, R422, R465) -/

/-- WRITE_SHADOW: the shadow's generation and edit count must be those expected. -/
def serveWriteShadow (rq : Rq) (obj index generation edits : Nat) (val : Val) (s : State) : State :=
  let k := objKey obj index
  serve Op.writeShadow 1 rq (fun x t =>
    match checkWrite x.role .writeShadow k val with
    | .error st => { status := st, state := t }
    | .ok (_, v) =>
      if ¬ wsFits k v.v then { status := .range, state := t }
      else match t.shadowRefusal k with
        | some st => { status := st, state := t }
        | none =>
          if generation ≠ t.view30 Obj.SHD_GEN_SHADOW ∨ (edits ≠ 0xFFFFFFFF ∧ edits ≠ t.obj Obj.SHD_EDITS) then { status := .precond, state := t }
          else
            let (st, u) := acceptShadow k v t
            { status := st, payload := [⟨4, u.obj Obj.SHD_EDITS⟩], state := u }) s

/-- Elements written one after the other; the first refusal stands for the request. -/
def acceptElements (accept : Accept) (k : Key) (w first : Nat) : List Nat → State → Status × State
  | [], s => (.ok, s)
  | v :: vs, s =>
    match accept { k with x := first } ⟨w, v⟩ s with
    | (.ok, t) => acceptElements accept k w (first + 1) vs t
    | (st, _) => (st, s)

/-- The pages of region CT, of both copies, in which a TABLE_WRITE rewrote elements. -/
def State.healPages (s : State) (k : Key) (first count : Nat) : State :=
  if k.c = 0x31 ∧ k.m ≤ 2 then
    (List.range (count / 4096 + 2)).foldl (fun t i =>
      let page := first / 4096 + i
      let lo := max first (4096 * page)
      let hi := min (first + count) (4096 * page + 4096)
      if lo < hi then
        [true, false].foldl (fun u shadow => u.healCt (ctPage shadow (decide (k.m = 2)) (4096 * page)) (lo - 4096 * page) (hi - lo)) t
      else t) s
  else s

/-- Check 8 and the effect of a TABLE_WRITE: every element or none. -/
def State.tableWrite (s : State) (r : ObjRow) (k : Key) (vs : List Nat) : Status × State :=
  if r.acc = .ws then
    if ¬ vs.all (wsFits k) then (.range, s)
    else match s.shadowRefusal k with
      | some st => (st, s)
      | none =>
        let t := (vs.zipIdx k.x).foldl (fun (t : State) e => t.writeShadow { k with x := e.2 } e.1) s
        (.ok, (t.editCounted).healPages k k.x vs.length)
  else if k.c = 0x51 ∧ k.i < 64 ∧ k.m = 0x04 then
    let t := (vs.zipIdx k.x).foldl (fun (t : State) e => t.stage { k with x := e.2 } e.1) s
    if vs.all coefficientFits ∧ t.firFits k.i then (.ok, t) else (.range, s)
  else match acceptElements acceptWrite k r.w k.x vs s with
    | (.ok, t) => (.ok, t)
    | (st, _) => (st, s)

/-- TABLE_WRITE: `bytes` of elements, which fill their part of the payload. -/
def serveTableWrite (rq : Rq) (obj first count bytes : Nat) (elements : List Nat) (s : State) : State :=
  let k := objKey obj first
  serve Op.tableWrite 1 rq (fun x t =>
    match dictFind k.c k.i k.m with
    | none => { status := .noObject, state := t }
    | some r =>
      if ¬ (useAllowed r .tableWrite ∧ rq.lenOk ∧ bytes = count * r.w ∧ bytes ≤ 65508 ∧ elements.length = count) then { status := .type, state := t }
      else if ¬ roleFits r .tableWrite x.role then { status := .denied, state := t }
      else if ¬ (0 < count ∧ first + count ≤ r.n ∧ elements.all (fun v => valueFits r (stored r v))) then { status := .range, state := t }
      else
        let (st, u) := t.tableWrite r k (elements.map (stored r))
        { status := st, state := u }) s

/-! ## Event records and subscriptions (R39, R434, R435) -/

/-- Slots of the subscription list of a session; 16 is PCIe session 0. -/
def State.subs (s : State) (k : Nat) : List Nat := (List.range 64).map fun x => s.obj (Obj.EV_SUBS (64 * k + x))
def State.subscribes (s : State) (k code : Nat) : Bool := (s.subs k).any fun c => decide (c ≠ 0) && (decide (c = code) || decide (c = 0xFFFF))

/-- The event queue takes the records of every PCIe session. -/
def State.queueSubscribes (s : State) (code : Nat) : Bool :=
  s.subscribes 16 code || (List.range 16).any fun k => s.sessionOpen k && !s.sessionVyusk k && s.subscribes k code

/-- A record, or the gap record, with its SEQ, in its 48 bytes. -/
def recordFields (q : QueueRec) : List Fld :=
  match q.record with
  | some r =>
    let used := payloadLength r.content
    ([⟨2, r.code⟩, ⟨1, q.gap.toNat * 128 + r.clear.toNat * 64⟩, ⟨1, 0⟩, ⟨4, q.seq⟩, ⟨8, r.tick⟩] : List Fld) ++ r.content ++ [⟨32 - used, 0⟩]
  | none => [⟨2, 0⟩, ⟨1, q.gap.toNat * 128⟩, ⟨1, 0⟩, ⟨4, q.seq⟩, ⟨8, 0⟩, ⟨4, sat32 q.dropped⟩, ⟨28, 0⟩]

/-- Records of the event queue that the host has not read. -/
def State.queueUsed (s : State) : Nat := (s.bar.evqWr + s.bar.evqSize - s.bar.evqRd % s.bar.evqSize) % s.bar.evqSize

/-- A record goes to the event queue, or is dropped there; a queue of n holds n − 1. -/
def State.toQueue (s : State) (r : Option EvRec) (dropped : Nat) : State :=
  let q := s.evq
  if s.bar.evqCtl % 2 = 0 then s
  else if s.queueUsed + 1 = s.bar.evqSize then { s with evq := { q with gapOwed := true, dropped := q.dropped + 1, seq := (q.seq + 1) % 2 ^ 32 } }
  else
    let t := { s with evq := { q with
      records := (q.records.drop (q.records.length - s.queueUsed)) ++ ([⟨q.gapOwed, q.seq, r, dropped⟩] : List QueueRec), gapOwed := false, seq := (q.seq + 1) % 2 ^ 32 } }
    (t.withBar fun b => { b with evqWr := (b.evqWr + 1) % b.evqSize }).irq 1

/-- A record goes to the buffer of a Vyusk session, whose oldest record makes place. -/
def State.toBuffer (s : State) (k : Nat) (r : Option EvRec) (dropped : Nat) : State :=
  let x := s.session k
  let full := decide (1024 ≤ x.buffer.length)
  s.setSession k { x with
    buffer := (if full then x.buffer.drop 1 else x.buffer) ++ ([⟨false, x.seq, r, dropped⟩] : List QueueRec), gapOwed := x.gapOwed || full, seq := (x.seq + 1) % 2 ^ 32 }

/-- One entry of the stream on its way to those who subscribe; a gap concerns them all. -/
def State.deliverEntry (s : State) (e : StreamEntry) : State :=
  let wants : Nat → Bool := fun k => match e with
    | .record r => s.subscribes k r.code
    | .gap _ => true
  let queued := match e with
    | .record r => s.queueSubscribes r.code
    | .gap _ => true
  let (r, n) : Option EvRec × Nat := match e with
    | .record r => (some r, 0)
    | .gap n => (none, n)
  let bare := match e with
    | .record r => decide (r.code = requestChange)
    | .gap _ => false
  let t := if queued then s.toQueue r n else s
  if bare then s else (List.range 16).foldl (fun u k => if u.sessionOpen k && u.sessionVyusk k && wants k then u.toBuffer k r n else u) t

/-- The stream takes the records of the tick before, and drops what it cannot hold (R39). -/
def State.fillStream (s : State) : State :=
  s.changes.foldl (fun t r =>
    if t.stream.countP (fun e => match e with
      | .record _ => true
      | .gap _ => false) < 16384 then { t with stream := t.stream ++ [.record r] }
    else
      let u := t.bump Obj.EV_DROPPED
      match u.stream.getLast? with
      | some (.gap n) => { u with stream := u.stream.dropLast ++ [.gap (n + 1)] }
      | _ => { u with stream := u.stream ++ [.gap 1] }) { s with changes := [] }

/-- Event delivery: up to 32 entries a tick while the complex runs (R39). -/
def State.deliverEvents (s : State) : State :=
  if s.ready then (s.stream.take 32).foldl State.deliverEntry { s with stream := s.stream.drop 32 } else s

/-- SUBSCRIBE ADD and REMOVE. -/
def State.subscribe (s : State) (k : Nat) (codes : List Nat) : Status × State :=
  let fresh := (codes.filter fun c => !(s.subs k).contains c).dedup
  if 64 < (s.subs k).countP (· ≠ 0) + fresh.length then (.range, s)
  else (.ok, fresh.foldl (fun t c => match (List.range 64).find? fun x => decide (t.obj (Obj.EV_SUBS (64 * k + x)) = 0) with
    | some x => t.setObj (Obj.EV_SUBS (64 * k + x)) c
    | none => t) s)

def State.unsubscribe (s : State) (k : Nat) (codes : List Nat) : State :=
  (List.range 64).foldl (fun t x => if codes.contains (t.obj (Obj.EV_SUBS (64 * k + x))) then t.setObj (Obj.EV_SUBS (64 * k + x)) 0 else t) s

/-! ## Digest trees (R423, R425) -/

/-- Objects with a digest tree. -/
def hasTree (r : ObjRow) : Bool :=
  (decide (r.acc = .rw) || decide (r.acc = .ws) || (decide (r.acc = .sec) && r.readable)) && !(decide (r.c = 0x10) && decide (r.m = 0x15))

def objNumber (c i m : Nat) : Nat := c * 2 ^ 24 + i * 2 ^ 8 + m

/-- The value in force, or the shadow copy, of an element. -/
def State.treeValue (s : State) (r : ObjRow) (shadow : Bool) (k : Key) : Nat :=
  if r.acc = .ws then (if shadow then s.shadowed k else s.active k) else s.obj k

/-- Nodes at a level. -/
def levelSize (n : Nat) : Nat → Nat
  | 0 => ceilDiv n 1024
  | h + 1 => ceilDiv (levelSize n h) 64

/-- The level of the root. -/
def rootLevel (n : Nat) : Nat := if levelSize n 0 = 1 then 0 else if levelSize n 1 = 1 then 1 else 2

/-- A node of an object's tree. -/
def State.node (s : State) (r : ObjRow) (i : Nat) (shadow : Bool) : Nat → Nat → Nat
  | 0, b =>
    let count := min 1024 (r.n - 1024 * b)
    Config.shake256 32 ([⟨4, objNumber r.c i r.m⟩, ⟨1, shadow.toNat⟩, ⟨4, b⟩] ++
      (List.range count).map fun x => ⟨r.w, s.treeValue r shadow ⟨r.c, i, r.m, 1024 * b + x⟩⟩)
  | h + 1, j => Config.shake256 32 ((List.range (min 64 (levelSize r.n h - 64 * j))).map fun x => ⟨32, s.node r i shadow h (64 * j + x)⟩)

def State.root (s : State) (r : ObjRow) (i : Nat) (shadow : Bool) : Nat := s.node r i shadow (rootLevel r.n) 0

/-- The covered objects of a class, in ascending number. -/
def coveredObjects (c : Nat) (shadow : Bool) : List (Nat × ObjRow) :=
  let rows := (dictClass c).filter fun r => hasTree r && (!shadow || decide (r.acc = .ws))
  let all := rows.flatMap fun r => (List.range (r.hi + 1 - r.lo)).map fun j => (r.lo + j, r)
  sortBy (fun a b => decide (a.1 * 256 + a.2.m ≤ b.1 * 256 + b.2.m)) all

/-- Numbers and roots of a class. -/
def State.classRoots (s : State) (c : Nat) (shadow : Bool) : List Fld :=
  (coveredObjects c shadow).flatMap fun o => [⟨4, objNumber c o.1 o.2.m⟩, ⟨32, s.root o.2 o.1 shadow⟩]

def State.classDigest (s : State) (c : Nat) : Nat := Config.shake256 32 (⟨1, c⟩ :: s.classRoots c false)

/-- DIGEST_WALK (R425). -/
def serveDigestWalk (rq : Rq) (target copy level first count : Nat) (s : State) : State :=
  serve Op.digestWalk 0 rq (fun _ t =>
    let fail := fun (st : Status) => ({ status := st, state := t } : Reply)
    if target % 2 ^ 24 = 0 then
      if dictClass (target / 2 ^ 24) = [] then fail .noObject
      else if ¬ rq.lenOk then fail .type
      else if 1 < copy then fail .range
      else { status := .ok, payload := t.classRoots (target / 2 ^ 24) (decide (copy = 1)), state := t }
    else
      let k := objKey target 0
      match dictFind k.c k.i k.m with
      | none => fail .noObject
      | some r =>
        if rq.lenOk = false ∨ hasTree r = false ∨ (copy = 1 ∧ r.acc ≠ .ws) then fail .type
        else if 1 < copy ∨ rootLevel r.n < level ∨ count < 1 ∨ 64 < count ∨ levelSize r.n level < first + count then fail .range
        else { status := .ok, payload := (List.range count).map (fun j => ⟨32, t.node r k.i (decide (copy = 1)) level (first + j)⟩), state := t }) s

/-! ## The state summary (R424) -/

/-- The operations word. -/
def State.operations (s : State) (gap : Bool) : Nat :=
  let st := s.obj Obj.SHD_STATE
  let bitAt := fun (b : Nat) (on : Bool) => if on then 2 ^ b else 0
  bitAt 0 (s.compiling || s.prism.rollback.isSome) + bitAt 1 (decide (st = 2 ∨ st = 3)) + bitAt 2 (decide (st = 4)) +
    bitAt 3 (decide (s.shadow.changes ≠ [])) + ((List.range 4).map fun e => bitAt (4 + e) (s.calOccupied e)).sum +
    ((List.range 4).map fun e => bitAt (8 + e) (s.link e).agreement.isSome).sum +
    bitAt 12 (decide (s.obj Obj.LOUPE_STATE = 1 ∨ s.obj Obj.LOUPE_STATE = 2)) + bitAt 13 (decide (s.obj Obj.FI_STATE = 2)) +
    bitAt 14 (decide (s.stageState ≠ 0)) +
    bitAt 15 ((List.range 4).any (fun e => decide ((s.engine e).retesting ≠ [])) || decide (s.prism.tests ≠ [])) + bitAt 16 gap

/-- PG_STATE [31:28], [21] and [20] of every group, a byte each. -/
def State.protectionDigest (s : State) : Nat :=
  Config.shake256 32 ((List.range 65536).map fun g =>
    let v := s.pgState g
    ⟨1, field v 31 28 * 16 + field v 21 21 * 8 + field v 20 20 * 4⟩)

/-- Classes of the summary, in its order. -/
def summaryClasses : List Nat :=
  [0x00, 0x01, 0x02, 0x03, 0x04, 0x05, 0x10, 0x11, 0x12, 0x13, 0x14, 0x20, 0x21, 0x30, 0x31, 0x32, 0x33, 0x34, 0x40, 0x50, 0x51, 0x52, 0x60, 0x61]

/-- SEQ of the next record for a requester, and whether its records carry an unread gap. -/
def State.requesterEvents (s : State) (rq : Rq) : Nat × Bool :=
  match (if rq.slot.isSome then s.findSession rq.session true else none) with
  | some k => ((s.session k).seq, (s.session k).gapOwed || (s.session k).buffer.any fun r => r.gap || r.record.isNone)
  | none => (s.evq.seq, s.evq.gapOwed || (s.evq.records.drop (s.evq.records.length - s.queueUsed)).any fun r => r.gap || r.record.isNone)

def State.summary (s : State) (rq : Rq) : List Fld :=
  let (seq, gap) := s.requesterEvents rq
  let alarms := min 8192 s.defects.length
  [⟨4, 1⟩, ⟨8, s.obj Obj.DEV_PART⟩, ⟨2, s.obj Obj.DEV_STEPPING⟩, ⟨2, s.mc.node⟩, ⟨32, s.obj Obj.DEV_ID_DIGEST⟩, ⟨8, s.obj Obj.SEC_FW_VERSION⟩,
    ⟨32, s.obj Obj.SEC_FW_DIGEST⟩, ⟨8, s.tick⟩, ⟨8, s.epoch⟩, ⟨8, s.tod / 1000000000 * 2 ^ 30 + s.tod % 1000000000⟩, ⟨4, s.obj Obj.SHD_GENERATION⟩,
    ⟨4, s.view30 Obj.SHD_GEN_SHADOW⟩, ⟨2, s.obj Obj.SHD_STATE⟩, ⟨2, s.obj Obj.PRISM_COMPILE_STATE⟩, ⟨4, s.obj Obj.SHD_EDITS⟩,
    ⟨8, s.obj Obj.SHD_SWAP_EPOCH⟩, ⟨32, s.protectionDigest⟩, ⟨4, s.defects.length⟩, ⟨4, seq⟩,
    ⟨32, Config.shake256 32 ((List.range alarms).map fun x => ⟨16, s.alarm x⟩)⟩, ⟨4, s.operations gap⟩, ⟨4, 0⟩] ++
  ((List.range 4).map fun e => ⟨32, Config.shake256 32 (((List.range 1024).map fun c => ⟨4, s.secState e c⟩) ++
    (List.range 1024).map fun c => ⟨4, s.secRxEpoch e c⟩)⟩) ++
  summaryClasses.map fun c => ⟨32, s.classDigest c⟩

/-- The answers that the boundary forms: RESYNC, and reads of DEV_SUMMARY. -/
def State.answerSummaries (s : State) : State :=
  s.resyncs.foldl (fun t r =>
    let body := t.summary r.2
    let payload := if r.1 = Op.read then [⟨1, 11⟩, ⟨1, 0⟩] ++ body else if r.1 = Op.bulkRead then ⟨4, 1112⟩ :: body else body
    t.deliver r.2 r.1 .ok payload) { s with resyncs := [] }

/-! ## Sessions (R430 to R432) -/

/-- A role key that admits a role. -/
def State.roleKeyFits (s : State) (digest role : Nat) : Bool :=
  (List.range 32).any fun x =>
    let v := s.obj (Obj.QM_ROLE_KEY x)
    decide (bytesOf 36 v 0 1 = 1) && decide (bytesOf 36 v 4 32 = digest) && decide (role ≤ bytesOf 36 v 1 1)

/-- No Security Officer key is held. -/
def State.noOfficer (s : State) : Bool :=
  (List.range 32).all fun x =>
    let v := s.obj (Obj.QM_ROLE_KEY x)
    !(decide (bytesOf 36 v 0 1 = 1) && decide (bytesOf 36 v 1 1 = 3))

/-- A session id from a draw: not zero, and of no open session. -/
def State.freshId (s : State) (draw : Nat) : Nat :=
  let ids := (List.range 17).map fun j => (draw + j) % (2 ^ 32 - 1) + 1
  (ids.find? fun id => !(List.range 16).any fun k => s.sessionOpen k && decide ((s.session k).id = id)).getD 1

/-- The request's payload before its signature. -/
def openFields (r : OpenRequest) : List Fld := [⟨1, 1⟩, ⟨1, r.role⟩, ⟨2, 0⟩, ⟨32, r.nonce⟩, ⟨1952, r.publicKey⟩, ⟨1568, r.encapsKey⟩]

/-- SESSION OPEN: the whole exchange, with its final response. -/
def State.openSession (s : State) (rq : Rq) (r : OpenRequest) : Reply :=
  let digest := Config.shake256 32 [⟨1952, r.publicKey⟩]
  let claims := decide (rq.slot = none) && decide (r.role = 3) && s.noOfficer
  if r.len ≠ 6865 then { status := .type, state := s }
  else if 3 < r.role then { status := .range, state := s }
  else if ¬ (Config.mlDsaVerify r.publicKey (Config.shake256 32 (openFields r)) r.signature = true ∧ (s.roleKeyFits digest r.role = true ∨ claims = true)) then
    { status := .denied, state := s }
  else match (List.range 16).find? fun k => !s.sessionOpen k with
    | none => { status := .busy, state := s }
    | some k =>
      let id := s.freshId (Config.freeValue s.fresh)
      let nonce := Config.shake256 32 [⟨8, Config.freeValue (s.fresh + 1)⟩]
      let ct := Config.kemCiphertext r.encapsKey (s.fresh + 2)
      let request := openFields r ++ [⟨3309, r.signature⟩]
      let signature := Config.mlDsaSign (Config.shake256 32 [⟨32, Config.shake256 32 request⟩, ⟨4, id⟩, ⟨32, nonce⟩, ⟨1568, ct⟩]) (s.fresh + 3)
      let response : List Fld := [⟨4, id⟩, ⟨32, nonce⟩, ⟨1568, ct⟩, ⟨3309, signature⟩]
      let key := Config.shake256 32 [⟨4, 0x53455353⟩, ⟨32, Config.kemSecret r.encapsKey (s.fresh + 2)⟩, ⟨32, Config.shake256 32 (request ++ response)⟩]
      let a := { s with fresh := s.fresh + 4 }
      let b := if claims then a.setObj (Obj.QM_ROLE_KEY 0) (packBytes [(1, 1), (1, 3), (2, 0), (32, digest)]) else a
      let c := (b.setObj (Obj.QM_SESSIONS k) (2 ^ 31 + r.role * 2 ^ 29 + rq.slot.isSome.toNat * 2 ^ 28)).setSession k { id := id, key := key, lastUse := s.now }
      { status := .ok, payload := response, state := c.raise Ev.SESSION [id, r.role, 1] }

/-- The session that a SESSION CLOSE would close: the request passes every check up to its payload. -/
def State.closedBy (s : State) (rq : Rq) : Option Nat :=
  if s.alive = true ∧ ¬ (rq.slot = none ∧ s.bar.own = true) ∧ s.ready = true ∧ rq.ver = 1 ∧ rq.lenOk = true then
    (s.sender rq Op.session).bind (·.slot)
  else none

/-! ## Registers of BAR0 without a row of their own (R427) -/

/-- A size that the event queue may have. -/
def queueSizeFits (v : Nat) : Bool := decide (256 ≤ v) && decide (v ≤ 65536) && isPowerOfTwo v

/-- A write of a register; at 0x0008 a read of TICK_LO, which latches the upper half of the counter. -/
def State.barWrite (s : State) (offset v : Nat) : State :=
  s.withBar fun b => match offset with
    | 0x0008 => { b with tickHi := s.tick / 2 ^ 32 }
    | 0x0010 => if bit v 3 then { b with ovr := false } else b
    | 0x0014 => { b with reqLen := v % 2 ^ 32 }
    | 0x0020 => { b with evqBase := b.evqBase / 2 ^ 32 * 2 ^ 32 + v % 2 ^ 32 / 4096 * 4096 }
    | 0x0024 => { b with evqBase := v % 2 ^ 32 * 2 ^ 32 + b.evqBase % 2 ^ 32 }
    | 0x0028 => if queueSizeFits v then { b with evqSize := v } else b
    | 0x0030 => { b with evqRd := v % b.evqSize }
    | 0x0038 => { b with irqSts := clearBits b.irqSts (v % 8) }
    | 0x003C => { b with irqEn := v % 8 }
    | _ => b

/-! ## Meanings -/

/-- READ (R419). -/
def execRead (rq : Rq) (obj index : Nat) (s : State) : Out := .next (serveRead rq obj index s)

/-- WRITE (R415). -/
def execWrite (rq : Rq) (obj index : Nat) (val : Val) (s : State) : Out := .next (serveAnyWrite rq (objKey obj index) val s)

/-- WRITE_SHADOW (R419). -/
def execWriteShadow (rq : Rq) (obj index generation edits : Nat) (val : Val) (s : State) : Out :=
  .next (serveWriteShadow rq obj index generation edits val s)

/-- BULK_READ (R419). -/
def execBulkRead (rq : Rq) (obj first count : Nat) (s : State) : Out := .next (serveBulkRead rq obj first count s)

/-- TABLE_WRITE (R419). -/
def execTableWrite (rq : Rq) (obj first count bytes : Nat) (elements : List Nat) (s : State) : Out :=
  .next (serveTableWrite rq obj first count bytes elements s)

/-- SUBSCRIBE ADD (R435). -/
def execSubscribeAdd (rq : Rq) (codes : List Nat) (s : State) : Out :=
  .next (serve Op.subscribe 0 rq (fun x t =>
    if codes.contains 0 then { status := .range, state := t }
    else let (st, u) := t.subscribe (x.slot.getD 16) codes; { status := st, state := u }) s)

/-- SUBSCRIBE REMOVE (R435). -/
def execSubscribeRemove (rq : Rq) (codes : List Nat) (s : State) : Out :=
  .next (serve Op.subscribe 0 rq (fun x t =>
    if codes.contains 0 then { status := .range, state := t } else { status := .ok, state := t.unsubscribe (x.slot.getD 16) codes }) s)

/-- SUBSCRIBE FETCH (R435): from the buffer of a Vyusk session. -/
def execSubscribeFetch (rq : Rq) (count : Nat) (s : State) : Out :=
  .next (serve Op.subscribe 0 rq (fun x t =>
    match x.slot with
    | none => { status := .ok, state := t }
    | some k =>
      let y := t.session k
      let taken := y.buffer.take count
      let marked := match taken with
        | r :: rs => { r with gap := r.gap || y.gapOwed } :: rs
        | [] => []
      { status := .ok, payload := marked.flatMap recordFields
        state := t.setSession k { y with buffer := y.buffer.drop count, gapOwed := y.gapOwed && decide (taken = []) } }) s)

/-- RESYNC (R424). -/
def execResync (rq : Rq) (s : State) : Out := .next (serve Op.resync 0 rq (fun _ t => t.deferAnswer Op.resync rq) s)

/-- DIGEST_WALK (R425). -/
def execDigestWalk (rq : Rq) (target copy level first count : Nat) (s : State) : Out :=
  .next (serveDigestWalk rq target copy level first count s)

/-- SESSION OPEN (R431, R432). -/
def execSessionOpen (rq : Rq) (request : OpenRequest) (s : State) : Out :=
  .next (serve Op.session 0 rq (fun _ t => t.openSession rq request) s)

/-- SESSION CLOSE (R431): answered under the session, which then closes. -/
def execSessionClose (rq : Rq) (s : State) : Out :=
  let t := serve Op.session 0 rq (fun _ t => { status := .ok, state := t }) s
  .next (match s.closedBy rq with
    | some k => t.closeSession k 2
    | none => t)

/-- SESSION_IDLE_CLOSE (R431). -/
def execSessionIdleClose (k : Fin 16) (s : State) : Out :=
  .next (if s.sessionOpen k = true ∧ (s.session k).lastUse + s.obj Obj.QM_SESSION_IDLE * ticksPerSecond ≤ s.now then s.closeSession k 3 else s)

/-- OD_DOORBELL = 2 (R428). -/
def execNextChunk (s : State) : Out :=
  if s.bar.own then .next (s.withBar fun b => { b with ovr := true })
  else if s.bar.more then
    .next ((s.withBar fun b => { b with
      rspLen := min b.chunkLeft 65536, more := decide (65536 < b.chunkLeft), chunkLeft := b.chunkLeft - 65536, ready := true }).irq 0)
  else .next s

/-- OD_DOORBELL = 3 (R428). -/
def execAbandonChunks (s : State) : Out :=
  if s.bar.own then .next (s.withBar fun b => { b with ovr := true }) else .next (s.withBar fun b => { b with more := false, chunkLeft := 0 })

/-- EVQ_CTL write, with the base and size the queue then has (R427, R435). -/
def execEvqCtlWrite (v base size : Nat) (s : State) : Out :=
  if v % 2 = 0 then .next (s.withBar fun b => { b with evqCtl := 0 })
  else
    let t := s.withBar fun b => { b with
      evqCtl := 1, evqBase := base % 2 ^ 64 / 4096 * 4096, evqSize := if queueSizeFits size then size else b.evqSize, evqWr := 0, evqRd := 0 }
    .next { t with evq := { t.evq with records := [], gapOwed := true } }

end Sys2Proof.Machine
end

