-- ==== Sys2Proof/Machine/Boundary.lean ====
section
/-! DEFINITION. The tick boundary: what the ending tick still does, the boundary actions in their order (R28), and the work that every
tick-bound engine does in the tick that begins (R27). -/

namespace Sys2Proof.Machine

/-! ## The tick that ends -/

/-- dTICKOVR, which the record of the 32nd tick after the last overrun no longer carries (R30, R571). -/
def State.endTickOverrun (s : State) : State :=
  match s.lastOverrun with
  | some o => if o + 32 ≤ s.now then { s with lastOverrun := none }.clear Df.tickOvr 0 else s
  | none => s

/-- What the copies of connections carry of received FFFs at the end of the tick (R154, R155). -/
def State.noteFlags (s : State) : State := s.withProt fun p => { p with flagsNow := s.flaggedCopies }

/-- What happens at the latest at its end: injected faults for which no command has come (R476), the first valid tick (R115), dLOF (R145), bonded
groups that lose their alignment (R47), dTICKOVR (R30), the words of the ingress mappers (R202), received FFFs, Loupe triggers (R397), cells that did not arrive (R194), the counter dump (R537), and
the records of the tick before on their way into the stream (R38, R39). -/
def State.endTick (s : State) : State :=
  let a := (List.range 4).foldl State.enterValid (s.occurrences false)
  let b := ((List.range 4).foldl State.passFrames ((List.range 4).foldl State.failBond ((List.range 4).foldl State.endTickLof a))).endTickOverrun
  let c := if b.engineRuns 0 then b.ingressStage else b
  (c.noteFlags.loupeScan.missingCells.dumpRecord 96).fillStream

/-- The records of the ending tick; one that a replay delays repeats the one before it (R38, R470). -/
def State.lateBus (s : State) : Map Nat :=
  s.stores.late.foldl (fun m p => Map.set 0 m (Key.unit p) (Map.get 0 s.prot.records (Key.unit p))) s.assembleBus

/-- The tick ends: what it still does, and its records. A row for a part of the coming boundary ends it before TICK_BOUNDARY does (log entry 6). -/
def State.closeTick (s : State) : State :=
  if s.closed.isSome ∨ ¬ s.running then s
  else
    let t := s.endTick
    { t with closed := some (if t.engineRuns 2 then t.lateBus else t.prot.records), stores := { t.stores with late := [] } }

/-- A part of the coming boundary, where it is due, carried out after the end of the tick (R28). -/
def State.comingPart (s : State) (due : State → Bool) (f : State → State) : State :=
  let t := s.closeTick
  if due t then t.atBoundary f else s

/-! ## The boundary actions (R28) -/

/-- Step 4: the ingress mappers take the selector snapshot, unless its publication was missed (R27, R37). -/
def State.takeSnapshot (s : State) : State :=
  s.withProt fun p => { p with
    snapshot := if p.publishMissed then p.snapshot else p.snapshotNext.getD p.published, snapshotNext := none, publishMissed := false }

/-- The changes that the candidates of the ended tick make due, before the writes that commit at the boundary (R356). -/
def State.dpChoices (s : State) : List (Option (Option Nat)) := (List.range 4).map s.dpChange

/-- Reference switches, each with the phase error measured at the boundary (R357, R358); a DPLL that a mode write has taken out of AUTO makes none. -/
def State.switchReferences (s : State) (choices : List (Option (Option Nat))) (xs : List DpllIn) : State :=
  (List.range 4).foldl (fun t d =>
    let change := if t.obj (Obj.TM_DP_MODE d) = 0 then choices.getD d none else none
    match xs.find? fun x => decide (x.dpll.val = d) with
    | some x => t.makeSwitch d change x.error x.differs
    | none => t.makeSwitch d change 0 false) s

/-- Steps 1 to 5; the acquisitions of receivers that lost lock in the ending tick start before the commits, which win (R121, R123). -/
def State.boundaryActions (s : State) (w : TickIn) : State :=
  let a := { s with now := s.now + 1, tick := s.nextTick, counted := false }.applyLoad
  let b := (List.range 4).foldl State.startLol a.swapBoundary.abandonSwap.takeSnapshot
  b.commits.switchReferences s.dpChoices w.dplls

/-- What else takes effect at a boundary: the power domains (R487 to R497), slices (R237, R240), compiles and rollbacks (R224, R229),
SYNCING (R258), deferred keys (R342), and the egress side of a swap two ticks after it (R35, R187, R318). -/
def State.boundaryFollows (s : State) (w : TickIn) : State :=
  let a := (s.powerBoundary w.delays).quiescentBoundary
  let b := a.fenceSlices.rejoinSlices
  let c := (((b.compileEnd false).compileEnd true).rollbackEnd).copyEngine.syncEnd
  let d := c.pageDeadlines.keysProceed.withSec fun x => { x with links := x.links.foldl (fun m l => Map.set {} m l.1 { l.2 with outbox := [] }) [] }
  match d.shadow.lastSwap with
  | some e => if d.now = e + 2 then d.swapTransmit.refreshStm else d
  | none => d

/-! ## Stored data and injection -/

/-- Leaky buckets (R458), the timers of fault injection (R472, R473) and its faults of the new tick (R476). -/
def State.injectionBoundary (s : State) : State :=
  let a := (List.range 8).foldl State.leak s
  let b := a.injectionTimers.withInject fun x => { x with forced := x.forced.filter fun k => Map.get 0 x.lastHit (Key.unit k) = s.now + 1 }
  b.occurrences true

/-! ## The work of the new tick (R27) -/

/-- Prism (R202 to R204): the egress mappers, the reads, the half that is written from now on, and the fetch of the tick; without power nothing is
read. -/
def State.prismStage (s : State) (w : TickIn) : State :=
  let clean := fun (t : State) => t.withInject fun x => { x with badWords := [], badXor := [] }
  if s.engineRuns 0 then
    clean ((((s.egressStage).readStage (w.badWords ++ s.inject.badWords) (w.badXor ++ s.inject.badXor)).openHalf w.traffic).fetchStage w.badBlocks)
  else clean (s.withPrism fun p => { p with
    incoming := [], corrupt := [], epochs := [], output := [], egress := [], epochHeld := [], framed := [], actions := [], applied := [], appliedBad := []
    stage := [], stageBad := [], cellsSeen := [] })

/-- What the egress mappers do with the words that Prism delivers: the host clients, the expansion links and the line transmitters (R41). -/
def State.transmitStage (s : State) : State := s.hostTransmit.sendCells.prepareSlotMoves.prepareAps.transmitLines.answersSent

/-- Defect Bus assembly, the evaluation, FFF and APS insertion, remote points and export (R38, R286, R154, R300, R301). -/
def State.protectionStage (s : State) (bus : Map Nat) : State :=
  if s.engineRuns 3 then
    let v := s.nextView
    let a := s.withProt fun p => { p with available := v.records, stale := v.stale, records := bus, flags := p.flagsNow }
    let b := (a.evaluate v).refreshFffTx v
    (List.range 64).foldl State.remoteCheck b.exportRecords
  else s.withProt fun p => { p with urgent := [] }

/-- Mirror Merge, the Loupe, and the defect ticks that PM and the windows see. -/
def State.trafficStage (s : State) (w : TickIn) (bus : Map Nat) : State :=
  let a := if s.engineRuns 6 then s.mergeStage else s
  (a.loupeStage w.loupe).markDefects bus

/-- The sequencers of the housekeeping chains (R384, R385). -/
def State.housekeeping (s : State) : State := (List.range 15).foldl (fun t m => (t.endSeq m).periodTrigger m) s

/-- The decoder pools: their limits, and the codewords that they take (R129, R131, R132). -/
def State.timeStage (s : State) : State := (List.range 4).foldl State.dispatchWords ((List.range 4).foldl State.refreshFec s)

/-- The windows of R407 that end at the boundary. -/
def State.windowsEnd (s : State) (xs : List SdWindow) : State :=
  (s.pmPoints.filter s.sdDue).foldl (fun t p => t.sdEnd p (xs.find? fun x => decide (x.point = p))) s

/-- What the end of a second brings: the holdover history, PM with its bins, and the rollover of the time of day (R360, R399, R401, R366); then
at an epoch boundary the alignment of the counter to the time of day (R24). -/
def State.secondStage (s : State) (w : TickIn) : State :=
  let a := if s.secondEnds then
      (((w.dplls.foldl (fun (t : State) x => t.storeSecond x.dpll x.mean) s).pmSecond w.pm).pmClose false).pmClose true
    else s
  let b := a.windowsEnd w.sd
  let c := (if b.secondDue then b.rollSecond else b).ppsContinue
  (c.withTiming fun t => { t with rolled := false }).todAlign

/-- The management complex: the register block, a slot whose first sector is erased, its counters and its bus, and the overhead channels routed to it
(R159, R427, R526, R531, R534). -/
def State.complexStage (s : State) (w : TickIn) : State :=
  let a := w.bar.foldl (fun (t : State) x => t.barWrite x.1 x.2) s
  let b := if a.mc.programming.isSome ∧ a.obj Obj.MC_FW_PROGRAM_STATE = 1 then a.setObj Obj.MC_FW_PROGRAM_STATE 2 else a
  ((((w.perf.foldl (fun (t : State) x => t.perfCount x.1 x.2) b).busTick w.hold w.bus).complexChannels w.gcc).receiveKeys w.gcc).feedKeys

/-- The work of the new tick. -/
def State.beginTick (s : State) (w : TickIn) (bus : Map Nat) : State :=
  let a := (s.injectionBoundary.repeatAlerts.prismStage w).sendLevels.transmitStage
  let b := ((a.protectionStage bus).trafficStage w bus).checkTags
  let c := (((b.housekeeping.timeStage).measureTick w).secondStage w).complexStage w
  ((c.ringBoundary w.asks).answerSummaries).deliverEvents

/-- The boundary that ends one tick and opens the next. -/
def State.boundary (s : State) (w : TickIn) : State :=
  let ended := s.closeTick
  let opened := { ended with closed := none }.boundaryActions w
  (opened.boundaryFollows w).beginTick w (ended.closed.getD [])

/-- TICK_BOUNDARY (R20, R27, R28): the first one of the boot sequence's step 10 opens tick 0; before the firmware runs only the register block
acts. -/
def execTickBoundary (w : TickIn) (s : State) : Out :=
  if s.running then .next (s.boundary w)
  else if s.startsTicks then .next (s.startTicks.beginTick w s.prot.records)
  else if s.alive then .next (w.bar.foldl (fun (t : State) x => t.barWrite x.1 x.2) s)
  else .next s

/-! ## Rows for a part of the boundary (log entry 6) -/

/-- An action of the coming boundary waits that satisfies `p`. -/
def State.comesDue (s : State) (p : Due → Bool) : Bool := s.agenda.any fun q => decide (q.boundary ≤ s.now + 1) && p q.due

/-- TICK_COUNTER_LOAD (R23, R24): the load of the coming boundary; the boundary then finds its count made. -/
def execTickCounterLoad (s : State) : Out :=
  let c := s.closeTick
  let t := { c with now := c.now + 1, tick := c.nextTick }.applyLoad
  if t.load = c.load ∧ t.autoLoad = c.autoLoad then .next s
  else .next { t with now := c.now, counted := true }

/-- BOND_APPLY (R45): a new grouping whose boundary is the coming one. -/
def execBondApply (s : State) : Out := .next (s.comingPart (·.comesDue isBond) fun t => t.runDue runBond isBond)

/-- MODE_COMMIT (R85): the staged line configurations, at the coming boundary. -/
def execModeCommit (s : State) : Out := .next (s.comingPart (·.comesDue isMode) State.commitModes)

/-- SINGLE_OBJECT_COMMIT (R34): the staged writes of the coming boundary. -/
def execSingleObjectCommit (s : State) : Out := .next (s.comingPart (·.comesDue isWrite) State.commitObjects)

/-- SWAP_TAKE_EFFECT (R35, R232, R269): the words of the tick that ends pass the old ingress maps. -/
def execSwapTakeEffect (s : State) : Out := .next (s.comingPart State.swapComes State.swapBoundary)

/-- PM_SECOND (R399 to R403, R406): the second that the coming boundary ends. -/
def execPmSecond (counts : List PmCount) (s : State) : Out := .next (s.comingPart State.secondComes fun t => t.pmSecond counts)

/-- PM_SD_WINDOW (R407): a window that the coming boundary ends. -/
def execPmSdWindow (w : SdWindow) (s : State) : Out := .next (s.comingPart (·.windowComes w.point) fun t => t.sdEnd w.point (some w))

end Sys2Proof.Machine
end

