-- ==== Sys2Proof/Machine/Dispatch.lean ====
section
/-! DEFINITION. The meaning of every command: one arm per constructor of `Instr`. -/

namespace Sys2Proof.Machine

/-- The effect of a command on everything but the queue. -/
def exec (i : Instr) (s : State) : Host.Outcome State Fault Refusal :=
  match i with
  | .tickBoundary w => Sys2Proof.Machine.execTickBoundary w s
  | .tickOverrun engine affected => Sys2Proof.Machine.execTickOverrun engine affected s
  | .dtickovrClear => Sys2Proof.Machine.execDtickovrClear s
  | .corePllUnlock => Sys2Proof.Machine.execCorePllUnlock s
  | .tbTickLoad rq val => Sys2Proof.Machine.execTbTickLoad rq val s
  | .tickCounterLoad => Sys2Proof.Machine.execTickCounterLoad s
  | .tbBondCfgWrite rq val => Sys2Proof.Machine.execTbBondCfgWrite rq val s
  | .bondApply => Sys2Proof.Machine.execBondApply s
  | .singleObjectCommit => Sys2Proof.Machine.execSingleObjectCommit s
  | .laserRangeChange e input power ticks => Sys2Proof.Machine.execLaserRangeChange e input power ticks s
  | .lspiXfer rq e val => Sys2Proof.Machine.execLspiXfer rq e val s
  | .lspiDone e received => Sys2Proof.Machine.execLspiDone e received s
  | .biasUnlock e loops => Sys2Proof.Machine.execBiasUnlock e loops s
  | .biasRelockRestore e ticks => Sys2Proof.Machine.execBiasRelockRestore e ticks s
  | .txPowerShort e achieved ticks => Sys2Proof.Machine.execTxPowerShort e achieved ticks s
  | .rxOverload e average quietTicks => Sys2Proof.Machine.execRxOverload e average quietTicks s
  | .lineLosDeclare e power ns => Sys2Proof.Machine.execLineLosDeclare e power ns s
  | .lineLosClear e power ticks => Sys2Proof.Machine.execLineLosClear e power ticks s
  | .refRangeChange microvolts calclkPpb => Sys2Proof.Machine.execRefRangeChange microvolts calclkPpb s
  | .bgCalUpdate e coefficients => Sys2Proof.Machine.execBgCalUpdate e coefficients s
  | .calDarkOffset rq e => Sys2Proof.Machine.execCalDarkOffset rq e s
  | .calLoopback rq e => Sys2Proof.Machine.execCalLoopback rq e s
  | .calReference rq e => Sys2Proof.Machine.execCalReference rq e s
  | .calAbort rq e => Sys2Proof.Machine.execCalAbort rq e s
  | .calRunStart e power => Sys2Proof.Machine.execCalRunStart e power s
  | .calComplete e power result => Sys2Proof.Machine.execCalComplete e power result s
  | .calDeferredCommit => Sys2Proof.Machine.execCalDeferredCommit s
  | .calDeferTimeout e => Sys2Proof.Machine.execCalDeferTimeout e s
  | .cnvCalImageWrite rq e val => Sys2Proof.Machine.execCnvCalImageWrite rq e val s
  | .cnvConverged e => Sys2Proof.Machine.execCnvConverged e s
  | .ldspModeWrite rq e val => Sys2Proof.Machine.execLdspModeWrite rq e val s
  | .ldspSubcarriersWrite rq e val => Sys2Proof.Machine.execLdspSubcarriersWrite rq e val s
  | .ldspRolloffWrite rq e val => Sys2Proof.Machine.execLdspRolloffWrite rq e val s
  | .ldspTxNotchWrite rq e index val => Sys2Proof.Machine.execLdspTxNotchWrite rq e index val s
  | .modeCommit => Sys2Proof.Machine.execModeCommit s
  | .txTrafficStart e => Sys2Proof.Machine.execTxTrafficStart e s
  | .acqRestartNewSignal rq e => Sys2Proof.Machine.execAcqRestartNewSignal rq e s
  | .acqRestartCold rq e => Sys2Proof.Machine.execAcqRestartCold rq e s
  | .buildDone e => Sys2Proof.Machine.execBuildDone e s
  | .searchDone e cd offset => Sys2Proof.Machine.execSearchDone e cd offset s
  | .verifyDone e => Sys2Proof.Machine.execVerifyDone e s
  | .verifyTimeout e => Sys2Proof.Machine.execVerifyTimeout e s
  | .syncPosition e primary secondary => Sys2Proof.Machine.execSyncPosition e primary secondary s
  | .enterValid e => Sys2Proof.Machine.execEnterValid e s
  | .acqRetry e => Sys2Proof.Machine.execAcqRetry e s
  | .lolDeclare e cause => Sys2Proof.Machine.execLolDeclare e cause s
  | .storedStateExpire e => Sys2Proof.Machine.execStoredStateExpire e s
  | .decCoreFail e core cause codewords => Sys2Proof.Machine.execDecCoreFail e core cause codewords s
  | .coreStartupTestDone e core pass => Sys2Proof.Machine.execCoreStartupTestDone e core pass s
  | .fecCoreRetest rq e val => Sys2Proof.Machine.execFecCoreRetest rq e val s
  | .coreRetestDone e core pass => Sys2Proof.Machine.execCoreRetestDone e core pass s
  | .fecfailDeclare e fraction ticks => Sys2Proof.Machine.execFecfailDeclare e fraction ticks s
  | .fecfailClear e ticks => Sys2Proof.Machine.execFecfailClear e ticks s
  | .lFrameReceive e frame => Sys2Proof.Machine.execLFrameReceive e frame s
  | .otucFrameCheck e frame => Sys2Proof.Machine.execOtucFrameCheck e frame s
  | .bondDeskew group offsets numbered => Sys2Proof.Machine.execBondDeskew group offsets numbered s
  | .ohpFrame port records received => Sys2Proof.Machine.execOhpFrame port records received s
  | .ohGccRouteWrite rq index val => Sys2Proof.Machine.execOhGccRouteWrite rq index val s
  | .hlRateWrite rq l val => Sys2Proof.Machine.execHlRateWrite rq l val s
  | .hlTxTimingWrite rq l val => Sys2Proof.Machine.execHlTxTimingWrite rq l val s
  | .hlPrbsCfgWrite rq l val => Sys2Proof.Machine.execHlPrbsCfgWrite rq l val s
  | .laneLocked l => Sys2Proof.Machine.execLaneLocked l s
  | .laneLossOfLock l => Sys2Proof.Machine.execLaneLossOfLock l s
  | .laneLosDeclare l amplitude ns => Sys2Proof.Machine.execLaneLosDeclare l amplitude ns s
  | .laneLosClear l amplitude ticks => Sys2Proof.Machine.execLaneLosClear l amplitude ticks s
  | .cliTypeWrite rq l val set => Sys2Proof.Machine.execCliTypeWrite rq l val set s
  | .cliFormWrite rq l val => Sys2Proof.Machine.execCliFormWrite rq l val s
  | .flexeCalSwitch g calendar => Sys2Proof.Machine.execFlexeCalSwitch g calendar s
  | .expansionCellReceive l cell => Sys2Proof.Machine.execExpansionCellReceive l cell s
  | .compileDirty rq => Sys2Proof.Machine.execCompileDirty rq s
  | .compileAll rq => Sys2Proof.Machine.execCompileAll rq s
  | .compileAbandon rq => Sys2Proof.Machine.execCompileAbandon rq s
  | .compileDone => Sys2Proof.Machine.execCompileDone s
  | .compileFail => Sys2Proof.Machine.execCompileFail s
  | .rollbackDone => Sys2Proof.Machine.execRollbackDone s
  | .sliceFail slice cause errors => Sys2Proof.Machine.execSliceFail slice cause errors s
  | .prismSliceRetest rq val => Sys2Proof.Machine.execPrismSliceRetest rq val s
  | .sliceRetestDone slice pass => Sys2Proof.Machine.execSliceRetestDone slice pass s
  | .sliceRejoin => Sys2Proof.Machine.execSliceRejoin s
  | .swap rq byObject => Sys2Proof.Machine.execSwap rq byObject s
  | .swapAt rq byObject epoch => Sys2Proof.Machine.execSwapAt rq byObject epoch s
  | .prismSwapCancel rq => Sys2Proof.Machine.execPrismSwapCancel rq s
  | .shdRevert rq => Sys2Proof.Machine.execShdRevert rq s
  | .swapTakeEffect => Sys2Proof.Machine.execSwapTakeEffect s
  | .swapAbandon => Sys2Proof.Machine.execSwapAbandon s
  | .syncDone => Sys2Proof.Machine.execSyncDone s
  | .blockRegenerate page block ticks => Sys2Proof.Machine.execBlockRegenerate page block ticks s
  | .smxMessageReceive e message => Sys2Proof.Machine.execSmxMessageReceive e message s
  | .smxTargetMultiframe e own count => Sys2Proof.Machine.execSmxTargetMultiframe e own count s
  | .lcrMessageReceive e message => Sys2Proof.Machine.execLcrMessageReceive e message s
  | .lcrResizeMultiframe e index count => Sys2Proof.Machine.execLcrResizeMultiframe e index count s
  | .lineChgTimeout e index multiframes => Sys2Proof.Machine.execLineChgTimeout e index multiframes s
  | .lineChgRetry rq e val => Sys2Proof.Machine.execLineChgRetry rq e val s
  | .holdoffExpire g => Sys2Proof.Machine.execHoldoffExpire g s
  | .wtrExpire g => Sys2Proof.Machine.execWtrExpire g s
  | .pscHoldExpire g => Sys2Proof.Machine.execPscHoldExpire g s
  | .apsReceive g value => Sys2Proof.Machine.execApsReceive g value s
  | .fopMismatchTimeout g => Sys2Proof.Machine.execFopMismatchTimeout g s
  | .remoteRecordReceive node index tick record => Sys2Proof.Machine.execRemoteRecordReceive node index tick record s
  | .remoteStale r => Sys2Proof.Machine.execRemoteStale r s
  | .mmFrameComplete m protect frame => Sys2Proof.Machine.execMmFrameComplete m protect frame s
  | .mmAutoRetime m => Sys2Proof.Machine.execMmAutoRetime m s
  | .mmRetime rq val => Sys2Proof.Machine.execMmRetime rq val s
  | .hbmFailure reads => Sys2Proof.Machine.execHbmFailure reads s
  | .hbmReturn => Sys2Proof.Machine.execHbmReturn s
  | .secMapWrite rq index val => Sys2Proof.Machine.execSecMapWrite rq index val s
  | .secRxFrame e ch frame => Sys2Proof.Machine.execSecRxFrame e ch frame s
  | .secTxFrame e ch frame => Sys2Proof.Machine.execSecTxFrame e ch frame s
  | .secRoll rq e val => Sys2Proof.Machine.execSecRoll rq e val s
  | .keySwitch e ch => Sys2Proof.Machine.execKeySwitch e ch s
  | .secKeyInstall rq e val => Sys2Proof.Machine.execSecKeyInstall rq e val s
  | .secZeroise rq val => Sys2Proof.Machine.execSecZeroise rq val s
  | .secLinkStart rq e val => Sys2Proof.Machine.execSecLinkStart rq e val s
  | .kaHello e publicKey nonce => Sys2Proof.Machine.execKaHello e publicKey nonce s
  | .kaEk e key signature => Sys2Proof.Machine.execKaEk e key signature s
  | .kaCt e ciphertext signature => Sys2Proof.Machine.execKaCt e ciphertext signature s
  | .kaConfirm e value => Sys2Proof.Machine.execKaConfirm e value s
  | .kaReady e tpn d epoch check => Sys2Proof.Machine.execKaReady e tpn d epoch check s
  | .kaAbort e cause => Sys2Proof.Machine.execKaAbort e cause s
  | .kaTimeout e => Sys2Proof.Machine.execKaTimeout e s
  | .kaRetry e => Sys2Proof.Machine.execKaRetry e s
  | .linkSecretExpire e => Sys2Proof.Machine.execLinkSecretExpire e s
  | .entropyFail test => Sys2Proof.Machine.execEntropyFail test s
  | .entropyRecover windows => Sys2Proof.Machine.execEntropyRecover windows s
  | .keyDeferredProceed => Sys2Proof.Machine.execKeyDeferredProceed s
  | .refFail r missing => Sys2Proof.Machine.execRefFail r missing s
  | .refFailClear r run => Sys2Proof.Machine.execRefFailClear r run s
  | .refCheck r offset fresh => Sys2Proof.Machine.execRefCheck r offset fresh s
  | .refQualify r => Sys2Proof.Machine.execRefQualify r s
  | .dpllSwitchCommit d error differs => Sys2Proof.Machine.execDpllSwitchCommit d error differs s
  | .dpllFrequencyLock d ticks error => Sys2Proof.Machine.execDpllFrequencyLock d ticks error s
  | .slewDone d => Sys2Proof.Machine.execSlewDone d s
  | .xoFail ppm => Sys2Proof.Machine.execXoFail ppm s
  | .xoReturn ppm ticks => Sys2Proof.Machine.execXoReturn ppm ticks s
  | .esmcPduReceive l ssm essm => Sys2Proof.Machine.execEsmcPduReceive l ssm essm s
  | .esmcTimeout r => Sys2Proof.Machine.execEsmcTimeout r s
  | .esmcInfoTx l => Sys2Proof.Machine.execEsmcInfoTx l s
  | .ppsEdge p error => Sys2Proof.Machine.execPpsEdge p error s
  | .tmTodSet rq val => Sys2Proof.Machine.execTmTodSet rq val s
  | .todSecondRollover => Sys2Proof.Machine.execTodSecondRollover s
  | .tmDpPhaseAdj rq d val => Sys2Proof.Machine.execTmDpPhaseAdj rq d val s
  | .tmHoParamWrite rq param val => Sys2Proof.Machine.execTmHoParamWrite rq param val s
  | .ptpTimestamp l stamp => Sys2Proof.Machine.execPtpTimestamp l stamp s
  | .measUpdate e estimates => Sys2Proof.Machine.execMeasUpdate e estimates s
  | .rtdMeasure e stamp => Sys2Proof.Machine.execRtdMeasure e stamp s
  | .rtdReturn e stamp => Sys2Proof.Machine.execRtdReturn e stamp s
  | .rtdTimeout e => Sys2Proof.Machine.execRtdTimeout e s
  | .pscTransientOpen e speed => Sys2Proof.Machine.execPscTransientOpen e speed s
  | .pscClassify e speed above => Sys2Proof.Machine.execPscClassify e speed above s
  | .pscTransientClose e quiet peak => Sys2Proof.Machine.execPscTransientClose e quiet peak s
  | .hkResult c data => Sys2Proof.Machine.execHkResult c data s
  | .hkSeqFire rq m val => Sys2Proof.Machine.execHkSeqFire rq m val s
  | .hkSeqPeriodTrigger m => Sys2Proof.Machine.execHkSeqPeriodTrigger m s
  | .hkSeqEnd m => Sys2Proof.Machine.execHkSeqEnd m s
  | .hkSeqStepsWrite rq m index val => Sys2Proof.Machine.execHkSeqStepsWrite rq m index val s
  | .hkInterleaveWrite rq val => Sys2Proof.Machine.execHkInterleaveWrite rq val s
  | .loupeArm rq => Sys2Proof.Machine.execLoupeArm rq s
  | .loupeAbort rq => Sys2Proof.Machine.execLoupeAbort rq s
  | .loupeFire rq val => Sys2Proof.Machine.execLoupeFire rq val s
  | .loupeTrigger => Sys2Proof.Machine.execLoupeTrigger s
  | .loupeDone => Sys2Proof.Machine.execLoupeDone s
  | .pmSecond counts => Sys2Proof.Machine.execPmSecond counts s
  | .pmBinClose day => Sys2Proof.Machine.execPmBinClose day s
  | .pmSdWindow w => Sys2Proof.Machine.execPmSdWindow w s
  | .pmPointWrite rq p val => Sys2Proof.Machine.execPmPointWrite rq p val s
  | .read rq obj index => Sys2Proof.Machine.execRead rq obj index s
  | .write rq obj index val => Sys2Proof.Machine.execWrite rq obj index val s
  | .writeShadow rq obj index generation edits val => Sys2Proof.Machine.execWriteShadow rq obj index generation edits val s
  | .bulkRead rq obj first count => Sys2Proof.Machine.execBulkRead rq obj first count s
  | .tableWrite rq obj first count bytes elements => Sys2Proof.Machine.execTableWrite rq obj first count bytes elements s
  | .subscribeAdd rq codes => Sys2Proof.Machine.execSubscribeAdd rq codes s
  | .subscribeRemove rq codes => Sys2Proof.Machine.execSubscribeRemove rq codes s
  | .subscribeFetch rq count => Sys2Proof.Machine.execSubscribeFetch rq count s
  | .resync rq => Sys2Proof.Machine.execResync rq s
  | .digestWalk rq target copy level first count => Sys2Proof.Machine.execDigestWalk rq target copy level first count s
  | .sessionOpen rq request => Sys2Proof.Machine.execSessionOpen rq request s
  | .sessionClose rq => Sys2Proof.Machine.execSessionClose rq s
  | .sessionIdleClose k => Sys2Proof.Machine.execSessionIdleClose k s
  | .nextChunk => Sys2Proof.Machine.execNextChunk s
  | .abandonChunks => Sys2Proof.Machine.execAbandonChunks s
  | .evqCtlWrite v base size => Sys2Proof.Machine.execEvqCtlWrite v base size s
  | .ringCopyReceive copy => Sys2Proof.Machine.execRingCopyReceive copy s
  | .standbyTakeover => Sys2Proof.Machine.execStandbyTakeover s
  | .vyPortFail port lockLost silent => Sys2Proof.Machine.execVyPortFail port lockLost silent s
  | .vyUnwrap port locked frame => Sys2Proof.Machine.execVyUnwrap port locked frame s
  | .demandScrub region page => Sys2Proof.Machine.execDemandScrub region page s
  | .scrubVisit visit passEnd => Sys2Proof.Machine.execScrubVisit visit passEnd s
  | .bucketLeak region => Sys2Proof.Machine.execBucketLeak region s
  | .pageRepairSwitch region page => Sys2Proof.Machine.execPageRepairSwitch region page s
  | .uncorrectablePageRepair page ticks => Sys2Proof.Machine.execUncorrectablePageRepair page ticks s
  | .sioTWrite rq region val => Sys2Proof.Machine.execSioTWrite rq region val s
  | .d2dReplay replay => Sys2Proof.Machine.execD2dReplay replay s
  | .d2dLaneSpare link direction group lane errors => Sys2Proof.Machine.execD2dLaneSpare link direction group lane errors s
  | .fiArmPrepare rq => Sys2Proof.Machine.execFiArmPrepare rq s
  | .fiArmConfirm rq => Sys2Proof.Machine.execFiArmConfirm rq s
  | .fiDisarm rq => Sys2Proof.Machine.execFiDisarm rq s
  | .fiPrepareTimeout => Sys2Proof.Machine.execFiPrepareTimeout s
  | .fiDurationExpire => Sys2Proof.Machine.execFiDurationExpire s
  | .fiOccurrence slot conns affected => Sys2Proof.Machine.execFiOccurrence slot conns affected s
  | .fiSlotWrite rq slot val => Sys2Proof.Machine.execFiSlotWrite rq slot val s
  | .pwrDomSleep rq d => Sys2Proof.Machine.execPwrDomSleep rq d s
  | .pwrDomWake rq d => Sys2Proof.Machine.execPwrDomWake rq d s
  | .domainEntryHandshake d delaying => Sys2Proof.Machine.execDomainEntryHandshake d delaying s
  | .entryDelayTimeout d => Sys2Proof.Machine.execEntryDelayTimeout d s
  | .domainEntryStepEnd d => Sys2Proof.Machine.execDomainEntryStepEnd d s
  | .wakeNAssert => Sys2Proof.Machine.execWakeNAssert s
  | .domainRampDone d failed => Sys2Proof.Machine.execDomainRampDone d failed s
  | .domainClockSwitch d => Sys2Proof.Machine.execDomainClockSwitch d s
  | .pwrPadRelease rq d val => Sys2Proof.Machine.execPwrPadRelease rq d val s
  | .regulatorAck rail => Sys2Proof.Machine.execRegulatorAck rail s
  | .regulatorTimeout rail ticks => Sys2Proof.Machine.execRegulatorTimeout rail ticks s
  | .pmbAlert faults => Sys2Proof.Machine.execPmbAlert faults s
  | .pwrRailRetry rq rail val => Sys2Proof.Machine.execPwrRailRetry rq rail val s
  | .avsStep up => Sys2Proof.Machine.execAvsStep up s
  | .supplyWarning rail voltage samples => Sys2Proof.Machine.execSupplyWarning rail voltage samples s
  | .supplyRecover rail voltage minimum ticks => Sys2Proof.Machine.execSupplyRecover rail voltage minimum ticks s
  | .supplyReset rail voltage samples => Sys2Proof.Machine.execSupplyReset rail voltage samples s
  | .pwrQuiescent rq val wakeN => Sys2Proof.Machine.execPwrQuiescent rq val wakeN s
  | .quiescentExit byRing request => Sys2Proof.Machine.execQuiescentExit byRing request s
  | .porstNRelease board => Sys2Proof.Machine.execPorstNRelease board s
  | .bootReady ending => Sys2Proof.Machine.execBootReady ending s
  | .fwChunk rq offset bytes data => Sys2Proof.Machine.execFwChunk rq offset bytes data s
  | .fwEnd rq length => Sys2Proof.Machine.execFwEnd rq length s
  | .pcieLinkLoss bursts => Sys2Proof.Machine.execPcieLinkLoss bursts s
  | .secSvCommit rq val burned => Sys2Proof.Machine.execSecSvCommit rq val burned s
  | .secOwnerFuse rq val => Sys2Proof.Machine.execSecOwnerFuse rq val s
  | .secAttestNonce rq val => Sys2Proof.Machine.execSecAttestNonce rq val s
  | .attestDone => Sys2Proof.Machine.execAttestDone s
  | .lockstepMismatch pair => Sys2Proof.Machine.execLockstepMismatch pair s
  | .watchdogExpire pair ms => Sys2Proof.Machine.execWatchdogExpire pair ms s
  | .mcRestart rq val => Sys2Proof.Machine.execMcRestart rq val s
  | .warmRestart bursts => Sys2Proof.Machine.execWarmRestart bursts s
  | .warmRestartReady => Sys2Proof.Machine.execWarmRestartReady s
  | .mcFwCheck rq val => Sys2Proof.Machine.execMcFwCheck rq val s
  | .fwCheckDone => Sys2Proof.Machine.execFwCheckDone s
  | .mcFwProgramSlotA rq => Sys2Proof.Machine.execMcFwProgramSlotA rq s
  | .mcFwProgramSlotB rq => Sys2Proof.Machine.execMcFwProgramSlotB rq s
  | .fwProgramDone ok => Sys2Proof.Machine.execFwProgramDone ok s
  | .mcFwActivate rq val => Sys2Proof.Machine.execMcFwActivate rq val s
  | .perfCounterOverflow counter count => Sys2Proof.Machine.execPerfCounterOverflow counter count s
  | .perfDump complete => Sys2Proof.Machine.execPerfDump complete s
  | .perfFreeze rq => Sys2Proof.Machine.execPerfFreeze rq s
  | .perfResume rq => Sys2Proof.Machine.execPerfResume rq s
  | .biasLoopLock e loops power => Sys2Proof.Machine.execBiasLoopLock e loops power s
  | .clientPcsLockChange l pcs => Sys2Proof.Machine.execClientPcsLockChange l pcs s
  | .s1Receive l s1 => Sys2Proof.Machine.execS1Receive l s1 s
  | .agreementFrameReceive e lof alignment => Sys2Proof.Machine.execAgreementFrameReceive e lof alignment s
  | .supplyResetRelease samples => Sys2Proof.Machine.execSupplyResetRelease samples s
  | .porstNAssert => Sys2Proof.Machine.execPorstNAssert s
  | .pcieLinkUp => Sys2Proof.Machine.execPcieLinkUp s
  | .quiescentRailRetry rail ticks => Sys2Proof.Machine.execQuiescentRailRetry rail ticks s

end Sys2Proof.Machine
end

