-- ==== Sys2Proof/Safety.lean ====
section
/-! DEFINITION. The terms in which the claims speak: a command completes, a request is served, a write is accepted, and the stores of the
objects are in their canonical form. -/

namespace Sys2Proof.Machine

/-- A command completes: it answers a next state. -/
def Completes (c : Instr) (s : State) : Prop := ∃ t, exec c s = .next t

/-- The agent takes a request up and finds nothing against it in checks 1 to 3 of R421: the device is alive, the mailbox is the host's, the
boot state is READY, the version is 1, `x` is the sender, and its role admits the opcode. -/
structure Served (op minRole : Nat) (rq : Rq) (x : Sender) (s : State) : Prop where
  alive : s.alive = true
  mailbox : ¬ (rq.slot = none ∧ s.bar.own = true)
  ready : s.ready = true
  version : rq.ver = 1
  sender : s.sender rq op = some x
  role : minRole ≤ x.role
  length : objectOp op = true ∨ rq.lenOk = true

/-- The state in which a request that is served is carried out: the request is counted and its session used (R431, R433). -/
def State.served (s : State) (rq : Rq) (x : Sender) : State := (s.bump Obj.QM_REQ_COUNT).touchSession rq x

/-- A write of object `k` with value `val` is served and passes checks 4 to 7 of R421; `v` is what is stored (R9). -/
def Accepted (rq : Rq) (x : Sender) (k : Key) (val v : Val) (s : State) : Prop :=
  Served Op.write 1 rq x s ∧ ∃ r, checkWrite x.role .write k val = .ok (r, v)

/-- An accepted write whose effect has led to `t` answers OK. -/
def State.answered (t : State) (rq : Rq) : State := t.deliver rq Op.write .ok []

/-- The requests that write one object, with its key and the value they carry; a swap by object is no plain write (R253). -/
def writeOf : Instr → Option (Rq × Key × Val)
  | .write rq obj index val =>
    if objKey obj index = Obj.PRISM_SWAP_REQ ∨ objKey obj index = Obj.PRISM_SWAP_AT then none else some (rq, objKey obj index, val)
  | .tbTickLoad rq val => some (rq, Obj.TB_TICK_LOAD, val)
  | .tbBondCfgWrite rq val => some (rq, Obj.TB_BOND_CFG, val)
  | .lspiXfer rq e val => some (rq, Obj.LSPI_XFER e, val)
  | .calDarkOffset rq e => some (rq, Obj.CNV_CAL_START e, ⟨2, 1⟩)
  | .calLoopback rq e => some (rq, Obj.CNV_CAL_START e, ⟨2, 2⟩)
  | .calReference rq e => some (rq, Obj.CNV_CAL_START e, ⟨2, 3⟩)
  | .calAbort rq e => some (rq, Obj.CNV_CAL_START e, ⟨2, 0⟩)
  | .cnvCalImageWrite rq e val => some (rq, Obj.CNV_CAL_IMAGE e, val)
  | .ldspModeWrite rq e val => some (rq, Obj.LDSP_MODE e, val)
  | .ldspSubcarriersWrite rq e val => some (rq, Obj.LDSP_SUBCARRIERS e, val)
  | .ldspRolloffWrite rq e val => some (rq, Obj.LDSP_ROLLOFF e, val)
  | .ldspTxNotchWrite rq e index val => some (rq, Obj.LDSP_TX_NOTCH e index, val)
  | .acqRestartNewSignal rq e => some (rq, Obj.LDSP_ACQ_RESTART e, ⟨2, 1⟩)
  | .acqRestartCold rq e => some (rq, Obj.LDSP_ACQ_RESTART e, ⟨2, 2⟩)
  | .fecCoreRetest rq e val => some (rq, Obj.FEC_CORE_RETEST e, val)
  | .ohGccRouteWrite rq index val => some (rq, Obj.OH_GCC_ROUTE index, val)
  | .hlRateWrite rq l val => some (rq, Obj.HL_RATE l, val)
  | .hlTxTimingWrite rq l val => some (rq, Obj.HL_TX_TIMING l, val)
  | .hlPrbsCfgWrite rq l val => some (rq, Obj.HL_PRBS_CFG l, val)
  | .cliTypeWrite rq l val _ => some (rq, Obj.CLI_TYPE l, val)
  | .cliFormWrite rq l val => some (rq, Obj.CLI_FORM l, val)
  | .compileDirty rq => some (rq, Obj.PRISM_COMPILE, ⟨2, 1⟩)
  | .compileAll rq => some (rq, Obj.PRISM_COMPILE, ⟨2, 2⟩)
  | .compileAbandon rq => some (rq, Obj.PRISM_COMPILE, ⟨2, 0⟩)
  | .prismSliceRetest rq val => some (rq, Obj.PRISM_SLICE_RETEST, val)
  | .prismSwapCancel rq => some (rq, Obj.PRISM_SWAP_CANCEL, ⟨2, 1⟩)
  | .shdRevert rq => some (rq, Obj.SHD_REVERT, ⟨2, 1⟩)
  | .lineChgRetry rq e val => some (rq, Obj.LINE_CHG_RETRY e, val)
  | .mmRetime rq val => some (rq, Obj.MM_RETIME, val)
  | .secMapWrite rq index val => some (rq, Obj.SEC_MAP index, val)
  | .secRoll rq e val => some (rq, Obj.SEC_ROLL e, val)
  | .secKeyInstall rq e val => some (rq, Obj.SEC_KEY_INSTALL e, val)
  | .secZeroise rq val => some (rq, Obj.SEC_ZEROISE, val)
  | .secLinkStart rq e val => some (rq, Obj.SEC_LINK_START e, val)
  | .tmTodSet rq val => some (rq, Obj.TM_TOD_SET, val)
  | .tmDpPhaseAdj rq d val => some (rq, Obj.TM_DP_PHASE_ADJ d, val)
  | .tmHoParamWrite rq param val => some (rq, holdKey param, val)
  | .hkSeqFire rq m val => some (rq, Obj.HK_SEQ_FIRE m, val)
  | .hkSeqStepsWrite rq m index val => some (rq, Obj.HK_SEQ_STEPS m index, val)
  | .hkInterleaveWrite rq val => some (rq, Obj.HK_INTERLEAVE, val)
  | .loupeArm rq => some (rq, Obj.LOUPE_ARM, ⟨2, 1⟩)
  | .loupeAbort rq => some (rq, Obj.LOUPE_ARM, ⟨2, 0⟩)
  | .loupeFire rq val => some (rq, Obj.LOUPE_FIRE, val)
  | .pmPointWrite rq p val => some (rq, Obj.PM_POINT p, val)
  | .sioTWrite rq region val => some (rq, Obj.SIO_T region, val)
  | .fiArmPrepare rq => some (rq, Obj.FI_ARM, ⟨4, 0xA1⟩)
  | .fiArmConfirm rq => some (rq, Obj.FI_ARM, ⟨4, 0x5E⟩)
  | .fiDisarm rq => some (rq, Obj.FI_ARM, ⟨4, 0⟩)
  | .fiSlotWrite rq slot val => some (rq, Obj.FI_SLOT slot, val)
  | .pwrDomSleep rq d => some (rq, Obj.PWR_DOM_REQ d, ⟨2, 1⟩)
  | .pwrDomWake rq d => some (rq, Obj.PWR_DOM_REQ d, ⟨2, 0⟩)
  | .pwrPadRelease rq d val => some (rq, Obj.PWR_PAD_RELEASE d, val)
  | .pwrRailRetry rq rail val => some (rq, Obj.PWR_RAIL_RETRY rail, val)
  | .pwrQuiescent rq val _ => some (rq, Obj.PWR_QUIESCENT, val)
  | .secSvCommit rq val _ => some (rq, Obj.SEC_SV_COMMIT, val)
  | .secOwnerFuse rq val => some (rq, Obj.SEC_OWNER_FUSE, val)
  | .secAttestNonce rq val => some (rq, Obj.SEC_ATTEST_NONCE, val)
  | .mcRestart rq val => some (rq, Obj.MC_RESTART, val)
  | .mcFwCheck rq val => some (rq, Obj.MC_FW_CHECK, val)
  | .mcFwProgramSlotA rq => some (rq, Obj.MC_FW_PROGRAM, ⟨2, 1⟩)
  | .mcFwProgramSlotB rq => some (rq, Obj.MC_FW_PROGRAM, ⟨2, 2⟩)
  | .mcFwActivate rq val => some (rq, Obj.MC_FW_ACTIVATE, val)
  | .perfFreeze rq => some (rq, Obj.PERF_FREEZE, ⟨2, 1⟩)
  | .perfResume rq => some (rq, Obj.PERF_FREEZE, ⟨2, 0⟩)
  | _ => none

/-- The request that a command is, with its opcode and the least role the opcode needs (R416, R419). -/
def requestOf (c : Instr) : Option (Rq × Nat × Nat) :=
  match c with
  | .read rq _ _ => some (rq, Op.read, 0)
  | .bulkRead rq _ _ _ => some (rq, Op.bulkRead, 0)
  | .writeShadow rq _ _ _ _ _ => some (rq, Op.writeShadow, 1)
  | .tableWrite rq _ _ _ _ _ => some (rq, Op.tableWrite, 1)
  | .subscribeAdd rq _ => some (rq, Op.subscribe, 0)
  | .subscribeRemove rq _ => some (rq, Op.subscribe, 0)
  | .subscribeFetch rq _ => some (rq, Op.subscribe, 0)
  | .resync rq => some (rq, Op.resync, 0)
  | .digestWalk rq _ _ _ _ _ => some (rq, Op.digestWalk, 0)
  | .sessionOpen rq _ => some (rq, Op.session, 0)
  | .sessionClose rq => some (rq, Op.session, 0)
  | .swap rq byObject => some (rq, if byObject then Op.write else Op.swap, 0)
  | .swapAt rq byObject _ => some (rq, if byObject then Op.write else Op.swapAt, 0)
  | _ => (writeOf c).map fun w => (w.1, Op.write, 1)

/-- The objects' stores and the declared defects are in canonical form: keys strictly rising, and no entry at what an unlisted key reads as. -/
def Canonical (s : State) : Prop :=
  Map.wf objDefault s.reg = true ∧ Map.wf objDefault s.act = true ∧ Map.wf objDefault s.shd = true ∧ Map.wf (fun _ => 0) s.defects = true

end Sys2Proof.Machine
end

