-- ==== Sys2Proof/WellFormed.lean ====
section
/-! DEFINITION. What the operands of a command may hold: every field of a frame, a message, a word or a record fits the width that the
spec gives it. The meanings are total and do not rest on it; values outside are not words of the block's interfaces. -/

namespace Sys2Proof

/-- The value fits its bytes. -/
def Fld.wf (f : Fld) : Bool := decide (f.v < 256 ^ f.w)

/-- The request header (R418) and trailer (R433). -/
def Rq.wf (r : Rq) : Bool :=
  decide (r.ver < 16) && decide (r.session < 2 ^ 32) && decide (r.txid < 2 ^ 32) && decide (r.counter < 2 ^ 64) && decide (r.tag < 2 ^ 64) &&
    r.frame.all Fld.wf

/-- A value and its length; a request's payload holds at most 65,520 bytes beside its header (R418). -/
def Val.wf (v : Val) : Bool := decide (v.len ≤ 65520) && decide (v.v < 256 ^ v.len)

/-- A coefficient lies where the image holds its quantity (R63, R75). -/
def Coefficient.wf (c : Coefficient) : Bool := c.inPlace && decide (c.value < 256 ^ c.bytes)

/-- 32 bytes of overhead, and a payload area of one of the lengths of R138 (R139). -/
def LFrame.wf (f : LFrame) : Bool :=
  decide (f.head < 256 ^ 32) && decide (f.payload.length = 25568 ∨ f.payload.length = 24544) && f.payload.all fun b => decide (b < 256)

/-- MFAS is a byte; at most 128 instances, each with 64 bytes of TTI and a BIP-8 (R147, R148). -/
def OtucFrame.wf (f : OtucFrame) : Bool :=
  decide (f.mfas < 256) && f.sm.all fun x => decide (1 ≤ x.inst) && decide (x.inst ≤ 128) && decide (x.tti < 256 ^ 64) && decide (x.bip ≤ 8)

/-- Up to 15 bytes for one of 16 channels (R158). -/
def OhpRecord.wf (r : OhpRecord) : Bool := decide (r.channel < 16) && decide (r.bytes.length ≤ 15) && r.bytes.all fun b => decide (b < 256)

def GccBytes.wf (g : GccBytes) : Bool := decide (g.route < 64) && g.bytes.all fun b => decide (b < 256)

/-- The slot-move message (R266). -/
def SmxMessage.wf (m : SmxMessage) : Bool := decide (m.bytes < 256 ^ 16)

def LcrMessage.wf (m : LcrMessage) : Bool := decide (m.tpn < 2 ^ 16) && decide (m.first < 2 ^ 13) && decide (m.count < 2 ^ 13)

/-- Words of 32 bits, COUNT and BYTES of a header (R185). -/
def ConnWords.wf (c : ConnWords) : Bool :=
  decide (c.conn < 2 ^ 19) && decide (1 ≤ c.bytes) && decide (c.bytes ≤ 4) && c.words.all fun w => decide (w < 2 ^ 32)

def PmCount.wf (c : PmCount) : Bool :=
  decide (c.point < 2 ^ 17) && decide (c.errored ≤ c.blocks) && decide (c.farErrored ≤ c.farBlocks) && decide (c.corrected ≤ c.bits)

def SdWindow.wf (w : SdWindow) : Bool := decide (w.point < 2 ^ 17) && decide (w.errored ≤ w.of)

def FecCount.wf (c : FecCount) : Bool := decide (c.uncorrected ≤ c.codewords) && (decide (c.bits = 0) || decide (c.corrected ≤ c.bits))

def PageRead.wf (p : PageRead) : Bool := decide (p.page < 2 ^ 22) && decide (p.addr < 2 ^ 64) && decide (p.reader < 256) && p.bits.all fun b => decide (b < 2 ^ 24)

/-- A request slot is asked once in a frame (R443). -/
def distinct : List Nat → Bool
  | [] => true
  | x :: xs => !xs.contains x && distinct xs

/-- Positions, blocks, counters and registers of what a tick brings. -/
def TickIn.wf (w : TickIn) : Bool :=
  w.traffic.all ConnWords.wf && w.badWords.all (fun p => decide (p < 1000000)) && w.badXor.all (fun p => decide (p < 62500)) &&
    w.badBlocks.all (fun b => decide (b < 245)) && w.sop.all (fun x => decide (x.1 < 4)) && w.pm.all PmCount.wf && w.path.all (fun x => decide (x.point < 2 ^ 17)) && w.sd.all SdWindow.wf &&
    w.fec.all FecCount.wf && w.sdh.all (fun x => decide (x.j0 < 256 ^ 16)) && w.gcc.all GccBytes.wf && w.reads.all PageRead.wf && w.delays.all (fun x => decide (x.1 < 20)) && w.perf.all (fun x => decide (x.1 < 96)) &&
    distinct (w.asks.map fun a => a.slot.val) && w.bar.all fun x => decide (x.2 < 2 ^ 32)

def LaneSet.wf (s : LaneSet) : Bool := s.lanes.all fun l => decide (l < 64)

/-- 32 payload words (R189). -/
def Cell.wf (c : Cell) : Bool :=
  decide (c.head < 2 ^ 32) && decide (c.payload.length = 32) && c.payload.all fun w => decide (w < 2 ^ 32)

/-- A time of day, and the fields of a PTP header (R368). -/
def PtpStamp.wf (p : PtpStamp) : Bool :=
  decide (p.quarters < 4000000000) && decide (p.message < 16) && decide (p.domain < 256) && decide (p.seq < 2 ^ 16) &&
  decide (p.checksum < 2 ^ 16)

def ApsValue.wf (a : ApsValue) : Bool := decide (a.raw < 2 ^ 32) && decide (a.request < 14) && decide (a.requested < 16) && decide (a.bridged < 16) &&
  decide (a.mfas < 256)

def OduFrame.wf (f : OduFrame) : Bool :=
  match f.seq with
  | some q => decide (q < 2 ^ 32)
  | none => true

/-- The widths of R321 and R323. -/
def OduBody.wf (b : OduBody) : Bool :=
  decide (b.soh < 256 ^ 6) && decide (b.mirror < 256 ^ 5) && decide (b.psi < 256) && decide (b.payload < 256 ^ 15232)

/-- The parts of SESSION OPEN (R431). -/
def OpenRequest.wf (r : OpenRequest) : Bool :=
  decide (r.role < 256) && decide (r.nonce < 256 ^ 32) && decide (r.publicKey < 256 ^ 1952) && decide (r.encapsKey < 256 ^ 1568)

/-- A copy is 1,312 bytes (R438). -/
def RingCopy.wf (c : RingCopy) : Bool := decide (c.bytes < 256 ^ 1312)

def Replay.wf (r : Replay) : Bool := r.missed.all (fun p => decide (p < 1000000)) && r.late.all fun p => decide (p < 2 ^ 17)

def FwImage.wf (x : FwImage) : Bool := decide (x.len ≤ 2097152) && decide (x.bytes < 256 ^ x.len)

def Board.wf (b : Board) : Bool := (b.slotA.map FwImage.wf).getD true && (b.slotB.map FwImage.wf).getD true

/-- Error codes of steps 8 to 12 (R509). -/
def BootEnd.wf (e : BootEnd) : Bool := [0, 11, 12, 13].contains e.error && decide (e.rail < 12)

def Burst.wf (b : Burst) : Bool := decide (b.master < 16)

/-- The operands of a command are words of the block's interfaces. -/
def Instr.wf : Instr → Bool
  | .tickBoundary w => w.wf
  | .tickOverrun _ _ => true
  | .dtickovrClear => true
  | .corePllUnlock => true
  | .tbTickLoad rq val => rq.wf && val.wf
  | .tickCounterLoad => true
  | .tbBondCfgWrite rq val => rq.wf && val.wf
  | .bondApply => true
  | .singleObjectCommit => true
  | .laserRangeChange _ _ _ _ => true
  | .lspiXfer rq _ val => rq.wf && val.wf
  | .lspiDone _ _ => true
  | .biasUnlock _ loops => decide (loops < 2 ^ 6)
  | .biasRelockRestore _ _ => true
  | .txPowerShort _ _ _ => true
  | .rxOverload _ _ _ => true
  | .lineLosDeclare _ _ _ => true
  | .lineLosClear _ _ _ => true
  | .refRangeChange _ _ => true
  | .bgCalUpdate _ coefficients => (coefficients.all Coefficient.wf)
  | .calDarkOffset rq _ => rq.wf
  | .calLoopback rq _ => rq.wf
  | .calReference rq _ => rq.wf
  | .calAbort rq _ => rq.wf
  | .calRunStart _ _ => true
  | .calComplete _ _ result => (result.all Coefficient.wf)
  | .calDeferredCommit => true
  | .calDeferTimeout _ => true
  | .cnvCalImageWrite rq _ val => rq.wf && val.wf
  | .cnvConverged _ => true
  | .ldspModeWrite rq _ val => rq.wf && val.wf
  | .ldspSubcarriersWrite rq _ val => rq.wf && val.wf
  | .ldspRolloffWrite rq _ val => rq.wf && val.wf
  | .ldspTxNotchWrite rq _ index val => rq.wf && decide (index < 2 ^ 32) && val.wf
  | .modeCommit => true
  | .txTrafficStart _ => true
  | .acqRestartNewSignal rq _ => rq.wf
  | .acqRestartCold rq _ => rq.wf
  | .buildDone _ => true
  | .searchDone _ _ _ => true
  | .verifyDone _ => true
  | .verifyTimeout _ => true
  | .syncPosition _ _ _ => true
  | .enterValid _ => true
  | .acqRetry _ => true
  | .lolDeclare _ _ => true
  | .storedStateExpire _ => true
  | .decCoreFail _ _ _ _ => true
  | .coreStartupTestDone _ _ _ => true
  | .fecCoreRetest rq _ val => rq.wf && val.wf
  | .coreRetestDone _ _ _ => true
  | .fecfailDeclare _ _ _ => true
  | .fecfailClear _ _ => true
  | .lFrameReceive _ frame => frame.wf
  | .otucFrameCheck _ frame => frame.wf
  | .bondDeskew _ _ _ => true
  | .ohpFrame _ records received => (records.all OhpRecord.wf) && (received.all GccBytes.wf)
  | .ohGccRouteWrite rq index val => rq.wf && decide (index < 2 ^ 32) && val.wf
  | .hlRateWrite rq _ val => rq.wf && val.wf
  | .hlTxTimingWrite rq _ val => rq.wf && val.wf
  | .hlPrbsCfgWrite rq _ val => rq.wf && val.wf
  | .laneLocked _ => true
  | .laneLossOfLock _ => true
  | .laneLosDeclare _ _ _ => true
  | .laneLosClear _ _ _ => true
  | .cliTypeWrite rq _ val set => rq.wf && val.wf && set.wf
  | .cliFormWrite rq _ val => rq.wf && val.wf
  | .flexeCalSwitch _ _ => true
  | .expansionCellReceive _ cell => cell.wf
  | .compileDirty rq => rq.wf
  | .compileAll rq => rq.wf
  | .compileAbandon rq => rq.wf
  | .compileDone => true
  | .compileFail => true
  | .rollbackDone => true
  | .sliceFail _ _ _ => true
  | .prismSliceRetest rq val => rq.wf && val.wf
  | .sliceRetestDone _ _ => true
  | .sliceRejoin => true
  | .swap rq _ => rq.wf
  | .swapAt rq _ epoch => rq.wf && decide (epoch < 2 ^ 64)
  | .prismSwapCancel rq => rq.wf
  | .shdRevert rq => rq.wf
  | .swapTakeEffect => true
  | .swapAbandon => true
  | .syncDone => true
  | .blockRegenerate _ _ _ => true
  | .smxMessageReceive _ message => message.wf
  | .smxTargetMultiframe _ _ count => decide (count < 2 ^ 32)
  | .lcrMessageReceive _ message => message.wf
  | .lcrResizeMultiframe _ _ count => decide (count < 2 ^ 32)
  | .lineChgTimeout _ _ _ => true
  | .lineChgRetry rq _ val => rq.wf && val.wf
  | .holdoffExpire _ => true
  | .wtrExpire _ => true
  | .pscHoldExpire _ => true
  | .apsReceive _ value => value.wf
  | .fopMismatchTimeout _ => true
  | .remoteRecordReceive _ _ tick record => decide (tick < 2 ^ 24) && decide (record < 2 ^ 16)
  | .remoteStale _ => true
  | .mmFrameComplete _ _ frame => frame.wf
  | .mmAutoRetime _ => true
  | .mmRetime rq val => rq.wf && val.wf
  | .hbmFailure _ => true
  | .hbmReturn => true
  | .secMapWrite rq index val => rq.wf && decide (index < 2 ^ 32) && val.wf
  | .secRxFrame _ _ frame => frame.body.wf
  | .secTxFrame _ _ frame => frame.body.wf
  | .secRoll rq _ val => rq.wf && val.wf
  | .keySwitch _ _ => true
  | .secKeyInstall rq _ val => rq.wf && val.wf
  | .secZeroise rq val => rq.wf && val.wf
  | .secLinkStart rq _ val => rq.wf && val.wf
  | .kaHello _ publicKey nonce => decide (publicKey < 256 ^ 1952) && decide (nonce < 256 ^ 32)
  | .kaEk _ key signature => decide (key < 256 ^ 1568) && decide (signature < 256 ^ 3309)
  | .kaCt _ ciphertext signature => decide (ciphertext < 256 ^ 1568) && decide (signature < 256 ^ 3309)
  | .kaConfirm _ value => decide (value < 256 ^ 32)
  | .kaReady _ tpn d epoch check => decide (tpn < 2 ^ 32) && decide (d < 2) && decide (epoch < 2 ^ 24) && decide (check < 2 ^ 64)
  | .kaAbort _ cause => decide (cause < 256)
  | .kaTimeout _ => true
  | .kaRetry _ => true
  | .linkSecretExpire _ => true
  | .entropyFail _ => true
  | .entropyRecover _ => true
  | .keyDeferredProceed => true
  | .refFail _ _ => true
  | .refFailClear _ _ => true
  | .refCheck _ _ _ => true
  | .refQualify _ => true
  | .dpllSwitchCommit _ _ _ => true
  | .dpllFrequencyLock _ _ _ => true
  | .slewDone _ => true
  | .xoFail _ => true
  | .xoReturn _ _ => true
  | .esmcPduReceive _ _ _ => true
  | .esmcTimeout _ => true
  | .esmcInfoTx _ => true
  | .ppsEdge _ _ => true
  | .tmTodSet rq val => rq.wf && val.wf
  | .todSecondRollover => true
  | .tmDpPhaseAdj rq _ val => rq.wf && val.wf
  | .tmHoParamWrite rq _ val => rq.wf && val.wf
  | .ptpTimestamp _ stamp => stamp.wf
  | .measUpdate _ _ => true
  | .rtdMeasure _ _ => true
  | .rtdReturn _ _ => true
  | .rtdTimeout _ => true
  | .pscTransientOpen _ _ => true
  | .pscClassify _ _ _ => true
  | .pscTransientClose _ _ _ => true
  | .hkResult _ _ => true
  | .hkSeqFire rq _ val => rq.wf && val.wf
  | .hkSeqPeriodTrigger _ => true
  | .hkSeqEnd _ => true
  | .hkSeqStepsWrite rq _ index val => rq.wf && decide (index < 2 ^ 32) && val.wf
  | .hkInterleaveWrite rq val => rq.wf && val.wf
  | .loupeArm rq => rq.wf
  | .loupeAbort rq => rq.wf
  | .loupeFire rq val => rq.wf && val.wf
  | .loupeTrigger => true
  | .loupeDone => true
  | .pmSecond counts => (counts.all PmCount.wf)
  | .pmBinClose _ => true
  | .pmSdWindow w => w.wf
  | .pmPointWrite rq p val => rq.wf && decide (p < 2 ^ 32) && val.wf
  | .read rq obj index => rq.wf && decide (obj < 2 ^ 32) && decide (index < 2 ^ 32)
  | .write rq obj index val => rq.wf && decide (obj < 2 ^ 32) && decide (index < 2 ^ 32) && val.wf
  | .writeShadow rq obj index generation edits val => rq.wf && decide (obj < 2 ^ 32) && decide (index < 2 ^ 32) && decide (generation < 2 ^ 32) && decide (edits < 2 ^ 32) && val.wf
  | .bulkRead rq obj first count => rq.wf && decide (obj < 2 ^ 32) && decide (first < 2 ^ 32) && decide (count < 2 ^ 32)
  | .tableWrite rq obj first count bytes elements => rq.wf && decide (obj < 2 ^ 32) && decide (first < 2 ^ 32) && decide (count < 2 ^ 32) && decide (bytes < 2 ^ 32) && decide (elements.length ≤ 65508)
  | .subscribeAdd rq codes => rq.wf && (codes.all fun c => decide (c < 2 ^ 16))
  | .subscribeRemove rq codes => rq.wf && (codes.all fun c => decide (c < 2 ^ 16))
  | .subscribeFetch rq count => rq.wf && decide (count < 2 ^ 32)
  | .resync rq => rq.wf
  | .digestWalk rq target copy level first count => rq.wf && decide (target < 2 ^ 32) && decide (copy < 2 ^ 8) && decide (level < 2 ^ 8) && decide (first < 2 ^ 32) && decide (count < 2 ^ 32)
  | .sessionOpen rq request => rq.wf && request.wf
  | .sessionClose rq => rq.wf
  | .sessionIdleClose _ => true
  | .nextChunk => true
  | .abandonChunks => true
  | .evqCtlWrite v base size => decide (v < 2 ^ 32) && decide (base < 2 ^ 64) && decide (size < 2 ^ 32)
  | .ringCopyReceive copy => copy.wf
  | .standbyTakeover => true
  | .vyPortFail _ _ _ => true
  | .vyUnwrap _ _ _ => true
  | .demandScrub _ _ => true
  | .scrubVisit visit _ => visit.wf
  | .bucketLeak _ => true
  | .pageRepairSwitch _ _ => true
  | .uncorrectablePageRepair _ _ => true
  | .sioTWrite rq _ val => rq.wf && val.wf
  | .d2dReplay replay => replay.wf
  | .d2dLaneSpare _ _ _ _ _ => true
  | .fiArmPrepare rq => rq.wf
  | .fiArmConfirm rq => rq.wf
  | .fiDisarm rq => rq.wf
  | .fiPrepareTimeout => true
  | .fiDurationExpire => true
  | .fiOccurrence _ _ _ => true
  | .fiSlotWrite rq slot val => rq.wf && decide (slot < 2 ^ 32) && val.wf
  | .pwrDomSleep rq _ => rq.wf
  | .pwrDomWake rq _ => rq.wf
  | .domainEntryHandshake _ _ => true
  | .entryDelayTimeout _ => true
  | .domainEntryStepEnd _ => true
  | .wakeNAssert => true
  | .domainRampDone _ _ => true
  | .domainClockSwitch _ => true
  | .pwrPadRelease rq _ val => rq.wf && val.wf
  | .regulatorAck _ => true
  | .regulatorTimeout _ _ => true
  | .pmbAlert _ => true
  | .pwrRailRetry rq _ val => rq.wf && val.wf
  | .avsStep _ => true
  | .supplyWarning _ _ _ => true
  | .supplyRecover _ _ _ _ => true
  | .supplyReset _ _ _ => true
  | .pwrQuiescent rq val _ => rq.wf && val.wf
  | .quiescentExit _ copy => copy.wf
  | .porstNRelease board => board.wf
  | .bootReady ending => ending.wf
  | .fwChunk rq offset bytes data => rq.wf && decide (offset < 2 ^ 32) && decide (bytes ≤ 65520) && decide (data < 256 ^ bytes)
  | .fwEnd rq length => rq.wf && decide (length < 2 ^ 32)
  | .pcieLinkLoss bursts => (bursts.all Burst.wf)
  | .secSvCommit rq val _ => rq.wf && val.wf
  | .secOwnerFuse rq val => rq.wf && val.wf
  | .secAttestNonce rq val => rq.wf && val.wf
  | .attestDone => true
  | .lockstepMismatch _ => true
  | .watchdogExpire _ _ => true
  | .mcRestart rq val => rq.wf && val.wf
  | .warmRestart bursts => (bursts.all Burst.wf)
  | .warmRestartReady => true
  | .mcFwCheck rq val => rq.wf && val.wf
  | .fwCheckDone => true
  | .mcFwProgramSlotA rq => rq.wf
  | .mcFwProgramSlotB rq => rq.wf
  | .fwProgramDone _ => true
  | .mcFwActivate rq val => rq.wf && val.wf
  | .perfCounterOverflow _ count => decide (count < 2 ^ 32)
  | .perfDump _ => true
  | .perfFreeze rq => rq.wf
  | .perfResume rq => rq.wf
  | .biasLoopLock _ loops _ => decide (loops < 2 ^ 6)
  | .clientPcsLockChange _ _ => true
  | .s1Receive _ _ => true
  | .agreementFrameReceive _ _ _ => true
  | .supplyResetRelease _ => true
  | .porstNAssert => true
  | .pcieLinkUp => true
  | .quiescentRailRetry _ _ => true

end Sys2Proof
end

