-- ==== Sys2Proof/Certificates/Slice0/Obligations.lean ====
section
/-! DEFINITION. The statements for the provers: what reset leaves, what every command does, and what no step may break. -/

open Sys2Proof Sys2Proof.Machine

/-- A step takes the command at the front of the queue and runs `exec` on it with the rest; an empty queue leaves the state (log entry 1). -/
def Obligations.StepRunsTheFrontCommand : Prop :=
  (∀ (c : Instr) (rest : List Instr) (s : State), step { s with pending := c :: rest } = exec c { s with pending := rest }) ∧
  ∀ s : State, s.pending = [] → step s = .next s

/-- Every object reads its default after reset, the two copies of the shadow set agree, no defect is declared, no session is open, the boot
state is ROM and no tick runs; the power domains and storage strengths are those of R484 and R454. -/
def Obligations.ResetLeavesDefaults : Prop :=
  (∀ k, State.reset.obj k = objDefault k ∧ State.reset.active k = State.reset.shadowed k) ∧
  (∀ d i, State.reset.declared d i = false) ∧ (∀ k, State.reset.sessionOpen k = false) ∧
  State.reset.bar.bootState = 0 ∧ State.reset.running = false ∧ State.reset.pending = [] ∧
  (∀ d : Fin 20, State.reset.domState d = if d.val ≤ 15 ∨ d.val = 17 then 3 else 0) ∧
  ∀ g : Fin 8, State.reset.obj (Obj.SIO_T g) = if g.val = 2 then 16 else 8

/-- The invariant of `StepKeepsCanonical` holds right after reset. -/
def Obligations.ResetIsCanonical : Prop := Canonical State.reset

/-- From every state in canonical form, a step of any command leads to a state in canonical form. -/
def Obligations.StepKeepsCanonical : Prop :=
  ∀ s t : State, Canonical s → step s = .next t → Canonical t

/-- A step always answers a next state, whose queue is the old one without its front: no command reorders, drops or adds what waits. -/
def Obligations.StepsOnlyConsumeTheQueue : Prop :=
  ∀ s : State, ∃ t : State, step s = .next t ∧ t.pending = s.pending.tail

/-- Every request command, in the order of R421: dead device, mailbox in use, not READY, version, sender, role for the opcode. -/
def Obligations.RequestsTurnedAway : Prop :=
  ∀ (c : Instr) (rq : Rq) (op m : Nat) (s : State), requestOf c = some (rq, op, m) →
  (s.alive = false → exec c s = .next s) ∧
  (s.alive = true → rq.slot = none → s.bar.own = true → exec c s = .next (s.withBar fun b => { b with ovr := true })) ∧
  (s.alive = true → ¬ (rq.slot = none ∧ s.bar.own = true) →
    (s.ready = false → exec c s = .next (s.deliver rq op .busy [])) ∧
    (s.ready = true → rq.ver ≠ 1 → exec c s = .next ((s.bump Obj.QM_REQ_COUNT).deliver rq op .range [])) ∧
    (s.ready = true → rq.ver = 1 → s.sender rq op = none →
      exec c s = .next (((s.bump Obj.QM_REQ_COUNT).authFail rq).deliver (if rq.slot.isSome then { rq with session := 0 } else rq) op .denied [])) ∧
    (s.ready = true → rq.ver = 1 → ∀ x, s.sender rq op = some x → x.role < m →
      exec c s = .next ((s.served rq x).deliver rq op .denied [])))

/-- Every write of one object, taken up by the agent: NO_OBJECT before TYPE before DENIED before RANGE, and nothing is written. -/
def Obligations.WritesAreCheckedInOrder : Prop :=
  ∀ (c : Instr) (rq : Rq) (k : Key) (val : Val) (x : Sender) (s : State), writeOf c = some (rq, k, val) → Served Op.write 1 rq x s →
  let refuse := fun st => exec c s = .next ((s.served rq x).deliver rq Op.write st [])
  (dictFind k.c k.i k.m = none → refuse .noObject) ∧
  ∀ r, dictFind k.c k.i k.m = some r →
    (useAllowed r .write = false ∨ lengthFits r val.len = false → refuse .type) ∧
    (useAllowed r .write = true → lengthFits r val.len = true →
      (roleFits r .write x.role = false → refuse .denied) ∧
      (roleFits r .write x.role = true → indexFits r k.x = false ∨ valueFits r (stored r val.v) = false → refuse .range))

/-- The response of a request: into the mailbox with READY and interrupt 0, or owed in its ring slot; its status is counted (R450). -/
def Obligations.ResponsesReachTheirSender : Prop :=
  ∀ (s : State) (rq : Rq) (op : Nat) (st : Status) (payload : List Fld),
  let t := s.deliver rq op st payload
  (rq.slot = none →
    (∃ r, t.bar.response = some r ∧ r.op = op ∧ r.status = st.code ∧ r.txid = rq.txid ∧ r.session = rq.session ∧ r.payload = payload ∧
      r.tick = s.tick ∧ r.trailer = none) ∧
    t.bar.own = false ∧ t.bar.ready = true ∧ t.bar.more = decide (65536 < 16 + payloadLength payload) ∧ bit t.bar.irqSts 0 = true) ∧
  (∀ k, rq.slot = some k → t.bar = s.bar ∧
    ∃ r, Map.get none t.owed (Key.unit k) = some r ∧ r.op = op ∧ r.status = st.code ∧ r.txid = rq.txid ∧ r.payload = payload) ∧
  t.obj (Obj.QM_STATUS_COUNT st.code) = u64 (s.obj (Obj.QM_STATUS_COUNT st.code) + 1) ∧
  (∀ k, k ≠ Obj.QM_STATUS_COUNT st.code → t.obj k = s.obj k) ∧
  t = { s with reg := t.reg, bar := t.bar, owed := t.owed, sessions := t.sessions }

/-- READ and BULK_READ of existing, readable objects answer the value the object shows; RESYNC waits for the boundary; DIGEST_WALK answers nodes. -/
def Obligations.ReadsAnswerTheValue : Prop :=
  ∀ (rq : Rq) (obj index count : Nat) (x : Sender) (s : State),
  let u := s.served rq x
  let k := objKey obj index
  (∀ r, Served Op.read 0 rq x s → checkRead x.role k 1 rq.lenOk = .ok r → u.readRefusal k 1 = none → k ≠ Obj.DEV_SUMMARY →
    exec (.read rq obj index) s = .next ((u.noteRead k 1).deliver rq Op.read .ok [⟨1, r.code⟩, ⟨1, 0⟩, ⟨r.w, u.view r k⟩])) ∧
  (∀ r, Served Op.bulkRead 0 rq x s → checkRead x.role k count rq.lenOk = .ok r → u.readRefusal k count = none → k ≠ Obj.DEV_SUMMARY →
    count * r.w ≤ 1048576 →
    exec (.bulkRead rq obj index count) s = .next ((u.noteRead k count).deliver rq Op.bulkRead .ok
      (⟨4, r.w⟩ :: (List.range count).map fun i => ⟨r.w, u.view r { k with x := index + i }⟩))) ∧
  (Served Op.resync 0 rq x s → rq.slot = none →
    exec (.resync rq) s = .next ({ u with resyncs := s.resyncs ++ [(Op.resync, rq)] }.withBar fun b => { b with own := true, ready := false })) ∧
  ∀ r copy level, Served Op.digestWalk 0 rq x s → rq.lenOk = true → obj % 2 ^ 24 ≠ 0 →
    dictFind (objKey obj 0).c (objKey obj 0).i (objKey obj 0).m = some r → hasTree r = true → copy ≤ 1 → (copy = 1 → r.acc = .ws) →
    level ≤ rootLevel r.n → 1 ≤ count → count ≤ 64 → index + count ≤ levelSize r.n level →
    exec (.digestWalk rq obj copy level index count) s = .next (u.deliver rq Op.digestWalk .ok
      ((List.range count).map fun j => ⟨32, u.node r (objKey obj 0).i (decide (copy = 1)) level (index + j)⟩))

/-- WRITE of RW, WC and WS objects, WRITE_SHADOW, and TABLE_WRITE of a WS object. -/
def Obligations.WritesFollowTheAccessCode : Prop :=
  ∀ (rq : Rq) (obj index : Nat) (x : Sender) (val v : Val) (r : ObjRow) (s : State),
  let u := s.served rq x
  let k := objKey obj index
  (Accepted rq x k val v s → dictFind k.c k.i k.m = some r →
    (r.acc = .rw → k.c = 0x60 ∨ (k.c = 0x05 ∧ k.i < 8) → exec (.write rq obj index val) s = .next ((u.stage k v.v).answered rq)) ∧
    (r.acc = .wc → k.c = 0x05 → r.code ≠ 7 → exec (.write rq obj index val) s = .next ((u.setObj k 0).answered rq)) ∧
    (r.acc = .ws → wsFits k v.v = true → u.shadowRefusal k = none →
      exec (.write rq obj index val) s = .next (((u.writeShadow k v.v).editCounted).answered rq))) ∧
  (∀ generation edits, Served Op.writeShadow 1 rq x s → checkWrite x.role .writeShadow k val = .ok (r, v) → wsFits k v.v = true →
    u.shadowRefusal k = none → generation = u.view30 Obj.SHD_GEN_SHADOW → edits = 0xFFFFFFFF ∨ edits = u.obj Obj.SHD_EDITS →
    ∃ t : State, exec (.writeShadow rq obj index generation edits val) s = .next (t.deliver rq Op.writeShadow .ok [⟨4, t.obj Obj.SHD_EDITS⟩]) ∧
      t = (u.writeShadow k v.v).editCounted ∧ t.shadowed k = wsStored k v.v ∧ t.act = s.act) ∧
  ∀ elements, Served Op.tableWrite 1 rq x s → rq.lenOk = true → dictFind k.c k.i k.m = some r → r.acc = .ws → 1 < r.n →
    roleFits r .tableWrite x.role = true → elements.length * r.w ≤ 65508 → 0 < elements.length → index + elements.length ≤ r.n →
    (elements.all fun v => valueFits r (stored r v) && wsFits k (stored r v)) = true → u.shadowRefusal k = none →
    ∃ t : State, exec (.tableWrite rq obj index elements.length (elements.length * r.w) elements) s = .next (t.deliver rq Op.tableWrite .ok []) ∧
      t.act = s.act ∧ t.obj Obj.SHD_EDITS = (s.obj Obj.SHD_EDITS + 1) % 2 ^ 32 ∧
      ∀ j (h : j < elements.length), t.shadowed { k with x := index + j } = wsStored k (stored r elements[j])

/-- ADD and REMOVE on the list of the sender (16 is PCIe session 0); FETCH from the buffer of a Vyusk session. -/
def Obligations.SubscriptionsAreKept : Prop :=
  ∀ (rq : Rq) (x : Sender) (codes : List Nat) (count : Nat) (s : State), Served Op.subscribe 0 rq x s →
  let u := s.served rq x
  let who := x.slot.getD 16
  (codes.contains 0 = false → 64 < (u.subs who).countP (· ≠ 0) + ((codes.filter fun c => !(u.subs who).contains c).dedup).length →
    exec (.subscribeAdd rq codes) s = .next (u.deliver rq Op.subscribe .range [])) ∧
  (codes.contains 0 = false → (u.subs who).countP (· ≠ 0) + ((codes.filter fun c => !(u.subs who).contains c).dedup).length ≤ 64 →
    ∃ t : State, exec (.subscribeAdd rq codes) s = .next (t.deliver rq Op.subscribe .ok []) ∧
      (∀ c ∈ codes, c ∈ t.subs who) ∧ ∀ c ∈ u.subs who, c ≠ 0 → c ∈ t.subs who) ∧
  (codes.contains 0 = false → ∃ t : State, exec (.subscribeRemove rq codes) s = .next (t.deliver rq Op.subscribe .ok []) ∧
      (∀ c ∈ codes, c ∉ t.subs who) ∧ ∀ c ∈ u.subs who, c ∉ codes → c ∈ t.subs who) ∧
  (∀ k, x.slot = some k → ∃ (t : State) (payload : List Fld), exec (.subscribeFetch rq count) s = .next (t.deliver rq Op.subscribe .ok payload) ∧
      (t.session k).buffer = (u.session k).buffer.drop count ∧
      ((u.session k).gapOwed = false → payload = ((u.session k).buffer.take count).flatMap recordFields)) ∧
  (x.slot = none → exec (.subscribeFetch rq count) s = .next (u.deliver rq Op.subscribe .ok []))

/-- OPEN: the signature's verdict is a free value, so both outcomes are stated. CLOSE and the idle close empty the slot. -/
def Obligations.SessionsOpenAndClose : Prop :=
  (∀ (rq : Rq) (x : Sender) (r : OpenRequest) (s : State) (k : Nat), Served Op.session 0 rq x s → r.len = 6865 → r.role ≤ 3 →
    let u := s.served rq x
    let digest := Config.shake256 32 [⟨1952, r.publicKey⟩]
    let claims := decide (rq.slot = none) && decide (r.role = 3) && u.noOfficer
    let good := Config.mlDsaVerify r.publicKey (Config.shake256 32 (openFields r)) r.signature = true ∧ (u.roleKeyFits digest r.role = true ∨ claims = true)
    ((List.range 16).find? fun j => !u.sessionOpen j) = some k →
    ∃ (t : State) (payload : List Fld), exec (.sessionOpen rq r) s = .next (t.deliver rq Op.session (if good then .ok else .denied) payload) ∧
      (good → t.sessionOpen k = true ∧ t.sessionRole k = r.role ∧ t.sessionVyusk k = rq.slot.isSome ∧ t.fresh = s.fresh + 4) ∧
      (¬ good → t = u ∧ payload = [])) ∧
  (∀ (rq : Rq) (x : Sender) (s : State) (k : Nat), Served Op.session 0 rq x s → rq.lenOk = true → x.slot = some k → s.sessionOpen k = true →
    exec (.sessionClose rq) s = .next (((s.served rq x).deliver rq Op.session .ok []).closeSession k 2)) ∧
  (∀ (s : State) (k : Fin 16), s.sessionOpen k = true → (s.session k).lastUse + s.obj Obj.QM_SESSION_IDLE * ticksPerSecond ≤ s.now →
    exec (.sessionIdleClose k) s = .next (s.closeSession k 3)) ∧
  ∀ (s : State) (k : Fin 16) (cause : Nat), s.sessionOpen k = true →
    let t := s.closeSession k cause
    t.sessionOpen k = false ∧ t.session k = {} ∧ (∀ j, j < 16 → j ≠ k.val → t.sessionOpen j = s.sessionOpen j ∧ t.session j = s.session j) ∧
    (∀ c, t.subscribes k c = false) ∧
    t.changes = s.changes ++ [⟨Ev.SESSION.code, false, s.tick, contentOf Ev.SESSION.widths [(s.session k).id, s.sessionRole k, cause]⟩]

/-- OD_DOORBELL = 2 and 3, and EVQ_CTL. -/
def Obligations.MailboxDoorbells : Prop :=
  ∀ s : State,
  (s.bar.own = true → exec .nextChunk s = .next (s.withBar fun b => { b with ovr := true }) ∧
    exec .abandonChunks s = .next (s.withBar fun b => { b with ovr := true })) ∧
  (s.bar.own = false → s.bar.more = true → ∃ t : State, exec .nextChunk s = .next t ∧ t.bar.rspLen = min s.bar.chunkLeft 65536 ∧
    t.bar.chunkLeft = s.bar.chunkLeft - 65536 ∧ t.bar.more = decide (65536 < s.bar.chunkLeft) ∧ t.bar.ready = true ∧
    bit t.bar.irqSts 0 = true ∧ t.bar.response = s.bar.response ∧ t = { s with bar := t.bar }) ∧
  (s.bar.own = false → exec .abandonChunks s = .next { s with bar := { s.bar with more := false, chunkLeft := 0 } }) ∧
  (∀ v base size, v % 2 = 0 → exec (.evqCtlWrite v base size) s = .next { s with bar := { s.bar with evqCtl := 0 } }) ∧
  ∀ v base size, v % 2 = 1 → ∃ t : State, exec (.evqCtlWrite v base size) s = .next t ∧ t.evq.records = [] ∧ t.evq.gapOwed = true ∧
    t.bar.evqCtl = 1 ∧ t.bar.evqWr = 0 ∧ t.bar.evqRd = 0 ∧ t.bar.evqBase = base % 2 ^ 64 / 4096 * 4096 ∧
    t.bar.evqSize = (if queueSizeFits size then size else s.bar.evqSize) ∧ t = { s with bar := t.bar, evq := t.evq }

/-- TICK_BOUNDARY is one more elapsed tick; TB_TICK_LOAD and the load at its boundary. -/
def Obligations.TickCounterCountsAndLoads : Prop :=
  (∀ (w : TickIn) (s : State), s.running = true → ∃ t : State, exec (.tickBoundary w) s = .next t ∧ t.now = s.now + 1) ∧
  (∀ (rq : Rq) (x : Sender) (val v : Val) (s : State), Accepted rq x Obj.TB_TICK_LOAD val v s →
    let u := s.served rq x
    let refuse := fun st => exec (.tbTickLoad rq val) s = .next (u.deliver rq Op.write st [])
    (v.v % 32 ≠ 0 → refuse .range) ∧
    (v.v % 32 = 0 → s.swapAtPending = true → refuse .precond) ∧
    (v.v % 32 = 0 → s.swapAtPending = false → s.load.isSome = true → refuse .busy) ∧
    (v.v % 32 = 0 → s.swapAtPending = false → s.load = none →
      exec (.tbTickLoad rq val) s = .next (State.answered { u with load := some (v.v, s.epochBoundaryAt 2) } rq))) ∧
  ∀ (s c : State) (v due : Nat), c = s.closeTick → c.load = some (v, due) → due ≤ c.now + 1 →
    exec .tickCounterLoad s = .next { c with
      tick := v, load := none, autoLoad := none, counted := true
      changes := c.changes ++ [⟨Ev.TICK_LOADED.code, false, v, contentOf [8, 8] [c.nextTick, v]⟩] }

/-- TICK_OVERRUN of an engine that runs, DTICKOVR_CLEAR, and CORE_PLL_UNLOCK. -/
def Obligations.OverrunsAreAccounted : Prop :=
  (∀ (engine : Fin 10) (affected : List Nat) (s : State), s.engineRuns engine = true →
    ∃ t : State, exec (.tickOverrun engine affected) s = .next t ∧ bit (t.obj Obj.TB_OVR_STATUS) engine = true ∧
      t.obj (Obj.TB_OVR_LAST engine) = s.tick ∧ t.obj (Obj.TB_OVR_COUNT engine) =
        (if Map.get 0 s.overrunAt (Key.unit engine) = s.now + 1 then s.obj (Obj.TB_OVR_COUNT engine) else u64 (s.obj (Obj.TB_OVR_COUNT engine) + 1)) ∧
      Map.get 0 t.overrunAt (Key.unit engine) = s.now + 1 ∧
      t.declared Df.tickOvr 0 = true ∧ t.lastOverrun = some s.now) ∧
  (∀ (s : State) (o : Nat), s.lastOverrun = some o → o + 32 ≤ s.now →
    ∃ t : State, exec .dtickovrClear s = .next t ∧ t.declared Df.tickOvr 0 = false ∧ t.lastOverrun = none ∧
      t = { s with lastOverrun := none, defects := t.defects, changes := t.changes } ∧
      ∀ d i, (d, i) ≠ (Df.tickOvr, 0) → t.declared d i = s.declared d i) ∧
  ∀ s : State, s.running = true ∨ s.startsTicks = true → ∃ t : State, exec .corePllUnlock s = .next t ∧ t.running = false ∧
    t.pllLatch = true ∧ t.mc.pllTick = s.tick ∧ t.bar.bootCause = 2 ∧ t.agenda = [] ∧ t.sessions = [] ∧ t.act = [] ∧ t.shd = [] ∧ t.pending = s.pending

/-- TB_BOND_CFG, BOND_APPLY, and SINGLE_OBJECT_COMMIT for the classes whose commits only store the value. -/
def Obligations.BoundaryCommits : Prop :=
  (∀ (rq : Rq) (x : Sender) (val v : Val) (s : State), Accepted rq x Obj.TB_BOND_CFG val v s →
    let u := s.served rq x
    (u.bondAllowed v.v = false → exec (.tbBondCfgWrite rq val) s = .next (u.deliver rq Op.write .precond [])) ∧
    (u.bondAllowed v.v = true → ∃ rest, exec (.tbBondCfgWrite rq val) s =
        .next (State.answered { u with agenda := rest ++ [⟨s.epochBoundaryAt 2, .bond v.v⟩] } rq) ∧
      (∀ p ∈ s.agenda, (∀ w, p.due ≠ .bond w) → p ∈ rest) ∧ (∀ p ∈ rest, p ∈ s.agenda) ∧
      ∀ p ∈ rest, ∀ w, p.due = .bond w → p.boundary ≠ s.epochBoundaryAt 2)) ∧
  (∀ (s c : State) (b v : Nat), c = s.closeTick → c.agenda = [⟨b, .bond v⟩] → b ≤ c.now + 1 →
    ∃ t : State, exec .bondApply s = .next t ∧ t.obj Obj.TB_BOND_CFG = v) ∧
  ∀ (s c : State) (b : Nat) (k : Key) (v : Nat), c = s.closeTick → c.agenda = [⟨b, .write k v⟩] → b ≤ c.now + 1 →
    k.c ∈ [0x01, 0x02, 0x12, 0x30, 0x34, 0x60] →
    exec .singleObjectCommit s = .next ({ c with agenda := [] }.setObj k v)

/-- The commands of the optics that report what was measured. -/
def Obligations.OpticsMeasurements : Prop :=
  ∀ (e : Fin 4) (s : State),
  (∀ (power : Int) (ticks : Nat) (within : Bool), within = (decide (1600 ≤ power) && decide (power ≤ 2100)) → 8 ≤ ticks →
    (within ≠ (s.engine e).laserTxIn → 600 ≤ power → exec (.laserRangeChange e 0 power ticks) s =
      .next (((s.setInt (Obj.OPT_LASER_TX_MEAS e) power).withEngine e fun r => { r with laserTxIn := within }).raise
        Ev.LASER_RANGE [e, 0, encode 4 power])) ∧
    (within ≠ (s.engine e).laserLoIn → exec (.laserRangeChange e 1 power ticks) s =
      .next (((s.setInt (Obj.OPT_LASER_LO_MEAS e) power).withEngine e fun r => { r with laserLoIn := within }).raise
        Ev.LASER_RANGE [e, 1, encode 4 power]))) ∧
  (∀ (c : Instr) (power : Int) (ticks loops : Nat), c ∈ [Instr.laserRangeChange e 0 power ticks, .biasLoopLock e loops power] → power < 600 →
    ∃ t : State, exec c s = .next t ∧ t.obj (Obj.OPT_LASER_TX_MEAS e) = encode 4 power ∧
      (∀ b, b < 6 → bit (t.obj (Obj.OPT_BIAS_STATE e)) b = false) ∧
      (Nat.land (s.obj (Obj.OPT_BIAS_STATE e)) 0x3F ≠ 0 →
        ⟨Ev.BIAS_UNLOCK.code, false, s.tick, contentOf [2, 4] [e, Nat.land (s.obj (Obj.OPT_BIAS_STATE e)) 0x3F]⟩ ∈ t.changes)) ∧
  (∀ (loops lost : Nat), lost = Nat.land (s.obj (Obj.OPT_BIAS_STATE e)) loops → lost ≠ 0 →
    ∃ t : State, exec (.biasUnlock e loops) s = .next t ∧ t.obj (Obj.OPT_BIAS_STATE e) = clearBits (s.obj (Obj.OPT_BIAS_STATE e)) lost ∧
      t.changes = s.changes ++ [⟨Ev.BIAS_UNLOCK.code, false, s.tick, contentOf [2, 4] [e, lost]⟩] ∧
      (s.obj (Obj.OPT_BIAS_FAIL_ACTION e) = 1 → (t.engine e).squelched = true ∧ (t.engine e).dark = true) ∧
      (s.obj (Obj.OPT_BIAS_FAIL_ACTION e) ≠ 1 → t.engine e = s.engine e)) ∧
  (∀ (loops : Nat) (power : Int), 600 ≤ power → ∃ t : State, exec (.biasLoopLock e loops power) s = .next t ∧
      t.obj (Obj.OPT_BIAS_STATE e) =
        (if s.domOn e then Nat.lor (s.obj (Obj.OPT_BIAS_STATE e)) (loops % 64) else s.obj (Obj.OPT_BIAS_STATE e)) ∧
      t.obj (Obj.OPT_LASER_TX_MEAS e) = encode 4 power) ∧
  (∀ ticks : Nat, s.obj (Obj.OPT_BIAS_STATE e) = 0x3F → 1000 ≤ ticks → ∃ t : State, exec (.biasRelockRestore e ticks) s = .next t ∧
      (t.engine e).squelched = false ∧
      (s.obj (Obj.OPT_TX_ENABLE e) ≠ 0 → s.obj (Obj.CNV_STATE e) = 2 → (t.engine e).dark = false)) ∧
  (∀ (achieved : Int) (ticks : Nat), (s.engine e).dark = false → 8 ≤ ticks → s.rampEnd e + ticks ≤ s.now + 1 →
    achieved < s.objInt (Obj.OPT_TX_POWER e) - 100 → exec (.txPowerShort e achieved ticks) s =
      .next ((s.setInt (Obj.OPT_TX_POWER_MEAS e) (clamp (-4000) 300 achieved)).raise
        Ev.TX_POWER_SHORT [e, encode 4 (s.objInt (Obj.OPT_TX_POWER e)), encode 4 achieved])) ∧
  (∀ (average : Int) (quiet : Nat), (s.engine e).overloadArmed = true ∨ 8 ≤ quiet → 550 < average →
    exec (.rxOverload e average quiet) s = .next ((((s.setInt (Obj.OPT_RX_POWER_MEAS e) average).calAbortCheck e average).withEngine e fun r =>
      { r with overloadArmed := false, overloadQuiet := 0 }).raise Ev.RX_OVERLOAD [e, encode 4 average])) ∧
  ∀ (microvolts : Nat) (ppb : Option Int), ∃ t : State, exec (.refRangeChange microvolts ppb) s = .next t ∧
    t.obj Obj.CNV_REFIN_MEAS = microvolts ∧
    bit (t.obj Obj.CNV_REF_STATUS) 0 = (decide (2487500 ≤ microvolts) && decide (microvolts ≤ 2512500)) ∧
    bit (t.obj Obj.CNV_REF_STATUS) 1 = (match ppb with
      | none => false
      | some d => decide (-100000 ≤ d) && decide (d ≤ 100000)) ∧
    (∀ start, (s.engine e).cal = some (3, .running start) → t.obj Obj.CNV_REF_STATUS ≠ 3 → (t.engine e).cal = none) ∧
    ((∀ i : Fin 4, (s.engine i).cal = none) → t.obj Obj.CNV_REF_STATUS = s.obj Obj.CNV_REF_STATUS → t.changes = s.changes)

/-- LSPI_XFER and LSPI_DONE. Where the received bytes lie in LSPI_RESULT (`lspiResult`) is the model's choice (log entry 155). -/
def Obligations.LspiRunsOneTransaction : Prop :=
  ∀ (e : Fin 4) (s : State),
  (∀ (rq : Rq) (x : Sender) (val v : Val), Accepted rq x (Obj.LSPI_XFER e) val v s →
    let u := s.served rq x
    (s.obj (Obj.PWR_PAD_HELD e) = 1 → exec (.lspiXfer rq e val) s = .next (u.deliver rq Op.write .precond [])) ∧
    (s.obj (Obj.PWR_PAD_HELD e) ≠ 1 → (s.engine e).lspiBusy = true → exec (.lspiXfer rq e val) s = .next (u.deliver rq Op.write .busy [])) ∧
    (s.obj (Obj.PWR_PAD_HELD e) ≠ 1 → (s.engine e).lspiBusy = false → exec (.lspiXfer rq e val) s =
      .next (((u.withEngine e fun r => { r with lspiBusy := true, lspiOut := v }).setObj (Obj.LSPI_STATUS e) 1).answered rq))) ∧
  ∀ received : Nat, ((s.engine e).lspiBusy = false → exec (.lspiDone e received) s = .next s) ∧
    ((s.engine e).lspiBusy = true → ∃ t : State, exec (.lspiDone e received) s = .next t ∧ (t.engine e).lspiBusy = false ∧
      t.obj (Obj.LSPI_RESULT e) = lspiResult (s.engine e).lspiOut received ∧ t.obj (Obj.LSPI_STATUS e) = 2 ∧
      (∀ k, k ≠ Obj.LSPI_RESULT e → k ≠ Obj.LSPI_STATUS e → t.obj k = s.obj k) ∧
      (∀ i, i ≠ e.val → t.engine i = s.engine i) ∧ t = { s with reg := t.reg, eng := t.eng })

/-- LINE_LOS_DECLARE and LINE_LOS_CLEAR. -/
def Obligations.LineLosFollowsThePower : Prop :=
  ∀ (e : Fin 4) (power : Int) (s : State), s.domOn e = true →
  (∀ ns : Nat, power < s.objInt (Obj.OPT_LOS_THRESH e) → 500 ≤ ns → ∃ t : State, exec (.lineLosDeclare e power ns) s = .next t ∧
    t.declared Df.los e = true ∧ t.receiver e = (if s.receiver e = 0 then 0 else 1) ∧
    (s.receiver e ≠ 0 → t.declared Df.lol e = false)) ∧
  ∀ ticks : Nat, s.declared Df.los e = true → s.calHoldsLos e = false →
    s.objInt (Obj.OPT_LOS_THRESH e) + s.obj (Obj.OPT_LOS_HYST e) ≤ power → 8 ≤ ticks →
    ∃ t : State, exec (.lineLosClear e power ticks) s = .next t ∧ t.declared Df.los e = false ∧
      (s.receiver e ≠ 1 → t.receiver e = s.receiver e) ∧
      (s.receiver e = 1 → t.receiver e ∈ [2, 3, 4] ∧ (t.engine e).trigger = s.now)

/-- CNV_CAL_START in its four forms, and the run, its completion, its deferral, background calibration, the image, and convergence. -/
def Obligations.CalibrationsRunAndCommit : Prop :=
  ∀ (e : Fin 4) (s : State),
  (∀ (rq : Rq) (x : Sender) (kind : Nat) (c : Instr),
    (kind, c) ∈ [(1, Instr.calDarkOffset rq e), (2, .calLoopback rq e), (3, .calReference rq e)] →
    Accepted rq x (Obj.CNV_CAL_START e) ⟨2, kind⟩ ⟨2, kind⟩ s →
    let u := s.served rq x
    (s.calOccupied e = true → exec c s = .next (u.deliver rq Op.write .busy [])) ∧
    (s.calOccupied e = false → u.sourced s.act e = true ∨ s.domOn e = false → exec c s = .next (u.deliver rq Op.write .precond [])) ∧
    (s.calOccupied e = false → u.sourced s.act e = false → s.domOn e = true → s.agenda = [] → exec c s =
      .next (((u.withEngine e fun r => { r with cal := some (kind, .requested) }).plan (s.now + 1) (.calStart e)).answered rq))) ∧
  (∀ (rq : Rq) (x : Sender), Accepted rq x (Obj.CNV_CAL_START e) ⟨2, 0⟩ ⟨2, 0⟩ s → s.calOccupied e = true →
    (s.served rq x).sourced s.act e = false → s.domOn e = true →
    exec (.calAbort rq e) s = .next (((s.served rq x).calEnd e 9).answered rq)) ∧
  (∀ (power : Int) (kind b : Nat), (s.engine e).cal = some (kind, .requested) → s.agenda = [⟨b, .calStart e⟩] → b ≤ s.now + 1 →
    s.calCheck e kind power = none → ∃ t : State, exec (.calRunStart e power) s = .next t ∧ (t.engine e).cal = some (kind, .running (s.now + 1)) ∧
      t.obj (Obj.CNV_CAL_STATUS e) = 1 ∧ t.declared Df.los e = true ∧ t.receiver e = (if s.receiver e = 0 then 0 else 1)) ∧
  (∀ (power : Int) (kind start : Nat) (result : List Coefficient), (s.engine e).cal = some (kind, .running start) →
    start + calTicks kind ≤ s.now + 1 → s.calCheck e kind power = none →
    (s.supplyWarned = false → exec (.calComplete e power result) s = .next
      ((s.withEngine e fun r => { r with cal := some (kind, .complete none), calResult := result.filter (·.measuredBy kind) }).plan (s.now + 1) (.calCommit e))) ∧
    (s.supplyWarned = true → ∃ t : State, exec (.calComplete e power result) s = .next t ∧ t.obj (Obj.CNV_CAL_STATUS e) = 2 ∧
      (t.engine e).cal = some (kind, .complete (some s.now)) ∧ (t.engine e).calResult = result.filter (·.measuredBy kind))) ∧
  (∀ kind since : Nat, (s.engine e).cal = some (kind, .complete (some since)) →
    (s.supplyWarned = false → ∃ t : State, exec .calDeferredCommit s = .next t ∧ (t.engine e).cal = none ∧ t.obj (Obj.CNV_CAL_STATUS e) = 3 ∧
      t.obj (Obj.CNV_CAL_IMAGE e) = applyCoefficients (s.obj (Obj.CNV_CAL_IMAGE e)) (s.engine e).calResult) ∧
    (since + 80000 ≤ s.now → exec (.calDeferTimeout e) s = .next
      (((s.withEngine e fun r => { r with cal := none }).setObj (Obj.CNV_CAL_STATUS e) 8).raise Ev.CAL_ABORT [e, kind, 8]))) ∧
  (∀ cs : List Coefficient, s.obj (Obj.CNV_BG_CAL e) = 1 → s.domOn e = true → s.calHoldsLos e = false →
    exec (.bgCalUpdate e cs) s = .next (s.plan (s.now + 1) (.bgCal e (cs.filter fun c => !s.coefficientHeld c)))) ∧
  (∀ (rq : Rq) (x : Sender) (val v : Val), Accepted rq x (Obj.CNV_CAL_IMAGE e) val v s →
    let u := s.served rq x
    exec (.cnvCalImageWrite rq e val) s = .next (
      if bytesOf 8192 v.v 0 2 ≠ 1 ∨ bytesOf 8192 v.v 2 1 ≠ e ∨ bytesOf 8192 v.v 0x1FC0 32 ≠ imageDigest v.v then u.deliver rq Op.write .range []
      else if bytesOf 8192 v.v 0x10 32 ≠ s.obj Obj.DEV_ID_DIGEST then u.deliver rq Op.write .precond []
      else if s.calOccupied e = true then u.deliver rq Op.write .busy []
      else (u.stage (Obj.CNV_CAL_IMAGE e) (imageStored v.v)).answered rq)) ∧
  (s.obj (Obj.OPT_BIAS_STATE e) ≠ 0x3F → exec (.cnvConverged e) s = .next s) ∧
  (s.obj (Obj.CNV_STATE e) = 1 → s.domOn e = true → s.obj (Obj.OPT_BIAS_STATE e) = 0x3F → ∃ t : State,
    exec (.cnvConverged e) s = .next t ∧ t.obj (Obj.CNV_STATE e) = 2 ∧ (s.mode e ≠ 0 → s.receiver e = 0 → t.receiver e = 1 ∨ t.receiver e ∈ [2, 3, 4]))

/-- LDSP_MODE, LDSP_SUBCARRIERS, LDSP_ROLLOFF, LDSP_TX_NOTCH, LDSP_ACQ_RESTART, MODE_COMMIT, TX_TRAFFIC_START. -/
def Obligations.LineConfigurationsCommit : Prop :=
  ∀ (e : Fin 4) (s : State),
  (∀ (rq : Rq) (x : Sender) (val v : Val), Accepted rq x (Obj.LDSP_MODE e) val v s →
    let u := s.served rq x
    (u.modeAllowed e v.v = false → exec (.ldspModeWrite rq e val) s = .next (u.deliver rq Op.write .precond [])) ∧
    (u.modeAllowed e v.v = true → ∃ t : State, exec (.ldspModeWrite rq e val) s = .next (t.answered rq) ∧
      t = { u with reg := t.reg, agenda := t.agenda } ∧
      ∀ i ∈ s.bond e, ⟨s.now + 1, .write (Obj.LDSP_MODE i) v.v⟩ ∈ t.agenda ∧ bit (t.obj (Obj.LDSP_TX_STATUS i)) 0 = false)) ∧
  (∀ (rq : Rq) (x : Sender) (val v : Val) (k : Nat → Key) (c : Instr),
    (k, c) ∈ [(Obj.LDSP_SUBCARRIERS, Instr.ldspSubcarriersWrite rq e val), (Obj.LDSP_ROLLOFF, .ldspRolloffWrite rq e val)] →
    Accepted rq x (k e) val v s → ∃ t : State, exec c s = .next (t.answered rq) ∧ t = { s.served rq x with reg := t.reg, agenda := t.agenda } ∧
      ∀ i ∈ s.bond e, ⟨s.now + 1, .write (k i) v.v⟩ ∈ t.agenda ∧ bit (t.obj (Obj.LDSP_TX_STATUS i)) 0 = false) ∧
  (∀ (rq : Rq) (x : Sender) (index : Nat) (val v : Val), Accepted rq x (Obj.LDSP_TX_NOTCH e index) val v s →
    let u := s.served rq x
    let w := Nat.land v.v 0xFFFF0FFF
    let others := ((List.range 8).filter (· ≠ index)).map fun i => u.latest (Obj.LDSP_TX_NOTCH e i)
    let rate := symbolRate (s.mode e)
    let roll := s.obj (Obj.LDSP_ROLLOFF e)
    let fits := notchLegal w = true ∧ (rate = 0 ∨ (notchInside rate roll w = true ∧ notchSumFits rate roll (w :: others) = true)) ∧
      others.any (notchOverlap w) = false
    (¬ fits → exec (.ldspTxNotchWrite rq e index val) s = .next (u.deliver rq Op.write .range [])) ∧
    (fits → exec (.ldspTxNotchWrite rq e index val) s = .next ((u.stageTx (Obj.LDSP_TX_NOTCH e index) w).answered rq))) ∧
  (∀ (rq : Rq) (x : Sender) (kind : Nat) (c : Instr), (kind, c) ∈ [(1, Instr.acqRestartNewSignal rq e), (2, .acqRestartCold rq e)] →
    Accepted rq x (Obj.LDSP_ACQ_RESTART e) ⟨2, kind⟩ ⟨2, kind⟩ s → ∃ rest, exec c s =
      .next (State.answered { s.served rq x with agenda := rest ++ [⟨s.now + 1, .acqRestart e kind⟩] } rq) ∧
      (∀ p ∈ rest, p ∈ s.agenda) ∧ ∀ p ∈ rest, ∀ j, p.due ≠ .acqRestart e j) ∧
  (∀ (c : State) (b m : Nat), c = s.closeTick → c.agenda = [⟨b, .write (Obj.LDSP_MODE e) m⟩] → b ≤ c.now + 1 →
    ∃ t : State, exec .modeCommit s = .next t ∧ t.mode e = m ∧
    t.agenda = [] ∧ (m ≠ c.mode e → (t.engine e).trafficFrom = some (c.now + 5)) ∧ (t.engine e).stored = none ∧
    ∀ i, i < 4 → i ≠ e.val → t.mode i = c.mode i) ∧
  ∀ b : Nat, (s.engine e).trafficFrom = some b → b ≤ s.now →
    exec (.txTrafficStart e) s = .next (s.withEngine e fun r => { r with trafficFrom := none })

/-- BUILD_DONE, SEARCH_DONE, VERIFY_DONE, VERIFY_TIMEOUT, ACQ_RETRY, ENTER_VALID. -/
def Obligations.AcquisitionRunsItsStates : Prop :=
  ∀ (e : Fin 4) (s : State),
  (s.receiver e = 2 → exec (.buildDone e) s = .next (s.setReceiver e 3)) ∧
  (∀ cd offset : Int, s.receiver e = 3 → ∃ t : State, exec (.searchDone e cd offset) s = .next t ∧ t.receiver e = 5 ∧
    t.obj (Obj.LDSP_FREQ_EST e) = encode 4 offset ∧
    t.obj (Obj.LDSP_CD_EST e) = encode 4 (if s.obj (Obj.LDSP_CD_MODE e) = 1 then s.fixedCd e else clamp (s.cdWindow e).1 (s.cdWindow e).2 cd) ∧
    (∀ k, k ∉ [Obj.LDSP_ACQ_STATE e, Obj.LDSP_CD_EST e, Obj.LDSP_FREQ_EST e] → t.obj k = s.obj k) ∧ t = { s with reg := t.reg }) ∧
  (s.receiver e = 4 → exec (.verifyDone e) s = .next (s.setReceiver e 5)) ∧
  (s.obj (Obj.LDSP_ACQ_CLASS e) = 3 → s.receiver e ∈ [4, 5, 6] → (s.engine e).attempt + 160 ≤ s.now →
    ∃ t : State, exec (.verifyTimeout e) s = .next t ∧ t.receiver e = 3 ∧ t.obj (Obj.LDSP_ACQ_CLASS e) = 2 ∧ (t.engine e).trigger = s.now) ∧
  (∀ cls, s.obj (Obj.LDSP_ACQ_CLASS e) = cls → cls ∈ [1, 2] → s.receiver e ∈ [3, 5, 6] → (s.engine e).attempt + attemptBound cls ≤ s.now →
    ∃ t : State, exec (.acqRetry e) s = .next t ∧ t.receiver e = 3 ∧ t.obj (Obj.LDSP_ACQ_CLASS e) = 2 ∧
      (t.engine e).trigger = (s.engine e).trigger ∧ (t.engine e).attempt = s.now ∧ (t.engine e).primary = none ∧ (t.engine e).secondary = none ∧
      t.obj (Obj.LDSP_RETRY_COUNT e) = u64 (s.obj (Obj.LDSP_RETRY_COUNT e) + 1)) ∧
  (s.receiver e = 7 → (s.engine e).confirmedAt + invalidTicks (s.mode e) ≤ s.now → ∃ t : State, exec (.enterValid e) s = .next t ∧
    t.receiver e = 8 ∧ t.declared Df.lol e = false ∧ (t.engine e).validSince = s.now ∧
    ∃ pre, t.changes = pre ++ [⟨Ev.ACQ_VALID.code, false, s.tick,
      contentOf [2, 2, 8] [e, s.obj (Obj.LDSP_ACQ_CLASS e), s.now - (s.engine e).trigger]⟩])

/-- SYNC_POSITION: candidate, confirmation, false candidate, pre-emption, and the monitor in VALID. -/
def Obligations.HuntersConfirmAPosition : Prop :=
  ∀ (e : Fin 4) (s : State) (p : SyncTest),
  (s.receiver e = 5 → (s.engine e).primary = none → (s.engine e).secondary = none → s.syncMatch e p = true →
    ∃ t : State, exec (.syncPosition e (some p) none) s = .next t ∧ t.receiver e = 6 ∧ (t.engine e).primary = some ⟨p.pos, p.metric, false⟩) ∧
  (∀ c : Candidate, s.receiver e = 6 → (s.engine e).primary = some c → (s.engine e).secondary = none → p.pos = c.pos + syncPeriod (s.mode e) →
    (s.syncMatch e p = true → ∃ t : State, exec (.syncPosition e (some p) none) s = .next t ∧ t.receiver e = 7 ∧ (t.engine e).everLocked = true ∧
      (t.engine e).confirmedAt = s.now ∧ (t.engine e).lockedMetric = p.metric ∧
      t.obj (Obj.LDSP_ACQ_LAST_TIME e) = sat32 (s.now - (s.engine e).trigger) ∧ t.obj (Obj.LDSP_LAST_METRIC e) = encode 4 p.metric) ∧
    (s.syncMatch e p = false → ∃ t : State, exec (.syncPosition e (some p) none) s = .next t ∧ t.receiver e = 5 ∧ (t.engine e).primary = none ∧
      t.obj (Obj.LDSP_FALSE_CAND_COUNT e) = u64 (s.obj (Obj.LDSP_FALSE_CAND_COUNT e) + 1))) ∧
  (∀ c : Candidate, s.receiver e = 6 → (s.engine e).primary = some c → c.confirmed = false → (s.engine e).secondary = none →
    p.pos % syncPeriod (s.mode e) ≠ c.pos % syncPeriod (s.mode e) → s.syncMatch e p = true → c.metric + 300 ≤ p.metric →
    ∃ t : State, exec (.syncPosition e none (some p)) s = .next t ∧ t.receiver e = 6 ∧ (t.engine e).primary = some ⟨p.pos, p.metric, false⟩ ∧
      t.obj (Obj.LDSP_PREEMPT_COUNT e) = u64 (s.obj (Obj.LDSP_PREEMPT_COUNT e) + 1)) ∧
  (∀ c : Candidate, ∀ q : SyncTest, s.receiver e = 5 → (s.engine e).primary = none → (s.engine e).secondary = some c → c.confirmed = false →
    (s.engine e).afterFalse = false → s.syncMatch e q = true → q.metric + 300 ≤ c.metric →
    ∃ t : State, exec (.syncPosition e (some q) none) s = .next t ∧ t.receiver e = 6 ∧ (t.engine e).primary = some c ∧
      t.obj (Obj.LDSP_PREEMPT_COUNT e) = u64 (s.obj (Obj.LDSP_PREEMPT_COUNT e) + 1)) ∧
  (∀ c : Candidate, s.receiver e = 8 → (s.engine e).primary = some c → p.pos % syncPeriod (s.mode e) = c.pos % syncPeriod (s.mode e) →
    s.syncMatch e p = true → exec (.syncPosition e (some p) none) s =
      .next (s.withEngine e fun r => { r with primary := some ⟨p.pos, p.metric, true⟩, lockedMetric := p.metric })) ∧
  ∀ c : Candidate, s.receiver e = 8 →
    (∀ q : Candidate, (s.engine e).primary = some q → p.pos % syncPeriod (s.mode e) ≠ q.pos % syncPeriod (s.mode e)) →
    (s.engine e).secondary = some c → p.pos = c.pos + syncPeriod (s.mode e) → s.syncMatch e p = true → (s.engine e).lockedMetric + 300 ≤ p.metric →
    (s.engine e).rivalEpoch ≠ some s.epoch → ∃ t : State, exec (.syncPosition e none (some p)) s = .next t ∧ t.receiver e = 8 ∧
      (t.engine e).rivalEpoch = some s.epoch ∧ t.changes = s.changes ++ [⟨Ev.SYNC_RIVAL.code, false, s.tick,
        contentOf [2, 4, 4] [e, encode 4 (s.engine e).lockedMetric, encode 4 p.metric]⟩]

/-- LOL_DECLARE by pilots, by sync or by the store, what the next boundary makes of it (`State.startLol`), and STORED_STATE_EXPIRE. -/
def Obligations.LossOfLockReacquires : Prop :=
  ∀ (e : Fin 4) (s : State),
  (∀ cause : LolCause, s.lolMet e cause = true → ∃ t : State, exec (.lolDeclare e cause) s = .next t ∧ t.declared Df.lol e = true ∧
    (cause ≠ .store → t.receiver e = s.receiver e ∧ (t.engine e).lolAt = some s.now) ∧
    (cause = .store → (s.committedClass e).isSome = true → t.receiver e = s.receiver e) ∧
    (cause = .store → s.committedClass e = none → t.receiver e = 3 ∧ t.obj (Obj.LDSP_ACQ_CLASS e) = 2 ∧ (t.engine e).trigger = s.now) ∧
    ((s.rxLocked e = true ∧ (cause = .store → s.committedClass e = none)) → t.fresh = s.fresh + 2 ∧ (t.engine e).stored =
      some ⟨s.obj (Obj.LDSP_CD_EST e), s.obj (Obj.LDSP_FREQ_EST e), s.free, s.drawn.free, s.mode e, s.now⟩) ∧
    (s.rxLocked e = false → t.fresh = s.fresh ∧ (t.engine e).stored = (s.engine e).stored)) ∧
  (∀ (ratio ticks misses : Nat), s.receiver e ≠ 8 → s.lolMet e (.pilots ratio ticks) = false ∧ s.lolMet e (.sync misses) = false) ∧
  (∀ (n : Nat) (x : Stored), (s.engine e).lolAt = some n → n < s.now → (s.engine e).stored = some x →
    let t := s.startLol e
    t.receiver e = 4 ∧ t.obj (Obj.LDSP_ACQ_CLASS e) = 3 ∧ (t.engine e).trigger = n ∧ (t.engine e).attempt = n ∧ (t.engine e).lolAt = none ∧
    (t.engine e).taps = x.taps ∧ (t.engine e).sop = x.sop ∧ t.obj (Obj.LDSP_FREQ_EST e) = x.offset ∧
    t.obj (Obj.LDSP_CD_EST e) = (if s.obj (Obj.LDSP_CD_MODE e) = 1 then encode 4 (s.fixedCd e) else x.cd)) ∧
  ∀ x : Stored, (s.engine e).stored = some x → x.since + 8000000 ≤ s.now →
    exec (.storedStateExpire e) s = .next (s.withEngine e fun r => { r with stored := none })

/-- The commands that report on one engine's optics, receiver, decoder or deframer, and what they leave alone. -/
def Obligations.EnginesAreIndependent : Prop :=
  ∀ (e : Fin 4) (c : Instr) (s t : State),
  (∃ (n m : Nat) (z y : Int) (i : Fin 2) (core : Fin 25) (b : Bool) (lc : LolCause) (cc : CoreCause) (p q : Option SyncTest) (f : LFrame) (g : OtucFrame),
    c ∈ [Instr.laserRangeChange e i z n, .lspiDone e n, .biasUnlock e n, .biasLoopLock e n z, .biasRelockRestore e n, .txPowerShort e z n,
      .rxOverload e z n, .lineLosDeclare e z n, .lineLosClear e z n, .cnvConverged e, .calDeferTimeout e, .txTrafficStart e, .buildDone e,
      .searchDone e z y, .verifyDone e, .verifyTimeout e, .syncPosition e p q, .enterValid e, .acqRetry e, .lolDeclare e lc,
      .storedStateExpire e, .decCoreFail e core cc n, .coreStartupTestDone e core b, .coreRetestDone e core b, .fecfailDeclare e n m,
      .fecfailClear e n, .lFrameReceive e f, .otucFrameCheck e g]) →
  exec c s = .next t →
  (∀ i, i ≠ e.val → t.engine i = s.engine i) ∧
  t = { s with reg := t.reg, eng := t.eng, defects := t.defects, changes := t.changes, agenda := t.agenda, fresh := t.fresh, timing := t.timing
               prot := { s.prot with psc := t.prot.psc } }

/-- DEC_CORE_FAIL (with `State.dispatchWords` at the next boundary), CORE_STARTUP_TEST_DONE, FEC_CORE_RETEST, CORE_RETEST_DONE. How the 24 shares go
round the working cores (`heldWords`) is the model's choice (log entry 161). -/
def Obligations.DecoderCoresFailAndReturn : Prop :=
  ∀ (e : Fin 4) (core : Fin 25) (s : State),
  (∀ (cause : CoreCause) (codewords : Nat), s.coreWorks e core = false ∨ s.domOn e = false → exec (.decCoreFail e core cause codewords) s = .next s) ∧
  (∀ n : Nat, (s.engine e).redispatch = n → 0 < n → (s.dispatchWords e).obj (Obj.FEC_REDISPATCH_COUNT e) =
    u64 (s.obj (Obj.FEC_REDISPATCH_COUNT e) + n)) ∧
  (∀ (cause : CoreCause) (codewords : Nat), s.coreWorks e core = true → s.domOn e = true → ∃ t : State, exec (.decCoreFail e core cause codewords) s = .next t ∧
    t.coreWorks e core = false ∧ (∀ c, c < 25 → c ≠ core.val → t.coreWorks e c = s.coreWorks e c) ∧ core.val ∈ (t.engine e).fenced ∧
    t.obj (Obj.FEC_CORE_FAIL_COUNT e) = u64 (s.obj (Obj.FEC_CORE_FAIL_COUNT e) + 1) ∧
    (t.engine e).redispatch = (s.engine e).redispatch + s.heldWords e core codewords ∧
    (s.cores e ≤ 24 → t.declared Df.decDeg e = true)) ∧
  (∀ pass : Bool, core.val ∈ (s.engine e).starting → s.domOn e = true → ∃ t : State, exec (.coreStartupTestDone e core pass) s = .next t ∧
    core.val ∉ (t.engine e).starting ∧ (pass = true → t.coreWorks e core = true) ∧ (pass = false → core.val ∈ (t.engine e).fenced)) ∧
  (∀ pass : Bool, core.val ∈ (s.engine e).retesting → s.domOn e = true → ∃ t : State, exec (.coreRetestDone e core pass) s = .next t ∧
    core.val ∉ (t.engine e).retesting ∧ (pass = true → t.agenda = s.agenda ++ [⟨s.now + 1, .coreJoin e core⟩]) ∧
    (pass = false → core.val ∈ (t.engine e).fenced)) ∧
  ∀ (rq : Rq) (x : Sender) (val v : Val), Accepted rq x (Obj.FEC_CORE_RETEST e) val v s → s.agenda = [] →
    let u := s.served rq x
    exec (.fecCoreRetest rq e val) s = .next (
      if v.v ∉ (s.engine e).fenced then u.deliver rq Op.write .range []
      else if v.v ∈ (s.engine e).retesting then u.deliver rq Op.write .busy []
      else if s.domOn e = false then u.deliver rq Op.write .precond []
      else (u.plan (s.now + 1) (.coreTest e v.v)).answered rq)

/-- FECFAIL_DECLARE and FECFAIL_CLEAR. -/
def Obligations.FecFailFollowsTheThreshold : Prop :=
  ∀ (e : Fin 4) (fraction ticks : Nat) (s : State),
  (s.domOn e = true → s.rxLocked e = true → s.mode e ≠ 0 → s.obj (Obj.FEC_FAIL_THRESH e) ≤ fraction → s.obj (Obj.FEC_FAIL_TICKS e) ≤ ticks →
    ∃ t : State, exec (.fecfailDeclare e fraction ticks) s = .next t ∧ t.declared Df.fecFail e = true ∧
      t = { s with defects := t.defects, changes := t.changes } ∧ ∀ d i, (d, i) ≠ (Df.fecFail, e.val) → t.declared d i = s.declared d i) ∧
  (8 ≤ ticks → s.poolCollapsed e = false → ∃ t : State, exec (.fecfailClear e ticks) s = .next t ∧ t.declared Df.fecFail e = false ∧
      t = { s with defects := t.defects, changes := t.changes } ∧ ∀ d i, (d, i) ≠ (Df.fecFail, e.val) → t.declared d i = s.declared d i) ∧
  (s.poolCollapsed e = true → exec (.fecfailClear e ticks) s = .next s)

/-- L_FRAME_RECEIVE, OTUC_FRAME_CHECK and AGREEMENT_FRAME_RECEIVE. That BDI and IAE change after 5 frames and DEG after DEG_M seconds is presumed
from G.798 (log entry 167); that a C above the payload area keeps the previous C is the model's choice (log entry 166). -/
def Obligations.DeframerFollowsTheAlignmentWord : Prop :=
  ∀ (e : Fin 4) (s : State), s.rxLocked e = true →
  (∀ f : LFrame, modeL (s.mode e) = true →
    let next := f.pos + frameBits (s.mode e)
    let candidate := f.pos - frameBits (s.mode e)
    let recurs := frameBits (s.mode e) ≤ f.pos ∧ (s.engine e).frameCandidate = some candidate
    let overhead := fun (t : State) =>
      (f.crcOk = true → (t.engine e).idleSeen = f.idle ∧ (t.engine e).prevPtr = f.ptr ∧
        (t.engine e).prevC = (if f.c ≤ payloadArea (s.mode e) then f.c else (s.engine e).prevC) ∧
        (f.idle = true → t.declared Df.lom e = false ∧ (t.engine e).lofOtuc = false ∧
          ∀ a, a < 128 → ∀ d ∈ [Df.smTim, Df.smDeg, Df.smBdi, Df.smIae], t.declared d (s.otucPoint e a) = false)) ∧
      (f.crcOk = false → t.obj (Obj.FRM_CRC_ERR_COUNT e) = u64 (s.obj (Obj.FRM_CRC_ERR_COUNT e) + 1) ∧
        (t.engine e).prevC = (s.engine e).prevC ∧
        (t.engine e).prevPtr = duePointer (s.mode e) (s.engine e).prevC (s.engine e).otucSince)
    (s.obj (Obj.FRM_STATE e) = 0 → exec (.lFrameReceive e f) s = .next (if f.fasErrors = 0 ∧ (s.engine e).huntFrom ≤ f.pos
      then (s.setObj (Obj.FRM_STATE e) 1).withEngine e fun r => { r with frameCandidate := some f.pos, buffered := [] } else s)) ∧
    (s.obj (Obj.FRM_STATE e) = 1 → ¬ recurs → exec (.lFrameReceive e f) s = .next (if f.fasErrors = 0
      then s.withEngine e fun r => { r with buffered := r.buffered ++ [f] } else s)) ∧
    (s.obj (Obj.FRM_STATE e) = 1 → recurs → ∃ t : State, exec (.lFrameReceive e f) s = .next t ∧
      (f.fasErrors ≤ 3 → t.obj (Obj.FRM_STATE e) = 2 ∧ (t.engine e).frameCandidate = none ∧ (t.engine e).frameDue = some next ∧ overhead t) ∧
      (3 < f.fasErrors → t.obj (Obj.FRM_FALSE_CAND_COUNT e) = u64 (s.obj (Obj.FRM_FALSE_CAND_COUNT e) + 1) ∧
        match (s.engine e).buffered.filter fun g => decide (candidate < g.pos) with
        | [] => t.obj (Obj.FRM_STATE e) = 0 ∧ (t.engine e).frameCandidate = none ∧ (t.engine e).huntFrom = candidate + 1
        | g :: rest => t.obj (Obj.FRM_STATE e) = 1 ∧ (t.engine e).frameCandidate = some g.pos ∧ (t.engine e).buffered = rest)) ∧
    (s.obj (Obj.FRM_STATE e) = 2 → (s.engine e).frameDue.getD f.pos ≠ f.pos → exec (.lFrameReceive e f) s = .next s) ∧
    (s.obj (Obj.FRM_STATE e) = 2 → (s.engine e).frameDue.getD f.pos = f.pos → f.fasErrors ≤ 3 ∨ (s.engine e).fasMisses + 1 < 5 →
      ∃ t : State, exec (.lFrameReceive e f) s = .next t ∧ t.obj (Obj.FRM_STATE e) = 2 ∧ (t.engine e).frameDue = some next ∧
        (t.engine e).fasMisses = (if f.fasErrors ≤ 3 then 0 else (s.engine e).fasMisses + 1) ∧ overhead t) ∧
    (s.obj (Obj.FRM_STATE e) = 2 → (s.engine e).frameDue.getD f.pos = f.pos → 3 < f.fasErrors → 4 ≤ (s.engine e).fasMisses →
      ∃ t : State, exec (.lFrameReceive e f) s = .next t ∧ t.obj (Obj.FRM_STATE e) = 0 ∧ t.declared Df.lof e = true ∧
        t.obj (Obj.FRM_LOF_COUNT e) = u64 (s.obj (Obj.FRM_LOF_COUNT e) + 1))) ∧
  (∀ f : OtucFrame, modeL (s.mode e) = true → s.obj (Obj.FRM_STATE e) = 2 → (s.engine e).idleSeen = false →
    let pass := f.fasOk = true ∧ (s.engine e).otucPtrOk = true ∧
      ((s.engine e).prevMfas = none ∨ ∃ m, (s.engine e).prevMfas = some m ∧ f.mfas = (m + 1) % 256)
    ∃ t : State, exec (.otucFrameCheck e f) s = .next t ∧ (t.engine e).prevMfas = some f.mfas ∧ t.declared Df.lom e = f.lom ∧
      (pass → (t.engine e).otucBad = 0 ∧ (t.engine e).otucGood = (s.engine e).otucGood + 1 ∧
        (1 ≤ (s.engine e).otucGood → (t.engine e).lofOtuc = false)) ∧
      (¬ pass → (t.engine e).otucGood = 0 ∧ (t.engine e).otucBad = (s.engine e).otucBad + 1 ∧
        (4 ≤ (s.engine e).otucBad → (t.engine e).lofOtuc = true)) ∧
      t.declared Df.lof e = ((t.engine e).lofFrame || (t.engine e).lofOtuc) ∧ (t.engine e).lofFrame = (s.engine e).lofFrame ∧
      ∀ x, f.sm = [x] →
        let p := s.otucPoint e (x.inst - 1)
        let run := Map.get {} (s.engine e).sections (Key.unit x.inst)
        let after := Map.get {} (t.engine e).sections (Key.unit x.inst)
        let m := s.obj (Obj.FRM_SM_DEG_M e)
        t.declared Df.smTim p = decide (x.tti ≠ s.obj (Obj.FRM_SM_TTI_EXP e (x.inst - 1))) ∧
        t.declared Df.smBdi p = (if x.bdi ≠ s.declared Df.smBdi p ∧ run.bdi + 1 = 5 then x.bdi else s.declared Df.smBdi p) ∧
        t.declared Df.smIae p = (if x.iae ≠ s.declared Df.smIae p ∧ run.iae + 1 = 5 then x.iae else s.declared Df.smIae p) ∧
        t.declared Df.smDeg p = (if m ≤ after.bad then true else if m ≤ after.good then false else s.declared Df.smDeg p) ∧
        (x.second = none → after.bad = run.bad ∧ after.good = run.good) ∧
        (∀ n, x.second = some n → s.obj (Obj.FRM_SM_DEG_THR e) ≤ n → after.bad = run.bad + 1 ∧ after.good = 0) ∧
        ∀ n, x.second = some n → n < s.obj (Obj.FRM_SM_DEG_THR e) → after.bad = 0 ∧ after.good = run.good + 1) ∧
  ∀ lof alignment : Bool, modeZ (s.mode e) = true → ∃ t : State, exec (.agreementFrameReceive e lof alignment) s = .next t ∧
    t.declared Df.lof e = lof ∧ t.declared Df.lom e = alignment ∧ (∀ k, t.obj k = s.obj k) ∧
    t = { s with eng := t.eng, defects := t.defects, changes := t.changes }

/-- BOND_DESKEW, OH_GCC_ROUTE and OHP_FRAME. -/
def Obligations.BondedGroupsAndOverhead : Prop :=
  (∀ (group : Fin 3) (offsets : List Nat) (numbered : Bool) (s : State),
    let g := groupMembers group
    let first := g.headD 0
    let earliest := offsets.foldl min (offsets.headD 0)
    let spread := offsets.foldl max 0 - earliest
    s.bond first = g → offsets.length = g.length → (∀ e ∈ g, s.rxLocked e = true ∧ s.obj (Obj.FRM_STATE e) = 2) →
    ∃ t : State, exec (.bondDeskew group offsets numbered) s = .next t ∧
      (∀ q ∈ g.zip offsets, t.obj (Obj.FRM_DESKEW q.1) = q.2 - earliest) ∧
      (spread ≤ 20000000 → numbered = true → (∃ e ∈ g, bit (s.obj Obj.TB_BOND_STATE) e = false) →
        (∀ e ∈ g, bit (t.obj Obj.TB_BOND_STATE) e = true) ∧ t.declared Df.loa (bondPoint g) = false) ∧
      (20000000 < spread ∨ numbered = false →
        (∀ e ∈ g, bit (t.obj Obj.TB_BOND_STATE) e = false) ∧ t.declared Df.loa (bondPoint g) = true) ∧
      (∀ e, e ∉ g → bit (t.obj Obj.TB_BOND_STATE) e = bit (s.obj Obj.TB_BOND_STATE) e) ∧
      t = { s with reg := t.reg, defects := t.defects, changes := t.changes, bondSpread := t.bondSpread }) ∧
  (∀ (rq : Rq) (x : Sender) (index : Nat) (val v : Val) (s : State), Accepted rq x (Obj.OH_GCC_ROUTE index) val v s →
    let u := s.served rq x
    let w := Nat.land v.v 0xFFF7FFFF
    let routes := w :: ((List.range 64).filter (· ≠ index)).map fun i => u.latest (Obj.OH_GCC_ROUTE i)
    let port := routeDest w
    exec (.ohGccRouteWrite rq index val) s = .next (
      if routeOn w = true ∧ (routeKind w = 3 ∨ 4 < port ∨ routeChannel w = 15 ∨ (routeKind w = 0 ∧ 127 < field w 18 0) ∨
          (port < 4 ∧ ohpBytes (u.latest (Obj.OHP_CLK port)) < u.portLoad routes port)) then u.deliver rq Op.write .range []
      else (u.stage (Obj.OH_GCC_ROUTE index) w).answered rq)) ∧
  ∀ (port : Fin 4) (s : State),
    (s.obj (Obj.OHP_CLK port) = 0 → ∀ records received, exec (.ohpFrame port records received) s = .next s) ∧
    (s.obj (Obj.OHP_CLK port) ≠ 0 → s.portRoutes port = [] → ∀ records received, exec (.ohpFrame port records received) s =
      .next { s with ohpSent := Map.set [] s.ohpSent (Key.unit port) (List.replicate (ohpBytes (s.obj (Obj.OHP_CLK port))) 0xFF) }) ∧
    ∀ x, s.obj (Obj.OHP_CLK port) ≠ 0 → s.portRoutes port = [x] →
      let waiting := Map.get [] s.gccOut (Key.unit x)
      let n := min (min waiting.length 15) (ohpBytes (s.obj (Obj.OHP_CLK port)) - 1)
      let board := Map.get [] s.gccIn (Key.unit x)
      let sent := (routeChannel (s.obj (Obj.OH_GCC_ROUTE x)) * 16 + n) :: waiting.take n
      (0 < n → exec (.ohpFrame port [] []) s = .next { s with
        gccOut := Map.set [] s.gccOut (Key.unit x) (waiting.drop n)
        ohpSent := Map.set [] s.ohpSent (Key.unit port)
          (sent ++ List.replicate (ohpBytes (s.obj (Obj.OHP_CLK port)) - sent.length) 0xFF) }) ∧
      ∀ bytes : List Nat, ∃ t : State,
        exec (.ohpFrame port [⟨routeChannel (s.obj (Obj.OH_GCC_ROUTE x)), bytes⟩] []) s = .next t ∧
        Map.get [] t.gccIn (Key.unit x) = (board ++ bytes).take 64 ∧
        t.obj (Obj.OH_GCC_DROP x) = (if board.length + bytes.length ≤ 64 then s.obj (Obj.OH_GCC_DROP x)
          else u64 (s.obj (Obj.OH_GCC_DROP x) + (board.length + bytes.length - 64)))

/-- HL_RATE, HL_TX_TIMING, HL_PRBS_CFG, CLI_FORM and CLI_TYPE. -/
def Obligations.HostWritesAreChecked : Prop :=
  ∀ (l : Fin 64) (rq : Rq) (x : Sender) (val v : Val) (s : State),
  let u := s.served rq x
  let refused := fun st => State.deliver u rq Op.write st []
  let staged := fun k => (State.stage u k v.v).answered rq
  (Accepted rq x (Obj.HL_RATE l) val v s → exec (.hlRateWrite rq l val) s =
    .next (if u.laneUsed l = true ∨ u.ratesFit [(l.val, v.v)] = false then refused .precond else staged (Obj.HL_RATE l))) ∧
  (Accepted rq x (Obj.HL_TX_TIMING l) val v s → exec (.hlTxTimingWrite rq l val) s =
    .next (if u.timingAccepted l v.v = false then refused .precond else staged (Obj.HL_TX_TIMING l))) ∧
  (Accepted rq x (Obj.HL_PRBS_CFG l) val v s →
    let rate := u.latest (Obj.HL_RATE l)
    exec (.hlPrbsCfgWrite rq l val) s = .next (
      if prbsLegal rate (field v.v 3 0) = false ∨ prbsLegal rate (field v.v 7 4) = false then refused .range
      else if field v.v 3 0 ≠ 0 ∧ field (u.latest (Obj.HL_PRBS_CFG l)) 3 0 = 0 ∧ u.laneUsed l = true then refused .precond
      else staged (Obj.HL_PRBS_CFG l))) ∧
  (Accepted rq x (Obj.CLI_FORM l) val v s → exec (.cliFormWrite rq l val) s =
    .next (if u.laneUsed l = true then refused .precond else staged (Obj.CLI_FORM l))) ∧
  ∀ set : LaneSet, Accepted rq x (Obj.CLI_TYPE l) val v s →
    (clientSet v.v l set = none → exec (.cliTypeWrite rq l val set) s = .next (refused .precond)) ∧
    ∀ lanes rate, clientSet v.v l set = some (lanes, rate) →
      (u.laneUsed l = true ∨ (∃ i ∈ lanes, u.laneUsed i = true ∨ i ∈ u.takenLanes l) ∨ u.ratesFit (lanes.map fun i => (i, rate)) = false →
        exec (.cliTypeWrite rq l val set) s = .next (refused .precond)) ∧
      (u.laneUsed l = false → (∀ i ∈ lanes, u.laneUsed i = false ∧ i ∉ u.takenLanes l) → u.ratesFit (lanes.map fun i => (i, rate)) = true →
        ∃ t : State, exec (.cliTypeWrite rq l val set) s = .next (t.answered rq) ∧ t = { u with agenda := t.agenda } ∧
          ⟨s.now + 1, .client l v.v lanes rate⟩ ∈ t.agenda ∧ ∀ i ∈ lanes, ⟨s.now + 1, .write (Obj.HL_RATE i) rate⟩ ∈ t.agenda)

/-- LANE_LOCKED, LANE_LOSS_OF_LOCK, LANE_LOS_DECLARE, LANE_LOS_CLEAR, CLIENT_PCS_LOCK_CHANGE, FLEXE_CAL_SWITCH. -/
def Obligations.HostLanesFollowTheirInput : Prop :=
  ∀ (l : Fin 64) (s : State),
  (∀ (old new : Nat) (c : Instr), (old, new, c) ∈ [(1, 2, Instr.laneLocked l), (2, 1, .laneLossOfLock l)] →
    (s.obj (Obj.HL_STATE l) = old → ∃ t : State, exec c s = .next t ∧ t.obj (Obj.HL_STATE l) = new ∧
      t.declared Df.laneLol l = decide (new = 1) ∧ ⟨Ev.HL_STATE.code, false, s.tick, contentOf Ev.HL_STATE.widths [l, old, new]⟩ ∈ t.changes ∧
      (∀ j, j ≠ l.val → t.obj (Obj.HL_STATE j) = s.obj (Obj.HL_STATE j)) ∧
      t = { s with reg := t.reg, defects := t.defects, changes := t.changes, clients := t.clients, timing := t.timing }) ∧
    (s.obj (Obj.HL_STATE l) ≠ old → exec c s = .next s)) ∧
  (∀ amplitude ns : Nat, s.obj (Obj.HL_STATE l) ≠ 0 → amplitude < 50 → 500 ≤ ns → ∃ t : State,
    exec (.laneLosDeclare l amplitude ns) s = .next t ∧ t.declared Df.laneLos l = true ∧ t.obj (Obj.HL_STATE l) = s.obj (Obj.HL_STATE l)) ∧
  (∀ amplitude ticks : Nat, (80 < amplitude → 8 ≤ ticks → ∃ t : State, exec (.laneLosClear l amplitude ticks) s = .next t ∧
      t.declared Df.laneLos l = false ∧ t.obj (Obj.HL_STATE l) = s.obj (Obj.HL_STATE l)) ∧
    (amplitude ≤ 80 ∨ ticks < 8 → exec (.laneLosClear l amplitude ticks) s = .next s)) ∧
  (∀ p : PcsState, (s.client l).lanes ≠ [] → ∃ t : State, exec (.clientPcsLockChange l p) s = .next t ∧ (t.client l).pcs = p.locked ∧
    (t.client l).lanes = (s.client l).lanes ∧
    t.declared Df.lobl l = (isEthernet (s.clientType l) && !p.blockLock) ∧ t.declared Df.hiBer l = (isEthernet (s.clientType l) && p.hiBer) ∧
    t.declared Df.loaml l = ((isEthernet (s.clientType l) || decide (s.clientType l = 17)) && !p.alignment) ∧
    t.declared Df.cliLof l = ((isStm (s.clientType l) || isOtu (s.clientType l) || decide (s.clientType l = 17)) && !p.frame) ∧
    t.declared Df.cliLom l = (isOtu (s.clientType l) && !p.multiframe) ∧ t.obj (Obj.CLI_DEFECTS l) = t.clientDefects l) ∧
  ∀ (g : Fin 8) (calendar : Fin 2), exec (.flexeCalSwitch g calendar) s = .next (
    if s.obj (Obj.FXE_CAL_ACTIVE g) = calendar then s
    else (s.setObj (Obj.FXE_CAL_ACTIVE g) calendar).raise Ev.FLEXE_CAL [0x100 + g, g, calendar])

/-- EXPANSION_CELL_RECEIVE: R193 whole, with `differ` and `agree` as the run of the link's control cells so far; delineation and data cells follow
R191, R192 and R194. -/
def Obligations.ExpansionCellsAreDelineated : Prop :=
  ∀ (l : Fin 64) (f : Nat) (cell : Cell) (s : State), s.laneOwner l = some f → s.clientType f = 19 →
  let own := ∃ x ∈ (s.client f).cells, x.head = cell.head ∧ x.payload = cell.payload
  (s.linkAligned f l = false ∨ (field (s.obj (Obj.HL_CFG l)) 3 2 = 1 ∧ ¬ own) → exec (.expansionCellReceive l cell) s = .next s) ∧
  (s.linkAligned f l = true → (field (s.obj (Obj.HL_CFG l)) 3 2 = 1 → own) →
  let c := expCell s l
  let clear := runWords descrambleWord c.received cell.payload
  let st := s.obj (Obj.HL_CELL_STATE l)
  let lanes := (s.client f).lanes.length
  let d := dataCells (s.client f).rate
  let later := c.fits.filter fun p => decide (c.first < p)
  (st = 0 → cell.hecOk = true → c.huntFrom ≤ cell.pos → ∃ t : State, exec (.expansionCellReceive l cell) s = .next t ∧
    t.obj (Obj.HL_CELL_STATE l) = 1 ∧ (expCell t l).good = 1 ∧ (expCell t l).due = some (cell.pos + 1056) ∧ t.declared Df.lcd l = true) ∧
  (st = 0 → cell.hecOk = false ∨ cell.pos < c.huntFrom →
    exec (.expansionCellReceive l cell) s = .next (s.setCells l { c with received := clear.2 })) ∧
  (st = 1 → c.due ≠ some cell.pos → ∃ t : State, exec (.expansionCellReceive l cell) s = .next t ∧ t = { s with cells := t.cells } ∧
    expCell t l = { c with received := clear.2, fits := if cell.hecOk then c.fits ++ [cell.pos] else c.fits }) ∧
  (st = 1 → c.due = some cell.pos → cell.hecOk = true → c.good < 5 → ∃ t : State, exec (.expansionCellReceive l cell) s = .next t ∧
    t.obj (Obj.HL_CELL_STATE l) = 1 ∧ t.declared Df.lcd l = true ∧ (expCell t l).good = c.good + 1 ∧ (expCell t l).first = c.first ∧
    (expCell t l).due = some (c.first + 1056 * (c.good + 1)) ∧ t = { s with cells := t.cells, reg := t.reg, defects := t.defects, changes := t.changes }) ∧
  (st = 1 → c.due = some cell.pos → cell.hecOk = true → 5 ≤ c.good → ∃ t : State, exec (.expansionCellReceive l cell) s = .next t ∧
    t.obj (Obj.HL_CELL_STATE l) = 2 ∧ t.declared Df.lcd l = false) ∧
  (st = 1 → c.due = some cell.pos → cell.hecOk = false → nextCandidate c.fits cell.pos later = none →
    ∃ t : State, exec (.expansionCellReceive l cell) s = .next t ∧ t.obj (Obj.HL_CELL_STATE l) = 0 ∧ (expCell t l).huntFrom = c.first + 1 ∧
    t.declared Df.lcd l = true ∧ t.obj (Obj.EXP_HEC_ERR f) = s.obj (Obj.EXP_HEC_ERR f)) ∧
  (∀ p n, st = 1 → c.due = some cell.pos → cell.hecOk = false → nextCandidate c.fits cell.pos later = some (p, n) → n < 6 →
    ∃ t : State, exec (.expansionCellReceive l cell) s = .next t ∧ t.obj (Obj.HL_CELL_STATE l) = 1 ∧ (expCell t l).first = p ∧
    (expCell t l).good = n ∧ t.declared Df.lcd l = true ∧ t.obj (Obj.EXP_HEC_ERR f) = s.obj (Obj.EXP_HEC_ERR f)) ∧
  (st = 2 → c.due ≠ some cell.pos → exec (.expansionCellReceive l cell) s = .next s) ∧
  (st = 2 → c.due = some cell.pos → cell.hecOk = false → ∃ t : State, exec (.expansionCellReceive l cell) s = .next t ∧
    t.obj (Obj.EXP_HEC_ERR f) = u64 (s.obj (Obj.EXP_HEC_ERR f) + 1) ∧
    t.obj (Obj.EXP_CELL_DISCARD f) = u64 (s.obj (Obj.EXP_CELL_DISCARD f) + 1) ∧ t.prism = s.prism ∧
    (c.bad < 6 → t.obj (Obj.HL_CELL_STATE l) = 2 ∧ (expCell t l).bad = c.bad + 1 ∧ (expCell t l).due = some (cell.pos + 1056)) ∧
    (6 ≤ c.bad → t.obj (Obj.HL_CELL_STATE l) = 0 ∧ t.declared Df.lcd l = true)) ∧
  (st = 2 → c.due = some cell.pos → cell.hecOk = true →
    (lanes ≤ cell.lane ∨ d ≤ cell.cell ∨ (cell.kind = 0 ∧ cell.phase ≠ (s.phase + 30) % 32) →
      ∃ t : State, exec (.expansionCellReceive l cell) s = .next t ∧ (expCell t l).bad = 0 ∧
        t.obj (Obj.EXP_CELL_DISCARD f) = u64 (s.obj (Obj.EXP_CELL_DISCARD f) + 1) ∧ t = { s with cells := t.cells, reg := t.reg }) ∧
    (cell.lane < lanes → cell.cell < d →
      (cell.kind = 0 → cell.phase = (s.phase + 30) % 32 → ∃ t : State, exec (.expansionCellReceive l cell) s = .next t ∧
        t = { s with cells := t.cells, prism := t.prism } ∧ (f, cell.lane * d + cell.cell) ∈ t.prism.cellsSeen) ∧
      (cell.kind = 2 → clear.1.getD 31 0 = controlCrc clear.1 → ∃ t : State, exec (.expansionCellReceive l cell) s = .next t ∧
        let theirs := clear.1.getD 0 0 * 2 ^ 32 + clear.1.getD 1 0
        let differs := 1 < (theirs - s.tick) + (s.tick - theirs)
        (differs → (t.declared Df.tickMm f = true ↔ s.declared Df.tickMm f = true ∨ 1 ≤ (s.client f).differ) ∧
          (t.client f).differ = min 2 ((s.client f).differ + 1) ∧ (t.client f).agree = 0) ∧
        (¬ differs → (t.declared Df.tickMm f = true ↔ s.declared Df.tickMm f = true ∧ (s.client f).agree < 31) ∧
          (t.client f).agree = min 32 ((s.client f).agree + 1) ∧ (t.client f).differ = 0)) ∧
      (cell.kind = 1 ∨ cell.kind = 3 ∨ (cell.kind = 2 ∧ clear.1.getD 31 0 ≠ controlCrc clear.1) →
        ∃ t : State, exec (.expansionCellReceive l cell) s = .next t ∧ (expCell t l).bad = 0 ∧ t = { s with cells := t.cells }))))

/-- PRISM_COMPILE in its three forms, COMPILE_DONE, COMPILE_FAIL, ROLLBACK_DONE. -/
def Obligations.CompilerRunsAndRollsBack : Prop :=
  ∀ s : State,
  (∀ (rq : Rq) (x : Sender) (kind : Nat) (c : Instr), (kind, c) ∈ [(1, Instr.compileDirty rq), (2, .compileAll rq)] →
    Accepted rq x Obj.PRISM_COMPILE ⟨2, kind⟩ ⟨2, kind⟩ s →
    let u := s.served rq x
    exec c s = .next (
      if s.obj Obj.SHD_STATE = 4 then u.deliver rq Op.write .shadowBusy []
      else if u.compiling = true ∨ s.prism.rollback.isSome = true ∨ 2 ≤ s.obj Obj.SHD_STATE then u.deliver rq Op.write .busy []
      else if s.ctBad = true then u.deliver rq Op.write .precond []
      else (u.shadowEdited.plan (s.now + 1) (.compileStart kind)).answered rq)) ∧
  (∀ (rq : Rq) (x : Sender), Accepted rq x Obj.PRISM_COMPILE ⟨2, 0⟩ ⟨2, 0⟩ s →
    (s.obj Obj.SHD_STATE = 4 → exec (.compileAbandon rq) s = .next ((s.served rq x).deliver rq Op.write .shadowBusy [])) ∧
    (s.obj Obj.SHD_STATE = 2 ∨ s.obj Obj.SHD_STATE = 3 → exec (.compileAbandon rq) s = .next ((s.served rq x).deliver rq Op.write .busy [])) ∧
    (∀ c : Compile, s.obj Obj.SHD_STATE < 2 → s.prism.compile = some c →
      ∃ t : State, exec (.compileAbandon rq) s = .next (t.answered rq) ∧ t.prism.compile = none ∧
      t.obj Obj.PRISM_COMPILE_STATE = 5 ∧
      t.prism.rollback = some ⟨s.now + max 1 (ceilDiv (min c.result.entries (256 * (s.now - c.start))) 256), 1⟩ ∧
      t.prism.heldShadow = s.prism.heldShadow ∧ t.changes = s.changes ++ [⟨Ev.COMPILE_FAIL.code, false, s.tick, contentOf Ev.COMPILE_FAIL.widths [0, 0]⟩]) ∧
    (s.obj Obj.SHD_STATE < 2 → s.prism.compile = none →
        (s.obj Obj.PRISM_COMPILE_STATE = 3 → ∃ t : State, exec (.compileAbandon rq) s = .next (t.answered rq) ∧
          t.obj Obj.PRISM_COMPILE_STATE = 5 ∧ t.waits isCompileStart = false ∧
          t.prism.rollback = some ⟨s.now + max 1 (ceilDiv s.prism.lastEntries 256), 1⟩ ∧ t.prism.heldShadow = s.prism.heldShadow) ∧
        (s.obj Obj.PRISM_COMPILE_STATE = 5 → exec (.compileAbandon rq) s = .next ((s.served rq x).answered rq)) ∧
        (s.obj Obj.PRISM_COMPILE_STATE ≠ 3 → s.obj Obj.PRISM_COMPILE_STATE ≠ 5 →
          exec (.compileAbandon rq) s = .next ((s.served rq x).deliver rq Op.write .precond [])))) ∧
  (∀ c : Compile, s.prism.compile = some c → c.due ≤ s.now + 1 →
    (c.result.failure = none → exec .compileFail s = .next s ∧ ∃ t : State, exec .compileDone s = .next t ∧ t.prism.compile = none ∧
      t.prism.heldShadow = c.result.held ∧ t.prism.dirty = [] ∧ t.prism.held = s.prism.held ∧ t.act = s.act ∧ t.shd = s.shd ∧
      t.obj Obj.PRISM_COMPILE_STATE = 3 ∧ t.obj Obj.PRISM_COMPILE_TICKS = c.due - c.start ∧
      t.changes = s.changes ++ [⟨Ev.COMPILE_DONE.code, false, s.nextTick, contentOf Ev.COMPILE_DONE.widths [c.result.entries, c.due - c.start]⟩]) ∧
    (∀ reason conn, c.result.failure = some (reason, conn) → exec .compileDone s = .next s ∧ ∃ t : State, exec .compileFail s = .next t ∧
      t.obj Obj.PRISM_COMPILE_STATE = 5 ∧ t.obj Obj.PRISM_COMPILE_ERR = reason * 2 ^ 24 + conn ∧ t.prism.compile = none ∧
      t.prism.rollback = some ⟨s.now + 1 + max 1 (ceilDiv c.result.entries 256), 4⟩ ∧ t.prism.heldShadow = s.prism.heldShadow ∧
      t.changes = s.changes ++ [⟨Ev.COMPILE_FAIL.code, false, s.nextTick, contentOf Ev.COMPILE_FAIL.widths [reason, conn]⟩])) ∧
  (∀ r : Rollback, s.prism.rollback = some r →
    (s.now + 1 < r.due → exec .rollbackDone s = .next s) ∧
    (r.due ≤ s.now + 1 → ∃ t : State, exec .rollbackDone s = .next t ∧ t.obj Obj.PRISM_COMPILE_STATE = r.final ∧ t.prism.rollback = none ∧
      t.prism.heldShadow = s.prism.heldBefore ∧ t.prism.held = s.prism.held ∧
      (∀ k, k ≠ Obj.PRISM_COMPILE_STATE → t.obj k = s.obj k) ∧ t = { s with reg := t.reg, prism := t.prism }))

/-- SLICE_FAIL, PRISM_SLICE_RETEST, SLICE_RETEST_DONE, SLICE_REJOIN. -/
def Obligations.SlicesFailAndRejoin : Prop :=
  ∀ (slice : Fin 17) (s : State),
  (∀ (cause : Fin 2) (errors : Nat),
    let fails := (cause = 0 ∨ s.obj Obj.PRISM_SLICE_ERR_LIMIT < errors) ∧ slice.val ∉ s.prism.fenced ∧ ∀ f ∈ s.prism.fences, f.slice ≠ slice.val
    (¬ fails → exec (.sliceFail slice cause errors) s = .next s) ∧
    (fails → ∃ (t : State) (more : List Fence), exec (.sliceFail slice cause errors) s = .next t ∧
      t.prism.fences = s.prism.fences ++ ⟨slice, cause, s.tick⟩ :: more ∧ (∀ f ∈ more, f.cause = 1 ∧ f.tick = s.tick) ∧ t.prism.fenced = s.prism.fenced ∧ t.prism.stage = s.prism.stage ∧ t.prism.half0 = s.prism.half0 ∧ t.prism.half1 = s.prism.half1 ∧
      t = { s with reg := t.reg, prism := t.prism, defects := t.defects, changes := t.changes, lastOverrun := t.lastOverrun
                   overrunEpoch := t.overrunEpoch, overrunAt := t.overrunAt })) ∧
  (∀ (rq : Rq) (x : Sender) (val v : Val), Accepted rq x Obj.PRISM_SLICE_RETEST val v s →
    let u := s.served rq x
    exec (.prismSliceRetest rq val) s = .next (
      if v.v ∉ s.prism.fenced then u.deliver rq Op.write .range []
      else if ∃ t ∈ s.prism.tests, t.1 = v.v then u.deliver rq Op.write .busy []
      else (u.withPrism fun p => { p with tests := p.tests ++ [(v.v, s.now + 16)] }).answered rq)) ∧
  (∀ pass : Bool, (∃ t ∈ s.prism.tests, t.1 = slice.val) → ∃ t : State, exec (.sliceRetestDone slice pass) s = .next t ∧
    (∀ r ∈ t.prism.tests, r.1 ≠ slice.val) ∧ (∀ r ∈ s.prism.tests, r.1 ≠ slice.val → r ∈ t.prism.tests) ∧
    t.prism.rejoin = s.prism.rejoin ++ (if pass then [(slice.val, s.epochBoundaryAt 1)] else []) ∧ t.prism.fenced = s.prism.fenced ∧
    t = { s with prism := t.prism }) ∧
  ∀ due : Nat, s.prism.rejoin = [(slice.val, due)] →
    (s.now + 1 < due → exec .sliceRejoin s = .next s) ∧
    (due ≤ s.now + 1 → ∃ t : State, exec .sliceRejoin s = .next t ∧ slice.val ∉ t.prism.fenced ∧
      (∀ k, k ≠ slice.val → (k ∈ t.prism.fenced ↔ k ∈ s.prism.fenced)) ∧ t.prism.rejoin = [] ∧
      t.declared Df.slice 0 = decide (t.prism.fenced ≠ []) ∧
      t.obj Obj.PRISM_STATE = (if s.running = false ∨ s.mc.initialising = true then 0 else if t.prism.lostSlices ≠ [] ∨ t.prism.xorLost = true then 3
        else if t.prism.fenced ≠ [] then 2 else 1) ∧
      ⟨Ev.SLICE_RESTORED.code, false, s.nextTick, contentOf Ev.SLICE_RESTORED.widths [slice]⟩ ∈ t.changes)

/-- SWAP and SWAP_AT; `at_` is none for SWAP. Nothing but the answer, SHD_REJECT, SHD_STATE and SHD_SWAP_EPOCH and the waiting swap changes. -/
def Obligations.SwapRequestsAreChecked : Prop :=
  ∀ (rq : Rq) (x : Sender) (byObject : Bool) (at_ : Option Nat) (op : Nat) (c : Instr) (s : State),
  (op, at_, c) ∈ [((if byObject then Op.write else Op.swap), none, Instr.swap rq byObject)] ∨
    (∃ e, e < 2 ^ 64 ∧ (op, at_, c) = ((if byObject then Op.write else Op.swapAt), some e, .swapAt rq byObject e)) →
  Served op 0 rq x s →
  let u := s.served rq x
  let state := s.obj Obj.SHD_STATE
  let compile := s.obj Obj.PRISM_COMPILE_STATE
  let reject := fun code st => exec c s = .next ((u.setObj Obj.SHD_REJECT code).deliver rq op st [])
  let calm := 1 ≤ x.role ∧ state ≠ 2 ∧ state ≠ 3 ∧ state ≠ 4
  let compiled := compile = 0 ∨ compile = 3
  let timely := ∀ e, at_ = some e → s.tick + 2 ≤ 32 * e ∧ e ≤ s.epoch + 1500000 ∧ s.load = none ∧ s.autoLoad = none
  (x.role < 1 → reject 1 .denied) ∧
  (1 ≤ x.role → state = 2 ∨ state = 3 → reject 2 .busy) ∧
  (1 ≤ x.role → state = 4 → reject 3 .shadowBusy) ∧
  (calm → ¬ compiled → reject 4 .precond) ∧
  (∀ e, at_ = some e → calm → compiled →
    (32 * e < s.tick + 2 → reject 5 .deadline) ∧
    (s.tick + 2 ≤ 32 * e → s.epoch + 1500000 < e → reject 6 .range) ∧
    (s.tick + 2 ≤ 32 * e → e ≤ s.epoch + 1500000 → s.load.isSome = true ∨ s.autoLoad.isSome = true → reject 7 .precond)) ∧
  (calm → compiled → timely → u.lineChangesFit = false → reject 8 .precond) ∧
  (calm → compiled → timely → u.lineChangesFit = true → u.objectsFit = false → reject 9 .precond) ∧
  (calm → compiled → timely → u.lineChangesFit = true → u.objectsFit = true →
    let boundary := match at_ with
      | some e => 32 * e
      | none => (s.tick + 2 + 31) / 32 * 32
    ∃ t : State, exec c s = .next (t.deliver rq op .ok
        (if byObject then [] else [⟨8, boundary / 32⟩, ⟨4, s.obj Obj.SHD_GENERATION⟩])) ∧
      t.obj Obj.SHD_STATE = 2 ∧ t.obj Obj.SHD_SWAP_EPOCH = boundary / 32 ∧
      t.shadow = { s.shadow with swap := some ⟨at_.isSome, boundary / 32, some (s.now + (boundary - s.tick)), state, none⟩ } ∧
      (∀ k, k ≠ Obj.SHD_STATE → k ≠ Obj.SHD_SWAP_EPOCH → t.obj k = u.obj k) ∧ t = { u with reg := t.reg, shadow := t.shadow })

/-- SWAP_TAKE_EFFECT, PRISM_SWAP_CANCEL, SWAP_ABANDON, SHD_REVERT, SYNC_DONE (that it waits for blocks to be regenerated: log entry 213),
BLOCK_REGENERATE and the copy engine. -/
def Obligations.SwapsTakeEffectOrNot : Prop :=
  ∀ s : State,
  (∀ (u : State) (q : SwapReq) (d : Nat), u = s.closeTick → u.shadow.swap = some q → q.due = some d →
    (u.now + 1 < d → exec .swapTakeEffect s = .next s) ∧
    (d ≤ u.now + 1 → u.obj Obj.PWR_WARN_ACTIVE = 0 → ∃ t : State, exec .swapTakeEffect s = .next t ∧
      t.act = u.installed ∧ t.shd = u.installed ∧
      (Canonical u → ∀ k, t.active k = if u.calendarInUse k = true then u.active k else u.shadowed k) ∧ t.prism.held = u.prism.heldShadow ∧ t.prism.dirty = [] ∧
      t.obj Obj.SHD_STATE = 4 ∧ t.obj Obj.SHD_EDITS = 0 ∧ t.obj Obj.SHD_GENERATION = (u.obj Obj.SHD_GENERATION + 1) % 2 ^ 32 ∧
      t.obj Obj.SHD_LAST_SWAP_TICK = u.nextTick ∧ t.obj Obj.SHD_SWAP_EPOCH = u.nextTick / 32 ∧
      t.shadow.swap = none ∧ t.shadow.lastSwap = some (u.now + 1) ∧
      (∃ y, t.shadow.sync = some y ∧ y.start = u.now + 1 ∧ y.length = max 64 (4 + ((sortNat u.prism.changed).map blockTicks).sum)) ∧
      ⟨Ev.SWAP.code, false, u.nextTick, contentOf Ev.SWAP.widths [u.nextTick, (u.obj Obj.SHD_GENERATION + 1) % 2 ^ 32, q.scheduled.toNat]⟩ ∈ t.changes) ∧
    (d ≤ u.now + 1 → u.obj Obj.PWR_WARN_ACTIVE ≠ 0 → q.scheduled = false ∨ expansionDiffers u.act u.shd = false →
      ∃ t : State, exec .swapTakeEffect s = .next t ∧ t.obj Obj.SHD_STATE = 3 ∧
        t.obj Obj.SHD_DEFER_COUNT = u64 (u.obj Obj.SHD_DEFER_COUNT + 1) ∧
        t.shadow = { u.shadow with swap := some { q with due := none, deferredAt := some (q.deferredAt.getD (u.now + 1)) } } ∧
        (∀ k, k ≠ Obj.SHD_STATE → k ≠ Obj.SHD_DEFER_COUNT → t.obj k = u.obj k) ∧
        t = { u with reg := t.reg, shadow := t.shadow, changes := t.changes })) ∧
  (∀ (rq : Rq) (x : Sender), Accepted rq x Obj.PRISM_SWAP_CANCEL ⟨2, 1⟩ ⟨2, 1⟩ s →
    let u := s.served rq x
    (s.shadow.swap = none → exec (.prismSwapCancel rq) s =
      .next (u.deliver rq Op.write (if ∃ n, s.shadow.lastSwap = some n ∧ s.now ≤ n then .deadline else .precond) [])) ∧
    ∀ q, s.shadow.swap = some q →
      (s.obj Obj.SHD_STATE = 2 → (∃ d, q.due = some d ∧ d < s.now + 2) →
        exec (.prismSwapCancel rq) s = .next (u.deliver rq Op.write .deadline [])) ∧
      (s.obj Obj.SHD_STATE ≠ 2 ∨ (∀ d, q.due = some d → s.now + 2 ≤ d) → exec (.prismSwapCancel rq) s = .next
        (((((u.setObj Obj.SHD_STATE q.back).setObj Obj.SHD_SWAP_EPOCH (s.obj Obj.SHD_LAST_SWAP_TICK / 32)).withShadow fun h => { h with swap := none }).raise Ev.SWAP_CANCELLED [q.epoch]).answered rq))) ∧
  (∀ (q : SwapReq) (d : Nat), s.shadow.swap = some q → q.deferredAt = some d →
    (s.now + 1 < d + 32 * s.obj Obj.SHD_DEFER_LIMIT → exec .swapAbandon s = .next s) ∧
    (d + 32 * s.obj Obj.SHD_DEFER_LIMIT ≤ s.now + 1 → ∃ t : State, exec .swapAbandon s = .next t ∧ t.obj Obj.SHD_STATE = q.back ∧
      t.obj Obj.SHD_SWAP_EPOCH = s.obj Obj.SHD_LAST_SWAP_TICK / 32 ∧ t.shadow = { s.shadow with swap := none } ∧ t.act = s.act ∧ t.shd = s.shd)) ∧
  (∀ (rq : Rq) (x : Sender), Accepted rq x Obj.SHD_REVERT ⟨2, 1⟩ ⟨2, 1⟩ s →
    let u := s.served rq x
    (s.obj Obj.SHD_STATE = 4 → exec (.shdRevert rq) s = .next (u.deliver rq Op.write .shadowBusy [])) ∧
    (s.obj Obj.SHD_STATE < 2 → s.compiling = false → s.prism.rollback = none → ∃ t : State, exec (.shdRevert rq) s = .next (t.answered rq) ∧
      t.shd = s.act ∧ t.act = s.act ∧ t.prism.heldShadow = s.prism.held ∧ t.obj Obj.SHD_STATE = 4 ∧ t.obj Obj.SHD_EDITS = 0 ∧
      t.obj Obj.PRISM_COMPILE_STATE = 0)) ∧
  (∀ y : Sync, s.shadow.sync = some y →
    (s.now + 1 < y.start + y.length → exec .syncDone s = .next s) ∧
    (y.writing = [] → (∃ b ∈ y.blocks, b ∉ y.copied ∧ b ∈ s.cmBadBlocks) → exec .syncDone s = .next s) ∧
    (y.start + y.length ≤ s.now + 1 → y.writing = [] → (∀ b ∈ y.blocks, b ∈ y.copied) → ∃ t : State, exec .syncDone s = .next t ∧
      t.obj Obj.SHD_STATE = 0 ∧ t.shadow.sync = none ∧ t.changes = s.changes ++ [⟨Ev.SYNC_DONE.code, false, s.nextTick,
        contentOf Ev.SYNC_DONE.widths [y.length, y.blocks.length - y.regenerated, y.regenerated]⟩]) ∧
    (∀ b due : Nat, y.writing = [(b, due)] → due ≤ s.now → ∃ y', s.copyEngine.shadow.sync = some y' ∧ b ∈ y'.copied ∧ y'.writing = [] ∧
      s.copyEngine.obj (Obj.SIO_REGEN 0) = u64 (s.obj (Obj.SIO_REGEN 0) + 1) ∧
      ∀ active : Bool, (s.copyEngine.page 0 (s.cmPage active b)).bad = false) ∧
    ∀ (page : Fin 32) (block : Fin 245) (ticks : Nat),
      let b := 245 * page.val + block.val
      let d := max 1 (min ticks 20)
      (b ∈ s.cmBadBlocks ∧ b ∈ y.blocks ∧ b ∉ y.copied ∧ (∀ w ∈ y.writing, w.1 ≠ b) ∧ y.start + 4 ≤ s.now →
        exec (.blockRegenerate page block ticks) s = .next (s.withShadow fun h => { h with sync := some { y with
          length := y.length + d, regenerated := y.regenerated + 1, writing := y.writing ++ [(b, s.now + d)] } })) ∧
      (b ∉ s.cmBadBlocks ∨ b ∉ y.blocks ∨ b ∈ y.copied ∨ (∃ w ∈ y.writing, w.1 = b) ∨ s.now < y.start + 4 →
        exec (.blockRegenerate page block ticks) s = .next s))

/-- SMX_MESSAGE_RECEIVE, SMX_TARGET_MULTIFRAME, LCR_MESSAGE_RECEIVE, LCR_RESIZE_MULTIFRAME, LINE_CHG_TIMEOUT, LINE_CHG_RETRY. -/
def Obligations.LineChangesFollowTheExchange : Prop :=
  ∀ (e : Fin 4) (s : State),
  let g := s.linkOf e
  (∀ m : SmxMessage,
    (m.crcOk = false ∨ m.version ≠ 1 ∨ s.obj (Obj.OH_FFF_RX_ENABLE e) ≠ 1 → exec (.smxMessageReceive e m) s = .next s) ∧
    (m.crcOk = true → m.version = 1 → s.obj (Obj.OH_FFF_RX_ENABLE e) = 1 → m.answer = false → m.op = 1 →
      ∃ t : State, exec (.smxMessageReceive e m) s = .next t ∧ t = { s with shadow := t.shadow } ∧
        Map.get none t.shadow.answers (Key.unit g) = some ⟨(s.judgeRequest g m).1, m.move, m.target, (s.judgeRequest g m).2.1⟩ ∧
        ((∀ p ∈ connsOf s.act, s.onEngine g p.2.src = true → p.2.srcTpn ≠ m.tpn) →
          Map.get none t.shadow.answers (Key.unit g) = some ⟨4, m.move, m.target, 1⟩)) ∧
    ∀ i c, m.crcOk = true → m.version = 1 → s.obj (Obj.OH_FFF_RX_ENABLE e) = 1 → m.answer = true →
      s.ownMoves g = [(i, c)] → c.move = m.move →
      ∃ t : State, exec (.smxMessageReceive e m) s = .next t ∧
        (m.op = 2 → m.target = c.target → c.state = 1 → t.change g i = some { c with acked := true }) ∧
        (m.op = 4 → ∃ cause, t.change g i = some { c with state := 3, cause := cause, acked := false, commits := 0 })) ∧
  (∀ (i : Nat) (c : LineChange) (count : Nat), s.ownMoves g = [(i, c)] → ∃ t : State, exec (.smxTargetMultiframe e true count) s = .next t ∧
    Map.get 0 t.shadow.multiframe (Key.unit g) = count % 65536 ∧
    (c.state = 2 → c.target = count % 65536 → t.change g i = none ∧
      t.changes = s.changes ++ [⟨Ev.LINE_CHG_DONE.code, false, s.tick, contentOf Ev.LINE_CHG_DONE.widths [g, c.conn, c.kind]⟩]) ∧
    (c.state = 1 → c.target = (count + 1) % 65536 → t.change g i = some (if c.acked then { c with state := 2 }
      else { c with target := (count + s.obj (Obj.SMX_LEAD g)) % 65536 }))) ∧
  (∀ (m : LcrMessage) (i : Nat) (c : LineChange), s.changesOf g = [(i, c)] → c.kind = 1 → c.tpn = m.tpn → c.state ≠ 3 → c.begins ≤ s.now →
    ∃ t : State, exec (.lcrMessageReceive e m) s = .next t ∧
      (m.nack = true → t.change g i = some { c with state := 3, cause := 6, acked := false, commits := 0 }) ∧
      (m.nack = false → resizeSlots c = (m.add, m.first, m.count) →
        t.change g i = some { c with acked := true, state := 2, target := m.multiframe } ∧
        Map.get none t.shadow.lcrAnswers (Key.unit g) = some ⟨2, 0, m.multiframe, 0⟩) ∧
      (m.nack = false → resizeSlots c ≠ (m.add, m.first, m.count) → t.shadow.changes = s.shadow.changes ∧
        Map.get none t.shadow.lcrAnswers (Key.unit g) = some ⟨4, 0, m.multiframe, 2⟩)) ∧
  (∀ (i : Fin 16) (c : LineChange), s.change g i = some c →
    (∀ count : Nat, c.kind = 1 → c.acked = true → c.state ≠ 3 → c.target = count → ∃ t : State,
      exec (.lcrResizeMultiframe e i count) s = .next t ∧ t.change g i = none ∧ (∀ j, j ≠ i.val → t.change g j = s.change g j)) ∧
    ∀ multiframes : Nat, exec (.lineChgTimeout e i multiframes) s = .next (
      if c.state ≠ 3 ∧ s.obj (Obj.SMX_TIMEOUT g) ≤ multiframes then s.failChange g i c 5 else s)) ∧
  ∀ (rq : Rq) (x : Sender) (val v : Val), Accepted rq x (Obj.LINE_CHG_RETRY e) val v s →
    let u := s.served rq x
    (∀ c, s.change g v.v = some c → c.state = 3 → v.v < 16 → exec (.lineChgRetry rq e val) s = .next ((u.setChange g v.v { c with
      state := 1, cause := 0, acked := false, commits := 0
      target := (Map.get 0 s.shadow.multiframe (Key.unit g) + s.obj (Obj.SMX_LEAD g)) % 65536 }).answered rq)) ∧
    ((∀ c, s.change g v.v = some c → c.state ≠ 3 ∨ 16 ≤ v.v) → exec (.lineChgRetry rq e val) s = .next (u.deliver rq Op.write .range []))

/-- HOLDOFF_EXPIRE, WTR_EXPIRE, PSC_HOLD_EXPIRE. -/
def Obligations.ProtectionGroupsSwitch : Prop :=
  ∀ (g : Fin 65536) (s : State),
  let c := groupAt s.act g
  let v := s.nextView
  let r := s.pgRun g
  c.valid = true → isSet c = false → usesAps c = false → s.active (Obj.PG_CMD g) = 0 → v.sf c c.pointP = false → v.sd c c.pointP = false →
  (∀ h, r.holdFrom = some h → h + c.holdOff ≤ s.now + 1 → v.sf c c.pointW = true → ∃ t : State, exec (.holdoffExpire g) s = .next t ∧
    (t.pgRun g).request = 8 ∧ (t.pgRun g).selector = true ∧ g.val ∈ t.prot.published ∧
    t.obj (Obj.PG_SWITCH_COUNT g) = (if r.selector = true then s.obj (Obj.PG_SWITCH_COUNT g) else sat32 (s.obj (Obj.PG_SWITCH_COUNT g) + 1)) ∧
    (∀ j, j ≠ g.val → t.pgRun j = s.pgRun j) ∧ t = { s with reg := t.reg, prot := t.prot, changes := t.changes }) ∧
  (v.sf c c.pointW = false → v.sd c c.pointW = false → c.psc = 0 →
    (∀ w, r.wtrFrom = some w → w + c.wtr ≤ s.now + 1 → r.request = 3 → r.fop = 0 → r.dnr = false → r.pscFrom = none → ∃ t : State, exec (.wtrExpire g) s = .next t ∧
      (t.pgRun g).request = 0 ∧ (t.pgRun g).selector = false ∧ (t.pgRun g).wtrFrom = none ∧
      (r.bridge = false → g.val ∉ t.prot.published)) ∧
    ∀ p, r.pscFrom = some p → p + s.active Obj.PG_PSC_HOLD ≤ s.now + 1 → r.request = 6 → r.own = 6 → r.wtrFrom = none →
      ∃ t : State, exec (.pscHoldExpire g) s = .next t ∧ (t.pgRun g).pscFrom = none ∧ (t.pgRun g).selector = true ∧
        (t.pgRun g).request = (if c.revertive then 3 else 1) ∧
        (c.revertive = true → (t.pgRun g).wtrFrom = some (s.now + 1)))

/-- APS_RECEIVE, FOP_MISMATCH_TIMEOUT, REMOTE_RECORD_RECEIVE, REMOTE_STALE. -/
def Obligations.ProtectionMessagesArrive : Prop :=
  ∀ s : State,
  (∀ (g : Fin 65536) (a : ApsValue),
    let c := groupAt s.act g
    let r := s.pgRun g
    (c.valid = false ∨ sendsAps c = false ∨ (c.type ≤ 4 ∧ a.mfas % 8 ≠ apsLevel c) → exec (.apsReceive g a) s = .next s) ∧
    (c.valid = true → sendsAps c = true → (isSet c = true → headOf c = g.val) → (c.type ≤ 4 → a.mfas % 8 = apsLevel c) →
      (a.raw ≠ r.aps.last → exec (.apsReceive g a) s = .next (s.setPgRun g { r with aps := { r.aps with last := a.raw, run := 1 } })) ∧
      (a.raw = r.aps.last → 2 ≤ r.aps.run → r.fop = 0 → ∃ t : State, exec (.apsReceive g a) s = .next t ∧
        (a.valid = false → (t.pgRun g).fop = 3 ∧ t.declared Df.fop g = true ∧ (t.pgRun g).aps.accepted = r.aps.accepted) ∧
        (a.valid = true → t.obj (Obj.PG_APS_RX g) = a.raw ∧ ((t.pgRun g).aps.accepted.head?.map (·.raw)) = some a.raw ∧
          (a.provisioned = false → (t.pgRun g).fop = 1 ∧ t.declared Df.fop g = true) ∧
          (a.provisioned = true → (t.pgRun g).fop = 0))))) ∧
  (∀ (g : Fin 65536) (d : Nat), (s.pgRun g).aps.mismatchSince = some d → (s.pgRun g).fop = 0 → d + 40000 ≤ s.now →
    ∃ t : State, exec (.fopMismatchTimeout g) s = .next t ∧ (t.pgRun g).fop = 2 ∧ t.declared Df.fop g = true ∧
      ⟨Ev.PG_FOP.code, false, s.tick, contentOf Ev.PG_FOP.widths [g, 2]⟩ ∈ t.changes) ∧
  (∀ (node index : Fin 64) (tick record : Nat), ∃ t : State, exec (.remoteRecordReceive node index tick record) s = .next t ∧
    t = { s with prot := t.prot } ∧ ∀ r, r < 64 →
      let entry := s.active (Obj.PG_REMOTE r)
      let old := Map.get {} s.prot.remotes (Key.unit r)
      let takes := entryOn entry = true ∧ field entry 29 24 = node.val ∧ field entry 21 16 = index.val ∧
        (old.stale = true ∨ old.tick = none ∨ ∃ b, old.tick = some b ∧ laterTick tick b = true)
      (takes → Map.get {} t.prot.remotes (Key.unit r) = ⟨record % 2 ^ 16, some (tick % 2 ^ 24), s.now, false⟩) ∧
      (¬ takes → Map.get {} t.prot.remotes (Key.unit r) = old)) ∧
  ∀ r : Fin 64,
    let entry := s.active (Obj.PG_REMOTE r)
    let old := Map.get {} s.prot.remotes (Key.unit r)
    exec (.remoteStale r) s = .next (if entryOn entry = true ∧ old.stale = false ∧ old.updated + 65 ≤ s.now
      then (s.withProt fun p => { p with remotes := Map.set {} p.remotes (Key.unit r) { old with stale := true } }).raise Ev.REMOTE_STALE
        [960 + r, field entry 29 24] else s)

/-- MM_FRAME_COMPLETE, MM_AUTO_RETIME, MM_RETIME, HBM_FAILURE, HBM_RETURN. -/
def Obligations.MirrorMergeAligns : Prop :=
  ∀ s : State,
  (∀ (m : Fin 2048) (protect : Bool) (f : OduFrame), s.mmGroup m = none → exec (.mmFrameComplete m protect f) s = .next s) ∧
  (∀ (m : Fin 2048) (f : OduFrame) (n : Nat) (g : Group) (q : Nat) (d : Int),
    let r := s.mm m
    s.mmGroup m = some (n, g) → f.seq = some q → f.uncorrected = false → f.maintenance = false → s.mmState m = 1 →
    s.prot.hbmFault = false → r.noseq = false → r.noseqP < 64 → r.delay = false → r.retime = false → (∃ l, r.lastW = some l ∧ q = (l + 1) % 2 ^ 32) →
    7 ≤ r.runW → 8 ≤ r.runP → r.diffs = List.replicate 8 d → (∀ x ∈ r.seenP, x.1 ≠ q) →
    ∃ t : State, exec (.mmFrameComplete m false f) s = .next t ∧
      (d.natAbs ≤ mergeDelay g → t.mmState m = 2 ∧ t.mmEarly m = decide (d < 0) ∧ t.mmDelta m = d.natAbs) ∧
      (mergeDelay g < d.natAbs → t.mmState m = 3 ∧ (t.mm m).delay = true)) ∧
  (∀ (m : Fin 2048) (f : OduFrame) (n : Nat) (g : Group), s.mmGroup m = some (n, g) → f.seq = none → f.uncorrected = false → f.maintenance = false →
    (s.pointBits g.pointW).ssf = false → (s.pointBits g.pointW).tsf = false → s.prot.spoilt.contains (m.val, false) = false → s.mmState m ≠ 0 → (s.mm m).noseq = false →
    (s.mm m).noseqW = 63 → 64 ≤ (s.mm m).noseqP →
    ∃ t : State, exec (.mmFrameComplete m false f) s = .next t ∧ t.mmState m = 3 ∧ (t.mm m).noseq = true ∧ t.mmCause m = 1) ∧
  (∀ (m : Fin 2048) (n : Nat) (g : Group) (since : Nat), s.mmGroup m = some (n, g) → (s.mm m).lateSince = some since → s.mmState m = 2 →
    let r := s.mm m
    let new := (r.diffs.headD 0).natAbs
    (s.now < since + s.obj Obj.MM_RETIME_WAIT → exec (.mmAutoRetime m) s = .next s) ∧
    (since + s.obj Obj.MM_RETIME_WAIT ≤ s.now → s.obj Obj.MM_AUTO_RETIME = 1 → new ≤ mergeDelay g → ∀ d ds, r.diffs = d :: ds →
      ∃ t : State, exec (.mmAutoRetime m) s = .next t ∧ t.mmState m = 2 ∧ t.mmEarly m = decide (d < 0) ∧ t.mmDelta m = d.natAbs ∧
        (t.mm m).lateSince = none ∧ (t.mm m).notValid = r.notValid + (d.natAbs - s.mmDelta m) ∧
        ⟨Ev.MM_RETIME.code, false, s.tick, contentOf Ev.MM_RETIME.widths [m, s.mmDelta m, d.natAbs]⟩ ∈ t.changes) ∧
    (since + s.obj Obj.MM_RETIME_WAIT ≤ s.now → s.obj Obj.MM_AUTO_RETIME ≠ 1 ∨ mergeDelay g < new →
      exec (.mmAutoRetime m) s = .next (if r.lateReported then s
        else (s.withMm m fun r => { r with lateReported := true }).raise Ev.MM_LATE [m, r.lateCopy.toNat, new - s.mmDelta m]))) ∧
  (∀ (rq : Rq) (x : Sender) (val v : Val), Accepted rq x Obj.MM_RETIME val v s → exec (.mmRetime rq val) s =
    .next (((s.served rq x).withMm v.v fun r => { r with retime := true }).answered rq)) ∧
  (∀ reads : Option Nat, (∀ n, reads = some n → s.obj Obj.MM_HBM_ERR_LIMIT < n) → s.prot.hbmFault = false →
    ∃ t : State, exec (.hbmFailure reads) s = .next t ∧ t.prot.hbmFault = true ∧
    ∀ n g, mergeGroups s.act = [(n, g)] → s.mmState (mergeIndex g) ≠ 0 → t.mmState (mergeIndex g) = 3 ∧
      (t.mm (mergeIndex g)).framesW = [] ∧ (t.mm (mergeIndex g)).framesP = []) ∧
  (s.domOn 16 = true → s.prot.hbmFault = true → ∃ t : State, exec .hbmReturn s = .next t ∧ t.prot.hbmFault = false ∧
    ∀ n g, mergeGroups s.act = [(n, g)] → s.mmState (mergeIndex g) = 3 → (s.mm (mergeIndex g)).noseq = false →
      (s.mm (mergeIndex g)).delay = false → t.mmState (mergeIndex g) = 1)

/-- SEC_MAP, SEC_KEY_INSTALL, SEC_ROLL, SEC_ZEROISE, KEY_DEFERRED_PROCEED. -/
def Obligations.KeyStoreWrites : Prop :=
  ∀ (rq : Rq) (x : Sender) (val v : Val) (s : State),
  let u := s.served rq x
  let refused := fun st => State.deliver u rq Op.write st []
  (∀ index, Accepted rq x (Obj.SEC_MAP index) val v s → exec (.secMapWrite rq index val) s = .next (
    if u.mapUsed index = true then refused .precond else (u.stage (Obj.SEC_MAP index) v.v).answered rq)) ∧
  (∀ e : Fin 4, Accepted rq x (Obj.SEC_KEY_INSTALL e) val v s →
    let ch := bytesOf 44 v.v 0 2
    let side := bytesOf 44 v.v 2 1
    let epoch := bytesOf 44 v.v 4 3
    let k : SecKey := ⟨epoch, bytesOf 44 v.v 8 36⟩
    let c := s.secChan e ch
    let current := if side = 1 then c.rxCurrent else c.txCurrent
    let good := ch < 1024 ∧ side ≤ 1 ∧ epoch = epochAfter current ∧ (current.isSome = true → epoch ≠ 0)
    (¬ good → exec (.secKeyInstall rq e val) s = .next (refused .range)) ∧
    (good → s.obj (Obj.SEC_KEY_SOURCE e) = 0 → exec (.secKeyInstall rq e val) s = .next (refused .precond)) ∧
    (good → s.obj (Obj.SEC_KEY_SOURCE e) ≠ 0 → side = 1 → c.announced = true → c.rxNext.isSome = true →
      exec (.secKeyInstall rq e val) s = .next (refused .busy)) ∧
    (good → s.obj (Obj.SEC_KEY_SOURCE e) ≠ 0 → side = 0 ∨ c.announced = false ∨ c.rxNext = none → ∃ t : State,
      exec (.secKeyInstall rq e val) s = .next (t.answered rq) ∧
      (s.obj Obj.PWR_WARN_ACTIVE = 0 → (if side = 1 then (t.secChan e ch).rxNext else (t.secChan e ch).txNext) = some k ∧
        (t.secChan e ch).txCurrent = c.txCurrent ∧ (t.secChan e ch).rxCurrent = c.rxCurrent) ∧
      (s.obj Obj.PWR_WARN_ACTIVE ≠ 0 → t.sec.deferred = s.sec.deferred ++ [.install e ch (decide (side = 1)) k] ∧
        (t.secChan e ch).deferred = true ∧ (t.secChan e ch).rxNext = c.rxNext ∧ (t.secChan e ch).txNext = c.txNext))) ∧
  (∀ e : Fin 4, Accepted rq x (Obj.SEC_ROLL e) val v s → ∃ t : State, exec (.secRoll rq e val) s = .next (t.answered rq) ∧
    let on := (s.txCfg e v.v).tx = true ∧ (s.txCfg e v.v).txEn = true ∧ (s.secChan e v.v).txCurrent.isSome = true
    (on → (t.secChan e v.v).rolling = true ∧ t = { u with sec := t.sec }) ∧ (¬ on → t = u)) ∧
  (Accepted rq x Obj.SEC_ZEROISE val v s → ∃ t : State, exec (.secZeroise rq val) s = .next (t.answered rq) ∧ t.sec.deferred = [] ∧
    (∀ e ch, let c := t.secChan e ch
      c.txCurrent = none ∧ c.txNext = none ∧ c.rxCurrent = none ∧ c.rxNext = none) ∧
    (∀ e, (t.link e).secret = none ∧ (t.link e).agreement = none) ∧ ∀ e : Fin 4, t.obj (Obj.SEC_LINK_STATE e) = 0) ∧
  (s.obj Obj.PWR_WARN_ACTIVE ≠ 0 → exec .keyDeferredProceed s = .next s) ∧
  (s.obj Obj.PWR_WARN_ACTIVE = 0 → ∃ t : State, exec .keyDeferredProceed s = .next t ∧ t.sec.deferred = [] ∧ t.sec.warned = false ∧
    ∀ e ch k, s.sec.deferred = [.install e ch true k] → (t.secChan e ch).rxNext = some k ∧ (t.secChan e ch).deferred = false)

/-- SEC_RX_FRAME, SEC_TX_FRAME, KEY_SWITCH. The ciphers are opaque (log entry 4): `sealFrame`, `openFrame` and `tagFits` say what goes into them. -/
def Obligations.SecureFramesAreChecked : Prop :=
  ∀ (e : Fin 4) (ch : Fin 1024) (s : State),
  let c := s.secChan e ch
  let rx := s.rxCfg e ch
  let tx := s.txCfg e ch
  (∀ f : SecFrame,
    (rx.rx = false → exec (.secRxFrame e ch f) s = .next s) ∧
    (rx.rx = true → f.maintenance = true ∨ s.sectionFail e = true → exec (.secRxFrame e ch f) s =
      .next (s.withChan e ch fun x => { x with delivered := some f.body, passing := some f.body })) ∧
    (rx.rx = true → f.maintenance = false → s.sectionFail e = false →
      (c.accepts rx.rxPol f.body = false → ∃ t : State, exec (.secRxFrame e ch f) s = .next t ∧
        t.obj (Obj.SEC_REJECT e ch) = u64 (s.obj (Obj.SEC_REJECT e ch) + 1) ∧ (t.secChan e ch).failRun = min 3 (c.failRun + 1) ∧
        (t.secChan e ch).goodRun = 0 ∧ (2 ≤ c.failRun → t.declared Df.auth (1024 * e + ch) = true) ∧ (t.secChan e ch).rxCurrent = c.rxCurrent ∧
        (t.secChan e ch).delivered = c.delivered ∧ let d := if rx.verifyFirst then f.ticks else 0
        (s.now + 1 + d, s.now + 1 + f.ticks + d) ∈ (t.secChan e ch).blanks) ∧
      (c.accepts rx.rxPol f.body = true → f.body.enc = false →
        exec (.secRxFrame e ch f) s = .next ((s.withChan e ch fun x => { x with failRun := 0, goodRun := 0 }).withChan e ch fun x =>
          { x with delivered := some f.body, passing := some f.body })) ∧
      (∀ next k, c.accepts rx.rxPol f.body = true → f.body.enc = true → 0 < f.ticks → c.keyFor f.body.ki = some (next, k) →
        exec (.secRxFrame e ch f) s = .next (State.plan (if rx.verifyFirst then s else s.withChan e ch fun x =>
          { x with passing := some (openFrame k f.body) }) (s.now + f.ticks) (.secTag e ch rx.verifyFirst f.ticks f.body))) ∧
      (∀ next k, c.accepts rx.rxPol f.body = true → f.body.enc = true → f.ticks = 0 → c.keyFor f.body.ki = some (next, k) →
        (∀ x, c.ended = some x → x.at_ ≤ s.now) → ∃ t : State,
        exec (.secRxFrame e ch f) s = .next t ∧
        (tagFits k f.body = true → (t.secChan e ch).lastFc = some f.body.fc ∧ (t.secChan e ch).failRun = 0 ∧
          (t.secChan e ch).goodRun = min 8 (c.goodRun + 1) ∧ (7 ≤ c.goodRun → t.declared Df.auth (1024 * e + ch) = false) ∧
          (t.secChan e ch).rxCurrent = (if next then some k else c.rxCurrent) ∧
          ∃ b, (t.secChan e ch).delivered = some b ∧ b.soh = 0 ∧ b.payload % 256 ^ 16 = 0 ∧ b.mirror = f.body.mirror ∧ b.psi = f.body.psi ∧
            b.payload / 256 ^ 16 = bytesOf 15216 (Config.gcmDecrypt k.key (frameIv k f.body.fc) (f.body.payload / 256 ^ 16)) 0 15216) ∧
        (tagFits k f.body = false → t.obj (Obj.SEC_AUTH_FAIL e ch) = u64 (s.obj (Obj.SEC_AUTH_FAIL e ch) + 1) ∧
          (t.secChan e ch).failRun = min 3 (c.failRun + 1) ∧ (2 ≤ c.failRun → t.declared Df.auth (1024 * e + ch) = true) ∧
          (t.secChan e ch).lastFc = c.lastFc ∧ (t.secChan e ch).rxCurrent = c.rxCurrent ∧ (t.secChan e ch).delivered = c.delivered)))) ∧
  (∀ (maintenance : Bool) (frame : OduBody), (tx.tx = false → exec (.secTxFrame e ch ⟨maintenance, frame⟩) s = .next s) ∧
    (tx.tx = true → c.eligible = none →
      (maintenance = true ∨ tx.txEn = false → exec (.secTxFrame e ch ⟨maintenance, frame⟩) s =
        .next (s.withChan e ch fun c => { c with soh := 0, iv := none, lck := false, sent := some { frame with soh := 0 } })) ∧
      (maintenance = false → tx.txEn = true → c.txCurrent = none → exec (.secTxFrame e ch ⟨maintenance, frame⟩) s =
        .next (s.withChan e ch fun c => { c with soh := 0, iv := none, lck := true, sent := none })) ∧
      (∀ k, maintenance = false → tx.txEn = true → c.txCurrent = some k →
        (c.fc < 2 ^ 39 → exec (.secTxFrame e ch ⟨maintenance, frame⟩) s = .next ((s.withChan e ch fun c => { c with
          soh := (k.epoch % 4 * 64 + 32) * 2 ^ 40 + c.fc, iv := some (k.material % 2 ^ 32 * 2 ^ 64 + k.epoch * 2 ^ 40 + c.fc)
          lck := false, fc := c.fc + 1, sent := some (sealFrame k c.fc frame) }).setObj (Obj.SEC_TX_FC e ch) c.fc)) ∧
        (2 ^ 39 ≤ c.fc → c.fc < 2 ^ 40 → ∃ t : State, exec (.secTxFrame e ch ⟨maintenance, frame⟩) s = .next t ∧
          (t.secChan e ch).fc = c.fc + 1 ∧ (t.secChan e ch).sent = some (sealFrame k c.fc frame) ∧ (t.secChan e ch).lck = false ∧
          (t.secChan e ch).rekeyDue = true ∧ t.obj (Obj.SEC_TX_FC e ch) = c.fc ∧
          (c.rekeyDue = false → ⟨Ev.REKEY_DUE.code, false, s.tick, contentOf Ev.REKEY_DUE.widths [e, ch, k.epoch]⟩ ∈ t.changes)) ∧
        (2 ^ 40 ≤ c.fc → ∃ t : State, exec (.secTxFrame e ch ⟨maintenance, frame⟩) s = .next t ∧ (t.secChan e ch).lck = true ∧
          (t.secChan e ch).sent = none ∧ (t.secChan e ch).fc = c.fc ∧ (t.secChan e ch).iv = none ∧
          t.declared Df.keyExh (1024 * e + ch) = true)))) ∧
  (∀ (k : SecKey) (fc : Nat) (frame : OduBody), fc < 2 ^ 40 → let b := sealFrame k fc frame
    b.enc = true ∧ b.ki = k.epoch % 4 ∧ b.fc = fc ∧ b.mirror = frame.mirror ∧ b.psi = frame.psi ∧ tagFits k b = true) ∧
  ∀ since k, c.eligible = some since → c.txNext = some k →
    (s.now ≤ since → exec (.keySwitch e ch) s = .next s) ∧
    (since < s.now → s.obj Obj.PWR_WARN_ACTIVE = 0 → ∃ t : State, exec (.keySwitch e ch) s = .next t ∧
      (t.secChan e ch).txCurrent = some k ∧ (t.secChan e ch).fc = 0 ∧ (t.secChan e ch).rolling = false ∧
      t.declared Df.keyExh (1024 * e + ch) = false ∧
      ⟨Ev.KEY_LIVE.code, false, s.tick, contentOf Ev.KEY_LIVE.widths [e, ch, k.epoch, s.obj (Obj.SEC_KEY_SOURCE e)]⟩ ∈ t.changes) ∧
    (since < s.now → s.obj Obj.PWR_WARN_ACTIVE ≠ 0 → ∃ t : State, exec (.keySwitch e ch) s = .next t ∧
      (t.secChan e ch).txCurrent = c.txCurrent ∧ (t.secChan e ch).txNext = some k ∧ (t.secChan e ch).deferred = true)

/-- SEC_LINK_START, KA_HELLO, KA_EK, KA_CT, KA_CONFIRM, KA_READY, KA_ABORT, KA_TIMEOUT, KA_RETRY, LINK_SECRET_EXPIRE, ENTROPY_FAIL, ENTROPY_RECOVER.
Whether a signature, a digest or a confirmation holds is a free value (log entry 4), so both outcomes are stated. -/
def Obligations.KeyAgreementRunsItsMessages : Prop :=
  ∀ (e : Fin 4) (s : State), s.linkOf e = e →
  let l := s.link e
  (∀ (rq : Rq) (x : Sender) (val v : Val), Accepted rq x (Obj.SEC_LINK_START e) val v s → ∃ t : State,
    exec (.secLinkStart rq e val) s = .next (t.answered rq) ∧
    (l.agreement.isSome = true → t = s.served rq x) ∧
    (l.agreement = none → s.obj Obj.SEC_ENTROPY_STATE = 1 → t = (s.served rq x).failKa e 3) ∧
    (l.agreement = none → s.obj Obj.SEC_ENTROPY_STATE ≠ 1 → s.obj (Obj.SEC_PEER_ID e) = 0 → t = (s.served rq x).failKa e 1) ∧
    (l.agreement = none → s.obj Obj.SEC_ENTROPY_STATE ≠ 1 → s.obj (Obj.SEC_PEER_ID e) ≠ 0 → ∃ a, (t.link e).agreement = some a ∧
      a.start = s.now ∧ a.peer = none ∧ a.secret = none ∧ t.fresh = s.fresh + 1 ∧ (t.link e).retryAt = none ∧
      (t.link e).outbox = l.outbox ++ [.hello (s.obj Obj.DEV_ID_KEY) a.nonce] ∧ ∀ i ∈ s.bond e, t.obj (Obj.SEC_LINK_STATE i) = 1)) ∧
  (∀ cause : Nat, let t := s.failKa e cause
    (t.link e).agreement = none ∧ (t.link e).retryAt = some (s.now + 8000000) ∧ (t.link e).secret = l.secret ∧
    (∀ i ∈ s.bond e, t.obj (Obj.SEC_KA_CAUSE i) = cause ∧ t.obj (Obj.SEC_LINK_STATE i) = 3) ∧
    t.changes = s.changes ++ [⟨Ev.KA_FAIL.code, false, s.tick, contentOf Ev.KA_FAIL.widths [e, cause]⟩]) ∧
  (∀ (a : Agreement) (key nonce : Nat), l.agreement = some a → a.peer = none → ∃ t : State, exec (.kaHello e key nonce) s = .next t ∧
    if Config.shake256 32 [⟨1952, key⟩] = s.obj (Obj.SEC_PEER_ID e) then ∃ b, (t.link e).agreement = some b ∧ b.peer = some (key, nonce) ∧
      b.initiator = decide (s.obj Obj.DEV_ID_DIGEST < Config.shake256 32 [⟨1952, key⟩]) ∧ b.nonce = a.nonce
    else t = s.failKa e 1) ∧
  (∀ (a : Agreement) (peer : Nat × Nat) (key signature : Nat), l.agreement = some a → a.peer = some peer → a.secret = none →
    (a.initiator = false →
      let t2 := transcript2 peer (s.obj Obj.DEV_ID_KEY, a.nonce) key
      let t3 := transcript3 t2 (Config.kemCiphertext key s.free)
      let k := linkSecret (Config.kemSecret key s.free) t3
      ∃ t : State, exec (.kaEk e key signature) s = .next t ∧
        if Config.mlDsaVerify peer.1 t2 signature = true then (t.link e).agreement = some { a with t2 := t2, t3 := t3, secret := some k } ∧
          ∃ sig, (t.link e).outbox = l.outbox ++ [.ct (Config.kemCiphertext key s.free) sig, .confirm (confirmation 1 k t3)]
        else t = s.failKa e 2) ∧
    (a.initiator = true →
      let t3 := transcript3 a.t2 key
      let k := linkSecret (Config.kemDecaps a.draw key) t3
      exec (.kaCt e key signature) s = .next (if Config.mlDsaVerify peer.1 t3 signature = true
        then (s.setKa e { a with t3 := t3, secret := some k }).send e (.confirm (confirmation 0 k t3)) else s.failKa e 2))) ∧
  (∀ (a : Agreement) (peer : Nat × Nat) (k value : Nat), l.agreement = some a → a.peer = some peer → a.secret = some k →
    s.obj Obj.PWR_WARN_ACTIVE = 0 → s.linkChannels e = [] → ∃ t : State, exec (.kaConfirm e value) s = .next t ∧
      if value = confirmation (if a.initiator then 1 else 0) k a.t3 then
        (t.link e).secret = some ⟨k, a.initiator, Config.shake256 32 [⟨1952, peer.1⟩], s.now⟩ ∧ (t.link e).agreement = none ∧
        ∀ i ∈ s.bond e, t.obj (Obj.SEC_LINK_STATE i) = 2
      else t = s.failKa e 2) ∧
  (∀ (tpn d epoch check i ch : Nat) (k : LinkSecret), s.linkChannels e = [(i, ch)] → (s.txCfg i ch).tx = true → s.halfTpn i ch false = tpn →
    s.linkOf i = e → l.secret = some k → d = (if k.initiator then 0 else 1) →
    ∃ t : State, exec (.kaReady e tpn d epoch check) s = .next t ∧ (t.secChan i ch).heard = some (epoch, check) ∧ t = { s with sec := t.sec }) ∧
  (∀ cause : Nat, exec (.kaAbort e cause) s = .next (if l.agreement.isSome then s.failKa e 5 else s)) ∧
  (∀ a : Agreement, l.agreement = some a → exec (.kaTimeout e) s = .next (if a.start + 800000 ≤ s.now then s.failKa e 4 else s)) ∧
  (∀ t : Nat, l.retryAt = some t → exec (.kaRetry e) s = .next (if t ≤ s.now then s.startKa e else s)) ∧
  (∀ k : LinkSecret, l.secret = some k → exec (.linkSecretExpire e) s =
    .next (if k.since + s.obj (Obj.SEC_LINK_LIFE e) * 800000 ≤ s.now then s.startKa e else s)) ∧
  (∀ test : Nat, ∃ t : State, exec (.entropyFail test) s = .next t ∧ t.obj Obj.SEC_ENTROPY_STATE = 1 ∧
    (s.sec.links = [(Key.unit e, l)] → l.agreement.isSome = true → (t.link e).agreement = none ∧ t.obj (Obj.SEC_KA_CAUSE e) = 3)) ∧
  ∀ windows : Nat, exec (.entropyRecover windows) s = .next (if 1024 ≤ windows then s.setObj Obj.SEC_ENTROPY_STATE 0 else s)

/-- REF_FAIL, REF_FAIL_CLEAR, REF_CHECK, REF_QUALIFY, PPS_EDGE, ESMC_PDU_RECEIVE, S1_RECEIVE, ESMC_TIMEOUT, ESMC_INFO_TX. The slope of a drift window
is a free value (log entry 219), so both outcomes are stated. -/
def Obligations.ReferencesFailAndQualify : Prop :=
  ∀ s : State,
  (∀ (r : Fin 20) (missing : Nat), let holds := s.refCondition r = some true ∨ (s.refCondition r = none ∧ s.edgeLimit r ≤ missing)
    (¬ holds → exec (.refFail r missing) s = .next s) ∧
    (holds → s.obj (Obj.TM_REF_STATE r) ≠ 0 → ∃ t : State, exec (.refFail r missing) s = .next t ∧ t.obj (Obj.TM_REF_STATE r) = 0 ∧
      t.obj (Obj.TM_REF_QL r) = 0 ∧ (t.ref r).lostAt = s.now ∧
      (∀ d : Fin 4, s.obj (Obj.TM_DP_SELECTED d) = r.val → (t.dpll d).frozen = true) ∧
      ⟨Ev.REF_STATE.code, false, s.tick, contentOf Ev.REF_STATE.widths [r, s.obj (Obj.TM_REF_STATE r), 0]⟩ ∈ t.changes)) ∧
  (∀ (r : Fin 20) (run : Nat), s.refCondition r ≠ some true → (if r.val < 18 then 8 else 2) ≤ run → ∃ t : State,
    exec (.refFailClear r run) s = .next t ∧ (s.obj (Obj.TM_REF_STATE r) ≠ 0 → t = s) ∧
    (s.obj (Obj.TM_REF_STATE r) = 0 → let offsetsPass := (s.ref r).xoSince = none ∧ (s.ref r).peerSince = none
      (offsetsPass → t.obj (Obj.TM_REF_STATE r) = (if s.lockedOut r then 1 else 2) ∧ (t.ref r).qualifyFrom = s.now) ∧
      (¬ offsetsPass → t.obj (Obj.TM_REF_STATE r) = 0 ∧ (t.ref r).cleared = true))) ∧
  (∀ (r : Fin 20) (measured : Int) (fresh : Bool) (since : Nat),
    let offset := if fresh then measured else s.objInt (Obj.TM_REF_FOFF r)
    let drift := if fresh then (s.sampleRef r measured).driftOf r else s.objInt (Obj.TM_REF_DRIFT r)
    let above := s.obj Obj.TM_DRIFT_RATE * 10 < drift.natAbs
    2 ≤ s.obj (Obj.TM_REF_STATE r) → offset.natAbs ≤ s.obj Obj.TM_FOFF_XO * 1000 → (s.peerOffsets r).length < 2 → s.lockedOut r = false →
    (s.ref r).driftSince = some since → since + s.obj Obj.TM_DRIFT_SOAK * 800000 ≤ s.now →
    ∃ t : State, exec (.refCheck r measured fresh) s = .next t ∧
      (fresh = true → t.obj (Obj.TM_REF_FOFF r) = encode 4 offset ∧ t.obj (Obj.TM_REF_DRIFT r) = encode 4 drift) ∧
      (above → t.obj (Obj.TM_REF_STATE r) = 1 ∧ t.obj (Obj.TM_REF_DQ_TICK r) = s.tick ∧ (t.ref r).lostAt = s.now ∧
        ⟨Ev.REF_DISQUAL.code, false, s.tick, contentOf Ev.REF_DISQUAL.widths [r, 3, encode 4 drift]⟩ ∈ t.changes) ∧
      (¬ above → t.obj (Obj.TM_REF_STATE r) = s.obj (Obj.TM_REF_STATE r) ∧ (t.ref r).driftSince = none ∧ t.changes = s.changes)) ∧
  (∀ (r : Fin 20) (measured : Int) (since : Nat), 2 ≤ s.obj (Obj.TM_REF_STATE r) → s.obj Obj.TM_XO_STATE = 0 →
    s.obj Obj.TM_FOFF_XO * 1000 < measured.natAbs → (s.ref r).xoSince = some since → since + s.obj Obj.TM_FOFF_SOAK * 80000 ≤ s.now →
    ∃ t : State, exec (.refCheck r measured true) s = .next t ∧ t.obj (Obj.TM_REF_STATE r) = 1 ∧ t.obj (Obj.TM_REF_DQ_TICK r) = s.tick ∧
      ⟨Ev.REF_DISQUAL.code, false, s.tick, contentOf Ev.REF_DISQUAL.widths [r, 1, encode 4 measured]⟩ ∈ t.changes) ∧
  (∀ r : Fin 20, let due := s.obj (Obj.TM_REF_STATE r) = 2 ∧ (s.ref r).qualifyFrom + s.obj (Obj.TM_REF_WTR r) * 800000 ≤ s.now
    (due → ∃ t : State, exec (.refQualify r) s = .next t ∧ t.obj (Obj.TM_REF_STATE r) = 3) ∧
    (¬ due → exec (.refQualify r) s = .next s)) ∧
  (∀ (p : Fin 2) (error : Int), let r := 18 + p.val
    (s.obj (Obj.TM_PPS_WIN r) < (s.compensated r error).natAbs → 1 ≤ (s.ref r).outside → ∃ t : State, exec (.ppsEdge p error) s = .next t ∧
      t.obj (Obj.TM_REF_STATE r) = 0 ∧ (t.ref r).inside = 0) ∧
    ((s.compensated r error).natAbs ≤ s.obj (Obj.TM_PPS_WIN r) → s.obj (Obj.TM_REF_STATE r) ≠ 0 ∨ (s.ref r).inside = 0 →
      exec (.ppsEdge p error) s =
        .next ((s.withRef r fun x => { x with inside := x.inside + 1, outside := 0 }).ppsAlign p (s.compensated r error)))) ∧
  (∀ (l : Fin 64) (ssm : Fin 16) (essm : Option Nat) (mode : Nat) (c : Instr) (level : Option Nat), let f := s.clientAt l
    (mode, c, level) = (1, .esmcPduReceive l ssm essm, essm) ∧ isEthernet (s.clientType f) = true ∧ s.oduForm f = false ∨
      (mode, c, level) = (2, .s1Receive l ssm, none) ∧ isStm (s.clientType f) = true →
    ∃ t : State, exec c s = .next t ∧ ∀ k : Fin 8,
      let r := 4 + k.val
      (∀ x, s.refLane r = some x → s.clientAt x = f → s.obj (Obj.TM_REF_QL_MODE r) = mode →
        (t.ref r).ssm = some ssm.val ∧ (t.ref r).essm = level ∧ (t.ref r).lastPdu = some s.now ∧ (t.ref r).heardOn = some (x, mode) ∧
        t.obj (Obj.TM_REF_QL r) = (if s.obj (Obj.TM_REF_STATE r) = 0 then 0 else ssmLevel (s.obj Obj.TM_QL_OPTION) ssm level)) ∧
      ((∀ x, s.refLane r = some x → s.clientAt x ≠ f) ∨ s.obj (Obj.TM_REF_QL_MODE r) ≠ mode →
        t.ref r = s.ref r ∧ t.obj (Obj.TM_REF_QL r) = s.obj (Obj.TM_REF_QL r))) ∧
  (∀ r : Fin 20, s.obj (Obj.TM_REF_QL_MODE r) = 1 → (s.ref r).ssm.isSome = true → (s.ref r).lastPdu.getD 0 + 4000000 ≤ s.now →
    ∃ t : State, exec (.esmcTimeout r) s = .next t ∧ (t.ref r).ssm = none ∧ t.obj (Obj.TM_REF_QL r) = 0) ∧
  ∀ (l : Fin 64) (x : EsmcSent), let f := s.clientAt l
    isEthernet (s.clientType f) = true → s.oduForm f = false → s.obj (Obj.TM_ESMC_TX f) = 1 →
    Map.get none s.timing.esmc (Key.unit f) = some x →
    let level := s.egressLevel f
    let codes := levelCodes (s.obj Obj.TM_QL_OPTION) level
    ∃ t : State, exec (.esmcInfoTx l) s = .next t ∧ Map.get none t.timing.esmc (Key.unit f) = some (
      if x.level ≠ level then ⟨level, true, x.infoAt, codes.1, codes.2, s.now⟩
      else if x.infoAt + 800000 ≤ s.now then ⟨level, false, s.now, codes.1, codes.2, s.now⟩ else x)

/-- DPLL_SWITCH_COMMIT, DPLL_FREQUENCY_LOCK, SLEW_DONE, XO_FAIL, XO_RETURN, TM_TOD_SET, TOD_SECOND_ROLLOVER, TM_DP_PHASE_ADJ, the parameters of R362,
PTP_TIMESTAMP. -/
def Obligations.DpllsAndTimeOfDay : Prop :=
  ∀ (d : Fin 4) (s : State),
  let dp := s.obj (Obj.TM_DP_STATE d)
  let sel := s.obj (Obj.TM_DP_SELECTED d)
  (∀ (error : Int) (differs : Bool),
    (s.dpChange d = none → exec (.dpllSwitchCommit d error differs) s = .next (s.withDpll d fun x => { x with frozen := false })) ∧
    (∀ r, s.dpChange d = some (some r) → ∃ t : State, exec (.dpllSwitchCommit d error differs) s = .next t ∧
      t.obj (Obj.TM_DP_SELECTED d) = r ∧ t.obj (Obj.TM_DP_STATE d) = (if dp ∈ [0, 1, 5] ∨ differs = true then 1 else 2) ∧
      (t.dpll d).frozen = false ∧ (t.dpll d).slew = s.phaseError r error ∧
      ⟨Ev.DP_SWITCH.code, false, s.nextTick, contentOf Ev.DP_SWITCH.widths [d, sel, r, encode 8 (s.phaseError r error)]⟩ ∈ t.changes) ∧
    (s.dpChange d = some none →
      let lost := if s.obj (Obj.TM_REF_STATE sel) = 3 then s.now + 1 else (s.ref sel).lostAt
      let hs := s.holdSeconds d lost
      ∃ t : State, exec (.dpllSwitchCommit d error differs) s = .next t ∧ t.obj (Obj.TM_DP_SELECTED d) = 0xFFFF ∧
        (hs ≠ [] → t.obj (Obj.TM_DP_STATE d) = 4 ∧ t.obj (Obj.TM_HO_VALUE d) = encode 8 (meanOf hs) ∧
          t.obj (Obj.TM_HO_QUALITY d) = if hs.length = s.obj (Obj.TM_HO_WINDOW d) then 2 else 1) ∧
        (hs = [] → (s.dpll d).lastHoldover = none → t.obj (Obj.TM_DP_STATE d) = 0 ∧ t.obj (Obj.TM_HO_QUALITY d) = 0))) ∧
  (∀ (ticks : Nat) (error : Int), dp = 1 → 800000 ≤ ticks → ∃ t : State, exec (.dpllFrequencyLock d ticks error) s = .next t ∧
    t.obj (Obj.TM_DP_STATE d) = 2 ∧ (t.dpll d).slew = s.phaseError sel error ∧ (t.dpll d).slewStart = s.now) ∧
  (dp = 2 → (s.phaseLeft d).natAbs < 10 → ∃ t : State, exec (.slewDone d) s = .next t ∧ t.obj (Obj.TM_DP_STATE d) = 3 ∧
    (t.dpll d).lockedSince = some s.now ∧ (t.dpll d).history = if (s.dpll d).newReference then [] else (s.dpll d).history) ∧
  (∀ ppm : Option Nat, s.obj Obj.TM_XO_STATE = 0 → (∀ p, ppm = some p → 200 < p) → ∃ t : State, exec (.xoFail ppm) s = .next t ∧
    t.obj Obj.TM_XO_STATE = 1 ∧ (∀ r : Fin 20, (t.ref r).xoSince = none) ∧
    t.changes = s.changes ++ [⟨Ev.XO_FAIL.code, false, s.tick, contentOf Ev.XO_FAIL.widths [1]⟩]) ∧
  (∀ ppm ticks : Nat, exec (.xoReturn ppm ticks) s = .next (if s.obj Obj.TM_XO_STATE = 1 ∧ ppm ≤ 200 ∧ 8000000 ≤ ticks
    then (s.setObj Obj.TM_XO_STATE 0).raise Ev.XO_FAIL [0] else s)) ∧
  (∀ (rq : Rq) (x : Sender) (val v : Val),
    let u := s.served rq x
    (Accepted rq x Obj.TM_TOD_SET val v s → exec (.tmTodSet rq val) s = .next ((u.withTiming fun t => { t with toSet := some v.v }).answered rq)) ∧
    (Accepted rq x (Obj.TM_DP_PHASE_ADJ d) val v s → ∃ t : State, exec (.tmDpPhaseAdj rq d val) s = .next (t.answered rq) ∧
      (t.dpll d).adjust = s.adjustLeft d + signed 8 v.v ∧ (t.dpll d).slewStart = s.now ∧ t = { u with timing := t.timing }) ∧
    ∀ param : HoParam, Accepted rq x (holdKey param) val v s →
      let pick := fun k => if k = holdKey param then v.v else u.latest k
      let fits := ∀ j : Fin 4, pick Obj.TM_DRIFT_WIN + pick Obj.TM_DRIFT_SOAK < pick (Obj.TM_HO_GUARD j) ∧
        pick (Obj.TM_HO_WINDOW j) + pick (Obj.TM_HO_GUARD j) ≤ 1200
      (fits → exec (.tmHoParamWrite rq param val) s = .next ((u.stage (holdKey param) v.v).answered rq)) ∧
      (¬ fits → exec (.tmHoParamWrite rq param val) s = .next (u.deliver rq Op.write .range []))) ∧
  (let due := (s.now + 1) % 800000 = 0 ∧ s.timing.rolled = false;
    (¬ due → exec .todSecondRollover s = .next s) ∧
    (due → ∃ t : State, exec .todSecondRollover s = .next t ∧ t.timing.seconds = s.timing.toSet.getD (s.timing.seconds + 1) % 2 ^ 34 ∧
      t.timing.toSet = none ∧ t.timing.ended = s.timing.seconds ∧ t.timing.rolled = true ∧
      t.pm.suspect = (s.pm.suspect || s.timing.toSet.isSome) ∧ t = { s with timing := t.timing, pm := t.pm })) ∧
  ∀ (l : Fin 64) (p : PtpStamp),
    (s.obj (Obj.TM_TS_CFG l) = 0 ∨ isEthernet (s.clientType l) = false ∨ s.oduForm l = true ∨ recognised p = false →
      exec (.ptpTimestamp l p) s = .next s) ∧
    (s.obj (Obj.TM_TS_CFG l) ≠ 0 → isEthernet (s.clientType l) = true → s.oduForm l = false → recognised p = true →
      let w := s.obj Obj.TM_TS_WR
      ∃ t : State, exec (.ptpTimestamp l p) s = .next t ∧ t.obj (Obj.TM_TS_RING w) = s.stampRecord l p ∧ t.obj Obj.TM_TS_WR = (w + 1) % 4096 ∧
        (w ∉ s.timing.unread → t.timing.unread = s.timing.unread ++ [w] ∧ t.obj Obj.TM_TS_OVF = s.obj Obj.TM_TS_OVF) ∧
        (w ∈ s.timing.unread → t.obj Obj.TM_TS_OVF = u64 (s.obj Obj.TM_TS_OVF + 1)) ∧
        (s.obj (Obj.TM_TS_CFG l) = 2 → p.egress = true → p.twoStep = false → p.message = 0 ∨ p.message = 3 →
          Map.get 0 t.timing.correction (Key.unit l) = encode 8 (p.correction + p.residence)))

/-- MEAS_UPDATE, RTD_MEASURE, RTD_RETURN, RTD_TIMEOUT, PSC_TRANSIENT_OPEN, PSC_CLASSIFY, PSC_TRANSIENT_CLOSE. That a round-trip delay is taken in VALID
only, that a return after more than 1 s counts as a timeout, and that a slow transient gets class 3 only in its 80,000th tick are the model's reading
of R374, R377 and R379 (log entries 178 and 179). -/
def Obligations.EstimatesAndPeriscope : Prop :=
  ∀ (e : Fin 4) (s : State),
  let r := s.engine e
  let age := s.now - r.validSince
  (∀ x : Estimates,
    let due := s.rxValid e = true ∧ 0 < age ∧ age % 80000 = 0
    let cd := clamp (-(cdRange (s.mode e))) (cdRange (s.mode e)) x.cd
    (¬ due → exec (.measUpdate e x) s = .next s) ∧
    (due → ∃ t : State, exec (.measUpdate e x) s = .next t ∧
      t.obj (Obj.MEAS_OSNR e) = encode 4 (clamp 1200 4000 x.osnr) ∧ t.obj (Obj.MEAS_CD e) = encode 4 cd ∧
      t.obj (Obj.MEAS_FIBRE_LEN e) = min (cd.natAbs * 100000 / max (s.obj (Obj.MEAS_FIBRE_D e)) 1) (2 ^ 32 - 1) ∧
      t.obj (Obj.MEAS_DGD e) = min (dgdLimit (s.mode e)) x.dgd ∧ t.obj (Obj.MEAS_PDL e) = min 600 x.pdl ∧
      t.obj (Obj.MEAS_SIG_POWER e) = encode 4 (clamp (-2500) 500 x.power) ∧
      t.obj (Obj.MEAS_VALID e) = (if 800000 ≤ age then Nat.lor (s.obj (Obj.MEAS_VALID e)) 0x3F else s.obj (Obj.MEAS_VALID e)) ∧
      t = { s with reg := t.reg })) ∧
  (∀ stamp : Nat,
    let due := s.rxValid e = true ∧ s.measuredConn e (s.obj (Obj.MEAS_RTD_CONN e)) = true ∧ ∀ a, r.rtdAt = some a → a + 800000 ≤ s.now
    (¬ due → exec (.rtdMeasure e stamp) s = .next s) ∧
    (due → ∃ t : State, exec (.rtdMeasure e stamp) s = .next t ∧ (t.engine e).rtdSent = some stamp ∧ (t.engine e).rtdAt = some s.now ∧
      (r.rtdSent = none → t = (s.withEngine e fun r => { r with rtdSent := some stamp, rtdAt := some s.now }).toggleDmp e) ∧
      (r.rtdSent ≠ none → bit (t.obj (Obj.MEAS_VALID e)) 6 = false ∧
        t.changes = s.changes ++ [⟨Ev.RTD_TIMEOUT.code, false, s.tick, contentOf Ev.RTD_TIMEOUT.widths [e, s.obj (Obj.MEAS_RTD_CONN e)]⟩]))) ∧
  (∀ stamp : Nat, r.rtdSent = none → exec (.rtdReturn e stamp) s = .next s ∧ exec (.rtdTimeout e) s = .next s) ∧
  (∀ stamp sent a : Nat, r.rtdSent = some sent → r.rtdAt = some a →
    (s.now ≤ a + 800000 → s.rxValid e = true → ∃ t : State, exec (.rtdReturn e stamp) s = .next t ∧
      t.obj (Obj.MEAS_RTD e) = min 200000000 ((stamp - sent) / 4) ∧ (t.engine e).rtdSent = none ∧
      (r.validSince + 800000 ≤ s.now → bit (t.obj (Obj.MEAS_VALID e)) 6 = true) ∧
      (s.now < r.validSince + 800000 → t.obj (Obj.MEAS_VALID e) = s.obj (Obj.MEAS_VALID e)) ∧ t.changes = s.changes) ∧
    (s.now ≤ a + 800000 → s.rxValid e = false →
      exec (.rtdReturn e stamp) s = .next (s.withEngine e fun r => { r with rtdSent := none })) ∧
    (s.now < a + 800000 → exec (.rtdTimeout e) s = .next s) ∧
    ∀ c : Instr, (c = .rtdReturn e stamp ∧ a + 800000 < s.now) ∨ (c = .rtdTimeout e ∧ a + 800000 ≤ s.now) →
      ∃ t : State, exec c s = .next t ∧ bit (t.obj (Obj.MEAS_VALID e)) 6 = false ∧ (t.engine e).rtdSent = none ∧
        t.obj (Obj.MEAS_RTD e) = s.obj (Obj.MEAS_RTD e) ∧
        t.changes = s.changes ++ [⟨Ev.RTD_TIMEOUT.code, false, s.tick, contentOf Ev.RTD_TIMEOUT.widths [e, s.obj (Obj.MEAS_RTD_CONN e)]⟩]) ∧
  (∀ speed : Nat, exec (.pscTransientOpen e speed) s = .next (
    if s.rxValid e = true ∧ s.obj (Obj.PSC_ENABLE e) = 1 ∧ s.obj (Obj.PSC_STATE e) = 0 ∧ s.obj (Obj.PSC_MECH_THR e) < speed
    then (s.setObj (Obj.PSC_STATE e) 1).withEngine e fun r => { r with
      pscOpened := s.now, pscTick := s.tick, pscClass := 0, pscPeak := min speed 20000000 }
    else s)) ∧
  (∀ speed above : Nat,
    let w := min speed 20000000
    let open' := s.now - r.pscOpened
    let fast := s.obj (Obj.PSC_FAST_THR e) ≤ w
    let a := min above (open' + 1)
    let mechanical := ¬ fast ∧ open' ≤ 80000 ∧ 16000 ≤ a
    let other := ¬ fast ∧ open' = 80000 ∧ 800 ≤ a ∧ a < 16000
    (s.obj (Obj.PSC_STATE e) ≠ 1 ∨ ¬ (fast ∨ mechanical ∨ other) → exec (.pscClassify e speed above) s = .next s) ∧
    (s.obj (Obj.PSC_STATE e) = 1 → ∀ c, (fast ∧ open' ≤ 8 ∧ c = 2) ∨ (fast ∧ 8 < open' ∧ c = 3) ∨ (mechanical ∧ c = 1) ∨ (other ∧ c = 3) →
      ∃ t : State, exec (.pscClassify e speed above) s = .next t ∧
      t.obj (Obj.PSC_STATE e) = 2 ∧ (t.engine e).pscClass = c ∧ (t.engine e).pscPeak = max r.pscPeak w ∧
      t.obj (Obj.PSC_COUNT e (c - 1)) = u64 (s.obj (Obj.PSC_COUNT e (c - 1)) + 1) ∧ Map.get 0 t.prot.psc (Key.unit e) = c ∧
      ⟨Ev.PSC_TRANSIENT.code, false, s.tick, contentOf Ev.PSC_TRANSIENT.widths [e, c, r.pscTick, w]⟩ ∈ t.changes)) ∧
  ∀ quiet peak : Nat,
    let w := max r.pscPeak (min peak 20000000)
    let due := s.obj (Obj.PSC_STATE e) ≠ 0 ∧ s.obj (Obj.PSC_QUIET e) ≤ min quiet (s.now - r.pscOpened)
    (¬ due → exec (.pscTransientClose e quiet peak) s = .next s) ∧
    (due → ∃ t : State, exec (.pscTransientClose e quiet peak) s = .next t ∧ t.obj (Obj.PSC_STATE e) = 0 ∧
      (r.pscClass ≠ 0 → t.obj (Obj.PSC_LAST e) = r.pscClass * 2 ^ 30 + w ∧ t.changes = s.changes ++
        [⟨Ev.PSC_END.code, false, s.tick, contentOf Ev.PSC_END.widths [e, r.pscClass, s.now - r.pscOpened, w]⟩]) ∧
      (r.pscClass = 0 → t.changes = s.changes ∧ t.obj (Obj.PSC_LAST e) = s.obj (Obj.PSC_LAST e)))

/-- HK_RESULT, HK_SEQ_FIRE, HK_SEQ_PERIOD_TRIGGER, HK_SEQ_END, HK_SEQ_STEPS, HK_INTERLEAVE. -/
def Obligations.HousekeepingConverts : Prop :=
  ∀ s : State,
  (∀ (c : Fin 64) (data : Int),
    let owed := Map.get 0 s.instr.invalid (Key.unit c)
    let input := s.obj (Obj.HK_CH_INPUT c)
    let z := s.hkScaled c data
    let runs := (c.val < 44 ∧ (s.converting c).isSome = true) ∨ (44 ≤ c.val ∧ c.val ≤ 46) ∨
      (48 ≤ c.val ∧ c.val ≤ 59 ∧ input ≠ 0xFFFF ∧ s.obj (Obj.PSC_ENABLE ((c.val - 48) / 3)) = 1)
    let powered := if c.val < 44 then inputExists input = true ∧ s.inputPowered input = true
      else c.val ≤ 46 ∨ s.rxValid ((c.val - 48) / 3) = true
    let valid := owed = 0 ∧ powered
    let outside := z < s.objInt (Obj.HK_CH_LOW c) ∨ s.objInt (Obj.HK_CH_HIGH c) < z
    ∀ word : Nat, (valid → ¬ outside → word = 2 ^ 31 + c * 2 ^ 24 + encode 3 z) → (valid → outside → word = 2 ^ 31 + 2 ^ 30 + c * 2 ^ 24 + encode 3 z) →
      (¬ valid → word = c * 2 ^ 24 + encode 3 z) →
    (¬ runs → exec (.hkResult c data) s = .next s) ∧
    (runs → ∃ t : State, exec (.hkResult c data) s = .next t ∧ t.obj (Obj.HK_CH_LAST c) = word ∧
      t.obj (Obj.HK_RING (s.obj Obj.HK_RING_WR)) = word ∧ t.obj Obj.HK_RING_WR = (s.obj Obj.HK_RING_WR + 1) % 16384 ∧
      (16384 ≤ s.instr.ringWords → t.obj Obj.HK_RING_OVF = u64 (s.obj Obj.HK_RING_OVF + 1)) ∧
      (valid → outside → c.val ∉ s.instr.disarmed → c.val ∈ t.instr.disarmed ∧
        ⟨Ev.HK_WINDOW.code, false, s.tick, contentOf Ev.HK_WINDOW.widths [word]⟩ ∈ t.changes) ∧
      (valid → ¬ outside → s.objInt (Obj.HK_CH_LOW c) + s.obj (Obj.HK_CH_HYST c) ≤ z →
        z ≤ s.objInt (Obj.HK_CH_HIGH c) - s.obj (Obj.HK_CH_HYST c) → c.val ∉ t.instr.disarmed) ∧
      (c.val = 44 → owed = 0 → t.obj Obj.CNV_REFIN_MEAS = z.toNat) ∧
      (∀ m, c.val < 44 → s.converting c = some m →
        (owed ≠ 0 → Map.get 0 t.instr.invalid (Key.unit c) = owed - 1) ∧ (¬ valid → t.hk m = s.hk m) ∧
        (valid → 2 ≤ (s.hk m).validLeft → t.hk m = { s.hk m with validLeft := (s.hk m).validLeft - 1 })))) ∧
  (∀ (m : Fin 16) (rq : Rq) (x : Sender) (val v : Val), Accepted rq x (Obj.HK_SEQ_FIRE m) val v s → exec (.hkSeqFire rq m val) s = .next (
    if m.val = 15 then (s.served rq x).deliver rq Op.write .range [] else ((s.served rq x).hkTrigger m).answered rq)) ∧
  (∀ m : Fin 16, s.obj (Obj.HK_SEQ_MODE m) = 2 → s.hkIgnored m = false →
    let t := s.hkTrigger m
    (s.obj (Obj.HK_SEQ_STATE m) = 0 → t.obj (Obj.HK_SEQ_STATE m) = 1 ∧ (t.hk m).count = ((s.hk m).count + 1) % 65536) ∧
    (s.obj (Obj.HK_SEQ_STATE m) = 1 → 16 ≤ (s.hk m).step → t.obj (Obj.HK_SEQ_STATE m) = 1 ∧ (t.hk m).count = ((s.hk m).count + 1) % 65536) ∧
    (s.obj (Obj.HK_SEQ_STATE m) = 1 → (s.hk m).step < 16 → s.obj (Obj.HK_SEQ_POLICY m) ≠ 1 → t = s.setObj (Obj.HK_SEQ_STATE m) 2) ∧
    (s.obj (Obj.HK_SEQ_STATE m) ≠ 0 → (s.hk m).step < 16 → s.obj (Obj.HK_SEQ_POLICY m) = 1 → t.obj (Obj.HK_SEQ_STATE m) = 1 ∧
      t.obj (Obj.HK_SEQ_PARTIAL m) = u64 (s.obj (Obj.HK_SEQ_PARTIAL m) + 1)) ∧
    (s.obj (Obj.HK_SEQ_STATE m) ≠ 0 → (s.hk m).step < 16 → s.obj (Obj.HK_SEQ_STATE m) ≠ 1 → s.obj (Obj.HK_SEQ_POLICY m) ≠ 1 →
      t.obj (Obj.HK_SEQ_STATE m) = s.obj (Obj.HK_SEQ_STATE m) ∧ t.obj (Obj.HK_SEQ_OVERRUN m) = u64 (s.obj (Obj.HK_SEQ_OVERRUN m) + 1))) ∧
  (∀ m : Fin 16, let p := s.obj (Obj.HK_SEQ_PERIOD m)
    let due := p ≠ 0 ∧ s.nextTick % p = 0 ∧ (s.hk m).periodAt ≠ some (s.now + 1)
    let st := s.obj (Obj.HK_SEQ_STATE m)
    (¬ due → exec (.hkSeqPeriodTrigger m) s = .next s) ∧
    (due → ∃ t : State, exec (.hkSeqPeriodTrigger m) s = .next t ∧ (t.hk m).periodAt = some (s.now + 1) ∧ t.now = s.now ∧
      (s.obj (Obj.HK_SEQ_MODE m) ≠ 2 ∨ s.hkIgnored m = true → t = s.withHk m fun r => { r with periodAt := some (s.now + 1) }) ∧
      (s.obj (Obj.HK_SEQ_MODE m) = 2 → s.hkIgnored m = false → st = 0 ∨ (s.hk m).step < 16 →
        (st = 0 → t.obj (Obj.HK_SEQ_STATE m) = 1 ∧ (t.hk m).count = ((s.hk m).count + 1) % 65536) ∧
        (st = 1 → s.obj (Obj.HK_SEQ_POLICY m) ≠ 1 → t.obj (Obj.HK_SEQ_STATE m) = 2) ∧
        (st ≠ 0 → s.obj (Obj.HK_SEQ_POLICY m) = 1 → t.obj (Obj.HK_SEQ_STATE m) = 1 ∧
          t.obj (Obj.HK_SEQ_PARTIAL m) = u64 (s.obj (Obj.HK_SEQ_PARTIAL m) + 1)) ∧
        (st ≠ 0 → st ≠ 1 → s.obj (Obj.HK_SEQ_POLICY m) ≠ 1 → t.obj (Obj.HK_SEQ_STATE m) = st ∧
          t.obj (Obj.HK_SEQ_OVERRUN m) = u64 (s.obj (Obj.HK_SEQ_OVERRUN m) + 1))))) ∧
  (∀ m : Fin 16, let st := s.obj (Obj.HK_SEQ_STATE m)
    (st = 0 ∨ (s.hk m).step < 16 ∨ s.hkIgnored m = true → exec (.hkSeqEnd m) s = .next s) ∧
    (st ≠ 0 → 16 ≤ (s.hk m).step → s.hkIgnored m = false → ∃ t : State, exec (.hkSeqEnd m) s = .next t ∧
      t.obj (Obj.HK_RING (s.obj Obj.HK_RING_WR)) = 63 * 2 ^ 24 + m * 2 ^ 20 + 2 * 2 ^ 16 + (s.hk m).count % 2 ^ 16 ∧
      (s.obj (Obj.HK_SEQ_MODE m) = 1 ∨ st = 2 → t.obj (Obj.HK_SEQ_STATE m) = 1 ∧ (t.hk m).count = ((s.hk m).count + 1) % 65536) ∧
      (s.obj (Obj.HK_SEQ_MODE m) ≠ 1 → st ≠ 2 → t.obj (Obj.HK_SEQ_STATE m) = 0 ∧ t.hk m = s.hk m))) ∧
  (∀ (m : Fin 16) (index : Nat) (rq : Rq) (x : Sender) (val v : Val), Accepted rq x (Obj.HK_SEQ_STEPS m index) val v s →
    let u := s.served rq x
    let w := v.v
    exec (.hkSeqStepsWrite rq m index val) s = .next (
      if m.val = 15 ∨ (stepOn w = true ∧ (43 < stepChannel w ∨ stepCount w = 0)) then u.deliver rq Op.write .range []
      else if stepOn w = true ∧ ((List.range 15).any fun j => decide (j ≠ m.val) && (u.steps j).any fun y => decide (stepChannel y = stepChannel w)) = true
        then u.deliver rq Op.write .precond []
      else (u.stage (Obj.HK_SEQ_STEPS m index) w).answered rq)) ∧
  ∀ (rq : Rq) (x : Sender) (val v : Val), Accepted rq x Obj.HK_INTERLEAVE val v s →
    let u := s.served rq x
    let fits := ∀ b, b < 7 → bit v.v b = true → bit (u.latest Obj.HK_INTERLEAVE) b = false → ∀ y ∈ u.steps (2 * b),
      field (u.latest (Obj.HK_CH_FILTER (stepChannel y))) 3 0 = 8 ∧ hkSingle (u.latest (Obj.HK_CH_FILTER (stepChannel y))) = false
    (fits → exec (.hkInterleaveWrite rq val) s = .next ((u.stage Obj.HK_INTERLEAVE v.v).answered rq)) ∧
    (¬ fits → exec (.hkInterleaveWrite rq val) s = .next (u.deliver rq Op.write .precond []))

/-- LOUPE_ARM in both forms, LOUPE_FIRE, LOUPE_TRIGGER, LOUPE_DONE. -/
def Obligations.LoupeCaptures : Prop :=
  ∀ s : State,
  let st := s.obj Obj.LOUPE_STATE
  (∀ (rq : Rq) (x : Sender), Accepted rq x Obj.LOUPE_ARM ⟨2, 1⟩ ⟨2, 1⟩ s →
    let u := s.served rq x
    let refuse := fun st => exec (.loupeArm rq) s = .next (u.deliver rq Op.write st [])
    let light := s.loupeRate ≤ 360000000000 ∧ s.tapWords ≤ 112500
    (¬ light → refuse .range) ∧
    (light → s.domOn 16 = false ∨ s.obj Obj.LOUPE_SIZE = 0 → refuse .precond) ∧
    (light → s.domOn 16 = true → s.obj Obj.LOUPE_SIZE ≠ 0 → st = 1 ∨ st = 2 → refuse .busy) ∧
    (light → s.domOn 16 = true → s.obj Obj.LOUPE_SIZE ≠ 0 → st ≠ 1 → st ≠ 2 → s.loupeKind = 1 → s.obj Obj.LOUPE_TRIG_TICK < s.tick + 2 → refuse .deadline) ∧
    (light → s.domOn 16 = true → s.obj Obj.LOUPE_SIZE ≠ 0 → st ≠ 1 → st ≠ 2 → s.loupeKind ≠ 1 ∨ s.tick + 2 ≤ s.obj Obj.LOUPE_TRIG_TICK →
      ∃ t : State, exec (.loupeArm rq) s = .next (t.answered rq) ∧ t.obj Obj.LOUPE_STATE = 1 ∧ t.loupe = {} ∧
        ∀ k : Fin 4, t.obj (Obj.LOUPE_INFO k) = 0)) ∧
  (∀ (rq : Rq) (x : Sender), Accepted rq x Obj.LOUPE_ARM ⟨2, 0⟩ ⟨2, 0⟩ s → ∃ t : State, exec (.loupeAbort rq) s = .next (t.answered rq) ∧
    (st ≠ 1 → st ≠ 2 → t = s.served rq x) ∧
    (st = 1 ∨ st = 2 → t.obj Obj.LOUPE_STATE = 4 ∧ t.obj (Obj.LOUPE_INFO 3) = 1 ∧ t.loupe = s.loupe ∧
      t.obj (Obj.LOUPE_INFO 2) = loupeBytes s.loupe.records)) ∧
  (∀ (rq : Rq) (x : Sender) (val v : Val), Accepted rq x Obj.LOUPE_FIRE val v s → exec (.loupeFire rq val) s =
    .next (((s.served rq x).plan (s.now + 1) .loupeFire).answered rq)) ∧
  (s.loupe.scanned ≠ some s.now → s.loupeKind = 1 → s.obj Obj.LOUPE_TRIG_TICK = s.tick → ∃ t : State, exec .loupeTrigger s = .next t ∧
    (st = 1 → t.obj Obj.LOUPE_STATE = 2 ∧ t.obj (Obj.LOUPE_INFO 0) = s.tick ∧
      t.changes = s.changes ++ [⟨Ev.LOUPE_TRIGGERED.code, false, s.tick, contentOf Ev.LOUPE_TRIGGERED.widths [1, s.tick]⟩]) ∧
    (2 ≤ st → t.obj Obj.LOUPE_STATE = st ∧ t.obj Obj.LOUPE_TRIG_MISSED = u64 (s.obj Obj.LOUPE_TRIG_MISSED + 1))) ∧
  (s.loupe.scanned = some s.now → exec .loupeTrigger s = .next s) ∧
  (st ≠ 2 ∨ s.loupeFull = false → exec .loupeDone s = .next s) ∧
  (st = 2 → s.loupeFull = true → ∃ t : State, exec .loupeDone s = .next t ∧ t.obj Obj.LOUPE_STATE = 3 ∧
    t.obj (Obj.LOUPE_INFO 2) = loupeBytes s.loupe.records ∧ t.loupe = s.loupe ∧
    t.changes = s.changes ++ [⟨Ev.LOUPE_DONE.code, false, s.tick, contentOf Ev.LOUPE_DONE.widths [loupeBytes s.loupe.records, s.loupe.pre]⟩])

/-- PM_SECOND, PM_BIN_CLOSE, PM_SD_WINDOW, PM_POINT. `e` is the state after what the ending tick still does; the records of that tick give the signal
fail of a point (log entry 6). -/
def Obligations.PerformanceIsCounted : Prop :=
  ∀ s : State,
  let e := s.closeTick
  (∀ counts : List PmCount, (e.now + 1) % 800000 ≠ 0 → exec (.pmSecond counts) s = .next s) ∧
  (∀ counts : List PmCount, (e.now + 1) % 800000 = 0 → e.pm.second = some (e.now + 1) → exec (.pmSecond counts) s = .next e) ∧
  (∀ counts : List PmCount, (e.now + 1) % 800000 = 0 → e.pm.second ≠ some (e.now + 1) → ∃ t : State, exec (.pmSecond counts) s = .next t ∧
    t.pm.second = some (e.now + 1) ∧ t.pm.defectSecond = [] ∧ t.pm.suspect = false ∧ (∀ p, p ∉ e.pmPoints → t.pmPoint p = e.pmPoint p) ∧
    ∀ p ∈ e.pmPoints, let q := e.pmPoint p
      q ≠ {} → q.m15.cur.k = e.bin15 e.endedSecond → q.d24.cur.k = e.bin24 e.endedSecond → e.pmPresent p = true →
      bit (e.endedRecord p) 14 = true → q.ne.uas = false → q.ne.run.length < 9 →
      (t.pmPoint p).m15.cur.ne.ses = (q.m15.cur.ne.add ⟨q.m15.cur.k, q.d24.cur.k, true, true, 0⟩ false).ses ∧
      (t.pmPoint p).d24.cur.ne.ses = (q.d24.cur.ne.add ⟨q.m15.cur.k, q.d24.cur.k, true, true, 0⟩ false).ses) ∧
  (∀ (day : Bool) (p : Nat) (q : PmPoint) (c : Bin), s.pm.points = [(Key.unit p, q)] → (q.bins day).closing = some c →
    (s.pm.second ≠ some (s.now + 1) → exec (.pmBinClose day) s = .next s) ∧
    (s.pm.second = some (s.now + 1) → s.binDue day c = true → ∃ t : State, exec (.pmBinClose day) s = .next t ∧
      ((t.pmPoint p).bins day).closing = none ∧
      (s.hbmServes = true → ((t.pmPoint p).bins day).history =
        (binRecord c false (!(s.pmShape p).2) (decide (p ≤ 4)) :: (q.bins day).history).take (if day then 7 else 96)) ∧
      t.changes = s.changes ++ [⟨Ev.PM_BIN.code, false, s.nextTick, contentOf Ev.PM_BIN.widths [day.toNat, encode 4 c.k]⟩])) ∧
  (∀ w : SdWindow, let p := w.point
    let q := e.pmPoint p
    let word := profileWord (e.profile p) 1
    let due := e.sdSource p ≠ 0 ∧ q.sdStart + profileWord (e.profile p) 2 ≤ e.now + 1
    let ratio := (e.sdRatio p (some w)).getD (0, 0)
    let above := ratioAbove ratio.1 ratio.2 (field word 15 0)
    let below := ratioBelow ratio.1 ratio.2 (field word 31 16)
    let count := field (e.obj (Obj.PM_SD_STATE p)) 23 16
    (¬ due → exec (.pmSdWindow w) s = .next s) ∧
    (due → q.sdDefect = false → e.endedDefect p = false →
      ∃ t : State, exec (.pmSdWindow w) s = .next t ∧ (t.pmPoint p).sdStart = e.now + 1 ∧
        t.declared Df.sd p = (above || (e.declared Df.sd p && !(below && decide (field (profileWord (e.profile p) 3) 7 0 ≤ count + 1)))))) ∧
  ∀ (rq : Rq) (x : Sender) (p : Nat) (val v : Val), Accepted rq x (Obj.PM_POINT p) val v s →
    let u := s.served rq x
    let other := pointRest v.v ≠ pointRest (u.latest (Obj.PM_POINT p))
    let legal := 1024 ≤ p ∧ pointKind v.v < 3 ∧
      (if pointKind v.v = 1 then field v.v 26 24 ≠ 0 ∧ field v.v 26 24 ≠ 7 else field v.v 26 24 = 0)
    (other → ¬ legal → exec (.pmPointWrite rq p val) s = .next (u.deliver rq Op.write .range [])) ∧
    (other → legal → u.pointUsed p = true → exec (.pmPointWrite rq p val) s = .next (u.deliver rq Op.write .precond [])) ∧
    (¬ other ∨ (legal ∧ u.pointUsed p = false) → exec (.pmPointWrite rq p val) s = .next ((u.stage (Obj.PM_POINT p) v.v).answered rq))

/-- RING_COPY_RECEIVE, STANDBY_TAKEOVER, VY_PORT_FAIL, VY_UNWRAP. `c` is the copy with the injected faults that wait for its
port, and `l` the state after a Loupe on that port has recorded it. -/
def Obligations.RingCopiesTravel : Prop :=
  ∀ s : State,
  let node := s.mc.node
  let wrap := fun (port : Nat) => (⟨Ev.VY_WRAP.code, false, s.tick, contentOf Ev.VY_WRAP.widths [port, s.obj Obj.VY_TOPO, s.obj Obj.VY_URG_TICKS]⟩ : EvRec)
  (∀ copy : RingCopy,
    (s.alive = false → exec (.ringCopyReceive copy) s = .next s) ∧
    (s.inject.ring = [] → s.inject.held = [] → s.injectCopy copy = (s, copy)) ∧ (s.recording = false → s.loupeFrame copy = s) ∧
    (s.alive = true →
      let l := s.loupeFrame copy
      let c := (s.injectCopy copy).2
      let out := if 1 - c.port.val ∈ s.ring.failed then c.port.val else 1 - c.port.val
      let onward := (c.turn (decide (out = c.port.val))).bytes
      let unread : CopyOut := ⟨c.port, out, onward, onward⟩
      let own := s.obj Obj.VY_ROLE = 1 ∧ c.master = node
      let higher := s.obj Obj.VY_ROLE = 1 ∧ node < c.master
      (c.hcrcOk = false → ∃ t : State, exec (.ringCopyReceive copy) s = .next t ∧
        t.obj (Obj.VY_CRC_ERR c.port) = u64 (s.obj (Obj.VY_CRC_ERR c.port) + 1) ∧ t.ring.out = s.ring.out ++ [unread] ∧
        (∀ k, k ≠ Obj.VY_CRC_ERR c.port → t.obj k = l.obj k) ∧ t = { l with reg := t.reg, ring := t.ring, inject := t.inject }) ∧
      (c.hcrcOk = true → c.ringId ≠ s.obj Obj.VY_RING_ID → ∃ t : State, exec (.ringCopyReceive copy) s = .next t ∧
        t.obj Obj.VY_FOREIGN = u64 (s.obj Obj.VY_FOREIGN + 1) ∧ t.ring.out = s.ring.out ++ [unread] ∧
        (∀ k, k ≠ Obj.VY_FOREIGN → t.obj k = l.obj k) ∧ t = { l with reg := t.reg, ring := t.ring, inject := t.inject }) ∧
      (c.hcrcOk = true → c.ringId = s.obj Obj.VY_RING_ID → own → ∃ t : State, exec (.ringCopyReceive copy) s = .next t ∧
        t.obj (Obj.VY_LOOP (if c.west then 1 else 0)) = sat32 c.delay ∧ t.obj Obj.VY_STATE = (if s.ring.failed ≠ [] then 3 else 2) ∧
        t.ring.out = s.ring.out ∧ t.act = s.act ∧ t.shd = s.shd ∧ t.owed = s.owed) ∧
      (c.hcrcOk = true → c.ringId = s.obj Obj.VY_RING_ID → ¬ own → higher → ∃ t : State, exec (.ringCopyReceive copy) s = .next t ∧
        t.ring.out = s.ring.out ++ [unread] ∧ (∀ k, k ≠ Obj.VY_PORT_STATE c.port → t.obj k = l.obj k)) ∧
      (c.hcrcOk = true → c.ringId = s.obj Obj.VY_RING_ID → ¬ own → ¬ higher → ∃ t : State, exec (.ringCopyReceive copy) s = .next t ∧
        t.obj Obj.VY_MASTER = c.master ∧ t.obj Obj.VY_PRESENT = c.present ∧ t.obj Obj.VY_TOPO = c.topo ∧ t.obj Obj.VY_URG_TICKS = c.urg ∧
        t.obj Obj.VY_STATE = (if s.ring.failed ≠ [] then 3 else if bit c.present node then 2 else 1) ∧
        t.obj Obj.VY_ROLE = (if s.obj Obj.VY_ROLE = 1 then 2 else s.obj Obj.VY_ROLE) ∧ t.ring.out.length = s.ring.out.length + 1 ∧
        t.act = s.act ∧ t.shd = s.shd))) ∧
  (let silent := s.alive = true ∧ s.obj Obj.VY_ROLE = 2 ∧ (∀ a, s.ring.heard0 = some a → a + 4 ≤ s.now) ∧ (∀ a, s.ring.heard1 = some a → a + 4 ≤ s.now);
    (silent → ∃ t : State, exec .standbyTakeover s = .next t ∧ t.obj Obj.VY_ROLE = 1 ∧ t.obj Obj.VY_MASTER = node ∧
      t.obj Obj.VY_TOPO = (s.obj Obj.VY_TOPO + 1) % 2 ^ 16 ∧
      t.changes = s.changes ++ (if s.obj Obj.VY_MASTER = node then []
        else [⟨Ev.VY_MASTER.code, false, s.nextTick, contentOf Ev.VY_MASTER.widths [s.obj Obj.VY_MASTER, node]⟩])) ∧
    (¬ silent → exec .standbyTakeover s = .next s)) ∧
  (∀ (port : Fin 2) (lockLost : Bool) (quiet : Nat),
    let fails := s.alive = true ∧ port.val ∉ s.ring.failed ∧ (lockLost = true ∨ (2 ≤ quiet ∧
      ∃ a ∈ (if port.val = 0 then s.ring.heard1 else s.ring.heard0), s.now ≤ a + 2))
    (fails → ∃ t : State, exec (.vyPortFail port lockLost quiet) s = .next t ∧ t.obj (Obj.VY_PORT_STATE port) = 2 ∧ t.obj Obj.VY_STATE = 3 ∧
      t.ring.failed = s.ring.failed ++ [port.val] ∧ t.ring.resend = some (1 - port.val) ∧ t.changes = s.changes ++ [wrap port] ∧
      t = { s with reg := t.reg, ring := t.ring, changes := t.changes }) ∧
    (¬ fails → exec (.vyPortFail port lockLost quiet) s = .next s)) ∧
  ∀ (port : Fin 2) (locked frame : Nat),
    let clears := port.val ∈ s.ring.failed ∧ 800 ≤ locked ∧ frame % 32 = 0
    (clears → ∃ t : State, exec (.vyUnwrap port locked frame) s = .next t ∧ t.obj (Obj.VY_PORT_STATE port) = 1 ∧ port.val ∉ t.ring.failed ∧
      t.obj Obj.VY_STATE = (if t.ring.failed ≠ [] then 3 else 2) ∧ t.changes = s.changes ++ [wrap port] ∧
      t = { s with reg := t.reg, ring := t.ring, changes := t.changes }) ∧
    (¬ clears → exec (.vyUnwrap port locked frame) s = .next s)

/-- DEMAND_SCRUB, SCRUB_VISIT, BUCKET_LEAK, PAGE_REPAIR_SWITCH, UNCORRECTABLE_PAGE_REPAIR, SIO_T write, D2D_REPLAY, D2D_LANE_SPARE. -/
def Obligations.StoresAreScrubbed : Prop :=
  ∀ s : State,
  (∀ (g : Fin 8) (page : Nat),
    ((s.page g page).queued = false → exec (.demandScrub g page) s = .next s) ∧
    ((s.page g page).queued = true → ∃ t : State, exec (.demandScrub g page) s = .next t ∧ (t.page g page).queued = false ∧
      (t.page g page).wrong = (s.page g page).stuck ∧ (∀ b ∈ (s.page g page).found, (b, 0) ∈ (t.page g page).written) ∧
      (∀ h q, (h, q) ≠ (g.val, page) → t.page h q = s.page h q) ∧ t = { s with stores := t.stores })) ∧
  (∀ (v : PageRead) (passEnd : Bool), let g := v.region.val
    (regionPages g ≤ v.page → exec (.scrubVisit v passEnd) s = .next s) ∧
    (v.page < regionPages g → v.bits = [] → (s.page g v.page).wrong = [] → (s.page g v.page).bad = false → (s.page g v.page).queued = false →
      ∃ t : State, exec (.scrubVisit v passEnd) s = .next t ∧
        t.obj (Obj.SIO_PASS_COUNT g) = (if passEnd ∧ s.passDue g then u64 (s.obj (Obj.SIO_PASS_COUNT g) + 1) else s.obj (Obj.SIO_PASS_COUNT g)) ∧
        (∀ k, k ≠ Obj.SIO_PASS_COUNT g → t.obj k = s.obj k) ∧ t.changes = s.changes ∧
        (s.recoding g = 0 → (t.page g v.page).written = ((s.page g v.page).written.map fun w => (w.1, w.2 + 1)).filter fun w => decide (w.2 < 3))) ∧
    (∀ b : Nat, v.page < regionPages g → v.bits = [b] → s.page g v.page = {} → 1 ≤ s.strength g v.page →
      s.obj (Obj.SIO_BUCKET g) < s.obj (Obj.SIO_BUCKET_SIZE g) → s.recoding g = 0 →
      ∃ t : State, exec (.scrubVisit v false) s = .next t ∧ t.obj (Obj.SIO_CORR_BITS g) = u64 (s.obj (Obj.SIO_CORR_BITS g) + 1) ∧
        t.obj (Obj.SIO_BUCKET g) = s.obj (Obj.SIO_BUCKET g) + 1 ∧ (t.page g v.page).wrong = [] ∧ (t.page g v.page).written = [(b, 0)] ∧
        t.changes = s.changes)) ∧
  (∀ g : Fin 8,
    let due := Map.get 0 s.stores.leakAt (Key.unit g) + s.obj (Obj.SIO_BUCKET_LEAK g) ≤ s.now + 1
    (due → ∃ t : State, exec (.bucketLeak g) s = .next t ∧ t.obj (Obj.SIO_BUCKET g) = s.obj (Obj.SIO_BUCKET g) - 1 ∧
      Map.get 0 t.stores.leakAt (Key.unit g) = s.now + 1 ∧ (∀ k, k ≠ Obj.SIO_BUCKET g → t.obj k = s.obj k) ∧
      t = { s with reg := t.reg, stores := t.stores }) ∧
    (¬ due → exec (.bucketLeak g) s = .next s)) ∧
  (∀ (g : Fin 8) (page : Nat), let p := s.page g page
    (p.copying = false ∨ p.spare = none → exec (.pageRepairSwitch g page) s = .next s) ∧
    (∀ k, p.copying = true → p.spare = some k → ∃ t : State, exec (.pageRepairSwitch g page) s = .next t ∧
      t.page g page = { strength := p.strength, wrong := p.carried } ∧ t.obj (Obj.SIO_WEAK_LOG g k) = 2 ^ 31 + page % 2 ^ 24 ∧
      t.obj (Obj.SIO_REPAIRED g) = u64 (s.obj (Obj.SIO_REPAIRED g) + 1) ∧
      t.changes = s.changes ++ [⟨Ev.PAGE_REPAIRED.code, false, s.nextTick, contentOf Ev.PAGE_REPAIRED.widths [g, page, k]⟩] ∧
      t = { s with reg := t.reg, stores := t.stores, changes := t.changes })) ∧
  (∀ page ticks : Nat, let p := s.page 0 page
    let block := page % 7840
    let fallback := decide (page = s.cmPage true block) && s.blockCopied block
    (p.bad = false ∨ (fallback = false ∧ s.ctBad = true) → exec (.uncorrectablePageRepair page ticks) s = .next s) ∧
    (p.bad = true → (fallback = true ∨ s.ctBad = false) → ∃ t : State, exec (.uncorrectablePageRepair page ticks) s = .next t ∧ (t.page 0 page).bad = false ∧
      t.obj (Obj.SIO_REGEN 0) = (if fallback then s.obj (Obj.SIO_REGEN 0) else u64 (s.obj (Obj.SIO_REGEN 0) + 1)) ∧
      (∀ k, p.spare = some k → t.obj (Obj.SIO_WEAK_LOG 0 k) = 2 ^ 31 + 2 ^ 30 + page % 2 ^ 24 ∧
        t.changes = s.changes ++ [⟨Ev.PAGE_REPAIRED.code, false, s.tick, contentOf Ev.PAGE_REPAIRED.widths [0, page, k]⟩]))) ∧
  (∀ (rq : Rq) (x : Sender) (g : Fin 8) (val v : Val), Accepted rq x (Obj.SIO_T g) val v s →
    exec (.sioTWrite rq g val) s = .next (((s.served rq x).stage (Obj.SIO_T g) v.v).answered rq)) ∧
  (∀ r : Replay,
    let exists_ := r.group < if r.link.val < 4 then 56 else 112
    (¬ exists_ → exec (.d2dReplay r) s = .next s) ∧
    (exists_ → ∃ t : State, exec (.d2dReplay r) s = .next t ∧
      t.obj (Obj.D2D_PARITY_ERR r.link) = u64 (s.obj (Obj.D2D_PARITY_ERR r.link) + r.beats) ∧
      t.obj (Obj.D2D_REPLAY r.link) = u64 (s.obj (Obj.D2D_REPLAY r.link) + r.replays) ∧
      (r.failed = false ∨ r.replays < 3 → t.changes = s.changes ∧ t.obj (Obj.D2D_REPLAY_FAIL r.link) = s.obj (Obj.D2D_REPLAY_FAIL r.link)) ∧
      (r.failed = true → 3 ≤ r.replays → t.obj (Obj.D2D_REPLAY_FAIL r.link) = u64 (s.obj (Obj.D2D_REPLAY_FAIL r.link) + 8) ∧
        (∀ n ∈ r.conns, n ∈ (if r.direction.val = 0 then t.prism.poisonNext else t.prism.poison))))) ∧
  ∀ (link : Fin 6) (direction : Fin 2) (group lane errors : Nat),
    exec (.d2dLaneSpare link direction group lane errors) s = .next (
      if group < (if link.val < 4 then 56 else 112) ∧ lane < 32 ∧ s.obj (Obj.D2D_LANE_ERR_LIMIT link) < errors
      then s.plan (s.now + 1) (.laneSpare link direction group lane) else s)

/-- R472: FI_ARM_PREPARE, FI_ARM_CONFIRM, FI_DISARM, WRITE of FI_ARM with any value, FI_PREPARE_TIMEOUT. -/
def Obligations.InjectionIsArmedInTwoSteps : Prop :=
  ∀ s : State,
  let state := s.obj Obj.FI_STATE
  (∀ (rq : Rq) (x : Sender),
    let u := s.served rq x
    let idle := { u.setObj Obj.FI_STATE 0 with inject := { s.inject with prepared := none } }
    (Served Op.write 0 rq x s → x.role < 2 → exec (.fiArmPrepare rq) s = .next (u.deliver rq Op.write .denied []) ∧
      exec (.fiArmConfirm rq) s = .next (u.deliver rq Op.write .denied [])) ∧
    (Accepted rq x Obj.FI_ARM ⟨4, 0xA1⟩ ⟨4, 0xA1⟩ s →
      (state = 0 → exec (.fiArmPrepare rq) s =
        .next ({ u.setObj Obj.FI_STATE 1 with inject := { s.inject with prepared := some (rq.session, s.now) } }.answered rq)) ∧
      (state = 1 → exec (.fiArmPrepare rq) s = .next (idle.answered rq)) ∧
      (state = 2 → ∃ t : State, exec (.fiArmPrepare rq) s = .next (t.answered rq) ∧ t.obj Obj.FI_STATE = 0)) ∧
    (Accepted rq x Obj.FI_ARM ⟨4, 0x5E⟩ ⟨4, 0x5E⟩ s →
      let slots := (List.range 16).countP fun i => bit (s.obj (Obj.FI_SLOT i)) 127
      (∀ owner since, state = 1 → s.inject.prepared = some (owner, since) →
        (owner ≠ rq.session ∨ since + 800 < s.now → exec (.fiArmConfirm rq) s = .next (idle.answered rq)) ∧
        (owner = rq.session → s.now ≤ since + 800 →
          (slots = 0 → exec (.fiArmConfirm rq) s = .next (u.deliver rq Op.write .precond [])) ∧
          (slots ≠ 0 → ∃ t : State, exec (.fiArmConfirm rq) s = .next (t.answered rq) ∧ t.obj Obj.FI_STATE = 2 ∧ t.inject.armedAt = s.now ∧
            t.inject.prepared = none ∧ t.changes = s.changes ++
              [⟨Ev.FI_ARMED.code, false, s.tick, contentOf Ev.FI_ARMED.widths [slots, s.obj Obj.FI_DURATION]⟩] ∧
            (∀ k, k ≠ Obj.FI_STATE → t.obj k = u.obj k)))) ∧
      (state = 0 → exec (.fiArmConfirm rq) s = .next (idle.answered rq)) ∧
      (state = 2 → ∃ t : State, exec (.fiArmConfirm rq) s = .next (t.answered rq) ∧ t.obj Obj.FI_STATE = 0)) ∧
    (Accepted rq x Obj.FI_ARM ⟨4, 0⟩ ⟨4, 0⟩ s →
      (state ≠ 2 → exec (.fiDisarm rq) s = .next (idle.answered rq)) ∧
      (state = 2 → ∃ t : State, exec (.fiDisarm rq) s = .next (t.answered rq) ∧ t.obj Obj.FI_STATE = 0)) ∧
    ∀ obj index v : Nat, objKey obj index = Obj.FI_ARM → Accepted rq x Obj.FI_ARM ⟨4, v⟩ ⟨4, v⟩ s → v ≠ 0x5E → state = 1 →
      exec (.write rq obj index ⟨4, v⟩) s = .next (idle.answered rq)) ∧
  (∀ owner since, state = 1 → s.inject.prepared = some (owner, since) → exec .fiPrepareTimeout s = .next (
    if since + 800 ≤ s.now then { s.setObj Obj.FI_STATE 0 with inject := { s.inject with prepared := none } } else s)) ∧
  (state ≠ 1 → exec .fiPrepareTimeout s = .next s)

/-- FI_DISARM, FI_ARM_PREPARE and FI_ARM_CONFIRM while armed, FI_DURATION_EXPIRE, FI_OCCURRENCE, FI_SLOT write. -/
def Obligations.InjectionEndsAndOccurs : Prop :=
  ∀ s : State,
  let state := s.obj Obj.FI_STATE
  let released := fun (t : State) => t.obj Obj.FI_STATE = 0 ∧ t.inject.forced = [] ∧ t.inject.ring = [] ∧ t.inject.lanes = [] ∧
    ∀ g page, (t.page g page).stuck = []
  let disarmed := fun (cause tick : Nat) => (⟨Ev.FI_DISARMED.code, false, tick, contentOf Ev.FI_DISARMED.widths [cause]⟩ : EvRec)
  (∀ (rq : Rq) (x : Sender),
    let u := s.served rq x
    (∀ (v : Nat) (c : Instr), (v, c) ∈ [(0, Instr.fiDisarm rq), (0xA1, .fiArmPrepare rq), (0x5E, .fiArmConfirm rq)] →
      Accepted rq x Obj.FI_ARM ⟨4, v⟩ ⟨4, v⟩ s → state = 2 →
      ∃ t : State, exec c s = .next (t.answered rq) ∧ released t ∧ t.changes = s.changes ++ [disarmed 2 s.tick]) ∧
    ∀ (slot : Nat) (val v : Val), Accepted rq x (Obj.FI_SLOT slot) val v s →
      exec (.fiSlotWrite rq slot val) s = .next (
        if (decodeSlot (slotStored v.v)).fits = false then u.deliver rq Op.write .range []
        else if state ≠ 0 then u.deliver rq Op.write .busy []
        else (u.stage (Obj.FI_SLOT slot) (slotStored v.v)).answered rq)) ∧
  (let due := state = 2 ∧ s.inject.armedAt + s.obj Obj.FI_DURATION ≤ s.now + 1;
    (due → ∃ t : State, exec .fiDurationExpire s = .next t ∧ released t ∧
      t.changes = s.changes ++ [disarmed 1 s.nextTick] ∧ (∀ k, k ≠ Obj.FI_STATE → t.obj k = s.obj k) ∧
      t = { s with reg := t.reg, stores := t.stores, inject := t.inject, changes := t.changes }) ∧
    (¬ due → exec .fiDurationExpire s = .next s)) ∧
  ∀ (slot : Fin 16) (conns affected : List Nat),
    let f := s.fiSlot slot
    let now := if f.kind = 8 ∨ f.kind = 9 then s.now + 1 else s.now
    let hits := state = 2 ∧ now < s.inject.armedAt + s.obj Obj.FI_DURATION ∧ f.occurs (now - s.inject.armedAt) = true ∧
      Map.get 0 s.inject.lastHit (Key.unit slot) ≠ now + 1
    (¬ hits → exec (.fiOccurrence slot conns affected) s = .next s) ∧
    (hits → ∃ t : State, exec (.fiOccurrence slot conns affected) s = .next t ∧ t.obj (Obj.FI_HITS slot) = u64 (s.obj (Obj.FI_HITS slot) + 1) ∧
      Map.get 0 t.inject.lastHit (Key.unit slot) = now + 1 ∧ t.obj Obj.FI_STATE = 2 ∧ t.act = s.act ∧ t.shd = s.shd ∧
      (f.kind = 8 ∨ f.kind = 9 → slot.val ∈ t.inject.forced ∧ t = { s with reg := t.reg, inject := t.inject }) ∧
      (f.kind = 3 → s.d2dState f.link ≠ 0 → t.obj (Obj.D2D_REPLAY f.link) = u64 (s.obj (Obj.D2D_REPLAY f.link) + 1) ∧
        t = { s with reg := t.reg, inject := t.inject }))

/-- R525: WRITE and TABLE_WRITE of MC_FW_STAGE, BOOT_READY, WARM_RESTART_READY. -/
def Obligations.FirmwareIsStaged : Prop :=
  ∀ s : State,
  let written := 2 ^ 28
  (∃ r, dictFind 0x03 0 0x10 = some r ∧ r.n = 32768 ∧ r.w = 64) ∧
  (∀ (rq : Rq) (x : Sender) (obj index : Nat) (val v : Val), objKey obj index = Obj.MC_FW_STAGE index →
    Accepted rq x (Obj.MC_FW_STAGE index) val v s → ∃ t : State, exec (.write rq obj index val) s = .next (t.answered rq) ∧
      t.obj (Obj.MC_FW_STAGE index) = v.v ∧ t.obj Obj.MC_FW_STAGE_STATE = written ∧
      (∀ k, k ≠ Obj.MC_FW_STAGE index → k ≠ Obj.MC_FW_STAGE_STATE → t.obj k = (s.served rq x).obj k) ∧
      t = { s.served rq x with reg := t.reg }) ∧
  (∀ (rq : Rq) (x : Sender) (obj first : Nat) (elements : List Nat), objKey obj first = Obj.MC_FW_STAGE first →
    Served Op.tableWrite 1 rq x s → rq.lenOk = true → 0 < elements.length → first + elements.length ≤ 32768 → elements.length * 64 ≤ 65508 →
    ∃ t : State, exec (.tableWrite rq obj first elements.length (elements.length * 64) elements) s = .next (t.deliver rq Op.tableWrite .ok []) ∧
      (∀ i, i < elements.length → t.obj (Obj.MC_FW_STAGE (first + i)) = elements.getD i 0) ∧ t.obj Obj.MC_FW_STAGE_STATE = written ∧
      t = { s.served rq x with reg := t.reg }) ∧
  ∀ (c : Instr) (t : State), c = .warmRestartReady ∨ (∃ e, c = .bootReady e) → s.bar.bootState ≠ 3 → exec c s = .next t → t.bar.bootState = 3 →
    (∀ w, t.obj (Obj.MC_FW_STAGE w) = 0) ∧ t.obj Obj.MC_FW_STAGE_STATE = 0

/-- PWR_DOM_SLEEP, PWR_DOM_WAKE, DOMAIN_ENTRY_HANDSHAKE, ENTRY_DELAY_TIMEOUT, DOMAIN_ENTRY_STEP_END, WAKE_N_ASSERT, DOMAIN_RAMP_DONE,
DOMAIN_CLOCK_SWITCH, PWR_PAD_RELEASE write. -/
def Obligations.DomainsSleepAndWake : Prop :=
  ∀ (d : Fin 20) (s : State),
  let state := s.obj (Obj.PWR_DOM_STATE d)
  let run := s.dom d
  let a := { s with now := s.now + 1, tick := s.nextTick }
  let sent := fun (rq : Rq) (t : State) => (match rq.slot with
    | none => t.bar.response
    | some k => Map.get none t.owed (Key.unit k)).map Response.status
  (∀ (rq : Rq) (x : Sender),
    let u := s.served rq x
    (Accepted rq x (Obj.PWR_DOM_REQ d) ⟨2, 1⟩ ⟨2, 1⟩ s →
      (sleepTarget d (s.obj (Obj.PWR_DOM_TOL d)) = none → exec (.pwrDomSleep rq d) s = .next (u.deliver rq Op.write .range [])) ∧
      (∀ target, sleepTarget d (s.obj (Obj.PWR_DOM_TOL d)) = some target →
        (state ≠ 0 → exec (.pwrDomSleep rq d) s = .next (u.deliver rq Op.write .precond [])) ∧
        (state = 0 → ∃ t : State, exec (.pwrDomSleep rq d) s = .next t ∧ t.obj (Obj.PWR_DOM_TARGET d) = target ∧ (t.dom d).request = some rq ∧
          (⟨s.now + 1, .domSleep d target⟩ : Pending) ∈ t.agenda ∧ (∀ b y, (⟨b, .domSleep d y⟩ : Pending) ∈ t.agenda → y = target ∧ b = s.now + 1) ∧
          t.obj (Obj.PWR_DOM_STATE d) = 0 ∧ (rq.slot = none → t.bar.own = true) ∧
          (∀ old, run.request = some old → sent old t = some Status.ok.code)))) ∧
    (Accepted rq x (Obj.PWR_DOM_REQ d) ⟨2, 0⟩ ⟨2, 0⟩ s → run.request = none →
      let v := { u with agenda := s.agenda.filter fun p => match p.due with
        | .domSleep i _ => !decide (i = d.val)
        | .domWake i pin => !(decide (i = d.val) && !pin)
        | _ => true }
      exec (.pwrDomWake rq d) s = .next ((if state = 0 then v else v.plan (s.now + 1) (.domWake d false)).answered rq)) ∧
    ∀ val v : Val, Accepted rq x (Obj.PWR_PAD_RELEASE d) val v s →
      (s.domOn d = false → exec (.pwrPadRelease rq d val) s = .next (u.deliver rq Op.write .precond [])) ∧
      (s.domOn d = true → ∃ t : State, exec (.pwrPadRelease rq d val) s = .next (t.answered rq) ∧ t.obj (Obj.PWR_PAD_HELD d) = 0 ∧
        (d.val < 4 ∨ 12 ≤ d.val → t = u.setObj (Obj.PWR_PAD_HELD d) 0))) ∧
  (∀ (rq : Rq) (target : Nat) (delaying : Option Nat), a.dueSleeps.find? (fun y => decide (y.1 = d.val)) = some (d.val, target) → run.request = some rq →
    (d.val ∈ a.dueWakes → ∃ t : State, exec (.domainEntryHandshake d delaying) s = .next t ∧ sent rq t = some Status.abandoned.code ∧
      t.obj (Obj.PWR_DOM_STATE d) = state ∧ t.changes = s.changes) ∧
    (∀ b, d.val ∉ a.dueWakes → state = 0 → s.refusing d = some b → ∃ t : State, exec (.domainEntryHandshake d delaying) s = .next t ∧
      sent rq t = some Status.precond.code ∧ t.obj (Obj.PWR_DOM_STATE d) = 0 ∧ t.obj (Obj.PWR_DOM_STATUS d) = 2 * 2 ^ 28 + b * 2 ^ 16 ∧
      t.changes = s.changes ++ [⟨Ev.PWR_REFUSED.code, false, s.nextTick, contentOf Ev.PWR_REFUSED.widths [d, b]⟩]) ∧
    (d.val ∉ a.dueWakes → state = 0 → s.refusing d = none → ∃ t : State, exec (.domainEntryHandshake d delaying) s = .next t ∧
      t.obj (Obj.PWR_DOM_STATE d) = 4 ∧ t.obj (Obj.PWR_DOM_TARGET d) = target ∧ (t.dom d).step = 1 ∧ (t.dom d).since = s.now + 1 ∧
      (t.dom d).request = none ∧ (t.dom d).delaying = if d.val < 4 ∧ (s.engine d).lspiBusy = true then some 3 else delaying)) ∧
  (a.dueSleeps.find? (fun y => decide (y.1 = d.val)) = none → ∀ delaying, exec (.domainEntryHandshake d delaying) s = .next s) ∧
  (∀ b, run.delaying = some b → run.entering = true → run.step = 1 →
    (s.now + 1 < run.since + 800 → exec (.entryDelayTimeout d) s = .next s) ∧
    (run.since + 800 ≤ s.now + 1 → ∃ t : State, exec (.entryDelayTimeout d) s = .next t ∧ t.obj (Obj.PWR_DOM_STATE d) = 0 ∧
      t.obj (Obj.PWR_DOM_STATUS d) = 2 * 2 ^ 28 + b * 2 ^ 16 ∧ (t.dom d).step = 0 ∧
      ⟨Ev.PWR_REFUSED.code, false, s.nextTick, contentOf Ev.PWR_REFUSED.widths [d, b]⟩ ∈ t.changes)) ∧
  (let target := s.obj (Obj.PWR_DOM_TARGET d)
    let passed := max run.passed (abortPoint target run.step)
    run.step ≠ 0 → run.delaying = none → run.wake = none → run.on ≠ some (s.now + 1) → d.val ∉ a.dueWakes →
    a.dueSleeps.find? (fun y => decide (y.1 = d.val)) = none → run.since + stepLength d run.step ≤ s.now + 1 →
    (nextStep d target run.step ≠ 0 → ∃ t : State, exec (.domainEntryStepEnd d) s = .next t ∧ (t.dom d).step = nextStep d target run.step ∧
      (t.dom d).since = s.now + 1 ∧ (t.dom d).passed = passed ∧ t.obj (Obj.PWR_DOM_STATE d) = state) ∧
    (nextStep d target run.step = 0 → run.waits = false → ∃ t : State, exec (.domainEntryStepEnd d) s = .next t ∧ t.obj (Obj.PWR_DOM_STATE d) = target ∧
      t.obj (Obj.PWR_DOM_STATUS d) = 2 ^ 28 + passed * 2 ^ 26 ∧ (t.dom d).step = 0 ∧
      ⟨Ev.PWR_STATE.code, false, s.nextTick, contentOf Ev.PWR_STATE.widths [d, 0, target, 1]⟩ ∈ t.changes)) ∧
  (run.step = 0 → exec (.domainEntryStepEnd d) s = .next s) ∧
  (s.ready = true → s.power.quiescentBy = none → ∃ t : State, exec .wakeNAssert s = .next t ∧ t = { s with agenda := t.agenda } ∧
    (∀ p ∈ s.agenda, p ∈ t.agenda) ∧
    ∀ k : Nat, k < 19 → bit (s.obj Obj.PWR_WAKE_MASK) k = true → (⟨s.now + 1, .domWake k true⟩ : Pending) ∈ t.agenda) ∧
  (∀ rq, s.ready = true → s.power.quiescentBy = some rq → ∃ t : State, exec .wakeNAssert s = .next t ∧ t.power.quiescent = 0 ∧
    t.power.quiescentBy = none ∧ sent rq t = some Status.abandoned.code) ∧
  (∀ failed : List (Fin 3),
    let ramped := ∃ since, s.power.ramp = some (d.val, since) ∧ run.ramping = true ∧ since + switchTicks d ≤ s.now
    (¬ ramped → exec (.domainRampDone d failed) s = .next s) ∧
    (ramped → failed = [] ∨ run.leaves ≠ 2 → ∃ t : State, exec (.domainRampDone d failed) s = .next t ∧ (t.dom d).ramping = false ∧
      (t.dom d).clocking = true ∧ (t.dom d).fromOff = false ∧ t = { s with power := t.power }) ∧
    (ramped → run.leaves = 2 → ∀ b ∈ failed, b.val < bankCount d → ∃ t : State, exec (.domainRampDone d failed) s = .next t ∧
      (t.dom d).ramping = false ∧ (t.dom d).clocking = true ∧ (t.dom d).fromOff = true ∧ t.declared Df.retain (8 * d + b) = true ∧
      bit (t.obj (Obj.PWR_RETAIN_FAIL d)) b = true)) ∧
  (let switched := s.ready = true ∧ run.clocking = true;
    (switched → ∃ t : State, exec (.domainClockSwitch d) s = .next t ∧ t.obj (Obj.PWR_DOM_CLK d) = 1 ∧ (t.dom d).on = some (s.now + 1) ∧
      (t.dom d).clocking = false ∧ (∀ k, k ≠ Obj.PWR_DOM_CLK d → t.obj k = s.obj k) ∧ t = { s with reg := t.reg, power := t.power }) ∧
    (¬ switched → exec (.domainClockSwitch d) s = .next s))

/-- REGULATOR_ACK, REGULATOR_TIMEOUT, PMB_ALERT, PWR_RAIL_RETRY, AVS_STEP, SUPPLY_WARNING, SUPPLY_RECOVER, SUPPLY_RESET, SUPPLY_RESET_RELEASE. -/
def Obligations.RailsFollowTheirRegulators : Prop :=
  ∀ (r : Fin 12) (s : State),
  let rail := s.obj (Obj.PWR_RAIL_STATE r)
  let active := s.obj Obj.PWR_WARN_ACTIVE
  let asked := s.railRequest r
  (asked = none → exec (.regulatorAck r) s = .next s ∧ ∀ ticks, exec (.regulatorTimeout r ticks) s = .next s) ∧
  (∀ q, asked = some q → s.power.quiescent ≠ 3 → s.power.quiescent ≠ 1 → (r.val ≠ 0 ∨ s.raising = []) → ∃ t : State, exec (.regulatorAck r) s = .next t ∧
    t.railRequest r = none ∧ t.obj (Obj.PWR_RAIL_SET r) = (if q.kind = 3 then s.obj (Obj.PWR_RAIL_SET r) else q.target) ∧
    t.obj (Obj.PWR_RAIL_STATE r) = (if q.kind = 3 then 3 else if bit active r then 1 else 0) ∧
    (∀ k, k ≠ Obj.PWR_RAIL_SET r → k ≠ Obj.PWR_RAIL_STATE r → t.obj k = s.obj k) ∧ t = { s with reg := t.reg, power := t.power }) ∧
  (∀ q d, asked = some q → q.kind = 1 → q.wake = true → r.val = 0 → d ∈ s.raising → s.power.quiescent = 0 → ∃ t : State, exec (.regulatorAck r) s = .next t ∧
    t.obj (Obj.PWR_RAIL_SET 0) = q.target ∧ (t.dom d).ramping = true ∧ (t.dom d).raise = false) ∧
  (∀ q ticks, asked = some q →
    (ticks < 4000 → exec (.regulatorTimeout r ticks) s = .next s) ∧
    (4000 ≤ ticks → ∃ t : State, exec (.regulatorTimeout r ticks) s = .next t ∧ t.obj (Obj.PWR_RAIL_STATE r) = 2 ∧ t.railRequest r = none ∧
      Map.get none t.power.failed (Key.unit r) = some q ∧
      ⟨Ev.REG_FAULT.code, false, s.tick, contentOf Ev.REG_FAULT.widths [r, q.kind]⟩ ∈ t.changes ∧
      (r.val = 0 → ∀ d ∈ s.raising, t.obj (Obj.PWR_DOM_STATE d) = (s.dom d).leaves))) ∧
  exec (.pmbAlert [r]) s = .next { s with changes := s.changes ++
    [⟨Ev.REG_FAULT.code, false, s.tick, contentOf Ev.REG_FAULT.widths [r, (asked.map (·.kind)).getD 0]⟩] } ∧
  (∀ (rq : Rq) (x : Sender) (val v : Val), Accepted rq x (Obj.PWR_RAIL_RETRY r) val v s →
    let u := s.served rq x
    let failed := Map.get none s.power.failed (Key.unit r)
    (rail ≠ 2 ∨ failed = none → exec (.pwrRailRetry rq r val) s = .next (u.deliver rq Op.write .precond [])) ∧
    (∀ q, rail = 2 → failed = some q → exec (.pwrRailRetry rq r val) s = .next (
      if asked.isSome then u.deliver rq Op.write .busy [] else (u.setRequest r (some ⟨q.kind, q.target, s.now, false⟩)).answered rq))) ∧
  (∀ up : Bool,
    let v := if s.obj (Obj.PWR_RAIL_SET 0) = 0 then 800000 else s.obj (Obj.PWR_RAIL_SET 0)
    let allowed := s.obj Obj.PWR_AVS_EN = 1 ∧ (∀ b, s.power.avsAt = some b → b + 800 ≤ s.now) ∧ s.railRequest 0 = none ∧ s.obj (Obj.PWR_RAIL_STATE 0) ≠ 2 ∧
      (up = true → v < 800000) ∧ (up = false → 700000 < v ∧ active = 0 ∧ ∀ d ∈ rampOrder, s.obj (Obj.PWR_DOM_STATE d) ≠ 5)
    (allowed → ∃ t : State, exec (.avsStep up) s = .next t ∧
      t.railRequest 0 = some ⟨1, if up then min 800000 (v + 5000) else max 700000 (v - 5000), s.now, false⟩ ∧ t.power.avsAt = some s.now ∧
      t = { s with power := t.power }) ∧
    (¬ allowed → exec (.avsStep up) s = .next s)) ∧
  (∀ voltage samples : Nat,
    let warns := s.armed r = true ∧ 2 ≤ samples ∧ voltage < s.setpoint r * (1000 - s.obj (Obj.PWR_WARN_LVL r)) / 1000 ∧ bit active r = false
    (warns → ∃ t : State, exec (.supplyWarning r voltage samples) s = .next t ∧ t.obj Obj.PWR_WARN_ACTIVE = withBit active r true ∧
      t.obj (Obj.PWR_DIP_LOG 0) = packBytes [(1, r), (1, 0x80), (2, 0), (4, voltage), (4, 0), (4, s.tick)] ∧
      (∀ k, k < 15 → t.obj (Obj.PWR_DIP_LOG (k + 1)) = s.obj (Obj.PWR_DIP_LOG k)) ∧
      t.obj (Obj.PWR_RAIL_STATE r) = (if rail = 0 then 1 else rail) ∧
      t.changes = s.changes ++ [⟨Ev.SUPPLY_WARN.code, false, s.tick, contentOf Ev.SUPPLY_WARN.widths [r, 1, voltage, 0]⟩]) ∧
    (¬ warns → exec (.supplyWarning r voltage samples) s = .next s)) ∧
  (∀ voltage minimum ticks : Nat,
    let ends := bit active r = true ∧ 8 ≤ ticks ∧ s.recoverLevel r ≤ voltage
    (ends → withBit active r false ≠ 0 → ∃ t : State, exec (.supplyRecover r voltage minimum ticks) s = .next t ∧
      t.obj Obj.PWR_WARN_ACTIVE = withBit active r false ∧ t.obj (Obj.PWR_DIP_COUNT r) = u64 (s.obj (Obj.PWR_DIP_COUNT r) + 1) ∧
      t.obj (Obj.PWR_RAIL_STATE r) = (if rail = 1 then 0 else rail) ∧
      t.changes = s.changes ++ [⟨Ev.SUPPLY_WARN.code, false, s.tick, contentOf Ev.SUPPLY_WARN.widths [r, 0, minimum, (s.closeDip r minimum).2]⟩] ∧
      t = { s with reg := t.reg, changes := t.changes }) ∧
    (ends → ∃ t : State, exec (.supplyRecover r voltage minimum ticks) s = .next t ∧ bit (t.obj Obj.PWR_WARN_ACTIVE) r = false) ∧
    (¬ ends → exec (.supplyRecover r voltage minimum ticks) s = .next s)) ∧
  (∀ voltage samples : Nat,
    let resets := s.mc.held = 0 ∧ s.armed r = true ∧ 5 ≤ samples ∧ voltage < s.setpoint r * (1000 - s.obj (Obj.PWR_RESET_LVL r)) / 1000
    (resets → ∃ t : State, exec (.supplyReset r voltage samples) s = .next t ∧ t.mc.held = 2 ∧ t.running = false ∧ t.bar.bootCause = 3 ∧
      t.act = State.reset.act ∧ t.shd = State.reset.shd ∧ t.mc.slotB = (if s.mc.programming.map (·.1) = some 2 then none else s.mc.slotB)) ∧
    (¬ resets → exec (.supplyReset r voltage samples) s = .next s)) ∧
  ∀ samples : Nat,
    (s.mc.held = 2 → 1000 ≤ samples → ∃ t : State, exec (.supplyResetRelease samples) s = .next t ∧ t.mc.held = 0 ∧
      t.obj Obj.ONION_COUNT ≠ s.obj Obj.ONION_COUNT) ∧
    (s.mc.held ≠ 2 ∨ samples < 1000 → exec (.supplyResetRelease samples) s = .next s)

/-- PORST_N_RELEASE, PORST_N_ASSERT, CORE_PLL_UNLOCK, TICK_BOUNDARY at step 10 of the boot, BOOT_READY, FW_CHUNK, FW_END, PCIE_LINK_LOSS, PCIE_LINK_UP, PWR_QUIESCENT, QUIESCENT_EXIT,
QUIESCENT_RAIL_RETRY. That BOOT_READY passes steps 8 to 12 at once where no boundary has opened tick 0, with its operand as the elapsed tick, is
the model's choice (log entry 151); of the codes of a failed boot only 13 comes after the clocks are switched. -/
def Obligations.TheDeviceBootsAndRests : Prop :=
  ∀ s : State,
  (∀ b : Board,
    (s.mc.held = 2 ∨ s.running = true ∨ s.mc.running.isSome = true ∨ s.mc.loading = true → exec (.porstNRelease b) s = .next s) ∧
    (s.mc.held ≠ 2 → s.running = false → s.mc.running = none → s.mc.loading = false →
      let code := fun (y : Option FwImage) => if b.qspiOk = false then 10 else match y with
        | none => 1
        | some i => i.check (s.obj Obj.SEC_OWNER_KEY_DIGEST) (s.obj Obj.SEC_OTP_SV)
      ∃ t : State, exec (.porstNRelease b) s = .next t ∧ t.mc.held = 0 ∧ t.mc.node = b.node ∧ t.mc.pcie = b.pcie ∧ t.mc.source = b.source ∧
        (∀ i, b.source ≠ 1 → b.slotA = some i → code b.slotA = 0 → t.bar.bootState = 2 ∧ t.mc.running = some i ∧ t.obj Obj.SEC_FW_VERSION = i.version) ∧
        (∀ i, b.source ≠ 1 → code b.slotA ≠ 0 → b.slotB = some i → code b.slotB = 0 → t.bar.bootState = 2 ∧ t.mc.running = some i) ∧
        (b.source ≠ 1 → code b.slotA ≠ 0 → code b.slotB ≠ 0 → b.source = 2 ∨ b.pcie = false → t.bar.bootState = 4 ∧ t.bar.bootError = code b.slotB) ∧
        (b.source = 1 → t.bar.bootState = 0 ∧ t.mc.loading = true))) ∧
  (∃ t : State, exec .porstNAssert s = .next t ∧ t.mc.held = 1 ∧ t.running = false ∧ t.bar.bootCause = 1 ∧ t.pending = s.pending ∧
    t.obj Obj.SEC_OTP_SV = s.obj Obj.SEC_OTP_SV ∧ t.act = State.reset.act) ∧
  (let starts := s.bar.bootState = 2 ∧ s.mc.remap = true ∧ s.running = false ∧ s.mc.held = 0 ∧ s.power.quiescent = 0;
    (s.running = false → ¬ starts → exec .corePllUnlock s = .next s) ∧
    (s.running = true ∨ starts → ∃ t : State, exec .corePllUnlock s = .next t ∧ t.bar.bootCause = 2 ∧ t.pllLatch = true ∧ t.mc.pllTick = s.tick ∧
      t.running = false) ∧
    (starts → s.startTicks.running = true ∧ s.startTicks.tick = 0 ∧ s.startTicks.mc.initialising = true ∧
      ∀ w : TickIn, ∃ t : State, exec (.tickBoundary w) s = .next t ∧ t = s.startTicks.beginTick w s.prot.records ∧ t.now = 0)) ∧
  (∀ e : BootEnd,
    let waits := s.bar.bootState = 2 ∧ s.mc.remap = true ∧ (s.running = false ∨ s.mc.initialising = true)
    (¬ waits → exec (.bootReady e) s = .next s) ∧
    (waits → e.error = 0 → ∃ t : State, exec (.bootReady e) s = .next t ∧ t.bar.bootState = 3 ∧ t.running = true ∧ t.mc.initialising = false ∧
      t.tick = (if s.running then s.tick else e.tick) ∧ t.obj Obj.MC_FW_STAGE_STATE = 0 ∧
      (s.prism.fenced = [] → s.prism.lostSlices = [] → s.prism.xorLost = false → t.obj Obj.PRISM_STATE = 1) ∧
      (s.running = false → ∀ k, k < 8 → t.obj (Obj.PWR_RAIL_SET (2 + k)) = railNominal (2 + k)) ∧
      (e.hbm = false → ⟨Ev.BOOT_HBM.code, false, t.tick, contentOf Ev.BOOT_HBM.widths []⟩ ∈ t.changes) ∧
      (s.pllLatch = true → t.pllLatch = false ∧ ⟨Ev.CORE_PLL_UNLOCK.code, false, s.mc.pllTick, contentOf Ev.CORE_PLL_UNLOCK.widths []⟩ ∈ t.changes)) ∧
    (waits → e.error ≠ 0 → ∃ t : State, exec (.bootReady e) s = .next t ∧ t.bar.bootState = 4 ∧ t.bar.bootError = e.error ∧
      t.running = (s.running || decide (e.error = 13)) ∧
      (e.error = 11 → t.obj (Obj.PWR_RAIL_STATE e.rail) = 2))) ∧
  (∀ rq : Rq, s.alive = true → s.bar.own = false →
    let answer := fun (t : State) op st => (t.deliver rq op st [] : State)
    (s.loads = false → ∀ offset bytes data, exec (.fwChunk rq offset bytes data) s = .next (answer s 0x20 (if s.ready then .range else .busy))) ∧
    (s.loads = true → rq.ver = 1 → rq.slot = none → rq.session = 0 → rq.lenOk = true →
      (∀ offset bytes data,
        (bytes < 16 ∨ 65516 < bytes → exec (.fwChunk rq offset bytes data) s = .next (answer s 0x20 .type)) ∧
        (16 ≤ bytes → bytes ≤ 65516 → offset % 16 ≠ 0 ∨ 2097152 < offset + bytes →
          exec (.fwChunk rq offset bytes data) s = .next (answer s 0x20 .range)) ∧
        (16 ≤ bytes → bytes ≤ 65516 → offset % 16 = 0 → offset + bytes ≤ 2097152 → ∃ t : State,
          exec (.fwChunk rq offset bytes data) s = .next (answer t 0x20 .ok) ∧ t.bar.bootState = 1 ∧
          (∀ k, (∀ w, k ≠ Obj.MC_FW_STAGE w) → t.obj k = s.obj k) ∧
          (offset % 64 = 0 → bytes = 64 → data < 256 ^ 64 → t.obj (Obj.MC_FW_STAGE (offset / 64)) % 256 ^ 64 = data))) ∧
      ∀ length,
        (2097152 < length → exec (.fwEnd rq length) s = .next (answer s 0x21 .range)) ∧
        (length ≤ 2097152 →
          let i := s.stagedImage length
          let code := i.check (s.obj Obj.SEC_OWNER_KEY_DIGEST) (s.obj Obj.SEC_OTP_SV)
          ∃ t : State, exec (.fwEnd rq length) s = .next (answer t 0x21 .ok) ∧
            (code = 0 → t.bar.bootState = 2 ∧ t.mc.running = some i ∧ t.mc.remap = true ∧ t.obj Obj.SEC_FW_VERSION = i.version) ∧
            (code ≠ 0 → t.bar.bootState = 4 ∧ t.bar.bootError = code ∧ t.mc.running = s.mc.running)))) ∧
  (∀ bursts : List Burst, ∃ t : State, exec (.pcieLinkLoss bursts) s = .next t ∧ t.mc.pcie = false ∧ t.bar.response = none ∧ t.bar.own = false ∧
    (∀ r ∈ t.resyncs, r.2.slot.isSome = true) ∧ t.act = s.act ∧ t.shd = s.shd ∧ (∀ m ∈ t.mc.reserved, m.1 ≠ 2)) ∧
  exec .pcieLinkUp s = .next (if s.mc.held = 0 ∧ s.power.quiescent < 2 then { s with mc := { s.mc with pcie := true } } else s) ∧
  (∀ (rq : Rq) (x : Sender) (val v : Val) (wakeN : Bool), Accepted rq x Obj.PWR_QUIESCENT val v s →
    let u := s.served rq x
    let may := (∀ d ∈ rampOrder, s.obj (Obj.PWR_DOM_STATE d) = 3) ∧ wakeN = true ∧ s.power.quiescent = 0
    (¬ may → exec (.pwrQuiescent rq val wakeN) s = .next (u.deliver rq Op.write .precond [])) ∧
    (may → ∃ t : State, exec (.pwrQuiescent rq val wakeN) s = .next t ∧ t.power.quiescent = 1 ∧ t.power.quiescentBy = some rq ∧
      (rq.slot = none → t.bar.own = true) ∧ t = { u with power := t.power, bar := t.bar })) ∧
  (∀ (byRing : Bool) (q : RingCopy),
    let called := byRing = false ∨ (s.obj Obj.PWR_VY_WAKE = 1 ∧ q.hcrcOk = true ∧ q.ringId = s.obj Obj.VY_RING_ID ∧
      ∃ x ∈ q.requests, x.node = s.mc.node ∧ 0 < x.len)
    (s.power.quiescent = 2 → called → ∃ t : State, exec (.quiescentExit byRing q) s = .next t ∧ t.power.quiescent = 3 ∧
      t.railRequest 0 = some ⟨2, 800000, s.now, false⟩ ∧ t.railRequest 1 = some ⟨2, 800000, s.now, false⟩ ∧ t = { s with power := t.power }) ∧
    (s.power.quiescent ≠ 2 ∨ ¬ called → exec (.quiescentExit byRing q) s = .next s)) ∧
  ∀ (r : Fin 12) (ticks : Nat), exec (.quiescentRailRetry r ticks) s = .next (
    match Map.get none s.power.failed (Key.unit r) with
    | some q => if s.power.quiescent = 3 ∧ 8000000 ≤ ticks ∧ s.railRequest r = none then s.setRequest r (some ⟨q.kind, q.target, s.now, q.wake⟩) else s
    | none => s)

/-- SEC_SV_COMMIT, SEC_OWNER_FUSE, SEC_ATTEST_NONCE, ATTEST_DONE, MC_FW_CHECK, FW_CHECK_DONE, MC_FW_PROGRAM in its two forms, FW_PROGRAM_DONE,
MC_FW_ACTIVATE. The signature is the opaque standard function; its randomness is a free value. -/
def Obligations.SecurityServicesAndUpgrade : Prop :=
  ∀ s : State,
  let stage := field (s.obj Obj.MC_FW_STAGE_STATE) 31 28
  (∀ (rq : Rq) (x : Sender) (val v : Val),
    let u := s.served rq x
    (∀ burned, Accepted rq x Obj.SEC_SV_COMMIT val v s →
      let new := s.obj Obj.SEC_FW_SV
      let old := s.obj Obj.SEC_OTP_SV
      let may := old < new ∧ s.obj Obj.PWR_WARN_ACTIVE = 0 ∧ s.mc.activating = none
      (¬ may → exec (.secSvCommit rq val burned) s = .next (u.deliver rq Op.write .precond [])) ∧
      (may → ∃ t : State, exec (.secSvCommit rq val burned) s = .next (t.answered rq) ∧
        t.obj Obj.SEC_OTP_SV = min (min new 128) (old + burned) ∧
        t.changes = s.changes ++ (if min new 128 ≤ old + burned
          then [⟨Ev.OTP.code, false, s.tick, contentOf Ev.OTP.widths [min (min new 128) (old + burned)]⟩] else []) ∧
        (min new 128 ≤ old + burned → t.obj Obj.ONION_COUNT = s.obj Obj.ONION_COUNT + 1))) ∧
    (Accepted rq x Obj.SEC_OWNER_FUSE val v s →
      let may := s.obj Obj.SEC_OWNER_KEY_DIGEST = 0 ∧ s.obj Obj.PWR_WARN_ACTIVE = 0 ∧ ∃ i, s.mc.running = some i ∧ i.ownerBlock = true ∧ i.ownerDigest = v.v
      (¬ may → exec (.secOwnerFuse rq val) s = .next (u.deliver rq Op.write .precond [])) ∧
      (may → ∃ t : State, exec (.secOwnerFuse rq val) s = .next (t.answered rq) ∧ t.obj Obj.SEC_OWNER_KEY_DIGEST = v.v ∧
        t.changes = s.changes ++ [⟨Ev.OTP.code, false, s.tick, contentOf Ev.OTP.widths [s.obj Obj.SEC_OTP_SV]⟩] ∧
        t.obj Obj.ONION_COUNT = s.obj Obj.ONION_COUNT + 1)) ∧
    (Accepted rq x Obj.SEC_ATTEST_NONCE val v s → exec (.secAttestNonce rq val) s =
      .next ({ u.setObj Obj.SEC_ATTEST_STATE 1 with mc := { s.mc with nonce := some v.v } }.answered rq)) ∧
    (Accepted rq x Obj.MC_FW_CHECK val v s → exec (.mcFwCheck rq val) s = .next (
      if stage = 0 then u.deliver rq Op.write .precond [] else if stage = 2 then u.deliver rq Op.write .busy []
      else (u.setObj Obj.MC_FW_STAGE_STATE (2 * 2 ^ 28)).answered rq)) ∧
    (Accepted rq x Obj.MC_FW_ACTIVATE val v s →
      (stage ≠ 3 → exec (.mcFwActivate rq val) s = .next (u.deliver rq Op.write .precond [])) ∧
      (stage = 3 → s.mc.programming.isSome = true → exec (.mcFwActivate rq val) s = .next (u.deliver rq Op.write .busy [])) ∧
      (stage = 3 → s.mc.programming = none → ∃ t : State, exec (.mcFwActivate rq val) s = .next (t.answered rq) ∧
        t.mc.restart = some (s.mc.restart.getD 2) ∧ t.mc.activating = some (s.obj Obj.SEC_FW_VERSION) ∧ t = { u with mc := t.mc })) ∧
    ∀ (slot : Nat) (c : Instr), (slot, c) ∈ [(1, Instr.mcFwProgramSlotA rq), (2, .mcFwProgramSlotB rq)] →
      Accepted rq x Obj.MC_FW_PROGRAM ⟨2, slot⟩ ⟨2, slot⟩ s →
      (stage ≠ 3 → exec c s = .next (u.deliver rq Op.write .precond [])) ∧
      (stage = 3 → s.mc.programming.isSome = true → exec c s = .next (u.deliver rq Op.write .busy [])) ∧
      (stage = 3 → s.mc.programming = none → ∃ t : State, exec c s = .next (t.answered rq) ∧ t.obj Obj.MC_FW_PROGRAM_STATE = 1 ∧
        t.mc.programming = some (slot, s.staged) ∧ (if slot = 1 then t.mc.slotA = none ∧ t.mc.slotB = s.mc.slotB
          else t.mc.slotB = none ∧ t.mc.slotA = s.mc.slotA) ∧ t = { u with reg := t.reg, mc := t.mc })) ∧
  (∀ n, s.mc.nonce = some n → s.obj Obj.SEC_ATTEST_STATE = 1 →
    let body := packBytes [(4, 1), (32, n), (32, s.obj Obj.ONION_CHAIN), (4, s.obj Obj.ONION_COUNT), (8, s.tick), (8, s.obj Obj.SEC_FW_VERSION),
      (32, s.obj Obj.DEV_ID_DIGEST)]
    ∃ t : State, exec .attestDone s = .next t ∧ t.obj Obj.SEC_ATTEST_STATE = 2 ∧ t.mc.nonce = none ∧
      (∃ signature, t.obj Obj.SEC_ATTEST_REPORT = packBytes [(120, body), (3309, signature)]) ∧
      (∀ k, k ≠ Obj.SEC_ATTEST_STATE → k ≠ Obj.SEC_ATTEST_REPORT → t.obj k = s.obj k) ∧
      t = { s with reg := t.reg, mc := t.mc, fresh := t.fresh }) ∧
  (s.mc.nonce = none → exec .attestDone s = .next s) ∧
  (stage ≠ 2 → exec .fwCheckDone s = .next s) ∧
  (stage = 2 →
    let code := s.staged.check (s.obj Obj.SEC_OWNER_KEY_DIGEST) (s.obj Obj.SEC_OTP_SV)
    let outcome := if code = 0 then 3 else 4
    exec .fwCheckDone s = .next { s.setObj Obj.MC_FW_STAGE_STATE (outcome * 2 ^ 28 + code) with changes := s.changes ++
      [⟨Ev.FW_CHECK.code, false, s.tick, contentOf Ev.FW_CHECK.widths [outcome, code]⟩] }) ∧
  (∀ (ok : Bool) (slot : Nat) (image : FwImage), s.mc.programming = some (slot, image) → ∃ t : State, exec (.fwProgramDone ok) s = .next t ∧
    t.obj Obj.MC_FW_PROGRAM_STATE = (if ok then 3 else 4) ∧ t.mc.programming = none ∧
    (if slot = 1 then t.mc.slotA else t.mc.slotB) = (if ok then some image else none) ∧
    (if slot = 1 then t.mc.slotB = s.mc.slotB else t.mc.slotA = s.mc.slotA) ∧
    (∀ k, k ≠ Obj.MC_FW_PROGRAM_STATE → t.obj k = s.obj k) ∧ t = { s with reg := t.reg, mc := t.mc }) ∧
  (s.mc.programming = none → ∀ ok, exec (.fwProgramDone ok) s = .next s)

/-- LOCKSTEP_MISMATCH, WATCHDOG_EXPIRE, MC_RESTART, WARM_RESTART, WARM_RESTART_READY. -/
def Obligations.TheComplexRestarts : Prop :=
  ∀ s : State,
  let boot := s.bar.bootState
  (∀ pair : Fin 2, ∃ t : State, exec (.lockstepMismatch pair) s = .next t ∧ t.obj Obj.MC_LOCKSTEP_ERR = u64 (s.obj Obj.MC_LOCKSTEP_ERR + 1) ∧
    t.changes = s.changes ++ [⟨Ev.LOCKSTEP.code, false, s.tick, contentOf Ev.LOCKSTEP.widths [pair]⟩] ∧
    t.mc.restart = (if boot = 3 ∨ boot = 5 then some (s.mc.restart.getD 4) else s.mc.restart) ∧
    (∀ k, k ≠ Obj.MC_LOCKSTEP_ERR → t.obj k = s.obj k) ∧ t = { s with reg := t.reg, changes := t.changes, mc := t.mc }) ∧
  (∀ (pair : Fin 2) (ms : Nat),
    (boot = 3 → s.obj (Obj.MC_WDT_PERIOD pair) ≤ ms → exec (.watchdogExpire pair ms) s = .next { s with mc := { s.mc with restart := some (s.mc.restart.getD 3) } }) ∧
    (boot = 3 → ms < s.obj (Obj.MC_WDT_PERIOD pair) → exec (.watchdogExpire pair ms) s = .next s) ∧
    (boot = 5 → s.mc.activating.isSome = true → 2000 ≤ ms → exec (.watchdogExpire pair ms) s =
      .next { s with mc := { s.mc with restart := some (s.mc.restart.getD 3), running := none, activating := none } })) ∧
  (∀ (rq : Rq) (x : Sender) (val v : Val), Accepted rq x Obj.MC_RESTART val v s → exec (.mcRestart rq val) s =
    .next ({ s.served rq x with mc := { s.mc with restart := some (s.mc.restart.getD 1) } }.answered rq)) ∧
  (∀ bursts : List Burst, s.mc.restart = none → exec (.warmRestart bursts) s = .next s) ∧
  (∀ (bursts : List Burst) (cause : Nat), s.mc.restart = some cause →
    let recent := s.mc.starts.countP fun t => decide (s.now < t + 8000000)
    (2 ≤ recent → ∃ t : State, exec (.warmRestart bursts) s = .next t ∧ t.bar.bootState = 4 ∧ t.bar.bootError = 14 ∧ t.mc.restart = none ∧
      t = { s with bar := t.bar, mc := t.mc, reg := t.reg }) ∧
    (recent < 2 → ∃ t : State, exec (.warmRestart bursts) s = .next t ∧ t.bar.bootState = 5 ∧ t.obj Obj.MC_RESTART_CAUSE = cause ∧
      t.obj Obj.MC_RESTART_COUNT = u64 (s.obj Obj.MC_RESTART_COUNT + 1) ∧ t.obj Obj.MC_LAST_RESTART_TICK = s.tick ∧
      t.mc.restarting = some cause ∧ t.mc.restart = none ∧ t.mc.starts = (s.now :: s.mc.starts).take 3 ∧
      t.act = s.act ∧ t.shd = s.shd ∧ t.running = s.running ∧ t.load = none ∧ t.resyncs = [] ∧ t.obj Obj.FI_STATE ≠ 1)) ∧
  ((boot ≠ 5 ∨ s.mc.restarting = none ∨ s.mc.restart.isSome = true) →
    (boot ≠ 2 ∨ s.running = false ∨ s.mc.initialising = true ∨ s.mc.remap = false → exec .warmRestartReady s = .next s) ∧
    (boot = 2 → s.running = true → s.mc.initialising = false → s.mc.remap = true → ∃ t : State, exec .warmRestartReady s = .next t ∧
      t.bar.bootState = 3 ∧ t.mc.restarting = none ∧ t.obj Obj.MC_FW_STAGE_STATE = 0 ∧ t.act = s.act ∧ t.shd = s.shd)) ∧
  ∀ (cause : Nat) (i : FwImage), boot = 5 → s.mc.restarting = some cause → cause ≠ 2 → s.mc.restart = none → s.mc.running = some i →
    i.check (s.obj Obj.SEC_OWNER_KEY_DIGEST) (s.obj Obj.SEC_OTP_SV) = 0 →
    ∃ t : State, exec .warmRestartReady s = .next t ∧ t.bar.bootState = 3 ∧ t.mc.restarting = none ∧ t.mc.running = some i ∧ t.mc.remap = true ∧
      t.obj Obj.SEC_FW_VERSION = i.version ∧ t.obj Obj.MC_FW_STAGE_STATE = 0 ∧ t.act = s.act ∧ t.shd = s.shd ∧
      ⟨Ev.MC_RESTART.code, false, s.tick, contentOf Ev.MC_RESTART.widths [s.obj Obj.MC_RESTART_CAUSE, i.version]⟩ ∈ t.changes

/-- PERF_COUNTER_OVERFLOW, PERF_DUMP, PERF_FREEZE in its two forms. -/
def Obligations.CountersCountAndDump : Prop :=
  ∀ s : State,
  (∀ (c : Fin 96) (count : Nat),
    let val := s.obj (perfVal c)
    let counts := s.obj Obj.PERF_FROZEN = 0 ∧ bit (s.obj (perfSel c)) 31 = true ∧ s.chained c = false
    (val + count < 2 ^ 32 ∨ ¬ counts → exec (.perfCounterOverflow c count) s = .next s) ∧
    (2 ^ 32 ≤ val + count → counts → ∃ t : State, exec (.perfCounterOverflow c count) s = .next t ∧ t.obj (perfVal c) = (val + count) % 2 ^ 32 ∧
      bit (t.obj (if c.val < 32 then Obj.PERF_CORE_OVF (c / 16) else Obj.PERF_DP_OVF ((c - 32) / 32))) (if c.val < 32 then c % 16 else (c - 32) % 32) = true ∧
      (c.val % 2 = 0 → s.chained (c + 1) = true →
        t.obj (perfVal (c + 1)) = (s.obj (perfVal (c + 1)) + (val + count) / 2 ^ 32) % 2 ^ 32) ∧
      (bit (s.obj (perfSel c)) 29 = true → c.val % 2 = 1 ∨ s.chained (c + 1) = false → c.val ∈ t.mc.interrupts) ∧
      t = { s with reg := t.reg, mc := t.mc, changes := t.changes })) ∧
  (∀ complete : Option Nat,
    let target := s.obj Obj.PERF_DUMP_TGT
    let at_ := s.obj Obj.PERF_DUMP_WR
    let next := (at_ + 1) % s.obj Obj.PERF_DUMP_SIZE
    let due := target ≠ 0 ∧ s.mc.dumpFrom + s.obj Obj.PERF_DUMP_PERIOD ≤ s.now
    let full := next = s.obj Obj.PERF_DUMP_RD ∨ (target = 2 ∧ s.hbmServes = false)
    (¬ due → exec (.perfDump complete) s = .next s) ∧
    (due → full → ∃ t : State, exec (.perfDump complete) s = .next t ∧ t.obj Obj.PERF_DUMP_DROP = u64 (s.obj Obj.PERF_DUMP_DROP + 1) ∧
      t.mc.dumpGap = true ∧ t.mc.dump = s.mc.dump ∧ t.obj Obj.PERF_DUMP_WR = at_) ∧
    (due → ¬ full → ∃ t : State, exec (.perfDump complete) s = .next t ∧ t.obj Obj.PERF_DUMP_WR = next ∧ t.mc.dumpGap = false ∧
      t.mc.sequence = (s.mc.sequence + 1) % 2 ^ 32 ∧ t.mc.dumpFrom = s.now ∧
      (complete = none → Map.get 0 t.mc.dump (Key.unit at_) = packBytes ([(4, s.mc.dumpGap.toNat * 2 ^ 30 + s.obj Obj.PERF_FROZEN % 2 * 2 ^ 29 + 96),
        (4, s.mc.sequence), (8, s.tick)] ++ ((List.range 96).map fun c => (4, s.obj (perfVal c))) ++ [(112, 0)])) ∧
      (∀ k, k ≠ Obj.PERF_DUMP_WR → t.obj k = s.obj k) ∧ t = { s with reg := t.reg, mc := t.mc })) ∧
  ∀ (rq : Rq) (x : Sender) (on : Nat) (c : Instr), (on, c) ∈ [(1, Instr.perfFreeze rq), (0, .perfResume rq)] →
    Accepted rq x Obj.PERF_FREEZE ⟨2, on⟩ ⟨2, on⟩ s →
    exec c s = .next (((s.served rq x).plan (s.now + 1) (.freeze (decide (on = 1)))).answered rq)
end

