-- ==== Sys2Proof/Laws/Bits.lean ====
section
/-! SUPPORT. Bits of a value after one of them is set, cleared or combined. -/

namespace Sys2Proof.Machine

theorem bit_eq_testBit (v b : Nat) : bit v b = v.testBit b := by
  simp [bit, Nat.testBit_eq_decide_div_mod_eq]

theorem bit_ext {v w : Nat} (h : ∀ b, bit v b = bit w b) : v = w :=
  Nat.eq_of_testBit_eq fun b => by simpa [bit_eq_testBit] using h b

/-- A value with one bit replaced, as the sum of what stands above it, it, and what stands below it. -/
theorem withBit_split (v b : Nat) (on : Bool) :
    withBit v b on = 2 ^ b * (2 * (v / 2 ^ (b + 1)) + on.toNat) + v % 2 ^ b := by
  have h : on.toNat % 2 = on.toNat := by cases on <;> rfl
  simp only [withBit, withField, Nat.add_sub_cancel_left, h, Nat.pow_succ]
  ring

@[simp] theorem bit_withBit (v b c : Nat) (on : Bool) : bit (withBit v b on) c = if c = b then on else bit v c := by
  have hlt : v % 2 ^ b < 2 ^ b := Nat.mod_lt _ (Nat.two_pow_pos b)
  rw [withBit_split, bit_eq_testBit, bit_eq_testBit, Nat.testBit_two_pow_mul_add _ hlt]
  rcases Nat.lt_trichotomy c b with h | h | h
  · rw [if_pos h, if_neg (Nat.ne_of_lt h), Nat.testBit_mod_two_pow]; simp [h]
  · subst h
    have hb : (2 * (v / 2 ^ (c + 1)) + on.toNat).testBit 0 = on := by
      cases on <;> simp [Nat.testBit_zero]
    simp [hb]
  · obtain ⟨d, rfl⟩ := Nat.exists_eq_add_of_lt h
    rw [if_neg (by omega), if_neg (by omega), show b + d + 1 - b = d + 1 by omega, Nat.testBit_succ]
    have hd : (2 * (v / 2 ^ (b + 1)) + on.toNat) / 2 = v / 2 ^ (b + 1) := by cases on <;> (simp; try omega)
    rw [hd, Nat.testBit_div_two_pow]
    congr 1
    omega

theorem bit_lor (v w b : Nat) : bit (Nat.lor v w) b = (bit v b || bit w b) := by
  simp only [bit_eq_testBit]; exact Nat.testBit_or v w b

theorem bit_land (v w b : Nat) : bit (Nat.land v w) b = (bit v b && bit w b) := by
  simp only [bit_eq_testBit]; exact Nat.testBit_and v w b

theorem land_le (v w : Nat) : Nat.land v w ≤ v := Nat.and_le_left

theorem bit_zero (b : Nat) : bit 0 b = false := by simp [bit]

/-- A bit that stands already, set again, changes nothing. -/
theorem withBit_same {v b : Nat} {on : Bool} (h : bit v b = on) : withBit v b on = v :=
  bit_ext fun c => by
    rw [bit_withBit]; split
    · rename_i e; rw [e, h]
    · rfl

theorem land_split (v w : Nat) : Nat.land v w = 2 * Nat.land (v / 2) (w / 2) + v % 2 * (w % 2) := by
  have h := Nat.div_add_mod (v &&& w) 2
  have hd : (v &&& w) / 2 = v / 2 &&& w / 2 := Nat.and_div_two
  have hm : (v &&& w) % 2 = v % 2 &&& w % 2 := by
    simpa using Nat.and_mod_two_pow (a := v) (b := w) (n := 1)
  have hc : (v % 2 &&& w % 2) = v % 2 * (w % 2) := by
    rcases Nat.mod_two_eq_zero_or_one v with a | a <;> rcases Nat.mod_two_eq_zero_or_one w with b | b <;> simp [a, b]
  show v &&& w = 2 * (v / 2 &&& w / 2) + v % 2 * (w % 2)
  omega

theorem clearBits_split (v w : Nat) : clearBits v w = 2 * clearBits (v / 2) (w / 2) + (v % 2 - v % 2 * (w % 2)) := by
  have h := land_split v w
  have hl := land_le (v / 2) (w / 2)
  simp only [clearBits]
  rcases Nat.mod_two_eq_zero_or_one v with a | a <;> rcases Nat.mod_two_eq_zero_or_one w with b | b <;> simp only [a, b] at h ⊢ <;> omega

theorem bit_clearBits (v mask b : Nat) : bit (clearBits v mask) b = (bit v b && !bit mask b) := by
  induction b generalizing v mask with
  | zero =>
    rw [clearBits_split]
    simp only [bit, Nat.pow_zero, Nat.div_one]
    rcases Nat.mod_two_eq_zero_or_one v with a | a <;> rcases Nat.mod_two_eq_zero_or_one mask with c | c <;> simp [a, c, Nat.add_mod]
  | succ b ih =>
    have up : ∀ n, bit n (b + 1) = bit (n / 2) b := fun n => by
      simp only [bit, Nat.pow_succ, Nat.mul_comm _ 2, ← Nat.div_div_eq_div_mul]
    have hd : clearBits v mask / 2 = clearBits (v / 2) (mask / 2) := by
      rw [clearBits_split]
      rcases Nat.mod_two_eq_zero_or_one v with a | a <;> rcases Nat.mod_two_eq_zero_or_one mask with c | c <;> simp only [a, c] <;> omega
    rw [up, hd, ih, up, up]

theorem u64_lt (v : Nat) : u64 v < 2 ^ 64 := Nat.mod_lt _ (Nat.two_pow_pos 64)
theorem u64_of_lt {v : Nat} (h : v < 2 ^ 64) : u64 v = v := Nat.mod_eq_of_lt h

end Sys2Proof.Machine
end

