-- ==== Sys2Proof/Laws/Store.lean ====
section
/-! SUPPORT. The laws of a sparse table: a read after a write, and that every operation keeps the canonical form. -/

namespace Sys2Proof

theorem Key.lt_irrefl (a : Key) : Key.lt a a = false := by simp [Key.lt]

theorem Key.lt_trans {a b c : Key} (h : Key.lt a b = true) (g : Key.lt b c = true) : Key.lt a c = true := by
  simp only [Key.lt, Bool.or_eq_true, Bool.and_eq_true, decide_eq_true_eq, beq_iff_eq] at *
  omega

theorem Key.lt_connected {a b : Key} (h : Key.lt a b = false) (n : b ≠ a) : Key.lt b a = true := by
  obtain ⟨a1, a2, a3, a4⟩ := a
  obtain ⟨b1, b2, b3, b4⟩ := b
  simp only [Key.lt, Bool.or_eq_true, Bool.and_eq_true, decide_eq_true_eq, beq_iff_eq, Bool.or_eq_false_iff,
    Bool.and_eq_false_imp, decide_eq_false_iff_not, Ne, Key.mk.injEq] at *
  omega

variable {α : Type}

theorem Map.get_erase_ne (d : α) (m : Map α) {k k' : Key} (h : k' ≠ k) :
    Map.get d (Map.erase m k) k' = Map.get d m k' := by
  induction m with
  | nil => rfl
  | cons e m ih =>
    by_cases he : e.1 = k
    · have hk : e.1 ≠ k' := fun g => h (g ▸ he)
      simp only [Map.erase, List.filter, he, decide_true, Bool.not_true]
      simp only [Map.get, if_neg hk]
      exact ih
    · simp only [Map.erase, List.filter, he, decide_false, Bool.not_false, Map.get]
      split
      · rfl
      · exact ih

theorem Map.get_erase_same (d : α) (m : Map α) (k : Key) : Map.get d (Map.erase m k) k = d := by
  induction m with
  | nil => rfl
  | cons e m ih =>
    by_cases he : e.1 = k
    · simp only [Map.erase, List.filter, he, decide_true, Bool.not_true]
      exact ih
    · simp only [Map.erase, List.filter, he, decide_false, Bool.not_false, Map.get]
      exact ih

theorem Map.get_insert_ne (d : α) (m : Map α) {k k' : Key} (v : α) (h : k' ≠ k) :
    Map.get d (Map.insert m k v) k' = Map.get d m k' := by
  induction m with
  | nil => simp [Map.insert, Map.get, Ne.symm h]
  | cons e m ih =>
    simp only [Map.insert]
    split
    · simp [Map.get, Ne.symm h]
    · simp only [Map.get]
      split
      · rfl
      · exact ih

theorem Map.get_insert_same (d : α) (m : Map α) (k : Key) (v : α) (h : ∀ e ∈ m, e.1 ≠ k) :
    Map.get d (Map.insert m k v) k = v := by
  induction m with
  | nil => simp [Map.insert, Map.get]
  | cons e m ih =>
    simp only [Map.insert]
    split
    · simp [Map.get]
    · have he : e.1 ≠ k := h e (by simp)
      simp only [Map.get, if_neg he]
      exact ih fun x hx => h x (by simp [hx])

theorem Map.erase_ne (m : Map α) (k : Key) : ∀ e ∈ Map.erase m k, e.1 ≠ k := by
  intro e he
  simpa [Map.erase] using (List.mem_filter.mp he).2

/-! ## The canonical form -/

theorem Map.above_of_lt {a b : Key} (h : Key.lt a b = true) : ∀ m : Map α, Map.above b m = true → Map.above a m = true
  | [], _ => rfl
  | e :: m, g => by
    simp only [Map.above, Bool.and_eq_true] at *
    exact ⟨Key.lt_trans h g.1, Map.above_of_lt h m g.2⟩

theorem Map.above_filter (k : Key) (p : Key × α → Bool) : ∀ m : Map α, Map.above k m = true → Map.above k (m.filter p) = true
  | [], _ => rfl
  | e :: m, g => by
    simp only [Map.above, Bool.and_eq_true] at g
    simp only [List.filter]
    split
    · simp [Map.above, g.1, Map.above_filter k p m g.2]
    · exact Map.above_filter k p m g.2

theorem Map.above_insert (a : Key) (k : Key) (v : α) (h : Key.lt a k = true) :
    ∀ m : Map α, Map.above a m = true → Map.above a (Map.insert m k v) = true
  | [], _ => by simp [Map.insert, Map.above, h]
  | e :: m, g => by
    simp only [Map.insert]
    split
    · simpa [Map.above, h] using g
    · simp only [Map.above, Bool.and_eq_true] at *
      exact ⟨g.1, Map.above_insert a k v h m g.2⟩

variable [DecidableEq α]

/-- A read after a write of the same key gives the value written. -/
@[simp] theorem Map.get_set_same (d : α) (m : Map α) (k : Key) (v : α) : Map.get d (Map.set d m k v) k = v := by
  unfold Map.set
  split
  · rename_i h
    rw [Map.get_erase_same, h]
  · exact Map.get_insert_same d _ k v (Map.erase_ne m k)

/-- A write leaves every other key alone, whatever default either key has. -/
@[simp] theorem Map.get_set_ne (d d' : α) (m : Map α) {k k' : Key} (v : α) (h : k' ≠ k) :
    Map.get d' (Map.set d m k v) k' = Map.get d' m k' := by
  unfold Map.set
  split
  · exact Map.get_erase_ne d' m h
  · rw [Map.get_insert_ne d' _ v h, Map.get_erase_ne d' m h]

theorem Map.get_set (d : α) (m : Map α) (k k' : Key) (v : α) :
    Map.get d (Map.set d m k v) k' = if k' = k then v else Map.get d m k' := by
  by_cases h : k' = k
  · subst h; simp
  · simp [h]

theorem Map.wf_filter (dflt : Key → α) (p : Key × α → Bool) : ∀ m : Map α, Map.wf dflt m = true → Map.wf dflt (m.filter p) = true
  | [], _ => rfl
  | e :: m, g => by
    simp only [Map.wf, Bool.and_eq_true] at g
    simp only [List.filter]
    split
    · simp only [Map.wf, Bool.and_eq_true]
      exact ⟨⟨Map.above_filter _ _ m g.1.1, g.1.2⟩, Map.wf_filter dflt p m g.2⟩
    · exact Map.wf_filter dflt p m g.2

theorem Map.wf_erase (dflt : Key → α) (m : Map α) (k : Key) (h : Map.wf dflt m = true) :
    Map.wf dflt (Map.erase m k) = true := Map.wf_filter dflt _ m h

theorem Map.wf_insert (dflt : Key → α) (k : Key) (v : α) (hv : v ≠ dflt k) :
    ∀ m : Map α, (∀ e ∈ m, e.1 ≠ k) → Map.wf dflt m = true → Map.wf dflt (Map.insert m k v) = true
  | [], _, _ => by simp [Map.insert, Map.wf, Map.above, hv]
  | e :: m, hk, g => by
    have ge := g
    simp only [Map.wf, Bool.and_eq_true] at g
    simp only [Map.insert]
    split
    · rename_i hlt
      simp only [Map.wf, Bool.and_eq_true]
      refine ⟨⟨?_, by simp [hv]⟩, by simpa [Map.wf, Bool.and_eq_true] using g⟩
      simp only [Map.above, Bool.and_eq_true]
      exact ⟨hlt, Map.above_of_lt hlt m g.1.1⟩
    · rename_i hlt
      have hek : e.1 ≠ k := hk e (by simp)
      have hlt' : Key.lt e.1 k = true := Key.lt_connected (by simpa using hlt) hek
      simp only [Map.wf, Bool.and_eq_true]
      exact ⟨⟨Map.above_insert _ k v hlt' m g.1.1, g.1.2⟩, Map.wf_insert dflt k v hv m (fun x hx => hk x (by simp [hx])) g.2⟩

/-- A write keeps the canonical form. -/
theorem Map.wf_set (dflt : Key → α) (m : Map α) (k : Key) (v : α) (h : Map.wf dflt m = true) :
    Map.wf dflt (Map.set (dflt k) m k v) = true := by
  unfold Map.set
  split
  · exact Map.wf_erase dflt m k h
  · rename_i hv
    exact Map.wf_insert dflt k v hv _ (Map.erase_ne m k) (Map.wf_erase dflt m k h)

/-- A write keeps the canonical form of a table whose unlisted keys all read alike. -/
theorem Map.wf_set_const (d : α) (m : Map α) (k : Key) (v : α) (h : Map.wf (fun _ => d) m = true) :
    Map.wf (fun _ => d) (Map.set d m k v) = true := Map.wf_set (fun _ => d) m k v h

end Sys2Proof
end

