-- ==== Sys2Proof/Laws/State.lean ====
section
/-! SUPPORT. What each shared update of the state leaves alone, field by field, and what reads give after writes. -/

namespace Sys2Proof.Machine

variable (s : State)

/-! ## Reads after writes -/

/-- An object reads as it was last written, and every other object as before. -/
theorem State.obj_setObj (k k' : Key) (v : Nat) : (s.setObj k v).obj k' = if k' = k then v else s.obj k' := by
  by_cases h : k' = k
  · subst h; simp [State.obj, State.setObj]
  · simp [State.obj, State.setObj, h]

@[simp] theorem State.obj_setObj_same (k : Key) (v : Nat) : (s.setObj k v).obj k = v := by
  simp [State.obj_setObj]

@[simp] theorem State.obj_setObj_ne {k k' : Key} (v : Nat) (h : k' ≠ k) : (s.setObj k v).obj k' = s.obj k' := by
  simp [State.obj_setObj, h]

/-- An update that leaves the objects' table alone leaves every object alone. -/
theorem State.obj_eq {s t : State} (h : t.reg = s.reg) (k : Key) : t.obj k = s.obj k := by
  simp [State.obj, h]

theorem State.obj_bump (k k' : Key) (n : Nat) :
    (s.bump k n).obj k' = if k' = k then u64 (s.obj k + n) else s.obj k' := s.obj_setObj k k' _

@[simp] theorem State.obj_bump_ne {k k' : Key} (n : Nat) (h : k' ≠ k) : (s.bump k n).obj k' = s.obj k' := by
  simp [State.obj_bump, h]

theorem Key.unit_inj {a b : Nat} (h : Key.unit a = Key.unit b) : a = b := congrArg Key.i h

/-- An engine reads as it was last written, and every other engine as before. -/
theorem State.engine_setEngine (e e' : Nat) (r : Engine) :
    (s.setEngine e r).engine e' = if e' = e then r else s.engine e' := by
  by_cases h : e' = e
  · subst h; simp [State.engine, State.setEngine]
  · have g : Key.unit e' ≠ Key.unit e := fun x => h (Key.unit_inj x)
    simp [State.engine, State.setEngine, h, Map.get_set_ne _ _ _ _ g]

@[simp] theorem State.engine_setEngine_same (e : Nat) (r : Engine) : (s.setEngine e r).engine e = r := by
  simp [State.engine_setEngine]

@[simp] theorem State.engine_setEngine_ne {e e' : Nat} (r : Engine) (h : e' ≠ e) : (s.setEngine e r).engine e' = s.engine e' := by
  simp [State.engine_setEngine, h]

@[simp] theorem State.engine_withEngine_same (e : Nat) (f : Engine → Engine) : (s.withEngine e f).engine e = f (s.engine e) := by
  simp [State.withEngine, State.engine_setEngine]

@[simp] theorem State.engine_withEngine_ne {e e' : Nat} (f : Engine → Engine) (h : e' ≠ e) :
    (s.withEngine e f).engine e' = s.engine e' := by
  simp [State.withEngine, State.engine_setEngine, h]

/-- Signed objects read as the encoding of what was last written. -/
theorem State.obj_setInt (k k' : Key) (z : Int) : (s.setInt k z).obj k' = if k' = k then encode 4 z else s.obj k' :=
  s.obj_setObj k k' _

@[simp] theorem State.obj_setInt_same (k : Key) (z : Int) : (s.setInt k z).obj k = encode 4 z := by
  simp [State.obj_setInt]

@[simp] theorem State.obj_setInt_ne {k k' : Key} (z : Int) (h : k' ≠ k) : (s.setInt k z).obj k' = s.obj k' := by
  simp [State.obj_setInt, h]

@[simp] theorem State.obj_bump_same (k : Key) (n : Nat) : (s.bump k n).obj k = u64 (s.obj k + n) := by
  simp [State.obj_bump]

@[simp] theorem State.session_setSession_same (k : Nat) (x : Session) : (s.setSession k x).session k = x := by
  simp [State.session, State.setSession]

theorem State.session_setSession (k k' : Nat) (x : Session) :
    (s.setSession k x).session k' = if k' = k then x else s.session k' := by
  by_cases h : k' = k
  · subst h; simp [State.session, State.setSession]
  · have g : Key.unit k' ≠ Key.unit k := fun x => h (Key.unit_inj x)
    simp [State.session, State.setSession, h, Map.get_set_ne _ _ _ _ g]

/-- Declaring and clearing decide one defect of one instance. -/
theorem State.declared_declare (d i d' i' : Nat) :
    (s.declare d i).declared d' i' = (decide (d' = d ∧ i' = i) || s.declared d' i') := by
  unfold State.declare
  split
  · rename_i h
    by_cases g : d' = d ∧ i' = i
    · obtain ⟨rfl, rfl⟩ := g; simp [h]
    · simp [g]
  · by_cases g : d' = d ∧ i' = i
    · obtain ⟨rfl, rfl⟩ := g; simp [State.declared]
    · have h : defectKey d' i' ≠ defectKey d i := by simpa [defectKey] using g
      simp [State.declared, h, g]

theorem State.declared_clear (d i d' i' : Nat) :
    (s.clear d i).declared d' i' = (!decide (d' = d ∧ i' = i) && s.declared d' i') := by
  unfold State.clear
  split
  · by_cases g : d' = d ∧ i' = i
    · obtain ⟨rfl, rfl⟩ := g; simp [State.declared]
    · have h : defectKey d' i' ≠ defectKey d i := by simpa [defectKey] using g
      simp [State.declared, h, g]
  · rename_i h
    by_cases g : d' = d ∧ i' = i
    · obtain ⟨rfl, rfl⟩ := g; simpa using h
    · simp [g]

@[simp] theorem State.declared_declare_same (d i : Nat) : (s.declare d i).declared d i = true := by
  simp [State.declared_declare]

@[simp] theorem State.declared_clear_same (d i : Nat) : (s.clear d i).declared d i = false := by
  simp [State.declared_clear]

/-! ## What an update leaves alone -/

@[simp] theorem State.pending_setObj (k : Key) (v : Nat) : (s.setObj k v).pending = s.pending := rfl
@[simp] theorem State.now_setObj (k : Key) (v : Nat) : (s.setObj k v).now = s.now := rfl
@[simp] theorem State.tick_setObj (k : Key) (v : Nat) : (s.setObj k v).tick = s.tick := rfl
@[simp] theorem State.counted_setObj (k : Key) (v : Nat) : (s.setObj k v).counted = s.counted := rfl
@[simp] theorem State.running_setObj (k : Key) (v : Nat) : (s.setObj k v).running = s.running := rfl
@[simp] theorem State.fresh_setObj (k : Key) (v : Nat) : (s.setObj k v).fresh = s.fresh := rfl
@[simp] theorem State.act_setObj (k : Key) (v : Nat) : (s.setObj k v).act = s.act := rfl
@[simp] theorem State.shd_setObj (k : Key) (v : Nat) : (s.setObj k v).shd = s.shd := rfl
@[simp] theorem State.defects_setObj (k : Key) (v : Nat) : (s.setObj k v).defects = s.defects := rfl
@[simp] theorem State.agenda_setObj (k : Key) (v : Nat) : (s.setObj k v).agenda = s.agenda := rfl
@[simp] theorem State.load_setObj (k : Key) (v : Nat) : (s.setObj k v).load = s.load := rfl
@[simp] theorem State.autoLoad_setObj (k : Key) (v : Nat) : (s.setObj k v).autoLoad = s.autoLoad := rfl
@[simp] theorem State.changes_setObj (k : Key) (v : Nat) : (s.setObj k v).changes = s.changes := rfl
@[simp] theorem State.stream_setObj (k : Key) (v : Nat) : (s.setObj k v).stream = s.stream := rfl
@[simp] theorem State.lastOverrun_setObj (k : Key) (v : Nat) : (s.setObj k v).lastOverrun = s.lastOverrun := rfl
@[simp] theorem State.overrunEpoch_setObj (k : Key) (v : Nat) : (s.setObj k v).overrunEpoch = s.overrunEpoch := rfl
@[simp] theorem State.overrunAt_setObj (k : Key) (v : Nat) : (s.setObj k v).overrunAt = s.overrunAt := rfl
@[simp] theorem State.closed_setObj (k : Key) (v : Nat) : (s.setObj k v).closed = s.closed := rfl
@[simp] theorem State.pllLatch_setObj (k : Key) (v : Nat) : (s.setObj k v).pllLatch = s.pllLatch := rfl
@[simp] theorem State.bar_setObj (k : Key) (v : Nat) : (s.setObj k v).bar = s.bar := rfl
@[simp] theorem State.sessions_setObj (k : Key) (v : Nat) : (s.setObj k v).sessions = s.sessions := rfl
@[simp] theorem State.authEpoch_setObj (k : Key) (v : Nat) : (s.setObj k v).authEpoch = s.authEpoch := rfl
@[simp] theorem State.owed_setObj (k : Key) (v : Nat) : (s.setObj k v).owed = s.owed := rfl
@[simp] theorem State.resyncs_setObj (k : Key) (v : Nat) : (s.setObj k v).resyncs = s.resyncs := rfl
@[simp] theorem State.evq_setObj (k : Key) (v : Nat) : (s.setObj k v).evq = s.evq := rfl
@[simp] theorem State.eng_setObj (k : Key) (v : Nat) : (s.setObj k v).eng = s.eng := rfl
@[simp] theorem State.bondSpread_setObj (k : Key) (v : Nat) : (s.setObj k v).bondSpread = s.bondSpread := rfl
@[simp] theorem State.gccOut_setObj (k : Key) (v : Nat) : (s.setObj k v).gccOut = s.gccOut := rfl
@[simp] theorem State.gccIn_setObj (k : Key) (v : Nat) : (s.setObj k v).gccIn = s.gccIn := rfl
@[simp] theorem State.gccEpoch_setObj (k : Key) (v : Nat) : (s.setObj k v).gccEpoch = s.gccEpoch := rfl
@[simp] theorem State.ohpSent_setObj (k : Key) (v : Nat) : (s.setObj k v).ohpSent = s.ohpSent := rfl
@[simp] theorem State.clients_setObj (k : Key) (v : Nat) : (s.setObj k v).clients = s.clients := rfl
@[simp] theorem State.cells_setObj (k : Key) (v : Nat) : (s.setObj k v).cells = s.cells := rfl
@[simp] theorem State.timing_setObj (k : Key) (v : Nat) : (s.setObj k v).timing = s.timing := rfl
@[simp] theorem State.prot_setObj (k : Key) (v : Nat) : (s.setObj k v).prot = s.prot := rfl
@[simp] theorem State.sec_setObj (k : Key) (v : Nat) : (s.setObj k v).sec = s.sec := rfl
@[simp] theorem State.prism_setObj (k : Key) (v : Nat) : (s.setObj k v).prism = s.prism := rfl
@[simp] theorem State.shadow_setObj (k : Key) (v : Nat) : (s.setObj k v).shadow = s.shadow := rfl
@[simp] theorem State.instr_setObj (k : Key) (v : Nat) : (s.setObj k v).instr = s.instr := rfl
@[simp] theorem State.pm_setObj (k : Key) (v : Nat) : (s.setObj k v).pm = s.pm := rfl
@[simp] theorem State.ring_setObj (k : Key) (v : Nat) : (s.setObj k v).ring = s.ring := rfl
@[simp] theorem State.stores_setObj (k : Key) (v : Nat) : (s.setObj k v).stores = s.stores := rfl
@[simp] theorem State.inject_setObj (k : Key) (v : Nat) : (s.setObj k v).inject = s.inject := rfl
@[simp] theorem State.power_setObj (k : Key) (v : Nat) : (s.setObj k v).power = s.power := rfl
@[simp] theorem State.mc_setObj (k : Key) (v : Nat) : (s.setObj k v).mc = s.mc := rfl

@[simp] theorem State.pending_setInt (k : Key) (z : Int) : (s.setInt k z).pending = s.pending := rfl
@[simp] theorem State.now_setInt (k : Key) (z : Int) : (s.setInt k z).now = s.now := rfl
@[simp] theorem State.tick_setInt (k : Key) (z : Int) : (s.setInt k z).tick = s.tick := rfl
@[simp] theorem State.counted_setInt (k : Key) (z : Int) : (s.setInt k z).counted = s.counted := rfl
@[simp] theorem State.running_setInt (k : Key) (z : Int) : (s.setInt k z).running = s.running := rfl
@[simp] theorem State.fresh_setInt (k : Key) (z : Int) : (s.setInt k z).fresh = s.fresh := rfl
@[simp] theorem State.act_setInt (k : Key) (z : Int) : (s.setInt k z).act = s.act := rfl
@[simp] theorem State.shd_setInt (k : Key) (z : Int) : (s.setInt k z).shd = s.shd := rfl
@[simp] theorem State.defects_setInt (k : Key) (z : Int) : (s.setInt k z).defects = s.defects := rfl
@[simp] theorem State.agenda_setInt (k : Key) (z : Int) : (s.setInt k z).agenda = s.agenda := rfl
@[simp] theorem State.load_setInt (k : Key) (z : Int) : (s.setInt k z).load = s.load := rfl
@[simp] theorem State.autoLoad_setInt (k : Key) (z : Int) : (s.setInt k z).autoLoad = s.autoLoad := rfl
@[simp] theorem State.changes_setInt (k : Key) (z : Int) : (s.setInt k z).changes = s.changes := rfl
@[simp] theorem State.stream_setInt (k : Key) (z : Int) : (s.setInt k z).stream = s.stream := rfl
@[simp] theorem State.lastOverrun_setInt (k : Key) (z : Int) : (s.setInt k z).lastOverrun = s.lastOverrun := rfl
@[simp] theorem State.overrunEpoch_setInt (k : Key) (z : Int) : (s.setInt k z).overrunEpoch = s.overrunEpoch := rfl
@[simp] theorem State.overrunAt_setInt (k : Key) (z : Int) : (s.setInt k z).overrunAt = s.overrunAt := rfl
@[simp] theorem State.closed_setInt (k : Key) (z : Int) : (s.setInt k z).closed = s.closed := rfl
@[simp] theorem State.pllLatch_setInt (k : Key) (z : Int) : (s.setInt k z).pllLatch = s.pllLatch := rfl
@[simp] theorem State.bar_setInt (k : Key) (z : Int) : (s.setInt k z).bar = s.bar := rfl
@[simp] theorem State.sessions_setInt (k : Key) (z : Int) : (s.setInt k z).sessions = s.sessions := rfl
@[simp] theorem State.authEpoch_setInt (k : Key) (z : Int) : (s.setInt k z).authEpoch = s.authEpoch := rfl
@[simp] theorem State.owed_setInt (k : Key) (z : Int) : (s.setInt k z).owed = s.owed := rfl
@[simp] theorem State.resyncs_setInt (k : Key) (z : Int) : (s.setInt k z).resyncs = s.resyncs := rfl
@[simp] theorem State.evq_setInt (k : Key) (z : Int) : (s.setInt k z).evq = s.evq := rfl
@[simp] theorem State.eng_setInt (k : Key) (z : Int) : (s.setInt k z).eng = s.eng := rfl
@[simp] theorem State.bondSpread_setInt (k : Key) (z : Int) : (s.setInt k z).bondSpread = s.bondSpread := rfl
@[simp] theorem State.gccOut_setInt (k : Key) (z : Int) : (s.setInt k z).gccOut = s.gccOut := rfl
@[simp] theorem State.gccIn_setInt (k : Key) (z : Int) : (s.setInt k z).gccIn = s.gccIn := rfl
@[simp] theorem State.gccEpoch_setInt (k : Key) (z : Int) : (s.setInt k z).gccEpoch = s.gccEpoch := rfl
@[simp] theorem State.ohpSent_setInt (k : Key) (z : Int) : (s.setInt k z).ohpSent = s.ohpSent := rfl
@[simp] theorem State.clients_setInt (k : Key) (z : Int) : (s.setInt k z).clients = s.clients := rfl
@[simp] theorem State.cells_setInt (k : Key) (z : Int) : (s.setInt k z).cells = s.cells := rfl
@[simp] theorem State.timing_setInt (k : Key) (z : Int) : (s.setInt k z).timing = s.timing := rfl
@[simp] theorem State.prot_setInt (k : Key) (z : Int) : (s.setInt k z).prot = s.prot := rfl
@[simp] theorem State.sec_setInt (k : Key) (z : Int) : (s.setInt k z).sec = s.sec := rfl
@[simp] theorem State.prism_setInt (k : Key) (z : Int) : (s.setInt k z).prism = s.prism := rfl
@[simp] theorem State.shadow_setInt (k : Key) (z : Int) : (s.setInt k z).shadow = s.shadow := rfl
@[simp] theorem State.instr_setInt (k : Key) (z : Int) : (s.setInt k z).instr = s.instr := rfl
@[simp] theorem State.pm_setInt (k : Key) (z : Int) : (s.setInt k z).pm = s.pm := rfl
@[simp] theorem State.ring_setInt (k : Key) (z : Int) : (s.setInt k z).ring = s.ring := rfl
@[simp] theorem State.stores_setInt (k : Key) (z : Int) : (s.setInt k z).stores = s.stores := rfl
@[simp] theorem State.inject_setInt (k : Key) (z : Int) : (s.setInt k z).inject = s.inject := rfl
@[simp] theorem State.power_setInt (k : Key) (z : Int) : (s.setInt k z).power = s.power := rfl
@[simp] theorem State.mc_setInt (k : Key) (z : Int) : (s.setInt k z).mc = s.mc := rfl

@[simp] theorem State.pending_bump (k : Key) (n : Nat) : (s.bump k n).pending = s.pending := rfl
@[simp] theorem State.now_bump (k : Key) (n : Nat) : (s.bump k n).now = s.now := rfl
@[simp] theorem State.tick_bump (k : Key) (n : Nat) : (s.bump k n).tick = s.tick := rfl
@[simp] theorem State.counted_bump (k : Key) (n : Nat) : (s.bump k n).counted = s.counted := rfl
@[simp] theorem State.running_bump (k : Key) (n : Nat) : (s.bump k n).running = s.running := rfl
@[simp] theorem State.fresh_bump (k : Key) (n : Nat) : (s.bump k n).fresh = s.fresh := rfl
@[simp] theorem State.act_bump (k : Key) (n : Nat) : (s.bump k n).act = s.act := rfl
@[simp] theorem State.shd_bump (k : Key) (n : Nat) : (s.bump k n).shd = s.shd := rfl
@[simp] theorem State.defects_bump (k : Key) (n : Nat) : (s.bump k n).defects = s.defects := rfl
@[simp] theorem State.agenda_bump (k : Key) (n : Nat) : (s.bump k n).agenda = s.agenda := rfl
@[simp] theorem State.load_bump (k : Key) (n : Nat) : (s.bump k n).load = s.load := rfl
@[simp] theorem State.autoLoad_bump (k : Key) (n : Nat) : (s.bump k n).autoLoad = s.autoLoad := rfl
@[simp] theorem State.changes_bump (k : Key) (n : Nat) : (s.bump k n).changes = s.changes := rfl
@[simp] theorem State.stream_bump (k : Key) (n : Nat) : (s.bump k n).stream = s.stream := rfl
@[simp] theorem State.lastOverrun_bump (k : Key) (n : Nat) : (s.bump k n).lastOverrun = s.lastOverrun := rfl
@[simp] theorem State.overrunEpoch_bump (k : Key) (n : Nat) : (s.bump k n).overrunEpoch = s.overrunEpoch := rfl
@[simp] theorem State.overrunAt_bump (k : Key) (n : Nat) : (s.bump k n).overrunAt = s.overrunAt := rfl
@[simp] theorem State.closed_bump (k : Key) (n : Nat) : (s.bump k n).closed = s.closed := rfl
@[simp] theorem State.pllLatch_bump (k : Key) (n : Nat) : (s.bump k n).pllLatch = s.pllLatch := rfl
@[simp] theorem State.bar_bump (k : Key) (n : Nat) : (s.bump k n).bar = s.bar := rfl
@[simp] theorem State.sessions_bump (k : Key) (n : Nat) : (s.bump k n).sessions = s.sessions := rfl
@[simp] theorem State.authEpoch_bump (k : Key) (n : Nat) : (s.bump k n).authEpoch = s.authEpoch := rfl
@[simp] theorem State.owed_bump (k : Key) (n : Nat) : (s.bump k n).owed = s.owed := rfl
@[simp] theorem State.resyncs_bump (k : Key) (n : Nat) : (s.bump k n).resyncs = s.resyncs := rfl
@[simp] theorem State.evq_bump (k : Key) (n : Nat) : (s.bump k n).evq = s.evq := rfl
@[simp] theorem State.eng_bump (k : Key) (n : Nat) : (s.bump k n).eng = s.eng := rfl
@[simp] theorem State.bondSpread_bump (k : Key) (n : Nat) : (s.bump k n).bondSpread = s.bondSpread := rfl
@[simp] theorem State.gccOut_bump (k : Key) (n : Nat) : (s.bump k n).gccOut = s.gccOut := rfl
@[simp] theorem State.gccIn_bump (k : Key) (n : Nat) : (s.bump k n).gccIn = s.gccIn := rfl
@[simp] theorem State.gccEpoch_bump (k : Key) (n : Nat) : (s.bump k n).gccEpoch = s.gccEpoch := rfl
@[simp] theorem State.ohpSent_bump (k : Key) (n : Nat) : (s.bump k n).ohpSent = s.ohpSent := rfl
@[simp] theorem State.clients_bump (k : Key) (n : Nat) : (s.bump k n).clients = s.clients := rfl
@[simp] theorem State.cells_bump (k : Key) (n : Nat) : (s.bump k n).cells = s.cells := rfl
@[simp] theorem State.timing_bump (k : Key) (n : Nat) : (s.bump k n).timing = s.timing := rfl
@[simp] theorem State.prot_bump (k : Key) (n : Nat) : (s.bump k n).prot = s.prot := rfl
@[simp] theorem State.sec_bump (k : Key) (n : Nat) : (s.bump k n).sec = s.sec := rfl
@[simp] theorem State.prism_bump (k : Key) (n : Nat) : (s.bump k n).prism = s.prism := rfl
@[simp] theorem State.shadow_bump (k : Key) (n : Nat) : (s.bump k n).shadow = s.shadow := rfl
@[simp] theorem State.instr_bump (k : Key) (n : Nat) : (s.bump k n).instr = s.instr := rfl
@[simp] theorem State.pm_bump (k : Key) (n : Nat) : (s.bump k n).pm = s.pm := rfl
@[simp] theorem State.ring_bump (k : Key) (n : Nat) : (s.bump k n).ring = s.ring := rfl
@[simp] theorem State.stores_bump (k : Key) (n : Nat) : (s.bump k n).stores = s.stores := rfl
@[simp] theorem State.inject_bump (k : Key) (n : Nat) : (s.bump k n).inject = s.inject := rfl
@[simp] theorem State.power_bump (k : Key) (n : Nat) : (s.bump k n).power = s.power := rfl
@[simp] theorem State.mc_bump (k : Key) (n : Nat) : (s.bump k n).mc = s.mc := rfl

@[simp] theorem State.pending_setShadow (k : Key) (v : Nat) : (s.setShadow k v).pending = s.pending := rfl
@[simp] theorem State.now_setShadow (k : Key) (v : Nat) : (s.setShadow k v).now = s.now := rfl
@[simp] theorem State.tick_setShadow (k : Key) (v : Nat) : (s.setShadow k v).tick = s.tick := rfl
@[simp] theorem State.counted_setShadow (k : Key) (v : Nat) : (s.setShadow k v).counted = s.counted := rfl
@[simp] theorem State.running_setShadow (k : Key) (v : Nat) : (s.setShadow k v).running = s.running := rfl
@[simp] theorem State.fresh_setShadow (k : Key) (v : Nat) : (s.setShadow k v).fresh = s.fresh := rfl
@[simp] theorem State.reg_setShadow (k : Key) (v : Nat) : (s.setShadow k v).reg = s.reg := rfl
@[simp] theorem State.act_setShadow (k : Key) (v : Nat) : (s.setShadow k v).act = s.act := rfl
@[simp] theorem State.defects_setShadow (k : Key) (v : Nat) : (s.setShadow k v).defects = s.defects := rfl
@[simp] theorem State.agenda_setShadow (k : Key) (v : Nat) : (s.setShadow k v).agenda = s.agenda := rfl
@[simp] theorem State.load_setShadow (k : Key) (v : Nat) : (s.setShadow k v).load = s.load := rfl
@[simp] theorem State.autoLoad_setShadow (k : Key) (v : Nat) : (s.setShadow k v).autoLoad = s.autoLoad := rfl
@[simp] theorem State.changes_setShadow (k : Key) (v : Nat) : (s.setShadow k v).changes = s.changes := rfl
@[simp] theorem State.stream_setShadow (k : Key) (v : Nat) : (s.setShadow k v).stream = s.stream := rfl
@[simp] theorem State.lastOverrun_setShadow (k : Key) (v : Nat) : (s.setShadow k v).lastOverrun = s.lastOverrun := rfl
@[simp] theorem State.overrunEpoch_setShadow (k : Key) (v : Nat) : (s.setShadow k v).overrunEpoch = s.overrunEpoch := rfl
@[simp] theorem State.overrunAt_setShadow (k : Key) (v : Nat) : (s.setShadow k v).overrunAt = s.overrunAt := rfl
@[simp] theorem State.closed_setShadow (k : Key) (v : Nat) : (s.setShadow k v).closed = s.closed := rfl
@[simp] theorem State.pllLatch_setShadow (k : Key) (v : Nat) : (s.setShadow k v).pllLatch = s.pllLatch := rfl
@[simp] theorem State.bar_setShadow (k : Key) (v : Nat) : (s.setShadow k v).bar = s.bar := rfl
@[simp] theorem State.sessions_setShadow (k : Key) (v : Nat) : (s.setShadow k v).sessions = s.sessions := rfl
@[simp] theorem State.authEpoch_setShadow (k : Key) (v : Nat) : (s.setShadow k v).authEpoch = s.authEpoch := rfl
@[simp] theorem State.owed_setShadow (k : Key) (v : Nat) : (s.setShadow k v).owed = s.owed := rfl
@[simp] theorem State.resyncs_setShadow (k : Key) (v : Nat) : (s.setShadow k v).resyncs = s.resyncs := rfl
@[simp] theorem State.evq_setShadow (k : Key) (v : Nat) : (s.setShadow k v).evq = s.evq := rfl
@[simp] theorem State.eng_setShadow (k : Key) (v : Nat) : (s.setShadow k v).eng = s.eng := rfl
@[simp] theorem State.bondSpread_setShadow (k : Key) (v : Nat) : (s.setShadow k v).bondSpread = s.bondSpread := rfl
@[simp] theorem State.gccOut_setShadow (k : Key) (v : Nat) : (s.setShadow k v).gccOut = s.gccOut := rfl
@[simp] theorem State.gccIn_setShadow (k : Key) (v : Nat) : (s.setShadow k v).gccIn = s.gccIn := rfl
@[simp] theorem State.gccEpoch_setShadow (k : Key) (v : Nat) : (s.setShadow k v).gccEpoch = s.gccEpoch := rfl
@[simp] theorem State.ohpSent_setShadow (k : Key) (v : Nat) : (s.setShadow k v).ohpSent = s.ohpSent := rfl
@[simp] theorem State.clients_setShadow (k : Key) (v : Nat) : (s.setShadow k v).clients = s.clients := rfl
@[simp] theorem State.cells_setShadow (k : Key) (v : Nat) : (s.setShadow k v).cells = s.cells := rfl
@[simp] theorem State.timing_setShadow (k : Key) (v : Nat) : (s.setShadow k v).timing = s.timing := rfl
@[simp] theorem State.prot_setShadow (k : Key) (v : Nat) : (s.setShadow k v).prot = s.prot := rfl
@[simp] theorem State.sec_setShadow (k : Key) (v : Nat) : (s.setShadow k v).sec = s.sec := rfl
@[simp] theorem State.prism_setShadow (k : Key) (v : Nat) : (s.setShadow k v).prism = s.prism := rfl
@[simp] theorem State.shadow_setShadow (k : Key) (v : Nat) : (s.setShadow k v).shadow = s.shadow := rfl
@[simp] theorem State.instr_setShadow (k : Key) (v : Nat) : (s.setShadow k v).instr = s.instr := rfl
@[simp] theorem State.pm_setShadow (k : Key) (v : Nat) : (s.setShadow k v).pm = s.pm := rfl
@[simp] theorem State.ring_setShadow (k : Key) (v : Nat) : (s.setShadow k v).ring = s.ring := rfl
@[simp] theorem State.stores_setShadow (k : Key) (v : Nat) : (s.setShadow k v).stores = s.stores := rfl
@[simp] theorem State.inject_setShadow (k : Key) (v : Nat) : (s.setShadow k v).inject = s.inject := rfl
@[simp] theorem State.power_setShadow (k : Key) (v : Nat) : (s.setShadow k v).power = s.power := rfl
@[simp] theorem State.mc_setShadow (k : Key) (v : Nat) : (s.setShadow k v).mc = s.mc := rfl

@[simp] theorem State.pending_raise (ev : EvRow) (xs : List Nat) : (s.raise ev xs).pending = s.pending := rfl
@[simp] theorem State.now_raise (ev : EvRow) (xs : List Nat) : (s.raise ev xs).now = s.now := rfl
@[simp] theorem State.tick_raise (ev : EvRow) (xs : List Nat) : (s.raise ev xs).tick = s.tick := rfl
@[simp] theorem State.counted_raise (ev : EvRow) (xs : List Nat) : (s.raise ev xs).counted = s.counted := rfl
@[simp] theorem State.running_raise (ev : EvRow) (xs : List Nat) : (s.raise ev xs).running = s.running := rfl
@[simp] theorem State.fresh_raise (ev : EvRow) (xs : List Nat) : (s.raise ev xs).fresh = s.fresh := rfl
@[simp] theorem State.reg_raise (ev : EvRow) (xs : List Nat) : (s.raise ev xs).reg = s.reg := rfl
@[simp] theorem State.act_raise (ev : EvRow) (xs : List Nat) : (s.raise ev xs).act = s.act := rfl
@[simp] theorem State.shd_raise (ev : EvRow) (xs : List Nat) : (s.raise ev xs).shd = s.shd := rfl
@[simp] theorem State.defects_raise (ev : EvRow) (xs : List Nat) : (s.raise ev xs).defects = s.defects := rfl
@[simp] theorem State.agenda_raise (ev : EvRow) (xs : List Nat) : (s.raise ev xs).agenda = s.agenda := rfl
@[simp] theorem State.load_raise (ev : EvRow) (xs : List Nat) : (s.raise ev xs).load = s.load := rfl
@[simp] theorem State.autoLoad_raise (ev : EvRow) (xs : List Nat) : (s.raise ev xs).autoLoad = s.autoLoad := rfl
@[simp] theorem State.stream_raise (ev : EvRow) (xs : List Nat) : (s.raise ev xs).stream = s.stream := rfl
@[simp] theorem State.lastOverrun_raise (ev : EvRow) (xs : List Nat) : (s.raise ev xs).lastOverrun = s.lastOverrun := rfl
@[simp] theorem State.overrunEpoch_raise (ev : EvRow) (xs : List Nat) : (s.raise ev xs).overrunEpoch = s.overrunEpoch := rfl
@[simp] theorem State.overrunAt_raise (ev : EvRow) (xs : List Nat) : (s.raise ev xs).overrunAt = s.overrunAt := rfl
@[simp] theorem State.closed_raise (ev : EvRow) (xs : List Nat) : (s.raise ev xs).closed = s.closed := rfl
@[simp] theorem State.pllLatch_raise (ev : EvRow) (xs : List Nat) : (s.raise ev xs).pllLatch = s.pllLatch := rfl
@[simp] theorem State.bar_raise (ev : EvRow) (xs : List Nat) : (s.raise ev xs).bar = s.bar := rfl
@[simp] theorem State.sessions_raise (ev : EvRow) (xs : List Nat) : (s.raise ev xs).sessions = s.sessions := rfl
@[simp] theorem State.authEpoch_raise (ev : EvRow) (xs : List Nat) : (s.raise ev xs).authEpoch = s.authEpoch := rfl
@[simp] theorem State.owed_raise (ev : EvRow) (xs : List Nat) : (s.raise ev xs).owed = s.owed := rfl
@[simp] theorem State.resyncs_raise (ev : EvRow) (xs : List Nat) : (s.raise ev xs).resyncs = s.resyncs := rfl
@[simp] theorem State.evq_raise (ev : EvRow) (xs : List Nat) : (s.raise ev xs).evq = s.evq := rfl
@[simp] theorem State.eng_raise (ev : EvRow) (xs : List Nat) : (s.raise ev xs).eng = s.eng := rfl
@[simp] theorem State.bondSpread_raise (ev : EvRow) (xs : List Nat) : (s.raise ev xs).bondSpread = s.bondSpread := rfl
@[simp] theorem State.gccOut_raise (ev : EvRow) (xs : List Nat) : (s.raise ev xs).gccOut = s.gccOut := rfl
@[simp] theorem State.gccIn_raise (ev : EvRow) (xs : List Nat) : (s.raise ev xs).gccIn = s.gccIn := rfl
@[simp] theorem State.gccEpoch_raise (ev : EvRow) (xs : List Nat) : (s.raise ev xs).gccEpoch = s.gccEpoch := rfl
@[simp] theorem State.ohpSent_raise (ev : EvRow) (xs : List Nat) : (s.raise ev xs).ohpSent = s.ohpSent := rfl
@[simp] theorem State.clients_raise (ev : EvRow) (xs : List Nat) : (s.raise ev xs).clients = s.clients := rfl
@[simp] theorem State.cells_raise (ev : EvRow) (xs : List Nat) : (s.raise ev xs).cells = s.cells := rfl
@[simp] theorem State.timing_raise (ev : EvRow) (xs : List Nat) : (s.raise ev xs).timing = s.timing := rfl
@[simp] theorem State.prot_raise (ev : EvRow) (xs : List Nat) : (s.raise ev xs).prot = s.prot := rfl
@[simp] theorem State.sec_raise (ev : EvRow) (xs : List Nat) : (s.raise ev xs).sec = s.sec := rfl
@[simp] theorem State.prism_raise (ev : EvRow) (xs : List Nat) : (s.raise ev xs).prism = s.prism := rfl
@[simp] theorem State.shadow_raise (ev : EvRow) (xs : List Nat) : (s.raise ev xs).shadow = s.shadow := rfl
@[simp] theorem State.instr_raise (ev : EvRow) (xs : List Nat) : (s.raise ev xs).instr = s.instr := rfl
@[simp] theorem State.pm_raise (ev : EvRow) (xs : List Nat) : (s.raise ev xs).pm = s.pm := rfl
@[simp] theorem State.ring_raise (ev : EvRow) (xs : List Nat) : (s.raise ev xs).ring = s.ring := rfl
@[simp] theorem State.stores_raise (ev : EvRow) (xs : List Nat) : (s.raise ev xs).stores = s.stores := rfl
@[simp] theorem State.inject_raise (ev : EvRow) (xs : List Nat) : (s.raise ev xs).inject = s.inject := rfl
@[simp] theorem State.power_raise (ev : EvRow) (xs : List Nat) : (s.raise ev xs).power = s.power := rfl
@[simp] theorem State.mc_raise (ev : EvRow) (xs : List Nat) : (s.raise ev xs).mc = s.mc := rfl

@[simp] theorem State.pending_declare (d i : Nat) : (s.declare d i).pending = s.pending := by unfold State.declare; split <;> rfl
@[simp] theorem State.now_declare (d i : Nat) : (s.declare d i).now = s.now := by unfold State.declare; split <;> rfl
@[simp] theorem State.tick_declare (d i : Nat) : (s.declare d i).tick = s.tick := by unfold State.declare; split <;> rfl
@[simp] theorem State.counted_declare (d i : Nat) : (s.declare d i).counted = s.counted := by unfold State.declare; split <;> rfl
@[simp] theorem State.running_declare (d i : Nat) : (s.declare d i).running = s.running := by unfold State.declare; split <;> rfl
@[simp] theorem State.fresh_declare (d i : Nat) : (s.declare d i).fresh = s.fresh := by unfold State.declare; split <;> rfl
@[simp] theorem State.reg_declare (d i : Nat) : (s.declare d i).reg = s.reg := by unfold State.declare; split <;> rfl
@[simp] theorem State.act_declare (d i : Nat) : (s.declare d i).act = s.act := by unfold State.declare; split <;> rfl
@[simp] theorem State.shd_declare (d i : Nat) : (s.declare d i).shd = s.shd := by unfold State.declare; split <;> rfl
@[simp] theorem State.agenda_declare (d i : Nat) : (s.declare d i).agenda = s.agenda := by unfold State.declare; split <;> rfl
@[simp] theorem State.load_declare (d i : Nat) : (s.declare d i).load = s.load := by unfold State.declare; split <;> rfl
@[simp] theorem State.autoLoad_declare (d i : Nat) : (s.declare d i).autoLoad = s.autoLoad := by unfold State.declare; split <;> rfl
@[simp] theorem State.stream_declare (d i : Nat) : (s.declare d i).stream = s.stream := by unfold State.declare; split <;> rfl
@[simp] theorem State.lastOverrun_declare (d i : Nat) : (s.declare d i).lastOverrun = s.lastOverrun := by unfold State.declare; split <;> rfl
@[simp] theorem State.overrunEpoch_declare (d i : Nat) : (s.declare d i).overrunEpoch = s.overrunEpoch := by unfold State.declare; split <;> rfl
@[simp] theorem State.overrunAt_declare (d i : Nat) : (s.declare d i).overrunAt = s.overrunAt := by unfold State.declare; split <;> rfl
@[simp] theorem State.closed_declare (d i : Nat) : (s.declare d i).closed = s.closed := by unfold State.declare; split <;> rfl
@[simp] theorem State.pllLatch_declare (d i : Nat) : (s.declare d i).pllLatch = s.pllLatch := by unfold State.declare; split <;> rfl
@[simp] theorem State.bar_declare (d i : Nat) : (s.declare d i).bar = s.bar := by unfold State.declare; split <;> rfl
@[simp] theorem State.sessions_declare (d i : Nat) : (s.declare d i).sessions = s.sessions := by unfold State.declare; split <;> rfl
@[simp] theorem State.authEpoch_declare (d i : Nat) : (s.declare d i).authEpoch = s.authEpoch := by unfold State.declare; split <;> rfl
@[simp] theorem State.owed_declare (d i : Nat) : (s.declare d i).owed = s.owed := by unfold State.declare; split <;> rfl
@[simp] theorem State.resyncs_declare (d i : Nat) : (s.declare d i).resyncs = s.resyncs := by unfold State.declare; split <;> rfl
@[simp] theorem State.evq_declare (d i : Nat) : (s.declare d i).evq = s.evq := by unfold State.declare; split <;> rfl
@[simp] theorem State.eng_declare (d i : Nat) : (s.declare d i).eng = s.eng := by unfold State.declare; split <;> rfl
@[simp] theorem State.bondSpread_declare (d i : Nat) : (s.declare d i).bondSpread = s.bondSpread := by unfold State.declare; split <;> rfl
@[simp] theorem State.gccOut_declare (d i : Nat) : (s.declare d i).gccOut = s.gccOut := by unfold State.declare; split <;> rfl
@[simp] theorem State.gccIn_declare (d i : Nat) : (s.declare d i).gccIn = s.gccIn := by unfold State.declare; split <;> rfl
@[simp] theorem State.gccEpoch_declare (d i : Nat) : (s.declare d i).gccEpoch = s.gccEpoch := by unfold State.declare; split <;> rfl
@[simp] theorem State.ohpSent_declare (d i : Nat) : (s.declare d i).ohpSent = s.ohpSent := by unfold State.declare; split <;> rfl
@[simp] theorem State.clients_declare (d i : Nat) : (s.declare d i).clients = s.clients := by unfold State.declare; split <;> rfl
@[simp] theorem State.cells_declare (d i : Nat) : (s.declare d i).cells = s.cells := by unfold State.declare; split <;> rfl
@[simp] theorem State.timing_declare (d i : Nat) : (s.declare d i).timing = s.timing := by unfold State.declare; split <;> rfl
@[simp] theorem State.prot_declare (d i : Nat) : (s.declare d i).prot = s.prot := by unfold State.declare; split <;> rfl
@[simp] theorem State.sec_declare (d i : Nat) : (s.declare d i).sec = s.sec := by unfold State.declare; split <;> rfl
@[simp] theorem State.prism_declare (d i : Nat) : (s.declare d i).prism = s.prism := by unfold State.declare; split <;> rfl
@[simp] theorem State.shadow_declare (d i : Nat) : (s.declare d i).shadow = s.shadow := by unfold State.declare; split <;> rfl
@[simp] theorem State.instr_declare (d i : Nat) : (s.declare d i).instr = s.instr := by unfold State.declare; split <;> rfl
@[simp] theorem State.pm_declare (d i : Nat) : (s.declare d i).pm = s.pm := by unfold State.declare; split <;> rfl
@[simp] theorem State.ring_declare (d i : Nat) : (s.declare d i).ring = s.ring := by unfold State.declare; split <;> rfl
@[simp] theorem State.stores_declare (d i : Nat) : (s.declare d i).stores = s.stores := by unfold State.declare; split <;> rfl
@[simp] theorem State.inject_declare (d i : Nat) : (s.declare d i).inject = s.inject := by unfold State.declare; split <;> rfl
@[simp] theorem State.power_declare (d i : Nat) : (s.declare d i).power = s.power := by unfold State.declare; split <;> rfl
@[simp] theorem State.mc_declare (d i : Nat) : (s.declare d i).mc = s.mc := by unfold State.declare; split <;> rfl

@[simp] theorem State.pending_clear (d i : Nat) : (s.clear d i).pending = s.pending := by unfold State.clear; split <;> rfl
@[simp] theorem State.now_clear (d i : Nat) : (s.clear d i).now = s.now := by unfold State.clear; split <;> rfl
@[simp] theorem State.tick_clear (d i : Nat) : (s.clear d i).tick = s.tick := by unfold State.clear; split <;> rfl
@[simp] theorem State.counted_clear (d i : Nat) : (s.clear d i).counted = s.counted := by unfold State.clear; split <;> rfl
@[simp] theorem State.running_clear (d i : Nat) : (s.clear d i).running = s.running := by unfold State.clear; split <;> rfl
@[simp] theorem State.fresh_clear (d i : Nat) : (s.clear d i).fresh = s.fresh := by unfold State.clear; split <;> rfl
@[simp] theorem State.reg_clear (d i : Nat) : (s.clear d i).reg = s.reg := by unfold State.clear; split <;> rfl
@[simp] theorem State.act_clear (d i : Nat) : (s.clear d i).act = s.act := by unfold State.clear; split <;> rfl
@[simp] theorem State.shd_clear (d i : Nat) : (s.clear d i).shd = s.shd := by unfold State.clear; split <;> rfl
@[simp] theorem State.agenda_clear (d i : Nat) : (s.clear d i).agenda = s.agenda := by unfold State.clear; split <;> rfl
@[simp] theorem State.load_clear (d i : Nat) : (s.clear d i).load = s.load := by unfold State.clear; split <;> rfl
@[simp] theorem State.autoLoad_clear (d i : Nat) : (s.clear d i).autoLoad = s.autoLoad := by unfold State.clear; split <;> rfl
@[simp] theorem State.stream_clear (d i : Nat) : (s.clear d i).stream = s.stream := by unfold State.clear; split <;> rfl
@[simp] theorem State.lastOverrun_clear (d i : Nat) : (s.clear d i).lastOverrun = s.lastOverrun := by unfold State.clear; split <;> rfl
@[simp] theorem State.overrunEpoch_clear (d i : Nat) : (s.clear d i).overrunEpoch = s.overrunEpoch := by unfold State.clear; split <;> rfl
@[simp] theorem State.overrunAt_clear (d i : Nat) : (s.clear d i).overrunAt = s.overrunAt := by unfold State.clear; split <;> rfl
@[simp] theorem State.closed_clear (d i : Nat) : (s.clear d i).closed = s.closed := by unfold State.clear; split <;> rfl
@[simp] theorem State.pllLatch_clear (d i : Nat) : (s.clear d i).pllLatch = s.pllLatch := by unfold State.clear; split <;> rfl
@[simp] theorem State.bar_clear (d i : Nat) : (s.clear d i).bar = s.bar := by unfold State.clear; split <;> rfl
@[simp] theorem State.sessions_clear (d i : Nat) : (s.clear d i).sessions = s.sessions := by unfold State.clear; split <;> rfl
@[simp] theorem State.authEpoch_clear (d i : Nat) : (s.clear d i).authEpoch = s.authEpoch := by unfold State.clear; split <;> rfl
@[simp] theorem State.owed_clear (d i : Nat) : (s.clear d i).owed = s.owed := by unfold State.clear; split <;> rfl
@[simp] theorem State.resyncs_clear (d i : Nat) : (s.clear d i).resyncs = s.resyncs := by unfold State.clear; split <;> rfl
@[simp] theorem State.evq_clear (d i : Nat) : (s.clear d i).evq = s.evq := by unfold State.clear; split <;> rfl
@[simp] theorem State.eng_clear (d i : Nat) : (s.clear d i).eng = s.eng := by unfold State.clear; split <;> rfl
@[simp] theorem State.bondSpread_clear (d i : Nat) : (s.clear d i).bondSpread = s.bondSpread := by unfold State.clear; split <;> rfl
@[simp] theorem State.gccOut_clear (d i : Nat) : (s.clear d i).gccOut = s.gccOut := by unfold State.clear; split <;> rfl
@[simp] theorem State.gccIn_clear (d i : Nat) : (s.clear d i).gccIn = s.gccIn := by unfold State.clear; split <;> rfl
@[simp] theorem State.gccEpoch_clear (d i : Nat) : (s.clear d i).gccEpoch = s.gccEpoch := by unfold State.clear; split <;> rfl
@[simp] theorem State.ohpSent_clear (d i : Nat) : (s.clear d i).ohpSent = s.ohpSent := by unfold State.clear; split <;> rfl
@[simp] theorem State.clients_clear (d i : Nat) : (s.clear d i).clients = s.clients := by unfold State.clear; split <;> rfl
@[simp] theorem State.cells_clear (d i : Nat) : (s.clear d i).cells = s.cells := by unfold State.clear; split <;> rfl
@[simp] theorem State.timing_clear (d i : Nat) : (s.clear d i).timing = s.timing := by unfold State.clear; split <;> rfl
@[simp] theorem State.prot_clear (d i : Nat) : (s.clear d i).prot = s.prot := by unfold State.clear; split <;> rfl
@[simp] theorem State.sec_clear (d i : Nat) : (s.clear d i).sec = s.sec := by unfold State.clear; split <;> rfl
@[simp] theorem State.prism_clear (d i : Nat) : (s.clear d i).prism = s.prism := by unfold State.clear; split <;> rfl
@[simp] theorem State.shadow_clear (d i : Nat) : (s.clear d i).shadow = s.shadow := by unfold State.clear; split <;> rfl
@[simp] theorem State.instr_clear (d i : Nat) : (s.clear d i).instr = s.instr := by unfold State.clear; split <;> rfl
@[simp] theorem State.pm_clear (d i : Nat) : (s.clear d i).pm = s.pm := by unfold State.clear; split <;> rfl
@[simp] theorem State.ring_clear (d i : Nat) : (s.clear d i).ring = s.ring := by unfold State.clear; split <;> rfl
@[simp] theorem State.stores_clear (d i : Nat) : (s.clear d i).stores = s.stores := by unfold State.clear; split <;> rfl
@[simp] theorem State.inject_clear (d i : Nat) : (s.clear d i).inject = s.inject := by unfold State.clear; split <;> rfl
@[simp] theorem State.power_clear (d i : Nat) : (s.clear d i).power = s.power := by unfold State.clear; split <;> rfl
@[simp] theorem State.mc_clear (d i : Nat) : (s.clear d i).mc = s.mc := by unfold State.clear; split <;> rfl

@[simp] theorem State.pending_setEngine (e : Nat) (r : Engine) : (s.setEngine e r).pending = s.pending := rfl
@[simp] theorem State.now_setEngine (e : Nat) (r : Engine) : (s.setEngine e r).now = s.now := rfl
@[simp] theorem State.tick_setEngine (e : Nat) (r : Engine) : (s.setEngine e r).tick = s.tick := rfl
@[simp] theorem State.counted_setEngine (e : Nat) (r : Engine) : (s.setEngine e r).counted = s.counted := rfl
@[simp] theorem State.running_setEngine (e : Nat) (r : Engine) : (s.setEngine e r).running = s.running := rfl
@[simp] theorem State.fresh_setEngine (e : Nat) (r : Engine) : (s.setEngine e r).fresh = s.fresh := rfl
@[simp] theorem State.reg_setEngine (e : Nat) (r : Engine) : (s.setEngine e r).reg = s.reg := rfl
@[simp] theorem State.act_setEngine (e : Nat) (r : Engine) : (s.setEngine e r).act = s.act := rfl
@[simp] theorem State.shd_setEngine (e : Nat) (r : Engine) : (s.setEngine e r).shd = s.shd := rfl
@[simp] theorem State.defects_setEngine (e : Nat) (r : Engine) : (s.setEngine e r).defects = s.defects := rfl
@[simp] theorem State.agenda_setEngine (e : Nat) (r : Engine) : (s.setEngine e r).agenda = s.agenda := rfl
@[simp] theorem State.load_setEngine (e : Nat) (r : Engine) : (s.setEngine e r).load = s.load := rfl
@[simp] theorem State.autoLoad_setEngine (e : Nat) (r : Engine) : (s.setEngine e r).autoLoad = s.autoLoad := rfl
@[simp] theorem State.changes_setEngine (e : Nat) (r : Engine) : (s.setEngine e r).changes = s.changes := rfl
@[simp] theorem State.stream_setEngine (e : Nat) (r : Engine) : (s.setEngine e r).stream = s.stream := rfl
@[simp] theorem State.lastOverrun_setEngine (e : Nat) (r : Engine) : (s.setEngine e r).lastOverrun = s.lastOverrun := rfl
@[simp] theorem State.overrunEpoch_setEngine (e : Nat) (r : Engine) : (s.setEngine e r).overrunEpoch = s.overrunEpoch := rfl
@[simp] theorem State.overrunAt_setEngine (e : Nat) (r : Engine) : (s.setEngine e r).overrunAt = s.overrunAt := rfl
@[simp] theorem State.closed_setEngine (e : Nat) (r : Engine) : (s.setEngine e r).closed = s.closed := rfl
@[simp] theorem State.pllLatch_setEngine (e : Nat) (r : Engine) : (s.setEngine e r).pllLatch = s.pllLatch := rfl
@[simp] theorem State.bar_setEngine (e : Nat) (r : Engine) : (s.setEngine e r).bar = s.bar := rfl
@[simp] theorem State.sessions_setEngine (e : Nat) (r : Engine) : (s.setEngine e r).sessions = s.sessions := rfl
@[simp] theorem State.authEpoch_setEngine (e : Nat) (r : Engine) : (s.setEngine e r).authEpoch = s.authEpoch := rfl
@[simp] theorem State.owed_setEngine (e : Nat) (r : Engine) : (s.setEngine e r).owed = s.owed := rfl
@[simp] theorem State.resyncs_setEngine (e : Nat) (r : Engine) : (s.setEngine e r).resyncs = s.resyncs := rfl
@[simp] theorem State.evq_setEngine (e : Nat) (r : Engine) : (s.setEngine e r).evq = s.evq := rfl
@[simp] theorem State.bondSpread_setEngine (e : Nat) (r : Engine) : (s.setEngine e r).bondSpread = s.bondSpread := rfl
@[simp] theorem State.gccOut_setEngine (e : Nat) (r : Engine) : (s.setEngine e r).gccOut = s.gccOut := rfl
@[simp] theorem State.gccIn_setEngine (e : Nat) (r : Engine) : (s.setEngine e r).gccIn = s.gccIn := rfl
@[simp] theorem State.gccEpoch_setEngine (e : Nat) (r : Engine) : (s.setEngine e r).gccEpoch = s.gccEpoch := rfl
@[simp] theorem State.ohpSent_setEngine (e : Nat) (r : Engine) : (s.setEngine e r).ohpSent = s.ohpSent := rfl
@[simp] theorem State.clients_setEngine (e : Nat) (r : Engine) : (s.setEngine e r).clients = s.clients := rfl
@[simp] theorem State.cells_setEngine (e : Nat) (r : Engine) : (s.setEngine e r).cells = s.cells := rfl
@[simp] theorem State.timing_setEngine (e : Nat) (r : Engine) : (s.setEngine e r).timing = s.timing := rfl
@[simp] theorem State.prot_setEngine (e : Nat) (r : Engine) : (s.setEngine e r).prot = s.prot := rfl
@[simp] theorem State.sec_setEngine (e : Nat) (r : Engine) : (s.setEngine e r).sec = s.sec := rfl
@[simp] theorem State.prism_setEngine (e : Nat) (r : Engine) : (s.setEngine e r).prism = s.prism := rfl
@[simp] theorem State.shadow_setEngine (e : Nat) (r : Engine) : (s.setEngine e r).shadow = s.shadow := rfl
@[simp] theorem State.instr_setEngine (e : Nat) (r : Engine) : (s.setEngine e r).instr = s.instr := rfl
@[simp] theorem State.pm_setEngine (e : Nat) (r : Engine) : (s.setEngine e r).pm = s.pm := rfl
@[simp] theorem State.ring_setEngine (e : Nat) (r : Engine) : (s.setEngine e r).ring = s.ring := rfl
@[simp] theorem State.stores_setEngine (e : Nat) (r : Engine) : (s.setEngine e r).stores = s.stores := rfl
@[simp] theorem State.inject_setEngine (e : Nat) (r : Engine) : (s.setEngine e r).inject = s.inject := rfl
@[simp] theorem State.power_setEngine (e : Nat) (r : Engine) : (s.setEngine e r).power = s.power := rfl
@[simp] theorem State.mc_setEngine (e : Nat) (r : Engine) : (s.setEngine e r).mc = s.mc := rfl

@[simp] theorem State.pending_withEngine (e : Nat) (f : Engine → Engine) : (s.withEngine e f).pending = s.pending := rfl
@[simp] theorem State.now_withEngine (e : Nat) (f : Engine → Engine) : (s.withEngine e f).now = s.now := rfl
@[simp] theorem State.tick_withEngine (e : Nat) (f : Engine → Engine) : (s.withEngine e f).tick = s.tick := rfl
@[simp] theorem State.counted_withEngine (e : Nat) (f : Engine → Engine) : (s.withEngine e f).counted = s.counted := rfl
@[simp] theorem State.running_withEngine (e : Nat) (f : Engine → Engine) : (s.withEngine e f).running = s.running := rfl
@[simp] theorem State.fresh_withEngine (e : Nat) (f : Engine → Engine) : (s.withEngine e f).fresh = s.fresh := rfl
@[simp] theorem State.reg_withEngine (e : Nat) (f : Engine → Engine) : (s.withEngine e f).reg = s.reg := rfl
@[simp] theorem State.act_withEngine (e : Nat) (f : Engine → Engine) : (s.withEngine e f).act = s.act := rfl
@[simp] theorem State.shd_withEngine (e : Nat) (f : Engine → Engine) : (s.withEngine e f).shd = s.shd := rfl
@[simp] theorem State.defects_withEngine (e : Nat) (f : Engine → Engine) : (s.withEngine e f).defects = s.defects := rfl
@[simp] theorem State.agenda_withEngine (e : Nat) (f : Engine → Engine) : (s.withEngine e f).agenda = s.agenda := rfl
@[simp] theorem State.load_withEngine (e : Nat) (f : Engine → Engine) : (s.withEngine e f).load = s.load := rfl
@[simp] theorem State.autoLoad_withEngine (e : Nat) (f : Engine → Engine) : (s.withEngine e f).autoLoad = s.autoLoad := rfl
@[simp] theorem State.changes_withEngine (e : Nat) (f : Engine → Engine) : (s.withEngine e f).changes = s.changes := rfl
@[simp] theorem State.stream_withEngine (e : Nat) (f : Engine → Engine) : (s.withEngine e f).stream = s.stream := rfl
@[simp] theorem State.lastOverrun_withEngine (e : Nat) (f : Engine → Engine) : (s.withEngine e f).lastOverrun = s.lastOverrun := rfl
@[simp] theorem State.overrunEpoch_withEngine (e : Nat) (f : Engine → Engine) : (s.withEngine e f).overrunEpoch = s.overrunEpoch := rfl
@[simp] theorem State.overrunAt_withEngine (e : Nat) (f : Engine → Engine) : (s.withEngine e f).overrunAt = s.overrunAt := rfl
@[simp] theorem State.closed_withEngine (e : Nat) (f : Engine → Engine) : (s.withEngine e f).closed = s.closed := rfl
@[simp] theorem State.pllLatch_withEngine (e : Nat) (f : Engine → Engine) : (s.withEngine e f).pllLatch = s.pllLatch := rfl
@[simp] theorem State.bar_withEngine (e : Nat) (f : Engine → Engine) : (s.withEngine e f).bar = s.bar := rfl
@[simp] theorem State.sessions_withEngine (e : Nat) (f : Engine → Engine) : (s.withEngine e f).sessions = s.sessions := rfl
@[simp] theorem State.authEpoch_withEngine (e : Nat) (f : Engine → Engine) : (s.withEngine e f).authEpoch = s.authEpoch := rfl
@[simp] theorem State.owed_withEngine (e : Nat) (f : Engine → Engine) : (s.withEngine e f).owed = s.owed := rfl
@[simp] theorem State.resyncs_withEngine (e : Nat) (f : Engine → Engine) : (s.withEngine e f).resyncs = s.resyncs := rfl
@[simp] theorem State.evq_withEngine (e : Nat) (f : Engine → Engine) : (s.withEngine e f).evq = s.evq := rfl
@[simp] theorem State.bondSpread_withEngine (e : Nat) (f : Engine → Engine) : (s.withEngine e f).bondSpread = s.bondSpread := rfl
@[simp] theorem State.gccOut_withEngine (e : Nat) (f : Engine → Engine) : (s.withEngine e f).gccOut = s.gccOut := rfl
@[simp] theorem State.gccIn_withEngine (e : Nat) (f : Engine → Engine) : (s.withEngine e f).gccIn = s.gccIn := rfl
@[simp] theorem State.gccEpoch_withEngine (e : Nat) (f : Engine → Engine) : (s.withEngine e f).gccEpoch = s.gccEpoch := rfl
@[simp] theorem State.ohpSent_withEngine (e : Nat) (f : Engine → Engine) : (s.withEngine e f).ohpSent = s.ohpSent := rfl
@[simp] theorem State.clients_withEngine (e : Nat) (f : Engine → Engine) : (s.withEngine e f).clients = s.clients := rfl
@[simp] theorem State.cells_withEngine (e : Nat) (f : Engine → Engine) : (s.withEngine e f).cells = s.cells := rfl
@[simp] theorem State.timing_withEngine (e : Nat) (f : Engine → Engine) : (s.withEngine e f).timing = s.timing := rfl
@[simp] theorem State.prot_withEngine (e : Nat) (f : Engine → Engine) : (s.withEngine e f).prot = s.prot := rfl
@[simp] theorem State.sec_withEngine (e : Nat) (f : Engine → Engine) : (s.withEngine e f).sec = s.sec := rfl
@[simp] theorem State.prism_withEngine (e : Nat) (f : Engine → Engine) : (s.withEngine e f).prism = s.prism := rfl
@[simp] theorem State.shadow_withEngine (e : Nat) (f : Engine → Engine) : (s.withEngine e f).shadow = s.shadow := rfl
@[simp] theorem State.instr_withEngine (e : Nat) (f : Engine → Engine) : (s.withEngine e f).instr = s.instr := rfl
@[simp] theorem State.pm_withEngine (e : Nat) (f : Engine → Engine) : (s.withEngine e f).pm = s.pm := rfl
@[simp] theorem State.ring_withEngine (e : Nat) (f : Engine → Engine) : (s.withEngine e f).ring = s.ring := rfl
@[simp] theorem State.stores_withEngine (e : Nat) (f : Engine → Engine) : (s.withEngine e f).stores = s.stores := rfl
@[simp] theorem State.inject_withEngine (e : Nat) (f : Engine → Engine) : (s.withEngine e f).inject = s.inject := rfl
@[simp] theorem State.power_withEngine (e : Nat) (f : Engine → Engine) : (s.withEngine e f).power = s.power := rfl
@[simp] theorem State.mc_withEngine (e : Nat) (f : Engine → Engine) : (s.withEngine e f).mc = s.mc := rfl

@[simp] theorem State.pending_withPrism (f : Prism → Prism) : (s.withPrism f).pending = s.pending := rfl
@[simp] theorem State.now_withPrism (f : Prism → Prism) : (s.withPrism f).now = s.now := rfl
@[simp] theorem State.tick_withPrism (f : Prism → Prism) : (s.withPrism f).tick = s.tick := rfl
@[simp] theorem State.counted_withPrism (f : Prism → Prism) : (s.withPrism f).counted = s.counted := rfl
@[simp] theorem State.running_withPrism (f : Prism → Prism) : (s.withPrism f).running = s.running := rfl
@[simp] theorem State.fresh_withPrism (f : Prism → Prism) : (s.withPrism f).fresh = s.fresh := rfl
@[simp] theorem State.reg_withPrism (f : Prism → Prism) : (s.withPrism f).reg = s.reg := rfl
@[simp] theorem State.act_withPrism (f : Prism → Prism) : (s.withPrism f).act = s.act := rfl
@[simp] theorem State.shd_withPrism (f : Prism → Prism) : (s.withPrism f).shd = s.shd := rfl
@[simp] theorem State.defects_withPrism (f : Prism → Prism) : (s.withPrism f).defects = s.defects := rfl
@[simp] theorem State.agenda_withPrism (f : Prism → Prism) : (s.withPrism f).agenda = s.agenda := rfl
@[simp] theorem State.load_withPrism (f : Prism → Prism) : (s.withPrism f).load = s.load := rfl
@[simp] theorem State.autoLoad_withPrism (f : Prism → Prism) : (s.withPrism f).autoLoad = s.autoLoad := rfl
@[simp] theorem State.changes_withPrism (f : Prism → Prism) : (s.withPrism f).changes = s.changes := rfl
@[simp] theorem State.stream_withPrism (f : Prism → Prism) : (s.withPrism f).stream = s.stream := rfl
@[simp] theorem State.lastOverrun_withPrism (f : Prism → Prism) : (s.withPrism f).lastOverrun = s.lastOverrun := rfl
@[simp] theorem State.overrunEpoch_withPrism (f : Prism → Prism) : (s.withPrism f).overrunEpoch = s.overrunEpoch := rfl
@[simp] theorem State.overrunAt_withPrism (f : Prism → Prism) : (s.withPrism f).overrunAt = s.overrunAt := rfl
@[simp] theorem State.closed_withPrism (f : Prism → Prism) : (s.withPrism f).closed = s.closed := rfl
@[simp] theorem State.pllLatch_withPrism (f : Prism → Prism) : (s.withPrism f).pllLatch = s.pllLatch := rfl
@[simp] theorem State.bar_withPrism (f : Prism → Prism) : (s.withPrism f).bar = s.bar := rfl
@[simp] theorem State.sessions_withPrism (f : Prism → Prism) : (s.withPrism f).sessions = s.sessions := rfl
@[simp] theorem State.authEpoch_withPrism (f : Prism → Prism) : (s.withPrism f).authEpoch = s.authEpoch := rfl
@[simp] theorem State.owed_withPrism (f : Prism → Prism) : (s.withPrism f).owed = s.owed := rfl
@[simp] theorem State.resyncs_withPrism (f : Prism → Prism) : (s.withPrism f).resyncs = s.resyncs := rfl
@[simp] theorem State.evq_withPrism (f : Prism → Prism) : (s.withPrism f).evq = s.evq := rfl
@[simp] theorem State.eng_withPrism (f : Prism → Prism) : (s.withPrism f).eng = s.eng := rfl
@[simp] theorem State.bondSpread_withPrism (f : Prism → Prism) : (s.withPrism f).bondSpread = s.bondSpread := rfl
@[simp] theorem State.gccOut_withPrism (f : Prism → Prism) : (s.withPrism f).gccOut = s.gccOut := rfl
@[simp] theorem State.gccIn_withPrism (f : Prism → Prism) : (s.withPrism f).gccIn = s.gccIn := rfl
@[simp] theorem State.gccEpoch_withPrism (f : Prism → Prism) : (s.withPrism f).gccEpoch = s.gccEpoch := rfl
@[simp] theorem State.ohpSent_withPrism (f : Prism → Prism) : (s.withPrism f).ohpSent = s.ohpSent := rfl
@[simp] theorem State.clients_withPrism (f : Prism → Prism) : (s.withPrism f).clients = s.clients := rfl
@[simp] theorem State.cells_withPrism (f : Prism → Prism) : (s.withPrism f).cells = s.cells := rfl
@[simp] theorem State.timing_withPrism (f : Prism → Prism) : (s.withPrism f).timing = s.timing := rfl
@[simp] theorem State.prot_withPrism (f : Prism → Prism) : (s.withPrism f).prot = s.prot := rfl
@[simp] theorem State.sec_withPrism (f : Prism → Prism) : (s.withPrism f).sec = s.sec := rfl
@[simp] theorem State.shadow_withPrism (f : Prism → Prism) : (s.withPrism f).shadow = s.shadow := rfl
@[simp] theorem State.instr_withPrism (f : Prism → Prism) : (s.withPrism f).instr = s.instr := rfl
@[simp] theorem State.pm_withPrism (f : Prism → Prism) : (s.withPrism f).pm = s.pm := rfl
@[simp] theorem State.ring_withPrism (f : Prism → Prism) : (s.withPrism f).ring = s.ring := rfl
@[simp] theorem State.stores_withPrism (f : Prism → Prism) : (s.withPrism f).stores = s.stores := rfl
@[simp] theorem State.inject_withPrism (f : Prism → Prism) : (s.withPrism f).inject = s.inject := rfl
@[simp] theorem State.power_withPrism (f : Prism → Prism) : (s.withPrism f).power = s.power := rfl
@[simp] theorem State.mc_withPrism (f : Prism → Prism) : (s.withPrism f).mc = s.mc := rfl

@[simp] theorem State.pending_withShadow (f : Shadow → Shadow) : (s.withShadow f).pending = s.pending := rfl
@[simp] theorem State.now_withShadow (f : Shadow → Shadow) : (s.withShadow f).now = s.now := rfl
@[simp] theorem State.tick_withShadow (f : Shadow → Shadow) : (s.withShadow f).tick = s.tick := rfl
@[simp] theorem State.counted_withShadow (f : Shadow → Shadow) : (s.withShadow f).counted = s.counted := rfl
@[simp] theorem State.running_withShadow (f : Shadow → Shadow) : (s.withShadow f).running = s.running := rfl
@[simp] theorem State.fresh_withShadow (f : Shadow → Shadow) : (s.withShadow f).fresh = s.fresh := rfl
@[simp] theorem State.reg_withShadow (f : Shadow → Shadow) : (s.withShadow f).reg = s.reg := rfl
@[simp] theorem State.act_withShadow (f : Shadow → Shadow) : (s.withShadow f).act = s.act := rfl
@[simp] theorem State.shd_withShadow (f : Shadow → Shadow) : (s.withShadow f).shd = s.shd := rfl
@[simp] theorem State.defects_withShadow (f : Shadow → Shadow) : (s.withShadow f).defects = s.defects := rfl
@[simp] theorem State.agenda_withShadow (f : Shadow → Shadow) : (s.withShadow f).agenda = s.agenda := rfl
@[simp] theorem State.load_withShadow (f : Shadow → Shadow) : (s.withShadow f).load = s.load := rfl
@[simp] theorem State.autoLoad_withShadow (f : Shadow → Shadow) : (s.withShadow f).autoLoad = s.autoLoad := rfl
@[simp] theorem State.changes_withShadow (f : Shadow → Shadow) : (s.withShadow f).changes = s.changes := rfl
@[simp] theorem State.stream_withShadow (f : Shadow → Shadow) : (s.withShadow f).stream = s.stream := rfl
@[simp] theorem State.lastOverrun_withShadow (f : Shadow → Shadow) : (s.withShadow f).lastOverrun = s.lastOverrun := rfl
@[simp] theorem State.overrunEpoch_withShadow (f : Shadow → Shadow) : (s.withShadow f).overrunEpoch = s.overrunEpoch := rfl
@[simp] theorem State.overrunAt_withShadow (f : Shadow → Shadow) : (s.withShadow f).overrunAt = s.overrunAt := rfl
@[simp] theorem State.closed_withShadow (f : Shadow → Shadow) : (s.withShadow f).closed = s.closed := rfl
@[simp] theorem State.pllLatch_withShadow (f : Shadow → Shadow) : (s.withShadow f).pllLatch = s.pllLatch := rfl
@[simp] theorem State.bar_withShadow (f : Shadow → Shadow) : (s.withShadow f).bar = s.bar := rfl
@[simp] theorem State.sessions_withShadow (f : Shadow → Shadow) : (s.withShadow f).sessions = s.sessions := rfl
@[simp] theorem State.authEpoch_withShadow (f : Shadow → Shadow) : (s.withShadow f).authEpoch = s.authEpoch := rfl
@[simp] theorem State.owed_withShadow (f : Shadow → Shadow) : (s.withShadow f).owed = s.owed := rfl
@[simp] theorem State.resyncs_withShadow (f : Shadow → Shadow) : (s.withShadow f).resyncs = s.resyncs := rfl
@[simp] theorem State.evq_withShadow (f : Shadow → Shadow) : (s.withShadow f).evq = s.evq := rfl
@[simp] theorem State.eng_withShadow (f : Shadow → Shadow) : (s.withShadow f).eng = s.eng := rfl
@[simp] theorem State.bondSpread_withShadow (f : Shadow → Shadow) : (s.withShadow f).bondSpread = s.bondSpread := rfl
@[simp] theorem State.gccOut_withShadow (f : Shadow → Shadow) : (s.withShadow f).gccOut = s.gccOut := rfl
@[simp] theorem State.gccIn_withShadow (f : Shadow → Shadow) : (s.withShadow f).gccIn = s.gccIn := rfl
@[simp] theorem State.gccEpoch_withShadow (f : Shadow → Shadow) : (s.withShadow f).gccEpoch = s.gccEpoch := rfl
@[simp] theorem State.ohpSent_withShadow (f : Shadow → Shadow) : (s.withShadow f).ohpSent = s.ohpSent := rfl
@[simp] theorem State.clients_withShadow (f : Shadow → Shadow) : (s.withShadow f).clients = s.clients := rfl
@[simp] theorem State.cells_withShadow (f : Shadow → Shadow) : (s.withShadow f).cells = s.cells := rfl
@[simp] theorem State.timing_withShadow (f : Shadow → Shadow) : (s.withShadow f).timing = s.timing := rfl
@[simp] theorem State.prot_withShadow (f : Shadow → Shadow) : (s.withShadow f).prot = s.prot := rfl
@[simp] theorem State.sec_withShadow (f : Shadow → Shadow) : (s.withShadow f).sec = s.sec := rfl
@[simp] theorem State.prism_withShadow (f : Shadow → Shadow) : (s.withShadow f).prism = s.prism := rfl
@[simp] theorem State.instr_withShadow (f : Shadow → Shadow) : (s.withShadow f).instr = s.instr := rfl
@[simp] theorem State.pm_withShadow (f : Shadow → Shadow) : (s.withShadow f).pm = s.pm := rfl
@[simp] theorem State.ring_withShadow (f : Shadow → Shadow) : (s.withShadow f).ring = s.ring := rfl
@[simp] theorem State.stores_withShadow (f : Shadow → Shadow) : (s.withShadow f).stores = s.stores := rfl
@[simp] theorem State.inject_withShadow (f : Shadow → Shadow) : (s.withShadow f).inject = s.inject := rfl
@[simp] theorem State.power_withShadow (f : Shadow → Shadow) : (s.withShadow f).power = s.power := rfl
@[simp] theorem State.mc_withShadow (f : Shadow → Shadow) : (s.withShadow f).mc = s.mc := rfl

@[simp] theorem State.pending_withBar (f : Bar0 → Bar0) : (s.withBar f).pending = s.pending := rfl
@[simp] theorem State.now_withBar (f : Bar0 → Bar0) : (s.withBar f).now = s.now := rfl
@[simp] theorem State.tick_withBar (f : Bar0 → Bar0) : (s.withBar f).tick = s.tick := rfl
@[simp] theorem State.counted_withBar (f : Bar0 → Bar0) : (s.withBar f).counted = s.counted := rfl
@[simp] theorem State.running_withBar (f : Bar0 → Bar0) : (s.withBar f).running = s.running := rfl
@[simp] theorem State.fresh_withBar (f : Bar0 → Bar0) : (s.withBar f).fresh = s.fresh := rfl
@[simp] theorem State.reg_withBar (f : Bar0 → Bar0) : (s.withBar f).reg = s.reg := rfl
@[simp] theorem State.act_withBar (f : Bar0 → Bar0) : (s.withBar f).act = s.act := rfl
@[simp] theorem State.shd_withBar (f : Bar0 → Bar0) : (s.withBar f).shd = s.shd := rfl
@[simp] theorem State.defects_withBar (f : Bar0 → Bar0) : (s.withBar f).defects = s.defects := rfl
@[simp] theorem State.agenda_withBar (f : Bar0 → Bar0) : (s.withBar f).agenda = s.agenda := rfl
@[simp] theorem State.load_withBar (f : Bar0 → Bar0) : (s.withBar f).load = s.load := rfl
@[simp] theorem State.autoLoad_withBar (f : Bar0 → Bar0) : (s.withBar f).autoLoad = s.autoLoad := rfl
@[simp] theorem State.changes_withBar (f : Bar0 → Bar0) : (s.withBar f).changes = s.changes := rfl
@[simp] theorem State.stream_withBar (f : Bar0 → Bar0) : (s.withBar f).stream = s.stream := rfl
@[simp] theorem State.lastOverrun_withBar (f : Bar0 → Bar0) : (s.withBar f).lastOverrun = s.lastOverrun := rfl
@[simp] theorem State.overrunEpoch_withBar (f : Bar0 → Bar0) : (s.withBar f).overrunEpoch = s.overrunEpoch := rfl
@[simp] theorem State.overrunAt_withBar (f : Bar0 → Bar0) : (s.withBar f).overrunAt = s.overrunAt := rfl
@[simp] theorem State.closed_withBar (f : Bar0 → Bar0) : (s.withBar f).closed = s.closed := rfl
@[simp] theorem State.pllLatch_withBar (f : Bar0 → Bar0) : (s.withBar f).pllLatch = s.pllLatch := rfl
@[simp] theorem State.sessions_withBar (f : Bar0 → Bar0) : (s.withBar f).sessions = s.sessions := rfl
@[simp] theorem State.authEpoch_withBar (f : Bar0 → Bar0) : (s.withBar f).authEpoch = s.authEpoch := rfl
@[simp] theorem State.owed_withBar (f : Bar0 → Bar0) : (s.withBar f).owed = s.owed := rfl
@[simp] theorem State.resyncs_withBar (f : Bar0 → Bar0) : (s.withBar f).resyncs = s.resyncs := rfl
@[simp] theorem State.evq_withBar (f : Bar0 → Bar0) : (s.withBar f).evq = s.evq := rfl
@[simp] theorem State.eng_withBar (f : Bar0 → Bar0) : (s.withBar f).eng = s.eng := rfl
@[simp] theorem State.bondSpread_withBar (f : Bar0 → Bar0) : (s.withBar f).bondSpread = s.bondSpread := rfl
@[simp] theorem State.gccOut_withBar (f : Bar0 → Bar0) : (s.withBar f).gccOut = s.gccOut := rfl
@[simp] theorem State.gccIn_withBar (f : Bar0 → Bar0) : (s.withBar f).gccIn = s.gccIn := rfl
@[simp] theorem State.gccEpoch_withBar (f : Bar0 → Bar0) : (s.withBar f).gccEpoch = s.gccEpoch := rfl
@[simp] theorem State.ohpSent_withBar (f : Bar0 → Bar0) : (s.withBar f).ohpSent = s.ohpSent := rfl
@[simp] theorem State.clients_withBar (f : Bar0 → Bar0) : (s.withBar f).clients = s.clients := rfl
@[simp] theorem State.cells_withBar (f : Bar0 → Bar0) : (s.withBar f).cells = s.cells := rfl
@[simp] theorem State.timing_withBar (f : Bar0 → Bar0) : (s.withBar f).timing = s.timing := rfl
@[simp] theorem State.prot_withBar (f : Bar0 → Bar0) : (s.withBar f).prot = s.prot := rfl
@[simp] theorem State.sec_withBar (f : Bar0 → Bar0) : (s.withBar f).sec = s.sec := rfl
@[simp] theorem State.prism_withBar (f : Bar0 → Bar0) : (s.withBar f).prism = s.prism := rfl
@[simp] theorem State.shadow_withBar (f : Bar0 → Bar0) : (s.withBar f).shadow = s.shadow := rfl
@[simp] theorem State.instr_withBar (f : Bar0 → Bar0) : (s.withBar f).instr = s.instr := rfl
@[simp] theorem State.pm_withBar (f : Bar0 → Bar0) : (s.withBar f).pm = s.pm := rfl
@[simp] theorem State.ring_withBar (f : Bar0 → Bar0) : (s.withBar f).ring = s.ring := rfl
@[simp] theorem State.stores_withBar (f : Bar0 → Bar0) : (s.withBar f).stores = s.stores := rfl
@[simp] theorem State.inject_withBar (f : Bar0 → Bar0) : (s.withBar f).inject = s.inject := rfl
@[simp] theorem State.power_withBar (f : Bar0 → Bar0) : (s.withBar f).power = s.power := rfl
@[simp] theorem State.mc_withBar (f : Bar0 → Bar0) : (s.withBar f).mc = s.mc := rfl

@[simp] theorem State.pending_withMc (f : Mc → Mc) : (s.withMc f).pending = s.pending := rfl
@[simp] theorem State.now_withMc (f : Mc → Mc) : (s.withMc f).now = s.now := rfl
@[simp] theorem State.tick_withMc (f : Mc → Mc) : (s.withMc f).tick = s.tick := rfl
@[simp] theorem State.counted_withMc (f : Mc → Mc) : (s.withMc f).counted = s.counted := rfl
@[simp] theorem State.running_withMc (f : Mc → Mc) : (s.withMc f).running = s.running := rfl
@[simp] theorem State.fresh_withMc (f : Mc → Mc) : (s.withMc f).fresh = s.fresh := rfl
@[simp] theorem State.reg_withMc (f : Mc → Mc) : (s.withMc f).reg = s.reg := rfl
@[simp] theorem State.act_withMc (f : Mc → Mc) : (s.withMc f).act = s.act := rfl
@[simp] theorem State.shd_withMc (f : Mc → Mc) : (s.withMc f).shd = s.shd := rfl
@[simp] theorem State.defects_withMc (f : Mc → Mc) : (s.withMc f).defects = s.defects := rfl
@[simp] theorem State.agenda_withMc (f : Mc → Mc) : (s.withMc f).agenda = s.agenda := rfl
@[simp] theorem State.load_withMc (f : Mc → Mc) : (s.withMc f).load = s.load := rfl
@[simp] theorem State.autoLoad_withMc (f : Mc → Mc) : (s.withMc f).autoLoad = s.autoLoad := rfl
@[simp] theorem State.changes_withMc (f : Mc → Mc) : (s.withMc f).changes = s.changes := rfl
@[simp] theorem State.stream_withMc (f : Mc → Mc) : (s.withMc f).stream = s.stream := rfl
@[simp] theorem State.lastOverrun_withMc (f : Mc → Mc) : (s.withMc f).lastOverrun = s.lastOverrun := rfl
@[simp] theorem State.overrunEpoch_withMc (f : Mc → Mc) : (s.withMc f).overrunEpoch = s.overrunEpoch := rfl
@[simp] theorem State.overrunAt_withMc (f : Mc → Mc) : (s.withMc f).overrunAt = s.overrunAt := rfl
@[simp] theorem State.closed_withMc (f : Mc → Mc) : (s.withMc f).closed = s.closed := rfl
@[simp] theorem State.pllLatch_withMc (f : Mc → Mc) : (s.withMc f).pllLatch = s.pllLatch := rfl
@[simp] theorem State.bar_withMc (f : Mc → Mc) : (s.withMc f).bar = s.bar := rfl
@[simp] theorem State.sessions_withMc (f : Mc → Mc) : (s.withMc f).sessions = s.sessions := rfl
@[simp] theorem State.authEpoch_withMc (f : Mc → Mc) : (s.withMc f).authEpoch = s.authEpoch := rfl
@[simp] theorem State.owed_withMc (f : Mc → Mc) : (s.withMc f).owed = s.owed := rfl
@[simp] theorem State.resyncs_withMc (f : Mc → Mc) : (s.withMc f).resyncs = s.resyncs := rfl
@[simp] theorem State.evq_withMc (f : Mc → Mc) : (s.withMc f).evq = s.evq := rfl
@[simp] theorem State.eng_withMc (f : Mc → Mc) : (s.withMc f).eng = s.eng := rfl
@[simp] theorem State.bondSpread_withMc (f : Mc → Mc) : (s.withMc f).bondSpread = s.bondSpread := rfl
@[simp] theorem State.gccOut_withMc (f : Mc → Mc) : (s.withMc f).gccOut = s.gccOut := rfl
@[simp] theorem State.gccIn_withMc (f : Mc → Mc) : (s.withMc f).gccIn = s.gccIn := rfl
@[simp] theorem State.gccEpoch_withMc (f : Mc → Mc) : (s.withMc f).gccEpoch = s.gccEpoch := rfl
@[simp] theorem State.ohpSent_withMc (f : Mc → Mc) : (s.withMc f).ohpSent = s.ohpSent := rfl
@[simp] theorem State.clients_withMc (f : Mc → Mc) : (s.withMc f).clients = s.clients := rfl
@[simp] theorem State.cells_withMc (f : Mc → Mc) : (s.withMc f).cells = s.cells := rfl
@[simp] theorem State.timing_withMc (f : Mc → Mc) : (s.withMc f).timing = s.timing := rfl
@[simp] theorem State.prot_withMc (f : Mc → Mc) : (s.withMc f).prot = s.prot := rfl
@[simp] theorem State.sec_withMc (f : Mc → Mc) : (s.withMc f).sec = s.sec := rfl
@[simp] theorem State.prism_withMc (f : Mc → Mc) : (s.withMc f).prism = s.prism := rfl
@[simp] theorem State.shadow_withMc (f : Mc → Mc) : (s.withMc f).shadow = s.shadow := rfl
@[simp] theorem State.instr_withMc (f : Mc → Mc) : (s.withMc f).instr = s.instr := rfl
@[simp] theorem State.pm_withMc (f : Mc → Mc) : (s.withMc f).pm = s.pm := rfl
@[simp] theorem State.ring_withMc (f : Mc → Mc) : (s.withMc f).ring = s.ring := rfl
@[simp] theorem State.stores_withMc (f : Mc → Mc) : (s.withMc f).stores = s.stores := rfl
@[simp] theorem State.inject_withMc (f : Mc → Mc) : (s.withMc f).inject = s.inject := rfl
@[simp] theorem State.power_withMc (f : Mc → Mc) : (s.withMc f).power = s.power := rfl

@[simp] theorem State.pending_withPower (f : Power → Power) : (s.withPower f).pending = s.pending := rfl
@[simp] theorem State.now_withPower (f : Power → Power) : (s.withPower f).now = s.now := rfl
@[simp] theorem State.tick_withPower (f : Power → Power) : (s.withPower f).tick = s.tick := rfl
@[simp] theorem State.counted_withPower (f : Power → Power) : (s.withPower f).counted = s.counted := rfl
@[simp] theorem State.running_withPower (f : Power → Power) : (s.withPower f).running = s.running := rfl
@[simp] theorem State.fresh_withPower (f : Power → Power) : (s.withPower f).fresh = s.fresh := rfl
@[simp] theorem State.reg_withPower (f : Power → Power) : (s.withPower f).reg = s.reg := rfl
@[simp] theorem State.act_withPower (f : Power → Power) : (s.withPower f).act = s.act := rfl
@[simp] theorem State.shd_withPower (f : Power → Power) : (s.withPower f).shd = s.shd := rfl
@[simp] theorem State.defects_withPower (f : Power → Power) : (s.withPower f).defects = s.defects := rfl
@[simp] theorem State.agenda_withPower (f : Power → Power) : (s.withPower f).agenda = s.agenda := rfl
@[simp] theorem State.load_withPower (f : Power → Power) : (s.withPower f).load = s.load := rfl
@[simp] theorem State.autoLoad_withPower (f : Power → Power) : (s.withPower f).autoLoad = s.autoLoad := rfl
@[simp] theorem State.changes_withPower (f : Power → Power) : (s.withPower f).changes = s.changes := rfl
@[simp] theorem State.stream_withPower (f : Power → Power) : (s.withPower f).stream = s.stream := rfl
@[simp] theorem State.lastOverrun_withPower (f : Power → Power) : (s.withPower f).lastOverrun = s.lastOverrun := rfl
@[simp] theorem State.overrunEpoch_withPower (f : Power → Power) : (s.withPower f).overrunEpoch = s.overrunEpoch := rfl
@[simp] theorem State.overrunAt_withPower (f : Power → Power) : (s.withPower f).overrunAt = s.overrunAt := rfl
@[simp] theorem State.closed_withPower (f : Power → Power) : (s.withPower f).closed = s.closed := rfl
@[simp] theorem State.pllLatch_withPower (f : Power → Power) : (s.withPower f).pllLatch = s.pllLatch := rfl
@[simp] theorem State.bar_withPower (f : Power → Power) : (s.withPower f).bar = s.bar := rfl
@[simp] theorem State.sessions_withPower (f : Power → Power) : (s.withPower f).sessions = s.sessions := rfl
@[simp] theorem State.authEpoch_withPower (f : Power → Power) : (s.withPower f).authEpoch = s.authEpoch := rfl
@[simp] theorem State.owed_withPower (f : Power → Power) : (s.withPower f).owed = s.owed := rfl
@[simp] theorem State.resyncs_withPower (f : Power → Power) : (s.withPower f).resyncs = s.resyncs := rfl
@[simp] theorem State.evq_withPower (f : Power → Power) : (s.withPower f).evq = s.evq := rfl
@[simp] theorem State.eng_withPower (f : Power → Power) : (s.withPower f).eng = s.eng := rfl
@[simp] theorem State.bondSpread_withPower (f : Power → Power) : (s.withPower f).bondSpread = s.bondSpread := rfl
@[simp] theorem State.gccOut_withPower (f : Power → Power) : (s.withPower f).gccOut = s.gccOut := rfl
@[simp] theorem State.gccIn_withPower (f : Power → Power) : (s.withPower f).gccIn = s.gccIn := rfl
@[simp] theorem State.gccEpoch_withPower (f : Power → Power) : (s.withPower f).gccEpoch = s.gccEpoch := rfl
@[simp] theorem State.ohpSent_withPower (f : Power → Power) : (s.withPower f).ohpSent = s.ohpSent := rfl
@[simp] theorem State.clients_withPower (f : Power → Power) : (s.withPower f).clients = s.clients := rfl
@[simp] theorem State.cells_withPower (f : Power → Power) : (s.withPower f).cells = s.cells := rfl
@[simp] theorem State.timing_withPower (f : Power → Power) : (s.withPower f).timing = s.timing := rfl
@[simp] theorem State.prot_withPower (f : Power → Power) : (s.withPower f).prot = s.prot := rfl
@[simp] theorem State.sec_withPower (f : Power → Power) : (s.withPower f).sec = s.sec := rfl
@[simp] theorem State.prism_withPower (f : Power → Power) : (s.withPower f).prism = s.prism := rfl
@[simp] theorem State.shadow_withPower (f : Power → Power) : (s.withPower f).shadow = s.shadow := rfl
@[simp] theorem State.instr_withPower (f : Power → Power) : (s.withPower f).instr = s.instr := rfl
@[simp] theorem State.pm_withPower (f : Power → Power) : (s.withPower f).pm = s.pm := rfl
@[simp] theorem State.ring_withPower (f : Power → Power) : (s.withPower f).ring = s.ring := rfl
@[simp] theorem State.stores_withPower (f : Power → Power) : (s.withPower f).stores = s.stores := rfl
@[simp] theorem State.inject_withPower (f : Power → Power) : (s.withPower f).inject = s.inject := rfl
@[simp] theorem State.mc_withPower (f : Power → Power) : (s.withPower f).mc = s.mc := rfl

@[simp] theorem State.pending_withStores (f : Stores → Stores) : (s.withStores f).pending = s.pending := rfl
@[simp] theorem State.now_withStores (f : Stores → Stores) : (s.withStores f).now = s.now := rfl
@[simp] theorem State.tick_withStores (f : Stores → Stores) : (s.withStores f).tick = s.tick := rfl
@[simp] theorem State.counted_withStores (f : Stores → Stores) : (s.withStores f).counted = s.counted := rfl
@[simp] theorem State.running_withStores (f : Stores → Stores) : (s.withStores f).running = s.running := rfl
@[simp] theorem State.fresh_withStores (f : Stores → Stores) : (s.withStores f).fresh = s.fresh := rfl
@[simp] theorem State.reg_withStores (f : Stores → Stores) : (s.withStores f).reg = s.reg := rfl
@[simp] theorem State.act_withStores (f : Stores → Stores) : (s.withStores f).act = s.act := rfl
@[simp] theorem State.shd_withStores (f : Stores → Stores) : (s.withStores f).shd = s.shd := rfl
@[simp] theorem State.defects_withStores (f : Stores → Stores) : (s.withStores f).defects = s.defects := rfl
@[simp] theorem State.agenda_withStores (f : Stores → Stores) : (s.withStores f).agenda = s.agenda := rfl
@[simp] theorem State.load_withStores (f : Stores → Stores) : (s.withStores f).load = s.load := rfl
@[simp] theorem State.autoLoad_withStores (f : Stores → Stores) : (s.withStores f).autoLoad = s.autoLoad := rfl
@[simp] theorem State.changes_withStores (f : Stores → Stores) : (s.withStores f).changes = s.changes := rfl
@[simp] theorem State.stream_withStores (f : Stores → Stores) : (s.withStores f).stream = s.stream := rfl
@[simp] theorem State.lastOverrun_withStores (f : Stores → Stores) : (s.withStores f).lastOverrun = s.lastOverrun := rfl
@[simp] theorem State.overrunEpoch_withStores (f : Stores → Stores) : (s.withStores f).overrunEpoch = s.overrunEpoch := rfl
@[simp] theorem State.overrunAt_withStores (f : Stores → Stores) : (s.withStores f).overrunAt = s.overrunAt := rfl
@[simp] theorem State.closed_withStores (f : Stores → Stores) : (s.withStores f).closed = s.closed := rfl
@[simp] theorem State.pllLatch_withStores (f : Stores → Stores) : (s.withStores f).pllLatch = s.pllLatch := rfl
@[simp] theorem State.bar_withStores (f : Stores → Stores) : (s.withStores f).bar = s.bar := rfl
@[simp] theorem State.sessions_withStores (f : Stores → Stores) : (s.withStores f).sessions = s.sessions := rfl
@[simp] theorem State.authEpoch_withStores (f : Stores → Stores) : (s.withStores f).authEpoch = s.authEpoch := rfl
@[simp] theorem State.owed_withStores (f : Stores → Stores) : (s.withStores f).owed = s.owed := rfl
@[simp] theorem State.resyncs_withStores (f : Stores → Stores) : (s.withStores f).resyncs = s.resyncs := rfl
@[simp] theorem State.evq_withStores (f : Stores → Stores) : (s.withStores f).evq = s.evq := rfl
@[simp] theorem State.eng_withStores (f : Stores → Stores) : (s.withStores f).eng = s.eng := rfl
@[simp] theorem State.bondSpread_withStores (f : Stores → Stores) : (s.withStores f).bondSpread = s.bondSpread := rfl
@[simp] theorem State.gccOut_withStores (f : Stores → Stores) : (s.withStores f).gccOut = s.gccOut := rfl
@[simp] theorem State.gccIn_withStores (f : Stores → Stores) : (s.withStores f).gccIn = s.gccIn := rfl
@[simp] theorem State.gccEpoch_withStores (f : Stores → Stores) : (s.withStores f).gccEpoch = s.gccEpoch := rfl
@[simp] theorem State.ohpSent_withStores (f : Stores → Stores) : (s.withStores f).ohpSent = s.ohpSent := rfl
@[simp] theorem State.clients_withStores (f : Stores → Stores) : (s.withStores f).clients = s.clients := rfl
@[simp] theorem State.cells_withStores (f : Stores → Stores) : (s.withStores f).cells = s.cells := rfl
@[simp] theorem State.timing_withStores (f : Stores → Stores) : (s.withStores f).timing = s.timing := rfl
@[simp] theorem State.prot_withStores (f : Stores → Stores) : (s.withStores f).prot = s.prot := rfl
@[simp] theorem State.sec_withStores (f : Stores → Stores) : (s.withStores f).sec = s.sec := rfl
@[simp] theorem State.prism_withStores (f : Stores → Stores) : (s.withStores f).prism = s.prism := rfl
@[simp] theorem State.shadow_withStores (f : Stores → Stores) : (s.withStores f).shadow = s.shadow := rfl
@[simp] theorem State.instr_withStores (f : Stores → Stores) : (s.withStores f).instr = s.instr := rfl
@[simp] theorem State.pm_withStores (f : Stores → Stores) : (s.withStores f).pm = s.pm := rfl
@[simp] theorem State.ring_withStores (f : Stores → Stores) : (s.withStores f).ring = s.ring := rfl
@[simp] theorem State.inject_withStores (f : Stores → Stores) : (s.withStores f).inject = s.inject := rfl
@[simp] theorem State.power_withStores (f : Stores → Stores) : (s.withStores f).power = s.power := rfl
@[simp] theorem State.mc_withStores (f : Stores → Stores) : (s.withStores f).mc = s.mc := rfl

@[simp] theorem State.pending_withInject (f : Injection → Injection) : (s.withInject f).pending = s.pending := rfl
@[simp] theorem State.now_withInject (f : Injection → Injection) : (s.withInject f).now = s.now := rfl
@[simp] theorem State.tick_withInject (f : Injection → Injection) : (s.withInject f).tick = s.tick := rfl
@[simp] theorem State.counted_withInject (f : Injection → Injection) : (s.withInject f).counted = s.counted := rfl
@[simp] theorem State.running_withInject (f : Injection → Injection) : (s.withInject f).running = s.running := rfl
@[simp] theorem State.fresh_withInject (f : Injection → Injection) : (s.withInject f).fresh = s.fresh := rfl
@[simp] theorem State.reg_withInject (f : Injection → Injection) : (s.withInject f).reg = s.reg := rfl
@[simp] theorem State.act_withInject (f : Injection → Injection) : (s.withInject f).act = s.act := rfl
@[simp] theorem State.shd_withInject (f : Injection → Injection) : (s.withInject f).shd = s.shd := rfl
@[simp] theorem State.defects_withInject (f : Injection → Injection) : (s.withInject f).defects = s.defects := rfl
@[simp] theorem State.agenda_withInject (f : Injection → Injection) : (s.withInject f).agenda = s.agenda := rfl
@[simp] theorem State.load_withInject (f : Injection → Injection) : (s.withInject f).load = s.load := rfl
@[simp] theorem State.autoLoad_withInject (f : Injection → Injection) : (s.withInject f).autoLoad = s.autoLoad := rfl
@[simp] theorem State.changes_withInject (f : Injection → Injection) : (s.withInject f).changes = s.changes := rfl
@[simp] theorem State.stream_withInject (f : Injection → Injection) : (s.withInject f).stream = s.stream := rfl
@[simp] theorem State.lastOverrun_withInject (f : Injection → Injection) : (s.withInject f).lastOverrun = s.lastOverrun := rfl
@[simp] theorem State.overrunEpoch_withInject (f : Injection → Injection) : (s.withInject f).overrunEpoch = s.overrunEpoch := rfl
@[simp] theorem State.overrunAt_withInject (f : Injection → Injection) : (s.withInject f).overrunAt = s.overrunAt := rfl
@[simp] theorem State.closed_withInject (f : Injection → Injection) : (s.withInject f).closed = s.closed := rfl
@[simp] theorem State.pllLatch_withInject (f : Injection → Injection) : (s.withInject f).pllLatch = s.pllLatch := rfl
@[simp] theorem State.bar_withInject (f : Injection → Injection) : (s.withInject f).bar = s.bar := rfl
@[simp] theorem State.sessions_withInject (f : Injection → Injection) : (s.withInject f).sessions = s.sessions := rfl
@[simp] theorem State.authEpoch_withInject (f : Injection → Injection) : (s.withInject f).authEpoch = s.authEpoch := rfl
@[simp] theorem State.owed_withInject (f : Injection → Injection) : (s.withInject f).owed = s.owed := rfl
@[simp] theorem State.resyncs_withInject (f : Injection → Injection) : (s.withInject f).resyncs = s.resyncs := rfl
@[simp] theorem State.evq_withInject (f : Injection → Injection) : (s.withInject f).evq = s.evq := rfl
@[simp] theorem State.eng_withInject (f : Injection → Injection) : (s.withInject f).eng = s.eng := rfl
@[simp] theorem State.bondSpread_withInject (f : Injection → Injection) : (s.withInject f).bondSpread = s.bondSpread := rfl
@[simp] theorem State.gccOut_withInject (f : Injection → Injection) : (s.withInject f).gccOut = s.gccOut := rfl
@[simp] theorem State.gccIn_withInject (f : Injection → Injection) : (s.withInject f).gccIn = s.gccIn := rfl
@[simp] theorem State.gccEpoch_withInject (f : Injection → Injection) : (s.withInject f).gccEpoch = s.gccEpoch := rfl
@[simp] theorem State.ohpSent_withInject (f : Injection → Injection) : (s.withInject f).ohpSent = s.ohpSent := rfl
@[simp] theorem State.clients_withInject (f : Injection → Injection) : (s.withInject f).clients = s.clients := rfl
@[simp] theorem State.cells_withInject (f : Injection → Injection) : (s.withInject f).cells = s.cells := rfl
@[simp] theorem State.timing_withInject (f : Injection → Injection) : (s.withInject f).timing = s.timing := rfl
@[simp] theorem State.prot_withInject (f : Injection → Injection) : (s.withInject f).prot = s.prot := rfl
@[simp] theorem State.sec_withInject (f : Injection → Injection) : (s.withInject f).sec = s.sec := rfl
@[simp] theorem State.prism_withInject (f : Injection → Injection) : (s.withInject f).prism = s.prism := rfl
@[simp] theorem State.shadow_withInject (f : Injection → Injection) : (s.withInject f).shadow = s.shadow := rfl
@[simp] theorem State.instr_withInject (f : Injection → Injection) : (s.withInject f).instr = s.instr := rfl
@[simp] theorem State.pm_withInject (f : Injection → Injection) : (s.withInject f).pm = s.pm := rfl
@[simp] theorem State.ring_withInject (f : Injection → Injection) : (s.withInject f).ring = s.ring := rfl
@[simp] theorem State.stores_withInject (f : Injection → Injection) : (s.withInject f).stores = s.stores := rfl
@[simp] theorem State.power_withInject (f : Injection → Injection) : (s.withInject f).power = s.power := rfl
@[simp] theorem State.mc_withInject (f : Injection → Injection) : (s.withInject f).mc = s.mc := rfl

@[simp] theorem State.pending_withRing (f : Ring → Ring) : (s.withRing f).pending = s.pending := rfl
@[simp] theorem State.now_withRing (f : Ring → Ring) : (s.withRing f).now = s.now := rfl
@[simp] theorem State.tick_withRing (f : Ring → Ring) : (s.withRing f).tick = s.tick := rfl
@[simp] theorem State.counted_withRing (f : Ring → Ring) : (s.withRing f).counted = s.counted := rfl
@[simp] theorem State.running_withRing (f : Ring → Ring) : (s.withRing f).running = s.running := rfl
@[simp] theorem State.fresh_withRing (f : Ring → Ring) : (s.withRing f).fresh = s.fresh := rfl
@[simp] theorem State.reg_withRing (f : Ring → Ring) : (s.withRing f).reg = s.reg := rfl
@[simp] theorem State.act_withRing (f : Ring → Ring) : (s.withRing f).act = s.act := rfl
@[simp] theorem State.shd_withRing (f : Ring → Ring) : (s.withRing f).shd = s.shd := rfl
@[simp] theorem State.defects_withRing (f : Ring → Ring) : (s.withRing f).defects = s.defects := rfl
@[simp] theorem State.agenda_withRing (f : Ring → Ring) : (s.withRing f).agenda = s.agenda := rfl
@[simp] theorem State.load_withRing (f : Ring → Ring) : (s.withRing f).load = s.load := rfl
@[simp] theorem State.autoLoad_withRing (f : Ring → Ring) : (s.withRing f).autoLoad = s.autoLoad := rfl
@[simp] theorem State.changes_withRing (f : Ring → Ring) : (s.withRing f).changes = s.changes := rfl
@[simp] theorem State.stream_withRing (f : Ring → Ring) : (s.withRing f).stream = s.stream := rfl
@[simp] theorem State.lastOverrun_withRing (f : Ring → Ring) : (s.withRing f).lastOverrun = s.lastOverrun := rfl
@[simp] theorem State.overrunEpoch_withRing (f : Ring → Ring) : (s.withRing f).overrunEpoch = s.overrunEpoch := rfl
@[simp] theorem State.overrunAt_withRing (f : Ring → Ring) : (s.withRing f).overrunAt = s.overrunAt := rfl
@[simp] theorem State.closed_withRing (f : Ring → Ring) : (s.withRing f).closed = s.closed := rfl
@[simp] theorem State.pllLatch_withRing (f : Ring → Ring) : (s.withRing f).pllLatch = s.pllLatch := rfl
@[simp] theorem State.bar_withRing (f : Ring → Ring) : (s.withRing f).bar = s.bar := rfl
@[simp] theorem State.sessions_withRing (f : Ring → Ring) : (s.withRing f).sessions = s.sessions := rfl
@[simp] theorem State.authEpoch_withRing (f : Ring → Ring) : (s.withRing f).authEpoch = s.authEpoch := rfl
@[simp] theorem State.owed_withRing (f : Ring → Ring) : (s.withRing f).owed = s.owed := rfl
@[simp] theorem State.resyncs_withRing (f : Ring → Ring) : (s.withRing f).resyncs = s.resyncs := rfl
@[simp] theorem State.evq_withRing (f : Ring → Ring) : (s.withRing f).evq = s.evq := rfl
@[simp] theorem State.eng_withRing (f : Ring → Ring) : (s.withRing f).eng = s.eng := rfl
@[simp] theorem State.bondSpread_withRing (f : Ring → Ring) : (s.withRing f).bondSpread = s.bondSpread := rfl
@[simp] theorem State.gccOut_withRing (f : Ring → Ring) : (s.withRing f).gccOut = s.gccOut := rfl
@[simp] theorem State.gccIn_withRing (f : Ring → Ring) : (s.withRing f).gccIn = s.gccIn := rfl
@[simp] theorem State.gccEpoch_withRing (f : Ring → Ring) : (s.withRing f).gccEpoch = s.gccEpoch := rfl
@[simp] theorem State.ohpSent_withRing (f : Ring → Ring) : (s.withRing f).ohpSent = s.ohpSent := rfl
@[simp] theorem State.clients_withRing (f : Ring → Ring) : (s.withRing f).clients = s.clients := rfl
@[simp] theorem State.cells_withRing (f : Ring → Ring) : (s.withRing f).cells = s.cells := rfl
@[simp] theorem State.timing_withRing (f : Ring → Ring) : (s.withRing f).timing = s.timing := rfl
@[simp] theorem State.prot_withRing (f : Ring → Ring) : (s.withRing f).prot = s.prot := rfl
@[simp] theorem State.sec_withRing (f : Ring → Ring) : (s.withRing f).sec = s.sec := rfl
@[simp] theorem State.prism_withRing (f : Ring → Ring) : (s.withRing f).prism = s.prism := rfl
@[simp] theorem State.shadow_withRing (f : Ring → Ring) : (s.withRing f).shadow = s.shadow := rfl
@[simp] theorem State.instr_withRing (f : Ring → Ring) : (s.withRing f).instr = s.instr := rfl
@[simp] theorem State.pm_withRing (f : Ring → Ring) : (s.withRing f).pm = s.pm := rfl
@[simp] theorem State.stores_withRing (f : Ring → Ring) : (s.withRing f).stores = s.stores := rfl
@[simp] theorem State.inject_withRing (f : Ring → Ring) : (s.withRing f).inject = s.inject := rfl
@[simp] theorem State.power_withRing (f : Ring → Ring) : (s.withRing f).power = s.power := rfl
@[simp] theorem State.mc_withRing (f : Ring → Ring) : (s.withRing f).mc = s.mc := rfl

@[simp] theorem State.pending_plan (b : Nat) (d : Due) : (s.plan b d).pending = s.pending := rfl
@[simp] theorem State.now_plan (b : Nat) (d : Due) : (s.plan b d).now = s.now := rfl
@[simp] theorem State.tick_plan (b : Nat) (d : Due) : (s.plan b d).tick = s.tick := rfl
@[simp] theorem State.counted_plan (b : Nat) (d : Due) : (s.plan b d).counted = s.counted := rfl
@[simp] theorem State.running_plan (b : Nat) (d : Due) : (s.plan b d).running = s.running := rfl
@[simp] theorem State.fresh_plan (b : Nat) (d : Due) : (s.plan b d).fresh = s.fresh := rfl
@[simp] theorem State.reg_plan (b : Nat) (d : Due) : (s.plan b d).reg = s.reg := rfl
@[simp] theorem State.act_plan (b : Nat) (d : Due) : (s.plan b d).act = s.act := rfl
@[simp] theorem State.shd_plan (b : Nat) (d : Due) : (s.plan b d).shd = s.shd := rfl
@[simp] theorem State.defects_plan (b : Nat) (d : Due) : (s.plan b d).defects = s.defects := rfl
@[simp] theorem State.load_plan (b : Nat) (d : Due) : (s.plan b d).load = s.load := rfl
@[simp] theorem State.autoLoad_plan (b : Nat) (d : Due) : (s.plan b d).autoLoad = s.autoLoad := rfl
@[simp] theorem State.changes_plan (b : Nat) (d : Due) : (s.plan b d).changes = s.changes := rfl
@[simp] theorem State.stream_plan (b : Nat) (d : Due) : (s.plan b d).stream = s.stream := rfl
@[simp] theorem State.lastOverrun_plan (b : Nat) (d : Due) : (s.plan b d).lastOverrun = s.lastOverrun := rfl
@[simp] theorem State.overrunEpoch_plan (b : Nat) (d : Due) : (s.plan b d).overrunEpoch = s.overrunEpoch := rfl
@[simp] theorem State.overrunAt_plan (b : Nat) (d : Due) : (s.plan b d).overrunAt = s.overrunAt := rfl
@[simp] theorem State.closed_plan (b : Nat) (d : Due) : (s.plan b d).closed = s.closed := rfl
@[simp] theorem State.pllLatch_plan (b : Nat) (d : Due) : (s.plan b d).pllLatch = s.pllLatch := rfl
@[simp] theorem State.bar_plan (b : Nat) (d : Due) : (s.plan b d).bar = s.bar := rfl
@[simp] theorem State.sessions_plan (b : Nat) (d : Due) : (s.plan b d).sessions = s.sessions := rfl
@[simp] theorem State.authEpoch_plan (b : Nat) (d : Due) : (s.plan b d).authEpoch = s.authEpoch := rfl
@[simp] theorem State.owed_plan (b : Nat) (d : Due) : (s.plan b d).owed = s.owed := rfl
@[simp] theorem State.resyncs_plan (b : Nat) (d : Due) : (s.plan b d).resyncs = s.resyncs := rfl
@[simp] theorem State.evq_plan (b : Nat) (d : Due) : (s.plan b d).evq = s.evq := rfl
@[simp] theorem State.eng_plan (b : Nat) (d : Due) : (s.plan b d).eng = s.eng := rfl
@[simp] theorem State.bondSpread_plan (b : Nat) (d : Due) : (s.plan b d).bondSpread = s.bondSpread := rfl
@[simp] theorem State.gccOut_plan (b : Nat) (d : Due) : (s.plan b d).gccOut = s.gccOut := rfl
@[simp] theorem State.gccIn_plan (b : Nat) (d : Due) : (s.plan b d).gccIn = s.gccIn := rfl
@[simp] theorem State.gccEpoch_plan (b : Nat) (d : Due) : (s.plan b d).gccEpoch = s.gccEpoch := rfl
@[simp] theorem State.ohpSent_plan (b : Nat) (d : Due) : (s.plan b d).ohpSent = s.ohpSent := rfl
@[simp] theorem State.clients_plan (b : Nat) (d : Due) : (s.plan b d).clients = s.clients := rfl
@[simp] theorem State.cells_plan (b : Nat) (d : Due) : (s.plan b d).cells = s.cells := rfl
@[simp] theorem State.timing_plan (b : Nat) (d : Due) : (s.plan b d).timing = s.timing := rfl
@[simp] theorem State.prot_plan (b : Nat) (d : Due) : (s.plan b d).prot = s.prot := rfl
@[simp] theorem State.sec_plan (b : Nat) (d : Due) : (s.plan b d).sec = s.sec := rfl
@[simp] theorem State.prism_plan (b : Nat) (d : Due) : (s.plan b d).prism = s.prism := rfl
@[simp] theorem State.shadow_plan (b : Nat) (d : Due) : (s.plan b d).shadow = s.shadow := rfl
@[simp] theorem State.instr_plan (b : Nat) (d : Due) : (s.plan b d).instr = s.instr := rfl
@[simp] theorem State.pm_plan (b : Nat) (d : Due) : (s.plan b d).pm = s.pm := rfl
@[simp] theorem State.ring_plan (b : Nat) (d : Due) : (s.plan b d).ring = s.ring := rfl
@[simp] theorem State.stores_plan (b : Nat) (d : Due) : (s.plan b d).stores = s.stores := rfl
@[simp] theorem State.inject_plan (b : Nat) (d : Due) : (s.plan b d).inject = s.inject := rfl
@[simp] theorem State.power_plan (b : Nat) (d : Due) : (s.plan b d).power = s.power := rfl
@[simp] theorem State.mc_plan (b : Nat) (d : Due) : (s.plan b d).mc = s.mc := rfl

@[simp] theorem State.pending_stage (k : Key) (v : Nat) : (s.stage k v).pending = s.pending := rfl
@[simp] theorem State.now_stage (k : Key) (v : Nat) : (s.stage k v).now = s.now := rfl
@[simp] theorem State.tick_stage (k : Key) (v : Nat) : (s.stage k v).tick = s.tick := rfl
@[simp] theorem State.counted_stage (k : Key) (v : Nat) : (s.stage k v).counted = s.counted := rfl
@[simp] theorem State.running_stage (k : Key) (v : Nat) : (s.stage k v).running = s.running := rfl
@[simp] theorem State.fresh_stage (k : Key) (v : Nat) : (s.stage k v).fresh = s.fresh := rfl
@[simp] theorem State.reg_stage (k : Key) (v : Nat) : (s.stage k v).reg = s.reg := rfl
@[simp] theorem State.act_stage (k : Key) (v : Nat) : (s.stage k v).act = s.act := rfl
@[simp] theorem State.shd_stage (k : Key) (v : Nat) : (s.stage k v).shd = s.shd := rfl
@[simp] theorem State.defects_stage (k : Key) (v : Nat) : (s.stage k v).defects = s.defects := rfl
@[simp] theorem State.load_stage (k : Key) (v : Nat) : (s.stage k v).load = s.load := rfl
@[simp] theorem State.autoLoad_stage (k : Key) (v : Nat) : (s.stage k v).autoLoad = s.autoLoad := rfl
@[simp] theorem State.changes_stage (k : Key) (v : Nat) : (s.stage k v).changes = s.changes := rfl
@[simp] theorem State.stream_stage (k : Key) (v : Nat) : (s.stage k v).stream = s.stream := rfl
@[simp] theorem State.lastOverrun_stage (k : Key) (v : Nat) : (s.stage k v).lastOverrun = s.lastOverrun := rfl
@[simp] theorem State.overrunEpoch_stage (k : Key) (v : Nat) : (s.stage k v).overrunEpoch = s.overrunEpoch := rfl
@[simp] theorem State.overrunAt_stage (k : Key) (v : Nat) : (s.stage k v).overrunAt = s.overrunAt := rfl
@[simp] theorem State.closed_stage (k : Key) (v : Nat) : (s.stage k v).closed = s.closed := rfl
@[simp] theorem State.pllLatch_stage (k : Key) (v : Nat) : (s.stage k v).pllLatch = s.pllLatch := rfl
@[simp] theorem State.bar_stage (k : Key) (v : Nat) : (s.stage k v).bar = s.bar := rfl
@[simp] theorem State.sessions_stage (k : Key) (v : Nat) : (s.stage k v).sessions = s.sessions := rfl
@[simp] theorem State.authEpoch_stage (k : Key) (v : Nat) : (s.stage k v).authEpoch = s.authEpoch := rfl
@[simp] theorem State.owed_stage (k : Key) (v : Nat) : (s.stage k v).owed = s.owed := rfl
@[simp] theorem State.resyncs_stage (k : Key) (v : Nat) : (s.stage k v).resyncs = s.resyncs := rfl
@[simp] theorem State.evq_stage (k : Key) (v : Nat) : (s.stage k v).evq = s.evq := rfl
@[simp] theorem State.eng_stage (k : Key) (v : Nat) : (s.stage k v).eng = s.eng := rfl
@[simp] theorem State.bondSpread_stage (k : Key) (v : Nat) : (s.stage k v).bondSpread = s.bondSpread := rfl
@[simp] theorem State.gccOut_stage (k : Key) (v : Nat) : (s.stage k v).gccOut = s.gccOut := rfl
@[simp] theorem State.gccIn_stage (k : Key) (v : Nat) : (s.stage k v).gccIn = s.gccIn := rfl
@[simp] theorem State.gccEpoch_stage (k : Key) (v : Nat) : (s.stage k v).gccEpoch = s.gccEpoch := rfl
@[simp] theorem State.ohpSent_stage (k : Key) (v : Nat) : (s.stage k v).ohpSent = s.ohpSent := rfl
@[simp] theorem State.clients_stage (k : Key) (v : Nat) : (s.stage k v).clients = s.clients := rfl
@[simp] theorem State.cells_stage (k : Key) (v : Nat) : (s.stage k v).cells = s.cells := rfl
@[simp] theorem State.timing_stage (k : Key) (v : Nat) : (s.stage k v).timing = s.timing := rfl
@[simp] theorem State.prot_stage (k : Key) (v : Nat) : (s.stage k v).prot = s.prot := rfl
@[simp] theorem State.sec_stage (k : Key) (v : Nat) : (s.stage k v).sec = s.sec := rfl
@[simp] theorem State.prism_stage (k : Key) (v : Nat) : (s.stage k v).prism = s.prism := rfl
@[simp] theorem State.shadow_stage (k : Key) (v : Nat) : (s.stage k v).shadow = s.shadow := rfl
@[simp] theorem State.instr_stage (k : Key) (v : Nat) : (s.stage k v).instr = s.instr := rfl
@[simp] theorem State.pm_stage (k : Key) (v : Nat) : (s.stage k v).pm = s.pm := rfl
@[simp] theorem State.ring_stage (k : Key) (v : Nat) : (s.stage k v).ring = s.ring := rfl
@[simp] theorem State.stores_stage (k : Key) (v : Nat) : (s.stage k v).stores = s.stores := rfl
@[simp] theorem State.inject_stage (k : Key) (v : Nat) : (s.stage k v).inject = s.inject := rfl
@[simp] theorem State.power_stage (k : Key) (v : Nat) : (s.stage k v).power = s.power := rfl
@[simp] theorem State.mc_stage (k : Key) (v : Nat) : (s.stage k v).mc = s.mc := rfl

@[simp] theorem State.pending_drawn : (s.drawn).pending = s.pending := rfl
@[simp] theorem State.now_drawn : (s.drawn).now = s.now := rfl
@[simp] theorem State.tick_drawn : (s.drawn).tick = s.tick := rfl
@[simp] theorem State.counted_drawn : (s.drawn).counted = s.counted := rfl
@[simp] theorem State.running_drawn : (s.drawn).running = s.running := rfl
@[simp] theorem State.reg_drawn : (s.drawn).reg = s.reg := rfl
@[simp] theorem State.act_drawn : (s.drawn).act = s.act := rfl
@[simp] theorem State.shd_drawn : (s.drawn).shd = s.shd := rfl
@[simp] theorem State.defects_drawn : (s.drawn).defects = s.defects := rfl
@[simp] theorem State.agenda_drawn : (s.drawn).agenda = s.agenda := rfl
@[simp] theorem State.load_drawn : (s.drawn).load = s.load := rfl
@[simp] theorem State.autoLoad_drawn : (s.drawn).autoLoad = s.autoLoad := rfl
@[simp] theorem State.changes_drawn : (s.drawn).changes = s.changes := rfl
@[simp] theorem State.stream_drawn : (s.drawn).stream = s.stream := rfl
@[simp] theorem State.lastOverrun_drawn : (s.drawn).lastOverrun = s.lastOverrun := rfl
@[simp] theorem State.overrunEpoch_drawn : (s.drawn).overrunEpoch = s.overrunEpoch := rfl
@[simp] theorem State.overrunAt_drawn : (s.drawn).overrunAt = s.overrunAt := rfl
@[simp] theorem State.closed_drawn : (s.drawn).closed = s.closed := rfl
@[simp] theorem State.pllLatch_drawn : (s.drawn).pllLatch = s.pllLatch := rfl
@[simp] theorem State.bar_drawn : (s.drawn).bar = s.bar := rfl
@[simp] theorem State.sessions_drawn : (s.drawn).sessions = s.sessions := rfl
@[simp] theorem State.authEpoch_drawn : (s.drawn).authEpoch = s.authEpoch := rfl
@[simp] theorem State.owed_drawn : (s.drawn).owed = s.owed := rfl
@[simp] theorem State.resyncs_drawn : (s.drawn).resyncs = s.resyncs := rfl
@[simp] theorem State.evq_drawn : (s.drawn).evq = s.evq := rfl
@[simp] theorem State.eng_drawn : (s.drawn).eng = s.eng := rfl
@[simp] theorem State.bondSpread_drawn : (s.drawn).bondSpread = s.bondSpread := rfl
@[simp] theorem State.gccOut_drawn : (s.drawn).gccOut = s.gccOut := rfl
@[simp] theorem State.gccIn_drawn : (s.drawn).gccIn = s.gccIn := rfl
@[simp] theorem State.gccEpoch_drawn : (s.drawn).gccEpoch = s.gccEpoch := rfl
@[simp] theorem State.ohpSent_drawn : (s.drawn).ohpSent = s.ohpSent := rfl
@[simp] theorem State.clients_drawn : (s.drawn).clients = s.clients := rfl
@[simp] theorem State.cells_drawn : (s.drawn).cells = s.cells := rfl
@[simp] theorem State.timing_drawn : (s.drawn).timing = s.timing := rfl
@[simp] theorem State.prot_drawn : (s.drawn).prot = s.prot := rfl
@[simp] theorem State.sec_drawn : (s.drawn).sec = s.sec := rfl
@[simp] theorem State.prism_drawn : (s.drawn).prism = s.prism := rfl
@[simp] theorem State.shadow_drawn : (s.drawn).shadow = s.shadow := rfl
@[simp] theorem State.instr_drawn : (s.drawn).instr = s.instr := rfl
@[simp] theorem State.pm_drawn : (s.drawn).pm = s.pm := rfl
@[simp] theorem State.ring_drawn : (s.drawn).ring = s.ring := rfl
@[simp] theorem State.stores_drawn : (s.drawn).stores = s.stores := rfl
@[simp] theorem State.inject_drawn : (s.drawn).inject = s.inject := rfl
@[simp] theorem State.power_drawn : (s.drawn).power = s.power := rfl
@[simp] theorem State.mc_drawn : (s.drawn).mc = s.mc := rfl

@[simp] theorem State.pending_irq (v : Nat) : (s.irq v).pending = s.pending := rfl
@[simp] theorem State.now_irq (v : Nat) : (s.irq v).now = s.now := rfl
@[simp] theorem State.tick_irq (v : Nat) : (s.irq v).tick = s.tick := rfl
@[simp] theorem State.counted_irq (v : Nat) : (s.irq v).counted = s.counted := rfl
@[simp] theorem State.running_irq (v : Nat) : (s.irq v).running = s.running := rfl
@[simp] theorem State.fresh_irq (v : Nat) : (s.irq v).fresh = s.fresh := rfl
@[simp] theorem State.reg_irq (v : Nat) : (s.irq v).reg = s.reg := rfl
@[simp] theorem State.act_irq (v : Nat) : (s.irq v).act = s.act := rfl
@[simp] theorem State.shd_irq (v : Nat) : (s.irq v).shd = s.shd := rfl
@[simp] theorem State.defects_irq (v : Nat) : (s.irq v).defects = s.defects := rfl
@[simp] theorem State.agenda_irq (v : Nat) : (s.irq v).agenda = s.agenda := rfl
@[simp] theorem State.load_irq (v : Nat) : (s.irq v).load = s.load := rfl
@[simp] theorem State.autoLoad_irq (v : Nat) : (s.irq v).autoLoad = s.autoLoad := rfl
@[simp] theorem State.changes_irq (v : Nat) : (s.irq v).changes = s.changes := rfl
@[simp] theorem State.stream_irq (v : Nat) : (s.irq v).stream = s.stream := rfl
@[simp] theorem State.lastOverrun_irq (v : Nat) : (s.irq v).lastOverrun = s.lastOverrun := rfl
@[simp] theorem State.overrunEpoch_irq (v : Nat) : (s.irq v).overrunEpoch = s.overrunEpoch := rfl
@[simp] theorem State.overrunAt_irq (v : Nat) : (s.irq v).overrunAt = s.overrunAt := rfl
@[simp] theorem State.closed_irq (v : Nat) : (s.irq v).closed = s.closed := rfl
@[simp] theorem State.pllLatch_irq (v : Nat) : (s.irq v).pllLatch = s.pllLatch := rfl
@[simp] theorem State.sessions_irq (v : Nat) : (s.irq v).sessions = s.sessions := rfl
@[simp] theorem State.authEpoch_irq (v : Nat) : (s.irq v).authEpoch = s.authEpoch := rfl
@[simp] theorem State.owed_irq (v : Nat) : (s.irq v).owed = s.owed := rfl
@[simp] theorem State.resyncs_irq (v : Nat) : (s.irq v).resyncs = s.resyncs := rfl
@[simp] theorem State.evq_irq (v : Nat) : (s.irq v).evq = s.evq := rfl
@[simp] theorem State.eng_irq (v : Nat) : (s.irq v).eng = s.eng := rfl
@[simp] theorem State.bondSpread_irq (v : Nat) : (s.irq v).bondSpread = s.bondSpread := rfl
@[simp] theorem State.gccOut_irq (v : Nat) : (s.irq v).gccOut = s.gccOut := rfl
@[simp] theorem State.gccIn_irq (v : Nat) : (s.irq v).gccIn = s.gccIn := rfl
@[simp] theorem State.gccEpoch_irq (v : Nat) : (s.irq v).gccEpoch = s.gccEpoch := rfl
@[simp] theorem State.ohpSent_irq (v : Nat) : (s.irq v).ohpSent = s.ohpSent := rfl
@[simp] theorem State.clients_irq (v : Nat) : (s.irq v).clients = s.clients := rfl
@[simp] theorem State.cells_irq (v : Nat) : (s.irq v).cells = s.cells := rfl
@[simp] theorem State.timing_irq (v : Nat) : (s.irq v).timing = s.timing := rfl
@[simp] theorem State.prot_irq (v : Nat) : (s.irq v).prot = s.prot := rfl
@[simp] theorem State.sec_irq (v : Nat) : (s.irq v).sec = s.sec := rfl
@[simp] theorem State.prism_irq (v : Nat) : (s.irq v).prism = s.prism := rfl
@[simp] theorem State.shadow_irq (v : Nat) : (s.irq v).shadow = s.shadow := rfl
@[simp] theorem State.instr_irq (v : Nat) : (s.irq v).instr = s.instr := rfl
@[simp] theorem State.pm_irq (v : Nat) : (s.irq v).pm = s.pm := rfl
@[simp] theorem State.ring_irq (v : Nat) : (s.irq v).ring = s.ring := rfl
@[simp] theorem State.stores_irq (v : Nat) : (s.irq v).stores = s.stores := rfl
@[simp] theorem State.inject_irq (v : Nat) : (s.irq v).inject = s.inject := rfl
@[simp] theorem State.power_irq (v : Nat) : (s.irq v).power = s.power := rfl
@[simp] theorem State.mc_irq (v : Nat) : (s.irq v).mc = s.mc := rfl

@[simp] theorem State.pending_setBoot (x c e : Nat) : (s.setBoot x c e).pending = s.pending := rfl
@[simp] theorem State.now_setBoot (x c e : Nat) : (s.setBoot x c e).now = s.now := rfl
@[simp] theorem State.tick_setBoot (x c e : Nat) : (s.setBoot x c e).tick = s.tick := rfl
@[simp] theorem State.counted_setBoot (x c e : Nat) : (s.setBoot x c e).counted = s.counted := rfl
@[simp] theorem State.running_setBoot (x c e : Nat) : (s.setBoot x c e).running = s.running := rfl
@[simp] theorem State.fresh_setBoot (x c e : Nat) : (s.setBoot x c e).fresh = s.fresh := rfl
@[simp] theorem State.reg_setBoot (x c e : Nat) : (s.setBoot x c e).reg = s.reg := rfl
@[simp] theorem State.act_setBoot (x c e : Nat) : (s.setBoot x c e).act = s.act := rfl
@[simp] theorem State.shd_setBoot (x c e : Nat) : (s.setBoot x c e).shd = s.shd := rfl
@[simp] theorem State.defects_setBoot (x c e : Nat) : (s.setBoot x c e).defects = s.defects := rfl
@[simp] theorem State.agenda_setBoot (x c e : Nat) : (s.setBoot x c e).agenda = s.agenda := rfl
@[simp] theorem State.load_setBoot (x c e : Nat) : (s.setBoot x c e).load = s.load := rfl
@[simp] theorem State.autoLoad_setBoot (x c e : Nat) : (s.setBoot x c e).autoLoad = s.autoLoad := rfl
@[simp] theorem State.changes_setBoot (x c e : Nat) : (s.setBoot x c e).changes = s.changes := rfl
@[simp] theorem State.stream_setBoot (x c e : Nat) : (s.setBoot x c e).stream = s.stream := rfl
@[simp] theorem State.lastOverrun_setBoot (x c e : Nat) : (s.setBoot x c e).lastOverrun = s.lastOverrun := rfl
@[simp] theorem State.overrunEpoch_setBoot (x c e : Nat) : (s.setBoot x c e).overrunEpoch = s.overrunEpoch := rfl
@[simp] theorem State.overrunAt_setBoot (x c e : Nat) : (s.setBoot x c e).overrunAt = s.overrunAt := rfl
@[simp] theorem State.closed_setBoot (x c e : Nat) : (s.setBoot x c e).closed = s.closed := rfl
@[simp] theorem State.pllLatch_setBoot (x c e : Nat) : (s.setBoot x c e).pllLatch = s.pllLatch := rfl
@[simp] theorem State.sessions_setBoot (x c e : Nat) : (s.setBoot x c e).sessions = s.sessions := rfl
@[simp] theorem State.authEpoch_setBoot (x c e : Nat) : (s.setBoot x c e).authEpoch = s.authEpoch := rfl
@[simp] theorem State.owed_setBoot (x c e : Nat) : (s.setBoot x c e).owed = s.owed := rfl
@[simp] theorem State.resyncs_setBoot (x c e : Nat) : (s.setBoot x c e).resyncs = s.resyncs := rfl
@[simp] theorem State.evq_setBoot (x c e : Nat) : (s.setBoot x c e).evq = s.evq := rfl
@[simp] theorem State.eng_setBoot (x c e : Nat) : (s.setBoot x c e).eng = s.eng := rfl
@[simp] theorem State.bondSpread_setBoot (x c e : Nat) : (s.setBoot x c e).bondSpread = s.bondSpread := rfl
@[simp] theorem State.gccOut_setBoot (x c e : Nat) : (s.setBoot x c e).gccOut = s.gccOut := rfl
@[simp] theorem State.gccIn_setBoot (x c e : Nat) : (s.setBoot x c e).gccIn = s.gccIn := rfl
@[simp] theorem State.gccEpoch_setBoot (x c e : Nat) : (s.setBoot x c e).gccEpoch = s.gccEpoch := rfl
@[simp] theorem State.ohpSent_setBoot (x c e : Nat) : (s.setBoot x c e).ohpSent = s.ohpSent := rfl
@[simp] theorem State.clients_setBoot (x c e : Nat) : (s.setBoot x c e).clients = s.clients := rfl
@[simp] theorem State.cells_setBoot (x c e : Nat) : (s.setBoot x c e).cells = s.cells := rfl
@[simp] theorem State.timing_setBoot (x c e : Nat) : (s.setBoot x c e).timing = s.timing := rfl
@[simp] theorem State.prot_setBoot (x c e : Nat) : (s.setBoot x c e).prot = s.prot := rfl
@[simp] theorem State.sec_setBoot (x c e : Nat) : (s.setBoot x c e).sec = s.sec := rfl
@[simp] theorem State.prism_setBoot (x c e : Nat) : (s.setBoot x c e).prism = s.prism := rfl
@[simp] theorem State.shadow_setBoot (x c e : Nat) : (s.setBoot x c e).shadow = s.shadow := rfl
@[simp] theorem State.instr_setBoot (x c e : Nat) : (s.setBoot x c e).instr = s.instr := rfl
@[simp] theorem State.pm_setBoot (x c e : Nat) : (s.setBoot x c e).pm = s.pm := rfl
@[simp] theorem State.ring_setBoot (x c e : Nat) : (s.setBoot x c e).ring = s.ring := rfl
@[simp] theorem State.stores_setBoot (x c e : Nat) : (s.setBoot x c e).stores = s.stores := rfl
@[simp] theorem State.inject_setBoot (x c e : Nat) : (s.setBoot x c e).inject = s.inject := rfl
@[simp] theorem State.power_setBoot (x c e : Nat) : (s.setBoot x c e).power = s.power := rfl
@[simp] theorem State.mc_setBoot (x c e : Nat) : (s.setBoot x c e).mc = s.mc := rfl

@[simp] theorem State.pending_setPage (g p : Nat) (x : StorePage) : (s.setPage g p x).pending = s.pending := rfl
@[simp] theorem State.now_setPage (g p : Nat) (x : StorePage) : (s.setPage g p x).now = s.now := rfl
@[simp] theorem State.tick_setPage (g p : Nat) (x : StorePage) : (s.setPage g p x).tick = s.tick := rfl
@[simp] theorem State.counted_setPage (g p : Nat) (x : StorePage) : (s.setPage g p x).counted = s.counted := rfl
@[simp] theorem State.running_setPage (g p : Nat) (x : StorePage) : (s.setPage g p x).running = s.running := rfl
@[simp] theorem State.fresh_setPage (g p : Nat) (x : StorePage) : (s.setPage g p x).fresh = s.fresh := rfl
@[simp] theorem State.reg_setPage (g p : Nat) (x : StorePage) : (s.setPage g p x).reg = s.reg := rfl
@[simp] theorem State.act_setPage (g p : Nat) (x : StorePage) : (s.setPage g p x).act = s.act := rfl
@[simp] theorem State.shd_setPage (g p : Nat) (x : StorePage) : (s.setPage g p x).shd = s.shd := rfl
@[simp] theorem State.defects_setPage (g p : Nat) (x : StorePage) : (s.setPage g p x).defects = s.defects := rfl
@[simp] theorem State.agenda_setPage (g p : Nat) (x : StorePage) : (s.setPage g p x).agenda = s.agenda := rfl
@[simp] theorem State.load_setPage (g p : Nat) (x : StorePage) : (s.setPage g p x).load = s.load := rfl
@[simp] theorem State.autoLoad_setPage (g p : Nat) (x : StorePage) : (s.setPage g p x).autoLoad = s.autoLoad := rfl
@[simp] theorem State.changes_setPage (g p : Nat) (x : StorePage) : (s.setPage g p x).changes = s.changes := rfl
@[simp] theorem State.stream_setPage (g p : Nat) (x : StorePage) : (s.setPage g p x).stream = s.stream := rfl
@[simp] theorem State.lastOverrun_setPage (g p : Nat) (x : StorePage) : (s.setPage g p x).lastOverrun = s.lastOverrun := rfl
@[simp] theorem State.overrunEpoch_setPage (g p : Nat) (x : StorePage) : (s.setPage g p x).overrunEpoch = s.overrunEpoch := rfl
@[simp] theorem State.overrunAt_setPage (g p : Nat) (x : StorePage) : (s.setPage g p x).overrunAt = s.overrunAt := rfl
@[simp] theorem State.closed_setPage (g p : Nat) (x : StorePage) : (s.setPage g p x).closed = s.closed := rfl
@[simp] theorem State.pllLatch_setPage (g p : Nat) (x : StorePage) : (s.setPage g p x).pllLatch = s.pllLatch := rfl
@[simp] theorem State.bar_setPage (g p : Nat) (x : StorePage) : (s.setPage g p x).bar = s.bar := rfl
@[simp] theorem State.sessions_setPage (g p : Nat) (x : StorePage) : (s.setPage g p x).sessions = s.sessions := rfl
@[simp] theorem State.authEpoch_setPage (g p : Nat) (x : StorePage) : (s.setPage g p x).authEpoch = s.authEpoch := rfl
@[simp] theorem State.owed_setPage (g p : Nat) (x : StorePage) : (s.setPage g p x).owed = s.owed := rfl
@[simp] theorem State.resyncs_setPage (g p : Nat) (x : StorePage) : (s.setPage g p x).resyncs = s.resyncs := rfl
@[simp] theorem State.evq_setPage (g p : Nat) (x : StorePage) : (s.setPage g p x).evq = s.evq := rfl
@[simp] theorem State.eng_setPage (g p : Nat) (x : StorePage) : (s.setPage g p x).eng = s.eng := rfl
@[simp] theorem State.bondSpread_setPage (g p : Nat) (x : StorePage) : (s.setPage g p x).bondSpread = s.bondSpread := rfl
@[simp] theorem State.gccOut_setPage (g p : Nat) (x : StorePage) : (s.setPage g p x).gccOut = s.gccOut := rfl
@[simp] theorem State.gccIn_setPage (g p : Nat) (x : StorePage) : (s.setPage g p x).gccIn = s.gccIn := rfl
@[simp] theorem State.gccEpoch_setPage (g p : Nat) (x : StorePage) : (s.setPage g p x).gccEpoch = s.gccEpoch := rfl
@[simp] theorem State.ohpSent_setPage (g p : Nat) (x : StorePage) : (s.setPage g p x).ohpSent = s.ohpSent := rfl
@[simp] theorem State.clients_setPage (g p : Nat) (x : StorePage) : (s.setPage g p x).clients = s.clients := rfl
@[simp] theorem State.cells_setPage (g p : Nat) (x : StorePage) : (s.setPage g p x).cells = s.cells := rfl
@[simp] theorem State.timing_setPage (g p : Nat) (x : StorePage) : (s.setPage g p x).timing = s.timing := rfl
@[simp] theorem State.prot_setPage (g p : Nat) (x : StorePage) : (s.setPage g p x).prot = s.prot := rfl
@[simp] theorem State.sec_setPage (g p : Nat) (x : StorePage) : (s.setPage g p x).sec = s.sec := rfl
@[simp] theorem State.prism_setPage (g p : Nat) (x : StorePage) : (s.setPage g p x).prism = s.prism := rfl
@[simp] theorem State.shadow_setPage (g p : Nat) (x : StorePage) : (s.setPage g p x).shadow = s.shadow := rfl
@[simp] theorem State.instr_setPage (g p : Nat) (x : StorePage) : (s.setPage g p x).instr = s.instr := rfl
@[simp] theorem State.pm_setPage (g p : Nat) (x : StorePage) : (s.setPage g p x).pm = s.pm := rfl
@[simp] theorem State.ring_setPage (g p : Nat) (x : StorePage) : (s.setPage g p x).ring = s.ring := rfl
@[simp] theorem State.inject_setPage (g p : Nat) (x : StorePage) : (s.setPage g p x).inject = s.inject := rfl
@[simp] theorem State.power_setPage (g p : Nat) (x : StorePage) : (s.setPage g p x).power = s.power := rfl
@[simp] theorem State.mc_setPage (g p : Nat) (x : StorePage) : (s.setPage g p x).mc = s.mc := rfl

@[simp] theorem State.pending_setSession (k : Nat) (x : Session) : (s.setSession k x).pending = s.pending := rfl
@[simp] theorem State.now_setSession (k : Nat) (x : Session) : (s.setSession k x).now = s.now := rfl
@[simp] theorem State.tick_setSession (k : Nat) (x : Session) : (s.setSession k x).tick = s.tick := rfl
@[simp] theorem State.counted_setSession (k : Nat) (x : Session) : (s.setSession k x).counted = s.counted := rfl
@[simp] theorem State.running_setSession (k : Nat) (x : Session) : (s.setSession k x).running = s.running := rfl
@[simp] theorem State.fresh_setSession (k : Nat) (x : Session) : (s.setSession k x).fresh = s.fresh := rfl
@[simp] theorem State.reg_setSession (k : Nat) (x : Session) : (s.setSession k x).reg = s.reg := rfl
@[simp] theorem State.act_setSession (k : Nat) (x : Session) : (s.setSession k x).act = s.act := rfl
@[simp] theorem State.shd_setSession (k : Nat) (x : Session) : (s.setSession k x).shd = s.shd := rfl
@[simp] theorem State.defects_setSession (k : Nat) (x : Session) : (s.setSession k x).defects = s.defects := rfl
@[simp] theorem State.agenda_setSession (k : Nat) (x : Session) : (s.setSession k x).agenda = s.agenda := rfl
@[simp] theorem State.load_setSession (k : Nat) (x : Session) : (s.setSession k x).load = s.load := rfl
@[simp] theorem State.autoLoad_setSession (k : Nat) (x : Session) : (s.setSession k x).autoLoad = s.autoLoad := rfl
@[simp] theorem State.changes_setSession (k : Nat) (x : Session) : (s.setSession k x).changes = s.changes := rfl
@[simp] theorem State.stream_setSession (k : Nat) (x : Session) : (s.setSession k x).stream = s.stream := rfl
@[simp] theorem State.lastOverrun_setSession (k : Nat) (x : Session) : (s.setSession k x).lastOverrun = s.lastOverrun := rfl
@[simp] theorem State.overrunEpoch_setSession (k : Nat) (x : Session) : (s.setSession k x).overrunEpoch = s.overrunEpoch := rfl
@[simp] theorem State.overrunAt_setSession (k : Nat) (x : Session) : (s.setSession k x).overrunAt = s.overrunAt := rfl
@[simp] theorem State.closed_setSession (k : Nat) (x : Session) : (s.setSession k x).closed = s.closed := rfl
@[simp] theorem State.pllLatch_setSession (k : Nat) (x : Session) : (s.setSession k x).pllLatch = s.pllLatch := rfl
@[simp] theorem State.bar_setSession (k : Nat) (x : Session) : (s.setSession k x).bar = s.bar := rfl
@[simp] theorem State.authEpoch_setSession (k : Nat) (x : Session) : (s.setSession k x).authEpoch = s.authEpoch := rfl
@[simp] theorem State.owed_setSession (k : Nat) (x : Session) : (s.setSession k x).owed = s.owed := rfl
@[simp] theorem State.resyncs_setSession (k : Nat) (x : Session) : (s.setSession k x).resyncs = s.resyncs := rfl
@[simp] theorem State.evq_setSession (k : Nat) (x : Session) : (s.setSession k x).evq = s.evq := rfl
@[simp] theorem State.eng_setSession (k : Nat) (x : Session) : (s.setSession k x).eng = s.eng := rfl
@[simp] theorem State.bondSpread_setSession (k : Nat) (x : Session) : (s.setSession k x).bondSpread = s.bondSpread := rfl
@[simp] theorem State.gccOut_setSession (k : Nat) (x : Session) : (s.setSession k x).gccOut = s.gccOut := rfl
@[simp] theorem State.gccIn_setSession (k : Nat) (x : Session) : (s.setSession k x).gccIn = s.gccIn := rfl
@[simp] theorem State.gccEpoch_setSession (k : Nat) (x : Session) : (s.setSession k x).gccEpoch = s.gccEpoch := rfl
@[simp] theorem State.ohpSent_setSession (k : Nat) (x : Session) : (s.setSession k x).ohpSent = s.ohpSent := rfl
@[simp] theorem State.clients_setSession (k : Nat) (x : Session) : (s.setSession k x).clients = s.clients := rfl
@[simp] theorem State.cells_setSession (k : Nat) (x : Session) : (s.setSession k x).cells = s.cells := rfl
@[simp] theorem State.timing_setSession (k : Nat) (x : Session) : (s.setSession k x).timing = s.timing := rfl
@[simp] theorem State.prot_setSession (k : Nat) (x : Session) : (s.setSession k x).prot = s.prot := rfl
@[simp] theorem State.sec_setSession (k : Nat) (x : Session) : (s.setSession k x).sec = s.sec := rfl
@[simp] theorem State.prism_setSession (k : Nat) (x : Session) : (s.setSession k x).prism = s.prism := rfl
@[simp] theorem State.shadow_setSession (k : Nat) (x : Session) : (s.setSession k x).shadow = s.shadow := rfl
@[simp] theorem State.instr_setSession (k : Nat) (x : Session) : (s.setSession k x).instr = s.instr := rfl
@[simp] theorem State.pm_setSession (k : Nat) (x : Session) : (s.setSession k x).pm = s.pm := rfl
@[simp] theorem State.ring_setSession (k : Nat) (x : Session) : (s.setSession k x).ring = s.ring := rfl
@[simp] theorem State.stores_setSession (k : Nat) (x : Session) : (s.setSession k x).stores = s.stores := rfl
@[simp] theorem State.inject_setSession (k : Nat) (x : Session) : (s.setSession k x).inject = s.inject := rfl
@[simp] theorem State.power_setSession (k : Nat) (x : Session) : (s.setSession k x).power = s.power := rfl
@[simp] theorem State.mc_setSession (k : Nat) (x : Session) : (s.setSession k x).mc = s.mc := rfl

/-! ## The field an update writes -/

@[simp] theorem State.prism_withPrism (f : Prism → Prism) : (s.withPrism f).prism = f s.prism := rfl
@[simp] theorem State.shadow_withShadow (f : Shadow → Shadow) : (s.withShadow f).shadow = f s.shadow := rfl
@[simp] theorem State.bar_withBar (f : Bar0 → Bar0) : (s.withBar f).bar = f s.bar := rfl
@[simp] theorem State.mc_withMc (f : Mc → Mc) : (s.withMc f).mc = f s.mc := rfl
@[simp] theorem State.power_withPower (f : Power → Power) : (s.withPower f).power = f s.power := rfl
@[simp] theorem State.stores_withStores (f : Stores → Stores) : (s.withStores f).stores = f s.stores := rfl
@[simp] theorem State.inject_withInject (f : Injection → Injection) : (s.withInject f).inject = f s.inject := rfl
@[simp] theorem State.ring_withRing (f : Ring → Ring) : (s.withRing f).ring = f s.ring := rfl
@[simp] theorem State.agenda_plan (b : Nat) (d : Due) : (s.plan b d).agenda = s.agenda ++ [⟨b, d⟩] := rfl
@[simp] theorem State.fresh_drawn : s.drawn.fresh = s.fresh + 1 := rfl
@[simp] theorem State.changes_raise (ev : EvRow) (xs : List Nat) :
    (s.raise ev xs).changes = s.changes ++ [⟨ev.code, false, s.tick, contentOf ev.widths xs⟩] := rfl

/-- A page reads as it was last written, and every other page as before. -/
theorem State.page_setPage (g p g' p' : Nat) (x : StorePage) :
    (s.setPage g p x).page g' p' = if g' = g ∧ p' = p then x else s.page g' p' := by
  by_cases h : g' = g ∧ p' = p
  · obtain ⟨rfl, rfl⟩ := h; simp [State.page, State.setPage]
  · have k : pageKey g' p' ≠ pageKey g p := by simpa [pageKey] using h
    simp [State.page, State.setPage, h, Map.get_set_ne _ _ _ _ k]

/-! ## Reads after updates of other tables -/

@[simp] theorem State.active_setObj (k : Key) (v : Nat) (k' : Key) : (s.setObj k v).active k' = s.active k' := rfl
@[simp] theorem State.shadowed_setObj (k : Key) (v : Nat) (k' : Key) : (s.setObj k v).shadowed k' = s.shadowed k' := rfl
@[simp] theorem State.engine_setObj (k : Key) (v : Nat) (e' : Nat) : (s.setObj k v).engine e' = s.engine e' := rfl
@[simp] theorem State.session_setObj (k : Key) (v : Nat) (j' : Nat) : (s.setObj k v).session j' = s.session j' := rfl
@[simp] theorem State.declared_setObj (k : Key) (v : Nat) (d' i' : Nat) : (s.setObj k v).declared d' i' = s.declared d' i' := rfl
@[simp] theorem State.page_setObj (k : Key) (v : Nat) (g' p' : Nat) : (s.setObj k v).page g' p' = s.page g' p' := rfl
@[simp] theorem State.active_setInt (k : Key) (z : Int) (k' : Key) : (s.setInt k z).active k' = s.active k' := rfl
@[simp] theorem State.shadowed_setInt (k : Key) (z : Int) (k' : Key) : (s.setInt k z).shadowed k' = s.shadowed k' := rfl
@[simp] theorem State.engine_setInt (k : Key) (z : Int) (e' : Nat) : (s.setInt k z).engine e' = s.engine e' := rfl
@[simp] theorem State.session_setInt (k : Key) (z : Int) (j' : Nat) : (s.setInt k z).session j' = s.session j' := rfl
@[simp] theorem State.declared_setInt (k : Key) (z : Int) (d' i' : Nat) : (s.setInt k z).declared d' i' = s.declared d' i' := rfl
@[simp] theorem State.page_setInt (k : Key) (z : Int) (g' p' : Nat) : (s.setInt k z).page g' p' = s.page g' p' := rfl
@[simp] theorem State.active_bump (k : Key) (n : Nat) (k' : Key) : (s.bump k n).active k' = s.active k' := rfl
@[simp] theorem State.shadowed_bump (k : Key) (n : Nat) (k' : Key) : (s.bump k n).shadowed k' = s.shadowed k' := rfl
@[simp] theorem State.engine_bump (k : Key) (n : Nat) (e' : Nat) : (s.bump k n).engine e' = s.engine e' := rfl
@[simp] theorem State.session_bump (k : Key) (n : Nat) (j' : Nat) : (s.bump k n).session j' = s.session j' := rfl
@[simp] theorem State.declared_bump (k : Key) (n : Nat) (d' i' : Nat) : (s.bump k n).declared d' i' = s.declared d' i' := rfl
@[simp] theorem State.page_bump (k : Key) (n : Nat) (g' p' : Nat) : (s.bump k n).page g' p' = s.page g' p' := rfl
@[simp] theorem State.obj_setShadow (k : Key) (v : Nat) (k' : Key) : (s.setShadow k v).obj k' = s.obj k' := rfl
@[simp] theorem State.objInt_setShadow (k : Key) (v : Nat) (k' : Key) : (s.setShadow k v).objInt k' = s.objInt k' := rfl
@[simp] theorem State.active_setShadow (k : Key) (v : Nat) (k' : Key) : (s.setShadow k v).active k' = s.active k' := rfl
@[simp] theorem State.engine_setShadow (k : Key) (v : Nat) (e' : Nat) : (s.setShadow k v).engine e' = s.engine e' := rfl
@[simp] theorem State.session_setShadow (k : Key) (v : Nat) (j' : Nat) : (s.setShadow k v).session j' = s.session j' := rfl
@[simp] theorem State.declared_setShadow (k : Key) (v : Nat) (d' i' : Nat) : (s.setShadow k v).declared d' i' = s.declared d' i' := rfl
@[simp] theorem State.page_setShadow (k : Key) (v : Nat) (g' p' : Nat) : (s.setShadow k v).page g' p' = s.page g' p' := rfl
@[simp] theorem State.obj_raise (ev : EvRow) (xs : List Nat) (k' : Key) : (s.raise ev xs).obj k' = s.obj k' := rfl
@[simp] theorem State.objInt_raise (ev : EvRow) (xs : List Nat) (k' : Key) : (s.raise ev xs).objInt k' = s.objInt k' := rfl
@[simp] theorem State.active_raise (ev : EvRow) (xs : List Nat) (k' : Key) : (s.raise ev xs).active k' = s.active k' := rfl
@[simp] theorem State.shadowed_raise (ev : EvRow) (xs : List Nat) (k' : Key) : (s.raise ev xs).shadowed k' = s.shadowed k' := rfl
@[simp] theorem State.engine_raise (ev : EvRow) (xs : List Nat) (e' : Nat) : (s.raise ev xs).engine e' = s.engine e' := rfl
@[simp] theorem State.session_raise (ev : EvRow) (xs : List Nat) (j' : Nat) : (s.raise ev xs).session j' = s.session j' := rfl
@[simp] theorem State.declared_raise (ev : EvRow) (xs : List Nat) (d' i' : Nat) : (s.raise ev xs).declared d' i' = s.declared d' i' := rfl
@[simp] theorem State.page_raise (ev : EvRow) (xs : List Nat) (g' p' : Nat) : (s.raise ev xs).page g' p' = s.page g' p' := rfl
@[simp] theorem State.obj_declare (d i : Nat) (k' : Key) : (s.declare d i).obj k' = s.obj k' := by unfold State.declare; split <;> rfl
@[simp] theorem State.objInt_declare (d i : Nat) (k' : Key) : (s.declare d i).objInt k' = s.objInt k' := by unfold State.declare; split <;> rfl
@[simp] theorem State.active_declare (d i : Nat) (k' : Key) : (s.declare d i).active k' = s.active k' := by unfold State.declare; split <;> rfl
@[simp] theorem State.shadowed_declare (d i : Nat) (k' : Key) : (s.declare d i).shadowed k' = s.shadowed k' := by unfold State.declare; split <;> rfl
@[simp] theorem State.engine_declare (d i : Nat) (e' : Nat) : (s.declare d i).engine e' = s.engine e' := by unfold State.declare; split <;> rfl
@[simp] theorem State.session_declare (d i : Nat) (j' : Nat) : (s.declare d i).session j' = s.session j' := by unfold State.declare; split <;> rfl
@[simp] theorem State.page_declare (d i : Nat) (g' p' : Nat) : (s.declare d i).page g' p' = s.page g' p' := by unfold State.declare; split <;> rfl
@[simp] theorem State.obj_clear (d i : Nat) (k' : Key) : (s.clear d i).obj k' = s.obj k' := by unfold State.clear; split <;> rfl
@[simp] theorem State.objInt_clear (d i : Nat) (k' : Key) : (s.clear d i).objInt k' = s.objInt k' := by unfold State.clear; split <;> rfl
@[simp] theorem State.active_clear (d i : Nat) (k' : Key) : (s.clear d i).active k' = s.active k' := by unfold State.clear; split <;> rfl
@[simp] theorem State.shadowed_clear (d i : Nat) (k' : Key) : (s.clear d i).shadowed k' = s.shadowed k' := by unfold State.clear; split <;> rfl
@[simp] theorem State.engine_clear (d i : Nat) (e' : Nat) : (s.clear d i).engine e' = s.engine e' := by unfold State.clear; split <;> rfl
@[simp] theorem State.session_clear (d i : Nat) (j' : Nat) : (s.clear d i).session j' = s.session j' := by unfold State.clear; split <;> rfl
@[simp] theorem State.page_clear (d i : Nat) (g' p' : Nat) : (s.clear d i).page g' p' = s.page g' p' := by unfold State.clear; split <;> rfl
@[simp] theorem State.obj_setEngine (e : Nat) (r : Engine) (k' : Key) : (s.setEngine e r).obj k' = s.obj k' := rfl
@[simp] theorem State.objInt_setEngine (e : Nat) (r : Engine) (k' : Key) : (s.setEngine e r).objInt k' = s.objInt k' := rfl
@[simp] theorem State.active_setEngine (e : Nat) (r : Engine) (k' : Key) : (s.setEngine e r).active k' = s.active k' := rfl
@[simp] theorem State.shadowed_setEngine (e : Nat) (r : Engine) (k' : Key) : (s.setEngine e r).shadowed k' = s.shadowed k' := rfl
@[simp] theorem State.session_setEngine (e : Nat) (r : Engine) (j' : Nat) : (s.setEngine e r).session j' = s.session j' := rfl
@[simp] theorem State.declared_setEngine (e : Nat) (r : Engine) (d' i' : Nat) : (s.setEngine e r).declared d' i' = s.declared d' i' := rfl
@[simp] theorem State.page_setEngine (e : Nat) (r : Engine) (g' p' : Nat) : (s.setEngine e r).page g' p' = s.page g' p' := rfl
@[simp] theorem State.obj_withEngine (e : Nat) (f : Engine → Engine) (k' : Key) : (s.withEngine e f).obj k' = s.obj k' := rfl
@[simp] theorem State.objInt_withEngine (e : Nat) (f : Engine → Engine) (k' : Key) : (s.withEngine e f).objInt k' = s.objInt k' := rfl
@[simp] theorem State.active_withEngine (e : Nat) (f : Engine → Engine) (k' : Key) : (s.withEngine e f).active k' = s.active k' := rfl
@[simp] theorem State.shadowed_withEngine (e : Nat) (f : Engine → Engine) (k' : Key) : (s.withEngine e f).shadowed k' = s.shadowed k' := rfl
@[simp] theorem State.session_withEngine (e : Nat) (f : Engine → Engine) (j' : Nat) : (s.withEngine e f).session j' = s.session j' := rfl
@[simp] theorem State.declared_withEngine (e : Nat) (f : Engine → Engine) (d' i' : Nat) : (s.withEngine e f).declared d' i' = s.declared d' i' := rfl
@[simp] theorem State.page_withEngine (e : Nat) (f : Engine → Engine) (g' p' : Nat) : (s.withEngine e f).page g' p' = s.page g' p' := rfl
@[simp] theorem State.obj_withPrism (f : Prism → Prism) (k' : Key) : (s.withPrism f).obj k' = s.obj k' := rfl
@[simp] theorem State.objInt_withPrism (f : Prism → Prism) (k' : Key) : (s.withPrism f).objInt k' = s.objInt k' := rfl
@[simp] theorem State.active_withPrism (f : Prism → Prism) (k' : Key) : (s.withPrism f).active k' = s.active k' := rfl
@[simp] theorem State.shadowed_withPrism (f : Prism → Prism) (k' : Key) : (s.withPrism f).shadowed k' = s.shadowed k' := rfl
@[simp] theorem State.engine_withPrism (f : Prism → Prism) (e' : Nat) : (s.withPrism f).engine e' = s.engine e' := rfl
@[simp] theorem State.session_withPrism (f : Prism → Prism) (j' : Nat) : (s.withPrism f).session j' = s.session j' := rfl
@[simp] theorem State.declared_withPrism (f : Prism → Prism) (d' i' : Nat) : (s.withPrism f).declared d' i' = s.declared d' i' := rfl
@[simp] theorem State.page_withPrism (f : Prism → Prism) (g' p' : Nat) : (s.withPrism f).page g' p' = s.page g' p' := rfl
@[simp] theorem State.obj_withShadow (f : Shadow → Shadow) (k' : Key) : (s.withShadow f).obj k' = s.obj k' := rfl
@[simp] theorem State.objInt_withShadow (f : Shadow → Shadow) (k' : Key) : (s.withShadow f).objInt k' = s.objInt k' := rfl
@[simp] theorem State.active_withShadow (f : Shadow → Shadow) (k' : Key) : (s.withShadow f).active k' = s.active k' := rfl
@[simp] theorem State.shadowed_withShadow (f : Shadow → Shadow) (k' : Key) : (s.withShadow f).shadowed k' = s.shadowed k' := rfl
@[simp] theorem State.engine_withShadow (f : Shadow → Shadow) (e' : Nat) : (s.withShadow f).engine e' = s.engine e' := rfl
@[simp] theorem State.session_withShadow (f : Shadow → Shadow) (j' : Nat) : (s.withShadow f).session j' = s.session j' := rfl
@[simp] theorem State.declared_withShadow (f : Shadow → Shadow) (d' i' : Nat) : (s.withShadow f).declared d' i' = s.declared d' i' := rfl
@[simp] theorem State.page_withShadow (f : Shadow → Shadow) (g' p' : Nat) : (s.withShadow f).page g' p' = s.page g' p' := rfl
@[simp] theorem State.obj_withBar (f : Bar0 → Bar0) (k' : Key) : (s.withBar f).obj k' = s.obj k' := rfl
@[simp] theorem State.objInt_withBar (f : Bar0 → Bar0) (k' : Key) : (s.withBar f).objInt k' = s.objInt k' := rfl
@[simp] theorem State.active_withBar (f : Bar0 → Bar0) (k' : Key) : (s.withBar f).active k' = s.active k' := rfl
@[simp] theorem State.shadowed_withBar (f : Bar0 → Bar0) (k' : Key) : (s.withBar f).shadowed k' = s.shadowed k' := rfl
@[simp] theorem State.engine_withBar (f : Bar0 → Bar0) (e' : Nat) : (s.withBar f).engine e' = s.engine e' := rfl
@[simp] theorem State.session_withBar (f : Bar0 → Bar0) (j' : Nat) : (s.withBar f).session j' = s.session j' := rfl
@[simp] theorem State.declared_withBar (f : Bar0 → Bar0) (d' i' : Nat) : (s.withBar f).declared d' i' = s.declared d' i' := rfl
@[simp] theorem State.page_withBar (f : Bar0 → Bar0) (g' p' : Nat) : (s.withBar f).page g' p' = s.page g' p' := rfl
@[simp] theorem State.obj_withMc (f : Mc → Mc) (k' : Key) : (s.withMc f).obj k' = s.obj k' := rfl
@[simp] theorem State.objInt_withMc (f : Mc → Mc) (k' : Key) : (s.withMc f).objInt k' = s.objInt k' := rfl
@[simp] theorem State.active_withMc (f : Mc → Mc) (k' : Key) : (s.withMc f).active k' = s.active k' := rfl
@[simp] theorem State.shadowed_withMc (f : Mc → Mc) (k' : Key) : (s.withMc f).shadowed k' = s.shadowed k' := rfl
@[simp] theorem State.engine_withMc (f : Mc → Mc) (e' : Nat) : (s.withMc f).engine e' = s.engine e' := rfl
@[simp] theorem State.session_withMc (f : Mc → Mc) (j' : Nat) : (s.withMc f).session j' = s.session j' := rfl
@[simp] theorem State.declared_withMc (f : Mc → Mc) (d' i' : Nat) : (s.withMc f).declared d' i' = s.declared d' i' := rfl
@[simp] theorem State.page_withMc (f : Mc → Mc) (g' p' : Nat) : (s.withMc f).page g' p' = s.page g' p' := rfl
@[simp] theorem State.obj_withPower (f : Power → Power) (k' : Key) : (s.withPower f).obj k' = s.obj k' := rfl
@[simp] theorem State.objInt_withPower (f : Power → Power) (k' : Key) : (s.withPower f).objInt k' = s.objInt k' := rfl
@[simp] theorem State.active_withPower (f : Power → Power) (k' : Key) : (s.withPower f).active k' = s.active k' := rfl
@[simp] theorem State.shadowed_withPower (f : Power → Power) (k' : Key) : (s.withPower f).shadowed k' = s.shadowed k' := rfl
@[simp] theorem State.engine_withPower (f : Power → Power) (e' : Nat) : (s.withPower f).engine e' = s.engine e' := rfl
@[simp] theorem State.session_withPower (f : Power → Power) (j' : Nat) : (s.withPower f).session j' = s.session j' := rfl
@[simp] theorem State.declared_withPower (f : Power → Power) (d' i' : Nat) : (s.withPower f).declared d' i' = s.declared d' i' := rfl
@[simp] theorem State.page_withPower (f : Power → Power) (g' p' : Nat) : (s.withPower f).page g' p' = s.page g' p' := rfl
@[simp] theorem State.obj_withStores (f : Stores → Stores) (k' : Key) : (s.withStores f).obj k' = s.obj k' := rfl
@[simp] theorem State.objInt_withStores (f : Stores → Stores) (k' : Key) : (s.withStores f).objInt k' = s.objInt k' := rfl
@[simp] theorem State.active_withStores (f : Stores → Stores) (k' : Key) : (s.withStores f).active k' = s.active k' := rfl
@[simp] theorem State.shadowed_withStores (f : Stores → Stores) (k' : Key) : (s.withStores f).shadowed k' = s.shadowed k' := rfl
@[simp] theorem State.engine_withStores (f : Stores → Stores) (e' : Nat) : (s.withStores f).engine e' = s.engine e' := rfl
@[simp] theorem State.session_withStores (f : Stores → Stores) (j' : Nat) : (s.withStores f).session j' = s.session j' := rfl
@[simp] theorem State.declared_withStores (f : Stores → Stores) (d' i' : Nat) : (s.withStores f).declared d' i' = s.declared d' i' := rfl
@[simp] theorem State.obj_withInject (f : Injection → Injection) (k' : Key) : (s.withInject f).obj k' = s.obj k' := rfl
@[simp] theorem State.objInt_withInject (f : Injection → Injection) (k' : Key) : (s.withInject f).objInt k' = s.objInt k' := rfl
@[simp] theorem State.active_withInject (f : Injection → Injection) (k' : Key) : (s.withInject f).active k' = s.active k' := rfl
@[simp] theorem State.shadowed_withInject (f : Injection → Injection) (k' : Key) : (s.withInject f).shadowed k' = s.shadowed k' := rfl
@[simp] theorem State.engine_withInject (f : Injection → Injection) (e' : Nat) : (s.withInject f).engine e' = s.engine e' := rfl
@[simp] theorem State.session_withInject (f : Injection → Injection) (j' : Nat) : (s.withInject f).session j' = s.session j' := rfl
@[simp] theorem State.declared_withInject (f : Injection → Injection) (d' i' : Nat) : (s.withInject f).declared d' i' = s.declared d' i' := rfl
@[simp] theorem State.page_withInject (f : Injection → Injection) (g' p' : Nat) : (s.withInject f).page g' p' = s.page g' p' := rfl
@[simp] theorem State.obj_withRing (f : Ring → Ring) (k' : Key) : (s.withRing f).obj k' = s.obj k' := rfl
@[simp] theorem State.objInt_withRing (f : Ring → Ring) (k' : Key) : (s.withRing f).objInt k' = s.objInt k' := rfl
@[simp] theorem State.active_withRing (f : Ring → Ring) (k' : Key) : (s.withRing f).active k' = s.active k' := rfl
@[simp] theorem State.shadowed_withRing (f : Ring → Ring) (k' : Key) : (s.withRing f).shadowed k' = s.shadowed k' := rfl
@[simp] theorem State.engine_withRing (f : Ring → Ring) (e' : Nat) : (s.withRing f).engine e' = s.engine e' := rfl
@[simp] theorem State.session_withRing (f : Ring → Ring) (j' : Nat) : (s.withRing f).session j' = s.session j' := rfl
@[simp] theorem State.declared_withRing (f : Ring → Ring) (d' i' : Nat) : (s.withRing f).declared d' i' = s.declared d' i' := rfl
@[simp] theorem State.page_withRing (f : Ring → Ring) (g' p' : Nat) : (s.withRing f).page g' p' = s.page g' p' := rfl
@[simp] theorem State.obj_plan (b : Nat) (d : Due) (k' : Key) : (s.plan b d).obj k' = s.obj k' := rfl
@[simp] theorem State.objInt_plan (b : Nat) (d : Due) (k' : Key) : (s.plan b d).objInt k' = s.objInt k' := rfl
@[simp] theorem State.active_plan (b : Nat) (d : Due) (k' : Key) : (s.plan b d).active k' = s.active k' := rfl
@[simp] theorem State.shadowed_plan (b : Nat) (d : Due) (k' : Key) : (s.plan b d).shadowed k' = s.shadowed k' := rfl
@[simp] theorem State.engine_plan (b : Nat) (d : Due) (e' : Nat) : (s.plan b d).engine e' = s.engine e' := rfl
@[simp] theorem State.session_plan (b : Nat) (d : Due) (j' : Nat) : (s.plan b d).session j' = s.session j' := rfl
@[simp] theorem State.declared_plan (b : Nat) (d : Due) (d' i' : Nat) : (s.plan b d).declared d' i' = s.declared d' i' := rfl
@[simp] theorem State.page_plan (b : Nat) (d : Due) (g' p' : Nat) : (s.plan b d).page g' p' = s.page g' p' := rfl
@[simp] theorem State.obj_stage (k : Key) (v : Nat) (k' : Key) : (s.stage k v).obj k' = s.obj k' := rfl
@[simp] theorem State.objInt_stage (k : Key) (v : Nat) (k' : Key) : (s.stage k v).objInt k' = s.objInt k' := rfl
@[simp] theorem State.active_stage (k : Key) (v : Nat) (k' : Key) : (s.stage k v).active k' = s.active k' := rfl
@[simp] theorem State.shadowed_stage (k : Key) (v : Nat) (k' : Key) : (s.stage k v).shadowed k' = s.shadowed k' := rfl
@[simp] theorem State.engine_stage (k : Key) (v : Nat) (e' : Nat) : (s.stage k v).engine e' = s.engine e' := rfl
@[simp] theorem State.session_stage (k : Key) (v : Nat) (j' : Nat) : (s.stage k v).session j' = s.session j' := rfl
@[simp] theorem State.declared_stage (k : Key) (v : Nat) (d' i' : Nat) : (s.stage k v).declared d' i' = s.declared d' i' := rfl
@[simp] theorem State.page_stage (k : Key) (v : Nat) (g' p' : Nat) : (s.stage k v).page g' p' = s.page g' p' := rfl
@[simp] theorem State.obj_drawn (k' : Key) : (s.drawn).obj k' = s.obj k' := rfl
@[simp] theorem State.objInt_drawn (k' : Key) : (s.drawn).objInt k' = s.objInt k' := rfl
@[simp] theorem State.active_drawn (k' : Key) : (s.drawn).active k' = s.active k' := rfl
@[simp] theorem State.shadowed_drawn (k' : Key) : (s.drawn).shadowed k' = s.shadowed k' := rfl
@[simp] theorem State.engine_drawn (e' : Nat) : (s.drawn).engine e' = s.engine e' := rfl
@[simp] theorem State.session_drawn (j' : Nat) : (s.drawn).session j' = s.session j' := rfl
@[simp] theorem State.declared_drawn (d' i' : Nat) : (s.drawn).declared d' i' = s.declared d' i' := rfl
@[simp] theorem State.page_drawn (g' p' : Nat) : (s.drawn).page g' p' = s.page g' p' := rfl
@[simp] theorem State.obj_irq (v : Nat) (k' : Key) : (s.irq v).obj k' = s.obj k' := rfl
@[simp] theorem State.objInt_irq (v : Nat) (k' : Key) : (s.irq v).objInt k' = s.objInt k' := rfl
@[simp] theorem State.active_irq (v : Nat) (k' : Key) : (s.irq v).active k' = s.active k' := rfl
@[simp] theorem State.shadowed_irq (v : Nat) (k' : Key) : (s.irq v).shadowed k' = s.shadowed k' := rfl
@[simp] theorem State.engine_irq (v : Nat) (e' : Nat) : (s.irq v).engine e' = s.engine e' := rfl
@[simp] theorem State.session_irq (v : Nat) (j' : Nat) : (s.irq v).session j' = s.session j' := rfl
@[simp] theorem State.declared_irq (v : Nat) (d' i' : Nat) : (s.irq v).declared d' i' = s.declared d' i' := rfl
@[simp] theorem State.page_irq (v : Nat) (g' p' : Nat) : (s.irq v).page g' p' = s.page g' p' := rfl
@[simp] theorem State.obj_setBoot (x c e : Nat) (k' : Key) : (s.setBoot x c e).obj k' = s.obj k' := rfl
@[simp] theorem State.objInt_setBoot (x c e : Nat) (k' : Key) : (s.setBoot x c e).objInt k' = s.objInt k' := rfl
@[simp] theorem State.active_setBoot (x c e : Nat) (k' : Key) : (s.setBoot x c e).active k' = s.active k' := rfl
@[simp] theorem State.shadowed_setBoot (x c e : Nat) (k' : Key) : (s.setBoot x c e).shadowed k' = s.shadowed k' := rfl
@[simp] theorem State.engine_setBoot (x c e : Nat) (e' : Nat) : (s.setBoot x c e).engine e' = s.engine e' := rfl
@[simp] theorem State.session_setBoot (x c e : Nat) (j' : Nat) : (s.setBoot x c e).session j' = s.session j' := rfl
@[simp] theorem State.declared_setBoot (x c e : Nat) (d' i' : Nat) : (s.setBoot x c e).declared d' i' = s.declared d' i' := rfl
@[simp] theorem State.page_setBoot (x c e : Nat) (g' p' : Nat) : (s.setBoot x c e).page g' p' = s.page g' p' := rfl
@[simp] theorem State.obj_setPage (g p : Nat) (x : StorePage) (k' : Key) : (s.setPage g p x).obj k' = s.obj k' := rfl
@[simp] theorem State.objInt_setPage (g p : Nat) (x : StorePage) (k' : Key) : (s.setPage g p x).objInt k' = s.objInt k' := rfl
@[simp] theorem State.active_setPage (g p : Nat) (x : StorePage) (k' : Key) : (s.setPage g p x).active k' = s.active k' := rfl
@[simp] theorem State.shadowed_setPage (g p : Nat) (x : StorePage) (k' : Key) : (s.setPage g p x).shadowed k' = s.shadowed k' := rfl
@[simp] theorem State.engine_setPage (g p : Nat) (x : StorePage) (e' : Nat) : (s.setPage g p x).engine e' = s.engine e' := rfl
@[simp] theorem State.session_setPage (g p : Nat) (x : StorePage) (j' : Nat) : (s.setPage g p x).session j' = s.session j' := rfl
@[simp] theorem State.declared_setPage (g p : Nat) (x : StorePage) (d' i' : Nat) : (s.setPage g p x).declared d' i' = s.declared d' i' := rfl
@[simp] theorem State.obj_setSession (k : Nat) (x : Session) (k' : Key) : (s.setSession k x).obj k' = s.obj k' := rfl
@[simp] theorem State.objInt_setSession (k : Nat) (x : Session) (k' : Key) : (s.setSession k x).objInt k' = s.objInt k' := rfl
@[simp] theorem State.active_setSession (k : Nat) (x : Session) (k' : Key) : (s.setSession k x).active k' = s.active k' := rfl
@[simp] theorem State.shadowed_setSession (k : Nat) (x : Session) (k' : Key) : (s.setSession k x).shadowed k' = s.shadowed k' := rfl
@[simp] theorem State.engine_setSession (k : Nat) (x : Session) (e' : Nat) : (s.setSession k x).engine e' = s.engine e' := rfl
@[simp] theorem State.declared_setSession (k : Nat) (x : Session) (d' i' : Nat) : (s.setSession k x).declared d' i' = s.declared d' i' := rfl
@[simp] theorem State.page_setSession (k : Nat) (x : Session) (g' p' : Nat) : (s.setSession k x).page g' p' = s.page g' p' := rfl

end Sys2Proof.Machine
end

