-- ==== Sys2Proof/Laws/Units.lean ====
section
/-! SUPPORT. What updates of the machine's own units leave alone, and what a unit reads as after an update. -/

namespace Sys2Proof.Machine

variable (s : State)

/-! ## A unit reads as it was last written, and every other unit as before -/

theorem State.ref_withRef (r : Nat) (f : Ref → Ref) (r' : Nat) :
    (s.withRef r f).ref r' = if r' = r then f (s.ref r) else s.ref r' := by
  by_cases h : r' = r
  · subst h; simp [State.ref, State.withRef, State.withTiming]
  · have g : Key.unit r' ≠ Key.unit r := fun x => h (Key.unit_inj x)
    simp [State.ref, State.withRef, State.withTiming, h, Map.get_set_ne _ _ _ _ g]

theorem State.dpll_withDpll (d : Nat) (f : Dpll → Dpll) (d' : Nat) :
    (s.withDpll d f).dpll d' = if d' = d then f (s.dpll d) else s.dpll d' := by
  by_cases h : d' = d
  · subst h; simp [State.dpll, State.withDpll, State.withTiming]
  · have g : Key.unit d' ≠ Key.unit d := fun x => h (Key.unit_inj x)
    simp [State.dpll, State.withDpll, State.withTiming, h, Map.get_set_ne _ _ _ _ g]

theorem State.pgRun_setPgRun (g : Nat) (r : PgRun) (g' : Nat) :
    (s.setPgRun g r).pgRun g' = if g' = g then r else s.pgRun g' := by
  by_cases h : g' = g
  · subst h; simp [State.pgRun, State.setPgRun, State.withProt]
  · have g : Key.unit g' ≠ Key.unit g := fun x => h (Key.unit_inj x)
    simp [State.pgRun, State.setPgRun, State.withProt, h, Map.get_set_ne _ _ _ _ g]

theorem State.mm_withMm (m : Nat) (f : MmRun → MmRun) (m' : Nat) :
    (s.withMm m f).mm m' = if m' = m then f (s.mm m) else s.mm m' := by
  by_cases h : m' = m
  · subst h; simp [State.mm, State.withMm, State.withProt]
  · have g : Key.unit m' ≠ Key.unit m := fun x => h (Key.unit_inj x)
    simp [State.mm, State.withMm, State.withProt, h, Map.get_set_ne _ _ _ _ g]

theorem State.hk_withHk (m : Nat) (f : HkRun → HkRun) (m' : Nat) :
    (s.withHk m f).hk m' = if m' = m then f (s.hk m) else s.hk m' := by
  by_cases h : m' = m
  · subst h; simp [State.hk, State.withHk, State.withInstr]
  · have g : Key.unit m' ≠ Key.unit m := fun x => h (Key.unit_inj x)
    simp [State.hk, State.withHk, State.withInstr, h, Map.get_set_ne _ _ _ _ g]

theorem State.pmPoint_setPmPoint (p : Nat) (x : PmPoint) (p' : Nat) :
    (s.setPmPoint p x).pmPoint p' = if p' = p then x else s.pmPoint p' := by
  by_cases h : p' = p
  · subst h; simp [State.pmPoint, State.setPmPoint, State.withPm]
  · have g : Key.unit p' ≠ Key.unit p := fun x => h (Key.unit_inj x)
    simp [State.pmPoint, State.setPmPoint, State.withPm, h, Map.get_set_ne _ _ _ _ g]

theorem State.dom_withDom (d : Nat) (f : DomRun → DomRun) (d' : Nat) :
    (s.withDom d f).dom d' = if d' = d then f (s.dom d) else s.dom d' := by
  by_cases h : d' = d
  · subst h; simp [State.dom, State.withDom, State.withPower]
  · have g : Key.unit d' ≠ Key.unit d := fun x => h (Key.unit_inj x)
    simp [State.dom, State.withDom, State.withPower, h, Map.get_set_ne _ _ _ _ g]

theorem State.railRequest_setRequest (r : Nat) (x : Option RailRequest) (r' : Nat) :
    (s.setRequest r x).railRequest r' = if r' = r then x else s.railRequest r' := by
  by_cases h : r' = r
  · subst h; simp [State.railRequest, State.setRequest, State.withPower]
  · have g : Key.unit r' ≠ Key.unit r := fun x => h (Key.unit_inj x)
    simp [State.railRequest, State.setRequest, State.withPower, h, Map.get_set_ne _ _ _ _ g]

theorem expCell_setCells (l : Nat) (c : CellLane) (l' : Nat) :
    expCell (s.setCells l c) l' = if l' = l then c else expCell s l' := by
  by_cases h : l' = l
  · subst h; simp [expCell, State.setCells]
  · have g : Key.unit l' ≠ Key.unit l := fun x => h (Key.unit_inj x)
    simp [expCell, State.setCells, h, Map.get_set_ne _ _ _ _ g]

/-- Channels are numbered 1024 × engine + channel. -/
theorem State.secChan_withChan (e ch : Nat) (f : SecChan → SecChan) (e' ch' : Nat) :
    (s.withChan e ch f).secChan e' ch' = if 1024 * e' + ch' = 1024 * e + ch then f (s.secChan e ch) else s.secChan e' ch' := by
  by_cases h : 1024 * e' + ch' = 1024 * e + ch
  · simp [State.secChan, State.withChan, State.withSec, h]
  · have g : Key.unit (1024 * e' + ch') ≠ Key.unit (1024 * e + ch) := fun x => h (Key.unit_inj x)
    simp [State.secChan, State.withChan, State.withSec, h, Map.get_set_ne _ _ _ _ g]

@[simp] theorem State.secChan_withChan_same (e ch : Nat) (f : SecChan → SecChan) : (s.withChan e ch f).secChan e ch = f (s.secChan e ch) := by
  simp [State.secChan_withChan]

@[simp] theorem State.ref_withRef_same (r : Nat) (f : Ref → Ref) : (s.withRef r f).ref r = f (s.ref r) := by simp [State.ref_withRef]
@[simp] theorem State.ref_withRef_ne (r : Nat) (f : Ref → Ref) {j : Nat} (h : j ≠ r) : (s.withRef r f).ref j = s.ref j := by simp [State.ref_withRef, h]
@[simp] theorem State.dpll_withDpll_same (d : Nat) (f : Dpll → Dpll) : (s.withDpll d f).dpll d = f (s.dpll d) := by simp [State.dpll_withDpll]
@[simp] theorem State.dpll_withDpll_ne (d : Nat) (f : Dpll → Dpll) {j : Nat} (h : j ≠ d) : (s.withDpll d f).dpll j = s.dpll j := by simp [State.dpll_withDpll, h]
@[simp] theorem State.pgRun_setPgRun_same (g : Nat) (r : PgRun) : (s.setPgRun g r).pgRun g = r := by simp [State.pgRun_setPgRun]
@[simp] theorem State.pgRun_setPgRun_ne (g : Nat) (r : PgRun) {j : Nat} (h : j ≠ g) : (s.setPgRun g r).pgRun j = s.pgRun j := by simp [State.pgRun_setPgRun, h]
@[simp] theorem State.mm_withMm_same (m : Nat) (f : MmRun → MmRun) : (s.withMm m f).mm m = f (s.mm m) := by simp [State.mm_withMm]
@[simp] theorem State.mm_withMm_ne (m : Nat) (f : MmRun → MmRun) {j : Nat} (h : j ≠ m) : (s.withMm m f).mm j = s.mm j := by simp [State.mm_withMm, h]
@[simp] theorem State.hk_withHk_same (m : Nat) (f : HkRun → HkRun) : (s.withHk m f).hk m = f (s.hk m) := by simp [State.hk_withHk]
@[simp] theorem State.hk_withHk_ne (m : Nat) (f : HkRun → HkRun) {j : Nat} (h : j ≠ m) : (s.withHk m f).hk j = s.hk j := by simp [State.hk_withHk, h]
@[simp] theorem State.pmPoint_setPmPoint_same (p : Nat) (x : PmPoint) : (s.setPmPoint p x).pmPoint p = x := by simp [State.pmPoint_setPmPoint]
@[simp] theorem State.pmPoint_setPmPoint_ne (p : Nat) (x : PmPoint) {j : Nat} (h : j ≠ p) : (s.setPmPoint p x).pmPoint j = s.pmPoint j := by simp [State.pmPoint_setPmPoint, h]
@[simp] theorem State.dom_withDom_same (d : Nat) (f : DomRun → DomRun) : (s.withDom d f).dom d = f (s.dom d) := by simp [State.dom_withDom]
@[simp] theorem State.dom_withDom_ne (d : Nat) (f : DomRun → DomRun) {j : Nat} (h : j ≠ d) : (s.withDom d f).dom j = s.dom j := by simp [State.dom_withDom, h]
@[simp] theorem State.railRequest_setRequest_same (r : Nat) (x : Option RailRequest) : (s.setRequest r x).railRequest r = x := by simp [State.railRequest_setRequest]
@[simp] theorem State.railRequest_setRequest_ne (r : Nat) (x : Option RailRequest) {j : Nat} (h : j ≠ r) : (s.setRequest r x).railRequest j = s.railRequest j := by simp [State.railRequest_setRequest, h]

/-! ## What an update leaves alone -/

@[simp] theorem State.pending_withTiming (f : Timing → Timing) : (s.withTiming f).pending = s.pending := rfl
@[simp] theorem State.now_withTiming (f : Timing → Timing) : (s.withTiming f).now = s.now := rfl
@[simp] theorem State.tick_withTiming (f : Timing → Timing) : (s.withTiming f).tick = s.tick := rfl
@[simp] theorem State.counted_withTiming (f : Timing → Timing) : (s.withTiming f).counted = s.counted := rfl
@[simp] theorem State.running_withTiming (f : Timing → Timing) : (s.withTiming f).running = s.running := rfl
@[simp] theorem State.fresh_withTiming (f : Timing → Timing) : (s.withTiming f).fresh = s.fresh := rfl
@[simp] theorem State.reg_withTiming (f : Timing → Timing) : (s.withTiming f).reg = s.reg := rfl
@[simp] theorem State.act_withTiming (f : Timing → Timing) : (s.withTiming f).act = s.act := rfl
@[simp] theorem State.shd_withTiming (f : Timing → Timing) : (s.withTiming f).shd = s.shd := rfl
@[simp] theorem State.defects_withTiming (f : Timing → Timing) : (s.withTiming f).defects = s.defects := rfl
@[simp] theorem State.agenda_withTiming (f : Timing → Timing) : (s.withTiming f).agenda = s.agenda := rfl
@[simp] theorem State.load_withTiming (f : Timing → Timing) : (s.withTiming f).load = s.load := rfl
@[simp] theorem State.autoLoad_withTiming (f : Timing → Timing) : (s.withTiming f).autoLoad = s.autoLoad := rfl
@[simp] theorem State.changes_withTiming (f : Timing → Timing) : (s.withTiming f).changes = s.changes := rfl
@[simp] theorem State.stream_withTiming (f : Timing → Timing) : (s.withTiming f).stream = s.stream := rfl
@[simp] theorem State.lastOverrun_withTiming (f : Timing → Timing) : (s.withTiming f).lastOverrun = s.lastOverrun := rfl
@[simp] theorem State.overrunEpoch_withTiming (f : Timing → Timing) : (s.withTiming f).overrunEpoch = s.overrunEpoch := rfl
@[simp] theorem State.overrunAt_withTiming (f : Timing → Timing) : (s.withTiming f).overrunAt = s.overrunAt := rfl
@[simp] theorem State.closed_withTiming (f : Timing → Timing) : (s.withTiming f).closed = s.closed := rfl
@[simp] theorem State.pllLatch_withTiming (f : Timing → Timing) : (s.withTiming f).pllLatch = s.pllLatch := rfl
@[simp] theorem State.bar_withTiming (f : Timing → Timing) : (s.withTiming f).bar = s.bar := rfl
@[simp] theorem State.sessions_withTiming (f : Timing → Timing) : (s.withTiming f).sessions = s.sessions := rfl
@[simp] theorem State.authEpoch_withTiming (f : Timing → Timing) : (s.withTiming f).authEpoch = s.authEpoch := rfl
@[simp] theorem State.owed_withTiming (f : Timing → Timing) : (s.withTiming f).owed = s.owed := rfl
@[simp] theorem State.resyncs_withTiming (f : Timing → Timing) : (s.withTiming f).resyncs = s.resyncs := rfl
@[simp] theorem State.evq_withTiming (f : Timing → Timing) : (s.withTiming f).evq = s.evq := rfl
@[simp] theorem State.eng_withTiming (f : Timing → Timing) : (s.withTiming f).eng = s.eng := rfl
@[simp] theorem State.bondSpread_withTiming (f : Timing → Timing) : (s.withTiming f).bondSpread = s.bondSpread := rfl
@[simp] theorem State.gccOut_withTiming (f : Timing → Timing) : (s.withTiming f).gccOut = s.gccOut := rfl
@[simp] theorem State.gccIn_withTiming (f : Timing → Timing) : (s.withTiming f).gccIn = s.gccIn := rfl
@[simp] theorem State.gccEpoch_withTiming (f : Timing → Timing) : (s.withTiming f).gccEpoch = s.gccEpoch := rfl
@[simp] theorem State.ohpSent_withTiming (f : Timing → Timing) : (s.withTiming f).ohpSent = s.ohpSent := rfl
@[simp] theorem State.clients_withTiming (f : Timing → Timing) : (s.withTiming f).clients = s.clients := rfl
@[simp] theorem State.cells_withTiming (f : Timing → Timing) : (s.withTiming f).cells = s.cells := rfl
@[simp] theorem State.prot_withTiming (f : Timing → Timing) : (s.withTiming f).prot = s.prot := rfl
@[simp] theorem State.sec_withTiming (f : Timing → Timing) : (s.withTiming f).sec = s.sec := rfl
@[simp] theorem State.prism_withTiming (f : Timing → Timing) : (s.withTiming f).prism = s.prism := rfl
@[simp] theorem State.shadow_withTiming (f : Timing → Timing) : (s.withTiming f).shadow = s.shadow := rfl
@[simp] theorem State.instr_withTiming (f : Timing → Timing) : (s.withTiming f).instr = s.instr := rfl
@[simp] theorem State.pm_withTiming (f : Timing → Timing) : (s.withTiming f).pm = s.pm := rfl
@[simp] theorem State.ring_withTiming (f : Timing → Timing) : (s.withTiming f).ring = s.ring := rfl
@[simp] theorem State.stores_withTiming (f : Timing → Timing) : (s.withTiming f).stores = s.stores := rfl
@[simp] theorem State.inject_withTiming (f : Timing → Timing) : (s.withTiming f).inject = s.inject := rfl
@[simp] theorem State.power_withTiming (f : Timing → Timing) : (s.withTiming f).power = s.power := rfl
@[simp] theorem State.mc_withTiming (f : Timing → Timing) : (s.withTiming f).mc = s.mc := rfl
@[simp] theorem State.timing_withTiming (f : Timing → Timing) : (s.withTiming f).timing = f s.timing := rfl
@[simp] theorem State.obj_withTiming (f : Timing → Timing) (k' : Key) : (s.withTiming f).obj k' = s.obj k' := rfl
@[simp] theorem State.objInt_withTiming (f : Timing → Timing) (k' : Key) : (s.withTiming f).objInt k' = s.objInt k' := rfl
@[simp] theorem State.active_withTiming (f : Timing → Timing) (k' : Key) : (s.withTiming f).active k' = s.active k' := rfl
@[simp] theorem State.shadowed_withTiming (f : Timing → Timing) (k' : Key) : (s.withTiming f).shadowed k' = s.shadowed k' := rfl
@[simp] theorem State.engine_withTiming (f : Timing → Timing) (e' : Nat) : (s.withTiming f).engine e' = s.engine e' := rfl
@[simp] theorem State.session_withTiming (f : Timing → Timing) (j' : Nat) : (s.withTiming f).session j' = s.session j' := rfl
@[simp] theorem State.declared_withTiming (f : Timing → Timing) (d' i' : Nat) : (s.withTiming f).declared d' i' = s.declared d' i' := rfl
@[simp] theorem State.page_withTiming (f : Timing → Timing) (g' p' : Nat) : (s.withTiming f).page g' p' = s.page g' p' := rfl
@[simp] theorem State.client_withTiming (f : Timing → Timing) (l' : Nat) : (s.withTiming f).client l' = s.client l' := rfl
@[simp] theorem State.hk_withTiming (f : Timing → Timing) (m' : Nat) : (s.withTiming f).hk m' = s.hk m' := rfl
@[simp] theorem State.loupe_withTiming (f : Timing → Timing)  : (s.withTiming f).loupe  = s.loupe  := rfl
@[simp] theorem State.mm_withTiming (f : Timing → Timing) (m' : Nat) : (s.withTiming f).mm m' = s.mm m' := rfl
@[simp] theorem State.pgRun_withTiming (f : Timing → Timing) (g' : Nat) : (s.withTiming f).pgRun g' = s.pgRun g' := rfl
@[simp] theorem State.pmPoint_withTiming (f : Timing → Timing) (p' : Nat) : (s.withTiming f).pmPoint p' = s.pmPoint p' := rfl
@[simp] theorem State.dom_withTiming (f : Timing → Timing) (d' : Nat) : (s.withTiming f).dom d' = s.dom d' := rfl
@[simp] theorem State.railRequest_withTiming (f : Timing → Timing) (r' : Nat) : (s.withTiming f).railRequest r' = s.railRequest r' := rfl
@[simp] theorem State.secChan_withTiming (f : Timing → Timing) (e' ch' : Nat) : (s.withTiming f).secChan e' ch' = s.secChan e' ch' := rfl
@[simp] theorem State.change_withTiming (f : Timing → Timing) (e' x' : Nat) : (s.withTiming f).change e' x' = s.change e' x' := rfl

@[simp] theorem State.pending_withProt (f : Protection → Protection) : (s.withProt f).pending = s.pending := rfl
@[simp] theorem State.now_withProt (f : Protection → Protection) : (s.withProt f).now = s.now := rfl
@[simp] theorem State.tick_withProt (f : Protection → Protection) : (s.withProt f).tick = s.tick := rfl
@[simp] theorem State.counted_withProt (f : Protection → Protection) : (s.withProt f).counted = s.counted := rfl
@[simp] theorem State.running_withProt (f : Protection → Protection) : (s.withProt f).running = s.running := rfl
@[simp] theorem State.fresh_withProt (f : Protection → Protection) : (s.withProt f).fresh = s.fresh := rfl
@[simp] theorem State.reg_withProt (f : Protection → Protection) : (s.withProt f).reg = s.reg := rfl
@[simp] theorem State.act_withProt (f : Protection → Protection) : (s.withProt f).act = s.act := rfl
@[simp] theorem State.shd_withProt (f : Protection → Protection) : (s.withProt f).shd = s.shd := rfl
@[simp] theorem State.defects_withProt (f : Protection → Protection) : (s.withProt f).defects = s.defects := rfl
@[simp] theorem State.agenda_withProt (f : Protection → Protection) : (s.withProt f).agenda = s.agenda := rfl
@[simp] theorem State.load_withProt (f : Protection → Protection) : (s.withProt f).load = s.load := rfl
@[simp] theorem State.autoLoad_withProt (f : Protection → Protection) : (s.withProt f).autoLoad = s.autoLoad := rfl
@[simp] theorem State.changes_withProt (f : Protection → Protection) : (s.withProt f).changes = s.changes := rfl
@[simp] theorem State.stream_withProt (f : Protection → Protection) : (s.withProt f).stream = s.stream := rfl
@[simp] theorem State.lastOverrun_withProt (f : Protection → Protection) : (s.withProt f).lastOverrun = s.lastOverrun := rfl
@[simp] theorem State.overrunEpoch_withProt (f : Protection → Protection) : (s.withProt f).overrunEpoch = s.overrunEpoch := rfl
@[simp] theorem State.overrunAt_withProt (f : Protection → Protection) : (s.withProt f).overrunAt = s.overrunAt := rfl
@[simp] theorem State.closed_withProt (f : Protection → Protection) : (s.withProt f).closed = s.closed := rfl
@[simp] theorem State.pllLatch_withProt (f : Protection → Protection) : (s.withProt f).pllLatch = s.pllLatch := rfl
@[simp] theorem State.bar_withProt (f : Protection → Protection) : (s.withProt f).bar = s.bar := rfl
@[simp] theorem State.sessions_withProt (f : Protection → Protection) : (s.withProt f).sessions = s.sessions := rfl
@[simp] theorem State.authEpoch_withProt (f : Protection → Protection) : (s.withProt f).authEpoch = s.authEpoch := rfl
@[simp] theorem State.owed_withProt (f : Protection → Protection) : (s.withProt f).owed = s.owed := rfl
@[simp] theorem State.resyncs_withProt (f : Protection → Protection) : (s.withProt f).resyncs = s.resyncs := rfl
@[simp] theorem State.evq_withProt (f : Protection → Protection) : (s.withProt f).evq = s.evq := rfl
@[simp] theorem State.eng_withProt (f : Protection → Protection) : (s.withProt f).eng = s.eng := rfl
@[simp] theorem State.bondSpread_withProt (f : Protection → Protection) : (s.withProt f).bondSpread = s.bondSpread := rfl
@[simp] theorem State.gccOut_withProt (f : Protection → Protection) : (s.withProt f).gccOut = s.gccOut := rfl
@[simp] theorem State.gccIn_withProt (f : Protection → Protection) : (s.withProt f).gccIn = s.gccIn := rfl
@[simp] theorem State.gccEpoch_withProt (f : Protection → Protection) : (s.withProt f).gccEpoch = s.gccEpoch := rfl
@[simp] theorem State.ohpSent_withProt (f : Protection → Protection) : (s.withProt f).ohpSent = s.ohpSent := rfl
@[simp] theorem State.clients_withProt (f : Protection → Protection) : (s.withProt f).clients = s.clients := rfl
@[simp] theorem State.cells_withProt (f : Protection → Protection) : (s.withProt f).cells = s.cells := rfl
@[simp] theorem State.timing_withProt (f : Protection → Protection) : (s.withProt f).timing = s.timing := rfl
@[simp] theorem State.sec_withProt (f : Protection → Protection) : (s.withProt f).sec = s.sec := rfl
@[simp] theorem State.prism_withProt (f : Protection → Protection) : (s.withProt f).prism = s.prism := rfl
@[simp] theorem State.shadow_withProt (f : Protection → Protection) : (s.withProt f).shadow = s.shadow := rfl
@[simp] theorem State.instr_withProt (f : Protection → Protection) : (s.withProt f).instr = s.instr := rfl
@[simp] theorem State.pm_withProt (f : Protection → Protection) : (s.withProt f).pm = s.pm := rfl
@[simp] theorem State.ring_withProt (f : Protection → Protection) : (s.withProt f).ring = s.ring := rfl
@[simp] theorem State.stores_withProt (f : Protection → Protection) : (s.withProt f).stores = s.stores := rfl
@[simp] theorem State.inject_withProt (f : Protection → Protection) : (s.withProt f).inject = s.inject := rfl
@[simp] theorem State.power_withProt (f : Protection → Protection) : (s.withProt f).power = s.power := rfl
@[simp] theorem State.mc_withProt (f : Protection → Protection) : (s.withProt f).mc = s.mc := rfl
@[simp] theorem State.prot_withProt (f : Protection → Protection) : (s.withProt f).prot = f s.prot := rfl
@[simp] theorem State.obj_withProt (f : Protection → Protection) (k' : Key) : (s.withProt f).obj k' = s.obj k' := rfl
@[simp] theorem State.objInt_withProt (f : Protection → Protection) (k' : Key) : (s.withProt f).objInt k' = s.objInt k' := rfl
@[simp] theorem State.active_withProt (f : Protection → Protection) (k' : Key) : (s.withProt f).active k' = s.active k' := rfl
@[simp] theorem State.shadowed_withProt (f : Protection → Protection) (k' : Key) : (s.withProt f).shadowed k' = s.shadowed k' := rfl
@[simp] theorem State.engine_withProt (f : Protection → Protection) (e' : Nat) : (s.withProt f).engine e' = s.engine e' := rfl
@[simp] theorem State.session_withProt (f : Protection → Protection) (j' : Nat) : (s.withProt f).session j' = s.session j' := rfl
@[simp] theorem State.declared_withProt (f : Protection → Protection) (d' i' : Nat) : (s.withProt f).declared d' i' = s.declared d' i' := rfl
@[simp] theorem State.page_withProt (f : Protection → Protection) (g' p' : Nat) : (s.withProt f).page g' p' = s.page g' p' := rfl
@[simp] theorem State.client_withProt (f : Protection → Protection) (l' : Nat) : (s.withProt f).client l' = s.client l' := rfl
@[simp] theorem State.hk_withProt (f : Protection → Protection) (m' : Nat) : (s.withProt f).hk m' = s.hk m' := rfl
@[simp] theorem State.loupe_withProt (f : Protection → Protection)  : (s.withProt f).loupe  = s.loupe  := rfl
@[simp] theorem State.pmPoint_withProt (f : Protection → Protection) (p' : Nat) : (s.withProt f).pmPoint p' = s.pmPoint p' := rfl
@[simp] theorem State.dom_withProt (f : Protection → Protection) (d' : Nat) : (s.withProt f).dom d' = s.dom d' := rfl
@[simp] theorem State.railRequest_withProt (f : Protection → Protection) (r' : Nat) : (s.withProt f).railRequest r' = s.railRequest r' := rfl
@[simp] theorem State.ref_withProt (f : Protection → Protection) (r' : Nat) : (s.withProt f).ref r' = s.ref r' := rfl
@[simp] theorem State.dpll_withProt (f : Protection → Protection) (d' : Nat) : (s.withProt f).dpll d' = s.dpll d' := rfl
@[simp] theorem State.secChan_withProt (f : Protection → Protection) (e' ch' : Nat) : (s.withProt f).secChan e' ch' = s.secChan e' ch' := rfl
@[simp] theorem State.change_withProt (f : Protection → Protection) (e' x' : Nat) : (s.withProt f).change e' x' = s.change e' x' := rfl

@[simp] theorem State.pending_withSec (f : SecureLine → SecureLine) : (s.withSec f).pending = s.pending := rfl
@[simp] theorem State.now_withSec (f : SecureLine → SecureLine) : (s.withSec f).now = s.now := rfl
@[simp] theorem State.tick_withSec (f : SecureLine → SecureLine) : (s.withSec f).tick = s.tick := rfl
@[simp] theorem State.counted_withSec (f : SecureLine → SecureLine) : (s.withSec f).counted = s.counted := rfl
@[simp] theorem State.running_withSec (f : SecureLine → SecureLine) : (s.withSec f).running = s.running := rfl
@[simp] theorem State.fresh_withSec (f : SecureLine → SecureLine) : (s.withSec f).fresh = s.fresh := rfl
@[simp] theorem State.reg_withSec (f : SecureLine → SecureLine) : (s.withSec f).reg = s.reg := rfl
@[simp] theorem State.act_withSec (f : SecureLine → SecureLine) : (s.withSec f).act = s.act := rfl
@[simp] theorem State.shd_withSec (f : SecureLine → SecureLine) : (s.withSec f).shd = s.shd := rfl
@[simp] theorem State.defects_withSec (f : SecureLine → SecureLine) : (s.withSec f).defects = s.defects := rfl
@[simp] theorem State.agenda_withSec (f : SecureLine → SecureLine) : (s.withSec f).agenda = s.agenda := rfl
@[simp] theorem State.load_withSec (f : SecureLine → SecureLine) : (s.withSec f).load = s.load := rfl
@[simp] theorem State.autoLoad_withSec (f : SecureLine → SecureLine) : (s.withSec f).autoLoad = s.autoLoad := rfl
@[simp] theorem State.changes_withSec (f : SecureLine → SecureLine) : (s.withSec f).changes = s.changes := rfl
@[simp] theorem State.stream_withSec (f : SecureLine → SecureLine) : (s.withSec f).stream = s.stream := rfl
@[simp] theorem State.lastOverrun_withSec (f : SecureLine → SecureLine) : (s.withSec f).lastOverrun = s.lastOverrun := rfl
@[simp] theorem State.overrunEpoch_withSec (f : SecureLine → SecureLine) : (s.withSec f).overrunEpoch = s.overrunEpoch := rfl
@[simp] theorem State.overrunAt_withSec (f : SecureLine → SecureLine) : (s.withSec f).overrunAt = s.overrunAt := rfl
@[simp] theorem State.closed_withSec (f : SecureLine → SecureLine) : (s.withSec f).closed = s.closed := rfl
@[simp] theorem State.pllLatch_withSec (f : SecureLine → SecureLine) : (s.withSec f).pllLatch = s.pllLatch := rfl
@[simp] theorem State.bar_withSec (f : SecureLine → SecureLine) : (s.withSec f).bar = s.bar := rfl
@[simp] theorem State.sessions_withSec (f : SecureLine → SecureLine) : (s.withSec f).sessions = s.sessions := rfl
@[simp] theorem State.authEpoch_withSec (f : SecureLine → SecureLine) : (s.withSec f).authEpoch = s.authEpoch := rfl
@[simp] theorem State.owed_withSec (f : SecureLine → SecureLine) : (s.withSec f).owed = s.owed := rfl
@[simp] theorem State.resyncs_withSec (f : SecureLine → SecureLine) : (s.withSec f).resyncs = s.resyncs := rfl
@[simp] theorem State.evq_withSec (f : SecureLine → SecureLine) : (s.withSec f).evq = s.evq := rfl
@[simp] theorem State.eng_withSec (f : SecureLine → SecureLine) : (s.withSec f).eng = s.eng := rfl
@[simp] theorem State.bondSpread_withSec (f : SecureLine → SecureLine) : (s.withSec f).bondSpread = s.bondSpread := rfl
@[simp] theorem State.gccOut_withSec (f : SecureLine → SecureLine) : (s.withSec f).gccOut = s.gccOut := rfl
@[simp] theorem State.gccIn_withSec (f : SecureLine → SecureLine) : (s.withSec f).gccIn = s.gccIn := rfl
@[simp] theorem State.gccEpoch_withSec (f : SecureLine → SecureLine) : (s.withSec f).gccEpoch = s.gccEpoch := rfl
@[simp] theorem State.ohpSent_withSec (f : SecureLine → SecureLine) : (s.withSec f).ohpSent = s.ohpSent := rfl
@[simp] theorem State.clients_withSec (f : SecureLine → SecureLine) : (s.withSec f).clients = s.clients := rfl
@[simp] theorem State.cells_withSec (f : SecureLine → SecureLine) : (s.withSec f).cells = s.cells := rfl
@[simp] theorem State.timing_withSec (f : SecureLine → SecureLine) : (s.withSec f).timing = s.timing := rfl
@[simp] theorem State.prot_withSec (f : SecureLine → SecureLine) : (s.withSec f).prot = s.prot := rfl
@[simp] theorem State.prism_withSec (f : SecureLine → SecureLine) : (s.withSec f).prism = s.prism := rfl
@[simp] theorem State.shadow_withSec (f : SecureLine → SecureLine) : (s.withSec f).shadow = s.shadow := rfl
@[simp] theorem State.instr_withSec (f : SecureLine → SecureLine) : (s.withSec f).instr = s.instr := rfl
@[simp] theorem State.pm_withSec (f : SecureLine → SecureLine) : (s.withSec f).pm = s.pm := rfl
@[simp] theorem State.ring_withSec (f : SecureLine → SecureLine) : (s.withSec f).ring = s.ring := rfl
@[simp] theorem State.stores_withSec (f : SecureLine → SecureLine) : (s.withSec f).stores = s.stores := rfl
@[simp] theorem State.inject_withSec (f : SecureLine → SecureLine) : (s.withSec f).inject = s.inject := rfl
@[simp] theorem State.power_withSec (f : SecureLine → SecureLine) : (s.withSec f).power = s.power := rfl
@[simp] theorem State.mc_withSec (f : SecureLine → SecureLine) : (s.withSec f).mc = s.mc := rfl
@[simp] theorem State.sec_withSec (f : SecureLine → SecureLine) : (s.withSec f).sec = f s.sec := rfl
@[simp] theorem State.obj_withSec (f : SecureLine → SecureLine) (k' : Key) : (s.withSec f).obj k' = s.obj k' := rfl
@[simp] theorem State.objInt_withSec (f : SecureLine → SecureLine) (k' : Key) : (s.withSec f).objInt k' = s.objInt k' := rfl
@[simp] theorem State.active_withSec (f : SecureLine → SecureLine) (k' : Key) : (s.withSec f).active k' = s.active k' := rfl
@[simp] theorem State.shadowed_withSec (f : SecureLine → SecureLine) (k' : Key) : (s.withSec f).shadowed k' = s.shadowed k' := rfl
@[simp] theorem State.engine_withSec (f : SecureLine → SecureLine) (e' : Nat) : (s.withSec f).engine e' = s.engine e' := rfl
@[simp] theorem State.session_withSec (f : SecureLine → SecureLine) (j' : Nat) : (s.withSec f).session j' = s.session j' := rfl
@[simp] theorem State.declared_withSec (f : SecureLine → SecureLine) (d' i' : Nat) : (s.withSec f).declared d' i' = s.declared d' i' := rfl
@[simp] theorem State.page_withSec (f : SecureLine → SecureLine) (g' p' : Nat) : (s.withSec f).page g' p' = s.page g' p' := rfl
@[simp] theorem State.client_withSec (f : SecureLine → SecureLine) (l' : Nat) : (s.withSec f).client l' = s.client l' := rfl
@[simp] theorem State.hk_withSec (f : SecureLine → SecureLine) (m' : Nat) : (s.withSec f).hk m' = s.hk m' := rfl
@[simp] theorem State.loupe_withSec (f : SecureLine → SecureLine)  : (s.withSec f).loupe  = s.loupe  := rfl
@[simp] theorem State.mm_withSec (f : SecureLine → SecureLine) (m' : Nat) : (s.withSec f).mm m' = s.mm m' := rfl
@[simp] theorem State.pgRun_withSec (f : SecureLine → SecureLine) (g' : Nat) : (s.withSec f).pgRun g' = s.pgRun g' := rfl
@[simp] theorem State.pmPoint_withSec (f : SecureLine → SecureLine) (p' : Nat) : (s.withSec f).pmPoint p' = s.pmPoint p' := rfl
@[simp] theorem State.dom_withSec (f : SecureLine → SecureLine) (d' : Nat) : (s.withSec f).dom d' = s.dom d' := rfl
@[simp] theorem State.railRequest_withSec (f : SecureLine → SecureLine) (r' : Nat) : (s.withSec f).railRequest r' = s.railRequest r' := rfl
@[simp] theorem State.ref_withSec (f : SecureLine → SecureLine) (r' : Nat) : (s.withSec f).ref r' = s.ref r' := rfl
@[simp] theorem State.dpll_withSec (f : SecureLine → SecureLine) (d' : Nat) : (s.withSec f).dpll d' = s.dpll d' := rfl
@[simp] theorem State.change_withSec (f : SecureLine → SecureLine) (e' x' : Nat) : (s.withSec f).change e' x' = s.change e' x' := rfl

@[simp] theorem State.pending_withInstr (f : Instruments → Instruments) : (s.withInstr f).pending = s.pending := rfl
@[simp] theorem State.now_withInstr (f : Instruments → Instruments) : (s.withInstr f).now = s.now := rfl
@[simp] theorem State.tick_withInstr (f : Instruments → Instruments) : (s.withInstr f).tick = s.tick := rfl
@[simp] theorem State.counted_withInstr (f : Instruments → Instruments) : (s.withInstr f).counted = s.counted := rfl
@[simp] theorem State.running_withInstr (f : Instruments → Instruments) : (s.withInstr f).running = s.running := rfl
@[simp] theorem State.fresh_withInstr (f : Instruments → Instruments) : (s.withInstr f).fresh = s.fresh := rfl
@[simp] theorem State.reg_withInstr (f : Instruments → Instruments) : (s.withInstr f).reg = s.reg := rfl
@[simp] theorem State.act_withInstr (f : Instruments → Instruments) : (s.withInstr f).act = s.act := rfl
@[simp] theorem State.shd_withInstr (f : Instruments → Instruments) : (s.withInstr f).shd = s.shd := rfl
@[simp] theorem State.defects_withInstr (f : Instruments → Instruments) : (s.withInstr f).defects = s.defects := rfl
@[simp] theorem State.agenda_withInstr (f : Instruments → Instruments) : (s.withInstr f).agenda = s.agenda := rfl
@[simp] theorem State.load_withInstr (f : Instruments → Instruments) : (s.withInstr f).load = s.load := rfl
@[simp] theorem State.autoLoad_withInstr (f : Instruments → Instruments) : (s.withInstr f).autoLoad = s.autoLoad := rfl
@[simp] theorem State.changes_withInstr (f : Instruments → Instruments) : (s.withInstr f).changes = s.changes := rfl
@[simp] theorem State.stream_withInstr (f : Instruments → Instruments) : (s.withInstr f).stream = s.stream := rfl
@[simp] theorem State.lastOverrun_withInstr (f : Instruments → Instruments) : (s.withInstr f).lastOverrun = s.lastOverrun := rfl
@[simp] theorem State.overrunEpoch_withInstr (f : Instruments → Instruments) : (s.withInstr f).overrunEpoch = s.overrunEpoch := rfl
@[simp] theorem State.overrunAt_withInstr (f : Instruments → Instruments) : (s.withInstr f).overrunAt = s.overrunAt := rfl
@[simp] theorem State.closed_withInstr (f : Instruments → Instruments) : (s.withInstr f).closed = s.closed := rfl
@[simp] theorem State.pllLatch_withInstr (f : Instruments → Instruments) : (s.withInstr f).pllLatch = s.pllLatch := rfl
@[simp] theorem State.bar_withInstr (f : Instruments → Instruments) : (s.withInstr f).bar = s.bar := rfl
@[simp] theorem State.sessions_withInstr (f : Instruments → Instruments) : (s.withInstr f).sessions = s.sessions := rfl
@[simp] theorem State.authEpoch_withInstr (f : Instruments → Instruments) : (s.withInstr f).authEpoch = s.authEpoch := rfl
@[simp] theorem State.owed_withInstr (f : Instruments → Instruments) : (s.withInstr f).owed = s.owed := rfl
@[simp] theorem State.resyncs_withInstr (f : Instruments → Instruments) : (s.withInstr f).resyncs = s.resyncs := rfl
@[simp] theorem State.evq_withInstr (f : Instruments → Instruments) : (s.withInstr f).evq = s.evq := rfl
@[simp] theorem State.eng_withInstr (f : Instruments → Instruments) : (s.withInstr f).eng = s.eng := rfl
@[simp] theorem State.bondSpread_withInstr (f : Instruments → Instruments) : (s.withInstr f).bondSpread = s.bondSpread := rfl
@[simp] theorem State.gccOut_withInstr (f : Instruments → Instruments) : (s.withInstr f).gccOut = s.gccOut := rfl
@[simp] theorem State.gccIn_withInstr (f : Instruments → Instruments) : (s.withInstr f).gccIn = s.gccIn := rfl
@[simp] theorem State.gccEpoch_withInstr (f : Instruments → Instruments) : (s.withInstr f).gccEpoch = s.gccEpoch := rfl
@[simp] theorem State.ohpSent_withInstr (f : Instruments → Instruments) : (s.withInstr f).ohpSent = s.ohpSent := rfl
@[simp] theorem State.clients_withInstr (f : Instruments → Instruments) : (s.withInstr f).clients = s.clients := rfl
@[simp] theorem State.cells_withInstr (f : Instruments → Instruments) : (s.withInstr f).cells = s.cells := rfl
@[simp] theorem State.timing_withInstr (f : Instruments → Instruments) : (s.withInstr f).timing = s.timing := rfl
@[simp] theorem State.prot_withInstr (f : Instruments → Instruments) : (s.withInstr f).prot = s.prot := rfl
@[simp] theorem State.sec_withInstr (f : Instruments → Instruments) : (s.withInstr f).sec = s.sec := rfl
@[simp] theorem State.prism_withInstr (f : Instruments → Instruments) : (s.withInstr f).prism = s.prism := rfl
@[simp] theorem State.shadow_withInstr (f : Instruments → Instruments) : (s.withInstr f).shadow = s.shadow := rfl
@[simp] theorem State.pm_withInstr (f : Instruments → Instruments) : (s.withInstr f).pm = s.pm := rfl
@[simp] theorem State.ring_withInstr (f : Instruments → Instruments) : (s.withInstr f).ring = s.ring := rfl
@[simp] theorem State.stores_withInstr (f : Instruments → Instruments) : (s.withInstr f).stores = s.stores := rfl
@[simp] theorem State.inject_withInstr (f : Instruments → Instruments) : (s.withInstr f).inject = s.inject := rfl
@[simp] theorem State.power_withInstr (f : Instruments → Instruments) : (s.withInstr f).power = s.power := rfl
@[simp] theorem State.mc_withInstr (f : Instruments → Instruments) : (s.withInstr f).mc = s.mc := rfl
@[simp] theorem State.instr_withInstr (f : Instruments → Instruments) : (s.withInstr f).instr = f s.instr := rfl
@[simp] theorem State.obj_withInstr (f : Instruments → Instruments) (k' : Key) : (s.withInstr f).obj k' = s.obj k' := rfl
@[simp] theorem State.objInt_withInstr (f : Instruments → Instruments) (k' : Key) : (s.withInstr f).objInt k' = s.objInt k' := rfl
@[simp] theorem State.active_withInstr (f : Instruments → Instruments) (k' : Key) : (s.withInstr f).active k' = s.active k' := rfl
@[simp] theorem State.shadowed_withInstr (f : Instruments → Instruments) (k' : Key) : (s.withInstr f).shadowed k' = s.shadowed k' := rfl
@[simp] theorem State.engine_withInstr (f : Instruments → Instruments) (e' : Nat) : (s.withInstr f).engine e' = s.engine e' := rfl
@[simp] theorem State.session_withInstr (f : Instruments → Instruments) (j' : Nat) : (s.withInstr f).session j' = s.session j' := rfl
@[simp] theorem State.declared_withInstr (f : Instruments → Instruments) (d' i' : Nat) : (s.withInstr f).declared d' i' = s.declared d' i' := rfl
@[simp] theorem State.page_withInstr (f : Instruments → Instruments) (g' p' : Nat) : (s.withInstr f).page g' p' = s.page g' p' := rfl
@[simp] theorem State.client_withInstr (f : Instruments → Instruments) (l' : Nat) : (s.withInstr f).client l' = s.client l' := rfl
@[simp] theorem State.mm_withInstr (f : Instruments → Instruments) (m' : Nat) : (s.withInstr f).mm m' = s.mm m' := rfl
@[simp] theorem State.pgRun_withInstr (f : Instruments → Instruments) (g' : Nat) : (s.withInstr f).pgRun g' = s.pgRun g' := rfl
@[simp] theorem State.pmPoint_withInstr (f : Instruments → Instruments) (p' : Nat) : (s.withInstr f).pmPoint p' = s.pmPoint p' := rfl
@[simp] theorem State.dom_withInstr (f : Instruments → Instruments) (d' : Nat) : (s.withInstr f).dom d' = s.dom d' := rfl
@[simp] theorem State.railRequest_withInstr (f : Instruments → Instruments) (r' : Nat) : (s.withInstr f).railRequest r' = s.railRequest r' := rfl
@[simp] theorem State.ref_withInstr (f : Instruments → Instruments) (r' : Nat) : (s.withInstr f).ref r' = s.ref r' := rfl
@[simp] theorem State.dpll_withInstr (f : Instruments → Instruments) (d' : Nat) : (s.withInstr f).dpll d' = s.dpll d' := rfl
@[simp] theorem State.secChan_withInstr (f : Instruments → Instruments) (e' ch' : Nat) : (s.withInstr f).secChan e' ch' = s.secChan e' ch' := rfl
@[simp] theorem State.change_withInstr (f : Instruments → Instruments) (e' x' : Nat) : (s.withInstr f).change e' x' = s.change e' x' := rfl

@[simp] theorem State.pending_withPm (f : Pm → Pm) : (s.withPm f).pending = s.pending := rfl
@[simp] theorem State.now_withPm (f : Pm → Pm) : (s.withPm f).now = s.now := rfl
@[simp] theorem State.tick_withPm (f : Pm → Pm) : (s.withPm f).tick = s.tick := rfl
@[simp] theorem State.counted_withPm (f : Pm → Pm) : (s.withPm f).counted = s.counted := rfl
@[simp] theorem State.running_withPm (f : Pm → Pm) : (s.withPm f).running = s.running := rfl
@[simp] theorem State.fresh_withPm (f : Pm → Pm) : (s.withPm f).fresh = s.fresh := rfl
@[simp] theorem State.reg_withPm (f : Pm → Pm) : (s.withPm f).reg = s.reg := rfl
@[simp] theorem State.act_withPm (f : Pm → Pm) : (s.withPm f).act = s.act := rfl
@[simp] theorem State.shd_withPm (f : Pm → Pm) : (s.withPm f).shd = s.shd := rfl
@[simp] theorem State.defects_withPm (f : Pm → Pm) : (s.withPm f).defects = s.defects := rfl
@[simp] theorem State.agenda_withPm (f : Pm → Pm) : (s.withPm f).agenda = s.agenda := rfl
@[simp] theorem State.load_withPm (f : Pm → Pm) : (s.withPm f).load = s.load := rfl
@[simp] theorem State.autoLoad_withPm (f : Pm → Pm) : (s.withPm f).autoLoad = s.autoLoad := rfl
@[simp] theorem State.changes_withPm (f : Pm → Pm) : (s.withPm f).changes = s.changes := rfl
@[simp] theorem State.stream_withPm (f : Pm → Pm) : (s.withPm f).stream = s.stream := rfl
@[simp] theorem State.lastOverrun_withPm (f : Pm → Pm) : (s.withPm f).lastOverrun = s.lastOverrun := rfl
@[simp] theorem State.overrunEpoch_withPm (f : Pm → Pm) : (s.withPm f).overrunEpoch = s.overrunEpoch := rfl
@[simp] theorem State.overrunAt_withPm (f : Pm → Pm) : (s.withPm f).overrunAt = s.overrunAt := rfl
@[simp] theorem State.closed_withPm (f : Pm → Pm) : (s.withPm f).closed = s.closed := rfl
@[simp] theorem State.pllLatch_withPm (f : Pm → Pm) : (s.withPm f).pllLatch = s.pllLatch := rfl
@[simp] theorem State.bar_withPm (f : Pm → Pm) : (s.withPm f).bar = s.bar := rfl
@[simp] theorem State.sessions_withPm (f : Pm → Pm) : (s.withPm f).sessions = s.sessions := rfl
@[simp] theorem State.authEpoch_withPm (f : Pm → Pm) : (s.withPm f).authEpoch = s.authEpoch := rfl
@[simp] theorem State.owed_withPm (f : Pm → Pm) : (s.withPm f).owed = s.owed := rfl
@[simp] theorem State.resyncs_withPm (f : Pm → Pm) : (s.withPm f).resyncs = s.resyncs := rfl
@[simp] theorem State.evq_withPm (f : Pm → Pm) : (s.withPm f).evq = s.evq := rfl
@[simp] theorem State.eng_withPm (f : Pm → Pm) : (s.withPm f).eng = s.eng := rfl
@[simp] theorem State.bondSpread_withPm (f : Pm → Pm) : (s.withPm f).bondSpread = s.bondSpread := rfl
@[simp] theorem State.gccOut_withPm (f : Pm → Pm) : (s.withPm f).gccOut = s.gccOut := rfl
@[simp] theorem State.gccIn_withPm (f : Pm → Pm) : (s.withPm f).gccIn = s.gccIn := rfl
@[simp] theorem State.gccEpoch_withPm (f : Pm → Pm) : (s.withPm f).gccEpoch = s.gccEpoch := rfl
@[simp] theorem State.ohpSent_withPm (f : Pm → Pm) : (s.withPm f).ohpSent = s.ohpSent := rfl
@[simp] theorem State.clients_withPm (f : Pm → Pm) : (s.withPm f).clients = s.clients := rfl
@[simp] theorem State.cells_withPm (f : Pm → Pm) : (s.withPm f).cells = s.cells := rfl
@[simp] theorem State.timing_withPm (f : Pm → Pm) : (s.withPm f).timing = s.timing := rfl
@[simp] theorem State.prot_withPm (f : Pm → Pm) : (s.withPm f).prot = s.prot := rfl
@[simp] theorem State.sec_withPm (f : Pm → Pm) : (s.withPm f).sec = s.sec := rfl
@[simp] theorem State.prism_withPm (f : Pm → Pm) : (s.withPm f).prism = s.prism := rfl
@[simp] theorem State.shadow_withPm (f : Pm → Pm) : (s.withPm f).shadow = s.shadow := rfl
@[simp] theorem State.instr_withPm (f : Pm → Pm) : (s.withPm f).instr = s.instr := rfl
@[simp] theorem State.ring_withPm (f : Pm → Pm) : (s.withPm f).ring = s.ring := rfl
@[simp] theorem State.stores_withPm (f : Pm → Pm) : (s.withPm f).stores = s.stores := rfl
@[simp] theorem State.inject_withPm (f : Pm → Pm) : (s.withPm f).inject = s.inject := rfl
@[simp] theorem State.power_withPm (f : Pm → Pm) : (s.withPm f).power = s.power := rfl
@[simp] theorem State.mc_withPm (f : Pm → Pm) : (s.withPm f).mc = s.mc := rfl
@[simp] theorem State.pm_withPm (f : Pm → Pm) : (s.withPm f).pm = f s.pm := rfl
@[simp] theorem State.obj_withPm (f : Pm → Pm) (k' : Key) : (s.withPm f).obj k' = s.obj k' := rfl
@[simp] theorem State.objInt_withPm (f : Pm → Pm) (k' : Key) : (s.withPm f).objInt k' = s.objInt k' := rfl
@[simp] theorem State.active_withPm (f : Pm → Pm) (k' : Key) : (s.withPm f).active k' = s.active k' := rfl
@[simp] theorem State.shadowed_withPm (f : Pm → Pm) (k' : Key) : (s.withPm f).shadowed k' = s.shadowed k' := rfl
@[simp] theorem State.engine_withPm (f : Pm → Pm) (e' : Nat) : (s.withPm f).engine e' = s.engine e' := rfl
@[simp] theorem State.session_withPm (f : Pm → Pm) (j' : Nat) : (s.withPm f).session j' = s.session j' := rfl
@[simp] theorem State.declared_withPm (f : Pm → Pm) (d' i' : Nat) : (s.withPm f).declared d' i' = s.declared d' i' := rfl
@[simp] theorem State.page_withPm (f : Pm → Pm) (g' p' : Nat) : (s.withPm f).page g' p' = s.page g' p' := rfl
@[simp] theorem State.client_withPm (f : Pm → Pm) (l' : Nat) : (s.withPm f).client l' = s.client l' := rfl
@[simp] theorem State.hk_withPm (f : Pm → Pm) (m' : Nat) : (s.withPm f).hk m' = s.hk m' := rfl
@[simp] theorem State.loupe_withPm (f : Pm → Pm)  : (s.withPm f).loupe  = s.loupe  := rfl
@[simp] theorem State.mm_withPm (f : Pm → Pm) (m' : Nat) : (s.withPm f).mm m' = s.mm m' := rfl
@[simp] theorem State.pgRun_withPm (f : Pm → Pm) (g' : Nat) : (s.withPm f).pgRun g' = s.pgRun g' := rfl
@[simp] theorem State.dom_withPm (f : Pm → Pm) (d' : Nat) : (s.withPm f).dom d' = s.dom d' := rfl
@[simp] theorem State.railRequest_withPm (f : Pm → Pm) (r' : Nat) : (s.withPm f).railRequest r' = s.railRequest r' := rfl
@[simp] theorem State.ref_withPm (f : Pm → Pm) (r' : Nat) : (s.withPm f).ref r' = s.ref r' := rfl
@[simp] theorem State.dpll_withPm (f : Pm → Pm) (d' : Nat) : (s.withPm f).dpll d' = s.dpll d' := rfl
@[simp] theorem State.secChan_withPm (f : Pm → Pm) (e' ch' : Nat) : (s.withPm f).secChan e' ch' = s.secChan e' ch' := rfl
@[simp] theorem State.change_withPm (f : Pm → Pm) (e' x' : Nat) : (s.withPm f).change e' x' = s.change e' x' := rfl

@[simp] theorem State.pending_withLoupe (f : Loupe → Loupe) : (s.withLoupe f).pending = s.pending := rfl
@[simp] theorem State.now_withLoupe (f : Loupe → Loupe) : (s.withLoupe f).now = s.now := rfl
@[simp] theorem State.tick_withLoupe (f : Loupe → Loupe) : (s.withLoupe f).tick = s.tick := rfl
@[simp] theorem State.counted_withLoupe (f : Loupe → Loupe) : (s.withLoupe f).counted = s.counted := rfl
@[simp] theorem State.running_withLoupe (f : Loupe → Loupe) : (s.withLoupe f).running = s.running := rfl
@[simp] theorem State.fresh_withLoupe (f : Loupe → Loupe) : (s.withLoupe f).fresh = s.fresh := rfl
@[simp] theorem State.reg_withLoupe (f : Loupe → Loupe) : (s.withLoupe f).reg = s.reg := rfl
@[simp] theorem State.act_withLoupe (f : Loupe → Loupe) : (s.withLoupe f).act = s.act := rfl
@[simp] theorem State.shd_withLoupe (f : Loupe → Loupe) : (s.withLoupe f).shd = s.shd := rfl
@[simp] theorem State.defects_withLoupe (f : Loupe → Loupe) : (s.withLoupe f).defects = s.defects := rfl
@[simp] theorem State.agenda_withLoupe (f : Loupe → Loupe) : (s.withLoupe f).agenda = s.agenda := rfl
@[simp] theorem State.load_withLoupe (f : Loupe → Loupe) : (s.withLoupe f).load = s.load := rfl
@[simp] theorem State.autoLoad_withLoupe (f : Loupe → Loupe) : (s.withLoupe f).autoLoad = s.autoLoad := rfl
@[simp] theorem State.changes_withLoupe (f : Loupe → Loupe) : (s.withLoupe f).changes = s.changes := rfl
@[simp] theorem State.stream_withLoupe (f : Loupe → Loupe) : (s.withLoupe f).stream = s.stream := rfl
@[simp] theorem State.lastOverrun_withLoupe (f : Loupe → Loupe) : (s.withLoupe f).lastOverrun = s.lastOverrun := rfl
@[simp] theorem State.overrunEpoch_withLoupe (f : Loupe → Loupe) : (s.withLoupe f).overrunEpoch = s.overrunEpoch := rfl
@[simp] theorem State.overrunAt_withLoupe (f : Loupe → Loupe) : (s.withLoupe f).overrunAt = s.overrunAt := rfl
@[simp] theorem State.closed_withLoupe (f : Loupe → Loupe) : (s.withLoupe f).closed = s.closed := rfl
@[simp] theorem State.pllLatch_withLoupe (f : Loupe → Loupe) : (s.withLoupe f).pllLatch = s.pllLatch := rfl
@[simp] theorem State.bar_withLoupe (f : Loupe → Loupe) : (s.withLoupe f).bar = s.bar := rfl
@[simp] theorem State.sessions_withLoupe (f : Loupe → Loupe) : (s.withLoupe f).sessions = s.sessions := rfl
@[simp] theorem State.authEpoch_withLoupe (f : Loupe → Loupe) : (s.withLoupe f).authEpoch = s.authEpoch := rfl
@[simp] theorem State.owed_withLoupe (f : Loupe → Loupe) : (s.withLoupe f).owed = s.owed := rfl
@[simp] theorem State.resyncs_withLoupe (f : Loupe → Loupe) : (s.withLoupe f).resyncs = s.resyncs := rfl
@[simp] theorem State.evq_withLoupe (f : Loupe → Loupe) : (s.withLoupe f).evq = s.evq := rfl
@[simp] theorem State.eng_withLoupe (f : Loupe → Loupe) : (s.withLoupe f).eng = s.eng := rfl
@[simp] theorem State.bondSpread_withLoupe (f : Loupe → Loupe) : (s.withLoupe f).bondSpread = s.bondSpread := rfl
@[simp] theorem State.gccOut_withLoupe (f : Loupe → Loupe) : (s.withLoupe f).gccOut = s.gccOut := rfl
@[simp] theorem State.gccIn_withLoupe (f : Loupe → Loupe) : (s.withLoupe f).gccIn = s.gccIn := rfl
@[simp] theorem State.gccEpoch_withLoupe (f : Loupe → Loupe) : (s.withLoupe f).gccEpoch = s.gccEpoch := rfl
@[simp] theorem State.ohpSent_withLoupe (f : Loupe → Loupe) : (s.withLoupe f).ohpSent = s.ohpSent := rfl
@[simp] theorem State.clients_withLoupe (f : Loupe → Loupe) : (s.withLoupe f).clients = s.clients := rfl
@[simp] theorem State.cells_withLoupe (f : Loupe → Loupe) : (s.withLoupe f).cells = s.cells := rfl
@[simp] theorem State.timing_withLoupe (f : Loupe → Loupe) : (s.withLoupe f).timing = s.timing := rfl
@[simp] theorem State.prot_withLoupe (f : Loupe → Loupe) : (s.withLoupe f).prot = s.prot := rfl
@[simp] theorem State.sec_withLoupe (f : Loupe → Loupe) : (s.withLoupe f).sec = s.sec := rfl
@[simp] theorem State.prism_withLoupe (f : Loupe → Loupe) : (s.withLoupe f).prism = s.prism := rfl
@[simp] theorem State.shadow_withLoupe (f : Loupe → Loupe) : (s.withLoupe f).shadow = s.shadow := rfl
@[simp] theorem State.pm_withLoupe (f : Loupe → Loupe) : (s.withLoupe f).pm = s.pm := rfl
@[simp] theorem State.ring_withLoupe (f : Loupe → Loupe) : (s.withLoupe f).ring = s.ring := rfl
@[simp] theorem State.stores_withLoupe (f : Loupe → Loupe) : (s.withLoupe f).stores = s.stores := rfl
@[simp] theorem State.inject_withLoupe (f : Loupe → Loupe) : (s.withLoupe f).inject = s.inject := rfl
@[simp] theorem State.power_withLoupe (f : Loupe → Loupe) : (s.withLoupe f).power = s.power := rfl
@[simp] theorem State.mc_withLoupe (f : Loupe → Loupe) : (s.withLoupe f).mc = s.mc := rfl
@[simp] theorem State.obj_withLoupe (f : Loupe → Loupe) (k' : Key) : (s.withLoupe f).obj k' = s.obj k' := rfl
@[simp] theorem State.objInt_withLoupe (f : Loupe → Loupe) (k' : Key) : (s.withLoupe f).objInt k' = s.objInt k' := rfl
@[simp] theorem State.active_withLoupe (f : Loupe → Loupe) (k' : Key) : (s.withLoupe f).active k' = s.active k' := rfl
@[simp] theorem State.shadowed_withLoupe (f : Loupe → Loupe) (k' : Key) : (s.withLoupe f).shadowed k' = s.shadowed k' := rfl
@[simp] theorem State.engine_withLoupe (f : Loupe → Loupe) (e' : Nat) : (s.withLoupe f).engine e' = s.engine e' := rfl
@[simp] theorem State.session_withLoupe (f : Loupe → Loupe) (j' : Nat) : (s.withLoupe f).session j' = s.session j' := rfl
@[simp] theorem State.declared_withLoupe (f : Loupe → Loupe) (d' i' : Nat) : (s.withLoupe f).declared d' i' = s.declared d' i' := rfl
@[simp] theorem State.page_withLoupe (f : Loupe → Loupe) (g' p' : Nat) : (s.withLoupe f).page g' p' = s.page g' p' := rfl
@[simp] theorem State.client_withLoupe (f : Loupe → Loupe) (l' : Nat) : (s.withLoupe f).client l' = s.client l' := rfl
@[simp] theorem State.mm_withLoupe (f : Loupe → Loupe) (m' : Nat) : (s.withLoupe f).mm m' = s.mm m' := rfl
@[simp] theorem State.pgRun_withLoupe (f : Loupe → Loupe) (g' : Nat) : (s.withLoupe f).pgRun g' = s.pgRun g' := rfl
@[simp] theorem State.pmPoint_withLoupe (f : Loupe → Loupe) (p' : Nat) : (s.withLoupe f).pmPoint p' = s.pmPoint p' := rfl
@[simp] theorem State.dom_withLoupe (f : Loupe → Loupe) (d' : Nat) : (s.withLoupe f).dom d' = s.dom d' := rfl
@[simp] theorem State.railRequest_withLoupe (f : Loupe → Loupe) (r' : Nat) : (s.withLoupe f).railRequest r' = s.railRequest r' := rfl
@[simp] theorem State.ref_withLoupe (f : Loupe → Loupe) (r' : Nat) : (s.withLoupe f).ref r' = s.ref r' := rfl
@[simp] theorem State.dpll_withLoupe (f : Loupe → Loupe) (d' : Nat) : (s.withLoupe f).dpll d' = s.dpll d' := rfl
@[simp] theorem State.secChan_withLoupe (f : Loupe → Loupe) (e' ch' : Nat) : (s.withLoupe f).secChan e' ch' = s.secChan e' ch' := rfl
@[simp] theorem State.change_withLoupe (f : Loupe → Loupe) (e' x' : Nat) : (s.withLoupe f).change e' x' = s.change e' x' := rfl

@[simp] theorem State.pending_withRef (r : Nat) (f : Ref → Ref) : (s.withRef r f).pending = s.pending := rfl
@[simp] theorem State.now_withRef (r : Nat) (f : Ref → Ref) : (s.withRef r f).now = s.now := rfl
@[simp] theorem State.tick_withRef (r : Nat) (f : Ref → Ref) : (s.withRef r f).tick = s.tick := rfl
@[simp] theorem State.counted_withRef (r : Nat) (f : Ref → Ref) : (s.withRef r f).counted = s.counted := rfl
@[simp] theorem State.running_withRef (r : Nat) (f : Ref → Ref) : (s.withRef r f).running = s.running := rfl
@[simp] theorem State.fresh_withRef (r : Nat) (f : Ref → Ref) : (s.withRef r f).fresh = s.fresh := rfl
@[simp] theorem State.reg_withRef (r : Nat) (f : Ref → Ref) : (s.withRef r f).reg = s.reg := rfl
@[simp] theorem State.act_withRef (r : Nat) (f : Ref → Ref) : (s.withRef r f).act = s.act := rfl
@[simp] theorem State.shd_withRef (r : Nat) (f : Ref → Ref) : (s.withRef r f).shd = s.shd := rfl
@[simp] theorem State.defects_withRef (r : Nat) (f : Ref → Ref) : (s.withRef r f).defects = s.defects := rfl
@[simp] theorem State.agenda_withRef (r : Nat) (f : Ref → Ref) : (s.withRef r f).agenda = s.agenda := rfl
@[simp] theorem State.load_withRef (r : Nat) (f : Ref → Ref) : (s.withRef r f).load = s.load := rfl
@[simp] theorem State.autoLoad_withRef (r : Nat) (f : Ref → Ref) : (s.withRef r f).autoLoad = s.autoLoad := rfl
@[simp] theorem State.changes_withRef (r : Nat) (f : Ref → Ref) : (s.withRef r f).changes = s.changes := rfl
@[simp] theorem State.stream_withRef (r : Nat) (f : Ref → Ref) : (s.withRef r f).stream = s.stream := rfl
@[simp] theorem State.lastOverrun_withRef (r : Nat) (f : Ref → Ref) : (s.withRef r f).lastOverrun = s.lastOverrun := rfl
@[simp] theorem State.overrunEpoch_withRef (r : Nat) (f : Ref → Ref) : (s.withRef r f).overrunEpoch = s.overrunEpoch := rfl
@[simp] theorem State.overrunAt_withRef (r : Nat) (f : Ref → Ref) : (s.withRef r f).overrunAt = s.overrunAt := rfl
@[simp] theorem State.closed_withRef (r : Nat) (f : Ref → Ref) : (s.withRef r f).closed = s.closed := rfl
@[simp] theorem State.pllLatch_withRef (r : Nat) (f : Ref → Ref) : (s.withRef r f).pllLatch = s.pllLatch := rfl
@[simp] theorem State.bar_withRef (r : Nat) (f : Ref → Ref) : (s.withRef r f).bar = s.bar := rfl
@[simp] theorem State.sessions_withRef (r : Nat) (f : Ref → Ref) : (s.withRef r f).sessions = s.sessions := rfl
@[simp] theorem State.authEpoch_withRef (r : Nat) (f : Ref → Ref) : (s.withRef r f).authEpoch = s.authEpoch := rfl
@[simp] theorem State.owed_withRef (r : Nat) (f : Ref → Ref) : (s.withRef r f).owed = s.owed := rfl
@[simp] theorem State.resyncs_withRef (r : Nat) (f : Ref → Ref) : (s.withRef r f).resyncs = s.resyncs := rfl
@[simp] theorem State.evq_withRef (r : Nat) (f : Ref → Ref) : (s.withRef r f).evq = s.evq := rfl
@[simp] theorem State.eng_withRef (r : Nat) (f : Ref → Ref) : (s.withRef r f).eng = s.eng := rfl
@[simp] theorem State.bondSpread_withRef (r : Nat) (f : Ref → Ref) : (s.withRef r f).bondSpread = s.bondSpread := rfl
@[simp] theorem State.gccOut_withRef (r : Nat) (f : Ref → Ref) : (s.withRef r f).gccOut = s.gccOut := rfl
@[simp] theorem State.gccIn_withRef (r : Nat) (f : Ref → Ref) : (s.withRef r f).gccIn = s.gccIn := rfl
@[simp] theorem State.gccEpoch_withRef (r : Nat) (f : Ref → Ref) : (s.withRef r f).gccEpoch = s.gccEpoch := rfl
@[simp] theorem State.ohpSent_withRef (r : Nat) (f : Ref → Ref) : (s.withRef r f).ohpSent = s.ohpSent := rfl
@[simp] theorem State.clients_withRef (r : Nat) (f : Ref → Ref) : (s.withRef r f).clients = s.clients := rfl
@[simp] theorem State.cells_withRef (r : Nat) (f : Ref → Ref) : (s.withRef r f).cells = s.cells := rfl
@[simp] theorem State.prot_withRef (r : Nat) (f : Ref → Ref) : (s.withRef r f).prot = s.prot := rfl
@[simp] theorem State.sec_withRef (r : Nat) (f : Ref → Ref) : (s.withRef r f).sec = s.sec := rfl
@[simp] theorem State.prism_withRef (r : Nat) (f : Ref → Ref) : (s.withRef r f).prism = s.prism := rfl
@[simp] theorem State.shadow_withRef (r : Nat) (f : Ref → Ref) : (s.withRef r f).shadow = s.shadow := rfl
@[simp] theorem State.instr_withRef (r : Nat) (f : Ref → Ref) : (s.withRef r f).instr = s.instr := rfl
@[simp] theorem State.pm_withRef (r : Nat) (f : Ref → Ref) : (s.withRef r f).pm = s.pm := rfl
@[simp] theorem State.ring_withRef (r : Nat) (f : Ref → Ref) : (s.withRef r f).ring = s.ring := rfl
@[simp] theorem State.stores_withRef (r : Nat) (f : Ref → Ref) : (s.withRef r f).stores = s.stores := rfl
@[simp] theorem State.inject_withRef (r : Nat) (f : Ref → Ref) : (s.withRef r f).inject = s.inject := rfl
@[simp] theorem State.power_withRef (r : Nat) (f : Ref → Ref) : (s.withRef r f).power = s.power := rfl
@[simp] theorem State.mc_withRef (r : Nat) (f : Ref → Ref) : (s.withRef r f).mc = s.mc := rfl
@[simp] theorem State.obj_withRef (r : Nat) (f : Ref → Ref) (k' : Key) : (s.withRef r f).obj k' = s.obj k' := rfl
@[simp] theorem State.objInt_withRef (r : Nat) (f : Ref → Ref) (k' : Key) : (s.withRef r f).objInt k' = s.objInt k' := rfl
@[simp] theorem State.active_withRef (r : Nat) (f : Ref → Ref) (k' : Key) : (s.withRef r f).active k' = s.active k' := rfl
@[simp] theorem State.shadowed_withRef (r : Nat) (f : Ref → Ref) (k' : Key) : (s.withRef r f).shadowed k' = s.shadowed k' := rfl
@[simp] theorem State.engine_withRef (r : Nat) (f : Ref → Ref) (e' : Nat) : (s.withRef r f).engine e' = s.engine e' := rfl
@[simp] theorem State.session_withRef (r : Nat) (f : Ref → Ref) (j' : Nat) : (s.withRef r f).session j' = s.session j' := rfl
@[simp] theorem State.declared_withRef (r : Nat) (f : Ref → Ref) (d' i' : Nat) : (s.withRef r f).declared d' i' = s.declared d' i' := rfl
@[simp] theorem State.page_withRef (r : Nat) (f : Ref → Ref) (g' p' : Nat) : (s.withRef r f).page g' p' = s.page g' p' := rfl
@[simp] theorem State.client_withRef (r : Nat) (f : Ref → Ref) (l' : Nat) : (s.withRef r f).client l' = s.client l' := rfl
@[simp] theorem State.hk_withRef (r : Nat) (f : Ref → Ref) (m' : Nat) : (s.withRef r f).hk m' = s.hk m' := rfl
@[simp] theorem State.loupe_withRef (r : Nat) (f : Ref → Ref)  : (s.withRef r f).loupe  = s.loupe  := rfl
@[simp] theorem State.mm_withRef (r : Nat) (f : Ref → Ref) (m' : Nat) : (s.withRef r f).mm m' = s.mm m' := rfl
@[simp] theorem State.pgRun_withRef (r : Nat) (f : Ref → Ref) (g' : Nat) : (s.withRef r f).pgRun g' = s.pgRun g' := rfl
@[simp] theorem State.pmPoint_withRef (r : Nat) (f : Ref → Ref) (p' : Nat) : (s.withRef r f).pmPoint p' = s.pmPoint p' := rfl
@[simp] theorem State.dom_withRef (r : Nat) (f : Ref → Ref) (d' : Nat) : (s.withRef r f).dom d' = s.dom d' := rfl
@[simp] theorem State.railRequest_withRef (r : Nat) (f : Ref → Ref) (r' : Nat) : (s.withRef r f).railRequest r' = s.railRequest r' := rfl
@[simp] theorem State.secChan_withRef (r : Nat) (f : Ref → Ref) (e' ch' : Nat) : (s.withRef r f).secChan e' ch' = s.secChan e' ch' := rfl
@[simp] theorem State.change_withRef (r : Nat) (f : Ref → Ref) (e' x' : Nat) : (s.withRef r f).change e' x' = s.change e' x' := rfl

@[simp] theorem State.pending_withDpll (d : Nat) (f : Dpll → Dpll) : (s.withDpll d f).pending = s.pending := rfl
@[simp] theorem State.now_withDpll (d : Nat) (f : Dpll → Dpll) : (s.withDpll d f).now = s.now := rfl
@[simp] theorem State.tick_withDpll (d : Nat) (f : Dpll → Dpll) : (s.withDpll d f).tick = s.tick := rfl
@[simp] theorem State.counted_withDpll (d : Nat) (f : Dpll → Dpll) : (s.withDpll d f).counted = s.counted := rfl
@[simp] theorem State.running_withDpll (d : Nat) (f : Dpll → Dpll) : (s.withDpll d f).running = s.running := rfl
@[simp] theorem State.fresh_withDpll (d : Nat) (f : Dpll → Dpll) : (s.withDpll d f).fresh = s.fresh := rfl
@[simp] theorem State.reg_withDpll (d : Nat) (f : Dpll → Dpll) : (s.withDpll d f).reg = s.reg := rfl
@[simp] theorem State.act_withDpll (d : Nat) (f : Dpll → Dpll) : (s.withDpll d f).act = s.act := rfl
@[simp] theorem State.shd_withDpll (d : Nat) (f : Dpll → Dpll) : (s.withDpll d f).shd = s.shd := rfl
@[simp] theorem State.defects_withDpll (d : Nat) (f : Dpll → Dpll) : (s.withDpll d f).defects = s.defects := rfl
@[simp] theorem State.agenda_withDpll (d : Nat) (f : Dpll → Dpll) : (s.withDpll d f).agenda = s.agenda := rfl
@[simp] theorem State.load_withDpll (d : Nat) (f : Dpll → Dpll) : (s.withDpll d f).load = s.load := rfl
@[simp] theorem State.autoLoad_withDpll (d : Nat) (f : Dpll → Dpll) : (s.withDpll d f).autoLoad = s.autoLoad := rfl
@[simp] theorem State.changes_withDpll (d : Nat) (f : Dpll → Dpll) : (s.withDpll d f).changes = s.changes := rfl
@[simp] theorem State.stream_withDpll (d : Nat) (f : Dpll → Dpll) : (s.withDpll d f).stream = s.stream := rfl
@[simp] theorem State.lastOverrun_withDpll (d : Nat) (f : Dpll → Dpll) : (s.withDpll d f).lastOverrun = s.lastOverrun := rfl
@[simp] theorem State.overrunEpoch_withDpll (d : Nat) (f : Dpll → Dpll) : (s.withDpll d f).overrunEpoch = s.overrunEpoch := rfl
@[simp] theorem State.overrunAt_withDpll (d : Nat) (f : Dpll → Dpll) : (s.withDpll d f).overrunAt = s.overrunAt := rfl
@[simp] theorem State.closed_withDpll (d : Nat) (f : Dpll → Dpll) : (s.withDpll d f).closed = s.closed := rfl
@[simp] theorem State.pllLatch_withDpll (d : Nat) (f : Dpll → Dpll) : (s.withDpll d f).pllLatch = s.pllLatch := rfl
@[simp] theorem State.bar_withDpll (d : Nat) (f : Dpll → Dpll) : (s.withDpll d f).bar = s.bar := rfl
@[simp] theorem State.sessions_withDpll (d : Nat) (f : Dpll → Dpll) : (s.withDpll d f).sessions = s.sessions := rfl
@[simp] theorem State.authEpoch_withDpll (d : Nat) (f : Dpll → Dpll) : (s.withDpll d f).authEpoch = s.authEpoch := rfl
@[simp] theorem State.owed_withDpll (d : Nat) (f : Dpll → Dpll) : (s.withDpll d f).owed = s.owed := rfl
@[simp] theorem State.resyncs_withDpll (d : Nat) (f : Dpll → Dpll) : (s.withDpll d f).resyncs = s.resyncs := rfl
@[simp] theorem State.evq_withDpll (d : Nat) (f : Dpll → Dpll) : (s.withDpll d f).evq = s.evq := rfl
@[simp] theorem State.eng_withDpll (d : Nat) (f : Dpll → Dpll) : (s.withDpll d f).eng = s.eng := rfl
@[simp] theorem State.bondSpread_withDpll (d : Nat) (f : Dpll → Dpll) : (s.withDpll d f).bondSpread = s.bondSpread := rfl
@[simp] theorem State.gccOut_withDpll (d : Nat) (f : Dpll → Dpll) : (s.withDpll d f).gccOut = s.gccOut := rfl
@[simp] theorem State.gccIn_withDpll (d : Nat) (f : Dpll → Dpll) : (s.withDpll d f).gccIn = s.gccIn := rfl
@[simp] theorem State.gccEpoch_withDpll (d : Nat) (f : Dpll → Dpll) : (s.withDpll d f).gccEpoch = s.gccEpoch := rfl
@[simp] theorem State.ohpSent_withDpll (d : Nat) (f : Dpll → Dpll) : (s.withDpll d f).ohpSent = s.ohpSent := rfl
@[simp] theorem State.clients_withDpll (d : Nat) (f : Dpll → Dpll) : (s.withDpll d f).clients = s.clients := rfl
@[simp] theorem State.cells_withDpll (d : Nat) (f : Dpll → Dpll) : (s.withDpll d f).cells = s.cells := rfl
@[simp] theorem State.prot_withDpll (d : Nat) (f : Dpll → Dpll) : (s.withDpll d f).prot = s.prot := rfl
@[simp] theorem State.sec_withDpll (d : Nat) (f : Dpll → Dpll) : (s.withDpll d f).sec = s.sec := rfl
@[simp] theorem State.prism_withDpll (d : Nat) (f : Dpll → Dpll) : (s.withDpll d f).prism = s.prism := rfl
@[simp] theorem State.shadow_withDpll (d : Nat) (f : Dpll → Dpll) : (s.withDpll d f).shadow = s.shadow := rfl
@[simp] theorem State.instr_withDpll (d : Nat) (f : Dpll → Dpll) : (s.withDpll d f).instr = s.instr := rfl
@[simp] theorem State.pm_withDpll (d : Nat) (f : Dpll → Dpll) : (s.withDpll d f).pm = s.pm := rfl
@[simp] theorem State.ring_withDpll (d : Nat) (f : Dpll → Dpll) : (s.withDpll d f).ring = s.ring := rfl
@[simp] theorem State.stores_withDpll (d : Nat) (f : Dpll → Dpll) : (s.withDpll d f).stores = s.stores := rfl
@[simp] theorem State.inject_withDpll (d : Nat) (f : Dpll → Dpll) : (s.withDpll d f).inject = s.inject := rfl
@[simp] theorem State.power_withDpll (d : Nat) (f : Dpll → Dpll) : (s.withDpll d f).power = s.power := rfl
@[simp] theorem State.mc_withDpll (d : Nat) (f : Dpll → Dpll) : (s.withDpll d f).mc = s.mc := rfl
@[simp] theorem State.obj_withDpll (d : Nat) (f : Dpll → Dpll) (k' : Key) : (s.withDpll d f).obj k' = s.obj k' := rfl
@[simp] theorem State.objInt_withDpll (d : Nat) (f : Dpll → Dpll) (k' : Key) : (s.withDpll d f).objInt k' = s.objInt k' := rfl
@[simp] theorem State.active_withDpll (d : Nat) (f : Dpll → Dpll) (k' : Key) : (s.withDpll d f).active k' = s.active k' := rfl
@[simp] theorem State.shadowed_withDpll (d : Nat) (f : Dpll → Dpll) (k' : Key) : (s.withDpll d f).shadowed k' = s.shadowed k' := rfl
@[simp] theorem State.engine_withDpll (d : Nat) (f : Dpll → Dpll) (e' : Nat) : (s.withDpll d f).engine e' = s.engine e' := rfl
@[simp] theorem State.session_withDpll (d : Nat) (f : Dpll → Dpll) (j' : Nat) : (s.withDpll d f).session j' = s.session j' := rfl
@[simp] theorem State.declared_withDpll (d : Nat) (f : Dpll → Dpll) (d' i' : Nat) : (s.withDpll d f).declared d' i' = s.declared d' i' := rfl
@[simp] theorem State.page_withDpll (d : Nat) (f : Dpll → Dpll) (g' p' : Nat) : (s.withDpll d f).page g' p' = s.page g' p' := rfl
@[simp] theorem State.client_withDpll (d : Nat) (f : Dpll → Dpll) (l' : Nat) : (s.withDpll d f).client l' = s.client l' := rfl
@[simp] theorem State.hk_withDpll (d : Nat) (f : Dpll → Dpll) (m' : Nat) : (s.withDpll d f).hk m' = s.hk m' := rfl
@[simp] theorem State.loupe_withDpll (d : Nat) (f : Dpll → Dpll)  : (s.withDpll d f).loupe  = s.loupe  := rfl
@[simp] theorem State.mm_withDpll (d : Nat) (f : Dpll → Dpll) (m' : Nat) : (s.withDpll d f).mm m' = s.mm m' := rfl
@[simp] theorem State.pgRun_withDpll (d : Nat) (f : Dpll → Dpll) (g' : Nat) : (s.withDpll d f).pgRun g' = s.pgRun g' := rfl
@[simp] theorem State.pmPoint_withDpll (d : Nat) (f : Dpll → Dpll) (p' : Nat) : (s.withDpll d f).pmPoint p' = s.pmPoint p' := rfl
@[simp] theorem State.dom_withDpll (d : Nat) (f : Dpll → Dpll) (d' : Nat) : (s.withDpll d f).dom d' = s.dom d' := rfl
@[simp] theorem State.railRequest_withDpll (d : Nat) (f : Dpll → Dpll) (r' : Nat) : (s.withDpll d f).railRequest r' = s.railRequest r' := rfl
@[simp] theorem State.secChan_withDpll (d : Nat) (f : Dpll → Dpll) (e' ch' : Nat) : (s.withDpll d f).secChan e' ch' = s.secChan e' ch' := rfl
@[simp] theorem State.change_withDpll (d : Nat) (f : Dpll → Dpll) (e' x' : Nat) : (s.withDpll d f).change e' x' = s.change e' x' := rfl

@[simp] theorem State.pending_setPgRun (g : Nat) (r : PgRun) : (s.setPgRun g r).pending = s.pending := rfl
@[simp] theorem State.now_setPgRun (g : Nat) (r : PgRun) : (s.setPgRun g r).now = s.now := rfl
@[simp] theorem State.tick_setPgRun (g : Nat) (r : PgRun) : (s.setPgRun g r).tick = s.tick := rfl
@[simp] theorem State.counted_setPgRun (g : Nat) (r : PgRun) : (s.setPgRun g r).counted = s.counted := rfl
@[simp] theorem State.running_setPgRun (g : Nat) (r : PgRun) : (s.setPgRun g r).running = s.running := rfl
@[simp] theorem State.fresh_setPgRun (g : Nat) (r : PgRun) : (s.setPgRun g r).fresh = s.fresh := rfl
@[simp] theorem State.reg_setPgRun (g : Nat) (r : PgRun) : (s.setPgRun g r).reg = s.reg := rfl
@[simp] theorem State.act_setPgRun (g : Nat) (r : PgRun) : (s.setPgRun g r).act = s.act := rfl
@[simp] theorem State.shd_setPgRun (g : Nat) (r : PgRun) : (s.setPgRun g r).shd = s.shd := rfl
@[simp] theorem State.defects_setPgRun (g : Nat) (r : PgRun) : (s.setPgRun g r).defects = s.defects := rfl
@[simp] theorem State.agenda_setPgRun (g : Nat) (r : PgRun) : (s.setPgRun g r).agenda = s.agenda := rfl
@[simp] theorem State.load_setPgRun (g : Nat) (r : PgRun) : (s.setPgRun g r).load = s.load := rfl
@[simp] theorem State.autoLoad_setPgRun (g : Nat) (r : PgRun) : (s.setPgRun g r).autoLoad = s.autoLoad := rfl
@[simp] theorem State.changes_setPgRun (g : Nat) (r : PgRun) : (s.setPgRun g r).changes = s.changes := rfl
@[simp] theorem State.stream_setPgRun (g : Nat) (r : PgRun) : (s.setPgRun g r).stream = s.stream := rfl
@[simp] theorem State.lastOverrun_setPgRun (g : Nat) (r : PgRun) : (s.setPgRun g r).lastOverrun = s.lastOverrun := rfl
@[simp] theorem State.overrunEpoch_setPgRun (g : Nat) (r : PgRun) : (s.setPgRun g r).overrunEpoch = s.overrunEpoch := rfl
@[simp] theorem State.overrunAt_setPgRun (g : Nat) (r : PgRun) : (s.setPgRun g r).overrunAt = s.overrunAt := rfl
@[simp] theorem State.closed_setPgRun (g : Nat) (r : PgRun) : (s.setPgRun g r).closed = s.closed := rfl
@[simp] theorem State.pllLatch_setPgRun (g : Nat) (r : PgRun) : (s.setPgRun g r).pllLatch = s.pllLatch := rfl
@[simp] theorem State.bar_setPgRun (g : Nat) (r : PgRun) : (s.setPgRun g r).bar = s.bar := rfl
@[simp] theorem State.sessions_setPgRun (g : Nat) (r : PgRun) : (s.setPgRun g r).sessions = s.sessions := rfl
@[simp] theorem State.authEpoch_setPgRun (g : Nat) (r : PgRun) : (s.setPgRun g r).authEpoch = s.authEpoch := rfl
@[simp] theorem State.owed_setPgRun (g : Nat) (r : PgRun) : (s.setPgRun g r).owed = s.owed := rfl
@[simp] theorem State.resyncs_setPgRun (g : Nat) (r : PgRun) : (s.setPgRun g r).resyncs = s.resyncs := rfl
@[simp] theorem State.evq_setPgRun (g : Nat) (r : PgRun) : (s.setPgRun g r).evq = s.evq := rfl
@[simp] theorem State.eng_setPgRun (g : Nat) (r : PgRun) : (s.setPgRun g r).eng = s.eng := rfl
@[simp] theorem State.bondSpread_setPgRun (g : Nat) (r : PgRun) : (s.setPgRun g r).bondSpread = s.bondSpread := rfl
@[simp] theorem State.gccOut_setPgRun (g : Nat) (r : PgRun) : (s.setPgRun g r).gccOut = s.gccOut := rfl
@[simp] theorem State.gccIn_setPgRun (g : Nat) (r : PgRun) : (s.setPgRun g r).gccIn = s.gccIn := rfl
@[simp] theorem State.gccEpoch_setPgRun (g : Nat) (r : PgRun) : (s.setPgRun g r).gccEpoch = s.gccEpoch := rfl
@[simp] theorem State.ohpSent_setPgRun (g : Nat) (r : PgRun) : (s.setPgRun g r).ohpSent = s.ohpSent := rfl
@[simp] theorem State.clients_setPgRun (g : Nat) (r : PgRun) : (s.setPgRun g r).clients = s.clients := rfl
@[simp] theorem State.cells_setPgRun (g : Nat) (r : PgRun) : (s.setPgRun g r).cells = s.cells := rfl
@[simp] theorem State.timing_setPgRun (g : Nat) (r : PgRun) : (s.setPgRun g r).timing = s.timing := rfl
@[simp] theorem State.sec_setPgRun (g : Nat) (r : PgRun) : (s.setPgRun g r).sec = s.sec := rfl
@[simp] theorem State.prism_setPgRun (g : Nat) (r : PgRun) : (s.setPgRun g r).prism = s.prism := rfl
@[simp] theorem State.shadow_setPgRun (g : Nat) (r : PgRun) : (s.setPgRun g r).shadow = s.shadow := rfl
@[simp] theorem State.instr_setPgRun (g : Nat) (r : PgRun) : (s.setPgRun g r).instr = s.instr := rfl
@[simp] theorem State.pm_setPgRun (g : Nat) (r : PgRun) : (s.setPgRun g r).pm = s.pm := rfl
@[simp] theorem State.ring_setPgRun (g : Nat) (r : PgRun) : (s.setPgRun g r).ring = s.ring := rfl
@[simp] theorem State.stores_setPgRun (g : Nat) (r : PgRun) : (s.setPgRun g r).stores = s.stores := rfl
@[simp] theorem State.inject_setPgRun (g : Nat) (r : PgRun) : (s.setPgRun g r).inject = s.inject := rfl
@[simp] theorem State.power_setPgRun (g : Nat) (r : PgRun) : (s.setPgRun g r).power = s.power := rfl
@[simp] theorem State.mc_setPgRun (g : Nat) (r : PgRun) : (s.setPgRun g r).mc = s.mc := rfl
@[simp] theorem State.obj_setPgRun (g : Nat) (r : PgRun) (k' : Key) : (s.setPgRun g r).obj k' = s.obj k' := rfl
@[simp] theorem State.objInt_setPgRun (g : Nat) (r : PgRun) (k' : Key) : (s.setPgRun g r).objInt k' = s.objInt k' := rfl
@[simp] theorem State.active_setPgRun (g : Nat) (r : PgRun) (k' : Key) : (s.setPgRun g r).active k' = s.active k' := rfl
@[simp] theorem State.shadowed_setPgRun (g : Nat) (r : PgRun) (k' : Key) : (s.setPgRun g r).shadowed k' = s.shadowed k' := rfl
@[simp] theorem State.engine_setPgRun (g : Nat) (r : PgRun) (e' : Nat) : (s.setPgRun g r).engine e' = s.engine e' := rfl
@[simp] theorem State.session_setPgRun (g : Nat) (r : PgRun) (j' : Nat) : (s.setPgRun g r).session j' = s.session j' := rfl
@[simp] theorem State.declared_setPgRun (g : Nat) (r : PgRun) (d' i' : Nat) : (s.setPgRun g r).declared d' i' = s.declared d' i' := rfl
@[simp] theorem State.page_setPgRun (g : Nat) (r : PgRun) (g' p' : Nat) : (s.setPgRun g r).page g' p' = s.page g' p' := rfl
@[simp] theorem State.client_setPgRun (g : Nat) (r : PgRun) (l' : Nat) : (s.setPgRun g r).client l' = s.client l' := rfl
@[simp] theorem State.hk_setPgRun (g : Nat) (r : PgRun) (m' : Nat) : (s.setPgRun g r).hk m' = s.hk m' := rfl
@[simp] theorem State.loupe_setPgRun (g : Nat) (r : PgRun)  : (s.setPgRun g r).loupe  = s.loupe  := rfl
@[simp] theorem State.pmPoint_setPgRun (g : Nat) (r : PgRun) (p' : Nat) : (s.setPgRun g r).pmPoint p' = s.pmPoint p' := rfl
@[simp] theorem State.dom_setPgRun (g : Nat) (r : PgRun) (d' : Nat) : (s.setPgRun g r).dom d' = s.dom d' := rfl
@[simp] theorem State.railRequest_setPgRun (g : Nat) (r : PgRun) (r' : Nat) : (s.setPgRun g r).railRequest r' = s.railRequest r' := rfl
@[simp] theorem State.ref_setPgRun (g : Nat) (r : PgRun) (r' : Nat) : (s.setPgRun g r).ref r' = s.ref r' := rfl
@[simp] theorem State.dpll_setPgRun (g : Nat) (r : PgRun) (d' : Nat) : (s.setPgRun g r).dpll d' = s.dpll d' := rfl
@[simp] theorem State.secChan_setPgRun (g : Nat) (r : PgRun) (e' ch' : Nat) : (s.setPgRun g r).secChan e' ch' = s.secChan e' ch' := rfl
@[simp] theorem State.change_setPgRun (g : Nat) (r : PgRun) (e' x' : Nat) : (s.setPgRun g r).change e' x' = s.change e' x' := rfl

@[simp] theorem State.pending_withMm (m : Nat) (f : MmRun → MmRun) : (s.withMm m f).pending = s.pending := rfl
@[simp] theorem State.now_withMm (m : Nat) (f : MmRun → MmRun) : (s.withMm m f).now = s.now := rfl
@[simp] theorem State.tick_withMm (m : Nat) (f : MmRun → MmRun) : (s.withMm m f).tick = s.tick := rfl
@[simp] theorem State.counted_withMm (m : Nat) (f : MmRun → MmRun) : (s.withMm m f).counted = s.counted := rfl
@[simp] theorem State.running_withMm (m : Nat) (f : MmRun → MmRun) : (s.withMm m f).running = s.running := rfl
@[simp] theorem State.fresh_withMm (m : Nat) (f : MmRun → MmRun) : (s.withMm m f).fresh = s.fresh := rfl
@[simp] theorem State.reg_withMm (m : Nat) (f : MmRun → MmRun) : (s.withMm m f).reg = s.reg := rfl
@[simp] theorem State.act_withMm (m : Nat) (f : MmRun → MmRun) : (s.withMm m f).act = s.act := rfl
@[simp] theorem State.shd_withMm (m : Nat) (f : MmRun → MmRun) : (s.withMm m f).shd = s.shd := rfl
@[simp] theorem State.defects_withMm (m : Nat) (f : MmRun → MmRun) : (s.withMm m f).defects = s.defects := rfl
@[simp] theorem State.agenda_withMm (m : Nat) (f : MmRun → MmRun) : (s.withMm m f).agenda = s.agenda := rfl
@[simp] theorem State.load_withMm (m : Nat) (f : MmRun → MmRun) : (s.withMm m f).load = s.load := rfl
@[simp] theorem State.autoLoad_withMm (m : Nat) (f : MmRun → MmRun) : (s.withMm m f).autoLoad = s.autoLoad := rfl
@[simp] theorem State.changes_withMm (m : Nat) (f : MmRun → MmRun) : (s.withMm m f).changes = s.changes := rfl
@[simp] theorem State.stream_withMm (m : Nat) (f : MmRun → MmRun) : (s.withMm m f).stream = s.stream := rfl
@[simp] theorem State.lastOverrun_withMm (m : Nat) (f : MmRun → MmRun) : (s.withMm m f).lastOverrun = s.lastOverrun := rfl
@[simp] theorem State.overrunEpoch_withMm (m : Nat) (f : MmRun → MmRun) : (s.withMm m f).overrunEpoch = s.overrunEpoch := rfl
@[simp] theorem State.overrunAt_withMm (m : Nat) (f : MmRun → MmRun) : (s.withMm m f).overrunAt = s.overrunAt := rfl
@[simp] theorem State.closed_withMm (m : Nat) (f : MmRun → MmRun) : (s.withMm m f).closed = s.closed := rfl
@[simp] theorem State.pllLatch_withMm (m : Nat) (f : MmRun → MmRun) : (s.withMm m f).pllLatch = s.pllLatch := rfl
@[simp] theorem State.bar_withMm (m : Nat) (f : MmRun → MmRun) : (s.withMm m f).bar = s.bar := rfl
@[simp] theorem State.sessions_withMm (m : Nat) (f : MmRun → MmRun) : (s.withMm m f).sessions = s.sessions := rfl
@[simp] theorem State.authEpoch_withMm (m : Nat) (f : MmRun → MmRun) : (s.withMm m f).authEpoch = s.authEpoch := rfl
@[simp] theorem State.owed_withMm (m : Nat) (f : MmRun → MmRun) : (s.withMm m f).owed = s.owed := rfl
@[simp] theorem State.resyncs_withMm (m : Nat) (f : MmRun → MmRun) : (s.withMm m f).resyncs = s.resyncs := rfl
@[simp] theorem State.evq_withMm (m : Nat) (f : MmRun → MmRun) : (s.withMm m f).evq = s.evq := rfl
@[simp] theorem State.eng_withMm (m : Nat) (f : MmRun → MmRun) : (s.withMm m f).eng = s.eng := rfl
@[simp] theorem State.bondSpread_withMm (m : Nat) (f : MmRun → MmRun) : (s.withMm m f).bondSpread = s.bondSpread := rfl
@[simp] theorem State.gccOut_withMm (m : Nat) (f : MmRun → MmRun) : (s.withMm m f).gccOut = s.gccOut := rfl
@[simp] theorem State.gccIn_withMm (m : Nat) (f : MmRun → MmRun) : (s.withMm m f).gccIn = s.gccIn := rfl
@[simp] theorem State.gccEpoch_withMm (m : Nat) (f : MmRun → MmRun) : (s.withMm m f).gccEpoch = s.gccEpoch := rfl
@[simp] theorem State.ohpSent_withMm (m : Nat) (f : MmRun → MmRun) : (s.withMm m f).ohpSent = s.ohpSent := rfl
@[simp] theorem State.clients_withMm (m : Nat) (f : MmRun → MmRun) : (s.withMm m f).clients = s.clients := rfl
@[simp] theorem State.cells_withMm (m : Nat) (f : MmRun → MmRun) : (s.withMm m f).cells = s.cells := rfl
@[simp] theorem State.timing_withMm (m : Nat) (f : MmRun → MmRun) : (s.withMm m f).timing = s.timing := rfl
@[simp] theorem State.sec_withMm (m : Nat) (f : MmRun → MmRun) : (s.withMm m f).sec = s.sec := rfl
@[simp] theorem State.prism_withMm (m : Nat) (f : MmRun → MmRun) : (s.withMm m f).prism = s.prism := rfl
@[simp] theorem State.shadow_withMm (m : Nat) (f : MmRun → MmRun) : (s.withMm m f).shadow = s.shadow := rfl
@[simp] theorem State.instr_withMm (m : Nat) (f : MmRun → MmRun) : (s.withMm m f).instr = s.instr := rfl
@[simp] theorem State.pm_withMm (m : Nat) (f : MmRun → MmRun) : (s.withMm m f).pm = s.pm := rfl
@[simp] theorem State.ring_withMm (m : Nat) (f : MmRun → MmRun) : (s.withMm m f).ring = s.ring := rfl
@[simp] theorem State.stores_withMm (m : Nat) (f : MmRun → MmRun) : (s.withMm m f).stores = s.stores := rfl
@[simp] theorem State.inject_withMm (m : Nat) (f : MmRun → MmRun) : (s.withMm m f).inject = s.inject := rfl
@[simp] theorem State.power_withMm (m : Nat) (f : MmRun → MmRun) : (s.withMm m f).power = s.power := rfl
@[simp] theorem State.mc_withMm (m : Nat) (f : MmRun → MmRun) : (s.withMm m f).mc = s.mc := rfl
@[simp] theorem State.obj_withMm (m : Nat) (f : MmRun → MmRun) (k' : Key) : (s.withMm m f).obj k' = s.obj k' := rfl
@[simp] theorem State.objInt_withMm (m : Nat) (f : MmRun → MmRun) (k' : Key) : (s.withMm m f).objInt k' = s.objInt k' := rfl
@[simp] theorem State.active_withMm (m : Nat) (f : MmRun → MmRun) (k' : Key) : (s.withMm m f).active k' = s.active k' := rfl
@[simp] theorem State.shadowed_withMm (m : Nat) (f : MmRun → MmRun) (k' : Key) : (s.withMm m f).shadowed k' = s.shadowed k' := rfl
@[simp] theorem State.engine_withMm (m : Nat) (f : MmRun → MmRun) (e' : Nat) : (s.withMm m f).engine e' = s.engine e' := rfl
@[simp] theorem State.session_withMm (m : Nat) (f : MmRun → MmRun) (j' : Nat) : (s.withMm m f).session j' = s.session j' := rfl
@[simp] theorem State.declared_withMm (m : Nat) (f : MmRun → MmRun) (d' i' : Nat) : (s.withMm m f).declared d' i' = s.declared d' i' := rfl
@[simp] theorem State.page_withMm (m : Nat) (f : MmRun → MmRun) (g' p' : Nat) : (s.withMm m f).page g' p' = s.page g' p' := rfl
@[simp] theorem State.client_withMm (m : Nat) (f : MmRun → MmRun) (l' : Nat) : (s.withMm m f).client l' = s.client l' := rfl
@[simp] theorem State.hk_withMm (m : Nat) (f : MmRun → MmRun) (m' : Nat) : (s.withMm m f).hk m' = s.hk m' := rfl
@[simp] theorem State.loupe_withMm (m : Nat) (f : MmRun → MmRun)  : (s.withMm m f).loupe  = s.loupe  := rfl
@[simp] theorem State.pmPoint_withMm (m : Nat) (f : MmRun → MmRun) (p' : Nat) : (s.withMm m f).pmPoint p' = s.pmPoint p' := rfl
@[simp] theorem State.dom_withMm (m : Nat) (f : MmRun → MmRun) (d' : Nat) : (s.withMm m f).dom d' = s.dom d' := rfl
@[simp] theorem State.railRequest_withMm (m : Nat) (f : MmRun → MmRun) (r' : Nat) : (s.withMm m f).railRequest r' = s.railRequest r' := rfl
@[simp] theorem State.ref_withMm (m : Nat) (f : MmRun → MmRun) (r' : Nat) : (s.withMm m f).ref r' = s.ref r' := rfl
@[simp] theorem State.dpll_withMm (m : Nat) (f : MmRun → MmRun) (d' : Nat) : (s.withMm m f).dpll d' = s.dpll d' := rfl
@[simp] theorem State.secChan_withMm (m : Nat) (f : MmRun → MmRun) (e' ch' : Nat) : (s.withMm m f).secChan e' ch' = s.secChan e' ch' := rfl
@[simp] theorem State.change_withMm (m : Nat) (f : MmRun → MmRun) (e' x' : Nat) : (s.withMm m f).change e' x' = s.change e' x' := rfl

@[simp] theorem State.pending_withChan (e ch : Nat) (f : SecChan → SecChan) : (s.withChan e ch f).pending = s.pending := rfl
@[simp] theorem State.now_withChan (e ch : Nat) (f : SecChan → SecChan) : (s.withChan e ch f).now = s.now := rfl
@[simp] theorem State.tick_withChan (e ch : Nat) (f : SecChan → SecChan) : (s.withChan e ch f).tick = s.tick := rfl
@[simp] theorem State.counted_withChan (e ch : Nat) (f : SecChan → SecChan) : (s.withChan e ch f).counted = s.counted := rfl
@[simp] theorem State.running_withChan (e ch : Nat) (f : SecChan → SecChan) : (s.withChan e ch f).running = s.running := rfl
@[simp] theorem State.fresh_withChan (e ch : Nat) (f : SecChan → SecChan) : (s.withChan e ch f).fresh = s.fresh := rfl
@[simp] theorem State.reg_withChan (e ch : Nat) (f : SecChan → SecChan) : (s.withChan e ch f).reg = s.reg := rfl
@[simp] theorem State.act_withChan (e ch : Nat) (f : SecChan → SecChan) : (s.withChan e ch f).act = s.act := rfl
@[simp] theorem State.shd_withChan (e ch : Nat) (f : SecChan → SecChan) : (s.withChan e ch f).shd = s.shd := rfl
@[simp] theorem State.defects_withChan (e ch : Nat) (f : SecChan → SecChan) : (s.withChan e ch f).defects = s.defects := rfl
@[simp] theorem State.agenda_withChan (e ch : Nat) (f : SecChan → SecChan) : (s.withChan e ch f).agenda = s.agenda := rfl
@[simp] theorem State.load_withChan (e ch : Nat) (f : SecChan → SecChan) : (s.withChan e ch f).load = s.load := rfl
@[simp] theorem State.autoLoad_withChan (e ch : Nat) (f : SecChan → SecChan) : (s.withChan e ch f).autoLoad = s.autoLoad := rfl
@[simp] theorem State.changes_withChan (e ch : Nat) (f : SecChan → SecChan) : (s.withChan e ch f).changes = s.changes := rfl
@[simp] theorem State.stream_withChan (e ch : Nat) (f : SecChan → SecChan) : (s.withChan e ch f).stream = s.stream := rfl
@[simp] theorem State.lastOverrun_withChan (e ch : Nat) (f : SecChan → SecChan) : (s.withChan e ch f).lastOverrun = s.lastOverrun := rfl
@[simp] theorem State.overrunEpoch_withChan (e ch : Nat) (f : SecChan → SecChan) : (s.withChan e ch f).overrunEpoch = s.overrunEpoch := rfl
@[simp] theorem State.overrunAt_withChan (e ch : Nat) (f : SecChan → SecChan) : (s.withChan e ch f).overrunAt = s.overrunAt := rfl
@[simp] theorem State.closed_withChan (e ch : Nat) (f : SecChan → SecChan) : (s.withChan e ch f).closed = s.closed := rfl
@[simp] theorem State.pllLatch_withChan (e ch : Nat) (f : SecChan → SecChan) : (s.withChan e ch f).pllLatch = s.pllLatch := rfl
@[simp] theorem State.bar_withChan (e ch : Nat) (f : SecChan → SecChan) : (s.withChan e ch f).bar = s.bar := rfl
@[simp] theorem State.sessions_withChan (e ch : Nat) (f : SecChan → SecChan) : (s.withChan e ch f).sessions = s.sessions := rfl
@[simp] theorem State.authEpoch_withChan (e ch : Nat) (f : SecChan → SecChan) : (s.withChan e ch f).authEpoch = s.authEpoch := rfl
@[simp] theorem State.owed_withChan (e ch : Nat) (f : SecChan → SecChan) : (s.withChan e ch f).owed = s.owed := rfl
@[simp] theorem State.resyncs_withChan (e ch : Nat) (f : SecChan → SecChan) : (s.withChan e ch f).resyncs = s.resyncs := rfl
@[simp] theorem State.evq_withChan (e ch : Nat) (f : SecChan → SecChan) : (s.withChan e ch f).evq = s.evq := rfl
@[simp] theorem State.eng_withChan (e ch : Nat) (f : SecChan → SecChan) : (s.withChan e ch f).eng = s.eng := rfl
@[simp] theorem State.bondSpread_withChan (e ch : Nat) (f : SecChan → SecChan) : (s.withChan e ch f).bondSpread = s.bondSpread := rfl
@[simp] theorem State.gccOut_withChan (e ch : Nat) (f : SecChan → SecChan) : (s.withChan e ch f).gccOut = s.gccOut := rfl
@[simp] theorem State.gccIn_withChan (e ch : Nat) (f : SecChan → SecChan) : (s.withChan e ch f).gccIn = s.gccIn := rfl
@[simp] theorem State.gccEpoch_withChan (e ch : Nat) (f : SecChan → SecChan) : (s.withChan e ch f).gccEpoch = s.gccEpoch := rfl
@[simp] theorem State.ohpSent_withChan (e ch : Nat) (f : SecChan → SecChan) : (s.withChan e ch f).ohpSent = s.ohpSent := rfl
@[simp] theorem State.clients_withChan (e ch : Nat) (f : SecChan → SecChan) : (s.withChan e ch f).clients = s.clients := rfl
@[simp] theorem State.cells_withChan (e ch : Nat) (f : SecChan → SecChan) : (s.withChan e ch f).cells = s.cells := rfl
@[simp] theorem State.timing_withChan (e ch : Nat) (f : SecChan → SecChan) : (s.withChan e ch f).timing = s.timing := rfl
@[simp] theorem State.prot_withChan (e ch : Nat) (f : SecChan → SecChan) : (s.withChan e ch f).prot = s.prot := rfl
@[simp] theorem State.prism_withChan (e ch : Nat) (f : SecChan → SecChan) : (s.withChan e ch f).prism = s.prism := rfl
@[simp] theorem State.shadow_withChan (e ch : Nat) (f : SecChan → SecChan) : (s.withChan e ch f).shadow = s.shadow := rfl
@[simp] theorem State.instr_withChan (e ch : Nat) (f : SecChan → SecChan) : (s.withChan e ch f).instr = s.instr := rfl
@[simp] theorem State.pm_withChan (e ch : Nat) (f : SecChan → SecChan) : (s.withChan e ch f).pm = s.pm := rfl
@[simp] theorem State.ring_withChan (e ch : Nat) (f : SecChan → SecChan) : (s.withChan e ch f).ring = s.ring := rfl
@[simp] theorem State.stores_withChan (e ch : Nat) (f : SecChan → SecChan) : (s.withChan e ch f).stores = s.stores := rfl
@[simp] theorem State.inject_withChan (e ch : Nat) (f : SecChan → SecChan) : (s.withChan e ch f).inject = s.inject := rfl
@[simp] theorem State.power_withChan (e ch : Nat) (f : SecChan → SecChan) : (s.withChan e ch f).power = s.power := rfl
@[simp] theorem State.mc_withChan (e ch : Nat) (f : SecChan → SecChan) : (s.withChan e ch f).mc = s.mc := rfl
@[simp] theorem State.obj_withChan (e ch : Nat) (f : SecChan → SecChan) (k' : Key) : (s.withChan e ch f).obj k' = s.obj k' := rfl
@[simp] theorem State.objInt_withChan (e ch : Nat) (f : SecChan → SecChan) (k' : Key) : (s.withChan e ch f).objInt k' = s.objInt k' := rfl
@[simp] theorem State.active_withChan (e ch : Nat) (f : SecChan → SecChan) (k' : Key) : (s.withChan e ch f).active k' = s.active k' := rfl
@[simp] theorem State.shadowed_withChan (e ch : Nat) (f : SecChan → SecChan) (k' : Key) : (s.withChan e ch f).shadowed k' = s.shadowed k' := rfl
@[simp] theorem State.engine_withChan (e ch : Nat) (f : SecChan → SecChan) (e' : Nat) : (s.withChan e ch f).engine e' = s.engine e' := rfl
@[simp] theorem State.session_withChan (e ch : Nat) (f : SecChan → SecChan) (j' : Nat) : (s.withChan e ch f).session j' = s.session j' := rfl
@[simp] theorem State.declared_withChan (e ch : Nat) (f : SecChan → SecChan) (d' i' : Nat) : (s.withChan e ch f).declared d' i' = s.declared d' i' := rfl
@[simp] theorem State.page_withChan (e ch : Nat) (f : SecChan → SecChan) (g' p' : Nat) : (s.withChan e ch f).page g' p' = s.page g' p' := rfl
@[simp] theorem State.client_withChan (e ch : Nat) (f : SecChan → SecChan) (l' : Nat) : (s.withChan e ch f).client l' = s.client l' := rfl
@[simp] theorem State.hk_withChan (e ch : Nat) (f : SecChan → SecChan) (m' : Nat) : (s.withChan e ch f).hk m' = s.hk m' := rfl
@[simp] theorem State.loupe_withChan (e ch : Nat) (f : SecChan → SecChan)  : (s.withChan e ch f).loupe  = s.loupe  := rfl
@[simp] theorem State.mm_withChan (e ch : Nat) (f : SecChan → SecChan) (m' : Nat) : (s.withChan e ch f).mm m' = s.mm m' := rfl
@[simp] theorem State.pgRun_withChan (e ch : Nat) (f : SecChan → SecChan) (g' : Nat) : (s.withChan e ch f).pgRun g' = s.pgRun g' := rfl
@[simp] theorem State.pmPoint_withChan (e ch : Nat) (f : SecChan → SecChan) (p' : Nat) : (s.withChan e ch f).pmPoint p' = s.pmPoint p' := rfl
@[simp] theorem State.dom_withChan (e ch : Nat) (f : SecChan → SecChan) (d' : Nat) : (s.withChan e ch f).dom d' = s.dom d' := rfl
@[simp] theorem State.railRequest_withChan (e ch : Nat) (f : SecChan → SecChan) (r' : Nat) : (s.withChan e ch f).railRequest r' = s.railRequest r' := rfl
@[simp] theorem State.ref_withChan (e ch : Nat) (f : SecChan → SecChan) (r' : Nat) : (s.withChan e ch f).ref r' = s.ref r' := rfl
@[simp] theorem State.dpll_withChan (e ch : Nat) (f : SecChan → SecChan) (d' : Nat) : (s.withChan e ch f).dpll d' = s.dpll d' := rfl
@[simp] theorem State.change_withChan (e ch : Nat) (f : SecChan → SecChan) (e' x' : Nat) : (s.withChan e ch f).change e' x' = s.change e' x' := rfl

@[simp] theorem State.pending_withLink (e : Nat) (f : SecLink → SecLink) : (s.withLink e f).pending = s.pending := rfl
@[simp] theorem State.now_withLink (e : Nat) (f : SecLink → SecLink) : (s.withLink e f).now = s.now := rfl
@[simp] theorem State.tick_withLink (e : Nat) (f : SecLink → SecLink) : (s.withLink e f).tick = s.tick := rfl
@[simp] theorem State.counted_withLink (e : Nat) (f : SecLink → SecLink) : (s.withLink e f).counted = s.counted := rfl
@[simp] theorem State.running_withLink (e : Nat) (f : SecLink → SecLink) : (s.withLink e f).running = s.running := rfl
@[simp] theorem State.fresh_withLink (e : Nat) (f : SecLink → SecLink) : (s.withLink e f).fresh = s.fresh := rfl
@[simp] theorem State.reg_withLink (e : Nat) (f : SecLink → SecLink) : (s.withLink e f).reg = s.reg := rfl
@[simp] theorem State.act_withLink (e : Nat) (f : SecLink → SecLink) : (s.withLink e f).act = s.act := rfl
@[simp] theorem State.shd_withLink (e : Nat) (f : SecLink → SecLink) : (s.withLink e f).shd = s.shd := rfl
@[simp] theorem State.defects_withLink (e : Nat) (f : SecLink → SecLink) : (s.withLink e f).defects = s.defects := rfl
@[simp] theorem State.agenda_withLink (e : Nat) (f : SecLink → SecLink) : (s.withLink e f).agenda = s.agenda := rfl
@[simp] theorem State.load_withLink (e : Nat) (f : SecLink → SecLink) : (s.withLink e f).load = s.load := rfl
@[simp] theorem State.autoLoad_withLink (e : Nat) (f : SecLink → SecLink) : (s.withLink e f).autoLoad = s.autoLoad := rfl
@[simp] theorem State.changes_withLink (e : Nat) (f : SecLink → SecLink) : (s.withLink e f).changes = s.changes := rfl
@[simp] theorem State.stream_withLink (e : Nat) (f : SecLink → SecLink) : (s.withLink e f).stream = s.stream := rfl
@[simp] theorem State.lastOverrun_withLink (e : Nat) (f : SecLink → SecLink) : (s.withLink e f).lastOverrun = s.lastOverrun := rfl
@[simp] theorem State.overrunEpoch_withLink (e : Nat) (f : SecLink → SecLink) : (s.withLink e f).overrunEpoch = s.overrunEpoch := rfl
@[simp] theorem State.overrunAt_withLink (e : Nat) (f : SecLink → SecLink) : (s.withLink e f).overrunAt = s.overrunAt := rfl
@[simp] theorem State.closed_withLink (e : Nat) (f : SecLink → SecLink) : (s.withLink e f).closed = s.closed := rfl
@[simp] theorem State.pllLatch_withLink (e : Nat) (f : SecLink → SecLink) : (s.withLink e f).pllLatch = s.pllLatch := rfl
@[simp] theorem State.bar_withLink (e : Nat) (f : SecLink → SecLink) : (s.withLink e f).bar = s.bar := rfl
@[simp] theorem State.sessions_withLink (e : Nat) (f : SecLink → SecLink) : (s.withLink e f).sessions = s.sessions := rfl
@[simp] theorem State.authEpoch_withLink (e : Nat) (f : SecLink → SecLink) : (s.withLink e f).authEpoch = s.authEpoch := rfl
@[simp] theorem State.owed_withLink (e : Nat) (f : SecLink → SecLink) : (s.withLink e f).owed = s.owed := rfl
@[simp] theorem State.resyncs_withLink (e : Nat) (f : SecLink → SecLink) : (s.withLink e f).resyncs = s.resyncs := rfl
@[simp] theorem State.evq_withLink (e : Nat) (f : SecLink → SecLink) : (s.withLink e f).evq = s.evq := rfl
@[simp] theorem State.eng_withLink (e : Nat) (f : SecLink → SecLink) : (s.withLink e f).eng = s.eng := rfl
@[simp] theorem State.bondSpread_withLink (e : Nat) (f : SecLink → SecLink) : (s.withLink e f).bondSpread = s.bondSpread := rfl
@[simp] theorem State.gccOut_withLink (e : Nat) (f : SecLink → SecLink) : (s.withLink e f).gccOut = s.gccOut := rfl
@[simp] theorem State.gccIn_withLink (e : Nat) (f : SecLink → SecLink) : (s.withLink e f).gccIn = s.gccIn := rfl
@[simp] theorem State.gccEpoch_withLink (e : Nat) (f : SecLink → SecLink) : (s.withLink e f).gccEpoch = s.gccEpoch := rfl
@[simp] theorem State.ohpSent_withLink (e : Nat) (f : SecLink → SecLink) : (s.withLink e f).ohpSent = s.ohpSent := rfl
@[simp] theorem State.clients_withLink (e : Nat) (f : SecLink → SecLink) : (s.withLink e f).clients = s.clients := rfl
@[simp] theorem State.cells_withLink (e : Nat) (f : SecLink → SecLink) : (s.withLink e f).cells = s.cells := rfl
@[simp] theorem State.timing_withLink (e : Nat) (f : SecLink → SecLink) : (s.withLink e f).timing = s.timing := rfl
@[simp] theorem State.prot_withLink (e : Nat) (f : SecLink → SecLink) : (s.withLink e f).prot = s.prot := rfl
@[simp] theorem State.prism_withLink (e : Nat) (f : SecLink → SecLink) : (s.withLink e f).prism = s.prism := rfl
@[simp] theorem State.shadow_withLink (e : Nat) (f : SecLink → SecLink) : (s.withLink e f).shadow = s.shadow := rfl
@[simp] theorem State.instr_withLink (e : Nat) (f : SecLink → SecLink) : (s.withLink e f).instr = s.instr := rfl
@[simp] theorem State.pm_withLink (e : Nat) (f : SecLink → SecLink) : (s.withLink e f).pm = s.pm := rfl
@[simp] theorem State.ring_withLink (e : Nat) (f : SecLink → SecLink) : (s.withLink e f).ring = s.ring := rfl
@[simp] theorem State.stores_withLink (e : Nat) (f : SecLink → SecLink) : (s.withLink e f).stores = s.stores := rfl
@[simp] theorem State.inject_withLink (e : Nat) (f : SecLink → SecLink) : (s.withLink e f).inject = s.inject := rfl
@[simp] theorem State.power_withLink (e : Nat) (f : SecLink → SecLink) : (s.withLink e f).power = s.power := rfl
@[simp] theorem State.mc_withLink (e : Nat) (f : SecLink → SecLink) : (s.withLink e f).mc = s.mc := rfl
@[simp] theorem State.obj_withLink (e : Nat) (f : SecLink → SecLink) (k' : Key) : (s.withLink e f).obj k' = s.obj k' := rfl
@[simp] theorem State.objInt_withLink (e : Nat) (f : SecLink → SecLink) (k' : Key) : (s.withLink e f).objInt k' = s.objInt k' := rfl
@[simp] theorem State.active_withLink (e : Nat) (f : SecLink → SecLink) (k' : Key) : (s.withLink e f).active k' = s.active k' := rfl
@[simp] theorem State.shadowed_withLink (e : Nat) (f : SecLink → SecLink) (k' : Key) : (s.withLink e f).shadowed k' = s.shadowed k' := rfl
@[simp] theorem State.engine_withLink (e : Nat) (f : SecLink → SecLink) (e' : Nat) : (s.withLink e f).engine e' = s.engine e' := rfl
@[simp] theorem State.session_withLink (e : Nat) (f : SecLink → SecLink) (j' : Nat) : (s.withLink e f).session j' = s.session j' := rfl
@[simp] theorem State.declared_withLink (e : Nat) (f : SecLink → SecLink) (d' i' : Nat) : (s.withLink e f).declared d' i' = s.declared d' i' := rfl
@[simp] theorem State.page_withLink (e : Nat) (f : SecLink → SecLink) (g' p' : Nat) : (s.withLink e f).page g' p' = s.page g' p' := rfl
@[simp] theorem State.client_withLink (e : Nat) (f : SecLink → SecLink) (l' : Nat) : (s.withLink e f).client l' = s.client l' := rfl
@[simp] theorem State.hk_withLink (e : Nat) (f : SecLink → SecLink) (m' : Nat) : (s.withLink e f).hk m' = s.hk m' := rfl
@[simp] theorem State.loupe_withLink (e : Nat) (f : SecLink → SecLink)  : (s.withLink e f).loupe  = s.loupe  := rfl
@[simp] theorem State.mm_withLink (e : Nat) (f : SecLink → SecLink) (m' : Nat) : (s.withLink e f).mm m' = s.mm m' := rfl
@[simp] theorem State.pgRun_withLink (e : Nat) (f : SecLink → SecLink) (g' : Nat) : (s.withLink e f).pgRun g' = s.pgRun g' := rfl
@[simp] theorem State.pmPoint_withLink (e : Nat) (f : SecLink → SecLink) (p' : Nat) : (s.withLink e f).pmPoint p' = s.pmPoint p' := rfl
@[simp] theorem State.dom_withLink (e : Nat) (f : SecLink → SecLink) (d' : Nat) : (s.withLink e f).dom d' = s.dom d' := rfl
@[simp] theorem State.railRequest_withLink (e : Nat) (f : SecLink → SecLink) (r' : Nat) : (s.withLink e f).railRequest r' = s.railRequest r' := rfl
@[simp] theorem State.ref_withLink (e : Nat) (f : SecLink → SecLink) (r' : Nat) : (s.withLink e f).ref r' = s.ref r' := rfl
@[simp] theorem State.dpll_withLink (e : Nat) (f : SecLink → SecLink) (d' : Nat) : (s.withLink e f).dpll d' = s.dpll d' := rfl
@[simp] theorem State.change_withLink (e : Nat) (f : SecLink → SecLink) (e' x' : Nat) : (s.withLink e f).change e' x' = s.change e' x' := rfl

@[simp] theorem State.pending_setCells (l : Nat) (c : CellLane) : (s.setCells l c).pending = s.pending := rfl
@[simp] theorem State.now_setCells (l : Nat) (c : CellLane) : (s.setCells l c).now = s.now := rfl
@[simp] theorem State.tick_setCells (l : Nat) (c : CellLane) : (s.setCells l c).tick = s.tick := rfl
@[simp] theorem State.counted_setCells (l : Nat) (c : CellLane) : (s.setCells l c).counted = s.counted := rfl
@[simp] theorem State.running_setCells (l : Nat) (c : CellLane) : (s.setCells l c).running = s.running := rfl
@[simp] theorem State.fresh_setCells (l : Nat) (c : CellLane) : (s.setCells l c).fresh = s.fresh := rfl
@[simp] theorem State.reg_setCells (l : Nat) (c : CellLane) : (s.setCells l c).reg = s.reg := rfl
@[simp] theorem State.act_setCells (l : Nat) (c : CellLane) : (s.setCells l c).act = s.act := rfl
@[simp] theorem State.shd_setCells (l : Nat) (c : CellLane) : (s.setCells l c).shd = s.shd := rfl
@[simp] theorem State.defects_setCells (l : Nat) (c : CellLane) : (s.setCells l c).defects = s.defects := rfl
@[simp] theorem State.agenda_setCells (l : Nat) (c : CellLane) : (s.setCells l c).agenda = s.agenda := rfl
@[simp] theorem State.load_setCells (l : Nat) (c : CellLane) : (s.setCells l c).load = s.load := rfl
@[simp] theorem State.autoLoad_setCells (l : Nat) (c : CellLane) : (s.setCells l c).autoLoad = s.autoLoad := rfl
@[simp] theorem State.changes_setCells (l : Nat) (c : CellLane) : (s.setCells l c).changes = s.changes := rfl
@[simp] theorem State.stream_setCells (l : Nat) (c : CellLane) : (s.setCells l c).stream = s.stream := rfl
@[simp] theorem State.lastOverrun_setCells (l : Nat) (c : CellLane) : (s.setCells l c).lastOverrun = s.lastOverrun := rfl
@[simp] theorem State.overrunEpoch_setCells (l : Nat) (c : CellLane) : (s.setCells l c).overrunEpoch = s.overrunEpoch := rfl
@[simp] theorem State.overrunAt_setCells (l : Nat) (c : CellLane) : (s.setCells l c).overrunAt = s.overrunAt := rfl
@[simp] theorem State.closed_setCells (l : Nat) (c : CellLane) : (s.setCells l c).closed = s.closed := rfl
@[simp] theorem State.pllLatch_setCells (l : Nat) (c : CellLane) : (s.setCells l c).pllLatch = s.pllLatch := rfl
@[simp] theorem State.bar_setCells (l : Nat) (c : CellLane) : (s.setCells l c).bar = s.bar := rfl
@[simp] theorem State.sessions_setCells (l : Nat) (c : CellLane) : (s.setCells l c).sessions = s.sessions := rfl
@[simp] theorem State.authEpoch_setCells (l : Nat) (c : CellLane) : (s.setCells l c).authEpoch = s.authEpoch := rfl
@[simp] theorem State.owed_setCells (l : Nat) (c : CellLane) : (s.setCells l c).owed = s.owed := rfl
@[simp] theorem State.resyncs_setCells (l : Nat) (c : CellLane) : (s.setCells l c).resyncs = s.resyncs := rfl
@[simp] theorem State.evq_setCells (l : Nat) (c : CellLane) : (s.setCells l c).evq = s.evq := rfl
@[simp] theorem State.eng_setCells (l : Nat) (c : CellLane) : (s.setCells l c).eng = s.eng := rfl
@[simp] theorem State.bondSpread_setCells (l : Nat) (c : CellLane) : (s.setCells l c).bondSpread = s.bondSpread := rfl
@[simp] theorem State.gccOut_setCells (l : Nat) (c : CellLane) : (s.setCells l c).gccOut = s.gccOut := rfl
@[simp] theorem State.gccIn_setCells (l : Nat) (c : CellLane) : (s.setCells l c).gccIn = s.gccIn := rfl
@[simp] theorem State.gccEpoch_setCells (l : Nat) (c : CellLane) : (s.setCells l c).gccEpoch = s.gccEpoch := rfl
@[simp] theorem State.ohpSent_setCells (l : Nat) (c : CellLane) : (s.setCells l c).ohpSent = s.ohpSent := rfl
@[simp] theorem State.clients_setCells (l : Nat) (c : CellLane) : (s.setCells l c).clients = s.clients := rfl
@[simp] theorem State.timing_setCells (l : Nat) (c : CellLane) : (s.setCells l c).timing = s.timing := rfl
@[simp] theorem State.prot_setCells (l : Nat) (c : CellLane) : (s.setCells l c).prot = s.prot := rfl
@[simp] theorem State.sec_setCells (l : Nat) (c : CellLane) : (s.setCells l c).sec = s.sec := rfl
@[simp] theorem State.prism_setCells (l : Nat) (c : CellLane) : (s.setCells l c).prism = s.prism := rfl
@[simp] theorem State.shadow_setCells (l : Nat) (c : CellLane) : (s.setCells l c).shadow = s.shadow := rfl
@[simp] theorem State.instr_setCells (l : Nat) (c : CellLane) : (s.setCells l c).instr = s.instr := rfl
@[simp] theorem State.pm_setCells (l : Nat) (c : CellLane) : (s.setCells l c).pm = s.pm := rfl
@[simp] theorem State.ring_setCells (l : Nat) (c : CellLane) : (s.setCells l c).ring = s.ring := rfl
@[simp] theorem State.stores_setCells (l : Nat) (c : CellLane) : (s.setCells l c).stores = s.stores := rfl
@[simp] theorem State.inject_setCells (l : Nat) (c : CellLane) : (s.setCells l c).inject = s.inject := rfl
@[simp] theorem State.power_setCells (l : Nat) (c : CellLane) : (s.setCells l c).power = s.power := rfl
@[simp] theorem State.mc_setCells (l : Nat) (c : CellLane) : (s.setCells l c).mc = s.mc := rfl
@[simp] theorem State.obj_setCells (l : Nat) (c : CellLane) (k' : Key) : (s.setCells l c).obj k' = s.obj k' := rfl
@[simp] theorem State.objInt_setCells (l : Nat) (c : CellLane) (k' : Key) : (s.setCells l c).objInt k' = s.objInt k' := rfl
@[simp] theorem State.active_setCells (l : Nat) (c : CellLane) (k' : Key) : (s.setCells l c).active k' = s.active k' := rfl
@[simp] theorem State.shadowed_setCells (l : Nat) (c : CellLane) (k' : Key) : (s.setCells l c).shadowed k' = s.shadowed k' := rfl
@[simp] theorem State.engine_setCells (l : Nat) (c : CellLane) (e' : Nat) : (s.setCells l c).engine e' = s.engine e' := rfl
@[simp] theorem State.session_setCells (l : Nat) (c : CellLane) (j' : Nat) : (s.setCells l c).session j' = s.session j' := rfl
@[simp] theorem State.declared_setCells (l : Nat) (c : CellLane) (d' i' : Nat) : (s.setCells l c).declared d' i' = s.declared d' i' := rfl
@[simp] theorem State.page_setCells (l : Nat) (c : CellLane) (g' p' : Nat) : (s.setCells l c).page g' p' = s.page g' p' := rfl
@[simp] theorem State.client_setCells (l : Nat) (c : CellLane) (l' : Nat) : (s.setCells l c).client l' = s.client l' := rfl
@[simp] theorem State.hk_setCells (l : Nat) (c : CellLane) (m' : Nat) : (s.setCells l c).hk m' = s.hk m' := rfl
@[simp] theorem State.loupe_setCells (l : Nat) (c : CellLane)  : (s.setCells l c).loupe  = s.loupe  := rfl
@[simp] theorem State.mm_setCells (l : Nat) (c : CellLane) (m' : Nat) : (s.setCells l c).mm m' = s.mm m' := rfl
@[simp] theorem State.pgRun_setCells (l : Nat) (c : CellLane) (g' : Nat) : (s.setCells l c).pgRun g' = s.pgRun g' := rfl
@[simp] theorem State.pmPoint_setCells (l : Nat) (c : CellLane) (p' : Nat) : (s.setCells l c).pmPoint p' = s.pmPoint p' := rfl
@[simp] theorem State.dom_setCells (l : Nat) (c : CellLane) (d' : Nat) : (s.setCells l c).dom d' = s.dom d' := rfl
@[simp] theorem State.railRequest_setCells (l : Nat) (c : CellLane) (r' : Nat) : (s.setCells l c).railRequest r' = s.railRequest r' := rfl
@[simp] theorem State.ref_setCells (l : Nat) (c : CellLane) (r' : Nat) : (s.setCells l c).ref r' = s.ref r' := rfl
@[simp] theorem State.dpll_setCells (l : Nat) (c : CellLane) (d' : Nat) : (s.setCells l c).dpll d' = s.dpll d' := rfl
@[simp] theorem State.secChan_setCells (l : Nat) (c : CellLane) (e' ch' : Nat) : (s.setCells l c).secChan e' ch' = s.secChan e' ch' := rfl
@[simp] theorem State.change_setCells (l : Nat) (c : CellLane) (e' x' : Nat) : (s.setCells l c).change e' x' = s.change e' x' := rfl

@[simp] theorem State.pending_withHk (m : Nat) (f : HkRun → HkRun) : (s.withHk m f).pending = s.pending := rfl
@[simp] theorem State.now_withHk (m : Nat) (f : HkRun → HkRun) : (s.withHk m f).now = s.now := rfl
@[simp] theorem State.tick_withHk (m : Nat) (f : HkRun → HkRun) : (s.withHk m f).tick = s.tick := rfl
@[simp] theorem State.counted_withHk (m : Nat) (f : HkRun → HkRun) : (s.withHk m f).counted = s.counted := rfl
@[simp] theorem State.running_withHk (m : Nat) (f : HkRun → HkRun) : (s.withHk m f).running = s.running := rfl
@[simp] theorem State.fresh_withHk (m : Nat) (f : HkRun → HkRun) : (s.withHk m f).fresh = s.fresh := rfl
@[simp] theorem State.reg_withHk (m : Nat) (f : HkRun → HkRun) : (s.withHk m f).reg = s.reg := rfl
@[simp] theorem State.act_withHk (m : Nat) (f : HkRun → HkRun) : (s.withHk m f).act = s.act := rfl
@[simp] theorem State.shd_withHk (m : Nat) (f : HkRun → HkRun) : (s.withHk m f).shd = s.shd := rfl
@[simp] theorem State.defects_withHk (m : Nat) (f : HkRun → HkRun) : (s.withHk m f).defects = s.defects := rfl
@[simp] theorem State.agenda_withHk (m : Nat) (f : HkRun → HkRun) : (s.withHk m f).agenda = s.agenda := rfl
@[simp] theorem State.load_withHk (m : Nat) (f : HkRun → HkRun) : (s.withHk m f).load = s.load := rfl
@[simp] theorem State.autoLoad_withHk (m : Nat) (f : HkRun → HkRun) : (s.withHk m f).autoLoad = s.autoLoad := rfl
@[simp] theorem State.changes_withHk (m : Nat) (f : HkRun → HkRun) : (s.withHk m f).changes = s.changes := rfl
@[simp] theorem State.stream_withHk (m : Nat) (f : HkRun → HkRun) : (s.withHk m f).stream = s.stream := rfl
@[simp] theorem State.lastOverrun_withHk (m : Nat) (f : HkRun → HkRun) : (s.withHk m f).lastOverrun = s.lastOverrun := rfl
@[simp] theorem State.overrunEpoch_withHk (m : Nat) (f : HkRun → HkRun) : (s.withHk m f).overrunEpoch = s.overrunEpoch := rfl
@[simp] theorem State.overrunAt_withHk (m : Nat) (f : HkRun → HkRun) : (s.withHk m f).overrunAt = s.overrunAt := rfl
@[simp] theorem State.closed_withHk (m : Nat) (f : HkRun → HkRun) : (s.withHk m f).closed = s.closed := rfl
@[simp] theorem State.pllLatch_withHk (m : Nat) (f : HkRun → HkRun) : (s.withHk m f).pllLatch = s.pllLatch := rfl
@[simp] theorem State.bar_withHk (m : Nat) (f : HkRun → HkRun) : (s.withHk m f).bar = s.bar := rfl
@[simp] theorem State.sessions_withHk (m : Nat) (f : HkRun → HkRun) : (s.withHk m f).sessions = s.sessions := rfl
@[simp] theorem State.authEpoch_withHk (m : Nat) (f : HkRun → HkRun) : (s.withHk m f).authEpoch = s.authEpoch := rfl
@[simp] theorem State.owed_withHk (m : Nat) (f : HkRun → HkRun) : (s.withHk m f).owed = s.owed := rfl
@[simp] theorem State.resyncs_withHk (m : Nat) (f : HkRun → HkRun) : (s.withHk m f).resyncs = s.resyncs := rfl
@[simp] theorem State.evq_withHk (m : Nat) (f : HkRun → HkRun) : (s.withHk m f).evq = s.evq := rfl
@[simp] theorem State.eng_withHk (m : Nat) (f : HkRun → HkRun) : (s.withHk m f).eng = s.eng := rfl
@[simp] theorem State.bondSpread_withHk (m : Nat) (f : HkRun → HkRun) : (s.withHk m f).bondSpread = s.bondSpread := rfl
@[simp] theorem State.gccOut_withHk (m : Nat) (f : HkRun → HkRun) : (s.withHk m f).gccOut = s.gccOut := rfl
@[simp] theorem State.gccIn_withHk (m : Nat) (f : HkRun → HkRun) : (s.withHk m f).gccIn = s.gccIn := rfl
@[simp] theorem State.gccEpoch_withHk (m : Nat) (f : HkRun → HkRun) : (s.withHk m f).gccEpoch = s.gccEpoch := rfl
@[simp] theorem State.ohpSent_withHk (m : Nat) (f : HkRun → HkRun) : (s.withHk m f).ohpSent = s.ohpSent := rfl
@[simp] theorem State.clients_withHk (m : Nat) (f : HkRun → HkRun) : (s.withHk m f).clients = s.clients := rfl
@[simp] theorem State.cells_withHk (m : Nat) (f : HkRun → HkRun) : (s.withHk m f).cells = s.cells := rfl
@[simp] theorem State.timing_withHk (m : Nat) (f : HkRun → HkRun) : (s.withHk m f).timing = s.timing := rfl
@[simp] theorem State.prot_withHk (m : Nat) (f : HkRun → HkRun) : (s.withHk m f).prot = s.prot := rfl
@[simp] theorem State.sec_withHk (m : Nat) (f : HkRun → HkRun) : (s.withHk m f).sec = s.sec := rfl
@[simp] theorem State.prism_withHk (m : Nat) (f : HkRun → HkRun) : (s.withHk m f).prism = s.prism := rfl
@[simp] theorem State.shadow_withHk (m : Nat) (f : HkRun → HkRun) : (s.withHk m f).shadow = s.shadow := rfl
@[simp] theorem State.pm_withHk (m : Nat) (f : HkRun → HkRun) : (s.withHk m f).pm = s.pm := rfl
@[simp] theorem State.ring_withHk (m : Nat) (f : HkRun → HkRun) : (s.withHk m f).ring = s.ring := rfl
@[simp] theorem State.stores_withHk (m : Nat) (f : HkRun → HkRun) : (s.withHk m f).stores = s.stores := rfl
@[simp] theorem State.inject_withHk (m : Nat) (f : HkRun → HkRun) : (s.withHk m f).inject = s.inject := rfl
@[simp] theorem State.power_withHk (m : Nat) (f : HkRun → HkRun) : (s.withHk m f).power = s.power := rfl
@[simp] theorem State.mc_withHk (m : Nat) (f : HkRun → HkRun) : (s.withHk m f).mc = s.mc := rfl
@[simp] theorem State.obj_withHk (m : Nat) (f : HkRun → HkRun) (k' : Key) : (s.withHk m f).obj k' = s.obj k' := rfl
@[simp] theorem State.objInt_withHk (m : Nat) (f : HkRun → HkRun) (k' : Key) : (s.withHk m f).objInt k' = s.objInt k' := rfl
@[simp] theorem State.active_withHk (m : Nat) (f : HkRun → HkRun) (k' : Key) : (s.withHk m f).active k' = s.active k' := rfl
@[simp] theorem State.shadowed_withHk (m : Nat) (f : HkRun → HkRun) (k' : Key) : (s.withHk m f).shadowed k' = s.shadowed k' := rfl
@[simp] theorem State.engine_withHk (m : Nat) (f : HkRun → HkRun) (e' : Nat) : (s.withHk m f).engine e' = s.engine e' := rfl
@[simp] theorem State.session_withHk (m : Nat) (f : HkRun → HkRun) (j' : Nat) : (s.withHk m f).session j' = s.session j' := rfl
@[simp] theorem State.declared_withHk (m : Nat) (f : HkRun → HkRun) (d' i' : Nat) : (s.withHk m f).declared d' i' = s.declared d' i' := rfl
@[simp] theorem State.page_withHk (m : Nat) (f : HkRun → HkRun) (g' p' : Nat) : (s.withHk m f).page g' p' = s.page g' p' := rfl
@[simp] theorem State.client_withHk (m : Nat) (f : HkRun → HkRun) (l' : Nat) : (s.withHk m f).client l' = s.client l' := rfl
@[simp] theorem State.mm_withHk (m : Nat) (f : HkRun → HkRun) (m' : Nat) : (s.withHk m f).mm m' = s.mm m' := rfl
@[simp] theorem State.pgRun_withHk (m : Nat) (f : HkRun → HkRun) (g' : Nat) : (s.withHk m f).pgRun g' = s.pgRun g' := rfl
@[simp] theorem State.pmPoint_withHk (m : Nat) (f : HkRun → HkRun) (p' : Nat) : (s.withHk m f).pmPoint p' = s.pmPoint p' := rfl
@[simp] theorem State.dom_withHk (m : Nat) (f : HkRun → HkRun) (d' : Nat) : (s.withHk m f).dom d' = s.dom d' := rfl
@[simp] theorem State.railRequest_withHk (m : Nat) (f : HkRun → HkRun) (r' : Nat) : (s.withHk m f).railRequest r' = s.railRequest r' := rfl
@[simp] theorem State.ref_withHk (m : Nat) (f : HkRun → HkRun) (r' : Nat) : (s.withHk m f).ref r' = s.ref r' := rfl
@[simp] theorem State.dpll_withHk (m : Nat) (f : HkRun → HkRun) (d' : Nat) : (s.withHk m f).dpll d' = s.dpll d' := rfl
@[simp] theorem State.secChan_withHk (m : Nat) (f : HkRun → HkRun) (e' ch' : Nat) : (s.withHk m f).secChan e' ch' = s.secChan e' ch' := rfl
@[simp] theorem State.change_withHk (m : Nat) (f : HkRun → HkRun) (e' x' : Nat) : (s.withHk m f).change e' x' = s.change e' x' := rfl

@[simp] theorem State.pending_setPmPoint (p : Nat) (x : PmPoint) : (s.setPmPoint p x).pending = s.pending := rfl
@[simp] theorem State.now_setPmPoint (p : Nat) (x : PmPoint) : (s.setPmPoint p x).now = s.now := rfl
@[simp] theorem State.tick_setPmPoint (p : Nat) (x : PmPoint) : (s.setPmPoint p x).tick = s.tick := rfl
@[simp] theorem State.counted_setPmPoint (p : Nat) (x : PmPoint) : (s.setPmPoint p x).counted = s.counted := rfl
@[simp] theorem State.running_setPmPoint (p : Nat) (x : PmPoint) : (s.setPmPoint p x).running = s.running := rfl
@[simp] theorem State.fresh_setPmPoint (p : Nat) (x : PmPoint) : (s.setPmPoint p x).fresh = s.fresh := rfl
@[simp] theorem State.reg_setPmPoint (p : Nat) (x : PmPoint) : (s.setPmPoint p x).reg = s.reg := rfl
@[simp] theorem State.act_setPmPoint (p : Nat) (x : PmPoint) : (s.setPmPoint p x).act = s.act := rfl
@[simp] theorem State.shd_setPmPoint (p : Nat) (x : PmPoint) : (s.setPmPoint p x).shd = s.shd := rfl
@[simp] theorem State.defects_setPmPoint (p : Nat) (x : PmPoint) : (s.setPmPoint p x).defects = s.defects := rfl
@[simp] theorem State.agenda_setPmPoint (p : Nat) (x : PmPoint) : (s.setPmPoint p x).agenda = s.agenda := rfl
@[simp] theorem State.load_setPmPoint (p : Nat) (x : PmPoint) : (s.setPmPoint p x).load = s.load := rfl
@[simp] theorem State.autoLoad_setPmPoint (p : Nat) (x : PmPoint) : (s.setPmPoint p x).autoLoad = s.autoLoad := rfl
@[simp] theorem State.changes_setPmPoint (p : Nat) (x : PmPoint) : (s.setPmPoint p x).changes = s.changes := rfl
@[simp] theorem State.stream_setPmPoint (p : Nat) (x : PmPoint) : (s.setPmPoint p x).stream = s.stream := rfl
@[simp] theorem State.lastOverrun_setPmPoint (p : Nat) (x : PmPoint) : (s.setPmPoint p x).lastOverrun = s.lastOverrun := rfl
@[simp] theorem State.overrunEpoch_setPmPoint (p : Nat) (x : PmPoint) : (s.setPmPoint p x).overrunEpoch = s.overrunEpoch := rfl
@[simp] theorem State.overrunAt_setPmPoint (p : Nat) (x : PmPoint) : (s.setPmPoint p x).overrunAt = s.overrunAt := rfl
@[simp] theorem State.closed_setPmPoint (p : Nat) (x : PmPoint) : (s.setPmPoint p x).closed = s.closed := rfl
@[simp] theorem State.pllLatch_setPmPoint (p : Nat) (x : PmPoint) : (s.setPmPoint p x).pllLatch = s.pllLatch := rfl
@[simp] theorem State.bar_setPmPoint (p : Nat) (x : PmPoint) : (s.setPmPoint p x).bar = s.bar := rfl
@[simp] theorem State.sessions_setPmPoint (p : Nat) (x : PmPoint) : (s.setPmPoint p x).sessions = s.sessions := rfl
@[simp] theorem State.authEpoch_setPmPoint (p : Nat) (x : PmPoint) : (s.setPmPoint p x).authEpoch = s.authEpoch := rfl
@[simp] theorem State.owed_setPmPoint (p : Nat) (x : PmPoint) : (s.setPmPoint p x).owed = s.owed := rfl
@[simp] theorem State.resyncs_setPmPoint (p : Nat) (x : PmPoint) : (s.setPmPoint p x).resyncs = s.resyncs := rfl
@[simp] theorem State.evq_setPmPoint (p : Nat) (x : PmPoint) : (s.setPmPoint p x).evq = s.evq := rfl
@[simp] theorem State.eng_setPmPoint (p : Nat) (x : PmPoint) : (s.setPmPoint p x).eng = s.eng := rfl
@[simp] theorem State.bondSpread_setPmPoint (p : Nat) (x : PmPoint) : (s.setPmPoint p x).bondSpread = s.bondSpread := rfl
@[simp] theorem State.gccOut_setPmPoint (p : Nat) (x : PmPoint) : (s.setPmPoint p x).gccOut = s.gccOut := rfl
@[simp] theorem State.gccIn_setPmPoint (p : Nat) (x : PmPoint) : (s.setPmPoint p x).gccIn = s.gccIn := rfl
@[simp] theorem State.gccEpoch_setPmPoint (p : Nat) (x : PmPoint) : (s.setPmPoint p x).gccEpoch = s.gccEpoch := rfl
@[simp] theorem State.ohpSent_setPmPoint (p : Nat) (x : PmPoint) : (s.setPmPoint p x).ohpSent = s.ohpSent := rfl
@[simp] theorem State.clients_setPmPoint (p : Nat) (x : PmPoint) : (s.setPmPoint p x).clients = s.clients := rfl
@[simp] theorem State.cells_setPmPoint (p : Nat) (x : PmPoint) : (s.setPmPoint p x).cells = s.cells := rfl
@[simp] theorem State.timing_setPmPoint (p : Nat) (x : PmPoint) : (s.setPmPoint p x).timing = s.timing := rfl
@[simp] theorem State.prot_setPmPoint (p : Nat) (x : PmPoint) : (s.setPmPoint p x).prot = s.prot := rfl
@[simp] theorem State.sec_setPmPoint (p : Nat) (x : PmPoint) : (s.setPmPoint p x).sec = s.sec := rfl
@[simp] theorem State.prism_setPmPoint (p : Nat) (x : PmPoint) : (s.setPmPoint p x).prism = s.prism := rfl
@[simp] theorem State.shadow_setPmPoint (p : Nat) (x : PmPoint) : (s.setPmPoint p x).shadow = s.shadow := rfl
@[simp] theorem State.instr_setPmPoint (p : Nat) (x : PmPoint) : (s.setPmPoint p x).instr = s.instr := rfl
@[simp] theorem State.ring_setPmPoint (p : Nat) (x : PmPoint) : (s.setPmPoint p x).ring = s.ring := rfl
@[simp] theorem State.stores_setPmPoint (p : Nat) (x : PmPoint) : (s.setPmPoint p x).stores = s.stores := rfl
@[simp] theorem State.inject_setPmPoint (p : Nat) (x : PmPoint) : (s.setPmPoint p x).inject = s.inject := rfl
@[simp] theorem State.power_setPmPoint (p : Nat) (x : PmPoint) : (s.setPmPoint p x).power = s.power := rfl
@[simp] theorem State.mc_setPmPoint (p : Nat) (x : PmPoint) : (s.setPmPoint p x).mc = s.mc := rfl
@[simp] theorem State.obj_setPmPoint (p : Nat) (x : PmPoint) (k' : Key) : (s.setPmPoint p x).obj k' = s.obj k' := rfl
@[simp] theorem State.objInt_setPmPoint (p : Nat) (x : PmPoint) (k' : Key) : (s.setPmPoint p x).objInt k' = s.objInt k' := rfl
@[simp] theorem State.active_setPmPoint (p : Nat) (x : PmPoint) (k' : Key) : (s.setPmPoint p x).active k' = s.active k' := rfl
@[simp] theorem State.shadowed_setPmPoint (p : Nat) (x : PmPoint) (k' : Key) : (s.setPmPoint p x).shadowed k' = s.shadowed k' := rfl
@[simp] theorem State.engine_setPmPoint (p : Nat) (x : PmPoint) (e' : Nat) : (s.setPmPoint p x).engine e' = s.engine e' := rfl
@[simp] theorem State.session_setPmPoint (p : Nat) (x : PmPoint) (j' : Nat) : (s.setPmPoint p x).session j' = s.session j' := rfl
@[simp] theorem State.declared_setPmPoint (p : Nat) (x : PmPoint) (d' i' : Nat) : (s.setPmPoint p x).declared d' i' = s.declared d' i' := rfl
@[simp] theorem State.page_setPmPoint (p : Nat) (x : PmPoint) (g' p' : Nat) : (s.setPmPoint p x).page g' p' = s.page g' p' := rfl
@[simp] theorem State.client_setPmPoint (p : Nat) (x : PmPoint) (l' : Nat) : (s.setPmPoint p x).client l' = s.client l' := rfl
@[simp] theorem State.hk_setPmPoint (p : Nat) (x : PmPoint) (m' : Nat) : (s.setPmPoint p x).hk m' = s.hk m' := rfl
@[simp] theorem State.loupe_setPmPoint (p : Nat) (x : PmPoint)  : (s.setPmPoint p x).loupe  = s.loupe  := rfl
@[simp] theorem State.mm_setPmPoint (p : Nat) (x : PmPoint) (m' : Nat) : (s.setPmPoint p x).mm m' = s.mm m' := rfl
@[simp] theorem State.pgRun_setPmPoint (p : Nat) (x : PmPoint) (g' : Nat) : (s.setPmPoint p x).pgRun g' = s.pgRun g' := rfl
@[simp] theorem State.dom_setPmPoint (p : Nat) (x : PmPoint) (d' : Nat) : (s.setPmPoint p x).dom d' = s.dom d' := rfl
@[simp] theorem State.railRequest_setPmPoint (p : Nat) (x : PmPoint) (r' : Nat) : (s.setPmPoint p x).railRequest r' = s.railRequest r' := rfl
@[simp] theorem State.ref_setPmPoint (p : Nat) (x : PmPoint) (r' : Nat) : (s.setPmPoint p x).ref r' = s.ref r' := rfl
@[simp] theorem State.dpll_setPmPoint (p : Nat) (x : PmPoint) (d' : Nat) : (s.setPmPoint p x).dpll d' = s.dpll d' := rfl
@[simp] theorem State.secChan_setPmPoint (p : Nat) (x : PmPoint) (e' ch' : Nat) : (s.setPmPoint p x).secChan e' ch' = s.secChan e' ch' := rfl
@[simp] theorem State.change_setPmPoint (p : Nat) (x : PmPoint) (e' x' : Nat) : (s.setPmPoint p x).change e' x' = s.change e' x' := rfl

@[simp] theorem State.pending_withDom (d : Nat) (f : DomRun → DomRun) : (s.withDom d f).pending = s.pending := rfl
@[simp] theorem State.now_withDom (d : Nat) (f : DomRun → DomRun) : (s.withDom d f).now = s.now := rfl
@[simp] theorem State.tick_withDom (d : Nat) (f : DomRun → DomRun) : (s.withDom d f).tick = s.tick := rfl
@[simp] theorem State.counted_withDom (d : Nat) (f : DomRun → DomRun) : (s.withDom d f).counted = s.counted := rfl
@[simp] theorem State.running_withDom (d : Nat) (f : DomRun → DomRun) : (s.withDom d f).running = s.running := rfl
@[simp] theorem State.fresh_withDom (d : Nat) (f : DomRun → DomRun) : (s.withDom d f).fresh = s.fresh := rfl
@[simp] theorem State.reg_withDom (d : Nat) (f : DomRun → DomRun) : (s.withDom d f).reg = s.reg := rfl
@[simp] theorem State.act_withDom (d : Nat) (f : DomRun → DomRun) : (s.withDom d f).act = s.act := rfl
@[simp] theorem State.shd_withDom (d : Nat) (f : DomRun → DomRun) : (s.withDom d f).shd = s.shd := rfl
@[simp] theorem State.defects_withDom (d : Nat) (f : DomRun → DomRun) : (s.withDom d f).defects = s.defects := rfl
@[simp] theorem State.agenda_withDom (d : Nat) (f : DomRun → DomRun) : (s.withDom d f).agenda = s.agenda := rfl
@[simp] theorem State.load_withDom (d : Nat) (f : DomRun → DomRun) : (s.withDom d f).load = s.load := rfl
@[simp] theorem State.autoLoad_withDom (d : Nat) (f : DomRun → DomRun) : (s.withDom d f).autoLoad = s.autoLoad := rfl
@[simp] theorem State.changes_withDom (d : Nat) (f : DomRun → DomRun) : (s.withDom d f).changes = s.changes := rfl
@[simp] theorem State.stream_withDom (d : Nat) (f : DomRun → DomRun) : (s.withDom d f).stream = s.stream := rfl
@[simp] theorem State.lastOverrun_withDom (d : Nat) (f : DomRun → DomRun) : (s.withDom d f).lastOverrun = s.lastOverrun := rfl
@[simp] theorem State.overrunEpoch_withDom (d : Nat) (f : DomRun → DomRun) : (s.withDom d f).overrunEpoch = s.overrunEpoch := rfl
@[simp] theorem State.overrunAt_withDom (d : Nat) (f : DomRun → DomRun) : (s.withDom d f).overrunAt = s.overrunAt := rfl
@[simp] theorem State.closed_withDom (d : Nat) (f : DomRun → DomRun) : (s.withDom d f).closed = s.closed := rfl
@[simp] theorem State.pllLatch_withDom (d : Nat) (f : DomRun → DomRun) : (s.withDom d f).pllLatch = s.pllLatch := rfl
@[simp] theorem State.bar_withDom (d : Nat) (f : DomRun → DomRun) : (s.withDom d f).bar = s.bar := rfl
@[simp] theorem State.sessions_withDom (d : Nat) (f : DomRun → DomRun) : (s.withDom d f).sessions = s.sessions := rfl
@[simp] theorem State.authEpoch_withDom (d : Nat) (f : DomRun → DomRun) : (s.withDom d f).authEpoch = s.authEpoch := rfl
@[simp] theorem State.owed_withDom (d : Nat) (f : DomRun → DomRun) : (s.withDom d f).owed = s.owed := rfl
@[simp] theorem State.resyncs_withDom (d : Nat) (f : DomRun → DomRun) : (s.withDom d f).resyncs = s.resyncs := rfl
@[simp] theorem State.evq_withDom (d : Nat) (f : DomRun → DomRun) : (s.withDom d f).evq = s.evq := rfl
@[simp] theorem State.eng_withDom (d : Nat) (f : DomRun → DomRun) : (s.withDom d f).eng = s.eng := rfl
@[simp] theorem State.bondSpread_withDom (d : Nat) (f : DomRun → DomRun) : (s.withDom d f).bondSpread = s.bondSpread := rfl
@[simp] theorem State.gccOut_withDom (d : Nat) (f : DomRun → DomRun) : (s.withDom d f).gccOut = s.gccOut := rfl
@[simp] theorem State.gccIn_withDom (d : Nat) (f : DomRun → DomRun) : (s.withDom d f).gccIn = s.gccIn := rfl
@[simp] theorem State.gccEpoch_withDom (d : Nat) (f : DomRun → DomRun) : (s.withDom d f).gccEpoch = s.gccEpoch := rfl
@[simp] theorem State.ohpSent_withDom (d : Nat) (f : DomRun → DomRun) : (s.withDom d f).ohpSent = s.ohpSent := rfl
@[simp] theorem State.clients_withDom (d : Nat) (f : DomRun → DomRun) : (s.withDom d f).clients = s.clients := rfl
@[simp] theorem State.cells_withDom (d : Nat) (f : DomRun → DomRun) : (s.withDom d f).cells = s.cells := rfl
@[simp] theorem State.timing_withDom (d : Nat) (f : DomRun → DomRun) : (s.withDom d f).timing = s.timing := rfl
@[simp] theorem State.prot_withDom (d : Nat) (f : DomRun → DomRun) : (s.withDom d f).prot = s.prot := rfl
@[simp] theorem State.sec_withDom (d : Nat) (f : DomRun → DomRun) : (s.withDom d f).sec = s.sec := rfl
@[simp] theorem State.prism_withDom (d : Nat) (f : DomRun → DomRun) : (s.withDom d f).prism = s.prism := rfl
@[simp] theorem State.shadow_withDom (d : Nat) (f : DomRun → DomRun) : (s.withDom d f).shadow = s.shadow := rfl
@[simp] theorem State.instr_withDom (d : Nat) (f : DomRun → DomRun) : (s.withDom d f).instr = s.instr := rfl
@[simp] theorem State.pm_withDom (d : Nat) (f : DomRun → DomRun) : (s.withDom d f).pm = s.pm := rfl
@[simp] theorem State.ring_withDom (d : Nat) (f : DomRun → DomRun) : (s.withDom d f).ring = s.ring := rfl
@[simp] theorem State.stores_withDom (d : Nat) (f : DomRun → DomRun) : (s.withDom d f).stores = s.stores := rfl
@[simp] theorem State.inject_withDom (d : Nat) (f : DomRun → DomRun) : (s.withDom d f).inject = s.inject := rfl
@[simp] theorem State.mc_withDom (d : Nat) (f : DomRun → DomRun) : (s.withDom d f).mc = s.mc := rfl
@[simp] theorem State.obj_withDom (d : Nat) (f : DomRun → DomRun) (k' : Key) : (s.withDom d f).obj k' = s.obj k' := rfl
@[simp] theorem State.objInt_withDom (d : Nat) (f : DomRun → DomRun) (k' : Key) : (s.withDom d f).objInt k' = s.objInt k' := rfl
@[simp] theorem State.active_withDom (d : Nat) (f : DomRun → DomRun) (k' : Key) : (s.withDom d f).active k' = s.active k' := rfl
@[simp] theorem State.shadowed_withDom (d : Nat) (f : DomRun → DomRun) (k' : Key) : (s.withDom d f).shadowed k' = s.shadowed k' := rfl
@[simp] theorem State.engine_withDom (d : Nat) (f : DomRun → DomRun) (e' : Nat) : (s.withDom d f).engine e' = s.engine e' := rfl
@[simp] theorem State.session_withDom (d : Nat) (f : DomRun → DomRun) (j' : Nat) : (s.withDom d f).session j' = s.session j' := rfl
@[simp] theorem State.declared_withDom (d : Nat) (f : DomRun → DomRun) (d' i' : Nat) : (s.withDom d f).declared d' i' = s.declared d' i' := rfl
@[simp] theorem State.page_withDom (d : Nat) (f : DomRun → DomRun) (g' p' : Nat) : (s.withDom d f).page g' p' = s.page g' p' := rfl
@[simp] theorem State.client_withDom (d : Nat) (f : DomRun → DomRun) (l' : Nat) : (s.withDom d f).client l' = s.client l' := rfl
@[simp] theorem State.hk_withDom (d : Nat) (f : DomRun → DomRun) (m' : Nat) : (s.withDom d f).hk m' = s.hk m' := rfl
@[simp] theorem State.loupe_withDom (d : Nat) (f : DomRun → DomRun)  : (s.withDom d f).loupe  = s.loupe  := rfl
@[simp] theorem State.mm_withDom (d : Nat) (f : DomRun → DomRun) (m' : Nat) : (s.withDom d f).mm m' = s.mm m' := rfl
@[simp] theorem State.pgRun_withDom (d : Nat) (f : DomRun → DomRun) (g' : Nat) : (s.withDom d f).pgRun g' = s.pgRun g' := rfl
@[simp] theorem State.pmPoint_withDom (d : Nat) (f : DomRun → DomRun) (p' : Nat) : (s.withDom d f).pmPoint p' = s.pmPoint p' := rfl
@[simp] theorem State.ref_withDom (d : Nat) (f : DomRun → DomRun) (r' : Nat) : (s.withDom d f).ref r' = s.ref r' := rfl
@[simp] theorem State.dpll_withDom (d : Nat) (f : DomRun → DomRun) (d' : Nat) : (s.withDom d f).dpll d' = s.dpll d' := rfl
@[simp] theorem State.secChan_withDom (d : Nat) (f : DomRun → DomRun) (e' ch' : Nat) : (s.withDom d f).secChan e' ch' = s.secChan e' ch' := rfl
@[simp] theorem State.change_withDom (d : Nat) (f : DomRun → DomRun) (e' x' : Nat) : (s.withDom d f).change e' x' = s.change e' x' := rfl

@[simp] theorem State.pending_setRequest (r : Nat) (x : Option RailRequest) : (s.setRequest r x).pending = s.pending := rfl
@[simp] theorem State.now_setRequest (r : Nat) (x : Option RailRequest) : (s.setRequest r x).now = s.now := rfl
@[simp] theorem State.tick_setRequest (r : Nat) (x : Option RailRequest) : (s.setRequest r x).tick = s.tick := rfl
@[simp] theorem State.counted_setRequest (r : Nat) (x : Option RailRequest) : (s.setRequest r x).counted = s.counted := rfl
@[simp] theorem State.running_setRequest (r : Nat) (x : Option RailRequest) : (s.setRequest r x).running = s.running := rfl
@[simp] theorem State.fresh_setRequest (r : Nat) (x : Option RailRequest) : (s.setRequest r x).fresh = s.fresh := rfl
@[simp] theorem State.reg_setRequest (r : Nat) (x : Option RailRequest) : (s.setRequest r x).reg = s.reg := rfl
@[simp] theorem State.act_setRequest (r : Nat) (x : Option RailRequest) : (s.setRequest r x).act = s.act := rfl
@[simp] theorem State.shd_setRequest (r : Nat) (x : Option RailRequest) : (s.setRequest r x).shd = s.shd := rfl
@[simp] theorem State.defects_setRequest (r : Nat) (x : Option RailRequest) : (s.setRequest r x).defects = s.defects := rfl
@[simp] theorem State.agenda_setRequest (r : Nat) (x : Option RailRequest) : (s.setRequest r x).agenda = s.agenda := rfl
@[simp] theorem State.load_setRequest (r : Nat) (x : Option RailRequest) : (s.setRequest r x).load = s.load := rfl
@[simp] theorem State.autoLoad_setRequest (r : Nat) (x : Option RailRequest) : (s.setRequest r x).autoLoad = s.autoLoad := rfl
@[simp] theorem State.changes_setRequest (r : Nat) (x : Option RailRequest) : (s.setRequest r x).changes = s.changes := rfl
@[simp] theorem State.stream_setRequest (r : Nat) (x : Option RailRequest) : (s.setRequest r x).stream = s.stream := rfl
@[simp] theorem State.lastOverrun_setRequest (r : Nat) (x : Option RailRequest) : (s.setRequest r x).lastOverrun = s.lastOverrun := rfl
@[simp] theorem State.overrunEpoch_setRequest (r : Nat) (x : Option RailRequest) : (s.setRequest r x).overrunEpoch = s.overrunEpoch := rfl
@[simp] theorem State.overrunAt_setRequest (r : Nat) (x : Option RailRequest) : (s.setRequest r x).overrunAt = s.overrunAt := rfl
@[simp] theorem State.closed_setRequest (r : Nat) (x : Option RailRequest) : (s.setRequest r x).closed = s.closed := rfl
@[simp] theorem State.pllLatch_setRequest (r : Nat) (x : Option RailRequest) : (s.setRequest r x).pllLatch = s.pllLatch := rfl
@[simp] theorem State.bar_setRequest (r : Nat) (x : Option RailRequest) : (s.setRequest r x).bar = s.bar := rfl
@[simp] theorem State.sessions_setRequest (r : Nat) (x : Option RailRequest) : (s.setRequest r x).sessions = s.sessions := rfl
@[simp] theorem State.authEpoch_setRequest (r : Nat) (x : Option RailRequest) : (s.setRequest r x).authEpoch = s.authEpoch := rfl
@[simp] theorem State.owed_setRequest (r : Nat) (x : Option RailRequest) : (s.setRequest r x).owed = s.owed := rfl
@[simp] theorem State.resyncs_setRequest (r : Nat) (x : Option RailRequest) : (s.setRequest r x).resyncs = s.resyncs := rfl
@[simp] theorem State.evq_setRequest (r : Nat) (x : Option RailRequest) : (s.setRequest r x).evq = s.evq := rfl
@[simp] theorem State.eng_setRequest (r : Nat) (x : Option RailRequest) : (s.setRequest r x).eng = s.eng := rfl
@[simp] theorem State.bondSpread_setRequest (r : Nat) (x : Option RailRequest) : (s.setRequest r x).bondSpread = s.bondSpread := rfl
@[simp] theorem State.gccOut_setRequest (r : Nat) (x : Option RailRequest) : (s.setRequest r x).gccOut = s.gccOut := rfl
@[simp] theorem State.gccIn_setRequest (r : Nat) (x : Option RailRequest) : (s.setRequest r x).gccIn = s.gccIn := rfl
@[simp] theorem State.gccEpoch_setRequest (r : Nat) (x : Option RailRequest) : (s.setRequest r x).gccEpoch = s.gccEpoch := rfl
@[simp] theorem State.ohpSent_setRequest (r : Nat) (x : Option RailRequest) : (s.setRequest r x).ohpSent = s.ohpSent := rfl
@[simp] theorem State.clients_setRequest (r : Nat) (x : Option RailRequest) : (s.setRequest r x).clients = s.clients := rfl
@[simp] theorem State.cells_setRequest (r : Nat) (x : Option RailRequest) : (s.setRequest r x).cells = s.cells := rfl
@[simp] theorem State.timing_setRequest (r : Nat) (x : Option RailRequest) : (s.setRequest r x).timing = s.timing := rfl
@[simp] theorem State.prot_setRequest (r : Nat) (x : Option RailRequest) : (s.setRequest r x).prot = s.prot := rfl
@[simp] theorem State.sec_setRequest (r : Nat) (x : Option RailRequest) : (s.setRequest r x).sec = s.sec := rfl
@[simp] theorem State.prism_setRequest (r : Nat) (x : Option RailRequest) : (s.setRequest r x).prism = s.prism := rfl
@[simp] theorem State.shadow_setRequest (r : Nat) (x : Option RailRequest) : (s.setRequest r x).shadow = s.shadow := rfl
@[simp] theorem State.instr_setRequest (r : Nat) (x : Option RailRequest) : (s.setRequest r x).instr = s.instr := rfl
@[simp] theorem State.pm_setRequest (r : Nat) (x : Option RailRequest) : (s.setRequest r x).pm = s.pm := rfl
@[simp] theorem State.ring_setRequest (r : Nat) (x : Option RailRequest) : (s.setRequest r x).ring = s.ring := rfl
@[simp] theorem State.stores_setRequest (r : Nat) (x : Option RailRequest) : (s.setRequest r x).stores = s.stores := rfl
@[simp] theorem State.inject_setRequest (r : Nat) (x : Option RailRequest) : (s.setRequest r x).inject = s.inject := rfl
@[simp] theorem State.mc_setRequest (r : Nat) (x : Option RailRequest) : (s.setRequest r x).mc = s.mc := rfl
@[simp] theorem State.obj_setRequest (r : Nat) (x : Option RailRequest) (k' : Key) : (s.setRequest r x).obj k' = s.obj k' := rfl
@[simp] theorem State.objInt_setRequest (r : Nat) (x : Option RailRequest) (k' : Key) : (s.setRequest r x).objInt k' = s.objInt k' := rfl
@[simp] theorem State.active_setRequest (r : Nat) (x : Option RailRequest) (k' : Key) : (s.setRequest r x).active k' = s.active k' := rfl
@[simp] theorem State.shadowed_setRequest (r : Nat) (x : Option RailRequest) (k' : Key) : (s.setRequest r x).shadowed k' = s.shadowed k' := rfl
@[simp] theorem State.engine_setRequest (r : Nat) (x : Option RailRequest) (e' : Nat) : (s.setRequest r x).engine e' = s.engine e' := rfl
@[simp] theorem State.session_setRequest (r : Nat) (x : Option RailRequest) (j' : Nat) : (s.setRequest r x).session j' = s.session j' := rfl
@[simp] theorem State.declared_setRequest (r : Nat) (x : Option RailRequest) (d' i' : Nat) : (s.setRequest r x).declared d' i' = s.declared d' i' := rfl
@[simp] theorem State.page_setRequest (r : Nat) (x : Option RailRequest) (g' p' : Nat) : (s.setRequest r x).page g' p' = s.page g' p' := rfl
@[simp] theorem State.client_setRequest (r : Nat) (x : Option RailRequest) (l' : Nat) : (s.setRequest r x).client l' = s.client l' := rfl
@[simp] theorem State.hk_setRequest (r : Nat) (x : Option RailRequest) (m' : Nat) : (s.setRequest r x).hk m' = s.hk m' := rfl
@[simp] theorem State.loupe_setRequest (r : Nat) (x : Option RailRequest)  : (s.setRequest r x).loupe  = s.loupe  := rfl
@[simp] theorem State.mm_setRequest (r : Nat) (x : Option RailRequest) (m' : Nat) : (s.setRequest r x).mm m' = s.mm m' := rfl
@[simp] theorem State.pgRun_setRequest (r : Nat) (x : Option RailRequest) (g' : Nat) : (s.setRequest r x).pgRun g' = s.pgRun g' := rfl
@[simp] theorem State.pmPoint_setRequest (r : Nat) (x : Option RailRequest) (p' : Nat) : (s.setRequest r x).pmPoint p' = s.pmPoint p' := rfl
@[simp] theorem State.ref_setRequest (r : Nat) (x : Option RailRequest) (r' : Nat) : (s.setRequest r x).ref r' = s.ref r' := rfl
@[simp] theorem State.dpll_setRequest (r : Nat) (x : Option RailRequest) (d' : Nat) : (s.setRequest r x).dpll d' = s.dpll d' := rfl
@[simp] theorem State.secChan_setRequest (r : Nat) (x : Option RailRequest) (e' ch' : Nat) : (s.setRequest r x).secChan e' ch' = s.secChan e' ch' := rfl
@[simp] theorem State.change_setRequest (r : Nat) (x : Option RailRequest) (e' x' : Nat) : (s.setRequest r x).change e' x' = s.change e' x' := rfl

@[simp] theorem State.pending_setFailed (r : Nat) (x : Option RailRequest) : (s.setFailed r x).pending = s.pending := rfl
@[simp] theorem State.now_setFailed (r : Nat) (x : Option RailRequest) : (s.setFailed r x).now = s.now := rfl
@[simp] theorem State.tick_setFailed (r : Nat) (x : Option RailRequest) : (s.setFailed r x).tick = s.tick := rfl
@[simp] theorem State.counted_setFailed (r : Nat) (x : Option RailRequest) : (s.setFailed r x).counted = s.counted := rfl
@[simp] theorem State.running_setFailed (r : Nat) (x : Option RailRequest) : (s.setFailed r x).running = s.running := rfl
@[simp] theorem State.fresh_setFailed (r : Nat) (x : Option RailRequest) : (s.setFailed r x).fresh = s.fresh := rfl
@[simp] theorem State.reg_setFailed (r : Nat) (x : Option RailRequest) : (s.setFailed r x).reg = s.reg := rfl
@[simp] theorem State.act_setFailed (r : Nat) (x : Option RailRequest) : (s.setFailed r x).act = s.act := rfl
@[simp] theorem State.shd_setFailed (r : Nat) (x : Option RailRequest) : (s.setFailed r x).shd = s.shd := rfl
@[simp] theorem State.defects_setFailed (r : Nat) (x : Option RailRequest) : (s.setFailed r x).defects = s.defects := rfl
@[simp] theorem State.agenda_setFailed (r : Nat) (x : Option RailRequest) : (s.setFailed r x).agenda = s.agenda := rfl
@[simp] theorem State.load_setFailed (r : Nat) (x : Option RailRequest) : (s.setFailed r x).load = s.load := rfl
@[simp] theorem State.autoLoad_setFailed (r : Nat) (x : Option RailRequest) : (s.setFailed r x).autoLoad = s.autoLoad := rfl
@[simp] theorem State.changes_setFailed (r : Nat) (x : Option RailRequest) : (s.setFailed r x).changes = s.changes := rfl
@[simp] theorem State.stream_setFailed (r : Nat) (x : Option RailRequest) : (s.setFailed r x).stream = s.stream := rfl
@[simp] theorem State.lastOverrun_setFailed (r : Nat) (x : Option RailRequest) : (s.setFailed r x).lastOverrun = s.lastOverrun := rfl
@[simp] theorem State.overrunEpoch_setFailed (r : Nat) (x : Option RailRequest) : (s.setFailed r x).overrunEpoch = s.overrunEpoch := rfl
@[simp] theorem State.overrunAt_setFailed (r : Nat) (x : Option RailRequest) : (s.setFailed r x).overrunAt = s.overrunAt := rfl
@[simp] theorem State.closed_setFailed (r : Nat) (x : Option RailRequest) : (s.setFailed r x).closed = s.closed := rfl
@[simp] theorem State.pllLatch_setFailed (r : Nat) (x : Option RailRequest) : (s.setFailed r x).pllLatch = s.pllLatch := rfl
@[simp] theorem State.bar_setFailed (r : Nat) (x : Option RailRequest) : (s.setFailed r x).bar = s.bar := rfl
@[simp] theorem State.sessions_setFailed (r : Nat) (x : Option RailRequest) : (s.setFailed r x).sessions = s.sessions := rfl
@[simp] theorem State.authEpoch_setFailed (r : Nat) (x : Option RailRequest) : (s.setFailed r x).authEpoch = s.authEpoch := rfl
@[simp] theorem State.owed_setFailed (r : Nat) (x : Option RailRequest) : (s.setFailed r x).owed = s.owed := rfl
@[simp] theorem State.resyncs_setFailed (r : Nat) (x : Option RailRequest) : (s.setFailed r x).resyncs = s.resyncs := rfl
@[simp] theorem State.evq_setFailed (r : Nat) (x : Option RailRequest) : (s.setFailed r x).evq = s.evq := rfl
@[simp] theorem State.eng_setFailed (r : Nat) (x : Option RailRequest) : (s.setFailed r x).eng = s.eng := rfl
@[simp] theorem State.bondSpread_setFailed (r : Nat) (x : Option RailRequest) : (s.setFailed r x).bondSpread = s.bondSpread := rfl
@[simp] theorem State.gccOut_setFailed (r : Nat) (x : Option RailRequest) : (s.setFailed r x).gccOut = s.gccOut := rfl
@[simp] theorem State.gccIn_setFailed (r : Nat) (x : Option RailRequest) : (s.setFailed r x).gccIn = s.gccIn := rfl
@[simp] theorem State.gccEpoch_setFailed (r : Nat) (x : Option RailRequest) : (s.setFailed r x).gccEpoch = s.gccEpoch := rfl
@[simp] theorem State.ohpSent_setFailed (r : Nat) (x : Option RailRequest) : (s.setFailed r x).ohpSent = s.ohpSent := rfl
@[simp] theorem State.clients_setFailed (r : Nat) (x : Option RailRequest) : (s.setFailed r x).clients = s.clients := rfl
@[simp] theorem State.cells_setFailed (r : Nat) (x : Option RailRequest) : (s.setFailed r x).cells = s.cells := rfl
@[simp] theorem State.timing_setFailed (r : Nat) (x : Option RailRequest) : (s.setFailed r x).timing = s.timing := rfl
@[simp] theorem State.prot_setFailed (r : Nat) (x : Option RailRequest) : (s.setFailed r x).prot = s.prot := rfl
@[simp] theorem State.sec_setFailed (r : Nat) (x : Option RailRequest) : (s.setFailed r x).sec = s.sec := rfl
@[simp] theorem State.prism_setFailed (r : Nat) (x : Option RailRequest) : (s.setFailed r x).prism = s.prism := rfl
@[simp] theorem State.shadow_setFailed (r : Nat) (x : Option RailRequest) : (s.setFailed r x).shadow = s.shadow := rfl
@[simp] theorem State.instr_setFailed (r : Nat) (x : Option RailRequest) : (s.setFailed r x).instr = s.instr := rfl
@[simp] theorem State.pm_setFailed (r : Nat) (x : Option RailRequest) : (s.setFailed r x).pm = s.pm := rfl
@[simp] theorem State.ring_setFailed (r : Nat) (x : Option RailRequest) : (s.setFailed r x).ring = s.ring := rfl
@[simp] theorem State.stores_setFailed (r : Nat) (x : Option RailRequest) : (s.setFailed r x).stores = s.stores := rfl
@[simp] theorem State.inject_setFailed (r : Nat) (x : Option RailRequest) : (s.setFailed r x).inject = s.inject := rfl
@[simp] theorem State.mc_setFailed (r : Nat) (x : Option RailRequest) : (s.setFailed r x).mc = s.mc := rfl
@[simp] theorem State.obj_setFailed (r : Nat) (x : Option RailRequest) (k' : Key) : (s.setFailed r x).obj k' = s.obj k' := rfl
@[simp] theorem State.objInt_setFailed (r : Nat) (x : Option RailRequest) (k' : Key) : (s.setFailed r x).objInt k' = s.objInt k' := rfl
@[simp] theorem State.active_setFailed (r : Nat) (x : Option RailRequest) (k' : Key) : (s.setFailed r x).active k' = s.active k' := rfl
@[simp] theorem State.shadowed_setFailed (r : Nat) (x : Option RailRequest) (k' : Key) : (s.setFailed r x).shadowed k' = s.shadowed k' := rfl
@[simp] theorem State.engine_setFailed (r : Nat) (x : Option RailRequest) (e' : Nat) : (s.setFailed r x).engine e' = s.engine e' := rfl
@[simp] theorem State.session_setFailed (r : Nat) (x : Option RailRequest) (j' : Nat) : (s.setFailed r x).session j' = s.session j' := rfl
@[simp] theorem State.declared_setFailed (r : Nat) (x : Option RailRequest) (d' i' : Nat) : (s.setFailed r x).declared d' i' = s.declared d' i' := rfl
@[simp] theorem State.page_setFailed (r : Nat) (x : Option RailRequest) (g' p' : Nat) : (s.setFailed r x).page g' p' = s.page g' p' := rfl
@[simp] theorem State.client_setFailed (r : Nat) (x : Option RailRequest) (l' : Nat) : (s.setFailed r x).client l' = s.client l' := rfl
@[simp] theorem State.hk_setFailed (r : Nat) (x : Option RailRequest) (m' : Nat) : (s.setFailed r x).hk m' = s.hk m' := rfl
@[simp] theorem State.loupe_setFailed (r : Nat) (x : Option RailRequest)  : (s.setFailed r x).loupe  = s.loupe  := rfl
@[simp] theorem State.mm_setFailed (r : Nat) (x : Option RailRequest) (m' : Nat) : (s.setFailed r x).mm m' = s.mm m' := rfl
@[simp] theorem State.pgRun_setFailed (r : Nat) (x : Option RailRequest) (g' : Nat) : (s.setFailed r x).pgRun g' = s.pgRun g' := rfl
@[simp] theorem State.pmPoint_setFailed (r : Nat) (x : Option RailRequest) (p' : Nat) : (s.setFailed r x).pmPoint p' = s.pmPoint p' := rfl
@[simp] theorem State.ref_setFailed (r : Nat) (x : Option RailRequest) (r' : Nat) : (s.setFailed r x).ref r' = s.ref r' := rfl
@[simp] theorem State.dpll_setFailed (r : Nat) (x : Option RailRequest) (d' : Nat) : (s.setFailed r x).dpll d' = s.dpll d' := rfl
@[simp] theorem State.secChan_setFailed (r : Nat) (x : Option RailRequest) (e' ch' : Nat) : (s.setFailed r x).secChan e' ch' = s.secChan e' ch' := rfl
@[simp] theorem State.change_setFailed (r : Nat) (x : Option RailRequest) (e' x' : Nat) : (s.setFailed r x).change e' x' = s.change e' x' := rfl

@[simp] theorem State.pending_setChange (e x : Nat) (c : LineChange) : (s.setChange e x c).pending = s.pending := rfl
@[simp] theorem State.now_setChange (e x : Nat) (c : LineChange) : (s.setChange e x c).now = s.now := rfl
@[simp] theorem State.tick_setChange (e x : Nat) (c : LineChange) : (s.setChange e x c).tick = s.tick := rfl
@[simp] theorem State.counted_setChange (e x : Nat) (c : LineChange) : (s.setChange e x c).counted = s.counted := rfl
@[simp] theorem State.running_setChange (e x : Nat) (c : LineChange) : (s.setChange e x c).running = s.running := rfl
@[simp] theorem State.fresh_setChange (e x : Nat) (c : LineChange) : (s.setChange e x c).fresh = s.fresh := rfl
@[simp] theorem State.reg_setChange (e x : Nat) (c : LineChange) : (s.setChange e x c).reg = s.reg := rfl
@[simp] theorem State.act_setChange (e x : Nat) (c : LineChange) : (s.setChange e x c).act = s.act := rfl
@[simp] theorem State.shd_setChange (e x : Nat) (c : LineChange) : (s.setChange e x c).shd = s.shd := rfl
@[simp] theorem State.defects_setChange (e x : Nat) (c : LineChange) : (s.setChange e x c).defects = s.defects := rfl
@[simp] theorem State.agenda_setChange (e x : Nat) (c : LineChange) : (s.setChange e x c).agenda = s.agenda := rfl
@[simp] theorem State.load_setChange (e x : Nat) (c : LineChange) : (s.setChange e x c).load = s.load := rfl
@[simp] theorem State.autoLoad_setChange (e x : Nat) (c : LineChange) : (s.setChange e x c).autoLoad = s.autoLoad := rfl
@[simp] theorem State.changes_setChange (e x : Nat) (c : LineChange) : (s.setChange e x c).changes = s.changes := rfl
@[simp] theorem State.stream_setChange (e x : Nat) (c : LineChange) : (s.setChange e x c).stream = s.stream := rfl
@[simp] theorem State.lastOverrun_setChange (e x : Nat) (c : LineChange) : (s.setChange e x c).lastOverrun = s.lastOverrun := rfl
@[simp] theorem State.overrunEpoch_setChange (e x : Nat) (c : LineChange) : (s.setChange e x c).overrunEpoch = s.overrunEpoch := rfl
@[simp] theorem State.overrunAt_setChange (e x : Nat) (c : LineChange) : (s.setChange e x c).overrunAt = s.overrunAt := rfl
@[simp] theorem State.closed_setChange (e x : Nat) (c : LineChange) : (s.setChange e x c).closed = s.closed := rfl
@[simp] theorem State.pllLatch_setChange (e x : Nat) (c : LineChange) : (s.setChange e x c).pllLatch = s.pllLatch := rfl
@[simp] theorem State.bar_setChange (e x : Nat) (c : LineChange) : (s.setChange e x c).bar = s.bar := rfl
@[simp] theorem State.sessions_setChange (e x : Nat) (c : LineChange) : (s.setChange e x c).sessions = s.sessions := rfl
@[simp] theorem State.authEpoch_setChange (e x : Nat) (c : LineChange) : (s.setChange e x c).authEpoch = s.authEpoch := rfl
@[simp] theorem State.owed_setChange (e x : Nat) (c : LineChange) : (s.setChange e x c).owed = s.owed := rfl
@[simp] theorem State.resyncs_setChange (e x : Nat) (c : LineChange) : (s.setChange e x c).resyncs = s.resyncs := rfl
@[simp] theorem State.evq_setChange (e x : Nat) (c : LineChange) : (s.setChange e x c).evq = s.evq := rfl
@[simp] theorem State.eng_setChange (e x : Nat) (c : LineChange) : (s.setChange e x c).eng = s.eng := rfl
@[simp] theorem State.bondSpread_setChange (e x : Nat) (c : LineChange) : (s.setChange e x c).bondSpread = s.bondSpread := rfl
@[simp] theorem State.gccOut_setChange (e x : Nat) (c : LineChange) : (s.setChange e x c).gccOut = s.gccOut := rfl
@[simp] theorem State.gccIn_setChange (e x : Nat) (c : LineChange) : (s.setChange e x c).gccIn = s.gccIn := rfl
@[simp] theorem State.gccEpoch_setChange (e x : Nat) (c : LineChange) : (s.setChange e x c).gccEpoch = s.gccEpoch := rfl
@[simp] theorem State.ohpSent_setChange (e x : Nat) (c : LineChange) : (s.setChange e x c).ohpSent = s.ohpSent := rfl
@[simp] theorem State.clients_setChange (e x : Nat) (c : LineChange) : (s.setChange e x c).clients = s.clients := rfl
@[simp] theorem State.cells_setChange (e x : Nat) (c : LineChange) : (s.setChange e x c).cells = s.cells := rfl
@[simp] theorem State.timing_setChange (e x : Nat) (c : LineChange) : (s.setChange e x c).timing = s.timing := rfl
@[simp] theorem State.prot_setChange (e x : Nat) (c : LineChange) : (s.setChange e x c).prot = s.prot := rfl
@[simp] theorem State.sec_setChange (e x : Nat) (c : LineChange) : (s.setChange e x c).sec = s.sec := rfl
@[simp] theorem State.prism_setChange (e x : Nat) (c : LineChange) : (s.setChange e x c).prism = s.prism := rfl
@[simp] theorem State.instr_setChange (e x : Nat) (c : LineChange) : (s.setChange e x c).instr = s.instr := rfl
@[simp] theorem State.pm_setChange (e x : Nat) (c : LineChange) : (s.setChange e x c).pm = s.pm := rfl
@[simp] theorem State.ring_setChange (e x : Nat) (c : LineChange) : (s.setChange e x c).ring = s.ring := rfl
@[simp] theorem State.stores_setChange (e x : Nat) (c : LineChange) : (s.setChange e x c).stores = s.stores := rfl
@[simp] theorem State.inject_setChange (e x : Nat) (c : LineChange) : (s.setChange e x c).inject = s.inject := rfl
@[simp] theorem State.power_setChange (e x : Nat) (c : LineChange) : (s.setChange e x c).power = s.power := rfl
@[simp] theorem State.mc_setChange (e x : Nat) (c : LineChange) : (s.setChange e x c).mc = s.mc := rfl
@[simp] theorem State.obj_setChange (e x : Nat) (c : LineChange) (k' : Key) : (s.setChange e x c).obj k' = s.obj k' := rfl
@[simp] theorem State.objInt_setChange (e x : Nat) (c : LineChange) (k' : Key) : (s.setChange e x c).objInt k' = s.objInt k' := rfl
@[simp] theorem State.active_setChange (e x : Nat) (c : LineChange) (k' : Key) : (s.setChange e x c).active k' = s.active k' := rfl
@[simp] theorem State.shadowed_setChange (e x : Nat) (c : LineChange) (k' : Key) : (s.setChange e x c).shadowed k' = s.shadowed k' := rfl
@[simp] theorem State.engine_setChange (e x : Nat) (c : LineChange) (e' : Nat) : (s.setChange e x c).engine e' = s.engine e' := rfl
@[simp] theorem State.session_setChange (e x : Nat) (c : LineChange) (j' : Nat) : (s.setChange e x c).session j' = s.session j' := rfl
@[simp] theorem State.declared_setChange (e x : Nat) (c : LineChange) (d' i' : Nat) : (s.setChange e x c).declared d' i' = s.declared d' i' := rfl
@[simp] theorem State.page_setChange (e x : Nat) (c : LineChange) (g' p' : Nat) : (s.setChange e x c).page g' p' = s.page g' p' := rfl
@[simp] theorem State.client_setChange (e x : Nat) (c : LineChange) (l' : Nat) : (s.setChange e x c).client l' = s.client l' := rfl
@[simp] theorem State.hk_setChange (e x : Nat) (c : LineChange) (m' : Nat) : (s.setChange e x c).hk m' = s.hk m' := rfl
@[simp] theorem State.loupe_setChange (e x : Nat) (c : LineChange)  : (s.setChange e x c).loupe  = s.loupe  := rfl
@[simp] theorem State.mm_setChange (e x : Nat) (c : LineChange) (m' : Nat) : (s.setChange e x c).mm m' = s.mm m' := rfl
@[simp] theorem State.pgRun_setChange (e x : Nat) (c : LineChange) (g' : Nat) : (s.setChange e x c).pgRun g' = s.pgRun g' := rfl
@[simp] theorem State.pmPoint_setChange (e x : Nat) (c : LineChange) (p' : Nat) : (s.setChange e x c).pmPoint p' = s.pmPoint p' := rfl
@[simp] theorem State.dom_setChange (e x : Nat) (c : LineChange) (d' : Nat) : (s.setChange e x c).dom d' = s.dom d' := rfl
@[simp] theorem State.railRequest_setChange (e x : Nat) (c : LineChange) (r' : Nat) : (s.setChange e x c).railRequest r' = s.railRequest r' := rfl
@[simp] theorem State.ref_setChange (e x : Nat) (c : LineChange) (r' : Nat) : (s.setChange e x c).ref r' = s.ref r' := rfl
@[simp] theorem State.dpll_setChange (e x : Nat) (c : LineChange) (d' : Nat) : (s.setChange e x c).dpll d' = s.dpll d' := rfl
@[simp] theorem State.secChan_setChange (e x : Nat) (c : LineChange) (e' ch' : Nat) : (s.setChange e x c).secChan e' ch' = s.secChan e' ch' := rfl

@[simp] theorem State.client_setObj (k : Key) (v : Nat) (l' : Nat) : (s.setObj k v).client l' = s.client l' := rfl
@[simp] theorem State.hk_setObj (k : Key) (v : Nat) (m' : Nat) : (s.setObj k v).hk m' = s.hk m' := rfl
@[simp] theorem State.loupe_setObj (k : Key) (v : Nat)  : (s.setObj k v).loupe  = s.loupe  := rfl
@[simp] theorem State.mm_setObj (k : Key) (v : Nat) (m' : Nat) : (s.setObj k v).mm m' = s.mm m' := rfl
@[simp] theorem State.pgRun_setObj (k : Key) (v : Nat) (g' : Nat) : (s.setObj k v).pgRun g' = s.pgRun g' := rfl
@[simp] theorem State.pmPoint_setObj (k : Key) (v : Nat) (p' : Nat) : (s.setObj k v).pmPoint p' = s.pmPoint p' := rfl
@[simp] theorem State.dom_setObj (k : Key) (v : Nat) (d' : Nat) : (s.setObj k v).dom d' = s.dom d' := rfl
@[simp] theorem State.railRequest_setObj (k : Key) (v : Nat) (r' : Nat) : (s.setObj k v).railRequest r' = s.railRequest r' := rfl
@[simp] theorem State.ref_setObj (k : Key) (v : Nat) (r' : Nat) : (s.setObj k v).ref r' = s.ref r' := rfl
@[simp] theorem State.dpll_setObj (k : Key) (v : Nat) (d' : Nat) : (s.setObj k v).dpll d' = s.dpll d' := rfl
@[simp] theorem State.secChan_setObj (k : Key) (v : Nat) (e' ch' : Nat) : (s.setObj k v).secChan e' ch' = s.secChan e' ch' := rfl
@[simp] theorem State.change_setObj (k : Key) (v : Nat) (e' x' : Nat) : (s.setObj k v).change e' x' = s.change e' x' := rfl
@[simp] theorem State.client_setInt (k : Key) (z : Int) (l' : Nat) : (s.setInt k z).client l' = s.client l' := rfl
@[simp] theorem State.hk_setInt (k : Key) (z : Int) (m' : Nat) : (s.setInt k z).hk m' = s.hk m' := rfl
@[simp] theorem State.loupe_setInt (k : Key) (z : Int)  : (s.setInt k z).loupe  = s.loupe  := rfl
@[simp] theorem State.mm_setInt (k : Key) (z : Int) (m' : Nat) : (s.setInt k z).mm m' = s.mm m' := rfl
@[simp] theorem State.pgRun_setInt (k : Key) (z : Int) (g' : Nat) : (s.setInt k z).pgRun g' = s.pgRun g' := rfl
@[simp] theorem State.pmPoint_setInt (k : Key) (z : Int) (p' : Nat) : (s.setInt k z).pmPoint p' = s.pmPoint p' := rfl
@[simp] theorem State.dom_setInt (k : Key) (z : Int) (d' : Nat) : (s.setInt k z).dom d' = s.dom d' := rfl
@[simp] theorem State.railRequest_setInt (k : Key) (z : Int) (r' : Nat) : (s.setInt k z).railRequest r' = s.railRequest r' := rfl
@[simp] theorem State.ref_setInt (k : Key) (z : Int) (r' : Nat) : (s.setInt k z).ref r' = s.ref r' := rfl
@[simp] theorem State.dpll_setInt (k : Key) (z : Int) (d' : Nat) : (s.setInt k z).dpll d' = s.dpll d' := rfl
@[simp] theorem State.secChan_setInt (k : Key) (z : Int) (e' ch' : Nat) : (s.setInt k z).secChan e' ch' = s.secChan e' ch' := rfl
@[simp] theorem State.change_setInt (k : Key) (z : Int) (e' x' : Nat) : (s.setInt k z).change e' x' = s.change e' x' := rfl
@[simp] theorem State.client_bump (k : Key) (n : Nat) (l' : Nat) : (s.bump k n).client l' = s.client l' := rfl
@[simp] theorem State.hk_bump (k : Key) (n : Nat) (m' : Nat) : (s.bump k n).hk m' = s.hk m' := rfl
@[simp] theorem State.loupe_bump (k : Key) (n : Nat)  : (s.bump k n).loupe  = s.loupe  := rfl
@[simp] theorem State.mm_bump (k : Key) (n : Nat) (m' : Nat) : (s.bump k n).mm m' = s.mm m' := rfl
@[simp] theorem State.pgRun_bump (k : Key) (n : Nat) (g' : Nat) : (s.bump k n).pgRun g' = s.pgRun g' := rfl
@[simp] theorem State.pmPoint_bump (k : Key) (n : Nat) (p' : Nat) : (s.bump k n).pmPoint p' = s.pmPoint p' := rfl
@[simp] theorem State.dom_bump (k : Key) (n : Nat) (d' : Nat) : (s.bump k n).dom d' = s.dom d' := rfl
@[simp] theorem State.railRequest_bump (k : Key) (n : Nat) (r' : Nat) : (s.bump k n).railRequest r' = s.railRequest r' := rfl
@[simp] theorem State.ref_bump (k : Key) (n : Nat) (r' : Nat) : (s.bump k n).ref r' = s.ref r' := rfl
@[simp] theorem State.dpll_bump (k : Key) (n : Nat) (d' : Nat) : (s.bump k n).dpll d' = s.dpll d' := rfl
@[simp] theorem State.secChan_bump (k : Key) (n : Nat) (e' ch' : Nat) : (s.bump k n).secChan e' ch' = s.secChan e' ch' := rfl
@[simp] theorem State.change_bump (k : Key) (n : Nat) (e' x' : Nat) : (s.bump k n).change e' x' = s.change e' x' := rfl
@[simp] theorem State.client_raise (ev : EvRow) (xs : List Nat) (l' : Nat) : (s.raise ev xs).client l' = s.client l' := rfl
@[simp] theorem State.hk_raise (ev : EvRow) (xs : List Nat) (m' : Nat) : (s.raise ev xs).hk m' = s.hk m' := rfl
@[simp] theorem State.loupe_raise (ev : EvRow) (xs : List Nat)  : (s.raise ev xs).loupe  = s.loupe  := rfl
@[simp] theorem State.mm_raise (ev : EvRow) (xs : List Nat) (m' : Nat) : (s.raise ev xs).mm m' = s.mm m' := rfl
@[simp] theorem State.pgRun_raise (ev : EvRow) (xs : List Nat) (g' : Nat) : (s.raise ev xs).pgRun g' = s.pgRun g' := rfl
@[simp] theorem State.pmPoint_raise (ev : EvRow) (xs : List Nat) (p' : Nat) : (s.raise ev xs).pmPoint p' = s.pmPoint p' := rfl
@[simp] theorem State.dom_raise (ev : EvRow) (xs : List Nat) (d' : Nat) : (s.raise ev xs).dom d' = s.dom d' := rfl
@[simp] theorem State.railRequest_raise (ev : EvRow) (xs : List Nat) (r' : Nat) : (s.raise ev xs).railRequest r' = s.railRequest r' := rfl
@[simp] theorem State.ref_raise (ev : EvRow) (xs : List Nat) (r' : Nat) : (s.raise ev xs).ref r' = s.ref r' := rfl
@[simp] theorem State.dpll_raise (ev : EvRow) (xs : List Nat) (d' : Nat) : (s.raise ev xs).dpll d' = s.dpll d' := rfl
@[simp] theorem State.secChan_raise (ev : EvRow) (xs : List Nat) (e' ch' : Nat) : (s.raise ev xs).secChan e' ch' = s.secChan e' ch' := rfl
@[simp] theorem State.change_raise (ev : EvRow) (xs : List Nat) (e' x' : Nat) : (s.raise ev xs).change e' x' = s.change e' x' := rfl
@[simp] theorem State.client_declare (d i : Nat) (l' : Nat) : (s.declare d i).client l' = s.client l' := by unfold State.declare; split <;> rfl
@[simp] theorem State.hk_declare (d i : Nat) (m' : Nat) : (s.declare d i).hk m' = s.hk m' := by unfold State.declare; split <;> rfl
@[simp] theorem State.loupe_declare (d i : Nat)  : (s.declare d i).loupe  = s.loupe  := by unfold State.declare; split <;> rfl
@[simp] theorem State.mm_declare (d i : Nat) (m' : Nat) : (s.declare d i).mm m' = s.mm m' := by unfold State.declare; split <;> rfl
@[simp] theorem State.pgRun_declare (d i : Nat) (g' : Nat) : (s.declare d i).pgRun g' = s.pgRun g' := by unfold State.declare; split <;> rfl
@[simp] theorem State.pmPoint_declare (d i : Nat) (p' : Nat) : (s.declare d i).pmPoint p' = s.pmPoint p' := by unfold State.declare; split <;> rfl
@[simp] theorem State.dom_declare (d i : Nat) (d' : Nat) : (s.declare d i).dom d' = s.dom d' := by unfold State.declare; split <;> rfl
@[simp] theorem State.railRequest_declare (d i : Nat) (r' : Nat) : (s.declare d i).railRequest r' = s.railRequest r' := by unfold State.declare; split <;> rfl
@[simp] theorem State.ref_declare (d i : Nat) (r' : Nat) : (s.declare d i).ref r' = s.ref r' := by unfold State.declare; split <;> rfl
@[simp] theorem State.dpll_declare (d i : Nat) (d' : Nat) : (s.declare d i).dpll d' = s.dpll d' := by unfold State.declare; split <;> rfl
@[simp] theorem State.secChan_declare (d i : Nat) (e' ch' : Nat) : (s.declare d i).secChan e' ch' = s.secChan e' ch' := by unfold State.declare; split <;> rfl
@[simp] theorem State.change_declare (d i : Nat) (e' x' : Nat) : (s.declare d i).change e' x' = s.change e' x' := by unfold State.declare; split <;> rfl
@[simp] theorem State.client_clear (d i : Nat) (l' : Nat) : (s.clear d i).client l' = s.client l' := by unfold State.clear; split <;> rfl
@[simp] theorem State.hk_clear (d i : Nat) (m' : Nat) : (s.clear d i).hk m' = s.hk m' := by unfold State.clear; split <;> rfl
@[simp] theorem State.loupe_clear (d i : Nat)  : (s.clear d i).loupe  = s.loupe  := by unfold State.clear; split <;> rfl
@[simp] theorem State.mm_clear (d i : Nat) (m' : Nat) : (s.clear d i).mm m' = s.mm m' := by unfold State.clear; split <;> rfl
@[simp] theorem State.pgRun_clear (d i : Nat) (g' : Nat) : (s.clear d i).pgRun g' = s.pgRun g' := by unfold State.clear; split <;> rfl
@[simp] theorem State.pmPoint_clear (d i : Nat) (p' : Nat) : (s.clear d i).pmPoint p' = s.pmPoint p' := by unfold State.clear; split <;> rfl
@[simp] theorem State.dom_clear (d i : Nat) (d' : Nat) : (s.clear d i).dom d' = s.dom d' := by unfold State.clear; split <;> rfl
@[simp] theorem State.railRequest_clear (d i : Nat) (r' : Nat) : (s.clear d i).railRequest r' = s.railRequest r' := by unfold State.clear; split <;> rfl
@[simp] theorem State.ref_clear (d i : Nat) (r' : Nat) : (s.clear d i).ref r' = s.ref r' := by unfold State.clear; split <;> rfl
@[simp] theorem State.dpll_clear (d i : Nat) (d' : Nat) : (s.clear d i).dpll d' = s.dpll d' := by unfold State.clear; split <;> rfl
@[simp] theorem State.secChan_clear (d i : Nat) (e' ch' : Nat) : (s.clear d i).secChan e' ch' = s.secChan e' ch' := by unfold State.clear; split <;> rfl
@[simp] theorem State.change_clear (d i : Nat) (e' x' : Nat) : (s.clear d i).change e' x' = s.change e' x' := by unfold State.clear; split <;> rfl
@[simp] theorem State.client_setEngine (e : Nat) (r : Engine) (l' : Nat) : (s.setEngine e r).client l' = s.client l' := rfl
@[simp] theorem State.hk_setEngine (e : Nat) (r : Engine) (m' : Nat) : (s.setEngine e r).hk m' = s.hk m' := rfl
@[simp] theorem State.loupe_setEngine (e : Nat) (r : Engine)  : (s.setEngine e r).loupe  = s.loupe  := rfl
@[simp] theorem State.mm_setEngine (e : Nat) (r : Engine) (m' : Nat) : (s.setEngine e r).mm m' = s.mm m' := rfl
@[simp] theorem State.pgRun_setEngine (e : Nat) (r : Engine) (g' : Nat) : (s.setEngine e r).pgRun g' = s.pgRun g' := rfl
@[simp] theorem State.pmPoint_setEngine (e : Nat) (r : Engine) (p' : Nat) : (s.setEngine e r).pmPoint p' = s.pmPoint p' := rfl
@[simp] theorem State.dom_setEngine (e : Nat) (r : Engine) (d' : Nat) : (s.setEngine e r).dom d' = s.dom d' := rfl
@[simp] theorem State.railRequest_setEngine (e : Nat) (r : Engine) (r' : Nat) : (s.setEngine e r).railRequest r' = s.railRequest r' := rfl
@[simp] theorem State.ref_setEngine (e : Nat) (r : Engine) (r' : Nat) : (s.setEngine e r).ref r' = s.ref r' := rfl
@[simp] theorem State.dpll_setEngine (e : Nat) (r : Engine) (d' : Nat) : (s.setEngine e r).dpll d' = s.dpll d' := rfl
@[simp] theorem State.secChan_setEngine (e : Nat) (r : Engine) (e' ch' : Nat) : (s.setEngine e r).secChan e' ch' = s.secChan e' ch' := rfl
@[simp] theorem State.change_setEngine (e : Nat) (r : Engine) (e' x' : Nat) : (s.setEngine e r).change e' x' = s.change e' x' := rfl
@[simp] theorem State.client_withEngine (e : Nat) (f : Engine → Engine) (l' : Nat) : (s.withEngine e f).client l' = s.client l' := rfl
@[simp] theorem State.hk_withEngine (e : Nat) (f : Engine → Engine) (m' : Nat) : (s.withEngine e f).hk m' = s.hk m' := rfl
@[simp] theorem State.loupe_withEngine (e : Nat) (f : Engine → Engine)  : (s.withEngine e f).loupe  = s.loupe  := rfl
@[simp] theorem State.mm_withEngine (e : Nat) (f : Engine → Engine) (m' : Nat) : (s.withEngine e f).mm m' = s.mm m' := rfl
@[simp] theorem State.pgRun_withEngine (e : Nat) (f : Engine → Engine) (g' : Nat) : (s.withEngine e f).pgRun g' = s.pgRun g' := rfl
@[simp] theorem State.pmPoint_withEngine (e : Nat) (f : Engine → Engine) (p' : Nat) : (s.withEngine e f).pmPoint p' = s.pmPoint p' := rfl
@[simp] theorem State.dom_withEngine (e : Nat) (f : Engine → Engine) (d' : Nat) : (s.withEngine e f).dom d' = s.dom d' := rfl
@[simp] theorem State.railRequest_withEngine (e : Nat) (f : Engine → Engine) (r' : Nat) : (s.withEngine e f).railRequest r' = s.railRequest r' := rfl
@[simp] theorem State.ref_withEngine (e : Nat) (f : Engine → Engine) (r' : Nat) : (s.withEngine e f).ref r' = s.ref r' := rfl
@[simp] theorem State.dpll_withEngine (e : Nat) (f : Engine → Engine) (d' : Nat) : (s.withEngine e f).dpll d' = s.dpll d' := rfl
@[simp] theorem State.secChan_withEngine (e : Nat) (f : Engine → Engine) (e' ch' : Nat) : (s.withEngine e f).secChan e' ch' = s.secChan e' ch' := rfl
@[simp] theorem State.change_withEngine (e : Nat) (f : Engine → Engine) (e' x' : Nat) : (s.withEngine e f).change e' x' = s.change e' x' := rfl
@[simp] theorem State.client_withBar (f : Bar0 → Bar0) (l' : Nat) : (s.withBar f).client l' = s.client l' := rfl
@[simp] theorem State.hk_withBar (f : Bar0 → Bar0) (m' : Nat) : (s.withBar f).hk m' = s.hk m' := rfl
@[simp] theorem State.loupe_withBar (f : Bar0 → Bar0)  : (s.withBar f).loupe  = s.loupe  := rfl
@[simp] theorem State.mm_withBar (f : Bar0 → Bar0) (m' : Nat) : (s.withBar f).mm m' = s.mm m' := rfl
@[simp] theorem State.pgRun_withBar (f : Bar0 → Bar0) (g' : Nat) : (s.withBar f).pgRun g' = s.pgRun g' := rfl
@[simp] theorem State.pmPoint_withBar (f : Bar0 → Bar0) (p' : Nat) : (s.withBar f).pmPoint p' = s.pmPoint p' := rfl
@[simp] theorem State.dom_withBar (f : Bar0 → Bar0) (d' : Nat) : (s.withBar f).dom d' = s.dom d' := rfl
@[simp] theorem State.railRequest_withBar (f : Bar0 → Bar0) (r' : Nat) : (s.withBar f).railRequest r' = s.railRequest r' := rfl
@[simp] theorem State.ref_withBar (f : Bar0 → Bar0) (r' : Nat) : (s.withBar f).ref r' = s.ref r' := rfl
@[simp] theorem State.dpll_withBar (f : Bar0 → Bar0) (d' : Nat) : (s.withBar f).dpll d' = s.dpll d' := rfl
@[simp] theorem State.secChan_withBar (f : Bar0 → Bar0) (e' ch' : Nat) : (s.withBar f).secChan e' ch' = s.secChan e' ch' := rfl
@[simp] theorem State.change_withBar (f : Bar0 → Bar0) (e' x' : Nat) : (s.withBar f).change e' x' = s.change e' x' := rfl
@[simp] theorem State.client_plan (b : Nat) (d : Due) (l' : Nat) : (s.plan b d).client l' = s.client l' := rfl
@[simp] theorem State.hk_plan (b : Nat) (d : Due) (m' : Nat) : (s.plan b d).hk m' = s.hk m' := rfl
@[simp] theorem State.loupe_plan (b : Nat) (d : Due)  : (s.plan b d).loupe  = s.loupe  := rfl
@[simp] theorem State.mm_plan (b : Nat) (d : Due) (m' : Nat) : (s.plan b d).mm m' = s.mm m' := rfl
@[simp] theorem State.pgRun_plan (b : Nat) (d : Due) (g' : Nat) : (s.plan b d).pgRun g' = s.pgRun g' := rfl
@[simp] theorem State.pmPoint_plan (b : Nat) (d : Due) (p' : Nat) : (s.plan b d).pmPoint p' = s.pmPoint p' := rfl
@[simp] theorem State.dom_plan (b : Nat) (d : Due) (d' : Nat) : (s.plan b d).dom d' = s.dom d' := rfl
@[simp] theorem State.railRequest_plan (b : Nat) (d : Due) (r' : Nat) : (s.plan b d).railRequest r' = s.railRequest r' := rfl
@[simp] theorem State.ref_plan (b : Nat) (d : Due) (r' : Nat) : (s.plan b d).ref r' = s.ref r' := rfl
@[simp] theorem State.dpll_plan (b : Nat) (d : Due) (d' : Nat) : (s.plan b d).dpll d' = s.dpll d' := rfl
@[simp] theorem State.secChan_plan (b : Nat) (d : Due) (e' ch' : Nat) : (s.plan b d).secChan e' ch' = s.secChan e' ch' := rfl
@[simp] theorem State.change_plan (b : Nat) (d : Due) (e' x' : Nat) : (s.plan b d).change e' x' = s.change e' x' := rfl
@[simp] theorem State.client_stage (k : Key) (v : Nat) (l' : Nat) : (s.stage k v).client l' = s.client l' := rfl
@[simp] theorem State.hk_stage (k : Key) (v : Nat) (m' : Nat) : (s.stage k v).hk m' = s.hk m' := rfl
@[simp] theorem State.loupe_stage (k : Key) (v : Nat)  : (s.stage k v).loupe  = s.loupe  := rfl
@[simp] theorem State.mm_stage (k : Key) (v : Nat) (m' : Nat) : (s.stage k v).mm m' = s.mm m' := rfl
@[simp] theorem State.pgRun_stage (k : Key) (v : Nat) (g' : Nat) : (s.stage k v).pgRun g' = s.pgRun g' := rfl
@[simp] theorem State.pmPoint_stage (k : Key) (v : Nat) (p' : Nat) : (s.stage k v).pmPoint p' = s.pmPoint p' := rfl
@[simp] theorem State.dom_stage (k : Key) (v : Nat) (d' : Nat) : (s.stage k v).dom d' = s.dom d' := rfl
@[simp] theorem State.railRequest_stage (k : Key) (v : Nat) (r' : Nat) : (s.stage k v).railRequest r' = s.railRequest r' := rfl
@[simp] theorem State.ref_stage (k : Key) (v : Nat) (r' : Nat) : (s.stage k v).ref r' = s.ref r' := rfl
@[simp] theorem State.dpll_stage (k : Key) (v : Nat) (d' : Nat) : (s.stage k v).dpll d' = s.dpll d' := rfl
@[simp] theorem State.secChan_stage (k : Key) (v : Nat) (e' ch' : Nat) : (s.stage k v).secChan e' ch' = s.secChan e' ch' := rfl
@[simp] theorem State.change_stage (k : Key) (v : Nat) (e' x' : Nat) : (s.stage k v).change e' x' = s.change e' x' := rfl
@[simp] theorem State.client_withPrism (f : Prism → Prism) (l' : Nat) : (s.withPrism f).client l' = s.client l' := rfl
@[simp] theorem State.hk_withPrism (f : Prism → Prism) (m' : Nat) : (s.withPrism f).hk m' = s.hk m' := rfl
@[simp] theorem State.loupe_withPrism (f : Prism → Prism)  : (s.withPrism f).loupe  = s.loupe  := rfl
@[simp] theorem State.mm_withPrism (f : Prism → Prism) (m' : Nat) : (s.withPrism f).mm m' = s.mm m' := rfl
@[simp] theorem State.pgRun_withPrism (f : Prism → Prism) (g' : Nat) : (s.withPrism f).pgRun g' = s.pgRun g' := rfl
@[simp] theorem State.pmPoint_withPrism (f : Prism → Prism) (p' : Nat) : (s.withPrism f).pmPoint p' = s.pmPoint p' := rfl
@[simp] theorem State.dom_withPrism (f : Prism → Prism) (d' : Nat) : (s.withPrism f).dom d' = s.dom d' := rfl
@[simp] theorem State.railRequest_withPrism (f : Prism → Prism) (r' : Nat) : (s.withPrism f).railRequest r' = s.railRequest r' := rfl
@[simp] theorem State.ref_withPrism (f : Prism → Prism) (r' : Nat) : (s.withPrism f).ref r' = s.ref r' := rfl
@[simp] theorem State.dpll_withPrism (f : Prism → Prism) (d' : Nat) : (s.withPrism f).dpll d' = s.dpll d' := rfl
@[simp] theorem State.secChan_withPrism (f : Prism → Prism) (e' ch' : Nat) : (s.withPrism f).secChan e' ch' = s.secChan e' ch' := rfl
@[simp] theorem State.change_withPrism (f : Prism → Prism) (e' x' : Nat) : (s.withPrism f).change e' x' = s.change e' x' := rfl
@[simp] theorem State.client_withShadow (f : Shadow → Shadow) (l' : Nat) : (s.withShadow f).client l' = s.client l' := rfl
@[simp] theorem State.hk_withShadow (f : Shadow → Shadow) (m' : Nat) : (s.withShadow f).hk m' = s.hk m' := rfl
@[simp] theorem State.loupe_withShadow (f : Shadow → Shadow)  : (s.withShadow f).loupe  = s.loupe  := rfl
@[simp] theorem State.mm_withShadow (f : Shadow → Shadow) (m' : Nat) : (s.withShadow f).mm m' = s.mm m' := rfl
@[simp] theorem State.pgRun_withShadow (f : Shadow → Shadow) (g' : Nat) : (s.withShadow f).pgRun g' = s.pgRun g' := rfl
@[simp] theorem State.pmPoint_withShadow (f : Shadow → Shadow) (p' : Nat) : (s.withShadow f).pmPoint p' = s.pmPoint p' := rfl
@[simp] theorem State.dom_withShadow (f : Shadow → Shadow) (d' : Nat) : (s.withShadow f).dom d' = s.dom d' := rfl
@[simp] theorem State.railRequest_withShadow (f : Shadow → Shadow) (r' : Nat) : (s.withShadow f).railRequest r' = s.railRequest r' := rfl
@[simp] theorem State.ref_withShadow (f : Shadow → Shadow) (r' : Nat) : (s.withShadow f).ref r' = s.ref r' := rfl
@[simp] theorem State.dpll_withShadow (f : Shadow → Shadow) (d' : Nat) : (s.withShadow f).dpll d' = s.dpll d' := rfl
@[simp] theorem State.secChan_withShadow (f : Shadow → Shadow) (e' ch' : Nat) : (s.withShadow f).secChan e' ch' = s.secChan e' ch' := rfl
@[simp] theorem State.client_withMc (f : Mc → Mc) (l' : Nat) : (s.withMc f).client l' = s.client l' := rfl
@[simp] theorem State.hk_withMc (f : Mc → Mc) (m' : Nat) : (s.withMc f).hk m' = s.hk m' := rfl
@[simp] theorem State.loupe_withMc (f : Mc → Mc)  : (s.withMc f).loupe  = s.loupe  := rfl
@[simp] theorem State.mm_withMc (f : Mc → Mc) (m' : Nat) : (s.withMc f).mm m' = s.mm m' := rfl
@[simp] theorem State.pgRun_withMc (f : Mc → Mc) (g' : Nat) : (s.withMc f).pgRun g' = s.pgRun g' := rfl
@[simp] theorem State.pmPoint_withMc (f : Mc → Mc) (p' : Nat) : (s.withMc f).pmPoint p' = s.pmPoint p' := rfl
@[simp] theorem State.dom_withMc (f : Mc → Mc) (d' : Nat) : (s.withMc f).dom d' = s.dom d' := rfl
@[simp] theorem State.railRequest_withMc (f : Mc → Mc) (r' : Nat) : (s.withMc f).railRequest r' = s.railRequest r' := rfl
@[simp] theorem State.ref_withMc (f : Mc → Mc) (r' : Nat) : (s.withMc f).ref r' = s.ref r' := rfl
@[simp] theorem State.dpll_withMc (f : Mc → Mc) (d' : Nat) : (s.withMc f).dpll d' = s.dpll d' := rfl
@[simp] theorem State.secChan_withMc (f : Mc → Mc) (e' ch' : Nat) : (s.withMc f).secChan e' ch' = s.secChan e' ch' := rfl
@[simp] theorem State.change_withMc (f : Mc → Mc) (e' x' : Nat) : (s.withMc f).change e' x' = s.change e' x' := rfl
@[simp] theorem State.client_withInject (f : Injection → Injection) (l' : Nat) : (s.withInject f).client l' = s.client l' := rfl
@[simp] theorem State.hk_withInject (f : Injection → Injection) (m' : Nat) : (s.withInject f).hk m' = s.hk m' := rfl
@[simp] theorem State.loupe_withInject (f : Injection → Injection)  : (s.withInject f).loupe  = s.loupe  := rfl
@[simp] theorem State.mm_withInject (f : Injection → Injection) (m' : Nat) : (s.withInject f).mm m' = s.mm m' := rfl
@[simp] theorem State.pgRun_withInject (f : Injection → Injection) (g' : Nat) : (s.withInject f).pgRun g' = s.pgRun g' := rfl
@[simp] theorem State.pmPoint_withInject (f : Injection → Injection) (p' : Nat) : (s.withInject f).pmPoint p' = s.pmPoint p' := rfl
@[simp] theorem State.dom_withInject (f : Injection → Injection) (d' : Nat) : (s.withInject f).dom d' = s.dom d' := rfl
@[simp] theorem State.railRequest_withInject (f : Injection → Injection) (r' : Nat) : (s.withInject f).railRequest r' = s.railRequest r' := rfl
@[simp] theorem State.ref_withInject (f : Injection → Injection) (r' : Nat) : (s.withInject f).ref r' = s.ref r' := rfl
@[simp] theorem State.dpll_withInject (f : Injection → Injection) (d' : Nat) : (s.withInject f).dpll d' = s.dpll d' := rfl
@[simp] theorem State.secChan_withInject (f : Injection → Injection) (e' ch' : Nat) : (s.withInject f).secChan e' ch' = s.secChan e' ch' := rfl
@[simp] theorem State.change_withInject (f : Injection → Injection) (e' x' : Nat) : (s.withInject f).change e' x' = s.change e' x' := rfl
@[simp] theorem State.client_withStores (f : Stores → Stores) (l' : Nat) : (s.withStores f).client l' = s.client l' := rfl
@[simp] theorem State.hk_withStores (f : Stores → Stores) (m' : Nat) : (s.withStores f).hk m' = s.hk m' := rfl
@[simp] theorem State.loupe_withStores (f : Stores → Stores)  : (s.withStores f).loupe  = s.loupe  := rfl
@[simp] theorem State.mm_withStores (f : Stores → Stores) (m' : Nat) : (s.withStores f).mm m' = s.mm m' := rfl
@[simp] theorem State.pgRun_withStores (f : Stores → Stores) (g' : Nat) : (s.withStores f).pgRun g' = s.pgRun g' := rfl
@[simp] theorem State.pmPoint_withStores (f : Stores → Stores) (p' : Nat) : (s.withStores f).pmPoint p' = s.pmPoint p' := rfl
@[simp] theorem State.dom_withStores (f : Stores → Stores) (d' : Nat) : (s.withStores f).dom d' = s.dom d' := rfl
@[simp] theorem State.railRequest_withStores (f : Stores → Stores) (r' : Nat) : (s.withStores f).railRequest r' = s.railRequest r' := rfl
@[simp] theorem State.ref_withStores (f : Stores → Stores) (r' : Nat) : (s.withStores f).ref r' = s.ref r' := rfl
@[simp] theorem State.dpll_withStores (f : Stores → Stores) (d' : Nat) : (s.withStores f).dpll d' = s.dpll d' := rfl
@[simp] theorem State.secChan_withStores (f : Stores → Stores) (e' ch' : Nat) : (s.withStores f).secChan e' ch' = s.secChan e' ch' := rfl
@[simp] theorem State.change_withStores (f : Stores → Stores) (e' x' : Nat) : (s.withStores f).change e' x' = s.change e' x' := rfl
@[simp] theorem State.client_withPower (f : Power → Power) (l' : Nat) : (s.withPower f).client l' = s.client l' := rfl
@[simp] theorem State.hk_withPower (f : Power → Power) (m' : Nat) : (s.withPower f).hk m' = s.hk m' := rfl
@[simp] theorem State.loupe_withPower (f : Power → Power)  : (s.withPower f).loupe  = s.loupe  := rfl
@[simp] theorem State.mm_withPower (f : Power → Power) (m' : Nat) : (s.withPower f).mm m' = s.mm m' := rfl
@[simp] theorem State.pgRun_withPower (f : Power → Power) (g' : Nat) : (s.withPower f).pgRun g' = s.pgRun g' := rfl
@[simp] theorem State.pmPoint_withPower (f : Power → Power) (p' : Nat) : (s.withPower f).pmPoint p' = s.pmPoint p' := rfl
@[simp] theorem State.ref_withPower (f : Power → Power) (r' : Nat) : (s.withPower f).ref r' = s.ref r' := rfl
@[simp] theorem State.dpll_withPower (f : Power → Power) (d' : Nat) : (s.withPower f).dpll d' = s.dpll d' := rfl
@[simp] theorem State.secChan_withPower (f : Power → Power) (e' ch' : Nat) : (s.withPower f).secChan e' ch' = s.secChan e' ch' := rfl
@[simp] theorem State.change_withPower (f : Power → Power) (e' x' : Nat) : (s.withPower f).change e' x' = s.change e' x' := rfl
@[simp] theorem State.client_drawn  (l' : Nat) : (s.drawn).client l' = s.client l' := rfl
@[simp] theorem State.hk_drawn  (m' : Nat) : (s.drawn).hk m' = s.hk m' := rfl
@[simp] theorem State.loupe_drawn   : (s.drawn).loupe  = s.loupe  := rfl
@[simp] theorem State.mm_drawn  (m' : Nat) : (s.drawn).mm m' = s.mm m' := rfl
@[simp] theorem State.pgRun_drawn  (g' : Nat) : (s.drawn).pgRun g' = s.pgRun g' := rfl
@[simp] theorem State.pmPoint_drawn  (p' : Nat) : (s.drawn).pmPoint p' = s.pmPoint p' := rfl
@[simp] theorem State.dom_drawn  (d' : Nat) : (s.drawn).dom d' = s.dom d' := rfl
@[simp] theorem State.railRequest_drawn  (r' : Nat) : (s.drawn).railRequest r' = s.railRequest r' := rfl
@[simp] theorem State.ref_drawn  (r' : Nat) : (s.drawn).ref r' = s.ref r' := rfl
@[simp] theorem State.dpll_drawn  (d' : Nat) : (s.drawn).dpll d' = s.dpll d' := rfl
@[simp] theorem State.secChan_drawn  (e' ch' : Nat) : (s.drawn).secChan e' ch' = s.secChan e' ch' := rfl
@[simp] theorem State.change_drawn  (e' x' : Nat) : (s.drawn).change e' x' = s.change e' x' := rfl

end Sys2Proof.Machine
end

