-- ==== Sys2Proof/Laws/Fields.lean ====
section
/-! SUPPORT. Reads of a state whose fields are written out. -/

namespace Sys2Proof.Machine

@[simp] theorem State.obj_mk (k : Key) {x_pending x_now x_tick x_counted x_running x_fresh x_reg x_act x_shd x_defects x_agenda x_load x_autoLoad x_changes x_stream x_lastOverrun x_overrunEpoch x_overrunAt x_closed x_pllLatch x_bar x_sessions x_authEpoch x_owed x_resyncs x_evq x_eng x_bondSpread x_gccOut x_gccIn x_gccEpoch x_ohpSent x_clients x_cells x_timing x_prot x_sec x_prism x_shadow x_instr x_pm x_ring x_stores x_inject x_power x_mc} : (State.mk x_pending x_now x_tick x_counted x_running x_fresh x_reg x_act x_shd x_defects x_agenda x_load x_autoLoad x_changes x_stream x_lastOverrun x_overrunEpoch x_overrunAt x_closed x_pllLatch x_bar x_sessions x_authEpoch x_owed x_resyncs x_evq x_eng x_bondSpread x_gccOut x_gccIn x_gccEpoch x_ohpSent x_clients x_cells x_timing x_prot x_sec x_prism x_shadow x_instr x_pm x_ring x_stores x_inject x_power x_mc).obj k = Map.get (objDefault k) x_reg k := rfl
@[simp] theorem State.obj_fold (s : State) (k : Key) : Map.get (objDefault k) s.reg k = s.obj k := rfl
@[simp] theorem State.active_mk (k : Key) {x_pending x_now x_tick x_counted x_running x_fresh x_reg x_act x_shd x_defects x_agenda x_load x_autoLoad x_changes x_stream x_lastOverrun x_overrunEpoch x_overrunAt x_closed x_pllLatch x_bar x_sessions x_authEpoch x_owed x_resyncs x_evq x_eng x_bondSpread x_gccOut x_gccIn x_gccEpoch x_ohpSent x_clients x_cells x_timing x_prot x_sec x_prism x_shadow x_instr x_pm x_ring x_stores x_inject x_power x_mc} : (State.mk x_pending x_now x_tick x_counted x_running x_fresh x_reg x_act x_shd x_defects x_agenda x_load x_autoLoad x_changes x_stream x_lastOverrun x_overrunEpoch x_overrunAt x_closed x_pllLatch x_bar x_sessions x_authEpoch x_owed x_resyncs x_evq x_eng x_bondSpread x_gccOut x_gccIn x_gccEpoch x_ohpSent x_clients x_cells x_timing x_prot x_sec x_prism x_shadow x_instr x_pm x_ring x_stores x_inject x_power x_mc).active k = Map.get (objDefault k) x_act k := rfl
@[simp] theorem State.active_fold (s : State) (k : Key) : Map.get (objDefault k) s.act k = s.active k := rfl
@[simp] theorem State.shadowed_mk (k : Key) {x_pending x_now x_tick x_counted x_running x_fresh x_reg x_act x_shd x_defects x_agenda x_load x_autoLoad x_changes x_stream x_lastOverrun x_overrunEpoch x_overrunAt x_closed x_pllLatch x_bar x_sessions x_authEpoch x_owed x_resyncs x_evq x_eng x_bondSpread x_gccOut x_gccIn x_gccEpoch x_ohpSent x_clients x_cells x_timing x_prot x_sec x_prism x_shadow x_instr x_pm x_ring x_stores x_inject x_power x_mc} : (State.mk x_pending x_now x_tick x_counted x_running x_fresh x_reg x_act x_shd x_defects x_agenda x_load x_autoLoad x_changes x_stream x_lastOverrun x_overrunEpoch x_overrunAt x_closed x_pllLatch x_bar x_sessions x_authEpoch x_owed x_resyncs x_evq x_eng x_bondSpread x_gccOut x_gccIn x_gccEpoch x_ohpSent x_clients x_cells x_timing x_prot x_sec x_prism x_shadow x_instr x_pm x_ring x_stores x_inject x_power x_mc).shadowed k = Map.get (objDefault k) x_shd k := rfl
@[simp] theorem State.shadowed_fold (s : State) (k : Key) : Map.get (objDefault k) s.shd k = s.shadowed k := rfl
@[simp] theorem State.engine_mk (e : Nat) {x_pending x_now x_tick x_counted x_running x_fresh x_reg x_act x_shd x_defects x_agenda x_load x_autoLoad x_changes x_stream x_lastOverrun x_overrunEpoch x_overrunAt x_closed x_pllLatch x_bar x_sessions x_authEpoch x_owed x_resyncs x_evq x_eng x_bondSpread x_gccOut x_gccIn x_gccEpoch x_ohpSent x_clients x_cells x_timing x_prot x_sec x_prism x_shadow x_instr x_pm x_ring x_stores x_inject x_power x_mc} : (State.mk x_pending x_now x_tick x_counted x_running x_fresh x_reg x_act x_shd x_defects x_agenda x_load x_autoLoad x_changes x_stream x_lastOverrun x_overrunEpoch x_overrunAt x_closed x_pllLatch x_bar x_sessions x_authEpoch x_owed x_resyncs x_evq x_eng x_bondSpread x_gccOut x_gccIn x_gccEpoch x_ohpSent x_clients x_cells x_timing x_prot x_sec x_prism x_shadow x_instr x_pm x_ring x_stores x_inject x_power x_mc).engine e = Map.get {} x_eng (Key.unit e) := rfl
@[simp] theorem State.engine_fold (s : State) (e : Nat) : Map.get {} s.eng (Key.unit e) = s.engine e := rfl
@[simp] theorem State.session_mk (j : Nat) {x_pending x_now x_tick x_counted x_running x_fresh x_reg x_act x_shd x_defects x_agenda x_load x_autoLoad x_changes x_stream x_lastOverrun x_overrunEpoch x_overrunAt x_closed x_pllLatch x_bar x_sessions x_authEpoch x_owed x_resyncs x_evq x_eng x_bondSpread x_gccOut x_gccIn x_gccEpoch x_ohpSent x_clients x_cells x_timing x_prot x_sec x_prism x_shadow x_instr x_pm x_ring x_stores x_inject x_power x_mc} : (State.mk x_pending x_now x_tick x_counted x_running x_fresh x_reg x_act x_shd x_defects x_agenda x_load x_autoLoad x_changes x_stream x_lastOverrun x_overrunEpoch x_overrunAt x_closed x_pllLatch x_bar x_sessions x_authEpoch x_owed x_resyncs x_evq x_eng x_bondSpread x_gccOut x_gccIn x_gccEpoch x_ohpSent x_clients x_cells x_timing x_prot x_sec x_prism x_shadow x_instr x_pm x_ring x_stores x_inject x_power x_mc).session j = Map.get {} x_sessions (Key.unit j) := rfl
@[simp] theorem State.session_fold (s : State) (j : Nat) : Map.get {} s.sessions (Key.unit j) = s.session j := rfl
@[simp] theorem State.declared_mk (d i : Nat) {x_pending x_now x_tick x_counted x_running x_fresh x_reg x_act x_shd x_defects x_agenda x_load x_autoLoad x_changes x_stream x_lastOverrun x_overrunEpoch x_overrunAt x_closed x_pllLatch x_bar x_sessions x_authEpoch x_owed x_resyncs x_evq x_eng x_bondSpread x_gccOut x_gccIn x_gccEpoch x_ohpSent x_clients x_cells x_timing x_prot x_sec x_prism x_shadow x_instr x_pm x_ring x_stores x_inject x_power x_mc} : (State.mk x_pending x_now x_tick x_counted x_running x_fresh x_reg x_act x_shd x_defects x_agenda x_load x_autoLoad x_changes x_stream x_lastOverrun x_overrunEpoch x_overrunAt x_closed x_pllLatch x_bar x_sessions x_authEpoch x_owed x_resyncs x_evq x_eng x_bondSpread x_gccOut x_gccIn x_gccEpoch x_ohpSent x_clients x_cells x_timing x_prot x_sec x_prism x_shadow x_instr x_pm x_ring x_stores x_inject x_power x_mc).declared d i = decide (Map.get 0 x_defects (defectKey d i) ≠ 0) := rfl
@[simp] theorem State.declared_fold (s : State) (d i : Nat) : decide (Map.get 0 s.defects (defectKey d i) ≠ 0) = s.declared d i := rfl
@[simp] theorem State.page_mk (g p : Nat) {x_pending x_now x_tick x_counted x_running x_fresh x_reg x_act x_shd x_defects x_agenda x_load x_autoLoad x_changes x_stream x_lastOverrun x_overrunEpoch x_overrunAt x_closed x_pllLatch x_bar x_sessions x_authEpoch x_owed x_resyncs x_evq x_eng x_bondSpread x_gccOut x_gccIn x_gccEpoch x_ohpSent x_clients x_cells x_timing x_prot x_sec x_prism x_shadow x_instr x_pm x_ring x_stores x_inject x_power x_mc} : (State.mk x_pending x_now x_tick x_counted x_running x_fresh x_reg x_act x_shd x_defects x_agenda x_load x_autoLoad x_changes x_stream x_lastOverrun x_overrunEpoch x_overrunAt x_closed x_pllLatch x_bar x_sessions x_authEpoch x_owed x_resyncs x_evq x_eng x_bondSpread x_gccOut x_gccIn x_gccEpoch x_ohpSent x_clients x_cells x_timing x_prot x_sec x_prism x_shadow x_instr x_pm x_ring x_stores x_inject x_power x_mc).page g p = Map.get {} x_stores.pages (pageKey g p) := rfl
@[simp] theorem State.page_fold (s : State) (g p : Nat) : Map.get {} s.stores.pages (pageKey g p) = s.page g p := rfl
@[simp] theorem State.client_mk (l : Nat) {x_pending x_now x_tick x_counted x_running x_fresh x_reg x_act x_shd x_defects x_agenda x_load x_autoLoad x_changes x_stream x_lastOverrun x_overrunEpoch x_overrunAt x_closed x_pllLatch x_bar x_sessions x_authEpoch x_owed x_resyncs x_evq x_eng x_bondSpread x_gccOut x_gccIn x_gccEpoch x_ohpSent x_clients x_cells x_timing x_prot x_sec x_prism x_shadow x_instr x_pm x_ring x_stores x_inject x_power x_mc} : (State.mk x_pending x_now x_tick x_counted x_running x_fresh x_reg x_act x_shd x_defects x_agenda x_load x_autoLoad x_changes x_stream x_lastOverrun x_overrunEpoch x_overrunAt x_closed x_pllLatch x_bar x_sessions x_authEpoch x_owed x_resyncs x_evq x_eng x_bondSpread x_gccOut x_gccIn x_gccEpoch x_ohpSent x_clients x_cells x_timing x_prot x_sec x_prism x_shadow x_instr x_pm x_ring x_stores x_inject x_power x_mc).client l = Map.get {} x_clients (Key.unit l) := rfl
@[simp] theorem State.client_fold (s : State) (l : Nat) : Map.get {} s.clients (Key.unit l) = s.client l := rfl
@[simp] theorem State.hk_mk (m : Nat) {x_pending x_now x_tick x_counted x_running x_fresh x_reg x_act x_shd x_defects x_agenda x_load x_autoLoad x_changes x_stream x_lastOverrun x_overrunEpoch x_overrunAt x_closed x_pllLatch x_bar x_sessions x_authEpoch x_owed x_resyncs x_evq x_eng x_bondSpread x_gccOut x_gccIn x_gccEpoch x_ohpSent x_clients x_cells x_timing x_prot x_sec x_prism x_shadow x_instr x_pm x_ring x_stores x_inject x_power x_mc} : (State.mk x_pending x_now x_tick x_counted x_running x_fresh x_reg x_act x_shd x_defects x_agenda x_load x_autoLoad x_changes x_stream x_lastOverrun x_overrunEpoch x_overrunAt x_closed x_pllLatch x_bar x_sessions x_authEpoch x_owed x_resyncs x_evq x_eng x_bondSpread x_gccOut x_gccIn x_gccEpoch x_ohpSent x_clients x_cells x_timing x_prot x_sec x_prism x_shadow x_instr x_pm x_ring x_stores x_inject x_power x_mc).hk m = Map.get {} x_instr.hk (Key.unit m) := rfl
@[simp] theorem State.hk_fold (s : State) (m : Nat) : Map.get {} s.instr.hk (Key.unit m) = s.hk m := rfl
@[simp] theorem State.loupe_mk  {x_pending x_now x_tick x_counted x_running x_fresh x_reg x_act x_shd x_defects x_agenda x_load x_autoLoad x_changes x_stream x_lastOverrun x_overrunEpoch x_overrunAt x_closed x_pllLatch x_bar x_sessions x_authEpoch x_owed x_resyncs x_evq x_eng x_bondSpread x_gccOut x_gccIn x_gccEpoch x_ohpSent x_clients x_cells x_timing x_prot x_sec x_prism x_shadow x_instr x_pm x_ring x_stores x_inject x_power x_mc} : (State.mk x_pending x_now x_tick x_counted x_running x_fresh x_reg x_act x_shd x_defects x_agenda x_load x_autoLoad x_changes x_stream x_lastOverrun x_overrunEpoch x_overrunAt x_closed x_pllLatch x_bar x_sessions x_authEpoch x_owed x_resyncs x_evq x_eng x_bondSpread x_gccOut x_gccIn x_gccEpoch x_ohpSent x_clients x_cells x_timing x_prot x_sec x_prism x_shadow x_instr x_pm x_ring x_stores x_inject x_power x_mc).loupe  = x_instr.loupe := rfl
@[simp] theorem State.loupe_fold (s : State)  : s.instr.loupe = s.loupe  := rfl
@[simp] theorem State.mm_mk (m : Nat) {x_pending x_now x_tick x_counted x_running x_fresh x_reg x_act x_shd x_defects x_agenda x_load x_autoLoad x_changes x_stream x_lastOverrun x_overrunEpoch x_overrunAt x_closed x_pllLatch x_bar x_sessions x_authEpoch x_owed x_resyncs x_evq x_eng x_bondSpread x_gccOut x_gccIn x_gccEpoch x_ohpSent x_clients x_cells x_timing x_prot x_sec x_prism x_shadow x_instr x_pm x_ring x_stores x_inject x_power x_mc} : (State.mk x_pending x_now x_tick x_counted x_running x_fresh x_reg x_act x_shd x_defects x_agenda x_load x_autoLoad x_changes x_stream x_lastOverrun x_overrunEpoch x_overrunAt x_closed x_pllLatch x_bar x_sessions x_authEpoch x_owed x_resyncs x_evq x_eng x_bondSpread x_gccOut x_gccIn x_gccEpoch x_ohpSent x_clients x_cells x_timing x_prot x_sec x_prism x_shadow x_instr x_pm x_ring x_stores x_inject x_power x_mc).mm m = Map.get {} x_prot.merges (Key.unit m) := rfl
@[simp] theorem State.mm_fold (s : State) (m : Nat) : Map.get {} s.prot.merges (Key.unit m) = s.mm m := rfl
@[simp] theorem State.pgRun_mk (g : Nat) {x_pending x_now x_tick x_counted x_running x_fresh x_reg x_act x_shd x_defects x_agenda x_load x_autoLoad x_changes x_stream x_lastOverrun x_overrunEpoch x_overrunAt x_closed x_pllLatch x_bar x_sessions x_authEpoch x_owed x_resyncs x_evq x_eng x_bondSpread x_gccOut x_gccIn x_gccEpoch x_ohpSent x_clients x_cells x_timing x_prot x_sec x_prism x_shadow x_instr x_pm x_ring x_stores x_inject x_power x_mc} : (State.mk x_pending x_now x_tick x_counted x_running x_fresh x_reg x_act x_shd x_defects x_agenda x_load x_autoLoad x_changes x_stream x_lastOverrun x_overrunEpoch x_overrunAt x_closed x_pllLatch x_bar x_sessions x_authEpoch x_owed x_resyncs x_evq x_eng x_bondSpread x_gccOut x_gccIn x_gccEpoch x_ohpSent x_clients x_cells x_timing x_prot x_sec x_prism x_shadow x_instr x_pm x_ring x_stores x_inject x_power x_mc).pgRun g = Map.get {} x_prot.groups (Key.unit g) := rfl
@[simp] theorem State.pgRun_fold (s : State) (g : Nat) : Map.get {} s.prot.groups (Key.unit g) = s.pgRun g := rfl
@[simp] theorem State.pmPoint_mk (p : Nat) {x_pending x_now x_tick x_counted x_running x_fresh x_reg x_act x_shd x_defects x_agenda x_load x_autoLoad x_changes x_stream x_lastOverrun x_overrunEpoch x_overrunAt x_closed x_pllLatch x_bar x_sessions x_authEpoch x_owed x_resyncs x_evq x_eng x_bondSpread x_gccOut x_gccIn x_gccEpoch x_ohpSent x_clients x_cells x_timing x_prot x_sec x_prism x_shadow x_instr x_pm x_ring x_stores x_inject x_power x_mc} : (State.mk x_pending x_now x_tick x_counted x_running x_fresh x_reg x_act x_shd x_defects x_agenda x_load x_autoLoad x_changes x_stream x_lastOverrun x_overrunEpoch x_overrunAt x_closed x_pllLatch x_bar x_sessions x_authEpoch x_owed x_resyncs x_evq x_eng x_bondSpread x_gccOut x_gccIn x_gccEpoch x_ohpSent x_clients x_cells x_timing x_prot x_sec x_prism x_shadow x_instr x_pm x_ring x_stores x_inject x_power x_mc).pmPoint p = Map.get {} x_pm.points (Key.unit p) := rfl
@[simp] theorem State.pmPoint_fold (s : State) (p : Nat) : Map.get {} s.pm.points (Key.unit p) = s.pmPoint p := rfl
@[simp] theorem State.dom_mk (d : Nat) {x_pending x_now x_tick x_counted x_running x_fresh x_reg x_act x_shd x_defects x_agenda x_load x_autoLoad x_changes x_stream x_lastOverrun x_overrunEpoch x_overrunAt x_closed x_pllLatch x_bar x_sessions x_authEpoch x_owed x_resyncs x_evq x_eng x_bondSpread x_gccOut x_gccIn x_gccEpoch x_ohpSent x_clients x_cells x_timing x_prot x_sec x_prism x_shadow x_instr x_pm x_ring x_stores x_inject x_power x_mc} : (State.mk x_pending x_now x_tick x_counted x_running x_fresh x_reg x_act x_shd x_defects x_agenda x_load x_autoLoad x_changes x_stream x_lastOverrun x_overrunEpoch x_overrunAt x_closed x_pllLatch x_bar x_sessions x_authEpoch x_owed x_resyncs x_evq x_eng x_bondSpread x_gccOut x_gccIn x_gccEpoch x_ohpSent x_clients x_cells x_timing x_prot x_sec x_prism x_shadow x_instr x_pm x_ring x_stores x_inject x_power x_mc).dom d = Map.get {} x_power.doms (Key.unit d) := rfl
@[simp] theorem State.dom_fold (s : State) (d : Nat) : Map.get {} s.power.doms (Key.unit d) = s.dom d := rfl
@[simp] theorem State.railRequest_mk (r : Nat) {x_pending x_now x_tick x_counted x_running x_fresh x_reg x_act x_shd x_defects x_agenda x_load x_autoLoad x_changes x_stream x_lastOverrun x_overrunEpoch x_overrunAt x_closed x_pllLatch x_bar x_sessions x_authEpoch x_owed x_resyncs x_evq x_eng x_bondSpread x_gccOut x_gccIn x_gccEpoch x_ohpSent x_clients x_cells x_timing x_prot x_sec x_prism x_shadow x_instr x_pm x_ring x_stores x_inject x_power x_mc} : (State.mk x_pending x_now x_tick x_counted x_running x_fresh x_reg x_act x_shd x_defects x_agenda x_load x_autoLoad x_changes x_stream x_lastOverrun x_overrunEpoch x_overrunAt x_closed x_pllLatch x_bar x_sessions x_authEpoch x_owed x_resyncs x_evq x_eng x_bondSpread x_gccOut x_gccIn x_gccEpoch x_ohpSent x_clients x_cells x_timing x_prot x_sec x_prism x_shadow x_instr x_pm x_ring x_stores x_inject x_power x_mc).railRequest r = Map.get none x_power.requests (Key.unit r) := rfl
@[simp] theorem State.railRequest_fold (s : State) (r : Nat) : Map.get none s.power.requests (Key.unit r) = s.railRequest r := rfl
@[simp] theorem State.ref_mk (r : Nat) {x_pending x_now x_tick x_counted x_running x_fresh x_reg x_act x_shd x_defects x_agenda x_load x_autoLoad x_changes x_stream x_lastOverrun x_overrunEpoch x_overrunAt x_closed x_pllLatch x_bar x_sessions x_authEpoch x_owed x_resyncs x_evq x_eng x_bondSpread x_gccOut x_gccIn x_gccEpoch x_ohpSent x_clients x_cells x_timing x_prot x_sec x_prism x_shadow x_instr x_pm x_ring x_stores x_inject x_power x_mc} : (State.mk x_pending x_now x_tick x_counted x_running x_fresh x_reg x_act x_shd x_defects x_agenda x_load x_autoLoad x_changes x_stream x_lastOverrun x_overrunEpoch x_overrunAt x_closed x_pllLatch x_bar x_sessions x_authEpoch x_owed x_resyncs x_evq x_eng x_bondSpread x_gccOut x_gccIn x_gccEpoch x_ohpSent x_clients x_cells x_timing x_prot x_sec x_prism x_shadow x_instr x_pm x_ring x_stores x_inject x_power x_mc).ref r = Map.get {} x_timing.refs (Key.unit r) := rfl
@[simp] theorem State.ref_fold (s : State) (r : Nat) : Map.get {} s.timing.refs (Key.unit r) = s.ref r := rfl
@[simp] theorem State.dpll_mk (d : Nat) {x_pending x_now x_tick x_counted x_running x_fresh x_reg x_act x_shd x_defects x_agenda x_load x_autoLoad x_changes x_stream x_lastOverrun x_overrunEpoch x_overrunAt x_closed x_pllLatch x_bar x_sessions x_authEpoch x_owed x_resyncs x_evq x_eng x_bondSpread x_gccOut x_gccIn x_gccEpoch x_ohpSent x_clients x_cells x_timing x_prot x_sec x_prism x_shadow x_instr x_pm x_ring x_stores x_inject x_power x_mc} : (State.mk x_pending x_now x_tick x_counted x_running x_fresh x_reg x_act x_shd x_defects x_agenda x_load x_autoLoad x_changes x_stream x_lastOverrun x_overrunEpoch x_overrunAt x_closed x_pllLatch x_bar x_sessions x_authEpoch x_owed x_resyncs x_evq x_eng x_bondSpread x_gccOut x_gccIn x_gccEpoch x_ohpSent x_clients x_cells x_timing x_prot x_sec x_prism x_shadow x_instr x_pm x_ring x_stores x_inject x_power x_mc).dpll d = Map.get {} x_timing.dplls (Key.unit d) := rfl
@[simp] theorem State.dpll_fold (s : State) (d : Nat) : Map.get {} s.timing.dplls (Key.unit d) = s.dpll d := rfl
@[simp] theorem State.secChan_mk (e c : Nat) {x_pending x_now x_tick x_counted x_running x_fresh x_reg x_act x_shd x_defects x_agenda x_load x_autoLoad x_changes x_stream x_lastOverrun x_overrunEpoch x_overrunAt x_closed x_pllLatch x_bar x_sessions x_authEpoch x_owed x_resyncs x_evq x_eng x_bondSpread x_gccOut x_gccIn x_gccEpoch x_ohpSent x_clients x_cells x_timing x_prot x_sec x_prism x_shadow x_instr x_pm x_ring x_stores x_inject x_power x_mc} : (State.mk x_pending x_now x_tick x_counted x_running x_fresh x_reg x_act x_shd x_defects x_agenda x_load x_autoLoad x_changes x_stream x_lastOverrun x_overrunEpoch x_overrunAt x_closed x_pllLatch x_bar x_sessions x_authEpoch x_owed x_resyncs x_evq x_eng x_bondSpread x_gccOut x_gccIn x_gccEpoch x_ohpSent x_clients x_cells x_timing x_prot x_sec x_prism x_shadow x_instr x_pm x_ring x_stores x_inject x_power x_mc).secChan e c = Map.get {} x_sec.channels (Key.unit (1024 * e + c)) := rfl
@[simp] theorem State.secChan_fold (s : State) (e c : Nat) : Map.get {} s.sec.channels (Key.unit (1024 * e + c)) = s.secChan e c := rfl

end Sys2Proof.Machine
end

