-- ==== Sys2Proof/Laws/Requests.lean ====
section
/-! SUPPORT. What serving a request comes to, once: the statements about writes and other requests go through these. -/

namespace Sys2Proof.Machine

/-- Counting a request does not change who sends it. -/
theorem State.sender_bump (s : State) (rq : Rq) (op n : Nat) :
    (s.bump Obj.QM_REQ_COUNT n).sender rq op = s.sender rq op := by
  have hopen : ∀ k, (s.bump Obj.QM_REQ_COUNT n).sessionOpen k = s.sessionOpen k := fun k => by
    simp [State.sessionOpen]
  have hrole : ∀ k, (s.bump Obj.QM_REQ_COUNT n).sessionRole k = s.sessionRole k := fun k => by
    simp [State.sessionRole]
  have hvy : ∀ k, (s.bump Obj.QM_REQ_COUNT n).sessionVyusk k = s.sessionVyusk k := fun k => by
    simp [State.sessionVyusk]
  have hsess : ∀ k, (s.bump Obj.QM_REQ_COUNT n).session k = s.session k := fun _ => rfl
  have hfind : ∀ id v, (s.bump Obj.QM_REQ_COUNT n).findSession id v = s.findSession id v := fun id v => by
    simp only [State.findSession, hopen, hvy, hsess]
  have hpcie : (s.bump Obj.QM_REQ_COUNT n).obj Obj.QM_PCIE_ROLE = s.obj Obj.QM_PCIE_ROLE := by
    apply State.obj_bump_ne; simp
  unfold State.sender
  simp only [hfind, hrole, hsess, hpcie]

/-! ## What taking a request up leaves alone: everything but its count and its session -/

@[simp] theorem State.pending_served (s : State) (rq : Rq) (x : Sender) : (s.served rq x).pending = s.pending := by
  unfold State.served State.touchSession; split <;> rfl

@[simp] theorem State.now_served (s : State) (rq : Rq) (x : Sender) : (s.served rq x).now = s.now := by
  unfold State.served State.touchSession; split <;> rfl

@[simp] theorem State.tick_served (s : State) (rq : Rq) (x : Sender) : (s.served rq x).tick = s.tick := by
  unfold State.served State.touchSession; split <;> rfl

@[simp] theorem State.counted_served (s : State) (rq : Rq) (x : Sender) : (s.served rq x).counted = s.counted := by
  unfold State.served State.touchSession; split <;> rfl

@[simp] theorem State.running_served (s : State) (rq : Rq) (x : Sender) : (s.served rq x).running = s.running := by
  unfold State.served State.touchSession; split <;> rfl

@[simp] theorem State.fresh_served (s : State) (rq : Rq) (x : Sender) : (s.served rq x).fresh = s.fresh := by
  unfold State.served State.touchSession; split <;> rfl

@[simp] theorem State.act_served (s : State) (rq : Rq) (x : Sender) : (s.served rq x).act = s.act := by
  unfold State.served State.touchSession; split <;> rfl

@[simp] theorem State.shd_served (s : State) (rq : Rq) (x : Sender) : (s.served rq x).shd = s.shd := by
  unfold State.served State.touchSession; split <;> rfl

@[simp] theorem State.defects_served (s : State) (rq : Rq) (x : Sender) : (s.served rq x).defects = s.defects := by
  unfold State.served State.touchSession; split <;> rfl

@[simp] theorem State.agenda_served (s : State) (rq : Rq) (x : Sender) : (s.served rq x).agenda = s.agenda := by
  unfold State.served State.touchSession; split <;> rfl

@[simp] theorem State.load_served (s : State) (rq : Rq) (x : Sender) : (s.served rq x).load = s.load := by
  unfold State.served State.touchSession; split <;> rfl

@[simp] theorem State.autoLoad_served (s : State) (rq : Rq) (x : Sender) : (s.served rq x).autoLoad = s.autoLoad := by
  unfold State.served State.touchSession; split <;> rfl

@[simp] theorem State.changes_served (s : State) (rq : Rq) (x : Sender) : (s.served rq x).changes = s.changes := by
  unfold State.served State.touchSession; split <;> rfl

@[simp] theorem State.stream_served (s : State) (rq : Rq) (x : Sender) : (s.served rq x).stream = s.stream := by
  unfold State.served State.touchSession; split <;> rfl

@[simp] theorem State.lastOverrun_served (s : State) (rq : Rq) (x : Sender) : (s.served rq x).lastOverrun = s.lastOverrun := by
  unfold State.served State.touchSession; split <;> rfl

@[simp] theorem State.overrunEpoch_served (s : State) (rq : Rq) (x : Sender) : (s.served rq x).overrunEpoch = s.overrunEpoch := by
  unfold State.served State.touchSession; split <;> rfl

@[simp] theorem State.overrunAt_served (s : State) (rq : Rq) (x : Sender) : (s.served rq x).overrunAt = s.overrunAt := by
  unfold State.served State.touchSession; split <;> rfl

@[simp] theorem State.closed_served (s : State) (rq : Rq) (x : Sender) : (s.served rq x).closed = s.closed := by
  unfold State.served State.touchSession; split <;> rfl

@[simp] theorem State.pllLatch_served (s : State) (rq : Rq) (x : Sender) : (s.served rq x).pllLatch = s.pllLatch := by
  unfold State.served State.touchSession; split <;> rfl

@[simp] theorem State.bar_served (s : State) (rq : Rq) (x : Sender) : (s.served rq x).bar = s.bar := by
  unfold State.served State.touchSession; split <;> rfl

@[simp] theorem State.authEpoch_served (s : State) (rq : Rq) (x : Sender) : (s.served rq x).authEpoch = s.authEpoch := by
  unfold State.served State.touchSession; split <;> rfl

@[simp] theorem State.owed_served (s : State) (rq : Rq) (x : Sender) : (s.served rq x).owed = s.owed := by
  unfold State.served State.touchSession; split <;> rfl

@[simp] theorem State.resyncs_served (s : State) (rq : Rq) (x : Sender) : (s.served rq x).resyncs = s.resyncs := by
  unfold State.served State.touchSession; split <;> rfl

@[simp] theorem State.evq_served (s : State) (rq : Rq) (x : Sender) : (s.served rq x).evq = s.evq := by
  unfold State.served State.touchSession; split <;> rfl

@[simp] theorem State.eng_served (s : State) (rq : Rq) (x : Sender) : (s.served rq x).eng = s.eng := by
  unfold State.served State.touchSession; split <;> rfl

@[simp] theorem State.bondSpread_served (s : State) (rq : Rq) (x : Sender) : (s.served rq x).bondSpread = s.bondSpread := by
  unfold State.served State.touchSession; split <;> rfl

@[simp] theorem State.gccOut_served (s : State) (rq : Rq) (x : Sender) : (s.served rq x).gccOut = s.gccOut := by
  unfold State.served State.touchSession; split <;> rfl

@[simp] theorem State.gccIn_served (s : State) (rq : Rq) (x : Sender) : (s.served rq x).gccIn = s.gccIn := by
  unfold State.served State.touchSession; split <;> rfl

@[simp] theorem State.gccEpoch_served (s : State) (rq : Rq) (x : Sender) : (s.served rq x).gccEpoch = s.gccEpoch := by
  unfold State.served State.touchSession; split <;> rfl

@[simp] theorem State.ohpSent_served (s : State) (rq : Rq) (x : Sender) : (s.served rq x).ohpSent = s.ohpSent := by
  unfold State.served State.touchSession; split <;> rfl

@[simp] theorem State.clients_served (s : State) (rq : Rq) (x : Sender) : (s.served rq x).clients = s.clients := by
  unfold State.served State.touchSession; split <;> rfl

@[simp] theorem State.cells_served (s : State) (rq : Rq) (x : Sender) : (s.served rq x).cells = s.cells := by
  unfold State.served State.touchSession; split <;> rfl

@[simp] theorem State.timing_served (s : State) (rq : Rq) (x : Sender) : (s.served rq x).timing = s.timing := by
  unfold State.served State.touchSession; split <;> rfl

@[simp] theorem State.prot_served (s : State) (rq : Rq) (x : Sender) : (s.served rq x).prot = s.prot := by
  unfold State.served State.touchSession; split <;> rfl

@[simp] theorem State.sec_served (s : State) (rq : Rq) (x : Sender) : (s.served rq x).sec = s.sec := by
  unfold State.served State.touchSession; split <;> rfl

@[simp] theorem State.prism_served (s : State) (rq : Rq) (x : Sender) : (s.served rq x).prism = s.prism := by
  unfold State.served State.touchSession; split <;> rfl

@[simp] theorem State.shadow_served (s : State) (rq : Rq) (x : Sender) : (s.served rq x).shadow = s.shadow := by
  unfold State.served State.touchSession; split <;> rfl

@[simp] theorem State.instr_served (s : State) (rq : Rq) (x : Sender) : (s.served rq x).instr = s.instr := by
  unfold State.served State.touchSession; split <;> rfl

@[simp] theorem State.pm_served (s : State) (rq : Rq) (x : Sender) : (s.served rq x).pm = s.pm := by
  unfold State.served State.touchSession; split <;> rfl

@[simp] theorem State.ring_served (s : State) (rq : Rq) (x : Sender) : (s.served rq x).ring = s.ring := by
  unfold State.served State.touchSession; split <;> rfl

@[simp] theorem State.stores_served (s : State) (rq : Rq) (x : Sender) : (s.served rq x).stores = s.stores := by
  unfold State.served State.touchSession; split <;> rfl

@[simp] theorem State.inject_served (s : State) (rq : Rq) (x : Sender) : (s.served rq x).inject = s.inject := by
  unfold State.served State.touchSession; split <;> rfl

@[simp] theorem State.power_served (s : State) (rq : Rq) (x : Sender) : (s.served rq x).power = s.power := by
  unfold State.served State.touchSession; split <;> rfl

@[simp] theorem State.mc_served (s : State) (rq : Rq) (x : Sender) : (s.served rq x).mc = s.mc := by
  unfold State.served State.touchSession; split <;> rfl

theorem State.reg_served (s : State) (rq : Rq) (x : Sender) : (s.served rq x).reg = (s.bump Obj.QM_REQ_COUNT).reg := by
  unfold State.served State.touchSession; split <;> rfl

/-- Every object but the count of requests reads as before. -/
@[simp] theorem State.obj_served_ne (s : State) (rq : Rq) (x : Sender) {k : Key} (h : k ≠ Obj.QM_REQ_COUNT) :
    (s.served rq x).obj k = s.obj k := by
  rw [State.obj_eq (State.reg_served s rq x)]; exact State.obj_bump_ne s 1 h

@[simp] theorem State.engine_served (s : State) (rq : Rq) (x : Sender) (e : Nat) : (s.served rq x).engine e = s.engine e := by
  unfold State.engine; rw [State.eng_served]

@[simp] theorem State.declared_served (s : State) (rq : Rq) (x : Sender) (d i : Nat) : (s.served rq x).declared d i = s.declared d i := by
  unfold State.declared; simp

/-- A request that is served runs its body on the state in which it is carried out. -/
theorem serve_served {op minRole : Nat} {rq : Rq} {x : Sender} {s : State} (h : Served op minRole rq x s)
    (body : Sender → State → Reply) :
    serve op minRole rq body s =
      (let r := body x (s.served rq x)
       if r.later then (if rq.slot = none then r.state.withBar fun b => { b with own := true, ready := false } else r.state)
       else r.state.deliver rq op r.status r.payload) := by
  have hr : ¬ x.role < minRole := Nat.not_lt.mpr h.role
  unfold serve
  rw [if_neg (by simp [h.alive]), if_neg h.mailbox, if_pos h.ready, if_neg (by simp [h.version]), State.sender_bump, h.sender]
  simp only [if_neg hr]
  rw [if_neg (not_not.mpr h.length)]
  rfl

/-- An accepted write that its chapter takes has the chapter's effect and answers OK. -/
theorem serveWrite_accepted {rq : Rq} {x : Sender} {k : Key} {val v : Val} {s t : State} (h : Accepted rq x k val v s)
    (accept : Accept) (g : accept k v (s.served rq x) = (.ok, t)) : serveWrite accept rq k val s = t.answered rq := by
  obtain ⟨hs, r, hc⟩ := h
  unfold serveWrite
  rw [serve_served hs]
  simp only [hc, g]
  rfl

/-- An accepted write that its chapter turns away answers that status and changes nothing else. -/
theorem serveWrite_refused {rq : Rq} {x : Sender} {k : Key} {val v : Val} {s t : State} {st : Status} (h : Accepted rq x k val v s)
    (accept : Accept) (g : accept k v (s.served rq x) = (st, t)) : serveWrite accept rq k val s = t.deliver rq Op.write st [] := by
  obtain ⟨hs, r, hc⟩ := h
  unfold serveWrite
  rw [serve_served hs]
  simp only [hc, g]
  rfl

end Sys2Proof.Machine
end

