-- ==== Sys2Proof/Laws/Secure.lean ====
section
/-! SUPPORT. The parts of a sealed and of an opened frame (R321 to R324). -/

namespace Sys2Proof.Machine

/-- A number in two parts, of which the lower has its own width. -/
theorem two_parts (c x n : Nat) (h : 0 < n) : (c * n + x % n) / n = c ∧ (c * n + x % n) % n = x % n := by
  rw [Nat.mul_comm, Nat.mul_add_div h, Nat.mul_add_mod, Nat.div_eq_of_lt (Nat.mod_lt _ h), Nat.mod_mod]
  exact ⟨rfl, rfl⟩

theorem sealFrame_soh (k : SecKey) (fc : Nat) (b : OduBody) : (sealFrame k fc b).soh = frameSoh k fc := rfl
theorem sealFrame_mirror (k : SecKey) (fc : Nat) (b : OduBody) : (sealFrame k fc b).mirror = b.mirror := rfl
theorem sealFrame_psi (k : SecKey) (fc : Nat) (b : OduBody) : (sealFrame k fc b).psi = b.psi := rfl

/-- The AAD goes by the SOH that is sent (R323). -/
theorem sealFrame_aad (k : SecKey) (fc : Nat) (b : OduBody) : (sealFrame k fc b).aad = ({ b with soh := frameSoh k fc } : OduBody).aad := by
  unfold OduBody.aad
  rw [sealFrame_soh, sealFrame_mirror, sealFrame_psi]

/-- The ciphertext of a sealed frame, and its tag over the AAD and the ciphertext. -/
theorem sealFrame_payload (k : SecKey) (fc : Nat) (b : OduBody) :
    (sealFrame k fc b).payload / 256 ^ 16 = bytesOf 15216 (Config.gcmEncrypt k.key (frameIv k fc) (b.payload / 256 ^ 16)) 0 15216 ∧
    (sealFrame k fc b).payload % 256 ^ 16 = Config.gcmTag k.key (frameIv k fc) ({ b with soh := frameSoh k fc } : OduBody).aad
      (bytesOf 15216 (Config.gcmEncrypt k.key (frameIv k fc) (b.payload / 256 ^ 16)) 0 15216) % 256 ^ 16 :=
  two_parts _ _ _ (by decide)

/-- A tag fits where it is that of the frame's own AAD and ciphertext. -/
theorem tagFits_iff (k : SecKey) (b : OduBody) : tagFits k b = true ↔
    Config.gcmTag k.key (frameIv k b.fc) b.aad (b.payload / 256 ^ 16) % 256 ^ 16 = b.payload % 256 ^ 16 := decide_eq_true_iff

/-- An opened frame ends in 16 zero bytes. -/
theorem openFrame_payload (k : SecKey) (b : OduBody) : (openFrame k b).payload % 256 ^ 16 = 0 ∧ (openFrame k b).payload / 256 ^ 16 =
    bytesOf 15216 (Config.gcmDecrypt k.key (frameIv k b.fc) (b.payload / 256 ^ 16)) 0 15216 :=
  ⟨Nat.mul_mod_left _ _, Nat.mul_div_cancel _ (by decide)⟩

end Sys2Proof.Machine
end

