-- ==== Sys2Proof/Laws/SteadyOps.lean ====
section
/-! SUPPORT. What work within one tick keeps, one lemma per operation and command: the shared operations. -/

namespace Sys2Proof.Machine

/-- `t` comes from `s` by work within one elapsed tick: the queue and the elapsed tick are those of `s`, and canonical stores stay canonical. -/
structure Steady (s t : State) : Prop where
  pending : t.pending = s.pending
  now : t.now = s.now
  canonical : Canonical s → Canonical t

theorem Steady.rfl {s : State} : Steady s s := ⟨Eq.refl _, Eq.refl _, id⟩

/-- An update that leaves the queue, the elapsed tick and the four stores alone. -/
theorem Steady.congr {r s t : State} (h : Steady r s) (hp : t.pending = s.pending) (hn : t.now = s.now) (hr : t.reg = s.reg)
    (ha : t.act = s.act) (hs : t.shd = s.shd) (hd : t.defects = s.defects) : Steady r t :=
  ⟨hp.trans h.pending, hn.trans h.now, fun c => by
    have := h.canonical c; simpa only [Canonical, hr, ha, hs, hd] using this⟩

theorem Steady.fields {r s : State} (h : Steady r s) {f_tick f_counted f_running f_fresh f_agenda f_load f_autoLoad f_changes f_stream f_lastOverrun f_overrunEpoch f_overrunAt f_closed f_pllLatch f_bar f_sessions f_authEpoch f_owed f_resyncs f_evq f_eng f_bondSpread f_gccOut f_gccIn f_gccEpoch f_ohpSent f_clients f_cells f_timing f_prot f_sec f_prism f_shadow f_instr f_pm f_ring f_stores f_inject f_power f_mc} : Steady r (State.mk s.pending s.now f_tick f_counted f_running f_fresh s.reg s.act s.shd s.defects f_agenda f_load f_autoLoad f_changes f_stream f_lastOverrun f_overrunEpoch f_overrunAt f_closed f_pllLatch f_bar f_sessions f_authEpoch f_owed f_resyncs f_evq f_eng f_bondSpread f_gccOut f_gccIn f_gccEpoch f_ohpSent f_clients f_cells f_timing f_prot f_sec f_prism f_shadow f_instr f_pm f_ring f_stores f_inject f_power f_mc) :=
  h.congr (Eq.refl _) (Eq.refl _) (Eq.refl _) (Eq.refl _) (Eq.refl _) (Eq.refl _)

theorem Steady.ite {r a b : State} {c : Prop} [Decidable c] : Steady r (if c then a else b) ↔ (c → Steady r a) ∧ (¬ c → Steady r b) := by
  split <;> simp_all

theorem Steady.snd_ite {α : Type} {r : State} {a b : α × State} {c : Prop} [Decidable c] :
    Steady r (if c then a else b).2 ↔ (c → Steady r a.2) ∧ (¬ c → Steady r b.2) := by
  split <;> simp_all

theorem Steady.fst_ite {α : Type} {r : State} {a b : State × α} {c : Prop} [Decidable c] :
    Steady r (if c then a else b).1 ↔ (c → Steady r a.1) ∧ (¬ c → Steady r b.1) := by
  split <;> simp_all

theorem Steady.foldl {α : Type} {r s : State} (l : List α) (f : State → α → State) (hs : Steady r s)
    (hf : ∀ t x, Steady r t → Steady r (f t x)) : Steady r (l.foldl f s) := by
  induction l generalizing s with
  | nil => exact hs
  | cons x l ih => exact ih (hf _ _ hs)

/-- A command completes, and what it leads to comes from `r` within one elapsed tick. -/
def OutSteady (r : State) (o : Out) : Prop := ∃ t, o = .next t ∧ Steady r t

theorem OutSteady.next {r t : State} : OutSteady r (.next t) ↔ Steady r t :=
  ⟨fun ⟨_, e, h⟩ => by cases e; exact h, fun h => ⟨t, Eq.refl _, h⟩⟩

theorem OutSteady.ite {r : State} {a b : Out} {c : Prop} [Decidable c] :
    OutSteady r (if c then a else b) ↔ (c → OutSteady r a) ∧ (¬ c → OutSteady r b) := by
  split <;> simp_all

theorem State.setObj_steady {r : State} (s : State) (k : Key) (v : Nat) (h : Steady r s) : Steady r (s.setObj k v) :=
  ⟨h.pending, h.now, fun c => by
    have ⟨a, b, c, d⟩ := h.canonical c; exact ⟨Map.wf_set _ _ _ _ a, b, c, d⟩⟩

theorem State.setShadow_steady {r : State} (s : State) (k : Key) (v : Nat) (h : Steady r s) : Steady r (s.setShadow k v) :=
  ⟨h.pending, h.now, fun c => by
    have ⟨a, b, c, d⟩ := h.canonical c; exact ⟨a, b, Map.wf_set _ _ _ _ c, d⟩⟩

theorem State.atBoundary_steady {r : State} (s : State) (f : State → State) (h : Steady r s) (hf : ∀ q t, Steady q t → Steady q (f t)) :
    Steady r (s.atBoundary f) := by
  have g := hf _ _ (Steady.rfl (s := { s with now := s.now + 1, tick := s.nextTick }))
  exact ⟨g.pending.trans h.pending, h.now, fun c => g.canonical (h.canonical c)⟩

theorem State.runDue_steady {r : State} (s : State) (apply : Due → State → State) (p : Due → Bool) (h : Steady r s)
    (hf : ∀ d t, Steady r t → Steady r (apply d t)) : Steady r (s.runDue apply p) := by
  unfold State.runDue
  exact Steady.foldl _ _ h.fields (fun t x => hf x.due t)

theorem State.declare_steady {r : State} (s : State) (d inst : Nat) (h : Steady r s) : Steady r (s.declare d inst) := by
  have w := fun c => Map.wf_set (fun _ => 0) s.defects (defectKey d inst) (s.tick + 1) (h.canonical c).2.2.2
  unfold State.declare
  split
  all_goals first
    | exact h
    | exact ⟨h.pending, h.now, fun c => ⟨(h.canonical c).1, (h.canonical c).2.1, (h.canonical c).2.2.1, w c⟩⟩

theorem State.clear_steady {r : State} (s : State) (d inst : Nat) (h : Steady r s) : Steady r (s.clear d inst) := by
  have w := fun c => Map.wf_set (fun _ => 0) s.defects (defectKey d inst) 0 (h.canonical c).2.2.2
  unfold State.clear
  split
  all_goals first
    | exact h
    | exact ⟨h.pending, h.now, fun c => ⟨(h.canonical c).1, (h.canonical c).2.1, (h.canonical c).2.2.1, w c⟩⟩

theorem Steady.actSet {r s : State} (h : Steady r s) {k : Key} {v : Nat} {f_tick f_counted f_running f_fresh f_agenda f_load f_autoLoad f_changes f_stream f_lastOverrun f_overrunEpoch f_overrunAt f_closed f_pllLatch f_bar f_sessions f_authEpoch f_owed f_resyncs f_evq f_eng f_bondSpread f_gccOut f_gccIn f_gccEpoch f_ohpSent f_clients f_cells f_timing f_prot f_sec f_prism f_shadow f_instr f_pm f_ring f_stores f_inject f_power f_mc} : Steady r (State.mk s.pending s.now f_tick f_counted f_running f_fresh s.reg (Map.set (objDefault k) s.act k v) s.shd s.defects f_agenda f_load f_autoLoad f_changes f_stream f_lastOverrun f_overrunEpoch f_overrunAt f_closed f_pllLatch f_bar f_sessions f_authEpoch f_owed f_resyncs f_evq f_eng f_bondSpread f_gccOut f_gccIn f_gccEpoch f_ohpSent f_clients f_cells f_timing f_prot f_sec f_prism f_shadow f_instr f_pm f_ring f_stores f_inject f_power f_mc) :=
  ⟨h.pending, h.now, fun c => by
    have ⟨a, b, c, d⟩ := h.canonical c; exact ⟨a, Map.wf_set _ _ _ _ b, c, d⟩⟩

theorem Steady.regFilter {r s : State} (h : Steady r s) {p : Key × Nat → Bool} {f_tick f_counted f_running f_fresh f_agenda f_load f_autoLoad f_changes f_stream f_lastOverrun f_overrunEpoch f_overrunAt f_closed f_pllLatch f_bar f_sessions f_authEpoch f_owed f_resyncs f_evq f_eng f_bondSpread f_gccOut f_gccIn f_gccEpoch f_ohpSent f_clients f_cells f_timing f_prot f_sec f_prism f_shadow f_instr f_pm f_ring f_stores f_inject f_power f_mc} : Steady r (State.mk s.pending s.now f_tick f_counted f_running f_fresh (s.reg.filter p) s.act s.shd s.defects f_agenda f_load f_autoLoad f_changes f_stream f_lastOverrun f_overrunEpoch f_overrunAt f_closed f_pllLatch f_bar f_sessions f_authEpoch f_owed f_resyncs f_evq f_eng f_bondSpread f_gccOut f_gccIn f_gccEpoch f_ohpSent f_clients f_cells f_timing f_prot f_sec f_prism f_shadow f_instr f_pm f_ring f_stores f_inject f_power f_mc) :=
  ⟨h.pending, h.now, fun c => by
    have ⟨a, b, c, d⟩ := h.canonical c; exact ⟨Map.wf_filter _ _ _ a, b, c, d⟩⟩

theorem Steady.shdAct {r s u : State} (h : Steady r s) (g : Steady r u) {f_tick f_counted f_running f_fresh f_agenda f_load f_autoLoad f_changes f_stream f_lastOverrun f_overrunEpoch f_overrunAt f_closed f_pllLatch f_bar f_sessions f_authEpoch f_owed f_resyncs f_evq f_eng f_bondSpread f_gccOut f_gccIn f_gccEpoch f_ohpSent f_clients f_cells f_timing f_prot f_sec f_prism f_shadow f_instr f_pm f_ring f_stores f_inject f_power f_mc} : Steady r (State.mk s.pending s.now f_tick f_counted f_running f_fresh s.reg s.act u.act s.defects f_agenda f_load f_autoLoad f_changes f_stream f_lastOverrun f_overrunEpoch f_overrunAt f_closed f_pllLatch f_bar f_sessions f_authEpoch f_owed f_resyncs f_evq f_eng f_bondSpread f_gccOut f_gccIn f_gccEpoch f_ohpSent f_clients f_cells f_timing f_prot f_sec f_prism f_shadow f_instr f_pm f_ring f_stores f_inject f_power f_mc) :=
  ⟨h.pending, h.now, fun c => ⟨(h.canonical c).1, (h.canonical c).2.1, (g.canonical c).2.1, (h.canonical c).2.2.2⟩⟩

theorem Steady.actShd {r s : State} (h : Steady r s) {f_tick f_counted f_running f_fresh f_agenda f_load f_autoLoad f_changes f_stream f_lastOverrun f_overrunEpoch f_overrunAt f_closed f_pllLatch f_bar f_sessions f_authEpoch f_owed f_resyncs f_evq f_eng f_bondSpread f_gccOut f_gccIn f_gccEpoch f_ohpSent f_clients f_cells f_timing f_prot f_sec f_prism f_shadow f_instr f_pm f_ring f_stores f_inject f_power f_mc} : Steady r (State.mk s.pending s.now f_tick f_counted f_running f_fresh s.reg s.shd s.shd s.defects f_agenda f_load f_autoLoad f_changes f_stream f_lastOverrun f_overrunEpoch f_overrunAt f_closed f_pllLatch f_bar f_sessions f_authEpoch f_owed f_resyncs f_evq f_eng f_bondSpread f_gccOut f_gccIn f_gccEpoch f_ohpSent f_clients f_cells f_timing f_prot f_sec f_prism f_shadow f_instr f_pm f_ring f_stores f_inject f_power f_mc) :=
  ⟨h.pending, h.now, fun c => by
    have ⟨a, b, c, d⟩ := h.canonical c; exact ⟨a, c, c, d⟩⟩

/-! ## Ops -/

theorem State.bump_steady {o0 : State} (s : State) (k : Key) (n : Nat) (h0 : Steady o0 s) : Steady o0 (State.bump s k n) := by
  unfold State.bump
  simp +contextual (maxDischargeDepth := 60) only [↓State.setObj_steady, h0]

theorem State.setInt_steady {o0 : State} (s : State) (k : Key) (z : Int) (h0 : Steady o0 s) : Steady o0 (State.setInt s k z) := by
  unfold State.setInt
  simp +contextual (maxDischargeDepth := 60) only [↓State.setObj_steady, h0]

theorem State.drawn_steady {o0 : State} (s : State) (h0 : Steady o0 s) : Steady o0 (State.drawn s) := by
  unfold State.drawn
  simp +contextual (maxDischargeDepth := 60) only [↓Steady.fields, h0]

theorem State.setEngine_steady {o0 : State} (s : State) (e : Nat) (r : Engine) (h0 : Steady o0 s) : Steady o0 (State.setEngine s e r) := by
  unfold State.setEngine
  simp +contextual (maxDischargeDepth := 60) only [↓Steady.fields, h0]

theorem State.withEngine_steady {o0 : State} (s : State) (e : Nat) (f : Engine → Engine) (h0 : Steady o0 s) : Steady o0 (State.withEngine s e f) := by
  unfold State.withEngine
  simp +contextual (maxDischargeDepth := 60) only [↓State.setEngine_steady, h0]

theorem State.withPrism_steady {o0 : State} (s : State) (f : Prism → Prism) (h0 : Steady o0 s) : Steady o0 (State.withPrism s f) := by
  unfold State.withPrism
  simp +contextual (maxDischargeDepth := 60) only [↓Steady.fields, h0]

theorem State.withShadow_steady {o0 : State} (s : State) (f : Shadow → Shadow) (h0 : Steady o0 s) : Steady o0 (State.withShadow s f) := by
  unfold State.withShadow
  simp +contextual (maxDischargeDepth := 60) only [↓Steady.fields, h0]

theorem State.withBar_steady {o0 : State} (s : State) (f : Bar0 → Bar0) (h0 : Steady o0 s) : Steady o0 (State.withBar s f) := by
  unfold State.withBar
  simp +contextual (maxDischargeDepth := 60) only [↓Steady.fields, h0]

theorem State.withRing_steady {o0 : State} (s : State) (f : Ring → Ring) (h0 : Steady o0 s) : Steady o0 (State.withRing s f) := by
  unfold State.withRing
  simp +contextual (maxDischargeDepth := 60) only [↓Steady.fields, h0]

theorem State.withStores_steady {o0 : State} (s : State) (f : Stores → Stores) (h0 : Steady o0 s) : Steady o0 (State.withStores s f) := by
  unfold State.withStores
  simp +contextual (maxDischargeDepth := 60) only [↓Steady.fields, h0]

theorem State.withInject_steady {o0 : State} (s : State) (f : Injection → Injection) (h0 : Steady o0 s) : Steady o0 (State.withInject s f) := by
  unfold State.withInject
  simp +contextual (maxDischargeDepth := 60) only [↓Steady.fields, h0]

theorem State.withPower_steady {o0 : State} (s : State) (f : Power → Power) (h0 : Steady o0 s) : Steady o0 (State.withPower s f) := by
  unfold State.withPower
  simp +contextual (maxDischargeDepth := 60) only [↓Steady.fields, h0]

theorem State.withMc_steady {o0 : State} (s : State) (f : Mc → Mc) (h0 : Steady o0 s) : Steady o0 (State.withMc s f) := by
  unfold State.withMc
  simp +contextual (maxDischargeDepth := 60) only [↓Steady.fields, h0]

theorem State.setPage_steady {o0 : State} (s : State) (region page : Nat) (x : StorePage) (h0 : Steady o0 s) : Steady o0 (State.setPage s region page x) := by
  unfold State.setPage
  simp +contextual (maxDischargeDepth := 60) only [↓State.withStores_steady, h0]

theorem State.healShadowCt_steady {o0 : State} (s : State) (h0 : Steady o0 s) : Steady o0 (State.healShadowCt s) := by
  unfold State.healShadowCt
  simp +contextual (maxDischargeDepth := 60) only [↓State.withStores_steady, h0]

theorem State.swapCtPages_steady {o0 : State} (s : State) (h0 : Steady o0 s) : Steady o0 (State.swapCtPages s) := by
  unfold State.swapCtPages
  simp +contextual (maxDischargeDepth := 60) only [↓State.withStores_steady, h0]

theorem State.plan_steady {o0 : State} (s : State) (boundary : Nat) (d : Due) (h0 : Steady o0 s) : Steady o0 (State.plan s boundary d) := by
  unfold State.plan
  simp +contextual (maxDischargeDepth := 60) only [↓Steady.fields, h0]

theorem State.stageAt_steady {o0 : State} (s : State) (boundary : Nat) (k : Key) (v : Nat) (h0 : Steady o0 s) : Steady o0 (State.stageAt s boundary k v) := by
  unfold State.stageAt
  simp +contextual (maxDischargeDepth := 60) only [↓Steady.fields, h0]

theorem State.stage_steady {o0 : State} (s : State) (k : Key) (v : Nat) (h0 : Steady o0 s) : Steady o0 (State.stage s k v) := by
  unfold State.stage
  simp +contextual (maxDischargeDepth := 60) only [↓State.stageAt_steady, h0]

/-! ## Flags -/

theorem State.raise_steady {o0 : State} (s : State) (ev : EvRow) (fields : List Nat) (h0 : Steady o0 s) : Steady o0 (State.raise s ev fields) := by
  unfold State.raise
  simp +contextual (maxDischargeDepth := 60) only [↓Steady.fields, h0]

theorem State.raiseAt_steady {o0 : State} (s : State) (tick : Nat) (ev : EvRow) (fields : List Nat) (h0 : Steady o0 s) : Steady o0 (State.raiseAt s tick ev fields) := by
  unfold State.raiseAt
  simp +contextual (maxDischargeDepth := 60) only [↓Steady.fields, h0]

theorem State.noteRequest_steady {o0 : State} (s : State) (g request : Nat) (h0 : Steady o0 s) : Steady o0 (State.noteRequest s g request) := by
  unfold State.noteRequest
  simp +contextual (maxDischargeDepth := 60) only [↓Steady.fields, h0]

theorem State.setDefect_steady {o0 : State} (s : State) (d inst : Nat) (on : Bool) (h0 : Steady o0 s) : Steady o0 (State.setDefect s d inst on) := by
  unfold State.setDefect
  simp +contextual (maxDischargeDepth := 60) only [↓Steady.ite, ↓State.clear_steady, ↓State.declare_steady, h0, implies_true, and_self]

theorem State.logUncorr_steady {o0 : State} (s : State) (region page reader : Nat) (h0 : Steady o0 s) : Steady o0 (State.logUncorr s region page reader) := by
  unfold State.logUncorr
  simp +contextual (maxDischargeDepth := 60) only [↓Steady.foldl, ↓State.bump_steady, ↓State.setObj_steady, h0, implies_true]

theorem State.markBad_steady {o0 : State} (s : State) (region page : Nat) (h0 : Steady o0 s) : Steady o0 (State.markBad s region page) := by
  unfold State.markBad
  simp +contextual (maxDischargeDepth := 60) only [↓State.setPage_steady, h0]

theorem State.irq_steady {o0 : State} (s : State) (vector : Nat) (h0 : Steady o0 s) : Steady o0 (State.irq s vector) := by
  unfold State.irq
  simp +contextual (maxDischargeDepth := 60) only [↓State.withBar_steady, h0]

theorem State.setBoot_steady {o0 : State} (s : State) (state cause err : Nat) (h0 : Steady o0 s) : Steady o0 (State.setBoot s state cause err) := by
  unfold State.setBoot
  simp +contextual (maxDischargeDepth := 60) only [↓State.irq_steady, ↓State.withBar_steady, h0]

/-! ## Operands -/

theorem State.setSession_steady {o0 : State} (s : State) (k : Nat) (x : Session) (h0 : Steady o0 s) : Steady o0 (State.setSession s k x) := by
  unfold State.setSession
  simp +contextual (maxDischargeDepth := 60) only [↓Steady.fields, h0]

theorem State.closeSession_steady {o0 : State} (s : State) (k cause : Nat) (h0 : Steady o0 s) : Steady o0 (State.closeSession s k cause) := by
  unfold State.closeSession
  simp +contextual (maxDischargeDepth := 60) only [↓Steady.ite, ↓Steady.foldl, ↓State.raise_steady, ↓State.setObj_steady, ↓State.setSession_steady, h0, implies_true, and_self]

theorem State.authFail_steady {o0 : State} (s : State) (rq : Rq) (h0 : Steady o0 s) : Steady o0 (State.authFail s rq) := by
  unfold State.authFail
  simp +contextual (maxDischargeDepth := 60) only [↓Steady.ite, ↓Steady.fields, ↓State.bump_steady, ↓State.raise_steady, h0, implies_true, and_self]

theorem State.touchSession_steady {o0 : State} (s : State) (rq : Rq) (x : Sender) (h0 : Steady o0 s) : Steady o0 (State.touchSession s rq x) := by
  unfold State.touchSession
  repeat' split
  all_goals simp +contextual (maxDischargeDepth := 60) only [↓State.setSession_steady, h0]

theorem State.frameSent_steady {o0 : State} (s : State) (rq : Rq) (h0 : Steady o0 s) : Steady o0 (State.frameSent s rq) := by
  unfold State.frameSent
  repeat' split
  all_goals simp +contextual (maxDischargeDepth := 60) only [↓State.setSession_steady, h0]

theorem State.deliver_steady {o0 : State} (s : State) (rq : Rq) (op : Nat) (st : Status) (payload : List Fld) (h0 : Steady o0 s) : Steady o0 (State.deliver s rq op st payload) := by
  unfold State.deliver
  repeat' split
  all_goals simp +contextual (maxDischargeDepth := 60) only [↓Steady.fields, ↓State.bump_steady, ↓State.frameSent_steady, ↓State.irq_steady, ↓State.withBar_steady, h0]

theorem serve_steady {o0 : State} (op minRole : Nat) (rq : Rq) (body : Sender → State → Reply) (s : State) (h0 : Steady o0 s)
    (hb : ∀ x t, Steady o0 t → Steady o0 (body x t).state) : Steady o0 (serve op minRole rq body s) := by
  unfold serve
  split
  · exact h0
  split
  · exact State.withBar_steady _ _ h0
  split
  · simp only []
    have h1 := State.bump_steady s Obj.QM_REQ_COUNT 1 h0
    split
    · exact State.deliver_steady _ _ _ _ _ h1
    · split
      · exact State.deliver_steady _ _ _ _ _ (State.authFail_steady _ _ h1)
      · have h2 := State.touchSession_steady _ rq ‹Sender› h1
        have h3 := hb ‹Sender› _ h2
        simp +contextual (maxDischargeDepth := 60) only [↓Steady.ite, ↓State.deliver_steady, ↓State.withBar_steady, h2, h3, implies_true, and_self]
  · exact State.deliver_steady _ _ _ _ _ h0


theorem serveWrite_steady {o0 : State} (accept : Accept) (rq : Rq) (k : Key) (val : Val) (s : State) (h0 : Steady o0 s)
    (ha : ∀ k v t, Steady o0 t → Steady o0 (accept k v t).2) : Steady o0 (serveWrite accept rq k val s) := by
  unfold serveWrite
  refine serve_steady _ _ _ _ _ h0 fun x t ht => ?_
  split
  · exact ht
  · exact ha _ _ _ ht


theorem acceptStage_steady {o0 : State} (k : Key) (v : Val) {s : State} (h0 : Steady o0 s) : Steady o0 (acceptStage k v s).2 := by
  unfold acceptStage
  simp +contextual (maxDischargeDepth := 60) only [↓State.stage_steady, h0]

/-! ## References -/

theorem State.withTiming_steady {o0 : State} (s : State) (f : Timing → Timing) (h0 : Steady o0 s) : Steady o0 (State.withTiming s f) := by
  unfold State.withTiming
  simp +contextual (maxDischargeDepth := 60) only [↓Steady.fields, h0]

theorem State.withRef_steady {o0 : State} (s : State) (r : Nat) (f : Ref → Ref) (h0 : Steady o0 s) : Steady o0 (State.withRef s r f) := by
  unfold State.withRef
  simp +contextual (maxDischargeDepth := 60) only [↓State.withTiming_steady, h0]

theorem State.withDpll_steady {o0 : State} (s : State) (d : Nat) (f : Dpll → Dpll) (h0 : Steady o0 s) : Steady o0 (State.withDpll s d f) := by
  unfold State.withDpll
  simp +contextual (maxDischargeDepth := 60) only [↓State.withTiming_steady, h0]

theorem State.refreshLevel_steady {o0 : State} (s : State) (r : Nat) (h0 : Steady o0 s) : Steady o0 (State.refreshLevel s r) := by
  unfold State.refreshLevel
  simp +contextual (maxDischargeDepth := 60) only [↓Steady.ite, ↓State.raise_steady, ↓State.setObj_steady, h0, implies_true, and_self]

theorem State.setRefState_steady {o0 : State} (s : State) (r new : Nat) (h0 : Steady o0 s) : Steady o0 (State.setRefState s r new) := by
  unfold State.setRefState
  simp +contextual (maxDischargeDepth := 60) only [↓Steady.ite, ↓State.raise_steady, ↓State.refreshLevel_steady, ↓State.setObj_steady, h0, implies_true, and_self]

theorem State.freezeTrackers_steady {o0 : State} (s : State) (r : Nat) (h0 : Steady o0 s) : Steady o0 (State.freezeTrackers s r) := by
  unfold State.freezeTrackers
  simp +contextual (maxDischargeDepth := 60) only [↓Steady.ite, ↓Steady.foldl, ↓State.withDpll_steady, h0, implies_true, and_self]

theorem State.failRef_steady {o0 : State} (s : State) (r : Nat) (h0 : Steady o0 s) : Steady o0 (State.failRef s r) := by
  unfold State.failRef
  simp +contextual (maxDischargeDepth := 60) only [↓Steady.ite, ↓State.freezeTrackers_steady, ↓State.setObj_steady, ↓State.setRefState_steady, ↓State.withRef_steady, h0, implies_true, and_self]

theorem State.followRef_steady {o0 : State} (s : State) (r : Nat) (h0 : Steady o0 s) : Steady o0 (State.followRef s r) := by
  unfold State.followRef
  simp +contextual (maxDischargeDepth := 60) only [↓Steady.ite, ↓State.failRef_steady, h0, implies_true, and_self]

theorem State.followLane_steady {o0 : State} (s : State) (l : Nat) (h0 : Steady o0 s) : Steady o0 (State.followLane s l) := by
  unfold State.followLane
  simp +contextual (maxDischargeDepth := 60) only [↓Steady.ite, ↓Steady.foldl, ↓State.followRef_steady, h0, implies_true, and_self]

theorem State.startQualifying_steady {o0 : State} (s : State) (r : Nat) (h0 : Steady o0 s) : Steady o0 (State.startQualifying s r) := by
  unfold State.startQualifying
  simp +contextual (maxDischargeDepth := 60) only [↓State.setRefState_steady, ↓State.withRef_steady, h0]

theorem State.dropQualified_steady {o0 : State} (s : State) (r : Nat) (h0 : Steady o0 s) : Steady o0 (State.dropQualified s r) := by
  unfold State.dropQualified
  simp +contextual (maxDischargeDepth := 60) only [↓State.setRefState_steady, ↓State.withRef_steady, h0]

theorem State.followChecks_steady {o0 : State} (s : State) (r : Nat) (h0 : Steady o0 s) : Steady o0 (State.followChecks s r) := by
  unfold State.followChecks
  repeat' split
  all_goals simp +contextual (maxDischargeDepth := 60) only [↓State.dropQualified_steady, ↓State.startQualifying_steady, h0]

theorem State.recoverRef_steady {o0 : State} (s : State) (r : Nat) (h0 : Steady o0 s) : Steady o0 (State.recoverRef s r) := by
  unfold State.recoverRef
  simp +contextual (maxDischargeDepth := 60) only [↓Steady.ite, ↓State.followChecks_steady, ↓State.startQualifying_steady, ↓State.withRef_steady, h0, implies_true, and_self]

theorem State.clearRef_steady {o0 : State} (s : State) (r : Nat) (h0 : Steady o0 s) : Steady o0 (State.clearRef s r) := by
  unfold State.clearRef
  simp +contextual (maxDischargeDepth := 60) only [↓Steady.ite, ↓State.recoverRef_steady, ↓State.withRef_steady, h0, implies_true, and_self]

end Sys2Proof.Machine
end

