-- ==== Sys2Proof/Laws/SteadyLine.lean ====
section
/-! SUPPORT. What work within one tick keeps, one lemma per operation and command: receivers, host ports, Prism, framing, protection, line security, MirrorMerge, expansion and FEC. -/

namespace Sys2Proof.Machine

/-! ## Receiver -/

theorem State.refreshTx_steady {o0 : State} (s : State) (e : Nat) (h0 : Steady o0 s) : Steady o0 (State.refreshTx s e) := by
  unfold State.refreshTx
  simp +contextual (maxDischargeDepth := 60) only [↓Steady.ite, ↓State.setEngine_steady, h0, implies_true, and_self]

theorem State.retargetTx_steady {o0 : State} (s : State) (e : Nat) (level : Int) (ended : Nat) (h0 : Steady o0 s) : Steady o0 (State.retargetTx s e level ended) := by
  unfold State.retargetTx
  simp +contextual (maxDischargeDepth := 60) only [↓Steady.ite, ↓State.withEngine_steady, h0, implies_true, and_self]

theorem State.setReceiver_steady {o0 : State} (s : State) (e v : Nat) (h0 : Steady o0 s) : Steady o0 (State.setReceiver s e v) := by
  unfold State.setReceiver
  simp +contextual (maxDischargeDepth := 60) only [↓State.setObj_steady, h0]

theorem State.storeRx_steady {o0 : State} (s : State) (e : Nat) (h0 : Steady o0 s) : Steady o0 (State.storeRx s e) := by
  unfold State.storeRx
  simp +contextual (maxDischargeDepth := 60) only [↓State.drawn_steady, ↓State.withEngine_steady, h0]

theorem State.followFixed_steady {o0 : State} (s : State) (e : Nat) (h0 : Steady o0 s) : Steady o0 (State.followFixed s e) := by
  unfold State.followFixed
  simp +contextual (maxDischargeDepth := 60) only [↓Steady.ite, ↓State.setInt_steady, h0, implies_true, and_self]

theorem State.restoreRx_steady {o0 : State} (s : State) (e : Nat) (h0 : Steady o0 s) : Steady o0 (State.restoreRx s e) := by
  unfold State.restoreRx
  repeat' split
  all_goals simp +contextual (maxDischargeDepth := 60) only [↓State.followFixed_steady, ↓State.setObj_steady, ↓State.withEngine_steady, h0]

theorem State.dropStored_steady {o0 : State} (s : State) (e : Nat) (h0 : Steady o0 s) : Steady o0 (State.dropStored s e) := by
  unfold State.dropStored
  simp +contextual (maxDischargeDepth := 60) only [↓State.withEngine_steady, h0]

theorem State.unbond_steady {o0 : State} (s : State) (e : Nat) (h0 : Steady o0 s) : Steady o0 (State.unbond s e) := by
  unfold State.unbond
  simp +contextual (maxDischargeDepth := 60) only [↓State.setObj_steady, h0]

theorem State.closeTransient_steady {o0 : State} (s : State) (e : Nat) (h0 : Steady o0 s) : Steady o0 (State.closeTransient s e) := by
  unfold State.closeTransient
  simp +contextual (maxDischargeDepth := 60) only [↓Steady.ite, ↓State.raise_steady, ↓State.setObj_steady, h0, implies_true, and_self]

theorem State.loseTransient_steady {o0 : State} (s : State) (e : Nat) (h0 : Steady o0 s) : Steady o0 (State.loseTransient s e) := by
  unfold State.loseTransient
  simp +contextual (maxDischargeDepth := 60) only [↓Steady.ite, ↓Steady.fields, ↓State.closeTransient_steady, h0, implies_true, and_self]

theorem State.leaveLock_steady {o0 : State} (s : State) (e : Nat) (h0 : Steady o0 s) : Steady o0 (State.leaveLock s e) := by
  unfold State.leaveLock
  simp +contextual (maxDischargeDepth := 60) only [↓Steady.ite, ↓State.clear_steady, ↓State.failRef_steady, ↓State.loseTransient_steady, ↓State.setObj_steady, ↓State.storeRx_steady, ↓State.unbond_steady, ↓State.withEngine_steady, h0, implies_true, and_self]

theorem State.toDark_steady {o0 : State} (s : State) (e : Nat) (h0 : Steady o0 s) : Steady o0 (State.toDark s e) := by
  unfold State.toDark
  simp +contextual (maxDischargeDepth := 60) only [↓Steady.ite, ↓State.clear_steady, ↓State.leaveLock_steady, ↓State.setReceiver_steady, ↓State.withEngine_steady, h0, implies_true, and_self]

theorem State.toOff_steady {o0 : State} (s : State) (e : Nat) (h0 : Steady o0 s) : Steady o0 (State.toOff s e) := by
  unfold State.toOff
  simp +contextual (maxDischargeDepth := 60) only [↓State.clear_steady, ↓State.leaveLock_steady, ↓State.setReceiver_steady, ↓State.withEngine_steady, h0]

theorem State.acquire_steady {o0 : State} (s : State) (e cls : Nat) (h0 : Steady o0 s) : Steady o0 (State.acquire s e cls) := by
  unfold State.acquire
  simp +contextual (maxDischargeDepth := 60) only [↓Steady.ite, ↓State.followFixed_steady, ↓State.leaveLock_steady, ↓State.restoreRx_steady, ↓State.setObj_steady, ↓State.setReceiver_steady, ↓State.withEngine_steady, h0, implies_true, and_self]

theorem State.startLol_steady {o0 : State} (s : State) (e : Nat) (h0 : Steady o0 s) : Steady o0 (State.startLol s e) := by
  unfold State.startLol
  repeat' split
  all_goals simp +contextual (maxDischargeDepth := 60) only [↓State.acquire_steady, ↓State.leaveLock_steady, ↓State.setReceiver_steady, ↓State.withEngine_steady, h0]

theorem State.lolStore_steady {o0 : State} (s : State) (e : Nat) (h0 : Steady o0 s) : Steady o0 (State.lolStore s e) := by
  unfold State.lolStore
  simp +contextual (maxDischargeDepth := 60) only [↓Steady.ite, ↓State.acquire_steady, ↓State.declare_steady, ↓State.raise_steady, h0, implies_true, and_self]

theorem State.refreshRx_steady {o0 : State} (s : State) (e : Nat) (h0 : Steady o0 s) : Steady o0 (State.refreshRx s e) := by
  unfold State.refreshRx
  simp +contextual (maxDischargeDepth := 60) only [↓Steady.ite, ↓State.acquire_steady, ↓State.followFixed_steady, ↓State.setReceiver_steady, ↓State.toOff_steady, h0, implies_true, and_self]

theorem State.reacquire_steady {o0 : State} (s : State) (e cls : Nat) (h0 : Steady o0 s) : Steady o0 (State.reacquire s e cls) := by
  unfold State.reacquire
  simp +contextual (maxDischargeDepth := 60) only [↓Steady.ite, ↓State.acquire_steady, ↓State.dropStored_steady, ↓State.refreshRx_steady, ↓State.setReceiver_steady, ↓State.withEngine_steady, h0, implies_true, and_self]

theorem State.freshSignal_steady {o0 : State} (s : State) (e : Nat) (h0 : Steady o0 s) : Steady o0 (State.freshSignal s e) := by
  unfold State.freshSignal
  simp +contextual (maxDischargeDepth := 60) only [↓Steady.ite, ↓State.acquire_steady, ↓State.withEngine_steady, h0, implies_true, and_self]

theorem State.leaveDark_steady {o0 : State} (s : State) (e : Nat) (h0 : Steady o0 s) : Steady o0 (State.leaveDark s e) := by
  unfold State.leaveDark
  simp +contextual (maxDischargeDepth := 60) only [↓Steady.ite, ↓State.acquire_steady, h0, implies_true, and_self]

theorem State.refreshFec_steady {o0 : State} (s : State) (e : Nat) (h0 : Steady o0 s) : Steady o0 (State.refreshFec s e) := by
  unfold State.refreshFec
  simp +contextual (maxDischargeDepth := 60) only [↓Steady.ite, ↓State.declare_steady, ↓State.raise_steady, ↓State.setObj_steady, h0, implies_true, and_self]

theorem State.setCore_steady {o0 : State} (s : State) (e c : Nat) (works : Bool) (h0 : Steady o0 s) : Steady o0 (State.setCore s e c works) := by
  unfold State.setCore
  simp +contextual (maxDischargeDepth := 60) only [↓Steady.ite, ↓State.clear_steady, ↓State.declare_steady, ↓State.setObj_steady, h0, implies_true, and_self]

theorem State.failBond_steady {o0 : State} (s : State) (e : Nat) (h0 : Steady o0 s) : Steady o0 (State.failBond s e) := by
  unfold State.failBond
  simp +contextual (maxDischargeDepth := 60) only [↓Steady.ite, ↓State.setObj_steady, h0, implies_true, and_self]

/-! ## LineFrame -/

theorem State.drainChannel_steady {o0 : State} (s : State) (e : Nat) (c : Nat × Nat × Nat) (h0 : Steady o0 s) : Steady o0 (State.drainChannel s e c) := by
  unfold State.drainChannel
  repeat' split
  all_goals simp +contextual (maxDischargeDepth := 60) only [↓Steady.fields, h0]

theorem State.transmitLine_steady {o0 : State} (s : State) (e : Nat) (h0 : Steady o0 s) : Steady o0 (State.transmitLine s e) := by
  unfold State.transmitLine
  simp +contextual (maxDischargeDepth := 60) only [↓Steady.ite, ↓Steady.foldl, ↓State.drainChannel_steady, ↓State.withEngine_steady, h0, implies_true, and_self]

theorem State.transmitLines_steady {o0 : State} (s : State) (h0 : Steady o0 s) : Steady o0 (State.transmitLines s) := by
  unfold State.transmitLines
  simp +contextual (maxDischargeDepth := 60) only [↓Steady.foldl, ↓State.transmitLine_steady, h0, implies_true]

theorem State.emptyPipe_steady {o0 : State} (s : State) (e : Nat) (h0 : Steady o0 s) : Steady o0 (State.emptyPipe s e) := by
  unfold State.emptyPipe
  simp +contextual (maxDischargeDepth := 60) only [↓State.withEngine_steady, h0]

/-! ## HostPorts -/

theorem State.refreshClient_steady {o0 : State} (s : State) (f : Nat) (h0 : Steady o0 s) : Steady o0 (State.refreshClient s f) := by
  unfold State.refreshClient
  simp +contextual (maxDischargeDepth := 60) only [↓Steady.ite, ↓Steady.fields, ↓State.raise_steady, ↓State.setObj_steady, h0, implies_true, and_self]

theorem State.refreshLaneClient_steady {o0 : State} (s : State) (l : Nat) (h0 : Steady o0 s) : Steady o0 (State.refreshLaneClient s l) := by
  unfold State.refreshLaneClient
  repeat' split
  all_goals simp +contextual (maxDischargeDepth := 60) only [↓State.refreshClient_steady, h0]

theorem State.setLane_steady {o0 : State} (s : State) (l new : Nat) (h0 : Steady o0 s) : Steady o0 (State.setLane s l new) := by
  unfold State.setLane
  simp +contextual (maxDischargeDepth := 60) only [↓Steady.ite, ↓State.clear_steady, ↓State.followLane_steady, ↓State.raise_steady, ↓State.refreshLaneClient_steady, ↓State.setDefect_steady, ↓State.setObj_steady, h0, implies_true, and_self]

theorem State.refreshPlls_steady {o0 : State} (s : State) (g : Nat) (h0 : Steady o0 s) : Steady o0 (State.refreshPlls s g) := by
  unfold State.refreshPlls
  simp +contextual (maxDischargeDepth := 60) only [↓State.setObj_steady, h0]

theorem State.commitRate_steady {o0 : State} (s : State) (l : Nat) (h0 : Steady o0 s) : Steady o0 (State.commitRate s l) := by
  unfold State.commitRate
  simp +contextual (maxDischargeDepth := 60) only [↓State.refreshPlls_steady, ↓State.setLane_steady, h0]

theorem State.refreshStm_steady {o0 : State} (s : State) (h0 : Steady o0 s) : Steady o0 (State.refreshStm s) := by
  unfold State.refreshStm
  simp +contextual (maxDischargeDepth := 60) only [↓Steady.ite, ↓Steady.foldl, ↓State.setObj_steady, h0, implies_true, and_self]

theorem State.clearPointers_steady {o0 : State} (s : State) (f : Nat) (h0 : Steady o0 s) : Steady o0 (State.clearPointers s f) := by
  unfold State.clearPointers
  simp +contextual (maxDischargeDepth := 60) only [↓Steady.foldl, ↓State.clear_steady, h0, implies_true]

theorem State.resetCells_steady {o0 : State} (s : State) (l : Nat) (linked : Bool) (h0 : Steady o0 s) : Steady o0 (State.resetCells s l linked) := by
  unfold State.resetCells
  simp +contextual (maxDischargeDepth := 60) only [↓Steady.ite, ↓Steady.fields, ↓State.clear_steady, ↓State.declare_steady, ↓State.raise_steady, ↓State.setObj_steady, h0, implies_true, and_self]

theorem State.commitClient_steady {o0 : State} (s : State) (f type : Nat) (lanes : List Nat) (rate : Nat) (h0 : Steady o0 s) : Steady o0 (State.commitClient s f type lanes rate) := by
  unfold State.commitClient
  simp +contextual (maxDischargeDepth := 60) only [↓Steady.fields, ↓Steady.foldl, ↓State.clear_steady, ↓State.clearPointers_steady, ↓State.commitRate_steady, ↓State.refreshStm_steady, ↓State.resetCells_steady, ↓State.setObj_steady, h0, implies_true]

theorem acceptLane_steady {o0 : State} (k : Key) (v : Val) {s : State} (h0 : Steady o0 s) : Steady o0 (acceptLane k v s).2 := by
  unfold acceptLane
  repeat' split
  all_goals simp +contextual (maxDischargeDepth := 60) only [↓Steady.snd_ite, ↓acceptStage_steady, h0, implies_true, and_self]

theorem acceptClientType_steady {o0 : State} (set : LaneSet) (k : Key) (v : Val) {s : State} (h0 : Steady o0 s) : Steady o0 (acceptClientType set k v s).2 := by
  unfold acceptClientType
  simp +contextual (maxDischargeDepth := 60) only []
  repeat' split
  all_goals simp +contextual (maxDischargeDepth := 60) only [↓Steady.fields, ↓Steady.foldl, ↓State.stage_steady, h0, implies_true]

theorem acceptClient_steady {o0 : State} (set : LaneSet) (k : Key) (v : Val) {s : State} (h0 : Steady o0 s) : Steady o0 (acceptClient set k v s).2 := by
  unfold acceptClient
  repeat' split
  all_goals simp +contextual (maxDischargeDepth := 60) only [↓acceptClientType_steady, ↓acceptStage_steady, h0]

theorem execHlRateWrite_steady {o0 : State} (rq : Rq) (l : Fin 64) (val : Val) (s : State) (h0 : Steady o0 s) : OutSteady o0 (execHlRateWrite rq l val s) := by
  unfold execHlRateWrite
  simp +contextual (maxDischargeDepth := 60) only [OutSteady.next, ↓acceptLane_steady, ↓serveWrite_steady, h0, implies_true]

theorem execHlTxTimingWrite_steady {o0 : State} (rq : Rq) (l : Fin 64) (val : Val) (s : State) (h0 : Steady o0 s) : OutSteady o0 (execHlTxTimingWrite rq l val s) := by
  unfold execHlTxTimingWrite
  simp +contextual (maxDischargeDepth := 60) only [OutSteady.next, ↓acceptLane_steady, ↓serveWrite_steady, h0, implies_true]

theorem execHlPrbsCfgWrite_steady {o0 : State} (rq : Rq) (l : Fin 64) (val : Val) (s : State) (h0 : Steady o0 s) : OutSteady o0 (execHlPrbsCfgWrite rq l val s) := by
  unfold execHlPrbsCfgWrite
  simp +contextual (maxDischargeDepth := 60) only [OutSteady.next, ↓acceptLane_steady, ↓serveWrite_steady, h0, implies_true]

theorem execLaneLocked_steady {o0 : State} (l : Fin 64) (s : State) (h0 : Steady o0 s) : OutSteady o0 (execLaneLocked l s) := by
  unfold execLaneLocked
  simp +contextual (maxDischargeDepth := 60) only [↓OutSteady.ite, OutSteady.next, ↓State.setLane_steady, h0, implies_true, and_self]

theorem execLaneLossOfLock_steady {o0 : State} (l : Fin 64) (s : State) (h0 : Steady o0 s) : OutSteady o0 (execLaneLossOfLock l s) := by
  unfold execLaneLossOfLock
  simp +contextual (maxDischargeDepth := 60) only [↓OutSteady.ite, OutSteady.next, ↓State.setLane_steady, h0, implies_true, and_self]

theorem execLaneLosDeclare_steady {o0 : State} (l : Fin 64) (amplitude ns : Nat) (s : State) (h0 : Steady o0 s) : OutSteady o0 (execLaneLosDeclare l amplitude ns s) := by
  unfold execLaneLosDeclare
  simp +contextual (maxDischargeDepth := 60) only [↓OutSteady.ite, OutSteady.next, ↓State.declare_steady, ↓State.followLane_steady, ↓State.refreshLaneClient_steady, h0, implies_true, and_self]

theorem execLaneLosClear_steady {o0 : State} (l : Fin 64) (amplitude ticks : Nat) (s : State) (h0 : Steady o0 s) : OutSteady o0 (execLaneLosClear l amplitude ticks s) := by
  unfold execLaneLosClear
  simp +contextual (maxDischargeDepth := 60) only [↓OutSteady.ite, OutSteady.next, ↓State.clear_steady, ↓State.refreshLaneClient_steady, h0, implies_true, and_self]

theorem execCliTypeWrite_steady {o0 : State} (rq : Rq) (l : Fin 64) (val : Val) (set : LaneSet) (s : State) (h0 : Steady o0 s) : OutSteady o0 (execCliTypeWrite rq l val set s) := by
  unfold execCliTypeWrite
  simp +contextual (maxDischargeDepth := 60) only [OutSteady.next, ↓acceptClient_steady, ↓serveWrite_steady, h0, implies_true]

theorem execCliFormWrite_steady {o0 : State} (rq : Rq) (l : Fin 64) (val : Val) (s : State) (h0 : Steady o0 s) : OutSteady o0 (execCliFormWrite rq l val s) := by
  unfold execCliFormWrite
  simp +contextual (maxDischargeDepth := 60) only [OutSteady.next, ↓acceptClient_steady, ↓serveWrite_steady, h0, implies_true]

theorem execFlexeCalSwitch_steady {o0 : State} (g : Fin 8) (calendar : Fin 2) (s : State) (h0 : Steady o0 s) : OutSteady o0 (execFlexeCalSwitch g calendar s) := by
  unfold execFlexeCalSwitch
  simp +contextual (maxDischargeDepth := 60) only [↓OutSteady.ite, OutSteady.next, ↓State.raise_steady, ↓State.setObj_steady, h0, implies_true, and_self]

theorem execClientPcsLockChange_steady {o0 : State} (l : Fin 64) (p : PcsState) (s : State) (h0 : Steady o0 s) : OutSteady o0 (execClientPcsLockChange l p s) := by
  unfold execClientPcsLockChange
  simp +contextual (maxDischargeDepth := 60) only [↓OutSteady.ite, OutSteady.next, ↓Steady.fields, ↓State.refreshClient_steady, ↓State.setDefect_steady, h0, implies_true, and_self]

/-! ## Containers -/

theorem State.dropPointers_steady {o0 : State} (s : State) (f : Nat) (h0 : Steady o0 s) : Steady o0 (State.dropPointers s f) := by
  unfold State.dropPointers
  simp +contextual (maxDischargeDepth := 60) only [↓Steady.foldl, ↓State.clear_steady, h0, implies_true]

/-! ## Prism -/

theorem State.overrun_steady {o0 : State} (s : State) (engine : Nat) (h0 : Steady o0 s) : Steady o0 (State.overrun s engine) := by
  unfold State.overrun
  simp +contextual (maxDischargeDepth := 60) only [↓Steady.ite, ↓Steady.fields, ↓State.bump_steady, ↓State.declare_steady, ↓State.raise_steady, ↓State.setObj_steady, h0, implies_true, and_self]

theorem State.shadowEdited_steady {o0 : State} (s : State) (h0 : Steady o0 s) : Steady o0 (State.shadowEdited s) := by
  unfold State.shadowEdited
  simp +contextual (maxDischargeDepth := 60) only [↓Steady.ite, ↓State.setObj_steady, h0, implies_true, and_self]

theorem State.beginRollback_steady {o0 : State} (s : State) (entries final : Nat) (h0 : Steady o0 s) : Steady o0 (State.beginRollback s entries final) := by
  unfold State.beginRollback
  simp +contextual (maxDischargeDepth := 60) only [↓State.setObj_steady, ↓State.withPrism_steady, h0]

theorem State.abandonCompile_steady {o0 : State} (s : State) (h0 : Steady o0 s) : Steady o0 (State.abandonCompile s).2 := by
  unfold State.abandonCompile
  repeat' split
  all_goals simp +contextual (maxDischargeDepth := 60) only [↓Steady.fields, ↓State.beginRollback_steady, ↓State.raise_steady, ↓State.withPrism_steady, h0]

theorem acceptCompile_steady {o0 : State} (k : Key) (v : Val) {s : State} (h0 : Steady o0 s) : Steady o0 (acceptCompile k v s).2 := by
  unfold acceptCompile
  simp +contextual (maxDischargeDepth := 60) only [↓Steady.snd_ite, ↓State.abandonCompile_steady, ↓State.plan_steady, ↓State.shadowEdited_steady, h0, implies_true, and_self]

theorem State.startCompile_steady {o0 : State} (s : State) (kind : Nat) (h0 : Steady o0 s) : Steady o0 (State.startCompile s kind) := by
  unfold State.startCompile
  simp +contextual (maxDischargeDepth := 60) only [↓State.setObj_steady, ↓State.withPrism_steady, h0]

theorem State.finishCompile_steady {o0 : State} (s : State) (c : Compile) (h0 : Steady o0 s) : Steady o0 (State.finishCompile s c) := by
  unfold State.finishCompile
  simp +contextual (maxDischargeDepth := 60) only [↓State.raise_steady, ↓State.setObj_steady, ↓State.withPrism_steady, h0]

theorem State.failCompile_steady {o0 : State} (s : State) (c : Compile) (reason conn : Nat) (h0 : Steady o0 s) : Steady o0 (State.failCompile s c reason conn) := by
  unfold State.failCompile
  simp +contextual (maxDischargeDepth := 60) only [↓State.beginRollback_steady, ↓State.raise_steady, ↓State.setObj_steady, ↓State.withPrism_steady, h0]

theorem State.compileEnd_steady {o0 : State} (s : State) (failed : Bool) (h0 : Steady o0 s) : Steady o0 (State.compileEnd s failed) := by
  unfold State.compileEnd
  repeat' split
  all_goals simp +contextual (maxDischargeDepth := 60) only [↓State.failCompile_steady, ↓State.finishCompile_steady, h0]

theorem State.rollbackEnd_steady {o0 : State} (s : State) (h0 : Steady o0 s) : Steady o0 (State.rollbackEnd s) := by
  unfold State.rollbackEnd
  repeat' split
  all_goals simp +contextual (maxDischargeDepth := 60) only [↓State.setObj_steady, ↓State.withPrism_steady, h0]

theorem State.refreshPrism_steady {o0 : State} (s : State) (h0 : Steady o0 s) : Steady o0 (State.refreshPrism s) := by
  unfold State.refreshPrism
  simp +contextual (maxDischargeDepth := 60) only [↓State.setObj_steady, h0]

theorem State.fenceSlices_steady {o0 : State} (s : State) (h0 : Steady o0 s) : Steady o0 (State.fenceSlices s) := by
  unfold State.fenceSlices
  simp +contextual (maxDischargeDepth := 60) only [↓Steady.ite, ↓Steady.fields, ↓Steady.foldl, ↓State.declare_steady, ↓State.refreshPrism_steady, h0, implies_true, and_self]

theorem State.rejoinSlices_steady {o0 : State} (s : State) (h0 : Steady o0 s) : Steady o0 (State.rejoinSlices s) := by
  unfold State.rejoinSlices
  simp +contextual (maxDischargeDepth := 60) only [↓Steady.ite, ↓Steady.foldl, ↓State.raise_steady, ↓State.refreshPrism_steady, ↓State.setDefect_steady, ↓State.withPrism_steady, h0, implies_true, and_self]

theorem State.countReading_steady {o0 : State} (s : State) (r : Reading) (h0 : Steady o0 s) : Steady o0 (State.countReading s r) := by
  unfold State.countReading
  simp +contextual (maxDischargeDepth := 60) only [↓Steady.ite, ↓Steady.foldl, ↓State.bump_steady, ↓State.overrun_steady, ↓State.setObj_steady, ↓State.withPrism_steady, h0, implies_true, and_self]

theorem State.fence_steady {o0 : State} (s : State) (slice cause : Nat) (h0 : Steady o0 s) : Steady o0 (State.fence s slice cause) := by
  unfold State.fence
  simp +contextual (maxDischargeDepth := 60) only [↓State.withPrism_steady, h0]

theorem State.readAgain_steady {o0 : State} (n : Nat) (s : State) (h0 : Steady o0 s) : Steady o0 (State.readAgain n s) := by
  induction n generalizing s with
  | zero => exact h0
  | succ n ih =>
    unfold State.readAgain
    extract_lets r gone t
    have ht : Steady o0 t := State.withPrism_steady _ _ (State.countReading_steady _ _ h0)
    split
    · exact ht
    · exact ih _ (State.fence_steady _ _ _ ht)

theorem State.sliceFails_steady {o0 : State} (s : State) (slice cause : Nat) (h0 : Steady o0 s) : Steady o0 (State.sliceFails s slice cause) := by
  unfold State.sliceFails
  simp +contextual (maxDischargeDepth := 60) only [↓Steady.ite, ↓State.fence_steady, ↓State.readAgain_steady, h0, implies_true, and_self]

theorem State.readStage_steady {o0 : State} (s : State) (badWords badXor : List Nat) (h0 : Steady o0 s) : Steady o0 (State.readStage s badWords badXor) := by
  unfold State.readStage
  simp +contextual (maxDischargeDepth := 60) only [↓State.readAgain_steady, ↓State.withPrism_steady, h0]

theorem State.egressStage_steady {o0 : State} (s : State) (h0 : Steady o0 s) : Steady o0 (State.egressStage s) := by
  unfold State.egressStage
  simp +contextual (maxDischargeDepth := 60) only [↓State.bump_steady, ↓State.withPrism_steady, h0]

theorem State.copyEngine_steady {o0 : State} (s : State) (h0 : Steady o0 s) : Steady o0 (State.copyEngine s) := by
  unfold State.copyEngine
  repeat' split
  all_goals simp +contextual (maxDischargeDepth := 60) only [↓Steady.fields, ↓Steady.foldl, ↓State.bump_steady, ↓State.setPage_steady, h0, implies_true]

theorem State.fetchStage_steady {o0 : State} (s : State) (found : List Nat) (h0 : Steady o0 s) : Steady o0 (State.fetchStage s found) := by
  unfold State.fetchStage
  simp +contextual (maxDischargeDepth := 60) only [↓Steady.ite, ↓Steady.foldl, ↓State.bump_steady, ↓State.logUncorr_steady, ↓State.markBad_steady, ↓State.raise_steady, ↓State.withPrism_steady, h0, implies_true, and_self]

theorem acceptSliceRetest_steady {o0 : State} (k : Key) (v : Val) {s : State} (h0 : Steady o0 s) : Steady o0 (acceptSliceRetest k v s).2 := by
  unfold acceptSliceRetest
  simp +contextual (maxDischargeDepth := 60) only [↓Steady.snd_ite, ↓State.withPrism_steady, h0, implies_true, and_self]

theorem acceptPrism_steady {o0 : State} (k : Key) (v : Val) {s : State} (h0 : Steady o0 s) : Steady o0 (acceptPrism k v s).2 := by
  unfold acceptPrism
  simp +contextual (maxDischargeDepth := 60) only [↓Steady.snd_ite, ↓acceptCompile_steady, ↓acceptSliceRetest_steady, ↓acceptStage_steady, h0, implies_true, and_self]

theorem execCompileDirty_steady {o0 : State} (rq : Rq) (s : State) (h0 : Steady o0 s) : OutSteady o0 (execCompileDirty rq s) := by
  unfold execCompileDirty
  simp +contextual (maxDischargeDepth := 60) only [OutSteady.next, ↓acceptPrism_steady, ↓serveWrite_steady, h0, implies_true]

theorem execCompileAll_steady {o0 : State} (rq : Rq) (s : State) (h0 : Steady o0 s) : OutSteady o0 (execCompileAll rq s) := by
  unfold execCompileAll
  simp +contextual (maxDischargeDepth := 60) only [OutSteady.next, ↓acceptPrism_steady, ↓serveWrite_steady, h0, implies_true]

theorem execCompileAbandon_steady {o0 : State} (rq : Rq) (s : State) (h0 : Steady o0 s) : OutSteady o0 (execCompileAbandon rq s) := by
  unfold execCompileAbandon
  simp +contextual (maxDischargeDepth := 60) only [OutSteady.next, ↓acceptPrism_steady, ↓serveWrite_steady, h0, implies_true]

theorem execCompileDone_steady {o0 : State} (s : State) (h0 : Steady o0 s) : OutSteady o0 (execCompileDone s) := by
  unfold execCompileDone
  simp +contextual (maxDischargeDepth := 60) only [OutSteady.next, ↓State.atBoundary_steady, ↓State.compileEnd_steady, h0, implies_true]

theorem execCompileFail_steady {o0 : State} (s : State) (h0 : Steady o0 s) : OutSteady o0 (execCompileFail s) := by
  unfold execCompileFail
  simp +contextual (maxDischargeDepth := 60) only [OutSteady.next, ↓State.atBoundary_steady, ↓State.compileEnd_steady, h0, implies_true]

theorem execRollbackDone_steady {o0 : State} (s : State) (h0 : Steady o0 s) : OutSteady o0 (execRollbackDone s) := by
  unfold execRollbackDone
  simp +contextual (maxDischargeDepth := 60) only [OutSteady.next, ↓State.atBoundary_steady, ↓State.rollbackEnd_steady, h0, implies_true]

theorem execSliceFail_steady {o0 : State} (slice : Fin 17) (cause : Fin 2) (errors : Nat) (s : State) (h0 : Steady o0 s) : OutSteady o0 (execSliceFail slice cause errors s) := by
  unfold execSliceFail
  simp +contextual (maxDischargeDepth := 60) only [OutSteady.next, ↓OutSteady.ite, ↓State.sliceFails_steady, h0, implies_true, and_self]

theorem execPrismSliceRetest_steady {o0 : State} (rq : Rq) (val : Val) (s : State) (h0 : Steady o0 s) : OutSteady o0 (execPrismSliceRetest rq val s) := by
  unfold execPrismSliceRetest
  simp +contextual (maxDischargeDepth := 60) only [OutSteady.next, ↓acceptPrism_steady, ↓serveWrite_steady, h0, implies_true]

theorem execSliceRetestDone_steady {o0 : State} (slice : Fin 17) (pass : Bool) (s : State) (h0 : Steady o0 s) : OutSteady o0 (execSliceRetestDone slice pass s) := by
  unfold execSliceRetestDone
  simp +contextual (maxDischargeDepth := 60) only [↓Steady.ite, ↓OutSteady.ite, OutSteady.next, ↓State.withPrism_steady, h0, implies_true, and_self]

theorem execSliceRejoin_steady {o0 : State} (s : State) (h0 : Steady o0 s) : OutSteady o0 (execSliceRejoin s) := by
  unfold execSliceRejoin
  simp +contextual (maxDischargeDepth := 60) only [OutSteady.next, ↓State.atBoundary_steady, ↓State.rejoinSlices_steady, h0, implies_true]

/-! ## Framing -/

theorem State.refreshLof_steady {o0 : State} (s : State) (e cause : Nat) (h0 : Steady o0 s) : Steady o0 (State.refreshLof s e cause) := by
  unfold State.refreshLof
  simp +contextual (maxDischargeDepth := 60) only [↓Steady.ite, ↓State.clear_steady, ↓State.declare_steady, ↓State.raise_steady, h0, implies_true, and_self]

theorem State.endTickLof_steady {o0 : State} (s : State) (e : Nat) (h0 : Steady o0 s) : Steady o0 (State.endTickLof s e) := by
  unfold State.endTickLof
  simp +contextual (maxDischargeDepth := 60) only [↓Steady.ite, ↓State.refreshLof_steady, ↓State.withEngine_steady, h0, implies_true, and_self]

theorem State.refreshFff_steady {o0 : State} (s : State) (e : Nat) (h0 : Steady o0 s) : Steady o0 (State.refreshFff s e) := by
  unfold State.refreshFff
  simp +contextual (maxDischargeDepth := 60) only [↓Steady.ite, ↓Steady.foldl, ↓State.clear_steady, ↓State.declare_steady, h0, implies_true, and_self]

theorem State.commitFffRx_steady {o0 : State} (s : State) (e : Nat) (h0 : Steady o0 s) : Steady o0 (State.commitFffRx s e) := by
  unfold State.commitFffRx
  simp +contextual (maxDischargeDepth := 60) only [↓Steady.ite, ↓State.refreshFff_steady, ↓State.setObj_steady, ↓State.withEngine_steady, h0, implies_true, and_self]

theorem State.receiveFff_steady {o0 : State} (s : State) (e idx seg : Nat) (h0 : Steady o0 s) : Steady o0 (State.receiveFff s e idx seg) := by
  unfold State.receiveFff
  simp +contextual (maxDischargeDepth := 60) only [↓Steady.ite, ↓State.refreshFff_steady, ↓State.setObj_steady, ↓State.withEngine_steady, h0, implies_true, and_self]

theorem State.declareLoa_steady {o0 : State} (s : State) (e spread : Nat) (h0 : Steady o0 s) : Steady o0 (State.declareLoa s e spread) := by
  unfold State.declareLoa
  simp +contextual (maxDischargeDepth := 60) only [↓Steady.ite, ↓Steady.foldl, ↓State.declare_steady, ↓State.raise_steady, ↓State.setObj_steady, h0, implies_true, and_self]

theorem State.readPayload_steady {o0 : State} (s : State) (e : Nat) (f : LFrame) (h0 : Steady o0 s) : Steady o0 (State.readPayload s e f) := by
  unfold State.readPayload
  simp +contextual (maxDischargeDepth := 60) only [↓State.withEngine_steady, h0]

theorem State.clearOtuc_steady {o0 : State} (s : State) (e : Nat) (h0 : Steady o0 s) : Steady o0 (State.clearOtuc s e) := by
  unfold State.clearOtuc
  simp +contextual (maxDischargeDepth := 60) only [↓Steady.foldl, ↓State.clear_steady, ↓State.refreshLof_steady, ↓State.withEngine_steady, h0, implies_true]

theorem State.frameOverhead_steady {o0 : State} (s : State) (e : Nat) (f : LFrame) (h0 : Steady o0 s) : Steady o0 (State.frameOverhead s e f) := by
  unfold State.frameOverhead
  simp +contextual (maxDischargeDepth := 60) only [↓Steady.ite, ↓State.bump_steady, ↓State.clearOtuc_steady, ↓State.declareLoa_steady, ↓State.readPayload_steady, ↓State.receiveFff_steady, ↓State.withEngine_steady, h0, implies_true, and_self]

theorem State.huntFrame_steady {o0 : State} (s : State) (e : Nat) (f : LFrame) (h0 : Steady o0 s) : Steady o0 (State.huntFrame s e f) := by
  unfold State.huntFrame
  simp +contextual (maxDischargeDepth := 60) only [↓Steady.ite, ↓State.setObj_steady, ↓State.withEngine_steady, h0, implies_true, and_self]

theorem State.presyncFrame_steady {o0 : State} (s : State) (e : Nat) (f : LFrame) (h0 : Steady o0 s) : Steady o0 (State.presyncFrame s e f) := by
  unfold State.presyncFrame
  simp +contextual (maxDischargeDepth := 60) only []
  repeat' split
  all_goals simp +contextual (maxDischargeDepth := 60) only [↓State.bump_steady, ↓State.frameOverhead_steady, ↓State.refreshLof_steady, ↓State.setObj_steady, ↓State.withEngine_steady, h0]

theorem State.syncFrame_steady {o0 : State} (s : State) (e : Nat) (f : LFrame) (h0 : Steady o0 s) : Steady o0 (State.syncFrame s e f) := by
  unfold State.syncFrame
  simp +contextual (maxDischargeDepth := 60) only [↓Steady.ite, ↓State.bump_steady, ↓State.frameOverhead_steady, ↓State.refreshLof_steady, ↓State.setObj_steady, ↓State.withEngine_steady, h0, implies_true, and_self]

theorem execLFrameReceive_steady {o0 : State} (e : Fin 4) (f : LFrame) (s : State) (h0 : Steady o0 s) : OutSteady o0 (execLFrameReceive e f s) := by
  unfold execLFrameReceive
  simp +contextual (maxDischargeDepth := 60) only [OutSteady.next, ↓OutSteady.ite, ↓State.huntFrame_steady, ↓State.presyncFrame_steady, ↓State.syncFrame_steady, ↓State.withEngine_steady, h0, implies_true, and_self]

theorem State.setSection_steady {o0 : State} (s : State) (e : Nat) (x : SmState) (h0 : Steady o0 s) : Steady o0 (State.setSection s e x) := by
  unfold State.setSection
  simp +contextual (maxDischargeDepth := 60) only [↓State.setDefect_steady, ↓State.withEngine_steady, h0]

theorem execOtucFrameCheck_steady {o0 : State} (e : Fin 4) (f : OtucFrame) (s : State) (h0 : Steady o0 s) : OutSteady o0 (execOtucFrameCheck e f s) := by
  unfold execOtucFrameCheck
  simp +contextual (maxDischargeDepth := 60) only [↓Steady.ite, ↓OutSteady.ite, OutSteady.next, ↓Steady.foldl, ↓State.bump_steady, ↓State.refreshLof_steady, ↓State.setDefect_steady, ↓State.setSection_steady, ↓State.withEngine_steady, h0, implies_true, and_self]

theorem execAgreementFrameReceive_steady {o0 : State} (e : Fin 4) (lof alignment : Bool) (s : State) (h0 : Steady o0 s) : OutSteady o0 (execAgreementFrameReceive e lof alignment s) := by
  unfold execAgreementFrameReceive
  simp +contextual (maxDischargeDepth := 60) only [↓OutSteady.ite, OutSteady.next, ↓State.refreshLof_steady, ↓State.setDefect_steady, ↓State.withEngine_steady, h0, implies_true, and_self]

theorem execBondDeskew_steady {o0 : State} (group : Fin 3) (offsets : List Nat) (numbered : Bool) (s : State) (h0 : Steady o0 s) : OutSteady o0 (execBondDeskew group offsets numbered s) := by
  unfold execBondDeskew
  simp +contextual (maxDischargeDepth := 60) only [↓OutSteady.ite, OutSteady.next, ↓Steady.fields, ↓Steady.foldl, ↓State.clear_steady, ↓State.declareLoa_steady, ↓State.setObj_steady, h0, implies_true, and_self]

theorem acceptFraming_steady {o0 : State} (k : Key) (v : Val) {s : State} (h0 : Steady o0 s) : Steady o0 (acceptFraming k v s).2 := by
  unfold acceptFraming
  simp +contextual (maxDischargeDepth := 60) only [↓Steady.snd_ite, ↓acceptStage_steady, ↓State.stage_steady, h0, implies_true, and_self]

theorem execOhGccRouteWrite_steady {o0 : State} (rq : Rq) (index : Nat) (val : Val) (s : State) (h0 : Steady o0 s) : OutSteady o0 (execOhGccRouteWrite rq index val s) := by
  unfold execOhGccRouteWrite
  simp +contextual (maxDischargeDepth := 60) only [OutSteady.next, ↓acceptFraming_steady, ↓serveWrite_steady, h0, implies_true]

theorem State.gccPush_steady {o0 : State} (s : State) (port route direction : Nat) (bytes : List Nat) (h0 : Steady o0 s) : Steady o0 (State.gccPush s port route direction bytes) := by
  unfold State.gccPush
  simp +contextual (maxDischargeDepth := 60) only [↓Steady.ite, ↓Steady.fields, ↓State.bump_steady, ↓State.raise_steady, h0, implies_true, and_self]

theorem State.routeLine_steady {o0 : State} (s : State) (port : Nat) (b : GccBytes) (h0 : Steady o0 s) : Steady o0 (State.routeLine s port b) := by
  unfold State.routeLine
  simp +contextual (maxDischargeDepth := 60) only [↓State.gccPush_steady, h0]

theorem State.ohpFill_steady {o0 : State} (s : State) (room : Nat) (xs : List Nat) (h0 : Steady o0 s) : Steady o0 (State.ohpFill s room xs).1 := by
  induction xs generalizing s room with
  | nil => exact h0
  | cons x xs ih =>
    unfold State.ohpFill
    extract_lets buf n head t
    split
    · exact ih _ _ h0
    · exact ih _ _ h0.fields


theorem execOhpFrame_steady {o0 : State} (port : Fin 4) (records : List OhpRecord) (received : List GccBytes) (s : State)
    (h0 : Steady o0 s) : OutSteady o0 (execOhpFrame port records received s) := by
  unfold execOhpFrame
  extract_lets room routes t u
  split
  · exact OutSteady.next.mpr h0
  · have ht : Steady o0 t := Steady.foldl _ _ h0 fun _ _ h => State.routeLine_steady _ _ _ h
    have hu : Steady o0 u := Steady.foldl _ _ ht fun v r h => by
      split
      · exact State.gccPush_steady _ _ _ _ _ h
      · exact h
    have hv := State.ohpFill_steady u room routes hu
    rcases hp : u.ohpFill room routes with ⟨v, bytes⟩
    rw [hp] at hv
    exact OutSteady.next.mpr hv.fields

theorem State.complexChannels_steady {o0 : State} (s : State) (xs : List GccBytes) (h0 : Steady o0 s) : Steady o0 (State.complexChannels s xs) := by
  unfold State.complexChannels
  simp +contextual (maxDischargeDepth := 60) only [↓Steady.fields, ↓Steady.foldl, ↓State.routeLine_steady, h0, implies_true]

/-! ## Protection -/

theorem State.withProt_steady {o0 : State} (s : State) (f : Protection → Protection) (h0 : Steady o0 s) : Steady o0 (State.withProt s f) := by
  unfold State.withProt
  simp +contextual (maxDischargeDepth := 60) only [↓Steady.fields, h0]

theorem State.setPgRun_steady {o0 : State} (s : State) (g : Nat) (r : PgRun) (h0 : Steady o0 s) : Steady o0 (State.setPgRun s g r) := by
  unfold State.setPgRun
  simp +contextual (maxDischargeDepth := 60) only [↓State.withProt_steady, h0]

theorem State.clearCommand_steady {o0 : State} (s : State) (g : Nat) (r : PgRun) (best far : Nat) (aps : Bool) (h0 : Steady o0 s) :
    Steady o0 (State.clearCommand s g r best far aps) := by
  unfold State.clearCommand
  extract_lets k cmd done t
  have ht : Steady o0 t := h0.actSet
  split
  · split
    · exact State.setShadow_steady _ _ _ ht
    · exact ht
  · exact h0


theorem State.publish_steady {o0 : State} (s : State) (g : Nat) (old new : PgRun) (h0 : Steady o0 s) : Steady o0 (State.publish s g old new) := by
  unfold State.publish
  repeat' split
  all_goals simp +contextual (maxDischargeDepth := 60) only [↓State.noteRequest_steady, ↓State.raise_steady, ↓State.setObj_steady, ↓State.setPgRun_steady, ↓State.withProt_steady, h0]

theorem State.setFop_steady {o0 : State} (s : State) (g cause : Nat) (h0 : Steady o0 s) : Steady o0 (State.setFop s g cause) := by
  unfold State.setFop
  simp +contextual (maxDischargeDepth := 60) only [↓Steady.ite, ↓State.raise_steady, ↓State.setDefect_steady, ↓State.setPgRun_steady, h0, implies_true, and_self]

theorem State.watchBridge_steady {o0 : State} (s : State) (g requested : Nat) (far : Option ApsAccepted) (strict : Bool) (h0 : Steady o0 s) : Steady o0 (State.watchBridge s g requested far strict) := by
  unfold State.watchBridge
  simp +contextual (maxDischargeDepth := 60) only []
  repeat' split
  all_goals simp +contextual (maxDischargeDepth := 60) only [↓State.setFop_steady, ↓State.setPgRun_steady, h0]

theorem State.evaluateOne_steady {o0 : State} (s : State) (v : BusView) (n : Nat) (g : Group) (h0 : Steady o0 s) : Steady o0 (State.evaluateOne s v n g) := by
  unfold State.evaluateOne
  simp +contextual (maxDischargeDepth := 60) only [↓Steady.ite, ↓State.clearCommand_steady, ↓State.publish_steady, ↓State.raise_steady, ↓State.setObj_steady, ↓State.watchBridge_steady, h0, implies_true, and_self]

theorem State.evaluateSet_steady {o0 : State} (s : State) (v : BusView) (head : Nat) (g : Group) (h0 : Steady o0 s) : Steady o0 (State.evaluateSet s v head g) := by
  unfold State.evaluateSet
  simp +contextual (maxDischargeDepth := 60) only [↓Steady.ite, ↓Steady.foldl, ↓State.clearCommand_steady, ↓State.publish_steady, ↓State.raise_steady, ↓State.setObj_steady, ↓State.setPgRun_steady, ↓State.watchBridge_steady, h0, implies_true, and_self]

theorem State.evaluateGroup_steady {o0 : State} (s : State) (v : BusView) (n : Nat) (h0 : Steady o0 s) : Steady o0 (State.evaluateGroup s v n) := by
  unfold State.evaluateGroup
  simp +contextual (maxDischargeDepth := 60) only [↓Steady.ite, ↓State.evaluateOne_steady, ↓State.evaluateSet_steady, h0, implies_true, and_self]

theorem State.keepGroups_steady {o0 : State} (s : State) (h0 : Steady o0 s) : Steady o0 (State.keepGroups s) := by
  unfold State.keepGroups
  simp +contextual (maxDischargeDepth := 60) only [↓State.withProt_steady, h0]

theorem State.evaluate_steady {o0 : State} (s : State) (v : BusView) (h0 : Steady o0 s) : Steady o0 (State.evaluate s v) := by
  unfold State.evaluate
  simp +contextual (maxDischargeDepth := 60) only [↓Steady.foldl, ↓State.evaluateGroup_steady, ↓State.keepGroups_steady, h0, implies_true]

theorem State.spoilCopy_steady {o0 : State} (s : State) (n e : Nat) (h0 : Steady o0 s) : Steady o0 (State.spoilCopy s n e) := by
  unfold State.spoilCopy
  simp +contextual (maxDischargeDepth := 60) only [↓Steady.foldl, ↓State.withProt_steady, h0, implies_true]

theorem State.refreshFffTx_steady {o0 : State} (s : State) (v : BusView) (h0 : Steady o0 s) : Steady o0 (State.refreshFffTx s v) := by
  unfold State.refreshFffTx
  simp +contextual (maxDischargeDepth := 60) only [↓Steady.foldl, ↓State.setObj_steady, ↓State.withProt_steady, h0, implies_true]

theorem State.remoteCheck_steady {o0 : State} (s : State) (r : Nat) (h0 : Steady o0 s) : Steady o0 (State.remoteCheck s r) := by
  unfold State.remoteCheck
  simp +contextual (maxDischargeDepth := 60) only [↓Steady.ite, ↓State.raise_steady, ↓State.withProt_steady, h0, implies_true, and_self]

theorem State.exportRecords_steady {o0 : State} (s : State) (h0 : Steady o0 s) : Steady o0 (State.exportRecords s) := by
  unfold State.exportRecords
  simp +contextual (maxDischargeDepth := 60) only [↓State.withProt_steady, h0]

theorem State.receiveRemote_steady {o0 : State} (s : State) (node index tick record : Nat) (h0 : Steady o0 s) : Steady o0 (State.receiveRemote s node index tick record) := by
  unfold State.receiveRemote
  simp +contextual (maxDischargeDepth := 60) only [↓Steady.foldl, ↓State.withProt_steady, h0, implies_true]

theorem State.evaluateComing_steady {o0 : State} (s : State) (g : Nat) (h0 : Steady o0 s) : Steady o0 (State.evaluateComing s g) := by
  unfold State.evaluateComing
  simp +contextual (maxDischargeDepth := 60) only [↓State.atBoundary_steady, ↓State.evaluateGroup_steady, ↓State.withProt_steady, h0, implies_true]

theorem execHoldoffExpire_steady {o0 : State} (g : Fin 65536) (s : State) (h0 : Steady o0 s) : OutSteady o0 (execHoldoffExpire g s) := by
  unfold execHoldoffExpire
  repeat' split
  all_goals simp +contextual (maxDischargeDepth := 60) only [OutSteady.next, ↓State.evaluateComing_steady, h0]

theorem execWtrExpire_steady {o0 : State} (g : Fin 65536) (s : State) (h0 : Steady o0 s) : OutSteady o0 (execWtrExpire g s) := by
  unfold execWtrExpire
  repeat' split
  all_goals simp +contextual (maxDischargeDepth := 60) only [OutSteady.next, ↓State.evaluateComing_steady, h0]

theorem execPscHoldExpire_steady {o0 : State} (g : Fin 65536) (s : State) (h0 : Steady o0 s) : OutSteady o0 (execPscHoldExpire g s) := by
  unfold execPscHoldExpire
  repeat' split
  all_goals simp +contextual (maxDischargeDepth := 60) only [OutSteady.next, ↓State.evaluateComing_steady, h0]

theorem execApsReceive_steady {o0 : State} (g : Fin 65536) (a : ApsValue) (s : State) (h0 : Steady o0 s) : OutSteady o0 (execApsReceive g a s) := by
  unfold execApsReceive
  simp +contextual (maxDischargeDepth := 60) only [↓Steady.ite, ↓OutSteady.ite, OutSteady.next, ↓State.setFop_steady, ↓State.setObj_steady, ↓State.setPgRun_steady, h0, implies_true, and_self]

theorem execFopMismatchTimeout_steady {o0 : State} (g : Fin 65536) (s : State) (h0 : Steady o0 s) : OutSteady o0 (execFopMismatchTimeout g s) := by
  unfold execFopMismatchTimeout
  repeat' split
  all_goals simp +contextual (maxDischargeDepth := 60) only [OutSteady.next, ↓State.setFop_steady, h0]

theorem execRemoteRecordReceive_steady {o0 : State} (node index : Fin 64) (tick record : Nat) (s : State) (h0 : Steady o0 s) : OutSteady o0 (execRemoteRecordReceive node index tick record s) := by
  unfold execRemoteRecordReceive
  simp +contextual (maxDischargeDepth := 60) only [OutSteady.next, ↓State.receiveRemote_steady, h0]

theorem execRemoteStale_steady {o0 : State} (r : Fin 64) (s : State) (h0 : Steady o0 s) : OutSteady o0 (execRemoteStale r s) := by
  unfold execRemoteStale
  simp +contextual (maxDischargeDepth := 60) only [OutSteady.next, ↓State.remoteCheck_steady, h0]

/-! ## SecureLine -/

theorem State.withSec_steady {o0 : State} (s : State) (f : SecureLine → SecureLine) (h0 : Steady o0 s) : Steady o0 (State.withSec s f) := by
  unfold State.withSec
  simp +contextual (maxDischargeDepth := 60) only [↓Steady.fields, h0]

theorem State.withChan_steady {o0 : State} (s : State) (e ch : Nat) (f : SecChan → SecChan) (h0 : Steady o0 s) : Steady o0 (State.withChan s e ch f) := by
  unfold State.withChan
  simp +contextual (maxDischargeDepth := 60) only [↓State.withSec_steady, h0]

theorem State.withLink_steady {o0 : State} (s : State) (e : Nat) (f : SecLink → SecLink) (h0 : Steady o0 s) : Steady o0 (State.withLink s e f) := by
  unfold State.withLink
  simp +contextual (maxDischargeDepth := 60) only [↓State.withSec_steady, h0]

theorem State.send_steady {o0 : State} (s : State) (e : Nat) (m : KaMessage) (h0 : Steady o0 s) : Steady o0 (State.send s e m) := by
  unfold State.send
  simp +contextual (maxDischargeDepth := 60) only [↓State.withLink_steady, h0]

theorem State.feedKey_steady {o0 : State} (s : State) (x : Nat) (h0 : Steady o0 s) : Steady o0 (State.feedKey s x) := by
  unfold State.feedKey
  repeat' split
  all_goals simp +contextual (maxDischargeDepth := 60) only [↓Steady.fields, ↓State.withLink_steady, h0]

theorem State.feedKeys_steady {o0 : State} (s : State) (h0 : Steady o0 s) : Steady o0 (State.feedKeys s) := by
  unfold State.feedKeys
  simp +contextual (maxDischargeDepth := 60) only [↓Steady.foldl, ↓State.feedKey_steady, h0, implies_true]

theorem State.setLinkState_steady {o0 : State} (s : State) (e v : Nat) (h0 : Steady o0 s) : Steady o0 (State.setLinkState s e v) := by
  unfold State.setLinkState
  simp +contextual (maxDischargeDepth := 60) only [↓Steady.foldl, ↓State.setObj_steady, h0, implies_true]

theorem State.settle_steady {o0 : State} (s : State) (e ch : Nat) (h0 : Steady o0 s) : Steady o0 (State.settle s e ch) := by
  unfold State.settle
  simp +contextual (maxDischargeDepth := 60) only [↓State.withChan_steady, h0]

theorem State.trigger_steady {o0 : State} (s : State) (e ch : Nat) (h0 : Steady o0 s) : Steady o0 (State.trigger s e ch) := by
  unfold State.trigger
  simp +contextual (maxDischargeDepth := 60) only [↓Steady.ite, ↓State.settle_steady, ↓State.withChan_steady, h0, implies_true, and_self]

theorem State.derive_steady {o0 : State} (s : State) (e ch : Nat) (receive : Bool) (h0 : Steady o0 s) : Steady o0 (State.derive s e ch receive) := by
  unfold State.derive
  repeat' split
  all_goals simp +contextual (maxDischargeDepth := 60) only [↓Steady.ite, ↓State.send_steady, ↓State.settle_steady, ↓State.withChan_steady, h0, implies_true, and_self]

theorem State.goLive_steady {o0 : State} (s : State) (e : Nat) (l : LinkSecret) (h0 : Steady o0 s) : Steady o0 (State.goLive s e l) := by
  unfold State.goLive
  simp +contextual (maxDischargeDepth := 60) only [↓Steady.ite, ↓Steady.foldl, ↓State.derive_steady, ↓State.raise_steady, ↓State.setLinkState_steady, ↓State.trigger_steady, ↓State.withLink_steady, h0, implies_true, and_self]

theorem applyKeyWrite_steady {o0 : State} (w : KeyWrite) (s : State) (h0 : Steady o0 s) : Steady o0 (applyKeyWrite w s) := by
  unfold applyKeyWrite
  split <;> simp +contextual (maxDischargeDepth := 60) only [↓State.withChan_steady, ↓State.settle_steady, ↓State.derive_steady, ↓State.goLive_steady, h0]


theorem State.deferKeys_steady {o0 : State} (s : State) (e : Nat) (halves : List (Nat × Nat)) (h0 : Steady o0 s) : Steady o0 (State.deferKeys s e halves) := by
  unfold State.deferKeys
  simp +contextual (maxDischargeDepth := 60) only [↓Steady.ite, ↓Steady.foldl, ↓State.raise_steady, ↓State.withChan_steady, ↓State.withSec_steady, h0, implies_true, and_self]

theorem State.keyWrite_steady {o0 : State} (s : State) (w : KeyWrite) (h0 : Steady o0 s) : Steady o0 (State.keyWrite s w) := by
  unfold State.keyWrite
  simp +contextual (maxDischargeDepth := 60) only [↓Steady.ite, ↓applyKeyWrite_steady, ↓State.deferKeys_steady, ↓State.withSec_steady, h0, implies_true, and_self]

theorem State.keysProceed_steady {o0 : State} (s : State) (h0 : Steady o0 s) : Steady o0 (State.keysProceed s) := by
  unfold State.keysProceed
  simp +contextual (maxDischargeDepth := 60) only [↓Steady.ite, ↓Steady.foldl, ↓applyKeyWrite_steady, ↓State.withSec_steady, h0, implies_true, and_self]

theorem State.switchKey_steady {o0 : State} (s : State) (e ch : Nat) (h0 : Steady o0 s) : Steady o0 (State.switchKey s e ch) := by
  unfold State.switchKey
  simp +contextual (maxDischargeDepth := 60) only []
  repeat' split
  all_goals simp +contextual (maxDischargeDepth := 60) only [↓State.clear_steady, ↓State.deferKeys_steady, ↓State.keyWrite_steady, ↓State.raise_steady, ↓State.withChan_steady, h0]

theorem State.sendClear_steady {o0 : State} (s : State) (e ch : Nat) (b : OduBody) (h0 : Steady o0 s) : Steady o0 (State.sendClear s e ch b) := by
  unfold State.sendClear
  simp +contextual (maxDischargeDepth := 60) only [↓State.withChan_steady, h0]

theorem State.sendLck_steady {o0 : State} (s : State) (e ch : Nat) (h0 : Steady o0 s) : Steady o0 (State.sendLck s e ch) := by
  unfold State.sendLck
  simp +contextual (maxDischargeDepth := 60) only [↓State.withChan_steady, h0]

theorem State.sendKeyed_steady {o0 : State} (s : State) (e ch : Nat) (k : SecKey) (auto : Bool) (b : OduBody) (h0 : Steady o0 s) : Steady o0 (State.sendKeyed s e ch k auto b) := by
  unfold State.sendKeyed
  simp +contextual (maxDischargeDepth := 60) only [↓Steady.ite, ↓State.declare_steady, ↓State.raise_steady, ↓State.sendLck_steady, ↓State.setObj_steady, ↓State.trigger_steady, ↓State.withChan_steady, h0, implies_true, and_self]

theorem State.rxFail_steady {o0 : State} (s : State) (e ch : Nat) (h0 : Steady o0 s) : Steady o0 (State.rxFail s e ch) := by
  unfold State.rxFail
  simp +contextual (maxDischargeDepth := 60) only [↓Steady.ite, ↓State.declare_steady, ↓State.raise_steady, ↓State.withChan_steady, h0, implies_true, and_self]

theorem State.rxGood_steady {o0 : State} (s : State) (e ch : Nat) (h0 : Steady o0 s) : Steady o0 (State.rxGood s e ch) := by
  unfold State.rxGood
  simp +contextual (maxDischargeDepth := 60) only [↓Steady.ite, ↓State.clear_steady, ↓State.withChan_steady, h0, implies_true, and_self]

theorem State.deliverFrame_steady {o0 : State} (s : State) (e ch : Nat) (b : OduBody) (h0 : Steady o0 s) : Steady o0 (State.deliverFrame s e ch b) := by
  unfold State.deliverFrame
  simp +contextual (maxDischargeDepth := 60) only [↓State.withChan_steady, h0]

theorem State.markFrame_steady {o0 : State} (s : State) (e n : Nat) (h0 : Steady o0 s) : Steady o0 (State.markFrame s e n) := by
  unfold State.markFrame
  simp +contextual (maxDischargeDepth := 60) only [↓State.spoilCopy_steady, ↓State.withProt_steady, h0]

theorem State.checkEnded_steady {o0 : State} (s : State) (e ch : Nat) (x : EndedRx) (verifyFirst : Bool) (ticks : Nat) (b : OduBody) (h0 : Steady o0 s) : Steady o0 (State.checkEnded s e ch x verifyFirst ticks b) := by
  unfold State.checkEnded
  simp +contextual (maxDischargeDepth := 60) only [↓Steady.ite, ↓State.bump_steady, ↓State.markFrame_steady, ↓State.withChan_steady, h0, implies_true, and_self]

theorem State.checkTag_steady {o0 : State} (s : State) (e ch : Nat) (verifyFirst : Bool) (ticks : Nat) (b : OduBody) (h0 : Steady o0 s) : Steady o0 (State.checkTag s e ch verifyFirst ticks b) := by
  unfold State.checkTag
  repeat' split
  all_goals simp +contextual (maxDischargeDepth := 60) only [↓State.bump_steady, ↓State.checkEnded_steady, ↓State.deliverFrame_steady, ↓State.keyWrite_steady, ↓State.markFrame_steady, ↓State.rxFail_steady, ↓State.rxGood_steady, ↓State.spoilCopy_steady, ↓State.withChan_steady, h0]

theorem State.passFrames_steady {o0 : State} (s : State) (e : Nat) (h0 : Steady o0 s) : Steady o0 (State.passFrames s e) := by
  unfold State.passFrames
  try simp +contextual (maxDischargeDepth := 60) only [↓Steady.ite, h0, implies_true]
  all_goals (repeat' split)
  all_goals (repeat' first | assumption | refine OutSteady.next.mpr ?_ | refine State.atBoundary_steady _ _ ?_ (fun _ _ _ => ?_) | refine Steady.foldl _ _ ?_ (fun _ _ _ => ?_) | refine serve_steady _ _ _ _ _ ?_ (fun _ _ _ => ?_) | split | intro _ | simp +contextual (maxDischargeDepth := 60) only [↓Steady.fields, ↓State.deliverFrame_steady, *, true_and])

theorem State.swapReceive_steady {o0 : State} (s : State) (old : Map Nat) (h0 : Steady o0 s) : Steady o0 (State.swapReceive s old) := by
  unfold State.swapReceive
  simp +contextual (maxDischargeDepth := 60) only [↓Steady.ite, ↓Steady.foldl, ↓State.clear_steady, ↓State.keyWrite_steady, ↓State.withChan_steady, ↓State.withSec_steady, h0, implies_true, and_self]

theorem State.swapTransmit_steady {o0 : State} (s : State) (h0 : Steady o0 s) : Steady o0 (State.swapTransmit s) := by
  unfold State.swapTransmit
  simp +contextual (maxDischargeDepth := 60) only [↓Steady.ite, ↓Steady.foldl, ↓State.clear_steady, ↓State.keyWrite_steady, ↓State.setObj_steady, ↓State.settle_steady, ↓State.withChan_steady, ↓State.withSec_steady, h0, implies_true, and_self]

theorem State.zeroise_steady {o0 : State} (s : State) (h0 : Steady o0 s) : Steady o0 (State.zeroise s) := by
  unfold State.zeroise
  simp +contextual (maxDischargeDepth := 60) only [↓Steady.foldl, ↓State.setObj_steady, ↓State.withSec_steady, h0, implies_true]

theorem State.failKa_steady {o0 : State} (s : State) (e cause : Nat) (h0 : Steady o0 s) : Steady o0 (State.failKa s e cause) := by
  unfold State.failKa
  simp +contextual (maxDischargeDepth := 60) only [↓Steady.ite, ↓Steady.foldl, ↓State.raise_steady, ↓State.send_steady, ↓State.setLinkState_steady, ↓State.setObj_steady, ↓State.withLink_steady, h0, implies_true, and_self]

theorem State.startKa_steady {o0 : State} (s : State) (e : Nat) (h0 : Steady o0 s) : Steady o0 (State.startKa s e) := by
  unfold State.startKa
  simp +contextual (maxDischargeDepth := 60) only [↓Steady.ite, ↓State.drawn_steady, ↓State.failKa_steady, ↓State.send_steady, ↓State.setLinkState_steady, ↓State.withLink_steady, h0, implies_true, and_self]

theorem State.setKa_steady {o0 : State} (s : State) (e : Nat) (a : Agreement) (h0 : Steady o0 s) : Steady o0 (State.setKa s e a) := by
  unfold State.setKa
  simp +contextual (maxDischargeDepth := 60) only [↓State.withLink_steady, h0]

theorem acceptInstall_steady {o0 : State} (k : Key) (v : Val) {s : State} (h0 : Steady o0 s) : Steady o0 (acceptInstall k v s).2 := by
  unfold acceptInstall
  simp +contextual (maxDischargeDepth := 60) only [↓Steady.snd_ite, ↓State.keyWrite_steady, h0, implies_true, and_self]

theorem acceptSecure_steady {o0 : State} (k : Key) (v : Val) {s : State} (h0 : Steady o0 s) : Steady o0 (acceptSecure k v s).2 := by
  unfold acceptSecure
  repeat' split
  all_goals simp +contextual (maxDischargeDepth := 60) only [↓acceptInstall_steady, ↓acceptStage_steady, ↓State.setObj_steady, ↓State.startKa_steady, ↓State.trigger_steady, ↓State.zeroise_steady, h0]

theorem State.commitSource_steady {o0 : State} (s : State) (e : Nat) (h0 : Steady o0 s) : Steady o0 (State.commitSource s e) := by
  unfold State.commitSource
  simp +contextual (maxDischargeDepth := 60) only [↓Steady.foldl, ↓State.settle_steady, h0, implies_true]

theorem State.commitRoutes_steady {o0 : State} (s : State) (h0 : Steady o0 s) : Steady o0 (State.commitRoutes s) := by
  unfold State.commitRoutes
  simp +contextual (maxDischargeDepth := 60) only [↓Steady.ite, ↓Steady.foldl, ↓State.startKa_steady, ↓State.withLink_steady, h0, implies_true, and_self]

theorem execSecMapWrite_steady {o0 : State} (rq : Rq) (index : Nat) (val : Val) (s : State) (h0 : Steady o0 s) : OutSteady o0 (execSecMapWrite rq index val s) := by
  unfold execSecMapWrite
  simp +contextual (maxDischargeDepth := 60) only [OutSteady.next, ↓acceptSecure_steady, ↓serveWrite_steady, h0, implies_true]

theorem execSecRxFrame_steady {o0 : State} (e : Fin 4) (ch : Fin 1024) (f : SecFrame) (s : State) (h0 : Steady o0 s) : OutSteady o0 (execSecRxFrame e ch f s) := by
  unfold execSecRxFrame
  simp +contextual (maxDischargeDepth := 60) only [OutSteady.next, ↓OutSteady.ite, ↓Steady.ite, ↓State.bump_steady, ↓State.checkTag_steady, ↓State.deliverFrame_steady, ↓State.plan_steady, ↓State.rxFail_steady, ↓State.spoilCopy_steady, ↓State.withChan_steady, h0, implies_true, and_self]

theorem execSecTxFrame_steady {o0 : State} (e : Fin 4) (ch : Fin 1024) (frame : TxFrame) (s : State) (h0 : Steady o0 s) : OutSteady o0 (execSecTxFrame e ch frame s) := by
  unfold execSecTxFrame
  simp +contextual (maxDischargeDepth := 60) only []
  repeat' split
  all_goals simp +contextual (maxDischargeDepth := 60) only [OutSteady.next, ↓State.sendClear_steady, ↓State.sendKeyed_steady, ↓State.sendLck_steady, ↓State.switchKey_steady, h0]

theorem execSecRoll_steady {o0 : State} (rq : Rq) (e : Fin 4) (val : Val) (s : State) (h0 : Steady o0 s) : OutSteady o0 (execSecRoll rq e val s) := by
  unfold execSecRoll
  simp +contextual (maxDischargeDepth := 60) only [OutSteady.next, ↓acceptSecure_steady, ↓serveWrite_steady, h0, implies_true]

theorem execKeySwitch_steady {o0 : State} (e : Fin 4) (ch : Fin 1024) (s : State) (h0 : Steady o0 s) : OutSteady o0 (execKeySwitch e ch s) := by
  unfold execKeySwitch
  simp +contextual (maxDischargeDepth := 60) only [OutSteady.next, ↓State.switchKey_steady, h0]

theorem execSecKeyInstall_steady {o0 : State} (rq : Rq) (e : Fin 4) (val : Val) (s : State) (h0 : Steady o0 s) : OutSteady o0 (execSecKeyInstall rq e val s) := by
  unfold execSecKeyInstall
  simp +contextual (maxDischargeDepth := 60) only [OutSteady.next, ↓acceptSecure_steady, ↓serveWrite_steady, h0, implies_true]

theorem execSecZeroise_steady {o0 : State} (rq : Rq) (val : Val) (s : State) (h0 : Steady o0 s) : OutSteady o0 (execSecZeroise rq val s) := by
  unfold execSecZeroise
  simp +contextual (maxDischargeDepth := 60) only [OutSteady.next, ↓acceptSecure_steady, ↓serveWrite_steady, h0, implies_true]

theorem execSecLinkStart_steady {o0 : State} (rq : Rq) (e : Fin 4) (val : Val) (s : State) (h0 : Steady o0 s) : OutSteady o0 (execSecLinkStart rq e val s) := by
  unfold execSecLinkStart
  simp +contextual (maxDischargeDepth := 60) only [OutSteady.next, ↓acceptSecure_steady, ↓serveWrite_steady, h0, implies_true]

theorem State.takeHello_steady {o0 : State} (s : State) (e : Nat) (publicKey nonce : Nat) (h0 : Steady o0 s) : Steady o0 (State.takeHello s e publicKey nonce) := by
  unfold State.takeHello
  simp +contextual (maxDischargeDepth := 60) only []
  repeat' split
  all_goals simp +contextual (maxDischargeDepth := 60) only [↓State.drawn_steady, ↓State.failKa_steady, ↓State.send_steady, ↓State.setKa_steady, ↓State.startKa_steady, h0]

theorem execKaHello_steady {o0 : State} (e : Fin 4) (publicKey nonce : Nat) (s : State) (h0 : Steady o0 s) : OutSteady o0 (execKaHello e publicKey nonce s) := by
  unfold execKaHello
  simp +contextual (maxDischargeDepth := 60) only [OutSteady.next, ↓State.takeHello_steady, h0]

theorem State.takeEk_steady {o0 : State} (s : State) (e : Nat) (key signature : Nat) (h0 : Steady o0 s) : Steady o0 (State.takeEk s e key signature) := by
  unfold State.takeEk
  repeat' split
  all_goals simp +contextual (maxDischargeDepth := 60) only [↓Steady.ite, ↓State.drawn_steady, ↓State.failKa_steady, ↓State.send_steady, ↓State.setKa_steady, h0, implies_true, and_self]

theorem execKaEk_steady {o0 : State} (e : Fin 4) (key signature : Nat) (s : State) (h0 : Steady o0 s) : OutSteady o0 (execKaEk e key signature s) := by
  unfold execKaEk
  simp +contextual (maxDischargeDepth := 60) only [OutSteady.next, ↓State.takeEk_steady, h0]

theorem State.takeCt_steady {o0 : State} (s : State) (e : Nat) (ciphertext signature : Nat) (h0 : Steady o0 s) : Steady o0 (State.takeCt s e ciphertext signature) := by
  unfold State.takeCt
  repeat' split
  all_goals simp +contextual (maxDischargeDepth := 60) only [↓Steady.ite, ↓State.failKa_steady, ↓State.send_steady, ↓State.setKa_steady, h0, implies_true, and_self]

theorem execKaCt_steady {o0 : State} (e : Fin 4) (ciphertext signature : Nat) (s : State) (h0 : Steady o0 s) : OutSteady o0 (execKaCt e ciphertext signature s) := by
  unfold execKaCt
  simp +contextual (maxDischargeDepth := 60) only [OutSteady.next, ↓State.takeCt_steady, h0]

theorem State.takeConfirm_steady {o0 : State} (s : State) (e : Nat) (value : Nat) (h0 : Steady o0 s) : Steady o0 (State.takeConfirm s e value) := by
  unfold State.takeConfirm
  repeat' split
  all_goals simp +contextual (maxDischargeDepth := 60) only [↓State.failKa_steady, ↓State.keyWrite_steady, ↓State.withLink_steady, h0]

theorem execKaConfirm_steady {o0 : State} (e : Fin 4) (value : Nat) (s : State) (h0 : Steady o0 s) : OutSteady o0 (execKaConfirm e value s) := by
  unfold execKaConfirm
  simp +contextual (maxDischargeDepth := 60) only [OutSteady.next, ↓State.takeConfirm_steady, h0]

theorem State.takeReady_steady {o0 : State} (s : State) (e : Nat) (tpn d epoch check : Nat) (h0 : Steady o0 s) : Steady o0 (State.takeReady s e tpn d epoch check) := by
  unfold State.takeReady
  simp +contextual (maxDischargeDepth := 60) only [↓Steady.foldl, ↓State.settle_steady, ↓State.withChan_steady, h0, implies_true]

theorem execKaReady_steady {o0 : State} (e : Fin 4) (tpn d epoch check : Nat) (s : State) (h0 : Steady o0 s) : OutSteady o0 (execKaReady e tpn d epoch check s) := by
  unfold execKaReady
  simp +contextual (maxDischargeDepth := 60) only [OutSteady.next, ↓State.takeReady_steady, h0]

theorem State.takeAbort_steady {o0 : State} (s : State) (e : Nat) (_cause : Nat) (h0 : Steady o0 s) : Steady o0 (State.takeAbort s e _cause) := by
  unfold State.takeAbort
  simp +contextual (maxDischargeDepth := 60) only [↓Steady.ite, ↓State.failKa_steady, h0, implies_true, and_self]

theorem State.takeMessage_steady {o0 : State} (s : State) (e : Nat) (m : KaMessage) (h0 : Steady o0 s) : Steady o0 (State.takeMessage s e m) := by
  cases m
  · exact State.takeHello_steady _ _ _ _ h0
  · exact State.takeEk_steady _ _ _ _ h0
  · exact State.takeCt_steady _ _ _ _ h0
  · exact State.takeConfirm_steady _ _ _ h0
  · exact State.takeReady_steady _ _ _ _ _ _ h0
  · exact State.takeAbort_steady _ _ 0 h0

theorem execKaAbort_steady {o0 : State} (e : Fin 4) (_cause : Nat) (s : State) (h0 : Steady o0 s) : OutSteady o0 (execKaAbort e _cause s) := by
  unfold execKaAbort
  simp +contextual (maxDischargeDepth := 60) only [OutSteady.next, ↓State.takeAbort_steady, h0]

theorem State.keyByte_steady {o0 : State} (s : State) (e : Nat) (b : Nat) (h0 : Steady o0 s) : Steady o0 (State.keyByte s e b) := by
  unfold State.keyByte
  repeat' split
  all_goals simp +contextual (maxDischargeDepth := 60) only [↓State.takeMessage_steady, ↓State.withLink_steady, h0]

theorem State.receiveKeys_steady {o0 : State} (s : State) (xs : List GccBytes) (h0 : Steady o0 s) : Steady o0 (State.receiveKeys s xs) := by
  unfold State.receiveKeys
  try simp +contextual (maxDischargeDepth := 60) only [↓Steady.ite, ↓Steady.snd_ite, ↓Steady.fst_ite, ↓OutSteady.ite, OutSteady.next, ↓Steady.fields, ↓Steady.actSet, ↓Steady.regFilter, ↓Steady.foldl, ↓State.keyByte_steady, h0, implies_true, and_self]
  all_goals (repeat' split)
  all_goals (repeat' first | assumption | refine OutSteady.next.mpr ?_ | refine State.atBoundary_steady _ _ ?_ (fun _ _ _ => ?_) | refine Steady.foldl _ _ ?_ (fun _ _ _ => ?_) | refine serve_steady _ _ _ _ _ ?_ (fun _ _ _ => ?_) | split | intro _ | simp +contextual (maxDischargeDepth := 60) only [↓State.keyByte_steady, *])

theorem execKaTimeout_steady {o0 : State} (e : Fin 4) (s : State) (h0 : Steady o0 s) : OutSteady o0 (execKaTimeout e s) := by
  unfold execKaTimeout
  repeat' split
  all_goals simp +contextual (maxDischargeDepth := 60) only [OutSteady.next, ↓State.failKa_steady, h0]

theorem execKaRetry_steady {o0 : State} (e : Fin 4) (s : State) (h0 : Steady o0 s) : OutSteady o0 (execKaRetry e s) := by
  unfold execKaRetry
  repeat' split
  all_goals simp +contextual (maxDischargeDepth := 60) only [OutSteady.next, ↓State.startKa_steady, h0]

theorem execLinkSecretExpire_steady {o0 : State} (e : Fin 4) (s : State) (h0 : Steady o0 s) : OutSteady o0 (execLinkSecretExpire e s) := by
  unfold execLinkSecretExpire
  repeat' split
  all_goals simp +contextual (maxDischargeDepth := 60) only [OutSteady.next, ↓State.startKa_steady, h0]

theorem execEntropyFail_steady {o0 : State} (test : Nat) (s : State) (h0 : Steady o0 s) : OutSteady o0 (execEntropyFail test s) := by
  unfold execEntropyFail
  simp +contextual (maxDischargeDepth := 60) only [OutSteady.next, ↓Steady.foldl, ↓State.failKa_steady, ↓State.raise_steady, ↓State.setObj_steady, h0, implies_true]

theorem execEntropyRecover_steady {o0 : State} (windows : Nat) (s : State) (h0 : Steady o0 s) : OutSteady o0 (execEntropyRecover windows s) := by
  unfold execEntropyRecover
  simp +contextual (maxDischargeDepth := 60) only [↓OutSteady.ite, OutSteady.next, ↓State.setObj_steady, h0, implies_true, and_self]

theorem execKeyDeferredProceed_steady {o0 : State} (s : State) (h0 : Steady o0 s) : OutSteady o0 (execKeyDeferredProceed s) := by
  unfold execKeyDeferredProceed
  simp +contextual (maxDischargeDepth := 60) only [OutSteady.next, ↓State.atBoundary_steady, ↓State.keysProceed_steady, h0, implies_true]

/-! ## MirrorMerge -/

theorem State.withMm_steady {o0 : State} (s : State) (m : Nat) (f : MmRun → MmRun) (h0 : Steady o0 s) : Steady o0 (State.withMm s m f) := by
  unfold State.withMm
  simp +contextual (maxDischargeDepth := 60) only [↓State.withProt_steady, h0]

theorem State.setMm_steady {o0 : State} (s : State) (m new : Nat) (early : Bool) (delta : Nat) (h0 : Steady o0 s) : Steady o0 (State.setMm s m new early delta) := by
  unfold State.setMm
  simp +contextual (maxDischargeDepth := 60) only [↓Steady.ite, ↓State.raise_steady, ↓State.setObj_steady, h0, implies_true, and_self]

theorem State.refreshMm_steady {o0 : State} (s : State) (m : Nat) (h0 : Steady o0 s) : Steady o0 (State.refreshMm s m) := by
  unfold State.refreshMm
  simp +contextual (maxDischargeDepth := 60) only [↓Steady.ite, ↓State.setMm_steady, h0, implies_true, and_self]

theorem State.mmAlign_steady {o0 : State} (s : State) (m g delay : Nat) (h0 : Steady o0 s) : Steady o0 (State.mmAlign s m g delay) := by
  unfold State.mmAlign
  simp +contextual (maxDischargeDepth := 60) only [↓Steady.ite, ↓State.refreshMm_steady, ↓State.setMm_steady, ↓State.withMm_steady, h0, implies_true, and_self]

theorem State.mmRetime_steady {o0 : State} (s : State) (m delay : Nat) (h0 : Steady o0 s) : Steady o0 (State.mmRetime s m delay) := by
  unfold State.mmRetime
  simp +contextual (maxDischargeDepth := 60) only []
  repeat' split
  all_goals simp +contextual (maxDischargeDepth := 60) only [↓State.raise_steady, ↓State.setMm_steady, ↓State.withMm_steady, h0]

theorem State.mmFrame_steady {o0 : State} (s : State) (m : Nat) (protect : Bool) (f : OduFrame) (n : Nat) (g : Group)
    (h0 : Steady o0 s) : Steady o0 (State.mmFrame s m protect f n g) := by
  unfold State.mmFrame
  extract_lets r point b clean early bad last run run' without without' keep mine other theirs diff seen left diffs diffs' late lateSince chosen
    expected t r' noseq u v
  have ht : Steady o0 t := State.withMm_steady _ _ _ h0
  have hu : Steady o0 u := State.refreshMm_steady _ _ (State.withMm_steady _ _ _ ht)
  have hv : Steady o0 v := by
    show Steady o0 (if _ then _ else _)
    split
    · exact State.mmAlign_steady _ _ _ _ hu
    · exact hu
  split
  · exact State.mmRetime_steady _ _ _ hv
  · exact hv

theorem State.mmDecide_steady {o0 : State} (s : State) (m g q : Nat) (h0 : Steady o0 s) : Steady o0 (State.mmDecide s m g q) := by
  unfold State.mmDecide
  simp +contextual (maxDischargeDepth := 60) only [↓Steady.ite, ↓State.bump_steady, ↓State.withMm_steady, h0, implies_true, and_self]

theorem State.mmTick_steady {o0 : State} (s : State) (n : Nat) (g : Group) (h0 : Steady o0 s) : Steady o0 (State.mmTick s n g) := by
  unfold State.mmTick
  simp +contextual (maxDischargeDepth := 60) only [↓Steady.ite, ↓Steady.foldl, ↓State.mmDecide_steady, ↓State.setMm_steady, ↓State.withMm_steady, h0, implies_true, and_self]

theorem State.mergeStage_steady {o0 : State} (s : State) (h0 : Steady o0 s) : Steady o0 (State.mergeStage s) := by
  unfold State.mergeStage
  simp +contextual (maxDischargeDepth := 60) only [↓Steady.foldl, ↓State.mmTick_steady, h0, implies_true]

theorem State.hbmFallback_steady {o0 : State} (s : State) (cause : Nat) (h0 : Steady o0 s) : Steady o0 (State.hbmFallback s cause) := by
  unfold State.hbmFallback
  simp +contextual (maxDischargeDepth := 60) only [↓Steady.foldl, ↓State.raise_steady, ↓State.refreshMm_steady, ↓State.withMm_steady, ↓State.withProt_steady, h0, implies_true]

theorem State.hbmBack_steady {o0 : State} (s : State) (h0 : Steady o0 s) : Steady o0 (State.hbmBack s) := by
  unfold State.hbmBack
  simp +contextual (maxDischargeDepth := 60) only [↓Steady.foldl, ↓State.refreshMm_steady, ↓State.withProt_steady, h0, implies_true]

theorem acceptMerge_steady {o0 : State} (k : Key) (v : Val) {s : State} (h0 : Steady o0 s) : Steady o0 (acceptMerge k v s).2 := by
  unfold acceptMerge
  simp +contextual (maxDischargeDepth := 60) only [↓Steady.snd_ite, ↓acceptStage_steady, ↓State.withMm_steady, h0, implies_true, and_self]

theorem execMmFrameComplete_steady {o0 : State} (m : Fin 2048) (protect : Bool) (f : OduFrame) (s : State) (h0 : Steady o0 s) : OutSteady o0 (execMmFrameComplete m protect f s) := by
  unfold execMmFrameComplete
  repeat' split
  all_goals simp +contextual (maxDischargeDepth := 60) only [OutSteady.next, ↓State.mmFrame_steady, h0]

theorem execMmAutoRetime_steady {o0 : State} (m : Fin 2048) (s : State) (h0 : Steady o0 s) : OutSteady o0 (execMmAutoRetime m s) := by
  unfold execMmAutoRetime
  repeat' split
  all_goals simp +contextual (maxDischargeDepth := 60) only [↓OutSteady.ite, OutSteady.next, ↓State.mmRetime_steady, ↓State.raise_steady, ↓State.withMm_steady, h0, implies_true, and_self]

theorem execMmRetime_steady {o0 : State} (rq : Rq) (val : Val) (s : State) (h0 : Steady o0 s) : OutSteady o0 (execMmRetime rq val s) := by
  unfold execMmRetime
  simp +contextual (maxDischargeDepth := 60) only [OutSteady.next, ↓acceptMerge_steady, ↓serveWrite_steady, h0, implies_true]

/-! ## Ingress -/

theorem State.assembleVirtual_steady {o0 : State} (s : State) (h0 : Steady o0 s) : Steady o0 (State.assembleVirtual s) := by
  unfold State.assembleVirtual
  simp +contextual (maxDischargeDepth := 60) only [↓State.withPrism_steady, h0]

theorem State.openHalf_steady {o0 : State} (s : State) (traffic : List ConnWords) (h0 : Steady o0 s) : Steady o0 (State.openHalf s traffic) := by
  unfold State.openHalf
  simp +contextual (maxDischargeDepth := 60) only [↓State.withPrism_steady, h0]

theorem State.ingressStage_steady {o0 : State} (s : State) (h0 : Steady o0 s) : Steady o0 (State.ingressStage s) := by
  unfold State.ingressStage
  simp +contextual (maxDischargeDepth := 60) only [↓State.withPrism_steady, h0]

/-! ## Expansion -/

theorem State.setCells_steady {o0 : State} (s : State) (l : Nat) (c : CellLane) (h0 : Steady o0 s) : Steady o0 (State.setCells s l c) := by
  unfold State.setCells
  simp +contextual (maxDischargeDepth := 60) only [↓Steady.fields, h0]

theorem State.setCellState_steady {o0 : State} (s : State) (f l new : Nat) (h0 : Steady o0 s) : Steady o0 (State.setCellState s f l new) := by
  unfold State.setCellState
  simp +contextual (maxDischargeDepth := 60) only [↓Steady.ite, ↓State.declare_steady, ↓State.raise_steady, ↓State.refreshClient_steady, ↓State.setDefect_steady, ↓State.setObj_steady, h0, implies_true, and_self]

theorem State.writeLinkWord_steady {o0 : State} (s : State) (f : Nat) (x : LinkConn) (pos word : Nat) (h0 : Steady o0 s) : Steady o0 (State.writeLinkWord s f x pos word) := by
  unfold State.writeLinkWord
  simp +contextual (maxDischargeDepth := 60) only [↓Steady.ite, ↓State.withPrism_steady, h0, implies_true, and_self]

theorem State.missingCells_steady {o0 : State} (s : State) (h0 : Steady o0 s) : Steady o0 (State.missingCells s) := by
  unfold State.missingCells
  simp +contextual (maxDischargeDepth := 60) only [↓Steady.ite, ↓Steady.foldl, ↓State.withPrism_steady, h0, implies_true, and_self]

theorem State.writeCell_steady {o0 : State} (s : State) (f d : Nat) (cell : Cell) (payload : List Nat) (h0 : Steady o0 s) :
    Steady o0 (State.writeCell s f d cell payload) := by
  unfold State.writeCell
  extract_lets conns t
  refine Steady.foldl _ _ (State.withPrism_steady _ _ h0) fun t w ht => ?_
  extract_lets pos
  split
  · exact State.writeLinkWord_steady _ _ _ _ _ ht
  · exact ht

theorem State.controlCell_steady {o0 : State} (s : State) (f : Nat) (payload : List Nat) (h0 : Steady o0 s) : Steady o0 (State.controlCell s f payload) := by
  unfold State.controlCell
  simp +contextual (maxDischargeDepth := 60) only [↓Steady.ite, ↓Steady.fields, ↓State.clear_steady, ↓State.declare_steady, ↓State.raise_steady, ↓State.refreshClient_steady, h0, implies_true, and_self]

theorem State.syncCell_steady {o0 : State} (s : State) (f l : Nat) (cell : Cell) (payload : List Nat) (h0 : Steady o0 s) : Steady o0 (State.syncCell s f l cell payload) := by
  unfold State.syncCell
  repeat' split
  all_goals simp +contextual (maxDischargeDepth := 60) only [↓Steady.ite, ↓State.bump_steady, ↓State.controlCell_steady, ↓State.setCellState_steady, ↓State.setCells_steady, ↓State.writeCell_steady, h0, implies_true, and_self]

theorem State.candidateAt_steady {o0 : State} (s : State) (f l first good : Nat) (fits : List Nat) (h0 : Steady o0 s) : Steady o0 (State.candidateAt s f l first good fits) := by
  unfold State.candidateAt
  simp +contextual (maxDischargeDepth := 60) only [↓State.setCellState_steady, ↓State.setCells_steady, h0]

theorem State.huntCell_steady {o0 : State} (s : State) (f l : Nat) (cell : Cell) (h0 : Steady o0 s) : Steady o0 (State.huntCell s f l cell) := by
  unfold State.huntCell
  simp +contextual (maxDischargeDepth := 60) only []
  repeat' split
  all_goals simp +contextual (maxDischargeDepth := 60) only [↓State.candidateAt_steady, ↓State.setCellState_steady, ↓State.setCells_steady, h0]

theorem execExpansionCellReceive_steady {o0 : State} (l : Fin 64) (cell : Cell) (s : State) (h0 : Steady o0 s) : OutSteady o0 (execExpansionCellReceive l cell s) := by
  unfold execExpansionCellReceive
  repeat' split
  all_goals simp +contextual (maxDischargeDepth := 60) only [OutSteady.next, ↓OutSteady.ite, ↓Steady.ite, ↓State.huntCell_steady, ↓State.setCells_steady, ↓State.syncCell_steady, h0, implies_true, and_self]

theorem State.sendLink_steady {o0 : State} (s : State) (f : Nat) (h0 : Steady o0 s) : Steady o0 (State.sendLink s f) := by
  have h : ∀ (l : List (Nat × Nat)) (g : State × List Cell → Nat × Nat → State × List Cell) (x : State × List Cell), Steady o0 x.1 →
      (∀ y z, Steady o0 y.1 → Steady o0 (g y z).1) → Steady o0 (l.foldl g x).1 := by
    intro l g
    induction l with
    | nil => exact fun x hx _ => hx
    | cons z l ih => exact fun x hx hg => ih _ (hg x z hx) hg
  unfold State.sendLink
  exact (h _ _ _ h0 fun _ _ hy => State.setCells_steady _ _ _ hy).fields

theorem State.sendCells_steady {o0 : State} (s : State) (h0 : Steady o0 s) : Steady o0 (State.sendCells s) := by
  unfold State.sendCells
  simp +contextual (maxDischargeDepth := 60) only [↓Steady.ite, ↓Steady.foldl, ↓State.sendLink_steady, h0, implies_true, and_self]

/-! ## HostTx -/

theorem State.sendPatterns_steady {o0 : State} (s : State) (h0 : Steady o0 s) : Steady o0 (State.sendPatterns s) := by
  unfold State.sendPatterns
  simp +contextual (maxDischargeDepth := 60) only [↓Steady.ite, ↓Steady.foldl, ↓State.setCells_steady, h0, implies_true, and_self]

theorem State.sendClient_steady {o0 : State} (s : State) (f : Nat) (h0 : Steady o0 s) : Steady o0 (State.sendClient s f) := by
  unfold State.sendClient
  simp +contextual (maxDischargeDepth := 60) only [↓Steady.fields, h0]

theorem State.hostTransmit_steady {o0 : State} (s : State) (h0 : Steady o0 s) : Steady o0 (State.hostTransmit s) := by
  unfold State.hostTransmit
  simp +contextual (maxDischargeDepth := 60) only [↓Steady.ite, ↓Steady.foldl, ↓State.assembleVirtual_steady, ↓State.sendClient_steady, ↓State.sendPatterns_steady, ↓State.withPrism_steady, h0, implies_true, and_self]

/-! ## Fec -/

theorem State.fenceCore_steady {o0 : State} (s : State) (e c cause : Nat) (h0 : Steady o0 s) : Steady o0 (State.fenceCore s e c cause) := by
  unfold State.fenceCore
  simp +contextual (maxDischargeDepth := 60) only [↓State.bump_steady, ↓State.raise_steady, ↓State.withEngine_steady, h0]

theorem acceptFec_steady {o0 : State} (k : Key) (v : Val) {s : State} (h0 : Steady o0 s) : Steady o0 (acceptFec k v s).2 := by
  unfold acceptFec
  simp +contextual (maxDischargeDepth := 60) only [↓Steady.snd_ite, ↓acceptStage_steady, ↓State.plan_steady, h0, implies_true, and_self]

theorem State.coreTest_steady {o0 : State} (s : State) (e c : Nat) (h0 : Steady o0 s) : Steady o0 (State.coreTest s e c) := by
  unfold State.coreTest
  simp +contextual (maxDischargeDepth := 60) only [↓Steady.ite, ↓State.withEngine_steady, h0, implies_true, and_self]

theorem State.coreJoin_steady {o0 : State} (s : State) (e c : Nat) (h0 : Steady o0 s) : Steady o0 (State.coreJoin s e c) := by
  unfold State.coreJoin
  simp +contextual (maxDischargeDepth := 60) only [↓State.raise_steady, ↓State.setCore_steady, ↓State.withEngine_steady, h0]

theorem execDecCoreFail_steady {o0 : State} (e : Fin 4) (core : Fin 25) (cause : CoreCause) (codewords : Nat) (s : State) (h0 : Steady o0 s) : OutSteady o0 (execDecCoreFail e core cause codewords s) := by
  unfold execDecCoreFail
  simp +contextual (maxDischargeDepth := 60) only [↓OutSteady.ite, OutSteady.next, ↓State.fenceCore_steady, ↓State.setCore_steady, ↓State.withEngine_steady, h0, implies_true, and_self]

theorem State.dispatchWords_steady {o0 : State} (s : State) (e : Nat) (h0 : Steady o0 s) : Steady o0 (State.dispatchWords s e) := by
  unfold State.dispatchWords
  simp +contextual (maxDischargeDepth := 60) only [↓Steady.ite, ↓State.bump_steady, ↓State.withEngine_steady, h0, implies_true, and_self]

theorem execCoreStartupTestDone_steady {o0 : State} (e : Fin 4) (core : Fin 25) (pass : Bool) (s : State) (h0 : Steady o0 s) : OutSteady o0 (execCoreStartupTestDone e core pass s) := by
  unfold execCoreStartupTestDone
  simp +contextual (maxDischargeDepth := 60) only [↓Steady.ite, ↓OutSteady.ite, OutSteady.next, ↓State.fenceCore_steady, ↓State.setCore_steady, ↓State.withEngine_steady, h0, implies_true, and_self]

theorem execFecCoreRetest_steady {o0 : State} (rq : Rq) (e : Fin 4) (val : Val) (s : State) (h0 : Steady o0 s) : OutSteady o0 (execFecCoreRetest rq e val s) := by
  unfold execFecCoreRetest
  simp +contextual (maxDischargeDepth := 60) only [OutSteady.next, ↓acceptFec_steady, ↓serveWrite_steady, h0, implies_true]

theorem execCoreRetestDone_steady {o0 : State} (e : Fin 4) (core : Fin 25) (pass : Bool) (s : State) (h0 : Steady o0 s) : OutSteady o0 (execCoreRetestDone e core pass s) := by
  unfold execCoreRetestDone
  simp +contextual (maxDischargeDepth := 60) only [↓Steady.ite, ↓OutSteady.ite, OutSteady.next, ↓State.fenceCore_steady, ↓State.plan_steady, ↓State.withEngine_steady, h0, implies_true, and_self]

theorem execFecfailDeclare_steady {o0 : State} (e : Fin 4) (fraction ticks : Nat) (s : State) (h0 : Steady o0 s) : OutSteady o0 (execFecfailDeclare e fraction ticks s) := by
  unfold execFecfailDeclare
  simp +contextual (maxDischargeDepth := 60) only [↓OutSteady.ite, OutSteady.next, ↓State.declare_steady, h0, implies_true, and_self]

theorem execFecfailClear_steady {o0 : State} (e : Fin 4) (ticks : Nat) (s : State) (h0 : Steady o0 s) : OutSteady o0 (execFecfailClear e ticks s) := by
  unfold execFecfailClear
  simp +contextual (maxDischargeDepth := 60) only [↓OutSteady.ite, OutSteady.next, ↓State.clear_steady, h0, implies_true, and_self]

/-! ## LineDsp -/

theorem State.setTxStatus_steady {o0 : State} (s : State) (e b : Nat) (on : Bool) (h0 : Steady o0 s) : Steady o0 (State.setTxStatus s e b on) := by
  unfold State.setTxStatus
  simp +contextual (maxDischargeDepth := 60) only [↓State.setObj_steady, h0]

theorem State.stageTx_steady {o0 : State} (s : State) (k : Key) (v : Nat) (h0 : Steady o0 s) : Steady o0 (State.stageTx s k v) := by
  unfold State.stageTx
  simp +contextual (maxDischargeDepth := 60) only [↓State.setTxStatus_steady, ↓State.stage_steady, h0]

theorem acceptModeWrite_steady {o0 : State} (k : Key) (v : Val) {s : State} (h0 : Steady o0 s) : Steady o0 (acceptModeWrite k v s).2 := by
  unfold acceptModeWrite
  simp +contextual (maxDischargeDepth := 60) only [↓Steady.snd_ite, ↓Steady.foldl, ↓State.stageTx_steady, h0, implies_true, and_self]

theorem acceptNotch_steady {o0 : State} (k : Key) (v : Val) {s : State} (h0 : Steady o0 s) : Steady o0 (acceptNotch k v s).2 := by
  unfold acceptNotch
  simp +contextual (maxDischargeDepth := 60) only [↓Steady.snd_ite, ↓State.stageTx_steady, h0, implies_true, and_self]

theorem acceptCd_steady {o0 : State} (k : Key) (v : Val) {s : State} (h0 : Steady o0 s) : Steady o0 (acceptCd k v s).2 := by
  unfold acceptCd
  simp +contextual (maxDischargeDepth := 60) only [↓Steady.snd_ite, ↓acceptStage_steady, h0, implies_true, and_self]

theorem acceptRestart_steady {o0 : State} (k : Key) (v : Val) {s : State} (h0 : Steady o0 s) : Steady o0 (acceptRestart k v s).2 := by
  unfold acceptRestart
  simp +contextual (maxDischargeDepth := 60) only [↓Steady.fields, h0]

theorem acceptDsp_steady {o0 : State} (k : Key) (v : Val) {s : State} (h0 : Steady o0 s) : Steady o0 (acceptDsp k v s).2 := by
  unfold acceptDsp
  simp +contextual (maxDischargeDepth := 60) only [↓Steady.snd_ite, ↓acceptCd_steady, ↓acceptModeWrite_steady, ↓acceptNotch_steady, ↓acceptRestart_steady, ↓acceptStage_steady, ↓State.stageTx_steady, h0, implies_true, and_self]

theorem State.refreshTxStatus_steady {o0 : State} (s : State) (e : Nat) (h0 : Steady o0 s) : Steady o0 (State.refreshTxStatus s e) := by
  unfold State.refreshTxStatus
  simp +contextual (maxDischargeDepth := 60) only [↓State.setTxStatus_steady, ↓State.withEngine_steady, h0]

theorem commitDsp_steady {o0 : State} (k : Key) (s : State) (h0 : Steady o0 s) : Steady o0 (commitDsp k s) := by
  unfold commitDsp
  simp +contextual (maxDischargeDepth := 60) only [↓Steady.ite, ↓State.followFixed_steady, ↓State.refreshTxStatus_steady, ↓State.setTxStatus_steady, h0, implies_true, and_self]

theorem State.commitMode_steady {o0 : State} (s : State) (e : Nat) (ws : List (Key × Nat)) (h0 : Steady o0 s) : Steady o0 (State.commitMode s e ws) := by
  unfold State.commitMode
  simp +contextual (maxDischargeDepth := 60) only [↓Steady.ite, ↓Steady.foldl, ↓State.emptyPipe_steady, ↓State.followFixed_steady, ↓State.raise_steady, ↓State.reacquire_steady, ↓State.refreshTxStatus_steady, ↓State.setObj_steady, ↓State.setTxStatus_steady, ↓State.unbond_steady, ↓State.withEngine_steady, h0, implies_true, and_self]

theorem State.commitModes_steady {o0 : State} (s : State) (h0 : Steady o0 s) : Steady o0 (State.commitModes s) := by
  unfold State.commitModes
  simp +contextual (maxDischargeDepth := 60) only [↓Steady.fields, ↓Steady.foldl, ↓State.commitMode_steady, h0, implies_true]

theorem State.restartRx_steady {o0 : State} (s : State) (e kind : Nat) (h0 : Steady o0 s) : Steady o0 (State.restartRx s e kind) := by
  unfold State.restartRx
  simp +contextual (maxDischargeDepth := 60) only [↓State.reacquire_steady, h0]

theorem State.confirm_steady {o0 : State} (s : State) (e : Nat) (c : Candidate) (h0 : Steady o0 s) : Steady o0 (State.confirm s e c) := by
  unfold State.confirm
  simp +contextual (maxDischargeDepth := 60) only [↓Steady.ite, ↓State.raise_steady, ↓State.setInt_steady, ↓State.setObj_steady, ↓State.setReceiver_steady, ↓State.withEngine_steady, h0, implies_true, and_self]

theorem State.huntPosition_steady {o0 : State} (s : State) (e : Nat) (prim sec : Option SyncTest) (h0 : Steady o0 s) : Steady o0 (State.huntPosition s e prim sec) := by
  unfold State.huntPosition
  simp +contextual (maxDischargeDepth := 60) only []
  repeat' split
  all_goals simp +contextual (maxDischargeDepth := 60) only [↓State.bump_steady, ↓State.confirm_steady, ↓State.raise_steady, ↓State.setReceiver_steady, ↓State.withEngine_steady, h0]

theorem State.trackLocked_steady {o0 : State} (s : State) (e : Nat) (t : SyncTest) (h0 : Steady o0 s) : Steady o0 (State.trackLocked s e t) := by
  unfold State.trackLocked
  simp +contextual (maxDischargeDepth := 60) only [↓Steady.ite, ↓State.withEngine_steady, h0, implies_true, and_self]

theorem State.monitorPosition_steady {o0 : State} (s : State) (e : Nat) (t : SyncTest) (h0 : Steady o0 s) : Steady o0 (State.monitorPosition s e t) := by
  unfold State.monitorPosition
  simp +contextual (maxDischargeDepth := 60) only []
  repeat' split
  all_goals simp +contextual (maxDischargeDepth := 60) only [↓State.raise_steady, ↓State.withEngine_steady, h0]

theorem execLdspModeWrite_steady {o0 : State} (rq : Rq) (e : Fin 4) (val : Val) (s : State) (h0 : Steady o0 s) : OutSteady o0 (execLdspModeWrite rq e val s) := by
  unfold execLdspModeWrite
  simp +contextual (maxDischargeDepth := 60) only [OutSteady.next, ↓acceptDsp_steady, ↓serveWrite_steady, h0, implies_true]

theorem execLdspSubcarriersWrite_steady {o0 : State} (rq : Rq) (e : Fin 4) (val : Val) (s : State) (h0 : Steady o0 s) : OutSteady o0 (execLdspSubcarriersWrite rq e val s) := by
  unfold execLdspSubcarriersWrite
  simp +contextual (maxDischargeDepth := 60) only [OutSteady.next, ↓acceptDsp_steady, ↓serveWrite_steady, h0, implies_true]

theorem execLdspRolloffWrite_steady {o0 : State} (rq : Rq) (e : Fin 4) (val : Val) (s : State) (h0 : Steady o0 s) : OutSteady o0 (execLdspRolloffWrite rq e val s) := by
  unfold execLdspRolloffWrite
  simp +contextual (maxDischargeDepth := 60) only [OutSteady.next, ↓acceptDsp_steady, ↓serveWrite_steady, h0, implies_true]

theorem execLdspTxNotchWrite_steady {o0 : State} (rq : Rq) (e : Fin 4) (index : Nat) (val : Val) (s : State) (h0 : Steady o0 s) : OutSteady o0 (execLdspTxNotchWrite rq e index val s) := by
  unfold execLdspTxNotchWrite
  simp +contextual (maxDischargeDepth := 60) only [OutSteady.next, ↓acceptDsp_steady, ↓serveWrite_steady, h0, implies_true]

theorem execTxTrafficStart_steady {o0 : State} (e : Fin 4) (s : State) (h0 : Steady o0 s) : OutSteady o0 (execTxTrafficStart e s) := by
  unfold execTxTrafficStart
  repeat' split
  all_goals simp +contextual (maxDischargeDepth := 60) only [OutSteady.next, ↓State.withEngine_steady, h0]

theorem execAcqRestartNewSignal_steady {o0 : State} (rq : Rq) (e : Fin 4) (s : State) (h0 : Steady o0 s) : OutSteady o0 (execAcqRestartNewSignal rq e s) := by
  unfold execAcqRestartNewSignal
  simp +contextual (maxDischargeDepth := 60) only [OutSteady.next, ↓acceptDsp_steady, ↓serveWrite_steady, h0, implies_true]

theorem execAcqRestartCold_steady {o0 : State} (rq : Rq) (e : Fin 4) (s : State) (h0 : Steady o0 s) : OutSteady o0 (execAcqRestartCold rq e s) := by
  unfold execAcqRestartCold
  simp +contextual (maxDischargeDepth := 60) only [OutSteady.next, ↓acceptDsp_steady, ↓serveWrite_steady, h0, implies_true]

theorem execBuildDone_steady {o0 : State} (e : Fin 4) (s : State) (h0 : Steady o0 s) : OutSteady o0 (execBuildDone e s) := by
  unfold execBuildDone
  simp +contextual (maxDischargeDepth := 60) only [↓OutSteady.ite, OutSteady.next, ↓State.setReceiver_steady, h0, implies_true, and_self]

theorem execSearchDone_steady {o0 : State} (e : Fin 4) (cd : Int) (offset : Int) (s : State) (h0 : Steady o0 s) : OutSteady o0 (execSearchDone e cd offset s) := by
  unfold execSearchDone
  simp +contextual (maxDischargeDepth := 60) only [↓OutSteady.ite, OutSteady.next, ↓State.setInt_steady, ↓State.setReceiver_steady, h0, implies_true, and_self]

theorem execVerifyDone_steady {o0 : State} (e : Fin 4) (s : State) (h0 : Steady o0 s) : OutSteady o0 (execVerifyDone e s) := by
  unfold execVerifyDone
  simp +contextual (maxDischargeDepth := 60) only [↓OutSteady.ite, OutSteady.next, ↓State.setReceiver_steady, h0, implies_true, and_self]

theorem execVerifyTimeout_steady {o0 : State} (e : Fin 4) (s : State) (h0 : Steady o0 s) : OutSteady o0 (execVerifyTimeout e s) := by
  unfold execVerifyTimeout
  simp +contextual (maxDischargeDepth := 60) only [↓OutSteady.ite, OutSteady.next, ↓State.acquire_steady, h0, implies_true, and_self]

theorem execSyncPosition_steady {o0 : State} (e : Fin 4) (primary secondary : Option SyncTest) (s : State) (h0 : Steady o0 s) : OutSteady o0 (execSyncPosition e primary secondary s) := by
  unfold execSyncPosition
  repeat' split
  all_goals simp +contextual (maxDischargeDepth := 60) only [OutSteady.next, ↓State.huntPosition_steady, ↓State.monitorPosition_steady, ↓State.trackLocked_steady, h0]

theorem State.enterValid_steady {o0 : State} (s : State) (e : Nat) (h0 : Steady o0 s) : Steady o0 (State.enterValid s e) := by
  unfold State.enterValid
  simp +contextual (maxDischargeDepth := 60) only [↓Steady.ite, ↓State.clear_steady, ↓State.raise_steady, ↓State.setReceiver_steady, ↓State.withEngine_steady, h0, implies_true, and_self]

theorem execEnterValid_steady {o0 : State} (e : Fin 4) (s : State) (h0 : Steady o0 s) : OutSteady o0 (execEnterValid e s) := by
  unfold execEnterValid
  simp +contextual (maxDischargeDepth := 60) only [OutSteady.next, ↓State.enterValid_steady, h0]

theorem execAcqRetry_steady {o0 : State} (e : Fin 4) (s : State) (h0 : Steady o0 s) : OutSteady o0 (execAcqRetry e s) := by
  unfold execAcqRetry
  simp +contextual (maxDischargeDepth := 60) only [↓OutSteady.ite, OutSteady.next, ↓State.bump_steady, ↓State.raise_steady, ↓State.setObj_steady, ↓State.setReceiver_steady, ↓State.withEngine_steady, h0, implies_true, and_self]

theorem execLolDeclare_steady {o0 : State} (e : Fin 4) (cause : LolCause) (s : State) (h0 : Steady o0 s) : OutSteady o0 (execLolDeclare e cause s) := by
  unfold execLolDeclare
  repeat' split
  all_goals simp +contextual (maxDischargeDepth := 60) only [OutSteady.next, ↓State.declare_steady, ↓State.lolStore_steady, ↓State.raise_steady, ↓State.storeRx_steady, ↓State.withEngine_steady, h0]

theorem execStoredStateExpire_steady {o0 : State} (e : Fin 4) (s : State) (h0 : Steady o0 s) : OutSteady o0 (execStoredStateExpire e s) := by
  unfold execStoredStateExpire
  repeat' split
  all_goals simp +contextual (maxDischargeDepth := 60) only [OutSteady.next, ↓State.dropStored_steady, h0]

end Sys2Proof.Machine
end

