-- ==== Sys2Proof/Laws/SteadyServices.lean ====
section
/-! SUPPORT. What work within one tick keeps, one lemma per operation and command: the instruments, timing, performance monitoring, reconfiguration, the time base and the stores. -/

namespace Sys2Proof.Machine

/-! ## Instruments -/

theorem State.calAbortCheck_steady {o0 : State} (s : State) (e : Nat) (power : Int) (h0 : Steady o0 s) : Steady o0 (State.calAbortCheck s e power) := by
  unfold State.calAbortCheck
  repeat' split
  all_goals simp +contextual (maxDischargeDepth := 60) only [↓State.raise_steady, ↓State.stage_steady, ↓State.withEngine_steady, h0]

theorem State.calChecks_steady {o0 : State} (s : State) (h0 : Steady o0 s) : Steady o0 (State.calChecks s) := by
  unfold State.calChecks
  simp +contextual (maxDischargeDepth := 60) only [↓Steady.foldl, ↓State.calAbortCheck_steady, h0, implies_true]

theorem State.referenceReads_steady {o0 : State} (s : State) (microvolts : Nat) (clk : Bool) (h0 : Steady o0 s) : Steady o0 (State.referenceReads s microvolts clk) := by
  unfold State.referenceReads
  simp +contextual (maxDischargeDepth := 60) only [↓Steady.ite, ↓State.calChecks_steady, ↓State.raise_steady, ↓State.setObj_steady, h0, implies_true, and_self]

theorem State.withInstr_steady {o0 : State} (s : State) (f : Instruments → Instruments) (h0 : Steady o0 s) : Steady o0 (State.withInstr s f) := by
  unfold State.withInstr
  simp +contextual (maxDischargeDepth := 60) only [↓Steady.fields, h0]

theorem State.withLoupe_steady {o0 : State} (s : State) (f : Loupe → Loupe) (h0 : Steady o0 s) : Steady o0 (State.withLoupe s f) := by
  unfold State.withLoupe
  simp +contextual (maxDischargeDepth := 60) only [↓State.withInstr_steady, h0]

theorem State.setDmp_steady {o0 : State} (s : State) (e tpn : Nat) (v : Bool) (h0 : Steady o0 s) : Steady o0 (State.setDmp s e tpn v) := by
  unfold State.setDmp
  simp +contextual (maxDischargeDepth := 60) only [↓State.withEngine_steady, h0]

theorem State.loopDmp_steady {o0 : State} (s : State) (x : DmpIn) (h0 : Steady o0 s) : Steady o0 (State.loopDmp s x) := by
  unfold State.loopDmp
  simp +contextual (maxDischargeDepth := 60) only [↓Steady.ite, ↓State.setDmp_steady, h0, implies_true, and_self]

theorem State.toggleDmp_steady {o0 : State} (s : State) (e : Nat) (h0 : Steady o0 s) : Steady o0 (State.toggleDmp s e) := by
  unfold State.toggleDmp
  simp +contextual (maxDischargeDepth := 60) only [↓State.setDmp_steady, h0]

theorem State.loupeTriggerAt_steady {o0 : State} (s : State) (kind t : Nat) (h0 : Steady o0 s) : Steady o0 (State.loupeTriggerAt s kind t) := by
  unfold State.loupeTriggerAt
  simp +contextual (maxDischargeDepth := 60) only [↓State.raise_steady, ↓State.setObj_steady, ↓State.withLoupe_steady, h0]

theorem State.loupeHit_steady {o0 : State} (s : State) (kind t : Nat) (h0 : Steady o0 s) : Steady o0 (State.loupeHit s kind t) := by
  unfold State.loupeHit
  repeat' split
  all_goals simp +contextual (maxDischargeDepth := 60) only [↓State.bump_steady, ↓State.loupeTriggerAt_steady, h0]

theorem State.loupeScan_steady {o0 : State} (s : State) (h0 : Steady o0 s) : Steady o0 (State.loupeScan s) := by
  unfold State.loupeScan
  simp +contextual (maxDischargeDepth := 60) only [↓Steady.ite, ↓State.loupeHit_steady, ↓State.withLoupe_steady, h0, implies_true, and_self]

theorem State.loupeFinish_steady {o0 : State} (s : State) (h0 : Steady o0 s) : Steady o0 (State.loupeFinish s) := by
  unfold State.loupeFinish
  simp +contextual (maxDischargeDepth := 60) only [↓State.raise_steady, ↓State.setObj_steady, h0]

theorem State.loupeAbort_steady {o0 : State} (s : State) (cause : Nat) (h0 : Steady o0 s) : Steady o0 (State.loupeAbort s cause) := by
  unfold State.loupeAbort
  simp +contextual (maxDischargeDepth := 60) only [↓Steady.ite, ↓State.raise_steady, ↓State.setObj_steady, ↓State.withLoupe_steady, h0, implies_true, and_self]

theorem State.loupeAppend_steady {o0 : State} (s : State) (r : LoupeRec) (kept : Bool) (h0 : Steady o0 s) : Steady o0 (State.loupeAppend s r kept) := by
  unfold State.loupeAppend
  repeat' split
  all_goals simp +contextual (maxDischargeDepth := 60) only [↓Steady.ite, ↓State.loupeFinish_steady, ↓State.withLoupe_steady, h0, implies_true, and_self]

theorem State.loupeStage_steady {o0 : State} (s : State) (ins : List LoupeIn) (h0 : Steady o0 s) : Steady o0 (State.loupeStage s ins) := by
  unfold State.loupeStage
  repeat' split
  all_goals simp +contextual (maxDischargeDepth := 60) only [↓Steady.foldl, ↓State.loupeAppend_steady, ↓State.withLoupe_steady, h0, implies_true]

theorem State.loupeFrame_steady {o0 : State} (s : State) (copy : RingCopy) (h0 : Steady o0 s) : Steady o0 (State.loupeFrame s copy) := by
  unfold State.loupeFrame
  simp +contextual (maxDischargeDepth := 60) only [↓Steady.ite, ↓State.loupeAppend_steady, h0, implies_true, and_self]

theorem acceptLoupeArm_steady {o0 : State} (k : Key) (v : Val) {s : State} (h0 : Steady o0 s) : Steady o0 (acceptLoupeArm k v s).2 := by
  unfold acceptLoupeArm
  simp +contextual (maxDischargeDepth := 60) only [↓Steady.snd_ite, ↓Steady.foldl, ↓State.loupeAbort_steady, ↓State.setObj_steady, ↓State.withLoupe_steady, h0, implies_true, and_self]

theorem State.fireLoupe_steady {o0 : State} (s : State) (h0 : Steady o0 s) : Steady o0 (State.fireLoupe s) := by
  unfold State.fireLoupe
  simp +contextual (maxDischargeDepth := 60) only [↓Steady.ite, ↓State.loupeHit_steady, h0, implies_true, and_self]

theorem State.withHk_steady {o0 : State} (s : State) (m : Nat) (f : HkRun → HkRun) (h0 : Steady o0 s) : Steady o0 (State.withHk s m f) := by
  unfold State.withHk
  simp +contextual (maxDischargeDepth := 60) only [↓State.withInstr_steady, h0]

theorem State.hkPush_steady {o0 : State} (s : State) (w : Nat) (h0 : Steady o0 s) : Steady o0 (State.hkPush s w) := by
  unfold State.hkPush
  simp +contextual (maxDischargeDepth := 60) only [↓Steady.ite, ↓State.bump_steady, ↓State.setObj_steady, ↓State.withInstr_steady, h0, implies_true, and_self]

theorem State.hkMark_steady {o0 : State} (s : State) (m code : Nat) (h0 : Steady o0 s) : Steady o0 (State.hkMark s m code) := by
  unfold State.hkMark
  simp +contextual (maxDischargeDepth := 60) only [↓State.hkPush_steady, h0]

theorem State.enterStep_steady {o0 : State} (s : State) (m x : Nat) (h0 : Steady o0 s) : Steady o0 (State.enterStep s m x) := by
  unfold State.enterStep
  simp +contextual (maxDischargeDepth := 60) only [↓Steady.ite, ↓State.withHk_steady, ↓State.withInstr_steady, h0, implies_true, and_self]

theorem State.startSeq_steady {o0 : State} (s : State) (m : Nat) (h0 : Steady o0 s) : Steady o0 (State.startSeq s m) := by
  unfold State.startSeq
  simp +contextual (maxDischargeDepth := 60) only [↓State.enterStep_steady, ↓State.hkMark_steady, ↓State.setObj_steady, ↓State.withHk_steady, h0]

theorem State.endSeq_steady {o0 : State} (s : State) (m : Nat) (h0 : Steady o0 s) : Steady o0 (State.endSeq s m) := by
  unfold State.endSeq
  simp +contextual (maxDischargeDepth := 60) only [↓Steady.ite, ↓State.hkMark_steady, ↓State.setObj_steady, ↓State.startSeq_steady, h0, implies_true, and_self]

theorem State.hkTake_steady {o0 : State} (s : State) (m : Nat) (h0 : Steady o0 s) : Steady o0 (State.hkTake s m) := by
  unfold State.hkTake
  simp +contextual (maxDischargeDepth := 60) only [↓Steady.ite, ↓State.bump_steady, ↓State.hkMark_steady, ↓State.raise_steady, ↓State.setObj_steady, ↓State.startSeq_steady, ↓State.withHk_steady, h0, implies_true, and_self]

theorem State.hkTrigger_steady {o0 : State} (s : State) (m : Nat) (h0 : Steady o0 s) : Steady o0 (State.hkTrigger s m) := by
  unfold State.hkTrigger
  simp +contextual (maxDischargeDepth := 60) only [↓Steady.ite, ↓State.endSeq_steady, ↓State.hkTake_steady, h0, implies_true, and_self]

theorem State.periodTrigger_steady {o0 : State} (s : State) (m : Nat) (h0 : Steady o0 s) : Steady o0 (State.periodTrigger s m) := by
  unfold State.periodTrigger
  simp +contextual (maxDischargeDepth := 60) only [↓Steady.ite, ↓State.hkTrigger_steady, ↓State.withHk_steady, h0, implies_true, and_self]

theorem State.judge_steady {o0 : State} (s : State) (c word : Nat) (data : Int) (h0 : Steady o0 s) : Steady o0 (State.judge s c word data) := by
  unfold State.judge
  simp +contextual (maxDischargeDepth := 60) only [↓Steady.ite, ↓State.loupeHit_steady, ↓State.raise_steady, ↓State.withInstr_steady, h0, implies_true, and_self]

theorem State.hkConvert_steady {o0 : State} (s : State) (c : Nat) (powered : Bool) (data : Int) (h0 : Steady o0 s) : Steady o0 (State.hkConvert s c powered data) := by
  unfold State.hkConvert
  simp +contextual (maxDischargeDepth := 60) only [↓Steady.ite, ↓State.hkPush_steady, ↓State.judge_steady, ↓State.setObj_steady, ↓State.withInstr_steady, h0, implies_true, and_self]

theorem acceptHkChannel_steady {o0 : State} (k : Key) (v : Val) {s : State} (h0 : Steady o0 s) : Steady o0 (acceptHkChannel k v s).2 := by
  unfold acceptHkChannel
  repeat' split
  all_goals simp +contextual (maxDischargeDepth := 60) only [↓Steady.snd_ite, ↓acceptStage_steady, ↓State.stage_steady, h0, implies_true, and_self]

theorem acceptHkSeq_steady {o0 : State} (k : Key) (v : Val) {s : State} (h0 : Steady o0 s) : Steady o0 (acceptHkSeq k v s).2 := by
  unfold acceptHkSeq
  repeat' split
  all_goals simp +contextual (maxDischargeDepth := 60) only [↓Steady.snd_ite, ↓acceptStage_steady, ↓State.hkTrigger_steady, h0, implies_true, and_self]

theorem acceptInterleave_steady {o0 : State} (k : Key) (v : Val) {s : State} (h0 : Steady o0 s) : Steady o0 (acceptInterleave k v s).2 := by
  unfold acceptInterleave
  simp +contextual (maxDischargeDepth := 60) only [↓Steady.snd_ite, ↓acceptStage_steady, h0, implies_true, and_self]

theorem acceptHk_steady {o0 : State} (k : Key) (v : Val) {s : State} (h0 : Steady o0 s) : Steady o0 (acceptHk k v s).2 := by
  unfold acceptHk
  simp +contextual (maxDischargeDepth := 60) only [↓Steady.snd_ite, ↓acceptHkChannel_steady, ↓acceptHkSeq_steady, ↓acceptInterleave_steady, h0, implies_true, and_self]

theorem acceptMeas_steady {o0 : State} (k : Key) (v : Val) {s : State} (h0 : Steady o0 s) : Steady o0 (acceptMeas k v s).2 := by
  unfold acceptMeas
  repeat' split
  all_goals simp +contextual (maxDischargeDepth := 60) only [↓acceptLoupeArm_steady, ↓acceptStage_steady, ↓State.plan_steady, h0]

theorem State.runContinuous_steady {o0 : State} (s : State) (m : Nat) (h0 : Steady o0 s) : Steady o0 (State.runContinuous s m) := by
  unfold State.runContinuous
  simp +contextual (maxDischargeDepth := 60) only [↓Steady.ite, ↓State.startSeq_steady, h0, implies_true, and_self]

theorem commitInstr_steady {o0 : State} (k : Key) (before s : State) (h0 : Steady o0 s) : Steady o0 (commitInstr k before s) := by
  unfold commitInstr
  repeat' split
  all_goals simp +contextual (maxDischargeDepth := 60) only [↓Steady.foldl, ↓State.closeTransient_steady, ↓State.runContinuous_steady, ↓State.setObj_steady, ↓State.withInstr_steady, h0, implies_true]

theorem execMeasUpdate_steady {o0 : State} (e : Fin 4) (x : Estimates) (s : State) (h0 : Steady o0 s) : OutSteady o0 (execMeasUpdate e x s) := by
  unfold execMeasUpdate
  simp +contextual (maxDischargeDepth := 60) only [↓Steady.ite, ↓OutSteady.ite, OutSteady.next, ↓State.setInt_steady, ↓State.setObj_steady, h0, implies_true, and_self]

theorem State.rtdExpire_steady {o0 : State} (s : State) (e : Nat) (h0 : Steady o0 s) : Steady o0 (State.rtdExpire s e) := by
  unfold State.rtdExpire
  simp +contextual (maxDischargeDepth := 60) only [↓State.raise_steady, ↓State.setObj_steady, ↓State.withEngine_steady, h0]

theorem execRtdMeasure_steady {o0 : State} (e : Fin 4) (stamp : Nat) (s : State) (h0 : Steady o0 s) : OutSteady o0 (execRtdMeasure e stamp s) := by
  unfold execRtdMeasure
  simp +contextual (maxDischargeDepth := 60) only [↓State.toggleDmp_steady, ↓Steady.ite, ↓OutSteady.ite, OutSteady.next, ↓State.rtdExpire_steady, ↓State.withEngine_steady, h0, implies_true, and_self]

theorem execRtdReturn_steady {o0 : State} (e : Fin 4) (stamp : Nat) (s : State) (h0 : Steady o0 s) : OutSteady o0 (execRtdReturn e stamp s) := by
  unfold execRtdReturn
  repeat' split
  all_goals simp +contextual (maxDischargeDepth := 60) only [OutSteady.next, ↓State.rtdExpire_steady, ↓State.setObj_steady, ↓State.withEngine_steady, h0]

theorem execRtdTimeout_steady {o0 : State} (e : Fin 4) (s : State) (h0 : Steady o0 s) : OutSteady o0 (execRtdTimeout e s) := by
  unfold execRtdTimeout
  repeat' split
  all_goals simp +contextual (maxDischargeDepth := 60) only [OutSteady.next, ↓State.rtdExpire_steady, h0]

theorem execPscTransientOpen_steady {o0 : State} (e : Fin 4) (speed : Nat) (s : State) (h0 : Steady o0 s) : OutSteady o0 (execPscTransientOpen e speed s) := by
  unfold execPscTransientOpen
  simp +contextual (maxDischargeDepth := 60) only [↓OutSteady.ite, OutSteady.next, ↓State.setObj_steady, ↓State.withEngine_steady, h0, implies_true, and_self]

theorem execPscClassify_steady {o0 : State} (e : Fin 4) (speed above : Nat) (s : State) (h0 : Steady o0 s) : OutSteady o0 (execPscClassify e speed above s) := by
  unfold execPscClassify
  repeat' split
  all_goals simp +contextual (maxDischargeDepth := 60) only [↓Steady.ite, OutSteady.next, ↓State.bump_steady, ↓State.loupeHit_steady, ↓State.raise_steady, ↓State.setObj_steady, ↓State.withEngine_steady, ↓State.withProt_steady, h0, implies_true, and_self]

theorem execPscTransientClose_steady {o0 : State} (e : Fin 4) (quiet peak : Nat) (s : State) (h0 : Steady o0 s) : OutSteady o0 (execPscTransientClose e quiet peak s) := by
  unfold execPscTransientClose
  simp +contextual (maxDischargeDepth := 60) only [↓OutSteady.ite, OutSteady.next, ↓State.closeTransient_steady, ↓State.withEngine_steady, h0, implies_true, and_self]

theorem execHkResult_steady {o0 : State} (c : Fin 64) (data : Int) (s : State) (h0 : Steady o0 s) : OutSteady o0 (execHkResult c data s) := by
  unfold execHkResult
  repeat' split
  all_goals simp +contextual (maxDischargeDepth := 60) only [↓Steady.ite, ↓OutSteady.ite, OutSteady.next, ↓State.enterStep_steady, ↓State.hkConvert_steady, ↓State.referenceReads_steady, ↓State.withHk_steady, h0, implies_true, and_self]

theorem execHkSeqFire_steady {o0 : State} (rq : Rq) (m : Fin 16) (val : Val) (s : State) (h0 : Steady o0 s) : OutSteady o0 (execHkSeqFire rq m val s) := by
  unfold execHkSeqFire
  simp +contextual (maxDischargeDepth := 60) only [OutSteady.next, ↓acceptHk_steady, ↓serveWrite_steady, h0, implies_true]

theorem execHkSeqPeriodTrigger_steady {o0 : State} (m : Fin 16) (s : State) (h0 : Steady o0 s) : OutSteady o0 (execHkSeqPeriodTrigger m s) := by
  unfold execHkSeqPeriodTrigger
  simp +contextual (maxDischargeDepth := 60) only [OutSteady.next, ↓State.atBoundary_steady, ↓State.periodTrigger_steady, h0, implies_true]

theorem execHkSeqEnd_steady {o0 : State} (m : Fin 16) (s : State) (h0 : Steady o0 s) : OutSteady o0 (execHkSeqEnd m s) := by
  unfold execHkSeqEnd
  simp +contextual (maxDischargeDepth := 60) only [OutSteady.next, ↓State.endSeq_steady, h0]

theorem execHkSeqStepsWrite_steady {o0 : State} (rq : Rq) (m : Fin 16) (index : Nat) (val : Val) (s : State) (h0 : Steady o0 s) : OutSteady o0 (execHkSeqStepsWrite rq m index val s) := by
  unfold execHkSeqStepsWrite
  simp +contextual (maxDischargeDepth := 60) only [OutSteady.next, ↓acceptHk_steady, ↓serveWrite_steady, h0, implies_true]

theorem execHkInterleaveWrite_steady {o0 : State} (rq : Rq) (val : Val) (s : State) (h0 : Steady o0 s) : OutSteady o0 (execHkInterleaveWrite rq val s) := by
  unfold execHkInterleaveWrite
  simp +contextual (maxDischargeDepth := 60) only [OutSteady.next, ↓acceptHk_steady, ↓serveWrite_steady, h0, implies_true]

theorem execLoupeArm_steady {o0 : State} (rq : Rq) (s : State) (h0 : Steady o0 s) : OutSteady o0 (execLoupeArm rq s) := by
  unfold execLoupeArm
  simp +contextual (maxDischargeDepth := 60) only [OutSteady.next, ↓acceptMeas_steady, ↓serveWrite_steady, h0, implies_true]

theorem execLoupeAbort_steady {o0 : State} (rq : Rq) (s : State) (h0 : Steady o0 s) : OutSteady o0 (execLoupeAbort rq s) := by
  unfold execLoupeAbort
  simp +contextual (maxDischargeDepth := 60) only [OutSteady.next, ↓acceptMeas_steady, ↓serveWrite_steady, h0, implies_true]

theorem execLoupeFire_steady {o0 : State} (rq : Rq) (val : Val) (s : State) (h0 : Steady o0 s) : OutSteady o0 (execLoupeFire rq val s) := by
  unfold execLoupeFire
  simp +contextual (maxDischargeDepth := 60) only [OutSteady.next, ↓acceptMeas_steady, ↓serveWrite_steady, h0, implies_true]

theorem execLoupeTrigger_steady {o0 : State} (s : State) (h0 : Steady o0 s) : OutSteady o0 (execLoupeTrigger s) := by
  unfold execLoupeTrigger
  simp +contextual (maxDischargeDepth := 60) only [OutSteady.next, ↓State.loupeScan_steady, h0]

theorem execLoupeDone_steady {o0 : State} (s : State) (h0 : Steady o0 s) : OutSteady o0 (execLoupeDone s) := by
  unfold execLoupeDone
  simp +contextual (maxDischargeDepth := 60) only [↓Steady.ite, OutSteady.next, ↓State.loupeFinish_steady, h0, implies_true, and_self]

/-! ## Timing -/

theorem State.rebase_steady {o0 : State} (s : State) (d : Nat) (h0 : Steady o0 s) : Steady o0 (State.rebase s d) := by
  unfold State.rebase
  simp +contextual (maxDischargeDepth := 60) only [↓State.withDpll_steady, h0]

theorem State.withPps_steady {o0 : State} (s : State) (p : Nat) (f : PpsOut → PpsOut) (h0 : Steady o0 s) : Steady o0 (State.withPps s p f) := by
  unfold State.withPps
  simp +contextual (maxDischargeDepth := 60) only [↓State.withTiming_steady, h0]

theorem State.givePulse_steady {o0 : State} (s : State) (p : Nat) (phase : Int) (h0 : Steady o0 s) : Steady o0 (State.givePulse s p phase) := by
  unfold State.givePulse
  simp +contextual (maxDischargeDepth := 60) only [↓State.withPps_steady, h0]

theorem State.ppsRollover_steady {o0 : State} (s : State) (h0 : Steady o0 s) : Steady o0 (State.ppsRollover s) := by
  unfold State.ppsRollover
  simp +contextual (maxDischargeDepth := 60) only [↓Steady.ite, ↓Steady.foldl, ↓State.givePulse_steady, h0, implies_true, and_self]

theorem State.ppsAlign_steady {o0 : State} (s : State) (input : Nat) (phase : Int) (h0 : Steady o0 s) : Steady o0 (State.ppsAlign s input phase) := by
  unfold State.ppsAlign
  simp +contextual (maxDischargeDepth := 60) only [↓Steady.ite, ↓Steady.foldl, ↓State.givePulse_steady, ↓State.withPps_steady, h0, implies_true, and_self]

theorem State.ppsContinue_steady {o0 : State} (s : State) (h0 : Steady o0 s) : Steady o0 (State.ppsContinue s) := by
  unfold State.ppsContinue
  simp +contextual (maxDischargeDepth := 60) only [↓Steady.ite, ↓Steady.foldl, ↓State.givePulse_steady, h0, implies_true, and_self]

theorem State.setDp_steady {o0 : State} (s : State) (d new : Nat) (h0 : Steady o0 s) : Steady o0 (State.setDp s d new) := by
  unfold State.setDp
  simp +contextual (maxDischargeDepth := 60) only [↓Steady.ite, ↓State.raise_steady, ↓State.setObj_steady, h0, implies_true, and_self]

theorem State.selectRef_steady {o0 : State} (s : State) (d new : Nat) (error : Int) (h0 : Steady o0 s) : Steady o0 (State.selectRef s d new error) := by
  unfold State.selectRef
  simp +contextual (maxDischargeDepth := 60) only [↓State.raise_steady, ↓State.setObj_steady, h0]

theorem State.switchTo_steady {o0 : State} (s : State) (d r : Nat) (error : Int) (differs : Bool) (h0 : Steady o0 s) : Steady o0 (State.switchTo s d r error differs) := by
  unfold State.switchTo
  simp +contextual (maxDischargeDepth := 60) only [↓State.rebase_steady, ↓State.selectRef_steady, ↓State.setDp_steady, ↓State.withDpll_steady, h0]

theorem State.enterHoldover_steady {o0 : State} (s : State) (d : Nat) (h0 : Steady o0 s) : Steady o0 (State.enterHoldover s d) := by
  unfold State.enterHoldover
  repeat' split
  all_goals simp +contextual (maxDischargeDepth := 60) only [↓Steady.ite, ↓State.rebase_steady, ↓State.selectRef_steady, ↓State.setDp_steady, ↓State.setObj_steady, ↓State.withDpll_steady, h0, implies_true, and_self]

theorem State.makeSwitch_steady {o0 : State} (s : State) (d : Nat) (change : Option (Option Nat)) (error : Int) (differs : Bool) (h0 : Steady o0 s) : Steady o0 (State.makeSwitch s d change error differs) := by
  unfold State.makeSwitch
  repeat' split
  all_goals simp +contextual (maxDischargeDepth := 60) only [↓State.enterHoldover_steady, ↓State.switchTo_steady, ↓State.withDpll_steady, h0]

theorem State.commitSwitch_steady {o0 : State} (s : State) (d : Nat) (error : Int) (differs : Bool) (h0 : Steady o0 s) : Steady o0 (State.commitSwitch s d error differs) := by
  unfold State.commitSwitch
  simp +contextual (maxDischargeDepth := 60) only [↓State.makeSwitch_steady, h0]

theorem State.lockDp_steady {o0 : State} (s : State) (d : Nat) (h0 : Steady o0 s) : Steady o0 (State.lockDp s d) := by
  unfold State.lockDp
  simp +contextual (maxDischargeDepth := 60) only [↓State.rebase_steady, ↓State.setDp_steady, ↓State.withDpll_steady, h0]

theorem State.storeSecond_steady {o0 : State} (s : State) (d : Nat) (mean : Int) (h0 : Steady o0 s) : Steady o0 (State.storeSecond s d mean) := by
  unfold State.storeSecond
  repeat' split
  all_goals simp +contextual (maxDischargeDepth := 60) only [↓State.withDpll_steady, h0]

theorem acceptHold_steady {o0 : State} (k : Key) (v : Val) {s : State} (h0 : Steady o0 s) : Steady o0 (acceptHold k v s).2 := by
  unfold acceptHold
  simp +contextual (maxDischargeDepth := 60) only [↓Steady.snd_ite, ↓acceptStage_steady, h0, implies_true, and_self]

theorem acceptDpll_steady {o0 : State} (k : Key) (v : Val) {s : State} (h0 : Steady o0 s) : Steady o0 (acceptDpll k v s).2 := by
  unfold acceptDpll
  repeat' split
  all_goals simp +contextual (maxDischargeDepth := 60) only [↓acceptHold_steady, ↓acceptStage_steady, ↓State.rebase_steady, ↓State.withDpll_steady, h0]

theorem acceptTiming_steady {o0 : State} (k : Key) (v : Val) {s : State} (h0 : Steady o0 s) : Steady o0 (acceptTiming k v s).2 := by
  unfold acceptTiming
  repeat' split
  all_goals simp +contextual (maxDischargeDepth := 60) only [↓acceptDpll_steady, ↓acceptHold_steady, ↓acceptStage_steady, ↓State.withTiming_steady, h0]

theorem State.commitDpMode_steady {o0 : State} (s : State) (d : Nat) (h0 : Steady o0 s) : Steady o0 (State.commitDpMode s d) := by
  unfold State.commitDpMode
  repeat' split
  all_goals simp +contextual (maxDischargeDepth := 60) only [↓Steady.ite, ↓State.rebase_steady, ↓State.selectRef_steady, ↓State.setDp_steady, ↓State.withDpll_steady, h0, implies_true, and_self]

theorem commitTiming_steady {o0 : State} (k : Key) (s : State) (h0 : Steady o0 s) : Steady o0 (commitTiming k s) := by
  unfold commitTiming
  repeat' split
  all_goals simp +contextual (maxDischargeDepth := 60) only [↓Steady.foldl, ↓State.commitDpMode_steady, ↓State.followChecks_steady, ↓State.refreshLevel_steady, ↓State.withPps_steady, h0, implies_true]

theorem execRefFail_steady {o0 : State} (r : Fin 20) (missing : Nat) (s : State) (h0 : Steady o0 s) : OutSteady o0 (execRefFail r missing s) := by
  unfold execRefFail
  repeat' split
  all_goals simp +contextual (maxDischargeDepth := 60) only [OutSteady.next, ↓State.failRef_steady, h0]

theorem execRefFailClear_steady {o0 : State} (r : Fin 20) (run : Nat) (s : State) (h0 : Steady o0 s) : OutSteady o0 (execRefFailClear r run s) := by
  unfold execRefFailClear
  simp +contextual (maxDischargeDepth := 60) only [↓OutSteady.ite, OutSteady.next, ↓State.clearRef_steady, h0, implies_true, and_self]

theorem State.sampleRef_steady {o0 : State} (s : State) (r : Nat) (offset : Int) (h0 : Steady o0 s) : Steady o0 (State.sampleRef s r offset) := by
  unfold State.sampleRef
  simp +contextual (maxDischargeDepth := 60) only [↓State.withRef_steady, h0]

theorem State.measureRef_steady {o0 : State} (s : State) (r : Nat) (offset : Int) (fresh : Bool) (h0 : Steady o0 s) :
    Steady o0 (s.measureRef r offset fresh) := by
  unfold State.measureRef
  simp +contextual (maxDischargeDepth := 60) only [↓Steady.ite, ↓State.sampleRef_steady, ↓State.setInt_steady, h0, implies_true, and_self]

theorem execRefCheck_steady {o0 : State} (r : Fin 20) (measured : Int) (fresh : Bool) (s : State) (h0 : Steady o0 s) :
    OutSteady o0 (execRefCheck r measured fresh s) := by
  unfold execRefCheck
  simp +contextual (maxDischargeDepth := 60) only []
  repeat' split
  all_goals simp +contextual (maxDischargeDepth := 60) only [OutSteady.next, ↓State.dropQualified_steady, ↓State.followChecks_steady, ↓State.raise_steady, ↓State.recoverRef_steady, ↓State.measureRef_steady, ↓State.setObj_steady, ↓State.withRef_steady, h0]

theorem execRefQualify_steady {o0 : State} (r : Fin 20) (s : State) (h0 : Steady o0 s) : OutSteady o0 (execRefQualify r s) := by
  unfold execRefQualify
  simp +contextual (maxDischargeDepth := 60) only [↓OutSteady.ite, OutSteady.next, ↓State.setRefState_steady, h0, implies_true, and_self]

theorem execDpllSwitchCommit_steady {o0 : State} (d : Fin 4) (error : Int) (differs : Bool) (s : State) (h0 : Steady o0 s) : OutSteady o0 (execDpllSwitchCommit d error differs s) := by
  unfold execDpllSwitchCommit
  simp +contextual (maxDischargeDepth := 60) only [OutSteady.next, ↓State.atBoundary_steady, ↓State.commitSwitch_steady, h0, implies_true]

theorem execDpllFrequencyLock_steady {o0 : State} (d : Fin 4) (ticks : Nat) (error : Int) (s : State) (h0 : Steady o0 s) : OutSteady o0 (execDpllFrequencyLock d ticks error s) := by
  unfold execDpllFrequencyLock
  simp +contextual (maxDischargeDepth := 60) only [↓OutSteady.ite, OutSteady.next, ↓State.rebase_steady, ↓State.setDp_steady, ↓State.withDpll_steady, h0, implies_true, and_self]

theorem execSlewDone_steady {o0 : State} (d : Fin 4) (s : State) (h0 : Steady o0 s) : OutSteady o0 (execSlewDone d s) := by
  unfold execSlewDone
  simp +contextual (maxDischargeDepth := 60) only [↓OutSteady.ite, OutSteady.next, ↓State.lockDp_steady, h0, implies_true, and_self]

theorem execXoFail_steady {o0 : State} (ppm : Option Nat) (s : State) (h0 : Steady o0 s) : OutSteady o0 (execXoFail ppm s) := by
  unfold execXoFail
  simp +contextual (maxDischargeDepth := 60) only [↓OutSteady.ite, OutSteady.next, ↓Steady.foldl, ↓State.raise_steady, ↓State.setObj_steady, ↓State.withRef_steady, h0, implies_true, and_self]

theorem execXoReturn_steady {o0 : State} (ppm ticks : Nat) (s : State) (h0 : Steady o0 s) : OutSteady o0 (execXoReturn ppm ticks s) := by
  unfold execXoReturn
  simp +contextual (maxDischargeDepth := 60) only [↓OutSteady.ite, OutSteady.next, ↓State.raise_steady, ↓State.setObj_steady, h0, implies_true, and_self]

theorem State.receiveLevel_steady {o0 : State} (s : State) (f mode ssm : Nat) (essm : Option Nat) (h0 : Steady o0 s) :
    Steady o0 (State.receiveLevel s f mode ssm essm) := by
  unfold State.receiveLevel
  refine Steady.foldl _ _ h0 fun t k ht => ?_
  extract_lets r
  split
  · exact Steady.ite.2 ⟨fun _ => State.refreshLevel_steady _ _ (State.withRef_steady _ _ _ ht), fun _ => ht⟩
  · exact ht

theorem execEsmcPduReceive_steady {o0 : State} (l : Fin 64) (ssm : Fin 16) (essm : Option Nat) (s : State) (h0 : Steady o0 s) : OutSteady o0 (execEsmcPduReceive l ssm essm s) := by
  unfold execEsmcPduReceive
  simp +contextual (maxDischargeDepth := 60) only [↓OutSteady.ite, OutSteady.next, ↓State.receiveLevel_steady, h0, implies_true, and_self]

theorem execEsmcTimeout_steady {o0 : State} (r : Fin 20) (s : State) (h0 : Steady o0 s) : OutSteady o0 (execEsmcTimeout r s) := by
  unfold execEsmcTimeout
  simp +contextual (maxDischargeDepth := 60) only [↓OutSteady.ite, OutSteady.next, ↓State.refreshLevel_steady, ↓State.withRef_steady, h0, implies_true, and_self]

theorem execS1Receive_steady {o0 : State} (l : Fin 64) (s1 : Fin 16) (s : State) (h0 : Steady o0 s) : OutSteady o0 (execS1Receive l s1 s) := by
  unfold execS1Receive
  simp +contextual (maxDischargeDepth := 60) only [↓OutSteady.ite, OutSteady.next, ↓State.receiveLevel_steady, h0, implies_true, and_self]

theorem State.sendLevel_steady {o0 : State} (s : State) (f : Nat) (h0 : Steady o0 s) : Steady o0 (State.sendLevel s f) := by
  unfold State.sendLevel
  simp +contextual (maxDischargeDepth := 60) only []
  repeat' split
  all_goals simp +contextual (maxDischargeDepth := 60) only [↓State.withTiming_steady, h0]

theorem State.sendLevels_steady {o0 : State} (s : State) (h0 : Steady o0 s) : Steady o0 (State.sendLevels s) := by
  unfold State.sendLevels
  simp +contextual (maxDischargeDepth := 60) only [↓Steady.foldl, ↓State.sendLevel_steady, h0, implies_true]

theorem execEsmcInfoTx_steady {o0 : State} (l : Fin 64) (s : State) (h0 : Steady o0 s) : OutSteady o0 (execEsmcInfoTx l s) := by
  unfold execEsmcInfoTx
  simp +contextual (maxDischargeDepth := 60) only [OutSteady.next, ↓State.sendLevel_steady, h0]

theorem execPpsEdge_steady {o0 : State} (p : Fin 2) (error : Int) (s : State) (h0 : Steady o0 s) : OutSteady o0 (execPpsEdge p error s) := by
  unfold execPpsEdge
  simp +contextual (maxDischargeDepth := 60) only [OutSteady.next, ↓OutSteady.ite, ↓Steady.ite, ↓State.clearRef_steady, ↓State.failRef_steady, ↓State.ppsAlign_steady, ↓State.withRef_steady, h0, implies_true, and_self]

theorem execTmTodSet_steady {o0 : State} (rq : Rq) (val : Val) (s : State) (h0 : Steady o0 s) : OutSteady o0 (execTmTodSet rq val s) := by
  unfold execTmTodSet
  simp +contextual (maxDischargeDepth := 60) only [OutSteady.next, ↓acceptTiming_steady, ↓serveWrite_steady, h0, implies_true]

theorem State.rollSecond_steady {o0 : State} (s : State) (h0 : Steady o0 s) : Steady o0 (State.rollSecond s) := by
  unfold State.rollSecond
  simp +contextual (maxDischargeDepth := 60) only [↓Steady.fields, ↓State.ppsRollover_steady, ↓State.withTiming_steady, h0]

theorem State.todAlign_steady {o0 : State} (s : State) (h0 : Steady o0 s) : Steady o0 (State.todAlign s) := by
  unfold State.todAlign
  simp +contextual (maxDischargeDepth := 60) only [↓Steady.ite, ↓Steady.fields, h0, implies_true, and_self]

theorem execTodSecondRollover_steady {o0 : State} (s : State) (h0 : Steady o0 s) : OutSteady o0 (execTodSecondRollover s) := by
  unfold execTodSecondRollover
  simp +contextual (maxDischargeDepth := 60) only [↓Steady.ite, OutSteady.next, ↓State.atBoundary_steady, ↓State.rollSecond_steady, ↓State.withTiming_steady, h0, implies_true, and_self]

theorem execTmDpPhaseAdj_steady {o0 : State} (rq : Rq) (d : Fin 4) (val : Val) (s : State) (h0 : Steady o0 s) : OutSteady o0 (execTmDpPhaseAdj rq d val s) := by
  unfold execTmDpPhaseAdj
  simp +contextual (maxDischargeDepth := 60) only [OutSteady.next, ↓acceptTiming_steady, ↓serveWrite_steady, h0, implies_true]

theorem execTmHoParamWrite_steady {o0 : State} (rq : Rq) (param : HoParam) (val : Val) (s : State) (h0 : Steady o0 s) : OutSteady o0 (execTmHoParamWrite rq param val s) := by
  unfold execTmHoParamWrite
  simp +contextual (maxDischargeDepth := 60) only [OutSteady.next, ↓acceptTiming_steady, ↓serveWrite_steady, h0, implies_true]

theorem State.pushStamp_steady {o0 : State} (s : State) (v : Nat) (h0 : Steady o0 s) : Steady o0 (State.pushStamp s v) := by
  unfold State.pushStamp
  simp +contextual (maxDischargeDepth := 60) only [↓Steady.ite, ↓State.bump_steady, ↓State.raise_steady, ↓State.setObj_steady, ↓State.withTiming_steady, h0, implies_true, and_self]

theorem execPtpTimestamp_steady {o0 : State} (l : Fin 64) (p : PtpStamp) (s : State) (h0 : Steady o0 s) : OutSteady o0 (execPtpTimestamp l p s) := by
  unfold execPtpTimestamp
  simp +contextual (maxDischargeDepth := 60) only [↓OutSteady.ite, OutSteady.next, ↓State.pushStamp_steady, ↓State.withTiming_steady, h0, implies_true, and_self]

/-! ## Pm -/

theorem State.withPm_steady {o0 : State} (s : State) (f : Pm → Pm) (h0 : Steady o0 s) : Steady o0 (State.withPm s f) := by
  unfold State.withPm
  simp +contextual (maxDischargeDepth := 60) only [↓Steady.fields, h0]

theorem State.setPmPoint_steady {o0 : State} (s : State) (p : Nat) (x : PmPoint) (h0 : Steady o0 s) : Steady o0 (State.setPmPoint s p x) := by
  unfold State.setPmPoint
  simp +contextual (maxDischargeDepth := 60) only [↓State.withPm_steady, h0]

theorem State.raiseTca_steady {o0 : State} (s : State) (p type : Nat) (b : Bin) (is : List Nat) (h0 : Steady o0 s) : Steady o0 (State.raiseTca s p type b is) := by
  unfold State.raiseTca
  simp +contextual (maxDischargeDepth := 60) only [↓Steady.foldl, ↓State.raise_steady, h0, implies_true]

theorem State.pmClassify_steady {o0 : State} (s : State) (p sec : Nat) (x : PmCount) (h0 : Steady o0 s) : Steady o0 (State.pmClassify s p sec x) := by
  unfold State.pmClassify
  simp +contextual (maxDischargeDepth := 60) only [↓Steady.ite, ↓State.bump_steady, ↓State.raiseTca_steady, ↓State.setPmPoint_steady, h0, implies_true, and_self]

theorem State.stepEvents_steady {o0 : State} (s : State) (h0 : Steady o0 s) : Steady o0 (State.stepEvents s) := by
  unfold State.stepEvents
  simp +contextual (maxDischargeDepth := 60) only [↓Steady.foldl, ↓State.raise_steady, h0, implies_true]

theorem State.pmSecond_steady {o0 : State} (s : State) (counts : List PmCount) (h0 : Steady o0 s) : Steady o0 (State.pmSecond s counts) := by
  unfold State.pmSecond
  simp +contextual (maxDischargeDepth := 60) only [↓Steady.ite, ↓Steady.foldl, ↓State.pmClassify_steady, ↓State.stepEvents_steady, ↓State.withPm_steady, h0, implies_true, and_self]

theorem State.pmClose_steady {o0 : State} (s : State) (day : Bool) (h0 : Steady o0 s) : Steady o0 (State.pmClose s day) := by
  unfold State.pmClose
  simp +contextual (maxDischargeDepth := 60) only []
  repeat' split
  all_goals simp +contextual (maxDischargeDepth := 60) only [↓Steady.foldl, ↓State.raise_steady, ↓State.setPmPoint_steady, h0, implies_true]

theorem State.pmRecover_steady {o0 : State} (s : State) (h0 : Steady o0 s) : Steady o0 (State.pmRecover s) := by
  unfold State.pmRecover
  simp +contextual (maxDischargeDepth := 60) only [↓Steady.foldl, ↓State.bump_steady, ↓State.setPmPoint_steady, h0, implies_true]

theorem State.setSd_steady {o0 : State} (s : State) (p : Nat) (on : Bool) (count code : Nat) (h0 : Steady o0 s) : Steady o0 (State.setSd s p on count code) := by
  unfold State.setSd
  simp +contextual (maxDischargeDepth := 60) only [↓Steady.ite, ↓State.raise_steady, ↓State.setDefect_steady, ↓State.setObj_steady, h0, implies_true, and_self]

theorem State.sdEnd_steady {o0 : State} (s : State) (p : Nat) (x : Option SdWindow) (h0 : Steady o0 s) : Steady o0 (State.sdEnd s p x) := by
  unfold State.sdEnd
  repeat' split
  all_goals simp +contextual (maxDischargeDepth := 60) only [↓Steady.ite, ↓State.setPmPoint_steady, ↓State.setSd_steady, h0, implies_true, and_self]

theorem State.sdRestart_steady {o0 : State} (s : State) (ps : List Nat) (h0 : Steady o0 s) : Steady o0 (State.sdRestart s ps) := by
  unfold State.sdRestart
  simp +contextual (maxDischargeDepth := 60) only [↓Steady.ite, ↓Steady.foldl, ↓State.setPmPoint_steady, ↓State.setSd_steady, h0, implies_true, and_self]

theorem State.markDefects_steady {o0 : State} (s : State) (records : Map Nat) (h0 : Steady o0 s) : Steady o0 (State.markDefects s records) := by
  unfold State.markDefects
  simp +contextual (maxDischargeDepth := 60) only [↓Steady.ite, ↓Steady.foldl, ↓State.setPmPoint_steady, ↓State.withPm_steady, h0, implies_true, and_self]

theorem acceptPoint_steady {o0 : State} (k : Key) (v : Val) {s : State} (h0 : Steady o0 s) : Steady o0 (acceptPoint k v s).2 := by
  unfold acceptPoint
  simp +contextual (maxDischargeDepth := 60) only [↓Steady.snd_ite, ↓acceptStage_steady, h0, implies_true, and_self]

theorem acceptPm_steady {o0 : State} (k : Key) (v : Val) {s : State} (h0 : Steady o0 s) : Steady o0 (acceptPm k v s).2 := by
  unfold acceptPm
  repeat' split
  all_goals simp +contextual (maxDischargeDepth := 60) only [↓acceptPoint_steady, ↓acceptStage_steady, h0]

theorem commitPm_steady {o0 : State} (k : Key) (before s : State) (h0 : Steady o0 s) : Steady o0 (commitPm k before s) := by
  unfold commitPm
  simp +contextual (maxDischargeDepth := 60) only [↓Steady.ite, ↓State.sdRestart_steady, ↓State.setPmPoint_steady, ↓State.withPm_steady, h0, implies_true, and_self]

theorem execPmBinClose_steady {o0 : State} (day : Bool) (s : State) (h0 : Steady o0 s) : OutSteady o0 (execPmBinClose day s) := by
  unfold execPmBinClose
  simp +contextual (maxDischargeDepth := 60) only [↓Steady.ite, OutSteady.next, ↓State.atBoundary_steady, ↓State.pmClose_steady, h0, implies_true, and_self]

theorem execPmPointWrite_steady {o0 : State} (rq : Rq) (p : Nat) (val : Val) (s : State) (h0 : Steady o0 s) : OutSteady o0 (execPmPointWrite rq p val s) := by
  unfold execPmPointWrite
  simp +contextual (maxDischargeDepth := 60) only [OutSteady.next, ↓acceptPm_steady, ↓serveWrite_steady, h0, implies_true]

theorem execHbmFailure_steady {o0 : State} (reads : Option Nat) (s : State) (h0 : Steady o0 s) : OutSteady o0 (execHbmFailure reads s) := by
  unfold execHbmFailure
  simp +contextual (maxDischargeDepth := 60) only [↓Steady.ite, ↓OutSteady.ite, OutSteady.next, ↓State.atBoundary_steady, ↓State.hbmFallback_steady, ↓State.loupeAbort_steady, h0, implies_true, and_self]

theorem execHbmReturn_steady {o0 : State} (s : State) (h0 : Steady o0 s) : OutSteady o0 (execHbmReturn s) := by
  unfold execHbmReturn
  simp +contextual (maxDischargeDepth := 60) only [↓OutSteady.ite, OutSteady.next, ↓State.hbmBack_steady, ↓State.pmRecover_steady, h0, implies_true, and_self]

/-! ## Shadow -/

theorem State.setChange_steady {o0 : State} (s : State) (e x : Nat) (c : LineChange) (h0 : Steady o0 s) : Steady o0 (State.setChange s e x c) := by
  unfold State.setChange
  simp +contextual (maxDischargeDepth := 60) only [↓State.withShadow_steady, h0]

theorem State.freeChange_steady {o0 : State} (s : State) (e x : Nat) (h0 : Steady o0 s) : Steady o0 (State.freeChange s e x) := by
  unfold State.freeChange
  simp +contextual (maxDischargeDepth := 60) only [↓State.withShadow_steady, h0]

theorem State.acceptSwap_steady {o0 : State} (s : State) (at_ : Option Nat) (h0 : Steady o0 s) : Steady o0 (State.acceptSwap s at_) := by
  unfold State.acceptSwap
  simp +contextual (maxDischargeDepth := 60) only [↓State.setObj_steady, ↓State.withShadow_steady, h0]

theorem State.requestSwap_steady {o0 : State} (s : State) (role : Nat) (at_ : Option Nat) (h0 : Steady o0 s) : Steady o0 (State.requestSwap s role at_).2.2 := by
  unfold State.requestSwap
  repeat' split
  all_goals simp +contextual (maxDischargeDepth := 60) only [↓State.acceptSwap_steady, ↓State.setObj_steady, h0]

theorem serveSwap_steady {o0 : State} (op : Nat) (byObject : Bool) (at_ : Option Nat) (rq : Rq) (s : State) (h0 : Steady o0 s) : Steady o0 (serveSwap op byObject at_ rq s) := by
  unfold serveSwap
  simp +contextual (maxDischargeDepth := 60) only [↓State.requestSwap_steady, ↓serve_steady, h0, implies_true]

theorem State.lastEpoch_steady {o0 : State} (s : State) (h0 : Steady o0 s) : Steady o0 (State.lastEpoch s) := by
  unfold State.lastEpoch
  simp +contextual (maxDischargeDepth := 60) only [↓State.setObj_steady, h0]

theorem State.cancelSwap_steady {o0 : State} (s : State) (h0 : Steady o0 s) : Steady o0 (State.cancelSwap s).2 := by
  unfold State.cancelSwap
  simp +contextual (maxDischargeDepth := 60) only []
  repeat' split
  all_goals simp +contextual (maxDischargeDepth := 60) only [↓State.lastEpoch_steady, ↓State.raise_steady, ↓State.setObj_steady, ↓State.withShadow_steady, h0]

theorem State.startSync_steady {o0 : State} (s : State) (h0 : Steady o0 s) : Steady o0 (State.startSync s) := by
  unfold State.startSync
  have hs := State.setObj_steady _ Obj.SHD_EDITS 0 (State.setObj_steady _ Obj.SHD_STATE 4 (State.healShadowCt_steady s h0))
  have ht : Steady o0 { (s.healShadowCt.setObj Obj.SHD_STATE 4).setObj Obj.SHD_EDITS 0 with shd := s.act } :=
    ⟨hs.pending, hs.now, fun c => ⟨(hs.canonical c).1, (hs.canonical c).2.1, (h0.canonical c).2.1, (hs.canonical c).2.2.2⟩⟩
  exact (State.withPrism_steady _ _ (State.setObj_steady _ _ _ ht)).fields


theorem State.revert_steady {o0 : State} (s : State) (h0 : Steady o0 s) : Steady o0 (State.revert s).2 := by
  unfold State.revert
  simp +contextual (maxDischargeDepth := 60) only [↓Steady.snd_ite, ↓State.startSync_steady, h0, implies_true, and_self]

theorem State.syncEnd_steady {o0 : State} (s : State) (h0 : Steady o0 s) : Steady o0 (State.syncEnd s) := by
  unfold State.syncEnd
  simp +contextual (maxDischargeDepth := 60) only []
  repeat' split
  all_goals simp +contextual (maxDischargeDepth := 60) only [↓State.copyEngine_steady, ↓State.raise_steady, ↓State.setObj_steady, ↓State.withShadow_steady, h0]

theorem State.resetGroup_steady {o0 : State} (s : State) (old : Map Nat) (n : Nat) (h0 : Steady o0 s) : Steady o0 (State.resetGroup s old n) := by
  unfold State.resetGroup
  simp +contextual (maxDischargeDepth := 60) only [↓Steady.ite, ↓State.publish_steady, ↓State.setFop_steady, ↓State.setMm_steady, ↓State.setObj_steady, ↓State.withMm_steady, ↓State.withProt_steady, h0, implies_true, and_self]

theorem State.startMerge_steady {o0 : State} (s : State) (old : Map Nat) (n : Nat) (h0 : Steady o0 s) : Steady o0 (State.startMerge s old n) := by
  unfold State.startMerge
  simp +contextual (maxDischargeDepth := 60) only [↓Steady.ite, ↓State.refreshMm_steady, ↓State.setMm_steady, ↓State.withMm_steady, h0, implies_true, and_self]

theorem State.swapGroups_steady {o0 : State} (s : State) (old : Map Nat) (h0 : Steady o0 s) : Steady o0 (State.swapGroups s old) := by
  unfold State.swapGroups
  simp +contextual (maxDischargeDepth := 60) only [↓Steady.foldl, ↓State.resetGroup_steady, ↓State.startMerge_steady, h0, implies_true]

theorem State.startChange_steady {o0 : State} (s : State) (old : Map Nat) (p : Nat × Nat) (h0 : Steady o0 s) : Steady o0 (State.startChange s old p) := by
  unfold State.startChange
  repeat' split
  all_goals simp +contextual (maxDischargeDepth := 60) only [↓State.freeChange_steady, ↓State.setChange_steady, ↓State.withShadow_steady, h0]

theorem State.dropFailed_steady {o0 : State} (s : State) (h0 : Steady o0 s) : Steady o0 (State.dropFailed s) := by
  unfold State.dropFailed
  simp +contextual (maxDischargeDepth := 60) only [↓Steady.ite, ↓Steady.foldl, ↓State.freeChange_steady, h0, implies_true, and_self]

theorem State.promote_steady {o0 : State} (s : State) (old : Map Nat) (h0 : Steady o0 s) : Steady o0 (State.promote s old) := by
  unfold State.promote
  simp +contextual (maxDischargeDepth := 60) only [↓Steady.ite, ↓Steady.foldl, ↓State.withPrism_steady, h0, implies_true, and_self]

/-- The set that a swap installs is in canonical form. -/
theorem State.installed_wf (s : State) (h : Map.wf objDefault s.shd = true) : Map.wf objDefault s.installed = true := by
  unfold State.installed
  have g : ∀ (l m : Map Nat), Map.wf objDefault m = true →
      Map.wf objDefault (l.foldl (fun m e => Map.set (objDefault e.1) m e.1 e.2) m) = true := by
    intro l
    induction l with
    | nil => exact fun m hm => hm
    | cons e l ih => exact fun m hm => ih _ (Map.wf_set _ _ _ _ hm)
  exact g _ _ (Map.wf_filter _ _ _ h)

theorem State.takeSwap_steady {o0 : State} (s : State) (q : SwapReq) (h0 : Steady o0 s) : Steady o0 (State.takeSwap s q) := by
  unfold State.takeSwap
  extract_lets old starts changed gen points profiles remotes gone t u v w w1 w2 x
  have hi : Steady o0 { s with act := s.installed } := ⟨h0.pending, h0.now, fun c =>
    have h := h0.canonical c; ⟨h.1, s.installed_wf h.2.2.1, h.2.2.1, h.2.2.2⟩⟩
  have ht : Steady o0 t := State.promote_steady _ _ (State.withPrism_steady _ _ hi)
  have hu : Steady o0 u := State.withShadow_steady _ _ (State.setObj_steady _ _ _ (State.setObj_steady _ _ _ (State.setObj_steady _ _ _ ht)))
  have hv : Steady o0 v := State.dropFailed_steady _ (Steady.foldl _ _ hu fun _ _ h => State.startChange_steady _ _ _ h)
  have hw : Steady o0 w := State.swapGroups_steady _ _ hv
  have hw1 : Steady o0 w1 := Steady.foldl _ _ hw fun _ _ h => State.clear_steady _ _ _ h
  have hw2 : Steady o0 w2 := State.withProt_steady _ _ hw1
  exact State.raise_steady _ _ _ (State.startSync_steady _ (State.swapCtPages_steady _ (State.sdRestart_steady _ _ (State.swapReceive_steady _ _ hw2))))

theorem State.swapBoundary_steady {o0 : State} (s : State) (h0 : Steady o0 s) : Steady o0 (State.swapBoundary s) := by
  unfold State.swapBoundary
  repeat' split
  all_goals simp +contextual (maxDischargeDepth := 60) only [↓State.bump_steady, ↓State.raise_steady, ↓State.setObj_steady, ↓State.takeSwap_steady, ↓State.withShadow_steady, h0]

theorem State.resumeSwap_steady {o0 : State} (s : State) (h0 : Steady o0 s) : Steady o0 (State.resumeSwap s) := by
  unfold State.resumeSwap
  repeat' split
  all_goals simp +contextual (maxDischargeDepth := 60) only [↓State.setObj_steady, ↓State.withShadow_steady, h0]

theorem State.abandonSwap_steady {o0 : State} (s : State) (h0 : Steady o0 s) : Steady o0 (State.abandonSwap s) := by
  unfold State.abandonSwap
  repeat' split
  all_goals simp +contextual (maxDischargeDepth := 60) only [↓State.lastEpoch_steady, ↓State.raise_steady, ↓State.setObj_steady, ↓State.withShadow_steady, h0]

theorem State.finishChange_steady {o0 : State} (s : State) (e x : Nat) (c : LineChange) (h0 : Steady o0 s) : Steady o0 (State.finishChange s e x c) := by
  unfold State.finishChange
  simp +contextual (maxDischargeDepth := 60) only [↓State.freeChange_steady, ↓State.raise_steady, h0]

theorem State.failChange_steady {o0 : State} (s : State) (e x : Nat) (c : LineChange) (cause : Nat) (h0 : Steady o0 s) : Steady o0 (State.failChange s e x c cause) := by
  unfold State.failChange
  simp +contextual (maxDischargeDepth := 60) only [↓State.raise_steady, ↓State.setChange_steady, h0]

theorem State.answer_steady {o0 : State} (s : State) (e op move target cause : Nat) (h0 : Steady o0 s) : Steady o0 (State.answer s e op move target cause) := by
  unfold State.answer
  simp +contextual (maxDischargeDepth := 60) only [↓State.withShadow_steady, h0]

theorem State.lcrAnswer_steady {o0 : State} (s : State) (e op target cause : Nat) (h0 : Steady o0 s) : Steady o0 (State.lcrAnswer s e op target cause) := by
  unfold State.lcrAnswer
  simp +contextual (maxDischargeDepth := 60) only [↓State.withShadow_steady, h0]

theorem State.receiveSmx_steady {o0 : State} (s : State) (e : Nat) (m : SmxMessage) (h0 : Steady o0 s) : Steady o0 (State.receiveSmx s e m) := by
  unfold State.receiveSmx
  repeat' split
  all_goals simp +contextual (maxDischargeDepth := 60) only [↓State.answer_steady, ↓State.failChange_steady, ↓State.setChange_steady, h0]

theorem State.prepareAps_steady {o0 : State} (s : State) (h0 : Steady o0 s) : Steady o0 (State.prepareAps s) := by
  unfold State.prepareAps
  simp +contextual (maxDischargeDepth := 60) only [↓Steady.foldl, ↓State.withEngine_steady, h0, implies_true]

theorem State.prepareSlotMoves_steady {o0 : State} (s : State) (h0 : Steady o0 s) : Steady o0 (State.prepareSlotMoves s) := by
  unfold State.prepareSlotMoves
  simp +contextual (maxDischargeDepth := 60) only [↓Steady.foldl, ↓State.withEngine_steady, h0, implies_true]

theorem State.answersSent_steady {o0 : State} (s : State) (h0 : Steady o0 s) : Steady o0 (State.answersSent s) := by
  unfold State.answersSent
  simp +contextual (maxDischargeDepth := 60) only [↓Steady.ite, ↓Steady.foldl, ↓State.withShadow_steady, h0, implies_true, and_self]

theorem State.beginMultiframe_steady {o0 : State} (s : State) (e : Nat) (own : Bool) (count : Nat) (h0 : Steady o0 s) : Steady o0 (State.beginMultiframe s e own count) := by
  unfold State.beginMultiframe
  simp +contextual (maxDischargeDepth := 60) only [↓Steady.ite, ↓Steady.foldl, ↓State.finishChange_steady, ↓State.setChange_steady, ↓State.withShadow_steady, h0, implies_true, and_self]

theorem acceptShadowSet_steady {o0 : State} (k : Key) (v : Val) {s : State} (h0 : Steady o0 s) : Steady o0 (acceptShadowSet k v s).2 := by
  unfold acceptShadowSet
  simp +contextual (maxDischargeDepth := 60) only []
  repeat' split
  all_goals simp +contextual (maxDischargeDepth := 60) only [↓State.cancelSwap_steady, ↓State.requestSwap_steady, ↓State.revert_steady, ↓State.setChange_steady, ↓acceptStage_steady, h0]

theorem execSwap_steady {o0 : State} (rq : Rq) (byObject : Bool) (s : State) (h0 : Steady o0 s) : OutSteady o0 (execSwap rq byObject s) := by
  unfold execSwap
  simp +contextual (maxDischargeDepth := 60) only [OutSteady.next, ↓serveSwap_steady, h0]

theorem execSwapAt_steady {o0 : State} (rq : Rq) (byObject : Bool) (epoch : Nat) (s : State) (h0 : Steady o0 s) : OutSteady o0 (execSwapAt rq byObject epoch s) := by
  unfold execSwapAt
  simp +contextual (maxDischargeDepth := 60) only [OutSteady.next, ↓serveSwap_steady, h0]

theorem execPrismSwapCancel_steady {o0 : State} (rq : Rq) (s : State) (h0 : Steady o0 s) : OutSteady o0 (execPrismSwapCancel rq s) := by
  unfold execPrismSwapCancel
  simp +contextual (maxDischargeDepth := 60) only [OutSteady.next, ↓acceptShadowSet_steady, ↓serveWrite_steady, h0, implies_true]

theorem execShdRevert_steady {o0 : State} (rq : Rq) (s : State) (h0 : Steady o0 s) : OutSteady o0 (execShdRevert rq s) := by
  unfold execShdRevert
  simp +contextual (maxDischargeDepth := 60) only [OutSteady.next, ↓acceptShadowSet_steady, ↓serveWrite_steady, h0, implies_true]

theorem execSwapAbandon_steady {o0 : State} (s : State) (h0 : Steady o0 s) : OutSteady o0 (execSwapAbandon s) := by
  unfold execSwapAbandon
  simp +contextual (maxDischargeDepth := 60) only [OutSteady.next, ↓State.abandonSwap_steady, ↓State.atBoundary_steady, h0, implies_true]

theorem execSyncDone_steady {o0 : State} (s : State) (h0 : Steady o0 s) : OutSteady o0 (execSyncDone s) := by
  unfold execSyncDone
  simp +contextual (maxDischargeDepth := 60) only [OutSteady.next, ↓State.atBoundary_steady, ↓State.syncEnd_steady, h0, implies_true]

theorem execBlockRegenerate_steady {o0 : State} (page : Fin 32) (block : Fin 245) (ticks : Nat) (s : State) (h0 : Steady o0 s) : OutSteady o0 (execBlockRegenerate page block ticks s) := by
  unfold execBlockRegenerate
  repeat' split
  all_goals simp +contextual (maxDischargeDepth := 60) only [↓OutSteady.ite, OutSteady.next, ↓State.withShadow_steady, h0, implies_true, and_self]

theorem execSmxMessageReceive_steady {o0 : State} (e : Fin 4) (m : SmxMessage) (s : State) (h0 : Steady o0 s) : OutSteady o0 (execSmxMessageReceive e m s) := by
  unfold execSmxMessageReceive
  simp +contextual (maxDischargeDepth := 60) only [↓OutSteady.ite, OutSteady.next, ↓State.receiveSmx_steady, h0, implies_true, and_self]

theorem execSmxTargetMultiframe_steady {o0 : State} (e : Fin 4) (own : Bool) (count : Nat) (s : State) (h0 : Steady o0 s) : OutSteady o0 (execSmxTargetMultiframe e own count s) := by
  unfold execSmxTargetMultiframe
  simp +contextual (maxDischargeDepth := 60) only [OutSteady.next, ↓State.beginMultiframe_steady, h0]

theorem execLcrMessageReceive_steady {o0 : State} (e : Fin 4) (m : LcrMessage) (s : State) (h0 : Steady o0 s) : OutSteady o0 (execLcrMessageReceive e m s) := by
  unfold execLcrMessageReceive
  simp +contextual (maxDischargeDepth := 60) only [↓OutSteady.ite]
  repeat' split
  all_goals simp +contextual (maxDischargeDepth := 60) only [OutSteady.next, ↓State.lcrAnswer_steady, ↓State.failChange_steady, ↓State.setChange_steady, h0, implies_true, and_self]

theorem execLcrResizeMultiframe_steady {o0 : State} (e : Fin 4) (index : Fin 16) (count : Nat) (s : State) (h0 : Steady o0 s) : OutSteady o0 (execLcrResizeMultiframe e index count s) := by
  unfold execLcrResizeMultiframe
  simp +contextual (maxDischargeDepth := 60) only []
  repeat' split
  all_goals simp +contextual (maxDischargeDepth := 60) only [OutSteady.next, ↓State.finishChange_steady, h0]

theorem execLineChgTimeout_steady {o0 : State} (e : Fin 4) (index : Fin 16) (multiframes : Nat) (s : State) (h0 : Steady o0 s) : OutSteady o0 (execLineChgTimeout e index multiframes s) := by
  unfold execLineChgTimeout
  simp +contextual (maxDischargeDepth := 60) only []
  repeat' split
  all_goals simp +contextual (maxDischargeDepth := 60) only [OutSteady.next, ↓State.failChange_steady, h0]

theorem execLineChgRetry_steady {o0 : State} (rq : Rq) (e : Fin 4) (val : Val) (s : State) (h0 : Steady o0 s) : OutSteady o0 (execLineChgRetry rq e val s) := by
  unfold execLineChgRetry
  simp +contextual (maxDischargeDepth := 60) only [OutSteady.next, ↓acceptShadowSet_steady, ↓serveWrite_steady, h0, implies_true]

/-! ## TimeBase -/

theorem acceptTimeBase_steady {o0 : State} (k : Key) (v : Val) {s : State} (h0 : Steady o0 s) : Steady o0 (acceptTimeBase k v s).2 := by
  unfold acceptTimeBase
  simp +contextual (maxDischargeDepth := 60) only [↓Steady.snd_ite, ↓Steady.fields, ↓acceptStage_steady, h0, implies_true, and_self]

theorem State.loadCounter_steady {o0 : State} (s : State) (v : Nat) (h0 : Steady o0 s) : Steady o0 (State.loadCounter s v) := by
  unfold State.loadCounter
  simp +contextual (maxDischargeDepth := 60) only [↓Steady.fields, ↓State.raise_steady, h0]

theorem State.applyLoad_steady {o0 : State} (s : State) (h0 : Steady o0 s) : Steady o0 (State.applyLoad s) := by
  unfold State.applyLoad
  simp +contextual (maxDischargeDepth := 60) only []
  repeat' split
  all_goals simp +contextual (maxDischargeDepth := 60) only [↓Steady.fields, ↓State.loadCounter_steady, h0]

theorem State.applyBond_steady {o0 : State} (s : State) (v : Nat) (h0 : Steady o0 s) : Steady o0 (State.applyBond s v) := by
  unfold State.applyBond
  simp +contextual (maxDischargeDepth := 60) only [↓Steady.ite, ↓Steady.foldl, ↓State.clear_steady, ↓State.freshSignal_steady, ↓State.setObj_steady, ↓State.unbond_steady, h0, implies_true, and_self]

theorem execTbTickLoad_steady {o0 : State} (rq : Rq) (val : Val) (s : State) (h0 : Steady o0 s) : OutSteady o0 (execTbTickLoad rq val s) := by
  unfold execTbTickLoad
  simp +contextual (maxDischargeDepth := 60) only [OutSteady.next, ↓acceptTimeBase_steady, ↓serveWrite_steady, h0, implies_true]

theorem execTbBondCfgWrite_steady {o0 : State} (rq : Rq) (val : Val) (s : State) (h0 : Steady o0 s) : OutSteady o0 (execTbBondCfgWrite rq val s) := by
  unfold execTbBondCfgWrite
  simp +contextual (maxDischargeDepth := 60) only [OutSteady.next, ↓acceptTimeBase_steady, ↓serveWrite_steady, h0, implies_true]

theorem runBond_steady {o0 : State} (q : Due) {s : State} (h0 : Steady o0 s) : Steady o0 (runBond q s) := by
  unfold runBond
  repeat' split
  all_goals simp +contextual (maxDischargeDepth := 60) only [↓State.applyBond_steady, h0]

theorem execDtickovrClear_steady {o0 : State} (s : State) (h0 : Steady o0 s) : OutSteady o0 (execDtickovrClear s) := by
  unfold execDtickovrClear
  repeat' split
  all_goals simp +contextual (maxDischargeDepth := 60) only [OutSteady.next, ↓Steady.fields, ↓State.clear_steady, h0]

/-! ## Stores -/

theorem State.commitStrength_steady {o0 : State} (s : State) (g : Nat) (h0 : Steady o0 s) : Steady o0 (State.commitStrength s g) := by
  unfold State.commitStrength
  simp +contextual (maxDischargeDepth := 60) only [↓State.withStores_steady, h0]

theorem State.fillBucket_steady {o0 : State} (s : State) (g : Nat) (h0 : Steady o0 s) : Steady o0 (State.fillBucket s g) := by
  unfold State.fillBucket
  simp +contextual (maxDischargeDepth := 60) only [↓Steady.ite, ↓State.bump_steady, ↓State.raise_steady, ↓State.setObj_steady, ↓State.withStores_steady, h0, implies_true, and_self]

theorem State.leak_steady {o0 : State} (s : State) (g : Nat) (h0 : Steady o0 s) : Steady o0 (State.leak s g) := by
  unfold State.leak
  simp +contextual (maxDischargeDepth := 60) only [↓Steady.ite, ↓State.setObj_steady, ↓State.withStores_steady, h0, implies_true, and_self]

theorem State.takeSpare_steady {o0 : State} (s : State) (g : Nat) (h0 : Steady o0 s) : Steady o0 (State.takeSpare s g).2 := by
  unfold State.takeSpare
  repeat' split
  all_goals simp +contextual (maxDischargeDepth := 60) only [↓Steady.ite, ↓State.raise_steady, ↓State.withStores_steady, h0, implies_true, and_self]

theorem State.weaken_steady {o0 : State} (s : State) (g page : Nat) (h0 : Steady o0 s) : Steady o0 (State.weaken s g page) := by
  unfold State.weaken
  simp +contextual (maxDischargeDepth := 60) only [↓State.setPage_steady, ↓State.takeSpare_steady, h0]

theorem State.correct_steady {o0 : State} (s : State) (g page : Nat) (bits : List Nat) (h0 : Steady o0 s) : Steady o0 (State.correct s g page bits) := by
  unfold State.correct
  simp +contextual (maxDischargeDepth := 60) only [↓Steady.ite, ↓Steady.foldl, ↓State.fillBucket_steady, ↓State.setPage_steady, ↓State.weaken_steady, h0, implies_true, and_self]

theorem State.writeBack_steady {o0 : State} (s : State) (g page : Nat) (h0 : Steady o0 s) : Steady o0 (State.writeBack s g page) := by
  unfold State.writeBack
  simp +contextual (maxDischargeDepth := 60) only [↓State.setPage_steady, h0]

theorem State.moveToSpare_steady {o0 : State} (s : State) (g page spare : Nat) (uncorrectable : Bool) (h0 : Steady o0 s) : Steady o0 (State.moveToSpare s g page spare uncorrectable) := by
  unfold State.moveToSpare
  simp +contextual (maxDischargeDepth := 60) only [↓State.bump_steady, ↓State.raise_steady, ↓State.setObj_steady, ↓State.setPage_steady, h0]

theorem State.loseKeys_steady {o0 : State} (s : State) (k : LostKeys) (h0 : Steady o0 s) : Steady o0 (State.loseKeys s k) := by
  unfold State.loseKeys
  simp +contextual (maxDischargeDepth := 60) only [↓Steady.ite, ↓Steady.foldl, ↓State.closeSession_steady, ↓State.setObj_steady, ↓State.startKa_steady, ↓State.trigger_steady, ↓State.withChan_steady, ↓State.withLink_steady, h0, implies_true, and_self]

theorem State.loseDspPage_steady {o0 : State} (s : State) (e page : Nat) (h0 : Steady o0 s) : Steady o0 (State.loseDspPage s e page) := by
  unfold State.loseDspPage
  simp +contextual (maxDischargeDepth := 60) only [↓Steady.ite, ↓State.declare_steady, ↓State.lolStore_steady, ↓State.plan_steady, ↓State.raise_steady, ↓State.refreshRx_steady, ↓State.refreshTx_steady, ↓State.refreshTxStatus_steady, ↓State.setObj_steady, h0, implies_true, and_self]

theorem State.uncorrectable_steady {o0 : State} (s : State) (v : PageRead) (h0 : Steady o0 s) : Steady o0 (State.uncorrectable s v) := by
  unfold State.uncorrectable
  simp +contextual (maxDischargeDepth := 60) only [↓Steady.ite, ↓State.logUncorr_steady, ↓State.loseDspPage_steady, ↓State.loseKeys_steady, ↓State.markBad_steady, ↓State.raise_steady, ↓State.setPage_steady, ↓State.withMc_steady, h0, implies_true, and_self]

theorem State.readPage_steady {o0 : State} (s : State) (v : PageRead) (h0 : Steady o0 s) : Steady o0 (State.readPage s v) := by
  unfold State.readPage
  simp +contextual (maxDischargeDepth := 60) only [↓Steady.ite, ↓State.correct_steady, ↓State.uncorrectable_steady, h0, implies_true, and_self]

theorem State.passEnd_steady {o0 : State} (s : State) (g : Nat) (h0 : Steady o0 s) : Steady o0 (State.passEnd s g) := by
  unfold State.passEnd
  simp +contextual (maxDischargeDepth := 60) only [↓Steady.ite, ↓State.bump_steady, ↓State.withStores_steady, h0, implies_true, and_self]

theorem State.healCt_steady {o0 : State} (s : State) (page first count : Nat) (h0 : Steady o0 s) : Steady o0 (State.healCt s page first count) := by
  unfold State.healCt
  simp +contextual (maxDischargeDepth := 60) only [↓Steady.ite, ↓State.setPage_steady, h0, implies_true, and_self]

theorem State.replayFails_steady {o0 : State} (s : State) (link direction group words : Nat) (conns : List Nat) (h0 : Steady o0 s) : Steady o0 (State.replayFails s link direction group words conns) := by
  unfold State.replayFails
  simp +contextual (maxDischargeDepth := 60) only [↓Steady.ite, ↓State.bump_steady, ↓State.raise_steady, ↓State.withPrism_steady, ↓State.withStores_steady, h0, implies_true, and_self]

theorem State.spareLane_steady {o0 : State} (s : State) (link direction group lane : Nat) (h0 : Steady o0 s) : Steady o0 (State.spareLane s link direction group lane) := by
  unfold State.spareLane
  simp +contextual (maxDischargeDepth := 60) only [↓Steady.ite, ↓State.raise_steady, ↓State.setObj_steady, ↓State.withStores_steady, h0, implies_true, and_self]

theorem acceptStores_steady {o0 : State} (k : Key) (v : Val) {s : State} (h0 : Steady o0 s) : Steady o0 (acceptStores k v s).2 := by
  unfold acceptStores
  simp +contextual (maxDischargeDepth := 60) only [↓acceptStage_steady, h0]

theorem execDemandScrub_steady {o0 : State} (region : Fin 8) (page : Nat) (s : State) (h0 : Steady o0 s) : OutSteady o0 (execDemandScrub region page s) := by
  unfold execDemandScrub
  simp +contextual (maxDischargeDepth := 60) only [↓Steady.ite, OutSteady.next, ↓State.writeBack_steady, h0, implies_true, and_self]

theorem execScrubVisit_steady {o0 : State} (visit : PageRead) (passEnd : Bool) (s : State) (h0 : Steady o0 s) : OutSteady o0 (execScrubVisit visit passEnd s) := by
  unfold execScrubVisit
  simp +contextual (maxDischargeDepth := 60) only [↓Steady.ite, ↓OutSteady.ite, OutSteady.next, ↓State.passEnd_steady, ↓State.readPage_steady, ↓State.setPage_steady, ↓State.writeBack_steady, h0, implies_true, and_self]

theorem execBucketLeak_steady {o0 : State} (region : Fin 8) (s : State) (h0 : Steady o0 s) : OutSteady o0 (execBucketLeak region s) := by
  unfold execBucketLeak
  simp +contextual (maxDischargeDepth := 60) only [OutSteady.next, ↓State.atBoundary_steady, ↓State.leak_steady, h0, implies_true]

theorem execPageRepairSwitch_steady {o0 : State} (region : Fin 8) (page : Nat) (s : State) (h0 : Steady o0 s) : OutSteady o0 (execPageRepairSwitch region page s) := by
  unfold execPageRepairSwitch
  simp +contextual (maxDischargeDepth := 60) only []
  repeat' split
  all_goals simp +contextual (maxDischargeDepth := 60) only [OutSteady.next, ↓State.atBoundary_steady, ↓State.moveToSpare_steady, h0, implies_true]

theorem State.repairCm_steady {o0 : State} (s : State) (page ticks : Nat) (h0 : Steady o0 s) : Steady o0 (State.repairCm s page ticks) := by
  unfold State.repairCm
  simp +contextual (maxDischargeDepth := 60) only []
  repeat' split
  all_goals simp +contextual (maxDischargeDepth := 60) only [↓State.bump_steady, ↓State.moveToSpare_steady, ↓State.setPage_steady, ↓State.takeSpare_steady, ↓State.withPrism_steady, h0]

theorem execUncorrectablePageRepair_steady {o0 : State} (page ticks : Nat) (s : State) (h0 : Steady o0 s) : OutSteady o0 (execUncorrectablePageRepair page ticks s) := by
  unfold execUncorrectablePageRepair
  simp +contextual (maxDischargeDepth := 60) only [OutSteady.next, ↓State.repairCm_steady, h0]

theorem State.pageDeadline_steady {o0 : State} (s : State) (g page : Nat) (h0 : Steady o0 s) : Steady o0 (State.pageDeadline s g page) := by
  unfold State.pageDeadline
  simp +contextual (maxDischargeDepth := 60) only []
  repeat' split
  all_goals simp +contextual (maxDischargeDepth := 60) only [↓State.moveToSpare_steady, ↓State.repairCm_steady, ↓State.writeBack_steady, h0]

theorem State.pageDeadlines_steady {o0 : State} (s : State) (h0 : Steady o0 s) : Steady o0 (State.pageDeadlines s) := by
  unfold State.pageDeadlines
  simp +contextual (maxDischargeDepth := 60) only [↓Steady.foldl, ↓State.pageDeadline_steady, h0, implies_true]

theorem execSioTWrite_steady {o0 : State} (rq : Rq) (region : Fin 8) (val : Val) (s : State) (h0 : Steady o0 s) : OutSteady o0 (execSioTWrite rq region val s) := by
  unfold execSioTWrite
  simp +contextual (maxDischargeDepth := 60) only [OutSteady.next, ↓acceptStores_steady, ↓serveWrite_steady, h0, implies_true]

theorem execD2dReplay_steady {o0 : State} (r : Replay) (s : State) (h0 : Steady o0 s) : OutSteady o0 (execD2dReplay r s) := by
  unfold execD2dReplay
  simp +contextual (maxDischargeDepth := 60) only [↓Steady.ite, ↓OutSteady.ite, OutSteady.next, ↓State.bump_steady, ↓State.replayFails_steady, ↓State.withPrism_steady, ↓State.withStores_steady, h0, implies_true, and_self]

theorem execD2dLaneSpare_steady {o0 : State} (link : Fin 6) (direction : Fin 2) (group lane errors : Nat) (s : State) (h0 : Steady o0 s) : OutSteady o0 (execD2dLaneSpare link direction group lane errors s) := by
  unfold execD2dLaneSpare
  simp +contextual (maxDischargeDepth := 60) only [↓OutSteady.ite, OutSteady.next, ↓State.plan_steady, h0, implies_true, and_self]

end Sys2Proof.Machine
end

