-- ==== Sys2Proof/Laws/SteadyPlant.lean ====
section
/-! SUPPORT. What work within one tick keeps, one lemma per operation and command: the boot, the line DSP, the optics and the power plant. -/

namespace Sys2Proof.Machine

/-! ## Boot -/

theorem State.measure_steady {o0 : State} (s : State) (type digest : Nat) (h0 : Steady o0 s) : Steady o0 (State.measure s type digest) := by
  unfold State.measure
  simp +contextual (maxDischargeDepth := 60) only [↓Steady.ite, ↓State.setObj_steady, h0, implies_true, and_self]

theorem State.measureImage_steady {o0 : State} (s : State) (x : FwImage) (h0 : Steady o0 s) : Steady o0 (State.measureImage s x) := by
  unfold State.measureImage
  simp +contextual (maxDischargeDepth := 60) only [↓Steady.ite, ↓State.measure_steady, h0, implies_true, and_self]

theorem State.runImage_steady {o0 : State} (s : State) (x : FwImage) (h0 : Steady o0 s) : Steady o0 (State.runImage s x) := by
  unfold State.runImage
  simp +contextual (maxDischargeDepth := 60) only [↓State.setObj_steady, ↓State.withMc_steady, h0]

theorem State.loadSource_steady {o0 : State} (s : State) (h0 : Steady o0 s) : Steady o0 (State.loadSource s) := by
  unfold State.loadSource
  simp +contextual (maxDischargeDepth := 60) only [↓Steady.ite, ↓State.setBoot_steady, ↓State.withMc_steady, h0, implies_true, and_self, true_and, and_true]
  repeat' split
  all_goals simp +contextual (maxDischargeDepth := 60) only [↓State.measureImage_steady, ↓State.runImage_steady, ↓State.setBoot_steady, h0, implies_true, and_self]

theorem State.bootRom_steady {o0 : State} (s : State) (h0 : Steady o0 s) : Steady o0 (State.bootRom s) := by
  unfold State.bootRom
  simp +contextual (maxDischargeDepth := 60) only [↓State.loadSource_steady, ↓State.measure_steady, ↓State.setObj_steady, h0]

theorem State.eraseStage_steady {o0 : State} (s : State) (h0 : Steady o0 s) : Steady o0 (State.eraseStage s) := by
  unfold State.eraseStage
  simp +contextual (maxDischargeDepth := 60) only [↓Steady.regFilter, ↓State.setObj_steady, h0]

theorem State.railsUp_steady {o0 : State} (s : State) (h0 : Steady o0 s) : Steady o0 (State.railsUp s) := by
  unfold State.railsUp
  simp +contextual (maxDischargeDepth := 60) only [↓Steady.foldl, ↓State.setObj_steady, h0, implies_true]

theorem State.deliverLatch_steady {o0 : State} (s : State) (h0 : Steady o0 s) : Steady o0 (State.deliverLatch s) := by
  unfold State.deliverLatch
  simp +contextual (maxDischargeDepth := 60) only [↓Steady.ite, ↓Steady.fields, ↓State.raiseAt_steady, h0, implies_true, and_self]

theorem State.bootDone_steady {o0 : State} (s : State) (hbm : Bool) (h0 : Steady o0 s) : Steady o0 (State.bootDone s hbm) := by
  unfold State.bootDone
  simp +contextual (maxDischargeDepth := 60) only [↓Steady.ite, ↓State.deliverLatch_steady, ↓State.eraseStage_steady, ↓State.raise_steady, ↓State.refreshPrism_steady, ↓State.setBoot_steady, ↓State.withMc_steady, ↓State.withProt_steady, h0, implies_true, and_self]

theorem serveLoad_steady {o0 : State} (op : Nat) (rq : Rq) (body : State → Status × State) (s : State) (h0 : Steady o0 s)
    (hb : ∀ t, Steady o0 t → Steady o0 (body t).2) : Steady o0 (serveLoad op rq body s) := by
  unfold serveLoad
  have h1 := hb s h0
  simp +contextual (maxDischargeDepth := 60) only [↓Steady.ite, ↓State.deliver_steady, ↓State.withBar_steady, h0, h1, implies_true, and_self]


theorem State.stageBytes_steady {o0 : State} (s : State) (off n data : Nat) (h0 : Steady o0 s) : Steady o0 (State.stageBytes s off n data) := by
  unfold State.stageBytes
  simp +contextual (maxDischargeDepth := 60) only [↓Steady.foldl, ↓State.setObj_steady, h0, implies_true]

theorem execPorstNRelease_steady {o0 : State} (board : Board) (s : State) (h0 : Steady o0 s) : OutSteady o0 (execPorstNRelease board s) := by
  unfold execPorstNRelease
  simp +contextual (maxDischargeDepth := 60) only [↓OutSteady.ite, OutSteady.next, ↓State.bootRom_steady, ↓State.withMc_steady, h0, implies_true, and_self]

theorem execFwChunk_steady {o0 : State} (rq : Rq) (offset bytes data : Nat) (s : State) (h0 : Steady o0 s) : OutSteady o0 (execFwChunk rq offset bytes data s) := by
  unfold execFwChunk
  simp +contextual (maxDischargeDepth := 60) only [↓Steady.ite, ↓Steady.snd_ite, OutSteady.next, ↓serveLoad_steady, ↓State.setBoot_steady, ↓State.stageBytes_steady, ↓State.withMc_steady, h0, implies_true, and_self]

theorem execFwEnd_steady {o0 : State} (rq : Rq) (length : Nat) (s : State) (h0 : Steady o0 s) : OutSteady o0 (execFwEnd rq length s) := by
  unfold execFwEnd
  simp +contextual (maxDischargeDepth := 60) only [↓Steady.ite, ↓Steady.snd_ite, OutSteady.next, ↓State.measureImage_steady, ↓State.runImage_steady, ↓serveLoad_steady, ↓State.setBoot_steady, h0, implies_true, and_self]

theorem execPcieLinkLoss_steady {o0 : State} (bursts : List Burst) (s : State) (h0 : Steady o0 s) : OutSteady o0 (execPcieLinkLoss bursts s) := by
  unfold execPcieLinkLoss
  simp +contextual (maxDischargeDepth := 60) only [OutSteady.next, ↓Steady.fields, ↓Steady.foldl, ↓State.bump_steady, ↓State.raise_steady, ↓State.withBar_steady, ↓State.withMc_steady, ↓State.withPower_steady, h0, implies_true]

theorem execPcieLinkUp_steady {o0 : State} (s : State) (h0 : Steady o0 s) : OutSteady o0 (execPcieLinkUp s) := by
  unfold execPcieLinkUp
  simp +contextual (maxDischargeDepth := 60) only [↓Steady.ite, OutSteady.next, ↓State.withMc_steady, h0, implies_true, and_self]

/-! ## Optics -/

theorem State.calEnd_steady {o0 : State} (s : State) (e code : Nat) (h0 : Steady o0 s) : Steady o0 (State.calEnd s e code) := by
  unfold State.calEnd
  repeat' split
  all_goals simp +contextual (maxDischargeDepth := 60) only [↓State.raise_steady, ↓State.setObj_steady, ↓State.withEngine_steady, h0]

theorem State.calBegin_steady {o0 : State} (s : State) (e : Nat) (h0 : Steady o0 s) : Steady o0 (State.calBegin s e) := by
  unfold State.calBegin
  repeat' split
  all_goals simp +contextual (maxDischargeDepth := 60) only [↓State.declare_steady, ↓State.setObj_steady, ↓State.toDark_steady, ↓State.withEngine_steady, h0]

theorem State.applyImage_steady {o0 : State} (s : State) (e : Nat) (cs : List Coefficient) (h0 : Steady o0 s) : Steady o0 (State.applyImage s e cs) := by
  unfold State.applyImage
  simp +contextual (maxDischargeDepth := 60) only [↓State.refreshTxStatus_steady, ↓State.setObj_steady, h0]

theorem State.bgCommit_steady {o0 : State} (s : State) (e : Nat) (cs : List Coefficient) (h0 : Steady o0 s) : Steady o0 (State.bgCommit s e cs) := by
  unfold State.bgCommit
  simp +contextual (maxDischargeDepth := 60) only [↓Steady.ite, ↓State.applyImage_steady, ↓State.withEngine_steady, h0, implies_true, and_self]

theorem State.calCommit_steady {o0 : State} (s : State) (e : Nat) (h0 : Steady o0 s) : Steady o0 (State.calCommit s e) := by
  unfold State.calCommit
  repeat' split
  all_goals simp +contextual (maxDischargeDepth := 60) only [↓State.applyImage_steady, ↓State.raise_steady, ↓State.setObj_steady, ↓State.withEngine_steady, h0]

theorem acceptCalStart_steady {o0 : State} (k : Key) (v : Val) {s : State} (h0 : Steady o0 s) : Steady o0 (acceptCalStart k v s).2 := by
  unfold acceptCalStart
  simp +contextual (maxDischargeDepth := 60) only [↓Steady.ite, ↓Steady.snd_ite, ↓State.calEnd_steady, ↓State.plan_steady, ↓State.withEngine_steady, h0, implies_true, and_self]

theorem acceptImage_steady {o0 : State} (k : Key) (v : Val) {s : State} (h0 : Steady o0 s) : Steady o0 (acceptImage k v s).2 := by
  unfold acceptImage
  simp +contextual (maxDischargeDepth := 60) only [↓Steady.snd_ite, ↓State.stage_steady, h0, implies_true, and_self]

theorem acceptLspi_steady {o0 : State} (k : Key) (v : Val) {s : State} (h0 : Steady o0 s) : Steady o0 (acceptLspi k v s).2 := by
  unfold acceptLspi
  simp +contextual (maxDischargeDepth := 60) only [↓Steady.snd_ite, ↓State.setObj_steady, ↓State.withEngine_steady, h0, implies_true, and_self]

theorem acceptOptics_steady {o0 : State} (k : Key) (v : Val) {s : State} (h0 : Steady o0 s) : Steady o0 (acceptOptics k v s).2 := by
  unfold acceptOptics
  simp +contextual (maxDischargeDepth := 60) only [↓Steady.snd_ite, ↓acceptCalStart_steady, ↓acceptImage_steady, ↓acceptLspi_steady, ↓acceptStage_steady, h0, implies_true, and_self]

theorem commitOptics_steady {o0 : State} (k : Key) (old : State) (s : State) (h0 : Steady o0 s) : Steady o0 (commitOptics k old s) := by
  unfold commitOptics
  simp +contextual (maxDischargeDepth := 60) only [↓Steady.ite, ↓State.freshSignal_steady, ↓State.refreshTx_steady, ↓State.refreshTxStatus_steady, ↓State.retargetTx_steady, ↓State.withEngine_steady, h0, implies_true, and_self]

theorem State.loseBias_steady {o0 : State} (s : State) (e loops : Nat) (h0 : Steady o0 s) : Steady o0 (State.loseBias s e loops) := by
  unfold State.loseBias
  simp +contextual (maxDischargeDepth := 60) only [↓Steady.ite, ↓State.raise_steady, ↓State.refreshTx_steady, ↓State.setObj_steady, ↓State.withEngine_steady, h0, implies_true, and_self]

theorem State.laserTxReads_steady {o0 : State} (s : State) (e : Nat) (power : Int) (h0 : Steady o0 s) : Steady o0 (State.laserTxReads s e power) := by
  unfold State.laserTxReads
  simp +contextual (maxDischargeDepth := 60) only [↓Steady.ite, ↓State.loseBias_steady, ↓State.setInt_steady, h0, implies_true, and_self]

theorem execLaserRangeChange_steady {o0 : State} (e : Fin 4) (input : Fin 2) (power : Int) (ticks : Nat) (s : State) (h0 : Steady o0 s) : OutSteady o0 (execLaserRangeChange e input power ticks s) := by
  unfold execLaserRangeChange
  simp +contextual (maxDischargeDepth := 60) only [OutSteady.next, ↓OutSteady.ite, ↓Steady.ite, ↓State.laserTxReads_steady, ↓State.raise_steady, ↓State.setInt_steady, ↓State.withEngine_steady, h0, implies_true, and_self]

theorem execLspiXfer_steady {o0 : State} (rq : Rq) (e : Fin 4) (val : Val) (s : State) (h0 : Steady o0 s) : OutSteady o0 (execLspiXfer rq e val s) := by
  unfold execLspiXfer
  simp +contextual (maxDischargeDepth := 60) only [OutSteady.next, ↓acceptOptics_steady, ↓serveWrite_steady, h0, implies_true]

theorem execLspiDone_steady {o0 : State} (e : Fin 4) (received : Nat) (s : State) (h0 : Steady o0 s) : OutSteady o0 (execLspiDone e received s) := by
  unfold execLspiDone
  simp +contextual (maxDischargeDepth := 60) only [↓OutSteady.ite, OutSteady.next, ↓State.setObj_steady, ↓State.withEngine_steady, h0, implies_true, and_self]

theorem execBiasUnlock_steady {o0 : State} (e : Fin 4) (loops : Nat) (s : State) (h0 : Steady o0 s) : OutSteady o0 (execBiasUnlock e loops s) := by
  unfold execBiasUnlock
  simp +contextual (maxDischargeDepth := 60) only [OutSteady.next, ↓State.loseBias_steady, h0]

theorem execBiasLoopLock_steady {o0 : State} (e : Fin 4) (loops : Nat) (power : Int) (s : State) (h0 : Steady o0 s) : OutSteady o0 (execBiasLoopLock e loops power s) := by
  unfold execBiasLoopLock
  simp +contextual (maxDischargeDepth := 60) only [OutSteady.next, ↓OutSteady.ite, ↓State.laserTxReads_steady, ↓State.refreshTx_steady, ↓State.setObj_steady, h0, implies_true, and_self]

theorem execBiasRelockRestore_steady {o0 : State} (e : Fin 4) (ticks : Nat) (s : State) (h0 : Steady o0 s) : OutSteady o0 (execBiasRelockRestore e ticks s) := by
  unfold execBiasRelockRestore
  simp +contextual (maxDischargeDepth := 60) only [↓OutSteady.ite, OutSteady.next, ↓State.refreshTx_steady, ↓State.withEngine_steady, h0, implies_true, and_self]

theorem execTxPowerShort_steady {o0 : State} (e : Fin 4) (achieved : Int) (ticks : Nat) (s : State) (h0 : Steady o0 s) : OutSteady o0 (execTxPowerShort e achieved ticks s) := by
  unfold execTxPowerShort
  simp +contextual (maxDischargeDepth := 60) only [↓OutSteady.ite, OutSteady.next, ↓State.raise_steady, ↓State.setInt_steady, h0, implies_true, and_self]

theorem execRxOverload_steady {o0 : State} (e : Fin 4) (average : Int) (quietTicks : Nat) (s : State) (h0 : Steady o0 s) : OutSteady o0 (execRxOverload e average quietTicks s) := by
  unfold execRxOverload
  simp +contextual (maxDischargeDepth := 60) only [OutSteady.next, ↓OutSteady.ite, ↓State.calAbortCheck_steady, ↓State.raise_steady, ↓State.setInt_steady, ↓State.withEngine_steady, h0, implies_true, and_self]

theorem execLineLosDeclare_steady {o0 : State} (e : Fin 4) (power : Int) (ns : Nat) (s : State) (h0 : Steady o0 s) : OutSteady o0 (execLineLosDeclare e power ns s) := by
  unfold execLineLosDeclare
  simp +contextual (maxDischargeDepth := 60) only [↓OutSteady.ite, OutSteady.next, ↓State.declare_steady, ↓State.toDark_steady, h0, implies_true, and_self]

theorem execLineLosClear_steady {o0 : State} (e : Fin 4) (power : Int) (ticks : Nat) (s : State) (h0 : Steady o0 s) : OutSteady o0 (execLineLosClear e power ticks s) := by
  unfold execLineLosClear
  simp +contextual (maxDischargeDepth := 60) only [↓OutSteady.ite, OutSteady.next, ↓State.clear_steady, ↓State.leaveDark_steady, h0, implies_true, and_self]

theorem execRefRangeChange_steady {o0 : State} (microvolts : Nat) (calclkPpb : Option Int) (s : State) (h0 : Steady o0 s) : OutSteady o0 (execRefRangeChange microvolts calclkPpb s) := by
  unfold execRefRangeChange
  simp +contextual (maxDischargeDepth := 60) only [OutSteady.next, ↓State.referenceReads_steady, h0]

theorem execBgCalUpdate_steady {o0 : State} (e : Fin 4) (coefficients : List Coefficient) (s : State) (h0 : Steady o0 s) : OutSteady o0 (execBgCalUpdate e coefficients s) := by
  unfold execBgCalUpdate
  simp +contextual (maxDischargeDepth := 60) only [↓OutSteady.ite, OutSteady.next, ↓State.plan_steady, h0, implies_true, and_self]

theorem execCalDarkOffset_steady {o0 : State} (rq : Rq) (e : Fin 4) (s : State) (h0 : Steady o0 s) : OutSteady o0 (execCalDarkOffset rq e s) := by
  unfold execCalDarkOffset
  simp +contextual (maxDischargeDepth := 60) only [OutSteady.next, ↓acceptOptics_steady, ↓serveWrite_steady, h0, implies_true]

theorem execCalLoopback_steady {o0 : State} (rq : Rq) (e : Fin 4) (s : State) (h0 : Steady o0 s) : OutSteady o0 (execCalLoopback rq e s) := by
  unfold execCalLoopback
  simp +contextual (maxDischargeDepth := 60) only [OutSteady.next, ↓acceptOptics_steady, ↓serveWrite_steady, h0, implies_true]

theorem execCalReference_steady {o0 : State} (rq : Rq) (e : Fin 4) (s : State) (h0 : Steady o0 s) : OutSteady o0 (execCalReference rq e s) := by
  unfold execCalReference
  simp +contextual (maxDischargeDepth := 60) only [OutSteady.next, ↓acceptOptics_steady, ↓serveWrite_steady, h0, implies_true]

theorem execCalAbort_steady {o0 : State} (rq : Rq) (e : Fin 4) (s : State) (h0 : Steady o0 s) : OutSteady o0 (execCalAbort rq e s) := by
  unfold execCalAbort
  simp +contextual (maxDischargeDepth := 60) only [OutSteady.next, ↓acceptOptics_steady, ↓serveWrite_steady, h0, implies_true]

theorem execCalRunStart_steady {o0 : State} (e : Fin 4) (power : Int) (s : State) (h0 : Steady o0 s) : OutSteady o0 (execCalRunStart e power s) := by
  unfold execCalRunStart
  simp +contextual (maxDischargeDepth := 60) only [OutSteady.next, ↓State.atBoundary_steady, ↓State.calAbortCheck_steady, ↓State.calBegin_steady, ↓State.runDue_steady, h0, implies_true]

theorem execCalComplete_steady {o0 : State} (e : Fin 4) (power : Int) (result : List Coefficient) (s : State) (h0 : Steady o0 s) : OutSteady o0 (execCalComplete e power result s) := by
  unfold execCalComplete
  repeat' split
  all_goals simp +contextual (maxDischargeDepth := 60) only [OutSteady.next, ↓State.calAbortCheck_steady, ↓State.plan_steady, ↓State.setObj_steady, ↓State.withEngine_steady, h0]

theorem execCalDeferredCommit_steady {o0 : State} (s : State) (h0 : Steady o0 s) : OutSteady o0 (execCalDeferredCommit s) := by
  unfold execCalDeferredCommit
  try simp +contextual (maxDischargeDepth := 60) only [OutSteady.next]
  all_goals (repeat' first | assumption | refine OutSteady.next.mpr ?_ | refine State.atBoundary_steady _ _ ?_ (fun _ _ _ => ?_) | refine Steady.foldl _ _ ?_ (fun _ _ _ => ?_) | refine serve_steady _ _ _ _ _ ?_ (fun _ _ _ => ?_) | split | intro _ | simp +contextual (maxDischargeDepth := 60) only [↓State.calCommit_steady, *])

theorem execCalDeferTimeout_steady {o0 : State} (e : Fin 4) (s : State) (h0 : Steady o0 s) : OutSteady o0 (execCalDeferTimeout e s) := by
  unfold execCalDeferTimeout
  repeat' split
  all_goals simp +contextual (maxDischargeDepth := 60) only [OutSteady.next, ↓State.calEnd_steady, h0]

theorem execCnvCalImageWrite_steady {o0 : State} (rq : Rq) (e : Fin 4) (val : Val) (s : State) (h0 : Steady o0 s) : OutSteady o0 (execCnvCalImageWrite rq e val s) := by
  unfold execCnvCalImageWrite
  simp +contextual (maxDischargeDepth := 60) only [OutSteady.next, ↓acceptOptics_steady, ↓serveWrite_steady, h0, implies_true]

theorem execCnvConverged_steady {o0 : State} (e : Fin 4) (s : State) (h0 : Steady o0 s) : OutSteady o0 (execCnvConverged e s) := by
  unfold execCnvConverged
  simp +contextual (maxDischargeDepth := 60) only [↓OutSteady.ite, OutSteady.next, ↓State.refreshRx_steady, ↓State.refreshTx_steady, ↓State.setObj_steady, ↓State.withEngine_steady, h0, implies_true, and_self]

/-! ## Power -/

theorem State.withDom_steady {o0 : State} (s : State) (d : Nat) (f : DomRun → DomRun) (h0 : Steady o0 s) : Steady o0 (State.withDom s d f) := by
  unfold State.withDom
  simp +contextual (maxDischargeDepth := 60) only [↓State.withPower_steady, h0]

theorem State.domEvent_steady {o0 : State} (s : State) (d old new outcome : Nat) (h0 : Steady o0 s) : Steady o0 (State.domEvent s d old new outcome) := by
  unfold State.domEvent
  simp +contextual (maxDischargeDepth := 60) only [↓State.raise_steady, h0]

theorem State.setDomStatus_steady {o0 : State} (s : State) (d outcome passed block : Nat) (h0 : Steady o0 s) : Steady o0 (State.setDomStatus s d outcome passed block) := by
  unfold State.setDomStatus
  simp +contextual (maxDischargeDepth := 60) only [↓State.setObj_steady, h0]

theorem State.resetRo_steady {o0 : State} (s : State) (p : Key → Bool) (h0 : Steady o0 s) : Steady o0 (State.resetRo s p) := by
  unfold State.resetRo
  simp +contextual (maxDischargeDepth := 60) only [↓Steady.regFilter, h0]

theorem State.leaveOn_steady {o0 : State} (s : State) (d : Nat) (h0 : Steady o0 s) : Steady o0 (State.leaveOn s d) := by
  unfold State.leaveOn
  simp +contextual (maxDischargeDepth := 60) only [↓Steady.ite, ↓Steady.fields, ↓Steady.foldl, ↓State.calEnd_steady, ↓State.refreshTx_steady, ↓State.setLane_steady, ↓State.setObj_steady, ↓State.toOff_steady, ↓State.withDom_steady, ↓State.withEngine_steady, h0, implies_true, and_self]

theorem State.gateClocks_steady {o0 : State} (s : State) (d : Nat) (h0 : Steady o0 s) : Steady o0 (State.gateClocks s d) := by
  unfold State.gateClocks
  simp +contextual (maxDischargeDepth := 60) only [↓Steady.ite, ↓Steady.foldl, ↓State.clear_steady, h0, implies_true, and_self]

theorem State.holdPads_steady {o0 : State} (s : State) (d : Nat) (h0 : Steady o0 s) : Steady o0 (State.holdPads s d) := by
  unfold State.holdPads
  simp +contextual (maxDischargeDepth := 60) only [↓Steady.ite, ↓State.setObj_steady, h0, implies_true, and_self]

theorem State.losePower_steady {o0 : State} (s : State) (d : Nat) (h0 : Steady o0 s) : Steady o0 (State.losePower s d) := by
  unfold State.losePower
  simp +contextual (maxDischargeDepth := 60) only [↓Steady.ite, ↓State.resetRo_steady, ↓State.setEngine_steady, ↓State.setObj_steady, ↓State.withPrism_steady, ↓State.withProt_steady, ↓State.withStores_steady, h0, implies_true, and_self]

theorem State.returnOn_steady {o0 : State} (s : State) (d : Nat) (from_ : Option Nat) (h0 : Steady o0 s) : Steady o0 (State.returnOn s d from_) := by
  unfold State.returnOn
  simp +contextual (maxDischargeDepth := 60) only [↓Steady.ite, ↓Steady.foldl, ↓State.commitRate_steady, ↓State.declare_steady, ↓State.hbmBack_steady, ↓State.pmRecover_steady, ↓State.refreshPrism_steady, ↓State.refreshRx_steady, ↓State.refreshTx_steady, ↓State.refreshTxStatus_steady, ↓State.setObj_steady, ↓State.withEngine_steady, h0, implies_true, and_self]

theorem State.setRequest_steady {o0 : State} (s : State) (r : Nat) (x : Option RailRequest) (h0 : Steady o0 s) : Steady o0 (State.setRequest s r x) := by
  unfold State.setRequest
  simp +contextual (maxDischargeDepth := 60) only [↓State.withPower_steady, h0]

theorem State.setFailed_steady {o0 : State} (s : State) (r : Nat) (x : Option RailRequest) (h0 : Steady o0 s) : Steady o0 (State.setFailed s r x) := by
  unfold State.setFailed
  simp +contextual (maxDischargeDepth := 60) only [↓State.withPower_steady, h0]

theorem State.sendRaise_steady {o0 : State} (s : State) (h0 : Steady o0 s) : Steady o0 (State.sendRaise s) := by
  unfold State.sendRaise
  simp +contextual (maxDischargeDepth := 60) only [↓Steady.ite, ↓State.setRequest_steady, ↓State.withPower_steady, h0, implies_true, and_self]

theorem State.failWake_steady {o0 : State} (s : State) (d from_ : Nat) (h0 : Steady o0 s) : Steady o0 (State.failWake s d from_) := by
  unfold State.failWake
  simp +contextual (maxDischargeDepth := 60) only [↓State.domEvent_steady, ↓State.setDomStatus_steady, ↓State.setObj_steady, ↓State.withDom_steady, h0]

theorem State.beginWake_steady {o0 : State} (s : State) (d : Nat) (h0 : Steady o0 s) : Steady o0 (State.beginWake s d) := by
  unfold State.beginWake
  simp +contextual (maxDischargeDepth := 60) only [↓Steady.ite, ↓State.failWake_steady, ↓State.sendRaise_steady, ↓State.setObj_steady, ↓State.withDom_steady, h0, implies_true, and_self]

theorem State.nextRamp_steady {o0 : State} (s : State) (h0 : Steady o0 s) : Steady o0 (State.nextRamp s) := by
  unfold State.nextRamp
  split
  · exact h0
  · exact State.withPower_steady _ _ h0

theorem State.beginEntry_steady {o0 : State} (s : State) (d target : Nat) (delaying : Option Nat) (h0 : Steady o0 s) : Steady o0 (State.beginEntry s d target delaying) := by
  unfold State.beginEntry
  simp +contextual (maxDischargeDepth := 60) only [↓Steady.ite, ↓Steady.foldl, ↓State.clear_steady, ↓State.leaveOn_steady, ↓State.setObj_steady, ↓State.withDom_steady, h0, implies_true, and_self]

theorem State.answerSleep_steady {o0 : State} (s : State) (d : Nat) (st : Status) (h0 : Steady o0 s) : Steady o0 (State.answerSleep s d st) := by
  unfold State.answerSleep
  repeat' split
  all_goals simp +contextual (maxDischargeDepth := 60) only [↓State.deliver_steady, ↓State.withDom_steady, h0]

theorem State.handshake_steady {o0 : State} (s : State) (d target : Nat) (woken : Bool) (delays : List (Nat × Nat)) (h0 : Steady o0 s) : Steady o0 (State.handshake s d target woken delays) := by
  unfold State.handshake
  repeat' split
  all_goals simp +contextual (maxDischargeDepth := 60) only [↓State.answerSleep_steady, ↓State.beginEntry_steady, ↓State.raise_steady, ↓State.setDomStatus_steady, h0]

theorem State.reachTarget_steady {o0 : State} (s : State) (d : Nat) (h0 : Steady o0 s) : Steady o0 (State.reachTarget s d) := by
  unfold State.reachTarget
  simp +contextual (maxDischargeDepth := 60) only [↓Steady.ite, ↓State.domEvent_steady, ↓State.losePower_steady, ↓State.setDomStatus_steady, ↓State.setObj_steady, ↓State.withDom_steady, h0, implies_true, and_self]

theorem State.startStep_steady {o0 : State} (s : State) (d step : Nat) (h0 : Steady o0 s) : Steady o0 (State.startStep s d step) := by
  unfold State.startStep
  simp +contextual (maxDischargeDepth := 60) only [↓Steady.ite, ↓State.gateClocks_steady, ↓State.holdPads_steady, ↓State.withDom_steady, h0, implies_true, and_self]

theorem State.abandonEntry_steady {o0 : State} (s : State) (d : Nat) (h0 : Steady o0 s) : Steady o0 (State.abandonEntry s d) := by
  unfold State.abandonEntry
  simp +contextual (maxDischargeDepth := 60) only [↓State.raise_steady, ↓State.setDomStatus_steady, ↓State.withDom_steady, h0]

theorem State.refuseEntry_steady {o0 : State} (s : State) (d block : Nat) (h0 : Steady o0 s) : Steady o0 (State.refuseEntry s d block) := by
  unfold State.refuseEntry
  simp +contextual (maxDischargeDepth := 60) only [↓Steady.ite, ↓State.raise_steady, ↓State.returnOn_steady, ↓State.setDomStatus_steady, ↓State.setObj_steady, ↓State.withDom_steady, h0, implies_true, and_self]

theorem State.wakeDomain_steady {o0 : State} (s : State) (d : Nat) (h0 : Steady o0 s) : Steady o0 (State.wakeDomain s d) := by
  unfold State.wakeDomain
  simp +contextual (maxDischargeDepth := 60) only [↓Steady.ite, ↓State.abandonEntry_steady, ↓State.beginWake_steady, ↓State.withDom_steady, h0, implies_true, and_self]

theorem State.enterOn_steady {o0 : State} (s : State) (d : Nat) (h0 : Steady o0 s) : Steady o0 (State.enterOn s d) := by
  unfold State.enterOn
  simp +contextual (maxDischargeDepth := 60) only []
  repeat' split
  all_goals simp +contextual (maxDischargeDepth := 60) only [↓State.beginWake_steady, ↓State.domEvent_steady, ↓State.returnOn_steady, ↓State.setDomStatus_steady, ↓State.setObj_steady, ↓State.withDom_steady, h0]

theorem State.domBoundary_steady {o0 : State} (s : State) (d : Nat) (woken : Bool) (delays : List (Nat × Nat)) (h0 : Steady o0 s) : Steady o0 (State.domBoundary s d woken delays) := by
  unfold State.domBoundary
  simp +contextual (maxDischargeDepth := 60) only [↓Steady.ite, ↓State.enterOn_steady, ↓State.hbmFallback_steady, ↓State.loupeAbort_steady, ↓State.reachTarget_steady, ↓State.startStep_steady, ↓State.wakeDomain_steady, ↓State.withDom_steady, h0, implies_true, and_self, true_and, and_true]
  repeat' split
  all_goals simp +contextual (maxDischargeDepth := 60) only [↓State.hbmFallback_steady, ↓State.loupeAbort_steady, ↓State.refuseEntry_steady, ↓State.wakeDomain_steady, ↓State.withDom_steady, h0, implies_true, and_self]

theorem State.domainTurn_steady {o0 : State} (s : State) (d : Nat) (delays : List (Nat × Nat)) (h0 : Steady o0 s) : Steady o0 (State.domainTurn s d delays) := by
  unfold State.domainTurn
  simp +contextual (maxDischargeDepth := 60) only []
  repeat' split
  all_goals simp +contextual (maxDischargeDepth := 60) only [↓Steady.fields, ↓State.domBoundary_steady, ↓State.handshake_steady, h0]

theorem State.powerBoundary_steady {o0 : State} (s : State) (delays : List (Nat × Nat)) (h0 : Steady o0 s) : Steady o0 (State.powerBoundary s delays) := by
  unfold State.powerBoundary
  simp +contextual (maxDischargeDepth := 60) only [↓Steady.foldl, ↓State.nextRamp_steady, ↓State.domainTurn_steady, h0, implies_true]

theorem State.replaceSleep_steady {o0 : State} (s : State) (d : Nat) (h0 : Steady o0 s) : Steady o0 (State.replaceSleep s d) := by
  unfold State.replaceSleep
  simp +contextual (maxDischargeDepth := 60) only [↓Steady.fields, ↓State.answerSleep_steady, h0]

theorem serveDomReq_steady {o0 : State} (rq : Rq) (d : Nat) (val : Val) (s : State) (h0 : Steady o0 s) : Steady o0 (serveDomReq rq d val s) := by
  unfold serveDomReq
  try simp +contextual (maxDischargeDepth := 60) only []
  all_goals (repeat' first | assumption | refine OutSteady.next.mpr ?_ | refine State.atBoundary_steady _ _ ?_ (fun _ _ _ => ?_) | refine Steady.foldl _ _ ?_ (fun _ _ _ => ?_) | refine serve_steady _ _ _ _ _ ?_ (fun _ _ _ => ?_) | split | intro _ | simp +contextual (maxDischargeDepth := 60) only [↓State.plan_steady, ↓State.replaceSleep_steady, ↓State.setObj_steady, ↓State.withDom_steady, *])

theorem State.openDip_steady {o0 : State} (s : State) (r voltage : Nat) (h0 : Steady o0 s) : Steady o0 (State.openDip s r voltage) := by
  unfold State.openDip
  simp +contextual (maxDischargeDepth := 60) only [↓Steady.foldl, ↓State.setObj_steady, h0, implies_true]

theorem State.closeDip_steady {o0 : State} (s : State) (r minimum : Nat) (h0 : Steady o0 s) : Steady o0 (State.closeDip s r minimum).1 := by
  unfold State.closeDip
  repeat' split
  all_goals simp +contextual (maxDischargeDepth := 60) only [↓State.setObj_steady, h0]

theorem State.beginQuiescent_steady {o0 : State} (s : State) (rq : Rq) (h0 : Steady o0 s) : Steady o0 (State.beginQuiescent s rq) := by
  unfold State.beginQuiescent
  simp +contextual (maxDischargeDepth := 60) only [↓Steady.foldl, ↓State.closeSession_steady, ↓State.deliver_steady, ↓State.setRequest_steady, ↓State.withMc_steady, ↓State.withPower_steady, h0, implies_true]

theorem State.quiescentBoundary_steady {o0 : State} (s : State) (h0 : Steady o0 s) : Steady o0 (State.quiescentBoundary s) := by
  unfold State.quiescentBoundary
  repeat' split
  all_goals simp +contextual (maxDischargeDepth := 60) only [↓State.beginQuiescent_steady, h0]

theorem State.abandonQuiescent_steady {o0 : State} (s : State) (h0 : Steady o0 s) : Steady o0 (State.abandonQuiescent s) := by
  unfold State.abandonQuiescent
  simp +contextual (maxDischargeDepth := 60) only [↓Steady.ite, ↓Steady.foldl, ↓State.setRequest_steady, ↓State.withPower_steady, h0, implies_true, and_self]

theorem acceptPower_steady {o0 : State} (k : Key) (v : Val) {s : State} (h0 : Steady o0 s) : Steady o0 (acceptPower k v s).2 := by
  unfold acceptPower
  simp +contextual (maxDischargeDepth := 60) only [↓Steady.ite, ↓Steady.snd_ite, ↓Steady.foldl, ↓acceptStage_steady, ↓State.commitRate_steady, ↓State.setObj_steady, ↓State.stage_steady, h0, implies_true, and_self, and_true]
  repeat' split
  all_goals simp +contextual (maxDischargeDepth := 60) only [↓State.setRequest_steady, h0, implies_true]

theorem serveQuiescent_steady {o0 : State} (rq : Rq) (val : Val) (wakeN : Bool) (s : State) (h0 : Steady o0 s) : Steady o0 (serveQuiescent rq val wakeN s) := by
  unfold serveQuiescent
  try simp +contextual (maxDischargeDepth := 60) only [↓Steady.ite, ↓Steady.snd_ite, ↓Steady.fst_ite, ↓OutSteady.ite, OutSteady.next, ↓Steady.fields, ↓Steady.actSet, ↓Steady.regFilter, ↓Steady.foldl, ↓serve_steady, ↓State.withPower_steady, h0, implies_true, and_self, true_and, and_true, forall_const]
  all_goals (repeat' first | assumption | refine OutSteady.next.mpr ?_ | refine State.atBoundary_steady _ _ ?_ (fun _ _ _ => ?_) | refine Steady.foldl _ _ ?_ (fun _ _ _ => ?_) | refine serve_steady _ _ _ _ _ ?_ (fun _ _ _ => ?_) | split | intro _ | simp +contextual (maxDischargeDepth := 60) only [↓State.withPower_steady, *])

theorem execPwrDomSleep_steady {o0 : State} (rq : Rq) (d : Fin 20) (s : State) (h0 : Steady o0 s) : OutSteady o0 (execPwrDomSleep rq d s) := by
  unfold execPwrDomSleep
  simp +contextual (maxDischargeDepth := 60) only [OutSteady.next, ↓serveDomReq_steady, h0]

theorem execPwrDomWake_steady {o0 : State} (rq : Rq) (d : Fin 20) (s : State) (h0 : Steady o0 s) : OutSteady o0 (execPwrDomWake rq d s) := by
  unfold execPwrDomWake
  simp +contextual (maxDischargeDepth := 60) only [OutSteady.next, ↓serveDomReq_steady, h0]

theorem execDomainEntryHandshake_steady {o0 : State} (d : Fin 20) (delaying : Option Nat) (s : State) (h0 : Steady o0 s) : OutSteady o0 (execDomainEntryHandshake d delaying s) := by
  unfold execDomainEntryHandshake
  simp +contextual (maxDischargeDepth := 60) only [↓Steady.ite, OutSteady.next, ↓State.atBoundary_steady, ↓State.domainTurn_steady, h0, implies_true, and_self]

theorem execEntryDelayTimeout_steady {o0 : State} (d : Fin 20) (s : State) (h0 : Steady o0 s) : OutSteady o0 (execEntryDelayTimeout d s) := by
  unfold execEntryDelayTimeout
  try simp +contextual (maxDischargeDepth := 60) only [OutSteady.next]
  all_goals (repeat' first | assumption | refine OutSteady.next.mpr ?_ | refine State.atBoundary_steady _ _ ?_ (fun _ _ _ => ?_) | refine Steady.foldl _ _ ?_ (fun _ _ _ => ?_) | refine serve_steady _ _ _ _ _ ?_ (fun _ _ _ => ?_) | split | intro _ | simp +contextual (maxDischargeDepth := 60) only [↓State.refuseEntry_steady, *])

theorem execDomainEntryStepEnd_steady {o0 : State} (d : Fin 20) (s : State) (h0 : Steady o0 s) : OutSteady o0 (execDomainEntryStepEnd d s) := by
  unfold execDomainEntryStepEnd
  simp +contextual (maxDischargeDepth := 60) only [↓Steady.ite, OutSteady.next, ↓State.atBoundary_steady, ↓State.domainTurn_steady, h0, implies_true, and_self]

theorem execWakeNAssert_steady {o0 : State} (s : State) (h0 : Steady o0 s) : OutSteady o0 (execWakeNAssert s) := by
  unfold execWakeNAssert
  simp +contextual (maxDischargeDepth := 60) only [↓OutSteady.ite, OutSteady.next, h0, implies_true, true_and]
  repeat' split
  all_goals simp +contextual (maxDischargeDepth := 60) only [↓Steady.ite, OutSteady.next, ↓Steady.foldl, ↓State.deliver_steady, ↓State.plan_steady, ↓State.withPower_steady, h0, implies_true, and_self]

theorem execDomainRampDone_steady {o0 : State} (d : Fin 20) (failed : List (Fin 3)) (s : State) (h0 : Steady o0 s) :
    OutSteady o0 (execDomainRampDone d failed s) := by
  unfold execDomainRampDone
  extract_lets banks t
  split
  · exact OutSteady.next.mpr h0
  · refine OutSteady.next.mpr (State.nextRamp_steady _ (State.withDom_steady _ _ _ ?_))
    refine Steady.foldl _ _ h0 fun x b hx => ?_
    extract_lets u
    have hu : Steady o0 u := State.setObj_steady _ _ _ (State.declare_steady _ _ _ hx)
    split
    · split
      · exact State.dropStored_steady _ _ hu
      · exact State.setObj_steady _ _ _ hu
      · exact State.withEngine_steady _ _ _ hu
    · exact hu


theorem State.switchClock_steady {o0 : State} (s : State) (d : Nat) (h0 : Steady o0 s) : Steady o0 (State.switchClock s d) := by
  unfold State.switchClock
  simp +contextual (maxDischargeDepth := 60) only [↓Steady.ite, ↓State.setObj_steady, ↓State.withDom_steady, h0, implies_true, and_self]

theorem execDomainClockSwitch_steady {o0 : State} (d : Fin 20) (s : State) (h0 : Steady o0 s) : OutSteady o0 (execDomainClockSwitch d s) := by
  unfold execDomainClockSwitch
  simp +contextual (maxDischargeDepth := 60) only [↓Steady.ite, OutSteady.next, ↓State.switchClock_steady, h0, implies_true, and_self]

theorem execPwrPadRelease_steady {o0 : State} (rq : Rq) (d : Fin 20) (val : Val) (s : State) (h0 : Steady o0 s) : OutSteady o0 (execPwrPadRelease rq d val s) := by
  unfold execPwrPadRelease
  simp +contextual (maxDischargeDepth := 60) only [OutSteady.next, ↓acceptPower_steady, ↓serveWrite_steady, h0, implies_true]

theorem execRegulatorTimeout_steady {o0 : State} (rail : Fin 12) (ticks : Nat) (s : State) (h0 : Steady o0 s) : OutSteady o0 (execRegulatorTimeout rail ticks s) := by
  unfold execRegulatorTimeout
  repeat' split
  all_goals simp +contextual (maxDischargeDepth := 60) only [↓Steady.ite, OutSteady.next, ↓Steady.foldl, ↓State.abandonQuiescent_steady, ↓State.failWake_steady, ↓State.raise_steady, ↓State.setFailed_steady, ↓State.setObj_steady, ↓State.setRequest_steady, h0, implies_true, and_self]

theorem execPmbAlert_steady {o0 : State} (faults : List (Fin 12)) (s : State) (h0 : Steady o0 s) : OutSteady o0 (execPmbAlert faults s) := by
  unfold execPmbAlert
  simp +contextual (maxDischargeDepth := 60) only [OutSteady.next, ↓Steady.foldl, ↓State.raise_steady, h0, implies_true]

theorem execPwrRailRetry_steady {o0 : State} (rq : Rq) (rail : Fin 12) (val : Val) (s : State) (h0 : Steady o0 s) : OutSteady o0 (execPwrRailRetry rq rail val s) := by
  unfold execPwrRailRetry
  simp +contextual (maxDischargeDepth := 60) only [OutSteady.next, ↓acceptPower_steady, ↓serveWrite_steady, h0, implies_true]

theorem execAvsStep_steady {o0 : State} (up : Bool) (s : State) (h0 : Steady o0 s) : OutSteady o0 (execAvsStep up s) := by
  unfold execAvsStep
  simp +contextual (maxDischargeDepth := 60) only [↓OutSteady.ite, OutSteady.next, ↓State.setRequest_steady, ↓State.withPower_steady, h0, implies_true, and_self]

theorem execSupplyWarning_steady {o0 : State} (rail : Fin 12) (voltage samples : Nat) (s : State) (h0 : Steady o0 s) : OutSteady o0 (execSupplyWarning rail voltage samples s) := by
  unfold execSupplyWarning
  simp +contextual (maxDischargeDepth := 60) only [↓Steady.ite, ↓OutSteady.ite, OutSteady.next, ↓State.openDip_steady, ↓State.raise_steady, ↓State.setObj_steady, ↓State.withSec_steady, h0, implies_true, and_self]

theorem execSupplyRecover_steady {o0 : State} (rail : Fin 12) (voltage minimum ticks : Nat) (s : State) (h0 : Steady o0 s) :
    OutSteady o0 (execSupplyRecover rail voltage minimum ticks s) := by
  unfold execSupplyRecover
  extract_lets active
  have ht := State.closeDip_steady s rail minimum h0
  split
  · generalize s.closeDip rail minimum = p at ht ⊢
    obtain ⟨t, length⟩ := p
    dsimp -zeta only at ht ⊢
    extract_lets u v w x
    have hu : Steady o0 u := State.bump_steady _ _ _ (State.setObj_steady _ _ _ ht)
    have hv : Steady o0 v := Steady.ite.2 ⟨fun _ => State.setObj_steady _ _ _ hu, fun _ => hu⟩
    have hw : Steady o0 w := State.raise_steady _ _ _ hv
    have hx : Steady o0 x := Steady.foldl _ _ hw fun y e hy => by
      split
      · exact State.plan_steady _ _ _ hy
      · exact hy
    exact OutSteady.ite.2 ⟨fun _ => OutSteady.next.2 hw, fun _ => OutSteady.next.2 (State.resumeSwap_steady _ hx)⟩
  · exact OutSteady.next.2 h0


theorem execSupplyResetRelease_steady {o0 : State} (samples : Nat) (s : State) (h0 : Steady o0 s) : OutSteady o0 (execSupplyResetRelease samples s) := by
  unfold execSupplyResetRelease
  simp +contextual (maxDischargeDepth := 60) only [↓OutSteady.ite, OutSteady.next, ↓State.bootRom_steady, ↓State.withMc_steady, h0, implies_true, and_self]

theorem execPwrQuiescent_steady {o0 : State} (rq : Rq) (val : Val) (wakeN : Bool) (s : State) (h0 : Steady o0 s) : OutSteady o0 (execPwrQuiescent rq val wakeN s) := by
  unfold execPwrQuiescent
  simp +contextual (maxDischargeDepth := 60) only [OutSteady.next, ↓serveQuiescent_steady, h0]

theorem execQuiescentExit_steady {o0 : State} (byRing : Bool) (copy : RingCopy) (s : State) (h0 : Steady o0 s) : OutSteady o0 (execQuiescentExit byRing copy s) := by
  unfold execQuiescentExit
  simp +contextual (maxDischargeDepth := 60) only [↓OutSteady.ite, OutSteady.next, ↓Steady.foldl, ↓State.setRequest_steady, ↓State.withPower_steady, h0, implies_true, and_self]

theorem execQuiescentRailRetry_steady {o0 : State} (rail : Fin 12) (ticks : Nat) (s : State) (h0 : Steady o0 s) : OutSteady o0 (execQuiescentRailRetry rail ticks s) := by
  unfold execQuiescentRailRetry
  repeat' split
  all_goals simp +contextual (maxDischargeDepth := 60) only [OutSteady.next, ↓State.setRequest_steady, h0]

end Sys2Proof.Machine
end

