-- ==== Sys2Proof/Laws/SteadyControl.lean ====
section
/-! SUPPORT. What work within one tick keeps, one lemma per operation and command: the management complex, the ring, overruns and fault injection. -/

namespace Sys2Proof.Machine

/-! ## Mc -/

theorem State.otpDone_steady {o0 : State} (s : State) (h0 : Steady o0 s) : Steady o0 (State.otpDone s) := by
  unfold State.otpDone
  simp +contextual (maxDischargeDepth := 60) only [↓State.measure_steady, ↓State.raise_steady, h0]

theorem acceptSvCommit_steady {o0 : State} (burned : Nat) (k : Key) (v : Val) {s : State} (h0 : Steady o0 s) : Steady o0 (acceptSvCommit burned k v s).2 := by
  unfold acceptSvCommit
  simp +contextual (maxDischargeDepth := 60) only [↓Steady.ite, ↓Steady.snd_ite, ↓State.otpDone_steady, ↓State.setObj_steady, h0, implies_true, and_self]

theorem acceptOwnerFuse_steady {o0 : State} (k : Key) (v : Val) {s : State} (h0 : Steady o0 s) : Steady o0 (acceptOwnerFuse k v s).2 := by
  unfold acceptOwnerFuse
  simp +contextual (maxDischargeDepth := 60) only [↓Steady.snd_ite, ↓State.otpDone_steady, ↓State.setObj_steady, h0, implies_true, and_self]

theorem State.setStageState_steady {o0 : State} (s : State) (state code : Nat) (h0 : Steady o0 s) : Steady o0 (State.setStageState s state code) := by
  unfold State.setStageState
  simp +contextual (maxDischargeDepth := 60) only [↓State.setObj_steady, h0]

theorem State.setSlot_steady {o0 : State} (s : State) (slot : Nat) (x : Option FwImage) (h0 : Steady o0 s) : Steady o0 (State.setSlot s slot x) := by
  unfold State.setSlot
  simp +contextual (maxDischargeDepth := 60) only [↓State.withMc_steady, h0]

theorem State.program_steady {o0 : State} (s : State) (slot : Nat) (h0 : Steady o0 s) : Steady o0 (State.program s slot).2 := by
  unfold State.program
  simp +contextual (maxDischargeDepth := 60) only [↓Steady.snd_ite, ↓State.setObj_steady, ↓State.setSlot_steady, ↓State.withMc_steady, h0, implies_true, and_self]

theorem State.askRestart_steady {o0 : State} (s : State) (cause : Nat) (h0 : Steady o0 s) : Steady o0 (State.askRestart s cause) := by
  unfold State.askRestart
  simp +contextual (maxDischargeDepth := 60) only [↓State.withMc_steady, h0]

theorem acceptSecurity_steady {o0 : State} (burned : Nat) (k : Key) (v : Val) {s : State} (h0 : Steady o0 s) : Steady o0 (acceptSecurity burned k v s).2 := by
  unfold acceptSecurity
  repeat' split
  all_goals simp +contextual (maxDischargeDepth := 60) only [↓acceptOwnerFuse_steady, ↓acceptStage_steady, ↓acceptSvCommit_steady, ↓State.askRestart_steady, ↓State.program_steady, ↓State.setObj_steady, ↓State.setStageState_steady, ↓State.withMc_steady, h0]

theorem State.perfWrapped_steady {o0 : State} (s : State) (c : Nat) (h0 : Steady o0 s) : Steady o0 (State.perfWrapped s c) := by
  unfold State.perfWrapped
  simp +contextual (maxDischargeDepth := 60) only [↓Steady.ite, ↓State.raise_steady, ↓State.setObj_steady, ↓State.withMc_steady, h0, implies_true, and_self]

theorem State.perfAdd_steady {o0 : State} (s : State) (c n : Nat) (h0 : Steady o0 s) : Steady o0 (State.perfAdd s c n).1 := by
  unfold State.perfAdd
  simp +contextual (maxDischargeDepth := 60) only [↓Steady.ite, ↓State.perfWrapped_steady, ↓State.setObj_steady, h0, implies_true, and_self]

theorem State.perfCount_steady {o0 : State} (s : State) (c n : Nat) (h0 : Steady o0 s) : Steady o0 (State.perfCount s c n) := by
  unfold State.perfCount
  simp +contextual (maxDischargeDepth := 60) only [↓Steady.ite, ↓State.perfAdd_steady, h0, implies_true, and_self]

theorem State.freeze_steady {o0 : State} (s : State) (on : Bool) (h0 : Steady o0 s) : Steady o0 (State.freeze s on) := by
  unfold State.freeze
  simp +contextual (maxDischargeDepth := 60) only [↓Steady.ite, ↓Steady.foldl, ↓State.setObj_steady, h0, implies_true, and_self]

theorem State.dumpRecord_steady {o0 : State} (s : State) (words : Nat) (h0 : Steady o0 s) : Steady o0 (State.dumpRecord s words) := by
  unfold State.dumpRecord
  simp +contextual (maxDischargeDepth := 60) only [↓Steady.ite, ↓State.bump_steady, ↓State.setObj_steady, ↓State.withMc_steady, h0, implies_true, and_self]

theorem acceptMc_steady {o0 : State} (k : Key) (v : Val) {s : State} (h0 : Steady o0 s) : Steady o0 (acceptMc k v s).2 := by
  unfold acceptMc
  repeat' split
  all_goals simp +contextual (maxDischargeDepth := 60) only [↓acceptStage_steady, ↓State.askRestart_steady, ↓State.plan_steady, ↓State.stage_steady, h0]

theorem State.commitMc_steady {o0 : State} (s : State) (k : Key) (v : Nat) (h0 : Steady o0 s) : Steady o0 (State.commitMc s k v) := by
  unfold State.commitMc
  simp +contextual (maxDischargeDepth := 60) only [↓Steady.ite, ↓State.setObj_steady, ↓State.withMc_steady, h0, implies_true, and_self]

theorem State.busAccess_steady {o0 : State} (s : State) (a : BusAccess) (h0 : Steady o0 s) : Steady o0 (State.busAccess s a) := by
  unfold State.busAccess
  simp +contextual (maxDischargeDepth := 60) only [↓State.withMc_steady, h0]

theorem State.truncate_steady {o0 : State} (s : State) (masters : List Nat) (bursts : List Burst) (h0 : Steady o0 s) : Steady o0 (State.truncate s masters bursts) := by
  unfold State.truncate
  simp +contextual (maxDischargeDepth := 60) only [↓Steady.foldl, ↓State.bump_steady, ↓State.raise_steady, ↓State.withMc_steady, h0, implies_true]

theorem State.busTick_steady {o0 : State} (s : State) (hold : Nat) (accesses : List BusAccess) (h0 : Steady o0 s) : Steady o0 (State.busTick s hold accesses) := by
  unfold State.busTick
  simp +contextual (maxDischargeDepth := 60) only [↓Steady.foldl, ↓State.busAccess_steady, ↓State.setObj_steady, h0, implies_true]

theorem State.refuseOwed_steady {o0 : State} (s : State) (h0 : Steady o0 s) : Steady o0 (State.refuseOwed s) := by
  unfold State.refuseOwed
  extract_lets t u
  have ht : Steady o0 t := Steady.foldl _ _ h0.fields fun _ _ h => State.deliver_steady _ _ _ _ _ h
  have hu : Steady o0 u := Steady.foldl _ _ ht fun x d hx => by
    split
    · exact State.deliver_steady _ _ _ _ _ (State.withDom_steady _ _ _ hx)
    · exact hx
  split
  · exact State.deliver_steady _ _ _ _ _ (State.withPower_steady _ _ hu)
  · exact hu


theorem State.discardStaged_steady {o0 : State} (s : State) (h0 : Steady o0 s) : Steady o0 (State.discardStaged s) := by
  unfold State.discardStaged
  extract_lets cals
  have hc : Steady o0 cals := Steady.foldl _ _ h0 fun x e hx => by
    split
    · exact State.withEngine_steady _ _ _ hx
    · exact hx
  exact hc.fields


theorem State.abandonAgreements_steady {o0 : State} (s : State) (h0 : Steady o0 s) : Steady o0 (State.abandonAgreements s) := by
  unfold State.abandonAgreements
  simp +contextual (maxDischargeDepth := 60) only [↓Steady.ite, ↓Steady.foldl, ↓State.withLink_steady, h0, implies_true, and_self]

theorem State.endProgram_steady {o0 : State} (s : State) (h0 : Steady o0 s) : Steady o0 (State.endProgram s) := by
  unfold State.endProgram
  repeat' split
  all_goals simp +contextual (maxDischargeDepth := 60) only [↓State.setObj_steady, ↓State.setSlot_steady, ↓State.withMc_steady, h0]

theorem State.beginRestart_steady {o0 : State} (s : State) (cause : Nat) (bursts : List Burst) (h0 : Steady o0 s) : Steady o0 (State.beginRestart s cause bursts) := by
  unfold State.beginRestart
  simp +contextual (maxDischargeDepth := 60) only [↓Steady.ite, ↓State.abandonAgreements_steady, ↓State.bump_steady, ↓State.discardStaged_steady, ↓State.endProgram_steady, ↓State.refuseOwed_steady, ↓State.setBoot_steady, ↓State.setObj_steady, ↓State.truncate_steady, ↓State.withInject_steady, ↓State.withMc_steady, h0, implies_true, and_self]

theorem State.reverify_steady {o0 : State} (s : State) (h0 : Steady o0 s) : Steady o0 (State.reverify s) := by
  unfold State.reverify
  simp +contextual (maxDischargeDepth := 60) only []
  repeat' split
  all_goals simp +contextual (maxDischargeDepth := 60) only [↓State.loadSource_steady, ↓State.measure_steady, ↓State.measureImage_steady, ↓State.runImage_steady, ↓State.setBoot_steady, ↓State.withMc_steady, h0]

theorem State.finishRestart_steady {o0 : State} (s : State) (h0 : Steady o0 s) : Steady o0 (State.finishRestart s) := by
  unfold State.finishRestart
  repeat' split
  all_goals simp +contextual (maxDischargeDepth := 60) only [↓Steady.ite, ↓Steady.foldl, ↓State.eraseStage_steady, ↓State.raise_steady, ↓State.setBoot_steady, ↓State.startKa_steady, ↓State.switchClock_steady, ↓State.withMc_steady, ↓State.withStores_steady, h0, implies_true, and_self]

theorem execSecSvCommit_steady {o0 : State} (rq : Rq) (val : Val) (burned : Nat) (s : State) (h0 : Steady o0 s) : OutSteady o0 (execSecSvCommit rq val burned s) := by
  unfold execSecSvCommit
  simp +contextual (maxDischargeDepth := 60) only [OutSteady.next, ↓acceptSecurity_steady, ↓serveWrite_steady, h0, implies_true]

theorem execSecOwnerFuse_steady {o0 : State} (rq : Rq) (val : Val) (s : State) (h0 : Steady o0 s) : OutSteady o0 (execSecOwnerFuse rq val s) := by
  unfold execSecOwnerFuse
  simp +contextual (maxDischargeDepth := 60) only [OutSteady.next, ↓acceptSecurity_steady, ↓serveWrite_steady, h0, implies_true]

theorem execSecAttestNonce_steady {o0 : State} (rq : Rq) (val : Val) (s : State) (h0 : Steady o0 s) : OutSteady o0 (execSecAttestNonce rq val s) := by
  unfold execSecAttestNonce
  simp +contextual (maxDischargeDepth := 60) only [OutSteady.next, ↓acceptSecurity_steady, ↓serveWrite_steady, h0, implies_true]

theorem execAttestDone_steady {o0 : State} (s : State) (h0 : Steady o0 s) : OutSteady o0 (execAttestDone s) := by
  unfold execAttestDone
  repeat' split
  all_goals simp +contextual (maxDischargeDepth := 60) only [OutSteady.next, ↓State.drawn_steady, ↓State.setObj_steady, ↓State.withMc_steady, h0]

theorem execLockstepMismatch_steady {o0 : State} (pair : Fin 2) (s : State) (h0 : Steady o0 s) : OutSteady o0 (execLockstepMismatch pair s) := by
  unfold execLockstepMismatch
  simp +contextual (maxDischargeDepth := 60) only [↓Steady.ite, OutSteady.next, ↓State.askRestart_steady, ↓State.bump_steady, ↓State.raise_steady, h0, implies_true, and_self]

theorem execWatchdogExpire_steady {o0 : State} (pair : Fin 2) (ms : Nat) (s : State) (h0 : Steady o0 s) : OutSteady o0 (execWatchdogExpire pair ms s) := by
  unfold execWatchdogExpire
  simp +contextual (maxDischargeDepth := 60) only [↓OutSteady.ite, OutSteady.next, ↓State.askRestart_steady, ↓State.withMc_steady, h0, implies_true, and_self]

theorem execMcRestart_steady {o0 : State} (rq : Rq) (val : Val) (s : State) (h0 : Steady o0 s) : OutSteady o0 (execMcRestart rq val s) := by
  unfold execMcRestart
  simp +contextual (maxDischargeDepth := 60) only [OutSteady.next, ↓acceptMc_steady, ↓serveWrite_steady, h0, implies_true]

theorem execWarmRestart_steady {o0 : State} (bursts : List Burst) (s : State) (h0 : Steady o0 s) : OutSteady o0 (execWarmRestart bursts s) := by
  unfold execWarmRestart
  repeat' split
  all_goals simp +contextual (maxDischargeDepth := 60) only [OutSteady.next, ↓State.beginRestart_steady, ↓State.setBoot_steady, ↓State.withMc_steady, h0]

theorem execWarmRestartReady_steady {o0 : State} (s : State) (h0 : Steady o0 s) : OutSteady o0 (execWarmRestartReady s) := by
  unfold execWarmRestartReady
  simp +contextual (maxDischargeDepth := 60) only [↓Steady.ite, ↓OutSteady.ite, OutSteady.next, ↓State.finishRestart_steady, ↓State.reverify_steady, h0, implies_true, and_self]

theorem execMcFwCheck_steady {o0 : State} (rq : Rq) (val : Val) (s : State) (h0 : Steady o0 s) : OutSteady o0 (execMcFwCheck rq val s) := by
  unfold execMcFwCheck
  simp +contextual (maxDischargeDepth := 60) only [OutSteady.next, ↓acceptSecurity_steady, ↓serveWrite_steady, h0, implies_true]

theorem execFwCheckDone_steady {o0 : State} (s : State) (h0 : Steady o0 s) : OutSteady o0 (execFwCheckDone s) := by
  unfold execFwCheckDone
  simp +contextual (maxDischargeDepth := 60) only [↓OutSteady.ite, OutSteady.next, ↓State.raise_steady, ↓State.setStageState_steady, h0, implies_true, and_self]

theorem execMcFwProgramSlotA_steady {o0 : State} (rq : Rq) (s : State) (h0 : Steady o0 s) : OutSteady o0 (execMcFwProgramSlotA rq s) := by
  unfold execMcFwProgramSlotA
  simp +contextual (maxDischargeDepth := 60) only [OutSteady.next, ↓acceptSecurity_steady, ↓serveWrite_steady, h0, implies_true]

theorem execMcFwProgramSlotB_steady {o0 : State} (rq : Rq) (s : State) (h0 : Steady o0 s) : OutSteady o0 (execMcFwProgramSlotB rq s) := by
  unfold execMcFwProgramSlotB
  simp +contextual (maxDischargeDepth := 60) only [OutSteady.next, ↓acceptSecurity_steady, ↓serveWrite_steady, h0, implies_true]

theorem execFwProgramDone_steady {o0 : State} (ok : Bool) (s : State) (h0 : Steady o0 s) : OutSteady o0 (execFwProgramDone ok s) := by
  unfold execFwProgramDone
  repeat' split
  all_goals simp +contextual (maxDischargeDepth := 60) only [OutSteady.next, ↓State.setObj_steady, ↓State.setSlot_steady, ↓State.withMc_steady, h0]

theorem execMcFwActivate_steady {o0 : State} (rq : Rq) (val : Val) (s : State) (h0 : Steady o0 s) : OutSteady o0 (execMcFwActivate rq val s) := by
  unfold execMcFwActivate
  simp +contextual (maxDischargeDepth := 60) only [OutSteady.next, ↓acceptSecurity_steady, ↓serveWrite_steady, h0, implies_true]

theorem execPerfCounterOverflow_steady {o0 : State} (counter : Fin 96) (count : Nat) (s : State) (h0 : Steady o0 s) : OutSteady o0 (execPerfCounterOverflow counter count s) := by
  unfold execPerfCounterOverflow
  simp +contextual (maxDischargeDepth := 60) only [↓Steady.ite, OutSteady.next, ↓State.perfCount_steady, h0, implies_true, and_self]

theorem execPerfDump_steady {o0 : State} (complete : Option Nat) (s : State) (h0 : Steady o0 s) : OutSteady o0 (execPerfDump complete s) := by
  unfold execPerfDump
  simp +contextual (maxDischargeDepth := 60) only [OutSteady.next, ↓State.dumpRecord_steady, h0]

theorem execPerfFreeze_steady {o0 : State} (rq : Rq) (s : State) (h0 : Steady o0 s) : OutSteady o0 (execPerfFreeze rq s) := by
  unfold execPerfFreeze
  simp +contextual (maxDischargeDepth := 60) only [OutSteady.next, ↓acceptMc_steady, ↓serveWrite_steady, h0, implies_true]

theorem execPerfResume_steady {o0 : State} (rq : Rq) (s : State) (h0 : Steady o0 s) : OutSteady o0 (execPerfResume rq s) := by
  unfold execPerfResume
  simp +contextual (maxDischargeDepth := 60) only [OutSteady.next, ↓acceptMc_steady, ↓serveWrite_steady, h0, implies_true]

/-! ## Ring -/

theorem State.nextTopo_steady {o0 : State} (s : State) (h0 : Steady o0 s) : Steady o0 (State.nextTopo s) := by
  unfold State.nextTopo
  simp +contextual (maxDischargeDepth := 60) only [↓State.setObj_steady, h0]

theorem State.wrapEvent_steady {o0 : State} (s : State) (port : Nat) (h0 : Steady o0 s) : Steady o0 (State.wrapEvent s port) := by
  unfold State.wrapEvent
  simp +contextual (maxDischargeDepth := 60) only [↓State.raise_steady, h0]

theorem State.defer_steady {o0 : State} (s : State) (n : Nat) (h0 : Steady o0 s) : Steady o0 (State.defer s n) := by
  unfold State.defer
  simp +contextual (maxDischargeDepth := 60) only [↓Steady.ite, ↓State.bump_steady, ↓State.raise_steady, ↓State.withRing_steady, h0, implies_true, and_self]

theorem State.queueUrgent_steady {o0 : State} (s : State) (h0 : Steady o0 s) : Steady o0 (State.queueUrgent s) := by
  unfold State.queueUrgent
  simp +contextual (maxDischargeDepth := 60) only [↓State.withRing_steady, h0]

theorem State.takeReply_steady {o0 : State} (s : State) (d : ReplyDue) (h0 : Steady o0 s) : Steady o0 (State.takeReply s d) := by
  unfold State.takeReply
  simp +contextual (maxDischargeDepth := 60) only []
  repeat' split
  all_goals simp +contextual (maxDischargeDepth := 60) only [↓Steady.fields, ↓State.withRing_steady, h0]

theorem State.takeReplies_steady {o0 : State} (s : State) (frame : Nat) (h0 : Steady o0 s) : Steady o0 (State.takeReplies s frame) := by
  unfold State.takeReplies
  simp +contextual (maxDischargeDepth := 60) only [↓Steady.foldl, ↓State.takeReply_steady, ↓State.withRing_steady, h0, implies_true]

theorem State.takeRequest_steady {o0 : State} (s : State) (frame : Nat) (x : SegIn) (h0 : Steady o0 s) : Steady o0 (State.takeRequest s frame x) := by
  unfold State.takeRequest
  simp +contextual (maxDischargeDepth := 60) only [↓Steady.ite, ↓Steady.fields, ↓State.withRing_steady, h0, implies_true, true_and]
  repeat' split
  all_goals simp +contextual (maxDischargeDepth := 60) only [↓State.withRing_steady, h0, implies_true]

theorem State.applyRingFault_steady {o0 : State} (s : State) (c : RingCopy) (f : RingFault) (h0 : Steady o0 s) : Steady o0 (State.applyRingFault s c f).1 := by
  unfold State.applyRingFault
  repeat' split
  all_goals simp +contextual (maxDischargeDepth := 60) only [↓State.withInject_steady, h0]

theorem State.release_steady {o0 : State} (s : State) (c : RingCopy) (x : RingHeld) (h0 : Steady o0 s) : Steady o0 (State.release s c x).1 := by
  unfold State.release
  split
  · dsimp only
    exact State.withInject_steady _ _ h0
  · exact h0

theorem State.injectCopy_steady {o0 : State} (s : State) (c : RingCopy) (h0 : Steady o0 s) : Steady o0 (State.injectCopy s c).1 := by
  unfold State.injectCopy
  extract_lets p mine t x
  have ht : Steady o0 t := State.withInject_steady _ _ h0
  have faults : ∀ (fs : List RingFault) (x : State × RingCopy), Steady o0 x.1 →
      Steady o0 (fs.foldl (fun x f => x.1.applyRingFault x.2 f) x).1 := by
    intro fs
    induction fs with
    | nil => exact fun _ h => h
    | cons f fs ih => exact fun x h => ih _ (State.applyRingFault_steady _ _ _ h)
  have held : ∀ (hs : List RingHeld) (x : State × RingCopy), Steady o0 x.1 →
      Steady o0 (hs.foldl (fun x h => x.1.release x.2 h) x).1 := by
    intro hs
    induction hs with
    | nil => exact fun _ h => h
    | cons a hs ih => exact fun x h => ih _ (State.release_steady _ _ _ h)
  exact held _ _ (faults _ _ ht)

theorem State.sendCopy_steady {o0 : State} (s : State) (c : CopyOut) (h0 : Steady o0 s) : Steady o0 (State.sendCopy s c) := by
  unfold State.sendCopy
  simp +contextual (maxDischargeDepth := 60) only [↓State.withRing_steady, h0]

theorem State.readUrgent_steady {o0 : State} (s : State) (c : RingCopy) (h0 : Steady o0 s) : Steady o0 (State.readUrgent s c) := by
  unfold State.readUrgent
  simp +contextual (maxDischargeDepth := 60) only [↓Steady.foldl, ↓State.bump_steady, ↓State.receiveRemote_steady, h0, implies_true]

theorem State.abandonOwed_steady {o0 : State} (s : State) (h0 : Steady o0 s) : Steady o0 (State.abandonOwed s) := by
  unfold State.abandonOwed
  simp +contextual (maxDischargeDepth := 60) only [↓Steady.fields, ↓State.withRing_steady, h0]

theorem State.setMaster_steady {o0 : State} (s : State) (m : Nat) (h0 : Steady o0 s) : Steady o0 (State.setMaster s m) := by
  unfold State.setMaster
  simp +contextual (maxDischargeDepth := 60) only [↓Steady.ite, ↓State.abandonOwed_steady, ↓State.raise_steady, ↓State.setObj_steady, h0, implies_true, and_self]

theorem State.passCopy_steady {o0 : State} (s : State) (c : RingCopy) (h0 : Steady o0 s) : Steady o0 (State.passCopy s c) := by
  unfold State.passCopy
  repeat' split
  all_goals simp +contextual (maxDischargeDepth := 60) only [↓Steady.ite, ↓Steady.foldl, ↓State.defer_steady, ↓State.readUrgent_steady, ↓State.sendCopy_steady, ↓State.setMaster_steady, ↓State.setObj_steady, ↓State.takeReplies_steady, ↓State.takeRequest_steady, ↓State.withRing_steady, h0, implies_true, and_self]

theorem State.setPresent_steady {o0 : State} (s : State) (node : Nat) (on : Bool) (h0 : Steady o0 s) : Steady o0 (State.setPresent s node on) := by
  unfold State.setPresent
  simp +contextual (maxDischargeDepth := 60) only [↓Steady.ite, ↓State.nextTopo_steady, ↓State.raise_steady, ↓State.setObj_steady, h0, implies_true, and_self]

theorem State.countMisses_steady {o0 : State} (s : State) (c : RingCopy) (h0 : Steady o0 s) : Steady o0 (State.countMisses s c) := by
  unfold State.countMisses
  simp +contextual (maxDischargeDepth := 60) only [↓Steady.ite, ↓Steady.foldl, ↓State.setObj_steady, ↓State.setPresent_steady, ↓State.withRing_steady, h0, implies_true, and_self]

theorem State.returnCopy_steady {o0 : State} (s : State) (c : RingCopy) (h0 : Steady o0 s) : Steady o0 (State.returnCopy s c) := by
  unfold State.returnCopy
  simp +contextual (maxDischargeDepth := 60) only [↓Steady.ite, ↓State.countMisses_steady, ↓State.nextTopo_steady, ↓State.readUrgent_steady, ↓State.setObj_steady, ↓State.withRing_steady, ↓State.wrapEvent_steady, h0, implies_true, and_self]

theorem State.heardOn_steady {o0 : State} (s : State) (port : Nat) (h0 : Steady o0 s) : Steady o0 (State.heardOn s port) := by
  unfold State.heardOn
  simp +contextual (maxDischargeDepth := 60) only [↓Steady.ite, ↓State.setObj_steady, ↓State.withRing_steady, h0, implies_true, and_self]

theorem State.forwardUnread_steady {o0 : State} (s : State) (c : RingCopy) (h0 : Steady o0 s) : Steady o0 (State.forwardUnread s c) := by
  unfold State.forwardUnread
  simp +contextual (maxDischargeDepth := 60) only [↓State.sendCopy_steady, h0]

theorem State.startFrame_steady {o0 : State} (s : State) (asks : List RingAsk) (h0 : Steady o0 s) : Steady o0 (State.startFrame s asks) := by
  unfold State.startFrame
  simp +contextual (maxDischargeDepth := 60) only [↓Steady.ite, ↓State.defer_steady, ↓State.setMaster_steady, ↓State.setObj_steady, ↓State.withRing_steady, h0, implies_true, and_self]

theorem State.ringBoundary_steady {o0 : State} (s : State) (asks : List RingAsk) (h0 : Steady o0 s) : Steady o0 (State.ringBoundary s asks) := by
  unfold State.ringBoundary
  extract_lets quiet a down b c d
  have hdown : ∀ t p, Steady o0 t → Steady o0 (down t p) := fun t p h => by
    show Steady o0 (if _ then _ else _)
    split
    · exact State.withRing_steady _ _ (State.setObj_steady _ _ _ h)
    · exact h
  have ha : Steady o0 a := State.withRing_steady _ _ h0
  have hb : Steady o0 b := by
    show Steady o0 (if _ then _ else _)
    split
    · exact hdown _ _ ha
    · exact ha
  have hc : Steady o0 c := by
    show Steady o0 (if _ then _ else _)
    split
    · exact hdown _ _ hb
    · exact hb
  have hd : Steady o0 d := by
    show Steady o0 (if _ then _ else _)
    split
    · split
      · exact State.setObj_steady _ _ _ hc
      · exact State.setObj_steady _ _ _ (State.setObj_steady _ _ _ hc)
    · exact hc
  split
  · exact State.startFrame_steady _ _ hd
  · exact State.startFrame_steady _ _ (State.queueUrgent_steady _ hd)

theorem execRingCopyReceive_steady {o0 : State} (copy : RingCopy) (s : State) (h0 : Steady o0 s) : OutSteady o0 (execRingCopyReceive copy s) := by
  unfold execRingCopyReceive
  simp +contextual (maxDischargeDepth := 60) only [OutSteady.next, ↓OutSteady.ite, ↓Steady.ite, ↓State.bump_steady, ↓State.forwardUnread_steady, ↓State.heardOn_steady, ↓State.injectCopy_steady, ↓State.loupeFrame_steady, ↓State.passCopy_steady, ↓State.returnCopy_steady, ↓State.setObj_steady, h0, implies_true, and_self]

theorem execStandbyTakeover_steady {o0 : State} (s : State) (h0 : Steady o0 s) : OutSteady o0 (execStandbyTakeover s) := by
  unfold execStandbyTakeover
  simp +contextual (maxDischargeDepth := 60) only [↓OutSteady.ite, OutSteady.next, ↓State.atBoundary_steady, ↓State.nextTopo_steady, ↓State.setMaster_steady, ↓State.setObj_steady, h0, implies_true, and_self]

theorem execVyPortFail_steady {o0 : State} (port : Fin 2) (lockLost : Bool) (silent : Nat) (s : State) (h0 : Steady o0 s) : OutSteady o0 (execVyPortFail port lockLost silent s) := by
  unfold execVyPortFail
  simp +contextual (maxDischargeDepth := 60) only [↓OutSteady.ite, OutSteady.next, ↓State.setObj_steady, ↓State.withRing_steady, ↓State.wrapEvent_steady, h0, implies_true, and_self]

theorem execVyUnwrap_steady {o0 : State} (port : Fin 2) (locked frame : Nat) (s : State) (h0 : Steady o0 s) : OutSteady o0 (execVyUnwrap port locked frame s) := by
  unfold execVyUnwrap
  simp +contextual (maxDischargeDepth := 60) only [↓OutSteady.ite, OutSteady.next, ↓State.setObj_steady, ↓State.withRing_steady, ↓State.wrapEvent_steady, h0, implies_true, and_self]

/-! ## Overrun -/

theorem State.missWrites_steady {o0 : State} (s : State) (positions : List Nat) (h0 : Steady o0 s) : Steady o0 (State.missWrites s positions) := by
  unfold State.missWrites
  simp +contextual (maxDischargeDepth := 60) only [↓State.withPrism_steady, h0]

theorem State.missReads_steady {o0 : State} (s : State) (positions : List Nat) (h0 : Steady o0 s) : Steady o0 (State.missReads s positions) := by
  unfold State.missReads
  simp +contextual (maxDischargeDepth := 60) only [↓State.bump_steady, ↓State.withPrism_steady, h0]

theorem State.missPoints_steady {o0 : State} (s : State) (points : List Nat) (h0 : Steady o0 s) : Steady o0 (State.missPoints s points) := by
  unfold State.missPoints
  simp +contextual (maxDischargeDepth := 60) only [↓State.withProt_steady, h0]

theorem State.undoFop_steady {o0 : State} (s : State) (g fop : Nat) (h0 : Steady o0 s) : Steady o0 (State.undoFop s g fop) := by
  have h := State.setPgRun_steady s g { s.pgRun g with fop := fop } h0
  exact ⟨h.pending, h.now, fun c => ⟨(h.canonical c).1, (h.canonical c).2.1, (h.canonical c).2.2.1, Map.wf_set_const _ _ _ _ (h0.canonical c).2.2.2⟩⟩

theorem State.undoCommand_steady {o0 : State} (s : State) (g : Nat) (h0 : Steady o0 s) : Steady o0 (State.undoCommand s g) := by
  unfold State.undoCommand
  extract_lets k cmd t
  have ht : Steady o0 t := h0.actSet
  exact Steady.ite.2 ⟨fun _ => h0, fun _ => Steady.ite.2 ⟨fun _ => ht, fun _ => State.setShadow_steady _ _ _ ht⟩⟩

theorem State.missGroup_steady {o0 : State} (s : State) (g : Nat) (h0 : Steady o0 s) : Steady o0 (State.missGroup s g) := by
  unfold State.missGroup
  simp +contextual (maxDischargeDepth := 60) only [↓Steady.ite, ↓Steady.fields, ↓State.setObj_steady, ↓State.setPgRun_steady, ↓State.undoCommand_steady, ↓State.undoFop_steady, ↓State.withProt_steady, h0, implies_true, and_self]

theorem State.missInsertion_steady {o0 : State} (s : State) (h0 : Steady o0 s) : Steady o0 (State.missInsertion s) := by
  unfold State.missInsertion
  simp +contextual (maxDischargeDepth := 60) only [↓Steady.foldl, ↓State.setObj_steady, h0, implies_true]

theorem State.missMerge_steady {o0 : State} (s : State) (m : Nat) (h0 : Steady o0 s) : Steady o0 (State.missMerge s m) := by
  unfold State.missMerge
  repeat' split
  all_goals simp +contextual (maxDischargeDepth := 60) only [↓State.setObj_steady, ↓State.withMm_steady, h0]

theorem State.missRing_steady {o0 : State} (s : State) (port : Nat) (h0 : Steady o0 s) : Steady o0 (State.missRing s port) := by
  unfold State.missRing
  simp +contextual (maxDischargeDepth := 60) only [↓State.withRing_steady, h0]

theorem State.missDump_steady {o0 : State} (s : State) (words : Nat) (h0 : Steady o0 s) : Steady o0 (State.missDump s words) := by
  unfold State.missDump
  simp +contextual (maxDischargeDepth := 60) only [↓Steady.ite, ↓State.dumpRecord_steady, ↓State.withMc_steady, h0, implies_true, and_self]

theorem State.missDeadline_steady {o0 : State} (s : State) (engine : Nat) (affected : List Nat) (h0 : Steady o0 s) : Steady o0 (State.missDeadline s engine affected) := by
  unfold State.missDeadline
  repeat' split
  all_goals simp +contextual (maxDischargeDepth := 60) only [↓Steady.foldl, ↓State.missDump_steady, ↓State.missGroup_steady, ↓State.missInsertion_steady, ↓State.missMerge_steady, ↓State.missPoints_steady, ↓State.missReads_steady, ↓State.missRing_steady, ↓State.missWrites_steady, ↓State.overrun_steady, ↓State.withProt_steady, h0, implies_true]

theorem execTickOverrun_steady {o0 : State} (engine : Fin 10) (affected : List Nat) (s : State) (h0 : Steady o0 s) : OutSteady o0 (execTickOverrun engine affected s) := by
  unfold execTickOverrun
  simp +contextual (maxDischargeDepth := 60) only [OutSteady.next, ↓State.missDeadline_steady, h0]

/-! ## FaultInjection -/

theorem acceptInjection_steady {o0 : State} (k : Key) (v : Val) {s : State} (h0 : Steady o0 s) : Steady o0 (acceptInjection k v s).2 := by
  unfold acceptInjection
  simp +contextual (maxDischargeDepth := 60) only [↓Steady.snd_ite, ↓State.stage_steady, h0, implies_true, and_self]

theorem State.disarm_steady {o0 : State} (s : State) (cause : Nat) (h0 : Steady o0 s) : Steady o0 (State.disarm s cause) := by
  unfold State.disarm
  simp +contextual (maxDischargeDepth := 60) only [↓State.raise_steady, ↓State.setObj_steady, ↓State.withInject_steady, ↓State.withStores_steady, h0]

theorem State.idleInjection_steady {o0 : State} (s : State) (h0 : Steady o0 s) : Steady o0 (State.idleInjection s) := by
  unfold State.idleInjection
  simp +contextual (maxDischargeDepth := 60) only [↓Steady.ite, ↓State.disarm_steady, ↓State.setObj_steady, ↓State.withInject_steady, h0, implies_true, and_self]

theorem State.writeArm_steady {o0 : State} (s : State) (session v : Nat) (h0 : Steady o0 s) : Steady o0 (State.writeArm s session v).2 := by
  unfold State.writeArm
  repeat' split
  all_goals simp +contextual (maxDischargeDepth := 60) only [↓Steady.snd_ite, ↓State.idleInjection_steady, ↓State.raise_steady, ↓State.setObj_steady, ↓State.withInject_steady, h0, implies_true, and_self]

theorem serveArm_steady {o0 : State} (rq : Rq) (val : Val) (s : State) (h0 : Steady o0 s) : Steady o0 (serveArm rq val s) := by
  unfold serveArm
  try simp +contextual (maxDischargeDepth := 60) only []
  all_goals (repeat' first | assumption | refine OutSteady.next.mpr ?_ | refine State.atBoundary_steady _ _ ?_ (fun _ _ _ => ?_) | refine Steady.foldl _ _ ?_ (fun _ _ _ => ?_) | refine serve_steady _ _ _ _ _ ?_ (fun _ _ _ => ?_) | split | intro _ | simp +contextual (maxDischargeDepth := 60) only [↓State.writeArm_steady, *])

theorem State.corruptWords_steady {o0 : State} (s : State) (direction mask : Nat) (positions : List Nat) (h0 : Steady o0 s) : Steady o0 (State.corruptWords s direction mask positions) := by
  unfold State.corruptWords
  simp +contextual (maxDischargeDepth := 60) only [↓State.withPrism_steady, h0]

theorem State.corruptParity_steady {o0 : State} (s : State) (slice words first : Nat) (h0 : Steady o0 s) : Steady o0 (State.corruptParity s slice words first) := by
  unfold State.corruptParity
  simp +contextual (maxDischargeDepth := 60) only [↓Steady.ite, ↓State.withInject_steady, h0, implies_true, true_and]
  repeat' split
  all_goals simp +contextual (maxDischargeDepth := 60) only [↓State.withInject_steady, h0, implies_true]

theorem State.corruptPage_steady {o0 : State} (s : State) (g page first n : Nat) (stuck : Bool) (h0 : Steady o0 s) : Steady o0 (State.corruptPage s g page first n stuck) := by
  unfold State.corruptPage
  simp +contextual (maxDischargeDepth := 60) only [↓State.setPage_steady, h0]

theorem State.strike_steady {o0 : State} (s : State) (slot : Nat) (conns affected : List Nat) (h0 : Steady o0 s) : Steady o0 (State.strike s slot conns affected) := by
  unfold State.strike
  simp +contextual (maxDischargeDepth := 60) only []
  repeat' split
  all_goals simp +contextual (maxDischargeDepth := 60) only [↓State.bump_steady, ↓State.corruptPage_steady, ↓State.corruptParity_steady, ↓State.corruptWords_steady, ↓State.missDeadline_steady, ↓State.plan_steady, ↓State.replayFails_steady, ↓State.withInject_steady, h0]

theorem State.occurrence_steady {o0 : State} (s : State) (slot : Nat) (conns affected : List Nat) (h0 : Steady o0 s) : Steady o0 (State.occurrence s slot conns affected) := by
  unfold State.occurrence
  simp +contextual (maxDischargeDepth := 60) only [↓Steady.ite, ↓State.bump_steady, ↓State.strike_steady, ↓State.withInject_steady, h0, implies_true, and_self]

theorem State.occurrences_steady {o0 : State} (s : State) (boundary : Bool) (h0 : Steady o0 s) : Steady o0 (State.occurrences s boundary) := by
  unfold State.occurrences
  simp +contextual (maxDischargeDepth := 60) only [↓Steady.ite, ↓Steady.foldl, ↓State.occurrence_steady, h0, implies_true, and_self]

theorem State.injectionTimers_steady {o0 : State} (s : State) (h0 : Steady o0 s) : Steady o0 (State.injectionTimers s) := by
  unfold State.injectionTimers
  repeat' split
  all_goals simp +contextual (maxDischargeDepth := 60) only [↓State.disarm_steady, ↓State.idleInjection_steady, h0]

theorem execFiArmPrepare_steady {o0 : State} (rq : Rq) (s : State) (h0 : Steady o0 s) : OutSteady o0 (execFiArmPrepare rq s) := by
  unfold execFiArmPrepare
  simp +contextual (maxDischargeDepth := 60) only [OutSteady.next, ↓serveArm_steady, h0]

theorem execFiArmConfirm_steady {o0 : State} (rq : Rq) (s : State) (h0 : Steady o0 s) : OutSteady o0 (execFiArmConfirm rq s) := by
  unfold execFiArmConfirm
  simp +contextual (maxDischargeDepth := 60) only [OutSteady.next, ↓serveArm_steady, h0]

theorem execFiDisarm_steady {o0 : State} (rq : Rq) (s : State) (h0 : Steady o0 s) : OutSteady o0 (execFiDisarm rq s) := by
  unfold execFiDisarm
  simp +contextual (maxDischargeDepth := 60) only [OutSteady.next, ↓serveArm_steady, h0]

theorem execFiPrepareTimeout_steady {o0 : State} (s : State) (h0 : Steady o0 s) : OutSteady o0 (execFiPrepareTimeout s) := by
  unfold execFiPrepareTimeout
  repeat' split
  all_goals simp +contextual (maxDischargeDepth := 60) only [OutSteady.next, ↓State.idleInjection_steady, h0]

theorem execFiDurationExpire_steady {o0 : State} (s : State) (h0 : Steady o0 s) : OutSteady o0 (execFiDurationExpire s) := by
  unfold execFiDurationExpire
  simp +contextual (maxDischargeDepth := 60) only [↓Steady.ite, OutSteady.next, ↓State.atBoundary_steady, ↓State.disarm_steady, h0, implies_true, and_self]

theorem execFiOccurrence_steady {o0 : State} (slot : Fin 16) (conns affected : List Nat) (s : State) (h0 : Steady o0 s) : OutSteady o0 (execFiOccurrence slot conns affected s) := by
  unfold execFiOccurrence
  simp +contextual (maxDischargeDepth := 60) only [↓Steady.ite, OutSteady.next, ↓State.atBoundary_steady, ↓State.occurrence_steady, h0, implies_true, and_self]

theorem execFiSlotWrite_steady {o0 : State} (rq : Rq) (slot : Nat) (val : Val) (s : State) (h0 : Steady o0 s) : OutSteady o0 (execFiSlotWrite rq slot val s) := by
  unfold execFiSlotWrite
  simp +contextual (maxDischargeDepth := 60) only [OutSteady.next, ↓acceptInjection_steady, ↓serveWrite_steady, h0, implies_true]

end Sys2Proof.Machine
end

