-- ==== Sys2Proof/Laws/SteadyWrites.lean ====
section
/-! SUPPORT. What work within one tick keeps, one lemma per operation and command: accepted writes, commits and the requests. -/

namespace Sys2Proof.Machine

/-! ## Accept -/

theorem State.markDirty_steady {o0 : State} (s : State) (ns : List Nat) (h0 : Steady o0 s) : Steady o0 (State.markDirty s ns) := by
  unfold State.markDirty
  simp +contextual (maxDischargeDepth := 60) only [↓Steady.ite, ↓State.setObj_steady, ↓State.withPrism_steady, h0, implies_true, and_self]

theorem State.writeShadow_steady {o0 : State} (s : State) (k : Key) (v : Nat) (h0 : Steady o0 s) : Steady o0 (State.writeShadow s k v) := by
  unfold State.writeShadow
  simp +contextual (maxDischargeDepth := 60) only [↓Steady.ite, ↓Steady.fields, ↓State.markDirty_steady, ↓State.setShadow_steady, h0, implies_true, and_self]

theorem State.editCounted_steady {o0 : State} (s : State) (h0 : Steady o0 s) : Steady o0 (State.editCounted s) := by
  unfold State.editCounted
  simp +contextual (maxDischargeDepth := 60) only [↓State.setObj_steady, ↓State.shadowEdited_steady, h0]

theorem acceptShadow_steady {o0 : State} (k : Key) (v : Val) {s : State} (h0 : Steady o0 s) : Steady o0 (acceptShadow k v s).2 := by
  unfold acceptShadow
  repeat' split
  all_goals simp +contextual (maxDischargeDepth := 60) only [↓State.editCounted_steady, ↓State.writeShadow_steady, h0]

theorem State.clearWritten_steady {o0 : State} (s : State) (r : ObjRow) (k : Key) (v : Nat) (h0 : Steady o0 s) : Steady o0 (State.clearWritten s r k v) := by
  unfold State.clearWritten
  simp +contextual (maxDischargeDepth := 60) only [↓Steady.ite, ↓Steady.foldl, ↓State.clear_steady, ↓State.setObj_steady, h0, implies_true, and_self]

theorem acceptRoles_steady {o0 : State} (k : Key) (v : Val) {s : State} (h0 : Steady o0 s) : Steady o0 (acceptRoles k v s).2 := by
  unfold acceptRoles
  simp +contextual (maxDischargeDepth := 60) only [↓Steady.snd_ite, ↓State.setObj_steady, h0, implies_true, and_self]

theorem acceptClass_steady {o0 : State} (k : Key) (v : Val) {s : State} (h0 : Steady o0 s) : Steady o0 (acceptClass k v s).2 := by
  unfold acceptClass
  repeat' split
  all_goals simp +contextual (maxDischargeDepth := 60) only [↓acceptClient_steady, ↓acceptDsp_steady, ↓acceptFec_steady, ↓acceptFraming_steady, ↓acceptHk_steady, ↓acceptInjection_steady, ↓acceptLane_steady, ↓acceptMc_steady, ↓acceptMeas_steady, ↓acceptMerge_steady, ↓acceptOptics_steady, ↓acceptPm_steady, ↓acceptPower_steady, ↓acceptPrism_steady, ↓acceptSecure_steady, ↓acceptSecurity_steady, ↓acceptShadowSet_steady, ↓acceptStage_steady, ↓acceptStores_steady, ↓acceptTimeBase_steady, ↓acceptTiming_steady, h0]

theorem acceptWrite_steady {o0 : State} (k : Key) (v : Val) {s : State} (h0 : Steady o0 s) : Steady o0 (acceptWrite k v s).2 := by
  unfold acceptWrite
  repeat' split
  all_goals simp +contextual (maxDischargeDepth := 60) only [↓acceptClass_steady, ↓acceptRoles_steady, ↓acceptShadow_steady, ↓State.clearWritten_steady, h0]

theorem serveAnyWrite_steady {o0 : State} (rq : Rq) (k : Key) (val : Val) (s : State) (h0 : Steady o0 s) : Steady o0 (serveAnyWrite rq k val s) := by
  unfold serveAnyWrite
  simp +contextual (maxDischargeDepth := 60) only [↓Steady.ite, ↓acceptWrite_steady, ↓serveArm_steady, ↓serveDomReq_steady, ↓serveQuiescent_steady, ↓serveSwap_steady, ↓serveWrite_steady, h0, implies_true, and_self]

/-! ## Commit -/

theorem State.commitWrite_steady {o0 : State} (s : State) (k : Key) (v : Nat) (h0 : Steady o0 s) : Steady o0 (State.commitWrite s k v) := by
  unfold State.commitWrite
  repeat' split
  all_goals simp +contextual (maxDischargeDepth := 60) only [↓State.commitFffRx_steady, ↓State.commitMc_steady, ↓State.commitRate_steady, ↓State.commitRoutes_steady, ↓State.commitSource_steady, ↓State.commitStrength_steady, ↓State.dropPointers_steady, ↓State.followRef_steady, ↓State.rebase_steady, ↓State.refreshLevel_steady, ↓State.refreshClient_steady, ↓State.refreshStm_steady, ↓State.setObj_steady, ↓commitDsp_steady, ↓commitInstr_steady, ↓commitOptics_steady, ↓commitPm_steady, ↓commitTiming_steady, h0]

theorem runWrite_steady {o0 : State} (q : Due) {s : State} (h0 : Steady o0 s) : Steady o0 (runWrite q s) := by
  unfold runWrite
  repeat' split
  all_goals simp +contextual (maxDischargeDepth := 60) only [↓State.commitWrite_steady, h0]

theorem State.commitObjects_steady {o0 : State} (s : State) (h0 : Steady o0 s) : Steady o0 (State.commitObjects s) := by
  unfold State.commitObjects
  simp +contextual (maxDischargeDepth := 60) only [↓State.commitModes_steady, ↓State.runDue_steady, ↓runWrite_steady, h0, implies_true]

theorem runCommit_steady {o0 : State} (q : Due) {s : State} (h0 : Steady o0 s) : Steady o0 (runCommit q s) := by
  unfold runCommit
  repeat' split
  all_goals simp +contextual (maxDischargeDepth := 60) only [↓State.applyBond_steady, ↓State.bgCommit_steady, ↓State.calBegin_steady, ↓State.calCommit_steady, ↓State.commitClient_steady, ↓State.coreJoin_steady, ↓State.coreTest_steady, ↓State.fireLoupe_steady, ↓State.freeze_steady, ↓State.refreshTxStatus_steady, ↓State.restartRx_steady, ↓State.spareLane_steady, ↓State.startCompile_steady, h0]

theorem State.commits_steady {o0 : State} (s : State) (h0 : Steady o0 s) : Steady o0 (State.commits s) := by
  unfold State.commits
  simp +contextual (maxDischargeDepth := 60) only [↓State.commitObjects_steady, ↓runCommit_steady, ↓State.runDue_steady, h0, implies_true]

theorem runTag_steady {o0 : State} (q : Due) {s : State} (h0 : Steady o0 s) : Steady o0 (runTag q s) := by
  unfold runTag
  repeat' split
  all_goals simp +contextual (maxDischargeDepth := 60) only [↓State.checkTag_steady, h0]

theorem State.checkTags_steady {o0 : State} (s : State) (h0 : Steady o0 s) : Steady o0 (State.checkTags s) := by
  unfold State.checkTags
  simp +contextual (maxDischargeDepth := 60) only [↓State.runDue_steady, ↓runTag_steady, h0, implies_true]

/-! ## Measures -/

theorem State.reportPower_steady {o0 : State} (s : State) (e : Nat) (h0 : Steady o0 s) : Steady o0 (State.reportPower s e) := by
  unfold State.reportPower
  simp +contextual (maxDischargeDepth := 60) only [↓Steady.ite, ↓State.setInt_steady, h0, implies_true, and_self]

theorem State.measureOptics_steady {o0 : State} (s : State) (x : OpticsMeas) (h0 : Steady o0 s) : Steady o0 (State.measureOptics s x) := by
  unfold State.measureOptics
  simp +contextual (maxDischargeDepth := 60) only [↓Steady.ite, ↓State.laserTxReads_steady, ↓State.setInt_steady, ↓State.setObj_steady, ↓State.withEngine_steady, h0, implies_true, and_self]

theorem State.countFec_steady {o0 : State} (s : State) (x : FecCount) (h0 : Steady o0 s) : Steady o0 (State.countFec s x) := by
  unfold State.countFec
  simp +contextual (maxDischargeDepth := 60) only [↓Steady.ite, ↓State.bump_steady, ↓State.withEngine_steady, ↓State.withProt_steady, h0, implies_true, and_self]

theorem State.trackRx_steady {o0 : State} (s : State) (x : RxTrack) (h0 : Steady o0 s) : Steady o0 (State.trackRx s x) := by
  unfold State.trackRx
  simp +contextual (maxDischargeDepth := 60) only [↓Steady.ite, ↓State.setInt_steady, h0, implies_true, and_self]

theorem State.closeFecEpoch_steady {o0 : State} (s : State) (e : Nat) (h0 : Steady o0 s) : Steady o0 (State.closeFecEpoch s e) := by
  unfold State.closeFecEpoch
  simp +contextual (maxDischargeDepth := 60) only [↓State.setObj_steady, ↓State.withEngine_steady, h0]

theorem State.measureLane_steady {o0 : State} (s : State) (x : LaneMeas) (h0 : Steady o0 s) : Steady o0 (State.measureLane s x) := by
  unfold State.measureLane
  simp +contextual (maxDischargeDepth := 60) only [↓Steady.ite, ↓State.bump_steady, ↓State.setObj_steady, h0, implies_true, and_self]

theorem State.measurePath_steady {o0 : State} (s : State) (x : PathFrame) (h0 : Steady o0 s) : Steady o0 (State.measurePath s x) := by
  unfold State.measurePath
  simp +contextual (maxDischargeDepth := 60) only [↓Steady.ite, ↓Steady.fields, ↓Steady.foldl, ↓State.setDefect_steady, h0, implies_true, and_self]

theorem State.followStandard_steady {o0 : State} (s : State) (x : StdDefect) (h0 : Steady o0 s) : Steady o0 (State.followStandard s x) := by
  unfold State.followStandard
  simp +contextual (maxDischargeDepth := 60) only [↓Steady.ite, ↓State.setDefect_steady, h0, implies_true, and_self]

theorem State.measureSection_steady {o0 : State} (s : State) (x : HostSm) (h0 : Steady o0 s) : Steady o0 (State.measureSection s x) := by
  unfold State.measureSection
  simp +contextual (maxDischargeDepth := 60) only [↓Steady.ite, ↓Steady.fields, ↓State.setDefect_steady, h0, implies_true, and_self]

theorem State.measureSdh_steady {o0 : State} (s : State) (x : SdhMeas) (h0 : Steady o0 s) : Steady o0 (State.measureSdh s x) := by
  unfold State.measureSdh
  simp +contextual (maxDischargeDepth := 60) only [↓Steady.ite, ↓Steady.fields, h0, implies_true, and_self]

theorem State.measureSpeed_steady {o0 : State} (s : State) (x : Nat × Nat) (h0 : Steady o0 s) : Steady o0 (State.measureSpeed s x) := by
  unfold State.measureSpeed
  simp +contextual (maxDischargeDepth := 60) only [↓Steady.ite, ↓State.setObj_steady, ↓State.withEngine_steady, h0, implies_true, and_self]

theorem State.repeatAlerts_steady {o0 : State} (s : State) (h0 : Steady o0 s) : Steady o0 (State.repeatAlerts s) := by
  unfold State.repeatAlerts
  simp +contextual (maxDischargeDepth := 60) only [↓Steady.foldl, ↓State.withEngine_steady, ↓State.withProt_steady, h0, implies_true]

theorem State.measureTick_steady {o0 : State} (s : State) (w : TickIn) (h0 : Steady o0 s) : Steady o0 (State.measureTick s w) := by
  unfold State.measureTick
  simp +contextual (maxDischargeDepth := 60) only [↓Steady.ite, ↓Steady.foldl, ↓State.calChecks_steady, ↓State.closeFecEpoch_steady, ↓State.countFec_steady, ↓State.followStandard_steady, ↓State.loopDmp_steady, ↓State.measureLane_steady, ↓State.measureOptics_steady, ↓State.measurePath_steady, ↓State.measureSdh_steady, ↓State.measureSection_steady, ↓State.measureSpeed_steady, ↓State.readPage_steady, ↓State.reportPower_steady, ↓State.trackRx_steady, h0, implies_true, and_self]

/-! ## Quemus -/

theorem State.noteRead_steady {o0 : State} (s : State) (k : Key) (count : Nat) (h0 : Steady o0 s) : Steady o0 (State.noteRead s k count) := by
  unfold State.noteRead
  simp +contextual (maxDischargeDepth := 60) only [↓Steady.ite, ↓Steady.fields, h0, implies_true, and_self]

theorem State.deferAnswer_steady {o0 : State} (s : State) (op : Nat) (rq : Rq) (h0 : Steady o0 s) : Steady o0 (State.deferAnswer s op rq).state := by
  unfold State.deferAnswer
  simp +contextual (maxDischargeDepth := 60) only [↓Steady.fields, h0]

theorem serveRead_steady {o0 : State} (rq : Rq) (obj index : Nat) (s : State) (h0 : Steady o0 s) : Steady o0 (serveRead rq obj index s) := by
  unfold serveRead
  try simp +contextual (maxDischargeDepth := 60) only []
  all_goals (repeat' split)
  all_goals (repeat' first | assumption | refine OutSteady.next.mpr ?_ | refine State.atBoundary_steady _ _ ?_ (fun _ _ _ => ?_) | refine Steady.foldl _ _ ?_ (fun _ _ _ => ?_) | refine serve_steady _ _ _ _ _ ?_ (fun _ _ _ => ?_) | split | intro _ | simp +contextual (maxDischargeDepth := 60) only [↓State.deferAnswer_steady, ↓State.noteRead_steady, *])

theorem serveBulkRead_steady {o0 : State} (rq : Rq) (obj first count : Nat) (s : State) (h0 : Steady o0 s) : Steady o0 (serveBulkRead rq obj first count s) := by
  unfold serveBulkRead
  try simp +contextual (maxDischargeDepth := 60) only []
  all_goals (repeat' split)
  all_goals (repeat' first | assumption | refine OutSteady.next.mpr ?_ | refine State.atBoundary_steady _ _ ?_ (fun _ _ _ => ?_) | refine Steady.foldl _ _ ?_ (fun _ _ _ => ?_) | refine serve_steady _ _ _ _ _ ?_ (fun _ _ _ => ?_) | split | intro _ | simp +contextual (maxDischargeDepth := 60) only [↓State.deferAnswer_steady, ↓State.noteRead_steady, *])

theorem serveWriteShadow_steady {o0 : State} (rq : Rq) (obj index generation edits : Nat) (val : Val) (s : State) (h0 : Steady o0 s) : Steady o0 (serveWriteShadow rq obj index generation edits val s) := by
  unfold serveWriteShadow
  try simp +contextual (maxDischargeDepth := 60) only []
  all_goals (repeat' first | assumption | refine OutSteady.next.mpr ?_ | refine State.atBoundary_steady _ _ ?_ (fun _ _ _ => ?_) | refine Steady.foldl _ _ ?_ (fun _ _ _ => ?_) | refine serve_steady _ _ _ _ _ ?_ (fun _ _ _ => ?_) | split | intro _ | simp +contextual (maxDischargeDepth := 60) only [↓acceptShadow_steady, *])

theorem acceptElements_steady {o0 : State} (accept : Accept) (k : Key) (w first : Nat) (vs : List Nat) (s : State) (h0 : Steady o0 s)
    (ha : ∀ k v t, Steady o0 t → Steady o0 (accept k v t).2) : Steady o0 (acceptElements accept k w first vs s).2 := by
  induction vs generalizing s first with
  | nil => exact h0
  | cons v vs ih =>
    unfold acceptElements
    have h1 := ha { k with x := first } ⟨w, v⟩ s h0
    split
    · rename_i t e
      rw [e] at h1; exact ih _ _ h1
    · exact h0


theorem State.healPages_steady {o0 : State} (s : State) (k : Key) (first count : Nat) (h0 : Steady o0 s) : Steady o0 (State.healPages s k first count) := by
  unfold State.healPages
  simp +contextual (maxDischargeDepth := 60) only [↓Steady.ite, ↓Steady.foldl, ↓State.healCt_steady, h0, implies_true, and_self]

theorem State.tableWrite_steady {o0 : State} (s : State) (r : ObjRow) (k : Key) (vs : List Nat) (h0 : Steady o0 s) :
    Steady o0 (State.tableWrite s r k vs).2 := by
  unfold State.tableWrite
  split
  · split
    · exact h0
    · split
      · exact h0
      · exact State.healPages_steady _ _ _ _ (State.editCounted_steady _ (Steady.foldl _ _ h0 fun _ _ h => State.writeShadow_steady _ _ _ h))
  · split
    · have ht := Steady.foldl (vs.zipIdx k.x) (fun (t : State) e => t.stage { k with x := e.2 } e.1) h0 fun _ _ h => State.stage_steady _ _ _ h
      extract_lets t
      split
      · exact ht
      · exact h0
    · have h1 := acceptElements_steady acceptWrite k r.w k.x vs s h0 fun k v t h => acceptWrite_steady k v h
      split
      · rename_i t e
        rw [e] at h1; exact h1
      · exact h0


theorem serveTableWrite_steady {o0 : State} (rq : Rq) (obj first count bytes : Nat) (elements : List Nat) (s : State) (h0 : Steady o0 s) : Steady o0 (serveTableWrite rq obj first count bytes elements s) := by
  unfold serveTableWrite
  try simp +contextual (maxDischargeDepth := 60) only []
  all_goals (repeat' split)
  all_goals (try simp +contextual (maxDischargeDepth := 60) only [↓serve_steady, h0, implies_true])
  all_goals (repeat' first | assumption | refine OutSteady.next.mpr ?_ | refine State.atBoundary_steady _ _ ?_ (fun _ _ _ => ?_) | refine Steady.foldl _ _ ?_ (fun _ _ _ => ?_) | refine serve_steady _ _ _ _ _ ?_ (fun _ _ _ => ?_) | split | intro _ | simp +contextual (maxDischargeDepth := 60) only [↓State.tableWrite_steady, *])

theorem State.toQueue_steady {o0 : State} (s : State) (r : Option EvRec) (dropped : Nat) (h0 : Steady o0 s) : Steady o0 (State.toQueue s r dropped) := by
  unfold State.toQueue
  simp +contextual (maxDischargeDepth := 60) only [↓Steady.ite, ↓Steady.fields, ↓State.irq_steady, ↓State.withBar_steady, h0, implies_true, and_self]

theorem State.toBuffer_steady {o0 : State} (s : State) (k : Nat) (r : Option EvRec) (dropped : Nat) (h0 : Steady o0 s) : Steady o0 (State.toBuffer s k r dropped) := by
  unfold State.toBuffer
  simp +contextual (maxDischargeDepth := 60) only [↓State.setSession_steady, h0]

theorem State.deliverEntry_steady {o0 : State} (s : State) (e : StreamEntry) (h0 : Steady o0 s) : Steady o0 (State.deliverEntry s e) := by
  unfold State.deliverEntry
  simp +contextual (maxDischargeDepth := 60) only [↓Steady.ite, ↓Steady.foldl, ↓State.toBuffer_steady, ↓State.toQueue_steady, h0, implies_true, and_self]

theorem State.fillStream_steady {o0 : State} (s : State) (h0 : Steady o0 s) : Steady o0 (State.fillStream s) := by
  unfold State.fillStream
  try simp +contextual (maxDischargeDepth := 60) only []
  all_goals (repeat' first | assumption | refine OutSteady.next.mpr ?_ | refine State.atBoundary_steady _ _ ?_ (fun _ _ _ => ?_) | refine Steady.foldl _ _ ?_ (fun _ _ _ => ?_) | refine serve_steady _ _ _ _ _ ?_ (fun _ _ _ => ?_) | split | intro _ | simp +contextual (maxDischargeDepth := 60) only [↓Steady.fields, ↓State.bump_steady, *])

theorem State.deliverEvents_steady {o0 : State} (s : State) (h0 : Steady o0 s) : Steady o0 (State.deliverEvents s) := by
  unfold State.deliverEvents
  simp +contextual (maxDischargeDepth := 60) only [↓Steady.ite, ↓Steady.fields, ↓Steady.foldl, ↓State.deliverEntry_steady, h0, implies_true, and_self]

theorem State.subscribe_steady {o0 : State} (s : State) (k : Nat) (codes : List Nat) (h0 : Steady o0 s) : Steady o0 (State.subscribe s k codes).2 := by
  unfold State.subscribe
  try simp +contextual (maxDischargeDepth := 60) only [↓Steady.snd_ite, h0, implies_true, true_and]
  all_goals (repeat' first | assumption | refine OutSteady.next.mpr ?_ | refine State.atBoundary_steady _ _ ?_ (fun _ _ _ => ?_) | refine Steady.foldl _ _ ?_ (fun _ _ _ => ?_) | refine serve_steady _ _ _ _ _ ?_ (fun _ _ _ => ?_) | split | intro _ | simp +contextual (maxDischargeDepth := 60) only [↓State.setObj_steady, *])

theorem State.unsubscribe_steady {o0 : State} (s : State) (k : Nat) (codes : List Nat) (h0 : Steady o0 s) : Steady o0 (State.unsubscribe s k codes) := by
  unfold State.unsubscribe
  simp +contextual (maxDischargeDepth := 60) only [↓Steady.ite, ↓Steady.foldl, ↓State.setObj_steady, h0, implies_true, and_self]

theorem serveDigestWalk_steady {o0 : State} (rq : Rq) (target copy level first count : Nat) (s : State) (h0 : Steady o0 s) : Steady o0 (serveDigestWalk rq target copy level first count s) := by
  unfold serveDigestWalk
  simp +contextual (maxDischargeDepth := 60) only []
  repeat' split
  all_goals simp +contextual (maxDischargeDepth := 60) only [↓serve_steady, h0, implies_true]

theorem State.answerSummaries_steady {o0 : State} (s : State) (h0 : Steady o0 s) : Steady o0 (State.answerSummaries s) := by
  unfold State.answerSummaries
  simp +contextual (maxDischargeDepth := 60) only [↓Steady.fields, ↓Steady.foldl, ↓State.deliver_steady, h0, implies_true]

theorem State.openSession_steady {o0 : State} (s : State) (rq : Rq) (r : OpenRequest) (h0 : Steady o0 s) : Steady o0 (State.openSession s rq r).state := by
  unfold State.openSession
  simp +contextual (maxDischargeDepth := 60) only []
  repeat' split
  all_goals simp +contextual (maxDischargeDepth := 60) only [↓Steady.fields, ↓State.raise_steady, ↓State.setObj_steady, ↓State.setSession_steady, h0]

theorem State.barWrite_steady {o0 : State} (s : State) (offset v : Nat) (h0 : Steady o0 s) : Steady o0 (State.barWrite s offset v) := by
  unfold State.barWrite
  simp +contextual (maxDischargeDepth := 60) only [↓State.withBar_steady, h0]

theorem execRead_steady {o0 : State} (rq : Rq) (obj index : Nat) (s : State) (h0 : Steady o0 s) : OutSteady o0 (execRead rq obj index s) := by
  unfold execRead
  simp +contextual (maxDischargeDepth := 60) only [OutSteady.next, ↓serveRead_steady, h0]

theorem execWrite_steady {o0 : State} (rq : Rq) (obj index : Nat) (val : Val) (s : State) (h0 : Steady o0 s) : OutSteady o0 (execWrite rq obj index val s) := by
  unfold execWrite
  simp +contextual (maxDischargeDepth := 60) only [OutSteady.next, ↓serveAnyWrite_steady, h0]

theorem execWriteShadow_steady {o0 : State} (rq : Rq) (obj index generation edits : Nat) (val : Val) (s : State) (h0 : Steady o0 s) : OutSteady o0 (execWriteShadow rq obj index generation edits val s) := by
  unfold execWriteShadow
  simp +contextual (maxDischargeDepth := 60) only [OutSteady.next, ↓serveWriteShadow_steady, h0]

theorem execBulkRead_steady {o0 : State} (rq : Rq) (obj first count : Nat) (s : State) (h0 : Steady o0 s) : OutSteady o0 (execBulkRead rq obj first count s) := by
  unfold execBulkRead
  simp +contextual (maxDischargeDepth := 60) only [OutSteady.next, ↓serveBulkRead_steady, h0]

theorem execTableWrite_steady {o0 : State} (rq : Rq) (obj first count bytes : Nat) (elements : List Nat) (s : State) (h0 : Steady o0 s) : OutSteady o0 (execTableWrite rq obj first count bytes elements s) := by
  unfold execTableWrite
  simp +contextual (maxDischargeDepth := 60) only [OutSteady.next, ↓serveTableWrite_steady, h0]

theorem execSubscribeAdd_steady {o0 : State} (rq : Rq) (codes : List Nat) (s : State) (h0 : Steady o0 s) : OutSteady o0 (execSubscribeAdd rq codes s) := by
  unfold execSubscribeAdd
  repeat' split
  all_goals simp +contextual (maxDischargeDepth := 60) only [OutSteady.next, ↓serve_steady, ↓State.subscribe_steady, h0, implies_true]

theorem execSubscribeRemove_steady {o0 : State} (rq : Rq) (codes : List Nat) (s : State) (h0 : Steady o0 s) : OutSteady o0 (execSubscribeRemove rq codes s) := by
  unfold execSubscribeRemove
  repeat' split
  all_goals simp +contextual (maxDischargeDepth := 60) only [OutSteady.next, ↓serve_steady, ↓State.unsubscribe_steady, h0, implies_true]

theorem execSubscribeFetch_steady {o0 : State} (rq : Rq) (count : Nat) (s : State) (h0 : Steady o0 s) : OutSteady o0 (execSubscribeFetch rq count s) := by
  unfold execSubscribeFetch
  try simp +contextual (maxDischargeDepth := 60) only [OutSteady.next]
  all_goals (repeat' first | assumption | refine OutSteady.next.mpr ?_ | refine State.atBoundary_steady _ _ ?_ (fun _ _ _ => ?_) | refine Steady.foldl _ _ ?_ (fun _ _ _ => ?_) | refine serve_steady _ _ _ _ _ ?_ (fun _ _ _ => ?_) | split | intro _ | simp +contextual (maxDischargeDepth := 60) only [↓State.setSession_steady, *])

theorem execResync_steady {o0 : State} (rq : Rq) (s : State) (h0 : Steady o0 s) : OutSteady o0 (execResync rq s) := by
  unfold execResync
  simp +contextual (maxDischargeDepth := 60) only [OutSteady.next, ↓State.deferAnswer_steady, ↓serve_steady, h0, implies_true]

theorem execDigestWalk_steady {o0 : State} (rq : Rq) (target copy level first count : Nat) (s : State) (h0 : Steady o0 s) : OutSteady o0 (execDigestWalk rq target copy level first count s) := by
  unfold execDigestWalk
  simp +contextual (maxDischargeDepth := 60) only [OutSteady.next, ↓serveDigestWalk_steady, h0]

theorem execSessionOpen_steady {o0 : State} (rq : Rq) (request : OpenRequest) (s : State) (h0 : Steady o0 s) : OutSteady o0 (execSessionOpen rq request s) := by
  unfold execSessionOpen
  simp +contextual (maxDischargeDepth := 60) only [OutSteady.next, ↓State.openSession_steady, ↓serve_steady, h0, implies_true]

theorem execSessionClose_steady {o0 : State} (rq : Rq) (s : State) (h0 : Steady o0 s) : OutSteady o0 (execSessionClose rq s) := by
  unfold execSessionClose
  repeat' split
  all_goals simp +contextual (maxDischargeDepth := 60) only [OutSteady.next, ↓State.closeSession_steady, ↓serve_steady, h0, implies_true]

theorem execSessionIdleClose_steady {o0 : State} (k : Fin 16) (s : State) (h0 : Steady o0 s) : OutSteady o0 (execSessionIdleClose k s) := by
  unfold execSessionIdleClose
  simp +contextual (maxDischargeDepth := 60) only [↓Steady.ite, OutSteady.next, ↓State.closeSession_steady, h0, implies_true, and_self]

theorem execNextChunk_steady {o0 : State} (s : State) (h0 : Steady o0 s) : OutSteady o0 (execNextChunk s) := by
  unfold execNextChunk
  simp +contextual (maxDischargeDepth := 60) only [↓OutSteady.ite, OutSteady.next, ↓State.irq_steady, ↓State.withBar_steady, h0, implies_true, and_self]

theorem execAbandonChunks_steady {o0 : State} (s : State) (h0 : Steady o0 s) : OutSteady o0 (execAbandonChunks s) := by
  unfold execAbandonChunks
  simp +contextual (maxDischargeDepth := 60) only [↓OutSteady.ite, OutSteady.next, ↓State.withBar_steady, h0, implies_true, and_self]

theorem execEvqCtlWrite_steady {o0 : State} (v base size : Nat) (s : State) (h0 : Steady o0 s) : OutSteady o0 (execEvqCtlWrite v base size s) := by
  unfold execEvqCtlWrite
  simp +contextual (maxDischargeDepth := 60) only [↓OutSteady.ite, OutSteady.next, ↓Steady.fields, ↓State.withBar_steady, h0, implies_true, and_self]

end Sys2Proof.Machine
end

