-- ==== Sys2Proof/Laws/SteadyBoundary.lean ====
section
/-! SUPPORT. What work within one tick keeps, one lemma per operation and command: the tick boundary and what ends in a reset. -/

namespace Sys2Proof.Machine

/-! ## Boundary -/

theorem State.endTickOverrun_steady {o0 : State} (s : State) (h0 : Steady o0 s) : Steady o0 (State.endTickOverrun s) := by
  unfold State.endTickOverrun
  repeat' split
  all_goals simp +contextual (maxDischargeDepth := 60) only [↓Steady.fields, ↓State.clear_steady, h0]

theorem State.noteFlags_steady {o0 : State} (s : State) (h0 : Steady o0 s) : Steady o0 (State.noteFlags s) := by
  unfold State.noteFlags
  simp +contextual (maxDischargeDepth := 60) only [↓State.withProt_steady, h0]

theorem State.endTick_steady {o0 : State} (s : State) (h0 : Steady o0 s) : Steady o0 (State.endTick s) := by
  unfold State.endTick
  simp +contextual (maxDischargeDepth := 60) only [↓Steady.ite, ↓Steady.foldl, ↓State.dumpRecord_steady, ↓State.endTickLof_steady, ↓State.endTickOverrun_steady, ↓State.enterValid_steady, ↓State.failBond_steady, ↓State.fillStream_steady, ↓State.ingressStage_steady, ↓State.loupeScan_steady, ↓State.missingCells_steady, ↓State.noteFlags_steady, ↓State.occurrences_steady, ↓State.passFrames_steady, h0, implies_true, and_self]

theorem State.closeTick_steady {o0 : State} (s : State) (h0 : Steady o0 s) : Steady o0 (State.closeTick s) := by
  unfold State.closeTick
  simp +contextual (maxDischargeDepth := 60) only [↓Steady.ite, ↓Steady.fields, ↓State.endTick_steady, h0, implies_true, and_self]

theorem State.comingPart_steady {o0 : State} (s : State) (due : State → Bool) (f : State → State) (h0 : Steady o0 s)
    (hf : ∀ q t, Steady q t → Steady q (f t)) : Steady o0 (State.comingPart s due f) := by
  unfold State.comingPart
  exact Steady.ite.2 ⟨fun _ => State.atBoundary_steady _ _ (State.closeTick_steady _ h0) hf, fun _ => h0⟩

theorem State.takeSnapshot_steady {o0 : State} (s : State) (h0 : Steady o0 s) : Steady o0 (State.takeSnapshot s) := by
  unfold State.takeSnapshot
  simp +contextual (maxDischargeDepth := 60) only [↓State.withProt_steady, h0]

theorem State.switchReferences_steady {o0 : State} (s : State) (choices : List (Option (Option Nat))) (xs : List DpllIn) (h0 : Steady o0 s) :
    Steady o0 (State.switchReferences s choices xs) := by
  unfold State.switchReferences
  refine Steady.foldl _ _ h0 fun t d ht => ?_
  extract_lets change
  split <;> exact State.makeSwitch_steady _ _ _ _ _ ht

theorem State.boundaryFollows_steady {o0 : State} (s : State) (w : TickIn) (h0 : Steady o0 s) : Steady o0 (State.boundaryFollows s w) := by
  unfold State.boundaryFollows
  simp +contextual (maxDischargeDepth := 60) only []
  repeat' split
  all_goals simp +contextual (maxDischargeDepth := 60) only [↓State.compileEnd_steady, ↓State.copyEngine_steady, ↓State.fenceSlices_steady, ↓State.keysProceed_steady, ↓State.pageDeadlines_steady, ↓State.powerBoundary_steady, ↓State.quiescentBoundary_steady, ↓State.refreshStm_steady, ↓State.rejoinSlices_steady, ↓State.rollbackEnd_steady, ↓State.swapTransmit_steady, ↓State.syncEnd_steady, ↓State.withSec_steady, h0]

theorem State.injectionBoundary_steady {o0 : State} (s : State) (h0 : Steady o0 s) : Steady o0 (State.injectionBoundary s) := by
  unfold State.injectionBoundary
  simp +contextual (maxDischargeDepth := 60) only [↓Steady.foldl, ↓State.injectionTimers_steady, ↓State.leak_steady, ↓State.occurrences_steady, ↓State.withInject_steady, h0, implies_true]

theorem State.prismStage_steady {o0 : State} (s : State) (w : TickIn) (h0 : Steady o0 s) : Steady o0 (State.prismStage s w) := by
  unfold State.prismStage
  simp +contextual (maxDischargeDepth := 60) only [↓Steady.ite, ↓State.egressStage_steady, ↓State.fetchStage_steady, ↓State.openHalf_steady, ↓State.readStage_steady, ↓State.withInject_steady, ↓State.withPrism_steady, h0, implies_true, and_self]

theorem State.transmitStage_steady {o0 : State} (s : State) (h0 : Steady o0 s) : Steady o0 (State.transmitStage s) := by
  unfold State.transmitStage
  simp +contextual (maxDischargeDepth := 60) only [↓State.answersSent_steady, ↓State.hostTransmit_steady, ↓State.prepareAps_steady, ↓State.prepareSlotMoves_steady, ↓State.sendCells_steady, ↓State.transmitLines_steady, h0]

theorem State.protectionStage_steady {o0 : State} (s : State) (bus : Map Nat) (h0 : Steady o0 s) : Steady o0 (State.protectionStage s bus) := by
  unfold State.protectionStage
  simp +contextual (maxDischargeDepth := 60) only [↓Steady.ite, ↓Steady.foldl, ↓State.evaluate_steady, ↓State.exportRecords_steady, ↓State.refreshFffTx_steady, ↓State.remoteCheck_steady, ↓State.withProt_steady, h0, implies_true, and_self]

theorem State.trafficStage_steady {o0 : State} (s : State) (w : TickIn) (bus : Map Nat) (h0 : Steady o0 s) : Steady o0 (State.trafficStage s w bus) := by
  unfold State.trafficStage
  simp +contextual (maxDischargeDepth := 60) only [↓Steady.ite, ↓State.loupeStage_steady, ↓State.markDefects_steady, ↓State.mergeStage_steady, h0, implies_true, and_self]

theorem State.housekeeping_steady {o0 : State} (s : State) (h0 : Steady o0 s) : Steady o0 (State.housekeeping s) := by
  unfold State.housekeeping
  simp +contextual (maxDischargeDepth := 60) only [↓Steady.foldl, ↓State.endSeq_steady, ↓State.periodTrigger_steady, h0, implies_true]

theorem State.boundaryActions_keeps (s : State) (w : TickIn) : (State.boundaryActions s w).pending = s.pending ∧
    (State.boundaryActions s w).now = s.now + 1 ∧ (Canonical s → Canonical (State.boundaryActions s w)) := by
  unfold State.boundaryActions
  have h0 : Steady { s with now := s.now + 1, tick := s.nextTick, counted := false } { s with now := s.now + 1, tick := s.nextTick, counted := false } := Steady.rfl
  have h := State.switchReferences_steady _ s.dpChoices w.dplls (State.commits_steady _ (Steady.foldl (List.range 4) State.startLol (State.takeSnapshot_steady _
    (State.abandonSwap_steady _ (State.swapBoundary_steady _ (State.applyLoad_steady _ h0)))) fun t e g => State.startLol_steady t e g))
  exact ⟨h.pending, h.now, h.canonical⟩

theorem State.timeStage_steady {o0 : State} (s : State) (h0 : Steady o0 s) : Steady o0 (State.timeStage s) := by
  unfold State.timeStage
  simp +contextual (maxDischargeDepth := 60) only [↓Steady.foldl, ↓State.dispatchWords_steady, ↓State.refreshFec_steady, h0, implies_true]

theorem State.windowsEnd_steady {o0 : State} (s : State) (xs : List SdWindow) (h0 : Steady o0 s) : Steady o0 (State.windowsEnd s xs) := by
  unfold State.windowsEnd
  simp +contextual (maxDischargeDepth := 60) only [↓Steady.foldl, ↓State.sdEnd_steady, h0, implies_true]

theorem State.secondStage_steady {o0 : State} (s : State) (w : TickIn) (h0 : Steady o0 s) : Steady o0 (State.secondStage s w) := by
  unfold State.secondStage
  simp +contextual (maxDischargeDepth := 60) only [↓Steady.ite, ↓Steady.foldl, ↓State.pmClose_steady, ↓State.pmSecond_steady, ↓State.ppsContinue_steady, ↓State.rollSecond_steady, ↓State.storeSecond_steady, ↓State.todAlign_steady, ↓State.windowsEnd_steady, ↓State.withTiming_steady, h0, implies_true, and_self]

theorem State.complexStage_steady {o0 : State} (s : State) (w : TickIn) (h0 : Steady o0 s) : Steady o0 (State.complexStage s w) := by
  unfold State.complexStage
  simp +contextual (maxDischargeDepth := 60) only [↓Steady.ite, ↓Steady.foldl, ↓State.barWrite_steady, ↓State.busTick_steady, ↓State.complexChannels_steady, ↓State.feedKeys_steady, ↓State.perfCount_steady, ↓State.receiveKeys_steady, ↓State.setObj_steady, h0, implies_true, and_self]

theorem State.beginTick_steady {o0 : State} (s : State) (w : TickIn) (bus : Map Nat) (h0 : Steady o0 s) : Steady o0 (State.beginTick s w bus) := by
  unfold State.beginTick
  simp +contextual (maxDischargeDepth := 60) only [↓State.answerSummaries_steady, ↓State.checkTags_steady, ↓State.complexStage_steady, ↓State.deliverEvents_steady, ↓State.housekeeping_steady, ↓State.injectionBoundary_steady, ↓State.measureTick_steady, ↓State.prismStage_steady, ↓State.protectionStage_steady, ↓State.repeatAlerts_steady, ↓State.ringBoundary_steady, ↓State.secondStage_steady, ↓State.sendLevels_steady, ↓State.timeStage_steady, ↓State.trafficStage_steady, ↓State.transmitStage_steady, h0]

theorem execTickCounterLoad_steady {o0 : State} (s : State) (h0 : Steady o0 s) : OutSteady o0 (execTickCounterLoad s) := by
  unfold execTickCounterLoad
  extract_lets c t
  have hc := State.closeTick_steady s h0
  have ht := State.applyLoad_steady { c with now := c.now + 1, tick := c.nextTick } Steady.rfl
  refine OutSteady.ite.2 ⟨fun _ => OutSteady.next.2 h0, fun _ => OutSteady.next.2 ⟨ht.pending.trans hc.pending, hc.now, fun k => ?_⟩⟩
  exact ht.canonical (hc.canonical k)

theorem execBondApply_steady {o0 : State} (s : State) (h0 : Steady o0 s) : OutSteady o0 (execBondApply s) :=
  OutSteady.next.2 (State.comingPart_steady s _ _ h0 fun _ t h => State.runDue_steady t _ _ h fun d t h => runBond_steady d h)

theorem execModeCommit_steady {o0 : State} (s : State) (h0 : Steady o0 s) : OutSteady o0 (execModeCommit s) :=
  OutSteady.next.2 (State.comingPart_steady s _ _ h0 fun _ t h => State.commitModes_steady t h)

theorem execSingleObjectCommit_steady {o0 : State} (s : State) (h0 : Steady o0 s) : OutSteady o0 (execSingleObjectCommit s) :=
  OutSteady.next.2 (State.comingPart_steady s _ _ h0 fun _ t h => State.commitObjects_steady t h)

theorem execSwapTakeEffect_steady {o0 : State} (s : State) (h0 : Steady o0 s) : OutSteady o0 (execSwapTakeEffect s) :=
  OutSteady.next.2 (State.comingPart_steady s _ _ h0 fun _ t h => State.swapBoundary_steady t h)

theorem execPmSecond_steady {o0 : State} (counts : List PmCount) (s : State) (h0 : Steady o0 s) : OutSteady o0 (execPmSecond counts s) :=
  OutSteady.next.2 (State.comingPart_steady s _ _ h0 fun _ t h => State.pmSecond_steady t counts h)

theorem execPmSdWindow_steady {o0 : State} (w : SdWindow) (s : State) (h0 : Steady o0 s) : OutSteady o0 (execPmSdWindow w s) :=
  OutSteady.next.2 (State.comingPart_steady s _ _ h0 fun _ t h => State.sdEnd_steady t _ _ h)

/-! ## Resets, the end of the boot and whole boundaries -/

/-- `t` comes from `s` by work that may end ticks: the queue is that of `s`, and canonical stores stay canonical. -/
structure Keeps (s t : State) : Prop where
  pending : t.pending = s.pending
  canonical : Canonical s → Canonical t

theorem Keeps.rfl {s : State} : Keeps s s := ⟨Eq.refl _, id⟩

theorem Steady.keeps {s t : State} (h : Steady s t) : Keeps s t := ⟨h.pending, h.canonical⟩

theorem Keeps.steady {r s t : State} (h : Keeps r s) (g : Steady s t) : Keeps r t :=
  ⟨g.pending.trans h.pending, fun c => g.canonical (h.canonical c)⟩

/-- An update that leaves the queue and the four stores alone. -/
theorem Keeps.congr {r s t : State} (h : Keeps r s) (hp : t.pending = s.pending) (hr : t.reg = s.reg) (ha : t.act = s.act)
    (hs : t.shd = s.shd) (hd : t.defects = s.defects) : Keeps r t :=
  ⟨hp.trans h.pending, fun c => by
    have := h.canonical c; simpa only [Canonical, hr, ha, hs, hd] using this⟩

/-- A command completes, and what it leads to keeps the queue and the canonical form. -/
def OutKeeps (r : State) (o : Out) : Prop := ∃ t, o = .next t ∧ Keeps r t

theorem OutSteady.keeps {r : State} {o : Out} (h : OutSteady r o) : OutKeeps r o :=
  let ⟨t, e, g⟩ := h
  ⟨t, e, g.keeps⟩

theorem OutKeeps.next {r t : State} (h : Keeps r t) : OutKeeps r (.next t) := ⟨t, Eq.refl _, h⟩

theorem OutKeeps.ite {r : State} {a b : Out} {c : Prop} [Decidable c] (ha : OutKeeps r a) (hb : OutKeeps r b) :
    OutKeeps r (if c then a else b) := by
  split <;> assumption

/-- A reset starts over from canonical stores; what waits goes on waiting. -/
theorem State.deviceReset_keeps (s : State) (cause held : Nat) : Keeps s (s.deviceReset cause held) := by
  unfold State.deviceReset
  extract_lets otp slot src bar t u
  have ht : Keeps s t := ⟨Eq.refl _, fun _ => ⟨Eq.refl true, Eq.refl true, Eq.refl true, Eq.refl true⟩⟩
  have hu : Steady t u := Steady.foldl _ _ Steady.rfl fun u k h => State.setObj_steady _ _ _ h
  split
  · exact (ht.steady hu).steady (State.raise_steady _ _ _ Steady.rfl)
  · exact ht.steady hu

theorem State.startTicks_keeps (s : State) : Keeps s s.startTicks := by
  have h := (State.railsUp_steady s Steady.rfl).keeps
  unfold State.startTicks
  generalize s.railsUp = r at h
  exact h.congr (Eq.refl _) (Eq.refl _) (Eq.refl _) (Eq.refl _) (Eq.refl _)

theorem State.bootClocks_keeps (s : State) (x : BootEnd) : Keeps s (s.bootClocks x) := by
  unfold State.bootClocks
  split
  · exact Keeps.rfl
  · have h := s.startTicks_keeps
    generalize s.startTicks = t at h
    exact h.congr (Eq.refl _) (Eq.refl _) (Eq.refl _) (Eq.refl _) (Eq.refl _)

theorem State.finishBoot_keeps (s : State) (x : BootEnd) : Keeps s (s.finishBoot x) :=
  (s.bootClocks_keeps x).steady (State.bootDone_steady _ x.hbm Steady.rfl)

theorem State.quiescentAck_keeps (s : State) : Keeps s s.quiescentAck := by
  unfold State.quiescentAck
  split
  · split
    · exact Keeps.rfl.congr (Eq.refl _) (Eq.refl _) (Eq.refl _) (Eq.refl _) (Eq.refl _)
    · exact Keeps.rfl
  · extract_lets on
    split
    · exact Keeps.rfl
    · split
      · exact (s.deviceReset_keeps 6 0).steady (State.bootRom_steady _ Steady.rfl)
      · exact (Steady.foldl _ _ Steady.rfl fun t r h => Steady.ite.2 ⟨fun _ => State.setRequest_steady _ _ _ h, fun _ => h⟩).keeps
  · exact Keeps.rfl

/-- A boundary elapses one tick. -/
theorem State.boundary_now (s : State) (w : TickIn) : (s.boundary w).now = s.now + 1 ∧ Keeps s (s.boundary w) := by
  unfold State.boundary
  extract_lets ended opened
  have he : Steady s { ended with closed := none } := (State.closeTick_steady _ Steady.rfl).fields
  have ho := State.boundaryActions_keeps { ended with closed := none } w
  have hb : Steady opened ((opened.boundaryFollows w).beginTick w (ended.closed.getD [])) :=
    State.beginTick_steady _ _ _ (State.boundaryFollows_steady _ _ Steady.rfl)
  have hk : Keeps s opened := ⟨ho.1.trans he.pending, fun c => ho.2.2 (he.canonical c)⟩
  exact ⟨hb.now.trans (ho.2.1.trans (congrArg (· + 1) he.now)), hk.steady hb⟩

theorem execTickBoundary_keeps (w : TickIn) (s : State) : OutKeeps s (execTickBoundary w s) := by
  unfold execTickBoundary
  exact OutKeeps.ite (OutKeeps.next (s.boundary_now w).2)
    (OutKeeps.ite (OutKeeps.next (s.startTicks_keeps.steady (State.beginTick_steady _ _ _ Steady.rfl))) <| OutKeeps.ite (OutKeeps.next (Steady.foldl _ _ Steady.rfl fun t x h => State.barWrite_steady _ _ _ h).keeps) (OutKeeps.next Keeps.rfl))

theorem execCorePllUnlock_keeps (s : State) : OutKeeps s (execCorePllUnlock s) := by
  unfold execCorePllUnlock
  have h : Keeps s { s with pllLatch := true, mc := { s.mc with pllTick := s.tick } } :=
    Keeps.rfl.congr (Eq.refl _) (Eq.refl _) (Eq.refl _) (Eq.refl _) (Eq.refl _)
  have g := ({ s with pllLatch := true, mc := { s.mc with pllTick := s.tick } } : State).deviceReset_keeps 2 0
  have k : Keeps s (({ s with pllLatch := true, mc := { s.mc with pllTick := s.tick } } : State).deviceReset 2 0) :=
    ⟨g.pending.trans h.pending, fun c => g.canonical (h.canonical c)⟩
  exact OutKeeps.ite (OutKeeps.next (k.steady (State.bootRom_steady _ Steady.rfl))) (OutKeeps.next Keeps.rfl)

theorem execPorstNAssert_keeps (s : State) : OutKeeps s (execPorstNAssert s) := OutKeeps.next (s.deviceReset_keeps 1 1)

theorem execBootReady_keeps (ending : BootEnd) (s : State) : OutKeeps s (execBootReady ending s) := by
  unfold execBootReady
  refine OutKeeps.ite (OutKeeps.next Keeps.rfl) (OutKeeps.ite (OutKeeps.next (s.finishBoot_keeps ending)) ?_)
  extract_lets u t
  have hu : Keeps s u := by
    show Keeps s (if _ then _ else _)
    split
    · exact s.bootClocks_keeps ending
    · exact Keeps.rfl
  have ht : Keeps s t := hu.steady (State.setBoot_steady _ _ _ _ (State.withMc_steady _ _ Steady.rfl))
  clear_value t
  refine OutKeeps.next (ht.steady ?_)
  exact Steady.ite.2 ⟨fun _ => State.raise_steady _ _ _ (State.setObj_steady _ _ _ Steady.rfl), fun _ => Steady.rfl⟩

theorem execSupplyReset_keeps (rail : Fin 12) (voltage samples : Nat) (s : State) : OutKeeps s (execSupplyReset rail voltage samples s) := by
  unfold execSupplyReset
  exact OutKeeps.ite (OutKeeps.next (s.deviceReset_keeps 3 2)) (OutKeeps.next Keeps.rfl)

theorem execRegulatorAck_keeps (rail : Fin 12) (s : State) : OutKeeps s (execRegulatorAck rail s) := by
  unfold execRegulatorAck
  split
  · exact OutKeeps.next Keeps.rfl
  · extract_lets t warned u v
    have ht : Steady s t := State.setFailed_steady _ _ _ (State.setRequest_steady _ _ _ Steady.rfl)
    have hu : Steady s u := State.setObj_steady _ _ _ (Steady.ite.2 ⟨fun _ => ht, fun _ => State.setObj_steady _ _ _ ht⟩)
    have hv : Steady s v := Steady.ite.2 ⟨fun _ => hu, fun _ => Steady.ite.2
      ⟨fun _ => Steady.foldl _ _ hu fun v d h => State.withDom_steady _ _ _ h, fun _ => State.sendRaise_steady _ hu⟩⟩
    have hv := State.nextRamp_steady _ hv
    have g := v.nextRamp.quiescentAck_keeps
    exact OutKeeps.next ⟨g.pending.trans hv.pending, fun c => g.canonical (hv.canonical c)⟩

end Sys2Proof.Machine
end

