-- ==== Sys2Proof/Tests/Slice0.lean ====
section
/-! SUPPORT. Tests of single commands: for every obligation a state and operands that meet the hypotheses of each of its clauses, at the
boundary values of their ranges, with what the rules give there (the values are worked out from the rules of the spec, not taken from the
model); and for every check of well-formed operands a term that it refuses. The block has no words of its own to decode (log entry 1). -/

open Sys2Proof Sys2Proof.Machine

/-! ## What the tests share -/

namespace Sys2Proof.Tests

set_option Elab.async false

/-- READY with ticks running, after reset: session slot 0 holds session 7 of the Security Officer, opened over PCIe. -/
def up : State :=
  ((({ State.reset with running := true, bar := { ({} : Bar0) with bootState := 3 }, now := 100, tick := 100 } : State).setObj
    (Obj.QM_SESSIONS 0) (2 ^ 31 + 3 * 2 ^ 29)).setSession 0 { id := 7 })

/-- A request of session 7, and who sends it. -/
def rq : Rq := { session := 7 }
def so : Sender := ⟨3, some 0⟩

/-- The hypotheses `Served` and `Accepted` as checks. -/
def servedB (op m : Nat) (r : Rq) (x : Sender) (s : State) : Bool :=
  s.alive && !(decide (r.slot = none) && s.bar.own) && s.ready && decide (r.ver = 1) && decide (s.sender r op = some x) && decide (m ≤ x.role) &&
    (objectOp op || r.lenOk)

def acceptedB (r : Rq) (x : Sender) (k : Key) (val v : Val) (s : State) : Bool :=
  servedB Op.write 1 r x s && (match checkWrite x.role .write k val with
    | .ok y => decide (y.2 = v)
    | .error _ => false)

theorem served_of_check {op m : Nat} {r : Rq} {x : Sender} {s : State} (h : servedB op m r x s = true) : Served op m r x s := by
  simp only [servedB, Bool.and_eq_true, Bool.or_eq_true, Bool.not_eq_true', Bool.and_eq_false_iff, decide_eq_true_eq, decide_eq_false_iff_not] at h
  obtain ⟨⟨⟨⟨⟨⟨a, b⟩, c⟩, d⟩, e⟩, f⟩, g⟩ := h
  refine ⟨a, ?_, c, d, e, f, g⟩
  rintro ⟨p, q⟩
  rcases b with b | b
  · exact b p
  · simp [q] at b

theorem accepted_of_check {r : Rq} {x : Sender} {k : Key} {val v : Val} {s : State} (h : acceptedB r x k val v s = true) :
    Accepted r x k val v s := by
  simp only [acceptedB, Bool.and_eq_true] at h
  refine ⟨served_of_check h.1, ?_⟩
  have := h.2
  split at this
  · rename_i y hy
    exact ⟨y.1, by rw [hy]; simp only [decide_eq_true_eq] at this; rw [← this]⟩
  · cases this

/-- A write of `v`, of `n` bytes, to an object is accepted from session 7. -/
def ok (k : Key) (n v : Nat) (s : State) : Bool := acceptedB rq so k ⟨n, v⟩ ⟨n, v⟩ s

/-- A command answers a next state of which `p` holds. -/
def gives (c : Instr) (s : State) (p : State → Bool) : Bool :=
  match exec c s with
  | .next t => p t
  | _ => false

/-- The status a request is answered with. -/
def answers (n : Nat) (t : State) : Bool := decide (t.bar.response.map Response.status = some n)

/-- The firmware runs, and the clocks are not switched yet. -/
def starting : State :=
  { State.reset with bar := { ({} : Bar0) with bootState := 2 }, mc := { ({} : Mc) with held := 0, remap := true, running := some ⟨1, 0⟩ } }

/-- A state that a command leaves as it is. -/
def same (s t : State) : Bool := decide (t = s)

/-- The number of an object (R413). -/
def num (k : Key) : Nat := k.c * 2 ^ 24 + k.i * 2 ^ 8 + k.m

/-- What the checks of a test come to. -/
abbrev Checks (bs : List Bool) : Prop := bs.all id = true
/-! ## Witnesses for the statements: states and operands that meet their hypotheses, and what comes of them -/

/-- RequestsTurnedAway: each check fails alone. -/
theorem test_RequestsTurnedAway : Checks [
  decide (requestOf (.resync rq) = some (rq, Op.resync, 0)) &&
    gives (.resync rq) (up.withMc fun m => { m with held := 2 }) (same (up.withMc fun m => { m with held := 2 })),
  gives (.resync rq) (up.withBar fun b => { b with own := true }) (fun t => t.bar.ovr && t.bar.own),
  gives (.resync rq) (up.withBar fun b => { b with bootState := 2 }) (answers 1),
  gives (.resync { rq with ver := 2 }) up (fun t => answers 5 t && decide (t.obj Obj.QM_REQ_COUNT = 1)),
  decide (up.sender { rq with session := 9 } Op.resync = none) && gives (.resync { rq with session := 9 }) up (answers 2),
  decide (requestOf (.shdRevert rq) = some (rq, Op.write, 1)) && gives (.shdRevert rq) (up.setObj (Obj.QM_SESSIONS 0) (2 ^ 31)) (answers 2)] := by
  decide +kernel

/-- WritesAreCheckedInOrder: NO_OBJECT, TYPE, DENIED, RANGE by value and by index. -/
theorem test_WritesAreCheckedInOrder : Checks [
  servedB Op.write 1 rq so up && decide (writeOf (.write rq 0xFF000000 0 ⟨2, 0⟩) = some (rq, objKey 0xFF000000 0, ⟨2, 0⟩)),
  gives (.write rq 0xFF000000 0 ⟨2, 0⟩) up (answers 3),
  gives (.tbBondCfgWrite rq ⟨3, 0⟩) up (answers 4),
  gives (.fiSlotWrite rq 0 ⟨16, 0⟩) (up.setObj (Obj.QM_SESSIONS 0) (2 ^ 31 + 2 ^ 29)) (answers 2),
  gives (.tbBondCfgWrite rq ⟨2, 5⟩) up (answers 5),
  gives (.write rq (num Obj.TB_BOND_CFG) 1 ⟨2, 1⟩) up (answers 5)] := by
  decide +kernel

/-- ReadsAnswerTheValue: READ, BULK_READ, RESYNC, and the hypotheses of DIGEST_WALK. -/
theorem test_ReadsAnswerTheValue : Checks [
  servedB Op.read 0 rq so up && gives (.read rq (num Obj.TB_TICK) 0) up (fun t => answers 0 t &&
    decide (t.bar.response.map Response.payload = some [⟨1, 4⟩, ⟨1, 0⟩, ⟨8, 100⟩])),
  servedB Op.bulkRead 0 rq so up && gives (.bulkRead rq (num (Obj.TB_OVR_COUNT 0)) 8 2) up
    (fun t => decide (t.bar.response.map Response.payload = some [⟨4, 8⟩, ⟨8, 0⟩, ⟨8, 0⟩])),
  gives (.bulkRead rq (num (Obj.TB_OVR_COUNT 0)) 9 2) up (answers 5),
  servedB Op.resync 0 rq so up && gives (.resync rq) up (fun t => t.bar.own && decide (t.resyncs = [(Op.resync, rq)])),
  servedB Op.digestWalk 0 rq so up &&
    (match dictFind 0x33 0 0x01 with | some r => hasTree r && decide (r.acc = .ws) && decide (rootLevel r.n = 1) && decide (levelSize r.n 0 = 64) | none => false),
  gives (.digestWalk rq (num (Obj.PG_CFG 0)) 1 0 63 1) up (answers 0) && gives (.digestWalk rq (num (Obj.PG_CFG 0)) 1 0 64 1) up (answers 5)] := by
  decide +kernel

/-- WritesFollowTheAccessCode: RW, WC, WS, WRITE_SHADOW, TABLE_WRITE. -/
theorem test_WritesFollowTheAccessCode : Checks [
  ok Obj.QM_SESSION_IDLE 4 10 up && gives (.write rq (num Obj.QM_SESSION_IDLE) 0 ⟨4, 10⟩) up (fun t => answers 0 t &&
    decide (t.agenda = [⟨101, .write Obj.QM_SESSION_IDLE 10⟩])),
  ok (Obj.SIO_CORR_BITS 7) 8 1 up && gives (.write rq (num (Obj.SIO_CORR_BITS 7)) 0 ⟨8, 1⟩) (up.setObj (Obj.SIO_CORR_BITS 7) 9)
    (fun t => decide (t.obj (Obj.SIO_CORR_BITS 7) = 0)),
  ok (Obj.PG_CMD 65535) 2 5 up && gives (.write rq (num (Obj.PG_CMD 0)) 65535 ⟨2, 5⟩) up (fun t => decide (t.shadowed (Obj.PG_CMD 65535) = 5) &&
    decide (t.active (Obj.PG_CMD 65535) = 0) && decide (t.obj Obj.SHD_EDITS = 1)),
  servedB Op.writeShadow 1 rq so up && gives (.writeShadow rq (num (Obj.PG_CMD 0)) 1 0 0xFFFFFFFF ⟨2, 1⟩) up (fun t => answers 0 t &&
    decide (t.shadowed (Obj.PG_CMD 1) = 1)),
  gives (.writeShadow rq (num (Obj.PG_CMD 0)) 1 0 1 ⟨2, 1⟩) up (answers 7),
  servedB Op.tableWrite 1 rq so up && gives (.tableWrite rq (num (Obj.PG_CMD 0)) 65534 2 4 [1, 2]) up (fun t => answers 0 t &&
    decide (t.shadowed (Obj.PG_CMD 65535) = 2) && decide (t.obj Obj.SHD_EDITS = 1))] := by
  decide +kernel

/-- SubscriptionsAreKept: a full list, ADD, REMOVE, FETCH of a Vyusk session and of a PCIe sender without one. -/
theorem test_SubscriptionsAreKept : Checks [
  servedB Op.subscribe 0 rq so up && gives (.subscribeAdd rq (List.range 66).tail) up (answers 5),
  gives (.subscribeAdd rq (List.range 65).tail) up (fun t => answers 0 t && t.subscribes 0 64),
  gives (.subscribeRemove rq [5]) (up.setObj (Obj.EV_SUBS 0) 5) (fun t => answers 0 t && !t.subscribes 0 5),
  gives (.subscribeFetch rq 1) (up.setSession 0 { id := 7, buffer := [⟨false, 0, none, 1⟩, ⟨false, 1, none, 1⟩] }) (fun t => answers 0 t &&
    decide ((t.session 0).buffer = [⟨false, 1, none, 1⟩])),
  servedB Op.subscribe 0 {} ⟨2, none⟩ up && gives (.subscribeFetch {} 1) up (answers 0)] := by
  decide +kernel

/-- SessionsOpenAndClose: the hypotheses of OPEN with a free slot, CLOSE, and an idle session. -/
theorem test_SessionsOpenAndClose : Checks [
  servedB Op.session 0 rq so up && decide (((List.range 16).find? fun j => !up.sessionOpen j) = some 1),
  gives (.sessionClose rq) up (fun t => answers 0 t && !t.sessionOpen 0 && decide (t.changes.length = 1)),
  gives (.sessionIdleClose 0) { up with now := 3600 * 800000 } (fun t => !t.sessionOpen 0),
  gives (.sessionIdleClose 0) { up with now := 3600 * 800000 - 1 } (fun t => t.sessionOpen 0)] := by
  decide +kernel

/-- MailboxDoorbells: the mailbox in use, a chunk of 65,536 bytes and more, none left, and EVQ_CTL. -/
theorem test_MailboxDoorbells : Checks [
  gives .nextChunk (up.withBar fun b => { b with own := true }) (fun t => t.bar.ovr),
  gives .nextChunk (up.withBar fun b => { b with more := true, chunkLeft := 65537 }) (fun t => t.bar.ready && t.bar.more &&
    decide (t.bar.rspLen = 65536) && decide (t.bar.chunkLeft = 1)),
  gives .abandonChunks (up.withBar fun b => { b with more := true, chunkLeft := 65537 }) (fun t => !t.bar.more && decide (t.bar.chunkLeft = 0)),
  gives (.evqCtlWrite 0 0 0) (up.withBar fun b => { b with evqCtl := 1 }) (fun t => decide (t.bar.evqCtl = 0)),
  gives (.evqCtlWrite 1 0x12345 0x100) up (fun t => decide (t.bar.evqBase = 0x12000) && t.evq.gapOwed && decide (t.bar.evqCtl = 1))] := by
  decide +kernel

/-! ### Time, optics and calibration -/

/-- The state with engine 0 changed, and with engine 0 On in mode 1. -/
def eng0 (f : Engine → Engine) (s : State) : State := s.withEngine 0 f
def lit : State := ((up.setObj (Obj.PWR_DOM_STATE 0) 0).setObj (Obj.LDSP_MODE 0) 1).setObj (Obj.CNV_STATE 0) 2

/-- TickCounterCountsAndLoads. -/
theorem test_TickCounterCountsAndLoads : Checks [
  gives (.tickBoundary {}) up (fun t => decide (t.now = 101) && decide (t.tick = 101)),
  ok Obj.TB_TICK_LOAD 8 33 up && gives (.tbTickLoad rq ⟨8, 33⟩) up (answers 5),
  ok Obj.TB_TICK_LOAD 8 64 up && gives (.tbTickLoad rq ⟨8, 64⟩) up (fun t => answers 0 t && decide (t.load = some (64, 128))),
  gives (.tbTickLoad rq ⟨8, 64⟩) (up.withShadow fun h => { h with swap := some ⟨true, 9, some 288, 0, none⟩ }) (answers 7),
  gives (.tbTickLoad rq ⟨8, 64⟩) { up with load := some (0, 128) } (answers 1),
  gives .tickCounterLoad { up with load := some (64, 101) } (fun t => decide (t.tick = 64) && decide (t.load = none))] := by
  decide +kernel

/-- OverrunsAreAccounted: the first and the last engine, and the 32nd tick. -/
theorem test_OverrunsAreAccounted : Checks [
  up.engineRuns 0 && gives (.tickOverrun 0 [5]) up (fun t => t.declared Df.tickOvr 0 && decide (t.obj Obj.TB_OVR_STATUS = 1)),
  up.engineRuns 9 && gives (.tickOverrun 9 []) up (fun t => decide (t.obj (Obj.TB_OVR_COUNT 9) = 1)),
  gives .dtickovrClear ({ up with lastOverrun := some 68 }.declare Df.tickOvr 0) (fun t => !t.declared Df.tickOvr 0),
  gives .dtickovrClear ({ up with lastOverrun := some 69 }.declare Df.tickOvr 0) (fun t => t.declared Df.tickOvr 0),
  up.running && starting.startsTicks && !starting.running && !State.reset.running && !State.reset.startsTicks &&
    gives .corePllUnlock State.reset (same State.reset)] := by
  decide +kernel

/-- BoundaryCommits: a grouping that R45 allows and one it does not; both commits. -/
theorem test_BoundaryCommits : Checks [
  ok Obj.TB_BOND_CFG 2 4 up && up.bondAllowed 4 && gives (.tbBondCfgWrite rq ⟨2, 4⟩) up (fun t => decide (t.agenda = [⟨128, .bond 4⟩])),
  !(up.setObj (Obj.LDSP_MODE 1) 2).bondAllowed 1 && gives (.tbBondCfgWrite rq ⟨2, 1⟩) (up.setObj (Obj.LDSP_MODE 1) 2) (answers 7),
  gives .bondApply { up with agenda := [⟨101, .bond 4⟩] } (fun t => decide (t.obj Obj.TB_BOND_CFG = 4)),
  gives .singleObjectCommit { up with agenda := [⟨101, .write Obj.QM_SESSION_IDLE 10⟩] } (fun t => decide (t.obj Obj.QM_SESSION_IDLE = 10) &&
    decide (t.agenda = []))] := by
  decide +kernel

/-- OpticsMeasurements, at the bounds of each range. -/
theorem test_OpticsMeasurements : Checks [
  gives (.laserRangeChange 0 0 1599 8) up (fun t => !(t.engine 0).laserTxIn && decide (t.changes.length = 1)),
  gives (.laserRangeChange 3 1 2101 8) up (fun t => !(t.engine 3).laserLoIn),
  gives (.biasUnlock 0 1) (up.setObj (Obj.OPT_BIAS_STATE 0) 0x3F) (fun t => decide (t.obj (Obj.OPT_BIAS_STATE 0) = 0x3E) && (t.engine 0).dark),
  gives (.biasUnlock 0 32) ((eng0 (fun r => { r with dark := false }) up).setObj (Obj.OPT_BIAS_STATE 0) 0x3F |>.setObj (Obj.OPT_BIAS_FAIL_ACTION 0) 0) (fun t => !(t.engine 0).dark),
  gives (.biasLoopLock 0 0x3F 600) lit (fun t => decide (t.obj (Obj.OPT_BIAS_STATE 0) = 0x3F)),
  gives (.laserRangeChange 0 0 599 8) (up.setObj (Obj.OPT_BIAS_STATE 0) 5) (fun t => decide (t.obj (Obj.OPT_BIAS_STATE 0) = 0) && decide (t.changes.length = 2)),
  gives (.biasLoopLock 0 0x3F 599) (lit.setObj (Obj.OPT_BIAS_STATE 0) 5) (fun t => decide (t.obj (Obj.OPT_BIAS_STATE 0) = 0)),
  gives (.biasRelockRestore 0 1000) (((eng0 (fun r => { r with squelched := true }) lit).setObj (Obj.OPT_BIAS_STATE 0) 0x3F).setObj (Obj.OPT_TX_ENABLE 0) 1) (fun t => !(t.engine 0).squelched && !(t.engine 0).dark),
  gives (.txPowerShort 0 (-301) 8) (eng0 (fun r => { r with dark := false }) { up with now := 10000 }) (fun t => decide (t.changes.length = 1)),
  gives (.txPowerShort 0 (-300) 8) (eng0 (fun r => { r with dark := false }) { up with now := 10000 }) (fun t => decide (t.changes.length = 0)),
  gives (.rxOverload 0 551 0) up (fun t => !(t.engine 0).overloadArmed && decide (t.changes.length = 1)),
  gives (.rxOverload 0 551 8) (eng0 (fun r => { r with overloadArmed := false }) up) (fun t => decide (t.changes.length = 1)),
  gives (.refRangeChange 2512500 (some 100000)) up (fun t => decide (t.obj Obj.CNV_REF_STATUS = 3)),
  gives (.refRangeChange 2512501 none) up (fun t => decide (t.obj Obj.CNV_REF_STATUS = 0)),
  gives (.refRangeChange 2512501 (some 0)) (eng0 (fun r => { r with cal := some (3, .running 50) }) lit) (fun t => decide ((t.engine 0).cal = none))] := by
  decide +kernel

/-- LspiRunsOneTransaction. -/
theorem test_LspiRunsOneTransaction : Checks [
  ok (Obj.LSPI_XFER 0) 1 255 up && gives (.lspiXfer rq 0 ⟨1, 255⟩) up (fun t => answers 0 t && (t.engine 0).lspiBusy),
  ok (Obj.LSPI_XFER 0) 64 0 (eng0 (fun r => { r with lspiBusy := true }) up) &&
    gives (.lspiXfer rq 0 ⟨64, 0⟩) (eng0 (fun r => { r with lspiBusy := true }) up) (answers 1),
  ok (Obj.LSPI_XFER 0) 1 255 (up.setObj (Obj.PWR_PAD_HELD 0) 1) && gives (.lspiXfer rq 0 ⟨1, 255⟩) (up.setObj (Obj.PWR_PAD_HELD 0) 1) (answers 7),
  gives (.lspiDone 0 77) up (same up),
  gives (.lspiDone 0 (255 * 256 + 77)) (eng0 (fun r => { r with lspiBusy := true, lspiOut := ⟨1, 255⟩ }) up)
    (fun t => decide (t.obj (Obj.LSPI_RESULT 0) = 77 * 256 ^ 63) && decide (t.obj (Obj.LSPI_STATUS 0) = 2))] := by
  decide +kernel

/-- LineLosFollowsThePower: −22.00 dBm for 0.5 µs, and −20.00 dBm for 8 ticks. -/
theorem test_LineLosFollowsThePower : Checks [
  lit.domOn 0 && gives (.lineLosDeclare 0 (-2201) 500) (lit.setReceiver 0 8) (fun t => t.declared Df.los 0 && decide (t.receiver 0 = 1)),
  gives (.lineLosDeclare 0 (-2200) 500) (lit.setReceiver 0 8) (fun t => !t.declared Df.los 0),
  gives (.lineLosClear 0 (-2000) 8) ((lit.declare Df.los 0).setReceiver 0 1) (fun t => !t.declared Df.los 0 && decide (t.receiver 0 = 2)),
  gives (.lineLosClear 0 (-2001) 8) ((lit.declare Df.los 0).setReceiver 0 1) (fun t => t.declared Df.los 0),
  gives (.lineLosClear 0 (-2000) 7) ((lit.declare Df.los 0).setReceiver 0 1) (fun t => t.declared Df.los 0)] := by
  decide +kernel

/-- CalibrationsRunAndCommit: the starts and what refuses them. -/
theorem test_CalibrationStarts : Checks [
  ok (Obj.CNV_CAL_START 0) 2 1 lit && !lit.calOccupied 0 && !lit.sourced lit.act 0 && gives (.calDarkOffset rq 0) lit (fun t => answers 0 t &&
    decide (t.agenda = [⟨101, .calStart 0⟩])),
  ok (Obj.CNV_CAL_START 0) 2 3 lit && gives (.calReference rq 0) lit (fun t => decide ((t.engine 0).cal = some (3, .requested))),
  gives (.calLoopback rq 0) up (answers 7),
  gives (.calLoopback rq 0) ((eng0 (fun r => { r with cal := some (1, .running 50) }) lit).setObj (Obj.CNV_CAL_STATUS 0) 1) (answers 1),
  gives (.calAbort rq 0) ((eng0 (fun r => { r with cal := some (1, .running 50) }) lit).setObj (Obj.CNV_CAL_STATUS 0) 1) (fun t => answers 0 t &&
    decide ((t.engine 0).cal = none)),
  gives (.calRunStart 0 (-4000)) (eng0 (fun r => { r with cal := some (1, .requested) }) { lit with agenda := [⟨101, .calStart 0⟩] })
    (fun t => decide ((t.engine 0).cal = some (1, .running 101)) && t.declared Df.los 0)] := by
  decide +kernel

/-- CalibrationsRunAndCommit: completion, deferral, background calibration, the image and convergence. -/
theorem test_CalibrationCommits : Checks [
  gives (.calComplete 0 (-4000) []) (eng0 (fun r => { r with cal := some (1, .running 101) }) { lit with now := 101 + calTicks 1 })
    (fun t => decide ((t.engine 0).cal = some (1, .complete none))),
  gives (.calComplete 0 (-4000) []) ((eng0 (fun r => { r with cal := some (1, .running 101) }) { lit with now := 101 + calTicks 1 }).setObj Obj.PWR_WARN_ACTIVE 1) (fun t => decide (t.obj (Obj.CNV_CAL_STATUS 0) = 2)),
  gives .calDeferredCommit (eng0 (fun r => { r with cal := some (1, .complete (some 90)) }) lit) (fun t => decide (t.obj (Obj.CNV_CAL_STATUS 0) = 3)),
  gives (.calDeferTimeout 0) (eng0 (fun r => { r with cal := some (1, .complete (some 90)) }) { lit with now := 80090 })
    (fun t => decide (t.obj (Obj.CNV_CAL_STATUS 0) = 8)),
  gives (.bgCalUpdate 0 [⟨.gain, false, 0, 1, 5⟩]) lit (fun t => decide (t.agenda.length = 1)),
  ok (Obj.CNV_CAL_IMAGE 0) 8192 0 lit && gives (.cnvCalImageWrite rq 0 ⟨8192, 0⟩) lit (answers 5),
  gives (.cnvConverged 0) (lit.setObj (Obj.CNV_STATE 0) 1) (same (lit.setObj (Obj.CNV_STATE 0) 1)),
  gives (.cnvConverged 0) ((lit.setObj (Obj.CNV_STATE 0) 1).setObj (Obj.OPT_BIAS_STATE 0) 0x3F) (fun t => decide (t.obj (Obj.CNV_STATE 0) = 2))] := by
  decide +kernel

/-! ### The line receiver and the decoder -/

/-- A connection entry without pins, a line endpoint of type 4, a host endpoint of a type, and a state whose two sets hold a connection. -/
def connEntry (size src dst tpn : Nat) : Nat := packWords [2 ^ 31 + size, src, dst, tpn * 2 ^ 16 + tpn, 0, 0, 0, 0]
def linePort (e first count : Nat) : Nat := 4 * 2 ^ 28 + e * 2 ^ 26 + first * 2 ^ 13 + count
def hostPort (type lane : Nat) : Nat := type * 2 ^ 28 + lane * 2 ^ 22
def withConn (n v : Nat) (s : State) : State :=
  { s with act := Map.set 0 s.act (Obj.PRISM_CONN n) v, shd := Map.set 0 s.shd (Obj.PRISM_CONN n) v }
def rx (e state : Nat) (f : Engine → Engine) : State := (lit.setReceiver e state).withEngine e f

/-- LineConfigurationsCommit: modes, sub-carriers, roll-off, notches, restarts, the commit and the start of traffic. -/
theorem test_LineConfigurationsCommit : Checks [
  ok (Obj.LDSP_MODE 0) 2 5 lit && lit.modeAllowed 0 5 && gives (.ldspModeWrite rq 0 ⟨2, 5⟩) lit (fun t => answers 0 t &&
    decide (t.agenda = [⟨101, .write (Obj.LDSP_MODE 0) 5⟩]) && !bit (t.obj (Obj.LDSP_TX_STATUS 0)) 0),
  ok (Obj.LDSP_MODE 0) 2 0 lit && gives (.ldspModeWrite rq 0 ⟨2, 0⟩) (withConn 1 (connEntry 1 (linePort 0 0 1) (hostPort 1 0) 1) lit) (answers 7),
  ok (Obj.LDSP_SUBCARRIERS 3) 2 4 lit && gives (.ldspSubcarriersWrite rq 3 ⟨2, 4⟩) (lit.setObj Obj.TB_BOND_CFG 2) (fun t => answers 0 t &&
    decide (t.agenda.length = 2)),
  ok (Obj.LDSP_ROLLOFF 0) 2 20 lit && gives (.ldspRolloffWrite rq 0 ⟨2, 20⟩) lit (answers 0),
  ok (Obj.LDSP_TX_NOTCH 0 7) 4 0x80010000 lit && gives (.ldspTxNotchWrite rq 0 7 ⟨4, 0x80010000⟩) lit (answers 0),
  gives (.ldspTxNotchWrite rq 0 7 ⟨4, 0x80000000⟩) lit (answers 5),
  ok (Obj.LDSP_ACQ_RESTART 0) 2 1 lit && gives (.acqRestartNewSignal rq 0) { lit with agenda := [⟨101, .acqRestart 0 2⟩] }
    (fun t => decide (t.agenda = [⟨101, .acqRestart 0 1⟩])),
  gives (.acqRestartCold rq 0) lit (fun t => answers 0 t && decide (t.agenda = [⟨101, .acqRestart 0 2⟩])),
  gives .modeCommit { lit with agenda := [⟨101, .write (Obj.LDSP_MODE 0) 5⟩] } (fun t => decide (t.mode 0 = 5) &&
    decide ((t.engine 0).trafficFrom = some 105)),
  gives (.txTrafficStart 0) (rx 0 0 fun r => { r with trafficFrom := some 100 }) (fun t => decide ((t.engine 0).trafficFrom = none))] := by
  decide +kernel

/-- AcquisitionRunsItsStates, at the last tick of each bound. -/
theorem test_AcquisitionRunsItsStates : Checks [
  gives (.buildDone 0) (rx 0 2 id) (fun t => decide (t.receiver 0 = 3)),
  gives (.searchDone 0 130000 (-5)) (rx 0 3 id) (fun t => decide (t.receiver 0 = 5) && decide (t.obj (Obj.LDSP_CD_EST 0) = 120000) &&
    decide (t.obj (Obj.LDSP_FREQ_EST 0) = 2 ^ 32 - 5)),
  gives (.verifyDone 0) (rx 0 4 id) (fun t => decide (t.receiver 0 = 5)),
  gives (.verifyTimeout 0) ({ rx 0 6 id with now := 160 }.setObj (Obj.LDSP_ACQ_CLASS 0) 3) (fun t => decide (t.receiver 0 = 3) &&
    decide (t.obj (Obj.LDSP_ACQ_CLASS 0) = 2)),
  gives (.verifyTimeout 0) ({ rx 0 6 id with now := 159 }.setObj (Obj.LDSP_ACQ_CLASS 0) 3) (fun t => decide (t.receiver 0 = 6)),
  gives (.acqRetry 0) ({ rx 0 5 id with now := 24000 }.setObj (Obj.LDSP_ACQ_CLASS 0) 1) (fun t => decide (t.receiver 0 = 3) &&
    decide (t.obj (Obj.LDSP_RETRY_COUNT 0) = 1)),
  gives (.acqRetry 0) ({ rx 0 3 id with now := 3999 }.setObj (Obj.LDSP_ACQ_CLASS 0) 2) (fun t => decide (t.obj (Obj.LDSP_RETRY_COUNT 0) = 0)),
  gives (.enterValid 0) (rx 0 7 fun r => { r with confirmedAt := 36 }) (fun t => decide (t.receiver 0 = 8) && !t.declared Df.lol 0),
  gives (.enterValid 0) (rx 0 7 fun r => { r with confirmedAt := 37 }) (fun t => decide (t.receiver 0 = 7))] := by
  decide +kernel

/-- HuntersConfirmAPosition: 12 errors match, 13 do not; 3 dB and less than 3 dB. -/
theorem test_HuntersConfirmAPosition : Checks [
  lit.syncMatch 0 ⟨9, 12, 500⟩ && gives (.syncPosition 0 (some ⟨9, 12, 500⟩) none) (rx 0 5 id) (fun t => decide (t.receiver 0 = 6)),
  gives (.syncPosition 0 (some ⟨9, 13, 500⟩) none) (rx 0 5 id) (fun t => decide (t.receiver 0 = 5)),
  gives (.syncPosition 0 (some ⟨65545, 12, 510⟩) none) (rx 0 6 fun r => { r with primary := some ⟨9, 500, false⟩ })
    (fun t => decide (t.receiver 0 = 7) && decide ((t.engine 0).lockedMetric = 510)),
  gives (.syncPosition 0 (some ⟨65545, 13, 510⟩) none) (rx 0 6 fun r => { r with primary := some ⟨9, 500, false⟩ })
    (fun t => decide (t.receiver 0 = 5) && decide (t.obj (Obj.LDSP_FALSE_CAND_COUNT 0) = 1)),
  gives (.syncPosition 0 none (some ⟨10, 12, 800⟩)) (rx 0 6 fun r => { r with primary := some ⟨9, 500, false⟩ })
    (fun t => decide ((t.engine 0).primary = some ⟨10, 800, false⟩) && decide (t.obj (Obj.LDSP_PREEMPT_COUNT 0) = 1)),
  gives (.syncPosition 0 (some ⟨9, 12, 500⟩) none) (rx 0 5 fun r => { r with secondary := some ⟨10, 800, false⟩ })
    (fun t => decide (t.receiver 0 = 6) && decide ((t.engine 0).primary = some ⟨10, 800, false⟩) && decide (t.obj (Obj.LDSP_PREEMPT_COUNT 0) = 1)),
  gives (.syncPosition 0 (some ⟨65545, 12, 480⟩) none) (rx 0 8 fun r => { r with primary := some ⟨9, 500, true⟩, lockedMetric := 500 })
    (fun t => decide ((t.engine 0).lockedMetric = 480) && decide ((t.engine 0).primary = some ⟨65545, 480, true⟩)),
  gives (.syncPosition 0 none (some ⟨65546, 12, 800⟩)) (rx 0 8 fun r => { r with secondary := some ⟨10, 700, false⟩, lockedMetric := 500 }) (fun t => decide (t.receiver 0 = 8) && decide (t.changes.length = 1))] := by
  decide +kernel

/-- LossOfLockReacquires: pilots above 0.200 for 2 ticks, 4 sync misses, a lost page, what the next boundary starts, and 10 s of age. -/
theorem test_LossOfLockReacquires : Checks [
  (rx 0 8 id).lolMet 0 (.pilots 201 2) && !(rx 0 8 id).lolMet 0 (.pilots 200 2) &&
    gives (.lolDeclare 0 (.pilots 201 2)) (rx 0 8 id) (fun t => t.declared Df.lol 0 && decide (t.receiver 0 = 8) && decide (t.fresh = 2) &&
    decide ((t.engine 0).lolAt = some 100)),
  (rx 0 8 id).lolMet 0 (.sync 4) && !(rx 0 8 id).lolMet 0 (.sync 3) && !(rx 0 7 id).lolMet 0 (.sync 4),
  !(rx 0 8 fun r => { r with validSince := 100 }).lolMet 0 (.pilots 201 2),
  (rx 0 2 id).lolMet 0 .store && gives (.lolDeclare 0 .store) (rx 0 2 id) (fun t => decide (t.receiver 0 = 3) && decide (t.fresh = 0)),
  gives (.lolDeclare 0 .store) (rx 0 8 fun r => { r with commitAt := some 100 }) (fun t => decide (t.receiver 0 = 8) && t.declared Df.lol 0),
  decide (((rx 0 8 fun r => { r with lolAt := some 99, stored := some ⟨70, 71, 72, 73, 1, 99⟩ }).startLol 0).receiver 0 = 4) &&
    decide (((rx 0 8 fun r => { r with lolAt := some 99, stored := some ⟨70, 71, 72, 73, 1, 99⟩ }).startLol 0).obj (Obj.LDSP_FREQ_EST 0) = 71),
  gives (.storedStateExpire 0) { rx 0 1 (fun r => { r with stored := some ⟨0, 0, 0, 0, 1, 5⟩ }) with now := 8000005 }
    (fun t => decide ((t.engine 0).stored = none))] := by
  decide +kernel

/-- EnginesAreIndependent: a receiver whose command changes it, with another one beside it. -/
theorem test_EnginesAreIndependent : Checks [
  gives (.buildDone 0) ((rx 0 2 id).withEngine 1 fun r => { r with lspiBusy := true }) (fun t => (t.engine 1).lspiBusy &&
    decide (t.receiver 0 = 3))] := by
  decide +kernel

/-- DecoderCoresFailAndReturn: core 24 of a pool of 24 and of 25, the tests, and the retest's answers. -/
theorem test_DecoderCoresFailAndReturn : Checks [
  gives (.decCoreFail 0 24 .parity 7) (((lit.setObj (Obj.LDSP_MODE 0) 16).setObj (Obj.LDSP_ACQ_STATE 0) 8).setObj (Obj.FEC_CORE_STATE 0) (2 ^ 25 - 2)) (fun t => t.declared Df.decDeg 0 && !t.coreWorks 0 24 &&
    decide ((t.engine 0).redispatch = 7)),
  gives (.decCoreFail 0 24 .parity 7) up (same up),
  decide (((eng0 (fun r => { r with redispatch := 7 }) lit).dispatchWords 0).obj (Obj.FEC_REDISPATCH_COUNT 0) = 7),
  gives (.decCoreFail 0 24 .deadline 0) (lit.setObj (Obj.FEC_CORE_STATE 0) (2 ^ 25 - 1)) (fun t => !t.declared Df.decDeg 0 &&
    decide (24 ∈ (t.engine 0).fenced)),
  gives (.coreStartupTestDone 0 0 true) (eng0 (fun r => { r with starting := [0, 1] }) lit) (fun t => t.coreWorks 0 0 &&
    decide ((t.engine 0).starting = [1])),
  gives (.coreStartupTestDone 0 0 false) (eng0 (fun r => { r with starting := [0] }) lit) (fun t => decide (0 ∈ (t.engine 0).fenced)),
  gives (.coreRetestDone 0 3 true) (eng0 (fun r => { r with retesting := [3], fenced := [3] }) lit)
    (fun t => decide (t.agenda = [⟨101, .coreJoin 0 3⟩])),
  gives (.coreRetestDone 0 3 false) (eng0 (fun r => { r with retesting := [3], fenced := [3] }) lit) (fun t => decide (3 ∈ (t.engine 0).fenced)),
  ok (Obj.FEC_CORE_RETEST 0) 2 24 lit && gives (.fecCoreRetest rq 0 ⟨2, 24⟩) lit (answers 5),
  gives (.fecCoreRetest rq 0 ⟨2, 24⟩) (eng0 (fun r => { r with retesting := [24], fenced := [24] }) lit) (answers 1),
  gives (.fecCoreRetest rq 1 ⟨2, 24⟩) (up.withEngine 1 fun r => { r with fenced := [24] }) (answers 7),
  gives (.fecCoreRetest rq 0 ⟨2, 24⟩) (eng0 (fun r => { r with fenced := [24] }) lit) (fun t => answers 0 t &&
    decide (t.agenda = [⟨101, .coreTest 0 24⟩]))] := by
  decide +kernel

/-- FecFailFollowsTheThreshold: 0.100 for one tick; 8 ticks below; a collapsed pool. -/
theorem test_FecFailFollowsTheThreshold : Checks [
  gives (.fecfailDeclare 0 100 1) (rx 0 8 id) (fun t => t.declared Df.fecFail 0) &&
    gives (.fecfailDeclare 0 99 1) (rx 0 8 id) (fun t => !t.declared Df.fecFail 0),
  gives (.fecfailClear 0 8) ((lit.setObj (Obj.FEC_CORE_STATE 0) (2 ^ 25 - 1)).declare Df.fecFail 0) (fun t => !t.declared Df.fecFail 0),
  lit.poolCollapsed 0 && gives (.fecfailClear 0 8) (lit.declare Df.fecFail 0) (fun t => t.declared Df.fecFail 0)] := by
  decide +kernel

/-! ### Framing, host ports and expansion cells -/

/-- A frame with pointer 7 and C 9, with errors in its FAS, and with an error in its CRC. -/
def fas (pos errors : Nat) (crcOk : Bool) : LFrame :=
  let f := (⟨0, false, false, 0, 0, 0, 7, 9⟩ : Overhead).frame pos 0 []
  let head := Nat.xor f.head ((2 ^ errors - 1) * 256 ^ 26)
  { f with head := if crcOk then head else Nat.xor head (256 ^ 8) }
def idleFrame (pos : Nat) : LFrame := (⟨0, true, false, 0, 0, 0, 0xFFFFFF, 0⟩ : Overhead).frame pos 0 []

/-- The scrambler, from the state of all ones: 16 ones, then the first eight sums of its taps (worked out from the polynomial of R140); the FAS
is not scrambled; GMP puts 2 of 5 bytes at positions 3 and 5 (R141). -/
theorem test_LFrameLayout : Checks [
  decide (scramble scramblerReset [0, 0, 0] = [0xFF, 0xFF, 0x4E]),
  decide (bytesOf 32 (fas 0 0 true).head 0 6 = 0xF6F6F6282828) && decide ((fas 0 0 true).fasErrors = 0) && (fas 0 0 true).crcOk,
  decide ((fas 0 4 true).fasErrors = 4) && !(fas 0 0 false).crcOk && decide ((fas 0 0 true).ptr = 7) && decide ((fas 0 0 true).c = 9),
  decide (gmpFill 2 5 5 [8, 9] = [0, 0, 8, 0, 9]) && decide (gmpTake 2 5 [0, 0, 8, 0, 9] = [8, 9])] := by
  decide +kernel
/-- Engine 0 locked in mode 1, its deframer in a state. -/
def framed (state : Nat) (f : Engine → Engine) : State := (rx 0 8 f).setObj (Obj.FRM_STATE 0) state
/-- A client of a type on lanes, with lane `l` its first. -/
def withClient (l type : Nat) (c : Client) (s : State) : State :=
  { s with clients := Map.set {} s.clients (Key.unit l) c }.setObj (Obj.CLI_TYPE l) type

/-- DeframerFollowsTheAlignmentWord: 3 and 4 errors, buffered words, the due place, the fourth and the fifth miss, idle, and Z modes. -/
theorem test_DeframerFollowsTheAlignmentWord : Checks [
  (framed 0 id).rxLocked 0 && modeL ((framed 0 id).mode 0) &&
    gives (.lFrameReceive 0 (fas 5 0 true)) (framed 0 id) (fun t => decide (t.obj (Obj.FRM_STATE 0) = 1) &&
    decide ((t.engine 0).frameCandidate = some 5)),
  gives (.lFrameReceive 0 (fas 5 1 true)) (framed 0 id) (same (framed 0 id)),
  gives (.lFrameReceive 0 (fas 204804 0 true)) (framed 1 fun r => { r with frameCandidate := some 5 })
    (fun t => decide (((t.engine 0).buffered.map (·.pos)) = [204804])),
  gives (.lFrameReceive 0 (fas 204805 3 true)) (framed 1 fun r => { r with frameCandidate := some 5 })
    (fun t => decide (t.obj (Obj.FRM_STATE 0) = 2) && decide ((t.engine 0).prevC = 9) && decide ((t.engine 0).frameDue = some 409605)),
  gives (.lFrameReceive 0 (fas 204805 3 false)) (framed 1 fun r => { r with frameCandidate := some 5 })
    (fun t => decide (t.obj (Obj.FRM_STATE 0) = 2) && decide (t.obj (Obj.FRM_CRC_ERR_COUNT 0) = 1)),
  gives (.lFrameReceive 0 (fas 204805 4 true)) (framed 1 fun r => { r with frameCandidate := some 5 })
    (fun t => decide (t.obj (Obj.FRM_STATE 0) = 0) && decide (t.obj (Obj.FRM_FALSE_CAND_COUNT 0) = 1) && decide ((t.engine 0).huntFrom = 6)),
  gives (.lFrameReceive 0 (fas 204805 4 true)) (framed 1 fun r => { r with frameCandidate := some 5, buffered := [fas 77 0 true] })
    (fun t => decide (t.obj (Obj.FRM_STATE 0) = 1) && decide ((t.engine 0).frameCandidate = some 77)),
  gives (.lFrameReceive 0 (fas 6 0 true)) (framed 2 fun r => { r with frameDue := some 7 }) (same (framed 2 fun r => { r with frameDue := some 7 })),
  gives (.lFrameReceive 0 (fas 0 4 true)) (framed 2 fun r => { r with fasMisses := 3 }) (fun t => decide (t.obj (Obj.FRM_STATE 0) = 2) &&
    decide ((t.engine 0).fasMisses = 4)),
  gives (.lFrameReceive 0 (fas 0 4 true)) (framed 2 fun r => { r with fasMisses := 4 }) (fun t => t.declared Df.lof 0 &&
    decide (t.obj (Obj.FRM_LOF_COUNT 0) = 1)),
  (idleFrame 0).idle && (idleFrame 0).crcOk && decide ((idleFrame 0).fasErrors = 0)] := by
  decide +kernel

/-- DeframerFollowsTheAlignmentWord: OTUC frames and the agreement's framing. -/
theorem test_OtucFollowsItsCriteria : Checks [
  gives (.otucFrameCheck 0 ⟨true, 0, false, [⟨1, 5, 0, true, true, none⟩]⟩) (framed 2 fun r => { r with
      prevMfas := some 255, otucGood := 1, lofOtuc := true, sections := [(Key.unit 1, { bdi := 4, iae := 3 })] })
    (fun t => !(t.engine 0).lofOtuc && t.declared Df.smTim 128 && t.declared Df.smBdi 128 && !t.declared Df.smIae 128),
  gives (.otucFrameCheck 0 ⟨false, 0, true, []⟩) (framed 2 fun r => { r with otucBad := 4 }) (fun t => (t.engine 0).lofOtuc &&
    t.declared Df.lof 0 && t.declared Df.lom 0),
  gives (.otucFrameCheck 0 ⟨true, 7, false, []⟩) (framed 2 fun r => { r with prevMfas := some 5 }) (fun t => decide ((t.engine 0).otucBad = 1)),
  gives (.otucFrameCheck 0 ⟨true, 0, false, [⟨1, 0, 0, false, false, some (2 ^ 32)⟩]⟩) (framed 2 fun r => { r with
      sections := [(Key.unit 1, { bad := 1000 })] }) (fun t => t.declared Df.smDeg 128),
  modeZ (((framed 0 id).setObj (Obj.LDSP_MODE 0) 16).mode 0) &&
    gives (.agreementFrameReceive 0 true false) ((framed 0 id).setObj (Obj.LDSP_MODE 0) 16) (fun t => t.declared Df.lof 0 &&
    !t.declared Df.lom 0)] := by
  decide +kernel

/-- Engines 0 and 1 bonded, locked and in SYNC. -/
def bonded : State :=
  (((((framed 2 id).setObj Obj.TB_BOND_CFG 1).setReceiver 1 8).setObj (Obj.FRM_STATE 1) 2).setObj (Obj.LDSP_MODE 1) 1)

/-- BondedGroupsAndOverhead: a spread of 20 µs, one above it, routes and a frame of a port. -/
theorem test_BondedGroupsAndOverhead : Checks [
  decide (bonded.bond 0 = groupMembers 0) &&
    gives (.bondDeskew 0 [20000005, 5] true) bonded (fun t => decide (t.obj (Obj.FRM_DESKEW 0) = 20000000) && bit (t.obj Obj.TB_BOND_STATE) 1 &&
    !t.declared Df.loa 5),
  gives (.bondDeskew 0 [20000006, 5] true) bonded (fun t => !bit (t.obj Obj.TB_BOND_STATE) 0 && t.declared Df.loa 5),
  gives (.bondDeskew 0 [5, 5] false) bonded (fun t => t.declared Df.loa 5),
  ok (Obj.OH_GCC_ROUTE 63) 4 0x80E00000 up && gives (.ohGccRouteWrite rq 63 ⟨4, 0x80E00000⟩) (up.setObj (Obj.OHP_CLK 0) 2) (answers 0),
  gives (.ohGccRouteWrite rq 63 ⟨4, 0x80F00000⟩) (up.setObj (Obj.OHP_CLK 0) 2) (answers 5),
  gives (.ohGccRouteWrite rq 63 ⟨4, 0x80E00000⟩) (up.setObj (Obj.OHP_CLK 0) 1) (answers 5),
  gives (.ohpFrame 0 [] []) up (same up),
  gives (.ohpFrame 0 [] []) (up.setObj (Obj.OHP_CLK 0) 1) (fun t => decide (Map.get [] t.ohpSent (Key.unit 0) =
    List.replicate (ohpBytes 1) 0xFF)),
  gives (.ohpFrame 0 [] []) { (up.setObj (Obj.OHP_CLK 0) 2).setObj (Obj.OH_GCC_ROUTE 63) 0x80200000 with gccOut := [(Key.unit 63, [1, 2])] } (fun t => decide (Map.get [] t.ohpSent (Key.unit 0) =
    [0x22, 1, 2] ++ List.replicate (ohpBytes 2 - 3) 0xFF)),
  gives (.ohpFrame 0 [⟨2, [9, 8]⟩] []) { (up.setObj (Obj.OHP_CLK 0) 2).setObj (Obj.OH_GCC_ROUTE 63) 0x80200000 with gccIn := [(Key.unit 63, List.replicate 63 1)] } (fun t => decide ((Map.get [] t.gccIn (Key.unit 63)).length = 64) && decide (t.obj (Obj.OH_GCC_DROP 63) = 1))] := by
  decide +kernel

/-- A lane that carries a connection. -/
def used : State := withConn 1 (connEntry 1 (hostPort 1 0) (linePort 0 0 1) 1) up

/-- HostWritesAreChecked: what each write is refused for, and what is staged. -/
theorem test_HostWritesAreChecked : Checks [
  ok (Obj.HL_RATE 0) 2 10 up && gives (.hlRateWrite rq 0 ⟨2, 10⟩) up (fun t => answers 0 t && decide (t.agenda = [⟨101, .write (Obj.HL_RATE 0) 10⟩])),
  used.laneUsed 0 && gives (.hlRateWrite rq 0 ⟨2, 10⟩) used (answers 7),
  gives (.hlRateWrite rq 0 ⟨2, 3⟩) ((up.setObj (Obj.HL_RATE 1) 1).setObj (Obj.HL_RATE 7) 2) (answers 7),
  ok (Obj.HL_TX_TIMING 63) 2 2 up && gives (.hlTxTimingWrite rq 63 ⟨2, 2⟩) up (answers 0),
  gives (.hlTxTimingWrite rq 5 ⟨2, 1⟩) (withClient 5 19 { lanes := [5], rate := 8 } up) (answers 7),
  ok (Obj.HL_PRBS_CFG 0) 4 0x55 up && gives (.hlPrbsCfgWrite rq 0 ⟨4, 0x55⟩) up (answers 0),
  gives (.hlPrbsCfgWrite rq 0 ⟨4, 6⟩) up (answers 5) && gives (.hlPrbsCfgWrite rq 0 ⟨4, 1⟩) used (answers 7),
  ok (Obj.CLI_FORM 0) 2 1 up && gives (.cliFormWrite rq 0 ⟨2, 1⟩) up (answers 0) && gives (.cliFormWrite rq 0 ⟨2, 1⟩) used (answers 7),
  ok (Obj.CLI_TYPE 63) 2 1 up && gives (.cliTypeWrite rq 63 ⟨2, 1⟩ {}) up (fun t => answers 0 t && decide (t.agenda.length = 2)),
  decide (clientSet 17 0 {} = none) && gives (.cliTypeWrite rq 0 ⟨2, 17⟩ {}) up (answers 7),
  gives (.cliTypeWrite rq 0 ⟨2, 1⟩ {}) used (answers 7)] := by
  decide +kernel

/-- HostLanesFollowTheirInput, at 49 mV and 81 mV, and a client of each kind. -/
theorem test_HostLanesFollowTheirInput : Checks [
  gives (.laneLocked 63) (up.setObj (Obj.HL_STATE 63) 1) (fun t => decide (t.obj (Obj.HL_STATE 63) = 2) && !t.declared Df.laneLol 63),
  gives (.laneLossOfLock 0) (up.setObj (Obj.HL_STATE 0) 2) (fun t => t.declared Df.laneLol 0),
  gives (.laneLocked 0) up (same up),
  gives (.laneLosDeclare 0 49 500) (up.setObj (Obj.HL_STATE 0) 1) (fun t => t.declared Df.laneLos 0),
  gives (.laneLosClear 0 81 8) (up.declare Df.laneLos 0) (fun t => !t.declared Df.laneLos 0),
  gives (.laneLosClear 0 80 8) (up.declare Df.laneLos 0) (fun t => t.declared Df.laneLos 0),
  gives (.clientPcsLockChange 0 ⟨false, false, false, true, false, false⟩) (withClient 0 1 { lanes := [0] } up) (fun t => t.declared Df.lobl 0 &&
    t.declared Df.hiBer 0 && t.declared Df.loaml 0 && !t.declared Df.cliLof 0 && !t.declared Df.cliLom 0),
  gives (.clientPcsLockChange 0 ⟨false, false, false, false, false, true⟩) (withClient 0 13 { lanes := [0] } up) (fun t => t.declared Df.cliLof 0 &&
    !t.declared Df.lobl 0),
  gives (.flexeCalSwitch 7 1) up (fun t => decide (t.obj (Obj.FXE_CAL_ACTIVE 7) = 1) && decide (t.changes.length = 1)),
  gives (.flexeCalSwitch 7 0) up (same up)] := by
  decide +kernel

/-- An aligned expansion link on lanes 0 to 3, its lane 0 in a cell state with its next header due where the candidate is, and the run of the link's
control cells. -/
def cells (state : Nat) (c : CellLane) (differ agree : Nat := 0) : State :=
  (((withClient 0 19 { lanes := [0, 1, 2, 3], rate := 8, pcs := true, differ := differ, agree := agree } up).setObj (Obj.HL_STATE 0) 2).setObj
    (Obj.HL_CELL_STATE 0) state).setCells 0 { c with due := if state = 0 then none else some c.first }
/-- A cell with a good or a bad HEC, an empty payload, or, as a control cell, a tick in it and a good CRC, scrambled from state 0. -/
def cellHead (hec : Bool) (kind phase cell lane : Nat) : Nat :=
  let head := kind * 2 ^ 30 + phase * 2 ^ 25 + cell * 2 ^ 17 + lane * 2 ^ 14
  head + if hec then headerHec head else (headerHec head + 1) % 256
def cellOf (hec : Bool) (kind phase cell lane : Nat) : Cell := ⟨cellHead hec kind phase cell lane, List.replicate 32 0, 0⟩
def controlOf (tick : Nat) (crcOk : Bool) : Cell :=
  let words := 0 :: tick :: List.replicate 29 0
  ⟨cellHead true 2 0 0 0, (runWords scrambleWord 0 (words ++ [controlCrc words + if crcOk then 0 else 1])).1, 0⟩

/-- ExpansionCellsAreDelineated: HUNT, PRESYNC at its sixth header, SYNC at its seventh bad one, and data cells. -/
theorem test_ExpansionCellsAreDelineated : Checks [
  decide ((cells 0 {}).laneOwner 0 = some 0) && decide ((cells 0 {}).clientType 0 = 19) && (cells 0 {}).linkAligned 0 0 &&
    !((cells 0 {}).setObj (Obj.HL_STATE 0) 1).linkAligned 0 0,
  gives (.expansionCellReceive 0 (cellOf true 0 0 0 0)) (cells 0 {}) (fun t => decide (t.obj (Obj.HL_CELL_STATE 0) = 1) && t.declared Df.lcd 0),
  gives (.expansionCellReceive 0 (cellOf false 0 0 0 0)) (cells 0 {}) (fun t => decide (t.obj (Obj.HL_CELL_STATE 0) = 0)),
  gives (.expansionCellReceive 0 (cellOf true 0 0 0 0)) (cells 1 { good := 4 }) (fun t => decide (t.obj (Obj.HL_CELL_STATE 0) = 1) &&
    decide ((expCell t 0).good = 5)),
  gives (.expansionCellReceive 0 (cellOf true 0 0 0 0)) (cells 1 { good := 5 }) (fun t => decide (t.obj (Obj.HL_CELL_STATE 0) = 2)),
  gives (.expansionCellReceive 0 (cellOf false 0 0 0 0)) (cells 1 { good := 5 }) (fun t => decide (t.obj (Obj.HL_CELL_STATE 0) = 0) &&
    decide (t.obj (Obj.EXP_HEC_ERR 0) = 0)),
  gives (.expansionCellReceive 0 (cellOf true 0 0 0 0)) (cells 0 { huntFrom := 1 }) (fun t => decide (t.obj (Obj.HL_CELL_STATE 0) = 0)) &&
    gives (.expansionCellReceive 0 (cellOf true 0 0 0 0)) (cells 1 { first := 5 }) (fun t => decide ((expCell t 0).fits = [0])),
  gives (.expansionCellReceive 0 { cellOf false 0 0 0 0 with pos := 1056 }) ((cells 1 {}).setCells 0 { good := 1, due := some 1056, fits := [8] })
    (fun t => decide (t.obj (Obj.HL_CELL_STATE 0) = 1) && decide ((expCell t 0).first = 8) && decide ((expCell t 0).due = some 1064)),
  gives (.expansionCellReceive 0 (cellOf true 0 0 0 0)) (cells 2 { first := 7 }) (same (cells 2 { first := 7 })) &&
    gives (.expansionCellReceive 0 (cellOf true 0 0 0 0)) ((cells 2 {}).setObj (Obj.HL_CFG 0) 4) (same ((cells 2 {}).setObj (Obj.HL_CFG 0) 4)),
  gives (.expansionCellReceive 0 (cellOf false 0 0 0 0)) (cells 2 { bad := 5 }) (fun t => decide (t.obj (Obj.HL_CELL_STATE 0) = 2) &&
    decide (t.obj (Obj.EXP_CELL_DISCARD 0) = 1) && decide (t.obj (Obj.EXP_HEC_ERR 0) = 1)),
  gives (.expansionCellReceive 0 (cellOf false 0 0 0 0)) (cells 2 { bad := 6 }) (fun t => t.declared Df.lcd 0 &&
    decide (t.obj (Obj.HL_CELL_STATE 0) = 0)),
  gives (.expansionCellReceive 0 (cellOf true 0 2 57 3)) (cells 2 {}) (fun t => t.prism.cellsSeen.contains (0, 3 * 58 + 57)),
  gives (.expansionCellReceive 0 (cellOf true 0 2 58 3)) (cells 2 {}) (fun t => decide (t.obj (Obj.EXP_CELL_DISCARD 0) = 1)),
  gives (.expansionCellReceive 0 (cellOf true 0 3 0 0)) (cells 2 {}) (fun t => decide (t.obj (Obj.EXP_CELL_DISCARD 0) = 1)),
  gives (.expansionCellReceive 0 (cellOf true 1 0 0 4)) (cells 2 {}) (fun t => decide (t.obj (Obj.EXP_CELL_DISCARD 0) = 1))] := by
  decide +kernel

/-- ExpansionCellsAreDelineated: control cells, with a difference of 1 and of 2, runs of 2 and of 32, and a bad CRC. -/
theorem test_ControlCellsCompareTheTick : Checks [
  gives (.expansionCellReceive 0 (controlOf 102 true)) (cells 2 {} 1) (fun t => t.declared Df.tickMm 0),
  gives (.expansionCellReceive 0 (controlOf 101 true)) ((cells 2 {} 0 31).declare Df.tickMm 0) (fun t => !t.declared Df.tickMm 0),
  gives (.expansionCellReceive 0 (controlOf 98 true)) (cells 2 {} 0 31)
    (fun t => !t.declared Df.tickMm 0 && decide ((t.client 0).differ = 1) && decide ((t.client 0).agree = 0)),
  gives (.expansionCellReceive 0 (controlOf 99 true)) ((cells 2 {} 0 30).declare Df.tickMm 0)
    (fun t => t.declared Df.tickMm 0 && decide ((t.client 0).agree = 31)),
  gives (.expansionCellReceive 0 (controlOf 102 false)) (cells 2 {} 1) (fun t => !t.declared Df.tickMm 0 && decide ((t.client 0).differ = 1))] := by
  decide +kernel

/-! ### The compiler, the slices, swaps, line changes and protection -/

def compiled (failure : Option (Nat × Nat)) : State :=
  up.withPrism fun p => { p with compile := some ⟨50, 101, ⟨[], failure, 257, []⟩⟩, dirty := [3] }
/-- A swap that waits, and a sender of session 7 by opcode. -/
def swapping (q : SwapReq) (state : Nat) : State := (up.setObj Obj.SHD_STATE state).withShadow fun h => { h with swap := some q }

/-- A line change under way for a connection that the change area no longer holds. -/
def lineChanging : State :=
  { (withConn 1 (connEntry 1 (hostPort 1 0) (linePort 0 0 1) 1) up).setChange 0 0 { conn := 1, side := 1 } with shd := [] }

/-- CompilerRunsAndRollsBack. -/
theorem test_CompilerRunsAndRollsBack : Checks [
  ok Obj.PRISM_COMPILE 2 1 up && gives (.compileDirty rq) up (fun t => answers 0 t && decide (t.agenda = [⟨101, .compileStart 1⟩])),
  ok Obj.PRISM_COMPILE 2 2 up && gives (.compileAll rq) (up.setObj Obj.SHD_STATE 4) (answers 6),
  gives (.compileAll rq) (up.setObj Obj.SHD_STATE 2) (answers 1) && gives (.compileDirty rq) (up.setPage 1 3 { bad := true }) (answers 7),
  ok Obj.PRISM_COMPILE 2 0 up && gives (.compileAbandon rq) (compiled none) (fun t => answers 0 t && decide (t.prism.rollback = some ⟨102, 1⟩)),
  gives (.compileAbandon rq) up (answers 7) && gives (.compileAbandon rq) (up.setObj Obj.SHD_STATE 4) (answers 6) &&
    gives (.compileAbandon rq) (up.setObj Obj.SHD_STATE 2) (answers 1),
  gives (.compileAbandon rq) ((up.setObj Obj.PRISM_COMPILE_STATE 3).withPrism fun p => { p with lastEntries := 257 })
    (fun t => answers 0 t && decide (t.prism.rollback = some ⟨102, 1⟩)),
  gives (.compileAbandon rq) (up.setObj Obj.PRISM_COMPILE_STATE 5) (answers 0),
  gives .compileDone (compiled none) (fun t => decide (t.obj Obj.PRISM_COMPILE_STATE = 3) && decide (t.prism.dirty = [])),
  gives .compileFail (compiled none) (same (compiled none)),
  gives .compileFail (compiled (some (2, 9))) (fun t => decide (t.obj Obj.PRISM_COMPILE_ERR = 2 * 2 ^ 24 + 9) &&
    decide (t.prism.rollback = some ⟨103, 4⟩)),
  gives .rollbackDone (up.withPrism fun p => { p with rollback := some ⟨101, 4⟩ }) (fun t => decide (t.obj Obj.PRISM_COMPILE_STATE = 4)),
  gives .rollbackDone (up.withPrism fun p => { p with rollback := some ⟨102, 4⟩ }) (fun t => t.prism.rollback.isSome)] := by
  decide +kernel

/-- SlicesFailAndRejoin: slice 16 and slice 0, 64 errors and 65. -/
theorem test_SlicesFailAndRejoin : Checks [
  gives (.sliceFail 16 0 0) up (fun t => decide (t.prism.fences = [⟨16, 0, 100⟩])),
  gives (.sliceFail 0 1 65) up (fun t => decide (t.prism.fences.length = 1)) && gives (.sliceFail 0 1 64) up (same up),
  ok Obj.PRISM_SLICE_RETEST 2 16 up && gives (.prismSliceRetest rq ⟨2, 16⟩) up (answers 5),
  gives (.prismSliceRetest rq ⟨2, 16⟩) (up.withPrism fun p => { p with fenced := [16] }) (fun t => answers 0 t &&
    decide (t.prism.tests = [(16, 116)])),
  gives (.prismSliceRetest rq ⟨2, 16⟩) (up.withPrism fun p => { p with fenced := [16], tests := [(16, 116)] }) (answers 1),
  gives (.sliceRetestDone 16 true) (up.withPrism fun p => { p with fenced := [16], tests := [(16, 116)] })
    (fun t => decide (t.prism.rejoin = [(16, 128)])),
  gives (.sliceRetestDone 16 false) (up.withPrism fun p => { p with fenced := [16], tests := [(16, 116)] })
    (fun t => decide (t.prism.fenced = [16]) && decide (t.prism.tests = [])),
  gives .sliceRejoin (up.withPrism fun p => { p with fenced := [16], rejoin := [(16, 101)] }) (fun t => decide (t.prism.fenced = []) &&
    decide (t.obj Obj.PRISM_STATE = 1)),
  gives (.sliceFail 16 0 0) (up.withPrism fun p => { p with fenced := [16] }) (same (up.withPrism fun p => { p with fenced := [16] })),
  gives .sliceRejoin (up.withPrism fun p => { p with fenced := [16], rejoin := [(16, 102)] }) (fun t => decide (t.prism.fenced = [16]))] := by
  decide +kernel

/-- SwapRequestsAreChecked: each check, and the boundaries that are taken. -/
theorem test_SwapRequestsAreChecked : Checks [
  servedB Op.swap 0 rq so up && servedB Op.write 0 rq so up,
  gives (.swap rq false) (up.setObj (Obj.QM_SESSIONS 0) (2 ^ 31)) (fun t => answers 2 t && decide (t.obj Obj.SHD_REJECT = 1)),
  gives (.swap rq true) (up.setObj Obj.SHD_STATE 3) (fun t => answers 1 t && decide (t.obj Obj.SHD_REJECT = 2)),
  gives (.swap rq false) (up.setObj Obj.SHD_STATE 4) (fun t => answers 6 t && decide (t.obj Obj.SHD_REJECT = 3)),
  gives (.swap rq false) (up.setObj Obj.PRISM_COMPILE_STATE 1) (fun t => answers 7 t && decide (t.obj Obj.SHD_REJECT = 4)),
  gives (.swapAt rq false 3) up (fun t => answers 8 t && decide (t.obj Obj.SHD_REJECT = 5)),
  gives (.swapAt rq true 1500004) up (fun t => answers 5 t && decide (t.obj Obj.SHD_REJECT = 6)),
  gives (.swapAt rq false 4) { up with load := some (0, 128) } (fun t => answers 7 t && decide (t.obj Obj.SHD_REJECT = 7)),
  !lineChanging.lineChangesFit && gives (.swap rq false) lineChanging (fun t => answers 7 t && decide (t.obj Obj.SHD_REJECT = 8)),
  !(withConn 1 (connEntry 1 (hostPort 1 0) (linePort 0 0 1) 1) up).objectsFit &&
    gives (.swap rq false) (withConn 1 (connEntry 1 (hostPort 1 0) (linePort 0 0 1) 1) up) (fun t => answers 7 t &&
    decide (t.obj Obj.SHD_REJECT = 9)),
  gives (.swap rq false) { up with tick := 126 } (fun t => answers 0 t && decide (t.obj Obj.SHD_SWAP_EPOCH = 4) && decide (t.obj Obj.SHD_STATE = 2)),
  gives (.swapAt rq true 1500003) up (fun t => answers 0 t && decide (t.obj Obj.SHD_SWAP_EPOCH = 1500003))] := by
  decide +kernel

/-- SwapsTakeEffectOrNot: at the boundary, before it, under a warning, cancelled, abandoned, reverted, and SYNCING. -/
theorem test_SwapsTakeEffectOrNot : Checks [
  gives .swapTakeEffect { swapping ⟨false, 3, some 101, 0, none⟩ 2 with shd := [(Obj.PG_CMD 1, 5)] }
    (fun t => decide (t.active (Obj.PG_CMD 1) = 5) && decide (t.obj Obj.SHD_GENERATION = 1) && decide (t.obj Obj.SHD_STATE = 4)),
  gives .swapTakeEffect (swapping ⟨false, 3, some 102, 0, none⟩ 2) (same (swapping ⟨false, 3, some 102, 0, none⟩ 2)),
  gives .swapTakeEffect ((swapping ⟨false, 3, some 101, 0, none⟩ 2).setObj Obj.PWR_WARN_ACTIVE 1) (fun t => decide (t.obj Obj.SHD_STATE = 3) &&
    decide (t.obj Obj.SHD_DEFER_COUNT = 1)),
  ok Obj.PRISM_SWAP_CANCEL 2 1 up && gives (.prismSwapCancel rq) up (answers 7),
  gives (.prismSwapCancel rq) (swapping ⟨true, 3, some 101, 1, none⟩ 2) (answers 8),
  gives (.prismSwapCancel rq) (swapping ⟨true, 3, some 102, 1, none⟩ 2) (fun t => answers 0 t && decide (t.obj Obj.SHD_STATE = 1)),
  gives (.prismSwapCancel rq) (swapping ⟨false, 3, none, 1, some 50⟩ 3) (answers 0),
  gives .swapAbandon ({ swapping ⟨false, 3, none, 1, some 50⟩ 3 with now := 80049 }) (fun t => decide (t.obj Obj.SHD_STATE = 1) &&
    decide (t.shadow.swap = none)),
  gives .swapAbandon ({ swapping ⟨false, 3, none, 1, some 50⟩ 3 with now := 80048 }) (fun t => t.shadow.swap.isSome),
  ok Obj.SHD_REVERT 2 1 up && gives (.shdRevert rq) { up with shd := [(Obj.PG_CMD 1, 5)] } (fun t => answers 0 t && decide (t.shd = []) &&
    decide (t.obj Obj.SHD_STATE = 4)),
  gives (.shdRevert rq) (up.setObj Obj.SHD_STATE 4) (answers 6),
  gives .syncDone ((up.setObj Obj.SHD_STATE 4).withShadow fun h => { h with sync := some ⟨37, 64, [], 0, [], []⟩ })
    (fun t => decide (t.obj Obj.SHD_STATE = 0)),
  gives .syncDone ((up.setObj Obj.SHD_STATE 4).withShadow fun h => { h with sync := some ⟨38, 64, [], 0, [], []⟩ })
    (fun t => decide (t.obj Obj.SHD_STATE = 4)),
  gives (.blockRegenerate 31 244 21) (((up.setObj Obj.SHD_STATE 4).withShadow fun h => { h with sync := some ⟨38, 64, [7839], 0, [], []⟩ }).setPage 0 (245 * 31 + 244) { bad := true }) (fun t => decide (t.shadow.sync = some ⟨38, 84, [7839], 1, [], [(7839, 120)]⟩))] := by
  decide +kernel

/-- Engine 0 with its far end heard and one change under way. -/
def changing (c : LineChange) : State := (up.setObj (Obj.OH_FFF_RX_ENABLE 0) 1).setChange 0 15 c
def smxRaw (op version move target : Nat) : Nat :=
  let body := packBytes [(1, op * 16 + version), (1, move), (4, 9), (6, 0), (2, target), (1, 0)]
  body * 256 + crc 8 0x07 0 120 body
def smx (op version move target : Nat) (answer : Bool) : SmxMessage := ⟨if answer then 1 else 0, smxRaw op version move target⟩

/-- LineChangesFollowTheExchange. -/
theorem test_LineChangesFollowTheExchange : Checks [
  gives (.smxMessageReceive 0 (smx 1 2 3 4 false)) (changing {}) (same (changing {})),
  gives (.smxMessageReceive 0 (smx 1 1 3 4 false)) (changing {}) (fun t => decide (Map.get none t.shadow.answers (Key.unit 0) = some ⟨4, 3, 4, 1⟩)),
  decide ((changing { side := 1, move := 3, target := 4 }).ownMoves 0 = [(15, { side := 1, move := 3, target := 4 })]) &&
    gives (.smxMessageReceive 0 (smx 2 1 3 4 true)) (changing { side := 1, move := 3, target := 4 }) (fun t => (t.change 0 15).any (·.acked)),
  gives (.smxMessageReceive 0 (smx 4 1 3 4 true)) (changing { side := 1, move := 3, target := 4 })
    (fun t => (t.change 0 15).any fun c => decide (c.state = 3)),
  gives (.smxMessageReceive 0 ⟨0, smxRaw 1 1 3 4 + 1⟩) (changing {}) (same (changing {})),
  gives (.smxTargetMultiframe 0 true 65535) (changing { side := 1, target := 0, acked := true })
    (fun t => (t.change 0 15).any fun c => decide (c.state = 2)),
  gives (.smxTargetMultiframe 0 true 65535) (changing { side := 1, target := 0 }) (fun t => (t.change 0 15).any fun c => decide (c.state = 1) &&
    decide (c.target = 127)),
  gives (.smxTargetMultiframe 0 true 65536) (changing { side := 1, target := 0, state := 2 }) (fun t => decide (t.change 0 15 = none) &&
    decide (t.changes.length = 1)),
  gives (.lcrMessageReceive 0 ⟨true, 9, 2, 1, false, 77⟩) (changing { kind := 1, tpn := 9, oldFirst := 0, oldCount := 2, newFirst := 0, newCount := 3 }) (fun t => (t.change 0 15).any fun c => decide (c.state = 2) && decide (c.target = 77)),
  gives (.lcrMessageReceive 0 ⟨true, 9, 1, 1, false, 77⟩) (changing { kind := 1, tpn := 9, oldFirst := 0, oldCount := 2, newFirst := 0, newCount := 3 }) (fun t => decide (Map.get none t.shadow.lcrAnswers (Key.unit 0) = some ⟨4, 0, 77, 2⟩)),
  gives (.lcrMessageReceive 0 ⟨true, 9, 2, 1, true, 77⟩) (changing { kind := 1, tpn := 9 })
    (fun t => (t.change 0 15).any fun c => decide (c.cause = 6)),
  gives (.lcrResizeMultiframe 0 15 77) (changing { kind := 1, state := 2, acked := true, target := 77 }) (fun t => decide (t.change 0 15 = none)),
  gives (.lineChgTimeout 0 15 3360) (changing {}) (fun t => (t.change 0 15).any fun c => decide (c.cause = 5)) &&
    gives (.lineChgTimeout 0 15 3359) (changing {}) (same (changing {})),
  ok (Obj.LINE_CHG_RETRY 0) 2 15 up && gives (.lineChgRetry rq 0 ⟨2, 15⟩) (changing { state := 3 }) (fun t => answers 0 t &&
    (t.change 0 15).any fun c => decide (c.state = 1) && decide (c.target = 128)),
  gives (.lineChgRetry rq 0 ⟨2, 15⟩) (changing {}) (answers 5)] := by
  decide +kernel

/-- A revertive group 65,535 of type 2, unidirectional or with APS, points 1 and 2, hold-off 10 and wait to restore 20. -/
def groupEntry (aps : Bool) : Nat :=
  packWords [2 ^ 31 + 2 * 2 ^ 27 + 2 ^ 26 + aps.toNat * 2 ^ 25, linePort 0 0 1, linePort 1 0 1, 1, 2, 10, 20, 0]
def protecting (aps : Bool) (workingFails : Bool) (r : PgRun) : State :=
  ({ up with act := [(Obj.PG_CFG 65535, groupEntry aps)] }.withProt fun p =>
    { p with records := if workingFails then [(Key.unit 1, 2 ^ 14)] else [] }).setPgRun 65535 r

/-- ProtectionGroupsSwitch: hold-off, wait to restore and Periscope hold end with the coming tick. -/
theorem test_ProtectionGroupsSwitch : Checks [
  (groupAt (protecting false true {}).act 65535).valid && !usesAps (groupAt (protecting false true {}).act 65535),
  gives (.holdoffExpire 65535) (protecting false true { holdFrom := some 91 }) (fun t => decide ((t.pgRun 65535).request = 8) &&
    (t.pgRun 65535).selector && decide (t.obj (Obj.PG_SWITCH_COUNT 65535) = 1)),
  gives (.wtrExpire 65535) (protecting false false { wtrFrom := some 81, request := 3, selector := true })
    (fun t => decide ((t.pgRun 65535).request = 0) && !(t.pgRun 65535).selector),
  gives (.pscHoldExpire 65535) ({ protecting false false { pscFrom := some 1, request := 6, own := 6, selector := true } with now := 8000000 })
    (fun t => decide ((t.pgRun 65535).request = 3) && (t.pgRun 65535).selector)] := by
  decide +kernel

/-- ProtectionMessagesArrive: the third occurrence, protocol failures, newer and older records, and 64 ticks of silence. -/
theorem test_ProtectionMessagesArrive : Checks [
  gives (.apsReceive 0 ⟨5, 0, 0, 0, true, true, 0⟩) up (same up),
  usesAps (groupAt (protecting true false {}).act 65535) &&
    gives (.apsReceive 65535 ⟨5, 0, 0, 0, true, true, 0⟩) (protecting true false {}) (fun t => decide ((t.pgRun 65535).aps.run = 1)),
  gives (.apsReceive 65535 ⟨5, 0, 0, 0, true, true, 0⟩) (protecting true false { aps := { last := 5, run := 2 } })
    (fun t => decide (t.obj (Obj.PG_APS_RX 65535) = 5)),
  gives (.apsReceive 65535 ⟨5, 0, 0, 0, false, true, 0⟩) (protecting true false { aps := { last := 5, run := 2 } })
    (fun t => decide ((t.pgRun 65535).fop = 3)),
  gives (.apsReceive 65535 ⟨5, 0, 0, 0, true, false, 0⟩) (protecting true false { aps := { last := 5, run := 2 } }) (fun t => t.declared Df.fop 65535),
  gives (.fopMismatchTimeout 65535) { protecting true false { aps := { mismatchSince := some 7 } } with now := 40007 }
    (fun t => decide ((t.pgRun 65535).fop = 2)),
  gives (.remoteRecordReceive 5 6 0 9) { up with act := [(Obj.PG_REMOTE 63, 2 ^ 31 + 5 * 2 ^ 24 + 6 * 2 ^ 16)] }
    (fun t => decide (Map.get {} t.prot.remotes (Key.unit 63) = ⟨9, some 0, 100, false⟩)),
  gives (.remoteRecordReceive 5 6 0 9) ({ up with act := [(Obj.PG_REMOTE 63, 2 ^ 31 + 5 * 2 ^ 24 + 6 * 2 ^ 16)] }.withProt fun p => { p with remotes := [(Key.unit 63, ⟨8, some 1, 50, false⟩)] }) (fun t => decide (Map.get {} t.prot.remotes (Key.unit 63) = ⟨8, some 1, 50, false⟩)),
  gives (.remoteStale 63) ({ up with act := [(Obj.PG_REMOTE 63, 2 ^ 31 + 5 * 2 ^ 24 + 6 * 2 ^ 16)] }.withProt fun p => { p with remotes := [(Key.unit 63, ⟨8, some 1, 35, false⟩)] }) (fun t => (Map.get {} t.prot.remotes (Key.unit 63)).stale && decide (t.changes.length = 1)),
  gives (.remoteStale 0) up (same up)] := by
  decide +kernel

/-! ### Merge groups and line encryption -/

/-- Merge group 2,047 with DELAY 100 in a state of MM_STATE. -/
def merging (state : Nat) (r : MmRun) : State :=
  ({ lit with act := [(Obj.PG_CFG 0, packWords [2 ^ 31 + 9 * 2 ^ 27, linePort 0 0 1, linePort 1 0 1, 1, 2, 0, 0, 2047 * 2 ^ 21 + 100])] }.withProt
    fun p => { p with merges := [(Key.unit 2047, r)] }).setObj (Obj.MM_STATE 2047) (state * 2 ^ 28)
def settled (d : Int) : MmRun := { runW := 7, runP := 8, lastW := some 41, diffs := List.replicate 8 d }
def late (d : Int) (reported : Bool) : MmRun := { diffs := [d], lateSince := some 10, lateReported := reported }

/-- MirrorMergeAligns: 3 ticks early, DELAY itself and one above, 64 frames without sequence, the wait, HBM. -/
theorem test_MirrorMergeAligns : Checks [
  gives (.mmFrameComplete 0 false ⟨some 1, false, false, false⟩) up (same up),
  decide ((merging 1 {}).mmGroup 2047 = some (0, groupAt (merging 1 {}).act 0)) && decide (mergeDelay (groupAt (merging 1 {}).act 0) = 100),
  gives (.mmFrameComplete 2047 false ⟨some 42, false, false, false⟩) (merging 1 (settled (-3))) (fun t => decide (t.mmState 2047 = 2) &&
    t.mmEarly 2047 && decide (t.mmDelta 2047 = 3)),
  gives (.mmFrameComplete 2047 false ⟨some 42, false, false, false⟩) (merging 1 (settled 100)) (fun t => decide (t.mmState 2047 = 2) &&
    decide (t.mmDelta 2047 = 100)),
  gives (.mmFrameComplete 2047 false ⟨some 42, false, false, false⟩) (merging 1 (settled 101)) (fun t => decide (t.mmState 2047 = 3) &&
    (t.mm 2047).delay),
  gives (.mmFrameComplete 2047 false ⟨none, false, false, false⟩) (merging 2 { noseqW := 63, noseqP := 64 })
    (fun t => decide (t.mmState 2047 = 3) && decide (t.mmCause 2047 = 1)),
  gives (.mmAutoRetime 2047) ({ merging 2 (late (-5) false) with now := 800009 }) (same { merging 2 (late (-5) false) with now := 800009 }),
  gives (.mmAutoRetime 2047) ({ merging 2 (late (-5) false) with now := 800010 }) (fun t => t.mmEarly 2047 && decide (t.mmDelta 2047 = 5) &&
    decide ((t.mm 2047).notValid = 5)),
  gives (.mmAutoRetime 2047) ({ merging 2 (late 101 false) with now := 800010 }) (fun t => (t.mm 2047).lateReported && decide (t.changes.length = 1)),
  gives (.mmAutoRetime 2047) ({ merging 2 (late 101 true) with now := 800010 }) (same { merging 2 (late 101 true) with now := 800010 }),
  ok Obj.MM_RETIME 2 2047 up && gives (.mmRetime rq ⟨2, 2047⟩) up (fun t => answers 0 t && (t.mm 2047).retime),
  gives (.hbmFailure none) (merging 2 {}) (fun t => t.prot.hbmFault && decide (t.mmState 2047 = 3)),
  gives (.hbmFailure (some 17)) (merging 1 {}) (fun t => decide (t.mmState 2047 = 3)),
  gives .hbmReturn ((merging 3 {}).withProt fun p => { p with hbmFault := true }) (fun t => !t.prot.hbmFault && decide (t.mmState 2047 = 1))] := by
  decide +kernel

/-- A half-by-half state of channel 1,023 of engine 0 that transmits and receives connection 1, with a receive policy. -/
def secure (policy : Nat) (c : SecChan) : State :=
  { lit with act := [(Obj.SEC_CHAN 0 1023, 2 ^ 127 + 2 ^ 126 + policy * 2 ^ 124 + 2 ^ 121 + 2 ^ 96 + 2 ^ 95 + 2 ^ 64)] }.withSec fun x =>
    { x with channels := [(Key.unit 1023, c)] }
def installed (ch side epoch : Nat) : Val := ⟨44, ch * 256 ^ 42 + side * 256 ^ 41 + epoch * 256 ^ 37 + 77⟩
def hostKeys (c : SecChan) : State := (secure 2 c).setObj (Obj.SEC_KEY_SOURCE 0) 1

/-- KeyStoreWrites: a port in use, a channel and an epoch outside, the last channel of each side, a warning, a roll, erasure. -/
theorem test_KeyStoreWrites : Checks [
  ok (Obj.SEC_MAP 79) 2 1 up && gives (.secMapWrite rq 79 ⟨2, 1⟩) up (answers 0),
  (withConn 1 (connEntry 1 (5 * 2 ^ 28 + 15 * 2 ^ 24) (linePort 0 0 1) 1) up).mapUsed 79 &&
    gives (.secMapWrite rq 79 ⟨2, 1⟩) (withConn 1 (connEntry 1 (5 * 2 ^ 28 + 15 * 2 ^ 24) (linePort 0 0 1) 1) up) (answers 7),
  acceptedB rq so (Obj.SEC_KEY_INSTALL 0) (installed 1024 0 0) (installed 1024 0 0) up &&
    gives (.secKeyInstall rq 0 (installed 1024 0 0)) up (answers 5),
  gives (.secKeyInstall rq 0 (installed 1023 0 1)) up (answers 5) && gives (.secKeyInstall rq 0 (installed 1023 2 0)) up (answers 5),
  gives (.secKeyInstall rq 0 (installed 1023 0 0)) up (answers 7),
  gives (.secKeyInstall rq 0 (installed 1023 1 0)) (hostKeys { announced := true, rxNext := some ⟨0, 1⟩ }) (answers 1),
  gives (.secKeyInstall rq 0 (installed 1023 1 0)) (hostKeys {}) (fun t => answers 0 t && decide ((t.secChan 0 1023).rxNext = some ⟨0, 77⟩)),
  gives (.secKeyInstall rq 0 (installed 1023 0 6)) (hostKeys { txCurrent := some ⟨5, 1⟩ }) (fun t => answers 0 t &&
    decide ((t.secChan 0 1023).txNext = some ⟨6, 77⟩)),
  gives (.secKeyInstall rq 0 (installed 1023 0 0)) (hostKeys { txCurrent := some ⟨2 ^ 24 - 1, 1⟩ }) (answers 5),
  gives (.secKeyInstall rq 0 (installed 1023 1 0)) ((hostKeys {}).setObj Obj.PWR_WARN_ACTIVE 1) (fun t => answers 0 t &&
    (t.secChan 0 1023).deferred && decide (t.sec.deferred = [.install 0 1023 true ⟨0, 77⟩])),
  ok (Obj.SEC_ROLL 0) 2 1023 (secure 2 {}) && gives (.secRoll rq 0 ⟨2, 1023⟩) (secure 2 { txCurrent := some ⟨5, 1⟩ }) (fun t => answers 0 t &&
    (t.secChan 0 1023).rolling),
  gives (.secRoll rq 0 ⟨2, 1023⟩) (secure 2 {}) (fun t => answers 0 t && !(t.secChan 0 1023).rolling),
  ok Obj.SEC_ZEROISE 2 1 up && gives (.secZeroise rq ⟨2, 1⟩) ((secure 2 { txCurrent := some ⟨5, 1⟩ }).setObj (Obj.SEC_LINK_STATE 3) 2)
    (fun t => answers 0 t && decide ((t.secChan 0 1023).txCurrent = none) && decide (t.obj (Obj.SEC_LINK_STATE 3) = 0)),
  gives .keyDeferredProceed ((up.setObj Obj.PWR_WARN_ACTIVE 1).withSec fun x => { x with deferred := [.install 0 5 true ⟨0, 7⟩] })
    (fun t => decide (t.sec.deferred.length = 1)),
  gives .keyDeferredProceed (up.withSec fun x => { x with deferred := [.install 0 5 true ⟨0, 7⟩] })
    (fun t => decide ((t.secChan 0 5).rxNext = some ⟨0, 7⟩) && decide (t.sec.deferred = []))] := by
  decide +kernel

def secFrame (ki fc : Nat) : SecFrame := { body := { soh := (ki * 64 + 32) * 2 ^ 40 + fc } }
def clearFrame : SecFrame := { body := {} }

/-- SecureFramesAreChecked: each outcome of a received and of a transmitted frame, and the switch. -/
theorem test_SecureFramesAreChecked : Checks [
  gives (.secRxFrame 0 0 clearFrame) lit (same lit) && !lit.sectionFail 0,
  gives (.secRxFrame 0 1023 clearFrame) (secure 2 { failRun := 2 }) (fun t => decide (t.obj (Obj.SEC_REJECT 0 1023) = 1) && t.declared Df.auth 1023),
  gives (.secRxFrame 0 1023 clearFrame) (secure 1 { failRun := 2 }) (fun t => decide ((t.secChan 0 1023).failRun = 0)),
  gives (.secRxFrame 0 1023 { clearFrame with maintenance := true }) (secure 2 {}) (fun t => decide ((t.secChan 0 1023).delivered = some {})),
  gives (.secRxFrame 0 1023 (secFrame 1 9)) (secure 2 { rxCurrent := some ⟨5, 1⟩, lastFc := some 9 })
    (fun t => decide (t.obj (Obj.SEC_REJECT 0 1023) = 1)),
  gives (.secRxFrame 0 1023 { secFrame 1 10 with ticks := 4 }) (secure 2 { rxCurrent := some ⟨5, 1⟩, lastFc := some 9 })
    (fun t => decide (t.agenda.length = 1)),
  ({ rxCurrent := some ⟨5, 1⟩, lastFc := some 9 } : SecChan).accepts 2 (sealFrame ⟨5, 1⟩ 10 {}) &&
    decide (({ rxCurrent := some ⟨5, 1⟩ } : SecChan).keyFor (sealFrame ⟨5, 1⟩ 10 {}).ki = some (false, ⟨5, 1⟩)),
  ({ rxCurrent := some ⟨5, 1⟩, rxNext := some ⟨6, 2⟩, lastFc := some 9 } : SecChan).accepts 2 (sealFrame ⟨6, 2⟩ 0 {}) &&
    decide (({ rxCurrent := some ⟨5, 1⟩, rxNext := some ⟨6, 2⟩ } : SecChan).keyFor (sealFrame ⟨6, 2⟩ 0 {}).ki = some (true, ⟨6, 2⟩)),
  gives (.secTxFrame 0 0 ⟨false, {}⟩) lit (same lit),
  gives (.secTxFrame 0 1023 ⟨true, { soh := 9 }⟩) (secure 2 { soh := 5 }) (fun t => decide ((t.secChan 0 1023).soh = 0) && !(t.secChan 0 1023).lck &&
    decide ((t.secChan 0 1023).sent = some {})),
  gives (.secTxFrame 0 1023 ⟨false, {}⟩) (secure 2 {}) (fun t => (t.secChan 0 1023).lck),
  gives (.secTxFrame 0 1023 ⟨false, {}⟩) (secure 2 { txCurrent := some ⟨5, 1⟩, fc := 2 ^ 39 - 1 }) (fun t => decide ((t.secChan 0 1023).fc = 2 ^ 39) &&
    decide ((t.secChan 0 1023).soh = 96 * 2 ^ 40 + 2 ^ 39 - 1) && decide (t.obj (Obj.SEC_TX_FC 0 1023) = 2 ^ 39 - 1)),
  gives (.secTxFrame 0 1023 ⟨false, {}⟩) (secure 2 { txCurrent := some ⟨5, 1⟩, fc := 2 ^ 40 - 1 }) (fun t => (t.secChan 0 1023).rekeyDue &&
    decide ((t.secChan 0 1023).fc = 2 ^ 40) && decide (t.changes.length = 1)),
  gives (.secTxFrame 0 1023 ⟨false, {}⟩) (secure 2 { txCurrent := some ⟨5, 1⟩, fc := 2 ^ 40 }) (fun t => (t.secChan 0 1023).lck &&
    t.declared Df.keyExh 1023),
  gives (.keySwitch 0 1023) (secure 2 { txCurrent := some ⟨5, 1⟩, txNext := some ⟨6, 2⟩, eligible := some 100 })
    (fun t => decide ((t.secChan 0 1023).txCurrent = some ⟨5, 1⟩)),
  gives (.keySwitch 0 1023) (secure 2 { txCurrent := some ⟨5, 1⟩, txNext := some ⟨6, 2⟩, eligible := some 99, fc := 8 })
    (fun t => decide ((t.secChan 0 1023).txCurrent = some ⟨6, 2⟩) && decide ((t.secChan 0 1023).fc = 0)),
  gives (.keySwitch 0 1023) ((secure 2 { txCurrent := some ⟨5, 1⟩, txNext := some ⟨6, 2⟩, eligible := some 99 }).setObj Obj.PWR_WARN_ACTIVE 1) (fun t => (t.secChan 0 1023).deferred)] := by
  decide +kernel

/-- SecureFramesAreChecked: a frame whose tag fits, and one whose tag does not. -/
theorem test_TagsFitAndFail : tagFits ⟨5, 1⟩ (sealFrame ⟨5, 1⟩ 10 {}) = true ∧ ∃ tag : Nat, tagFits ⟨5, 1⟩ { soh := 96 * 2 ^ 40 + 10, payload := tag } = false := by
  constructor
  · have fc : (sealFrame ⟨5, 1⟩ 10 {}).fc = 10 := by simp [OduBody.fc, sealFrame_soh, frameSoh, keyIndex]
    rw [tagFits_iff, (sealFrame_payload _ _ _).1, (sealFrame_payload _ _ _).2, fc, sealFrame_aad]
  · rcases h : tagFits ⟨5, 1⟩ { soh := 96 * 2 ^ 40 + 10, payload := 0 } with _ | _
    · exact ⟨0, h⟩
    · refine ⟨1, ?_⟩
      simp only [tagFits, decide_eq_true_eq, decide_eq_false_iff_not] at h ⊢
      exact fun k => absurd (h.symm.trans k) (by decide)

def linked (l : SecLink) : State := (secure 2 {}).withSec fun x => { x with links := [(Key.unit 0, l)] }
def agreeing (a : Agreement) : State := linked { agreement := some a }

/-- KeyAgreementRunsItsMessages: what messages whose digests and signatures are free values lead to is not evaluated; their hypotheses are. -/
theorem test_KeyAgreementRunsItsMessages : Checks [
  decide (up.linkOf 3 = 3) && ok (Obj.SEC_LINK_START 3) 2 1 up,
  gives (.secLinkStart rq 3 ⟨2, 1⟩) up (fun t => answers 0 t && decide (t.obj (Obj.SEC_KA_CAUSE 3) = 1) &&
    decide ((t.link 3).retryAt = some 8000100)),
  gives (.secLinkStart rq 3 ⟨2, 1⟩) (up.setObj Obj.SEC_ENTROPY_STATE 1) (fun t => decide (t.obj (Obj.SEC_KA_CAUSE 3) = 3)),
  gives (.secLinkStart rq 3 ⟨2, 1⟩) (up.setObj (Obj.SEC_PEER_ID 3) 9) (fun t => answers 0 t && decide (t.obj (Obj.SEC_LINK_STATE 3) = 1) &&
    decide (t.fresh = up.fresh + 1)),
  gives (.secLinkStart rq 0 ⟨2, 1⟩) (agreeing { start := 5, nonce := 6 }) (fun t => decide ((t.link 0).agreement = some { start := 5, nonce := 6 })),
  ((agreeing { start := 5, nonce := 6 }).link 0).agreement.any (fun a => decide (a.peer = none)),
  ((agreeing { start := 5, nonce := 6, peer := some (7, 8) }).link 0).agreement.any (fun a => a.peer.isSome && decide (a.secret = none) &&
    !a.initiator),
  ((agreeing { start := 5, nonce := 6, peer := some (7, 8), initiator := true }).link 0).agreement.any (fun a => a.peer.isSome &&
    decide (a.secret = none) && a.initiator),
  ((agreeing { start := 5, nonce := 6, peer := some (7, 8), secret := some 9 }).link 0).agreement.any (fun a => decide (a.secret = some 9)) &&
    decide (up.linkChannels 0 = []),
  decide ((linked { secret := some ⟨9, true, 7, 0⟩ }).linkChannels 0 = [(0, 1023)]) && decide ((linked {}).halfTpn 0 1023 false = 0),
  gives (.kaReady 0 0 0 6 55) (linked { secret := some ⟨9, true, 7, 0⟩ }) (fun t => decide ((t.secChan 0 1023).heard = some (6, 55))),
  gives (.kaReady 0 0 0 6 55) (linked { secret := some ⟨9, false, 7, 0⟩ }) (fun t => decide ((t.secChan 0 1023).heard = none)),
  gives (.kaAbort 0 1) (agreeing { start := 5, nonce := 6 }) (fun t => decide (t.obj (Obj.SEC_KA_CAUSE 0) = 5)),
  gives (.kaTimeout 0) ({ agreeing { start := 5, nonce := 6 } with now := 800005 }) (fun t => decide (t.obj (Obj.SEC_KA_CAUSE 0) = 4)),
  gives (.kaTimeout 0) ({ agreeing { start := 5, nonce := 6 } with now := 800004 }) (same { agreeing { start := 5, nonce := 6 } with now := 800004 }),
  gives (.kaRetry 0) (linked { retryAt := some 100 }) (fun t => decide (t.obj (Obj.SEC_KA_CAUSE 0) = 1)) &&
    gives (.kaRetry 0) (linked { retryAt := some 101 }) (same (linked { retryAt := some 101 })),
  gives (.linkSecretExpire 0) ({ linked { secret := some ⟨9, true, 7, 0⟩ } with now := lit.obj (Obj.SEC_LINK_LIFE 0) * 800000 })
    (fun t => decide (t.obj (Obj.SEC_KA_CAUSE 0) = 1)),
  gives (.entropyFail 2) (agreeing { start := 5, nonce := 6 }) (fun t => decide (t.obj Obj.SEC_ENTROPY_STATE = 1) &&
    decide (t.obj (Obj.SEC_KA_CAUSE 0) = 3)),
  gives (.entropyRecover 1024) (up.setObj Obj.SEC_ENTROPY_STATE 1) (fun t => decide (t.obj Obj.SEC_ENTROPY_STATE = 0)),
  gives (.entropyRecover 1023) (up.setObj Obj.SEC_ENTROPY_STATE 1) (fun t => decide (t.obj Obj.SEC_ENTROPY_STATE = 1))] := by
  decide +kernel

/-! ### Timing, instruments and performance -/

def refAt (r state : Nat) (x : Ref) (s : State) : State := (s.setObj (Obj.TM_REF_STATE r) state).withRef r fun _ => x
def dpAt (d state selected : Nat) (x : Dpll) (s : State) : State :=
  ((s.setObj (Obj.TM_DP_STATE d) state).setObj (Obj.TM_DP_SELECTED d) selected).withDpll d fun _ => x
/-- Lane 63 carries a client of a type, and feeds reference 11. -/
def lane63 (type : Nat) : State := (withClient 63 type { lanes := [63] } up).setObj (Obj.HOST_RCLK_SEL 7) 63

/-- ReferencesFailAndQualify: failure and its end, drift, the wait, PPS edges, levels received and sent. -/
theorem test_ReferencesFailAndQualify : Checks [
  decide (up.refCondition 3 = some true) &&
    gives (.refFail 3 0) (dpAt 0 3 3 {} (refAt 3 3 {} up)) (fun t => decide (t.obj (Obj.TM_REF_STATE 3) = 0) && (t.dpll 0).frozen &&
    decide ((t.ref 3).lostAt = 100)),
  decide (up.refCondition 19 = none) && gives (.refFail 19 1000999999) (refAt 19 3 {} up) (same (refAt 19 3 {} up)),
  gives (.refFail 19 1001000000) (refAt 19 3 {} up) (fun t => decide (t.obj (Obj.TM_REF_STATE 19) = 0)),
  gives (.refFailClear 17 8) up (fun t => decide (t.obj (Obj.TM_REF_STATE 17) = 2)) && gives (.refFailClear 17 7) up (same up),
  gives (.refFailClear 19 2) (refAt 19 0 { xoSince := some 4 } up) (fun t => decide (t.obj (Obj.TM_REF_STATE 19) = 0) && (t.ref 19).cleared),
  decide (up.peerOffsets 19 = []) && !up.lockedOut 19 && gives (.refCheck 19 0 false)
    ({ (refAt 19 3 { driftSince := some 100 } up).setInt (Obj.TM_REF_DRIFT 19) (-501) with now := 3200100 })
    (fun t => decide (t.obj (Obj.TM_REF_STATE 19) = 1) && decide (t.obj (Obj.TM_REF_DQ_TICK 19) = 100)),
  gives (.refCheck 19 0 false) ({ (refAt 19 3 { driftSince := some 100 } up).setInt (Obj.TM_REF_DRIFT 19) (-500) with now := 3200100 })
    (fun t => decide (t.obj (Obj.TM_REF_STATE 19) = 3) && decide ((t.ref 19).driftSince = none)),
  gives (.refCheck 19 0 false) ({ (refAt 19 3 { xoSince := some 100 } up).setInt (Obj.TM_REF_FOFF 19) 9200001 with now := 1600100 })
    (fun t => decide (t.obj (Obj.TM_REF_STATE 19) = 1) && t.changes.any fun c => decide (c.code = Ev.REF_DISQUAL.code)),
  gives (.refQualify 19) ({ refAt 19 2 { qualifyFrom := 5 } up with now := 240000005 }) (fun t => decide (t.obj (Obj.TM_REF_STATE 19) = 3)),
  gives (.refQualify 19) ({ refAt 19 2 { qualifyFrom := 5 } up with now := 240000004 }) (fun t => decide (t.obj (Obj.TM_REF_STATE 19) = 2)),
  gives (.ppsEdge 1 (-10001)) (refAt 19 3 { outside := 1 } up) (fun t => decide (t.obj (Obj.TM_REF_STATE 19) = 0)) &&
    gives (.ppsEdge 1 10000) (refAt 19 3 { outside := 1 } up) (fun t => decide ((t.ref 19).outside = 0) && decide (t.obj (Obj.TM_REF_STATE 19) = 3)),
  isEthernet ((lane63 12).clientType 63) && !(lane63 12).oduForm 63 &&
    gives (.esmcPduReceive 63 2 (some 0x20)) (refAt 11 3 {} ((lane63 12).setObj (Obj.TM_REF_QL_MODE 11) 1))
    (fun t => decide ((t.ref 11).ssm = some 2) && decide (t.obj (Obj.TM_REF_QL 11) = 2)),
  gives (.esmcPduReceive 63 2 none) (refAt 11 3 {} ((lane63 12).setObj (Obj.TM_REF_QL_MODE 11) 2)) (fun t => decide ((t.ref 11).ssm = none)),
  gives (.s1Receive 63 15) (refAt 11 3 {} ((lane63 14).setObj (Obj.TM_REF_QL_MODE 11) 2)) (fun t => decide ((t.ref 11).ssm = some 15) &&
    decide (t.obj (Obj.TM_REF_QL 11) = 14)),
  gives (.esmcTimeout 11) ({ refAt 11 3 { ssm := some 2, lastPdu := some 7 } (up.setObj (Obj.TM_REF_QL_MODE 11) 1) with now := 4000007 })
    (fun t => decide ((t.ref 11).ssm = none)),
  gives (.esmcInfoTx 63) (((lane63 12).setObj (Obj.TM_ESMC_TX 63) 1).withTiming fun t => { t with esmc := [(Key.unit 63, some ⟨4, false, 3, 0, 0, 0⟩)] }) (fun t => decide (Map.get none t.timing.esmc (Key.unit 63) = some ⟨11, true, 3, 11, 0xFF, 100⟩))] := by
  decide +kernel

def stamp : PtpStamp := ⟨1, 6, false, 0, true, 2, 3, 4, 0, 0, 0, .ethernet 0x88F7, 0⟩

/-- DpllsAndTimeOfDay: the three changes due, lock, slewing, the XO, the time of day, R362 at its bound, timestamps. -/
theorem test_DpllsAndTimeOfDay : Checks [
  decide (up.dpChange 3 = none) && gives (.dpllSwitchCommit 3 5 false) (dpAt 3 0 0xFFFF { frozen := true } up) (fun t => !(t.dpll 3).frozen),
  decide (((refAt 2 3 {} up).setObj (Obj.TM_REF_QL 2) 4 |>.setObj (Obj.TM_DP_PRIO 3 2) 1).dpChange 3 = some (some 2)),
  gives (.dpllSwitchCommit 3 (-5) false) ((refAt 2 3 {} up).setObj (Obj.TM_REF_QL 2) 4 |>.setObj (Obj.TM_DP_PRIO 3 2) 1)
    (fun t => decide (t.obj (Obj.TM_DP_SELECTED 3) = 2) && decide (t.obj (Obj.TM_DP_STATE 3) = 1) && decide ((t.dpll 3).slew = -5)),
  gives (.dpllSwitchCommit 3 (-5) false) (dpAt 3 4 0xFFFF {} ((refAt 2 3 {} up).setObj (Obj.TM_REF_QL 2) 4 |>.setObj (Obj.TM_DP_PRIO 3 2) 1)) (fun t => decide (t.obj (Obj.TM_DP_STATE 3) = 2)),
  decide ((dpAt 3 3 2 {} up).dpChange 3 = some none) &&
    gives (.dpllSwitchCommit 3 0 false) (dpAt 3 3 2 {} up) (fun t => decide (t.obj (Obj.TM_DP_SELECTED 3) = 0xFFFF) &&
    decide (t.obj (Obj.TM_DP_STATE 3) = 0)),
  gives (.dpllSwitchCommit 3 0 false) (refAt 2 1 { lostAt := 96000005 } (dpAt 3 3 2 { history := [⟨6, 999⟩, ⟨5, -4⟩, ⟨4, -7⟩] } up))
    (fun t => decide (t.obj (Obj.TM_DP_STATE 3) = 4) && decide (t.obj (Obj.TM_HO_VALUE 3) = 2 ^ 64 - 6) && decide (t.obj (Obj.TM_HO_QUALITY 3) = 1)),
  gives (.dpllFrequencyLock 3 800000 7) (dpAt 3 1 2 {} up) (fun t => decide (t.obj (Obj.TM_DP_STATE 3) = 2) && decide ((t.dpll 3).slew = 7)) &&
    gives (.dpllFrequencyLock 3 799999 7) (dpAt 3 1 2 {} up) (same (dpAt 3 1 2 {} up)),
  gives (.slewDone 3) (dpAt 3 2 2 { slew := 9, slewStart := 100, newReference := true, history := [⟨5, 4⟩] } up)
    (fun t => decide (t.obj (Obj.TM_DP_STATE 3) = 3) && decide ((t.dpll 3).history = [])),
  gives (.slewDone 3) (dpAt 3 2 2 { slew := -10, slewStart := 100 } up) (fun t => decide (t.obj (Obj.TM_DP_STATE 3) = 2)),
  gives (.xoFail (some 201)) (refAt 0 3 { xoSince := some 4 } up) (fun t => decide (t.obj Obj.TM_XO_STATE = 1) &&
    decide ((t.ref 0).xoSince = none)) && gives (.xoFail (some 200)) up (same up),
  gives (.xoReturn 200 8000000) (up.setObj Obj.TM_XO_STATE 1) (fun t => decide (t.obj Obj.TM_XO_STATE = 0)) &&
    gives (.xoReturn 201 8000000) (up.setObj Obj.TM_XO_STATE 1) (same (up.setObj Obj.TM_XO_STATE 1)),
  ok Obj.TM_TOD_SET 8 77 up && gives (.tmTodSet rq ⟨8, 77⟩) up (fun t => answers 0 t && decide (t.timing.toSet = some 77)),
  ok (Obj.TM_DP_PHASE_ADJ 3) 8 (2 ^ 64 - 10000000000) up &&
    gives (.tmDpPhaseAdj rq 3 ⟨8, 2 ^ 64 - 3⟩) (dpAt 3 3 2 { adjust := 8, slewStart := 100 } up) (fun t => answers 0 t &&
    decide ((t.dpll 3).adjust = 5)),
  ok Obj.TM_DRIFT_SOAK 2 60 up && gives (.tmHoParamWrite rq .driftSoak ⟨2, 60⟩) up (answers 0),
  ok (Obj.TM_HO_GUARD 3) 2 20 up && gives (.tmHoParamWrite rq (.guardTime 3) ⟨2, 20⟩) up (answers 5) &&
    gives (.tmHoParamWrite rq (.guardTime 3) ⟨2, 21⟩) up (answers 0),
  ok (Obj.TM_HO_WINDOW 0) 2 900 up && gives (.tmHoParamWrite rq (.guardTime 3) ⟨2, 300⟩) up (answers 0),
  gives .todSecondRollover up (same up) && gives .todSecondRollover ({ up with now := 799999 }.withTiming fun t => { t with toSet := some 77 }) (fun t => decide (t.timing.seconds = 77) && t.timing.rolled && t.pm.suspect),
  gives (.ptpTimestamp 63 stamp) (lane63 12) (same (lane63 12)),
  gives (.ptpTimestamp 63 { stamp with carrier := .ipv4 320 }) ((lane63 12).setObj (Obj.TM_TS_CFG 63) 1) (same ((lane63 12).setObj (Obj.TM_TS_CFG 63) 1)),
  gives (.ptpTimestamp 63 { stamp with egress := true, twoStep := false, correction := -5, residence := 12, carrier := .ipv6 319, checksum := 9 })
    ((lane63 12).setObj (Obj.TM_TS_CFG 63) 2) (fun t => decide (t.timing.correction = [(Key.unit 63, 7)])),
  gives (.ptpTimestamp 63 stamp) (((lane63 12).setObj (Obj.TM_TS_CFG 63) 1).setObj Obj.TM_TS_WR 4095) (fun t => decide (t.obj Obj.TM_TS_WR = 0) &&
    decide (t.timing.unread = [4095]) && decide (t.obj (Obj.TM_TS_RING 4095) = (2 ^ 30 + 1) * 2 ^ 64 + 128 * 2 ^ 56 + 63 * 2 ^ 48 + 2 * 2 ^ 32 + 3 * 2 ^ 16 + 4)),
  gives (.ptpTimestamp 63 stamp) (((lane63 12).setObj (Obj.TM_TS_CFG 63) 2).withTiming fun t => { t with unread := [0] })
    (fun t => decide (t.obj Obj.TM_TS_OVF = 1))] := by
  decide +kernel

/-- EstimatesAndPeriscope: ranges, the first second, round trips, and the four ways a transient is classified. -/
theorem test_EstimatesAndPeriscope : Checks [
  (rx 0 8 id).rxValid 0 && gives (.measUpdate 0 ⟨4001, 5, 7, 601, -2501⟩) ({ rx 0 8 (fun r => { r with validSince := 20100 }) with now := 100100 }) (fun t => decide (t.obj (Obj.MEAS_OSNR 0) = 4000) && decide (t.obj (Obj.MEAS_PDL 0) = 600) && decide (t.obj (Obj.MEAS_SIG_POWER 0) = 2 ^ 32 - 2500) && decide (t.obj (Obj.MEAS_VALID 0) = 0)),
  gives (.measUpdate 0 ⟨4001, 5, 7, 601, -2501⟩) ({ rx 0 8 id with now := 800000 }) (fun t => decide (t.obj (Obj.MEAS_VALID 0) = 0x3F)),
  gives (.rtdMeasure 0 55) (withConn 1 (connEntry 1 (hostPort 1 0) (linePort 0 0 1) 1) ((rx 0 8 id).setObj (Obj.MEAS_RTD_CONN 0) 1))
    (fun t => decide ((t.engine 0).rtdSent = some 55)),
  gives (.rtdMeasure 0 55) ({ withConn 1 (connEntry 1 (hostPort 1 0) (linePort 0 0 1) 1) ((rx 0 8 fun r => { r with
      rtdSent := some 54, rtdAt := some 7 }).setObj (Obj.MEAS_RTD_CONN 0) 1) with now := 800007 })
    (fun t => decide ((t.engine 0).rtdSent = some 55) && decide (t.changes.length = 1)),
  gives (.rtdReturn 0 95) ({ rx 0 8 (fun r => { r with rtdSent := some 55, rtdAt := some 5 }) with now := 800000 })
    (fun t => decide (t.obj (Obj.MEAS_RTD 0) = 10) && bit (t.obj (Obj.MEAS_VALID 0)) 6),
  gives (.rtdReturn 0 95) ({ rx 0 7 (fun r => { r with rtdSent := some 55, rtdAt := some 5 }) with now := 800000 })
    (fun t => decide (t.obj (Obj.MEAS_RTD 0) = 0) && decide ((t.engine 0).rtdSent = none)),
  gives (.rtdReturn 0 95) ({ rx 0 8 (fun r => { r with rtdSent := some 55, rtdAt := some 5 }) with now := 800006 })
    (fun t => decide (t.obj (Obj.MEAS_RTD 0) = 0) && decide (t.changes.length = 1)),
  gives (.rtdReturn 0 95) (rx 0 8 id) (same (rx 0 8 id)) && gives (.rtdTimeout 0) (rx 0 8 id) (same (rx 0 8 id)),
  gives (.rtdTimeout 0) ({ rx 0 8 (fun r => { r with rtdSent := some 55, rtdAt := some 7 }) with now := 800007 })
    (fun t => decide ((t.engine 0).rtdSent = none) && decide (t.changes.length = 1)),
  gives (.rtdTimeout 0) ({ rx 0 8 (fun r => { r with rtdSent := some 55, rtdAt := some 7 }) with now := 800006 })
    (fun t => decide ((t.engine 0).rtdSent = some 55)),
  gives (.pscTransientOpen 0 5001) (rx 0 8 id) (fun t => decide (t.obj (Obj.PSC_STATE 0) = 1)) &&
    gives (.pscTransientOpen 0 5000) (rx 0 8 id) (same (rx 0 8 id)),
  gives (.pscClassify 0 200000 1) ((rx 0 8 fun r => { r with pscOpened := 92 }).setObj (Obj.PSC_STATE 0) 1)
    (fun t => decide ((t.engine 0).pscClass = 2) && decide (t.obj (Obj.PSC_COUNT 0 1) = 1)),
  gives (.pscClassify 0 200000 1) ((rx 0 8 fun r => { r with pscOpened := 91 }).setObj (Obj.PSC_STATE 0) 1)
    (fun t => decide ((t.engine 0).pscClass = 3)),
  gives (.pscClassify 0 199999 16000) ({ (rx 0 8 fun r => { r with pscOpened := 91 }).setObj (Obj.PSC_STATE 0) 1 with now := 16090 })
    (fun t => decide ((t.engine 0).pscClass = 1)),
  gives (.pscClassify 0 199999 800) ({ (rx 0 8 id).setObj (Obj.PSC_STATE 0) 1 with now := 80000 }) (fun t => decide ((t.engine 0).pscClass = 3)),
  gives (.pscClassify 0 199999 800) ({ (rx 0 8 id).setObj (Obj.PSC_STATE 0) 1 with now := 80001 }) (fun t => decide ((t.engine 0).pscClass = 0)),
  gives (.pscClassify 0 199999 15999) ({ (rx 0 8 fun r => { r with pscOpened := 91 }).setObj (Obj.PSC_STATE 0) 1 with now := 16090 })
    (fun t => decide (t.obj (Obj.PSC_STATE 0) = 1)),
  gives (.pscTransientClose 0 800000 9) ({ (rx 0 8 fun r => { r with pscClass := 3, pscPeak := 8 }).setObj (Obj.PSC_STATE 0) 2 with now := 900000 })
    (fun t => decide (t.obj (Obj.PSC_STATE 0) = 0) && decide (t.obj (Obj.PSC_LAST 0) = 3 * 2 ^ 30 + 9)),
  gives (.pscTransientClose 0 800000 9) ((rx 0 8 id).setObj (Obj.PSC_STATE 0) 1) (fun t => decide (t.changes = []))] := by
  decide +kernel

/-- Modulator 14 in a sequence state, with its first step on channel 43 and one result owed. -/
def converting (state : Nat) (h : HkRun) : State :=
  (((((up.setObj (Obj.HK_SEQ_STEPS 14 0) (2 ^ 31 + 43 * 2 ^ 24 + 2)).setObj (Obj.HK_SEQ_STATE 14) state).setObj (Obj.HK_SEQ_MODE 14) 2).setObj
    (Obj.HK_CH_INPUT 43) 0).setObj Obj.HK_RING_WR 16383).withHk 14 fun _ => h

/-- HousekeepingConverts: results, triggers in each state and policy, the end, steps, and interleaving. -/
theorem test_HousekeepingConverts : Checks [
  decide (up.converting 0 = none) && gives (.hkResult 0 5) up (same up) && decide ((converting 1 { validLeft := 2 }).converting 43 = some 14),
  gives (.hkResult 43 (-1)) (converting 1 { validLeft := 2 }) (fun t => decide (t.obj (Obj.HK_CH_LAST 43) = 2 ^ 31 + 43 * 2 ^ 24 + 0xFFFFFF) &&
    decide (t.obj Obj.HK_RING_WR = 0) && decide ((t.hk 14).validLeft = 1)),
  gives (.hkResult 43 (-1)) ((converting 1 { validLeft := 2 }).withInstr fun i => { i with invalid := [(Key.unit 43, 2)] })
    (fun t => decide (t.obj (Obj.HK_CH_LAST 43) = 43 * 2 ^ 24 + 0xFFFFFF) && decide (Map.get 0 t.instr.invalid (Key.unit 43) = 1)),
  gives (.hkResult 44 2500000) (up.setObj (Obj.HK_CH_HIGH 44) 5) (fun t => decide (t.obj Obj.CNV_REFIN_MEAS = 2500000) &&
    decide (t.obj (Obj.HK_CH_LAST 44) = 2 ^ 31 + 2 ^ 30 + 44 * 2 ^ 24 + 2500000) && t.instr.disarmed.contains 44),
  gives (.hkResult 46 3) (up.withInstr fun i => { i with disarmed := [46] }) (fun t => !t.instr.disarmed.contains 46),
  gives (.hkResult 59 3) up (same up) && gives (.hkResult 47 3) up (same up) && gives (.hkResult 48 3) ((rx 0 8 id).setObj (Obj.HK_CH_INPUT 48) 0)
    (fun t => decide (t.obj (Obj.HK_CH_LAST 48) = 2 ^ 31 + 48 * 2 ^ 24 + 3)),
  ok (Obj.HK_SEQ_FIRE 15) 2 1 up && gives (.hkSeqFire rq 15 ⟨2, 1⟩) up (answers 5) &&
    gives (.hkSeqFire rq 14 ⟨2, 1⟩) (converting 0 {}) (fun t => answers 0 t && decide (t.obj (Obj.HK_SEQ_STATE 14) = 1)),
  decide (((converting 0 {}).hkTrigger 14).obj (Obj.HK_SEQ_STATE 14) = 1) &&
    decide (((converting 1 {}).hkTrigger 14).obj (Obj.HK_SEQ_STATE 14) = 2) &&
    decide (((converting 2 {}).hkTrigger 14).obj (Obj.HK_SEQ_OVERRUN 14) = 1),
  decide ((((converting 2 {}).setObj (Obj.HK_SEQ_POLICY 14) 1).hkTrigger 14).obj (Obj.HK_SEQ_PARTIAL 14) = 1),
  gives (.hkSeqPeriodTrigger 14) (converting 0 {}) (same (converting 0 {})) &&
    gives (.hkSeqPeriodTrigger 14) ((converting 0 {}).setObj (Obj.HK_SEQ_PERIOD 14) 101) (fun t => decide (t.obj (Obj.HK_SEQ_STATE 14) = 1) &&
    decide ((t.hk 14).periodAt = some 101)),
  gives (.hkSeqPeriodTrigger 14) (((converting 2 {}).setObj (Obj.HK_SEQ_PERIOD 14) 101).setObj (Obj.HK_SEQ_MODE 14) 1)
    (fun t => decide (t.obj (Obj.HK_SEQ_STATE 14) = 2) && decide ((t.hk 14).periodAt = some 101)),
  gives (.hkSeqEnd 14) (converting 1 { step := 15 }) (same (converting 1 { step := 15 })) &&
    gives (.hkSeqEnd 14) (converting 1 { step := 16 }) (fun t => decide (t.obj (Obj.HK_SEQ_STATE 14) = 0)),
  gives (.hkSeqEnd 14) (converting 2 { step := 16 }) (fun t => decide (t.obj (Obj.HK_SEQ_STATE 14) = 1)),
  ok (Obj.HK_SEQ_STEPS 14 15) 4 (2 ^ 31 + 43 * 2 ^ 24 + 1) up && gives (.hkSeqStepsWrite rq 14 15 ⟨4, 2 ^ 31 + 43 * 2 ^ 24 + 1⟩) up (answers 0),
  gives (.hkSeqStepsWrite rq 14 15 ⟨4, 2 ^ 31 + 44 * 2 ^ 24 + 1⟩) up (answers 5) && gives (.hkSeqStepsWrite rq 15 0 ⟨4, 0⟩) up (answers 5),
  gives (.hkSeqStepsWrite rq 0 0 ⟨4, 2 ^ 31 + 43 * 2 ^ 24 + 1⟩) (converting 0 {}) (answers 7),
  ok Obj.HK_INTERLEAVE 4 64 up && gives (.hkInterleaveWrite rq ⟨4, 64⟩) up (answers 0),
  gives (.hkInterleaveWrite rq ⟨4, 64⟩) (up.setObj (Obj.HK_SEQ_STEPS 12 0) (2 ^ 31 + 1)) (answers 7)] := by
  decide +kernel

/-- The Loupe with a buffer of 1 MiB. -/
def louping (state : Nat) (l : Loupe) : State := ((up.setObj Obj.LOUPE_SIZE 1).setObj Obj.LOUPE_STATE state).withLoupe fun _ => l
def bigRecord : LoupeRec := ⟨1, 4, 0, false, false, 1048544, 0⟩

/-- LoupeCaptures: each refusal, arming, aborting, triggers, and a buffer that is full. -/
theorem test_LoupeCaptures : Checks [
  ok Obj.LOUPE_ARM 2 1 up && gives (.loupeArm rq) up (answers 7) && gives (.loupeArm rq) (louping 1 {}) (answers 1),
  gives (.loupeArm rq) (((lit.setObj Obj.LOUPE_SRC 1).setObj Obj.LOUPE_SEL 0xF0).setObj Obj.LOUPE_SIZE 1) (answers 5),
  gives (.loupeArm rq) (((louping 0 {}).setObj Obj.LOUPE_TRIG (2 ^ 28)).setObj Obj.LOUPE_TRIG_TICK 101) (answers 8),
  gives (.loupeArm rq) (((louping 3 { pre := 5 }).setObj Obj.LOUPE_TRIG (2 ^ 28)).setObj Obj.LOUPE_TRIG_TICK 102) (fun t => answers 0 t &&
    decide (t.obj Obj.LOUPE_STATE = 1) && decide (t.loupe = {})),
  ok Obj.LOUPE_ARM 2 0 up && gives (.loupeAbort rq) (louping 3 {}) (fun t => answers 0 t && decide (t.obj Obj.LOUPE_STATE = 3)) &&
    gives (.loupeAbort rq) (louping 2 {}) (fun t => decide (t.obj Obj.LOUPE_STATE = 4) && decide (t.obj (Obj.LOUPE_INFO 3) = 1)),
  ok Obj.LOUPE_FIRE 2 1 up && gives (.loupeFire rq ⟨2, 1⟩) up (fun t => answers 0 t && decide (t.agenda = [⟨101, .loupeFire⟩])),
  gives .loupeTrigger (((louping 1 {}).setObj Obj.LOUPE_TRIG (2 ^ 28)).setObj Obj.LOUPE_TRIG_TICK 100)
    (fun t => decide (t.obj Obj.LOUPE_STATE = 2) && decide (t.obj (Obj.LOUPE_INFO 0) = 100)),
  gives .loupeTrigger (((louping 2 {}).setObj Obj.LOUPE_TRIG (2 ^ 28)).setObj Obj.LOUPE_TRIG_TICK 100)
    (fun t => decide (t.obj Obj.LOUPE_TRIG_MISSED = 1)),
  gives .loupeTrigger (louping 1 { scanned := some 100 }) (same (louping 1 { scanned := some 100 })),
  gives .loupeDone (louping 2 {}) (same (louping 2 {})) && (louping 2 { records := [bigRecord] }).loupeFull,
  gives .loupeDone (louping 2 { records := [bigRecord] }) (fun t => decide (t.obj Obj.LOUPE_STATE = 3) &&
    decide (t.obj (Obj.LOUPE_INFO 2) = 1048560))] := by
  decide +kernel

def counting (p : Nat) (q : PmPoint) (s : State) : State := { s with pm := { s.pm with points := [(Key.unit p, q)] } }
def opened : PmPoint := { m15 := { cur := { k := -1 } }, d24 := { cur := { k := -1 } } }
/-- A degrade profile 0: source 2, set ratio 10^−0.3, clear ratio 10^−1, windows of 800 ticks, 2 of them to clear; `bad` of 10 codewords of
engine 0 uncorrected. -/
def degrading (bad : Nat) (q : PmPoint) : State :=
  counting 1 q { lit.withEngine 0 fun r => { r with totals := { words := 10, bad := bad } } with now := 800, act := [(Obj.PM_PROFILE 0, packBytes [(4, 2 ^ 31), (4, 100 * 2 ^ 16 + 30), (4, 800), (4, 2), (48, 0)])] }

/-- PerformanceIsCounted: a second in signal fail, bins, degrade windows, and points. -/
theorem test_PerformanceIsCounted : Checks [
  gives (.pmSecond []) up (same up),
  (let e := (counting 1 opened { up with now := 799999 }).closeTick;
    e.pmPoints.contains 1 && bit (e.endedRecord 1) 14 && e.pmPresent 1 && decide (e.pmPoint 1 = opened) && decide (e.now = 799999) &&
    decide (e.bin15 e.endedSecond = -1) && decide (e.bin24 e.endedSecond = -1) && decide (opened ≠ {}) && decide (e.pm.second = none)),
  gives (.pmSecond []) (({ up with now := 799999 } : State).withPm fun m => { m with second := some 800000 }) (fun t => decide (t.pm.second = some 800000)),
  gives (.pmSecond []) (counting 1 opened { up with now := 799999 }) (fun t => decide ((t.pmPoint 1).m15.cur.ne.ses = 1) &&
    decide (t.pm.second = some 800000)),
  gives (.pmBinClose false) (counting 1 { m15 := { closing := some { k := -2 } } } up) (same (counting 1 { m15 := { closing := some { k := -2 } } } up)),
  gives (.pmBinClose false) ((counting 1 { m15 := { closing := some { k := -2 } } } up).withPm fun m => { m with second := some 101 })
    (fun t => decide ((t.pmPoint 1).m15.closing = none) && decide ((t.pmPoint 1).m15.history.length = 1) && decide (t.changes.length = 1)),
  gives (.pmBinClose true) ((counting 1 { d24 := { closing := some { k := -2 } } } up).withPm fun m => { m with second := some 101 })
    (fun t => decide ((t.pmPoint 1).d24.closing = none)),
  gives (.pmSdWindow ⟨1, 6, 10⟩) (degrading 6 { sdStart := 2 }) (same (degrading 6 { sdStart := 2 })) &&
    !((degrading 6 {}).closeTick.endedDefect 1) && decide ((degrading 6 { sdStart := 1 }).closeTick.pmPoint 1 = { sdStart := 1 }),
  gives (.pmSdWindow ⟨1, 6, 10⟩) (degrading 6 { sdStart := 1 }) (fun t => t.declared Df.sd 1 && decide ((t.pmPoint 1).sdStart = 801)),
  gives (.pmSdWindow ⟨1, 5, 10⟩) (degrading 5 { sdStart := 1 }) (fun t => !t.declared Df.sd 1),
  gives (.pmSdWindow ⟨1, 0, 10⟩) ((degrading 0 { sdStart := 1 }).declare Df.sd 1) (fun t => t.declared Df.sd 1),
  gives (.pmSdWindow ⟨1, 0, 10⟩) (((degrading 0 { sdStart := 1 }).declare Df.sd 1).setObj (Obj.PM_SD_STATE 1) (2 ^ 31 + 2 ^ 16))
    (fun t => !t.declared Df.sd 1),
  ok (Obj.PM_POINT 131071) 4 (2 ^ 31 + 5) up && gives (.pmPointWrite rq 131071 ⟨4, 2 ^ 31 + 5⟩) up (answers 0),
  ok (Obj.PM_POINT 1023) 4 (2 ^ 31 + 5) up && gives (.pmPointWrite rq 1023 ⟨4, 2 ^ 31 + 5⟩) up (answers 5),
  gives (.pmPointWrite rq 1024 ⟨4, 2 ^ 31 + 3 * 2 ^ 28⟩) up (answers 5) && gives (.pmPointWrite rq 1024 ⟨4, 2 ^ 31 + 2 ^ 28⟩) up (answers 5),
  gives (.pmPointWrite rq 1024 ⟨4, 2 ^ 31 + 5⟩) ({ up with act := [(Obj.PG_CFG 0, packWords [2 ^ 31, 0, 0, 1024, 2, 0, 0, 0])] }) (answers 7),
  gives (.pmPointWrite rq 1024 ⟨4, 3 * 2 ^ 19⟩) ({ up with act := [(Obj.PG_CFG 0, packWords [2 ^ 31, 0, 0, 1024, 2, 0, 0, 0])] }) (answers 0)] := by
  decide +kernel

/-! ### Ring, storage, injection, power, boot and the complex -/

def ringFrame : RingFrame := ⟨100, 2, 1, 3, false, [], []⟩
/-- An east copy of tick 100, VY_URG_TICKS 2, TOPO 1, PRESENT 3, 9 ns old; a bad HCRC is one off. -/
def ringCopy (hcrcOk : Bool) (ringId master : Nat) : RingCopy :=
  let c : RingCopy := ⟨0, ringFrame.copy master ringId false, 9, true⟩
  if hcrcOk then c else c.write 30 2 (c.part 30 2 + 1)
def ringNode (role node : Nat) : State := { up.setObj Obj.VY_ROLE role with mc := { up.mc with node := node } }
def withRing (f : Ring → Ring) (s : State) : State := { s with ring := f s.ring }

/-- A copy with one urgent entry of node 5 in place 63 and an empty request for this node in slot 7. -/
def ladenCopy : RingCopy :=
  ((ringCopy true 0 5).writeAt 0 63 (RingUrgent.bytes ⟨5, 9, 98, 0x1234⟩)).writeAt 1 7 (slotBytes true true 0 0 0 0)

/-- R438 to R440, R442, R475: the published check values of both CRCs over "123456789", the layout, what a node writes, and injected faults. -/
theorem test_RingBytes : Checks [
  decide (ringCrc 9 0x313233343536373839 = 0x29B1) && decide (crc 8 0x07 0 72 0x313233343536373839 = 0xF4),
  decide ((ringCopy true 0x1234 5).part 0 30 = 0x110005020000000000000064123400010000000000000003000000000000) && (ringCopy true 7 5).hcrcOk,
  decide (ladenCopy.urgent.map (fun u => (u.place, u.node, u.index, u.tick, u.record, u.crcOk)) = [(63, 5, 9, 98, 0x1234, true)]) &&
    decide (ladenCopy.part 536 8 / 256 = 0x85090000621234),
  decide (ladenCopy.requests.map (fun x => (x.slot, x.node, x.first, x.last, x.len, x.crcOk)) = [(7, 0, true, true, 0, true)]) &&
    decide (ladenCopy.part 880 4 = 0xE0000000),
  ladenCopy.loop.looped && ladenCopy.loop.hcrcOk && !((ringCopy false 0 5).loop.hcrcOk),
  decide ((putUrgent ladenCopy [⟨1, 2, 3, 4⟩]).urgent.map (·.place) = [0, 63]) &&
    decide (((putReplies ladenCopy 9 [⟨100, 3, true, true, 0, 0, 0⟩]).replies.map fun x => (x.slot, x.node, x.crcOk)) = [(3, 9, true)]),
  decide ((up.applyRingFault ladenCopy ⟨0, 6, 0, 63, 0x00010000, false⟩).2.urgent.map (fun u => (u.index, u.crcOk)) = [(8, false)]) &&
    decide ((up.applyRingFault ladenCopy ⟨0, 6, 0, 63, 0x00010000, true⟩).2.urgent.map (fun u => (u.index, u.crcOk)) = [(8, true)]),
  decide ((up.applyRingFault ladenCopy ⟨0, 5, 1, 7, 0, false⟩).2.requests = []) &&
    decide ((up.applyRingFault ladenCopy ⟨0, 7, 1, 7, 0, false⟩).1.inject.held = [⟨0, 1, 7, slotBytes true true 0 0 0 0⟩])] := by
  decide +kernel

/-- R339, R358, R471: the published check value of the FCS, byte stuffing, a phase error past half a period, and UP_NO_SPARE. -/
theorem test_FramesPhasesAndLinks : Checks [
  decide (hdlcFcs [0x31, 0x32, 0x33, 0x34, 0x35, 0x36, 0x37, 0x38, 0x39] = 0xCBF43926),
  decide ((hdlcFrame [0x7E, 1]).take 4 = [0x7E, 0x7D, 0x5E, 1]) && decide ((hdlcFrame [0x7E, 1]).getLast? = some 0x7E),
  decide (up.phaseError 18 9999999999 = -1) && decide (up.phaseError 18 3 = 3) && decide (up.phaseError 18 (-9999999999) = 1),
  decide (lit.d2dState 0 = 1) && decide ((lit.replayFails 0 1 3 8 []).d2dState 0 = 1) &&
    decide (((lit.withStores fun y => { y with dead := [(0, 1, 3)] }).replayFails 0 1 3 8 []).d2dState 0 = 3)] := by
  decide +kernel

/-- RingCopiesTravel: each way a copy is taken, the takeover, a failed port and its return. -/
theorem test_RingCopiesTravel : Checks [
  gives (.ringCopyReceive (ringCopy true 0 5)) { up with mc := { up.mc with held := 1 } } (same { up with mc := { up.mc with held := 1 } }),
  decide (up.injectCopy (ringCopy true 0 5) = (up, ringCopy true 0 5)) &&
    gives (.ringCopyReceive (ringCopy false 0 5)) up (fun t => decide (t.obj (Obj.VY_CRC_ERR 0) = 1) &&
    decide (t.ring.out = [⟨0, 1, (ringCopy false 0 5).bytes, (ringCopy false 0 5).bytes⟩])),
  gives (.ringCopyReceive (ringCopy true 1 5)) up (fun t => decide (t.obj Obj.VY_FOREIGN = 1)),
  gives (.ringCopyReceive (ringCopy true 0 63)) (ringNode 1 63) (fun t => decide (t.obj (Obj.VY_LOOP 0) = 9) && decide (t.obj Obj.VY_STATE = 2) &&
    decide (t.ring.out = [])),
  gives (.ringCopyReceive (ringCopy true 0 63)) (ringNode 1 62) (fun t => decide (t.ring.out = [⟨0, 1, (ringCopy true 0 63).bytes, (ringCopy true 0 63).bytes⟩]) &&
    decide (t.obj Obj.VY_MASTER = 0xFFFF)),
  gives (.ringCopyReceive (ringCopy true 0 61)) (ringNode 1 62) (fun t => decide (t.obj Obj.VY_ROLE = 2) && decide (t.obj Obj.VY_MASTER = 61) &&
    decide (t.obj Obj.VY_STATE = 1)),
  gives (.ringCopyReceive (ringCopy true 0 61)) (withRing (fun r => { r with failed := [1] }) (ringNode 0 1))
    (fun t => decide (t.obj Obj.VY_STATE = 3) && decide (t.ring.out.length = 1)),
  gives .standbyTakeover (withRing (fun r => { r with heard0 := some 96 }) (ringNode 2 9)) (fun t => decide (t.obj Obj.VY_ROLE = 1) &&
    decide (t.obj Obj.VY_MASTER = 9) && decide (t.changes.length = 1)),
  gives .standbyTakeover (withRing (fun r => { r with heard0 := some 97 }) (ringNode 2 9)) (fun t => decide (t.obj Obj.VY_ROLE = 2)),
  gives (.vyPortFail 0 true 0) up (fun t => decide (t.ring.failed = [0]) && decide (t.obj Obj.VY_STATE = 3) && decide (t.ring.resend = some 1)),
  gives (.vyPortFail 0 false 2) (withRing (fun r => { r with heard1 := some 98 }) up) (fun t => decide (t.ring.failed = [0])) &&
    gives (.vyPortFail 0 false 2) (withRing (fun r => { r with heard1 := some 97 }) up) (fun t => decide (t.ring.failed = [])),
  gives (.vyUnwrap 0 800 32) (withRing (fun r => { r with failed := [0] }) up) (fun t => decide (t.ring.failed = []) &&
    decide (t.obj Obj.VY_STATE = 2)),
  gives (.vyUnwrap 0 799 32) (withRing (fun r => { r with failed := [0] }) up) (fun t => decide (t.ring.failed = [0]))] := by
  decide +kernel

/-- StoresAreScrubbed: the last page of a region and one beyond, the leak, copies, a regeneration and a fallback, links 3 and 4. -/
theorem test_StoresAreScrubbed : Checks [
  gives (.demandScrub 7 8191) (up.setPage 7 8191 { queued := true, wrong := [5], found := [5] }) (fun t => !(t.page 7 8191).queued &&
    decide ((t.page 7 8191).wrong = []) && decide ((t.page 7 8191).written = [(5, 0)])) && gives (.demandScrub 7 8191) up (same up),
  gives (.scrubVisit ⟨2, 8, 0, [], {}, 0, 0⟩ true) up (same up) &&
    gives (.scrubVisit ⟨2, 7, 0, [], {}, 0, 0⟩ true) { up with now := up.obj (Obj.SIO_SCRUB_PASS 2) * 800000 } (fun t => decide (t.obj (Obj.SIO_PASS_COUNT 2) = 1)) &&
    gives (.scrubVisit ⟨2, 7, 0, [], {}, 0, 0⟩ true) up (fun t => decide (t.obj (Obj.SIO_PASS_COUNT 2) = 0)),
  gives (.scrubVisit ⟨2, 7, 0, [5], {}, 0, 0⟩ false) up (fun t => decide (t.obj (Obj.SIO_CORR_BITS 2) = 1) && decide (t.obj (Obj.SIO_BUCKET 2) = 1) &&
    decide ((t.page 2 7).written = [(5, 0)])),
  gives (.bucketLeak 7) ({ up.setObj (Obj.SIO_BUCKET 7) 3 with now := 799 }) (fun t => decide (t.obj (Obj.SIO_BUCKET 7) = 2)) &&
    gives (.bucketLeak 7) ({ up with now := 798 }) (same { up with now := 798 }),
  gives (.pageRepairSwitch 7 9) (up.setPage 7 9 { copying := true, spare := some 63, carried := [4] })
    (fun t => decide (t.page 7 9 = { wrong := [4] }) && decide (t.obj (Obj.SIO_WEAK_LOG 7 63) = 2 ^ 31 + 9)) &&
    gives (.pageRepairSwitch 7 9) up (same up),
  decide (up.cmPage true 7839 = 7839) && gives (.uncorrectablePageRepair 7839 9) (up.setPage 0 7839 { bad := true, spare := some 1 })
    (fun t => !(t.page 0 7839).bad && decide (t.obj (Obj.SIO_REGEN 0) = 0) && decide (t.obj (Obj.SIO_WEAK_LOG 0 1) = 3 * 2 ^ 30 + 7839)),
  gives (.uncorrectablePageRepair 7840 9) (up.setPage 0 7840 { bad := true }) (fun t => !(t.page 0 7840).bad && decide (t.obj (Obj.SIO_REGEN 0) = 1)),
  gives (.uncorrectablePageRepair 7840 9) ((up.setPage 0 7840 { bad := true }).setPage 1 0 { bad := true }) (fun t => (t.page 0 7840).bad),
  ok (Obj.SIO_T 7) 2 32 up && gives (.sioTWrite rq 7 ⟨2, 32⟩) up (fun t => answers 0 t && decide (t.agenda.length = 1)),
  gives (.d2dReplay ⟨3, 0, 56, 9, 3, true, [5], [], []⟩) up (same up) &&
    gives (.d2dReplay ⟨4, 0, 56, 9, 3, true, [5], [], []⟩) up (fun t => decide (t.obj (Obj.D2D_REPLAY_FAIL 4) = 8) && t.prism.poisonNext.contains 5),
  gives (.d2dReplay ⟨3, 1, 55, 9, 2, true, [5], [], []⟩) up (fun t => decide (t.obj (Obj.D2D_REPLAY 3) = 2) &&
    decide (t.obj (Obj.D2D_PARITY_ERR 3) = 9) && decide (t.obj (Obj.D2D_REPLAY_FAIL 3) = 0)),
  gives (.d2dLaneSpare 4 1 111 31 33) up (fun t => decide (t.agenda = [⟨101, .laneSpare 4 1 111 31⟩])) &&
    gives (.d2dLaneSpare 4 1 112 31 33) up (same up) && gives (.d2dLaneSpare 4 1 111 31 32) up (same up)] := by
  decide +kernel

def engineer : State := up.setObj (Obj.QM_SESSIONS 0) (2 ^ 31 + 2 ^ 29)
/-- FI_STATE, PREPARED by a session in tick 20, ARMED since tick 50, and slot 0. -/
def injecting (state owner slot : Nat) : State :=
  { (up.setObj Obj.FI_STATE state).setObj (Obj.FI_SLOT 0) slot with inject := { prepared := if state = 1 then some (owner, 20) else none, armedAt := 50 } }

/-- InjectionIsArmedInTwoSteps: each state, another session, 800 ticks and 801, no slot in use. -/
theorem test_InjectionIsArmedInTwoSteps : Checks [
  servedB Op.write 0 rq ⟨1, some 0⟩ engineer && gives (.fiArmPrepare rq) engineer (answers 2) && gives (.fiArmConfirm rq) engineer (answers 2),
  ok Obj.FI_ARM 4 0xA1 up && gives (.fiArmPrepare rq) up (fun t => answers 0 t && decide (t.obj Obj.FI_STATE = 1) &&
    decide (t.inject.prepared = some (7, 100))),
  gives (.fiArmPrepare rq) (injecting 1 7 (2 ^ 127)) (fun t => decide (t.obj Obj.FI_STATE = 0)) &&
    gives (.fiArmPrepare rq) (injecting 2 7 (2 ^ 127)) (fun t => decide (t.obj Obj.FI_STATE = 0)),
  ok Obj.FI_ARM 4 0x5E up && gives (.fiArmConfirm rq) (injecting 1 8 (2 ^ 127)) (fun t => decide (t.obj Obj.FI_STATE = 0)),
  gives (.fiArmConfirm rq) ({ injecting 1 7 (2 ^ 127) with now := 821 }) (fun t => decide (t.obj Obj.FI_STATE = 0)),
  gives (.fiArmConfirm rq) ({ injecting 1 7 (2 ^ 127) with now := 820 }) (fun t => answers 0 t && decide (t.obj Obj.FI_STATE = 2) &&
    decide (t.inject.armedAt = 820)),
  gives (.fiArmConfirm rq) (injecting 1 7 0) (answers 7),
  gives (.fiArmConfirm rq) up (fun t => answers 0 t && decide (t.obj Obj.FI_STATE = 0)) &&
    gives (.fiArmConfirm rq) (injecting 2 7 0) (fun t => decide (t.obj Obj.FI_STATE = 0)),
  ok Obj.FI_ARM 4 0 up && gives (.fiDisarm rq) (injecting 1 7 0) (fun t => answers 0 t && decide (t.obj Obj.FI_STATE = 0)) &&
    gives (.fiDisarm rq) (injecting 2 7 0) (fun t => decide (t.obj Obj.FI_STATE = 0)),
  decide (objKey (num Obj.FI_ARM) 0 = Obj.FI_ARM) && ok Obj.FI_ARM 4 0x5F up &&
    gives (.write rq (num Obj.FI_ARM) 0 ⟨4, 0x5F⟩) (injecting 1 7 (2 ^ 127)) (fun t => answers 0 t && decide (t.obj Obj.FI_STATE = 0)),
  gives .fiPrepareTimeout ({ injecting 1 7 0 with now := 820 }) (fun t => decide (t.obj Obj.FI_STATE = 0)) &&
    gives .fiPrepareTimeout ({ injecting 1 7 0 with now := 819 }) (same { injecting 1 7 0 with now := 819 }),
  gives .fiPrepareTimeout up (same up)] := by
  decide +kernel

/-- InjectionEndsAndOccurs: disarming, the duration, a slot out of range, while armed, and in IDLE; occurrences of kinds 3 and 8. -/
theorem test_InjectionEndsAndOccurs : Checks [
  gives (.fiDisarm rq) ((injecting 2 7 0).setPage 2 1 { stuck := [4] }) (fun t => decide (t.obj Obj.FI_STATE = 0) &&
    decide ((t.page 2 1).stuck = []) && decide (t.changes.length = 1)),
  ok (Obj.FI_SLOT 15) 16 (2 ^ 127 + 12 * 2 ^ 122 + 10 * 2 ^ 96) up &&
    gives (.fiSlotWrite rq 15 ⟨16, 2 ^ 127 + 12 * 2 ^ 122 + 10 * 2 ^ 96⟩) up (answers 5),
  gives (.fiSlotWrite rq 15 ⟨16, 2 ^ 127 + 12 * 2 ^ 122 + 9 * 2 ^ 96⟩) up (answers 0) &&
    gives (.fiSlotWrite rq 15 ⟨16, 2 ^ 127 + 12 * 2 ^ 122 + 9 * 2 ^ 96⟩) (injecting 1 7 0) (answers 1),
  gives .fiDurationExpire ({ injecting 2 7 0 with now := 8049 }) (fun t => decide (t.obj Obj.FI_STATE = 0) && decide (t.changes.length = 1)) &&
    gives .fiDurationExpire ({ injecting 2 7 0 with now := 8048 }) (same { injecting 2 7 0 with now := 8048 }),
  gives (.fiOccurrence 0 [] []) (injecting 2 7 (2 ^ 127 + 8 * 2 ^ 122 + 2 ^ 92 + 51)) (fun t => decide (t.obj (Obj.FI_HITS 0) = 1) &&
    decide (t.inject.forced = [0]) && decide (Map.get 0 t.inject.lastHit (Key.unit 0) = 102)),
  gives (.fiOccurrence 0 [] []) (injecting 2 7 (2 ^ 127 + 8 * 2 ^ 122 + 2 ^ 92 + 52)) (fun t => decide (t.obj (Obj.FI_HITS 0) = 0)),
  gives (.fiOccurrence 0 [] []) (injecting 2 7 (2 ^ 127 + 3 * 2 ^ 122 + 4 * 2 ^ 119 + 2 ^ 32 + 50)) (fun t => decide (t.obj (Obj.FI_HITS 0) = 1)),
  gives (.fiOccurrence 0 [] []) (injecting 1 7 (2 ^ 127 + 3 * 2 ^ 122 + 50)) (same (injecting 1 7 (2 ^ 127 + 3 * 2 ^ 122 + 50)))] := by
  decide +kernel

/-- FirmwareIsStaged: the last element, two elements by TABLE_WRITE, and a boot that leaves the region empty. -/
theorem test_FirmwareIsStaged : Checks [
  decide (objKey (num (Obj.MC_FW_STAGE 0)) 32767 = Obj.MC_FW_STAGE 32767) && ok (Obj.MC_FW_STAGE 32767) 64 77 up,
  gives (.write rq (num (Obj.MC_FW_STAGE 0)) 32767 ⟨64, 77⟩) up (fun t => answers 0 t && decide (t.obj (Obj.MC_FW_STAGE 32767) = 77) &&
    decide (t.obj Obj.MC_FW_STAGE_STATE = 2 ^ 28)),
  servedB Op.tableWrite 1 rq so up && gives (.tableWrite rq (num (Obj.MC_FW_STAGE 0)) 32766 2 128 [5, 6]) up (fun t => answers 0 t &&
    decide (t.obj (Obj.MC_FW_STAGE 32766) = 5) && decide (t.obj (Obj.MC_FW_STAGE 32767) = 6)),
  gives (.bootReady ⟨0, 0, true, 9⟩) ({ (State.reset.setObj (Obj.MC_FW_STAGE 5) 77) with bar := { ({} : Bar0) with bootState := 2 }, mc := { ({} : Mc) with remap := true } }) (fun t => decide (t.bar.bootState = 3) && decide (t.obj (Obj.MC_FW_STAGE 5) = 0))] := by
  decide +kernel

def domAt (d state target : Nat) (x : DomRun) : State :=
  ((up.setObj (Obj.PWR_DOM_STATE d) state).setObj (Obj.PWR_DOM_TARGET d) target).withDom d fun _ => x
/-- A domain whose power switches ramp from an elapsed tick. -/
def ramping (d since : Nat) (x : DomRun) : State := (domAt d 5 0 x).withPower fun p => { p with ramp := some (d, since) }
/-- HBM asked to sleep at the coming boundary, and whether a wake comes with it. -/
def sleeping (wakes : Bool) : State :=
  { domAt 16 0 2 { request := some rq } with agenda := ⟨101, .domSleep 16 2⟩ :: if wakes then [⟨101, .domWake 16 true⟩] else [] }

/-- Prism asked to sleep while a compilation runs. -/
def refused : State :=
  { (domAt 18 0 2 { request := some rq }).setObj Obj.PRISM_COMPILE_STATE 1 with agenda := [⟨101, .domSleep 18 2⟩] }

/-- DomainsSleepAndWake. -/
theorem test_DomainsSleepAndWake : Checks [
  ok (Obj.PWR_DOM_REQ 16) 2 1 up && gives (.pwrDomSleep rq 16) (up.setObj (Obj.PWR_DOM_TOL 16) 49) (answers 5) &&
    gives (.pwrDomSleep rq 0) (up.setObj (Obj.PWR_DOM_TOL 0) 200) (answers 7),
  gives (.pwrDomSleep rq 16) (up.setObj (Obj.PWR_DOM_TOL 16) 2000) (fun t => decide (t.agenda = [⟨101, .domSleep 16 2⟩]) &&
    decide ((t.dom 16).request = some rq) && t.bar.own && decide (t.bar.response = none)),
  ok (Obj.PWR_DOM_REQ 16) 2 0 up && gives (.pwrDomWake rq 16) up (fun t => answers 0 t && decide (t.agenda = [])) &&
    gives (.pwrDomWake rq 0) up (fun t => answers 0 t && decide (t.agenda = [⟨101, .domWake 0 false⟩])),
  ok (Obj.PWR_PAD_RELEASE 0) 2 1 up && gives (.pwrPadRelease rq 0 ⟨2, 1⟩) up (answers 7) &&
    gives (.pwrPadRelease rq 16 ⟨2, 1⟩) (up.setObj (Obj.PWR_PAD_HELD 16) 1) (fun t => answers 0 t && decide (t.obj (Obj.PWR_PAD_HELD 16) = 0)),
  gives (.domainEntryHandshake 16 none) (sleeping true) (fun t => answers 9 t && decide (t.obj (Obj.PWR_DOM_STATE 16) = 0)),
  gives (.domainEntryHandshake 16 (some 4)) (sleeping false) (fun t => decide (t.obj (Obj.PWR_DOM_STATE 16) = 4) && decide ((t.dom 16).step = 1) &&
    decide ((t.dom 16).delaying = some 4)),
  (sleeping false).refusing 16 == none && refused.refusing 18 == some 0x80,
  gives (.domainEntryHandshake 18 none) refused (fun t => answers 7 t && decide (t.changes.length = 1)),
  gives (.domainEntryHandshake 16 none) up (same up),
  gives (.entryDelayTimeout 16) ({ domAt 16 4 2 { delaying := some 4, step := 1, since := 5 } with now := 804 })
    (fun t => decide (t.obj (Obj.PWR_DOM_STATE 16) = 0) && decide (t.obj (Obj.PWR_DOM_STATUS 16) = 2 * 2 ^ 28 + 4 * 2 ^ 16)),
  gives (.entryDelayTimeout 16) ({ domAt 16 4 2 { delaying := some 4, step := 1, since := 5 } with now := 803 })
    (fun t => decide (t.obj (Obj.PWR_DOM_STATE 16) = 4)),
  gives (.domainEntryStepEnd 16) (domAt 16 4 2 { step := 1, since := 100 }) (fun t => decide ((t.dom 16).step = 2) &&
    decide ((t.dom 16).passed = 1)) && gives (.domainEntryStepEnd 16) up (same up),
  gives (.domainEntryStepEnd 16) (domAt 16 4 2 { step := 5, since := 93, passed := 3 }) (fun t => decide (t.obj (Obj.PWR_DOM_STATE 16) = 2) &&
    decide (t.obj (Obj.PWR_DOM_STATUS 16) = 2 ^ 28 + 3 * 2 ^ 26)),
  gives .wakeNAssert (up.setObj Obj.PWR_WAKE_MASK (2 ^ 18 + 1)) (fun t => decide (t.agenda.length = 2)),
  gives .wakeNAssert (up.withPower fun p => { p with quiescent := 1, quiescentBy := some rq }) (fun t => answers 9 t &&
    decide (t.power.quiescent = 0)),
  gives (.domainRampDone 16 []) up (same up) &&
    gives (.domainRampDone 16 []) (ramping 16 20 { ramping := true, leaves := 3 }) (fun t => (t.dom 16).clocking && !(t.dom 16).ramping) &&
    gives (.domainRampDone 16 []) (ramping 16 21 { ramping := true, leaves := 3 }) (same (ramping 16 21 { ramping := true, leaves := 3 })),
  gives (.domainRampDone 18 [2]) (ramping 18 20 { ramping := true, leaves := 2 }) (fun t => (t.dom 18).fromOff &&
    t.declared Df.retain (8 * 18 + 2) && bit (t.obj (Obj.PWR_RETAIN_FAIL 18)) 2),
  gives (.domainClockSwitch 16) (domAt 16 5 0 { clocking := true }) (fun t => decide ((t.dom 16).on = some 101) &&
    decide (t.obj (Obj.PWR_DOM_CLK 16) = 1)) && gives (.domainClockSwitch 16) up (same up)] := by
  decide +kernel

def asking (r : Nat) (q : RailRequest) : State := up.setRequest r (some q)

/-- RailsFollowTheirRegulators. -/
theorem test_RailsFollowTheirRegulators : Checks [
  gives (.regulatorAck 11) up (same up) && gives (.regulatorTimeout 11 4000) up (same up),
  gives (.regulatorAck 11) (asking 11 ⟨1, 790000, 5, false⟩) (fun t => decide (t.obj (Obj.PWR_RAIL_SET 11) = 790000) &&
    decide (t.railRequest 11 = none)),
  gives (.regulatorAck 11) (asking 11 ⟨3, 0, 5, false⟩) (fun t => decide (t.obj (Obj.PWR_RAIL_STATE 11) = 3)),
  gives (.regulatorAck 0) ((asking 0 ⟨1, 750000, 5, true⟩).withDom 16 fun x => { x with raise := true })
    (fun t => decide (t.obj (Obj.PWR_RAIL_SET 0) = 750000) && (t.dom 16).ramping && decide (t.power.ramp = some (16, 100))),
  gives (.regulatorTimeout 0 4000) ((asking 0 ⟨1, 750000, 5, true⟩).withDom 16 fun x => { x with raise := true, leaves := 2 })
    (fun t => decide (t.obj (Obj.PWR_RAIL_STATE 0) = 2) && decide (t.obj (Obj.PWR_DOM_STATE 16) = 2)),
  gives (.regulatorTimeout 0 3999) (asking 0 ⟨1, 750000, 5, true⟩) (fun t => decide (t.obj (Obj.PWR_RAIL_STATE 0) = 0)),
  gives (.pmbAlert [11]) (asking 11 ⟨1, 790000, 5, false⟩) (fun t => decide (t.changes.length = 1)),
  ok (Obj.PWR_RAIL_RETRY 11) 2 1 up && gives (.pwrRailRetry rq 11 ⟨2, 1⟩) up (answers 7),
  gives (.pwrRailRetry rq 11 ⟨2, 1⟩) ((up.setObj (Obj.PWR_RAIL_STATE 11) 2).setFailed 11 (some ⟨2, 800000, 5, false⟩)) (fun t => answers 0 t &&
    decide (t.railRequest 11 = some ⟨2, 800000, 100, false⟩)),
  gives (.pwrRailRetry rq 11 ⟨2, 1⟩) (((asking 11 ⟨2, 1, 1, false⟩).setObj (Obj.PWR_RAIL_STATE 11) 2).setFailed 11 (some ⟨2, 800000, 5, false⟩)) (answers 1),
  gives (.avsStep false) up (fun t => decide (t.railRequest 0 = some ⟨1, 795000, 100, false⟩)) && gives (.avsStep true) up (same up),
  gives (.avsStep true) (up.setObj (Obj.PWR_RAIL_SET 0) 798000) (fun t => decide (t.railRequest 0 = some ⟨1, 800000, 100, false⟩)),
  gives (.supplyWarning 11 775999 2) up (fun t => decide (t.obj Obj.PWR_WARN_ACTIVE = 2 ^ 11) && decide (t.obj (Obj.PWR_RAIL_STATE 11) = 1)) &&
    gives (.supplyWarning 11 776000 2) up (same up) && gives (.supplyWarning 11 775999 1) up (same up),
  gives (.supplyRecover 11 800000 700000 8) ((up.setObj Obj.PWR_WARN_ACTIVE (2 ^ 11 + 1)).setObj (Obj.PWR_RAIL_STATE 11) 1)
    (fun t => decide (t.obj Obj.PWR_WARN_ACTIVE = 1) && decide (t.obj (Obj.PWR_RAIL_STATE 11) = 0) && decide (t.obj (Obj.PWR_DIP_COUNT 11) = 1)),
  gives (.supplyRecover 11 800000 700000 8) (up.setObj Obj.PWR_WARN_ACTIVE (2 ^ 11)) (fun t => decide (t.obj Obj.PWR_WARN_ACTIVE = 0)) &&
    gives (.supplyRecover 11 800000 700000 7) (up.setObj Obj.PWR_WARN_ACTIVE (2 ^ 11)) (fun t => decide (t.obj Obj.PWR_WARN_ACTIVE = 2 ^ 11)),
  gives (.supplyReset 11 719999 5) up (fun t => decide (t.mc.held = 2) && !t.running) && gives (.supplyReset 11 720000 5) up (same up),
  gives (.supplyResetRelease 999) ({ up with mc := { up.mc with held := 2 } }) (same { up with mc := { up.mc with held := 2 } }) &&
    gives (.supplyResetRelease 1000) up (same up)] := by
  decide +kernel

def cold (f : Mc → Mc) : State := { State.reset with mc := f {} }
def booting : State := { cold (fun m => { m with remap := true }) with bar := { ({} : Bar0) with bootState := 2 } }
def quiescing (q : Nat) : State := up.withPower fun p => { p with quiescent := q }
def allOff : State := [16, 18].foldl (fun t d => t.setObj (Obj.PWR_DOM_STATE d) 3) up

/-- TheDeviceBootsAndRests: a boot that measures an image is not evaluated, since the digests are free values; its hypotheses are. -/
theorem test_TheDeviceBootsAndRests : Checks [
  gives (.porstNRelease ⟨0, 5, true, none, none, true⟩) (cold fun m => { m with held := 2 }) (same (cold fun m => { m with held := 2 })),
  decide ((cold id).mc.held ≠ 2) && !(cold id).running && decide ((cold id).mc.running = none) && !(cold id).mc.loading &&
    decide (FwImage.check ⟨0, 0⟩ 0 0 = 1),
  gives .porstNAssert up (fun t => decide (t.mc.held = 1) && !t.running && decide (t.bar.bootCause = 1)),
  gives .corePllUnlock State.reset (same State.reset) && up.running,
  gives (.bootReady ⟨0, 0, false, 9⟩) booting (fun t => decide (t.bar.bootState = 3) && t.running && decide (t.tick = 9) &&
    decide (t.obj (Obj.PWR_RAIL_SET 9) = 1800000)),
  gives (.bootReady ⟨0, 0, true, 9⟩) { booting with pllLatch := true } (fun t => !t.pllLatch),
  starting.startsTicks && !starting.running,
  gives (.bootReady ⟨0, 0, true, 9⟩) { booting with running := true, tick := 3, mc := { booting.mc with initialising := true } }
    (fun t => decide (t.bar.bootState = 3) && decide (t.tick = 3) && !t.mc.initialising),
  gives (.bootReady ⟨11, 11, true, 9⟩) booting (fun t => decide (t.bar.bootState = 4) && decide (t.bar.bootError = 11) &&
    decide (t.obj (Obj.PWR_RAIL_STATE 11) = 2)) && gives (.bootReady ⟨0, 0, true, 9⟩) up (same up),
  up.alive && !up.bar.own && !up.loads && gives (.fwChunk {} 0 64 7) up (answers 5) && gives (.fwChunk {} 0 64 7) booting (answers 1),
  (cold id).alive && (cold id).loads && gives (.fwChunk {} 0 15 7) (cold id) (answers 4) && gives (.fwChunk {} 8 64 7) (cold id) (answers 5) &&
    gives (.fwChunk {} 2097104 64 7) (cold id) (answers 5),
  gives (.fwChunk {} 2097088 64 7) (cold id) (fun t => answers 0 t && decide (t.bar.bootState = 1) && decide (t.obj (Obj.MC_FW_STAGE 32767) = 7)),
  gives (.fwEnd {} 2097153) (cold id) (answers 5) && gives (.fwEnd {} 64) (cold id) (fun t => answers 0 t && decide (t.bar.bootState = 4) &&
    decide (t.bar.bootError = 1)),
  gives (.pcieLinkLoss []) (up.answered rq) (fun t => !t.mc.pcie && decide (t.bar.response = none)),
  gives .pcieLinkUp up (fun t => t.mc.pcie),
  ok Obj.PWR_QUIESCENT 2 1 up && gives (.pwrQuiescent rq ⟨2, 1⟩ true) up (answers 7) && gives (.pwrQuiescent rq ⟨2, 1⟩ false) allOff (answers 7),
  gives (.pwrQuiescent rq ⟨2, 1⟩ true) allOff (fun t => decide (t.power.quiescent = 1) && t.bar.own),
  gives (.quiescentExit false ⟨0, 0, 0, true⟩) (quiescing 2) (fun t => decide (t.power.quiescent = 3) &&
    (t.railRequest 0).isSome) && gives (.quiescentExit false ⟨0, 0, 0, true⟩) (quiescing 1) (same (quiescing 1)),
  gives (.quiescentExit true ((ringCopy true 0 5).writeAt 1 7 (slotBytes true true 0 0 1 0))) (quiescing 2) (fun t => decide (t.power.quiescent = 3)) &&
    gives (.quiescentExit true ((ringCopy true 0 5).writeAt 1 7 (slotBytes true true 1 0 1 0))) (quiescing 2) (same (quiescing 2)) &&
    gives (.quiescentExit true ((ringCopy true 0 5).writeAt 1 7 (slotBytes true true 0 0 0 0))) (quiescing 2) (same (quiescing 2)),
  gives (.quiescentRailRetry 11 8000000) ((quiescing 3).setFailed 11 (some ⟨2, 800000, 5, true⟩))
    (fun t => decide (t.railRequest 11 = some ⟨2, 800000, 100, true⟩)),
  gives (.quiescentRailRetry 11 7999999) ((quiescing 3).setFailed 11 (some ⟨2, 800000, 5, true⟩)) (fun t => decide (t.railRequest 11 = none))] := by
  decide +kernel

/-- A running image of 16 bytes of code whose owner block names a digest. -/
def staged (state : Nat) (f : Mc → Mc) : State := { up.setObj Obj.MC_FW_STAGE_STATE (state * 2 ^ 28) with mc := f up.mc }

/-- SecurityServicesAndUpgrade. -/
theorem test_SecurityServicesAndUpgrade : Checks [
  ok Obj.SEC_SV_COMMIT 2 1 up && gives (.secSvCommit rq ⟨2, 1⟩ 5) up (answers 7),
  gives (.secSvCommit rq ⟨2, 1⟩ 2) (up.setObj Obj.SEC_FW_SV 5) (fun t => answers 0 t && decide (t.obj Obj.SEC_OTP_SV = 2) && decide (t.changes = [])),
  acceptedB rq so Obj.SEC_OWNER_FUSE ⟨32, 9⟩ ⟨32, 9⟩ up && gives (.secOwnerFuse rq ⟨32, 9⟩) up (answers 7),
  acceptedB rq so Obj.SEC_ATTEST_NONCE ⟨32, 9⟩ ⟨32, 9⟩ up && gives (.secAttestNonce rq ⟨32, 9⟩) up (fun t => answers 0 t &&
    decide (t.mc.nonce = some 9) && decide (t.obj Obj.SEC_ATTEST_STATE = 1)),
  ok Obj.MC_FW_CHECK 2 1 up && gives (.mcFwCheck rq ⟨2, 1⟩) up (answers 7) && gives (.mcFwCheck rq ⟨2, 1⟩) (staged 2 id) (answers 1) &&
    gives (.mcFwCheck rq ⟨2, 1⟩) (staged 1 id) (fun t => answers 0 t && decide (t.obj Obj.MC_FW_STAGE_STATE = 2 ^ 29)),
  ok Obj.MC_FW_ACTIVATE 2 1 up && gives (.mcFwActivate rq ⟨2, 1⟩) up (answers 7) &&
    gives (.mcFwActivate rq ⟨2, 1⟩) (staged 3 fun m => { m with programming := some (1, ⟨0, 0⟩) }) (answers 1),
  gives (.mcFwActivate rq ⟨2, 1⟩) (staged 3 id) (fun t => answers 0 t && decide (t.mc.restart = some 2)),
  ok Obj.MC_FW_PROGRAM 2 1 up && ok Obj.MC_FW_PROGRAM 2 2 up && gives (.mcFwProgramSlotA rq) up (answers 7) &&
    gives (.mcFwProgramSlotB rq) (staged 3 fun m => { m with programming := some (1, ⟨0, 0⟩) }) (answers 1),
  gives (.mcFwProgramSlotA rq) (staged 3 fun m => { m with slotA := some ⟨0, 0⟩, slotB := some ⟨1, 0⟩ }) (fun t => answers 0 t &&
    decide (t.mc.slotA = none) && decide (t.mc.slotB = some ⟨1, 0⟩)),
  gives (.mcFwProgramSlotB rq) (staged 3 fun m => { m with slotA := some ⟨0, 0⟩, slotB := some ⟨1, 0⟩ }) (fun t => answers 0 t &&
    decide (t.mc.slotB = none) && decide (t.obj Obj.MC_FW_PROGRAM_STATE = 1)),
  gives .attestDone up (same up) && decide (((staged 0 fun m => { m with nonce := some 9 }).setObj Obj.SEC_ATTEST_STATE 1).mc.nonce = some 9),
  gives .fwCheckDone up (same up) && gives .fwCheckDone (staged 2 id) (fun t => decide (t.obj Obj.MC_FW_STAGE_STATE = 4 * 2 ^ 28 + 1)),
  gives (.fwProgramDone true) (staged 3 fun m => { m with programming := some (2, ⟨1, 5⟩) }) (fun t => decide (t.mc.slotB = some ⟨1, 5⟩) &&
    decide (t.obj Obj.MC_FW_PROGRAM_STATE = 3)),
  gives (.fwProgramDone false) (staged 3 fun m => { m with programming := some (1, ⟨1, 5⟩), slotA := some ⟨0, 0⟩ })
    (fun t => decide (t.mc.slotA = none) && decide (t.obj Obj.MC_FW_PROGRAM_STATE = 4)) && gives (.fwProgramDone true) up (same up)] := by
  decide +kernel

def restarting (boot : Nat) (f : Mc → Mc) : State := { up with bar := { up.bar with bootState := boot }, mc := f up.mc }

/-- TheComplexRestarts: causes, the first and the third start, and an end that does not come. -/
theorem test_TheComplexRestarts : Checks [
  gives (.lockstepMismatch 1) up (fun t => decide (t.mc.restart = some 4) && decide (t.obj Obj.MC_LOCKSTEP_ERR = 1)) &&
    gives (.lockstepMismatch 1) (restarting 4 id) (fun t => decide (t.mc.restart = none)),
  gives (.watchdogExpire 1 100) up (fun t => decide (t.mc.restart = some 3)) && gives (.watchdogExpire 1 99) up (same up),
  gives (.watchdogExpire 1 2000) (restarting 5 fun m => { m with activating := some 4, restart := some 1 })
    (fun t => decide (t.mc.restart = some 1) && decide (t.mc.activating = none)),
  ok Obj.MC_RESTART 2 1 up && gives (.mcRestart rq ⟨2, 1⟩) up (fun t => answers 0 t && decide (t.mc.restart = some 1)),
  gives (.warmRestart []) up (same up),
  gives (.warmRestart []) { restarting 3 (fun m => { m with restart := some 1, starts := [8000100, 101] }) with now := 8000100 }
    (fun t => decide (t.bar.bootState = 4) && decide (t.bar.bootError = 14)),
  gives (.warmRestart []) { restarting 3 (fun m => { m with restart := some 1, starts := [8000100, 100] }) with now := 8000100 }
    (fun t => decide (t.bar.bootState = 5) && decide (t.obj Obj.MC_RESTART_CAUSE = 1) && decide (t.mc.restarting = some 1)),
  gives .warmRestartReady up (same up) && gives .warmRestartReady (restarting 5 fun m => { m with restarting := some 1, restart := some 1 }) (fun t => decide (t.bar.bootState = 5)),
  gives .warmRestartReady (restarting 2 fun m => { m with remap := true }) (fun t => decide (t.bar.bootState = 3)) &&
    gives .warmRestartReady (restarting 2 fun m => { m with remap := true, initialising := true })
      (same (restarting 2 fun m => { m with remap := true, initialising := true })),
  decide ((restarting 5 fun m => { m with restarting := some 1, running := some ⟨0, 0⟩ }).mc.running = some ⟨0, 0⟩)] := by
  decide +kernel

def counter (c sel val : Nat) (s : State) : State := (s.setObj (perfSel c) sel).setObj (perfVal c) val

/-- CountersCountAndDump: the last counter, a chain, a dump that is due, full, and at the ring's end, and both forms of the freeze. -/
theorem test_CountersCountAndDump : Checks [
  gives (.perfCounterOverflow 95 5) (counter 95 (2 ^ 31) (2 ^ 32 - 6) up) (same (counter 95 (2 ^ 31) (2 ^ 32 - 6) up)),
  gives (.perfCounterOverflow 95 5) (counter 95 (2 ^ 31 + 2 ^ 29) (2 ^ 32 - 5) up) (fun t => decide (t.obj (perfVal 95) = 0) &&
    bit (t.obj (Obj.PERF_DP_OVF 1)) 31 && t.mc.interrupts.contains 95),
  gives (.perfCounterOverflow 0 5) (counter 1 (3 * 2 ^ 30) 8 (counter 0 (2 ^ 31) (2 ^ 32 - 5) up)) (fun t => decide (t.obj (perfVal 0) = 0) &&
    bit (t.obj (Obj.PERF_CORE_OVF 0)) 0 && decide (t.obj (perfVal 1) = 9)),
  gives (.perfCounterOverflow 0 5) ((counter 0 (2 ^ 31) (2 ^ 32 - 5) up).setObj Obj.PERF_FROZEN 1) (same ((counter 0 (2 ^ 31) (2 ^ 32 - 5) up).setObj Obj.PERF_FROZEN 1)),
  gives (.perfDump none) up (same up) && gives (.perfDump none) ({ (up.setObj Obj.PERF_DUMP_TGT 1).setObj Obj.PERF_DUMP_RD 1 with now := 800 }) (fun t => decide (t.obj Obj.PERF_DUMP_DROP = 1) && t.mc.dumpGap),
  gives (.perfDump none) ({ ((up.setObj Obj.PERF_DUMP_TGT 1).setObj Obj.PERF_DUMP_RD 1).setObj Obj.PERF_DUMP_WR 511 with now := 800 })
    (fun t => decide (t.obj Obj.PERF_DUMP_WR = 0) && decide (t.mc.sequence = 1) && decide (t.mc.dump.length = 1)),
  gives (.perfDump none) ({ ((up.setObj Obj.PERF_DUMP_TGT 2).setObj Obj.PERF_DUMP_RD 5).withProt (fun p => { p with hbmFault := true }) with now := 800 }) (fun t => decide (t.obj Obj.PERF_DUMP_DROP = 1)),
  ok Obj.PERF_FREEZE 2 1 up && gives (.perfFreeze rq) up (fun t => answers 0 t && decide (t.agenda = [⟨101, .freeze true⟩])),
  ok Obj.PERF_FREEZE 2 0 up && gives (.perfResume rq) up (fun t => answers 0 t && decide (t.agenda = [⟨101, .freeze false⟩]))] := by
  decide +kernel

/-! ### The queue, the stores, responses, and terms that are not well formed -/

def stepsTo (s : State) (p : State → Bool) : Bool :=
  match step s with
  | .next t => p t
  | _ => false

/-- StepRunsTheFrontCommand, StepsOnlyConsumeTheQueue: a front command with one waiting behind it, and an empty queue. -/
theorem test_StepTakesTheFrontCommand : Checks [
  stepsTo { up with pending := [.xoFail none, .hbmReturn] } (fun t => decide (t.obj Obj.TM_XO_STATE = 1) && decide (t.pending = [.hbmReturn])),
  stepsTo up (same up),
  decide (decodeTableWord 32 0 = none) && decide (State.withFetchWord up 32 0 = up)] := by
  decide +kernel

/-- ResetLeavesDefaults, ResetIsCanonical, StepKeepsCanonical: stores in canonical form after reset and in a state with entries, and one
store that is not: an entry that holds its default. -/
theorem test_StoresAreCanonical : Checks [
  Map.wf objDefault State.reset.reg && Map.wf objDefault State.reset.act && Map.wf objDefault State.reset.shd &&
    Map.wf (fun _ => 0) State.reset.defects,
  Map.wf objDefault (withConn 1 1 up).reg && Map.wf objDefault (withConn 1 1 up).act && Map.wf (fun _ => 0) (up.declare Df.sd 1).defects,
  gives (.xoFail none) up (fun t => Map.wf objDefault t.reg),
  !Map.wf objDefault [(Obj.PWR_AVS_EN, 1)],
  decide (State.reset.obj (Obj.SIO_T 2) = 16) && decide (State.reset.obj (Obj.SIO_T 7) = 8) && decide (State.reset.domState 17 = 3) &&
    decide (State.reset.domState 19 = 0)] := by
  decide +kernel

/-- ResponsesReachTheirSender: the mailbox, with 65,536 bytes and one more, and ring slot 15. -/
theorem test_ResponsesReachTheirSender : Checks [
  decide ((up.deliver rq 1 .busy [⟨65520, 7⟩]).bar.response = some ⟨1, 1, 0, 7, 100, [⟨65520, 7⟩], none⟩) &&
    !(up.deliver rq 1 .busy [⟨65520, 7⟩]).bar.more,
  (up.deliver rq 1 .busy [⟨65521, 7⟩]).bar.more && (up.deliver rq 1 .busy [⟨65521, 7⟩]).bar.ready &&
    bit (up.deliver rq 1 .busy [⟨65521, 7⟩]).bar.irqSts 0,
  decide ((up.deliver rq 1 .busy []).obj (Obj.QM_STATUS_COUNT 1) = 1),
  decide ((up.deliver { rq with slot := some 15 } 1 .busy []).bar = up.bar)] := by
  decide +kernel

def badRq : Rq := { ver := 16 }
def badVal : Val := ⟨1, 256⟩
def goodRing : RingCopy := ringCopy true 0 5
def goodTick : TickIn := {}

/-- An ill-formed term for each check of requests, values and operands. -/
theorem test_IllFormedOperandsAreRefused : Checks [
  Instr.wf (.pwrRailRetry rq 11 ⟨2, 1⟩) && Instr.wf (.ringCopyReceive goodRing) && Instr.wf (.tickBoundary goodTick),
  !Instr.wf (.shdRevert badRq) && !Instr.wf (.shdRevert { session := 2 ^ 32 }) && !Instr.wf (.shdRevert { txid := 2 ^ 32 }),
  !Instr.wf (.shdRevert { counter := 2 ^ 64 }) && !Instr.wf (.shdRevert { tag := 2 ^ 64 }) && !Instr.wf (.shdRevert { frame := [⟨1, 256⟩] }),
  !Instr.wf (.tmTodSet rq badVal) && !Val.wf ⟨65521, 0⟩ && !Instr.wf (.lineChgRetry rq 0 badVal) && !Instr.wf (.secZeroise rq badVal),
  !Instr.wf (.biasUnlock 0 64) && !Instr.wf (.bgCalUpdate 0 [⟨.gain, true, 0x1FC0, 1, 0⟩]) && !Instr.wf (.bgCalUpdate 0 [⟨.gain, true, 0, 1, 256⟩]),
  LFrame.wf ⟨0, 0, List.replicate 24544 0⟩ && !LFrame.wf ⟨0, 256 ^ 32, List.replicate 24544 0⟩ && !LFrame.wf ⟨0, 0, List.replicate 24543 0⟩ &&
    !LFrame.wf ⟨0, 0, 256 :: List.replicate 24543 0⟩ && !Instr.wf (.lFrameReceive 0 ⟨0, 0, []⟩),
  !Instr.wf (.otucFrameCheck 0 ⟨true, 256, false, []⟩) && Instr.wf (.otucFrameCheck 0 ⟨true, 0, false, [⟨128, 0, 8, false, false, none⟩]⟩) &&
    !Instr.wf (.otucFrameCheck 0 ⟨true, 0, false, [⟨129, 0, 0, false, false, none⟩]⟩) &&
    !Instr.wf (.otucFrameCheck 0 ⟨true, 0, false, [⟨0, 0, 0, false, false, none⟩]⟩) &&
    !Instr.wf (.otucFrameCheck 0 ⟨true, 0, false, [⟨1, 256 ^ 64, 0, false, false, none⟩]⟩) &&
    !Instr.wf (.otucFrameCheck 0 ⟨true, 0, false, [⟨1, 0, 9, false, false, none⟩]⟩),
  !OhpRecord.wf ⟨16, []⟩ && !OhpRecord.wf ⟨0, List.replicate 16 0⟩ && !OhpRecord.wf ⟨0, [256]⟩ && !GccBytes.wf ⟨64, []⟩ &&
    !GccBytes.wf ⟨0, [256]⟩,
  !Instr.wf (.smxMessageReceive 0 ⟨0, 256 ^ 16⟩) && !LcrMessage.wf ⟨true, 65536, 0, 0, false, 0⟩ &&
    !LcrMessage.wf ⟨true, 0, 8192, 0, false, 0⟩,
  !Instr.wf (.smxTargetMultiframe 0 true (2 ^ 32)) && !Instr.wf (.lcrResizeMultiframe 0 0 (2 ^ 32)) && !Instr.wf (.swapAt rq false (2 ^ 64)),
  !Instr.wf (.pmSecond [{ point := 2 ^ 17 }]) && !Instr.wf (.pmSecond [{ point := 1, errored := 1 }]) && !Instr.wf (.pmSdWindow ⟨1, 2, 1⟩),
  !Instr.wf (.scrubVisit ⟨0, 2 ^ 22, 0, [], {}, 0, 0⟩ false) && !Instr.wf (.scrubVisit ⟨0, 0, 256, [], {}, 0, 0⟩ false) &&
    !Instr.wf (.scrubVisit ⟨0, 0, 0, [2 ^ 24], {}, 0, 0⟩ false),
  !Instr.wf (.tickBoundary { badBlocks := [245] }) && !Instr.wf (.tickBoundary { badWords := [1000000] }) &&
    !Instr.wf (.tickBoundary { badXor := [62500] }),
  !LaneSet.wf ⟨[64], 0⟩ && !Cell.wf ⟨2 ^ 32, List.replicate 32 0, 0⟩ && !Cell.wf ⟨0, [], 0⟩ && !Cell.wf ⟨0, 2 ^ 32 :: List.replicate 31 0, 0⟩ &&
    !Instr.wf (.ptpTimestamp 0 { stamp with quarters := 4000000000 }) && !Instr.wf (.ptpTimestamp 0 { stamp with message := 16 }) && !Instr.wf (.ptpTimestamp 0 { stamp with checksum := 65536 }),
  !Instr.wf (.apsReceive 0 ⟨5, 14, 0, 0, true, true, 0⟩) && !Instr.wf (.remoteRecordReceive 0 0 (2 ^ 24) 0) &&
    !Instr.wf (.remoteRecordReceive 0 0 0 65536),
  !Instr.wf (.mmFrameComplete 0 false ⟨some (2 ^ 32), false, false, false⟩) && !Instr.wf (.secRxFrame 0 0 { body := { soh := 256 ^ 6 } }) &&
    !Instr.wf (.secTxFrame 0 0 ⟨false, { mirror := 256 ^ 5 }⟩) && !Instr.wf (.secTxFrame 0 0 ⟨false, { psi := 256 }⟩) &&
    !Instr.wf (.secTxFrame 0 0 ⟨false, { payload := 256 ^ 15232 }⟩),
  !Instr.wf (.kaHello 0 (256 ^ 1952) 0) && !Instr.wf (.kaEk 0 (256 ^ 1568) 0) && !Instr.wf (.kaCt 0 0 (256 ^ 3309)) &&
    !Instr.wf (.kaConfirm 0 (256 ^ 32)) && !Instr.wf (.kaReady 0 0 2 0 0) && !Instr.wf (.kaAbort 0 256),
  !Instr.wf (.secMapWrite rq (2 ^ 32) ⟨2, 1⟩) && !Instr.wf (.read rq (2 ^ 32) 0) && !Instr.wf (.read rq 0 (2 ^ 32)) &&
    !Instr.wf (.subscribeAdd rq [65536]),
  !Instr.wf (.digestWalk rq 0 256 0 0 0) && !Instr.wf (.writeShadow rq 0 0 (2 ^ 32) 0 ⟨1, 0⟩) && !Instr.wf (.tableWrite rq 0 0 0 (2 ^ 32) []),
  !OpenRequest.wf { len := 0, role := 256, nonce := 0, publicKey := 0, encapsKey := 0, signature := 0 } && !Instr.wf (.evqCtlWrite (2 ^ 32) 0 0),
  !Instr.wf (.ringCopyReceive ⟨0, 256 ^ 1312, 0, true⟩) && RingCopy.wf ⟨0, 256 ^ 1312 - 1, 0, true⟩ && !Instr.wf (.quiescentExit true ⟨0, 256 ^ 1312, 0, true⟩),
  !Instr.wf (.d2dReplay ⟨0, 0, 0, 0, 0, false, [], [1000000], []⟩) && !Instr.wf (.d2dReplay ⟨0, 0, 0, 0, 0, false, [], [], [2 ^ 17]⟩),
  !FwImage.wf ⟨2097153, 0⟩ && !FwImage.wf ⟨1, 256⟩ && !Instr.wf (.porstNRelease ⟨0, 0, true, some ⟨1, 256⟩, none, true⟩),
  !Instr.wf (.bootReady ⟨10, 0, true, 0⟩) && !Instr.wf (.bootReady ⟨11, 12, true, 0⟩) && !Burst.wf ⟨16, 0, 0⟩,
  !Instr.wf (.fwChunk rq 0 65521 0) && !Instr.wf (.fwChunk rq 0 1 256) && !Instr.wf (.fwEnd rq (2 ^ 32)) &&
    !Instr.wf (.perfCounterOverflow 0 (2 ^ 32))] := by
  decide +kernel

end Sys2Proof.Tests
end

section
/-! PROOFS. The statements of the first family: what reset leaves, the canonical form that every step keeps, and the tick counter. -/

namespace Sys2Proof.Machine

/-! ## What reset leaves -/

/-- No session slot is open while its row reads its default (R451). -/
theorem objDefault_sessions (k : Nat) : objDefault (Obj.QM_SESSIONS k) = 0 := rfl

/-- The power domains after reset (R484). -/
theorem objDefault_domState (d : Fin 20) : objDefault (Obj.PWR_DOM_STATE d) = domResetState d := by
  have hd : d.val ≤ 19 := Nat.le_of_lt_succ d.isLt
  simp [objDefault, dictFind, dictClass, dictClass02, hd]

/-- The storage strengths after reset (R454). -/
theorem objDefault_storeStrength (g : Fin 8) : objDefault (Obj.SIO_T g) = sioResetT g := by
  have hg : g.val ≤ 7 := Nat.le_of_lt_succ g.isLt
  simp [objDefault, dictFind, dictClass, dictClass05, hg]

@[simp] theorem State.obj_reset (k : Key) : State.reset.obj k = objDefault k := rfl

theorem State.sessionOpen_reset (k : Nat) : State.reset.sessionOpen k = false := by
  rw [State.sessionOpen, State.obj_reset, objDefault_sessions, bit_zero]

/-- Settles O2: every table is empty after reset, so that each read gives the default of its row. -/
theorem resetLeavesDefaults : Obligations.ResetLeavesDefaults :=
  ⟨fun _ => ⟨rfl, rfl⟩, fun _ _ => rfl, State.sessionOpen_reset, rfl, rfl, rfl, objDefault_domState, objDefault_storeStrength⟩

/-- Settles O3: an empty table is in canonical form. -/
theorem resetIsCanonical : Obligations.ResetIsCanonical := ⟨rfl, rfl, rfl, rfl⟩

/-! ## What every step keeps -/

/-- Every command completes, and keeps the queue and the canonical form. Those that pass a boundary, end in a reset or finish
the boot have a lemma about just that; all the others work within one elapsed tick. -/
theorem exec_keeps (c : Instr) (s : State) : OutKeeps s (exec c s) :=
  match c with
  | .tickBoundary w => execTickBoundary_keeps w s
  | .tickOverrun engine affected => (execTickOverrun_steady engine affected s .rfl).keeps
  | .dtickovrClear => (execDtickovrClear_steady s .rfl).keeps
  | .corePllUnlock => execCorePllUnlock_keeps s
  | .tbTickLoad rq val => (execTbTickLoad_steady rq val s .rfl).keeps
  | .tickCounterLoad => (execTickCounterLoad_steady s .rfl).keeps
  | .tbBondCfgWrite rq val => (execTbBondCfgWrite_steady rq val s .rfl).keeps
  | .bondApply => (execBondApply_steady s .rfl).keeps
  | .singleObjectCommit => (execSingleObjectCommit_steady s .rfl).keeps
  | .laserRangeChange e input power ticks => (execLaserRangeChange_steady e input power ticks s .rfl).keeps
  | .lspiXfer rq e val => (execLspiXfer_steady rq e val s .rfl).keeps
  | .lspiDone e received => (execLspiDone_steady e received s .rfl).keeps
  | .biasUnlock e loops => (execBiasUnlock_steady e loops s .rfl).keeps
  | .biasRelockRestore e ticks => (execBiasRelockRestore_steady e ticks s .rfl).keeps
  | .txPowerShort e achieved ticks => (execTxPowerShort_steady e achieved ticks s .rfl).keeps
  | .rxOverload e average quietTicks => (execRxOverload_steady e average quietTicks s .rfl).keeps
  | .lineLosDeclare e power ns => (execLineLosDeclare_steady e power ns s .rfl).keeps
  | .lineLosClear e power ticks => (execLineLosClear_steady e power ticks s .rfl).keeps
  | .refRangeChange microvolts calclkPpb => (execRefRangeChange_steady microvolts calclkPpb s .rfl).keeps
  | .bgCalUpdate e coefficients => (execBgCalUpdate_steady e coefficients s .rfl).keeps
  | .calDarkOffset rq e => (execCalDarkOffset_steady rq e s .rfl).keeps
  | .calLoopback rq e => (execCalLoopback_steady rq e s .rfl).keeps
  | .calReference rq e => (execCalReference_steady rq e s .rfl).keeps
  | .calAbort rq e => (execCalAbort_steady rq e s .rfl).keeps
  | .calRunStart e power => (execCalRunStart_steady e power s .rfl).keeps
  | .calComplete e power result => (execCalComplete_steady e power result s .rfl).keeps
  | .calDeferredCommit => (execCalDeferredCommit_steady s .rfl).keeps
  | .calDeferTimeout e => (execCalDeferTimeout_steady e s .rfl).keeps
  | .cnvCalImageWrite rq e val => (execCnvCalImageWrite_steady rq e val s .rfl).keeps
  | .cnvConverged e => (execCnvConverged_steady e s .rfl).keeps
  | .ldspModeWrite rq e val => (execLdspModeWrite_steady rq e val s .rfl).keeps
  | .ldspSubcarriersWrite rq e val => (execLdspSubcarriersWrite_steady rq e val s .rfl).keeps
  | .ldspRolloffWrite rq e val => (execLdspRolloffWrite_steady rq e val s .rfl).keeps
  | .ldspTxNotchWrite rq e index val => (execLdspTxNotchWrite_steady rq e index val s .rfl).keeps
  | .modeCommit => (execModeCommit_steady s .rfl).keeps
  | .txTrafficStart e => (execTxTrafficStart_steady e s .rfl).keeps
  | .acqRestartNewSignal rq e => (execAcqRestartNewSignal_steady rq e s .rfl).keeps
  | .acqRestartCold rq e => (execAcqRestartCold_steady rq e s .rfl).keeps
  | .buildDone e => (execBuildDone_steady e s .rfl).keeps
  | .searchDone e cd offset => (execSearchDone_steady e cd offset s .rfl).keeps
  | .verifyDone e => (execVerifyDone_steady e s .rfl).keeps
  | .verifyTimeout e => (execVerifyTimeout_steady e s .rfl).keeps
  | .syncPosition e primary secondary => (execSyncPosition_steady e primary secondary s .rfl).keeps
  | .enterValid e => (execEnterValid_steady e s .rfl).keeps
  | .acqRetry e => (execAcqRetry_steady e s .rfl).keeps
  | .lolDeclare e cause => (execLolDeclare_steady e cause s .rfl).keeps
  | .storedStateExpire e => (execStoredStateExpire_steady e s .rfl).keeps
  | .decCoreFail e core cause codewords => (execDecCoreFail_steady e core cause codewords s .rfl).keeps
  | .coreStartupTestDone e core pass => (execCoreStartupTestDone_steady e core pass s .rfl).keeps
  | .fecCoreRetest rq e val => (execFecCoreRetest_steady rq e val s .rfl).keeps
  | .coreRetestDone e core pass => (execCoreRetestDone_steady e core pass s .rfl).keeps
  | .fecfailDeclare e fraction ticks => (execFecfailDeclare_steady e fraction ticks s .rfl).keeps
  | .fecfailClear e ticks => (execFecfailClear_steady e ticks s .rfl).keeps
  | .lFrameReceive e frame => (execLFrameReceive_steady e frame s .rfl).keeps
  | .otucFrameCheck e frame => (execOtucFrameCheck_steady e frame s .rfl).keeps
  | .bondDeskew group offsets numbered => (execBondDeskew_steady group offsets numbered s .rfl).keeps
  | .ohpFrame port records received => (execOhpFrame_steady port records received s .rfl).keeps
  | .ohGccRouteWrite rq index val => (execOhGccRouteWrite_steady rq index val s .rfl).keeps
  | .hlRateWrite rq l val => (execHlRateWrite_steady rq l val s .rfl).keeps
  | .hlTxTimingWrite rq l val => (execHlTxTimingWrite_steady rq l val s .rfl).keeps
  | .hlPrbsCfgWrite rq l val => (execHlPrbsCfgWrite_steady rq l val s .rfl).keeps
  | .laneLocked l => (execLaneLocked_steady l s .rfl).keeps
  | .laneLossOfLock l => (execLaneLossOfLock_steady l s .rfl).keeps
  | .laneLosDeclare l amplitude ns => (execLaneLosDeclare_steady l amplitude ns s .rfl).keeps
  | .laneLosClear l amplitude ticks => (execLaneLosClear_steady l amplitude ticks s .rfl).keeps
  | .cliTypeWrite rq l val set => (execCliTypeWrite_steady rq l val set s .rfl).keeps
  | .cliFormWrite rq l val => (execCliFormWrite_steady rq l val s .rfl).keeps
  | .flexeCalSwitch g calendar => (execFlexeCalSwitch_steady g calendar s .rfl).keeps
  | .expansionCellReceive l cell => (execExpansionCellReceive_steady l cell s .rfl).keeps
  | .compileDirty rq => (execCompileDirty_steady rq s .rfl).keeps
  | .compileAll rq => (execCompileAll_steady rq s .rfl).keeps
  | .compileAbandon rq => (execCompileAbandon_steady rq s .rfl).keeps
  | .compileDone => (execCompileDone_steady s .rfl).keeps
  | .compileFail => (execCompileFail_steady s .rfl).keeps
  | .rollbackDone => (execRollbackDone_steady s .rfl).keeps
  | .sliceFail slice cause errors => (execSliceFail_steady slice cause errors s .rfl).keeps
  | .prismSliceRetest rq val => (execPrismSliceRetest_steady rq val s .rfl).keeps
  | .sliceRetestDone slice pass => (execSliceRetestDone_steady slice pass s .rfl).keeps
  | .sliceRejoin => (execSliceRejoin_steady s .rfl).keeps
  | .swap rq byObject => (execSwap_steady rq byObject s .rfl).keeps
  | .swapAt rq byObject epoch => (execSwapAt_steady rq byObject epoch s .rfl).keeps
  | .prismSwapCancel rq => (execPrismSwapCancel_steady rq s .rfl).keeps
  | .shdRevert rq => (execShdRevert_steady rq s .rfl).keeps
  | .swapTakeEffect => (execSwapTakeEffect_steady s .rfl).keeps
  | .swapAbandon => (execSwapAbandon_steady s .rfl).keeps
  | .syncDone => (execSyncDone_steady s .rfl).keeps
  | .blockRegenerate page block ticks => (execBlockRegenerate_steady page block ticks s .rfl).keeps
  | .smxMessageReceive e message => (execSmxMessageReceive_steady e message s .rfl).keeps
  | .smxTargetMultiframe e own count => (execSmxTargetMultiframe_steady e own count s .rfl).keeps
  | .lcrMessageReceive e message => (execLcrMessageReceive_steady e message s .rfl).keeps
  | .lcrResizeMultiframe e index count => (execLcrResizeMultiframe_steady e index count s .rfl).keeps
  | .lineChgTimeout e index multiframes => (execLineChgTimeout_steady e index multiframes s .rfl).keeps
  | .lineChgRetry rq e val => (execLineChgRetry_steady rq e val s .rfl).keeps
  | .holdoffExpire g => (execHoldoffExpire_steady g s .rfl).keeps
  | .wtrExpire g => (execWtrExpire_steady g s .rfl).keeps
  | .pscHoldExpire g => (execPscHoldExpire_steady g s .rfl).keeps
  | .apsReceive g value => (execApsReceive_steady g value s .rfl).keeps
  | .fopMismatchTimeout g => (execFopMismatchTimeout_steady g s .rfl).keeps
  | .remoteRecordReceive node index tick record => (execRemoteRecordReceive_steady node index tick record s .rfl).keeps
  | .remoteStale r => (execRemoteStale_steady r s .rfl).keeps
  | .mmFrameComplete m protect frame => (execMmFrameComplete_steady m protect frame s .rfl).keeps
  | .mmAutoRetime m => (execMmAutoRetime_steady m s .rfl).keeps
  | .mmRetime rq val => (execMmRetime_steady rq val s .rfl).keeps
  | .hbmFailure reads => (execHbmFailure_steady reads s .rfl).keeps
  | .hbmReturn => (execHbmReturn_steady s .rfl).keeps
  | .secMapWrite rq index val => (execSecMapWrite_steady rq index val s .rfl).keeps
  | .secRxFrame e ch frame => (execSecRxFrame_steady e ch frame s .rfl).keeps
  | .secTxFrame e ch frame => (execSecTxFrame_steady e ch frame s .rfl).keeps
  | .secRoll rq e val => (execSecRoll_steady rq e val s .rfl).keeps
  | .keySwitch e ch => (execKeySwitch_steady e ch s .rfl).keeps
  | .secKeyInstall rq e val => (execSecKeyInstall_steady rq e val s .rfl).keeps
  | .secZeroise rq val => (execSecZeroise_steady rq val s .rfl).keeps
  | .secLinkStart rq e val => (execSecLinkStart_steady rq e val s .rfl).keeps
  | .kaHello e publicKey nonce => (execKaHello_steady e publicKey nonce s .rfl).keeps
  | .kaEk e key signature => (execKaEk_steady e key signature s .rfl).keeps
  | .kaCt e ciphertext signature => (execKaCt_steady e ciphertext signature s .rfl).keeps
  | .kaConfirm e value => (execKaConfirm_steady e value s .rfl).keeps
  | .kaReady e tpn d epoch check => (execKaReady_steady e tpn d epoch check s .rfl).keeps
  | .kaAbort e cause => (execKaAbort_steady e cause s .rfl).keeps
  | .kaTimeout e => (execKaTimeout_steady e s .rfl).keeps
  | .kaRetry e => (execKaRetry_steady e s .rfl).keeps
  | .linkSecretExpire e => (execLinkSecretExpire_steady e s .rfl).keeps
  | .entropyFail test => (execEntropyFail_steady test s .rfl).keeps
  | .entropyRecover windows => (execEntropyRecover_steady windows s .rfl).keeps
  | .keyDeferredProceed => (execKeyDeferredProceed_steady s .rfl).keeps
  | .refFail r missing => (execRefFail_steady r missing s .rfl).keeps
  | .refFailClear r run => (execRefFailClear_steady r run s .rfl).keeps
  | .refCheck r offset fresh => (execRefCheck_steady r offset fresh s .rfl).keeps
  | .refQualify r => (execRefQualify_steady r s .rfl).keeps
  | .dpllSwitchCommit d error differs => (execDpllSwitchCommit_steady d error differs s .rfl).keeps
  | .dpllFrequencyLock d ticks error => (execDpllFrequencyLock_steady d ticks error s .rfl).keeps
  | .slewDone d => (execSlewDone_steady d s .rfl).keeps
  | .xoFail ppm => (execXoFail_steady ppm s .rfl).keeps
  | .xoReturn ppm ticks => (execXoReturn_steady ppm ticks s .rfl).keeps
  | .esmcPduReceive l ssm essm => (execEsmcPduReceive_steady l ssm essm s .rfl).keeps
  | .esmcTimeout r => (execEsmcTimeout_steady r s .rfl).keeps
  | .esmcInfoTx l => (execEsmcInfoTx_steady l s .rfl).keeps
  | .ppsEdge p error => (execPpsEdge_steady p error s .rfl).keeps
  | .tmTodSet rq val => (execTmTodSet_steady rq val s .rfl).keeps
  | .todSecondRollover => (execTodSecondRollover_steady s .rfl).keeps
  | .tmDpPhaseAdj rq d val => (execTmDpPhaseAdj_steady rq d val s .rfl).keeps
  | .tmHoParamWrite rq param val => (execTmHoParamWrite_steady rq param val s .rfl).keeps
  | .ptpTimestamp l stamp => (execPtpTimestamp_steady l stamp s .rfl).keeps
  | .measUpdate e estimates => (execMeasUpdate_steady e estimates s .rfl).keeps
  | .rtdMeasure e stamp => (execRtdMeasure_steady e stamp s .rfl).keeps
  | .rtdReturn e stamp => (execRtdReturn_steady e stamp s .rfl).keeps
  | .rtdTimeout e => (execRtdTimeout_steady e s .rfl).keeps
  | .pscTransientOpen e speed => (execPscTransientOpen_steady e speed s .rfl).keeps
  | .pscClassify e speed above => (execPscClassify_steady e speed above s .rfl).keeps
  | .pscTransientClose e quiet peak => (execPscTransientClose_steady e quiet peak s .rfl).keeps
  | .hkResult c data => (execHkResult_steady c data s .rfl).keeps
  | .hkSeqFire rq m val => (execHkSeqFire_steady rq m val s .rfl).keeps
  | .hkSeqPeriodTrigger m => (execHkSeqPeriodTrigger_steady m s .rfl).keeps
  | .hkSeqEnd m => (execHkSeqEnd_steady m s .rfl).keeps
  | .hkSeqStepsWrite rq m index val => (execHkSeqStepsWrite_steady rq m index val s .rfl).keeps
  | .hkInterleaveWrite rq val => (execHkInterleaveWrite_steady rq val s .rfl).keeps
  | .loupeArm rq => (execLoupeArm_steady rq s .rfl).keeps
  | .loupeAbort rq => (execLoupeAbort_steady rq s .rfl).keeps
  | .loupeFire rq val => (execLoupeFire_steady rq val s .rfl).keeps
  | .loupeTrigger => (execLoupeTrigger_steady s .rfl).keeps
  | .loupeDone => (execLoupeDone_steady s .rfl).keeps
  | .pmSecond counts => (execPmSecond_steady counts s .rfl).keeps
  | .pmBinClose day => (execPmBinClose_steady day s .rfl).keeps
  | .pmSdWindow w => (execPmSdWindow_steady w s .rfl).keeps
  | .pmPointWrite rq p val => (execPmPointWrite_steady rq p val s .rfl).keeps
  | .read rq obj index => (execRead_steady rq obj index s .rfl).keeps
  | .write rq obj index val => (execWrite_steady rq obj index val s .rfl).keeps
  | .writeShadow rq obj index generation edits val => (execWriteShadow_steady rq obj index generation edits val s .rfl).keeps
  | .bulkRead rq obj first count => (execBulkRead_steady rq obj first count s .rfl).keeps
  | .tableWrite rq obj first count bytes elements => (execTableWrite_steady rq obj first count bytes elements s .rfl).keeps
  | .subscribeAdd rq codes => (execSubscribeAdd_steady rq codes s .rfl).keeps
  | .subscribeRemove rq codes => (execSubscribeRemove_steady rq codes s .rfl).keeps
  | .subscribeFetch rq count => (execSubscribeFetch_steady rq count s .rfl).keeps
  | .resync rq => (execResync_steady rq s .rfl).keeps
  | .digestWalk rq target copy level first count => (execDigestWalk_steady rq target copy level first count s .rfl).keeps
  | .sessionOpen rq request => (execSessionOpen_steady rq request s .rfl).keeps
  | .sessionClose rq => (execSessionClose_steady rq s .rfl).keeps
  | .sessionIdleClose k => (execSessionIdleClose_steady k s .rfl).keeps
  | .nextChunk => (execNextChunk_steady s .rfl).keeps
  | .abandonChunks => (execAbandonChunks_steady s .rfl).keeps
  | .evqCtlWrite v base size => (execEvqCtlWrite_steady v base size s .rfl).keeps
  | .ringCopyReceive copy => (execRingCopyReceive_steady copy s .rfl).keeps
  | .standbyTakeover => (execStandbyTakeover_steady s .rfl).keeps
  | .vyPortFail port lockLost silent => (execVyPortFail_steady port lockLost silent s .rfl).keeps
  | .vyUnwrap port locked frame => (execVyUnwrap_steady port locked frame s .rfl).keeps
  | .demandScrub region page => (execDemandScrub_steady region page s .rfl).keeps
  | .scrubVisit visit passEnd => (execScrubVisit_steady visit passEnd s .rfl).keeps
  | .bucketLeak region => (execBucketLeak_steady region s .rfl).keeps
  | .pageRepairSwitch region page => (execPageRepairSwitch_steady region page s .rfl).keeps
  | .uncorrectablePageRepair page ticks => (execUncorrectablePageRepair_steady page ticks s .rfl).keeps
  | .sioTWrite rq region val => (execSioTWrite_steady rq region val s .rfl).keeps
  | .d2dReplay replay => (execD2dReplay_steady replay s .rfl).keeps
  | .d2dLaneSpare link direction group lane errors => (execD2dLaneSpare_steady link direction group lane errors s .rfl).keeps
  | .fiArmPrepare rq => (execFiArmPrepare_steady rq s .rfl).keeps
  | .fiArmConfirm rq => (execFiArmConfirm_steady rq s .rfl).keeps
  | .fiDisarm rq => (execFiDisarm_steady rq s .rfl).keeps
  | .fiPrepareTimeout => (execFiPrepareTimeout_steady s .rfl).keeps
  | .fiDurationExpire => (execFiDurationExpire_steady s .rfl).keeps
  | .fiOccurrence slot conns affected => (execFiOccurrence_steady slot conns affected s .rfl).keeps
  | .fiSlotWrite rq slot val => (execFiSlotWrite_steady rq slot val s .rfl).keeps
  | .pwrDomSleep rq d => (execPwrDomSleep_steady rq d s .rfl).keeps
  | .pwrDomWake rq d => (execPwrDomWake_steady rq d s .rfl).keeps
  | .domainEntryHandshake d delaying => (execDomainEntryHandshake_steady d delaying s .rfl).keeps
  | .entryDelayTimeout d => (execEntryDelayTimeout_steady d s .rfl).keeps
  | .domainEntryStepEnd d => (execDomainEntryStepEnd_steady d s .rfl).keeps
  | .wakeNAssert => (execWakeNAssert_steady s .rfl).keeps
  | .domainRampDone d failed => (execDomainRampDone_steady d failed s .rfl).keeps
  | .domainClockSwitch d => (execDomainClockSwitch_steady d s .rfl).keeps
  | .pwrPadRelease rq d val => (execPwrPadRelease_steady rq d val s .rfl).keeps
  | .regulatorAck rail => execRegulatorAck_keeps rail s
  | .regulatorTimeout rail ticks => (execRegulatorTimeout_steady rail ticks s .rfl).keeps
  | .pmbAlert faults => (execPmbAlert_steady faults s .rfl).keeps
  | .pwrRailRetry rq rail val => (execPwrRailRetry_steady rq rail val s .rfl).keeps
  | .avsStep up => (execAvsStep_steady up s .rfl).keeps
  | .supplyWarning rail voltage samples => (execSupplyWarning_steady rail voltage samples s .rfl).keeps
  | .supplyRecover rail voltage minimum ticks => (execSupplyRecover_steady rail voltage minimum ticks s .rfl).keeps
  | .supplyReset rail voltage samples => execSupplyReset_keeps rail voltage samples s
  | .pwrQuiescent rq val wakeN => (execPwrQuiescent_steady rq val wakeN s .rfl).keeps
  | .quiescentExit byRing request => (execQuiescentExit_steady byRing request s .rfl).keeps
  | .porstNRelease board => (execPorstNRelease_steady board s .rfl).keeps
  | .bootReady ending => execBootReady_keeps ending s
  | .fwChunk rq offset bytes data => (execFwChunk_steady rq offset bytes data s .rfl).keeps
  | .fwEnd rq length => (execFwEnd_steady rq length s .rfl).keeps
  | .pcieLinkLoss bursts => (execPcieLinkLoss_steady bursts s .rfl).keeps
  | .secSvCommit rq val burned => (execSecSvCommit_steady rq val burned s .rfl).keeps
  | .secOwnerFuse rq val => (execSecOwnerFuse_steady rq val s .rfl).keeps
  | .secAttestNonce rq val => (execSecAttestNonce_steady rq val s .rfl).keeps
  | .attestDone => (execAttestDone_steady s .rfl).keeps
  | .lockstepMismatch pair => (execLockstepMismatch_steady pair s .rfl).keeps
  | .watchdogExpire pair ms => (execWatchdogExpire_steady pair ms s .rfl).keeps
  | .mcRestart rq val => (execMcRestart_steady rq val s .rfl).keeps
  | .warmRestart bursts => (execWarmRestart_steady bursts s .rfl).keeps
  | .warmRestartReady => (execWarmRestartReady_steady s .rfl).keeps
  | .mcFwCheck rq val => (execMcFwCheck_steady rq val s .rfl).keeps
  | .fwCheckDone => (execFwCheckDone_steady s .rfl).keeps
  | .mcFwProgramSlotA rq => (execMcFwProgramSlotA_steady rq s .rfl).keeps
  | .mcFwProgramSlotB rq => (execMcFwProgramSlotB_steady rq s .rfl).keeps
  | .fwProgramDone ok => (execFwProgramDone_steady ok s .rfl).keeps
  | .mcFwActivate rq val => (execMcFwActivate_steady rq val s .rfl).keeps
  | .perfCounterOverflow counter count => (execPerfCounterOverflow_steady counter count s .rfl).keeps
  | .perfDump complete => (execPerfDump_steady complete s .rfl).keeps
  | .perfFreeze rq => (execPerfFreeze_steady rq s .rfl).keeps
  | .perfResume rq => (execPerfResume_steady rq s .rfl).keeps
  | .biasLoopLock e loops power => (execBiasLoopLock_steady e loops power s .rfl).keeps
  | .clientPcsLockChange l pcs => (execClientPcsLockChange_steady l pcs s .rfl).keeps
  | .s1Receive l s1 => (execS1Receive_steady l s1 s .rfl).keeps
  | .agreementFrameReceive e lof alignment => (execAgreementFrameReceive_steady e lof alignment s .rfl).keeps
  | .supplyResetRelease samples => (execSupplyResetRelease_steady samples s .rfl).keeps
  | .porstNAssert => execPorstNAssert_keeps s
  | .pcieLinkUp => (execPcieLinkUp_steady s .rfl).keeps
  | .quiescentRailRetry rail ticks => (execQuiescentRailRetry_steady rail ticks s .rfl).keeps

/-- Settles O4: an idle step leaves the state, taking the front command off the queue touches no store, and `exec_keeps` is the rest. -/
theorem stepKeepsCanonical : Obligations.StepKeepsCanonical := by
  intro s t hs ht
  unfold step at ht
  split at ht
  next => cases ht; exact hs
  next c rest _ =>
    obtain ⟨u, hu, hk⟩ := exec_keeps c { s with pending := rest }
    cases hu.symm.trans ht
    exact hk.canonical hs

/-! ## The tick counter -/

theorem State.swapAtPending_served (s : State) (rq : Rq) (x : Sender) : (s.served rq x).swapAtPending = s.swapAtPending := by
  simp only [State.swapAtPending, State.shadow_served]

theorem State.epochBoundaryAt_served (s : State) (rq : Rq) (x : Sender) (lead : Nat) :
    (s.served rq x).epochBoundaryAt lead = s.epochBoundaryAt lead := by
  simp only [State.epochBoundaryAt, State.epochBoundary, State.now_served, State.tick_served]

/-- A write of TB_TICK_LOAD, check by check (R23). -/
theorem acceptTimeBase_tickLoad (v : Val) (s : State) : acceptTimeBase Obj.TB_TICK_LOAD v s =
    if v.v % 32 ≠ 0 then (.range, s) else if s.swapAtPending then (.precond, s) else if s.load.isSome then (.busy, s)
    else (.ok, { s with load := some (v.v, s.epochBoundaryAt 2) }) := rfl

/-- A running block passes one elapsed tick at every boundary. -/
theorem exec_tickBoundary_now (w : TickIn) (s : State) (h : s.running = true) :
    ∃ t, exec (.tickBoundary w) s = .next t ∧ t.now = s.now + 1 :=
  ⟨s.boundary w, if_pos h, (s.boundary_now w).1⟩

/-- A load that is due replaces the counter, drops an automatic one, and reports both values (R23, R24). -/
theorem State.applyLoad_due {s : State} {v due : Nat} (h : s.load = some (v, due)) (hd : due ≤ s.now) :
    s.applyLoad = { s with load := none, autoLoad := none }.loadCounter v := by
  unfold State.applyLoad
  simp only [h, if_pos hd]

/-- The load that waits for the coming boundary is made once the tick before it has ended, and the boundary's count with it (R23, R24). -/
theorem execTickCounterLoad_due {s : State} {v due : Nat} (hl : s.closeTick.load = some (v, due)) (hd : due ≤ s.closeTick.now + 1) :
    execTickCounterLoad s = .next { s.closeTick with
      tick := v, load := none, autoLoad := none, counted := true
      changes := s.closeTick.changes ++ [⟨Ev.TICK_LOADED.code, false, v, contentOf [8, 8] [s.closeTick.nextTick, v]⟩] } := by
  have ha := State.applyLoad_due (s := { s.closeTick with now := s.closeTick.now + 1, tick := s.closeTick.nextTick }) hl hd
  have hne : (none : Option (Nat × Nat)) ≠ s.closeTick.load := by simp [hl]
  unfold execTickCounterLoad
  simp only [ha]
  exact if_neg fun h => hne h.1

/-- Settles O14: a boundary elapses one tick, a write of TB_TICK_LOAD meets its checks in their order, and the load that is due comes after the end
of the tick. -/
theorem tickCounterCountsAndLoads : Obligations.TickCounterCountsAndLoads := by
  refine ⟨exec_tickBoundary_now, fun rq x val v s h => ?_, fun s c v due hc hl hd => ?_⟩
  · intro u refuse
    have turnedAway {st : Status} (g : acceptTimeBase Obj.TB_TICK_LOAD v u = (st, u)) : refuse st :=
      congrArg Host.Outcome.next (serveWrite_refused h acceptTimeBase g)
    have hp : u.swapAtPending = s.swapAtPending := s.swapAtPending_served rq x
    have hl : u.load = s.load := s.load_served rq x
    have he : u.epochBoundaryAt 2 = s.epochBoundaryAt 2 := s.epochBoundaryAt_served rq x 2
    refine ⟨fun hv => turnedAway ?_, fun hv hs => turnedAway ?_, fun hv hs hb => turnedAway ?_, fun hv hs hb => ?_⟩
    · rw [acceptTimeBase_tickLoad, if_pos hv]
    · rw [acceptTimeBase_tickLoad, if_neg (not_not.mpr hv), if_pos (hp.trans hs)]
    · simp [acceptTimeBase_tickLoad, hv, hp, hs, hl, hb]
    · refine congrArg Host.Outcome.next (serveWrite_accepted h acceptTimeBase ?_)
      change acceptTimeBase Obj.TB_TICK_LOAD v u = _
      rw [acceptTimeBase_tickLoad, if_neg (not_not.mpr hv), if_neg (by simp [hp, hs]), if_neg (by simp [hl, hb]), he]
  · subst hc
    exact execTickCounterLoad_due hl hd

end Sys2Proof.Machine
end

section
/-! PROOFS. What an accepted write does, by access code. -/

namespace Sys2Proof.Machine

/-! ## The dictionary's rows -/

/-- A row that is found stands in the table of its class, and is of the member and the unit it was found for. -/
theorem dictFind_spec {c i m : Nat} {r : ObjRow} (h : dictFind c i m = some r) : r ∈ dictClass c ∧ r.m = m ∧ r.lo ≤ i ∧ i ≤ r.hi := by
  refine ⟨List.mem_of_find?_eq_some h, ?_⟩
  have := List.find?_some h
  simpa [and_assoc] using this

/-- The rows of class 0x05 say so. -/
theorem dictFind_stores_class {i m : Nat} {r : ObjRow} (h : dictFind 0x05 i m = some r) : r.c = 0x05 := by
  have rows : ∀ r ∈ dictClass 0x05, r.c = 0x05 := by decide
  exact rows r (dictFind_spec h).1

/-- An object whose WRITE has a path of its own: power requests, Quiescent, the injection's arming and the two swaps. -/
def ownPath (k : Key) : Prop :=
  (k.c = 0x02 ∧ k.m = 0x01 ∧ k.i < 20 ∧ k.x = 0) ∨ k = Obj.PWR_QUIESCENT ∨ k = Obj.FI_ARM ∨ k = Obj.PRISM_SWAP_REQ ∨ k = Obj.PRISM_SWAP_AT

/-- Every object with a path of its own is WX (R415). -/
theorem acc_of_ownPath {k : Key} {r : ObjRow} (h : ownPath k) (hr : dictFind k.c k.i k.m = some r) : r.acc = .wx := by
  have found {i : Nat} {o : ObjRow} (g : dictFind k.c k.i k.m = some o) (ho : o.acc = .wx) : r.acc = .wx := by
    rw [← Option.some.inj (g.symm.trans hr)]; exact ho
  rcases h with ⟨hc, hm, hi, -⟩ | rfl | rfl | rfl | rfl
  · have power : ∀ r ∈ dictClass 0x02, r.m = 0x01 → r.lo = 0 → r.acc = .wx := by decide
    have low : ∀ r ∈ dictClass 0x02, r.m = 0x01 → r.lo ≤ 19 → r.lo = 0 := by decide
    rw [hc, hm] at hr
    obtain ⟨hmem, hrm, hlo, -⟩ := dictFind_spec hr
    exact power r hmem hrm (low r hmem hrm (by omega))
  all_goals exact found (i := 0) rfl rfl

/-- A WRITE of an object without a path of its own goes by the object's access code. -/
theorem serveAnyWrite_plain {k : Key} (h : ¬ ownPath k) (rq : Rq) (val : Val) (s : State) :
    serveAnyWrite rq k val s = serveWrite acceptWrite rq k val s := by
  simp only [ownPath, not_or] at h
  obtain ⟨hp, hq, hf, hs, ha⟩ := h
  unfold serveAnyWrite
  rw [if_neg hp, if_neg hq, if_neg hf, if_neg (fun g => hs g.1), if_neg (fun g => ha g.1)]

/-- An accepted WRITE of an object that is not WX has the effect of its access code and answers OK. -/
theorem exec_write_accepted {rq : Rq} {obj index : Nat} {x : Sender} {val v : Val} {r : ObjRow} {s t : State}
    (h : Accepted rq x (objKey obj index) val v s)
    (hr : dictFind (objKey obj index).c (objKey obj index).i (objKey obj index).m = some r) (hacc : r.acc ≠ .wx)
    (g : acceptWrite (objKey obj index) v (s.served rq x) = (.ok, t)) :
    exec (.write rq obj index val) s = .next (t.answered rq) :=
  congrArg Host.Outcome.next
    ((serveAnyWrite_plain (fun o => hacc (acc_of_ownPath o hr)) rq val s).trans (serveWrite_accepted h acceptWrite g))

/-! ## The effect of a write, by access code -/

/-- An RW object of class 0x60, or of a region of class 0x05, has no rule of its own: its write is staged (R34). -/
theorem acceptWrite_rw {k : Key} {r : ObjRow} (hr : dictFind k.c k.i k.m = some r) (hacc : r.acc = .rw)
    (hk : k.c = 0x60 ∨ (k.c = 0x05 ∧ k.i < 8)) (v : Val) (s : State) : acceptWrite k v s = (.ok, s.stage k v.v) := by
  unfold acceptWrite
  simp only [hr, hacc]
  unfold acceptClass
  rcases hk with hc | ⟨hc, hi⟩
  · simp only [hc]
    rfl
  · simp only [hc]
    rw [if_neg (by omega)]
    rfl

/-- A WC counter of class 0x05 is cleared whole (R415). -/
theorem acceptWrite_wc {k : Key} {r : ObjRow} (hr : dictFind k.c k.i k.m = some r) (hacc : r.acc = .wc) (hc : k.c = 0x05)
    (hcode : r.code ≠ 7) (v : Val) (s : State) : acceptWrite k v s = (.ok, s.setObj k 0) := by
  have hrc : r.c = 0x05 := dictFind_stores_class (hc ▸ hr)
  unfold acceptWrite
  simp only [hr, hacc]
  simp [State.clearWritten, hcode, hrc, hc]

/-- A write of the shadow set that nothing refuses takes its stored value there and counts one edit (R247, R249). -/
theorem acceptShadow_free {k : Key} {v : Val} {s : State} (hf : wsFits k v.v = true) (h : s.shadowRefusal k = none) :
    acceptShadow k v s = (.ok, (s.writeShadow k v.v).editCounted) := by
  unfold acceptShadow
  rw [if_neg (by simp [hf])]
  simp only [h]

theorem acceptWrite_ws {k : Key} {r : ObjRow} {v : Val} {s : State} (hr : dictFind k.c k.i k.m = some r) (hacc : r.acc = .ws)
    (hf : wsFits k v.v = true) (h : s.shadowRefusal k = none) : acceptWrite k v s = (.ok, (s.writeShadow k v.v).editCounted) := by
  unfold acceptWrite
  simp only [hr, hacc]
  exact acceptShadow_free hf h

/-! ## What a write of the shadow leaves alone -/

theorem State.markDirty_shd (s : State) (ns : List Nat) : (s.markDirty ns).shd = s.shd := by
  unfold State.markDirty; split <;> rfl

theorem State.markDirty_act (s : State) (ns : List Nat) : (s.markDirty ns).act = s.act := by
  unfold State.markDirty; split <;> rfl

theorem State.obj_markDirty (s : State) (ns : List Nat) {k : Key} (h : k ≠ Obj.PRISM_COMPILE_STATE) : (s.markDirty ns).obj k = s.obj k := by
  unfold State.markDirty
  split
  · rfl
  · exact State.obj_setObj_ne s 1 h

/-- One element of the shadow takes a value; no other does (R247). -/
theorem State.writeShadow_shd (s : State) (k : Key) (v : Nat) : (s.writeShadow k v).shd = (s.setShadow k (wsStored k v)).shd := by
  unfold State.writeShadow
  extract_lets t
  split
  · exact State.markDirty_shd t _
  · split <;> rfl

theorem State.writeShadow_act (s : State) (k : Key) (v : Nat) : (s.writeShadow k v).act = s.act := by
  unfold State.writeShadow
  extract_lets t
  split
  · exact State.markDirty_act t _
  · split <;> rfl

theorem State.obj_writeShadow (s : State) (k : Key) (v : Nat) {k' : Key} (h : k' ≠ Obj.PRISM_COMPILE_STATE) :
    (s.writeShadow k v).obj k' = s.obj k' := by
  unfold State.writeShadow
  extract_lets t
  split
  · exact State.obj_markDirty t _ h
  · split <;> rfl

theorem State.shadowed_eq {s t : State} (h : t.shd = s.shd) (k : Key) : t.shadowed k = s.shadowed k := by
  unfold State.shadowed; rw [h]

theorem State.shadowed_setShadow (s : State) (k k' : Key) (v : Nat) :
    (s.setShadow k v).shadowed k' = if k' = k then v else s.shadowed k' := by
  by_cases h : k' = k
  · subst h; exact (Map.get_set_same _ _ _ _).trans (if_pos rfl).symm
  · exact (Map.get_set_ne _ _ _ _ h).trans (if_neg h).symm

theorem State.shadowed_writeShadow (s : State) (k k' : Key) (v : Nat) :
    (s.writeShadow k v).shadowed k' = if k' = k then wsStored k v else s.shadowed k' := by
  rw [State.shadowed_eq (s.writeShadow_shd k v), State.shadowed_setShadow]

theorem State.editCounted_shd (s : State) : s.editCounted.shd = s.shd := by
  unfold State.editCounted State.shadowEdited; split <;> rfl

theorem State.editCounted_act (s : State) : s.editCounted.act = s.act := by
  unfold State.editCounted State.shadowEdited; split <;> rfl

/-- A request that wrote the shadow counts one edit (R249). -/
theorem State.edits_editCounted (s : State) : s.editCounted.obj Obj.SHD_EDITS = (s.obj Obj.SHD_EDITS + 1) % 2 ^ 32 :=
  State.obj_setObj_same _ _ _

/-! ## A table of the shadow -/

/-- The elements of a TABLE_WRITE, written one after the other from an index on. -/
def State.writeElements (s : State) (k : Key) (from_ : Nat) (vs : List Nat) : State :=
  (vs.zipIdx from_).foldl (fun (t : State) e => t.writeShadow { k with x := e.2 } e.1) s

theorem State.writeElements_cons (s : State) (k : Key) (from_ v : Nat) (vs : List Nat) :
    s.writeElements k from_ (v :: vs) = (s.writeShadow { k with x := from_ } v).writeElements k (from_ + 1) vs := rfl

theorem State.writeElements_act (k : Key) (vs : List Nat) (s : State) (from_ : Nat) : (s.writeElements k from_ vs).act = s.act := by
  induction vs generalizing s from_ with
  | nil => rfl
  | cons v vs ih => rw [State.writeElements_cons, ih, State.writeShadow_act]

theorem State.obj_writeElements (k : Key) (vs : List Nat) (s : State) (from_ : Nat) {k' : Key} (h : k' ≠ Obj.PRISM_COMPILE_STATE) :
    (s.writeElements k from_ vs).obj k' = s.obj k' := by
  induction vs generalizing s from_ with
  | nil => rfl
  | cons v vs ih => rw [State.writeElements_cons, ih, State.obj_writeShadow _ _ _ h]

/-- Elements below the first one written stay. -/
theorem State.shadowed_writeElements_below (k : Key) (vs : List Nat) (s : State) (from_ x : Nat) (h : x < from_) :
    (s.writeElements k from_ vs).shadowed { k with x := x } = s.shadowed { k with x := x } := by
  induction vs generalizing s from_ with
  | nil => rfl
  | cons v vs ih =>
    rw [State.writeElements_cons, ih _ _ (by omega), State.shadowed_writeShadow, if_neg]
    intro g
    have : x = from_ := congrArg Key.x g
    omega

/-- What is stored of an element depends on its object only. -/
theorem wsStored_element (k : Key) (x v : Nat) : wsStored { k with x := x } v = wsStored k v := rfl

theorem State.shadowed_writeElements (k : Key) (vs : List Nat) (s : State) (from_ : Nat) (j : Nat) (h : j < vs.length) :
    (s.writeElements k from_ vs).shadowed { k with x := from_ + j } = wsStored k vs[j] := by
  induction vs generalizing s from_ j with
  | nil => exact absurd h (Nat.not_lt_zero j)
  | cons v vs ih =>
    rw [State.writeElements_cons]
    cases j with
    | zero => 
      refine (State.shadowed_writeElements_below k vs _ (from_ + 1) from_ (Nat.lt_succ_self _)).trans ?_
      rw [State.shadowed_writeShadow, if_pos rfl]
      rfl
    | succ j =>
      have hj : j < vs.length := Nat.lt_of_succ_lt_succ h
      rw [show from_ + (j + 1) = from_ + 1 + j by omega, ih _ _ j hj]
      rfl

/-- Two states that differ in the storage pages alone. -/
def State.samePages (s t : State) : Prop := t = { s with stores := t.stores }

theorem State.healCt_stores (s : State) (page first count : Nat) : s.samePages (s.healCt page first count) := by
  unfold State.healCt
  extract_lets p ranges done
  split
  · rfl
  · split <;> rfl

theorem State.samePages.trans {r s t : State} (h : r.samePages s) (g : s.samePages t) : r.samePages t := by
  unfold State.samePages at *
  rw [g, h]

theorem State.foldl_samePages {α : Type} (f : State → α → State) (hf : ∀ (t : State) x, t.samePages (f t x)) (l : List α) (s : State) :
    s.samePages (l.foldl f s) := by
  induction l generalizing s with
  | nil => rfl
  | cons x l ih => exact (hf s x).trans (ih _)

/-- Rewriting elements restores pages and nothing else (R465). -/
theorem State.healPages_stores (s : State) (k : Key) (first count : Nat) : s.samePages (s.healPages k first count) := by
  unfold State.healPages
  split
  · refine State.foldl_samePages _ (fun t i => ?_) _ _
    extract_lets page lo hi
    split
    · exact State.foldl_samePages _ (fun u shadow => u.healCt_stores _ _ _) _ _
    · rfl
  · rfl

/-- A TABLE_WRITE of a WS object that nothing refuses writes its elements as one edit (R247, R419). -/
theorem State.tableWrite_ws {s : State} {r : ObjRow} {k : Key} {vs : List Nat} (hacc : r.acc = .ws) (hf : vs.all (wsFits k) = true)
    (h : s.shadowRefusal k = none) :
    s.tableWrite r k vs = (.ok, ((s.writeElements k k.x vs).editCounted).healPages k k.x vs.length) := by
  unfold State.tableWrite
  rw [if_pos hacc, if_neg (by simp [hf])]
  simp only [h]
  rfl

/-- A TABLE_WRITE that passes checks 4 to 7 does what the object's write does and answers its status. -/
theorem exec_tableWrite_checked {rq : Rq} {obj first : Nat} {x : Sender} {r : ObjRow} {elements : List Nat} {s u : State} {st : Status}
    (h : Served Op.tableWrite 1 rq x s)
    (hr : dictFind (objKey obj first).c (objKey obj first).i (objKey obj first).m = some r)
    (hu : useAllowed r .tableWrite = true) (hl : rq.lenOk = true) (hb : elements.length * r.w ≤ 65508) (hrole : roleFits r .tableWrite x.role = true)
    (h0 : 0 < elements.length) (hn : first + elements.length ≤ r.n) (hv : elements.all (fun v => valueFits r (stored r v)) = true)
    (g : (s.served rq x).tableWrite r (objKey obj first) (elements.map (stored r)) = (st, u)) :
    exec (.tableWrite rq obj first elements.length (elements.length * r.w) elements) s = .next (u.deliver rq Op.tableWrite st []) := by
  refine congrArg Host.Outcome.next ?_
  unfold serveTableWrite
  rw [serve_served h]
  simp only [hr]
  rw [if_neg (not_not.mpr ⟨hu, hl, trivial, hb, trivial⟩), if_neg (not_not.mpr hrole), if_neg (not_not.mpr ⟨h0, hn, hv⟩), g]
  rfl

/-- A WRITE_SHADOW that passes checks 4 to 7, and finds the generation and the edit count expected, answers the new edit count (R419). -/
theorem exec_writeShadow_expected {rq : Rq} {obj index generation edits : Nat} {x : Sender} {val v : Val} {r : ObjRow} {s : State}
    (h : Served Op.writeShadow 1 rq x s) (hc : checkWrite x.role .writeShadow (objKey obj index) val = .ok (r, v))
    (hf : wsFits (objKey obj index) v.v = true) (hfree : (s.served rq x).shadowRefusal (objKey obj index) = none)
    (hg : generation = (s.served rq x).view30 Obj.SHD_GEN_SHADOW)
    (he : edits = 0xFFFFFFFF ∨ edits = (s.served rq x).obj Obj.SHD_EDITS) :
    let t := ((s.served rq x).writeShadow (objKey obj index) v.v).editCounted
    exec (.writeShadow rq obj index generation edits val) s = .next (t.deliver rq Op.writeShadow .ok [⟨4, t.obj Obj.SHD_EDITS⟩]) := by
  intro t
  refine congrArg Host.Outcome.next ?_
  unfold serveWriteShadow
  rw [serve_served h]
  have expected : ¬ (generation ≠ (s.served rq x).view30 Obj.SHD_GEN_SHADOW ∨
      (edits ≠ 0xFFFFFFFF ∧ edits ≠ (s.served rq x).obj Obj.SHD_EDITS)) := by
    rintro (a | ⟨a, b⟩)
    · exact a hg
    · exact he.elim a b
  simp only [hc]
  rw [if_neg (not_not.mpr hf)]
  simp only [hfree]
  rw [if_neg expected, acceptShadow_free hf hfree]
  rfl

/-- Settles O10: each write goes by the access code of its row, and those of the shadow set by `acceptShadow`. -/
theorem writesFollowTheAccessCode : Obligations.WritesFollowTheAccessCode := by
  intro rq obj index x val v r s u k
  refine ⟨fun h hr => ⟨fun hacc hk => ?_, fun hacc hc hcode => ?_, fun hacc hf hfree => ?_⟩, fun generation edits h hc hf hfree hg he => ?_, ?_⟩
  · exact exec_write_accepted h hr (by simp [hacc]) (acceptWrite_rw hr hacc hk v u)
  · exact exec_write_accepted h hr (by simp [hacc]) (acceptWrite_wc hr hacc hc hcode v u)
  · exact exec_write_accepted h hr (by simp [hacc]) (acceptWrite_ws hr hacc hf hfree)
  · refine ⟨_, exec_writeShadow_expected h hc hf hfree hg he, rfl, ?_, ?_⟩
    · rw [State.shadowed_eq (State.editCounted_shd _), State.shadowed_writeShadow, if_pos rfl]
    · rw [State.editCounted_act, State.writeShadow_act, State.act_served]
  · intro elements h hl hr hacc h1 hrole hb h0 hn hall hfree
    have hu : useAllowed r .tableWrite = true := by simp [useAllowed, hacc, h1]
    have hv : elements.all (fun v => valueFits r (stored r v)) = true ∧ (elements.map (stored r)).all (wsFits k) = true := by
      simp only [List.all_eq_true, Bool.and_eq_true, List.mem_map, forall_exists_index, and_imp, forall_apply_eq_imp_iff₂] at hall ⊢
      exact ⟨fun v m => (hall v m).1, fun v m => (hall v m).2⟩
    have hw := State.tableWrite_ws (vs := elements.map (stored r)) hacc hv.2 hfree
    have hp := ((u.writeElements k k.x (elements.map (stored r))).editCounted).healPages_stores k k.x (elements.map (stored r)).length
    unfold State.samePages at hp
    rw [hp] at hw
    refine ⟨_, exec_tableWrite_checked h hr hu hl hb hrole h0 hn hv.1 hw, ?_, ?_, fun j hj => ?_⟩
    · exact (State.editCounted_act _).trans ((State.writeElements_act _ _ _ _).trans (State.act_served _ _ _))
    · refine (State.edits_editCounted _).trans ?_
      rw [State.obj_writeElements _ _ _ _ (by simp), State.obj_served_ne _ _ _ (by simp)]
    · refine (State.shadowed_eq (State.editCounted_shd _) _).trans ?_
      have := State.shadowed_writeElements k (elements.map (stored r)) u k.x j (by simpa using hj)
      rwa [List.getElem_map] at this

end Sys2Proof.Machine
end

section
/-! PROOFS. What the shared operations keep of the time base, and the account of a missed deadline. -/

namespace Sys2Proof.Machine

/-! ## The time base -/

/-- What the units leave to the time base: the elapsed tick, the counter, the ticks of the last overruns, and the objects of class 0x01 but for
the members in lock, which the receivers follow (R46, R47). -/
structure TimeBase where
  now : Nat
  tick : Nat
  overrunAt : Map Nat
  obj : Key → Nat

def State.timeBase (s : State) : TimeBase :=
  ⟨s.now, s.tick, s.overrunAt, fun k => if k.c = 0x01 ∧ k ≠ Obj.TB_BOND_STATE then s.obj k else 0⟩

section
variable {s t : State}

theorem State.now_of_timeBase (h : t.timeBase = s.timeBase) : t.now = s.now := congrArg TimeBase.now h
theorem State.tick_of_timeBase (h : t.timeBase = s.timeBase) : t.tick = s.tick := congrArg TimeBase.tick h
theorem State.overrunAt_of_timeBase (h : t.timeBase = s.timeBase) : t.overrunAt = s.overrunAt := congrArg TimeBase.overrunAt h

theorem State.obj_of_timeBase (h : t.timeBase = s.timeBase) {k : Key} (hc : k.c = 0x01) (hk : k ≠ Obj.TB_BOND_STATE) : t.obj k = s.obj k := by
  have g := congrFun (congrArg TimeBase.obj h) k
  simpa [State.timeBase, hc, hk] using g

/-- An update that leaves the time, the ticks of the last overruns and the objects alone. -/
theorem State.timeBase_congr (hn : t.now = s.now) (ht : t.tick = s.tick) (ho : t.overrunAt = s.overrunAt) (hr : t.reg = s.reg) :
    t.timeBase = s.timeBase := by
  simp only [State.timeBase, hn, ht, ho, State.obj_eq hr]

end

section
variable (s : State)

@[simp] theorem State.timeBase_setObj {k : Key} (v : Nat) (h : k.c ≠ 0x01) : (s.setObj k v).timeBase = s.timeBase := by
  have : ∀ k', k'.c = 0x01 → (s.setObj k v).obj k' = s.obj k' := fun k' hc => State.obj_setObj_ne s v fun g => h (g ▸ hc)
  simp +contextual [State.timeBase, this]

@[simp] theorem State.timeBase_setBondState (v : Nat) : (s.setObj Obj.TB_BOND_STATE v).timeBase = s.timeBase := by
  simp +contextual [State.timeBase]

@[simp] theorem State.timeBase_bump {k : Key} (n : Nat) (h : k.c ≠ 0x01) : (s.bump k n).timeBase = s.timeBase := s.timeBase_setObj _ h
@[simp] theorem State.timeBase_setInt {k : Key} (z : Int) (h : k.c ≠ 0x01) : (s.setInt k z).timeBase = s.timeBase := s.timeBase_setObj _ h
@[simp] theorem State.timeBase_setShadow (k : Key) (v : Nat) : (s.setShadow k v).timeBase = s.timeBase := rfl
@[simp] theorem State.timeBase_drawn : s.drawn.timeBase = s.timeBase := rfl
@[simp] theorem State.timeBase_withEngine (e : Nat) (f : Engine → Engine) : (s.withEngine e f).timeBase = s.timeBase := rfl
@[simp] theorem State.timeBase_withPrism (f : Prism → Prism) : (s.withPrism f).timeBase = s.timeBase := rfl
@[simp] theorem State.timeBase_withProt (f : Protection → Protection) : (s.withProt f).timeBase = s.timeBase := rfl
@[simp] theorem State.timeBase_withRing (f : Ring → Ring) : (s.withRing f).timeBase = s.timeBase := rfl
@[simp] theorem State.timeBase_withMc (f : Mc → Mc) : (s.withMc f).timeBase = s.timeBase := rfl
@[simp] theorem State.timeBase_withRef (r : Nat) (f : Ref → Ref) : (s.withRef r f).timeBase = s.timeBase := rfl
@[simp] theorem State.timeBase_withDpll (d : Nat) (f : Dpll → Dpll) : (s.withDpll d f).timeBase = s.timeBase := rfl
@[simp] theorem State.timeBase_setPgRun (g : Nat) (r : PgRun) : (s.setPgRun g r).timeBase = s.timeBase := rfl
@[simp] theorem State.timeBase_withMm (m : Nat) (f : MmRun → MmRun) : (s.withMm m f).timeBase = s.timeBase := rfl
@[simp] theorem State.timeBase_raise (ev : EvRow) (xs : List Nat) : (s.raise ev xs).timeBase = s.timeBase := rfl

@[simp] theorem State.timeBase_clear (d i : Nat) : (s.clear d i).timeBase = s.timeBase := by
  unfold State.clear; split <;> rfl

end

/-- Updates taken one after the other keep the time base where each of them does. -/
theorem State.timeBase_foldl {α : Type} (f : State → α → State) (hf : ∀ (t : State) x, (f t x).timeBase = t.timeBase) (l : List α) (s : State) :
    (l.foldl f s).timeBase = s.timeBase := by
  induction l generalizing s with
  | nil => rfl
  | cons x l ih => exact (ih _).trans (hf s x)

/-! ## A missed deadline: what it substitutes keeps the time base (R27) -/

section
variable (s : State)

theorem State.timeBase_missReads (positions : List Nat) : (s.missReads positions).timeBase = s.timeBase := by
  simp [State.missReads]

theorem State.timeBase_undoFop (g fop : Nat) : (s.undoFop g fop).timeBase = s.timeBase := rfl

theorem State.timeBase_undoCommand (g : Nat) : (s.undoCommand g).timeBase = s.timeBase := by
  unfold State.undoCommand
  extract_lets k cmd t
  split
  · rfl
  · split <;> rfl

theorem State.timeBase_missGroup (g : Nat) : (s.missGroup g).timeBase = s.timeBase := by
  unfold State.missGroup
  extract_lets before now a b c mine on kept
  have ha : a.timeBase = s.timeBase := by
    unfold a; split
    · exact s.timeBase_setObj _ (by simp)
    · rfl
  have hb : b.timeBase = s.timeBase := by
    refine (State.timeBase_undoCommand _ _).trans ?_
    split
    · exact (a.timeBase_undoFop _ _).trans ha
    · exact ha
  have hc : c.timeBase = s.timeBase := (b.timeBase_setObj _ (by simp)).trans hb
  exact (State.timeBase_congr rfl rfl rfl rfl : _ = c.timeBase).trans hc

theorem State.timeBase_missInsertion : s.missInsertion.timeBase = s.timeBase := by
  unfold State.missInsertion
  extract_lets t
  have ht : t.timeBase = s.timeBase := State.timeBase_foldl _ (fun u e => u.timeBase_setObj _ (by simp)) _ s
  exact (State.timeBase_foldl _ (fun u g => u.timeBase_setObj _ (by simp)) _ t).trans ht

theorem State.timeBase_missMerge (m : Nat) : (s.missMerge m).timeBase = s.timeBase := by
  unfold State.missMerge
  split
  · extract_lets t
    split
    · exact (t.timeBase_setObj _ (by simp)).trans rfl
    · rfl
  · rfl

theorem State.timeBase_dumpRecord (words : Nat) : (s.dumpRecord words).timeBase = s.timeBase := by
  unfold State.dumpRecord
  extract_lets target m t at_ next n w0 old counters record
  split
  · rfl
  · split
    · exact (State.timeBase_bump t 1 (by simp)).trans rfl
    · exact (State.timeBase_setObj t _ (by simp)).trans rfl

theorem State.timeBase_missDump (words : Nat) : (s.missDump words).timeBase = s.timeBase := by
  unfold State.missDump
  extract_lets size at_
  split
  · exact s.timeBase_withMc _
  · exact s.timeBase_dumpRecord _

end

/-- What a running engine that misses its deadline leaves undone, before the account of the miss. -/
def State.substituted (s : State) (engine : Nat) (affected : List Nat) : State :=
  match engine with
  | 0 => s.missWrites affected
  | 1 => s.missReads affected
  | 2 => s.missPoints affected
  | 3 => affected.foldl State.missGroup s
  | 4 => s.withProt fun p => { p with publishMissed := true }
  | 5 => s.missInsertion
  | 6 => affected.foldl State.missMerge s
  | 7 => s.missRing 0
  | 8 => s.missRing 1
  | _ => s.missDump (affected.headD 0)

theorem State.missDeadline_running {s : State} {engine : Nat} (h : s.engineRuns engine = true) (affected : List Nat) :
    s.missDeadline engine affected = (s.substituted engine affected).overrun engine := by
  unfold State.missDeadline
  rw [if_neg (not_not.mpr h)]
  rfl

/-- No substitution touches the time base (R27). -/
theorem State.timeBase_substituted (s : State) (engine : Nat) (affected : List Nat) : (s.substituted engine affected).timeBase = s.timeBase := by
  unfold State.substituted
  split
  case h_1 => rfl
  case h_2 => exact s.timeBase_missReads _
  case h_3 => rfl
  case h_4 => exact State.timeBase_foldl _ (fun t g => t.timeBase_missGroup g) _ s
  case h_5 => rfl
  case h_6 => exact s.timeBase_missInsertion
  case h_7 => exact State.timeBase_foldl _ (fun t m => t.timeBase_missMerge m) _ s
  case h_8 => rfl
  case h_9 => rfl
  case h_10 => exact s.timeBase_missDump _

/-! ## The account of a missed deadline (R30, R31) -/

/-- The account of a miss, but for its event and the tick of the last one. -/
def State.accounted (s : State) (engine : Nat) : State :=
  let t := s.setObj Obj.TB_OVR_STATUS (withBit (s.obj Obj.TB_OVR_STATUS) engine true)
  let counted := if Map.get 0 s.overrunAt (Key.unit engine) = s.now + 1 then t else t.bump (Obj.TB_OVR_COUNT engine)
  (counted.setObj (Obj.TB_OVR_LAST engine) s.tick).declare Df.tickOvr 0

/-- The event of an overrun, at most one per epoch and engine, touches neither objects nor defects nor the account. -/
theorem State.overrun_frame (s : State) (engine : Nat) :
    let t := s.overrun engine
    t.reg = (s.accounted engine).reg ∧ t.defects = (s.accounted engine).defects ∧
    t.overrunAt = Map.set 0 s.overrunAt (Key.unit engine) (s.now + 1) ∧ t.lastOverrun = some s.now := by
  intro t
  unfold t State.overrun
  extract_lets a b c v
  split <;> exact ⟨rfl, rfl, rfl, rfl⟩

theorem State.obj_accounted_status (s : State) (engine : Nat) : bit ((s.accounted engine).obj Obj.TB_OVR_STATUS) engine = true := by
  unfold State.accounted
  extract_lets t counted
  have : counted.obj Obj.TB_OVR_STATUS = t.obj Obj.TB_OVR_STATUS := by
    unfold counted; split
    · rfl
    · exact State.obj_bump_ne t 1 (by simp)
  simp [this, t]

theorem State.obj_accounted_last (s : State) (engine : Nat) : (s.accounted engine).obj (Obj.TB_OVR_LAST engine) = s.tick := by
  simp [State.accounted]

/-- A tick counts once, whatever the engine missed in it (R30). -/
theorem State.obj_accounted_count (s : State) (engine : Nat) : (s.accounted engine).obj (Obj.TB_OVR_COUNT engine) =
    if Map.get 0 s.overrunAt (Key.unit engine) = s.now + 1 then s.obj (Obj.TB_OVR_COUNT engine) else u64 (s.obj (Obj.TB_OVR_COUNT engine) + 1) := by
  unfold State.accounted
  split <;> simp

theorem State.overrun_spec (s : State) (engine : Nat) :
    let t := s.overrun engine
    bit (t.obj Obj.TB_OVR_STATUS) engine = true ∧ t.obj (Obj.TB_OVR_LAST engine) = s.tick ∧
    t.obj (Obj.TB_OVR_COUNT engine) =
      (if Map.get 0 s.overrunAt (Key.unit engine) = s.now + 1 then s.obj (Obj.TB_OVR_COUNT engine) else u64 (s.obj (Obj.TB_OVR_COUNT engine) + 1)) ∧
    Map.get 0 t.overrunAt (Key.unit engine) = s.now + 1 ∧ t.declared Df.tickOvr 0 = true ∧ t.lastOverrun = some s.now := by
  intro t
  obtain ⟨hreg, hdef, hat, hlast⟩ := s.overrun_frame engine
  refine ⟨?_, ?_, ?_, ?_, ?_, hlast⟩
  · exact (congrArg (bit · engine) (State.obj_eq hreg _)).trans (s.obj_accounted_status engine)
  · exact (State.obj_eq hreg _).trans (s.obj_accounted_last engine)
  · exact (State.obj_eq hreg _).trans (s.obj_accounted_count engine)
  · rw [hat]; exact Map.get_set_same _ _ _ _
  · unfold State.declared; rw [hdef]; exact State.declared_declare_same _ _ _

/-- A running engine that misses its deadline is accounted as the state before the miss says (R30, R31). -/
theorem exec_tickOverrun_account {engine : Fin 10} {s : State} (h : s.engineRuns engine = true) (affected : List Nat) :
    ∃ u : State, u.timeBase = s.timeBase ∧ exec (.tickOverrun engine affected) s = .next (u.overrun engine) :=
  ⟨_, s.timeBase_substituted engine affected, congrArg Host.Outcome.next (State.missDeadline_running h affected)⟩

/-! ## The end of dTICKOVR (R30, R571) -/

theorem exec_dtickovrClear_due {s : State} {o : Nat} (h : s.lastOverrun = some o) (hn : o + 32 ≤ s.now) :
    exec .dtickovrClear s = .next (({ s with lastOverrun := none } : State).clear Df.tickOvr 0) := by
  change execDtickovrClear s = _
  unfold execDtickovrClear
  simp only [h, if_pos hn]

theorem State.clear_frame (s : State) (d i : Nat) :
    s.clear d i = { s with defects := (s.clear d i).defects, changes := (s.clear d i).changes } := by
  unfold State.clear; split <;> rfl

theorem State.declare_frame (s : State) (d i : Nat) :
    s.declare d i = { s with defects := (s.declare d i).defects, changes := (s.declare d i).changes } := by
  unfold State.declare; split <;> rfl

end Sys2Proof.Machine
end

section
/-! PROOFS. Resets and the boot sequence. -/

namespace Sys2Proof.Machine

/-! ## Work on the objects alone -/

/-- Two states that differ in the objects' table alone. -/
def State.sameButObjects (s t : State) : Prop := t = { s with reg := t.reg }

theorem State.sameButObjects.trans {r s t : State} (h : r.sameButObjects s) (g : s.sameButObjects t) : r.sameButObjects t := by
  unfold State.sameButObjects at *
  rw [g, h]

theorem State.setObj_sameButObjects (s : State) (k : Key) (v : Nat) : s.sameButObjects (s.setObj k v) := rfl

theorem State.foldl_sameButObjects {α : Type} (f : State → α → State) (hf : ∀ (t : State) x, t.sameButObjects (f t x)) (l : List α) (s : State) :
    s.sameButObjects (l.foldl f s) := by
  induction l generalizing s with
  | nil => rfl
  | cons x l ih => exact (hf s x).trans (ih _)

/-! ## A device reset (R19, R417, R507) -/

/-- The objects that a device reset keeps. -/
def otpObjects : List Key := [Obj.DEV_SERIAL, Obj.DEV_ID_KEY, Obj.DEV_ID_DIGEST, Obj.SEC_OTP_SV, Obj.SEC_OWNER_KEY_DIGEST, Obj.SEC_ID_CERT]

theorem State.obj_foldl_setObj (v : Key → Nat) (l : List Key) (s : State) (k : Key) :
    (l.foldl (fun (u : State) k => u.setObj k (v k)) s).obj k = if k ∈ l then v k else s.obj k := by
  induction l generalizing s with
  | nil => simp
  | cons x l ih =>
    rw [List.foldl_cons, ih, State.obj_setObj]
    by_cases hl : k ∈ l
    · simp [hl]
    · by_cases hx : k = x
      · subst hx; simp
      · simp [hl, hx]

/-- What a reset leaves besides objects and records: the state after power-on, with the queue, the draws, the latched pins and always-on
storage as they were, and the cause of the reset. -/
theorem State.deviceReset_frame (s : State) (cause held : Nat) :
    let t := s.deviceReset cause held
    t = { State.reset with
      pending := s.pending, fresh := s.fresh, pllLatch := s.pllLatch, bar := { ({} : Bar0) with bootCause := cause }
      mc := t.mc, reg := t.reg, changes := t.changes } ∧
    t.mc.held = held ∧ t.mc.pllTick = s.mc.pllTick := by
  intro t
  unfold t State.deviceReset
  extract_lets otp slot src bar r u
  have hu : u = { r with reg := u.reg } := State.foldl_sameButObjects _ (fun v k => v.setObj_sameButObjects k _) otp r
  split <;> (rw [hu]; exact ⟨rfl, rfl, rfl⟩)

/-- OTP outlasts a reset (R417). -/
theorem State.obj_deviceReset {s : State} {k : Key} (h : k ∈ otpObjects) (cause held : Nat) : (s.deviceReset cause held).obj k = s.obj k := by
  unfold State.deviceReset
  extract_lets otp slot src bar r u
  have hu : u.obj k = s.obj k := (State.obj_foldl_setObj s.obj otp r k).trans (if_pos h)
  split
  · exact hu
  · exact hu

/-! ## The boot ROM (R508, R509, R512) -/

/-- `t` comes from `s` by steps of the boot: the objects, the boot registers and the complex change, but neither the cause of the last reset
nor what the complex has latched. -/
structure BootWork (s t : State) : Prop where
  frame : t = { s with reg := t.reg, bar := t.bar, mc := t.mc }
  cause : t.bar.bootCause = s.bar.bootCause
  latched : t.mc = { s.mc with running := t.mc.running, remap := t.mc.remap, loading := t.mc.loading }

theorem BootWork.rfl {s : State} : BootWork s s := ⟨Eq.refl _, Eq.refl _, Eq.refl _⟩

theorem BootWork.trans {r s t : State} (h : BootWork r s) (g : BootWork s t) : BootWork r t where
  frame := by rw [g.frame, h.frame]
  cause := g.cause.trans h.cause
  latched := by rw [g.latched, h.latched]

theorem State.sameButObjects.bootWork {s t : State} (h : s.sameButObjects t) : BootWork s t := by
  rw [h]; exact ⟨Eq.refl _, Eq.refl _, Eq.refl _⟩

theorem State.measure_frame (s : State) (type digest : Nat) : s.sameButObjects (s.measure type digest) := by
  unfold State.measure
  extract_lets n chain t
  split <;> rfl

/-- A measurement writes the Onion log, its chain and its count (R518). -/
theorem State.obj_measure (s : State) (type digest : Nat) {k : Key} (hc : k ≠ Obj.ONION_CHAIN) (hn : k ≠ Obj.ONION_COUNT)
    (hl : ∀ x, k ≠ Obj.ONION_LOG x) : (s.measure type digest).obj k = s.obj k := by
  unfold State.measure
  extract_lets n chain t
  have ht : t.obj k = s.obj k := by simp [t, hc, hn]
  split
  · rw [State.obj_setObj_ne t _ (hl n), ht]
  · rw [State.obj_setObj_ne t _ (hl 255), ht]

theorem State.measureImage_frame (s : State) (x : FwImage) : s.sameButObjects (s.measureImage x) := by
  unfold State.measureImage
  extract_lets t
  have ht : s.sameButObjects t := s.measure_frame 3 x.digest
  split
  · exact ht.trans (t.measure_frame 4 x.ownerDigest)
  · exact ht

/-- A verified image is measured and runs: firmware of RUN (step 7). -/
def State.enterImage (s : State) (x : FwImage) : State := ((s.setBoot 2 s.bar.bootCause 0).measureImage x).runImage x

theorem State.runImage_work (s : State) (x : FwImage) : BootWork s (s.runImage x) := ⟨Eq.refl _, Eq.refl _, Eq.refl _⟩

theorem State.setBoot_work (s : State) (state err : Nat) : BootWork s (s.setBoot state s.bar.bootCause err) := ⟨Eq.refl _, Eq.refl _, Eq.refl _⟩

theorem State.enterImage_work (s : State) (x : FwImage) : BootWork s (s.enterImage x) :=
  ((s.setBoot_work 2 0).trans (State.measureImage_frame _ x).bootWork).trans (State.runImage_work _ x)

theorem State.sameButObjects.bar {s t : State} (h : s.sameButObjects t) : t.bar = s.bar := by rw [h]

theorem State.runImage_spec (s : State) (x : FwImage) :
    let t := s.runImage x
    t.bar = s.bar ∧ t.mc.running = some x ∧ t.mc.remap = true ∧ t.obj Obj.SEC_FW_VERSION = x.version := by
  refine ⟨Eq.refl _, Eq.refl _, Eq.refl _, ?_⟩
  simp [State.runImage]

theorem State.enterImage_spec (s : State) (x : FwImage) :
    let t := s.enterImage x
    t.bar.bootState = 2 ∧ t.mc.running = some x ∧ t.mc.remap = true ∧ t.obj Obj.SEC_FW_VERSION = x.version := by
  obtain ⟨hb, hr, hm, hv⟩ := ((s.setBoot 2 s.bar.bootCause 0).measureImage x).runImage_spec x
  refine ⟨?_, hr, hm, hv⟩
  exact congrArg Bar0.bootState (hb.trans (State.measureImage_frame _ x).bar)

/-- The complex waits for chunks (R512), in the boot state and with the code that the failure of its slots left. -/
def State.awaitChunks (s : State) (code : Nat) : State := (s.setBoot 0 s.bar.bootCause code).withMc fun m => { m with loading := true, remap := false }

/-- No source is left (R510). -/
def State.failBoot (s : State) (code : Nat) : State := (s.setBoot 4 s.bar.bootCause code).withMc fun m => { m with remap := false }

theorem State.loadSource_pcie {s : State} (h : s.mc.source = 1) : s.loadSource = s.awaitChunks 0 := by
  unfold State.loadSource
  extract_lets pcie start await
  rw [if_pos h]
  rfl

/-- What the two flash slots lead to (R509 steps 4 to 7, R512). -/
theorem State.loadSource_flash {s : State} (h : s.mc.source ≠ 1) : s.loadSource =
    if s.trySlot s.mc.slotA = 0 then (match s.mc.slotA with | some i => s.enterImage i | none => s)
    else if s.trySlot s.mc.slotB = 0 then (match s.mc.slotB with | some i => s.enterImage i | none => s)
    else if s.mc.source = 2 ∨ ¬ s.mc.pcie then s.failBoot (s.trySlot s.mc.slotB) else s.awaitChunks (s.trySlot s.mc.slotB) := by
  unfold State.loadSource
  extract_lets pcie start await
  rw [if_neg h]
  rfl

theorem State.loadSource_work (s : State) : BootWork s s.loadSource := by
  have slot (x : Option FwImage) : BootWork s (match x with | some i => s.enterImage i | none => s) := by
    cases x with
    | none => exact BootWork.rfl
    | some i => exact s.enterImage_work i
  by_cases h : s.mc.source = 1
  · rw [State.loadSource_pcie h]; exact ⟨Eq.refl _, Eq.refl _, Eq.refl _⟩
  · rw [State.loadSource_flash h]
    split
    · exact slot _
    · split
      · exact slot _
      · split <;> exact ⟨Eq.refl _, Eq.refl _, Eq.refl _⟩

/-- Steps 2 and 3: the vendor's key and what the ROM and OTP measure. -/
def State.romMeasured (s : State) : State :=
  let t := s.setObj Obj.SEC_VENDOR_KEY_DIGEST (Config.shake256 32 [⟨1952, Config.vendorKey⟩])
  (t.measure 1 (Config.shake256 32 [⟨65536, Config.rom⟩])).measure 2 t.otpDigest

theorem State.bootRom_eq (s : State) : s.bootRom = s.romMeasured.loadSource := rfl

theorem State.romMeasured_frame (s : State) : s.sameButObjects s.romMeasured := by
  unfold State.romMeasured
  extract_lets t
  exact ((s.setObj_sameButObjects _ _).trans (t.measure_frame _ _)).trans (State.measure_frame _ _ _)

theorem State.obj_romMeasured (s : State) {k : Key} (h : k ∈ otpObjects) : s.romMeasured.obj k = s.obj k := by
  have hk : k ≠ Obj.ONION_CHAIN ∧ k ≠ Obj.ONION_COUNT ∧ k ≠ Obj.SEC_VENDOR_KEY_DIGEST ∧ ∀ x, k ≠ Obj.ONION_LOG x := by
    simp only [otpObjects, List.mem_cons, List.not_mem_nil, or_false] at h
    rcases h with rfl | rfl | rfl | rfl | rfl | rfl <;> simp
  obtain ⟨hc, hn, hv, hl⟩ := hk
  unfold State.romMeasured
  extract_lets t
  rw [State.obj_measure _ _ _ hc hn hl, State.obj_measure _ _ _ hc hn hl]
  exact State.obj_setObj_ne s _ hv

theorem State.bootRom_work (s : State) : BootWork s s.bootRom :=
  s.romMeasured_frame.bootWork.trans s.romMeasured.loadSource_work

/-- A reset by the loss of the core PLL, and the boot that starts at once (R19, R507). -/
theorem execCorePllUnlock_resets {s : State} (h : s.running = true ∨ s.startsTicks = true) :
    ∃ t : State, exec .corePllUnlock s = .next t ∧ t.running = false ∧ t.pllLatch = true ∧ t.mc.pllTick = s.tick ∧ t.bar.bootCause = 2 ∧
      t.agenda = [] ∧ t.sessions = [] ∧ t.act = [] ∧ t.shd = [] ∧ t.pending = s.pending := by
  obtain ⟨hr, -, hp⟩ := ({ s with pllLatch := true, mc := { s.mc with pllTick := s.tick } } : State).deviceReset_frame 2 0
  generalize hg : ({ s with pllLatch := true, mc := { s.mc with pllTick := s.tick } } : State).deviceReset 2 0 = r at hr hp
  have hw := r.bootRom_work
  refine ⟨r.bootRom, ?_, ?_⟩
  · change execCorePllUnlock s = _
    unfold execCorePllUnlock
    rw [if_pos h, hg]
  · have hc := hw.cause
    have hl := hw.latched
    rw [hw.frame, hl, hc, hr]
    exact ⟨Eq.refl _, Eq.refl _, hp, Eq.refl _, Eq.refl _, Eq.refl _, Eq.refl _, Eq.refl _, Eq.refl _⟩

/-- Settles O15: the substitution of a miss leaves the time base to the account, and the loss of the core PLL is a reset. -/
theorem overrunsAreAccounted : Obligations.OverrunsAreAccounted := by
  refine ⟨fun engine affected s h => ?_, fun s o h hn => ?_, fun s h => execCorePllUnlock_resets h⟩
  · obtain ⟨u, hu, he⟩ := exec_tickOverrun_account h affected
    obtain ⟨hbit, hlast, hcount, hat, hdef, hnow⟩ := u.overrun_spec engine
    rw [State.tick_of_timeBase hu] at hlast
    rw [State.now_of_timeBase hu, State.overrunAt_of_timeBase hu, State.obj_of_timeBase hu rfl (by simp)] at hcount
    rw [State.now_of_timeBase hu] at hat hnow
    exact ⟨_, he, hbit, hlast, hcount, hat, hdef, hnow⟩
  · refine ⟨_, exec_dtickovrClear_due h hn, State.declared_clear_same _ _ _, ?_, State.clear_frame _ _ _, fun d i hne => ?_⟩
    · rw [State.clear_frame]
    · rw [State.declared_clear]
      have : ¬ (d = Df.tickOvr ∧ i = 0) := fun g => hne (by rw [g.1, g.2])
      rw [decide_eq_false this]
      rfl

end Sys2Proof.Machine
end

section
/-! PROOFS. Boot, loading over PCIe, Quiescent and the PCIe link. -/

namespace Sys2Proof

/-- A table read where a filter keeps every entry of the key. -/
theorem Map.get_filter {α : Type} (d : α) (p : Key × α → Bool) (m : Map α) {k : Key} (h : ∀ v, p (k, v) = true) :
    Map.get d (m.filter p) k = Map.get d m k := by
  induction m with
  | nil => rfl
  | cons e m ih =>
    by_cases he : e.1 = k
    · have : p e = true := by rw [← h e.2, ← he]
      simp [List.filter, this, Map.get, he]
    · cases hp : p e
      · simp [List.filter, hp, Map.get, he, ih]
      · simp [List.filter, hp, Map.get, he, ih]

end Sys2Proof

namespace Sys2Proof.Machine

/-! ## The release of PORST_N (R437, R508, R509) -/

/-- The state in which the boot ROM starts: the balls and the flash are latched. -/
def State.latched (s : State) (b : Board) : State :=
  s.withMc fun m => { m with
    source := b.source, node := b.node, pcie := b.pcie, slotA := b.slotA, slotB := b.slotB, qspiOk := b.qspiOk, held := 0 }

theorem exec_porstNRelease_running {s : State} (h : s.mc.held = 2 ∨ s.running = true ∨ s.mc.running.isSome = true ∨ s.mc.loading = true)
    (b : Board) : exec (.porstNRelease b) s = .next s := if_pos h

theorem exec_porstNRelease_boots {s : State} (hh : s.mc.held ≠ 2) (hr : s.running = false) (hm : s.mc.running = none)
    (hl : s.mc.loading = false) (b : Board) : exec (.porstNRelease b) s = .next (s.latched b).bootRom :=
  if_neg (by simp [hh, hr, hm, hl])

/-- What the ROM finds in a flash slot: 10 where it cannot be read, 1 where it holds no image, else the first check that fails (R514). -/
theorem State.trySlot_eq (s : State) (x : Option FwImage) : s.trySlot x =
    if s.mc.qspiOk = false then 10 else match x with
      | none => 1
      | some i => i.check (s.obj Obj.SEC_OWNER_KEY_DIGEST) (s.obj Obj.SEC_OTP_SV) := by
  unfold State.trySlot
  cases s.mc.qspiOk <;> cases x <;> rfl

theorem State.sameButObjects.mc {s t : State} (h : s.sameButObjects t) : t.mc = s.mc := by rw [h]

/-- The ROM's own measurements do not bear on what it finds in a slot. -/
theorem State.trySlot_romMeasured (s : State) (x : Option FwImage) : s.romMeasured.trySlot x = s.trySlot x := by
  rw [State.trySlot_eq, State.trySlot_eq, s.romMeasured_frame.mc, s.obj_romMeasured (by simp [otpObjects]), s.obj_romMeasured (by simp [otpObjects])]

/-- The boot from the board's source, by what its slots hold. -/
theorem State.bootRom_cases (s : State) :
    (∀ i, s.mc.source ≠ 1 → s.mc.slotA = some i → s.trySlot s.mc.slotA = 0 → s.bootRom = s.romMeasured.enterImage i) ∧
    (∀ i, s.mc.source ≠ 1 → s.trySlot s.mc.slotA ≠ 0 → s.mc.slotB = some i → s.trySlot s.mc.slotB = 0 → s.bootRom = s.romMeasured.enterImage i) ∧
    (s.mc.source ≠ 1 → s.trySlot s.mc.slotA ≠ 0 → s.trySlot s.mc.slotB ≠ 0 → s.mc.source = 2 ∨ s.mc.pcie = false →
      s.bootRom = s.romMeasured.failBoot (s.trySlot s.mc.slotB)) ∧
    (s.mc.source = 1 → s.bootRom = s.romMeasured.awaitChunks 0) := by
  have hm := s.romMeasured_frame.mc
  have flash (h : s.mc.source ≠ 1) := State.loadSource_flash (s := s.romMeasured) (hm ▸ h)
  simp only [State.trySlot_romMeasured, hm] at flash
  refine ⟨fun i hs hi ha => ?_, fun i hs ha hi hb => ?_, fun hs ha hb hp => ?_, fun hs => State.loadSource_pcie (hm ▸ hs)⟩
  · rw [State.bootRom_eq, flash hs, if_pos ha, hi]
  · rw [State.bootRom_eq, flash hs, if_neg ha, if_pos hb, hi]
  · rw [State.bootRom_eq, flash hs, if_neg ha, if_neg hb, if_pos (by simpa using hp)]

/-! ## The clocks and the end of the boot (R20, R509) -/

theorem State.startsTicks_iff (s : State) : s.startsTicks = true ↔
    s.bar.bootState = 2 ∧ s.mc.remap = true ∧ s.running = false ∧ s.mc.held = 0 ∧ s.power.quiescent = 0 := by
  simp [State.startsTicks, and_assoc]

/-- The boundary that opens tick 0 does that tick's work (R20). -/
theorem exec_tickBoundary_first {s : State} (h : s.startsTicks = true) (w : TickIn) :
    exec (.tickBoundary w) s = .next (s.startTicks.beginTick w s.prot.records) ∧ (s.startTicks.beginTick w s.prot.records).now = 0 := by
  have hr : s.running = false := ((s.startsTicks_iff).1 h).2.2.1
  refine ⟨?_, (State.beginTick_steady _ w _ Steady.rfl).now⟩
  change execTickBoundary w s = _
  unfold execTickBoundary
  rw [if_neg (by simp [hr]), if_pos h]

/-- The staging region is all that its erasing touches. -/
theorem State.obj_eraseStage (s : State) {k : Key} (hc : k.c ≠ 0x03) : s.eraseStage.obj k = s.obj k := by
  have hk : k ≠ Obj.MC_FW_STAGE_STATE := fun g => hc (congrArg Key.c g)
  exact (State.obj_setObj_ne _ _ hk).trans (Map.get_filter _ _ _ fun v => by simp [hc])

theorem State.railsUp_frame (s : State) : s.sameButObjects s.railsUp :=
  State.foldl_sameButObjects _ (fun t _ => t.setObj_sameButObjects _ _) _ s

/-- Step 8 brings every rail that it commands to its nominal setpoint (R480). -/
theorem State.obj_railsUp (s : State) {k : Nat} (h : k < 8) : s.railsUp.obj (Obj.PWR_RAIL_SET (2 + k)) = railNominal (2 + k) := by
  have set (n : Nat) (u : State) : ((List.range n).foldl (fun (t : State) i => t.setObj (Obj.PWR_RAIL_SET (2 + i)) (railNominal (2 + i))) u).obj
      (Obj.PWR_RAIL_SET (2 + k)) = if k < n then railNominal (2 + k) else u.obj (Obj.PWR_RAIL_SET (2 + k)) := by
    induction n with
    | zero => simp
    | succ n ih =>
      rw [List.range_succ, List.foldl_append, List.foldl_cons, List.foldl_nil, State.obj_setObj, ih]
      by_cases hk : k = n
      · subst hk; simp
      · have : (k < n + 1) = (k < n) := by apply propext; omega
        simp [hk, this]
  exact (set 8 s).trans (if_pos h)

/-- Steps 8 to 10 (R20, R509). -/
theorem State.startTicks_frame (s : State) : ∃ reg, s.startTicks =
      { s with reg := reg, running := true, now := 0, tick := 0, mc := { s.mc with initialising := true } } ∧
    ∀ k, k < 8 → Map.get (objDefault (Obj.PWR_RAIL_SET (2 + k))) reg (Obj.PWR_RAIL_SET (2 + k)) = railNominal (2 + k) := by
  refine ⟨s.railsUp.reg, ?_, fun k hk => s.obj_railsUp hk⟩
  have h : s.railsUp = { s with reg := s.railsUp.reg } := s.railsUp_frame
  unfold State.startTicks
  generalize s.railsUp.reg = reg at h
  rw [h]

/-- What the end of steps 8 to 10 leaves. -/
theorem State.bootClocks_spec (s : State) (x : BootEnd) :
    let t := s.bootClocks x
    t.running = true ∧ t.tick = (if s.running then s.tick else x.tick) ∧ t.prism = s.prism ∧ t.pllLatch = s.pllLatch ∧ t.mc.pllTick = s.mc.pllTick ∧
    (s.running = false → ∀ k, k < 8 → t.obj (Obj.PWR_RAIL_SET (2 + k)) = railNominal (2 + k)) := by
  intro t
  unfold t State.bootClocks
  cases h : s.running
  · obtain ⟨reg, hs, hk⟩ := s.startTicks_frame
    rw [hs]
    exact ⟨rfl, rfl, rfl, rfl, rfl, fun _ => hk⟩
  · exact ⟨h, rfl, rfl, rfl, rfl, fun g => by cases g⟩

/-- The delivery of a latched loss of lock adds its record, with the tick of its cause, and takes the latch back (R19, R434). -/
theorem State.deliverLatch_frame (s : State) : ∃ late : List EvRec,
    s.deliverLatch = { s with pllLatch := false, changes := s.changes ++ late } ∧
    (s.pllLatch = true → late = [⟨Ev.CORE_PLL_UNLOCK.code, false, s.mc.pllTick, contentOf Ev.CORE_PLL_UNLOCK.widths []⟩]) := by
  unfold State.deliverLatch
  cases h : s.pllLatch
  · refine ⟨[], ?_, fun g => by cases g⟩
    rw [List.append_nil]
    exact congrArg (fun b => { s with pllLatch := b }) h
  · exact ⟨_, rfl, fun _ => rfl⟩

/-- Steps 11 and 12 but for Prism's state and a latched loss of lock: the region is empty, the device READY, and a fault of the HBM reported. -/
def State.initialised (s : State) (hbm : Bool) : State :=
  let u := s.eraseStage.setBoot 3 s.bar.bootCause 0
  (if hbm then u else (u.withProt fun p => { p with hbmFault := true }).raise Ev.BOOT_HBM []).withMc fun m => { m with initialising := false }

theorem State.initialised_spec (s : State) (hbm : Bool) :
    let t := s.initialised hbm
    t.bar.bootState = 3 ∧ t.running = s.running ∧ t.mc.initialising = false ∧ t.tick = s.tick ∧ t.prism = s.prism ∧ t.pllLatch = s.pllLatch ∧
    t.mc.pllTick = s.mc.pllTick ∧ t.reg = s.eraseStage.reg ∧
    (hbm = false → ⟨Ev.BOOT_HBM.code, false, t.tick, contentOf Ev.BOOT_HBM.widths []⟩ ∈ t.changes) := by
  have he : s.eraseStage = { s with reg := s.eraseStage.reg } := rfl
  unfold State.initialised
  generalize s.eraseStage.reg = reg at he ⊢
  rw [he]
  cases hbm
  · exact ⟨rfl, rfl, rfl, rfl, rfl, rfl, rfl, rfl, fun _ => List.mem_append_right _ (List.mem_singleton_self _)⟩
  · exact ⟨rfl, rfl, rfl, rfl, rfl, rfl, rfl, rfl, fun g => by cases g⟩

theorem State.bootDone_eq (s : State) (hbm : Bool) : s.bootDone hbm = (s.initialised hbm).refreshPrism.deliverLatch := rfl

/-- The complex is ready (R509 step 12). -/
theorem State.bootDone_spec {s : State} (hr : s.running = true) (hbm : Bool) :
    let t := s.bootDone hbm
    t.bar.bootState = 3 ∧ t.running = true ∧ t.mc.initialising = false ∧ t.tick = s.tick ∧ t.obj Obj.MC_FW_STAGE_STATE = 0 ∧
    (s.prism.fenced = [] → s.prism.lostSlices = [] → s.prism.xorLost = false → t.obj Obj.PRISM_STATE = 1) ∧
    (∀ k : Key, k.c ≠ 0x03 → k ≠ Obj.PRISM_STATE → t.obj k = s.obj k) ∧
    (hbm = false → ⟨Ev.BOOT_HBM.code, false, t.tick, contentOf Ev.BOOT_HBM.widths []⟩ ∈ t.changes) ∧
    (s.pllLatch = true → t.pllLatch = false ∧
      ⟨Ev.CORE_PLL_UNLOCK.code, false, s.mc.pllTick, contentOf Ev.CORE_PLL_UNLOCK.widths []⟩ ∈ t.changes) := by
  intro t
  obtain ⟨hboot, hrun, hinit, htick, hprism, hlatch, hpll, hreg, hbm'⟩ := s.initialised_spec hbm
  obtain ⟨late, ht, hlate⟩ := (s.initialised hbm).refreshPrism.deliverLatch_frame
  have htd : t = _ := (s.bootDone_eq hbm).trans ht
  have hobj (k : Key) : t.obj k = (s.initialised hbm).refreshPrism.obj k := State.obj_eq (by rw [htd]) k
  have hstate : (s.initialised hbm).refreshPrism.obj Obj.PRISM_STATE = if s.prism.lostSlices ≠ [] ∨ s.prism.xorLost = true then 3
      else if s.prism.fenced ≠ [] then 2 else 1 := by
    unfold State.refreshPrism
    rw [State.obj_setObj_same, if_neg (by simp [hrun, hr, hinit]), hprism]
  have hother {k : Key} (hk : k ≠ Obj.PRISM_STATE) : t.obj k = s.eraseStage.obj k :=
    (hobj k).trans ((State.obj_setObj_ne _ _ hk).trans (State.obj_eq hreg k))
  have hsame : t.bar = (s.initialised hbm).bar ∧ t.running = (s.initialised hbm).running ∧ t.mc = (s.initialised hbm).mc ∧
      t.tick = (s.initialised hbm).tick ∧ t.pllLatch = false ∧ t.changes = (s.initialised hbm).changes ++ late := by
    rw [htd]; exact ⟨rfl, rfl, rfl, rfl, rfl, rfl⟩
  obtain ⟨sbar, srun, smc, stick, slatch, schanges⟩ := hsame
  refine ⟨?_, ?_, ?_, stick.trans htick, ?_, fun hf hl hx => ?_, fun k hc hk => ?_, fun h => ?_, fun h => ⟨slatch, ?_⟩⟩
  · rw [sbar, hboot]
  · rw [srun, hrun, hr]
  · rw [smc, hinit]
  · exact (hother (by simp)).trans (State.obj_setObj_same _ _ _)
  · rw [hobj, hstate, if_neg (by simp [hl, hx]), if_neg (by simp [hf])]
  · exact (hother hk).trans (s.obj_eraseStage hc)
  · rw [schanges, stick]; exact List.mem_append_left _ (hbm' h)
  · rw [schanges, hlate (hlatch.trans h)]
    exact List.mem_append_right _ (by rw [← hpll]; exact List.mem_singleton_self _)

/-- Where the boot waits for its end (R509 steps 8 to 12). -/
def State.awaitsEnd (s : State) : Prop := s.bar.bootState = 2 ∧ s.mc.remap = true ∧ (s.running = false ∨ s.mc.initialising = true)

theorem State.awaitsEnd_iff (s : State) :
    s.awaitsEnd ↔ ¬ (s.bar.bootState ≠ 2 ∨ (s.running = true ∧ s.mc.initialising = false) ∨ s.mc.remap = false) := by
  unfold State.awaitsEnd
  cases s.running <;> cases s.mc.initialising <;> cases s.mc.remap <;> simp

theorem exec_bootReady_elsewhere {s : State} (h : ¬ s.awaitsEnd) (e : BootEnd) : exec (.bootReady e) s = .next s :=
  if_pos (not_not.mp (mt s.awaitsEnd_iff.2 h))

theorem exec_bootReady_done {s : State} (h : s.awaitsEnd) {e : BootEnd} (he : e.error = 0) :
    exec (.bootReady e) s = .next ((s.bootClocks e).bootDone e.hbm) :=
  (if_neg (s.awaitsEnd_iff.1 h)).trans (if_pos he)

/-- What an error of steps 8 to 12 leaves of the state it came in: FAILED with its code, and a rail that did not come up OFF (R510). -/
def State.failEnd (u : State) (cause : Nat) (e : BootEnd) : State :=
  let t := (u.withMc fun m => { m with initialising := false }).setBoot 4 cause e.error
  if e.error = 11 then (t.setObj (Obj.PWR_RAIL_STATE e.rail) 2).raise Ev.REG_FAULT [e.rail, 2] else t

theorem State.failEnd_spec (u : State) (cause : Nat) (e : BootEnd) :
    let t := u.failEnd cause e
    t.bar.bootState = 4 ∧ t.bar.bootError = e.error ∧ t.running = u.running ∧ (e.error = 11 → t.obj (Obj.PWR_RAIL_STATE e.rail) = 2) := by
  intro t
  unfold t State.failEnd
  extract_lets v
  by_cases h : e.error = 11
  · rw [if_pos h]
    refine ⟨rfl, rfl, ?_, fun _ => v.obj_setObj_same _ _⟩
    rw [State.running_raise, State.running_setObj]
    rfl
  · rw [if_neg h]
    exact ⟨rfl, rfl, rfl, fun g => absurd g h⟩

/-- An error of steps 8 to 12 fails the boot; only one after the switch of the clocks leaves ticks running (R20, R510). -/
theorem exec_bootReady_failed {s : State} (h : s.awaitsEnd) {e : BootEnd} (he : e.error ≠ 0) :
    exec (.bootReady e) s = .next ((if e.error = 13 then s.bootClocks e else s).failEnd s.bar.bootCause e) :=
  (if_neg (s.awaitsEnd_iff.1 h)).trans (if_neg he)

theorem State.running_clocksOf (s : State) (e : BootEnd) :
    (if e.error = 13 then s.bootClocks e else s).running = (s.running || decide (e.error = 13)) := by
  by_cases h : e.error = 13
  · rw [if_pos h, (s.bootClocks_spec e).1]; simp [h]
  · rw [if_neg h]; simp [h]

/-! ## Loading over PCIe (R429, R512) -/

section
variable {rq : Rq} {s : State} (op : Nat) (body : State → Status × State)

/-- Outside the states that take them, loading requests are of opcodes unknown there (R429). -/
theorem serveLoad_elsewhere (ha : s.alive = true) (hb : s.bar.own = false) (hl : s.loads = false) :
    serveLoad op rq body s = s.deliver rq op (if s.ready then .range else .busy) [] := by
  unfold serveLoad
  rw [if_neg (by simp [ha]), if_neg (by simp [hb]), if_pos (by simp [hl])]

theorem serveLoad_taken {st : Status} {t : State} (ha : s.alive = true) (hb : s.bar.own = false) (hl : s.loads = true) (hv : rq.ver = 1)
    (hs : rq.slot = none) (h0 : rq.session = 0) (hn : rq.lenOk = true) (g : body s = (st, t)) :
    serveLoad op rq body s = t.deliver rq op st [] := by
  unfold serveLoad
  rw [if_neg (by simp [ha]), if_neg (by simp [hb]), if_neg (by simp [hl]), if_neg (by simp [hv]), if_neg (by simp [hs, h0]), if_neg (by simp [hn]), g]

end

theorem State.stageBytes_frame (s : State) (off n data : Nat) : s.sameButObjects (s.stageBytes off n data) :=
  State.foldl_sameButObjects _ (fun t _ => t.setObj_sameButObjects _ _) _ s

/-- Bytes that are staged change the staging region only. -/
theorem State.obj_stageBytes (s : State) (off n data : Nat) {k : Key} (h : ∀ w, k ≠ Obj.MC_FW_STAGE w) : (s.stageBytes off n data).obj k = s.obj k := by
  have go (l : List Nat) (u : State) (f : State → Nat → Nat) :
      (l.foldl (fun (t : State) i => t.setObj (Obj.MC_FW_STAGE (off / 64 + i)) (f t i)) u).obj k = u.obj k := by
    induction l generalizing u with
    | nil => rfl
    | cons i l ih => exact (ih _).trans (State.obj_setObj_ne u _ (h _))
  exact go _ s _

/-- All 64 bytes of an element replaced. -/
theorem withBytes_whole (n old v : Nat) : withBytes n old 0 n v % 256 ^ n = v % 256 ^ n := by
  simp only [withBytes, Nat.sub_zero, Nat.sub_self, Nat.pow_zero, Nat.mul_one, Nat.mod_one, Nat.add_zero, Nat.mul_add_mod_self_right, Nat.mod_mod]

theorem bytesOf_whole (n v : Nat) : bytesOf n v 0 n = v % 256 ^ n := by
  simp only [bytesOf, Nat.sub_zero, Nat.sub_self, Nat.pow_zero, Nat.div_one]

/-- 64 bytes at the start of an element are that element (R512). -/
theorem State.stageBytes_element (s : State) {off data : Nat} (h : off % 64 = 0) (hd : data < 256 ^ 64) :
    (s.stageBytes off 64 data).obj (Obj.MC_FW_STAGE (off / 64)) % 256 ^ 64 = data := by
  have one : ceilDiv (off % 64 + 64) 64 = 1 := by rw [h]; rfl
  have low : 64 * (off / 64) = off := by omega
  unfold State.stageBytes
  rw [one]
  simp only [List.range_one, List.foldl_cons, List.foldl_nil, Nat.add_zero, low, Nat.max_self, Nat.min_self, Nat.sub_self, Nat.add_sub_cancel_left,
    State.obj_setObj_same]
  rw [withBytes_whole, bytesOf_whole, Nat.mod_mod, Nat.mod_eq_of_lt hd]

/-- What a chunk that fits leads to: its bytes staged, and LOADING. -/
def State.chunkStaged (s : State) (off n data : Nat) : State :=
  let u := s.stageBytes off n data
  if u.bar.bootState = 1 then u else (u.setBoot 1 u.bar.bootCause 0).withMc fun m => { m with loading := true }

theorem State.chunkStaged_spec (s : State) (off n data : Nat) :
    (s.chunkStaged off n data).bar.bootState = 1 ∧ ∀ k, (s.chunkStaged off n data).obj k = (s.stageBytes off n data).obj k := by
  unfold State.chunkStaged
  extract_lets u
  split
  next h => exact ⟨h, fun _ => rfl⟩
  next => exact ⟨rfl, fun _ => rfl⟩

end Sys2Proof.Machine
end

section
/-! PROOFS. Loading, the PCIe link, Quiescent, and the boot as a whole. -/

namespace Sys2Proof.Machine

/-! ## Loading over PCIe (R512) -/

section
variable {rq : Rq} {s : State}

/-- The answers to a chunk (R512). -/
theorem exec_fwChunk_cases (ha : s.alive = true) (hb : s.bar.own = false) (hl : s.loads = true) (hv : rq.ver = 1)
    (hs : rq.slot = none) (h0 : rq.session = 0) (hn : rq.lenOk = true) (offset bytes data : Nat) :
    (bytes < 16 ∨ 65516 < bytes → exec (.fwChunk rq offset bytes data) s = .next (s.deliver rq 0x20 .type [])) ∧
    (16 ≤ bytes → bytes ≤ 65516 → offset % 16 ≠ 0 ∨ 2097152 < offset + bytes →
      exec (.fwChunk rq offset bytes data) s = .next (s.deliver rq 0x20 .range [])) ∧
    (16 ≤ bytes → bytes ≤ 65516 → offset % 16 = 0 → offset + bytes ≤ 2097152 →
      exec (.fwChunk rq offset bytes data) s = .next ((s.chunkStaged offset bytes data).deliver rq 0x20 .ok [])) := by
  refine ⟨fun h => ?_, fun h1 h2 h => ?_, fun h1 h2 h3 h4 => ?_⟩
  · exact congrArg Host.Outcome.next (serveLoad_taken _ _ ha hb hl hv hs h0 hn (if_pos h))
  · exact congrArg Host.Outcome.next (serveLoad_taken _ _ ha hb hl hv hs h0 hn ((if_neg (by omega)).trans (if_pos h)))
  · exact congrArg Host.Outcome.next (serveLoad_taken _ _ ha hb hl hv hs h0 hn ((if_neg (by omega)).trans (if_neg (by omega))))

/-- The end of a load: an image that verifies runs, another fails the boot with its code (R512, R514). -/
theorem exec_fwEnd_cases (ha : s.alive = true) (hb : s.bar.own = false) (hl : s.loads = true) (hv : rq.ver = 1)
    (hs : rq.slot = none) (h0 : rq.session = 0) (hn : rq.lenOk = true) (length : Nat) :
    (2097152 < length → exec (.fwEnd rq length) s = .next (s.deliver rq 0x21 .range [])) ∧
    (length ≤ 2097152 → s.checkImage (s.stagedImage length) = 0 →
      exec (.fwEnd rq length) s = .next ((s.enterImage (s.stagedImage length)).deliver rq 0x21 .ok [])) ∧
    (length ≤ 2097152 → s.checkImage (s.stagedImage length) ≠ 0 →
      exec (.fwEnd rq length) s = .next ((s.setBoot 4 s.bar.bootCause (s.checkImage (s.stagedImage length))).deliver rq 0x21 .ok [])) := by
  refine ⟨fun h => ?_, fun h hc => ?_, fun h hc => ?_⟩
  · exact congrArg Host.Outcome.next (serveLoad_taken _ _ ha hb hl hv hs h0 hn (if_pos h))
  · exact congrArg Host.Outcome.next (serveLoad_taken _ _ ha hb hl hv hs h0 hn
      ((if_neg (Nat.not_lt.mpr h)).trans (congrArg (Prod.mk Status.ok) (if_pos hc))))
  · exact congrArg Host.Outcome.next (serveLoad_taken _ _ ha hb hl hv hs h0 hn
      ((if_neg (Nat.not_lt.mpr h)).trans (congrArg (Prod.mk Status.ok) (if_neg hc))))

end

/-! ## The PCIe link (R449, R528, R533) -/

/-- Bursts that the loss of the link cuts short are counted and reported; the shadow set and the active one stay. -/
theorem State.truncated_sets (bursts : List Burst) (s : State) :
    let t := bursts.foldl (fun (t : State) b => (t.bump Obj.MC_BUS_TRUNC).raise Ev.BUS_TRUNC [b.master, b.target, b.beats]) s
    t.act = s.act ∧ t.shd = s.shd := by
  induction bursts generalizing s with
  | nil => exact ⟨rfl, rfl⟩
  | cons b l ih => exact ih ((s.bump Obj.MC_BUS_TRUNC).raise Ev.BUS_TRUNC [b.master, b.target, b.beats])

theorem exec_pcieLinkLoss_spec (bursts : List Burst) (s : State) : ∃ t : State, exec (.pcieLinkLoss bursts) s = .next t ∧
    t.mc.pcie = false ∧ t.bar.response = none ∧ t.bar.own = false ∧ (∀ r ∈ t.resyncs, r.2.slot.isSome = true) ∧ t.act = s.act ∧ t.shd = s.shd ∧
    ∀ m ∈ t.mc.reserved, m.1 ≠ 2 := by
  obtain ⟨ha, hs⟩ := State.truncated_sets (bursts.filter fun b => decide (b.master = 2)) s
  exact ⟨_, rfl, rfl, rfl, rfl, fun r hr => (List.mem_filter.mp hr).2, ha, hs, fun m hm => of_decide_eq_true (List.mem_filter.mp hm).2⟩

/-! ## Quiescent (R502, R503) -/

/-- A write of PWR_QUIESCENT is accepted where every domain but MGT is Off, WAKE_N is high and the device is not on its way already (R502). -/
theorem exec_pwrQuiescent_eq {rq : Rq} {x : Sender} {val v : Val} {s : State} (h : Accepted rq x Obj.PWR_QUIESCENT val v s) (wakeN : Bool) :
    exec (.pwrQuiescent rq val wakeN) s = .next (
      if (∀ d ∈ rampOrder, s.obj (Obj.PWR_DOM_STATE d) = 3) ∧ wakeN = true ∧ s.power.quiescent = 0 then
        (let t := (s.served rq x).withPower fun p => { p with quiescent := 1, quiescentBy := some rq }
        if rq.slot = none then t.withBar fun b => { b with own := true, ready := false } else t)
      else (s.served rq x).deliver rq Op.write .precond []) := by
  obtain ⟨hs, r, hc⟩ := h
  refine congrArg Host.Outcome.next ?_
  unfold serveQuiescent
  rw [serve_served hs]
  have off : (rampOrder.any fun d => decide ((s.served rq x).domState d ≠ 3)) = true ∨ wakeN = false ∨ (s.served rq x).power.quiescent ≠ 0 ↔
      ¬ ((∀ d ∈ rampOrder, s.obj (Obj.PWR_DOM_STATE d) = 3) ∧ wakeN = true ∧ s.power.quiescent = 0) := by
    have hd (d : Nat) : (s.served rq x).domState d = s.obj (Obj.PWR_DOM_STATE d) := State.obj_served_ne s rq x (by simp)
    simp only [hd, State.power_served, List.any_eq_true, decide_eq_true_eq, not_and_or, not_forall, exists_prop, Bool.not_eq_true]
  simp only [hc]
  by_cases hm : (∀ d ∈ rampOrder, s.obj (Obj.PWR_DOM_STATE d) = 3) ∧ wakeN = true ∧ s.power.quiescent = 0
  · rw [if_neg (mt off.1 (not_not.mpr hm)), if_pos hm]
    rfl
  · rw [if_pos (off.2 hm), if_neg hm]
    rfl

/-- What calls the device out of Quiescent (R503, R504). -/
def State.calledBy (s : State) (byRing : Bool) (q : RingCopy) : Prop :=
  byRing = false ∨ (s.obj Obj.PWR_VY_WAKE = 1 ∧ q.hcrcOk = true ∧ q.ringId = s.obj Obj.VY_RING_ID ∧ ∃ x ∈ q.requests, x.node = s.mc.node ∧ 0 < x.len)

/-- Leaving Quiescent asks for the rails of the core again (R503). -/
def State.leaveQuiescent (s : State) : State :=
  ((s.setRequest 0 (some ⟨2, railNominal 0, s.now, false⟩)).setRequest 1 (some ⟨2, railNominal 1, s.now, false⟩)).withPower fun p =>
    { p with quiescent := 3 }

theorem State.leaveQuiescent_requests (s : State) : s.leaveQuiescent.railRequest 0 = some ⟨2, 800000, s.now, false⟩ ∧
    s.leaveQuiescent.railRequest 1 = some ⟨2, 800000, s.now, false⟩ := by
  have second := State.railRequest_setRequest_ne (s.setRequest 0 (some ⟨2, railNominal 0, s.now, false⟩)) 1 (some ⟨2, railNominal 1, s.now, false⟩)
    (j := 0) (by decide)
  exact ⟨second.trans (State.railRequest_setRequest_same s 0 _), State.railRequest_setRequest_same _ 1 (some ⟨2, railNominal 1, s.now, false⟩)⟩

theorem exec_quiescentExit_called {s : State} {byRing : Bool} {q : RingCopy} (hq : s.power.quiescent = 2) (h : s.calledBy byRing q) :
    exec (.quiescentExit byRing q) s = .next s.leaveQuiescent := by
  refine if_pos ⟨hq, h.imp_right fun ⟨hw, hh, hi, x, hx, hn⟩ => ?_⟩
  simp only [hw, hh, hi, decide_true, Bool.true_and, List.any_eq_true, Bool.and_eq_true, decide_eq_true_eq]
  exact ⟨x, hx, hn⟩

theorem exec_quiescentExit_uncalled {s : State} {byRing : Bool} {q : RingCopy} (h : s.power.quiescent ≠ 2 ∨ ¬ s.calledBy byRing q) :
    exec (.quiescentExit byRing q) s = .next s := by
  refine if_neg fun ⟨hq, hc⟩ => h.elim (fun g => g hq) fun g => g (hc.imp_right fun hr => ?_)
  simpa [and_assoc] using hr

theorem exec_quiescentRailRetry_eq (r : Fin 12) (ticks : Nat) (s : State) : exec (.quiescentRailRetry r ticks) s = .next (
    match Map.get none s.power.failed (Key.unit r) with
    | some q => if s.power.quiescent = 3 ∧ 8000000 ≤ ticks ∧ s.railRequest r = none then s.setRequest r (some ⟨q.kind, q.target, s.now, q.wake⟩) else s
    | none => s) := by
  change execQuiescentRailRetry r ticks s = _
  unfold execQuiescentRailRetry
  cases Map.get none s.power.failed (Key.unit r) with
  | none => rfl
  | some q => exact (apply_ite Host.Outcome.next _ _ _).symm

/-! ## The statement -/

/-- PORST_N_RELEASE on a device that is neither held nor booted. -/
theorem exec_porstNRelease_spec {s : State} (hh : s.mc.held ≠ 2) (hr : s.running = false) (hm : s.mc.running = none)
    (hl : s.mc.loading = false) (b : Board) : ∃ t : State, exec (.porstNRelease b) s = .next t ∧ t.mc.held = 0 ∧ t.mc.node = b.node ∧
      t.mc.pcie = b.pcie ∧ t.mc.source = b.source ∧
      (∀ i, b.source ≠ 1 → b.slotA = some i → (s.latched b).trySlot b.slotA = 0 →
        t.bar.bootState = 2 ∧ t.mc.running = some i ∧ t.obj Obj.SEC_FW_VERSION = i.version) ∧
      (∀ i, b.source ≠ 1 → (s.latched b).trySlot b.slotA ≠ 0 → b.slotB = some i → (s.latched b).trySlot b.slotB = 0 →
        t.bar.bootState = 2 ∧ t.mc.running = some i) ∧
      (b.source ≠ 1 → (s.latched b).trySlot b.slotA ≠ 0 → (s.latched b).trySlot b.slotB ≠ 0 → b.source = 2 ∨ b.pcie = false →
        t.bar.bootState = 4 ∧ t.bar.bootError = (s.latched b).trySlot b.slotB) ∧
      (b.source = 1 → t.bar.bootState = 0 ∧ t.mc.loading = true) := by
  obtain ⟨hA, hB, hfail, hwait⟩ := (s.latched b).bootRom_cases
  have hlat := (s.latched b).bootRom_work.latched
  have source (n : Fin 4) : (s.latched b).mc.source = n ↔ b.source = n := Fin.ext_iff.symm
  refine ⟨_, exec_porstNRelease_boots hh hr hm hl b, ?_, ?_, ?_, ?_, fun i hs hi ha => ?_, fun i hs ha hi hb => ?_, fun hs ha hb hp => ?_, fun hs => ?_⟩
  · rw [hlat]; rfl
  · rw [hlat]; rfl
  · rw [hlat]; rfl
  · rw [hlat]; rfl
  · rw [hA i (mt (source 1).1 hs) hi ha]
    obtain ⟨hboot, hrun, -, hver⟩ := (s.latched b).romMeasured.enterImage_spec i
    exact ⟨hboot, hrun, hver⟩
  · rw [hB i (mt (source 1).1 hs) ha hi hb]
    obtain ⟨hboot, hrun, -, -⟩ := (s.latched b).romMeasured.enterImage_spec i
    exact ⟨hboot, hrun⟩
  · rw [hfail (mt (source 1).1 hs) ha hb (hp.imp_left (source 2).2)]
    exact ⟨rfl, rfl⟩
  · rw [hwait ((source 1).2 hs)]
    exact ⟨rfl, rfl⟩

/-- BOOT_READY, whichever way the boot ends. -/
theorem exec_bootReady_spec {s : State} (h : s.awaitsEnd) {e : BootEnd} (he : e.error = 0) : ∃ t : State,
    exec (.bootReady e) s = .next t ∧ t.bar.bootState = 3 ∧ t.running = true ∧ t.mc.initialising = false ∧
      t.tick = (if s.running then s.tick else e.tick) ∧ t.obj Obj.MC_FW_STAGE_STATE = 0 ∧
      (s.prism.fenced = [] → s.prism.lostSlices = [] → s.prism.xorLost = false → t.obj Obj.PRISM_STATE = 1) ∧
      (s.running = false → ∀ k, k < 8 → t.obj (Obj.PWR_RAIL_SET (2 + k)) = railNominal (2 + k)) ∧
      (e.hbm = false → ⟨Ev.BOOT_HBM.code, false, t.tick, contentOf Ev.BOOT_HBM.widths []⟩ ∈ t.changes) ∧
      (s.pllLatch = true → t.pllLatch = false ∧ ⟨Ev.CORE_PLL_UNLOCK.code, false, s.mc.pllTick, contentOf Ev.CORE_PLL_UNLOCK.widths []⟩ ∈ t.changes) := by
  obtain ⟨crun, ctick, cprism, clatch, cpll, crails⟩ := s.bootClocks_spec e
  obtain ⟨dboot, drun, dinit, dtick, dstage, dprism, dobj, dhbm, dlatch⟩ := State.bootDone_spec crun e.hbm
  rw [cprism] at dprism
  rw [clatch, cpll] at dlatch
  exact ⟨_, exec_bootReady_done h he, dboot, drun, dinit, dtick.trans ctick, dstage, dprism,
    fun hr k hk => (dobj _ (by simp) (by simp)).trans (crails hr k hk), dhbm, dlatch⟩

/-- Settles O57: the boot by what its slots hold, its end, loading, and Quiescent, each by its lemma above. -/
theorem theDeviceBootsAndRests : Obligations.TheDeviceBootsAndRests := by
  intro s
  refine ⟨fun b => ⟨fun h => exec_porstNRelease_running h b, fun hh hr hm hl => ?_⟩, ?_, ?_, fun e => ?_, fun rq ha hb => ?_,
    fun bursts => exec_pcieLinkLoss_spec bursts s, rfl, fun rq x val v wakeN h => ?_, fun byRing q => ?_,
    fun r ticks => exec_quiescentRailRetry_eq r ticks s⟩
  · have h := exec_porstNRelease_spec hh hr hm hl b
    simp only [State.trySlot_eq] at h
    exact h
  · obtain ⟨hf, hheld, -⟩ := s.deviceReset_frame 1 1
    have hrest : (s.deviceReset 1 1).running = false ∧ (s.deviceReset 1 1).bar.bootCause = 1 ∧ (s.deviceReset 1 1).pending = s.pending ∧
        (s.deviceReset 1 1).act = State.reset.act := by
      rw [hf]; exact ⟨rfl, rfl, rfl, rfl⟩
    obtain ⟨hrun, hcause, hpend, hact⟩ := hrest
    exact ⟨_, rfl, hheld, hrun, hcause, hpend, State.obj_deviceReset (by simp [otpObjects]) 1 1, hact⟩
  · intro starts
    have hs : s.startsTicks = true ↔ starts := s.startsTicks_iff
    refine ⟨fun hr hn => if_neg (not_or.mpr ⟨by simp [hr], mt hs.1 hn⟩), fun h => ?_, fun h => ?_⟩
    · obtain ⟨t, he, hrun, hlatch, hpll, hcause, -⟩ := execCorePllUnlock_resets (h.imp_right hs.2)
      exact ⟨t, he, hcause, hlatch, hpll, hrun⟩
    · refine ⟨rfl, rfl, rfl, fun w => ?_⟩
      obtain ⟨he, hn⟩ := exec_tickBoundary_first (hs.2 h) w
      exact ⟨_, he, rfl, hn⟩
  · refine ⟨fun h => exec_bootReady_elsewhere h e, fun h he => exec_bootReady_spec h he, fun h he => ?_⟩
    obtain ⟨hboot, herr, hrun, hrail⟩ := (if e.error = 13 then s.bootClocks e else s).failEnd_spec s.bar.bootCause e
    exact ⟨_, exec_bootReady_failed h he, hboot, herr, hrun.trans (s.running_clocksOf e), hrail⟩
  · refine ⟨fun hl offset bytes data => congrArg Host.Outcome.next (serveLoad_elsewhere _ _ ha hb hl), fun hl hv hs h0 hn =>
      ⟨fun offset bytes data => ?_, fun length => ?_⟩⟩
    · obtain ⟨htype, hrange, hok⟩ := exec_fwChunk_cases ha hb hl hv hs h0 hn offset bytes data
      refine ⟨htype, hrange, fun h1 h2 h3 h4 => ?_⟩
      obtain ⟨hboot, hobj⟩ := s.chunkStaged_spec offset bytes data
      refine ⟨_, hok h1 h2 h3 h4, hboot, fun k hk => (hobj k).trans (s.obj_stageBytes offset bytes data hk), fun h64 hbytes hd => ?_⟩
      subst hbytes
      rw [hobj, s.stageBytes_element h64 hd]
    · obtain ⟨hlong, hgood, hbad⟩ := exec_fwEnd_cases ha hb hl hv hs h0 hn length
      refine ⟨hlong, fun hlen => ?_⟩
      intro i code
      by_cases hc : code = 0
      · obtain ⟨hboot, hrun, hremap, hver⟩ := s.enterImage_spec i
        exact ⟨_, hgood hlen hc, fun _ => ⟨hboot, hrun, hremap, hver⟩, fun g => absurd hc g⟩
      · exact ⟨_, hbad hlen hc, fun g => absurd g hc, fun _ => ⟨rfl, rfl, rfl⟩⟩
  · have he := exec_pwrQuiescent_eq h wakeN
    refine ⟨fun hm => he.trans (congrArg Host.Outcome.next (if_neg hm)), fun hm => ⟨_, he.trans (congrArg Host.Outcome.next (if_pos hm)), ?_⟩⟩
    by_cases hs : rq.slot = none
    · rw [if_pos hs]; exact ⟨rfl, rfl, fun _ => rfl, rfl⟩
    · rw [if_neg hs]; exact ⟨rfl, rfl, fun g => absurd g hs, rfl⟩
  · obtain ⟨h0, h1⟩ := s.leaveQuiescent_requests
    exact ⟨fun hq hc => ⟨_, exec_quiescentExit_called hq hc, rfl, h0, h1, rfl⟩, fun h => exec_quiescentExit_uncalled h⟩

end Sys2Proof.Machine
end

section
/-! PROOFS. Staged writes and a new bonding grouping at their boundary: the check of TB_BOND_CFG, what a receiver that acquires afresh keeps of the
time base, and the commits of the coming boundary. -/

namespace Sys2Proof.Machine

/-! ## The write of TB_BOND_CFG (R45) -/

/-- The agenda without an earlier grouping for the same boundary. -/
def State.agendaWithoutBond (s : State) (boundary : Nat) : List Pending :=
  s.agenda.filter fun p => match p.due with
    | .bond _ => decide (p.boundary ≠ boundary)
    | _ => true

/-- A write of TB_BOND_CFG, check by check (R45). -/
theorem acceptTimeBase_bondCfg (v : Val) (s : State) : acceptTimeBase Obj.TB_BOND_CFG v s =
    if ¬ s.bondAllowed v.v then (.precond, s)
    else (.ok, { s with agenda := s.agendaWithoutBond (s.epochBoundaryAt 2) ++ [⟨s.epochBoundaryAt 2, .bond v.v⟩] }) := rfl

section
variable {s : State} {boundary : Nat} {p : Pending}

theorem State.mem_of_agendaWithoutBond (h : p ∈ s.agendaWithoutBond boundary) : p ∈ s.agenda := (List.mem_filter.mp h).1

theorem State.mem_agendaWithoutBond_other (h : p ∈ s.agenda) (hp : ∀ w, p.due ≠ .bond w) : p ∈ s.agendaWithoutBond boundary := by
  refine List.mem_filter.mpr ⟨h, ?_⟩
  split
  case h_1 w hw => exact absurd hw (hp w)
  case h_2 => rfl

theorem State.boundary_ne_of_agendaWithoutBond {w : Nat} (h : p ∈ s.agendaWithoutBond boundary) (hp : p.due = .bond w) : p.boundary ≠ boundary := by
  have g := (List.mem_filter.mp h).2
  rw [hp] at g
  exact of_decide_eq_true g

end

/-! ## A receiver that acquires afresh keeps the time base (R107) -/

section
variable (s : State)

theorem State.timeBase_refreshLevel (r : Nat) : (s.refreshLevel r).timeBase = s.timeBase := by
  unfold State.refreshLevel
  extract_lets old new
  split
  · rfl
  · exact s.timeBase_setObj _ (by simp)

theorem State.timeBase_setRefState (r new : Nat) : (s.setRefState r new).timeBase = s.timeBase := by
  unfold State.setRefState
  extract_lets old
  split
  · rfl
  · exact (State.timeBase_refreshLevel _ r).trans (s.timeBase_setObj _ (by simp))

theorem State.timeBase_freezeTrackers (r : Nat) : (s.freezeTrackers r).timeBase = s.timeBase := by
  refine State.timeBase_foldl _ (fun t d => ?_) _ s
  split <;> rfl

theorem State.timeBase_failRef (r : Nat) : (s.failRef r).timeBase = s.timeBase := by
  unfold State.failRef
  split
  · rfl
  · extract_lets x t
    have ht : t.timeBase = s.timeBase := by
      unfold t; split
      · exact s.timeBase_setObj _ (by simp)
      · rfl
    simp only [State.timeBase_freezeTrackers, State.timeBase_setRefState, State.timeBase_withRef, ht]

theorem State.timeBase_storeRx (e : Nat) : (s.storeRx e).timeBase = s.timeBase := by simp [State.storeRx]

theorem State.timeBase_followFixed (e : Nat) : (s.followFixed e).timeBase = s.timeBase := by
  unfold State.followFixed
  split
  · exact s.timeBase_setInt _ (by simp)
  · rfl

theorem State.timeBase_restoreRx (e : Nat) : (s.restoreRx e).timeBase = s.timeBase := by
  unfold State.restoreRx
  split
  · simp [State.timeBase_followFixed]
  · rfl

theorem State.timeBase_unbond (e : Nat) : (s.unbond e).timeBase = s.timeBase := s.timeBase_setBondState _

theorem State.timeBase_closeTransient (e : Nat) : (s.closeTransient e).timeBase = s.timeBase := by
  unfold State.closeTransient
  extract_lets r t
  have ht : t.timeBase = s.timeBase := s.timeBase_setObj _ (by simp)
  split
  · rfl
  · split
    · exact ht
    · rw [State.timeBase_raise, State.timeBase_setObj t _ (by simp), ht]

theorem State.timeBase_loseTransient (e : Nat) : (s.loseTransient e).timeBase = s.timeBase := by
  unfold State.loseTransient
  extract_lets t
  have ht : t.timeBase = s.timeBase := s.timeBase_closeTransient e
  split
  · exact (State.timeBase_congr rfl rfl rfl rfl : _ = t.timeBase).trans ht
  · exact ht

theorem State.timeBase_leaveLock (e : Nat) : (s.leaveLock e).timeBase = s.timeBase := by
  unfold State.leaveLock
  split
  · extract_lets t u
    have ht : t.timeBase = s.timeBase := by
      simp [t, State.timeBase_loseTransient, State.timeBase_storeRx]
    simp [u, State.timeBase_failRef, State.timeBase_unbond, ht]
  · rfl

theorem State.timeBase_acquire (e cls : Nat) : (s.acquire e cls).timeBase = s.timeBase := by
  unfold State.acquire
  extract_lets t u
  have hu : u.timeBase = s.timeBase := by
    simp [u, t, State.setReceiver, State.timeBase_leaveLock]
  split
  · exact (u.timeBase_restoreRx e).trans hu
  · exact (u.timeBase_followFixed e).trans hu

theorem State.timeBase_freshSignal (e : Nat) : (s.freshSignal e).timeBase = s.timeBase := by
  unfold State.freshSignal
  extract_lets cold cls t
  refine (t.timeBase_withEngine e _).trans ?_
  unfold t
  split
  · exact s.timeBase_acquire e cls
  · split <;> rfl

/-- The grouping in force is the one applied (R45). -/
theorem State.obj_applyBond_cfg (v : Nat) : (s.applyBond v).obj Obj.TB_BOND_CFG = v := by
  unfold State.applyBond
  extract_lets changed t u
  have h := State.timeBase_foldl State.freshSignal (fun t e => t.timeBase_freshSignal e) changed (u.setObj Obj.TB_BOND_CFG v)
  rw [State.obj_of_timeBase h rfl (by simp), State.obj_setObj_same]

end

/-! ## The commits of the coming boundary (R34) -/

/-- A part of the boundary whose action waits runs when the tick before it has ended. -/
theorem State.comingPart_due {s c : State} {due : State → Bool} (hc : c = s.closeTick) (h : due c = true) (f : State → State) :
    s.comingPart due f = c.atBoundary f := by
  subst hc
  exact if_pos h

theorem State.obj_atBoundary (s : State) (f : State → State) (k : Key) :
    (s.atBoundary f).obj k = (f { s with now := s.now + 1, tick := s.nextTick }).obj k := rfl

section
variable {c : State} {b : Nat} {d : Due} {p : Due → Bool}

theorem State.comesDue_single (ha : c.agenda = [⟨b, d⟩]) (hb : b ≤ c.now + 1) (hp : p d = true) : c.comesDue p = true := by
  simp [State.comesDue, ha, hb, hp]

/-- The one action of the agenda is carried out, and off the agenda. -/
theorem State.runDue_single (ha : c.agenda = [⟨b, d⟩]) (hb : b ≤ c.now) (hp : p d = true) (apply : Due → State → State) :
    c.runDue apply p = apply d { c with agenda := [] } := by
  simp [State.runDue, ha, hb, hp]

end

/-- A commit of line configurations with none due. -/
theorem State.commitModes_none {s : State} (h : ∀ q ∈ s.agenda, isMode q.due = false) : s.commitModes = s := by
  have hready : ∀ q ∈ s.agenda, (decide (q.boundary ≤ s.now) && isMode q.due) = false := fun q hq => by simp [h q hq]
  have hnone : s.agenda.filter (fun q => decide (q.boundary ≤ s.now) && isMode q.due) = [] := by
    simpa [List.filter_eq_nil_iff] using fun q hq _ => h q hq
  have hall : s.agenda.filter (fun q => !(decide (q.boundary ≤ s.now) && isMode q.due)) = s.agenda :=
    List.filter_eq_self.mpr fun q hq => by simp [hready q hq]
  unfold State.commitModes
  simp only [hnone, hall, List.filterMap_nil, List.filter_nil]
  exact List.foldlRecOn (motive := (· = s)) _ _ rfl fun t ht e _ => ht

/-- The classes whose committed writes have no effect but their value. -/
def plainClasses : List Nat := [0x01, 0x02, 0x12, 0x30, 0x34, 0x60]

theorem modeKey_plain {k : Key} (h : k.c ∈ plainClasses) : modeKey k = false := by
  have : k.c ≠ 0x11 := fun g => absurd (g ▸ h) (by decide)
  simp [modeKey, this]

theorem State.commitWrite_plain {k : Key} (h : k.c ∈ plainClasses) (s : State) (v : Nat) : s.commitWrite k v = s.setObj k v := by
  have h40 : k.c ≠ 0x40 := fun g => absurd (g ▸ h) (by decide)
  unfold State.commitWrite
  rw [if_neg fun g => h40 g.1]
  simp only [plainClasses, List.mem_cons, List.not_mem_nil, or_false] at h
  rcases h with h | h | h | h | h | h <;> (rw [h]; rfl)

theorem State.commitObjects_single {c : State} {b : Nat} {k : Key} (v : Nat) (ha : c.agenda = [⟨b, .write k v⟩]) (hb : b ≤ c.now) (hk : k.c ∈ plainClasses) :
    c.commitObjects = ({ c with agenda := [] } : State).setObj k v := by
  have hm : c.commitModes = c := State.commitModes_none fun q hq => by
    rw [ha, List.mem_singleton] at hq
    subst hq
    exact modeKey_plain hk
  unfold State.commitObjects
  rw [hm, State.runDue_single ha hb rfl]
  exact State.commitWrite_plain hk _ v

/-- Settles O16: a grouping that R45 allows waits for its boundary alone, the grouping in force is the one applied, and a plain staged write is its
value. -/
theorem boundaryCommits : Obligations.BoundaryCommits := by
  refine ⟨fun rq x val v s h => ?_, fun s c b v hc ha hb => ?_, fun s c b k v hc ha hb hk => ?_⟩
  · intro u
    refine ⟨fun hv => ?_, fun hv => ?_⟩
    · have g : acceptTimeBase Obj.TB_BOND_CFG v u = (.precond, u) := by simp [acceptTimeBase_bondCfg, hv]
      exact congrArg Host.Outcome.next (serveWrite_refused h acceptTimeBase g)
    · have he : u.epochBoundaryAt 2 = s.epochBoundaryAt 2 := s.epochBoundaryAt_served rq x 2
      have ha : u.agenda = s.agenda := s.agenda_served rq x
      refine ⟨u.agendaWithoutBond (s.epochBoundaryAt 2), ?_, fun p hp hw => ?_, fun p hp => ?_, fun p hp w hw => ?_⟩
      · have g : acceptTimeBase Obj.TB_BOND_CFG v u = (.ok, { u with
            agenda := u.agendaWithoutBond (s.epochBoundaryAt 2) ++ [⟨s.epochBoundaryAt 2, .bond v.v⟩] }) := by
          simp [acceptTimeBase_bondCfg, hv, he]
        exact congrArg Host.Outcome.next (serveWrite_accepted h acceptTimeBase g)
      · exact State.mem_agendaWithoutBond_other (ha ▸ hp) hw
      · exact ha ▸ State.mem_of_agendaWithoutBond hp
      · exact State.boundary_ne_of_agendaWithoutBond hp hw
  · refine ⟨_, congrArg Host.Outcome.next (State.comingPart_due hc (State.comesDue_single ha hb rfl) _), ?_⟩
    have hrun := State.runDue_single (c := { c with now := c.now + 1, tick := c.nextTick }) (p := isBond) ha hb rfl runBond
    calc _ = (State.runDue { c with now := c.now + 1, tick := c.nextTick } runBond isBond).obj Obj.TB_BOND_CFG := c.obj_atBoundary _ _
      _ = (State.applyBond { c with now := c.now + 1, tick := c.nextTick, agenda := [] } v).obj Obj.TB_BOND_CFG := by rw [hrun]; rfl
      _ = v := State.obj_applyBond_cfg _ v
  · refine congrArg Host.Outcome.next ((State.comingPart_due hc (State.comesDue_single ha hb rfl) _).trans ?_)
    have hrun := State.commitObjects_single (c := { c with now := c.now + 1, tick := c.nextTick }) v ha hb hk
    unfold State.atBoundary
    rw [hrun]
    rfl

end Sys2Proof.Machine
end

section
/-! PROOFS. Bonded groups and the overhead ports: the deskew of a group, the route of an overhead channel, and the frame of a port. -/

namespace Sys2Proof.Machine

/-! ## The members in lock and their deskew (R46, R151) -/

/-- The state with the lock bit of each member set so. -/
def State.setLocked (s : State) (g : List Nat) (on : Bool) : State :=
  g.foldl (fun u i => u.setObj Obj.TB_BOND_STATE (withBit (u.obj Obj.TB_BOND_STATE) i on)) s

/-- The state with the offset of each member from the earliest. -/
def State.deskewed (s : State) (arrivals : List (Nat × Nat)) (earliest : Nat) : State :=
  arrivals.foldl (fun t q => t.setObj (Obj.FRM_DESKEW q.1) (q.2 - earliest)) s

section
variable (s : State)

theorem State.bit_setLocked (g : List Nat) (on : Bool) (e : Nat) :
    bit ((s.setLocked g on).obj Obj.TB_BOND_STATE) e = if e ∈ g then on else bit (s.obj Obj.TB_BOND_STATE) e := by
  unfold State.setLocked
  induction g generalizing s with
  | nil => rfl
  | cons i g ih =>
    rw [List.foldl_cons, ih]
    by_cases hg : e ∈ g <;> by_cases hi : e = i <;> simp [hg, hi]

theorem State.obj_setLocked (g : List Nat) (on : Bool) {k : Key} (hk : k ≠ Obj.TB_BOND_STATE) : (s.setLocked g on).obj k = s.obj k := by
  unfold State.setLocked
  induction g generalizing s with
  | nil => rfl
  | cons i g ih => rw [List.foldl_cons, ih, State.obj_setObj_ne _ _ hk]

theorem State.setLocked_frame (g : List Nat) (on : Bool) : s.sameButObjects (s.setLocked g on) :=
  State.foldl_sameButObjects _ (fun t _ => t.setObj_sameButObjects _ _) g s

theorem State.deskewed_frame (arrivals : List (Nat × Nat)) (earliest : Nat) : s.sameButObjects (s.deskewed arrivals earliest) :=
  State.foldl_sameButObjects _ (fun t _ => t.setObj_sameButObjects _ _) arrivals s

theorem State.obj_deskewed_ne (arrivals : List (Nat × Nat)) (earliest : Nat) {k : Key} (hk : ∀ q ∈ arrivals, k ≠ Obj.FRM_DESKEW q.1) :
    (s.deskewed arrivals earliest).obj k = s.obj k := by
  unfold State.deskewed
  induction arrivals generalizing s with
  | nil => rfl
  | cons a l ih =>
    rw [List.foldl_cons, ih _ fun q hq => hk q (List.mem_cons_of_mem a hq), State.obj_setObj_ne _ _ (hk a List.mem_cons_self)]

/-- Each member, named once, shows its own offset. -/
theorem State.obj_deskewed_same (arrivals : List (Nat × Nat)) (earliest : Nat) (hn : (arrivals.map Prod.fst).Nodup) {q : Nat × Nat} (hq : q ∈ arrivals) :
    (s.deskewed arrivals earliest).obj (Obj.FRM_DESKEW q.1) = q.2 - earliest := by
  unfold State.deskewed
  induction arrivals generalizing s with
  | nil => exact absurd hq List.not_mem_nil
  | cons a l ih =>
    obtain ⟨ha, hl⟩ := List.nodup_cons.mp hn
    rw [List.foldl_cons]
    rcases List.mem_cons.mp hq with rfl | hq
    · have hne : ∀ r ∈ l, Obj.FRM_DESKEW q.1 ≠ Obj.FRM_DESKEW r.1 := fun r hr g => ha (List.mem_map.mpr ⟨r, hr, (congrArg Key.i g).symm⟩)
      exact (State.obj_deskewed_ne _ l earliest hne).trans (State.obj_setObj_same _ _ _)
    · exact ih _ hl hq

/-- The state with dLOA of a point declared, and reported where it was not. -/
def State.reportLoa (e p spread : Nat) : State := if s.declared Df.loa p then s else (s.declare Df.loa p).raise Ev.LOA [e, p, spread]

theorem State.declareLoa_eq (e spread : Nat) : s.declareLoa e spread = (s.reportLoa e (bondPoint (s.bond e)) spread).setLocked (s.bond e) false := rfl

theorem State.declared_reportLoa (e p spread : Nat) : (s.reportLoa e p spread).declared Df.loa p = true := by
  unfold State.reportLoa
  split
  · assumption
  · simp

theorem State.obj_reportLoa (e p spread : Nat) (k : Key) : (s.reportLoa e p spread).obj k = s.obj k := by
  unfold State.reportLoa
  split <;> simp

theorem State.reportLoa_frame (e p spread : Nat) : ∃ defects changes, s.reportLoa e p spread = { s with defects, changes } := by
  unfold State.reportLoa
  split
  · exact ⟨s.defects, s.changes, rfl⟩
  · rw [State.declare_frame]
    exact ⟨_, _, rfl⟩

end

/-- What a deskew may touch: objects, defects with their events, and the spread of the group. -/
def State.sameButDeskew (s t : State) : Prop :=
  t = { s with reg := t.reg, defects := t.defects, changes := t.changes, bondSpread := t.bondSpread }

theorem State.sameButDeskew.trans {r s t : State} (h : r.sameButDeskew s) (g : s.sameButDeskew t) : r.sameButDeskew t := by
  unfold State.sameButDeskew at *
  rw [g, h]

theorem State.sameButObjects.deskew {s t : State} (h : s.sameButObjects t) : s.sameButDeskew t := by
  unfold State.sameButObjects at h
  unfold State.sameButDeskew
  rw [h]

theorem State.sameButObjects.declared {s t : State} (h : s.sameButObjects t) (d i : Nat) : t.declared d i = s.declared d i := by
  unfold State.sameButObjects at h
  rw [h]
  rfl

theorem State.bit_declareLoa (s : State) (e spread i : Nat) :
    bit ((s.declareLoa e spread).obj Obj.TB_BOND_STATE) i = if i ∈ s.bond e then false else bit (s.obj Obj.TB_BOND_STATE) i := by
  rw [State.declareLoa_eq, State.bit_setLocked, State.obj_reportLoa]

theorem State.obj_declareLoa (s : State) (e spread : Nat) {k : Key} (hk : k ≠ Obj.TB_BOND_STATE) : (s.declareLoa e spread).obj k = s.obj k := by
  rw [State.declareLoa_eq, State.obj_setLocked _ _ _ hk, State.obj_reportLoa]

theorem State.declared_declareLoa (s : State) (e spread : Nat) : (s.declareLoa e spread).declared Df.loa (bondPoint (s.bond e)) = true := by
  rw [State.declareLoa_eq, (State.setLocked_frame _ _ _).declared, State.declared_reportLoa]

theorem State.declareLoa_sameButDeskew (s : State) (e spread : Nat) : s.sameButDeskew (s.declareLoa e spread) := by
  obtain ⟨defects, changes, h⟩ := s.reportLoa_frame e (bondPoint (s.bond e)) spread
  rw [State.declareLoa_eq]
  refine State.sameButDeskew.trans ?_ (State.setLocked_frame _ _ _).deskew
  rw [h]
  rfl

/-! ## BOND_DESKEW (R151) -/

/-- The group is not deskewed: its spread is too wide, its numbering wrong, or, once aligned, it has jumped a frame (R151). -/
def State.misaligned (s : State) (g : List Nat) (spread : Nat) (numbered : Bool) : Prop :=
  let before := Map.get 0 s.bondSpread (Key.unit (bondPoint g))
  20000000 < spread ∨ ¬ numbered ∨
    ((g.all fun e => bit (s.obj Obj.TB_BOND_STATE) e) = true ∧ framePeriod (s.mode (g.headD 0)) < (spread - before) + (before - spread))

/-- The group is in lock, without dLOA, and its spread is the one to compare with. -/
def State.lockGroup (s : State) (g : List Nat) (spread : Nat) : State :=
  let u := s.setLocked g true
  { u.clear Df.loa (bondPoint g) with bondSpread := Map.set 0 u.bondSpread (Key.unit (bondPoint g)) spread }

theorem State.bit_lockGroup (s : State) (g : List Nat) (spread e : Nat) :
    bit ((s.lockGroup g spread).obj Obj.TB_BOND_STATE) e = if e ∈ g then true else bit (s.obj Obj.TB_BOND_STATE) e := by
  refine Eq.trans (congrArg (bit · e) ?_) (s.bit_setLocked g true e)
  exact State.obj_clear (s.setLocked g true) Df.loa (bondPoint g) _

theorem State.obj_lockGroup (s : State) (g : List Nat) (spread : Nat) {k : Key} (hk : k ≠ Obj.TB_BOND_STATE) :
    (s.lockGroup g spread).obj k = s.obj k :=
  (State.obj_clear (s.setLocked g true) Df.loa (bondPoint g) k).trans (s.obj_setLocked g true hk)

theorem State.declared_lockGroup (s : State) (g : List Nat) (spread : Nat) : (s.lockGroup g spread).declared Df.loa (bondPoint g) = false :=
  State.declared_clear_same (s.setLocked g true) Df.loa (bondPoint g)

theorem State.clear_sameButDeskew (s : State) (d i : Nat) : s.sameButDeskew (s.clear d i) := by
  rw [State.clear_frame]
  rfl

theorem State.lockGroup_sameButDeskew (s : State) (g : List Nat) (spread : Nat) : s.sameButDeskew (s.lockGroup g spread) := by
  have h : ((s.setLocked g true).clear Df.loa (bondPoint g)).sameButDeskew (s.lockGroup g spread) := rfl
  exact ((s.setLocked_frame g true).deskew.trans (State.clear_sameButDeskew _ _ _)).trans h

section
variable {group : Fin 3} {s : State}

/-- The deskew of a group in force all of whose members are locked and in SYNC. -/
theorem exec_bondDeskew_locked (hb : s.bond ((groupMembers group).headD 0) = groupMembers group)
    (hl : ∀ e ∈ groupMembers group, s.rxLocked e = true ∧ s.obj (Obj.FRM_STATE e) = 2) (offsets : List Nat) (numbered : Bool) :
    let g := groupMembers group
    let earliest := offsets.foldl min (offsets.headD 0)
    let spread := offsets.foldl max 0 - earliest
    let t := s.deskewed (g.zip offsets) earliest
    (s.misaligned g spread numbered → exec (.bondDeskew group offsets numbered) s = .next (t.declareLoa (g.headD 0) spread)) ∧
    (¬ s.misaligned g spread numbered → exec (.bondDeskew group offsets numbered) s = .next (t.lockGroup g spread)) := by
  intro g earliest spread t
  have ready : s.bond (g.headD 0) = g ∧ (g.all fun e => s.rxLocked e && decide (s.obj (Obj.FRM_STATE e) = 2)) = true :=
    ⟨hb, by simpa using hl⟩
  exact ⟨fun h => (if_pos ready).trans (if_pos h), fun h => (if_pos ready).trans (if_neg h)⟩

theorem groupMembers_nodup : (groupMembers group).Nodup := by fin_cases group <;> decide

theorem State.obj_deskewed_bond (s : State) (arrivals : List (Nat × Nat)) (earliest : Nat) (k : Key) (hk : k.c = 0x01) :
    (s.deskewed arrivals earliest).obj k = s.obj k :=
  s.obj_deskewed_ne arrivals earliest fun q _ h => absurd (hk.symm.trans (congrArg Key.c h)) (by simp)

/-- The deskew of a group, as its members, its point and the other engines show it (R46, R151). -/
theorem exec_bondDeskew_spec {offsets : List Nat} (hb : s.bond ((groupMembers group).headD 0) = groupMembers group)
    (hlen : offsets.length = (groupMembers group).length)
    (hl : ∀ e ∈ groupMembers group, s.rxLocked e = true ∧ s.obj (Obj.FRM_STATE e) = 2) (numbered : Bool) :
    let g := groupMembers group
    let earliest := offsets.foldl min (offsets.headD 0)
    let spread := offsets.foldl max 0 - earliest
    ∃ t : State, exec (.bondDeskew group offsets numbered) s = .next t ∧
      (∀ q ∈ g.zip offsets, t.obj (Obj.FRM_DESKEW q.1) = q.2 - earliest) ∧
      (¬ s.misaligned g spread numbered → (∀ e ∈ g, bit (t.obj Obj.TB_BOND_STATE) e = true) ∧ t.declared Df.loa (bondPoint g) = false) ∧
      (s.misaligned g spread numbered → (∀ e ∈ g, bit (t.obj Obj.TB_BOND_STATE) e = false) ∧ t.declared Df.loa (bondPoint g) = true) ∧
      (∀ e, e ∉ g → bit (t.obj Obj.TB_BOND_STATE) e = bit (s.obj Obj.TB_BOND_STATE) e) ∧ s.sameButDeskew t := by
  intro g earliest spread
  obtain ⟨hbad, hgood⟩ := exec_bondDeskew_locked hb hl offsets numbered
  let u := s.deskewed (g.zip offsets) earliest
  have hu : s.sameButDeskew u := (s.deskewed_frame _ _).deskew
  have hkeys : ((g.zip offsets).map Prod.fst).Nodup := by
    rw [List.map_fst_zip hlen.ge]
    exact groupMembers_nodup
  have hdeskew : ∀ q ∈ g.zip offsets, u.obj (Obj.FRM_DESKEW q.1) = q.2 - earliest := fun q hq => s.obj_deskewed_same _ earliest hkeys hq
  have hstate : u.obj Obj.TB_BOND_STATE = s.obj Obj.TB_BOND_STATE := s.obj_deskewed_bond _ _ _ rfl
  have hne : ∀ e, Obj.FRM_DESKEW e ≠ Obj.TB_BOND_STATE := fun e => by simp
  by_cases h : s.misaligned g spread numbered
  · have hub : u.bond (g.headD 0) = g := (congrArg (bondOf · (g.headD 0)) (s.obj_deskewed_bond _ _ _ rfl)).trans hb
    have hbit := u.bit_declareLoa (g.headD 0) spread
    have hloa := u.declared_declareLoa (g.headD 0) spread
    rw [hub] at hbit hloa
    refine ⟨_, hbad h, fun q hq => ?_, fun hn => absurd h hn, fun _ => ⟨fun e he => ?_, hloa⟩, fun e he => ?_,
      hu.trans (u.declareLoa_sameButDeskew _ _)⟩
    · exact (u.obj_declareLoa _ _ (hne q.1)).trans (hdeskew q hq)
    · exact (hbit e).trans (if_pos he)
    · exact (hbit e).trans ((if_neg he).trans (congrArg (bit · e) hstate))
  · refine ⟨_, hgood h, fun q hq => ?_, fun _ => ⟨fun e he => ?_, u.declared_lockGroup g spread⟩, fun hn => absurd hn h, fun e he => ?_,
      hu.trans (u.lockGroup_sameButDeskew _ _)⟩
    · exact (u.obj_lockGroup _ _ (hne q.1)).trans (hdeskew q hq)
    · exact (u.bit_lockGroup g spread e).trans (if_pos he)
    · exact (u.bit_lockGroup g spread e).trans ((if_neg he).trans (congrArg (bit · e) hstate))

end

/-! ## The route of an overhead channel (R157, R159) -/

/-- A route with its reserved bit cleared is staged unless a field is reserved or the port cannot carry it. -/
theorem acceptFraming_route (index : Nat) (v : Val) (s : State) :
    let w := Nat.land v.v 0xFFF7FFFF
    let routes := w :: ((List.range 64).filter (· ≠ index)).map fun i => s.latest (Obj.OH_GCC_ROUTE i)
    let port := routeDest w
    acceptFraming (Obj.OH_GCC_ROUTE index) v s =
      if routeOn w = true ∧ (routeKind w = 3 ∨ 4 < port ∨ routeChannel w = 15 ∨ (routeKind w = 0 ∧ 127 < field w 18 0) ∨
          (port < 4 ∧ ohpBytes (s.latest (Obj.OHP_CLK port)) < s.portLoad routes port)) then (.range, s)
      else (.ok, s.stage (Obj.OH_GCC_ROUTE index) w) := by
  intro w routes port
  refine (ite_or _ _ _ _).symm.trans (if_congr ?_ rfl rfl)
  simp only [← and_or_left, or_assoc]
  rfl

/-! ## The frame of a port (R158, R159) -/

/-- What the line brings goes to the routes of the port. -/
def State.lineTakes (s : State) (port : Nat) (routes : List Nat) (received : List GccBytes) : State :=
  (received.filter fun b => routes.contains b.route).foldl (fun t b => t.routeLine port b) s

/-- The bytes of the board's records go to the routes of their channels. -/
def State.boardTakes (s : State) (port : Nat) (routes : List Nat) (channel : Nat → Nat) (records : List OhpRecord) : State :=
  records.foldl (fun u r => match routes.find? fun x => decide (channel x = r.channel) with
    | some x => u.gccPush port x 1 r.bytes
    | none => u) s

/-- The frame with the records that a port sends, and idle bytes to its end. -/
def State.ohpSends (port room : Nat) (sent : State × List Nat) : State :=
  { sent.1 with ohpSent := Map.set [] sent.1.ohpSent (Key.unit port) (sent.2 ++ List.replicate (room - sent.2.length) 0xFF) }

section
variable {port : Fin 4} {s : State}

theorem exec_ohpFrame_stopped (h : s.obj (Obj.OHP_CLK port) = 0) (records : List OhpRecord) (received : List GccBytes) :
    exec (.ohpFrame port records received) s = .next s := if_pos h

theorem exec_ohpFrame_running (h : s.obj (Obj.OHP_CLK port) ≠ 0) (records : List OhpRecord) (received : List GccBytes) :
    let routes := s.portRoutes port
    let channel := fun x => routeChannel (s.obj (Obj.OH_GCC_ROUTE x))
    let room := ohpBytes (s.obj (Obj.OHP_CLK port))
    exec (.ohpFrame port records received) s =
      .next (State.ohpSends port room (((s.lineTakes port routes received).boardTakes port routes channel records).ohpFill room routes)) := if_neg h

theorem State.lineTakes_unrouted (received : List GccBytes) : s.lineTakes port [] received = s := by
  simp [State.lineTakes]

theorem State.boardTakes_unrouted (channel : Nat → Nat) (records : List OhpRecord) : s.boardTakes port [] channel records = s :=
  List.foldlRecOn (motive := (· = s)) records _ rfl fun _ ht _ _ => ht

/-- A record of a routed channel goes to its route. -/
theorem State.boardTakes_single (x : Nat) (channel : Nat → Nat) (bytes : List Nat) :
    s.boardTakes port [x] channel [⟨channel x, bytes⟩] = s.gccPush port x 1 bytes := by
  simp [State.boardTakes]

/-- The record that a route sends: as many waiting bytes as a record, and the frame, hold. -/
def State.recordLength (s : State) (room x : Nat) : Nat := min (min (Map.get [] s.gccOut (Key.unit x)).length 15) (room - 1)

theorem State.ohpFill_single {room x : Nat} (h : 0 < s.recordLength room x) : s.ohpFill room [x] =
    ({ s with gccOut := Map.set [] s.gccOut (Key.unit x) ((Map.get [] s.gccOut (Key.unit x)).drop (s.recordLength room x)) },
      (routeChannel (s.obj (Obj.OH_GCC_ROUTE x)) * 16 + s.recordLength room x) ::
        (Map.get [] s.gccOut (Key.unit x)).take (s.recordLength room x)) := by
  refine (if_neg h.ne').trans ?_
  simp only [List.append_nil]
  rfl

/-- Sending touches only the bytes that wait for the board. -/
theorem State.ohpFill_frame (routes : List Nat) (room : Nat) (s : State) : ∃ gccOut, (s.ohpFill room routes).1 = { s with gccOut } := by
  induction routes generalizing room s with
  | nil => exact ⟨s.gccOut, rfl⟩
  | cons x xs ih =>
    unfold State.ohpFill
    extract_lets buf n head t
    split
    · exact ih room s
    · obtain ⟨gccOut, h⟩ := ih (room - n - 1) t
      exact ⟨gccOut, h⟩

theorem State.ohpSends_keeps (port room : Nat) (routes : List Nat) (s : State) :
    let t := State.ohpSends port room (s.ohpFill room routes)
    t.gccIn = s.gccIn ∧ t.reg = s.reg := by
  obtain ⟨gccOut, h⟩ := State.ohpFill_frame routes room s
  exact ⟨(congrArg State.gccIn h :), (congrArg State.reg h :)⟩

/-- What the board sends to a route: the buffer takes 64 bytes, and the rest is counted (R159). -/
theorem State.gccPush_toLine (s : State) (port x : Nat) (bytes : List Nat) :
    let board := Map.get [] s.gccIn (Key.unit x)
    let t := s.gccPush port x 1 bytes
    Map.get [] t.gccIn (Key.unit x) = (board ++ bytes).take 64 ∧
    t.obj (Obj.OH_GCC_DROP x) = (if board.length + bytes.length ≤ 64 then s.obj (Obj.OH_GCC_DROP x)
      else u64 (s.obj (Obj.OH_GCC_DROP x) + (board.length + bytes.length - 64))) := by
  intro board t
  have hlost : (board ++ bytes).length - ((board ++ bytes).take 64).length = board.length + bytes.length - 64 := by
    rw [List.length_take, List.length_append]; omega
  let u : State := { s with gccIn := Map.set [] s.gccIn (Key.unit x) ((board ++ bytes).take 64) }
  have hget : Map.get [] u.gccIn (Key.unit x) = (board ++ bytes).take 64 := Map.get_set_same _ _ _ _
  by_cases h : board.length + bytes.length ≤ 64
  · have ht : t = u := if_pos (hlost.trans (Nat.sub_eq_zero_of_le h))
    rw [ht, if_pos h]
    exact ⟨hget, rfl⟩
  · have ht : t.gccIn = u.gccIn ∧ t.reg = (u.bump (Obj.OH_GCC_DROP x) (board.length + bytes.length - 64)).reg := by
      unfold t State.gccPush
      extract_lets buf kept lost v w
      have hl : lost = board.length + bytes.length - 64 := hlost
      have hv : v = u := rfl
      rw [if_neg (by omega), ← hl, ← hv]
      split
      · exact ⟨rfl, rfl⟩
      · exact ⟨rfl, rfl⟩
    obtain ⟨hin, hreg⟩ := ht
    rw [hin, State.obj_eq hreg, if_neg h]
    exact ⟨hget, State.obj_bump_same u _ _⟩

end

/-- Settles O29: the deskew by whether the group is misaligned, the route by its checks, and the frame by the routes of the port. -/
theorem bondedGroupsAndOverhead : Obligations.BondedGroupsAndOverhead := by
  refine ⟨fun group offsets numbered s => ?_, fun rq x index val v s h => ?_, fun port s => ⟨exec_ohpFrame_stopped, fun hc hr records received => ?_,
    fun x hc hr => ?_⟩⟩
  · intro g first earliest spread hb hlen hl
    obtain ⟨t, ht, hdeskew, hgood, hbad, hothers, hframe⟩ := exec_bondDeskew_spec hb hlen hl numbered
    refine ⟨t, ht, hdeskew, fun hs hn ⟨e, he, hbit⟩ => hgood ?_, fun hs => hbad ?_, hothers, hframe⟩
    · rintro (hwide | hnum | ⟨hall, -⟩)
      · exact absurd hwide hs.not_gt
      · exact hnum hn
      · exact absurd (List.all_eq_true.mp hall e he) (by simp [hbit])
    · rcases hs with hwide | hnum
      · exact .inl hwide
      · exact .inr (.inl (by simp [hnum]))
  · intro u w routes port
    have g := acceptFraming_route index v u
    refine congrArg Host.Outcome.next ?_
    split
    case isTrue hr => exact serveWrite_refused h acceptFraming (g.trans (if_pos hr))
    case isFalse hr => exact serveWrite_accepted h acceptFraming (g.trans (if_neg hr))
  · rw [exec_ohpFrame_running hc, hr, State.lineTakes_unrouted, State.boardTakes_unrouted]
    rfl
  · intro waiting n board sent
    have hrun := exec_ohpFrame_running hc
    rw [hr] at hrun
    refine ⟨fun hn => (hrun [] []).trans ?_, fun bytes => ⟨_, (hrun _ []), ?_⟩⟩
    · exact congrArg (fun y => Host.Outcome.next (State.ohpSends port _ y)) (State.ohpFill_single hn)
    · have htake : State.boardTakes (s.lineTakes port [x] []) port [x] (fun i => routeChannel (s.obj (Obj.OH_GCC_ROUTE i)))
          [⟨routeChannel (s.obj (Obj.OH_GCC_ROUTE x)), bytes⟩] = s.gccPush port x 1 bytes := State.boardTakes_single x _ bytes
      obtain ⟨hin, hreg⟩ := State.ohpSends_keeps port (ohpBytes (s.obj (Obj.OHP_CLK port))) [x] (s.gccPush port x 1 bytes)
      obtain ⟨hboard, hdrop⟩ := s.gccPush_toLine port x bytes
      rw [htake, hin, State.obj_eq hreg]
      exact ⟨hboard, hdrop⟩

end Sys2Proof.Machine
end

section
/-! PROOFS. The line receiver as the optics see it: what leaving lock, going dark and acquiring leave alone, where the receiver then stands, and dLOS of
the line. -/

namespace Sys2Proof.Machine

/-! ## What the receivers leave to the optics -/

/-- What the receivers and the references that follow them leave to the optics: the objects of class 0x10, dLOS of the engines, and their
calibrations. -/
structure OpticsView where
  obj : Key → Nat
  los : Nat → Bool
  cal : Nat → Option (Nat × CalPhase)

def State.optics (s : State) : OpticsView :=
  ⟨fun k => if k.c = 0x10 then s.obj k else 0, s.declared Df.los, fun e => (s.engine e).cal⟩

section
variable {s t : State}

theorem State.obj_of_optics (h : t.optics = s.optics) {k : Key} (hk : k.c = 0x10) : t.obj k = s.obj k := by
  have g := congrFun (congrArg OpticsView.obj h) k
  simpa [State.optics, hk] using g

theorem State.los_of_optics (h : t.optics = s.optics) (e : Nat) : t.declared Df.los e = s.declared Df.los e := congrFun (congrArg OpticsView.los h) e

theorem State.cal_of_optics (h : t.optics = s.optics) (e : Nat) : (t.engine e).cal = (s.engine e).cal := congrFun (congrArg OpticsView.cal h) e

end

section
variable (s : State) (e : Nat)

@[simp] theorem State.optics_setObj {k : Key} (v : Nat) (h : k.c ≠ 0x10) : (s.setObj k v).optics = s.optics := by
  have hk : ∀ k', k'.c = 0x10 → (s.setObj k v).obj k' = s.obj k' := fun k' hc => State.obj_setObj_ne s v fun g => h (g ▸ hc)
  simp +contextual [State.optics, hk]
  rfl

@[simp] theorem State.optics_setInt {k : Key} (z : Int) (h : k.c ≠ 0x10) : (s.setInt k z).optics = s.optics := s.optics_setObj _ h

@[simp] theorem State.optics_withEngine {f : Engine → Engine} (h : ∀ r, (f r).cal = r.cal) : (s.withEngine e f).optics = s.optics := by
  have hcal : ∀ i, ((s.withEngine e f).engine i).cal = (s.engine i).cal := fun i => by
    by_cases hi : i = e
    · rw [hi, State.engine_withEngine_same, h]
    · rw [State.engine_withEngine_ne s f hi]
  simp only [State.optics, hcal]
  rfl

@[simp] theorem State.optics_raise (ev : EvRow) (xs : List Nat) : (s.raise ev xs).optics = s.optics := rfl
@[simp] theorem State.optics_drawn : s.drawn.optics = s.optics := rfl
@[simp] theorem State.optics_withRef (r : Nat) (f : Ref → Ref) : (s.withRef r f).optics = s.optics := rfl

@[simp] theorem State.optics_clear {d : Nat} (i : Nat) (h : d ≠ Df.los) : (s.clear d i).optics = s.optics := by
  simp [State.optics, funext_iff, State.declared_clear, Ne.symm h]

theorem State.optics_refreshLevel (r : Nat) : (s.refreshLevel r).optics = s.optics := by
  unfold State.refreshLevel
  extract_lets old new
  split
  · rfl
  · exact s.optics_setObj _ (by simp)

theorem State.optics_setRefState (r new : Nat) : (s.setRefState r new).optics = s.optics := by
  unfold State.setRefState
  extract_lets old
  split
  · rfl
  · exact (State.optics_refreshLevel _ r).trans (s.optics_setObj _ (by simp))

theorem State.optics_freezeTrackers (r : Nat) : (s.freezeTrackers r).optics = s.optics := by
  refine List.foldlRecOn (motive := fun t : State => t.optics = s.optics) _ _ rfl fun t ht d _ => ?_
  split
  · exact ht
  · exact ht

theorem State.optics_failRef (r : Nat) : (s.failRef r).optics = s.optics := by
  unfold State.failRef
  split
  · rfl
  · extract_lets x t
    have ht : t.optics = s.optics := by
      unfold t; split
      · exact s.optics_setObj _ (by simp)
      · rfl
    rw [State.optics_freezeTrackers, State.optics_setRefState, State.optics_withRef, ht]

theorem State.optics_storeRx : (s.storeRx e).optics = s.optics := by simp [State.storeRx]

theorem State.optics_followFixed : (s.followFixed e).optics = s.optics := by
  unfold State.followFixed
  split
  · exact s.optics_setInt _ (by simp)
  · rfl

theorem State.optics_restoreRx : (s.restoreRx e).optics = s.optics := by
  unfold State.restoreRx
  split
  · simp [State.optics_followFixed]
  · rfl

theorem State.optics_closeTransient : (s.closeTransient e).optics = s.optics := by
  unfold State.closeTransient
  extract_lets r t
  have ht : t.optics = s.optics := s.optics_setObj _ (by simp)
  split
  · rfl
  · split
    · exact ht
    · rw [State.optics_raise, State.optics_setObj t _ (by simp), ht]

theorem State.optics_loseTransient : (s.loseTransient e).optics = s.optics := by
  unfold State.loseTransient
  extract_lets t
  have ht : t.optics = s.optics := s.optics_closeTransient e
  split
  · exact ht
  · exact ht

theorem State.optics_unbond : (s.unbond e).optics = s.optics := s.optics_setObj _ (by simp)

theorem State.optics_leaveLock : (s.leaveLock e).optics = s.optics := by
  unfold State.leaveLock
  split
  · extract_lets t u
    have ht : t.optics = s.optics := by simp [t, State.optics_loseTransient, State.optics_storeRx]
    simp [u, State.optics_failRef, State.optics_unbond, ht, Df.los, Df.lof, Df.lom]
  · rfl

theorem State.optics_toDark : (s.toDark e).optics = s.optics := by
  unfold State.toDark
  split
  · rfl
  · simp [State.setReceiver, State.optics_leaveLock, clearHunters, Df.los, Df.lol]

theorem State.optics_toOff : (s.toOff e).optics = s.optics := by
  simp [State.toOff, State.setReceiver, State.optics_leaveLock, clearHunters, Df.los, Df.lol]

theorem State.optics_acquire (cls : Nat) : (s.acquire e cls).optics = s.optics := by
  unfold State.acquire
  extract_lets t u
  have hu : u.optics = s.optics := by simp [u, t, State.setReceiver, State.optics_leaveLock, clearHunters]
  split
  · exact (u.optics_restoreRx e).trans hu
  · exact (u.optics_followFixed e).trans hu

/-! ## Where the receiver stands (R106, R107) -/

theorem State.receiver_followFixed (i : Nat) : (s.followFixed e).receiver i = s.receiver i := by
  unfold State.followFixed
  split
  · exact s.obj_setInt_ne _ (by simp)
  · rfl

theorem State.receiver_restoreRx (i : Nat) : (s.restoreRx e).receiver i = s.receiver i := by
  unfold State.restoreRx
  split
  · exact (State.receiver_followFixed _ e i).trans (by simp [State.receiver])
  · rfl

/-- An acquisition starts in the state of its class. -/
theorem State.receiver_acquire (cls : Nat) : (s.acquire e cls).receiver e = if cls = 1 then 2 else if cls = 3 then 4 else 3 := by
  unfold State.acquire
  extract_lets t u
  have hu : u.receiver e = if cls = 1 then 2 else if cls = 3 then 4 else 3 := by simp [u, t, State.receiver, State.setReceiver]
  rw [← hu]
  split
  · exact u.receiver_restoreRx e e
  · exact u.receiver_followFixed e e

theorem State.receiver_acquire_mem (cls : Nat) : (s.acquire e cls).receiver e ∈ [2, 3, 4] := by
  rw [State.receiver_acquire]
  split
  · simp
  · split <;> simp

theorem State.engine_followFixed (i : Nat) : (s.followFixed e).engine i = s.engine i := by
  unfold State.followFixed
  split <;> rfl

theorem State.trigger_restoreRx : ((s.restoreRx e).engine e).trigger = (s.engine e).trigger := by
  unfold State.restoreRx
  split
  · rw [State.engine_followFixed, State.engine_withEngine_same]; rfl
  · rfl

/-- The tick in which an acquisition starts is its trigger tick. -/
theorem State.trigger_acquire (cls : Nat) : ((s.acquire e cls).engine e).trigger = s.now := by
  unfold State.acquire
  extract_lets t u
  have hu : (u.engine e).trigger = s.now := congrArg Engine.trigger (t.engine_withEngine_same e _)
  split
  · exact (u.trigger_restoreRx e).trans hu
  · exact (congrArg Engine.trigger (u.engine_followFixed e e)).trans hu

theorem State.receiver_toDark : (s.toDark e).receiver e = if s.receiver e = 0 then 0 else 1 := by
  unfold State.toDark
  split
  case isTrue h => exact h
  case isFalse => simp [State.receiver, State.setReceiver]

theorem State.lol_toDark (h : s.receiver e ≠ 0) : (s.toDark e).declared Df.lol e = false := by
  unfold State.toDark
  rw [if_neg h, State.declared_withEngine, State.declared_clear_same]

theorem State.leaveDark_of_dark (h : s.receiver e = 1) : ∃ cls, s.leaveDark e = s.acquire e cls := ⟨_, if_pos h⟩

theorem State.leaveDark_of_lit (h : s.receiver e ≠ 1) : s.leaveDark e = s := if_neg h

theorem State.optics_leaveDark : (s.leaveDark e).optics = s.optics := by
  unfold State.leaveDark
  split
  · exact s.optics_acquire e _
  · rfl

end

/-! ## dLOS of the line (R58, R123) -/

theorem State.receiver_declare (s : State) (d i e : Nat) : (s.declare d i).receiver e = s.receiver e := s.obj_declare d i _

theorem State.receiver_clear (s : State) (d i e : Nat) : (s.clear d i).receiver e = s.receiver e := s.obj_clear d i _

/-- Settles O19: with the domain On the power alone decides; going dark and acquiring leave dLOS as it was declared or cleared. -/
theorem lineLosFollowsThePower : Obligations.LineLosFollowsThePower := by
  intro e power s hon
  refine ⟨fun ns hpower hns => ?_, fun ticks hlos hcal hpower hticks => ?_⟩
  · refine ⟨(s.declare Df.los e).toDark e, if_pos ⟨hon, hpower, hns⟩, ?_, ?_, fun hr => ?_⟩
    · rw [State.los_of_optics (State.optics_toDark _ e), State.declared_declare_same]
    · rw [State.receiver_toDark, State.receiver_declare]
    · exact State.lol_toDark _ e (by rwa [State.receiver_declare])
  · refine ⟨(s.clear Df.los e).leaveDark e, if_pos ⟨hon, hlos, by simp [hcal], hpower, hticks⟩, ?_, fun hr => ?_, fun hr => ?_⟩
    · rw [State.los_of_optics (State.optics_leaveDark _ e), State.declared_clear_same]
    · rw [State.leaveDark_of_lit _ e (by rwa [State.receiver_clear]), State.receiver_clear]
    · obtain ⟨cls, hacq⟩ := (s.clear Df.los e).leaveDark_of_dark e (by rwa [State.receiver_clear])
      rw [hacq]
      exact ⟨State.receiver_acquire_mem _ e cls, (State.trigger_acquire _ e cls).trans (s.now_clear _ _)⟩

end Sys2Proof.Machine
end

section
/-! PROOFS. The optics: the transaction of LSPI, and what each measurement of the lasers, the output, the receiver and the references shows. -/

namespace Sys2Proof.Machine

/-! ## LSPI (R51, R492) -/

/-- A write of LSPI_XFER, check by check. -/
theorem acceptOptics_lspi (e : Nat) (v : Val) (s : State) : acceptOptics (Obj.LSPI_XFER e) v s =
    if s.padHeld e then (.precond, s) else if (s.engine e).lspiBusy then (.busy, s)
    else (.ok, (s.withEngine e fun r => { r with lspiBusy := true, lspiOut := v }).setObj (Obj.LSPI_STATUS e) 1) := rfl

/-- The end of a transaction shows its status and what was received, and touches nothing else. -/
theorem exec_lspiDone_busy {e : Fin 4} {s : State} (h : (s.engine e).lspiBusy = true) (received : Nat) : exec (.lspiDone e received) s =
    .next (((s.withEngine e fun r => { r with lspiBusy := false }).setObj (Obj.LSPI_RESULT e) (lspiResult (s.engine e).lspiOut received)).setObj
      (Obj.LSPI_STATUS e) 2) := if_pos h

theorem exec_lspiDone_idle {e : Fin 4} {s : State} (h : (s.engine e).lspiBusy = false) (received : Nat) : exec (.lspiDone e received) s = .next s :=
  if_neg (by simp [h])

/-- Two objects written after an engine: a state that differs in objects and engines alone. -/
theorem State.eq_objects_engine (s : State) (e : Nat) (f : Engine → Engine) (k k' : Key) (v v' : Nat) :
    ((s.withEngine e f).setObj k v).setObj k' v' = { s with
      reg := (((s.withEngine e f).setObj k v).setObj k' v').reg, eng := (((s.withEngine e f).setObj k v).setObj k' v').eng } := by
  cases s
  rfl

/-- Settles O18: the write meets the held pads before the transaction under way, and the end of one writes two objects and its own engine. -/
theorem lspiRunsOneTransaction : Obligations.LspiRunsOneTransaction := by
  refine fun e s => ⟨fun rq x val v h => ?_, fun received => ⟨fun hb => exec_lspiDone_idle hb received, fun hb => ?_⟩⟩
  · intro u
    have hpad : u.padHeld e = decide (s.obj (Obj.PWR_PAD_HELD e) = 1) := by simp [State.padHeld, u]
    have heng : u.engine e = s.engine e := s.engine_served rq x e
    have g := acceptOptics_lspi e v u
    rw [hpad, heng] at g
    refine ⟨fun hheld => ?_, fun hheld hb => ?_, fun hheld hb => ?_⟩
    · exact congrArg Host.Outcome.next (serveWrite_refused h acceptOptics (g.trans (if_pos (decide_eq_true hheld))))
    · refine congrArg Host.Outcome.next (serveWrite_refused h acceptOptics (t := u) (g.trans ?_))
      rw [if_neg (by simp [hheld]), if_pos hb]
    · refine congrArg Host.Outcome.next (serveWrite_accepted h acceptOptics (g.trans ?_))
      rw [if_neg (by simp [hheld]), if_neg (by simp [hb])]
  · refine ⟨_, exec_lspiDone_busy hb received, by simp, by simp, by simp, fun k hr hs => ?_, fun i hi => by simp [hi], State.eq_objects_engine ..⟩
    rw [State.obj_setObj_ne _ _ hs, State.obj_setObj_ne _ _ hr, State.obj_withEngine]

/-! ## The output follows its conditions (R54) -/

section
variable (s : State) (e : Nat)

@[simp] theorem State.obj_refreshTx (k : Key) : (s.refreshTx e).obj k = s.obj k := by
  unfold State.refreshTx
  extract_lets dark r
  split
  · rfl
  · split <;> rfl

@[simp] theorem State.changes_refreshTx : (s.refreshTx e).changes = s.changes := by
  unfold State.refreshTx
  extract_lets dark r
  split
  · rfl
  · split <;> rfl

/-- The output is dark where a condition of R54 holds, and only there. -/
theorem State.dark_refreshTx : ((s.refreshTx e).engine e).dark = s.txDark e := by
  unfold State.refreshTx
  cases hd : s.txDark e
  case true => simp
  case false =>
    cases hr : (s.engine e).dark <;> simp [hr]

theorem State.squelched_refreshTx : ((s.refreshTx e).engine e).squelched = (s.engine e).squelched := by
  unfold State.refreshTx
  extract_lets dark r
  split
  · simp [r]
  · split
    · simp [r]
    · rfl

/-! ## The bias loops (R52, R53) -/

/-- The loops that were locked, of those that lose lock. -/
def State.lostLoops (loops : Nat) : Nat := Nat.land (s.obj (Obj.OPT_BIAS_STATE e)) loops

theorem clearBits_zero (v : Nat) : clearBits v 0 = v := bit_ext fun b => by simp [bit_clearBits, bit_zero]

variable {s e} in
theorem State.loseBias_none {loops : Nat} (h : s.lostLoops e loops = 0) : s.loseBias e loops = s := if_pos h

variable {s e} in
/-- Loops that lose lock clear their bits and are reported; under SQUELCH the output follows. -/
theorem State.loseBias_some {loops : Nat} (h : s.lostLoops e loops ≠ 0) : s.loseBias e loops =
    let t := (s.setObj (Obj.OPT_BIAS_STATE e) (clearBits (s.obj (Obj.OPT_BIAS_STATE e)) (s.lostLoops e loops))).raise Ev.BIAS_UNLOCK [e, s.lostLoops e loops]
    if s.obj (Obj.OPT_BIAS_FAIL_ACTION e) = 1 then (t.withEngine e fun r => { r with squelched := true }).refreshTx e else t := if_neg h

theorem State.obj_loseBias_same (loops : Nat) :
    (s.loseBias e loops).obj (Obj.OPT_BIAS_STATE e) = clearBits (s.obj (Obj.OPT_BIAS_STATE e)) (s.lostLoops e loops) := by
  by_cases h : s.lostLoops e loops = 0
  · rw [State.loseBias_none h, h]; simp [clearBits_zero]
  · rw [State.loseBias_some h]
    dsimp only
    split <;> simp

theorem State.obj_loseBias_ne (loops : Nat) {k : Key} (hk : k ≠ Obj.OPT_BIAS_STATE e) : (s.loseBias e loops).obj k = s.obj k := by
  by_cases h : s.lostLoops e loops = 0
  · rw [State.loseBias_none h]
  · rw [State.loseBias_some h]
    dsimp only
    split <;> simp [hk]

variable {s e} in
theorem State.changes_loseBias {loops : Nat} (h : s.lostLoops e loops ≠ 0) : (s.loseBias e loops).changes =
    s.changes ++ [⟨Ev.BIAS_UNLOCK.code, false, s.tick, contentOf [2, 4] [e, s.lostLoops e loops]⟩] := by
  rw [State.loseBias_some h]
  dsimp only
  split
  · rw [State.changes_refreshTx]; rfl
  · rfl

/-- Of loops that have lost lock none reads locked. -/
theorem bit_loseBias {loops b : Nat} (h : bit loops b = true) : bit ((s.loseBias e loops).obj (Obj.OPT_BIAS_STATE e)) b = false := by
  rw [State.obj_loseBias_same, bit_clearBits, State.lostLoops, bit_land, h]
  simp

theorem bit_allLoops {b : Nat} (h : b < 6) : bit 0x3F b = true := by
  revert b
  decide

end

/-! ## LASER-TX in (R50, R52) -/

section
variable {s : State} {e : Fin 4} {power : Int}

theorem State.laserTxReads_enough (h : 600 ≤ power) (e : Nat) : s.laserTxReads e power = s.setInt (Obj.OPT_LASER_TX_MEAS e) power :=
  if_neg (not_lt.mpr h)

theorem State.laserTxReads_low (h : power < 600) (e : Nat) :
    s.laserTxReads e power = (s.setInt (Obj.OPT_LASER_TX_MEAS e) power).loseBias e 0x3F := if_pos h

/-- A crossing of the range of LASER-TX in that has lasted 8 ticks is reported on top of the reading. -/
theorem exec_laserRangeChange_tx (e : Fin 4) (power : Int) (ticks : Nat) (s : State) : exec (.laserRangeChange e 0 power ticks) s =
    if 8 ≤ ticks ∧ (decide (1600 ≤ power) && decide (power ≤ 2100)) ≠ (s.engine e).laserTxIn then
      .next (((s.laserTxReads e power).withEngine e fun r => { r with laserTxIn := decide (1600 ≤ power) && decide (power ≤ 2100) }).raise
        Ev.LASER_RANGE [e, 0, encode 4 power])
    else .next (s.laserTxReads e power) := rfl

/-- A crossing of the range of LASER-LO in that has lasted 8 ticks is reported on top of the reading. -/
theorem exec_laserRangeChange_lo (e : Fin 4) (power : Int) (ticks : Nat) (s : State) : exec (.laserRangeChange e 1 power ticks) s =
    if 8 ≤ ticks ∧ (decide (1600 ≤ power) && decide (power ≤ 2100)) ≠ (s.engine e).laserLoIn then
      .next (((s.setInt (Obj.OPT_LASER_LO_MEAS e) power).withEngine e fun r => { r with laserLoIn := decide (1600 ≤ power) && decide (power ≤ 2100) }).raise
        Ev.LASER_RANGE [e, 1, encode 4 power])
    else .next (s.setInt (Obj.OPT_LASER_LO_MEAS e) power) := rfl

/-- A command that reads LASER-TX in too low does what the reading does, and a crossing of the range comes on top. -/
theorem exec_laserTxReads_low {c : Instr} {ticks loops : Nat} (hc : c ∈ [Instr.laserRangeChange e 0 power ticks, .biasLoopLock e loops power])
    (h : power < 600) : ∃ t : State, exec c s = .next t ∧ t.reg = (s.laserTxReads e power).reg ∧ (s.laserTxReads e power).changes ⊆ t.changes := by
  simp only [List.mem_cons, List.not_mem_nil, or_false] at hc
  rcases hc with rfl | rfl
  · rw [exec_laserRangeChange_tx]
    split
    · exact ⟨_, rfl, rfl, List.subset_append_left _ _⟩
    · exact ⟨_, rfl, rfl, List.Subset.refl _⟩
  · exact ⟨_, if_pos (.inl h), rfl, List.Subset.refl _⟩

/-- The reading itself: it shows, no loop stays locked, and those that were locked are reported. -/
theorem State.laserTxReads_low_spec (h : power < 600) (e : Nat) :
    (s.laserTxReads e power).obj (Obj.OPT_LASER_TX_MEAS e) = encode 4 power ∧
    (∀ b, b < 6 → bit ((s.laserTxReads e power).obj (Obj.OPT_BIAS_STATE e)) b = false) ∧
    (s.lostLoops e 0x3F ≠ 0 → ⟨Ev.BIAS_UNLOCK.code, false, s.tick, contentOf [2, 4] [e, s.lostLoops e 0x3F]⟩ ∈ (s.laserTxReads e power).changes) := by
  rw [State.laserTxReads_low h]
  refine ⟨?_, fun b hb => bit_loseBias _ e (bit_allLoops hb), fun hl => ?_⟩
  · rw [State.obj_loseBias_ne _ e _ (by simp), State.obj_setInt_same]
  · have hsame : (s.setInt (Obj.OPT_LASER_TX_MEAS e) power).lostLoops e 0x3F = s.lostLoops e 0x3F := by simp [State.lostLoops]
    rw [State.changes_loseBias (hsame.trans_ne hl), hsame]
    exact List.mem_append_right _ (List.mem_singleton.mpr rfl)

/-- Loops lock while the domain is On, with enough power (R79). -/
theorem exec_biasLoopLock_enough (h : 600 ≤ power) (loops : Nat) : exec (.biasLoopLock e loops power) s =
    .next (if s.domOn e then ((s.setInt (Obj.OPT_LASER_TX_MEAS e) power).setObj (Obj.OPT_BIAS_STATE e)
        (Nat.lor (s.obj (Obj.OPT_BIAS_STATE e)) (loops % 64))).refreshTx e
      else s.setInt (Obj.OPT_LASER_TX_MEAS e) power) := by
  rw [← State.laserTxReads_enough h e]
  split
  case isTrue hon => exact if_neg (by simp [h, hon])
  case isFalse hon => exact if_pos (.inr hon)

end

/-! ## The checks of running calibrations (R68, R70) -/

section
variable {σ α : Type} {P Q : σ → Prop} {f : σ → α → σ} {a : α}

/-- Updates taken one after the other reach what the update of `a` brings about, where the others before it leave its premise alone and none after it undoes
it. -/
theorem foldl_reaches (hbefore : ∀ t b, b ≠ a → P t → P (f t b)) (hat : ∀ t, P t → Q (f t a)) (hafter : ∀ t b, Q t → Q (f t b)) {l : List α}
    (ha : a ∈ l) {s : σ} (hs : P s) : Q (l.foldl f s) := by
  induction l generalizing s with
  | nil => cases ha
  | cons b l ih =>
    by_cases h : b = a
    · subst h
      exact List.foldlRecOn (motive := Q) l f (hat s hs) fun t ht c _ => hafter t c ht
    · exact ih (List.mem_of_ne_of_mem (Ne.symm h) ha) (hbefore s b h hs)

end

section
variable {s : State} {e : Nat} {power : Int}

@[simp] theorem State.obj_calAbortCheck (s : State) (e : Nat) (power : Int) (k : Key) : (s.calAbortCheck e power).obj k = s.obj k := by
  unfold State.calAbortCheck
  split
  · split
    · rfl
    · rw [State.obj_raise, State.obj_stage, State.obj_withEngine]
  · rfl

theorem State.engine_calAbortCheck_ne {i : Nat} (h : i ≠ e) : (s.calAbortCheck e power).engine i = s.engine i := by
  unfold State.calAbortCheck
  split
  · split
    · rfl
    · rw [State.engine_raise, State.engine_stage, s.engine_withEngine_ne _ h]
  · rfl

theorem State.calAbortCheck_idle (h : (s.engine e).cal = none) : s.calAbortCheck e power = s := by
  unfold State.calAbortCheck
  rw [h]

/-- A run whose check holds goes on. -/
theorem State.calAbortCheck_holds {kind start : Nat} (h : (s.engine e).cal = some (kind, .running start)) (hc : s.calCheck e kind power = none) :
    s.calAbortCheck e power = s := by
  unfold State.calAbortCheck
  rw [h]
  simp only [hc]

/-- A run whose check fails is over. -/
theorem State.cal_calAbortCheck_fails {kind start code : Nat} (h : (s.engine e).cal = some (kind, .running start))
    (hc : s.calCheck e kind power = some code) : ((s.calAbortCheck e power).engine e).cal = none := by
  unfold State.calAbortCheck
  rw [h]
  simp only [hc]
  rw [State.engine_raise, State.engine_stage, State.engine_withEngine_same]

theorem State.obj_calChecks (s : State) (k : Key) : s.calChecks.obj k = s.obj k := by
  unfold State.calChecks
  refine List.foldlRecOn (motive := fun t : State => t.obj k = s.obj k) _ _ rfl fun t ht e _ => ?_
  exact (t.obj_calAbortCheck e _ k).trans ht

theorem State.calChecks_idle (h : ∀ i : Fin 4, (s.engine i).cal = none) : s.calChecks = s := by
  unfold State.calChecks
  refine List.foldlRecOn (motive := fun t : State => t = s) _ _ rfl fun t ht e he => ?_
  have hlt : e < 4 := by simp only [List.mem_cons, List.not_mem_nil, or_false] at he; omega
  rw [ht]
  exact State.calAbortCheck_idle (h ⟨e, hlt⟩)

/-- A reference calibration needs both references in range. -/
theorem State.calCheck_reference_fails (h : ¬ (bit (s.obj Obj.CNV_REF_STATUS) 0 = true ∧ bit (s.obj Obj.CNV_REF_STATUS) 1 = true)) (e : Nat) (power : Int) :
    ∃ code, s.calCheck e 3 power = some code := by
  by_cases h0 : bit (s.obj Obj.CNV_REF_STATUS) 0 = true
  · exact ⟨7, (if_neg (not_not.mpr h0)).trans (if_pos fun h1 => h ⟨h0, h1⟩)⟩
  · exact ⟨6, if_pos h0⟩

/-- The reference calibration of any engine is over once a reference is out of range. -/
theorem State.cal_calChecks_reference {start : Nat} (he : e < 4) (h : (s.engine e).cal = some (3, .running start))
    (hbits : ¬ (bit (s.obj Obj.CNV_REF_STATUS) 0 = true ∧ bit (s.obj Obj.CNV_REF_STATUS) 1 = true)) : (s.calChecks.engine e).cal = none := by
  unfold State.calChecks
  refine foldl_reaches (a := e) (P := fun t : State => t.obj Obj.CNV_REF_STATUS = s.obj Obj.CNV_REF_STATUS ∧ (t.engine e).cal = some (3, .running start))
    (Q := fun t : State => (t.engine e).cal = none) (fun t i hi ⟨hr, hcal⟩ => ?_) (fun t ⟨hr, hcal⟩ => ?_) (fun t i hcal => ?_) ?_ ⟨rfl, h⟩
  · exact ⟨(t.obj_calAbortCheck i _ _).trans hr, (congrArg Engine.cal (State.engine_calAbortCheck_ne (Ne.symm hi))).trans hcal⟩
  · obtain ⟨code, hcode⟩ := State.calCheck_reference_fails (hr ▸ hbits) e (t.objInt (Obj.OPT_RX_POWER_MEAS e))
    exact State.cal_calAbortCheck_fails hcal hcode
  · by_cases hi : i = e
    · subst hi
      rwa [State.calAbortCheck_idle hcal]
    · rwa [State.engine_calAbortCheck_ne (Ne.symm hi)]
  · simp only [List.mem_cons, List.not_mem_nil, or_false]
    omega

end

/-! ## The references (R62) -/

/-- The two bits of CNV_REF_STATUS. -/
theorem bit_refStatus (refin clk : Bool) : bit (refin.toNat + 2 * clk.toNat) 0 = refin ∧ bit (refin.toNat + 2 * clk.toNat) 1 = clk := by
  cases refin <;> cases clk <;> decide

/-- Both references in range read 3. -/
theorem refStatus_of_bits {refin clk : Bool} (h : bit (refin.toNat + 2 * clk.toNat) 0 = true ∧ bit (refin.toNat + 2 * clk.toNat) 1 = true) :
    refin.toNat + 2 * clk.toNat = 3 := by
  obtain ⟨h0, h1⟩ := bit_refStatus refin clk
  rw [h0.symm.trans h.1, h1.symm.trans h.2]
  rfl

/-- A reading of the references is shown, with an event where their status changes, and the calibrations that run are checked with it. -/
theorem State.referenceReads_shown (s : State) (microvolts : Nat) (clk : Bool) : ∃ u : State, s.referenceReads microvolts clk = u.calChecks ∧
    u.obj Obj.CNV_REFIN_MEAS = microvolts ∧
    u.obj Obj.CNV_REF_STATUS = (decide (2487500 ≤ microvolts) && decide (microvolts ≤ 2512500)).toNat + 2 * clk.toNat ∧
    (∀ e, u.engine e = s.engine e) ∧ (u.obj Obj.CNV_REF_STATUS = s.obj Obj.CNV_REF_STATUS → u.changes = s.changes) := by
  unfold State.referenceReads
  extract_lets refin v t
  have hmeas : t.obj Obj.CNV_REFIN_MEAS = microvolts := by simp [t]
  have href : t.obj Obj.CNV_REF_STATUS = v := by simp [t]
  refine ⟨_, rfl, ?_⟩
  split
  case isTrue => exact ⟨hmeas, href, fun _ => rfl, fun _ => rfl⟩
  case isFalse hne => exact ⟨hmeas, href, fun _ => rfl, fun hsame => absurd (href.symm.trans hsame) hne⟩

/-- REF_RANGE_CHANGE (R62, R70): the reading shows in its two objects, and a reference out of range ends the reference calibrations. -/
theorem State.referenceReads_spec (s : State) (e : Fin 4) (microvolts : Nat) (clk : Bool) :
    let t := s.referenceReads microvolts clk
    t.obj Obj.CNV_REFIN_MEAS = microvolts ∧
    bit (t.obj Obj.CNV_REF_STATUS) 0 = (decide (2487500 ≤ microvolts) && decide (microvolts ≤ 2512500)) ∧
    bit (t.obj Obj.CNV_REF_STATUS) 1 = clk ∧
    (∀ start, (s.engine e).cal = some (3, .running start) → t.obj Obj.CNV_REF_STATUS ≠ 3 → (t.engine e).cal = none) ∧
    ((∀ i : Fin 4, (s.engine i).cal = none) → t.obj Obj.CNV_REF_STATUS = s.obj Obj.CNV_REF_STATUS → t.changes = s.changes) := by
  obtain ⟨u, hu, hmeas, href, heng, hchanges⟩ := s.referenceReads_shown microvolts clk
  intro t
  have ht : t = u.calChecks := hu
  rw [ht, u.obj_calChecks, u.obj_calChecks]
  obtain ⟨h0, h1⟩ := bit_refStatus (decide (2487500 ≤ microvolts) && decide (microvolts ≤ 2512500)) clk
  refine ⟨hmeas, by rw [href, h0], by rw [href, h1], fun start hcal h3 => ?_, fun hidle hsame => ?_⟩
  · refine State.cal_calChecks_reference e.isLt (start := start) (by rw [heng, hcal]) fun hbits => h3 ?_
    rw [href] at hbits ⊢
    exact refStatus_of_bits hbits
  · rw [State.calChecks_idle fun i => by rw [heng, hidle i]]
    exact hchanges hsame

/-! ## The output and the receiver (R53 to R56) -/

section
variable {e : Fin 4} {s : State}

/-- BIAS_UNLOCK (R53). -/
theorem exec_biasUnlock_spec {loops : Nat} (h : s.lostLoops e loops ≠ 0) : ∃ t : State, exec (.biasUnlock e loops) s = .next t ∧
    t.obj (Obj.OPT_BIAS_STATE e) = clearBits (s.obj (Obj.OPT_BIAS_STATE e)) (s.lostLoops e loops) ∧
    t.changes = s.changes ++ [⟨Ev.BIAS_UNLOCK.code, false, s.tick, contentOf [2, 4] [e, s.lostLoops e loops]⟩] ∧
    (s.obj (Obj.OPT_BIAS_FAIL_ACTION e) = 1 → (t.engine e).squelched = true ∧ (t.engine e).dark = true) ∧
    (s.obj (Obj.OPT_BIAS_FAIL_ACTION e) ≠ 1 → t.engine e = s.engine e) := by
  refine ⟨s.loseBias e loops, rfl, s.obj_loseBias_same e loops, State.changes_loseBias h, fun hact => ?_, fun hact => ?_⟩
  · rw [State.loseBias_some h]
    dsimp only
    rw [if_pos hact, State.squelched_refreshTx, State.dark_refreshTx, State.engine_withEngine_same]
    exact ⟨rfl, by simp [State.txDark]⟩
  · rw [State.loseBias_some h]
    dsimp only
    rw [if_neg hact]
    rfl

/-- BIAS_RELOCK_RESTORE (R53, R54): the squelch ends, and the output is lit where no other condition of R54 holds. -/
theorem exec_biasRelockRestore_spec {ticks : Nat} (hlocked : s.obj (Obj.OPT_BIAS_STATE e) = 0x3F) (ht : 1000 ≤ ticks) :
    ∃ t : State, exec (.biasRelockRestore e ticks) s = .next t ∧ (t.engine e).squelched = false ∧
      (s.obj (Obj.OPT_TX_ENABLE e) ≠ 0 → s.obj (Obj.CNV_STATE e) = 2 → (t.engine e).dark = false) := by
  refine ⟨(s.withEngine e fun r => { r with squelched := false }).refreshTx e, if_pos ⟨hlocked, ht⟩, ?_, fun hon hready => ?_⟩
  · rw [State.squelched_refreshTx, State.engine_withEngine_same]
  · rw [State.dark_refreshTx]
    simp [State.txDark, hlocked, hon, hready]

end

/-- Settles O17: each measurement by the lemma of its command. -/
theorem opticsMeasurements : Obligations.OpticsMeasurements := by
  intro e s
  refine ⟨fun power ticks within hw ht => ⟨fun hc hp => ?_, fun hc => ?_⟩, fun c power ticks loops hc hp => ?_, fun loops lost hlost hne => ?_,
    fun loops power hp => ?_, fun ticks hlocked ht => exec_biasRelockRestore_spec hlocked ht, fun achieved ticks hlit ht hramp hshort => ?_,
    fun average quiet harmed hover => ?_, fun microvolts ppb => ?_⟩
  · subst hw
    rw [exec_laserRangeChange_tx, if_pos ⟨ht, hc⟩, State.laserTxReads_enough hp]
  · subst hw
    rw [exec_laserRangeChange_lo, if_pos ⟨ht, hc⟩]
  · obtain ⟨t, ht, hreg, hchanges⟩ := exec_laserTxReads_low hc hp
    obtain ⟨hmeas, hbits, hevent⟩ := State.laserTxReads_low_spec (s := s) hp e
    exact ⟨t, ht, (State.obj_eq hreg _).trans hmeas, fun b hb => by rw [State.obj_eq hreg, hbits b hb], fun hl => hchanges (hevent hl)⟩
  · subst hlost
    exact exec_biasUnlock_spec hne
  · refine ⟨_, exec_biasLoopLock_enough hp loops, ?_, ?_⟩
    · split <;> simp
    · split <;> simp
  · exact if_pos ⟨hlit, ht, hramp, hshort⟩
  · refine if_pos ⟨?_, hover⟩
    simpa using harmed
  · exact ⟨_, rfl, s.referenceReads_spec e microvolts _⟩

end Sys2Proof.Machine
end

section
/-! PROOFS. Foreground and background calibration of the converters: the start and its refusals, the run, its commit, the image, and convergence. -/

namespace Sys2Proof.Machine

/-! ## The writes of CNV_CAL_START and CNV_CAL_IMAGE (R68, R69, R77) -/

/-- A write of CNV_CAL_START, check by check. -/
theorem acceptOptics_calStart (e : Nat) (v : Val) (s : State) : acceptOptics (Obj.CNV_CAL_START e) v s =
    if 1 ≤ v.v ∧ s.calOccupied e then (.busy, s) else if s.sourced s.act e then (.precond, s) else if ¬ s.domOn e then (.precond, s)
    else if v.v = 0 then (if s.calOccupied e then (.ok, s.calEnd e 9) else (.precond, s))
    else (.ok, if s.waits (fun d => decide (d = .calStart e)) then s.withEngine e fun r => { r with cal := some (v.v, .requested) }
      else (s.withEngine e fun r => { r with cal := some (v.v, .requested) }).plan (s.now + 1) (.calStart e)) := rfl

/-- A write of CNV_CAL_IMAGE, check by check. -/
theorem acceptOptics_calImage (e : Nat) (v : Val) (s : State) : acceptOptics (Obj.CNV_CAL_IMAGE e) v s =
    if bytesOf 8192 v.v 0 2 ≠ 1 ∨ bytesOf 8192 v.v 2 1 ≠ e ∨ bytesOf 8192 v.v 0x1FC0 32 ≠ imageDigest v.v then (.range, s)
    else if bytesOf 8192 v.v 0x10 32 ≠ s.obj Obj.DEV_ID_DIGEST then (.precond, s)
    else if s.calOccupied e then (.busy, s)
    else (.ok, s.stage (Obj.CNV_CAL_IMAGE e) (imageStored v.v)) := by
  have g : acceptOptics (Obj.CNV_CAL_IMAGE e) v s = acceptImage (Obj.CNV_CAL_IMAGE e) v s :=
    (if_neg (show ¬ (0x15 : Nat) = 0x13 by decide)).trans (if_pos rfl)
  rw [g]
  unfold acceptImage
  dsimp only

theorem State.calOccupied_served (s : State) (rq : Rq) (x : Sender) (e : Nat) : (s.served rq x).calOccupied e = s.calOccupied e := by
  simp [State.calOccupied]

theorem State.domOn_served (s : State) (rq : Rq) (x : Sender) (d : Nat) : (s.served rq x).domOn d = s.domOn d := by
  simp [State.domOn]

theorem State.waits_empty {s : State} (h : s.agenda = []) (p : Due → Bool) : s.waits p = false := by
  simp [State.waits, h]

/-- The three starts are writes of their code. -/
theorem exec_calStart {e : Fin 4} {rq : Rq} {kind : Nat} {c : Instr} (s : State)
    (hc : (kind, c) ∈ [(1, Instr.calDarkOffset rq e), (2, .calLoopback rq e), (3, .calReference rq e)]) :
    exec c s = .next (serveWrite acceptOptics rq (Obj.CNV_CAL_START e) ⟨2, kind⟩ s) ∧ 1 ≤ kind := by
  simp only [List.mem_cons, List.not_mem_nil, or_false, Prod.mk.injEq] at hc
  rcases hc with ⟨rfl, rfl⟩ | ⟨rfl, rfl⟩ | ⟨rfl, rfl⟩
  · exact ⟨rfl, by decide⟩
  · exact ⟨rfl, by decide⟩
  · exact ⟨rfl, by decide⟩

section
variable {e : Fin 4} {s : State} {rq : Rq} {x : Sender}

/-- A start is refused while a calibration runs, then while a connection sources the engine or its domain is not On, and else waits for the boundary. -/
theorem exec_calStart_spec {kind : Nat} {c : Instr}
    (hc : (kind, c) ∈ [(1, Instr.calDarkOffset rq e), (2, .calLoopback rq e), (3, .calReference rq e)])
    (h : Accepted rq x (Obj.CNV_CAL_START e) ⟨2, kind⟩ ⟨2, kind⟩ s) :
    let u := s.served rq x
    (s.calOccupied e = true → exec c s = .next (u.deliver rq Op.write .busy [])) ∧
    (s.calOccupied e = false → u.sourced s.act e = true ∨ s.domOn e = false → exec c s = .next (u.deliver rq Op.write .precond [])) ∧
    (s.calOccupied e = false → u.sourced s.act e = false → s.domOn e = true → s.agenda = [] → exec c s =
      .next (((u.withEngine e fun r => { r with cal := some (kind, .requested) }).plan (s.now + 1) (.calStart e)).answered rq)) := by
  intro u
  obtain ⟨hexec, hkind⟩ := exec_calStart s hc
  have g := acceptOptics_calStart e ⟨2, kind⟩ u
  rw [show u.calOccupied e = s.calOccupied e from s.calOccupied_served rq x e, show u.domOn e = s.domOn e from s.domOn_served rq x e,
    show u.act = s.act from s.act_served rq x, show u.now = s.now from s.now_served rq x] at g
  refine ⟨fun hocc => ?_, fun hfree hno => ?_, fun hfree hsrc hon hagenda => ?_⟩
  · exact hexec.trans (congrArg Host.Outcome.next (serveWrite_refused h acceptOptics (g.trans (if_pos ⟨hkind, hocc⟩))))
  · refine hexec.trans (congrArg Host.Outcome.next (serveWrite_refused h acceptOptics (t := u) (g.trans ?_)))
    rw [if_neg (by simp [hfree])]
    rcases hno with hsrc | hoff
    · rw [if_pos hsrc]
    · rw [if_pos (by simp [hoff] : ¬ s.domOn e = true), ite_self]
  · refine hexec.trans (congrArg Host.Outcome.next (serveWrite_accepted h acceptOptics (g.trans ?_)))
    have hidle := State.waits_empty (s := u) ((s.agenda_served rq x).trans hagenda) fun d => decide (d = .calStart e)
    rw [if_neg (by simp [hfree]), if_neg (by simp [hsrc]), if_neg (by simp [hon]), if_neg (Nat.ne_of_gt hkind), hidle]
    rfl

/-- A written 0 aborts the calibration that runs (R69). -/
theorem exec_calAbort_occupied (h : Accepted rq x (Obj.CNV_CAL_START e) ⟨2, 0⟩ ⟨2, 0⟩ s) (hocc : s.calOccupied e = true)
    (hsrc : (s.served rq x).sourced s.act e = false) (hon : s.domOn e = true) :
    exec (.calAbort rq e) s = .next (((s.served rq x).calEnd e 9).answered rq) := by
  refine congrArg Host.Outcome.next (serveWrite_accepted h acceptOptics ((acceptOptics_calStart e _ _).trans ?_))
  rw [s.calOccupied_served, s.domOn_served, s.act_served, if_neg (by simp), if_neg (by simp [hsrc]), if_neg (by simp [hon]), if_pos rfl, if_pos hocc]

/-- An image is taken where its header, its device and its time fit (R77). -/
theorem exec_calImage {val v : Val} (h : Accepted rq x (Obj.CNV_CAL_IMAGE e) val v s) :
    let u := s.served rq x
    exec (.cnvCalImageWrite rq e val) s = .next (
      if bytesOf 8192 v.v 0 2 ≠ 1 ∨ bytesOf 8192 v.v 2 1 ≠ e ∨ bytesOf 8192 v.v 0x1FC0 32 ≠ imageDigest v.v then u.deliver rq Op.write .range []
      else if bytesOf 8192 v.v 0x10 32 ≠ s.obj Obj.DEV_ID_DIGEST then u.deliver rq Op.write .precond []
      else if s.calOccupied e = true then u.deliver rq Op.write .busy []
      else (u.stage (Obj.CNV_CAL_IMAGE e) (imageStored v.v)).answered rq) := by
  intro u
  have g := acceptOptics_calImage e v u
  rw [show u.calOccupied e = s.calOccupied e from s.calOccupied_served rq x e, show u.obj Obj.DEV_ID_DIGEST = s.obj Obj.DEV_ID_DIGEST by simp [u]] at g
  refine congrArg Host.Outcome.next ?_
  split
  case isTrue hr => exact serveWrite_refused h acceptOptics (g.trans (if_pos hr))
  case isFalse hr =>
    rw [if_neg hr] at g
    split
    case isTrue hd => exact serveWrite_refused h acceptOptics (g.trans (if_pos hd))
    case isFalse hd =>
      rw [if_neg hd] at g
      split
      case isTrue hb => exact serveWrite_refused h acceptOptics (g.trans (if_pos hb))
      case isFalse hb => exact serveWrite_accepted h acceptOptics (g.trans (if_neg hb))

end

/-! ## The run (R68, R70) -/

/-- The check of a calibration goes by the objects of the optics alone. -/
theorem State.calCheck_congr {s t : State} (h : t.optics = s.optics) (e kind : Nat) (power : Int) : t.calCheck e kind power = s.calCheck e kind power := by
  unfold State.calCheck
  rw [State.obj_of_optics h rfl, State.obj_of_optics h rfl]

section
variable {s : State} {e kind : Nat}

/-- The calibration that was asked for runs from this tick, with its status shown. -/
def State.calRuns (s : State) (e kind : Nat) : State :=
  (s.withEngine e fun r => { r with cal := some (kind, .running s.now) }).setObj (Obj.CNV_CAL_STATUS e) 1

theorem State.calBegin_requested (h : (s.engine e).cal = some (kind, .requested)) :
    s.calBegin e = (((s.calRuns e kind).declare Df.los e).toDark e).withEngine e fun r => { r with calDark := true } := by
  unfold State.calBegin
  rw [h]
  rfl

/-- Going dark for the run leaves the optics as they are with dLOS declared. -/
theorem State.optics_calBegin (h : (s.engine e).cal = some (kind, .requested)) : (s.calBegin e).optics = ((s.calRuns e kind).declare Df.los e).optics := by
  rw [State.calBegin_requested h]
  exact (State.optics_withEngine _ e (by intro; rfl)).trans (State.optics_toDark _ e)

theorem State.receiver_calBegin (h : (s.engine e).cal = some (kind, .requested)) : (s.calBegin e).receiver e = if s.receiver e = 0 then 0 else 1 := by
  have hr : ((s.calRuns e kind).declare Df.los e).receiver e = s.receiver e := by simp [State.receiver, State.calRuns]
  rw [State.calBegin_requested h, State.receiver, State.obj_withEngine, ← hr]
  exact State.receiver_toDark _ e

/-- What the start of a calibration shows: the run, its status, dLOS, and a check as before. -/
theorem State.calBegin_spec (h : (s.engine e).cal = some (kind, .requested)) :
    ((s.calBegin e).engine e).cal = some (kind, .running s.now) ∧ (s.calBegin e).obj (Obj.CNV_CAL_STATUS e) = 1 ∧
    (s.calBegin e).declared Df.los e = true ∧ ∀ power, (s.calBegin e).calCheck e kind power = s.calCheck e kind power := by
  have ho := State.optics_calBegin h
  refine ⟨?_, ?_, ?_, fun power => ?_⟩
  · rw [State.cal_of_optics ho]
    simp [State.calRuns]
  · rw [State.obj_of_optics ho rfl]
    simp [State.calRuns]
  · rw [State.los_of_optics ho, State.declared_declare_same]
  · rw [State.calCheck_congr ho]
    simp [State.calCheck, State.calRuns]

end

/-- CAL_RUN_START (R70): the run that waits for the coming boundary begins, and goes on where its check holds. -/
theorem exec_calRunStart_holds {e : Fin 4} {s : State} {power : Int} {kind b : Nat} (h : (s.engine e).cal = some (kind, .requested))
    (ha : s.agenda = [⟨b, .calStart e⟩]) (hb : b ≤ s.now + 1) (hc : s.calCheck e kind power = none) :
    ∃ t : State, exec (.calRunStart e power) s = .next t ∧ (t.engine e).cal = some (kind, .running (s.now + 1)) ∧
      t.obj (Obj.CNV_CAL_STATUS e) = 1 ∧ t.declared Df.los e = true ∧ t.receiver e = (if s.receiver e = 0 then 0 else 1) := by
  let u : State := { s with now := s.now + 1, tick := s.nextTick, agenda := [] }
  have hu : (u.engine e).cal = some (kind, .requested) := h
  obtain ⟨hcal, hstatus, hlos, hcheck⟩ := State.calBegin_spec hu
  have hrun : State.runDue { s with now := s.now + 1, tick := s.nextTick } (fun _ v => v.calBegin e) (fun d => decide (d = .calStart e)) = u.calBegin e :=
    State.runDue_single (c := { s with now := s.now + 1, tick := s.nextTick }) ha hb (decide_eq_true rfl) _
  have hgo : (u.calBegin e).calAbortCheck e power = u.calBegin e := State.calAbortCheck_holds hcal ((hcheck power).trans hc)
  refine ⟨{ u.calBegin e with now := s.now, tick := s.tick }, ?_, hcal, hstatus, hlos, State.receiver_calBegin hu⟩
  refine congrArg Host.Outcome.next ?_
  unfold State.atBoundary
  dsimp only
  rw [hrun, hgo]

/-! ## The commit (R71) -/

section
variable {e : Fin 4} {s : State} {kind : Nat}

/-- A run that has lasted its time, with its check met in the last tick (R71). -/
theorem exec_calComplete_due {start : Nat} {power : Int} (result : List Coefficient) (h : (s.engine e).cal = some (kind, .running start))
    (hd : start + calTicks kind ≤ s.now + 1) (hc : s.calCheck e kind power = none) : exec (.calComplete e power result) s =
    let t := s.withEngine e fun r => { r with cal := some (kind, .complete none), calResult := result.filter (·.measuredBy kind) }
    .next (if s.supplyWarned then (t.withEngine e fun r => { r with cal := some (kind, .complete (some s.now)) }).setObj (Obj.CNV_CAL_STATUS e) 2
      else t.plan (s.now + 1) (.calCommit e)) := by
  change execCalComplete e power result s = _
  unfold execCalComplete
  rw [h]
  simp only [if_pos hd, hc, Option.isSome_none, Bool.false_eq_true, if_false]

theorem exec_calComplete_spec {start : Nat} {power : Int} (result : List Coefficient) (h : (s.engine e).cal = some (kind, .running start))
    (hd : start + calTicks kind ≤ s.now + 1) (hc : s.calCheck e kind power = none) :
    (s.supplyWarned = false → exec (.calComplete e power result) s = .next
      ((s.withEngine e fun r => { r with cal := some (kind, .complete none), calResult := result.filter (·.measuredBy kind) }).plan (s.now + 1) (.calCommit e))) ∧
    (s.supplyWarned = true → ∃ t : State, exec (.calComplete e power result) s = .next t ∧ t.obj (Obj.CNV_CAL_STATUS e) = 2 ∧
      (t.engine e).cal = some (kind, .complete (some s.now)) ∧ (t.engine e).calResult = result.filter (·.measuredBy kind)) := by
  have g := exec_calComplete_due result h hd hc
  refine ⟨fun hw => ?_, fun hw => ?_⟩
  · rw [g, hw]
    rfl
  · rw [g, hw]
    exact ⟨_, rfl, by simp, by simp, by simp⟩

end

/-- The commit of an engine whose calibration is deferred. -/
def State.commitDeferred (s : State) (e : Nat) : State :=
  match (s.engine e).cal with
  | some (_, .complete (some _)) => s.calCommit e
  | _ => s

section
variable {s : State} {e i kind since : Nat}

theorem State.obj_setTxStatus_ne (s : State) (e b : Nat) (on : Bool) {k : Key} (h : k.c ≠ 0x11) : (s.setTxStatus e b on).obj k = s.obj k :=
  s.obj_setObj_ne _ fun g => h (g ▸ rfl)

theorem State.engine_setTxStatus (s : State) (e b : Nat) (on : Bool) (i : Nat) : (s.setTxStatus e b on).engine i = s.engine i := rfl

theorem State.obj_refreshTxStatus (s : State) (e : Nat) {k : Key} (h : k.c ≠ 0x11) : (s.refreshTxStatus e).obj k = s.obj k := by
  unfold State.refreshTxStatus
  extract_lets mode roll ns held curve used scale t
  rw [State.obj_setTxStatus_ne _ _ _ _ h, State.obj_setTxStatus_ne _ _ _ _ h, State.obj_setTxStatus_ne _ _ _ _ h]
  rfl

theorem State.engine_refreshTxStatus_ne (s : State) (h : i ≠ e) : (s.refreshTxStatus e).engine i = s.engine i := by
  unfold State.refreshTxStatus
  extract_lets mode roll ns held curve used scale t
  rw [State.engine_setTxStatus, State.engine_setTxStatus, State.engine_setTxStatus]
  exact s.engine_withEngine_ne _ h

/-- A committed image shows the coefficients in force. -/
theorem State.obj_applyImage (s : State) (e : Nat) (cs : List Coefficient) {k : Key} (h : k.c ≠ 0x11) : (s.applyImage e cs).obj k =
    if k = Obj.CNV_CAL_IMAGE e then applyCoefficients (s.obj (Obj.CNV_CAL_IMAGE e)) cs else s.obj k :=
  (State.obj_refreshTxStatus _ e h).trans (s.obj_setObj _ k _)

theorem State.engine_applyImage_ne (s : State) (cs : List Coefficient) (h : i ≠ e) : (s.applyImage e cs).engine i = s.engine i :=
  State.engine_refreshTxStatus_ne _ h

theorem State.commitDeferred_idle (h : (s.engine e).cal = none) : s.commitDeferred e = s := by
  unfold State.commitDeferred
  rw [h]

/-- A deferred calibration commits once no rail is at its warning level. -/
theorem State.commitDeferred_due (h : (s.engine e).cal = some (kind, .complete (some since))) (hw : s.supplyWarned = false) : s.commitDeferred e =
    (((s.applyImage e (s.engine e).calResult).setObj (Obj.CNV_CAL_STATUS e) 3).withEngine e fun r => { r with cal := none, calResult := [] }).raise
      Ev.CAL_DONE [e, kind] := by
  unfold State.commitDeferred State.calCommit
  simp only [h, hw]
  rfl

/-- A commit leaves every other engine alone: its unit, and the objects of the optics and of the supplies that are not of the committed engine. -/
theorem State.calCommit_frame (s : State) (e : Nat) : (∀ i, i ≠ e → (s.calCommit e).engine i = s.engine i) ∧
    ∀ k, k.c ≠ 0x11 → k ≠ Obj.CNV_CAL_IMAGE e → k ≠ Obj.CNV_CAL_STATUS e → (s.calCommit e).obj k = s.obj k := by
  unfold State.calCommit
  split
  case h_1 kind since h =>
    split
    case isTrue => exact ⟨fun i hi => by rw [State.engine_setObj, State.engine_withEngine_ne _ _ hi], fun k _ _ hs => State.obj_setObj_ne _ _ hs⟩
    case isFalse =>
      extract_lets t
      have heng : ∀ i, i ≠ e → t.engine i = s.engine i := fun i hi => (State.engine_setObj _ _ _ i).trans (s.engine_applyImage_ne _ hi)
      have ht : ∀ k, k.c ≠ 0x11 → k ≠ Obj.CNV_CAL_IMAGE e → k ≠ Obj.CNV_CAL_STATUS e → t.obj k = s.obj k := fun k hc hi hs => by
        rw [State.obj_setObj_ne _ _ hs, s.obj_applyImage e _ hc, if_neg hi]
      refine ⟨fun i hi => ?_, fun k hc hi hs => ?_⟩
      · rw [State.engine_raise, State.engine_withEngine_ne _ _ hi, heng i hi]
      · rw [State.obj_raise, State.obj_withEngine, ht k hc hi hs]
  case h_2 => exact ⟨fun _ _ => rfl, fun _ _ _ _ => rfl⟩

theorem State.commitDeferred_frame (s : State) (e : Nat) : (∀ i, i ≠ e → (s.commitDeferred e).engine i = s.engine i) ∧
    ∀ k, k.c ≠ 0x11 → k ≠ Obj.CNV_CAL_IMAGE e → k ≠ Obj.CNV_CAL_STATUS e → (s.commitDeferred e).obj k = s.obj k := by
  unfold State.commitDeferred
  split
  · exact s.calCommit_frame e
  · exact ⟨fun _ _ => rfl, fun _ _ _ _ => rfl⟩

/-- The engine and its calibration image stand as in `s`, with no supply at its warning level. -/
def State.AwaitsCommit (s : State) (e : Nat) (t : State) : Prop :=
  t.engine e = s.engine e ∧ t.obj (Obj.CNV_CAL_IMAGE e) = s.obj (Obj.CNV_CAL_IMAGE e) ∧ t.supplyWarned = false

/-- The calibration of the engine has committed what it had measured in `s`. -/
def State.HasCommitted (s : State) (e : Nat) (t : State) : Prop :=
  (t.engine e).cal = none ∧ t.obj (Obj.CNV_CAL_STATUS e) = 3 ∧
    t.obj (Obj.CNV_CAL_IMAGE e) = applyCoefficients (s.obj (Obj.CNV_CAL_IMAGE e)) (s.engine e).calResult

/-- The deferred commits of all engines commit each of them (R71). -/
theorem State.hasCommitted_commits {l : List Nat} (he : e ∈ l) (h : (s.engine e).cal = some (kind, .complete (some since))) {t : State} (ht : s.AwaitsCommit e t) :
    s.HasCommitted e (l.foldl State.commitDeferred t) := by
  refine foldl_reaches (P := s.AwaitsCommit e) (Q := s.HasCommitted e) (fun t i hi ⟨heng, himg, hw⟩ => ?_) (fun t ⟨heng, himg, hw⟩ => ?_)
    (fun t i ⟨hcal, hst, himg⟩ => ?_) he ht
  · obtain ⟨hothers, hobj⟩ := t.commitDeferred_frame i
    refine ⟨(hothers e (Ne.symm hi)).trans heng, (hobj _ (by simp) (by simp [Ne.symm hi]) (by simp)).trans himg, ?_⟩
    unfold State.supplyWarned
    rw [hobj _ (by simp) (by simp) (by simp)]
    exact hw
  · rw [State.commitDeferred_due (heng ▸ h) hw, heng, State.HasCommitted, ← himg]
    refine ⟨by simp, by simp, ?_⟩
    simp [State.obj_applyImage]
  · by_cases hi : i = e
    · rw [hi, State.commitDeferred_idle hcal]
      exact ⟨hcal, hst, himg⟩
    · obtain ⟨hothers, hobj⟩ := t.commitDeferred_frame i
      refine ⟨?_, (hobj _ (by simp) (by simp) (by simp [Ne.symm hi])).trans hst, (hobj _ (by simp) (by simp [Ne.symm hi]) (by simp)).trans himg⟩
      rw [hothers e (Ne.symm hi), hcal]

end

section
variable {e : Fin 4} {s : State} {kind since : Nat}

theorem exec_calDeferredCommit (s : State) : exec .calDeferredCommit s = .next (s.atBoundary fun t => (List.range 4).foldl State.commitDeferred t) := rfl

/-- CAL_DEFERRED_COMMIT (R71). -/
theorem exec_calDeferredCommit_spec (h : (s.engine e).cal = some (kind, .complete (some since))) (hw : s.supplyWarned = false) :
    ∃ t : State, exec .calDeferredCommit s = .next t ∧ (t.engine e).cal = none ∧ t.obj (Obj.CNV_CAL_STATUS e) = 3 ∧
      t.obj (Obj.CNV_CAL_IMAGE e) = applyCoefficients (s.obj (Obj.CNV_CAL_IMAGE e)) (s.engine e).calResult :=
  ⟨_, exec_calDeferredCommit s, State.hasCommitted_commits (List.mem_range.mpr e.isLt) h ⟨rfl, rfl, hw⟩⟩

/-- A calibration that ends without a commit shows why (R71). -/
theorem State.calEnd_occupied {p : CalPhase} (h : (s.engine e).cal = some (kind, p)) (code : Nat) : s.calEnd e code =
    ((s.withEngine e fun r => { r with cal := none }).setObj (Obj.CNV_CAL_STATUS e) code).raise Ev.CAL_ABORT [e, kind, code] := by
  unfold State.calEnd
  rw [h]

/-- CAL_DEFER_TIMEOUT (R71). -/
theorem exec_calDeferTimeout_due (h : (s.engine e).cal = some (kind, .complete (some since))) (ht : since + 80000 ≤ s.now) :
    exec (.calDeferTimeout e) s = .next
      (((s.withEngine e fun r => { r with cal := none }).setObj (Obj.CNV_CAL_STATUS e) 8).raise Ev.CAL_ABORT [e, kind, 8]) := by
  rw [← State.calEnd_occupied h]
  change execCalDeferTimeout e s = _
  unfold execCalDeferTimeout
  rw [h]
  exact if_pos ht

end

/-! ## Convergence (R78, R79) -/

/-- A receiver that leaves OFF stands in DARK or at the start of an acquisition (R106). -/
theorem State.receiver_refreshRx {s : State} {e : Nat} (hon : s.rxOff e = false) (h : s.receiver e = 0) :
    (s.refreshRx e).receiver e = 1 ∨ (s.refreshRx e).receiver e ∈ [2, 3, 4] := by
  unfold State.refreshRx
  rw [if_neg (by simp [hon]), if_pos h]
  split
  · exact .inl ((State.receiver_followFixed _ e e).trans (s.obj_setObj_same _ _))
  · exact .inr (s.receiver_acquire_mem e _)

theorem State.optics_refreshRx (s : State) (e : Nat) : (s.refreshRx e).optics = s.optics := by
  unfold State.refreshRx
  split
  · split
    · rfl
    · exact s.optics_toOff e
  · split
    · split
      · exact (State.optics_followFixed _ e).trans (s.optics_setObj _ (by simp))
      · exact s.optics_acquire e _
    · rfl

/-- CNV_CONVERGED with the domain On and the six loops locked: the converters are READY, and the receiver of a configured engine leaves OFF. -/
theorem exec_cnvConverged_ready {e : Fin 4} {s : State} (hst : s.obj (Obj.CNV_STATE e) = 1) (hon : s.domOn e = true)
    (hlocked : s.obj (Obj.OPT_BIAS_STATE e) = 0x3F) : ∃ t : State, exec (.cnvConverged e) s = .next t ∧ t.obj (Obj.CNV_STATE e) = 2 ∧
      (s.mode e ≠ 0 → s.receiver e = 0 → t.receiver e = 1 ∨ t.receiver e ∈ [2, 3, 4]) := by
  let u := ((s.setObj (Obj.CNV_STATE e) 2).withEngine e fun r => { r with everLocked := false }).refreshTx e
  have hobj : ∀ k, k ≠ Obj.CNV_STATE e → u.obj k = s.obj k := fun k hk => (State.obj_refreshTx _ e k).trans (s.obj_setObj_ne _ hk)
  have hready : u.obj (Obj.CNV_STATE e) = 2 := (State.obj_refreshTx _ e _).trans (s.obj_setObj_same _ _)
  refine ⟨u.refreshRx e, if_pos ⟨hst, hon, hlocked⟩, ?_, fun hm hr => State.receiver_refreshRx ?_ ?_⟩
  · rw [State.obj_of_optics (u.optics_refreshRx e) rfl, hready]
  · have hmode : u.mode e = s.mode e := hobj _ (by simp)
    have hdom : u.domOn e = true := by rw [State.domOn, hobj _ (by simp)]; exact hon
    simp [State.rxOff, hmode, hm, hready, hdom]
  · exact (hobj _ (by simp)).trans hr

/-- Settles O20: each command by its lemma. -/
theorem calibrationsRunAndCommit : Obligations.CalibrationsRunAndCommit := by
  intro e s
  refine ⟨fun rq x kind c hc h => exec_calStart_spec hc h, fun rq x h hocc hsrc hon => exec_calAbort_occupied h hocc hsrc hon,
    fun power kind b h ha hb hc => exec_calRunStart_holds h ha hb hc, fun power kind start result h hd hc => exec_calComplete_spec result h hd hc,
    fun kind since h => ⟨fun hw => exec_calDeferredCommit_spec h hw, fun ht => exec_calDeferTimeout_due h ht⟩, fun cs hbg hon hcal => ?_,
    fun rq x val v h => exec_calImage h, fun hb => ?_, fun hst hon hlocked => exec_cnvConverged_ready hst hon hlocked⟩
  · exact if_pos ⟨hbg, hon, by simp [hcal]⟩
  · exact if_neg fun h => hb h.2.2

end Sys2Proof.Machine
end

section
/-! PROOFS. What goes along with a receiver's lock: the references, the transient and the bonding it takes with it leave the line DSP alone, and
what leaving lock and acquiring do to its objects, its engine and its defects. -/

namespace Sys2Proof.Machine

/-! ## What the references, the transients and the bonding registers leave alone -/

/-- A state without what a loss of lock takes along outside the line DSP (the objects of other classes, the event stream, the timing unit and the
records of Periscope), and the objects of class 0x11. -/
structure LineView where
  rest : State
  dsp : Key → Nat

def State.line (s : State) : LineView :=
  ⟨{ s with reg := [], changes := [], timing := {}, prot := { s.prot with psc := [] } }, fun k => if k.c = 0x11 then s.obj k else 0⟩

section
variable {s t : State}

theorem State.obj_of_line (h : t.line = s.line) {k : Key} (hk : k.c = 0x11) : t.obj k = s.obj k := by
  have g := congrFun (congrArg LineView.dsp h) k
  simpa [State.line, hk] using g

theorem State.engine_of_line (h : t.line = s.line) (e : Nat) : t.engine e = s.engine e := congrArg (fun v => v.rest.engine e) h

theorem State.declared_of_line (h : t.line = s.line) (d i : Nat) : t.declared d i = s.declared d i := congrArg (fun v => v.rest.declared d i) h

theorem State.agenda_of_line (h : t.line = s.line) : t.agenda = s.agenda := congrArg (fun v => v.rest.agenda) h

theorem State.now_of_line (h : t.line = s.line) : t.now = s.now := congrArg (fun v => v.rest.now) h

theorem State.fresh_of_line (h : t.line = s.line) : t.fresh = s.fresh := congrArg (fun v => v.rest.fresh) h

/-- An update of an engine or a defect sees nothing that the view leaves out. -/
theorem State.line_withEngine_congr (h : t.line = s.line) (e : Nat) (f : Engine → Engine) : (t.withEngine e f).line = (s.withEngine e f).line :=
  congrArg (fun v => LineView.mk (v.rest.withEngine e f) v.dsp) h

theorem State.line_clear_congr (h : t.line = s.line) (d i : Nat) : (t.clear d i).line = (s.clear d i).line := by
  have hd := State.declared_of_line h d i
  unfold State.clear
  rw [hd]
  split
  · exact congrArg (fun v => LineView.mk { v.rest with defects := Map.set 0 v.rest.defects (defectKey d i) 0 } v.dsp) h
  · exact h

end

section
variable (s : State)

@[simp] theorem State.line_setObj {k : Key} (v : Nat) (h : k.c ≠ 0x11) : (s.setObj k v).line = s.line := by
  have hk : ∀ k', k'.c = 0x11 → (s.setObj k v).obj k' = s.obj k' := fun k' hc => State.obj_setObj_ne s v fun g => h (g ▸ hc)
  simp +contextual [State.line, hk]

@[simp] theorem State.line_raise (ev : EvRow) (xs : List Nat) : (s.raise ev xs).line = s.line := rfl
@[simp] theorem State.line_withRef (r : Nat) (f : Ref → Ref) : (s.withRef r f).line = s.line := rfl
@[simp] theorem State.line_withDpll (d : Nat) (f : Dpll → Dpll) : (s.withDpll d f).line = s.line := rfl

theorem State.line_refreshLevel (r : Nat) : (s.refreshLevel r).line = s.line := by
  unfold State.refreshLevel
  extract_lets old new
  split
  · rfl
  · simp

theorem State.line_setRefState (r new : Nat) : (s.setRefState r new).line = s.line := by
  unfold State.setRefState
  extract_lets old
  split
  · rfl
  · simp [State.line_refreshLevel]

theorem State.line_freezeTrackers (r : Nat) : (s.freezeTrackers r).line = s.line := by
  refine List.foldlRecOn (motive := fun t : State => t.line = s.line) _ _ rfl fun t ht d _ => ?_
  split
  · exact (t.line_withDpll d _).trans ht
  · exact ht

theorem State.line_failRef (r : Nat) : (s.failRef r).line = s.line := by
  unfold State.failRef
  split
  · rfl
  · extract_lets x t
    have ht : t.line = s.line := by
      unfold t; split
      · simp
      · rfl
    rw [State.line_freezeTrackers, State.line_setRefState, State.line_withRef, ht]

theorem State.line_closeTransient (e : Nat) : (s.closeTransient e).line = s.line := by
  unfold State.closeTransient
  extract_lets r t
  split
  · rfl
  · split <;> simp [t]

theorem State.line_loseTransient (e : Nat) : (s.loseTransient e).line = s.line := by
  unfold State.loseTransient
  extract_lets t
  have ht : t.line = s.line := s.line_closeTransient e
  split
  · exact ht
  · exact ht

theorem State.line_unbond (e : Nat) : (s.unbond e).line = s.line := s.line_setObj _ (by simp)

end

/-! ## Leaving STABILISE or VALID (R114, R144) -/

/-- The deframer of an engine back in HUNT (R144, R161). -/
def Engine.unframed (r : Engine) : Engine := { r with
  frameCandidate := none, buffered := [], huntFrom := 0, frameDue := none, fasMisses := 0, lofFrame := false, lofOtuc := false, otucBad := 0
  otucGood := 0, otucSince := none, otucPtrOk := true, prevMfas := none, idleSeen := false }

section
variable (s : State) (e : Nat)

/-- To the line DSP, leaving lock stores the state, ends the framing defects and takes the deframer back to HUNT. -/
theorem State.line_leaveLock (h : s.rxLocked e = true) :
    (s.leaveLock e).line = ((((s.storeRx e).clear Df.lof e).clear Df.lom e).withEngine e Engine.unframed).line := by
  unfold State.leaveLock
  rw [if_pos h]
  extract_lets t u
  have ht : t.line = (s.storeRx e).line := by simp [t, State.line_loseTransient]
  have hf : (t.setObj (Obj.FRM_STATE e) 0).line = (s.storeRx e).line := by simp [ht]
  rw [State.line_failRef, State.line_unbond]
  exact State.line_withEngine_congr (State.line_clear_congr (State.line_clear_congr hf _ _) _ _) e _

theorem State.leaveLock_unlocked (h : s.rxLocked e = false) : s.leaveLock e = s := if_neg (by simp [h])

theorem State.obj_storeRx (k : Key) : (s.storeRx e).obj k = s.obj k := by simp [State.storeRx]

@[simp] theorem State.obj_leaveLock {k : Key} (hk : k.c = 0x11) : (s.leaveLock e).obj k = s.obj k := by
  cases h : s.rxLocked e with
  | false => rw [s.leaveLock_unlocked e h]
  | true =>
    rw [State.obj_of_line (s.line_leaveLock e h) hk]
    simp [State.obj_storeRx]

@[simp] theorem State.agenda_leaveLock : (s.leaveLock e).agenda = s.agenda := by
  cases h : s.rxLocked e with
  | false => rw [s.leaveLock_unlocked e h]
  | true =>
    rw [State.agenda_of_line (s.line_leaveLock e h)]
    simp [State.storeRx]

@[simp] theorem State.now_leaveLock : (s.leaveLock e).now = s.now := by
  cases h : s.rxLocked e with
  | false => rw [s.leaveLock_unlocked e h]
  | true =>
    rw [State.now_of_line (s.line_leaveLock e h)]
    simp [State.storeRx]

@[simp] theorem State.lol_leaveLock (i : Nat) : (s.leaveLock e).declared Df.lol i = s.declared Df.lol i := by
  cases h : s.rxLocked e with
  | false => rw [s.leaveLock_unlocked e h]
  | true =>
    rw [State.declared_of_line (s.line_leaveLock e h)]
    simp [State.declared_clear, State.storeRx, Df.lol, Df.lof, Df.lom]

theorem State.fresh_leaveLock : (s.leaveLock e).fresh = if s.rxLocked e then s.fresh + 2 else s.fresh := by
  split
  case isTrue h =>
    rw [State.fresh_of_line (s.line_leaveLock e h)]
    simp [State.storeRx]
  case isFalse h => rw [s.leaveLock_unlocked e (by simpa using h)]

/-- What a receiver that stores its state keeps of it (R114). -/
def State.toStore (s : State) (e : Nat) : Stored :=
  ⟨s.obj (Obj.LDSP_CD_EST e), s.obj (Obj.LDSP_FREQ_EST e), s.free, s.drawn.free, s.mode e, s.now⟩

theorem State.engine_storeRx : (s.storeRx e).engine e =
    { s.engine e with taps := s.free, sop := s.drawn.free, stored := some (s.toStore e) } := by
  unfold State.storeRx
  simp [State.toStore]

/-- An engine after it has left lock. -/
theorem State.engine_leaveLock : (s.leaveLock e).engine e = if s.rxLocked e
    then Engine.unframed { s.engine e with taps := s.free, sop := s.drawn.free, stored := some (s.toStore e) } else s.engine e := by
  split
  case isTrue h =>
    rw [State.engine_of_line (s.line_leaveLock e h)]
    simp [State.engine_storeRx]
  case isFalse h => rw [s.leaveLock_unlocked e (by simpa using h)]

theorem State.stored_leaveLock : ((s.leaveLock e).engine e).stored = if s.rxLocked e then some (s.toStore e) else (s.engine e).stored := by
  rw [State.engine_leaveLock]
  split <;> rfl

theorem State.trafficFrom_leaveLock : ((s.leaveLock e).engine e).trafficFrom = (s.engine e).trafficFrom := by
  rw [State.engine_leaveLock]
  split <;> rfl

end

/-! ## Acquiring (R106, R107, R114) -/

/-- An engine whose acquisition starts in a tick. -/
def Engine.acquiring (now : Nat) (r : Engine) : Engine :=
  { clearHunters r with trigger := now, attempt := now, darkClass := none, calDark := false, lolAt := none }

/-- An engine whose equaliser starts from stored taps and SOP. -/
def Engine.equalised (x : Stored) (r : Engine) : Engine := { r with taps := x.taps, sop := x.sop }

def Engine.restored (r : Engine) : Engine :=
  match r.stored with
  | some x => r.equalised x
  | none => r

section
variable (s : State) (e : Nat)

/-- The state of an acquisition before CD, offset and equaliser have their first values. -/
def State.started (s : State) (e cls : Nat) : State :=
  (((s.leaveLock e).setReceiver e (if cls = 1 then 2 else if cls = 3 then 4 else 3)).setObj (Obj.LDSP_ACQ_CLASS e) cls).withEngine e
    (Engine.acquiring s.now)

theorem State.acquire_stored : s.acquire e 3 = (s.started e 3).restoreRx e := rfl

theorem State.acquire_anew {cls : Nat} (h : cls ≠ 3) : s.acquire e cls = (s.started e cls).followFixed e := if_neg h

theorem State.obj_started {cls : Nat} {k : Key} (hk : k.c = 0x11) (hs : k ≠ Obj.LDSP_ACQ_STATE e) (hc : k ≠ Obj.LDSP_ACQ_CLASS e) :
    (s.started e cls).obj k = s.obj k := by
  simp [State.started, State.setReceiver, hk, hs, hc]

theorem State.obj_followFixed {k : Key} (h : k ≠ Obj.LDSP_CD_EST e) : (s.followFixed e).obj k = s.obj k := by
  unfold State.followFixed
  split
  · exact s.obj_setInt_ne _ h
  · rfl

theorem State.obj_restoreRx {k : Key} (hd : k ≠ Obj.LDSP_CD_EST e) (hf : k ≠ Obj.LDSP_FREQ_EST e) : (s.restoreRx e).obj k = s.obj k := by
  unfold State.restoreRx
  split
  · simp [State.obj_followFixed, hd, hf]
  · rfl

theorem State.engine_restoreRx : (s.restoreRx e).engine e = (s.engine e).restored := by
  unfold State.restoreRx Engine.restored
  split
  case h_1 x hx => simp [State.engine_followFixed, hx, Engine.equalised]
  case h_2 hx => simp [hx]

/-- Besides the state, the class and the estimates, acquiring leaves the objects of the DSP alone. -/
theorem State.obj_acquire (cls : Nat) {k : Key} (hk : k.c = 0x11)
    (hn : k ∉ [Obj.LDSP_ACQ_STATE e, Obj.LDSP_ACQ_CLASS e, Obj.LDSP_CD_EST e, Obj.LDSP_FREQ_EST e]) : (s.acquire e cls).obj k = s.obj k := by
  simp only [List.mem_cons, List.not_mem_nil, or_false, not_or] at hn
  obtain ⟨hs, hc, hd, hf⟩ := hn
  rw [← s.obj_started e (cls := cls) hk hs hc]
  by_cases h : cls = 3
  · subst h; exact State.obj_restoreRx _ e hd hf
  · rw [s.acquire_anew e h]; exact State.obj_followFixed _ e hd

theorem State.class_acquire (cls : Nat) : (s.acquire e cls).obj (Obj.LDSP_ACQ_CLASS e) = cls := by
  have hstart : (s.started e cls).obj (Obj.LDSP_ACQ_CLASS e) = cls := by simp [State.started]
  refine Eq.trans ?_ hstart
  by_cases h : cls = 3
  · subst h; exact State.obj_restoreRx _ e (by simp) (by simp)
  · rw [s.acquire_anew e h]; exact State.obj_followFixed _ e (by simp)

theorem State.engine_acquire (cls : Nat) : (s.acquire e cls).engine e =
    if cls = 3 then (((s.leaveLock e).engine e).acquiring s.now).restored else ((s.leaveLock e).engine e).acquiring s.now := by
  have hstart : (s.started e cls).engine e = ((s.leaveLock e).engine e).acquiring s.now := by simp [State.started, State.setReceiver]
  rw [← hstart]
  split
  case isTrue h => subst h; exact State.engine_restoreRx _ e
  case isFalse h => rw [s.acquire_anew e h]; exact State.engine_followFixed _ e e

@[simp] theorem Engine.stored_restored (r : Engine) : r.restored.stored = r.stored := by
  unfold Engine.restored
  split <;> rfl

@[simp] theorem Engine.trafficFrom_restored (r : Engine) : r.restored.trafficFrom = r.trafficFrom := by
  unfold Engine.restored
  split <;> rfl

/-- Everything but the objects and the engines is as it was. -/
def State.sameButEngines (s t : State) : Prop := ∃ reg eng, t = { s with reg, eng }

theorem State.sameButEngines.trans {r s t : State} (h : r.sameButEngines s) (g : s.sameButEngines t) : r.sameButEngines t := by
  obtain ⟨reg, eng, rfl⟩ := h
  obtain ⟨reg', eng', rfl⟩ := g
  exact ⟨reg', eng', rfl⟩

theorem State.sameButEngines_followFixed : s.sameButEngines (s.followFixed e) := by
  unfold State.followFixed
  split
  · exact ⟨_, _, rfl⟩
  · exact ⟨_, _, rfl⟩

theorem State.sameButEngines_restoreRx : s.sameButEngines (s.restoreRx e) := by
  unfold State.restoreRx
  split
  · exact .trans ⟨_, _, rfl⟩ (State.sameButEngines_followFixed _ e)
  · exact ⟨_, _, rfl⟩

/-- Beyond what leaving lock does, acquiring touches objects and engines alone. -/
theorem State.acquire_frame (cls : Nat) : (s.leaveLock e).sameButEngines (s.acquire e cls) := by
  have hstart : (s.leaveLock e).sameButEngines (s.started e cls) := ⟨_, _, rfl⟩
  by_cases h : cls = 3
  · subst h; exact hstart.trans (State.sameButEngines_restoreRx _ e)
  · rw [s.acquire_anew e h]; exact hstart.trans (State.sameButEngines_followFixed _ e)

@[simp] theorem State.agenda_acquire (cls : Nat) : (s.acquire e cls).agenda = s.agenda := by
  obtain ⟨reg, eng, h⟩ := s.acquire_frame e cls
  rw [h]
  exact s.agenda_leaveLock e

theorem State.fresh_acquire (cls : Nat) : (s.acquire e cls).fresh = if s.rxLocked e then s.fresh + 2 else s.fresh := by
  obtain ⟨reg, eng, h⟩ := s.acquire_frame e cls
  rw [h]
  exact s.fresh_leaveLock e

theorem State.lol_acquire (cls i : Nat) : (s.acquire e cls).declared Df.lol i = s.declared Df.lol i := by
  obtain ⟨reg, eng, h⟩ := s.acquire_frame e cls
  rw [h]
  exact s.lol_leaveLock e i

theorem State.stored_acquire (cls : Nat) : ((s.acquire e cls).engine e).stored = ((s.leaveLock e).engine e).stored := by
  rw [State.engine_acquire]
  split
  · exact Engine.stored_restored _
  · rfl

theorem State.trafficFrom_acquire (cls : Nat) : ((s.acquire e cls).engine e).trafficFrom = (s.engine e).trafficFrom := by
  rw [State.engine_acquire, ← s.trafficFrom_leaveLock e]
  split
  · exact Engine.trafficFrom_restored _
  · rfl

end

end Sys2Proof.Machine
end

section
/-! PROOFS. The receiver of a line engine: from BUILD to VALID, dLOL and the stored state, and dFECFAIL. -/

namespace Sys2Proof.Machine

/-! ## dFECFAIL (R133, R137) -/

theorem State.declared_declare_ne (s : State) {d i d' i' : Nat} (h : (d', i') ≠ (d, i)) : (s.declare d i).declared d' i' = s.declared d' i' := by
  have g : ¬ (d' = d ∧ i' = i) := fun ⟨hd, hi⟩ => h (by rw [hd, hi])
  simp [State.declared_declare, g]

theorem State.declared_clear_ne (s : State) {d i d' i' : Nat} (h : (d', i') ≠ (d, i)) : (s.clear d i).declared d' i' = s.declared d' i' := by
  have g : ¬ (d' = d ∧ i' = i) := fun ⟨hd, hi⟩ => h (by rw [hd, hi])
  simp [State.declared_clear, g]

/-- Settles O27: the declaration and the clearing of one defect. -/
theorem fecFailFollowsTheThreshold : Obligations.FecFailFollowsTheThreshold := by
  intro e fraction ticks s
  refine ⟨fun hon hlock hmode hthresh hticks => ?_, fun hticks hpool => ?_, fun hpool => if_neg fun h => h.2 hpool⟩
  · exact ⟨s.declare Df.fecFail e, if_pos ⟨hon, hlock, hmode, hthresh, hticks⟩, s.declared_declare_same _ _, s.declare_frame _ _,
      fun d i h => s.declared_declare_ne h⟩
  · exact ⟨s.clear Df.fecFail e, if_pos ⟨hticks, by simp [hpool]⟩, s.declared_clear_same _ _, s.clear_frame _ _,
      fun d i h => s.declared_clear_ne h⟩

/-! ## From BUILD to VALID (R106 to R110, R116) -/

section
variable {s : State} {e : Fin 4}

/-- SEARCH ends in HUNT with its two estimates. -/
theorem exec_searchDone_search (h : s.receiver e = 3) (cd offset : Int) : exec (.searchDone e cd offset) s =
    .next (((s.setReceiver e 5).setInt (Obj.LDSP_CD_EST e) (if s.obj (Obj.LDSP_CD_MODE e) = 1 then s.fixedCd e
      else clamp (s.cdWindow e).1 (s.cdWindow e).2 cd)).setInt (Obj.LDSP_FREQ_EST e) offset) := if_pos h

theorem exec_verifyTimeout_due (hcls : s.obj (Obj.LDSP_ACQ_CLASS e) = 3) (hr : s.receiver e ∈ [4, 5, 6])
    (ht : (s.engine e).attempt + 160 ≤ s.now) : exec (.verifyTimeout e) s = .next (s.acquire e 2) := by
  have hrange : 4 ≤ s.receiver e ∧ s.receiver e ≤ 6 := by
    simp only [List.mem_cons, List.not_mem_nil, or_false] at hr
    omega
  exact if_pos ⟨hcls, hrange.1, hrange.2, ht⟩

/-- The receiver and its engine in a new attempt under the trigger tick of the first (R109). -/
theorem exec_acqRetry_due {cls : Nat} (hcls : s.obj (Obj.LDSP_ACQ_CLASS e) = cls) (hc : cls ∈ [1, 2]) (hr : s.receiver e ∈ [3, 5, 6])
    (ht : (s.engine e).attempt + attemptBound cls ≤ s.now) : exec (.acqRetry e) s =
    .next (((((s.bump (Obj.LDSP_RETRY_COUNT e)).raise Ev.ACQ_RETRY [e, cls, s.obj (Obj.LDSP_RETRY_COUNT e) + 1]).setReceiver e 3).setObj
      (Obj.LDSP_ACQ_CLASS e) 2).withEngine e fun r => { clearHunters r with attempt := s.now }) := by
  subst hcls
  simp only [List.mem_cons, List.not_mem_nil, or_false] at hc hr
  exact if_pos ⟨hc, hr, ht⟩

theorem exec_enterValid_due (hr : s.receiver e = 7) (ht : (s.engine e).confirmedAt + invalidTicks (s.mode e) ≤ s.now) :
    exec (.enterValid e) s = .next ((((s.setReceiver e 8).clear Df.lol e).withEngine e fun r =>
      { r with validSince := s.now, secondary := none }).raise Ev.ACQ_VALID [e, s.obj (Obj.LDSP_ACQ_CLASS e), s.now - (s.engine e).trigger]) :=
  congrArg Host.Outcome.next (if_pos ⟨hr, ht⟩)

end

/-- Settles O22: each command where its condition holds. -/
theorem acquisitionRunsItsStates : Obligations.AcquisitionRunsItsStates := by
  intro e s
  refine ⟨fun hr => if_pos hr, fun cd offset hr => ?_, fun hr => if_pos hr, fun hcls hr ht => ?_, fun cls hcls hc hr ht => ?_, fun hr ht => ?_⟩
  · refine ⟨_, exec_searchDone_search hr cd offset, ?_, ?_, ?_, fun k hk => ?_, ?_⟩
    · simp [State.receiver, State.setReceiver]
    · simp
    · simp
    · simp only [List.mem_cons, List.not_mem_nil, or_false, not_or] at hk
      obtain ⟨hstate, hcd, hfreq⟩ := hk
      simp [State.setReceiver, hstate, hcd, hfreq]
    · exact ((s.setObj_sameButObjects _ _).trans (State.setObj_sameButObjects _ _ _)).trans (State.setObj_sameButObjects _ _ _)
  · exact ⟨_, exec_verifyTimeout_due hcls hr ht, s.receiver_acquire e 2, s.class_acquire e 2, s.trigger_acquire e 2⟩
  · refine ⟨_, exec_acqRetry_due hcls hc hr ht, ?_⟩
    simp [State.receiver, State.setReceiver, clearHunters]
  · refine ⟨_, exec_enterValid_due hr ht, ?_, ?_, ?_, ?_⟩
    · simp [State.receiver, State.setReceiver]
    · simp
    · simp
    · refine ⟨((s.setReceiver e 8).clear Df.lol e).changes, ?_⟩
      rw [State.changes_raise]
      simp [State.setReceiver]

/-! ## dLOL (R119 to R121, R467) -/

section
variable {s : State} {e : Nat}

/-- The criteria of R119 are those of VALID. -/
theorem State.rxLocked_of_lolMet {cause : LolCause} (hc : cause ≠ .store) (h : s.lolMet e cause = true) : s.rxLocked e = true := by
  cases cause with
  | store => exact absurd rfl hc
  | pilots ratio ticks =>
    simp only [State.lolMet, State.rxValid, Bool.and_eq_true, decide_eq_true_eq] at h
    simp [State.rxLocked, h.1.1]
  | sync misses =>
    simp only [State.lolMet, State.rxValid, Bool.and_eq_true, decide_eq_true_eq] at h
    simp [State.rxLocked, h.1]

/-- The state with dLOL declared and reported. -/
def State.lolRaised (s : State) (e criterion : Nat) : State := (s.declare Df.lol e).raise Ev.LOL [e, criterion]

/-- The state in which a criterion of R119 has declared dLOL. -/
def State.lolDeclared (s : State) (e : Nat) (cause : LolCause) : State :=
  ((s.lolRaised e (lolCriterion cause)).storeRx e).withEngine e fun r => { r with lolAt := some s.now }

theorem exec_lolDeclare_valid {e : Fin 4} {cause : LolCause} (hc : cause ≠ .store) (h : s.lolMet e cause = true) :
    exec (.lolDeclare e cause) s = .next (s.lolDeclared e cause) := by
  cases cause with
  | store => exact absurd rfl hc
  | pilots ratio ticks => exact if_pos h
  | sync misses => exact if_pos h

theorem exec_lolDeclare_store {e : Fin 4} (h : s.lolMet e .store = true) : exec (.lolDeclare e .store) s = .next (s.lolStore e) := if_pos h

theorem State.lolStore_committed (h : (s.committedClass e).isSome = true) : s.lolStore e = s.lolRaised e 3 := if_pos h

theorem State.lolStore_alone (h : s.committedClass e = none) : s.lolStore e = (s.lolRaised e 3).acquire e 2 := if_neg (by simp [h])

section
variable (s : State) (e criterion : Nat)

@[simp] theorem State.obj_lolRaised (k : Key) : (s.lolRaised e criterion).obj k = s.obj k := s.obj_declare _ _ k
@[simp] theorem State.engine_lolRaised (i : Nat) : (s.lolRaised e criterion).engine i = s.engine i := s.engine_declare _ _ i
@[simp] theorem State.now_lolRaised : (s.lolRaised e criterion).now = s.now := s.now_declare _ _
@[simp] theorem State.fresh_lolRaised : (s.lolRaised e criterion).fresh = s.fresh := s.fresh_declare _ _
@[simp] theorem State.lol_lolRaised : (s.lolRaised e criterion).declared Df.lol e = true := s.declared_declare_same _ _

@[simp] theorem State.rxLocked_lolRaised : (s.lolRaised e criterion).rxLocked e = s.rxLocked e := by
  have hrx : (s.lolRaised e criterion).receiver e = s.receiver e := s.obj_lolRaised e criterion _
  simp only [State.rxLocked, hrx]

@[simp] theorem State.toStore_lolRaised : (s.lolRaised e criterion).toStore e = s.toStore e := by
  simp [State.toStore, State.mode, State.free]

end

/-- A criterion of R119 stores the state and leaves the receiver where it is. -/
theorem State.lolDeclared_spec (s : State) (e : Nat) (cause : LolCause) :
    (s.lolDeclared e cause).declared Df.lol e = true ∧ (s.lolDeclared e cause).receiver e = s.receiver e ∧
    ((s.lolDeclared e cause).engine e).lolAt = some s.now ∧ (s.lolDeclared e cause).fresh = s.fresh + 2 ∧
    ((s.lolDeclared e cause).engine e).stored = some (s.toStore e) := by
  unfold State.lolDeclared
  refine ⟨?_, ?_, ?_, ?_, ?_⟩
  · simp [State.storeRx]
  · simp [State.receiver, State.obj_storeRx]
  · simp
  · simp [State.storeRx]
  · simp [State.engine_storeRx]

/-- A lost page starts a new-signal acquisition, which stores the state of a locked receiver alone. -/
theorem State.lolStore_alone_spec (h : s.committedClass e = none) :
    (s.lolStore e).declared Df.lol e = true ∧ ((s.lolStore e).receiver e = 3 ∧ (s.lolStore e).obj (Obj.LDSP_ACQ_CLASS e) = 2 ∧
      ((s.lolStore e).engine e).trigger = s.now) ∧
    (s.lolStore e).fresh = (if s.rxLocked e then s.fresh + 2 else s.fresh) ∧
    ((s.lolStore e).engine e).stored = if s.rxLocked e then some (s.toStore e) else (s.engine e).stored := by
  rw [State.lolStore_alone h]
  refine ⟨?_, ⟨State.receiver_acquire _ e 2, State.class_acquire _ e 2, ?_⟩, ?_, ?_⟩
  · simp [State.lol_acquire]
  · simp [State.trigger_acquire]
  · simp [State.fresh_acquire]
  · simp [State.stored_acquire, State.stored_leaveLock]

end

/-! ## The acquisition after a declaration (R107, R114, R121) -/

theorem Engine.restored_some {r : Engine} {x : Stored} (h : r.stored = some x) : r.restored = r.equalised x := by
  unfold Engine.restored
  rw [h]

section
variable (s : State) (e : Nat)

theorem State.obj_followFixed_cd : (s.followFixed e).obj (Obj.LDSP_CD_EST e) =
    if s.obj (Obj.LDSP_CD_MODE e) = 1 then encode 4 (s.fixedCd e) else s.obj (Obj.LDSP_CD_EST e) := by
  unfold State.followFixed
  split
  · exact s.obj_setInt_same _ _
  · rfl

theorem State.fixedCd_congr {s t : State} {e : Nat} (hm : t.mode e = s.mode e) (hf : t.obj (Obj.LDSP_CD_FIXED e) = s.obj (Obj.LDSP_CD_FIXED e)) :
    t.fixedCd e = s.fixedCd e := by
  simp [State.fixedCd, State.objInt, hm, hf]

variable {s e}

/-- The estimates of an acquisition from a stored state (R106). -/
theorem State.obj_restoreRx_some {x : Stored} (h : (s.engine e).stored = some x) :
    (s.restoreRx e).obj (Obj.LDSP_FREQ_EST e) = x.offset ∧ (s.restoreRx e).obj (Obj.LDSP_CD_EST e) =
      if s.obj (Obj.LDSP_CD_MODE e) = 1 then encode 4 (s.fixedCd e) else x.cd := by
  unfold State.restoreRx
  rw [h]
  dsimp only
  refine ⟨?_, ?_⟩
  · rw [State.obj_followFixed _ e (by simp)]
    simp
  · rw [State.obj_followFixed_cd, State.fixedCd_congr (s := s) (by simp [State.mode]) (by simp)]
    simp

/-- An engine whose attempt counts from an earlier tick. -/
def Engine.attempting (n : Nat) (r : Engine) : Engine := { r with trigger := n, attempt := n }

/-- The receiver between the lock it has lost and the acquisition from its stored state. -/
def State.relocking (s : State) (e : Nat) : State :=
  ((s.leaveLock e).setReceiver e 4).withEngine e fun r => { r with stored := (s.engine e).stored }

theorem State.startLol_due {n : Nat} (h : (s.engine e).lolAt = some n) (hn : n < s.now) :
    s.startLol e = ((s.relocking e).acquire e 3).withEngine e (Engine.attempting n) := by
  unfold State.startLol
  rw [h]
  exact if_pos hn

theorem State.relocking_unlocked : (s.relocking e).leaveLock e = s.relocking e := by
  refine State.leaveLock_unlocked _ e ?_
  simp [State.rxLocked, State.receiver, State.relocking, State.setReceiver]

theorem State.obj_relocking {k : Key} (hk : k.c = 0x11) (h : k ≠ Obj.LDSP_ACQ_STATE e) : (s.relocking e).obj k = s.obj k := by
  simp [State.relocking, State.setReceiver, hk, h]

theorem State.stored_relocking : ((s.relocking e).engine e).stored = (s.engine e).stored := by simp [State.relocking]

theorem State.now_relocking : (s.relocking e).now = s.now := by simp [State.relocking, State.setReceiver]

/-- Objects and engine of the acquisition from the state stored at the declaration. -/
theorem State.acquire_relocking {x : Stored} (h : (s.engine e).stored = some x) :
    ((s.relocking e).acquire e 3).obj (Obj.LDSP_FREQ_EST e) = x.offset ∧ ((s.relocking e).acquire e 3).obj (Obj.LDSP_CD_EST e) =
      (if s.obj (Obj.LDSP_CD_MODE e) = 1 then encode 4 (s.fixedCd e) else x.cd) ∧
    ((s.relocking e).acquire e 3).engine e =
      (((s.relocking e).engine e).acquiring s.now).equalised x := by
  have hstored : (((s.relocking e).engine e).acquiring s.now).stored = some x := State.stored_relocking.trans h
  have hobj : ∀ k : Key, k.c = 0x11 → k ≠ Obj.LDSP_ACQ_STATE e → k ≠ Obj.LDSP_ACQ_CLASS e → ((s.relocking e).started e 3).obj k = s.obj k :=
    fun k hk hs hc => (State.obj_started _ e hk hs hc).trans (State.obj_relocking hk hs)
  have hest := State.obj_restoreRx_some (s := (s.relocking e).started e 3) (e := e) (x := x)
    (by simpa [State.started, State.setReceiver, State.relocking_unlocked, State.now_relocking] using hstored)
  rw [hobj _ rfl (by simp) (by simp), State.fixedCd_congr (s := s) (hobj _ rfl (by simp) (by simp)) (hobj _ rfl (by simp) (by simp))] at hest
  obtain ⟨hfreq, hcd⟩ := hest
  refine ⟨(State.acquire_stored _ e) ▸ hfreq, (State.acquire_stored _ e) ▸ hcd, ?_⟩
  rw [State.engine_acquire, if_pos rfl, State.relocking_unlocked, State.now_relocking, Engine.restored_some hstored]

end

/-- Settles O24: a criterion of VALID stores and waits, a lost page acquires at once, and the acquisition of the next boundary starts from what was stored. -/
theorem lossOfLockReacquires : Obligations.LossOfLockReacquires := by
  intro e s
  refine ⟨fun cause h => ?_, fun ratio ticks misses hr => ?_, fun n x hlol hn hstored => ?_, fun x hstored ht => ?_⟩
  · by_cases hc : cause = .store
    · subst hc
      cases hcls : s.committedClass e with
      | some cls =>
        have hstore := State.lolStore_committed (e := e) (s := s) (by rw [hcls]; rfl)
        refine ⟨_, exec_lolDeclare_store h, ?_, fun g => absurd rfl g, fun _ _ => ?_, fun _ g => ?_, fun g => ?_, fun _ => ?_⟩
        · rw [hstore]; simp
        · rw [hstore]; simp [State.receiver]
        · simp at g
        · exact absurd (g.2 rfl) (by simp)
        · rw [hstore]; simp
      | none =>
        obtain ⟨hlol, hacq, hfresh, hst⟩ := State.lolStore_alone_spec hcls
        refine ⟨_, exec_lolDeclare_store h, hlol, fun g => absurd rfl g, fun _ g => ?_, fun _ _ => hacq, fun g => ?_, fun g => ?_⟩
        · simp at g
        · rw [hfresh, hst, if_pos g.1, if_pos g.1]; exact ⟨rfl, rfl⟩
        · rw [hfresh, hst]; simp [g]
    · obtain ⟨hlol, hrx, hat, hfresh, hst⟩ := s.lolDeclared_spec e cause
      have hlocked := State.rxLocked_of_lolMet hc h
      exact ⟨_, exec_lolDeclare_valid hc h, hlol, fun _ => ⟨hrx, hat⟩, fun g => absurd g hc, fun g => absurd g hc, fun _ => ⟨hfresh, hst⟩,
        fun g => absurd hlocked (by simp [g])⟩
  · simp [State.lolMet, State.rxValid, hr]
  · obtain ⟨hfreq, hcd, heng⟩ := State.acquire_relocking hstored
    intro t
    have ht : t = ((s.relocking e).acquire e 3).withEngine e (Engine.attempting n) := State.startLol_due hlol hn
    have hteng : t.engine e = ((((s.relocking e).engine e).acquiring s.now).equalised x).attempting n := by
      rw [ht, State.engine_withEngine_same, heng]
    have hobj : ∀ k, t.obj k = ((s.relocking e).acquire e 3).obj k := fun k => by rw [ht, State.obj_withEngine]
    clear_value t
    have hrx := (s.relocking e).receiver_acquire e 3
    unfold State.receiver at hrx ⊢
    rw [hteng, hobj, hobj, hobj, hobj, hrx, State.class_acquire, hfreq, hcd]
    exact ⟨rfl, rfl, rfl, rfl, rfl, rfl, rfl, rfl, rfl⟩
  · change execStoredStateExpire e s = _
    unfold execStoredStateExpire
    rw [hstored]
    exact if_pos ht

end Sys2Proof.Machine
end

section
/-! PROOFS. The sync hunters: what one position does to the candidates while the receiver hunts, and what it shows while VALID. -/

namespace Sys2Proof.Machine

/-! ## The tests of the two hunters (R111, R113) -/

section
variable {period : Nat} {t : SyncTest} {c : Candidate}

theorem primaryTest_free : primaryTest period none true t = (some ⟨t.pos, t.metric, false⟩, false) := rfl

theorem primaryTest_confirmed (h : t.pos = c.pos + period) : primaryTest period (some c) true t = (some ⟨t.pos, t.metric, true⟩, false) := if_pos h

theorem primaryTest_missed (h : t.pos = c.pos + period) : primaryTest period (some c) false t = (none, true) := if_pos h

/-- A position of the secondary hunter: one that is not congruent to the primary candidate. -/
def apart (period : Nat) (primary : Option Candidate) (t : SyncTest) : Prop := ∀ q, primary = some q → t.pos % period ≠ q.pos % period

theorem secondaryTest_apart {primary : Option Candidate} (h : apart period primary t) (held : Option Candidate) (ok : Bool) :
    secondaryTest period primary held ok t = secondaryTest period none held ok t := by
  cases primary with
  | none => rfl
  | some q =>
    have hq : t.pos % period ≠ q.pos % period := h q rfl
    simp [secondaryTest, hq]

theorem secondaryTest_free : secondaryTest period none none true t = some ⟨t.pos, t.metric, false⟩ := rfl

theorem secondaryTest_confirmed (h : t.pos = c.pos + period) :
    secondaryTest period none (some c) true t = some ⟨t.pos, t.metric, true⟩ := if_pos h

/-- A candidate at least 3 dB stronger than the standing one displaces it (R112). -/
theorem preemptClause_stronger {p : Candidate} (h : p.metric + 300 ≤ c.metric) : preemptClause (some p) (some c) = some 1 := if_pos h

end

/-! ## One position while the receiver hunts (R107, R111, R112) -/

/-- Confirmation shows its ticks and its metric (R107, R111, R115). -/
theorem State.confirm_spec (s : State) (e : Nat) (c : Candidate) :
    (s.confirm e c).receiver e = 7 ∧ ((s.confirm e c).engine e).everLocked = true ∧ ((s.confirm e c).engine e).confirmedAt = s.now ∧
    ((s.confirm e c).engine e).lockedMetric = c.metric ∧ (s.confirm e c).obj (Obj.LDSP_ACQ_LAST_TIME e) = sat32 (s.now - (s.engine e).trigger) ∧
    (s.confirm e c).obj (Obj.LDSP_LAST_METRIC e) = encode 4 c.metric := by
  unfold State.confirm
  extract_lets r ticks t u
  have hobj : ∀ k, k.c = 0x11 → u.obj k = t.obj k := fun k hk => by
    unfold u
    split
    · exact t.obj_setObj_ne _ (by rintro rfl; simp at hk)
    · rfl
  refine ⟨?_, ?_, ?_, ?_, ?_, ?_⟩
  · simp [State.receiver, hobj, t, State.setReceiver]
  · simp
  · simp
  · simp
  · simp [hobj, t, ticks, r]
  · simp [hobj, t]

section
variable {s : State} {e : Nat} {p : SyncTest} {c : Candidate}

theorem State.huntPosition_candidate (hp : (s.engine e).primary = none) (hs : (s.engine e).secondary = none) (hm : s.syncMatch e p = true) :
    s.huntPosition e (some p) none =
      (s.setReceiver e 6).withEngine e fun r => { r with primary := some ⟨p.pos, p.metric, false⟩, secondary := none } := by
  simp only [State.huntPosition, hp, hs, hm, primaryTest_free]
  rfl

theorem State.huntPosition_confirms (hp : (s.engine e).primary = some c) (hs : (s.engine e).secondary = none)
    (hpos : p.pos = c.pos + syncPeriod (s.mode e)) (hm : s.syncMatch e p = true) :
    s.huntPosition e (some p) none = s.confirm e ⟨p.pos, p.metric, true⟩ := by
  simp only [State.huntPosition, hp, hs, hm, primaryTest_confirmed hpos]
  rfl

theorem State.huntPosition_misses (hp : (s.engine e).primary = some c) (hs : (s.engine e).secondary = none)
    (hpos : p.pos = c.pos + syncPeriod (s.mode e)) (hm : s.syncMatch e p = false) :
    s.huntPosition e (some p) none = ((s.bump (Obj.LDSP_FALSE_CAND_COUNT e)).setReceiver e 5).withEngine e fun r =>
      { r with primary := none, secondary := none, afterFalse := r.afterFalse || true } := by
  simp only [State.huntPosition, hp, hs, hm, primaryTest_missed hpos]
  rfl

/-- A pre-emption by a candidate that is not yet confirmed: its count, its event, and CONFIRM for the candidate. -/
def State.preempted (s : State) (e : Nat) (old : Int) (c : Candidate) : State :=
  (((s.bump (Obj.LDSP_PREEMPT_COUNT e)).raise Ev.ACQ_PREEMPT [e, encode 4 old, encode 4 c.metric, 1]).setReceiver e 6).withEngine e fun r =>
    { r with primary := some c, secondary := none }

/-- The secondary hunter finds a candidate at least 3 dB stronger than the one under test. -/
theorem State.huntPosition_preempts (hr : s.receiver e = 6) (hp : (s.engine e).primary = some c) (hc : c.confirmed = false)
    (hs : (s.engine e).secondary = none) (hpos : p.pos % syncPeriod (s.mode e) ≠ c.pos % syncPeriod (s.mode e)) (hm : s.syncMatch e p = true)
    (hstrong : c.metric + 300 ≤ p.metric) : s.huntPosition e none (some p) = s.preempted e c.metric ⟨p.pos, p.metric, false⟩ := by
  have hapart : apart (syncPeriod (s.mode e)) (some c) p := fun q hq => by cases hq; exact hpos
  have hclause : preemptClause (some c) (some ⟨p.pos, p.metric, false⟩) = some 1 := preemptClause_stronger hstrong
  simp [State.huntPosition, hr, hp, hc, hs, hm, secondaryTest_apart hapart, secondaryTest_free, hclause, State.preempted]

/-- The secondary candidate takes the place of the weaker one that appears at the primary's position. -/
theorem State.huntPosition_displaces (hp : (s.engine e).primary = none) (hs : (s.engine e).secondary = some c)
    (hc : c.confirmed = false) (hm : s.syncMatch e p = true) (hstrong : p.metric + 300 ≤ c.metric) :
    s.huntPosition e (some p) none = s.preempted e p.metric c := by
  have hclause : preemptClause (some ⟨p.pos, p.metric, false⟩) (some c) = some 1 := preemptClause_stronger hstrong
  simp [State.huntPosition, hp, hc, hs, hm, primaryTest_free, hclause, State.preempted]

theorem State.preempted_spec (s : State) (e : Nat) (old : Int) (c : Candidate) :
    (s.preempted e old c).receiver e = 6 ∧ ((s.preempted e old c).engine e).primary = some c ∧
    (s.preempted e old c).obj (Obj.LDSP_PREEMPT_COUNT e) = u64 (s.obj (Obj.LDSP_PREEMPT_COUNT e) + 1) := by
  simp [State.preempted, State.receiver, State.setReceiver]

/-! ## One position while VALID (R122) -/

theorem State.trackLocked_own (hp : (s.engine e).primary = some c) (hpos : p.pos % syncPeriod (s.mode e) = c.pos % syncPeriod (s.mode e))
    (hm : s.syncMatch e p = true) :
    s.trackLocked e p = s.withEngine e fun r => { r with primary := some ⟨p.pos, p.metric, true⟩, lockedMetric := p.metric } := by
  simp [State.trackLocked, hp, hpos, hm]

/-- A rival that is confirmed at least 3 dB above the locked signal is reported, once in an epoch. -/
theorem State.monitorPosition_rival (hapart : apart (syncPeriod (s.mode e)) (s.engine e).primary p) (hs : (s.engine e).secondary = some c)
    (hpos : p.pos = c.pos + syncPeriod (s.mode e)) (hm : s.syncMatch e p = true) (hstrong : (s.engine e).lockedMetric + 300 ≤ p.metric)
    (hepoch : (s.engine e).rivalEpoch ≠ some s.epoch) :
    s.monitorPosition e p = ((s.withEngine e fun r => { r with secondary := none }).withEngine e fun r => { r with rivalEpoch := some s.epoch }).raise
      Ev.SYNC_RIVAL [e, encode 4 (s.engine e).lockedMetric, encode 4 p.metric] := by
  simp [State.monitorPosition, secondaryTest_apart hapart, hs, hm, secondaryTest_confirmed hpos, hstrong, hepoch]

end

section
variable {s : State} {e : Fin 4}

theorem exec_syncPosition_hunts (h : s.receiver e = 5 ∨ s.receiver e = 6) (p q : Option SyncTest) :
    exec (.syncPosition e p q) s = .next (s.huntPosition e p q) := if_pos h

theorem exec_syncPosition_tracks (h : s.receiver e = 8) (p : SyncTest) : exec (.syncPosition e (some p) none) s = .next (s.trackLocked e p) :=
  (if_neg (by simp [h])).trans (if_pos h)

theorem exec_syncPosition_monitors (h : s.receiver e = 8) (q : SyncTest) : exec (.syncPosition e none (some q)) s = .next (s.monitorPosition e q) :=
  (if_neg (by simp [h])).trans (if_pos h)

end

/-- Settles O23: each position by the lemma of what it finds. -/
theorem huntersConfirmAPosition : Obligations.HuntersConfirmAPosition := by
  intro e s p
  refine ⟨fun hr hp hs hm => ?_, fun c hr hp hs hpos => ⟨fun hm => ?_, fun hm => ?_⟩, fun c hr hp hc hs hpos hm hstrong => ?_,
    fun c q hr hp hs hc _ hm hstrong => ?_, fun c hr hp hpos hm => ?_, fun c hr hapart hs hpos hm hstrong hepoch => ?_⟩
  · refine ⟨_, exec_syncPosition_hunts (.inl hr) _ _, ?_⟩
    rw [State.huntPosition_candidate hp hs hm]
    simp [State.receiver, State.setReceiver]
  · refine ⟨_, exec_syncPosition_hunts (.inr hr) _ _, ?_⟩
    rw [State.huntPosition_confirms hp hs hpos hm]
    exact s.confirm_spec e _
  · refine ⟨_, exec_syncPosition_hunts (.inr hr) _ _, ?_⟩
    rw [State.huntPosition_misses hp hs hpos hm]
    simp [State.receiver, State.setReceiver]
  · refine ⟨_, exec_syncPosition_hunts (.inr hr) _ _, ?_⟩
    rw [State.huntPosition_preempts hr hp hc hs hpos hm hstrong]
    exact s.preempted_spec e _ _
  · refine ⟨_, exec_syncPosition_hunts (.inl hr) _ _, ?_⟩
    rw [State.huntPosition_displaces hp hs hc hm hstrong]
    exact s.preempted_spec e _ _
  · rw [exec_syncPosition_tracks hr, State.trackLocked_own hp hpos hm]
  · refine ⟨_, exec_syncPosition_monitors hr p, ?_⟩
    rw [State.monitorPosition_rival hapart hs hpos hm hstrong hepoch]
    refine ⟨?_, ?_, ?_⟩
    · simpa [State.receiver] using hr
    · simp
    · rfl

end Sys2Proof.Machine
end

section
/-! PROOFS. Writes of a line configuration, their commit at the boundary, restarts, and the start of traffic. -/

namespace Sys2Proof.Machine

/-! ## Staged writes of a transmitter configuration (R34, R99) -/

section
variable (s : State) (k : Key) (v : Nat)

theorem State.mem_stage_same : ⟨s.now + 1, .write k v⟩ ∈ (s.stage k v).agenda := List.mem_append_right _ List.mem_cons_self

/-- A write of one value that waits is still there when another of that value is staged. -/
theorem State.mem_stage_of_mem {k' : Key} (h : ⟨s.now + 1, .write k' v⟩ ∈ s.agenda) : ⟨s.now + 1, .write k' v⟩ ∈ (s.stage k v).agenda := by
  by_cases hk : k' = k
  · subst hk; exact s.mem_stage_same k' v
  · exact List.mem_append_left _ (List.mem_filter.mpr ⟨h, by simp [hk]⟩)

theorem State.stageTx_frame : s.stageTx k v = { s with reg := (s.stageTx k v).reg, agenda := (s.stageTx k v).agenda } := rfl

theorem State.bit_stageTx_same : bit ((s.stageTx k v).obj (Obj.LDSP_TX_STATUS k.i)) 0 = false := by
  simp [State.stageTx, State.setTxStatus]

theorem State.bit_stageTx {i : Nat} (h : bit (s.obj (Obj.LDSP_TX_STATUS i)) 0 = false) :
    bit ((s.stageTx k v).obj (Obj.LDSP_TX_STATUS i)) 0 = false := by
  by_cases hi : i = k.i
  · rw [hi]; exact s.bit_stageTx_same k v
  · have hne : Obj.LDSP_TX_STATUS i ≠ Obj.LDSP_TX_STATUS k.i := by simpa using hi
    rw [State.stageTx, State.setTxStatus, State.obj_setObj_ne _ _ hne]
    exact h

end

/-- A write staged in a tick waits for the boundary after it, and the configuration of its engine is not the applied one. -/
def State.stagedIn (t : State) (n : Nat) (k : Key) (v : Nat) : Prop :=
  t.now = n ∧ ⟨n + 1, .write k v⟩ ∈ t.agenda ∧ bit (t.obj (Obj.LDSP_TX_STATUS k.i)) 0 = false

theorem State.stagedIn_stageTx_same {t : State} {n : Nat} (h : t.now = n) (k : Key) (v : Nat) : (t.stageTx k v).stagedIn n k v := by
  subst h
  exact ⟨rfl, t.mem_stage_same k v, t.bit_stageTx_same k v⟩

theorem State.stagedIn_stageTx {t : State} {n v : Nat} {k' : Key} (h : t.stagedIn n k' v) (k : Key) : (t.stageTx k v).stagedIn n k' v := by
  obtain ⟨rfl, hmem, hbit⟩ := h
  exact ⟨rfl, t.mem_stage_of_mem k v hmem, t.bit_stageTx k v hbit⟩

/-- One value staged for an object of every member of a group. -/
def State.stageGroup (s : State) (k : Nat → Key) (v : Nat) (group : List Nat) : State := group.foldl (fun t i => t.stageTx (k i) v) s

section
variable {s : State} {k : Nat → Key} {v : Nat}

theorem State.stageGroup_frame (group : List Nat) :
    s.stageGroup k v group = { s with reg := (s.stageGroup k v group).reg, agenda := (s.stageGroup k v group).agenda } := by
  refine List.foldlRecOn (motive := fun t : State => t = { s with reg := t.reg, agenda := t.agenda }) group _ rfl fun t ht i _ => ?_
  rw [State.stageTx_frame, ht]

/-- Every member's write waits for the next boundary, and its configuration is not the applied one (R87, R99). -/
theorem State.stageGroup_staged (hk : ∀ i, (k i).i = i) {group : List Nat} {i : Nat} (hi : i ∈ group) :
    ⟨s.now + 1, .write (k i) v⟩ ∈ (s.stageGroup k v group).agenda ∧ bit ((s.stageGroup k v group).obj (Obj.LDSP_TX_STATUS i)) 0 = false := by
  have h : (s.stageGroup k v group).stagedIn s.now (k i) v :=
    foldl_reaches (P := fun t : State => t.now = s.now) (Q := fun t => t.stagedIn s.now (k i) v) (f := fun t j => t.stageTx (k j) v)
      (fun _ _ _ ht => ht) (fun _ ht => State.stagedIn_stageTx_same ht (k i) v) (fun _ j ht => State.stagedIn_stageTx ht (k j)) hi rfl
  obtain ⟨_, hmem, hbit⟩ := h
  exact ⟨hmem, hk i ▸ hbit⟩

end

/-! ## The writes of class 0x11 (R82, R86, R87, R92 to R95, R107) -/

theorem acceptDsp_mode (e : Nat) (v : Val) (s : State) : acceptDsp (Obj.LDSP_MODE e) v s =
    if s.modeAllowed e v.v then (.ok, s.stageGroup Obj.LDSP_MODE v.v (s.bond e)) else (.precond, s) := by
  have g : acceptDsp (Obj.LDSP_MODE e) v s =
      if (Obj.LDSP_MODE e).m = 1 ∧ ¬ s.modeAllowed e v.v then (.precond, s) else (.ok, s.stageGroup Obj.LDSP_MODE v.v (s.bond e)) := rfl
  rw [g]
  cases h : s.modeAllowed e v.v with
  | true => simp
  | false => simp

/-- Sub-carriers and roll-off are staged for the group without a check of their own. -/
theorem acceptDsp_shape {k : Nat → Key} (h : k ∈ [Obj.LDSP_SUBCARRIERS, Obj.LDSP_ROLLOFF]) (e : Nat) (v : Val) (s : State) :
    acceptDsp (k e) v s = (.ok, s.stageGroup k v.v (s.bond e)) := by
  simp only [List.mem_cons, List.not_mem_nil, or_false] at h
  rcases h with rfl | rfl
  · rfl
  · rfl

/-- The other entries of an engine's notches, as staged or in force. -/
def State.otherNotches (s : State) (e index : Nat) : List Nat :=
  ((List.range 8).filter (· ≠ index)).map fun i => s.latest (Obj.LDSP_TX_NOTCH e i)

/-- The limits of R94 and R95 for an entry, against the mode, the roll-off and the other entries. -/
def State.notchFits (s : State) (e index w : Nat) : Prop :=
  notchLegal w = true ∧ (symbolRate (s.mode e) = 0 ∨ (notchInside (symbolRate (s.mode e)) (s.obj (Obj.LDSP_ROLLOFF e)) w = true ∧
    notchSumFits (symbolRate (s.mode e)) (s.obj (Obj.LDSP_ROLLOFF e)) (w :: s.otherNotches e index) = true)) ∧
    (s.otherNotches e index).any (notchOverlap w) = false

section
variable {s : State} {e index w : Nat} {v : Val}

/-- A write of LDSP_TX_NOTCH, check by check. -/
theorem acceptDsp_notch (hw : w = Nat.land v.v 0xFFFF0FFF) : acceptDsp (Obj.LDSP_TX_NOTCH e index) v s =
    if ¬ notchLegal w then (.range, s)
    else if symbolRate (s.mode e) ≠ 0 ∧ ¬ (notchInside (symbolRate (s.mode e)) (s.obj (Obj.LDSP_ROLLOFF e)) w ∧
      notchSumFits (symbolRate (s.mode e)) (s.obj (Obj.LDSP_ROLLOFF e)) (w :: s.otherNotches e index)) then (.range, s)
    else if (s.otherNotches e index).any (notchOverlap w) then (.range, s)
    else (.ok, s.stageTx (Obj.LDSP_TX_NOTCH e index) w) := by
  subst hw
  rfl

theorem acceptDsp_notch_fits (hw : w = Nat.land v.v 0xFFFF0FFF) (h : s.notchFits e index w) :
    acceptDsp (Obj.LDSP_TX_NOTCH e index) v s = (.ok, s.stageTx (Obj.LDSP_TX_NOTCH e index) w) := by
  obtain ⟨hlegal, hlimits, hover⟩ := h
  rw [acceptDsp_notch hw, if_neg (by simp [hlegal]), if_neg fun g => g.2 (hlimits.resolve_left g.1), if_neg (by simp [hover])]

theorem acceptDsp_notch_unfit (hw : w = Nat.land v.v 0xFFFF0FFF) (h : ¬ s.notchFits e index w) :
    acceptDsp (Obj.LDSP_TX_NOTCH e index) v s = (.range, s) := by
  rw [acceptDsp_notch hw]
  split
  case isTrue => rfl
  case isFalse hlegal =>
    split
    case isTrue => rfl
    case isFalse hlimits =>
      refine if_pos (Classical.byContradiction fun hover => h ⟨not_not.mp hlegal, ?_, Bool.eq_false_of_not_eq_true hover⟩)
      by_cases hrate : symbolRate (s.mode e) = 0
      · exact .inl hrate
      · exact .inr (not_not.mp fun g => hlimits ⟨hrate, g⟩)

end

/-- The agenda without an earlier restart of an engine. -/
def State.agendaWithoutRestart (s : State) (e : Nat) : List Pending :=
  s.agenda.filter fun p => match p.due with
    | .acqRestart i _ => decide (i ≠ e)
    | _ => true

theorem acceptDsp_restart (e : Nat) (v : Val) {s : State} {n : Nat} (hn : s.now = n) : acceptDsp (Obj.LDSP_ACQ_RESTART e) v s =
    (.ok, { s with agenda := s.agendaWithoutRestart e ++ [⟨n + 1, .acqRestart e v.v⟩] }) := by
  subst hn
  rfl

theorem State.mem_of_agendaWithoutRestart {s : State} {e : Nat} {p : Pending} (h : p ∈ s.agendaWithoutRestart e) : p ∈ s.agenda :=
  (List.mem_filter.mp h).1

theorem State.due_ne_of_agendaWithoutRestart {s : State} {e : Nat} {p : Pending} (h : p ∈ s.agendaWithoutRestart e) (kind : Nat) :
    p.due ≠ .acqRestart e kind := by
  intro hp
  have g := (List.mem_filter.mp h).2
  rw [hp] at g
  exact of_decide_eq_true g rfl

/-! ## What a commit leaves of the configuration (R85, R99, R107) -/

/-- The modes in force, the agenda, and when an engine's traffic starts. -/
structure ConfigView where
  mode : Nat → Nat
  agenda : List Pending
  trafficFrom : Option Nat

def State.config (s : State) (e : Nat) : ConfigView := ⟨s.mode, s.agenda, (s.engine e).trafficFrom⟩

section
variable (s : State) (e : Nat)

@[simp] theorem State.config_setObj {k : Key} (v : Nat) (h : ∀ i, Obj.LDSP_MODE i ≠ k) : (s.setObj k v).config e = s.config e := by
  have hm : (s.setObj k v).mode = s.mode := funext fun i => s.obj_setObj_ne v (h i)
  simp [State.config, hm]

@[simp] theorem State.config_withEngine {f : Engine → Engine} (h : ∀ r, (f r).trafficFrom = r.trafficFrom) :
    (s.withEngine e f).config e = s.config e := by
  have ht : ((s.withEngine e f).engine e).trafficFrom = (s.engine e).trafficFrom := by rw [State.engine_withEngine_same, h]
  simp only [State.config, ht]
  rfl

@[simp] theorem State.config_raise (ev : EvRow) (xs : List Nat) : (s.raise ev xs).config e = s.config e := rfl

@[simp] theorem State.config_clear (d i : Nat) : (s.clear d i).config e = s.config e := by
  unfold State.clear
  split <;> rfl

@[simp] theorem State.config_setTxStatus (b : Nat) (on : Bool) : (s.setTxStatus e b on).config e = s.config e := s.config_setObj e _ (by simp)

@[simp] theorem State.config_setReceiver (v : Nat) : (s.setReceiver e v).config e = s.config e := s.config_setObj e _ (by simp)

@[simp] theorem State.config_followFixed : (s.followFixed e).config e = s.config e := by
  unfold State.followFixed
  split
  · exact s.config_setObj e _ (by simp)
  · rfl

@[simp] theorem State.config_unbond : (s.unbond e).config e = s.config e := s.config_setObj e _ (by simp)

@[simp] theorem State.config_refreshTxStatus : (s.refreshTxStatus e).config e = s.config e := by
  unfold State.refreshTxStatus
  extract_lets mode roll ns held curve used scale t
  rw [State.config_setTxStatus, State.config_setTxStatus, State.config_setTxStatus]
  exact s.config_withEngine e fun _ => rfl

@[simp] theorem State.config_leaveLock : (s.leaveLock e).config e = s.config e := by
  have hm : (s.leaveLock e).mode = s.mode := funext fun i => s.obj_leaveLock e rfl
  simp [State.config, hm, State.trafficFrom_leaveLock]

@[simp] theorem State.config_acquire (cls : Nat) : (s.acquire e cls).config e = s.config e := by
  have hm : (s.acquire e cls).mode = s.mode := funext fun i => s.obj_acquire e cls rfl (by simp)
  simp [State.config, hm, State.trafficFrom_acquire]

@[simp] theorem State.config_toOff : (s.toOff e).config e = s.config e := by simp [State.toOff, clearHunters]

@[simp] theorem State.config_refreshRx : (s.refreshRx e).config e = s.config e := by
  unfold State.refreshRx
  split
  · split
    · rfl
    · exact s.config_toOff e
  · split
    · split
      · simp
      · exact s.config_acquire e _
    · rfl

theorem State.config_reacquire (cls : Nat) : (s.reacquire e cls).config e = s.config e := by
  unfold State.reacquire State.dropStored
  extract_lets t
  have ht : t.config e = s.config e := by
    unfold t
    split
    · exact s.config_refreshRx e
    · split
      · simp
      · exact s.config_acquire e cls
  simp [ht]

theorem State.stored_reacquire (cls : Nat) : ((s.reacquire e cls).engine e).stored = none := by
  simp [State.reacquire, State.dropStored]

/-- The engine with its new mode, and its traffic held back where the mode or the subcarriers are others (R99). -/
def State.remodelled (s : State) (e m : Nat) : State :=
  let t := s.setObj (Obj.LDSP_MODE e) m
  if s.mode e ≠ t.mode e ∨ s.obj (Obj.LDSP_SUBCARRIERS e) ≠ t.obj (Obj.LDSP_SUBCARRIERS e) then
    (t.withEngine e fun r => { r with trafficFrom := some (t.now + 4) }).emptyPipe e
  else t

theorem State.config_remodelled (m : Nat) : (s.remodelled e m).mode e = m ∧ (∀ i, i ≠ e → (s.remodelled e m).mode i = s.mode i) ∧
    (s.remodelled e m).agenda = s.agenda ∧
    (m ≠ s.mode e → ((s.remodelled e m).engine e).trafficFrom = some (s.now + 4)) := by
  unfold State.remodelled
  extract_lets t
  have hm : t.mode e = m := s.obj_setObj_same _ _
  refine ⟨?_, fun i hi => ?_, ?_, fun hne => ?_⟩
  · split <;> exact hm
  · have hi' : t.mode i = s.mode i := s.obj_setObj_ne _ (by simpa using hi)
    split <;> exact hi'
  · split <;> rfl
  · rw [if_pos (.inl (hm ▸ Ne.symm hne))]
    simp [State.emptyPipe, t]

/-- What the commit of one mode leaves of the configuration, and of the stored state (R85, R99, R114). -/
theorem State.commitMode_single (m : Nat) : (s.commitMode e [(Obj.LDSP_MODE e, m)]).config e = (s.remodelled e m).config e ∧
    ((s.commitMode e [(Obj.LDSP_MODE e, m)]).engine e).stored = none := by
  unfold State.commitMode
  rw [if_neg (by simp)]
  extract_lets oldMode oldSub t sub u v w x
  refine ⟨?_, State.stored_reacquire _ e _⟩
  have hw : w.config e = u.config e := by simp [w, v]
  have hx : x.config e = u.config e := by
    unfold x
    split
    · exact (w.config_unbond e).trans hw
    · exact hw
  rw [State.config_reacquire, hx]
  rfl

end

theorem State.config_atBoundary (s : State) (f : State → State) (e : Nat) :
    (s.atBoundary f).config e = (f { s with now := s.now + 1, tick := s.nextTick }).config e := rfl

theorem State.engine_atBoundary (s : State) (f : State → State) (e : Nat) :
    (s.atBoundary f).engine e = (f { s with now := s.now + 1, tick := s.nextTick }).engine e := rfl

theorem State.mode_of_config {s t : State} {e : Nat} (h : t.config e = s.config e) (i : Nat) : t.mode i = s.mode i :=
  congrFun (congrArg ConfigView.mode h) i

/-- Of the engines only the one whose configuration is due commits. -/
theorem State.commitModes_single {c : State} {b m : Nat} (e : Fin 4) (ha : c.agenda = [⟨b, .write (Obj.LDSP_MODE e) m⟩]) (hb : b ≤ c.now) :
    c.commitModes = ({ c with agenda := [] } : State).commitMode e [(Obj.LDSP_MODE e, m)] := by
  have hidle : ∀ (t : State) i, t.commitMode i [] = t := fun t i => if_pos rfl
  have hkey : modeKey (Obj.LDSP_MODE e) = true := rfl
  unfold State.commitModes
  simp only [ha, isMode, hkey, hb, List.filter, decide_true, Bool.and_self, Bool.not_true, List.filterMap]
  fin_cases e <;> simp [List.range, List.range.loop, hidle]

/-- MODE_COMMIT with one mode waiting. -/
theorem exec_modeCommit_single {s c : State} {b m : Nat} (e : Fin 4) (hc : c = s.closeTick) (ha : c.agenda = [⟨b, .write (Obj.LDSP_MODE e) m⟩])
    (hb : b ≤ c.now + 1) : ∃ t : State, exec .modeCommit s = .next t ∧
      t.config e = (State.remodelled { c with now := c.now + 1, tick := c.nextTick, agenda := [] } e m).config e ∧ (t.engine e).stored = none := by
  obtain ⟨hconfig, hstored⟩ := State.commitMode_single { c with now := c.now + 1, tick := c.nextTick, agenda := [] } e m
  have hrun := State.commitModes_single (c := { c with now := c.now + 1, tick := c.nextTick }) e ha hb
  refine ⟨c.atBoundary State.commitModes, congrArg Host.Outcome.next (State.comingPart_due hc (State.comesDue_single ha hb rfl) _), ?_, ?_⟩
  · rw [State.config_atBoundary, hrun]; exact hconfig
  · rw [State.engine_atBoundary, hrun]; exact hstored

/-- Settles O21: writes check by check, and the commit by what each of its operations leaves of the configuration. -/
theorem lineConfigurationsCommit : Obligations.LineConfigurationsCommit := by
  intro e s
  refine ⟨fun rq x val v h => ?_, fun rq x val v k c hc h => ?_, fun rq x index val v h => ?_, fun rq x kind c hc h => ?_,
    fun c b m hc ha hb => ?_, fun b hb hdue => ?_⟩
  · intro u
    have hbond : u.bond e = s.bond e := by simp [u, State.bond]
    have hnow : u.now = s.now := s.now_served rq x
    refine ⟨fun hm => ?_, fun hm => ⟨u.stageGroup Obj.LDSP_MODE v.v (u.bond e), ?_, State.stageGroup_frame _, fun i hi => ?_⟩⟩
    · exact congrArg Host.Outcome.next (serveWrite_refused h acceptDsp ((acceptDsp_mode e v u).trans (if_neg (by simp [hm]))))
    · exact congrArg Host.Outcome.next (serveWrite_accepted h acceptDsp ((acceptDsp_mode e v u).trans (if_pos hm)))
    · rw [← hnow]
      exact State.stageGroup_staged (fun _ => rfl) (hbond ▸ hi)
  · have hshape : k ∈ [Obj.LDSP_SUBCARRIERS, Obj.LDSP_ROLLOFF] ∧ exec c s = .next (serveWrite acceptDsp rq (k e) val s) ∧ ∀ i, (k i).i = i := by
      simp only [List.mem_cons, List.not_mem_nil, or_false, Prod.mk.injEq] at hc
      rcases hc with ⟨rfl, rfl⟩ | ⟨rfl, rfl⟩
      · exact ⟨by simp, rfl, fun _ => rfl⟩
      · exact ⟨by simp, rfl, fun _ => rfl⟩
    obtain ⟨hk, hexec, hi⟩ := hshape
    have hbond : (s.served rq x).bond e = s.bond e := by simp [State.bond]
    refine ⟨(s.served rq x).stageGroup k v.v (s.bond e), ?_, State.stageGroup_frame _, fun i hmem => ?_⟩
    · rw [hexec, serveWrite_accepted h acceptDsp (acceptDsp_shape hk e v _), hbond]
    · rw [← s.now_served rq x]
      exact State.stageGroup_staged hi hmem
  · intro u w others rate roll fits
    have hmode : u.mode e = s.mode e := by simp [u, State.mode]
    have hroll : u.obj (Obj.LDSP_ROLLOFF e) = s.obj (Obj.LDSP_ROLLOFF e) := by simp [u]
    have hfits : u.notchFits e index w = fits := by
      unfold State.notchFits
      rw [hmode, hroll]
      rfl
    refine ⟨fun hf => ?_, fun hf => ?_⟩
    · exact congrArg Host.Outcome.next (serveWrite_refused h acceptDsp (acceptDsp_notch_unfit rfl (hfits ▸ hf)))
    · exact congrArg Host.Outcome.next (serveWrite_accepted h acceptDsp (acceptDsp_notch_fits rfl (hfits ▸ hf)))
  · have hexec : exec c s = .next (serveWrite acceptDsp rq (Obj.LDSP_ACQ_RESTART e) ⟨2, kind⟩ s) := by
      simp only [List.mem_cons, List.not_mem_nil, or_false, Prod.mk.injEq] at hc
      rcases hc with ⟨rfl, rfl⟩ | ⟨rfl, rfl⟩
      · rfl
      · rfl
    refine ⟨(s.served rq x).agendaWithoutRestart e, ?_, fun p hp => ?_, fun p hp j => State.due_ne_of_agendaWithoutRestart hp j⟩
    · exact hexec.trans (congrArg Host.Outcome.next (serveWrite_accepted h acceptDsp (acceptDsp_restart e _ (s.now_served rq x))))
    · exact s.agenda_served rq x ▸ State.mem_of_agendaWithoutRestart hp
  · obtain ⟨t, hexec, hconfig, hstored⟩ := exec_modeCommit_single e hc ha hb
    obtain ⟨hmode, hothers, hagenda, htraffic⟩ := State.config_remodelled { c with now := c.now + 1, tick := c.nextTick, agenda := [] } e m
    exact ⟨t, hexec, (State.mode_of_config hconfig e).trans hmode, (congrArg ConfigView.agenda hconfig).trans hagenda,
      fun hm => (congrArg ConfigView.trafficFrom hconfig).trans (htraffic hm), hstored,
      fun i _ hi => (State.mode_of_config hconfig i).trans (hothers i hi)⟩
  · change execTxTrafficStart e s = _
    unfold execTxTrafficStart
    rw [hb]
    exact if_pos hdue

end Sys2Proof.Machine
end

section
/-! PROOFS. The commands of one line engine: what each leaves of the other engines and of the rest of the device. -/

namespace Sys2Proof.Machine

/-! ## What lies beyond a line engine -/

/-- The device without what the commands of a line engine may touch, and the records of the other engines. -/
structure OthersView where
  rest : State
  engine : Nat → Engine

def State.others (s : State) (e : Nat) : OthersView where
  rest := { s with reg := [], eng := [], defects := [], changes := [], agenda := [], fresh := 0, timing := {}, prot := { s.prot with psc := [] } }
  engine i := if i = e then {} else s.engine i

section
variable {s t : State} {e : Nat}

theorem State.engine_of_others (h : t.others e = s.others e) {i : Nat} (hi : i ≠ e) : t.engine i = s.engine i := by
  have g := congrFun (congrArg OthersView.engine h) i
  simpa [State.others, hi] using g

theorem State.eq_of_others (h : t.others e = s.others e) : t = { s with
    reg := t.reg, eng := t.eng, defects := t.defects, changes := t.changes, agenda := t.agenda, fresh := t.fresh, timing := t.timing
    prot := { s.prot with psc := t.prot.psc } } :=
  congrArg (fun v => ({ v.rest with
    reg := t.reg, eng := t.eng, defects := t.defects, changes := t.changes, agenda := t.agenda, fresh := t.fresh, timing := t.timing
    prot := { v.rest.prot with psc := t.prot.psc } } : State)) h

theorem State.others_of_line (h : t.line = s.line) : t.others e = s.others e :=
  congrArg (fun v => v.rest.others e) h

end

section
variable (s : State) (e : Nat)

@[simp] theorem State.others_setObj (k : Key) (v : Nat) : (s.setObj k v).others e = s.others e := rfl
@[simp] theorem State.others_setInt (k : Key) (z : Int) : (s.setInt k z).others e = s.others e := rfl
@[simp] theorem State.others_bump (k : Key) (n : Nat) : (s.bump k n).others e = s.others e := rfl
@[simp] theorem State.others_raise (ev : EvRow) (xs : List Nat) : (s.raise ev xs).others e = s.others e := rfl
@[simp] theorem State.others_drawn : s.drawn.others e = s.others e := rfl
@[simp] theorem State.others_plan (boundary : Nat) (d : Due) : (s.plan boundary d).others e = s.others e := rfl
@[simp] theorem State.others_stage (k : Key) (v : Nat) : (s.stage k v).others e = s.others e := rfl
@[simp] theorem State.others_setReceiver (i v : Nat) : (s.setReceiver i v).others e = s.others e := rfl

@[simp] theorem State.others_declare (d i : Nat) : (s.declare d i).others e = s.others e := by
  unfold State.declare
  split <;> rfl

@[simp] theorem State.others_clear (d i : Nat) : (s.clear d i).others e = s.others e := by
  unfold State.clear
  split <;> rfl

@[simp] theorem State.others_setDefect (d i : Nat) (on : Bool) : (s.setDefect d i on).others e = s.others e := by
  unfold State.setDefect
  split <;> simp

@[simp] theorem State.others_setEngine (r : Engine) : (s.setEngine e r).others e = s.others e := by
  have h : ∀ i, (if i = e then ({} : Engine) else (s.setEngine e r).engine i) = if i = e then {} else s.engine i := fun i => by
    by_cases hi : i = e
    · simp [hi]
    · simp [hi]
  simp only [State.others, h]
  rfl

@[simp] theorem State.others_withEngine (f : Engine → Engine) : (s.withEngine e f).others e = s.others e := s.others_setEngine e _

/-! ## The receiver (R106, R107) -/

@[simp] theorem State.others_storeRx : (s.storeRx e).others e = s.others e := by simp [State.storeRx]

@[simp] theorem State.others_followFixed : (s.followFixed e).others e = s.others e := by
  unfold State.followFixed
  split <;> simp

@[simp] theorem State.others_restoreRx : (s.restoreRx e).others e = s.others e := by
  unfold State.restoreRx
  split <;> simp

@[simp] theorem State.others_leaveLock : (s.leaveLock e).others e = s.others e := by
  cases h : s.rxLocked e with
  | false => rw [s.leaveLock_unlocked e h]
  | true =>
    rw [State.others_of_line (s.line_leaveLock e h)]
    simp

@[simp] theorem State.others_acquire (cls : Nat) : (s.acquire e cls).others e = s.others e := by
  unfold State.acquire
  extract_lets t u
  split <;> simp [u, t]

@[simp] theorem State.others_toDark : (s.toDark e).others e = s.others e := by
  unfold State.toDark
  split <;> simp

@[simp] theorem State.others_toOff : (s.toOff e).others e = s.others e := by simp [State.toOff]

@[simp] theorem State.others_leaveDark : (s.leaveDark e).others e = s.others e := by
  unfold State.leaveDark
  split <;> simp

@[simp] theorem State.others_refreshRx : (s.refreshRx e).others e = s.others e := by
  unfold State.refreshRx
  split
  · split <;> simp
  · split
    · split <;> simp
    · rfl

@[simp] theorem State.others_lolStore : (s.lolStore e).others e = s.others e := by
  unfold State.lolStore
  extract_lets t
  split <;> simp [t]

/-! ## The hunters (R111 to R113, R122) -/

@[simp] theorem State.others_confirm (c : Candidate) : (s.confirm e c).others e = s.others e := by
  unfold State.confirm
  extract_lets r ticks t u
  have hu : u.others e = s.others e := by
    unfold u
    split <;> simp [t]
  simp [hu]

@[simp] theorem State.others_huntPosition (p q : Option SyncTest) : (s.huntPosition e p q).others e = s.others e := by
  unfold State.huntPosition
  extract_lets r period
  split
  extract_lets watching q' t standing
  have ht : t.others e = s.others e := by
    unfold t
    split <;> simp
  split
  · extract_lets u
    split <;> simp [u, ht]
  · split
    · split <;> simp [ht]
    · simp [ht]

@[simp] theorem State.others_trackLocked (t : SyncTest) : (s.trackLocked e t).others e = s.others e := by
  unfold State.trackLocked
  extract_lets own
  split <;> simp

@[simp] theorem State.others_monitorPosition (t : SyncTest) : (s.monitorPosition e t).others e = s.others e := by
  unfold State.monitorPosition
  extract_lets r q u
  clear_value q
  split
  · split
    · split <;> simp [u]
    · simp
  · simp

@[simp] theorem State.others_enterValid : (s.enterValid e).others e = s.others e := by
  unfold State.enterValid
  extract_lets r t
  split <;> simp [t]

/-! ## The optics (R50 to R56, R70) -/

@[simp] theorem State.others_refreshTx : (s.refreshTx e).others e = s.others e := by
  unfold State.refreshTx
  extract_lets dark r
  split
  · simp
  · split <;> simp

@[simp] theorem State.others_loseBias (loops : Nat) : (s.loseBias e loops).others e = s.others e := by
  unfold State.loseBias
  extract_lets lost t
  split
  · rfl
  · split <;> simp [t]

@[simp] theorem State.others_laserTxReads (power : Int) : (s.laserTxReads e power).others e = s.others e := by
  unfold State.laserTxReads
  extract_lets t
  split <;> simp [t]

@[simp] theorem State.others_calEnd (code : Nat) : (s.calEnd e code).others e = s.others e := by
  unfold State.calEnd
  split <;> simp

@[simp] theorem State.others_calAbortCheck (power : Int) : (s.calAbortCheck e power).others e = s.others e := by
  unfold State.calAbortCheck
  split
  · split <;> simp
  · rfl

/-! ## The decoder (R130, R134) -/

@[simp] theorem State.others_fenceCore (c cause : Nat) : (s.fenceCore e c cause).others e = s.others e := by simp [State.fenceCore]

@[simp] theorem State.others_setCore (c : Nat) (works : Bool) : (s.setCore e c works).others e = s.others e := by
  unfold State.setCore
  extract_lets t
  split
  · simp [t]
  · split <;> simp [t]

/-! ## The deframer (R143 to R148, R155) -/

theorem State.others_foldl {α : Type} {f : State → α → State} (h : ∀ (t : State) a, (f t a).others e = t.others e) (l : List α) :
    (l.foldl f s).others e = s.others e :=
  List.foldlRecOn (motive := fun t : State => t.others e = s.others e) l f rfl fun t ht a _ => (h t a).trans ht

@[simp] theorem State.others_refreshLof (cause : Nat) : (s.refreshLof e cause).others e = s.others e := by
  unfold State.refreshLof
  extract_lets r
  split
  · split <;> simp
  · simp

@[simp] theorem State.others_refreshFff (i : Nat) : (s.refreshFff i).others e = s.others e := by
  refine s.others_foldl e (fun t p => ?_) _
  extract_lets copies
  split
  · rfl
  · split
    · simp
    · split <;> simp

@[simp] theorem State.others_receiveFff (idx seg : Nat) : (s.receiveFff e idx seg).others e = s.others e := by
  unfold State.receiveFff
  split
  · extract_lets old t
    simp [t]
  · rfl

@[simp] theorem State.others_declareLoa (i spread : Nat) : (s.declareLoa i spread).others e = s.others e := by
  unfold State.declareLoa
  extract_lets g p t
  have ht : t.others e = s.others e := by
    unfold t
    split <;> simp
  exact (t.others_foldl e (fun u j => u.others_setObj e _ _) g).trans ht

@[simp] theorem State.others_clearOtuc : (s.clearOtuc e).others e = s.others e := by
  unfold State.clearOtuc
  extract_lets t
  have ht : t.others e = s.others e := by simp [t]
  rw [State.others_refreshLof, State.others_foldl _ e fun u a => u.others_foldl e (fun v d => v.others_clear e d _) _, ht]

@[simp] theorem State.others_readPayload (f : LFrame) : (s.readPayload e f).others e = s.others e := by simp [State.readPayload]

@[simp] theorem State.others_frameOverhead (f : LFrame) : (s.frameOverhead e f).others e = s.others e := by
  unfold State.frameOverhead
  extract_lets r t u g v
  have hu : u.others e = s.others e := by
    unfold u
    split <;> simp [t, r]
  have hv : v.others e = s.others e := by
    unfold v
    split <;> simp [hu]
  split
  · simp [hv]
  · simp [r]

@[simp] theorem State.others_huntFrame (f : LFrame) : (s.huntFrame e f).others e = s.others e := by
  unfold State.huntFrame
  split <;> simp

@[simp] theorem State.others_presyncFrame (f : LFrame) : (s.presyncFrame e f).others e = s.others e := by
  unfold State.presyncFrame
  extract_lets candidate t t'
  split
  · simp [t]
  · split <;> simp [t']

@[simp] theorem State.others_syncFrame (f : LFrame) : (s.syncFrame e f).others e = s.others e := by
  unfold State.syncFrame
  extract_lets next t
  split
  · simp
  · split <;> simp [t]

@[simp] theorem State.others_setSection (x : SmState) : (s.setSection e x).others e = s.others e := by
  unfold State.setSection
  extract_lets p r bdi iae bdiRun iaeRun reached bad good m deg run t
  simp [t]

end

/-! ## The commands -/

/-- Whatever state an outcome answers, what lies beyond the engine is as it was. -/
def leavesOthers (e : Nat) (s : State) (o : Out) : Prop := ∃ t, o = .next t ∧ t.others e = s.others e

section
variable {e : Nat} {s : State}

theorem leavesOthers_next {t : State} (h : t.others e = s.others e) : leavesOthers e s (.next t) := ⟨t, rfl, h⟩

theorem leavesOthers_self : leavesOthers e s (.next s) := leavesOthers_next rfl

theorem leavesOthers_ite {c : Prop} [Decidable c] {t : State} (h : t.others e = s.others e) :
    leavesOthers e s (if c then .next t else .next s) := by
  split
  · exact leavesOthers_next h
  · exact leavesOthers_self

end

section
variable (e : Fin 4) (s : State)

theorem execLaserRangeChange_leavesOthers (i : Fin 2) (power : Int) (ticks : Nat) :
    leavesOthers e s (execLaserRangeChange e i power ticks s) := by
  unfold execLaserRangeChange
  extract_lets within r was t
  have ht : t.others e = s.others e := by
    unfold t
    split <;> simp
  split
  · exact leavesOthers_next (by simp [ht])
  · exact leavesOthers_next ht

theorem execBiasLoopLock_leavesOthers (loops : Nat) (power : Int) : leavesOthers e s (execBiasLoopLock e loops power s) := by
  unfold execBiasLoopLock
  extract_lets t
  have ht : t.others e = s.others e := by simp [t]
  split
  · exact leavesOthers_next ht
  · exact leavesOthers_next (by simp [ht])

theorem execTxPowerShort_leavesOthers (achieved : Int) (ticks : Nat) : leavesOthers e s (execTxPowerShort e achieved ticks s) := by
  unfold execTxPowerShort
  extract_lets setting t
  split
  · exact leavesOthers_next (by simp [t])
  · exact leavesOthers_next (by simp [t])

theorem execRxOverload_leavesOthers (average : Int) (quiet : Nat) : leavesOthers e s (execRxOverload e average quiet s) := by
  unfold execRxOverload
  extract_lets armed t
  split
  · exact leavesOthers_next (by simp [t])
  · exact leavesOthers_next (by simp [t])

theorem execCalDeferTimeout_leavesOthers : leavesOthers e s (execCalDeferTimeout e s) := by
  unfold execCalDeferTimeout
  split
  · exact leavesOthers_ite (by simp)
  · exact leavesOthers_self

theorem execTxTrafficStart_leavesOthers : leavesOthers e s (execTxTrafficStart e s) := by
  unfold execTxTrafficStart
  split
  · exact leavesOthers_ite (by simp)
  · exact leavesOthers_self

theorem execStoredStateExpire_leavesOthers : leavesOthers e s (execStoredStateExpire e s) := by
  unfold execStoredStateExpire
  split
  · exact leavesOthers_ite (by simp [State.dropStored])
  · exact leavesOthers_self

theorem execSyncPosition_leavesOthers (p q : Option SyncTest) : leavesOthers e s (execSyncPosition e p q s) := by
  unfold execSyncPosition
  extract_lets u
  have hu : u.others e = s.others e := by
    unfold u
    split <;> simp
  split
  · exact leavesOthers_next (by simp)
  · split
    · split
      · exact leavesOthers_next (by simp [hu])
      · exact leavesOthers_next hu
    · exact leavesOthers_self

theorem execLolDeclare_leavesOthers (cause : LolCause) : leavesOthers e s (execLolDeclare e cause s) := by
  unfold execLolDeclare
  split
  · split
    · exact leavesOthers_next (by simp)
    · exact leavesOthers_next (by simp)
  · exact leavesOthers_self

theorem execCoreStartupTestDone_leavesOthers (core : Fin 25) (pass : Bool) : leavesOthers e s (execCoreStartupTestDone e core pass s) := by
  refine leavesOthers_ite ?_
  split <;> simp

theorem execCoreRetestDone_leavesOthers (core : Fin 25) (pass : Bool) : leavesOthers e s (execCoreRetestDone e core pass s) := by
  refine leavesOthers_ite ?_
  split <;> simp

theorem execLFrameReceive_leavesOthers (f : LFrame) : leavesOthers e s (execLFrameReceive e f s) := by
  unfold execLFrameReceive
  extract_lets st
  split
  · split
    · exact leavesOthers_next (by simp)
    · split
      · split
        · exact leavesOthers_next (by simp)
        · exact leavesOthers_ite (by simp)
      · exact leavesOthers_ite (by simp)
  · exact leavesOthers_self

theorem execOtucFrameCheck_leavesOthers (f : OtucFrame) : leavesOthers e s (execOtucFrameCheck e f s) := by
  unfold execOtucFrameCheck
  extract_lets r follows pass bad good lof t u
  have hu : u.others e = s.others e := by
    unfold u
    rw [State.others_refreshLof]
    split <;> simp [t]
  refine leavesOthers_ite ?_
  rw [State.others_foldl _ (e : Nat) fun v x => v.others_setSection e x]
  simp [hu]

end

/-- Settles O25: each command leaves what lies beyond its engine. -/
theorem enginesAreIndependent : Obligations.EnginesAreIndependent := by
  intro e c s t ⟨n, m, z, y, i, core, b, lc, cc, p, q, f, g, hc⟩ hexec
  have hleaves : leavesOthers e s (exec c s) := by
    simp only [List.mem_cons, List.not_mem_nil, or_false] at hc
    rcases hc with rfl | rfl | rfl | rfl | rfl | rfl | rfl | rfl | rfl | rfl | rfl | rfl | rfl | rfl | rfl | rfl | rfl | rfl | rfl | rfl | rfl |
      rfl | rfl | rfl | rfl | rfl | rfl | rfl
    · exact execLaserRangeChange_leavesOthers e s i z n
    · exact leavesOthers_ite (by simp)
    · exact leavesOthers_next (s.others_loseBias e n)
    · exact execBiasLoopLock_leavesOthers e s n z
    · exact leavesOthers_ite (by simp)
    · exact execTxPowerShort_leavesOthers e s z n
    · exact execRxOverload_leavesOthers e s z n
    · exact leavesOthers_ite (by simp)
    · exact leavesOthers_ite (by simp)
    · exact leavesOthers_ite (by simp)
    · exact execCalDeferTimeout_leavesOthers e s
    · exact execTxTrafficStart_leavesOthers e s
    · exact leavesOthers_ite (s.others_setReceiver e e 3)
    · exact leavesOthers_ite (by simp)
    · exact leavesOthers_ite (s.others_setReceiver e e 5)
    · exact leavesOthers_ite (s.others_acquire e 2)
    · exact execSyncPosition_leavesOthers e s p q
    · exact leavesOthers_next (s.others_enterValid e)
    · exact leavesOthers_ite (by simp)
    · exact execLolDeclare_leavesOthers e s lc
    · exact execStoredStateExpire_leavesOthers e s
    · exact leavesOthers_ite (by simp)
    · exact execCoreStartupTestDone_leavesOthers e s core b
    · exact execCoreRetestDone_leavesOthers e s core b
    · exact leavesOthers_ite (s.others_declare e _ _)
    · exact leavesOthers_ite (s.others_clear e _ _)
    · exact execLFrameReceive_leavesOthers e s f
    · exact execOtucFrameCheck_leavesOthers e s g
  obtain ⟨t', ht, h⟩ := hleaves
  have htt : t = t' := by
    rw [hexec] at ht
    injection ht
  subst htt
  exact ⟨fun i hi => State.engine_of_others h hi, State.eq_of_others h⟩

end Sys2Proof.Machine
end

section
/-! PROOFS. The decoder pool: what a core that fails, passes or fails a test leaves of the pool, and the write of a retest. -/

namespace Sys2Proof.Machine

/-! ## One core leaves or joins the pool (R130, R134) -/

section
variable (s : State) (e c : Nat)

theorem State.obj_setCore (works : Bool) (k : Key) : (s.setCore e c works).obj k =
    if k = Obj.FEC_CORE_STATE e then withBit (s.obj (Obj.FEC_CORE_STATE e)) c works else s.obj k := by
  rw [← State.obj_setObj]
  unfold State.setCore
  extract_lets t
  split
  · exact t.obj_clear _ _ k
  · split
    · rfl
    · exact t.obj_declare _ _ k

@[simp] theorem State.engine_setCore (works : Bool) (i : Nat) : (s.setCore e c works).engine i = s.engine i := by
  unfold State.setCore
  extract_lets t
  split
  · exact t.engine_clear _ _ i
  · split
    · rfl
    · exact t.engine_declare _ _ i

theorem State.coreWorks_setCore (works : Bool) (i : Nat) :
    (s.setCore e c works).coreWorks e i = if i = c then works else s.coreWorks e i := by
  simp [State.coreWorks, State.obj_setCore]

@[simp] theorem State.obj_fenceCore (cause : Nat) {k : Key} (h : k ≠ Obj.FEC_CORE_FAIL_COUNT e) : (s.fenceCore e c cause).obj k = s.obj k := by
  simp [State.fenceCore, h]

@[simp] theorem State.coreWorks_fenceCore (cause i : Nat) : (s.fenceCore e c cause).coreWorks e i = s.coreWorks e i := by
  simp [State.coreWorks]

theorem State.failCount_fenceCore (cause : Nat) :
    (s.fenceCore e c cause).obj (Obj.FEC_CORE_FAIL_COUNT e) = u64 (s.obj (Obj.FEC_CORE_FAIL_COUNT e) + 1) := by
  simp [State.fenceCore]

/-- Fencing a core adds it to the fenced ones and leaves the rest of the engine. -/
theorem State.engine_fenceCore (cause : Nat) : (s.fenceCore e c cause).engine e =
    { s.engine e with fenced := if c ∈ (s.engine e).fenced then (s.engine e).fenced else (s.engine e).fenced ++ [c] } := by
  by_cases h : c ∈ (s.engine e).fenced
  · simp [State.fenceCore, h]
  · simp [State.fenceCore, h]

theorem State.mem_fenced_fenceCore (cause : Nat) : c ∈ ((s.fenceCore e c cause).engine e).fenced := by
  rw [State.engine_fenceCore]
  dsimp only
  split
  · assumption
  · simp

end

/-- Working cores are one fewer after one of them stops. -/
theorem State.cores_add_one {s t : State} {e c : Nat} (hc : c < 25) (hs : s.coreWorks e c = true) (ht : t.coreWorks e c = false)
    (hrest : ∀ i, i ≠ c → t.coreWorks e i = s.coreWorks e i) : t.cores e + 1 = s.cores e := by
  have hperm : (List.range 25).Perm (c :: (List.range 25).erase c) := List.perm_cons_erase (List.mem_range.mpr hc)
  have hsame : ((List.range 25).erase c).countP (t.coreWorks e) = ((List.range 25).erase c).countP (s.coreWorks e) :=
    List.countP_congr fun i hi => by rw [hrest i (List.nodup_range.mem_erase_iff.mp hi).1]
  unfold State.cores
  rw [hperm.countP_eq, hperm.countP_eq, List.countP_cons_of_pos hs, List.countP_cons_of_neg (by simp [ht]), hsame]

/-- A core that stops in a pool of at most 24 declares dDECDEG (R134). -/
theorem State.decDeg_setCore {s : State} {e c : Nat} (hc : c < 25) (hs : s.coreWorks e c = true) (hpool : s.cores e ≤ 24) :
    (s.setCore e c false).declared Df.decDeg e = true := by
  have hfew : ¬ 24 ≤ (s.setObj (Obj.FEC_CORE_STATE e) (withBit (s.obj (Obj.FEC_CORE_STATE e)) c false)).cores e := by
    have h := State.cores_add_one (s := s) (t := s.setObj (Obj.FEC_CORE_STATE e) (withBit (s.obj (Obj.FEC_CORE_STATE e)) c false)) hc hs
      (by simp [State.coreWorks]) fun i hi => by simp [State.coreWorks, hi]
    omega
  unfold State.setCore
  rw [if_neg hfew]
  exact State.declared_declare_same _ _ _

/-! ## The retest (R135) -/

/-- A write of FEC_CORE_RETEST, check by check. -/
theorem acceptFec_retest (e : Nat) (v : Val) (s : State) : acceptFec (Obj.FEC_CORE_RETEST e) v s =
    if ¬ (s.engine e).fenced.contains v.v then (.range, s)
    else if (s.engine e).retesting.contains v.v ∨ s.waits (fun d => decide (d = .coreTest e v.v) || decide (d = .coreJoin e v.v)) then (.busy, s)
    else if ¬ s.domOn e then (.precond, s)
    else (.ok, s.plan (s.now + 1) (.coreTest e v.v)) := rfl

/-- A retest wants a fenced core that is not under test and a domain that is On. -/
theorem exec_fecCoreRetest {e : Fin 4} {s : State} {rq : Rq} {x : Sender} {val v : Val} (h : Accepted rq x (Obj.FEC_CORE_RETEST e) val v s)
    (hagenda : s.agenda = []) :
    let u := s.served rq x
    exec (.fecCoreRetest rq e val) s = .next (
      if v.v ∉ (s.engine e).fenced then u.deliver rq Op.write .range []
      else if v.v ∈ (s.engine e).retesting then u.deliver rq Op.write .busy []
      else if s.domOn e = false then u.deliver rq Op.write .precond []
      else (u.plan (s.now + 1) (.coreTest e v.v)).answered rq) := by
  intro u
  have g := acceptFec_retest e v u
  have hidle := State.waits_empty (s := u) ((s.agenda_served rq x).trans hagenda) fun d => decide (d = .coreTest e v.v) || decide (d = .coreJoin e v.v)
  rw [hidle, show u.domOn e = s.domOn e from s.domOn_served rq x e, show u.engine e = s.engine e from s.engine_served rq x e,
    show u.now = s.now from s.now_served rq x] at g
  refine congrArg Host.Outcome.next ?_
  split
  case isTrue hfree => exact serveWrite_refused h acceptFec (g.trans (if_pos (by simpa using hfree)))
  case isFalse hfenced =>
    rw [if_neg (by simpa using hfenced)] at g
    split
    case isTrue htest => exact serveWrite_refused h acceptFec (g.trans (if_pos (by simp [htest])))
    case isFalse htest =>
      rw [if_neg (by simp [htest])] at g
      split
      case isTrue hoff => exact serveWrite_refused h acceptFec (g.trans (if_pos (by simp [hoff])))
      case isFalse hon => exact serveWrite_accepted h acceptFec (g.trans (if_neg (by simpa using hon)))

/-! ## The statement -/

/-- Settles O26: a failure fences the core and clears its bit, a test joins or fences it, and the retest goes check by check. -/
theorem decoderCoresFailAndReturn : Obligations.DecoderCoresFailAndReturn := by
  intro e core s
  refine ⟨fun cause n hno => ?_, fun n hn hpos => ?_, fun cause n hworks hon => ?_, fun pass hmem hon => ?_, fun pass hmem hon => ?_,
    fun rq x val v h hagenda => exec_fecCoreRetest h hagenda⟩
  · refine if_neg fun ⟨hworks, hon⟩ => ?_
    rcases hno with hidle | hoff
    · simp [hidle] at hworks
    · simp [hoff] at hon
  · simp [State.dispatchWords, hn, Nat.ne_of_gt hpos]
  · refine ⟨_, if_pos ⟨hworks, hon⟩, ?_, fun c _ hc => ?_, ?_, ?_, ?_, fun hpool => ?_⟩
    · exact (State.coreWorks_setCore _ e core false core).trans (if_pos rfl)
    · exact (State.coreWorks_setCore _ e core false c).trans ((if_neg hc).trans (s.coreWorks_fenceCore e core _ c))
    · simpa using s.mem_fenced_fenceCore e core (coreCauseCode cause)
    · rw [State.obj_withEngine, State.obj_setCore, if_neg (by simp), State.failCount_fenceCore]
    · simp [State.engine_fenceCore]
    · have hcores : (s.fenceCore e core (coreCauseCode cause)).cores e = s.cores e := by
        simp only [State.cores, funext (s.coreWorks_fenceCore e core (coreCauseCode cause))]
      exact State.decDeg_setCore core.isLt ((s.coreWorks_fenceCore e core _ core).trans hworks) (hcores ▸ hpool)
  · refine ⟨_, if_pos ⟨by simpa using hmem, hon⟩, ?_, fun hp => ?_, fun hp => ?_⟩
    · cases pass <;> simp [State.engine_fenceCore]
    · subst hp
      exact (State.coreWorks_setCore _ e core true core).trans (if_pos rfl)
    · subst hp
      exact State.mem_fenced_fenceCore _ e core 3
  · refine ⟨_, if_pos ⟨by simpa using hmem, hon⟩, ?_, fun hp => ?_, fun hp => ?_⟩
    · cases pass <;> simp [State.engine_fenceCore]
    · subst hp
      rfl
    · subst hp
      exact State.mem_fenced_fenceCore _ e core 3

end Sys2Proof.Machine
end

section
/-! PROOFS. The deframer of the L frame: the search, the alignment word where it is due, and what is read of a frame's overhead. -/

namespace Sys2Proof.Machine

/-! ## Shared updates: a condition that decides a defect, and repeated updates -/

section
variable (s : State)

@[simp] theorem State.obj_setDefect (d i : Nat) (on : Bool) (k : Key) : (s.setDefect d i on).obj k = s.obj k := by
  cases on <;> simp [State.setDefect]

@[simp] theorem State.engine_setDefect (d i : Nat) (on : Bool) (j : Nat) : (s.setDefect d i on).engine j = s.engine j := by
  cases on <;> simp [State.setDefect]

theorem State.declared_setDefect (d i : Nat) (on : Bool) (d' i' : Nat) :
    (s.setDefect d i on).declared d' i' = if d' = d ∧ i' = i then on else s.declared d' i' := by
  by_cases h : d' = d ∧ i' = i
  · cases on <;> simp [State.setDefect, h]
  · cases on <;> simp [State.setDefect, State.declared_declare, State.declared_clear, h]

/-- What each update of a list keeps, the whole list keeps. -/
theorem foldl_keeps {α β γ : Type} {f : β → α → β} (g : β → γ) (h : ∀ b a, g (f b a) = g b) (l : List α) (b : β) : g (l.foldl f b) = g b :=
  List.foldlRecOn (motive := fun t => g t = g b) l f rfl fun t ht a _ => (h t a).trans ht

theorem State.declared_clears (ds : List Nat) (p d i : Nat) :
    (ds.foldl (fun t d => t.clear d p) s).declared d i = (!decide (d ∈ ds ∧ i = p) && s.declared d i) := by
  induction ds generalizing s with
  | nil => simp
  | cons d' ds ih =>
    rw [List.foldl_cons, ih, State.declared_clear, ← Bool.and_assoc]
    by_cases hi : i = p <;> by_cases hd : d = d' <;> simp [hi, hd]

/-! ## dLOF (R145, R147) -/

variable (e cause : Nat)

@[simp] theorem State.obj_refreshLof (k : Key) : (s.refreshLof e cause).obj k = s.obj k := by
  unfold State.refreshLof
  extract_lets r
  split
  · split <;> simp
  · simp

@[simp] theorem State.engine_refreshLof (i : Nat) : (s.refreshLof e cause).engine i = s.engine i := by
  unfold State.refreshLof
  extract_lets r
  split
  · split <;> simp
  · simp

/-- dLOF stands while either cause does. -/
theorem State.declared_refreshLof (d i : Nat) : (s.refreshLof e cause).declared d i =
    if d = Df.lof ∧ i = e then (s.engine e).lofFrame || (s.engine e).lofOtuc else s.declared d i := by
  unfold State.refreshLof
  extract_lets r
  split
  case isTrue hc =>
    rw [show ((s.engine e).lofFrame || (s.engine e).lofOtuc) = true by simpa [r] using hc]
    split
    case isTrue hlof =>
      split
      case isTrue h =>
        obtain ⟨rfl, rfl⟩ := h
        exact hlof
      case isFalse => rfl
    case isFalse =>
      rw [State.declared_raise, State.declared_declare]
      by_cases h : d = Df.lof ∧ i = e <;> simp [h]
  case isFalse hc =>
    rw [show ((s.engine e).lofFrame || (s.engine e).lofOtuc) = false by simpa [r] using hc, State.declared_clear]
    by_cases h : d = Df.lof ∧ i = e <;> simp [h]

theorem State.refreshLof_frame : s.refreshLof e cause =
    { s with defects := (s.refreshLof e cause).defects, changes := (s.refreshLof e cause).changes } := by
  unfold State.refreshLof
  extract_lets r
  split
  · split
    · rfl
    · rw [State.declare_frame]
      rfl
  · exact s.clear_frame _ _

end

/-! ## What the overhead beyond C and pointer leaves alone (R46, R142, R155) -/

/-- What the deframer of an engine shows, without what the bonding and the FFF of a frame may touch: lock bits, received bitmaps, dLOA and dFFF. -/
structure DeframerView where
  obj : Key → Nat
  engine : Engine
  declared : Nat → Nat → Bool

def State.deframer (s : State) (e : Nat) : DeframerView where
  obj k := if k = Obj.TB_BOND_STATE ∨ k = Obj.OH_FFF_RX_MAP e then 0 else s.obj k
  engine := { s.engine e with fffBefore := 0 }
  declared d i := if d = Df.loa ∨ d = Df.fff then false else s.declared d i

section
variable {s t : State} {e : Nat} (h : t.deframer e = s.deframer e)
include h

theorem State.obj_of_deframer {k : Key} (hb : k ≠ Obj.TB_BOND_STATE) (hm : k ≠ Obj.OH_FFF_RX_MAP e) : t.obj k = s.obj k := by
  have g := congrFun (congrArg DeframerView.obj h) k
  simpa [State.deframer, hb, hm] using g

theorem State.engine_of_deframer {α : Type} (f : Engine → α) (hf : ∀ r : Engine, f { r with fffBefore := 0 } = f r) :
    f (t.engine e) = f (s.engine e) := by
  have g := congrArg (fun v => f v.engine) h
  simpa [State.deframer, hf] using g

theorem State.declared_of_deframer {d : Nat} (i : Nat) (hl : d ≠ Df.loa) (hf : d ≠ Df.fff) : t.declared d i = s.declared d i := by
  have g := congrFun (congrFun (congrArg DeframerView.declared h) d) i
  simpa [State.deframer, hl, hf] using g

end

section
variable (s : State) (e : Nat)

theorem State.deframer_declare {d : Nat} (i : Nat) (h : d = Df.loa ∨ d = Df.fff) : (s.declare d i).deframer e = s.deframer e := by
  have hd : ∀ d' i', ¬ (d' = Df.loa ∨ d' = Df.fff) → (s.declare d i).declared d' i' = s.declared d' i' := fun d' i' h' =>
    s.declared_declare_ne fun g => h' ((Prod.mk.inj g).1 ▸ h)
  simp +contextual [State.deframer, hd]

theorem State.deframer_clear {d : Nat} (i : Nat) (h : d = Df.loa ∨ d = Df.fff) : (s.clear d i).deframer e = s.deframer e := by
  have hd : ∀ d' i', ¬ (d' = Df.loa ∨ d' = Df.fff) → (s.clear d i).declared d' i' = s.declared d' i' := fun d' i' h' =>
    s.declared_clear_ne fun g => h' ((Prod.mk.inj g).1 ▸ h)
  simp +contextual [State.deframer, hd]

theorem State.deframer_setObj {k : Key} (v : Nat) (h : k = Obj.TB_BOND_STATE ∨ k = Obj.OH_FFF_RX_MAP e) :
    (s.setObj k v).deframer e = s.deframer e := by
  have hk : ∀ k', ¬ (k' = Obj.TB_BOND_STATE ∨ k' = Obj.OH_FFF_RX_MAP e) → (s.setObj k v).obj k' = s.obj k' := fun k' h' =>
    State.obj_setObj_ne s v fun g => h' (g ▸ h)
  simp +contextual [State.deframer, hk]

theorem State.deframer_declareLoa (i spread : Nat) : (s.declareLoa i spread).deframer e = s.deframer e := by
  rw [State.declareLoa_eq]
  refine (foldl_keeps (State.deframer · e) (fun t j => t.deframer_setObj e _ (Or.inl rfl)) _ _).trans ?_
  unfold State.reportLoa
  split
  · rfl
  · exact s.deframer_declare e _ (Or.inl rfl)

theorem State.deframer_refreshFff (i : Nat) : (s.refreshFff i).deframer e = s.deframer e := by
  refine foldl_keeps (State.deframer · e) (fun t p => ?_) _ s
  extract_lets copies
  split
  · rfl
  · split
    · exact t.deframer_declare e _ (Or.inr rfl)
    · split
      · rfl
      · exact t.deframer_clear e _ (Or.inr rfl)

theorem State.deframer_receiveFff (idx seg : Nat) : (s.receiveFff e idx seg).deframer e = s.deframer e := by
  unfold State.receiveFff
  split
  · extract_lets old t
    rw [State.deframer_refreshFff, State.deframer_setObj _ _ _ (Or.inr rfl)]
    simp [State.deframer, t]
  · rfl

end

/-! ## The idle pattern ends every OTUC defect (R143) -/

section
variable (s : State) (e : Nat)

theorem State.obj_clearOtuc (k : Key) : (s.clearOtuc e).obj k = s.obj k := by
  unfold State.clearOtuc
  rw [State.obj_refreshLof, foldl_keeps (State.obj · k) fun t a => foldl_keeps (State.obj · k) (fun u d => u.obj_clear _ _ k) _ t]
  simp

theorem State.engine_clearOtuc : (s.clearOtuc e).engine e = { s.engine e with
    lofOtuc := false, otucBad := 0, otucGood := 0, otucSince := none, otucPtrOk := true, prevMfas := none, sections := [] } := by
  unfold State.clearOtuc
  rw [State.engine_refreshLof, foldl_keeps (State.engine · e) fun t a => foldl_keeps (State.engine · e) (fun u d => u.engine_clear _ _ e) _ t]
  simp

/-- A defect cleared at a point stays cleared while others are. -/
theorem State.declared_clearPoints {ds points : List Nat} {p : Nat → Nat} {d a : Nat} (h : s.declared d (p a) = false ∨ (d ∈ ds ∧ a ∈ points)) :
    (points.foldl (fun t a => ds.foldl (fun u d => u.clear d (p a)) t) s).declared d (p a) = false := by
  induction points generalizing s with
  | nil => simpa using h
  | cons b points ih =>
    refine ih _ ?_
    rw [State.declared_clears]
    rcases h with h | ⟨hd, ha⟩
    · exact Or.inl (by simp [h])
    · rcases List.mem_cons.mp ha with rfl | ha
      · exact Or.inl (by simp [hd])
      · exact Or.inr ⟨hd, ha⟩

theorem State.section_clearOtuc {a d : Nat} (ha : a < 128) (hd : d ∈ [Df.smTim, Df.smDeg, Df.smBdi, Df.smIae]) :
    (s.clearOtuc e).declared d (s.otucPoint e a) = false := by
  have hlof : d ≠ Df.lof := by
    rintro rfl
    simp at hd
  unfold State.clearOtuc
  rw [State.declared_refreshLof, if_neg fun h => hlof h.1]
  exact State.declared_clearPoints _ (Or.inr ⟨hd, List.mem_range.mpr ha⟩)

theorem State.lom_clearOtuc : (s.clearOtuc e).declared Df.lom e = false := by
  unfold State.clearOtuc
  rw [State.declared_refreshLof, if_neg (by simp)]
  refine (foldl_keeps (State.declared · Df.lom e) (fun t a => ?_) _ _).trans (State.declared_clear_same _ _ _)
  simp [State.declared_clear]

end

/-! ## The overhead of a frame (R139, R141, R143, R146) -/

/-- A locked receiver's frame at the expected position: what `t` shows of it, from what `s` held of the frames before. -/
def OverheadRead (s t : State) (e : Nat) (f : LFrame) : Prop :=
  (f.crcOk = true → (t.engine e).idleSeen = f.idle ∧ (t.engine e).prevPtr = f.ptr ∧
    (t.engine e).prevC = (if f.c ≤ payloadArea (s.mode e) then f.c else (s.engine e).prevC) ∧
    (f.idle = true → t.declared Df.lom e = false ∧ (t.engine e).lofOtuc = false ∧
      ∀ a, a < 128 → ∀ d ∈ [Df.smTim, Df.smDeg, Df.smBdi, Df.smIae], t.declared d (s.otucPoint e a) = false)) ∧
  (f.crcOk = false → t.obj (Obj.FRM_CRC_ERR_COUNT e) = u64 (s.obj (Obj.FRM_CRC_ERR_COUNT e) + 1) ∧
    (t.engine e).prevC = (s.engine e).prevC ∧
    (t.engine e).prevPtr = duePointer (s.mode e) (s.engine e).prevC (s.engine e).otucSince)

/-- A good frame read, before its bonding and FFF: C, pointer and payload, and the idle pattern. -/
def State.readGood (s : State) (e : Nat) (f : LFrame) : State :=
  let t := (s.readPayload e f).withEngine e fun r => { r with idleSeen := f.idle }
  if f.idle then t.clearOtuc e else t

section
variable {s : State} {e : Nat} {f : LFrame}

theorem State.obj_readGood (k : Key) : (s.readGood e f).obj k = s.obj k := by
  unfold State.readGood
  extract_lets t
  have ht : t.obj k = s.obj k := rfl
  split
  · rw [State.obj_clearOtuc, ht]
  · exact ht

/-- What the reading of a frame leaves of the engine: the search and its count of misses. -/
def Engine.search (r : Engine) : Option Nat × Option Nat × Nat := (r.frameCandidate, r.frameDue, r.fasMisses)

theorem State.search_readPayload : ((s.readPayload e f).engine e).search = (s.engine e).search := by simp [State.readPayload, Engine.search]

theorem State.engine_readGood (hcrc : f.crcOk = true) : ((s.readGood e f).engine e).search = (s.engine e).search ∧
    ((s.readGood e f).engine e).idleSeen = f.idle ∧ ((s.readGood e f).engine e).prevPtr = f.ptr ∧
    ((s.readGood e f).engine e).prevC = if f.c ≤ payloadArea (s.mode e) then f.c else (s.engine e).prevC := by
  unfold State.readGood
  extract_lets t
  have ht : (t.engine e).search = (s.engine e).search ∧ (t.engine e).idleSeen = f.idle ∧ (t.engine e).prevPtr = f.ptr ∧
      (t.engine e).prevC = if f.c ≤ payloadArea (s.mode e) then f.c else (s.engine e).prevC := by
    simp [t, State.readPayload, Engine.search, hcrc]
  split
  · rw [State.engine_clearOtuc]
    exact ht
  · exact ht

theorem State.idle_readGood (hidle : f.idle = true) : (s.readGood e f).declared Df.lom e = false ∧ ((s.readGood e f).engine e).lofOtuc = false ∧
    ∀ a, a < 128 → ∀ d ∈ [Df.smTim, Df.smDeg, Df.smBdi, Df.smIae], (s.readGood e f).declared d (s.otucPoint e a) = false := by
  unfold State.readGood
  rw [if_pos hidle]
  exact ⟨State.lom_clearOtuc _ e, by rw [State.engine_clearOtuc], fun a ha d hd => State.section_clearOtuc _ e ha hd⟩

/-- Bonding and FFF touch nothing the deframer shows. -/
theorem State.deframer_frameOverhead (hcrc : f.crcOk = true) : (s.frameOverhead e f).deframer e = (s.readGood e f).deframer e := by
  unfold State.frameOverhead
  extract_lets r t u g v
  rw [if_pos hcrc, State.deframer_receiveFff]
  unfold v
  split
  · exact u.deframer_declareLoa e e 0
  · rfl

theorem State.frameOverhead_failed (hcrc : f.crcOk = false) :
    s.frameOverhead e f = (s.readPayload e f).bump (Obj.FRM_CRC_ERR_COUNT e) := if_neg (by simp [hcrc])

theorem State.search_frameOverhead : ((s.frameOverhead e f).engine e).search = (s.engine e).search := by
  cases hcrc : f.crcOk with
  | true => exact (State.engine_of_deframer (State.deframer_frameOverhead hcrc) Engine.search fun _ => rfl).trans (State.engine_readGood hcrc).1
  | false =>
    rw [State.frameOverhead_failed hcrc, State.engine_bump]
    exact State.search_readPayload

theorem State.frmState_frameOverhead : (s.frameOverhead e f).obj (Obj.FRM_STATE e) = s.obj (Obj.FRM_STATE e) := by
  cases hcrc : f.crcOk with
  | true => exact (State.obj_of_deframer (State.deframer_frameOverhead hcrc) (by simp) (by simp)).trans (State.obj_readGood _)
  | false =>
    rw [State.frameOverhead_failed hcrc]
    simp [State.readPayload]

theorem overheadRead_frameOverhead : OverheadRead s (s.frameOverhead e f) e f := by
  refine ⟨fun hcrc => ?_, fun hcrc => ?_⟩
  · have h := State.deframer_frameOverhead (s := s) (e := e) hcrc
    obtain ⟨-, hidle, hptr, hc⟩ := State.engine_readGood (s := s) (e := e) hcrc
    refine ⟨(State.engine_of_deframer h Engine.idleSeen fun _ => rfl).trans hidle, (State.engine_of_deframer h Engine.prevPtr fun _ => rfl).trans hptr,
      (State.engine_of_deframer h Engine.prevC fun _ => rfl).trans hc, fun hi => ?_⟩
    obtain ⟨hlom, hlof, hsm⟩ := State.idle_readGood (s := s) (e := e) hi
    refine ⟨(State.declared_of_deframer h e (by simp) (by simp)).trans hlom, (State.engine_of_deframer h Engine.lofOtuc fun _ => rfl).trans hlof,
      fun a ha d hd => (State.declared_of_deframer h _ ?_ ?_).trans (hsm a ha d hd)⟩
    · rintro rfl
      simp at hd
    · rintro rfl
      simp at hd
  · rw [State.frameOverhead_failed hcrc]
    simp [State.readPayload, hcrc]

/-- The reading is the same of a state that differs in the deframer's state and search alone. -/
theorem OverheadRead.of_same {u t : State} (h : OverheadRead u t e f) (hobj : ∀ k, k ≠ Obj.FRM_STATE e → u.obj k = s.obj k)
    (hc : (u.engine e).prevC = (s.engine e).prevC) (hsince : (u.engine e).otucSince = (s.engine e).otucSince) : OverheadRead s t e f := by
  have hmode : u.mode e = s.mode e := hobj _ (by simp)
  have hpoint : u.otucPoint e = s.otucPoint e := funext fun a => by simp only [State.otucPoint, State.bond, hobj Obj.TB_BOND_CFG (by simp)]
  have hcount := hobj (Obj.FRM_CRC_ERR_COUNT e) (by simp)
  unfold OverheadRead at h
  rw [hmode, hpoint, hcount, hc, hsince] at h
  exact h

end

end Sys2Proof.Machine
end

section
/-! PROOFS. The deframer's commands: an alignment word in HUNT, PRESYNC and SYNC, an OTUC frame with its section monitoring, and the agreement's
framing. -/

namespace Sys2Proof.Machine

/-! ## An alignment word (R144, R145) -/

section
variable {e : Fin 4} {s : State} {f : LFrame} (hlock : s.rxLocked e = true) (hmode : modeL (s.mode e) = true)
include hlock hmode

/-- A locked receiver in an L mode takes a word by the state of its deframer. -/
theorem exec_lFrameReceive_locked : exec (.lFrameReceive e f) s =
    if s.obj (Obj.FRM_STATE e) = 0 then .next (s.huntFrame e f)
    else if s.obj (Obj.FRM_STATE e) = 1 then
      if (s.engine e).frameCandidate = some (f.pos - frameBits (s.mode e)) ∧ frameBits (s.mode e) ≤ f.pos then .next (s.presyncFrame e f)
      else if f.fasErrors = 0 then .next (s.withEngine e fun r => { r with buffered := r.buffered ++ [f] })
      else .next s
    else if (s.engine e).frameDue.getD f.pos = f.pos then .next (s.syncFrame e f)
    else .next s := if_pos ⟨hlock, hmode⟩

theorem exec_lFrameReceive_hunt (h : s.obj (Obj.FRM_STATE e) = 0) : exec (.lFrameReceive e f) s = .next (s.huntFrame e f) :=
  (exec_lFrameReceive_locked hlock hmode).trans (if_pos h)

theorem exec_lFrameReceive_elsewhere (h : s.obj (Obj.FRM_STATE e) = 1)
    (hpos : ¬ (frameBits (s.mode e) ≤ f.pos ∧ (s.engine e).frameCandidate = some (f.pos - frameBits (s.mode e)))) :
    exec (.lFrameReceive e f) s =
      .next (if f.fasErrors = 0 then s.withEngine e fun r => { r with buffered := r.buffered ++ [f] } else s) := by
  rw [exec_lFrameReceive_locked hlock hmode, if_neg (by simp [h]), if_pos h, if_neg fun g => hpos ⟨g.2, g.1⟩]
  exact (apply_ite Host.Outcome.next _ _ _).symm

theorem exec_lFrameReceive_presync (h : s.obj (Obj.FRM_STATE e) = 1) (hpos : frameBits (s.mode e) ≤ f.pos)
    (hcand : (s.engine e).frameCandidate = some (f.pos - frameBits (s.mode e))) :
    exec (.lFrameReceive e f) s = .next (s.presyncFrame e f) := by
  rw [exec_lFrameReceive_locked hlock hmode, if_neg (by simp [h]), if_pos h, if_pos ⟨hcand, hpos⟩]

theorem exec_lFrameReceive_sync (h : s.obj (Obj.FRM_STATE e) = 2) : exec (.lFrameReceive e f) s =
    if (s.engine e).frameDue.getD f.pos = f.pos then .next (s.syncFrame e f) else .next s := by
  rw [exec_lFrameReceive_locked hlock hmode, if_neg (by simp [h]), if_neg (by simp [h])]

end

section
variable {e : Nat} {s : State} {f : LFrame}

/-- A candidate that recurs with at most 3 errors aligns the deframer. -/
theorem presyncFrame_aligned (herr : f.fasErrors ≤ 3) : (s.presyncFrame e f).obj (Obj.FRM_STATE e) = 2 ∧
    ((s.presyncFrame e f).engine e).search = (none, some (f.pos + frameBits (s.mode e)), 0) ∧ OverheadRead s (s.presyncFrame e f) e f := by
  unfold State.presyncFrame
  extract_lets candidate t
  rw [if_pos herr]
  refine ⟨?_, ?_, overheadRead_frameOverhead.of_same (fun k hk => ?_) ?_ ?_⟩
  · rw [State.frmState_frameOverhead, State.obj_refreshLof, State.obj_withEngine, State.obj_setObj_same]
  · rw [State.search_frameOverhead, State.engine_refreshLof, State.engine_withEngine_same]
    rfl
  · rw [State.obj_refreshLof, State.obj_withEngine, State.obj_setObj_ne _ _ hk]
  · simp [t]
  · simp [t]

/-- A candidate that fails is counted, and the search goes on over the words kept behind it. -/
theorem presyncFrame_false (hstate : s.obj (Obj.FRM_STATE e) = 1) (herr : 3 < f.fasErrors) :
    (s.presyncFrame e f).obj (Obj.FRM_FALSE_CAND_COUNT e) = u64 (s.obj (Obj.FRM_FALSE_CAND_COUNT e) + 1) ∧
    match (s.engine e).buffered.filter fun g => decide (f.pos - frameBits (s.mode e) < g.pos) with
    | [] => (s.presyncFrame e f).obj (Obj.FRM_STATE e) = 0 ∧ ((s.presyncFrame e f).engine e).frameCandidate = none ∧
        ((s.presyncFrame e f).engine e).huntFrom = f.pos - frameBits (s.mode e) + 1
    | g :: rest => (s.presyncFrame e f).obj (Obj.FRM_STATE e) = 1 ∧ ((s.presyncFrame e f).engine e).frameCandidate = some g.pos ∧
        ((s.presyncFrame e f).engine e).buffered = rest := by
  unfold State.presyncFrame
  rw [if_neg (by omega)]
  dsimp only
  cases (s.engine e).buffered.filter fun g => decide (f.pos - frameBits (s.mode e) < g.pos) with
  | nil => simp
  | cons g rest => simp [hstate]

/-- In SYNC a word is read, until the fifth in a row with more than 3 errors. -/
theorem syncFrame_read (herr : f.fasErrors ≤ 3 ∨ (s.engine e).fasMisses + 1 < 5) :
    (s.syncFrame e f).obj (Obj.FRM_STATE e) = s.obj (Obj.FRM_STATE e) ∧ ((s.syncFrame e f).engine e).search =
      ((s.engine e).frameCandidate, some (f.pos + frameBits (s.mode e)), if f.fasErrors ≤ 3 then 0 else (s.engine e).fasMisses + 1) ∧
    OverheadRead s (s.syncFrame e f) e f := by
  unfold State.syncFrame
  dsimp only
  split
  case isTrue =>
    refine ⟨State.frmState_frameOverhead, ?_, overheadRead_frameOverhead.of_same (fun k _ => rfl) (by simp) (by simp)⟩
    rw [State.search_frameOverhead, State.engine_withEngine_same]
    rfl
  case isFalse hbad =>
    rw [if_pos (herr.resolve_left hbad)]
    refine ⟨State.frmState_frameOverhead, ?_, overheadRead_frameOverhead.of_same (fun k _ => rfl) (by simp) (by simp)⟩
    rw [State.search_frameOverhead, State.engine_withEngine_same]
    rfl

/-- The fifth miss in a row loses the frame. -/
theorem syncFrame_lost (herr : 3 < f.fasErrors) (hmiss : 4 ≤ (s.engine e).fasMisses) :
    (s.syncFrame e f).obj (Obj.FRM_STATE e) = 0 ∧ (s.syncFrame e f).declared Df.lof e = true ∧
    (s.syncFrame e f).obj (Obj.FRM_LOF_COUNT e) = u64 (s.obj (Obj.FRM_LOF_COUNT e) + 1) := by
  unfold State.syncFrame
  dsimp only
  rw [if_neg (by omega), if_neg (by omega)]
  refine ⟨by simp, ?_, by simp⟩
  rw [State.declared_refreshLof, if_pos ⟨rfl, rfl⟩]
  simp

end

/-! ## Section monitoring (R148) -/

/-- What `t` shows of the section monitoring of one OTUC, from what `s` held of the frames before. -/
def SectionFollows (s t : State) (e : Nat) (x : SmState) : Prop :=
  let p := s.otucPoint e (x.inst - 1)
  let run := Map.get {} (s.engine e).sections (Key.unit x.inst)
  let after := Map.get {} (t.engine e).sections (Key.unit x.inst)
  let m := s.obj (Obj.FRM_SM_DEG_M e)
  t.declared Df.smTim p = decide (x.tti ≠ s.obj (Obj.FRM_SM_TTI_EXP e (x.inst - 1))) ∧
  t.declared Df.smBdi p = (if x.bdi ≠ s.declared Df.smBdi p ∧ run.bdi + 1 = 5 then x.bdi else s.declared Df.smBdi p) ∧
  t.declared Df.smIae p = (if x.iae ≠ s.declared Df.smIae p ∧ run.iae + 1 = 5 then x.iae else s.declared Df.smIae p) ∧
  t.declared Df.smDeg p = (if m ≤ after.bad then true else if m ≤ after.good then false else s.declared Df.smDeg p) ∧
  (x.second = none → after.bad = run.bad ∧ after.good = run.good) ∧
  (∀ n, x.second = some n → s.obj (Obj.FRM_SM_DEG_THR e) ≤ n → after.bad = run.bad + 1 ∧ after.good = 0) ∧
  ∀ n, x.second = some n → n < s.obj (Obj.FRM_SM_DEG_THR e) → after.bad = 0 ∧ after.good = run.good + 1

/-- A bit that has differed for 5 frames in a row replaces the accepted one. -/
theorem accepted_after_five (received accepted : Bool) (run : Nat) :
    (if (if received = accepted then 0 else run + 1) = 5 then received else accepted) =
      if received ≠ accepted ∧ run + 1 = 5 then received else accepted := by
  by_cases h : received = accepted <;> simp [h]

section
variable {s : State} {e : Nat}

theorem sectionFollows_setSection (x : SmState) : SectionFollows s (s.setSection e x) e x := by
  unfold State.setSection
  extract_lets p r bdi iae bdiRun iaeRun reached bad good m deg run t
  have hbdi := accepted_after_five x.bdi bdi r.bdi
  have hiae := accepted_after_five x.iae iae r.iae
  simp only [SectionFollows, State.declared_setDefect, State.engine_setDefect]
  have hrun : Map.get {} (t.engine e).sections (Key.unit x.inst) = run := by simp [t]
  rw [hrun]
  refine ⟨by simp [p], ?_, ?_, ?_, fun h => ?_, fun n h hn => ?_, fun n h hn => ?_⟩
  · simpa [p, bdiRun] using hbdi
  · simpa [p, iaeRun] using hiae
  · simp [p, deg, run, m]
  · simp [run, bad, good, h, r]
  · simp [run, bad, good, h, r, reached, hn]
  · simp [run, bad, good, h, r, reached, Nat.not_le.mpr hn]

/-- An engine without the records of its section monitoring. -/
def Engine.unsectioned (r : Engine) : Engine := { r with sections := [] }

theorem State.engine_setSection (x : SmState) : ((s.setSection e x).engine e).unsectioned = (s.engine e).unsectioned := by
  unfold State.setSection
  extract_lets p r bdi iae bdiRun iaeRun reached bad good m deg run t
  simp only [State.engine_setDefect, State.engine_withEngine_same, t]
  rfl

theorem State.declared_setSection (x : SmState) {d : Nat} (i : Nat) (hd : d ∉ [Df.smTim, Df.smDeg, Df.smBdi, Df.smIae]) :
    (s.setSection e x).declared d i = s.declared d i := by
  simp only [List.mem_cons, List.not_mem_nil, or_false, not_or] at hd
  obtain ⟨htim, hdeg, hbdi, hiae⟩ := hd
  unfold State.setSection
  extract_lets p r bdi iae bdiRun iaeRun reached bad good m deg run t
  simp [State.declared_setDefect, htim, hdeg, hbdi, hiae, t]

/-- The monitoring is the same of a state that differs in what the OTUC check has set. -/
theorem SectionFollows.of_same {u t : State} {x : SmState} (h : SectionFollows u t e x) (hobj : ∀ k, k ≠ Obj.FRM_LOF_COUNT e → u.obj k = s.obj k)
    (hdecl : ∀ d ∈ [Df.smTim, Df.smDeg, Df.smBdi, Df.smIae], ∀ i, u.declared d i = s.declared d i)
    (hsec : (u.engine e).sections = (s.engine e).sections) : SectionFollows s t e x := by
  have hpoint : u.otucPoint e = s.otucPoint e := funext fun a => by simp only [State.otucPoint, State.bond, hobj Obj.TB_BOND_CFG (by simp)]
  unfold SectionFollows at h
  dsimp only at h
  rw [hpoint, hsec, hobj (Obj.FRM_SM_TTI_EXP e _) (by simp), hobj (Obj.FRM_SM_DEG_M e) (by simp), hobj (Obj.FRM_SM_DEG_THR e) (by simp),
    hdecl Df.smBdi (by simp), hdecl Df.smIae (by simp), hdecl Df.smDeg (by simp)] at h
  exact h

end

/-! ## An OTUC frame (R147) -/

/-- An OTUC frame passes every check: its FAS, the place of its start, and the MFAS that follows the last. -/
def Engine.otucPasses (r : Engine) (f : OtucFrame) : Bool :=
  f.fasOk && r.otucPtrOk && match r.prevMfas with
    | none => true
    | some m => decide (f.mfas = (m + 1) % 256)

theorem Engine.otucPasses_iff (r : Engine) (f : OtucFrame) : r.otucPasses f = true ↔
    f.fasOk = true ∧ r.otucPtrOk = true ∧ (r.prevMfas = none ∨ ∃ m, r.prevMfas = some m ∧ f.mfas = (m + 1) % 256) := by
  unfold Engine.otucPasses
  cases r.prevMfas <;> simp [and_assoc]

/-- The engine after an OTUC frame that passes, or does not: five in a row that do not declare dLOF by OTUC, two that do end it. -/
def Engine.otucChecked (r : Engine) (pass : Bool) (mfas : Nat) : Engine :=
  let bad := if pass then 0 else r.otucBad + 1
  let good := if pass then r.otucGood + 1 else 0
  { r with otucBad := bad, otucGood := good, prevMfas := some mfas
           lofOtuc := if 5 ≤ bad then true else if 2 ≤ good then false else r.lofOtuc }

/-- The state after the OTUC check of a frame, before its dLOM and its section monitoring. -/
def State.otucChecked (s : State) (e : Nat) (f : OtucFrame) : State :=
  let r := s.engine e
  let x := r.otucChecked (r.otucPasses f) f.mfas
  let t := s.withEngine e fun r => r.otucChecked (r.otucPasses f) f.mfas
  (if x.lofOtuc ∧ ¬ r.lofOtuc ∧ ¬ r.lofFrame then t.bump (Obj.FRM_LOF_COUNT e) else t).refreshLof e 2

/-- The state after an OTUC frame. -/
def State.otucReceived (s : State) (e : Nat) (f : OtucFrame) : State :=
  f.sm.foldl (fun v x => v.setSection e x) ((s.otucChecked e f).setDefect Df.lom e f.lom)

theorem exec_otucFrameCheck_received {e : Fin 4} {s : State} {f : OtucFrame} (hlock : s.rxLocked e = true) (hmode : modeL (s.mode e) = true)
    (hsync : s.obj (Obj.FRM_STATE e) = 2) (hidle : (s.engine e).idleSeen = false) :
    exec (.otucFrameCheck e f) s = .next (s.otucReceived e f) :=
  if_pos ⟨hlock, hmode, hsync, by simp [hidle]⟩

section
variable {s : State} {e : Nat} {f : OtucFrame}

theorem State.engine_otucChecked : (s.otucChecked e f).engine e = (s.engine e).otucChecked ((s.engine e).otucPasses f) f.mfas := by
  unfold State.otucChecked
  rw [State.engine_refreshLof]
  split <;> simp

theorem State.obj_otucChecked {k : Key} (hk : k ≠ Obj.FRM_LOF_COUNT e) : (s.otucChecked e f).obj k = s.obj k := by
  unfold State.otucChecked
  rw [State.obj_refreshLof]
  split <;> simp [hk]

theorem State.declared_otucChecked {d : Nat} (i : Nat) (hd : d ≠ Df.lof) : (s.otucChecked e f).declared d i = s.declared d i := by
  unfold State.otucChecked
  rw [State.declared_refreshLof, if_neg fun h => hd h.1]
  split <;> rfl

theorem State.lof_otucChecked : (s.otucChecked e f).declared Df.lof e =
    (((s.otucChecked e f).engine e).lofFrame || ((s.otucChecked e f).engine e).lofOtuc) := by
  unfold State.otucChecked
  extract_lets r x t
  rw [State.declared_refreshLof, if_pos ⟨rfl, rfl⟩, State.engine_refreshLof]

/-- The section monitoring leaves the check's own counts alone. -/
theorem State.engine_otucReceived : ((s.otucReceived e f).engine e).unsectioned =
    ((s.engine e).otucChecked ((s.engine e).otucPasses f) f.mfas).unsectioned := by
  rw [← State.engine_otucChecked]
  exact (foldl_keeps (fun t : State => (t.engine e).unsectioned) (fun t x => t.engine_setSection x) f.sm _).trans
    (congrArg Engine.unsectioned (State.engine_setDefect _ _ _ _ e))

theorem State.declared_otucReceived {d : Nat} (hd : d ∉ [Df.smTim, Df.smDeg, Df.smBdi, Df.smIae]) :
    (s.otucReceived e f).declared d e = ((s.otucChecked e f).setDefect Df.lom e f.lom).declared d e :=
  foldl_keeps (State.declared · d e) (fun t x => t.declared_setSection x e hd) f.sm _

theorem State.lom_otucReceived : (s.otucReceived e f).declared Df.lom e = f.lom := by
  rw [State.declared_otucReceived (by simp), State.declared_setDefect, if_pos ⟨rfl, rfl⟩]

theorem State.lof_otucReceived : (s.otucReceived e f).declared Df.lof e =
    (((s.otucReceived e f).engine e).lofFrame || ((s.otucReceived e f).engine e).lofOtuc) := by
  rw [State.declared_otucReceived (by simp), State.declared_setDefect, if_neg (by simp), State.lof_otucChecked, State.engine_otucChecked]
  exact (congrArg (fun r : Engine => r.lofFrame || r.lofOtuc) State.engine_otucReceived.symm :)

/-- Where the frame carries a single OTUC, its monitoring follows that one. -/
theorem sectionFollows_otucReceived {x : SmState} (hx : f.sm = [x]) : SectionFollows s (s.otucReceived e f) e x := by
  unfold State.otucReceived
  rw [hx]
  refine (sectionFollows_setSection x).of_same (fun k hk => ?_) (fun d hd i => ?_) ?_
  · rw [State.obj_setDefect, State.obj_otucChecked hk]
  · have hlof : d ≠ Df.lof := by
      rintro rfl
      simp at hd
    have hlom : d ≠ Df.lom := by
      rintro rfl
      simp at hd
    rw [State.declared_setDefect, if_neg fun h => hlom h.1, State.declared_otucChecked i hlof]
  · rw [State.engine_setDefect, State.engine_otucChecked]
    rfl

end

theorem Engine.otucChecked_passed (r : Engine) (mfas : Nat) : (r.otucChecked true mfas).otucBad = 0 ∧
    (r.otucChecked true mfas).otucGood = r.otucGood + 1 ∧ (1 ≤ r.otucGood → (r.otucChecked true mfas).lofOtuc = false) := by
  simp +contextual [Engine.otucChecked]

theorem Engine.otucChecked_failed (r : Engine) (mfas : Nat) : (r.otucChecked false mfas).otucGood = 0 ∧
    (r.otucChecked false mfas).otucBad = r.otucBad + 1 ∧ (4 ≤ r.otucBad → (r.otucChecked false mfas).lofOtuc = true) := by
  simp +contextual [Engine.otucChecked]

/-! ## The agreement's framing (R149) -/

theorem exec_agreementFrameReceive_locked {e : Fin 4} {s : State} (lof alignment : Bool) (hlock : s.rxLocked e = true)
    (hmode : modeZ (s.mode e) = true) : exec (.agreementFrameReceive e lof alignment) s =
      .next (((s.withEngine e fun r => { r with lofFrame := lof, lofOtuc := false }).refreshLof e 1).setDefect Df.lom e alignment) :=
  if_pos ⟨hlock, hmode⟩

theorem State.setDefect_frame (s : State) (d i : Nat) (on : Bool) :
    s.setDefect d i on = { s with defects := (s.setDefect d i on).defects, changes := (s.setDefect d i on).changes } := by
  cases on
  · exact s.clear_frame d i
  · exact s.declare_frame d i

/-! ## The statement -/

/-- Settles O28: each word by the state of the deframer, the OTUC check by whether the frame passes, and the agreement's framing as it says. -/
theorem deframerFollowsTheAlignmentWord : Obligations.DeframerFollowsTheAlignmentWord := by
  intro e s hlock
  refine ⟨fun f hmode => ?_, fun f hmode hsync hidle => ?_, fun lof alignment hmode => ?_⟩
  · intro next candidate recurs overhead
    refine ⟨fun h => exec_lFrameReceive_hunt hlock hmode h, fun h hpos => exec_lFrameReceive_elsewhere hlock hmode h hpos,
      fun h ⟨hpos, hcand⟩ => ⟨_, exec_lFrameReceive_presync hlock hmode h hpos hcand, fun herr => ?_, presyncFrame_false h⟩,
      fun h hdue => (exec_lFrameReceive_sync hlock hmode h).trans (if_neg hdue),
      fun h hdue herr => ⟨_, (exec_lFrameReceive_sync hlock hmode h).trans (if_pos hdue), ?_⟩,
      fun h hdue herr hmiss => ⟨_, (exec_lFrameReceive_sync hlock hmode h).trans (if_pos hdue), syncFrame_lost herr hmiss⟩⟩
    · obtain ⟨hstate, hsearch, hread⟩ := presyncFrame_aligned (s := s) (e := e) herr
      exact ⟨hstate, congrArg Prod.fst hsearch, congrArg (·.2.1) hsearch, hread⟩
    · obtain ⟨hstate, hsearch, hread⟩ := syncFrame_read (s := s) (e := e) herr
      exact ⟨hstate.trans h, congrArg (·.2.1) hsearch, congrArg (·.2.2) hsearch, hread⟩
  · intro pass
    have hpass : (s.engine e).otucPasses f = true ↔ pass := (s.engine e).otucPasses_iff f
    have hengine := State.engine_otucReceived (s := s) (e := e) (f := f)
    refine ⟨_, exec_otucFrameCheck_received hlock hmode hsync hidle, congrArg Engine.prevMfas hengine, State.lom_otucReceived,
      fun hp => ?_, fun hp => ?_, State.lof_otucReceived, (congrArg Engine.lofFrame hengine :), fun x hx => sectionFollows_otucReceived hx⟩
    · rw [hpass.mpr hp] at hengine
      obtain ⟨hbad, hgood, hlof⟩ := (s.engine e).otucChecked_passed f.mfas
      exact ⟨(congrArg Engine.otucBad hengine).trans hbad, (congrArg Engine.otucGood hengine).trans hgood,
        fun h => (congrArg Engine.lofOtuc hengine).trans (hlof h)⟩
    · rw [Bool.eq_false_of_not_eq_true fun h => hp (hpass.mp h)] at hengine
      obtain ⟨hgood, hbad, hlof⟩ := (s.engine e).otucChecked_failed f.mfas
      exact ⟨(congrArg Engine.otucGood hengine).trans hgood, (congrArg Engine.otucBad hengine).trans hbad,
        fun h => (congrArg Engine.lofOtuc hengine).trans (hlof h)⟩
  · refine ⟨_, exec_agreementFrameReceive_locked lof alignment hlock hmode, ?_, ?_, fun k => ?_, ?_⟩
    · rw [State.declared_setDefect, if_neg (by simp), State.declared_refreshLof, if_pos ⟨rfl, rfl⟩]
      simp
    · rw [State.declared_setDefect, if_pos ⟨rfl, rfl⟩]
    · rw [State.obj_setDefect, State.obj_refreshLof, State.obj_withEngine]
    · rw [State.setDefect_frame, State.refreshLof_frame]
      rfl

end Sys2Proof.Machine
end

section
/-! PROOFS. Writes of host lanes and clients: what each is refused for, and what is staged for the next boundary. -/

namespace Sys2Proof.Machine

/-- A write whose chapter makes one check of its own. -/
theorem serveWrite_checked {rq : Rq} {x : Sender} {k : Key} {val v : Val} {s t : State} {st : Status} {c : Prop} [Decidable c]
    (h : Accepted rq x k val v s) (accept : Accept)
    (g : accept k v (s.served rq x) = if c then (st, s.served rq x) else (.ok, t)) :
    serveWrite accept rq k val s = if c then (s.served rq x).deliver rq Op.write st [] else t.answered rq := by
  split
  case isTrue hc => exact serveWrite_refused h accept (g.trans (if_pos hc))
  case isFalse hc => exact serveWrite_accepted h accept (g.trans (if_neg hc))

/-! ## Host lanes (R166, R167, R170, R186) -/

section
variable (l : Fin 64) (v : Val) (s : State)

/-- 0xFF, under which class 0x20 keeps what belongs to no lane, is no lane. -/
theorem lane_ne_group : (l : Nat) ≠ 0xFF := by omega

theorem acceptLane_rate : acceptLane (Obj.HL_RATE l) v s =
    if s.laneUsed l = true ∨ s.ratesFit [(l.val, v.v)] = false then (.precond, s) else (.ok, s.stage (Obj.HL_RATE l) v.v) := by
  simp [acceptLane, acceptStage, lane_ne_group]

theorem acceptLane_timing : acceptLane (Obj.HL_TX_TIMING l) v s =
    if s.timingAccepted l v.v = false then (.precond, s) else (.ok, s.stage (Obj.HL_TX_TIMING l) v.v) := by
  unfold acceptLane
  rw [if_neg (lane_ne_group l)]
  cases s.timingAccepted l v.v
  · simp
  · simp [acceptStage]

theorem acceptLane_prbs : acceptLane (Obj.HL_PRBS_CFG l) v s =
    if prbsLegal (s.latest (Obj.HL_RATE l)) (field v.v 3 0) = false ∨ prbsLegal (s.latest (Obj.HL_RATE l)) (field v.v 7 4) = false then (.range, s)
    else if field v.v 3 0 ≠ 0 ∧ field (s.latest (Obj.HL_PRBS_CFG l)) 3 0 = 0 ∧ s.laneUsed l = true then (.precond, s)
    else (.ok, s.stage (Obj.HL_PRBS_CFG l) v.v) := by
  unfold acceptLane
  rw [if_neg (lane_ne_group l)]
  refine if_congr ?_ rfl rfl
  rw [not_and_or, Bool.not_eq_true, Bool.not_eq_true]

theorem acceptClient_form : acceptClient {} (Obj.CLI_FORM l) v s =
    if s.laneUsed l = true then (.precond, s) else (.ok, s.stage (Obj.CLI_FORM l) v.v) := if_pos l.isLt

theorem acceptClient_type (set : LaneSet) : acceptClient set (Obj.CLI_TYPE l) v s = acceptClientType set (Obj.CLI_TYPE l) v s := if_pos l.isLt

end

/-! ## The creation of a client (R172) -/

/-- The agenda without an earlier client for lane `f`. -/
def State.agendaWithoutClient (s : State) (f : Nat) : List Pending :=
  s.agenda.filter fun p => match p.due with
    | .client l _ _ _ => decide (l ≠ f)
    | _ => true

/-- A client of lane `f` waits for the next boundary, in place of one that waited, and its lanes' rates with it. -/
def State.placeClient (s : State) (f type : Nat) (lanes : List Nat) (rate : Nat) : State :=
  lanes.foldl (fun t l => t.stage (Obj.HL_RATE l) rate)
    { s with agenda := s.agendaWithoutClient f ++ [⟨s.now + 1, .client f type lanes rate⟩] }

section
variable {set : LaneSet} {f rate : Nat} {lanes : List Nat} {v : Val} {s : State}

theorem acceptClientType_unplaced (h : clientSet v.v f set = none) : acceptClientType set (Obj.CLI_TYPE f) v s = (.precond, s) := by
  unfold acceptClientType
  simp only [h]

/-- A placement that is legal goes by the lanes and their rates. -/
theorem acceptClientType_placed (h : clientSet v.v f set = some (lanes, rate)) : acceptClientType set (Obj.CLI_TYPE f) v s =
    if s.laneUsed f = true ∨ (∃ i ∈ lanes, s.laneUsed i = true ∨ i ∈ s.takenLanes f) ∨ s.ratesFit (lanes.map fun i => (i, rate)) = false
    then (.precond, s) else (.ok, s.placeClient f v.v lanes rate) := by
  unfold acceptClientType
  simp only [h]
  refine (ite_or _ _ _ _).symm.trans (if_congr ?_ rfl rfl)
  simp [or_assoc]

/-- A client that waits is still there when a write is staged. -/
theorem State.mem_stage_client {k : Key} {w b g type : Nat} {ls : List Nat} {r : Nat} (h : ⟨b, .client g type ls r⟩ ∈ s.agenda) :
    ⟨b, .client g type ls r⟩ ∈ (s.stage k w).agenda :=
  List.mem_append_left _ (List.mem_filter.mpr ⟨h, rfl⟩)

theorem State.stage_frame (s : State) (k : Key) (w : Nat) : s.stage k w = { s with agenda := (s.stage k w).agenda } := rfl

theorem State.placeClient_frame (s : State) (f type : Nat) (lanes : List Nat) (rate : Nat) :
    s.placeClient f type lanes rate = { s with agenda := (s.placeClient f type lanes rate).agenda } :=
  List.foldlRecOn (motive := fun t : State => t = { s with agenda := t.agenda }) lanes _ rfl fun t ht l _ => by
    rw [State.stage_frame, ht]

theorem State.mem_placeClient (s : State) (f type : Nat) (lanes : List Nat) (rate : Nat) :
    ⟨s.now + 1, .client f type lanes rate⟩ ∈ (s.placeClient f type lanes rate).agenda :=
  List.foldlRecOn (motive := fun t : State => ⟨s.now + 1, .client f type lanes rate⟩ ∈ t.agenda) lanes _
    (List.mem_append_right _ List.mem_cons_self) fun _ ht _ _ => State.mem_stage_client ht

/-- Every lane of the client waits for its rate. -/
theorem State.mem_placeClient_rate (s : State) (f type rate : Nat) {lanes : List Nat} {i : Nat} (hi : i ∈ lanes) :
    ⟨s.now + 1, .write (Obj.HL_RATE i) rate⟩ ∈ (s.placeClient f type lanes rate).agenda := by
  obtain ⟨hn, hmem⟩ := foldl_reaches (f := fun (t : State) l => t.stage (Obj.HL_RATE l) rate) (P := fun t => t.now = s.now)
    (Q := fun t => t.now = s.now ∧ ⟨t.now + 1, .write (Obj.HL_RATE i) rate⟩ ∈ t.agenda)
    (fun t l _ ht => (t.now_stage (Obj.HL_RATE l) rate).trans ht) (fun t ht => ⟨ht, t.mem_stage_same (Obj.HL_RATE i) rate⟩)
    (fun t l ⟨hn, hmem⟩ => ⟨(t.now_stage (Obj.HL_RATE l) rate).trans hn, t.mem_stage_of_mem (Obj.HL_RATE l) rate hmem⟩) hi
    (s := { s with agenda := s.agendaWithoutClient f ++ [⟨s.now + 1, .client f type lanes rate⟩] }) rfl
  exact hn ▸ hmem

end

/-! ## The statement -/

/-- Settles O30: each write by the check of its object, and a client by whether its lanes may be placed and are free. -/
theorem hostWritesAreChecked : Obligations.HostWritesAreChecked := by
  intro l rq x val v s u refused staged
  have hnow : u.now = s.now := s.now_served rq x
  refine ⟨fun h => ?_, fun h => ?_, fun h => ?_, fun h => ?_,
    fun set h => ⟨fun hset => ?_, fun lanes rate hset => ⟨fun hbad => ?_, fun hfree hlanes hfit => ?_⟩⟩⟩
  · exact congrArg Host.Outcome.next (serveWrite_checked h acceptLane (acceptLane_rate l v u))
  · exact congrArg Host.Outcome.next (serveWrite_checked h acceptLane (acceptLane_timing l v u))
  · intro rate
    have g := acceptLane_prbs l v u
    refine congrArg Host.Outcome.next ?_
    split
    case isTrue hr => exact serveWrite_refused h acceptLane (g.trans (if_pos hr))
    case isFalse hr => exact serveWrite_checked h acceptLane (g.trans (if_neg hr))
  · exact congrArg Host.Outcome.next (serveWrite_checked h (acceptClient {}) (acceptClient_form l v u))
  · exact congrArg Host.Outcome.next (serveWrite_refused h (acceptClient set) ((acceptClient_type l v u set).trans (acceptClientType_unplaced hset)))
  · have g := (acceptClient_type l v u set).trans (acceptClientType_placed hset)
    exact congrArg Host.Outcome.next (serveWrite_refused h (acceptClient set) (g.trans (if_pos hbad)))
  · have g := (acceptClient_type l v u set).trans (acceptClientType_placed hset)
    refine ⟨u.placeClient l v.v lanes rate, congrArg Host.Outcome.next (serveWrite_accepted h (acceptClient set) (g.trans (if_neg ?_))),
      u.placeClient_frame l v.v lanes rate, hnow ▸ u.mem_placeClient l v.v lanes rate, fun i hi => hnow ▸ u.mem_placeClient_rate l v.v rate hi⟩
    rintro (hused | ⟨i, hi, hiused | htaken⟩ | hunfit)
    · simp [hfree] at hused
    · simp [(hlanes i hi).1] at hiused
    · exact (hlanes i hi).2 htaken
    · simp [hfit] at hunfit

end Sys2Proof.Machine
end

section
/-! PROOFS. Host lanes and clients as they follow their input: what the references and the clients of a lane take from it, and lock, dLOS, the PCS
and the calendars. -/

namespace Sys2Proof.Machine

/-! ## What follows a lane (R171, R172, R346) -/

/-- The objects that references and clients keep of what they follow: those of class 0x40, CLI_STATE and CLI_DEFECTS. -/
def followsLane (k : Key) : Bool := decide (k.c = 0x40) || (decide (k.c = 0x21) && (decide (k.m = 0x03) || decide (k.m = 0x04)))

/-- The second state is the first once references and clients have followed their lanes: the timing unit, their own objects and whether a client has
been up may differ, and events may have come. -/
structure State.FollowedBy (s t : State) : Prop where
  frame : t = { s with reg := t.reg, changes := t.changes, clients := t.clients, timing := t.timing }
  obj : ∀ k, followsLane k = false → t.obj k = s.obj k
  changes : s.changes ⊆ t.changes
  client : ∀ f, t.client f = { s.client f with up := (t.client f).up }

namespace State.FollowedBy
variable {s t u : State}

theorem refl (s : State) : s.FollowedBy s := ⟨rfl, fun _ _ => rfl, fun _ h => h, fun _ => rfl⟩

theorem trans (h : s.FollowedBy t) (g : t.FollowedBy u) : s.FollowedBy u where
  frame := by rw [g.frame, h.frame]
  obj k hk := (g.obj k hk).trans (h.obj k hk)
  changes := List.Subset.trans h.changes g.changes
  client f := (g.client f).trans (congrArg (fun c : Client => { c with up := (u.client f).up }) (h.client f))

theorem declared (h : s.FollowedBy t) (d i : Nat) : t.declared d i = s.declared d i := by rw [h.frame]; rfl

theorem lanes (h : s.FollowedBy t) (f : Nat) : (t.client f).lanes = (s.client f).lanes := (congrArg Client.lanes (h.client f) :)

theorem pcs (h : s.FollowedBy t) (f : Nat) : (t.client f).pcs = (s.client f).pcs := (congrArg Client.pcs (h.client f) :)

theorem differ (h : s.FollowedBy t) (f : Nat) : (t.client f).differ = (s.client f).differ := (congrArg Client.differ (h.client f) :)

theorem agree (h : s.FollowedBy t) (f : Nat) : (t.client f).agree = (s.client f).agree := (congrArg Client.agree (h.client f) :)

theorem clientDefects (h : s.FollowedBy t) (f : Nat) : t.clientDefects f = s.clientDefects f := by
  have hd : ∀ d, t.declared d = s.declared d := fun d => funext (h.declared d)
  simp only [State.clientDefects, h.lanes, hd]

theorem setObj (h : s.FollowedBy t) {k : Key} (v : Nat) (hk : followsLane k = true) : s.FollowedBy (t.setObj k v) :=
  h.trans ⟨rfl, fun k' hk' => State.obj_setObj_ne t v fun g => by simp [g, hk] at hk', fun _ hx => hx, fun _ => rfl⟩

theorem raise (h : s.FollowedBy t) (ev : EvRow) (xs : List Nat) : s.FollowedBy (t.raise ev xs) :=
  h.trans ⟨rfl, fun _ _ => rfl, List.subset_append_left _ _, fun _ => rfl⟩

theorem withTiming (h : s.FollowedBy t) (f : Timing → Timing) : s.FollowedBy (t.withTiming f) :=
  h.trans ⟨rfl, fun _ _ => rfl, fun _ hx => hx, fun _ => rfl⟩

theorem markUp (h : s.FollowedBy t) (f : Nat) :
    s.FollowedBy { t with clients := Map.set {} t.clients (Key.unit f) { t.client f with up := true } } :=
  h.trans ⟨rfl, fun _ _ => rfl, fun _ hx => hx, fun g => by
    by_cases hg : g = f
    · subst hg; simp
    · simp [Map.get_set_ne _ _ _ _ fun x => hg (Key.unit_inj x)]⟩

end State.FollowedBy

section
variable (s : State)

theorem State.refreshLevel_followedBy (r : Nat) : s.FollowedBy (s.refreshLevel r) := by
  unfold State.refreshLevel
  extract_lets old new
  split
  · exact .refl s
  · exact ((State.FollowedBy.refl s).setObj _ rfl).raise _ _

theorem State.setRefState_followedBy (r new : Nat) : s.FollowedBy (s.setRefState r new) := by
  unfold State.setRefState
  extract_lets old
  split
  · exact .refl s
  · exact (((State.FollowedBy.refl s).setObj _ rfl).raise _ _).trans (State.refreshLevel_followedBy _ r)

theorem State.freezeTrackers_followedBy (r : Nat) : s.FollowedBy (s.freezeTrackers r) := by
  refine List.foldlRecOn (motive := fun t : State => s.FollowedBy t) _ _ (.refl s) fun t ht d _ => ?_
  split
  · exact ht.withTiming _
  · exact ht

theorem State.failRef_followedBy (r : Nat) : s.FollowedBy (s.failRef r) := by
  unfold State.failRef
  split
  · exact (State.FollowedBy.refl s).withTiming _
  · extract_lets x t
    have ht : s.FollowedBy t := by
      unfold t; split
      · exact (State.FollowedBy.refl s).setObj _ rfl
      · exact .refl s
    exact ((ht.withTiming _).trans (State.setRefState_followedBy _ r 0)).trans (State.freezeTrackers_followedBy _ r)

theorem State.followLane_followedBy (l : Nat) : s.FollowedBy (s.followLane l) := by
  refine List.foldlRecOn (motive := fun t : State => s.FollowedBy t) _ _ (.refl s) fun t ht r _ => ?_
  unfold State.followRef
  split
  · split
    · exact ht.trans (t.failRef_followedBy r)
    · exact ht
  · exact ht

theorem State.refreshClient_followedBy (f : Nat) : s.FollowedBy (s.refreshClient f) := by
  unfold State.refreshClient
  extract_lets old new t st u c v
  have hu : s.FollowedBy u := ((State.FollowedBy.refl s).setObj new rfl).setObj st rfl
  have hv : s.FollowedBy v := by
    unfold v; split
    · exact hu.markUp f
    · exact hu
  split
  · exact hv
  · exact hv.raise _ _

theorem State.refreshLaneClient_followedBy (l : Nat) : s.FollowedBy (s.refreshLaneClient l) := by
  unfold State.refreshLaneClient
  split
  case h_1 f _ => exact s.refreshClient_followedBy f
  case h_2 => exact .refl s

/-- CLI_DEFECTS reads the defects of the client. -/
theorem State.obj_refreshClient_defects (f : Nat) : (s.refreshClient f).obj (Obj.CLI_DEFECTS f) = s.clientDefects f := by
  unfold State.refreshClient
  extract_lets old new t st u c v
  have hu : u.obj (Obj.CLI_DEFECTS f) = new := (t.obj_setObj_ne st (by simp)).trans (s.obj_setObj_same _ new)
  have hv : v.obj (Obj.CLI_DEFECTS f) = new := by
    unfold v; split
    · exact hu
    · exact hu
  split
  · exact hv
  · exact hv

/-! ## Lock (R168) -/

theorem State.changes_declare (d i : Nat) : s.changes ⊆ (s.declare d i).changes := by
  unfold State.declare
  split
  · exact List.Subset.refl _
  · exact List.subset_append_left _ _

theorem State.changes_clear (d i : Nat) : s.changes ⊆ (s.clear d i).changes := by
  unfold State.clear
  split
  · exact List.subset_append_left _ _
  · exact List.Subset.refl _

theorem State.changes_setDefect (d i : Nat) (on : Bool) : s.changes ⊆ (s.setDefect d i on).changes := by
  cases on
  · exact s.changes_clear d i
  · exact s.changes_declare d i

end

/-- A lane that changes state says so, dLOL holds in ADAPT, and what follows the lane comes after. -/
theorem State.setLane_followedBy {s : State} {l old new : Nat} (hold : s.obj (Obj.HL_STATE l) = old) (hne : old ≠ new) (hnew : new ≠ 0) :
    (((s.setObj (Obj.HL_STATE l) new).raise Ev.HL_STATE [l, old, new]).setDefect Df.laneLol l (decide (new = 1))).FollowedBy (s.setLane l new) := by
  subst hold
  unfold State.setLane
  extract_lets old t u v
  have hv : v = ((s.setObj (Obj.HL_STATE l) new).raise Ev.HL_STATE [l, old, new]).setDefect Df.laneLol l (decide (new = 1)) := by
    simp only [v, u, t, if_neg hnew]
    rw [if_neg hne]
  rw [← hv]
  exact (v.followLane_followedBy l).trans (State.refreshLaneClient_followedBy _ l)

/-- A lane's state and dLOL after a change of state, with its event, and what else may have followed. -/
theorem State.setLane_spec {s : State} {l old new : Nat} (hold : s.obj (Obj.HL_STATE l) = old) (hne : old ≠ new) (hnew : new ≠ 0) :
    let t := s.setLane l new
    t.obj (Obj.HL_STATE l) = new ∧ t.declared Df.laneLol l = decide (new = 1) ∧
      ⟨Ev.HL_STATE.code, false, s.tick, contentOf Ev.HL_STATE.widths [l, old, new]⟩ ∈ t.changes ∧
      (∀ j, j ≠ l → t.obj (Obj.HL_STATE j) = s.obj (Obj.HL_STATE j)) ∧
      t = { s with reg := t.reg, defects := t.defects, changes := t.changes, clients := t.clients, timing := t.timing } := by
  intro t
  have h := State.setLane_followedBy hold hne hnew
  refine ⟨?_, ?_, h.changes (State.changes_setDefect _ _ _ _ ?_), fun j hj => ?_, ?_⟩
  · rw [h.obj _ rfl, State.obj_setDefect, State.obj_raise, State.obj_setObj_same]
  · rw [h.declared, State.declared_setDefect, if_pos ⟨rfl, rfl⟩]
  · exact List.mem_append_right _ List.mem_cons_self
  · rw [h.obj _ rfl, State.obj_setDefect, State.obj_raise, State.obj_setObj_ne _ _ (by simpa using hj)]
  · have hd : t.defects = _ := congrArg State.defects h.frame
    refine h.frame.trans ?_
    rw [hd, State.setDefect_frame]
    rfl

/-! ## dLOS of a lane (R169) -/

theorem exec_laneLosDeclare_due {l : Fin 64} {amplitude ns : Nat} {s : State} (h : s.obj (Obj.HL_STATE l) ≠ 0 ∧ amplitude < 50 ∧ 500 ≤ ns) :
    exec (.laneLosDeclare l amplitude ns) s = .next (((s.declare Df.laneLos l).followLane l).refreshLaneClient l) := if_pos h

theorem exec_laneLosClear (l : Fin 64) (amplitude ticks : Nat) (s : State) : exec (.laneLosClear l amplitude ticks) s =
    if 80 < amplitude ∧ 8 ≤ ticks then .next ((s.clear Df.laneLos l).refreshLaneClient l) else .next s := rfl

/-! ## A client's PCS (R172, R178, R184) -/

/-- A client whose PCS or framer is locked, or is not. -/
def State.setPcs (s : State) (l : Nat) (on : Bool) : State :=
  { s with clients := Map.set {} s.clients (Key.unit l) { s.client l with pcs := on } }

theorem State.client_setPcs_same (s : State) (l : Nat) (on : Bool) : (s.setPcs l on).client l = { s.client l with pcs := on } :=
  Map.get_set_same _ _ _ _

/-- The defects of a client's PCS or framer, each for the kinds of client that have it. -/
def State.pcsDefects (s : State) (l type : Nat) (p : PcsState) : State :=
  ((((s.setDefect Df.lobl l (isEthernet type && !p.blockLock)).setDefect Df.loaml l ((isEthernet type || decide (type = 17)) && !p.alignment)).setDefect
    Df.hiBer l (isEthernet type && p.hiBer)).setDefect Df.cliLof l ((isStm type || isOtu type || decide (type = 17)) && !p.frame)).setDefect
    Df.cliLom l (isOtu type && !p.multiframe)

section
variable (s : State) (l type : Nat) (p : PcsState)

theorem State.declared_pcsDefects :
    let t := s.pcsDefects l type p
    t.declared Df.lobl l = (isEthernet type && !p.blockLock) ∧ t.declared Df.hiBer l = (isEthernet type && p.hiBer) ∧
    t.declared Df.loaml l = ((isEthernet type || decide (type = 17)) && !p.alignment) ∧
    t.declared Df.cliLof l = ((isStm type || isOtu type || decide (type = 17)) && !p.frame) ∧
    t.declared Df.cliLom l = (isOtu type && !p.multiframe) := by
  simp [State.pcsDefects, State.declared_setDefect]

theorem State.clients_setDefect (d i : Nat) (on : Bool) : (s.setDefect d i on).clients = s.clients := by
  cases on
  · exact s.clients_clear d i
  · exact s.clients_declare d i

theorem State.client_pcsDefects (f : Nat) : (s.pcsDefects l type p).client f = s.client f := by
  unfold State.client
  simp only [State.pcsDefects, State.clients_setDefect]

end

theorem exec_clientPcsLockChange_of_lanes {l : Fin 64} {p : PcsState} {s : State} (h : (s.client l).lanes ≠ []) :
    exec (.clientPcsLockChange l p) s = .next (((s.setPcs l p.locked).pcsDefects l (s.clientType l) p).refreshClient l) := if_neg h

/-! ## The statement -/

/-- Settles O31: what a lane or a client takes from its input stands once the references and clients that follow it are done. -/
theorem hostLanesFollowTheirInput : Obligations.HostLanesFollowTheirInput := by
  intro l s
  refine ⟨fun old new c hc => ?_, fun amplitude ns hstate hamp hns => ?_, fun amplitude ticks => ⟨fun hamp hticks => ?_, fun hshort => ?_⟩,
    fun p hlanes => ?_, fun g calendar => ?_⟩
  · have hexec : exec c s = (if s.obj (Obj.HL_STATE l) = old then .next (s.setLane l new) else .next s) ∧ old ≠ new ∧ new ≠ 0 := by
      simp only [List.mem_cons, List.not_mem_nil, or_false, Prod.mk.injEq] at hc
      rcases hc with ⟨rfl, rfl, rfl⟩ | ⟨rfl, rfl, rfl⟩
      · exact ⟨rfl, by decide, by decide⟩
      · exact ⟨rfl, by decide, by decide⟩
    obtain ⟨hexec, hne, hnew⟩ := hexec
    exact ⟨fun h => ⟨_, hexec.trans (if_pos h), State.setLane_spec h hne hnew⟩, fun h => hexec.trans (if_neg h)⟩
  · have h := (State.followLane_followedBy (s.declare Df.laneLos l) l).trans (State.refreshLaneClient_followedBy _ l)
    refine ⟨_, exec_laneLosDeclare_due ⟨hstate, hamp, hns⟩, ?_, ?_⟩
    · rw [h.declared, State.declared_declare_same]
    · rw [h.obj _ rfl, State.obj_declare]
  · have h := State.refreshLaneClient_followedBy (s.clear Df.laneLos l) l
    refine ⟨_, (exec_laneLosClear l amplitude ticks s).trans (if_pos ⟨hamp, hticks⟩), ?_, ?_⟩
    · rw [h.declared, State.declared_clear_same]
    · rw [h.obj _ rfl, State.obj_clear]
  · exact (exec_laneLosClear l amplitude ticks s).trans (if_neg (by omega))
  · have h := State.refreshClient_followedBy ((s.setPcs l p.locked).pcsDefects l (s.clientType l) p) l
    have hclient := (State.client_pcsDefects _ l (s.clientType l) p l).trans (s.client_setPcs_same l p.locked)
    refine ⟨_, exec_clientPcsLockChange_of_lanes hlanes, ?_, ?_, ?_⟩
    · rw [h.pcs, hclient]
    · rw [h.lanes, hclient]
    · simp only [h.declared, h.clientDefects, State.obj_refreshClient_defects, and_true]
      exact State.declared_pcsDefects _ l _ p
  · change execFlexeCalSwitch g calendar s = _
    unfold execFlexeCalSwitch
    by_cases h : s.obj (Obj.FXE_CAL_ACTIVE g) = calendar
    · rw [if_pos h, if_neg (not_not.mpr h)]
    · rw [if_neg h, if_pos h]

end Sys2Proof.Machine
end

section
/-! PROOFS. The delineation of an expansion lane: what a state of HUNT, PRESYNC and SYNC leaves alone, and what each header position does. -/

namespace Sys2Proof.Machine

/-- Two states that differ in objects, defects and the event stream alone. -/
def State.sameButStatus (s t : State) : Prop := t = { s with reg := t.reg, defects := t.defects, changes := t.changes }

theorem State.sameButStatus.trans {r s t : State} (h : r.sameButStatus s) (g : s.sameButStatus t) : r.sameButStatus t := by
  unfold State.sameButStatus at *
  rw [g, h]

theorem State.setObj_sameButStatus (s : State) (k : Key) (v : Nat) : s.sameButStatus (s.setObj k v) := rfl

theorem State.raise_sameButStatus (s : State) (ev : EvRow) (xs : List Nat) : s.sameButStatus (s.raise ev xs) := rfl

theorem State.setDefect_sameButStatus (s : State) (d i : Nat) (on : Bool) : s.sameButStatus (s.setDefect d i on) := by
  unfold State.sameButStatus
  rw [State.setDefect_frame]

/-! ## The state of a lane's delineation (R191) -/

/-- A lane's delineation in a new state with its dLCD, before its client follows. -/
def State.markCellState (s : State) (f l new : Nat) : State :=
  let t := s.setObj (Obj.HL_CELL_STATE l) new
  let on := decide (new ≠ 2)
  if on ∧ ¬ t.declared Df.lcd l then (t.declare Df.lcd l).raise Ev.LCD [l, l, t.obj (Obj.EXP_HEC_ERR f)] else t.setDefect Df.lcd l on

section
variable (s : State) (f l new : Nat)

theorem State.obj_markCellState (k : Key) : (s.markCellState f l new).obj k = if k = Obj.HL_CELL_STATE l then new else s.obj k := by
  unfold State.markCellState
  extract_lets t on
  split
  · rw [State.obj_raise, State.obj_declare, State.obj_setObj]
  · rw [State.obj_setDefect, State.obj_setObj]

theorem State.lcd_markCellState : (s.markCellState f l new).declared Df.lcd l = decide (new ≠ 2) := by
  unfold State.markCellState
  extract_lets t on
  split
  case isTrue h => rw [State.declared_raise, State.declared_declare_same]; exact h.1.symm
  case isFalse => rw [State.declared_setDefect, if_pos ⟨rfl, rfl⟩]

theorem State.markCellState_sameButStatus : s.sameButStatus (s.markCellState f l new) := by
  unfold State.markCellState
  extract_lets t on
  have ht : s.sameButStatus t := s.setObj_sameButStatus _ _
  split
  · have hd : t.sameButStatus (t.declare Df.lcd l) := t.setDefect_sameButStatus Df.lcd l true
    exact (ht.trans hd).trans (State.raise_sameButStatus _ _ _)
  · exact ht.trans (t.setDefect_sameButStatus Df.lcd l on)

/-- In its new state the lane has dLCD outside SYNC; cells, Prism and every object that follows no lane are as before. -/
theorem State.setCellState_spec :
    let t := s.setCellState f l new
    t.obj (Obj.HL_CELL_STATE l) = new ∧ t.declared Df.lcd l = decide (new ≠ 2) ∧ t.cells = s.cells ∧ t.prism = s.prism ∧
      ∀ k, followsLane k = false → k ≠ Obj.HL_CELL_STATE l → t.obj k = s.obj k := by
  intro t
  have h : (s.markCellState f l new).FollowedBy t := State.refreshClient_followedBy _ f
  refine ⟨?_, ?_, ?_, ?_, fun k hk hne => ?_⟩
  · rw [h.obj _ rfl, State.obj_markCellState, if_pos rfl]
  · rw [h.declared, State.lcd_markCellState]
  · rw [h.frame, s.markCellState_sameButStatus f l new]
  · rw [h.frame, s.markCellState_sameButStatus f l new]
  · rw [h.obj k hk, State.obj_markCellState, if_neg hne]

end

section
variable {s : State} {f l : Nat}

/-- dLCD of one of its lanes is a defect of a client. -/
theorem State.clientDefects_of_lcd (hl : l ∈ (s.client f).lanes) (hd : s.declared Df.lcd l = true) : s.clientDefects f ≠ 0 := by
  have hany : (s.client f).lanes.any (s.declared Df.lcd) = true := List.any_eq_true.mpr ⟨l, hl, hd⟩
  unfold State.clientDefects
  simp only [hany, if_true]
  omega

/-- A client with a defect is not UP. -/
theorem State.clientState_of_defects (h : s.clientDefects f ≠ 0) : s.clientState f ≠ 2 := by
  unfold State.clientState
  simp only [h, ne_eq, not_false_eq_true, decide_true, true_and, not_true_eq_false, false_and, if_false]
  split
  · decide
  · split <;> decide

/-- A client with a defect changes in its objects alone. -/
theorem State.refreshClient_of_defects (h : s.clientDefects f ≠ 0) : s.sameButStatus (s.refreshClient f) := by
  unfold State.refreshClient
  extract_lets old new t st u c v
  have ht : t.clientDefects f ≠ 0 := by
    rwa [((State.FollowedBy.refl s).setObj new rfl : s.FollowedBy t).clientDefects]
  have hv : v = u := if_neg (State.clientState_of_defects ht)
  have hu : s.sameButStatus u := (s.setObj_sameButStatus _ new).trans (t.setObj_sameButStatus _ st)
  rw [hv]
  split
  · exact hu
  · exact hu.trans (u.raise_sameButStatus _ _)

/-- Outside SYNC the client of a lane that it holds is not UP, so that only objects, dLCD and events change. -/
theorem State.setCellState_sameButStatus {new : Nat} (hl : l ∈ (s.client f).lanes) (hnew : new ≠ 2) :
    s.sameButStatus (s.setCellState f l new) := by
  have h := s.markCellState_sameButStatus f l new
  have hl' : l ∈ ((s.markCellState f l new).client f).lanes := by rw [h]; exact hl
  have hd : (s.markCellState f l new).declared Df.lcd l = true := by rw [State.lcd_markCellState, decide_eq_true hnew]
  exact h.trans (State.refreshClient_of_defects (State.clientDefects_of_lcd hl' hd))

end
end Sys2Proof.Machine
end

section
/-! PROOFS. A header position of an expansion lane: when it is received, and what HUNT and PRESYNC make of it. -/

namespace Sys2Proof.Machine

theorem expCell_setCells_same (s : State) (l : Nat) (c : CellLane) : expCell (s.setCells l c) l = c := by
  rw [expCell_setCells, if_pos rfl]

theorem expCell_of_cells {s t : State} (h : t.cells = s.cells) (l : Nat) : expCell t l = expCell s l := by unfold expCell; rw [h]

/-- Two states that differ in the cells of the lanes alone. -/
def State.sameButCells (s t : State) : Prop := t = { s with cells := t.cells }

section
variable {r s t : State}

theorem State.sameButCells.trans (h : r.sameButCells s) (g : s.sameButCells t) : r.sameButCells t := by
  unfold State.sameButCells at *
  rw [g, h]

theorem State.sameButCells.status (h : r.sameButCells s) (g : s.sameButStatus t) :
    t = { r with cells := t.cells, reg := t.reg, defects := t.defects, changes := t.changes } := by
  unfold State.sameButCells State.sameButStatus at *
  rw [g, h]

theorem State.sameButCells.reg (h : r.sameButCells s) (g : t = { s with reg := t.reg }) : t = { r with cells := t.cells, reg := t.reg } := by
  unfold State.sameButCells at h
  rw [g, h]

theorem State.sameButCells.prism (h : r.sameButCells s) (g : t = { s with prism := t.prism }) : t = { r with cells := t.cells, prism := t.prism } := by
  unfold State.sameButCells at h
  rw [g, h]

theorem State.setCells_sameButCells (s : State) (l : Nat) (c : CellLane) : s.sameButCells (s.setCells l c) := rfl

end

/-! ## Reception (R188, R191, R196) -/

/-- The payload of a cell in clear, and the descrambler after it. -/
def State.clearText (s : State) (l : Nat) (cell : Cell) : List Nat × Nat := runWords descrambleWord (expCell s l).received cell.payload

/-- The lane once the descrambler has taken a payload, and, in SYNC, with its next header due. -/
def State.descrambled (s : State) (l : Nat) (cell : Cell) : State := s.setCells l { expCell s l with received := (s.clearText l cell).2 }

def State.inSync (s : State) (l : Nat) (cell : Cell) : State :=
  (s.descrambled l cell).setCells l { expCell (s.descrambled l cell) l with due := some (cell.pos + 1056) }

/-- The lane of an aligned link receives a cell; one in near-end loopback only a cell that its link sends. -/
def State.receives (s : State) (f l : Nat) (cell : Cell) : Prop :=
  s.linkAligned f l = true ∧ (field (s.obj (Obj.HL_CFG l)) 3 2 = 1 → ∃ x ∈ (s.client f).cells, x.head = cell.head ∧ x.payload = cell.payload)

section
variable {l : Fin 64} {f : Nat} {cell : Cell} {s : State}

theorem exec_expansionCellReceive (howner : s.laneOwner l = some f) (htype : s.clientType f = 19) : exec (.expansionCellReceive l cell) s =
    if s.linkAligned f l = false ∨ (field (s.obj (Obj.HL_CFG l)) 3 2 = 1 ∧ ¬ ∃ x ∈ (s.client f).cells, x.head = cell.head ∧ x.payload = cell.payload)
    then .next s
    else if s.obj (Obj.HL_CELL_STATE l) = 2 ∧ (expCell s l).due ≠ some cell.pos then .next s
    else .next (if s.obj (Obj.HL_CELL_STATE l) = 2 then (s.inSync l cell).syncCell f l cell (s.clearText l cell).1
      else (s.descrambled l cell).huntCell f l cell) := by
  change execExpansionCellReceive l cell s = _
  unfold execExpansionCellReceive
  simp only [howner]
  refine if_congr ?_ rfl rfl
  simp [htype]

variable (howner : s.laneOwner l = some f) (htype : s.clientType f = 19)
include howner htype

theorem exec_expansionCellReceive_unaligned (h : s.linkAligned f l = false ∨
    (field (s.obj (Obj.HL_CFG l)) 3 2 = 1 ∧ ¬ ∃ x ∈ (s.client f).cells, x.head = cell.head ∧ x.payload = cell.payload)) :
    exec (.expansionCellReceive l cell) s = .next s := (exec_expansionCellReceive howner htype).trans (if_pos h)

variable (hrec : s.receives f l cell)
include hrec

theorem exec_expansionCellReceive_received : exec (.expansionCellReceive l cell) s =
    if s.obj (Obj.HL_CELL_STATE l) = 2 ∧ (expCell s l).due ≠ some cell.pos then .next s
    else .next (if s.obj (Obj.HL_CELL_STATE l) = 2 then (s.inSync l cell).syncCell f l cell (s.clearText l cell).1
      else (s.descrambled l cell).huntCell f l cell) := by
  obtain ⟨haligned, hown⟩ := hrec
  refine (exec_expansionCellReceive howner htype).trans (if_neg ?_)
  rintro (hun | ⟨hloop, hother⟩)
  · simp [haligned] at hun
  · exact hother (hown hloop)

theorem exec_expansionCellReceive_hunting (h : s.obj (Obj.HL_CELL_STATE l) ≠ 2) :
    exec (.expansionCellReceive l cell) s = .next ((s.descrambled l cell).huntCell f l cell) := by
  rw [exec_expansionCellReceive_received howner htype hrec, if_neg fun g => h g.1, if_neg h]

theorem exec_expansionCellReceive_elsewhere (h : s.obj (Obj.HL_CELL_STATE l) = 2) (hdue : (expCell s l).due ≠ some cell.pos) :
    exec (.expansionCellReceive l cell) s = .next s := (exec_expansionCellReceive_received howner htype hrec).trans (if_pos ⟨h, hdue⟩)

theorem exec_expansionCellReceive_sync (h : s.obj (Obj.HL_CELL_STATE l) = 2) (hdue : (expCell s l).due = some cell.pos) :
    exec (.expansionCellReceive l cell) s = .next ((s.inSync l cell).syncCell f l cell (s.clearText l cell).1) := by
  rw [exec_expansionCellReceive_received howner htype hrec, if_neg fun g => g.2 hdue, if_pos h]

end

section
variable (s : State) (l : Nat) (cell : Cell)

theorem expCell_descrambled : expCell (s.descrambled l cell) l = { expCell s l with received := (s.clearText l cell).2 } :=
  expCell_setCells_same s l _

theorem State.descrambled_sameButCells : s.sameButCells (s.descrambled l cell) := s.setCells_sameButCells l _

theorem State.obj_inSync (k : Key) : (s.inSync l cell).obj k = s.obj k := rfl
theorem State.tick_inSync : (s.inSync l cell).tick = s.tick := rfl
theorem State.declared_inSync (d i : Nat) : (s.inSync l cell).declared d i = s.declared d i := rfl
theorem State.client_inSync (f : Nat) : (s.inSync l cell).client f = s.client f := rfl

theorem State.inSync_sameButCells : s.sameButCells (s.inSync l cell) :=
  (s.descrambled_sameButCells l cell).trans (State.setCells_sameButCells _ l _)

theorem expCell_inSync : expCell (s.inSync l cell) l =
    { expCell s l with received := (s.clearText l cell).2, due := some (cell.pos + 1056) } := by
  unfold State.inSync
  rw [expCell_setCells_same, expCell_descrambled]

end

/-! ## HUNT and PRESYNC (R191) -/

section
variable {s : State} {f l : Nat} {cell : Cell} {c : CellLane} (hc : expCell s l = c)
include hc

theorem State.huntCell_hunt (h : s.obj (Obj.HL_CELL_STATE l) = 0) : s.huntCell f l cell =
    if cell.hecOk = true ∧ c.huntFrom ≤ cell.pos then s.candidateAt f l cell.pos 1 [] else s := by
  subst hc
  exact if_pos h

variable (h : s.obj (Obj.HL_CELL_STATE l) = 1)
include h

theorem State.huntCell_between (hdue : c.due ≠ some cell.pos) : s.huntCell f l cell =
    if cell.hecOk then s.setCells l { c with fits := c.fits ++ [cell.pos] } else s := by
  subst hc
  exact (if_neg (by rw [h]; decide)).trans (if_pos hdue)

variable (hdue : c.due = some cell.pos)
include hdue

theorem State.huntCell_confirmed (hec : cell.hecOk = true) :
    s.huntCell f l cell = s.candidateAt f l c.first (c.good + 1) (c.fits ++ [cell.pos]) := by
  subst hc
  exact ((if_neg (by rw [h]; decide)).trans (if_neg (not_not.mpr hdue))).trans (if_pos hec)

variable (hec : cell.hecOk = false)
include hec

theorem State.huntCell_resumed {p n : Nat} (hnext : nextCandidate c.fits cell.pos (c.fits.filter fun p => decide (c.first < p)) = some (p, n)) :
    s.huntCell f l cell = s.candidateAt f l p n (c.fits.filter fun q => decide (p < q)) := by
  unfold State.huntCell
  simp [h, hc, hdue, hec, hnext]

theorem State.huntCell_lost (hnext : nextCandidate c.fits cell.pos (c.fits.filter fun p => decide (c.first < p)) = none) :
    s.huntCell f l cell = (s.setCells l { c with good := 0, due := none, fits := [], huntFrom := c.first + 1 }).setCellState f l 0 := by
  unfold State.huntCell
  simp [h, hc, hdue, hec, hnext]

end

section
variable (s : State) (f l first good : Nat) (fits : List Nat)

/-- What a lane keeps of a candidate: its place, how many headers have fitted, and the header due next. -/
def CellLane.onCandidate (c : CellLane) (first good : Nat) (fits : List Nat) : CellLane :=
  { c with good := if good < 6 then good else 0, bad := 0, first := first, due := some (first + 1056 * good), fits := fits }

/-- The lane on a candidate: in PRESYNC with its next header due, and in SYNC from the sixth on. -/
theorem State.candidateAt_spec :
    let t := s.candidateAt f l first good fits
    t.obj (Obj.HL_CELL_STATE l) = (if good < 6 then 1 else 2) ∧ t.declared Df.lcd l = decide (good < 6) ∧
      expCell t l = (expCell s l).onCandidate first good fits ∧ ∀ k, followsLane k = false → k ≠ Obj.HL_CELL_STATE l → t.obj k = s.obj k := by
  intro t
  obtain ⟨hstate, hlcd, hcells, -, hobj⟩ :=
    State.setCellState_spec (s.setCells l ((expCell s l).onCandidate first good fits)) f l (if good < 6 then 1 else 2)
  refine ⟨hstate, hlcd.trans ?_, (expCell_of_cells hcells l).trans (expCell_setCells_same s l _), hobj⟩
  by_cases h : good < 6
  · simp [h]
  · simp [h]

theorem State.candidateAt_presync (h : good < 6) :
    let t := s.candidateAt f l first good fits
    t.obj (Obj.HL_CELL_STATE l) = 1 ∧ t.declared Df.lcd l = true ∧ (expCell t l).good = good ∧ (expCell t l).first = first ∧
      (expCell t l).due = some (first + 1056 * good) ∧ t.obj (Obj.EXP_HEC_ERR f) = s.obj (Obj.EXP_HEC_ERR f) := by
  obtain ⟨hstate, hlcd, hcand, hobj⟩ := s.candidateAt_spec f l first good fits
  rw [if_pos h] at hstate
  rw [decide_eq_true h] at hlcd
  exact ⟨hstate, hlcd, (congrArg CellLane.good hcand).trans (if_pos h), (congrArg CellLane.first hcand :), congrArg CellLane.due hcand,
    hobj _ rfl (by simp)⟩

theorem State.candidateAt_sync (h : ¬ good < 6) :
    let t := s.candidateAt f l first good fits
    t.obj (Obj.HL_CELL_STATE l) = 2 ∧ t.declared Df.lcd l = false := by
  obtain ⟨hstate, hlcd, -, -⟩ := s.candidateAt_spec f l first good fits
  rw [if_neg h] at hstate
  rw [decide_eq_false h] at hlcd
  exact ⟨hstate, hlcd⟩

theorem State.candidateAt_frame {r : State} (hr : r.sameButCells s) (hl : l ∈ (s.client f).lanes) (h : good < 6) :
    let t := s.candidateAt f l first good fits
    t = { r with cells := t.cells, reg := t.reg, defects := t.defects, changes := t.changes } :=
  (hr.trans (s.setCells_sameButCells l _)).status (State.setCellState_sameButStatus (s := s.setCells l ((expCell s l).onCandidate first good fits)) hl
    (by rw [if_pos h]; decide))

end

/-! ## What a received header does in HUNT and PRESYNC -/

section
variable {l : Fin 64} {f : Nat} {cell : Cell} {s : State} (howner : s.laneOwner l = some f) (htype : s.clientType f = 19)
  (hrec : s.receives f l cell)
include howner htype hrec

theorem exec_expansionCellReceive_candidate (h : s.obj (Obj.HL_CELL_STATE l) = 0) (hec : cell.hecOk = true)
    (hpos : (expCell s l).huntFrom ≤ cell.pos) : ∃ t : State, exec (.expansionCellReceive l cell) s = .next t ∧
      t.obj (Obj.HL_CELL_STATE l) = 1 ∧ (expCell t l).good = 1 ∧ (expCell t l).due = some (cell.pos + 1056) ∧ t.declared Df.lcd l = true := by
  have hhunt := (State.huntCell_hunt (f := f) (expCell_descrambled s l cell) h).trans (if_pos ⟨hec, hpos⟩)
  obtain ⟨hstate, hlcd, hgood, -, hdue, -⟩ := (s.descrambled l cell).candidateAt_presync f l cell.pos 1 [] (by decide)
  exact ⟨_, (exec_expansionCellReceive_hunting howner htype hrec (by omega)).trans (congrArg Host.Outcome.next hhunt), hstate, hgood, hdue, hlcd⟩

theorem exec_expansionCellReceive_idle (h : s.obj (Obj.HL_CELL_STATE l) = 0) (hidle : cell.hecOk = false ∨ cell.pos < (expCell s l).huntFrom) :
    exec (.expansionCellReceive l cell) s = .next (s.descrambled l cell) := by
  have hnone : ¬ (cell.hecOk = true ∧ (expCell s l).huntFrom ≤ cell.pos) := by
    rintro ⟨hec, hpos⟩
    rcases hidle with hbad | hearly
    · simp [hbad] at hec
    · exact absurd hpos hearly.not_ge
  have hhunt := (State.huntCell_hunt (f := f) (expCell_descrambled s l cell) h).trans (if_neg hnone)
  exact (exec_expansionCellReceive_hunting howner htype hrec (by omega)).trans (congrArg Host.Outcome.next hhunt)

variable (h : s.obj (Obj.HL_CELL_STATE l) = 1)
include h

theorem exec_expansionCellReceive_between (hdue : (expCell s l).due ≠ some cell.pos) : ∃ t : State,
    exec (.expansionCellReceive l cell) s = .next t ∧ t = { s with cells := t.cells } ∧ expCell t l = { expCell s l with
      received := (s.clearText l cell).2, fits := if cell.hecOk then (expCell s l).fits ++ [cell.pos] else (expCell s l).fits } := by
  have hc := expCell_descrambled s l cell
  have hframe := s.descrambled_sameButCells l cell
  have hhunt := State.huntCell_between (f := f) hc h hdue
  have hexec := (exec_expansionCellReceive_hunting howner htype hrec (by omega)).trans (congrArg Host.Outcome.next hhunt)
  cases hec : cell.hecOk with
  | true =>
    rw [if_pos hec] at hexec
    exact ⟨_, hexec, hframe.trans (State.setCells_sameButCells _ l _), expCell_setCells_same _ l _⟩
  | false =>
    rw [if_neg (by simp [hec])] at hexec
    exact ⟨_, hexec, hframe, hc⟩

variable (hdue : (expCell s l).due = some cell.pos)
include hdue

theorem exec_expansionCellReceive_confirmed (hec : cell.hecOk = true) : exec (.expansionCellReceive l cell) s = .next
    ((s.descrambled l cell).candidateAt f l (expCell s l).first ((expCell s l).good + 1) ((expCell s l).fits ++ [cell.pos])) := by
  have hhunt := State.huntCell_confirmed (f := f) (expCell_descrambled s l cell) h hdue hec
  exact (exec_expansionCellReceive_hunting howner htype hrec (by omega)).trans (congrArg Host.Outcome.next hhunt)

variable (hec : cell.hecOk = false)
include hec

theorem exec_expansionCellReceive_lost (hnext : nextCandidate (expCell s l).fits cell.pos
      ((expCell s l).fits.filter fun p => decide ((expCell s l).first < p)) = none) : ∃ t : State,
    exec (.expansionCellReceive l cell) s = .next t ∧ t.obj (Obj.HL_CELL_STATE l) = 0 ∧ (expCell t l).huntFrom = (expCell s l).first + 1 ∧
      t.declared Df.lcd l = true ∧ t.obj (Obj.EXP_HEC_ERR f) = s.obj (Obj.EXP_HEC_ERR f) := by
  have hhunt := State.huntCell_lost (f := f) (expCell_descrambled s l cell) h hdue hec hnext
  obtain ⟨hstate, hlcd, hcells, -, hobj⟩ := State.setCellState_spec ((s.descrambled l cell).setCells l
    { expCell s l with received := (s.clearText l cell).2, good := 0, due := none, fits := [], huntFrom := (expCell s l).first + 1 }) f l 0
  refine ⟨_, (exec_expansionCellReceive_hunting howner htype hrec (by omega)).trans (congrArg Host.Outcome.next hhunt), hstate, ?_, hlcd,
    hobj _ rfl (by simp)⟩
  exact congrArg CellLane.huntFrom ((expCell_of_cells hcells l).trans (expCell_setCells_same _ l _))

theorem exec_expansionCellReceive_resumed {p n : Nat} (hnext : nextCandidate (expCell s l).fits cell.pos
      ((expCell s l).fits.filter fun p => decide ((expCell s l).first < p)) = some (p, n)) (hn : n < 6) : ∃ t : State,
    exec (.expansionCellReceive l cell) s = .next t ∧ t.obj (Obj.HL_CELL_STATE l) = 1 ∧ (expCell t l).first = p ∧ (expCell t l).good = n ∧
      t.declared Df.lcd l = true ∧ t.obj (Obj.EXP_HEC_ERR f) = s.obj (Obj.EXP_HEC_ERR f) := by
  have hhunt := State.huntCell_resumed (f := f) (expCell_descrambled s l cell) h hdue hec hnext
  obtain ⟨hstate, hlcd, hgood, hfirst, -, herr⟩ := (s.descrambled l cell).candidateAt_presync f l p n
    ((expCell s l).fits.filter fun q => decide (p < q)) hn
  exact ⟨_, (exec_expansionCellReceive_hunting howner htype hrec (by omega)).trans (congrArg Host.Outcome.next hhunt), hstate, hfirst, hgood, hlcd, herr⟩

end

end Sys2Proof.Machine
end

section
/-! PROOFS. A header of an expansion lane in SYNC: bad headers, discarded cells, data cells and control cells. -/

namespace Sys2Proof.Machine

/-! ## Data cells (R194) -/

section
variable (s : State)

theorem Prism.cellsSeen_setHalf (p : Prism) (half : Nat) (words : Map Nat) (unwritten : List Nat) (mode : HalfMode) :
    (p.setHalf half words unwritten mode).cellsSeen = p.cellsSeen := by
  unfold Prism.setHalf
  split <;> rfl

/-- A word of a link goes to Prism alone, which keeps the cells it has seen. -/
theorem State.writeLinkWord_spec (f : Nat) (x : LinkConn) (pos word : Nat) :
    let t := s.writeLinkWord f x pos word
    t = { s with prism := t.prism } ∧ t.prism.cellsSeen = s.prism.cellsSeen := by
  intro t
  unfold t State.writeLinkWord
  extract_lets u header poisoned
  split
  · exact ⟨rfl, rfl⟩
  · exact ⟨rfl, Prism.cellsSeen_setHalf _ _ _ _ _⟩

theorem State.writeCell_spec (f d : Nat) (cell : Cell) (payload : List Nat) :
    let t := s.writeCell f d cell payload
    t = { s with prism := t.prism } ∧ (f, cell.lane * d + cell.cell) ∈ t.prism.cellsSeen := by
  unfold State.writeCell
  extract_lets conns t0
  refine List.foldlRecOn (motive := fun t : State => t = { s with prism := t.prism } ∧ (f, cell.lane * d + cell.cell) ∈ t.prism.cellsSeen) _ _
    ⟨rfl, List.mem_append_right _ List.mem_cons_self⟩ fun t ⟨hframe, hseen⟩ w _ => ?_
  extract_lets pos
  split
  case h_1 x _ =>
    obtain ⟨hword, hkeeps⟩ := t.writeLinkWord_spec f x pos (payload.getD w 0)
    exact ⟨by rw [hword, hframe], hkeeps ▸ hseen⟩
  case h_2 => exact ⟨hframe, hseen⟩

end

/-! ## Control cells (R193) -/

/-- The sender's counter that a control cell carries. -/
abbrev senderTick (payload : List Nat) : Nat := payload.getD 0 0 * 2 ^ 32 + payload.getD 1 0

/-- The runs of control cells that differ from and agree with the own counter, with one more of either. -/
def State.countControl (s : State) (f : Nat) (differs : Bool) : State :=
  { s with clients := Map.set {} s.clients (Key.unit f) { s.client f with
    differ := if differs then min 2 ((s.client f).differ + 1) else 0
    agree := if differs then 0 else min 32 ((s.client f).agree + 1) } }

/-- dTICKMM and the client follow the runs: 2 in a row that differ declare it, 32 that agree clear it. -/
def State.followControl (s : State) (f theirs : Nat) : State :=
  if (s.client f).differ = 2 ∧ ¬ s.declared Df.tickMm f then ((s.declare Df.tickMm f).raise Ev.TICKMM [f, s.tick, theirs]).refreshClient f
  else if (s.client f).agree = 32 ∧ s.declared Df.tickMm f = true then (s.clear Df.tickMm f).refreshClient f
  else s

section
variable (s : State) (f : Nat) (payload : List Nat)

theorem State.client_countControl (differs : Bool) : (s.countControl f differs).client f = { s.client f with
    differ := if differs then min 2 ((s.client f).differ + 1) else 0
    agree := if differs then 0 else min 32 ((s.client f).agree + 1) } := Map.get_set_same _ _ _ _

theorem State.controlCell_eq : s.controlCell f payload =
    (s.countControl f (decide (1 < (senderTick payload - s.tick) + (s.tick - senderTick payload)))).followControl f (senderTick payload) := by
  unfold State.followControl
  rw [State.client_countControl]
  rfl

theorem State.followControl_spec (theirs : Nat) :
    let t := s.followControl f theirs
    (t.client f).differ = (s.client f).differ ∧ (t.client f).agree = (s.client f).agree ∧
      (t.declared Df.tickMm f = true ↔
        ((s.client f).differ = 2 ∧ ¬ s.declared Df.tickMm f = true) ∨ (s.declared Df.tickMm f = true ∧ (s.client f).agree ≠ 32)) := by
  unfold State.followControl
  split
  case isTrue hd =>
    have h := State.refreshClient_followedBy ((s.declare Df.tickMm f).raise Ev.TICKMM [f, s.tick, theirs]) f
    exact ⟨(h.differ f).trans (by simp), (h.agree f).trans (by simp), iff_of_true ((h.declared _ f).trans (by simp)) (.inl hd)⟩
  case isFalse hd =>
    split
    case isTrue ha =>
      have h := State.refreshClient_followedBy (s.clear Df.tickMm f) f
      refine ⟨(h.differ f).trans (by simp), (h.agree f).trans (by simp), iff_of_false ?_ fun g => g.elim hd fun g => g.2 ha.1⟩
      rw [h.declared, State.declared_clear_same]
      decide
    case isFalse ha => exact ⟨rfl, rfl, fun h => .inr ⟨h, fun g => ha ⟨g, h⟩⟩, fun h => (h.resolve_left hd).1⟩

end

section
variable {s : State} {f : Nat} {payload : List Nat}

/-- A control cell that differs: the second in a row declares dTICKMM. -/
theorem State.controlCell_differs (h : 1 < (senderTick payload - s.tick) + (s.tick - senderTick payload)) :
    let t := s.controlCell f payload
    (t.declared Df.tickMm f = true ↔ s.declared Df.tickMm f = true ∨ 1 ≤ (s.client f).differ) ∧
      (t.client f).differ = min 2 ((s.client f).differ + 1) ∧ (t.client f).agree = 0 := by
  intro t
  have ht : t = _ := s.controlCell_eq f payload
  rw [decide_eq_true h] at ht
  obtain ⟨hdiffer, hagree, hmm⟩ := (s.countControl f true).followControl_spec f (senderTick payload)
  have hsecond : min 2 ((s.client f).differ + 1) = 2 ↔ 1 ≤ (s.client f).differ := by omega
  rw [State.client_countControl] at hdiffer hagree hmm
  rw [ht]
  refine ⟨hmm.trans ?_, hdiffer, hagree⟩
  change (min 2 ((s.client f).differ + 1) = 2 ∧ ¬ s.declared Df.tickMm f = true) ∨ (s.declared Df.tickMm f = true ∧ 0 ≠ 32) ↔ _
  rw [hsecond]
  by_cases hmm' : s.declared Df.tickMm f = true
  · simp [hmm']
  · simp [hmm']

/-- One that agrees: the 32nd in a row clears it. -/
theorem State.controlCell_agrees (h : ¬ 1 < (senderTick payload - s.tick) + (s.tick - senderTick payload)) :
    let t := s.controlCell f payload
    (t.declared Df.tickMm f = true ↔ s.declared Df.tickMm f = true ∧ (s.client f).agree < 31) ∧
      (t.client f).agree = min 32 ((s.client f).agree + 1) ∧ (t.client f).differ = 0 := by
  intro t
  have ht : t = _ := s.controlCell_eq f payload
  rw [decide_eq_false h] at ht
  obtain ⟨hdiffer, hagree, hmm⟩ := (s.countControl f false).followControl_spec f (senderTick payload)
  have hlast : min 32 ((s.client f).agree + 1) ≠ 32 ↔ (s.client f).agree < 31 := by omega
  rw [State.client_countControl] at hdiffer hagree hmm
  rw [ht]
  refine ⟨hmm.trans ?_, hagree, hdiffer⟩
  change (0 = 2 ∧ ¬ s.declared Df.tickMm f = true) ∨ (s.declared Df.tickMm f = true ∧ min 32 ((s.client f).agree + 1) ≠ 32) ↔ _
  rw [hlast]
  simp

end

/-! ## A header where it is due (R191, R194) -/

/-- A bad header is counted, and its cell with it. -/
def State.countBadHeader (s : State) (f : Nat) : State := (s.bump (Obj.EXP_HEC_ERR f)).bump (Obj.EXP_CELL_DISCARD f)

/-- A good header ends the run of bad ones. -/
def State.goodHeader (s : State) (l : Nat) : State := s.setCells l { expCell s l with bad := 0 }

/-- A cell that is taken, by its kind. -/
def State.takeCell (s : State) (f : Nat) (cell : Cell) (payload : List Nat) : State :=
  match cell.kind with
  | 0 => s.writeCell f (dataCells (s.client f).rate) cell payload
  | 2 => if payload.getD 31 0 = controlCrc payload then s.controlCell f payload else s
  | _ => s

section
variable (s : State) (f l : Nat)

theorem State.obj_countBadHeader (k : Key) : (s.countBadHeader f).obj k =
    if k = Obj.EXP_CELL_DISCARD f ∨ k = Obj.EXP_HEC_ERR f then u64 (s.obj k + 1) else s.obj k := by
  unfold State.countBadHeader
  rw [State.obj_bump, State.obj_bump]
  by_cases hd : k = Obj.EXP_CELL_DISCARD f
  · subst hd; simp
  · by_cases hh : k = Obj.EXP_HEC_ERR f
    · subst hh; simp
    · simp [hd, hh]

theorem State.obj_goodHeader (k : Key) : (s.goodHeader l).obj k = s.obj k := rfl
theorem State.tick_goodHeader : (s.goodHeader l).tick = s.tick := rfl
theorem State.declared_goodHeader (d i : Nat) : (s.goodHeader l).declared d i = s.declared d i := rfl
theorem State.client_goodHeader (g : Nat) : (s.goodHeader l).client g = s.client g := rfl

theorem State.goodHeader_sameButCells : s.sameButCells (s.goodHeader l) := s.setCells_sameButCells l _

theorem State.expCell_goodHeader : expCell (s.goodHeader l) l = { expCell s l with bad := 0 } := expCell_setCells_same s l _

end

section
variable {s : State} {f l : Nat} {cell : Cell} {payload : List Nat}

theorem State.syncCell_bad (h : cell.hecOk = false) : s.syncCell f l cell payload =
    if (expCell s l).bad + 1 < 7 then (s.countBadHeader f).setCells l { expCell s l with bad := (expCell s l).bad + 1 }
    else ((s.countBadHeader f).setCells l { expCell s l with bad := 0, due := none, fits := [], huntFrom := cell.pos + 1 }).setCellState f l 0 :=
  if_pos h

/-- A bad header: counted with its cell, and the seventh in a row ends SYNC. -/
theorem State.syncCell_bad_spec (h : cell.hecOk = false) :
    let t := s.syncCell f l cell payload
    t.obj (Obj.EXP_HEC_ERR f) = u64 (s.obj (Obj.EXP_HEC_ERR f) + 1) ∧ t.obj (Obj.EXP_CELL_DISCARD f) = u64 (s.obj (Obj.EXP_CELL_DISCARD f) + 1) ∧
      t.prism = s.prism ∧
      ((expCell s l).bad < 6 → t.obj (Obj.HL_CELL_STATE l) = s.obj (Obj.HL_CELL_STATE l) ∧ expCell t l = { expCell s l with bad := (expCell s l).bad + 1 }) ∧
      (6 ≤ (expCell s l).bad → t.obj (Obj.HL_CELL_STATE l) = 0 ∧ t.declared Df.lcd l = true) := by
  intro t
  have ht : t = _ := State.syncCell_bad h
  have hhec := s.obj_countBadHeader f (Obj.EXP_HEC_ERR f)
  have hdiscard := s.obj_countBadHeader f (Obj.EXP_CELL_DISCARD f)
  have hstate := s.obj_countBadHeader f (Obj.HL_CELL_STATE l)
  rw [if_pos (by simp)] at hhec hdiscard
  rw [if_neg (by simp)] at hstate
  by_cases hbad : (expCell s l).bad < 6
  · rw [if_pos (by omega)] at ht
    rw [ht, State.obj_setCells, State.obj_setCells, State.obj_setCells]
    exact ⟨hhec, hdiscard, rfl, fun _ => ⟨hstate, expCell_setCells_same _ l _⟩, fun hlost => absurd hbad hlost.not_gt⟩
  · rw [if_neg (by omega)] at ht
    obtain ⟨hhunt, hlcd, -, hprism, hobj⟩ := State.setCellState_spec ((s.countBadHeader f).setCells l
      { expCell s l with bad := 0, due := none, fits := [], huntFrom := cell.pos + 1 }) f l 0
    rw [ht]
    exact ⟨(hobj _ rfl (by simp)).trans hhec, (hobj _ rfl (by simp)).trans hdiscard, hprism, fun hfew => absurd hfew hbad, fun _ => ⟨hhunt, hlcd⟩⟩

theorem State.syncCell_good (h : cell.hecOk = true) : s.syncCell f l cell payload =
    if (s.client f).lanes.length ≤ cell.lane ∨ dataCells (s.client f).rate ≤ cell.cell ∨ (cell.kind = 0 ∧ cell.phase ≠ (s.phase + 30) % 32) then
      (s.goodHeader l).bump (Obj.EXP_CELL_DISCARD f)
    else (s.goodHeader l).takeCell f cell payload := if_neg (by simp [h])

/-- A cell of another lane, place or phase is discarded and counted. -/
theorem State.syncCell_discarded (h : cell.hecOk = true)
    (hout : (s.client f).lanes.length ≤ cell.lane ∨ dataCells (s.client f).rate ≤ cell.cell ∨ (cell.kind = 0 ∧ cell.phase ≠ (s.phase + 30) % 32)) :
    s.syncCell f l cell payload = (s.goodHeader l).bump (Obj.EXP_CELL_DISCARD f) := (State.syncCell_good h).trans (if_pos hout)

/-- A cell of the link's own lanes and places, its data cells of the due phase, is taken. -/
theorem State.syncCell_taken (h : cell.hecOk = true) (hlane : cell.lane < (s.client f).lanes.length) (hcell : cell.cell < dataCells (s.client f).rate)
    (hphase : cell.kind = 0 → cell.phase = (s.phase + 30) % 32) : s.syncCell f l cell payload = (s.goodHeader l).takeCell f cell payload := by
  refine (State.syncCell_good h).trans (if_neg ?_)
  rintro (hl | hc | ⟨hk, hp⟩)
  · omega
  · omega
  · exact hp (hphase hk)

theorem State.takeCell_data (h : cell.kind = 0) : s.takeCell f cell payload = s.writeCell f (dataCells (s.client f).rate) cell payload := by
  unfold State.takeCell
  rw [h]
  rfl

theorem State.takeCell_control (h : cell.kind = 2) :
    s.takeCell f cell payload = if payload.getD 31 0 = controlCrc payload then s.controlCell f payload else s := by
  unfold State.takeCell
  rw [h]
  rfl

/-- Idle cells, reserved ones, and control cells with a bad CRC do nothing more. -/
theorem State.takeCell_other (h : cell.kind = 1 ∨ cell.kind = 3 ∨ (cell.kind = 2 ∧ payload.getD 31 0 ≠ controlCrc payload)) :
    s.takeCell f cell payload = s := by
  rcases h with hk | hk | ⟨hk, hcrc⟩
  · unfold State.takeCell
    rw [hk]
    rfl
  · unfold State.takeCell
    rw [hk]
    rfl
  · exact (State.takeCell_control hk).trans (if_neg hcrc)

end

/-! ## What a received header does in SYNC -/

section
variable {l : Fin 64} {f : Nat} {cell : Cell} {s : State} (howner : s.laneOwner l = some f) (htype : s.clientType f = 19)
  (hrec : s.receives f l cell) (h : s.obj (Obj.HL_CELL_STATE l) = 2) (hdue : (expCell s l).due = some cell.pos)
include howner htype hrec h hdue

theorem exec_expansionCellReceive_bad (hec : cell.hecOk = false) : ∃ t : State, exec (.expansionCellReceive l cell) s = .next t ∧
    t.obj (Obj.EXP_HEC_ERR f) = u64 (s.obj (Obj.EXP_HEC_ERR f) + 1) ∧ t.obj (Obj.EXP_CELL_DISCARD f) = u64 (s.obj (Obj.EXP_CELL_DISCARD f) + 1) ∧
    t.prism = s.prism ∧
    ((expCell s l).bad < 6 → t.obj (Obj.HL_CELL_STATE l) = 2 ∧ (expCell t l).bad = (expCell s l).bad + 1 ∧ (expCell t l).due = some (cell.pos + 1056)) ∧
    (6 ≤ (expCell s l).bad → t.obj (Obj.HL_CELL_STATE l) = 0 ∧ t.declared Df.lcd l = true) := by
  obtain ⟨hhec, hdiscard, hprism, hfew, hlost⟩ := State.syncCell_bad_spec (s := s.inSync l cell) (f := f) (l := l) (payload := (s.clearText l cell).1) hec
  rw [expCell_inSync] at hfew hlost
  refine ⟨_, exec_expansionCellReceive_sync howner htype hrec h hdue, hhec, hdiscard, hprism, fun hbad => ?_, hlost⟩
  obtain ⟨hstate, hcand⟩ := hfew hbad
  exact ⟨hstate.trans h, congrArg CellLane.bad hcand, congrArg CellLane.due hcand⟩

variable (hec : cell.hecOk = true)
include hec

theorem exec_expansionCellReceive_discarded (hout : (s.client f).lanes.length ≤ cell.lane ∨ dataCells (s.client f).rate ≤ cell.cell ∨
      (cell.kind = 0 ∧ cell.phase ≠ (s.phase + 30) % 32)) : ∃ t : State, exec (.expansionCellReceive l cell) s = .next t ∧
    (expCell t l).bad = 0 ∧ t.obj (Obj.EXP_CELL_DISCARD f) = u64 (s.obj (Obj.EXP_CELL_DISCARD f) + 1) ∧
    t = { s with cells := t.cells, reg := t.reg } := by
  have hsync := State.syncCell_discarded (s := s.inSync l cell) (f := f) (l := l) (payload := (s.clearText l cell).1) hec hout
  have hframe := (s.inSync_sameButCells l cell).trans ((s.inSync l cell).goodHeader_sameButCells l)
  refine ⟨_, (exec_expansionCellReceive_sync howner htype hrec h hdue).trans (congrArg Host.Outcome.next hsync),
    congrArg CellLane.bad ((s.inSync l cell).expCell_goodHeader l), ?_, hframe.reg (State.setObj_sameButObjects _ _ _)⟩
  rw [State.obj_bump_same, State.obj_goodHeader, State.obj_inSync]

variable (hlane : cell.lane < (s.client f).lanes.length) (hcell : cell.cell < dataCells (s.client f).rate)
include hlane hcell

theorem exec_expansionCellReceive_taken (hphase : cell.kind = 0 → cell.phase = (s.phase + 30) % 32) :
    exec (.expansionCellReceive l cell) s = .next (((s.inSync l cell).goodHeader l).takeCell f cell (s.clearText l cell).1) :=
  (exec_expansionCellReceive_sync howner htype hrec h hdue).trans (congrArg Host.Outcome.next
    (State.syncCell_taken (s := s.inSync l cell) (payload := (s.clearText l cell).1) hec hlane hcell hphase))

theorem exec_expansionCellReceive_data (hkind : cell.kind = 0) (hphase : cell.phase = (s.phase + 30) % 32) : ∃ t : State,
    exec (.expansionCellReceive l cell) s = .next t ∧ t = { s with cells := t.cells, prism := t.prism } ∧
      (f, cell.lane * dataCells (s.client f).rate + cell.cell) ∈ t.prism.cellsSeen := by
  have hexec := exec_expansionCellReceive_taken howner htype hrec h hdue hec hlane hcell fun _ => hphase
  rw [State.takeCell_data hkind, State.client_goodHeader, State.client_inSync] at hexec
  obtain ⟨hframe, hseen⟩ := State.writeCell_spec ((s.inSync l cell).goodHeader l) f (dataCells (s.client f).rate) cell (s.clearText l cell).1
  exact ⟨_, hexec, ((s.inSync_sameButCells l cell).trans ((s.inSync l cell).goodHeader_sameButCells l)).prism hframe, hseen⟩

theorem exec_expansionCellReceive_control (hkind : cell.kind = 2) (hcrc : (s.clearText l cell).1.getD 31 0 = controlCrc (s.clearText l cell).1) :
    ∃ t : State, exec (.expansionCellReceive l cell) s = .next t ∧
      let differs := 1 < (senderTick (s.clearText l cell).1 - s.tick) + (s.tick - senderTick (s.clearText l cell).1)
      (differs → (t.declared Df.tickMm f = true ↔ s.declared Df.tickMm f = true ∨ 1 ≤ (s.client f).differ) ∧
        (t.client f).differ = min 2 ((s.client f).differ + 1) ∧ (t.client f).agree = 0) ∧
      (¬ differs → (t.declared Df.tickMm f = true ↔ s.declared Df.tickMm f = true ∧ (s.client f).agree < 31) ∧
        (t.client f).agree = min 32 ((s.client f).agree + 1) ∧ (t.client f).differ = 0) := by
  have hexec := exec_expansionCellReceive_taken howner htype hrec h hdue hec hlane hcell fun g => by omega
  have hdiffers := State.controlCell_differs (s := (s.inSync l cell).goodHeader l) (f := f) (payload := (s.clearText l cell).1)
  have hagrees := State.controlCell_agrees (s := (s.inSync l cell).goodHeader l) (f := f) (payload := (s.clearText l cell).1)
  rw [State.takeCell_control hkind, if_pos hcrc] at hexec
  rw [State.client_goodHeader, State.client_inSync, State.declared_goodHeader, State.declared_inSync, State.tick_goodHeader, State.tick_inSync]
    at hdiffers hagrees
  exact ⟨_, hexec, hdiffers, hagrees⟩

theorem exec_expansionCellReceive_other (hkind : cell.kind = 1 ∨ cell.kind = 3 ∨
      (cell.kind = 2 ∧ (s.clearText l cell).1.getD 31 0 ≠ controlCrc (s.clearText l cell).1)) :
    ∃ t : State, exec (.expansionCellReceive l cell) s = .next t ∧ (expCell t l).bad = 0 ∧ t = { s with cells := t.cells } := by
  have hexec := exec_expansionCellReceive_taken howner htype hrec h hdue hec hlane hcell fun g => by omega
  rw [State.takeCell_other hkind] at hexec
  exact ⟨_, hexec, congrArg CellLane.bad ((s.inSync l cell).expCell_goodHeader l),
    (s.inSync_sameButCells l cell).trans ((s.inSync l cell).goodHeader_sameButCells l)⟩

end

end Sys2Proof.Machine
end

section
/-! PROOFS. The cells of an expansion link: a table of clients for which the statement fails, and the statement for every lane that its client
holds. -/

namespace Sys2Proof.Machine

/-- What the statement says of one lane, its client, a cell and a state, in the statement's own words. -/
def State.delineates (s : State) (l : Fin 64) (f : Nat) (cell : Cell) : Prop :=
  let own := ∃ x ∈ (s.client f).cells, x.head = cell.head ∧ x.payload = cell.payload
  (s.linkAligned f l = false ∨ (field (s.obj (Obj.HL_CFG l)) 3 2 = 1 ∧ ¬ own) → exec (.expansionCellReceive l cell) s = .next s) ∧
  (s.linkAligned f l = true → (field (s.obj (Obj.HL_CFG l)) 3 2 = 1 → own) →
  let c := expCell s l
  let clear := runWords descrambleWord c.received cell.payload
  let st := s.obj (Obj.HL_CELL_STATE l)
  let lanes := (s.client f).lanes.length
  let d := dataCells (s.client f).rate
  let later := c.fits.filter fun p => decide (c.first < p)
  (st = 0 → cell.hecOk = true → c.huntFrom ≤ cell.pos → ∃ t : State, exec (.expansionCellReceive l cell) s = .next t ∧
    t.obj (Obj.HL_CELL_STATE l) = 1 ∧ (expCell t l).good = 1 ∧ (expCell t l).due = some (cell.pos + 1056) ∧ t.declared Df.lcd l = true) ∧
  (st = 0 → cell.hecOk = false ∨ cell.pos < c.huntFrom →
    exec (.expansionCellReceive l cell) s = .next (s.setCells l { c with received := clear.2 })) ∧
  (st = 1 → c.due ≠ some cell.pos → ∃ t : State, exec (.expansionCellReceive l cell) s = .next t ∧ t = { s with cells := t.cells } ∧
    expCell t l = { c with received := clear.2, fits := if cell.hecOk then c.fits ++ [cell.pos] else c.fits }) ∧
  (st = 1 → c.due = some cell.pos → cell.hecOk = true → c.good < 5 → ∃ t : State, exec (.expansionCellReceive l cell) s = .next t ∧
    t.obj (Obj.HL_CELL_STATE l) = 1 ∧ t.declared Df.lcd l = true ∧ (expCell t l).good = c.good + 1 ∧ (expCell t l).first = c.first ∧
    (expCell t l).due = some (c.first + 1056 * (c.good + 1)) ∧ t = { s with cells := t.cells, reg := t.reg, defects := t.defects, changes := t.changes }) ∧
  (st = 1 → c.due = some cell.pos → cell.hecOk = true → 5 ≤ c.good → ∃ t : State, exec (.expansionCellReceive l cell) s = .next t ∧
    t.obj (Obj.HL_CELL_STATE l) = 2 ∧ t.declared Df.lcd l = false) ∧
  (st = 1 → c.due = some cell.pos → cell.hecOk = false → nextCandidate c.fits cell.pos later = none →
    ∃ t : State, exec (.expansionCellReceive l cell) s = .next t ∧ t.obj (Obj.HL_CELL_STATE l) = 0 ∧ (expCell t l).huntFrom = c.first + 1 ∧
    t.declared Df.lcd l = true ∧ t.obj (Obj.EXP_HEC_ERR f) = s.obj (Obj.EXP_HEC_ERR f)) ∧
  (∀ p n, st = 1 → c.due = some cell.pos → cell.hecOk = false → nextCandidate c.fits cell.pos later = some (p, n) → n < 6 →
    ∃ t : State, exec (.expansionCellReceive l cell) s = .next t ∧ t.obj (Obj.HL_CELL_STATE l) = 1 ∧ (expCell t l).first = p ∧
    (expCell t l).good = n ∧ t.declared Df.lcd l = true ∧ t.obj (Obj.EXP_HEC_ERR f) = s.obj (Obj.EXP_HEC_ERR f)) ∧
  (st = 2 → c.due ≠ some cell.pos → exec (.expansionCellReceive l cell) s = .next s) ∧
  (st = 2 → c.due = some cell.pos → cell.hecOk = false → ∃ t : State, exec (.expansionCellReceive l cell) s = .next t ∧
    t.obj (Obj.EXP_HEC_ERR f) = u64 (s.obj (Obj.EXP_HEC_ERR f) + 1) ∧
    t.obj (Obj.EXP_CELL_DISCARD f) = u64 (s.obj (Obj.EXP_CELL_DISCARD f) + 1) ∧ t.prism = s.prism ∧
    (c.bad < 6 → t.obj (Obj.HL_CELL_STATE l) = 2 ∧ (expCell t l).bad = c.bad + 1 ∧ (expCell t l).due = some (cell.pos + 1056)) ∧
    (6 ≤ c.bad → t.obj (Obj.HL_CELL_STATE l) = 0 ∧ t.declared Df.lcd l = true)) ∧
  (st = 2 → c.due = some cell.pos → cell.hecOk = true →
    (lanes ≤ cell.lane ∨ d ≤ cell.cell ∨ (cell.kind = 0 ∧ cell.phase ≠ (s.phase + 30) % 32) →
      ∃ t : State, exec (.expansionCellReceive l cell) s = .next t ∧ (expCell t l).bad = 0 ∧
        t.obj (Obj.EXP_CELL_DISCARD f) = u64 (s.obj (Obj.EXP_CELL_DISCARD f) + 1) ∧ t = { s with cells := t.cells, reg := t.reg }) ∧
    (cell.lane < lanes → cell.cell < d →
      (cell.kind = 0 → cell.phase = (s.phase + 30) % 32 → ∃ t : State, exec (.expansionCellReceive l cell) s = .next t ∧
        t = { s with cells := t.cells, prism := t.prism } ∧ (f, cell.lane * d + cell.cell) ∈ t.prism.cellsSeen) ∧
      (cell.kind = 2 → clear.1.getD 31 0 = controlCrc clear.1 → ∃ t : State, exec (.expansionCellReceive l cell) s = .next t ∧
        let theirs := clear.1.getD 0 0 * 2 ^ 32 + clear.1.getD 1 0
        let differs := 1 < (theirs - s.tick) + (s.tick - theirs)
        (differs → (t.declared Df.tickMm f = true ↔ s.declared Df.tickMm f = true ∨ 1 ≤ (s.client f).differ) ∧
          (t.client f).differ = min 2 ((s.client f).differ + 1) ∧ (t.client f).agree = 0) ∧
        (¬ differs → (t.declared Df.tickMm f = true ↔ s.declared Df.tickMm f = true ∧ (s.client f).agree < 31) ∧
          (t.client f).agree = min 32 ((s.client f).agree + 1) ∧ (t.client f).differ = 0)) ∧
      (cell.kind = 1 ∨ cell.kind = 3 ∨ (cell.kind = 2 ∧ clear.1.getD 31 0 ≠ controlCrc clear.1) →
        ∃ t : State, exec (.expansionCellReceive l cell) s = .next t ∧ (expCell t l).bad = 0 ∧ t = { s with cells := t.cells }))))

theorem expansionCellsAreDelineated_iff : Obligations.ExpansionCellsAreDelineated ↔
    ∀ (l : Fin 64) (f : Nat) (cell : Cell) (s : State), s.laneOwner l = some f → s.clientType f = 19 → s.delineates l f cell := Iff.rfl

/-! ## A client that does not hold the lane -/

/-- A good header at bit 0. -/
def goodCell : Cell := ⟨0x55, [], 0⟩

/-- Lane 0 in PRESYNC, its next header due at bit 0. The client of lane 0 holds lane 1 alone and is locked on it; lane 0 stands under a key of
number 0 that is no unit's. -/
def strayLane : State :=
  { State.reset with
    reg := [(Obj.HL_STATE 0, 2), (Obj.HL_CELL_STATE 0, 1), (Obj.HL_STATE 1, 2), (Obj.CLI_TYPE 0, 19)]
    clients := [(Key.unit 0, { lanes := [1], rate := 8, pcs := true }), (⟨1, 0, 0, 0⟩, { lanes := [0] })]
    cells := [(Key.unit 0, { good := 1, due := some 0 })] }

theorem strayLane_receives : strayLane.receives 0 (0 : Fin 64) goodCell := ⟨by decide +kernel, fun h => absurd h (by decide +kernel)⟩

/-- The second good header marks the client as having been up, although lane 0 has dLCD. -/
theorem clients_huntCell_strayLane :
    ((strayLane.descrambled 0 goodCell).huntCell 0 0 goodCell).clients ≠ strayLane.clients := by decide +kernel

/-- Refutes O32: the owner of a lane is found by the number in a key, so a state may hold a table of clients in which the owner's client does not hold
the lane. A further good header in PRESYNC then takes that client to UP for the first time, which the frame of the clause leaves out. Clients are
written under keys of units alone; where the client holds the lane the statement holds (`State.delineates_of_mem`). -/
theorem not_expansionCellsAreDelineated : ¬ Obligations.ExpansionCellsAreDelineated := by
  rw [expansionCellsAreDelineated_iff]
  intro h
  have howner : strayLane.laneOwner (0 : Fin 64) = some 0 := by decide +kernel
  have htype : strayLane.clientType 0 = 19 := by decide +kernel
  have hstate : strayLane.obj (Obj.HL_CELL_STATE 0) = 1 := by decide +kernel
  have hdue : (expCell strayLane 0).due = some goodCell.pos := by decide +kernel
  have hexec := exec_expansionCellReceive_hunting howner htype strayLane_receives (by rw [Fin.val_zero, hstate]; decide)
  obtain ⟨haligned, hown⟩ := strayLane_receives
  obtain ⟨-, -, -, hpresync, -⟩ := (h 0 0 goodCell strayLane howner htype).2 haligned hown
  obtain ⟨t, ht, -, -, -, -, -, hframe⟩ := hpresync hstate hdue (by decide +kernel) (by decide +kernel)
  have hclients : t.clients = strayLane.clients := (congrArg State.clients hframe :)
  obtain rfl : _ = t := Host.Outcome.next.inj (hexec.symm.trans ht)
  exact clients_huntCell_strayLane hclients

/-! ## A client that holds the lane -/

/-- The statement for every lane that its client holds, clause by clause. -/
theorem State.delineates_of_mem {l : Fin 64} {f : Nat} {cell : Cell} {s : State} (howner : s.laneOwner l = some f) (htype : s.clientType f = 19)
    (hl : l.val ∈ (s.client f).lanes) : s.delineates l f cell := by
  refine ⟨exec_expansionCellReceive_unaligned howner htype, fun haligned hown => ?_⟩
  have hrec : s.receives f l cell := ⟨haligned, hown⟩
  refine ⟨exec_expansionCellReceive_candidate howner htype hrec, exec_expansionCellReceive_idle howner htype hrec,
    exec_expansionCellReceive_between howner htype hrec, fun h hdue hec hgood => ?_, fun h hdue hec hgood => ?_,
    exec_expansionCellReceive_lost howner htype hrec, fun p n h hdue hec hnext hn => exec_expansionCellReceive_resumed howner htype hrec h hdue hec hnext hn,
    exec_expansionCellReceive_elsewhere howner htype hrec, exec_expansionCellReceive_bad howner htype hrec,
    fun h hdue hec => ⟨exec_expansionCellReceive_discarded howner htype hrec h hdue hec, fun hlane hcell =>
      ⟨exec_expansionCellReceive_data howner htype hrec h hdue hec hlane hcell,
        exec_expansionCellReceive_control howner htype hrec h hdue hec hlane hcell,
        exec_expansionCellReceive_other howner htype hrec h hdue hec hlane hcell⟩⟩⟩
  · obtain ⟨hstate, hlcd, hcount, hfirst, hnext, -⟩ := (s.descrambled l cell).candidateAt_presync f l (expCell s l).first ((expCell s l).good + 1)
      ((expCell s l).fits ++ [cell.pos]) (by omega)
    exact ⟨_, exec_expansionCellReceive_confirmed howner htype hrec h hdue hec, hstate, hlcd, hcount, hfirst, hnext,
      State.candidateAt_frame _ f l _ _ _ (s.descrambled_sameButCells l cell) hl (by omega)⟩
  · obtain ⟨hstate, hlcd⟩ := (s.descrambled l cell).candidateAt_sync f l (expCell s l).first ((expCell s l).good + 1)
      ((expCell s l).fits ++ [cell.pos]) (by omega)
    exact ⟨_, exec_expansionCellReceive_confirmed howner htype hrec h hdue hec, hstate, hlcd⟩

end Sys2Proof.Machine
end

section
/-! PROOFS. The Slot Compiler: the writes of PRISM_COMPILE, the end of a compile, and the rollback. -/

namespace Sys2Proof.Machine

/-! ## The writes of PRISM_COMPILE (R224, R248, R465) -/

/-- An accepted write answers the status that its chapter gives, in the state that the chapter leaves. -/
theorem serveWrite_answers {rq : Rq} {x : Sender} {k : Key} {val v : Val} {s : State} (h : Accepted rq x k val v s) (accept : Accept) :
    serveWrite accept rq k val s = (accept k v (s.served rq x)).2.deliver rq Op.write (accept k v (s.served rq x)).1 [] :=
  serveWrite_refused h accept rfl

theorem State.ctBad_served (s : State) (rq : Rq) (x : Sender) : (s.served rq x).ctBad = s.ctBad := by
  simp only [State.ctBad, State.stores_served]

section
variable {s : State} {v : Val}

/-- A write that starts the compiler, check by check. -/
theorem acceptPrism_compile (hv : v.v ≠ 0) : acceptPrism Obj.PRISM_COMPILE v s =
    if s.obj Obj.SHD_STATE = 4 then (.shadowBusy, s)
    else if s.compiling = true ∨ s.prism.rollback.isSome = true ∨ 2 ≤ s.obj Obj.SHD_STATE then (.busy, s)
    else if s.ctBad = true then (.precond, s)
    else (.ok, s.shadowEdited.plan (s.now + 1) (.compileStart v.v)) := by
  change acceptCompile Obj.PRISM_COMPILE v s = _
  unfold acceptCompile
  by_cases h : 2 ≤ s.obj Obj.SHD_STATE
  · rw [if_pos h, if_pos (Or.inr (Or.inr h))]
  · simp only [if_neg hv, h, if_false, or_false]

theorem acceptPrism_compile_syncing (h : s.obj Obj.SHD_STATE = 4) : acceptPrism Obj.PRISM_COMPILE v s = (.shadowBusy, s) := if_pos h

theorem acceptPrism_compile_swapWaits (h : s.obj Obj.SHD_STATE = 2 ∨ s.obj Obj.SHD_STATE = 3) :
    acceptPrism Obj.PRISM_COMPILE v s = (.busy, s) := by
  change acceptCompile Obj.PRISM_COMPILE v s = _
  unfold acceptCompile
  rw [if_neg (by omega), if_pos (by omega)]

/-- Abandoning is up to the compiler while no swap waits and nothing is copied. -/
theorem acceptPrism_abandon (h : s.obj Obj.SHD_STATE < 2) : acceptPrism Obj.PRISM_COMPILE ⟨2, 0⟩ s = s.abandonCompile := by
  change acceptCompile Obj.PRISM_COMPILE ⟨2, 0⟩ s = _
  unfold acceptCompile
  rw [if_neg (by omega), if_neg (by omega), if_pos rfl]

end

/-- PRISM_COMPILE = 1 or 2: the checks of a start, and the start planned for the next boundary. -/
theorem serveWrite_compile {rq : Rq} {x : Sender} {val v : Val} {s : State} (h : Accepted rq x Obj.PRISM_COMPILE val v s) (hv : v.v ≠ 0) :
    let u := s.served rq x
    serveWrite acceptPrism rq Obj.PRISM_COMPILE val s =
      if s.obj Obj.SHD_STATE = 4 then u.deliver rq Op.write .shadowBusy []
      else if u.compiling = true ∨ s.prism.rollback.isSome = true ∨ 2 ≤ s.obj Obj.SHD_STATE then u.deliver rq Op.write .busy []
      else if s.ctBad = true then u.deliver rq Op.write .precond []
      else (u.shadowEdited.plan (s.now + 1) (.compileStart v.v)).answered rq := by
  intro u
  have hstate : u.obj Obj.SHD_STATE = s.obj Obj.SHD_STATE := s.obj_served_ne rq x (by simp)
  rw [serveWrite_answers h, acceptPrism_compile hv, hstate, s.prism_served, s.ctBad_served, s.now_served]
  split_ifs <;> rfl

/-! ## Abandonment (R224, R229) -/

section
variable (s : State)

/-- A compile that runs is rolled back for the entries it has written, and its abandonment raises EV_COMPILE_FAIL. -/
theorem State.abandonCompile_running {c : Compile} (h : s.prism.compile = some c) :
    ∃ t : State, s.abandonCompile = (.ok, t) ∧ t.prism.compile = none ∧ t.obj Obj.PRISM_COMPILE_STATE = 5 ∧
      t.prism.rollback = some ⟨s.now + max 1 (ceilDiv (min c.result.entries (256 * (s.now - c.start))) 256), 1⟩ ∧
      t.prism.heldShadow = s.prism.heldShadow ∧
      t.changes = s.changes ++ [⟨Ev.COMPILE_FAIL.code, false, s.tick, contentOf Ev.COMPILE_FAIL.widths [0, 0]⟩] := by
  unfold State.abandonCompile
  simp only [h]
  refine ⟨_, rfl, ?_⟩
  simp [State.beginRollback, Prism.keepBefore]

/-- A compile that is DONE is rolled back whole, and a start that waits for its boundary is dropped. -/
theorem State.abandonCompile_done (h : s.prism.compile = none) (hstate : s.obj Obj.PRISM_COMPILE_STATE = 3) :
    ∃ t : State, s.abandonCompile = (.ok, t) ∧ t.obj Obj.PRISM_COMPILE_STATE = 5 ∧ t.waits isCompileStart = false ∧
      t.prism.rollback = some ⟨s.now + max 1 (ceilDiv s.prism.lastEntries 256), 1⟩ ∧ t.prism.heldShadow = s.prism.heldShadow := by
  unfold State.abandonCompile
  simp only [h, hstate]
  refine ⟨_, rfl, ?_⟩
  simp [State.beginRollback, State.waits]

theorem State.abandonCompile_rollingBack (h : s.prism.compile = none) (hstate : s.obj Obj.PRISM_COMPILE_STATE = 5) :
    s.abandonCompile = (.ok, s) := by
  unfold State.abandonCompile
  simp only [h, hstate]

theorem State.abandonCompile_idle (h : s.prism.compile = none) (hdone : s.obj Obj.PRISM_COMPILE_STATE ≠ 3)
    (hback : s.obj Obj.PRISM_COMPILE_STATE ≠ 5) : s.abandonCompile = (.precond, s) := by
  unfold State.abandonCompile
  simp only [h]

end

/-- PRISM_COMPILE = 0 with nothing copied and no swap that waits. -/
theorem exec_compileAbandon {rq : Rq} {x : Sender} {s t : State} {st : Status} (h : Accepted rq x Obj.PRISM_COMPILE ⟨2, 0⟩ ⟨2, 0⟩ s)
    (hstate : s.obj Obj.SHD_STATE < 2) (g : (s.served rq x).abandonCompile = (st, t)) :
    exec (.compileAbandon rq) s = .next (t.deliver rq Op.write st []) := by
  have hu : (s.served rq x).obj Obj.SHD_STATE < 2 := (s.obj_served_ne rq x (by simp)).trans_lt hstate
  exact congrArg Host.Outcome.next (serveWrite_refused h acceptPrism ((acceptPrism_abandon hu).trans g))

theorem exec_compileAbandon_checked {rq : Rq} {x : Sender} {s : State} (h : Accepted rq x Obj.PRISM_COMPILE ⟨2, 0⟩ ⟨2, 0⟩ s) :
    (s.obj Obj.SHD_STATE = 4 → exec (.compileAbandon rq) s = .next ((s.served rq x).deliver rq Op.write .shadowBusy [])) ∧
    (s.obj Obj.SHD_STATE = 2 ∨ s.obj Obj.SHD_STATE = 3 →
      exec (.compileAbandon rq) s = .next ((s.served rq x).deliver rq Op.write .busy [])) := by
  have hu : (s.served rq x).obj Obj.SHD_STATE = s.obj Obj.SHD_STATE := s.obj_served_ne rq x (by simp)
  rw [← hu]
  exact ⟨fun g => congrArg Host.Outcome.next (serveWrite_refused h acceptPrism (acceptPrism_compile_syncing g)),
    fun g => congrArg Host.Outcome.next (serveWrite_refused h acceptPrism (acceptPrism_compile_swapWaits g))⟩

/-! ## The end of a compile and of a rollback (R228 to R230) -/

/-- The state in the tick that the coming boundary opens, before the boundary's work. -/
def State.opened (s : State) : State := { s with now := s.now + 1, tick := s.nextTick }

section
variable {s t : State} {f : State → State}

theorem State.atBoundary_of_opened (h : f s.opened = t) : s.atBoundary f = { t with now := s.now, tick := s.tick } := by
  rw [← h]; rfl

/-- What leaves the opened state as it is leaves the state. -/
theorem State.atBoundary_unchanged (h : f s.opened = s.opened) : s.atBoundary f = s :=
  (State.atBoundary_of_opened h).trans rfl

end

section
variable {s : State} {c : Compile}

theorem State.compileEnd_placed (h : s.prism.compile = some c) (hd : c.due ≤ s.now) (hf : c.result.failure = none) (failed : Bool) :
    s.compileEnd failed = if failed then s else s.finishCompile c := by
  unfold State.compileEnd
  simp only [h, hf]
  rw [if_neg (Nat.not_lt.mpr hd)]

theorem State.compileEnd_unplaced {reason conn : Nat} (h : s.prism.compile = some c) (hd : c.due ≤ s.now)
    (hf : c.result.failure = some (reason, conn)) (failed : Bool) :
    s.compileEnd failed = if failed then s.failCompile c reason conn else s := by
  unfold State.compileEnd
  simp only [h, hf]
  rw [if_neg (Nat.not_lt.mpr hd)]

variable (s c)

/-- DONE: the shadow alone holds the new placement, and nothing is dirty. -/
theorem State.finishCompile_spec :
    let t := s.finishCompile c
    t.prism.compile = none ∧ t.prism.heldShadow = c.result.held ∧ t.prism.dirty = [] ∧ t.prism.held = s.prism.held ∧ t.act = s.act ∧
      t.shd = s.shd ∧ t.obj Obj.PRISM_COMPILE_STATE = 3 ∧ t.obj Obj.PRISM_COMPILE_TICKS = c.due - c.start ∧
      t.changes = s.changes ++
        [⟨Ev.COMPILE_DONE.code, false, s.tick, contentOf Ev.COMPILE_DONE.widths [c.result.entries, c.due - c.start]⟩] := by
  simp [State.finishCompile, Prism.keepBefore]

/-- The end of a compile that failed at an entry, for any value of PRISM_COMPILE_ERR: the value that R228 composes is kept out of the unifier, which
would unfold its 2^24. -/
def State.failWith (code reason conn : Nat) : State :=
  let t := (s.withPrism Prism.keepBefore).withPrism fun p => { p with changed := (p.changed ++ c.result.changed).dedup }
  (((t.setObj Obj.PRISM_COMPILE_ERR code).setObj Obj.PRISM_COMPILE_TICKS (c.due - c.start)).beginRollback c.result.entries 4).raise
    Ev.COMPILE_FAIL [reason, conn]

theorem State.failCompile_eq (reason conn : Nat) : s.failCompile c reason conn = s.failWith c (reason * 2 ^ 24 + conn) reason conn := rfl

/-- A compile that failed shows its reason and is rolled back to FAILED, for all the entries it has written. -/
theorem State.failWith_spec (code reason conn : Nat) :
    let t := s.failWith c code reason conn
    t.obj Obj.PRISM_COMPILE_STATE = 5 ∧ t.obj Obj.PRISM_COMPILE_ERR = code ∧ t.prism.compile = none ∧
      t.prism.rollback = some ⟨s.now + max 1 (ceilDiv c.result.entries 256), 4⟩ ∧ t.prism.heldShadow = s.prism.heldShadow ∧
      t.changes = s.changes ++ [⟨Ev.COMPILE_FAIL.code, false, s.tick, contentOf Ev.COMPILE_FAIL.widths [reason, conn]⟩] := by
  simp [State.failWith, State.beginRollback, Prism.keepBefore]

end

/-- COMPILE_DONE and COMPILE_FAIL by the result of the compile that is due: one of them ends it, the other leaves it. -/
theorem exec_compileEnd_due {s : State} {c : Compile} (h : s.prism.compile = some c) (hd : c.due ≤ s.now + 1) :
    (c.result.failure = none → exec .compileFail s = .next s ∧
      exec .compileDone s = .next { s.opened.finishCompile c with now := s.now, tick := s.tick }) ∧
    ∀ reason conn, c.result.failure = some (reason, conn) → exec .compileDone s = .next s ∧
      exec .compileFail s = .next { s.opened.failCompile c reason conn with now := s.now, tick := s.tick } := by
  refine ⟨fun hf => ?_, fun reason conn hf => ?_⟩
  · have hend := State.compileEnd_placed (s := s.opened) h hd hf
    exact ⟨congrArg Host.Outcome.next (State.atBoundary_unchanged (hend true)),
      congrArg Host.Outcome.next (State.atBoundary_of_opened (hend false))⟩
  · have hend := State.compileEnd_unplaced (s := s.opened) h hd hf
    exact ⟨congrArg Host.Outcome.next (State.atBoundary_unchanged (hend false)),
      congrArg Host.Outcome.next (State.atBoundary_of_opened (hend true))⟩

/-- A rollback that is due restores the placement, and writes no object but the compiler's state. -/
theorem State.rollbackEnd_due {s : State} {r : Rollback} (h : s.prism.rollback = some r) (hd : r.due ≤ s.now) :
    s.rollbackEnd = (s.setObj Obj.PRISM_COMPILE_STATE r.final).withPrism fun p => { p with
      rollback := none, heldShadow := p.heldBefore, dirty := (p.dirtyBefore ++ p.dirty).dedup, changed := p.changedBefore } := by
  unfold State.rollbackEnd
  simp only [h]
  rw [if_neg (Nat.not_lt.mpr hd)]

theorem State.rollbackEnd_early {s : State} {r : Rollback} (h : s.prism.rollback = some r) (hd : s.now < r.due) : s.rollbackEnd = s := by
  unfold State.rollbackEnd
  simp only [h]
  rw [if_pos hd]

theorem exec_rollbackDone_due {s : State} {r : Rollback} (h : s.prism.rollback = some r) (hd : r.due ≤ s.now + 1) :
    ∃ t : State, exec .rollbackDone s = .next t ∧ t.obj Obj.PRISM_COMPILE_STATE = r.final ∧ t.prism.rollback = none ∧
      t.prism.heldShadow = s.prism.heldBefore ∧ t.prism.held = s.prism.held ∧
      (∀ k, k ≠ Obj.PRISM_COMPILE_STATE → t.obj k = s.obj k) ∧ t = { s with reg := t.reg, prism := t.prism } := by
  have hrun := State.atBoundary_of_opened (State.rollbackEnd_due (s := s.opened) h hd)
  exact ⟨_, congrArg Host.Outcome.next hrun, s.obj_setObj_same _ _, rfl, rfl, rfl, fun k hk => s.obj_setObj_ne _ hk, rfl⟩

/-! ## The statement -/

/-- Settles O33: a start check by check, an abandonment by what the compiler does, and the end of a compile by whether it placed every entry. -/
theorem compilerRunsAndRollsBack : Obligations.CompilerRunsAndRollsBack := by
  intro s
  refine ⟨fun rq x kind c hc h => ?_, fun rq x h => ⟨(exec_compileAbandon_checked h).1, (exec_compileAbandon_checked h).2,
    fun c hshd hcompile => ?_, fun hshd hcompile => ?_⟩, fun c hcompile hdue => ⟨fun hf => ?_, fun reason conn hf => ?_⟩,
    fun r hr => ⟨fun hearly => ?_, exec_rollbackDone_due hr⟩⟩
  · have hexec : exec c s = .next (serveWrite acceptPrism rq Obj.PRISM_COMPILE ⟨2, kind⟩ s) ∧ kind ≠ 0 := by
      simp only [List.mem_cons, List.not_mem_nil, or_false, Prod.mk.injEq] at hc
      rcases hc with ⟨rfl, rfl⟩ | ⟨rfl, rfl⟩
      · exact ⟨rfl, by decide⟩
      · exact ⟨rfl, by decide⟩
    rw [hexec.1, serveWrite_compile h hexec.2]
  · obtain ⟨t, ht, hnone, hstate, hback, hheld, hchanges⟩ :=
      (s.served rq x).abandonCompile_running ((congrArg Prism.compile (s.prism_served rq x)).trans hcompile)
    simp only [State.now_served, State.tick_served, State.prism_served, State.changes_served] at hback hheld hchanges
    exact ⟨t, exec_compileAbandon h hshd ht, hnone, hstate, hback, hheld, hchanges⟩
  · have hcompile' : (s.served rq x).prism.compile = none := (congrArg Prism.compile (s.prism_served rq x)).trans hcompile
    have hstate' : (s.served rq x).obj Obj.PRISM_COMPILE_STATE = s.obj Obj.PRISM_COMPILE_STATE := s.obj_served_ne rq x (by simp)
    refine ⟨fun hstate => ?_, fun hstate => ?_, fun hdone hback => ?_⟩
    · obtain ⟨t, ht, hfive, hwaits, hback, hheld⟩ := (s.served rq x).abandonCompile_done hcompile' (hstate'.trans hstate)
      simp only [State.now_served, State.prism_served] at hback hheld
      exact ⟨t, exec_compileAbandon h hshd ht, hfive, hwaits, hback, hheld⟩
    · exact exec_compileAbandon h hshd (State.abandonCompile_rollingBack _ hcompile' (hstate'.trans hstate))
    · exact exec_compileAbandon h hshd (State.abandonCompile_idle _ hcompile' (hstate' ▸ hdone) (hstate' ▸ hback))
  · obtain ⟨hfail, hdone⟩ := (exec_compileEnd_due hcompile hdue).1 hf
    have hspec := s.opened.finishCompile_spec c
    generalize s.opened.finishCompile c = t at hdone hspec
    exact ⟨hfail, _, hdone, hspec⟩
  · obtain ⟨hdone, hfail⟩ := (exec_compileEnd_due hcompile hdue).2 reason conn hf
    rw [State.failCompile_eq] at hfail
    have hspec := s.opened.failWith_spec c (reason * 2 ^ 24 + conn) reason conn
    generalize s.opened.failWith c _ reason conn = t at hfail hspec
    exact ⟨hdone, _, hfail, hspec⟩
  · exact congrArg Host.Outcome.next (State.atBoundary_unchanged (State.rollbackEnd_early (s := s.opened) hr hearly))

end Sys2Proof.Machine
end

section
/-! PROOFS. The slices of the tick buffer: their failure and what the tick reads without them, the retest, and the return at an epoch boundary. -/

namespace Sys2Proof.Machine

/-! ## Reading without a failed slice (R235 to R237) -/

/-- Two states that differ in objects, defects, the event stream, Prism and the account of overruns alone. -/
def State.sameButReading (s t : State) : Prop :=
  t = { s with reg := t.reg, prism := t.prism, defects := t.defects, changes := t.changes, lastOverrun := t.lastOverrun
               overrunEpoch := t.overrunEpoch, overrunAt := t.overrunAt }

theorem State.sameButReading.trans {r s t : State} (h : r.sameButReading s) (g : s.sameButReading t) : r.sameButReading t := by
  unfold State.sameButReading at *
  rw [g, h]

theorem State.sameButReading.tick {s t : State} (h : s.sameButReading t) : t.tick = s.tick := by rw [h]

theorem State.sameButStatus.sameButReading {s t : State} (h : s.sameButStatus t) : s.sameButReading t := by rw [h]; rfl

section
variable (s : State)

theorem State.overrun_sameButReading (engine : Nat) : s.sameButReading (s.overrun engine) := by
  unfold State.overrun
  extract_lets t counted u v
  have hcounted : s.sameButReading counted := by
    unfold counted; split <;> rfl
  have hu : s.sameButReading u :=
    hcounted.trans (State.setDefect_sameButStatus (counted.setObj (Obj.TB_OVR_LAST engine) s.tick) Df.tickOvr 0 true).sameButReading
  split
  · exact hu.trans rfl
  · exact hu.trans rfl

theorem State.prism_overrun (engine : Nat) : (s.overrun engine).prism = s.prism := by
  unfold State.overrun
  extract_lets t counted u v
  have hcounted : counted.prism = s.prism := by
    unfold counted; split <;> rfl
  have hu : u.prism = s.prism := (State.prism_declare _ _ _).trans hcounted
  split
  · exact hu
  · exact hu

end

/-- `t` comes from `s` by reading in the tick of `s`: further slices may fail by their parity errors, and what is stored stays. -/
structure ReadsOn (s t : State) : Prop where
  frame : s.sameButReading t
  fences : ∃ more : List Fence, t.prism.fences = s.prism.fences ++ more ∧ ∀ f ∈ more, f.cause = 1 ∧ f.tick = s.tick
  fenced : t.prism.fenced = s.prism.fenced
  stage : t.prism.stage = s.prism.stage
  half0 : t.prism.half0 = s.prism.half0
  half1 : t.prism.half1 = s.prism.half1

section
variable {r s t : State}

/-- A step in which no further slice fails. -/
theorem ReadsOn.of_fences (frame : s.sameButReading t) (fences : t.prism.fences = s.prism.fences) (fenced : t.prism.fenced = s.prism.fenced)
    (stage : t.prism.stage = s.prism.stage) (half0 : t.prism.half0 = s.prism.half0) (half1 : t.prism.half1 = s.prism.half1) : ReadsOn s t :=
  ⟨frame, ⟨[], fences.trans (List.append_nil _).symm, fun _ hf => absurd hf List.not_mem_nil⟩, fenced, stage, half0, half1⟩

theorem ReadsOn.of_prism (frame : s.sameButReading t) (h : t.prism = s.prism) : ReadsOn s t :=
  .of_fences frame (congrArg _ h) (congrArg _ h) (congrArg _ h) (congrArg _ h) (congrArg _ h)

theorem ReadsOn.trans (h : ReadsOn r s) (g : ReadsOn s t) : ReadsOn r t where
  frame := h.frame.trans g.frame
  fences := by
    obtain ⟨m, hm, hmf⟩ := h.fences
    obtain ⟨n, hn, hnf⟩ := g.fences
    refine ⟨m ++ n, by rw [hn, hm, List.append_assoc], fun f hf => (List.mem_append.mp hf).elim (hmf f) fun hf => ?_⟩
    exact ⟨(hnf f hf).1, (hnf f hf).2.trans h.frame.tick⟩
  fenced := g.fenced.trans h.fenced
  stage := g.stage.trans h.stage
  half0 := g.half0.trans h.half0
  half1 := g.half1.trans h.half1

theorem State.sameButObjects.readsOn (h : s.sameButObjects t) : ReadsOn s t := by
  rw [h]; exact .of_prism rfl rfl

end

section
variable (s : State)

theorem State.overrun_readsOn (engine : Nat) : ReadsOn s (s.overrun engine) :=
  .of_prism (s.overrun_sameButReading engine) (s.prism_overrun engine)

/-- What a reading counts goes to objects, to the account of a replay storm and to Prism's own counts. -/
theorem State.countReading_readsOn (r : Reading) : ReadsOn s (s.countReading r) := by
  unfold State.countReading
  extract_lets c fresh t u v
  have hu : s.sameButObjects u := rfl
  have hv : ReadsOn s v := (hu.trans (State.foldl_sameButObjects _ (fun w x => w.setObj_sameButObjects _ _) fresh u)).readsOn
  have hlate : ReadsOn s (if r.late then v.overrun 1 else v) := by
    split
    · exact hv.trans (v.overrun_readsOn 1)
    · exact hv
  exact hlate.trans (.of_fences rfl rfl rfl rfl rfl rfl)

theorem State.withOutput_readsOn (f : List OutWord → List OutWord) : ReadsOn s (s.withPrism fun p => { p with output := f p.output }) :=
  .of_fences rfl rfl rfl rfl rfl rfl

/-- A slice over the error limit fails in this tick. -/
theorem State.fence_readsOn (slice : Nat) : ReadsOn s (s.fence slice 1) :=
  ⟨rfl, ⟨[⟨slice, 1, s.tick⟩], rfl, fun f hf => by rw [List.mem_singleton.mp hf]; exact ⟨rfl, rfl⟩⟩, rfl, rfl, rfl, rfl⟩

/-- What the tick reads again, however many slices fail in it by what is read. -/
theorem State.readAgain_readsOn (fuel : Nat) (s : State) : ReadsOn s (State.readAgain fuel s) := by
  induction fuel generalizing s with
  | zero => exact .of_prism rfl rfl
  | succ fuel ih =>
    unfold State.readAgain
    extract_lets r gone t
    have ht : ReadsOn s t := (s.countReading_readsOn r).trans (State.withOutput_readsOn _ _)
    split
    · exact ht
    · exact ht.trans ((State.fence_readsOn t _).trans (ih _))

/-! ## The failure of a slice (R237) -/

theorem Prism.failed_iff (p : Prism) (k : Nat) : p.failed k = true ↔ k ∈ p.fenced ∨ ∃ f ∈ p.fences, f.slice = k := by
  simp [Prism.failed]

theorem State.sliceFails_failed {slice cause : Nat} (h : s.prism.failed slice = true) : s.sliceFails slice cause = s := if_pos h

/-- A slice that fails is fenced at the next boundary, before those that fail by what is read without it. -/
theorem State.sliceFails_spec {slice cause : Nat} {t : State} (h : s.prism.failed slice = false) (ht : s.sliceFails slice cause = t) :
    ∃ more : List Fence, t.prism.fences = s.prism.fences ++ ⟨slice, cause, s.tick⟩ :: more ∧ (∀ f ∈ more, f.cause = 1 ∧ f.tick = s.tick) ∧
      t.prism.fenced = s.prism.fenced ∧ t.prism.stage = s.prism.stage ∧ t.prism.half0 = s.prism.half0 ∧ t.prism.half1 = s.prism.half1 ∧
      s.sameButReading t := by
  have hrun : (s.fence slice cause).readAgain 17 = t := (if_neg (by simp [h])).symm.trans ht
  obtain ⟨hframe, ⟨more, hmore, hcause⟩, hfenced, hstage, hhalf0, hhalf1⟩ := hrun ▸ State.readAgain_readsOn 17 (s.fence slice cause)
  have hfence : s.sameButReading (s.fence slice cause) := rfl
  exact ⟨more, hmore.trans (List.append_assoc _ _ _), hcause, hfenced, hstage, hhalf0, hhalf1, hfence.trans hframe⟩

end

theorem exec_sliceFail (slice : Fin 17) (cause : Fin 2) (errors : Nat) (s : State) : exec (.sliceFail slice cause errors) s =
    if cause = 0 ∨ s.obj Obj.PRISM_SLICE_ERR_LIMIT < errors then .next (s.sliceFails slice cause) else .next s := rfl

/-! ## The retest (R240) -/

/-- A write of PRISM_SLICE_RETEST, check by check. -/
theorem acceptPrism_sliceRetest (v : Val) (s : State) : acceptPrism Obj.PRISM_SLICE_RETEST v s =
    if v.v ∉ s.prism.fenced then (.range, s)
    else if ∃ t ∈ s.prism.tests, t.1 = v.v then (.busy, s)
    else (.ok, s.withPrism fun p => { p with tests := p.tests ++ [(v.v, s.now + 16)] }) := by
  have htests : (s.prism.tests.any fun t => t.1 = v.v) = true ↔ ∃ t ∈ s.prism.tests, t.1 = v.v := by
    simp only [List.any_eq_true, decide_eq_true_eq]
  change acceptSliceRetest Obj.PRISM_SLICE_RETEST v s = _
  unfold acceptSliceRetest
  simp only [htests, List.contains_iff_mem]

theorem exec_prismSliceRetest {rq : Rq} {x : Sender} {val v : Val} {s : State} (h : Accepted rq x Obj.PRISM_SLICE_RETEST val v s) :
    let u := s.served rq x
    exec (.prismSliceRetest rq val) s = .next (
      if v.v ∉ s.prism.fenced then u.deliver rq Op.write .range []
      else if ∃ t ∈ s.prism.tests, t.1 = v.v then u.deliver rq Op.write .busy []
      else (u.withPrism fun p => { p with tests := p.tests ++ [(v.v, s.now + 16)] }).answered rq) := by
  refine congrArg Host.Outcome.next ?_
  rw [serveWrite_answers h, acceptPrism_sliceRetest, s.prism_served, s.now_served]
  split_ifs <;> rfl

/-- The end of a test: a slice that passed waits for the first epoch boundary after it. -/
theorem exec_sliceRetestDone {slice : Fin 17} {s : State} (pass : Bool) (h : ∃ t ∈ s.prism.tests, t.1 = slice.val) :
    exec (.sliceRetestDone slice pass) s = .next (s.withPrism fun p => { p with
      tests := p.tests.filter fun t => decide (t.1 ≠ slice)
      rejoin := p.rejoin ++ if pass then [(slice.val, s.epochBoundaryAt 1)] else [] }) := by
  change execSliceRetestDone slice pass s = _
  unfold execSliceRetestDone
  rw [if_pos (by simpa using h)]
  cases pass
  · simp [State.withPrism]
  · rfl

/-! ## The return of a slice (R240, R243) -/

/-- An event for each of several units. -/
theorem State.foldl_raise (ev : EvRow) (l : List Nat) (s : State) : l.foldl (fun u k => u.raise ev [k]) s =
    { s with changes := s.changes ++ l.map fun k => ⟨ev.code, false, s.tick, contentOf ev.widths [k]⟩ } := by
  induction l generalizing s with
  | nil => simp
  | cons k l ih => rw [List.foldl_cons, ih]; simp [State.raise]

/-- What PRISM_STATE says of Prism: not running, whole, without slices, or with lost positions (R243). -/
def State.prismState (s : State) (p : Prism) : Nat :=
  if s.running = false ∨ s.mc.initialising = true then 0 else if p.lostSlices ≠ [] ∨ p.xorLost = true then 3 else if p.fenced ≠ [] then 2 else 1

theorem State.obj_refreshPrism (s : State) : s.refreshPrism.obj Obj.PRISM_STATE = s.prismState s.prism := by
  simp [State.refreshPrism, State.prismState]

/-- dSLICE and PRISM_STATE as the slices in the state say (R239, R243). -/
theorem State.followFenced_spec (s : State) :
    let t := (s.setDefect Df.slice 0 (decide (s.prism.fenced ≠ []))).refreshPrism
    t.prism = s.prism ∧ t.declared Df.slice 0 = decide (s.prism.fenced ≠ []) ∧
      t.obj Obj.PRISM_STATE = s.prismState s.prism ∧ s.changes ⊆ t.changes := by
  have hframe := s.setDefect_sameButStatus Df.slice 0 (decide (s.prism.fenced ≠ []))
  have hdefect := s.declared_setDefect Df.slice 0 (decide (s.prism.fenced ≠ [])) Df.slice 0
  have hchanges := s.changes_setDefect Df.slice 0 (decide (s.prism.fenced ≠ []))
  generalize s.setDefect Df.slice 0 (decide (s.prism.fenced ≠ [])) = v at hframe hdefect hchanges ⊢
  have hprism : v.prism = s.prism := by rw [hframe]
  refine ⟨hprism, hdefect.trans (if_pos ⟨rfl, rfl⟩), ?_, hchanges⟩
  rw [State.obj_refreshPrism, hframe]
  rfl

section
variable (s : State)

/-- Slices that are due to rejoin. -/
def State.rejoining : List Nat := (s.prism.rejoin.filter fun r => decide (r.2 ≤ s.now)).map (·.1)

theorem State.rejoinSlices_none (h : s.rejoining = []) : s.rejoinSlices = s := if_pos h

/-- The slices that are due rejoin, before dSLICE, PRISM_STATE and the events. -/
def State.rejoined : State :=
  s.withPrism fun p => { p with
    rejoin := p.rejoin.filter fun r => decide (s.now < r.2)
    fenced := p.fenced.filter fun k => !s.rejoining.contains k
    xorLost := p.xorLost && !s.rejoining.contains 16
    carried := match p.carried with
      | some k => if s.rejoining.contains k then none else some k
      | none => none }

theorem State.rejoinSlices_some (h : s.rejoining ≠ []) : s.rejoinSlices =
    let u := s.rejoining.foldl (fun u k => u.raise Ev.SLICE_RESTORED [k]) s.rejoined
    (u.setDefect Df.slice 0 (decide (u.prism.fenced ≠ []))).refreshPrism := if_neg h

/-- dSLICE and PRISM_STATE follow the slices that are fenced, and each slice that rejoins raises EV_SLICE_RESTORED. -/
theorem State.rejoinSlices_spec {t : State} (h : s.rejoining ≠ []) (ht : s.rejoinSlices = t) :
    t.prism = s.rejoined.prism ∧ t.declared Df.slice 0 = decide (t.prism.fenced ≠ []) ∧
      t.obj Obj.PRISM_STATE = s.prismState t.prism ∧
      ∀ k ∈ s.rejoining, ⟨Ev.SLICE_RESTORED.code, false, s.tick, contentOf Ev.SLICE_RESTORED.widths [k]⟩ ∈ t.changes := by
  obtain ⟨hprism, hdefect, hstate, hchanges⟩ := State.followFenced_spec (s.rejoining.foldl (fun u k => u.raise Ev.SLICE_RESTORED [k]) s.rejoined)
  rw [← s.rejoinSlices_some h, ht] at hprism hdefect hstate hchanges
  rw [← hprism] at hdefect hstate
  rw [State.foldl_raise] at hprism hstate hchanges
  exact ⟨hprism, hdefect, hstate, fun k hk => hchanges (List.mem_append_right _ (List.mem_map_of_mem hk))⟩

end

section
variable {s : State} {due : Nat}

/-- A slice that waits for a later boundary stays fenced. -/
theorem exec_sliceRejoin_early {slice : Nat} (h : s.prism.rejoin = [(slice, due)]) (hd : s.now + 1 < due) : exec .sliceRejoin s = .next s := by
  have hnone : s.opened.rejoining = [] := by
    simp only [State.rejoining, State.opened, h]
    simp [Nat.not_le.mpr hd]
  exact congrArg Host.Outcome.next (State.atBoundary_unchanged (State.rejoinSlices_none _ hnone))

/-- The slice that is due at the coming boundary. -/
theorem State.rejoining_opened {slice : Nat} (h : s.prism.rejoin = [(slice, due)]) (hd : due ≤ s.now + 1) : s.opened.rejoining = [slice] := by
  simp only [State.rejoining, State.opened, h]
  simp [hd]

theorem exec_sliceRejoin_due {slice : Nat} (h : s.prism.rejoin = [(slice, due)]) (hd : due ≤ s.now + 1) :
    ∃ t : State, exec .sliceRejoin s = .next t ∧ slice ∉ t.prism.fenced ∧
      (∀ k, k ≠ slice → (k ∈ t.prism.fenced ↔ k ∈ s.prism.fenced)) ∧ t.prism.rejoin = [] ∧
      t.declared Df.slice 0 = decide (t.prism.fenced ≠ []) ∧
      t.obj Obj.PRISM_STATE = s.prismState t.prism ∧
      ⟨Ev.SLICE_RESTORED.code, false, s.nextTick, contentOf Ev.SLICE_RESTORED.widths [slice]⟩ ∈ t.changes := by
  have hone := State.rejoining_opened h hd
  have hexec := State.atBoundary_of_opened (s := s) (f := State.rejoinSlices) rfl
  generalize ht : s.opened.rejoinSlices = t at hexec
  obtain ⟨hprism, hdefect, hstate, hevent⟩ := s.opened.rejoinSlices_spec (by simp [hone]) ht
  have hfenced : t.prism.fenced = s.prism.fenced.filter fun k => !s.opened.rejoining.contains k := congrArg Prism.fenced hprism
  have hrejoin : t.prism.rejoin = s.prism.rejoin.filter fun r => decide (s.now + 1 < r.2) := congrArg Prism.rejoin hprism
  refine ⟨_, congrArg Host.Outcome.next hexec, ?_, fun k hk => ?_, ?_, hdefect, hstate, hevent slice (by simp [hone])⟩
  · simp [hfenced, hone]
  · simp [hfenced, hone, hk]
  · simp [hrejoin, h, hd]

end

/-! ## The statement -/

/-- Settles O34: a failure by whether the slice has failed before, the retest check by check, and the return by whether its boundary has come. -/
theorem slicesFailAndRejoin : Obligations.SlicesFailAndRejoin := by
  intro slice s
  refine ⟨fun cause errors => ?_, fun rq x val v h => exec_prismSliceRetest h, fun pass htest => ⟨_, exec_sliceRetestDone pass htest, ?_⟩,
    fun due h => ⟨exec_sliceRejoin_early h, exec_sliceRejoin_due h⟩⟩
  · intro fails
    have hfails : fails ↔ (cause = 0 ∨ s.obj Obj.PRISM_SLICE_ERR_LIMIT < errors) ∧ s.prism.failed slice = false := by
      rw [← Bool.not_eq_true, Prism.failed_iff, not_or]
      simp [fails]
    rw [hfails, exec_sliceFail]
    refine ⟨fun h => ?_, fun ⟨hcause, hfailed⟩ => ?_⟩
    · split
      case isTrue hcause => rw [s.sliceFails_failed (Bool.of_not_eq_false (not_and.mp h hcause))]
      case isFalse => rfl
    · obtain ⟨more, hspec⟩ := s.sliceFails_spec (cause := cause) hfailed rfl
      exact ⟨_, more, if_pos hcause, hspec⟩
  · refine ⟨fun r hr => ?_, fun r hr hne => ?_, rfl, rfl, rfl⟩
    · simpa using (List.mem_filter.mp hr).2
    · exact List.mem_filter.mpr ⟨hr, decide_eq_true hne⟩

end Sys2Proof.Machine
end

section
/-! PROOFS. Swap requests: the nine checks of R253, and the boundary that an accepted request waits for. -/

namespace Sys2Proof.Machine

/-! ## The checks, one after the other (R253) -/

/-- Checks 1 to 4 find nothing: the role, no swap that waits, no SYNCING, and a compile that is done or was never asked for. -/
def State.takesSwap (s : State) (role : Nat) : Prop :=
  (1 ≤ role ∧ s.obj Obj.SHD_STATE ≠ 2 ∧ s.obj Obj.SHD_STATE ≠ 3 ∧ s.obj Obj.SHD_STATE ≠ 4) ∧
    (s.obj Obj.PRISM_COMPILE_STATE = 0 ∨ s.obj Obj.PRISM_COMPILE_STATE = 3)

/-- Checks 5 to 7 find nothing in the epoch of a SWAP_AT. -/
def State.reachesEpoch (s : State) (at_ : Option Nat) : Prop :=
  ∀ e, at_ = some e → s.tick + 2 ≤ 32 * e ∧ e ≤ s.epoch + 1500000 ∧ s.load = none ∧ s.autoLoad = none

section
variable {s : State} {role : Nat} {at_ : Option Nat}

theorem State.swapFault_role (h : role < 1) : s.swapFault role at_ = some (1, .denied) := if_pos h

theorem State.swapFault_waits (hr : 1 ≤ role) (h : s.obj Obj.SHD_STATE = 2 ∨ s.obj Obj.SHD_STATE = 3) :
    s.swapFault role at_ = some (2, .busy) :=
  (if_neg (Nat.not_lt.mpr hr)).trans (if_pos h)

theorem State.swapFault_syncing (hr : 1 ≤ role) (h : s.obj Obj.SHD_STATE = 4) : s.swapFault role at_ = some (3, .shadowBusy) := by
  unfold State.swapFault
  simp [Nat.not_lt.mpr hr, h]

theorem State.swapFault_compile (hr : 1 ≤ role) (h2 : s.obj Obj.SHD_STATE ≠ 2) (h3 : s.obj Obj.SHD_STATE ≠ 3) (h4 : s.obj Obj.SHD_STATE ≠ 4)
    (hc : ¬ (s.obj Obj.PRISM_COMPILE_STATE = 0 ∨ s.obj Obj.PRISM_COMPILE_STATE = 3)) : s.swapFault role at_ = some (4, .precond) := by
  unfold State.swapFault
  simp only [if_neg (Nat.not_lt.mpr hr), h2, h3, h4, or_self, if_false, hc, not_false_eq_true, if_true]

/-- Check 8, then check 9. -/
def State.fitFault (s : State) : Option (Nat × Status) :=
  if ¬ s.lineChangesFit then some (8, .precond) else if ¬ s.objectsFit then some (9, .precond) else none

/-- What is left of the checks once the first four have passed. -/
theorem State.swapFault_open (h : s.takesSwap role) : s.swapFault role at_ =
    match at_ with
    | none => s.fitFault
    | some e =>
      if 32 * e < s.tick + 2 then some (5, .deadline)
      else if s.epoch + 1500000 < e then some (6, .range)
      else if s.load.isSome ∨ s.autoLoad.isSome then some (7, .precond)
      else s.fitFault := by
  obtain ⟨⟨hr, h2, h3, h4⟩, hc⟩ := h
  unfold State.swapFault
  simp only [if_neg (Nat.not_lt.mpr hr), h2, h3, h4, or_self, if_false, hc, not_true_eq_false]
  cases at_ <;> simp [State.fitFault]

theorem State.swapFault_reached (h : s.takesSwap role) (ht : s.reachesEpoch at_) : s.swapFault role at_ = s.fitFault := by
  rw [State.swapFault_open h]
  cases at_ with
  | none => rfl
  | some e =>
    obtain ⟨hnear, hfar, hload, hauto⟩ := ht e rfl
    simp [Nat.not_lt.mpr hnear, Nat.not_lt.mpr hfar, hload, hauto]

/-! ## The answer to a request (R251 to R253, R419) -/

theorem State.requestSwap_rejected {code : Nat} {st : Status} (h : s.swapFault role at_ = some (code, st)) :
    s.requestSwap role at_ = (st, [], s.setObj Obj.SHD_REJECT code) := by
  unfold State.requestSwap
  rw [h]

theorem State.requestSwap_accepted (h : s.swapFault role at_ = none) : s.requestSwap role at_ =
    (.ok, [⟨8, (s.acceptSwap at_).obj Obj.SHD_SWAP_EPOCH⟩, ⟨4, s.obj Obj.SHD_GENERATION⟩], s.acceptSwap at_) := by
  unfold State.requestSwap
  rw [h]

/-- The boundary of an accepted request, as a value of the tick counter. -/
def State.swapAim (s : State) (at_ : Option Nat) : Nat :=
  match at_ with
  | some e => 32 * e
  | none => s.epochBoundary 2

/-- An accepted request waits for its boundary: PENDING, with nothing else changed. -/
theorem State.acceptSwap_spec (s : State) (at_ : Option Nat) :
    let t := s.acceptSwap at_
    t.obj Obj.SHD_STATE = 2 ∧ t.obj Obj.SHD_SWAP_EPOCH = s.swapAim at_ / 32 ∧
      t.shadow = { s.shadow with
        swap := some ⟨at_.isSome, s.swapAim at_ / 32, some (s.now + (s.swapAim at_ - s.tick)), s.obj Obj.SHD_STATE, none⟩ } ∧
      (∀ k, k ≠ Obj.SHD_STATE → k ≠ Obj.SHD_SWAP_EPOCH → t.obj k = s.obj k) ∧ t = { s with reg := t.reg, shadow := t.shadow } := by
  refine ⟨?_, ?_, rfl, fun k hstate hepoch => ?_, rfl⟩
  · simp [State.acceptSwap]
  · simp only [State.acceptSwap, State.obj_withShadow, State.obj_setObj_same]
    rfl
  · simp [State.acceptSwap, hstate, hepoch]

end

section
variable {rq : Rq} {x : Sender} {s : State}

/-- The state after the answer to a swap request that came with opcode `op`. -/
def State.swapAnswered (s : State) (rq : Rq) (op : Nat) (byObject : Bool) (role : Nat) (at_ : Option Nat) : State :=
  let r := s.requestSwap role at_
  r.2.2.deliver rq op r.1 (if byObject then [] else r.2.1)

theorem serveSwap_served {op : Nat} {byObject : Bool} {at_ : Option Nat} (h : Served (if byObject then Op.write else op) 0 rq x s) :
    serveSwap op byObject at_ rq s =
      (s.served rq x).swapAnswered rq (if byObject then Op.write else op) byObject x.role at_ := by
  unfold serveSwap
  rw [serve_served h]
  rfl

theorem exec_swap {byObject : Bool} (h : Served (if byObject then Op.write else Op.swap) 0 rq x s) : exec (.swap rq byObject) s =
    .next ((s.served rq x).swapAnswered rq (if byObject then Op.write else Op.swap) byObject x.role none) :=
  congrArg Host.Outcome.next (serveSwap_served h)

theorem exec_swapAt {byObject : Bool} {e : Nat} (he : e < 2 ^ 64) (h : Served (if byObject then Op.write else Op.swapAt) 0 rq x s) :
    exec (.swapAt rq byObject e) s =
      .next ((s.served rq x).swapAnswered rq (if byObject then Op.write else Op.swapAt) byObject x.role (some e)) := by
  change Host.Outcome.next (serveSwap Op.swapAt byObject (some (e % 2 ^ 64)) rq s) = _
  rw [Nat.mod_eq_of_lt he, serveSwap_served h]

end

theorem State.swapAnswered_rejected {s : State} {role : Nat} {at_ : Option Nat} {code : Nat} {st : Status}
    (h : s.swapFault role at_ = some (code, st)) (rq : Rq) (op : Nat) (byObject : Bool) :
    s.swapAnswered rq op byObject role at_ = (s.setObj Obj.SHD_REJECT code).deliver rq op st [] := by
  unfold State.swapAnswered
  rw [State.requestSwap_rejected h]
  simp

/-! ## The statement -/

/-- Settles O35: the first check that fails answers, and a request that passes all of them waits for its boundary. -/
theorem swapRequestsAreChecked : Obligations.SwapRequestsAreChecked := by
  intro rq x byObject at_ op c s hc h u state compile reject calm compiled timely
  have hstate : u.obj Obj.SHD_STATE = state := s.obj_served_ne rq x (by simp)
  have hcompile : u.obj Obj.PRISM_COMPILE_STATE = compile := s.obj_served_ne rq x (by simp)
  have hgeneration : u.obj Obj.SHD_GENERATION = s.obj Obj.SHD_GENERATION := s.obj_served_ne rq x (by simp)
  have htick : u.tick = s.tick := s.tick_served rq x
  have hepoch : u.epoch = s.epoch := congrArg (· / 32) htick
  have hload : u.load = s.load := s.load_served rq x
  have hauto : u.autoLoad = s.autoLoad := s.autoLoad_served rq x
  have hexec : exec c s = .next (u.swapAnswered rq op byObject x.role at_) := by
    rcases hc with hc | ⟨e, he, hc⟩
    · obtain ⟨rfl, rfl, rfl⟩ : op = _ ∧ at_ = _ ∧ c = _ := by simpa using hc
      exact exec_swap h
    · obtain ⟨rfl, rfl, rfl⟩ : op = _ ∧ at_ = _ ∧ c = _ := by simpa using hc
      exact exec_swapAt he h
  have hreject : ∀ {code st}, u.swapFault x.role at_ = some (code, st) → reject code st := fun hf =>
    hexec.trans (congrArg Host.Outcome.next (State.swapAnswered_rejected hf rq op byObject))
  have hopen : calm → compiled → u.takesSwap x.role := fun hcalm hcomp => by
    rw [State.takesSwap, hstate, hcompile]; exact ⟨hcalm, hcomp⟩
  have hreach : timely → u.reachesEpoch at_ := fun ht => by
    simpa only [State.reachesEpoch, htick, hepoch, hload, hauto] using ht
  have hfits : calm → compiled → timely → u.swapFault x.role at_ = u.fitFault := fun hcalm hcomp ht =>
    State.swapFault_reached (hopen hcalm hcomp) (hreach ht)
  refine ⟨fun hr => hreject (State.swapFault_role hr), fun hr hw => hreject (State.swapFault_waits hr (hstate ▸ hw)),
    fun hr hs => hreject (State.swapFault_syncing hr (hstate.trans hs)), fun ⟨hr, h2, h3, h4⟩ hcomp => ?_, fun e hat hcalm hcomp => ?_,
    fun hcalm hcomp ht hline => ?_, fun hcalm hcomp ht hline hobj => ?_, fun hcalm hcomp ht hline hobj => ?_⟩
  · rw [← hstate] at h2 h3 h4
    exact hreject (State.swapFault_compile hr h2 h3 h4 (by rw [hcompile]; exact hcomp))
  · subst hat
    have hfault := State.swapFault_open (at_ := some e) (hopen hcalm hcomp)
    simp only [htick, hepoch, hload, hauto] at hfault
    refine ⟨fun hnear => ?_, fun hnear hfar => ?_, fun hnear hfar hl => ?_⟩
    · exact hreject (hfault.trans (if_pos hnear))
    · rw [if_neg (Nat.not_lt.mpr hnear), if_pos hfar] at hfault
      exact hreject hfault
    · rw [if_neg (Nat.not_lt.mpr hnear), if_neg (Nat.not_lt.mpr hfar), if_pos hl] at hfault
      exact hreject hfault
  · exact hreject ((hfits hcalm hcomp ht).trans (by simp [State.fitFault, hline]))
  · exact hreject ((hfits hcalm hcomp ht).trans (by simp [State.fitFault, hline, hobj]))
  · intro boundary
    have hnone : u.swapFault x.role at_ = none := (hfits hcalm hcomp ht).trans (by simp [State.fitFault, hline, hobj])
    have haim : u.swapAim at_ = boundary := by
      cases at_ with
      | none => exact congrArg (fun n => (n + 2 + 31) / 32 * 32) htick
      | some e => rfl
    obtain ⟨hpending, hswap, hshadow, hobjs, hframe⟩ := u.acceptSwap_spec at_
    rw [haim] at hswap hshadow
    rw [htick, hstate, s.now_served rq x, s.shadow_served rq x] at hshadow
    refine ⟨u.acceptSwap at_, ?_, hpending, hswap, hshadow, hobjs, hframe⟩
    rw [hexec, State.swapAnswered, State.requestSwap_accepted hnone, hswap, hgeneration]

end Sys2Proof.Machine
end

section
/-! PROOFS. Swaps: the set that a swap installs, and what its other work leaves alone. -/

namespace Sys2Proof

variable {α : Type}

theorem Map.get_of_above (d : α) (m : Map α) {k : Key} (h : Map.above k m = true) : Map.get d m k = d := by
  induction m with
  | nil => rfl
  | cons e m ih =>
    simp only [Map.above, Bool.and_eq_true] at h
    have hne : e.1 ≠ k := fun he => by
      have hlt := h.1
      rw [he, Key.lt_irrefl] at hlt
      exact Bool.false_ne_true hlt
    exact (if_neg hne).trans (ih h.2)

/-- A table read where a filter drops every entry of the key. -/
theorem Map.get_filter_none (d : α) (p : Key × α → Bool) (m : Map α) {k : Key} (h : ∀ v, p (k, v) = false) :
    Map.get d (m.filter p) k = d := by
  induction m with
  | nil => rfl
  | cons e m ih =>
    by_cases he : e.1 = k
    · have hp : p e = false := by rw [← h e.2, ← he]
      rw [List.filter_cons_of_neg (by simp [hp]), ih]
    · cases hp : p e
      · rw [List.filter_cons_of_neg (by simp [hp]), ih]
      · rw [List.filter_cons_of_pos hp, Map.get, if_neg he, ih]

/-- The entries of a canonical table written over another one: a key reads as the first says, else as before. -/
theorem Map.get_foldl_set [DecidableEq α] (dflt : Key → α) (l : Map α) (m : Map α) (k : Key) (h : Map.wf dflt l = true) :
    Map.get (dflt k) (l.foldl (fun m e => Map.set (dflt e.1) m e.1 e.2) m) k = Map.get (Map.get (dflt k) m k) l k := by
  induction l generalizing m with
  | nil => rfl
  | cons e l ih =>
    simp only [Map.wf, Bool.and_eq_true] at h
    obtain ⟨⟨habove, -⟩, hl⟩ := h
    rw [List.foldl_cons, ih _ hl]
    by_cases he : e.1 = k
    · subst he
      rw [Map.get_set_same, Map.get_of_above _ _ habove, Map.get, if_pos rfl]
    · rw [Map.get_set_ne _ _ _ _ (Ne.symm he), Map.get, if_neg he]

end Sys2Proof

namespace Sys2Proof.Machine

/-! ## The set that a swap installs (R176, R195) -/

/-- A calendar in use keeps what the active set says; everything else is the shadow's. -/
theorem State.get_installed {s : State} (h : Canonical s) (k : Key) :
    Map.get (objDefault k) s.installed k = if s.calendarInUse k = true then s.active k else s.shadowed k := by
  obtain ⟨-, hact, -, -⟩ := h
  unfold State.installed
  rw [Map.get_foldl_set objDefault _ _ _ (Map.wf_filter _ _ _ hact)]
  split
  case isTrue hk =>
    rw [Map.get_filter _ _ _ fun _ => hk, Map.get_filter_none _ _ _ fun _ => by simp [hk]]
    rfl
  case isFalse hk =>
    rw [Map.get_filter_none _ (fun e => s.calendarInUse e.1) _ fun _ => Bool.eq_false_iff.mpr hk, Map.get_filter _ _ _ fun _ => by simp [hk]]
    rfl

/-! ## What follows a swap (R36, R256, R264, R268, R284, R407) -/

/-- `t` comes from `s` by what follows a swap: line changes, groups, keys, windows and POISON of promoted branches. The clock, the active set, the
placements, the swap and the objects of class 0x32 stay. -/
structure SwapFollows (s t : State) : Prop where
  frame : t = { s with reg := t.reg, defects := t.defects, changes := t.changes, prot := t.prot, sec := t.sec, pm := t.pm, stores := t.stores
                       prism := { s.prism with epochs := t.prism.epochs, poisonDue := t.prism.poisonDue }
                       shadow := { s.shadow with changes := t.shadow.changes, nextMove := t.shadow.nextMove } }
  obj : ∀ k, k.c = 0x32 → t.obj k = s.obj k

section
variable {r s t : State}

theorem SwapFollows.rfl : SwapFollows s s := ⟨Eq.refl _, fun _ _ => Eq.refl _⟩

theorem SwapFollows.trans (h : SwapFollows r s) (g : SwapFollows s t) : SwapFollows r t where
  frame := by rw [g.frame, h.frame]
  obj k hk := (g.obj k hk).trans (h.obj k hk)

theorem SwapFollows.foldl {α : Type} (f : State → α → State) (hf : ∀ (t : State) x, SwapFollows t (f t x)) (l : List α) (s : State) :
    SwapFollows s (l.foldl f s) := by
  induction l generalizing s with
  | nil => exact .rfl
  | cons x l ih => exact (hf s x).trans (ih _)

end

section
variable (s : State)

/-! Single updates -/

theorem State.setObj_swapFollows {k : Key} (v : Nat) (h : k.c ≠ 0x32) : SwapFollows s (s.setObj k v) :=
  ⟨rfl, fun _ hk => s.obj_setObj_ne v fun he => h (he ▸ hk)⟩

theorem State.raise_swapFollows (ev : EvRow) (xs : List Nat) : SwapFollows s (s.raise ev xs) := ⟨rfl, fun _ _ => rfl⟩

theorem State.noteRequest_swapFollows (g request : Nat) : SwapFollows s (s.noteRequest g request) := ⟨rfl, fun _ _ => rfl⟩

theorem State.setDefect_swapFollows (d i : Nat) (on : Bool) : SwapFollows s (s.setDefect d i on) where
  frame := by rw [State.setDefect_frame]
  obj k _ := s.obj_setDefect d i on k

theorem State.clear_swapFollows (d i : Nat) : SwapFollows s (s.clear d i) := s.setDefect_swapFollows d i false

theorem State.withProt_swapFollows (f : Protection → Protection) : SwapFollows s (s.withProt f) := ⟨rfl, fun _ _ => rfl⟩

theorem State.withSec_swapFollows (f : SecureLine → SecureLine) : SwapFollows s (s.withSec f) := ⟨rfl, fun _ _ => rfl⟩

theorem State.withPm_swapFollows (f : Pm → Pm) : SwapFollows s (s.withPm f) := ⟨rfl, fun _ _ => rfl⟩

theorem State.withStores_swapFollows (f : Stores → Stores) : SwapFollows s (s.withStores f) := ⟨rfl, fun _ _ => rfl⟩

theorem State.setChange_swapFollows (e x : Nat) (c : LineChange) : SwapFollows s (s.setChange e x c) := ⟨rfl, fun _ _ => rfl⟩

theorem State.freeChange_swapFollows (e x : Nat) : SwapFollows s (s.freeChange e x) := ⟨rfl, fun _ _ => rfl⟩

/-! Promoted branches and line changes -/

theorem State.promote_swapFollows (old : Map Nat) : SwapFollows s (s.promote old) := by
  refine SwapFollows.foldl _ (fun t p => ?_) _ s
  dsimp only
  split
  · exact ⟨rfl, fun _ _ => rfl⟩
  · exact .rfl

theorem State.startChange_swapFollows (old : Map Nat) (p : Nat × Nat) : SwapFollows s (s.startChange old p) := by
  unfold State.startChange
  extract_lets a c b e kept t x
  have ht : SwapFollows s t := by
    unfold t
    split
    · exact s.freeChange_swapFollows _ _
    · exact .rfl
  exact (ht.trans (t.setChange_swapFollows e _ x)).trans ⟨rfl, fun _ _ => rfl⟩

theorem State.dropFailed_swapFollows : SwapFollows s s.dropFailed := by
  refine SwapFollows.foldl _ (fun t p => ?_) _ s
  dsimp only
  split
  · exact t.freeChange_swapFollows _ _
  · exact .rfl

/-! Protection and merge groups -/

theorem State.publish_swapFollows (g : Nat) (old new : PgRun) : SwapFollows s (s.publish g old new) := by
  unfold State.publish
  extract_lets t change u v w
  have ht : SwapFollows s t := s.withProt_swapFollows _
  have hu : SwapFollows s u := by
    unfold u
    split
    · exact ht
    · exact (ht.trans (t.setObj_swapFollows _ (by simp))).trans (State.raise_swapFollows _ _ _)
  have hv : SwapFollows s v := by
    unfold v
    split
    · exact hu
    · exact hu.trans (u.raise_swapFollows _ _)
  have hw : SwapFollows s w := by
    unfold w
    split
    · exact hv.trans (v.noteRequest_swapFollows _ _)
    · exact hv
  exact hw.trans (w.withProt_swapFollows _)

theorem State.setFop_swapFollows (g cause : Nat) : SwapFollows s (s.setFop g cause) := by
  unfold State.setFop
  extract_lets r
  split
  · exact .rfl
  · exact ((s.withProt_swapFollows _).trans (State.setDefect_swapFollows _ _ _ _)).trans (State.raise_swapFollows _ _ _)

theorem State.setMm_swapFollows (m new : Nat) (early : Bool) (delta : Nat) : SwapFollows s (s.setMm m new early delta) := by
  unfold State.setMm
  extract_lets old cause t
  have ht : SwapFollows s t := s.setObj_swapFollows _ (by simp)
  split
  · exact ht
  · exact ht.trans (t.raise_swapFollows _ _)

theorem State.refreshMm_swapFollows (m : Nat) : SwapFollows s (s.refreshMm m) := by
  unfold State.refreshMm
  extract_lets st
  split
  · exact .rfl
  split
  · exact s.setMm_swapFollows _ _ _ _
  split
  · exact s.setMm_swapFollows _ _ _ _
  · exact .rfl

theorem State.resetGroup_swapFollows (old : Map Nat) (n : Nat) : SwapFollows s (s.resetGroup old n) := by
  unfold State.resetGroup
  extract_lets a t u v
  split
  · exact .rfl
  have hu : SwapFollows s u := ((s.setFop_swapFollows n 0).trans (t.publish_swapFollows _ _ _)).trans (State.withProt_swapFollows _ _)
  have hv : SwapFollows s v := (hu.trans (u.setObj_swapFollows _ (by simp))).trans (State.setObj_swapFollows _ _ (by simp))
  split
  · exact (hv.trans (v.withProt_swapFollows _)).trans (State.setMm_swapFollows _ _ _ _ _)
  · exact hv

theorem State.startMerge_swapFollows (old : Map Nat) (n : Nat) : SwapFollows s (s.startMerge old n) := by
  unfold State.startMerge
  extract_lets b
  split
  · exact ((s.withProt_swapFollows _).trans (State.setMm_swapFollows _ _ _ _ _)).trans (State.refreshMm_swapFollows _ _)
  · exact .rfl

theorem State.swapGroups_swapFollows (old : Map Nat) : SwapFollows s (s.swapGroups old) :=
  (SwapFollows.foldl _ (fun t n => t.resetGroup_swapFollows old n) _ s).trans (SwapFollows.foldl _ (fun t n => t.startMerge_swapFollows old n) _ _)

/-! Receive keys and measurement windows -/

theorem State.send_swapFollows (e : Nat) (m : KaMessage) : SwapFollows s (s.send e m) := ⟨rfl, fun _ _ => rfl⟩

theorem State.derive_receive_swapFollows (e ch : Nat) : SwapFollows s (s.derive e ch true) := by
  unfold State.derive
  extract_lets c present
  split
  · exact .rfl
  split
  · exact .rfl
  · simp only [if_true]
    exact (s.withSec_swapFollows _).trans (State.send_swapFollows _ _ _)

theorem State.deferKeys_swapFollows (e : Nat) (halves : List (Nat × Nat)) : SwapFollows s (s.deferKeys e halves) := by
  unfold State.deferKeys
  extract_lets t rail
  have ht : SwapFollows s t := SwapFollows.foldl _ (fun t _ => t.withSec_swapFollows _) _ s
  split
  · exact ht
  · exact (ht.trans (t.withSec_swapFollows _)).trans (State.raise_swapFollows _ _ _)

theorem State.keyWrite_receive_swapFollows (e ch : Nat) : SwapFollows s (s.keyWrite (.derive e ch true)) := by
  unfold State.keyWrite
  split
  · exact (s.withSec_swapFollows _).trans (State.deferKeys_swapFollows _ _ _)
  · exact s.derive_receive_swapFollows e ch

theorem State.swapReceive_swapFollows (old : Map Nat) : SwapFollows s (s.swapReceive old) := by
  refine (s.withSec_swapFollows _).trans (SwapFollows.foldl _ (fun t k => ?_) _ _)
  extract_lets a b underWay u
  have hu : SwapFollows t u := by
    unfold u
    split
    · exact (t.withSec_swapFollows _).trans (State.clear_swapFollows _ _ _)
    · exact .rfl
  split
  · exact hu.trans (u.keyWrite_receive_swapFollows _ _)
  · exact hu

theorem State.setSd_swapFollows (p : Nat) (on : Bool) (count code : Nat) : SwapFollows s (s.setSd p on count code) := by
  unfold State.setSd
  extract_lets old t
  have ht : SwapFollows s t := (s.setObj_swapFollows _ (by simp)).trans (State.setDefect_swapFollows _ _ _ _)
  split
  · exact ht
  · exact ht.trans (t.raise_swapFollows _ _)

theorem State.sdRestart_swapFollows (ps : List Nat) : SwapFollows s (s.sdRestart ps) := by
  refine SwapFollows.foldl _ (fun t p => ?_) _ s
  dsimp only
  split
  · exact (t.withPm_swapFollows _).trans (State.setSd_swapFollows _ _ _ _ _)
  · exact t.withPm_swapFollows _

theorem State.swapCtPages_swapFollows : SwapFollows s s.swapCtPages := ⟨rfl, fun _ _ => rfl⟩

end

/-! ## A swap (R250, R255, R257) -/

/-- A swap's objects written and its request gone, on a state that has exchanged the sets and promoted branches. -/
def State.swapNoted (t : State) (gen : Nat) (links : List Nat) : State :=
  (((t.setObj Obj.SHD_GENERATION gen).setObj Obj.SHD_LAST_SWAP_TICK t.tick).setObj Obj.SHD_SWAP_EPOCH (t.tick / 32)).withShadow fun h =>
    { h with swap := none, lastSwap := some t.now, expansionChanged := links }

/-- The active set and its placement as the swap makes them. -/
def State.setsSwapped (s : State) : State :=
  { s with act := s.installed }.withPrism fun p => { p with heldOld := p.held, held := p.heldShadow, connOld := s.act }

section
variable (s : State)

/-- A swap exchanges the sets, writes its objects, does what follows from it, starts SYNCING, and raises EV_SWAP. -/
theorem State.takeSwap_eq (q : SwapReq) : ∃ (t w : State) (links : List Nat),
    SwapFollows s.setsSwapped t ∧ SwapFollows (t.swapNoted ((s.obj Obj.SHD_GENERATION + 1) % 2 ^ 32) links) w ∧
      s.takeSwap q = w.startSync.raise Ev.SWAP [w.startSync.tick, (s.obj Obj.SHD_GENERATION + 1) % 2 ^ 32, q.scheduled.toNat] := by
  unfold State.takeSwap
  generalize (s.obj Obj.SHD_GENERATION + 1) % 2 ^ 32 = gen
  extract_lets old starts changed _ points profiles remotes gone t u v w w1 w2 x
  have hv : SwapFollows u v :=
    (SwapFollows.foldl _ (fun v p => v.startChange_swapFollows old p) starts u).trans (State.dropFailed_swapFollows _)
  have hw : SwapFollows u w := hv.trans (v.swapGroups_swapFollows old)
  have hw1 : SwapFollows u w1 := hw.trans (SwapFollows.foldl _ (fun w p => w.clear_swapFollows Df.fff p.1) gone w)
  have hw2 : SwapFollows u w2 := hw1.trans (w1.withProt_swapFollows _)
  have hkeys : SwapFollows u (w2.swapReceive old) := hw2.trans (w2.swapReceive_swapFollows old)
  have hpages := (hkeys.trans (State.sdRestart_swapFollows _ profiles)).trans (State.swapCtPages_swapFollows _)
  exact ⟨t, _, changed, State.promote_swapFollows _ old, hpages, rfl⟩

theorem State.tick_startSync : s.startSync.tick = s.tick := rfl

/-- SYNCING starts from the active set and its placement. -/
theorem State.startSync_spec :
    let t := s.startSync
    t.act = s.act ∧ t.shd = s.act ∧ t.prism.held = s.prism.held ∧ t.prism.heldShadow = s.prism.held ∧ t.prism.dirty = [] ∧
      t.obj Obj.SHD_STATE = 4 ∧ t.obj Obj.SHD_EDITS = 0 ∧ t.obj Obj.PRISM_COMPILE_STATE = 0 ∧
      (∀ k, k ≠ Obj.SHD_STATE → k ≠ Obj.SHD_EDITS → k ≠ Obj.PRISM_COMPILE_STATE → t.obj k = s.obj k) ∧
      t.shadow = { s.shadow with
        sync := some { start := s.now, length := syncLength (sortNat s.prism.changed), blocks := sortNat s.prism.changed, regenerated := 0 } } := by
  refine ⟨rfl, rfl, rfl, rfl, rfl, ?_, ?_, ?_, fun k hstate hedits hcompile => ?_, rfl⟩
  · simp [State.startSync, State.healShadowCt]
  · simp [State.startSync, State.healShadowCt]
  · simp [State.startSync, State.healShadowCt]
  · simp [State.startSync, State.healShadowCt, hstate, hedits, hcompile]

end

end Sys2Proof.Machine
end

section
/-! PROOFS. Swaps at their boundary, cancelled, deferred and abandoned; SHD_REVERT and SYNCING. -/

namespace Sys2Proof.Machine

@[simp] theorem State.obj_opened (s : State) (k : Key) : s.opened.obj k = s.obj k := rfl

/-- A state with another clock holds the same objects. -/
theorem State.obj_clock (s : State) (now tick : Nat) (k : Key) : ({ s with now, tick } : State).obj k = s.obj k := rfl

/-! ## The boundary of a swap (R250, R255, R257, R269) -/

section
variable {s t : State}

theorem SwapFollows.now (h : SwapFollows s t) : t.now = s.now := by rw [h.frame]
theorem SwapFollows.tick (h : SwapFollows s t) : t.tick = s.tick := by rw [h.frame]
theorem SwapFollows.act (h : SwapFollows s t) : t.act = s.act := by rw [h.frame]
theorem SwapFollows.held (h : SwapFollows s t) : t.prism.held = s.prism.held := by rw [h.frame]
theorem SwapFollows.changed (h : SwapFollows s t) : t.prism.changed = s.prism.changed := by rw [h.frame]
theorem SwapFollows.swap (h : SwapFollows s t) : t.shadow.swap = s.shadow.swap := by rw [h.frame]
theorem SwapFollows.lastSwap (h : SwapFollows s t) : t.shadow.lastSwap = s.shadow.lastSwap := by rw [h.frame]

end

section
variable (s : State)

/-- What a swap that takes effect shows: the sets, the placement, its objects, and SYNCING. -/
theorem State.takeSwap_spec {q : SwapReq} {t : State} (ht : s.takeSwap q = t) :
    (t.act = s.installed ∧ t.shd = s.installed ∧ t.prism.held = s.prism.heldShadow ∧ t.prism.dirty = []) ∧
      (t.obj Obj.SHD_STATE = 4 ∧ t.obj Obj.SHD_EDITS = 0 ∧ t.obj Obj.SHD_GENERATION = (s.obj Obj.SHD_GENERATION + 1) % 2 ^ 32 ∧
        t.obj Obj.SHD_LAST_SWAP_TICK = s.tick ∧ t.obj Obj.SHD_SWAP_EPOCH = s.tick / 32) ∧
      (t.shadow.swap = none ∧ t.shadow.lastSwap = some s.now ∧
        ∃ y, t.shadow.sync = some y ∧ y.start = s.now ∧ y.length = syncLength (sortNat s.prism.changed)) ∧
      ⟨Ev.SWAP.code, false, s.tick,
        contentOf Ev.SWAP.widths [s.tick, (s.obj Obj.SHD_GENERATION + 1) % 2 ^ 32, q.scheduled.toNat]⟩ ∈ t.changes := by
  obtain ⟨v, w, links, hv, hw, heq⟩ := s.takeSwap_eq q
  generalize (s.obj Obj.SHD_GENERATION + 1) % 2 ^ 32 = gen at hw heq ⊢
  obtain rfl : t = _ := ht.symm.trans heq
  have hact : w.act = s.installed := hw.act.trans hv.act
  have hheld : w.prism.held = s.prism.heldShadow := hw.held.trans hv.held
  have hchanged : w.prism.changed = s.prism.changed := hw.changed.trans hv.changed
  have htick : w.startSync.tick = s.tick := w.tick_startSync.trans (hw.tick.trans hv.tick)
  obtain ⟨hsact, hsshd, hsheld, -, hsdirty, hstate, hedits, -, hobj, hshadow⟩ := w.startSync_spec
  have hnoted : ∀ k, k.c = 0x32 → k ≠ Obj.SHD_STATE → k ≠ Obj.SHD_EDITS → w.startSync.obj k = (v.swapNoted gen links).obj k :=
    fun k hk hne hne' => (hobj k hne hne' fun he => absurd (he ▸ hk) (by decide)).trans (hw.obj k hk)
  refine ⟨⟨hsact.trans hact, hsshd.trans hact, hsheld.trans hheld, hsdirty⟩, ⟨hstate, hedits, ?_, ?_, ?_⟩, ⟨?_, ?_, ?_⟩, ?_⟩
  · exact (hnoted _ rfl (by simp) (by simp)).trans (by simp [State.swapNoted])
  · exact (hnoted _ rfl (by simp) (by simp)).trans (by simp [State.swapNoted, hv.tick, State.setsSwapped])
  · exact (hnoted _ rfl (by simp) (by simp)).trans (by simp [State.swapNoted, hv.tick, State.setsSwapped])
  · exact (congrArg Shadow.swap hshadow).trans hw.swap
  · exact ((congrArg Shadow.lastSwap hshadow).trans hw.lastSwap).trans (congrArg some hv.now)
  · exact ⟨_, congrArg Shadow.sync hshadow, hw.now.trans hv.now, by rw [hchanged]⟩
  · exact htick ▸ List.mem_append_right _ (List.mem_singleton_self _)

/-- A swap that a supply warning defers. -/
def State.deferSwap (s : State) (q : SwapReq) : State :=
  let rail := ((List.range 12).find? fun r => bit (s.obj Obj.PWR_WARN_ACTIVE) r).getD 0
  (((s.setObj Obj.SHD_STATE 3).bump Obj.SHD_DEFER_COUNT).withShadow fun h => { h with
    swap := some { q with due := none, deferredAt := some (q.deferredAt.getD s.now) } }).raise Ev.SWAP_DEFERRED [rail, q.epoch]

/-- A swap that is deferred changes SHD_STATE, the count of deferrals and the waiting request. -/
theorem State.deferSwap_spec (q : SwapReq) :
    let t := s.deferSwap q
    t.obj Obj.SHD_STATE = 3 ∧ t.obj Obj.SHD_DEFER_COUNT = u64 (s.obj Obj.SHD_DEFER_COUNT + 1) ∧
      ∀ k, k ≠ Obj.SHD_STATE → k ≠ Obj.SHD_DEFER_COUNT → t.obj k = s.obj k := by
  refine ⟨?_, ?_, fun k hstate hcount => ?_⟩
  · simp [State.deferSwap]
  · simp [State.deferSwap]
  · simp [State.deferSwap, hstate, hcount]

variable {s} {q : SwapReq} {d : Nat}

theorem State.swapComes_iff (hq : s.shadow.swap = some q) (hd : q.due = some d) : s.swapComes = decide (d ≤ s.now + 1) := by
  simp [State.swapComes, hq, hd]

/-- The swap whose boundary has come takes effect unless a supply warning defers it. -/
theorem State.swapBoundary_due (hq : s.shadow.swap = some q) (hd : q.due = some d) (h : d ≤ s.now) : s.swapBoundary =
    if s.obj Obj.PWR_WARN_ACTIVE ≠ 0 ∧ ¬ (q.scheduled = true ∧ expansionDiffers s.act s.shd = true) then s.deferSwap q else s.takeSwap q := by
  unfold State.swapBoundary
  simp only [hq, hd, h, decide_true, not_true_eq_false, if_false, State.keysHeld, decide_eq_true_eq]
  rfl

theorem exec_swapTakeEffect_early {u : State} (hu : u = s.closeTick) (hq : u.shadow.swap = some q) (hd : q.due = some d) (h : u.now + 1 < d) :
    exec .swapTakeEffect s = .next s := by
  subst hu
  have hno : ¬ s.closeTick.swapComes = true := by rw [State.swapComes_iff hq hd]; simpa using h
  exact congrArg Host.Outcome.next (if_neg hno)

/-- At its boundary the swap acts in the tick that the boundary opens. -/
theorem exec_swapTakeEffect_due {u : State} (hu : u = s.closeTick) (hq : u.shadow.swap = some q) (hd : q.due = some d) (h : d ≤ u.now + 1) :
    exec .swapTakeEffect s = .next { u.opened.swapBoundary with now := u.now, tick := u.tick } := by
  have hcomes : u.swapComes = true := by rw [State.swapComes_iff hq hd]; exact decide_eq_true h
  exact congrArg Host.Outcome.next (State.comingPart_due hu hcomes _)

end

/-! ## Cancelled and abandoned swaps, SHD_REVERT (R250, R254, R271 to R273) -/

section
variable {s : State}

theorem State.cancelSwap_none (h : s.shadow.swap = none) : s.cancelSwap =
    (if ∃ n, s.shadow.lastSwap = some n ∧ s.now ≤ n then .deadline else .precond, s) := by
  unfold State.cancelSwap
  simp only [h, Option.any_eq_true, decide_eq_true_eq]

variable {q : SwapReq}

theorem State.cancelSwap_late (hq : s.shadow.swap = some q) (hstate : s.obj Obj.SHD_STATE = 2) (h : ∃ d, q.due = some d ∧ d < s.now + 2) :
    s.cancelSwap = (.deadline, s) := by
  obtain ⟨d, hd, hlate⟩ := h
  unfold State.cancelSwap
  simp only [hq, hd, hstate, hlate, decide_true, and_self, if_true]

/-- A swap that is withdrawn. -/
theorem State.cancelSwap_done (hq : s.shadow.swap = some q) (h : s.obj Obj.SHD_STATE ≠ 2 ∨ ∀ d, q.due = some d → s.now + 2 ≤ d) :
    s.cancelSwap = (.ok, ((((s.setObj Obj.SHD_STATE q.back).setObj Obj.SHD_SWAP_EPOCH (s.obj Obj.SHD_LAST_SWAP_TICK / 32)).withShadow fun h =>
      { h with swap := none }).raise Ev.SWAP_CANCELLED [q.epoch])) := by
  unfold State.cancelSwap
  simp only [hq]
  refine (if_neg ?_).trans ?_
  · rintro ⟨hstate, hlate⟩
    cases hd : q.due with
    | none => simp [hd] at hlate
    | some d =>
      simp only [hd, decide_eq_true_eq] at hlate
      exact h.elim (absurd hstate) fun h => Nat.not_le.mpr hlate (h d hd)
  · rw [State.lastEpoch, (s.obj_setObj_ne q.back (by simp) : (s.setObj Obj.SHD_STATE q.back).obj Obj.SHD_LAST_SWAP_TICK = _)]

variable {d : Nat}

theorem State.abandonSwap_early (hq : s.shadow.swap = some q) (hd : q.deferredAt = some d) (h : s.now < d + 32 * s.obj Obj.SHD_DEFER_LIMIT) :
    s.abandonSwap = s := by
  unfold State.abandonSwap
  simp only [hq, hd, if_pos h]

theorem State.abandonSwap_due (hq : s.shadow.swap = some q) (hd : q.deferredAt = some d) (h : d + 32 * s.obj Obj.SHD_DEFER_LIMIT ≤ s.now) :
    s.abandonSwap = ((s.setObj Obj.SHD_STATE q.back).lastEpoch.withShadow fun h => { h with swap := none }).raise Ev.SWAP_ABANDONED
      [(s.now - d) / 32] := by
  unfold State.abandonSwap
  simp only [hq, hd, if_neg (Nat.not_lt.mpr h)]

theorem exec_swapAbandon_early (hq : s.shadow.swap = some q) (hd : q.deferredAt = some d) (h : s.now + 1 < d + 32 * s.obj Obj.SHD_DEFER_LIMIT) :
    exec .swapAbandon s = .next s :=
  congrArg Host.Outcome.next (State.atBoundary_unchanged (State.abandonSwap_early (s := s.opened) hq hd h))

theorem exec_swapAbandon_due (hq : s.shadow.swap = some q) (hd : q.deferredAt = some d)
    (h : d + 32 * s.obj Obj.SHD_DEFER_LIMIT ≤ s.now + 1) :
    ∃ t : State, exec .swapAbandon s = .next t ∧ t.obj Obj.SHD_STATE = q.back ∧
      t.obj Obj.SHD_SWAP_EPOCH = s.obj Obj.SHD_LAST_SWAP_TICK / 32 ∧ t.shadow = { s.shadow with swap := none } ∧ t.act = s.act ∧ t.shd = s.shd := by
  have hrun := State.atBoundary_of_opened (State.abandonSwap_due (s := s.opened) hq hd h)
  refine ⟨_, congrArg Host.Outcome.next hrun, (State.obj_clock _ _ _ _).trans ?_, (State.obj_clock _ _ _ _).trans ?_, rfl, rfl, rfl⟩
  · simp [State.lastEpoch]
  · simp [State.lastEpoch]

end

theorem State.compiling_served (s : State) (rq : Rq) (x : Sender) : (s.served rq x).compiling = s.compiling := by
  simp only [State.compiling, State.waits, State.prism_served, State.agenda_served]

theorem State.revert_syncing {s : State} (h : s.obj Obj.SHD_STATE = 4) : s.revert = (.shadowBusy, s) := if_pos h

theorem State.revert_free {s : State} (h : s.obj Obj.SHD_STATE < 2) (hcompile : s.compiling = false) (hrollback : s.prism.rollback = none) :
    s.revert = (.ok, s.startSync) := by
  have h4 : ¬ s.obj Obj.SHD_STATE = 4 := by omega
  have h2 : ¬ (2 ≤ s.obj Obj.SHD_STATE ∨ s.compiling = true ∨ s.prism.rollback.isSome = true) := by
    simp [hcompile, hrollback, h]
  exact (if_neg h4).trans (if_neg h2)

section
variable {rq : Rq} {x : Sender} {s t : State} {st : Status}

theorem exec_prismSwapCancel (h : Accepted rq x Obj.PRISM_SWAP_CANCEL ⟨2, 1⟩ ⟨2, 1⟩ s) (g : (s.served rq x).cancelSwap = (st, t)) :
    exec (.prismSwapCancel rq) s = .next (t.deliver rq Op.write st []) :=
  congrArg Host.Outcome.next (serveWrite_refused h acceptShadowSet g)

theorem exec_shdRevert (h : Accepted rq x Obj.SHD_REVERT ⟨2, 1⟩ ⟨2, 1⟩ s) (g : (s.served rq x).revert = (st, t)) :
    exec (.shdRevert rq) s = .next (t.deliver rq Op.write st []) :=
  congrArg Host.Outcome.next (serveWrite_refused h acceptShadowSet g)

end

/-! ## SYNCING (R257 to R259) -/

/-- Blocks whose regeneration is over. -/
def Sync.placed (y : Sync) (now : Nat) : List Nat := (y.writing.filter fun w => decide (w.2 ≤ now)).map (·.1)

/-- Regenerated blocks put in place in both banks. -/
def State.placeBlocks (s : State) (bs : List Nat) : State :=
  bs.foldl (fun t b => ((t.setPage 0 (s.cmPage true b) {}).setPage 0 (s.cmPage false b) {}).bump (Obj.SIO_REGEN 0)) s

/-- Blocks that the copy engine has reached and can read. -/
def State.copyable (s : State) (y : Sync) : List Nat :=
  y.blocks.filter fun b => !y.copied.contains b && !(y.writing.any fun w => decide (w.1 = b)) &&
    decide (copiedAfter y.blocks b ≤ s.now - y.start) && !s.cmBadBlocks.contains b

/-- SYNCING after the copy engine has worked. -/
def State.syncStep (s : State) (y : Sync) : Sync :=
  { y with copied := y.copied ++ y.placed s.now ++ s.copyable y, writing := y.writing.filter fun w => decide (s.now < w.2) }

section
variable {s : State} {y : Sync}

theorem State.copyEngine_eq (h : s.shadow.sync = some y) :
    s.copyEngine = (s.placeBlocks (y.placed s.now)).withShadow fun h => { h with sync := some (s.syncStep y) } := by
  unfold State.copyEngine
  simp only [h]
  rfl

theorem State.sync_copyEngine (h : s.shadow.sync = some y) : s.copyEngine.shadow.sync = some (s.syncStep y) := by
  rw [State.copyEngine_eq h]
  rfl

theorem Sync.placed_of_idle (h : y.writing = []) (now : Nat) : y.placed now = [] := by
  simp [Sync.placed, h]

theorem Sync.placed_due {b due now : Nat} (h : y.writing = [(b, due)]) (hd : due ≤ now) : y.placed now = [b] := by
  simp [Sync.placed, h, hd]

theorem State.not_bad_of_mem_copyable {b : Nat} (hb : b ∈ s.copyable y) : b ∉ s.cmBadBlocks := fun hbad => by
  simp [State.copyable, hbad] at hb

/-- With no block under regeneration, what is newly copied is not uncorrectable. -/
theorem State.mem_copied_syncStep (hw : y.writing = []) {b : Nat} (hb : b ∈ (s.syncStep y).copied) : b ∈ y.copied ∨ b ∉ s.cmBadBlocks := by
  rw [State.syncStep, Sync.placed_of_idle hw, List.append_nil] at hb
  exact (List.mem_append.mp hb).imp_right State.not_bad_of_mem_copyable

/-- A block whose regeneration is over is in place in both banks, and counted. -/
theorem State.copyEngine_places {b due : Nat} (h : s.shadow.sync = some y) (hw : y.writing = [(b, due)]) (hd : due ≤ s.now) :
    ∃ y', s.copyEngine.shadow.sync = some y' ∧ b ∈ y'.copied ∧ y'.writing = [] ∧
      s.copyEngine.obj (Obj.SIO_REGEN 0) = u64 (s.obj (Obj.SIO_REGEN 0) + 1) ∧
      ∀ active : Bool, (s.copyEngine.page 0 (s.cmPage active b)).bad = false := by
  have hplaced := Sync.placed_due hw hd
  refine ⟨_, State.sync_copyEngine h, ?_, ?_, ?_, fun active => ?_⟩
  · simp [State.syncStep, hplaced]
  · simp [State.syncStep, hw, Nat.not_lt.mpr hd]
  · rw [State.copyEngine_eq h, hplaced]
    simp [State.placeBlocks]
  · rw [State.copyEngine_eq h, hplaced]
    cases active <;> simp [State.placeBlocks, State.page_setPage]

theorem State.syncEnd_waits (h : s.copyEngine.shadow.sync = some y)
    (hw : s.now < y.start + y.length ∨ ∃ b ∈ y.blocks, b ∉ y.copied) : s.syncEnd = s := by
  unfold State.syncEnd
  simp only [h]
  refine if_pos (hw.imp_right fun ⟨b, hb, hc⟩ => List.any_eq_true.mpr ⟨b, hb, by simpa using hc⟩)

theorem State.syncEnd_done (h : s.copyEngine.shadow.sync = some y) (hover : y.start + y.length ≤ s.now) (hc : ∀ b ∈ y.blocks, b ∈ y.copied) :
    s.syncEnd = ((s.copyEngine.setObj Obj.SHD_STATE 0).withShadow fun h => { h with sync := none }).raise Ev.SYNC_DONE
      [y.length, y.blocks.length - y.regenerated, y.regenerated] := by
  unfold State.syncEnd
  simp only [h]
  refine if_neg (not_or.mpr ⟨Nat.not_lt.mpr hover, ?_⟩)
  simpa using hc

theorem exec_syncDone_waits (h : s.opened.copyEngine.shadow.sync = some y)
    (hw : s.now + 1 < y.start + y.length ∨ ∃ b ∈ y.blocks, b ∉ y.copied) : exec .syncDone s = .next s :=
  congrArg Host.Outcome.next (State.atBoundary_unchanged (State.syncEnd_waits (s := s.opened) h hw))

theorem exec_syncDone_early (h : s.shadow.sync = some y) (hearly : s.now + 1 < y.start + y.length) : exec .syncDone s = .next s :=
  exec_syncDone_waits (State.sync_copyEngine (s := s.opened) h) (.inl hearly)

/-- SYNCING goes on while a changed block that the copy engine cannot read is neither copied nor regenerated. -/
theorem exec_syncDone_unread (h : s.shadow.sync = some y) (hw : y.writing = []) (hb : ∃ b ∈ y.blocks, b ∉ y.copied ∧ b ∈ s.cmBadBlocks) :
    exec .syncDone s = .next s := by
  obtain ⟨b, hblock, hcopied, hbad⟩ := hb
  refine exec_syncDone_waits (State.sync_copyEngine (s := s.opened) h) (.inr ⟨b, hblock, fun hmem => ?_⟩)
  exact (State.mem_copied_syncStep hw hmem).elim hcopied fun hread => hread hbad

theorem exec_syncDone_over (h : s.shadow.sync = some y) (hover : y.start + y.length ≤ s.now + 1) (hw : y.writing = [])
    (hc : ∀ b ∈ y.blocks, b ∈ y.copied) : ∃ t : State, exec .syncDone s = .next t ∧ t.obj Obj.SHD_STATE = 0 ∧ t.shadow.sync = none ∧
      t.changes = s.changes ++ [⟨Ev.SYNC_DONE.code, false, s.nextTick,
        contentOf Ev.SYNC_DONE.widths [y.length, y.blocks.length - y.regenerated, y.regenerated]⟩] := by
  have hend := State.syncEnd_done (State.sync_copyEngine (s := s.opened) h) hover fun b hb =>
    List.mem_append_left _ (List.mem_append_left _ (hc b hb))
  rw [State.copyEngine_eq (s := s.opened) h, Sync.placed_of_idle hw] at hend
  exact ⟨_, congrArg Host.Outcome.next (State.atBoundary_of_opened hend), (State.obj_clock _ _ _ _).trans (by simp), rfl, rfl⟩

/-- BLOCK_REGENERATE by what SYNCING has done with the block. -/
theorem exec_blockRegenerate (h : s.shadow.sync = some y) (page : Fin 32) (block : Fin 245) (ticks : Nat) :
    let b := 245 * page.val + block.val
    let d := max 1 (min ticks 20)
    exec (.blockRegenerate page block ticks) s = .next (
      if b ∈ s.cmBadBlocks ∧ b ∈ y.blocks ∧ b ∉ y.copied ∧ (∀ w ∈ y.writing, w.1 ≠ b) ∧ y.start + 4 ≤ s.now then
        s.withShadow fun h => { h with sync := some { y with
          length := y.length + d, regenerated := y.regenerated + 1, writing := y.writing ++ [(b, s.now + d)] } }
      else s) := by
  have hfree : ∀ b, (¬ (y.writing.any fun w => decide (w.1 = b)) = true) ↔ ∀ w ∈ y.writing, w.1 ≠ b := fun b => by
    simp only [List.any_eq_true, decide_eq_true_eq, not_exists, not_and, ne_eq]
  intro b d
  change execBlockRegenerate page block ticks s = _
  unfold execBlockRegenerate
  simp only [h, List.contains_iff_mem, hfree]
  split <;> rfl

end

/-! ## The statement -/

/-- Settles O36: a swap at its boundary by whether a supply warning stands, its cancellation, its end after too long a wait, SHD_REVERT, and SYNCING
by what the copy engine has left. -/
theorem swapsTakeEffectOrNot : Obligations.SwapsTakeEffectOrNot := by
  intro s
  refine ⟨fun u q d hu hq hd => ⟨exec_swapTakeEffect_early hu hq hd, fun hdue hcalm => ?_, fun hdue hwarn hlocal => ?_⟩,
    fun rq x h => ?_, fun q d hq hd => ⟨exec_swapAbandon_early hq hd, exec_swapAbandon_due hq hd⟩, fun rq x h => ?_,
    fun y hy => ⟨exec_syncDone_early hy, exec_syncDone_unread hy, exec_syncDone_over hy, fun b due => State.copyEngine_places hy,
      fun page block ticks => ?_⟩⟩
  · have hrun := exec_swapTakeEffect_due hu hq hd hdue
    rw [State.swapBoundary_due (s := u.opened) hq hd hdue, if_neg fun hw => hw.1 hcalm] at hrun
    obtain ⟨⟨hact, hshd, hheld, hdirty⟩, ⟨hstate, hedits, hgen, htick, hepoch⟩, ⟨hswap, hlast, hsync⟩, hevent⟩ :=
      u.opened.takeSwap_spec rfl
    refine ⟨_, hrun, hact, hshd, fun hcan k => ?_, hheld, hdirty, hstate, hedits, hgen, htick, hepoch, hswap, hlast, hsync, hevent⟩
    exact (congrArg (Map.get (objDefault k) · k) hact).trans (State.get_installed hcan k)
  · have hrun := exec_swapTakeEffect_due hu hq hd hdue
    have hdefers : ¬ (q.scheduled = true ∧ expansionDiffers u.act u.shd = true) := fun ⟨hscheduled, hdiffers⟩ =>
      hlocal.elim (fun h => Bool.false_ne_true (h.symm.trans hscheduled)) fun h => Bool.false_ne_true (h.symm.trans hdiffers)
    rw [State.swapBoundary_due (s := u.opened) hq hd hdue, if_pos ⟨hwarn, hdefers⟩] at hrun
    obtain ⟨hstate, hcount, hobj⟩ := u.opened.deferSwap_spec q
    exact ⟨_, hrun, hstate, hcount, rfl, hobj, rfl⟩
  · intro u
    have hstate : u.obj Obj.SHD_STATE = s.obj Obj.SHD_STATE := s.obj_served_ne rq x (by simp)
    have hlast : u.obj Obj.SHD_LAST_SWAP_TICK = s.obj Obj.SHD_LAST_SWAP_TICK := s.obj_served_ne rq x (by simp)
    have hnow : u.now = s.now := s.now_served rq x
    have hshadow : u.shadow = s.shadow := s.shadow_served rq x
    rw [← hstate, ← hlast, ← hnow, ← hshadow]
    exact ⟨fun hnone => exec_prismSwapCancel h (State.cancelSwap_none hnone), fun q hq =>
      ⟨fun hpending hlate => exec_prismSwapCancel h (State.cancelSwap_late hq hpending hlate),
        fun hfree => exec_prismSwapCancel h (State.cancelSwap_done hq hfree)⟩⟩
  · intro u
    have hstate : u.obj Obj.SHD_STATE = s.obj Obj.SHD_STATE := s.obj_served_ne rq x (by simp)
    refine ⟨fun hsync => exec_shdRevert h (State.revert_syncing (hstate.trans hsync)), fun hfree hcompile hrollback => ?_⟩
    have hrevert := State.revert_free (hstate.trans_lt hfree) ((s.compiling_served rq x).trans hcompile)
      ((congrArg Prism.rollback (s.prism_served rq x)).trans hrollback)
    obtain ⟨hact, hshd, -, hheld, -, hsyncing, hedits, hcompiler, -, -⟩ := u.startSync_spec
    have hset : u.act = s.act := s.act_served rq x
    exact ⟨_, exec_shdRevert h hrevert, hshd.trans hset, hact.trans hset, hheld.trans (congrArg Prism.held (s.prism_served rq x)),
      hsyncing, hedits, hcompiler⟩
  · intro b d
    rw [exec_blockRegenerate hy]
    refine ⟨fun hb => congrArg Host.Outcome.next (if_pos hb), fun hb => congrArg Host.Outcome.next (if_neg ?_)⟩
    rintro ⟨hbad, hblock, hcopied, hwriting, hstart⟩
    rcases hb with h | h | h | ⟨w, hw, he⟩ | h
    · exact h hbad
    · exact h hblock
    · exact hcopied h
    · exact hwriting w hw he
    · omega

end Sys2Proof.Machine
end

section
/-! PROOFS. Line changes: the table of changes, and what messages, multiframes, the timeout and a retry do to it. -/

namespace Sys2Proof

/-- A key that the table does not hold is found right after it is put in. -/
theorem Map.find?_insert_same {α : Type} (m : Map α) {k : Key} (v : α) (h : ∀ e ∈ m, e.1 ≠ k) :
    (Map.insert m k v).find? (fun p => decide (p.1 = k)) = some (k, v) := by
  induction m with
  | nil => simp [Map.insert]
  | cons e m ih =>
    have he : e.1 ≠ k := h e List.mem_cons_self
    have hm : ∀ e ∈ m, e.1 ≠ k := fun e he => h e (List.mem_cons_of_mem _ he)
    unfold Map.insert
    split
    · simp
    · rw [List.find?_cons_of_neg (by simpa using he), ih hm]

theorem Map.find?_erase_same {α : Type} (m : Map α) (k : Key) : (Map.erase m k).find? (fun p => decide (p.1 = k)) = none :=
  List.find?_eq_none.mpr fun e he => by simpa using Map.erase_ne m k e he

theorem Map.find?_erase_ne {α : Type} (m : Map α) {k k' : Key} (h : k' ≠ k) :
    (Map.erase m k).find? (fun p => decide (p.1 = k')) = m.find? (fun p => decide (p.1 = k')) := by
  rw [Map.erase, List.find?_filter]
  congr 1
  funext e
  by_cases he : e.1 = k'
  · simp [he, h]
  · simp [he]

end Sys2Proof

namespace Sys2Proof.Machine

/-! ## The table of line changes (R264) -/

section
variable (s : State) (e x : Nat) (c : LineChange)

@[simp] theorem State.change_setChange_same : (s.setChange e x c).change e x = some c := by
  unfold State.change State.setChange
  rw [State.shadow_withShadow]
  dsimp only
  rw [Map.find?_insert_same _ _ (Map.erase_ne _ _)]
  rfl

@[simp] theorem State.change_freeChange_same : (s.freeChange e x).change e x = none := by
  unfold State.change State.freeChange
  rw [State.shadow_withShadow]
  dsimp only
  rw [Map.find?_erase_same]
  rfl

theorem State.change_freeChange_ne {x' : Nat} (h : x' ≠ x) : (s.freeChange e x).change e x' = s.change e x' := by
  have hk : changeKey e x' ≠ changeKey e x := by simpa [changeKey] using h
  unfold State.change State.freeChange
  rw [State.shadow_withShadow]
  dsimp only
  rw [Map.find?_erase_ne _ hk]

/-- A change that fails stays in its entry, with the cause. -/
@[simp] theorem State.change_failChange (cause : Nat) :
    (s.failChange e x c cause).change e x = some { c with state := 3, cause := cause, acked := false, commits := 0 } :=
  s.change_setChange_same e x _

@[simp] theorem State.change_finishChange : (s.finishChange e x c).change e x = none := s.change_freeChange_same e x

end

/-! ## Slot-move messages (R266 to R268) -/

section
variable {s : State} {e : Fin 4} {m : SmxMessage}

theorem exec_smxMessageReceive_unread (h : m.crcOk = false ∨ m.version ≠ 1 ∨ s.obj (Obj.OH_FFF_RX_ENABLE e) ≠ 1) :
    exec (.smxMessageReceive e m) s = .next s := by
  refine if_neg fun ⟨hcrc, hversion, henable⟩ => ?_
  rcases h with h | h | h
  · exact Bool.false_ne_true (h.symm.trans hcrc)
  · exact h hversion
  · exact h henable

theorem exec_smxMessageReceive_read (hcrc : m.crcOk = true) (hversion : m.version = 1) (henable : s.obj (Obj.OH_FFF_RX_ENABLE e) = 1) :
    exec (.smxMessageReceive e m) s = .next (s.receiveSmx (s.linkOf e) m) := if_pos ⟨hcrc, hversion, henable⟩

end

section
variable {s : State} {g : Nat} {m : SmxMessage}

/-- A REQ is judged and answered; the entry that it is acknowledged for, if any, takes its move and target. -/
theorem State.receiveSmx_request (ha : m.answer = false) (hop : m.op = 1) :
    ∃ f : Shadow → Shadow, s.receiveSmx g m = (s.withShadow f).answer g (s.judgeRequest g m).1 m.move m.target (s.judgeRequest g m).2.1 := by
  unfold State.receiveSmx
  simp only [ha, hop, Bool.false_eq_true, if_false, if_true]
  obtain ⟨op, cause, entry⟩ := s.judgeRequest g m
  cases entry with
  | none => exact ⟨id, rfl⟩
  | some entry => exact ⟨_, rfl⟩

/-- No connection received over the engine has the TPN: NAK 1 (R267). -/
theorem State.judgeRequest_unknown (h : ∀ p ∈ connsOf s.act, s.onEngine g p.2.src = true → p.2.srcTpn ≠ m.tpn) :
    s.judgeRequest g m = (4, 1, none) := by
  have hnone : (connsOf s.act).filter (fun p => s.onEngine g p.2.src && decide (p.2.srcTpn = m.tpn)) = [] :=
    List.filter_eq_nil_iff.mpr fun p hp => by simpa using h p hp
  unfold State.judgeRequest
  simp only [hnone]

variable {i : Nat} {c : LineChange}

/-- An answer to the only own move of the engine, by what it says. -/
theorem State.receiveSmx_answer (ha : m.answer = true) (hown : s.ownMoves g = [(i, c)]) (hmove : c.move = m.move) : s.receiveSmx g m =
    if m.op = 2 ∧ m.target = c.target ∧ c.state = 1 then s.setChange g i { c with acked := true }
    else if m.op = 4 then s.failChange g i c (if m.cause = 0 then 2 else min m.cause 4) else s := by
  unfold State.receiveSmx
  simp [ha, hown, hmove]

end

@[simp] theorem State.answers_answer (s : State) (g op move target cause : Nat) :
    Map.get none (s.answer g op move target cause).shadow.answers (Key.unit g) = some ⟨op, move, target, cause⟩ :=
  by simp [State.answer]

@[simp] theorem State.answers_lcrAnswer (s : State) (g op target cause : Nat) :
    Map.get none (s.lcrAnswer g op target cause).shadow.lcrAnswers (Key.unit g) = some ⟨op, 0, target, cause⟩ :=
  by simp [State.lcrAnswer]

/-! ## The own multiframe (R267) -/

/-- The own count of an engine's multiframes, before its moves act on it. -/
def State.countMultiframe (s : State) (g count : Nat) : State :=
  s.withShadow fun h => { h with multiframe := Map.set 0 h.multiframe (Key.unit g) (count % 65536) }

theorem State.multiframe_countMultiframe (s : State) (g count : Nat) :
    Map.get 0 (s.countMultiframe g count).shadow.multiframe (Key.unit g) = count % 65536 := Map.get_set_same _ _ _ _

/-- What a multiframe does to the only own move of an engine. -/
theorem State.beginMultiframe_own {s : State} {g i : Nat} {c : LineChange} (h : s.ownMoves g = [(i, c)]) (count : Nat) :
    let t := s.countMultiframe g count
    s.beginMultiframe g true count =
      if c.state = 2 ∧ c.target = count % 65536 then t.finishChange g i c
      else if c.state = 1 ∧ c.target = (count + 1) % 65536 then
        t.setChange g i (if c.acked then { c with state := 2 } else { c with target := (count + s.obj (Obj.SMX_LEAD g)) % 65536 })
      else t := by
  intro t
  have ht : t.ownMoves g = [(i, c)] := h
  change (t.ownMoves g).foldl _ t = _
  rw [ht, List.foldl_cons, List.foldl_nil]
  dsimp only
  cases c.acked <;> rfl

/-- Whatever a multiframe does to the only own move, it is counted. -/
theorem State.multiframe_beginMultiframe {s : State} {g i : Nat} {c : LineChange} (h : s.ownMoves g = [(i, c)]) (count : Nat) :
    Map.get 0 (s.beginMultiframe g true count).shadow.multiframe (Key.unit g) = count % 65536 := by
  have hcount := s.multiframe_countMultiframe g count
  rw [State.beginMultiframe_own h]
  split
  · exact hcount
  · split <;> exact hcount

/-! ## Resizes (R264, R265) -/

section
variable {s : State} {e : Fin 4} {m : LcrMessage} {i : Nat} {c : LineChange}

/-- A message about the only change of the engine, a resize that has begun. -/
theorem exec_lcrMessageReceive (h : s.changesOf (s.linkOf e) = [(i, c)]) (hkind : c.kind = 1) (htpn : c.tpn = m.tpn) (hstate : c.state ≠ 3)
    (hbegins : c.begins ≤ s.now) : exec (.lcrMessageReceive e m) s = .next (
      let g := s.linkOf e
      if m.nack then s.failChange g i c 6
      else if resizeSlots c = (m.add, m.first, m.count) then
        (s.setChange g i { c with acked := true, state := 2, target := m.multiframe }).lcrAnswer g 2 m.multiframe 0
      else s.lcrAnswer g 4 m.multiframe 2) := by
  have hmine : ((s.changesOf (s.linkOf e)).filter fun p =>
      decide (p.2.kind = 1) && decide (p.2.tpn = m.tpn) && decide (p.2.state ≠ 3) && decide (p.2.begins ≤ s.now)) = [(i, c)] := by
    simp [h, hkind, htpn, hstate, hbegins]
  change execLcrMessageReceive e m s = _
  unfold execLcrMessageReceive
  simp only [hmine]
  cases m.nack
  · by_cases hslots : resizeSlots c = (m.add, m.first, m.count) <;> simp [hslots]
  · rfl

end

theorem exec_lcrResizeMultiframe {s : State} {e : Fin 4} {i : Fin 16} {c : LineChange} (h : s.change (s.linkOf e) i = some c) (count : Nat) :
    exec (.lcrResizeMultiframe e i count) s = .next (
      if c.kind = 1 ∧ c.acked = true ∧ c.state ≠ 3 ∧ c.target = count then s.finishChange (s.linkOf e) i c else s) := by
  change execLcrResizeMultiframe e i count s = _
  unfold execLcrResizeMultiframe
  simp only [h]
  split <;> rfl

theorem exec_lineChgTimeout {s : State} {e : Fin 4} {i : Fin 16} {c : LineChange} (h : s.change (s.linkOf e) i = some c) (multiframes : Nat) :
    exec (.lineChgTimeout e i multiframes) s = .next (
      if c.state ≠ 3 ∧ s.obj (Obj.SMX_TIMEOUT (s.linkOf e)) ≤ multiframes then s.failChange (s.linkOf e) i c 5 else s) := by
  change execLineChgTimeout e i multiframes s = _
  unfold execLineChgTimeout
  simp only [h]
  split <;> rfl

/-! ## Retries (R268) -/

theorem State.linkOf_served (s : State) (rq : Rq) (x : Sender) (e : Nat) : (s.served rq x).linkOf e = s.linkOf e := by
  simp only [State.linkOf, State.bond, s.obj_served_ne rq x (k := Obj.TB_BOND_CFG) (by simp)]

theorem State.change_served (s : State) (rq : Rq) (x : Sender) (e i : Nat) : (s.served rq x).change e i = s.change e i := by
  simp only [State.change, State.shadow_served]

/-- A change that is tried again: RUNNING, unanswered, toward a new target. -/
def State.retried (s : State) (g : Nat) (c : LineChange) : LineChange :=
  { c with state := 1, cause := 0, acked := false, commits := 0
           target := (Map.get 0 s.shadow.multiframe (Key.unit g) + s.obj (Obj.SMX_LEAD g)) % 65536 }

theorem State.retried_served (s : State) (rq : Rq) (x : Sender) (g : Nat) (c : LineChange) : (s.served rq x).retried g c = s.retried g c := by
  simp only [State.retried, State.shadow_served, s.obj_served_ne rq x (k := Obj.SMX_LEAD g) (by simp)]

/-- A write of LINE_CHG_RETRY retries a failed change, and only that. -/
theorem acceptShadowSet_retry (e : Nat) (v : Val) (s : State) : acceptShadowSet (Obj.LINE_CHG_RETRY e) v s =
    match s.change (s.linkOf e) v.v with
    | some c => if c.state = 3 ∧ v.v < 16 then (.ok, s.setChange (s.linkOf e) v.v (s.retried (s.linkOf e) c)) else (.range, s)
    | none => (.range, s) := by
  have he : 0x100 + e - 0x100 = e := Nat.add_sub_cancel_left _ _
  unfold acceptShadowSet
  simp only [show (256 + e = 0) = False by simp, if_false, if_true, he]
  rfl

section
variable {rq : Rq} {x : Sender} {val v : Val} {s : State} {e : Fin 4}

theorem exec_lineChgRetry_failed {c : LineChange} (h : Accepted rq x (Obj.LINE_CHG_RETRY e) val v s)
    (hc : s.change (s.linkOf e) v.v = some c) (hstate : c.state = 3) (hv : v.v < 16) : exec (.lineChgRetry rq e val) s =
      .next (((s.served rq x).setChange (s.linkOf e) v.v (s.retried (s.linkOf e) c)).answered rq) := by
  refine congrArg Host.Outcome.next (serveWrite_accepted h acceptShadowSet ?_)
  rw [acceptShadowSet_retry, s.linkOf_served, s.change_served, hc]
  dsimp only
  rw [if_pos ⟨hstate, hv⟩, s.retried_served]

theorem exec_lineChgRetry_other (h : Accepted rq x (Obj.LINE_CHG_RETRY e) val v s)
    (hc : ∀ c, s.change (s.linkOf e) v.v = some c → c.state ≠ 3 ∨ 16 ≤ v.v) : exec (.lineChgRetry rq e val) s =
      .next ((s.served rq x).deliver rq Op.write .range []) := by
  refine congrArg Host.Outcome.next (serveWrite_refused h acceptShadowSet ?_)
  rw [acceptShadowSet_retry, s.linkOf_served, s.change_served]
  split
  case h_1 c hsome => exact if_neg fun ⟨hstate, hv⟩ => (hc c hsome).elim (absurd hstate) (Nat.not_le.mpr hv)
  case h_2 => rfl

end

/-! ## The statement -/

/-- Settles O37: each message, multiframe, timeout and retry by the entry of the line change that it finds. -/
theorem lineChangesFollowTheExchange : Obligations.LineChangesFollowTheExchange := by
  intro e s g
  refine ⟨fun m => ⟨exec_smxMessageReceive_unread, fun hcrc hversion henable ha hop => ?_, fun i c hcrc hversion henable ha hown hmove => ?_⟩,
    fun i c count hown => ?_, fun m i c h hkind htpn hstate hbegins => ?_, fun i c h => ⟨fun count hkind hacked hstate htarget => ?_,
    exec_lineChgTimeout h⟩, fun rq x val v h => ⟨fun c => exec_lineChgRetry_failed h, exec_lineChgRetry_other h⟩⟩
  · obtain ⟨f, hf⟩ := State.receiveSmx_request (s := s) (g := g) ha hop
    refine ⟨_, (exec_smxMessageReceive_read hcrc hversion henable).trans (congrArg Host.Outcome.next hf), rfl, State.answers_answer _ _ _ _ _ _,
      fun hnone => ?_⟩
    rw [State.answers_answer, State.judgeRequest_unknown hnone]
  · refine ⟨_, exec_smxMessageReceive_read hcrc hversion henable, fun hop htarget hstate => ?_,
      fun hop => ⟨if m.cause = 0 then 2 else min m.cause 4, ?_⟩⟩
    · rw [State.receiveSmx_answer ha hown hmove, if_pos ⟨hop, htarget, hstate⟩, State.change_setChange_same]
    · rw [State.receiveSmx_answer ha hown hmove, if_neg (by omega), if_pos hop, State.change_failChange]
  · refine ⟨_, rfl, State.multiframe_beginMultiframe hown count, fun hstate htarget => ?_, fun hstate htarget => ?_⟩
    · rw [State.beginMultiframe_own hown, if_pos ⟨hstate, htarget⟩]
      exact ⟨State.change_finishChange _ _ _ _, rfl⟩
    · rw [State.beginMultiframe_own hown, if_neg (by omega), if_pos ⟨hstate, htarget⟩, State.change_setChange_same]
  · refine ⟨_, exec_lcrMessageReceive h hkind htpn hstate hbegins, fun hnack => ?_, fun hnack hslots => ?_, fun hnack hslots => ?_⟩
    · simp only [hnack, if_true]
      exact State.change_failChange _ _ _ _ _
    · simp only [hnack, Bool.false_eq_true, if_false, if_pos hslots]
      exact ⟨State.change_setChange_same _ _ _ _, State.answers_lcrAnswer _ _ _ _ _⟩
    · simp only [hnack, Bool.false_eq_true, if_false, if_neg hslots]
      exact ⟨rfl, State.answers_lcrAnswer _ _ _ _ _⟩
  · refine ⟨_, (exec_lcrResizeMultiframe h count).trans (congrArg Host.Outcome.next (if_pos ⟨hkind, hacked, hstate, htarget⟩)),
      State.change_finishChange _ _ _ _, fun j hj => State.change_freeChange_ne _ _ _ hj⟩

end Sys2Proof.Machine
end

section
/-! PROOFS. A protection group by itself: the hold-off, the request that an evaluation comes to, and what the evaluation publishes. -/

namespace Sys2Proof.Machine

/-! ## The hold-off (R288) -/

theorem foldl_max_eq {l : List Nat} {b : Nat} (hmem : b ∈ l) (hle : ∀ x ∈ l, x ≤ b) : l.foldl max 0 = b := by
  rw [List.foldl_max, (List.max?_eq_some_iff).mpr ⟨hmem, hle⟩]
  simp

section
variable (r : PgRun) (present : List Nat) (ticks now : Nat)

theorem holdOff_frame : holdOff r present ticks now =
    { r with honoured := (holdOff r present ticks now).honoured, holdFrom := (holdOff r present ticks now).holdFrom } := by
  unfold holdOff
  split
  · rfl
  dsimp only
  split
  · rfl
  split
  · rfl
  split <;> rfl

@[simp] theorem request_holdOff : (holdOff r present ticks now).request = r.request := by rw [holdOff_frame]
@[simp] theorem own_holdOff : (holdOff r present ticks now).own = r.own := by rw [holdOff_frame]
@[simp] theorem selector_holdOff : (holdOff r present ticks now).selector = r.selector := by rw [holdOff_frame]
@[simp] theorem bridge_holdOff : (holdOff r present ticks now).bridge = r.bridge := by rw [holdOff_frame]
@[simp] theorem wtrFrom_holdOff : (holdOff r present ticks now).wtrFrom = r.wtrFrom := by rw [holdOff_frame]
@[simp] theorem dnr_holdOff : (holdOff r present ticks now).dnr = r.dnr := by rw [holdOff_frame]
@[simp] theorem pscFrom_holdOff : (holdOff r present ticks now).pscFrom = r.pscFrom := by rw [holdOff_frame]

/-- Only requests whose defect is present are honoured. -/
theorem honoured_holdOff_subset : (holdOff r present ticks now).honoured ⊆ present := by
  have hkept : r.honoured.filter present.contains ⊆ present := fun c hc => by simpa using (List.mem_filter.mp hc).2
  unfold holdOff
  split
  · exact List.Subset.refl _
  dsimp only
  split
  · exact hkept
  split
  · exact hkept
  split
  · exact List.Subset.refl _
  · exact hkept

/-- Once the hold-off has run, every request whose defect is present is honoured. -/
theorem mem_honoured_holdOff {h c : Nat} (hh : r.holdFrom = some h) (hover : h + ticks ≤ now) (hc : c ∈ present) :
    c ∈ (holdOff r present ticks now).honoured := by
  unfold holdOff
  split
  · exact hc
  dsimp only
  split
  case isTrue hnew => simpa [hc] using List.filter_eq_nil_iff.mp hnew c hc
  · simpa [hh, hover] using hc

theorem holdOff_nil : (holdOff r [] ticks now).honoured = [] := List.eq_nil_of_subset_nil (honoured_holdOff_subset r [] ticks now)

end

/-! ## The local request of a group without command and with a sound protect copy (R286, R289, R310) -/

section
variable {r : PgRun} {v : BusView} {g : Group} {hold now far : Nat} {aps : Bool} {x : PgRun × Nat}
  (hx : localRequest v g 0 hold now aps far r = x) (hsf : v.sf g g.pointP = false)
include hx hsf

/-- A signal fail of the working copy has lasted the hold-off, and no request lies above it (R286, R288). -/
theorem localRequest_signalFail {h : Nat} (hh : r.holdFrom = some h) (hover : h + g.holdOff ≤ now) (hw : v.sf g g.pointW = true) : x.2 = 8 := by
  subst hx
  unfold localRequest
  extract_lets sfW sdW sfP sdP present r' alert pscFrom ended cleared wait wtrFrom dnr exerDone asked best
  have hpresent : 8 ∈ present ∧ present ⊆ [8, 7] := by
    simp only [present, sfP, sfW, hsf, hw, Bool.false_eq_true, if_false, if_true]
    split <;> simp
  have hmem : 8 ∈ r'.honoured := mem_honoured_holdOff _ _ _ _ hh hover hpresent.1
  have hle : ∀ c ∈ r'.honoured, c ≤ 8 := fun c hc => by
    have hc' : c ∈ [8, 7] := hpresent.2 (honoured_holdOff_subset _ _ _ _ hc)
    simp at hc'
    omega
  have hasked : ∀ c ∈ asked, c ∈ r'.honoured ∨ c ≤ 6 := by
    clear_value pscFrom wtrFrom dnr exerDone r'
    intro c hc
    simp only [asked, List.mem_append, List.mem_ite_nil_right, List.mem_singleton] at hc
    grind
  refine foldl_max_eq (List.mem_filter.mpr ⟨?_, ?_⟩) fun c hc => (hasked c (List.mem_filter.mp hc).1).elim (hle c) (by omega)
  · simp [asked, hmem]
  · simp [sfW, hw]

section
variable (hwf : v.sf g g.pointW = false) (hwd : v.sd g g.pointW = false) (hpsc : g.psc = 0)
include hwf hwd hpsc

/-- The wait to restore is over and nothing else asks (R289). -/
theorem localRequest_waited {w : Nat} (hwtr : r.wtrFrom = some w) (hover : w + g.wtr ≤ now) (hreq : r.request = 3) (hdnr : r.dnr = false)
    (hnone : r.pscFrom = none) : x.2 = 0 ∧ x.1.wtrFrom = none := by
  subst hx
  unfold localRequest
  extract_lets sfW sdW sfP sdP present r' alert pscFrom ended cleared wait wtrFrom dnr exerDone asked best
  have hpresent : present = [] := by simp [present, sfP, sfW, sdW, hsf, hwf, hwd]
  have hhonoured : r'.honoured = [] := by simp only [r', hpresent, holdOff_nil]
  have hpscFrom : pscFrom = none := by simp [pscFrom, alert, hpsc, r', hnone]
  have hwait : wait = false := by simp [wait, ended, cleared, r', hreq]
  have hwtrFrom : wtrFrom = none := by simp [wtrFrom, r', hwtr, hover]
  have hdnr' : dnr = false := by simp [dnr, hwait, r', hdnr]
  have hasked : asked = [] := by simp [asked, hhonoured, hpscFrom, hwtrFrom, hdnr']
  have hbest : best = 0 := by simp [best, hasked]
  exact ⟨hbest, by simp [hbest, hwtrFrom]⟩

/-- The Periscope hold is over: the group waits to restore, or does not revert (R289, R310). -/
theorem localRequest_alertOver {p : Nat} (hsd : v.sd g g.pointP = false) (hp : r.pscFrom = some p) (hover : p + hold ≤ now)
    (hreq : r.request = 6) (hown : r.own = 6) (hnone : r.wtrFrom = none) :
    x.2 = (if g.revertive then 3 else 1) ∧ x.1.pscFrom = none ∧ (g.revertive = true → x.1.wtrFrom = some now) := by
  subst hx
  unfold localRequest
  extract_lets sfW sdW sfP sdP present r' alert pscFrom ended cleared wait wtrFrom dnr exerDone asked best
  have hpresent : present = [] := by simp [present, sfP, sfW, sdW, hsf, hwf, hwd]
  have hhonoured : r'.honoured = [] := by simp only [r', hpresent, holdOff_nil]
  have hpscFrom : pscFrom = none := by simp [pscFrom, alert, hpsc, r', hp, hover]
  have hwait : wait = true := by simp [wait, ended, hpscFrom, r', hreq, hown, hp]
  have hwtrFrom : wtrFrom = if g.revertive then some now else none := by simp [wtrFrom, r', hnone, hwait]
  have hasked : asked = (if g.revertive then [3] else []) ++ if dnr then [1] else [] := by
    cases hrev : g.revertive <;> simp [asked, hhonoured, hpscFrom, hwtrFrom, hrev]
  have hbest : best = if g.revertive then 3 else 1 := by
    cases hrev : g.revertive
    · simp [best, hasked, hrev, sdP, hsd, dnr, hwait]
    · cases hd : dnr <;> simp [best, hasked, hrev, sdP, hsd, hd]
  exact ⟨hbest, hpscFrom, fun hrev => by simp [hbest, hwtrFrom, hrev]⟩

end
end

theorem bridge_localRequest (v : BusView) (g : Group) (cmd hold now far : Nat) (aps : Bool) (r : PgRun) :
    (localRequest v g cmd hold now aps far r).1.bridge = r.bridge := by
  simp [localRequest]

/-! ## Publishing a group (R37, R314) -/

section
variable (s : State) (g : Nat) (old new : PgRun)

theorem State.pgRun_publish (j : Nat) : (s.publish g old new).pgRun j = if j = g then new else s.pgRun j := by
  rw [← State.pgRun_setPgRun]
  unfold State.publish
  extract_lets t change u v w
  have hu : u.prot = t.prot := by simp only [u, change]; split <;> rfl
  have hv : v.prot = u.prot := by simp only [v, change]; split <;> rfl
  have hw : w.prot = v.prot := by simp only [w]; split <;> rfl
  simp only [State.pgRun, State.prot_withProt, hw, hv, hu, t]

theorem State.mem_published_publish : g ∈ (s.publish g old new).prot.published ↔ (new.selector || new.bridge) = true := by
  unfold State.publish
  rw [State.prot_withProt]
  cases new.selector || new.bridge <;> simp

theorem State.obj_publish (k : Key) : (s.publish g old new).obj k =
    if old.selector ≠ new.selector ∧ k = Obj.PG_SWITCH_COUNT g then sat32 (s.obj (Obj.PG_SWITCH_COUNT g) + 1) else s.obj k := by
  unfold State.publish
  extract_lets t change u v w
  have hu : u.obj k = if old.selector ≠ new.selector ∧ k = Obj.PG_SWITCH_COUNT g then sat32 (s.obj (Obj.PG_SWITCH_COUNT g) + 1) else s.obj k := by
    by_cases h : old.selector = new.selector
    · simp [u, h, t]
    · simp [u, h, change, State.obj_setObj, t]
  have hv : v.obj k = u.obj k := by simp only [v, change]; split <;> rfl
  have hw : w.obj k = v.obj k := by simp only [w]; split <;> rfl
  rw [State.obj_withProt, hw, hv, hu]

theorem State.publish_frame : s.publish g old new =
    { s with reg := (s.publish g old new).reg, prot := (s.publish g old new).prot, changes := (s.publish g old new).changes } := by
  unfold State.publish
  extract_lets t change u v w
  have hu : u = { s with reg := u.reg, prot := u.prot, changes := u.changes } := by simp only [u, change]; split <;> rfl
  have hv : v = { s with reg := v.reg, prot := v.prot, changes := v.changes } := by
    simp only [v, change]; split
    · exact hu
    · rw [hu]; rfl
  have hw : w = { s with reg := w.reg, prot := w.prot, changes := w.changes } := by
    simp only [w]; split
    · rw [hv]; rfl
    · exact hv
  rw [hw]; rfl

end

/-! ## The evaluation of a unidirectional group without command (R286) -/

theorem State.clearCommand_none {s : State} {g : Nat} (h : s.active (Obj.PG_CMD g) = 0) (r : PgRun) (highest far : Nat) (aps : Bool) :
    s.clearCommand g r highest far aps = s := by
  simp [State.clearCommand, h]

/-- The far end's request as a group that sends APS reads it. -/
def State.farAsked (s : State) (n : Nat) (g : Group) : Option ApsAccepted := if sendsAps g then s.farValue n else none

/-- The evaluation of a group by itself, without command and without a far end that governs. -/
def State.ownEvaluation (s : State) (v : BusView) (n : Nat) (g : Group) : PgRun × Nat :=
  localRequest v g 0 (s.active Obj.PG_PSC_HOLD) s.now false (((s.farAsked n g).map (·.request)).getD 0) (s.pgRun n)

/-- The group's run after it. -/
def State.ownRun (s : State) (v : BusView) (n : Nat) (g : Group) : PgRun :=
  let far := s.farAsked n g
  let farReq := (far.map (·.request)).getD 0
  let x := s.ownEvaluation v n g
  { x.1 with request := x.2, far := farReq, selector := selectOne (s.pgRun n) x.2 false farReq ((far.map (·.requested)).getD 0) }

section
variable {s : State} {v : BusView} {n : Nat} {g : Group}

/-- Beside the publication, the evaluation reports a Periscope move and writes the bytes sent. -/
theorem State.evaluateOne_publishes {p : State} (hp : s.publish n (s.pgRun n) (s.ownRun v n g) = p) (haps : usesAps g = false)
    (hcmd : s.active (Obj.PG_CMD n) = 0) :
    let new := s.ownRun v n g
    let u := if (s.pgRun n).pscFrom.isNone ∧ new.pscFrom.isSome then
      p.raise Ev.PSC_MOVE [n, epEngine g.working, pscAlert v g.working] else p
    s.evaluateOne v n g = if sendsAps g then
      u.setObj (Obj.PG_APS_TX n) (apsBytes (s.active (Obj.PG_CFG n)) g new.request new.selector.toNat 1) else u := by
  have hnone : p.active (Obj.PG_CMD n) = 0 := by
    rw [← hp, State.publish_frame]; exact hcmd
  have hclear := State.clearCommand_none hnone (s.pgRun n) (s.ownRun v n g).request (((s.farAsked n g).map (·.request)).getD 0) false
  unfold State.evaluateOne
  simp only [haps, hcmd, Bool.false_and, Bool.false_eq_true, if_false]
  rw [← hclear, ← hp]
  rfl

theorem State.evaluateOne_own {p t : State} (hp : s.publish n (s.pgRun n) (s.ownRun v n g) = p) (haps : usesAps g = false)
    (hcmd : s.active (Obj.PG_CMD n) = 0) (ht : s.evaluateOne v n g = t) :
    t.prot = p.prot ∧ t.obj (Obj.PG_SWITCH_COUNT n) = p.obj (Obj.PG_SWITCH_COUNT n) ∧ t = { p with reg := t.reg, changes := t.changes } := by
  rw [← ht, State.evaluateOne_publishes hp haps hcmd]
  split <;> split <;> exact ⟨rfl, by simp, rfl⟩

end

/-! ## The row of a group in the coming tick -/

section
variable {s : State} {g : Nat}

/-- The state in which the coming tick evaluates: the coming boundary's snapshot stays that of the bits published before (R37). -/
def State.evaluating (s : State) : State :=
  (s.withProt fun p => { p with snapshotNext := some (p.snapshotNext.getD p.published) }).opened

theorem State.evaluateComing_alone (hvalid : (groupAt s.act g).valid = true) (hset : isSet (groupAt s.act g) = false) :
    s.evaluateComing g = { s.evaluating.evaluateOne s.nextView g (groupAt s.act g) with now := s.now, tick := s.tick } := by
  have hpos : s.positionOf g = g := by simp [State.positionOf, hset]
  refine State.atBoundary_of_opened ?_
  change s.evaluating.evaluateGroup s.nextView (s.positionOf g) = _
  have hact : s.evaluating.act = s.act := rfl
  rw [hpos, State.evaluateGroup, hact]
  simp [hvalid, hset]

end

/-- What the row of a unidirectional group without command comes to: the group's new run, its publication, and the count of its switches. -/
theorem State.evaluateComing_own {s : State} {g : Nat} (hvalid : (groupAt s.act g).valid = true) (hset : isSet (groupAt s.act g) = false)
    (haps : usesAps (groupAt s.act g) = false) (hcmd : s.active (Obj.PG_CMD g) = 0) :
    let r := s.evaluating.ownRun s.nextView g (groupAt s.act g)
    let t := s.evaluateComing g
    t.pgRun g = r ∧ (g ∈ t.prot.published ↔ (r.selector || r.bridge) = true) ∧
      t.obj (Obj.PG_SWITCH_COUNT g) = (if (s.pgRun g).selector = r.selector then s.obj (Obj.PG_SWITCH_COUNT g)
        else sat32 (s.obj (Obj.PG_SWITCH_COUNT g) + 1)) ∧
      (∀ j, j ≠ g → t.pgRun j = s.pgRun j) ∧ t = { s with reg := t.reg, prot := t.prot, changes := t.changes } := by
  intro r t
  have ht : t = _ := State.evaluateComing_alone hvalid hset
  generalize hu : s.evaluating.evaluateOne s.nextView g (groupAt s.act g) = u at ht
  obtain ⟨hprot, hcount, hframe⟩ := State.evaluateOne_own (s := s.evaluating) (v := s.nextView) rfl haps hcmd hu
  have hrun (j : Nat) : t.pgRun j = if j = g then r else s.pgRun j := by
    calc t.pgRun j = u.pgRun j := by rw [ht]; rfl
      _ = _ := (congrArg (fun p : Protection => Map.get ({} : PgRun) p.groups (Key.unit j)) hprot).trans (State.pgRun_publish _ _ _ _ j)
  refine ⟨(hrun g).trans (if_pos rfl), ?_, ?_, fun j hj => (hrun j).trans (if_neg hj), ?_⟩
  · have hpub : t.prot = _ := (congrArg State.prot ht).trans hprot
    rw [hpub]
    exact State.mem_published_publish _ _ _ _
  · have hobj : t.obj (Obj.PG_SWITCH_COUNT g) = _ := (congrArg (State.obj · _) ht).trans hcount
    rw [hobj, State.obj_publish, if_congr (and_iff_left rfl) rfl rfl, ite_not]
    rfl
  · rw [ht, hframe, State.publish_frame]
    rfl

/-! ## The ends of the three waits -/

/-- The selector follows the own request, unless that is an exercise or dFOP holds the group (R286, R297). -/
theorem selectOne_own {old : PgRun} {best : Nat} (hexer : best ≠ 2) (hfop : old.fop = 0 ∨ best ≠ 0) (farReq farAsks : Nat) :
    selectOne old best false farReq farAsks = selectsProtect best := by
  unfold selectOne
  rw [if_neg Bool.false_ne_true, if_neg (by tauto)]

section
variable {s : State} {v : BusView} {n best : Nat} {g : Group}

theorem State.request_ownRun : (s.ownRun v n g).request = (s.ownEvaluation v n g).2 := rfl
theorem State.wtrFrom_ownRun : (s.ownRun v n g).wtrFrom = (s.ownEvaluation v n g).1.wtrFrom := by rw [State.ownRun]
theorem State.pscFrom_ownRun : (s.ownRun v n g).pscFrom = (s.ownEvaluation v n g).1.pscFrom := rfl

theorem State.bridge_ownRun : (s.ownRun v n g).bridge = (s.pgRun n).bridge := by
  change (s.ownEvaluation v n g).1.bridge = _
  rw [State.ownEvaluation, bridge_localRequest]

theorem State.selector_ownRun (h : (s.ownEvaluation v n g).2 = best) (hexer : best ≠ 2) (hfop : (s.pgRun n).fop = 0 ∨ best ≠ 0) :
    (s.ownRun v n g).selector = selectsProtect best := by
  subst h
  exact selectOne_own hexer hfop (((s.farAsked n g).map (·.request)).getD 0) (((s.farAsked n g).map (·.requested)).getD 0)

end

section
variable {s : State} {g : Fin 65536} {t : Nat}

theorem exec_holdoffExpire_due (h : (s.pgRun g).holdFrom = some t) (hdue : t + (groupAt s.act g).holdOff ≤ s.now + 1) :
    exec (.holdoffExpire g) s = .next (s.evaluateComing g) := by
  show execHoldoffExpire g s = _
  unfold execHoldoffExpire
  rw [h]
  exact if_pos hdue

theorem exec_wtrExpire_due (h : (s.pgRun g).wtrFrom = some t) (hdue : t + (groupAt s.act g).wtr ≤ s.now + 1) :
    exec (.wtrExpire g) s = .next (s.evaluateComing g) := by
  show execWtrExpire g s = _
  unfold execWtrExpire
  rw [h]
  exact if_pos hdue

theorem exec_pscHoldExpire_due (h : (s.pgRun g).pscFrom = some t) (hdue : t + s.active Obj.PG_PSC_HOLD ≤ s.now + 1) :
    exec (.pscHoldExpire g) s = .next (s.evaluateComing g) := by
  show execPscHoldExpire g s = _
  unfold execPscHoldExpire
  rw [h]
  exact if_pos hdue

end

/-- Settles O38: the row evaluates its group alone, and in a group without command and with a sound protect copy the end of the hold-off, of the
wait to restore or of the Periscope hold decides the request. -/
theorem protectionGroupsSwitch : Obligations.ProtectionGroupsSwitch := by
  intro g s c v r hvalid hset haps hcmd hsfP hsdP
  obtain ⟨hrun, hpub, hcount, hothers, hframe⟩ := State.evaluateComing_own hvalid hset haps hcmd
  refine ⟨fun h hh hover hsfW => ?_, fun hsfW hsdW hpsc => ⟨fun w hw hover hreq hfop hdnr hnone => ?_, fun p hp hover hreq hown hnone => ?_⟩⟩
  · have hrequest : (s.evaluating.ownEvaluation v g c).2 = 8 := localRequest_signalFail rfl hsfP hh hover hsfW
    have hselector : (s.evaluating.ownRun v g c).selector = true := State.selector_ownRun hrequest (by omega) (.inr (by omega))
    refine ⟨_, exec_holdoffExpire_due hh hover, ?_, ?_, ?_, ?_, hothers, hframe⟩
    · rw [hrun, State.request_ownRun]; exact hrequest
    · rw [hrun]; exact hselector
    · exact hpub.mpr (by rw [hselector]; rfl)
    · rw [hcount, hselector]
  · obtain ⟨hrequest, hwtr⟩ : (s.evaluating.ownEvaluation v g c).2 = 0 ∧ (s.evaluating.ownEvaluation v g c).1.wtrFrom = none :=
      localRequest_waited rfl hsfP hsfW hsdW hpsc hw hover hreq hdnr hnone
    have hselector : (s.evaluating.ownRun v g c).selector = false := State.selector_ownRun hrequest (by omega) (.inl hfop)
    refine ⟨_, exec_wtrExpire_due hw hover, ?_, ?_, ?_, fun hbridge => ?_⟩
    · rw [hrun, State.request_ownRun]; exact hrequest
    · rw [hrun]; exact hselector
    · rw [hrun, State.wtrFrom_ownRun]; exact hwtr
    · have hnot : (s.evaluating.ownRun v g c).bridge = false := State.bridge_ownRun.trans hbridge
      rw [hpub, hselector, hnot]
      exact Bool.false_ne_true
  · obtain ⟨hrequest, hpscFrom, hwtr⟩ : (s.evaluating.ownEvaluation v g c).2 = (if c.revertive then 3 else 1) ∧
        (s.evaluating.ownEvaluation v g c).1.pscFrom = none ∧
        (c.revertive = true → (s.evaluating.ownEvaluation v g c).1.wtrFrom = some s.evaluating.now) :=
      localRequest_alertOver rfl hsfP hsfW hsdW hpsc hsdP hp hover hreq hown hnone
    have hselector : (s.evaluating.ownRun v g c).selector = true := by
      rw [State.selector_ownRun hrequest (by split <;> omega) (.inr (by split <;> omega))]
      split <;> rfl
    refine ⟨_, exec_pscHoldExpire_due hp hover, ?_, ?_, ?_, fun hrev => ?_⟩
    · rw [hrun, State.pscFrom_ownRun]; exact hpscFrom
    · rw [hrun]; exact hselector
    · rw [hrun, State.request_ownRun]; exact hrequest
    · rw [hrun, State.wtrFrom_ownRun]; exact hwtr hrev

end Sys2Proof.Machine
end

section
/-! PROOFS. What arrives for the protection groups: APS values and their protocol failures, and the records of other nodes. -/

namespace Sys2Proof.Machine

/-! ## dFOP (R297) -/

section
variable {s : State} {g cause : Nat}

/-- A new cause of dFOP: the run holds it, the defect follows it, and the change is reported. -/
theorem State.setFop_new (h : (s.pgRun g).fop ≠ cause) : s.setFop g cause =
    ((s.setPgRun g { s.pgRun g with fop := cause }).setDefect Df.fop g (decide (cause ≠ 0))).raise Ev.PG_FOP [g, cause] := if_neg h

theorem State.pgRun_setDefect (d i : Nat) (on : Bool) (j : Nat) : (s.setDefect d i on).pgRun j = s.pgRun j := by
  cases on <;> simp [State.setDefect]

theorem State.pgRun_setFop (h : (s.pgRun g).fop ≠ cause) : (s.setFop g cause).pgRun g = { s.pgRun g with fop := cause } := by
  rw [State.setFop_new h, State.pgRun_raise, State.pgRun_setDefect, State.pgRun_setPgRun_same]

theorem State.declared_setFop (h : (s.pgRun g).fop ≠ cause) (hcause : cause ≠ 0) : (s.setFop g cause).declared Df.fop g = true := by
  rw [State.setFop_new h, State.declared_raise, State.declared_setDefect, if_pos ⟨rfl, rfl⟩]
  exact decide_eq_true hcause

theorem State.obj_setFop (h : (s.pgRun g).fop ≠ cause) (k : Key) : (s.setFop g cause).obj k = s.obj k := by
  rw [State.setFop_new h, State.obj_raise, State.obj_setDefect, State.obj_setPgRun]

theorem State.tick_setDefect (d i : Nat) (on : Bool) : (s.setDefect d i on).tick = s.tick := by
  cases on <;> simp [State.setDefect]

theorem State.mem_changes_setFop (h : (s.pgRun g).fop ≠ cause) :
    ⟨Ev.PG_FOP.code, false, s.tick, contentOf Ev.PG_FOP.widths [g, cause]⟩ ∈ (s.setFop g cause).changes := by
  rw [State.setFop_new h, State.changes_raise, State.tick_setDefect]
  exact List.mem_append_right _ List.mem_cons_self

end

/-! ## APS values (R278, R296, R297) -/

section
variable {s : State} {g : Fin 65536} {a : ApsValue}

/-- The value is in a frame that the group reads. -/
def State.readsAps (s : State) (g : Fin 65536) (a : ApsValue) : Prop :=
  let c := groupAt s.act g
  c.valid = true ∧ sendsAps c = true ∧ (isSet c = true → headOf c = g.val) ∧ (c.type ≤ 4 → a.mfas % 8 = apsLevel c)

theorem State.readsAps.not_unread (h : s.readsAps g a) :
    let c := groupAt s.act g
    ¬ (¬ (c.valid ∧ sendsAps c ∧ (isSet c → headOf c = g)) ∨ (c.type ≤ 4 ∧ a.mfas % 8 ≠ apsLevel c)) := by
  obtain ⟨hvalid, hsends, hhead, hlevel⟩ := h
  exact not_or.mpr ⟨not_not.mpr ⟨hvalid, hsends, hhead⟩, fun hl => hl.2 (hlevel hl.1)⟩

theorem exec_apsReceive_unread (h : (groupAt s.act g).valid = false ∨ sendsAps (groupAt s.act g) = false ∨
    ((groupAt s.act g).type ≤ 4 ∧ a.mfas % 8 ≠ apsLevel (groupAt s.act g))) : exec (.apsReceive g a) s = .next s := by
  refine if_pos ?_
  rcases h with h | h | h
  · exact .inl fun hc => Bool.false_ne_true (h.symm.trans hc.1)
  · exact .inl fun hc => Bool.false_ne_true (h.symm.trans hc.2.1)
  · exact .inr h

/-- The group with a value that it has now received so many times in a row. -/
def State.countAps (s : State) (g raw run : Nat) : State :=
  s.setPgRun g { s.pgRun g with aps := { (s.pgRun g).aps with last := raw, run := run } }

/-- The group with a valid value accepted (R278): a value accepted last already is not entered again. -/
def State.acceptAps (s : State) (g : Nat) (a : ApsValue) (run : Nat) : State :=
  let t := s.countAps g a.raw run
  let old := (s.pgRun g).aps.accepted
  let same := match old with
    | x :: _ => decide (x.raw = a.raw)
    | [] => false
  if same then t else t.setPgRun g { t.pgRun g with aps := { (t.pgRun g).aps with
    accepted := (⟨a.raw, a.request, a.requested, a.bridged, s.now⟩ :: old).take 4 } }

/-- What a value that the group reads comes to. -/
def State.receiveAps (s : State) (g : Nat) (a : ApsValue) : State :=
  let r := s.pgRun g
  let run := if a.raw = r.aps.last then min 3 (r.aps.run + 1) else 1
  let v := (s.acceptAps g a run).setObj (Obj.PG_APS_RX g) a.raw
  if run < 3 then s.countAps g a.raw run
  else if ¬ a.valid then (s.countAps g a.raw run).setFop g 3
  else if ¬ a.provisioned then v.setFop g 1 else if r.fop = 1 ∨ r.fop = 3 then v.setFop g 0 else v

theorem exec_apsReceive_read (h : s.readsAps g a) : exec (.apsReceive g a) s = .next (s.receiveAps g a) := by
  show execApsReceive g a s = _
  unfold execApsReceive State.receiveAps
  rw [if_neg h.not_unread, apply_ite Host.Outcome.next, apply_ite Host.Outcome.next]
  rfl

end

section
variable (s : State) (g : Nat) (a : ApsValue)

theorem State.head_acceptAps (run : Nat) : ((s.acceptAps g a run).pgRun g).aps.accepted.head?.map (·.raw) = some a.raw := by
  unfold State.acceptAps
  extract_lets t old same
  split
  case isTrue h =>
    cases hold : old with
    | nil => simp [same, hold] at h
    | cons x xs => simpa [t, State.countAps, old, same, hold] using h
  case isFalse => simp

theorem State.fop_acceptAps (run : Nat) : ((s.acceptAps g a run).pgRun g).fop = (s.pgRun g).fop := by
  unfold State.acceptAps
  extract_lets t old same r aps
  split <;> simp [r, t, State.countAps]

variable {s g a}

/-- Another value than the last starts its run. -/
theorem State.receiveAps_first (hraw : a.raw ≠ (s.pgRun g).aps.last) : s.receiveAps g a = s.countAps g a.raw 1 := by
  simp [State.receiveAps, hraw]

/-- The third occurrence in a row, while dFOP does not stand (R278, R297). -/
theorem State.receiveAps_third (hraw : a.raw = (s.pgRun g).aps.last) (hrun : 2 ≤ (s.pgRun g).aps.run) (hfop : (s.pgRun g).fop = 0) :
    s.receiveAps g a =
      let v := (s.acceptAps g a 3).setObj (Obj.PG_APS_RX g) a.raw
      if a.valid = false then (s.countAps g a.raw 3).setFop g 3 else if a.provisioned = false then v.setFop g 1 else v := by
  have h3 : (if a.raw = (s.pgRun g).aps.last then min 3 ((s.pgRun g).aps.run + 1) else 1) = 3 := by
    rw [if_pos hraw]; omega
  unfold State.receiveAps
  simp [h3, hfop]

/-- An invalid value declares dFOP, and nothing is accepted. -/
theorem State.receiveAps_invalid (hraw : a.raw = (s.pgRun g).aps.last) (hrun : 2 ≤ (s.pgRun g).aps.run) (hfop : (s.pgRun g).fop = 0)
    (hvalid : a.valid = false) :
    let t := s.receiveAps g a
    (t.pgRun g).fop = 3 ∧ t.declared Df.fop g = true ∧ (t.pgRun g).aps.accepted = (s.pgRun g).aps.accepted := by
  have hne : ((s.countAps g a.raw 3).pgRun g).fop ≠ 3 := by simp [State.countAps, hfop]
  simp only [State.receiveAps_third hraw hrun hfop, hvalid, if_true, State.pgRun_setFop hne]
  exact ⟨trivial, State.declared_setFop hne (by decide), by simp [State.countAps]⟩

/-- A valid value is accepted and shown, and one of another protection type declares dFOP. -/
theorem State.receiveAps_valid (hraw : a.raw = (s.pgRun g).aps.last) (hrun : 2 ≤ (s.pgRun g).aps.run) (hfop : (s.pgRun g).fop = 0)
    (hvalid : a.valid = true) :
    let t := s.receiveAps g a
    t.obj (Obj.PG_APS_RX g) = a.raw ∧ (t.pgRun g).aps.accepted.head?.map (·.raw) = some a.raw ∧
      (a.provisioned = false → (t.pgRun g).fop = 1 ∧ t.declared Df.fop g = true) ∧ (a.provisioned = true → (t.pgRun g).fop = 0) := by
  rw [State.receiveAps_third hraw hrun hfop, hvalid, if_neg (by decide)]
  have hshown : ((s.acceptAps g a 3).setObj (Obj.PG_APS_RX g) a.raw).obj (Obj.PG_APS_RX g) = a.raw := State.obj_setObj_same _ _ _
  have hfop' := (State.fop_acceptAps s g a 3).trans hfop
  have hhead := State.head_acceptAps s g a 3
  rw [← State.pgRun_setObj (k := Obj.PG_APS_RX g) (v := a.raw)] at hfop' hhead
  generalize (s.acceptAps g a 3).setObj (Obj.PG_APS_RX g) a.raw = v at hshown hfop' hhead ⊢
  have hne : (v.pgRun g).fop ≠ 1 := by omega
  cases a.provisioned with
  | true => exact ⟨hshown, hhead, fun h => absurd h (by decide), fun _ => hfop'⟩
  | false =>
    simp only [if_true, State.obj_setFop hne, State.pgRun_setFop hne]
    exact ⟨hshown, hhead, fun _ => ⟨trivial, State.declared_setFop hne (by decide)⟩, fun h => absurd h (by decide)⟩

end

/-! ## Records of other nodes (R301, R445) -/

/-- A remote point takes a record. -/
def State.setRemote (s : State) (record tick r : Nat) : State :=
  s.withProt fun p => { p with remotes := Map.set {} p.remotes (Key.unit r) ⟨record % 2 ^ 16, some (tick % 2 ^ 24), s.now, false⟩ }

/-- The remote point is enabled for the node and index, and the record is newer than the one that it holds. -/
def State.takesRemote (s : State) (node index tick r : Nat) : Bool :=
  let entry := s.active (Obj.PG_REMOTE r)
  let held := Map.get {} s.prot.remotes (Key.unit r)
  entryOn entry && decide (field entry 29 24 = node) && decide (field entry 21 16 = index) && (held.stale || match held.tick with
    | some t => laterTick tick t
    | none => true)

section
variable (s : State) (node index tick record : Nat)

theorem State.receiveRemote_eq : s.receiveRemote node index tick record =
    ((List.range 64).filter (s.takesRemote node index tick)).foldl (·.setRemote record tick) s := rfl

theorem State.takesRemote_iff (r : Nat) : s.takesRemote node index tick r = true ↔
    let entry := s.active (Obj.PG_REMOTE r)
    let held := Map.get {} s.prot.remotes (Key.unit r)
    entryOn entry = true ∧ field entry 29 24 = node ∧ field entry 21 16 = index ∧
      (held.stale = true ∨ held.tick = none ∨ ∃ b, held.tick = some b ∧ laterTick tick b = true) := by
  unfold State.takesRemote
  extract_lets entry held
  cases held.tick <;> simp [and_assoc]

/-- The points that take a record hold it, and nothing else changes. -/
theorem State.foldl_setRemote (l : List Nat) (s : State) : ∃ t, l.foldl (·.setRemote record tick) s = t ∧ t = { s with prot := t.prot } ∧
    ∀ r, Map.get {} t.prot.remotes (Key.unit r) =
      if r ∈ l then ⟨record % 2 ^ 16, some (tick % 2 ^ 24), s.now, false⟩ else Map.get {} s.prot.remotes (Key.unit r) := by
  induction l generalizing s with
  | nil => exact ⟨s, rfl, rfl, fun r => by simp⟩
  | cons x l ih =>
    obtain ⟨t, ht, hframe, hget⟩ := ih (s.setRemote record tick x)
    refine ⟨t, ht, ?_, fun r => ?_⟩
    · rw [hframe]; rfl
    · rw [hget r]
      by_cases hl : r ∈ l
      · simp [hl, State.setRemote]
      · by_cases hx : r = x
        · subst hx; simp [hl, State.setRemote]
        · have hk : Key.unit r ≠ Key.unit x := fun h => hx (Key.unit_inj h)
          simp [hl, hx, State.setRemote, Map.get_set_ne _ _ _ _ hk]

theorem exec_remoteStale (s : State) (r : Fin 64) : exec (.remoteStale r) s = .next (s.remoteCheck r) := rfl

end

/-! ## The statement -/

theorem exec_fopMismatchTimeout_due {s : State} {g : Fin 65536} {d : Nat} (hd : (s.pgRun g).aps.mismatchSince = some d)
    (hdue : d + 40000 ≤ s.now) (hfop : (s.pgRun g).fop = 0) : exec (.fopMismatchTimeout g) s = .next (s.setFop g 2) := by
  show execFopMismatchTimeout g s = _
  unfold execFopMismatchTimeout
  rw [hd]
  exact if_pos ⟨hdue, hfop⟩

/-- Settles O39: what the group, the remote points and the two timeouts make of what they are given, case by case. -/
theorem protectionMessagesArrive : Obligations.ProtectionMessagesArrive := by
  intro s
  refine ⟨fun g a => ⟨exec_apsReceive_unread, fun hvalid hsends hhead hlevel => ?_⟩, fun g d hd hfop hdue => ?_,
    fun node index tick record => ?_, fun r => ?_⟩
  · have hread : s.readsAps g a := ⟨hvalid, hsends, hhead, hlevel⟩
    refine ⟨fun hraw => (exec_apsReceive_read hread).trans (congrArg _ (State.receiveAps_first hraw)), fun hraw hrun hfop =>
      ⟨_, exec_apsReceive_read hread, State.receiveAps_invalid hraw hrun hfop, State.receiveAps_valid hraw hrun hfop⟩⟩
  · have hne : (s.pgRun g).fop ≠ 2 := by omega
    exact ⟨_, exec_fopMismatchTimeout_due hd hdue hfop, by rw [State.pgRun_setFop hne], State.declared_setFop hne (by decide),
      State.mem_changes_setFop hne⟩
  · obtain ⟨t, ht, hframe, hget⟩ := State.foldl_setRemote tick record ((List.range 64).filter (s.takesRemote node index tick)) s
    refine ⟨t, congrArg Host.Outcome.next ((s.receiveRemote_eq node index tick record).trans ht), hframe, fun r hr => ?_⟩
    intro entry old takes
    have htakes : s.takesRemote node index tick r = true ↔ takes := s.takesRemote_iff node index tick r
    have hmem : r ∈ (List.range 64).filter (s.takesRemote node index tick) ↔ takes := by rw [← htakes]; simp [hr]
    exact ⟨fun h => (hget r).trans (if_pos (hmem.mpr h)), fun h => (hget r).trans (if_neg fun hm => h (hmem.mp hm))⟩
  · refine (exec_remoteStale s r).trans (congrArg Host.Outcome.next ?_)
    simp only [State.remoteCheck, Bool.not_eq_true]

end Sys2Proof.Machine
end

section
/-! PROOFS. Merge groups: the state that MM_STATE shows, frames that align a group or leave it without sequence, late copies, and the HBM. -/

namespace Sys2Proof.Machine

/-! ## MM_STATE (R304, R313) -/

/-- The word of MM_STATE. -/
def mmWord (state cause : Nat) (early : Bool) (delta : Nat) : Nat := state * 2 ^ 28 + cause * 2 ^ 26 + early.toNat * 2 ^ 25 + delta % 2 ^ 13

section
variable {state cause : Nat} (early : Bool) (delta : Nat)

theorem field_mmWord_state (hs : state < 16) (hc : cause < 4) : field (mmWord state cause early delta) 31 28 = state := by
  have he : early.toNat ≤ 1 := early.toNat_le
  unfold field mmWord
  omega

theorem field_mmWord_delta : field (mmWord state cause early delta) 12 0 = delta % 2 ^ 13 := by
  unfold field mmWord
  omega

theorem bit_mmWord_early : bit (mmWord state cause early delta) 25 = early := by
  unfold bit mmWord
  cases early <;> simp <;> omega

end

section
variable (s : State) (m : Nat)

theorem State.mmCause_lt : s.mmCause m < 4 := by
  unfold State.mmCause
  split
  · decide
  split
  · decide
  split <;> decide

section
variable (new : Nat) (early : Bool) (delta : Nat)

theorem State.setMm_eq : let t := s.setObj (Obj.MM_STATE m) (mmWord new (if new = 3 then s.mmCause m else 0) early delta)
    s.setMm m new early delta = if s.mmState m = new then t else t.raise Ev.MM_STATE [m, s.mmState m, new, delta] := by
  unfold State.setMm mmWord
  rfl

theorem State.obj_setMm : (s.setMm m new early delta).obj (Obj.MM_STATE m) = mmWord new (if new = 3 then s.mmCause m else 0) early delta := by
  rw [State.setMm_eq]
  split
  · exact State.obj_setObj_same _ _ _
  · rw [State.obj_raise, State.obj_setObj_same]

@[simp] theorem State.mm_setMm (j : Nat) : (s.setMm m new early delta).mm j = s.mm j := by
  rw [State.setMm_eq]
  split
  · rw [State.mm_setObj]
  · rw [State.mm_raise, State.mm_setObj]

@[simp] theorem State.prot_setMm : (s.setMm m new early delta).prot = s.prot := by
  rw [State.setMm_eq]
  split
  · rw [State.prot_setObj]
  · rw [State.prot_raise, State.prot_setObj]

theorem State.mmState_setMm (h : new < 16) : (s.setMm m new early delta).mmState m = new := by
  rw [State.mmState, State.obj_setMm]
  refine field_mmWord_state _ _ h ?_
  split
  · exact s.mmCause_lt m
  · decide

theorem State.mmEarly_setMm : (s.setMm m new early delta).mmEarly m = early := by
  rw [State.mmEarly, State.obj_setMm, bit_mmWord_early]

theorem State.mmDelta_setMm (h : delta < 2 ^ 13) : (s.setMm m new early delta).mmDelta m = delta := by
  rw [State.mmDelta, State.obj_setMm, field_mmWord_delta, Nat.mod_eq_of_lt h]

end

/-! ### FALLBACK is entered for any cause, and left when every cause has cleared (R304, R309) -/

theorem State.refreshMm_cause (h : s.mmState m ≠ 0) (hc : s.mmCause m ≠ 0) : s.refreshMm m = s.setMm m 3 (s.mmEarly m) (s.mmDelta m) :=
  (if_neg h).trans (if_pos hc)

theorem State.refreshMm_clear (h : s.mmState m = 3) (hc : s.mmCause m = 0) : s.refreshMm m = s.setMm m 1 false 0 := by
  unfold State.refreshMm
  simp [h, hc]

theorem State.refreshMm_same (h : s.mmState m ≠ 3) (hc : s.mmCause m = 0) : s.refreshMm m = s := by
  unfold State.refreshMm
  simp [h, hc]

@[simp] theorem State.mm_refreshMm (j : Nat) : (s.refreshMm m).mm j = s.mm j := by
  unfold State.refreshMm
  extract_lets st
  split
  · rfl
  split
  · exact s.mm_setMm _ _ _ _ _
  split
  · exact s.mm_setMm _ _ _ _ _
  · rfl

@[simp] theorem State.prot_refreshMm : (s.refreshMm m).prot = s.prot := by
  unfold State.refreshMm
  extract_lets st
  split
  · rfl
  split
  · exact s.prot_setMm _ _ _ _
  split
  · exact s.prot_setMm _ _ _ _
  · rfl

end

section
variable (s : State) (m : Nat) (f : MmRun → MmRun)

@[simp] theorem State.mmState_withMm : (s.withMm m f).mmState m = s.mmState m := rfl
@[simp] theorem State.mmEarly_withMm : (s.withMm m f).mmEarly m = s.mmEarly m := rfl
@[simp] theorem State.mmDelta_withMm : (s.withMm m f).mmDelta m = s.mmDelta m := rfl
@[simp] theorem State.hbmFault_withMm : (s.withMm m f).prot.hbmFault = s.prot.hbmFault := rfl

/-- The cause of FALLBACK goes by the run's NOSEQ and DELAY, and by the HBM. -/
theorem State.mmCause_eq_zero : s.mmCause m = 0 ↔ (s.mm m).noseq = false ∧ s.prot.hbmFault = false ∧ (s.mm m).delay = false := by
  unfold State.mmCause
  cases (s.mm m).noseq <;> cases s.prot.hbmFault <;> cases (s.mm m).delay <;> simp

theorem State.mmCause_noseq (h : (s.mm m).noseq = true) : s.mmCause m = 1 := if_pos h

end

/-! ## A frame of the working copy (R305 to R309) -/

/-- Whether NOSEQ stands after a frame that brings its copy's run to a length (R309). -/
def MmRun.losesSequence (r : MmRun) (run : Nat) : Bool :=
  if r.noseq then !(decide (8 ≤ run)) else decide (64 ≤ r.noseqW) && decide (64 ≤ r.noseqP)

/-- What follows the count of a frame: NOSEQ, the causes of FALLBACK, alignment where the group is not aligned, and a re-timing that waits. -/
def State.mmSettle (s : State) (m n : Nat) (g : Group) (run : Nat) : State :=
  let u := (s.withMm m fun r => { r with noseq := (s.mm m).losesSequence run }).refreshMm m
  let v := if u.mmState m = 1 ∨ u.mmState m = 3 then u.mmAlign m n (mergeDelay g) else u
  if (v.mm m).retime then v.mmRetime m (mergeDelay g) else v

/-- What a working frame leaves of a run. -/
structure MmRun.CountsWorking (r r' : MmRun) : Prop where
  runP : r'.runP = r.runP
  noseqP : r'.noseqP = r.noseqP
  noseq : r'.noseq = r.noseq
  delay : r'.delay = r.delay
  retime : r'.retime = r.retime

/-- A working frame without error, on a point without signal fail, of a copy that nothing spoilt in the tick. -/
def State.cleanWorking (s : State) (m : Nat) (f : OduFrame) (g : Group) : Prop :=
  f.uncorrected = false ∧ f.maintenance = false ∧ (s.pointBits g.pointW).ssf = false ∧ (s.pointBits g.pointW).tsf = false ∧
    s.prot.spoilt.contains (m, false) = false

section
variable (s : State) (m n : Nat) (f : OduFrame) (g : Group)

/-- A working frame leaves the protect copy's counts, the causes and a waiting re-timing alone. A value that goes on the sequence, and that the
protect copy has not delivered, advances the run; a clean frame without value ends it, and is counted. -/
theorem State.mmFrame_counts : ∃ r', s.mmFrame m false f n g = (s.withMm m fun _ => r').mmSettle m n g r'.runW ∧ (s.mm m).CountsWorking r' ∧
    (∀ q l, f.seq = some q → (s.mm m).lastW = some l → q = (l + 1) % 2 ^ 32 → 1 ≤ (s.mm m).runW →
      (∀ x ∈ (s.mm m).seenP, x.1 ≠ q) → r'.runW = min 8 ((s.mm m).runW + 1) ∧ r'.diffs = (s.mm m).diffs) ∧
    (f.seq = none → s.cleanWorking m f g → r'.runW = 0 ∧ r'.diffs = [] ∧ r'.noseqW = min 64 ((s.mm m).noseqW + 1)) := by
  refine ⟨_, rfl, ⟨rfl, rfl, rfl, rfl, rfl⟩, fun q l hq hl hnext hrun hseen => ?_, fun hq ⟨hunc, hmaint, hssf, htsf, hspoilt⟩ => ?_⟩
  · have hfind : (s.mm m).seenP.find? (fun x => decide (x.1 = q)) = none :=
      List.find?_eq_none.mpr fun x hx => by simpa using hseen x hx
    simp only [hq, hl, hfind, if_pos hnext, Bool.false_eq_true, if_false, Option.bind_some, Option.map_none]
    exact ⟨trivial, if_neg (by omega)⟩
  · have hclean : (m, false) ∉ s.prot.spoilt := by simpa using hspoilt
    simp [hq, hunc, hmaint, hssf, htsf, hclean]

end

/-! ## Alignment (R305) -/

section
variable (d : Int)

theorem diffsSettled_replicate : diffsSettled (List.replicate 8 d) = true := by
  simp [diffsSettled]

theorem largestDiff_replicate : largestDiff (List.replicate 8 d) = d.natAbs := by
  simp [largestDiff, List.replicate]

/-- The sign of equal differences. -/
theorem foldl_replicate_neg :
    decide ((List.replicate 8 d).foldl (fun a d => if a.natAbs < d.natAbs then d else a) 0 < 0) = decide (d < 0) := by
  by_cases h : d = 0
  · simp [h, List.replicate]
  · simp [h, List.replicate]

end

section
variable {s : State} {m n delay : Nat} {d : Int} {r : MmRun}

theorem State.mmAlign_unready (hr : s.mm m = r) (h : r.runW < 8) : s.mmAlign m n delay = s := by
  subst hr
  exact if_neg fun hready => absurd hready.1 (by omega)

section
variable (hr : s.mm m = r) (hW : 8 ≤ r.runW) (hP : 8 ≤ r.runP) (hd : r.diffs = List.replicate 8 d)
include hr hW hP hd

/-- The one difference exceeds DELAY. -/
theorem State.mmAlign_beyond (h : delay < d.natAbs) : s.mmAlign m n delay = (s.withMm m fun r => { r with delay := true }).refreshMm m := by
  unfold State.mmAlign
  simp only [hr, hd, diffsSettled_replicate, largestDiff_replicate]
  rw [if_pos ⟨hW, hP, trivial⟩, if_pos h]

/-- DELAY bridges the one difference. -/
theorem State.mmAlign_within (h : d.natAbs ≤ delay) (h1 : s.mmState m = 1) (hnoseq : r.noseq = false) (hhbm : s.prot.hbmFault = false) :
    ∃ f : MmRun → MmRun, (∀ r, (f r).retime = r.retime) ∧
      s.mmAlign m n delay = ((s.withMm m fun r => { r with delay := false }).setMm m 2 (decide (d < 0)) d.natAbs).withMm m f := by
  have hcause : (s.withMm m fun r => { r with delay := false }).mmCause m = 0 := by
    simp [State.mmCause_eq_zero, hr, hnoseq, hhbm]
  have hsame := State.refreshMm_same (s.withMm m fun r => { r with delay := false }) m (by simp [h1]) hcause
  unfold State.mmAlign
  simp only [hr, hd, diffsSettled_replicate, largestDiff_replicate, foldl_replicate_neg, hsame]
  rw [if_pos ⟨hW, hP, trivial⟩, if_neg (by omega), State.mmState_withMm, if_pos h1]
  refine ⟨_, ?_, rfl⟩
  exact fun _ => rfl

end

/-! ## Re-timing (R308) -/

theorem mergeDelay_lt (g : Group) : mergeDelay g < 2 ^ 13 := Nat.mod_lt _ (by decide)

theorem State.mmRetime_none (hr : s.mm m = r) (h : r.diffs = []) : s.mmRetime m delay = s.withMm m fun r => { r with retime := false } := by
  unfold State.mmRetime
  simp only [hr, h]

theorem State.mmRetime_newest {ds : List Int} (h : (s.mm m).diffs = d :: ds) (h2 : s.mmState m = 2) (hd : d.natAbs ≤ delay) :
    s.mmRetime m delay = ((s.setMm m 2 (decide (d < 0)) d.natAbs).withMm m fun r => { r with
      retime := false, lateSince := none, lateReported := false
      notValid := r.notValid + (d.natAbs - s.mmDelta m) }).raise Ev.MM_RETIME [m, s.mmDelta m, d.natAbs] := by
  unfold State.mmRetime
  simp only [h]
  rw [if_neg (by omega)]

/-- The group stays aligned, at the difference observed last. -/
theorem State.mmRetime_spec {g : Group} {ds : List Int} (h : (s.mm m).diffs = d :: ds) (h2 : s.mmState m = 2) (hd : d.natAbs ≤ mergeDelay g) :
    let t := s.mmRetime m (mergeDelay g)
    t.mmState m = 2 ∧ t.mmEarly m = decide (d < 0) ∧ t.mmDelta m = d.natAbs ∧ (t.mm m).lateSince = none ∧
      (t.mm m).notValid = (s.mm m).notValid + (d.natAbs - s.mmDelta m) ∧
      ⟨Ev.MM_RETIME.code, false, s.tick, contentOf Ev.MM_RETIME.widths [m, s.mmDelta m, d.natAbs]⟩ ∈ t.changes := by
  have hstate := s.mmState_setMm m 2 (decide (d < 0)) d.natAbs (by decide)
  have hearly := s.mmEarly_setMm m 2 (decide (d < 0)) d.natAbs
  have hdelta := s.mmDelta_setMm m 2 (decide (d < 0)) d.natAbs (hd.trans_lt (mergeDelay_lt g))
  have hrun := s.mm_setMm m 2 (decide (d < 0)) d.natAbs m
  have htick : (s.setMm m 2 (decide (d < 0)) d.natAbs).tick = s.tick := by rw [State.setMm_eq, if_pos h2, State.tick_setObj]
  rw [State.mmRetime_newest h h2 hd]
  generalize s.setMm m 2 (decide (d < 0)) d.natAbs = u at hstate hearly hdelta hrun htick ⊢
  refine ⟨hstate, hearly, hdelta, ?_, ?_, ?_⟩
  · rw [State.mm_raise, State.mm_withMm_same]
  · rw [State.mm_raise, State.mm_withMm_same, hrun]
  · rw [State.changes_raise, State.tick_withMm, htick]
    exact List.mem_append_right _ List.mem_cons_self

/-! ## What a counted frame leads to -/

/-- In ALIGNING, without a cause of FALLBACK, the frame may align the group. -/
theorem State.mmSettle_aligning {g : Group} (run : Nat) (h1 : s.mmState m = 1) (hnoseq : (s.mm m).noseq = false) (hP : (s.mm m).noseqP < 64)
    (hdelay : (s.mm m).delay = false) (hhbm : s.prot.hbmFault = false) :
    s.mmSettle m n g run =
      let v := (s.withMm m fun r => { r with noseq := false }).mmAlign m n (mergeDelay g)
      if (v.mm m).retime then v.mmRetime m (mergeDelay g) else v := by
  have hcount : (s.mm m).losesSequence run = false := by simp [MmRun.losesSequence, hnoseq, hP]
  have hcause : (s.withMm m fun r => { r with noseq := false }).mmCause m = 0 := by
    simp [State.mmCause_eq_zero, hdelay, hhbm]
  have hsame := State.refreshMm_same (s.withMm m fun r => { r with noseq := false }) m (by simp [h1]) hcause
  unfold State.mmSettle
  simp only [hcount, hsame, State.mmState_withMm, h1, true_or, if_true]

/-- A group in ALIGNING whose copies have delivered 8 consecutive values at one difference (R305). -/
theorem State.mmSettle_aligns {g : Group} (run : Nat) (h1 : s.mmState m = 1) (hnoseq : (s.mm m).noseq = false) (hnoseqP : (s.mm m).noseqP < 64)
    (hdelay : (s.mm m).delay = false) (hretime : (s.mm m).retime = false) (hhbm : s.prot.hbmFault = false)
    (hW : 8 ≤ (s.mm m).runW) (hP : 8 ≤ (s.mm m).runP) (hd : (s.mm m).diffs = List.replicate 8 d) :
    let t := s.mmSettle m n g run
    (d.natAbs ≤ mergeDelay g → t.mmState m = 2 ∧ t.mmEarly m = decide (d < 0) ∧ t.mmDelta m = d.natAbs) ∧
      (mergeDelay g < d.natAbs → t.mmState m = 3 ∧ (t.mm m).delay = true) := by
  rw [State.mmSettle_aligning run h1 hnoseq hnoseqP hdelay hhbm]
  let u := s.withMm m fun r => { r with noseq := false }
  have hu : u.mm m = { s.mm m with noseq := false } := State.mm_withMm_same _ _ _
  refine ⟨fun h => ?_, fun h => ?_⟩
  · obtain ⟨f, hf, halign⟩ := State.mmAlign_within (n := n) hu hW hP hd h h1 rfl hhbm
    have hwaits : ((u.mmAlign m n (mergeDelay g)).mm m).retime = false := by
      rw [halign, State.mm_withMm_same, hf, State.mm_setMm, State.mm_withMm_same, hu]
      exact hretime
    rw [if_neg (by rw [hwaits]; decide), halign, State.mmState_withMm, State.mmEarly_withMm, State.mmDelta_withMm]
    exact ⟨State.mmState_setMm _ _ _ _ _ (by decide), State.mmEarly_setMm _ _ _ _ _,
      State.mmDelta_setMm _ _ _ _ _ (h.trans_lt (mergeDelay_lt g))⟩
  · have halign := State.mmAlign_beyond (n := n) hu hW hP hd h
    have hrun : ((u.mmAlign m n (mergeDelay g)).mm m) = { s.mm m with noseq := false, delay := true } := by
      rw [halign, State.mm_refreshMm, State.mm_withMm_same, hu]
    rw [if_neg (by rw [hrun]; simp [hretime]), hrun, halign,
      State.refreshMm_cause _ _ (by rw [State.mmState_withMm, State.mmState_withMm, h1]; decide) fun h0 => by
        obtain ⟨_, _, hnone⟩ := (State.mmCause_eq_zero _ _).mp h0
        simp at hnone]
    exact ⟨State.mmState_setMm _ _ _ _ _ (by decide), rfl⟩

/-- Both copies have been without sequence for 64 frames (R309). -/
theorem State.mmSettle_silent {g : Group} (run : Nat) (hstate : s.mmState m ≠ 0) (hnoseq : (s.mm m).noseq = false) (hW : 64 ≤ (s.mm m).noseqW)
    (hP : 64 ≤ (s.mm m).noseqP) (hrun : (s.mm m).runW < 8) (hdiffs : (s.mm m).diffs = []) :
    let t := s.mmSettle m n g run
    t.mmState m = 3 ∧ (t.mm m).noseq = true ∧ t.mmCause m = 1 := by
  have hcount : (s.mm m).losesSequence run = true := by simp [MmRun.losesSequence, hnoseq, hW, hP]
  have hrefresh := State.refreshMm_cause (s.withMm m fun r => { r with noseq := true }) m (by simpa using hstate) (by simp [State.mmCause_noseq])
  have hu3 : ((s.withMm m fun r => { r with noseq := true }).refreshMm m).mmState m = 3 := by
    rw [hrefresh]; exact State.mmState_setMm _ _ _ _ _ (by decide)
  have hum : ((s.withMm m fun r => { r with noseq := true }).refreshMm m).mm m = { s.mm m with noseq := true } := by
    rw [State.mm_refreshMm, State.mm_withMm_same]
  unfold State.mmSettle
  simp only [hcount]
  generalize (s.withMm m fun r => { r with noseq := true }).refreshMm m = u at hu3 hum ⊢
  have hnot : (u.mm m).noseq = true := by rw [hum]
  have halign : (if u.mmState m = 1 ∨ u.mmState m = 3 then u.mmAlign m n (mergeDelay g) else u) = u := by
    rw [if_pos (Or.inr hu3), State.mmAlign_unready hum hrun]
  rw [halign]
  split
  · rw [State.mmRetime_none hum hdiffs]
    exact ⟨hu3, by simp [hnot], State.mmCause_noseq _ _ (by simp [hnot])⟩
  · exact ⟨hu3, hnot, State.mmCause_noseq _ _ hnot⟩

end

/-! ## The HBM (R309, R311) -/

section
variable (s : State)

theorem State.loupeAbort_keeps (cause : Nat) :
    (s.loupeAbort cause).prot = s.prot ∧ ∀ k, k.c ≠ 0x50 → (s.loupeAbort cause).obj k = s.obj k := by
  unfold State.loupeAbort
  split
  case isFalse => exact ⟨rfl, fun _ _ => rfl⟩
  case isTrue =>
    extract_lets t
    have ht : t.prot = s.prot ∧ ∀ k, t.obj k = s.obj k := by
      simp only [t]
      split <;> exact ⟨rfl, fun _ => rfl⟩
    refine ⟨?_, fun k hk => ?_⟩
    · simp [ht.1]
    · have hne (k' : Key) (h : k'.c = 0x50) : k ≠ k' := fun e => hk (e ▸ h)
      rw [State.obj_raise, State.obj_setObj_ne _ _ (hne _ rfl), State.obj_setObj_ne _ _ (hne _ rfl), State.obj_setObj_ne _ _ (hne _ rfl), ht.2]

theorem State.pmRecover_keeps : s.pmRecover.prot = s.prot ∧ ∀ k, k ≠ Obj.PM_HIST_LOST → s.pmRecover.obj k = s.obj k := by
  unfold State.pmRecover
  extract_lets written lost
  refine ⟨?_, fun k hk => ?_⟩
  · rw [State.prot_bump]
    refine foldl_keeps State.prot (fun _ _ => ?_) _ _
    exact State.prot_setPmPoint _ _ _
  · rw [State.obj_bump_ne _ _ hk]
    refine foldl_keeps (State.obj · k) (fun _ _ => ?_) _ _
    exact State.obj_setPmPoint _ _ _ _

theorem State.hbmFault_hbmFallback (cause : Nat) : (s.hbmFallback cause).prot.hbmFault = true := by
  unfold State.hbmFallback
  refine (foldl_keeps (fun t : State => t.prot.hbmFault) (fun t p => ?_) _ _).trans rfl
  rw [State.prot_refreshMm, State.hbmFault_withMm]

theorem State.hbmFault_hbmBack : s.hbmBack.prot.hbmFault = false := by
  unfold State.hbmBack
  refine (foldl_keeps (fun t : State => t.prot.hbmFault) (fun t p => ?_) _ _).trans rfl
  rw [State.prot_refreshMm]

variable {s} {n : Nat} {g : Group}

/-- The one merge group falls back, and its frames are dropped. -/
theorem State.hbmFallback_single (h : mergeGroups s.act = [(n, g)]) (hstate : s.mmState (mergeIndex g) ≠ 0) (cause : Nat) :
    let t := s.hbmFallback cause
    let m := mergeIndex g
    t.mmState m = 3 ∧ (t.mm m).framesW = [] ∧ (t.mm m).framesP = [] := by
  intro t m
  let v := ((s.withProt fun p => { p with hbmFault := true }).raise Ev.MM_FALLBACK [cause]).withMm m fun r => { r with framesW := [], framesP := [] }
  have hcause : v.mmCause m ≠ 0 := fun h0 => by
    obtain ⟨_, hfault, _⟩ := (State.mmCause_eq_zero _ _).mp h0
    exact Bool.false_ne_true hfault.symm
  have ht : t = v.setMm m 3 (v.mmEarly m) (v.mmDelta m) := by
    simp only [t, State.hbmFallback]
    rw [h, List.foldl_cons, List.foldl_nil]
    exact State.refreshMm_cause v m hstate hcause
  have hrun : v.mm m = { s.mm m with framesW := [], framesP := [] } := State.mm_withMm_same _ _ _
  rw [ht, State.mm_setMm, hrun]
  exact ⟨State.mmState_setMm _ _ _ _ _ (by decide), rfl, rfl⟩

/-- The one merge group leaves FALLBACK where the HBM was its only cause. -/
theorem State.hbmBack_single (h : mergeGroups s.act = [(n, g)]) (hstate : s.mmState (mergeIndex g) = 3) (hnoseq : (s.mm (mergeIndex g)).noseq = false)
    (hdelay : (s.mm (mergeIndex g)).delay = false) : s.hbmBack.mmState (mergeIndex g) = 1 := by
  let v := s.withProt fun p => { p with hbmFault := false }
  have hcause : v.mmCause (mergeIndex g) = 0 := (State.mmCause_eq_zero _ _).mpr ⟨hnoseq, rfl, hdelay⟩
  have ht : s.hbmBack = v.setMm (mergeIndex g) 1 false 0 := by
    unfold State.hbmBack
    rw [h, List.foldl_cons, List.foldl_nil]
    exact State.refreshMm_clear v _ hstate hcause
  rw [ht]
  exact State.mmState_setMm _ _ _ _ _ (by decide)

end

section
variable {s t : State}

theorem State.mm_of_prot (h : t.prot = s.prot) (m : Nat) : t.mm m = s.mm m :=
  congrArg (fun p : Protection => Map.get ({} : MmRun) p.merges (Key.unit m)) h

theorem State.mmState_of_obj {m : Nat} (h : t.obj (Obj.MM_STATE m) = s.obj (Obj.MM_STATE m)) : t.mmState m = s.mmState m :=
  congrArg (field · 31 28) h

/-- Beside the fallback, the failure only ends a recording of the loupe. -/
theorem exec_hbmFailure_met {reads : Option Nat} (hlimit : ∀ n, reads = some n → s.obj Obj.MM_HBM_ERR_LIMIT < n)
    (hfault : s.prot.hbmFault = false) :
    ∃ t cause, exec (.hbmFailure reads) s = .next t ∧ t.prot = (s.opened.hbmFallback cause).prot ∧
      ∀ m, t.obj (Obj.MM_STATE m) = (s.opened.hbmFallback cause).obj (Obj.MM_STATE m) := by
  show ∃ t cause, execHbmFailure reads s = .next t ∧ _
  unfold execHbmFailure
  cases reads with
  | none =>
    obtain ⟨hprot, hobj⟩ := (s.atBoundary fun t => t.hbmFallback 1).loupeAbort_keeps 2
    exact ⟨_, 1, if_pos ⟨rfl, hfault⟩, hprot, fun m => hobj _ (by simp)⟩
  | some k => exact ⟨_, 2, if_pos ⟨decide_eq_true (hlimit k rfl), hfault⟩, rfl, fun m => rfl⟩

theorem exec_hbmReturn_due (hon : s.domOn 16 = true) (hfault : s.prot.hbmFault = true) : exec .hbmReturn s = .next s.hbmBack.pmRecover :=
  if_pos ⟨hfault, hon⟩

end

/-! ## The commands -/

section
variable {s : State} {m : Fin 2048} {n : Nat} {g : Group}

theorem exec_mmFrameComplete_absent (h : s.mmGroup m = none) (protect : Bool) (f : OduFrame) : exec (.mmFrameComplete m protect f) s = .next s := by
  show execMmFrameComplete m protect f s = _
  unfold execMmFrameComplete
  rw [h]

theorem exec_mmFrameComplete_group (h : s.mmGroup m = some (n, g)) (protect : Bool) (f : OduFrame) :
    exec (.mmFrameComplete m protect f) s = .next (s.mmFrame m protect f n g) := by
  show execMmFrameComplete m protect f s = _
  unfold execMmFrameComplete
  rw [h]

theorem exec_mmAutoRetime_late {since : Nat} (h : s.mmGroup m = some (n, g)) (hlate : (s.mm m).lateSince = some since) (h2 : s.mmState m = 2)
    {new : Nat} (hnew : ((s.mm m).diffs.headD 0).natAbs = new) :
    exec (.mmAutoRetime m) s = .next (if s.now < since + s.obj Obj.MM_RETIME_WAIT then s
      else if s.obj Obj.MM_AUTO_RETIME = 1 ∧ new ≤ mergeDelay g then s.mmRetime m (mergeDelay g)
      else if (s.mm m).lateReported then s
      else (s.withMm m fun r => { r with lateReported := true }).raise Ev.MM_LATE [m, (s.mm m).lateCopy.toNat, new - s.mmDelta m]) := by
  show execMmAutoRetime m s = _
  unfold execMmAutoRetime
  simp only [h, hlate, h2, ne_eq, not_true, false_or, apply_ite Host.Outcome.next, hnew]

end

/-- Settles O40: a frame is counted and then aligns its group or makes it fall back, a late copy waits, re-times or is reported, and the HBM's
fault makes the groups fall back and come back. -/
theorem mirrorMergeAligns : Obligations.MirrorMergeAligns := by
  intro s
  refine ⟨fun m protect f h => exec_mmFrameComplete_absent h protect f, ?_, ?_, ?_, ?_, ?_, ?_⟩
  · intro m f n g q d r h hq _ _ h1 hhbm hnoseq hP hdelay hretime ⟨l, hl, hnext⟩ hrunW hrunP hdiffs hseen
    refine ⟨_, exec_mmFrameComplete_group h false f, ?_⟩
    obtain ⟨r', hframe, hkept, hvalid, -⟩ := s.mmFrame_counts m n f g
    obtain ⟨hW', hdiffs'⟩ := hvalid q l hq hl hnext (Nat.one_le_of_lt hrunW) hseen
    have ht : (s.withMm m fun _ => r').mm m = r' := State.mm_withMm_same _ _ _
    rw [hframe]
    refine State.mmSettle_aligns _ h1 ?_ ?_ ?_ ?_ hhbm ?_ ?_ ?_ <;> rw [ht]
    · rw [hkept.noseq, hnoseq]
    · exact hkept.noseqP.trans_lt hP
    · rw [hkept.delay, hdelay]
    · rw [hkept.retime, hretime]
    · rw [hW']; exact le_min le_rfl (Nat.succ_le_succ hrunW)
    · rw [hkept.runP]; exact hrunP
    · rw [hdiffs', hdiffs]
  · intro m f n g h hq hunc hmaint hssf htsf hspoilt hstate hnoseq hW hP
    refine ⟨_, exec_mmFrameComplete_group h false f, ?_⟩
    obtain ⟨r', hframe, hkept, -, hsilent⟩ := s.mmFrame_counts m n f g
    obtain ⟨hW', hdiffs', hnoseqW'⟩ := hsilent hq ⟨hunc, hmaint, hssf, htsf, hspoilt⟩
    rw [hframe]
    refine State.mmSettle_silent _ hstate ?_ ?_ ?_ ?_ ?_ <;> rw [State.mm_withMm_same]
    · rw [hkept.noseq, hnoseq]
    · rw [hnoseqW', hW]; decide
    · rw [hkept.noseqP]; exact hP
    · rw [hW']; decide
    · exact hdiffs'
  · intro m n g since h hlate h2 r new
    have hexec := exec_mmAutoRetime_late h hlate h2 (new := new) rfl
    refine ⟨fun hearly => ?_, fun hover hauto hfits d ds hd => ?_, fun hover hrefused => ?_⟩
    · rw [hexec, if_pos hearly]
    · have hdelta : d.natAbs ≤ mergeDelay g := by simpa [new, r, hd] using hfits
      exact ⟨_, hexec.trans (by rw [if_neg (by omega), if_pos ⟨hauto, hfits⟩]), State.mmRetime_spec hd h2 hdelta⟩
    · rw [hexec, if_neg (by omega), if_neg (by omega)]
  · intro rq x val v h
    exact congrArg Host.Outcome.next (serveWrite_accepted h acceptMerge rfl)
  · intro reads hlimit hfault
    obtain ⟨t, cause, hexec, hprot, hobj⟩ := exec_hbmFailure_met hlimit hfault
    refine ⟨t, hexec, by rw [hprot]; exact State.hbmFault_hbmFallback _ _, fun n g hsingle hstate => ?_⟩
    rw [State.mmState_of_obj (hobj _), State.mm_of_prot hprot]
    exact State.hbmFallback_single (s := s.opened) hsingle hstate cause
  · intro hon hfault
    obtain ⟨hprot, hobj⟩ := s.hbmBack.pmRecover_keeps
    refine ⟨_, exec_hbmReturn_due hon hfault, by rw [hprot]; exact State.hbmFault_hbmBack _, fun n g hsingle hstate hnoseq hdelay => ?_⟩
    rw [State.mmState_of_obj (hobj _ (by simp))]
    exact State.hbmBack_single hsingle hstate hnoseq hdelay

end Sys2Proof.Machine
end

section
/-! PROOFS. Line encryption: what work on keys leaves alone, and what a channel reads as after it; writes into the key store. -/

namespace Sys2Proof.Machine

/-! ## Work on the secure line alone -/

/-- Two states that differ in the secure line alone. -/
def State.sameButSec (s t : State) : Prop := t = { s with sec := t.sec }

section
variable {s t : State}

theorem State.sameButSec.obj (h : s.sameButSec t) (k : Key) : t.obj k = s.obj k := by rw [h]; rfl
theorem State.sameButSec.declared (h : s.sameButSec t) (d i : Nat) : t.declared d i = s.declared d i := by rw [h]; rfl
theorem State.sameButSec.changes (h : s.sameButSec t) : t.changes = s.changes := by rw [h]

end

section
variable (s : State) (e ch : Nat)

theorem State.trigger_sameButSec : s.sameButSec (s.trigger e ch) := by
  unfold State.trigger
  split <;> rfl

theorem State.derive_sameButSec (receive : Bool) : s.sameButSec (s.derive e ch receive) := by
  unfold State.derive
  extract_lets c present
  split
  · rfl
  · split
    · rfl
    · cases receive <;> rfl

/-! ## A channel after work on its keys -/

@[simp] theorem State.secChan_send (l : Nat) (m : KaMessage) : (s.send l m).secChan e ch = s.secChan e ch := rfl

theorem State.secChan_settle : ∃ since, (s.settle e ch).secChan e ch = { s.secChan e ch with eligible := since } :=
  ⟨_, s.secChan_withChan_same e ch _⟩

theorem State.trigger_on (h : (s.txCfg e ch).tx = true ∧ (s.txCfg e ch).txEn = true ∧ (s.secChan e ch).txCurrent.isSome = true) :
    s.trigger e ch = (s.withChan e ch fun c => { c with rolling := true }).settle e ch := if_pos h

theorem State.trigger_off (h : ¬ ((s.txCfg e ch).tx = true ∧ (s.txCfg e ch).txEn = true ∧ (s.secChan e ch).txCurrent.isSome = true)) :
    s.trigger e ch = s := if_neg h

theorem State.secChan_trigger : ∃ rolling since, (s.trigger e ch).secChan e ch = { s.secChan e ch with rolling := rolling, eligible := since } := by
  unfold State.trigger
  split
  · obtain ⟨since, h⟩ := (s.withChan e ch fun c => { c with rolling := true }).secChan_settle e ch
    exact ⟨true, since, by rw [h, State.secChan_withChan_same]⟩
  · exact ⟨_, _, rfl⟩

/-- The parts of a channel that no NEXT concerns: the keys in use, the counts of frames, and what was delivered. -/
structure SecChan.SameUse (c d : SecChan) : Prop where
  txCurrent : d.txCurrent = c.txCurrent
  rxCurrent : d.rxCurrent = c.rxCurrent
  fc : d.fc = c.fc
  rolling : d.rolling = c.rolling
  lastFc : d.lastFc = c.lastFc
  failRun : d.failRun = c.failRun
  goodRun : d.goodRun = c.goodRun
  delivered : d.delivered = c.delivered

theorem SecChan.SameUse.refl (c : SecChan) : c.SameUse c := ⟨rfl, rfl, rfl, rfl, rfl, rfl, rfl, rfl⟩

theorem State.settle_sameUse {c : SecChan} (h : c.SameUse (s.secChan e ch)) : c.SameUse ((s.settle e ch).secChan e ch) := by
  obtain ⟨since, hs⟩ := s.secChan_settle e ch
  rw [hs]
  exact { h with }

theorem State.derive_sameUse (receive : Bool) : (s.secChan e ch).SameUse ((s.derive e ch receive).secChan e ch) := by
  unfold State.derive
  extract_lets c present
  split
  · exact .refl _
  · split
    · exact .refl _
    · cases receive with
      | true =>
        simp only [if_true, State.secChan_send, State.secChan_withChan_same]
        exact { SecChan.SameUse.refl c with }
      | false =>
        simp only [Bool.false_eq_true, if_false]
        refine State.settle_sameUse _ _ _ ?_
        rw [State.secChan_withChan_same]
        exact { SecChan.SameUse.refl c with }

/-! ## Writes into the key store, and a supply warning that defers them (R342) -/

/-- The report that a supply warning defers a write, made once per warning. -/
def State.reportDeferred (s : State) (e : Nat) : State :=
  if s.sec.warned then s
  else (s.withSec fun x => { x with warned := true }).raise Ev.KEY_DEFERRED [e, ((List.range 12).find? fun r => bit (s.obj Obj.PWR_WARN_ACTIVE) r).getD 0]

theorem State.deferKeys_one (l : Nat) :
    s.deferKeys l [(e, ch)] = (s.withChan e ch fun c => { c with deferred := true }).reportDeferred l := rfl

@[simp] theorem State.secChan_reportDeferred (l : Nat) : (s.reportDeferred l).secChan e ch = s.secChan e ch := by
  unfold State.reportDeferred
  split <;> rfl

@[simp] theorem State.deferred_reportDeferred (l : Nat) : (s.reportDeferred l).sec.deferred = s.sec.deferred := by
  unfold State.reportDeferred
  split <;> rfl

theorem State.secChan_deferKeys_one (l : Nat) : (s.deferKeys l [(e, ch)]).secChan e ch = { s.secChan e ch with deferred := true } := by
  rw [State.deferKeys_one, State.secChan_reportDeferred, State.secChan_withChan_same]

variable {s}

theorem State.keysHeld_eq_false (h : s.obj Obj.PWR_WARN_ACTIVE = 0) : s.keysHeld = false := decide_eq_false (not_not.mpr h)
theorem State.keysHeld_eq_true (h : s.obj Obj.PWR_WARN_ACTIVE ≠ 0) : s.keysHeld = true := decide_eq_true h

theorem State.keyWrite_applies (h : s.obj Obj.PWR_WARN_ACTIVE = 0) (w : KeyWrite) : s.keyWrite w = applyKeyWrite w s :=
  if_neg fun hw => by simp [State.keysHeld_eq_false h] at hw

theorem State.keyWrite_waits (h : s.obj Obj.PWR_WARN_ACTIVE ≠ 0) {w : KeyWrite} (hw : s.writesKey w = true) : s.keyWrite w =
    (s.withSec fun x => { x with deferred := x.deferred ++ [w] }).deferKeys (keyWriteEngine w) (s.keyWriteHalves w) :=
  if_pos ⟨State.keysHeld_eq_true h, hw⟩

/-! ### SEC_KEY_INSTALL (R337) -/

/-- An installed key is the half's NEXT, and the keys in use stay. -/
theorem State.install_applied (h : s.obj Obj.PWR_WARN_ACTIVE = 0) (receive : Bool) (k : SecKey) :
    let c := (s.keyWrite (.install e ch receive k)).secChan e ch
    (if receive then c.rxNext else c.txNext) = some k ∧ c.txCurrent = (s.secChan e ch).txCurrent ∧ c.rxCurrent = (s.secChan e ch).rxCurrent := by
  rw [State.keyWrite_applies h]
  cases receive with
  | true => rw [show (applyKeyWrite (.install e ch true k) s).secChan e ch = _ from s.secChan_withChan_same e ch _]; exact ⟨rfl, rfl, rfl⟩
  | false =>
    obtain ⟨since, hs⟩ := (s.withChan e ch fun c => { c with txNext := some k, txHost := true }).secChan_settle e ch
    rw [show (applyKeyWrite (.install e ch false k) s).secChan e ch = _ from hs, State.secChan_withChan_same]
    exact ⟨rfl, rfl, rfl⟩

/-- Under a supply warning an installed key waits, and the channel shows it. -/
theorem State.install_deferred (h : s.obj Obj.PWR_WARN_ACTIVE ≠ 0) (receive : Bool) (k : SecKey) :
    let t := s.keyWrite (.install e ch receive k)
    t.sec.deferred = s.sec.deferred ++ [.install e ch receive k] ∧ t.secChan e ch = { s.secChan e ch with deferred := true } := by
  rw [State.keyWrite_waits h rfl]
  exact ⟨State.deferred_reportDeferred _ _, State.secChan_deferKeys_one _ e ch e⟩

end

/-! ### Deferred writes proceed (R342) -/

/-- The writes that wait, and whether the warning has been reported. -/
def State.keyWaits (s : State) : List KeyWrite × Bool := (s.sec.deferred, s.sec.warned)

section
variable (s : State) (e ch : Nat)

@[simp] theorem State.keyWaits_setObj (k : Key) (v : Nat) : (s.setObj k v).keyWaits = s.keyWaits := rfl

@[simp] theorem State.keyWaits_trigger : (s.trigger e ch).keyWaits = s.keyWaits := by
  unfold State.trigger
  split <;> rfl

@[simp] theorem State.keyWaits_derive (receive : Bool) : (s.derive e ch receive).keyWaits = s.keyWaits := by
  unfold State.derive
  extract_lets c present
  split
  · rfl
  · split
    · rfl
    · cases receive <;> rfl

theorem State.keyWaits_goLive (l : LinkSecret) : (s.goLive e l).keyWaits = s.keyWaits := by
  unfold State.goLive
  refine (foldl_keeps State.keyWaits (fun u c => ?_) _ _).trans ?_
  · dsimp only
    split <;> simp only [State.keyWaits_trigger, State.keyWaits_derive]
  · exact foldl_keeps State.keyWaits (fun t i => t.keyWaits_setObj (Obj.SEC_LINK_STATE i) 2) _ _

theorem State.keyWaits_applyKeyWrite (w : KeyWrite) : (applyKeyWrite w s).keyWaits = s.keyWaits := by
  cases w with
  | install e ch receive k => cases receive <;> rfl
  | derive e ch receive => exact s.keyWaits_derive e ch receive
  | live e l => exact s.keyWaits_goLive e l

/-- A channel of the table is marked no longer. -/
def State.unmark (s : State) (x : Key × SecChan) : State :=
  if x.2.deferred then s.withSec fun y => { y with channels := Map.set {} y.channels x.1 { x.2 with deferred := false } } else s

/-- The state from which the writes that have waited are made: none waits, no channel is marked, and the next warning is reported. -/
def State.released (s : State) : State :=
  s.sec.channels.foldl State.unmark (s.withSec fun x => { x with deferred := [], warned := false })

theorem State.keyWaits_released : s.released.keyWaits = ([], false) := by
  refine (foldl_keeps State.keyWaits (fun t x => ?_) _ _).trans rfl
  unfold State.unmark
  split <;> rfl

variable {s}

theorem State.unmark_deferred (x : Key × SecChan) (h : x.2.deferred = true → x.1 ≠ Key.unit (1024 * e + ch) → (s.secChan e ch).deferred = false)
    (hnot : x.2.deferred = false → (s.secChan e ch).deferred = false) : ((s.unmark x).secChan e ch).deferred = false := by
  unfold State.unmark
  split
  case isTrue hx =>
    unfold State.secChan State.withSec
    rw [Map.get_set]
    split
    · rfl
    · exact h hx (Ne.symm ‹_›)
  case isFalse hx => exact hnot (by simpa using hx)

/-- A key reads as one of the entries listed for it, or as unlisted. -/
theorem Map.get_mem {α : Type} (d : α) (m : Map α) (k : Key) : Map.get d m k = d ∨ (k, Map.get d m k) ∈ m := by
  induction m with
  | nil => exact .inl rfl
  | cons x m ih =>
    by_cases hx : x.1 = k
    · have hget : Map.get d (x :: m) k = x.2 := if_pos hx
      exact .inr (List.mem_cons.mpr (.inl (by rw [hget, ← hx])))
    · have hget : Map.get d (x :: m) k = Map.get d m k := if_neg hx
      rw [hget]
      exact ih.imp_right (List.mem_cons_of_mem _)

theorem State.released_unmarked : (s.released.secChan e ch).deferred = false := by
  have hafter (t : State) (x : Key × SecChan) (h : (t.secChan e ch).deferred = false) : ((t.unmark x).secChan e ch).deferred = false :=
    State.unmark_deferred e ch x (fun _ _ => h) fun _ => h
  cases hmark : (s.secChan e ch).deferred with
  | false => exact List.foldlRecOn (motive := fun t : State => (t.secChan e ch).deferred = false) _ _ hmark fun t ht x _ => hafter t x ht
  | true =>
    have hmem : (Key.unit (1024 * e + ch), s.secChan e ch) ∈ s.sec.channels :=
      (Map.get_mem {} s.sec.channels (Key.unit (1024 * e + ch))).resolve_left fun h => by
        rw [show s.secChan e ch = {} from h] at hmark
        exact Bool.false_ne_true hmark
    exact foldl_reaches (P := fun _ => True) (Q := fun t : State => (t.secChan e ch).deferred = false) (fun _ _ _ h => h)
      (fun t _ => State.unmark_deferred e ch _ (fun _ h => absurd rfl h) fun h => absurd (hmark.symm.trans h) (by decide)) hafter hmem trivial

theorem State.keysProceed_held (h : s.obj Obj.PWR_WARN_ACTIVE ≠ 0) : s.keysProceed = s := if_pos (State.keysHeld_eq_true h)

theorem State.keysProceed_free (h : s.obj Obj.PWR_WARN_ACTIVE = 0) :
    s.keysProceed = s.sec.deferred.foldl (fun v w => applyKeyWrite w v) s.released :=
  if_neg (by simp [State.keysHeld_eq_false h])

/-- Once every rail has recovered nothing waits, and an installed key that waited is NEXT. -/
theorem State.keysProceed_spec (h : s.obj Obj.PWR_WARN_ACTIVE = 0) : s.keysProceed.keyWaits = ([], false) ∧
    ∀ e ch k, s.sec.deferred = [.install e ch true k] →
      (s.keysProceed.secChan e ch).rxNext = some k ∧ (s.keysProceed.secChan e ch).deferred = false := by
  rw [State.keysProceed_free h]
  refine ⟨(foldl_keeps State.keyWaits (fun t w => t.keyWaits_applyKeyWrite w) _ _).trans s.keyWaits_released, fun e ch k hd => ?_⟩
  have hset : (applyKeyWrite (.install e ch true k) s.released).secChan e ch = _ := s.released.secChan_withChan_same e ch _
  rw [hd, List.foldl_cons, List.foldl_nil, hset]
  exact ⟨rfl, State.released_unmarked e ch⟩

theorem State.atBoundary_same {f : State → State} (h : f s.opened = s.opened) : s.atBoundary f = s := by
  have hback := congrArg (fun t : State => ({ t with now := s.now, tick := s.tick } : State)) h
  exact hback

theorem exec_keyDeferredProceed (s : State) : exec .keyDeferredProceed s = .next (s.atBoundary State.keysProceed) := rfl

end

/-! ### Erasure (R338) -/

section
variable {α : Type} [DecidableEq α] {P : α → Prop}

/-- A table that is written again, every entry with a value of one kind, holds only values of that kind. -/
theorem Map.get_foldl_set_of {d : α} (hd : P d) {f : Key × α → α} (hf : ∀ x, P (f x)) (l : Map α) (k : Key) :
    P (Map.get d (l.foldl (fun m x => Map.set d m x.1 (f x)) []) k) := by
  refine List.foldlRecOn (motive := fun m => P (Map.get d m k)) l _ hd fun m hm x _ => ?_
  rw [Map.get_set]
  split
  · exact hf x
  · exact hm

end

section
variable (s : State)

/-- No key is left, used or waiting. -/
def SecChan.keyless (c : SecChan) : Prop := c.txCurrent = none ∧ c.txNext = none ∧ c.rxCurrent = none ∧ c.rxNext = none

theorem State.zeroise_keyless (e ch : Nat) : (s.zeroise.secChan e ch).keyless :=
  Map.get_foldl_set_of (P := SecChan.keyless) ⟨rfl, rfl, rfl, rfl⟩ (fun _ => ⟨rfl, rfl, rfl, rfl⟩) _ _

theorem State.zeroise_links (e : Nat) : (s.zeroise.link e).secret = none ∧ (s.zeroise.link e).agreement = none :=
  Map.get_foldl_set_of (P := fun l : SecLink => l.secret = none ∧ l.agreement = none) ⟨rfl, rfl⟩ (fun _ => ⟨rfl, rfl⟩) _ _

theorem State.zeroise_linkState (e : Fin 4) : s.zeroise.obj (Obj.SEC_LINK_STATE e) = 0 := by
  have hmem : (e : Nat) ∈ [0, 1, 2, 3] := by fin_cases e <;> decide
  refine foldl_reaches (P := fun _ => True) (Q := fun t : State => t.obj (Obj.SEC_LINK_STATE e) = 0) (a := (e : Nat)) (fun _ _ _ h => h)
    (fun t _ => t.obj_setObj_same (Obj.SEC_LINK_STATE e) 0) (fun t b h => ?_) hmem trivial
  rw [State.obj_setObj]
  split
  · rfl
  · exact h

end

/-! ## The writes -/

section
variable {rq : Rq} {x : Sender} {val v : Val} {s : State}

theorem State.secChan_served (e ch : Nat) : (s.served rq x).secChan e ch = s.secChan e ch := by
  unfold State.secChan
  rw [State.sec_served]

theorem State.txCfg_served (e ch : Nat) : (s.served rq x).txCfg e ch = s.txCfg e ch := by
  unfold State.txCfg State.rxCfg State.active
  rw [State.sec_served, State.shadow_served, State.now_served, State.act_served]

theorem engine_key_ne (e : Fin 4) : (e : Nat) ≠ 0xFF := by omega

theorem acceptSecure_roll (e : Fin 4) (v : Val) (s : State) : acceptSecure (Obj.SEC_ROLL e) v s = (.ok, s.trigger e v.v) :=
  if_neg (engine_key_ne e)

theorem acceptSecure_install (e : Fin 4) (v : Val) (s : State) :
    acceptSecure (Obj.SEC_KEY_INSTALL e) v s = acceptInstall (Obj.SEC_KEY_INSTALL e) v s :=
  if_neg (engine_key_ne e)

theorem exec_secMapWrite (index : Nat) (h : Accepted rq x (Obj.SEC_MAP index) val v s) : exec (.secMapWrite rq index val) s = .next (
    if (s.served rq x).mapUsed index = true then State.deliver (s.served rq x) rq Op.write .precond []
    else ((s.served rq x).stage (Obj.SEC_MAP index) v.v).answered rq) := by
  have hu : acceptSecure (Obj.SEC_MAP index) v (s.served rq x) =
      if (s.served rq x).mapUsed index = true then (.precond, s.served rq x) else (.ok, (s.served rq x).stage (Obj.SEC_MAP index) v.v) := rfl
  show Host.Outcome.next (serveWrite acceptSecure rq (Obj.SEC_MAP index) val s) = _
  split
  · rw [serveWrite_refused h acceptSecure (hu.trans (if_pos ‹_›))]
  · rw [serveWrite_accepted h acceptSecure (hu.trans (if_neg ‹_›))]

theorem exec_secRoll (e : Fin 4) (h : Accepted rq x (Obj.SEC_ROLL e) val v s) :
    exec (.secRoll rq e val) s = .next (((s.served rq x).trigger e v.v).answered rq) :=
  congrArg Host.Outcome.next (serveWrite_accepted h acceptSecure (acceptSecure_roll e v _))

theorem exec_secZeroise (h : Accepted rq x Obj.SEC_ZEROISE val v s) :
    exec (.secZeroise rq val) s = .next ((s.served rq x).zeroise.answered rq) :=
  congrArg Host.Outcome.next (serveWrite_accepted h acceptSecure rfl)

end

/-! ### SEC_KEY_INSTALL -/

section
variable {rq : Rq} {x : Sender} {val v : Val} {s : State} {e : Fin 4}

/-- The checks of SEC_KEY_INSTALL in their order. -/
theorem acceptInstall_eq {c : SecChan} (hc : s.secChan e (bytesOf 44 v.v 0 2) = c) : acceptInstall (Obj.SEC_KEY_INSTALL e) v s =
    let ch := bytesOf 44 v.v 0 2
    let side := bytesOf 44 v.v 2 1
    let epoch := bytesOf 44 v.v 4 3
    let current := if side = 1 then c.rxCurrent else c.txCurrent
    if ¬ (ch < 1024 ∧ side ≤ 1 ∧ epoch = epochAfter current ∧ (current.isSome = true → epoch ≠ 0)) then (.range, s)
    else if s.obj (Obj.SEC_KEY_SOURCE e) = 0 then (.precond, s)
    else if side = 1 ∧ c.announced = true ∧ c.rxNext.isSome = true then (.busy, s)
    else (.ok, s.keyWrite (.install e ch (decide (side = 1)) ⟨epoch, bytesOf 44 v.v 8 36⟩)) := by
  subst hc
  unfold acceptInstall
  simp only [decide_eq_true_eq]
  refine if_congr ?_ rfl rfl
  simp only [not_and_or, not_lt, not_le, Classical.not_imp, not_not, ne_eq]

variable (h : Accepted rq x (Obj.SEC_KEY_INSTALL e) val v s)
include h

theorem exec_secKeyInstall : exec (.secKeyInstall rq e val) s =
    .next (let r := acceptInstall (Obj.SEC_KEY_INSTALL e) v (s.served rq x); r.2.deliver rq Op.write r.1 []) := by
  rw [← acceptSecure_install]
  exact congrArg Host.Outcome.next (serveWrite_refused h acceptSecure rfl)

end

/-- Settles O41: a port in use turns SEC_MAP away, an installed key goes check by check and then into the store or onto the writes that wait, a live
encrypting half rolls, and erasure and the end of a warning by what they leave of every channel and link. -/
theorem keyStoreWrites : Obligations.KeyStoreWrites := by
  unfold Obligations.KeyStoreWrites
  intro rq x val v s u refused
  have hsec : u.sec = s.sec := s.sec_served rq x
  refine ⟨fun index h => exec_secMapWrite index h, fun e h => ?_, fun e h => ?_, fun h => ?_, fun hwarn => ?_, fun hwarn => ?_⟩
  · intro ch side epoch k c current good
    have hc : u.secChan e ch = c := State.secChan_served _ _
    have hsource : u.obj (Obj.SEC_KEY_SOURCE e) = s.obj (Obj.SEC_KEY_SOURCE e) := s.obj_served_ne rq x (by simp)
    have hwarn : u.obj Obj.PWR_WARN_ACTIVE = s.obj Obj.PWR_WARN_ACTIVE := s.obj_served_ne rq x (by simp)
    have haccept : acceptInstall (Obj.SEC_KEY_INSTALL e) v u = if ¬ good then (.range, u)
        else if s.obj (Obj.SEC_KEY_SOURCE e) = 0 then (.precond, u)
        else if side = 1 ∧ c.announced = true ∧ c.rxNext.isSome = true then (.busy, u)
        else (.ok, u.keyWrite (.install e ch (decide (side = 1)) k)) := by
      rw [← hsource]
      exact acceptInstall_eq hc
    rw [exec_secKeyInstall h]
    refine ⟨fun hbad => ?_, fun hgood h0 => ?_, fun hgood h0 hside hann hnext => ?_, fun hgood h0 hfree => ?_⟩
    · rw [haccept, if_pos hbad]
    · rw [haccept, if_neg (not_not.mpr hgood), if_pos h0]
    · rw [haccept, if_neg (not_not.mpr hgood), if_neg h0, if_pos ⟨hside, hann, hnext⟩]
    · have hnot : ¬ (side = 1 ∧ c.announced = true ∧ c.rxNext.isSome = true) := by
        rintro ⟨h1, h2, h3⟩
        rcases hfree with g | g | g
        · omega
        · exact absurd (h2.symm.trans g) (by decide)
        · rw [g] at h3; exact absurd h3 (by decide)
      refine ⟨_, by rw [haccept, if_neg (not_not.mpr hgood), if_neg h0, if_neg hnot]; rfl, fun hw => ?_, fun hw => ?_⟩
      · obtain ⟨hset, htx, hrx⟩ := State.install_applied e ch (hwarn.trans hw) (decide (side = 1)) k
        exact ⟨by simpa using hset, by rw [htx, hc], by rw [hrx, hc]⟩
      · obtain ⟨hwaits, hchan⟩ := State.install_deferred e ch (fun g => hw (hwarn.symm.trans g)) (decide (side = 1)) k
        rw [hchan, hwaits, hsec, hc]
        exact ⟨rfl, rfl, rfl, rfl⟩
  · refine ⟨_, exec_secRoll e h, fun hon => ?_, fun hoff => ?_⟩
    · rw [← s.txCfg_served (rq := rq) (x := x), ← s.secChan_served (rq := rq) (x := x)] at hon
      refine ⟨?_, State.trigger_sameButSec _ _ _⟩
      obtain ⟨since, hs⟩ := (u.withChan e v.v fun c => { c with rolling := true }).secChan_settle e v.v
      rw [State.trigger_on _ _ _ hon, hs, State.secChan_withChan_same]
    · rw [← s.txCfg_served (rq := rq) (x := x), ← s.secChan_served (rq := rq) (x := x)] at hoff
      exact State.trigger_off _ _ _ hoff
  · exact ⟨_, exec_secZeroise h, rfl, u.zeroise_keyless, u.zeroise_links, u.zeroise_linkState⟩
  · rw [exec_keyDeferredProceed, State.atBoundary_same (State.keysProceed_held (s := s.opened) hwarn)]
  · obtain ⟨hwaits, hinstalled⟩ := State.keysProceed_spec (s := s.opened) hwarn
    exact ⟨_, exec_keyDeferredProceed s, congrArg Prod.fst hwaits, congrArg Prod.snd hwaits, hinstalled⟩

end Sys2Proof.Machine
end

section
/-! PROOFS. Secure channels: frames received and sent, and the switch to the next key. -/

namespace Sys2Proof.Machine

/-! ## What a failed frame marks beside its channel (R330, R332) -/

section
variable (s : State) (n i : Nat)

theorem State.spoilCopy_frame : s.spoilCopy n i = { s with prot := (s.spoilCopy n i).prot } := by
  unfold State.spoilCopy
  refine List.foldlRecOn (motive := fun t : State => t = { s with prot := t.prot }) _ _ rfl fun t ht p _ => ?_
  rw [ht]
  rfl

@[simp] theorem State.obj_spoilCopy (k : Key) : (s.spoilCopy n i).obj k = s.obj k := by
  rw [State.spoilCopy_frame]
  rfl

@[simp] theorem State.secChan_spoilCopy (e ch : Nat) : (s.spoilCopy n i).secChan e ch = s.secChan e ch := by
  rw [State.spoilCopy_frame]
  rfl

@[simp] theorem State.obj_markFrame (k : Key) : (s.markFrame i n).obj k = s.obj k := State.obj_spoilCopy _ _ _ k
@[simp] theorem State.secChan_markFrame (e ch : Nat) : (s.markFrame i n).secChan e ch = s.secChan e ch := State.secChan_spoilCopy _ _ _ e ch

end

/-! ## Runs of failed and of verified frames (R332) -/

section
variable (s : State) (e ch : Nat)

theorem State.secChan_rxFail : (s.rxFail e ch).secChan e ch =
    { s.secChan e ch with failRun := min 3 ((s.secChan e ch).failRun + 1), goodRun := 0 } := by
  unfold State.rxFail
  extract_lets t
  have ht : t.secChan e ch = _ := s.secChan_withChan_same e ch _
  split
  · rw [State.secChan_raise, State.secChan_declare, ht]
  · exact ht

@[simp] theorem State.obj_rxFail (k : Key) : (s.rxFail e ch).obj k = s.obj k := by
  unfold State.rxFail
  extract_lets t
  split
  · rw [State.obj_raise, State.obj_declare]
    rfl
  · rfl

/-- The third failure in a row declares dAUTH. -/
theorem State.declared_rxFail (h : 2 ≤ (s.secChan e ch).failRun) : (s.rxFail e ch).declared Df.auth (secInst e ch) = true := by
  unfold State.rxFail
  extract_lets t
  have ht : (t.secChan e ch).failRun = 3 := by
    rw [show t.secChan e ch = _ from s.secChan_withChan_same e ch _]
    exact min_eq_left (by omega)
  split
  · rw [State.declared_raise, State.declared_declare_same]
  case isFalse hnot => exact not_not.mp fun g => hnot ⟨ht, g⟩

theorem State.secChan_rxGood : (s.rxGood e ch).secChan e ch =
    { s.secChan e ch with failRun := 0, goodRun := min 8 ((s.secChan e ch).goodRun + 1) } := by
  unfold State.rxGood
  extract_lets t
  have ht : t.secChan e ch = _ := s.secChan_withChan_same e ch _
  split
  · rw [State.secChan_clear, ht]
  · exact ht

/-- The eighth verified frame in a row clears dAUTH. -/
theorem State.declared_rxGood (h : 7 ≤ (s.secChan e ch).goodRun) : (s.rxGood e ch).declared Df.auth (secInst e ch) = false := by
  unfold State.rxGood
  extract_lets t
  have ht : (t.secChan e ch).goodRun = 8 := by
    rw [show t.secChan e ch = _ from s.secChan_withChan_same e ch _]
    exact min_eq_left (by omega)
  rw [if_pos ht, State.declared_clear_same]

theorem State.keyWrite_derive_sameUse (receive : Bool) :
    (s.secChan e ch).SameUse ((s.keyWrite (.derive e ch receive)).secChan e ch) := by
  unfold State.keyWrite
  split
  · rw [show State.keyWriteHalves s (.derive e ch receive) = [(e, ch)] from rfl, State.secChan_deferKeys_one]
    exact { SecChan.SameUse.refl (s.secChan e ch) with }
  · exact s.derive_sameUse e ch receive

end

/-! ## A frame whose SOH is rejected (R329, R331) -/

/-- The frame is counted and withheld, and fails. -/
def State.rejectFrame (s : State) (e ch : Nat) (f : SecFrame) : State :=
  (((s.bump (Obj.SEC_REJECT e ch)).withChan e ch fun x => x.blankRejected s.now f.ticks (s.rxCfg e ch).verifyFirst).spoilCopy
    (s.rxCfg e ch).rxConn e).rxFail e ch

section
variable (s : State) (e ch : Nat) (f : SecFrame)

theorem State.secChan_rejectFrame : (s.rejectFrame e ch f).secChan e ch =
    { (s.secChan e ch).blankRejected s.now f.ticks (s.rxCfg e ch).verifyFirst with
      failRun := min 3 ((s.secChan e ch).failRun + 1), goodRun := 0 } := by
  unfold State.rejectFrame
  rw [State.secChan_rxFail, State.secChan_spoilCopy, State.secChan_withChan_same, State.secChan_bump]
  rfl

theorem State.obj_rejectFrame : (s.rejectFrame e ch f).obj (Obj.SEC_REJECT e ch) = u64 (s.obj (Obj.SEC_REJECT e ch) + 1) := by
  unfold State.rejectFrame
  rw [State.obj_rxFail, State.obj_spoilCopy, State.obj_withChan, State.obj_bump_same]

theorem State.declared_rejectFrame (h : 2 ≤ (s.secChan e ch).failRun) : (s.rejectFrame e ch f).declared Df.auth (secInst e ch) = true := by
  refine State.declared_rxFail _ e ch ?_
  rw [State.secChan_spoilCopy, State.secChan_withChan_same, State.secChan_bump]
  exact h

end

theorem SecChan.mem_blanks_blankRejected (c : SecChan) (now ticks : Nat) (verifyFirst : Bool) :
    let d := if verifyFirst then ticks else 0
    (now + 1 + d, now + 1 + ticks + d) ∈ (c.blankRejected now ticks verifyFirst).blanks :=
  List.mem_append_right _ List.mem_cons_self

/-! ## The tag of a frame (R323, R330, R331) -/

section
variable {c : SecChan} {b : OduBody} {next : Bool} {k : SecKey}

theorem SecChan.opens_fits (hkey : c.keyFor b.ki = some (next, k)) (hfit : tagFits k b = true) : c.opens b = some (next, k) := by
  unfold SecChan.opens
  rw [hkey, Option.filter_some, if_pos hfit]

theorem SecChan.opens_unfit (hkey : c.keyFor b.ki = some (next, k)) (hfit : tagFits k b = false) : c.opens b = none := by
  unfold SecChan.opens
  rw [hkey, Option.filter_some, if_neg (by simp [hfit])]

end

/-- A verified frame moves the last FC on, and one under NEXT makes it CURRENT. -/
def SecChan.verify (c : SecChan) (next : Bool) (k : SecKey) (fc : Nat) : SecChan :=
  if next then { c with rxCurrent := some k, rxNext := none, announced := false, lastFc := some fc } else { c with lastFc := some fc }

/-- The words of a frame that fails its tag are withheld: under verify-first all of them, else from this tick on. -/
def SecChan.withhold (c : SecChan) (verifyFirst : Bool) (now ticks : Nat) : SecChan :=
  if verifyFirst then c.blankRejected now ticks false else { c with poisonAt := some now }

theorem SecChan.withhold_sameUse (c : SecChan) (verifyFirst : Bool) (now ticks : Nat) : c.SameUse (c.withhold verifyFirst now ticks) := by
  cases verifyFirst <;> exact { SecChan.SameUse.refl c with }

section
variable {s : State} {e ch : Nat} {verifyFirst : Bool} {ticks : Nat} {b : OduBody} {next : Bool} {k : SecKey}
variable (hsf : s.sectionFail e = false) (hrx : (s.rxCfg e ch).rx = true) (hended : ∀ x, (s.secChan e ch).ended = some x → x.at_ + ticks ≤ s.now)
include hsf hrx hended

theorem State.checkTag_opened (hopen : (s.secChan e ch).opens b = some (next, k)) : s.checkTag e ch verifyFirst ticks b =
    let t := s.withChan e ch fun c => c.verify next k b.fc
    ((if next then t.keyWrite (.derive e ch true) else t).rxGood e ch).deliverFrame e ch (openFrame k b) := by
  have hnone : (s.secChan e ch).ended.filter (fun x => decide (s.now < x.at_ + ticks)) = none :=
    Option.filter_eq_none_iff.mpr fun x hx => by simpa using hended x hx
  unfold State.checkTag
  simp only [hsf, hnone, hrx, hopen, Bool.false_eq_true, if_false, not_true]
  rfl

theorem State.checkTag_failed (hopen : (s.secChan e ch).opens b = none) : s.checkTag e ch verifyFirst ticks b =
    let n := (s.rxCfg e ch).rxConn
    let t := (s.bump (Obj.SEC_AUTH_FAIL e ch)).withChan e ch fun c => c.withhold verifyFirst s.now ticks
    (if verifyFirst then t.spoilCopy n e else t.markFrame e n).rxFail e ch := by
  have hnone : (s.secChan e ch).ended.filter (fun x => decide (s.now < x.at_ + ticks)) = none :=
    Option.filter_eq_none_iff.mpr fun x hx => by simpa using hended x hx
  unfold State.checkTag
  simp only [hsf, hnone, hrx, hopen, Bool.false_eq_true, if_false, not_true]
  rfl

/-- A verified frame (R324, R332, R336). -/
theorem State.checkTag_opened_spec (hopen : (s.secChan e ch).opens b = some (next, k)) :
    let c := s.secChan e ch
    let t := s.checkTag e ch verifyFirst ticks b
    let d := t.secChan e ch
    d.lastFc = some b.fc ∧ d.failRun = 0 ∧ d.goodRun = min 8 (c.goodRun + 1) ∧
      (7 ≤ c.goodRun → t.declared Df.auth (secInst e ch) = false) ∧ d.rxCurrent = (if next then some k else c.rxCurrent) ∧
      d.delivered = some (openFrame k b) := by
  intro c t d
  let u := s.withChan e ch fun c => c.verify next k b.fc
  let v := if next then u.keyWrite (.derive e ch true) else u
  have hu : u.secChan e ch = c.verify next k b.fc := s.secChan_withChan_same e ch _
  have hv : (c.verify next k b.fc).SameUse (v.secChan e ch) := by
    rw [← hu]
    unfold v
    split
    · exact u.keyWrite_derive_sameUse e ch true
    · exact .refl _
  have hgood : (v.secChan e ch).goodRun = c.goodRun := by rw [hv.goodRun]; cases next <;> rfl
  have ht : t = (v.rxGood e ch).deliverFrame e ch (openFrame k b) := State.checkTag_opened hsf hrx hended hopen
  have hd : d = { (v.rxGood e ch).secChan e ch with delivered := some (openFrame k b), passing := some (openFrame k b) } := by
    unfold d
    rw [ht]
    exact State.secChan_withChan_same _ _ _ _
  rw [State.secChan_rxGood] at hd
  rw [hd, ht]
  exact ⟨hv.lastFc.trans (by cases next <;> rfl), rfl, by rw [← hgood], fun h => State.declared_rxGood v e ch (by rwa [hgood]),
    hv.rxCurrent.trans (by cases next <;> rfl), rfl⟩

/-- A frame that fails its tag (R330 to R332). -/
theorem State.checkTag_failed_spec (hopen : (s.secChan e ch).opens b = none) :
    let c := s.secChan e ch
    let t := s.checkTag e ch verifyFirst ticks b
    let d := t.secChan e ch
    t.obj (Obj.SEC_AUTH_FAIL e ch) = u64 (s.obj (Obj.SEC_AUTH_FAIL e ch) + 1) ∧ d.failRun = min 3 (c.failRun + 1) ∧
      (2 ≤ c.failRun → t.declared Df.auth (secInst e ch) = true) ∧ d.lastFc = c.lastFc ∧ d.rxCurrent = c.rxCurrent ∧ d.delivered = c.delivered := by
  intro c t d
  let w := (s.bump (Obj.SEC_AUTH_FAIL e ch)).withChan e ch fun c => c.withhold verifyFirst s.now ticks
  let v := if verifyFirst then w.spoilCopy (s.rxCfg e ch).rxConn e else w.markFrame e (s.rxCfg e ch).rxConn
  have hw : w.secChan e ch = c.withhold verifyFirst s.now ticks := State.secChan_withChan_same _ e ch _
  have hv : c.SameUse (v.secChan e ch) := by
    unfold v
    split <;> simp only [State.secChan_spoilCopy, State.secChan_markFrame, hw, SecChan.withhold_sameUse]
  have hobj : v.obj (Obj.SEC_AUTH_FAIL e ch) = u64 (s.obj (Obj.SEC_AUTH_FAIL e ch) + 1) := by
    unfold v
    split <;> simp only [State.obj_spoilCopy, State.obj_markFrame, w, State.obj_withChan, State.obj_bump_same]
  have ht : t = v.rxFail e ch := State.checkTag_failed hsf hrx hended hopen
  have hd : d = { v.secChan e ch with failRun := min 3 ((v.secChan e ch).failRun + 1), goodRun := 0 } := by
    unfold d
    rw [ht, State.secChan_rxFail]
  rw [hd, ht]
  exact ⟨by rw [State.obj_rxFail, hobj], by rw [← hv.failRun], fun h => State.declared_rxFail v e ch (by rwa [hv.failRun]), hv.lastFc,
    hv.rxCurrent, hv.delivered⟩

end

/-! ## SEC_RX_FRAME -/

/-- In cut-through a frame passes decrypted before its tag is checked. -/
def State.decrypting (s : State) (e ch : Nat) (k : SecKey) (b : OduBody) : State :=
  if (s.rxCfg e ch).verifyFirst then s else s.withChan e ch fun x => { x with passing := some (openFrame k b) }

theorem State.secChan_decrypting (s : State) (e ch : Nat) (k : SecKey) (b : OduBody) :
    ∃ p, (s.decrypting e ch k b).secChan e ch = { s.secChan e ch with passing := p } := by
  unfold State.decrypting
  split
  · exact ⟨_, rfl⟩
  · exact ⟨_, State.secChan_withChan_same _ _ _ _⟩

theorem State.decrypting_sameButSec (s : State) (e ch : Nat) (k : SecKey) (b : OduBody) : s.sameButSec (s.decrypting e ch k b) := by
  unfold State.decrypting
  split <;> rfl

theorem State.sameButSec.sectionFail {s t : State} (h : s.sameButSec t) (e : Nat) : t.sectionFail e = s.sectionFail e := by
  rw [h]
  rfl

theorem State.sameButSec.rxCfg {s t : State} (h : s.sameButSec t) (e ch : Nat) : t.rxCfg e ch = s.rxCfg e ch := by
  rw [h]
  rfl

section
variable {s : State} {e : Fin 4} {ch : Fin 1024} {f : SecFrame}

theorem exec_secRxFrame_absent (h : (s.rxCfg e ch).rx = false) : exec (.secRxFrame e ch f) s = .next s := if_pos (by simp [h])

section
variable (hrx : (s.rxCfg e ch).rx = true)
include hrx

theorem exec_secRxFrame_passed (h : f.maintenance = true ∨ s.sectionFail e = true) :
    exec (.secRxFrame e ch f) s = .next (s.deliverFrame e ch f.body) := (if_neg (not_not.mpr hrx)).trans (if_pos h)

variable (hm : f.maintenance = false) (hsf : s.sectionFail e = false)
include hm hsf

theorem exec_secRxFrame_rejected (h : (s.secChan e ch).accepts (s.rxCfg e ch).rxPol f.body = false) :
    exec (.secRxFrame e ch f) s = .next (s.rejectFrame e ch f) :=
  (if_neg (not_not.mpr hrx)).trans ((if_neg (by simp [hm, hsf])).trans (if_pos (by simp [h])))

variable (hacc : (s.secChan e ch).accepts (s.rxCfg e ch).rxPol f.body = true)
include hacc

theorem exec_secRxFrame_clear (henc : f.body.enc = false) : exec (.secRxFrame e ch f) s =
    .next ((s.withChan e ch fun x => { x with failRun := 0, goodRun := 0 }).deliverFrame e ch f.body) :=
  (if_neg (not_not.mpr hrx)).trans ((if_neg (by simp [hm, hsf])).trans ((if_neg (not_not.mpr hacc)).trans (if_pos (by simp [henc]))))

theorem exec_secRxFrame_encrypted (henc : f.body.enc = true) {next : Bool} {k : SecKey} (hkey : (s.secChan e ch).keyFor f.body.ki = some (next, k)) :
    exec (.secRxFrame e ch f) s =
      if f.ticks = 0 then .next ((s.decrypting e ch k f.body).checkTag e ch (s.rxCfg e ch).verifyFirst 0 f.body)
      else .next ((s.decrypting e ch k f.body).plan (s.now + f.ticks) (.secTag e ch (s.rxCfg e ch).verifyFirst f.ticks f.body)) := by
  have hnow : (s.decrypting e ch k f.body).now = s.now := by unfold State.decrypting; split <;> rfl
  show execSecRxFrame e ch f s = _
  unfold execSecRxFrame
  rw [if_neg (not_not.mpr hrx), if_neg (by simp [hm, hsf]), if_neg (not_not.mpr hacc), if_neg (not_not.mpr henc)]
  unfold State.decrypting State.withChan
  simp only [hkey]

end

end

/-! ## A sealed frame (R321 to R323) -/

section
variable {k : SecKey} {fc : Nat} (h : fc < 2 ^ 40) (b : OduBody)
include h

/-- The first byte of the SOH holds KI and ENC. -/
theorem frameSoh_first : bytesOf 6 (frameSoh k fc) 0 1 = k.epoch % 4 * 64 + 32 := by
  unfold bytesOf frameSoh keyIndex
  omega

theorem sealFrame_enc : (sealFrame k fc b).enc = true := by
  unfold OduBody.enc
  rw [sealFrame_soh, frameSoh_first h]
  unfold bit
  simp only [decide_eq_true_eq]
  omega

theorem sealFrame_ki : (sealFrame k fc b).ki = k.epoch % 4 := by
  unfold OduBody.ki
  rw [sealFrame_soh, frameSoh_first h]
  unfold field
  omega

theorem sealFrame_fc : (sealFrame k fc b).fc = fc := by
  unfold OduBody.fc
  rw [sealFrame_soh]
  unfold frameSoh
  omega

theorem tagFits_sealFrame : tagFits k (sealFrame k fc b) = true := by
  obtain ⟨hcipher, htag⟩ := sealFrame_payload k fc b
  rw [tagFits_iff, hcipher, htag, sealFrame_fc h, sealFrame_aad]

end

/-! ## Frames under a live key (R321, R322, R333) -/

/-- The next frame under a key, with its FC shown. -/
def State.sendSealed (s : State) (e ch : Nat) (k : SecKey) (b : OduBody) : State :=
  (s.withChan e ch fun c => { c with
    soh := frameSoh k c.fc, iv := some (frameIv k c.fc), lck := false, fc := c.fc + 1, sent := some (sealFrame k c.fc b) }).setObj
    (Obj.SEC_TX_FC e ch) (s.secChan e ch).fc

section
variable {s : State} {e ch : Nat} {k : SecKey} {auto : Bool} {b : OduBody}

theorem State.sendKeyed_below (h : (s.secChan e ch).fc < 2 ^ 39) : s.sendKeyed e ch k auto b = s.sendSealed e ch k b :=
  (if_neg (by omega)).trans (if_neg fun g => absurd g.1 (by omega))

theorem State.secChan_sendSealed : let c := s.secChan e ch
    (s.sendSealed e ch k b).secChan e ch = { c with
      soh := frameSoh k c.fc, iv := some (frameIv k c.fc), lck := false, fc := c.fc + 1, sent := some (sealFrame k c.fc b) } := by
  unfold State.sendSealed
  rw [State.secChan_setObj, State.secChan_withChan_same]

/-- From 2^39 on the frame is sealed all the same, and the rekeying is due and has been reported. -/
theorem State.sendKeyed_due (h : 2 ^ 39 ≤ (s.secChan e ch).fc) (hlt : (s.secChan e ch).fc < 2 ^ 40) :
    let c := s.secChan e ch
    let t := s.sendKeyed e ch k auto b
    let d := t.secChan e ch
    d.fc = c.fc + 1 ∧ d.sent = some (sealFrame k c.fc b) ∧ d.lck = false ∧ d.rekeyDue = true ∧ t.obj (Obj.SEC_TX_FC e ch) = c.fc ∧
      (c.rekeyDue = false → ⟨Ev.REKEY_DUE.code, false, s.tick, contentOf Ev.REKEY_DUE.widths [e, ch, k.epoch]⟩ ∈ t.changes) := by
  intro c t d
  let v := s.sendSealed e ch k b
  have hobj : v.obj (Obj.SEC_TX_FC e ch) = c.fc := State.obj_setObj_same _ _ _
  have ht : t = if 2 ^ 39 ≤ c.fc ∧ ¬ c.rekeyDue = true then
      let u := (v.withChan e ch fun c => { c with rekeyDue := true }).raise Ev.REKEY_DUE [e, ch, k.epoch]
      if auto then u.trigger e ch else u
    else v := if_neg (by omega)
  by_cases hdue : c.rekeyDue = true
  · rw [if_neg fun g => g.2 hdue] at ht
    have hd : d = v.secChan e ch := by unfold d; rw [ht]
    rw [hd, ht, State.secChan_sendSealed]
    exact ⟨rfl, rfl, rfl, hdue, hobj, fun g => absurd (hdue.symm.trans g) (by decide)⟩
  · rw [if_pos ⟨h, hdue⟩] at ht
    let u := (v.withChan e ch fun c => { c with rekeyDue := true }).raise Ev.REKEY_DUE [e, ch, k.epoch]
    have hu : u.secChan e ch = { v.secChan e ch with rekeyDue := true } := by
      rw [State.secChan_raise, State.secChan_withChan_same]
    have hsame : u.sameButSec t := by
      rw [ht]
      cases auto
      · rfl
      · exact u.trigger_sameButSec e ch
    have hd : ∃ rolling since, d = { u.secChan e ch with rolling := rolling, eligible := since } := by
      unfold d
      rw [ht]
      cases auto
      · exact ⟨_, _, rfl⟩
      · exact u.secChan_trigger e ch
    obtain ⟨rolling, since, hd⟩ := hd
    rw [hd, hu, State.secChan_sendSealed, hsame.obj, hsame.changes]
    exact ⟨rfl, rfl, rfl, rfl, hobj, fun _ => List.mem_append_right _ List.mem_cons_self⟩

/-- At 2^40 ODU-LCK is sent, and dKEYEXH stands. -/
theorem State.sendKeyed_exhausted (h : 2 ^ 40 ≤ (s.secChan e ch).fc) :
    let t := s.sendKeyed e ch k auto b
    t.secChan e ch = { s.secChan e ch with soh := 0, iv := none, lck := true, sent := none } ∧ t.declared Df.keyExh (secInst e ch) = true := by
  intro t
  have hlck : (s.sendLck e ch).secChan e ch = _ := s.secChan_withChan_same e ch _
  have ht : t = if (s.sendLck e ch).declared Df.keyExh (secInst e ch) = true then s.sendLck e ch
      else ((s.sendLck e ch).declare Df.keyExh (secInst e ch)).raise Ev.KEY_EXHAUSTED [e, ch, k.epoch] := if_pos h
  rw [ht]
  split
  · exact ⟨hlck, ‹_›⟩
  · exact ⟨by rw [State.secChan_raise, State.secChan_declare, hlck], by rw [State.declared_raise, State.declared_declare_same]⟩

end

/-! ## SEC_TX_FRAME -/

theorem State.switchKey_idle {s : State} {e ch : Nat} (h : (s.secChan e ch).eligible = none) : s.switchKey e ch = s := by
  unfold State.switchKey
  simp only [h]

section
variable {s : State} {e : Fin 4} {ch : Fin 1024} {maintenance : Bool} {b : OduBody}

theorem exec_secTxFrame_absent (h : (s.txCfg e ch).tx = false) : exec (.secTxFrame e ch ⟨maintenance, b⟩) s = .next s := if_pos (by simp [h])

variable (htx : (s.txCfg e ch).tx = true) (hidle : (s.secChan e ch).eligible = none)
include htx hidle

theorem exec_secTxFrame_clear (h : maintenance = true ∨ (s.txCfg e ch).txEn = false) :
    exec (.secTxFrame e ch ⟨maintenance, b⟩) s = .next (s.sendClear e ch b) := by
  show execSecTxFrame e ch ⟨maintenance, b⟩ s = _
  unfold execSecTxFrame
  simp only [State.switchKey_idle hidle]
  rw [if_neg (not_not.mpr htx), if_pos (by simpa using h)]

variable (hm : maintenance = false) (hen : (s.txCfg e ch).txEn = true)
include hm hen

theorem exec_secTxFrame_keyless (h : (s.secChan e ch).txCurrent = none) :
    exec (.secTxFrame e ch ⟨maintenance, b⟩) s = .next (s.sendLck e ch) := by
  show execSecTxFrame e ch ⟨maintenance, b⟩ s = _
  unfold execSecTxFrame
  simp only [State.switchKey_idle hidle, h]
  rw [if_neg (not_not.mpr htx), if_neg (by simp [hm, hen])]

theorem exec_secTxFrame_keyed {k : SecKey} (h : (s.secChan e ch).txCurrent = some k) :
    exec (.secTxFrame e ch ⟨maintenance, b⟩) s = .next (s.sendKeyed e ch k (s.txCfg e ch).auto b) := by
  show execSecTxFrame e ch ⟨maintenance, b⟩ s = _
  unfold execSecTxFrame
  simp only [State.switchKey_idle hidle, h]
  rw [if_neg (not_not.mpr htx), if_neg (by simp [hm, hen])]

end

/-! ## KEY_SWITCH (R336, R342) -/

section
variable {s : State} {e ch since : Nat} {k : SecKey} (hready : (s.secChan e ch).eligible = some since) (hnext : (s.secChan e ch).txNext = some k)
include hready hnext

theorem State.switchKey_early (h : s.now ≤ since) : s.switchKey e ch = s := by
  unfold State.switchKey
  simp only [hready, hnext]
  exact if_pos h

theorem State.switchKey_held (h : since < s.now) (hwarn : s.obj Obj.PWR_WARN_ACTIVE ≠ 0) : s.switchKey e ch = s.deferKeys e [(e, ch)] := by
  unfold State.switchKey
  simp only [hready, hnext]
  rw [if_neg (by omega), if_pos (State.keysHeld_eq_true hwarn)]

theorem State.switchKey_due (h : since < s.now) (hwarn : s.obj Obj.PWR_WARN_ACTIVE = 0) :
    let t := s.switchKey e ch
    let d := t.secChan e ch
    d.txCurrent = some k ∧ d.fc = 0 ∧ d.rolling = false ∧ t.declared Df.keyExh (secInst e ch) = false ∧
      ⟨Ev.KEY_LIVE.code, false, s.tick, contentOf Ev.KEY_LIVE.widths [e, ch, k.epoch, s.obj (Obj.SEC_KEY_SOURCE e)]⟩ ∈ t.changes := by
  intro t d
  let u := s.withChan e ch fun c => { c with
    txCurrent := some k, txNext := none, txHost := false, fc := 0, rekeyDue := false, rolling := false, heard := none, eligible := none }
  let v := (u.clear Df.keyExh (secInst e ch)).raise Ev.KEY_LIVE [e, ch, k.epoch, s.obj (Obj.SEC_KEY_SOURCE e)]
  have ht : t = v.derive e ch false := by
    have hv : v.obj Obj.PWR_WARN_ACTIVE = 0 := by rw [State.obj_raise, State.obj_clear]; exact hwarn
    unfold t State.switchKey
    simp only [hready, hnext]
    rw [if_neg (by omega), if_neg (by simp [State.keysHeld_eq_false hwarn])]
    exact State.keyWrite_applies hv _
  have hchan : v.secChan e ch = u.secChan e ch := by rw [State.secChan_raise, State.secChan_clear]
  have huse : (u.secChan e ch).SameUse d := by
    unfold d
    rw [ht, ← hchan]
    exact v.derive_sameUse e ch false
  have hsame : v.sameButSec t := by
    rw [ht]
    exact v.derive_sameButSec e ch false
  rw [show u.secChan e ch = _ from s.secChan_withChan_same e ch _] at huse
  refine ⟨huse.txCurrent, huse.fc, huse.rolling, ?_, ?_⟩
  · rw [hsame.declared, State.declared_raise, State.declared_clear_same]
  · rw [hsame.changes, State.changes_raise, State.tick_clear]
    exact List.mem_append_right _ List.mem_cons_self

end

/-- Settles O42: a received frame by what its SOH and its tag come to, a transmitted one by the key and its FC, the sealed frame by its parts, and the
switch by whether its tick has come and a supply warning stands. -/
theorem secureFramesAreChecked : Obligations.SecureFramesAreChecked := by
  unfold Obligations.SecureFramesAreChecked
  intro e ch s c rx tx
  refine ⟨fun f => ⟨exec_secRxFrame_absent, exec_secRxFrame_passed, fun hrx hm hsf => ⟨fun hacc => ?_, fun hacc henc => ?_,
    fun next k hacc henc hticks hkey => ?_, fun next k hacc henc hticks hkey hended => ?_⟩⟩,
    fun maintenance frame => ⟨exec_secTxFrame_absent, fun htx hidle => ⟨exec_secTxFrame_clear htx hidle, exec_secTxFrame_keyless htx hidle,
      fun k hm hen hk => ⟨fun hfc => ?_, fun hdue hlt => ?_, fun hend => ?_⟩⟩⟩, fun k fc frame hfc => ?_, fun since k hready hnext =>
      ⟨fun hearly => ?_, fun hdue hwarn => ?_, fun hdue hwarn => ?_⟩⟩
  · refine ⟨_, exec_secRxFrame_rejected hrx hm hsf hacc, State.obj_rejectFrame s e ch f, ?_⟩
    rw [State.secChan_rejectFrame]
    exact ⟨rfl, rfl, State.declared_rejectFrame s e ch f, rfl, rfl, SecChan.mem_blanks_blankRejected c s.now f.ticks rx.verifyFirst⟩
  · exact exec_secRxFrame_clear hrx hm hsf hacc henc
  · exact (exec_secRxFrame_encrypted hrx hm hsf hacc henc hkey).trans (if_neg (by omega))
  · let u := s.decrypting e ch k f.body
    have hsame : s.sameButSec u := s.decrypting_sameButSec e ch k f.body
    obtain ⟨p, hu⟩ : ∃ p, u.secChan e ch = { c with passing := p } := s.secChan_decrypting e ch k f.body
    have hukey : (u.secChan e ch).keyFor f.body.ki = some (next, k) := by rw [hu]; exact hkey
    have husf : u.sectionFail e = false := (hsame.sectionFail e).trans hsf
    have hurx : (u.rxCfg e ch).rx = true := (congrArg SecCfg.rx (hsame.rxCfg e ch)).trans hrx
    have huended : ∀ x, (u.secChan e ch).ended = some x → x.at_ + 0 ≤ u.now := by
      rw [hu, hsame]; exact hended
    refine ⟨_, (exec_secRxFrame_encrypted hrx hm hsf hacc henc hkey).trans (if_pos hticks), fun hfit => ?_, fun hunfit => ?_⟩
    · obtain ⟨hfc, hfail, hgood, hclear, hcurrent, hdelivered⟩ :=
        State.checkTag_opened_spec (verifyFirst := rx.verifyFirst) husf hurx huended (SecChan.opens_fits hukey hfit)
      rw [hu] at hgood hclear hcurrent
      obtain ⟨hzero, hplain⟩ := openFrame_payload k f.body
      exact ⟨hfc, hfail, hgood, hclear, hcurrent, _, hdelivered, rfl, hzero, rfl, rfl, hplain⟩
    · obtain ⟨hcount, hfail, hdeclared, hfc, hcurrent, hdelivered⟩ :=
        State.checkTag_failed_spec (verifyFirst := rx.verifyFirst) husf hurx huended (SecChan.opens_unfit hukey hunfit)
      rw [hu] at hfail hdeclared hfc hcurrent hdelivered
      rw [hsame.obj] at hcount
      exact ⟨hcount, hfail, hdeclared, hfc, hcurrent, hdelivered⟩
  · rw [exec_secTxFrame_keyed htx hidle hm hen hk, State.sendKeyed_below hfc]
    rfl
  · exact ⟨_, exec_secTxFrame_keyed htx hidle hm hen hk, State.sendKeyed_due hdue hlt⟩
  · obtain ⟨hchan, hdeclared⟩ := State.sendKeyed_exhausted (k := k) (auto := tx.auto) (b := frame) hend
    refine ⟨_, exec_secTxFrame_keyed htx hidle hm hen hk, ?_⟩
    rw [hchan]
    exact ⟨rfl, rfl, rfl, rfl, hdeclared⟩
  · exact ⟨sealFrame_enc hfc frame, sealFrame_ki hfc frame, sealFrame_fc hfc frame, rfl, rfl, tagFits_sealFrame hfc frame⟩
  · exact congrArg Host.Outcome.next (State.switchKey_early hready hnext hearly)
  · exact ⟨_, rfl, State.switchKey_due hready hnext hdue hwarn⟩
  · refine ⟨_, congrArg Host.Outcome.next (State.switchKey_held hready hnext hdue hwarn), ?_⟩
    rw [State.secChan_deferKeys_one]
    exact ⟨rfl, hnext, rfl⟩

end Sys2Proof.Machine
end

section
/-! PROOFS. The key agreement: what its work leaves of a link and of the objects that show it, and its messages one by one. -/

namespace Sys2Proof.Machine

/-! ## Links and the engines they serve (R339) -/

section
variable (s : State) (e : Nat)

theorem mem_bondOf (v e : Nat) : e ∈ bondOf v e := by
  unfold bondOf
  cases h : (bondGroups v).find? fun g => g.contains e with
  | none => exact List.mem_singleton_self e
  | some g => simpa using List.find?_some h

theorem State.mem_bond_self : e ∈ s.bond e := mem_bondOf _ e

theorem State.link_withLink (f : SecLink → SecLink) : (s.withLink e f).link e = f (s.link e) := Map.get_set_same _ _ _ _

theorem State.link_send (m : KaMessage) : (s.send e m).link e =
    { s.link e with outbox := (s.link e).outbox ++ [m], wire := (s.link e).wire ++ hdlcFrame m.bytes } := s.link_withLink e _

theorem State.link_setKa (a : Agreement) : (s.setKa e a).link e = { s.link e with agreement := some a } := s.link_withLink e _

/-- An update that leaves the bonding and the secure line alone leaves every link alone. -/
theorem State.link_eq {s t : State} (hsec : t.sec = s.sec) (hbond : t.obj Obj.TB_BOND_CFG = s.obj Obj.TB_BOND_CFG) (i : Nat) :
    t.link i = s.link i := by
  unfold State.link State.linkOf State.bond
  rw [hsec, hbond]

theorem State.sameButObjects.link {s t : State} (h : s.sameButObjects t) (hbond : t.obj Obj.TB_BOND_CFG = s.obj Obj.TB_BOND_CFG) (i : Nat) :
    t.link i = s.link i := State.link_eq (by rw [h]) hbond i

@[simp] theorem State.link_drawn (i : Nat) : s.drawn.link i = s.link i := rfl

end

/-! ## Objects that show a link (R344) -/

section
variable (K : Nat → Key) (v : Nat) (l : List Nat) (s : State)

theorem State.foldl_setObj_frame : s.sameButObjects (l.foldl (fun t i => t.setObj (K i) v) s) :=
  State.foldl_sameButObjects _ (fun t i => t.setObj_sameButObjects (K i) v) l s

theorem State.obj_foldl_setObj_map (k : Key) : (l.foldl (fun t i => t.setObj (K i) v) s).obj k = if k ∈ l.map K then v else s.obj k := by
  rw [← State.obj_foldl_setObj (fun _ => v), List.foldl_map]

end

section
variable (s : State) (e v : Nat)

theorem State.obj_setLinkState_mem {i : Nat} (h : i ∈ s.bond e) : (s.setLinkState e v).obj (Obj.SEC_LINK_STATE i) = v :=
  (State.obj_foldl_setObj_map _ v _ s _).trans (if_pos (List.mem_map_of_mem h))

theorem State.obj_setLinkState_ne {k : Key} (h : ∀ i, k ≠ Obj.SEC_LINK_STATE i) : (s.setLinkState e v).obj k = s.obj k :=
  (State.obj_foldl_setObj_map _ v _ s k).trans (if_neg fun hk => by
    obtain ⟨i, _, hi⟩ := List.mem_map.mp hk
    exact h i hi.symm)

theorem State.setLinkState_frame : s.sameButObjects (s.setLinkState e v) := State.foldl_setObj_frame _ _ _ _

theorem State.link_setLinkState (i : Nat) : (s.setLinkState e v).link i = s.link i :=
  (s.setLinkState_frame e v).link (s.obj_setLinkState_ne e v (by simp)) i

end

/-! ## Failure (R341) -/

/-- The failed agreement's link, and the objects that show it, before the far end and the event stream are told. -/
def State.kaFailed (s : State) (e cause : Nat) : State :=
  (s.bond e).foldl (fun u i => u.setObj (Obj.SEC_KA_CAUSE i) cause)
    ((s.withLink e fun l => { l with agreement := none, retryAt := some (s.now + 8000000) }).setLinkState e 3)

section
variable (s : State) (e cause : Nat)

theorem State.failKa_eq : s.failKa e cause =
    (if cause = 5 then s.kaFailed e cause else (s.kaFailed e cause).send e (.abort cause)).raise Ev.KA_FAIL [s.linkOf e, cause] := rfl

theorem State.kaFailed_frame : (s.withLink e fun l => { l with agreement := none, retryAt := some (s.now + 8000000) }).sameButObjects (s.kaFailed e cause) :=
  (State.setLinkState_frame _ _ _).trans (State.foldl_setObj_frame _ _ _ _)

theorem State.obj_kaFailed_ne {k : Key} (hstate : ∀ i, k ≠ Obj.SEC_LINK_STATE i) (hcause : ∀ i, k ≠ Obj.SEC_KA_CAUSE i) :
    (s.kaFailed e cause).obj k = s.obj k := by
  refine (State.obj_foldl_setObj_map _ cause _ _ k).trans ((if_neg fun hk => ?_).trans (State.obj_setLinkState_ne _ e 3 hstate))
  obtain ⟨i, _, hi⟩ := List.mem_map.mp hk
  exact hcause i hi.symm

theorem State.obj_kaFailed_mem {i : Nat} (h : i ∈ s.bond e) :
    (s.kaFailed e cause).obj (Obj.SEC_KA_CAUSE i) = cause ∧ (s.kaFailed e cause).obj (Obj.SEC_LINK_STATE i) = 3 := by
  refine ⟨(State.obj_foldl_setObj_map _ cause _ _ _).trans (if_pos (List.mem_map_of_mem h)),
    (State.obj_foldl_setObj_map _ cause _ _ _).trans ((if_neg (by simp)).trans (State.obj_setLinkState_mem _ e 3 h))⟩

theorem State.link_kaFailed : (s.kaFailed e cause).link e = { s.link e with agreement := none, retryAt := some (s.now + 8000000) } :=
  ((s.kaFailed_frame e cause).link (s.obj_kaFailed_ne e cause (by simp) (by simp)) e).trans (s.link_withLink e _)

theorem State.obj_failKa (k : Key) : (s.failKa e cause).obj k = (s.kaFailed e cause).obj k := by
  rw [State.failKa_eq, State.obj_raise]
  split <;> rfl

/-- Telling the far end only queues the message. -/
theorem State.link_failKa : ∃ outbox wire, (s.failKa e cause).link e =
    { s.link e with agreement := none, retryAt := some (s.now + 8000000), outbox := outbox, wire := wire } := by
  have hraise (u : State) : (u.raise Ev.KA_FAIL [s.linkOf e, cause]).link e = u.link e := rfl
  rw [State.failKa_eq, hraise]
  split
  · exact ⟨_, _, s.link_kaFailed e cause⟩
  · rw [State.link_send, State.link_kaFailed]
    exact ⟨_, _, rfl⟩

theorem State.changes_failKa : (s.failKa e cause).changes =
    s.changes ++ [⟨Ev.KA_FAIL.code, false, s.tick, contentOf Ev.KA_FAIL.widths [s.linkOf e, cause]⟩] := by
  have hframe : (s.kaFailed e cause).changes = s.changes ∧ (s.kaFailed e cause).tick = s.tick := by
    rw [s.kaFailed_frame e cause]
    exact ⟨rfl, rfl⟩
  rw [State.failKa_eq, State.changes_raise, ← hframe.1, ← hframe.2]
  split <;> rfl

/-- What a failure leaves: the link secret, the time of the next attempt, and the cause. -/
theorem State.failKa_spec : let t := s.failKa e cause
    (t.link e).agreement = none ∧ (t.link e).retryAt = some (s.now + 8000000) ∧ (t.link e).secret = (s.link e).secret ∧
      (∀ i ∈ s.bond e, t.obj (Obj.SEC_KA_CAUSE i) = cause ∧ t.obj (Obj.SEC_LINK_STATE i) = 3) ∧
      t.changes = s.changes ++ [⟨Ev.KA_FAIL.code, false, s.tick, contentOf Ev.KA_FAIL.widths [s.linkOf e, cause]⟩] := by
  obtain ⟨outbox, wire, hlink⟩ := s.link_failKa e cause
  intro t
  refine ⟨by rw [hlink], by rw [hlink], by rw [hlink], fun i hi => ?_, s.changes_failKa e cause⟩
  rw [State.obj_failKa, State.obj_failKa]
  exact s.obj_kaFailed_mem e cause hi

end

/-! ## Start (R341) -/

section
variable {s : State} {e : Nat}

theorem State.startKa_running (h : (s.link e).agreement.isSome = true) : s.startKa e = s := if_pos h

variable (hnone : (s.link e).agreement = none)
include hnone

theorem State.startKa_noEntropy (h : s.obj Obj.SEC_ENTROPY_STATE = 1) : s.startKa e = s.failKa e 3 :=
  (if_neg (by simp [hnone])).trans (if_pos h)

variable (hentropy : s.obj Obj.SEC_ENTROPY_STATE ≠ 1)
include hentropy

theorem State.startKa_noPeer (h : s.obj (Obj.SEC_PEER_ID (s.linkOf e)) = 0) : s.startKa e = s.failKa e 1 :=
  (if_neg (by simp [hnone])).trans ((if_neg hentropy).trans (if_pos h))

/-- The agreement begins with a draw for the nonce, and with the own HELLO. -/
theorem State.startKa_begins (h : s.obj (Obj.SEC_PEER_ID (s.linkOf e)) ≠ 0) : let t := s.startKa e
    ∃ a, (t.link e).agreement = some a ∧ a.start = s.now ∧ a.peer = none ∧ a.secret = none ∧ t.fresh = s.fresh + 1 ∧ (t.link e).retryAt = none ∧
      (t.link e).outbox = (s.link e).outbox ++ [.hello (s.obj Obj.DEV_ID_KEY) a.nonce] ∧ ∀ i ∈ s.bond e, t.obj (Obj.SEC_LINK_STATE i) = 1 := by
  intro t
  let a : Agreement := { start := s.now, nonce := Config.shake256 32 [⟨8, s.free⟩] }
  let u := s.drawn.withLink e fun l => { l with agreement := some a, retryAt := none, again := false }
  have ht : t = (u.setLinkState e 1).send e (.hello (s.obj Obj.DEV_ID_KEY) a.nonce) :=
    (if_neg (by simp [hnone])).trans ((if_neg hentropy).trans (if_neg h))
  have hu : u.link e = { s.link e with agreement := some a, retryAt := none, again := false } := s.drawn.link_withLink e _
  have hlink : t.link e = { u.link e with
      outbox := (u.link e).outbox ++ [.hello (s.obj Obj.DEV_ID_KEY) a.nonce]
      wire := (u.link e).wire ++ hdlcFrame (KaMessage.hello (s.obj Obj.DEV_ID_KEY) a.nonce).bytes } := by
    rw [ht, State.link_send, State.link_setLinkState]
  have hfresh : (u.setLinkState e 1).fresh = s.fresh + 1 := by
    rw [u.setLinkState_frame e 1]
    rfl
  rw [hlink, hu]
  refine ⟨a, rfl, rfl, rfl, rfl, by rw [ht]; exact hfresh, rfl, rfl, fun i hi => ?_⟩
  rw [ht]
  exact State.obj_setLinkState_mem u e 1 hi

end

theorem acceptSecure_linkStart (e : Fin 4) (v : Val) (s : State) : acceptSecure (Obj.SEC_LINK_START e) v s = (.ok, s.startKa e) :=
  if_neg (engine_key_ne e)

theorem exec_secLinkStart {rq : Rq} {x : Sender} {val v : Val} {s : State} {e : Fin 4} (h : Accepted rq x (Obj.SEC_LINK_START e) val v s) :
    exec (.secLinkStart rq e val) s = .next (((s.served rq x).startKa e).answered rq) :=
  congrArg Host.Outcome.next (serveWrite_accepted h acceptSecure (acceptSecure_linkStart e v _))

theorem State.link_served (s : State) (rq : Rq) (x : Sender) (i : Nat) : (s.served rq x).link i = s.link i :=
  State.link_eq (s.sec_served rq x) (s.obj_served_ne rq x (by simp)) i

/-! ## KA_HELLO (R339, R340) -/

section
variable {s : State} {e : Nat} {a : Agreement} {key nonce : Nat} (ha : (s.link e).agreement = some a) (hpeer : a.peer = none)
include ha hpeer

theorem State.takeHello_stranger (h : identityDigest key ≠ s.obj (Obj.SEC_PEER_ID (s.linkOf e))) : s.takeHello e key nonce = s.failKa e 1 := by
  unfold State.takeHello
  simp only [State.startKa_running (s := s) (e := e) (by simp [ha]), ha, hpeer]
  exact if_pos h

/-- The HELLO of the expected identity fixes the roles: the lower digest is the initiator's. -/
theorem State.takeHello_expected (h : identityDigest key = s.obj (Obj.SEC_PEER_ID (s.linkOf e))) :
    ∃ b, ((s.takeHello e key nonce).link e).agreement = some b ∧ b.peer = some (key, nonce) ∧
      b.initiator = decide (s.obj Obj.DEV_ID_DIGEST < identityDigest key) ∧ b.nonce = a.nonce := by
  unfold State.takeHello
  simp only [State.startKa_running (s := s) (e := e) (by simp [ha]), ha, hpeer, h, ne_eq, not_true, if_false, Option.isSome_none, Bool.false_eq_true]
  split
  · rw [State.link_setKa]
    exact ⟨_, rfl, rfl, rfl, rfl⟩
  · rw [State.link_drawn, State.link_send, State.link_setKa]
    exact ⟨_, rfl, rfl, rfl, rfl⟩

end

/-! ## KA_EK and KA_CT (R340) -/

section
variable {s : State} {e : Nat} {a : Agreement} {peer : Nat × Nat} {key signature : Nat}
variable (ha : (s.link e).agreement = some a) (hpeer : a.peer = some peer) (hsecret : a.secret = none)
include ha hpeer hsecret

section
variable (hrole : a.initiator = false)
include hrole

theorem State.takeEk_eq : let t2 := transcript2 peer (s.obj Obj.DEV_ID_KEY, a.nonce) key
    s.takeEk e key signature = if Config.mlDsaVerify peer.1 t2 signature = true then
        let ct := Config.kemCiphertext key s.free
        let t3 := transcript3 t2 ct
        let k := linkSecret (Config.kemSecret key s.free) t3
        ((s.drawn.setKa e { a with t2 := t2, t3 := t3, secret := some k }).send e (.ct ct (Config.mlDsaSign t3 s.drawn.fresh))).drawn.send e
          (.confirm (confirmation 1 k t3))
      else s.failKa e 2 := by
  intro t2
  have hhellos : s.hellos a peer = (peer, (s.obj Obj.DEV_ID_KEY, a.nonce)) := if_neg (by simp [hrole])
  unfold State.takeEk
  simp only [ha, hpeer, hsecret, hrole, hhellos, Bool.false_eq_true, Option.isSome_none, or_self, if_false, ite_not]
  rfl

theorem State.takeEk_signed (h : Config.mlDsaVerify peer.1 (transcript2 peer (s.obj Obj.DEV_ID_KEY, a.nonce) key) signature = true) :
    let t2 := transcript2 peer (s.obj Obj.DEV_ID_KEY, a.nonce) key
    let t3 := transcript3 t2 (Config.kemCiphertext key s.free)
    let k := linkSecret (Config.kemSecret key s.free) t3
    let l := (s.takeEk e key signature).link e
    l.agreement = some { a with t2 := t2, t3 := t3, secret := some k } ∧
      ∃ sig, l.outbox = (s.link e).outbox ++ [.ct (Config.kemCiphertext key s.free) sig, .confirm (confirmation 1 k t3)] := by
  intro t2 t3 k l
  have hl : l = _ := congrArg (State.link · e) ((State.takeEk_eq ha hpeer hsecret hrole).trans (if_pos h))
  rw [hl]
  dsimp only
  rw [State.link_send, State.link_drawn, State.link_send, State.link_setKa]
  exact ⟨rfl, _, List.append_assoc _ _ _⟩

theorem State.takeEk_forged (h : ¬ Config.mlDsaVerify peer.1 (transcript2 peer (s.obj Obj.DEV_ID_KEY, a.nonce) key) signature = true) :
    s.takeEk e key signature = s.failKa e 2 := (State.takeEk_eq ha hpeer hsecret hrole).trans (if_neg h)

end

theorem State.takeCt_eq (hrole : a.initiator = true) : let t3 := transcript3 a.t2 key
    let k := linkSecret (Config.kemDecaps a.draw key) t3
    s.takeCt e key signature = if Config.mlDsaVerify peer.1 t3 signature = true
      then (s.setKa e { a with t3 := t3, secret := some k }).send e (.confirm (confirmation 0 k t3)) else s.failKa e 2 := by
  unfold State.takeCt
  simp only [ha, hpeer, hsecret, hrole, Bool.false_eq_true, not_true, Option.isSome_none, or_self, if_false, ite_not]

end

/-! ## KA_CONFIRM (R340) -/

/-- The live link secret of a link without channels. -/
theorem State.goLive_spec {s : State} {e : Nat} (hbare : s.linkChannels e = []) (l : LinkSecret) : let t := s.goLive e l
    (t.link e).secret = some { l with since := s.now } ∧ (t.link e).agreement = none ∧ ∀ i ∈ s.bond e, t.obj (Obj.SEC_LINK_STATE i) = 2 := by
  intro t
  let u := s.withLink e fun x => { x with secret := some { l with since := s.now }, agreement := none, retryAt := none }
  have hraise (v : State) (fields : List Nat) : (v.raise Ev.KA_DONE fields).link e = v.link e := rfl
  have ht : t = (u.setLinkState e 2).raise Ev.KA_DONE [e, if l.initiator then 0 else 1, l.peer / 2 ^ 192] := by
    unfold t State.goLive
    simp only [hbare, List.foldl_nil]
    rfl
  have hlink : t.link e = u.link e := by rw [ht, hraise, State.link_setLinkState]
  rw [hlink, show u.link e = _ from s.link_withLink e _]
  refine ⟨rfl, rfl, fun i hi => ?_⟩
  rw [ht, State.obj_raise]
  exact State.obj_setLinkState_mem u e 2 hi

section
variable {s : State} {e : Nat} {a : Agreement} {peer : Nat × Nat} {k value : Nat}
variable (ha : (s.link e).agreement = some a) (hpeer : a.peer = some peer) (hsecret : a.secret = some k)
include ha hpeer hsecret

/-- No supply warning defers the new link secret. -/
theorem State.takeConfirm_eq (hwarn : s.obj Obj.PWR_WARN_ACTIVE = 0) : s.takeConfirm e value =
    if value = confirmation (if a.initiator then 1 else 0) k a.t3
    then (s.withLink e fun l => { l with agreement := none, retryAt := none }).goLive (s.linkOf e)
      ⟨k, a.initiator, identityDigest peer.1, s.now⟩ else s.failKa e 2 := by
  let t := s.withLink e fun l => { l with agreement := none, retryAt := none }
  have hlive (w : KeyWrite) : t.keyWrite w = applyKeyWrite w t := State.keyWrite_applies (s := t) hwarn w
  unfold State.takeConfirm
  simp only [ha, hpeer, hsecret, ne_eq, ite_not]
  rw [hlive]
  rfl

end

/-! ## KA_READY (R336) -/

/-- The READY of the one channel of a link is remembered. -/
theorem State.takeReady_single {s : State} {e i ch tpn d epoch check : Nat} {k : LinkSecret} (honly : s.linkChannels e = [(i, ch)])
    (htx : (s.txCfg i ch).tx = true) (htpn : s.halfTpn i ch false = tpn) (hk : (s.link e).secret = some k) (hd : d = sentDirection k) :
    s.takeReady e tpn d epoch check = (s.withChan i ch fun x => { x with heard := some (epoch, check) }).settle i ch := by
  unfold State.takeReady
  simp only [honly, htx, htpn, hk, hd, List.filter_cons, List.filter_nil, decide_true, Bool.and_self, if_true, List.foldl_cons, List.foldl_nil]

/-! ## ENTROPY_FAIL (R328) -/

/-- The state in which the source has failed, and the event is raised. -/
def State.entropyFailed (s : State) (test : Nat) : State := (s.setObj Obj.SEC_ENTROPY_STATE 1).raise Ev.ENTROPY_FAIL [0xFF, test]

theorem exec_entropyFail (s : State) (test : Nat) : exec (.entropyFail test) s =
    .next ((s.sec.links.filter fun l => l.2.agreement.isSome).foldl (fun u l => u.failKa l.1.i 3) (s.entropyFailed test)) := rfl

theorem State.obj_entropyFailed (s : State) (test : Nat) : (s.entropyFailed test).obj Obj.SEC_ENTROPY_STATE = 1 := by
  unfold State.entropyFailed
  rw [State.obj_raise, State.obj_setObj_same]

/-- Settles O43: the start by what refuses it, each message by what it finds and whether what it carries holds, and time and the entropy source by
whether they end the agreement. -/
theorem keyAgreementRunsItsMessages : Obligations.KeyAgreementRunsItsMessages := by
  unfold Obligations.KeyAgreementRunsItsMessages
  intro e s he l
  refine ⟨fun rq x val v h => ?_, fun cause => ?_, fun a key nonce ha hpeer => ?_, fun a peer key signature ha hpeer hsecret => ⟨fun hrole => ?_,
    fun hrole => congrArg Host.Outcome.next (State.takeCt_eq ha hpeer hsecret hrole)⟩, fun a peer k value ha hpeer hsecret hwarn hbare => ?_,
    fun tpn d epoch check i ch k honly htx htpn _ hk hd => ?_, fun cause => ?_, fun a ha => ?_, fun t ht => ?_, fun k hk => ?_,
    fun test => ?_, fun windows => ?_⟩
  · let u := s.served rq x
    have hl : u.link e = l := s.link_served rq x e
    have hlinkOf : u.linkOf e = e := (s.linkOf_served rq x e).trans he
    have hbond : u.bond e = s.bond e := congrArg (bondOf · e) (s.obj_served_ne rq x (by simp))
    have hentropy : u.obj Obj.SEC_ENTROPY_STATE = s.obj Obj.SEC_ENTROPY_STATE := s.obj_served_ne rq x (by simp)
    have hexpected : u.obj (Obj.SEC_PEER_ID (u.linkOf e)) = s.obj (Obj.SEC_PEER_ID e) := by rw [hlinkOf]; exact s.obj_served_ne rq x (by simp)
    have hid : u.obj Obj.DEV_ID_KEY = s.obj Obj.DEV_ID_KEY := s.obj_served_ne rq x (by simp)
    rw [← hl, ← hentropy, ← hexpected, ← hbond, ← hid]
    refine ⟨_, exec_secLinkStart h, State.startKa_running, State.startKa_noEntropy, State.startKa_noPeer, fun hnone h1 h0 => ?_⟩
    obtain ⟨a, ha, hstart, hpeer, hsecret, hfresh, hretry, hout, hstate⟩ := State.startKa_begins hnone h1 h0
    exact ⟨a, ha, hstart.trans (s.now_served rq x), hpeer, hsecret, hfresh.trans (congrArg (· + 1) (s.fresh_served rq x)), hretry, hout, hstate⟩
  · have hspec := s.failKa_spec e cause
    rw [he] at hspec
    exact hspec
  · refine ⟨_, rfl, ?_⟩
    split
    case isTrue h => exact State.takeHello_expected ha hpeer (by rw [he]; exact h)
    case isFalse h => exact State.takeHello_stranger ha hpeer (by rw [he]; exact h)
  · intro t2 t3 k
    refine ⟨_, rfl, ?_⟩
    split
    case isTrue h => exact State.takeEk_signed ha hpeer hsecret hrole h
    case isFalse h => exact State.takeEk_forged ha hpeer hsecret hrole h
  · refine ⟨s.takeConfirm e value, rfl, ?_⟩
    rw [State.takeConfirm_eq ha hpeer hsecret hwarn]
    by_cases h : value = confirmation (if a.initiator then 1 else 0) k a.t3
    · rw [if_pos h, if_pos h, he]
      exact State.goLive_spec (s := s.withLink e _) hbare _
    · rw [if_neg h, if_neg h]
  · have hready := State.takeReady_single (epoch := epoch) (check := check) honly htx htpn hk hd
    obtain ⟨since, hs⟩ := (s.withChan i ch fun x => { x with heard := some (epoch, check) }).secChan_settle i ch
    refine ⟨_, congrArg Host.Outcome.next hready, ?_, rfl⟩
    rw [hs, State.secChan_withChan_same]
  · rfl
  · show execKaTimeout e s = _
    unfold execKaTimeout
    simp only [show (s.link e).agreement = some a from ha, apply_ite Host.Outcome.next]
  · show execKaRetry e s = _
    unfold execKaRetry
    simp only [show (s.link e).retryAt = some t from ht, apply_ite Host.Outcome.next]
  · show execLinkSecretExpire e s = _
    unfold execLinkSecretExpire
    simp only [show (s.link e).secret = some k from hk, he, ticksPerSecond, apply_ite Host.Outcome.next]
  · refine ⟨_, exec_entropyFail s test, ?_, fun hlinks hrunning => ?_⟩
    · refine (foldl_keeps (State.obj · Obj.SEC_ENTROPY_STATE) (fun u l => ?_) _ _).trans (s.obj_entropyFailed test)
      exact (u.obj_failKa l.1.i 3 _).trans (u.obj_kaFailed_ne l.1.i 3 (by simp) (by simp))
    · obtain ⟨hended, _, _, hcause, _⟩ := (s.entropyFailed test).failKa_spec e 3
      rw [hlinks, List.filter_cons, if_pos hrunning, List.filter_nil, List.foldl_cons, List.foldl_nil]
      exact ⟨hended, (hcause e (State.mem_bond_self _ e)).1⟩
  · exact (apply_ite Host.Outcome.next _ _ _).symm

end Sys2Proof.Machine
end

section
/-! PROOFS. The timing references: what a level, a state, a failure and a disqualification write, the checks of REF_CHECK, and the levels that clients
receive and send. -/

namespace Sys2Proof.Machine

/-! ## The level and the state of a reference (R347, R349, R351) -/

section
variable (s : State) (r : Nat)

/-- The objects and the changes on their way to the event stream may differ, and nothing else. -/
def State.sameButReports (s t : State) : Prop := t = { s with reg := t.reg, changes := t.changes }

theorem State.sameButReports.trans {s t u : State} (h : s.sameButReports t) (g : t.sameButReports u) : s.sameButReports u := by
  unfold State.sameButReports at h g ⊢
  rw [g, h]

theorem State.sameButReports.timing {s t : State} (h : s.sameButReports t) : t.timing = s.timing := by rw [h]
theorem State.sameButReports.now {s t : State} (h : s.sameButReports t) : t.now = s.now := by rw [h]
theorem State.sameButReports.clients {s t : State} (h : s.sameButReports t) : t.clients = s.clients := by rw [h]

theorem State.sameButReports.ref {s t : State} (h : s.sameButReports t) (i : Nat) : t.ref i = s.ref i :=
  congrArg (fun x : Timing => Map.get ({} : Ref) x.refs (Key.unit i)) h.timing

theorem State.refreshLevel_frame : s.sameButReports (s.refreshLevel r) := by
  unfold State.refreshLevel
  extract_lets old new
  split <;> rfl

theorem State.setRefState_frame (new : Nat) : s.sameButReports (s.setRefState r new) := by
  unfold State.setRefState
  extract_lets old
  split
  · rfl
  · exact State.sameButReports.trans (t := (s.setObj (Obj.TM_REF_STATE r) new).raise Ev.REF_STATE [r, old, new]) rfl (State.refreshLevel_frame _ r)

@[simp] theorem State.ref_refreshLevel (i : Nat) : (s.refreshLevel r).ref i = s.ref i := (s.refreshLevel_frame r).ref i
@[simp] theorem State.ref_setRefState (new i : Nat) : (s.setRefState r new).ref i = s.ref i :=
  (s.setRefState_frame r new).ref i

/-- The level that a reference comes to is the one object that is written. -/
theorem State.obj_refreshLevel (k : Key) : (s.refreshLevel r).obj k = if k = Obj.TM_REF_QL r then s.refLevel r else s.obj k := by
  unfold State.refreshLevel
  extract_lets old new
  by_cases h : old = new
  · rw [if_pos h]
    split
    case isTrue hk => rw [hk]; exact h
    case isFalse => rfl
  · rw [if_neg h]
    exact s.obj_setObj _ _ _

theorem State.obj_setRefState_state (new : Nat) : (s.setRefState r new).obj (Obj.TM_REF_STATE r) = new := by
  unfold State.setRefState
  extract_lets old
  split
  case isTrue h => exact h
  case isFalse => simp [State.obj_refreshLevel]

theorem State.obj_setRefState_ne (new : Nat) {k : Key} (hs : k ≠ Obj.TM_REF_STATE r) (hq : k ≠ Obj.TM_REF_QL r) :
    (s.setRefState r new).obj k = s.obj k := by
  unfold State.setRefState
  extract_lets old
  split
  · rfl
  · rw [State.obj_refreshLevel, if_neg hq]
    exact s.obj_setObj_ne _ hs

theorem State.refLevel_failed {s : State} {r : Nat} (h : s.obj (Obj.TM_REF_STATE r) = 0) : s.refLevel r = 0 := if_pos h

section
variable {s : State} {r new : Nat} (h : s.obj (Obj.TM_REF_STATE r) ≠ new)
include h

theorem State.setRefState_new : s.setRefState r new =
    ((s.setObj (Obj.TM_REF_STATE r) new).raise Ev.REF_STATE [r, s.obj (Obj.TM_REF_STATE r), new]).refreshLevel r := if_neg h

theorem State.mem_changes_setRefState :
    ⟨Ev.REF_STATE.code, false, s.tick, contentOf Ev.REF_STATE.widths [r, s.obj (Obj.TM_REF_STATE r), new]⟩ ∈ (s.setRefState r new).changes := by
  rw [State.setRefState_new h]
  exact (State.refreshLevel_followedBy _ r).changes (List.mem_append_right _ List.mem_cons_self)

end

theorem State.level_setRefState_failed {s : State} {r : Nat} (h : s.obj (Obj.TM_REF_STATE r) ≠ 0) :
    (s.setRefState r 0).obj (Obj.TM_REF_QL r) = 0 := by
  rw [State.setRefState_new h, State.obj_refreshLevel, if_pos rfl]
  exact State.refLevel_failed (State.obj_setObj_same s _ 0)

/-! ## The DPLLs that track a reference (R347) -/

@[simp] theorem State.obj_freezeTrackers (k : Key) : (s.freezeTrackers r).obj k = s.obj k :=
  foldl_keeps (State.obj · k) (fun t d => by split <;> rfl) _ s

@[simp] theorem State.ref_freezeTrackers (i : Nat) : (s.freezeTrackers r).ref i = s.ref i :=
  foldl_keeps (State.ref · i) (fun t d => by split <;> rfl) _ s

@[simp] theorem State.changes_freezeTrackers : (s.freezeTrackers r).changes = s.changes :=
  foldl_keeps State.changes (fun t d => by split <;> rfl) _ s

theorem State.frozen_freezeTrackers {s : State} {r : Nat} (d : Fin 4) (h : s.obj (Obj.TM_DP_SELECTED d) = r) :
    ((s.freezeTrackers r).dpll d).frozen = true := by
  refine foldl_reaches (P := fun t : State => t.obj (Obj.TM_DP_SELECTED d) = r) (Q := fun t : State => (t.dpll d).frozen = true) (a := d.val)
    (fun t i _ ht => ?_) (fun t ht => ?_) (fun t i ht => ?_) (by simp; omega) h
  · split
    · exact ht
    · exact ht
  · rw [if_pos ht, State.dpll_withDpll_same]
  · split
    · rw [State.dpll_withDpll]
      split
      · rfl
      · exact ht
    · exact ht

end

/-! ## A failure and its end (R346, R347, R351) -/

/-- A reference that is lost: what its checks have seen is dropped, and a disqualification of the same tick leaves no mark (R371). -/
def State.refLost (s : State) (r : Nat) : State :=
  (if (s.ref r).dqAt = some s.now then s.setObj (Obj.TM_REF_DQ_TICK r) (s.ref r).dqBefore else s).withRef r fun x => { x with
    lostAt := s.now, xoSince := none, peerSince := none, driftSince := none, cleared := false, inside := 0 }

section
variable {s : State} {r : Nat}

theorem State.failRef_failed (h : s.obj (Obj.TM_REF_STATE r) = 0) : s.failRef r = s.withRef r fun x => { x with cleared := false, inside := 0 } :=
  if_pos h

theorem State.failRef_live (h : s.obj (Obj.TM_REF_STATE r) ≠ 0) : s.failRef r = ((s.refLost r).setRefState r 0).freezeTrackers r := if_neg h

theorem State.obj_refLost {k : Key} (h : k ≠ Obj.TM_REF_DQ_TICK r) : (s.refLost r).obj k = s.obj k := by
  unfold State.refLost
  rw [State.obj_withRef]
  split
  · exact s.obj_setObj_ne _ h
  · rfl

theorem State.ref_refLost : (s.refLost r).ref r = { s.ref r with
    lostAt := s.now, xoSince := none, peerSince := none, driftSince := none, cleared := false, inside := 0 } := by
  unfold State.refLost
  rw [State.ref_withRef_same]
  split <;> rfl

theorem State.tick_refLost : (s.refLost r).tick = s.tick := by
  unfold State.refLost
  rw [State.tick_withRef]
  split <;> rfl

/-- A failure of a reference that was not failed. -/
theorem State.failRef_spec (h : s.obj (Obj.TM_REF_STATE r) ≠ 0) : let t := s.failRef r
    t.obj (Obj.TM_REF_STATE r) = 0 ∧ t.obj (Obj.TM_REF_QL r) = 0 ∧ (t.ref r).lostAt = s.now ∧ (t.ref r).inside = 0 ∧
    (∀ d : Fin 4, s.obj (Obj.TM_DP_SELECTED d) = r → (t.dpll d).frozen = true) ∧
    ⟨Ev.REF_STATE.code, false, s.tick, contentOf Ev.REF_STATE.widths [r, s.obj (Obj.TM_REF_STATE r), 0]⟩ ∈ t.changes := by
  have hstate : (s.refLost r).obj (Obj.TM_REF_STATE r) = s.obj (Obj.TM_REF_STATE r) := State.obj_refLost (by simp)
  have hlive : (s.refLost r).obj (Obj.TM_REF_STATE r) ≠ 0 := hstate ▸ h
  have hmem := State.mem_changes_setRefState hlive
  rw [hstate, State.tick_refLost] at hmem
  intro t
  have ht : t = ((s.refLost r).setRefState r 0).freezeTrackers r := State.failRef_live h
  have href : t.ref r = (s.refLost r).ref r := by rw [ht, State.ref_freezeTrackers, State.ref_setRefState]
  rw [href, State.ref_refLost, ht, State.obj_freezeTrackers, State.obj_freezeTrackers, State.changes_freezeTrackers]
  refine ⟨State.obj_setRefState_state _ r 0, State.level_setRefState_failed hlive, rfl, rfl, fun d hd => State.frozen_freezeTrackers d ?_, hmem⟩
  rw [State.obj_setRefState_ne _ _ _ (by simp) (by simp), State.obj_refLost (by simp)]
  exact hd

/-- Whatever its state was, a reference that fails is FAILED, and its condition must be absent anew. -/
theorem State.failRef_fails (s : State) (r : Nat) : (s.failRef r).obj (Obj.TM_REF_STATE r) = 0 ∧ ((s.failRef r).ref r).inside = 0 := by
  by_cases h : s.obj (Obj.TM_REF_STATE r) = 0
  · rw [State.failRef_failed h, State.ref_withRef_same]
    exact ⟨h, rfl⟩
  · obtain ⟨hstate, _, _, hinside, _⟩ := State.failRef_spec h
    exact ⟨hstate, hinside⟩

theorem exec_refFail_absent {r : Fin 20} {missing : Nat}
    (h : ¬ (s.refCondition r = some true ∨ (s.refCondition r = none ∧ s.edgeLimit r ≤ missing))) : exec (.refFail r missing) s = .next s := by
  show execRefFail r missing s = _
  unfold execRefFail
  cases hc : s.refCondition r with
  | none => exact if_neg fun hm => h (.inr ⟨hc, hm⟩)
  | some c => exact if_neg fun hm => h (.inl (hc.trans (congrArg some hm)))

theorem exec_refFail_present {r : Fin 20} {missing : Nat}
    (h : s.refCondition r = some true ∨ (s.refCondition r = none ∧ s.edgeLimit r ≤ missing)) :
    exec (.refFail r missing) s = .next (s.failRef r) := by
  show execRefFail r missing s = _
  unfold execRefFail
  obtain hc | ⟨hc, hm⟩ := h
  · rw [hc]; rfl
  · rw [hc]; exact if_pos hm

theorem exec_refFailClear_absent {r : Fin 20} {run : Nat} (h : s.refCondition r ≠ some true) (hrun : (if r.val < 18 then 8 else 2) ≤ run) :
    exec (.refFailClear r run) s = .next (s.clearRef r) :=
  (if_neg h).trans (if_pos hrun)

theorem State.clearRef_live (h : s.obj (Obj.TM_REF_STATE r) ≠ 0) : s.clearRef r = s := if_neg h

theorem State.clearRef_failed (h : s.obj (Obj.TM_REF_STATE r) = 0) : s.clearRef r = (s.withRef r fun x => { x with cleared := true }).recoverRef r :=
  if_pos h

/-- A failure that is over, where an offset check still meets its condition. -/
theorem State.clearRef_waits (h : s.obj (Obj.TM_REF_STATE r) = 0) (hoff : ¬ ((s.ref r).xoSince = none ∧ (s.ref r).peerSince = none)) :
    s.clearRef r = s.withRef r fun x => { x with cleared := true } := by
  rw [State.clearRef_failed h]
  refine if_neg fun g => hoff ?_
  obtain ⟨_, _, hxo, hpeer⟩ := g
  rw [State.ref_withRef_same] at hxo hpeer
  exact ⟨Option.isNone_iff_eq_none.mp hxo, Option.isNone_iff_eq_none.mp hpeer⟩

/-- A failure that is over, where the offset checks pass. -/
theorem State.clearRef_recovers (h : s.obj (Obj.TM_REF_STATE r) = 0) (hxo : (s.ref r).xoSince = none) (hpeer : (s.ref r).peerSince = none) :
    s.clearRef r =
      (((s.withRef r fun x => { x with cleared := true }).withRef r fun x => { x with cleared := false }).startQualifying r).followChecks r := by
  rw [State.clearRef_failed h]
  exact if_pos ⟨h, by simp, by simp [hxo], by simp [hpeer]⟩

/-! ## QUALIFYING, and what checks and lockouts make of it (R351) -/

theorem State.lockedOut_congr {t : State} (h : ∀ d, t.obj (Obj.TM_DP_LOCKOUT d) = s.obj (Obj.TM_DP_LOCKOUT d)) :
    t.lockedOut r = s.lockedOut r := by
  simp only [State.lockedOut, h]

theorem State.followChecks_qualified (h : 2 ≤ s.obj (Obj.TM_REF_STATE r)) :
    s.followChecks r = if s.lockedOut r then s.dropQualified r else s := by
  unfold State.followChecks
  split
  case h_1 h0 => omega
  case h_2 h1 => omega
  case h_3 => rfl

theorem State.obj_dropQualified_state : (s.dropQualified r).obj (Obj.TM_REF_STATE r) = 1 := State.obj_setRefState_state _ r 1

theorem State.obj_dropQualified_ne {k : Key} (hs : k ≠ Obj.TM_REF_STATE r) (hq : k ≠ Obj.TM_REF_QL r) : (s.dropQualified r).obj k = s.obj k :=
  State.obj_setRefState_ne _ r 1 hs hq

theorem State.ref_dropQualified : (s.dropQualified r).ref r = { s.ref r with lostAt := s.now } :=
  (State.ref_setRefState _ r 1 r).trans (s.ref_withRef_same r _)

theorem State.obj_startQualifying_state : (s.startQualifying r).obj (Obj.TM_REF_STATE r) = 2 := State.obj_setRefState_state _ r 2

theorem State.ref_startQualifying : (s.startQualifying r).ref r = { s.ref r with qualifyFrom := s.now } :=
  (State.ref_setRefState _ r 2 r).trans (s.ref_withRef_same r _)

theorem State.lockedOut_startQualifying : (s.startQualifying r).lockedOut r = s.lockedOut r :=
  State.lockedOut_congr fun _ => State.obj_setRefState_ne _ r 2 (by simp) (by simp)

/-- A wait that starts anew ends at once under a lockout on every DPLL. -/
theorem State.startQualifying_followed : let t := (s.startQualifying r).followChecks r
    t.obj (Obj.TM_REF_STATE r) = (if s.lockedOut r then 1 else 2) ∧ (t.ref r).qualifyFrom = s.now := by
  intro t
  have ht : t = if s.lockedOut r then (s.startQualifying r).dropQualified r else s.startQualifying r :=
    (State.followChecks_qualified State.obj_startQualifying_state.ge).trans (by rw [State.lockedOut_startQualifying])
  rw [ht]
  split
  · rw [State.ref_dropQualified, State.ref_startQualifying]
    exact ⟨State.obj_dropQualified_state, rfl⟩
  · rw [State.ref_startQualifying]
    exact ⟨State.obj_startQualifying_state, rfl⟩

end

/-! ## The checks of REF_CHECK (R351 to R353) -/

section
variable (s : State) (r : Nat) (measured : Int) (fresh : Bool)

/-- The offset and the drift that REF_CHECK goes by. -/
def State.checkedOffset : Int := if fresh then measured else s.objInt (Obj.TM_REF_FOFF r)
def State.checkedDrift : Int := if fresh then (s.sampleRef r measured).driftOf r else s.objInt (Obj.TM_REF_DRIFT r)

/-- The state in which a fresh measurement is reported and each check knows since when it has met its condition. -/
def State.checkedRef : State :=
  (s.measureRef r measured fresh).withRef r fun x => { x with
    xoSince := holdSince x.xoSince
      (decide (s.obj Obj.TM_XO_STATE = 0) && decide (s.obj Obj.TM_FOFF_XO * 1000 < (s.checkedOffset r measured fresh).natAbs)) s.now
    peerSince := holdSince x.peerSince (decide (2 ≤ (s.peerOffsets r).length) &&
      decide (s.obj Obj.TM_FOFF_PEER * 1000 < (s.checkedOffset r measured fresh - median (s.peerOffsets r)).natAbs)) s.now
    driftSince := holdSince x.driftSince (decide (s.obj Obj.TM_DRIFT_RATE * 10 < (s.checkedDrift r measured fresh).natAbs)) s.now }

/-- The first check that has met its condition for its soak, with its value. -/
def State.failedCheck : Option (Nat × Int) :=
  let x := (s.checkedRef r measured fresh).ref r
  if soaked x.xoSince (s.obj Obj.TM_FOFF_SOAK * 80000) s.now then some (1, s.checkedOffset r measured fresh)
  else if soaked x.peerSince (s.obj Obj.TM_FOFF_SOAK * 80000) s.now then
    some (2, s.checkedOffset r measured fresh - median (s.peerOffsets r))
  else if soaked x.driftSince (s.obj Obj.TM_DRIFT_SOAK * ticksPerSecond) s.now then some (3, s.checkedDrift r measured fresh)
  else none

/-- A reference that a check has disqualified, with the value that the check has found. -/
def State.disqualified (s : State) (r check : Nat) (value : Int) : State :=
  (((s.withRef r fun x => { x with dqAt := some s.now, dqBefore := s.obj (Obj.TM_REF_DQ_TICK r) }).setObj (Obj.TM_REF_DQ_TICK r) s.tick).raise
    Ev.REF_DISQUAL [r, check, encode 4 value]).dropQualified r

theorem State.ref_sampleRef : ∃ xs, (s.sampleRef r measured).ref r = { s.ref r with samples := xs } := by
  unfold State.sampleRef
  extract_lets others x
  exact ⟨_, s.ref_withRef_same r _⟩

theorem State.ref_measureRef : ∃ xs, (s.measureRef r measured fresh).ref r = { s.ref r with samples := xs } := by
  cases fresh with
  | false => exact ⟨_, rfl⟩
  | true => exact s.ref_sampleRef r measured

/-- A measurement is reported in two objects, and leaves every other alone. -/
theorem State.obj_measureRef {k : Key} (ho : k ≠ Obj.TM_REF_FOFF r) (hd : k ≠ Obj.TM_REF_DRIFT r) :
    (s.measureRef r measured fresh).obj k = s.obj k := by
  cases fresh with
  | false => rfl
  | true => exact (State.obj_setInt_ne _ _ hd).trans (State.obj_setInt_ne _ _ ho)

theorem State.obj_checkedRef {k : Key} (ho : k ≠ Obj.TM_REF_FOFF r) (hd : k ≠ Obj.TM_REF_DRIFT r) :
    (s.checkedRef r measured fresh).obj k = s.obj k :=
  s.obj_measureRef r measured fresh ho hd

/-- A fresh measurement and its drift are what the two objects read (R353). -/
theorem State.obj_checkedRef_fresh : (s.checkedRef r measured true).obj (Obj.TM_REF_FOFF r) = encode 4 (s.checkedOffset r measured true) ∧
    (s.checkedRef r measured true).obj (Obj.TM_REF_DRIFT r) = encode 4 (s.checkedDrift r measured true) :=
  ⟨(State.obj_setInt_ne _ _ (by simp)).trans (State.obj_setInt_same _ _ _), State.obj_setInt_same _ _ _⟩

theorem State.now_checkedRef : (s.checkedRef r measured fresh).now = s.now := by cases fresh <;> rfl
theorem State.tick_checkedRef : (s.checkedRef r measured fresh).tick = s.tick := by cases fresh <;> rfl
theorem State.changes_checkedRef : (s.checkedRef r measured fresh).changes = s.changes := by cases fresh <;> rfl

theorem State.lockedOut_checkedRef : (s.checkedRef r measured fresh).lockedOut r = s.lockedOut r :=
  State.lockedOut_congr fun _ => s.obj_checkedRef r measured fresh (by simp) (by simp)

end

section
variable {s : State} {r : Nat}

/-- A disqualification: its state, its tick, its event, and what it leaves alone. -/
theorem State.disqualified_spec (check : Nat) (value : Int) : let t := s.disqualified r check value
    t.obj (Obj.TM_REF_STATE r) = 1 ∧ t.obj (Obj.TM_REF_DQ_TICK r) = s.tick ∧ (t.ref r).lostAt = s.now ∧
    ⟨Ev.REF_DISQUAL.code, false, s.tick, contentOf Ev.REF_DISQUAL.widths [r, check, encode 4 value]⟩ ∈ t.changes ∧
    ∀ k, k ≠ Obj.TM_REF_STATE r → k ≠ Obj.TM_REF_QL r → k ≠ Obj.TM_REF_DQ_TICK r → t.obj k = s.obj k := by
  refine ⟨State.obj_dropQualified_state, ?_, ?_, ?_, fun k hs hq hd => ?_⟩
  · exact (State.obj_dropQualified_ne (by simp) (by simp)).trans (State.obj_setObj_same _ _ _)
  · exact congrArg Ref.lostAt State.ref_dropQualified
  · exact (State.setRefState_followedBy _ r 1).changes (List.mem_append_right _ List.mem_cons_self)
  · exact (State.obj_dropQualified_ne hs hq).trans (State.obj_setObj_ne _ _ hd)

end

section
variable {s : State} {r : Fin 20} {measured : Int} {fresh : Bool} (hst : 2 ≤ s.obj (Obj.TM_REF_STATE r))
include hst

theorem exec_refCheck_disqualifies {check : Nat} {value : Int} (h : s.failedCheck r measured fresh = some (check, value)) :
    exec (.refCheck r measured fresh) s = .next ((s.checkedRef r measured fresh).disqualified r check value) := by
  show execRefCheck r measured fresh s = _
  unfold execRefCheck State.disqualified
  rw [State.now_checkedRef, State.tick_checkedRef, State.obj_checkedRef _ _ _ _ (by simp) (by simp)]
  extract_lets t offset drift others peer above u st x soak failed v
  rw [if_neg (show ¬ st = 0 by omega), show failed = some (check, value) from h]
  exact if_neg (show ¬ st = 1 by omega)

theorem exec_refCheck_passes (h : s.failedCheck r measured fresh = none) :
    exec (.refCheck r measured fresh) s = .next ((s.checkedRef r measured fresh).followChecks r) := by
  show execRefCheck r measured fresh s = _
  unfold execRefCheck
  extract_lets t offset drift others peer above u st x soak failed
  rw [if_neg (show ¬ st = 0 by omega), show failed = none from h]
  rfl

end

section
variable {s : State} {r : Nat} {measured : Int} {fresh : Bool} {since : Nat}

theorem holdSince_false (old : Option Nat) (now : Nat) : holdSince old false now = none := rfl
theorem soaked_none (soak now : Nat) : soaked none soak now = false := rfl
theorem soaked_some {since soak now : Nat} (h : since + soak ≤ now) : soaked (some since) soak now = true := decide_eq_true h

theorem State.xoSince_checkedRef : ((s.checkedRef r measured fresh).ref r).xoSince = holdSince (s.ref r).xoSince
    (decide (s.obj Obj.TM_XO_STATE = 0) && decide (s.obj Obj.TM_FOFF_XO * 1000 < (s.checkedOffset r measured fresh).natAbs)) s.now := by
  obtain ⟨xs, h⟩ := s.ref_measureRef r measured fresh
  rw [State.checkedRef, State.ref_withRef_same, h]

theorem State.peerSince_checkedRef : ((s.checkedRef r measured fresh).ref r).peerSince = holdSince (s.ref r).peerSince
    (decide (2 ≤ (s.peerOffsets r).length) &&
      decide (s.obj Obj.TM_FOFF_PEER * 1000 < (s.checkedOffset r measured fresh - median (s.peerOffsets r)).natAbs)) s.now := by
  obtain ⟨xs, h⟩ := s.ref_measureRef r measured fresh
  rw [State.checkedRef, State.ref_withRef_same, h]

theorem State.driftSince_checkedRef : ((s.checkedRef r measured fresh).ref r).driftSince = holdSince (s.ref r).driftSince
    (decide (s.obj Obj.TM_DRIFT_RATE * 10 < (s.checkedDrift r measured fresh).natAbs)) s.now := by
  obtain ⟨xs, h⟩ := s.ref_measureRef r measured fresh
  rw [State.checkedRef, State.ref_withRef_same, h]

/-- An offset from the XO above its limit for its soak. -/
theorem State.failedCheck_xo (hxo : s.obj Obj.TM_XO_STATE = 0) (habove : s.obj Obj.TM_FOFF_XO * 1000 < (s.checkedOffset r measured fresh).natAbs)
    (hsince : (s.ref r).xoSince = some since) (hsoak : since + s.obj Obj.TM_FOFF_SOAK * 80000 ≤ s.now) :
    s.failedCheck r measured fresh = some (1, s.checkedOffset r measured fresh) := by
  refine if_pos ?_
  rw [State.xoSince_checkedRef, hsince, decide_eq_true hxo, decide_eq_true habove]
  exact soaked_some hsoak

section
variable (hoff : (s.checkedOffset r measured fresh).natAbs ≤ s.obj Obj.TM_FOFF_XO * 1000) (hpeers : (s.peerOffsets r).length < 2)
include hoff hpeers

/-- Where the offset is within its limit and there are no two peers, the drift decides. -/
theorem State.failedCheck_drift : s.failedCheck r measured fresh =
    if soaked ((s.checkedRef r measured fresh).ref r).driftSince (s.obj Obj.TM_DRIFT_SOAK * ticksPerSecond) s.now then
      some (3, s.checkedDrift r measured fresh)
    else none := by
  refine (if_neg ?_).trans (if_neg ?_)
  · rw [State.xoSince_checkedRef, decide_eq_false (Nat.not_lt.mpr hoff), Bool.and_false, holdSince_false, soaked_none]
    exact Bool.false_ne_true
  · rw [State.peerSince_checkedRef, decide_eq_false (Nat.not_le.mpr hpeers), Bool.false_and, holdSince_false, soaked_none]
    exact Bool.false_ne_true

theorem State.failedCheck_drift_above (h : s.obj Obj.TM_DRIFT_RATE * 10 < (s.checkedDrift r measured fresh).natAbs)
    (hsince : (s.ref r).driftSince = some since) (hsoak : since + s.obj Obj.TM_DRIFT_SOAK * 800000 ≤ s.now) :
    s.failedCheck r measured fresh = some (3, s.checkedDrift r measured fresh) := by
  rw [State.failedCheck_drift hoff hpeers, State.driftSince_checkedRef, hsince, decide_eq_true h]
  exact if_pos (soaked_some hsoak)

theorem State.failedCheck_drift_within (h : ¬ s.obj Obj.TM_DRIFT_RATE * 10 < (s.checkedDrift r measured fresh).natAbs) :
    s.failedCheck r measured fresh = none := by
  rw [State.failedCheck_drift hoff hpeers, State.driftSince_checkedRef, decide_eq_false h]
  rfl

end

end

/-! ## REF_QUALIFY and the edges of a PPS (R346, R347, R351, R365) -/

section
variable {s : State}

theorem exec_refQualify (r : Fin 20) : exec (.refQualify r) s =
    if s.obj (Obj.TM_REF_STATE r) = 2 ∧ (s.ref r).qualifyFrom + s.obj (Obj.TM_REF_WTR r) * 800000 ≤ s.now then .next (s.setRefState r 3)
    else .next s := rfl

variable {p : Fin 2} {error : Int} {r : Nat} (hr : 18 + p.val = r)
include hr

/-- The second edge in a row outside the window. -/
theorem exec_ppsEdge_outside (h : s.obj (Obj.TM_PPS_WIN r) < (s.compensated r error).natAbs) (hrun : 1 ≤ (s.ref r).outside) :
    exec (.ppsEdge p error) s = .next ((s.withRef r fun x => { x with outside := x.outside + 1, inside := 0 }).failRef r) := by
  subst hr
  refine (if_pos h).trans (congrArg Host.Outcome.next ?_)
  exact if_pos (by omega)

/-- An edge within the window, which does not end a failure. -/
theorem exec_ppsEdge_inside (h : (s.compensated r error).natAbs ≤ s.obj (Obj.TM_PPS_WIN r))
    (hkeep : s.obj (Obj.TM_REF_STATE r) ≠ 0 ∨ (s.ref r).inside = 0) : exec (.ppsEdge p error) s =
    .next ((s.withRef r fun x => { x with inside := x.inside + 1, outside := 0 }).ppsAlign p (s.compensated r error)) := by
  subst hr
  refine (if_neg (Nat.not_lt.mpr h)).trans (congrArg (fun t : State => Host.Outcome.next (t.ppsAlign p _)) ?_)
  obtain hlive | hfirst := hkeep
  · split
    · exact State.clearRef_live hlive
    · rfl
  · exact if_neg (by omega)

end

/-! ## Levels received (R348, R349) -/

section
variable {s t : State} {r r' f mode ssm : Nat} {essm : Option Nat}

/-- The second state is the first, but for the levels of references and what references have received. -/
structure State.HasHeard (s t : State) : Prop where
  clients : t.clients = s.clients
  now : t.now = s.now
  obj : ∀ k, (∀ r, k ≠ Obj.TM_REF_QL r) → t.obj k = s.obj k

theorem State.HasHeard.refl (s : State) : s.HasHeard s := ⟨rfl, rfl, fun _ _ => rfl⟩

theorem State.HasHeard.refLane (h : s.HasHeard t) (r : Nat) : t.refLane r = s.refLane r := by
  unfold State.refLane
  rw [h.obj _ (by simp)]

theorem State.HasHeard.clientAt (h : s.HasHeard t) (l : Nat) : t.clientAt l = s.clientAt l := by
  unfold State.clientAt State.laneOwner
  rw [h.clients]

/-- A reference takes a level that it has received on a lane. -/
def State.hearLevel (s : State) (r l mode ssm : Nat) (essm : Option Nat) : State :=
  (s.withRef r fun x => { x with ssm := some ssm, essm := essm, lastPdu := some s.now, heardOn := some (l, mode) }).refreshLevel r

theorem State.HasHeard.hearLevel (h : s.HasHeard t) (r l mode ssm : Nat) (essm : Option Nat) : s.HasHeard (t.hearLevel r l mode ssm essm) where
  clients := (State.refreshLevel_frame _ r).clients.trans h.clients
  now := (State.refreshLevel_frame _ r).now.trans h.now
  obj k hk := ((State.obj_refreshLevel _ r k).trans (if_neg (hk r))).trans (h.obj k hk)

theorem State.ref_hearLevel_same (s : State) (r l mode ssm : Nat) (essm : Option Nat) : (s.hearLevel r l mode ssm essm).ref r =
    { s.ref r with ssm := some ssm, essm := essm, lastPdu := some s.now, heardOn := some (l, mode) } :=
  (State.ref_refreshLevel _ r r).trans (s.ref_withRef_same r _)

theorem State.hearLevel_ne (s : State) (l mode ssm : Nat) (essm : Option Nat) (h : r' ≠ r) :
    (s.hearLevel r l mode ssm essm).ref r' = s.ref r' ∧ (s.hearLevel r l mode ssm essm).obj (Obj.TM_REF_QL r') = s.obj (Obj.TM_REF_QL r') :=
  ⟨(State.ref_refreshLevel _ r r').trans (s.ref_withRef_ne r _ h), (State.obj_refreshLevel _ r _).trans (if_neg (by simpa using h))⟩

/-- A level in a mode that uses it is in force on the lane on which it came. -/
theorem State.level_hearLevel {l : Nat} (hlane : s.refLane r = some l) (hmode : s.obj (Obj.TM_REF_QL_MODE r) = mode) (hm : mode ≠ 0) :
    (s.hearLevel r l mode ssm essm).obj (Obj.TM_REF_QL r) =
      if s.obj (Obj.TM_REF_STATE r) = 0 then 0 else ssmLevel (s.obj Obj.TM_QL_OPTION) ssm essm := by
  let u := s.withRef r fun x => { x with ssm := some ssm, essm := essm, lastPdu := some s.now, heardOn := some (l, mode) }
  have href : u.ref r = { s.ref r with ssm := some ssm, essm := essm, lastPdu := some s.now, heardOn := some (l, mode) } := s.ref_withRef_same r _
  have hheard : (u.ref r).heardOn = (u.refLane r).map (·, u.obj (Obj.TM_REF_QL_MODE r)) := by
    rw [href, show u.refLane r = s.refLane r from rfl, hlane, show u.obj (Obj.TM_REF_QL_MODE r) = mode from hmode]
    rfl
  refine ((State.obj_refreshLevel u r _).trans (if_pos rfl)).trans (if_congr Iff.rfl rfl ?_)
  rw [if_neg (show ¬ u.obj (Obj.TM_REF_QL_MODE r) = 0 from hmode ▸ hm), if_neg (not_not.mpr hheard), href]
  rfl

/-- What the HOST reference `k` takes of a level that arrives for a client. -/
def State.takeLevel (f mode ssm : Nat) (essm : Option Nat) (s : State) (k : Nat) : State :=
  match s.refLane (4 + k) with
  | some l => if s.clientAt l = f ∧ s.obj (Obj.TM_REF_QL_MODE (4 + k)) = mode then s.hearLevel (4 + k) l mode ssm essm else s
  | none => s

theorem State.receiveLevel_eq (s : State) (f mode ssm : Nat) (essm : Option Nat) :
    s.receiveLevel f mode ssm essm = (List.range 8).foldl (State.takeLevel f mode ssm essm) s := rfl

variable {k : Nat}

theorem State.takeLevel_fed {l : Nat} (hlane : s.refLane (4 + k) = some l) (hf : s.clientAt l = f) (hmode : s.obj (Obj.TM_REF_QL_MODE (4 + k)) = mode) :
    State.takeLevel f mode ssm essm s k = s.hearLevel (4 + k) l mode ssm essm := by
  unfold State.takeLevel
  rw [hlane]
  exact if_pos ⟨hf, hmode⟩

theorem State.takeLevel_unfed (h : (∀ l, s.refLane (4 + k) = some l → s.clientAt l ≠ f) ∨ s.obj (Obj.TM_REF_QL_MODE (4 + k)) ≠ mode) :
    State.takeLevel f mode ssm essm s k = s := by
  unfold State.takeLevel
  split
  case h_1 l hl => exact if_neg fun g => h.elim (fun hne => hne l hl g.1) (fun hne => hne g.2)
  case h_2 => rfl

theorem State.takeLevel_cases (s : State) (k : Nat) :
    State.takeLevel f mode ssm essm s k = s ∨ ∃ l, State.takeLevel f mode ssm essm s k = s.hearLevel (4 + k) l mode ssm essm := by
  unfold State.takeLevel
  split
  · split
    · exact .inr ⟨_, rfl⟩
    · exact .inl rfl
  · exact .inl rfl

theorem State.HasHeard.takeLevel (h : s.HasHeard t) (k : Nat) : s.HasHeard (State.takeLevel f mode ssm essm t k) := by
  obtain heq | ⟨l, heq⟩ := t.takeLevel_cases (f := f) (mode := mode) (ssm := ssm) (essm := essm) k
  · rw [heq]; exact h
  · rw [heq]; exact h.hearLevel _ l mode ssm essm

theorem State.takeLevel_ne (s : State) {j : Nat} (h : k ≠ j) : (State.takeLevel f mode ssm essm s j).ref (4 + k) = s.ref (4 + k) ∧
    (State.takeLevel f mode ssm essm s j).obj (Obj.TM_REF_QL (4 + k)) = s.obj (Obj.TM_REF_QL (4 + k)) := by
  obtain heq | ⟨l, heq⟩ := s.takeLevel_cases (f := f) (mode := mode) (ssm := ssm) (essm := essm) j
  · rw [heq]; exact ⟨rfl, rfl⟩
  · rw [heq]; exact s.hearLevel_ne l mode ssm essm (by omega)

/-- A reference as it stands once it has received a level on a lane. -/
def State.HoldsLevel (s : State) (r l mode ssm : Nat) (essm : Option Nat) (t : State) : Prop :=
  s.HasHeard t ∧ (t.ref r).ssm = some ssm ∧ (t.ref r).essm = essm ∧ (t.ref r).lastPdu = some s.now ∧ (t.ref r).heardOn = some (l, mode) ∧
    t.obj (Obj.TM_REF_QL r) = if s.obj (Obj.TM_REF_STATE r) = 0 then 0 else ssmLevel (s.obj Obj.TM_QL_OPTION) ssm essm

theorem State.HasHeard.holdsLevel {l : Nat} (h : s.HasHeard t) (hlane : s.refLane r = some l) (hmode : s.obj (Obj.TM_REF_QL_MODE r) = mode)
    (hm : mode ≠ 0) : s.HoldsLevel r l mode ssm essm (t.hearLevel r l mode ssm essm) := by
  refine ⟨h.hearLevel r l mode ssm essm, ?_⟩
  rw [State.ref_hearLevel_same, State.level_hearLevel ((h.refLane r).trans hlane) ((h.obj _ (by simp)).trans hmode) hm, h.now,
    h.obj (Obj.TM_REF_STATE r) (by simp), h.obj Obj.TM_QL_OPTION (by simp)]
  exact ⟨rfl, rfl, rfl, rfl, rfl⟩

/-- Every reference that a lane of the client feeds in the mode takes the level. -/
theorem State.receiveLevel_fed {l : Nat} (hk : k < 8) (hlane : s.refLane (4 + k) = some l) (hf : s.clientAt l = f)
    (hmode : s.obj (Obj.TM_REF_QL_MODE (4 + k)) = mode) (hm : mode ≠ 0) :
    s.HoldsLevel (4 + k) l mode ssm essm (s.receiveLevel f mode ssm essm) := by
  have htake : ∀ t, s.HasHeard t → s.HoldsLevel (4 + k) l mode ssm essm (State.takeLevel f mode ssm essm t k) := fun t h => by
    rw [State.takeLevel_fed ((h.refLane _).trans hlane) ((h.clientAt l).trans hf) ((h.obj _ (by simp)).trans hmode)]
    exact h.holdsLevel hlane hmode hm
  rw [State.receiveLevel_eq]
  refine foldl_reaches (P := s.HasHeard) (fun t j _ h => h.takeLevel j) htake (fun t j h => ?_) (List.mem_range.mpr hk) (.refl s)
  by_cases hj : k = j
  · exact hj ▸ htake t h.1
  · unfold State.HoldsLevel
    rw [(t.takeLevel_ne hj).1, (t.takeLevel_ne hj).2]
    exact ⟨h.1.takeLevel j, h.2⟩

/-- Every other reference keeps what it has. -/
theorem State.receiveLevel_unfed (h : (∀ l, s.refLane (4 + k) = some l → s.clientAt l ≠ f) ∨ s.obj (Obj.TM_REF_QL_MODE (4 + k)) ≠ mode) :
    (s.receiveLevel f mode ssm essm).ref (4 + k) = s.ref (4 + k) ∧
      (s.receiveLevel f mode ssm essm).obj (Obj.TM_REF_QL (4 + k)) = s.obj (Obj.TM_REF_QL (4 + k)) := by
  rw [State.receiveLevel_eq]
  refine (List.foldlRecOn (motive := fun t : State => s.HasHeard t ∧ t.ref (4 + k) = s.ref (4 + k) ∧
    t.obj (Obj.TM_REF_QL (4 + k)) = s.obj (Obj.TM_REF_QL (4 + k))) _ _ ⟨.refl s, rfl, rfl⟩ fun t ht j _ => ?_).2
  obtain ⟨hheard, href, hlevel⟩ := ht
  refine ⟨hheard.takeLevel j, ?_⟩
  by_cases hj : k = j
  · subst hj
    rw [State.takeLevel_unfed (by rw [hheard.refLane, hheard.obj _ (by simp)]; simpa only [hheard.clientAt] using h)]
    exact ⟨href, hlevel⟩
  · exact ⟨(t.takeLevel_ne hj).1.trans href, (t.takeLevel_ne hj).2.trans hlevel⟩

theorem exec_esmcPduReceive {l : Fin 64} {ssm : Fin 16} (htype : isEthernet (s.clientType (s.clientAt l)) = true)
    (hform : s.oduForm (s.clientAt l) = false) : exec (.esmcPduReceive l ssm essm) s = .next (s.receiveLevel (s.clientAt l) 1 ssm essm) :=
  if_pos ⟨htype, by simp [hform]⟩

theorem exec_s1Receive {l : Fin 64} {ssm : Fin 16} (htype : isStm (s.clientType (s.clientAt l)) = true) :
    exec (.s1Receive l ssm) s = .next (s.receiveLevel (s.clientAt l) 2 ssm none) := if_pos htype

/-- A level that has been received ends 5 s after its last PDU. -/
theorem exec_esmcTimeout_due {r : Fin 20} (hmode : s.obj (Obj.TM_REF_QL_MODE r) = 1) (hssm : (s.ref r).ssm.isSome = true)
    (hlast : (s.ref r).lastPdu.getD 0 + 4000000 ≤ s.now) : exec (.esmcTimeout r) s =
    .next ((s.withRef r fun x => { x with ssm := none, essm := none, lastPdu := none }).refreshLevel r) := if_pos ⟨hmode, hssm, hlast⟩

theorem State.refLevel_unheard (hmode : s.obj (Obj.TM_REF_QL_MODE r) ≠ 0) (hssm : (s.ref r).ssm = none) : s.refLevel r = 0 := by
  unfold State.refLevel
  rw [if_neg hmode, hssm]
  split
  · rfl
  · split <;> rfl

end

/-! ## Levels sent (R350) -/

section
variable {s : State} {f : Nat} {x : EsmcSent}

/-- What an egress that inserts its level has sent, after a tick in which it had last sent `x`. -/
theorem State.esmc_sendLevel (hins : s.insertsLevel f = true) (hlast : Map.get none s.timing.esmc (Key.unit f) = some x) :
    let level := s.egressLevel f
    let codes := levelCodes (s.obj Obj.TM_QL_OPTION) level
    Map.get none (s.sendLevel f).timing.esmc (Key.unit f) = some (
      if x.level ≠ level then ⟨level, true, x.infoAt, codes.1, codes.2, s.now⟩
      else if x.infoAt + 800000 ≤ s.now then ⟨level, false, s.now, codes.1, codes.2, s.now⟩ else x) := by
  intro level codes
  unfold State.sendLevel
  extract_lets put send last
  rw [if_neg (not_not.mpr hins), show last = some x from hlast]
  have hput : ∀ y : EsmcSent, Map.get none (put (some y)).timing.esmc (Key.unit f) = some y := fun y =>
    Map.get_set_same none s.timing.esmc (Key.unit f) (some y)
  show Map.get none (if x.level ≠ level then send true x.infoAt else if x.infoAt + 800000 ≤ s.now then send false s.now else s).timing.esmc _ = _
  split
  · exact hput _
  · split
    · exact hput _
    · exact hlast

theorem exec_esmcInfoTx (l : Fin 64) : exec (.esmcInfoTx l) s = .next (s.sendLevel (s.clientAt l)) := rfl

theorem State.insertsLevel_esmc (htype : isEthernet (s.clientType f) = true) (hform : s.oduForm f = false) (htx : s.obj (Obj.TM_ESMC_TX f) = 1) :
    s.insertsLevel f = true := by
  unfold State.insertsLevel
  rw [htype, hform, decide_eq_true htx]
  rfl

end

/-- Settles O44: a failure by what it writes, its end by whether the offset checks pass, REF_CHECK by the check that fails, the edges of a PPS by the
window, and levels by the references that a client's lanes feed. -/
theorem referencesFailAndQualify : Obligations.ReferencesFailAndQualify := by
  unfold Obligations.ReferencesFailAndQualify
  intro s
  refine ⟨fun r missing => ⟨exec_refFail_absent, fun h hlive => ?_⟩, fun r run habsent hrun => ?_,
    fun r measured fresh since hst hoff hpeers hlock hsince hsoak => ?_, fun r measured since hst hxo habove hsince hsoak => ?_, fun r => ?_,
    fun p error => ⟨fun hout hrun => ?_, exec_ppsEdge_inside rfl⟩, fun l ssm essm mode c level h => ?_, fun r hmode hssm hlast => ?_,
    fun l x htype hform htx hlast => ?_⟩
  · obtain ⟨hstate, hlevel, hlost, _, hfrozen, hevent⟩ := State.failRef_spec hlive
    exact ⟨_, exec_refFail_present h, hstate, hlevel, hlost, hfrozen, hevent⟩
  · refine ⟨_, exec_refFailClear_absent habsent hrun, State.clearRef_live, fun h => ⟨fun hpass => ?_, fun hfail => ?_⟩⟩
    · rw [State.clearRef_recovers h hpass.1 hpass.2]
      exact State.startQualifying_followed
    · rw [State.clearRef_waits h hfail, State.ref_withRef_same]
      exact ⟨h, rfl⟩
  · let u := s.checkedRef r measured fresh
    have hstate : u.obj (Obj.TM_REF_STATE r) = s.obj (Obj.TM_REF_STATE r) := s.obj_checkedRef r measured fresh (by simp) (by simp)
    by_cases habove : s.obj Obj.TM_DRIFT_RATE * 10 < (s.checkedDrift r measured fresh).natAbs
    · obtain ⟨hstate, htick, hlost, hevent, hobj⟩ := u.disqualified_spec (r := r) 3 (s.checkedDrift r measured fresh)
      rw [s.tick_checkedRef r measured fresh] at htick hevent
      refine ⟨_, exec_refCheck_disqualifies hst (State.failedCheck_drift_above hoff hpeers habove hsince hsoak), fun hfresh => ?_,
        fun _ => ⟨hstate, htick, hlost.trans (s.now_checkedRef r measured fresh), hevent⟩, fun hwithin => absurd habove hwithin⟩
      subst hfresh
      rw [hobj _ (by simp) (by simp) (by simp), hobj _ (by simp) (by simp) (by simp)]
      exact s.obj_checkedRef_fresh r measured
    · have hpass : u.followChecks r = u := (State.followChecks_qualified (hstate ▸ hst)).trans
        (if_neg (Bool.eq_false_iff.mp ((s.lockedOut_checkedRef r measured fresh).trans hlock)))
      refine ⟨u, (exec_refCheck_passes hst (State.failedCheck_drift_within hoff hpeers habove)).trans (congrArg Host.Outcome.next hpass),
        fun hfresh => ?_, fun h => absurd h habove, fun _ => ⟨hstate, ?_, s.changes_checkedRef r measured fresh⟩⟩
      · subst hfresh
        exact s.obj_checkedRef_fresh r measured
      · exact State.driftSince_checkedRef.trans (by rw [decide_eq_false habove, holdSince_false])
  · obtain ⟨hstate, htick, _, hevent, _⟩ := (s.checkedRef r measured true).disqualified_spec (r := r) 1 measured
    rw [s.tick_checkedRef r measured true] at htick hevent
    exact ⟨_, exec_refCheck_disqualifies hst (State.failedCheck_xo hxo habove hsince hsoak), hstate, htick, hevent⟩
  · rw [exec_refQualify]
    exact ⟨fun hdue => ⟨_, if_pos hdue, State.obj_setRefState_state _ _ _⟩, fun hdue => if_neg hdue⟩
  · exact ⟨_, exec_ppsEdge_outside rfl hout hrun, State.failRef_fails _ _⟩
  · have hheard : mode ≠ 0 ∧ exec c s = .next (s.receiveLevel (s.clientAt l) mode ssm level) := by
      obtain ⟨hc, htype, hform⟩ | ⟨hc, htype⟩ := h
      · cases hc
        exact ⟨by simp, exec_esmcPduReceive htype hform⟩
      · cases hc
        exact ⟨by simp, exec_s1Receive htype⟩
    exact ⟨_, hheard.2, fun k => ⟨fun x hlane hf hmode => (State.receiveLevel_fed k.isLt hlane hf hmode hheard.1).2, State.receiveLevel_unfed⟩⟩
  · refine ⟨_, exec_esmcTimeout_due hmode hssm hlast, ?_, ?_⟩
    · rw [State.ref_refreshLevel, State.ref_withRef_same]
    · rw [State.obj_refreshLevel, if_pos rfl]
      exact State.refLevel_unheard (by simp [hmode]) (by simp)
  · exact ⟨_, exec_esmcInfoTx l, State.esmc_sendLevel (State.insertsLevel_esmc htype hform htx) hlast⟩

end Sys2Proof.Machine
end

section
/-! PROOFS. The DPLLs and the XO, the time of day, the writes of class 0x40, and the timestamps of event messages. -/

namespace Sys2Proof.Machine

/-! ## The state of a DPLL and the reference it selects (R354, R356, R358) -/

theorem State.sameButReports.dpll {s t : State} (h : s.sameButReports t) (i : Nat) : t.dpll i = s.dpll i :=
  congrArg (fun x : Timing => Map.get ({} : Dpll) x.dplls (Key.unit i)) h.timing

section
variable (s : State) (d : Nat)

theorem State.setDp_frame (new : Nat) : s.sameButReports (s.setDp d new) := by
  unfold State.setDp
  extract_lets old
  split <;> rfl

@[simp] theorem State.dpll_setDp (new i : Nat) : (s.setDp d new).dpll i = s.dpll i := (s.setDp_frame d new).dpll i

theorem State.obj_setDp (new : Nat) (k : Key) : (s.setDp d new).obj k = if k = Obj.TM_DP_STATE d then new else s.obj k := by
  unfold State.setDp
  extract_lets old
  by_cases h : old = new
  · rw [if_pos h]
    split
    case isTrue hk => rw [hk]; exact h
    case isFalse => rfl
  · rw [if_neg h]
    exact s.obj_setObj _ _ _

theorem State.changes_setDp (new : Nat) : s.changes ⊆ (s.setDp d new).changes := by
  unfold State.setDp
  extract_lets old
  split
  · exact List.Subset.refl _
  · exact List.subset_append_left _ _

theorem State.obj_selectRef (new : Nat) (error : Int) (k : Key) :
    (s.selectRef d new error).obj k = if k = Obj.TM_DP_SELECTED d then new else s.obj k := s.obj_setObj _ _ _

theorem State.dpll_rebase : (s.rebase d).dpll d =
    { s.dpll d with slew := s.phaseLeft d - s.adjustLeft d, adjust := s.adjustLeft d, slewStart := s.now } := s.dpll_withDpll_same d _

/-! ## A change of the selected reference (R356 to R361) -/

/-- A change to a reference: what it selects, the state, the phase to slew, and the event. -/
theorem State.switchTo_spec (r : Nat) (error : Int) (differs : Bool) : let t := s.switchTo d r error differs
    t.obj (Obj.TM_DP_SELECTED d) = r ∧
    t.obj (Obj.TM_DP_STATE d) = (if s.obj (Obj.TM_DP_STATE d) ∈ [0, 1, 5] ∨ differs = true then 1 else 2) ∧
    (t.dpll d).frozen = false ∧ (t.dpll d).slew = s.phaseError r error ∧
    ⟨Ev.DP_SWITCH.code, false, s.tick, contentOf Ev.DP_SWITCH.widths [d, s.obj (Obj.TM_DP_SELECTED d), r, encode 8 (s.phaseError r error)]⟩ ∈
      t.changes := by
  unfold State.switchTo
  extract_lets old e u v t
  have hold : (old = 0 ∨ old = 1 ∨ old = 5 ∨ differs = true) = (s.obj (Obj.TM_DP_STATE d) ∈ [0, 1, 5] ∨ differs = true) := by
    simp [old, or_assoc]
  have hv : v.dpll d = _ := State.dpll_withDpll_same _ _ _
  refine ⟨?_, ?_, ?_, ?_, ?_⟩
  · exact (State.obj_setDp _ _ _ _).trans ((if_neg (by simp)).trans (((s.rebase d).obj_selectRef d r e _).trans (if_pos rfl)))
  · refine ((State.obj_setDp _ _ _ _).trans (if_pos rfl)).trans ?_
    simp only [hold]
  · rw [State.dpll_setDp, hv]
  · rw [State.dpll_setDp, hv]
  · exact State.changes_setDp _ _ _ (List.mem_append_right _ List.mem_cons_self)

/-- The tick from which the guard of R361 counts back. -/
def State.lossTick : Nat :=
  if s.obj (Obj.TM_REF_STATE (s.obj (Obj.TM_DP_SELECTED d))) = 3 then s.now else (s.ref (s.obj (Obj.TM_DP_SELECTED d))).lostAt

/-- A DPLL that has let its reference go, before it has a holdover value. -/
def State.deselected : State :=
  ((s.rebase d).selectRef d 0xFFFF 0).withDpll d fun x => { x with frozen := false, lockedSince := none, slew := 0 }

end

section
variable {s : State} {d : Nat}

theorem State.obj_deselected (k : Key) : (s.deselected d).obj k = if k = Obj.TM_DP_SELECTED d then 0xFFFF else s.obj k :=
  (s.rebase d).obj_selectRef d 0xFFFF 0 k

theorem State.enterHoldover_history (h : s.holdSeconds d (s.lossTick d) ≠ []) : let hs := s.holdSeconds d (s.lossTick d)
    s.enterHoldover d = ((((s.deselected d).withDpll d fun x => { x with lastHoldover := some (meanOf hs) }).setObj (Obj.TM_HO_QUALITY d)
      (if hs.length = s.obj (Obj.TM_HO_WINDOW d) then 2 else 1)).setObj (Obj.TM_HO_VALUE d) (encode 8 (meanOf hs))).setDp d 4 := if_neg h

theorem State.enterHoldover_none (h : s.holdSeconds d (s.lossTick d) = []) (hlast : (s.dpll d).lastHoldover = none) :
    s.enterHoldover d = ((s.deselected d).setObj (Obj.TM_HO_QUALITY d) 0).setDp d 0 := by
  unfold State.enterHoldover
  extract_lets r lost hs t u
  rw [if_pos (show hs = [] from h), hlast]
  rfl

theorem State.enterHoldover_last {v : Int} (h : s.holdSeconds d (s.lossTick d) = []) (hlast : (s.dpll d).lastHoldover = some v) :
    s.enterHoldover d = (((s.deselected d).setObj (Obj.TM_HO_QUALITY d) 0).setObj (Obj.TM_HO_VALUE d) (encode 8 v)).setDp d 4 := by
  unfold State.enterHoldover
  extract_lets r lost hs t u
  rw [if_pos (show hs = [] from h), hlast]
  rfl

theorem State.enterHoldover_spec : let t := s.enterHoldover d
    let hs := s.holdSeconds d (s.lossTick d)
    t.obj (Obj.TM_DP_SELECTED d) = 0xFFFF ∧
    (hs ≠ [] → t.obj (Obj.TM_DP_STATE d) = 4 ∧ t.obj (Obj.TM_HO_VALUE d) = encode 8 (meanOf hs) ∧
      t.obj (Obj.TM_HO_QUALITY d) = if hs.length = s.obj (Obj.TM_HO_WINDOW d) then 2 else 1) ∧
    (hs = [] → (s.dpll d).lastHoldover = none → t.obj (Obj.TM_DP_STATE d) = 0 ∧ t.obj (Obj.TM_HO_QUALITY d) = 0) := by
  intro t hs
  by_cases h : hs = []
  · cases hlast : (s.dpll d).lastHoldover with
    | none =>
      have ht : t = _ := State.enterHoldover_none h hlast
      rw [ht]
      exact ⟨by simp [State.obj_setDp, State.obj_deselected], fun hne => absurd h hne, fun _ _ => by simp [State.obj_setDp]⟩
    | some v =>
      have ht : t = _ := State.enterHoldover_last h hlast
      rw [ht]
      exact ⟨by simp [State.obj_setDp, State.obj_deselected], fun hne => absurd h hne, fun _ hno => nomatch hno⟩
  · have ht : t = _ := State.enterHoldover_history h
    rw [ht]
    exact ⟨by simp [State.obj_setDp, State.obj_deselected], fun _ => by simp [State.obj_setDp, hs], fun he => absurd he h⟩

end

section
variable {s : State} {d : Fin 4} {error : Int} {differs : Bool}

/-- The change that is due is made in the tick that the coming boundary opens. -/
theorem exec_dpllSwitchCommit {change : Option (Option Nat)} (h : s.dpChange d = change) : exec (.dpllSwitchCommit d error differs) s =
    .next { s.opened.makeSwitch d change error differs with now := s.now, tick := s.tick } := by
  subst h
  rfl

/-! ## Lock (R354, R358, R360) -/

theorem exec_dpllFrequencyLock_due {ticks : Nat} (hst : s.obj (Obj.TM_DP_STATE d) = 1) (ht : 800000 ≤ ticks) :
    exec (.dpllFrequencyLock d ticks error) s = .next (((s.rebase d).withDpll d fun x =>
      { x with slew := s.phaseError (s.obj (Obj.TM_DP_SELECTED d)) error }).setDp d 2) := if_pos ⟨hst, ht⟩

theorem exec_slewDone_due (hst : s.obj (Obj.TM_DP_STATE d) = 2) (hleft : (s.phaseLeft d).natAbs < 10) :
    exec (.slewDone d) s = .next (s.lockDp d) := if_pos ⟨hst, hleft⟩

theorem State.lockDp_spec (s : State) (d : Nat) : (s.lockDp d).obj (Obj.TM_DP_STATE d) = 3 ∧ ((s.lockDp d).dpll d).lockedSince = some s.now ∧
    ((s.lockDp d).dpll d).history = if (s.dpll d).newReference then [] else (s.dpll d).history := by
  unfold State.lockDp
  rw [State.dpll_setDp, State.dpll_withDpll_same, State.dpll_rebase, State.obj_setDp, if_pos rfl]
  exact ⟨rfl, rfl, rfl⟩

/-! ## The XO (R363) -/

theorem exec_xoFail_failed {ppm : Option Nat} (hst : s.obj Obj.TM_XO_STATE = 0) (h : ∀ p, ppm = some p → 200 < p) : exec (.xoFail ppm) s =
    .next ((List.range 20).foldl (fun t r => t.withRef r fun x => { x with xoSince := none })
      ((s.setObj Obj.TM_XO_STATE 1).raise Ev.XO_FAIL [1])) := by
  refine if_pos ⟨hst, ?_⟩
  cases ppm with
  | none => rfl
  | some p => exact decide_eq_true (h p rfl)

theorem exec_xoReturn (ppm ticks : Nat) : exec (.xoReturn ppm ticks) s =
    .next (if s.obj Obj.TM_XO_STATE = 1 ∧ ppm ≤ 200 ∧ 8000000 ≤ ticks then (s.setObj Obj.TM_XO_STATE 0).raise Ev.XO_FAIL [0] else s) :=
  (apply_ite Host.Outcome.next _ _ _).symm

/-- No offset from the XO is checked any more. -/
theorem State.dropXoChecks_spec (s : State) : let t := (List.range 20).foldl (fun t r => t.withRef r fun x => { x with xoSince := none }) s
    (∀ k, t.obj k = s.obj k) ∧ t.changes = s.changes ∧ ∀ r : Fin 20, (t.ref r).xoSince = none := by
  intro t
  refine ⟨fun k => foldl_keeps (State.obj · k) (fun t r => t.obj_withRef r _ k) _ s,
    foldl_keeps State.changes (fun t r => t.changes_withRef r _) _ s, fun r => ?_⟩
  refine foldl_reaches (P := fun _ => True) (Q := fun t : State => (t.ref r).xoSince = none) (a := r.val) (fun _ _ _ _ => trivial) (fun t _ => ?_)
    (fun t i ht => ?_) (List.mem_range.mpr r.isLt) trivial
  · rw [State.ref_withRef_same]
  · rw [State.ref_withRef]
    split
    · rfl
    · exact ht

end

/-! ## Writes (R362, R366, R367) -/

section
variable (v : Val) (s : State)

theorem acceptTiming_todSet : acceptTiming Obj.TM_TOD_SET v s = (.ok, s.withTiming fun t => { t with toSet := some v.v }) := rfl

theorem acceptTiming_dpll {k : Key} (h : k.i < 4) : acceptTiming k v s = acceptDpll k v s :=
  (if_neg (show ¬ k.i = 0xFF by omega)).trans (if_pos h)

theorem acceptTiming_phaseAdj (d : Fin 4) : acceptTiming (Obj.TM_DP_PHASE_ADJ d) v s =
    (.ok, (s.rebase d).withDpll d fun x => { x with adjust := x.adjust + signed 8 v.v }) := acceptTiming_dpll v s d.isLt

theorem acceptTiming_hold (param : HoParam) : acceptTiming (holdKey param) v s = acceptHold (holdKey param) v s := by
  cases param with
  | window d => exact acceptTiming_dpll v s d.isLt
  | guardTime d => exact acceptTiming_dpll v s d.isLt
  | driftWindow => rfl
  | driftSoak => rfl

theorem holdFits_iff (window guardTime driftWin driftSoak : Nat) :
    holdFits window guardTime driftWin driftSoak = true ↔ driftWin + driftSoak < guardTime ∧ window + guardTime ≤ 1200 := by
  simp [holdFits]

/-- R362 for the values that a write of one parameter would leave. -/
theorem acceptHold_iff (k : Key) : let pick := fun k' => if k' = k then v.v else s.latest k'
    acceptHold k v s = if ∀ j : Fin 4, pick Obj.TM_DRIFT_WIN + pick Obj.TM_DRIFT_SOAK < pick (Obj.TM_HO_GUARD j) ∧
      pick (Obj.TM_HO_WINDOW j) + pick (Obj.TM_HO_GUARD j) ≤ 1200 then (.ok, s.stage k v.v) else (.range, s) := by
  intro pick
  refine if_congr ?_ rfl rfl
  simp only [List.all_eq_true, List.mem_range, holdFits_iff, Fin.forall_iff]
  exact Iff.rfl

theorem State.adjustLeft_served (rq : Rq) (x : Sender) (d : Nat) : (s.served rq x).adjustLeft d = s.adjustLeft d := by
  have hd : (s.served rq x).dpll d = s.dpll d := congrArg (fun t : Timing => Map.get ({} : Dpll) t.dplls (Key.unit d)) (s.timing_served rq x)
  simp [State.adjustLeft, State.phaseLeft, State.slewMoved, hd]

end

/-! ## The rollover of a second (R366) -/

section
variable {s : State}

/-- The pulses of a rollover are all that changes. -/
theorem State.ppsRollover_frame (s : State) : ∃ pps, s.ppsRollover = s.withTiming fun t => { t with pps := pps } := by
  refine List.foldlRecOn (motive := fun u : State => ∃ pps, u = s.withTiming fun t => { t with pps := pps }) _ _ ⟨_, rfl⟩ fun u hu p _ => ?_
  obtain ⟨pps, rfl⟩ := hu
  split
  · exact ⟨_, rfl⟩
  · exact ⟨_, rfl⟩

theorem State.rollSecond_spec (s : State) : let t := s.rollSecond
    t.timing.seconds = s.comingSecond ∧ t.timing.toSet = none ∧ t.timing.ended = s.timing.seconds ∧
    t.pm.suspect = (s.pm.suspect || s.timing.toSet.isSome) ∧ t = { s with timing := t.timing, pm := t.pm } := by
  obtain ⟨pps, h⟩ := (s.withTiming fun t => { t with seconds := s.comingSecond, toSet := none, ended := t.seconds }).ppsRollover_frame
  unfold State.rollSecond
  rw [h]
  exact ⟨rfl, rfl, rfl, rfl, rfl⟩

theorem State.secondDue_opened : s.opened.secondDue = true ↔ (s.now + 1) % 800000 = 0 ∧ s.timing.rolled = false := by
  unfold State.secondDue
  rw [Bool.and_eq_true, Bool.and_eq_true, decide_eq_true_eq, decide_eq_true_eq, Bool.not_eq_true']
  exact ⟨fun ⟨⟨_, hsecond⟩, hrolled⟩ => ⟨hsecond, hrolled⟩, fun ⟨hsecond, hrolled⟩ => ⟨⟨Nat.succ_pos _, hsecond⟩, hrolled⟩⟩

theorem exec_todSecondRollover_early (h : s.opened.secondDue = false) : exec .todSecondRollover s = .next s :=
  congrArg Host.Outcome.next (State.atBoundary_unchanged (if_neg (Bool.eq_false_iff.mp h)))

theorem exec_todSecondRollover_due (h : s.opened.secondDue = true) : exec .todSecondRollover s =
    .next { s.opened.rollSecond.withTiming fun x => { x with rolled := true } with now := s.now, tick := s.tick } :=
  congrArg Host.Outcome.next (State.atBoundary_of_opened (if_pos h))

end

/-! ## Timestamps (R368, R369) -/

section
variable {s : State} {v : Nat}

/-- The record of a timestamp in the ring, with the place of the next. -/
def State.writeStamp (s : State) (v : Nat) : State :=
  (s.setObj (Obj.TM_TS_RING (s.obj Obj.TM_TS_WR)) v).setObj Obj.TM_TS_WR ((s.obj Obj.TM_TS_WR + 1) % 4096)

theorem State.pushStamp_read (h : s.obj Obj.TM_TS_WR ∉ s.timing.unread) : s.pushStamp v =
    (s.writeStamp v).withTiming fun x => { x with unread := x.unread ++ [s.obj Obj.TM_TS_WR] } := by
  unfold State.pushStamp
  extract_lets w lost t u
  have hlost : lost = false := by simpa [lost] using h
  unfold u
  rw [hlost]
  rfl

theorem State.pushStamp_unread (h : s.obj Obj.TM_TS_WR ∈ s.timing.unread) (k : Key) :
    (s.pushStamp v).obj k = ((s.writeStamp v).bump Obj.TM_TS_OVF).obj k := by
  unfold State.pushStamp
  extract_lets w lost t u v
  rw [if_pos (show lost = true by simpa [lost] using h)]
  split <;> rfl

/-- A record in the ring, the next place, and the count of the entries overwritten unread. -/
theorem State.pushStamp_spec (s : State) (v : Nat) : let t := s.pushStamp v
    let w := s.obj Obj.TM_TS_WR
    t.obj (Obj.TM_TS_RING w) = v ∧ t.obj Obj.TM_TS_WR = (w + 1) % 4096 ∧
    (w ∉ s.timing.unread → t.timing.unread = s.timing.unread ++ [w] ∧ t.obj Obj.TM_TS_OVF = s.obj Obj.TM_TS_OVF) ∧
    (w ∈ s.timing.unread → t.obj Obj.TM_TS_OVF = u64 (s.obj Obj.TM_TS_OVF + 1)) := by
  intro t w
  by_cases h : w ∈ s.timing.unread
  · have ht : ∀ k, t.obj k = _ := State.pushStamp_unread h
    rw [ht, ht, ht]
    simp [State.writeStamp, w, h]
  · have ht : t = _ := State.pushStamp_read h
    rw [ht]
    simp [State.writeStamp, w, h]

/-- A one-step egress sends the correction of an event message with its residence added. -/
def State.sendCorrection (s : State) (cfg l : Nat) (p : PtpStamp) : State :=
  if cfg = 2 ∧ p.egress ∧ ¬ p.twoStep ∧ (p.message = 0 ∨ p.message = 3) then
    s.withTiming fun x => { x with
      correction := Map.set 0 x.correction (Key.unit l) (encode 8 (p.correction + p.residence))
      checksum := Map.set 0 x.checksum (Key.unit l) (newChecksum p (encode 8 p.correction) (encode 8 (p.correction + p.residence))) }
  else s

variable {cfg : Nat} {p : PtpStamp}

theorem State.sendCorrection_frame (s : State) (cfg l : Nat) (p : PtpStamp) : (∀ k, (s.sendCorrection cfg l p).obj k = s.obj k) ∧
    (s.sendCorrection cfg l p).timing.unread = s.timing.unread := by
  unfold State.sendCorrection
  split <;> exact ⟨fun _ => rfl, rfl⟩

theorem State.correction_sendCorrection (l : Nat) (hcfg : cfg = 2) (hout : p.egress = true) (hone : p.twoStep = false)
    (hm : p.message = 0 ∨ p.message = 3) :
    Map.get 0 (s.sendCorrection cfg l p).timing.correction (Key.unit l) = encode 8 (p.correction + p.residence) := by
  unfold State.sendCorrection
  rw [if_pos ⟨hcfg, hout, by simp [hone], hm⟩]
  exact Map.get_set_same _ _ _ _

variable {l : Fin 64}

theorem exec_ptpTimestamp_ignored
    (h : s.obj (Obj.TM_TS_CFG l) = 0 ∨ isEthernet (s.clientType l) = false ∨ s.oduForm l = true ∨ recognised p = false) :
    exec (.ptpTimestamp l p) s = .next s := if_pos (by simpa using h)

theorem exec_ptpTimestamp_taken (hcfg : s.obj (Obj.TM_TS_CFG l) ≠ 0) (htype : isEthernet (s.clientType l) = true) (hform : s.oduForm l = false)
    (hrec : recognised p = true) : exec (.ptpTimestamp l p) s =
    .next ((s.pushStamp (s.stampRecord l p)).sendCorrection (s.obj (Obj.TM_TS_CFG l)) l p) :=
  (if_neg (by simp [hcfg, htype, hform, hrec])).trans (apply_ite Host.Outcome.next _ _ _).symm

end

/-- Settles O45: a change by what is due, lock and the XO by their conditions, the writes by what they are accepted for, the rollover by whether it is
due, and a timestamp by whether its entry was read. -/
theorem dpllsAndTimeOfDay : Obligations.DpllsAndTimeOfDay := by
  unfold Obligations.DpllsAndTimeOfDay
  intro d s dp sel
  refine ⟨fun error differs => ⟨exec_dpllSwitchCommit, fun r hr => ?_, fun hnone => ?_⟩, fun ticks error hst hticks => ?_, fun hst hleft => ?_,
    fun ppm hst hppm => ?_, exec_xoReturn, fun rq x val v => ⟨fun h => ?_, fun h => ?_, fun param h => ?_⟩, ⟨fun hearly => ?_, fun hdue => ?_⟩,
    fun l p => ⟨exec_ptpTimestamp_ignored, fun hcfg htype hform hrec => ?_⟩⟩
  · exact ⟨_, exec_dpllSwitchCommit hr, s.opened.switchTo_spec d r error differs⟩
  · exact ⟨_, exec_dpllSwitchCommit hnone, State.enterHoldover_spec (s := s.opened)⟩
  · refine ⟨_, exec_dpllFrequencyLock_due hst hticks, (State.obj_setDp _ _ _ _).trans (if_pos rfl), ?_⟩
    rw [State.dpll_setDp, State.dpll_withDpll_same, State.dpll_rebase]
    exact ⟨rfl, rfl⟩
  · exact ⟨_, exec_slewDone_due hst hleft, s.lockDp_spec d⟩
  · obtain ⟨hobj, hchanges, hchecks⟩ := ((s.setObj Obj.TM_XO_STATE 1).raise Ev.XO_FAIL [1]).dropXoChecks_spec
    exact ⟨_, exec_xoFail_failed hst hppm, (hobj _).trans (s.obj_setObj_same Obj.TM_XO_STATE 1), hchecks, hchanges⟩
  · exact congrArg Host.Outcome.next (serveWrite_accepted h acceptTiming (acceptTiming_todSet v _))
  · refine ⟨_, congrArg Host.Outcome.next (serveWrite_accepted h acceptTiming (acceptTiming_phaseAdj v _ d)), ?_, ?_, rfl⟩
    · rw [State.dpll_withDpll_same, State.dpll_rebase, State.adjustLeft_served]
    · rw [State.dpll_withDpll_same, State.dpll_rebase, State.now_served]
  · have hwrite := (acceptTiming_hold v (s.served rq x) param).trans (acceptHold_iff v _ _)
    exact ⟨fun hfits => congrArg Host.Outcome.next (serveWrite_accepted h acceptTiming (hwrite.trans (if_pos hfits))),
      fun hunfit => congrArg Host.Outcome.next (serveWrite_refused h acceptTiming (hwrite.trans (if_neg hunfit)))⟩
  · exact exec_todSecondRollover_early (Bool.eq_false_iff.mpr fun h => hearly (State.secondDue_opened.mp h))
  · obtain ⟨hseconds, hset, hended, hsuspect, hframe⟩ := s.opened.rollSecond_spec
    refine ⟨_, exec_todSecondRollover_due (State.secondDue_opened.mpr hdue), hseconds, hset, hended, rfl, hsuspect, ?_⟩
    rw [hframe]
    rfl
  · obtain ⟨hring, hnext, hread, hunread⟩ := s.pushStamp_spec (s.stampRecord l p)
    obtain ⟨hobj, hkept⟩ := (s.pushStamp (s.stampRecord l p)).sendCorrection_frame (s.obj (Obj.TM_TS_CFG l)) l p
    refine ⟨_, exec_ptpTimestamp_taken hcfg htype hform hrec, ?_⟩
    rw [hobj, hobj, hobj, hkept]
    exact ⟨hring, hnext, hread, hunread, State.correction_sendCorrection l⟩

end Sys2Proof.Machine
end

section
/-! PROOFS. The step, and how a request is turned away: the checks of R421 up to the value of a write. -/

namespace Sys2Proof.Machine

/-! ## The step -/

/-- Settles O1: both halves are `step` read off. -/
theorem stepRunsTheFrontCommand : Obligations.StepRunsTheFrontCommand := by
  refine ⟨fun c rest s => rfl, fun s h => ?_⟩
  unfold step
  rw [h]

/-- Settles O5: `exec_keeps` says that every command completes and leaves what waits behind it. -/
theorem stepsOnlyConsumeTheQueue : Obligations.StepsOnlyConsumeTheQueue := by
  intro s
  unfold step
  split
  next h => exact ⟨s, rfl, by rw [h, List.tail_nil]⟩
  next c rest h =>
    obtain ⟨t, ht, hk⟩ := exec_keeps c { s with pending := rest }
    exact ⟨t, ht, by rw [hk.pending, h, List.tail_cons]⟩

/-! ## What serving a request comes to before its body -/

section
variable {op m : Nat} {rq : Rq} {body : Sender → State → Reply} {s : State}

theorem serve_dead (h : s.alive = false) : serve op m rq body s = s := if_pos (by simp [h])

theorem serve_mailboxHeld (ha : s.alive = true) (hm : rq.slot = none ∧ s.bar.own = true) :
    serve op m rq body s = s.withBar fun b => { b with ovr := true } :=
  (if_neg (by simp [ha])).trans (if_pos hm)

variable (ha : s.alive = true) (hm : ¬ (rq.slot = none ∧ s.bar.own = true))
include ha hm

theorem serve_notReady (hr : s.ready = false) : serve op m rq body s = s.deliver rq op .busy [] :=
  (if_neg (by simp [ha])).trans ((if_neg hm).trans (if_neg (by simp [hr])))

/-- A request that the agent looks at meets the checks of the version, the sender and the role for the opcode. -/
theorem serve_ready (hr : s.ready = true) : serve op m rq body s =
    if rq.ver ≠ 1 then (s.bump Obj.QM_REQ_COUNT).deliver rq op .range []
    else match s.sender rq op with
      | none => ((s.bump Obj.QM_REQ_COUNT).authFail rq).deliver (if rq.slot.isSome then { rq with session := 0 } else rq) op .denied []
      | some x =>
        if x.role < m then (s.served rq x).deliver rq op .denied []
        else if ¬ (objectOp op ∨ rq.lenOk) then (s.served rq x).deliver rq op .type []
        else
          let r := body x (s.served rq x)
          if r.later then (if rq.slot = none then r.state.withBar fun b => { b with own := true, ready := false } else r.state)
          else r.state.deliver rq op r.status r.payload := by
  rw [← s.sender_bump rq op 1]
  exact (if_neg (by simp [ha])).trans ((if_neg hm).trans (if_pos hr))

theorem serve_wrongVersion (hr : s.ready = true) (hv : rq.ver ≠ 1) :
    serve op m rq body s = (s.bump Obj.QM_REQ_COUNT).deliver rq op .range [] := by
  rw [serve_ready ha hm hr, if_pos hv]

theorem serve_noSender (hr : s.ready = true) (hv : rq.ver = 1) (hx : s.sender rq op = none) : serve op m rq body s =
    ((s.bump Obj.QM_REQ_COUNT).authFail rq).deliver (if rq.slot.isSome then { rq with session := 0 } else rq) op .denied [] := by
  rw [serve_ready ha hm hr, if_neg (not_not.mpr hv), hx]

theorem serve_lowRole {x : Sender} (hr : s.ready = true) (hv : rq.ver = 1) (hx : s.sender rq op = some x) (hl : x.role < m) :
    serve op m rq body s = (s.served rq x).deliver rq op .denied [] := by
  rw [serve_ready ha hm hr, if_neg (not_not.mpr hv), hx]
  exact if_pos hl

end

/-! ## Every write of one object goes through checks 4 to 7 -/

/-- The body of a write: checks 4 to 7 of R421, then what the object's chapter makes of the value. -/
def checkedWrite (k : Key) (val : Val) (accepted : Sender → State → ObjRow × Val → Reply) (x : Sender) (t : State) : Reply :=
  match checkWrite x.role .write k val with
  | .error st => { status := st, state := t }
  | .ok y => accepted x t y

/-- The outcome is that of serving a write of object `k` with value `val`. -/
def ServesWrite (rq : Rq) (k : Key) (val : Val) (s : State) (o : Out) : Prop :=
  ∃ accepted, o = .next (serve Op.write 1 rq (checkedWrite k val accepted) s)

/-- A body that turns an unfit write away, and makes of a fit one what `accepted` says, is a checked write. -/
theorem servesWrite_of_body {rq : Rq} {k : Key} {val : Val} {s : State} {body : Sender → State → Reply}
    (accepted : Sender → State → ObjRow × Val → Reply)
    (h : ∀ x t, body x t = checkedWrite k val accepted x t) : ServesWrite rq k val s (.next (serve Op.write 1 rq body s)) :=
  ⟨accepted, by rw [funext fun x => funext (h x)]⟩

theorem servesWrite_serveWrite (accept : Accept) (rq : Rq) (k : Key) (val : Val) (s : State) :
    ServesWrite rq k val s (.next (serveWrite accept rq k val s)) :=
  servesWrite_of_body (fun _ t y => { status := (accept k y.2 t).1, state := (accept k y.2 t).2 }) fun x t => by
    unfold checkedWrite
    cases checkWrite x.role .write k val <;> rfl

theorem servesWrite_serveDomReq (rq : Rq) (d : Nat) (val : Val) (s : State) :
    ServesWrite rq (Obj.PWR_DOM_REQ d) val s (.next (serveDomReq rq d val s)) :=
  servesWrite_of_body (fun _ t y =>
    if y.2.v = 0 then
      { status := .ok, state := let u := t.replaceSleep d
        if u.domState d = 0 then u else u.plan (u.now + 1) (.domWake d false) }
    else match sleepTarget d (t.obj (Obj.PWR_DOM_TOL d)) with
      | none => { status := .range, state := t }
      | some target =>
        if t.domState d ≠ 0 then { status := .precond, state := t }
        else
          let u := ((t.replaceSleep d).setObj (Obj.PWR_DOM_TARGET d) target).withDom d fun x => { x with request := some rq }
          { status := .ok, later := true, state := u.plan (u.now + 1) (.domSleep d target) }) fun x t => by
    unfold checkedWrite
    cases checkWrite x.role .write (Obj.PWR_DOM_REQ d) val <;> rfl

theorem servesWrite_serveQuiescent (rq : Rq) (val : Val) (wakeN : Bool) (s : State) :
    ServesWrite rq Obj.PWR_QUIESCENT val s (.next (serveQuiescent rq val wakeN s)) :=
  servesWrite_of_body (fun _ t _ =>
    if (rampOrder.any fun d => decide (t.domState d ≠ 3)) ∨ wakeN = false ∨ t.power.quiescent ≠ 0 then { status := .precond, state := t }
    else { status := .ok, later := true, state := t.withPower fun p => { p with quiescent := 1, quiescentBy := some rq } }) fun x t => by
    unfold checkedWrite
    cases checkWrite x.role .write Obj.PWR_QUIESCENT val <;> rfl

theorem servesWrite_serveArm (rq : Rq) (val : Val) (s : State) : ServesWrite rq Obj.FI_ARM val s (.next (serveArm rq val s)) :=
  servesWrite_of_body (fun _ t y => { status := (t.writeArm rq.session y.2.v).1, state := (t.writeArm rq.session y.2.v).2 }) fun x t => by
    unfold checkedWrite
    cases checkWrite x.role .write Obj.FI_ARM val <;> rfl

/-- A WRITE of any object but the two that ask for a swap. -/
theorem servesWrite_serveAnyWrite {rq : Rq} {k : Key} {val : Val} {s : State} (h : ¬ (k = Obj.PRISM_SWAP_REQ ∨ k = Obj.PRISM_SWAP_AT)) :
    ServesWrite rq k val s (.next (serveAnyWrite rq k val s)) := by
  rw [not_or] at h
  unfold serveAnyWrite
  split
  next hd =>
    obtain ⟨hc, hm, -, hx⟩ := hd
    have hk : k = Obj.PWR_DOM_REQ k.i := by obtain ⟨c, i, m, x⟩ := k; cases hc; cases hm; cases hx; rfl
    rw (occs := .pos [1]) [hk]
    exact servesWrite_serveDomReq rq k.i val s
  split
  next hq => subst hq; exact servesWrite_serveQuiescent rq val true s
  split
  next ha => subst ha; exact servesWrite_serveArm rq val s
  rw [if_neg fun g => h.1 g.1, if_neg fun g => h.2 g.1]
  exact servesWrite_serveWrite acceptWrite rq k val s

/-- Every command that writes one object runs checks 4 to 7 on it. -/
theorem exec_servesWrite {c : Instr} {rq : Rq} {k : Key} {val : Val} {s : State} (h : writeOf c = some (rq, k, val)) :
    ServesWrite rq k val s (exec c s) := by
  cases c
  case write rq obj index val =>
    simp only [writeOf] at h
    split at h
    · cases h
    next hk => cases h; exact servesWrite_serveAnyWrite hk
  all_goals cases h
  case pwrDomSleep => exact servesWrite_serveDomReq _ _ _ _
  case pwrDomWake => exact servesWrite_serveDomReq _ _ _ _
  case pwrQuiescent => exact servesWrite_serveQuiescent _ _ _ _
  case fiArmPrepare => exact servesWrite_serveArm _ _ _
  case fiArmConfirm => exact servesWrite_serveArm _ _ _
  case fiDisarm => exact servesWrite_serveArm _ _ _
  all_goals exact servesWrite_serveWrite _ _ _ _ _


/-- The outcome of a request that goes on to no check but those of `serve`. -/
def ServesRequest (rq : Rq) (op m : Nat) (s : State) (o : Out) : Prop := ∃ body, o = .next (serve op m rq body s)

theorem ServesWrite.request {rq : Rq} {k : Key} {val : Val} {s : State} {o : Out} (h : ServesWrite rq k val s o) : ServesRequest rq Op.write 1 s o :=
  let ⟨_, e⟩ := h
  ⟨_, e⟩

/-- A SESSION CLOSE that closes no session is served as any other request. -/
theorem exec_sessionClose_unclosed {rq : Rq} {s : State} (h : s.closedBy rq = none) : ServesRequest rq Op.session 0 s (exec (.sessionClose rq) s) :=
  ⟨fun _ t => { status := .ok, state := t }, by
    change execSessionClose rq s = _
    unfold execSessionClose
    simp only [h]⟩

/-- Every request goes through `serve`; a SESSION CLOSE also closes a session where its checks are passed. -/
theorem exec_servesRequest {c : Instr} {rq : Rq} {op m : Nat} {s : State} (h : requestOf c = some (rq, op, m))
    (hclose : op = Op.session → m = 0 → s.closedBy rq = none) : ServesRequest rq op m s (exec c s) := by
  unfold requestOf at h
  split at h
  case h_14 =>
    obtain ⟨⟨rq, k, val⟩, hw, hr⟩ := Option.map_eq_some_iff.mp h
    cases hr
    exact (exec_servesWrite hw).request
  all_goals cases h
  case h_1 => exact ⟨_, congrArg Host.Outcome.next (serveRead.eq_1 _ _ _ _)⟩
  case h_2 => exact ⟨_, congrArg Host.Outcome.next (serveBulkRead.eq_1 _ _ _ _ _)⟩
  case h_3 => exact ⟨_, congrArg Host.Outcome.next (serveWriteShadow.eq_1 _ _ _ _ _ _ _)⟩
  case h_4 => exact ⟨_, congrArg Host.Outcome.next (serveTableWrite.eq_1 _ _ _ _ _ _ _)⟩
  case h_11 => exact exec_sessionClose_unclosed (hclose rfl rfl)
  all_goals exact ⟨_, rfl⟩

/-- A SESSION CLOSE that does not reach its payload closes no session. -/
theorem State.closedBy_none {s : State} {rq : Rq}
    (h : s.alive = true → ¬ (rq.slot = none ∧ s.bar.own = true) → s.ready = true → rq.ver = 1 → s.sender rq Op.session = none) :
    s.closedBy rq = none := by
  unfold State.closedBy
  split
  next g => obtain ⟨ha, hm, hr, hv, -⟩ := g; rw [h ha hm hr hv]; rfl
  · rfl

/-- Settles O6: every request goes through `serve`, which turns it away at the first check that fails. -/
theorem requestsTurnedAway : Obligations.RequestsTurnedAway := by
  intro c rq op m s h
  have run {r : State} (hclose : op = Op.session → m = 0 → s.closedBy rq = none) (hs : ∀ body, serve op m rq body s = r) :
      exec c s = .next r := by
    obtain ⟨body, e⟩ := exec_servesRequest h hclose
    rw [e, hs body]
  refine ⟨fun ha => run (fun _ _ => State.closedBy_none fun a => ?_) fun _ => serve_dead ha,
    fun ha hs ho => run (fun _ _ => State.closedBy_none fun _ b => absurd ⟨hs, ho⟩ b) fun _ => serve_mailboxHeld ha ⟨hs, ho⟩,
    fun ha hm => ⟨fun hr => run (fun _ _ => State.closedBy_none fun _ _ r => ?_) fun _ => serve_notReady ha hm hr,
      fun hr hv => run (fun _ _ => State.closedBy_none fun _ _ _ v => absurd v hv) fun _ => serve_wrongVersion ha hm hr hv,
      fun hr hv hx => run (fun e _ => State.closedBy_none fun _ _ _ _ => e ▸ hx) fun _ => serve_noSender ha hm hr hv hx,
      fun hr hv x hx hl => run (fun _ e => ?_) fun _ => serve_lowRole ha hm hr hv hx hl⟩⟩
  · simp [ha] at a
  · simp [hr] at r
  · exact absurd (e ▸ hl) (Nat.not_lt_zero _)

/-- A write that checks 4 to 7 turn away answers their status, and nothing is written. -/
theorem exec_write_unfit {c : Instr} {rq : Rq} {k : Key} {val : Val} {x : Sender} {s : State} {st : Status} (hw : writeOf c = some (rq, k, val))
    (hs : Served Op.write 1 rq x s) (hc : checkWrite x.role .write k val = .error st) :
    exec c s = .next ((s.served rq x).deliver rq Op.write st []) := by
  obtain ⟨accepted, e⟩ := exec_servesWrite (s := s) hw
  rw [e, serve_served hs]
  unfold checkedWrite
  simp only [hc]
  rfl

/-- Settles O7: `checkWrite` makes the four checks in their order. -/
theorem writesAreCheckedInOrder : Obligations.WritesAreCheckedInOrder := by
  intro c rq k val x s hw hs refuse
  refine ⟨fun hn => exec_write_unfit hw hs ?_, fun r hr => ⟨fun ht => exec_write_unfit hw hs ?_, fun hu hl =>
    ⟨fun hd => exec_write_unfit hw hs ?_, fun hd hv => exec_write_unfit hw hs ?_⟩⟩⟩
  · simp only [checkWrite, hn]
  · simp only [checkWrite, hr]
    exact if_pos (by rcases ht with h | h <;> simp [h])
  · simp [checkWrite, hr, hu, hl, hd]
  · simp only [checkWrite, hr]
    rw [if_neg (by simp [hu, hl]), if_neg (by simp [hd]), if_pos (by rcases hv with h | h <;> simp [h])]

end Sys2Proof.Machine
end

section
/-! PROOFS. What a request that is served answers: reads, the mailbox, subscriptions and sessions. -/

namespace Sys2Proof.Machine

/-! ## What a request that is served comes to -/

section
variable {op m : Nat} {rq : Rq} {x : Sender} {s t : State} {st : Status} {payload : List Fld} {body : Sender → State → Reply}

/-- A reply that is given at once is delivered. -/
theorem serve_replies (h : Served op m rq x s) (g : body x (s.served rq x) = { status := st, payload := payload, state := t }) :
    serve op m rq body s = t.deliver rq op st payload := by
  rw [serve_served h, g]
  rfl

/-- A reply that is owed keeps the mailbox of a request that came there. -/
theorem serve_owes (h : Served op m rq x s) (g : body x (s.served rq x) = { status := st, later := true, state := t }) :
    serve op m rq body s = if rq.slot = none then t.withBar fun b => { b with own := true, ready := false } else t := by
  rw [serve_served h, g]
  rfl

end

/-! ## Where a response goes (R418, R422, R428, R442) -/

/-- A frame sent under a session is counted there, and changes nothing else. -/
theorem State.frameSent_frame (s : State) (rq : Rq) : s.frameSent rq = { s with sessions := (s.frameSent rq).sessions } := by
  unfold State.frameSent
  split <;> rfl

/-- The response itself. -/
def State.response (s : State) (rq : Rq) (op : Nat) (st : Status) (payload : List Fld) : Response :=
  ⟨op, st.code, rq.txid, rq.session, s.tick, payload, s.trailer rq op st payload⟩

/-- The state that has counted a response and its frame, before it lies anywhere. -/
def State.responded (s : State) (rq : Rq) (st : Status) : State := (s.frameSent rq).bump (Obj.QM_STATUS_COUNT st.code)

theorem State.deliver_mailbox (s : State) {rq : Rq} (h : rq.slot = none) (op : Nat) (st : Status) (payload : List Fld) :
    s.deliver rq op st payload = ((s.responded rq st).withBar fun b => { b with
      response := some (s.response rq op st payload), own := false, ready := true, more := decide (65536 < 16 + payloadLength payload)
      rspLen := min (16 + payloadLength payload) 65536, chunkLeft := 16 + payloadLength payload - 65536 }).irq 0 := by
  unfold State.deliver
  simp only [h]
  rfl

theorem State.deliver_slot (s : State) {rq : Rq} {k : Fin 8} (h : rq.slot = some k) (op : Nat) (st : Status) (payload : List Fld) :
    s.deliver rq op st payload =
      { s.responded rq st with owed := Map.set none s.owed (Key.unit k) (some (s.response rq op st payload)) } := by
  have ho : (s.responded rq st).owed = s.owed := by
    unfold State.responded
    rw [s.frameSent_frame rq]
    rfl
  unfold State.deliver
  simp only [h]
  rw [← ho]
  rfl

/-- What a response changes in all: one count, BAR0, the slots' responses and its session. -/
theorem State.deliver_frame (s : State) (rq : Rq) (op : Nat) (st : Status) (payload : List Fld) :
    let t := s.deliver rq op st payload
    t = { s with reg := t.reg, bar := t.bar, owed := t.owed, sessions := t.sessions } ∧ t.reg = (s.bump (Obj.QM_STATUS_COUNT st.code)).reg := by
  cases h : rq.slot with
  | none =>
    rw [s.deliver_mailbox h]
    unfold State.responded
    rw [s.frameSent_frame rq]
    exact ⟨rfl, rfl⟩
  | some k =>
    rw [s.deliver_slot h]
    unfold State.responded
    rw [s.frameSent_frame rq]
    exact ⟨rfl, rfl⟩

theorem State.obj_deliver (s : State) (rq : Rq) (op : Nat) (st : Status) (payload : List Fld) (k : Key) :
    (s.deliver rq op st payload).obj k = (s.bump (Obj.QM_STATUS_COUNT st.code)).obj k :=
  State.obj_eq (s.deliver_frame rq op st payload).2 k

/-- Settles O8: by whether the request came from the mailbox or in a ring slot. -/
theorem responsesReachTheirSender : Obligations.ResponsesReachTheirSender := by
  intro s rq op st payload t
  refine ⟨fun h => ?_, fun k h => ?_, ?_, fun k hk => ?_, (s.deliver_frame rq op st payload).1⟩
  · have ht : t = _ := s.deliver_mailbox h op st payload
    rw [ht]
    refine ⟨⟨_, rfl, rfl, rfl, rfl, rfl, rfl, rfl, ?_⟩, rfl, rfl, rfl, ?_⟩
    · simp only [State.response, State.trailer, h]
    · exact (bit_withBit _ _ _ _).trans (if_pos rfl)
  · have ht : t = _ := s.deliver_slot h op st payload
    rw [ht]
    refine ⟨?_, s.response rq op st payload, Map.get_set_same none s.owed (Key.unit k) (some (s.response rq op st payload)), rfl, rfl, rfl, rfl⟩
    change (s.frameSent rq).bar = s.bar
    rw [s.frameSent_frame rq]
  · exact (s.obj_deliver rq op st payload _).trans (s.obj_bump_same _ _)
  · exact (s.obj_deliver rq op st payload k).trans (s.obj_bump_ne _ hk)

/-! ## Reads (R415, R419, R424, R425) -/

/-- Settles O9: each of the four by its body, once its checks are passed. -/
theorem readsAnswerTheValue : Obligations.ReadsAnswerTheValue := by
  intro rq obj index count x s
  dsimp only
  refine ⟨fun r h hc hf hk => congrArg Host.Outcome.next ?_, fun r h hc hf hk hn => congrArg Host.Outcome.next ?_, fun h hs => ?_,
    fun r copy level h hl ho hr ht hcopy hws hlevel h1 h64 hn => congrArg Host.Outcome.next (serve_replies h ?_)⟩
  · rw [serveRead.eq_1]
    refine serve_replies h ?_
    simp only [hc, hf, if_neg hk]
  · rw [serveBulkRead.eq_1]
    refine serve_replies h ?_
    simp only [hc, hf, if_neg hk, if_neg (Nat.not_lt.mpr hn)]
  · refine congrArg Host.Outcome.next ((serve_owes h rfl).trans ((if_pos hs).trans ?_))
    rw [s.resyncs_served rq x]
  · have type : ¬ (rq.lenOk = false ∨ hasTree r = false ∨ (copy = 1 ∧ r.acc ≠ .ws)) := by
      simp only [hl, ht, not_or, not_and, not_not]
      exact ⟨nofun, nofun, hws⟩
    have range : ¬ (1 < copy ∨ rootLevel r.n < level ∨ count < 1 ∨ 64 < count ∨ levelSize r.n level < index + count) := by omega
    simp only [if_neg ho, hr, if_neg type, if_neg range]

/-! ## The mailbox's doorbells and the event queue (R427, R428, R435) -/

/-- Settles O13: by who holds the mailbox, and by the bit written to EVQ_CTL. -/
theorem mailboxDoorbells : Obligations.MailboxDoorbells := by
  intro s
  refine ⟨fun h => ⟨if_pos h, if_pos h⟩, fun ho hm => ⟨_, (if_neg (by simp [ho])).trans (if_pos hm), rfl, rfl, rfl, rfl, ?_, rfl, rfl⟩,
    fun h => if_neg (by simp [h]), fun v base size hv => if_pos hv, fun v base size hv => ⟨_, if_neg (by omega), rfl, rfl, rfl, rfl, rfl, rfl, rfl, rfl⟩⟩
  exact (bit_withBit _ _ _ _).trans (if_pos rfl)

/-! ## Subscription lists (R435) -/

theorem State.length_subs (s : State) (k : Nat) : (s.subs k).length = 64 := by simp [State.subs]

/-- A write of one slot of a list. -/
theorem State.subs_setObj (s : State) (k : Nat) {x : Nat} (c : Nat) : (s.setObj (Obj.EV_SUBS (64 * k + x)) c).subs k = (s.subs k).set x c := by
  refine List.ext_getElem (by simp [State.length_subs]) fun y hy _ => ?_
  simp only [State.subs, List.getElem_map, List.getElem_range, List.getElem_set, State.obj_setObj, Key.mk.injEq, true_and]
  by_cases h : x = y
  · rw [if_pos h, if_pos (by omega)]
  · rw [if_neg h, if_neg (by omega)]

/-- The first free slot of a list. -/
def State.freeSlot (s : State) (k : Nat) : Option Nat := (List.range 64).find? fun x => decide (s.obj (Obj.EV_SUBS (64 * k + x)) = 0)

theorem State.freeSlot_spec {s : State} {k x : Nat} (h : s.freeSlot k = some x) : ∃ hx : x < (s.subs k).length, (s.subs k)[x] = 0 := by
  have hx : x < 64 := List.mem_range.mp (List.mem_of_find?_eq_some h)
  refine ⟨by rwa [s.length_subs], ?_⟩
  simpa [State.subs] using List.find?_some h

/-- A list that is not full has a free slot. -/
theorem State.freeSlot_of_room {s : State} {k : Nat} (h : (s.subs k).countP (fun c => decide (c ≠ 0)) < 64) : ∃ x, s.freeSlot k = some x := by
  by_contra hn
  have hall : ∀ c ∈ s.subs k, decide (c ≠ 0) = true := by
    have hnone : s.freeSlot k = none := Option.eq_none_iff_forall_ne_some.mpr fun x hx => hn ⟨x, hx⟩
    simpa [State.freeSlot, State.subs, List.find?_eq_none] using hnone
  rw [List.countP_eq_length.mpr hall, s.length_subs] at h
  exact absurd h (by decide)

/-- A new code takes the first free slot; with none it is left out. -/
def State.addCode (k : Nat) (s : State) (c : Nat) : State :=
  match s.freeSlot k with
  | some x => s.setObj (Obj.EV_SUBS (64 * k + x)) c
  | none => s

/-- Where there is room a code enters the list, and no code leaves it. -/
theorem State.subs_addCode {s : State} {k c : Nat} (hc : c ≠ 0) (h : (s.subs k).countP (fun c => decide (c ≠ 0)) < 64) :
    c ∈ (s.addCode k c).subs k ∧ (∀ d ∈ s.subs k, d ≠ 0 → d ∈ (s.addCode k c).subs k) ∧
    ((s.addCode k c).subs k).countP (fun c => decide (c ≠ 0)) = (s.subs k).countP (fun c => decide (c ≠ 0)) + 1 := by
  obtain ⟨x, hx⟩ := State.freeSlot_of_room h
  obtain ⟨hlt, hfree⟩ := State.freeSlot_spec hx
  unfold State.addCode
  simp only [hx, State.subs_setObj]
  refine ⟨List.mem_set hlt c, fun d hd hd0 => ?_, ?_⟩
  · obtain ⟨y, hy, rfl⟩ := List.getElem_of_mem hd
    have hxy : x ≠ y := fun e => hd0 (by subst e; exact hfree)
    exact List.mem_of_getElem ((List.getElem_set_ne hxy (by simpa using hy)).trans rfl)
  · rw [List.countP_set hlt]
    simp [hfree, hc]

/-- Codes that find room all enter the list. -/
theorem State.subs_foldl_addCode {k : Nat} (l : List Nat) (hl : ∀ c ∈ l, c ≠ 0) (s : State)
    (h : (s.subs k).countP (fun c => decide (c ≠ 0)) + l.length ≤ 64) :
    (∀ c ∈ l, c ∈ (l.foldl (State.addCode k) s).subs k) ∧ ∀ d ∈ s.subs k, d ≠ 0 → d ∈ (l.foldl (State.addCode k) s).subs k := by
  induction l generalizing s with
  | nil => exact ⟨nofun, fun d hd _ => hd⟩
  | cons c l ih =>
    rw [List.length_cons] at h
    have hc := hl c List.mem_cons_self
    obtain ⟨hnew, hold, hcount⟩ := State.subs_addCode (s := s) (k := k) hc (by omega)
    obtain ⟨hall, hkept⟩ := ih (fun d hd => hl d (List.mem_cons_of_mem c hd)) (s.addCode k c) (by omega)
    refine ⟨fun d hd => ?_, fun d hd h0 => hkept d (hold d hd h0) h0⟩
    rcases List.mem_cons.mp hd with rfl | hd
    · exact hkept d hnew hc
    · exact hall d hd

/-- The codes of an ADD that the list does not hold yet. -/
def State.newCodes (s : State) (k : Nat) (codes : List Nat) : List Nat := (codes.filter fun c => !(s.subs k).contains c).dedup

theorem State.subscribe_full {s : State} {k : Nat} {codes : List Nat}
    (h : 64 < (s.subs k).countP (fun c => decide (c ≠ 0)) + (s.newCodes k codes).length) : s.subscribe k codes = (.range, s) := if_pos h

theorem State.subscribe_room {s : State} {k : Nat} {codes : List Nat}
    (h : (s.subs k).countP (fun c => decide (c ≠ 0)) + (s.newCodes k codes).length ≤ 64) :
    s.subscribe k codes = (.ok, (s.newCodes k codes).foldl (State.addCode k) s) := if_neg (Nat.not_lt.mpr h)

/-- A REMOVE frees a slot that holds one of its codes. -/
def State.dropCodes (k : Nat) (codes : List Nat) (t : State) (x : Nat) : State :=
  if codes.contains (t.obj (Obj.EV_SUBS (64 * k + x))) then t.setObj (Obj.EV_SUBS (64 * k + x)) 0 else t

theorem State.unsubscribe_eq (s : State) (k : Nat) (codes : List Nat) : s.unsubscribe k codes = (List.range 64).foldl (State.dropCodes k codes) s := rfl

theorem State.obj_dropCodes (k : Nat) (codes : List Nat) (t : State) (x y : Nat) : (t.dropCodes k codes x).obj (Obj.EV_SUBS (64 * k + y)) =
    if y = x ∧ codes.contains (t.obj (Obj.EV_SUBS (64 * k + y))) then 0 else t.obj (Obj.EV_SUBS (64 * k + y)) := by
  unfold State.dropCodes
  by_cases hc : codes.contains (t.obj (Obj.EV_SUBS (64 * k + x))) = true
  · rw [if_pos hc]
    by_cases hy : y = x
    · subst hy
      rw [State.obj_setObj_same, if_pos ⟨rfl, hc⟩]
    · rw [if_neg fun g => hy g.1]
      exact State.obj_setObj_ne _ 0 (by simp only [Ne, Key.mk.injEq, true_and]; omega)
  · rw [if_neg hc, if_neg (by rintro ⟨rfl, g⟩; exact hc g)]

/-- What a REMOVE leaves of each of the first `n` slots. -/
theorem State.obj_foldl_dropCodes (k : Nat) (codes : List Nat) (n : Nat) (s : State) (y : Nat) :
    ((List.range n).foldl (State.dropCodes k codes) s).obj (Obj.EV_SUBS (64 * k + y)) =
    if y < n ∧ codes.contains (s.obj (Obj.EV_SUBS (64 * k + y))) then 0 else s.obj (Obj.EV_SUBS (64 * k + y)) := by
  induction n with
  | zero => simp
  | succ n ih =>
    rw [List.range_succ, List.foldl_append, List.foldl_cons, List.foldl_nil, State.obj_dropCodes, ih]
    by_cases hy : y = n
    · subst hy
      simp
    · have hlt : y < n + 1 ↔ y < n := by omega
      simp only [hy, hlt, false_and, if_false]

theorem State.subs_unsubscribe (s : State) (k : Nat) (codes : List Nat) :
    (s.unsubscribe k codes).subs k = (s.subs k).map fun c => if codes.contains c then 0 else c := by
  unfold State.subs
  rw [List.map_map]
  refine List.map_congr_left fun y hy => ?_
  refine (State.obj_foldl_dropCodes k codes 64 s y).trans ?_
  simp [List.mem_range.mp hy]

/-- What a FETCH makes of a session: the records taken leave its buffer, and the gap that it owes goes with the first of them. -/
def fetched (y : Session) (count : Nat) : Session :=
  { y with buffer := y.buffer.drop count, gapOwed := y.gapOwed && decide (y.buffer.take count = []) }

/-- The records that a FETCH answers: the first carries the gap that the session owes. -/
def fetchedRecords (y : Session) (count : Nat) : List QueueRec :=
  match y.buffer.take count with
  | r :: rs => { r with gap := r.gap || y.gapOwed } :: rs
  | [] => []

theorem fetchedRecords_of_noGap {y : Session} (h : y.gapOwed = false) (count : Nat) : fetchedRecords y count = y.buffer.take count := by
  unfold fetchedRecords
  split
  next r rs e => rw [e, h, Bool.or_false]
  next e => exact e.symm

/-- Settles O11: ADD fills free slots, REMOVE frees those of its codes, and FETCH takes from the front of the buffer. -/
theorem subscriptionsAreKept : Obligations.SubscriptionsAreKept := by
  intro rq x codes count s h
  dsimp only
  have nonzero (h0 : codes.contains 0 = false) (c : Nat) (hc : c ∈ codes) : c ≠ 0 := fun e => by
    subst e
    rw [List.contains_iff_mem.mpr hc] at h0
    exact Bool.noConfusion h0
  refine ⟨fun h0 hfull => congrArg Host.Outcome.next (serve_replies h ?_), fun h0 hroom => ?_, fun h0 => ?_, fun k hk => ?_,
    fun hk => congrArg Host.Outcome.next (serve_replies h ?_)⟩
  · simp only [h0, Bool.false_eq_true, if_false, State.subscribe_full hfull]
  · have hpos : ∀ c ∈ (s.served rq x).newCodes (x.slot.getD 16) codes, c ≠ 0 := fun c hc =>
      nonzero h0 c (List.mem_filter.mp (List.mem_dedup.mp hc)).1
    obtain ⟨hnew, hold⟩ := State.subs_foldl_addCode _ hpos (s.served rq x) hroom
    refine ⟨_, congrArg Host.Outcome.next (serve_replies h ?_), fun c hc => ?_, hold⟩
    · simp only [h0, Bool.false_eq_true, if_false, State.subscribe_room hroom]
    · by_cases hin : c ∈ (s.served rq x).subs (x.slot.getD 16)
      · exact hold c hin (nonzero h0 c hc)
      · exact hnew c (List.mem_dedup.mpr (List.mem_filter.mpr ⟨hc, by simpa using hin⟩))
  · refine ⟨_, congrArg Host.Outcome.next (serve_replies h (if_neg (by rw [h0]; exact Bool.false_ne_true))), fun c hc hin => ?_, fun c hc hnot => ?_⟩
    · rw [State.subs_unsubscribe] at hin
      obtain ⟨d, -, hd⟩ := List.mem_map.mp hin
      split at hd
      · exact nonzero h0 c hc hd.symm
      next hnot => subst hd; exact hnot (List.contains_iff_mem.mpr hc)
    · rw [State.subs_unsubscribe]
      exact List.mem_map.mpr ⟨c, hc, if_neg fun g => hnot (List.contains_iff_mem.mp g)⟩
  · refine ⟨(s.served rq x).setSession k (fetched ((s.served rq x).session k) count), (fetchedRecords ((s.served rq x).session k) count).flatMap recordFields,
      congrArg Host.Outcome.next (serve_replies h ?_), ?_, fun hgap => ?_⟩
    · simp only [hk]
      rfl
    · rw [State.session_setSession_same]
      rfl
    · rw [fetchedRecords_of_noGap hgap]
  · simp only [hk]

/-! ## Sessions (R430 to R432, R451) -/

section
variable {s : State} {k : Nat} (cause : Nat)

/-- The list of a session that ends is emptied. -/
def State.dropList (s : State) (k : Nat) : State := (List.range 64).foldl (fun u x => u.setObj (Obj.EV_SUBS (64 * k + x)) 0) s

theorem State.dropList_frame (s : State) (k : Nat) : s.sameButObjects (s.dropList k) := State.foldl_setObj_frame _ 0 _ s

theorem State.obj_dropList_ne (s : State) (k : Nat) {q : Key} (h : q.c ≠ 0x61) : (s.dropList k).obj q = s.obj q :=
  (State.obj_foldl_setObj_map _ 0 _ s q).trans (if_neg fun hq => by
    obtain ⟨x, -, rfl⟩ := List.mem_map.mp hq
    exact h rfl)

theorem State.obj_dropList_slot (s : State) (k : Nat) {x : Nat} (h : x < 64) : (s.dropList k).obj (Obj.EV_SUBS (64 * k + x)) = 0 :=
  (State.obj_foldl_setObj_map _ 0 _ s _).trans (if_pos (List.mem_map_of_mem (f := fun x => Obj.EV_SUBS (64 * k + x)) (List.mem_range.mpr h)))

theorem State.closeSession_open (h : s.sessionOpen k = true) : s.closeSession k cause =
    ((((s.raise Ev.SESSION [(s.session k).id, s.sessionRole k, cause]).setObj (Obj.QM_SESSIONS k) 0).setSession k {}).dropList k) := if_pos h

/-- A session that ends leaves its slot empty and every other slot as it was. -/
theorem State.closeSession_spec (h : s.sessionOpen k = true) :
    let t := s.closeSession k cause
    t.sessionOpen k = false ∧ t.session k = {} ∧ (∀ j, j ≠ k → t.sessionOpen j = s.sessionOpen j ∧ t.session j = s.session j) ∧
    (∀ c, t.subscribes k c = false) ∧
    t.changes = s.changes ++ [⟨Ev.SESSION.code, false, s.tick, contentOf Ev.SESSION.widths [(s.session k).id, s.sessionRole k, cause]⟩] := by
  intro t
  have ht : t = _ := State.closeSession_open cause h
  have hsess (j : Nat) : t.session j = if j = k then {} else s.session j := by
    rw [ht]
    unfold State.session
    rw [State.dropList_frame]
    exact State.session_setSession _ k j {}
  have hobj (j : Nat) : t.obj (Obj.QM_SESSIONS j) = if j = k then 0 else s.obj (Obj.QM_SESSIONS j) := by
    rw [ht, State.obj_dropList_ne _ _ (by simp)]
    simp [State.obj_setObj]
  refine ⟨?_, (hsess k).trans (if_pos rfl), fun j hj => ⟨?_, (hsess j).trans (if_neg hj)⟩, fun c => ?_, ?_⟩
  · rw [State.sessionOpen, hobj, if_pos rfl, bit_zero]
  · rw [State.sessionOpen, hobj, if_neg hj, State.sessionOpen]
  · have hsubs : ∀ d ∈ t.subs k, d = 0 := fun d hd => by
      obtain ⟨x, hx, rfl⟩ := List.mem_map.mp hd
      rw [ht, State.obj_dropList_slot _ _ (List.mem_range.mp hx)]
    exact List.any_eq_false.mpr fun d hd => by simp [hsubs d hd]
  · rw [ht, State.dropList_frame]
    rfl

end

/-- The row of QM_SESSIONS of an open session shows its role and its transport. -/
theorem sessionRow_fields {role : Nat} (h : role ≤ 3) (vyusk : Bool) :
    bit (2 ^ 31 + role * 2 ^ 29 + vyusk.toNat * 2 ^ 28) 31 = true ∧ field (2 ^ 31 + role * 2 ^ 29 + vyusk.toNat * 2 ^ 28) 30 29 = role ∧
    bit (2 ^ 31 + role * 2 ^ 29 + vyusk.toNat * 2 ^ 28) 28 = vyusk := by
  have hv := Bool.toNat_le vyusk
  refine ⟨?_, ?_, ?_⟩
  · simp only [bit, decide_eq_true_eq]
    omega
  · unfold field
    omega
  · have hbit : (2 ^ 31 + role * 2 ^ 29 + vyusk.toNat * 2 ^ 28) / 2 ^ 28 % 2 = vyusk.toNat := by omega
    rw [bit, hbit]
    cases vyusk <;> rfl

/-- Who may open a session: the signature holds, and the key is one of the role or makes the first officer's claim (R431, R432). -/
def State.mayOpen (s : State) (rq : Rq) (r : OpenRequest) : Prop :=
  Config.mlDsaVerify r.publicKey (Config.shake256 32 (openFields r)) r.signature = true ∧
    (s.roleKeyFits (Config.shake256 32 [⟨1952, r.publicKey⟩]) r.role = true ∨
      (decide (rq.slot = none) && decide (r.role = 3) && s.noOfficer) = true)

/-- What a session shows once its row stands in its slot. -/
theorem State.openedSession_spec (b : State) (k row : Nat) (y : Session) (fields : List Nat) :
    let t := ((b.setObj (Obj.QM_SESSIONS k) row).setSession k y).raise Ev.SESSION fields
    t.sessionOpen k = bit row 31 ∧ t.sessionRole k = field row 30 29 ∧ t.sessionVyusk k = bit row 28 ∧ t.fresh = b.fresh := by
  have hobj : (((b.setObj (Obj.QM_SESSIONS k) row).setSession k y).raise Ev.SESSION fields).obj (Obj.QM_SESSIONS k) = row := b.obj_setObj_same _ row
  refine ⟨?_, ?_, ?_, rfl⟩
  · rw [State.sessionOpen, hobj]
  · rw [State.sessionRole, hobj]
  · rw [State.sessionVyusk, hobj]

section
variable {s : State} {rq : Rq} {r : OpenRequest} {k : Nat} (hlen : r.len = 6865) (hrole : r.role ≤ 3)
include hlen hrole

theorem State.openSession_denied (h : ¬ s.mayOpen rq r) : s.openSession rq r = { status := .denied, state := s } :=
  (if_neg (by simp [hlen])).trans ((if_neg (by omega)).trans (if_pos h))

theorem State.openSession_opens (h : s.mayOpen rq r) (hk : (List.range 16).find? (fun j => !s.sessionOpen j) = some k) :
    ∃ (t : State) (payload : List Fld), s.openSession rq r = { status := .ok, payload := payload, state := t } ∧
      t.sessionOpen k = true ∧ t.sessionRole k = r.role ∧ t.sessionVyusk k = rq.slot.isSome ∧ t.fresh = s.fresh + 4 := by
  unfold State.mayOpen at h
  simp only [State.openSession, hlen, ne_eq, not_true, if_false, if_neg (Nat.not_lt.mpr hrole), if_neg (not_not.mpr h), hk]
  refine ⟨_, _, rfl, ?_⟩
  obtain ⟨ho, hr, hv⟩ := sessionRow_fields hrole rq.slot.isSome
  obtain ⟨hopen, hrole, hvyusk, hf⟩ := State.openedSession_spec _ k _ _ _
  exact ⟨hopen.trans ho, hrole.trans hr, hvyusk.trans hv, hf.trans (by split <;> rfl)⟩

end

/-- Settles O12: OPEN by whether the credentials hold and a slot is free, CLOSE as a reply followed by the close, and the idle close by its condition. -/
theorem sessionsOpenAndClose : Obligations.SessionsOpenAndClose := by
  refine ⟨fun rq x r s k h hlen hrole => ?_, fun rq x s k h hl hslot hopen => ?_, fun s k hopen hdue => congrArg Host.Outcome.next (if_pos ⟨hopen, hdue⟩),
    fun s k cause hopen => ?_⟩
  · dsimp only
    intro hk
    by_cases hgood : (s.served rq x).mayOpen rq r
    · obtain ⟨t, payload, ht, hfields⟩ := State.openSession_opens hlen hrole hgood hk
      obtain ⟨ho, hr, hv, hf⟩ := hfields
      refine ⟨t, payload, congrArg Host.Outcome.next ((serve_replies h ht).trans ?_), fun _ => ⟨ho, hr, hv, ?_⟩, fun hbad => absurd hgood hbad⟩
      · exact congrArg (fun st => t.deliver rq Op.session st payload) (if_pos hgood).symm
      · rw [hf, State.fresh_served]
    · refine ⟨s.served rq x, [], congrArg Host.Outcome.next ((serve_replies h (State.openSession_denied hlen hrole hgood)).trans ?_),
        fun hg => absurd hg hgood, fun _ => ⟨rfl, rfl⟩⟩
      exact congrArg (fun st => (s.served rq x).deliver rq Op.session st []) (if_neg hgood).symm
  · have hclosed : s.closedBy rq = some k := by
      unfold State.closedBy
      rw [if_pos ⟨h.alive, h.mailbox, h.ready, h.version, hl⟩, h.sender]
      exact hslot
    change execSessionClose rq s = _
    unfold execSessionClose
    simp only [hclosed]
    rw [serve_replies h rfl]
  · obtain ⟨hclosed, hempty, hothers, hlist, hev⟩ := State.closeSession_spec cause hopen
    exact ⟨hclosed, hempty, fun j _ hj => hothers j hj, hlist, hev⟩

end Sys2Proof.Machine
end

section
/-! PROOFS. Measurement and Periscope: settles O46. -/

namespace Sys2Proof.Machine

/-! ## Optical estimates (R374 to R376) -/

section
variable {e : Fin 4} (x : Estimates) {s : State}

/-- The six estimates, each held to its range, before they are valid. -/
def State.estimates (s : State) (e : Nat) (x : Estimates) : State :=
  (((((s.setInt (Obj.MEAS_OSNR e) (clamp 1200 4000 x.osnr)).setInt (Obj.MEAS_CD e)
    (clamp (-(cdRange (s.mode e))) (cdRange (s.mode e)) x.cd)).setObj (Obj.MEAS_FIBRE_LEN e)
    (fibreLength (clamp (-(cdRange (s.mode e))) (cdRange (s.mode e)) x.cd) (s.obj (Obj.MEAS_FIBRE_D e)))).setObj
    (Obj.MEAS_DGD e) (min (dgdLimit (s.mode e)) x.dgd)).setObj (Obj.MEAS_PDL e) (min 600 x.pdl)).setInt
    (Obj.MEAS_SIG_POWER e) (clamp (-2500) 500 x.power)

/-- From 1 s of VALID on the estimates are valid. -/
def State.validated (s : State) (e age : Nat) : State :=
  if 800000 ≤ age then s.setObj (Obj.MEAS_VALID e) (Nat.lor (s.obj (Obj.MEAS_VALID e)) 0x3F) else s

theorem State.obj_validated_ne (s : State) {e : Nat} (age : Nat) {k : Key} (h : k ≠ Obj.MEAS_VALID e) : (s.validated e age).obj k = s.obj k := by
  unfold State.validated
  split
  · exact s.obj_setObj_ne _ h
  · rfl

theorem State.obj_validated_same (s : State) (e age : Nat) : (s.validated e age).obj (Obj.MEAS_VALID e) =
    if 800000 ≤ age then Nat.lor (s.obj (Obj.MEAS_VALID e)) 0x3F else s.obj (Obj.MEAS_VALID e) := by
  unfold State.validated
  split
  · exact s.obj_setObj_same _ _
  · rfl

theorem State.validated_frame (s : State) (e age : Nat) : s.sameButObjects (s.validated e age) := by
  unfold State.validated
  split <;> rfl

/-- One more object written leaves the rest of the state alone. -/
theorem State.sameButObjects.andSetObj {s t : State} (h : s.sameButObjects t) (k : Key) (v : Nat) : s.sameButObjects (t.setObj k v) :=
  h.trans (t.setObj_sameButObjects k v)

theorem State.estimates_frame (s : State) (e : Nat) (x : Estimates) : s.sameButObjects (s.estimates e x) :=
  (((((s.setObj_sameButObjects _ _).andSetObj _ _).andSetObj _ _).andSetObj _ _).andSetObj _ _).andSetObj _ _

theorem exec_measUpdate_due (h : s.rxValid e = true ∧ 0 < s.now - (s.engine e).validSince ∧ (s.now - (s.engine e).validSince) % 80000 = 0) :
    exec (.measUpdate e x) s = .next ((s.estimates e x).validated e (s.now - (s.engine e).validSince)) := by
  change execMeasUpdate e x s = _
  unfold execMeasUpdate
  exact if_pos h

/-! ## Round-trip delay (R374, R375, R377) -/

/-- A toggle that is out no more. -/
theorem State.rtdExpire_spec (s : State) (e : Nat) :
    bit ((s.rtdExpire e).obj (Obj.MEAS_VALID e)) 6 = false ∧ ((s.rtdExpire e).engine e).rtdSent = none ∧
    (s.rtdExpire e).obj (Obj.MEAS_RTD e) = s.obj (Obj.MEAS_RTD e) ∧
    (s.rtdExpire e).changes = s.changes ++ [⟨Ev.RTD_TIMEOUT.code, false, s.tick, contentOf Ev.RTD_TIMEOUT.widths [e, s.obj (Obj.MEAS_RTD_CONN e)]⟩] := by
  unfold State.rtdExpire
  refine ⟨?_, ?_, ?_, rfl⟩
  · simp
  · simp
  · simp

theorem State.engine_toggleDmp (s : State) (e : Nat) :
    ((s.toggleDmp e).engine e).rtdSent = (s.engine e).rtdSent ∧ ((s.toggleDmp e).engine e).rtdAt = (s.engine e).rtdAt := by
  simp [State.toggleDmp, State.setDmp]

/-- A toggle is due: the receiver is VALID, the connection is one of the engine, and a second has passed since the last one. -/
def State.rtdDue (s : State) (e : Nat) : Prop :=
  s.rxValid e = true ∧ s.measuredConn e (s.obj (Obj.MEAS_RTD_CONN e)) = true ∧ ∀ a, (s.engine e).rtdAt = some a → a + 800000 ≤ s.now

theorem exec_rtdMeasure_early {stamp : Nat} (h : ¬ s.rtdDue e) : exec (.rtdMeasure e stamp) s = .next s := by
  change execRtdMeasure e stamp s = _
  unfold execRtdMeasure
  refine if_neg fun g => h ?_
  obtain ⟨hv, hc, ha⟩ := g
  refine ⟨hv, hc, fun a e => ?_⟩
  rw [e] at ha
  exact of_decide_eq_true ha

/-- The state in which a toggle leaves: one that is still out has timed out. -/
def State.rtdReady (s : State) (e : Nat) : State := if (s.engine e).rtdSent.isSome then s.rtdExpire e else s

theorem exec_rtdMeasure_due {stamp : Nat} (h : s.rtdDue e) : exec (.rtdMeasure e stamp) s =
    .next (((s.rtdReady e).withEngine e fun r => { r with rtdSent := some stamp, rtdAt := some s.now }).toggleDmp e) := by
  obtain ⟨hv, hc, ha⟩ := h
  change execRtdMeasure e stamp s = _
  unfold execRtdMeasure
  refine if_pos ⟨hv, hc, ?_⟩
  cases hat : (s.engine e).rtdAt with
  | none => rfl
  | some a => exact decide_eq_true (ha a hat)

theorem exec_rtdReturn_sent {stamp sent a : Nat} (hs : (s.engine e).rtdSent = some sent) (ha : (s.engine e).rtdAt = some a) :
    exec (.rtdReturn e stamp) s = if a + 800000 < s.now then .next (s.rtdExpire e) else if s.rxValid e then
      .next (if (s.engine e).validSince + 800000 ≤ s.now then
        ((s.withEngine e fun r => { r with rtdSent := none }).setObj (Obj.MEAS_RTD e) (min 200000000 ((stamp - sent) / 4))).setObj (Obj.MEAS_VALID e)
          (withBit (s.obj (Obj.MEAS_VALID e)) 6 true)
        else (s.withEngine e fun r => { r with rtdSent := none }).setObj (Obj.MEAS_RTD e) (min 200000000 ((stamp - sent) / 4)))
      else .next (s.withEngine e fun r => { r with rtdSent := none }) := by
  change execRtdReturn e stamp s = _
  unfold execRtdReturn
  simp [hs, ha]

theorem exec_rtdTimeout_sent {sent a : Nat} (hs : (s.engine e).rtdSent = some sent) (ha : (s.engine e).rtdAt = some a) :
    exec (.rtdTimeout e) s = if a + 800000 ≤ s.now then .next (s.rtdExpire e) else .next s := by
  change execRtdTimeout e s = _
  unfold execRtdTimeout
  simp only [hs, ha]

end

/-! ## What a trigger of the Loupe changes (R396, R397) -/

/-- An event is one more record. -/
theorem State.raise_frame {s t : State} (h : t = { s with reg := t.reg, instr := t.instr }) (ev : EvRow) (xs : List Nat) :
    t.raise ev xs = { s with reg := (t.raise ev xs).reg, instr := (t.raise ev xs).instr, changes := (t.raise ev xs).changes } := by
  rw [h]
  rfl

/-- Objects, instruments and records are all that a trigger changes. -/
theorem State.loupeHit_frame (s : State) (kind t : Nat) :
    s.loupeHit kind t = { s with reg := (s.loupeHit kind t).reg, instr := (s.loupeHit kind t).instr, changes := (s.loupeHit kind t).changes } := by
  unfold State.loupeHit
  split
  · rfl
  · unfold State.loupeTriggerAt
    exact State.raise_frame rfl _ _
  · rfl

/-- A trigger writes no object but those of the Loupe. -/
theorem State.obj_loupeHit (s : State) (kind t : Nat) {k : Key} (h : ¬ (k.c = 0x50 ∧ k.i = 0xFF)) : (s.loupeHit kind t).obj k = s.obj k := by
  have hne {x m : Nat} : k ≠ ⟨0x50, 0xFF, m, x⟩ := fun e => h (by rw [e]; exact ⟨rfl, rfl⟩)
  unfold State.loupeHit
  split
  · rfl
  · unfold State.loupeTriggerAt
    simp [hne]
  · exact s.obj_bump_ne 1 hne

/-- A trigger adds to the records, if anything. -/
theorem State.changes_loupeHit (s : State) (kind t : Nat) : s.changes <+: (s.loupeHit kind t).changes := by
  unfold State.loupeHit
  split
  · exact List.prefix_rfl
  · exact List.prefix_append _ _
  · exact List.prefix_rfl

/-! ## Periscope (R379, R380) -/

section
variable {e : Fin 4} {s : State} {speed above : Nat}

/-- A fast transient has its class at once, by its age. -/
theorem State.pscClassNow_fast (h : s.obj (Obj.PSC_FAST_THR e) ≤ speed) :
    s.pscClassNow e speed above = some (if s.now - (s.engine e).pscOpened ≤ 8 then 2 else 3) := if_pos h

/-- A slow one by the ticks above PSC_MECH_THR, up to its 80,000th tick. -/
theorem State.pscClassNow_slow (h : ¬ s.obj (Obj.PSC_FAST_THR e) ≤ speed) : s.pscClassNow e speed above =
    if s.now - (s.engine e).pscOpened ≤ 80000 ∧ 16000 ≤ min above (s.now - (s.engine e).pscOpened + 1) then some 1
    else if s.now - (s.engine e).pscOpened = 80000 ∧ 800 ≤ min above (s.now - (s.engine e).pscOpened + 1) then some 3 else none := if_neg h

/-- A transient takes its class, which is counted and shown to protection. -/
def State.classCounted (s : State) (e c speed : Nat) : State :=
  (((s.setObj (Obj.PSC_STATE e) 2).withEngine e fun r => { r with pscClass := c, pscPeak := max r.pscPeak speed }).bump
    (Obj.PSC_COUNT e (c - 1))).withProt fun p => { p with psc := Map.set 0 p.psc (Key.unit e) c }

/-- A class that is given is reported. -/
def State.classified (s : State) (e c speed : Nat) : State :=
  (s.classCounted e c speed).raise Ev.PSC_TRANSIENT [e, c, ((s.classCounted e c speed).engine e).pscTick, speed]

/-- What holds of a state `t` in which the transient of engine `e` has been given the class `c`. -/
def State.hasClass (s : State) (e c speed : Nat) (t : State) : Prop :=
  t.obj (Obj.PSC_STATE e) = 2 ∧ (t.engine e).pscClass = c ∧ (t.engine e).pscPeak = max (s.engine e).pscPeak speed ∧
    t.obj (Obj.PSC_COUNT e (c - 1)) = u64 (s.obj (Obj.PSC_COUNT e (c - 1)) + 1) ∧ Map.get 0 t.prot.psc (Key.unit e) = c ∧
    ⟨Ev.PSC_TRANSIENT.code, false, s.tick, contentOf Ev.PSC_TRANSIENT.widths [e, c, (s.engine e).pscTick, speed]⟩ ∈ t.changes

theorem State.classified_hasClass (s : State) (e c speed : Nat) : s.hasClass e c speed (s.classified e c speed) := by
  unfold State.classified State.classCounted
  refine ⟨by simp, by simp, by simp, by simp, by simp, by simp⟩

/-- A trigger of the Loupe leaves the class as it is. -/
theorem State.hasClass.loupeHit {t : State} {c : Nat} (h : s.hasClass e c speed t) (kind u : Nat) :
    s.hasClass e c speed (t.loupeHit kind u) := by
  obtain ⟨hst, hc, hpeak, hcount, hpsc, hev⟩ := h
  have hunit {m x : Nat} : ¬ ((⟨0x50, e, m, x⟩ : Key).c = 0x50 ∧ (⟨0x50, e, m, x⟩ : Key).i = 0xFF) := fun ⟨_, he⟩ => absurd e.isLt (by rw [show e.val = 0xFF from he]; decide)
  refine ⟨?_, ?_, ?_, ?_, ?_, (t.changes_loupeHit kind u).subset hev⟩
  · rwa [t.obj_loupeHit kind u hunit]
  · rwa [t.loupeHit_frame kind u]
  · rwa [t.loupeHit_frame kind u]
  · rwa [t.obj_loupeHit kind u hunit]
  · rwa [t.loupeHit_frame kind u]

theorem exec_pscClassify_none (h : s.obj (Obj.PSC_STATE e) ≠ 1 ∨ s.pscClassNow e (min speed 20000000) above = none) :
    exec (.pscClassify e speed above) s = .next s := by
  change execPscClassify e speed above s = _
  unfold execPscClassify
  split
  · rfl
  next hst =>
    have hn : s.pscClassNow e (min speed maxSpeed) above = none := h.resolve_left hst
    rw [hn]

theorem exec_pscClassify_class {c : Nat} (hst : s.obj (Obj.PSC_STATE e) = 1) (hc : s.pscClassNow e (min speed 20000000) above = some c) :
    ∃ t, exec (.pscClassify e speed above) s = .next t ∧ s.hasClass e c (min speed 20000000) t := by
  change ∃ t, execPscClassify e speed above s = _ ∧ _
  have hc' : s.pscClassNow e (min speed maxSpeed) above = some c := hc
  have hspec := s.classified_hasClass e c (min speed 20000000)
  unfold execPscClassify
  rw [if_neg (not_not.mpr hst), hc']
  refine ⟨_, rfl, ?_⟩
  split
  · exact hspec.loupeHit _ _
  · exact hspec

/-- A transient that ends (R380). -/
theorem State.closeTransient_spec {s : State} {e : Nat} {r : Engine} (hst : s.obj (Obj.PSC_STATE e) ≠ 0) (hr : s.engine e = r) :
    (s.closeTransient e).obj (Obj.PSC_STATE e) = 0 ∧
    (r.pscClass ≠ 0 → (s.closeTransient e).obj (Obj.PSC_LAST e) = r.pscClass * 2 ^ 30 + r.pscPeak ∧ (s.closeTransient e).changes = s.changes ++
      [⟨Ev.PSC_END.code, false, s.tick, contentOf Ev.PSC_END.widths [e, r.pscClass, s.now - r.pscOpened, r.pscPeak]⟩]) ∧
    (r.pscClass = 0 → (s.closeTransient e).changes = s.changes ∧ (s.closeTransient e).obj (Obj.PSC_LAST e) = s.obj (Obj.PSC_LAST e)) := by
  unfold State.closeTransient
  rw [if_neg hst, hr]
  by_cases hc : r.pscClass = 0
  · rw [if_pos hc]
    exact ⟨by simp, fun hne => absurd hc hne, fun _ => ⟨rfl, by simp⟩⟩
  · rw [if_neg hc]
    exact ⟨by simp, fun _ => ⟨by simp, by simp⟩, fun h0 => absurd h0 hc⟩

end

/-- Settles O46: the estimates of a due update, the toggle that leaves, returns or times out, and a transient from its opening through its class to
its end, each from the equation of its command. -/
theorem estimatesAndPeriscope : Obligations.EstimatesAndPeriscope := by
  intro e s
  dsimp only
  refine ⟨fun x => ⟨fun h => if_neg h, fun h => ⟨_, exec_measUpdate_due x h, ?_⟩⟩, fun stamp => ⟨fun h => ?_, fun h => ?_⟩, fun stamp hnone => ⟨?_, ?_⟩,
    fun stamp sent a hsent hat => ⟨fun hin hv => ?_, fun hin hv => ?_, fun hin => ?_, fun c hc => ?_⟩, fun speed => ?_, fun speed above => ⟨fun h => ?_, fun hst c hc => ?_⟩,
    fun quiet peak => ⟨fun h => ?_, fun h => ?_⟩⟩
  · refine ⟨?_, ?_, ?_, ?_, ?_, ?_, ?_, (s.estimates_frame e x).trans (State.validated_frame _ _ _)⟩
    · rw [State.obj_validated_ne _ _ (by simp)]; simp [State.estimates]
    · rw [State.obj_validated_ne _ _ (by simp)]; simp [State.estimates]
    · rw [State.obj_validated_ne _ _ (by simp)]; simp [State.estimates, fibreLength]
    · rw [State.obj_validated_ne _ _ (by simp)]; simp [State.estimates]
    · rw [State.obj_validated_ne _ _ (by simp)]; simp [State.estimates]
    · rw [State.obj_validated_ne _ _ (by simp)]; simp [State.estimates]
    · rw [State.obj_validated_same]; simp [State.estimates]
  · exact exec_rtdMeasure_early h
  · obtain ⟨hsent, hat⟩ := State.engine_toggleDmp ((s.rtdReady e).withEngine e fun r => { r with rtdSent := some stamp, rtdAt := some s.now }) e
    rw [State.engine_withEngine_same] at hsent hat
    obtain ⟨hbit, -, -, hev⟩ := s.rtdExpire_spec e
    refine ⟨_, exec_rtdMeasure_due h, hsent, hat, fun hnone => ?_, fun hout => ?_⟩
    · rw [State.rtdReady, hnone]
      rfl
    · have hready : s.rtdReady e = s.rtdExpire e := if_pos (Option.isSome_iff_ne_none.mpr hout)
      rw [hready]
      exact ⟨hbit, hev⟩
  · change execRtdReturn e stamp s = _
    simp only [execRtdReturn, hnone]
  · change execRtdTimeout e s = _
    simp only [execRtdTimeout, hnone]
  · refine ⟨_, (exec_rtdReturn_sent hsent hat).trans ((if_neg (Nat.not_lt.mpr hin)).trans (if_pos hv)), ?_⟩
    split
    next hold => exact ⟨by simp, by simp, fun _ => by simp, fun hnew => absurd hold (Nat.not_le.mpr hnew), rfl⟩
    next hnew => exact ⟨by simp, by simp, fun hold => absurd hold hnew, fun _ => by simp, rfl⟩
  · exact (exec_rtdReturn_sent hsent hat).trans ((if_neg (Nat.not_lt.mpr hin)).trans (if_neg (by simp [hv])))
  · exact (exec_rtdTimeout_sent hsent hat).trans (if_neg (Nat.not_le.mpr hin))
  · refine ⟨s.rtdExpire e, ?_, s.rtdExpire_spec e⟩
    rcases hc with ⟨rfl, hlate⟩ | ⟨rfl, hlate⟩
    · exact (exec_rtdReturn_sent hsent hat).trans (if_pos hlate)
    · exact (exec_rtdTimeout_sent hsent hat).trans (if_pos hlate)
  · exact (apply_ite Host.Outcome.next _ _ _).symm
  · refine exec_pscClassify_none (h.imp_right fun hno => ?_)
    by_cases hf : s.obj (Obj.PSC_FAST_THR e) ≤ min speed 20000000
    · exact absurd (.inl hf) hno
    · rw [State.pscClassNow_slow hf, if_neg fun hm => hno (.inr (.inl ⟨hf, hm⟩)), if_neg]
      intro ⟨hage, habove⟩
      exact hno (.inr (.inr ⟨hf, hage, habove, Nat.lt_of_not_le fun hm => hno (.inr (.inl ⟨hf, hage.le, hm⟩))⟩))
  · refine exec_pscClassify_class hst ?_
    rcases hc with ⟨hf, hage, rfl⟩ | ⟨hf, hage, rfl⟩ | ⟨⟨hf, hm⟩, rfl⟩ | ⟨⟨hf, hage, habove, hbelow⟩, rfl⟩
    · rw [State.pscClassNow_fast hf, if_pos hage]
    · rw [State.pscClassNow_fast hf, if_neg (Nat.not_le.mpr hage)]
    · rw [State.pscClassNow_slow hf, if_pos hm]
    · rw [State.pscClassNow_slow hf, if_neg fun hm => absurd hm.2 (Nat.not_le.mpr hbelow), if_pos ⟨hage, habove⟩]
  · exact if_neg h
  · obtain ⟨hst, hcl, hno⟩ := State.closeTransient_spec
      (s := s.withEngine e fun r => { r with pscPeak := max r.pscPeak (min peak 20000000) }) (e := e) h.1 (s.engine_withEngine_same e _)
    exact ⟨_, if_pos h, hst, hcl, hno⟩

end Sys2Proof.Machine
end

section
/-! PROOFS. Performance counters: settles O60. -/

namespace Sys2Proof.Machine

/-! ## A counter that wraps (R534, R535) -/

/-- The overflow register of a counter, and its bit in it. -/
def ovfKey (c : Nat) : Key := if c < 32 then Obj.PERF_CORE_OVF (c / 16) else Obj.PERF_DP_OVF ((c - 32) / 32)
def ovfBit (c : Nat) : Nat := if c < 32 then c % 16 else (c - 32) % 32

theorem perfVal_ne_ovfKey (c d : Nat) : perfVal c ≠ ovfKey d := by
  unfold perfVal ovfKey
  split <;> split <;> simp

theorem perfSel_ne_perfVal (c d : Nat) : perfSel c ≠ perfVal d := by
  unfold perfSel perfVal
  split <;> split <;> simp

theorem perfVal_ne_succ (c : Nat) : perfVal c ≠ perfVal (c + 1) := by
  unfold perfVal
  split <;> split <;> simp <;> omega

/-- Counters change objects, the management complex and the records. -/
def State.sameButCounts (s t : State) : Prop := t = { s with reg := t.reg, mc := t.mc, changes := t.changes }

theorem State.sameButCounts.trans {s t u : State} (h : s.sameButCounts t) (g : t.sameButCounts u) : s.sameButCounts u := by
  unfold State.sameButCounts at *
  rw [g, h]

/-- What a step of a wrap keeps: no overflow bit is cleared, no interrupt is taken back. -/
def State.keepsWraps (s t : State) : Prop :=
  (∀ d b, bit (s.obj (ovfKey d)) b = true → bit (t.obj (ovfKey d)) b = true) ∧ (∀ d, d ∈ s.mc.interrupts → d ∈ t.mc.interrupts) ∧ s.sameButCounts t

theorem State.keepsWraps.trans {s t u : State} (h : s.keepsWraps t) (g : t.keepsWraps u) : s.keepsWraps u := by
  obtain ⟨hb, hi, hf⟩ := h
  obtain ⟨gb, gi, gf⟩ := g
  exact ⟨fun d b x => gb d b (hb d b x), fun d x => gi d (hi d x), hf.trans gf⟩

/-- The overflow bit of a counter set. -/
def State.overflowed (s : State) (c : Nat) : State := s.setObj (ovfKey c) (withBit (s.obj (ovfKey c)) (ovfBit c) true)

/-- The interrupt of a counter that wraps, where it asks for one and its carry is not counted. -/
def State.wrapInterrupt (s t : State) (c : Nat) : State :=
  if bit (s.obj (perfSel c)) 29 ∧ (decide (c % 2 = 0) && s.chained (c + 1)) = false
  then t.withMc fun m => { m with interrupts := m.interrupts ++ [c] } else t

/-- The event of a wrap of the data path: once per epoch and register. -/
def State.overflowEvent (s : State) (c : Nat) : State :=
  if c < 32 then s
  else if Map.get 0 s.mc.overflowEpoch (Key.unit ((c - 32) / 32)) = s.epoch + 1 then s
  else (s.raise Ev.PERF_OVERFLOW [s.obj (ovfKey c)]).withMc fun m =>
    { m with overflowEpoch := Map.set 0 m.overflowEpoch (Key.unit ((c - 32) / 32)) (s.epoch + 1) }

theorem State.perfWrapped_eq (s : State) (c : Nat) : s.perfWrapped c = (s.wrapInterrupt (s.overflowed c) c).overflowEvent c := rfl

theorem State.obj_overflowEvent (s : State) (c : Nat) : (s.overflowEvent c).obj = s.obj := by
  unfold State.overflowEvent
  split
  · rfl
  split <;> rfl

theorem State.interrupts_overflowEvent (s : State) (c : Nat) : (s.overflowEvent c).mc.interrupts = s.mc.interrupts := by
  unfold State.overflowEvent
  split
  · rfl
  split <;> rfl

theorem State.overflowEvent_frame (s : State) (c : Nat) : s.sameButCounts (s.overflowEvent c) := by
  unfold State.overflowEvent
  split
  · rfl
  split <;> rfl

/-- A counter that wraps sets its overflow bit, clears none, and asks for its interrupt where its carry is not counted. -/
theorem State.perfWrapped_spec (s : State) (c : Nat) :
    let t := s.perfWrapped c
    bit (t.obj (ovfKey c)) (ovfBit c) = true ∧ (∀ k, k ≠ ovfKey c → t.obj k = s.obj k) ∧
    (bit (s.obj (perfSel c)) 29 = true → (c % 2 = 1 ∨ s.chained (c + 1) = false) → c ∈ t.mc.interrupts) ∧ s.keepsWraps t := by
  have hobj : (s.perfWrapped c).obj = (s.overflowed c).obj := by
    rw [s.perfWrapped_eq c, State.obj_overflowEvent]
    unfold State.wrapInterrupt
    split <;> rfl
  have hint : (s.perfWrapped c).mc.interrupts = (s.wrapInterrupt (s.overflowed c) c).mc.interrupts := by
    rw [s.perfWrapped_eq c, State.interrupts_overflowEvent]
  have hframe : s.sameButCounts (s.wrapInterrupt (s.overflowed c) c) := by
    unfold State.wrapInterrupt
    split <;> rfl
  refine ⟨?_, fun k hk => ?_, fun hs hq => ?_, fun d b hb => ?_, fun d hd => ?_, ?_⟩
  · rw [hobj]
    simp [State.overflowed]
  · rw [hobj]
    exact s.obj_setObj_ne _ hk
  · have hquiet : (decide (c % 2 = 0) && s.chained (c + 1)) = false := by
      rcases hq with hodd | hfree
      · simp [hodd]
      · simp [hfree]
    rw [hint, State.wrapInterrupt, if_pos ⟨hs, hquiet⟩]
    exact List.mem_append_right _ (List.mem_singleton_self c)
  · rw [hobj, State.overflowed, State.obj_setObj]
    split
    next e =>
      rw [bit_withBit, ← e, hb, ite_self]
    next => exact hb
  · rw [hint]
    unfold State.wrapInterrupt
    split
    · exact List.mem_append_left _ hd
    · exact hd
  · rw [s.perfWrapped_eq c]
    exact hframe.trans (State.overflowEvent_frame _ c)

/-- The sum of a counter modulo 2^32. -/
def State.counterSum (s : State) (c n : Nat) : State := s.setObj (perfVal c) ((s.obj (perfVal c) + n) % 2 ^ 32)

theorem State.counterSum_keepsWraps (s : State) (c n : Nat) : s.keepsWraps (s.counterSum c n) :=
  ⟨fun d b h => by rwa [State.counterSum, s.obj_setObj_ne _ (perfVal_ne_ovfKey c d).symm], fun _ h => h, rfl⟩

/-- A counter that advances holds its sum modulo 2^32, and no other changes. -/
theorem State.perfAdd_spec (s : State) (c n : Nat) :
    let t := (s.perfAdd c n).1
    t.obj (perfVal c) = (s.obj (perfVal c) + n) % 2 ^ 32 ∧ (∀ d, perfVal d ≠ perfVal c → t.obj (perfVal d) = s.obj (perfVal d)) ∧ s.keepsWraps t := by
  obtain ⟨-, hobj, -, hkeeps⟩ := (s.counterSum c n).perfWrapped_spec c
  have hsame : (s.counterSum c n).obj (perfVal c) = (s.obj (perfVal c) + n) % 2 ^ 32 := s.obj_setObj_same _ _
  have hother (d : Nat) (h : perfVal d ≠ perfVal c) : (s.counterSum c n).obj (perfVal d) = s.obj (perfVal d) := s.obj_setObj_ne _ h
  unfold State.perfAdd
  dsimp only
  split
  · exact ⟨(hobj _ (perfVal_ne_ovfKey c c)).trans hsame, fun d h => (hobj _ (perfVal_ne_ovfKey d c)).trans (hother d h),
      (s.counterSum_keepsWraps c n).trans hkeeps⟩
  · exact ⟨hsame, hother, s.counterSum_keepsWraps c n⟩

/-- One that wraps shows it. -/
theorem State.perfAdd_wraps {s : State} {c n : Nat} (h : 2 ^ 32 ≤ s.obj (perfVal c) + n) :
    let t := (s.perfAdd c n).1
    bit (t.obj (ovfKey c)) (ovfBit c) = true ∧
      (bit (s.obj (perfSel c)) 29 = true → (c % 2 = 1 ∨ s.chained (c + 1) = false) → c ∈ t.mc.interrupts) := by
  obtain ⟨hbit, -, hint, -⟩ := (s.counterSum c n).perfWrapped_spec c
  have hsel (d : Nat) : (s.counterSum c n).obj (perfSel d) = s.obj (perfSel d) := s.obj_setObj_ne _ (perfSel_ne_perfVal d c)
  rw [State.chained, hsel, hsel] at hint
  have ht : (s.perfAdd c n).1 = (s.counterSum c n).perfWrapped c := if_pos h
  rw [ht]
  exact ⟨hbit, hint⟩

theorem exec_perfCounterOverflow_wraps {s : State} {c : Fin 96} {count : Nat} (h : 2 ^ 32 ≤ s.obj (perfVal c) + count)
    (hc : s.obj Obj.PERF_FROZEN = 0 ∧ bit (s.obj (perfSel c)) 31 = true ∧ s.chained c = false) :
    exec (.perfCounterOverflow c count) s = .next (
      if c.val % 2 = 0 ∧ s.chained (c + 1) = true then ((s.perfAdd c count).1.perfAdd (c + 1) (s.perfAdd c count).2).1 else (s.perfAdd c count).1) := by
  change Host.Outcome.next _ = _
  rw [if_pos h]
  unfold State.perfCount
  rw [if_pos ⟨c.isLt, hc⟩]

/-! ## The counter dump (R536) -/

section
variable {s : State} {words : Nat}

/-- A dump is due: it is on, and its period has passed. -/
def State.dumpDue (s : State) : Prop := s.obj Obj.PERF_DUMP_TGT ≠ 0 ∧ s.mc.dumpFrom + s.obj Obj.PERF_DUMP_PERIOD ≤ s.now

/-- The ring is full, or in an HBM that does not serve. -/
def State.dumpFull (s : State) : Prop :=
  (s.obj Obj.PERF_DUMP_WR + 1) % s.obj Obj.PERF_DUMP_SIZE = s.obj Obj.PERF_DUMP_RD ∨ (s.obj Obj.PERF_DUMP_TGT = 2 ∧ s.hbmServes = false)

theorem State.dumpRecord_early (h : ¬ s.dumpDue) : s.dumpRecord words = s := by
  unfold State.dumpDue at h
  exact if_pos (by omega)

/-- The dump's period and sequence move on. -/
def State.dumpBegun (s : State) : State := s.withMc fun m => { m with dumpFrom := s.now, sequence := (m.sequence + 1) % 2 ^ 32 }

theorem State.dumpRecord_full (h : s.dumpDue) (hfull : s.dumpFull) :
    s.dumpRecord words = (s.dumpBegun.bump Obj.PERF_DUMP_DROP).withMc fun m => { m with dumpGap := true } := by
  unfold State.dumpDue at h
  exact (if_neg (by omega)).trans (if_pos hfull)

/-- The words of a record: how many counters it holds, the sequence, the tick and the counters. -/
def State.dumpWords (s : State) (n : Nat) : List (Nat × Nat) :=
  [(4, (decide (n < 96)).toNat * 2 ^ 31 + s.mc.dumpGap.toNat * 2 ^ 30 + s.obj Obj.PERF_FROZEN % 2 * 2 ^ 29 + n), (4, s.mc.sequence), (8, s.tick)] ++
    ((List.range 96).map fun c => (4, if c < n then s.obj (perfVal c) else
      bytesOf 512 (Map.get 0 s.mc.dump (Key.unit (s.obj Obj.PERF_DUMP_WR))) (16 + 4 * c) 4)) ++ [(112, 0)]

theorem State.dumpRecord_written (h : s.dumpDue) (hfull : ¬ s.dumpFull) : s.dumpRecord words =
    (s.dumpBegun.setObj Obj.PERF_DUMP_WR ((s.obj Obj.PERF_DUMP_WR + 1) % s.obj Obj.PERF_DUMP_SIZE)).withMc fun m =>
      { m with dumpGap := false, dump := Map.set 0 m.dump (Key.unit (s.obj Obj.PERF_DUMP_WR)) (packBytes (s.dumpWords (min words 96))) } := by
  unfold State.dumpDue at h
  exact (if_neg (by omega)).trans (if_neg hfull)

/-- A whole record holds every counter. -/
theorem State.dumpWords_whole : s.dumpWords 96 =
    [(4, s.mc.dumpGap.toNat * 2 ^ 30 + s.obj Obj.PERF_FROZEN % 2 * 2 ^ 29 + 96), (4, s.mc.sequence), (8, s.tick)] ++
      ((List.range 96).map fun c => (4, s.obj (perfVal c))) ++ [(112, 0)] := by
  have hall : ((List.range 96).map fun c => (4, if c < 96 then s.obj (perfVal c) else
      bytesOf 512 (Map.get 0 s.mc.dump (Key.unit (s.obj Obj.PERF_DUMP_WR))) (16 + 4 * c) 4)) = (List.range 96).map fun c => (4, s.obj (perfVal c)) :=
    List.map_congr_left fun c hc => by rw [if_pos (List.mem_range.mp hc)]
  unfold State.dumpWords
  rw [hall]
  simp only [Nat.lt_irrefl, decide_false, Bool.toNat_false, Nat.zero_mul, Nat.zero_add]

end

/-- Settles O60: a counter that wraps through `perfAdd_spec`, twice where its carry is counted; a dump by whether it is due and finds room. -/
theorem countersCountAndDump : Obligations.CountersCountAndDump := by
  intro s
  dsimp only
  refine ⟨fun c count => ⟨fun h => ?_, fun h hc => ?_⟩, fun complete => ⟨fun h => ?_, fun h hfull => ?_, fun h hfull => ?_⟩, fun rq x on c hc hacc => ?_⟩
  · refine congrArg Host.Outcome.next ?_
    split
    next hwrap => exact if_neg fun ⟨_, hcounts⟩ => h.elim (fun hlt => absurd hwrap (Nat.not_le.mpr hlt)) fun hno => hno hcounts
    · rfl
  · obtain ⟨hval, hothers', hkeeps⟩ := s.perfAdd_spec c count
    obtain ⟨hbit, hint⟩ := State.perfAdd_wraps h
    refine ⟨_, exec_perfCounterOverflow_wraps h hc, ?_⟩
    split
    next hcarry =>
      obtain ⟨hnext, hothers, hbits, hints, hframe⟩ := (s.perfAdd c count).1.perfAdd_spec (c + 1) (s.perfAdd c count).2
      refine ⟨(hothers _ (perfVal_ne_succ c)).trans hval, hbits _ _ hbit, fun _ _ => hnext.trans ?_, fun h29 hno => hints _ (hint h29 hno), hkeeps.2.2.trans hframe⟩
      rw [hothers' _ (perfVal_ne_succ c).symm]
      rfl
    next hcarry => exact ⟨hval, hbit, fun he hch => absurd ⟨he, hch⟩ hcarry, hint, hkeeps.2.2⟩
  · exact congrArg Host.Outcome.next (State.dumpRecord_early h)
  · exact ⟨_, congrArg Host.Outcome.next (State.dumpRecord_full h hfull), by simp [State.dumpBegun], rfl, rfl, by simp [State.dumpBegun]⟩
  · refine ⟨_, congrArg Host.Outcome.next (State.dumpRecord_written h hfull), by simp, rfl, rfl, rfl, ?_, ?_, rfl⟩
    · rintro rfl
      rw [← State.dumpWords_whole]
      exact Map.get_set_same ..
    · exact fun k hk => State.obj_setObj_ne _ _ hk
  · simp only [List.mem_cons, Prod.mk.injEq, List.not_mem_nil, or_false] at hc
    rcases hc with ⟨rfl, rfl⟩ | ⟨rfl, rfl⟩
    · exact congrArg Host.Outcome.next (serveWrite_accepted hacc acceptMc (s.now_served rq x ▸ rfl))
    · exact congrArg Host.Outcome.next (serveWrite_accepted hacc acceptMc (s.now_served rq x ▸ rfl))
end Sys2Proof.Machine
end

section
/-! PROOFS. Arming the fault injection: settles O52. -/

namespace Sys2Proof.Machine

/-! ## Writes of FI_ARM (R472) -/

section
variable {rq : Rq} {x : Sender} {s : State}

/-- What an accepted write of FI_ARM answers, and leads to. -/
theorem serveArm_accepted {val v : Val} {st : Status} {t : State} (h : Accepted rq x Obj.FI_ARM val v s)
    (g : (s.served rq x).writeArm rq.session v.v = (st, t)) : serveArm rq val s = t.deliver rq Op.write st [] := by
  obtain ⟨hs, r, hc⟩ := h
  unfold serveArm
  rw [serve_served hs]
  simp only [hc, g]
  rfl

/-- Below the Engineer role a write of FI_ARM is denied, by check 3 or check 6 of R421. -/
theorem exec_arm_denied {c : Instr} {v : Nat} (hw : writeOf c = some (rq, Obj.FI_ARM, ⟨4, v⟩)) (hs : Served Op.write 0 rq x s) (hr : x.role < 2) :
    exec c s = .next ((s.served rq x).deliver rq Op.write .denied []) := by
  by_cases h0 : x.role < 1
  · obtain ⟨body, e⟩ := exec_servesWrite (s := s) hw
    rw [e]
    exact congrArg Host.Outcome.next (serve_lowRole hs.alive hs.mailbox hs.ready hs.version hs.sender h0)
  · have h1 : x.role = 1 := by omega
    refine exec_write_unfit hw { hs with role := by omega } ?_
    rw [h1]
    rfl

/-- Out of ARMED, FI_STATE returns to IDLE with nothing else of the facility to end. -/
theorem State.idleInjection_unarmed (h : s.obj Obj.FI_STATE ≠ 2) :
    s.idleInjection = { s.setObj Obj.FI_STATE 0 with inject := { s.inject with prepared := none } } := if_neg h

theorem State.idleInjection_served (h : s.obj Obj.FI_STATE ≠ 2) : (s.served rq x).idleInjection =
    { (s.served rq x).setObj Obj.FI_STATE 0 with inject := { s.inject with prepared := none } } := by
  have hobj : (s.served rq x).obj Obj.FI_STATE = s.obj Obj.FI_STATE := s.obj_served_ne rq x (by simp)
  rw [State.idleInjection_unarmed (hobj ▸ h), State.inject_served]

theorem State.obj_idleInjection (s : State) : s.idleInjection.obj Obj.FI_STATE = 0 := by
  unfold State.idleInjection State.disarm
  split <;> simp

/-- Any value that does not move FI_STATE on returns it to IDLE. -/
theorem State.writeArm_idle {session v : Nat} (h1 : ¬ (s.obj Obj.FI_STATE = 0 ∧ v = 0xA1)) (h2 : ¬ (s.obj Obj.FI_STATE = 1 ∧ v = 0x5E)) :
    s.writeArm session v = (.ok, s.idleInjection) := (if_neg h1).trans (if_neg h2)

theorem State.writeArm_prepare {session : Nat} (h : s.obj Obj.FI_STATE = 0) : s.writeArm session 0xA1 =
    (.ok, (s.setObj Obj.FI_STATE 1).withInject fun y => { y with prepared := some (session, s.now) }) := if_pos ⟨h, rfl⟩

/-- The slots in use. -/
def State.slotsUsed (s : State) : Nat := (List.range 16).countP fun i => bit (s.obj (Obj.FI_SLOT i)) 127

/-- The confirmation of a preparation: another session or the time idles the facility, no slot in use is refused, and else it arms. -/
theorem State.writeArm_confirm {session owner since : Nat} (h : s.obj Obj.FI_STATE = 1) (hp : s.inject.prepared = some (owner, since)) :
    s.writeArm session 0x5E =
      if owner ≠ session ∨ since + 800 < s.now then (.ok, s.idleInjection)
      else if s.slotsUsed = 0 then (.precond, s)
      else (.ok, ((s.setObj Obj.FI_STATE 2).withInject fun y => { y with prepared := none, armedAt := s.now, lastHit := [] }).raise
        Ev.FI_ARMED [s.slotsUsed, s.obj Obj.FI_DURATION]) := by
  unfold State.writeArm
  dsimp only
  rw [if_neg (by simp), if_pos ⟨h, rfl⟩, hp]
  rfl

/-- An accepted write of a value that does not move FI_STATE on. -/
theorem serveArm_idle {val v : Val} (h : Accepted rq x Obj.FI_ARM val v s) (h1 : ¬ (s.obj Obj.FI_STATE = 0 ∧ v.v = 0xA1))
    (h2 : ¬ (s.obj Obj.FI_STATE = 1 ∧ v.v = 0x5E)) : serveArm rq val s = (s.served rq x).idleInjection.answered rq := by
  have hobj : (s.served rq x).obj Obj.FI_STATE = s.obj Obj.FI_STATE := s.obj_served_ne rq x (by simp)
  exact serveArm_accepted h (State.writeArm_idle (hobj ▸ h1) (hobj ▸ h2))

/-- Out of ARMED it idles the facility; in ARMED it disarms. -/
theorem serveArm_unmoved {v : Nat} (h : Accepted rq x Obj.FI_ARM ⟨4, v⟩ ⟨4, v⟩ s) (h1 : ¬ (s.obj Obj.FI_STATE = 0 ∧ v = 0xA1))
    (h2 : ¬ (s.obj Obj.FI_STATE = 1 ∧ v = 0x5E)) (hn : s.obj Obj.FI_STATE ≠ 2) : serveArm rq ⟨4, v⟩ s =
      State.answered { (s.served rq x).setObj Obj.FI_STATE 0 with inject := { s.inject with prepared := none } } rq := by
  rw [serveArm_idle h h1 h2, State.idleInjection_served hn]

theorem serveArm_armed {v : Nat} (h : Accepted rq x Obj.FI_ARM ⟨4, v⟩ ⟨4, v⟩ s) (h2 : s.obj Obj.FI_STATE = 2) :
    ∃ t : State, (.next (serveArm rq ⟨4, v⟩ s) : Out) = .next (t.answered rq) ∧ t.obj Obj.FI_STATE = 0 :=
  ⟨_, congrArg Host.Outcome.next (serveArm_idle h (by omega) (by omega)), State.obj_idleInjection _⟩

theorem serveAnyWrite_arm (rq : Rq) (val : Val) (s : State) : serveAnyWrite rq Obj.FI_ARM val s = serveArm rq val s := rfl

end

/-- Settles O52: each write of FI_ARM by what `writeArm` makes of it; one that does not move FI_STATE on through `serveArm_idle`. -/
theorem injectionIsArmedInTwoSteps : Obligations.InjectionIsArmedInTwoSteps := by
  intro s
  dsimp only
  refine ⟨fun rq x => ?_, fun owner since hst hp => ?_, fun hst => ?_⟩
  · have hobj {k : Key} (hk : k ≠ Obj.QM_REQ_COUNT) : (s.served rq x).obj k = s.obj k := s.obj_served_ne rq x hk
    refine ⟨fun hs hr => ⟨exec_arm_denied rfl hs hr, exec_arm_denied rfl hs hr⟩, fun h => ⟨fun h0 => ?_, fun h1 => ?_, serveArm_armed h⟩,
      fun h => ⟨fun owner since hst hp => ?_, fun h0 => ?_, serveArm_armed h⟩, fun h => ⟨fun hn => ?_, serveArm_armed h⟩, fun obj index v hk h hv hst => ?_⟩
    · refine congrArg Host.Outcome.next ((serveArm_accepted h (State.writeArm_prepare ((hobj (by simp)).trans h0))).trans ?_)
      rw [State.now_served, State.withInject, State.inject_setObj, State.inject_served]
      rfl
    · exact congrArg Host.Outcome.next (serveArm_unmoved h (by omega) (by omega) (by omega))
    · have hp' : (s.served rq x).inject.prepared = some (owner, since) := by rw [State.inject_served, hp]
      have hslots : (s.served rq x).slotsUsed = s.slotsUsed := by
        unfold State.slotsUsed
        simp only [hobj (k := Obj.FI_SLOT _) (by simp)]
      have hconfirm := State.writeArm_confirm (session := rq.session) ((hobj (by simp)).trans hst) hp'
      rw [State.now_served, hslots, hobj (by simp)] at hconfirm
      refine ⟨fun hidle => ?_, fun ho hin => ⟨fun hno => ?_, fun hsome => ?_⟩⟩
      · refine congrArg Host.Outcome.next (serveArm_accepted h (hconfirm.trans (if_pos hidle)) |>.trans ?_)
        rw [State.idleInjection_served (by omega)]
        rfl
      · exact congrArg Host.Outcome.next (serveArm_accepted h (hconfirm.trans ((if_neg (by omega)).trans (if_pos hno))))
      · refine ⟨_, congrArg Host.Outcome.next (serveArm_accepted h (hconfirm.trans ((if_neg (by omega)).trans (if_neg hsome)))), ?_, rfl, rfl, ?_, fun k hk => ?_⟩
        · simp
        · simp [State.slotsUsed]
        · simp [hk]
    · exact congrArg Host.Outcome.next (serveArm_unmoved h (by omega) (by omega) (by omega))
    · exact congrArg Host.Outcome.next (serveArm_unmoved h (by omega) (by omega) hn)
    · change Host.Outcome.next (serveAnyWrite rq (objKey obj index) _ s) = _
      rw [hk, serveAnyWrite_arm, serveArm_unmoved h (by omega) (by omega) (by omega)]
  · change execFiPrepareTimeout s = _
    unfold execFiPrepareTimeout
    rw [hst, hp]
    rw [State.idleInjection_unarmed (by omega)]
    exact (apply_ite Host.Outcome.next _ _ _).symm
  · change execFiPrepareTimeout s = _
    unfold execFiPrepareTimeout
    split
    next h _ => exact absurd h hst
    · rfl
end Sys2Proof.Machine
end

section
/-! PROOFS. An occurrence that changes the active set: refutes O53. -/

namespace Sys2Proof.Machine

/-! ## An injected deadline miss of protection undoes the command of this tick (R27, R475) -/

/-- Armed, with one occurrence of kind 12 in this tick at the protection engine, in a tick in which the command of group 0 has changed. -/
def commandChanged : State :=
  { ((State.reset.setObj Obj.FI_STATE 2).setObj (Obj.FI_SLOT 0) (2 ^ 127 + 12 * 2 ^ 122 + 3 * 2 ^ 96)).setObj Obj.FI_DURATION 8000 with
    running := true, act := Map.set (objDefault (Obj.PG_CMD 0)) State.reset.act (Obj.PG_CMD 0) 1 }

/-- The occurrence leaves the active set as it is. -/
def keepsActive (slot : Fin 16) (conns affected : List Nat) (s : State) : Bool :=
  match exec (.fiOccurrence slot conns affected) s with
  | .next t => decide (t.act = s.act)
  | _ => true

theorem keepsActive_of_next {slot : Fin 16} {conns affected : List Nat} {s t : State} (h : exec (.fiOccurrence slot conns affected) s = .next t)
    (ha : t.act = s.act) : keepsActive slot conns affected s = true := by
  unfold keepsActive
  rw [h]
  exact decide_eq_true ha

theorem commandChanged_undone : keepsActive 0 [] [0] commandChanged = false := by decide +kernel

/-- Refutes O53: an occurrence of kind 12 that makes the protection engine miss its deadline takes the evaluation of this tick back, a command of a
group included (R27), so the active set does not stay as it was. In `commandChanged` group 0 has its command 1 back at 0. -/
theorem not_injectionEndsAndOccurs : ¬ Obligations.InjectionEndsAndOccurs := by
  intro h
  obtain ⟨-, -, hocc⟩ := h commandChanged
  obtain ⟨t, ht, -, -, -, hact, -⟩ := (hocc 0 [] [0]).2 (by decide +kernel)
  exact absurd (keepsActive_of_next ht hact) (by rw [commandChanged_undone]; decide)
end Sys2Proof.Machine
end

section
/-! PROOFS. The staging region and the end of a restart: settles O54. -/

namespace Sys2Proof.Machine

/-! ## What the complex starts again when it is ready (R341, R496, R523) -/

/-- `t` comes from `s` by what a ready complex starts again: neither the boot registers, the complex, the time nor the two sets change, no object of
classes 0x03 and 0x04 does, and records are only added. -/
structure State.StartsAgain (s t : State) : Prop where
  bar : t.bar = s.bar
  mc : t.mc = s.mc
  act : t.act = s.act
  shd : t.shd = s.shd
  tick : t.tick = s.tick
  running : t.running = s.running
  obj (k : Key) : k.c = 0x03 ∨ k.c = 0x04 → t.obj k = s.obj k
  changes : s.changes <+: t.changes

section
variable {s t u : State}

theorem State.StartsAgain.rfl : s.StartsAgain s :=
  ⟨Eq.refl _, Eq.refl _, Eq.refl _, Eq.refl _, Eq.refl _, Eq.refl _, fun _ _ => Eq.refl _, List.prefix_rfl⟩

theorem State.StartsAgain.trans (h : s.StartsAgain t) (g : t.StartsAgain u) : s.StartsAgain u :=
  ⟨g.bar.trans h.bar, g.mc.trans h.mc, g.act.trans h.act, g.shd.trans h.shd, g.tick.trans h.tick, g.running.trans h.running,
    fun k hk => (g.obj k hk).trans (h.obj k hk), h.changes.trans g.changes⟩

theorem State.foldl_startsAgain {α : Type} (f : State → α → State) (hf : ∀ (t : State) x, t.StartsAgain (f t x)) (l : List α) (s : State) :
    s.StartsAgain (l.foldl f s) := by
  induction l generalizing s with
  | nil => exact .rfl
  | cons x l ih => exact (hf s x).trans (ih _)

theorem State.setObj_startsAgain (s : State) (k : Key) (v : Nat) (h : ¬ (k.c = 0x03 ∨ k.c = 0x04)) : s.StartsAgain (s.setObj k v) :=
  ⟨Eq.refl _, Eq.refl _, Eq.refl _, Eq.refl _, Eq.refl _, Eq.refl _, fun _ hk => s.obj_setObj_ne v fun e => h (e ▸ hk), List.prefix_rfl⟩

theorem State.raise_startsAgain (s : State) (ev : EvRow) (xs : List Nat) : s.StartsAgain (s.raise ev xs) :=
  ⟨Eq.refl _, Eq.refl _, Eq.refl _, Eq.refl _, Eq.refl _, Eq.refl _, fun _ _ => Eq.refl _, List.prefix_append _ _⟩

theorem State.setLinkState_startsAgain (s : State) (e v : Nat) : s.StartsAgain (s.setLinkState e v) :=
  State.foldl_startsAgain _ (fun t _ => t.setObj_startsAgain _ _ (by simp)) _ s

theorem State.failKa_startsAgain (s : State) (e cause : Nat) : s.StartsAgain (s.failKa e cause) := by
  unfold State.failKa
  extract_lets t u v
  have ht : s.StartsAgain t := { StartsAgain.rfl with }
  have hu : t.StartsAgain u := (t.setLinkState_startsAgain e 3).trans (State.foldl_startsAgain _ (fun t _ => t.setObj_startsAgain _ _ (by simp)) _ _)
  have hv : u.StartsAgain v := by
    unfold v
    split
    · exact .rfl
    · exact { StartsAgain.rfl with }
  exact ((ht.trans hu).trans hv).trans (v.raise_startsAgain _ _)

theorem State.startKa_startsAgain (s : State) (e : Nat) : s.StartsAgain (s.startKa e) := by
  unfold State.startKa
  split
  · exact .rfl
  split
  · exact s.failKa_startsAgain e 3
  split
  · exact s.failKa_startsAgain e 1
  · extract_lets nonce t u
    have hu : s.StartsAgain u := { StartsAgain.rfl with }
    exact (hu.trans (u.setLinkState_startsAgain e 1)).trans { StartsAgain.rfl with }

theorem State.switchClock_startsAgain (s : State) (d : Nat) : s.StartsAgain (s.switchClock d) := by
  unfold State.switchClock
  split
  · exact (s.setObj_startsAgain _ 1 (by simp)).trans { StartsAgain.rfl with }
  · exact .rfl

end

/-! ## The staging region at READY (R525) -/

section
variable (s : State)

/-- The staging region reads all zero, and empty. -/
def State.stageErased (s : State) : Prop := (∀ w, s.obj (Obj.MC_FW_STAGE w) = 0) ∧ s.obj Obj.MC_FW_STAGE_STATE = 0

theorem State.eraseStage_erased : s.eraseStage.stageErased := by
  refine ⟨fun w => ?_, State.obj_setObj_same _ _ _⟩
  exact (State.obj_setObj_ne _ _ (by simp)).trans ((Map.get_filter_none _ _ _ fun v => by simp).trans rfl)

variable {s}

theorem State.stageErased.of_obj {t : State} (h : s.stageErased) (g : ∀ k, k.c = 0x03 → t.obj k = s.obj k) : t.stageErased :=
  ⟨fun w => (g _ rfl).trans (h.1 w), (g _ rfl).trans h.2⟩

theorem State.bootDone_erased (hbm : Bool) : (s.bootDone hbm).stageErased := by
  obtain ⟨-, -, -, -, -, -, -, hreg, -⟩ := s.initialised_spec hbm
  obtain ⟨late, hlatch, -⟩ := (s.initialised hbm).refreshPrism.deliverLatch_frame
  refine s.eraseStage_erased.of_obj fun k hk => ?_
  rw [State.bootDone_eq, hlatch]
  exact (State.obj_setObj_ne _ _ fun e => by rw [e] at hk; cases hk).trans (State.obj_eq hreg k)

/-! ## The end of a restart (R523, step 5) -/

/-- The complex reads READY, with the staging region empty and the pages of the region's store clean. -/
def State.readied (s : State) : State :=
  (s.eraseStage.setBoot 3 s.bar.bootCause 0).withStores fun y => { y with pages := y.pages.filter fun e => !decide (e.1.c = 7) }

/-- What waits for the complex starts again. -/
def State.startedAgain (s : State) : State :=
  rampOrder.foldl State.switchClock ([0, 1, 2, 3].foldl (fun (v : State) e => if (v.link e).again then v.startKa e else v) s)

theorem State.startedAgain_startsAgain : s.StartsAgain s.startedAgain :=
  (State.foldl_startsAgain _ (fun t e => by
    split
    · exact t.startKa_startsAgain e
    · exact .rfl) _ s).trans (State.foldl_startsAgain _ (fun t d => t.switchClock_startsAgain d) _ _)

/-- The end of the restart that `m` knows of is reported with its cause; that of a recovery has none. -/
def State.restartReported (s : State) (m : Mc) : State :=
  if m.restarting.isSome then s.raise Ev.MC_RESTART [s.obj Obj.MC_RESTART_CAUSE, s.obj Obj.SEC_FW_VERSION] else s

/-- An activation is reported with the version before it. -/
def State.activationReported (s : State) (m : Mc) : State :=
  match m.restarting, m.activating with
  | some 2, some old => s.raise Ev.FW_ACTIVATED [old, s.obj Obj.SEC_FW_VERSION]
  | _, _ => s

theorem State.restartReported_startsAgain (m : Mc) : s.StartsAgain (s.restartReported m) := by
  unfold State.restartReported
  split
  · exact s.raise_startsAgain _ _
  · exact .rfl

theorem State.activationReported_startsAgain (m : Mc) : s.StartsAgain (s.activationReported m) := by
  unfold State.activationReported
  split
  · exact s.raise_startsAgain _ _
  · exact .rfl

theorem State.finishRestart_eq : s.finishRestart = ((s.readied.startedAgain.restartReported s.mc).activationReported s.mc).withMc fun m =>
    { m with restarting := none, activating := none } := rfl

/-- What a complex is that has come to READY by a restart or a recovery. -/
structure State.Restarted (s t : State) : Prop where
  ready : t.bar.bootState = 3
  mc : t.mc = { s.mc with restarting := none, activating := none }
  act : t.act = s.act
  shd : t.shd = s.shd
  erased : t.stageErased
  kept (k : Key) : k.c = 0x03 ∨ k.c = 0x04 → k ≠ Obj.MC_FW_STAGE_STATE → ¬ (k.c = 0x03 ∧ k.m = 0x10) → t.obj k = s.obj k
  reported : s.mc.restarting.isSome = true →
    ⟨Ev.MC_RESTART.code, false, s.tick, contentOf Ev.MC_RESTART.widths [s.obj Obj.MC_RESTART_CAUSE, s.obj Obj.SEC_FW_VERSION]⟩ ∈ t.changes

theorem State.obj_readied {k : Key} (h : k ≠ Obj.MC_FW_STAGE_STATE) (hs : ¬ (k.c = 0x03 ∧ k.m = 0x10)) : s.readied.obj k = s.obj k :=
  (show s.readied.obj k = s.eraseStage.obj k from Eq.refl _).trans <| (State.obj_setObj_ne _ _ h).trans (Map.get_filter _ _ _ fun v => by simpa using not_and_or.mp hs)

theorem State.finishRestart_restarted : s.Restarted s.finishRestart := by
  have h1 : s.readied.StartsAgain s.readied.startedAgain := State.startedAgain_startsAgain
  have h2 : s.readied.startedAgain.StartsAgain (s.readied.startedAgain.restartReported s.mc) := State.restartReported_startsAgain s.mc
  have h3 := h2.trans (State.activationReported_startsAgain s.mc)
  have h := h1.trans h3
  rw [State.finishRestart_eq]
  refine ⟨congrArg Bar0.bootState h.bar, congrArg (fun m : Mc => { m with restarting := none, activating := none }) h.mc, h.act, h.shd,
    s.eraseStage_erased.of_obj fun k hk => h.obj k (.inl hk), fun k hk h1 h2 => (h.obj k hk).trans (State.obj_readied h1 h2), fun hsome => ?_⟩
  have hrep : s.readied.startedAgain.restartReported s.mc = s.readied.startedAgain.raise Ev.MC_RESTART
      [s.readied.startedAgain.obj Obj.MC_RESTART_CAUSE, s.readied.startedAgain.obj Obj.SEC_FW_VERSION] := if_pos hsome
  refine (State.activationReported_startsAgain s.mc).changes.subset ?_
  rw [hrep, h1.obj _ (.inr (Eq.refl _)), h1.obj _ (.inl (Eq.refl _)), State.obj_readied (by simp) (by simp), State.obj_readied (by simp) (by simp)]
  have htick : s.tick = s.readied.startedAgain.tick := h1.tick.symm
  rw [htick]
  exact List.mem_append_right _ (List.mem_singleton_self _)

/-- An image is entered, chunks are awaited, or the boot fails: loading does not come to READY by itself. -/
theorem State.bootState_loadSource (h : s.bar.bootState ≠ 3) : s.loadSource.bar.bootState ≠ 3 := by
  have slot (x : Option FwImage) : (match x with | some i => s.enterImage i | none => s).bar.bootState ≠ 3 := by
    cases x with
    | none => exact h
    | some i => rw [(s.enterImage_spec i).1]; decide
  by_cases hsrc : s.mc.source = 1
  · rw [State.loadSource_pcie hsrc]
    exact (by decide : (0 : Nat) ≠ 3)
  · rw [State.loadSource_flash hsrc]
    split
    · exact slot _
    split
    · exact slot _
    split
    · exact (by decide : (4 : Nat) ≠ 3)
    · exact (by decide : (0 : Nat) ≠ 3)

/-- An activation runs the staged image (R527). -/
def State.activated (s : State) : State :=
  match s.mc.restarting, s.mc.activating with
  | some 2, some _ => (s.measure 6 s.staged.digest).withMc fun m => { m with running := some s.staged }
  | _, _ => s

/-- An image that verifies again is measured, with the cause of the restart before it. -/
def State.remeasured (s : State) (x : FwImage) : State :=
  (s.measure 5 (Config.shake256 32 [⟨2, s.obj Obj.MC_RESTART_CAUSE⟩])).measureImage x

/-- Then it runs. -/
def State.entered (s : State) (x : FwImage) : State := ((s.remeasured x).runImage x).setBoot 2 s.bar.bootCause 0

theorem State.reverify_eq : s.reverify =
    match s.activated.mc.running with
    | some x => if s.activated.checkImage x = 0 then s.activated.entered x
      else (s.activated.withMc fun m => { m with activating := none }).loadSource
    | none => (s.activated.withMc fun m => { m with activating := none }).loadSource := rfl

theorem State.bar_activated : s.activated.bar = s.bar := by
  unfold State.activated
  split
  · exact (s.measure_frame 6 s.staged.digest).bar
  · rfl

theorem State.bootState_reverify (h : s.bar.bootState ≠ 3) : s.reverify.bar.bootState ≠ 3 := by
  have hload : (s.activated.withMc fun m => { m with activating := none }).loadSource.bar.bootState ≠ 3 :=
    State.bootState_loadSource (by rwa [State.bar_withMc, State.bar_activated])
  rw [State.reverify_eq]
  split
  · split
    · exact (by decide : (2 : Nat) ≠ 3)
    · exact hload
  · exact hload

end
/-! ## Writes of the staging region (R525) -/

section
variable {rq : Rq} {x : Sender} {s : State}

/-- One element of the region takes a value, and the region is WRITTEN. -/
def State.stageElement (s : State) (i v : Nat) : State := (s.setObj (Obj.MC_FW_STAGE i) v).setStageState 1 0

theorem dictFind_stage (i : Nat) : ∃ r, dictFind (Obj.MC_FW_STAGE i).c (Obj.MC_FW_STAGE i).i (Obj.MC_FW_STAGE i).m = some r ∧
    r.n = 32768 ∧ r.w = 64 ∧ r.acc = .rw ∧ r.mask = none ∧ r.chk = .any ∧ r.c = 0x03 := ⟨_, rfl, rfl, rfl, rfl, rfl, rfl, rfl⟩

theorem acceptWrite_stage (i : Nat) (v : Val) (s : State) : acceptWrite (Obj.MC_FW_STAGE i) v s = (.ok, s.stageElement i v.v) := rfl

theorem State.obj_stageElement_same (s : State) (i v : Nat) : (s.stageElement i v).obj (Obj.MC_FW_STAGE i) = v := by
  unfold State.stageElement State.setStageState
  simp

theorem State.obj_stageElement_state (s : State) (i v : Nat) : (s.stageElement i v).obj Obj.MC_FW_STAGE_STATE = 2 ^ 28 := by
  unfold State.stageElement State.setStageState
  simp

theorem State.obj_stageElement_ne (s : State) {i : Nat} (v : Nat) {k : Key} (h : k ≠ Obj.MC_FW_STAGE i) (hs : k ≠ Obj.MC_FW_STAGE_STATE) :
    (s.stageElement i v).obj k = s.obj k := by
  unfold State.stageElement State.setStageState
  simp [h, hs]

/-- Elements written one after another each keep what they took. -/
theorem acceptElements_stage (w k0 : Nat) (vs : List Nat) (first : Nat) (s : State) :
    ∃ t, acceptElements acceptWrite (Obj.MC_FW_STAGE k0) w first vs s = (.ok, t) ∧
      (∀ i, i < vs.length → t.obj (Obj.MC_FW_STAGE (first + i)) = vs.getD i 0) ∧ (∀ i, i < first → t.obj (Obj.MC_FW_STAGE i) = s.obj (Obj.MC_FW_STAGE i)) ∧
      (vs ≠ [] ∨ s.obj Obj.MC_FW_STAGE_STATE = 2 ^ 28 → t.obj Obj.MC_FW_STAGE_STATE = 2 ^ 28) ∧ s.sameButObjects t := by
  induction vs generalizing first s with
  | nil => exact ⟨s, rfl, fun i hi => absurd hi (Nat.not_lt_zero i), fun _ _ => rfl, fun h => h.resolve_left (fun h => h rfl), rfl⟩
  | cons v vs ih =>
    obtain ⟨t, ht, hval, hlow, hstate, hframe⟩ := ih (first + 1) (s.stageElement first v)
    refine ⟨t, ht, fun i hi => ?_, fun i hi => ?_, fun _ => hstate (.inr (s.obj_stageElement_state first v)), ?_⟩
    · cases i with
      | zero => exact (hlow first (Nat.lt_succ_self first)).trans (s.obj_stageElement_same first v)
      | succ i =>
        have hi' : i < vs.length := Nat.lt_of_succ_lt_succ hi
        have hshift : first + (i + 1) = first + 1 + i := by omega
        exact (congrArg (fun j => t.obj (Obj.MC_FW_STAGE j)) hshift).trans (hval i hi')
    · exact (hlow i (Nat.lt_succ_of_lt hi)).trans (s.obj_stageElement_ne v (by simp; omega) (by simp))
    · exact ((s.setObj_sameButObjects _ _).trans (State.setObj_sameButObjects _ _ _)).trans hframe

/-- A restart that comes to READY has erased the region. -/
theorem exec_warmRestartReady_erased {t : State} (hs : s.bar.bootState ≠ 3) (h : exec .warmRestartReady s = .next t) (ht : t.bar.bootState = 3) :
    t.stageErased := by
  change execWarmRestartReady s = _ at h
  unfold execWarmRestartReady at h
  split at h
  · cases h
    have hv : s.reverify.bar.bootState ≠ 3 := State.bootState_reverify hs
    by_cases h2 : s.reverify.bar.bootState = 2
    · rw [if_pos h2]
      exact State.finishRestart_restarted.erased
    · rw [if_neg h2] at ht
      exact absurd ht hv
  split at h
  · cases h
    exact State.finishRestart_restarted.erased
  · cases h
    exact absurd ht hs

/-- So has a boot. -/
theorem exec_bootReady_erased {t : State} {e : BootEnd} (hs : s.bar.bootState ≠ 3) (h : exec (.bootReady e) s = .next t) (ht : t.bar.bootState = 3) :
    t.stageErased := by
  by_cases hw : s.awaitsEnd
  · by_cases he : e.error = 0
    · rw [exec_bootReady_done hw he] at h
      cases h
      exact State.bootDone_erased e.hbm
    · rw [exec_bootReady_failed hw he] at h
      cases h
      rw [(State.failEnd_spec _ _ e).1] at ht
      cases ht
  · rw [exec_bootReady_elsewhere hw] at h
    cases h
    exact absurd ht hs

end

/-- Settles O54: a write stores its elements one by one, and READY comes, by a boot or by a restart, with the region erased. -/
theorem firmwareIsStaged : Obligations.FirmwareIsStaged := by
  intro s
  dsimp only
  refine ⟨?_, fun rq x obj index val v hk h => ?_, fun rq x obj first elements hk h hl h0 hn hb => ?_, fun c t hc hs ht ht3 => ?_⟩
  · obtain ⟨r, hr, hn, hw, -⟩ := dictFind_stage 0
    exact ⟨r, hr, hn, hw⟩
  · obtain ⟨r, hr, -, -, hacc, -⟩ := dictFind_stage index
    refine ⟨(s.served rq x).stageElement index v.v, exec_write_accepted (hk ▸ h) (hk ▸ hr) (by simp [hacc]) (hk ▸ acceptWrite_stage index v _),
      State.obj_stageElement_same _ _ _, State.obj_stageElement_state _ _ _, fun k h1 h2 => State.obj_stageElement_ne _ _ h1 h2,
      (State.setObj_sameButObjects _ _ _).trans (State.setObj_sameButObjects _ _ _)⟩
  · obtain ⟨r, hr, hrn, hrw, hacc, hmask, hchk, hrc⟩ := dictFind_stage first
    have hstored : elements.map (stored r) = elements := by
      refine (List.map_congr_left fun v _ => ?_).trans (List.map_id elements)
      simp [stored, hmask]
    obtain ⟨t, ht, hval, -, hstate, hframe⟩ := acceptElements_stage r.w first elements first (s.served rq x)
    have hwrite : (s.served rq x).tableWrite r (objKey obj first) (elements.map (stored r)) = (.ok, t) := by
      rw [hstored, hk]
      unfold State.tableWrite
      rw [if_neg (by simp [hacc]), if_neg (by simp)]
      simp only [ht]
    refine ⟨t, ?_, hval, hstate (.inl (List.ne_nil_of_length_pos h0)), hframe⟩
    rw [← hrw]
    refine exec_tableWrite_checked h (hk ▸ hr) ?_ hl (by rwa [hrw]) ?_ h0 (by rwa [hrn]) ?_ hwrite
    · simp [useAllowed, hacc, hrn]
    · simp [roleFits, hacc, hrc]
      exact h.role
    · simp [valueFits, hacc, hchk]
  · rcases hc with rfl | ⟨e, rfl⟩
    · exact exec_warmRestartReady_erased hs ht ht3
    · exact exec_bootReady_erased hs ht ht3
end Sys2Proof.Machine
end

section
/-! PROOFS. Warm restarts of the management complex: settles O59. -/

namespace Sys2Proof.Machine

/-! ## How a restart is asked for (R521, R522, R539) -/

section
variable {s : State}

theorem State.askRestart_eq (s : State) (cause : Nat) :
    s.askRestart cause = { s with mc := { s.mc with restart := some (s.mc.restart.getD cause) } } := by
  unfold State.askRestart State.withMc
  cases h : s.mc.restart <;> simp only [h, Option.getD_some, Option.getD_none]

theorem acceptMc_restart (v : Val) (s : State) : acceptMc Obj.MC_RESTART v s = (.ok, s.askRestart 1) := rfl

/-! ## The beginning of a restart (R523, steps 1 and 2) -/

/-- `t` comes from `s` by what a restart ends or discards: the time, the two sets and the starts stay, and no object of class 0x04 changes. -/
structure State.Discards (s t : State) : Prop where
  act : t.act = s.act
  shd : t.shd = s.shd
  now : t.now = s.now
  tick : t.tick = s.tick
  running : t.running = s.running
  starts : t.mc.starts = s.mc.starts
  load : s.load = none → t.load = none
  resyncs : s.resyncs = [] → t.resyncs = []
  obj (k : Key) : k.c = 0x04 → t.obj k = s.obj k

section
variable {t u : State}

theorem State.Discards.rfl : s.Discards s :=
  ⟨Eq.refl _, Eq.refl _, Eq.refl _, Eq.refl _, Eq.refl _, Eq.refl _, id, id, fun _ _ => Eq.refl _⟩

theorem State.Discards.trans (h : s.Discards t) (g : t.Discards u) : s.Discards u :=
  ⟨g.act.trans h.act, g.shd.trans h.shd, g.now.trans h.now, g.tick.trans h.tick, g.running.trans h.running, g.starts.trans h.starts,
    fun x => g.load (h.load x), fun x => g.resyncs (h.resyncs x), fun k hk => (g.obj k hk).trans (h.obj k hk)⟩

theorem State.foldl_discards {α : Type} (f : State → α → State) (hf : ∀ (t : State) x, t.Discards (f t x)) (l : List α) (s : State) :
    s.Discards (l.foldl f s) := by
  induction l generalizing s with
  | nil => exact .rfl
  | cons x l ih => exact (hf s x).trans (ih _)

theorem State.deliver_discards (s : State) (rq : Rq) (op : Nat) (st : Status) (payload : List Fld) : s.Discards (s.deliver rq op st payload) := by
  have h := (s.deliver_frame rq op st payload).1
  have hobj := s.obj_deliver rq op st payload
  generalize s.deliver rq op st payload = t at h hobj
  rw [h] at hobj ⊢
  exact ⟨Eq.refl _, Eq.refl _, Eq.refl _, Eq.refl _, Eq.refl _, Eq.refl _, id, id,
    fun k hk => (hobj k).trans (s.obj_bump_ne _ fun e => by rw [e] at hk; cases hk)⟩

theorem State.setObj_discards (s : State) (k : Key) (v : Nat) (h : k.c ≠ 0x04) : s.Discards (s.setObj k v) :=
  ⟨Eq.refl _, Eq.refl _, Eq.refl _, Eq.refl _, Eq.refl _, Eq.refl _, id, id, fun _ hk => s.obj_setObj_ne v fun e => h (e ▸ hk)⟩

theorem State.withDom_discards (s : State) (d : Nat) (f : DomRun → DomRun) : s.Discards (s.withDom d f) := { Discards.rfl with }

theorem State.withPower_discards (s : State) (f : Power → Power) : s.Discards (s.withPower f) := { Discards.rfl with }

/-- The answers that wait are given, and no resynchronisation is left. -/
theorem State.refuseOwed_discards (s : State) : ({ s with resyncs := [] } : State).Discards s.refuseOwed := by
  unfold State.refuseOwed
  extract_lets t u
  have hu : t.Discards u := State.foldl_discards _ (fun v d => by
    split
    · exact (v.withDom_discards d _).trans (State.deliver_discards _ _ _ _ _)
    · exact .rfl) _ t
  have h : ({ s with resyncs := [] } : State).Discards u := (State.foldl_discards _ (fun v r => v.deliver_discards _ _ _ _) _ _).trans hu
  split
  · exact h.trans ((u.withPower_discards _).trans (State.deliver_discards _ _ _ _ _))
  · exact h

theorem State.discardStaged_discards (s : State) : s.Discards s.discardStaged := by
  unfold State.discardStaged
  extract_lets cals
  have h : s.Discards cals := State.foldl_discards _ (fun t e => by
    split
    · exact { Discards.rfl with }
    · exact .rfl) _ s
  exact h.trans { Discards.rfl with load := fun _ => Eq.refl _ }

theorem State.discardStaged_load (s : State) : s.discardStaged.load = none := Eq.refl _
theorem State.abandonAgreements_discards (s : State) : s.Discards s.abandonAgreements := by
  unfold State.abandonAgreements
  refine State.foldl_discards _ (fun t e => ?_) _ s
  split
  · exact { Discards.rfl with }
  · exact .rfl

theorem State.endProgram_discards (s : State) : s.Discards s.endProgram := by
  unfold State.endProgram
  split
  · refine (s.setObj_discards Obj.MC_FW_PROGRAM_STATE 4 (by simp)).trans { Discards.rfl with starts := ?_ }
    unfold State.setSlot State.withMc
    split <;> exact Eq.refl _
  · exact .rfl

/-- What ends and what is discarded as a restart begins. -/
def State.halted (s : State) : State := s.refuseOwed.discardStaged.abandonAgreements.endProgram

theorem State.halted_discards (s : State) : ({ s with resyncs := [] } : State).Discards s.halted :=
  ((s.refuseOwed_discards.trans (State.discardStaged_discards _)).trans (State.abandonAgreements_discards _)).trans (State.endProgram_discards _)

theorem State.halted_load (s : State) : s.halted.load = none :=
  ((State.abandonAgreements_discards _).trans (State.endProgram_discards _)).load (State.discardStaged_load _)

/-- The record of a restart: cause, count and tick. -/
def State.restartRecorded (s : State) (cause tick : Nat) : State :=
  ((((s.setBoot 5 (if cause ≤ 2 then 5 else 4) 0).setObj Obj.MC_RESTART_CAUSE cause).bump Obj.MC_RESTART_COUNT).setObj Obj.MC_LAST_RESTART_TICK tick)

/-- A preparation of fault injection, and a report that is being made, end. -/
def State.preparationsEnded (s : State) : State :=
  let v := if s.obj Obj.FI_STATE = 1 then (s.setObj Obj.FI_STATE 0).withInject fun x => { x with prepared := none } else s
  if v.obj Obj.SEC_ATTEST_STATE = 1 then v.setObj Obj.SEC_ATTEST_STATE 0 else v

theorem State.beginRestart_eq (s : State) (cause : Nat) (bursts : List Burst) : s.beginRestart cause bursts =
    ((s.halted.restartRecorded cause s.tick).preparationsEnded.truncate restartMasters bursts).withMc fun m => { m with
      restart := none, restarting := some cause, starts := (s.now :: m.starts).take 3, remap := false, nonce := none, dma := [] } := by
  unfold State.beginRestart State.preparationsEnded State.restartRecorded State.halted
  exact Eq.refl _

/-- `t` comes from `s` by work on objects, records, injection or the matrix: the boot registers, the two sets and the starts stay. -/
structure State.KeepsSets (s t : State) : Prop where
  bar : t.bar = s.bar
  act : t.act = s.act
  shd : t.shd = s.shd
  running : t.running = s.running
  starts : t.mc.starts = s.mc.starts
  load : t.load = s.load
  resyncs : t.resyncs = s.resyncs

theorem State.KeepsSets.rfl {s : State} : s.KeepsSets s :=
  ⟨Eq.refl _, Eq.refl _, Eq.refl _, Eq.refl _, Eq.refl _, Eq.refl _, Eq.refl _⟩

theorem State.KeepsSets.trans {s t u : State} (h : s.KeepsSets t) (g : t.KeepsSets u) : s.KeepsSets u :=
  ⟨g.bar.trans h.bar, g.act.trans h.act, g.shd.trans h.shd, g.running.trans h.running, g.starts.trans h.starts, g.load.trans h.load,
    g.resyncs.trans h.resyncs⟩

theorem State.setObj_keepsSets (s : State) (k : Key) (v : Nat) : s.KeepsSets (s.setObj k v) := { KeepsSets.rfl with }

theorem State.preparationsEnded_spec (s : State) :
    s.KeepsSets s.preparationsEnded ∧ s.preparationsEnded.obj Obj.FI_STATE ≠ 1 ∧
    ∀ k, k ≠ Obj.FI_STATE → k ≠ Obj.SEC_ATTEST_STATE → s.preparationsEnded.obj k = s.obj k := by
  unfold State.preparationsEnded
  extract_lets v
  have hv : s.KeepsSets v ∧ v.obj Obj.FI_STATE ≠ 1 ∧ ∀ k, k ≠ Obj.FI_STATE → v.obj k = s.obj k := by
    unfold v
    split
    · exact ⟨(s.setObj_keepsSets Obj.FI_STATE 0).trans { KeepsSets.rfl with }, by simp, fun k hk => by simp [hk]⟩
    next h => exact ⟨.rfl, h, fun _ _ => Eq.refl _⟩
  obtain ⟨hframe, hfi, hobj⟩ := hv
  split
  · exact ⟨hframe.trans (v.setObj_keepsSets _ _), by simpa using hfi, fun k h1 h2 => (v.obj_setObj_ne _ h2).trans (hobj k h1)⟩
  · exact ⟨hframe, hfi, fun k h1 _ => hobj k h1⟩

/-- A burst that is cut short is counted and reported. -/
def State.burstCut (s : State) (b : Burst) : State := (s.bump Obj.MC_BUS_TRUNC).raise Ev.BUS_TRUNC [b.master, b.target, b.beats]

theorem State.burstCut_keepsSets (s : State) (b : Burst) : s.KeepsSets (s.burstCut b) := { KeepsSets.rfl with }

theorem State.burstsCut_spec (l : List Burst) (s : State) :
    s.KeepsSets (l.foldl State.burstCut s) ∧ ∀ k, k ≠ Obj.MC_BUS_TRUNC → (l.foldl State.burstCut s).obj k = s.obj k := by
  induction l generalizing s with
  | nil => exact ⟨.rfl, fun _ _ => Eq.refl _⟩
  | cons b l ih =>
    obtain ⟨hf, ho⟩ := ih (s.burstCut b)
    exact ⟨(s.burstCut_keepsSets b).trans hf, fun k hk => (ho k hk).trans (s.obj_bump_ne _ hk)⟩

theorem State.truncate_spec (s : State) (masters : List Nat) (bursts : List Burst) :
    s.KeepsSets (s.truncate masters bursts) ∧ ∀ k, k ≠ Obj.MC_BUS_TRUNC → (s.truncate masters bursts).obj k = s.obj k := by
  obtain ⟨hkeeps, hobj⟩ := State.burstsCut_spec (bursts.filter fun b => masters.contains b.master) s
  exact ⟨hkeeps.trans { KeepsSets.rfl with }, hobj⟩

theorem State.restartRecorded_spec (s : State) (cause tick : Nat) :
    let t := s.restartRecorded cause tick
    t.bar.bootState = 5 ∧ t.obj Obj.MC_RESTART_CAUSE = cause ∧
    t.obj Obj.MC_RESTART_COUNT = u64 (s.obj Obj.MC_RESTART_COUNT + 1) ∧ t.obj Obj.MC_LAST_RESTART_TICK = tick := by
  unfold State.restartRecorded
  exact ⟨Eq.refl _, by simp, by simp [State.setBoot], by simp⟩

/-- The record is made in the objects and the boot registers. -/
theorem State.restartRecorded_keeps (s : State) (cause tick : Nat) :
    let t := s.restartRecorded cause tick
    t.mc = s.mc ∧ t.act = s.act ∧ t.shd = s.shd ∧ t.running = s.running ∧ t.load = s.load ∧ t.resyncs = s.resyncs := by
  unfold State.restartRecorded
  simp

theorem State.beginRestart_spec (s : State) (cause : Nat) (bursts : List Burst) :
    let t := s.beginRestart cause bursts
    t.bar.bootState = 5 ∧ t.obj Obj.MC_RESTART_CAUSE = cause ∧ t.obj Obj.MC_RESTART_COUNT = u64 (s.obj Obj.MC_RESTART_COUNT + 1) ∧
    t.obj Obj.MC_LAST_RESTART_TICK = s.tick ∧ t.mc.restarting = some cause ∧ t.mc.restart = none ∧ t.mc.starts = (s.now :: s.mc.starts).take 3 ∧
    t.act = s.act ∧ t.shd = s.shd ∧ t.running = s.running ∧ t.load = none ∧ t.resyncs = [] ∧ t.obj Obj.FI_STATE ≠ 1 := by
  have hh := s.halted_discards
  have hload := s.halted_load
  have hcount : s.halted.obj Obj.MC_RESTART_COUNT = s.obj Obj.MC_RESTART_COUNT := hh.obj _ (Eq.refl _)
  rw [s.beginRestart_eq cause bursts]
  generalize s.halted = u at hh hload hcount ⊢
  obtain ⟨rboot, rcause, rcount, rlast⟩ := u.restartRecorded_spec cause s.tick
  obtain ⟨rmc, ract, rshd, rrunning, rload, rresyncs⟩ := u.restartRecorded_keeps cause s.tick
  generalize u.restartRecorded cause s.tick = r at rboot rcause rcount rlast rmc ract rshd rrunning rload rresyncs ⊢
  have rstarts : r.mc.starts = u.mc.starts := congrArg Mc.starts rmc
  obtain ⟨pkeeps, pfi, pobj⟩ := r.preparationsEnded_spec
  obtain ⟨tkeeps, tobj⟩ := r.preparationsEnded.truncate_spec restartMasters bursts
  have hkeeps := pkeeps.trans tkeeps
  have hobj {k : Key} (h1 : k ≠ Obj.MC_BUS_TRUNC) (h2 : k ≠ Obj.FI_STATE) (h3 : k ≠ Obj.SEC_ATTEST_STATE) :=
    (tobj k h1).trans (pobj k h2 h3)
  have hfi := (tobj Obj.FI_STATE (by simp)).trans_ne pfi
  generalize r.preparationsEnded.truncate restartMasters bursts = t at hkeeps hobj hfi ⊢
  refine ⟨(congrArg Bar0.bootState hkeeps.bar).trans rboot, (hobj (by simp) (by simp) (by simp)).trans rcause,
    (hobj (by simp) (by simp) (by simp)).trans (rcount.trans (by rw [hcount])), (hobj (by simp) (by simp) (by simp)).trans rlast, Eq.refl _, Eq.refl _,
    ?_, hkeeps.act.trans (ract.trans hh.act), hkeeps.shd.trans (rshd.trans hh.shd), hkeeps.running.trans (rrunning.trans hh.running),
    hkeeps.load.trans (rload.trans hload), hkeeps.resyncs.trans (rresyncs.trans (hh.resyncs (Eq.refl _))), hfi⟩
  exact congrArg (fun l => (s.now :: l).take 3) (hkeeps.starts.trans (rstarts.trans hh.starts))

end
end

/-! ## The end of a restart whose image verifies (R523, steps 3 to 5) -/

section
variable {s : State} {i : FwImage}

/-- A restart that is no activation verifies the resident image again, and enters it. -/
theorem State.reverify_resident (ha : ¬ (s.mc.restarting = some 2 ∧ s.mc.activating.isSome = true)) (hi : s.mc.running = some i)
    (hok : i.check (s.obj Obj.SEC_OWNER_KEY_DIGEST) (s.obj Obj.SEC_OTP_SV) = 0) : s.reverify = s.entered i := by
  have hact : s.activated = s := by
    unfold State.activated
    split
    next h1 h2 => exact absurd ⟨h1, by rw [h2]; rfl⟩ ha
    · rfl
  have hcheck : s.checkImage i = 0 := hok
  rw [State.reverify_eq, hact, hi]
  exact if_pos hcheck

theorem State.obj_measureImage (s : State) (x : FwImage) {k : Key} (hc : k ≠ Obj.ONION_CHAIN) (hn : k ≠ Obj.ONION_COUNT)
    (hl : ∀ x, k ≠ Obj.ONION_LOG x) : (s.measureImage x).obj k = s.obj k := by
  unfold State.measureImage
  extract_lets t
  have ht : t.obj k = s.obj k := s.obj_measure 3 x.digest hc hn hl
  split
  · exact (t.obj_measure 4 x.ownerDigest hc hn hl).trans ht
  · exact ht

theorem State.entered_spec (s : State) (i : FwImage) :
    let t := s.entered i
    t = { s with reg := t.reg, mc := t.mc, bar := t.bar } ∧ t.bar.bootState = 2 ∧
    t.mc = { s.mc with running := some i, remap := true, loading := false } ∧ t.obj Obj.SEC_FW_VERSION = i.version ∧
    t.obj Obj.MC_RESTART_CAUSE = s.obj Obj.MC_RESTART_CAUSE := by
  have hm : s.sameButObjects (s.remeasured i) := (s.measure_frame _ _).trans (State.measureImage_frame _ _)
  have hcause : (s.remeasured i).obj Obj.MC_RESTART_CAUSE = s.obj Obj.MC_RESTART_CAUSE :=
    (State.obj_measureImage _ _ (by simp) (by simp) (by simp)).trans (s.obj_measure _ _ (by simp) (by simp) (by simp))
  have hcausing : s.bar.bootCause = (s.remeasured i).bar.bootCause := congrArg Bar0.bootCause hm.bar.symm
  have hwork := (hm.bootWork.trans ((s.remeasured i).runImage_work i)).trans (State.setBoot_work ((s.remeasured i).runImage i) 2 0)
  unfold State.entered
  rw [hcausing]
  generalize s.remeasured i = m at hcause hwork
  refine ⟨hwork.frame, rfl, hwork.latched, (m.runImage_spec i).2.2.2, Eq.trans ?_ hcause⟩
  simp [State.setBoot, State.irq, State.runImage]

end

/-- Settles O59: what asks for a restart through `askRestart_eq`, its beginning by `beginRestart_spec`, its end by `finishRestart_restarted`. -/
theorem theComplexRestarts : Obligations.TheComplexRestarts := by
  intro s
  dsimp only
  refine ⟨fun pair => ?_, fun pair ms => ⟨fun hb hms => ?_, fun hb hms => ?_, fun hb ha hms => ?_⟩, fun rq x val v h => ?_, fun bursts hnone => ?_,
    fun bursts cause hsome => ⟨fun hrec => ?_, fun hrec => ?_⟩, fun h5 => ⟨fun hno => ?_, fun hb hr hi hm => ?_⟩, fun cause i hb hres hc hnone hrun hok => ?_⟩
  · refine ⟨_, rfl, ?_⟩
    split
    next h =>
      rw [State.askRestart_eq]
      exact ⟨by simp, rfl, rfl, fun k hk => s.obj_bump_ne 1 hk, rfl⟩
    next h => exact ⟨by simp, rfl, rfl, fun k hk => s.obj_bump_ne 1 hk, rfl⟩
  · rw [← State.askRestart_eq]
    exact if_pos ⟨hb, hms⟩
  · exact (if_neg (by omega)).trans (if_neg (by omega))
  · refine (if_neg (by omega)).trans ((if_pos ⟨hb, ha, hms⟩).trans ?_)
    rw [State.askRestart_eq]
    rfl
  · have hu := serveWrite_accepted h acceptMc (acceptMc_restart v (s.served rq x))
    rw [State.askRestart_eq, State.mc_served] at hu
    exact congrArg Host.Outcome.next hu
  · change execWarmRestart bursts s = _
    unfold execWarmRestart
    rw [hnone]
  · refine ⟨(s.setBoot 4 s.bar.bootCause 14).withMc fun m => { m with restart := none, restarting := none, activating := none, remap := false }, ?_,
      rfl, rfl, rfl, rfl⟩
    change execWarmRestart bursts s = _
    unfold execWarmRestart
    rw [hsome]
    exact if_pos hrec
  · refine ⟨s.beginRestart cause bursts, ?_, s.beginRestart_spec cause bursts⟩
    change execWarmRestart bursts s = _
    unfold execWarmRestart
    rw [hsome]
    exact if_neg (Nat.not_le.mpr hrec)
  · refine (if_neg ?_).trans (if_neg ?_)
    · rintro ⟨h1, h2, h3⟩
      rcases h5 with h | h | h
      · exact h h1
      · simp [h] at h2
      · simp [h3] at h
    · rintro ⟨h1, h2, h3, h4⟩
      rcases hno with h | h | h | h
      · exact h h1
      · simp [h] at h2
      · simp [h] at h3
      · simp [h] at h4
  · have ht := State.finishRestart_restarted (s := s)
    exact ⟨_, (if_neg (by omega)).trans (if_pos ⟨hb, hr, hi, hm⟩), ht.ready, by rw [ht.mc], ht.erased.2, ht.act, ht.shd⟩
  · obtain ⟨eframe, eboot, emc, eversion, ecause⟩ := s.entered_spec i
    have hrev : s.reverify = s.entered i := State.reverify_resident (fun h => hc (Option.some.inj (hres.symm.trans h.1))) hrun hok
    have ht := State.finishRestart_restarted (s := s.entered i)
    have hexec : exec .warmRestartReady s = .next (s.entered i).finishRestart := by
      refine (if_pos ⟨hb, by rw [hres]; rfl, hnone⟩).trans ?_
      rw [hrev]
      exact congrArg Host.Outcome.next (if_pos eboot)
    have hrep := ht.reported (by rw [emc, hres]; rfl)
    have eact : (s.entered i).act = s.act := by rw [eframe]
    have eshd : (s.entered i).shd = s.shd := by rw [eframe]
    have etick : (s.entered i).tick = s.tick := by rw [eframe]
    rw [ecause, eversion, etick] at hrep
    exact ⟨_, hexec, ht.ready, by rw [ht.mc], by rw [ht.mc, emc], by rw [ht.mc, emc], ((ht.kept Obj.SEC_FW_VERSION (.inl rfl) (by simp) (by simp)).trans eversion), ht.erased.2,
      ht.act.trans eact, ht.shd.trans eshd, hrep⟩
end Sys2Proof.Machine
end

section
/-! PROOFS. Security services and firmware upgrade: settles O58. -/

namespace Sys2Proof.Machine

/-! ## OTP (R516, R517) -/

section
variable {s : State}

/-- A measurement is counted. -/
theorem State.obj_measure_count (s : State) (type digest : Nat) : (s.measure type digest).obj Obj.ONION_COUNT = s.obj Obj.ONION_COUNT + 1 := by
  unfold State.measure
  extract_lets n chain t
  have ht : t.obj Obj.ONION_COUNT = s.obj Obj.ONION_COUNT + 1 := State.obj_setObj_same _ _ _
  split
  · exact (t.obj_setObj_ne _ (by simp)).trans ht
  · exact (t.obj_setObj_ne _ (by simp)).trans ht

/-- A fuse that is complete is reported with the security version, and measured. -/
theorem State.otpDone_spec (s : State) :
    s.otpDone.changes = s.changes ++ [⟨Ev.OTP.code, false, s.tick, contentOf Ev.OTP.widths [s.obj Obj.SEC_OTP_SV]⟩] ∧
    s.otpDone.obj Obj.ONION_COUNT = s.obj Obj.ONION_COUNT + 1 ∧
    ∀ k, k ≠ Obj.ONION_CHAIN → k ≠ Obj.ONION_COUNT → (∀ x, k ≠ Obj.ONION_LOG x) → s.otpDone.obj k = s.obj k := by
  unfold State.otpDone
  refine ⟨?_, State.obj_measure_count _ _ _, fun k h1 h2 h3 => State.obj_measure _ _ _ h1 h2 h3⟩
  rw [State.measure_frame _ 7 s.otpDigest]
  rfl

/-- The fuses that an SV commit burns, of those that it asks for. -/
def State.svBurned (s : State) (burned : Nat) : Nat := min (min (s.obj Obj.SEC_FW_SV) 128) (s.obj Obj.SEC_OTP_SV + burned)

/-- When the security version may be raised (R516). -/
def State.mayCommit (s : State) : Prop := s.obj Obj.SEC_OTP_SV < s.obj Obj.SEC_FW_SV ∧ s.obj Obj.PWR_WARN_ACTIVE = 0 ∧ s.mc.activating = none

theorem acceptSvCommit_refused {burned : Nat} {k : Key} {v : Val} (h : ¬ s.mayCommit) : acceptSvCommit burned k v s = (.precond, s) := by
  refine if_pos ?_
  unfold State.mayCommit at h
  cases ha : s.mc.activating
  · rw [ha] at h
    simp only [and_true, not_and] at h
    by_cases hlt : s.obj Obj.SEC_OTP_SV < s.obj Obj.SEC_FW_SV
    · exact .inr (.inl (h hlt))
    · exact .inl (Nat.not_lt.mp hlt)
  · exact .inr (.inr rfl)

theorem acceptSvCommit_burns {burned : Nat} {k : Key} {v : Val} (h : s.mayCommit) : ∃ t, acceptSvCommit burned k v s = (.ok, t) ∧
    t.obj Obj.SEC_OTP_SV = s.svBurned burned ∧
    t.changes = s.changes ++ (if min (s.obj Obj.SEC_FW_SV) 128 ≤ s.obj Obj.SEC_OTP_SV + burned
      then [⟨Ev.OTP.code, false, s.tick, contentOf Ev.OTP.widths [s.svBurned burned]⟩] else []) ∧
    (min (s.obj Obj.SEC_FW_SV) 128 ≤ s.obj Obj.SEC_OTP_SV + burned → t.obj Obj.ONION_COUNT = s.obj Obj.ONION_COUNT + 1) := by
  obtain ⟨hlt, hwarn, hact⟩ := h
  let u := s.setObj Obj.SEC_OTP_SV (s.svBurned burned)
  have hu : u.obj Obj.SEC_OTP_SV = s.svBurned burned := s.obj_setObj_same _ _
  obtain ⟨hev, hcount, hobj⟩ := u.otpDone_spec
  refine ⟨_, if_neg (by simp [Nat.not_le.mpr hlt, hwarn, hact]), ?_⟩
  split
  next hdone =>
    refine ⟨(hobj _ (by simp) (by simp) (by simp)).trans hu, ?_, fun _ => hcount.trans (congrArg (· + 1) (s.obj_setObj_ne _ (by simp)))⟩
    exact hev.trans (by rw [hu]; rfl)
  next hpart => exact ⟨hu, (List.append_nil _).symm, fun h => absurd h hpart⟩

/-- When the owner fuse may be blown (R517): to the digest of the owner block of the running image. -/
def State.mayOwn (s : State) (digest : Nat) : Prop :=
  s.obj Obj.SEC_OWNER_KEY_DIGEST = 0 ∧ s.obj Obj.PWR_WARN_ACTIVE = 0 ∧ ∃ i, s.mc.running = some i ∧ i.ownerBlock = true ∧ i.ownerDigest = digest

theorem acceptOwnerFuse_refused {k : Key} {v : Val} (h : ¬ s.mayOwn v.v) : acceptOwnerFuse k v s = (.precond, s) := by
  unfold acceptOwnerFuse
  refine if_pos ?_
  by_contra hno
  obtain ⟨hdigest, howned, hwarn⟩ := by simpa only [not_or, not_not] using hno
  cases hr : s.mc.running with
  | none => simp [hr] at howned
  | some i =>
    simp only [hr, Bool.not_eq_false, Bool.and_eq_true, decide_eq_true_eq] at howned
    exact h ⟨hdigest, hwarn, i, hr, howned⟩

theorem acceptOwnerFuse_blows {k : Key} {v : Val} (h : s.mayOwn v.v) : ∃ t, acceptOwnerFuse k v s = (.ok, t) ∧
    t.obj Obj.SEC_OWNER_KEY_DIGEST = v.v ∧
    t.changes = s.changes ++ [⟨Ev.OTP.code, false, s.tick, contentOf Ev.OTP.widths [s.obj Obj.SEC_OTP_SV]⟩] ∧
    t.obj Obj.ONION_COUNT = s.obj Obj.ONION_COUNT + 1 := by
  obtain ⟨hdigest, hwarn, i, hr, hblock, hown⟩ := h
  let u := s.setObj Obj.SEC_OWNER_KEY_DIGEST v.v
  obtain ⟨hev, hcount, hobj⟩ := u.otpDone_spec
  refine ⟨u.otpDone, ?_, (hobj _ (by simp) (by simp) (by simp)).trans (s.obj_setObj_same _ _), hev.trans ?_,
    hcount.trans (congrArg (· + 1) (s.obj_setObj_ne _ (by simp)))⟩
  · unfold acceptOwnerFuse
    exact if_neg (by simp [hdigest, hwarn, hr, hblock, hown])
  · rw [show u.obj Obj.SEC_OTP_SV = s.obj Obj.SEC_OTP_SV from s.obj_setObj_ne _ (by simp)]
    rfl

/-! ## Upgrade (R525 to R527) -/

variable {rq : Rq} {x : Sender}

theorem State.stagedImage_served (s : State) (rq : Rq) (x : Sender) (len : Nat) : (s.served rq x).stagedImage len = s.stagedImage len := by
  unfold State.stagedImage
  simp only [State.obj_served_ne s rq x (k := Obj.MC_FW_STAGE _) (by simp)]

theorem State.staged_served (s : State) (rq : Rq) (x : Sender) : (s.served rq x).staged = s.staged := by
  unfold State.staged
  rw [s.stagedImage_served rq x, s.stagedImage_served rq x]

/-- A slot takes an image, or loses it; the other stays. -/
theorem State.setSlot_spec (s : State) (slot : Nat) (i : Option FwImage) :
    let m := (s.setSlot slot i).mc
    (if slot = 1 then m.slotA else m.slotB) = i ∧ (if slot = 1 then m.slotB = s.mc.slotB else m.slotA = s.mc.slotA) ∧
    m.programming = s.mc.programming := by
  unfold State.setSlot State.withMc
  by_cases h : slot = 1 <;> simp [h]

theorem State.program_idle {slot : Nat} (h3 : s.stageState = 3) (hp : s.mc.programming = none) : s.program slot =
    (.ok, ((s.setObj Obj.MC_FW_PROGRAM_STATE 1).setSlot slot none).withMc fun m => { m with programming := some (slot, s.staged) }) :=
  (if_neg (not_not.mpr h3)).trans (if_neg (by simp [hp]))

/-- What a check of the staged image comes to: VERIFIED, or REFUSED with the code. -/
def State.checkOutcome (s : State) : Nat := if s.checkImage s.staged = 0 then 3 else 4

theorem exec_fwCheckDone_checks (h : s.stageState = 2) : exec .fwCheckDone s =
    .next ((s.setStageState s.checkOutcome (s.checkImage s.staged)).raise Ev.FW_CHECK [s.checkOutcome, s.checkImage s.staged]) := by
  change execFwCheckDone s = _
  unfold execFwCheckDone
  rw [if_neg (not_not.mpr h)]
  rfl

theorem State.raise_setObj (s : State) (k : Key) (v : Nat) (ev : EvRow) (xs : List Nat) : (s.setObj k v).raise ev xs =
    { s.setObj k v with changes := s.changes ++ [⟨ev.code, false, s.tick, contentOf ev.widths xs⟩] } := rfl

theorem State.checkReported_eq (s : State) (outcome code : Nat) : (s.setStageState outcome code).raise Ev.FW_CHECK [outcome, code] =
    { s.setObj Obj.MC_FW_STAGE_STATE (outcome * 2 ^ 28 + code) with changes := s.changes ++
      [⟨Ev.FW_CHECK.code, false, s.tick, contentOf Ev.FW_CHECK.widths [outcome, code]⟩] } := by
  unfold State.setStageState
  exact s.raise_setObj _ _ _ _

theorem acceptSecurity_check (v : Val) (s : State) : acceptSecurity 0 Obj.MC_FW_CHECK v s =
    if s.stageState = 0 then (.precond, s) else if s.stageState = 2 then (.busy, s) else (.ok, s.setStageState 2 0) := rfl

theorem acceptSecurity_activate (v : Val) (s : State) : acceptSecurity 0 Obj.MC_FW_ACTIVATE v s =
    if s.stageState ≠ 3 then (.precond, s) else if s.mc.programming.isSome then (.busy, s)
    else (.ok, (s.askRestart 2).withMc fun m => { m with activating := some (s.obj Obj.SEC_FW_VERSION) }) := rfl

theorem acceptSecurity_nonce (v : Val) (s : State) : acceptSecurity 0 Obj.SEC_ATTEST_NONCE v s =
    (.ok, (s.setObj Obj.SEC_ATTEST_STATE 1).withMc fun m => { m with nonce := some v.v }) := rfl

theorem acceptSecurity_svCommit (burned : Nat) (v : Val) (s : State) :
    acceptSecurity burned Obj.SEC_SV_COMMIT v s = acceptSvCommit burned Obj.SEC_SV_COMMIT v s := rfl

theorem acceptSecurity_ownerFuse (v : Val) (s : State) :
    acceptSecurity 0 Obj.SEC_OWNER_FUSE v s = acceptOwnerFuse Obj.SEC_OWNER_FUSE v s := rfl

/-! ## The same of a request that is served -/

theorem State.obj_served' (s : State) (rq : Rq) (x : Sender) {k : Key} (h : k.c ≠ 0x60) : (s.served rq x).obj k = s.obj k :=
  s.obj_served_ne rq x fun e => h (congrArg Key.c e)

theorem State.mayCommit_served : (s.served rq x).mayCommit ↔ s.mayCommit := by
  unfold State.mayCommit
  rw [s.obj_served' rq x (by simp), s.obj_served' rq x (by simp), s.obj_served' rq x (by simp), State.mc_served]

theorem State.mayOwn_served (d : Nat) : (s.served rq x).mayOwn d ↔ s.mayOwn d := by
  unfold State.mayOwn
  rw [s.obj_served' rq x (by simp), s.obj_served' rq x (by simp), State.mc_served]

theorem State.stageState_served : (s.served rq x).stageState = s.stageState := by
  unfold State.stageState
  rw [s.obj_served' rq x (by simp)]

end

/-- Settles O58: each write by what `acceptSecurity` makes of its object in the state of a served request, each end by its equation. -/
theorem securityServicesAndUpgrade : Obligations.SecurityServicesAndUpgrade := by
  intro s
  dsimp only
  refine ⟨fun rq x val v => ?_, fun n hn hst => ?_, fun hn => ?_, fun h2 => if_pos h2, fun h2 => ?_, fun ok slot image hp => ?_, fun hp ok => ?_⟩
  · have hobj {k : Key} (hk : k.c ≠ 0x60) : (s.served rq x).obj k = s.obj k := s.obj_served' rq x hk
    have hstage : (s.served rq x).stageState = field (s.obj Obj.MC_FW_STAGE_STATE) 31 28 := State.stageState_served
    refine ⟨fun burned h => ⟨fun hno => ?_, fun hyes => ?_⟩, fun h => ⟨fun hno => ?_, fun hyes => ?_⟩, fun h => ?_, fun h => ?_,
      fun h => ⟨fun h3 => ?_, fun h3 hp => ?_, fun h3 hp => ?_⟩, fun slot c hc h => ?_⟩
    · exact congrArg Host.Outcome.next (serveWrite_refused h _ ((acceptSecurity_svCommit burned v _).trans
        (acceptSvCommit_refused (mt State.mayCommit_served.mp hno))))
    · obtain ⟨t, ht, hsv, hev, hcount⟩ := acceptSvCommit_burns (burned := burned) (k := Obj.SEC_SV_COMMIT) (v := v)
        ((State.mayCommit_served (rq := rq) (x := x)).mpr hyes)
      rw [State.svBurned, hobj (by simp), hobj (by simp)] at hsv
      rw [State.svBurned, hobj (by simp), hobj (by simp), State.changes_served, State.tick_served] at hev
      rw [hobj (by simp), hobj (by simp), hobj (by simp)] at hcount
      exact ⟨t, congrArg Host.Outcome.next (serveWrite_accepted h _ ht), hsv, hev, hcount⟩
    · exact congrArg Host.Outcome.next (serveWrite_refused h _ ((acceptSecurity_ownerFuse v _).trans
        (acceptOwnerFuse_refused (mt (State.mayOwn_served v.v).mp hno))))
    · obtain ⟨t, ht, hdigest, hev, hcount⟩ := acceptOwnerFuse_blows (k := Obj.SEC_OWNER_FUSE) (v := v)
        ((State.mayOwn_served (rq := rq) (x := x) v.v).mpr hyes)
      rw [hobj (by simp), State.changes_served, State.tick_served] at hev
      rw [hobj (by simp)] at hcount
      exact ⟨t, congrArg Host.Outcome.next (serveWrite_accepted h _ ht), hdigest, hev, hcount⟩
    · refine congrArg Host.Outcome.next ((serveWrite_accepted h _ (acceptSecurity_nonce v _)).trans ?_)
      rw [State.withMc, State.mc_setObj, State.mc_served]
    · have hc := acceptSecurity_check v (s.served rq x)
      rw [hstage] at hc
      refine congrArg Host.Outcome.next ?_
      split
      next h0 => exact serveWrite_refused h _ (hc.trans (if_pos h0))
      next h0 =>
        split
        next h2 => exact serveWrite_refused h _ (hc.trans ((if_neg h0).trans (if_pos h2)))
        next h2 => exact serveWrite_accepted h _ (hc.trans ((if_neg h0).trans (if_neg h2)))
    · exact congrArg Host.Outcome.next (serveWrite_refused h _ ((acceptSecurity_activate v _).trans (if_pos (hstage ▸ h3))))
    · exact congrArg Host.Outcome.next (serveWrite_refused h _ ((acceptSecurity_activate v _).trans
        ((if_neg (not_not.mpr (hstage.trans h3))).trans (if_pos (by rw [State.mc_served, hp])))))
    · have hc := (acceptSecurity_activate v (s.served rq x)).trans
        ((if_neg (not_not.mpr (hstage.trans h3))).trans (if_neg (by simp [hp])))
      rw [State.askRestart_eq, hobj (by simp), State.mc_served] at hc
      exact ⟨_, congrArg Host.Outcome.next (serveWrite_accepted h _ hc), rfl, rfl, rfl⟩
    · have hexec : exec c s = .next (serveWrite (acceptSecurity 0) rq Obj.MC_FW_PROGRAM ⟨2, slot⟩ s) := by
        simp only [List.mem_cons, Prod.mk.injEq, List.not_mem_nil, or_false] at hc
        rcases hc with ⟨rfl, rfl⟩ | ⟨rfl, rfl⟩
        · rfl
        · rfl
      rw [hexec]
      refine ⟨fun h3 => ?_, fun h3 hp => ?_, fun h3 hp => ?_⟩
      · exact congrArg Host.Outcome.next (serveWrite_refused h _ (if_pos (hstage ▸ h3)))
      · exact congrArg Host.Outcome.next (serveWrite_refused h _ ((if_neg (not_not.mpr (hstage.trans h3))).trans (if_pos (by rw [State.mc_served, hp]))))
      · have hg := State.program_idle (slot := slot) (hstage.trans h3) (by rw [State.mc_served, hp])
        refine ⟨_, congrArg Host.Outcome.next (serveWrite_accepted h _ hg), ?_, ?_, ?_, ?_⟩
        · simp [State.setSlot]
        · exact congrArg (fun i => some (slot, i)) (s.staged_served rq x)
        · have hslots := (((s.served rq x).setObj Obj.MC_FW_PROGRAM_STATE 1).setSlot_spec slot none)
          rw [State.mc_setObj, State.mc_served] at hslots
          obtain ⟨hown, hother, -⟩ := hslots
          split
          next h1 => exact ⟨(if_pos h1).symm.trans hown, by rwa [if_pos h1] at hother⟩
          next h1 => exact ⟨(if_neg h1).symm.trans hown, by rwa [if_neg h1] at hother⟩
        · rfl
  · change ∃ t, execAttestDone s = _ ∧ _
    unfold execAttestDone
    rw [hn]
    refine ⟨_, if_neg (not_not.mpr hst), by simp, rfl,
      ⟨Config.mlDsaSign (Config.shake256 32 [⟨6, asciiBytes "ATTEST"⟩, ⟨120, s.attestBody n⟩]) s.fresh, ?_⟩, fun k h1 h2 => ?_, rfl⟩
    · simp [State.attestBody]
    · simp [h1, h2]
  · change execAttestDone s = _
    unfold execAttestDone
    rw [hn]
  · exact (exec_fwCheckDone_checks h2).trans (congrArg Host.Outcome.next (s.checkReported_eq _ _))
  · obtain ⟨hown, hother, -⟩ := (s.setObj Obj.MC_FW_PROGRAM_STATE (if ok then 3 else 4)).setSlot_spec slot (if ok then some image else none)
    change ∃ t, execFwProgramDone ok s = _ ∧ _
    unfold execFwProgramDone
    rw [hp]
    refine ⟨_, rfl, ?_, rfl, hown, hother, fun k hk => ?_, rfl⟩
    · simp [State.setSlot]
    · simp [State.setSlot, hk]
  · change execFwProgramDone ok s = _
    unfold execFwProgramDone
    rw [hp]
end Sys2Proof.Machine
end

section
/-! PROOFS. The Loupe: settles O48. -/

namespace Sys2Proof.Machine

/-! ## Arming the Loupe (R394, R396, R397) -/

section
variable {s : State} {rq : Rq} {x : Sender}

theorem State.tapWords_served : (s.served rq x).tapWords = s.tapWords := by
  unfold State.tapWords
  rw [State.act_served, State.prism_served]

theorem State.loupeRate_served : (s.served rq x).loupeRate = s.loupeRate := by
  have hmode (e : Nat) : (s.served rq x).mode e = s.mode e := by
    unfold State.mode
    simp [s.obj_served' rq x]
  unfold State.loupeRate
  simp only [hmode, State.tapWords_served, s.obj_served' rq x (k := Obj.LOUPE_SEL) (by simp), s.obj_served' rq x (k := Obj.LOUPE_SRC) (by simp)]

/-- A capture that is armed clears the last one. -/
def State.loupeArmed (s : State) : State :=
  ([0, 1, 2, 3].foldl (fun t k => t.setObj (Obj.LOUPE_INFO k) 0) (s.setObj Obj.LOUPE_STATE 1)).withLoupe fun _ => {}

theorem State.loupeArmed_spec (s : State) :
    s.loupeArmed.obj Obj.LOUPE_STATE = 1 ∧ s.loupeArmed.loupe = {} ∧ ∀ k : Fin 4, s.loupeArmed.obj (Obj.LOUPE_INFO k) = 0 := by
  unfold State.loupeArmed
  refine ⟨by simp [State.withLoupe], rfl, fun k => ?_⟩
  fin_cases k <;> simp [State.withLoupe]

theorem acceptMeas_arm (s : State) : acceptMeas Obj.LOUPE_ARM ⟨2, 1⟩ s =
    if 360000000000 < s.loupeRate ∨ 112500 < s.tapWords then (.range, s)
    else if ¬ s.domOn 16 ∨ s.obj Obj.LOUPE_SIZE = 0 then (.precond, s)
    else if s.obj Obj.LOUPE_STATE = 1 ∨ s.obj Obj.LOUPE_STATE = 2 then (.busy, s)
    else if s.loupeKind = 1 ∧ s.obj Obj.LOUPE_TRIG_TICK < s.tick + 2 then (.deadline, s)
    else (.ok, s.loupeArmed) := rfl

/-- The checks of arming do not look at the count of requests and the session. -/
theorem acceptMeas_arm_served (s : State) (rq : Rq) (x : Sender) : acceptMeas Obj.LOUPE_ARM ⟨2, 1⟩ (s.served rq x) =
    if 360000000000 < s.loupeRate ∨ 112500 < s.tapWords then (.range, s.served rq x)
    else if ¬ s.domOn 16 ∨ s.obj Obj.LOUPE_SIZE = 0 then (.precond, s.served rq x)
    else if s.obj Obj.LOUPE_STATE = 1 ∨ s.obj Obj.LOUPE_STATE = 2 then (.busy, s.served rq x)
    else if s.loupeKind = 1 ∧ s.obj Obj.LOUPE_TRIG_TICK < s.tick + 2 then (.deadline, s.served rq x)
    else (.ok, (s.served rq x).loupeArmed) := by
  have hobj {k : Key} (hk : k.c ≠ 0x60) : (s.served rq x).obj k = s.obj k := s.obj_served' rq x hk
  have hdom : (s.served rq x).domOn 16 = s.domOn 16 := by
    unfold State.domOn
    rw [hobj (by simp)]
  have hkind : (s.served rq x).loupeKind = s.loupeKind := congrArg (field · 31 28) (hobj (by simp))
  rw [acceptMeas_arm, State.loupeRate_served, State.tapWords_served, hdom, hkind, State.tick_served, hobj (by simp), hobj (by simp), hobj (by simp)]

/-! ## A capture that ends, or is triggered (R396, R397) -/

theorem acceptMeas_abort (s : State) : acceptMeas Obj.LOUPE_ARM ⟨2, 0⟩ s = (.ok, s.loupeAbort 1) := rfl

theorem State.loupeAbort_idle {cause : Nat} (h : ¬ (s.obj Obj.LOUPE_STATE = 1 ∨ s.obj Obj.LOUPE_STATE = 2)) : s.loupeAbort cause = s := if_neg h

theorem State.loupeAbort_host (h : s.obj Obj.LOUPE_STATE = 1 ∨ s.obj Obj.LOUPE_STATE = 2) :
    (s.loupeAbort 1).obj Obj.LOUPE_STATE = 4 ∧ (s.loupeAbort 1).obj (Obj.LOUPE_INFO 3) = 1 ∧ (s.loupeAbort 1).loupe = s.loupe ∧
    (s.loupeAbort 1).obj (Obj.LOUPE_INFO 2) = loupeBytes s.loupe.records := by
  unfold State.loupeAbort
  rw [if_pos h, if_neg (by decide)]
  exact ⟨by simp, by simp, rfl, by simp⟩

/-- A trigger in ARMED starts the remainder. -/
theorem State.loupeHit_armed (h : s.obj Obj.LOUPE_STATE = 1) (kind t : Nat) :
    (s.loupeHit kind t).obj Obj.LOUPE_STATE = 2 ∧ (s.loupeHit kind t).obj (Obj.LOUPE_INFO 0) = t ∧
    (s.loupeHit kind t).changes = s.changes ++ [⟨Ev.LOUPE_TRIGGERED.code, false, s.tick, contentOf Ev.LOUPE_TRIGGERED.widths [kind, t]⟩] := by
  unfold State.loupeHit
  rw [h]
  exact ⟨by simp [State.loupeTriggerAt], by simp [State.loupeTriggerAt], rfl⟩

/-- Afterwards it is counted. -/
theorem State.loupeHit_missed (h : 2 ≤ s.obj Obj.LOUPE_STATE) (kind t : Nat) : s.loupeHit kind t = s.bump Obj.LOUPE_TRIG_MISSED := by
  unfold State.loupeHit
  split
  next h0 => omega
  next h1 => omega
  · rfl

theorem State.loupeFinish_spec (s : State) :
    s.loupeFinish.obj Obj.LOUPE_STATE = 3 ∧ s.loupeFinish.obj (Obj.LOUPE_INFO 2) = loupeBytes s.loupe.records ∧ s.loupeFinish.loupe = s.loupe ∧
    s.loupeFinish.changes = s.changes ++
      [⟨Ev.LOUPE_DONE.code, false, s.tick, contentOf Ev.LOUPE_DONE.widths [loupeBytes s.loupe.records, s.loupe.pre]⟩] := by
  unfold State.loupeFinish
  exact ⟨by simp, by simp, rfl, rfl⟩

end

/-- Settles O48: arming by its checks in their order, a trigger by the state of the capture. -/
theorem loupeCaptures : Obligations.LoupeCaptures := by
  intro s
  dsimp only
  refine ⟨fun rq x h => ?_, fun rq x h => ⟨_, congrArg Host.Outcome.next (serveWrite_accepted h _ (acceptMeas_abort _)), fun h1 h2 => ?_, fun h12 => ?_⟩,
    fun rq x val v h => ?_, fun hnew hkind htick => ?_, fun hold => ?_, fun hno => ?_, fun hst hfull => ?_⟩
  · have hc := acceptMeas_arm_served s rq x
    have heavy : (360000000000 < s.loupeRate ∨ 112500 < s.tapWords) ↔ ¬ (s.loupeRate ≤ 360000000000 ∧ s.tapWords ≤ 112500) := by omega
    simp only [heavy] at hc
    refine ⟨fun hl => ?_, fun hl hp => ?_, fun hl hd hz hb => ?_, fun hl hd hz h1 h2 hk ht => ?_, fun hl hd hz h1 h2 hk => ?_⟩
    · exact congrArg Host.Outcome.next (serveWrite_refused h _ (hc.trans (if_pos hl)))
    all_goals rw [if_neg (not_not.mpr hl)] at hc
    · exact congrArg Host.Outcome.next (serveWrite_refused h _ (hc.trans (if_pos (hp.imp_left fun hd => by simp [hd]))))
    all_goals rw [if_neg (by simp [hd, hz])] at hc
    · exact congrArg Host.Outcome.next (serveWrite_refused h _ (hc.trans (if_pos hb)))
    all_goals rw [if_neg (by omega)] at hc
    · exact congrArg Host.Outcome.next (serveWrite_refused h _ (hc.trans (if_pos ⟨hk, ht⟩)))
    · exact ⟨_, congrArg Host.Outcome.next (serveWrite_accepted h _ (hc.trans (if_neg (by omega)))), State.loupeArmed_spec _⟩
  · exact State.loupeAbort_idle (by rw [s.obj_served' rq x (by simp)]; omega)
  · obtain ⟨hst, hcause, hl, hbytes⟩ := State.loupeAbort_host (s := s.served rq x) (by rwa [s.obj_served' rq x (by simp)])
    have hloupe : (s.served rq x).loupe = s.loupe := congrArg (·.loupe) (s.instr_served rq x)
    rw [hloupe] at hl hbytes
    exact ⟨hst, hcause, hl, hbytes⟩
  · refine congrArg Host.Outcome.next (serveWrite_accepted h _ (t := (s.served rq x).plan (s.now + 1) .loupeFire) ?_)
    rw [← s.now_served rq x]
    rfl
  · let t := s.withLoupe fun l => { l with scanned := some s.now }
    have hscan : s.loupeScan = t.loupeHit 1 s.tick := (if_neg hnew).trans (if_pos ⟨hkind, htick⟩)
    refine ⟨_, congrArg Host.Outcome.next hscan, fun h1 => State.loupeHit_armed (s := t) h1 1 s.tick, fun h2 => ?_⟩
    rw [State.loupeHit_missed (s := t) h2]
    exact ⟨t.obj_bump_ne 1 (by simp), t.obj_bump_same _ 1⟩
  · exact congrArg Host.Outcome.next (if_pos hold)
  · exact congrArg Host.Outcome.next (if_neg fun h => hno.elim (fun h2 => h2 h.1) fun hf => by simp [hf] at h)
  · exact ⟨_, congrArg Host.Outcome.next (if_pos ⟨hst, hfull⟩), s.loupeFinish_spec⟩
end Sys2Proof.Machine
end

section
/-! PROOFS. Rails follow their regulators: acknowledgements, timeouts, adaptive steps, dips and resets (O56). -/

namespace Sys2Proof.Machine

/-! ## Acknowledgements (R481, R482, R497) -/

section
variable {r : Fin 12} {s : State}

/-- The ramp that begins next changes neither objects nor what the domains and the rails wait for. -/
theorem State.nextRamp_frame (s : State) : ∃ ramp, s.nextRamp = s.withPower fun p => { p with ramp := ramp } := by
  unfold State.nextRamp
  split
  · exact ⟨s.power.ramp, rfl⟩
  · exact ⟨_, rfl⟩

/-- The rail at its target, or off. -/
def State.railAcked (s : State) (r : Nat) (q : RailRequest) : State :=
  (if q.kind = 3 then (s.setRequest r none).setFailed r none
    else ((s.setRequest r none).setFailed r none).setObj (Obj.PWR_RAIL_SET r) q.target).setObj (Obj.PWR_RAIL_STATE r)
      (if q.kind = 3 then 3 else if bit (s.obj Obj.PWR_WARN_ACTIVE) r then 1 else 0)

/-- A rail whose request is answered asks for nothing. -/
theorem State.railAnswered_spec (s : State) (r : Nat) : ∃ p : Power, (s.setRequest r none).setFailed r none = { s with power := p } ∧
    Map.get none p.requests (Key.unit r) = none ∧ p.doms = s.power.doms ∧ p.quiescent = s.power.quiescent :=
  ⟨((s.setRequest r none).setFailed r none).power, rfl,
    show Map.get none (Map.set none s.power.requests (Key.unit r) none) (Key.unit r) = none from Map.get_set_same _ _ _ _, rfl, rfl⟩

theorem State.railAcked_spec (s : State) (r : Nat) (q : RailRequest) :
    let t := s.railAcked r q
    t.railRequest r = none ∧ t.obj (Obj.PWR_RAIL_SET r) = (if q.kind = 3 then s.obj (Obj.PWR_RAIL_SET r) else q.target) ∧
    t.obj (Obj.PWR_RAIL_STATE r) = (if q.kind = 3 then 3 else if bit (s.obj Obj.PWR_WARN_ACTIVE) r then 1 else 0) ∧
    (∀ k, k ≠ Obj.PWR_RAIL_SET r → k ≠ Obj.PWR_RAIL_STATE r → t.obj k = s.obj k) ∧ t = { s with reg := t.reg, power := t.power } ∧
    t.power.doms = s.power.doms ∧ t.power.quiescent = s.power.quiescent := by
  obtain ⟨p, hp, hreq, hdoms, hquiet⟩ := s.railAnswered_spec r
  intro t
  unfold t State.railAcked
  rw [hp]
  generalize (if q.kind = 3 then 3 else if bit (s.obj Obj.PWR_WARN_ACTIVE) r then 1 else 0) = st
  by_cases h : q.kind = 3
  · rw [if_pos h, if_pos h]
    exact ⟨hreq, State.obj_setObj_ne _ _ (by simp), State.obj_setObj_same _ _ _, fun k _ h2 => State.obj_setObj_ne _ _ h2, rfl, hdoms, hquiet⟩
  · rw [if_neg h, if_neg h]
    exact ⟨hreq, (State.obj_setObj_ne _ _ (by simp)).trans (State.obj_setObj_same _ _ _), State.obj_setObj_same _ _ _,
      fun k h1 h2 => (State.obj_setObj_ne _ _ h2).trans (State.obj_setObj_ne _ _ h1), rfl, hdoms, hquiet⟩

theorem State.raising_eq {s t : State} (h : t.power.doms = s.power.doms) : t.raising = s.raising := by
  unfold State.raising State.dom
  rw [h]

/-- What an acknowledgement of VDD_CORE does for the domains that wait for it. -/
def State.coreRaised (s : State) (q : RailRequest) : State :=
  if q.wake ∨ s.setpoint 0 = 800000 then s.raising.foldl (fun v d => v.withDom d fun x => { x with raise := false, ramping := true }) s
  else s.sendRaise

theorem exec_regulatorAck_asked {q : RailRequest} (h : s.railRequest r = some q) : exec (.regulatorAck r) s =
    .next (if r.val ≠ 0 ∨ s.raising = [] then s.railAcked r q else (s.railAcked r q).coreRaised q).nextRamp.quiescentAck := by
  have hraising : (s.railAcked r q).raising = s.raising := State.raising_eq (s.railAcked_spec r q).2.2.2.2.2.1
  change execRegulatorAck r s = _
  unfold execRegulatorAck
  rw [h]
  rw [← hraising]
  rfl

/-- Out of Quiescent an acknowledgement goes no further. -/
theorem State.quiescentAck_awake (h1 : s.power.quiescent ≠ 1) (h3 : s.power.quiescent ≠ 3) : s.quiescentAck = s := by
  unfold State.quiescentAck
  split
  next h => exact absurd h h1
  next h => exact absurd h h3
  · rfl

/-! ## Domains that wait for VDD_CORE (R497) -/

/-- A raise that is acknowledged lets the domain ramp. -/
def DomRun.raised (x : DomRun) : DomRun := { x with raise := false, ramping := true }

theorem State.foldl_raised {l : List Nat} {d : Nat} (h : d ∈ l) (s : State) :
    let t := l.foldl (fun v i => v.withDom i DomRun.raised) s
    (t.dom d).ramping = true ∧ (t.dom d).raise = false := by
  refine foldl_reaches (P := fun _ => True) (Q := fun t : State => (t.dom d).ramping = true ∧ (t.dom d).raise = false) (a := d)
    (fun _ _ _ _ => trivial) (fun t _ => by simp [DomRun.raised]) (fun t i ht => ?_) h trivial
  rw [State.dom_withDom]
  split
  next e => subst e; exact ⟨rfl, rfl⟩
  · exact ht

theorem State.coreRaised_wake {q : RailRequest} (h : q.wake = true) (s : State) :
    s.coreRaised q = s.raising.foldl (fun v i => v.withDom i DomRun.raised) s := if_pos (.inl h)

theorem State.foldl_raised_obj (l : List Nat) (s : State) (k : Key) : (l.foldl (fun v i => v.withDom i DomRun.raised) s).obj k = s.obj k :=
  foldl_keeps (f := fun v i => v.withDom i DomRun.raised) (fun t : State => t.obj k) (fun _ _ => rfl) l s

theorem State.foldl_raised_quiescent (l : List Nat) (s : State) :
    (l.foldl (fun v i => v.withDom i DomRun.raised) s).power.quiescent = s.power.quiescent :=
  foldl_keeps (f := fun v i => v.withDom i DomRun.raised) (fun t : State => t.power.quiescent) (fun _ _ => rfl) l s

/-! ## Timeouts (R482, R497, R502) -/

theorem exec_regulatorTimeout_early {q : RailRequest} {ticks : Nat} (h : s.railRequest r = some q) (ht : ticks < 4000) :
    exec (.regulatorTimeout r ticks) s = .next s := by
  change execRegulatorTimeout r ticks s = _
  unfold execRegulatorTimeout
  rw [h]
  exact if_pos ht

/-- The rail is at fault, which is reported, and what was asked is kept for a retry. -/
def State.railFault (s : State) (r : Nat) (q : RailRequest) : State :=
  ((((s.setRequest r none).setFailed r (some q)).setObj (Obj.PWR_RAIL_STATE r) 2)).raise Ev.REG_FAULT [r, q.kind]

/-- A rail at fault with nothing asked of it, and the record of that. -/
def State.atFault (s : State) (r : Nat) (q : RailRequest) (tick : Nat) : Prop :=
  s.obj (Obj.PWR_RAIL_STATE r) = 2 ∧ s.railRequest r = none ∧ Map.get none s.power.failed (Key.unit r) = some q ∧
  ⟨Ev.REG_FAULT.code, false, tick, contentOf Ev.REG_FAULT.widths [r, q.kind]⟩ ∈ s.changes

theorem State.railFault_atFault (s : State) (r : Nat) (q : RailRequest) : (s.railFault r q).atFault r q s.tick := by
  refine ⟨?_, ?_, ?_, List.mem_append_right _ (List.mem_singleton_self _)⟩
  · simp [State.railFault]
  · simp [State.railFault, State.railRequest, State.setFailed, State.setRequest]
  · simp [State.railFault, State.setFailed]

/-- A wake that fails reads the state it came from, with a status. -/
def State.wakeFailed (s : State) (d leaves status : Nat) : State :=
  (((s.setObj (Obj.PWR_DOM_STATE d) leaves).setObj (Obj.PWR_DOM_STATUS d) status).withDom d fun x => { cnv := x.cnv }).domEvent d leaves leaves 4

theorem State.failWake_eq (s : State) (d leaves : Nat) : ∃ status, s.failWake d leaves = s.wakeFailed d leaves status := ⟨_, rfl⟩

theorem State.wakeFailed_spec (s : State) (d leaves status : Nat) :
    let t := s.wakeFailed d leaves status
    t.obj (Obj.PWR_DOM_STATE d) = leaves ∧
    (∀ k, k ≠ Obj.PWR_DOM_STATE d → k ≠ Obj.PWR_DOM_STATUS d → t.obj k = s.obj k) ∧
    (∀ i, i ≠ d → t.dom i = s.dom i) ∧ (∀ i, t.railRequest i = s.railRequest i) ∧ t.power.failed = s.power.failed ∧ s.changes <+: t.changes := by
  unfold State.wakeFailed State.domEvent
  exact ⟨by simp, fun k h1 h2 => by simp [h1, h2], fun i hi => by simp [hi], fun i => rfl, rfl, List.prefix_append _ _⟩

theorem State.failWake_spec (s : State) (d leaves : Nat) :
    (s.failWake d leaves).obj (Obj.PWR_DOM_STATE d) = leaves ∧
    (∀ k, k ≠ Obj.PWR_DOM_STATE d → k ≠ Obj.PWR_DOM_STATUS d → (s.failWake d leaves).obj k = s.obj k) ∧
    (∀ i, i ≠ d → (s.failWake d leaves).dom i = s.dom i) ∧ (∀ i, (s.failWake d leaves).railRequest i = s.railRequest i) ∧
    (s.failWake d leaves).power.failed = s.power.failed ∧ s.changes <+: (s.failWake d leaves).changes := by
  obtain ⟨status, h⟩ := s.failWake_eq d leaves
  rw [h]
  exact s.wakeFailed_spec d leaves status

theorem State.failWake_atFault {q : RailRequest} {tick d : Nat} (h : s.atFault r q tick) (hd : d < 20) (leaves : Nat) :
    (s.failWake d leaves).atFault r q tick := by
  obtain ⟨hst, hask, hfail, hev⟩ := h
  obtain ⟨-, hobj, -, hrail, hfailed, hchanges⟩ := s.failWake_spec d leaves
  generalize s.failWake d leaves = t at hobj hrail hfailed hchanges ⊢
  refine ⟨(hobj _ ?_ (by simp)).trans hst, (hrail r).trans hask, hfailed ▸ hfail, hchanges.subset hev⟩
  simp
  omega

/-- What was asked of other rails does not matter to a rail at fault. -/
theorem State.atFault.setRequest {q : RailRequest} {tick i : Nat} (h : s.atFault r q tick) (hi : i ≠ r) (x : Option RailRequest) :
    (s.setRequest i x).atFault r q tick := by
  obtain ⟨hst, hask, hfail, hev⟩ := h
  exact ⟨hst, (s.railRequest_setRequest_ne i x (Ne.symm hi)).trans hask, hfail, hev⟩

/-- Quiescent as one rail gives it up: one that is off comes back, one that is asked to go off is not. -/
def State.railBack (t : State) (i : Nat) : State :=
  if t.obj (Obj.PWR_RAIL_STATE i) = 3 then t.setRequest i (some ⟨2, railNominal i, t.now, false⟩)
  else if ((t.railRequest i).map (·.kind)) = some 3 then t.setRequest i none else t

theorem State.atFault.railBack {q : RailRequest} {tick : Nat} (h : s.atFault r q tick) (i : Nat) : (s.railBack i).atFault r q tick := by
  have hne (g : s.obj (Obj.PWR_RAIL_STATE i) = 3 ∨ ((s.railRequest i).map (·.kind)) = some 3) : i ≠ r := by
    rintro rfl
    rw [h.1, h.2.1] at g
    simp at g
  unfold State.railBack
  split
  next h3 => exact h.setRequest (hne (.inl h3)) _
  split
  next _ h3 => exact h.setRequest (hne (.inr h3)) _
  · exact h

theorem State.atFault.railsBack {q : RailRequest} {tick : Nat} (h : s.atFault r q tick) (l : List Nat) :
    (l.foldl State.railBack s).atFault r q tick :=
  List.foldlRecOn (motive := fun t : State => t.atFault r q tick) l _ h fun _ ht i _ => ht.railBack i

theorem State.abandonQuiescent_eq (s : State) :
    s.abandonQuiescent = (quiescentRails.foldl State.railBack s).withPower fun p => { p with quiescent := 0 } := by
  have h : State.railBack = fun t i => if t.obj (Obj.PWR_RAIL_STATE i) = 3 then t.setRequest i (some ⟨2, railNominal i, t.now, false⟩)
      else if ((t.railRequest i).map (·.kind)) = some 3 then t.setRequest i none else t := rfl
  rw [h, State.abandonQuiescent]

theorem State.abandonQuiescent_atFault {q : RailRequest} {tick : Nat} (h : s.atFault r q tick) : s.abandonQuiescent.atFault r q tick := by
  have hback := h.railsBack quiescentRails
  rw [State.abandonQuiescent_eq]
  generalize quiescentRails.foldl State.railBack s = t at hback ⊢
  exact hback

theorem State.obj_railsBack (l : List Nat) (s : State) (k : Key) : (l.foldl State.railBack s).obj k = s.obj k := by
  refine foldl_keeps (f := State.railBack) (fun t : State => t.obj k) (fun t i => ?_) l s
  unfold State.railBack
  split
  · rfl
  split <;> rfl

theorem State.obj_abandonQuiescent (s : State) (k : Key) : s.abandonQuiescent.obj k = s.obj k := by
  have h := State.obj_railsBack quiescentRails s k
  rw [State.abandonQuiescent_eq]
  generalize quiescentRails.foldl State.railBack s = t at h ⊢
  exact h

/-! ## What a timeout of VDD_CORE does to the domains that wait for it (R497) -/

theorem State.foldl_failWake_atFault {q : RailRequest} {tick : Nat} {l : List Nat} (hl : ∀ d ∈ l, d < 20) (h : s.atFault r q tick) :
    (l.foldl (fun v d => v.failWake d (v.dom d).leaves) s).atFault r q tick :=
  List.foldlRecOn (motive := fun t : State => t.atFault r q tick) l _ h fun _ ht d hd => State.failWake_atFault ht (hl d hd) _

/-- Each of them reads the state it came from. -/
theorem State.foldl_failWake_state {l : List Nat} (hl : l.Nodup) {d : Nat} (hd : d ∈ l) (s : State) :
    (l.foldl (fun v d => v.failWake d (v.dom d).leaves) s).obj (Obj.PWR_DOM_STATE d) = (s.dom d).leaves := by
  induction l generalizing s with
  | nil => cases hd
  | cons i l ih =>
    obtain ⟨hnot, hnodup⟩ := List.nodup_cons.mp hl
    obtain ⟨hst, -, hdom, -⟩ := s.failWake_spec i (s.dom i).leaves
    rw [List.foldl_cons]
    rcases List.mem_cons.mp hd with rfl | hd'
    · refine Eq.trans ?_ hst
      refine List.foldlRecOn (motive := fun t : State => t.obj (Obj.PWR_DOM_STATE d) = _) l _ rfl fun t ht j hj => ?_
      have hne : d ≠ j := fun e => hnot (e ▸ hj)
      exact ((t.failWake_spec j _).2.1 _ (by simp [hne]) (by simp)).trans ht
    · have hne : d ≠ i := fun e => hnot (e ▸ hd')
      rw [ih hnodup hd', hdom d hne]

theorem State.raising_nodup (s : State) : s.raising.Nodup := List.Nodup.filter _ (by decide)

theorem State.raising_lt {s : State} {d : Nat} (h : d ∈ s.raising) : d < 20 :=
  (by decide : ∀ d ∈ rampOrder, d < 20) d (List.mem_filter.mp h).1

/-- The rail at fault, and with VDD_CORE the wakes that waited for it. -/
def State.timedOut (s : State) (r : Nat) (q : RailRequest) : State :=
  if r = 0 then s.raising.foldl (fun v d => v.failWake d (v.dom d).leaves) (s.railFault r q) else s.railFault r q

theorem State.timedOut_spec (s : State) (r : Fin 12) (q : RailRequest) :
    (s.timedOut r q).atFault r q s.tick ∧ (r.val = 0 → ∀ d ∈ s.raising, (s.timedOut r q).obj (Obj.PWR_DOM_STATE d) = (s.dom d).leaves) := by
  unfold State.timedOut
  split
  next h0 => exact ⟨State.foldl_failWake_atFault (fun d => State.raising_lt) (s.railFault_atFault r q), fun _ d hd =>
      State.foldl_failWake_state s.raising_nodup hd _⟩
  next h0 => exact ⟨s.railFault_atFault r q, fun h => absurd h h0⟩

theorem exec_regulatorTimeout_late {q : RailRequest} {ticks : Nat} (h : s.railRequest r = some q) (ht : 4000 ≤ ticks) :
    exec (.regulatorTimeout r ticks) s =
      .next (if (s.timedOut r q).power.quiescent = 1 ∧ q.kind = 3 then (s.timedOut r q).abandonQuiescent else s.timedOut r q) := by
  have hraising : (s.railFault r q).raising = s.raising := State.raising_eq rfl
  change execRegulatorTimeout r ticks s = _
  unfold execRegulatorTimeout State.timedOut
  rw [h, ← hraising]
  exact if_neg (Nat.not_lt.mpr ht)

/-! ## Retries (R482) -/

theorem acceptPower_retry (r : Nat) (v : Val) (s : State) : acceptPower (Obj.PWR_RAIL_RETRY r) v s =
    match Map.get none s.power.failed (Key.unit r) with
    | some q => if s.obj (Obj.PWR_RAIL_STATE r) ≠ 2 then (.precond, s) else if (s.railRequest r).isSome then (.busy, s)
      else (.ok, s.setRequest r (some { q with at_ := s.now, wake := false }))
    | none => (.precond, s) := by
  have hr : 0x100 + r - 0x100 = r := Nat.add_sub_cancel_left 0x100 r
  unfold acceptPower
  rw [if_pos (Nat.le_add_right 0x100 r)]
  dsimp only
  rw [hr, if_pos rfl] <;> rfl

theorem acceptPower_retry_refused {s : State} {r : Nat} (h : s.obj (Obj.PWR_RAIL_STATE r) ≠ 2 ∨ Map.get none s.power.failed (Key.unit r) = none)
    (v : Val) : acceptPower (Obj.PWR_RAIL_RETRY r) v s = (.precond, s) := by
  rw [acceptPower_retry]
  split
  next q hq => exact if_pos (h.resolve_right (by simp [hq]))
  · rfl

theorem acceptPower_retry_failed {s : State} {r : Nat} {q : RailRequest} (h2 : s.obj (Obj.PWR_RAIL_STATE r) = 2)
    (hf : Map.get none s.power.failed (Key.unit r) = some q) (v : Val) : acceptPower (Obj.PWR_RAIL_RETRY r) v s =
      if (s.railRequest r).isSome then (.busy, s) else (.ok, s.setRequest r (some ⟨q.kind, q.target, s.now, false⟩)) := by
  rw [acceptPower_retry, hf]
  exact if_neg (not_not.mpr h2)

/-! ## Adaptive voltage (R483) -/

/-- When a step may be asked for. -/
def State.avsAllowed (s : State) (up : Bool) : Prop :=
  s.obj Obj.PWR_AVS_EN = 1 ∧ (∀ b, s.power.avsAt = some b → b + 800 ≤ s.now) ∧ s.railRequest 0 = none ∧ s.obj (Obj.PWR_RAIL_STATE 0) ≠ 2 ∧
    (up = true → s.setpoint 0 < 800000) ∧
    (up = false → 700000 < s.setpoint 0 ∧ s.obj Obj.PWR_WARN_ACTIVE = 0 ∧ ∀ d ∈ rampOrder, s.obj (Obj.PWR_DOM_STATE d) ≠ 5)

/-- The model's own reckoning of it. -/
def State.avsChecks (s : State) (up : Bool) : Bool :=
  decide (s.obj Obj.PWR_AVS_EN = 1) && (match s.power.avsAt with
    | some t => decide (t + 800 ≤ s.now)
    | none => true) && (s.railRequest 0).isNone && decide (s.obj (Obj.PWR_RAIL_STATE 0) ≠ 2) &&
    (if up then decide (s.setpoint 0 < 800000) else decide (700000 < s.setpoint 0) && decide (s.obj Obj.PWR_WARN_ACTIVE = 0) &&
      !(rampOrder.any fun d => decide (s.domState d = 5)))

theorem State.avsChecks_iff (s : State) (up : Bool) : s.avsChecks up = true ↔ s.avsAllowed up := by
  have hspaced : (match s.power.avsAt with | some t => decide (t + 800 ≤ s.now) | none => true) = true ↔ ∀ b, s.power.avsAt = some b → b + 800 ≤ s.now := by
    cases s.power.avsAt <;> simp
  have hwaking : (!(rampOrder.any fun d => decide (s.domState d = 5))) = true ↔ ∀ d ∈ rampOrder, s.obj (Obj.PWR_DOM_STATE d) ≠ 5 := by
    rw [Bool.not_eq_true', List.any_eq_false]
    exact forall₂_congr fun d _ => by rw [Bool.not_eq_true, decide_eq_false_iff_not]; rfl
  unfold State.avsChecks State.avsAllowed
  rw [Bool.and_eq_true, Bool.and_eq_true, Bool.and_eq_true, Bool.and_eq_true, hspaced]
  cases up
  · simp only [Bool.and_eq_true, hwaking, decide_eq_true_eq, Option.isNone_iff_eq_none, and_assoc, Bool.false_eq_true, if_false, false_implies, true_and, true_implies]
  · simp [and_assoc]

theorem exec_avsStep_checks (s : State) (up : Bool) : exec (.avsStep up) s = if s.avsChecks up then
    .next ((s.setRequest 0 (some ⟨1, if up then min 800000 (s.setpoint 0 + 5000) else max 700000 (s.setpoint 0 - 5000), s.now, false⟩)).withPower
      fun p => { p with avsAt := some s.now }) else .next s := rfl

/-! ## Supply dips (R499, R500) -/

/-- A new dip takes the first place of the log, and the others move on. -/
theorem State.openDip_spec (s : State) (r voltage : Nat) :
    let t := s.openDip r voltage
    t.obj (Obj.PWR_DIP_LOG 0) = packBytes [(1, r), (1, 0x80), (2, 0), (4, voltage), (4, 0), (4, s.tick)] ∧
    (∀ k, k < 15 → t.obj (Obj.PWR_DIP_LOG (k + 1)) = s.obj (Obj.PWR_DIP_LOG k)) ∧
    (∀ k, (∀ x, k ≠ Obj.PWR_DIP_LOG x) → t.obj k = s.obj k) ∧ s.sameButObjects t := by
  intro t
  let moved := (List.range 15).foldl (fun u x => u.setObj (Obj.PWR_DIP_LOG (x + 1)) (s.obj (Obj.PWR_DIP_LOG x))) s
  have hmoved (n : Nat) (k : Nat) (hk : k < n) : ((List.range n).foldl (fun (u : State) x =>
      u.setObj (Obj.PWR_DIP_LOG (x + 1)) (s.obj (Obj.PWR_DIP_LOG x))) s).obj (Obj.PWR_DIP_LOG (k + 1)) = s.obj (Obj.PWR_DIP_LOG k) := by
    induction n with
    | zero => omega
    | succ n ih =>
      rw [List.range_succ, List.foldl_append, List.foldl_cons, List.foldl_nil, State.obj_setObj]
      by_cases h : k = n
      · subst h; simp
      · rw [if_neg (by simp [h]), ih (by omega)]
  have hother (k : Key) (h : ∀ x, k ≠ Obj.PWR_DIP_LOG x) : moved.obj k = s.obj k :=
    foldl_keeps (f := fun (u : State) x => u.setObj (Obj.PWR_DIP_LOG (x + 1)) (s.obj (Obj.PWR_DIP_LOG x))) (fun u : State => u.obj k)
      (fun u x => u.obj_setObj_ne _ (h (x + 1))) (List.range 15) s
  have hframe : s.sameButObjects moved := State.foldl_sameButObjects _ (fun u x => u.setObj_sameButObjects _ _) _ s
  have ht : t = moved.setObj (Obj.PWR_DIP_LOG 0) (packBytes [(1, r), (1, 0x80), (2, 0), (4, voltage), (4, 0), (4, s.tick)]) := rfl
  rw [ht]
  exact ⟨moved.obj_setObj_same _ _, fun k hk => (moved.obj_setObj_ne _ (by simp)).trans (hmoved 15 k hk),
    fun k h => (moved.obj_setObj_ne _ (h 0)).trans (hother k h), hframe.andSetObj _ _⟩

/-- A dip that closes changes the log alone. -/
theorem State.closeDip_spec (s : State) (r minimum : Nat) :
    (∀ k, (∀ x, k ≠ Obj.PWR_DIP_LOG x) → (s.closeDip r minimum).1.obj k = s.obj k) ∧ s.sameButObjects (s.closeDip r minimum).1 := by
  unfold State.closeDip
  split
  · exact ⟨fun _ _ => rfl, rfl⟩
  · exact ⟨fun k h => s.obj_setObj_ne _ (h _), rfl⟩

theorem railState_ne_dipLog (r x : Nat) : Obj.PWR_RAIL_STATE r ≠ Obj.PWR_DIP_LOG x := by
  simp
  omega

/-- A rail that reads `a` reads `b`. -/
def State.railMoves (s : State) (r a b : Nat) : State := if s.obj (Obj.PWR_RAIL_STATE r) = a then s.setObj (Obj.PWR_RAIL_STATE r) b else s

theorem State.railMoves_spec (s : State) (r a b : Nat) :
    (s.railMoves r a b).obj (Obj.PWR_RAIL_STATE r) = (if s.obj (Obj.PWR_RAIL_STATE r) = a then b else s.obj (Obj.PWR_RAIL_STATE r)) ∧
    (∀ k, k ≠ Obj.PWR_RAIL_STATE r → (s.railMoves r a b).obj k = s.obj k) ∧ s.sameButObjects (s.railMoves r a b) := by
  unfold State.railMoves
  split
  · exact ⟨s.obj_setObj_same _ _, fun k h => s.obj_setObj_ne _ h, rfl⟩
  · exact ⟨rfl, fun _ _ => rfl, rfl⟩

/-- Two samples below the warning level open a dip, and the rail reads a warning. -/
def State.dipOpened (s : State) (r voltage : Nat) : State :=
  ((s.setObj Obj.PWR_WARN_ACTIVE (withBit (s.obj Obj.PWR_WARN_ACTIVE) r true)).openDip r voltage).railMoves r 0 1

theorem State.dipOpened_spec (s : State) (r : Fin 12) (voltage : Nat) :
    let t := s.dipOpened r voltage
    t.obj Obj.PWR_WARN_ACTIVE = withBit (s.obj Obj.PWR_WARN_ACTIVE) r true ∧
    t.obj (Obj.PWR_DIP_LOG 0) = packBytes [(1, r.val), (1, 0x80), (2, 0), (4, voltage), (4, 0), (4, s.tick)] ∧
    (∀ k, k < 15 → t.obj (Obj.PWR_DIP_LOG (k + 1)) = s.obj (Obj.PWR_DIP_LOG k)) ∧
    t.obj (Obj.PWR_RAIL_STATE r) = (if s.obj (Obj.PWR_RAIL_STATE r) = 0 then 1 else s.obj (Obj.PWR_RAIL_STATE r)) ∧ s.sameButObjects t := by
  let s1 := s.setObj Obj.PWR_WARN_ACTIVE (withBit (s.obj Obj.PWR_WARN_ACTIVE) r true)
  obtain ⟨hfirst, hmoved, hkept, hframe⟩ := s1.openDip_spec r voltage
  obtain ⟨mrail, mobj, mframe⟩ := (s1.openDip r voltage).railMoves_spec r 0 1
  have hrail : (s1.openDip r voltage).obj (Obj.PWR_RAIL_STATE r) = s.obj (Obj.PWR_RAIL_STATE r) :=
    (hkept _ (railState_ne_dipLog r)).trans (s.obj_setObj_ne _ (by simp))
  rw [hrail] at mrail
  exact ⟨(mobj _ (by simp)).trans ((hkept _ (by simp)).trans (s.obj_setObj_same _ _)), (mobj _ (railState_ne_dipLog r 0).symm).trans hfirst,
    fun k hk => (mobj _ (railState_ne_dipLog r (k + 1)).symm).trans ((hmoved k hk).trans (s.obj_setObj_ne _ (by simp))), mrail,
    ((s.setObj_sameButObjects _ _).trans hframe).trans mframe⟩

theorem State.forgetsWarned_keeps (t : State) (p : Prop) [Decidable p] :
    (if p then t.withSec fun x => { x with warned := false } else t).obj = t.obj ∧
    (if p then t.withSec fun x => { x with warned := false } else t).changes = t.changes ∧
    (if p then t.withSec fun x => { x with warned := false } else t).tick = t.tick := by
  split
  · exact ⟨rfl, rfl, rfl⟩
  · exact ⟨rfl, rfl, rfl⟩

/-- The first dip of a warning is news to the sealed links as well. -/
def State.dipSeen (s : State) (r voltage : Nat) : State :=
  if s.obj Obj.PWR_WARN_ACTIVE = 0 then (s.dipOpened r voltage).withSec fun x => { x with warned := false } else s.dipOpened r voltage

theorem State.dipSeen_keeps (s : State) (r voltage : Nat) : (s.dipSeen r voltage).obj = (s.dipOpened r voltage).obj ∧
    (s.dipSeen r voltage).changes = (s.dipOpened r voltage).changes ∧ (s.dipSeen r voltage).tick = (s.dipOpened r voltage).tick :=
  (s.dipOpened r voltage).forgetsWarned_keeps _

/-- A warning, with its dip and its event. -/
def State.dipWarned (s : State) (r voltage : Nat) : State := (s.dipSeen r voltage).raise Ev.SUPPLY_WARN [r, 1, voltage, 0]

theorem State.dipWarned_obj (s : State) (r voltage : Nat) : (s.dipWarned r voltage).obj = (s.dipOpened r voltage).obj := by
  have h := (s.dipSeen_keeps r voltage).1
  unfold State.dipWarned
  generalize s.dipSeen r voltage = t at h ⊢
  exact h

theorem State.dipWarned_changes (s : State) (r : Fin 12) (voltage : Nat) : (s.dipWarned r voltage).changes =
    s.changes ++ [⟨Ev.SUPPLY_WARN.code, false, s.tick, contentOf Ev.SUPPLY_WARN.widths [r.val, 1, voltage, 0]⟩] := by
  obtain ⟨-, hchanges, htick⟩ := s.dipSeen_keeps r voltage
  obtain ⟨-, -, -, -, hframe⟩ := s.dipOpened_spec r voltage
  rw [hframe] at hchanges htick
  unfold State.dipWarned State.raise
  generalize s.dipSeen r voltage = t at hchanges htick ⊢
  change t.changes ++ [⟨_, _, t.tick, _⟩] = _
  rw [hchanges, htick]

theorem exec_supplyWarning_warns {voltage samples : Nat}
    (h : s.armed r = true ∧ 2 ≤ samples ∧ voltage < s.warnLevel r ∧ bit (s.obj Obj.PWR_WARN_ACTIVE) r = false) :
    exec (.supplyWarning r voltage samples) s = .next (s.dipWarned r voltage) := by
  exact if_pos h

/-- Eight ticks above the recovery level close it. -/
def State.dipClosed (s : State) (r minimum : Nat) : State :=
  (((s.closeDip r minimum).1.setObj Obj.PWR_WARN_ACTIVE (withBit (s.obj Obj.PWR_WARN_ACTIVE) r false)).bump (Obj.PWR_DIP_COUNT r)).railMoves r 1 0

theorem State.dipClosed_spec (s : State) (r : Fin 12) (minimum : Nat) :
    let t := s.dipClosed r minimum
    t.obj Obj.PWR_WARN_ACTIVE = withBit (s.obj Obj.PWR_WARN_ACTIVE) r false ∧
    t.obj (Obj.PWR_DIP_COUNT r) = u64 (s.obj (Obj.PWR_DIP_COUNT r) + 1) ∧
    t.obj (Obj.PWR_RAIL_STATE r) = (if s.obj (Obj.PWR_RAIL_STATE r) = 1 then 0 else s.obj (Obj.PWR_RAIL_STATE r)) ∧ s.sameButObjects t := by
  obtain ⟨hkept, hframe⟩ := s.closeDip_spec r minimum
  let s2 := (s.closeDip r minimum).1.setObj Obj.PWR_WARN_ACTIVE (withBit (s.obj Obj.PWR_WARN_ACTIVE) r false)
  obtain ⟨mrail, mobj, mframe⟩ := (s2.bump (Obj.PWR_DIP_COUNT r)).railMoves_spec r 1 0
  have hcount : s2.obj (Obj.PWR_DIP_COUNT r) = s.obj (Obj.PWR_DIP_COUNT r) :=
    (State.obj_setObj_ne _ _ (by simp)).trans (hkept _ fun x => by simp)
  have hrail : (s2.bump (Obj.PWR_DIP_COUNT r)).obj (Obj.PWR_RAIL_STATE r) = s.obj (Obj.PWR_RAIL_STATE r) :=
    (s2.obj_bump_ne 1 (by simp)).trans ((State.obj_setObj_ne _ _ (by simp)).trans (hkept _ (railState_ne_dipLog r)))
  rw [hrail] at mrail
  refine ⟨(mobj _ (by simp)).trans ((s2.obj_bump_ne 1 (by simp)).trans (State.obj_setObj_same _ _ _)),
    (mobj _ (by simp)).trans ((s2.obj_bump_same _ 1).trans (by rw [hcount])), mrail,
    ((hframe.andSetObj _ _).trans (State.setObj_sameButObjects _ _ _)).trans mframe⟩

/-- The close of a dip is reported with its minimum and its length. -/
def State.recovered (s : State) (r minimum : Nat) : State := (s.dipClosed r minimum).raise Ev.SUPPLY_WARN [r, 0, minimum, (s.closeDip r minimum).2]

theorem State.recovered_spec (s : State) (r : Fin 12) (minimum : Nat) :
    let t := s.recovered r minimum
    t.obj Obj.PWR_WARN_ACTIVE = withBit (s.obj Obj.PWR_WARN_ACTIVE) r false ∧
    t.obj (Obj.PWR_DIP_COUNT r) = u64 (s.obj (Obj.PWR_DIP_COUNT r) + 1) ∧
    t.obj (Obj.PWR_RAIL_STATE r) = (if s.obj (Obj.PWR_RAIL_STATE r) = 1 then 0 else s.obj (Obj.PWR_RAIL_STATE r)) ∧
    t.changes = s.changes ++ [⟨Ev.SUPPLY_WARN.code, false, s.tick, contentOf Ev.SUPPLY_WARN.widths [r, 0, minimum, (s.closeDip r minimum).2]⟩] ∧
    t = { s with reg := t.reg, changes := t.changes } := by
  obtain ⟨hwarn, hcount, hrail, hframe⟩ := s.dipClosed_spec r minimum
  unfold State.recovered State.raise
  generalize s.dipClosed r minimum = t at hwarn hcount hrail hframe ⊢
  have hchanges : t.changes = s.changes := by rw [hframe]
  have htick : t.tick = s.tick := by rw [hframe]
  refine ⟨hwarn, hcount, hrail, by rw [hchanges, htick], ?_⟩
  rw [hframe]

/-- Once no rail is at its warning level, what waited for that goes on; the warnings stay. -/
def State.warningsOver (w : State) : State :=
  ([0, 1, 2, 3].foldl (fun (x : State) e => match (x.engine e).cal with
    | some (_, .complete (some _)) => x.plan (x.now + 1) (.calCommit e)
    | _ => x) w).resumeSwap

theorem State.obj_resumeSwap (s : State) {k : Key} (h : k ≠ Obj.SHD_SWAP_EPOCH) : s.resumeSwap.obj k = s.obj k := by
  unfold State.resumeSwap
  split
  · rfl
  split
  · rfl
  · exact s.obj_setObj_ne _ h

theorem State.obj_warningsOver (w : State) : w.warningsOver.obj Obj.PWR_WARN_ACTIVE = w.obj Obj.PWR_WARN_ACTIVE := by
  refine (State.obj_resumeSwap _ (by simp)).trans ?_
  refine List.foldlRecOn (motive := fun x : State => x.obj Obj.PWR_WARN_ACTIVE = w.obj Obj.PWR_WARN_ACTIVE) _ _ rfl fun x hx e _ => ?_
  split
  · exact hx
  · exact hx

theorem exec_supplyRecover_ends {voltage minimum ticks : Nat} (h : bit (s.obj Obj.PWR_WARN_ACTIVE) r = true ∧ 8 ≤ ticks ∧ s.recoverLevel r ≤ voltage) :
    exec (.supplyRecover r voltage minimum ticks) s =
      if (s.recovered r minimum).obj Obj.PWR_WARN_ACTIVE ≠ 0 then .next (s.recovered r minimum) else .next (s.recovered r minimum).warningsOver :=
  if_pos h

/-! ## The reset of the supplies (R501) -/

theorem State.deviceReset_slotB (s : State) (cause held : Nat) :
    (s.deviceReset cause held).mc.slotB = if s.mc.programming.map (·.1) = some 2 then none else s.mc.slotB := by
  unfold State.deviceReset
  extract_lets otp slot src bar r u
  have hu : u.mc = r.mc := foldl_keeps (f := fun u k => u.setObj k (s.obj k)) (fun v : State => v.mc) (fun _ _ => rfl) otp r
  split
  · exact congrArg Mc.slotB hu
  · exact congrArg Mc.slotB hu

theorem State.deviceReset_sets (s : State) (cause held : Nat) :
    (s.deviceReset cause held).running = false ∧ (s.deviceReset cause held).bar.bootCause = cause ∧
    (s.deviceReset cause held).act = State.reset.act ∧ (s.deviceReset cause held).shd = State.reset.shd := by
  obtain ⟨hframe, -⟩ := s.deviceReset_frame cause held
  rw [hframe]
  exact ⟨rfl, rfl, rfl, rfl⟩

/-- Measurements only add to the Onion log. -/
theorem State.measureImage_count (s : State) (x : FwImage) : s.obj Obj.ONION_COUNT < (s.measureImage x).obj Obj.ONION_COUNT := by
  unfold State.measureImage
  extract_lets t
  have ht : t.obj Obj.ONION_COUNT = s.obj Obj.ONION_COUNT + 1 := s.obj_measure_count 3 x.digest
  split
  · rw [t.obj_measure_count, ht]
    omega
  · omega

theorem State.enterImage_count (s : State) (x : FwImage) : s.obj Obj.ONION_COUNT < (s.enterImage x).obj Obj.ONION_COUNT := by
  have h := (s.setBoot 2 s.bar.bootCause 0).measureImage_count x
  have hrun : (s.enterImage x).obj Obj.ONION_COUNT = ((s.setBoot 2 s.bar.bootCause 0).measureImage x).obj Obj.ONION_COUNT := by
    simp [State.enterImage, State.runImage]
  rw [hrun]
  exact h

theorem State.loadSource_count (s : State) : s.obj Obj.ONION_COUNT ≤ s.loadSource.obj Obj.ONION_COUNT := by
  have slot (x : Option FwImage) : s.obj Obj.ONION_COUNT ≤ (match x with | some i => s.enterImage i | none => s).obj Obj.ONION_COUNT := by
    cases x with
    | none => exact Nat.le_refl _
    | some i => exact (s.enterImage_count i).le
  by_cases hsrc : s.mc.source = 1
  · rw [State.loadSource_pcie hsrc]
    exact Nat.le_refl _
  · rw [State.loadSource_flash hsrc]
    split
    · exact slot _
    split
    · exact slot _
    split
    · exact Nat.le_refl _
    · exact Nat.le_refl _

theorem BootWork.held {s t : State} (h : BootWork s t) : t.mc.held = s.mc.held := by
  rw [h.latched]

/-- Steps 2 to 7 of a boot measure. -/
theorem State.bootRom_count (s : State) : s.obj Obj.ONION_COUNT < s.bootRom.obj Obj.ONION_COUNT := by
  have hcount : s.romMeasured.obj Obj.ONION_COUNT = s.obj Obj.ONION_COUNT + 2 := by
    unfold State.romMeasured
    extract_lets t
    rw [State.obj_measure_count, State.obj_measure_count]
    simp [t]
  have hload := s.romMeasured.loadSource_count
  rw [State.bootRom_eq]
  omega

/-- Supplies that stand for 1,000 samples release the reset, and the device boots. -/
theorem exec_supplyResetRelease_boots {samples : Nat} (h : s.mc.held = 2 ∧ 1000 ≤ samples) :
    exec (.supplyResetRelease samples) s = .next (s.withMc fun m => { m with held := 0 }).bootRom := by
  change execSupplyResetRelease samples s = _
  unfold execSupplyResetRelease
  exact if_pos h

end

/-- Settles O56, each command by its equation: an acknowledgement, a timeout and its retry, an adaptive step, a dip that opens or closes, the reset. -/
theorem railsFollowTheirRegulators : Obligations.RailsFollowTheirRegulators := by
  intro r s
  dsimp only
  refine ⟨fun hnone => ⟨?_, fun ticks => ?_⟩, fun q hq h3 h1 hwait => ?_, fun q d hq hk hw hr hd h0 => ?_, fun q ticks hq => ⟨exec_regulatorTimeout_early hq, fun ht => ?_⟩,
    rfl, fun rq x val v h => ⟨fun hno => ?_, fun q h2 hf => ?_⟩, fun up => ⟨fun h => ?_, fun h => ?_⟩, fun voltage samples => ⟨fun h => ?_, fun h => if_neg h⟩,
    fun voltage minimum ticks => ⟨fun h hne => ?_, fun h => ?_, fun h => if_neg h⟩, fun voltage samples => ⟨fun h => ?_, fun h => if_neg h⟩,
    fun samples => ⟨fun hheld hs => ?_, fun hno => if_neg (by omega)⟩⟩
  · change execRegulatorAck r s = _
    unfold execRegulatorAck
    rw [hnone]
  · change execRegulatorTimeout r ticks s = _
    unfold execRegulatorTimeout
    rw [hnone]
  · obtain ⟨hask, hset, hstate, hobj, hframe, -, hquiet⟩ := s.railAcked_spec r q
    obtain ⟨ramp, hramp⟩ := (s.railAcked r q).nextRamp_frame
    refine ⟨(s.railAcked r q).nextRamp, ?_, ?_⟩
    · rw [exec_regulatorAck_asked hq, if_pos hwait, State.quiescentAck_awake]
      · rw [hramp]
        exact fun e => h1 (hquiet ▸ e)
      · rw [hramp]
        exact fun e => h3 (hquiet ▸ e)
    · rw [hramp]
      refine ⟨hask, hset, hstate, hobj, ?_⟩
      rw [hframe]
      rfl
  · have hr0 : r = 0 := Fin.ext hr
    subst hr0
    obtain ⟨-, hset, -, -, -, hdoms, hquiet⟩ := s.railAcked_spec 0 q
    have hraising : (s.railAcked 0 q).raising = s.raising := State.raising_eq hdoms
    obtain ⟨hramping, hraise⟩ := State.foldl_raised hd (s.railAcked 0 q)
    have hset' := State.foldl_raised_obj s.raising (s.railAcked 0 q) (Obj.PWR_RAIL_SET 0)
    have hquiet' := State.foldl_raised_quiescent s.raising (s.railAcked 0 q)
    have hexec := exec_regulatorAck_asked (r := 0) hq
    rw [if_neg (by simp [List.ne_nil_of_mem hd])] at hexec
    change exec _ s = .next ((s.railAcked 0 q).coreRaised q).nextRamp.quiescentAck at hexec
    rw [State.coreRaised_wake hw, hraising] at hexec
    generalize s.raising.foldl (fun v i => v.withDom i DomRun.raised) (s.railAcked 0 q) = t at hramping hraise hset' hquiet' hexec
    obtain ⟨ramp, hramp⟩ := t.nextRamp_frame
    have hawake : t.nextRamp.power.quiescent = 0 := by rw [hramp]; exact (hquiet'.trans hquiet).trans h0
    rw [State.quiescentAck_awake (by simp [hawake]) (by simp [hawake]), hramp] at hexec
    exact ⟨_, hexec, (hset'.trans hset).trans (if_neg (by simp [hk])), hramping, hraise⟩
  · obtain ⟨hfault, hdoms⟩ := s.timedOut_spec r q
    refine ⟨_, exec_regulatorTimeout_late hq ht, ?_⟩
    generalize s.timedOut r q = v at hfault hdoms
    split
    · obtain ⟨hst, hask, hfail, hev⟩ := v.abandonQuiescent_atFault hfault
      exact ⟨hst, hask, hfail, hev, fun h0 d hd => (v.obj_abandonQuiescent _).trans (hdoms h0 d hd)⟩
    · obtain ⟨hst, hask, hfail, hev⟩ := hfault
      exact ⟨hst, hask, hfail, hev, hdoms⟩
  · refine congrArg Host.Outcome.next (serveWrite_refused h acceptPower (acceptPower_retry_refused ?_ v))
    rwa [s.obj_served' rq x (by simp), State.power_served]
  · have hacc := acceptPower_retry_failed (s := s.served rq x) (r := r) (q := q) (by rwa [s.obj_served' rq x (by simp)])
      (by rwa [State.power_served]) v
    have hask : (s.served rq x).railRequest r = s.railRequest r := by
      unfold State.railRequest
      rw [State.power_served]
    rw [hask, State.now_served] at hacc
    refine congrArg Host.Outcome.next ?_
    split
    next hsome => exact serveWrite_refused h acceptPower (hacc.trans (if_pos hsome))
    next hnone => exact serveWrite_accepted h acceptPower (hacc.trans (if_neg hnone))
  · exact ⟨_, (exec_avsStep_checks s up).trans (if_pos ((s.avsChecks_iff up).mpr h)), s.railRequest_setRequest_same 0 (some _), rfl, rfl⟩
  · exact (exec_avsStep_checks s up).trans (if_neg (mt (s.avsChecks_iff up).mp h))
  · obtain ⟨hwarn, hfirst, hmoved, hrail, -⟩ := s.dipOpened_spec r voltage
    rw [← s.dipWarned_obj r voltage] at hwarn hfirst hmoved hrail
    exact ⟨_, exec_supplyWarning_warns h, hwarn, hfirst, hmoved, hrail, s.dipWarned_changes r voltage⟩
  · have hspec := s.recovered_spec r minimum
    exact ⟨s.recovered r minimum, (exec_supplyRecover_ends h).trans (if_pos (hspec.1.trans_ne hne)), hspec⟩
  · obtain ⟨hwarn, -⟩ := s.recovered_spec r minimum
    rw [exec_supplyRecover_ends h]
    generalize s.recovered r minimum = t at hwarn ⊢
    have hbit : bit (t.obj Obj.PWR_WARN_ACTIVE) r = false := by
      rw [hwarn, bit_withBit]
      exact if_pos rfl
    split
    · exact ⟨_, rfl, hbit⟩
    · exact ⟨_, rfl, by rwa [State.obj_warningsOver]⟩
  · obtain ⟨hrunning, hcause, hact, hshd⟩ := s.deviceReset_sets 3 2
    exact ⟨_, if_pos h, (s.deviceReset_frame 3 2).2.1, hrunning, hcause, hact, hshd, s.deviceReset_slotB 3 2⟩
  · have hheld' := (s.withMc fun m => { m with held := 0 }).bootRom_work.held
    have hcount := (s.withMc fun m => { m with held := 0 }).bootRom_count
    refine ⟨_, exec_supplyResetRelease_boots ⟨hheld, hs⟩, ?_⟩
    generalize (s.withMc fun m => { m with held := 0 }).bootRom = t at hheld' hcount ⊢
    exact ⟨hheld', Nat.ne_of_gt hcount⟩
end Sys2Proof.Machine
end

section
/-! PROOFS. The housekeeping monitor: results, sequences and triggers (O47). -/

namespace Sys2Proof.Machine

/-! ## The ring of results (R391) -/

section
variable {s : State}

/-- The ring of results and its indices. -/
def hkRing (k : Key) : Prop := k.c = 0x51 ∧ k.i = 0xFF

theorem State.hkPush_spec (s : State) (w : Nat) :
    (s.hkPush w).obj (Obj.HK_RING (s.obj Obj.HK_RING_WR)) = w ∧ (s.hkPush w).obj Obj.HK_RING_WR = (s.obj Obj.HK_RING_WR + 1) % 16384 ∧
    (16384 ≤ s.instr.ringWords → (s.hkPush w).obj Obj.HK_RING_OVF = u64 (s.obj Obj.HK_RING_OVF + 1)) := by
  unfold State.hkPush
  extract_lets k t
  have hring : t.obj (Obj.HK_RING k) = w := by simp [t]
  have hwr : t.obj Obj.HK_RING_WR = (k + 1) % 16384 := by simp [t]
  have hovf : t.obj Obj.HK_RING_OVF = s.obj Obj.HK_RING_OVF := by simp [t]
  split
  next hfull => exact ⟨(t.obj_bump_ne 1 (by simp)).trans hring, (t.obj_bump_ne 1 (by simp)).trans hwr, fun _ => (t.obj_bump_same _ 1).trans (by rw [hovf])⟩
  next hroom => exact ⟨hring, hwr, fun h => absurd h hroom⟩

/-- A word in the ring moves nothing else. -/
theorem State.obj_hkPush (s : State) (w : Nat) {k : Key} (h : ¬ hkRing k) : (s.hkPush w).obj k = s.obj k := by
  have hne {m x : Nat} : k ≠ ⟨0x51, 0xFF, m, x⟩ := fun e => h (by rw [e]; exact ⟨rfl, rfl⟩)
  unfold State.hkPush
  extract_lets n t
  have ht : t.obj k = s.obj k := by simp [t, hne]
  split
  · exact (t.obj_bump_ne 1 hne).trans ht
  · exact ht

theorem State.obj_hkPush_entry (s : State) (w : Nat) {k : Nat} (h : k ≠ s.obj Obj.HK_RING_WR) : (s.hkPush w).obj (Obj.HK_RING k) = s.obj (Obj.HK_RING k) := by
  unfold State.hkPush
  extract_lets n t
  have ht : t.obj (Obj.HK_RING k) = s.obj (Obj.HK_RING k) := by simp [t, n, h]
  split
  · exact (t.obj_bump_ne 1 (by simp)).trans ht
  · exact ht

theorem State.hkPush_frame (s : State) (w : Nat) :
    s.hkPush w = { s with reg := (s.hkPush w).reg, instr := { s.instr with ringWords := (s.hkPush w).instr.ringWords } } := by
  unfold State.hkPush
  extract_lets n t
  split
  · rfl
  · rfl

theorem State.hk_hkPush (s : State) (w m : Nat) : (s.hkPush w).hk m = s.hk m := by
  rw [s.hkPush_frame w]
  rfl

theorem State.hk_hkMark (s : State) (m code m' : Nat) : (s.hkMark m code).hk m' = s.hk m' := s.hk_hkPush _ m'

/-! ## Sequences (R384, R385) -/

/-- A step begins with its channel's debt and its own run; no object changes. -/
theorem State.enterStep_spec (s : State) (m x : Nat) : (s.enterStep m x).obj = s.obj ∧ (s.enterStep m x).changes = s.changes ∧
    (s.enterStep m x).instr.disarmed = s.instr.disarmed ∧ ((s.enterStep m x).hk m).count = (s.hk m).count := by
  unfold State.enterStep
  extract_lets y v t
  have hcount : (t.hk m).count = (s.hk m).count := by simp [t]
  split
  · exact ⟨rfl, rfl, rfl, hcount⟩
  · exact ⟨rfl, rfl, rfl, hcount⟩

/-- A sequence that starts. -/
theorem State.startSeq_spec (s : State) (m : Nat) : (s.startSeq m).obj (Obj.HK_SEQ_STATE m) = 1 ∧
    ((s.startSeq m).hk m).count = ((s.hk m).count + 1) % 65536 ∧
    (∀ k, ¬ hkRing k → k ≠ Obj.HK_SEQ_STATE m → (s.startSeq m).obj k = s.obj k) ∧
    (∀ k, k ≠ s.obj Obj.HK_RING_WR → (s.startSeq m).obj (Obj.HK_RING k) = s.obj (Obj.HK_RING k)) := by
  let t := s.withHk m fun r => { r with count := (r.count + 1) % 65536 }
  obtain ⟨hobj, -, -, hcount⟩ := (t.hkMark m 1).enterStep_spec m 0
  have hs : s.startSeq m = ((t.hkMark m 1).enterStep m 0).setObj (Obj.HK_SEQ_STATE m) 1 := rfl
  have hcount' : (t.hk m).count = ((s.hk m).count + 1) % 65536 := congrArg HkRun.count (s.hk_withHk_same m _)
  rw [hs]
  refine ⟨State.obj_setObj_same _ _ _, (hcount.trans (congrArg HkRun.count (t.hk_hkMark m 1 m))).trans hcount', fun k hk hne => ?_, fun k hk => ?_⟩
  · rw [State.obj_setObj_ne _ _ hne, hobj]
    exact t.obj_hkPush _ hk
  · rw [State.obj_setObj_ne _ _ (by simp), hobj]
    exact t.obj_hkPush_entry _ hk

theorem hkSeq_not_ring (m j x : Nat) : ¬ (hkRing ⟨0x51, 0x100 + m, j, x⟩) := fun h => by
  have : 0x100 + m = 0xFF := h.2
  omega

variable {m : Nat}

theorem State.endSeq_waits (h : s.obj (Obj.HK_SEQ_STATE m) = 0 ∨ (s.hk m).step < 16 ∨ s.hkIgnored m = true) : s.endSeq m = s := if_pos h

/-- A sequence that has yielded its last result. -/
theorem State.endSeq_ends (h0 : s.obj (Obj.HK_SEQ_STATE m) ≠ 0) (h16 : 16 ≤ (s.hk m).step) (hi : s.hkIgnored m = false) :
    s.endSeq m = if s.obj (Obj.HK_SEQ_MODE m) = 1 ∨ s.obj (Obj.HK_SEQ_STATE m) = 2 then (s.hkMark m 2).startSeq m
      else (s.hkMark m 2).setObj (Obj.HK_SEQ_STATE m) 0 :=
  if_neg (by simp [h0, hi]; omega)

/-- The marker of its end is in the ring, and it starts again or stops. -/
theorem State.endSeq_spec (h0 : s.obj (Obj.HK_SEQ_STATE m) ≠ 0) (h16 : 16 ≤ (s.hk m).step) (hi : s.hkIgnored m = false) :
    (s.endSeq m).obj (Obj.HK_RING (s.obj Obj.HK_RING_WR)) = 63 * 2 ^ 24 + m * 2 ^ 20 + 2 * 2 ^ 16 + (s.hk m).count % 2 ^ 16 ∧
    (s.obj (Obj.HK_SEQ_MODE m) = 1 ∨ s.obj (Obj.HK_SEQ_STATE m) = 2 →
      (s.endSeq m).obj (Obj.HK_SEQ_STATE m) = 1 ∧ ((s.endSeq m).hk m).count = ((s.hk m).count + 1) % 65536) ∧
    (s.obj (Obj.HK_SEQ_MODE m) ≠ 1 → s.obj (Obj.HK_SEQ_STATE m) ≠ 2 → (s.endSeq m).obj (Obj.HK_SEQ_STATE m) = 0 ∧ (s.endSeq m).hk m = s.hk m) := by
  obtain ⟨hring, hwr, -⟩ := s.hkPush_spec (63 * 2 ^ 24 + m * 2 ^ 20 + 2 * 2 ^ 16 + (s.hk m).count % 2 ^ 16)
  have hcount := s.hk_hkMark m 2 m
  rw [State.endSeq_ends h0 h16 hi]
  change (s.hkMark m 2).obj _ = _ at hring hwr
  generalize s.hkMark m 2 = u at hring hwr hcount ⊢
  by_cases h : s.obj (Obj.HK_SEQ_MODE m) = 1 ∨ s.obj (Obj.HK_SEQ_STATE m) = 2
  · obtain ⟨hst, hc, -, hentry⟩ := u.startSeq_spec m
    rw [if_pos h]
    refine ⟨(hentry _ fun e => ?_).trans hring, fun _ => ⟨hst, hc.trans (by rw [hcount])⟩, fun h1 h2 => absurd h (by omega)⟩
    omega
  · rw [if_neg h]
    exact ⟨(State.obj_setObj_ne _ _ (by simp)).trans hring, fun h' => absurd h' h, fun _ _ => ⟨State.obj_setObj_same _ _ _, hcount⟩⟩

theorem State.hkTake_idle (h : s.obj (Obj.HK_SEQ_STATE m) = 0) : s.hkTake m = s.startSeq m := if_pos h

theorem State.hkTake_restarts (h0 : s.obj (Obj.HK_SEQ_STATE m) ≠ 0) (hp : s.obj (Obj.HK_SEQ_POLICY m) = 1) :
    (s.hkTake m).obj (Obj.HK_SEQ_STATE m) = 1 ∧ (s.hkTake m).obj (Obj.HK_SEQ_PARTIAL m) = u64 (s.obj (Obj.HK_SEQ_PARTIAL m) + 1) := by
  have ht : s.hkTake m = ((s.hkMark m 3).bump (Obj.HK_SEQ_PARTIAL m)).startSeq m := (if_neg h0).trans (if_pos hp)
  obtain ⟨hst, -, hobj, -⟩ := ((s.hkMark m 3).bump (Obj.HK_SEQ_PARTIAL m)).startSeq_spec m
  rw [ht]
  refine ⟨hst, (hobj _ (hkSeq_not_ring m _ _) (by simp)).trans ((State.obj_bump_same _ _ 1).trans ?_)⟩
  exact congrArg (fun v => u64 (v + 1)) (s.obj_hkPush _ (hkSeq_not_ring m _ _))

theorem State.hkTake_waits (h1 : s.obj (Obj.HK_SEQ_STATE m) = 1) (hp : s.obj (Obj.HK_SEQ_POLICY m) ≠ 1) :
    s.hkTake m = s.setObj (Obj.HK_SEQ_STATE m) 2 :=
  (if_neg (by omega)).trans ((if_neg hp).trans (if_pos h1))

theorem State.hkTake_overruns (h0 : s.obj (Obj.HK_SEQ_STATE m) ≠ 0) (h1 : s.obj (Obj.HK_SEQ_STATE m) ≠ 1) (hp : s.obj (Obj.HK_SEQ_POLICY m) ≠ 1) :
    (s.hkTake m).obj (Obj.HK_SEQ_STATE m) = s.obj (Obj.HK_SEQ_STATE m) ∧
    (s.hkTake m).obj (Obj.HK_SEQ_OVERRUN m) = u64 (s.obj (Obj.HK_SEQ_OVERRUN m) + 1) := by
  let t := (s.bump (Obj.HK_SEQ_OVERRUN m)).hkMark m 4
  have ht : s.hkTake m = if (t.hk m).overrunEpoch = t.epoch + 1 then t
      else (t.withHk m fun r => { r with overrunEpoch := t.epoch + 1 }).raise Ev.HK_OVERRUN [m, t.obj (Obj.HK_SEQ_OVERRUN m)] :=
    (if_neg h0).trans ((if_neg hp).trans (if_neg h1))
  have hst : t.obj (Obj.HK_SEQ_STATE m) = s.obj (Obj.HK_SEQ_STATE m) :=
    ((s.bump (Obj.HK_SEQ_OVERRUN m)).obj_hkPush _ (hkSeq_not_ring m _ _)).trans (s.obj_bump_ne 1 (by simp))
  have hov : t.obj (Obj.HK_SEQ_OVERRUN m) = u64 (s.obj (Obj.HK_SEQ_OVERRUN m) + 1) :=
    ((s.bump (Obj.HK_SEQ_OVERRUN m)).obj_hkPush _ (hkSeq_not_ring m _ _)).trans (s.obj_bump_same _ 1)
  rw [ht]
  split
  · exact ⟨hst, hov⟩
  · exact ⟨hst, hov⟩

theorem State.hkTrigger_ignored (h : s.obj (Obj.HK_SEQ_MODE m) ≠ 2 ∨ s.hkIgnored m = true) : s.hkTrigger m = s := if_pos h

theorem State.hkTrigger_taken (h2 : s.obj (Obj.HK_SEQ_MODE m) = 2) (hi : s.hkIgnored m = false) : s.hkTrigger m = (s.endSeq m).hkTake m :=
  if_neg (by simp [h2, hi])

/-- A trigger that finds no sequence, or one whose last result is in, starts one. -/
theorem State.hkTrigger_starts (h2 : s.obj (Obj.HK_SEQ_MODE m) = 2) (hi : s.hkIgnored m = false)
    (h : s.obj (Obj.HK_SEQ_STATE m) = 0 ∨ (s.obj (Obj.HK_SEQ_STATE m) = 1 ∧ 16 ≤ (s.hk m).step)) :
    (s.hkTrigger m).obj (Obj.HK_SEQ_STATE m) = 1 ∧ ((s.hkTrigger m).hk m).count = ((s.hk m).count + 1) % 65536 := by
  rw [State.hkTrigger_taken h2 hi]
  obtain h0 | ⟨h1, h16⟩ := h
  · rw [State.endSeq_waits (.inl h0), State.hkTake_idle h0]
    obtain ⟨hst, hcount, -⟩ := s.startSeq_spec m
    exact ⟨hst, hcount⟩
  · rw [State.endSeq_ends (by omega) h16 hi, if_neg (by omega), State.hkTake_idle (State.obj_setObj_same _ _ _)]
    obtain ⟨hst, hcount, -⟩ := ((s.hkMark m 2).setObj (Obj.HK_SEQ_STATE m) 0).startSeq_spec m
    exact ⟨hst, hcount.trans (congrArg (fun r : HkRun => (r.count + 1) % 65536) (s.hk_hkMark m 2 m))⟩

/-- A trigger during a step finds the sequence as it is. -/
theorem State.hkTrigger_busy (h2 : s.obj (Obj.HK_SEQ_MODE m) = 2) (hi : s.hkIgnored m = false) (h : (s.hk m).step < 16) :
    s.hkTrigger m = s.hkTake m := by
  rw [State.hkTrigger_taken h2 hi, State.endSeq_waits (.inr (.inl h))]

/-! ### The time of the last period trigger -/

theorem State.enterStep_periodAt (s : State) (m x : Nat) : ((s.enterStep m x).hk m).periodAt = (s.hk m).periodAt := by
  unfold State.enterStep
  extract_lets y v t
  have ht : (t.hk m).periodAt = (s.hk m).periodAt := by simp [t]
  split
  · exact ht
  · exact ht

theorem State.startSeq_periodAt (s : State) (m : Nat) : ((s.startSeq m).hk m).periodAt = (s.hk m).periodAt := by
  let t := s.withHk m fun r => { r with count := (r.count + 1) % 65536 }
  have ht : (t.hk m).periodAt = (s.hk m).periodAt := by simp [t]
  exact ((t.hkMark m 1).enterStep_periodAt m 0).trans ((congrArg HkRun.periodAt (t.hk_hkMark m 1 m)).trans ht)

theorem State.endSeq_periodAt (s : State) (m : Nat) : ((s.endSeq m).hk m).periodAt = (s.hk m).periodAt := by
  have hmark := congrArg HkRun.periodAt (s.hk_hkMark m 2 m)
  unfold State.endSeq
  extract_lets t
  split
  · rfl
  · split
    · exact (t.startSeq_periodAt m).trans hmark
    · exact hmark

theorem State.hkTake_periodAt (s : State) (m : Nat) : ((s.hkTake m).hk m).periodAt = (s.hk m).periodAt := by
  unfold State.hkTake
  split
  · exact s.startSeq_periodAt m
  split
  · exact (State.startSeq_periodAt _ m).trans (congrArg HkRun.periodAt (s.hk_hkMark m 3 m))
  split
  · rfl
  · extract_lets t
    have ht : (t.hk m).periodAt = (s.hk m).periodAt := congrArg HkRun.periodAt ((s.bump (Obj.HK_SEQ_OVERRUN m)).hk_hkMark m 4 m)
    split
    · exact ht
    · have hkept : ((t.withHk m fun r => { r with overrunEpoch := t.epoch + 1 }).hk m).periodAt = (t.hk m).periodAt := by rw [State.hk_withHk_same]
      exact hkept.trans ht

theorem State.hkTrigger_periodAt (s : State) (m : Nat) : ((s.hkTrigger m).hk m).periodAt = (s.hk m).periodAt := by
  unfold State.hkTrigger
  split
  · rfl
  · exact ((s.endSeq m).hkTake_periodAt m).trans (s.endSeq_periodAt m)

end

/-! ## Results of a channel (R389, R391, R392) -/

section
variable {s t u : State} {c : Nat} {powered : Bool} {data : Int} {word : Nat}

/-- The comparator of a channel finds a result outside its window. -/
def State.hkOutside (s : State) (c : Nat) (z : Int) : Prop := z < s.objInt (Obj.HK_CH_LOW c) ∨ s.objInt (Obj.HK_CH_HIGH c) < z

/-- What a judgement, and what follows a result, leaves: the objects of the monitor, and the records before it. -/
structure KeepsResult (s t : State) : Prop where
  obj {k : Key} : k.c = 0x51 → t.obj k = s.obj k
  changes : s.changes <+: t.changes
  disarmed : t.instr.disarmed = s.instr.disarmed

theorem KeepsResult.refl (s : State) : KeepsResult s s := ⟨fun _ => rfl, List.prefix_rfl, rfl⟩

theorem State.loupeHit_keepsResult (s : State) (kind t : Nat) : KeepsResult s (s.loupeHit kind t) where
  obj h := s.obj_loupeHit kind t (by omega)
  changes := s.changes_loupeHit kind t
  disarmed := by
    unfold State.loupeHit
    split
    · rfl
    · rfl
    · rfl

theorem State.loupeHit_channels (s : State) (kind t : Nat) : (s.loupeHit kind t).instr.hk = s.instr.hk ∧ (s.loupeHit kind t).instr.invalid = s.instr.invalid := by
  unfold State.loupeHit
  split
  · exact ⟨rfl, rfl⟩
  · exact ⟨rfl, rfl⟩
  · exact ⟨rfl, rfl⟩

/-- A result outside its window is reported once, and disarms the comparator. -/
theorem State.judge_reports {z : Int} (h : s.hkOutside c z) (hc : c ∉ s.instr.disarmed) : ∃ t : State,
    KeepsResult t (s.judge c word z) ∧ c ∈ t.instr.disarmed ∧ (∀ k, t.obj k = s.obj k) ∧ t.changes = s.changes ++
      [⟨Ev.HK_WINDOW.code, false, s.tick, contentOf Ev.HK_WINDOW.widths [word]⟩] := by
  refine ⟨(s.withInstr fun i => { i with disarmed := c :: i.disarmed }).raise Ev.HK_WINDOW [word], ?_, List.mem_cons_self, fun _ => rfl, rfl⟩
  unfold State.hkOutside at h
  unfold State.judge
  extract_lets low high hyst t
  rw [if_pos h, if_neg (by simpa using hc)]
  split
  · exact t.loupeHit_keepsResult 3 _
  · exact .refl _

/-- A result well inside its window arms the comparator again. -/
theorem State.judge_arms {z : Int} (h : ¬ s.hkOutside c z)
    (hz : s.objInt (Obj.HK_CH_LOW c) + s.obj (Obj.HK_CH_HYST c) ≤ z ∧ z ≤ s.objInt (Obj.HK_CH_HIGH c) - s.obj (Obj.HK_CH_HYST c)) :
    c ∉ (s.judge c word z).instr.disarmed := by
  have ht : s.judge c word z = s.withInstr fun i => { i with disarmed := i.disarmed.filter (· ≠ c) } := (if_neg h).trans (if_pos hz)
  rw [ht]
  simp

/-- A judgement writes no object of the monitor. -/
theorem State.judge_keeps (s : State) (c word : Nat) (z : Int) : (∀ k : Key, k.c = 0x51 → (s.judge c word z).obj k = s.obj k) ∧
    (s.judge c word z).instr.hk = s.instr.hk ∧ (s.judge c word z).instr.invalid = s.instr.invalid := by
  unfold State.judge
  extract_lets low high hyst t
  split
  · split
    · exact ⟨fun _ _ => rfl, rfl, rfl⟩
    · split
      · exact ⟨fun k hk => (t.loupeHit_keepsResult 3 _).obj hk, t.loupeHit_channels 3 _⟩
      · exact ⟨fun _ _ => rfl, rfl, rfl⟩
  · split
    · exact ⟨fun _ _ => rfl, rfl, rfl⟩
    · exact ⟨fun _ _ => rfl, rfl, rfl⟩

/-- The word of a result in the ring and in HK_CH_LAST. -/
def State.hkRecorded (s : State) (c word : Nat) : State :=
  ((s.hkPush word).setObj (Obj.HK_CH_LAST c) word).withInstr fun i =>
    { i with invalid := Map.set 0 i.invalid (Key.unit c) (Map.get 0 s.instr.invalid (Key.unit c) - 1) }

theorem State.hkRecorded_frame (s : State) (c word : Nat) : (s.hkRecorded c word).instr.hk = s.instr.hk ∧
    (s.hkRecorded c word).instr.disarmed = s.instr.disarmed ∧ (s.hkRecorded c word).changes = s.changes ∧ (s.hkRecorded c word).tick = s.tick ∧
    Map.get 0 (s.hkRecorded c word).instr.invalid (Key.unit c) = Map.get 0 s.instr.invalid (Key.unit c) - 1 := by
  unfold State.hkRecorded
  rw [s.hkPush_frame word]
  exact ⟨rfl, rfl, rfl, rfl, Map.get_set_same _ _ _ _⟩

theorem State.obj_hkRecorded (s : State) (c word : Nat) {k : Key} (h : ¬ hkRing k) (hl : k ≠ Obj.HK_CH_LAST c) :
    (s.hkRecorded c word).obj k = s.obj k :=
  (State.obj_setObj_ne _ _ hl).trans (s.obj_hkPush word h)

/-- The result is in HK_CH_LAST and in the ring. -/
def HkShown (s t : State) (c word : Nat) : Prop :=
  t.obj (Obj.HK_CH_LAST c) = word ∧ t.obj (Obj.HK_RING (s.obj Obj.HK_RING_WR)) = word ∧ t.obj Obj.HK_RING_WR = (s.obj Obj.HK_RING_WR + 1) % 16384 ∧
    (16384 ≤ s.instr.ringWords → t.obj Obj.HK_RING_OVF = u64 (s.obj Obj.HK_RING_OVF + 1))

theorem HkShown.later (h : HkShown s u c word) (hobj : ∀ k : Key, k.c = 0x51 → t.obj k = u.obj k) : HkShown s t c word := by
  obtain ⟨hlast, hring, hwr, hovf⟩ := h
  exact ⟨(hobj _ rfl).trans hlast, (hobj _ rfl).trans hring, (hobj _ rfl).trans hwr, fun hfull => (hobj _ rfl).trans (hovf hfull)⟩

theorem State.hkRecorded_shown (s : State) {c : Nat} (hc : c < 64) (word : Nat) : HkShown s (s.hkRecorded c word) c word := by
  obtain ⟨hring, hwr, hovf⟩ := s.hkPush_spec word
  have hne {m x : Nat} : (⟨0x51, 0xFF, m, x⟩ : Key) ≠ Obj.HK_CH_LAST c := fun e => by
    have : 0xFF = c := congrArg Key.i e
    omega
  exact ⟨State.obj_setObj_same _ _ _, (State.obj_setObj_ne _ _ hne).trans hring, (State.obj_setObj_ne _ _ hne).trans hwr,
    fun h => (State.obj_setObj_ne _ _ hne).trans (hovf h)⟩

/-- A result is valid where its channel owes no invalid one and its input has power. -/
def State.hkValid (s : State) (c : Nat) (powered : Bool) : Prop := Map.get 0 s.instr.invalid (Key.unit c) = 0 ∧ powered = true

theorem State.hkConvert_eq (s : State) (c : Nat) (powered : Bool) (data : Int) (word : Nat)
    (hin : s.hkValid c powered → ¬ s.hkOutside c (s.hkScaled c data) → word = 2 ^ 31 + c * 2 ^ 24 + encode 3 (s.hkScaled c data))
    (hout : s.hkValid c powered → s.hkOutside c (s.hkScaled c data) → word = 2 ^ 31 + 2 ^ 30 + c * 2 ^ 24 + encode 3 (s.hkScaled c data))
    (hbad : ¬ s.hkValid c powered → word = c * 2 ^ 24 + encode 3 (s.hkScaled c data)) :
    (s.hkValid c powered → s.hkConvert c powered data = (s.hkRecorded c word).judge c word (s.hkScaled c data)) ∧
    (¬ s.hkValid c powered → s.hkConvert c powered data = s.hkRecorded c word) := by
  unfold State.hkConvert
  extract_lets owed z valid out word' t u
  have hvalid : valid = true ↔ s.hkValid c powered := by simp [valid, State.hkValid, owed]
  have hz : out = true ↔ s.hkValid c powered ∧ s.hkOutside c z := by simp [out, hvalid, State.hkOutside]
  have hword : word' = word := by
    by_cases hv : s.hkValid c powered
    · by_cases ho : s.hkOutside c z
      · rw [hout hv ho, show word' = valid.toNat * 2 ^ 31 + out.toNat * 2 ^ 30 + c * 2 ^ 24 + encode 3 z from rfl, hvalid.mpr hv, hz.mpr ⟨hv, ho⟩]
        simp [z]
      · rw [hin hv ho, show word' = valid.toNat * 2 ^ 31 + out.toNat * 2 ^ 30 + c * 2 ^ 24 + encode 3 z from rfl, hvalid.mpr hv,
          Bool.eq_false_iff.mpr fun h => ho (hz.mp h).2]
        simp [z]
    · rw [hbad hv, show word' = valid.toNat * 2 ^ 31 + out.toNat * 2 ^ 30 + c * 2 ^ 24 + encode 3 z from rfl, Bool.eq_false_iff.mpr fun h => hv (hvalid.mp h),
        Bool.eq_false_iff.mpr fun h => hv (hz.mp h).1]
      simp [z]
  have hu : u = s.hkRecorded c word := by rw [← hword]; rfl
  rw [hword, hu]
  exact ⟨fun h => if_pos (hvalid.mpr h), fun h => if_neg (mt hvalid.mp h)⟩

/-- The recorded word does not move the window. -/
theorem State.hkOutside_hkRecorded (s : State) {c : Nat} (hc : c < 64) (word : Nat) (z : Int) :
    ((s.hkRecorded c word).hkOutside c z ↔ s.hkOutside c z) ∧
    (s.hkRecorded c word).objInt (Obj.HK_CH_LOW c) = s.objInt (Obj.HK_CH_LOW c) ∧
    (s.hkRecorded c word).objInt (Obj.HK_CH_HIGH c) = s.objInt (Obj.HK_CH_HIGH c) ∧
    (s.hkRecorded c word).obj (Obj.HK_CH_HYST c) = s.obj (Obj.HK_CH_HYST c) := by
  have hkept {m : Nat} (hm : m ≠ 0x09) : (s.hkRecorded c word).obj ⟨0x51, c, m, 0⟩ = s.obj ⟨0x51, c, m, 0⟩ :=
    s.obj_hkRecorded c word (fun h => by have : c = 0xFF := h.2; omega) fun e => hm (congrArg Key.m e)
  have hlow : (s.hkRecorded c word).objInt (Obj.HK_CH_LOW c) = s.objInt (Obj.HK_CH_LOW c) := by
    unfold State.objInt
    rw [hkept (by decide)]
  have hhigh : (s.hkRecorded c word).objInt (Obj.HK_CH_HIGH c) = s.objInt (Obj.HK_CH_HIGH c) := by
    unfold State.objInt
    rw [hkept (by decide)]
  refine ⟨?_, hlow, hhigh, hkept (by decide)⟩
  unfold State.hkOutside
  rw [hlow, hhigh]

/-- A conversion, and what keeps its result: the word, and the comparator. -/
structure HkConverted (s t : State) (c : Nat) (powered : Bool) (z : Int) (word : Nat) : Prop where
  shown : HkShown s t c word
  reports : s.hkValid c powered → s.hkOutside c z → c ∉ s.instr.disarmed → c ∈ t.instr.disarmed ∧
    ⟨Ev.HK_WINDOW.code, false, s.tick, contentOf Ev.HK_WINDOW.widths [word]⟩ ∈ t.changes
  arms : s.hkValid c powered → ¬ s.hkOutside c z → s.objInt (Obj.HK_CH_LOW c) + s.obj (Obj.HK_CH_HYST c) ≤ z →
    z ≤ s.objInt (Obj.HK_CH_HIGH c) - s.obj (Obj.HK_CH_HYST c) → c ∉ t.instr.disarmed

theorem HkConverted.later {z : Int} (h : HkConverted s u c powered z word) (g : KeepsResult u t) : HkConverted s t c powered z word where
  shown := h.shown.later fun _ => g.obj
  reports hv ho hc := by
    obtain ⟨hd, hev⟩ := h.reports hv ho hc
    exact ⟨g.disarmed ▸ hd, g.changes.subset hev⟩
  arms hv ho hlow hhigh := g.disarmed ▸ h.arms hv ho hlow hhigh

theorem State.hkConvert_spec (s : State) {c : Nat} (hc : c < 64) (powered : Bool) (data : Int) (word : Nat)
    (hin : s.hkValid c powered → ¬ s.hkOutside c (s.hkScaled c data) → word = 2 ^ 31 + c * 2 ^ 24 + encode 3 (s.hkScaled c data))
    (hout : s.hkValid c powered → s.hkOutside c (s.hkScaled c data) → word = 2 ^ 31 + 2 ^ 30 + c * 2 ^ 24 + encode 3 (s.hkScaled c data))
    (hbad : ¬ s.hkValid c powered → word = c * 2 ^ 24 + encode 3 (s.hkScaled c data)) :
    HkConverted s (s.hkConvert c powered data) c powered (s.hkScaled c data) word ∧ (s.hkConvert c powered data).instr.hk = s.instr.hk ∧
    Map.get 0 (s.hkConvert c powered data).instr.invalid (Key.unit c) = Map.get 0 s.instr.invalid (Key.unit c) - 1 := by
  obtain ⟨hgood, hpoor⟩ := s.hkConvert_eq c powered data word hin hout hbad
  obtain ⟨rhk, rdis, rchg, rtick, rinv⟩ := s.hkRecorded_frame c word
  obtain ⟨hoff, hlow, hhigh, hhyst⟩ := s.hkOutside_hkRecorded hc word (s.hkScaled c data)
  have hshown := s.hkRecorded_shown hc word
  generalize s.hkRecorded c word = r at hgood hpoor rhk rdis rchg rtick rinv hoff hlow hhigh hhyst hshown
  generalize s.hkScaled c data = z at hgood hoff ⊢
  by_cases hv : s.hkValid c powered
  · rw [hgood hv]
    obtain ⟨hobj, hhk, hinv⟩ := r.judge_keeps c word z
    refine ⟨⟨hshown.later hobj, fun _ ho hd => ?_, fun _ ho hl hh => State.judge_arms (mt hoff.mp ho) (by rw [hlow, hhigh, hhyst]; exact ⟨hl, hh⟩)⟩,
      hhk.trans rhk, hinv ▸ rinv⟩
    obtain ⟨t, hkept, hmem, -, hev⟩ := State.judge_reports (word := word) (hoff.mpr ho) (rdis ▸ hd)
    rw [rchg, rtick] at hev
    exact ⟨hkept.disarmed ▸ hmem, hkept.changes.subset (hev ▸ List.mem_append_right _ List.mem_cons_self)⟩
  · rw [hpoor hv]
    exact ⟨⟨hshown, fun h => absurd h hv, fun h => absurd h hv⟩, rhk, rinv⟩

/-! ## What follows a result -/

theorem State.enterStep_keepsResult (s : State) (m x : Nat) : KeepsResult s (s.enterStep m x) := by
  obtain ⟨hobj, hchanges, hdis, -⟩ := s.enterStep_spec m x
  exact ⟨fun _ => congrFun hobj _, hchanges ▸ List.prefix_rfl, hdis⟩

theorem State.withHk_keepsResult (s : State) (m : Nat) (f : HkRun → HkRun) : KeepsResult s (s.withHk m f) := ⟨fun _ => rfl, List.prefix_rfl, rfl⟩

theorem State.calAbortCheck_keepsResult (s : State) (e : Nat) (power : Int) : KeepsResult s (s.calAbortCheck e power) := by
  refine ⟨fun _ => s.obj_calAbortCheck e power _, ?_, ?_⟩ <;> unfold State.calAbortCheck
  · split
    · split
      · exact List.prefix_rfl
      · exact List.prefix_append _ _
    · exact List.prefix_rfl
  · split
    · split
      · rfl
      · rfl
    · rfl

theorem KeepsResult.trans {v : State} (h : KeepsResult s t) (g : KeepsResult t v) : KeepsResult s v :=
  ⟨fun hk => (g.obj hk).trans (h.obj hk), h.changes.trans g.changes, g.disarmed.trans h.disarmed⟩

theorem State.calChecks_keepsResult (s : State) : KeepsResult s s.calChecks := by
  unfold State.calChecks
  exact List.foldlRecOn (motive := fun t : State => KeepsResult s t) _ _ (.refl s) fun t ht e _ => ht.trans (t.calAbortCheck_keepsResult e _)

/-- A reading of REFIN shows in its own objects. -/
theorem State.referenceReads_keepsResult (s : State) (microvolts : Nat) (clk : Bool) : KeepsResult s (s.referenceReads microvolts clk) := by
  unfold State.referenceReads
  extract_lets refin v t
  have ht : KeepsResult s t := ⟨fun {k} hk => by
    have hne {i m x : Nat} : k ≠ ⟨0x10, i, m, x⟩ := fun e => by rw [e] at hk; exact absurd hk (by simp)
    simp [t, hne], List.prefix_rfl, rfl⟩
  refine KeepsResult.trans ?_ (State.calChecks_keepsResult _)
  split
  · exact ht
  · exact ht.trans ⟨fun _ => rfl, List.prefix_append _ _, rfl⟩

end

section
variable {s : State} {c : Fin 64} {data : Int}

/-- The power of a channel's input. -/
def State.hkPower (s : State) (c : Fin 64) : Bool :=
  if c.val < 44 then inputExists (s.obj (Obj.HK_CH_INPUT c)) && s.inputPowered (s.obj (Obj.HK_CH_INPUT c))
  else decide (c.val ≤ 46) || s.rxValid ((c.val - 48) / 3)

theorem execHkResult_step {m : Nat} (hc : c.val < 44) (hm : s.converting c = some m) : exec (.hkResult c data) s = .next (
    if Map.get 0 s.instr.invalid (Key.unit c) ≠ 0 ∨ s.hkPower c = false then s.hkConvert c (s.hkPower c) data
    else if (s.hk m).validLeft ≤ 1 then (s.hkConvert c (s.hkPower c) data).enterStep m ((s.hk m).step + 1)
    else (s.hkConvert c (s.hkPower c) data).withHk m fun r => { r with validLeft := (s.hk m).validLeft - 1 }) := by
  have hpow : s.hkPower c = (inputExists (s.obj (Obj.HK_CH_INPUT c)) && s.inputPowered (s.obj (Obj.HK_CH_INPUT c))) := if_pos hc
  change execHkResult c data s = _
  unfold execHkResult
  rw [if_pos (show c < 44 from hc), hm, hpow]

theorem execHkResult_idle (hc : c.val < 44) (hm : s.converting c = none) : exec (.hkResult c data) s = .next s := by
  change execHkResult c data s = _
  unfold execHkResult
  rw [if_pos (show c < 44 from hc), hm]

theorem execHkResult_fixed (hc : 44 ≤ c.val) (h46 : c.val ≤ 46) : exec (.hkResult c data) s = .next (
    if c.val = 44 ∧ Map.get 0 s.instr.invalid (Key.unit c) = 0 then
      (s.hkConvert c true data).referenceReads (s.hkScaled c data).toNat (bit (s.obj Obj.CNV_REF_STATUS) 1)
    else s.hkConvert c true data) := by
  change execHkResult c data s = _
  unfold execHkResult
  rw [if_neg (show ¬ c < 44 from fun h => absurd (show c.val < 44 from h) (by omega)), if_pos (show c ≤ 46 from h46)]
  simp only [Fin.ext_iff]
  rfl

theorem execHkResult_rotation (hc : 48 ≤ c.val) (h59 : c.val ≤ 59) : exec (.hkResult c data) s =
    if s.obj (Obj.HK_CH_INPUT c) ≠ 0xFFFF ∧ s.obj (Obj.PSC_ENABLE ((c.val - 48) / 3)) = 1 then
      .next (s.hkConvert c (s.rxValid ((c.val - 48) / 3)) data) else .next s := by
  have he : ((c - 48) / 3 : Fin 64).val = (c.val - 48) / 3 := by
    revert c
    decide
  change execHkResult c data s = _
  unfold execHkResult
  rw [if_neg (show ¬ c < 44 from fun h => absurd (show c.val < 44 from h) (by omega)),
    if_neg (show ¬ c ≤ 46 from fun h => absurd (show c.val ≤ 46 from h) (by omega)), if_pos (show 48 ≤ c ∧ c ≤ 59 from ⟨hc, h59⟩)]
  simp only [he]

theorem execHkResult_none (hc : 46 < c.val) (hno : ¬ (48 ≤ c.val ∧ c.val ≤ 59)) : exec (.hkResult c data) s = .next s := by
  change execHkResult c data s = _
  unfold execHkResult
  rw [if_neg (show ¬ c < 44 from fun h => absurd (show c.val < 44 from h) (by omega)),
    if_neg (show ¬ c ≤ 46 from fun h => absurd (show c.val ≤ 46 from h) (by omega)), if_neg (show ¬ (48 ≤ c ∧ c ≤ 59) from hno)]

end

/-- What the obligation asks of a result. -/
structure HkResultShown (s t : State) (c : Fin 64) (data : Int) (word : Nat) : Prop where
  shown : HkConverted s t c (s.hkPower c) (s.hkScaled c data) word
  refin : c.val = 44 → Map.get 0 s.instr.invalid (Key.unit c) = 0 → t.obj Obj.CNV_REFIN_MEAS = (s.hkScaled c data).toNat
  step (m : Nat) : c.val < 44 → s.converting c = some m →
    (Map.get 0 s.instr.invalid (Key.unit c) ≠ 0 → Map.get 0 t.instr.invalid (Key.unit c) = Map.get 0 s.instr.invalid (Key.unit c) - 1) ∧
    (¬ s.hkValid c (s.hkPower c) → t.hk m = s.hk m) ∧
    (s.hkValid c (s.hkPower c) → 2 ≤ (s.hk m).validLeft → t.hk m = { s.hk m with validLeft := (s.hk m).validLeft - 1 })

section
variable {s : State} {c : Fin 64} {data : Int} {word : Nat}

/-- The channel that a modulator's step in progress converts, a fixed one, or one of an enabled Periscope. -/
def State.hkRuns (s : State) (c : Fin 64) : Prop :=
  (c.val < 44 ∧ (s.converting c).isSome = true) ∨ (44 ≤ c.val ∧ c.val ≤ 46) ∨
    (48 ≤ c.val ∧ c.val ≤ 59 ∧ s.obj (Obj.HK_CH_INPUT c) ≠ 0xFFFF ∧ s.obj (Obj.PSC_ENABLE ((c.val - 48) / 3)) = 1)

theorem exec_hkResult_idle (h : ¬ s.hkRuns c) : exec (.hkResult c data) s = .next s := by
  unfold State.hkRuns at h
  by_cases h44 : c.val < 44
  · exact execHkResult_idle h44 (Option.not_isSome_iff_eq_none.mp fun hs => h (.inl ⟨h44, hs⟩))
  by_cases h59 : 48 ≤ c.val ∧ c.val ≤ 59
  · exact (execHkResult_rotation h59.1 h59.2).trans (if_neg fun g => h (.inr (.inr ⟨h59.1, h59.2, g⟩)))
  · exact execHkResult_none (by omega) h59

theorem exec_hkResult_shown (h : s.hkRuns c)
    (hin : s.hkValid c (s.hkPower c) → ¬ s.hkOutside c (s.hkScaled c data) → word = 2 ^ 31 + c * 2 ^ 24 + encode 3 (s.hkScaled c data))
    (hout : s.hkValid c (s.hkPower c) → s.hkOutside c (s.hkScaled c data) → word = 2 ^ 31 + 2 ^ 30 + c * 2 ^ 24 + encode 3 (s.hkScaled c data))
    (hbad : ¬ s.hkValid c (s.hkPower c) → word = c * 2 ^ 24 + encode 3 (s.hkScaled c data)) :
    ∃ t : State, exec (.hkResult c data) s = .next t ∧ HkResultShown s t c data word := by
  obtain ⟨hconv, hhk, hinv⟩ := s.hkConvert_spec c.isLt (s.hkPower c) data word hin hout hbad
  obtain ⟨h44, hstep⟩ | ⟨h44, h46⟩ | ⟨h48, h59, hrun⟩ := h
  · obtain ⟨m, hm⟩ := Option.isSome_iff_exists.mp hstep
    have hexec := execHkResult_step (data := data) h44 hm
    generalize s.hkConvert c (s.hkPower c) data = u at hconv hhk hinv hexec
    have hkeep : u.hk m = s.hk m := congrArg (fun i : Map HkRun => Map.get ({} : HkRun) i (Key.unit m)) hhk
    by_cases hv : s.hkValid c (s.hkPower c)
    · rw [if_neg (by simp [hv.1, hv.2])] at hexec
      by_cases hleft : (s.hk m).validLeft ≤ 1
      · rw [if_pos hleft] at hexec
        refine ⟨_, hexec, hconv.later (u.enterStep_keepsResult m _), fun h => absurd h (by omega), fun n _ hn => ?_⟩
        obtain rfl : m = n := Option.some.inj (hm.symm.trans hn)
        exact ⟨fun h0 => absurd hv.1 h0, fun hno => absurd hv hno, fun _ h2 => absurd hleft (by omega)⟩
      · rw [if_neg hleft] at hexec
        refine ⟨_, hexec, hconv.later (u.withHk_keepsResult m _), fun h => absurd h (by omega), fun n _ hn => ?_⟩
        obtain rfl : m = n := Option.some.inj (hm.symm.trans hn)
        refine ⟨fun h0 => absurd hv.1 h0, fun hno => absurd hv hno, fun _ _ => ?_⟩
        rw [State.hk_withHk_same, hkeep]
    · have hno : Map.get 0 s.instr.invalid (Key.unit c) ≠ 0 ∨ s.hkPower c = false := by
        by_cases h0 : Map.get 0 s.instr.invalid (Key.unit c) = 0
        · exact .inr (Bool.eq_false_iff.mpr fun hp => hv ⟨h0, hp⟩)
        · exact .inl h0
      rw [if_pos hno] at hexec
      refine ⟨u, hexec, hconv, fun h => absurd h (by omega), fun n _ hn => ?_⟩
      obtain rfl : m = n := Option.some.inj (hm.symm.trans hn)
      exact ⟨fun _ => hinv, fun _ => hkeep, fun h => absurd h hv⟩
  · have hpow : s.hkPower c = true := (if_neg (by omega)).trans (by simp [h46])
    have hexec := execHkResult_fixed (s := s) (data := data) h44 h46
    rw [← hpow] at hexec
    generalize s.hkConvert c (s.hkPower c) data = u at hconv hexec
    by_cases hread : c.val = 44 ∧ Map.get 0 s.instr.invalid (Key.unit c) = 0
    · rw [if_pos hread] at hexec
      refine ⟨_, hexec, hconv.later (u.referenceReads_keepsResult _ _), fun _ _ => ?_, fun m h => absurd h (by omega)⟩
      exact (u.referenceReads_spec 0 _ _).1
    · rw [if_neg hread] at hexec
      exact ⟨u, hexec, hconv, fun h h0 => absurd ⟨h, h0⟩ hread, fun m h => absurd h (by omega)⟩
  · have hpow : s.hkPower c = s.rxValid ((c.val - 48) / 3) := by
      have h46 : ¬ c.val ≤ 46 := by omega
      exact (if_neg (by omega)).trans (by simp [h46])
    have hexec := (execHkResult_rotation (s := s) (data := data) h48 h59).trans (if_pos hrun)
    rw [← hpow] at hexec
    exact ⟨_, hexec, hconv, fun h => absurd h (by omega), fun m h => absurd h (by omega)⟩

end

/-! ## Writes of the sequencers (R381, R384, R386) -/

theorem acceptHk_seq (m j x : Nat) (v : Val) (s : State) : acceptHk ⟨0x51, 0x100 + m, j, x⟩ v s = acceptHkSeq ⟨0x51, 0x100 + m, j, x⟩ v s :=
  if_neg (by simp)

theorem acceptHk_fire (m : Nat) (v : Val) (s : State) : acceptHk (Obj.HK_SEQ_FIRE m) v s = if m = 15 then (.range, s) else (.ok, s.hkTrigger m) := by
  rw [acceptHk_seq]
  unfold acceptHkSeq
  rw [Nat.add_sub_cancel_left]
  rfl

theorem acceptHk_steps (m x : Nat) (v : Val) (s : State) : acceptHk (Obj.HK_SEQ_STEPS m x) v s =
    if m = 15 ∨ (stepOn v.v = true ∧ (43 < stepChannel v.v ∨ stepCount v.v = 0)) then (.range, s)
    else if stepOn v.v = true ∧ ((List.range 15).any fun j => decide (j ≠ m) && (s.steps j).any fun y => decide (stepChannel y = stepChannel v.v)) = true
      then (.precond, s)
    else (.ok, s.stage (Obj.HK_SEQ_STEPS m x) v.v) := by
  rw [acceptHk_seq]
  unfold acceptHkSeq
  rw [Nat.add_sub_cancel_left]
  by_cases h : m = 15
  · rw [if_pos h, if_pos (.inl h)]
  · rw [if_neg h]
    simp only [h, false_or]
    rfl

/-- The steps of every pair that is newly interleaved have the filter that interleaving needs. -/
def State.pairsFit (s : State) (v : Nat) : Prop :=
  ∀ b, b < 7 → bit v b = true → bit (s.latest Obj.HK_INTERLEAVE) b = false → ∀ y ∈ s.steps (2 * b),
    field (s.latest (Obj.HK_CH_FILTER (stepChannel y))) 3 0 = 8 ∧ hkSingle (s.latest (Obj.HK_CH_FILTER (stepChannel y))) = false

/-- The model's own check of it. -/
def State.pairsChecked (s : State) (v : Nat) : Bool :=
  ((List.range 7).filter fun b => bit v b && !bit (s.latest Obj.HK_INTERLEAVE) b).all fun b => (s.steps (2 * b)).all fun w =>
    decide (field (s.latest (Obj.HK_CH_FILTER (stepChannel w))) 3 0 = 8) && !hkSingle (s.latest (Obj.HK_CH_FILTER (stepChannel w)))

theorem State.pairsChecked_iff (s : State) (v : Nat) : s.pairsChecked v = true ↔ s.pairsFit v := by
  unfold State.pairsChecked State.pairsFit
  simp only [List.all_eq_true, List.mem_filter, List.mem_range, Bool.and_eq_true, Bool.not_eq_true', decide_eq_true_eq, and_imp]

theorem acceptHk_interleave (v : Val) (s : State) :
    acceptHk Obj.HK_INTERLEAVE v s = if s.pairsChecked v.v then (.ok, s.stage Obj.HK_INTERLEAVE v.v) else (.precond, s) := rfl

/-! ## Triggers at a boundary (R384) -/

section
variable {s : State} {m : Fin 16}

/-- The coming tick is a multiple of the period, and its trigger has not come. -/
def State.periodComes (s : State) (m : Fin 16) : Prop :=
  s.obj (Obj.HK_SEQ_PERIOD m) ≠ 0 ∧ s.nextTick % s.obj (Obj.HK_SEQ_PERIOD m) = 0 ∧ (s.hk m).periodAt ≠ some (s.now + 1)

theorem State.periodDue_opened : s.opened.periodDue m = true ↔ s.periodComes m := by
  have h : s.opened.periodDue m = (decide (s.obj (Obj.HK_SEQ_PERIOD m) ≠ 0) && decide (s.nextTick % max (s.obj (Obj.HK_SEQ_PERIOD m)) 1 = 0) &&
      decide ((s.hk m).periodAt ≠ some (s.now + 1))) := rfl
  have hmax : s.obj (Obj.HK_SEQ_PERIOD m) ≠ 0 → max (s.obj (Obj.HK_SEQ_PERIOD m)) 1 = s.obj (Obj.HK_SEQ_PERIOD m) := fun h0 => by omega
  rw [h]
  simp only [Bool.and_eq_true, decide_eq_true_eq, and_assoc, State.periodComes]
  exact and_congr_right fun h0 => by rw [hmax h0]

theorem exec_hkSeqPeriodTrigger (s : State) (m : Fin 16) : exec (.hkSeqPeriodTrigger m) s = .next (s.atBoundary fun t => t.periodTrigger m) := rfl

/-- The trigger that comes, in the tick that the boundary opens. -/
def State.periodOpened (s : State) (m : Nat) : State := s.opened.withHk m fun r => { r with periodAt := some (s.now + 1) }

theorem State.periodOpened_hk (s : State) (m : Nat) : ((s.periodOpened m).hk m).periodAt = some (s.now + 1) ∧
    ((s.periodOpened m).hk m).count = (s.hk m).count ∧ ((s.periodOpened m).hk m).step = (s.hk m).step := by
  have h : (s.periodOpened m).hk m = { s.hk m with periodAt := some (s.now + 1) } := s.opened.hk_withHk_same m _
  rw [h]
  exact ⟨rfl, rfl, rfl⟩

theorem exec_hkSeqPeriodTrigger_due (h : s.periodComes m) : exec (.hkSeqPeriodTrigger m) s =
    .next { (s.periodOpened m).hkTrigger m with now := s.now, tick := s.tick } := by
  rw [exec_hkSeqPeriodTrigger]
  exact congrArg Host.Outcome.next (State.atBoundary_of_opened (if_pos (State.periodDue_opened.mpr h)))

end

/-- Settles O47: a result by the kind of its channel, a trigger by the state it finds, a write by its checks. -/
theorem housekeepingConverts : Obligations.HousekeepingConverts := by
  intro s
  refine ⟨fun c data => ?_, fun m rq x val v h => ?_, fun m h2 hi => ?_, fun m => ⟨fun hno => ?_, fun hdue => ?_⟩, fun m => ⟨fun h => ?_, fun h0 h16 hi => ?_⟩,
    fun m index rq x val v h => ?_, fun rq x val v h => ?_⟩
  · intro owed input z runs powered valid outside word hin hout hbad
    have hpowered : powered ↔ s.hkPower c = true := by
      simp only [powered, State.hkPower]
      split
      · simp [input]
      · simp
    have hvalid : valid ↔ s.hkValid c (s.hkPower c) := and_congr_right fun _ => hpowered
    refine ⟨fun hno => exec_hkResult_idle hno, fun hrun => ?_⟩
    obtain ⟨t, hexec, hres⟩ := exec_hkResult_shown (data := data) (word := word) hrun (fun hv => hin (hvalid.mpr hv)) (fun hv => hout (hvalid.mpr hv))
      fun hv => hbad (mt hvalid.mp hv)
    obtain ⟨hlast, hring, hwr, hovf⟩ := hres.shown.shown
    refine ⟨t, hexec, hlast, hring, hwr, hovf, fun hv => hres.shown.reports (hvalid.mp hv), fun hv => hres.shown.arms (hvalid.mp hv), hres.refin, fun m hc hm => ?_⟩
    obtain ⟨hinv, hkeep, hleft⟩ := hres.step m hc hm
    exact ⟨hinv, fun hv => hkeep (mt hvalid.mpr hv), fun hv => hleft (hvalid.mp hv)⟩
  · have hacc := acceptHk_fire m v (s.served rq x)
    refine congrArg Host.Outcome.next ?_
    split
    next h15 => exact serveWrite_refused h acceptHk (hacc.trans (if_pos h15))
    next h15 => exact serveWrite_accepted h acceptHk (hacc.trans (if_neg h15))
  · refine ⟨fun h0 => State.hkTrigger_starts h2 hi (.inl h0), fun h1 h16 => State.hkTrigger_starts h2 hi (.inr ⟨h1, h16⟩), fun h1 hstep hp => ?_,
      fun h0 hstep hp => ?_, fun h0 hstep h1 hp => ?_⟩
    · exact (State.hkTrigger_busy h2 hi hstep).trans (State.hkTake_waits h1 hp)
    · rw [State.hkTrigger_busy h2 hi hstep]
      exact State.hkTake_restarts h0 hp
    · rw [State.hkTrigger_busy h2 hi hstep]
      exact State.hkTake_overruns h0 h1 hp
  · rw [exec_hkSeqPeriodTrigger]
    exact congrArg Host.Outcome.next (State.atBoundary_unchanged (if_neg (mt State.periodDue_opened.mp hno)))
  · obtain ⟨hopen, hcount, hstep⟩ := s.periodOpened_hk m
    refine ⟨_, exec_hkSeqPeriodTrigger_due hdue, ((s.periodOpened m).hkTrigger_periodAt m).trans hopen, rfl, fun hno => ?_, fun h2 hi hfree =>
      ⟨fun h0 => ?_, fun h1 hp => ?_, fun h0 hp => ?_, fun h0 h1 hp => ?_⟩⟩
    · rw [State.hkTrigger_ignored (s := s.periodOpened m) hno]
      rfl
    · obtain ⟨hst, hc⟩ := State.hkTrigger_starts (s := s.periodOpened m) h2 hi (.inl h0)
      exact ⟨hst, hc.trans (by rw [hcount])⟩
    all_goals
      have hbusy := State.hkTrigger_busy (s := s.periodOpened m) h2 hi (hstep ▸ hfree.resolve_left (by omega))
      rw [hbusy]
    · rw [State.hkTake_waits (s := s.periodOpened m) h1 hp]
      exact State.obj_setObj_same _ _ _
    · exact State.hkTake_restarts (s := s.periodOpened m) h0 hp
    · exact State.hkTake_overruns (s := s.periodOpened m) h0 h1 hp
  · exact congrArg Host.Outcome.next (State.endSeq_waits h)
  · obtain ⟨hring, hends, hstays⟩ := State.endSeq_spec h0 h16 hi
    exact ⟨_, rfl, hring, hends, hstays⟩
  · have hacc := acceptHk_steps m index v (s.served rq x)
    refine congrArg Host.Outcome.next ?_
    split
    next h1 => exact serveWrite_refused h acceptHk (hacc.trans (if_pos h1))
    next h1 =>
      rw [if_neg h1] at hacc
      split
      next h2 => exact serveWrite_refused h acceptHk (hacc.trans (if_pos h2))
      next h2 => exact serveWrite_accepted h acceptHk (hacc.trans (if_neg h2))
  · have hacc := acceptHk_interleave v (s.served rq x)
    have hfits := (s.served rq x).pairsChecked_iff v.v
    exact ⟨fun hf => congrArg Host.Outcome.next (serveWrite_accepted h acceptHk (hacc.trans (if_pos (hfits.mpr hf)))),
      fun hf => congrArg Host.Outcome.next (serveWrite_refused h acceptHk (hacc.trans (if_neg (mt hfits.mp hf))))⟩

end Sys2Proof.Machine
end

section
/-! PROOFS. Stored data: scrubbing, buckets, repairs and the die-to-die links (O51). -/

namespace Sys2Proof.Machine

section
variable {s : State} {g page : Nat}

/-! ## Pages read and written back (R456, R457, R459) -/

theorem State.page_setPage_same (s : State) (g page : Nat) (x : StorePage) : (s.setPage g page x).page g page = x := by
  rw [State.page_setPage, if_pos ⟨rfl, rfl⟩]

theorem State.page_setPage_ne (s : State) (g page : Nat) (x : StorePage) {h q : Nat} (hne : (h, q) ≠ (g, page)) :
    (s.setPage g page x).page h q = s.page h q := by
  rw [State.page_setPage, if_neg fun e => hne (by rw [e.1, e.2])]

/-- What the scrubber writes into a page. -/
theorem State.writeBack_page (s : State) (g page : Nat) : ((s.writeBack g page).page g page).queued = false ∧
    ((s.writeBack g page).page g page).wrong = (s.page g page).stuck ∧
    ((s.writeBack g page).page g page).written =
      (s.page g page).found.map (fun b => (b, 0)) ++ (s.page g page).written.filter fun w => !(s.page g page).found.contains w.1 := by
  unfold State.writeBack
  dsimp only
  rw [State.page_setPage_same]
  exact ⟨rfl, rfl, rfl⟩

theorem State.writeBack_frame (s : State) (g page : Nat) : s.samePages (s.writeBack g page) := rfl

theorem State.writeBack_other (s : State) (g page : Nat) {h q : Nat} (hne : (h, q) ≠ (g, page)) : (s.writeBack g page).page h q = s.page h q :=
  s.page_setPage_ne g page _ hne

theorem exec_demandScrub (r : Fin 8) (page : Nat) (s : State) :
    exec (.demandScrub r page) s = .next (if (s.page r page).queued then s.writeBack r page else s) := rfl

/-- A visit ages the corrections of a page that is not lost, encodes it anew where the pass does, and writes back what it corrected. -/
def State.visited (t : State) (g page : Nat) : State :=
  let p := t.page g page
  let aged := { p with written := (p.written.map fun w => (w.1, w.2 + 1)).filter fun w => decide (w.2 < 3) }
  let coded := if t.recoding g = 1 then { aged with strength := some (t.obj (Obj.SIO_T g)) } else aged
  if p.bad then t else if p.queued then (t.setPage g page coded).writeBack g page else t.setPage g page coded

theorem exec_scrubVisit (v : PageRead) (passEnd : Bool) (s : State) (h : v.page < regionPages v.region.val) : exec (.scrubVisit v passEnd) s = .next (
    let u := (s.readPage { v with reader := 4 }).visited v.region.val v.page
    if passEnd ∧ u.passDue v.region.val then u.passEnd v.region.val else u) :=
  if_neg (by omega)

theorem exec_scrubVisit_none (v : PageRead) (passEnd : Bool) (s : State) (h : regionPages v.region.val ≤ v.page) : exec (.scrubVisit v passEnd) s = .next s :=
  if_pos h

theorem State.readPage_clean (v : PageRead) (hb : v.bits = []) (hw : (s.page v.region.val v.page).wrong = []) : s.readPage v = s :=
  if_pos (.inr (.inl (by simp [hb, hw])))

/-- A page that nothing waits for. -/
theorem State.visited_idle (hbad : (s.page g page).bad = false) (hq : (s.page g page).queued = false) : s.samePages (s.visited g page) ∧
    (s.visited g page).stores.passAt = s.stores.passAt ∧ (s.visited g page).recoding g = s.recoding g ∧
    (s.recoding g = 0 →
      ((s.visited g page).page g page).written = ((s.page g page).written.map fun w => (w.1, w.2 + 1)).filter fun w => decide (w.2 < 3)) := by
  unfold State.visited
  extract_lets p aged coded
  rw [if_neg (by simp [p, hbad]), if_neg (by simp [p, hq])]
  refine ⟨rfl, rfl, rfl, fun h0 => ?_⟩
  rw [State.page_setPage_same]
  exact congrArg StorePage.written (if_neg (by omega))

/-- The end of a pass is counted, and moves nothing else but the stores. -/
theorem State.passEnd_frame (s : State) (g : Nat) : ∃ y : Stores, s.passEnd g = { s.bump (Obj.SIO_PASS_COUNT g) with stores := y } := by
  unfold State.passEnd
  extract_lets t left u
  split
  · exact ⟨_, rfl⟩
  · exact ⟨_, rfl⟩

/-- No page changes where no new strength came. -/
theorem State.passEnd_pages (h : s.recoding g = 0) : (s.passEnd g).stores.pages = s.stores.pages := by
  unfold State.passEnd
  extract_lets t left u
  have ht : t.recoding g = 0 := h
  rw [if_neg (by omega)]
  rfl

theorem State.passEnd_spec (s : State) (g : Nat) : (s.passEnd g).obj (Obj.SIO_PASS_COUNT g) = u64 (s.obj (Obj.SIO_PASS_COUNT g) + 1) ∧
    (∀ k, k ≠ Obj.SIO_PASS_COUNT g → (s.passEnd g).obj k = s.obj k) ∧ (s.passEnd g).changes = s.changes := by
  obtain ⟨y, hy⟩ := s.passEnd_frame g
  rw [hy]
  exact ⟨s.obj_bump_same _ 1, fun k hk => s.obj_bump_ne 1 hk, rfl⟩

/-- What a visit that found nothing leaves, where the pass ends with it or goes on. -/
theorem State.passEnds_spec {u : State} {passEnd : Bool} (hframe : s.samePages u) (hpass : u.stores.passAt = s.stores.passAt)
    (hrec : u.recoding g = s.recoding g) {aged : List (Nat × Nat)} (hpage : s.recoding g = 0 → (u.page g page).written = aged) :
    let t := if passEnd ∧ u.passDue g then u.passEnd g else u
    t.obj (Obj.SIO_PASS_COUNT g) = (if passEnd ∧ s.passDue g then u64 (s.obj (Obj.SIO_PASS_COUNT g) + 1) else s.obj (Obj.SIO_PASS_COUNT g)) ∧
    (∀ k, k ≠ Obj.SIO_PASS_COUNT g → t.obj k = s.obj k) ∧ t.changes = s.changes ∧ (s.recoding g = 0 → (t.page g page).written = aged) := by
  have hobj (k : Key) : u.obj k = s.obj k := by rw [hframe]; rfl
  have hchanges : u.changes = s.changes := by rw [hframe]
  have hnow : u.now = s.now := by rw [hframe]
  have hdue : u.passDue g = s.passDue g := by
    unfold State.passDue
    rw [hpass, hobj, hnow]
  intro t
  unfold t
  rw [hdue]
  split
  · obtain ⟨hcount, hother, hch⟩ := u.passEnd_spec g
    refine ⟨hcount.trans (by rw [hobj]), fun k hk => (hother k hk).trans (hobj k), hch.trans hchanges, fun h0 => ?_⟩
    exact (congrArg (fun m => (Map.get ({} : StorePage) m (pageKey g page)).written) (State.passEnd_pages (hrec.trans h0))).trans (hpage h0)
  · exact ⟨hobj _, fun k _ => hobj k, hchanges, hpage⟩

/-- One more bit in a bucket with room. -/
def State.bitCounted (s : State) (g : Nat) : State := (s.bump (Obj.SIO_CORR_BITS g)).setObj (Obj.SIO_BUCKET g) (s.obj (Obj.SIO_BUCKET g) + 1)

theorem State.bitCounted_spec (s : State) (g : Nat) : (s.bitCounted g).obj (Obj.SIO_CORR_BITS g) = u64 (s.obj (Obj.SIO_CORR_BITS g) + 1) ∧
    (s.bitCounted g).obj (Obj.SIO_BUCKET g) = s.obj (Obj.SIO_BUCKET g) + 1 ∧ (s.bitCounted g).changes = s.changes :=
  ⟨(State.obj_setObj_ne _ _ (by simp)).trans (s.obj_bump_same _ 1), State.obj_setObj_same _ _ _, rfl⟩

theorem State.fillBucket_room (h : s.obj (Obj.SIO_BUCKET g) < s.obj (Obj.SIO_BUCKET_SIZE g)) :
    s.fillBucket g = s.bitCounted g := by
  have hb : (s.bump (Obj.SIO_CORR_BITS g)).obj (Obj.SIO_BUCKET g) = s.obj (Obj.SIO_BUCKET g) := s.obj_bump_ne 1 (by simp)
  have hz : (s.bump (Obj.SIO_CORR_BITS g)).obj (Obj.SIO_BUCKET_SIZE g) = s.obj (Obj.SIO_BUCKET_SIZE g) := s.obj_bump_ne 1 (by simp)
  unfold State.fillBucket
  extract_lets t level
  exact (if_pos (show t.obj _ < t.obj _ by rwa [hb, hz])).trans (congrArg (fun n => (s.bump (Obj.SIO_CORR_BITS g)).setObj (Obj.SIO_BUCKET g) (n + 1)) hb)

/-- The first wrong bit of a page is counted, and the page waits for its write-back. -/
theorem State.correct_fresh (b : Nat) (hp : s.page g page = {}) :
    s.correct g page [b] = (s.fillBucket g).setPage g page { wrong := [b], queued := true, queuedAt := s.now, found := [b] } := by
  unfold State.correct
  rw [hp]
  rfl

theorem State.readPage_fresh (v : PageRead) {b : Nat} (hv : v.page < regionPages v.region.val) (hb : v.bits = [b])
    (hp : s.page v.region.val v.page = {}) (hs : 1 ≤ s.strength v.region.val v.page) :
    s.readPage v = (s.fillBucket v.region.val).setPage v.region.val v.page { wrong := [b], queued := true, queuedAt := s.now, found := [b] } := by
  rw [← State.correct_fresh b hp]
  unfold State.readPage
  extract_lets r p bits
  have hp' : p = {} := hp
  have hbits : bits = [b] := by simp [bits, hb, hp']
  rw [if_neg (by simp [hp', hbits, r, hv]), hbits]
  exact if_neg (Nat.not_lt.mpr hs)

/-- A page whose first wrong bit is found is written back with it. -/
theorem State.visited_fresh {b at_ : Nat} (hp : s.page g page = { wrong := [b], queued := true, queuedAt := at_, found := [b] })
    (h0 : s.recoding g = 0) : s.samePages (s.visited g page) ∧ ((s.visited g page).page g page).wrong = [] ∧
    ((s.visited g page).page g page).written = [(b, 0)] := by
  unfold State.visited
  rw [hp]
  extract_lets p aged coded
  have hcoded : coded = { wrong := [b], queued := true, queuedAt := at_, found := [b] } := if_neg (by omega)
  rw [if_neg (by simp [p]), if_pos (by simp [p]), hcoded]
  obtain ⟨-, hwrong, hwritten⟩ := State.writeBack_page (s.setPage g page { wrong := [b], queued := true, queuedAt := at_, found := [b] }) g page
  rw [State.page_setPage_same] at hwrong hwritten
  exact ⟨rfl, hwrong, hwritten⟩

/-- A visit to a page whose first wrong bit was just counted. -/
theorem State.visitedFirst_spec (s : State) (g page b at_ : Nat) (h0 : s.recoding g = 0) :
    let t := (s.setPage g page { wrong := [b], queued := true, queuedAt := at_, found := [b] }).visited g page
    (∀ k, t.obj k = s.obj k) ∧ t.changes = s.changes ∧ (t.page g page).wrong = [] ∧ (t.page g page).written = [(b, 0)] := by
  obtain ⟨hframe, hwrong, hwritten⟩ := State.visited_fresh (s.page_setPage_same g page { wrong := [b], queued := true, queuedAt := at_, found := [b] }) h0
  intro t
  have ht : t = { s with stores := t.stores } := hframe
  refine ⟨fun k => ?_, by rw [ht], hwrong, hwritten⟩
  rw [ht]
  rfl

/-! ## Buckets and repairs (R458, R461, R464, R465) -/

theorem exec_bucketLeak (r : Fin 8) (s : State) : exec (.bucketLeak r) s = .next (s.atBoundary fun t => t.leak r) := rfl

/-- The level after one interval. -/
def State.leaked (s : State) (g : Nat) : State :=
  (s.setObj (Obj.SIO_BUCKET g) (s.obj (Obj.SIO_BUCKET g) - 1)).withStores fun y => { y with
    leakAt := Map.set 0 y.leakAt (Key.unit g) s.now
    full := if 2 * (s.obj (Obj.SIO_BUCKET g) - 1) ≤ s.obj (Obj.SIO_BUCKET_SIZE g) then y.full.filter (· ≠ g) else y.full }

theorem State.leaked_spec (s : State) (g : Nat) : (s.leaked g).obj (Obj.SIO_BUCKET g) = s.obj (Obj.SIO_BUCKET g) - 1 ∧
    Map.get 0 (s.leaked g).stores.leakAt (Key.unit g) = s.now ∧ (∀ k, k ≠ Obj.SIO_BUCKET g → (s.leaked g).obj k = s.obj k) ∧
    s.leaked g = { s with reg := (s.leaked g).reg, stores := (s.leaked g).stores } :=
  ⟨State.obj_setObj_same _ _ _, Map.get_set_same _ _ _ _, fun _ hk => State.obj_setObj_ne _ _ hk, rfl⟩

theorem State.leak_eq (s : State) (g : Nat) : s.leak g =
    if Map.get 0 s.stores.leakAt (Key.unit g) + s.obj (Obj.SIO_BUCKET_LEAK g) ≤ s.now then s.leaked g else s := rfl

theorem exec_pageRepairSwitch_copied {r : Fin 8} {page k : Nat} (hc : (s.page r page).copying = true) (hk : (s.page r page).spare = some k) :
    exec (.pageRepairSwitch r page) s = .next (s.atBoundary fun t => t.moveToSpare r page k false) := by
  change execPageRepairSwitch r page s = _
  unfold execPageRepairSwitch
  simp only [hc, hk]

theorem exec_pageRepairSwitch_none {r : Fin 8} {page : Nat} (h : (s.page r page).copying = false ∨ (s.page r page).spare = none) :
    exec (.pageRepairSwitch r page) s = .next s := by
  change execPageRepairSwitch r page s = _
  unfold execPageRepairSwitch
  extract_lets p
  split
  next hc hk =>
    obtain hc' | hk' := h
    · exact absurd (hc'.symm.trans hc) (by simp)
    · exact absurd (hk'.symm.trans hk) (by simp)
  · rfl

/-- The page is its spare, and the move is logged and counted. -/
def State.repairLogged (s : State) (g page k log : Nat) : State :=
  ((s.setPage g page { strength := (s.page g page).strength, wrong := (s.page g page).carried }).setObj (Obj.SIO_WEAK_LOG g k) log).bump (Obj.SIO_REPAIRED g)

theorem State.repairLogged_spec (s : State) (g page k log : Nat) :
    let t := s.repairLogged g page k log
    t.page g page = { strength := (s.page g page).strength, wrong := (s.page g page).carried } ∧ t.obj (Obj.SIO_WEAK_LOG g k) = log ∧
    t.obj (Obj.SIO_REPAIRED g) = u64 (s.obj (Obj.SIO_REPAIRED g) + 1) ∧
    (∀ n, n ≠ Obj.SIO_WEAK_LOG g k → n ≠ Obj.SIO_REPAIRED g → t.obj n = s.obj n) ∧ t = { s with reg := t.reg, stores := t.stores } := by
  let t := s.setPage g page { strength := (s.page g page).strength, wrong := (s.page g page).carried }
  exact ⟨s.page_setPage_same g page _, (State.obj_bump_ne _ 1 (by simp)).trans (t.obj_setObj_same _ _),
    (State.obj_bump_same _ _ 1).trans (congrArg (fun x => u64 (x + 1)) (t.obj_setObj_ne _ (by simp))),
    fun n h1 h2 => (State.obj_bump_ne _ 1 h2).trans (t.obj_setObj_ne _ h1), rfl⟩

theorem State.moveToSpare_eq (s : State) (g page k : Nat) (uncorr : Bool) : ∃ log, log = 2 ^ 31 + uncorr.toNat * 2 ^ 30 + page % 2 ^ 24 ∧
    s.moveToSpare g page k uncorr = (s.repairLogged g page k log).raise Ev.PAGE_REPAIRED [g, page, k] := by
  unfold State.moveToSpare
  extract_lets p t log
  exact ⟨log, rfl, rfl⟩

theorem State.moveToSpare_spec (s : State) (g page k : Nat) (uncorr : Bool) :
    let t := s.moveToSpare g page k uncorr
    t.page g page = { strength := (s.page g page).strength, wrong := (s.page g page).carried } ∧
    t.obj (Obj.SIO_WEAK_LOG g k) = 2 ^ 31 + uncorr.toNat * 2 ^ 30 + page % 2 ^ 24 ∧
    t.obj (Obj.SIO_REPAIRED g) = u64 (s.obj (Obj.SIO_REPAIRED g) + 1) ∧
    (∀ n, n ≠ Obj.SIO_WEAK_LOG g k → n ≠ Obj.SIO_REPAIRED g → t.obj n = s.obj n) ∧
    t.changes = s.changes ++ [⟨Ev.PAGE_REPAIRED.code, false, s.tick, contentOf Ev.PAGE_REPAIRED.widths [g, page, k]⟩] ∧
    t = { s with reg := t.reg, stores := t.stores, changes := t.changes } := by
  obtain ⟨log, hl, heq⟩ := s.moveToSpare_eq g page k uncorr
  obtain ⟨hpage, hlog, hcount, hother, hframe⟩ := s.repairLogged_spec g page k log
  rw [heq, ← hl]
  generalize s.repairLogged g page k log = u at hpage hlog hcount hother hframe ⊢
  have hchanges : u.changes = s.changes := by rw [hframe]
  have htick : u.tick = s.tick := by rw [hframe]
  refine ⟨hpage, hlog, hcount, hother, by rw [← hchanges, ← htick]; rfl, ?_⟩
  rw [hframe]
  rfl

/-! ## Uncorrectable pages of the control memory (R464, R465) -/

/-- A page that no copy holds is regenerated, which lengthens a running compile. -/
def State.regenerated (s : State) (fallback : Bool) (ticks : Nat) : State :=
  if fallback then s
  else (s.bump (Obj.SIO_REGEN 0)).withPrism fun q => { q with compile := q.compile.map fun c => { c with due := c.due + min ticks 20 } }

theorem State.regenerated_spec (s : State) (fallback : Bool) (ticks : Nat) :
    (s.regenerated fallback ticks).obj (Obj.SIO_REGEN 0) = (if fallback then s.obj (Obj.SIO_REGEN 0) else u64 (s.obj (Obj.SIO_REGEN 0) + 1)) ∧
    (s.regenerated fallback ticks).stores = s.stores ∧ (s.regenerated fallback ticks).changes = s.changes ∧
    (s.regenerated fallback ticks).tick = s.tick := by
  unfold State.regenerated
  cases fallback
  · exact ⟨s.obj_bump_same _ 1, rfl, rfl, rfl⟩
  · exact ⟨rfl, rfl, rfl, rfl⟩

theorem State.obj_takeSpare (s : State) (g : Nat) (k : Key) : (s.takeSpare g).2.obj k = s.obj k := by
  unfold State.takeSpare
  split
  · rfl
  · extract_lets t free
    dsimp only
    split
    · rfl
    · rfl

/-- The page is in its spare, or fresh. -/
def State.respared (s : State) (page : Nat) : Option Nat → State
  | some k => s.moveToSpare 0 page k true
  | none => s.setPage 0 page {}

theorem State.respared_page (s : State) (page : Nat) (spare : Option Nat) :
    ((s.respared page spare).page 0 page).bad = false ∧ (s.respared page spare).obj (Obj.SIO_REGEN 0) = s.obj (Obj.SIO_REGEN 0) := by
  cases spare with
  | none => exact ⟨congrArg StorePage.bad (s.page_setPage_same 0 page {}), rfl⟩
  | some k =>
    obtain ⟨hpage, -, -, hother, -⟩ := s.moveToSpare_spec 0 page k true
    exact ⟨congrArg StorePage.bad hpage, hother _ (by simp) (by simp)⟩

theorem State.repairCm_waits {ticks : Nat} (h : (s.page 0 page).bad = false ∨ (s.pageFallback page = false ∧ s.ctBad = true)) : s.repairCm page ticks = s :=
  if_pos (h.imp_left fun hb => by simp [hb])

/-- A page with a spare of its own moves there. -/
theorem State.repairCm_spare {ticks k : Nat} (hb : (s.page 0 page).bad = true) (hf : s.pageFallback page = true ∨ s.ctBad = false)
    (hk : (s.page 0 page).spare = some k) : s.repairCm page ticks = (s.regenerated (s.pageFallback page) ticks).moveToSpare 0 page k true := by
  unfold State.repairCm
  extract_lets p fallback
  rw [if_neg (by rcases hf with h | h <;> simp [fallback, p, hb, h]), show p.spare = some k from hk]
  rfl

/-- Another takes a spare where one is free. -/
theorem State.repairCm_free {ticks : Nat} (hb : (s.page 0 page).bad = true) (hf : s.pageFallback page = true ∨ s.ctBad = false)
    (hk : (s.page 0 page).spare = none) : ((s.repairCm page ticks).page 0 page).bad = false ∧
    (s.repairCm page ticks).obj (Obj.SIO_REGEN 0) = (if s.pageFallback page then s.obj (Obj.SIO_REGEN 0) else u64 (s.obj (Obj.SIO_REGEN 0) + 1)) := by
  obtain ⟨hregen, -⟩ := (s.takeSpare 0).2.regenerated_spec (s.pageFallback page) ticks
  obtain ⟨hbad, hobj⟩ := ((s.takeSpare 0).2.regenerated (s.pageFallback page) ticks).respared_page page (s.takeSpare 0).1
  rw [s.obj_takeSpare] at hregen
  have h : s.repairCm page ticks = ((s.takeSpare 0).2.regenerated (s.pageFallback page) ticks).respared page (s.takeSpare 0).1 := by
    unfold State.repairCm
    extract_lets p fallback
    rw [if_neg (by rcases hf with h | h <;> simp [fallback, p, hb, h]), show p.spare = none from hk]
    rfl
  rw [h]
  exact ⟨hbad, hobj.trans hregen⟩

/-! ## Die-to-die links (R469, R470) -/

/-- Words that failed their replays. -/
theorem State.replayFails_spec (s : State) (link direction group words : Nat) (conns : List Nat) :
    let t := s.replayFails link direction group words conns
    t.obj (Obj.D2D_REPLAY_FAIL link) = u64 (s.obj (Obj.D2D_REPLAY_FAIL link) + words) ∧
    (∀ k, k ≠ Obj.D2D_REPLAY_FAIL link → t.obj k = s.obj k) ∧
    (∀ n ∈ conns, n ∈ (if direction = 0 then t.prism.poisonNext else t.prism.poison)) := by
  intro v
  unfold v State.replayFails
  extract_lets t u
  have hconns : ∀ n ∈ conns, n ∈ (if direction = 0 then u.prism.poisonNext else u.prism.poison) := fun n hn => by
    by_cases h : direction = 0
    · simp [u, State.withPrism, h, hn]
    · simp [u, State.withPrism, h, hn]
  have hone : u.obj (Obj.D2D_REPLAY_FAIL link) = u64 (s.obj (Obj.D2D_REPLAY_FAIL link) + words) := s.obj_bump_same _ words
  have hother (k : Key) (h : k ≠ Obj.D2D_REPLAY_FAIL link) : u.obj k = s.obj k := s.obj_bump_ne words h
  clear_value u
  split
  · exact ⟨hone, hother, hconns⟩
  · exact ⟨hone, hother, hconns⟩

/-- The halves do not say what is poisoned. -/
theorem Prism.setHalf_poison (p : Prism) (half : Nat) (words : Map Nat) (unwritten : List Nat) (mode : HalfMode) :
    (p.setHalf half words unwritten mode).poison = p.poison ∧ (p.setHalf half words unwritten mode).poisonNext = p.poisonNext := by
  unfold Prism.setHalf
  split
  · exact ⟨rfl, rfl⟩
  · exact ⟨rfl, rfl⟩

/-- Beats and replays are counted. -/
def State.replayed (s : State) (r : Replay) : State := (s.bump (Obj.D2D_PARITY_ERR r.link) r.beats).bump (Obj.D2D_REPLAY r.link) r.replays

/-- Words that came too late count as unwritten. -/
def State.wordsMissed (u : State) (r : Replay) : State :=
  (u.withPrism fun p => p.setHalf (u.tick % 2) (p.words (u.tick % 2)) ((p.unwritten (u.tick % 2) ++ r.missed).dedup) (p.mode (u.tick % 2))).withStores
    fun y => { y with late := (y.late ++ r.late).dedup }

theorem State.wordsMissed_spec (u : State) (r : Replay) : (∀ k, (u.wordsMissed r).obj k = u.obj k) ∧ (u.wordsMissed r).changes = u.changes ∧
    (u.wordsMissed r).prism.poison = u.prism.poison ∧ (u.wordsMissed r).prism.poisonNext = u.prism.poisonNext := by
  obtain ⟨hp, hn⟩ := u.prism.setHalf_poison (u.tick % 2) (u.prism.words (u.tick % 2)) ((u.prism.unwritten (u.tick % 2) ++ r.missed).dedup)
    (u.prism.mode (u.tick % 2))
  exact ⟨fun _ => rfl, rfl, hp, hn⟩

theorem exec_d2dReplay_group (r : Replay) (s : State) (h : groupExists r.link r.group = true) : exec (.d2dReplay r) s =
    .next ((if r.failed = true ∧ 3 ≤ r.replays then (s.replayed r).replayFails r.link r.direction r.group 8 r.conns else s.replayed r).wordsMissed r) :=
  if_neg (not_not.mpr h)

theorem groupExists_iff {link group : Nat} : groupExists link group = true ↔ group < if link < 4 then 56 else 112 := decide_eq_true_iff

theorem State.replayed_spec (s : State) (r : Replay) :
    (s.replayed r).obj (Obj.D2D_PARITY_ERR r.link) = u64 (s.obj (Obj.D2D_PARITY_ERR r.link) + r.beats) ∧
    (s.replayed r).obj (Obj.D2D_REPLAY r.link) = u64 (s.obj (Obj.D2D_REPLAY r.link) + r.replays) ∧
    (s.replayed r).obj (Obj.D2D_REPLAY_FAIL r.link) = s.obj (Obj.D2D_REPLAY_FAIL r.link) ∧ (s.replayed r).changes = s.changes := by
  unfold State.replayed
  exact ⟨(State.obj_bump_ne _ _ (by simp)).trans (s.obj_bump_same _ _), (State.obj_bump_same _ _ _).trans (by rw [s.obj_bump_ne _ (by simp)]),
    (State.obj_bump_ne _ _ (by simp)).trans (s.obj_bump_ne _ (by simp)), rfl⟩

end

/-- Settles O51, each command by its equation: the pages through what a read, a write-back and a move leave in them. -/
theorem storesAreScrubbed : Obligations.StoresAreScrubbed := by
  intro s
  refine ⟨fun g page => ⟨fun hno => ?_, fun hq => ?_⟩, fun v passEnd => ⟨fun hno => exec_scrubVisit_none v passEnd s hno, fun hv hb hw hbad hq => ?_,
    fun b hv hb hp hs hroom h0 => ?_⟩, fun g => ⟨fun hdue => ?_, fun hno => ?_⟩, fun g page => ⟨exec_pageRepairSwitch_none, fun k hc hk => ?_⟩,
    fun page ticks => ⟨fun h => congrArg Host.Outcome.next (State.repairCm_waits h), fun hb hf => ⟨_, rfl, ?_⟩⟩, fun rq x g val v h => ?_,
    fun r => ⟨fun hno => if_pos (mt groupExists_iff.mp hno), fun h => ⟨_, exec_d2dReplay_group r s (groupExists_iff.mpr h), ?_⟩⟩,
    fun link direction group lane errors => ?_⟩
  · rw [exec_demandScrub, if_neg (by simp [hno])]
  · obtain ⟨hqueued, hwrong, hwritten⟩ := s.writeBack_page g page
    refine ⟨_, (exec_demandScrub g page s).trans (congrArg Host.Outcome.next (if_pos hq)), hqueued, hwrong, fun b hmem => ?_,
      fun h q hne => s.writeBack_other g page hne, s.writeBack_frame g page⟩
    rw [hwritten]
    exact List.mem_append_left _ (List.mem_map_of_mem hmem)
  · obtain ⟨hframe, hpass, hrec, hpage⟩ := State.visited_idle hbad hq
    refine ⟨_, exec_scrubVisit v passEnd s hv, ?_⟩
    rw [State.readPage_clean { v with reader := 4 } hb hw]
    exact State.passEnds_spec hframe hpass hrec hpage
  · rw [exec_scrubVisit v false s hv, State.readPage_fresh { v with reader := 4 } hv hb hp hs, State.fillBucket_room hroom]
    obtain ⟨hcount, hlevel, hchanges⟩ := s.bitCounted_spec v.region.val
    refine ⟨_, rfl, ?_⟩
    have hrec : (s.bitCounted v.region.val).recoding v.region.val = 0 := h0
    generalize s.bitCounted v.region.val = u at hcount hlevel hchanges hrec
    obtain ⟨hobj, hkept, hwrong, hwritten⟩ := u.visitedFirst_spec v.region.val v.page b s.now hrec
    exact ⟨(hobj _).trans hcount, (hobj _).trans hlevel, hwrong, hwritten, hkept.trans hchanges⟩
  · obtain ⟨hlevel, hat, hobj, hframe⟩ := s.opened.leaked_spec g
    refine ⟨_, (exec_bucketLeak g s).trans (congrArg Host.Outcome.next (State.atBoundary_of_opened ((s.opened.leak_eq g).trans (if_pos hdue)))), ?_⟩
    generalize s.opened.leaked g = u at hlevel hat hobj hframe ⊢
    refine ⟨hlevel, hat, hobj, ?_⟩
    rw [hframe]
    rfl
  · exact (exec_bucketLeak g s).trans (congrArg Host.Outcome.next (State.atBoundary_unchanged ((s.opened.leak_eq g).trans (if_neg hno))))
  · obtain ⟨hpage, hlog, hcount, -, hchanges, hframe⟩ := s.opened.moveToSpare_spec g page k false
    refine ⟨_, (exec_pageRepairSwitch_copied hc hk).trans (congrArg Host.Outcome.next (State.atBoundary_of_opened rfl)), hpage, ?_, hcount, hchanges, ?_⟩
    · simpa using hlog
    · generalize s.opened.moveToSpare g page k false = u at hframe ⊢
      rw [hframe]
      rfl
  · cases hk : (s.page 0 page).spare with
    | none =>
      obtain ⟨hbad, hregen⟩ := State.repairCm_free (ticks := ticks) hb hf hk
      exact ⟨hbad, hregen, fun k h => absurd h (by simp)⟩
    | some k =>
      obtain ⟨hregen, hstores, hchanges, htick⟩ := s.regenerated_spec (s.pageFallback page) ticks
      rw [State.repairCm_spare hb hf hk]
      generalize s.regenerated (s.pageFallback page) ticks = u at hregen hstores hchanges htick
      obtain ⟨hpage, hlog, -, hother, hevent, -⟩ := u.moveToSpare_spec 0 page k true
      refine ⟨congrArg StorePage.bad hpage, (hother _ (by simp) (by simp)).trans hregen, fun j hj => ?_⟩
      obtain rfl : k = j := Option.some.inj hj
      exact ⟨by simpa using hlog, by rw [hevent, hchanges, htick]⟩
  · exact congrArg Host.Outcome.next (serveWrite_accepted h acceptStores rfl)
  · obtain ⟨hpar, hrep, hfail, hchanges⟩ := s.replayed_spec r
    generalize s.replayed r = u at hpar hrep hfail hchanges
    by_cases h3 : r.failed = true ∧ 3 ≤ r.replays
    · rw [if_pos h3]
      obtain ⟨hone, hother, hconns⟩ := u.replayFails_spec r.link r.direction r.group 8 r.conns
      generalize u.replayFails r.link r.direction r.group 8 r.conns = w at hone hother hconns
      obtain ⟨hobj, -, hp, hn⟩ := w.wordsMissed_spec r
      refine ⟨(hobj _).trans ((hother _ (by simp)).trans hpar), (hobj _).trans ((hother _ (by simp)).trans hrep), fun h => ?_, fun _ _ => ⟨?_, ?_⟩⟩
      · obtain hf | hf := h
        · exact absurd (hf.symm.trans h3.1) (by simp)
        · exact absurd hf (by omega)
      · exact (hobj _).trans (hone.trans (by rw [hfail]))
      · rw [hp, hn]
        exact hconns
    · rw [if_neg h3]
      obtain ⟨hobj, hkept, -⟩ := u.wordsMissed_spec r
      exact ⟨(hobj _).trans hpar, (hobj _).trans hrep, fun _ => ⟨hkept.trans hchanges, (hobj _).trans hfail⟩, fun hf h => absurd ⟨hf, h⟩ h3⟩
  · change execD2dLaneSpare link direction group lane errors s = _
    unfold execD2dLaneSpare
    simp only [groupExists_iff]
    exact (apply_ite Host.Outcome.next _ _ _).symm

end Sys2Proof.Machine
end

section
/-! PROOFS. The Vyusk ring: copies, the master and its ports (O50). -/

namespace Sys2Proof.Machine

/-! ## A copy that the Loupe records (R394, R395) -/

/-- `t` comes from `s` by work of the Loupe: its objects, its records and events. -/
structure LoupeWork (s t : State) : Prop where
  frame : t = { s with reg := t.reg, instr := t.instr, changes := t.changes }
  obj {k : Key} : ¬ (k.c = 0x50 ∧ k.i = 0xFF) → t.obj k = s.obj k

theorem LoupeWork.refl (s : State) : LoupeWork s s := ⟨rfl, fun _ => rfl⟩

theorem State.withLoupe_work (s : State) (f : Loupe → Loupe) : LoupeWork s (s.withLoupe f) := ⟨rfl, fun _ => rfl⟩

theorem LoupeWork.trans {r s t : State} (h : LoupeWork r s) (g : LoupeWork s t) : LoupeWork r t where
  frame := by rw [g.frame, h.frame]
  obj hk := (g.obj hk).trans (h.obj hk)

theorem State.loupeFinish_work (s : State) : LoupeWork s s.loupeFinish := by
  have hne {k : Key} (h : ¬ (k.c = 0x50 ∧ k.i = 0xFF)) (m x : Nat) : k ≠ ⟨0x50, 0xFF, m, x⟩ := fun e => h (by rw [e]; exact ⟨rfl, rfl⟩)
  unfold State.loupeFinish
  extract_lets total
  exact ⟨State.raise_frame rfl _ _, fun hk => (State.obj_setObj_ne _ _ (hne hk _ _)).trans (State.obj_setObj_ne _ _ (hne hk _ _))⟩

theorem State.loupeAppend_work (s : State) (r : LoupeRec) (kept : Bool) : LoupeWork s (s.loupeAppend r kept) := by
  unfold State.loupeAppend
  split
  · exact s.withLoupe_work _
  · extract_lets x t
    split
    · exact s.withLoupe_work _
    · split
      · split
        · exact (s.withLoupe_work _).trans (State.loupeFinish_work _)
        · exact s.withLoupe_work _
      · exact s.loupeFinish_work
    · exact .refl s

theorem State.loupeFrame_work (s : State) (copy : RingCopy) : LoupeWork s (s.loupeFrame copy) := by
  unfold State.loupeFrame
  split
  · exact s.loupeAppend_work _ _
  · exact .refl s

theorem State.loupeFrame_idle {s : State} (h : s.recording = false) (copy : RingCopy) : s.loupeFrame copy = s := if_neg (by simp [h])

/-! ## Injected ring faults (R475) -/

/-- A step of injection reads and writes what is injected and the copy, whatever else the state holds. -/
def InjectLocal (f : State × RingCopy → State × RingCopy) : Prop :=
  ∀ (i : Injection) (c : RingCopy), ∃ (j : Injection) (d : RingCopy), ∀ t : State, t.inject = i → f (t, c) = ({ t with inject := j }, d)

theorem injectLocal_foldl {α : Type} {f : State × RingCopy → α → State × RingCopy} (hf : ∀ x, InjectLocal fun y => f y x) (l : List α) :
    InjectLocal fun y => l.foldl f y := by
  induction l with
  | nil => exact fun i c => ⟨i, c, fun t ht => by rw [← ht]; rfl⟩
  | cons x l ih =>
    intro i c
    obtain ⟨j, d, hx⟩ := hf x i c
    obtain ⟨k, e, hl⟩ := ih j d
    refine ⟨k, e, fun t ht => ?_⟩
    have hstep : f (t, c) x = ({ t with inject := j }, d) := hx t ht
    change l.foldl f (f (t, c) x) = _
    rw [hstep]
    exact hl _ rfl

theorem applyRingFault_local (f : RingFault) : InjectLocal fun y => y.1.applyRingFault y.2 f := by
  intro i c
  unfold State.applyRingFault
  dsimp only
  split
  · exact ⟨i, _, fun t ht => by rw [← ht]⟩
  · refine ⟨if c.valid f.area f.place then { i with held := i.held ++ [⟨f.port, f.area, f.place, c.bytesAt f.area f.place⟩] } else i,
      c.writeAt f.area f.place 0, fun t ht => ?_⟩
    rw [← ht]
    split
    · rfl
    · rfl
  · exact ⟨i, _, fun t ht => by rw [← ht]⟩

theorem release_local (x : RingHeld) : InjectLocal fun y => y.1.release y.2 x := by
  intro i c
  refine ⟨if c.valid x.area x.place then { i with held := i.held ++ [x] } else i,
    if c.valid x.area x.place then c else c.writeAt x.area x.place x.bytes, fun t ht => ?_⟩
  rw [← ht]
  change t.release c x = _
  unfold State.release
  split
  · rfl
  · rfl

/-- What injection makes of a copy follows from what is injected alone. -/
theorem injectCopy_local (i : Injection) (c : RingCopy) : ∃ (j : Injection) (d : RingCopy), ∀ t : State, t.inject = i →
    t.injectCopy c = ({ t with inject := j }, d) := by
  let y : Injection := { i with
    held := i.held.filter fun h => decide (h.port ≠ c.port.val), ring := i.ring.filter fun f => decide (f.port ≠ c.port.val) }
  obtain ⟨j, d, hfault⟩ := injectLocal_foldl applyRingFault_local (i.ring.filter fun f => decide (f.port = c.port.val)) y c
  obtain ⟨k, e, hheld⟩ := injectLocal_foldl release_local (i.held.filter fun h => decide (h.port = c.port.val)) j d
  refine ⟨k, e, fun t ht => ?_⟩
  subst ht
  unfold State.injectCopy
  extract_lets p mine u x
  have hx : x = ({ t with inject := j }, d) := hfault u rfl
  rw [hx]
  exact hheld _ rfl

/-- Nothing waits to be injected. -/
theorem Injection.filter_none {i : Injection} (hr : i.ring = []) (hh : i.held = []) (p : RingHeld → Bool) (q : RingFault → Bool) :
    { i with held := i.held.filter p, ring := i.ring.filter q } = i := by
  cases i
  simp_all

theorem State.injectCopy_none {s : State} (hr : s.inject.ring = []) (hh : s.inject.held = []) (copy : RingCopy) : s.injectCopy copy = (s, copy) := by
  have hu := congrArg (fun i => { s with inject := i }) (Injection.filter_none hr hh (fun h => decide (h.port ≠ copy.port.val))
    fun f => decide (f.port ≠ copy.port.val))
  have hx := congrArg (fun t : State => (t, copy)) hu
  unfold State.injectCopy
  rw [hr, hh]
  exact hx

/-! ## Work on a copy that passes (R441, R442, R445) -/

/-- `t` comes from `s` by work on a copy: the two sets, the copies sent and the failed ports stay. -/
structure RingKeeps (s t : State) : Prop where
  act : t.act = s.act
  shd : t.shd = s.shd
  out : t.ring.out = s.ring.out
  failed : t.ring.failed = s.ring.failed

theorem RingKeeps.refl (s : State) : RingKeeps s s := ⟨rfl, rfl, rfl, rfl⟩

theorem RingKeeps.trans {r s t : State} (h : RingKeeps r s) (g : RingKeeps s t) : RingKeeps r t :=
  ⟨g.act.trans h.act, g.shd.trans h.shd, g.out.trans h.out, g.failed.trans h.failed⟩

/-- The counts of a node's work on copies. -/
def ringCount (k : Key) : Prop := k = Obj.VY_URG_DEFER ∨ ∃ p, k = Obj.VY_CRC_ERR p

/-- No object but those counts changes. -/
structure RingPasses (s t : State) : Prop extends RingKeeps s t where
  obj {k : Key} : ¬ ringCount k → t.obj k = s.obj k

theorem RingPasses.refl (s : State) : RingPasses s s := ⟨.refl s, fun _ => rfl⟩

theorem RingPasses.trans {r s t : State} (h : RingPasses r s) (g : RingPasses s t) : RingPasses r t :=
  ⟨h.toRingKeeps.trans g.toRingKeeps, fun hk => (g.obj hk).trans (h.obj hk)⟩

theorem RingPasses.foldl {α : Type} {f : State → α → State} (hf : ∀ s x, RingPasses s (f s x)) (l : List α) (s : State) : RingPasses s (l.foldl f s) :=
  List.foldlRecOn (motive := fun t : State => RingPasses s t) l f (.refl s) fun t ht x _ => ht.trans (hf t x)

theorem State.withRing_passes (s : State) (f : Ring → Ring) (ho : (f s.ring).out = s.ring.out) (hf : (f s.ring).failed = s.ring.failed) :
    RingPasses s (s.withRing f) := ⟨⟨rfl, rfl, ho, hf⟩, fun _ => rfl⟩

theorem State.receiveRemote_frame (s : State) (node index tick record : Nat) :
    s.receiveRemote node index tick record = { s with prot := (s.receiveRemote node index tick record).prot } := by
  obtain ⟨t, ht, hframe, -⟩ := State.foldl_setRemote tick record ((List.range 64).filter (s.takesRemote node index tick)) s
  rw [s.receiveRemote_eq, ht]
  exact hframe

theorem State.receiveRemote_passes (s : State) (node index tick record : Nat) : RingPasses s (s.receiveRemote node index tick record) := by
  rw [s.receiveRemote_frame]
  exact ⟨⟨rfl, rfl, rfl, rfl⟩, fun _ => rfl⟩

theorem State.receiveRemote_owed (s : State) (node index tick record : Nat) : (s.receiveRemote node index tick record).owed = s.owed := by
  rw [s.receiveRemote_frame]

theorem State.readUrgent_passes (s : State) (c : RingCopy) : RingPasses s (s.readUrgent c) ∧ (s.readUrgent c).owed = s.owed := by
  unfold State.readUrgent
  extract_lets bad
  clear_value bad
  have hb : RingPasses s (s.bump (Obj.VY_CRC_ERR c.port) bad) :=
    ⟨⟨rfl, rfl, rfl, rfl⟩, fun {k} hk => s.obj_bump_ne bad fun e => hk (.inr ⟨_, e⟩)⟩
  exact ⟨hb.trans (RingPasses.foldl (fun t u => t.receiveRemote_passes _ _ _ _) _ _),
    foldl_keeps (fun t : State => t.owed) (fun t u => t.receiveRemote_owed _ _ _ _) _ _⟩

theorem State.takeRequest_passes (s : State) (frame : Nat) (x : SegIn) : RingPasses s (s.takeRequest frame x) := by
  unfold State.takeRequest
  extract_lets key answer part
  have hanswer (u : State) (b : Bool) : RingPasses u (answer u b) := u.withRing_passes _ rfl rfl
  have hpart (u : State) (p : Option Partial) : RingPasses u (part u p) := u.withRing_passes _ rfl rfl
  have hreset : RingPasses s ({ s with owed := Map.set none s.owed key none }.withRing fun r => { r with sent := Map.set 0 r.sent key 0 }) :=
    ⟨⟨rfl, rfl, rfl, rfl⟩, fun _ => rfl⟩
  clear_value answer part
  split
  · exact .refl s
  split
  · exact hanswer s _
  split
  · exact (hreset.trans (hpart _ _)).trans (hanswer _ _)
  split
  · split
    · exact (hpart s _).trans (hanswer _ _)
    · exact (hpart s _).trans (hanswer _ _)
  · exact hanswer s _

theorem State.takeReply_passes (s : State) (d : ReplyDue) : RingPasses s (s.takeReply d) := by
  have hput (x : ReplySeg) : RingPasses s (s.withRing fun r => { r with written := r.written ++ [x] }) := s.withRing_passes _ rfl rfl
  unfold State.takeReply
  extract_lets key put
  split
  · extract_lets len last t
    have ht : RingPasses s t := hput _
    clear_value t
    split
    · exact ht.trans ⟨⟨rfl, rfl, rfl, rfl⟩, fun _ => rfl⟩
    · exact ht.trans (t.withRing_passes _ rfl rfl)
  · exact hput _

theorem State.takeReplies_passes (s : State) (frame : Nat) : RingPasses s (s.takeReplies frame) := by
  unfold State.takeReplies
  extract_lets ready t
  exact (s.withRing_passes _ rfl rfl).trans (RingPasses.foldl State.takeReply_passes ready t)

theorem State.defer_passes (s : State) (n : Nat) : RingPasses s (s.defer n) := by
  unfold State.defer
  split
  · exact .refl s
  · extract_lets t
    have ht : RingPasses s t := ⟨⟨rfl, rfl, rfl, rfl⟩, fun {k} hk => s.obj_bump_ne n fun e => hk (.inl e)⟩
    clear_value t
    split
    · exact ht
    · exact ht.trans ⟨⟨rfl, rfl, rfl, rfl⟩, fun _ => rfl⟩

/-- The header of a copy is the node's. -/
def State.headed (s : State) (c : RingCopy) : State :=
  let a := (((s.setMaster c.master).setObj Obj.VY_PRESENT c.present).setObj Obj.VY_TOPO c.topo).setObj Obj.VY_URG_TICKS c.urg
  a.setObj Obj.VY_STATE (if a.ring.failed ≠ [] then 3 else if bit c.present s.vyNode then 2 else 1)

theorem Ring.setWaiting_keeps (r : Ring) (p : Nat) (xs : List RingUrgent) : (r.setWaiting p xs).out = r.out ∧ (r.setWaiting p xs).failed = r.failed := by
  unfold Ring.setWaiting
  split
  · exact ⟨rfl, rfl⟩
  · exact ⟨rfl, rfl⟩

/-- A copy that passes goes on with what the node adds. -/
theorem State.passCopy_sends (s : State) (c : RingCopy) : ∃ (i : State) (x : CopyOut), RingPasses (s.headed c) i ∧ s.passCopy c = i.sendCopy x := by
  unfold State.passCopy
  extract_lets p joined a b refresh d e f g h out turned again free own sent i unread answered
  have hb : b = s.headed c := rfl
  have hd : RingPasses b d := b.withRing_passes _ rfl rfl
  have he : RingPasses d e := by
    unfold e
    split
    · exact d.withRing_passes _ rfl rfl
    · exact .refl d
  have hf : RingPasses e f := (e.readUrgent_passes c).1
  have hg : RingPasses f g := by
    unfold g
    split
    · exact .refl f
    · exact RingPasses.foldl (fun t x => t.takeRequest_passes _ x) _ f
  have hh : RingPasses g h := by
    unfold h
    split
    · exact .refl g
    · exact g.takeReplies_passes _
  obtain ⟨hout, hfailed⟩ := h.ring.setWaiting_keeps p (own.drop free)
  have hw : RingPasses h (h.withRing fun r => { (r.setWaiting p (own.drop free)) with resend := if turned then none else r.resend }) :=
    h.withRing_passes _ hout hfailed
  have hi : RingPasses h i := hw.trans (State.defer_passes _ _)
  exact ⟨i, _, hb ▸ (((((hd.trans he).trans hf).trans hg).trans hh).trans hi), rfl⟩

/-! ## A copy at its end (R439, R443, R444, R447, R448) -/

theorem State.sendCopy_spec (s : State) (x : CopyOut) : (s.sendCopy x).ring.out = s.ring.out ++ [x] ∧ (∀ k, (s.sendCopy x).obj k = s.obj k) ∧
    s.sendCopy x = { s with ring := (s.sendCopy x).ring } := by
  unfold State.sendCopy
  exact ⟨rfl, fun _ => rfl, rfl⟩

/-- A node whose master changes answers what it owes with ABANDONED. -/
theorem State.setMaster_spec (s : State) (m : Nat) : RingKeeps s (s.setMaster m) ∧ (s.setMaster m).obj Obj.VY_MASTER = m ∧
    (∀ k, k ≠ Obj.VY_MASTER → (s.setMaster m).obj k = s.obj k) ∧ (s.setMaster m).changes = s.changes ++ (if s.obj Obj.VY_MASTER = m then []
      else [⟨Ev.VY_MASTER.code, false, s.tick, contentOf Ev.VY_MASTER.widths [s.obj Obj.VY_MASTER, m]⟩]) := by
  have hsame := s.obj_setObj_same Obj.VY_MASTER m
  have hne (k : Key) (h : k ≠ Obj.VY_MASTER) : (s.setObj Obj.VY_MASTER m).obj k = s.obj k := s.obj_setObj_ne m h
  unfold State.setMaster
  extract_lets old t
  by_cases h : old = m
  · rw [if_pos h, if_pos h]
    exact ⟨.refl s, h, fun _ _ => rfl, (List.append_nil _).symm⟩
  · rw [if_neg h, if_neg h]
    split
    · exact ⟨⟨rfl, rfl, rfl, rfl⟩, hsame, hne, rfl⟩
    · exact ⟨⟨rfl, rfl, rfl, rfl⟩, hsame, hne, rfl⟩

theorem State.headed_spec (s : State) (c : RingCopy) : RingKeeps s (s.headed c) ∧ (s.headed c).obj Obj.VY_MASTER = c.master ∧
    (s.headed c).obj Obj.VY_PRESENT = c.present ∧ (s.headed c).obj Obj.VY_TOPO = c.topo ∧ (s.headed c).obj Obj.VY_URG_TICKS = c.urg ∧
    (s.headed c).obj Obj.VY_STATE = (if s.ring.failed ≠ [] then 3 else if bit c.present s.vyNode then 2 else 1) ∧
    (s.headed c).obj Obj.VY_ROLE = s.obj Obj.VY_ROLE := by
  obtain ⟨hkeep, hmaster, hother, -⟩ := s.setMaster_spec c.master
  have hrole := hother Obj.VY_ROLE (by simp)
  unfold State.headed
  generalize s.setMaster c.master = u at hkeep hmaster hrole
  rw [← hkeep.failed]
  exact ⟨hkeep.trans ⟨rfl, rfl, rfl, rfl⟩, by simp [hmaster], by simp, by simp, by simp, State.obj_setObj_same _ _ _, by simp [hrole]⟩

theorem State.passCopy_spec (s : State) (c : RingCopy) : (s.passCopy c).obj Obj.VY_MASTER = c.master ∧ (s.passCopy c).obj Obj.VY_PRESENT = c.present ∧
    (s.passCopy c).obj Obj.VY_TOPO = c.topo ∧ (s.passCopy c).obj Obj.VY_URG_TICKS = c.urg ∧
    (s.passCopy c).obj Obj.VY_STATE = (if s.ring.failed ≠ [] then 3 else if bit c.present s.vyNode then 2 else 1) ∧
    (s.passCopy c).obj Obj.VY_ROLE = s.obj Obj.VY_ROLE ∧ (s.passCopy c).ring.out.length = s.ring.out.length + 1 ∧
    (s.passCopy c).act = s.act ∧ (s.passCopy c).shd = s.shd := by
  obtain ⟨hkeep, hmaster, hpresent, htopo, hurg, hstate, hrole⟩ := s.headed_spec c
  obtain ⟨i, x, hi, hsend⟩ := s.passCopy_sends c
  obtain ⟨hout, hobj, hframe⟩ := i.sendCopy_spec x
  have hk {m : Nat} (h1 : m ≠ 0x0e) (h2 : m ≠ 0x0c) : (i.sendCopy x).obj ⟨0x60, 1, m, 0⟩ = (s.headed c).obj ⟨0x60, 1, m, 0⟩ :=
    (hobj _).trans (hi.obj fun hc => hc.elim (fun e => h1 (congrArg Key.m e)) fun ⟨_, e⟩ => h2 (congrArg Key.m e))
  rw [hsend]
  refine ⟨(hk (by decide) (by decide)).trans hmaster, (hk (by decide) (by decide)).trans hpresent, (hk (by decide) (by decide)).trans htopo,
    (hk (by decide) (by decide)).trans hurg, (hk (by decide) (by decide)).trans hstate, (hk (by decide) (by decide)).trans hrole, ?_, ?_, ?_⟩
  · rw [hout, hi.out, hkeep.out, List.length_append]
    rfl
  · rw [hframe]
    exact hi.act.trans hkeep.act
  · rw [hframe]
    exact hi.shd.trans hkeep.shd

/-- `t` comes from `s` by the master's work on its own copy. -/
structure RingReturns (s t : State) : Prop extends RingKeeps s t where
  owed : t.owed = s.owed

theorem RingReturns.refl (s : State) : RingReturns s s := ⟨.refl s, rfl⟩

theorem RingReturns.trans {r s t : State} (h : RingReturns r s) (g : RingReturns s t) : RingReturns r t :=
  ⟨h.toRingKeeps.trans g.toRingKeeps, g.owed.trans h.owed⟩

theorem State.setObj_returns (s : State) (k : Key) (v : Nat) : RingReturns s (s.setObj k v) := ⟨⟨rfl, rfl, rfl, rfl⟩, rfl⟩

theorem State.setPresent_returns (s : State) (node : Nat) (on : Bool) : RingReturns s (s.setPresent node on) := by
  unfold State.setPresent
  split
  · exact .refl s
  · exact ⟨⟨rfl, rfl, rfl, rfl⟩, rfl⟩

theorem State.withRing_returns (s : State) (f : Ring → Ring) (ho : (f s.ring).out = s.ring.out) (hf : (f s.ring).failed = s.ring.failed) :
    RingReturns s (s.withRing f) := ⟨⟨rfl, rfl, ho, hf⟩, rfl⟩

theorem State.countMisses_returns (s : State) (c : RingCopy) : RingReturns s (s.countMisses c) := by
  unfold State.countMisses
  extract_lets asked
  refine List.foldlRecOn (motive := fun t : State => RingReturns s t) _ _ (.refl s) fun t ht a _ => ht.trans ?_
  extract_lets drop
  have hdrop (u : State) : RingReturns u (drop u) := u.withRing_returns _ rfl rfl
  clear_value drop
  split
  · exact ((hdrop t).trans (State.setObj_returns _ _ _)).trans (State.setPresent_returns _ _ _)
  split
  · exact t.withRing_returns _ rfl rfl
  · split
    · exact ((hdrop t).trans (State.setObj_returns _ _ _)).trans (State.setPresent_returns _ _ _)
    · exact (hdrop t).trans (State.setObj_returns _ _ _)

/-- After the loop delays and the state, the master's own bound and topology count. -/
structure RingBounds (s t : State) : Prop extends RingReturns s t where
  obj {k : Key} : k ≠ Obj.VY_URG_TICKS → k ≠ Obj.VY_TOPO → t.obj k = s.obj k

theorem RingBounds.trans {r s t : State} (h : RingBounds r s) (g : RingBounds s t) : RingBounds r t :=
  ⟨h.toRingReturns.trans g.toRingReturns, fun h1 h2 => (g.obj h1 h2).trans (h.obj h1 h2)⟩

theorem State.withRing_bounds (s : State) (f : Ring → Ring) (ho : (f s.ring).out = s.ring.out) (hf : (f s.ring).failed = s.ring.failed) :
    RingBounds s (s.withRing f) := ⟨s.withRing_returns f ho hf, fun _ _ => rfl⟩

theorem State.urgTicks_bounds (s : State) (v : Nat) : RingBounds s (s.setObj Obj.VY_URG_TICKS v) :=
  ⟨s.setObj_returns _ _, fun h1 _ => s.obj_setObj_ne v h1⟩

theorem State.nextTopo_bounds (s : State) : RingBounds s s.nextTopo := ⟨s.setObj_returns _ _, fun _ h2 => s.obj_setObj_ne _ h2⟩

theorem State.wrapEvent_bounds (s : State) (port : Nat) : RingBounds s (s.wrapEvent port) := ⟨⟨⟨rfl, rfl, rfl, rfl⟩, rfl⟩, fun _ _ => rfl⟩

/-- The loop delay that a copy brings home, and the state of its ring. -/
def State.loopShown (s : State) (c : RingCopy) : State :=
  let b := s.setObj (Obj.VY_LOOP (if c.west then 1 else 0)) (sat32 c.delay)
  b.setObj Obj.VY_STATE (if b.ring.failed ≠ [] then 3 else 2)

theorem State.returnCopy_bounds (s : State) (c : RingCopy) : RingBounds (((s.readUrgent c).countMisses c).loopShown c) (s.returnCopy c) := by
  unfold State.returnCopy
  extract_lets a b d bound due e e'
  have hd : d = ((s.readUrgent c).countMisses c).loopShown c := rfl
  have hbound (u : State) : RingBounds u (bound u) := u.urgTicks_bounds _
  have he : RingBounds d e := d.withRing_bounds _ rfl rfl
  have he' : RingBounds d e' := d.withRing_bounds _ rfl rfl
  rw [← hd]
  clear_value bound e e'
  have hmoves (u : State) (f : Ring → Ring) (hu : RingBounds d u) (ho : (f u.ring).out = u.ring.out) (hf : (f u.ring).failed = u.ring.failed) :
      RingBounds d ((bound (u.withRing f)).nextTopo.wrapEvent c.port) :=
    (((hu.trans (u.withRing_bounds f ho hf)).trans (hbound _)).trans (State.nextTopo_bounds _)).trans (State.wrapEvent_bounds _ _)
  split
  · split
    · exact he.trans (hbound e)
    · exact hmoves e _ he rfl rfl
  · split
    · exact hmoves e' _ he' rfl rfl
    · exact he'.trans (hbound e')

theorem State.returnCopy_spec (s : State) (c : RingCopy) : (s.returnCopy c).obj (Obj.VY_LOOP (if c.west then 1 else 0)) = sat32 c.delay ∧
    (s.returnCopy c).obj Obj.VY_STATE = (if s.ring.failed ≠ [] then 3 else 2) ∧ RingReturns s (s.returnCopy c) := by
  obtain ⟨hread, howed⟩ := s.readUrgent_passes c
  have hwork : RingReturns s ((s.readUrgent c).countMisses c) :=
    RingReturns.trans ⟨hread.toRingKeeps, howed⟩ (State.countMisses_returns _ c)
  have hend := s.returnCopy_bounds c
  generalize (s.readUrgent c).countMisses c = u at hwork hend
  have hshown : RingReturns u (u.loopShown c) := (u.setObj_returns _ _).trans (State.setObj_returns _ _ _)
  refine ⟨(hend.obj (by simp) (by simp)).trans ((State.obj_setObj_ne _ _ (by simp)).trans (State.obj_setObj_same _ _ _)), ?_,
    (hwork.trans hshown).trans hend.toRingReturns⟩
  rw [hend.obj (by simp) (by simp), ← hwork.failed]
  exact State.obj_setObj_same _ _ _

/-! ## Copies that go on unread -/

/-- The port on which a copy leaves, and the copy as it leaves unread. -/
def State.unreadCopy (s : State) (c : RingCopy) : CopyOut :=
  ⟨c.port, s.outPort c.port, (c.turn (decide (s.outPort c.port = c.port.val))).bytes, (c.turn (decide (s.outPort c.port = c.port.val))).bytes⟩

theorem State.forwardUnread_eq (s : State) (c : RingCopy) : s.forwardUnread c = s.sendCopy (s.unreadCopy c) := rfl

theorem State.unreadCopy_congr {s t : State} (h : t.ring.failed = s.ring.failed) (c : RingCopy) : t.unreadCopy c = s.unreadCopy c := by
  unfold State.unreadCopy State.outPort
  rw [h]

/-- A port that has heard a copy. -/
theorem State.heardOn_spec (s : State) (port : Nat) : RingReturns s (s.heardOn port) ∧
    (∀ k, k ≠ Obj.VY_PORT_STATE port → (s.heardOn port).obj k = s.obj k) ∧ (s.heardOn port).mc = s.mc := by
  unfold State.heardOn
  extract_lets t
  have ht : RingReturns s t := by
    refine s.withRing_returns _ ?_ ?_
    · split
      · rfl
      · rfl
    · split
      · rfl
      · rfl
  have hobj (k : Key) : t.obj k = s.obj k := rfl
  have hmc : t.mc = s.mc := rfl
  clear_value t
  split
  · exact ⟨ht, fun k _ => hobj k, hmc⟩
  · exact ⟨ht.trans (t.setObj_returns _ _), fun k hk => (t.obj_setObj_ne 1 hk).trans (hobj k), hmc⟩

theorem State.outPort_eq (s : State) (port : Nat) : s.outPort port = if 1 - port ∈ s.ring.failed then port else 1 - port := by
  unfold State.outPort
  simp only [List.contains_iff_mem]

/-! ## RING_COPY_RECEIVE -/

section
variable {s t : State} {copy c : RingCopy}

theorem exec_ringCopyReceive_dead (h : s.alive = false) : exec (.ringCopyReceive copy) s = .next s := if_pos (by simp [h])

/-- A living node reads the copy that injection leaves. -/
theorem exec_ringCopyReceive_alive (h : s.alive = true) (hc : (s.loupeFrame copy).injectCopy copy = (t, c)) : exec (.ringCopyReceive copy) s =
    if ¬ c.hcrcOk then .next ((t.bump (Obj.VY_CRC_ERR c.port)).forwardUnread c)
    else if c.ringId ≠ t.obj Obj.VY_RING_ID then .next ((t.bump Obj.VY_FOREIGN).forwardUnread c)
    else if (t.heardOn c.port).vyRole = 1 ∧ c.master = (t.heardOn c.port).vyNode then .next ((t.heardOn c.port).returnCopy c)
    else if (t.heardOn c.port).vyRole = 1 ∧ (t.heardOn c.port).vyNode < c.master then .next ((t.heardOn c.port).forwardUnread c)
    else .next ((if (t.heardOn c.port).vyRole = 1 then (t.heardOn c.port).setObj Obj.VY_ROLE 2 else t.heardOn c.port).passCopy c) := by
  change execRingCopyReceive copy s = _
  unfold execRingCopyReceive
  rw [if_neg (not_not.mpr h), hc]

/-- A count, and the copy goes on unread. -/
theorem State.countedUnread_spec (l : State) (j : Injection) (c : RingCopy) (k : Key) :
    let t := (({ l with inject := j } : State).bump k).forwardUnread c
    t.obj k = u64 (l.obj k + 1) ∧ t.ring.out = l.ring.out ++ [l.unreadCopy c] ∧ (∀ k', k' ≠ k → t.obj k' = l.obj k') ∧
    t = { l with reg := t.reg, ring := t.ring, inject := t.inject } := by
  let u := ({ l with inject := j } : State).bump k
  obtain ⟨hout, hobj, hframe⟩ := u.sendCopy_spec (u.unreadCopy c)
  intro t
  have ht : t = u.sendCopy (u.unreadCopy c) := rfl
  refine ⟨?_, ?_, fun k' hk => ?_, ?_⟩
  · rw [ht, hobj]
    exact State.obj_bump_same _ k 1
  · rw [ht, hout, State.unreadCopy_congr (s := l) (t := u) rfl]
    rfl
  · rw [ht, hobj]
    exact State.obj_bump_ne _ 1 hk
  · rw [ht, hframe]
    rfl

end

/-! ## The standby, and ports that fail (R444, R447) -/

/-- A port that heard nothing for 4 ticks. -/
def silentFor (now : Nat) (h : Option Nat) : Bool :=
  match h with
  | some t => decide (t + 4 ≤ now)
  | none => true

theorem silentFor_iff {now : Nat} {h : Option Nat} : silentFor now h = true ↔ ∀ a, h = some a → a + 4 ≤ now := by
  cases h <;> simp [silentFor]

theorem exec_standbyTakeover (s : State) : exec .standbyTakeover s =
    if s.alive = true ∧ s.obj Obj.VY_ROLE = 2 ∧ silentFor s.now s.ring.heard0 = true ∧ silentFor s.now s.ring.heard1 = true then
      .next (s.atBoundary fun t => ((t.setObj Obj.VY_ROLE 1).setMaster t.vyNode).nextTopo) else .next s := rfl

/-- Copies arrive on a port. -/
def heardLately (now : Nat) (h : Option Nat) : Bool :=
  match h with
  | some t => decide (now ≤ t + 2)
  | none => false

theorem heardLately_iff {now : Nat} {h : Option Nat} : heardLately now h = true ↔ ∃ a ∈ h, now ≤ a + 2 := by
  cases h <;> simp [heardLately]

section
variable {s : State} {port : Fin 2}

/-- A port changes, and with it the state of the ring. -/
def State.portTurned (s : State) (port : Fin 2) (v state : Nat) (f : Ring → Ring) : State :=
  ((s.setObj (Obj.VY_PORT_STATE port) v).withRing f).setObj Obj.VY_STATE state

/-- EV_VY_WRAP, with the topology count and the bound as they stand. -/
theorem State.portTurned_spec (s : State) (port : Fin 2) (v state : Nat) (f : Ring → Ring) : let t := (s.portTurned port v state f).wrapEvent port
    t.obj (Obj.VY_PORT_STATE port) = v ∧ t.obj Obj.VY_STATE = state ∧ t.ring = f s.ring ∧ t.changes = s.changes ++
      [⟨Ev.VY_WRAP.code, false, s.tick, contentOf Ev.VY_WRAP.widths [port.val, s.obj Obj.VY_TOPO, s.obj Obj.VY_URG_TICKS]⟩] ∧
    t = { s with reg := t.reg, ring := t.ring, changes := t.changes } := by
  have hport : (s.portTurned port v state f).obj (Obj.VY_PORT_STATE port) = v :=
    (State.obj_setObj_ne _ _ (by simp)).trans (s.obj_setObj_same (Obj.VY_PORT_STATE port) v)
  have hstate : (s.portTurned port v state f).obj Obj.VY_STATE = state := State.obj_setObj_same _ _ _
  have hother (k : Key) (h1 : k ≠ Obj.VY_STATE) (h2 : k ≠ Obj.VY_PORT_STATE port) : (s.portTurned port v state f).obj k = s.obj k :=
    (State.obj_setObj_ne _ _ h1).trans (s.obj_setObj_ne v h2)
  have hring : (s.portTurned port v state f).ring = f s.ring := rfl
  have hframe : s.portTurned port v state f = { s with reg := (s.portTurned port v state f).reg, ring := (s.portTurned port v state f).ring } := rfl
  generalize s.portTurned port v state f = u at hport hstate hother hring hframe ⊢
  have hchanges : u.changes = s.changes := by rw [hframe]
  have htick : u.tick = s.tick := by rw [hframe]
  refine ⟨hport, hstate, hring, ?_, ?_⟩
  · rw [← hother Obj.VY_TOPO (by simp) (by simp), ← hother Obj.VY_URG_TICKS (by simp) (by simp), ← hchanges, ← htick]
    rfl
  · rw [hframe]
    rfl

theorem exec_vyPortFail (s : State) (port : Fin 2) (lockLost : Bool) (quiet : Nat) : exec (.vyPortFail port lockLost quiet) s =
    if s.alive = true ∧ s.ring.failed.contains port.val = false ∧ (lockLost = true ∨ (2 ≤ quiet ∧
      heardLately s.now (if port.val = 0 then s.ring.heard1 else s.ring.heard0) = true)) then
      .next ((s.portTurned port 2 3 fun r =>
        { (r.setWaiting port []) with failed := r.failed ++ [port.val], resend := some (1 - port.val) }).wrapEvent port)
    else .next s := rfl

/-- The ports that failed, without one. -/
def Ring.recovered (r : Ring) (port : Nat) : Ring := { r with failed := r.failed.filter (· ≠ port), resend := none }

theorem exec_vyUnwrap (s : State) (port : Fin 2) (locked frame : Nat) : exec (.vyUnwrap port locked frame) s =
    if s.ring.failed.contains port.val = true ∧ 800 ≤ locked ∧ frame % 32 = 0 then
      .next ((s.portTurned port 1 (if (s.ring.recovered port).failed ≠ [] then 3 else 2) (·.recovered port)).wrapEvent port)
    else .next s := rfl

/-- A standby that heard nothing takes the ring over. -/
def State.takenOver (s : State) : State := ((s.setObj Obj.VY_ROLE 1).setMaster s.vyNode).nextTopo

theorem State.takenOver_spec (s : State) : s.takenOver.obj Obj.VY_ROLE = 1 ∧ s.takenOver.obj Obj.VY_MASTER = s.vyNode ∧
    s.takenOver.obj Obj.VY_TOPO = (s.obj Obj.VY_TOPO + 1) % 2 ^ 16 ∧ s.takenOver.changes = s.changes ++ (if s.obj Obj.VY_MASTER = s.vyNode then []
      else [⟨Ev.VY_MASTER.code, false, s.tick, contentOf Ev.VY_MASTER.widths [s.obj Obj.VY_MASTER, s.vyNode]⟩]) := by
  obtain ⟨-, hmaster, hother, hchanges⟩ := (s.setObj Obj.VY_ROLE 1).setMaster_spec s.vyNode
  rw [s.obj_setObj_ne 1 (show Obj.VY_MASTER ≠ Obj.VY_ROLE by simp)] at hchanges
  have hrole := (hother Obj.VY_ROLE (by simp)).trans (s.obj_setObj_same _ _)
  have htopo := (hother Obj.VY_TOPO (by simp)).trans (s.obj_setObj_ne 1 (by simp))
  unfold State.takenOver State.nextTopo
  generalize (s.setObj Obj.VY_ROLE 1).setMaster s.vyNode = u at hmaster hchanges hrole htopo ⊢
  exact ⟨(State.obj_setObj_ne _ _ (by simp)).trans hrole, (State.obj_setObj_ne _ _ (by simp)).trans hmaster,
    (State.obj_setObj_same _ _ _).trans (by rw [htopo]), hchanges⟩

end

/-- Settles O50: a copy by what it is to the node, the standby, and the ports. -/
theorem ringCopiesTravel : Obligations.RingCopiesTravel := by
  intro s node wrap
  refine ⟨fun copy => ⟨exec_ringCopyReceive_dead, fun hr hh => State.injectCopy_none hr hh copy, fun h => State.loupeFrame_idle h copy, fun ha => ?_⟩,
    ⟨fun hsil => ?_, fun hno => ?_⟩, fun port lockLost quiet => ⟨fun hf => ?_, fun hno => ?_⟩, fun port locked frame => ⟨fun hc => ?_, fun hno => ?_⟩⟩
  · intro l c out onward unread own higher
    obtain ⟨hlframe, hlobj⟩ := s.loupeFrame_work copy
    obtain ⟨j, d, hinj⟩ := injectCopy_local s.inject copy
    have hlinject : l.inject = s.inject := by rw [show l = _ from hlframe]
    have hc : c = d := congrArg Prod.snd (hinj s rfl)
    have hexec := exec_ringCopyReceive_alive ha (hinj l hlinject)
    rw [← hc] at hexec
    have hlring : l.ring = s.ring := by rw [show l = _ from hlframe]
    have hlact : l.act = s.act := by rw [show l = _ from hlframe]
    have hlshd : l.shd = s.shd := by rw [show l = _ from hlframe]
    have hlowed : l.owed = s.owed := by rw [show l = _ from hlframe]
    have hlmc : l.mc = s.mc := by rw [show l = _ from hlframe]
    have hvy (k : Key) (hk : k.c = 0x60) : l.obj k = s.obj k := hlobj fun h => absurd (hk.symm.trans h.1) (by decide)
    have hunread : s.unreadCopy c = unread := by
      unfold State.unreadCopy
      rw [State.outPort_eq]
    have hlunread : l.unreadCopy c = unread := (State.unreadCopy_congr (by rw [hlring]) c).trans hunread
    let t : State := { l with inject := j }
    obtain ⟨hret, hobj, hmc⟩ := t.heardOn_spec c.port
    have hrole : (t.heardOn c.port).vyRole = s.obj Obj.VY_ROLE := (hobj _ (by simp)).trans (hvy _ rfl)
    have hnode : (t.heardOn c.port).vyNode = node := congrArg Mc.node (hmc.trans hlmc)
    have hid : t.obj Obj.VY_RING_ID = s.obj Obj.VY_RING_ID := hvy _ rfl
    change exec _ s = if ¬ c.hcrcOk = true then .next ((t.bump _).forwardUnread c) else if c.ringId ≠ t.obj Obj.VY_RING_ID then _ else _ at hexec
    rw [hrole, hnode, hid] at hexec
    have hheard : RingReturns l (t.heardOn c.port) := RingReturns.trans (s := t) ⟨⟨rfl, rfl, rfl, rfl⟩, rfl⟩ hret
    refine ⟨fun hbad => ?_, fun hok hfor => ?_, fun hok hid hown => ?_, fun hok hid hown hhigh => ?_, fun hok hid hown hhigh => ?_⟩
    · obtain ⟨hcount, hout, hother, hframe⟩ := l.countedUnread_spec j c (Obj.VY_CRC_ERR c.port)
      rw [if_pos (by simp [hbad])] at hexec
      exact ⟨_, hexec, hcount.trans (by rw [hvy _ rfl]), hout.trans (by rw [hlring, hlunread]), hother, hframe⟩
    · obtain ⟨hcount, hout, hother, hframe⟩ := l.countedUnread_spec j c Obj.VY_FOREIGN
      rw [if_neg (not_not.mpr hok), if_pos hfor] at hexec
      exact ⟨_, hexec, hcount.trans (by rw [hvy _ rfl]), hout.trans (by rw [hlring, hlunread]), hother, hframe⟩
    · rw [if_neg (not_not.mpr hok), if_neg (not_not.mpr hid), if_pos hown] at hexec
      obtain ⟨hloop, hstate, hback⟩ := (t.heardOn c.port).returnCopy_spec c
      have hall := hheard.trans hback
      refine ⟨_, hexec, hloop, hstate.trans (by rw [hheard.failed, hlring]), hall.out.trans (by rw [hlring]), hall.act.trans hlact, hall.shd.trans hlshd,
        hall.owed.trans hlowed⟩
    · rw [if_neg (not_not.mpr hok), if_neg (not_not.mpr hid), if_neg hown, if_pos hhigh] at hexec
      obtain ⟨hout, hsent, -⟩ := (t.heardOn c.port).sendCopy_spec ((t.heardOn c.port).unreadCopy c)
      refine ⟨_, hexec, hout.trans ?_, fun k hk => (hsent k).trans (hobj k hk)⟩
      rw [hheard.out, State.unreadCopy_congr hheard.failed, hlring, hlunread]
    · rw [if_neg (not_not.mpr hok), if_neg (not_not.mpr hid), if_neg hown, if_neg hhigh] at hexec
      let u := if s.obj Obj.VY_ROLE = 1 then (t.heardOn c.port).setObj Obj.VY_ROLE 2 else t.heardOn c.port
      have hu : RingReturns l u ∧ u.vyNode = node ∧ u.obj Obj.VY_ROLE = (if s.obj Obj.VY_ROLE = 1 then 2 else s.obj Obj.VY_ROLE) := by
        unfold u
        split
        · exact ⟨hheard.trans (State.setObj_returns _ _ _), hnode, State.obj_setObj_same _ _ _⟩
        · exact ⟨hheard, hnode, hrole⟩
      obtain ⟨huret, hunode, hurole⟩ := hu
      obtain ⟨hmaster, hpresent, htopo, hurg, hstate, hpass, hlen, hact, hshd⟩ := u.passCopy_spec c
      exact ⟨_, hexec, hmaster, hpresent, htopo, hurg, hstate.trans (by rw [huret.failed, hlring, hunode]), hpass.trans hurole,
        hlen.trans (by rw [huret.out, hlring]), hact.trans (huret.act.trans hlact), hshd.trans (huret.shd.trans hlshd)⟩
  · obtain ⟨ha, hrole, h0, h1⟩ := hsil
    have hexec := (exec_standbyTakeover s).trans (if_pos ⟨ha, hrole, silentFor_iff.mpr h0, silentFor_iff.mpr h1⟩)
    exact ⟨_, hexec.trans (congrArg Host.Outcome.next (State.atBoundary_of_opened (t := s.opened.takenOver) rfl)), s.opened.takenOver_spec⟩
  · exact (exec_standbyTakeover s).trans (if_neg fun ⟨ha, hrole, h0, h1⟩ => hno ⟨ha, hrole, silentFor_iff.mp h0, silentFor_iff.mp h1⟩)
  · obtain ⟨ha, hport, hcause⟩ := hf
    obtain ⟨hst, hstate, hring, hchanges, hframe⟩ := s.portTurned_spec port 2 3 fun r =>
        { (r.setWaiting port []) with failed := r.failed ++ [port.val], resend := some (1 - port.val) }
    refine ⟨_, (exec_vyPortFail s port lockLost quiet).trans (if_pos ⟨ha, by simpa using hport, hcause.imp_right fun ⟨hq, hh⟩ => ⟨hq, heardLately_iff.mpr hh⟩⟩),
      hst, hstate, congrArg Ring.failed hring, congrArg Ring.resend hring, hchanges, hframe⟩
  · exact (exec_vyPortFail s port lockLost quiet).trans (if_neg fun ⟨ha, hport, hcause⟩ =>
      hno ⟨ha, by simpa using hport, hcause.imp_right fun ⟨hq, hh⟩ => ⟨hq, heardLately_iff.mp hh⟩⟩)
  · obtain ⟨hst, hstate, hring, hchanges, hframe⟩ := s.portTurned_spec port 1 (if (s.ring.recovered port).failed ≠ [] then 3 else 2) (·.recovered port)
    refine ⟨_, (exec_vyUnwrap s port locked frame).trans (if_pos ⟨by simpa using hc.1, hc.2⟩), hst, ?_, ?_, hchanges, hframe⟩
    · rw [hring]
      simp [Ring.recovered]
    · rw [hring]
      exact hstate
  · exact (exec_vyUnwrap s port locked frame).trans (if_neg fun h => hno ⟨by simpa using h.1, h.2⟩)

end Sys2Proof.Machine
end

section
/-! PROOFS. Performance monitoring: seconds, bins, windows and points (O49). -/

namespace Sys2Proof.Machine

section
variable {s : State}

/-! ## What the bins and the availability keep of the near end (R400) -/

theorem PmBins.onBin_far_ne (b : PmBins) (k : Int) (f : PmCounts → PmCounts) :
    (b.onBin k fun x => x.onEnd true f).cur.ne = b.cur.ne := by
  unfold PmBins.onBin
  split
  · rfl
  · split
    · split <;> rfl
    · rfl

theorem PmBins.onBin_cur {b : PmBins} {k : Int} (h : b.cur.k = k) (f : Bin → Bin) : (b.onBin k f).cur = f b.cur := by
  rw [PmBins.onBin, if_pos h]

/-- The near end's counts of a point's two current bins. -/
def PmPoint.near (q : PmPoint) : PmCounts × PmCounts := (q.m15.cur.ne, q.d24.cur.ne)

theorem PmPoint.near_count_far (q : PmPoint) (x : PmSec) (u : Bool) : (q.count true x u).near = q.near :=
  Prod.ext (PmBins.onBin_far_ne q.m15 x.k15 _) (PmBins.onBin_far_ne q.d24 x.k24 _)

theorem PmPoint.near_recount_far (q : PmPoint) (x : PmSec) (u : Bool) : (q.recount true x u).near = q.near :=
  Prod.ext (PmBins.onBin_far_ne q.m15 x.k15 _) (PmBins.onBin_far_ne q.d24 x.k24 _)

theorem PmPoint.near_setAvail (q : PmPoint) (far : Bool) (a : Avail) : (q.setAvail far a).near = q.near := by cases far <;> rfl

theorem PmPoint.near_judge_far (q : PmPoint) (x : PmSec) : (q.judge true x).near = q.near := by
  unfold PmPoint.judge
  extract_lets a run
  split
  · exact (PmPoint.near_setAvail _ _ _).trans (foldl_keeps PmPoint.near (fun b y => PmPoint.near_recount_far b y _) _ q)
  · exact PmPoint.near_setAvail _ _ _

/-- A run that stays below ten seconds changes no count. -/
theorem PmPoint.near_judge_short {q : PmPoint} (x : PmSec) (h : q.ne.run.length < 9) : (q.judge false x).near = q.near := by
  unfold PmPoint.judge
  extract_lets a run
  have hrun : run.length ≠ 10 := by
    unfold run
    split
    · decide
    · show q.ne.run.length + 1 ≠ 10
      omega
  rw [if_neg hrun]
  exact PmPoint.near_setAvail _ _ _

theorem PmPoint.near_count_near {q : PmPoint} {x : PmSec} (u : Bool) (h15 : q.m15.cur.k = x.k15) (h24 : q.d24.cur.k = x.k24) :
    (q.count false x u).near = (q.m15.cur.ne.add x u, q.d24.cur.ne.add x u) :=
  Prod.ext (congrArg Bin.ne (PmBins.onBin_cur h15 _)) (congrArg Bin.ne (PmBins.onBin_cur h24 _))

theorem PmBins.roll_same {b : PmBins} {k : Int} (h : b.cur.k = k) (hbm nofe engine : Bool) (depth : Nat) :
    b.roll false hbm nofe engine depth k = (b, 0) := by
  rw [PmBins.roll, if_neg Bool.false_ne_true, if_pos (le_of_eq h.symm)]

/-- A second with a defect is severely errored, whatever its blocks. -/
theorem classify_defect (k15 k24 : Int) (percent : Option Nat) (blocks errored : Nat) :
    classify k15 k24 percent true blocks errored = ⟨k15, k24, true, true, 0⟩ := rfl

/-! ## What a second leaves of the state (R399) -/

/-- What neither a write of the point, nor the count of lost records, nor an event changes, a second at that point leaves. -/
theorem State.pmClassify_keeps {γ : Type} (g : State → γ) {p : Nat} (hpoint : ∀ t x, g (State.setPmPoint t p x) = g t)
    (hlost : ∀ t n, g (State.bump t Obj.PM_HIST_LOST n) = g t) (hraise : ∀ t ev xs, g (State.raise t ev xs) = g t)
    (t : State) (sec : Nat) (x : PmCount) : g (t.pmClassify p sec x) = g t := by
  have htca (t : State) (type : Nat) (b : Bin) (is : List Nat) : g (t.raiseTca p type b is) = g t :=
    foldl_keeps g (fun t i => hraise t _ _) is t
  unfold State.pmClassify
  extract_lets
  split
  split
  split
  extract_lets
  split
  · exact (hpoint _ _).trans (hlost _ _)
  · exact (hpoint _ _).trans (((htca _ _ _ _).trans (htca _ _ _ _)).trans (hlost _ _))

/-- A second with a defect at a present point whose bins go on is counted as severely errored in both. -/
theorem State.pmClassify_near {p sec : Nat} {x : PmCount} {q : PmPoint} (hpoint : s.pmPoint p = q) (hq : q ≠ {})
    (h15 : q.m15.cur.k = s.bin15 sec) (h24 : q.d24.cur.k = s.bin24 sec) (hpresent : s.pmPresent p = true)
    (hdefect : s.endedDefect p = true) (huas : q.ne.uas = false) (hrun : q.ne.run.length < 9) :
    let sec' : PmSec := ⟨q.m15.cur.k, q.d24.cur.k, true, true, 0⟩
    ((s.pmClassify p sec x).pmPoint p).near = (q.m15.cur.ne.add sec' false, q.d24.cur.ne.add sec' false) := by
  intro sec'
  unfold State.pmClassify
  rw [hpoint]
  extract_lets engine counts old fresh defect mark flag ber power meas profile
  have hfresh : fresh = false := decide_eq_false hq
  have hbad : defect = true := by simp [defect, hdefect]
  split
  next percent far hshape =>
  rw [hfresh, PmBins.roll_same (b := old.m15) h15, PmBins.roll_same (b := old.d24) h24]
  dsimp -zeta only
  extract_lets rolled old15 old24 measured t near farSec counted both reached15 reached24 raised both15 cur15 both24 cur24 marked judged
  rw [if_neg (fun habsent => habsent hpresent)]
  have hnear : near = sec' := by
    unfold near
    rw [hbad]
    exact classify_defect _ _ _ _ _
  have hcounted : counted.near = (q.m15.cur.ne.add sec' false, q.d24.cur.ne.add sec' false) := by
    unfold counted
    rw [PmPoint.near_count_near (q := measured) _ (hnear ▸ rfl) (hnear ▸ rfl), hnear]
    show (q.m15.cur.ne.add sec' q.ne.uas, q.d24.cur.ne.add sec' q.ne.uas) = _
    rw [huas]
  have hboth : both.near = counted.near := by
    unfold both
    split
    · exact PmPoint.near_count_far _ _ _
    · rfl
  have hne : marked.ne = q.ne := by
    show both.ne = q.ne
    unfold both
    split <;> rfl
  have hjudged : judged.near = marked.near := PmPoint.near_judge_short _ (hne ▸ hrun)
  have hmarked : judged.near = (q.m15.cur.ne.add sec' false, q.d24.cur.ne.add sec' false) :=
    hjudged.trans (hboth.trans hcounted)
  rw [State.pmPoint_setPmPoint_same]
  split
  · exact (PmPoint.near_judge_far _ _).trans hmarked
  · exact hmarked

/-! ## The pass over the points -/

/-- What an endpoint carries does not depend on the count of lost records. -/
theorem State.endpoint_lost (t : State) (n : Nat) (source : Bool) (w size : Nat) :
    (t.bump Obj.PM_HIST_LOST n).endpoint source w size = t.endpoint source w size := by
  have hobj (c i m x : Nat) (h : c ≠ 0x52) : (t.bump Obj.PM_HIST_LOST n).obj ⟨c, i, m, x⟩ = t.obj ⟨c, i, m, x⟩ :=
    t.obj_bump_ne n fun g => h (congrArg Key.c g)
  unfold State.endpoint State.flexLegal State.flexSlots State.physOf State.oduForm State.hostSlots State.clientType State.mode
  simp only [hobj 0x11 _ _ _ (by decide), hobj 0x14 _ _ _ (by decide), hobj 0x21 _ _ _ (by decide)]
  rfl

/-- Whether a point is present does not depend on the count of lost records. -/
theorem State.pmPresent_lost (t : State) (n p : Nat) : (t.bump Obj.PM_HIST_LOST n).pmPresent p = t.pmPresent p := by
  unfold State.pmPresent State.assignedPresent State.copyForm
  simp only [State.endpoint_lost]
  rw [t.obj_bump_ne n (by simp)]
  rfl

/-- What the second of point `p` starts from. -/
def State.secondView (p sec : Nat) (t : State) : PmPoint × Bool × Int × Int × Bool :=
  (t.pmPoint p, t.pmPresent p, t.bin15 sec, t.bin24 sec, t.endedDefect p)

theorem State.secondView_raise (p sec : Nat) (t : State) (ev : EvRow) (xs : List Nat) :
    State.secondView p sec (t.raise ev xs) = State.secondView p sec t := rfl

theorem State.secondView_pmClassify {p p' : Nat} (h : p' ≠ p) (sec : Nat) (t : State) (x : PmCount) :
    State.secondView p sec (t.pmClassify p' sec x) = State.secondView p sec t := by
  refine State.pmClassify_keeps (State.secondView p sec) (p := p') ?_ ?_ ?_ t sec x
  · intro t x
    unfold State.secondView
    rw [State.pmPoint_setPmPoint_ne _ _ _ h.symm]
    rfl
  · intro t n
    unfold State.secondView State.bin15 State.bin24
    rw [State.pmPresent_lost, t.obj_bump_ne n (by simp), t.obj_bump_ne n (by simp)]
    rfl
  · exact State.secondView_raise p sec

theorem State.secondView_stepEvents (p sec : Nat) (t : State) : State.secondView p sec t.stepEvents = State.secondView p sec t := by
  unfold State.stepEvents
  refine foldl_keeps (State.secondView p sec) (fun t day => ?_) _ _
  refine foldl_keeps (State.secondView p sec) (fun t k => ?_) _ _
  exact State.secondView_raise p sec _ _ _

theorem State.pmPoint_pmClassify_ne {p p' : Nat} (h : p ≠ p') (sec : Nat) (t : State) (x : PmCount) :
    (t.pmClassify p' sec x).pmPoint p = t.pmPoint p :=
  congrArg Prod.fst (State.secondView_pmClassify h.symm sec t x)

/-- The pass over the points of a second. -/
def State.secondClassified (s : State) (counts : List PmCount) : State :=
  s.pmPoints.foldl (fun t p =>
    t.pmClassify p s.endedSecond ((counts.find? fun x => decide (x.point = p)).getD { point := p })) s.stepEvents

theorem State.pmPoint_secondClassified_absent {p : Nat} (h : p ∉ s.pmPoints) (counts : List PmCount) :
    (s.secondClassified counts).pmPoint p = s.pmPoint p := by
  unfold State.secondClassified
  have hview := State.secondView_stepEvents p s.endedSecond s
  have hstart : s.stepEvents.pmPoint p = s.pmPoint p := by
    simp only [State.secondView, Prod.mk.injEq] at hview
    exact hview.1
  refine List.foldlRecOn (motive := fun t : State => t.pmPoint p = s.pmPoint p) _ _ hstart fun t ht p' hp' => ?_
  exact (State.pmPoint_pmClassify_ne (fun g : p = p' => h (g ▸ hp')) _ t _).trans ht

/-- A present point in signal fail whose bins go on: a severely errored second in both. -/
theorem State.near_secondClassified {p : Nat} (hp : p ∈ s.pmPoints) {q : PmPoint} (hpoint : s.pmPoint p = q) (hq : q ≠ {})
    (h15 : q.m15.cur.k = s.bin15 s.endedSecond) (h24 : q.d24.cur.k = s.bin24 s.endedSecond) (hpresent : s.pmPresent p = true)
    (hdefect : s.endedDefect p = true) (huas : q.ne.uas = false) (hrun : q.ne.run.length < 9) (counts : List PmCount) :
    let sec : PmSec := ⟨q.m15.cur.k, q.d24.cur.k, true, true, 0⟩
    ((s.secondClassified counts).pmPoint p).near = (q.m15.cur.ne.add sec false, q.d24.cur.ne.add sec false) := by
  intro sec
  unfold State.secondClassified
  have hview := State.secondView_stepEvents p s.endedSecond s
  obtain ⟨before, after, hsplit⟩ := List.append_of_mem hp
  have hnodup : (before ++ p :: after).Nodup := hsplit ▸ List.nodup_dedup _
  obtain ⟨-, htail, hapart⟩ := List.nodup_append.1 hnodup
  have hbefore (p' : Nat) (h : p' ∈ before) : p' ≠ p := hapart p' h p List.mem_cons_self
  have hafter (p' : Nat) (h : p' ∈ after) : p ≠ p' := fun g => (List.nodup_cons.1 htail).1 (g ▸ h)
  rw [hsplit, List.foldl_append, List.foldl_cons]
  generalize hu : before.foldl _ s.stepEvents = u
  have huview : State.secondView p s.endedSecond u = State.secondView p s.endedSecond s := hu ▸
    List.foldlRecOn (motive := fun t : State => State.secondView p s.endedSecond t = State.secondView p s.endedSecond s) _ _ hview
      fun t ht p' hp' => (State.secondView_pmClassify (hbefore p' hp') _ t _).trans ht
  simp only [State.secondView, Prod.mk.injEq] at huview
  obtain ⟨gpoint, gpresent, g15, g24, gdefect⟩ := huview
  have hnear := State.pmClassify_near (s := u) (sec := s.endedSecond) (x := (counts.find? fun x => decide (x.point = p)).getD { point := p })
    (gpoint.trans hpoint) hq (h15.trans g15.symm) (h24.trans g24.symm) (gpresent.trans hpresent) (gdefect.trans hdefect) huas hrun
  exact List.foldlRecOn (motive := fun t : State => (t.pmPoint p).near = (q.m15.cur.ne.add sec false, q.d24.cur.ne.add sec false)) _ _ hnear
    fun t ht p' hp' => (congrArg PmPoint.near (State.pmPoint_pmClassify_ne (hafter p' hp') _ t _)).trans ht

/-! ## The commands -/

/-- The second that the coming boundary ends, at that boundary. -/
theorem exec_pmSecond_due {e : State} (he : e = s.closeTick) (h : (e.now + 1) % 800000 = 0) (counts : List PmCount) :
    exec (.pmSecond counts) s = .next (e.atBoundary fun t => t.pmSecond counts) :=
  congrArg Host.Outcome.next (State.comingPart_due he (decide_eq_true h) _)

theorem exec_pmSecond_early {e : State} (he : e = s.closeTick) (h : (e.now + 1) % 800000 ≠ 0) (counts : List PmCount) :
    exec (.pmSecond counts) s = .next s := by
  have hdue : ¬ s.closeTick.secondComes = true := he ▸ fun g => h (of_decide_eq_true g)
  exact congrArg Host.Outcome.next (if_neg hdue)

theorem State.secondEnds_opened (h : (s.now + 1) % 800000 = 0) : s.opened.secondEnds = true := by
  unfold State.secondEnds
  exact Bool.and_eq_true_iff.2 ⟨decide_eq_true (Nat.succ_pos s.now), decide_eq_true h⟩

theorem State.pmSecond_again (h : s.pm.second = some s.now) (counts : List PmCount) : s.pmSecond counts = s := if_pos (Or.inr h)

theorem State.pmSecond_first (h : s.secondEnds = true) (hfirst : s.pm.second ≠ some s.now) (counts : List PmCount) :
    s.pmSecond counts = (s.secondClassified counts).withPm fun m => { m with defectSecond := [], farSecond := [], second := some s.now, suspect := false } :=
  if_neg (not_or.2 ⟨fun g => g h, hfirst⟩)

theorem State.pmPoints_opened (e : State) : e.opened.pmPoints = e.pmPoints := by
  unfold State.pmPoints State.busPoints
  rfl

theorem State.pmPresent_opened (e : State) (p : Nat) : e.opened.pmPresent p = e.pmPresent p := by
  unfold State.pmPresent State.assignedPresent
  rfl

/-- PM_SECOND at a boundary that ends a second not yet classified. -/
theorem exec_pmSecond_first {e : State} (he : e = s.closeTick) (h : (e.now + 1) % 800000 = 0) (hfirst : e.pm.second ≠ some (e.now + 1))
    (counts : List PmCount) : ∃ t : State, exec (.pmSecond counts) s = .next t ∧
      t.pm.second = some (e.now + 1) ∧ t.pm.defectSecond = [] ∧ t.pm.suspect = false ∧ (∀ p, p ∉ e.pmPoints → t.pmPoint p = e.pmPoint p) ∧
      ∀ p ∈ e.pmPoints, let q := e.pmPoint p
        q ≠ {} → q.m15.cur.k = e.bin15 e.endedSecond → q.d24.cur.k = e.bin24 e.endedSecond → e.pmPresent p = true →
        bit (e.endedRecord p) 14 = true → q.ne.uas = false → q.ne.run.length < 9 →
        (t.pmPoint p).near = (q.m15.cur.ne.add ⟨q.m15.cur.k, q.d24.cur.k, true, true, 0⟩ false,
          q.d24.cur.ne.add ⟨q.m15.cur.k, q.d24.cur.k, true, true, 0⟩ false) := by
  rw [← State.pmPoints_opened]
  have habsent (p : Nat) (hp : p ∉ e.opened.pmPoints) : (e.opened.secondClassified counts).pmPoint p = e.opened.pmPoint p :=
    State.pmPoint_secondClassified_absent hp counts
  have hnear (p : Nat) (hp : p ∈ e.opened.pmPoints) {q : PmPoint} (hpoint : e.opened.pmPoint p = q) (hq : q ≠ {})
      (h15 : q.m15.cur.k = e.opened.bin15 e.opened.endedSecond) (h24 : q.d24.cur.k = e.opened.bin24 e.opened.endedSecond)
      (hpresent : e.opened.pmPresent p = true) (hdefect : e.opened.endedDefect p = true) (huas : q.ne.uas = false)
      (hshort : q.ne.run.length < 9) := State.near_secondClassified hp hpoint hq h15 h24 hpresent hdefect huas hshort counts
  have hrun := State.atBoundary_of_opened (s := e) (f := fun t => t.pmSecond counts)
    (State.pmSecond_first (State.secondEnds_opened h) hfirst counts)
  generalize e.opened.secondClassified counts = u at habsent hnear hrun
  refine ⟨_, (exec_pmSecond_due he h counts).trans (congrArg Host.Outcome.next hrun), rfl, rfl, rfl, habsent, ?_⟩
  intro p hp q hq h15 h24 hpresent hsf huas hshort
  have hdefect : e.opened.endedDefect p = true := by
    show (bit (e.endedRecord p) 14 || bit (e.endedRecord p) 13) = true
    rw [hsf, Bool.true_or]
  exact hnear p hp rfl hq h15 h24 ((State.pmPresent_opened e p).trans hpresent) hdefect huas hshort

/-! ## The closing of a bin (R401, R404) -/

theorem PmPoint.bins_setBins (q : PmPoint) (day : Bool) (b : PmBins) : (q.setBins day b).bins day = b := by cases day <;> rfl

/-- The only bin that waits, closed. -/
theorem State.pmClose_one {day : Bool} {p : Nat} {q : PmPoint} {c : Bin} (hpoints : s.pm.points = [(Key.unit p, q)])
    (hc : (q.bins day).closing = some c) (hdue : s.binDue day c = true) :
    s.pmClose day = (s.setPmPoint p (q.setBins day
      { (q.bins day).store s.hbmServes (if day then 7 else 96) (binRecord c false (!(s.pmShape p).2) (decide (p ≤ 4))) with closing := none })).raise
        Ev.PM_BIN [day.toNat, encode 4 c.k] := by
  unfold State.pmClose
  rw [hpoints, List.filterMap_cons, hc]
  dsimp only
  rw [if_pos hdue]
  rfl

theorem exec_pmBinClose_before {day : Bool} (h : s.pm.second ≠ some (s.now + 1)) : exec (.pmBinClose day) s = .next s :=
  congrArg Host.Outcome.next (State.atBoundary_unchanged (f := fun t => if t.pm.second = some t.now then t.pmClose day else t) (if_neg h))

theorem exec_pmBinClose_one {day : Bool} {p : Nat} {q : PmPoint} {c : Bin} (hpoints : s.pm.points = [(Key.unit p, q)])
    (hc : (q.bins day).closing = some c) (hsecond : s.pm.second = some (s.now + 1)) (hdue : s.binDue day c = true) :
    ∃ t : State, exec (.pmBinClose day) s = .next t ∧ ((t.pmPoint p).bins day).closing = none ∧
      (s.hbmServes = true → ((t.pmPoint p).bins day).history =
        (binRecord c false (!(s.pmShape p).2) (decide (p ≤ 4)) :: (q.bins day).history).take (if day then 7 else 96)) ∧
      t.changes = s.changes ++ [⟨Ev.PM_BIN.code, false, s.nextTick, contentOf Ev.PM_BIN.widths [day.toNat, encode 4 c.k]⟩] := by
  have hrun := State.atBoundary_of_opened (s := s) (f := fun t => if t.pm.second = some t.now then t.pmClose day else t)
    ((if_pos hsecond).trans (State.pmClose_one (s := s.opened) hpoints hc hdue))
  refine ⟨_, congrArg Host.Outcome.next hrun, ?_, ?_, rfl⟩
  · show (((s.opened.setPmPoint p _).pmPoint p).bins day).closing = none
    rw [State.pmPoint_setPmPoint_same, PmPoint.bins_setBins]
  · intro hbm
    show (((s.opened.setPmPoint p _).pmPoint p).bins day).history = _
    rw [State.pmPoint_setPmPoint_same, PmPoint.bins_setBins]
    show ((q.bins day).store s.hbmServes _ _).history = _
    rw [hbm]
    rfl

/-! ## A window of signal degrade (R407) -/

theorem State.setSd_eq (t : State) (p : Nat) (on : Bool) (count code : Nat) : ∃ v, t.setSd p on count code =
    let u := (t.setObj (Obj.PM_SD_STATE p) v).setDefect Df.sd p on
    if t.declared Df.sd p = on then u else u.raise Ev.PM_SD [p, on.toNat, code] := ⟨_, rfl⟩

theorem State.declared_setSd (t : State) (p : Nat) (on : Bool) (count code : Nat) : (t.setSd p on count code).declared Df.sd p = on := by
  obtain ⟨v, hv⟩ := t.setSd_eq p on count code
  rw [hv]
  extract_lets u
  have hu : u.declared Df.sd p = on := by
    unfold u
    rw [State.declared_setDefect, if_pos ⟨rfl, rfl⟩]
  split
  · exact hu
  · exact hu

theorem State.pmPoint_setSd (t : State) (p : Nat) (on : Bool) (count code p' : Nat) : (t.setSd p on count code).pmPoint p' = t.pmPoint p' := by
  obtain ⟨v, hv⟩ := t.setSd_eq p on count code
  rw [hv]
  extract_lets u
  have hu : u.pmPoint p' = t.pmPoint p' := by
    unfold u State.setDefect
    split
    · exact State.pmPoint_declare _ _ _ _
    · exact State.pmPoint_clear _ _ _ _
  split
  · exact hu
  · exact hu

theorem State.sdRatio_some (t : State) (p : Nat) (w : SdWindow) : ∃ a b, t.sdRatio p (some w) = some (a, b) := by
  unfold State.sdRatio
  split
  · exact ⟨_, _, rfl⟩
  · exact ⟨_, _, rfl⟩

/-- A window without a defect tick that ends: what it declares. -/
theorem State.sdEnd_clean {p a b : Nat} {x : Option SdWindow} (hdue : s.sdDue p = true) (hclean : (s.pmPoint p).sdDefect = false)
    (hended : s.endedDefect p = false) (hratio : s.sdRatio p x = some (a, b)) :
    let word := profileWord (s.profile p) 1
    let enough := decide (field (profileWord (s.profile p) 3) 7 0 ≤ field (s.obj (Obj.PM_SD_STATE p)) 23 16 + 1)
    ∃ on count code, s.sdEnd p x =
      (s.setPmPoint p { s.pmPoint p with sdStart := s.now, sdDefect := false, sdBase := s.fecTotals p }).setSd p on count code ∧
      on = (ratioAbove a b (field word 15 0) || (s.declared Df.sd p && !(ratioBelow a b (field word 31 16) && enough))) := by
  intro word enough
  unfold State.sdEnd
  rw [if_neg (fun g => g hdue), hratio]
  extract_lets q t on count
  dsimp -zeta only
  extract_lets code
  have hquiet : ¬ (q.sdDefect = true ∨ s.endedDefect p = true) := by
    rw [hended]
    exact fun g => g.elim (fun g => Bool.false_ne_true (hclean.symm.trans g)) Bool.false_ne_true
  rw [if_neg hquiet]
  by_cases habove : ratioAbove a b (field word 15 0) = true
  · exact ⟨_, _, _, if_pos habove, by rw [habove, Bool.true_or]⟩
  rw [if_neg habove, Bool.eq_false_iff.2 habove]
  by_cases hon : s.declared Df.sd p = true
  · rw [if_pos hon, hon]
    by_cases hbelow : ratioBelow a b (field word 31 16) = true
    · rw [if_pos hbelow, hbelow]
      by_cases hcount : field (profileWord (s.profile p) 3) 7 0 ≤ count + 1
      · exact ⟨_, _, _, if_pos hcount, by rw [show enough = true from decide_eq_true hcount]; rfl⟩
      · exact ⟨_, _, _, if_neg hcount, by rw [show enough = false from decide_eq_false hcount]; rfl⟩
    · exact ⟨_, _, _, if_neg hbelow, by rw [Bool.eq_false_iff.2 hbelow]; rfl⟩
  · exact ⟨_, _, _, if_neg hon, by rw [Bool.eq_false_iff.2 hon]; rfl⟩

theorem exec_pmSdWindow_early {e : State} (he : e = s.closeTick) {w : SdWindow} (h : e.windowComes w.point = false) :
    exec (.pmSdWindow w) s = .next s := by
  have hdue : ¬ s.closeTick.windowComes w.point = true := he ▸ fun g => Bool.false_ne_true (h.symm.trans g)
  exact congrArg Host.Outcome.next (if_neg hdue)

theorem exec_pmSdWindow_clean {e : State} (he : e = s.closeTick) {w : SdWindow} (hdue : e.windowComes w.point = true)
    (hclean : (e.pmPoint w.point).sdDefect = false) (hended : e.endedDefect w.point = false) :
    let p := w.point
    let ratio := (e.sdRatio p (some w)).getD (0, 0)
    let word := profileWord (e.profile p) 1
    let enough := decide (field (profileWord (e.profile p) 3) 7 0 ≤ field (e.obj (Obj.PM_SD_STATE p)) 23 16 + 1)
    ∃ t : State, exec (.pmSdWindow w) s = .next t ∧ (t.pmPoint p).sdStart = e.now + 1 ∧
      t.declared Df.sd p =
        (ratioAbove ratio.1 ratio.2 (field word 15 0) || (e.declared Df.sd p && !(ratioBelow ratio.1 ratio.2 (field word 31 16) && enough))) := by
  intro p ratio word enough
  obtain ⟨a, b, hratio⟩ := e.sdRatio_some p w
  have hpair : ratio = (a, b) := congrArg (Option.getD · (0, 0)) hratio
  rw [hpair]
  obtain ⟨on, count, code, hend, hon⟩ := State.sdEnd_clean (s := e.opened) (p := p) hdue hclean hended hratio
  have hrun := State.atBoundary_of_opened (s := e) (f := fun t => t.sdEnd p (some w)) hend
  generalize hmoved : e.opened.setPmPoint p _ = u at hrun
  have hstart : (u.pmPoint p).sdStart = e.now + 1 := by
    rw [← hmoved, State.pmPoint_setPmPoint_same]
    rfl
  have hdeclared := u.declared_setSd p on count code
  have hpoint := u.pmPoint_setSd p on count code p
  generalize u.setSd p on count code = v at hrun hdeclared hpoint
  refine ⟨_, (congrArg Host.Outcome.next (State.comingPart_due he hdue _)).trans (congrArg Host.Outcome.next hrun), ?_, ?_⟩
  · show (v.pmPoint p).sdStart = e.now + 1
    rw [hpoint, hstart]
  · exact hdeclared.trans hon

/-! ## A write of PM_POINT (R398) -/

/-- The parameters that a host-assigned point may have. -/
def pointLegal (p v : Nat) : Prop :=
  1024 ≤ p ∧ pointKind v < 3 ∧ (if pointKind v = 1 then field v 26 24 ≠ 0 ∧ field v 26 24 ≠ 7 else field v 26 24 = 0)

theorem pointLegal_iff (p v : Nat) : pointLegal p v ↔
    ¬ (p < 1024 ∨ 3 ≤ pointKind v ∨ (if pointKind v = 1 then field v 26 24 = 0 ∨ field v 26 24 = 7 else field v 26 24 ≠ 0)) := by
  unfold pointLegal
  split <;> omega

section
variable {t : State} {p : Nat} {v : Val}

/-- The writes of class 0x52 with the rules of a point. -/
theorem acceptPm_of_point {k : Key} (h : k.m = 1) : acceptPm k v t = acceptPoint k v t := by
  unfold acceptPm
  split
  next => rfl
  next g => omega
  next g _ => exact absurd h g

theorem acceptPm_point (p : Nat) (v : Val) (t : State) : acceptPm (Obj.PM_POINT p) v t =
    if pointRest v.v ≠ pointRest (t.latest (Obj.PM_POINT p)) then
      if p < 1024 ∨ 3 ≤ pointKind v.v ∨ (if pointKind v.v = 1 then field v.v 26 24 = 0 ∨ field v.v 26 24 = 7 else field v.v 26 24 ≠ 0) then
        (.range, t)
      else if t.pointUsed p then (.precond, t) else (.ok, t.stage (Obj.PM_POINT p) v.v)
    else (.ok, t.stage (Obj.PM_POINT p) v.v) := by
  rw [acceptPm_of_point rfl]
  unfold acceptPoint
  rfl

theorem acceptPm_point_illegal (h : pointRest v.v ≠ pointRest (t.latest (Obj.PM_POINT p))) (g : ¬ pointLegal p v.v) :
    acceptPm (Obj.PM_POINT p) v t = (.range, t) := by
  rw [acceptPm_point, if_pos h, if_pos (not_not.1 fun n => g ((pointLegal_iff p v.v).2 n))]

theorem acceptPm_point_used (h : pointRest v.v ≠ pointRest (t.latest (Obj.PM_POINT p))) (g : pointLegal p v.v) (hused : t.pointUsed p = true) :
    acceptPm (Obj.PM_POINT p) v t = (.precond, t) := by
  rw [acceptPm_point, if_pos h, if_neg ((pointLegal_iff p v.v).1 g), if_pos hused]

theorem acceptPm_point_free (h : pointRest v.v = pointRest (t.latest (Obj.PM_POINT p)) ∨ (pointLegal p v.v ∧ t.pointUsed p = false)) :
    acceptPm (Obj.PM_POINT p) v t = (.ok, t.stage (Obj.PM_POINT p) v.v) := by
  rw [acceptPm_point]
  by_cases hsame : pointRest v.v = pointRest (t.latest (Obj.PM_POINT p))
  · rw [if_neg (not_not.2 hsame)]
  · obtain ⟨hlegal, hfree⟩ := h.resolve_left hsame
    rw [if_pos hsame, if_neg ((pointLegal_iff p v.v).1 hlegal), if_neg (Bool.eq_false_iff.1 hfree)]

end

end

/-- Settles O49: the pass over the points touches each point once and leaves the others, a defect second counts as severely errored; a waiting bin
that is due closes; a window sets and clears its defect by the ratio; the point writes by their checks. -/
theorem performanceIsCounted : Obligations.PerformanceIsCounted := by
  intro s e
  refine ⟨fun counts h => exec_pmSecond_early rfl h counts, ?_, ?_, ?_, ?_, ?_⟩
  · intro counts h hsecond
    have hsame := State.atBoundary_unchanged (s := e) (f := fun t => t.pmSecond counts) (State.pmSecond_again hsecond counts)
    exact (exec_pmSecond_due rfl h counts).trans (congrArg Host.Outcome.next hsame)
  · intro counts h hfirst
    obtain ⟨t, hrun, hsecond, hdefects, hsuspect, habsent, hnear⟩ := exec_pmSecond_first (e := e) rfl h hfirst counts
    refine ⟨t, hrun, hsecond, hdefects, hsuspect, habsent, ?_⟩
    intro p hp q hq h15 h24 hpresent hsf huas hshort
    have hcounts := hnear p hp hq h15 h24 hpresent hsf huas hshort
    exact ⟨congrArg (fun n => n.1.ses) hcounts, congrArg (fun n => n.2.ses) hcounts⟩
  · intro day p q c hpoints hc
    exact ⟨exec_pmBinClose_before, exec_pmBinClose_one hpoints hc⟩
  · intro w p q word due ratio above below count
    have hcomes : e.windowComes p = decide due := by simp [State.windowComes, due, q]
    refine ⟨fun hdue => exec_pmSdWindow_early rfl (hcomes.trans (decide_eq_false hdue)), fun hdue hclean hended => ?_⟩
    exact exec_pmSdWindow_clean rfl (hcomes.trans (decide_eq_true hdue)) hclean hended
  · intro rq x p val v h u other legal
    refine ⟨fun hother hlegal => ?_, fun hother hlegal hused => ?_, fun hfree => ?_⟩
    · exact congrArg Host.Outcome.next (serveWrite_refused h acceptPm (acceptPm_point_illegal hother hlegal))
    · exact congrArg Host.Outcome.next (serveWrite_refused h acceptPm (acceptPm_point_used hother hlegal hused))
    · exact congrArg Host.Outcome.next (serveWrite_accepted h acceptPm (acceptPm_point_free (hfree.imp_left not_not.1)))

end Sys2Proof.Machine
end

section
/-! PROOFS. What the blocks of a power domain do apart from the domains (O55). -/

namespace Sys2Proof.Machine

/-! ## Work apart from the power domains

What the blocks of a domain do when it leaves On, returns or loses power: the objects of class 0x02 and the runs of the domains stay, and no event
is withdrawn. -/

/-- `t` comes from `s` by work apart from the power domains. -/
structure Apart (s t : State) : Prop where
  now : t.now = s.now
  tick : t.tick = s.tick
  power : t.power = s.power
  changes : s.changes ⊆ t.changes
  obj (k : Key) : k.c = 0x02 → t.obj k = s.obj k

namespace Apart
section
variable {r t u : State}

theorem rfl : Apart r r := ⟨Eq.refl _, Eq.refl _, Eq.refl _, List.Subset.refl _, fun _ _ => Eq.refl _⟩

theorem trans (h : Apart r t) (g : Apart t u) : Apart r u :=
  ⟨g.now.trans h.now, g.tick.trans h.tick, g.power.trans h.power, List.Subset.trans h.changes g.changes, fun k hk => (g.obj k hk).trans (h.obj k hk)⟩

/-- An update that leaves the objects, the events and the domains alone. -/
theorem congr (h : Apart r t) (hn : u.now = t.now) (ht : u.tick = t.tick) (hp : u.power = t.power) (hc : u.changes = t.changes)
    (hr : u.reg = t.reg) : Apart r u :=
  ⟨hn.trans h.now, ht.trans h.tick, hp.trans h.power, hc ▸ h.changes, fun k hk => (congrArg (Map.get (objDefault k) · k) hr).trans (h.obj k hk)⟩

theorem dom (h : Apart r t) (d : Nat) : t.dom d = r.dom d := by
  unfold State.dom
  rw [h.power]

theorem setObj {k : Key} (h : Apart r t) (v : Nat) (hk : k.c ≠ 0x02) : Apart r (t.setObj k v) :=
  ⟨h.now, h.tick, h.power, h.changes, fun k' hk' => (t.obj_setObj_ne v (fun g : k' = k => hk (g ▸ hk'))).trans (h.obj k' hk')⟩

theorem setInt {k : Key} (h : Apart r t) (z : Int) (hk : k.c ≠ 0x02) : Apart r (t.setInt k z) := h.setObj _ hk

theorem bump {k : Key} (h : Apart r t) (n : Nat) (hk : k.c ≠ 0x02) : Apart r (t.bump k n) := h.setObj _ hk

theorem raise (h : Apart r t) (ev : EvRow) (xs : List Nat) : Apart r (t.raise ev xs) :=
  ⟨h.now, h.tick, h.power, fun _ g => List.mem_append_left _ (h.changes g), h.obj⟩

theorem declare (h : Apart r t) (d i : Nat) : Apart r (t.declare d i) :=
  ⟨(by unfold State.declare; split <;> rfl : (t.declare d i).now = t.now).trans h.now,
    (by unfold State.declare; split <;> rfl : (t.declare d i).tick = t.tick).trans h.tick,
    (by unfold State.declare; split <;> rfl : (t.declare d i).power = t.power).trans h.power, List.Subset.trans h.changes (t.changes_declare d i),
    fun k hk => (t.obj_declare d i k).trans (h.obj k hk)⟩

theorem clear (h : Apart r t) (d i : Nat) : Apart r (t.clear d i) :=
  ⟨(by unfold State.clear; split <;> rfl : (t.clear d i).now = t.now).trans h.now,
    (by unfold State.clear; split <;> rfl : (t.clear d i).tick = t.tick).trans h.tick,
    (by unfold State.clear; split <;> rfl : (t.clear d i).power = t.power).trans h.power, List.Subset.trans h.changes (t.changes_clear d i),
    fun k hk => (t.obj_clear d i k).trans (h.obj k hk)⟩

theorem setDefect (h : Apart r t) (d i : Nat) (on : Bool) : Apart r (t.setDefect d i on) := by
  cases on
  · exact h.clear d i
  · exact h.declare d i

theorem withEngine (h : Apart r t) (e : Nat) (f : Engine → Engine) : Apart r (t.withEngine e f) := h.congr (Eq.refl _) (Eq.refl _) (Eq.refl _) (Eq.refl _) (Eq.refl _)
theorem setEngine (h : Apart r t) (e : Nat) (x : Engine) : Apart r (t.setEngine e x) := h.congr (Eq.refl _) (Eq.refl _) (Eq.refl _) (Eq.refl _) (Eq.refl _)
theorem withProt (h : Apart r t) (f : Protection → Protection) : Apart r (t.withProt f) := h.congr (Eq.refl _) (Eq.refl _) (Eq.refl _) (Eq.refl _) (Eq.refl _)

theorem foldl {α : Type} {f : State → α → State} (h : Apart r t) (l : List α) (hf : ∀ u a, Apart r u → Apart r (f u a)) :
    Apart r (l.foldl f t) :=
  List.foldlRecOn (motive := Apart r) l f h fun u hu a _ => hf u a hu

/-! ### References and clients (R346, R168) -/

theorem refreshLevel (h : Apart r t) (n : Nat) : Apart r (t.refreshLevel n) := by
  unfold State.refreshLevel
  extract_lets old new
  split
  · exact h
  · exact (h.setObj _ (by simp)).raise _ _

theorem setRefState (h : Apart r t) (n new : Nat) : Apart r (t.setRefState n new) := by
  unfold State.setRefState
  extract_lets old
  split
  · exact h
  · exact ((h.setObj _ (by simp)).raise _ _).refreshLevel n

theorem freezeTrackers (h : Apart r t) (n : Nat) : Apart r (t.freezeTrackers n) := by
  refine h.foldl _ fun u d hu => ?_
  split
  · exact hu.congr (Eq.refl _) (Eq.refl _) (Eq.refl _) (Eq.refl _) (Eq.refl _)
  · exact hu

theorem failRef (h : Apart r t) (n : Nat) : Apart r (t.failRef n) := by
  unfold State.failRef
  split
  · exact h.congr (Eq.refl _) (Eq.refl _) (Eq.refl _) (Eq.refl _) (Eq.refl _)
  · extract_lets x u
    have hu : Apart r u := by
      unfold u
      split
      · exact h.setObj _ (by simp)
      · exact h
    have hlost : Apart r (u.withRef n fun x => { x with
        lostAt := t.now, xoSince := none, peerSince := none, driftSince := none, cleared := false, inside := 0 }) :=
      hu.congr (Eq.refl _) (Eq.refl _) (Eq.refl _) (Eq.refl _) (Eq.refl _)
    exact (hlost.setRefState n 0).freezeTrackers n

theorem followLane (h : Apart r t) (l : Nat) : Apart r (t.followLane l) := by
  refine h.foldl _ fun u n hu => ?_
  split
  · unfold State.followRef
    split
    · exact hu.failRef n
    · exact hu
  · exact hu

theorem refreshClient (h : Apart r t) (f : Nat) : Apart r (t.refreshClient f) := by
  unfold State.refreshClient
  extract_lets old new u st v x w
  have hv : Apart r v := (h.setObj _ (by simp)).setObj _ (by simp)
  have hw : Apart r w := by
    unfold w
    split
    · exact hv.congr (Eq.refl _) (Eq.refl _) (Eq.refl _) (Eq.refl _) (Eq.refl _)
    · exact hv
  split
  · exact hw
  · exact hw.raise _ _

theorem refreshLaneClient (h : Apart r t) (l : Nat) : Apart r (t.refreshLaneClient l) := by
  unfold State.refreshLaneClient
  split
  · exact h.refreshClient _
  · exact h

theorem setLane (h : Apart r t) (l new : Nat) : Apart r (t.setLane l new) := by
  unfold State.setLane
  extract_lets old u v w
  have hu : Apart r u := by
    unfold u
    split
    · exact h
    · exact (h.setObj _ (by simp)).raise _ _
  have hv : Apart r v := hu.setDefect _ _ _
  have hw : Apart r w := by
    unfold w
    split
    · exact hv.clear _ _
    · exact hv
  exact (hw.followLane l).refreshLaneClient l

theorem refreshPlls (h : Apart r t) (g : Nat) : Apart r (t.refreshPlls g) := by
  unfold State.refreshPlls
  extract_lets
  exact h.setObj _ (by simp)

theorem commitRate (h : Apart r t) (l : Nat) : Apart r (t.commitRate l) := by
  unfold State.commitRate
  exact (h.refreshPlls _).setLane l _

/-! ### Receivers and transmitters (R54, R106, R107) -/

theorem followFixed (h : Apart r t) (e : Nat) : Apart r (t.followFixed e) := by
  unfold State.followFixed
  split
  · exact h.setInt _ (by simp)
  · exact h

theorem storeRx (h : Apart r t) (e : Nat) : Apart r (t.storeRx e) := h.congr (Eq.refl _) (Eq.refl _) (Eq.refl _) (Eq.refl _) (Eq.refl _)

theorem restoreRx (h : Apart r t) (e : Nat) : Apart r (t.restoreRx e) := by
  unfold State.restoreRx
  split
  · exact (((h.setObj _ (by simp)).setObj _ (by simp)).withEngine e _).followFixed e
  · exact h

theorem closeTransient (h : Apart r t) (e : Nat) : Apart r (t.closeTransient e) := by
  unfold State.closeTransient
  extract_lets x u
  have hu : Apart r u := h.setObj _ (by simp)
  split
  · exact h
  · split
    · exact hu
    · exact (hu.setObj _ (by simp)).raise _ _

theorem loseTransient (h : Apart r t) (e : Nat) : Apart r (t.loseTransient e) := by
  unfold State.loseTransient
  extract_lets u
  have hu : Apart r u := h.closeTransient e
  split
  · exact hu.congr (Eq.refl _) (Eq.refl _) (Eq.refl _) (Eq.refl _) (Eq.refl _)
  · exact hu

theorem unbond (h : Apart r t) (e : Nat) : Apart r (t.unbond e) := h.setObj _ (by simp)

theorem leaveLock (h : Apart r t) (e : Nat) : Apart r (t.leaveLock e) := by
  unfold State.leaveLock
  split
  · extract_lets u v
    have hu : Apart r u := ((h.storeRx e).setObj _ (by simp)).loseTransient e
    have hv : Apart r v := ((hu.setObj _ (by simp)).clear _ _).clear _ _
    exact ((hv.withEngine e _).unbond e).failRef e
  · exact h

theorem toOff (h : Apart r t) (e : Nat) : Apart r (t.toOff e) :=
  (((h.leaveLock e).setObj _ (by simp)).clear _ _).withEngine e _

theorem acquire (h : Apart r t) (e cls : Nat) : Apart r (t.acquire e cls) := by
  unfold State.acquire
  extract_lets u v
  have hv : Apart r v := (((h.leaveLock e).setObj _ (by simp)).setObj _ (by simp)).withEngine e _
  split
  · exact hv.restoreRx e
  · exact hv.followFixed e

theorem refreshRx (h : Apart r t) (e : Nat) : Apart r (t.refreshRx e) := by
  unfold State.refreshRx
  split
  · split
    · exact h
    · exact h.toOff e
  · split
    · split
      · exact (h.setObj _ (by simp)).followFixed e
      · exact h.acquire e _
    · exact h

theorem setTxStatus (h : Apart r t) (e b : Nat) (on : Bool) : Apart r (t.setTxStatus e b on) := h.setObj _ (by simp)

theorem refreshTxStatus (h : Apart r t) (e : Nat) : Apart r (t.refreshTxStatus e) := by
  unfold State.refreshTxStatus
  extract_lets mode roll ns held curve used scale u
  exact (((h.withEngine e _).setTxStatus e 1 _).setTxStatus e 2 _).setTxStatus e 3 _

theorem refreshTx (h : Apart r t) (e : Nat) : Apart r (t.refreshTx e) := by
  unfold State.refreshTx
  extract_lets dark x
  split
  · exact h.setEngine e _
  · split
    · exact h.setEngine e _
    · exact h

/-! ### Mirror Merge, PM history, Prism and the Loupe (R309, R404, R213, R396) -/

theorem setMm (h : Apart r t) (m new : Nat) (early : Bool) (delta : Nat) : Apart r (t.setMm m new early delta) := by
  unfold State.setMm
  extract_lets old cause u
  have hu : Apart r u := h.setObj _ (by simp)
  split
  · exact hu
  · exact hu.raise _ _

theorem refreshMm (h : Apart r t) (m : Nat) : Apart r (t.refreshMm m) := by
  unfold State.refreshMm
  extract_lets st
  split
  · exact h
  · split
    · exact h.setMm m _ _ _
    · split
      · exact h.setMm m _ _ _
      · exact h

theorem hbmBack (h : Apart r t) : Apart r t.hbmBack := (h.withProt _).foldl _ fun _ _ hu => hu.refreshMm _

theorem hbmFallback (h : Apart r t) (cause : Nat) : Apart r (t.hbmFallback cause) := by
  unfold State.hbmFallback
  extract_lets u
  have hu : Apart r u := (h.withProt _).raise _ _
  refine hu.foldl _ fun v p hv => ?_
  have hcleared : Apart r (v.withMm (mergeIndex p.2) fun x => { x with framesW := [], framesP := [] }) := hv.withProt _
  exact hcleared.refreshMm _

theorem pmRecover (h : Apart r t) : Apart r t.pmRecover := by
  unfold State.pmRecover
  extract_lets written lost
  refine (h.foldl _ fun u e hu => ?_).bump _ (by simp)
  exact hu.congr (Eq.refl _) (Eq.refl _) (Eq.refl _) (Eq.refl _) (Eq.refl _)

theorem refreshPrism (h : Apart r t) : Apart r t.refreshPrism := h.setObj _ (by simp)

theorem loupeAbort (h : Apart r t) (cause : Nat) : Apart r (t.loupeAbort cause) := by
  unfold State.loupeAbort
  split
  · extract_lets u
    have hu : Apart r u := by
      unfold u
      split
      · exact h.congr (Eq.refl _) (Eq.refl _) (Eq.refl _) (Eq.refl _) (Eq.refl _)
      · exact h
    exact (((hu.setObj _ (by simp)).setObj _ (by simp)).setObj _ (by simp)).raise _ _
  · exact h

end
end Apart
end Sys2Proof.Machine
end

section
/-! PROOFS. A power domain's step, refusal and end of an entry (O55). -/

namespace Sys2Proof.Machine

namespace Apart
section
variable {r t : State}

/-! ### What a domain loses and gets back (R74, R160, R485) -/

theorem resetRo {p : Key → Bool} (h : Apart r t) (hp : ∀ k, k.c = 0x02 → p k = false) : Apart r (t.resetRo p) := by
  refine ⟨h.now, h.tick, h.power, h.changes, fun k hk => (Map.get_filter _ _ _ fun v => ?_).trans (h.obj k hk)⟩
  dsimp only
  rw [hp k hk]
  rfl

theorem withPrism (h : Apart r t) (f : Prism → Prism) : Apart r (t.withPrism f) := h.congr (Eq.refl _) (Eq.refl _) (Eq.refl _) (Eq.refl _) (Eq.refl _)

theorem losePower (h : Apart r t) (d : Nat) : Apart r (t.losePower d) := by
  unfold State.losePower
  split
  · extract_lets u v
    have hu : Apart r u := h.resetRo fun k hk => by simp [hk]
    have hv : Apart r v := (hu.setObj _ (by simp)).setEngine d _
    have hpages : Apart r (v.withStores fun y => { y with pages := y.pages.filter fun e => !decide (e.1.c = 3 + d) }) :=
      hv.congr (Eq.refl _) (Eq.refl _) (Eq.refl _) (Eq.refl _) (Eq.refl _)
    exact hpages.setObj _ (by simp)
  · split
    · exact h.resetRo fun k hk => by simp [hk]
    · split
      · exact (h.resetRo fun k hk => by simp [hk]).withProt _
      · split
        · exact (h.resetRo fun k hk => by simp [hk]).withPrism _
        · exact h

theorem gateClocks (h : Apart r t) (d : Nat) : Apart r (t.gateClocks d) := by
  unfold State.gateClocks
  split
  · exact (h.foldl _ fun u k hu => hu.clear k d).foldl _ fun u a hu => hu.clear Df.smTim _
  · exact h

/-- Apart from its state, a domain that reads ON after an abandoned entry concerns its blocks alone. -/
theorem returnOn (s : State) (d : Nat) : Apart (s.setObj (Obj.PWR_DOM_STATE d) 0) (s.returnOn d none) := by
  unfold State.returnOn
  extract_lets u cnv v w
  have hu : Apart u u := Apart.rfl
  split
  · have hv : Apart u v := hu.setObj _ (by simp)
    have hw : Apart u w := by
      unfold w
      split
      · exact ((hv.setObj _ (by simp)).declare _ _).withEngine _ _
      · split
        · exact hv
        · exact hv.declare _ _
    exact ((hw.refreshTxStatus d).refreshTx d).refreshRx d
  · split
    · exact hu.foldl _ fun x i hx => hx.commitRate _
    · split
      · exact hu.hbmBack.pmRecover
      · split
        · exact hu.refreshPrism
        · exact hu

end
end Apart

section
variable {s : State} {d : Nat}

/-! ## The domains' own updates -/

theorem State.setDomStatus_refused (t : State) (d b : Nat) : t.setDomStatus d 2 0 b = t.setObj (Obj.PWR_DOM_STATUS d) (2 * 2 ^ 28 + b * 2 ^ 16) := by
  unfold State.setDomStatus
  rw [Nat.zero_mul, Nat.add_zero]

/-- The status of an entry that succeeded, as one value. -/
theorem State.setDomStatus_done (t : State) (d passed : Nat) :
    ∃ st, t.setDomStatus d 1 passed 0 = t.setObj (Obj.PWR_DOM_STATUS d) st ∧ st = 2 ^ 28 + passed * 2 ^ 26 :=
  ⟨_, rfl, by rw [Nat.one_mul, Nat.zero_mul, Nat.add_zero]⟩

theorem State.obj_setDomStatus_ne (t : State) (d outcome passed block : Nat) {k : Key} (h : k ≠ Obj.PWR_DOM_STATUS d) :
    (t.setDomStatus d outcome passed block).obj k = t.obj k := State.obj_setObj_ne _ _ h

/-- An entry that is refused: the domain reads ON, its status and event name the block, and its run ends. -/
theorem State.refuseEntry_spec (s : State) (d b : Nat) :
    (s.refuseEntry d b).obj (Obj.PWR_DOM_STATE d) = 0 ∧ (s.refuseEntry d b).obj (Obj.PWR_DOM_STATUS d) = 2 * 2 ^ 28 + b * 2 ^ 16 ∧
    ((s.refuseEntry d b).dom d).step = 0 ∧
    (⟨Ev.PWR_REFUSED.code, false, s.tick, contentOf Ev.PWR_REFUSED.widths [d, b]⟩ : EvRec) ∈ (s.refuseEntry d b).changes := by
  unfold State.refuseEntry
  rw [State.setDomStatus_refused]
  generalize hst : 2 * 2 ^ 28 + b * 2 ^ 16 = st
  extract_lets t u
  have ht := Apart.returnOn ((s.setObj (Obj.PWR_DOM_STATUS d) st).raise Ev.PWR_REFUSED [d, b]) d
  have hstate : u.obj (Obj.PWR_DOM_STATE d) = 0 := (ht.obj _ (by simp)).trans (State.obj_setObj_same _ _ _)
  have hstatus : u.obj (Obj.PWR_DOM_STATUS d) = st :=
    (ht.obj _ (by simp)).trans ((State.obj_setObj_ne _ _ (by simp)).trans (State.obj_setObj_same _ _ _))
  have hdom : (u.dom d).step = 0 := congrArg DomRun.step (State.dom_withDom_same _ _ _)
  have hevent : (⟨Ev.PWR_REFUSED.code, false, s.tick, contentOf Ev.PWR_REFUSED.widths [d, b]⟩ : EvRec) ∈ u.changes :=
    ht.changes List.mem_concat_self
  split
  · refine ⟨(State.obj_setObj_ne _ _ ?_).trans hstate, (State.obj_setObj_ne _ _ (by simp)).trans hstatus, hdom, hevent⟩
    simp
  · exact ⟨hstate, hstatus, hdom, hevent⟩

/-- CRi, which reaches its state with LEi (R485). -/
def State.crReached (t : State) (c target : Nat) : State := ((t.setObj (Obj.PWR_DOM_STATE c) target).setDomStatus c 1 3 0).domEvent c 0 target 1

theorem State.crReached_frame (t : State) (c target d : Nat) :
    ((t.crReached c target).dom d = t.dom d) ∧ t.changes ⊆ (t.crReached c target).changes :=
  ⟨rfl, List.subset_append_left _ _⟩

theorem State.obj_crReached (t : State) {c : Nat} (target : Nat) {k : Key} (h : k ≠ Obj.PWR_DOM_STATE c) (g : k ≠ Obj.PWR_DOM_STATUS c) :
    (t.crReached c target).obj k = t.obj k :=
  (State.obj_setDomStatus_ne _ _ _ _ _ g).trans (State.obj_setObj_ne _ _ h)

/-- An entry that reaches its target: its state and status, the end of its run, and its event (R489, R506). -/
theorem State.reachTarget_spec (s : State) (d : Nat) :
    let target := s.obj (Obj.PWR_DOM_TARGET d)
    (s.reachTarget d).obj (Obj.PWR_DOM_STATE d) = target ∧
    (s.reachTarget d).obj (Obj.PWR_DOM_STATUS d) = 2 ^ 28 + (s.dom d).passed * 2 ^ 26 ∧ ((s.reachTarget d).dom d).step = 0 ∧
    (⟨Ev.PWR_STATE.code, false, s.tick, contentOf Ev.PWR_STATE.widths [d, 0, target, 1]⟩ : EvRec) ∈ (s.reachTarget d).changes := by
  intro target
  unfold State.reachTarget
  extract_lets +onlyGivenNames run off
  have hoff : Apart s off := by
    unfold off
    split
    · exact Apart.rfl.losePower d
    · exact Apart.rfl
  obtain ⟨st, hset, hst⟩ := (off.setObj (Obj.PWR_DOM_STATE d) (s.obj (Obj.PWR_DOM_TARGET d))).setDomStatus_done d run.passed
  rw [hset, ← hst]
  extract_lets t u c
  have hstate : u.obj (Obj.PWR_DOM_STATE d) = target := (State.obj_setObj_ne _ _ (by simp)).trans (State.obj_setObj_same _ _ _)
  have hstatus : u.obj (Obj.PWR_DOM_STATUS d) = st := State.obj_setObj_same _ _ _
  have hdom : (u.dom d).step = 0 := congrArg DomRun.step (State.dom_withDom_same _ _ _)
  have hevent : (⟨Ev.PWR_STATE.code, false, s.tick, contentOf Ev.PWR_STATE.widths [d, 0, target, 1]⟩ : EvRec) ∈ u.changes := by
    have hchanges : u.changes = off.changes ++ [⟨Ev.PWR_STATE.code, false, off.tick, contentOf Ev.PWR_STATE.widths [d, 0, target, 1]⟩] := rfl
    rw [hchanges, hoff.tick]
    exact List.mem_concat_self
  split
  · obtain ⟨gdom, gchanges⟩ := u.crReached_frame c (crTarget target) d
    refine ⟨?_, ?_, (congrArg DomRun.step gdom).trans hdom, gchanges hevent⟩
    · exact (u.obj_crReached _ (by simp [c]) (by simp)).trans hstate
    · exact (u.obj_crReached _ (by simp) (by simp [c])).trans hstatus
  · exact ⟨hstate, hstatus, hdom, hevent⟩

/-- A step of an entry that starts: the run takes it at this tick, and the state stays (R489). -/
theorem State.startStep_spec (s : State) (d step : Nat) :
    ((s.startStep d step).dom d) = { s.dom d with step := step, since := s.now, delaying := none } ∧
    (s.startStep d step).obj (Obj.PWR_DOM_STATE d) = s.obj (Obj.PWR_DOM_STATE d) := by
  unfold State.startStep
  extract_lets t
  have hdom : t.dom d = { s.dom d with step := step, since := s.now, delaying := none } := State.dom_withDom_same _ _ _
  split
  · have hgate : Apart t (t.gateClocks d) := Apart.rfl.gateClocks d
    exact ⟨(hgate.dom d).trans hdom, hgate.obj _ (by simp)⟩
  · split
    · refine ⟨?_, ?_⟩
      · unfold State.holdPads
        split <;> exact hdom
      · unfold State.holdPads
        split
        · exact State.obj_setObj_ne _ _ (by simp)
        · exact Eq.refl _
    · exact ⟨hdom, Eq.refl _⟩

/-! ## A domain's part of a boundary (R489) -/

/-- What a step that ended leaves before the step that follows: its abort point passed. -/
def State.stepPassed (s : State) (d : Nat) : State :=
  let run := s.dom d
  s.withDom d fun x => { x with passed := max run.passed (abortPoint (s.obj (Obj.PWR_DOM_TARGET d)) run.step), delaying := none }

/-- A step of an entry without a wake that has run its length. -/
theorem State.domBoundary_ended (hstep : (s.dom d).step ≠ 0) (hdelay : (s.dom d).delaying = none) (hwake : (s.dom d).wake = none)
    (hon : (s.dom d).on ≠ some s.now) (hlength : (s.dom d).since + stepLength d (s.dom d).step ≤ s.now) :
    ∃ t : State, Apart s t ∧ s.domBoundary d false [] =
      if nextStep d (s.obj (Obj.PWR_DOM_TARGET d)) (s.dom d).step = 0 then
        if (s.dom d).waits then ((t.stepPassed d).reachTarget d).wakeDomain d else (t.stepPassed d).reachTarget d
      else (t.stepPassed d).startStep d (nextStep d (s.obj (Obj.PWR_DOM_TARGET d)) (s.dom d).step) := by
  unfold State.domBoundary
  extract_lets run hbm delayed target ended passed t u v
  have hhbm : Apart s hbm := by
    unfold hbm
    split
    · exact (Apart.rfl.hbmFallback 1).loupeAbort 2
    · exact Apart.rfl
  have hentering : run.entering = true := by simp [DomRun.entering, run, hstep, hwake]
  have hdelayed : delayed = none := by simp [delayed, run, hdelay]
  have hended : ended = true := by simp [ended, hentering, hdelayed, run, hlength]
  have ht : t = hbm.stepPassed d := by
    unfold t State.stepPassed
    extract_lets before
    have hbefore : before = run := hhbm.dom d
    rw [if_pos hentering, hhbm.obj (Obj.PWR_DOM_TARGET d) (by simp), hbefore]
    simp [passed, hended, hdelayed, target]
  have hwoken : v = t := if_neg Bool.false_ne_true
  have hnowake : (t.dom d).wake = none := by
    rw [ht]
    refine (congrArg DomRun.wake (State.dom_withDom_same _ d _)).trans ?_
    exact (congrArg DomRun.wake (hhbm.dom d)).trans hwake
  refine ⟨hbm, hhbm, ?_⟩
  rw [if_neg (by simp [run, hon, hwake]), if_neg (by simp [hdelayed]), ← ht]
  by_cases hnext : nextStep d target run.step = 0
  · rw [if_pos ⟨hended, hnext⟩, if_pos hnext]
    simp [u, run]
  · rw [if_neg (fun g => hnext g.2), if_neg hnext, hwoken, if_pos ⟨hended, Or.inl hnowake⟩]

end
end Sys2Proof.Machine
end

section
/-! PROOFS. The handshake of a SLEEP (O55). -/

namespace Sys2Proof.Machine

section
variable {s : State}

/-! ## Answers (R422) -/

/-- The status of the response that a request has been given, in the mailbox or in its ring slot. -/
def State.answerTo (t : State) (rq : Rq) : Option Nat :=
  (match rq.slot with
    | none => t.bar.response
    | some k => Map.get none t.owed (Key.unit k)).map Response.status

theorem State.answerTo_congr {t u : State} (hb : u.bar.response = t.bar.response) (ho : u.owed = t.owed) (rq : Rq) : u.answerTo rq = t.answerTo rq := by
  unfold State.answerTo
  rw [hb, ho]

theorem State.answerTo_deliver (t : State) (rq : Rq) (op : Nat) (st : Status) (payload : List Fld) :
    (t.deliver rq op st payload).answerTo rq = some st.code := by
  unfold State.answerTo
  cases h : rq.slot with
  | none =>
    rw [t.deliver_mailbox h]
    rfl
  | some k =>
    rw [t.deliver_slot h]
    show Option.map Response.status (Map.get none (Map.set none t.owed (Key.unit k) (some _)) (Key.unit k)) = _
    rw [Map.get_set_same]
    rfl

theorem Apart.deliver {r t : State} (h : Apart r t) (rq : Rq) (op : Nat) (st : Status) (payload : List Fld) : Apart r (t.deliver rq op st payload) := by
  obtain ⟨hframe, -⟩ := t.deliver_frame rq op st payload
  have hnow : (t.deliver rq op st payload).now = t.now := by rw [hframe]
  have htick : (t.deliver rq op st payload).tick = t.tick := by rw [hframe]
  have hpower : (t.deliver rq op st payload).power = t.power := by rw [hframe]
  have hchanges : (t.deliver rq op st payload).changes = t.changes := by rw [hframe]
  refine ⟨hnow.trans h.now, htick.trans h.tick, hpower.trans h.power, hchanges ▸ h.changes, fun k hk => ?_⟩
  refine (t.obj_deliver rq op st payload k).trans ((t.obj_bump_ne _ fun g => ?_).trans (h.obj k hk))
  rw [g] at hk
  exact absurd hk (by simp)

theorem State.changes_deliver (t : State) (rq : Rq) (op : Nat) (st : Status) (payload : List Fld) :
    (t.deliver rq op st payload).changes = t.changes := by
  rw [(t.deliver_frame rq op st payload).1]

/-! ## The handshake (R487) -/

variable {d : Nat} {rq : Rq}

theorem State.answerSleep_asked (h : (s.dom d).request = some rq) (st : Status) :
    s.answerSleep d st = (s.withDom d fun x => { x with request := none }).deliver rq Op.write st [] := by
  unfold State.answerSleep
  rw [h]

/-- The answer of a SLEEP: the status goes out, the request is forgotten, and nothing else of the domains changes. -/
theorem State.answerSleep_spec (h : (s.dom d).request = some rq) (st : Status) :
    (s.answerSleep d st).answerTo rq = some st.code ∧ (s.answerSleep d st).changes = s.changes ∧
    ((s.answerSleep d st).dom d).request = none ∧ ∀ k, k.c = 0x02 → (s.answerSleep d st).obj k = s.obj k := by
  rw [State.answerSleep_asked h]
  have hsent : Apart (s.withDom d fun x => { x with request := none }) _ := Apart.rfl.deliver rq Op.write st []
  refine ⟨State.answerTo_deliver _ _ _ _ _, State.changes_deliver _ _ _ _ _, ?_, hsent.obj⟩
  exact congrArg DomRun.request ((hsent.dom d).trans (State.dom_withDom_same _ _ _))

/-- The run and the objects of a domain whose entry begins. -/
def State.entryBegun (t : State) (d target since : Nat) (delaying : Option Nat) : State :=
  ((t.setObj (Obj.PWR_DOM_STATE d) 4).setObj (Obj.PWR_DOM_TARGET d) target).withDom d fun x =>
    { cnv := x.cnv, step := 1, since := since, delaying := delaying }

theorem State.entryBegun_spec (t : State) (d target since : Nat) (delaying : Option Nat) :
    (t.entryBegun d target since delaying).obj (Obj.PWR_DOM_STATE d) = 4 ∧ (t.entryBegun d target since delaying).obj (Obj.PWR_DOM_TARGET d) = target ∧
    (t.entryBegun d target since delaying).dom d = { cnv := (t.dom d).cnv, step := 1, since := since, delaying := delaying } := by
  refine ⟨?_, State.obj_setObj_same _ _ _, State.dom_withDom_same _ _ _⟩
  exact (State.obj_setObj_ne _ _ (by simp)).trans (State.obj_setObj_same _ _ _)

/-- CRi, whose entry begins with that of LEi (R485). -/
def State.crBegun (t : State) (c target : Nat) : State :=
  ((t.setObj (Obj.PWR_DOM_STATE c) 4).setObj (Obj.PWR_DOM_TARGET c) target).withDom c fun _ => {}

theorem State.crBegun_keeps (t : State) {c d : Nat} (target : Nat) (h : d ≠ c) : (t.crBegun c target).dom d = t.dom d ∧
    (t.crBegun c target).obj (Obj.PWR_DOM_STATE d) = t.obj (Obj.PWR_DOM_STATE d) ∧
    (t.crBegun c target).obj (Obj.PWR_DOM_TARGET d) = t.obj (Obj.PWR_DOM_TARGET d) := by
  refine ⟨State.dom_withDom_ne _ _ _ h, ?_, ?_⟩
  · exact (State.obj_setObj_ne _ _ (by simp)).trans (State.obj_setObj_ne _ _ (by simp [h]))
  · exact (State.obj_setObj_ne _ _ (by simp [h])).trans (State.obj_setObj_ne _ _ (by simp))

/-- An entry that begins: its first step, at this tick, without the request that asked for it. -/
theorem State.beginEntry_spec (s : State) (d target : Nat) (delaying : Option Nat) :
    let t := s.beginEntry d target delaying
    t.obj (Obj.PWR_DOM_STATE d) = 4 ∧ t.obj (Obj.PWR_DOM_TARGET d) = target ∧
    ∃ cnv, t.dom d = { cnv := cnv, step := 1, since := s.now, delaying := delaying } := by
  intro t
  unfold t State.beginEntry
  extract_lets cleared left u
  obtain ⟨hstate, htarget, hdom⟩ := (cleared.leaveOn d).entryBegun_spec d target s.now delaying
  have hu : u = (cleared.leaveOn d).entryBegun d target s.now delaying := rfl
  clear_value u
  subst hu
  split
  · obtain ⟨gdom, gstate, gtarget⟩ := State.crBegun_keeps ((cleared.leaveOn d).entryBegun d target s.now delaying) (c := 12 + d) (d := d)
      (crTarget target) (by omega)
    exact ⟨gstate.trans hstate, gtarget.trans htarget, _, gdom.trans hdom⟩
  · exact ⟨hstate, htarget, _, hdom⟩

/-- The opened state with the domain's due requests taken off the agenda. -/
def State.taken (s : State) (d : Nat) : State :=
  { s with agenda := s.agenda.filter fun p => !(decide (p.boundary ≤ s.now) && match p.due with
    | .domSleep i _ => decide (i = d)
    | .domWake i _ => decide (i = d)
    | _ => false) }

theorem State.domainTurn_sleep {target : Nat} (h : s.dueSleeps.find? (fun y => decide (y.1 = d)) = some (d, target)) (delays : List (Nat × Nat)) :
    s.domainTurn d delays = (s.taken d).handshake d target (s.dueWakes.contains d) delays := by
  unfold State.domainTurn
  rw [h]
  rfl

theorem State.refusing_taken (s : State) (d : Nat) : (s.opened.taken d).refusing d = s.refusing d := rfl

/-- The block that delays an entry: the engine's LSPI transaction, else the one that the input names. -/
theorem State.delayed_named (t : State) (d : Nat) (delaying : Option Nat) : t.delayed d (delaying.map fun b => (d, b)).toList =
    if d < 4 ∧ (t.engine d).lspiBusy = true then some 3 else delaying := by
  unfold State.delayed isLe
  cases delaying <;> simp

variable {i : Fin 20} {target : Nat} {delaying : Option Nat}

/-- The handshake in the tick that the boundary opens. -/
def State.shaken (s : State) (d target : Nat) (delaying : Option Nat) : State :=
  (s.opened.taken d).handshake d target (s.opened.dueWakes.contains d) (delaying.map fun b => (d, b)).toList

theorem exec_handshake_due (h : s.opened.dueSleeps.find? (fun y => decide (y.1 = i.val)) = some (i.val, target)) :
    exec (.domainEntryHandshake i delaying) s = .next { s.shaken i target delaying with now := s.now, tick := s.tick } := by
  have hany : (s.opened.dueSleeps.any fun x => decide (x.1 = i.val)) = true :=
    List.any_eq_true.2 ⟨_, List.mem_of_find?_eq_some h, decide_eq_true (Eq.refl i.val)⟩
  exact congrArg Host.Outcome.next (State.atBoundary_of_opened ((if_pos hany).trans (State.domainTurn_sleep h _)))

theorem exec_handshake_none (h : s.opened.dueSleeps.find? (fun y => decide (y.1 = i.val)) = none) :
    exec (.domainEntryHandshake i delaying) s = .next s := by
  have hany : ¬ (s.opened.dueSleeps.any fun x => decide (x.1 = i.val)) = true := by
    rw [List.any_eq_true]
    rintro ⟨x, hx, hd⟩
    exact List.find?_eq_none.1 h x hx hd
  exact congrArg Host.Outcome.next (State.atBoundary_unchanged (if_neg hany))

/-- A wake in the same tick abandons the SLEEP. -/
theorem State.shaken_woken (hrq : (s.dom d).request = some rq) (h : d ∈ s.opened.dueWakes) :
    (s.shaken d target delaying).answerTo rq = some Status.abandoned.code ∧ (s.shaken d target delaying).changes = s.changes ∧
    (s.shaken d target delaying).obj (Obj.PWR_DOM_STATE d) = s.obj (Obj.PWR_DOM_STATE d) := by
  have hshaken : s.shaken d target delaying = (s.opened.taken d).answerSleep d .abandoned := if_pos (List.contains_iff_mem.2 h)
  obtain ⟨hanswer, hchanges, -, hobj⟩ := State.answerSleep_spec (s := s.opened.taken d) hrq .abandoned
  rw [hshaken]
  exact ⟨hanswer, hchanges, hobj _ (by simp)⟩

/-- A block refuses. -/
theorem State.shaken_refused {b : Nat} (hrq : (s.dom d).request = some rq) (h : d ∉ s.opened.dueWakes) (hstate : s.obj (Obj.PWR_DOM_STATE d) = 0)
    (hblock : s.refusing d = some b) :
    (s.shaken d target delaying).answerTo rq = some Status.precond.code ∧
    (s.shaken d target delaying).changes =
      s.changes ++ [⟨Ev.PWR_REFUSED.code, false, s.nextTick, contentOf Ev.PWR_REFUSED.widths [d, b]⟩] ∧
    (s.shaken d target delaying).obj (Obj.PWR_DOM_STATE d) = 0 ∧
    (s.shaken d target delaying).obj (Obj.PWR_DOM_STATUS d) = 2 * 2 ^ 28 + b * 2 ^ 16 := by
  have hwoken : ¬ s.opened.dueWakes.contains d = true := fun g => h (List.contains_iff_mem.1 g)
  have hon : ¬ (s.opened.taken d).domState d ≠ 0 := not_not.2 hstate
  have hshaken : s.shaken d target delaying =
      (((s.opened.taken d).setDomStatus d 2 0 b).raise Ev.PWR_REFUSED [d, b]).answerSleep d .precond := by
    unfold State.shaken State.handshake
    rw [if_neg hwoken, if_neg hon, State.refusing_taken, hblock]
  rw [hshaken, State.setDomStatus_refused]
  generalize 2 * 2 ^ 28 + b * 2 ^ 16 = st
  obtain ⟨hanswer, hchanges, -, hobj⟩ := State.answerSleep_spec (d := d)
    (s := ((s.opened.taken d).setObj (Obj.PWR_DOM_STATUS d) st).raise Ev.PWR_REFUSED [d, b]) hrq .precond
  refine ⟨hanswer, hchanges, (hobj _ (by simp)).trans ?_, (hobj _ (by simp)).trans (State.obj_setObj_same _ _ _)⟩
  exact (State.obj_setObj_ne _ _ (by simp)).trans hstate

/-- No block refuses: the request is answered and the entry begins. -/
theorem State.shaken_enters (h : d ∉ s.opened.dueWakes) (hstate : s.obj (Obj.PWR_DOM_STATE d) = 0)
    (hblock : s.refusing d = none) :
    (s.shaken d target delaying).obj (Obj.PWR_DOM_STATE d) = 4 ∧ (s.shaken d target delaying).obj (Obj.PWR_DOM_TARGET d) = target ∧
    ∃ cnv, (s.shaken d target delaying).dom d = { cnv := cnv, step := 1, since := s.now + 1
                                                  delaying := if d < 4 ∧ (s.engine d).lspiBusy = true then some 3 else delaying } := by
  have hwoken : ¬ s.opened.dueWakes.contains d = true := fun g => h (List.contains_iff_mem.1 g)
  have hon : ¬ (s.opened.taken d).domState d ≠ 0 := not_not.2 hstate
  have hshaken : s.shaken d target delaying = ((s.opened.taken d).answerSleep d .ok).beginEntry d target
      (if d < 4 ∧ (s.engine d).lspiBusy = true then some 3 else delaying) := by
    unfold State.shaken State.handshake
    rw [if_neg hwoken, if_neg hon, State.refusing_taken, hblock, State.delayed_named]
    rfl
  have hnow : ((s.opened.taken d).answerSleep d .ok).now = s.now + 1 := (State.answerSleep_steady _ d .ok Steady.rfl).now
  rw [hshaken, ← hnow]
  exact State.beginEntry_spec _ d target _

end
end Sys2Proof.Machine
end

section
/-! PROOFS. The boundary parts, wakes and ramps of a power domain (O55). -/

namespace Sys2Proof.Machine

section
variable {s : State} {d : Fin 20}

/-! ## The DELAY and the steps of an entry (R487, R489) -/

theorem exec_entryDelayTimeout_early {b : Nat} (h : (s.dom d).delaying = some b) (hearly : s.now + 1 < (s.dom d).since + 800) :
    exec (.entryDelayTimeout d) s = .next s := by
  refine congrArg Host.Outcome.next (State.atBoundary_unchanged ?_)
  show (match (s.dom d).delaying with
    | some b => if (s.dom d).entering = true ∧ (s.dom d).step = 1 ∧ (s.dom d).since + 800 ≤ s.now + 1 then s.opened.refuseEntry d b else s.opened
    | none => s.opened) = s.opened
  rw [h]
  exact if_neg fun g => absurd g.2.2 (by omega)

theorem exec_entryDelayTimeout_late {b : Nat} (h : (s.dom d).delaying = some b) (hentering : (s.dom d).entering = true) (hstep : (s.dom d).step = 1)
    (hlate : (s.dom d).since + 800 ≤ s.now + 1) :
    exec (.entryDelayTimeout d) s = .next { s.opened.refuseEntry d b with now := s.now, tick := s.tick } := by
  refine congrArg Host.Outcome.next (State.atBoundary_of_opened ?_)
  show (match (s.dom d).delaying with
    | some b => if (s.dom d).entering = true ∧ (s.dom d).step = 1 ∧ (s.dom d).since + 800 ≤ s.now + 1 then s.opened.refuseEntry d b else s.opened
    | none => s.opened) = s.opened.refuseEntry d b
  rw [h]
  exact if_pos ⟨hentering, hstep, hlate⟩

theorem State.domainTurn_alone {t : State} {d : Nat} (hwake : d ∉ t.dueWakes) (hsleep : t.dueSleeps.find? (fun y => decide (y.1 = d)) = none)
    (delays : List (Nat × Nat)) : t.domainTurn d delays = (t.taken d).domBoundary d false delays := by
  have hwoken : t.dueWakes.contains d = false := Bool.eq_false_iff.2 fun g => hwake (List.contains_iff_mem.1 g)
  unfold State.domainTurn
  rw [hsleep, hwoken]
  rfl

theorem exec_entryStepEnd_idle (h : (s.dom d).step = 0) : exec (.domainEntryStepEnd d) s = .next s :=
  congrArg Host.Outcome.next (State.atBoundary_unchanged (if_pos (Or.inl h)))

/-- A step of an entry that has run its length, at the coming boundary. -/
theorem exec_entryStepEnd_ended (hstep : (s.dom d).step ≠ 0) (hdelay : (s.dom d).delaying = none) (hwake : (s.dom d).wake = none)
    (hon : (s.dom d).on ≠ some (s.now + 1)) (hdueWake : d.val ∉ s.opened.dueWakes)
    (hdueSleep : s.opened.dueSleeps.find? (fun y => decide (y.1 = d.val)) = none)
    (hlength : (s.dom d).since + stepLength d (s.dom d).step ≤ s.now + 1) :
    ∃ t : State, Apart (s.opened.taken d) t ∧
      (nextStep d (s.obj (Obj.PWR_DOM_TARGET d)) (s.dom d).step ≠ 0 → exec (.domainEntryStepEnd d) s =
        .next { (t.stepPassed d).startStep d (nextStep d (s.obj (Obj.PWR_DOM_TARGET d)) (s.dom d).step) with now := s.now, tick := s.tick }) ∧
      (nextStep d (s.obj (Obj.PWR_DOM_TARGET d)) (s.dom d).step = 0 → (s.dom d).waits = false →
        exec (.domainEntryStepEnd d) s = .next { (t.stepPassed d).reachTarget d with now := s.now, tick := s.tick }) := by
  have hidle : ¬ ((s.opened.dom d).step = 0 ∨ (s.opened.dom d).delaying.isSome = true) := by
    rintro (g | g)
    · exact hstep g
    · exact absurd ((congrArg Option.isSome hdelay).symm.trans g) (by decide)
  have hturn : (if (s.opened.dom d).step = 0 ∨ (s.opened.dom d).delaying.isSome then s.opened else s.opened.domainTurn d []) =
      (s.opened.taken d).domBoundary d false [] := (if_neg hidle).trans (State.domainTurn_alone hdueWake hdueSleep [])
  obtain ⟨t, ht, hend⟩ := State.domBoundary_ended (s := s.opened.taken d) (d := d) hstep hdelay hwake hon hlength
  refine ⟨t, ht, fun hnext => ?_, fun hnext hwaits => ?_⟩
  · exact congrArg Host.Outcome.next (State.atBoundary_of_opened (hturn.trans (hend.trans (if_neg hnext))))
  · exact congrArg Host.Outcome.next (State.atBoundary_of_opened (hturn.trans (hend.trans ((if_pos hnext).trans
      (if_neg (Bool.eq_false_iff.1 hwaits))))))

/-- What the end of a step keeps for the next one. -/
theorem State.stepPassed_spec {t : State} {d : Nat} (ht : Apart s t) :
    (t.stepPassed d).dom d = { s.dom d with
      passed := max (s.dom d).passed (abortPoint (s.obj (Obj.PWR_DOM_TARGET d)) (s.dom d).step), delaying := none } ∧
    ∀ k, k.c = 0x02 → (t.stepPassed d).obj k = s.obj k := by
  refine ⟨?_, ht.obj⟩
  unfold State.stepPassed
  extract_lets run
  have hrun : run = s.dom d := ht.dom d
  rw [State.dom_withDom_same, ht.dom d, ht.obj (Obj.PWR_DOM_TARGET d) (by simp), hrun]

/-! ## WAKE_N (R490, R504) -/

/-- The wakes that WAKE_N plans in domains of a list. -/
def State.wakesFor (s : State) (l : List Nat) : List Pending :=
  (l.filter fun k => bit (s.obj Obj.PWR_WAKE_MASK) k).map fun k => ⟨s.now + 1, .domWake k true⟩

/-- A wake planned in one domain, where the mask has it. -/
def State.planWake (t : State) (k : Nat) : State := if bit (t.obj Obj.PWR_WAKE_MASK) k then t.plan (t.now + 1) (.domWake k true) else t

theorem State.foldl_planWake (l : List Nat) (s : State) : l.foldl State.planWake s = { s with agenda := s.agenda ++ s.wakesFor l } := by
  induction l generalizing s with
  | nil => exact congrArg (fun a => { s with agenda := a }) (List.append_nil s.agenda).symm
  | cons k l ih =>
    rw [List.foldl_cons, ih]
    unfold State.planWake State.wakesFor
    by_cases h : bit (s.obj Obj.PWR_WAKE_MASK) k = true
    · rw [if_pos h, List.filter_cons_of_pos h, List.map_cons, ← List.singleton_append, ← List.append_assoc]
      rfl
    · rw [if_neg h, List.filter_cons_of_neg h]

theorem State.wakesFor_mem {k : Nat} (hk : k < 19) (hbit : bit (s.obj Obj.PWR_WAKE_MASK) k = true) :
    (⟨s.now + 1, .domWake k true⟩ : Pending) ∈ s.wakesFor (List.range 19) :=
  List.mem_map.2 ⟨k, List.mem_filter.2 ⟨List.mem_range.2 hk, hbit⟩, rfl⟩

/-- The state once WAKE_N has planned its wakes. -/
def State.wakesPlanned (s : State) : State := { s with agenda := s.agenda ++ s.wakesFor (List.range 19) }

theorem exec_wakeNAssert_plain (hready : s.ready = true) (hq : s.power.quiescentBy = none) : exec .wakeNAssert s = .next s.wakesPlanned := by
  refine (if_neg (not_not.2 hready)).trans ?_
  have hplanned : (List.range 19).foldl State.planWake s = s.wakesPlanned := State.foldl_planWake _ s
  unfold State.planWake at hplanned
  have hrest : s.wakesPlanned.power.quiescentBy = none := hq
  simp only [hplanned, hrest]

theorem exec_wakeNAssert_quiescing {rq : Rq} (hready : s.ready = true) (hq : s.power.quiescentBy = some rq) : exec .wakeNAssert s =
    .next ((s.wakesPlanned.withPower fun p => { p with quiescent := 0, quiescentBy := none }).deliver rq Op.write .abandoned []) := by
  refine (if_neg (not_not.2 hready)).trans ?_
  have hplanned : (List.range 19).foldl State.planWake s = s.wakesPlanned := State.foldl_planWake _ s
  unfold State.planWake at hplanned
  have hrest : s.wakesPlanned.power.quiescentBy = some rq := hq
  simp only [hplanned, hrest]

/-! ## Ramps and clocks (R495, R496) -/

/-- The ramp of a domain has run its time. -/
theorem State.ramped_iff (s : State) (d : Nat) :
    s.ramped d = true ↔ ∃ since, s.power.ramp = some (d, since) ∧ (s.dom d).ramping = true ∧ since + switchTicks d ≤ s.now := by
  unfold State.ramped
  split
  next i since h =>
    simp only [h, Option.some.injEq, Prod.mk.injEq, Bool.and_eq_true, decide_eq_true_eq, and_assoc]
    constructor
    · rintro ⟨rfl, hramp, htime⟩
      exact ⟨since, rfl, rfl, hramp, htime⟩
    · rintro ⟨_, rfl, rfl, hramp, htime⟩
      exact ⟨rfl, hramp, htime⟩
  next h => simp [h]

theorem exec_rampDone_early (failed : List (Fin 3)) (h : s.ramped d = false) : exec (.domainRampDone d failed) s = .next s := if_pos h

/-- The banks whose check counts: those of a domain that leaves Retention (R495). -/
def State.failedBanks (s : State) (d : Nat) (failed : List (Fin 3)) : List Nat :=
  if (s.dom d).leaves = 2 then (failed.map (·.val)).filter (· < bankCount d) else []

/-- A retained bank that failed its check is declared, recorded and reinitialised. -/
def State.bankFailed (t : State) (d b : Nat) : State :=
  let u := (t.declare Df.retain (8 * d + b)).setObj (Obj.PWR_RETAIN_FAIL d) (withBit (t.obj (Obj.PWR_RETAIN_FAIL d)) b true)
  if isLe d then
    match b with
    | 0 => u.dropStored d
    | 1 => u.setObj (Obj.CNV_CAL_IMAGE d) (objDefault (Obj.CNV_CAL_IMAGE d))
    | _ => u.withEngine d fun r => { r with fenced := [] }
  else u

/-- The run of a domain whose ramp is done waits for its clocks. -/
def DomRun.rampDone (fromOff : Bool) (x : DomRun) : DomRun := { x with ramping := false, clocking := true, fromOff := fromOff }

theorem exec_rampDone_due (failed : List (Fin 3)) (h : s.ramped d = true) : exec (.domainRampDone d failed) s =
    .next (((s.failedBanks d failed).foldl (fun t b => t.bankFailed d b) s).withDom d
      (DomRun.rampDone (decide (s.failedBanks d failed ≠ [])))).nextRamp :=
  if_neg fun g => Bool.false_ne_true (g.symm.trans h)

/-- What the next ramp leaves: everything but the ramp itself. -/
theorem State.nextRamp_dom (t : State) (d : Nat) : (t.nextRamp).dom d = t.dom d ∧ t.nextRamp = { t with power := t.nextRamp.power } := by
  obtain ⟨ramp, h⟩ := t.nextRamp_frame
  rw [h]
  exact ⟨rfl, rfl⟩

/-- What a failed bank shows: its defect and its bit. -/
theorem State.bankFailed_spec (t : State) (d b : Nat) :
    (∀ i, (t.bankFailed d b).declared Df.retain i = (decide (i = 8 * d + b) || t.declared Df.retain i)) ∧
    (t.bankFailed d b).obj (Obj.PWR_RETAIN_FAIL d) = withBit (t.obj (Obj.PWR_RETAIN_FAIL d)) b true := by
  unfold State.bankFailed
  extract_lets u
  have hu : (∀ i, u.declared Df.retain i = (decide (i = 8 * d + b) || t.declared Df.retain i)) ∧
      u.obj (Obj.PWR_RETAIN_FAIL d) = withBit (t.obj (Obj.PWR_RETAIN_FAIL d)) b true := by
    refine ⟨fun i => ?_, State.obj_setObj_same _ _ _⟩
    refine (State.declared_setObj _ _ _ _ _).trans ((State.declared_declare _ _ _ _ _).trans ?_)
    by_cases hi : i = 8 * d + b <;> simp [hi]
  obtain ⟨hdeclared, hobj⟩ := hu
  split
  · split
    · exact ⟨hdeclared, hobj⟩
    · exact ⟨hdeclared, (State.obj_setObj_ne _ _ (by simp)).trans hobj⟩
    · exact ⟨hdeclared, hobj⟩
  · exact ⟨hdeclared, hobj⟩

/-- A bank that is in the list is declared and recorded at the end. -/
theorem State.banksFailed_spec {l : List Nat} {d b : Nat} (hb : b ∈ l) (s : State) :
    (l.foldl (fun t b => t.bankFailed d b) s).declared Df.retain (8 * d + b) = true ∧
    bit ((l.foldl (fun t b => t.bankFailed d b) s).obj (Obj.PWR_RETAIN_FAIL d)) b = true := by
  refine foldl_reaches (P := fun _ : State => True)
    (Q := fun t : State => t.declared Df.retain (8 * d + b) = true ∧ bit (t.obj (Obj.PWR_RETAIN_FAIL d)) b = true)
    (fun _ _ _ _ => trivial) (fun t _ => ?_) (fun t c ht => ?_) hb trivial
  · obtain ⟨hdeclared, hobj⟩ := t.bankFailed_spec d b
    rw [hdeclared, hobj]
    simp [bit_withBit]
  · obtain ⟨hdeclared, hobj⟩ := t.bankFailed_spec d c
    obtain ⟨gdeclared, gbit⟩ := ht
    rw [hdeclared, hobj, gdeclared, bit_withBit]
    simp [gbit]

/-- The clocks of a domain that waits for them, switched. -/
theorem exec_clockSwitch_waiting (hready : s.ready = true) (h : (s.dom d).clocking = true) : exec (.domainClockSwitch d) s =
    .next ((s.setObj (Obj.PWR_DOM_CLK d) 1).withDom d fun x => { x with clocking := false, on := some (s.now + 1) }) :=
  congrArg Host.Outcome.next ((if_pos hready).trans (if_pos h))

theorem exec_clockSwitch_idle (h : ¬ (s.ready = true ∧ (s.dom d).clocking = true)) : exec (.domainClockSwitch d) s = .next s := by
  refine congrArg Host.Outcome.next ?_
  by_cases hready : s.ready = true
  · exact (if_pos hready).trans (if_neg fun g => h ⟨hready, g⟩)
  · exact if_neg hready

end
end Sys2Proof.Machine
end

section
/-! PROOFS. Power domains: SLEEP, wakes, entry steps, ramps and pads (O55). -/

namespace Sys2Proof.Machine

section
variable {s : State} {d : Fin 20} {rq : Rq} {x : Sender}

/-! ## Writes of PWR_DOM_REQ (R486) -/

/-- Not an earlier write of the domain's PWR_DOM_REQ. -/
def notRequestOf (d : Nat) (p : Pending) : Bool :=
  match p.due with
  | .domSleep i _ => !decide (i = d)
  | .domWake i pin => !(decide (i = d) && !pin)
  | _ => true

/-- The agenda without earlier writes of the domain's PWR_DOM_REQ. -/
def State.requestsDropped (t : State) (d : Nat) : State := { t with agenda := t.agenda.filter (notRequestOf d) }

theorem State.replaceSleep_eq (t : State) (d : Nat) : t.replaceSleep d = (t.requestsDropped d).answerSleep d .ok := rfl

theorem State.answerSleep_none {t : State} {d : Nat} (h : (t.dom d).request = none) (st : Status) : t.answerSleep d st = t := by
  unfold State.answerSleep
  rw [h]

/-- What the answer of a SLEEP leaves. -/
theorem State.answerSleep_keeps (t : State) (d : Nat) (st : Status) : (t.answerSleep d st).agenda = t.agenda ∧ (t.answerSleep d st).now = t.now ∧
    ∀ k, k.c = 0x02 → (t.answerSleep d st).obj k = t.obj k := by
  cases h : (t.dom d).request with
  | none =>
    rw [State.answerSleep_none h]
    exact ⟨rfl, rfl, fun _ _ => rfl⟩
  | some rq =>
    refine ⟨?_, (State.answerSleep_steady t d st Steady.rfl).now, (State.answerSleep_spec h st).2.2.2⟩
    rw [State.answerSleep_asked h, (State.deliver_frame _ rq Op.write st []).1]
    rfl

/-- The answer to an accepted write of PWR_DOM_REQ with 0. -/
theorem exec_pwrDomWake_eq (h : Accepted rq x (Obj.PWR_DOM_REQ d) ⟨2, 0⟩ ⟨2, 0⟩ s) : exec (.pwrDomWake rq d) s = .next (State.answered
    (let u := (s.served rq x).replaceSleep d
      if u.domState d = 0 then u else u.plan (u.now + 1) (.domWake d false)) rq) := by
  obtain ⟨hs, r, hc⟩ := h
  refine congrArg Host.Outcome.next ?_
  unfold serveDomReq
  rw [serve_served hs]
  simp only [hc]
  rfl

/-- A SLEEP accepted: the target, the request that waits, and its handshake on the agenda. -/
def State.sleepAsked (t : State) (rq : Rq) (d target : Nat) : State :=
  (((t.replaceSleep d).setObj (Obj.PWR_DOM_TARGET d) target).withDom d fun x => { x with request := some rq }).plan ((t.replaceSleep d).now + 1)
    (.domSleep d target)

/-- The mailbox stays with the device until a response that is owed. -/
def State.responseOwed (t : State) (rq : Rq) : State := if rq.slot = none then t.withBar fun b => { b with own := true, ready := false } else t

theorem exec_pwrDomSleep_range (h : Accepted rq x (Obj.PWR_DOM_REQ d) ⟨2, 1⟩ ⟨2, 1⟩ s) (g : sleepTarget d (s.obj (Obj.PWR_DOM_TOL d)) = none) :
    exec (.pwrDomSleep rq d) s = .next ((s.served rq x).deliver rq Op.write .range []) := by
  obtain ⟨hs, r, hc⟩ := h
  refine congrArg Host.Outcome.next ?_
  have htol : (s.served rq x).obj (Obj.PWR_DOM_TOL d) = s.obj (Obj.PWR_DOM_TOL d) := s.obj_served_ne rq x (by simp)
  unfold serveDomReq
  rw [serve_served hs]
  simp only [hc, htol, g]
  rfl

theorem exec_pwrDomSleep_precond {target : Nat} (h : Accepted rq x (Obj.PWR_DOM_REQ d) ⟨2, 1⟩ ⟨2, 1⟩ s)
    (g : sleepTarget d (s.obj (Obj.PWR_DOM_TOL d)) = some target) (hstate : s.obj (Obj.PWR_DOM_STATE d) ≠ 0) :
    exec (.pwrDomSleep rq d) s = .next ((s.served rq x).deliver rq Op.write .precond []) := by
  obtain ⟨hs, r, hc⟩ := h
  refine congrArg Host.Outcome.next ?_
  have htol : (s.served rq x).obj (Obj.PWR_DOM_TOL d) = s.obj (Obj.PWR_DOM_TOL d) := s.obj_served_ne rq x (by simp)
  have hon : (s.served rq x).domState d ≠ 0 := fun n => hstate ((s.obj_served_ne rq x (by simp)).symm.trans n)
  unfold serveDomReq
  rw [serve_served hs]
  simp only [hc, htol, g, if_pos hon]
  rfl

theorem exec_pwrDomSleep_on {target : Nat} (h : Accepted rq x (Obj.PWR_DOM_REQ d) ⟨2, 1⟩ ⟨2, 1⟩ s)
    (g : sleepTarget d (s.obj (Obj.PWR_DOM_TOL d)) = some target) (hstate : s.obj (Obj.PWR_DOM_STATE d) = 0) :
    exec (.pwrDomSleep rq d) s = .next (((s.served rq x).sleepAsked rq d target).responseOwed rq) := by
  obtain ⟨hs, r, hc⟩ := h
  refine congrArg Host.Outcome.next ?_
  have htol : (s.served rq x).obj (Obj.PWR_DOM_TOL d) = s.obj (Obj.PWR_DOM_TOL d) := s.obj_served_ne rq x (by simp)
  have hon : ¬ (s.served rq x).domState d ≠ 0 := not_not.2 ((s.obj_served_ne rq x (by simp)).trans hstate)
  unfold serveDomReq
  rw [serve_served hs]
  simp only [hc, htol, g, if_neg hon]
  rfl

/-- Whether a response is owed changes only the mailbox's flags. -/
theorem State.responseOwed_frame (t : State) (rq : Rq) : ∃ b : Bar0, t.responseOwed rq = { t with bar := b } := by
  unfold State.responseOwed
  split
  · exact ⟨_, rfl⟩
  · exact ⟨t.bar, rfl⟩

theorem State.own_responseOwed (t : State) {rq : Rq} (h : rq.slot = none) : (t.responseOwed rq).bar.own = true := by
  rw [State.responseOwed, if_pos h]
  rfl

theorem State.answerTo_responseOwed (t : State) (rq old : Rq) : (t.responseOwed rq).answerTo old = t.answerTo old := by
  unfold State.responseOwed
  split
  · exact State.answerTo_congr rfl rfl old
  · rfl

/-- What an accepted SLEEP leads to: target and request stand, the handshake waits alone, and an earlier SLEEP has been answered. -/
theorem State.sleepAsked_spec (t : State) (rq : Rq) (d target : Nat) :
    (t.sleepAsked rq d target).obj (Obj.PWR_DOM_TARGET d) = target ∧
    (t.sleepAsked rq d target).obj (Obj.PWR_DOM_STATE d) = t.obj (Obj.PWR_DOM_STATE d) ∧
    ((t.sleepAsked rq d target).dom d).request = some rq ∧
    (t.sleepAsked rq d target).agenda = t.agenda.filter (notRequestOf d) ++ [⟨t.now + 1, .domSleep d target⟩] ∧
    ∀ old, (t.dom d).request = some old → (t.sleepAsked rq d target).answerTo old = some Status.ok.code := by
  obtain ⟨hagenda, hnow, hobj⟩ := (t.requestsDropped d).answerSleep_keeps d .ok
  unfold State.sleepAsked
  rw [State.replaceSleep_eq, hnow]
  refine ⟨State.obj_setObj_same _ _ _, ?_, ?_, ?_, fun old hold => ?_⟩
  · exact (State.obj_setObj_ne _ _ (by simp)).trans (hobj _ (by simp))
  · exact congrArg DomRun.request (State.dom_withDom_same (((t.requestsDropped d).answerSleep d .ok).setObj (Obj.PWR_DOM_TARGET d) target) d
      fun x => { x with request := some rq })
  · exact congrArg (· ++ [⟨t.now + 1, .domSleep d target⟩]) hagenda
  · exact (State.answerSleep_spec (s := t.requestsDropped d) hold .ok).1

/-- Only the request just asked puts the domain to sleep. -/
theorem mem_notRequestOf_sleep {l : List Pending} {d b y : Nat} : (⟨b, .domSleep d y⟩ : Pending) ∉ l.filter (notRequestOf d) := by
  intro h
  have hkept := (List.mem_filter.1 h).2
  simp [notRequestOf] at hkept

theorem State.dom_served (s : State) (rq : Rq) (x : Sender) (d : Nat) : (s.served rq x).dom d = s.dom d := by
  unfold State.dom
  rw [State.power_served]

/-- An accepted SLEEP of a domain that is ON. -/
theorem exec_pwrDomSleep_asked {target : Nat} (h : Accepted rq x (Obj.PWR_DOM_REQ d) ⟨2, 1⟩ ⟨2, 1⟩ s)
    (g : sleepTarget d (s.obj (Obj.PWR_DOM_TOL d)) = some target) (hstate : s.obj (Obj.PWR_DOM_STATE d) = 0) :
    ∃ t : State, exec (.pwrDomSleep rq d) s = .next t ∧ t.obj (Obj.PWR_DOM_TARGET d) = target ∧ (t.dom d).request = some rq ∧
      (⟨s.now + 1, .domSleep d target⟩ : Pending) ∈ t.agenda ∧
      (∀ b y, (⟨b, .domSleep d y⟩ : Pending) ∈ t.agenda → y = target ∧ b = s.now + 1) ∧ t.obj (Obj.PWR_DOM_STATE d) = 0 ∧
      (rq.slot = none → t.bar.own = true) ∧ ∀ old, (s.dom d).request = some old → t.answerTo old = some Status.ok.code := by
  obtain ⟨gtarget, gstate, grequest, gagenda, gold⟩ := (s.served rq x).sleepAsked_spec rq d target
  have howed := State.answerTo_responseOwed ((s.served rq x).sleepAsked rq d target) rq
  have hown := State.own_responseOwed ((s.served rq x).sleepAsked rq d target) (rq := rq)
  obtain ⟨b, hframe⟩ := ((s.served rq x).sleepAsked rq d target).responseOwed_frame rq
  have hon : (s.served rq x).obj (Obj.PWR_DOM_STATE d) = 0 := (s.obj_served_ne rq x (by simp)).trans hstate
  have hasked (old : Rq) (hold : (s.dom d).request = some old) := gold old ((congrArg DomRun.request (s.dom_served rq x d)).trans hold)
  rw [s.now_served rq x] at gagenda
  refine ⟨_, exec_pwrDomSleep_on h g hstate, ?_, ?_, ?_, ?_, ?_, hown, fun old hold => (howed old).trans (hasked old hold)⟩
  all_goals rw [hframe]
  · exact gtarget
  · exact grequest
  · exact gagenda ▸ List.mem_append_right _ List.mem_cons_self
  · intro b y hmem
    rcases List.mem_append.1 (gagenda ▸ hmem) with hkept | hnew
    · exact absurd hkept mem_notRequestOf_sleep
    · rw [List.mem_singleton, Pending.mk.injEq, Due.domSleep.injEq] at hnew
      exact ⟨hnew.2.2, hnew.1⟩
  · exact gstate.trans hon

/-- A write of 0 where no SLEEP awaits its answer. -/
theorem exec_pwrDomWake_free (h : Accepted rq x (Obj.PWR_DOM_REQ d) ⟨2, 0⟩ ⟨2, 0⟩ s) (hnone : (s.dom d).request = none) :
    let v := (s.served rq x).requestsDropped d
    exec (.pwrDomWake rq d) s = .next ((if s.obj (Obj.PWR_DOM_STATE d) = 0 then v else v.plan (s.now + 1) (.domWake d false)).answered rq) := by
  intro v
  have hfree : (v.dom d).request = none := (congrArg DomRun.request (s.dom_served rq x d)).trans hnone
  have hreplace : (s.served rq x).replaceSleep d = v := State.answerSleep_none hfree .ok
  have hstate : v.domState d = s.obj (Obj.PWR_DOM_STATE d) := s.obj_served_ne rq x (by simp)
  have hnow : v.now = s.now := s.now_served rq x
  rw [exec_pwrDomWake_eq h, hreplace]
  dsimp only
  rw [hstate, hnow]

/-! ## Pads (R492) -/

/-- A release of pads: they are no longer held, and the lanes of a host group start again (R492). -/
def State.padsReleased (t : State) (d : Nat) : State :=
  if isHg d ∧ t.obj (Obj.PWR_PAD_HELD d) = 1 then
    (List.range 8).foldl (fun u i => u.commitRate (8 * (d - 4) + i)) (t.setObj (Obj.PWR_PAD_HELD d) 0)
  else t.setObj (Obj.PWR_PAD_HELD d) 0

theorem acceptPower_pads (d : Fin 20) (v : Val) (t : State) : acceptPower (Obj.PWR_PAD_RELEASE d) v t =
    if ¬ t.domOn d then (.precond, t) else (.ok, t.padsReleased d) := by
  have hdomain : ¬ 0x100 ≤ d.val := by omega
  unfold acceptPower
  rw [if_neg hdomain, if_pos ⟨rfl, d.isLt⟩]
  rfl

theorem State.obj_padsReleased (t : State) (d : Nat) : (t.padsReleased d).obj (Obj.PWR_PAD_HELD d) = 0 := by
  unfold State.padsReleased
  have hreleased := State.obj_setObj_same t (Obj.PWR_PAD_HELD d) 0
  generalize t.setObj (Obj.PWR_PAD_HELD d) 0 = u at hreleased
  split
  · have hlanes : Apart u ((List.range 8).foldl (fun u i => u.commitRate (8 * (d - 4) + i)) u) :=
      Apart.rfl.foldl _ fun v i hv => hv.commitRate _
    exact (hlanes.obj _ (by simp)).trans hreleased
  · exact hreleased

/-- Outside the host groups only the pads change. -/
theorem State.padsReleased_other (t : State) {d : Nat} (h : d < 4 ∨ 12 ≤ d) : t.padsReleased d = t.setObj (Obj.PWR_PAD_HELD d) 0 := by
  have hgroup : ¬ isHg d = true := by
    unfold isHg
    simp only [Bool.and_eq_true, decide_eq_true_eq]
    omega
  exact if_neg fun g => hgroup g.1

variable {val v : Val}

theorem exec_pwrPadRelease_off (h : Accepted rq x (Obj.PWR_PAD_RELEASE d) val v s) (hoff : s.domOn d = false) :
    exec (.pwrPadRelease rq d val) s = .next ((s.served rq x).deliver rq Op.write .precond []) := by
  have hon : (s.served rq x).domOn d = s.domOn d := congrArg (fun n => decide (n = 0)) (s.obj_served_ne rq x (by simp))
  refine congrArg Host.Outcome.next (serveWrite_refused h acceptPower ?_)
  rw [acceptPower_pads, hon, if_pos (Bool.eq_false_iff.1 hoff)]

theorem exec_pwrPadRelease_on (h : Accepted rq x (Obj.PWR_PAD_RELEASE d) val v s) (hon : s.domOn d = true) :
    exec (.pwrPadRelease rq d val) s = .next (((s.served rq x).padsReleased d).answered rq) := by
  have hserved : (s.served rq x).domOn d = s.domOn d := congrArg (fun n => decide (n = 0)) (s.obj_served_ne rq x (by simp))
  refine congrArg Host.Outcome.next (serveWrite_accepted h acceptPower ?_)
  rw [acceptPower_pads, hserved, if_neg (not_not.2 hon)]

/-! ## The ends of the commands -/

/-- A step ends and the next one starts (R489). -/
theorem exec_entryStepEnd_next (hstep : (s.dom d).step ≠ 0) (hdelay : (s.dom d).delaying = none) (hwake : (s.dom d).wake = none)
    (hon : (s.dom d).on ≠ some (s.now + 1)) (hdueWake : d.val ∉ s.opened.dueWakes)
    (hdueSleep : s.opened.dueSleeps.find? (fun y => decide (y.1 = d.val)) = none)
    (hlength : (s.dom d).since + stepLength d (s.dom d).step ≤ s.now + 1)
    (hnext : nextStep d (s.obj (Obj.PWR_DOM_TARGET d)) (s.dom d).step ≠ 0) : ∃ t : State, exec (.domainEntryStepEnd d) s = .next t ∧
      (t.dom d).step = nextStep d (s.obj (Obj.PWR_DOM_TARGET d)) (s.dom d).step ∧ (t.dom d).since = s.now + 1 ∧
      (t.dom d).passed = max (s.dom d).passed (abortPoint (s.obj (Obj.PWR_DOM_TARGET d)) (s.dom d).step) ∧
      t.obj (Obj.PWR_DOM_STATE d) = s.obj (Obj.PWR_DOM_STATE d) := by
  obtain ⟨t, ht, hend, -⟩ := exec_entryStepEnd_ended hstep hdelay hwake hon hdueWake hdueSleep hlength
  obtain ⟨hdom, hobj⟩ := State.stepPassed_spec ht
  obtain ⟨gdom, gstate⟩ := (t.stepPassed d).startStep_spec d (nextStep d (s.obj (Obj.PWR_DOM_TARGET d)) (s.dom d).step)
  have hnow : (t.stepPassed d).now = s.now + 1 := ht.now
  have hpassed : ((t.stepPassed d).dom d).passed = max (s.dom d).passed (abortPoint (s.obj (Obj.PWR_DOM_TARGET d)) (s.dom d).step) :=
    congrArg DomRun.passed hdom
  refine ⟨_, hend hnext, congrArg DomRun.step gdom, (congrArg DomRun.since gdom).trans hnow, (congrArg DomRun.passed gdom).trans hpassed, ?_⟩
  exact gstate.trans (hobj _ (by simp))

/-- The last step ends and the entry reaches its target (R489). -/
theorem exec_entryStepEnd_last (hstep : (s.dom d).step ≠ 0) (hdelay : (s.dom d).delaying = none) (hwake : (s.dom d).wake = none)
    (hon : (s.dom d).on ≠ some (s.now + 1)) (hdueWake : d.val ∉ s.opened.dueWakes)
    (hdueSleep : s.opened.dueSleeps.find? (fun y => decide (y.1 = d.val)) = none)
    (hlength : (s.dom d).since + stepLength d (s.dom d).step ≤ s.now + 1)
    (hlast : nextStep d (s.obj (Obj.PWR_DOM_TARGET d)) (s.dom d).step = 0) (hwaits : (s.dom d).waits = false) :
    ∃ t : State, exec (.domainEntryStepEnd d) s = .next t ∧ t.obj (Obj.PWR_DOM_STATE d) = s.obj (Obj.PWR_DOM_TARGET d) ∧
      t.obj (Obj.PWR_DOM_STATUS d) =
        2 ^ 28 + max (s.dom d).passed (abortPoint (s.obj (Obj.PWR_DOM_TARGET d)) (s.dom d).step) * 2 ^ 26 ∧ (t.dom d).step = 0 ∧
      ⟨Ev.PWR_STATE.code, false, s.nextTick, contentOf Ev.PWR_STATE.widths [d, 0, s.obj (Obj.PWR_DOM_TARGET d), 1]⟩ ∈ t.changes := by
  obtain ⟨t, ht, -, hend⟩ := exec_entryStepEnd_ended hstep hdelay hwake hon hdueWake hdueSleep hlength
  obtain ⟨hdom, hobj⟩ := State.stepPassed_spec ht
  have hspec := (t.stepPassed d).reachTarget_spec d
  have htick : (t.stepPassed d).tick = s.nextTick := ht.tick
  have htarget : (t.stepPassed d).obj (Obj.PWR_DOM_TARGET d) = s.obj (Obj.PWR_DOM_TARGET d) := hobj _ (by simp)
  have hpassed : ((t.stepPassed d).dom d).passed = max (s.dom d).passed (abortPoint (s.obj (Obj.PWR_DOM_TARGET d)) (s.dom d).step) :=
    congrArg DomRun.passed hdom
  rw [htick, htarget, hpassed] at hspec
  exact ⟨_, hend hlast hwaits, hspec⟩

theorem exec_wakeNAssert_abandons (hready : s.ready = true) (hq : s.power.quiescentBy = some rq) : ∃ t : State, exec .wakeNAssert s = .next t ∧
    t.power.quiescent = 0 ∧ t.power.quiescentBy = none ∧ t.answerTo rq = some Status.abandoned.code := by
  have hsent := Apart.rfl.deliver (r := s.wakesPlanned.withPower fun p => { p with quiescent := 0, quiescentBy := none }) rq Op.write .abandoned []
  exact ⟨_, exec_wakeNAssert_quiescing hready hq, congrArg Power.quiescent hsent.power, congrArg Power.quiescentBy hsent.power,
    State.answerTo_deliver _ _ _ _ _⟩

/-- A ramp is done and no bank has failed. -/
theorem exec_rampDone_clean {failed : List (Fin 3)} (h : s.ramped d = true) (hclean : failed = [] ∨ (s.dom d).leaves ≠ 2) :
    ∃ t : State, exec (.domainRampDone d failed) s = .next t ∧ (t.dom d).ramping = false ∧ (t.dom d).clocking = true ∧
      (t.dom d).fromOff = false ∧ t = { s with power := t.power } := by
  have hbanks : s.failedBanks d failed = [] := by
    unfold State.failedBanks
    rcases hclean with rfl | hleaves
    · exact ite_self _
    · exact if_neg hleaves
  have hrun := exec_rampDone_due failed h
  rw [hbanks] at hrun
  obtain ⟨hdom, hframe⟩ := (s.withDom d (DomRun.rampDone (decide (([] : List Nat) ≠ [])))).nextRamp_dom d
  have hdone := hdom.trans (State.dom_withDom_same s d _)
  refine ⟨_, hrun, congrArg DomRun.ramping hdone, congrArg DomRun.clocking hdone, congrArg DomRun.fromOff hdone, ?_⟩
  exact hframe

/-- A ramp is done and a bank has failed its check. -/
theorem exec_rampDone_failed {failed : List (Fin 3)} {b : Fin 3} (h : s.ramped d = true) (hleaves : (s.dom d).leaves = 2) (hb : b ∈ failed)
    (hbank : b.val < bankCount d) : ∃ t : State, exec (.domainRampDone d failed) s = .next t ∧ (t.dom d).ramping = false ∧
      (t.dom d).clocking = true ∧ (t.dom d).fromOff = true ∧ t.declared Df.retain (8 * d + b) = true ∧
      bit (t.obj (Obj.PWR_RETAIN_FAIL d)) b = true := by
  have hmem : b.val ∈ s.failedBanks d failed := by
    unfold State.failedBanks
    rw [if_pos hleaves]
    exact List.mem_filter.2 ⟨List.mem_map_of_mem hb, decide_eq_true hbank⟩
  have hrun := exec_rampDone_due failed h
  obtain ⟨hdeclared, hbit⟩ := State.banksFailed_spec (d := d) hmem s
  have hsome : decide (s.failedBanks d failed ≠ []) = true := decide_eq_true (List.ne_nil_of_mem hmem)
  rw [hsome] at hrun
  generalize (s.failedBanks d failed).foldl _ s = u at hrun hdeclared hbit
  obtain ⟨hdom, hframe⟩ := (u.withDom d (DomRun.rampDone true)).nextRamp_dom d
  have hdone := hdom.trans (State.dom_withDom_same u d _)
  refine ⟨_, hrun, congrArg DomRun.ramping hdone, congrArg DomRun.clocking hdone, congrArg DomRun.fromOff hdone, ?_, ?_⟩
  · rw [hframe]
    exact hdeclared
  · rw [hframe]
    exact hbit

end

/-- Settles O55: the requests by their checks, the handshake by the wake, the block and the entry, the entry by its delay and its steps, the wakes, ramps
and clocks one by one. -/
theorem domainsSleepAndWake : Obligations.DomainsSleepAndWake := by
  intro d s state run a sent
  refine ⟨?_, ?_, ?_, ?_, ?_, ?_, ?_, ?_, ?_, ?_⟩
  · intro rq x u
    refine ⟨fun h => ⟨exec_pwrDomSleep_range h, fun target htarget => ⟨exec_pwrDomSleep_precond h htarget, exec_pwrDomSleep_asked h htarget⟩⟩, ?_, ?_⟩
    · intro h hnone v
      have hagenda : v = u.requestsDropped d := by
        unfold State.requestsDropped
        rw [show u.agenda = s.agenda from s.agenda_served rq x]
        rfl
      rw [hagenda]
      exact exec_pwrDomWake_free h hnone
    · intro val v h
      refine ⟨exec_pwrPadRelease_off h, fun hon => ⟨_, exec_pwrPadRelease_on h hon, u.obj_padsReleased d, u.padsReleased_other⟩⟩
  · intro rq target delaying hdue hrq
    refine ⟨fun hwoken => ?_, fun b hwoken hstate hblock => ?_, fun hwoken hstate hblock => ?_⟩
    · obtain ⟨hanswer, hchanges, hkept⟩ := State.shaken_woken (delaying := delaying) (target := target) hrq hwoken
      exact ⟨_, exec_handshake_due hdue, hanswer, hkept, hchanges⟩
    · obtain ⟨hanswer, hchanges, hkept, hstatus⟩ := State.shaken_refused (delaying := delaying) (target := target) hrq hwoken hstate hblock
      exact ⟨_, exec_handshake_due hdue, hanswer, hkept, hstatus, hchanges⟩
    · obtain ⟨hfour, htarget, cnv, hdom⟩ := State.shaken_enters (delaying := delaying) (target := target) hwoken hstate hblock
      exact ⟨_, exec_handshake_due hdue, hfour, htarget, congrArg DomRun.step hdom, congrArg DomRun.since hdom, congrArg DomRun.request hdom,
        congrArg DomRun.delaying hdom⟩
  · exact fun hnone delaying => exec_handshake_none hnone
  · intro b hdelay hentering hstep
    refine ⟨exec_entryDelayTimeout_early hdelay, fun hlate => ?_⟩
    obtain ⟨hstate, hstatus, hended, hevent⟩ := s.opened.refuseEntry_spec d b
    exact ⟨_, exec_entryDelayTimeout_late hdelay hentering hstep hlate, hstate, hstatus, hended, hevent⟩
  · intro target passed hstep hdelay hwake hon hdueWake hdueSleep hlength
    exact ⟨exec_entryStepEnd_next hstep hdelay hwake hon hdueWake hdueSleep hlength,
      exec_entryStepEnd_last hstep hdelay hwake hon hdueWake hdueSleep hlength⟩
  · exact exec_entryStepEnd_idle
  · intro hready hq
    exact ⟨_, exec_wakeNAssert_plain hready hq, rfl, fun p hp => List.mem_append_left _ hp,
      fun k hk hbit => List.mem_append_right _ (State.wakesFor_mem hk hbit)⟩
  · exact fun rq => exec_wakeNAssert_abandons
  · intro failed ramped
    have hramped : s.ramped d = true ↔ ramped := s.ramped_iff d
    refine ⟨fun h => exec_rampDone_early failed (Bool.eq_false_iff.2 (mt hramped.1 h)), fun h => exec_rampDone_clean (hramped.2 h), ?_⟩
    exact fun h hleaves b hb hbank => exec_rampDone_failed (hramped.2 h) hleaves hb hbank
  · intro switched
    refine ⟨fun h => ?_, exec_clockSwitch_idle⟩
    have hdom := State.dom_withDom_same (s.setObj (Obj.PWR_DOM_CLK d) 1) d fun x => { x with clocking := false, on := some (s.now + 1) }
    exact ⟨_, exec_clockSwitch_waiting h.1 h.2, State.obj_setObj_same _ _ _, congrArg DomRun.on hdom, congrArg DomRun.clocking hdom,
      fun k hk => State.obj_setObj_ne _ _ hk, rfl⟩

end Sys2Proof.Machine
end
